-- ==== Sys2Proof/Word.lean ====
section
/-! DEFINITION. The word types of the part: 32-bit registers (R443), bytes of memory structures (R12), the 64-bit field time
(R13) and the native 20-bit word (R10). -/

namespace Sys2Proof

/-- A register word (R443). -/
abbrev Word := BitVec 32

/-- A byte of a memory structure (R12). -/
abbrev Byte := BitVec 8

/-- A field time, a 64-bit count of 125 ps ticks that rolls over (R13). -/
abbrev Time := BitVec 64

end Sys2Proof
end

