-- ==== Sys2Proof/Syntax.lean ====
section
/-! DEFINITION. The commands of the part: one constructor per row of spec/opcode_table.json, its operands what comes from outside
(who accesses, values written, measured samples, received frames). -/

namespace Sys2Proof

/-- One tap sum of a correlator channel, or one prompt (R70). -/
structure Tap where
  i : Int
  q : Int
  deriving DecidableEq, Repr

/-- Carrier-phase velocity formed on one antenna port (R94): RMS residual in mm/s, velocity in 0.1 mm/s. -/
structure CpvIn where
  port : Nat
  rms : Nat
  vel : List Int
  deriving DecidableEq, Repr

/-- A baseline's resolution at an epoch (R95): antenna, ambiguities fixed, vector in 0.1 mm (field frame). -/
structure BlIn where
  ant : Nat
  fixed : Bool
  vec : List Int
  deriving DecidableEq, Repr

/-- A hard symbol of a channel (R77) with the field time at which it starts. -/
structure SymIn where
  chan : Nat
  one : Bool
  start : Time
  deriving DecidableEq, Repr

/-- Leap parameters decoded from the navigation message (R46, R78). -/
structure LeapIn where
  leapS : Nat
  leapNext : Nat
  pend : Bool
  leapNow : Bool
  deriving DecidableEq, Repr

/-- Statistics of one stream over 1 ms (R64). -/
structure PwrIn where
  port : Nat
  stream : Nat
  rms : Nat
  clip : Nat
  deriving DecidableEq, Repr

/-- What a 1 ms measurement epoch takes from the correlator array beside the NCO states (R77, R94, R95). -/
structure EpochIn where
  cpv : List CpvIn
  baselines : List BlIn
  pwr : List PwrIn
  leap : Option LeapIn
  symbols : List SymIn
  deriving DecidableEq, Repr

/-- A fix (R91, FIX command of Table 13.2). -/
structure FixIn where
  stamp : Time
  e : Int
  n : Int
  u : Int
  rad : Nat
  qual : Nat
  ant : Nat
  hdg : Option (Nat × Nat)
  deriving DecidableEq, Repr

/-- A current and voltage sample of a valve channel (R187). -/
structure Sample where
  i : Int
  v : Int
  deriving DecidableEq, Repr

/-- The payload of IDENT (Table 8.3). -/
structure IdentIn where
  vendor : Nat
  product : Nat
  serial : Nat
  outlets : Nat
  qdepth : Nat
  winMax : Nat
  caps : Nat
  deriving DecidableEq, Repr

/-- The payload of STATUS (Table 8.3). -/
structure StatusIn where
  state : Nat
  cycle : Nat
  rxErr : Nat
  flags : Nat
  deriving DecidableEq, Repr

/-- The payload of SEAL (Table 8.3): sequence number of the edge, outlet, code, S as FT[39:0]. -/
structure SealIn where
  seq : Nat
  out : Nat
  code : Nat
  seat : Nat
  deriving DecidableEq, Repr

/-- How an inbound link frame came (R214, R216, R217): bad symbols in it, symbol times from SOF to EOF, its check value. -/
structure LinkRx where
  code : Nat
  symbols : Nat
  check : Nat
  deriving DecidableEq, Repr

/-- What an inbound barrier frame reports of an output (Table 11.1): current in mA, voltage in 10 mV, its limit active. -/
structure OutReport where
  out : Nat
  ma : Int
  cv : Int
  limit : Bool
  deriving DecidableEq, Repr

/-- An inbound barrier frame as it arrives (R288): its check, its SEQ, VFIELD in 10 mV, output reports; levels and edges come from the
field side itself. -/
structure BarrierIn where
  ok : Bool
  seq : Nat
  vfield : Int
  outs : List OutReport
  deriving DecidableEq, Repr

/-- One input's sample at a window end (R292): the level at the land, and the window current in µA. -/
structure FieldSample where
  level : Bool
  ua : Nat
  deriving DecidableEq, Repr

/-- A bus frame as received (R313); `sof` is the time of the sample point of its SOF. -/
structure BusFrame where
  id : Nat
  ide : Bool
  fdf : Bool
  brs : Bool
  esi : Bool
  rtr : Bool
  dlc : Nat
  data : List Byte
  sof : Time
  deriving DecidableEq, Repr

/-- How a transmission ended (R318): sent with its SOF, arbitration lost, or broken by an error. -/
inductive TxResult where
  | sent (sof : Time)
  | lost
  | error
  deriving DecidableEq, Repr

/-- A bus error (R327): the error code of BP_ERRLOG, its phase, whether an own transmission or own reference was hit, whether it fell in a
reference's TAG bytes (R322), whether it is a protocol exception (Table 12.1), and what the fault confinement of ISO 11898-1 sees of it:
one of its exceptions that leaves the transmit counter alone, and its further steps of 8. -/
structure BusErr where
  lec : Nat
  dataPhase : Bool
  ownTx : Bool
  ownRef : Bool
  inTag : Bool
  exception : Bool
  spared : Bool
  more : Nat
  deriving DecidableEq, Repr

/-- An error a scrub pass finds (R390): word address, place and copy as RES_ECCLOG codes them, whether it is uncorrectable, and the unit
of the memory it lies in (a bank, a tile slot, a region of the retained store, a slot of it). -/
structure ScrubIn where
  addr : Nat
  place : Nat
  copy : Nat
  bad : Bool
  unit : Nat
  deriving DecidableEq, Repr

/-- The commands, in the table's order; each docstring names the row and its rule. -/
inductive Instr where
  /-- REGISTER_WRITE (R7). -/
  | registerWrite (port addr : Nat) (value : Word)
  /-- CLEARING_READ (R7). -/
  | clearingRead (port addr : Nat)
  /-- LATCHING_READ (R11). -/
  | latchingRead (port addr : Nat)
  /-- VBAT_POWER_ON (R403). -/
  | vbatPowerOn
  /-- RESET_RELEASE (R405). -/
  | resetRelease (laneA laneB : Bool)
  /-- RESET_N_LOW (R405). -/
  | resetNLow
  /-- READY (R406). -/
  | ready
  /-- PG_START_TIMEOUT (R408). -/
  | pgStartTimeout (pg : Nat)
  /-- PG_LOST (R408). -/
  | pgLost (pg : Nat)
  /-- BROWN_OUT (R412). -/
  | brownOut
  /-- BROWN_OUT_SAVE_DONE (R413). -/
  | brownOutSaveDone (held : Bool)
  /-- BROWN_OUT_RECOVERED (R410). -/
  | brownOutRecovered
  /-- SLEEP (R421). -/
  | sleep (port : Nat)
  /-- STATE_BANK_SAVE (R415). -/
  | stateBankSave (port : Nat)
  /-- WAKE (R422). -/
  | wake (source port : Nat)
  /-- LD_REWRITE (R417). -/
  | ldRewrite
  /-- RTC_SET (R423). -/
  | rtcSet
  /-- REFIN_LOST (R37). -/
  | refinLost
  /-- REFIN_ACTIVE (R37): rising edges seen within 10 µs, and their frequency in Hz measured against IOSC. -/
  | refinActive (edges freq : Nat)
  /-- PLL_LOCK (R39). -/
  | pllLock
  /-- REFIN_START_TIMEOUT (R39). -/
  | refinStartTimeout
  /-- HOLDOVER_TIMEOUT (R39). -/
  | holdoverTimeout
  /-- DISCIPLINE_UPDATE (R43). -/
  | disciplineUpdate (yGnss ySync : Int) (gnssTime : Time)
  /-- DRIFT_COMPLIANCE (R44). -/
  | driftCompliance
  /-- DRIFT_ACCEPT (R44). -/
  | driftAccept (port : Nat)
  /-- AUTO_RETURN_SET (R39). -/
  | autoReturnSet (port : Nat)
  /-- GNSS_OFS_WRITE (R45). -/
  | gnssOfsWrite (port : Nat) (value : Word)
  /-- CAL_SET (R46). -/
  | calSet (port : Nat) (value : Word)
  /-- FRAME_START (R48). -/
  | frameStart
  /-- FRM_CFG_WRITE (R51). -/
  | frmCfgWrite (port : Nat) (value : Word)
  /-- SYNCIN_PULSE (R54). -/
  | syncinPulse (capture : Time)
  /-- SYNC_LOST (R54). -/
  | syncLost
  /-- REFOUT_REENABLE (R55). -/
  | refoutReenable
  /-- AS_TRAIN (R63). -/
  | asTrain (port n : Nat) (value : Word)
  /-- AS_PORT_LOST (R63). -/
  | asPortLost (n : Nat)
  /-- CH_START_SEARCH (R73). -/
  | chStartSearch (port n : Nat)
  /-- CH_START_AIDED (R73). -/
  | chStartAided (port n : Nat)
  /-- CH_STOP (R73). -/
  | chStop (port n : Nat)
  /-- INTEGRATION_PERIOD_END (R75). -/
  | integrationPeriodEnd (n : Nat) (sums : List Tap) (sync neg : Bool)
  /-- PULLIN_TIMEOUT (R73). -/
  | pullinTimeout (n : Nat)
  /-- CN0_LOW_TIMEOUT (R73). -/
  | cn0LowTimeout (n : Nat)
  /-- LOST_TIMEOUT (R73). -/
  | lostTimeout (n : Nat)
  /-- MEASUREMENT_EPOCH (R76). -/
  | measurementEpoch (m : EpochIn)
  /-- BANK_FAULT (R79). -/
  | bankFault (b : Nat)
  /-- CODE_DATA_ACCESS (R66). -/
  | codeDataAccess (port : Nat) (write : Option Word)
  /-- AID_DATA_ACCESS (R82). -/
  | aidDataAccess (port : Nat) (write : Option Word)
  /-- GNSS_RETAINED_SAVE (R82). -/
  | gnssRetainedSave
  /-- POSE_EPOCH (R101). -/
  | poseEpoch
  /-- POSE_EN_WRITE (R90). -/
  | poseEnWrite (port : Nat) (value : Word)
  /-- FIX_GO (R92). -/
  | fixGo (port : Nat) (value : Word)
  /-- FIX_LOST (R109). -/
  | fixLost
  /-- IMU_MAX_EXPIRY (R90). -/
  | imuMaxExpiry
  /-- IMU_TRANSFER (R97). -/
  | imuTransfer (m : Nat) (ready : Bool) (bytes : List Byte) (trigger : Time)
  /-- IMU_DISAGREE (R99). -/
  | imuDisagree
  /-- SPEED_TIMEOUT (R100). -/
  | speedTimeout
  /-- SEG_HOST_UNC_WRITE (R106). -/
  | segHostUncWrite (port s : Nat) (value : Word)
  /-- DEFL_HOLD_EXPIRY (R108). -/
  | deflHoldExpiry (s : Nat)
  /-- TILE_LOAD (R125). -/
  | tileLoad (port s : Nat)
  /-- TILE_FILL_DONE (R125). -/
  | tileFillDone (s : Nat)
  /-- TILE_COMMIT (R124). -/
  | tileCommit (port s : Nat)
  /-- TILE_EVICT (R127). -/
  | tileEvict (port s : Nat) (force : Bool)
  /-- TILE_SWAP_MERGE_DONE (R126). -/
  | tileSwapMergeDone (s : Nat)
  /-- TILE_APERTURE_WRITE (R128). -/
  | tileApertureWrite (port offset : Nat) (bytes : List Byte)
  /-- TILE_DIRTY_READ (R129). -/
  | tileDirtyRead (port s : Nat)
  /-- RATE_TABLE_COMMIT (R123). -/
  | rateTableCommit (port : Nat) (value : Word)
  /-- PAINTER_RUN (R133). -/
  | painterRun
  /-- PATH_COMMIT (R143). -/
  | pathCommit (port : Nat) (value : Word)
  /-- COMMIT_PASS (R156). -/
  | commitPass
  /-- PREFLUX_START (R185). -/
  | prefluxStart (entry : Nat)
  /-- EVENT_FIRE (R24). -/
  | eventFire (entry : Nat)
  /-- VALVE_SEAL (R188). -/
  | valveSeal (n : Nat) (samples : List Sample)
  /-- PHASE_END (R180). -/
  | phaseEnd (n : Nat) (peak now : Int)
  /-- OVER_CURRENT (R194). -/
  | overCurrent (n : Nat)
  /-- MOD_OFF_EDGE (R201). -/
  | modOffEdge (n : Nat)
  /-- MOD_ON_EDGE (R201). -/
  | modOnEdge (n : Nat)
  /-- SENSE_CONTINUITY_TEST (R193). -/
  | senseContinuityTest (n : Nat) (mv : Int)
  /-- DUTY_WINDOW_UPDATE (R195). -/
  | dutyWindowUpdate (n : Nat) (samples : List Int) (mv : Int)
  /-- CH_UNLATCH (R186). -/
  | chUnlatch (port n : Nat)
  /-- GATE_COMP_MEASURE (R184). -/
  | gateCompMeasure (die lambda : Nat)
  /-- BST_SET_WRITE (R197). -/
  | bstSetWrite (port b : Nat) (value : Word) (meas : Nat)
  /-- BST_EN_WRITE (R196). -/
  | bstEnWrite (port b : Nat) (value : Word) (meas : Nat)
  /-- BOOST_REF_STEP (R197). -/
  | boostRefStep (b meas : Nat)
  /-- BST_OV (R198). -/
  | bstOv (b : Nat)
  /-- BST_LOW (R198). -/
  | bstLow (b : Nat)
  /-- LOADALL (R202). -/
  | loadall (port k : Nat) (value : Word)
  /-- LOADALL_AUX (R202). -/
  | loadallAux (port : Nat) (value : Word)
  /-- TRIP_ASSERT (R204). -/
  | tripAssert (t held : Nat)
  /-- TRIP_DEASSERT (R204). -/
  | tripDeassert (t : Nat)
  /-- TRIP_CLEAR (R204). -/
  | tripClear (port t : Nat)
  /-- STOP_N_LOW (R27). -/
  | stopNLow
  /-- STOP_N_HIGH (R398). -/
  | stopNHigh
  /-- DEBUG_HALT (R468). -/
  | debugHalt
  /-- DEBUG_RESUME (R208). -/
  | debugResume
  /-- EXTEST (R468). -/
  | extest
  /-- DIE_PATH_LOST (R391). -/
  | diePathLost (d path : Nat)
  /-- DIE_LINK_LOST (R391). -/
  | dieLinkLost (d : Nat)
  /-- LINK_CYCLE (R218). -/
  | linkCycle (l : Nat)
  /-- ENUM_CHAIN_END (R223). -/
  | enumChainEnd (l : Nat)
  /-- IDENT (R223). -/
  | ident (l p : Nat) (f : IdentIn) (w : LinkRx)
  /-- PONG (R225). -/
  | pong (l p turn : Nat) (rx : Time) (w : LinkRx)
  /-- STATUS (R238). -/
  | status (l p : Nat) (f : StatusIn) (w : LinkRx)
  /-- ACK (R228). -/
  | ack (l p seq pending : Nat) (w : LinkRx)
  /-- REJECT (R227). -/
  | reject (l p seq reason : Nat) (w : LinkRx)
  /-- SEAL (R232). -/
  | sealFrame (l p : Nat) (f : SealIn) (w : LinkRx)
  /-- DIAG (R234). -/
  | diag (l p out fault value : Nat) (w : LinkRx)
  /-- LINK_RETRY (R228). -/
  | linkRetry (l p : Nat)
  /-- NO_REPORT_TIMEOUT (R233). -/
  | noReportTimeout (entry : Nat)
  /-- NODE_LOST (R238). -/
  | nodeLost (l p : Nat)
  /-- ND_ACCEPT (R223). -/
  | ndAccept (port l p : Nat)
  /-- ND_REMOVE (R237). -/
  | ndRemove (port l p : Nat)
  /-- ND_RESET (R243). -/
  | ndReset (port l p : Nat)
  /-- ND_RESYNC (R239). -/
  | ndResync (port l p : Nat)
  /-- SLOT_RUN (R249). -/
  | slotRun (s : Nat) (trigger : Time)
  /-- SL_EN_WRITE (R245). -/
  | slEnWrite (port s : Nat) (value : Word)
  /-- COEF_COMMIT (R259). -/
  | coefCommit (port s : Nat)
  /-- CLR_STATE (R267). -/
  | clrState (port s : Nat)
  /-- TB_COMMIT (R257). -/
  | tbCommit (port : Nat) (value : Word)
  /-- INPUT_TIMEOUT (R262). -/
  | inputTimeout (s p : Nat)
  /-- TEST_GEN_RUN (R260). -/
  | testGenRun (port c : Nat) (value : Word)
  /-- CAPTURE_ARM (R261). -/
  | captureArm (port c : Nat) (value : Word)
  /-- LS_THERMAL_SHUTDOWN (R274). -/
  | lsThermalShutdown (n : Nat) (tj : Int)
  /-- LS_UNLATCH (R274). -/
  | lsUnlatch (port n : Nat) (tj : Int)
  /-- LS_UNLOCK (R277). -/
  | lsUnlock (port n : Nat)
  /-- INRUSH_EPISODE (R275). -/
  | inrushEpisode (n : Nat)
  /-- INRUSH_RETRY (R275). -/
  | inrushRetry (n : Nat)
  /-- LS_OPEN_LOAD (R276). -/
  | lsOpenLoad (n : Nat) (ma : Int)
  /-- CLAMP_END (R277). -/
  | clampEnd (n : Nat) (samples : List Sample)
  /-- CLAMP_LEAK (R277). -/
  | clampLeak
  /-- VBAT_UNDERVOLTAGE (R278). -/
  | vbatUndervoltage
  /-- VBAT_OVERVOLTAGE (R278). -/
  | vbatOvervoltage
  /-- OVERVOLTAGE_RECOVERY (R278). -/
  | overvoltageRecovery
  /-- REVERSE_BATTERY (R278). -/
  | reverseBattery
  /-- LOSS_OF_GROUND (R278). -/
  | lossOfGround
  /-- SWITCH_CHECK (R279). -/
  | switchCheck (entry : Nat) (mv ma vbat : Int)
  /-- HEARTBEAT (R282). -/
  | heartbeat
  /-- WD_EXPIRY (R282). -/
  | wdExpiry
  /-- LIMP_N_CHANGE (R283). -/
  | limpNChange (low : Bool)
  /-- LHIN_CHANGE (R283). -/
  | lhinChange (pin : Nat) (level : Bool)
  /-- BARRIER_OUTBOUND_FRAME (R288). -/
  | barrierOutboundFrame (ok : Bool)
  /-- BARRIER_INBOUND_FRAME (R288). -/
  | barrierInboundFrame (f : BarrierIn)
  /-- BARRIER_TIMEOUT (R290). -/
  | barrierTimeout
  /-- FIELD_SILENCE (R290). -/
  | fieldSilence
  /-- INPUT_SAMPLE (R292). -/
  | inputSample (g : Nat) (samples : List FieldSample)
  /-- OUTPUT_OVERLOAD (R300). -/
  | outputOverload (m : Nat)
  /-- OUTPUT_OVERLOAD_RESTART (R300). -/
  | outputOverloadRestart (m : Nat)
  /-- OUTPUT_OVERTEMP (R300). -/
  | outputOvertemp (m : Nat)
  /-- OUTPUT_OPEN_WIRE (R300). -/
  | outputOpenWire (m : Nat) (ua mv : Int)
  /-- FO_UNLATCH (R300). -/
  | foUnlatch (port m : Nat)
  /-- VFIELD_UNDERVOLTAGE (R299). -/
  | vfieldUndervoltage
  /-- FIELD_OUTPUT_CHECK (R301). -/
  | fieldOutputCheck (entry : Nat) (mv ma vfield : Int)
  /-- INPUT_WAKE_EDGE (R306). -/
  | inputWakeEdge (n : Nat)
  /-- BUS_FRAME_RECEIVED (R313). -/
  | busFrameReceived (port : Nat) (f : BusFrame)
  /-- SCHEDULE_WINDOW (R318). -/
  | scheduleWindow (port w : Nat)
  /-- BUS_TX_DONE (R318). -/
  | busTxDone (port : Nat) (result : TxResult)
  /-- BUS_ERROR (R327). -/
  | busError (port : Nat) (e : BusErr)
  /-- BUS_INTEGRATION_DONE (R312). -/
  | busIntegrationDone (port : Nat)
  /-- BUS_RECOVERY_DONE (R312). -/
  | busRecoveryDone (port : Nat)
  /-- REF_TIMEOUT (R321). -/
  | refTimeout (port : Nat)
  /-- BP_MODE_WRITE (R312). -/
  | bpModeWrite (port n : Nat) (value : Word)
  /-- BP_RECOVER (R312). -/
  | bpRecover (port n : Nat)
  /-- BV_CAPTURE (R315). -/
  | bvCapture (port v : Nat) (value : Word)
  /-- BV_COMMIT (R316). -/
  | bvCommit (port v : Nat) (value : Word)
  /-- BV_ENQUEUE (R323). -/
  | bvEnqueue (port v : Nat) (value : Word)
  /-- BUS_WAKE_FRAME (R330). -/
  | busWakeFrame (port : Nat) (f : BusFrame)
  /-- SQ_TAIL_WRITE (R341). -/
  | sqTailWrite (ctx : Nat) (value : Word)
  /-- NOP (R342). -/
  | nop (ctx tag flags : Nat)
  /-- REG_WRITE (R342). -/
  | regWrite (ctx tag flags offset : Nat) (value mask : Word)
  /-- REG_READ (R342). -/
  | regRead (ctx tag flags offset : Nat)
  /-- EDGE (R162). -/
  | edge (ctx tag flags outlet kind : Nat) (due : Time) (rate : Nat)
  /-- CLAIM (R350). -/
  | claim (ctx tag flags first count mode : Nat)
  /-- RELEASE (R350). -/
  | release (ctx tag flags first count : Nat)
  /-- INHIBIT (R351). -/
  | inhibit (ctx tag flags first count : Nat)
  /-- INHIBIT_LIFT (R351). -/
  | inhibitLift (ctx tag flags first count : Nat)
  /-- OVERRIDE_WITHDRAW (R352). -/
  | overrideWithdraw (ctx tag flags first count : Nat) (since : Time)
  /-- OVERRIDE_TAKE (R352). -/
  | overrideTake (ctx tag flags first count mode target : Nat)
  /-- OVERRIDE_LIFT (R352). -/
  | overrideLift (ctx tag flags first count : Nat)
  /-- OVERRIDE_FREE (R352). -/
  | overrideFree (ctx tag flags first count : Nat)
  /-- FIX (R342). -/
  | fix (ctx tag flags : Nat) (f : FixIn)
  /-- BUS_SEND (R323). -/
  | busSend (ctx tag flags port dlc : Nat) (oneShot ide fdf brs : Bool) (id : Nat) (data : List Byte)
  /-- BIND (R357). -/
  | bind (ctx tag flags target : Nat)
  /-- UNBIND (R357). -/
  | unbind (ctx tag flags target : Nat)
  /-- HALT_DOORBELL (R356). -/
  | haltDoorbell (port : Nat) (window : Option Nat) (value : Word)
  /-- HOST_LINK_DOWN (R337). -/
  | hostLinkDown (port : Nat) (linkDown : Bool)
  /-- CW_RDATA_ACCESS (R340). -/
  | cwRdataAccess (ctx : Nat) (write : Option Word)
  /-- SPI_WRITE (R338); `cut` where the frame ended short, inside a word. -/
  | spiWrite (port addr : Nat) (cut : Bool) (words : List Word)
  /-- SPI_READ (R338). -/
  | spiRead (port addr n : Nat)
  /-- SPI_STATUS_READ (R338). -/
  | spiStatusRead (port : Nat)
  /-- STAGING_WRITE (R371). -/
  | stagingWrite (port offset : Nat) (bytes : List Byte)
  /-- VERIFY (R369). -/
  | verify (port : Nat)
  /-- VERIFY_DONE (R374). -/
  | verifyDone
  /-- DISCARD (R371). -/
  | discard (port : Nat)
  /-- SAVE (R373). -/
  | save (port slot : Nat) (trial : Bool)
  /-- SAVE_COMPLETE (R373). -/
  | saveComplete (ok : Bool)
  /-- LOAD (R373). -/
  | load (port slot : Nat)
  /-- CONFIRM (R372). -/
  | confirm (port : Nat)
  /-- RAISE_FLOOR (R368). -/
  | raiseFloor (port : Nat)
  /-- KEY_PROG (R367). -/
  | keyProg (port slot : Nat)
  /-- KEY_REVOKE (R367). -/
  | keyRevoke (port slot : Nat)
  /-- IMG_COMMIT (R374). -/
  | imgCommit (port : Nat) (value : Word)
  /-- STAGED_COPY_DONE (R375). -/
  | stagedCopyDone
  /-- ACTIVATION (R375). -/
  | activation
  /-- LANE_FAULT (R387). -/
  | laneFault (lane checker unit mem addr : Nat)
  /-- LANE_DISAGREEMENT (R386). -/
  | laneDisagreement
  /-- LANE_SELF_TEST_DONE (R387). -/
  | laneSelfTestDone (pass : Bool)
  /-- LANE_COPY_DONE (R387). -/
  | laneCopyDone
  /-- TAKEOVER_END (R387). -/
  | takeoverEnd
  /-- FIRE_COMPARE (R389). -/
  | fireCompare (differs ecc addr : Nat)
  /-- FIRE_RELOAD_DONE (R389). -/
  | fireReloadDone (copy : Nat) (ok : Bool)
  /-- STOP_RELEASE (R398). -/
  | stopRelease (port : Nat)
  /-- HS_CLEAR (R397). -/
  | hsClear (port : Nat)
  /-- LANE_RETRY (R388). -/
  | laneRetry (port : Nat)
  /-- FIRE_RETRY (R389). -/
  | fireRetry (port : Nat)
  /-- MEMORY_SCRUB (R390). -/
  | memoryScrub (memory : Nat) (errors : List ScrubIn)
  /-- REFERENCE_COMPARE (R393). -/
  | referenceCompare (g : Nat) (d01 d0a d1a : Int) (present : Nat)
  /-- CANVAS_FULL_REWRITE (R432). -/
  | canvasFullRewrite
  /-- CANVAS_WRITE (R430). -/
  | canvasWrite
  /-- CV_ERASE (R433). -/
  | cvErase (port : Nat) (value : Word)
  /-- ERASE_DONE (R433). -/
  | eraseDone
  /-- TAG_DATA_ACCESS (R437). -/
  | tagDataAccess (port : Nat) (write : Option Word)
  /-- PMC_RUN (R438). -/
  | pmcRun (port : Nat) (value : Word)
  /-- PMC_CLEAR (R438). -/
  | pmcClear (port : Nat)
  /-- SMP_EN_WRITE (R440). -/
  | smpEnWrite (port : Nat) (value : Word)
  /-- BANK_DATA_READ (R420). -/
  | bankDataRead (port : Nat)
  /-- SUPER_PERIOD_START (R202). -/
  | superPeriodStart
  /-- INTERNAL_LINK_HANDSHAKE (R209). -/
  | internalLinkHandshake (die : Nat)
  /-- BST_OV_END (R198). -/
  | bstOvEnd (b : Nat)
  /-- VBAT_UNDERVOLTAGE_RECOVERY (R278). -/
  | vbatUndervoltageRecovery
  /-- LS_THERMAL_RESTART (R274). -/
  | lsThermalRestart (n : Nat) (tj : Int)
  /-- OUTPUT_OVERTEMP_RESTART (R300). -/
  | outputOvertempRestart (m : Nat)
  /-- VFIELD_UV_RECOVERY (R299). -/
  | vfieldUvRecovery
  /-- SHADOW_WRITE_DONE (R281). -/
  | shadowWriteDone (die : Nat) (ok : Bool)
  /-- MASTER_REFERENCE_DUE (R320). -/
  | masterReferenceDue (port : Nat)
  /-- STATE_BANK_SAVE_DONE (R415). -/
  | stateBankSaveDone (ok : Bool)
  /-- LOAD_COMPLETE (R373). -/
  | loadComplete (ok : Bool)
  /-- HELD_SAFE_RELOAD_DONE (R397). -/
  | heldSafeReloadDone (laneA laneB : Bool)
  deriving DecidableEq, Repr

end Sys2Proof
end

