-- ==== Sys2Proof/Config.lean ====
section
/-! DEFINITION. The free values: what spec/ leaves open on a path where the machine goes on. Each is an opaque function without a
body, applied to the free-value counter of State (or to the operands it depends on), so no proof can see what it is. -/

namespace Sys2Proof.Config

/-- Deviation of a loop output from real arithmetic in 2^-40 Hz or chip/s, held to the 2^-16 of R75, by counter. -/
opaque loopDev : Nat → Int
/-- What a quotient or an angle is where its divisor or both its sides are zero (R75, Table 3.3; R93: not stated), by counter. -/
opaque quotZero : Nat → Int
/-- C/N0 in 0.25 dB-Hz from the last 20 prompts (R75, Table 3.3: the estimator's formula is not given), by counter. -/
opaque cn0 : Nat → Nat
/-- The estimator's fit of one period (R72: four Gauss-Newton iterations on a shape filtered to the stream's bandwidth, which is not
given), a function of the 23 tap sums, their positions in 1/64 chip, the BOC class, the chip rate in 100 Hz, the port and stream, and the
previous solution: offset, ratio and delay in 2^-20, and how far the last iteration moved the offset. -/
opaque mpFit : List (Int × Int) → List Int → Bool → Nat → Nat → Nat → List Int → List Int
/-- A satellite's predicted elevation, positive where it is visible (R68: predicted under the systems' interface specifications), by
counter, system and PRN. -/
opaque elevation : Nat → Nat → Nat → Int
/-- The fixed delay of a sample port, in samples (R76), by port. -/
opaque portDelay : Nat → Nat
/-- The SYNCOUT pad delay in ticks beyond 18 (R53; 2.2 to 3.1 ns, chapter 19). -/
opaque padDelay : Nat
/-- Whether the retained position and ephemerides pass their tests for a hot start (R81: where the part is and what is visible come from
outside), by counter. -/
opaque hotValid : Nat → Nat
/-- The propagated position's change over one epoch, 0.1 mm (R89: the propagation algorithm is not given), by counter and axis. -/
opaque posStep : Nat → Nat → Int
/-- The propagated velocity, 0.1 mm/s, where its source is IMU integration (R89), by counter and axis. -/
opaque imuVel : Nat → Nat → Int
/-- The propagated attitude quaternion (R96), by counter, component, and whether gravity holds roll and pitch. -/
opaque quat : Nat → Nat → Bool → Int
/-- Deviation of the predicted pose from the constant-turn path, 0.1 mm, held to the spec's 0.5 mm (R141), by counter and axis. -/
opaque pathDev : Nat → Nat → Int
/-- A counter's velocity where its edges share one stamp (R256: a quotient by zero), by operands. -/
opaque velZero : Int → Int
/-- Ticks a slot's run takes to its end (R258 gives bounds only), by counter. -/
opaque runTicks : Nat → Nat
/-- A test sine's deviation from the exact product, held to 2 LSB (R260), by counter. -/
opaque sineDev : Nat → Int
/-- Ticks, of those between two samples, at which a chopper's comparator sees its crossing (R182: the waveform lies outside the part), by
channel and field time. -/
opaque crossing : Nat → Nat → Nat
/-- CH_KPEAK where the largest value found does not fit the field (R190), by counter. -/
opaque kpeak : Nat → Nat
/-- Loop outputs on which the lanes disagreed before one was named (R264), by counter. -/
opaque mergeN : Nat → Nat
/-- What a Canvas record with an uncorrectable error reads as (R390), by record and word. -/
opaque badWord : Nat → Nat → Nat
/-- R273: the current limit of a load-switch channel, mA. -/
opaque limitMa : Nat → Nat → Int
/-- Ticks from a load switch's command to its output crossing a threshold (R279), by counter. -/
opaque switchLag : Nat → Nat
/-- TAG and FLAGS of a command in the ring of a PCIe host that the part completes without executing it (R357: host memory is outside the
part), by context, slot and counter. -/
opaque ringHeader : Nat → Nat → Nat → Nat
/-- Whether a fire copy fenced before passes its test at the next start (R399: the fault is the copy's own), by counter and copy. -/
opaque copyTest : Nat → Nat → Bool
/-- What the RTC counts while the core die is down (R423), in units of 2^-15 s, by counter. -/
opaque downTime : Nat → Nat
/-- VHOLD in 10 mV at a field time (R409: an analogue value). -/
opaque vhold : Nat → Nat
/-- Records left in Canvas by an erasure cut short (R433), by counter. -/
opaque eraseLeft : Nat → Nat
/-- The part's unique number and its silicon stepping (R436, Table 17.6: per part). -/
opaque uniqueNumber : Nat
opaque stepping : Nat

end Sys2Proof.Config
end

