-- ==== Sys2Proof/Machine/Arith.lean ====
section
/-! DEFINITION. Number helpers: bit fields of a word, two's complement (R10), saturation, little-endian bytes (R12). -/

namespace Sys2Proof.Machine

/-- Bits `lo` to `lo + n - 1` of `w`. -/
def bitsOf (w lo n : Nat) : Nat := w / 2 ^ lo % 2 ^ n

/-- `w` with bits `lo` to `lo + n - 1` holding `v`. -/
def putBits (w lo n v : Nat) : Nat := w % 2 ^ lo + 2 ^ lo * (v % 2 ^ n + 2 ^ n * (w / 2 ^ (lo + n)))

/-- Bit `i` of `w`. -/
def bit (w i : Nat) : Bool := w / 2 ^ i % 2 = 1

/-- The two's complement value of the low `n` bits of `v` (R10). -/
def sx (n v : Nat) : Int :=
  let u := v % 2 ^ n
  if 2 * u < 2 ^ n then (u : Int) else (u : Int) - (2 ^ n : Nat)

/-- The low `n` bits of an integer in two's complement. -/
def unsx (n : Nat) (v : Int) : Nat := (v % ((2 ^ n : Nat) : Int)).toNat

/-- A value at a declared width: it wraps (R17). -/
def wrapI (n : Nat) (v : Int) : Int := sx n (unsx n v)

/-- `v` held between `lo` and `hi`. -/
def clampI (lo hi v : Int) : Int := if v < lo then lo else if hi < v then hi else v

/-- `v` saturated to `n`-bit two's complement. -/
def satI (n : Nat) (v : Int) : Int := clampI (-((2 ^ (n - 1) : Nat) : Int)) (((2 ^ (n - 1) : Nat) : Int) - 1) v

/-- `v` saturated to `n` unsigned bits. -/
def satU (n v : Nat) : Nat := min v (2 ^ n - 1)

/-- Serial-number order of two `n`-bit counts (R49): `a` is newer than `b`. -/
def newer (n a b : Nat) : Bool :=
  let d := (a + 2 ^ n - b % 2 ^ n) % 2 ^ n
  decide (1 ≤ d) && decide (d ≤ 2 ^ (n - 1) - 1)

/-- Integer square root, rounded down. -/
def isqrtAux : Nat → Nat → Nat → Nat
  | 0, _, r => r
  | k + 1, n, r =>
    let t := r + 2 ^ k
    if t * t ≤ n then isqrtAux k n t else isqrtAux k n r

/-- The largest `r` with `r * r ≤ n`, for `n` below 2^256. -/
def isqrt (n : Nat) : Nat := isqrtAux 128 n 0

/-- The `n` little-endian bytes of `v` (R12). -/
def leBytes : Nat → Nat → List Byte
  | 0, _ => []
  | n + 1, v => BitVec.ofNat 8 v :: leBytes n (v / 256)

/-- The number that little-endian bytes spell (R12). -/
def leNat : List Byte → Nat
  | [] => 0
  | b :: bs => b.toNat + 256 * leNat bs

/-- Big-endian number of bytes. -/
def beNat (bs : List Byte) : Nat := bs.foldl (fun a b => 256 * a + b.toNat) 0

/-- `n` bytes of `bs` from offset `o`, zero past the end. -/
def slice (bs : List Byte) (o n : Nat) : List Byte :=
  let t := (bs.drop o).take n
  t ++ List.replicate (n - t.length) 0

/-- The little-endian `n`-byte field of `bs` at offset `o`. -/
def leAt (bs : List Byte) (o n : Nat) : Nat := leNat (slice bs o n)

/-- `bs` cut or zero-filled to `n` bytes. -/
def padTo (n : Nat) (bs : List Byte) : List Byte := slice bs 0 n

/-- True as 1, false as 0. -/
def b2n (b : Bool) : Nat := if b then 1 else 0

/-- Component `i` of a vector or quaternion. -/
def comp (v : List Int) (i : Nat) : Int := v.getD i 0

/-- Field-time difference `a - b` as a signed 64-bit value. -/
def tdiff (a b : Time) : Int := (a - b).toInt

/-- `a` is at or after `b` in field time, by the nearer difference (R13). -/
def tge (a b : Time) : Bool := decide (0 ≤ tdiff a b)

/-- The field time `n` ticks after `a`. -/
def tadd (a : Time) (n : Int) : Time := a + BitVec.ofInt 64 n

end Sys2Proof.Machine
end

