-- ==== Sys2Proof/Machine/RegMap.lean ====
section
/-! DEFINITION. The register map: every register table of spec/02_time_and_frames.md to
spec/17_records_and_counters.md, one row per register (array), with the fields' places, access codes (R7, Table 0.5)
and reset values (R9). The rows of one block of Table 18.1 form one list. -/

namespace Sys2Proof.Machine

/-- The access codes of Table 0.5 (R7); a bit no field covers is RSV. -/
inductive Acc where
  | ro | rw | w1c | w1s | rc | wo
  deriving DecidableEq, Repr

/-- One field of a register: its lowest bit, width, access code and reset value (R7, R9). -/
structure RegField where
  lo : Nat
  width : Nat
  acc : Acc
  reset : Nat
  deriving DecidableEq, Repr

/-- One register or array of registers: base address, two strides with their counts, and the fields. -/
structure RegRow where
  base : Nat
  s1 : Nat
  n1 : Nat
  s2 : Nat
  n2 : Nat
  fields : List RegField
  deriving DecidableEq, Repr

/-- Register rows of the block at 0x0, part 0 (chapter 13). -/
def rowsCw0 : List RegRow :=
  [⟨0x0, 0x1000, 1024, 0x4, 1, [⟨0, 10, .ro, 0x0⟩, ⟨10, 2, .ro, 0x0⟩, ⟨12, 2, .ro, 0x0⟩, ⟨14, 1, .ro, 0x0⟩]⟩ /- CW_ID -/,
   ⟨0x8, 0x1000, 1024, 0x4, 1, [⟨0, 32, .rw, 0x0⟩]⟩ /- CW_SQ_BASE_LO -/,
   ⟨0xc, 0x1000, 1024, 0x4, 1, [⟨0, 32, .rw, 0x0⟩]⟩ /- CW_SQ_BASE_HI -/,
   ⟨0x10, 0x1000, 1024, 0x4, 1, [⟨0, 32, .rw, 0x0⟩]⟩ /- CW_CQ_BASE_LO -/,
   ⟨0x14, 0x1000, 1024, 0x4, 1, [⟨0, 32, .rw, 0x0⟩]⟩ /- CW_CQ_BASE_HI -/,
   ⟨0x18, 0x1000, 1024, 0x4, 1, [⟨0, 1, .rw, 0x0⟩, ⟨1, 6, .rw, 0x0⟩, ⟨7, 1, .ro, 0x0⟩, ⟨8, 16, .rw, 0x0⟩]⟩ /- CW_RING -/,
   ⟨0x1c, 0x1000, 1024, 0x4, 1, [⟨0, 8, .rw, 0x0⟩]⟩ /- CW_SQ_TAIL -/,
   ⟨0x20, 0x1000, 1024, 0x4, 1, [⟨0, 8, .ro, 0x0⟩]⟩ /- CW_SQ_HEAD -/,
   ⟨0x24, 0x1000, 1024, 0x4, 1, [⟨0, 8, .rw, 0x0⟩]⟩ /- CW_CQ_HEAD -/,
   ⟨0x28, 0x1000, 1024, 0x4, 1, [⟨0, 8, .ro, 0x0⟩, ⟨8, 1, .ro, 0x1⟩]⟩ /- CW_CQ_TAIL -/,
   ⟨0x2c, 0x1000, 1024, 0x4, 1, [⟨0, 1, .w1c, 0x0⟩, ⟨1, 1, .w1c, 0x0⟩, ⟨2, 1, .w1c, 0x0⟩, ⟨3, 1, .w1c, 0x0⟩, ⟨4, 1, .w1c, 0x0⟩, ⟨5, 1, .w1c, 0x0⟩]⟩ /- CW_IRQ -/,
   ⟨0x30, 0x1000, 1024, 0x4, 1, [⟨0, 1, .rw, 0x0⟩, ⟨1, 1, .rw, 0x0⟩, ⟨2, 1, .rw, 0x0⟩, ⟨3, 1, .rw, 0x0⟩, ⟨4, 1, .rw, 0x0⟩, ⟨5, 1, .rw, 0x0⟩]⟩ /- CW_IRQ_EN -/]

/-- Register rows of the block at 0x0, part 1 (chapter 13). -/
def rowsCw1 : List RegRow :=
  [⟨0x34, 0x1000, 1024, 0x4, 1, [⟨0, 26, .rw, 0x0⟩]⟩ /- CW_RADDR -/,
   ⟨0x38, 0x1000, 1024, 0x4, 1, [⟨0, 32, .rw, 0x0⟩]⟩ /- CW_RDATA -/,
   ⟨0x3c, 0x1000, 1024, 0x4, 1, [⟨0, 2, .ro, 0x0⟩]⟩ /- CW_RSTAT -/,
   ⟨0x40, 0x1000, 1024, 0x20, 4, [⟨0, 32, .rw, 0x0⟩]⟩ /- CW_STR_BASE_LO -/,
   ⟨0x44, 0x1000, 1024, 0x20, 4, [⟨0, 32, .rw, 0x0⟩]⟩ /- CW_STR_BASE_HI -/,
   ⟨0x48, 0x1000, 1024, 0x20, 4, [⟨0, 3, .rw, 0x0⟩, ⟨3, 5, .rw, 0x0⟩, ⟨8, 1, .rw, 0x0⟩, ⟨9, 1, .rw, 0x0⟩]⟩ /- CW_STR_CFG -/,
   ⟨0x4c, 0x1000, 1024, 0x20, 4, [⟨0, 17, .ro, 0x0⟩]⟩ /- CW_STR_WR -/,
   ⟨0x50, 0x1000, 1024, 0x20, 4, [⟨0, 17, .rw, 0x0⟩]⟩ /- CW_STR_RD -/,
   ⟨0x54, 0x1000, 1024, 0x20, 4, [⟨0, 16, .rc, 0x0⟩]⟩ /- CW_STR_DROP -/,
   ⟨0xffc, 0x1000, 1024, 0x4, 1, [⟨0, 32, .wo, 0x0⟩]⟩ /- CW_HALT -/]

/-- Register rows of the block at 0x400000, part 0 (chapter 14, 17). -/
def rowsGl0 : List RegRow :=
  [⟨0x401000, 0x4, 1, 0x4, 1, [⟨0, 4, .wo, 0x0⟩, ⟨4, 2, .wo, 0x0⟩, ⟨6, 1, .wo, 0x0⟩]⟩ /- IMG_CTRL -/,
   ⟨0x401004, 0x4, 1, 0x4, 1, [⟨0, 3, .ro, 0x0⟩, ⟨3, 1, .ro, 0x0⟩, ⟨4, 1, .ro, 0x0⟩, ⟨5, 1, .ro, 0x0⟩, ⟨6, 1, .ro, 0x0⟩, ⟨7, 2, .ro, 0x0⟩]⟩ /- IMG_STATUS -/,
   ⟨0x401008, 0x4, 1, 0x4, 1, [⟨0, 8, .ro, 0x0⟩, ⟨8, 8, .ro, 0x0⟩, ⟨16, 16, .ro, 0x0⟩]⟩ /- IMG_ERR -/,
   ⟨0x40100c, 0x4, 1, 0x4, 1, [⟨0, 32, .ro, 0x0⟩]⟩ /- IMG_ERROFS -/,
   ⟨0x401010, 0x4, 1, 0x4, 1, [⟨0, 32, .ro, 0x0⟩]⟩ /- IMG_TOKEN -/,
   ⟨0x401014, 0x4, 1, 0x4, 1, [⟨0, 32, .wo, 0x0⟩]⟩ /- IMG_COMMIT -/,
   ⟨0x401018, 0x4, 1, 0x4, 1, [⟨0, 32, .ro, 0x0⟩]⟩ /- IMG_ACT_FT_LO -/,
   ⟨0x40101c, 0x4, 1, 0x4, 1, [⟨0, 32, .ro, 0x0⟩]⟩ /- IMG_ACT_FT_HI -/,
   ⟨0x401020, 0x4, 1, 0x4, 1, [⟨0, 32, .ro, 0x0⟩]⟩ /- IMG_ACT_FRAME -/,
   ⟨0x401024, 0x4, 1, 0x4, 1, [⟨0, 9, .ro, 0x0⟩, ⟨9, 1, .ro, 0x0⟩]⟩ /- IMG_DIFF -/,
   ⟨0x401028, 0x4, 1, 0x4, 1, [⟨0, 32, .ro, 0x0⟩]⟩ /- IMG_ACTIVE_ID -/,
   ⟨0x40102c, 0x4, 1, 0x4, 1, [⟨0, 32, .ro, 0x0⟩]⟩ /- IMG_STAGED_ID -/]

/-- Register rows of the block at 0x400000, part 1 (chapter 14, 17). -/
def rowsGl1 : List RegRow :=
  [⟨0x401030, 0x4, 1, 0x4, 1, [⟨0, 16, .ro, 0x0⟩, ⟨16, 16, .ro, 0x0⟩]⟩ /- IMG_ACTIVE_VER -/,
   ⟨0x401034, 0x4, 1, 0x4, 1, [⟨0, 16, .ro, 0x0⟩, ⟨16, 16, .ro, 0x0⟩]⟩ /- IMG_STAGED_VER -/,
   ⟨0x401038, 0x4, 1, 0x4, 1, [⟨0, 1, .rw, 0x0⟩, ⟨1, 1, .ro, 0x0⟩, ⟨2, 1, .ro, 0x0⟩, ⟨3, 1, .ro, 0x0⟩, ⟨4, 1, .ro, 0x0⟩]⟩ /- IMG_BOOT -/,
   ⟨0x40103c, 0x4, 1, 0x4, 1, [⟨0, 16, .ro, 0x0⟩]⟩ /- IMG_FLOOR -/,
   ⟨0x401040, 0x4, 1, 0x4, 1, [⟨0, 4, .ro, 0x0⟩, ⟨4, 4, .ro, 0x0⟩, ⟨8, 2, .ro, 0x0⟩]⟩ /- IMG_KEY -/,
   ⟨0x401044, 0x4, 8, 0x4, 1, [⟨0, 32, .wo, 0x0⟩]⟩ /- IMG_KEYDATA -/,
   ⟨0x401064, 0x4, 1, 0x4, 1, [⟨0, 1, .w1c, 0x0⟩, ⟨1, 1, .w1c, 0x0⟩, ⟨2, 1, .w1c, 0x0⟩, ⟨3, 1, .w1c, 0x0⟩, ⟨4, 1, .w1c, 0x0⟩, ⟨5, 1, .w1c, 0x0⟩, ⟨6, 1, .w1c, 0x0⟩, ⟨7, 1, .w1c, 0x0⟩, ⟨8, 1, .w1c, 0x0⟩]⟩ /- IMG_EVENT -/,
   ⟨0x400000, 0x4, 1, 0x4, 1, [⟨0, 32, .ro, 0x0⟩]⟩ /- ID_UNIQUE_LO -/,
   ⟨0x400004, 0x4, 1, 0x4, 1, [⟨0, 32, .ro, 0x0⟩]⟩ /- ID_UNIQUE_HI -/,
   ⟨0x400008, 0x4, 1, 0x4, 1, [⟨0, 4, .ro, 0x0⟩, ⟨4, 8, .ro, 0x0⟩, ⟨12, 8, .ro, 0x1⟩]⟩ /- ID_DEVICE -/,
   ⟨0x40000c, 0x4, 1, 0x4, 1, [⟨0, 11, .ro, 0x400⟩, ⟨11, 11, .ro, 0x400⟩]⟩ /- CAP_COUNT0 -/,
   ⟨0x400010, 0x4, 1, 0x4, 1, [⟨0, 17, .ro, 0xa000⟩, ⟨17, 8, .ro, 0xc0⟩]⟩ /- CAP_COUNT1 -/]

/-- Register rows of the block at 0x400000, part 2 (chapter 14, 17). -/
def rowsGl2 : List RegRow :=
  [⟨0x400014, 0x4, 1, 0x4, 1, [⟨0, 8, .ro, 0x80⟩, ⟨8, 6, .ro, 0x20⟩, ⟨14, 7, .ro, 0x40⟩, ⟨21, 6, .ro, 0x20⟩]⟩ /- CAP_COUNT2 -/,
   ⟨0x400018, 0x4, 1, 0x4, 1, [⟨0, 11, .ro, 0x400⟩, ⟨11, 3, .ro, 0x4⟩, ⟨14, 5, .ro, 0x10⟩, ⟨19, 3, .ro, 0x6⟩, ⟨22, 3, .ro, 0x4⟩]⟩ /- CAP_COUNT3 -/,
   ⟨0x40001c, 0x4, 1, 0x4, 1, [⟨0, 1, .ro, 0x1⟩, ⟨1, 1, .ro, 0x1⟩, ⟨2, 1, .ro, 0x1⟩, ⟨3, 1, .ro, 0x1⟩, ⟨4, 1, .ro, 0x1⟩]⟩ /- CAP_PRESENT -/]

/-- Register rows of the block at 0x408000, part 0 (chapter 03). -/
def rowsBb0 : List RegRow :=
  [⟨0x408000, 0x4, 1, 0x4, 1, [⟨0, 1, .rw, 0x1⟩, ⟨1, 1, .rw, 0x1⟩, ⟨2, 1, .rw, 0x1⟩, ⟨3, 8, .rw, 0x20⟩]⟩ /- BB_CTRL -/,
   ⟨0x408004, 0x4, 1, 0x4, 1, [⟨0, 1, .ro, 0x1⟩, ⟨1, 1, .ro, 0x0⟩, ⟨2, 1, .ro, 0x0⟩, ⟨3, 11, .ro, 0x0⟩]⟩ /- BB_STATUS -/,
   ⟨0x408010, 0x8, 4, 0x4, 1, [⟨0, 1, .rw, 0x0⟩, ⟨1, 4, .rw, 0x0⟩, ⟨5, 1, .wo, 0x0⟩]⟩ /- AS_CTRL -/,
   ⟨0x408014, 0x8, 4, 0x4, 1, [⟨0, 1, .ro, 0x0⟩, ⟨1, 1, .ro, 0x0⟩, ⟨2, 1, .w1c, 0x0⟩]⟩ /- AS_STAT -/,
   ⟨0x408040, 0x10, 4, 0x4, 4, [⟨0, 22, .rw, 0x0⟩, ⟨22, 1, .rw, 0x0⟩]⟩ /- AS_CENTRE -/,
   ⟨0x408080, 0x10, 4, 0x4, 4, [⟨0, 32, .rw, 0x0⟩]⟩ /- AS_SIGMASK -/,
   ⟨0x4080c0, 0x10, 4, 0x4, 4, [⟨0, 10, .ro, 0x0⟩, ⟨10, 10, .ro, 0x0⟩]⟩ /- AS_PWR -/,
   ⟨0x408100, 0x4, 1, 0x4, 1, [⟨0, 16, .ro, 0x0⟩, ⟨16, 1, .ro, 0x0⟩, ⟨17, 4, .ro, 0x0⟩, ⟨21, 1, .w1c, 0x0⟩]⟩ /- BANK_STAT -/,
   ⟨0x408104, 0x4, 1, 0x4, 1, [⟨0, 14, .rw, 0x0⟩]⟩ /- CODE_ADDR -/,
   ⟨0x408108, 0x4, 1, 0x4, 1, [⟨0, 32, .rw, 0x0⟩]⟩ /- CODE_DATA -/,
   ⟨0x408110, 0x4, 4, 0x4, 1, [⟨0, 14, .rw, 0x0⟩, ⟨14, 14, .rw, 0x0⟩, ⟨28, 3, .rw, 0x0⟩, ⟨31, 1, .rw, 0x0⟩]⟩ /- CODE_DESC -/,
   ⟨0x408120, 0x4, 1, 0x4, 1, [⟨0, 14, .rw, 0x0⟩]⟩ /- AID_ADDR -/]

/-- Register rows of the block at 0x408000, part 1 (chapter 03). -/
def rowsBb1 : List RegRow :=
  [⟨0x408124, 0x4, 1, 0x4, 1, [⟨0, 32, .rw, 0x0⟩]⟩ /- AID_DATA -/]

/-- Register rows of the block at 0x409000, part 0 (chapter 05). -/
def rowsMp0 : List RegRow :=
  [⟨0x409000, 0x4, 1, 0x4, 1, [⟨0, 1, .rw, 0x1⟩, ⟨1, 1, .rw, 0x1⟩, ⟨2, 8, .rw, 0x32⟩]⟩ /- MAP_CTRL -/,
   ⟨0x409004, 0x4, 1, 0x4, 1, [⟨0, 1, .w1c, 0x0⟩, ⟨1, 1, .w1c, 0x0⟩, ⟨2, 1, .w1c, 0x0⟩, ⟨3, 1, .w1c, 0x0⟩, ⟨4, 1, .w1c, 0x0⟩, ⟨5, 1, .w1c, 0x0⟩, ⟨6, 1, .w1c, 0x0⟩]⟩ /- MAP_EVENT -/,
   ⟨0x409008, 0x4, 1, 0x4, 1, [⟨0, 8, .ro, 0x0⟩, ⟨8, 8, .ro, 0xc0⟩, ⟨16, 8, .ro, 0x0⟩]⟩ /- MAP_STAT -/,
   ⟨0x40900c, 0x4, 1, 0x4, 1, [⟨0, 16, .rc, 0x0⟩, ⟨16, 16, .rc, 0x0⟩]⟩ /- MAP_COUNT_A -/,
   ⟨0x409010, 0x4, 1, 0x4, 1, [⟨0, 16, .rc, 0x0⟩, ⟨16, 16, .rc, 0x0⟩]⟩ /- MAP_COUNT_B -/,
   ⟨0x409014, 0x4, 1, 0x4, 1, [⟨0, 24, .ro, 0x0⟩]⟩ /- MISS_TX -/,
   ⟨0x409018, 0x4, 1, 0x4, 1, [⟨0, 24, .ro, 0x0⟩]⟩ /- MISS_TY -/,
   ⟨0x40901c, 0x4, 1, 0x4, 1, [⟨0, 16, .rc, 0x0⟩]⟩ /- MISS_COUNT -/,
   ⟨0x409020, 0x4, 4, 0x4, 1, [⟨0, 9, .rw, 0x80⟩, ⟨9, 9, .rw, 0x80⟩, ⟨18, 1, .rw, 0x0⟩, ⟨19, 1, .rw, 0x0⟩, ⟨20, 1, .rw, 0x1⟩]⟩ /- MAP_LAYER -/,
   ⟨0x409030, 0x4, 1, 0x4, 1, [⟨0, 4, .wo, 0x0⟩, ⟨4, 4, .ro, 0x0⟩]⟩ /- RT_CTRL -/,
   ⟨0x409034, 0x4, 1, 0x4, 1, [⟨0, 10, .rw, 0x0⟩, ⟨10, 4, .rw, 0x0⟩]⟩ /- OT_SREAD_IDX -/,
   ⟨0x409038, 0x4, 1, 0x4, 1, [⟨0, 32, .ro, 0x0⟩]⟩ /- OT_SREAD_DATA -/]

/-- Register rows of the block at 0x409000, part 1 (chapter 05). -/
def rowsMp1 : List RegRow :=
  [⟨0x40903c, 0x4, 1, 0x4, 1, [⟨0, 1, .ro, 0x0⟩, ⟨1, 11, .ro, 0x0⟩]⟩ /- OT_STAGE -/,
   ⟨0x409040, 0x8, 8, 0x4, 1, [⟨0, 24, .ro, 0x0⟩, ⟨24, 1, .ro, 0x0⟩]⟩ /- NEED_TX -/,
   ⟨0x409044, 0x8, 8, 0x4, 1, [⟨0, 24, .ro, 0x0⟩, ⟨24, 1, .ro, 0x0⟩]⟩ /- NEED_TY -/,
   ⟨0x409100, 0x4, 16, 0x4, 1, [⟨0, 32, .ro, 0xffffffff⟩]⟩ /- SEC_STATE -/,
   ⟨0x409180, 0x4, 8, 0x4, 1, [⟨0, 32, .rw, 0xffffffff⟩]⟩ /- SEC_GATE -/,
   ⟨0x409800, 0x10, 192, 0x4, 1, [⟨0, 24, .rw, 0x0⟩]⟩ /- TILE_X -/,
   ⟨0x409804, 0x10, 192, 0x4, 1, [⟨0, 24, .rw, 0x0⟩]⟩ /- TILE_Y -/,
   ⟨0x409808, 0x10, 192, 0x4, 1, [⟨0, 2, .ro, 0x0⟩, ⟨2, 1, .ro, 0x0⟩, ⟨3, 2, .wo, 0x0⟩, ⟨5, 1, .wo, 0x0⟩, ⟨6, 1, .rw, 0x0⟩]⟩ /- TILE_CTRL -/,
   ⟨0x40980c, 0x10, 192, 0x4, 1, [⟨0, 16, .rc, 0x0⟩]⟩ /- TILE_DIRTY -/,
   ⟨0x40a400, 0x100, 4, 0x4, 64, [⟨0, 20, .rw, 0x0⟩]⟩ /- RT_ENTRY -/,
   ⟨0x40a800, 0x100, 4, 0x4, 64, [⟨0, 20, .ro, 0x0⟩]⟩ /- RT_STAGED -/]

/-- Register rows of the block at 0x40c000, part 0 (chapter 06). -/
def rowsLg0 : List RegRow :=
  [⟨0x40c000, 0x4, 1, 0x4, 1, [⟨0, 1, .rw, 0x1⟩, ⟨1, 1, .rw, 0x0⟩]⟩ /- LG_CTRL -/,
   ⟨0x40c004, 0x4, 1, 0x4, 1, [⟨0, 16, .ro, 0x0⟩, ⟨16, 11, .ro, 0x400⟩, ⟨27, 1, .ro, 0x0⟩]⟩ /- LG_STAT -/,
   ⟨0x40c008, 0x4, 1, 0x4, 1, [⟨0, 16, .ro, 0x0⟩, ⟨16, 16, .ro, 0x0⟩]⟩ /- LG_COUNT -/,
   ⟨0x40c00c, 0x4, 1, 0x4, 1, [⟨0, 1, .w1c, 0x0⟩, ⟨1, 1, .w1c, 0x0⟩, ⟨2, 1, .w1c, 0x0⟩, ⟨3, 1, .w1c, 0x0⟩, ⟨4, 1, .w1c, 0x0⟩, ⟨5, 1, .w1c, 0x0⟩, ⟨6, 1, .w1c, 0x0⟩, ⟨7, 1, .w1c, 0x0⟩, ⟨8, 1, .w1c, 0x0⟩, ⟨9, 1, .w1c, 0x0⟩]⟩ /- LG_EVENT -/,
   ⟨0x40c010, 0x4, 1, 0x4, 1, [⟨0, 16, .rc, 0x0⟩, ⟨16, 16, .rc, 0x0⟩]⟩ /- LG_CNT_A -/,
   ⟨0x40c014, 0x4, 1, 0x4, 1, [⟨0, 16, .rc, 0x0⟩, ⟨16, 16, .rc, 0x0⟩]⟩ /- LG_CNT_B -/,
   ⟨0x40c018, 0x4, 1, 0x4, 1, [⟨0, 16, .rc, 0x0⟩, ⟨16, 16, .rc, 0x0⟩]⟩ /- LG_CNT_C -/,
   ⟨0x40c01c, 0x4, 1, 0x4, 1, [⟨0, 16, .rc, 0x0⟩, ⟨16, 16, .rc, 0x0⟩]⟩ /- LG_CNT_D -/,
   ⟨0x40c020, 0x4, 1, 0x4, 1, [⟨0, 6, .rw, 0x0⟩, ⟨6, 1, .wo, 0x0⟩, ⟨7, 1, .ro, 0x0⟩]⟩ /- PATH_CTRL -/,
   ⟨0x40c024, 0x4, 1, 0x4, 1, [⟨0, 32, .rw, 0x0⟩]⟩ /- PATH_FT_LO -/,
   ⟨0x40c028, 0x4, 1, 0x4, 1, [⟨0, 32, .rw, 0x0⟩]⟩ /- PATH_FT_HI -/,
   ⟨0x40c200, 0x10, 32, 0x4, 1, [⟨0, 20, .rw, 0x0⟩]⟩ /- PK_DIST -/]

/-- Register rows of the block at 0x40c000, part 1 (chapter 06). -/
def rowsLg1 : List RegRow :=
  [⟨0x40c204, 0x10, 32, 0x4, 1, [⟨0, 20, .rw, 0x0⟩]⟩ /- PK_CURV -/,
   ⟨0x40c208, 0x10, 32, 0x4, 1, [⟨0, 20, .rw, 0x0⟩]⟩ /- PK_SPEED -/,
   ⟨0x40c100, 0x20, 8, 0x4, 1, [⟨0, 12, .ro, 0xc8⟩, ⟨12, 1, .ro, 0x1⟩]⟩ /- CL_COMMIT -/,
   ⟨0x40c104, 0x20, 8, 0x4, 1, [⟨0, 8, .ro, 0x32⟩, ⟨8, 8, .ro, 0x28⟩, ⟨16, 8, .ro, 0x18⟩, ⟨24, 8, .ro, 0xa⟩]⟩ /- CL_TIMING -/,
   ⟨0x40c108, 0x20, 8, 0x4, 1, [⟨0, 7, .ro, 0x23⟩]⟩ /- CL_PREFLUX -/,
   ⟨0x40c10c, 0x20, 8, 0x4, 1, [⟨0, 16, .ro, 0x7d0⟩, ⟨16, 16, .ro, 0x7d0⟩]⟩ /- CL_GAPS -/,
   ⟨0x40c110, 0x20, 8, 0x4, 1, [⟨0, 16, .ro, 0x2710⟩, ⟨16, 8, .ro, 0x4⟩]⟩ /- CL_MATCH -/,
   ⟨0x40c114, 0x20, 8, 0x4, 1, [⟨0, 20, .ro, 0x0⟩]⟩ /- CL_RATE_LEAD -/,
   ⟨0x40c118, 0x20, 8, 0x4, 1, [⟨0, 20, .ro, 0x1999a⟩]⟩ /- CL_RATE_MIN -/,
   ⟨0x40c11c, 0x20, 8, 0x4, 1, [⟨0, 20, .ro, 0xfffff⟩]⟩ /- CL_RATE_MAX -/,
   ⟨0x40d000, 0x8, 1024, 0x4, 1, [⟨0, 20, .ro, 0x0⟩, ⟨20, 7, .ro, 0x0⟩, ⟨27, 1, .ro, 0x0⟩]⟩ /- LJ_OPEN -/,
   ⟨0x40d004, 0x8, 1024, 0x4, 1, [⟨0, 20, .ro, 0x0⟩, ⟨20, 7, .ro, 0x0⟩, ⟨27, 1, .ro, 0x0⟩]⟩ /- LJ_CLOSE -/]

/-- Register rows of the block at 0x410000, part 0 (chapter 02). -/
def rowsTb0 : List RegRow :=
  [⟨0x410000, 0x4, 1, 0x4, 1, [⟨0, 3, .ro, 0x0⟩, ⟨3, 1, .ro, 0x0⟩, ⟨4, 1, .ro, 0x0⟩, ⟨5, 1, .ro, 0x0⟩, ⟨6, 1, .ro, 0x0⟩, ⟨7, 2, .ro, 0x0⟩, ⟨9, 1, .ro, 0x0⟩, ⟨10, 1, .ro, 0x0⟩]⟩ /- TB_STATUS -/,
   ⟨0x410004, 0x4, 1, 0x4, 1, [⟨0, 2, .rw, 0x1⟩, ⟨2, 1, .rw, 0x0⟩, ⟨3, 1, .rw, 0x1⟩, ⟨4, 1, .rw, 0x1⟩, ⟨5, 1, .rw, 0x0⟩, ⟨6, 1, .wo, 0x0⟩]⟩ /- TB_CTRL -/,
   ⟨0x410008, 0x4, 1, 0x4, 1, [⟨0, 32, .ro, 0x0⟩]⟩ /- FT_LO -/,
   ⟨0x41000c, 0x4, 1, 0x4, 1, [⟨0, 32, .ro, 0x0⟩]⟩ /- FT_HI -/,
   ⟨0x410010, 0x4, 1, 0x4, 1, [⟨0, 32, .rw, 0x0⟩]⟩ /- GNSS_OFS_LO -/,
   ⟨0x410014, 0x4, 1, 0x4, 1, [⟨0, 32, .rw, 0x0⟩]⟩ /- GNSS_OFS_HI -/,
   ⟨0x410018, 0x4, 1, 0x4, 1, [⟨0, 20, .ro, 0x0⟩]⟩ /- REF_MEAS -/,
   ⟨0x41001c, 0x4, 1, 0x4, 1, [⟨0, 20, .ro, 0x0⟩]⟩ /- REF_DRIFT -/,
   ⟨0x410020, 0x4, 1, 0x4, 1, [⟨0, 20, .ro, 0x0⟩]⟩ /- DISC_TRIM -/,
   ⟨0x410024, 0x4, 1, 0x4, 1, [⟨0, 32, .rw, 0x0⟩]⟩ /- CAL_LO -/,
   ⟨0x410028, 0x4, 1, 0x4, 1, [⟨0, 8, .rw, 0x0⟩, ⟨8, 1, .ro, 0x0⟩]⟩ /- CAL_HI -/,
   ⟨0x41002c, 0x4, 1, 0x4, 1, [⟨0, 8, .rw, 0x12⟩, ⟨8, 8, .ro, 0x0⟩, ⟨16, 1, .ro, 0x0⟩]⟩ /- LEAP -/]

/-- Register rows of the block at 0x410000, part 1 (chapter 02). -/
def rowsTb1 : List RegRow :=
  [⟨0x410030, 0x4, 1, 0x4, 1, [⟨0, 7, .rw, 0x14⟩, ⟨7, 12, .rw, 0xfa0⟩]⟩ /- FRM_CFG -/,
   ⟨0x410034, 0x4, 1, 0x4, 1, [⟨0, 32, .ro, 0x0⟩]⟩ /- FRM_NO -/,
   ⟨0x410038, 0x4, 1, 0x4, 1, [⟨0, 32, .ro, 0x0⟩]⟩ /- FRM_START_LO -/,
   ⟨0x41003c, 0x4, 1, 0x4, 1, [⟨0, 32, .ro, 0x0⟩]⟩ /- FRM_START_HI -/,
   ⟨0x410040, 0x4, 1, 0x4, 1, [⟨0, 16, .rc, 0x0⟩, ⟨16, 16, .rc, 0x0⟩]⟩ /- FRM_STAT -/,
   ⟨0x410044, 0x4, 1, 0x4, 1, [⟨0, 2, .rw, 0x0⟩, ⟨2, 8, .rw, 0xa⟩]⟩ /- SYNC_CFG -/,
   ⟨0x410048, 0x4, 1, 0x4, 1, [⟨0, 20, .rw, 0x0⟩]⟩ /- SYNCIN_COMP -/,
   ⟨0x41004c, 0x4, 1, 0x4, 1, [⟨0, 20, .ro, 0x0⟩]⟩ /- SYNCIN_ERR -/,
   ⟨0x410050, 0x4, 1, 0x4, 1, [⟨0, 1, .w1c, 0x0⟩, ⟨1, 1, .w1c, 0x0⟩, ⟨2, 1, .w1c, 0x0⟩, ⟨3, 1, .w1c, 0x0⟩, ⟨4, 1, .w1c, 0x0⟩, ⟨5, 1, .w1c, 0x0⟩, ⟨6, 1, .w1c, 0x0⟩, ⟨7, 1, .w1c, 0x0⟩, ⟨8, 1, .w1c, 0x0⟩]⟩ /- TB_EVENT -/]

/-- Register rows of the block at 0x420000, part 0 (chapter 03). -/
def rowsGch0 : List RegRow :=
  [⟨0x420000, 0x100, 1024, 0x4, 1, [⟨0, 2, .wo, 0x0⟩]⟩ /- GCH_CMD -/,
   ⟨0x420004, 0x100, 1024, 0x4, 1, [⟨0, 2, .rw, 0x0⟩, ⟨2, 2, .rw, 0x0⟩, ⟨4, 5, .rw, 0x0⟩, ⟨9, 8, .rw, 0x0⟩, ⟨17, 5, .rw, 0x1⟩, ⟨22, 5, .rw, 0xc⟩, ⟨27, 1, .rw, 0x0⟩]⟩ /- GCH_CFG -/,
   ⟨0x420008, 0x100, 1024, 0x4, 1, [⟨0, 7, .rw, 0xc⟩, ⟨7, 8, .rw, 0xd6⟩, ⟨15, 6, .rw, 0x4⟩, ⟨21, 7, .rw, 0x20⟩]⟩ /- GCH_TAPS -/,
   ⟨0x42000c, 0x100, 1024, 0x4, 1, [⟨0, 8, .rw, 0x96⟩, ⟨8, 8, .rw, 0x64⟩, ⟨16, 8, .rw, 0x32⟩, ⟨24, 1, .rw, 0x0⟩]⟩ /- GCH_LOOP -/,
   ⟨0x420010, 0x100, 1024, 0x4, 1, [⟨0, 8, .rw, 0x50⟩, ⟨8, 4, .rw, 0x4⟩, ⟨12, 8, .rw, 0x64⟩]⟩ /- GCH_ACQ -/,
   ⟨0x420014, 0x100, 1024, 0x4, 1, [⟨0, 20, .rw, 0x0⟩]⟩ /- GCH_AID_DOP -/,
   ⟨0x420018, 0x100, 1024, 0x4, 1, [⟨0, 32, .rw, 0x0⟩]⟩ /- GCH_AID_CODE -/,
   ⟨0x420020, 0x100, 1024, 0x4, 1, [⟨0, 3, .ro, 0x0⟩, ⟨3, 1, .ro, 0x0⟩, ⟨4, 1, .ro, 0x0⟩, ⟨5, 1, .ro, 0x0⟩, ⟨6, 8, .ro, 0x0⟩]⟩ /- GCH_STATE -/,
   ⟨0x420024, 0x100, 1024, 0x4, 1, [⟨0, 1, .w1c, 0x0⟩, ⟨1, 1, .w1c, 0x0⟩, ⟨2, 1, .w1c, 0x0⟩, ⟨3, 1, .w1c, 0x0⟩, ⟨4, 1, .w1c, 0x0⟩, ⟨5, 1, .w1c, 0x0⟩, ⟨6, 1, .w1c, 0x0⟩, ⟨7, 1, .w1c, 0x0⟩]⟩ /- GCH_EVENT -/,
   ⟨0x420028, 0x100, 1024, 0x4, 1, [⟨0, 32, .ro, 0x0⟩]⟩ /- GCH_CARR_NCO -/,
   ⟨0x42002c, 0x100, 1024, 0x4, 1, [⟨0, 32, .ro, 0x0⟩]⟩ /- GCH_CODE_NCO -/,
   ⟨0x420030, 0x100, 1024, 0x8, 25, [⟨0, 20, .ro, 0x0⟩]⟩ /- GCH_TAP_I -/]

/-- Register rows of the block at 0x420000, part 1 (chapter 03). -/
def rowsGch1 : List RegRow :=
  [⟨0x420034, 0x100, 1024, 0x8, 25, [⟨0, 20, .ro, 0x0⟩]⟩ /- GCH_TAP_Q -/,
   ⟨0x4200f8, 0x100, 1024, 0x4, 1, [⟨0, 8, .ro, 0x0⟩, ⟨8, 8, .ro, 0x0⟩, ⟨16, 6, .ro, 0x0⟩, ⟨22, 1, .ro, 0x0⟩, ⟨23, 1, .ro, 0x0⟩]⟩ /- GCH_MP -/]

/-- Register rows of the block at 0x460000, part 0 (chapter 04). -/
def rowsPo0 : List RegRow :=
  [⟨0x460000, 0x4, 1, 0x4, 1, [⟨0, 1, .rw, 0x0⟩, ⟨1, 11, .rw, 0x0⟩]⟩ /- POSE_CTRL -/,
   ⟨0x460004, 0x4, 1, 0x4, 1, [⟨0, 3, .ro, 0x0⟩, ⟨3, 1, .ro, 0x0⟩, ⟨4, 1, .ro, 0x0⟩, ⟨5, 1, .ro, 0x0⟩, ⟨6, 1, .ro, 0x0⟩, ⟨7, 1, .ro, 0x0⟩, ⟨8, 3, .ro, 0x0⟩]⟩ /- POSE_STATUS -/,
   ⟨0x460008, 0x4, 1, 0x4, 1, [⟨0, 1, .w1c, 0x0⟩, ⟨1, 1, .w1c, 0x0⟩, ⟨2, 1, .w1c, 0x0⟩, ⟨3, 1, .w1c, 0x0⟩, ⟨4, 1, .w1c, 0x0⟩, ⟨5, 1, .w1c, 0x0⟩, ⟨6, 1, .w1c, 0x0⟩, ⟨7, 1, .w1c, 0x0⟩, ⟨8, 1, .w1c, 0x0⟩, ⟨9, 1, .w1c, 0x0⟩, ⟨10, 1, .w1c, 0x0⟩, ⟨11, 1, .w1c, 0x0⟩]⟩ /- POSE_EVENT -/,
   ⟨0x460010, 0x4, 1, 0x4, 1, [⟨0, 20, .rw, 0x0⟩]⟩ /- ORIGIN_X_LO -/,
   ⟨0x460014, 0x4, 1, 0x4, 1, [⟨0, 20, .rw, 0x0⟩]⟩ /- ORIGIN_X_HI -/,
   ⟨0x460018, 0x4, 1, 0x4, 1, [⟨0, 20, .rw, 0x0⟩]⟩ /- ORIGIN_Y_LO -/,
   ⟨0x46001c, 0x4, 1, 0x4, 1, [⟨0, 20, .rw, 0x0⟩]⟩ /- ORIGIN_Y_HI -/,
   ⟨0x460020, 0x4, 1, 0x4, 1, [⟨0, 20, .rw, 0x0⟩]⟩ /- ORIGIN_Z_LO -/,
   ⟨0x460024, 0x4, 1, 0x4, 1, [⟨0, 20, .rw, 0x0⟩]⟩ /- ORIGIN_Z_HI -/,
   ⟨0x460028, 0x4, 1, 0x4, 1, [⟨0, 16, .rw, 0x7d0⟩, ⟨16, 16, .rw, 0x1f4⟩]⟩ /- POSE_GROW_A -/,
   ⟨0x46002c, 0x4, 1, 0x4, 1, [⟨0, 8, .rw, 0x14⟩, ⟨8, 16, .rw, 0x32⟩]⟩ /- POSE_GROW_B -/,
   ⟨0x460030, 0x4, 1, 0x4, 1, [⟨0, 8, .rw, 0x14⟩, ⟨8, 8, .rw, 0x64⟩, ⟨16, 8, .rw, 0x14⟩]⟩ /- POSE_LIM -/]

/-- Register rows of the block at 0x460000, part 1 (chapter 04). -/
def rowsPo1 : List RegRow :=
  [⟨0x460034, 0x4, 1, 0x4, 1, [⟨0, 16, .rw, 0x7d0⟩, ⟨16, 12, .rw, 0x1f4⟩]⟩ /- POSE_BL -/,
   ⟨0x460040, 0x10, 4, 0x4, 1, [⟨0, 20, .rw, 0x0⟩]⟩ /- ANT_X -/,
   ⟨0x460044, 0x10, 4, 0x4, 1, [⟨0, 20, .rw, 0x0⟩]⟩ /- ANT_Y -/,
   ⟨0x460048, 0x10, 4, 0x4, 1, [⟨0, 20, .rw, 0x0⟩]⟩ /- ANT_Z -/,
   ⟨0x46004c, 0x10, 4, 0x4, 1, [⟨0, 2, .rw, 0x0⟩]⟩ /- ANT_ROLE -/,
   ⟨0x460080, 0x20, 2, 0x4, 1, [⟨0, 2, .rw, 0x3⟩, ⟨2, 6, .rw, 0x4⟩, ⟨8, 2, .rw, 0x0⟩, ⟨10, 1, .rw, 0x1⟩, ⟨11, 3, .rw, 0x0⟩, ⟨14, 1, .rw, 0x0⟩, ⟨15, 4, .rw, 0x2⟩, ⟨19, 8, .rw, 0x0⟩, ⟨27, 1, .rw, 0x0⟩, ⟨28, 1, .rw, 0x0⟩]⟩ /- IMU_CFG -/,
   ⟨0x460084, 0x20, 2, 0x4, 1, [⟨0, 2, .rw, 0x0⟩, ⟨2, 1, .rw, 0x0⟩, ⟨3, 2, .rw, 0x1⟩, ⟨5, 1, .rw, 0x0⟩, ⟨6, 2, .rw, 0x2⟩, ⟨8, 1, .rw, 0x0⟩]⟩ /- IMU_ORIENT -/,
   ⟨0x460088, 0x20, 2, 0x4, 1, [⟨0, 20, .rw, 0x0⟩]⟩ /- IMU_LAT -/,
   ⟨0x46008c, 0x20, 2, 0x4, 1, [⟨0, 20, .rw, 0x0⟩]⟩ /- IMU_LEV_X -/,
   ⟨0x460090, 0x20, 2, 0x4, 1, [⟨0, 20, .rw, 0x0⟩]⟩ /- IMU_LEV_Y -/,
   ⟨0x460094, 0x20, 2, 0x4, 1, [⟨0, 20, .rw, 0x0⟩]⟩ /- IMU_LEV_Z -/,
   ⟨0x460098, 0x20, 2, 0x4, 1, [⟨0, 16, .rw, 0x0⟩, ⟨16, 4, .rw, 0x0⟩]⟩ /- IMU_GSCALE -/]

/-- Register rows of the block at 0x460000, part 2 (chapter 04). -/
def rowsPo2 : List RegRow :=
  [⟨0x46009c, 0x20, 2, 0x4, 1, [⟨0, 16, .rw, 0x0⟩, ⟨16, 4, .rw, 0x0⟩]⟩ /- IMU_ASCALE -/,
   ⟨0x4600c0, 0x4, 1, 0x4, 1, [⟨0, 6, .rw, 0x0⟩, ⟨6, 1, .rw, 0x0⟩, ⟨7, 6, .rw, 0x0⟩, ⟨13, 1, .rw, 0x0⟩, ⟨14, 1, .rw, 0x0⟩, ⟨15, 8, .rw, 0x32⟩]⟩ /- SPD_CFG -/,
   ⟨0x4600c4, 0x4, 1, 0x4, 1, [⟨0, 20, .rw, 0x0⟩]⟩ /- SPD_K -/,
   ⟨0x460100, 0x20, 8, 0x4, 1, [⟨0, 2, .rw, 0x0⟩, ⟨2, 2, .rw, 0x0⟩]⟩ /- SEG_CFG -/,
   ⟨0x460104, 0x20, 8, 0x4, 1, [⟨0, 20, .rw, 0x0⟩]⟩ /- SEG_PIV_Y -/,
   ⟨0x460108, 0x20, 8, 0x4, 1, [⟨0, 20, .rw, 0x0⟩]⟩ /- SEG_LEN -/,
   ⟨0x46010c, 0x20, 8, 0x4, 1, [⟨0, 20, .rw, 0x0⟩]⟩ /- SEG_DMAX -/,
   ⟨0x460110, 0x20, 8, 0x4, 1, [⟨0, 20, .rw, 0x0⟩]⟩ /- SEG_HOST_X -/,
   ⟨0x460114, 0x20, 8, 0x4, 1, [⟨0, 20, .rw, 0x0⟩]⟩ /- SEG_HOST_Z -/,
   ⟨0x460118, 0x20, 8, 0x4, 1, [⟨0, 20, .rw, 0x0⟩]⟩ /- SEG_HOST_UNC -/,
   ⟨0x460200, 0x4, 1, 0x4, 1, [⟨0, 32, .rw, 0x0⟩]⟩ /- FIX_FT_LO -/,
   ⟨0x460204, 0x4, 1, 0x4, 1, [⟨0, 32, .rw, 0x0⟩]⟩ /- FIX_FT_HI -/]

/-- Register rows of the block at 0x460000, part 3 (chapter 04). -/
def rowsPo3 : List RegRow :=
  [⟨0x460208, 0x4, 1, 0x4, 1, [⟨0, 20, .rw, 0x0⟩]⟩ /- FIX_E_LO -/,
   ⟨0x46020c, 0x4, 1, 0x4, 1, [⟨0, 20, .rw, 0x0⟩]⟩ /- FIX_E_HI -/,
   ⟨0x460210, 0x4, 1, 0x4, 1, [⟨0, 20, .rw, 0x0⟩]⟩ /- FIX_N_LO -/,
   ⟨0x460214, 0x4, 1, 0x4, 1, [⟨0, 20, .rw, 0x0⟩]⟩ /- FIX_N_HI -/,
   ⟨0x460218, 0x4, 1, 0x4, 1, [⟨0, 20, .rw, 0x0⟩]⟩ /- FIX_U_LO -/,
   ⟨0x46021c, 0x4, 1, 0x4, 1, [⟨0, 20, .rw, 0x0⟩]⟩ /- FIX_U_HI -/,
   ⟨0x460220, 0x4, 1, 0x4, 1, [⟨0, 20, .rw, 0x0⟩, ⟨20, 2, .rw, 0x0⟩, ⟨22, 2, .rw, 0x0⟩]⟩ /- FIX_RAD -/,
   ⟨0x460224, 0x4, 1, 0x4, 1, [⟨0, 20, .rw, 0x0⟩, ⟨20, 1, .rw, 0x0⟩]⟩ /- FIX_HDG -/,
   ⟨0x460228, 0x4, 1, 0x4, 1, [⟨0, 20, .rw, 0x0⟩]⟩ /- FIX_HDGU -/,
   ⟨0x46022c, 0x4, 1, 0x4, 1, [⟨0, 1, .wo, 0x0⟩]⟩ /- FIX_GO -/,
   ⟨0x460300, 0x4, 32, 0x4, 1, [⟨0, 32, .ro, 0x0⟩]⟩ /- POSE_REC -/]

/-- Register rows of the block at 0x470000, part 0 (chapter 05). -/
def rowsOt0 : List RegRow :=
  [⟨0x470000, 0x40, 1024, 0x4, 1, [⟨0, 1, .ro, 0x0⟩, ⟨1, 3, .ro, 0x0⟩, ⟨4, 2, .ro, 0x0⟩, ⟨6, 8, .ro, 0x0⟩, ⟨14, 3, .ro, 0x0⟩, ⟨17, 1, .ro, 0x0⟩, ⟨18, 4, .ro, 0x0⟩, ⟨22, 1, .ro, 0x0⟩, ⟨23, 3, .ro, 0x0⟩, ⟨26, 1, .ro, 0x0⟩]⟩ /- OT_CFG -/,
   ⟨0x470004, 0x40, 1024, 0x4, 1, [⟨0, 7, .ro, 0x0⟩, ⟨0, 4, .ro, 0x0⟩, ⟨4, 4, .ro, 0x0⟩, ⟨8, 6, .ro, 0x0⟩]⟩ /- OT_TARGET -/,
   ⟨0x470008, 0x40, 1024, 0x4, 1, [⟨0, 20, .ro, 0x0⟩]⟩ /- OT_MOUNT_X -/,
   ⟨0x47000c, 0x40, 1024, 0x4, 1, [⟨0, 20, .ro, 0x0⟩]⟩ /- OT_MOUNT_Y -/,
   ⟨0x470010, 0x40, 1024, 0x4, 1, [⟨0, 20, .ro, 0x0⟩]⟩ /- OT_MOUNT_Z -/,
   ⟨0x470014, 0x40, 1024, 0x4, 1, [⟨0, 20, .ro, 0x0⟩]⟩ /- OT_FP_W -/,
   ⟨0x470018, 0x40, 1024, 0x4, 1, [⟨0, 20, .ro, 0x0⟩, ⟨20, 2, .ro, 0x0⟩]⟩ /- OT_FP_L -/,
   ⟨0x47001c, 0x40, 1024, 0x4, 1, [⟨0, 20, .ro, 0x0⟩]⟩ /- OT_FP_DX -/,
   ⟨0x470020, 0x40, 1024, 0x4, 1, [⟨0, 20, .ro, 0x0⟩]⟩ /- OT_NOM_OPEN -/,
   ⟨0x470024, 0x40, 1024, 0x4, 1, [⟨0, 20, .ro, 0x0⟩]⟩ /- OT_NOM_CLOSE -/,
   ⟨0x470028, 0x40, 1024, 0x4, 1, [⟨0, 20, .ro, 0x0⟩, ⟨20, 1, .ro, 0x0⟩, ⟨21, 1, .ro, 0x0⟩, ⟨22, 1, .ro, 0x0⟩]⟩ /- OT_LRN_OPEN -/,
   ⟨0x47002c, 0x40, 1024, 0x4, 1, [⟨0, 20, .ro, 0x0⟩, ⟨20, 1, .ro, 0x0⟩, ⟨21, 1, .ro, 0x0⟩, ⟨22, 1, .ro, 0x0⟩]⟩ /- OT_LRN_CLOSE -/]

/-- Register rows of the block at 0x470000, part 1 (chapter 05). -/
def rowsOt1 : List RegRow :=
  [⟨0x470030, 0x40, 1024, 0x4, 1, [⟨0, 20, .ro, 0x0⟩]⟩ /- OT_TRN_OPEN -/,
   ⟨0x470034, 0x40, 1024, 0x4, 1, [⟨0, 20, .ro, 0x0⟩]⟩ /- OT_TRN_CLOSE -/,
   ⟨0x470038, 0x40, 1024, 0x4, 1, [⟨0, 20, .ro, 0x0⟩, ⟨20, 2, .ro, 0x0⟩, ⟨22, 1, .ro, 0x0⟩, ⟨23, 6, .ro, 0x0⟩]⟩ /- OT_RATE -/,
   ⟨0x47003c, 0x40, 1024, 0x4, 1, [⟨0, 10, .ro, 0x0⟩, ⟨10, 1, .ro, 0x0⟩, ⟨11, 1, .ro, 0x0⟩, ⟨12, 1, .ro, 0x0⟩, ⟨13, 1, .ro, 0x0⟩, ⟨14, 1, .ro, 0x0⟩, ⟨15, 1, .ro, 0x0⟩, ⟨16, 1, .ro, 0x0⟩, ⟨17, 1, .ro, 0x0⟩, ⟨18, 1, .ro, 0x0⟩]⟩ /- OT_STATE -/]

/-- Register rows of the block at 0x480000, part 0 (chapter 06). -/
def rowsLe0 : List RegRow :=
  [⟨0x480000, 0x10, 40960, 0x4, 1, [⟨0, 3, .ro, 0x0⟩, ⟨3, 2, .ro, 0x0⟩, ⟨5, 10, .ro, 0x0⟩, ⟨15, 1, .ro, 0x0⟩, ⟨16, 1, .ro, 0x0⟩, ⟨17, 1, .ro, 0x0⟩, ⟨18, 1, .ro, 0x0⟩, ⟨19, 1, .ro, 0x0⟩, ⟨20, 1, .ro, 0x0⟩, ⟨21, 1, .ro, 0x0⟩, ⟨22, 1, .ro, 0x0⟩, ⟨23, 3, .ro, 0x0⟩, ⟨26, 1, .ro, 0x0⟩, ⟨27, 1, .ro, 0x0⟩]⟩ /- LE_HDR -/,
   ⟨0x480004, 0x10, 40960, 0x4, 1, [⟨0, 32, .ro, 0x0⟩]⟩ /- LE_FRAME -/,
   ⟨0x480008, 0x10, 40960, 0x4, 1, [⟨0, 32, .ro, 0x0⟩]⟩ /- LE_DUE -/,
   ⟨0x48000c, 0x10, 40960, 0x4, 1, [⟨0, 8, .ro, 0x0⟩, ⟨8, 20, .ro, 0x0⟩, ⟨28, 4, .ro, 0x0⟩]⟩ /- LE_PARAM -/]

/-- Register rows of the block at 0x520000, part 0 (chapter 07). -/
def rowsVd0 : List RegRow :=
  [⟨0x520000, 0x4, 1, 0x4, 1, [⟨0, 1, .rw, 0x1⟩]⟩ /- VD_CTRL -/,
   ⟨0x520004, 0x4, 1, 0x4, 1, [⟨0, 1, .ro, 0x0⟩, ⟨1, 1, .ro, 0x0⟩, ⟨2, 1, .ro, 0x1⟩, ⟨3, 1, .ro, 0x0⟩]⟩ /- VD_STATUS -/,
   ⟨0x520008, 0x4, 1, 0x4, 1, [⟨0, 1, .w1c, 0x0⟩, ⟨1, 1, .w1c, 0x0⟩, ⟨2, 1, .w1c, 0x0⟩, ⟨3, 1, .w1c, 0x0⟩, ⟨4, 1, .w1c, 0x0⟩, ⟨5, 1, .w1c, 0x0⟩, ⟨6, 1, .w1c, 0x0⟩, ⟨7, 1, .w1c, 0x0⟩]⟩ /- VD_EVENT -/,
   ⟨0x52000c, 0x4, 1, 0x4, 1, [⟨0, 8, .ro, 0x0⟩, ⟨8, 8, .ro, 0x0⟩]⟩ /- VD_GATECOMP -/,
   ⟨0x520010, 0x4, 1, 0x4, 1, [⟨0, 1, .rw, 0x0⟩]⟩ /- DBG_CFG -/,
   ⟨0x520014, 0x4, 1, 0x4, 1, [⟨0, 32, .rw, 0x2faf0800⟩]⟩ /- SP_PERIOD -/,
   ⟨0x520018, 0x4, 4, 0x4, 1, [⟨0, 32, .wo, 0x0⟩]⟩ /- LOADALL -/,
   ⟨0x520028, 0x4, 1, 0x4, 1, [⟨0, 16, .wo, 0x0⟩, ⟨16, 1, .wo, 0x0⟩]⟩ /- LOADALL_AUX -/,
   ⟨0x520100, 0x20, 2, 0x4, 1, [⟨0, 1, .rw, 0x0⟩]⟩ /- BST_CTRL -/,
   ⟨0x520104, 0x20, 2, 0x4, 1, [⟨0, 20, .rw, 0x0⟩]⟩ /- BST_SET -/,
   ⟨0x520108, 0x20, 2, 0x4, 1, [⟨0, 16, .rw, 0xc8⟩]⟩ /- BST_SLEW -/,
   ⟨0x52010c, 0x20, 2, 0x4, 1, [⟨0, 20, .ro, 0x0⟩]⟩ /- BST_REF -/]

/-- Register rows of the block at 0x520000, part 1 (chapter 07). -/
def rowsVd1 : List RegRow :=
  [⟨0x520110, 0x20, 2, 0x4, 1, [⟨0, 20, .ro, 0x0⟩]⟩ /- BST_MEAS -/,
   ⟨0x520114, 0x20, 2, 0x4, 1, [⟨0, 1, .ro, 0x1⟩, ⟨1, 1, .ro, 0x0⟩, ⟨2, 1, .ro, 0x0⟩, ⟨3, 1, .ro, 0x0⟩]⟩ /- BST_STAT -/,
   ⟨0x520200, 0x20, 8, 0x4, 1, [⟨0, 1, .rw, 0x0⟩, ⟨1, 1, .rw, 0x0⟩, ⟨2, 1, .rw, 0x0⟩, ⟨3, 7, .rw, 0x0⟩, ⟨10, 8, .rw, 0x1⟩, ⟨18, 1, .ro, 0x0⟩, ⟨19, 1, .wo, 0x0⟩]⟩ /- TRIP_CFG -/,
   ⟨0x520204, 0x20, 8, 0x4, 4, [⟨0, 32, .rw, 0x0⟩]⟩ /- TRIP_MASK -/,
   ⟨0x521000, 0x100, 16, 0x4, 1, [⟨0, 3, .ro, 0x0⟩, ⟨3, 3, .ro, 0x0⟩, ⟨6, 1, .ro, 0x0⟩, ⟨7, 1, .ro, 0x0⟩, ⟨8, 6, .ro, 0x0⟩]⟩ /- PF_CFG -/,
   ⟨0x521004, 0x100, 16, 0x4, 1, [⟨0, 20, .ro, 0x0⟩]⟩ /- PF_PULL -/,
   ⟨0x521008, 0x100, 16, 0x4, 1, [⟨0, 20, .ro, 0x0⟩]⟩ /- PF_MOVE -/,
   ⟨0x52100c, 0x100, 16, 0x4, 1, [⟨0, 20, .ro, 0x0⟩]⟩ /- PF_OC -/,
   ⟨0x521024, 0x100, 16, 0x4, 1, [⟨0, 20, .ro, 0x0⟩]⟩ /- PF_RISE -/,
   ⟨0x521010, 0x100, 16, 0x4, 1, [⟨0, 16, .ro, 0x0⟩, ⟨16, 16, .ro, 0x0⟩]⟩ /- PF_WIN_O -/,
   ⟨0x521014, 0x100, 16, 0x4, 1, [⟨0, 16, .ro, 0x0⟩, ⟨16, 16, .ro, 0x0⟩]⟩ /- PF_WIN_C -/,
   ⟨0x521018, 0x100, 16, 0x4, 1, [⟨0, 20, .ro, 0x0⟩]⟩ /- PF_KINK -/]

/-- Register rows of the block at 0x520000, part 2 (chapter 07). -/
def rowsVd2 : List RegRow :=
  [⟨0x52101c, 0x100, 16, 0x4, 1, [⟨0, 20, .ro, 0x0⟩]⟩ /- PF_DIP -/,
   ⟨0x521020, 0x100, 16, 0x4, 1, [⟨0, 20, .ro, 0x0⟩]⟩ /- PF_DW -/,
   ⟨0x521040, 0x100, 16, 0x10, 8, [⟨0, 3, .ro, 0x0⟩, ⟨3, 1, .ro, 0x0⟩]⟩ /- PH_CFG -/,
   ⟨0x521044, 0x100, 16, 0x10, 8, [⟨0, 20, .ro, 0x0⟩]⟩ /- PH_ITGT -/,
   ⟨0x521048, 0x100, 16, 0x10, 8, [⟨0, 20, .ro, 0x0⟩]⟩ /- PH_BAND -/,
   ⟨0x52104c, 0x100, 16, 0x10, 8, [⟨0, 20, .ro, 0x0⟩]⟩ /- PH_TMAX -/,
   ⟨0x524000, 0x40, 128, 0x4, 1, [⟨0, 10, .ro, 0x0⟩, ⟨10, 1, .ro, 0x0⟩, ⟨11, 4, .ro, 0x0⟩, ⟨15, 1, .ro, 0x0⟩, ⟨16, 3, .ro, 0x0⟩]⟩ /- VCH_CFG -/,
   ⟨0x524004, 0x40, 128, 0x4, 1, [⟨0, 3, .ro, 0x0⟩, ⟨3, 3, .ro, 0x0⟩, ⟨6, 2, .ro, 0x0⟩, ⟨8, 1, .ro, 0x0⟩, ⟨9, 1, .ro, 0x0⟩]⟩ /- VCH_STATE -/,
   ⟨0x524008, 0x40, 128, 0x4, 1, [⟨0, 1, .w1c, 0x0⟩, ⟨1, 1, .w1c, 0x0⟩, ⟨2, 1, .w1c, 0x0⟩, ⟨3, 1, .w1c, 0x0⟩, ⟨4, 1, .w1c, 0x0⟩]⟩ /- VCH_FAULT -/,
   ⟨0x52400c, 0x40, 128, 0x4, 1, [⟨0, 1, .wo, 0x0⟩]⟩ /- VCH_CLEAR -/,
   ⟨0x524010, 0x40, 128, 0x4, 1, [⟨0, 20, .ro, 0x0⟩]⟩ /- VCH_IMEAS -/,
   ⟨0x524014, 0x40, 128, 0x4, 1, [⟨0, 20, .ro, 0x0⟩]⟩ /- VCH_VMEAS -/]

/-- Register rows of the block at 0x520000, part 3 (chapter 07). -/
def rowsVd3 : List RegRow :=
  [⟨0x524018, 0x40, 128, 0x4, 1, [⟨0, 20, .ro, 0x0⟩]⟩ /- VCH_HEAT -/,
   ⟨0x52401c, 0x40, 128, 0x4, 1, [⟨0, 7, .rw, 0xa⟩]⟩ /- VCH_DW -/,
   ⟨0x524020, 0x40, 128, 0x4, 1, [⟨0, 4, .ro, 0x0⟩, ⟨4, 1, .ro, 0x0⟩, ⟨5, 20, .ro, 0x0⟩]⟩ /- VCH_SEAL -/,
   ⟨0x524024, 0x40, 128, 0x4, 1, [⟨0, 20, .ro, 0x0⟩]⟩ /- VCH_KPEAK -/,
   ⟨0x524028, 0x40, 128, 0x4, 1, [⟨0, 16, .rc, 0x0⟩, ⟨16, 16, .rc, 0x0⟩]⟩ /- VCH_CNT -/,
   ⟨0x528000, 0x20, 128, 0x4, 1, [⟨0, 1, .ro, 0x0⟩, ⟨1, 1, .ro, 0x0⟩, ⟨2, 1, .ro, 0x0⟩]⟩ /- PWM_CTRL -/,
   ⟨0x528004, 0x20, 128, 0x4, 1, [⟨0, 20, .rw, 0x4e200⟩]⟩ /- PWM_CHOP -/,
   ⟨0x528008, 0x20, 128, 0x4, 1, [⟨0, 32, .rw, 0x2faf0800⟩]⟩ /- PWM_PERIOD -/,
   ⟨0x52800c, 0x20, 128, 0x4, 1, [⟨0, 20, .rw, 0x80000⟩]⟩ /- PWM_DUTY -/,
   ⟨0x528010, 0x20, 128, 0x4, 1, [⟨0, 20, .rw, 0x0⟩]⟩ /- PWM_PHASE -/,
   ⟨0x528014, 0x20, 128, 0x4, 1, [⟨0, 20, .ro, 0x80000⟩]⟩ /- PWM_ACT_DUTY -/,
   ⟨0x528018, 0x20, 128, 0x4, 1, [⟨0, 32, .ro, 0x2faf0800⟩]⟩ /- PWM_ACT_PERIOD -/]

/-- Register rows of the block at 0x520000, part 4 (chapter 07). -/
def rowsVd4 : List RegRow :=
  [⟨0x529000, 0x20, 16, 0x4, 1, [⟨0, 1, .ro, 0x0⟩, ⟨1, 1, .ro, 0x0⟩, ⟨2, 1, .ro, 0x0⟩]⟩ /- AUXPWM_CTRL -/,
   ⟨0x529004, 0x20, 16, 0x4, 1, [⟨0, 20, .rw, 0x0⟩]⟩ /- AUXPWM_CHOP -/,
   ⟨0x529008, 0x20, 16, 0x4, 1, [⟨0, 32, .rw, 0x2faf0800⟩]⟩ /- AUXPWM_PERIOD -/,
   ⟨0x52900c, 0x20, 16, 0x4, 1, [⟨0, 20, .rw, 0x80000⟩]⟩ /- AUXPWM_DUTY -/,
   ⟨0x529010, 0x20, 16, 0x4, 1, [⟨0, 20, .rw, 0x0⟩]⟩ /- AUXPWM_PHASE -/,
   ⟨0x529014, 0x20, 16, 0x4, 1, [⟨0, 20, .ro, 0x80000⟩]⟩ /- AUXPWM_ACT_DUTY -/,
   ⟨0x529018, 0x20, 16, 0x4, 1, [⟨0, 32, .ro, 0x2faf0800⟩]⟩ /- AUXPWM_ACT_PERIOD -/]

/-- Register rows of the block at 0x530000, part 0 (chapter 08). -/
def rowsLk0 : List RegRow :=
  [⟨0x530000, 0x800, 16, 0x4, 1, [⟨0, 1, .rw, 0x1⟩, ⟨1, 1, .rw, 0x1⟩, ⟨2, 1, .rw, 0x1⟩]⟩ /- LK_CTRL -/,
   ⟨0x530004, 0x800, 16, 0x4, 1, [⟨0, 2, .ro, 0x0⟩, ⟨2, 5, .ro, 0x0⟩, ⟨7, 7, .ro, 0x0⟩, ⟨14, 1, .ro, 0x0⟩]⟩ /- LK_STATUS -/,
   ⟨0x530008, 0x800, 16, 0x4, 1, [⟨0, 1, .w1c, 0x0⟩, ⟨1, 1, .w1c, 0x0⟩, ⟨2, 1, .w1c, 0x0⟩, ⟨3, 1, .w1c, 0x0⟩, ⟨4, 1, .w1c, 0x0⟩, ⟨5, 1, .w1c, 0x0⟩, ⟨6, 1, .w1c, 0x0⟩, ⟨7, 1, .w1c, 0x0⟩]⟩ /- LK_EVENT -/,
   ⟨0x53000c, 0x800, 16, 0x4, 1, [⟨0, 16, .rc, 0x0⟩, ⟨16, 16, .rc, 0x0⟩]⟩ /- LK_CNT -/,
   ⟨0x530010, 0x800, 16, 0x4, 1, [⟨0, 16, .rc, 0x0⟩, ⟨16, 16, .rc, 0x0⟩]⟩ /- LK_CNT2 -/,
   ⟨0x530014, 0x800, 16, 0x4, 1, [⟨0, 32, .ro, 0x0⟩]⟩ /- LK_HOLD_LO -/,
   ⟨0x530018, 0x800, 16, 0x4, 1, [⟨0, 32, .ro, 0x0⟩]⟩ /- LK_HOLD_HI -/,
   ⟨0x53001c, 0x800, 16, 0x4, 1, [⟨0, 32, .ro, 0x0⟩]⟩ /- LK_SAFE_LO -/,
   ⟨0x530020, 0x800, 16, 0x4, 1, [⟨0, 32, .ro, 0x0⟩]⟩ /- LK_SAFE_HI -/,
   ⟨0x530024, 0x800, 16, 0x4, 1, [⟨0, 16, .ro, 0x0⟩]⟩ /- LK_VALID -/,
   ⟨0x530100, 0x800, 16, 0x40, 16, [⟨0, 3, .ro, 0x0⟩, ⟨3, 6, .ro, 0x0⟩, ⟨9, 7, .ro, 0x0⟩, ⟨16, 1, .ro, 0x0⟩, ⟨17, 1, .ro, 0x0⟩, ⟨18, 3, .ro, 0x0⟩]⟩ /- ND_STATE -/,
   ⟨0x530104, 0x800, 16, 0x40, 16, [⟨0, 16, .ro, 0x0⟩, ⟨16, 16, .ro, 0x0⟩]⟩ /- ND_ID -/]

/-- Register rows of the block at 0x530000, part 1 (chapter 08). -/
def rowsLk1 : List RegRow :=
  [⟨0x530108, 0x800, 16, 0x40, 16, [⟨0, 32, .ro, 0x0⟩]⟩ /- ND_SERIAL -/,
   ⟨0x53010c, 0x800, 16, 0x40, 16, [⟨0, 8, .ro, 0x0⟩, ⟨8, 16, .ro, 0x0⟩, ⟨24, 4, .ro, 0x0⟩]⟩ /- ND_CAPS -/,
   ⟨0x530110, 0x800, 16, 0x40, 16, [⟨0, 20, .ro, 0x0⟩]⟩ /- ND_DELAY -/,
   ⟨0x530114, 0x800, 16, 0x40, 16, [⟨0, 20, .ro, 0x0⟩]⟩ /- ND_SPREAD -/,
   ⟨0x530118, 0x800, 16, 0x40, 16, [⟨0, 16, .rw, 0x0⟩, ⟨16, 7, .rw, 0x0⟩]⟩ /- ND_EXPECT -/,
   ⟨0x53011c, 0x800, 16, 0x40, 16, [⟨0, 1, .wo, 0x0⟩, ⟨1, 1, .wo, 0x0⟩, ⟨2, 1, .wo, 0x0⟩, ⟨3, 1, .wo, 0x0⟩]⟩ /- ND_CTRL -/,
   ⟨0x530120, 0x800, 16, 0x40, 16, [⟨0, 8, .ro, 0x0⟩, ⟨8, 16, .ro, 0x0⟩]⟩ /- ND_DIAG -/,
   ⟨0x530124, 0x800, 16, 0x40, 16, [⟨0, 16, .ro, 0x0⟩]⟩ /- ND_DIAGV -/,
   ⟨0x530128, 0x800, 16, 0x40, 16, [⟨0, 16, .rc, 0x0⟩, ⟨16, 16, .rc, 0x0⟩]⟩ /- ND_CNT -/,
   ⟨0x53012c, 0x800, 16, 0x40, 16, [⟨0, 12, .ro, 0x0⟩, ⟨12, 12, .ro, 0x0⟩, ⟨24, 8, .ro, 0x0⟩]⟩ /- ND_SEQ -/]

/-- Register rows of the block at 0x540000, part 0 (chapter 09). -/
def rowsLp0 : List RegRow :=
  [⟨0x540000, 0x4, 1, 0x4, 1, [⟨0, 7, .ro, 0x0⟩, ⟨7, 1, .ro, 0x0⟩]⟩ /- LP_STATUS -/,
   ⟨0x540004, 0x4, 1, 0x4, 1, [⟨0, 1, .w1c, 0x0⟩, ⟨1, 1, .w1c, 0x0⟩, ⟨2, 1, .w1c, 0x0⟩, ⟨3, 1, .w1c, 0x0⟩, ⟨4, 1, .w1c, 0x0⟩, ⟨5, 1, .w1c, 0x0⟩, ⟨6, 1, .w1c, 0x0⟩, ⟨7, 1, .w1c, 0x0⟩]⟩ /- LP_EVENT -/,
   ⟨0x540008, 0x4, 2, 0x4, 1, [⟨0, 32, .ro, 0x0⟩]⟩ /- LP_FLAGSUM -/,
   ⟨0x540010, 0x4, 1, 0x4, 1, [⟨0, 16, .wo, 0x0⟩, ⟨16, 16, .ro, 0x0⟩]⟩ /- TB_COMMIT -/,
   ⟨0x540014, 0x4, 1, 0x4, 1, [⟨0, 3, .rw, 0x0⟩]⟩ /- LP_CAPVIEW -/,
   ⟨0x540018, 0x4, 1, 0x4, 1, [⟨0, 16, .rc, 0x0⟩]⟩ /- LP_MERGE -/,
   ⟨0x540100, 0x40, 8, 0x4, 1, [⟨0, 3, .rw, 0x0⟩, ⟨3, 2, .rw, 0x0⟩, ⟨5, 1, .rw, 0x0⟩, ⟨6, 1, .ro, 0x0⟩, ⟨7, 3, .rw, 0x0⟩, ⟨10, 8, .rw, 0x1⟩]⟩ /- TG_CTRL -/,
   ⟨0x540104, 0x40, 8, 0x4, 1, [⟨0, 20, .rw, 0x0⟩]⟩ /- TG_AMP -/,
   ⟨0x540108, 0x40, 8, 0x4, 1, [⟨0, 32, .rw, 0x0⟩]⟩ /- TG_F0 -/,
   ⟨0x54010c, 0x40, 8, 0x4, 1, [⟨0, 32, .rw, 0x0⟩]⟩ /- TG_F1 -/,
   ⟨0x540110, 0x40, 8, 0x4, 1, [⟨0, 32, .rw, 0x0⟩]⟩ /- TG_DUR -/,
   ⟨0x540114, 0x40, 8, 0x4, 1, [⟨0, 3, .rw, 0x0⟩, ⟨3, 1, .rw, 0x0⟩, ⟨4, 1, .rw, 0x0⟩, ⟨5, 1, .ro, 0x0⟩, ⟨6, 8, .rw, 0x1⟩]⟩ /- CP_CTRL -/]

/-- Register rows of the block at 0x540000, part 1 (chapter 09). -/
def rowsLp1 : List RegRow :=
  [⟨0x540118, 0x40, 8, 0x4, 1, [⟨0, 14, .ro, 0x0⟩]⟩ /- CP_COUNT -/,
   ⟨0x54011c, 0x40, 8, 0x4, 1, [⟨0, 32, .ro, 0x0⟩]⟩ /- CP_START_LO -/,
   ⟨0x540120, 0x40, 8, 0x4, 1, [⟨0, 32, .ro, 0x0⟩]⟩ /- CP_START_HI -/,
   ⟨0x540300, 0x20, 8, 0x4, 1, [⟨0, 2, .ro, 0x0⟩, ⟨2, 6, .ro, 0x0⟩, ⟨8, 6, .ro, 0x0⟩, ⟨14, 6, .ro, 0x0⟩, ⟨20, 1, .ro, 0x0⟩, ⟨21, 1, .ro, 0x0⟩]⟩ /- PC_CFG -/,
   ⟨0x540304, 0x20, 8, 0x4, 1, [⟨0, 20, .ro, 0x0⟩]⟩ /- PC_CPR -/,
   ⟨0x540308, 0x20, 8, 0x4, 1, [⟨0, 20, .ro, 0x0⟩]⟩ /- PC_COUNT -/,
   ⟨0x54030c, 0x20, 8, 0x4, 1, [⟨0, 20, .ro, 0x0⟩]⟩ /- PC_POS -/,
   ⟨0x540310, 0x20, 8, 0x4, 1, [⟨0, 20, .ro, 0x0⟩]⟩ /- PC_VEL -/,
   ⟨0x540314, 0x20, 8, 0x4, 1, [⟨0, 1, .ro, 0x0⟩, ⟨1, 1, .ro, 0x0⟩, ⟨2, 1, .ro, 0x0⟩, ⟨3, 1, .w1c, 0x0⟩]⟩ /- PC_STAT -/,
   ⟨0x540400, 0x4, 64, 0x4, 1, [⟨0, 20, .rw, 0x0⟩]⟩ /- HIN -/,
   ⟨0x540500, 0x4, 64, 0x4, 1, [⟨0, 20, .ro, 0x0⟩]⟩ /- HOUT -/,
   ⟨0x541000, 0x100, 64, 0x4, 1, [⟨0, 1, .rw, 0x0⟩, ⟨1, 1, .wo, 0x0⟩, ⟨2, 1, .wo, 0x0⟩]⟩ /- SL_CTRL -/]

/-- Register rows of the block at 0x540000, part 2 (chapter 09). -/
def rowsLp2 : List RegRow :=
  [⟨0x541004, 0x100, 64, 0x4, 1, [⟨0, 3, .ro, 0x0⟩, ⟨3, 3, .ro, 0x0⟩, ⟨6, 1, .ro, 0x0⟩]⟩ /- SL_STATE -/,
   ⟨0x541008, 0x100, 64, 0x4, 1, [⟨0, 1, .w1c, 0x0⟩, ⟨1, 1, .w1c, 0x0⟩, ⟨2, 1, .w1c, 0x0⟩, ⟨3, 1, .w1c, 0x0⟩, ⟨4, 1, .w1c, 0x0⟩, ⟨5, 1, .w1c, 0x0⟩, ⟨6, 1, .w1c, 0x0⟩, ⟨7, 1, .w1c, 0x0⟩, ⟨8, 8, .w1c, 0x0⟩]⟩ /- SL_FLAGS -/,
   ⟨0x54100c, 0x100, 64, 0x4, 1, [⟨0, 20, .rw, 0x0⟩]⟩ /- SL_SETP -/,
   ⟨0x541010, 0x100, 64, 0x4, 1, [⟨0, 20, .ro, 0x0⟩]⟩ /- SL_RAMP -/,
   ⟨0x541014, 0x100, 64, 0x4, 1, [⟨0, 16, .rc, 0x0⟩]⟩ /- SL_OVR -/,
   ⟨0x541018, 0x100, 64, 0x4, 1, [⟨0, 32, .ro, 0x0⟩]⟩ /- SL_RUNS -/,
   ⟨0x54101c, 0x100, 64, 0x4, 1, [⟨0, 16, .ro, 0x0⟩, ⟨16, 16, .rc, 0x0⟩]⟩ /- SL_LAT -/,
   ⟨0x541020, 0x100, 64, 0x4, 8, [⟨0, 20, .ro, 0x0⟩]⟩ /- SL_OUT -/,
   ⟨0x541040, 0x100, 64, 0x4, 1, [⟨0, 12, .ro, 0x0⟩, ⟨12, 2, .ro, 0x0⟩, ⟨14, 6, .ro, 0x0⟩, ⟨20, 8, .ro, 0x0⟩, ⟨28, 1, .ro, 0x0⟩, ⟨29, 2, .ro, 0x0⟩, ⟨31, 1, .ro, 0x0⟩]⟩ /- SL_CFG -/,
   ⟨0x541044, 0x100, 64, 0x4, 1, [⟨0, 16, .ro, 0x0⟩, ⟨16, 16, .ro, 0x0⟩]⟩ /- SL_TIMER -/,
   ⟨0x541048, 0x100, 64, 0x4, 1, [⟨0, 2, .ro, 0x0⟩, ⟨2, 1, .ro, 0x0⟩, ⟨3, 3, .ro, 0x0⟩, ⟨6, 1, .ro, 0x0⟩, ⟨7, 1, .ro, 0x0⟩]⟩ /- SL_SPCFG -/,
   ⟨0x54104c, 0x100, 64, 0x4, 1, [⟨0, 20, .ro, 0x0⟩]⟩ /- SL_SSLEW -/]

/-- Register rows of the block at 0x540000, part 3 (chapter 09). -/
def rowsLp3 : List RegRow :=
  [⟨0x541050, 0x100, 64, 0x4, 1, [⟨0, 20, .ro, 0x0⟩]⟩ /- SL_SPSLEW -/,
   ⟨0x541060, 0x100, 64, 0x4, 16, [⟨0, 4, .ro, 0x0⟩, ⟨4, 11, .ro, 0x0⟩, ⟨15, 5, .ro, 0x0⟩, ⟨20, 12, .ro, 0x0⟩]⟩ /- SL_IN -/,
   ⟨0x5410a0, 0x100, 64, 0x8, 8, [⟨0, 3, .ro, 0x0⟩, ⟨3, 11, .ro, 0x0⟩, ⟨14, 5, .ro, 0x0⟩]⟩ /- SL_OUTCFG -/,
   ⟨0x5410a4, 0x100, 64, 0x8, 8, [⟨0, 20, .ro, 0x0⟩]⟩ /- SL_OUTSAFE -/,
   ⟨0x548000, 0x400, 16, 0x4, 256, [⟨0, 20, .rw, 0x0⟩]⟩ /- TBL -/,
   ⟨0x550000, 0x4000, 8, 0x4, 4096, [⟨0, 20, .ro, 0x0⟩]⟩ /- PROG -/,
   ⟨0x570000, 0x4, 8192, 0x4, 1, [⟨0, 20, .ro, 0x0⟩]⟩ /- CAP -/,
   ⟨0x578000, 0x100, 64, 0x4, 64, [⟨0, 20, .ro, 0x0⟩]⟩ /- DATA -/,
   ⟨0x57c000, 0x100, 64, 0x4, 64, [⟨0, 20, .rw, 0x0⟩]⟩ /- COEF -/]

/-- Register rows of the block at 0x580000, part 0 (chapter 10). -/
def rowsLs0 : List RegRow :=
  [⟨0x580000, 0x4, 1, 0x4, 1, [⟨0, 1, .ro, 0x0⟩, ⟨1, 1, .ro, 0x1⟩, ⟨2, 1, .ro, 0x0⟩, ⟨3, 1, .ro, 0x0⟩, ⟨4, 1, .ro, 0x0⟩, ⟨5, 1, .ro, 0x0⟩, ⟨6, 1, .ro, 0x0⟩, ⟨7, 1, .ro, 0x0⟩, ⟨8, 8, .ro, 0x0⟩]⟩ /- LS_STATUS -/,
   ⟨0x580004, 0x4, 1, 0x4, 1, [⟨0, 1, .w1c, 0x0⟩, ⟨1, 1, .w1c, 0x0⟩, ⟨2, 1, .w1c, 0x0⟩, ⟨3, 1, .w1c, 0x0⟩, ⟨4, 1, .w1c, 0x0⟩, ⟨5, 1, .w1c, 0x0⟩, ⟨6, 1, .w1c, 0x0⟩, ⟨7, 1, .w1c, 0x0⟩, ⟨8, 1, .w1c, 0x0⟩, ⟨9, 1, .w1c, 0x0⟩, ⟨10, 1, .w1c, 0x0⟩]⟩ /- LS_EVENT -/,
   ⟨0x580008, 0x4, 1, 0x4, 1, [⟨0, 20, .ro, 0x0⟩]⟩ /- LS_VBAT -/,
   ⟨0x58000c, 0x4, 1, 0x4, 1, [⟨0, 7, .ro, 0x14⟩]⟩ /- LS_WD -/,
   ⟨0x580100, 0x40, 32, 0x4, 1, [⟨0, 2, .ro, 0x3⟩, ⟨2, 5, .ro, 0x4⟩, ⟨7, 1, .ro, 0x0⟩, ⟨8, 2, .ro, 0x0⟩, ⟨10, 7, .ro, 0x1⟩, ⟨17, 4, .ro, 0x0⟩, ⟨21, 3, .ro, 0x0⟩, ⟨24, 1, .ro, 0x0⟩, ⟨25, 1, .ro, 0x1⟩, ⟨26, 1, .ro, 0x0⟩, ⟨27, 1, .ro, 0x0⟩, ⟨28, 3, .ro, 0x0⟩, ⟨31, 1, .ro, 0x0⟩]⟩ /- LS_CFG -/,
   ⟨0x580104, 0x40, 32, 0x4, 1, [⟨0, 8, .ro, 0xa⟩, ⟨8, 10, .ro, 0x64⟩, ⟨18, 10, .ro, 0xa⟩]⟩ /- LS_CFG2 -/,
   ⟨0x580108, 0x40, 32, 0x4, 1, [⟨0, 1, .rw, 0x0⟩, ⟨1, 1, .rw, 0x0⟩]⟩ /- LS_SET -/,
   ⟨0x58010c, 0x40, 32, 0x4, 1, [⟨0, 20, .rw, 0x3e8⟩]⟩ /- LS_PERIOD -/,
   ⟨0x580110, 0x40, 32, 0x4, 1, [⟨0, 20, .rw, 0x0⟩]⟩ /- LS_DUTY -/,
   ⟨0x580114, 0x40, 32, 0x4, 1, [⟨0, 1, .ro, 0x0⟩, ⟨1, 1, .ro, 0x0⟩, ⟨2, 1, .ro, 0x0⟩, ⟨3, 1, .ro, 0x0⟩, ⟨4, 1, .ro, 0x0⟩, ⟨5, 1, .ro, 0x0⟩, ⟨6, 1, .ro, 0x0⟩, ⟨7, 1, .ro, 0x0⟩, ⟨8, 1, .ro, 0x0⟩, ⟨9, 1, .ro, 0x0⟩, ⟨10, 1, .ro, 0x0⟩, ⟨11, 1, .ro, 0x0⟩]⟩ /- LS_STATE -/,
   ⟨0x580118, 0x40, 32, 0x4, 1, [⟨0, 1, .w1c, 0x0⟩, ⟨1, 1, .w1c, 0x0⟩, ⟨2, 1, .w1c, 0x0⟩, ⟨3, 1, .w1c, 0x0⟩, ⟨4, 1, .w1c, 0x0⟩, ⟨5, 1, .w1c, 0x0⟩]⟩ /- LS_FAULT -/,
   ⟨0x58011c, 0x40, 32, 0x4, 1, [⟨0, 1, .wo, 0x0⟩, ⟨1, 1, .wo, 0x0⟩]⟩ /- LS_CLEAR -/]

/-- Register rows of the block at 0x580000, part 1 (chapter 10). -/
def rowsLs1 : List RegRow :=
  [⟨0x580120, 0x40, 32, 0x4, 1, [⟨0, 20, .ro, 0x0⟩]⟩ /- LS_IMEAS -/,
   ⟨0x580124, 0x40, 32, 0x4, 1, [⟨0, 20, .ro, 0x0⟩]⟩ /- LS_VOUT -/,
   ⟨0x580128, 0x40, 32, 0x4, 1, [⟨0, 20, .ro, 0x0⟩]⟩ /- LS_TEMP -/,
   ⟨0x58012c, 0x40, 32, 0x4, 1, [⟨0, 20, .ro, 0x0⟩]⟩ /- LS_CLAMPE -/,
   ⟨0x580130, 0x40, 32, 0x4, 1, [⟨0, 8, .rc, 0x0⟩, ⟨8, 8, .rc, 0x0⟩, ⟨16, 16, .rc, 0x0⟩]⟩ /- LS_CNT -/]

/-- Register rows of the block at 0x590000, part 0 (chapter 11). -/
def rowsFi0 : List RegRow :=
  [⟨0x590000, 0x4, 1, 0x4, 1, [⟨0, 1, .ro, 0x0⟩, ⟨1, 1, .ro, 0x0⟩, ⟨2, 1, .ro, 0x0⟩, ⟨3, 1, .ro, 0x0⟩, ⟨4, 1, .ro, 0x0⟩, ⟨5, 1, .ro, 0x0⟩]⟩ /- FIO_STATUS -/,
   ⟨0x590004, 0x4, 1, 0x4, 1, [⟨0, 1, .w1c, 0x0⟩, ⟨1, 1, .w1c, 0x0⟩, ⟨2, 1, .w1c, 0x0⟩, ⟨3, 1, .w1c, 0x0⟩, ⟨4, 1, .w1c, 0x0⟩, ⟨5, 1, .w1c, 0x0⟩, ⟨6, 1, .w1c, 0x0⟩, ⟨7, 1, .w1c, 0x0⟩, ⟨8, 1, .w1c, 0x0⟩, ⟨9, 1, .w1c, 0x0⟩]⟩ /- FIO_EVENT -/,
   ⟨0x590008, 0x4, 1, 0x4, 1, [⟨0, 14, .ro, 0x64⟩]⟩ /- FIO_BAR -/,
   ⟨0x59000c, 0x4, 1, 0x4, 1, [⟨0, 16, .rc, 0x0⟩, ⟨16, 16, .rc, 0x0⟩]⟩ /- FIO_BARCNT -/,
   ⟨0x590010, 0x4, 1, 0x4, 1, [⟨0, 20, .ro, 0x0⟩]⟩ /- FIO_VFIELD -/,
   ⟨0x59002c, 0x4, 1, 0x4, 1, [⟨0, 24, .ro, 0x0⟩]⟩ /- FIO_GRP -/,
   ⟨0x590014, 0x4, 2, 0x4, 1, [⟨0, 32, .ro, 0x0⟩]⟩ /- FIO_LEVEL -/,
   ⟨0x59001c, 0x4, 2, 0x4, 1, [⟨0, 32, .w1c, 0x0⟩]⟩ /- FIO_COS -/,
   ⟨0x590024, 0x4, 2, 0x4, 1, [⟨0, 32, .ro, 0x0⟩]⟩ /- FIO_OWIN -/,
   ⟨0x590100, 0x10, 64, 0x4, 1, [⟨0, 16, .ro, 0x0⟩, ⟨16, 1, .ro, 0x0⟩, ⟨17, 1, .ro, 0x0⟩, ⟨18, 1, .ro, 0x0⟩, ⟨19, 1, .ro, 0x0⟩, ⟨20, 1, .ro, 0x0⟩, ⟨21, 1, .rw, 0x0⟩, ⟨22, 1, .rw, 0x0⟩]⟩ /- FI_CFG -/,
   ⟨0x590104, 0x10, 64, 0x4, 1, [⟨0, 1, .ro, 0x0⟩, ⟨1, 1, .ro, 0x0⟩, ⟨2, 1, .ro, 0x0⟩, ⟨3, 1, .ro, 0x0⟩]⟩ /- FI_STAT -/,
   ⟨0x590108, 0x10, 64, 0x4, 1, [⟨0, 32, .ro, 0x0⟩]⟩ /- FI_STAMP -/]

/-- Register rows of the block at 0x590000, part 1 (chapter 11). -/
def rowsFi1 : List RegRow :=
  [⟨0x59010c, 0x10, 64, 0x4, 1, [⟨0, 20, .ro, 0x0⟩]⟩ /- FI_COUNT -/,
   ⟨0x590600, 0x40, 32, 0x4, 1, [⟨0, 2, .ro, 0x3⟩, ⟨2, 2, .ro, 0x0⟩, ⟨4, 1, .ro, 0x1⟩, ⟨5, 2, .ro, 0x0⟩, ⟨7, 1, .ro, 0x0⟩, ⟨8, 1, .ro, 0x0⟩]⟩ /- FO_CFG -/,
   ⟨0x590604, 0x40, 32, 0x4, 1, [⟨0, 1, .rw, 0x0⟩, ⟨1, 1, .rw, 0x0⟩]⟩ /- FO_SET -/,
   ⟨0x590608, 0x40, 32, 0x4, 1, [⟨0, 20, .rw, 0x3e8⟩]⟩ /- FO_PERIOD -/,
   ⟨0x59060c, 0x40, 32, 0x4, 1, [⟨0, 20, .rw, 0x0⟩]⟩ /- FO_DUTY -/,
   ⟨0x590610, 0x40, 32, 0x4, 1, [⟨0, 1, .ro, 0x0⟩, ⟨1, 1, .ro, 0x0⟩, ⟨2, 1, .ro, 0x0⟩, ⟨3, 1, .ro, 0x0⟩, ⟨4, 1, .ro, 0x0⟩, ⟨5, 1, .ro, 0x0⟩, ⟨6, 1, .ro, 0x0⟩, ⟨7, 1, .ro, 0x0⟩, ⟨8, 1, .ro, 0x0⟩]⟩ /- FO_STATE -/,
   ⟨0x590614, 0x40, 32, 0x4, 1, [⟨0, 1, .w1c, 0x0⟩, ⟨1, 1, .w1c, 0x0⟩, ⟨2, 1, .w1c, 0x0⟩, ⟨3, 1, .w1c, 0x0⟩, ⟨4, 1, .w1c, 0x0⟩]⟩ /- FO_FAULT -/,
   ⟨0x590618, 0x40, 32, 0x4, 1, [⟨0, 1, .wo, 0x0⟩]⟩ /- FO_CLEAR -/,
   ⟨0x59061c, 0x40, 32, 0x4, 1, [⟨0, 20, .ro, 0x0⟩]⟩ /- FO_IMEAS -/,
   ⟨0x590620, 0x40, 32, 0x4, 1, [⟨0, 20, .ro, 0x0⟩]⟩ /- FO_VOUT -/,
   ⟨0x590624, 0x40, 32, 0x4, 1, [⟨0, 16, .rc, 0x0⟩]⟩ /- FO_CNT -/]

/-- Register rows of the block at 0x5a0000, part 0 (chapter 12). -/
def rowsBp0 : List RegRow :=
  [⟨0x5a0000, 0x4, 1, 0x4, 1, [⟨0, 6, .ro, 0x3f⟩]⟩ /- BUS_STATUS -/,
   ⟨0x5a0004, 0x4, 1, 0x4, 1, [⟨0, 6, .ro, 0x0⟩, ⟨8, 6, .w1c, 0x0⟩]⟩ /- BUS_EVENT -/,
   ⟨0x5a0100, 0x100, 6, 0x4, 1, [⟨0, 2, .rw, 0x0⟩, ⟨2, 1, .wo, 0x0⟩, ⟨3, 1, .rw, 0x1⟩]⟩ /- BP_CTRL -/,
   ⟨0x5a0104, 0x100, 6, 0x4, 1, [⟨0, 3, .ro, 0x0⟩, ⟨3, 2, .ro, 0x0⟩, ⟨5, 1, .ro, 0x0⟩, ⟨6, 2, .ro, 0x0⟩, ⟨8, 1, .ro, 0x0⟩, ⟨9, 6, .ro, 0x0⟩, ⟨15, 5, .ro, 0x0⟩, ⟨20, 1, .ro, 0x0⟩]⟩ /- BP_STATUS -/,
   ⟨0x5a0108, 0x100, 6, 0x4, 1, [⟨0, 9, .ro, 0x0⟩, ⟨16, 7, .ro, 0x0⟩, ⟨23, 1, .ro, 0x0⟩]⟩ /- BP_ERRCNT -/,
   ⟨0x5a010c, 0x100, 6, 0x4, 1, [⟨0, 1, .w1c, 0x0⟩, ⟨1, 1, .w1c, 0x0⟩, ⟨2, 1, .w1c, 0x0⟩, ⟨3, 1, .w1c, 0x0⟩, ⟨4, 1, .w1c, 0x0⟩, ⟨5, 1, .w1c, 0x0⟩, ⟨6, 1, .w1c, 0x0⟩, ⟨7, 1, .w1c, 0x0⟩, ⟨8, 1, .w1c, 0x0⟩, ⟨9, 1, .w1c, 0x0⟩, ⟨10, 1, .w1c, 0x0⟩, ⟨11, 1, .w1c, 0x0⟩]⟩ /- BP_EVENT -/,
   ⟨0x5a0110, 0x100, 6, 0x4, 1, [⟨0, 3, .ro, 0x0⟩, ⟨3, 1, .ro, 0x0⟩, ⟨4, 1, .ro, 0x0⟩]⟩ /- BP_ERRLOG -/,
   ⟨0x5a0114, 0x100, 6, 0x4, 1, [⟨0, 16, .rc, 0x0⟩, ⟨16, 16, .rc, 0x0⟩]⟩ /- BP_CNT_A -/,
   ⟨0x5a0118, 0x100, 6, 0x4, 1, [⟨0, 16, .rc, 0x0⟩, ⟨16, 16, .rc, 0x0⟩]⟩ /- BP_CNT_B -/,
   ⟨0x5a011c, 0x100, 6, 0x4, 1, [⟨0, 16, .rc, 0x0⟩, ⟨16, 16, .rc, 0x0⟩]⟩ /- BP_CNT_C -/,
   ⟨0x5a0120, 0x100, 6, 0x4, 1, [⟨0, 16, .rc, 0x0⟩, ⟨16, 16, .rc, 0x0⟩]⟩ /- BP_CNT_D -/,
   ⟨0x5a0124, 0x100, 6, 0x4, 1, [⟨0, 16, .rc, 0x0⟩, ⟨16, 16, .rc, 0x0⟩]⟩ /- BP_CNT_E -/]

/-- Register rows of the block at 0x5a0000, part 1 (chapter 12). -/
def rowsBp1 : List RegRow :=
  [⟨0x5a0128, 0x100, 6, 0x4, 1, [⟨0, 16, .rc, 0x0⟩, ⟨16, 16, .rc, 0x0⟩]⟩ /- BP_CNT_F -/,
   ⟨0x5a012c, 0x100, 6, 0x4, 1, [⟨0, 16, .rc, 0x0⟩, ⟨16, 16, .rc, 0x0⟩]⟩ /- BP_CNT_G -/,
   ⟨0x5a0130, 0x100, 6, 0x4, 1, [⟨0, 5, .ro, 0x0⟩, ⟨5, 8, .ro, 0x0⟩, ⟨13, 7, .ro, 0x0⟩, ⟨20, 7, .ro, 0x0⟩]⟩ /- BP_NBT -/,
   ⟨0x5a0134, 0x100, 6, 0x4, 1, [⟨0, 5, .ro, 0x0⟩, ⟨5, 5, .ro, 0x0⟩, ⟨10, 4, .ro, 0x0⟩, ⟨14, 4, .ro, 0x0⟩, ⟨18, 1, .ro, 0x0⟩, ⟨19, 7, .ro, 0x0⟩, ⟨26, 1, .ro, 0x0⟩]⟩ /- BP_DBT -/,
   ⟨0x5a0138, 0x100, 6, 0x4, 1, [⟨0, 2, .ro, 0x0⟩, ⟨2, 3, .ro, 0x0⟩, ⟨5, 3, .ro, 0x0⟩, ⟨8, 6, .ro, 0x0⟩, ⟨14, 1, .ro, 0x0⟩, ⟨15, 2, .ro, 0x0⟩]⟩ /- BP_TT -/,
   ⟨0x5a013c, 0x100, 6, 0x4, 1, [⟨0, 20, .ro, 0x0⟩]⟩ /- BP_CYCLEN -/,
   ⟨0x5a0140, 0x100, 6, 0x4, 1, [⟨0, 29, .ro, 0x0⟩]⟩ /- BP_REFID -/,
   ⟨0x5a0144, 0x100, 6, 0x4, 1, [⟨0, 29, .ro, 0x0⟩, ⟨29, 1, .ro, 0x0⟩, ⟨30, 1, .ro, 0x0⟩, ⟨31, 1, .ro, 0x0⟩]⟩ /- BP_HALT -/,
   ⟨0x5a0148, 0x100, 6, 0x4, 1, [⟨0, 16, .ro, 0x0⟩]⟩ /- BP_HALTKEY -/,
   ⟨0x5a014c, 0x100, 6, 0x4, 1, [⟨0, 29, .ro, 0x0⟩, ⟨29, 1, .ro, 0x0⟩, ⟨30, 1, .ro, 0x0⟩]⟩ /- BP_WAKE -/,
   ⟨0x5a0150, 0x100, 6, 0x4, 1, [⟨0, 29, .ro, 0x0⟩]⟩ /- BP_WAKEM -/,
   ⟨0x5a0154, 0x100, 6, 0x4, 1, [⟨0, 8, .ro, 0x0⟩, ⟨8, 8, .ro, 0x0⟩]⟩ /- BP_WAKED -/]

/-- Register rows of the block at 0x5a0000, part 2 (chapter 12). -/
def rowsBp2 : List RegRow :=
  [⟨0x5a0158, 0x100, 6, 0x4, 1, [⟨0, 20, .ro, 0x0⟩]⟩ /- BP_CYCTIME -/,
   ⟨0x5a015c, 0x100, 6, 0x4, 1, [⟨0, 32, .ro, 0x0⟩]⟩ /- BP_REFFT_LO -/,
   ⟨0x5a0160, 0x100, 6, 0x4, 1, [⟨0, 32, .ro, 0x0⟩]⟩ /- BP_REFFT_HI -/,
   ⟨0x5a0164, 0x100, 6, 0x4, 1, [⟨0, 6, .rw, 0x0⟩, ⟨6, 6, .rw, 0x0⟩, ⟨12, 1, .rw, 0x0⟩]⟩ /- SM_IDX -/,
   ⟨0x5a0168, 0x100, 6, 0x4, 1, [⟨0, 20, .ro, 0x0⟩]⟩ /- SM_DATA -/,
   ⟨0x5a016c, 0x100, 6, 0x4, 1, [⟨0, 16, .ro, 0x0⟩, ⟨16, 2, .ro, 0x0⟩]⟩ /- SM_DATA2 -/,
   ⟨0x5a1000, 0x80, 16, 0x4, 1, [⟨0, 3, .wo, 0x0⟩, ⟨3, 8, .wo, 0x0⟩, ⟨11, 1, .wo, 0x0⟩, ⟨12, 2, .wo, 0x0⟩]⟩ /- BV_SEL -/,
   ⟨0x5a1004, 0x80, 16, 0x4, 1, [⟨0, 1, .ro, 0x0⟩, ⟨1, 3, .ro, 0x0⟩]⟩ /- BV_STAT -/,
   ⟨0x5a1008, 0x80, 16, 0x4, 1, [⟨0, 29, .rw, 0x0⟩, ⟨29, 1, .rw, 0x0⟩, ⟨30, 1, .rw, 0x0⟩, ⟨31, 1, .rw, 0x0⟩]⟩ /- BV_HDR -/,
   ⟨0x5a100c, 0x80, 16, 0x4, 1, [⟨0, 4, .rw, 0x0⟩, ⟨8, 1, .rw, 0x0⟩, ⟨4, 1, .ro, 0x0⟩, ⟨5, 1, .ro, 0x0⟩, ⟨6, 1, .ro, 0x0⟩, ⟨7, 1, .ro, 0x0⟩]⟩ /- BV_META -/,
   ⟨0x5a1010, 0x80, 16, 0x4, 1, [⟨0, 32, .ro, 0x0⟩]⟩ /- BV_STAMP_LO -/,
   ⟨0x5a1014, 0x80, 16, 0x4, 1, [⟨0, 32, .ro, 0x0⟩]⟩ /- BV_STAMP_HI -/]

/-- Register rows of the block at 0x5a0000, part 3 (chapter 12). -/
def rowsBp3 : List RegRow :=
  [⟨0x5a1018, 0x80, 16, 0x4, 1, [⟨0, 29, .ro, 0x0⟩, ⟨29, 1, .ro, 0x0⟩, ⟨30, 1, .ro, 0x0⟩, ⟨31, 1, .ro, 0x0⟩]⟩ /- BV_CFG_ID -/,
   ⟨0x5a101c, 0x80, 16, 0x4, 1, [⟨0, 29, .ro, 0x0⟩]⟩ /- BV_CFG_MASK -/,
   ⟨0x5a1020, 0x80, 16, 0x4, 16, [⟨0, 32, .rw, 0x0⟩]⟩ /- BV_DATA -/]

/-- Register rows of the block at 0x5b0000, part 0 (chapter 13). -/
def rowsHp0 : List RegRow :=
  [⟨0x5b0000, 0x4, 1, 0x4, 1, [⟨0, 4, .ro, 0x0⟩]⟩ /- HP_STATUS -/,
   ⟨0x5b0004, 0x4, 1, 0x4, 1, [⟨0, 4, .w1c, 0x0⟩, ⟨4, 4, .w1c, 0x0⟩, ⟨8, 1, .w1c, 0x0⟩, ⟨9, 1, .w1c, 0x0⟩]⟩ /- HP_EVENT -/,
   ⟨0x5b0008, 0x4, 1, 0x4, 1, [⟨0, 15, .ro, 0x0⟩]⟩ /- SUP_IRQ -/,
   ⟨0x5b000c, 0x4, 1, 0x4, 1, [⟨0, 15, .rw, 0x7fff⟩]⟩ /- SUP_IRQ_EN -/,
   ⟨0x5b0010, 0x4, 1, 0x4, 1, [⟨0, 6, .rw, 0x0⟩, ⟨6, 2, .rw, 0x0⟩]⟩ /- SUP_VEC -/,
   ⟨0x5b0020, 0x4, 4, 0x4, 1, [⟨0, 10, .ro, 0x0⟩]⟩ /- HP_DIRECT -/,
   ⟨0x5b0040, 0x4, 1, 0x4, 1, [⟨0, 32, .wo, 0x0⟩]⟩ /- HP_HALT -/,
   ⟨0x5b1000, 0x20, 1024, 0x4, 1, [⟨0, 2, .ro, 0x0⟩, ⟨2, 2, .ro, 0x0⟩, ⟨4, 1, .ro, 0x0⟩, ⟨5, 1, .ro, 0x0⟩, ⟨6, 1, .ro, 0x0⟩, ⟨7, 4, .ro, 0x3⟩, ⟨11, 5, .ro, 0x0⟩]⟩ /- CTX_CFG -/,
   ⟨0x5b1004, 0x20, 1024, 0x4, 1, [⟨0, 1, .ro, 0x0⟩, ⟨1, 1, .ro, 0x0⟩, ⟨2, 1, .ro, 0x0⟩, ⟨3, 1, .ro, 0x0⟩, ⟨4, 1, .rw, 0x0⟩, ⟨5, 1, .ro, 0x0⟩, ⟨6, 1, .ro, 0x0⟩, ⟨7, 1, .ro, 0x0⟩, ⟨8, 1, .ro, 0x0⟩, ⟨9, 1, .ro, 0x0⟩, ⟨10, 1, .ro, 0x0⟩, ⟨11, 1, .ro, 0x0⟩]⟩ /- CTX_PERM -/,
   ⟨0x5b1008, 0x20, 1024, 0x4, 1, [⟨0, 32, .ro, 0x0⟩]⟩ /- CTX_READ -/,
   ⟨0x5b100c, 0x20, 1024, 0x4, 1, [⟨0, 32, .ro, 0x0⟩]⟩ /- CTX_OWN -/,
   ⟨0x5b1010, 0x20, 1024, 0x4, 1, [⟨0, 32, .ro, 0x0⟩]⟩ /- CTX_INH -/]

/-- Register rows of the block at 0x5b0000, part 1 (chapter 13). -/
def rowsHp1 : List RegRow :=
  [⟨0x5b1014, 0x20, 1024, 0x4, 1, [⟨0, 16, .rc, 0x0⟩, ⟨16, 16, .rc, 0x0⟩]⟩ /- CTX_CNT -/,
   ⟨0x5b1018, 0x20, 1024, 0x4, 1, [⟨0, 32, .ro, 0x0⟩]⟩ /- CTX_SERVED -/,
   ⟨0x5be000, 0x4, 1024, 0x4, 1, [⟨0, 10, .ro, 0x0⟩, ⟨10, 1, .ro, 0x0⟩, ⟨11, 2, .ro, 0x0⟩, ⟨13, 11, .ro, 0x0⟩]⟩ /- OWN -/,
   ⟨0x5ba000, 0x10, 64, 0x4, 1, [⟨0, 32, .rw, 0x0⟩]⟩ /- MSIX0_ADDR_LO -/,
   ⟨0x5ba004, 0x10, 64, 0x4, 1, [⟨0, 32, .rw, 0x0⟩]⟩ /- MSIX0_ADDR_HI -/,
   ⟨0x5ba008, 0x10, 64, 0x4, 1, [⟨0, 32, .rw, 0x0⟩]⟩ /- MSIX0_DATA -/,
   ⟨0x5ba00c, 0x10, 64, 0x4, 1, [⟨0, 1, .rw, 0x1⟩]⟩ /- MSIX0_CTRL -/,
   ⟨0x5bb000, 0x4, 2, 0x4, 1, [⟨0, 32, .ro, 0x0⟩]⟩ /- MSIX0_PBA -/,
   ⟨0x5bc000, 0x10, 64, 0x4, 1, [⟨0, 32, .rw, 0x0⟩]⟩ /- MSIX1_ADDR_LO -/,
   ⟨0x5bc004, 0x10, 64, 0x4, 1, [⟨0, 32, .rw, 0x0⟩]⟩ /- MSIX1_ADDR_HI -/,
   ⟨0x5bc008, 0x10, 64, 0x4, 1, [⟨0, 32, .rw, 0x0⟩]⟩ /- MSIX1_DATA -/,
   ⟨0x5bc00c, 0x10, 64, 0x4, 1, [⟨0, 1, .rw, 0x1⟩]⟩ /- MSIX1_CTRL -/]

/-- Register rows of the block at 0x5b0000, part 2 (chapter 13). -/
def rowsHp2 : List RegRow :=
  [⟨0x5bd000, 0x4, 2, 0x4, 1, [⟨0, 32, .ro, 0x0⟩]⟩ /- MSIX1_PBA -/]

/-- Register rows of the block at 0x5c0000, part 0 (chapter 15). -/
def rowsRs0 : List RegRow :=
  [⟨0x5c0000, 0x4, 1, 0x4, 1, [⟨0, 2, .ro, 0x0⟩, ⟨2, 2, .ro, 0x0⟩, ⟨4, 2, .ro, 0x0⟩, ⟨6, 3, .ro, 0x7⟩, ⟨9, 3, .ro, 0x0⟩, ⟨12, 1, .ro, 0x0⟩, ⟨13, 1, .ro, 0x0⟩, ⟨14, 3, .ro, 0x0⟩, ⟨17, 4, .ro, 0x0⟩]⟩ /- RES_STATE -/,
   ⟨0x5c0004, 0x4, 1, 0x4, 1, [⟨0, 1, .w1c, 0x0⟩, ⟨1, 1, .w1c, 0x0⟩, ⟨2, 1, .w1c, 0x0⟩, ⟨3, 1, .w1c, 0x0⟩, ⟨4, 1, .w1c, 0x0⟩, ⟨5, 1, .w1c, 0x0⟩, ⟨6, 1, .w1c, 0x0⟩, ⟨7, 1, .w1c, 0x0⟩, ⟨8, 1, .w1c, 0x0⟩, ⟨9, 1, .w1c, 0x0⟩, ⟨10, 1, .w1c, 0x0⟩, ⟨11, 1, .w1c, 0x0⟩, ⟨12, 1, .w1c, 0x0⟩, ⟨13, 1, .w1c, 0x0⟩]⟩ /- RES_EVENT -/,
   ⟨0x5c0008, 0x4, 1, 0x4, 1, [⟨0, 1, .rw, 0x0⟩, ⟨1, 1, .rw, 0x0⟩]⟩ /- RES_CTRL -/,
   ⟨0x5c000c, 0x4, 1, 0x4, 1, [⟨0, 3, .wo, 0x0⟩]⟩ /- RES_CMD -/,
   ⟨0x5c0010, 0x4, 1, 0x4, 1, [⟨0, 2, .ro, 0x0⟩, ⟨2, 3, .ro, 0x0⟩, ⟨5, 8, .ro, 0x0⟩]⟩ /- RES_CAUSE -/,
   ⟨0x5c0014, 0x4, 1, 0x4, 1, [⟨0, 3, .ro, 0x0⟩]⟩ /- RES_HSCAUSE -/,
   ⟨0x5c0018, 0x4, 1, 0x4, 1, [⟨0, 32, .ro, 0x0⟩]⟩ /- RES_HSFT_LO -/,
   ⟨0x5c001c, 0x4, 1, 0x4, 1, [⟨0, 32, .ro, 0x0⟩]⟩ /- RES_HSFT_HI -/,
   ⟨0x5c0020, 0x4, 1, 0x4, 1, [⟨0, 10, .ro, 0x0⟩, ⟨16, 10, .rc, 0x0⟩]⟩ /- RES_TIMES -/,
   ⟨0x5c0024, 0x4, 1, 0x4, 1, [⟨0, 16, .rc, 0x0⟩, ⟨16, 16, .rc, 0x0⟩]⟩ /- RES_CNT_A -/,
   ⟨0x5c0028, 0x4, 1, 0x4, 1, [⟨0, 16, .rc, 0x0⟩, ⟨16, 16, .rc, 0x0⟩]⟩ /- RES_CNT_B -/,
   ⟨0x5c002c, 0x4, 1, 0x4, 1, [⟨0, 16, .rc, 0x0⟩, ⟨16, 16, .rc, 0x0⟩]⟩ /- RES_CNT_C -/]

/-- Register rows of the block at 0x5c0000, part 1 (chapter 15). -/
def rowsRs1 : List RegRow :=
  [⟨0x5c0030, 0x4, 1, 0x4, 1, [⟨0, 4, .ro, 0x0⟩, ⟨4, 2, .ro, 0x0⟩, ⟨6, 2, .ro, 0x0⟩]⟩ /- RES_ECCLOG -/,
   ⟨0x5c0034, 0x4, 1, 0x4, 1, [⟨0, 32, .ro, 0x0⟩]⟩ /- RES_ECCADDR -/,
   ⟨0x5c0100, 0x10, 5, 0x4, 1, [⟨0, 3, .ro, 0x3⟩, ⟨3, 3, .ro, 0x0⟩, ⟨6, 1, .ro, 0x0⟩, ⟨7, 1, .ro, 0x0⟩, ⟨8, 1, .ro, 0x0⟩]⟩ /- REF_STAT -/,
   ⟨0x5c0104, 0x10, 5, 0x4, 1, [⟨0, 20, .ro, 0x0⟩]⟩ /- REF_D01 -/,
   ⟨0x5c0108, 0x10, 5, 0x4, 1, [⟨0, 20, .ro, 0x0⟩]⟩ /- REF_D0A -/,
   ⟨0x5c010c, 0x10, 5, 0x4, 1, [⟨0, 20, .ro, 0x0⟩]⟩ /- REF_D1A -/]

/-- Register rows of the block at 0x5d0000, part 0 (chapter 16). -/
def rowsPw0 : List RegRow :=
  [⟨0x5d0000, 0x4, 1, 0x4, 1, [⟨0, 1, .ro, 0x0⟩, ⟨1, 1, .ro, 0x0⟩, ⟨2, 1, .ro, 0x0⟩, ⟨3, 3, .ro, 0x7⟩, ⟨6, 2, .ro, 0x0⟩, ⟨8, 2, .ro, 0x0⟩, ⟨10, 1, .ro, 0x0⟩]⟩ /- PWR_STATUS -/,
   ⟨0x5d0004, 0x4, 1, 0x4, 1, [⟨0, 1, .w1c, 0x0⟩, ⟨1, 1, .w1c, 0x0⟩, ⟨2, 1, .w1c, 0x0⟩, ⟨3, 1, .w1c, 0x0⟩, ⟨4, 1, .w1c, 0x0⟩, ⟨5, 1, .w1c, 0x0⟩, ⟨6, 1, .w1c, 0x0⟩, ⟨7, 1, .w1c, 0x0⟩]⟩ /- PWR_EVENT -/,
   ⟨0x5d0008, 0x4, 1, 0x4, 1, [⟨0, 3, .ro, 0x0⟩, ⟨3, 1, .ro, 0x0⟩, ⟨4, 1, .ro, 0x0⟩, ⟨5, 4, .ro, 0x0⟩]⟩ /- PWR_AOLOG -/,
   ⟨0x5d000c, 0x4, 1, 0x4, 1, [⟨0, 1, .rw, 0x0⟩, ⟨1, 8, .rw, 0x46⟩]⟩ /- PWR_BO -/,
   ⟨0x5d0010, 0x4, 1, 0x4, 1, [⟨0, 20, .ro, 0x0⟩]⟩ /- PWR_VHOLD -/,
   ⟨0x5d0014, 0x4, 1, 0x4, 1, [⟨0, 2, .wo, 0x0⟩]⟩ /- PWR_CMD -/,
   ⟨0x5d0018, 0x4, 1, 0x4, 1, [⟨0, 1, .rw, 0x1⟩, ⟨1, 1, .rw, 0x1⟩, ⟨2, 1, .rw, 0x0⟩, ⟨8, 3, .ro, 0x0⟩, ⟨11, 3, .ro, 0x0⟩]⟩ /- PWR_WAKE -/,
   ⟨0x5d001c, 0x4, 1, 0x4, 1, [⟨0, 8, .rw, 0x3c⟩]⟩ /- LD_CTRL -/,
   ⟨0x5d0020, 0x4, 1, 0x4, 1, [⟨0, 32, .ro, 0x0⟩]⟩ /- RTC_NOW_LO -/,
   ⟨0x5d0024, 0x4, 1, 0x4, 1, [⟨0, 8, .ro, 0x0⟩]⟩ /- RTC_NOW_HI -/,
   ⟨0x5d0028, 0x4, 1, 0x4, 1, [⟨0, 32, .rw, 0x0⟩]⟩ /- RTC_ALARM_LO -/,
   ⟨0x5d002c, 0x4, 1, 0x4, 1, [⟨0, 8, .rw, 0x0⟩]⟩ /- RTC_ALARM_HI -/]

/-- Register rows of the block at 0x5d0000, part 1 (chapter 16). -/
def rowsPw1 : List RegRow :=
  [⟨0x5d0030, 0x4, 1, 0x4, 1, [⟨0, 32, .ro, 0x0⟩]⟩ /- SEQ_A -/,
   ⟨0x5d0034, 0x4, 1, 0x4, 1, [⟨0, 32, .ro, 0x0⟩]⟩ /- SEQ_B -/,
   ⟨0x5d0038, 0x4, 1, 0x4, 1, [⟨0, 32, .ro, 0x0⟩]⟩ /- SEQ_LD -/,
   ⟨0x5d003c, 0x4, 1, 0x4, 1, [⟨0, 16, .ro, 0x0⟩, ⟨16, 16, .ro, 0x0⟩]⟩ /- PWR_TIMES -/,
   ⟨0x5d0040, 0x4, 1, 0x4, 1, [⟨0, 15, .rw, 0x0⟩, ⟨15, 1, .rw, 0x0⟩]⟩ /- BANK_IDX -/,
   ⟨0x5d0044, 0x4, 1, 0x4, 1, [⟨0, 32, .ro, 0x0⟩]⟩ /- BANK_DATA -/]

/-- Register rows of the block at 0x5e0000, part 0 (chapter 17). -/
def rowsRc0 : List RegRow :=
  [⟨0x5e0000, 0x4, 1, 0x4, 1, [⟨0, 1, .w1c, 0x0⟩, ⟨1, 1, .w1c, 0x0⟩, ⟨2, 1, .w1c, 0x0⟩, ⟨3, 1, .w1c, 0x0⟩, ⟨4, 1, .w1c, 0x0⟩, ⟨5, 1, .w1c, 0x0⟩, ⟨6, 1, .w1c, 0x0⟩]⟩ /- REC_EVENT -/,
   ⟨0x5e0004, 0x4, 1, 0x4, 1, [⟨0, 17, .ro, 0x0⟩, ⟨17, 1, .ro, 0x0⟩, ⟨18, 1, .ro, 0x0⟩, ⟨19, 13, .ro, 0x0⟩]⟩ /- CV_STATUS -/,
   ⟨0x5e0008, 0x4, 1, 0x4, 1, [⟨0, 32, .ro, 0x0⟩]⟩ /- CV_DROPPED -/,
   ⟨0x5e000c, 0x4, 1, 0x4, 1, [⟨0, 16, .rw, 0x0⟩, ⟨16, 4, .rw, 0x0⟩]⟩ /- CV_IDX -/,
   ⟨0x5e0010, 0x4, 1, 0x4, 1, [⟨0, 32, .ro, 0x0⟩]⟩ /- CV_DATA -/,
   ⟨0x5e0014, 0x4, 1, 0x4, 1, [⟨0, 32, .wo, 0x0⟩]⟩ /- CV_ERASE -/,
   ⟨0x5e0018, 0x4, 1, 0x4, 1, [⟨0, 16, .rc, 0x0⟩]⟩ /- CV_QLOST -/,
   ⟨0x5e0020, 0x4, 1, 0x4, 1, [⟨0, 32, .ro, 0x0⟩]⟩ /- MU_WRITTEN -/,
   ⟨0x5e0024, 0x4, 1, 0x4, 1, [⟨0, 1, .rw, 0x0⟩]⟩ /- MU_CTRL -/,
   ⟨0x5e0028, 0x4, 1, 0x4, 1, [⟨0, 12, .rw, 0x0⟩, ⟨12, 3, .rw, 0x0⟩]⟩ /- MU_IDX -/,
   ⟨0x5e002c, 0x4, 1, 0x4, 1, [⟨0, 32, .ro, 0x0⟩]⟩ /- MU_DATA -/,
   ⟨0x5e0030, 0x4, 1, 0x4, 1, [⟨0, 16, .rc, 0x0⟩]⟩ /- MU_SKIP -/]

/-- Register rows of the block at 0x5e0000, part 1 (chapter 17). -/
def rowsRc1 : List RegRow :=
  [⟨0x5e0040, 0x4, 1, 0x4, 1, [⟨0, 10, .rw, 0x0⟩]⟩ /- TAG_IDX -/,
   ⟨0x5e0044, 0x4, 1, 0x4, 1, [⟨0, 32, .rw, 0x0⟩]⟩ /- TAG_DATA -/,
   ⟨0x5e0048, 0x4, 1, 0x4, 1, [⟨0, 32, .ro, 0x0⟩]⟩ /- TAG_WCOUNT -/,
   ⟨0x5e0100, 0x4, 1, 0x4, 1, [⟨0, 1, .rw, 0x0⟩, ⟨1, 1, .wo, 0x0⟩]⟩ /- PMC_CTRL -/,
   ⟨0x5e0104, 0x4, 1, 0x4, 1, [⟨0, 32, .w1c, 0x0⟩]⟩ /- PMC_OVF_LO -/,
   ⟨0x5e0108, 0x4, 1, 0x4, 1, [⟨0, 32, .w1c, 0x0⟩]⟩ /- PMC_OVF_HI -/,
   ⟨0x5e0200, 0x10, 64, 0x4, 1, [⟨0, 10, .rw, 0x0⟩, ⟨10, 1, .rw, 0x0⟩, ⟨11, 1, .rw, 0x0⟩, ⟨12, 1, .rw, 0x0⟩]⟩ /- PMC_CFG -/,
   ⟨0x5e0204, 0x10, 64, 0x4, 1, [⟨0, 32, .ro, 0x0⟩]⟩ /- PMC_LO -/,
   ⟨0x5e0208, 0x10, 64, 0x4, 1, [⟨0, 8, .ro, 0x0⟩]⟩ /- PMC_HI -/,
   ⟨0x5e0600, 0x4, 1, 0x4, 1, [⟨0, 8, .rw, 0x0⟩, ⟨8, 1, .rw, 0x0⟩, ⟨9, 1, .rw, 0x0⟩, ⟨10, 6, .rw, 0x0⟩, ⟨16, 1, .rw, 0x0⟩]⟩ /- SMP_CTRL -/,
   ⟨0x5e0604, 0x4, 1, 0x4, 1, [⟨0, 16, .rw, 0x400⟩]⟩ /- SMP_PERIOD -/,
   ⟨0x5e0608, 0x4, 1, 0x4, 1, [⟨0, 11, .ro, 0x0⟩, ⟨11, 1, .ro, 0x0⟩]⟩ /- SMP_COUNT -/]

/-- Register rows of the block at 0x5e0000, part 2 (chapter 17). -/
def rowsRc2 : List RegRow :=
  [⟨0x5e1000, 0x10, 1024, 0x4, 4, [⟨0, 32, .ro, 0x0⟩]⟩ /- SMP_BUF -/]

/-- The rows of the block that holds address `a` (Table 18.1). -/
def rowsAt (a : Nat) : List RegRow :=
  if a < 0x400000 then rowsCw0 ++ rowsCw1
  else if a < 0x408000 then rowsGl0 ++ rowsGl1 ++ rowsGl2
  else if a < 0x409000 then rowsBb0 ++ rowsBb1
  else if a < 0x40c000 then rowsMp0 ++ rowsMp1
  else if a < 0x410000 then rowsLg0 ++ rowsLg1
  else if a < 0x420000 then rowsTb0 ++ rowsTb1
  else if a < 0x460000 then rowsGch0 ++ rowsGch1
  else if a < 0x470000 then rowsPo0 ++ rowsPo1 ++ rowsPo2 ++ rowsPo3
  else if a < 0x480000 then rowsOt0 ++ rowsOt1
  else if a < 0x520000 then rowsLe0
  else if a < 0x530000 then rowsVd0 ++ rowsVd1 ++ rowsVd2 ++ rowsVd3 ++ rowsVd4
  else if a < 0x540000 then rowsLk0 ++ rowsLk1
  else if a < 0x580000 then rowsLp0 ++ rowsLp1 ++ rowsLp2 ++ rowsLp3
  else if a < 0x590000 then rowsLs0 ++ rowsLs1
  else if a < 0x5a0000 then rowsFi0 ++ rowsFi1
  else if a < 0x5b0000 then rowsBp0 ++ rowsBp1 ++ rowsBp2 ++ rowsBp3
  else if a < 0x5c0000 then rowsHp0 ++ rowsHp1 ++ rowsHp2
  else if a < 0x5d0000 then rowsRs0 ++ rowsRs1
  else if a < 0x5e0000 then rowsPw0 ++ rowsPw1
  else if a < 0x600000 then rowsRc0 ++ rowsRc1 ++ rowsRc2
  else []

end Sys2Proof.Machine
end

