-- ==== Sys2Proof/Machine/RegNames.lean ====
section
/-! DEFINITION. Names of the register fields, in the spec's spelling (register, then field), each the address, lowest bit
and width that the register tables of spec/ give. VCH_ is the valve channel's CH_ (R211), GCH_ the tracking channel's CH_ (R85);
an array's index is an argument, taken modulo the number of its elements. -/

namespace Sys2Proof.Machine

/-- A field's place: register address, lowest bit, width (R10, R443). -/
structure Fld where
  addr : Nat
  lo : Nat
  width : Nat
  deriving DecidableEq, Repr

namespace Reg

def TB_STATUS_STATE : Fld := ⟨0x410000, 0, 3⟩
def TB_STATUS_REFIN_ACT : Fld := ⟨0x410000, 3, 1⟩
def TB_STATUS_PLL_LOCK : Fld := ⟨0x410000, 4, 1⟩
def TB_STATUS_REFOUT_ON : Fld := ⟨0x410000, 5, 1⟩
def TB_STATUS_MEAS_VALID : Fld := ⟨0x410000, 6, 1⟩
def TB_STATUS_DISC_ACT : Fld := ⟨0x410000, 7, 2⟩
def TB_STATUS_SYNC_LOCK : Fld := ⟨0x410000, 9, 1⟩
def TB_STATUS_CAL_VALID : Fld := ⟨0x410000, 10, 1⟩
def TB_CTRL_DISC_SRC : Fld := ⟨0x410004, 0, 2⟩
def TB_CTRL_FOLLOWER : Fld := ⟨0x410004, 2, 1⟩
def TB_CTRL_REFOUT_EN : Fld := ⟨0x410004, 3, 1⟩
def TB_CTRL_AUTO_RETURN : Fld := ⟨0x410004, 4, 1⟩
def TB_CTRL_CAL_SRC : Fld := ⟨0x410004, 5, 1⟩
def TB_CTRL_DRIFT_ACCEPT : Fld := ⟨0x410004, 6, 1⟩
def FT_LO_FT : Fld := ⟨0x410008, 0, 32⟩
def FT_HI_FT : Fld := ⟨0x41000c, 0, 32⟩
def GNSS_OFS_LO_OFS : Fld := ⟨0x410010, 0, 32⟩
def GNSS_OFS_HI_OFS : Fld := ⟨0x410014, 0, 32⟩
def REF_MEAS_OFFSET : Fld := ⟨0x410018, 0, 20⟩
def REF_DRIFT_DRIFT : Fld := ⟨0x41001c, 0, 20⟩
def DISC_TRIM_TRIM : Fld := ⟨0x410020, 0, 20⟩
def CAL_LO_SEC : Fld := ⟨0x410024, 0, 32⟩
def CAL_HI_SEC : Fld := ⟨0x410028, 0, 8⟩
def CAL_HI_LEAP_NOW : Fld := ⟨0x410028, 8, 1⟩
def LEAP_LEAP_S : Fld := ⟨0x41002c, 0, 8⟩
def LEAP_LEAP_NEXT : Fld := ⟨0x41002c, 8, 8⟩
def LEAP_LEAP_PEND : Fld := ⟨0x41002c, 16, 1⟩
def FRM_CFG_PERIOD : Fld := ⟨0x410030, 0, 7⟩
def FRM_CFG_HORIZON : Fld := ⟨0x410030, 7, 12⟩
def FRM_NO_NUMBER : Fld := ⟨0x410034, 0, 32⟩
def FRM_START_LO_T : Fld := ⟨0x410038, 0, 32⟩
def FRM_START_HI_T : Fld := ⟨0x41003c, 0, 32⟩
def FRM_STAT_SKIPPED : Fld := ⟨0x410040, 0, 16⟩
def FRM_STAT_HEADSKIP : Fld := ⟨0x410040, 16, 16⟩
def SYNC_CFG_SO_MODE : Fld := ⟨0x410044, 0, 2⟩
def SYNC_CFG_SO_WIDTH : Fld := ⟨0x410044, 2, 8⟩
def SYNCIN_COMP_COMP : Fld := ⟨0x410048, 0, 20⟩
def SYNCIN_ERR_ERR : Fld := ⟨0x41004c, 0, 20⟩
def TB_EVENT_REFIN_LOST : Fld := ⟨0x410050, 0, 1⟩
def TB_EVENT_HOLDOVER : Fld := ⟨0x410050, 1, 1⟩
def TB_EVENT_DEGRADED : Fld := ⟨0x410050, 2, 1⟩
def TB_EVENT_OFS_WARN : Fld := ⟨0x410050, 3, 1⟩
def TB_EVENT_SYNC_LOST : Fld := ⟨0x410050, 4, 1⟩
def TB_EVENT_SYNC_REJECT : Fld := ⟨0x410050, 5, 1⟩
def TB_EVENT_CFG_ERR : Fld := ⟨0x410050, 6, 1⟩
def TB_EVENT_RECOVERED : Fld := ⟨0x410050, 7, 1⟩
def TB_EVENT_SYNC_UNALIGNED : Fld := ⟨0x410050, 8, 1⟩
def BB_CTRL_AUTO_START : Fld := ⟨0x408000, 0, 1⟩
def BB_CTRL_XAID : Fld := ⟨0x408000, 1, 1⟩
def BB_CTRL_MP_APPLY : Fld := ⟨0x408000, 2, 1⟩
def BB_CTRL_MP_THR : Fld := ⟨0x408000, 3, 8⟩
def BB_STATUS_BB_PRESENT : Fld := ⟨0x408004, 0, 1⟩
def BB_STATUS_BB_ON : Fld := ⟨0x408004, 1, 1⟩
def BB_STATUS_HOT_VALID : Fld := ⟨0x408004, 2, 1⟩
def BB_STATUS_TRACKING : Fld := ⟨0x408004, 3, 11⟩
def AS_CTRL_PORT_EN (i : Nat) : Fld := ⟨0x408010 + 0x8 * (i % 4), 0, 1⟩
def AS_CTRL_STREAM_EN (i : Nat) : Fld := ⟨0x408010 + 0x8 * (i % 4), 1, 4⟩
def AS_CTRL_TRAIN (i : Nat) : Fld := ⟨0x408010 + 0x8 * (i % 4), 5, 1⟩
def AS_STAT_CLK_PRESENT (i : Nat) : Fld := ⟨0x408014 + 0x8 * (i % 4), 0, 1⟩
def AS_STAT_ALIGNED (i : Nat) : Fld := ⟨0x408014 + 0x8 * (i % 4), 1, 1⟩
def AS_STAT_PORT_LOST (i : Nat) : Fld := ⟨0x408014 + 0x8 * (i % 4), 2, 1⟩
def AS_CENTRE_FREQ (i : Nat) (j : Nat) : Fld := ⟨0x408040 + 0x10 * (i % 4) + 0x4 * (j % 4), 0, 22⟩
def AS_CENTRE_INVERT (i : Nat) (j : Nat) : Fld := ⟨0x408040 + 0x10 * (i % 4) + 0x4 * (j % 4), 22, 1⟩
def AS_SIGMASK_MASK (i : Nat) (j : Nat) : Fld := ⟨0x408080 + 0x10 * (i % 4) + 0x4 * (j % 4), 0, 32⟩
def AS_PWR_RMS (i : Nat) (j : Nat) : Fld := ⟨0x4080c0 + 0x10 * (i % 4) + 0x4 * (j % 4), 0, 10⟩
def AS_PWR_CLIP (i : Nat) (j : Nat) : Fld := ⟨0x4080c0 + 0x10 * (i % 4) + 0x4 * (j % 4), 10, 10⟩
def BANK_STAT_FENCED : Fld := ⟨0x408100, 0, 16⟩
def BANK_STAT_SPARE_USED : Fld := ⟨0x408100, 16, 1⟩
def BANK_STAT_SPARE_FOR : Fld := ⟨0x408100, 17, 4⟩
def BANK_STAT_BANK_EVENT : Fld := ⟨0x408100, 21, 1⟩
def CODE_ADDR_WORD : Fld := ⟨0x408104, 0, 14⟩
def CODE_DATA_CHIPS : Fld := ⟨0x408108, 0, 32⟩
def CODE_DESC_START (i : Nat) : Fld := ⟨0x408110 + 0x4 * (i % 4), 0, 14⟩
def CODE_DESC_LENGTH (i : Nat) : Fld := ⟨0x408110 + 0x4 * (i % 4), 14, 14⟩
def CODE_DESC_RATE (i : Nat) : Fld := ⟨0x408110 + 0x4 * (i % 4), 28, 3⟩
def CODE_DESC_PILOT (i : Nat) : Fld := ⟨0x408110 + 0x4 * (i % 4), 31, 1⟩
def AID_ADDR_WORD : Fld := ⟨0x408120, 0, 14⟩
def AID_DATA_DATA : Fld := ⟨0x408124, 0, 32⟩
def GCH_CMD_CMD (i : Nat) : Fld := ⟨0x420000 + 0x100 * (i % 1024), 0, 2⟩
def GCH_CFG_PORT (i : Nat) : Fld := ⟨0x420004 + 0x100 * (i % 1024), 0, 2⟩
def GCH_CFG_STREAM (i : Nat) : Fld := ⟨0x420004 + 0x100 * (i % 1024), 2, 2⟩
def GCH_CFG_SIG (i : Nat) : Fld := ⟨0x420004 + 0x100 * (i % 1024), 4, 5⟩
def GCH_CFG_SV (i : Nat) : Fld := ⟨0x420004 + 0x100 * (i % 1024), 9, 8⟩
def GCH_CFG_INT_MS (i : Nat) : Fld := ⟨0x420004 + 0x100 * (i % 1024), 17, 5⟩
def GCH_CFG_ACC_SHIFT (i : Nat) : Fld := ⟨0x420004 + 0x100 * (i % 1024), 22, 5⟩
def GCH_CFG_MANUAL (i : Nat) : Fld := ⟨0x420004 + 0x100 * (i % 1024), 27, 1⟩
def GCH_TAPS_EL (i : Nat) : Fld := ⟨0x420008 + 0x100 * (i % 1024), 0, 7⟩
def GCH_TAPS_SHAPE_BASE (i : Nat) : Fld := ⟨0x420008 + 0x100 * (i % 1024), 7, 8⟩
def GCH_TAPS_SHAPE_STEP (i : Nat) : Fld := ⟨0x420008 + 0x100 * (i % 1024), 15, 6⟩
def GCH_TAPS_ACQ_STEP (i : Nat) : Fld := ⟨0x420008 + 0x100 * (i % 1024), 21, 7⟩
def GCH_LOOP_BN_PLL (i : Nat) : Fld := ⟨0x42000c + 0x100 * (i % 1024), 0, 8⟩
def GCH_LOOP_BN_FLL (i : Nat) : Fld := ⟨0x42000c + 0x100 * (i % 1024), 8, 8⟩
def GCH_LOOP_BN_DLL (i : Nat) : Fld := ⟨0x42000c + 0x100 * (i % 1024), 16, 8⟩
def GCH_LOOP_FLL_TRACK (i : Nat) : Fld := ⟨0x42000c + 0x100 * (i % 1024), 24, 1⟩
def GCH_ACQ_ACQ_THR (i : Nat) : Fld := ⟨0x420010 + 0x100 * (i % 1024), 0, 8⟩
def GCH_ACQ_ACQ_N (i : Nat) : Fld := ⟨0x420010 + 0x100 * (i % 1024), 8, 4⟩
def GCH_ACQ_CN0_MIN (i : Nat) : Fld := ⟨0x420010 + 0x100 * (i % 1024), 12, 8⟩
def GCH_AID_DOP_DOPPLER (i : Nat) : Fld := ⟨0x420014 + 0x100 * (i % 1024), 0, 20⟩
def GCH_AID_CODE_CODE_PH (i : Nat) : Fld := ⟨0x420018 + 0x100 * (i % 1024), 0, 32⟩
def GCH_STATE_STATE (i : Nat) : Fld := ⟨0x420020 + 0x100 * (i % 1024), 0, 3⟩
def GCH_STATE_PLL_LOCK (i : Nat) : Fld := ⟨0x420020 + 0x100 * (i % 1024), 3, 1⟩
def GCH_STATE_BIT_SYNC (i : Nat) : Fld := ⟨0x420020 + 0x100 * (i % 1024), 4, 1⟩
def GCH_STATE_COAST (i : Nat) : Fld := ⟨0x420020 + 0x100 * (i % 1024), 5, 1⟩
def GCH_STATE_CN0 (i : Nat) : Fld := ⟨0x420020 + 0x100 * (i % 1024), 6, 8⟩
def GCH_EVENT_ACQ_FAIL (i : Nat) : Fld := ⟨0x420024 + 0x100 * (i % 1024), 0, 1⟩
def GCH_EVENT_SLIP (i : Nat) : Fld := ⟨0x420024 + 0x100 * (i % 1024), 1, 1⟩
def GCH_EVENT_LOST (i : Nat) : Fld := ⟨0x420024 + 0x100 * (i % 1024), 2, 1⟩
def GCH_EVENT_MOVED (i : Nat) : Fld := ⟨0x420024 + 0x100 * (i % 1024), 3, 1⟩
def GCH_EVENT_BANK_FAULT (i : Nat) : Fld := ⟨0x420024 + 0x100 * (i % 1024), 4, 1⟩
def GCH_EVENT_PORT_LOST (i : Nat) : Fld := ⟨0x420024 + 0x100 * (i % 1024), 5, 1⟩
def GCH_EVENT_SAT (i : Nat) : Fld := ⟨0x420024 + 0x100 * (i % 1024), 6, 1⟩
def GCH_EVENT_CFG_ERR (i : Nat) : Fld := ⟨0x420024 + 0x100 * (i % 1024), 7, 1⟩
def GCH_CARR_NCO_INC (i : Nat) : Fld := ⟨0x420028 + 0x100 * (i % 1024), 0, 32⟩
def GCH_CODE_NCO_INC (i : Nat) : Fld := ⟨0x42002c + 0x100 * (i % 1024), 0, 32⟩
def GCH_TAP_I_SUM (i : Nat) (j : Nat) : Fld := ⟨0x420030 + 0x100 * (i % 1024) + 0x8 * (j % 25), 0, 20⟩
def GCH_TAP_Q_SUM (i : Nat) (j : Nat) : Fld := ⟨0x420034 + 0x100 * (i % 1024) + 0x8 * (j % 25), 0, 20⟩
def GCH_MP_MP_CORR (i : Nat) : Fld := ⟨0x4200f8 + 0x100 * (i % 1024), 0, 8⟩
def GCH_MP_MP_ALPHA (i : Nat) : Fld := ⟨0x4200f8 + 0x100 * (i % 1024), 8, 8⟩
def GCH_MP_MP_DELAY (i : Nat) : Fld := ⟨0x4200f8 + 0x100 * (i % 1024), 16, 6⟩
def GCH_MP_CONVERGED (i : Nat) : Fld := ⟨0x4200f8 + 0x100 * (i % 1024), 22, 1⟩
def GCH_MP_MP_FLAG (i : Nat) : Fld := ⟨0x4200f8 + 0x100 * (i % 1024), 23, 1⟩
def POSE_CTRL_POSE_EN : Fld := ⟨0x460000, 0, 1⟩
def POSE_CTRL_POSE_DECIM : Fld := ⟨0x460000, 1, 11⟩
def POSE_STATUS_STATE : Fld := ⟨0x460004, 0, 3⟩
def POSE_STATUS_VALID : Fld := ⟨0x460004, 3, 1⟩
def POSE_STATUS_CPV_OK : Fld := ⟨0x460004, 4, 1⟩
def POSE_STATUS_IMU0_OK : Fld := ⟨0x460004, 5, 1⟩
def POSE_STATUS_IMU1_OK : Fld := ⟨0x460004, 6, 1⟩
def POSE_STATUS_SPD_OK : Fld := ⟨0x460004, 7, 1⟩
def POSE_STATUS_BL_COUNT : Fld := ⟨0x460004, 8, 3⟩
def POSE_EVENT_STATE_CHG : Fld := ⟨0x460008, 0, 1⟩
def POSE_EVENT_FIX_REJECT : Fld := ⟨0x460008, 1, 1⟩
def POSE_EVENT_POS_JUMP : Fld := ⟨0x460008, 2, 1⟩
def POSE_EVENT_FIX_STALE : Fld := ⟨0x460008, 3, 1⟩
def POSE_EVENT_FIX_FUTURE : Fld := ⟨0x460008, 4, 1⟩
def POSE_EVENT_FIX_ORDER : Fld := ⟨0x460008, 5, 1⟩
def POSE_EVENT_FIX_LOST : Fld := ⟨0x460008, 6, 1⟩
def POSE_EVENT_CPV_SWITCH : Fld := ⟨0x460008, 7, 1⟩
def POSE_EVENT_IMU_SWITCH : Fld := ⟨0x460008, 8, 1⟩
def POSE_EVENT_IMU_DISAGREE : Fld := ⟨0x460008, 9, 1⟩
def POSE_EVENT_RANGE : Fld := ⟨0x460008, 10, 1⟩
def POSE_EVENT_CFG_ERR : Fld := ⟨0x460008, 11, 1⟩
def ORIGIN_X_LO_LOW : Fld := ⟨0x460010, 0, 20⟩
def ORIGIN_X_HI_HIGH : Fld := ⟨0x460014, 0, 20⟩
def ORIGIN_Y_LO_LOW : Fld := ⟨0x460018, 0, 20⟩
def ORIGIN_Y_HI_HIGH : Fld := ⟨0x46001c, 0, 20⟩
def ORIGIN_Z_LO_LOW : Fld := ⟨0x460020, 0, 20⟩
def ORIGIN_Z_HI_HIGH : Fld := ⟨0x460024, 0, 20⟩
def POSE_GROW_A_CPV_GROW : Fld := ⟨0x460028, 0, 16⟩
def POSE_GROW_A_ACC_GROW : Fld := ⟨0x460028, 16, 16⟩
def POSE_GROW_B_SPD_GROW : Fld := ⟨0x46002c, 0, 8⟩
def POSE_GROW_B_ATT_GROW : Fld := ⟨0x46002c, 8, 16⟩
def POSE_LIM_IMU_MAX : Fld := ⟨0x460030, 0, 8⟩
def POSE_LIM_FIX_TIMEOUT : Fld := ⟨0x460030, 8, 8⟩
def POSE_LIM_DEFL_HOLD : Fld := ⟨0x460030, 16, 8⟩
def POSE_BL_BL_SIGMA : Fld := ⟨0x460034, 0, 16⟩
def POSE_BL_BL_SEARCH : Fld := ⟨0x460034, 16, 12⟩
def ANT_X_LEVER (i : Nat) : Fld := ⟨0x460040 + 0x10 * (i % 4), 0, 20⟩
def ANT_Y_LEVER (i : Nat) : Fld := ⟨0x460044 + 0x10 * (i % 4), 0, 20⟩
def ANT_Z_LEVER (i : Nat) : Fld := ⟨0x460048 + 0x10 * (i % 4), 0, 20⟩
def ANT_ROLE_ROLE (i : Nat) : Fld := ⟨0x46004c + 0x10 * (i % 4), 0, 2⟩
def IMU_CFG_SPI_MODE (i : Nat) : Fld := ⟨0x460080 + 0x20 * (i % 2), 0, 2⟩
def IMU_CFG_SCK_DIV (i : Nat) : Fld := ⟨0x460080 + 0x20 * (i % 2), 2, 6⟩
def IMU_CFG_WIDTH (i : Nat) : Fld := ⟨0x460080 + 0x20 * (i % 2), 8, 2⟩
def IMU_CFG_BIG_END (i : Nat) : Fld := ⟨0x460080 + 0x20 * (i % 2), 10, 1⟩
def IMU_CFG_HDR_LEN (i : Nat) : Fld := ⟨0x460080 + 0x20 * (i % 2), 11, 3⟩
def IMU_CFG_TRIG (i : Nat) : Fld := ⟨0x460080 + 0x20 * (i % 2), 14, 1⟩
def IMU_CFG_RATE (i : Nat) : Fld := ⟨0x460080 + 0x20 * (i % 2), 15, 4⟩
def IMU_CFG_CMD (i : Nat) : Fld := ⟨0x460080 + 0x20 * (i % 2), 19, 8⟩
def IMU_CFG_CMD_EN (i : Nat) : Fld := ⟨0x460080 + 0x20 * (i % 2), 27, 1⟩
def IMU_CFG_IMU_EN (i : Nat) : Fld := ⟨0x460080 + 0x20 * (i % 2), 28, 1⟩
def IMU_ORIENT_BX (i : Nat) : Fld := ⟨0x460084 + 0x20 * (i % 2), 0, 2⟩
def IMU_ORIENT_BX_NEG (i : Nat) : Fld := ⟨0x460084 + 0x20 * (i % 2), 2, 1⟩
def IMU_ORIENT_BY (i : Nat) : Fld := ⟨0x460084 + 0x20 * (i % 2), 3, 2⟩
def IMU_ORIENT_BY_NEG (i : Nat) : Fld := ⟨0x460084 + 0x20 * (i % 2), 5, 1⟩
def IMU_ORIENT_BZ (i : Nat) : Fld := ⟨0x460084 + 0x20 * (i % 2), 6, 2⟩
def IMU_ORIENT_BZ_NEG (i : Nat) : Fld := ⟨0x460084 + 0x20 * (i % 2), 8, 1⟩
def IMU_LAT_LAT (i : Nat) : Fld := ⟨0x460088 + 0x20 * (i % 2), 0, 20⟩
def IMU_LEV_X_LEVER (i : Nat) : Fld := ⟨0x46008c + 0x20 * (i % 2), 0, 20⟩
def IMU_LEV_Y_LEVER (i : Nat) : Fld := ⟨0x460090 + 0x20 * (i % 2), 0, 20⟩
def IMU_LEV_Z_LEVER (i : Nat) : Fld := ⟨0x460094 + 0x20 * (i % 2), 0, 20⟩
def IMU_GSCALE_G_M (i : Nat) : Fld := ⟨0x460098 + 0x20 * (i % 2), 0, 16⟩
def IMU_GSCALE_G_E (i : Nat) : Fld := ⟨0x460098 + 0x20 * (i % 2), 16, 4⟩
def IMU_ASCALE_A_M (i : Nat) : Fld := ⟨0x46009c + 0x20 * (i % 2), 0, 16⟩
def IMU_ASCALE_A_E (i : Nat) : Fld := ⟨0x46009c + 0x20 * (i % 2), 16, 4⟩
def SPD_CFG_SPD_IN : Fld := ⟨0x4600c0, 0, 6⟩
def SPD_CFG_SPD_EN : Fld := ⟨0x4600c0, 6, 1⟩
def SPD_CFG_DIR_IN : Fld := ⟨0x4600c0, 7, 6⟩
def SPD_CFG_DIR_EN : Fld := ⟨0x4600c0, 13, 1⟩
def SPD_CFG_DIR_POL : Fld := ⟨0x4600c0, 14, 1⟩
def SPD_CFG_SPD_TIMEOUT : Fld := ⟨0x4600c0, 15, 8⟩
def SPD_K_SPD_K : Fld := ⟨0x4600c4, 0, 20⟩
def SEG_CFG_SRC (i : Nat) : Fld := ⟨0x460100 + 0x20 * (i % 8), 0, 2⟩
def SEG_CFG_SEG_ANT (i : Nat) : Fld := ⟨0x460100 + 0x20 * (i % 8), 2, 2⟩
def SEG_PIV_Y_PIV_Y (i : Nat) : Fld := ⟨0x460104 + 0x20 * (i % 8), 0, 20⟩
def SEG_LEN_LEN (i : Nat) : Fld := ⟨0x460108 + 0x20 * (i % 8), 0, 20⟩
def SEG_DMAX_DMAX (i : Nat) : Fld := ⟨0x46010c + 0x20 * (i % 8), 0, 20⟩
def SEG_HOST_X_DX (i : Nat) : Fld := ⟨0x460110 + 0x20 * (i % 8), 0, 20⟩
def SEG_HOST_Z_DZ (i : Nat) : Fld := ⟨0x460114 + 0x20 * (i % 8), 0, 20⟩
def SEG_HOST_UNC_UNC (i : Nat) : Fld := ⟨0x460118 + 0x20 * (i % 8), 0, 20⟩
def FIX_FT_LO_STAMP : Fld := ⟨0x460200, 0, 32⟩
def FIX_FT_HI_STAMP : Fld := ⟨0x460204, 0, 32⟩
def FIX_E_LO_E : Fld := ⟨0x460208, 0, 20⟩
def FIX_E_HI_E : Fld := ⟨0x46020c, 0, 20⟩
def FIX_N_LO_N : Fld := ⟨0x460210, 0, 20⟩
def FIX_N_HI_N : Fld := ⟨0x460214, 0, 20⟩
def FIX_U_LO_U : Fld := ⟨0x460218, 0, 20⟩
def FIX_U_HI_U : Fld := ⟨0x46021c, 0, 20⟩
def FIX_RAD_RAD : Fld := ⟨0x460220, 0, 20⟩
def FIX_RAD_QUAL : Fld := ⟨0x460220, 20, 2⟩
def FIX_RAD_FIX_ANT : Fld := ⟨0x460220, 22, 2⟩
def FIX_HDG_HDG : Fld := ⟨0x460224, 0, 20⟩
def FIX_HDG_HDG_VALID : Fld := ⟨0x460224, 20, 1⟩
def FIX_HDGU_HDG_UNC : Fld := ⟨0x460228, 0, 20⟩
def FIX_GO_GO : Fld := ⟨0x46022c, 0, 1⟩
def POSE_REC_WORD (i : Nat) : Fld := ⟨0x460300 + 0x4 * (i % 32), 0, 32⟩
def OT_CFG_DEFINED (i : Nat) : Fld := ⟨0x470000 + 0x40 * (i % 1024), 0, 1⟩
def OT_CFG_TARGET (i : Nat) : Fld := ⟨0x470000 + 0x40 * (i % 1024), 1, 3⟩
def OT_CFG_LAYER (i : Nat) : Fld := ⟨0x470000 + 0x40 * (i % 1024), 4, 2⟩
def OT_CFG_SECTION (i : Nat) : Fld := ⟨0x470000 + 0x40 * (i % 1024), 6, 8⟩
def OT_CFG_SEGMENT (i : Nat) : Fld := ⟨0x470000 + 0x40 * (i % 1024), 14, 3⟩
def OT_CFG_ON_SEG (i : Nat) : Fld := ⟨0x470000 + 0x40 * (i % 1024), 17, 1⟩
def OT_CFG_PROFILE (i : Nat) : Fld := ⟨0x470000 + 0x40 * (i % 1024), 18, 4⟩
def OT_CFG_DUTY_MOD (i : Nat) : Fld := ⟨0x470000 + 0x40 * (i % 1024), 22, 1⟩
def OT_CFG_CLASS (i : Nat) : Fld := ⟨0x470000 + 0x40 * (i % 1024), 23, 3⟩
def OT_CFG_SAFE_OPEN (i : Nat) : Fld := ⟨0x470000 + 0x40 * (i % 1024), 26, 1⟩
def OT_TARGET_CHAN (i : Nat) : Fld := ⟨0x470004 + 0x40 * (i % 1024), 0, 7⟩
def OT_TARGET_LINK (i : Nat) : Fld := ⟨0x470004 + 0x40 * (i % 1024), 0, 4⟩
def OT_TARGET_NODE (i : Nat) : Fld := ⟨0x470004 + 0x40 * (i % 1024), 4, 4⟩
def OT_TARGET_NODE_OUT (i : Nat) : Fld := ⟨0x470004 + 0x40 * (i % 1024), 8, 6⟩
def OT_MOUNT_X_MOUNT (i : Nat) : Fld := ⟨0x470008 + 0x40 * (i % 1024), 0, 20⟩
def OT_MOUNT_Y_MOUNT (i : Nat) : Fld := ⟨0x47000c + 0x40 * (i % 1024), 0, 20⟩
def OT_MOUNT_Z_MOUNT (i : Nat) : Fld := ⟨0x470010 + 0x40 * (i % 1024), 0, 20⟩
def OT_FP_W_W (i : Nat) : Fld := ⟨0x470014 + 0x40 * (i % 1024), 0, 20⟩
def OT_FP_L_L (i : Nat) : Fld := ⟨0x470018 + 0x40 * (i % 1024), 0, 20⟩
def OT_FP_L_SHAPE (i : Nat) : Fld := ⟨0x470018 + 0x40 * (i % 1024), 20, 2⟩
def OT_FP_DX_DX (i : Nat) : Fld := ⟨0x47001c + 0x40 * (i % 1024), 0, 20⟩
def OT_NOM_OPEN_NOM (i : Nat) : Fld := ⟨0x470020 + 0x40 * (i % 1024), 0, 20⟩
def OT_NOM_CLOSE_NOM (i : Nat) : Fld := ⟨0x470024 + 0x40 * (i % 1024), 0, 20⟩
def OT_LRN_OPEN_LRN (i : Nat) : Fld := ⟨0x470028 + 0x40 * (i % 1024), 0, 20⟩
def OT_LRN_OPEN_LEARNED (i : Nat) : Fld := ⟨0x470028 + 0x40 * (i % 1024), 20, 1⟩
def OT_LRN_OPEN_FROZEN (i : Nat) : Fld := ⟨0x470028 + 0x40 * (i % 1024), 21, 1⟩
def OT_LRN_OPEN_SEEDED (i : Nat) : Fld := ⟨0x470028 + 0x40 * (i % 1024), 22, 1⟩
def OT_LRN_CLOSE_LRN (i : Nat) : Fld := ⟨0x47002c + 0x40 * (i % 1024), 0, 20⟩
def OT_LRN_CLOSE_LEARNED (i : Nat) : Fld := ⟨0x47002c + 0x40 * (i % 1024), 20, 1⟩
def OT_LRN_CLOSE_FROZEN (i : Nat) : Fld := ⟨0x47002c + 0x40 * (i % 1024), 21, 1⟩
def OT_LRN_CLOSE_SEEDED (i : Nat) : Fld := ⟨0x47002c + 0x40 * (i % 1024), 22, 1⟩
def OT_TRN_OPEN_TRN (i : Nat) : Fld := ⟨0x470030 + 0x40 * (i % 1024), 0, 20⟩
def OT_TRN_CLOSE_TRN (i : Nat) : Fld := ⟨0x470034 + 0x40 * (i % 1024), 0, 20⟩
def OT_RATE_RATE_GAIN (i : Nat) : Fld := ⟨0x470038 + 0x40 * (i % 1024), 0, 20⟩
def OT_RATE_RATE_MODE (i : Nat) : Fld := ⟨0x470038 + 0x40 * (i % 1024), 20, 2⟩
def OT_RATE_DEST (i : Nat) : Fld := ⟨0x470038 + 0x40 * (i % 1024), 22, 1⟩
def OT_RATE_LOOP_SLOT (i : Nat) : Fld := ⟨0x470038 + 0x40 * (i % 1024), 23, 6⟩
def OT_STATE_OWNER (i : Nat) : Fld := ⟨0x47003c + 0x40 * (i % 1024), 0, 10⟩
def OT_STATE_OWNED (i : Nat) : Fld := ⟨0x47003c + 0x40 * (i % 1024), 10, 1⟩
def OT_STATE_INHIBIT (i : Nat) : Fld := ⟨0x47003c + 0x40 * (i % 1024), 11, 1⟩
def OT_STATE_SEALED_OPEN (i : Nat) : Fld := ⟨0x47003c + 0x40 * (i % 1024), 12, 1⟩
def OT_STATE_LANDING (i : Nat) : Fld := ⟨0x47003c + 0x40 * (i % 1024), 13, 1⟩
def OT_STATE_PLANNABLE (i : Nat) : Fld := ⟨0x47003c + 0x40 * (i % 1024), 14, 1⟩
def OT_STATE_TARGET_ABSENT (i : Nat) : Fld := ⟨0x47003c + 0x40 * (i % 1024), 15, 1⟩
def OT_STATE_DIVERGENT (i : Nat) : Fld := ⟨0x47003c + 0x40 * (i % 1024), 16, 1⟩
def OT_STATE_UNSURE (i : Nat) : Fld := ⟨0x47003c + 0x40 * (i % 1024), 17, 1⟩
def OT_STATE_DELAY_RANGE (i : Nat) : Fld := ⟨0x47003c + 0x40 * (i % 1024), 18, 1⟩
def MAP_CTRL_GATE_ALL : Fld := ⟨0x409000, 0, 1⟩
def MAP_CTRL_PAINT_EN : Fld := ⟨0x409000, 1, 1⟩
def MAP_CTRL_PAINT_LAG : Fld := ⟨0x409000, 2, 8⟩
def MAP_EVENT_TILE_MISS : Fld := ⟨0x409004, 0, 1⟩
def MAP_EVENT_TAG_CONFLICT : Fld := ⟨0x409004, 1, 1⟩
def MAP_EVENT_EVICT_DIRTY : Fld := ⟨0x409004, 2, 1⟩
def MAP_EVENT_TILE_ECC : Fld := ⟨0x409004, 3, 1⟩
def MAP_EVENT_PAINT_LOST : Fld := ⟨0x409004, 4, 1⟩
def MAP_EVENT_CMD_ERR : Fld := ⟨0x409004, 5, 1⟩
def MAP_EVENT_CFG_ERR : Fld := ⟨0x409004, 6, 1⟩
def MAP_STAT_RESIDENT : Fld := ⟨0x409008, 0, 8⟩
def MAP_STAT_FREE : Fld := ⟨0x409008, 8, 8⟩
def MAP_STAT_DIRTY : Fld := ⟨0x409008, 16, 8⟩
def MAP_COUNT_A_PAINT_LOST : Fld := ⟨0x40900c, 0, 16⟩
def MAP_COUNT_A_EXCL_PAINT : Fld := ⟨0x40900c, 16, 16⟩
def MAP_COUNT_B_PAINT_UNSURE : Fld := ⟨0x409010, 0, 16⟩
def MAP_COUNT_B_CELL_ERR : Fld := ⟨0x409010, 16, 16⟩
def MISS_TX_T : Fld := ⟨0x409014, 0, 24⟩
def MISS_TY_T : Fld := ⟨0x409018, 0, 24⟩
def MISS_COUNT_COUNT : Fld := ⟨0x40901c, 0, 16⟩
def MAP_LAYER_OPEN_THR (i : Nat) : Fld := ⟨0x409020 + 0x4 * (i % 4), 0, 9⟩
def MAP_LAYER_CLOSE_THR (i : Nat) : Fld := ⟨0x409020 + 0x4 * (i % 4), 9, 9⟩
def MAP_LAYER_BUFFER_OK (i : Nat) : Fld := ⟨0x409020 + 0x4 * (i % 4), 18, 1⟩
def MAP_LAYER_COV_IGNORE (i : Nat) : Fld := ⟨0x409020 + 0x4 * (i % 4), 19, 1⟩
def MAP_LAYER_LAYER_EN (i : Nat) : Fld := ⟨0x409020 + 0x4 * (i % 4), 20, 1⟩
def RT_CTRL_COMMIT : Fld := ⟨0x409030, 0, 4⟩
def RT_CTRL_PENDING : Fld := ⟨0x409030, 4, 4⟩
def OT_SREAD_IDX_OUTLET : Fld := ⟨0x409034, 0, 10⟩
def OT_SREAD_IDX_WORD : Fld := ⟨0x409034, 10, 4⟩
def OT_SREAD_DATA_WORD : Fld := ⟨0x409038, 0, 32⟩
def OT_STAGE_STAGED : Fld := ⟨0x40903c, 0, 1⟩
def OT_STAGE_CHANGED : Fld := ⟨0x40903c, 1, 11⟩
def NEED_TX_T (i : Nat) : Fld := ⟨0x409040 + 0x8 * (i % 8), 0, 24⟩
def NEED_TX_VALID (i : Nat) : Fld := ⟨0x409040 + 0x8 * (i % 8), 24, 1⟩
def NEED_TY_T (i : Nat) : Fld := ⟨0x409044 + 0x8 * (i % 8), 0, 24⟩
def NEED_TY_VALID (i : Nat) : Fld := ⟨0x409044 + 0x8 * (i % 8), 24, 1⟩
def SEC_STATE_SECS (i : Nat) : Fld := ⟨0x409100 + 0x4 * (i % 16), 0, 32⟩
def SEC_GATE_GATES (i : Nat) : Fld := ⟨0x409180 + 0x4 * (i % 8), 0, 32⟩
def TILE_X_TX (i : Nat) : Fld := ⟨0x409800 + 0x10 * (i % 192), 0, 24⟩
def TILE_Y_TY (i : Nat) : Fld := ⟨0x409804 + 0x10 * (i % 192), 0, 24⟩
def TILE_CTRL_STATE (i : Nat) : Fld := ⟨0x409808 + 0x10 * (i % 192), 0, 2⟩
def TILE_CTRL_PENDING (i : Nat) : Fld := ⟨0x409808 + 0x10 * (i % 192), 2, 1⟩
def TILE_CTRL_CMD (i : Nat) : Fld := ⟨0x409808 + 0x10 * (i % 192), 3, 2⟩
def TILE_CTRL_FORCE (i : Nat) : Fld := ⟨0x409808 + 0x10 * (i % 192), 5, 1⟩
def TILE_CTRL_COV_WRITE (i : Nat) : Fld := ⟨0x409808 + 0x10 * (i % 192), 6, 1⟩
def TILE_DIRTY_BAND (i : Nat) : Fld := ⟨0x40980c + 0x10 * (i % 192), 0, 16⟩
def RT_ENTRY_RATE (i : Nat) (j : Nat) : Fld := ⟨0x40a400 + 0x100 * (i % 4) + 0x4 * (j % 64), 0, 20⟩
def RT_STAGED_RATE (i : Nat) (j : Nat) : Fld := ⟨0x40a800 + 0x100 * (i % 4) + 0x4 * (j % 64), 0, 20⟩
def LE_HDR_STATE (i : Nat) : Fld := ⟨0x480000 + 0x10 * (i % 40960), 0, 3⟩
def LE_HDR_KIND (i : Nat) : Fld := ⟨0x480000 + 0x10 * (i % 40960), 3, 2⟩
def LE_HDR_OUTLET (i : Nat) : Fld := ⟨0x480000 + 0x10 * (i % 40960), 5, 10⟩
def LE_HDR_SPEC (i : Nat) : Fld := ⟨0x480000 + 0x10 * (i % 40960), 15, 1⟩
def LE_HDR_FORCED (i : Nat) : Fld := ⟨0x480000 + 0x10 * (i % 40960), 16, 1⟩
def LE_HDR_WITHHELD (i : Nat) : Fld := ⟨0x480000 + 0x10 * (i % 40960), 17, 1⟩
def LE_HDR_ORPHANED (i : Nat) : Fld := ⟨0x480000 + 0x10 * (i % 40960), 18, 1⟩
def LE_HDR_PREFLUX (i : Nat) : Fld := ⟨0x480000 + 0x10 * (i % 40960), 19, 1⟩
def LE_HDR_REPLANNED (i : Nat) : Fld := ⟨0x480000 + 0x10 * (i % 40960), 20, 1⟩
def LE_HDR_SHIFTED (i : Nat) : Fld := ⟨0x480000 + 0x10 * (i % 40960), 21, 1⟩
def LE_HDR_WDR (i : Nat) : Fld := ⟨0x480000 + 0x10 * (i % 40960), 22, 1⟩
def LE_HDR_CAUSE (i : Nat) : Fld := ⟨0x480000 + 0x10 * (i % 40960), 23, 3⟩
def LE_HDR_REMOTE (i : Nat) : Fld := ⟨0x480000 + 0x10 * (i % 40960), 26, 1⟩
def LE_HDR_CTX (i : Nat) : Fld := ⟨0x480000 + 0x10 * (i % 40960), 27, 1⟩
def LE_FRAME_FRAME (i : Nat) : Fld := ⟨0x480004 + 0x10 * (i % 40960), 0, 32⟩
def LE_DUE_DUE_LO (i : Nat) : Fld := ⟨0x480008 + 0x10 * (i % 40960), 0, 32⟩
def LE_PARAM_DUE_HI (i : Nat) : Fld := ⟨0x48000c + 0x10 * (i % 40960), 0, 8⟩
def LE_PARAM_PARAM (i : Nat) : Fld := ⟨0x48000c + 0x10 * (i % 40960), 8, 20⟩
def LE_PARAM_SEAL (i : Nat) : Fld := ⟨0x48000c + 0x10 * (i % 40960), 28, 4⟩
def LG_CTRL_PLAN_EN : Fld := ⟨0x40c000, 0, 1⟩
def LG_CTRL_PRED_MODE : Fld := ⟨0x40c000, 1, 1⟩
def LG_STAT_IN_FLIGHT : Fld := ⟨0x40c004, 0, 16⟩
def LG_STAT_RES_FREE : Fld := ⟨0x40c004, 16, 11⟩
def LG_STAT_PATH_ACT : Fld := ⟨0x40c004, 27, 1⟩
def LG_COUNT_BOOKED : Fld := ⟨0x40c008, 0, 16⟩
def LG_COUNT_COMMITTED : Fld := ⟨0x40c008, 16, 16⟩
def LG_EVENT_FULL : Fld := ⟨0x40c00c, 0, 1⟩
def LG_EVENT_LATE_CROSS : Fld := ⟨0x40c00c, 1, 1⟩
def LG_EVENT_FORCED : Fld := ⟨0x40c00c, 2, 1⟩
def LG_EVENT_WITHHELD : Fld := ⟨0x40c00c, 3, 1⟩
def LG_EVENT_LATE : Fld := ⟨0x40c00c, 4, 1⟩
def LG_EVENT_ORPHAN : Fld := ⟨0x40c00c, 5, 1⟩
def LG_EVENT_RATE_CLAMP : Fld := ⟨0x40c00c, 6, 1⟩
def LG_EVENT_PATH_STALE : Fld := ⟨0x40c00c, 7, 1⟩
def LG_EVENT_CFG_ERR : Fld := ⟨0x40c00c, 8, 1⟩
def LG_EVENT_WITHDRAWN : Fld := ⟨0x40c00c, 9, 1⟩
def LG_CNT_A_FORCED_N : Fld := ⟨0x40c010, 0, 16⟩
def LG_CNT_A_WITHHELD_N : Fld := ⟨0x40c010, 16, 16⟩
def LG_CNT_B_SHIFTED_N : Fld := ⟨0x40c014, 0, 16⟩
def LG_CNT_B_FULL_N : Fld := ⟨0x40c014, 16, 16⟩
def LG_CNT_C_LATE_N : Fld := ⟨0x40c018, 0, 16⟩
def LG_CNT_C_REPLACED_N : Fld := ⟨0x40c018, 16, 16⟩
def LG_CNT_D_CLAMP_N : Fld := ⟨0x40c01c, 0, 16⟩
def LG_CNT_D_GAP_N : Fld := ⟨0x40c01c, 16, 16⟩
def PATH_CTRL_KNOTS : Fld := ⟨0x40c020, 0, 6⟩
def PATH_CTRL_COMMIT : Fld := ⟨0x40c020, 6, 1⟩
def PATH_CTRL_VALID : Fld := ⟨0x40c020, 7, 1⟩
def PATH_FT_LO_T : Fld := ⟨0x40c024, 0, 32⟩
def PATH_FT_HI_T : Fld := ⟨0x40c028, 0, 32⟩
def PK_DIST_DIST (i : Nat) : Fld := ⟨0x40c200 + 0x10 * (i % 32), 0, 20⟩
def PK_CURV_CURV (i : Nat) : Fld := ⟨0x40c204 + 0x10 * (i % 32), 0, 20⟩
def PK_SPEED_SPEED (i : Nat) : Fld := ⟨0x40c208 + 0x10 * (i % 32), 0, 20⟩
def CL_COMMIT_COMMIT_CONF (i : Nat) : Fld := ⟨0x40c100 + 0x20 * (i % 8), 0, 12⟩
def CL_COMMIT_CTX_CONF (i : Nat) : Fld := ⟨0x40c100 + 0x20 * (i % 8), 12, 1⟩
def CL_TIMING_REPLAN_TOL (i : Nat) : Fld := ⟨0x40c104 + 0x20 * (i % 8), 0, 8⟩
def CL_TIMING_COMMIT_LEAD (i : Nat) : Fld := ⟨0x40c104 + 0x20 * (i % 8), 8, 8⟩
def CL_TIMING_PRE_LEAD (i : Nat) : Fld := ⟨0x40c104 + 0x20 * (i % 8), 16, 8⟩
def CL_TIMING_COMMIT_WIN (i : Nat) : Fld := ⟨0x40c104 + 0x20 * (i % 8), 24, 8⟩
def CL_PREFLUX_PREFLUX (i : Nat) : Fld := ⟨0x40c108 + 0x20 * (i % 8), 0, 7⟩
def CL_GAPS_MIN_ON (i : Nat) : Fld := ⟨0x40c10c + 0x20 * (i % 8), 0, 16⟩
def CL_GAPS_MIN_OFF (i : Nat) : Fld := ⟨0x40c10c + 0x20 * (i % 8), 16, 16⟩
def CL_MATCH_MATCH_TOL (i : Nat) : Fld := ⟨0x40c110 + 0x20 * (i % 8), 0, 16⟩
def CL_MATCH_RATE_DB (i : Nat) : Fld := ⟨0x40c110 + 0x20 * (i % 8), 16, 8⟩
def CL_RATE_LEAD_RATE_LEAD (i : Nat) : Fld := ⟨0x40c114 + 0x20 * (i % 8), 0, 20⟩
def CL_RATE_MIN_RATE_MIN (i : Nat) : Fld := ⟨0x40c118 + 0x20 * (i % 8), 0, 20⟩
def CL_RATE_MAX_RATE_MAX (i : Nat) : Fld := ⟨0x40c11c + 0x20 * (i % 8), 0, 20⟩
def LJ_OPEN_JIT (i : Nat) : Fld := ⟨0x40d000 + 0x8 * (i % 1024), 0, 20⟩
def LJ_OPEN_SEALS (i : Nat) : Fld := ⟨0x40d000 + 0x8 * (i % 1024), 20, 7⟩
def LJ_OPEN_JIT_OK (i : Nat) : Fld := ⟨0x40d000 + 0x8 * (i % 1024), 27, 1⟩
def LJ_CLOSE_JIT (i : Nat) : Fld := ⟨0x40d004 + 0x8 * (i % 1024), 0, 20⟩
def LJ_CLOSE_SEALS (i : Nat) : Fld := ⟨0x40d004 + 0x8 * (i % 1024), 20, 7⟩
def LJ_CLOSE_JIT_OK (i : Nat) : Fld := ⟨0x40d004 + 0x8 * (i % 1024), 27, 1⟩
def VD_CTRL_GATE_COMP_EN : Fld := ⟨0x520000, 0, 1⟩
def VD_STATUS_DIEA_LINK : Fld := ⟨0x520004, 0, 1⟩
def VD_STATUS_DIEB_LINK : Fld := ⟨0x520004, 1, 1⟩
def VD_STATUS_DIEB_PRESENT : Fld := ⟨0x520004, 2, 1⟩
def VD_STATUS_HALTED : Fld := ⟨0x520004, 3, 1⟩
def VD_EVENT_CH_FAULT : Fld := ⟨0x520008, 0, 1⟩
def VD_EVENT_SENSE_OPEN : Fld := ⟨0x520008, 1, 1⟩
def VD_EVENT_DUTY_HOLD : Fld := ⟨0x520008, 2, 1⟩
def VD_EVENT_TRIP : Fld := ⟨0x520008, 3, 1⟩
def VD_EVENT_BST_OV : Fld := ⟨0x520008, 4, 1⟩
def VD_EVENT_BST_LOW : Fld := ⟨0x520008, 5, 1⟩
def VD_EVENT_LINK_LOST : Fld := ⟨0x520008, 6, 1⟩
def VD_EVENT_CFG_ERR : Fld := ⟨0x520008, 7, 1⟩
def VD_GATECOMP_LAT_A : Fld := ⟨0x52000c, 0, 8⟩
def VD_GATECOMP_LAT_B : Fld := ⟨0x52000c, 8, 8⟩
def DBG_CFG_HALT_OFF : Fld := ⟨0x520010, 0, 1⟩
def SP_PERIOD_PERIOD : Fld := ⟨0x520014, 0, 32⟩
def LOADALL_UNITS (i : Nat) : Fld := ⟨0x520018 + 0x4 * (i % 4), 0, 32⟩
def LOADALL_AUX_AUX : Fld := ⟨0x520028, 0, 16⟩
def LOADALL_AUX_SP : Fld := ⟨0x520028, 16, 1⟩
def BST_CTRL_BST_EN (i : Nat) : Fld := ⟨0x520100 + 0x20 * (i % 2), 0, 1⟩
def BST_SET_SET (i : Nat) : Fld := ⟨0x520104 + 0x20 * (i % 2), 0, 20⟩
def BST_SLEW_SLEW (i : Nat) : Fld := ⟨0x520108 + 0x20 * (i % 2), 0, 16⟩
def BST_REF_REF (i : Nat) : Fld := ⟨0x52010c + 0x20 * (i % 2), 0, 20⟩
def BST_MEAS_MEAS (i : Nat) : Fld := ⟨0x520110 + 0x20 * (i % 2), 0, 20⟩
def BST_STAT_BST_OFF (i : Nat) : Fld := ⟨0x520114 + 0x20 * (i % 2), 0, 1⟩
def BST_STAT_SLEWING (i : Nat) : Fld := ⟨0x520114 + 0x20 * (i % 2), 1, 1⟩
def BST_STAT_OV (i : Nat) : Fld := ⟨0x520114 + 0x20 * (i % 2), 2, 1⟩
def BST_STAT_LOW (i : Nat) : Fld := ⟨0x520114 + 0x20 * (i % 2), 3, 1⟩
def TRIP_CFG_EN (i : Nat) : Fld := ⟨0x520200 + 0x20 * (i % 8), 0, 1⟩
def TRIP_CFG_POL (i : Nat) : Fld := ⟨0x520200 + 0x20 * (i % 8), 1, 1⟩
def TRIP_CFG_LATCH (i : Nat) : Fld := ⟨0x520200 + 0x20 * (i % 8), 2, 1⟩
def TRIP_CFG_BLANK (i : Nat) : Fld := ⟨0x520200 + 0x20 * (i % 8), 3, 7⟩
def TRIP_CFG_FILT (i : Nat) : Fld := ⟨0x520200 + 0x20 * (i % 8), 10, 8⟩
def TRIP_CFG_TRIPPED (i : Nat) : Fld := ⟨0x520200 + 0x20 * (i % 8), 18, 1⟩
def TRIP_CFG_CLEAR (i : Nat) : Fld := ⟨0x520200 + 0x20 * (i % 8), 19, 1⟩
def TRIP_MASK_CH (i : Nat) (j : Nat) : Fld := ⟨0x520204 + 0x20 * (i % 8) + 0x4 * (j % 4), 0, 32⟩
def PF_CFG_NPH (i : Nat) : Fld := ⟨0x521000 + 0x100 * (i % 16), 0, 3⟩
def PF_CFG_CLOSE_PH (i : Nat) : Fld := ⟨0x521000 + 0x100 * (i % 16), 3, 3⟩
def PF_CFG_DIP_EN (i : Nat) : Fld := ⟨0x521000 + 0x100 * (i % 16), 6, 1⟩
def PF_CFG_KINK_EN (i : Nat) : Fld := ⟨0x521000 + 0x100 * (i % 16), 7, 1⟩
def PF_CFG_KINK_SPAN (i : Nat) : Fld := ⟨0x521000 + 0x100 * (i % 16), 8, 6⟩
def PF_PULL_I_PULL (i : Nat) : Fld := ⟨0x521004 + 0x100 * (i % 16), 0, 20⟩
def PF_MOVE_I_MOVE (i : Nat) : Fld := ⟨0x521008 + 0x100 * (i % 16), 0, 20⟩
def PF_OC_OC_LIM (i : Nat) : Fld := ⟨0x52100c + 0x100 * (i % 16), 0, 20⟩
def PF_RISE_RISE_MIN (i : Nat) : Fld := ⟨0x521024 + 0x100 * (i % 16), 0, 20⟩
def PF_WIN_O_WIN_PRE (i : Nat) : Fld := ⟨0x521010 + 0x100 * (i % 16), 0, 16⟩
def PF_WIN_O_WIN_POST (i : Nat) : Fld := ⟨0x521010 + 0x100 * (i % 16), 16, 16⟩
def PF_WIN_C_WIN_PRE (i : Nat) : Fld := ⟨0x521014 + 0x100 * (i % 16), 0, 16⟩
def PF_WIN_C_WIN_POST (i : Nat) : Fld := ⟨0x521014 + 0x100 * (i % 16), 16, 16⟩
def PF_KINK_KINK_THR (i : Nat) : Fld := ⟨0x521018 + 0x100 * (i % 16), 0, 20⟩
def PF_DIP_DIP_THR (i : Nat) : Fld := ⟨0x52101c + 0x100 * (i % 16), 0, 20⟩
def PF_DW_DW_LIM (i : Nat) : Fld := ⟨0x521020 + 0x100 * (i % 16), 0, 20⟩
def PH_CFG_KIND (i : Nat) (j : Nat) : Fld := ⟨0x521040 + 0x100 * (i % 16) + 0x10 * (j % 8), 0, 3⟩
def PH_CFG_RISE_CHK (i : Nat) (j : Nat) : Fld := ⟨0x521040 + 0x100 * (i % 16) + 0x10 * (j % 8), 3, 1⟩
def PH_ITGT_ITGT (i : Nat) (j : Nat) : Fld := ⟨0x521044 + 0x100 * (i % 16) + 0x10 * (j % 8), 0, 20⟩
def PH_BAND_BAND (i : Nat) (j : Nat) : Fld := ⟨0x521048 + 0x100 * (i % 16) + 0x10 * (j % 8), 0, 20⟩
def PH_TMAX_TMAX (i : Nat) (j : Nat) : Fld := ⟨0x52104c + 0x100 * (i % 16) + 0x10 * (j % 8), 0, 20⟩
def VCH_CFG_OUTLET (i : Nat) : Fld := ⟨0x524000 + 0x40 * (i % 128), 0, 10⟩
def VCH_CFG_MAPPED (i : Nat) : Fld := ⟨0x524000 + 0x40 * (i % 128), 10, 1⟩
def VCH_CFG_PROFILE (i : Nat) : Fld := ⟨0x524000 + 0x40 * (i % 128), 11, 4⟩
def VCH_CFG_MOD_AUX (i : Nat) : Fld := ⟨0x524000 + 0x40 * (i % 128), 15, 1⟩
def VCH_CFG_AUX (i : Nat) : Fld := ⟨0x524000 + 0x40 * (i % 128), 16, 3⟩
def VCH_STATE_STATE (i : Nat) : Fld := ⟨0x524004 + 0x40 * (i % 128), 0, 3⟩
def VCH_STATE_PHASE (i : Nat) : Fld := ⟨0x524004 + 0x40 * (i % 128), 3, 3⟩
def VCH_STATE_DERATE (i : Nat) : Fld := ⟨0x524004 + 0x40 * (i % 128), 6, 2⟩
def VCH_STATE_SENSE_OPEN (i : Nat) : Fld := ⟨0x524004 + 0x40 * (i % 128), 8, 1⟩
def VCH_STATE_BOOSTED (i : Nat) : Fld := ⟨0x524004 + 0x40 * (i % 128), 9, 1⟩
def VCH_FAULT_OPEN_COIL (i : Nat) : Fld := ⟨0x524008 + 0x40 * (i % 128), 0, 1⟩
def VCH_FAULT_SHORT (i : Nat) : Fld := ⟨0x524008 + 0x40 * (i % 128), 1, 1⟩
def VCH_FAULT_TRIP (i : Nat) : Fld := ⟨0x524008 + 0x40 * (i % 128), 2, 1⟩
def VCH_FAULT_DUTY_OFF (i : Nat) : Fld := ⟨0x524008 + 0x40 * (i % 128), 3, 1⟩
def VCH_FAULT_LINK (i : Nat) : Fld := ⟨0x524008 + 0x40 * (i % 128), 4, 1⟩
def VCH_CLEAR_UNLATCH (i : Nat) : Fld := ⟨0x52400c + 0x40 * (i % 128), 0, 1⟩
def VCH_IMEAS_I (i : Nat) : Fld := ⟨0x524010 + 0x40 * (i % 128), 0, 20⟩
def VCH_VMEAS_V (i : Nat) : Fld := ⟨0x524014 + 0x40 * (i % 128), 0, 20⟩
def VCH_HEAT_RATIO (i : Nat) : Fld := ⟨0x524018 + 0x40 * (i % 128), 0, 20⟩
def VCH_DW_DW_WIN (i : Nat) : Fld := ⟨0x52401c + 0x40 * (i % 128), 0, 7⟩
def VCH_SEAL_CODE (i : Nat) : Fld := ⟨0x524020 + 0x40 * (i % 128), 0, 4⟩
def VCH_SEAL_KIND (i : Nat) : Fld := ⟨0x524020 + 0x40 * (i % 128), 4, 1⟩
def VCH_SEAL_M (i : Nat) : Fld := ⟨0x524020 + 0x40 * (i % 128), 5, 20⟩
def VCH_KPEAK_PEAK (i : Nat) : Fld := ⟨0x524024 + 0x40 * (i % 128), 0, 20⟩
def VCH_CNT_UNSEATED_N (i : Nat) : Fld := ⟨0x524028 + 0x40 * (i % 128), 0, 16⟩
def VCH_CNT_DIP_MISS_N (i : Nat) : Fld := ⟨0x524028 + 0x40 * (i % 128), 16, 16⟩
def PWM_CTRL_LEDGER (i : Nat) : Fld := ⟨0x528000 + 0x20 * (i % 128), 0, 1⟩
def PWM_CTRL_PENDING (i : Nat) : Fld := ⟨0x528000 + 0x20 * (i % 128), 1, 1⟩
def PWM_CTRL_CLAMP (i : Nat) : Fld := ⟨0x528000 + 0x20 * (i % 128), 2, 1⟩
def PWM_CHOP_CHOP_PER (i : Nat) : Fld := ⟨0x528004 + 0x20 * (i % 128), 0, 20⟩
def PWM_PERIOD_PERIOD (i : Nat) : Fld := ⟨0x528008 + 0x20 * (i % 128), 0, 32⟩
def PWM_DUTY_DUTY (i : Nat) : Fld := ⟨0x52800c + 0x20 * (i % 128), 0, 20⟩
def PWM_PHASE_PHASE (i : Nat) : Fld := ⟨0x528010 + 0x20 * (i % 128), 0, 20⟩
def PWM_ACT_DUTY_DUTY (i : Nat) : Fld := ⟨0x528014 + 0x20 * (i % 128), 0, 20⟩
def PWM_ACT_PERIOD_PERIOD (i : Nat) : Fld := ⟨0x528018 + 0x20 * (i % 128), 0, 32⟩
def LK_CTRL_EN (i : Nat) : Fld := ⟨0x530000 + 0x800 * (i % 16), 0, 1⟩
def LK_CTRL_SCAN (i : Nat) : Fld := ⟨0x530000 + 0x800 * (i % 16), 1, 1⟩
def LK_CTRL_AUTO_RESYNC (i : Nat) : Fld := ⟨0x530000 + 0x800 * (i % 16), 2, 1⟩
def LK_STATUS_STATE (i : Nat) : Fld := ⟨0x530004 + 0x800 * (i % 16), 0, 2⟩
def LK_STATUS_NODES (i : Nat) : Fld := ⟨0x530004 + 0x800 * (i % 16), 2, 5⟩
def LK_STATUS_OUTLETS (i : Nat) : Fld := ⟨0x530004 + 0x800 * (i % 16), 7, 7⟩
def LK_STATUS_RX_ALIGNED (i : Nat) : Fld := ⟨0x530004 + 0x800 * (i % 16), 14, 1⟩
def LK_EVENT_NODE_ADDED (i : Nat) : Fld := ⟨0x530008 + 0x800 * (i % 16), 0, 1⟩
def LK_EVENT_NODE_LOST (i : Nat) : Fld := ⟨0x530008 + 0x800 * (i % 16), 1, 1⟩
def LK_EVENT_DIVERGENT (i : Nat) : Fld := ⟨0x530008 + 0x800 * (i % 16), 2, 1⟩
def LK_EVENT_MISMATCH (i : Nat) : Fld := ⟨0x530008 + 0x800 * (i % 16), 3, 1⟩
def LK_EVENT_ID_CHANGED (i : Nat) : Fld := ⟨0x530008 + 0x800 * (i % 16), 4, 1⟩
def LK_EVENT_REJECT (i : Nat) : Fld := ⟨0x530008 + 0x800 * (i % 16), 5, 1⟩
def LK_EVENT_LATE (i : Nat) : Fld := ⟨0x530008 + 0x800 * (i % 16), 6, 1⟩
def LK_EVENT_CFG_ERR (i : Nat) : Fld := ⟨0x530008 + 0x800 * (i % 16), 7, 1⟩
def LK_CNT_CRC_N (i : Nat) : Fld := ⟨0x53000c + 0x800 * (i % 16), 0, 16⟩
def LK_CNT_CODE_N (i : Nat) : Fld := ⟨0x53000c + 0x800 * (i % 16), 16, 16⟩
def LK_CNT2_RETRY_N (i : Nat) : Fld := ⟨0x530010 + 0x800 * (i % 16), 0, 16⟩
def LK_CNT2_REJECT_N (i : Nat) : Fld := ⟨0x530010 + 0x800 * (i % 16), 16, 16⟩
def LK_HOLD_LO_HOLD (i : Nat) : Fld := ⟨0x530014 + 0x800 * (i % 16), 0, 32⟩
def LK_HOLD_HI_HOLD (i : Nat) : Fld := ⟨0x530018 + 0x800 * (i % 16), 0, 32⟩
def LK_SAFE_LO_SAFE (i : Nat) : Fld := ⟨0x53001c + 0x800 * (i % 16), 0, 32⟩
def LK_SAFE_HI_SAFE (i : Nat) : Fld := ⟨0x530020 + 0x800 * (i % 16), 0, 32⟩
def LK_VALID_VALID (i : Nat) : Fld := ⟨0x530024 + 0x800 * (i % 16), 0, 16⟩
def ND_STATE_STATE (i : Nat) (j : Nat) : Fld := ⟨0x530100 + 0x800 * (i % 16) + 0x40 * (j % 16), 0, 3⟩
def ND_STATE_OUT_BASE (i : Nat) (j : Nat) : Fld := ⟨0x530100 + 0x800 * (i % 16) + 0x40 * (j % 16), 3, 6⟩
def ND_STATE_OUT_COUNT (i : Nat) (j : Nat) : Fld := ⟨0x530100 + 0x800 * (i % 16) + 0x40 * (j % 16), 9, 7⟩
def ND_STATE_MISMATCH (i : Nat) (j : Nat) : Fld := ⟨0x530100 + 0x800 * (i % 16) + 0x40 * (j % 16), 16, 1⟩
def ND_STATE_ID_CHANGED (i : Nat) (j : Nat) : Fld := ⟨0x530100 + 0x800 * (i % 16) + 0x40 * (j % 16), 17, 1⟩
def ND_STATE_NODE_STATE (i : Nat) (j : Nat) : Fld := ⟨0x530100 + 0x800 * (i % 16) + 0x40 * (j % 16), 18, 3⟩
def ND_ID_VENDOR (i : Nat) (j : Nat) : Fld := ⟨0x530104 + 0x800 * (i % 16) + 0x40 * (j % 16), 0, 16⟩
def ND_ID_PRODUCT (i : Nat) (j : Nat) : Fld := ⟨0x530104 + 0x800 * (i % 16) + 0x40 * (j % 16), 16, 16⟩
def ND_SERIAL_SERIAL (i : Nat) (j : Nat) : Fld := ⟨0x530108 + 0x800 * (i % 16) + 0x40 * (j % 16), 0, 32⟩
def ND_CAPS_QDEPTH (i : Nat) (j : Nat) : Fld := ⟨0x53010c + 0x800 * (i % 16) + 0x40 * (j % 16), 0, 8⟩
def ND_CAPS_WIN_MAX (i : Nat) (j : Nat) : Fld := ⟨0x53010c + 0x800 * (i % 16) + 0x40 * (j % 16), 8, 16⟩
def ND_CAPS_CAPS (i : Nat) (j : Nat) : Fld := ⟨0x53010c + 0x800 * (i % 16) + 0x40 * (j % 16), 24, 4⟩
def ND_DELAY_D (i : Nat) (j : Nat) : Fld := ⟨0x530110 + 0x800 * (i % 16) + 0x40 * (j % 16), 0, 20⟩
def ND_SPREAD_SPREAD (i : Nat) (j : Nat) : Fld := ⟨0x530114 + 0x800 * (i % 16) + 0x40 * (j % 16), 0, 20⟩
def ND_EXPECT_PRODUCT (i : Nat) (j : Nat) : Fld := ⟨0x530118 + 0x800 * (i % 16) + 0x40 * (j % 16), 0, 16⟩
def ND_EXPECT_OUTLETS (i : Nat) (j : Nat) : Fld := ⟨0x530118 + 0x800 * (i % 16) + 0x40 * (j % 16), 16, 7⟩
def ND_CTRL_ACCEPT (i : Nat) (j : Nat) : Fld := ⟨0x53011c + 0x800 * (i % 16) + 0x40 * (j % 16), 0, 1⟩
def ND_CTRL_REMOVE (i : Nat) (j : Nat) : Fld := ⟨0x53011c + 0x800 * (i % 16) + 0x40 * (j % 16), 1, 1⟩
def ND_CTRL_RESET (i : Nat) (j : Nat) : Fld := ⟨0x53011c + 0x800 * (i % 16) + 0x40 * (j % 16), 2, 1⟩
def ND_CTRL_RESYNC (i : Nat) (j : Nat) : Fld := ⟨0x53011c + 0x800 * (i % 16) + 0x40 * (j % 16), 3, 1⟩
def ND_DIAG_OUT (i : Nat) (j : Nat) : Fld := ⟨0x530120 + 0x800 * (i % 16) + 0x40 * (j % 16), 0, 8⟩
def ND_DIAG_FAULT (i : Nat) (j : Nat) : Fld := ⟨0x530120 + 0x800 * (i % 16) + 0x40 * (j % 16), 8, 16⟩
def ND_DIAGV_VALUE (i : Nat) (j : Nat) : Fld := ⟨0x530124 + 0x800 * (i % 16) + 0x40 * (j % 16), 0, 16⟩
def ND_CNT_LATE_N (i : Nat) (j : Nat) : Fld := ⟨0x530128 + 0x800 * (i % 16) + 0x40 * (j % 16), 0, 16⟩
def ND_CNT_NOREP_N (i : Nat) (j : Nat) : Fld := ⟨0x530128 + 0x800 * (i % 16) + 0x40 * (j % 16), 16, 16⟩
def ND_SEQ_TX_SEQ (i : Nat) (j : Nat) : Fld := ⟨0x53012c + 0x800 * (i % 16) + 0x40 * (j % 16), 0, 12⟩
def ND_SEQ_ACK_SEQ (i : Nat) (j : Nat) : Fld := ⟨0x53012c + 0x800 * (i % 16) + 0x40 * (j % 16), 12, 12⟩
def ND_SEQ_PENDING (i : Nat) (j : Nat) : Fld := ⟨0x53012c + 0x800 * (i % 16) + 0x40 * (j % 16), 24, 8⟩
def LP_STATUS_RUNNING : Fld := ⟨0x540000, 0, 7⟩
def LP_STATUS_HALTED : Fld := ⟨0x540000, 7, 1⟩
def LP_EVENT_SLOT_FLAG : Fld := ⟨0x540004, 0, 1⟩
def LP_EVENT_INFAULT : Fld := ⟨0x540004, 1, 1⟩
def LP_EVENT_OVERRUN : Fld := ⟨0x540004, 2, 1⟩
def LP_EVENT_RUNAWAY : Fld := ⟨0x540004, 3, 1⟩
def LP_EVENT_CAP_DONE : Fld := ⟨0x540004, 4, 1⟩
def LP_EVENT_TEST_DONE : Fld := ⟨0x540004, 5, 1⟩
def LP_EVENT_MERGE_LATE : Fld := ⟨0x540004, 6, 1⟩
def LP_EVENT_CFG_ERR : Fld := ⟨0x540004, 7, 1⟩
def LP_FLAGSUM_SLOTS (i : Nat) : Fld := ⟨0x540008 + 0x4 * (i % 2), 0, 32⟩
def TB_COMMIT_COMMIT : Fld := ⟨0x540010, 0, 16⟩
def TB_COMMIT_PENDING : Fld := ⟨0x540010, 16, 16⟩
def LP_CAPVIEW_CORE : Fld := ⟨0x540014, 0, 3⟩
def LP_MERGE_MERGE_N : Fld := ⟨0x540018, 0, 16⟩
def TG_CTRL_SLOT (i : Nat) : Fld := ⟨0x540100 + 0x40 * (i % 8), 0, 3⟩
def TG_CTRL_KIND (i : Nat) : Fld := ⟨0x540100 + 0x40 * (i % 8), 3, 2⟩
def TG_CTRL_RUN (i : Nat) : Fld := ⟨0x540100 + 0x40 * (i % 8), 5, 1⟩
def TG_CTRL_DONE (i : Nat) : Fld := ⟨0x540100 + 0x40 * (i % 8), 6, 1⟩
def TG_CTRL_ORDER (i : Nat) : Fld := ⟨0x540100 + 0x40 * (i % 8), 7, 3⟩
def TG_CTRL_HOLD (i : Nat) : Fld := ⟨0x540100 + 0x40 * (i % 8), 10, 8⟩
def TG_AMP_AMP (i : Nat) : Fld := ⟨0x540104 + 0x40 * (i % 8), 0, 20⟩
def TG_F0_INC (i : Nat) : Fld := ⟨0x540108 + 0x40 * (i % 8), 0, 32⟩
def TG_F1_INC (i : Nat) : Fld := ⟨0x54010c + 0x40 * (i % 8), 0, 32⟩
def TG_DUR_DUR (i : Nat) : Fld := ⟨0x540110 + 0x40 * (i % 8), 0, 32⟩
def CP_CTRL_SLOT (i : Nat) : Fld := ⟨0x540114 + 0x40 * (i % 8), 0, 3⟩
def CP_CTRL_ARM (i : Nat) : Fld := ⟨0x540114 + 0x40 * (i % 8), 3, 1⟩
def CP_CTRL_WITH_TEST (i : Nat) : Fld := ⟨0x540114 + 0x40 * (i % 8), 4, 1⟩
def CP_CTRL_FULL (i : Nat) : Fld := ⟨0x540114 + 0x40 * (i % 8), 5, 1⟩
def CP_CTRL_DECIM (i : Nat) : Fld := ⟨0x540114 + 0x40 * (i % 8), 6, 8⟩
def CP_COUNT_WORDS (i : Nat) : Fld := ⟨0x540118 + 0x40 * (i % 8), 0, 14⟩
def CP_START_LO_T (i : Nat) : Fld := ⟨0x54011c + 0x40 * (i % 8), 0, 32⟩
def CP_START_HI_T (i : Nat) : Fld := ⟨0x540120 + 0x40 * (i % 8), 0, 32⟩
def PC_CFG_MODE (i : Nat) : Fld := ⟨0x540300 + 0x20 * (i % 8), 0, 2⟩
def PC_CFG_IN_A (i : Nat) : Fld := ⟨0x540300 + 0x20 * (i % 8), 2, 6⟩
def PC_CFG_IN_B (i : Nat) : Fld := ⟨0x540300 + 0x20 * (i % 8), 8, 6⟩
def PC_CFG_IN_C (i : Nat) : Fld := ⟨0x540300 + 0x20 * (i % 8), 14, 6⟩
def PC_CFG_INDEX_EN (i : Nat) : Fld := ⟨0x540300 + 0x20 * (i % 8), 20, 1⟩
def PC_CFG_DIR_INV (i : Nat) : Fld := ⟨0x540300 + 0x20 * (i % 8), 21, 1⟩
def PC_CPR_CPR (i : Nat) : Fld := ⟨0x540304 + 0x20 * (i % 8), 0, 20⟩
def PC_COUNT_COUNT (i : Nat) : Fld := ⟨0x540308 + 0x20 * (i % 8), 0, 20⟩
def PC_POS_POS (i : Nat) : Fld := ⟨0x54030c + 0x20 * (i % 8), 0, 20⟩
def PC_VEL_VEL (i : Nat) : Fld := ⟨0x540310 + 0x20 * (i % 8), 0, 20⟩
def PC_STAT_VALID (i : Nat) : Fld := ⟨0x540314 + 0x20 * (i % 8), 0, 1⟩
def PC_STAT_REVERSE (i : Nat) : Fld := ⟨0x540314 + 0x20 * (i % 8), 1, 1⟩
def PC_STAT_INDEX_SEEN (i : Nat) : Fld := ⟨0x540314 + 0x20 * (i % 8), 2, 1⟩
def PC_STAT_SEQ_ERR (i : Nat) : Fld := ⟨0x540314 + 0x20 * (i % 8), 3, 1⟩
def HIN_VALUE (i : Nat) : Fld := ⟨0x540400 + 0x4 * (i % 64), 0, 20⟩
def HOUT_VALUE (i : Nat) : Fld := ⟨0x540500 + 0x4 * (i % 64), 0, 20⟩
def SL_CTRL_EN (i : Nat) : Fld := ⟨0x541000 + 0x100 * (i % 64), 0, 1⟩
def SL_CTRL_COEF_COMMIT (i : Nat) : Fld := ⟨0x541000 + 0x100 * (i % 64), 1, 1⟩
def SL_CTRL_CLR_STATE (i : Nat) : Fld := ⟨0x541000 + 0x100 * (i % 64), 2, 1⟩
def SL_STATE_STATE (i : Nat) : Fld := ⟨0x541004 + 0x100 * (i % 64), 0, 3⟩
def SL_STATE_SAFE_CAUSE (i : Nat) : Fld := ⟨0x541004 + 0x100 * (i % 64), 3, 3⟩
def SL_STATE_COEF_PENDING (i : Nat) : Fld := ⟨0x541004 + 0x100 * (i % 64), 6, 1⟩
def SL_FLAGS_SAT_ACC (i : Nat) : Fld := ⟨0x541008 + 0x100 * (i % 64), 0, 1⟩
def SL_FLAGS_SAT_STORE (i : Nat) : Fld := ⟨0x541008 + 0x100 * (i % 64), 1, 1⟩
def SL_FLAGS_LIM (i : Nat) : Fld := ⟨0x541008 + 0x100 * (i % 64), 2, 1⟩
def SL_FLAGS_OUT_CLAMP (i : Nat) : Fld := ⟨0x541008 + 0x100 * (i % 64), 3, 1⟩
def SL_FLAGS_OVERRUN (i : Nat) : Fld := ⟨0x541008 + 0x100 * (i % 64), 4, 1⟩
def SL_FLAGS_INFAULT (i : Nat) : Fld := ⟨0x541008 + 0x100 * (i % 64), 5, 1⟩
def SL_FLAGS_DIV0 (i : Nat) : Fld := ⟨0x541008 + 0x100 * (i % 64), 6, 1⟩
def SL_FLAGS_RUNAWAY (i : Nat) : Fld := ⟨0x541008 + 0x100 * (i % 64), 7, 1⟩
def SL_FLAGS_USER (i : Nat) : Fld := ⟨0x541008 + 0x100 * (i % 64), 8, 8⟩
def SL_SETP_S (i : Nat) : Fld := ⟨0x54100c + 0x100 * (i % 64), 0, 20⟩
def SL_RAMP_R (i : Nat) : Fld := ⟨0x541010 + 0x100 * (i % 64), 0, 20⟩
def SL_OVR_OVR_N (i : Nat) : Fld := ⟨0x541014 + 0x100 * (i % 64), 0, 16⟩
def SL_RUNS_RUNS (i : Nat) : Fld := ⟨0x541018 + 0x100 * (i % 64), 0, 32⟩
def SL_LAT_LAST_LAT (i : Nat) : Fld := ⟨0x54101c + 0x100 * (i % 64), 0, 16⟩
def SL_LAT_MAX_LAT (i : Nat) : Fld := ⟨0x54101c + 0x100 * (i % 64), 16, 16⟩
def SL_OUT_VALUE (i : Nat) (j : Nat) : Fld := ⟨0x541020 + 0x100 * (i % 64) + 0x4 * (j % 8), 0, 20⟩
def SL_CFG_ENTRY (i : Nat) : Fld := ⟨0x541040 + 0x100 * (i % 64), 0, 12⟩
def SL_CFG_TRIG (i : Nat) : Fld := ⟨0x541040 + 0x100 * (i % 64), 12, 2⟩
def SL_CFG_TRIG_SRC (i : Nat) : Fld := ⟨0x541040 + 0x100 * (i % 64), 14, 6⟩
def SL_CFG_DIV (i : Nat) : Fld := ⟨0x541040 + 0x100 * (i % 64), 20, 8⟩
def SL_CFG_AUTO_EN (i : Nat) : Fld := ⟨0x541040 + 0x100 * (i % 64), 28, 1⟩
def SL_CFG_SAFE_ACT (i : Nat) : Fld := ⟨0x541040 + 0x100 * (i % 64), 29, 2⟩
def SL_CFG_STOP_ACT (i : Nat) : Fld := ⟨0x541040 + 0x100 * (i % 64), 31, 1⟩
def SL_TIMER_TPER (i : Nat) : Fld := ⟨0x541044 + 0x100 * (i % 64), 0, 16⟩
def SL_TIMER_TOFS (i : Nat) : Fld := ⟨0x541044 + 0x100 * (i % 64), 16, 16⟩
def SL_SPCFG_SP_SRC (i : Nat) : Fld := ⟨0x541048 + 0x100 * (i % 64), 0, 2⟩
def SL_SPCFG_BOOST_B (i : Nat) : Fld := ⟨0x541048 + 0x100 * (i % 64), 2, 1⟩
def SL_SPCFG_POS_SRC (i : Nat) : Fld := ⟨0x541048 + 0x100 * (i % 64), 3, 3⟩
def SL_SPCFG_POS_EN (i : Nat) : Fld := ⟨0x541048 + 0x100 * (i % 64), 6, 1⟩
def SL_SPCFG_IN_RECOVER (i : Nat) : Fld := ⟨0x541048 + 0x100 * (i % 64), 7, 1⟩
def SL_SSLEW_SLEW (i : Nat) : Fld := ⟨0x54104c + 0x100 * (i % 64), 0, 20⟩
def SL_SPSLEW_SLEW (i : Nat) : Fld := ⟨0x541050 + 0x100 * (i % 64), 0, 20⟩
def SL_IN_KIND (i : Nat) (j : Nat) : Fld := ⟨0x541060 + 0x100 * (i % 64) + 0x4 * (j % 16), 0, 4⟩
def SL_IN_INDEX (i : Nat) (j : Nat) : Fld := ⟨0x541060 + 0x100 * (i % 64) + 0x4 * (j % 16), 4, 11⟩
def SL_IN_FIELD (i : Nat) (j : Nat) : Fld := ⟨0x541060 + 0x100 * (i % 64) + 0x4 * (j % 16), 15, 5⟩
def SL_IN_TMO (i : Nat) (j : Nat) : Fld := ⟨0x541060 + 0x100 * (i % 64) + 0x4 * (j % 16), 20, 12⟩
def SL_OUTCFG_KIND (i : Nat) (j : Nat) : Fld := ⟨0x5410a0 + 0x100 * (i % 64) + 0x8 * (j % 8), 0, 3⟩
def SL_OUTCFG_INDEX (i : Nat) (j : Nat) : Fld := ⟨0x5410a0 + 0x100 * (i % 64) + 0x8 * (j % 8), 3, 11⟩
def SL_OUTCFG_FIELD (i : Nat) (j : Nat) : Fld := ⟨0x5410a0 + 0x100 * (i % 64) + 0x8 * (j % 8), 14, 5⟩
def SL_OUTSAFE_SAFE_VAL (i : Nat) (j : Nat) : Fld := ⟨0x5410a4 + 0x100 * (i % 64) + 0x8 * (j % 8), 0, 20⟩
def LS_STATUS_SW_LINK : Fld := ⟨0x580000, 0, 1⟩
def LS_STATUS_WD_EXPIRED : Fld := ⟨0x580000, 1, 1⟩
def LS_STATUS_LIMP_PIN : Fld := ⟨0x580000, 2, 1⟩
def LS_STATUS_LIMP_ACT : Fld := ⟨0x580000, 3, 1⟩
def LS_STATUS_SHADOW_OK : Fld := ⟨0x580000, 4, 1⟩
def LS_STATUS_OV : Fld := ⟨0x580000, 5, 1⟩
def LS_STATUS_UV : Fld := ⟨0x580000, 6, 1⟩
def LS_STATUS_STOP : Fld := ⟨0x580000, 7, 1⟩
def LS_STATUS_LHIN : Fld := ⟨0x580000, 8, 8⟩
def LS_EVENT_TSD : Fld := ⟨0x580004, 0, 1⟩
def LS_EVENT_LOCK : Fld := ⟨0x580004, 1, 1⟩
def LS_EVENT_OPEN_LOAD : Fld := ⟨0x580004, 2, 1⟩
def LS_EVENT_INRUSH_FAIL : Fld := ⟨0x580004, 3, 1⟩
def LS_EVENT_OV : Fld := ⟨0x580004, 4, 1⟩
def LS_EVENT_UV : Fld := ⟨0x580004, 5, 1⟩
def LS_EVENT_LIMP : Fld := ⟨0x580004, 6, 1⟩
def LS_EVENT_WD_EXP : Fld := ⟨0x580004, 7, 1⟩
def LS_EVENT_SHADOW_ERR : Fld := ⟨0x580004, 8, 1⟩
def LS_EVENT_SUPPLY_REC : Fld := ⟨0x580004, 9, 1⟩
def LS_EVENT_CFG_ERR : Fld := ⟨0x580004, 10, 1⟩
def LS_VBAT_VBAT : Fld := ⟨0x580008, 0, 20⟩
def LS_WD_WD_TMO : Fld := ⟨0x58000c, 0, 7⟩
def LS_CFG_SOURCE (i : Nat) : Fld := ⟨0x580100 + 0x40 * (i % 32), 0, 2⟩
def LS_CFG_ILIM (i : Nat) : Fld := ⟨0x580100 + 0x40 * (i % 32), 2, 5⟩
def LS_CFG_RESTART (i : Nat) : Fld := ⟨0x580100 + 0x40 * (i % 32), 7, 1⟩
def LS_CFG_SLEW (i : Nat) : Fld := ⟨0x580100 + 0x40 * (i % 32), 8, 2⟩
def LS_CFG_OL_THR (i : Nat) : Fld := ⟨0x580100 + 0x40 * (i % 32), 10, 7⟩
def LS_CFG_RETRY_N (i : Nat) : Fld := ⟨0x580100 + 0x40 * (i % 32), 17, 4⟩
def LS_CFG_RETRY_GAP (i : Nat) : Fld := ⟨0x580100 + 0x40 * (i % 32), 21, 3⟩
def LS_CFG_RIDE (i : Nat) : Fld := ⟨0x580100 + 0x40 * (i % 32), 24, 1⟩
def LS_CFG_STOP_OFF (i : Nat) : Fld := ⟨0x580100 + 0x40 * (i % 32), 25, 1⟩
def LS_CFG_SAFE_ON (i : Nat) : Fld := ⟨0x580100 + 0x40 * (i % 32), 26, 1⟩
def LS_CFG_LIMP_EN (i : Nat) : Fld := ⟨0x580100 + 0x40 * (i % 32), 27, 1⟩
def LS_CFG_LHIN (i : Nat) : Fld := ⟨0x580100 + 0x40 * (i % 32), 28, 3⟩
def LS_CFG_LHIN_POL (i : Nat) : Fld := ⟨0x580100 + 0x40 * (i % 32), 31, 1⟩
def LS_CFG2_OL_BLANK (i : Nat) : Fld := ⟨0x580104 + 0x40 * (i % 32), 0, 8⟩
def LS_CFG2_BUDGET (i : Nat) : Fld := ⟨0x580104 + 0x40 * (i % 32), 8, 10⟩
def LS_CFG2_LEAK (i : Nat) : Fld := ⟨0x580104 + 0x40 * (i % 32), 18, 10⟩
def LS_SET_ON (i : Nat) : Fld := ⟨0x580108 + 0x40 * (i % 32), 0, 1⟩
def LS_SET_PWM_EN (i : Nat) : Fld := ⟨0x580108 + 0x40 * (i % 32), 1, 1⟩
def LS_PERIOD_PERIOD (i : Nat) : Fld := ⟨0x58010c + 0x40 * (i % 32), 0, 20⟩
def LS_DUTY_DUTY (i : Nat) : Fld := ⟨0x580110 + 0x40 * (i % 32), 0, 20⟩
def LS_STATE_OUT_ON (i : Nat) : Fld := ⟨0x580114 + 0x40 * (i % 32), 0, 1⟩
def LS_STATE_IN_LIMIT (i : Nat) : Fld := ⟨0x580114 + 0x40 * (i % 32), 1, 1⟩
def LS_STATE_TSD (i : Nat) : Fld := ⟨0x580114 + 0x40 * (i % 32), 2, 1⟩
def LS_STATE_LOCKED (i : Nat) : Fld := ⟨0x580114 + 0x40 * (i % 32), 3, 1⟩
def LS_STATE_LATCHED (i : Nat) : Fld := ⟨0x580114 + 0x40 * (i % 32), 4, 1⟩
def LS_STATE_OPEN_LOAD (i : Nat) : Fld := ⟨0x580114 + 0x40 * (i % 32), 5, 1⟩
def LS_STATE_OL_NA (i : Nat) : Fld := ⟨0x580114 + 0x40 * (i % 32), 6, 1⟩
def LS_STATE_LIMP (i : Nat) : Fld := ⟨0x580114 + 0x40 * (i % 32), 7, 1⟩
def LS_STATE_SAFE (i : Nat) : Fld := ⟨0x580114 + 0x40 * (i % 32), 8, 1⟩
def LS_STATE_STOPPED (i : Nat) : Fld := ⟨0x580114 + 0x40 * (i % 32), 9, 1⟩
def LS_STATE_OV_OFF (i : Nat) : Fld := ⟨0x580114 + 0x40 * (i % 32), 10, 1⟩
def LS_STATE_INRUSH (i : Nat) : Fld := ⟨0x580114 + 0x40 * (i % 32), 11, 1⟩
def LS_FAULT_TSD (i : Nat) : Fld := ⟨0x580118 + 0x40 * (i % 32), 0, 1⟩
def LS_FAULT_LOCK (i : Nat) : Fld := ⟨0x580118 + 0x40 * (i % 32), 1, 1⟩
def LS_FAULT_OPEN_LOAD (i : Nat) : Fld := ⟨0x580118 + 0x40 * (i % 32), 2, 1⟩
def LS_FAULT_INRUSH_FAIL (i : Nat) : Fld := ⟨0x580118 + 0x40 * (i % 32), 3, 1⟩
def LS_FAULT_OV_OFF (i : Nat) : Fld := ⟨0x580118 + 0x40 * (i % 32), 4, 1⟩
def LS_FAULT_SWITCH_BAD (i : Nat) : Fld := ⟨0x580118 + 0x40 * (i % 32), 5, 1⟩
def LS_CLEAR_UNLATCH (i : Nat) : Fld := ⟨0x58011c + 0x40 * (i % 32), 0, 1⟩
def LS_CLEAR_UNLOCK (i : Nat) : Fld := ⟨0x58011c + 0x40 * (i % 32), 1, 1⟩
def LS_IMEAS_I (i : Nat) : Fld := ⟨0x580120 + 0x40 * (i % 32), 0, 20⟩
def LS_VOUT_V (i : Nat) : Fld := ⟨0x580124 + 0x40 * (i % 32), 0, 20⟩
def LS_TEMP_TJ (i : Nat) : Fld := ⟨0x580128 + 0x40 * (i % 32), 0, 20⟩
def LS_CLAMPE_B (i : Nat) : Fld := ⟨0x58012c + 0x40 * (i % 32), 0, 20⟩
def LS_CNT_RETRY_CNT (i : Nat) : Fld := ⟨0x580130 + 0x40 * (i % 32), 0, 8⟩
def LS_CNT_TSD_N (i : Nat) : Fld := ⟨0x580130 + 0x40 * (i % 32), 8, 8⟩
def LS_CNT_CLAMP_N (i : Nat) : Fld := ⟨0x580130 + 0x40 * (i % 32), 16, 16⟩
def FIO_STATUS_BAR_OK : Fld := ⟨0x590000, 0, 1⟩
def FIO_STATUS_SILENT : Fld := ⟨0x590000, 1, 1⟩
def FIO_STATUS_VFIELD_UV : Fld := ⟨0x590000, 2, 1⟩
def FIO_STATUS_SHADOW_OK : Fld := ⟨0x590000, 3, 1⟩
def FIO_STATUS_STOP : Fld := ⟨0x590000, 4, 1⟩
def FIO_STATUS_SAFE : Fld := ⟨0x590000, 5, 1⟩
def FIO_EVENT_BAR_LOST : Fld := ⟨0x590004, 0, 1⟩
def FIO_EVENT_VFIELD_UV : Fld := ⟨0x590004, 1, 1⟩
def FIO_EVENT_OVERLOAD : Fld := ⟨0x590004, 2, 1⟩
def FIO_EVENT_OVERTEMP : Fld := ⟨0x590004, 3, 1⟩
def FIO_EVENT_OW_OUT : Fld := ⟨0x590004, 4, 1⟩
def FIO_EVENT_OW_IN : Fld := ⟨0x590004, 5, 1⟩
def FIO_EVENT_COS : Fld := ⟨0x590004, 6, 1⟩
def FIO_EVENT_SWITCH_BAD : Fld := ⟨0x590004, 7, 1⟩
def FIO_EVENT_SHADOW_ERR : Fld := ⟨0x590004, 8, 1⟩
def FIO_EVENT_CFG_ERR : Fld := ⟨0x590004, 9, 1⟩
def FIO_BAR_BAR_TMO : Fld := ⟨0x590008, 0, 14⟩
def FIO_BARCNT_CRC_N : Fld := ⟨0x59000c, 0, 16⟩
def FIO_BARCNT_SKIP_N : Fld := ⟨0x59000c, 16, 16⟩
def FIO_VFIELD_V : Fld := ⟨0x590010, 0, 20⟩
def FIO_GRP_INTERVALS : Fld := ⟨0x59002c, 0, 24⟩
def FIO_LEVEL_LEVEL (i : Nat) : Fld := ⟨0x590014 + 0x4 * (i % 2), 0, 32⟩
def FIO_COS_COS (i : Nat) : Fld := ⟨0x59001c + 0x4 * (i % 2), 0, 32⟩
def FIO_OWIN_OW (i : Nat) : Fld := ⟨0x590024 + 0x4 * (i % 2), 0, 32⟩
def FI_CFG_DEB (i : Nat) : Fld := ⟨0x590100 + 0x10 * (i % 64), 0, 16⟩
def FI_CFG_TYPE (i : Nat) : Fld := ⟨0x590100 + 0x10 * (i % 64), 16, 1⟩
def FI_CFG_INVERT (i : Nat) : Fld := ⟨0x590100 + 0x10 * (i % 64), 17, 1⟩
def FI_CFG_OW_EN (i : Nat) : Fld := ⟨0x590100 + 0x10 * (i % 64), 18, 1⟩
def FI_CFG_WAKE_EN (i : Nat) : Fld := ⟨0x590100 + 0x10 * (i % 64), 19, 1⟩
def FI_CFG_WAKE_POL (i : Nat) : Fld := ⟨0x590100 + 0x10 * (i % 64), 20, 1⟩
def FI_CFG_COS_RISE (i : Nat) : Fld := ⟨0x590100 + 0x10 * (i % 64), 21, 1⟩
def FI_CFG_COS_FALL (i : Nat) : Fld := ⟨0x590100 + 0x10 * (i % 64), 22, 1⟩
def FI_STAT_LEVEL (i : Nat) : Fld := ⟨0x590104 + 0x10 * (i % 64), 0, 1⟩
def FI_STAT_OPEN_WIRE (i : Nat) : Fld := ⟨0x590104 + 0x10 * (i % 64), 1, 1⟩
def FI_STAT_STALE (i : Nat) : Fld := ⟨0x590104 + 0x10 * (i % 64), 2, 1⟩
def FI_STAT_LAST_DIR (i : Nat) : Fld := ⟨0x590104 + 0x10 * (i % 64), 3, 1⟩
def FI_STAMP_STAMP (i : Nat) : Fld := ⟨0x590108 + 0x10 * (i % 64), 0, 32⟩
def FI_COUNT_COUNT (i : Nat) : Fld := ⟨0x59010c + 0x10 * (i % 64), 0, 20⟩
def FO_CFG_SOURCE (i : Nat) : Fld := ⟨0x590600 + 0x40 * (i % 32), 0, 2⟩
def FO_CFG_SAFE (i : Nat) : Fld := ⟨0x590600 + 0x40 * (i % 32), 2, 2⟩
def FO_CFG_STOP_OFF (i : Nat) : Fld := ⟨0x590600 + 0x40 * (i % 32), 4, 1⟩
def FO_CFG_PAR (i : Nat) : Fld := ⟨0x590600 + 0x40 * (i % 32), 5, 2⟩
def FO_CFG_OVL_LATCH (i : Nat) : Fld := ⟨0x590600 + 0x40 * (i % 32), 7, 1⟩
def FO_CFG_OW_OFF_EN (i : Nat) : Fld := ⟨0x590600 + 0x40 * (i % 32), 8, 1⟩
def FO_SET_ON (i : Nat) : Fld := ⟨0x590604 + 0x40 * (i % 32), 0, 1⟩
def FO_SET_PWM_EN (i : Nat) : Fld := ⟨0x590604 + 0x40 * (i % 32), 1, 1⟩
def FO_PERIOD_PERIOD (i : Nat) : Fld := ⟨0x590608 + 0x40 * (i % 32), 0, 20⟩
def FO_DUTY_DUTY (i : Nat) : Fld := ⟨0x59060c + 0x40 * (i % 32), 0, 20⟩
def FO_STATE_OUT_ON (i : Nat) : Fld := ⟨0x590610 + 0x40 * (i % 32), 0, 1⟩
def FO_STATE_IN_LIMIT (i : Nat) : Fld := ⟨0x590610 + 0x40 * (i % 32), 1, 1⟩
def FO_STATE_OVERTEMP (i : Nat) : Fld := ⟨0x590610 + 0x40 * (i % 32), 2, 1⟩
def FO_STATE_OVL_OFF (i : Nat) : Fld := ⟨0x590610 + 0x40 * (i % 32), 3, 1⟩
def FO_STATE_LATCHED (i : Nat) : Fld := ⟨0x590610 + 0x40 * (i % 32), 4, 1⟩
def FO_STATE_OPEN_WIRE (i : Nat) : Fld := ⟨0x590610 + 0x40 * (i % 32), 5, 1⟩
def FO_STATE_SAFE (i : Nat) : Fld := ⟨0x590610 + 0x40 * (i % 32), 6, 1⟩
def FO_STATE_STOPPED (i : Nat) : Fld := ⟨0x590610 + 0x40 * (i % 32), 7, 1⟩
def FO_STATE_UV_OFF (i : Nat) : Fld := ⟨0x590610 + 0x40 * (i % 32), 8, 1⟩
def FO_FAULT_OVERLOAD (i : Nat) : Fld := ⟨0x590614 + 0x40 * (i % 32), 0, 1⟩
def FO_FAULT_OVERTEMP (i : Nat) : Fld := ⟨0x590614 + 0x40 * (i % 32), 1, 1⟩
def FO_FAULT_OPEN_WIRE (i : Nat) : Fld := ⟨0x590614 + 0x40 * (i % 32), 2, 1⟩
def FO_FAULT_UV_OFF (i : Nat) : Fld := ⟨0x590614 + 0x40 * (i % 32), 3, 1⟩
def FO_FAULT_SWITCH_BAD (i : Nat) : Fld := ⟨0x590614 + 0x40 * (i % 32), 4, 1⟩
def FO_CLEAR_UNLATCH (i : Nat) : Fld := ⟨0x590618 + 0x40 * (i % 32), 0, 1⟩
def FO_IMEAS_I (i : Nat) : Fld := ⟨0x59061c + 0x40 * (i % 32), 0, 20⟩
def FO_VOUT_V (i : Nat) : Fld := ⟨0x590620 + 0x40 * (i % 32), 0, 20⟩
def FO_CNT_OVL_N (i : Nat) : Fld := ⟨0x590624 + 0x40 * (i % 32), 0, 16⟩
def BUS_STATUS_PRESENT : Fld := ⟨0x5a0000, 0, 6⟩
def BUS_EVENT_PORT : Fld := ⟨0x5a0004, 0, 6⟩
def BUS_EVENT_HALT : Fld := ⟨0x5a0004, 8, 6⟩
def BP_CTRL_MODE (i : Nat) : Fld := ⟨0x5a0100 + 0x100 * (i % 6), 0, 2⟩
def BP_CTRL_RECOVER (i : Nat) : Fld := ⟨0x5a0100 + 0x100 * (i % 6), 2, 1⟩
def BP_CTRL_AUTO_REC (i : Nat) : Fld := ⟨0x5a0100 + 0x100 * (i % 6), 3, 1⟩
def BP_STATUS_STATE (i : Nat) : Fld := ⟨0x5a0104 + 0x100 * (i % 6), 0, 3⟩
def BP_STATUS_ERR (i : Nat) : Fld := ⟨0x5a0104 + 0x100 * (i % 6), 3, 2⟩
def BP_STATUS_WARN (i : Nat) : Fld := ⟨0x5a0104 + 0x100 * (i % 6), 5, 1⟩
def BP_STATUS_ROLE (i : Nat) : Fld := ⟨0x5a0104 + 0x100 * (i % 6), 6, 2⟩
def BP_STATUS_SYNCED (i : Nat) : Fld := ⟨0x5a0104 + 0x100 * (i % 6), 8, 1⟩
def BP_STATUS_CYCLE (i : Nat) : Fld := ⟨0x5a0104 + 0x100 * (i % 6), 9, 6⟩
def BP_STATUS_QUEUED (i : Nat) : Fld := ⟨0x5a0104 + 0x100 * (i % 6), 15, 5⟩
def BP_STATUS_STRANDED (i : Nat) : Fld := ⟨0x5a0104 + 0x100 * (i % 6), 20, 1⟩
def BP_ERRCNT_TEC (i : Nat) : Fld := ⟨0x5a0108 + 0x100 * (i % 6), 0, 9⟩
def BP_ERRCNT_REC (i : Nat) : Fld := ⟨0x5a0108 + 0x100 * (i % 6), 16, 7⟩
def BP_ERRCNT_RP (i : Nat) : Fld := ⟨0x5a0108 + 0x100 * (i % 6), 23, 1⟩
def BP_EVENT_BUS_OFF (i : Nat) : Fld := ⟨0x5a010c + 0x100 * (i % 6), 0, 1⟩
def BP_EVENT_RECOVERED (i : Nat) : Fld := ⟨0x5a010c + 0x100 * (i % 6), 1, 1⟩
def BP_EVENT_PASSIVE (i : Nat) : Fld := ⟨0x5a010c + 0x100 * (i % 6), 2, 1⟩
def BP_EVENT_WARN (i : Nat) : Fld := ⟨0x5a010c + 0x100 * (i % 6), 3, 1⟩
def BP_EVENT_LOST (i : Nat) : Fld := ⟨0x5a010c + 0x100 * (i % 6), 4, 1⟩
def BP_EVENT_MISSED (i : Nat) : Fld := ⟨0x5a010c + 0x100 * (i % 6), 5, 1⟩
def BP_EVENT_ONESHOT_FAIL (i : Nat) : Fld := ⟨0x5a010c + 0x100 * (i % 6), 6, 1⟩
def BP_EVENT_REF_LOST (i : Nat) : Fld := ⟨0x5a010c + 0x100 * (i % 6), 7, 1⟩
def BP_EVENT_MASTER_CHG (i : Nat) : Fld := ⟨0x5a010c + 0x100 * (i % 6), 8, 1⟩
def BP_EVENT_REF_DUP (i : Nat) : Fld := ⟨0x5a010c + 0x100 * (i % 6), 9, 1⟩
def BP_EVENT_RX_OVF (i : Nat) : Fld := ⟨0x5a010c + 0x100 * (i % 6), 10, 1⟩
def BP_EVENT_CFG_ERR (i : Nat) : Fld := ⟨0x5a010c + 0x100 * (i % 6), 11, 1⟩
def BP_ERRLOG_LEC (i : Nat) : Fld := ⟨0x5a0110 + 0x100 * (i % 6), 0, 3⟩
def BP_ERRLOG_DATA_PHASE (i : Nat) : Fld := ⟨0x5a0110 + 0x100 * (i % 6), 3, 1⟩
def BP_ERRLOG_REF (i : Nat) : Fld := ⟨0x5a0110 + 0x100 * (i % 6), 4, 1⟩
def BP_CNT_A_BIT_N (i : Nat) : Fld := ⟨0x5a0114 + 0x100 * (i % 6), 0, 16⟩
def BP_CNT_A_STUFF_N (i : Nat) : Fld := ⟨0x5a0114 + 0x100 * (i % 6), 16, 16⟩
def BP_CNT_B_FORM_N (i : Nat) : Fld := ⟨0x5a0118 + 0x100 * (i % 6), 0, 16⟩
def BP_CNT_B_CRC_N (i : Nat) : Fld := ⟨0x5a0118 + 0x100 * (i % 6), 16, 16⟩
def BP_CNT_C_ACK_N (i : Nat) : Fld := ⟨0x5a011c + 0x100 * (i % 6), 0, 16⟩
def BP_CNT_C_PEX_N (i : Nat) : Fld := ⟨0x5a011c + 0x100 * (i % 6), 16, 16⟩
def BP_CNT_D_MISSED_N (i : Nat) : Fld := ⟨0x5a0120 + 0x100 * (i % 6), 0, 16⟩
def BP_CNT_D_ONESHOT_N (i : Nat) : Fld := ⟨0x5a0120 + 0x100 * (i % 6), 16, 16⟩
def BP_CNT_E_NOMATCH_N (i : Nat) : Fld := ⟨0x5a0124 + 0x100 * (i % 6), 0, 16⟩
def BP_CNT_E_RTR_N (i : Nat) : Fld := ⟨0x5a0124 + 0x100 * (i % 6), 16, 16⟩
def BP_CNT_F_LOST_N (i : Nat) : Fld := ⟨0x5a0128 + 0x100 * (i % 6), 0, 16⟩
def BP_CNT_F_RX_OVF_N (i : Nat) : Fld := ⟨0x5a0128 + 0x100 * (i % 6), 16, 16⟩
def BP_CNT_G_QFULL_N (i : Nat) : Fld := ⟨0x5a012c + 0x100 * (i % 6), 0, 16⟩
def BP_CNT_G_HALT_N (i : Nat) : Fld := ⟨0x5a012c + 0x100 * (i % 6), 16, 16⟩
def BP_NBT_NBRP (i : Nat) : Fld := ⟨0x5a0130 + 0x100 * (i % 6), 0, 5⟩
def BP_NBT_NTSEG1 (i : Nat) : Fld := ⟨0x5a0130 + 0x100 * (i % 6), 5, 8⟩
def BP_NBT_NTSEG2 (i : Nat) : Fld := ⟨0x5a0130 + 0x100 * (i % 6), 13, 7⟩
def BP_NBT_NSJW (i : Nat) : Fld := ⟨0x5a0130 + 0x100 * (i % 6), 20, 7⟩
def BP_DBT_DBRP (i : Nat) : Fld := ⟨0x5a0134 + 0x100 * (i % 6), 0, 5⟩
def BP_DBT_DTSEG1 (i : Nat) : Fld := ⟨0x5a0134 + 0x100 * (i % 6), 5, 5⟩
def BP_DBT_DTSEG2 (i : Nat) : Fld := ⟨0x5a0134 + 0x100 * (i % 6), 10, 4⟩
def BP_DBT_DSJW (i : Nat) : Fld := ⟨0x5a0134 + 0x100 * (i % 6), 14, 4⟩
def BP_DBT_TDC_EN (i : Nat) : Fld := ⟨0x5a0134 + 0x100 * (i % 6), 18, 1⟩
def BP_DBT_TDCO (i : Nat) : Fld := ⟨0x5a0134 + 0x100 * (i % 6), 19, 7⟩
def BP_DBT_FD_EN (i : Nat) : Fld := ⟨0x5a0134 + 0x100 * (i % 6), 26, 1⟩
def BP_TT_SYNC (i : Nat) : Fld := ⟨0x5a0138 + 0x100 * (i % 6), 0, 2⟩
def BP_TT_PRI (i : Nat) : Fld := ⟨0x5a0138 + 0x100 * (i % 6), 2, 3⟩
def BP_TT_CYCLES_LOG (i : Nat) : Fld := ⟨0x5a0138 + 0x100 * (i % 6), 5, 3⟩
def BP_TT_WINDOWS (i : Nat) : Fld := ⟨0x5a0138 + 0x100 * (i % 6), 8, 6⟩
def BP_TT_REF_IDE (i : Nat) : Fld := ⟨0x5a0138 + 0x100 * (i % 6), 14, 1⟩
def BP_TT_START_MODE (i : Nat) : Fld := ⟨0x5a0138 + 0x100 * (i % 6), 15, 2⟩
def BP_CYCLEN_CYCLE_LEN (i : Nat) : Fld := ⟨0x5a013c + 0x100 * (i % 6), 0, 20⟩
def BP_REFID_REF_BASE (i : Nat) : Fld := ⟨0x5a0140 + 0x100 * (i % 6), 0, 29⟩
def BP_HALT_HALT_ID (i : Nat) : Fld := ⟨0x5a0144 + 0x100 * (i % 6), 0, 29⟩
def BP_HALT_HALT_IDE (i : Nat) : Fld := ⟨0x5a0144 + 0x100 * (i % 6), 29, 1⟩
def BP_HALT_HALT_EN (i : Nat) : Fld := ⟨0x5a0144 + 0x100 * (i % 6), 30, 1⟩
def BP_HALT_HALT_KEY_EN (i : Nat) : Fld := ⟨0x5a0144 + 0x100 * (i % 6), 31, 1⟩
def BP_HALTKEY_HALT_KEY (i : Nat) : Fld := ⟨0x5a0148 + 0x100 * (i % 6), 0, 16⟩
def BP_WAKE_WAKE_ID (i : Nat) : Fld := ⟨0x5a014c + 0x100 * (i % 6), 0, 29⟩
def BP_WAKE_WAKE_IDE (i : Nat) : Fld := ⟨0x5a014c + 0x100 * (i % 6), 29, 1⟩
def BP_WAKE_WAKE_EN (i : Nat) : Fld := ⟨0x5a014c + 0x100 * (i % 6), 30, 1⟩
def BP_WAKEM_WAKE_MASK (i : Nat) : Fld := ⟨0x5a0150 + 0x100 * (i % 6), 0, 29⟩
def BP_WAKED_WAKE_DATA (i : Nat) : Fld := ⟨0x5a0154 + 0x100 * (i % 6), 0, 8⟩
def BP_WAKED_WAKE_DMASK (i : Nat) : Fld := ⟨0x5a0154 + 0x100 * (i % 6), 8, 8⟩
def BP_CYCTIME_TIME (i : Nat) : Fld := ⟨0x5a0158 + 0x100 * (i % 6), 0, 20⟩
def BP_REFFT_LO_T (i : Nat) : Fld := ⟨0x5a015c + 0x100 * (i % 6), 0, 32⟩
def BP_REFFT_HI_T (i : Nat) : Fld := ⟨0x5a0160 + 0x100 * (i % 6), 0, 32⟩
def SM_IDX_WINDOW (i : Nat) : Fld := ⟨0x5a0164 + 0x100 * (i % 6), 0, 6⟩
def SM_IDX_CYCLE (i : Nat) : Fld := ⟨0x5a0164 + 0x100 * (i % 6), 6, 6⟩
def SM_IDX_CELL (i : Nat) : Fld := ⟨0x5a0164 + 0x100 * (i % 6), 12, 1⟩
def SM_DATA_DATA (i : Nat) : Fld := ⟨0x5a0168 + 0x100 * (i % 6), 0, 20⟩
def SM_DATA2_WLEN (i : Nat) : Fld := ⟨0x5a016c + 0x100 * (i % 6), 0, 16⟩
def SM_DATA2_KIND (i : Nat) : Fld := ⟨0x5a016c + 0x100 * (i % 6), 16, 2⟩
def BV_SEL_PORT (i : Nat) : Fld := ⟨0x5a1000 + 0x80 * (i % 16), 0, 3⟩
def BV_SEL_OBJ (i : Nat) : Fld := ⟨0x5a1000 + 0x80 * (i % 16), 3, 8⟩
def BV_SEL_DIR (i : Nat) : Fld := ⟨0x5a1000 + 0x80 * (i % 16), 11, 1⟩
def BV_SEL_OP (i : Nat) : Fld := ⟨0x5a1000 + 0x80 * (i % 16), 12, 2⟩
def BV_STAT_BUSY (i : Nat) : Fld := ⟨0x5a1004 + 0x80 * (i % 16), 0, 1⟩
def BV_STAT_RESULT (i : Nat) : Fld := ⟨0x5a1004 + 0x80 * (i % 16), 1, 3⟩
def BV_HDR_ID (i : Nat) : Fld := ⟨0x5a1008 + 0x80 * (i % 16), 0, 29⟩
def BV_HDR_IDE (i : Nat) : Fld := ⟨0x5a1008 + 0x80 * (i % 16), 29, 1⟩
def BV_HDR_FDF (i : Nat) : Fld := ⟨0x5a1008 + 0x80 * (i % 16), 30, 1⟩
def BV_HDR_BRS (i : Nat) : Fld := ⟨0x5a1008 + 0x80 * (i % 16), 31, 1⟩
def BV_META_DLC (i : Nat) : Fld := ⟨0x5a100c + 0x80 * (i % 16), 0, 4⟩
def BV_META_ONE_SHOT (i : Nat) : Fld := ⟨0x5a100c + 0x80 * (i % 16), 8, 1⟩
def BV_META_NEW (i : Nat) : Fld := ⟨0x5a100c + 0x80 * (i % 16), 4, 1⟩
def BV_META_LOST (i : Nat) : Fld := ⟨0x5a100c + 0x80 * (i % 16), 5, 1⟩
def BV_META_STRANDED (i : Nat) : Fld := ⟨0x5a100c + 0x80 * (i % 16), 6, 1⟩
def BV_META_ESI (i : Nat) : Fld := ⟨0x5a100c + 0x80 * (i % 16), 7, 1⟩
def BV_STAMP_LO_T (i : Nat) : Fld := ⟨0x5a1010 + 0x80 * (i % 16), 0, 32⟩
def BV_STAMP_HI_T (i : Nat) : Fld := ⟨0x5a1014 + 0x80 * (i % 16), 0, 32⟩
def BV_CFG_ID_OBJ_ID (i : Nat) : Fld := ⟨0x5a1018 + 0x80 * (i % 16), 0, 29⟩
def BV_CFG_ID_OBJ_IDE (i : Nat) : Fld := ⟨0x5a1018 + 0x80 * (i % 16), 29, 1⟩
def BV_CFG_ID_STREAM_UPD (i : Nat) : Fld := ⟨0x5a1018 + 0x80 * (i % 16), 30, 1⟩
def BV_CFG_ID_LOOP (i : Nat) : Fld := ⟨0x5a1018 + 0x80 * (i % 16), 31, 1⟩
def BV_CFG_MASK_MASK (i : Nat) : Fld := ⟨0x5a101c + 0x80 * (i % 16), 0, 29⟩
def BV_DATA_DATA (i : Nat) (j : Nat) : Fld := ⟨0x5a1020 + 0x80 * (i % 16) + 0x4 * (j % 16), 0, 32⟩
def HP_STATUS_LINK_UP : Fld := ⟨0x5b0000, 0, 4⟩
def HP_EVENT_LINK_DOWN : Fld := ⟨0x5b0004, 0, 4⟩
def HP_EVENT_HALT : Fld := ⟨0x5b0004, 4, 4⟩
def HP_EVENT_HALT_REJ : Fld := ⟨0x5b0004, 8, 1⟩
def HP_EVENT_CFG_ERR : Fld := ⟨0x5b0004, 9, 1⟩
def SUP_IRQ_BLOCK : Fld := ⟨0x5b0008, 0, 15⟩
def SUP_IRQ_EN_EN : Fld := ⟨0x5b000c, 0, 15⟩
def SUP_VEC_VECTOR : Fld := ⟨0x5b0010, 0, 6⟩
def SUP_VEC_SUP_PORT : Fld := ⟨0x5b0010, 6, 2⟩
def HP_DIRECT_DIRECT_CTX (i : Nat) : Fld := ⟨0x5b0020 + 0x4 * (i % 4), 0, 10⟩
def HP_HALT_KEY : Fld := ⟨0x5b0040, 0, 32⟩
def CTX_CFG_PORT (i : Nat) : Fld := ⟨0x5b1000 + 0x20 * (i % 1024), 0, 2⟩
def CTX_CFG_CLASS (i : Nat) : Fld := ⟨0x5b1000 + 0x20 * (i % 1024), 2, 2⟩
def CTX_CFG_DEFINED (i : Nat) : Fld := ⟨0x5b1000 + 0x20 * (i % 1024), 4, 1⟩
def CTX_CFG_BOUND (i : Nat) : Fld := ⟨0x5b1000 + 0x20 * (i % 1024), 5, 1⟩
def CTX_CFG_BIND_PEND (i : Nat) : Fld := ⟨0x5b1000 + 0x20 * (i % 1024), 6, 1⟩
def CTX_CFG_BUDGET (i : Nat) : Fld := ⟨0x5b1000 + 0x20 * (i % 1024), 7, 4⟩
def CTX_CFG_SPI_SLOT (i : Nat) : Fld := ⟨0x5b1000 + 0x20 * (i % 1024), 11, 5⟩
def CTX_PERM_MAP (i : Nat) : Fld := ⟨0x5b1004 + 0x20 * (i % 1024), 0, 1⟩
def CTX_PERM_DRIVE (i : Nat) : Fld := ⟨0x5b1004 + 0x20 * (i % 1024), 1, 1⟩
def CTX_PERM_LOOP_TUNE (i : Nat) : Fld := ⟨0x5b1004 + 0x20 * (i % 1024), 2, 1⟩
def CTX_PERM_COUNTERS (i : Nat) : Fld := ⟨0x5b1004 + 0x20 * (i % 1024), 3, 1⟩
def CTX_PERM_COUNTERS_GRANT (i : Nat) : Fld := ⟨0x5b1004 + 0x20 * (i % 1024), 4, 1⟩
def CTX_PERM_HALT (i : Nat) : Fld := ⟨0x5b1004 + 0x20 * (i % 1024), 5, 1⟩
def CTX_PERM_GNSS_CONSUMER (i : Nat) : Fld := ⟨0x5b1004 + 0x20 * (i % 1024), 6, 1⟩
def CTX_PERM_POSE_CONSUMER (i : Nat) : Fld := ⟨0x5b1004 + 0x20 * (i % 1024), 7, 1⟩
def CTX_PERM_FIX_SOURCE (i : Nat) : Fld := ⟨0x5b1004 + 0x20 * (i % 1024), 8, 1⟩
def CTX_PERM_TASK_CONTROL (i : Nat) : Fld := ⟨0x5b1004 + 0x20 * (i % 1024), 9, 1⟩
def CTX_PERM_PATH_SOURCE (i : Nat) : Fld := ⟨0x5b1004 + 0x20 * (i % 1024), 10, 1⟩
def CTX_PERM_SEAL_ALL (i : Nat) : Fld := ⟨0x5b1004 + 0x20 * (i % 1024), 11, 1⟩
def CTX_READ_GROUPS (i : Nat) : Fld := ⟨0x5b1008 + 0x20 * (i % 1024), 0, 32⟩
def CTX_OWN_GROUPS (i : Nat) : Fld := ⟨0x5b100c + 0x20 * (i % 1024), 0, 32⟩
def CTX_INH_GROUPS (i : Nat) : Fld := ⟨0x5b1010 + 0x20 * (i % 1024), 0, 32⟩
def CTX_CNT_REFUSED_N (i : Nat) : Fld := ⟨0x5b1014 + 0x20 * (i % 1024), 0, 16⟩
def CTX_CNT_UNBOUND_N (i : Nat) : Fld := ⟨0x5b1014 + 0x20 * (i % 1024), 16, 16⟩
def CTX_SERVED_SERVED (i : Nat) : Fld := ⟨0x5b1018 + 0x20 * (i % 1024), 0, 32⟩
def OWN_OWNER (i : Nat) : Fld := ⟨0x5be000 + 0x4 * (i % 1024), 0, 10⟩
def OWN_OWNED (i : Nat) : Fld := ⟨0x5be000 + 0x4 * (i % 1024), 10, 1⟩
def OWN_MODE (i : Nat) : Fld := ⟨0x5be000 + 0x4 * (i % 1024), 11, 2⟩
def OWN_INH_N (i : Nat) : Fld := ⟨0x5be000 + 0x4 * (i % 1024), 13, 11⟩
def CW_ID_CTX (i : Nat) : Fld := ⟨0x0 + 0x1000 * (i % 1024), 0, 10⟩
def CW_ID_PORT (i : Nat) : Fld := ⟨0x0 + 0x1000 * (i % 1024), 10, 2⟩
def CW_ID_CLASS (i : Nat) : Fld := ⟨0x0 + 0x1000 * (i % 1024), 12, 2⟩
def CW_ID_BOUND (i : Nat) : Fld := ⟨0x0 + 0x1000 * (i % 1024), 14, 1⟩
def CW_SQ_BASE_LO_BASE (i : Nat) : Fld := ⟨0x8 + 0x1000 * (i % 1024), 0, 32⟩
def CW_SQ_BASE_HI_BASE (i : Nat) : Fld := ⟨0xc + 0x1000 * (i % 1024), 0, 32⟩
def CW_CQ_BASE_LO_BASE (i : Nat) : Fld := ⟨0x10 + 0x1000 * (i % 1024), 0, 32⟩
def CW_CQ_BASE_HI_BASE (i : Nat) : Fld := ⟨0x14 + 0x1000 * (i % 1024), 0, 32⟩
def CW_RING_EN (i : Nat) : Fld := ⟨0x18 + 0x1000 * (i % 1024), 0, 1⟩
def CW_RING_VECTOR (i : Nat) : Fld := ⟨0x18 + 0x1000 * (i % 1024), 1, 6⟩
def CW_RING_RING_ERR (i : Nat) : Fld := ⟨0x18 + 0x1000 * (i % 1024), 7, 1⟩
def CW_RING_MOD (i : Nat) : Fld := ⟨0x18 + 0x1000 * (i % 1024), 8, 16⟩
def CW_SQ_TAIL_INDEX (i : Nat) : Fld := ⟨0x1c + 0x1000 * (i % 1024), 0, 8⟩
def CW_SQ_HEAD_INDEX (i : Nat) : Fld := ⟨0x20 + 0x1000 * (i % 1024), 0, 8⟩
def CW_CQ_HEAD_INDEX (i : Nat) : Fld := ⟨0x24 + 0x1000 * (i % 1024), 0, 8⟩
def CW_CQ_TAIL_INDEX (i : Nat) : Fld := ⟨0x28 + 0x1000 * (i % 1024), 0, 8⟩
def CW_CQ_TAIL_PHASE (i : Nat) : Fld := ⟨0x28 + 0x1000 * (i % 1024), 8, 1⟩
def CW_IRQ_CPL (i : Nat) : Fld := ⟨0x2c + 0x1000 * (i % 1024), 0, 1⟩
def CW_IRQ_STREAM (i : Nat) : Fld := ⟨0x2c + 0x1000 * (i % 1024), 1, 1⟩
def CW_IRQ_STR_OVF (i : Nat) : Fld := ⟨0x2c + 0x1000 * (i % 1024), 2, 1⟩
def CW_IRQ_FIN_COS (i : Nat) : Fld := ⟨0x2c + 0x1000 * (i % 1024), 3, 1⟩
def CW_IRQ_UNBOUND (i : Nat) : Fld := ⟨0x2c + 0x1000 * (i % 1024), 4, 1⟩
def CW_IRQ_RING_ERR (i : Nat) : Fld := ⟨0x2c + 0x1000 * (i % 1024), 5, 1⟩
def CW_IRQ_EN_CPL (i : Nat) : Fld := ⟨0x30 + 0x1000 * (i % 1024), 0, 1⟩
def CW_IRQ_EN_STREAM (i : Nat) : Fld := ⟨0x30 + 0x1000 * (i % 1024), 1, 1⟩
def CW_IRQ_EN_STR_OVF (i : Nat) : Fld := ⟨0x30 + 0x1000 * (i % 1024), 2, 1⟩
def CW_IRQ_EN_FIN_COS (i : Nat) : Fld := ⟨0x30 + 0x1000 * (i % 1024), 3, 1⟩
def CW_IRQ_EN_UNBOUND (i : Nat) : Fld := ⟨0x30 + 0x1000 * (i % 1024), 4, 1⟩
def CW_IRQ_EN_RING_ERR (i : Nat) : Fld := ⟨0x30 + 0x1000 * (i % 1024), 5, 1⟩
def CW_RADDR_OFFSET (i : Nat) : Fld := ⟨0x34 + 0x1000 * (i % 1024), 0, 26⟩
def CW_RDATA_DATA (i : Nat) : Fld := ⟨0x38 + 0x1000 * (i % 1024), 0, 32⟩
def CW_RSTAT_RESULT (i : Nat) : Fld := ⟨0x3c + 0x1000 * (i % 1024), 0, 2⟩
def CW_STR_BASE_LO_BASE (i : Nat) (j : Nat) : Fld := ⟨0x40 + 0x1000 * (i % 1024) + 0x20 * (j % 4), 0, 32⟩
def CW_STR_BASE_HI_BASE (i : Nat) (j : Nat) : Fld := ⟨0x44 + 0x1000 * (i % 1024) + 0x20 * (j % 4), 0, 32⟩
def CW_STR_CFG_KIND (i : Nat) (j : Nat) : Fld := ⟨0x48 + 0x1000 * (i % 1024) + 0x20 * (j % 4), 0, 3⟩
def CW_STR_CFG_SIZE (i : Nat) (j : Nat) : Fld := ⟨0x48 + 0x1000 * (i % 1024) + 0x20 * (j % 4), 3, 5⟩
def CW_STR_CFG_EN (i : Nat) (j : Nat) : Fld := ⟨0x48 + 0x1000 * (i % 1024) + 0x20 * (j % 4), 8, 1⟩
def CW_STR_CFG_IRQ (i : Nat) (j : Nat) : Fld := ⟨0x48 + 0x1000 * (i % 1024) + 0x20 * (j % 4), 9, 1⟩
def CW_STR_WR_INDEX (i : Nat) (j : Nat) : Fld := ⟨0x4c + 0x1000 * (i % 1024) + 0x20 * (j % 4), 0, 17⟩
def CW_STR_RD_INDEX (i : Nat) (j : Nat) : Fld := ⟨0x50 + 0x1000 * (i % 1024) + 0x20 * (j % 4), 0, 17⟩
def CW_STR_DROP_DROP_N (i : Nat) (j : Nat) : Fld := ⟨0x54 + 0x1000 * (i % 1024) + 0x20 * (j % 4), 0, 16⟩
def CW_HALT_KEY (i : Nat) : Fld := ⟨0xffc + 0x1000 * (i % 1024), 0, 32⟩
def IMG_CTRL_CMD : Fld := ⟨0x401000, 0, 4⟩
def IMG_CTRL_SLOT : Fld := ⟨0x401000, 4, 2⟩
def IMG_CTRL_TRIAL : Fld := ⟨0x401000, 6, 1⟩
def IMG_STATUS_STAGE : Fld := ⟨0x401004, 0, 3⟩
def IMG_STATUS_ACTIVE : Fld := ⟨0x401004, 3, 1⟩
def IMG_STATUS_BUSY : Fld := ⟨0x401004, 4, 1⟩
def IMG_STATUS_UNKEYED : Fld := ⟨0x401004, 5, 1⟩
def IMG_STATUS_LIVE : Fld := ⟨0x401004, 6, 1⟩
def IMG_STATUS_BOOTED_FROM : Fld := ⟨0x401004, 7, 2⟩
def IMG_ERR_CODE : Fld := ⟨0x401008, 0, 8⟩
def IMG_ERR_SEG : Fld := ⟨0x401008, 8, 8⟩
def IMG_ERR_RULE : Fld := ⟨0x401008, 16, 16⟩
def IMG_ERROFS_OFFSET : Fld := ⟨0x40100c, 0, 32⟩
def IMG_TOKEN_TOKEN : Fld := ⟨0x401010, 0, 32⟩
def IMG_COMMIT_TOKEN : Fld := ⟨0x401014, 0, 32⟩
def IMG_ACT_FT_LO_T : Fld := ⟨0x401018, 0, 32⟩
def IMG_ACT_FT_HI_T : Fld := ⟨0x40101c, 0, 32⟩
def IMG_ACT_FRAME_FRAME : Fld := ⟨0x401020, 0, 32⟩
def IMG_DIFF_SEGS : Fld := ⟨0x401024, 0, 9⟩
def IMG_DIFF_HDR : Fld := ⟨0x401024, 9, 1⟩
def IMG_ACTIVE_ID_IMAGE_ID : Fld := ⟨0x401028, 0, 32⟩
def IMG_STAGED_ID_IMAGE_ID : Fld := ⟨0x40102c, 0, 32⟩
def IMG_ACTIVE_VER_IMAGE_VER : Fld := ⟨0x401030, 0, 16⟩
def IMG_ACTIVE_VER_SEC_VER : Fld := ⟨0x401030, 16, 16⟩
def IMG_STAGED_VER_IMAGE_VER : Fld := ⟨0x401034, 0, 16⟩
def IMG_STAGED_VER_SEC_VER : Fld := ⟨0x401034, 16, 16⟩
def IMG_BOOT_PREF : Fld := ⟨0x401038, 0, 1⟩
def IMG_BOOT_VALID_A : Fld := ⟨0x401038, 1, 1⟩
def IMG_BOOT_VALID_B : Fld := ⟨0x401038, 2, 1⟩
def IMG_BOOT_TRIAL_A : Fld := ⟨0x401038, 3, 1⟩
def IMG_BOOT_TRIAL_B : Fld := ⟨0x401038, 4, 1⟩
def IMG_FLOOR_SEC_FLOOR : Fld := ⟨0x40103c, 0, 16⟩
def IMG_KEY_PROGRAMMED : Fld := ⟨0x401040, 0, 4⟩
def IMG_KEY_REVOKED : Fld := ⟨0x401040, 4, 4⟩
def IMG_KEY_MATCH : Fld := ⟨0x401040, 8, 2⟩
def IMG_KEYDATA_DIGEST (i : Nat) : Fld := ⟨0x401044 + 0x4 * (i % 8), 0, 32⟩
def IMG_EVENT_VERIFY_DONE : Fld := ⟨0x401064, 0, 1⟩
def IMG_EVENT_REFUSED : Fld := ⟨0x401064, 1, 1⟩
def IMG_EVENT_ACTIVATED : Fld := ⟨0x401064, 2, 1⟩
def IMG_EVENT_SAVE_DONE : Fld := ⟨0x401064, 3, 1⟩
def IMG_EVENT_SAVE_FAIL : Fld := ⟨0x401064, 4, 1⟩
def IMG_EVENT_TRIAL_FAIL : Fld := ⟨0x401064, 5, 1⟩
def IMG_EVENT_REPLAYED : Fld := ⟨0x401064, 6, 1⟩
def IMG_EVENT_NOT_QUIET : Fld := ⟨0x401064, 7, 1⟩
def IMG_EVENT_CFG_ERR : Fld := ⟨0x401064, 8, 1⟩
def RES_STATE_STATE : Fld := ⟨0x5c0000, 0, 2⟩
def RES_STATE_LANE_A : Fld := ⟨0x5c0000, 2, 2⟩
def RES_STATE_LANE_B : Fld := ⟨0x5c0000, 4, 2⟩
def RES_STATE_FIRE_OK : Fld := ⟨0x5c0000, 6, 3⟩
def RES_STATE_FIRE_FENCED : Fld := ⟨0x5c0000, 9, 3⟩
def RES_STATE_HELD_SAFE : Fld := ⟨0x5c0000, 12, 1⟩
def RES_STATE_STOP : Fld := ⟨0x5c0000, 13, 1⟩
def RES_STATE_STOP_SRC : Fld := ⟨0x5c0000, 14, 3⟩
def RES_STATE_DIE_PATH : Fld := ⟨0x5c0000, 17, 4⟩
def RES_EVENT_TAKEOVER : Fld := ⟨0x5c0004, 0, 1⟩
def RES_EVENT_RECOVERED : Fld := ⟨0x5c0004, 1, 1⟩
def RES_EVENT_FENCED : Fld := ⟨0x5c0004, 2, 1⟩
def RES_EVENT_HELD_SAFE : Fld := ⟨0x5c0004, 3, 1⟩
def RES_EVENT_FIRE_COPY : Fld := ⟨0x5c0004, 4, 1⟩
def RES_EVENT_ECC_UNCORR : Fld := ⟨0x5c0004, 5, 1⟩
def RES_EVENT_DIE_PATH : Fld := ⟨0x5c0004, 6, 1⟩
def RES_EVENT_DIE_LINK : Fld := ⟨0x5c0004, 7, 1⟩
def RES_EVENT_REF_WARN : Fld := ⟨0x5c0004, 8, 1⟩
def RES_EVENT_REF_VOTE : Fld := ⟨0x5c0004, 9, 1⟩
def RES_EVENT_REF_DERATE : Fld := ⟨0x5c0004, 10, 1⟩
def RES_EVENT_RELEASED : Fld := ⟨0x5c0004, 11, 1⟩
def RES_EVENT_FENCED_BEFORE : Fld := ⟨0x5c0004, 12, 1⟩
def RES_EVENT_CFG_ERR : Fld := ⟨0x5c0004, 13, 1⟩
def RES_CTRL_STOPN_AUTO : Fld := ⟨0x5c0008, 0, 1⟩
def RES_CTRL_REFA_EN : Fld := ⟨0x5c0008, 1, 1⟩
def RES_CMD_CMD : Fld := ⟨0x5c000c, 0, 3⟩
def RES_CAUSE_LANE : Fld := ⟨0x5c0010, 0, 2⟩
def RES_CAUSE_CHECKER : Fld := ⟨0x5c0010, 2, 3⟩
def RES_CAUSE_UNIT : Fld := ⟨0x5c0010, 5, 8⟩
def RES_HSCAUSE_CAUSE : Fld := ⟨0x5c0014, 0, 3⟩
def RES_HSFT_LO_T : Fld := ⟨0x5c0018, 0, 32⟩
def RES_HSFT_HI_T : Fld := ⟨0x5c001c, 0, 32⟩
def RES_TIMES_LAST : Fld := ⟨0x5c0020, 0, 10⟩
def RES_TIMES_MAX : Fld := ⟨0x5c0020, 16, 10⟩
def RES_CNT_A_TAKEOVER_N : Fld := ⟨0x5c0024, 0, 16⟩
def RES_CNT_A_FENCE_N : Fld := ⟨0x5c0024, 16, 16⟩
def RES_CNT_B_ECC_CORR_N : Fld := ⟨0x5c0028, 0, 16⟩
def RES_CNT_B_ECC_UNCORR_N : Fld := ⟨0x5c0028, 16, 16⟩
def RES_CNT_C_FIRE_COPY_N : Fld := ⟨0x5c002c, 0, 16⟩
def RES_CNT_C_PATH_N : Fld := ⟨0x5c002c, 16, 16⟩
def RES_ECCLOG_MEMORY : Fld := ⟨0x5c0030, 0, 4⟩
def RES_ECCLOG_WHERE : Fld := ⟨0x5c0030, 4, 2⟩
def RES_ECCLOG_COPY : Fld := ⟨0x5c0030, 6, 2⟩
def RES_ECCADDR_ADDR : Fld := ⟨0x5c0034, 0, 32⟩
def REF_STAT_IN_VOTE (i : Nat) : Fld := ⟨0x5c0100 + 0x10 * (i % 5), 0, 3⟩
def REF_STAT_VOTED (i : Nat) : Fld := ⟨0x5c0100 + 0x10 * (i % 5), 3, 3⟩
def REF_STAT_WARN (i : Nat) : Fld := ⟨0x5c0100 + 0x10 * (i % 5), 6, 1⟩
def REF_STAT_DERATE (i : Nat) : Fld := ⟨0x5c0100 + 0x10 * (i % 5), 7, 1⟩
def REF_STAT_SUSPECT (i : Nat) : Fld := ⟨0x5c0100 + 0x10 * (i % 5), 8, 1⟩
def REF_D01_D (i : Nat) : Fld := ⟨0x5c0104 + 0x10 * (i % 5), 0, 20⟩
def REF_D0A_D (i : Nat) : Fld := ⟨0x5c0108 + 0x10 * (i % 5), 0, 20⟩
def REF_D1A_D (i : Nat) : Fld := ⟨0x5c010c + 0x10 * (i % 5), 0, 20⟩
def PWR_STATUS_READY : Fld := ⟨0x5d0000, 0, 1⟩
def PWR_STATUS_HOLD_OK : Fld := ⟨0x5d0000, 1, 1⟩
def PWR_STATUS_RTC_VALID : Fld := ⟨0x5d0000, 2, 1⟩
def PWR_STATUS_PG : Fld := ⟨0x5d0000, 3, 3⟩
def PWR_STATUS_START_KIND : Fld := ⟨0x5d0000, 6, 2⟩
def PWR_STATUS_LD_SRC : Fld := ⟨0x5d0000, 8, 2⟩
def PWR_STATUS_SLEEP_PEND : Fld := ⟨0x5d0000, 10, 1⟩
def PWR_EVENT_START_FAIL : Fld := ⟨0x5d0004, 0, 1⟩
def PWR_EVENT_BO_SAVED : Fld := ⟨0x5d0004, 1, 1⟩
def PWR_EVENT_BO_SAVE_FAIL : Fld := ⟨0x5d0004, 2, 1⟩
def PWR_EVENT_HOLD_LOW : Fld := ⟨0x5d0004, 3, 1⟩
def PWR_EVENT_PG_LOST : Fld := ⟨0x5d0004, 4, 1⟩
def PWR_EVENT_SAVE_DONE : Fld := ⟨0x5d0004, 5, 1⟩
def PWR_EVENT_SLEEP_BUSY : Fld := ⟨0x5d0004, 6, 1⟩
def PWR_EVENT_CFG_ERR : Fld := ⟨0x5d0004, 7, 1⟩
def PWR_AOLOG_PG_MISSING : Fld := ⟨0x5d0008, 0, 3⟩
def PWR_AOLOG_BO_PREV : Fld := ⟨0x5d0008, 3, 1⟩
def PWR_AOLOG_PGLOST_PREV : Fld := ⟨0x5d0008, 4, 1⟩
def PWR_AOLOG_FAIL_N : Fld := ⟨0x5d0008, 5, 4⟩
def PWR_BO_SYS : Fld := ⟨0x5d000c, 0, 1⟩
def PWR_BO_BO_TRIP : Fld := ⟨0x5d000c, 1, 8⟩
def PWR_VHOLD_V : Fld := ⟨0x5d0010, 0, 20⟩
def PWR_CMD_CMD : Fld := ⟨0x5d0014, 0, 2⟩
def PWR_WAKE_BUS_EN : Fld := ⟨0x5d0018, 0, 1⟩
def PWR_WAKE_FIN_EN : Fld := ⟨0x5d0018, 1, 1⟩
def PWR_WAKE_RTC_EN : Fld := ⟨0x5d0018, 2, 1⟩
def PWR_WAKE_WAKE_SRC : Fld := ⟨0x5d0018, 8, 3⟩
def PWR_WAKE_WAKE_PORT : Fld := ⟨0x5d0018, 11, 3⟩
def LD_CTRL_LD_PERIOD : Fld := ⟨0x5d001c, 0, 8⟩
def RTC_NOW_LO_SEC : Fld := ⟨0x5d0020, 0, 32⟩
def RTC_NOW_HI_SEC : Fld := ⟨0x5d0024, 0, 8⟩
def RTC_ALARM_LO_SEC : Fld := ⟨0x5d0028, 0, 32⟩
def RTC_ALARM_HI_SEC : Fld := ⟨0x5d002c, 0, 8⟩
def SEQ_A_SEQ : Fld := ⟨0x5d0030, 0, 32⟩
def SEQ_B_SEQ : Fld := ⟨0x5d0034, 0, 32⟩
def SEQ_LD_SEQ : Fld := ⟨0x5d0038, 0, 32⟩
def PWR_TIMES_READY_T : Fld := ⟨0x5d003c, 0, 16⟩
def PWR_TIMES_SAVE_T : Fld := ⟨0x5d003c, 16, 16⟩
def BANK_IDX_WORD : Fld := ⟨0x5d0040, 0, 15⟩
def BANK_IDX_BANK : Fld := ⟨0x5d0040, 15, 1⟩
def BANK_DATA_DATA : Fld := ⟨0x5d0044, 0, 32⟩
def ID_UNIQUE_LO_NUMBER : Fld := ⟨0x400000, 0, 32⟩
def ID_UNIQUE_HI_NUMBER : Fld := ⟨0x400004, 0, 32⟩
def ID_DEVICE_VARIANT : Fld := ⟨0x400008, 0, 4⟩
def ID_DEVICE_STEPPING : Fld := ⟨0x400008, 4, 8⟩
def ID_DEVICE_FAMILY : Fld := ⟨0x400008, 12, 8⟩
def CAP_COUNT0_OUTLETS : Fld := ⟨0x40000c, 0, 11⟩
def CAP_COUNT0_CONTEXTS : Fld := ⟨0x40000c, 11, 11⟩
def CAP_COUNT1_LEDGER : Fld := ⟨0x400010, 0, 17⟩
def CAP_COUNT1_TILE_SLOTS : Fld := ⟨0x400010, 17, 8⟩
def CAP_COUNT2_VALVE_CH : Fld := ⟨0x400014, 0, 8⟩
def CAP_COUNT2_LS : Fld := ⟨0x400014, 8, 6⟩
def CAP_COUNT2_FIN : Fld := ⟨0x400014, 14, 7⟩
def CAP_COUNT2_FOUT : Fld := ⟨0x400014, 21, 6⟩
def CAP_COUNT3_TRACKING : Fld := ⟨0x400018, 0, 11⟩
def CAP_COUNT3_AS_PORTS : Fld := ⟨0x400018, 11, 3⟩
def CAP_COUNT3_LINKS : Fld := ⟨0x400018, 14, 5⟩
def CAP_COUNT3_BUS : Fld := ⟨0x400018, 19, 3⟩
def CAP_COUNT3_HOST : Fld := ⟨0x400018, 22, 3⟩
def CAP_PRESENT_BASEBAND : Fld := ⟨0x40001c, 0, 1⟩
def CAP_PRESENT_DRIVE_A : Fld := ⟨0x40001c, 1, 1⟩
def CAP_PRESENT_DRIVE_B : Fld := ⟨0x40001c, 2, 1⟩
def CAP_PRESENT_SWITCH : Fld := ⟨0x40001c, 3, 1⟩
def CAP_PRESENT_FIELD : Fld := ⟨0x40001c, 4, 1⟩
def REC_EVENT_FULL : Fld := ⟨0x5e0000, 0, 1⟩
def REC_EVENT_QLOST : Fld := ⟨0x5e0000, 1, 1⟩
def REC_EVENT_CORRUPT : Fld := ⟨0x5e0000, 2, 1⟩
def REC_EVENT_ERASE_DONE : Fld := ⟨0x5e0000, 3, 1⟩
def REC_EVENT_PMC_OVF : Fld := ⟨0x5e0000, 4, 1⟩
def REC_EVENT_SMP_FULL : Fld := ⟨0x5e0000, 5, 1⟩
def REC_EVENT_CFG_ERR : Fld := ⟨0x5e0000, 6, 1⟩
def CV_STATUS_COUNT : Fld := ⟨0x5e0004, 0, 17⟩
def CV_STATUS_FULL : Fld := ⟨0x5e0004, 17, 1⟩
def CV_STATUS_ERASING : Fld := ⟨0x5e0004, 18, 1⟩
def CV_STATUS_CORRUPT : Fld := ⟨0x5e0004, 19, 13⟩
def CV_DROPPED_DROPPED : Fld := ⟨0x5e0008, 0, 32⟩
def CV_IDX_RECORD : Fld := ⟨0x5e000c, 0, 16⟩
def CV_IDX_WORD : Fld := ⟨0x5e000c, 16, 4⟩
def CV_DATA_DATA : Fld := ⟨0x5e0010, 0, 32⟩
def CV_ERASE_KEY : Fld := ⟨0x5e0014, 0, 32⟩
def CV_QLOST_QLOST_N : Fld := ⟨0x5e0018, 0, 16⟩
def MU_WRITTEN_WRITTEN : Fld := ⟨0x5e0020, 0, 32⟩
def MU_CTRL_FREEZE : Fld := ⟨0x5e0024, 0, 1⟩
def MU_IDX_ENTRY : Fld := ⟨0x5e0028, 0, 12⟩
def MU_IDX_WORD : Fld := ⟨0x5e0028, 12, 3⟩
def MU_DATA_DATA : Fld := ⟨0x5e002c, 0, 32⟩
def MU_SKIP_SKIP_N : Fld := ⟨0x5e0030, 0, 16⟩
def TAG_IDX_WORD : Fld := ⟨0x5e0040, 0, 10⟩
def TAG_DATA_DATA : Fld := ⟨0x5e0044, 0, 32⟩
def TAG_WCOUNT_COUNT : Fld := ⟨0x5e0048, 0, 32⟩
def PMC_CTRL_RUN : Fld := ⟨0x5e0100, 0, 1⟩
def PMC_CTRL_CLEAR : Fld := ⟨0x5e0100, 1, 1⟩
def PMC_OVF_LO_OVF : Fld := ⟨0x5e0104, 0, 32⟩
def PMC_OVF_HI_OVF : Fld := ⟨0x5e0108, 0, 32⟩
def PMC_CFG_EVENT (i : Nat) : Fld := ⟨0x5e0200 + 0x10 * (i % 64), 0, 10⟩
def PMC_CFG_EN (i : Nat) : Fld := ⟨0x5e0200 + 0x10 * (i % 64), 10, 1⟩
def PMC_CFG_CHAIN (i : Nat) : Fld := ⟨0x5e0200 + 0x10 * (i % 64), 11, 1⟩
def PMC_CFG_OVF_IRQ (i : Nat) : Fld := ⟨0x5e0200 + 0x10 * (i % 64), 12, 1⟩
def PMC_LO_COUNT (i : Nat) : Fld := ⟨0x5e0204 + 0x10 * (i % 64), 0, 32⟩
def PMC_HI_COUNT (i : Nat) : Fld := ⟨0x5e0208 + 0x10 * (i % 64), 0, 8⟩
def SMP_CTRL_CORES : Fld := ⟨0x5e0600, 0, 8⟩
def SMP_CTRL_EN : Fld := ⟨0x5e0600, 8, 1⟩
def SMP_CTRL_JITTER : Fld := ⟨0x5e0600, 9, 1⟩
def SMP_CTRL_SLOT : Fld := ⟨0x5e0600, 10, 6⟩
def SMP_CTRL_SLOT_EN : Fld := ⟨0x5e0600, 16, 1⟩
def SMP_PERIOD_PERIOD : Fld := ⟨0x5e0604, 0, 16⟩
def SMP_COUNT_COUNT : Fld := ⟨0x5e0608, 0, 11⟩
def SMP_COUNT_FULL : Fld := ⟨0x5e0608, 11, 1⟩
def TBL_ENTRY (i : Nat) (j : Nat) : Fld := ⟨0x548000 + 0x400 * (i % 16) + 0x4 * (j % 256), 0, 20⟩
def PROG_INSTR (i : Nat) (j : Nat) : Fld := ⟨0x550000 + 0x4000 * (i % 8) + 0x4 * (j % 4096), 0, 20⟩
def CAP_WORD (i : Nat) : Fld := ⟨0x570000 + 0x4 * (i % 8192), 0, 20⟩
def DATA_D (i : Nat) (j : Nat) : Fld := ⟨0x578000 + 0x100 * (i % 64) + 0x4 * (j % 64), 0, 20⟩
def COEF_C (i : Nat) (j : Nat) : Fld := ⟨0x57c000 + 0x100 * (i % 64) + 0x4 * (j % 64), 0, 20⟩
def SMP_BUF_DATA (i : Nat) (j : Nat) : Fld := ⟨0x5e1000 + 0x10 * (i % 1024) + 0x4 * (j % 4), 0, 32⟩
def AUXPWM_CTRL_LEDGER (i : Nat) : Fld := ⟨0x529000 + 0x20 * (i % 16), 0, 1⟩
def AUXPWM_CTRL_PENDING (i : Nat) : Fld := ⟨0x529000 + 0x20 * (i % 16), 1, 1⟩
def AUXPWM_CTRL_CLAMP (i : Nat) : Fld := ⟨0x529000 + 0x20 * (i % 16), 2, 1⟩
def AUXPWM_CHOP_CHOP_PER (i : Nat) : Fld := ⟨0x529004 + 0x20 * (i % 16), 0, 20⟩
def AUXPWM_PERIOD_PERIOD (i : Nat) : Fld := ⟨0x529008 + 0x20 * (i % 16), 0, 32⟩
def AUXPWM_DUTY_DUTY (i : Nat) : Fld := ⟨0x52900c + 0x20 * (i % 16), 0, 20⟩
def AUXPWM_PHASE_PHASE (i : Nat) : Fld := ⟨0x529010 + 0x20 * (i % 16), 0, 20⟩
def AUXPWM_ACT_DUTY_DUTY (i : Nat) : Fld := ⟨0x529014 + 0x20 * (i % 16), 0, 20⟩
def AUXPWM_ACT_PERIOD_PERIOD (i : Nat) : Fld := ⟨0x529018 + 0x20 * (i % 16), 0, 32⟩
def MSIX0_ADDR_LO_V (i : Nat) : Fld := ⟨0x5ba000 + 0x10 * (i % 64), 0, 32⟩
def MSIX0_ADDR_HI_V (i : Nat) : Fld := ⟨0x5ba004 + 0x10 * (i % 64), 0, 32⟩
def MSIX0_DATA_V (i : Nat) : Fld := ⟨0x5ba008 + 0x10 * (i % 64), 0, 32⟩
def MSIX0_CTRL_MASK (i : Nat) : Fld := ⟨0x5ba00c + 0x10 * (i % 64), 0, 1⟩
def MSIX0_PBA_PEND (i : Nat) : Fld := ⟨0x5bb000 + 0x4 * (i % 2), 0, 32⟩
def MSIX1_ADDR_LO_V (i : Nat) : Fld := ⟨0x5bc000 + 0x10 * (i % 64), 0, 32⟩
def MSIX1_ADDR_HI_V (i : Nat) : Fld := ⟨0x5bc004 + 0x10 * (i % 64), 0, 32⟩
def MSIX1_DATA_V (i : Nat) : Fld := ⟨0x5bc008 + 0x10 * (i % 64), 0, 32⟩
def MSIX1_CTRL_MASK (i : Nat) : Fld := ⟨0x5bc00c + 0x10 * (i % 64), 0, 1⟩
def MSIX1_PBA_PEND (i : Nat) : Fld := ⟨0x5bd000 + 0x4 * (i % 2), 0, 32⟩

end Reg

end Sys2Proof.Machine
end

