-- ==== Sys2Proof/Machine/Sparse.lean ====
section
/-! DEFINITION. Sparse tables: a list of (key, value) pairs with strictly rising keys and no value equal to what an
unlisted key reads as, so that equal tables are equal lists. Every register, memory and per-index table of State is one. -/

namespace Sys2Proof.Machine

/-- The value at key `k`; `d` says what an unlisted key reads as. -/
def sget {α : Type} (d : Nat → α) : List (Nat × α) → Nat → α
  | [], k => d k
  | (j, v) :: m, k => if j = k then v else sget d m k

/-- `(k, v)` put at its place among rising keys. -/
def sins {α : Type} (k : Nat) (v : α) : List (Nat × α) → List (Nat × α)
  | [] => [(k, v)]
  | (j, w) :: m => if k < j then (k, v) :: (j, w) :: m else (j, w) :: sins k v m

/-- The table without key `k`. -/
def sdel {α : Type} (k : Nat) : List (Nat × α) → List (Nat × α)
  | [] => []
  | (j, w) :: m => if j = k then sdel k m else (j, w) :: sdel k m

/-- The table with key `k` holding `v`; holding the unlisted value means not being listed. -/
def sset {α : Type} [DecidableEq α] (d : Nat → α) (m : List (Nat × α)) (k : Nat) (v : α) : List (Nat × α) :=
  if v = d k then sdel k m else sins k v (sdel k m)

/-- Every key of the table is above `b`. -/
def sabove {α : Type} (b : Nat) (m : List (Nat × α)) : Bool := m.all (fun e => b < e.1)

/-- The canonical form: keys strictly rise and no entry holds the unlisted value. -/
def swf {α : Type} [DecidableEq α] (d : Nat → α) : List (Nat × α) → Bool
  | [] => true
  | (k, v) :: m => sabove k m && (decide (v ≠ d k) && swf d m)

/-- The bytes `f 0 … f (n-1)` stored from key `k` on. -/
def ssetMany {α : Type} [DecidableEq α] (d : Nat → α) (m : List (Nat × α)) (k : Nat) : List α → List (Nat × α)
  | [] => m
  | v :: vs => ssetMany d (sset d m k v) (k + 1) vs

/-- `n` values from key `k` on. -/
def sgetMany {α : Type} (d : Nat → α) (m : List (Nat × α)) (k n : Nat) : List α :=
  (List.range n).map (fun i => sget d m (k + i))

end Sys2Proof.Machine
end

