-- ==== Sys2Proof/Machine/State.lean ====
section
/-! DEFINITION. The state of the part as plain data. Every register of spec/ has its one home in `regs`; the block structures hold
what the chapters give the machine beside its registers: staged values, histories, timers' marks, stores and queues. -/

namespace Sys2Proof.Machine

/-- The three variants (R1, Table 18.14); the strap is fixed at manufacture. -/
inductive Variant where
  | f1024 | l1024 | f0512
  deriving DecidableEq, Repr

/-- Reasons a step faults. There are none: R443 gives every access an effect, and a command whose trigger the spec does not
admit changes nothing. -/
inductive Fault
  deriving DecidableEq, Repr

/-- Reasons a step is refused. -/
inductive Refusal where
  /-- Raised by an arm of `exec` whose command has no meaning yet (none is left); safe: the machine stops. -/
  | notModelled (mnemonic : String)
  deriving DecidableEq, Repr

/-- The answer of the last register or memory access to whoever made it: result code (0 OK, 1 REFUSED, 2 UNIT_ABSENT, 3 bad
frame; R338, R340) and the words read. -/
structure Answer where
  code : Nat := 0
  data : List Word := []
  deriving DecidableEq, Repr

/-- Timebase state beside the registers (chapter 2). -/
structure TimeState where
  /-- R42: sub-tick accumulator, 1e-9 tick. -/
  acc : Int := 0
  /-- R45: the offset in force, the staged one, and whether one was ever written (R43). -/
  ofs : Time := 0
  ofsStaged : Option Time := none
  ofsWritten : Bool := false
  /-- R46: calendar seconds at field time `calFt`. -/
  calSec : Nat := 0
  calFt : Time := 0
  calFrac : Nat := 0
  /-- R51: PERIOD and HORIZON in force (FRM_CFG holds the staged ones). -/
  period : Nat := 0x14
  horizon : Nat := 0xFA0
  /-- R48: frames run; R39: PLL relock under way since; R55: lock held. -/
  framesOn : Bool := false
  relock : Bool := false
  /-- R44: REF_MEAS of the last 60 seconds, newest first, none for a second without MEAS_VALID. -/
  refHist : List (Option Int) := []
  /-- R44: compliant seconds counted, and whether the conditions of MEAS_VALID lapsed in this second. -/
  comply : Nat := 0
  secBad : Bool := false
  /-- R54: follower aligned, pulses rejected in a row, alignment lost before, SYNCIN_ERR values of this second. -/
  aligned : Bool := false
  missed : Nat := 0
  syncLost : Bool := false
  errs : List Int := []
  /-- R53: leading and trailing edge of the last SYNCOUT pulse at the land. -/
  syncOut : Option (Time × Time) := none
  /-- R48: start of the next frame. -/
  next : Option Time := none
  /-- R37, R39: since when REFIN has been active without interruption. -/
  refinSince : Option Time := none
  deriving DecidableEq, Repr

/-- A tracking channel beside its registers (R67–R80). -/
structure ChanState where
  /-- Prompt sums of the last 20 periods, newest first (Table 3.3). -/
  prompts : List Tap := []
  /-- Periods with PLL lock in a row (Table 3.2). -/
  lockRun : Nat := 0
  /-- Acquisition: tap powers summed over the dwells so far, dwells summed, cells searched (R74). -/
  powers : List Nat := []
  dwells : Nat := 0
  cells : Nat := 0
  /-- R79: moved to the spare and not yet in TRACK. -/
  moved : Bool := false
  /-- R77: SLIP since the previous record; field time at which the present lock began. -/
  slip : Bool := false
  lockFt : Time := 0
  /-- R69: started aided. -/
  aided : Bool := false
  /-- R67, R77: carrier phase since the start of PULLIN in 2^-32 cycle and code phase within the primary code in 2^-32 chip, as they stood
  at field time `ncoFt`. -/
  carrPh : Int := 0
  codePh : Nat := 0
  ncoFt : Time := 0
  /-- R75: the carrier filter's x1 and x2, in 2^-40 Hz. -/
  x1 : Int := 0
  x2 : Int := 0
  /-- R69, R74: aiding: code phase in 2^-12 chip and Doppler in 2^-40 Hz. -/
  aidCode : Nat := 0
  aidDop : Int := 0
  /-- R74: which of how many parts of the Doppler range a cold start gave this channel. -/
  part : Nat × Nat := (0, 1)
  /-- R72: the previous period's solution, in 2^-20. -/
  fit : List Int := [0, 0, 0]
  /-- R77: hard symbols gathered, oldest first, and the time of the first. -/
  symbols : List Bool := []
  symFt : Time := 0
  deriving DecidableEq, Repr

/-- Baseband state beside the registers (chapter 3). -/
structure GnssState where
  chans : List (Nat × ChanState) := []
  /-- R66: code RAM, 32-chip words. -/
  codeRam : List (Nat × Word) := []
  /-- R82: the 64 KiB retained area, 32-bit words. -/
  retained : List (Nat × Word) := []
  /-- R63: training under way on a port. -/
  training : List Nat := []
  /-- R74: by block of 64 channels, the search cells that a cold start has given out. -/
  cold : List (Nat × Nat) := []
  /-- R80: records of epochs inside a takeover, oldest first. -/
  heldObs : List (List Byte) := []
  /-- R76: the last measurement epoch. -/
  epoch : Option Time := none
  /-- R79: the spare bank has failed. -/
  spareOut : Bool := false
  deriving DecidableEq, Repr

/-- One epoch of the pose history (R92). -/
structure PoseHist where
  te : Time
  pos : List Int
  quat : List Int
  r : Int
  vel : List Int
  valid : Bool
  /-- (DX, DZ) of the eight segments at the epoch (R107). -/
  defl : List (Int × Int)
  deriving DecidableEq, Repr

/-- An IMU beside its registers (R97–R99). -/
structure ImuState where
  /-- Buffered samples, oldest first: stamp and the six body-axis values, rates in 2^-40 rad/s and accelerations in 2^-31 m/s². -/
  buf : List (Time × List Int) := []
  bad : Nat := 0
  good : Nat := 0
  /-- Consecutive full-scale readings of each gyro axis. -/
  full : List Nat := [0, 0, 0]
  /-- R98, R99: body rates of the latest sample in 2^-40 rad/s, its acceleration in 2^-31 m/s², and its stamp. -/
  rate : List Int := [0, 0, 0]
  acc : List Int := [0, 0, 0]
  stamp : Option Time := none
  /-- R97: SPI mode, clock divider and command byte of the latest transfer, and its trigger. -/
  spi : Option (Nat × Nat × Option Nat) := none
  last : Option Time := none
  deriving DecidableEq, Repr

/-- A boom segment beside its registers (R106, R108). -/
structure SegState where
  dx : Int := 0
  dz : Int := 0
  unc : Nat := 0
  /-- 0 none, 1 measured, 2 host, 3 held. -/
  srcAct : Nat := 0
  stale : Bool := false
  /-- Host values committed by a SEG_HOST_UNC write and not yet taken. -/
  host : Option (Int × Int × Nat) := none
  /-- Time of the last update. -/
  last : Time := 0
  deriving DecidableEq, Repr

/-- Propagator state beside the registers (chapter 4). -/
structure PoseState where
  /-- R86: position, 0.1 mm; R87: velocity, 0.1 mm/s; R88: quaternion, 2^-18. -/
  pos : List Int := [0, 0, 0]
  vel : List Int := [0, 0, 0]
  quat : List Int := [262144, 0, 0, 0]
  /-- R103: internal radius, fm, and epochs of the present NAV_IMU stretch; R104: ATT_UNC, prad. -/
  r : Int := 0
  j : Nat := 0
  attUnc : Nat := 0xFFFFF000000
  /-- R92: up to 5,120 epochs, newest first. -/
  hist : List PoseHist := []
  rejectRun : Nat := 0
  pending : List FixIn := []
  lastStamp : Option Time := none
  /-- R89: an accepted fix carried a heading. -/
  fixHeading : Bool := false
  /-- R94: velocity and validity of the antenna serving, its port, and the invalid and valid runs of the reference port. -/
  cpvVel : List Int := [0, 0, 0]
  cpvPort : Option Nat := none
  /-- R94: a chassis antenna serves in place of the reference. -/
  away : Bool := false
  refBad : Nat := 0
  refGood : Nat := 0
  /-- R95: measured vectors (field frame, 0.1 mm) and lengths (mm) of the valid baselines, by antenna. -/
  baselines : List (Nat × List Int) := []
  imu : List (Nat × ImuState) := []
  imuSel : Nat := 2
  /-- R100: stamps of the recent speed edges, newest first. -/
  edges : List Time := []
  seg : List (Nat × SegState) := []
  /-- A 1 kHz baseline update not yet taken by the segments (R106). -/
  blFresh : Bool := false
  /-- R102: records since the last streamed one. R110: epochs were missed in a takeover. -/
  decim : Nat := 0
  coast : Bool := false
  imuSince : Time := 0
  deriving DecidableEq, Repr

/-- One Canvas record (Table 17.2), INDEX being its place in the store. -/
structure CvRec where
  kind : Nat
  source : Nat
  flags : Nat
  cal : Nat
  frac : Nat
  ft : Time
  imageVer : Nat
  data : List Byte
  deriving DecidableEq, Repr

/-- One Muslin entry (Table 17.3). -/
structure MuEntry where
  ft : Time
  kind : Nat
  source : Nat
  flags : Nat
  seq : Nat
  data : List Byte
  deriving DecidableEq, Repr

/-- Records, tags and sampling beside the registers (chapter 17). -/
structure RecState where
  /-- R429: the store, oldest first. Retained. -/
  canvas : List CvRec := []
  /-- R390: records whose check fails. Retained. -/
  badRecs : List Nat := []
  /-- R430: the writer's queue of at most 64 records. -/
  queue : List CvRec := []
  /-- R432: DROPPED as the CANVAS_FULL record holds it. -/
  dropped : Nat := 0
  /-- R433: the supervisor context that started the erasure. -/
  eraser : Nat := 0
  /-- R434: the ring, by slot. -/
  muslin : List (Nat × Option MuEntry) := []
  /-- R435, R429: latched Muslin entry and Canvas record, as words. -/
  muLatch : List Word := []
  cvLatch : List Word := []
  /-- R437: tag words. Retained. -/
  tags : List (Nat × Word) := []
  /-- R427: records latched while the core die was down, oldest first. -/
  deferred : List (Nat × Nat × List Byte) := []
  /-- R440: instruction times since the last sample, PRBS7 register. -/
  smpCount : Nat := 0
  prbs : Nat := 0x7F
  deriving DecidableEq, Repr

/-- A change waiting for a frame boundary (R349): its kind, in R349's order of application. -/
inductive ChangeKind where
  | bind (target : Nat) | unbind (target : Nat) | grant (target : Nat) (value : Bool)
  | take (mode target : Nat) | free | release | claim (mode : Nat)
  deriving DecidableEq, Repr

/-- A pending boundary change with the command that asked for it. -/
structure Change where
  kind : ChangeKind
  ctx : Nat
  tag : Nat
  flags : Nat
  first : Nat
  count : Nat
  ft : Time
  deriving DecidableEq, Repr

/-- Host state beside the registers (chapter 13). -/
structure HostState where
  /-- Completion slots reserved by commands that complete later, by context (R341). -/
  reserved : List (Nat × Nat) := []
  changes : List Change := []
  /-- R351: (outlet, context) pairs holding an inhibit. -/
  inhibits : List (Nat × Nat) := []
  /-- R355: field time of each context's last message, and messages held back by MOD. -/
  lastMsg : List (Nat × Option Time) := []
  held : List Nat := []
  /-- R339: ring memory of the SPI ports: key (port - 2) × 0x80000 + offset. -/
  ring : List (Nat × Byte) := []
  /-- What the part has written into host memory: key port × 2^64 + address. -/
  hostMem : List (Nat × Byte) := []
  /-- R338: result of the last frame of each SPI port. -/
  spi : List (Nat × Nat) := []
  /-- R344: context the arbiter served last, and the commands taken in its visit (0: the visit has ended). -/
  last : Nat := 1023
  run : Nat := 0
  /-- R345: completions held back by a takeover: context, tag, flags, status. -/
  heldCpl : List (Nat × Nat × Nat × Nat) := []
  /-- R337: PCI Express ports whose DMA a reset or link-down has stopped. -/
  dmaOff : List Nat := []
  deriving DecidableEq, Repr


/-- Field maps beside the registers (chapter 5). -/
structure MapState where
  /-- Cells: key slot × 65,536 + 256 × row + column; unlisted cells read as the fill of R125. -/
  cells : List (Nat × Nat) := []
  /-- R125: slots being filled, and aperture writes (offset, bytes) that wait for a fill's end. -/
  filling : List Nat := []
  waiting : List (Nat × List Byte) := []
  /-- Table 5.2: slots with a pending COMMIT, pending evictions, and merges under way (new slot, old slot; R126). -/
  commits : List Nat := []
  evicts : List Nat := []
  merges : List (Nat × Nat) := []
  /-- R132: sealed transitions by outlet, newest first, at most eight: opening or closing, and the open or close time. -/
  trans : List (Nat × List (Bool × Time)) := []
  /-- R133: last painted instant, the pose there and the outlets placed there; R134: cells under each layer's union at the last placement. -/
  tau : Option Time := none
  last : Option PoseHist := none
  placed : List Nat := []
  unions : List (Nat × List (Int × Int)) := []
  /-- R138: runs were missed in a takeover. -/
  missed : Bool := false
  /-- R117: the last valid heading, 2^-18. -/
  head : Int × Int := (262144, 0)
  /-- R132, R419: landing starts and ends still to be formed: landing time, outlet, seal code, end. -/
  landings : List (Time × Nat × Nat × Bool) := []
  deriving DecidableEq, Repr

/-- A ledger entry with its shadow (R152, R153). -/
structure Entry where
  /-- 1 BOOKED, 2 COMMITTED, 3 FIRED, 4 SEALED, 5 CANCELLED, 6 LATE. -/
  st : Nat
  /-- 0 OPEN, 1 CLOSE, 2 RATE. -/
  kind : Nat
  outlet : Nat
  forced : Bool := false
  withheld : Bool := false
  orphaned : Bool := false
  preflux : Bool := false
  replanned : Bool := false
  shifted : Bool := false
  wdr : Bool := false
  cause : Nat := 0
  remote : Bool := false
  /-- R162: booked by the owning context, and by which. -/
  ctx : Option Nat := none
  frame : Nat
  due : Time
  param : Nat := 0
  code : Nat := 0
  /-- Shadow: crossing time and place with its heading, none where it has no crossing place. -/
  cross : Option (Time × (Int × Int) × (Int × Int)) := none
  /-- Shadow: delay A in 0.25 µs, and all that is taken off the crossing time, in ticks (R147). -/
  delayA : Nat := 0
  delay : Nat := 0
  /-- Shadow: the shift floor. -/
  floor : Option Time := none
  /-- Shadow: drawn from the reserve (R168). -/
  reserve : Bool := false
  /-- R475: the value was clamped when last written; R157: the due time a frame last wrote. -/
  clamped : Bool := false
  frameDue : Time
  /-- R164: the node has acknowledged the edge or duty command (links). -/
  acked : Bool := false
  /-- R154: order of its end. -/
  ended : Nat := 0
  deriving DecidableEq, Repr

/-- A pose on the predicted path (R141): time, position in 2^-20 of 0.1 mm, quaternion in 2^-60, and the part's deviation from the
real-valued form in 0.1 mm. -/
structure Pred where
  t : Time
  e : Int
  n : Int
  u : Int
  q : List Int
  dev : Int × Int
  deriving DecidableEq, Repr

/-- A host path (R143): start time, knots (distance, curvature, speed), the pose at its start (position, heading) and the distance
travelled since, in 2^-20 of 0.1 mm. -/
structure HostPath where
  ft : Time
  knots : List (Nat × Int × Nat)
  start : (Int × Int) × (Int × Int)
  progress : Int
  deriving DecidableEq, Repr

/-- The ledger and the planner beside the registers (chapter 6). -/
structure LedgerState where
  entries : List (Nat × Option Entry) := []
  /-- Ends so far (R154). -/
  ends : Nat := 0
  /-- R144: outlets commanded open. -/
  opened : List (Nat × Bool) := []
  /-- R350: last owner rate value applied to an outlet since its claim. -/
  ownerRate : List (Nat × Nat) := []
  /-- R30: the path of the previous frame, how far each outlet is swept, and the inputs its sweep used. -/
  path : List Pred := []
  swept : List (Nat × Option Time) := []
  inputs : List (Nat × List Nat) := []
  /-- R159, R169: outlets with an event that ended, or was not booked, with its crossing still to be found again. -/
  again : List Nat := []
  /-- R143: the active host path and the staged one. -/
  host : Option HostPath := none
  hostStaged : Option HostPath := none
  /-- R41: the image permits degraded-timebase operation. -/
  degradedOk : Bool := false
  /-- R123: rate-table commits made, by layer. -/
  rtGen : List (Nat × Nat) := []
  /-- R116, R378: outlets that an activation added, until the frame start after it. -/
  fresh : List Nat := []
  /-- R156: the epoch of the last commit pass. -/
  lastPass : Option Time := none
  /-- R173: a takeover has ended and no commit pass has run since. -/
  passMissed : Bool := false
  deriving DecidableEq, Repr

/-- A search window of a valve channel that waits for its seal (R188, R191). -/
structure SealWin where
  /-- The ledger entry it seals; none for the search after a modulation off-edge. -/
  entry : Option Nat
  kind : Nat
  /-- Due time (or off-edge time), delay A in 0.25 µs, and the end of the window as cut by a later edge. -/
  f : Time
  a : Nat
  we : Time
  /-- R378: WIN_PRE, 10 µs, as it stood when the window opened. -/
  pre : Nat := 0
  /-- R189: phase 0 reached its target. -/
  reached : Bool := false
  /-- R189: the channel went to FAULT or STOP_N was low. -/
  bad : Bool := false
  /-- R208: the edge fell due in a debug halt. -/
  dbg : Bool := false
  deriving DecidableEq, Repr

/-- A phase of a profile (R180) with the profile's RISE_MIN. -/
structure PhaseRec where
  kind : Nat
  rise : Nat
  itgt : Nat
  band : Nat
  tmax : Nat
  riseMin : Nat
  deriving DecidableEq, Repr

/-- A valve channel beside its registers (chapter 7). -/
structure ValveState where
  /-- Where its decay leads: 0 IDLE, 1 MOD_OFF, 2 OFF, 3 FAULT. -/
  after : Nat := 0
  wins : List SealWin := []
  /-- R191: code and seat distance of the latest modulation off-edge search. -/
  off : Option (Nat × Int) := none
  /-- R201: start and end of the pulse in progress or of the last one; no end while continuously on. -/
  pulse : Option (Time × Option Time) := none
  /-- R195: buckets, the bucket in progress and the milliseconds it has run. -/
  buckets : List (Nat × Nat) := []
  bucket : Nat := 0
  msIn : Nat := 0
  /-- R193: open readings and intact readings in a row. -/
  openReads : Nat := 0
  okReads : Nat := 0
  /-- R185: the entry that pre-fluxes. -/
  pf : Option Nat := none
  /-- R206: 0 no safe state, 1 closed by one, 2 held open by one. -/
  safe : Nat := 0
  /-- R186: FAULT entered on OPEN_COIL, SHORT or a latched trip. -/
  latched : Bool := false
  /-- R208: the latest edge queued in a debug halt. -/
  queued : Option Nat := none
  /-- R204: switched off by a trip in cycle mode; the chopper start from which it drives again. -/
  tripOff : Bool := false
  resume : Option Time := none
  /-- R204: the channel's last edge. -/
  lastEdge : Option Time := none
  /-- R180: when the phase in progress began. -/
  since : Time := 0
  /-- R182: the phase's switching has the low side on. -/
  low : Bool := false
  /-- R179: the last phase has ended with more than 20 mA in the coil. -/
  residual : Bool := false
  /-- R378: the phase in progress as the profile before an activation gives it, and the profile of a decay after an unmapping. -/
  kept : Option PhaseRec := none
  keptProf : Option Nat := none
  deriving DecidableEq, Repr

/-- A PWM unit beside its registers (R202): active phase, and period and phase that wait for the next super-period start. -/
structure UnitState where
  phase : Nat := 0
  wait : Option (Nat × Nat) := none
  deriving DecidableEq, Repr

/-- Valve drive beside the registers (chapter 7); units 128 to 143 are the auxiliary ones. -/
structure DriveState where
  valves : List (Nat × ValveState) := []
  units : List (Nat × UnitState) := []
  /-- R200, R202: super-period in force, a new one waiting, the latest start. -/
  spAct : Nat := 800000000
  spWait : Option Nat := none
  spStart : Time := 0
  /-- STOP_N is low (R205); trip inputs asserted (R204). -/
  stopLow : Bool := false
  trips : List Nat := []
  /-- R208: since when a debug halt has stopped the counters and phase timers, and how long the chopper counters have stood still in all. -/
  haltFt : Option Time := none
  chopLag : Time := 0
  /-- R209: the drive dies whose link handshake has completed since the reset. -/
  shaken : List Nat := []
  deriving DecidableEq, Repr

/-- An outbound frame (R216, Table 8.2): its type, position (none: BCAST) and payload. -/
structure OutFrame where
  type : Nat
  pos : Option Nat
  payload : List Byte
  deriving DecidableEq, Repr

/-- A sequenced command of a position (R227): EDGE, DUTY, CANCEL or MODE. -/
structure LinkCmd where
  pos : Nat
  type : Nat
  seq : Option Nat := none
  entry : Option Nat := none
  out : Nat := 0
  kind : Nat := 0
  due : Time := 0
  a : Nat := 0
  rate : Nat := 0
  /-- CANCEL: the sequence number withdrawn, and the link outlet held until it is acknowledged (R236). -/
  target : Nat := 0
  holds : Option Nat := none
  mode : Nat := 0
  data : List Byte := []
  sent : Bool := false
  acked : Bool := false
  /-- R228, R236: its entry is withdrawn; it stays until its number is acknowledged. -/
  withdrawn : Bool := false
  rejected : Bool := false
  deriving DecidableEq, Repr

/-- An outlet link beside its registers (chapter 8). -/
structure LinkState where
  /-- Unsequenced frames waiting, and commands in order. -/
  ctl : List OutFrame := []
  cmds : List LinkCmd := []
  /-- HOLD frames still to be sent back to back (R236). -/
  holdFrames : Nat := 0
  /-- The frames of the latest cycle, in order, with the symbol time each starts at, and its number (R218). -/
  sent : List OutFrame := []
  starts : List Nat := []
  cycle : Nat := 0
  /-- R223, R239: VALID as the next BEACON carries it. -/
  valid : Nat := 0
  /-- R235: the special set sent last: 0 none, 1 HALT, 2 SAFE. -/
  special : Nat := 0
  /-- R223: position being assigned with its cycles so far, position being enumerated with its PINGs so far (5: its CONFIRM
  waits to be sent), next attempt. -/
  assign : Option (Nat × Nat) := none
  enumerating : Option (Nat × Nat) := none
  notBefore : Time := 0
  /-- R225: position pinged last in turn, transmit times of the outstanding PINGs, RTTs by position, newest first. -/
  turn : Nat := 0
  pings : List (Nat × Time) := []
  rtts : List (Nat × List Int) := []
  /-- R238: start of the last BEACON sent with the position's bit set. -/
  beacons : List (Nat × Time) := []
  /-- R223: serial numbers seen at positions since reset. -/
  serials : List (Nat × Option Nat) := []
  /-- R239: RESYNC asked for. -/
  resync : List Nat := []
  /-- R378: link outlets brought closed by their removal from the outlet table. -/
  removed : List Nat := []
  /-- R236: link outlets whose withdrawn OPEN had not been sent: held until the next cycle has shown it. -/
  unsent : List Nat := []
  deriving DecidableEq, Repr

/-- The outlet links (chapter 8). -/
structure LinksState where
  links : List (Nat × LinkState) := []
  /-- R476: the last duty that the node of an outlet has acknowledged. -/
  duties : List (Nat × Nat) := []
  deriving DecidableEq, Repr
/-- A loop slot beside its registers (chapter 9). -/
structure SlotState where
  /-- R244: working register and accumulators as the last run left them. -/
  x : Int := 0
  a : Int := 0
  b : Int := 0
  /-- Causes of SAFE in force (SAFE_CAUSE codes), oldest first; input ports whose TMO has expired (R262). -/
  causes : List Nat := []
  late : List Nat := []
  /-- R247: input ports with a sample since the previous run that no IN has taken. -/
  fresh : List Nat := []
  /-- R252: the setpoint of the previous run; no run since the entry to SOFT. -/
  lastS : Int := 0
  entering : Bool := false
  /-- R250: end of the latest run. -/
  busy : Option Time := none
  /-- R250: triggers from new samples or parent runs not yet taken, oldest first; the earliest instant the next timed trigger can have;
  the parent's runs since the entry to SOFT or since the last trigger of theirs. -/
  due : List Time := []
  earliest : Time := 0
  parentRuns : Nat := 0
  /-- R253: instant of the latest sample of each input port since the entry to SOFT. -/
  sampled : List (Nat × Time) := []
  deriving DecidableEq, Repr

/-- A loop core's test generator and capture buffer (R260, R261). -/
structure CoreState where
  /-- Runs driven since the generator's start; none before its first run. -/
  runs : Option Nat := none
  prbs : Nat := 0
  phase : Nat := 0
  /-- Runs of the captured slot since recording could begin; the test it records has ended. -/
  seen : Nat := 0
  ended : Bool := false
  deriving DecidableEq, Repr

/-- A position counter (R256): signed count, recent edges (stamp and count), newest first, the Hall state and valid states in a row. -/
structure CounterState where
  n : Int := 0
  edges : List (Time × Int) := []
  hall : Option Nat := none
  run : Nat := 0
  deriving DecidableEq, Repr

/-- The loop cores (chapter 9); capture words by core × 8,192 + word; contributions by outlet (R251); the
peak-current command of a boost converter in 10 µA (Table 9.6). -/
structure LoopState where
  slots : List (Nat × SlotState) := []
  cores : List (Nat × CoreState) := []
  counters : List (Nat × CounterState) := []
  /-- Words of the staged copies that differ from the active ones: coefficients by slot × 64 + word, tables by table × 256 + entry. -/
  coefStaged : List (Nat × Option Word) := []
  tableStaged : List (Nat × Option Word) := []
  capture : List (Nat × Word) := []
  contrib : List (Nat × Nat) := []
  boostCmd : List (Nat × Nat) := []
  deriving DecidableEq, Repr

/-- A pulse-width grid (R271): period in µs and a start, with the old period, its start and the end of its period in progress while a
new period waits. -/
structure Grid where
  period : Nat := 1000
  start : Time := 0
  old : Option (Nat × Time × Time) := none
  deriving DecidableEq, Repr

/-- A load-switch channel or field output beside its registers (R270–R277, R296–R301). -/
structure OutState where
  /-- What its outlet's last fired edge commands. -/
  on : Bool := false
  grid : Grid := {}
  /-- R277: clamp energy B, nJ. -/
  energy : Nat := 0
  /-- R275: start of the inrush period, retries in it, waiting to turn on again, INRUSH_FAIL latched. -/
  inrush : Option Time := none
  retries : Nat := 0
  waiting : Bool := false
  /-- R275, R300: when the retry gap, or the off-time after an overload, began. -/
  waitFrom : Time := 0
  /-- R275: the source turned the channel on while a higher rank held it. -/
  armed : Bool := false
  /-- R288: the command as the last outbound frame carried it: on, in PWM, duty. -/
  cmd : Bool × Bool × Nat := (false, false, 0)
  /-- R299: the command and its grid that HOLD keeps since rank 3 began. -/
  kept : Option ((Bool × Bool × Nat) × Grid) := none
  /-- R279: the painter takes the outlet as closed through a supply fault. -/
  dark : Bool := false
  /-- R297, R300, field outputs: this output itself is hot, or its wire open; its group is in an overload's off-time, or latched. -/
  hot : Bool := false
  wire : Bool := false
  ovl : Bool := false
  latched : Bool := false
  /-- R288: FO_FAULT bits and overload restarts that no inbound frame has carried yet. -/
  news : Nat := 0
  restarts : Nat := 0
  deriving DecidableEq, Repr

/-- The switch die beside its registers (chapter 10). -/
structure SwitchState where
  chans : List (Nat × OutState) := []
  /-- Stop hold from STOP_N; stop hold from a doorbell or halt filter; held-safe (Table 10.1). -/
  stop : Bool := false
  halt : Bool := false
  safe : Bool := false
  /-- R278: reverse polarity and an open ground hold. -/
  reverse : Bool := false
  noGround : Bool := false
  /-- R282: a heartbeat has come since VBAT power-on; the part sleeps. -/
  beat : Bool := false
  asleep : Bool := false
  /-- R282: field time of the latest heartbeat of this run of the core die. -/
  beatAt : Option Time := none
  /-- R279: ledger entries that fired while limp-home held their channel. -/
  limpFired : List Nat := []
  /-- R281: the shadow in force, by channel × 2 (LS_CFG) and + 1 (LS_CFG2), 64 for LS_WD; its check was good; a write under way; the
  non-volatile words and their check value as they stand. -/
  shadow : List (Nat × Nat) := []
  shadowGood : Bool := true
  writing : Bool := false
  store : List (Nat × Nat) := []
  storeCrc : Nat := 0xFFFF
  deriving DecidableEq, Repr

/-- A field input on the field side and the edge stamps on the part side (R292–R295, R254). -/
structure InState where
  level : Bool := false
  /-- Stamp of the first sample that showed a level not yet accepted. -/
  since : Option Time := none
  low : Nat := 0
  good : Nat := 0
  wire : Bool := false
  count : Nat := 0
  /-- The accepted edge that the next inbound frame carries: rising, stamp. -/
  edge : Option (Bool × Time) := none
  /-- Rising-edge stamps of the last 100 ms, or the last two, newest first. -/
  stamps : List Time := []
  /-- R306: samples in sleep since the first that showed a level not yet accepted; the direction of the first edge accepted in sleep. -/
  run : Nat := 0
  woke : Option Bool := none
  deriving DecidableEq, Repr

/-- R288, R301: a committed edge as an outbound frame carried it: ledger entry, output, kind, due time, delay A. -/
structure FieldEdge where
  entry : Nat
  out : Nat
  kind : Nat
  due : Time
  a : Nat
  deriving DecidableEq, Repr

/-- The field die and the barrier beside their registers (chapter 11). -/
structure FieldState where
  inputs : List (Nat × InState) := []
  outs : List (Nat × OutState) := []
  /-- Table 11.2: STOP, SAFE from a halt, SAFE from held-safe. -/
  stop : Bool := false
  halt : Bool := false
  safe : Bool := false
  /-- R302: what the safety block sends in each outbound frame of them. -/
  tellStop : Bool := false
  tellHalt : Bool := false
  tellSafe : Bool := false
  /-- Table 1.9: in sleep the outputs are off. -/
  asleep : Bool := false
  /-- R290: silence on the field side and valid outbound frames since; no valid outbound frame since power-on (R304). -/
  silent : Bool := false
  good : Nat := 0
  never : Bool := true
  /-- A silence episode that the part has not yet heard of. -/
  episode : Bool := false
  /-- R290: the part side has timed out; no valid inbound frame since. -/
  lost : Bool := false
  /-- SEQ of the last outbound frame, of the last that the field side took as valid, and of the last valid inbound one. -/
  txSeq : Nat := 0
  seqIn : Option Nat := none
  rxSeq : Option Nat := none
  /-- R290: the field side's CRC_N and SKIP_N, and its copy of FT as the last valid frame set it. -/
  crcN : Nat := 0
  skipN : Nat := 0
  ftCopy : Time := 0
  /-- R288, R301: the committed edges that the last valid outbound frame carried. -/
  edges : List FieldEdge := []
  /-- R299: VFIELD undervoltage holds on the field side; its entry not yet carried inbound. -/
  uv : Bool := false
  uvNews : Bool := false
  /-- R375: image items that the field die takes with the next valid outbound frame; outputs to unlatch with it (R300). -/
  staged : Option (List (Nat × Nat)) := none
  unlatch : List Nat := []
  /-- R290: field time of the last valid frame of each direction, in this run of the core die. -/
  txAt : Option Time := none
  rxAt : Option Time := none
  /-- R304: the shadow: outputs FO_CFG by number, inputs FI_CFG from 32, 96 FIO_GRP, 97 FIO_BAR; kept as R281 keeps the switch die's. -/
  shadow : List (Nat × Nat) := []
  shadowGood : Bool := true
  writing : Bool := false
  store : List (Nat × Nat) := []
  storeCrc : Nat := 0xFFFF
  deriving DecidableEq, Repr

/-- A receive object (R313): ID, IDE, FDF and BRS as BV_HDR, and the rest of the frame. -/
structure RxObj where
  hdr : Nat := 0
  esi : Bool := false
  dlc : Nat := 0
  data : List Byte := []
  stamp : Time := 0
  fresh : Bool := false
  lost : Bool := false
  deriving DecidableEq, Repr

/-- A transmit object (R316): its content, and whether it was written since it was last sent. -/
structure TxObj where
  data : List Byte := []
  written : Bool := false
  wroteAt : Time := 0
  /-- The contents that writes of the last 100 ms replaced, with the writes' times, newest first. -/
  olds : List (Time × List Byte) := []
  deriving DecidableEq, Repr

/-- A frame that a port has sent: header (BV_HDR form), DLC, data and SOF (R316, R320). -/
structure SentFrame where
  hdr : Nat
  dlc : Nat
  data : List Byte
  sof : Time
  deriving DecidableEq, Repr

/-- An event-queue entry (R323); `cmd` holds tag and flags of the BUS_SEND that placed it. -/
structure QEntry where
  ctx : Nat
  cmd : Option (Nat × Nat) := none
  hdr : Nat
  dlc : Nat
  oneShot : Bool
  data : List Byte
  deriving DecidableEq, Repr

/-- What a port is sending. -/
inductive Sending where
  | object (obj : Nat) (oneShot : Bool)
  | entry (e : QEntry)
  | reference (cycle : Nat)
  | stranded (obj : Option Nat) (e : Option QEntry)
  deriving DecidableEq, Repr

/-- A bus port beside its registers (chapter 12). -/
structure PortState where
  queue : List QEntry := []
  /-- Window open, its end, its start, its kind, and whether its cell's object is still owed. -/
  window : Option (Nat × Time) := none
  winFrom : Time := 0
  kind : Nat := 0
  owed : Option (Nat × Bool) := none
  sending : Option Sending := none
  /-- R326: the stranded frame: a transmit object, a queue entry, or neither for a reference with the cycle count it carries. -/
  stranded : Option (Option Nat × Option QEntry) := none
  strandedCycle : Nat := 0
  /-- R320: a reference that waits for the bus, with its scheduled start. -/
  refWait : Option (Nat × Time) := none
  /-- R320: start of the present basic cycle, SOF of the last reference, the priority of its sender. -/
  cycleStart : Option Time := none
  lastRef : Option Time := none
  masterPri : Option Nat := none
  /-- A mode change waiting for bus idle (Table 12.2). -/
  modeWait : Option Nat := none
  /-- R321: field time at which the port last entered ACTIVE; R320: scheduled start of the last reference. -/
  activeAt : Option Time := none
  refAt : Option Time := none
  /-- R316: the frame the port sent last. -/
  sent : Option SentFrame := none
  /-- R325: end of the 8 bits of suspend-transmission after the port's own last transmission. -/
  suspend : Option Time := none
  deriving DecidableEq, Repr

/-- The bus ports (chapter 12): receive objects by 256 × port + object, transmit objects by 128 × port + object. -/
structure BusState where
  ports : List (Nat × PortState) := []
  rx : List (Nat × RxObj) := []
  tx : List (Nat × TxObj) := []
  deriving DecidableEq, Repr

/-- A record of an image segment (R363). -/
structure ImgRec where
  kind : Nat
  index : Nat
  words : List Nat
  deriving DecidableEq, Repr

/-- A boot slot (R372, R373). -/
structure BootSlot where
  bytes : List Byte := []
  valid : Bool := false
  trial : Bool := false
  tried : Bool := false
  deriving DecidableEq, Repr

/-- A key slot (R367): digest, revoked, and a failed ECC check. -/
structure KeySlot where
  digest : Nat
  revoked : Bool := false
  bad : Bool := false
  deriving DecidableEq, Repr

/-- An image verified and parsed (R360–R365). -/
structure Image where
  bytes : List Byte := []
  recs : List ImgRec := []
  deriving DecidableEq, Repr

/-- Image control beside its registers (chapter 14). -/
structure ImgState where
  /-- R371: staging buffer, bytes by offset. -/
  staging : List (Nat × Byte) := []
  staged : Option Image := none
  active : Option Image := none
  slots : List (Nat × BootSlot) := []
  keys : List (Nat × Option KeySlot) := []
  /-- R374: VERIFY commands passed; R369: what VERIFY found, code, segment, rule, offset. -/
  passed : Nat := 0
  verdict : Option (Nat × Nat × Nat × Nat) := none
  /-- R373: a SAVE (slot, bytes, trial) or a LOAD (slot) under way. -/
  saving : Option (Nat × List Byte × Bool) := none
  loading : Option Nat := none
  /-- R375: the copying of a pending commit has ended; R376: a takeover cut it short. -/
  copied : Bool := false
  cut : Bool := false
  /-- R390: the active-image store has an uncorrectable error. -/
  storeBad : Bool := false
  /-- R367: the digest being written. -/
  keyData : List (Nat × Word) := []
  deriving DecidableEq, Repr

/-- A takeover under way (R387): the named lane, its checker and unit, the time of naming, the self-test's answer, the copy's end, and
whether LANE_RETRY began it. -/
structure Takeover where
  lane : Nat
  checker : Nat
  unit : Nat
  since : Time
  passed : Option Bool := none
  copied : Bool := false
  retry : Bool := false
  deriving DecidableEq, Repr

/-- A reference group (R392, R393): the last d of each pair (BG0–BG1, BG0–REFA, BG1–REFA), newest first, and since when every D stays low. -/
structure RefState where
  d : List (List Nat) := [[], [], []]
  calm : Option Time := none
  deriving DecidableEq, Repr

/-- A fire slot (R24): outlet, kind, frozen due time, parameter and delay A (R188) of a committed event. -/
structure FireSlot where
  outlet : Nat
  kind : Nat
  due : Time
  param : Nat
  a : Nat
  deriving DecidableEq, Repr

/-- What the lane merge holds back until a takeover's end: a SEAL or DIAG frame (R241), a change-of-state bit or the seal of a field output's
check (entry, output, code; R305), a bus frame with its arrival (R333). -/
inductive HeldItem where
  | link (frame : Instr)
  | cos (input : Nat)
  | check (entry out code : Nat)
  | bus (port : Nat) (frame : BusFrame) (at' : Time)
  deriving DecidableEq, Repr

/-- Fault masking beside its registers (chapter 15). -/
structure ResState where
  takeover : Option Takeover := none
  refs : List (Nat × RefState) := []
  /-- R241, R305, R333: what arrived in a takeover and waits for its end, in arrival order. -/
  held : List HeldItem := []
  /-- R398: STOP_N is low; R389: fire copies in a reload; HS_CLEAR in NONE waits for the reload. -/
  stopLow : Bool := false
  /-- R398: when STOP_N returned high, until its stop hold ends. -/
  highAt : Option Time := none
  reloading : List Nat := []
  clearing : Bool := false
  /-- R24: the fire slots of the three copies, by ledger entry index. -/
  fire : List (List (Nat × Option FireSlot)) := [[], [], []]
  /-- R399: lanes and fire copies that the retained store names as fenced. -/
  fencedLanes : List Nat := []
  fencedCopies : List Nat := []
  deriving DecidableEq, Repr

/-- The learned-delay area (R417): its SEQ and records. -/
structure LdArea where
  seq : Nat
  recs : List (Nat × Nat)
  deriving DecidableEq, Repr

/-- Power, start-up, sleep and retention beside the registers (chapter 16). -/
structure PowerState where
  /-- The core die is out of reset; the part sleeps; a start waits for power-good inputs. -/
  coreUp : Bool := true
  asleep : Bool := false
  /-- Power-good inputs asserted: PGCORE, PGIO, PGANA. -/
  good : List Bool := [true, true, true]
  /-- R412: a brown-out under way; R414: HOLD_OK was 0 at its start; R410: PWR_BO was ever written. -/
  brown : Bool := false
  holdLow : Bool := false
  tripSet : Bool := false
  /-- R408: a start failed and waits for a RESET_N pulse or VBAT power-on. -/
  stuck : Bool := false
  /-- R415: a state-bank save under way: bank and cause. -/
  saving : Option (Nat × Nat) := none
  saveSeq : Nat := 0
  /-- Start of the save under way. -/
  saveFt : Time := 0
  /-- Words of the banks that are not zero, by 32,768 × bank + word. -/
  banks : List (Nat × Word) := []
  /-- R390: banks with an uncorrectable error. -/
  bankBad : List Nat := []
  ld : Option LdArea := none
  /-- R421: an accepted sleep request. -/
  sleepBy : Option Nat := none
  /-- R419: the swath log, newest first. -/
  swath : List (List Byte) := []
  /-- R423: RTC seconds and their 15-bit fraction at field time `rtcFt`, and the alarm armed. -/
  rtc : Nat := 0
  rtcFrac : Nat := 0
  rtcFt : Time := 0
  /-- R423: the seconds it was last set to. -/
  rtcSet : Nat := 0
  alarm : Option Nat := none
  /-- START_KIND of the next start. -/
  startKind : Nat := 0
  /-- Time of the reset release. -/
  released : Time := 0
  deriving DecidableEq, Repr

/-- The state of the part. -/
structure State where
  variant : Variant := .f1024
  /-- R40: field time. -/
  ft : Time := 0
  /-- Commands waiting, first in, first out. -/
  pending : List Instr := []
  /-- The model's own counter behind the free values of Config; not the spec's. -/
  free : Nat := 0
  /-- Answer to the last access. -/
  answer : Answer := {}
  /-- Every register word that differs from its reset word. -/
  regs : List (Nat × Word) := []
  /-- R11: upper words latched by a read of the lower word. -/
  latch : List (Nat × Option Word) := []
  tb : TimeState := {}
  gn : GnssState := {}
  po : PoseState := {}
  rc : RecState := {}
  hp : HostState := {}
  mp : MapState := {}
  lg : LedgerState := {}
  vd : DriveState := {}
  lk : LinksState := {}
  lp : LoopState := {}
  ls : SwitchState := {}
  fd : FieldState := {}
  bp : BusState := {}
  im : ImgState := {}
  rs : ResState := {}
  pw : PowerState := {}
  deriving DecidableEq, Repr

/-- The part right after RESET_N release (R9, R405): every register at its reset word, the timebase STARTING, nothing held. -/
def State.reset : State := {}

end Sys2Proof.Machine
end

