-- ==== Sys2Proof/Machine/Regs.lean ====
section
/-! DEFINITION. Reading and writing the registers and their fields: reset words by variant (R9, R444, R446), absent ranges
(Table 18.16), access codes (R7), field accessors. -/

namespace Sys2Proof.Machine

/-- The row that holds address `a`, if any register table defines it. -/
def RegRow.holds (r : RegRow) (a : Nat) : Bool :=
  decide (r.base ≤ a) &&
    (let d := a - r.base
     let e := d % r.s1
     if r.n2 = 1 then decide (d / r.s1 < r.n1) && decide (e = 0)
     else if r.n1 = 1 then decide (d % r.s2 = 0) && decide (d / r.s2 < r.n2)
     else decide (d / r.s1 < r.n1) && (decide (e % r.s2 = 0) && decide (e / r.s2 < r.n2)))

/-- The register row at address `a` (R443: none means the offset defines nothing). -/
def rowOf (a : Nat) : Option RegRow := (rowsAt a).find? (fun r => r.holds a)

/-- The whole-word reset value that the field resets compose (R444). -/
def RegRow.resetWord (r : RegRow) : Nat := r.fields.foldl (fun w f => w + 2 ^ f.lo * f.reset) 0

/-- Bits of the fields with one of the access codes. -/
def RegRow.mask (r : RegRow) (p : Acc → Bool) : Nat :=
  r.fields.foldl (fun w f => if p f.acc then w ||| (2 ^ f.lo * (2 ^ f.width - 1)) else w) 0

/-- `lo ≤ a < hi`. -/
def inRange (lo hi a : Nat) : Bool := decide (lo ≤ a) && decide (a < hi)

/-- The register ranges of units the variant lacks (Table 18.16, R446). -/
def absent (v : Variant) (a : Nat) : Bool :=
  match v with
  | .f1024 => false
  | .l1024 => inRange 0x408000 0x408128 a || inRange 0x420000 0x460000 a || inRange 0x460040 0x460080 a
  | .f0512 =>
    inRange 0x200000 0x400000 a || inRange 0x5B5000 0x5B9000 a || inRange 0x40E000 0x40F000 a || inRange 0x478000 0x480000 a ||
    inRange 0x5BE800 0x5BF000 a || inRange 0x4D0000 0x520000 a || inRange 0x408020 0x408030 a ||
    inRange 0x460060 0x460080 a || inRange 0x408060 0x408080 a || inRange 0x4080A0 0x4080C0 a || inRange 0x4080E0 0x408100 a || inRange 0x440000 0x460000 a ||
    inRange 0x409E00 0x40A400 a || inRange 0x1C00000 0x2800000 a || inRange 0x520120 0x520140 a || inRange 0x525000 0x526000 a ||
    inRange 0x528800 0x529000 a || inRange 0x529100 0x529200 a || inRange 0x534000 0x538000 a || inRange 0x580500 0x580900 a ||
    inRange 0x590300 0x590500 a || inRange 0x590A00 0x590E00 a || inRange 0x5A0400 0x5A0700 a || inRange 0x5C0120 0x5C0130 a

/-- Reset words that differ by variant (R444, Tables 18.2, 18.3, 18.5, 18.7, 18.11, 18.14; R442 VARIANT). -/
def variantWord (v : Variant) (a : Nat) : Option Nat :=
  match v with
  | .f1024 => none
  | .l1024 =>
    if a = 0x410004 then some 0x38 else if a = 0x460034 then some 0x7D0 else if a = 0x400008 then some 0x1001
    else if a = 0x400018 then some 0x01340000 else if a = 0x40001C then some 0x1E else none
  | .f0512 =>
    if a = 0x409008 then some 0x6000 else if a = 0x40C004 then some 0x02000000 else if a = 0x520004 then some 0
    else if a = 0x5A0000 then some 0x7 else if a = 0x400008 then some 0x1002 else if a = 0x40000C then some 0x100200
    else if a = 0x400010 then some 0xC05000 else if a = 0x400014 then some 0x2081040 else if a = 0x400018 then some 0x11A1200
    else if a = 0x40001C then some 0x1B else none

/-- What a register reads as after RESET_N release (R9, R444); zero for an absent unit (R3) and where no register is. -/
def resetWord (v : Variant) (a : Nat) : Word :=
  if absent v a then 0
  else match variantWord v a with
    | some w => BitVec.ofNat 32 w
    | none => match rowOf a with
      | some r => BitVec.ofNat 32 r.resetWord
      | none => 0

/-- The stored word of the register at `a`. -/
def State.reg (s : State) (a : Nat) : Word := sget (resetWord s.variant) s.regs a

/-- The register at `a` holding `w`. -/
def State.setReg (s : State) (a : Nat) (w : Word) : State := { s with regs := sset (resetWord s.variant) s.regs a w }

/-- The value of a register field. -/
def State.fld (s : State) (f : Fld) : Nat := bitsOf (s.reg f.addr).toNat f.lo f.width

/-- The register field holding the low bits of `v`. -/
def State.setFld (s : State) (f : Fld) (v : Nat) : State :=
  s.setReg f.addr (BitVec.ofNat 32 (putBits (s.reg f.addr).toNat f.lo f.width v))

/-- A one-bit field as a truth value. -/
def State.on (s : State) (f : Fld) : Bool := decide (s.fld f = 1)

/-- A field read as two's complement (R10). -/
def State.sfld (s : State) (f : Fld) : Int := sx f.width (s.fld f)

/-- A field holding a signed value in two's complement. -/
def State.setSfld (s : State) (f : Fld) (v : Int) : State := s.setFld f (unsx f.width v)

/-- A field holding a truth value. -/
def State.setBit (s : State) (f : Fld) (b : Bool) : State := s.setFld f (b2n b)

/-- A saturating count raised by `n` (the RC counters saturate). -/
def State.bump (s : State) (f : Fld) (n : Nat) : State := s.setFld f (satU f.width (s.fld f + n))

/-- A wrapping count raised by `n`. -/
def State.bumpWrap (s : State) (f : Fld) (n : Nat) : State := s.setFld f (s.fld f + n)

/-- Bit `i` of a field. -/
def State.fbit (s : State) (f : Fld) (i : Nat) : Bool := bit (s.fld f) i

/-- Bit `i` of a field set to `b`. -/
def State.setFbit (s : State) (f : Fld) (i : Nat) (b : Bool) : State := s.setFld { f with lo := f.lo + i, width := 1 } (b2n b)

/-- A 64-bit value held in two consecutive words, the lower first (R11). -/
def State.reg64 (s : State) (lo : Nat) : Nat := (s.reg lo).toNat + 2 ^ 32 * (s.reg (lo + 4)).toNat

/-- Two consecutive words holding a 64-bit value (R11). -/
def State.setReg64 (s : State) (lo v : Nat) : State := (s.setReg lo (BitVec.ofNat 32 v)).setReg (lo + 4) (BitVec.ofNat 32 (v / 2 ^ 32))

/-- A 40-bit signed value in two 20-bit words (R86). -/
def State.sreg40 (s : State) (lo : Nat) : Int := sx 40 (bitsOf (s.reg lo).toNat 0 20 + 2 ^ 20 * bitsOf (s.reg (lo + 4)).toNat 0 20)

/-- What a host write of `v` leaves in a register by the access codes (R7): RW bits take it, W1C ones clear, W1S ones set. -/
def RegRow.written (r : RegRow) (old v : Nat) : Nat :=
  let rw := r.mask (fun a => a == .rw)
  let c := r.mask (fun a => a == .w1c)
  let st := r.mask (fun a => a == .w1s)
  let keep := old &&& (0xFFFFFFFF ^^^ rw)
  ((keep ||| (v &&& rw)) &&& (0xFFFFFFFF ^^^ (v &&& c))) ||| (v &&& st)

/-- A host write by access codes alone (R7). -/
def State.writeCodes (s : State) (a v : Nat) : State :=
  match rowOf a with
  | some r => s.setReg a (BitVec.ofNat 32 (r.written (s.reg a).toNat v))
  | none => s

/-- The word a read by access codes returns: RO, RW, W1C, W1S and RC bits; WO and RSV read zero (R7). -/
def State.readCodes (s : State) (a : Nat) : Nat :=
  match rowOf a with
  | some r => (s.reg a).toNat &&& r.mask (fun c => c != .wo)
  | none => 0

/-- The register after a read has cleared its RC fields (R7). -/
def State.clearRc (s : State) (a : Nat) : State :=
  match rowOf a with
  | some r => s.setReg a (BitVec.ofNat 32 ((s.reg a).toNat &&& (0xFFFFFFFF ^^^ r.mask (fun c => c == .rc))))
  | none => s

/-- The free-value counter moved on. -/
def State.tick (s : State) : State := { s with free := s.free + 1 }

end Sys2Proof.Machine
end

