-- ==== Sys2Proof/Machine/Records.lean ====
section
/-! DEFINITION. What every block calls: events and the supervisor's interrupt (R355, R359), MSI-X messages (R336), performance
counters (R438), Canvas and Muslin records (R426–R435), CRC-32 (R366). -/

namespace Sys2Proof.Machine

/-- One bit of the reflected CRC-32 (R366). -/
def crc32Bit (c : Nat) : Nat := if c % 2 = 1 then (c / 2) ^^^ 0xEDB88320 else c / 2

/-- CRC-32 of bytes, from a running value (R366). -/
def crc32From (c : Nat) (bs : List Byte) : Nat :=
  bs.foldl (fun c b => crc32Bit (crc32Bit (crc32Bit (crc32Bit (crc32Bit (crc32Bit (crc32Bit (crc32Bit (c ^^^ b.toNat))))))))) c

/-- CRC-32 as R366 defines it. -/
def crc32 (bs : List Byte) : Nat := crc32From 0xFFFFFFFF bs ^^^ 0xFFFFFFFF

/-- The SUP_IRQ bit of a block whose event word at `a` holds `w` (Table 18.15), with the bits of `w` that are events. -/
def eventBlock (a w : Nat) : Option Nat :=
  let ev (b m : Nat) : Option Nat := if w &&& m = 0 then none else some b
  if a = 0x410050 then ev 0 0x1FF
  else if inRange 0x420000 0x460000 a then (if a % 256 = 0x24 then ev 1 0xFF else none)
  else if a = 0x408100 then ev 1 0x200000
  else if inRange 0x408010 0x408030 a then (if a % 8 = 4 then ev 1 4 else none)
  else if a = 0x460008 then ev 2 0xFFF
  else if a = 0x409004 then ev 3 0x7F
  else if a = 0x40C00C then ev 4 0x3FF
  else if a = 0x520008 then ev 5 0xFF
  else if inRange 0x530000 0x538000 a then (if a % 0x800 = 8 then ev 6 0xFF else none)
  else if a = 0x540004 then ev 7 0xFF
  else if a = 0x580004 then ev 8 0x7FF
  else if a = 0x590004 then ev 9 0x3FF
  else if a = 0x5A0004 then ev 10 0x3F00
  else if inRange 0x5A0100 0x5A0700 a then (if a % 0x100 = 0xC then ev 10 0xFFF else none)
  else if a = 0x5C0004 then ev 11 0x3FFF
  else if a = 0x5D0004 then ev 12 0xFF
  else if a = 0x401064 then ev 12 0x1FF
  else if a = 0x5E0000 then ev 13 0x7F
  else if a = 0x5B0004 then ev 14 0x3FF
  else none

/-- SUP_IRQ: the blocks with an event set (R359, Table 18.15). Event registers reset to zero, so only listed words count. -/
def State.supIrq (s : State) : Nat :=
  s.regs.foldl (fun m e => match eventBlock e.1 e.2.toNat with | some b => m ||| 2 ^ b | none => m) 0

/-- `bs` written into the memory of the host behind port `p` (ring memory for the SPI ports, R339); not while its DMA is stopped (R337). -/
def State.hostWriteMem (s : State) (p addr : Nat) (bs : List Byte) : State :=
  if p < 2 ∧ s.hp.dmaOff.contains p then s
  else if p < 2 then { s with hp := { s.hp with hostMem := ssetMany (fun _ => 0) s.hp.hostMem (p * 2 ^ 64 + addr) bs } }
  else { s with hp := { s.hp with ring := ssetMany (fun _ => 0) s.hp.ring ((p - 2) * 0x80000 + addr % 0x80000) bs } }

/-- Base address of the MSI-X table and of the pending-bit array of HP0 or HP1 (R359). -/
def msixTable (p : Nat) : Nat := if p = 0 then 0x5BA000 else 0x5BC000
def msixPba (p : Nat) : Nat := if p = 0 then 0x5BB000 else 0x5BD000

/-- An MSI-X message of vector `v` on port `p` (R336): the entry's data written to its address, or its pending bit while masked. -/
def State.msix (s : State) (p v : Nat) : State :=
  if p < 2 ∧ v < 64 ∧ s.pw.coreUp then
    let t := msixTable p + 16 * v
    if (s.reg (t + 12)).toNat % 2 = 1 then s.setFbit ⟨msixPba p + 4 * (v / 32 % 2), 0, 32⟩ (v % 32) true
    else s.hostWriteMem p (s.reg64 t) (leBytes 4 (s.reg (t + 8)).toNat)
  else s

/-- The supervisor's message when a block bit has newly risen (R355). -/
def State.supNotify (s : State) (before : Nat) : State :=
  let en := s.fld Reg.SUP_IRQ_EN_EN
  if s.supIrq &&& en &&& (0x7FFF ^^^ before) = 0 then s
  else s.msix (s.fld Reg.SUP_VEC_SUP_PORT) (s.fld Reg.SUP_VEC_VECTOR)

/-- The part sets bit `i` of an event field, which raises its block's interrupt (R355). -/
def State.raiseBit (s : State) (f : Fld) (i : Nat) : State := (s.setFbit f i true).supNotify s.supIrq

/-- The part sets an event bit (R355). -/
def State.raise (s : State) (f : Fld) : State := s.raiseBit f 0

/-- The part sets an event bit if `b` holds. -/
def State.raiseIf (s : State) (b : Bool) (f : Fld) : State := if b then s.raise f else s

/-- One counter's advance by `n` with the wraps of the counter before it (R438). -/
def pmcOne (ev n : Nat) (sc : State × Nat) (k : Nat) : State × Nat :=
  let s := sc.1
  if s.on (Reg.PMC_CFG_EN k) then
    let inc := if k ≥ 1 ∧ s.on (Reg.PMC_CFG_CHAIN k) then sc.2
      else if s.fld (Reg.PMC_CFG_EVENT k) = ev ∧ ev ≠ 0 then n else 0
    let v := s.fld (Reg.PMC_LO_COUNT k) + 2 ^ 32 * s.fld (Reg.PMC_HI_COUNT k) + inc
    let s1 := (s.setFld (Reg.PMC_LO_COUNT k) v).setFld (Reg.PMC_HI_COUNT k) (v / 2 ^ 32)
    let wraps := v / 2 ^ 40
    if wraps = 0 then (s1, 0)
    else
      let s2 := s1.setFbit ⟨0x5E0104 + 4 * (k / 32 % 2), 0, 32⟩ (k % 32) true
      (if s.on (Reg.PMC_CFG_OVF_IRQ k) then s2.raise Reg.REC_EVENT_PMC_OVF else s2, wraps)
  else (s, 0)

/-- `n` happenings of event `ev` counted (R438, Table 17.4). -/
def State.count (s : State) (ev n : Nat) : State :=
  if s.on Reg.PMC_CTRL_RUN then ((List.range 64).foldl (pmcOne ev n) (s, 0)).1 else s

/-- Calendar seconds and the fraction in ticks at the present field time; the count holds in an inserted leap second (R46). -/
def State.calNow (s : State) : Nat × Nat :=
  if s.on Reg.CAL_HI_LEAP_NOW then (s.tb.calSec, s.tb.calFrac) else
  let t := s.tb.calFrac + (s.ft - s.tb.calFt).toNat
  ((s.tb.calSec + t / 8000000000) % 2 ^ 40, t % 8000000000)

/-- FLAGS of a record (Table 17.2) without CAL_VALID. -/
def State.recFlags (s : State) (deferred suspect : Bool) : Nat :=
  2 * b2n deferred + 4 * b2n suspect + 8 * s.fld Reg.RES_STATE_STATE

/-- A Muslin entry (R434, R435): written at slot MU_WRITTEN mod 4,096, or counted in MU_SKIP while frozen. -/
def State.muslinWith (s : State) (source kind flags : Nat) (data : List Byte) : State :=
  if s.on Reg.MU_CTRL_FREEZE then s.bump Reg.MU_SKIP_SKIP_N 1
  else
    let n := s.fld Reg.MU_WRITTEN_WRITTEN
    let e : MuEntry := { ft := s.ft, kind := kind, source := source, flags := flags, seq := n, data := padTo 16 data }
    let s1 := { s with rc := { s.rc with muslin := sset (fun _ => none) s.rc.muslin (n % 4096) (some e) } }
    (s1.bumpWrap Reg.MU_WRITTEN_WRITTEN 1).count 0x0C2 1

/-- A happening written to Muslin only (R434). -/
def State.muslin (s : State) (source kind : Nat) (data : List Byte) : State := s.muslinWith source kind (s.recFlags false false) data

/-- R428: a record put among those waiting: happenings of one tick stand in ascending SOURCE, then KIND; otherwise by their FT. -/
def insRec (r : CvRec) : List CvRec → List CvRec
  | [] => [r]
  | x :: q => if x.ft = r.ft ∧ (r.source < x.source ∨ (r.source = x.source ∧ r.kind < x.kind)) then r :: x :: q else x :: insRec r q

/-- A happening offered to Canvas and to Muslin (R426, R430, R434): a full queue loses it to Canvas and counts it; in a brown-out the
writer accepts nothing more (R431). A deferred record stands where it was latched (R427). -/
def State.canvasWith (s : State) (source kind : Nat) (deferred suspect : Bool) (data : List Byte) : State :=
  let fl := s.recFlags deferred suspect
  let cal := s.calNow
  let r : CvRec :=
    { kind := kind, source := source, flags := fl + s.fld Reg.TB_STATUS_CAL_VALID, cal := cal.1, frac := cal.2 * 2 ^ 16 / 8000000000,
      ft := s.ft, imageVer := s.fld Reg.IMG_ACTIVE_VER_IMAGE_VER, data := padTo 36 data }
  let s1 := s.muslinWith source kind fl data
  if s.pw.brown then s1
  else if s1.rc.queue.length < 64 then
    { s1 with rc := { s1.rc with queue := if deferred then s1.rc.queue ++ [r] else insRec r s1.rc.queue } }
  else (s1.bump Reg.CV_QLOST_QLOST_N 1).raise Reg.REC_EVENT_QLOST

/-- A happening recorded in Canvas (R426). -/
def State.canvas (s : State) (source kind : Nat) (data : List Byte) : State := s.canvasWith source kind false false data

/-- The 64 bytes of Canvas record `i` (Table 17.2). -/
def CvRec.bytes (r : CvRec) (i : Nat) : List Byte :=
  let b := leBytes 2 r.kind ++ leBytes 1 r.source ++ leBytes 1 r.flags ++ leBytes 8 (r.cal + 2 ^ 40 * r.frac) ++
    leBytes 8 r.ft.toNat ++ leBytes 2 i ++ leBytes 2 r.imageVer ++ padTo 36 r.data
  b ++ leBytes 4 (crc32 b)

/-- The 32 bytes of a Muslin entry (Table 17.3). -/
def MuEntry.bytes (e : MuEntry) : List Byte :=
  leBytes 8 e.ft.toNat ++ leBytes 2 e.kind ++ leBytes 1 e.source ++ leBytes 1 e.flags ++ leBytes 4 e.seq ++ padTo 16 e.data

/-- Word `w` of little-endian bytes. -/
def wordAt (bs : List Byte) (w : Nat) : Word := BitVec.ofNat 32 (leAt bs (4 * w) 4)

/-- The words of little-endian bytes, `n` of them. -/
def wordsOf (bs : List Byte) (n : Nat) : List Word := (List.range n).map (wordAt bs)

end Sys2Proof.Machine
end

