-- ==== Sys2Proof/Machine/Contexts.lean ====
section
/-! DEFINITION. What every block asks of the contexts (chapter 13): classes and rights (R346, R347), read rights over outlets
(R348), context interrupts (R355), stream records (R353), the answer to an access (R338, R340). -/

namespace Sys2Proof.Machine

/-- Number of outlets and contexts of the variant (Table 18.14). -/
def Variant.outlets : Variant → Nat
  | .f0512 => 512
  | _ => 1024

/-- Number of contexts of the variant (Table 18.14). -/
def Variant.contexts : Variant → Nat := Variant.outlets

/-- Number of ledger entries of the variant (R24, Table 18.14). -/
def Variant.ledger : Variant → Nat
  | .f0512 => 20480
  | _ => 40960

/-- A privileged context; context 0 always is (R346). Together they are the supervisor. -/
def State.supervisor (s : State) (c : Nat) : Bool := decide (c = 0) || decide (s.fld (Reg.CTX_CFG_CLASS c) = 2)

/-- A right of Table 13.4 held by grant or as the supervisor (R347). -/
def State.holds (s : State) (c : Nat) (g : Nat → Fld) : Bool := s.supervisor c || s.on (g c)

/-- Read rights over outlet `o` (R347: the supervisor holds every right; R348). -/
def State.mayReadOutlet (s : State) (c o : Nat) : Bool := s.supervisor c || s.fbit (Reg.CTX_READ_GROUPS c) (o / 32)

/-- The context a direct access through host port `p` is made as (R340). -/
def State.directCtx (s : State) (p : Nat) : Nat := s.fld (Reg.HP_DIRECT_DIRECT_CTX p)

/-- The answer to an access (R338, R340). -/
def State.answers (s : State) (code : Nat) (data : List Word) : State := { s with answer := { code := code, data := data } }

/-- The SPI interrupt line of port `p` is asserted while any enabled bit of any context bound to it is set, or the supervisor's
interrupt is delivered there (R355). -/
def State.spiInt (s : State) (p : Nat) : Bool :=
  (List.range s.variant.contexts).any (fun c =>
    s.on (Reg.CTX_CFG_BOUND c) && (decide (s.fld (Reg.CTX_CFG_PORT c) = p) &&
      decide ((s.reg (0x2C + 0x1000 * c)).toNat &&& (s.reg (0x30 + 0x1000 * c)).toNat ≠ 0))) ||
  (decide (s.fld Reg.SUP_VEC_SUP_PORT = p) && decide (s.supIrq &&& s.fld Reg.SUP_IRQ_EN_EN ≠ 0))

/-- The message of context `c`, no sooner than MOD µs after its last one (R355); a message too early is held. -/
def State.ctxMessage (s : State) (c : Nat) : State :=
  let p := s.fld (Reg.CTX_CFG_PORT c)
  if p ≥ 2 then s
  else
    let due := match sget (fun _ => none) s.hp.lastMsg c with
      | none => true
      | some t => decide ((s.ft - t).toNat ≥ 8000 * s.fld (Reg.CW_RING_MOD c))
    if due then
      let s1 := { s with hp := { s.hp with lastMsg := sset (fun _ => none) s.hp.lastMsg c (some s.ft), held := s.hp.held.filter (· ≠ c) } }
      s1.msix p (s.fld (Reg.CW_RING_VECTOR c))
    else if s.hp.held.contains c then s
    else { s with hp := { s.hp with held := s.hp.held ++ [c] } }

/-- Bit `i` of CW_IRQ set: 0 CPL, 1 STREAM, 2 STR_OVF, 3 FIN_COS, 4 UNBOUND, 5 RING_ERR; an enabled bit raises the interrupt (R355). -/
def State.ctxIrq (s : State) (c i : Nat) : State :=
  let s1 := s.setFbit ⟨0x2C + 0x1000 * (c % 1024), 0, 6⟩ i true
  if s.fbit ⟨0x30 + 0x1000 * (c % 1024), 0, 6⟩ i then s1.ctxMessage c else s1

/-- R341: a DMA error of context `c`, a transfer over a port whose DMA is stopped (DEDUCED, log 11): RING_ERR, and EN clears. -/
def State.dmaError (s : State) (c : Nat) : State :=
  if s.hp.dmaOff.contains (s.fld (Reg.CTX_CFG_PORT c)) then ((s.setFld (Reg.CW_RING_RING_ERR c) 1).setFld (Reg.CW_RING_EN c) 0).ctxIrq c 5 else s

/-- Bytes of a record of each stream kind (Table 13.6). -/
def streamBytes (kind : Nat) : Nat := if kind = 1 then 32 else if kind = 2 then 128 else if kind = 3 then 32 else 80

/-- One record appended to stream `k` of context `c`, or dropped if the ring is full (R353). -/
def State.streamPut (s : State) (c k : Nat) (bs : List Byte) : State :=
  let n := 2 ^ s.fld (Reg.CW_STR_CFG_SIZE c k)
  let wr := s.fld (Reg.CW_STR_WR_INDEX c k)
  let used := (wr + 2 ^ 17 - s.fld (Reg.CW_STR_RD_INDEX c k)) % 2 ^ 17
  if n ≤ used then ((s.bump (Reg.CW_STR_DROP_DROP_N c k) 1).ctxIrq c 2).count 0x024 1
  else
    let p := s.fld (Reg.CTX_CFG_PORT c)
    let at' := s.reg64 (0x40 + 0x1000 * c + 0x20 * k) + (wr % n) * bs.length
    let addr := if p < 2 then at' else 0x4000 * s.fld (Reg.CTX_CFG_SPI_SLOT c) + 0x3000 + at' % 0x1000
    let s1 := (s.hostWriteMem p addr bs).setFld (Reg.CW_STR_WR_INDEX c k) (wr + 1)
    if s.on (Reg.CW_STR_CFG_IRQ c k) then s1.ctxIrq c 1 else s1

/-- The enabled streams of a kind of a bound context. -/
def State.streamsOf (s : State) (c kind : Nat) : List Nat :=
  if s.on (Reg.CTX_CFG_BOUND c) then
    (List.range 4).filter (fun k => s.on (Reg.CW_STR_CFG_EN c k) && decide (s.fld (Reg.CW_STR_CFG_KIND c k) = kind))
  else []

/-- A record to every enabled stream of its kind of context `c` (R353, R354). -/
def State.streamCtx (s : State) (c kind : Nat) (bs : List Byte) : State :=
  (s.streamsOf c kind).foldl (fun s k => s.streamPut c k bs) s

/-- The bound contexts that have a register word, in ascending order; every bound context has its CTX_CFG listed. -/
def State.boundContexts (s : State) : List Nat :=
  ((s.regs.filter (fun e => inRange 0x5B1000 0x5B9000 e.1 && (decide (e.1 % 0x20 = 0) && bit e.2.toNat 5))).map
    (fun e => (e.1 - 0x5B1000) / 0x20)).filter (· < s.variant.contexts)

/-- A record to the streams of every bound context that holds a role (R76, R102). -/
def State.streamRole (s : State) (g : Nat → Fld) (kind : Nat) (bs : List Byte) : State :=
  (s.boundContexts.filter (fun c => s.holds c g)).foldl (fun s c => s.streamCtx c kind bs) s

end Sys2Proof.Machine
end

