-- ==== Sys2Proof/Machine/Trig.lean ====
section
/-! DEFINITION. Fixed-point angles for path prediction (R141): sine, cosine and the angle of a direction, in units of 2^-60. -/

namespace Sys2Proof.Machine

/-- One in the fixed-point scale. -/
abbrev fxOne : Int := 2 ^ 60

/-- Fixed-point product, rounded down. -/
def fmul (a b : Int) : Int := a * b / 2 ^ 60

/-- Terms of a series: each is the former times `x2 / ((k+1)(k+2))` with its sign turned. -/
def series (x2 : Int) : Nat → Nat → Int → Int
  | 0, _, t => t
  | n + 1, k, t => t + series x2 n (k + 2) (-(fmul t x2 / ((k + 1) * (k + 2) : Nat)))

/-- Sine and cosine of a small angle in radians. -/
def fsin (x : Int) : Int := series (fmul x x) 12 1 x
def fcos (x : Int) : Int := series (fmul x x) 12 0 fxOne

/-- A direction scaled to length one; (1, 0) for none. -/
def dirOf (p : Int × Int) : Int × Int :=
  let r := isqrt ((p.1 * p.1 + p.2 * p.2) * 2 ^ 80).toNat
  if r = 0 then (fxOne, 0) else (p.1 * 2 ^ 100 / r, p.2 * 2 ^ 100 / r)

/-- The direction of half the angle, for a direction of length one. -/
def halfDir (p : Int × Int) : Int × Int :=
  let c : Int := isqrt (((fxOne + p.1) * 2 ^ 59).toNat)
  if c = 0 then (0, fxOne) else (c, p.2 * 2 ^ 59 / c)

/-- `n` halvings. -/
def halfDirs : Nat → Int × Int → Int × Int
  | 0, p => p
  | n + 1, p => halfDirs n (halfDir p)

/-- The angle of a direction of length one, in radians, within ±π. -/
def angleOf (p : Int × Int) : Int :=
  let y := (halfDirs 16 p).2
  (y + fmul (fmul y y) y / 6) * 2 ^ 16

/-- A direction turned by an angle given by its cosine and sine. -/
def turnDir (p : Int × Int) (c s : Int) : Int × Int := (fmul p.1 c - fmul p.2 s, fmul p.1 s + fmul p.2 c)

/-- A quaternion turned about field up by an angle given by the cosine and sine of its half. -/
def turnQuat (q : List Int) (c s : Int) : List Int :=
  let q0 := q.getD 0 0
  let q1 := q.getD 1 0
  let q2 := q.getD 2 0
  let q3 := q.getD 3 0
  [fmul c q0 - fmul s q3, fmul c q1 - fmul s q2, fmul c q2 + fmul s q1, fmul c q3 + fmul s q0]

end Sys2Proof.Machine
end

