-- ==== Sys2Proof/Machine/Signals.lean ====
section
/-! DEFINITION. Signals of a tracking channel (chapter 3): the signal codes of Table 3.1, RAM codes, NCO phases, tap positions, search
cells, discriminators and loop filters. -/

namespace Sys2Proof.Machine

/-- The generators of Table 3.1. -/
inductive CodeGen where
  | gold | weil | lfsr | rom | mseq | kasami | ram
  deriving DecidableEq, Repr

/-- A row of Table 3.1: carrier and chip rate in 100 Hz, primary length in chips, generator, component and class. -/
structure Signal where
  carrier : Int
  rate : Nat
  length : Nat
  gen : CodeGen
  pilot : Bool
  boc : Bool
  deriving DecidableEq, Repr

/-- Table 3.1, SIG 0 to 27; the FDMA carriers stand for slot 0. -/
def signalTable : List Signal :=
  [⟨15754200, 10230, 1023, .gold, false, false⟩, ⟨15754200, 10230, 10230, .weil, false, true⟩,
   ⟨15754200, 10230, 10230, .weil, true, true⟩, ⟨12276000, 5115, 10230, .lfsr, false, false⟩,
   ⟨12276000, 5115, 767250, .lfsr, true, false⟩, ⟨11764500, 102300, 10230, .lfsr, false, false⟩,
   ⟨11764500, 102300, 10230, .lfsr, true, false⟩, ⟨15754200, 10230, 4092, .rom, false, true⟩,
   ⟨15754200, 10230, 4092, .rom, true, true⟩, ⟨11764500, 102300, 10230, .lfsr, false, false⟩,
   ⟨11764500, 102300, 10230, .lfsr, true, false⟩, ⟨12071400, 102300, 10230, .lfsr, false, false⟩,
   ⟨12071400, 102300, 10230, .lfsr, true, false⟩, ⟨12787500, 51150, 5115, .rom, false, false⟩,
   ⟨12787500, 51150, 5115, .rom, true, false⟩, ⟨15610980, 20460, 2046, .gold, false, false⟩,
   ⟨15754200, 10230, 10230, .weil, false, true⟩, ⟨15754200, 10230, 10230, .weil, true, true⟩,
   ⟨11764500, 102300, 10230, .gold, false, false⟩, ⟨11764500, 102300, 10230, .gold, true, false⟩,
   ⟨12685200, 102300, 10230, .gold, false, false⟩, ⟨16020000, 5110, 511, .mseq, false, false⟩,
   ⟨12460000, 5110, 511, .mseq, false, false⟩, ⟨12020250, 102300, 10230, .kasami, false, false⟩,
   ⟨12020250, 102300, 10230, .kasami, true, false⟩, ⟨15754200, 10230, 1023, .gold, false, false⟩,
   ⟨11764500, 102300, 10230, .lfsr, false, false⟩, ⟨11764500, 102300, 10230, .lfsr, true, false⟩]

/-- The carrier of a signal's satellite in 100 Hz, with the slot of GLONASS FDMA (R65). -/
def carrierOf (g : Signal) (sig sv : Nat) : Int :=
  if sig = 21 then g.carrier + 5625 * ((sv : Int) - 7) else if sig = 22 then g.carrier + 4375 * ((sv : Int) - 7) else g.carrier

/-- R66: chip rate of a RAM code in 100 Hz: 1.023 × 2^(RATE - 1) Mchip/s, or GLONASS's. -/
def ramRate (r : Nat) : Nat := if r = 5 then 5110 else 5115 * 2 ^ r

/-- The signal a SIG selects; a RAM code (28 to 31) is described by its CODE_DESC, and its carrier, which that does not give, is taken at
the centre of the stream: DESIGN CHOICE (log 24). -/
def State.signal (s : State) (sig port stream : Nat) : Signal :=
  if sig < 28 then signalTable.getD sig ⟨0, 0, 1, .ram, false, false⟩
  else
    let m := sig - 28
    ⟨10 * s.fld (Reg.AS_CENTRE_FREQ port stream), ramRate (s.fld (Reg.CODE_DESC_RATE m)), max 1 (s.fld (Reg.CODE_DESC_LENGTH m)), .ram,
      s.on (Reg.CODE_DESC_PILOT m), false⟩

/-- R66: chip `i` of satellite `sv`'s instance of RAM code `m`: SV × length chips beyond the start address. An instance that runs past the
end of the RAM goes on at its start (DESIGN CHOICE, log 24). -/
def State.ramChip (s : State) (m sv i : Nat) : Bool :=
  let len := max 1 (s.fld (Reg.CODE_DESC_LENGTH m))
  let a := (32 * s.fld (Reg.CODE_DESC_START m) + sv * len + i % len) % 524288
  bit (sget (fun _ => 0) s.gn.codeRam (a / 32)).toNat (a % 32)

/-- Channel `n`'s satellite, and its signal with the carrier of that satellite. -/
def State.chanSv (s : State) (n : Nat) : Nat := s.fld (Reg.GCH_CFG_SV n)
def State.chanSignal (s : State) (n : Nat) : Signal :=
  let sig := s.fld (Reg.GCH_CFG_SIG n)
  let g := s.signal sig (s.fld (Reg.GCH_CFG_PORT n)) (s.fld (Reg.GCH_CFG_STREAM n))
  { g with carrier := carrierOf g sig (s.chanSv n) }

/-- The satellite system of a signal (Table 3.1); each RAM code is a system of its own. -/
def sigSystem (sig : Nat) : Nat :=
  if sig ≤ 6 then 0 else if sig ≤ 14 then 1 else if sig ≤ 20 then 2 else if sig ≤ 24 then 3 else if sig ≤ 27 then 5 else 6 + sig

/-- R65, R473: SV ranges that the rules state: FDMA slots -7 to +6 as SV 0 to 13, SBAS PRN 120 to 158. -/
def svLegal (sig sv : Nat) : Bool :=
  if sig = 21 ∨ sig = 22 then decide (sv ≤ 13) else if 25 ≤ sig ∧ sig ≤ 27 then decide (120 ≤ sv) && decide (sv ≤ 158) else true

/-- The satellites that a cold search tries on a signal: GPS 1 to 32 with QZSS 193 to 202 (R65), Galileo the PRNs in ROM (R65), BeiDou 1 to
63 and GLONASS CDMA 1 to 24 (PRESUMED, log 24), FDMA slots and SBAS (R65); none on a RAM code. -/
def svRange (sig : Nat) : List Nat :=
  let from' (a n : Nat) : List Nat := (List.range n).map (· + a)
  if sig ≤ 6 then from' 1 32 ++ from' 193 10 else if sig ≤ 14 then from' 1 50 else if sig ≤ 20 then from' 1 63
  else if sig ≤ 22 then from' 0 14 else if sig ≤ 24 then from' 1 24 else if sig ≤ 27 then from' 120 39 else []

/-- R64: a carrier lies within 45.000 MHz of the centre of its stream; a RAM code's carrier is not given. -/
def State.carrierOk (s : State) (w : Nat) : Bool :=
  let sig := bitsOf w 4 5
  if 28 ≤ sig then true
  else
    let g := s.signal sig 0 0
    let d := carrierOf g sig (bitsOf w 9 8) - 10 * (s.fld (Reg.AS_CENTRE_FREQ (bitsOf w 0 2) (bitsOf w 2 2)) : Int)
    decide (-450000 ≤ d) && decide (d ≤ 450000)

/-- A signal is a pilot component (Table 3.1; PILOT of CODE_DESC for the RAM codes). -/
def State.pilot (s : State) (sig : Nat) : Bool := (s.signal sig 0 0).pilot

/-! NCOs (R67). -/

def State.chan (s : State) (n : Nat) : ChanState := sget (fun _ => {}) s.gn.chans n
def State.setChan (s : State) (n : Nat) (c : ChanState) : State :=
  { s with gn := { s.gn with chans := sset (fun _ => {}) s.gn.chans n c } }

/-- The carrier's offset from the centre of its stream, in Hz × 2^40; INVERT turns it (R64). -/
def State.carrOffset (s : State) (n : Nat) : Int :=
  ((s.chanSignal n).carrier - 10 * (s.fld (Reg.AS_CENTRE_FREQ (s.fld (Reg.GCH_CFG_PORT n)) (s.fld (Reg.GCH_CFG_STREAM n))) : Int)) * 100 * 2 ^ 40

def State.inverted (s : State) (n : Nat) : Bool := s.on (Reg.AS_CENTRE_INVERT (s.fld (Reg.GCH_CFG_PORT n)) (s.fld (Reg.GCH_CFG_STREAM n)))

/-- The NCO phases of channel `n` at field time `t`: one increment per sample of 80 ticks since they were last written down. -/
def State.ncoAt (s : State) (n : Nat) (t : Time) : Int × Nat :=
  let c := s.chan n
  let k := tdiff t c.ncoFt / 80
  let period : Int := ((s.chanSignal n).length * 2 ^ 32 : Nat)
  (c.carrPh + k * s.sfld (Reg.GCH_CARR_NCO_INC n), ((c.codePh + k * s.fld (Reg.GCH_CODE_NCO_INC n)) % period).toNat)

/-- The phases brought to the present, before an increment changes. -/
def State.ncoRun (s : State) (n : Nat) : State :=
  let p := s.ncoAt n s.ft
  let c := s.chan n
  s.setChan n { c with carrPh := p.1, codePh := p.2, ncoFt := tadd c.ncoFt (tdiff s.ft c.ncoFt / 80 * 80) }

/-- The increments that give a carrier output `fc` (Doppler) and a code rate `fk`, both in 2^-40 Hz or chip/s, at 100 Msamples/s
(Example 3.1); the part after the point is dropped as R17 divides. -/
def State.ncoSet (s : State) (n : Nat) (fc fk : Int) : State :=
  let f := s.carrOffset n + fc
  (s.setSfld (Reg.GCH_CARR_NCO_INC n) ((if s.inverted n then -f else f).tdiv (10 ^ 8 * 2 ^ 8))).setSfld (Reg.GCH_CODE_NCO_INC n)
    (fk.tdiv (10 ^ 8 * 2 ^ 8))

/-- The code rate that carrier aiding gives at Doppler `fc` (Table 3.3), in 2^-40 chip/s. -/
def State.aidedRate (s : State) (n : Nat) (fc : Int) : Int :=
  let g := s.chanSignal n
  let chip : Int := g.rate * 100
  chip * 2 ^ 40 + (chip * fc).tdiv (max 1 (g.carrier * 100))

/-- The loops of channel `n` start at Doppler `fc` and code phase `ph` (2^-32 chip): R73's PULLIN. -/
def State.ncoStart (s : State) (n : Nat) (fc : Int) (ph : Nat) : State :=
  let c := s.chan n
  let s1 := s.setChan n { c with carrPh := 0, codePh := ph % ((s.chanSignal n).length * 2 ^ 32), ncoFt := s.ft, x1 := 0, x2 := fc }
  s1.ncoSet n fc (s1.aidedRate n fc)

/-- The Doppler that the carrier increment stands for, 1 mHz (Table 3.4). -/
def State.dopplerOf (s : State) (n : Nat) : Int :=
  let f := s.sfld (Reg.GCH_CARR_NCO_INC n) * 10 ^ 11
  (if s.inverted n then -f else f).tdiv (2 ^ 32) - s.carrOffset n / 2 ^ 40 * 1000

/-- The Doppler that the carrier increment stands for, 2^-40 Hz. -/
def State.ncoDoppler (s : State) (n : Nat) : Int :=
  let f := s.sfld (Reg.GCH_CARR_NCO_INC n) * (10 ^ 8 * 2 ^ 8)
  (if s.inverted n then -f else f) - s.carrOffset n

/-! Taps and search (R70, R74). -/

/-- Position of tap `j` relative to the prompt replica, 1/64 chip (R70); in a search it lies `j` × ACQ_STEP beyond the hypothesis. -/
def State.tapPos (s : State) (n j : Nat) (search : Bool) : Int :=
  let el : Int := s.fld (Reg.GCH_TAPS_EL n)
  if search then (j : Int) * s.fld (Reg.GCH_TAPS_ACQ_STEP n)
  else if j = 0 then -(el / 2) else if j = 1 then 0 else if j = 2 then el / 2
  else clampI (-128) 128 (s.sfld (Reg.GCH_TAPS_SHAPE_BASE n) + ((j : Int) - 3) * s.fld (Reg.GCH_TAPS_SHAPE_STEP n))

/-- Chips × 64 that one search cell covers: 25 × ACQ_STEP (a step of 0 still moves by one place: DESIGN CHOICE, log 24). -/
def State.cellSpan (s : State) (n : Nat) : Nat := 25 * max 1 (s.fld (Reg.GCH_TAPS_ACQ_STEP n))

/-- Chips × 64 that a search covers: the primary code without aiding, ±2 chips with it (R69, R74), ±4 chips in LOST (Table 3.2). -/
def State.searchChips (s : State) (n : Nat) : Nat :=
  if s.fld (Reg.GCH_STATE_STATE n) = 4 then 512 else if (s.chan n).aided then 256 else 64 * (s.chanSignal n).length

/-- Code-phase steps of one Doppler bin. -/
def State.phaseCells (s : State) (n : Nat) : Nat := (s.searchChips n + s.cellSpan n - 1) / s.cellSpan n

/-- Doppler bins of an unaided search: 500 Hz / INT_MS wide over ±5 kHz scaled to the carrier (R74: taken as scaled from 1575.42 MHz, DEDUCED, log
24), of which a cold start gives a channel its part; one bin with aiding or in LOST. -/
def State.dopplerBins (s : State) (n : Nat) : Nat :=
  if (s.chan n).aided ∨ s.fld (Reg.GCH_STATE_STATE n) = 4 then 1
  else 2 * (10 * (s.chanSignal n).carrier.toNat * s.fld (Reg.GCH_CFG_INT_MS n) / 15754200) + 1

/-- First bin of part `i` of `m` of `b` bins. -/
def partStart (b : Nat) (p : Nat × Nat) : Nat := p.1 * b / max 1 p.2

/-- Cells of the channel's search. -/
def State.searchCells (s : State) (n : Nat) : Nat :=
  let b := s.dopplerBins n
  let p := (s.chan n).part
  if (s.chan n).aided ∨ s.fld (Reg.GCH_STATE_STATE n) = 4 then s.phaseCells n
  else s.phaseCells n * (partStart b (p.1 + 1, p.2) - partStart b p)

/-- The trial Doppler of search cell `k`, 2^-40 Hz: bins in rising order about the middle of the range. A re-detection in LOST is tried at
the rate the NCO coasts on, over the taps' spread of a search (DESIGN CHOICE, log 24: the table gives its ±4 chips alone). -/
def State.cellDoppler (s : State) (n k : Nat) : Int :=
  let c := s.chan n
  if s.fld (Reg.GCH_STATE_STATE n) = 4 then s.ncoDoppler n
  else if c.aided then c.aidDop
  else
    let b := s.dopplerBins n
    ((partStart b c.part + k / max 1 (s.phaseCells n) : Nat) - (b / 2 : Nat) : Int) * 500 * 2 ^ 40 / max 1 (s.fld (Reg.GCH_CFG_INT_MS n))

/-- The code-phase hypothesis of cell `k` relative to the start of its window, 1/64 chip. -/
def State.cellPhase (s : State) (n k : Nat) : Nat := k % max 1 (s.phaseCells n) * s.cellSpan n

/-- The start of the window in 2^-32 chip: the primary code's, 2 chips before the aid, 4 chips before the coasted code phase. -/
def State.searchStart (s : State) (n : Nat) : Int :=
  let c := s.chan n
  if s.fld (Reg.GCH_STATE_STATE n) = 4 then ((s.ncoAt n s.ft).2 : Int) - 2 ^ 34
  else if c.aided then (c.aidCode : Int) * 2 ^ 20 - 2 ^ 33 else 0

/-- The NCOs at the trial Doppler of the present search cell (R74); in LOST they coast on. -/
def State.trialRates (s : State) (n : Nat) : State :=
  if s.fld (Reg.GCH_STATE_STATE n) = 4 then s
  else
    let fc := s.cellDoppler n (s.chan n).cells
    s.ncoSet n fc (s.aidedRate n fc)

/-- R67, R74: a search of channel `n` begins: the code NCO at the start of its window, the carrier NCO at its first trial Doppler. -/
def State.searchBegin (s : State) (n : Nat) : State :=
  let per : Int := ((s.chanSignal n).length * 2 ^ 32 : Nat)
  let ph := (s.searchStart n % per).toNat
  (s.setChan n { s.chan n with carrPh := 0, codePh := ph, ncoFt := s.ft }).trialRates n

/-- R67, R74: the search of channel `n` goes to cell `k`: the code NCO moves by the cells' distance, the carrier NCO to the trial Doppler. -/
def State.searchTo (s : State) (n k : Nat) : State :=
  let s1 := s.ncoRun n
  let c := s1.chan n
  let per : Int := ((s1.chanSignal n).length * 2 ^ 32 : Nat)
  let move : Int := ((s1.cellPhase n k : Int) - s1.cellPhase n c.cells) * 2 ^ 26
  (s1.setChan n { c with codePh := (((c.codePh : Int) + move) % per).toNat, cells := k }).trialRates n

/-- The place of the largest of a list, the first of equals. -/
def argMax (ps : List Nat) : Nat :=
  let m := ps.foldl max 0
  (ps.findIdx? (fun p => decide (p = m))).getD 0

/-! Discriminators and loop filters (Table 3.3). -/

/-- 2π in units of 2^-60. -/
abbrev fxTwoPi : Int := 7244019458077122842

/-- An angle of a direction in 2^-40 cycle; none of a zero vector. Beyond a quarter turn it is half a turn and the angle of the opposite
direction, so that no precision is lost near half a turn. -/
def cyclesOf (x y : Int) : Option Int :=
  let a (x y : Int) : Int := angleOf (dirOf (x, y)) * 2 ^ 40 / fxTwoPi
  if x = 0 ∧ y = 0 then none
  else if 0 ≤ x then some (a x y)
  else some (a (-x) (-y) + (if y < 0 then -(2 ^ 39) else 2 ^ 39))

/-- The PLL error in 2^-40 cycle: atan2 on a pilot component, atan on a data component. -/
def pllError (pilot : Bool) (p : Tap) : Option Int := if pilot ∨ 0 ≤ p.i then cyclesOf p.i p.q else cyclesOf (-p.i) (-p.q)

/-- The FLL error over consecutive prompts `a`, `b` at period `t` ms, in 2^-40 Hz. -/
def fllError (a b : Tap) (t : Nat) : Option Int := (cyclesOf (a.i * b.i + a.q * b.q) (a.i * b.q - b.i * a.q)).map (fun c => c * 1000 / t)

/-- A tap's magnitude in 2^-20. -/
def tapMag (p : Tap) : Int := isqrt ((p.i.natAbs ^ 2 + p.q.natAbs ^ 2) * 2 ^ 40)

/-- The DLL error in 2^-40 chip; none where both magnitudes are zero. -/
def dllError (boc : Bool) (el : Nat) (e l : Tap) : Option Int :=
  let a := tapMag e
  let b := tapMag l
  if a + b = 0 then none
  else some (if boc then (128 - 3 * (el : Int)) * (a - b) * 2 ^ 40 / (384 * (a + b)) else (128 - (el : Int)) * (a - b) * 2 ^ 40 / (128 * (a + b)))

/-- The carrier filter over one period of `t` ms with errors in 2^-40: the new x1 and x2 and f_carr (Table 3.3, in its order). -/
def carrierFilter (x1 x2 ep ef : Int) (bp bf t : Nat) : Int × Int × Int :=
  let b : Int := bp
  let f : Int := bf
  let n1 := x1 + t * (b ^ 3 * 10 ^ 9 * ep / 7845 ^ 3 + 100 * f ^ 2 * ef / 2809) / 1000
  let n2 := x2 + t * (n1 + 11 * b ^ 2 * 10 ^ 5 * ep / 7845 ^ 2 + 1414 * f * ef / 5300) / 1000
  (n1, n2, n2 + 2400 * b * ep / 7845)

/-- The code output: f_chip (1 + f_carr / f_carrier) + wc ec, in 2^-40 chip/s (Table 3.3). -/
def State.codeOutput (s : State) (n : Nat) (fc ec : Int) : Int :=
  s.aidedRate n fc + 4 * s.fld (Reg.GCH_LOOP_BN_DLL n) * ec / 100

/-- R75: how far a loop output may lie from real arithmetic: 2^-16 Hz, in 2^-40 Hz. -/
def loopDev (k : Nat) : Int := clampI (-(2 ^ 24)) (2 ^ 24) (Config.loopDev k)

end Sys2Proof.Machine
end

