-- ==== Sys2Proof/Machine/Gnss.lean ====
section
/-! DEFINITION. GNSS baseband (chapter 3): sample ports, channels, acquisition and tracking states, measurement epochs,
code RAM and aiding records. -/

namespace Sys2Proof.Machine

/-- Channel states of Table 3.2. -/
abbrev chIdle : Nat := 0
abbrev chAcquire : Nat := 1
abbrev chPullin : Nat := 2
abbrev chTrack : Nat := 3
abbrev chLost : Nat := 4

/-- A lane takeover is under way. -/
def State.inTakeover (s : State) : Bool := decide (s.fld Reg.RES_STATE_STATE = 1)

/-- An item held back until the takeover's end. -/
def State.hold (s : State) (x : HeldItem) : State := { s with rs := { s.rs with held := s.rs.held ++ [x] } }

/-- R22, R384: the lane merge passes nothing on, in a takeover until its end and in NONE. -/
def State.holdsBack (s : State) : Bool := s.inTakeover || decide (s.fld Reg.RES_STATE_STATE = 3)

/-- Tracking channels of the variant (Table 18.14). -/
def Variant.channels : Variant → Nat
  | .f1024 => 1024
  | .l1024 => 0
  | .f0512 => 512

/-- Channels whose CH_STATE word satisfies `p`; a channel not listed is IDLE. -/
def State.chansWhere (s : State) (p : Nat → Bool) : List Nat :=
  (s.regs.filter (fun e => inRange 0x420000 0x460000 e.1 && (decide (e.1 % 256 = 0x20) && p e.2.toNat))).map
    (fun e => (e.1 - 0x420000) / 256)

/-- Channels with PLL lock (R44). -/
def State.lockedChans (s : State) : Nat := (s.chansWhere (fun w => bit w 3)).length

/-- BB_STATUS.TRACKING counts the channels in TRACK (R85). -/
def State.recountTracking (s : State) : State :=
  s.setFld Reg.BB_STATUS_TRACKING (s.chansWhere (fun w => w % 8 == chTrack)).length

/-- The conditions of MEAS_VALID lapse in this second if fewer than four channels hold lock (R44). -/
def State.noteLock (s : State) : State :=
  if s.lockedChans < 4 then { s with tb := { s.tb with secBad := true } } else s

/-- A symbol record of channel `n` (R77): the symbols gathered so far. -/
def State.sendSymbols (s : State) (n : Nat) : State :=
  let c := s.chan n
  if c.symbols.isEmpty then s
  else
    let w := n + 1024 * s.fld (Reg.GCH_CFG_PORT n) + 4096 * s.fld (Reg.GCH_CFG_STREAM n) + 16384
    let bits := c.symbols.foldr (fun b a => b2n b + 2 * a) 0
    let bs := leBytes 8 c.symFt.toNat ++ leBytes 2 w ++ leBytes 1 (s.fld (Reg.GCH_CFG_SIG n)) ++ leBytes 1 (s.fld (Reg.GCH_CFG_SV n)) ++
      leBytes 1 c.symbols.length ++ leBytes 3 0 ++ leBytes 16 bits
    (s.streamRole Reg.CTX_PERM_GNSS_CONSUMER 1 bs).setChan n { c with symbols := [] }

/-- R72: the fit ends with TRACK: CH_MP returns to its reset values, and the next fit starts from zero (DESIGN CHOICE, log 24). -/
def State.fitEnds (s : State) (n : Nat) : State :=
  (s.setReg (0x4200F8 + 0x100 * (n % 1024)) 0).setChan n { s.chan n with fit := [0, 0, 0] }

/-- Channel `n` enters a state: the counts of the state start anew, lock and sync are lost outside PULLIN and TRACK; when TRACK ends,
gathered symbols are sent and the multipath fit ends (R72, R73, R77). A search begins on the NCOs (R74). -/
def State.chanTo (s : State) (n st : Nat) : State :=
  let s0 := if s.fld (Reg.GCH_STATE_STATE n) = chTrack ∧ st ≠ chTrack then (s.sendSymbols n).fitEnds n else s
  let s1 := s0.setFld (Reg.GCH_STATE_STATE n) st
  let keep := st = chPullin ∨ st = chTrack
  let s2 := if keep then s1 else ((s1.setFld (Reg.GCH_STATE_PLL_LOCK n) 0).setFld (Reg.GCH_STATE_BIT_SYNC n) 0)
  let c := s2.chan n
  let c1 : ChanState := if keep then { c with lockRun := 0, powers := [], dwells := 0 }
    else { c with lockRun := 0, powers := [], dwells := 0, cells := 0, prompts := [], moved := if st = chIdle then false else c.moved }
  let s3 := ((s2.setChan n c1).recountTracking).noteLock
  if st = chAcquire ∨ st = chLost then s3.searchBegin n else s3

/-- Channel `n` starts in PULLIN at Doppler `fc` and code phase `ph`, with that as its aid (R69, R73). -/
def State.pullinAt (s : State) (n : Nat) (fc : Int) (ph : Nat) : State :=
  let s1 := s.setChan n { s.chan n with aided := true, aidCode := ph / 2 ^ 20, aidDop := fc, part := (0, 1) }
  (s1.ncoStart n fc ph).chanTo n chPullin

/-! Allocation and cross-signal aiding (R68, R69, R74). -/

/-- R79: the channel's bank works: it is not fenced, or the spare replaces it. -/
def State.bankWorks (s : State) (n : Nat) : Bool :=
  !s.fbit Reg.BANK_STAT_FENCED (n / 64) ||
    (s.on Reg.BANK_STAT_SPARE_USED && (decide (s.fld Reg.BANK_STAT_SPARE_FOR = n / 64) && !s.gn.spareOut))

/-- Channels in TRACK on a satellite at a port; `cm` asks for L2C CM only. -/
def State.trackersOf (s : State) (port sys sv : Nat) (cm : Bool) : List Nat :=
  (s.chansWhere (fun w => w % 8 == chTrack)).filter (fun m =>
    decide (s.fld (Reg.GCH_CFG_PORT m) = port) && (decide (s.chanSv m = sv) &&
      (if cm then decide (s.fld (Reg.GCH_CFG_SIG m) = 3) else decide (sigSystem (s.fld (Reg.GCH_CFG_SIG m)) = sys))))

/-- R69: channel `n` starts in PULLIN from channel `m` that tracks its satellite: the code phase carried over by the chip rates, the
Doppler scaled by the ratio of the carriers, and a window of ±2 chips if PULLIN fails (R74). -/
def State.startFrom (s : State) (n m : Nat) : State :=
  let a := s.chanSignal m
  let b := s.chanSignal n
  let fm : Int := (s.dopplerOf m * 2 ^ 40).tdiv 1000
  s.pullinAt n ((fm * b.carrier).tdiv (max 1 a.carrier)) ((s.ncoAt m s.ft).2 * b.rate / max 1 a.rate)

/-- R69: with XAID the channel that aids channel `n`, if its satellite is in TRACK on the same port; L2C CL takes CM alone. -/
def State.aidFor (s : State) (n : Nat) : Option Nat :=
  let sig := s.fld (Reg.GCH_CFG_SIG n)
  if s.on Reg.BB_CTRL_XAID ∨ sig = 4 then
    ((s.trackersOf (s.fld (Reg.GCH_CFG_PORT n)) (sigSystem sig) (s.chanSv n) (sig = 4)).filter (· ≠ n)).head?
  else none

/-- Channel `n` starts on the configuration it holds: from a channel that tracks its satellite, else in ACQUIRE; L2C CL only from CM
(R69), and no carrier beyond ±45 MHz of its stream's centre (R64). L2C CL without a CM in TRACK does not start and reports nothing
(DESIGN CHOICE, log 24). -/
def State.startChan (s : State) (n : Nat) (part : Nat × Nat) : State :=
  if ¬ s.carrierOk (s.reg (0x420004 + 256 * n)).toNat then s.raise (Reg.GCH_EVENT_CFG_ERR n)
  else match s.aidFor n with
    | some m => s.startFrom n m
    | none =>
      if s.fld (Reg.GCH_CFG_SIG n) = 4 then s
      else (s.setChan n { s.chan n with aided := false, part := part }).chanTo n chAcquire

/-- R64, R68: channel `n` takes signal `e.1` of satellite `e.2.1` on its block's port and stream, with its part of the Doppler range. -/
def State.giveChan (s : State) (n : Nat) (e : Nat × Nat × Nat × Nat) : State :=
  if ¬ s.carrierOk (n / 256 + 4 * (n / 64 % 4) + 16 * e.1 + 512 * e.2.1) then s.raise (Reg.GCH_EVENT_CFG_ERR n)
  else ((((s.setFld (Reg.GCH_CFG_PORT n) (n / 256)).setFld (Reg.GCH_CFG_STREAM n) (n / 64 % 4)).setFld (Reg.GCH_CFG_SIG n) e.1).setFld
    (Reg.GCH_CFG_SV n) e.2.1).startChan n e.2.2

/-- Aiding records of the retained area that hold anything, as (system, PRN) (R82). -/
def State.aidSats (s : State) : List (Nat × Nat) :=
  ((List.range 384).map (fun i => (sget (fun _ => 0) s.gn.retained (32 * i)).toNat)).foldr
    (fun w l => if w = 0 then l else (bitsOf w 0 8, bitsOf w 8 8) :: l) []

/-- The signals of a retained record's system (R82): 0 GPS and 4 QZSS, 1 Galileo, 2 BeiDou, 3 GLONASS, 5 SBAS. -/
def systemSigs (sys : Nat) : List Nat :=
  let from' (a n : Nat) : List Nat := (List.range n).map (· + a)
  if sys = 0 ∨ sys = 4 then from' 0 7 else if sys = 1 then from' 7 8 else if sys = 2 then from' 15 6 else if sys = 3 then from' 21 4
  else if sys = 5 then from' 25 3 else []

/-- R68's order: predicted elevation, highest first, then lower SIG, then lower SV. -/
def allocBefore (a b : Int × Nat × Nat) : Bool :=
  if a.1 ≠ b.1 then decide (b.1 < a.1) else if a.2.1 ≠ b.2.1 then decide (a.2.1 < b.2.1) else decide (a.2.2 < b.2.2)

/-- An insertion by `allocBefore`; an equal element is not taken twice. -/
def allocInsert (x : Int × Nat × Nat) : List (Int × Nat × Nat) → List (Int × Nat × Nat)
  | [] => [x]
  | y :: ys => if allocBefore x y then x :: y :: ys else if x = y then y :: ys else y :: allocInsert x ys

/-- R64: a satellite's signal lies in the band of a block's stream. -/
def State.inBand (s : State) (b sig sv : Nat) : Bool := s.carrierOk (b / 4 + 4 * (b % 4) + 16 * sig + 512 * sv)

/-- R68: signals of a block's stream that its mask enables and its band takes in (R64) for some satellite. The RAM codes, SIG 28 to 31, whose
satellites no rule gives, are not allocated (DESIGN CHOICE, log 24). -/
def State.blockSigs (s : State) (b : Nat) : List Nat :=
  (List.range 28).filter (fun sig => s.fbit (Reg.AS_SIGMASK_MASK (b / 4) (b % 4)) sig && (svRange sig).any (s.inBand b sig))

/-- R68: (SIG, SV) pairs of a block by predicted elevation: retained satellites predicted visible, on the block's signals. -/
def State.predicted (s : State) (b : Nat) : List (Nat × Nat) :=
  let sigs := s.blockSigs b
  let all := s.aidSats.flatMap (fun e =>
    let h := Config.elevation s.free e.1 e.2
    if h ≤ 0 then [] else (((systemSigs e.1).filter sigs.contains).filter (fun g => svLegal g e.2 && s.inBand b g e.2)).map (fun g => (h, g, e.2)))
  (all.foldl (fun l x => allocInsert x l) []).map (fun x => x.2)

/-- R74: (SIG, SV) pairs that a cold search of a block goes through. -/
def State.coldPairs (s : State) (b : Nat) : List (Nat × Nat) := (s.blockSigs b).flatMap (fun g => ((svRange g).filter (s.inBand b g)).map (fun v => (g, v)))

/-- R68: there are predictions for a block: the time is known and a retained satellite has one of its signals (DEDUCED, log 24: an
ephemeris predicts with the time, from the RTC or from calendar time). -/
def State.predicts (s : State) (b : Nat) : Bool :=
  (s.on Reg.PWR_STATUS_RTC_VALID || s.on Reg.TB_STATUS_CAL_VALID) &&
    s.aidSats.any (fun e => (systemSigs e.1).any (fun g => (s.blockSigs b).contains g && svLegal g e.2))

/-- The pairs that a block's channels already work on. -/
def State.blockTaken (s : State) (b : Nat) : List (Nat × Nat) :=
  ((s.chansWhere (fun w => w % 8 != chIdle)).filter (fun n => decide (n / 64 = b))).map (fun n => (s.fld (Reg.GCH_CFG_SIG n), s.chanSv n))

/-- R68: channels of a block that the part may give work: IDLE, not MANUAL, in a working bank. DESIGN CHOICE (log 24): only on a port that is
aligned, since no samples come from another (R63). -/
def State.blockFree (s : State) (b : Nat) : List Nat :=
  if s.on (Reg.AS_STAT_ALIGNED (b / 4)) then
    ((List.range 64).map (· + 64 * b)).filter (fun n =>
      decide (s.fld (Reg.GCH_STATE_STATE n) = chIdle) && (!s.on (Reg.GCH_CFG_MANUAL n) && s.bankWorks n))
  else []

/-- R68, R74: one block: predicted pairs in their order, each to the next free channel; with no predictions the cold search's pairs in turn,
its Doppler range divided when there are more channels than pairs. -/
def State.allocateBlock (s : State) (b : Nat) : State :=
  let free := s.blockFree b
  if free.isEmpty ∨ s.fld (Reg.AS_SIGMASK_MASK (b / 4) (b % 4)) = 0 then s
  else
    let taken := s.blockTaken b
    let p := s.predicted b
    let s1 := s.tick
    if ¬ s.predicts b then
      let c := (s.coldPairs b).filter (fun e => !taken.contains e)
      let k := c.length
      if k = 0 then s1
      else
        let parts := max 1 (free.length / k)
        let at' := sget (fun _ => 0) s.gn.cold b
        let give := (List.range (min free.length (k * parts))).map (fun i =>
          let e := c.getD ((at' + i) % k) (0, 0)
          (free.getD i 0, e.1, e.2, (i / k, parts)))
        give.foldl (fun s e => s.giveChan e.1 (e.2.1, e.2.2.1, e.2.2.2))
          { s1 with gn := { s1.gn with cold := sset (fun _ => 0) s1.gn.cold b ((at' + give.length) % k) } }
    else (free.zip (p.filter (fun e => !taken.contains e))).foldl (fun s e => s.giveChan e.1 (e.2.1, e.2.2, (0, 1))) s1

/-- R68: automatic allocation, with AUTO_START and some signal enabled. -/
def State.allocate (s : State) : State :=
  if s.on Reg.BB_CTRL_AUTO_START ∧ s.on Reg.BB_STATUS_BB_ON ∧ s.regs.any (fun e => inRange 0x408080 0x4080C0 e.1) then
    (List.range (s.variant.channels / 64)).foldl (fun s b => s.allocateBlock b) s
  else s

/-- The valid baselines (R95), with BL_COUNT. -/
def State.setBaselines (s : State) (bs : List (Nat × List Int)) : State :=
  { s with po := { s.po with baselines := bs } }.setFld Reg.POSE_STATUS_BL_COUNT (min bs.length 7)

/-- R81: the baseband stops: every channel IDLE; no velocity and no baselines come from it any more (R94, R95, R109). -/
def State.bbStop (s : State) : State :=
  let s1 := (s.chansWhere (fun w => w % 8 != chIdle)).foldl (fun s n => s.chanTo n chIdle) (s.setFld Reg.BB_STATUS_BB_ON 0)
  (s1.setFld Reg.POSE_STATUS_CPV_OK 0).setBaselines []

/-- R81, R423: the RTC's uncertainty, 1 ms and 50 ppm of the time since it was set, is 1 s or less. -/
def State.rtcSure (s : State) : Bool :=
  s.on Reg.PWR_STATUS_RTC_VALID &&
    decide (1000 + 50 * ((s.pw.rtc + (s.ft - s.pw.rtcFt).toNat / 8000000000) - s.pw.rtcSet) ≤ 1000000)

/-- R81: the baseband runs (where the variant has it, R84) and allocates with AUTO_START. The data are valid for a hot start when the RTC
is sure to 1 s, eight satellites are held, and the tests of position and visibility pass. -/
def State.bbStart (s : State) : State :=
  if s.variant = .l1024 then s
  else
    let s1 := s.setFld Reg.BB_STATUS_BB_ON 1
    (if 8 ≤ s1.aidSats.eraseDups.length ∧ s1.rtcSure then s1.tick.setFld Reg.BB_STATUS_HOT_VALID (Config.hotValid s1.free)
      else s1.setFld Reg.BB_STATUS_HOT_VALID 0).allocate

/-- R73: a channel command: 1 start-search, 2 start-aided, 3 stop; only from IDLE for the two starts, and only while the baseband runs and
the channel's bank works (R79). -/
def State.chanCmd (s : State) (n cmd : Nat) : State :=
  if n < s.variant.channels then
    if cmd = 3 then (if s.fld (Reg.GCH_STATE_STATE n) = chIdle then s else s.chanTo n chIdle)
    else if s.on Reg.BB_STATUS_BB_ON ∧ s.fld (Reg.GCH_STATE_STATE n) = chIdle ∧ s.bankWorks n then
      if ¬ s.carrierOk (s.reg (0x420004 + 256 * n)).toNat then s.raise (Reg.GCH_EVENT_CFG_ERR n)
      else if s.fld (Reg.GCH_CFG_SIG n) = 4 then s.startChan n (0, 1)
      else if cmd = 1 then (s.setChan n { s.chan n with aided := false, part := (0, 1) }).chanTo n chAcquire
      else if cmd = 2 then
        s.pullinAt n (s.sfld (Reg.GCH_AID_DOP_DOPPLER n) * 2 ^ 40) (s.fld (Reg.GCH_AID_CODE_CODE_PH n) * 2 ^ 20)
      else s
    else s
  else s

/-- R70, R85: a written channel register holds legal values. -/
def chanLegal (off v : Nat) : Bool :=
  if off = 0x04 then inRange 1 21 (bitsOf v 17 5) && svLegal (bitsOf v 4 5) (bitsOf v 9 8)
  else if off = 0x08 then inRange 2 65 (bitsOf v 0 7) && (decide (bitsOf v 0 7 % 2 = 0) && decide (1 ≤ bitsOf v 15 6))
  else if off = 0x10 then decide (1 ≤ bitsOf v 8 4)
  else true

/-- A write of a tracking-channel register (R64, R73, R473): an illegal one sets the channel's CFG_ERR. -/
def State.chanWrite (s : State) (a v : Nat) : State :=
  let n := (a - 0x420000) / 256
  let off := a % 256
  if off = 0 then s.chanCmd n (v % 4)
  else if chanLegal off v && (decide (off ≠ 4) || s.carrierOk v) then s.writeCodes a v
  else s.raise (Reg.GCH_EVENT_CFG_ERR n)

/-- R66: no channel uses a RAM code. -/
def State.ramCodeFree (s : State) : Bool :=
  (s.chansWhere (fun w => w % 8 != chIdle)).all (fun n => decide (s.fld (Reg.GCH_CFG_SIG n) < 28))

/-- A CODE_DATA access (R66): reads or writes 32 chips at CODE_ADDR and advances it, after a refused write too. DESIGN CHOICE (log 24): a channel
uses a RAM code while it is not IDLE with a SIG of 28 to 31. -/
def State.codeData (s : State) (w : Option Word) : State × Word :=
  let a := s.fld Reg.CODE_ADDR_WORD
  let old := sget (fun _ => 0) s.gn.codeRam a
  let s1 := match w with
    | some v => if s.ramCodeFree then { s with gn := { s.gn with codeRam := sset (fun _ => 0) s.gn.codeRam a v } } else s
    | none => s
  (s1.setFld Reg.CODE_ADDR_WORD (a + 1), old)

/-- An AID_DATA access (R82): reads or writes a word of the retained area and advances AID_ADDR. -/
def State.aidData (s : State) (w : Option Word) : State × Word :=
  let a := s.fld Reg.AID_ADDR_WORD
  let old := sget (fun _ => 0) s.gn.retained a
  let s1 := match w with
    | some v => { s with gn := { s.gn with retained := sset (fun _ => 0) s.gn.retained a v } }
    | none => s
  (s1.setFld Reg.AID_ADDR_WORD (a + 1), old)

/-- A write in the baseband page (R473: it has no event register, so an illegal write sets nothing). -/
def State.bbWrite (s : State) (a v : Nat) : State :=
  if a = 0x408108 then (s.codeData (some (BitVec.ofNat 32 v))).1
  else if a = 0x408124 then (s.aidData (some (BitVec.ofNat 32 v))).1
  else if inRange 0x408110 0x408120 a then
    if inRange 1 10231 (bitsOf v 14 14) && decide (bitsOf v 28 3 ≤ 5) then s.writeCodes a v else s
  else if inRange 0x408010 0x408030 a ∧ a % 8 = 0 then
    let n := (a - 0x408010) / 8
    let s1 := s.writeCodes a v
    if bit v 5 then { s1 with gn := { s1.gn with training := s1.gn.training.filter (· ≠ n) ++ [n] } } else s1
  else s.writeCodes a v

/-- R63: the training pattern arrives on a port whose TRAIN was written: words align and the forwarded clock is present. DESIGN CHOICE (log
24): STREAM_EN has no further effect, and clearing PORT_EN afterwards leaves the port aligned with its channels running. -/
def State.train (s : State) (n : Nat) : State :=
  if s.gn.training.contains n ∧ s.on (Reg.AS_CTRL_PORT_EN n) then
    { (s.setFld (Reg.AS_STAT_ALIGNED n) 1).setFld (Reg.AS_STAT_CLK_PRESENT n) 1 with
      gn := { s.gn with training := s.gn.training.filter (· ≠ n) } }
  else s

/-- Sample ports of the variant (Table 18.14). -/
def Variant.asPorts : Variant → Nat
  | .f1024 => 4
  | .l1024 => 0
  | .f0512 => 2

/-- R94: the reference antenna. -/
def State.refAnt (s : State) : Option Nat := (List.range 4).find? (fun n => decide (s.fld (Reg.ANT_ROLE_ROLE n) = 1))

/-- R63, R94, R95: a port loses its forwarded clock: its channels go to IDLE with PORT_LOST (DESIGN CHOICE, log 24: a channel that is IDLE
already gets no event), its baselines are lost, and a lost reference port counts as ten invalid epochs. -/
def State.asPortLost (s : State) (n : Nat) : State :=
  if n < s.variant.asPorts then
    let was := s.on (Reg.AS_STAT_ALIGNED n)
    let s1 := (s.setFld (Reg.AS_STAT_ALIGNED n) 0).setFld (Reg.AS_STAT_CLK_PRESENT n) 0
    let s2 := if was then s1.raise (Reg.AS_STAT_PORT_LOST n) else s1
    let s3 := ((s2.chansWhere (fun w => w % 8 != chIdle)).filter (fun c => decide (s2.fld (Reg.GCH_CFG_PORT c) = n))).foldl
      (fun s c => (s.chanTo c chIdle).raise (Reg.GCH_EVENT_PORT_LOST c)) s2
    let isRef := s3.fld (Reg.ANT_ROLE_ROLE n) = 1
    let s4 := s3.setBaselines (s3.po.baselines.filter (fun b => b.1 ≠ n && ¬ isRef))
    if s3.refAnt = some n then { s4 with po := { s4.po with refBad := max 10 s4.po.refBad, refGood := 0 } } else s4
  else s

/-- A 40-bit sum shifted right by ACC_SHIFT and saturated to 20 bits, with whether it saturated (R71). -/
def tapSum (shift : Nat) (v : Int) : Int × Bool :=
  let x := sx 40 (unsx 40 v) / ((2 ^ shift : Nat) : Int)
  (satI 20 x, decide (satI 20 x ≠ x))

/-- R75, R79: the sign that the carried sync predicts is taken off a pilot's sums after sync and off a moved channel's. -/
def State.strips (s : State) (n : Nat) : Bool :=
  (s.chan n).moved || (s.on (Reg.GCH_STATE_BIT_SYNC n) && s.pilot (s.fld (Reg.GCH_CFG_SIG n)))

/-- The 25 tap sums latched into CH_TAP (R71); a saturated one sets SAT. -/
def State.latchTaps (s : State) (n : Nat) (sums : List Tap) (neg : Bool) : State :=
  let sh := s.fld (Reg.GCH_CFG_ACC_SHIFT n)
  let sums' := if neg && s.strips n then sums.map (fun t => (⟨-t.i, -t.q⟩ : Tap)) else sums
  let s1 := (List.range 25).foldl (fun s j =>
    let t := sums'.getD j ⟨0, 0⟩
    (s.setSfld (Reg.GCH_TAP_I_SUM n j) (tapSum sh t.i).1).setSfld (Reg.GCH_TAP_Q_SUM n j) (tapSum sh t.q).1) s
  s1.raiseIf (sums'.any (fun t => (tapSum sh t.i).2 || (tapSum sh t.q).2)) (Reg.GCH_EVENT_SAT n)

/-- A latched tap. -/
def State.tap (s : State) (n j : Nat) : Tap := ⟨s.sfld (Reg.GCH_TAP_I_SUM n j), s.sfld (Reg.GCH_TAP_Q_SUM n j)⟩

/-- Powers of the latched taps. -/
def State.tapPowers (s : State) (n : Nat) : List Nat :=
  (List.range 25).map (fun j => (s.tap n j).i.natAbs ^ 2 + (s.tap n j).q.natAbs ^ 2)

/-- R74: the largest power reaches ACQ_THR / 16 times the mean of the other 24. -/
def detects (thr : Nat) (ps : List Nat) : Bool :=
  let m := ps.foldl max 0
  decide (thr * (ps.foldl (· + ·) 0 - m) ≤ 16 * 24 * m)

/-- R74: a search of channel `n` finds its largest tap `p`: PULLIN at the cell's Doppler and that tap's code phase. -/
def State.found (s : State) (n p : Nat) : State :=
  let c := s.chan n
  let ph : Int := (s.ncoAt n s.ft).2 + s.tapPos n p true * 2 ^ 26
  let per : Int := ((s.chanSignal n).length * 2 ^ 32 : Nat)
  let fc := s.cellDoppler n c.cells
  (s.ncoStart n fc (ph % per).toNat).chanTo n chPullin

/-- R74: one dwell of a search; after ACQ_N dwells it detects, or the next cell is tried. In LOST only a code phase within ±4 chips of the
coasted one counts (Table 3.2), and the cells are gone through again until 10 s have passed. -/
def State.dwell (s : State) (n : Nat) : State :=
  let c := s.chan n
  let lost := s.fld (Reg.GCH_STATE_STATE n) = chLost
  let ps := if c.powers.isEmpty then s.tapPowers n else List.zipWith (· + ·) c.powers (s.tapPowers n)
  let p := argMax ps
  if c.dwells + 1 < s.fld (Reg.GCH_ACQ_ACQ_N n) then s.setChan n { c with powers := ps, dwells := c.dwells + 1 }
  else if detects (s.fld (Reg.GCH_ACQ_ACQ_THR n)) ps ∧
      (¬ lost ∨ s.cellPhase n c.cells + (s.tapPos n p true).toNat ≤ 512) then s.found n p
  else
    let s1 := s.setChan n { c with powers := [], dwells := 0 }
    if s.searchCells n ≤ c.cells + 1 then
      if lost then s1.searchTo n 0 else (s1.chanTo n chIdle).raise (Reg.GCH_EVENT_ACQ_FAIL n)
    else s1.searchTo n (c.cells + 1)

/-- The lock detector over the prompts (Table 3.3): lock at PLD ≥ 0.80, loss at PLD ≤ 0.60, else as before. DESIGN CHOICE (log 24): until 20
periods have run, PLD is formed over those there are, and with no power at all there is no lock. -/
def lockDetect (was : Bool) (ps : List Tap) : Bool :=
  let i2 : Int := ps.foldl (fun a t => a + t.i * t.i) 0
  let q2 : Int := ps.foldl (fun a t => a + t.q * t.q) 0
  if i2 + q2 = 0 then false
  else if 4 * (i2 + q2) ≤ 5 * (i2 - q2) then true
  else if 5 * (i2 - q2) ≤ 3 * (i2 + q2) then false
  else was

/-- R72: the estimator's outcome over the prompt and the 22 shape taps: the flag, convergence and CH_MP's fields follow from the fit, whose
values are cut to their fields (saturated where they do not fit: DESIGN CHOICE, log 24). -/
def State.estimate (s : State) (n : Nat) : State :=
  let js := 1 :: (List.range 22).map (· + 3)
  let c := s.chan n
  let v := Config.mpFit (js.map (fun j => ((s.tap n j).i, (s.tap n j).q))) (js.map (fun j => s.tapPos n j false)) (s.chanSignal n).boc (s.chanSignal n).rate
    (s.fld (Reg.GCH_CFG_PORT n)) (s.fld (Reg.GCH_CFG_STREAM n)) c.fit
  let alpha := comp v 1
  let delta := max 0 (comp v 2)
  let s1 := ((s.setSfld (Reg.GCH_MP_MP_CORR n) (satI 8 (comp v 0 / 2 ^ 12))).setFld (Reg.GCH_MP_MP_ALPHA n) (satU 8 (alpha / 2 ^ 12).toNat)).setFld
    (Reg.GCH_MP_MP_DELAY n) (satU 6 (delta / 2 ^ 15).toNat)
  let s2 := s1.setBit (Reg.GCH_MP_CONVERGED n) (decide ((comp v 3).natAbs < 2 ^ 10))
  (s2.setBit (Reg.GCH_MP_MP_FLAG n) (decide ((s.fld Reg.BB_CTRL_MP_THR : Int) * 2 ^ 12 ≤ alpha) && decide (2 ^ 15 ≤ delta))).setChan n
    { c with fit := [comp v 0, alpha, delta] }

/-- R69: a satellite newly in TRACK starts its other allocated signals on the same port in PULLIN. -/
def State.crossAid (s : State) (n : Nat) : State :=
  if s.on Reg.BB_CTRL_XAID then
    let me := (s.reg (0x420004 + 256 * n)).toNat
    let others := ((s.regs.filter (fun e => inRange 0x420000 0x460000 e.1 && decide (e.1 % 256 = 4))).map
      (fun e => ((e.1 - 0x420000) / 256, e.2.toNat))).filter (fun e =>
        decide (e.1 ≠ n) && (decide (bitsOf e.2 0 2 = bitsOf me 0 2) && (decide (bitsOf e.2 9 8 = bitsOf me 9 8) &&
          (decide (sigSystem (bitsOf e.2 4 5) = sigSystem (bitsOf me 4 5)) && (!bit e.2 27 &&
            (decide (bitsOf e.2 4 5 ≠ 4) || decide (bitsOf me 4 5 = 3)))))))
    others.foldl (fun s e =>
      if s.fld (Reg.GCH_STATE_STATE e.1) = chIdle ∧ s.bankWorks e.1 then
        (if s.carrierOk e.2 then s.startFrom e.1 n else s.raise (Reg.GCH_EVENT_CFG_ERR e.1))
      else s) s
  else s

/-- SLIP on a channel invalidates the baselines that use its port (R95). -/
def State.slipBaselines (s : State) (n : Nat) : State :=
  let p := s.fld (Reg.GCH_CFG_PORT n)
  s.setBaselines (if s.fld (Reg.ANT_ROLE_ROLE p) = 1 then [] else s.po.baselines.filter (fun b => b.1 ≠ p))

/-- SLIP of channel `n` (Table 3.2, R77). -/
def State.slip (s : State) (n : Nat) : State :=
  ((s.setChan n { s.chan n with slip := true }).raise (Reg.GCH_EVENT_SLIP n)).slipBaselines n

/-- R75, R79: the integration period in use, ms: INT_MS only after sync, 1 for a moved channel. -/
def State.intMs (s : State) (n : Nat) : Nat :=
  if s.on (Reg.GCH_STATE_BIT_SYNC n) && !(s.chan n).moved then max 1 (s.fld (Reg.GCH_CFG_INT_MS n)) else 1

/-- R75: discriminators, carrier filter and code NCO over one period (Table 3.3); the FLL assists in PULLIN, and in TRACK with FLL_TRACK. In a
channel's first period, with no prompt before it, the FLL error is 0 (DESIGN CHOICE, log 24). -/
def State.loopFilter (s : State) (n : Nat) : State :=
  let c := s.chan n
  let g := s.chanSignal n
  let p := s.tap n 1
  let bf := s.fld (Reg.GCH_LOOP_BN_FLL n)
  let assist := s.fld (Reg.GCH_STATE_STATE n) = chPullin ∨ (bf ≠ 0 ∧ s.on (Reg.GCH_LOOP_FLL_TRACK n))
  let q := Config.quotZero s.free
  let ef := match c.prompts with
    | a :: _ => (fllError a p (s.intMs n)).getD q
    | [] => 0
  let r := carrierFilter c.x1 c.x2 ((pllError g.pilot p).getD q) ef (s.fld (Reg.GCH_LOOP_BN_PLL n)) (if assist then bf else 0) (s.intMs n)
  let fc := r.2.2 + loopDev s.free
  let fk := s.codeOutput n fc ((dllError g.boc (s.fld (Reg.GCH_TAPS_EL n)) (s.tap n 0) (s.tap n 2)).getD q) + loopDev (s.free + 1)
  let s1 := s.tick.tick.ncoRun n
  (s1.setChan n { s1.chan n with x1 := r.1, x2 := r.2.1 }).ncoSet n fc fk

/-- R75: the loop update of a channel in PULLIN or TRACK at the end of a period. -/
def State.loopUpdate (s : State) (n : Nat) (sync : Bool) : State :=
  let p := s.tap n 1
  let s0 := s.loopFilter n
  let c := s0.chan n
  let ps := (p :: c.prompts).take 20
  let was := s.on (Reg.GCH_STATE_PLL_LOCK n)
  let lock := lockDetect was ps
  let c1 := { c with prompts := ps, lockRun := if lock then c.lockRun + 1 else 0, lockFt := if lock && !was then s.ft else c.lockFt }
  let s1 := ((s0.tick.setChan n c1).setBit (Reg.GCH_STATE_PLL_LOCK n) lock).setFld (Reg.GCH_STATE_CN0 n) (Config.cn0 s0.free)
  let s2 := (if sync then s1.setFld (Reg.GCH_STATE_BIT_SYNC n) 1 else s1).noteLock
  let pilot := s2.pilot (s2.fld (Reg.GCH_CFG_SIG n))
  let regained := s2.fld (Reg.GCH_STATE_STATE n) = chTrack ∧ lock ∧ ¬ was
  let s3 := if (pilot ∧ p.i < 0) ∨ regained then s2.slip n else s2
  if s3.fld (Reg.GCH_STATE_STATE n) = chPullin then
    let ready := if c1.moved then decide (5 ≤ c1.lockRun)
      else decide (50 ≤ c1.lockRun) && (pilot || (decide (s3.fld (Reg.GCH_CFG_INT_MS n) ≤ 1) || s3.on (Reg.GCH_STATE_BIT_SYNC n)))
    if ready then ((s3.setChan n { s3.chan n with moved := false }).chanTo n chTrack).crossAid n else s3
  else
    let s4 := s3.estimate n
    if ¬ lock ∧ s4.fld (Reg.GCH_ACQ_CN0_MIN n) ≤ s4.fld (Reg.GCH_STATE_CN0 n) then
      let s5 := s4.slip n
      let r := s5.ncoAt n s5.ft
      (s5.setChan n { s5.chan n with carrPh := 0, codePh := r.2, ncoFt := tadd (s5.chan n).ncoFt (tdiff s5.ft (s5.chan n).ncoFt / 80 * 80) }).chanTo
        n chPullin
    else s4

/-- R75: the end of channel `n`'s integration period; none without samples (R63). In a takeover, and without a lane, no loop update occurs
and the channel coasts (R80). -/
def State.periodEnd (s : State) (n : Nat) (sums : List Tap) (sync neg : Bool) : State :=
  let st := s.fld (Reg.GCH_STATE_STATE n)
  if n < s.variant.channels ∧ s.on Reg.BB_STATUS_BB_ON ∧ st ≠ chIdle ∧ s.on (Reg.AS_STAT_ALIGNED (s.fld (Reg.GCH_CFG_PORT n))) then
    let s1 := s.latchTaps n sums neg
    if s.holdsBack then s1
    else if st = chPullin ∨ st = chTrack then s1.loopUpdate n sync
    else s1.dwell n
  else s

/-- R80: CH_STATE.COAST reads 1 through a takeover on the channels that run. -/
def State.coastAll (s : State) (b : Bool) : State :=
  (s.chansWhere (fun w => decide (w % 8 ≠ chIdle) || bit w 5)).foldl (fun s n => s.setBit (Reg.GCH_STATE_COAST n) (b && decide (s.fld (Reg.GCH_STATE_STATE n) ≠ chIdle))) s

/-- Table 3.2: no PLL lock within 1 s of PULLIN. -/
def State.pullinTimeout (s : State) (n : Nat) : State :=
  if s.fld (Reg.GCH_STATE_STATE n) = chPullin ∧ ¬ s.on (Reg.GCH_STATE_PLL_LOCK n) then s.chanTo n chAcquire else s

/-- Table 3.2: C/N0 below CN0_MIN for 1 s. -/
def State.cn0Timeout (s : State) (n : Nat) : State :=
  let st := s.fld (Reg.GCH_STATE_STATE n)
  if (st = chPullin ∨ st = chTrack) ∧ s.fld (Reg.GCH_STATE_CN0 n) < s.fld (Reg.GCH_ACQ_CN0_MIN n) then s.chanTo n chLost else s

/-- Table 3.2: 10 s in LOST. -/
def State.lostTimeout (s : State) (n : Nat) : State :=
  if s.fld (Reg.GCH_STATE_STATE n) = chLost then (s.chanTo n chIdle).raise (Reg.GCH_EVENT_LOST n) else s

/-- One observable record of channel `n` at epoch `te` (Table 3.4): NCO phases at the epoch carried back by the port's delay, the code phase
within the primary code, with tau0 as the estimator found it when it applies (R72). -/
def State.obsRecord (s : State) (te : Time) (n : Nat) : List Byte :=
  let c := s.chan n
  let conv := s.on (Reg.GCH_MP_CONVERGED n)
  let used := s.on Reg.BB_CTRL_MP_APPLY && conv
  let r := s.ncoAt n (tadd te (-(80 * Config.portDelay (s.fld (Reg.GCH_CFG_PORT n)) : Nat)))
  let per : Int := ((s.chanSignal n).length * 2 ^ 32 : Nat)
  let ph : Int := ((r.2 : Int) + (if used then comp c.fit 0 * 2 ^ 12 else 0)) % per / 2 ^ 20
  let lockS := if s.on (Reg.GCH_STATE_PLL_LOCK n) then satU 8 ((tdiff te c.lockFt).toNat / 8000000000) else 0
  let flags := b2n (s.on (Reg.GCH_STATE_PLL_LOCK n)) + 2 * b2n (s.pilot (s.fld (Reg.GCH_CFG_SIG n))) + 4 * b2n c.slip +
    8 * b2n (s.on (Reg.GCH_STATE_BIT_SYNC n)) + 16 * b2n (s.on (Reg.GCH_MP_MP_FLAG n)) + 32 * b2n used +
    64 * b2n (s.on (Reg.GCH_STATE_COAST n)) + 128 * b2n c.moved + 256 * s.fld (Reg.GCH_MP_MP_CORR n)
  leBytes 8 te.toNat ++ leBytes 2 (n + 1024 * s.fld (Reg.GCH_CFG_PORT n) + 4096 * s.fld (Reg.GCH_CFG_STREAM n)) ++
    leBytes 1 (s.fld (Reg.GCH_CFG_SIG n)) ++ leBytes 1 (s.fld (Reg.GCH_CFG_SV n)) ++ leBytes 4 (unsx 32 ph) ++
    leBytes 8 (unsx 64 (r.1 / 2 ^ 8)) ++ leBytes 4 (unsx 32 (s.dopplerOf n)) ++ leBytes 1 (s.fld (Reg.GCH_STATE_CN0 n)) ++ leBytes 1 lockS ++
    leBytes 2 flags

/-- R76, R80: the record of a channel whose INT_MS divides the epoch; inside a takeover it is kept until the end. -/
def State.observe (s : State) (te : Time) (n : Nat) : State :=
  if te.toNat % (s.fld (Reg.GCH_CFG_INT_MS n) * 8000000) = 0 then
    let bs := s.obsRecord te n
    let s1 := if s.holdsBack then { s with gn := { s.gn with heldObs := s.gn.heldObs ++ [bs] } }
      else s.streamRole Reg.CTX_PERM_GNSS_CONSUMER 1 bs
    (s1.count 0x0A0 1).setChan n { s1.chan n with slip := false }
  else s

/-- R76: a record of every channel in TRACK. -/
def State.observeAll (s : State) (te : Time) : State :=
  (s.chansWhere (fun w => w % 8 == chTrack)).foldl (fun s n => s.observe te n) s

/-- R80: the records kept in a takeover are delivered. -/
def State.releaseObs (s : State) : State :=
  s.gn.heldObs.foldl (fun s bs => s.streamRole Reg.CTX_PERM_GNSS_CONSUMER 1 bs) { s with gn := { s.gn with heldObs := [] } }

/-- R77: a hard symbol of a channel in TRACK; 128 make a record. -/
def State.symbol (s : State) (e : SymIn) : State :=
  if s.fld (Reg.GCH_STATE_STATE e.chan) = chTrack then
    let c := s.chan e.chan
    let s1 := s.setChan e.chan { c with symbols := c.symbols ++ [e.one], symFt := if c.symbols.isEmpty then e.start else c.symFt }
    if c.symbols.length + 1 < 128 then s1 else s1.sendSymbols e.chan
  else s

/-- Calendar time from GNSS (R46): (GNSS time - LEAP_S) + 315,964,800 s; held during an inserted leap second. DESIGN CHOICE (log 24): it is
first set at a measurement epoch after GNSS_OFS has been written. -/
def State.calFromGnss (s : State) : State :=
  if s.on Reg.TB_CTRL_CAL_SRC ∨ ¬ s.tb.ofsWritten ∨ s.on Reg.CAL_HI_LEAP_NOW then s
  else
    let t := (s.ft + s.tb.ofs).toNat
    let sec := t / 8000000000 + 315964800 - s.fld Reg.LEAP_LEAP_S
    { s.setFld Reg.TB_STATUS_CAL_VALID 1 with tb := { s.tb with calSec := sec, calFrac := t % 8000000000, calFt := s.ft } }

/-- R82: where the part keeps the leap data in the retained area: a word whose top bit tells that it holds any (log 25). -/
abbrev leapWord : Nat := 12291

/-- R46, R78, R82: leap parameters from the navigation message, with CAL_SRC GNSS; they are kept in the retained area too. -/
def State.takeLeap (s : State) (l : LeapIn) : State :=
  if s.on Reg.TB_CTRL_CAL_SRC then s
  else
    let cal := s.calNow
    let s1 := { s with tb := { s.tb with calSec := cal.1, calFrac := cal.2, calFt := s.ft } }
    let s2 := (((s1.setFld Reg.LEAP_LEAP_S l.leapS).setFld Reg.LEAP_LEAP_NEXT l.leapNext).setBit Reg.LEAP_LEAP_PEND l.pend).setBit
      Reg.CAL_HI_LEAP_NOW l.leapNow
    { s2 with gn := { s2.gn with retained := sset (fun _ => 0) s2.gn.retained leapWord (s2.reg 0x41002C ||| 0x80000000) } }

/-- R60, R82: LEAP_S from the retained data at start, 18 if there are none. -/
def State.loadLeap (s : State) : State :=
  let w := (sget (fun _ => 0) s.gn.retained leapWord).toNat
  if bit w 31 then s.setFld Reg.LEAP_LEAP_S (w % 256) else s

/-- R79: a fault of the spare bank, bank 16: it serves no longer, and the channels it holds go to IDLE. DESIGN CHOICE (log 24): FENCED has no
bit for it, and SPARE_USED stays as it is. -/
def State.spareFault (s : State) : State :=
  let mine := (s.chansWhere (fun w => w % 8 != chIdle)).filter (fun n =>
    s.on Reg.BANK_STAT_SPARE_USED && decide (n / 64 = s.fld Reg.BANK_STAT_SPARE_FOR))
  let s1 := ({ s with gn := { s.gn with spareOut := true } } : State).raise Reg.BANK_STAT_BANK_EVENT
  ((mine.foldl (fun s n => (s.chanTo n chIdle).raise (Reg.GCH_EVENT_BANK_FAULT n)) s1).recountTracking).canvas 1 0x0046
    (leBytes 1 16 ++ leBytes 1 0)

/-- R79: a bank fault fences the bank; the first one moves its channels to the spare, a further one sends them to IDLE. DESIGN CHOICE (log 24):
channels that are IDLE stay IDLE without MOVED, and those in ACQUIRE or LOST run PULLIN with the others. -/
def State.bankFault (s : State) (b : Nat) : State :=
  if b = 16 then (if s.variant = .l1024 ∨ s.gn.spareOut then s else s.spareFault)
  else if b * 64 < s.variant.channels ∧ ¬ s.fbit Reg.BANK_STAT_FENCED b then
    let spare := s.on Reg.BANK_STAT_SPARE_USED || s.gn.spareOut
    let s1 := (s.setFbit Reg.BANK_STAT_FENCED b true).raise Reg.BANK_STAT_BANK_EVENT
    let mine := (s.chansWhere (fun w => w % 8 != chIdle)).filter (fun n => decide (n / 64 = b))
    let s2 := if spare then
        mine.foldl (fun s n => (s.chanTo n chIdle).raise (Reg.GCH_EVENT_BANK_FAULT n)) s1
      else
        mine.foldl (fun s n =>
          let s' := (s.chanTo n chPullin).raise (Reg.GCH_EVENT_MOVED n)
          s'.setChan n { s'.chan n with moved := true })
          ((s1.setFld Reg.BANK_STAT_SPARE_USED 1).setFld Reg.BANK_STAT_SPARE_FOR b)
    (s2.recountTracking).canvas 1 0x0046 (leBytes 1 b ++ leBytes 1 (b2n (!spare)))
  else s

/-- R82: the retained position and allocation state rewritten: the configuration word of every channel, zero for an IDLE one, in the
allocation area that follows the 384 aiding records (log 25). -/
def State.gnssWrite (s : State) : State :=
  let pos := s.po.pos.map (fun v => BitVec.ofInt 32 v)
  let cfg := (List.range s.variant.channels).map (fun n =>
    if s.fld (Reg.GCH_STATE_STATE n) = chIdle then 0 else s.reg (0x420004 + 256 * n))
  if s.variant = .l1024 then s
  else { s with gn := { s.gn with retained := ssetMany (fun _ => 0) (ssetMany (fun _ => 0) s.gn.retained 12288 pos) 12304 cfg } }

/-- R82: every 30 s, while at least 4 channels track. -/
def State.gnssSave (s : State) : State := if 4 ≤ s.fld Reg.BB_STATUS_TRACKING then s.gnssWrite else s

end Sys2Proof.Machine
end

