-- ==== Sys2Proof/Machine/Timebase.lean ====
section
/-! DEFINITION. Field time and the timebase (chapter 2): states and transitions, trim and discipline, calendar, frame
configuration, SYNCOUT and REFOUT. Frames themselves and the follower's alignment are in Frames.lean. -/

namespace Sys2Proof.Machine

/-- Timebase states (Table 2.1). -/
abbrev tbStarting : Nat := 0
abbrev tbLocked : Nat := 1
abbrev tbHoldover : Nat := 2
abbrev tbDrift : Nat := 3
abbrev tbIosc : Nat := 4

def State.tbState (s : State) : Nat := s.fld Reg.TB_STATUS_STATE

/-- R40: FT counts in every state but STARTING. -/
def State.ftCounts (s : State) : Bool := decide (s.tbState ≠ tbStarting)

/-- R42: one 1 ns timebase cycle. -/
def State.ftStep (s : State) : State :=
  let a := s.tb.acc + 8 * s.sfld Reg.DISC_TRIM_TRIM
  let r : Nat × Int := if 1000000000 ≤ a then (9, a - 1000000000) else (8, a)
  let r2 : Nat × Int := if r.2 ≤ -1000000000 then (7, r.2 + 1000000000) else r
  { s with ft := s.ft + BitVec.ofNat 64 r2.1, tb := { s.tb with acc := r2.2 } }

/-- A change of timebase state (R39): events, the Canvas record with old state, new state and the row of Table 2.2, and what
Table 2.1 says of REFOUT and the baseband in the new state. `relock` tells that the PLL relocks. -/
def State.tbTo (s : State) (st row : Nat) (relock : Bool) : State :=
  let old := s.tbState
  let s1 := (s.setFld Reg.TB_STATUS_STATE st).setBit Reg.TB_STATUS_PLL_LOCK (decide (st ≠ tbHoldover) && decide (st ≠ tbStarting))
  let s2 := if relock ∨ st = tbIosc then s1.setFld Reg.TB_STATUS_REFOUT_ON 0 else s1
  let s3 := (s2.raiseIf (st == tbHoldover) Reg.TB_EVENT_HOLDOVER).raiseIf (st == tbDrift || st == tbIosc) Reg.TB_EVENT_DEGRADED
  let s4 := s3.raiseIf (st == tbLocked && old != tbStarting) Reg.TB_EVENT_RECOVERED
  let s5 := { s4 with tb := { s4.tb with comply := 0, secBad := s4.tb.secBad || relock || st == tbHoldover || st == tbIosc } }
  let s6 := if st = tbHoldover ∨ st = tbIosc then (s5.setFld Reg.TB_STATUS_DISC_ACT 0).setFld Reg.TB_STATUS_MEAS_VALID 0 else s5
  let s7 := s6.canvas 0 0x0020 (leBytes 1 old ++ leBytes 1 st ++ leBytes 1 row ++ leBytes 1 0 ++ leBytes 4 (s6.reg 0x410018).toNat)
  if st = tbIosc then s7.bbStop else if st = tbLocked ∧ (old = tbStarting ∨ old = tbIosc) then s7.bbStart else s7

/-- R37, R39: REFIN silent for 200 ns, or PLL lock lost. -/
def State.refinLost (s : State) : State :=
  let s1 := ({ s with tb := { s.tb with refinSince := none } }.setFld Reg.TB_STATUS_REFIN_ACT 0).raiseIf (s.on Reg.TB_STATUS_REFIN_ACT || s.tbState == tbLocked || s.tbState == tbDrift)
    Reg.TB_EVENT_REFIN_LOST
  if s.tbState = tbLocked ∨ s.tbState = tbDrift then s1.tbTo tbHoldover 3 false
  else { s1 with tb := { s1.tb with secBad := true } }

/-- R37: REFIN counts as active: at least 64 rising edges within 10 µs, within ±1 % of 25.000 MHz against IOSC. -/
def refinGood (edges freq : Nat) : Bool := decide (64 ≤ edges) && (decide (24750000 ≤ freq) && decide (freq ≤ 25250000))

/-- R37: REFIN is active from here on. -/
def State.refinSeen (s : State) : State :=
  { s.setFld Reg.TB_STATUS_REFIN_ACT 1 with tb := { s.tb with refinSince := some (s.tb.refinSince.getD s.ft) } }

/-- R39: REFIN has been active for 1 ms without interruption. -/
def State.refinHeld (s : State) : Bool := s.tb.refinSince.any (fun t => decide (8000000 ≤ tdiff s.ft t))

/-- R37, R39: one measurement of REFIN: a good one makes it active, and after 1 ms of it the PLL relocks. -/
def State.refinActive (s : State) (edges freq : Nat) : State :=
  if ¬ refinGood edges freq then s
  else
    let s1 := s.refinSeen
    if s1.refinHeld ∧ s.tbState = tbHoldover then s1.tbTo tbLocked 4 true
    else if s1.refinHeld ∧ s.tbState = tbIosc ∧ s.on Reg.TB_CTRL_AUTO_RETURN then s1.tbTo tbLocked 8 true
    else s1

/-- R39, R40: the PLL first locks after reset release: to REFIN if it is active, else to IOSC; FT counts from 0. -/
def State.pllLock (s : State) : State :=
  if s.tbState = tbStarting then
    if s.on Reg.TB_STATUS_REFIN_ACT then s.tbTo tbLocked 1 true else s.tbTo tbIosc 2 true
  else s

/-- Table 2.2: REFIN not active 20 ms after reset release. -/
def State.refinStartTimeout (s : State) : State :=
  if s.tbState = tbStarting ∧ ¬ s.on Reg.TB_STATUS_REFIN_ACT then s.tbTo tbIosc 2 true else s

/-- Table 2.2: 100 ms in HOLDOVER without REFIN. -/
def State.holdoverTimeout (s : State) : State :=
  if s.tbState = tbHoldover ∧ ¬ s.on Reg.TB_STATUS_REFIN_ACT then s.tbTo tbIosc 5 true else s

/-- R44: the present second's measurement is valid. -/
def State.measValid (s : State) : Bool :=
  !s.tb.secBad && (decide (4 ≤ s.lockedChans) && ((s.tbState == tbLocked || s.tbState == tbDrift) && s.on Reg.TB_STATUS_REFIN_ACT))

/-- R43, R54: the source that trims now: 1 GNSS, 2 SYNCIN, 0 none. An aligned follower disciplines with SYNCIN; after SYNC_LOST the trim
holds. DESIGN CHOICE (log 23): every source stops outside LOCKED and DEGRADED_DRIFT, SYNCIN too, for which the rule names no state. -/
def State.discSource (s : State) : Nat :=
  if ¬ (s.tbState = tbLocked ∨ s.tbState = tbDrift) then 0
  else if s.on Reg.TB_CTRL_FOLLOWER ∧ s.tb.aligned then (if s.tb.errs.isEmpty then 0 else 2)
  else if s.on Reg.TB_CTRL_FOLLOWER ∧ s.tb.syncLost then 0
  else if s.fld Reg.TB_CTRL_DISC_SRC = 1 then (if 4 ≤ s.lockedChans then 1 else 0)
  else if s.fld Reg.TB_CTRL_DISC_SRC = 2 then (if s.tb.errs.isEmpty then 0 else 2)
  else 0

/-- R43: the trim after a second with frequency offset `y` and phase error `e`; the division is C's. -/
def trimNew (trim y e : Int) : Int := clampI (-5000) 5000 (trim - y - e.tdiv 80)

/-- R43: the measurement epoch at which the present second of discipline ends: an FT multiple of 8,000,000,000. -/
def State.secondEnd (s : State) : Time := s.ft - BitVec.ofNat 64 (s.ft.toNat % 8000000000)

/-- R43: the phase error of the second. DESIGN CHOICE (log 23): the mean of SYNCIN_ERR is cut to ticks towards zero. -/
def State.phaseErr (s : State) (src : Nat) (gnssTime : Time) : Int :=
  if src = 1 then (if s.tb.ofsWritten then tdiff (s.secondEnd + s.tb.ofs) gnssTime else 0)
  else if src = 2 then (s.tb.errs.foldl (· + ·) 0).tdiv s.tb.errs.length
  else 0

/-- R44: REF_MEAS, REF_DRIFT and the drift checks of one second; `raw` is y - trim. -/
def State.driftCheck (s : State) (raw : Int) : State :=
  if s.measValid then
    let hist := s.tb.refHist
    let past := hist.getD 59 none
    let fresh := decide (60 ≤ hist.length) && hist.all Option.isSome
    let earlier := past.getD 0
    let m := satI 20 raw
    let s1 := (s.setSfld Reg.REF_MEAS_OFFSET m).setFld Reg.TB_STATUS_MEAS_VALID 1
    let s2 := if fresh then s1.setSfld Reg.REF_DRIFT_DRIFT (satI 20 (m - earlier)) else s1
    let drift := s2.sfld Reg.REF_DRIFT_DRIFT
    let c0 := if (hist.getD 0 (some 0)).isSome then s.tb.comply else 0
    let c1 := if fresh then (if m.natAbs ≤ 4000 ∧ drift.natAbs ≤ 400 then c0 + 1 else 0) else c0
    let s3 := { s2 with tb := { s2.tb with refHist := (some m :: hist).take 60, comply := if s.tbState = tbDrift then c1 else 0 } }
    let s4 := s3.raiseIf (decide (1000 < m.natAbs)) Reg.TB_EVENT_OFS_WARN
    if s4.tbState = tbLocked ∧ (5000 < m.natAbs ∨ (fresh ∧ 500 < drift.natAbs)) then s4.tbTo tbDrift 6 false else s4
  else
    { s.setFld Reg.TB_STATUS_MEAS_VALID 0 with tb := { s.tb with refHist := (none :: s.tb.refHist).take 60 } }

/-- R43, R44: the end of a second of discipline. -/
def State.discipline (s : State) (yGnss ySync : Int) (gnssTime : Time) : State :=
  if s.ftCounts then
    let trim := s.sfld Reg.DISC_TRIM_TRIM
    let src := s.discSource
    let y := if src = 2 then ySync else yGnss
    let s1 := s.driftCheck (yGnss - trim)
    let s2 := if src = 0 then s1 else s1.setSfld Reg.DISC_TRIM_TRIM (trimNew trim y (s.phaseErr src gnssTime))
    let s3 := s2.setFld Reg.TB_STATUS_DISC_ACT src
    ({ s3 with tb := { s3.tb with errs := [], secBad := false } }).noteLock
  else s

/-- Table 2.2: 60 counted seconds of compliance. -/
def State.driftCompliance (s : State) : State :=
  if s.tbState = tbDrift ∧ 60 ≤ s.tb.comply then s.tbTo tbLocked 7 false else s

/-- R55: REFOUT may run: locked to REFIN and enabled. -/
def State.refoutReenable (s : State) : State :=
  if s.on Reg.TB_CTRL_REFOUT_EN ∧ s.on Reg.TB_STATUS_PLL_LOCK ∧ (s.tbState = tbLocked ∨ s.tbState = tbDrift) then
    s.setFld Reg.TB_STATUS_REFOUT_ON 1
  else s

/-- R54: three consecutive expected pulses missing or rejected. -/
def State.syncLoss (s : State) : State :=
  if s.on Reg.TB_CTRL_FOLLOWER ∧ s.tb.aligned then
    let s1 := (s.raise Reg.TB_EVENT_SYNC_LOST).setFld Reg.TB_STATUS_SYNC_LOCK 0
    { s1 with tb := { s1.tb with aligned := false, missed := 0, syncLost := true, errs := [] } }
  else s

/-- A write of TB_CTRL (R39, R44, R54, R55, R59). -/
def State.tbCtrlWrite (s : State) (v : Nat) : State :=
  let src := bitsOf v 0 2
  if src = 3 ∨ (src = 1 ∧ s.variant = .l1024) then s.raise Reg.TB_EVENT_CFG_ERR
  else
    let auto := s.on Reg.TB_CTRL_AUTO_RETURN
    let fol := s.on Reg.TB_CTRL_FOLLOWER
    let s1 := s.writeCodes 0x410004 v
    let s2 := if s1.on Reg.TB_CTRL_REFOUT_EN then s1 else s1.setFld Reg.TB_STATUS_REFOUT_ON 0
    let s3 := if fol ∧ ¬ s2.on Reg.TB_CTRL_FOLLOWER then
        { s2.setFld Reg.TB_STATUS_SYNC_LOCK 0 with tb := { s2.tb with aligned := false, missed := 0, syncLost := false, errs := [] } }
      else s2
    let s4 := if ¬ auto ∧ s3.on Reg.TB_CTRL_AUTO_RETURN ∧ s3.on Reg.TB_STATUS_REFIN_ACT ∧ s3.tbState = tbIosc then
      s3.tbTo tbLocked 8 true else s3
    if bit v 6 ∧ s4.tbState = tbDrift then s4.tbTo tbLocked 9 false else s4

/-- R45: a staged GNSS offset comes into force. -/
def State.takeOfs (s : State) : State :=
  match s.tb.ofsStaged with
  | some o => { s with tb := { s.tb with ofs := o, ofsStaged := none } }
  | none => s

/-- R45: writing GNSS_OFS_HI stages both halves; at once when no frames run. -/
def State.ofsHiWrite (s : State) (v : Nat) : State :=
  let s1 := s.setReg 0x410014 (BitVec.ofNat 32 v)
  let s2 := { s1 with tb := { s1.tb with ofsStaged := some (BitVec.ofNat 64 (s1.reg64 0x410010)), ofsWritten := true } }
  if s2.tb.framesOn then s2 else s2.takeOfs

/-- R46: writing CAL_HI sets the calendar count when CAL_SRC is host. -/
def State.calSet (s : State) (v : Nat) : State :=
  if s.on Reg.TB_CTRL_CAL_SRC then
    { s.setFld Reg.TB_STATUS_CAL_VALID 1 with
      tb := { s.tb with calSec := (s.reg 0x410024).toNat + 2 ^ 32 * (v % 256), calFrac := 0, calFt := s.ft } }
  else s

/-- R48: the first pose epoch after the present field time. -/
def State.epochAfter (s : State) : Time := s.ft + BitVec.ofNat 64 (400000 - s.ft.toNat % 400000)

/-- R51: PERIOD and HORIZON within range. -/
def frmCfgLegal (v : Nat) : Bool := inRange 10 81 (bitsOf v 0 7) && inRange 50 4001 (bitsOf v 7 12)

/-- A write in the timebase block (R60, R473); only the supervisor's reaches here. -/
def State.tbWrite (s : State) (a v : Nat) : State :=
  if a = 0x410004 then s.tbCtrlWrite v
  else if a = 0x410014 then s.ofsHiWrite v
  else if a = 0x410028 then s.calSet v
  else if a = 0x41002C then (if s.on Reg.TB_CTRL_CAL_SRC then s.writeCodes a v else s)
  else if a = 0x410030 then (if frmCfgLegal v then s.writeCodes a v else s.raise Reg.TB_EVENT_CFG_ERR)
  else if a = 0x410044 then
    (if bitsOf v 0 2 ≠ 3 ∧ 1 ≤ bitsOf v 2 8 then s.writeCodes a v else s.raise Reg.TB_EVENT_CFG_ERR)
  else s.writeCodes a v

/-- The timebase words the part computes when they are read: FT and the calendar count. -/
def State.tbRead (s : State) (a : Nat) : Option Nat :=
  if a = 0x410008 then some (s.ft.toNat % 2 ^ 32)
  else if a = 0x41000C then some (s.ft.toNat / 2 ^ 32)
  else if a = 0x410024 then some (s.calNow.1 % 2 ^ 32)
  else if a = 0x410028 then some (s.calNow.1 / 2 ^ 32 + 256 * s.fld Reg.CAL_HI_LEAP_NOW)
  else none

/-- R53: the fixed pad delay in ticks: 2.2 to 3.1 ns (chapter 19). -/
def padTicks : Nat := 18 + Config.padDelay % 7

/-- R53: a SYNCOUT pulse at reference time `t`, in the mode that pulses there (1 frame, 2 super-period): its leading edge after the pad delay,
its end SO_WIDTH × 100 ns later. -/
def State.syncPulse (s : State) (mode : Nat) (t : Time) : State :=
  if s.fld Reg.SYNC_CFG_SO_MODE = mode then
    let a := tadd t padTicks
    { s with tb := { s.tb with syncOut := some (a, tadd a (800 * s.fld Reg.SYNC_CFG_SO_WIDTH)) } }
  else s

end Sys2Proof.Machine
end

