-- ==== Sys2Proof/Machine/Pose.lean ====
section
/-! DEFINITION. Pose propagation (chapter 4): rotation, fixes, states, confidence, deflection, IMU port, speed input, the epoch
record. The fusion itself is free where the spec gives no algorithm. -/

namespace Sys2Proof.Machine

/-- Propagator states (Table 4.1). -/
abbrev poOff : Nat := 0
abbrev poWait : Nat := 1
abbrev poCpv : Nat := 2
abbrev poSpd : Nat := 3
abbrev poImu : Nat := 4
abbrev poInvalid : Nat := 5

/-- R86: the limit of a position axis, 0.1 mm. -/
abbrev posLimit : Int := 549755813

/-- R93: femtometres per 0.1 mm. -/
abbrev fmUnit : Int := 100000000000

def State.poState (s : State) : Nat := s.fld Reg.POSE_STATUS_STATE

/-- NAV_CPV, NAV_SPD or NAV_IMU (Table 4.1: VALID 1). -/
def navState (st : Nat) : Bool := st == poCpv || st == poSpd || st == poImu

/-- The matrix R(q) in units of 2^-36 (R88). -/
def rotMatrix (q : List Int) : List (List Int) :=
  let q0 := comp q 0
  let q1 := comp q 1
  let q2 := comp q 2
  let q3 := comp q 3
  [[2 ^ 36 - 2 * (q2 * q2 + q3 * q3), 2 * (q1 * q2 - q0 * q3), 2 * (q1 * q3 + q0 * q2)],
   [2 * (q1 * q2 + q0 * q3), 2 ^ 36 - 2 * (q1 * q1 + q3 * q3), 2 * (q2 * q3 - q0 * q1)],
   [2 * (q1 * q3 - q0 * q2), 2 * (q2 * q3 + q0 * q1), 2 ^ 36 - 2 * (q1 * q1 + q2 * q2)]]

/-- rot(q, v): the exact sum, floored, at the width of v, 20 bits (R88, R17). -/
def rotW (w : Nat) (q v : List Int) : List Int :=
  (rotMatrix q).map (fun m => sx w (unsx w ((comp m 0 * comp v 0 + comp m 1 * comp v 1 + comp m 2 * comp v 2) / 2 ^ 36)))

/-- R88: rot() of an int20 vector. -/
def rot (q v : List Int) : List Int := rotW 20 q v

/-- The inverse rotation, field frame to body frame (R106), with the same flooring. -/
def rotInv (q v : List Int) : List Int :=
  let m := rotMatrix q
  [0, 1, 2].map (fun i => (comp (m.getD 0 []) i * comp v 0 + comp (m.getD 1 []) i * comp v 1 + comp (m.getD 2 []) i * comp v 2) / 2 ^ 36)

def vadd (a b : List Int) : List Int := [comp a 0 + comp b 0, comp a 1 + comp b 1, comp a 2 + comp b 2]
def vsub (a b : List Int) : List Int := [comp a 0 - comp b 0, comp a 1 - comp b 1, comp a 2 - comp b 2]
def dot (a b : List Int) : Int := comp a 0 * comp b 0 + comp a 1 * comp b 1 + comp a 2 * comp b 2

/-- R88: q0 is not negative and the norm lies within 2^-16 of 1. -/
def quatOk (q : List Int) : Bool :=
  let n := comp q 0 * comp q 0 + comp q 1 * comp q 1 + comp q 2 * comp q 2 + comp q 3 * comp q 3
  decide (0 ≤ comp q 0) && decide ((n - 2 ^ 36).natAbs ≤ 2 ^ 20)

/-- A free quaternion that keeps R88; where the free one would not, the former stands. `g` tells that gravity holds roll and pitch. -/
def State.freeQuat (s : State) (old : List Int) (g : Bool) : State × List Int :=
  let q := [0, 1, 2, 3].map (fun i => Config.quat s.free i g)
  (s.tick, if quatOk q then q else old)

/-- A quaternion in 2^-60 brought to norm 1, scalar part not negative, and to the nearest 2^-18 (R88). -/
def quatRound (q : List Int) : List Int :=
  let n : Int := max 1 (isqrt (q.foldl (fun a x => a + x.natAbs ^ 2) 0))
  let sg : Int := if comp q 0 < 0 then -1 else 1
  [0, 1, 2, 3].map (fun i => (2 * sg * comp q i * 2 ^ 18 + n) / (2 * n))

/-- R93: the quaternion turned about field up until body x points to heading `h` (R91: from north towards east), roll and pitch kept; none
where body x is vertical and has no heading. -/
def headQuat (q : List Int) (h : Nat) : Option (List Int) :=
  let m := rotMatrix q
  let e := comp (m.getD 0 []) 0
  let n := comp (m.getD 1 []) 0
  if e = 0 ∧ n = 0 then none
  else
    let d := dirOf (e, n)
    let a := sx 20 h * fxTwoPi / 2 ^ 20
    let t := turnDir (fsin a, fcos a) d.1 (-d.2)
    let k := halfDir (dirOf t)
    some (quatRound (turnQuat (q.map (· * 2 ^ 42)) k.1 k.2))

def State.ant (s : State) (n : Nat) : List Int :=
  [s.sfld (Reg.ANT_X_LEVER n), s.sfld (Reg.ANT_Y_LEVER n), s.sfld (Reg.ANT_Z_LEVER n)]

def State.imuAny (s : State) : Bool := s.on Reg.POSE_STATUS_IMU0_OK || s.on Reg.POSE_STATUS_IMU1_OK

/-- Valid attitude baselines: those of chassis antennas (R96). -/
def State.attBaselines (s : State) : List (Nat × List Int) :=
  s.po.baselines.filter (fun b => decide (s.fld (Reg.ANT_ROLE_ROLE b.1) = 2))

/-- R89: at least 30 degrees from parallel and from anti-parallel: the squared cosine is at most 3/4. -/
def apart (a b : List Int) : Bool := decide (4 * (dot a b * dot a b) ≤ 3 * (dot a a * dot b b))

/-- R89: attitude is available. -/
def State.attAvailable (s : State) : Bool :=
  if s.imuAny then !s.attBaselines.isEmpty || s.po.fixHeading
  else s.po.baselines.any (fun a => s.po.baselines.any (fun b => decide (a.1 < b.1) && apart a.2 b.2))

/-- R90: the NAV state that the first valid source gives. -/
def State.navChoice (s : State) : Option Nat :=
  if s.on Reg.POSE_STATUS_CPV_OK then some poCpv
  else if s.on Reg.POSE_STATUS_SPD_OK ∧ s.imuAny then some poSpd
  else if s.imuAny then some poImu
  else none

/-- R103: CONF: the quotient truncates and the smaller of it and 0xFFFFF is held in 20 bits (R17). -/
def confOf (r : Int) : Nat := unsx 20 (min (r.tdiv fmUnit) 0xFFFFF)

def State.conf (s : State) : Nat := confOf s.po.r

/-- ATT_UNC in microradian (R104). -/
def State.attUnc (s : State) : Nat := min (s.po.attUnc / 1000000) 0xFFFFF

/-- A change of propagator state (R90): STATE_CHG, Muslin, and Canvas when INVALID is entered. -/
def State.poTo (s : State) (st : Nat) : State :=
  let old := s.poState
  if st = old then s
  else
    let s1 := ((s.setFld Reg.POSE_STATUS_STATE st).setBit Reg.POSE_STATUS_VALID (navState st)).raise Reg.POSE_EVENT_STATE_CHG
    let d := leBytes 1 old ++ leBytes 1 st ++ leBytes 2 0 ++ leBytes 4 s1.conf
    let s2 := if st = poImu then { s1 with po := { s1.po with imuSince := s1.ft - BitVec.ofNat 64 (s1.ft.toNat % 400000) } } else s1
    if st = poInvalid then s2.canvas 2 0x0021 d else s2.muslin 2 0x0021 d

/-- R90, R92, R104: the exit from OFF: the history begins, no attitude is known. -/
def State.poWake (s : State) : State :=
  if s.poState = poOff then
    let s1 := { s with po := { s.po with r := 0xFFFFF * fmUnit, j := 0, attUnc := 0xFFFFF * 1000000, hist := [], rejectRun := 0,
                                          lastStamp := none, fixHeading := false, decim := 0, coast := s.inTakeover } }
    s1.poTo poWait
  else s

/-- A write of POSE_CTRL (R90, R102). -/
def State.poCtrlWrite (s : State) (v : Nat) : State :=
  if 2000 < bitsOf v 1 11 then s.raise Reg.POSE_EVENT_CFG_ERR
  else
    let s1 := s.writeCodes 0x460000 v
    if bit v 0 then (if s1.on Reg.IMG_STATUS_ACTIVE then s1.poWake else s1) else s1.poTo poOff

/-- R92: the history's epoch at or before a stamp; the present epoch's state where the stamp is the present epoch. -/
def State.histAt (s : State) (te now : Time) : Option PoseHist :=
  if te = now then some ⟨now, s.po.pos, s.po.quat, s.po.r, s.po.vel, true, []⟩
  else s.po.hist.find? (fun h => tge te h.te)

/-- Flags an epoch's fixes leave for its record: applied, jumped. -/
abbrev FixFlags := Bool × Bool

/-- R93: a fix's heading taken over, with its uncertainty where that is smaller. -/
def State.takeHeading (s : State) (h unc : Nat) : State :=
  let fq := match headQuat s.po.quat h with
    | some q => (s, if quatOk q then q else s.po.quat)
    | none => s.freeQuat s.po.quat false
  { fq.1 with po := { fq.1.po with quat := fq.2, fixHeading := true, attUnc := min fq.1.po.attUnc (unc * 1000000) } }

/-- R93: the part of the offset that a blended fix applies, Q0.16, in 64 bits; free where its divisor is 0. -/
def State.blendOf (s : State) (rp : Int) (rad : Nat) : Int :=
  let a : Int := rp.tdiv fmUnit
  let den := wrapI 64 (a * a + (rad : Int) * rad)
  if den = 0 then Config.quotZero s.free else (wrapI 64 (a * a * 65536)).tdiv den

/-- R91–R93: one fix at the epoch `te`. DESIGN CHOICE (log 27): a fix that is both out of the history and older than the last applied one sets
FIX_STALE alone. -/
def State.applyFix (te : Time) (sf : State × FixFlags) (f : FixIn) : State × FixFlags :=
  let s := sf.1
  let age := tdiff te f.stamp
  let e0 : Time := f.stamp - BitVec.ofNat 64 (f.stamp.toNat % 400000)
  if age < 0 then (s.raise Reg.POSE_EVENT_FIX_FUTURE, sf.2)
  else if 2048000000 < age then (s.raise Reg.POSE_EVENT_FIX_STALE, sf.2)
  else match s.histAt e0 te with
  | none => (s.raise Reg.POSE_EVENT_FIX_STALE, sf.2)
  | some h =>
    if s.po.lastStamp.any (fun l => decide (tdiff f.stamp l < 0)) then (s.raise Reg.POSE_EVENT_FIX_ORDER, sf.2)
    else if posLimit < f.e.natAbs ∨ posLimit < f.n.natAbs ∨ posLimit < f.u.natAbs then (s.raise Reg.POSE_EVENT_RANGE, sf.2)
    else
      let d := (vsub [f.e, f.n, f.u] (vadd h.pos (rot h.quat (s.ant f.ant)))).map (wrapI 40)
      let rp := h.r
      let rf : Int := (f.rad : Int) * fmUnit
      let gate := d.all (fun x => decide ((x.natAbs : Int) * fmUnit ≤ wrapI 64 (3 * (rf + rp))))
      if !gate && decide (s.po.rejectRun < 2) then
        ({ s with po := { s.po with rejectRun := s.po.rejectRun + 1 } }.raise Reg.POSE_EVENT_FIX_REJECT, sf.2)
      else
        let s1 := s.raiseIf (!gate) Reg.POSE_EVENT_POS_JUMP
        let k := s.blendOf rp f.rad
        let repl := decide (rf ≤ rp) || !gate
        let p := if repl then vadd s1.po.pos d else vadd s1.po.pos (d.map (fun x => x * k / 65536))
        let r := if repl then wrapI 64 (rf + (s1.po.r - rp)) else s1.po.r
        let s2 := { s1.tick with po := { s1.po with pos := p, r := r, j := 0, rejectRun := 0, lastStamp := some f.stamp } }
        let s3 := match f.hdg with
          | some (h, unc) => s2.takeHeading h unc
          | none => s2
        (s3, (true, sf.2.2 || !gate))

/-- Fixes in stamp order, earlier arrivals first at a tie (R92). -/
def insertFix (f : FixIn) : List FixIn → List FixIn
  | [] => [f]
  | g :: gs => if tdiff f.stamp g.stamp < 0 then f :: g :: gs else g :: insertFix f gs

/-- R90, R86: the state selected after the fixes; `applied` tells that a fix was accepted in this epoch. A position beyond the limit sets RANGE, and
what is held of it afterwards is the limit, since no word carries more (DEDUCED, log 27). -/
def State.poSelect (s : State) (te : Time) (applied : Bool) : State :=
  let st := s.poState
  let out := s.po.pos.any (fun x => decide (posLimit < x.natAbs))
  let next := match s.navChoice with
    | none => if st = poWait then poWait else poInvalid
    | some n =>
      if st = poWait ∨ st = poInvalid then (if applied ∧ s.attAvailable then n else st)
      else if ¬ s.attAvailable then poInvalid
      else if n = poImu ∧ st = poImu ∧ 800000000 * (s.fld Reg.POSE_LIM_IMU_MAX : Int) < tdiff te s.po.imuSince then poInvalid
      else n
  let s1 := (s.raiseIf out Reg.POSE_EVENT_RANGE).poTo (if navState next && out then poInvalid else next)
  { s1 with po := { s1.po with pos := s1.po.pos.map (clampI (-posLimit) posLimit) } }

/-- R100: the level of DIR_IN means reverse; the part reads the input's accepted level. -/
def State.reversing (s : State) : Bool :=
  s.on Reg.SPD_CFG_DIR_EN && decide (s.fld (Reg.FI_STAT_LEVEL (s.fld Reg.SPD_CFG_DIR_IN)) = s.fld Reg.SPD_CFG_DIR_POL)

/-- R100: the speed along body x, 0.1 mm/s: the edges of the last 10 ms, or the last two, over the time between first and last; a 20-bit value
(R87), saturated. DESIGN CHOICE (log 27): n edges span n - 1 distances of SPD_K. -/
def State.speed (s : State) : Int :=
  if s.on Reg.POSE_STATUS_SPD_OK then
    let recent := s.po.edges.filter (fun t => decide ((s.ft - t).toNat ≤ 80000000))
    let es := if 2 ≤ recent.length then recent else s.po.edges.take 2
    let dt := (es.head?.getD 0 - es.getLast?.getD 0).toNat
    if es.length < 2 ∨ dt = 0 then 0
    else
      let v : Int := ((es.length - 1) * s.fld Reg.SPD_K_SPD_K * 80000000 / dt : Nat)
      satI 20 (if s.reversing then -v else v)
  else 0

/-- R103: the growth of r over one epoch. -/
def State.growOnce (s : State) : State :=
  let st := s.poState
  if st = poCpv then { s with po := { s.po with r := wrapI 64 (s.po.r + s.fld Reg.POSE_GROW_A_CPV_GROW * 50000), j := 0 } }
  else if st = poSpd then
    { s with po := { s.po with r := wrapI 64 (s.po.r + s.speed.natAbs * s.fld Reg.POSE_GROW_B_SPD_GROW * 5000), j := 0 } }
  else if st = poImu then
    { s with po := { s.po with j := s.po.j + 1, r := wrapI 64 (s.po.r + s.fld Reg.POSE_GROW_A_ACC_GROW * (s.po.j + 1) * 25) } }
  else { s with po := { s.po with r := 0xFFFFF * fmUnit, j := 0 } }

/-- R104: ATT_UNC over one epoch: from the longest valid attitude baseline, else grown. A baseline whose length is 0 mm, over which the rule's
quotient has no value, counts as none (DESIGN CHOICE, log 27). -/
def State.growAtt (s : State) : State :=
  let lens := s.attBaselines.map (fun b => isqrt (dot b.2 b.2).toNat / 10)
  let l := lens.foldl max 0
  let a := if l = 0 then min (s.po.attUnc + s.fld Reg.POSE_GROW_B_ATT_GROW * 50) (0xFFFFF * 1000000 + 999999)
    else s.fld Reg.POSE_BL_BL_SIGMA * 1000 / l * 1000000
  { s with po := { s.po with attUnc := a } }

def State.segOf (s : State) (i : Nat) : SegState := sget (fun _ => {}) s.po.seg i
def State.setSeg (s : State) (i : Nat) (g : SegState) : State := { s with po := { s.po with seg := sset (fun _ => {}) s.po.seg i g } }

/-- R106: the filter of one deflection component. -/
def deflFilter (old raw : Int) : Int := satI 20 (old + (raw - old) / 8)

/-- R95, R106: the valid baseline of tip antenna `an`, with the reference antenna. -/
def State.tipBaseline (s : State) (an : Nat) : Option (List Int × Nat) :=
  match s.po.baselines.find? (fun b => decide (b.1 = an)), s.refAnt with
  | some b, some r => if s.fld (Reg.ANT_ROLE_ROLE an) = 3 then some (b.2, r) else none
  | _, _ => none

/-- R106, R108, R96: segment `i` at an epoch. -/
def State.segUpdate (s : State) (te : Time) (i : Nat) : State :=
  let g := s.segOf i
  let src := s.fld (Reg.SEG_CFG_SRC i)
  let dmax := s.fld (Reg.SEG_DMAX_DMAX i)
  if src = 0 then s.setSeg i {}
  else if src = 1 then
    let an := s.fld (Reg.SEG_CFG_SEG_ANT i)
    if ¬ s.imuAny then s.setSeg i { g with dx := 0, dz := 0, unc := dmax, srcAct := 0, stale := true }
    else match s.tipBaseline an with
      | some (b, ref) =>
        if s.po.blFresh then
          let raw := vsub (rotInv s.po.quat b) (vsub (s.ant an) (s.ant ref))
          s.setSeg i { g with dx := deflFilter g.dx (comp raw 0), dz := deflFilter g.dz (comp raw 2),
                              unc := s.fld Reg.POSE_BL_BL_SIGMA / 100, srcAct := 1, stale := false, last := te }
        else s
      | none => if g.stale then s else s.setSeg i { g with unc := dmax, srcAct := 3 }
  else match g.host with
    | some (x, z, u) => s.setSeg i { dx := x, dz := z, unc := u, srcAct := 2, stale := false, host := none, last := te }
    | none =>
      if ¬ g.stale ∧ g.srcAct ≠ 3 ∧ 80000 * (1000 * s.fld Reg.POSE_LIM_DEFL_HOLD : Int) ≤ tdiff te g.last then
        s.setSeg i { g with unc := dmax, srcAct := 3 }
      else s

/-- R108: DEFL_HOLD of lost updates has passed. -/
def State.deflExpiry (s : State) (i : Nat) : State :=
  let g := s.segOf i
  if g.srcAct = 3 then s.setSeg i { g with dx := 0, dz := 0, unc := s.fld (Reg.SEG_DMAX_DMAX i), srcAct := 0, stale := true } else s

/-- R107: the deflection offsets (x, z) at body y offset `y` on segment `i` whose tip deflection is `d`. -/
def State.deflAt (s : State) (i : Nat) (d : Int × Int) (y : Int) : Int × Int :=
  let len := s.fld (Reg.SEG_LEN_LEN i)
  let a := (y - s.sfld (Reg.SEG_PIV_Y_PIV_Y i)).natAbs
  let u := if len = 0 then 65535 else min (a * 65536 / len) 65535
  let u2 := u * u / 65536
  let u3 := u2 * u / 65536
  let k : Int := (3 * u2 - u3) / 2
  (satI 20 (d.1 * k / 65536), satI 20 (d.2 * k / 65536))

/-- R105: the outlet confidence of a mounting offset (x, y), on a segment or on none. -/
def outletConf (conf att : Nat) (x y : Int) (segUnc : Nat) : Nat :=
  satU 20 (conf + att * (x.natAbs + y.natAbs) / 1000000 + segUnc)

/-- Packed 20-bit field of a record word. -/
def pack20 (v : Int) : Nat := unsx 20 v

/-- The epoch record (Table 4.2). -/
def State.poseRecord (s : State) (te : Time) (fl : FixFlags) (coast : Bool) : List Byte :=
  let st := s.poState
  let vel := s.po.vel.map (satI 20)
  let cw := s.conf + 2 ^ 20 * st + 2 ^ 23 * b2n (navState st) + 2 ^ 24 * b2n fl.1 + 2 ^ 25 * s.fld Reg.POSE_STATUS_CPV_OK +
    2 ^ 26 * b2n s.imuAny + 2 ^ 27 * s.fld Reg.POSE_STATUS_SPD_OK + 2 ^ 28 * b2n coast + 2 ^ 29 * b2n fl.2 + 2 ^ 30 * s.po.imuSel
  let aw := s.attUnc + 2 ^ 20 * min s.po.baselines.length 15
  let seg (i : Nat) : List Byte :=
    let g := s.segOf i
    leBytes 8 (pack20 g.dx + 2 ^ 20 * pack20 g.dz + 2 ^ 40 * satU 20 g.unc + 2 ^ 60 * g.srcAct + 2 ^ 62 * b2n g.stale)
  leBytes 8 te.toNat ++ leBytes 8 (unsx 64 (comp s.po.pos 0)) ++ leBytes 8 (unsx 64 (comp s.po.pos 1)) ++
    leBytes 8 (unsx 64 (comp s.po.pos 2)) ++
    leBytes 8 (pack20 (comp vel 0) + 2 ^ 20 * pack20 (comp vel 1) + 2 ^ 40 * pack20 (comp vel 2)) ++
    leBytes 4 (unsx 32 (comp s.po.quat 0)) ++ leBytes 4 (unsx 32 (comp s.po.quat 1)) ++ leBytes 4 (unsx 32 (comp s.po.quat 2)) ++
    leBytes 4 (unsx 32 (comp s.po.quat 3)) ++ leBytes 4 cw ++ leBytes 4 aw ++ (List.range 8).flatMap seg

/-- The record mirrored in POSE_REC and streamed every POSE_DECIM-th time (R102). -/
def State.publishPose (s : State) (rec : List Byte) : State :=
  let s1 := (List.range 32).foldl (fun s k => s.setReg (0x460300 + 4 * (k % 32)) (wordAt rec k)) s
  let n := s1.fld Reg.POSE_CTRL_POSE_DECIM
  if n = 0 then s1
  else if s1.po.decim + 1 < n then { s1 with po := { s1.po with decim := s1.po.decim + 1 } }
  else ({ s1 with po := { s1.po with decim := 0 } }).streamRole Reg.CTX_PERM_POSE_CONSUMER 2 rec

/-- R96: the measured acceleration of the IMU in use lies within 0.2 g of 1 g (g = 9.80665 m/s², in 2^-31 m/s²). -/
def State.levelled (s : State) (sel : Nat) : Bool :=
  let a := (sget (fun _ => {}) s.po.imu sel).acc
  let n := isqrt (dot a a).toNat
  decide (sel < 2) && (decide (16847696414 ≤ n) && decide (n ≤ 25271544619))

/-- R90 steps 1 and 2: IMU samples before the epoch are consumed, and attitude (in every state, R96) and, in a NAV state, position are propagated
by what fusion the part makes of them. -/
def State.propagate (s : State) (te : Time) : State :=
  let sel := if s.on Reg.POSE_STATUS_IMU0_OK then 0 else if s.on Reg.POSE_STATUS_IMU1_OK then 1 else 2
  let s0 := s.raiseIf (decide (s.po.imuSel ≠ 2) && (decide (sel ≠ 2) && decide (sel ≠ s.po.imuSel))) Reg.POSE_EVENT_IMU_SWITCH
  let imu := s0.po.imu.map (fun e => (e.1, { e.2 with buf := e.2.buf.filter (fun b => tge b.1 te) }))
  let s1 := { s0 with po := { s0.po with imuSel := sel, imu := imu.filter (fun e => decide (e.2 ≠ ({} : ImuState))) } }
  let k := s1.free
  let fq := s1.freeQuat s1.po.quat (s1.levelled sel)
  let s2 := { fq.1 with po := { fq.1.po with quat := fq.2 } }
  if navState s2.poState then
    { s2 with po := { s2.po with pos := [0, 1, 2].map (fun i => comp s2.po.pos i + Config.posStep k i) } }
  else s2

/-- R89: the velocity of the state's source. -/
def State.velocity (s : State) : State :=
  let st := s.poState
  let v := if st = poCpv then s.po.cpvVel
    else if st = poSpd then rot s.po.quat [s.speed, 0, 0]
    else if st = poImu then [0, 1, 2].map (fun i => satI 20 (Config.imuVel s.free i))
    else [0, 0, 0]
  { s.tick with po := { s.po with vel := v } }

/-- R90, R101: the pose epoch at `te`; `missed` epochs fell into a takeover, after which the first record carries COAST (R110).
ATT_UNC grows over the missed epochs as r does (DESIGN CHOICE, log 27: the rule names r alone). -/
def State.epochAt (s : State) (te : Time) (missed : Nat) : State :=
  let s1 := s.propagate te
  let fixes := s1.po.pending.foldl (fun l f => insertFix f l) []
  let s2 := { s1 with po := { s1.po with pending := [] } }
  let sf := fixes.foldl (State.applyFix te) (s2, (false, false))
  let s3 := (sf.1.poSelect te sf.2.1).velocity
  let s4 := (List.range (missed + 1)).foldl (fun s _ => s.growAtt) ((List.range (missed + 1)).foldl (fun s _ => s.growOnce) s3)
  let s5 := (List.range 8).foldl (fun s i => s.segUpdate te i) s4
  let s6 := { s5 with po := { s5.po with blFresh := false, coast := false } }
  let h : PoseHist := ⟨te, s6.po.pos, s6.po.quat, s6.po.r, s6.po.vel, navState s6.poState,
    (List.range 8).map (fun i => ((s6.segOf i).dx, (s6.segOf i).dz))⟩
  let s7 := { s6 with po := { s6.po with hist := (h :: s6.po.hist).take 5120 } }
  (s7.publishPose (s7.poseRecord te sf.2 s.po.coast)).count 0x002 1

/-- The last multiple of 400,000 ticks at or before the present (R101). -/
def State.epochTime (s : State) : Time := s.ft - BitVec.ofNat 64 (s.ft.toNat % 400000)

/-- R101, R110: the pose epoch due now: none in OFF, none twice, none within a takeover. -/
def State.poseEpoch (s : State) : State :=
  let te := s.epochTime
  let lastTe := s.po.hist.head?.map (·.te)
  if s.poState = poOff ∨ lastTe = some te then s
  else if s.fld Reg.RES_STATE_STATE = 1 ∨ s.fld Reg.RES_STATE_STATE = 3 then { s with po := { s.po with coast := true } }
  else
    let missed := match lastTe with
      | some l => if s.po.coast then (te - l).toNat / 400000 - 1 else 0
      | none => 0
    s.epochAt te missed

/-- R91: the fix that the FIX registers hold. -/
def State.fixRegs (s : State) : FixIn :=
  { stamp := BitVec.ofNat 64 (s.reg64 0x460200), e := s.sreg40 0x460208, n := s.sreg40 0x460210, u := s.sreg40 0x460218,
    rad := s.fld Reg.FIX_RAD_RAD, qual := s.fld Reg.FIX_RAD_QUAL, ant := s.fld Reg.FIX_RAD_FIX_ANT,
    hdg := if s.on Reg.FIX_HDG_HDG_VALID then some (s.fld Reg.FIX_HDG_HDG, s.fld Reg.FIX_HDGU_HDG_UNC) else none }

/-- R92: a fix submitted for the next epoch. -/
def State.submitFix (s : State) (f : FixIn) : State := { s with po := { s.po with pending := s.po.pending ++ [f] } }

/-- Table 4.3: no fix accepted for FIX_TIMEOUT. -/
def State.fixLost (s : State) : State := if s.poState = poOff then s else s.raise Reg.POSE_EVENT_FIX_LOST

/-- R90: NAV_IMU has lasted longer than IMU_MAX. -/
def State.imuMaxExpiry (s : State) : State := if s.poState = poImu then s.poTo poInvalid else s

/-- R98: the value of `w` bytes in the configured byte order. -/
def imuValue (big : Bool) (bs : List Byte) : Int := sx (8 * bs.length) (if big then beNat bs else leNat bs)

/-- R98: ORIENT is a proper rotation: distinct axes and determinant +1. -/
def orientOk (v : Nat) : Bool :=
  let bx := bitsOf v 0 2
  let b := bitsOf v 3 2
  let bz := bitsOf v 6 2
  let distinct := decide (bx ≤ 2) && (decide (b ≤ 2) && (decide (bz ≤ 2) && (decide (bx ≠ b) && (decide (b ≠ bz) && decide (bx ≠ bz)))))
  let odd := (bx, b, bz) = (0, 2, 1) ∨ (bx, b, bz) = (1, 0, 2) ∨ (bx, b, bz) = (2, 1, 0)
  distinct && decide ((bitsOf v 2 1 + bitsOf v 5 1 + bitsOf v 8 1 + (if odd then 1 else 0)) % 2 = 0)

/-- R98: sensor axes mapped to body axes. -/
def orient (v : Nat) (x : List Int) : List Int :=
  [(0, 2), (3, 5), (6, 8)].map (fun p => let a := comp x (bitsOf v p.1 2); if bit v p.2 then -a else a)

/-- R99: validity of IMU `m` after a good or a discarded sample. -/
def State.imuCount (s : State) (m : Nat) (g : ImuState) (good : Bool) : State :=
  let ok := if m = 0 then Reg.POSE_STATUS_IMU0_OK else Reg.POSE_STATUS_IMU1_OK
  let g1 := if good then { g with good := g.good + 1, bad := 0 } else { g with bad := g.bad + 1, good := 0 }
  let s1 := { s with po := { s.po with imu := sset (fun _ => {}) s.po.imu m g1 } }
  if good ∧ 100 ≤ g1.good then s1.setFld ok 1 else if ¬ good ∧ 4 ≤ g1.bad then s1.setFld ok 0 else s1

/-- R97: a transfer starts: on a rising edge of the data-ready input with TRIG 0, every 125 µs × 2^RATE with TRIG 1. -/
def State.imuStarts (s : State) (m : Nat) (ready : Bool) (trigger : Time) : Bool :=
  s.on (Reg.IMU_CFG_IMU_EN m) &&
    (if s.on (Reg.IMU_CFG_TRIG m) then
      !ready && (match (sget (fun _ => {}) s.po.imu m).last with
        | some t => decide ((1000000 * 2 ^ s.fld (Reg.IMU_CFG_RATE m) : Nat) ≤ tdiff trigger t)
        | none => true)
    else ready)

/-- R97: what the master sends in a transfer: the CMD byte with CMD_EN, at its mode and clock divider. -/
def State.imuSends (s : State) (m : Nat) : Nat × Nat × Option Nat :=
  (s.fld (Reg.IMU_CFG_SPI_MODE m), s.fld (Reg.IMU_CFG_SCK_DIV m),
    if s.on (Reg.IMU_CFG_CMD_EN m) then some (s.fld (Reg.IMU_CFG_CMD m)) else none)

/-- R98: body rates in 2^-40 rad/s and accelerations in 2^-31 m/s² of mapped values in LSB. -/
def State.imuScale (s : State) (m : Nat) (x : List Int) : List Int :=
  let g : Int := s.fld (Reg.IMU_GSCALE_G_M m) * 2 ^ (16 - s.fld (Reg.IMU_GSCALE_G_E m))
  let a : Int := s.fld (Reg.IMU_ASCALE_A_M m) * 2 ^ (15 - s.fld (Reg.IMU_ASCALE_A_E m))
  (x.take 3).map (· * g) ++ (x.drop 3).map (· * a)

/-- The vector product. -/
def cross (a b : List Int) : List Int :=
  [comp a 1 * comp b 2 - comp a 2 * comp b 1, comp a 2 * comp b 0 - comp a 0 * comp b 2, comp a 0 * comp b 1 - comp a 1 * comp b 0]

/-- R98: the acceleration that the turning body gives a point at lever `r` (0.1 mm), in 2^-31 m/s²: of rate `w`, and of the change since rate `w0`
at `dt` ticks before. The quotients are floored (DESIGN CHOICE, log 27). -/
def turnAcc (w w0 r : List Int) (dt : Int) : List Int :=
  let c := (cross w (cross w r)).map (fun x => x / (2 ^ 49 * 10000))
  if dt ≤ 0 then c
  else vadd c ((cross (vsub w w0) r).map (fun x => x * 8000000000 / (dt * (2 ^ 9 * 10000))))

/-- R98, R99: a good sample: scaled, stamped, the turning at the mounting point taken off; the port keeps 64 (DESIGN CHOICE, log 27: a full
buffer drops the oldest). -/
def State.imuSample (s : State) (m : Nat) (g : ImuState) (vals : List Int) (stamp : Time) : ImuState :=
  let x := s.imuScale m vals
  let w := x.take 3
  let lev := [s.sfld (Reg.IMU_LEV_X_LEVER m), s.sfld (Reg.IMU_LEV_Y_LEVER m), s.sfld (Reg.IMU_LEV_Z_LEVER m)]
  let dt := match g.stamp with
    | some t => tdiff stamp t
    | none => 0
  let a := vsub (x.drop 3) (turnAcc w g.rate lev dt)
  { g with buf := (if g.buf.length < 64 then g.buf else g.buf.drop 1) ++ [(stamp, w ++ a)], rate := w, acc := a, stamp := some stamp }

/-- R97–R99: a transfer of IMU `m`: header bytes discarded, six values read, mapped and stamped; no bytes is a missing sample. -/
def State.imuTransfer (s : State) (m : Nat) (ready : Bool) (bytes : List Byte) (trigger : Time) : State :=
  if m < 2 ∧ s.imuStarts m ready trigger then
    let w := s.fld (Reg.IMU_CFG_WIDTH m) + 2
    let body := slice (bytes.drop (s.fld (Reg.IMU_CFG_HDR_LEN m))) 0 (6 * w)
    let raw := (List.range 6).map (fun i => imuValue (s.on (Reg.IMU_CFG_BIG_END m)) (slice body (i * w) w))
    let g := sget (fun _ => {}) s.po.imu m
    let fullScale (x : Int) : Bool := decide (x = 2 ^ (8 * w - 1) - 1) || decide (x = -(2 ^ (8 * w - 1)))
    let full := (List.range 3).map (fun i => if fullScale (comp raw i) then g.full.getD i 0 + 1 else 0)
    let bad := bytes.isEmpty || (body.all (· == 0) || (body.all (· == 0xFF) || full.any (fun k => decide (3 ≤ k))))
    let o := (s.reg (0x460084 + 32 * m)).toNat
    let vals := orient o (raw.take 3) ++ orient o (raw.drop 3)
    let stamp := trigger - BitVec.ofNat 64 (800 * s.fld (Reg.IMU_LAT_LAT m))
    let g1 := { g with full := full, last := some trigger, spi := some (s.imuSends m) }
    if bad then s.imuCount m g1 false else s.imuCount m (s.imuSample m g1 vals stamp) true
  else s

/-- R99: some body rate of the two IMUs differs by more than 0.02 rad/s (in 2^-40 rad/s). -/
def State.ratesDiffer (s : State) : Bool :=
  let d := vsub (sget (fun _ => {}) s.po.imu 0).rate (sget (fun _ => {}) s.po.imu 1).rate
  d.any (fun x => decide (21990232555 < x.natAbs))

/-- R99: the body rates of two valid IMUs have differed for 100 ms. -/
def State.imuDisagree (s : State) : State :=
  if s.on Reg.POSE_STATUS_IMU0_OK ∧ s.on Reg.POSE_STATUS_IMU1_OK ∧ s.ratesDiffer then s.raise Reg.POSE_EVENT_IMU_DISAGREE else s

/-- R100: a rising edge of the speed input. -/
def State.speedEdge (s : State) (t : Time) : State :=
  let keep := s.po.edges.filter (fun e => decide ((t - e).toNat ≤ 80000000))
  let es := t :: (if keep.isEmpty then s.po.edges.take 1 else keep)
  { s.setFld Reg.POSE_STATUS_SPD_OK 1 with po := { s.po with edges := es } }

/-- R100: SPD_TIMEOUT without an edge. -/
def State.speedTimeout (s : State) : State := { s.setFld Reg.POSE_STATUS_SPD_OK 0 with po := { s.po with edges := s.po.edges.take 1 } }

/-- Channels on a port that are in TRACK with PLL lock. -/
def State.lockedOn (s : State) (p : Nat) : List Nat :=
  (s.chansWhere (fun w => w % 8 == chTrack && bit w 3)).filter (fun n => decide (s.fld (Reg.GCH_CFG_PORT n) = p))

/-- A retained record of the channel's satellite, by the system codes of R82. -/
def State.hasEphemeris (s : State) (n : Nat) : Bool :=
  s.aidSats.any (fun e => decide (e.2 = s.chanSv n) && (systemSigs e.1).contains (s.fld (Reg.GCH_CFG_SIG n)))

/-- R94: carrier-phase velocity on a port is valid: at least 5 channels in TRACK with PLL lock and ephemerides, residual at most 20 mm/s. -/
def State.cpvGood (s : State) (c : CpvIn) : Bool :=
  decide (5 ≤ ((s.lockedOn c.port).filter s.hasEphemeris).length) && decide (c.rms ≤ 20)

/-- R94: the antenna that serves carrier-phase velocity at this measurement epoch: a chassis antenna from the epoch after the tenth bad one (or the
loss) of the reference port, and the reference again once it has been valid for 1 s. -/
def State.cpvUpdate (s : State) (cs : List CpvIn) : State :=
  let good (n : Nat) : Bool := cs.any (fun c => decide (c.port = n) && s.cpvGood c)
  let ref := s.refAnt
  let refOk := ref.any (fun n => good n && s.on (Reg.AS_STAT_ALIGNED n))
  let run := if refOk then s.po.refGood + 1 else 0
  let chassis := (List.range 4).find? (fun n => decide (s.fld (Reg.ANT_ROLE_ROLE n) = 2) && good n)
  let away := if s.po.away then decide (run < 1000) else decide (10 ≤ s.po.refBad) && chassis.isSome
  let serve := if ¬ away then ref else match chassis with
    | some c => some c
    | none => s.po.cpvPort
  let s1 := s.raiseIf (decide (s.po.cpvPort ≠ none) && decide (serve ≠ s.po.cpvPort)) Reg.POSE_EVENT_CPV_SWITCH
  let cur := cs.find? (fun c => decide (serve = some c.port) && s.cpvGood c)
  let s2 := { s1 with po := { s1.po with cpvPort := serve, away := away, refBad := if refOk then 0 else s.po.refBad + 1, refGood := run,
                                         cpvVel := match cur with | some c => c.vel.map (satI 20) | none => s1.po.cpvVel } }
  s2.setBit Reg.POSE_STATUS_CPV_OK cur.isSome

/-- R95: satellites that hold PLL lock on two ports. -/
def State.commonSats (s : State) (p q : Nat) : Nat :=
  let sat (n : Nat) : Nat × Nat := (sigSystem (s.fld (Reg.GCH_CFG_SIG n)), s.chanSv n)
  let b := (s.lockedOn q).map sat
  ((((s.lockedOn p).map sat).filter b.contains).eraseDups).length

/-- R95: a resolved vector lies within ±BL_SEARCH (mm) of the nominal baseline turned by the present attitude. -/
def State.blNear (s : State) (a ref : Nat) (v : List Int) : Bool :=
  let d := vsub v (rot s.po.quat (vsub (s.ant a) (s.ant ref)))
  d.all (fun x => decide (x.natAbs ≤ 10 * s.fld Reg.POSE_BL_BL_SEARCH))

/-- R95: baselines at a measurement epoch: valid from the fix of the ambiguities, within the search range, on at least 6 satellites until a SLIP
or a lost port; from then on updated. -/
def State.baselineUpdate (s : State) (bs : List BlIn) : State :=
  let ok (b : BlIn) : Bool :=
    let role := s.fld (Reg.ANT_ROLE_ROLE b.ant)
    (role == 2 || role == 3) && (b.fixed && s.refAnt.any (fun r =>
      decide (6 ≤ s.commonSats b.ant r) && (s.on (Reg.AS_STAT_ALIGNED b.ant) && (s.on (Reg.AS_STAT_ALIGNED r) &&
        (s.po.baselines.any (fun x => decide (x.1 = b.ant)) || s.blNear b.ant r b.vec)))))
  { s with po := { s.po with blFresh := true } }.setBaselines ((bs.filter ok).map (fun (b : BlIn) => (b.ant, b.vec)))

/-- R76: the last multiple of 8,000,000 ticks at or before the present. -/
def State.measTime (s : State) : Time := s.ft - BitVec.ofNat 64 (s.ft.toNat % 8000000)

/-- R76, R94, R95, R64: the 1 ms measurement epoch, once at each multiple of 1 ms; a stream's statistics come only from an aligned port (R63). -/
def State.measurementEpoch (s : State) (m : EpochIn) : State :=
  let te := s.measTime
  if s.on Reg.BB_STATUS_BB_ON ∧ s.gn.epoch ≠ some te then
    let s1 := { s with gn := { s.gn with epoch := some te } }.observeAll te
    let s2 := m.symbols.foldl State.symbol s1
    let s3 := (m.pwr.filter (fun p => s.on (Reg.AS_STAT_ALIGNED p.port))).foldl
      (fun s p => (s.setFld (Reg.AS_PWR_RMS p.port p.stream) p.rms).setFld (Reg.AS_PWR_CLIP p.port p.stream) p.clip) s2
    let s4 := match m.leap with | some l => s3.takeLeap l | none => s3
    ((s4.calFromGnss.cpvUpdate m.cpv).baselineUpdate m.baselines).allocate
  else s

/-- R112: the registers that the fix source may write too. -/
def fixSourceReg (a : Nat) : Bool :=
  inRange 0x460200 0x460230 a || (inRange 0x460100 0x460200 a && inRange 0x10 0x1C (a % 32))

/-- R112: IMU `m` is not in use: it is not valid, and its samples are not consumed. -/
def State.imuOff (s : State) (m : Nat) : State :=
  let g := sget (fun _ => {}) s.po.imu m
  { s.setFld (if m = 0 then Reg.POSE_STATUS_IMU0_OK else Reg.POSE_STATUS_IMU1_OK) 0 with
    po := { s.po with imu := sset (fun _ => {}) s.po.imu m { g with buf := [] } } }

/-- A write in the pose block (R112, R473); `used` tells which segments an outlet of the active or verified staged image names. -/
def State.poWrite (s : State) (used : Nat → Bool) (a v : Nat) : State :=
  let err := s.raise Reg.POSE_EVENT_CFG_ERR
  if a = 0x460000 then s.poCtrlWrite v
  else if inRange 0x460010 0x460028 a then (if s.poState = poOff then s.writeCodes a v else s)
  else if a = 0x460034 then
    (let s1 := s.writeCodes a v; if s.variant = .l1024 then s1.setFld Reg.POSE_BL_BL_SEARCH 0 else s1)
  else if a = 0x460080 ∨ a = 0x4600A0 then
    (if 2 ≤ bitsOf v 2 6 ∧ bitsOf v 8 2 ≠ 3 ∧ bitsOf v 15 4 ≤ 7 then
      (if bit v 28 then s.writeCodes a v else (s.writeCodes a v).imuOff ((a - 0x460080) / 32))
    else err)
  else if a = 0x460084 ∨ a = 0x4600A4 then (if orientOk v then s.writeCodes a v else err)
  else if inRange 0x460100 0x460200 a then
    let i := (a - 0x460100) / 32
    let off := a % 32
    if off = 0 then
      let src := bitsOf v 0 2
      if src = 3 ∨ (src = 1 ∧ s.variant = .l1024) ∨ (src ≠ 0 ∧ s.fld (Reg.SEG_LEN_LEN i) = 0) ∨ (src = 0 ∧ used i) then err
      else
        let s1 := s.writeCodes a v
        if src = s.fld (Reg.SEG_CFG_SRC i) then s1 else s1.setSeg i { last := if src = 0 then 0 else s.epochTime }
    else if off = 8 then
      (if bitsOf v 0 20 = 0 ∧ s.fld (Reg.SEG_CFG_SRC i) ≠ 0 then err else s.writeCodes a v)
    else if off = 0x18 then
      let s1 := s.writeCodes a v
      s1.setSeg i { s1.segOf i with
        host := some (s1.sfld (Reg.SEG_HOST_X_DX i), s1.sfld (Reg.SEG_HOST_Z_DZ i), s1.fld (Reg.SEG_HOST_UNC_UNC i)) }
    else s.writeCodes a v
  else if a = 0x4600C0 then
    (let s1 := s.writeCodes a v; if s1.on Reg.SPD_CFG_SPD_EN then s1 else { s1.speedTimeout with po := { s1.po with edges := [] } })
  else if a = 0x46022C then (if bit v 0 then s.submitFix s.fixRegs else s)
  else s.writeCodes a v

/-- Segments that an outlet of the active image names (R112, R114). -/
def State.segUsed (s : State) (i : Nat) : Bool :=
  s.regs.any (fun e => inRange 0x470000 0x480000 e.1 && (decide (e.1 % 0x40 = 0) && (bit e.2.toNat 17 &&
    decide (bitsOf e.2.toNat 14 3 = i))))

end Sys2Proof.Machine
end

