-- ==== Sys2Proof/Machine/Maps.lean ====
section
/-! DEFINITION. Outlets, footprints and field maps (chapter 5): placement, cells and tiles, the slot machine, the coverage painter,
sections, and the map page's registers. -/

namespace Sys2Proof.Machine

/-- A point or direction in the E-N plane. -/
abbrev Pt := Int × Int

/-- The defined outlets of the active table, ascending. -/
def State.outlets (s : State) : List Nat :=
  (s.regs.filter (fun e => inRange 0x470000 0x480000 e.1 && (decide (e.1 % 0x40 = 0) && bit e.2.toNat 0))).map
    (fun e => (e.1 - 0x470000) / 0x40)

/-- R117: the heading unit vector of an attitude, 2^-18; none where body x is near vertical. -/
def headingOf (q : List Int) : Option Pt :=
  let b := rotW 40 q [262144, 0, 0]
  let len := isqrt (comp b 0 * comp b 0 + comp b 1 * comp b 1).toNat
  if len < 1024 then none else some ((comp b 0 * 262144).tdiv len, (comp b 1 * 262144).tdiv len)

/-- A placed footprint: centre (0.1 mm) and heading (2^-18). -/
structure Place where
  c : Pt
  h : Pt
  deriving DecidableEq, Repr

/-- R117: outlet `o` placed at a position and attitude with the segments' deflections `defl`. -/
def State.place (s : State) (o : Nat) (pos q : List Int) (defl : List (Int × Int)) : Place :=
  let y := s.sfld (Reg.OT_MOUNT_Y_MOUNT o)
  let d := if s.on (Reg.OT_CFG_ON_SEG o) then
      s.deflAt (s.fld (Reg.OT_CFG_SEGMENT o)) (defl.getD (s.fld (Reg.OT_CFG_SEGMENT o)) (0, 0)) y else (0, 0)
  let lev := [s.sfld (Reg.OT_MOUNT_X_MOUNT o) + d.1, y, s.sfld (Reg.OT_MOUNT_Z_MOUNT o) + d.2]
  let g := vadd pos (rotW 40 q lev)
  let h := (headingOf q).getD s.mp.head
  let dx := s.sfld (Reg.OT_FP_DX_DX o)
  ⟨(comp g 0 + dx * h.1 / 262144, comp g 1 + dx * h.2 / 262144), h⟩

/-- R120: the cell that contains a position. -/
def cellOf (p : Pt) : Pt := (p.1 / 500, p.2 / 500)

/-- R118: the test of one cell centre. -/
def underTest (shape : Nat) (w l : Int) (p : Place) (cell : Pt) : Bool :=
  let dE := 500 * cell.1 + 250 - p.c.1
  let dN := 500 * cell.2 + 250 - p.c.2
  let al := (dE * p.h.1 + dN * p.h.2) / 262144
  let ac := (dN * p.h.1 - dE * p.h.2) / 262144
  if shape = 1 then decide ((2 * al) * (2 * al) * (w * w) + (2 * ac) * (2 * ac) * (l * l) ≤ l * l * (w * w))
  else decide (2 * (al.natAbs : Int) ≤ l) && decide (2 * (ac.natAbs : Int) ≤ w)

/-- R118: the cells under outlet `o`'s footprint at a place, in ascending columns and rows. -/
def State.cellsUnder (s : State) (o : Nat) (p : Place) : List Pt :=
  let shape := s.fld (Reg.OT_FP_L_SHAPE o)
  let w : Int := s.fld (Reg.OT_FP_W_W o)
  let l : Int := if shape = 2 then 500 else s.fld (Reg.OT_FP_L_L o)
  let r := ((w + l) / 1000 + 2).toNat
  let c := cellOf p.c
  let offs := (List.range (2 * r + 1)).map (fun (i : Nat) => (i : Int) - (r : Int))
  let cells := offs.flatMap (fun i => (offs.map (fun j => (c.1 + i, c.2 + j))).filter (underTest shape w l p))
  if cells.isEmpty then [c] else cells

/-- R120: the tile of a cell. -/
def tileOf (c : Pt) : Pt := (c.1 / 256, c.2 / 256)

def State.tileState (s : State) (k : Nat) : Nat := s.fld (Reg.TILE_CTRL_STATE k)

/-- The tile coordinates a slot holds. -/
def State.tileAt (s : State) (k : Nat) : Pt := (s.sfld (Reg.TILE_X_TX k), s.sfld (Reg.TILE_Y_TY k))

/-- Number of tile slots (R139). -/
def Variant.slots : Variant → Nat
  | .f0512 => 96
  | _ => 192

/-- The RESIDENT slot of a tile. -/
def State.slotOf (s : State) (t : Pt) : Option Nat :=
  (List.range s.variant.slots).find? (fun k => decide (s.tileState k = 2) && decide (s.tileAt k = t))

/-- Key of a cell in a slot (R120). -/
def cellKey (k : Nat) (c : Pt) : Nat := 65536 * k + 256 * (c.2 % 256).toNat + (c.1 % 256).toNat

/-- R125: what a slot is filled with. -/
abbrev fillCell : Nat := 0x0300

def State.cellWord (s : State) (key : Nat) : Nat := sget (fun _ => fillCell) s.mp.cells key
def State.setCellWord (s : State) (key v : Nat) : State :=
  { s with mp := { s.mp with cells := sset (fun _ => fillCell) s.mp.cells key v } }

/-- The cell as sweep work reads it, none in a missing tile (R130). -/
def State.cellAt (s : State) (c : Pt) : Option Nat := (s.slotOf (tileOf c)).map (fun k => s.cellWord (cellKey k c))

/-- Coverage of a layer in a cell as it stands. -/
def covOf (w l : Nat) : Nat := bitsOf w (2 * l) 2

/-- R121: whether outlet `o` wants the cell word `w` (none: a missing tile). -/
def State.wantsCell (s : State) (o : Nat) (w : Option Nat) : Bool :=
  w.any (fun w =>
    let l := s.fld (Reg.OT_CFG_LAYER o)
    let excl := bitsOf w 8 2
    (excl == 0 || (excl == 2 && s.on (Reg.MAP_LAYER_BUFFER_OK l))) &&
      ((covOf w l == 0 || s.on (Reg.MAP_LAYER_COV_IGNORE l)) &&
        (s.fld (Reg.OT_RATE_RATE_MODE o) == 0 || s.fld (Reg.RT_ENTRY_RATE l (bitsOf w 10 6)) != 0)))

/-! The slot machine (R124–R129). -/

/-- R124, R125: LOAD of a FREE slot; one that is being filled already goes on filling (DESIGN CHOICE, log 29). -/
def State.tileLoad (s : State) (k : Nat) : State :=
  if s.tileState k = 0 then
    if s.mp.filling.contains k then s else
    { s.setFld (Reg.TILE_CTRL_PENDING k) 1 with
      mp := { s.mp with filling := s.mp.filling ++ [k], cells := s.mp.cells.filter (fun e => decide (e.1 / 65536 ≠ k)) } }
  else s.raise Reg.MAP_EVENT_CMD_ERR

/-- The slots whose COMMIT is pending: waiting for a frame start, or merging (R126). -/
def State.committing (s : State) : List Nat := s.mp.commits ++ s.mp.merges.map (·.1)

/-- R126, R124: COMMIT; where one is pending for the slot it changes nothing. -/
def State.tileCommit (s : State) (k : Nat) : State :=
  if s.tileState k = 1 then
    if s.committing.contains k then s
    else if s.committing.any (fun j => decide (s.tileAt j = s.tileAt k)) then s.raise Reg.MAP_EVENT_TAG_CONFLICT
    else { s.setFld (Reg.TILE_CTRL_PENDING k) 1 with mp := { s.mp with commits := s.mp.commits ++ [k] } }
  else s.raise Reg.MAP_EVENT_CMD_ERR

/-- The slot becomes FREE. -/
def State.tileFree (s : State) (k : Nat) : State :=
  { ((s.setFld (Reg.TILE_CTRL_STATE k) 0).setFld (Reg.TILE_CTRL_PENDING k) 0).setFld (Reg.TILE_DIRTY_BAND k) 0 with
    mp := { s.mp with commits := s.mp.commits.filter (· ≠ k), evicts := s.mp.evicts.filter (· ≠ k),
                      merges := s.mp.merges.filter (fun m => decide (m.1 ≠ k)) } }

/-- R127, R124: EVICT. -/
def State.tileEvict (s : State) (k : Nat) (force : Bool) : State :=
  let st := s.tileState k
  if st = 1 then s.tileFree k
  else if st = 2 then
    if s.fld (Reg.TILE_DIRTY_BAND k) ≠ 0 ∧ ¬ force then s.raise Reg.MAP_EVENT_EVICT_DIRTY
    else if s.mp.evicts.contains k then s
    else { s.setFld (Reg.TILE_CTRL_PENDING k) 1 with mp := { s.mp with evicts := s.mp.evicts ++ [k] } }
  else if st = 3 ∧ force then s.tileFree k
  else s.raise Reg.MAP_EVENT_CMD_ERR

/-- R125, R128: one byte of an aperture write to a slot that takes it. -/
def State.apertureByte (s : State) (off : Nat) (b : Byte) : State :=
  let k := off / 0x20000
  let key := off / 2
  let w := s.cellWord key
  let host := decide (s.tileState k = 1)
  if off % 2 = 1 then s.setCellWord key (w % 256 + 256 * b.toNat)
  else if host ∨ s.on (Reg.TILE_CTRL_COV_WRITE k) then s.setCellWord key (256 * (w / 256) + b.toNat)
  else s

/-- R125, R128: an aperture write at an offset from 0x0100_0000. -/
def State.apertureWrite (s : State) (off : Nat) (bs : List Byte) : State :=
  let k := off / 0x20000
  if s.variant.slots ≤ k then s
  else if s.mp.filling.contains k then { s with mp := { s.mp with waiting := s.mp.waiting ++ [(off, bs)] } }
  else if s.tileState k = 0 ∨ s.tileState k = 3 then s.raise Reg.MAP_EVENT_CFG_ERR
  else (bs.zipIdx).foldl (fun s b => s.apertureByte (off + b.2) b.1) s

/-- Bytes of the aperture. -/
def State.apertureRead (s : State) (off n : Nat) : List Byte :=
  (List.range n).map (fun i => BitVec.ofNat 8 (s.cellWord ((off + i) / 2) / 256 ^ ((off + i) % 2)))

/-- R125: the fill ends; the slot is LOADING and the waiting writes are taken. -/
def State.tileFillDone (s : State) (k : Nat) : State :=
  if s.mp.filling.contains k then
    let s1 := (s.setFld (Reg.TILE_CTRL_STATE k) 1).setFld (Reg.TILE_CTRL_PENDING k) 0
    let mine := s.mp.waiting.filter (fun w => decide (w.1 / 0x20000 = k))
    let s2 := { s1 with mp := { s1.mp with filling := s1.mp.filling.filter (· ≠ k),
                                           waiting := s1.mp.waiting.filter (fun w => decide (w.1 / 0x20000 ≠ k)) } }
    mine.foldl (fun s w => s.apertureWrite w.1 w.2) s2
  else s

/-- R124, R126: the frame start commits, begins swaps and frees evicted slots. -/
def State.tileFrame (s : State) : State :=
  let s1 := s.mp.evicts.foldl (fun s k => s.tileFree k) s
  let one (s : State) (k : Nat) : State :=
    match s.slotOf (s.tileAt k) with
    | some old => { s with mp := { s.mp with merges := s.mp.merges ++ [(k, old)], commits := s.mp.commits.filter (· ≠ k) } }
    | none =>
      { (s.setFld (Reg.TILE_CTRL_STATE k) 2).setFld (Reg.TILE_CTRL_PENDING k) 0 with
        mp := { s.mp with commits := s.mp.commits.filter (· ≠ k) } }
  s1.mp.commits.foldl one s1

/-- R126: the greater coverage of two cells, layer by layer, with the new cell's EXCL and RX. -/
def mergeCell (new old : Nat) : Nat :=
  let m (l : Nat) : Nat := max (min (covOf new l) 2) (min (covOf old l) 2)
  256 * (new / 256) + m 0 + 4 * m 1 + 16 * m 2 + 64 * m 3

/-- Each cell of tile `k` merged with the same cell of tile `old`. -/
def State.mergeCells (s : State) (k old : Nat) : State :=
  (List.range 65536).foldl (fun s i => s.setCellWord (65536 * k + i) (mergeCell (s.cellWord (65536 * k + i)) (s.cellWord (65536 * old + i)))) s

/-- R126: a swap's merge ends: the new slot is RESIDENT, the old one FREE. -/
def State.mergeDone (s : State) (k : Nat) : State :=
  match s.mp.merges.find? (fun m => decide (m.1 = k)) with
  | some (_, old) =>
    let s1 := if s.tileState old = 2 then s.mergeCells k old else s
    let s2 := s1.setFld (Reg.TILE_DIRTY_BAND k) (s1.fld (Reg.TILE_DIRTY_BAND k) ||| s1.fld (Reg.TILE_DIRTY_BAND old))
    let s3 := if s2.tileState old = 2 then s2.tileFree old else s2
    let s4 := (s3.setFld (Reg.TILE_CTRL_STATE k) 2).setFld (Reg.TILE_CTRL_PENDING k) 0
    { s4 with mp := { s4.mp with merges := s4.mp.merges.filter (fun m => decide (m.1 ≠ k)) } }
  | none => s

/-- R138, R124: an uncorrectable error in a RESIDENT slot. -/
def State.tileBad (s : State) (k : Nat) : State :=
  if s.tileState k = 2 then
    { (s.setFld (Reg.TILE_CTRL_STATE k) 3).setFld (Reg.TILE_CTRL_PENDING k) 0 with
      mp := { s.mp with evicts := s.mp.evicts.filter (· ≠ k) } }.raise Reg.MAP_EVENT_TILE_ECC
  else s

/-- MAP_STAT as it reads (R140). -/
def State.mapStat (s : State) : Nat :=
  let ks := List.range s.variant.slots
  (ks.filter (fun k => decide (s.tileState k = 2))).length + 256 * (ks.filter (fun k => decide (s.tileState k = 0))).length +
    65536 * (ks.filter (fun k => decide (s.fld (Reg.TILE_DIRTY_BAND k) ≠ 0))).length

/-! The coverage painter (R132–R135). -/

/-- R132: τ lies in a landing interval of the transitions (newest first). -/
def landingAt (tau : Time) : Option Time → List (Bool × Time) → Bool
  | _, [] => false
  | _, (false, c) :: tr => landingAt tau (some c) tr
  | close, (true, o) :: tr =>
    (tge tau o && close.all (fun c => decide (tdiff tau c < 0))) || landingAt tau close tr

def State.transOf (s : State) (o : Nat) : List (Bool × Time) := sget (fun _ => []) s.mp.trans o

/-- A transition into its place by time, newest first; of two at one instant the one sealed later is the newer. -/
def insTrans (x : Bool × Time) : List (Bool × Time) → List (Bool × Time)
  | [] => [x]
  | y :: r => if 0 < tdiff y.2 x.2 then y :: insTrans x r else x :: y :: r

/-- R132: a transition added, the last eight kept. -/
def State.addTrans (s : State) (o : Nat) (opening : Bool) (t : Time) : State :=
  { s with mp := { s.mp with trans := sset (fun _ => []) s.mp.trans o ((insTrans (opening, t) (s.transOf o)).take 8) } }

/-- R132: a landing begins TRN_OPEN after an opening and ends TRN_CLOSE after a closing. -/
def State.landTime (s : State) (o : Nat) (opening : Bool) (t : Time) : Time :=
  tadd t (80000 * s.fld (if opening then Reg.OT_TRN_OPEN_TRN o else Reg.OT_TRN_CLOSE_TRN o) : Nat)

/-- R132: outlet `o` lands at `tau` by the transitions `tr`. -/
def State.lands (s : State) (o : Nat) (tr : List (Bool × Time)) (tau : Time) : Bool :=
  landingAt tau none (tr.map (fun e => (e.1, s.landTime o e.1 e.2)))

/-- The pose epoch at or before an instant (R133). -/
def State.poseAt (s : State) (t : Time) : Option PoseHist := s.po.hist.find? (fun h => tge t h.te)

/-- R134: one cell of layer `l` painted. -/
def State.paintCell (s : State) (l : Nat) (unsure : List Pt) (c : Pt) : State :=
  match s.slotOf (tileOf c) with
  | none => (s.bump Reg.MAP_COUNT_A_PAINT_LOST 1).raise Reg.MAP_EVENT_PAINT_LOST
  | some k =>
    let key := cellKey k c
    let w := s.cellWord key
    let cov := covOf w l
    let s1 := if cov < 2 then
        let s1 := (s.setCellWord key (w + 4 ^ l)).setFbit (Reg.TILE_DIRTY_BAND k) ((c.2 % 256).toNat / 16) true
        s1.count 0x008 1
      else if cov = 3 then s.bump Reg.MAP_COUNT_B_CELL_ERR 1
      else s
    let s2 := if bitsOf w 8 2 = 0 then s1 else s1.bump Reg.MAP_COUNT_A_EXCL_PAINT 1
    if unsure.contains c then s2.bump Reg.MAP_COUNT_B_PAINT_UNSURE 1 else s2

/-- R133: two centres lie no more than 25 mm apart. -/
def within25 (a b : Pt) : Bool := decide ((b.1 - a.1) * (b.1 - a.1) + (b.2 - a.2) * (b.2 - a.2) ≤ 62500)

/-- The least number of equal steps of at most 25 mm on a straight line between two centres. -/
def subSteps (a b : Pt) : Nat :=
  let d := isqrt (((b.1 - a.1) * (b.1 - a.1) + (b.2 - a.2) * (b.2 - a.2)).toNat)
  max 1 ((d + (if d * d < ((b.1 - a.1) * (b.1 - a.1) + (b.2 - a.2) * (b.2 - a.2)).toNat then 1 else 0) + 249) / 250)

/-- `i/n` of the way between two values. -/
def lerpI (a b : Int) (i n : Nat) : Int := a + (b - a) * i / n

/-- R133: the pose `i/n` of the way between two, component by component; of the two quaternions of an attitude the nearer is taken. -/
def lerpPose (a b : PoseHist) (i n : Nat) : PoseHist :=
  let q := if (List.zipWith (fun x y => x * y) a.quat b.quat).foldl (· + ·) 0 < 0 then b.quat.map (-·) else b.quat
  { b with pos := List.zipWith (fun x y => lerpI x y i n) a.pos b.pos
           quat := List.zipWith (fun x y => lerpI x y i n) a.quat q
           defl := List.zipWith (fun x y => (lerpI x.1 y.1 i n, lerpI x.2 y.2 i n)) a.defl b.defl }

/-- R117: outlet `o` placed at a pose. -/
def State.placeAt (s : State) (o : Nat) (h : PoseHist) : Place := s.place o h.pos h.quat h.defl

/-- Where the painter stands between two instants: the last instant's pose, the outlets placed there and each layer's union. -/
structure Brush where
  pose : Option PoseHist := none
  placed : List Nat := []
  unions : List (Nat × List Pt) := []

/-- The outlets of layer `l` that land at an instant, by the given transitions. -/
def State.landers (s : State) (trans : List (Nat × List (Bool × Time))) (tau : Time) (l : Nat) : List Nat :=
  (trans.filter (fun e => s.lands e.1 e.2 tau && decide (s.fld (Reg.OT_CFG_LAYER e.1) = l))).map (·.1)

/-- R133: no two successive placements of outlet `o` on `n` steps from one pose to another lie more than 25 mm apart. -/
def State.stepsFine (s : State) (o : Nat) (p h : PoseHist) (n : Nat) : Bool :=
  let cs := (List.range (n + 1)).map (fun j => (s.placeAt o (if j = 0 then p else lerpPose p h j n)).c)
  (cs.zip (cs.drop 1)).all (fun e => within25 e.1 e.2)

/-- R133: the steps that outlet `o` takes from the brush's pose to the pose `h`: one where it was not placed at the last instant. -/
def State.brushSteps (s : State) (b : Brush) (h : PoseHist) (o : Nat) : Nat :=
  match b.pose with
  | some p =>
    if b.placed.contains o then
      let n := subSteps (s.placeAt o p).c (s.placeAt o h).c
      (((List.range 64).map (n + ·)).find? (s.stepsFine o p h)).getD (n + 64)
    else 1
  | none => 1

/-- The cells under outlet `o` at placement `j` of its `n` steps from the brush's pose to the pose `h`. -/
def State.brushCells (s : State) (b : Brush) (h : PoseHist) (o j n : Nat) : List Pt :=
  s.cellsUnder o (s.placeAt o (match b.pose with | some p => if b.placed.contains o then lerpPose p h j n else h | none => h))

/-- R133, R134: layer `l` painted at one instant: the outlets placed, the union, and for each placement the cells raised with those under
UNSURE outlets. -/
def State.brushLayer (s : State) (trans : List (Nat × List (Bool × Time))) (h : PoseHist) (tau : Time) (b : Brush) (l : Nat) :
    List Nat × List Pt × List (List Pt × List Pt) :=
  let now := s.landers trans tau l
  let moves := now.map (fun o => (o, s.brushSteps b h o))
  let n := moves.foldl (fun m e => max m e.2) 1
  let under (p : Nat → Bool) (j : Nat) : List Pt :=
    ((moves.filter (fun e => p e.1)).flatMap (fun e => s.brushCells b h e.1 (j * e.2 / n) e.2)).eraseDups
  let prev := ((b.unions.find? (fun u => decide (u.1 = l))).map (·.2)).getD []
  let us := (List.range n).map (fun j => under (fun _ => true) (j + 1))
  let uns := (List.range n).map (fun j => under (fun o => s.on (Reg.OT_STATE_UNSURE o)) (j + 1))
  let raises := (us.zip (prev :: us)).map (fun p => p.1.filter (fun c => !p.2.contains c))
  (now, us.getLast?.getD [], raises.zip uns)

/-- One instant: the new brush and, by layer, the cells raised at each placement; none where no pose is held. -/
def State.brushInstant (s : State) (trans : List (Nat × List (Bool × Time))) (b : Brush) (tau : Time) :
    Brush × List (Nat × List (List Pt × List Pt)) :=
  match s.poseAt tau with
  | none => ({}, [])
  | some h =>
    let ls := [0, 1, 2, 3].map (fun l => (l, s.brushLayer trans h tau b l))
    (⟨some h, ls.flatMap (fun e => e.2.1), (ls.map (fun e => (e.1, e.2.2.1))).filter (fun u => !u.2.isEmpty)⟩,
     ls.map (fun e => (e.1, e.2.2.2)))

/-- R133: landings that cannot be placed, one for each outlet. -/
def State.paintLost (s : State) (n : Nat) : State :=
  if n = 0 then s else (s.bump Reg.MAP_COUNT_A_PAINT_LOST n).raise Reg.MAP_EVENT_PAINT_LOST

/-- The raised cells of one instant painted. -/
def State.paintRaises (s : State) (rs : List (Nat × List (List Pt × List Pt))) : State :=
  rs.foldl (fun s e => e.2.foldl (fun s r => r.1.foldl (fun s c => s.paintCell e.1 r.2 c) s) s) s

/-- The brush as State holds it. -/
def State.brush (s : State) : Brush := ⟨s.mp.last, s.mp.placed, s.mp.unions⟩

def State.setBrush (s : State) (b : Brush) : State :=
  { s with mp := { s.mp with last := b.pose, placed := b.placed, unions := b.unions } }

/-- R133: one painter instant. -/
def State.paintInstant (s : State) (tau : Time) : State :=
  let s1 := match s.poseAt tau with
    | none => s.paintLost ([0, 1, 2, 3].flatMap (s.landers s.mp.trans tau)).length
    | some _ => s
  let r := s1.brushInstant s1.mp.trans s1.brush tau
  let s2 := (s1.paintRaises r.2).setBrush r.1
  { s2 with mp := { s2.mp with tau := some tau } }

/-- The brush after the instants `taus`, under given transitions, and all that it raised, oldest first. -/
def State.brushRun (s : State) (trans : List (Nat × List (Bool × Time))) (b : Brush) (taus : List Time) :
    Brush × List (Nat × List (List Pt × List Pt)) :=
  taus.foldl (fun a tau => let r := s.brushInstant trans a.1 tau; (r.1, a.2 ++ r.2)) (b, [])

/-- R133: the raises of a run painted but for those that the earlier run made, each of which stands for one. -/
def State.paintBeyond (s : State) (had : List (Nat × Pt)) (rs : List (Nat × List (List Pt × List Pt))) : State :=
  (rs.foldl (fun a e => e.2.foldl (fun a r => r.1.foldl (fun (a : State × List (Nat × Pt)) c =>
    if a.2.contains (e.1, c) then (a.1, a.2.erase (e.1, c)) else (a.1.paintCell e.1 r.2 c, a.2)) a) a) (s, had)).1

/-- R133: back-painting of instants, oldest first, under the transitions known before (`old`) and now. -/
def State.backPaint (s : State) (old : List (Nat × List (Bool × Time))) (taus : List Time) : State :=
  match taus with
  | [] => s
  | t0 :: rest =>
    let now := s.brushRun s.mp.trans (s.brushInstant s.mp.trans {} t0).1 rest
    let was := s.brushRun old (s.brushInstant old {} t0).1 rest
    (s.paintBeyond (was.2.flatMap (fun e => e.2.flatMap (fun r => r.1.map (fun c => (e.1, c))))) now.2).setBrush now.1

/-- Painter instants are 1 ms apart (R133). -/
abbrev painterTicks : Nat := 8000000

/-- R133: a transition sealed after its landing instant has passed: the instants from there are painted again, those beyond the
256 ms history are lost. -/
def State.lateSeal (s : State) (o : Nat) (opening : Bool) (t : Time) : State :=
  let old := s.mp.trans
  let s1 := s.addTrans o opening t
  match s.mp.tau with
  | none => s1
  | some last =>
    let behind := tdiff last (s.landTime o opening t)
    if behind < 0 ∨ ¬ s.on Reg.MAP_CTRL_PAINT_EN then s1
    else
      let n := behind.toNat / painterTicks + 1
      let taus := (List.range n).map (fun i => last - BitVec.ofNat 64 (painterTicks * (n - 1 - i)))
      let reach (x : Time) : Bool := decide (tdiff s.ft x ≤ 2048000000) && (s.poseAt x).isSome
      let lost := (taus.filter (fun x => !reach x && s1.lands o (s1.transOf o) x)).length
      let good := taus.filter reach
      match good with
      | [] => s1.paintLost lost
      | g :: _ => (s1.paintLost lost).backPaint old ((g - BitVec.ofNat 64 painterTicks) :: good)

/-- R135: the state of section `k`. -/
def State.sectionState (s : State) (k : Nat) : Nat :=
  let os := s.outlets.filter (fun o => decide (s.fld (Reg.OT_CFG_SECTION o) = k))
  if k = 255 ∨ os.isEmpty then 3
  else if os.any (fun o => s.on (Reg.OT_STATE_TARGET_ABSENT o) || (s.on (Reg.OT_STATE_DIVERGENT o) || s.on (Reg.OT_STATE_UNSURE o))) then 2
  else if os.any (fun o => s.on (Reg.OT_STATE_SEALED_OPEN o)) then 1
  else 0

/-- R135: SEC_STATE and the LANDING bits at a painter run. -/
def State.sections (s : State) (tau : Time) : State :=
  let s1 := s.outlets.foldl (fun s o => s.setBit (Reg.OT_STATE_LANDING o) (s.lands o (s.transOf o) tau)) s
  (List.range 16).foldl (fun s k =>
    s.setReg (0x409100 + 4 * (k % 16))
      (BitVec.ofNat 32 ((List.range 16).foldl (fun w i => w + 4 ^ i * s.sectionState (16 * k + i)) 0))) s1

/-- R133, R138: the painter run due at the present 1 ms multiple: none within a takeover or without a lane, and the first run after
a takeover paints the missed instants. After PAINT_LAG was raised the runs whose instant is not beyond the last painted one paint
nothing (DESIGN CHOICE, log 29). -/
def State.painterRun (s : State) : State :=
  let t := s.ft - BitVec.ofNat 64 (s.ft.toNat % painterTicks)
  let tau := t - BitVec.ofNat 64 (painterTicks * s.fld Reg.MAP_CTRL_PAINT_LAG)
  let st := s.fld Reg.RES_STATE_STATE
  if st = 1 ∨ st = 3 then { s with mp := { s.mp with missed := true } }
  else if ¬ s.on Reg.MAP_CTRL_PAINT_EN then
    let s1 := s.sections tau
    { s1 with mp := { s1.mp with tau := none, last := none, placed := [], unions := [], missed := false } }
  else
    let back := match s.mp.tau with
      | some l => if tdiff tau l ≤ 0 then 0 else (tdiff tau l).toNat / painterTicks
      | none => 1
    let n := if s.mp.missed then min back 256 else min back 1
    let taus := (List.range n).map (fun i => tau - BitVec.ofNat 64 (painterTicks * (n - 1 - i)))
    let s1 := taus.foldl (fun s x => s.paintInstant x) s
    ({ s1 with mp := { s1.mp with missed := false } }).sections tau

/-! The map page (R140). -/

/-- MAP_LAYER's thresholds are legal (R122, R473). -/
def layerLegal (v : Nat) : Bool :=
  let o := bitsOf v 0 9
  let c := bitsOf v 9 9
  inRange 1 257 o && (inRange 1 257 c && decide (c ≤ o))

/-- A write of a tile slot's control word (R124, R128). -/
def State.tileCtrlWrite (s : State) (sup : Bool) (k v : Nat) : State :=
  let s1 := if sup then s.setFld (Reg.TILE_CTRL_COV_WRITE k) (bitsOf v 6 1) else s
  let cmd := bitsOf v 3 2
  if cmd = 1 then s1.tileLoad k else if cmd = 2 then s1.tileCommit k else if cmd = 3 then s1.tileEvict k (bit v 5) else s1

/-- R123: COMMIT bits of RT_CTRL; one pending for a layer is merged. -/
def State.rateCommit (s : State) (v : Nat) : State :=
  s.setFld Reg.RT_CTRL_PENDING (s.fld Reg.RT_CTRL_PENDING ||| bitsOf v 0 4)

/-- R123: the frame start makes the committed staged tables active. -/
def State.rateFrame (s : State) : State :=
  let one (s : State) (l : Nat) : State :=
    if s.fbit Reg.RT_CTRL_PENDING l then
      let s1 := (List.range 64).foldl (fun s i => s.setFld (Reg.RT_ENTRY_RATE l i) (s.fld (Reg.RT_STAGED_RATE l i))) s
      { s1.setFbit Reg.RT_CTRL_PENDING l false with
        lg := { s1.lg with rtGen := sset (fun _ => 0) s1.lg.rtGen l (sget (fun _ => 0) s1.lg.rtGen l + 1) } }
    else s
  [0, 1, 2, 3].foldl one s

/-- A write in the map page (R140, R473); `sup` tells that the supervisor writes, otherwise a context the rules name does. -/
def State.mapWrite (s : State) (sup : Bool) (a v : Nat) : State :=
  let err := s.raise Reg.MAP_EVENT_CFG_ERR
  if a = 0x409000 then
    if sup then (if inRange 5 201 (bitsOf v 2 8) then s.writeCodes a v else err)
    else s.setFld Reg.MAP_CTRL_GATE_ALL (bitsOf v 0 1)
  else if inRange 0x409020 0x409030 a then (if layerLegal v then s.writeCodes a v else err)
  else if a = 0x409030 then s.rateCommit v
  else if inRange 0x409800 0x40A400 a then
    let k := (a - 0x409800) / 16
    let off := a % 16
    if off = 8 then s.tileCtrlWrite sup k v
    else if off < 8 then (if s.tileState k ≤ 1 then s.writeCodes a v else s)
    else s
  else if inRange 0x40A400 0x40A800 a then s.setReg (a + 0x400) (BitVec.ofNat 32 (v % 2 ^ 20))
  else s.writeCodes a v

end Sys2Proof.Machine
end

