-- ==== Sys2Proof/Machine/Drive.lean ====
section
/-! DEFINITION. Valve drive (chapter 7) up to the ledger: channel states and phases, sensing, the duty window, boost converters,
PWM units, trips. A channel only marks its search windows here; sealing them is in Fire.lean. -/

namespace Sys2Proof.Machine

/-- Fire copies in service. -/
def State.inService (s : State) : List Nat := (List.range 3).filter (fun c => s.fbit Reg.RES_STATE_FIRE_OK c)
def State.fireCopies (s : State) : Nat := s.inService.length

/-- Channel states (Table 7.2). -/
abbrev vOff : Nat := 0
abbrev vIdle : Nat := 1
abbrev vPreflux : Nat := 2
abbrev vOpening : Nat := 3
abbrev vHold : Nat := 4
abbrev vModOff : Nat := 5
abbrev vDecay : Nat := 6
abbrev vFault : Nat := 7

def State.valve (s : State) (n : Nat) : ValveState := sget (fun _ => {}) s.vd.valves n
def State.setValve (s : State) (n : Nat) (v : ValveState) : State :=
  { s with vd := { s.vd with valves := sset (fun _ => {}) s.vd.valves n v } }
def State.vState (s : State) (n : Nat) : Nat := s.fld (Reg.VCH_STATE_STATE n)

/-- Number of valve channels (R210). -/
def Variant.valves : Variant → Nat
  | .f0512 => 64
  | _ => 128

/-- The drive die of a channel or bank unit: 0 A, 1 B. -/
def dieOf (n : Nat) : Nat := if n < 64 then 0 else 1

/-- R207: the internal link of drive die `d` is up. -/
def State.dieUp (s : State) (d : Nat) : Bool := if d = 0 then s.on Reg.VD_STATUS_DIEA_LINK else s.on Reg.VD_STATUS_DIEB_LINK

/-- The profile of channel `n`; a decay after an unmapping keeps the one it had (R378). -/
def State.profile (s : State) (n : Nat) : Nat := (s.valve n).keptProf.getD (s.fld (Reg.VCH_CFG_PROFILE n))
/-- R179: the number of phases; 0 stands for 8. -/
def State.nph (s : State) (p : Nat) : Nat := if s.fld (Reg.PF_CFG_NPH p) = 0 then 8 else s.fld (Reg.PF_CFG_NPH p)
def State.closePh (s : State) (p : Nat) : Nat := s.fld (Reg.PF_CFG_CLOSE_PH p)

/-- A channel that drives or decays. -/
def vRuns (st : Nat) : Bool := decide (st = vPreflux) || (decide (st = vOpening) || (decide (st = vHold) || decide (st = vDecay)))

/-- A channel's state and phase, which begins now; its low side is on from the start of an opening phase (Table 7.1). -/
def State.vTo (s0 : State) (n st ph : Nat) : State :=
  let v := s0.valve n
  let s : State := s0.setValve n { v with
    kept := none, residual := false, low := decide (st = vOpening), since := if vRuns st then s0.ft else 0,
    lastEdge := if vRuns st then some s0.ft else v.lastEdge, keptProf := if st = vDecay then v.keptProf else none }
  (s.setFld (Reg.VCH_STATE_STATE n) st).setFld (Reg.VCH_STATE_PHASE n) ph

/-- R188: a later edge at time `t` ends the channel's search windows early. -/
def State.cutWins (s : State) (n : Nat) (t : Time) : State :=
  let v := s.valve n
  s.setValve n { v with wins := v.wins.map (fun w => if tdiff w.we t ≤ 0 then w else { w with we := t }) }

/-- R189: the open searches of a channel fail. -/
def State.spoilWins (s : State) (n : Nat) : State :=
  let v := s.valve n
  s.setValve n { v with wins := v.wins.map (fun w => if w.kind = 0 then { w with bad := true } else w) }

/-- R186: phase 0 begins. -/
def State.vOpen (s : State) (n : Nat) : State :=
  s.vTo n (if s.closePh (s.profile n) = 1 then vHold else vOpening) 0

/-- R179, R186: the close phases begin and lead to `after`; a channel that drives nothing goes there at once. -/
def State.vClose (s : State) (n after : Nat) : State :=
  let st := s.vState n
  let target := if after = 1 then vModOff else if after = 2 then vOff else if after = 3 then vFault else vIdle
  let s1 := s.setValve n { s.valve n with after := after, pf := none }
  if st = vIdle ∨ st = vModOff ∨ st = vOff ∨ st = vFault then s1.vTo n target 0
  else if st = vDecay then s1
  else s1.vTo n vDecay (s.closePh (s.profile n))

/-- R186: a channel goes to FAULT after a decay; `latched` asks for UNLATCH. -/
def State.vFail (s : State) (n : Nat) (bits : Nat) (latched : Bool) : State :=
  if s.vState n = vOff then s
  else
    let s1 := (s.setReg (0x524008 + 64 * (n % 128)) (s.reg (0x524008 + 64 * n) ||| BitVec.ofNat 32 bits)).raise Reg.VD_EVENT_CH_FAULT
    let s2 := (s1.cutWins n s1.ft).spoilWins n
    let s3 := s2.setValve n { s2.valve n with latched := latched || (s2.valve n).latched, safe := 0 }
    if s3.vState n = vFault then s3 else s3.vClose n 3

/-- R185: the event that pre-fluxed is cancelled or moved beyond PRE_LEAD: the channel decays without a search or a seal. -/
def State.prefluxStop (s : State) (entry : Nat) : State :=
  match s.vd.valves.find? (fun e => decide (e.2.pf = some entry)) with
  | some (n, _) => if s.vState n = vPreflux then s.vClose n 0 else s
  | none => s

/-- R180: phase `k` of a profile. -/
def State.phaseRec (s : State) (p k : Nat) : PhaseRec :=
  { kind := s.fld (Reg.PH_CFG_KIND p k), rise := s.fld (Reg.PH_CFG_RISE_CHK p k), itgt := s.fld (Reg.PH_ITGT_ITGT p k),
    band := s.fld (Reg.PH_BAND_BAND p k), tmax := s.fld (Reg.PH_TMAX_TMAX p k), riseMin := s.fld (Reg.PF_RISE_RISE_MIN p) }

/-- The phase in progress on channel `n`: as it began (R378). -/
def State.phaseNow (s : State) (n : Nat) : PhaseRec :=
  (s.valve n).kept.getD (s.phaseRec (s.profile n) (s.fld (Reg.VCH_STATE_PHASE n)))

/-- R195: a target, at derate level 1 capped at the HOLD target. -/
def State.capped (s : State) (n t : Nat) : Nat :=
  let p := s.profile n
  if s.fld (Reg.VCH_STATE_DERATE n) = 0 then t else min t (s.fld (Reg.PH_ITGT_ITGT p (s.closePh p - 1)))

/-- The target of the phase in progress. -/
def State.phTarget (s : State) (n : Nat) : Nat := s.capped n (s.phaseNow n).itgt

/-- R394: the reference group of a channel's die derates. -/
def State.derated (s : State) (g : Nat) : Bool := s.on (Reg.REF_STAT_DERATE g)

/-- R208, R468: a debug halt freezes channel `n`, unless a safe state or a fault has taken it. -/
def State.frozen (s : State) (n : Nat) : Bool :=
  s.on Reg.VD_STATUS_HALTED && (!s.on Reg.DBG_CFG_HALT_OFF && (decide ((s.valve n).safe = 0) && decide ((s.valve n).after ≠ 3)))

/-- Table 7.1: the phase in progress has ended, with the current at `now` (10 µA). -/
def State.phaseOver (s : State) (n : Nat) (now : Int) : Bool :=
  let ph := s.phaseNow n
  let late := decide (2000 * (ph.tmax : Int) ≤ tdiff s.ft (s.valve n).since)
  let t : Int := s.phTarget n
  match ph.kind with
  | 0 => decide (t ≤ now) || late
  | 1 => late
  | 3 => decide (ph.tmax ≠ 0) && late
  | _ => decide (now ≤ t) || late

/-- R189: the phase reached its target: `peak` is the largest current it saw, `now` the current at its end; a BYPASS phase falls to its
target. -/
def State.hitTarget (s : State) (n : Nat) (peak now : Int) : Bool :=
  if (s.phaseNow n).kind = 2 then decide (now ≤ (s.phTarget n : Int)) else decide ((s.phTarget n : Int) ≤ peak)

/-- R179, Table 7.2: the decay of channel `n` is over. -/
def State.decayed (s : State) (n : Nat) : State :=
  let after := (s.valve n).after
  s.vTo n (if after = 1 then vModOff else if after = 2 then vOff else if after = 3 then vFault else vIdle) 0

/-- R179–R181, R186: a phase ends, with the current at `now` and its largest at `peak`, 10 µA; a fast decay runs on
until the current is below 20 mA. -/
def State.phaseEnd (s : State) (n : Nat) (peak now : Int) : State :=
  let p := s.profile n
  let k := s.fld (Reg.VCH_STATE_PHASE n)
  let cp := s.closePh p
  let st := s.vState n
  if s.frozen n ∨ s.variant.valves ≤ n then s
  else if st = vDecay ∧ (s.valve n).residual then (if now < 2000 then s.decayed n else s)
  else if ¬ s.phaseOver n now then s
  else if st = vOpening then
    let ph := s.phaseNow n
    let riseMin : Int := if s.derated (1 + dieOf n) then (ph.riseMin : Int) * 15 / 16 else ph.riseMin
    let v := s.valve n
    let s1 := if k = 0 then
        s.setValve n { v with wins := v.wins.map (fun w => if w.kind = 0 ∧ w.entry.isSome then { w with reached := w.reached || s.hitTarget n peak now } else w) }
      else s
    if ph.rise = 1 ∧ ph.kind ≤ 1 ∧ peak < riseMin then s1.vFail n 1 true
    else if cp ≤ k + 2 then s1.vTo n vHold (k + 1)
    else s1.vTo n vOpening (k + 1)
  else if st = vDecay then
    if k + 1 < s.nph p then s.vTo n vDecay (k + 1)
    else if 2000 ≤ now then s.setValve n { s.valve n with residual := true }
    else s.decayed n
  else s

/-- R194: the current reached OC_LIM: the gate is off at once. -/
def State.overCurrent (s : State) (n : Nat) : State :=
  if s.variant.valves ≤ n then s else s.vFail n 2 true

/-! PWM units (R199–R203). -/

/-- Register base of a unit: main 0–127, auxiliary from 128. -/
def unitBase (u : Nat) : Nat := if u < 128 then 0x528000 + 32 * (u % 128) else 0x529000 + 32 * ((u - 128) % 16)
def uLedger (u : Nat) : Fld := ⟨unitBase u, 0, 1⟩
def uPending (u : Nat) : Fld := ⟨unitBase u, 1, 1⟩
def uClamp (u : Nat) : Fld := ⟨unitBase u, 2, 1⟩
def uPeriod (u : Nat) : Fld := ⟨unitBase u + 8, 0, 32⟩
def uDuty (u : Nat) : Fld := ⟨unitBase u + 0xC, 0, 20⟩
def uPhase (u : Nat) : Fld := ⟨unitBase u + 0x10, 0, 20⟩
def uActDuty (u : Nat) : Fld := ⟨unitBase u + 0x14, 0, 20⟩
def uActPeriod (u : Nat) : Fld := ⟨unitBase u + 0x18, 0, 32⟩

def State.unit (s : State) (u : Nat) : UnitState := sget (fun _ => {}) s.vd.units u
def State.setUnit (s : State) (u : Nat) (x : UnitState) : State :=
  { s with vd := { s.vd with units := sset (fun _ => {}) s.vd.units u x } }

/-- The units the variant has (R210). -/
def Variant.units : Variant → List Nat
  | .f0512 => List.range 64 ++ (List.range 8).map (· + 128)
  | _ => List.range 144

/-- R201: the unit that modulates channel `n`. -/
def State.unitOf (s : State) (n : Nat) : Nat :=
  if s.on (Reg.VCH_CFG_MOD_AUX n) then 128 + 8 * dieOf n + s.fld (Reg.VCH_CFG_AUX n) else n

/-- R201: channel `n` is duty-modulated. -/
def State.modulated (s : State) (n : Nat) : Bool :=
  s.on (Reg.VCH_CFG_MAPPED n) && s.on (Reg.OT_CFG_DUTY_MOD (s.fld (Reg.VCH_CFG_OUTLET n)))

/-- R200: the length of a pulse of unit `u`, none when continuously on. -/
def State.pulseTicks (s : State) (u : Nat) : Option Nat :=
  let d := s.fld (uActDuty u)
  if d = 0xFFFFF then none else some (d * s.fld (uActPeriod u) / 2 ^ 20)

/-- R201: the channel's pulse begins at `t`. -/
def State.beginPulse (s : State) (n : Nat) (t : Time) : State :=
  if s.modulated n then
    s.setValve n { s.valve n with pulse := some (t, (s.pulseTicks (s.unitOf n)).map (fun d => tadd t d)) }
  else s

/-- MOD_GAP: the sum of the close phases' time limits (R201), ticks. -/
def State.modGap (s : State) (p : Nat) : Nat :=
  ((List.range (s.nph p - s.closePh p)).map (fun i => s.fld (Reg.PH_TMAX_TMAX p (s.closePh p + i)))).foldl (· + ·) 0 * 2000

/-- R200: the first grid on-edge of unit `u` at or after `t`. -/
def State.gridOn (s : State) (u : Nat) (t : Time) : Time :=
  let per := s.fld (uActPeriod u)
  let g0 := tadd s.vd.spStart ((s.unit u).phase * per / 2 ^ 20 : Nat)
  let d := tdiff t g0
  if per = 0 ∨ d ≤ 0 then g0 else tadd g0 (((d.toNat + per - 1) / per) * per : Nat)

/-- The present time of the modulation counters: a debug halt stops them (R208). -/
def State.modNow (s : State) : Time := s.vd.haltFt.getD s.ft

/-- R202: the active duty of unit `u` becomes `d`, held at 10 % or above, and the pulses in progress end accordingly. -/
def State.loadDuty (s : State) (u d : Nat) : State :=
  let d1 := max d 0x1999A
  let s1 := (s.setFld (uActDuty u) d1).setBit (uClamp u) (decide (d < 0x1999A))
  (List.range s1.variant.valves).foldl (fun s n =>
    let v := s.valve n
    match v.pulse with
    | some (start, _) =>
      if s.unitOf n = u ∧ (s.vState n = vOpening ∨ s.vState n = vHold) then
        let e := (s.pulseTicks u).map (fun d => let x := tadd start d; if tdiff x s.modNow < 0 then s.modNow else x)
        s.setValve n { v with pulse := some (start, e) }
      else s
    | none => s) s1

/-- R202, R203: unit `u` is loaded, `sp` being the super-period then in force; false where its period does not divide it. -/
def State.loadUnit (s : State) (u sp : Nat) : State × Bool :=
  let per := s.fld (uPeriod u)
  if per = 0 ∨ sp % per ≠ 0 then (s, false)
  else
    let s1 := if s.on (uLedger u) then s else s.loadDuty u (s.fld (uDuty u))
    ((s1.setUnit u { s1.unit u with wait := some (per, s1.fld (uPhase u)) }).setFld (uPending u) 0, true)

/-- The units loaded in turn; CFG_ERR where one was not. -/
def State.loadUnits (s : State) (us : List Nat) (sp : Nat) (err : Bool) : State :=
  let r := us.foldl (fun (a : State × Bool) u => let b := a.1.loadUnit u sp; (b.1, a.2 && b.2)) (s, true)
  r.1.raiseIf (!r.2 || err) Reg.VD_EVENT_CFG_ERR

/-- R200: the super-period that will be in force. -/
def State.spNext (s : State) : Nat := s.vd.spWait.getD s.vd.spAct

/-- R202, R203: LOADALL0 to LOADALL3. -/
def State.loadAll (s : State) (sup : Bool) (k v : Nat) : State :=
  let us := ((List.range 32).filter (bit v)).map (· + 32 * k)
  let mine := us.filter (fun u => sup || !s.on (uLedger u))
  s.loadUnits (mine.filter s.variant.units.contains) s.spNext (decide (mine.length < us.length))

/-- R202: the period a unit will have after a write that loads the auxiliary units `us`. -/
def State.periodAfter (s : State) (us : List Nat) (u : Nat) : Nat :=
  if us.contains u then s.fld (uPeriod u)
  else match (s.unit u).wait with
    | some w => w.1
    | none => s.fld (uActPeriod u)

/-- R202, R203: LOADALL_AUX. -/
def State.loadAllAux (s : State) (sup : Bool) (v : Nat) : State :=
  let us := (((List.range 16).filter (bit v)).map (· + 128)).filter s.variant.units.contains
  let mine := us.filter (fun u => sup || !s.on (uLedger u))
  let spBit := bit v 16
  let dropped := decide (mine.length < us.length) || (spBit && !sup)
  if spBit && sup then
    let sp := s.fld Reg.SP_PERIOD_PERIOD
    let ok := decide (sp ≠ 0) && s.variant.units.all (fun u => let p := s.periodAfter mine u; decide (p ≠ 0) && decide (sp % p = 0))
    if ok then { s with vd := { s.vd with spWait := some sp } }.loadUnits mine sp dropped
    else s.raise Reg.VD_EVENT_CFG_ERR
  else s.loadUnits mine s.spNext dropped

/-- R200, R202, R53: the next super-period start, once field time has reached it: waiting periods and phases come into force, and a new
super-period, whose first start is its first multiple at or after this one. -/
def State.superPeriod (s : State) : State :=
  let t := s.ft - BitVec.ofNat 64 (s.ft.toNat % max s.vd.spAct 1)
  if s.vd.haltFt.isSome ∨ tdiff t s.vd.spStart ≤ 0 then s
  else
    let s1 := s.vd.units.foldl (fun s e =>
      match (s.unit e.1).wait with
      | some (per, ph) => (s.setUnit e.1 { phase := ph, wait := none }).setFld (uActPeriod e.1) per
      | none => s) s
    let s2 : State := { s1 with vd := { s1.vd with spAct := s1.vd.spWait.getD s1.vd.spAct, spWait := none, spStart := t } }
    s2.syncPulse 2 t

/-! Regulation (R178, R182, R185, R199). -/

/-- R199, R201: the chopper period of channel `n`'s unit, and how far it has run at `t`; a debug halt stops its counter (R208). -/
def State.chopPer (s : State) (n : Nat) : Nat := s.fld (Reg.PWM_CHOP_CHOP_PER n)
def State.chopAge (s : State) (n : Nat) (t : Time) : Nat :=
  let per := max (s.chopPer n) 1
  ((s.vd.haltFt.getD t - s.vd.chopLag).toNat + per - per * (n % 8) / 8) % per

/-- R199: the first chopper period start of channel `n` after `t`. -/
def State.chopNext (s : State) (n : Nat) (t : Time) : Time := tadd t (max (s.chopPer n) 1 - s.chopAge n t : Nat)

/-- The class of outlet `o` (R113). -/
def State.cls (s : State) (o : Nat) : Nat := s.fld (Reg.OT_CFG_CLASS o)

/-- R185: the pre-flux level of channel `n`. -/
def State.preTarget (s : State) (n : Nat) : Nat :=
  let p := s.profile n
  min (s.fld (Reg.CL_PREFLUX_PREFLUX (s.cls (s.fld (Reg.VCH_CFG_OUTLET n)))) * s.fld (Reg.PF_PULL_I_PULL p) / 100) (s.fld (Reg.PF_MOVE_I_MOVE p) * 7 / 8)

/-- R182: the chopper at `t` with the current at `i`, `dt` ticks after the instant at which the low side was `low`. -/
def State.chop (s : State) (n tgt : Nat) (low : Bool) (t : Time) (dt : Nat) (i : Int) : Bool :=
  let d := s.chopAge n t
  if (tgt : Int) ≤ i ∨ 95 * s.chopPer n ≤ 100 * d then false else if d < dt then true else low

/-- Table 7.1, R182, R185: the low side of channel `n` at `t`, likewise; a debug halt holds it (R208). -/
def State.switching (s : State) (n : Nat) (low : Bool) (t : Time) (dt : Nat) (i : Int) : Bool :=
  let ph := s.phaseNow n
  let tgt := s.phTarget n
  let st := s.vState n
  if s.frozen n then low
  else if st = vPreflux then s.chop n (s.preTarget n) low t dt i
  else if st = vHold ∨ (st = vOpening ∧ ph.kind = 3) then s.chop n tgt low t dt i
  else if st = vOpening then
    if ph.kind = 1 then (if (tgt : Int) ≤ i then false else if i ≤ (tgt : Int) - ph.band then true else low) else true
  else false

/-- The gate of channel `n`: its low side, unless a stop, a trip in cycle mode or the comparator's cap has it off (R204, R205, R208). -/
def State.gate (s : State) (n : Nat) : Bool :=
  let v := s.valve n
  let tripped := v.tripOff || v.resume.any (fun t => !tge s.ft t)
  let capped := decide (s.fld (Reg.VCH_STATE_DERATE n) ≠ 0) && decide ((s.phTarget n : Int) ≤ s.sfld (Reg.VCH_IMEAS_I n))
  v.low && (!s.vd.stopLow && (!tripped && !(s.frozen n && capped)))

/-- R178: the high-side selector of a bank: both off, on battery, on boost. -/
inductive Selector
  | off | battery | boost
  deriving DecidableEq, Repr

/-- The channels of bank `k`. -/
def bankOf (k : Nat) : List Nat := (List.range 8).map (8 * k + ·)

/-- R178: some channel of the bank is in a BOOST phase while its converter is enabled. -/
def State.bankBoost (s : State) (k : Nat) : Bool :=
  s.on (Reg.BST_CTRL_BST_EN (dieOf (8 * k))) && (bankOf k).any (fun m => decide (s.vState m = vOpening) && decide ((s.phaseNow m).kind = 0))

/-- R178, Table 7.1: channel `n` is energised from the bank: driven, and not in a BYPASS phase. -/
def State.energised (s : State) (n : Nat) : Bool :=
  let st := s.vState n
  decide (st = vPreflux) || (decide (st = vHold) || (decide (st = vOpening) && decide ((s.phaseNow n).kind ≠ 2)))

/-- R178, R205: the selector of bank `k`. -/
def State.selector (s : State) (k : Nat) : Selector :=
  if s.vd.stopLow then .off else if s.bankBoost k then .boost else if (bankOf k).any s.energised then .battery else .off

/-! Protection and sensing (R193–R195). -/

/-- R193: a continuity reading in mV, taken only in IDLE. -/
def State.senseTest (s : State) (n : Nat) (mv : Int) : State :=
  if s.variant.valves ≤ n ∨ s.vState n ≠ vIdle then s
  else
    let v := s.valve n
    let isOpen := decide (2000 < mv)
    let v1 := { v with openReads := if isOpen then v.openReads + 1 else 0, okReads := if isOpen then 0 else v.okReads + 1 }
    let s1 := s.setValve n v1
    let freeze (s : State) (b : Bool) : State :=
      if s.on (Reg.VCH_CFG_MAPPED n) then
        let o := s.fld (Reg.VCH_CFG_OUTLET n)
        (s.setBit (Reg.OT_LRN_OPEN_FROZEN o) b).setBit (Reg.OT_LRN_CLOSE_FROZEN o) b
      else s
    if v1.openReads = 2 then freeze ((s1.setFld (Reg.VCH_STATE_SENSE_OPEN n) 1).raise Reg.VD_EVENT_SENSE_OPEN) true
    else if v1.okReads = 16 then freeze (s1.setFld (Reg.VCH_STATE_SENSE_OPEN n) 0) false
    else s1

/-- R195: the square sum of 1 ms of current samples. -/
def heatOf (samples : List Int) : Nat :=
  samples.foldl (fun q i => let c := min (i.natAbs / 1024) 1023; q + c * c) 0

/-- R195: the derate level from H and its limit. -/
def derateNext (level h lim : Nat) : Nat :=
  if level = 0 then (if lim < h then 1 else 0)
  else if h ≤ 3 * lim / 4 then 0
  else if level = 1 ∧ 5 * lim / 4 < h then 2
  else level

/-- R182: when the low side of channel `n` switched to `b` within `dt` ticks before `t`: a chopper turns on at its period's start and off at
95 % of it, to the tick; the comparator's crossing lies between two samples, where a free value puts it. -/
def State.edgeTick (s : State) (n : Nat) (b : Bool) (t : Time) (dt : Nat) : Time :=
  let d := s.chopAge n t
  let chops := decide (s.vState n = vPreflux) || (decide (s.vState n = vHold) || decide ((s.phaseNow n).kind = 3))
  let off := (95 * s.chopPer n + 99) / 100
  if chops && (b && decide (d < dt)) then tadd t (-(d : Int))
  else if chops && (!b && (decide (off ≤ d) && decide (d - off < dt))) then tadd t (-((d - off : Nat) : Int))
  else tadd t (-((Config.crossing n t.toNat % dt : Nat) : Int))

/-- R182, R187: 1 ms of current samples at FT multiples of 8,000 ticks, up to the present one: the low side at its end, and when it last
switched. -/
def State.regulated (s : State) (n : Nat) (samples : List Int) : Bool × Option Time :=
  let t0 := s.ft - BitVec.ofNat 64 (s.ft.toNat % 8000 + 8000 * (samples.length - 1))
  let v := s.valve n
  samples.zipIdx.foldl (fun (a : Bool × Option Time) e =>
    let t := tadd t0 (8000 * e.2 : Nat)
    let b := s.switching n a.1 t 8000 e.1
    (b, if b = a.1 then a.2 else some (s.edgeTick n b t 8000))) (v.low, v.lastEdge)

/-- R189: a current sample of phase 0 in progress on channel `n` has reached its target: the searches of its opening know it. -/
def State.reachMark (s : State) (n : Nat) (samples : List Int) : State :=
  let st := s.vState n
  let v := s.valve n
  let t0 := s.ft - BitVec.ofNat 64 (s.ft.toNat % 8000 + 8000 * (samples.length - 1))
  let mine := (samples.zipIdx.filter (fun e => decide (0 ≤ tdiff (tadd t0 (8000 * e.2 : Nat)) v.since))).map (·.1)
  if (st = vOpening ∨ st = vHold) ∧ s.fld (Reg.VCH_STATE_PHASE n) = 0 ∧ mine.any (fun i => s.hitTarget n i i) then
    s.setValve n { v with wins := v.wins.map (fun w => if w.kind = 0 ∧ w.entry.isSome then { w with reached := true } else w) }
  else s

/-- R187: the latest samples of channel `n`, current and coil voltage. -/
def State.sampled (s : State) (n : Nat) (samples : List Int) (mv : Int) : State :=
  let s1 : State := match samples.getLast? with | some i => s.setSfld (Reg.VCH_IMEAS_I n) i | none => s
  s1.setSfld (Reg.VCH_VMEAS_V n) mv

/-- R195: the heat of channel `n` after 1 ms of current samples: its buckets, H and limit. -/
def State.heated (s : State) (n : Nat) (samples : List Int) : State × Nat × Nat :=
  let v := s.valve n
  let win := s.fld (Reg.VCH_DW_DW_WIN n)
  let b1 := sset (fun _ => 0) v.buckets v.bucket (sget (fun _ => 0) v.buckets v.bucket + heatOf samples)
  let ends := decide (win ≤ v.msIn + 1)
  let nb := if ends then (v.bucket + 1) % 100 else v.bucket
  let b2 := if ends then sset (fun _ => 0) b1 nb 0 else b1
  (s.setValve n { v with buckets := b2, bucket := nb, msIn := if ends then 0 else v.msIn + 1 }, b2.foldl (fun a e => a + e.2) 0,
    s.fld (Reg.PF_DW_DW_LIM (s.profile n)) * 1000 * 100 * win)

/-- R182, R187, R195: 1 ms of current samples of channel `n`, 10 µA, with the last voltage sample, mV. -/
def State.dutyWindow (s : State) (n : Nat) (samples : List Int) (mv : Int) : State :=
  if s.variant.valves ≤ n then s
  else
    let g := s.regulated n samples
    let s0 := ((s.setValve n { s.valve n with low := g.1, lastEdge := g.2 }).reachMark n samples).sampled n samples mv
    let r := s0.heated n samples
    let h := r.2.1
    let lim := r.2.2
    let old := s.fld (Reg.VCH_STATE_DERATE n)
    let lv := derateNext old h lim
    let s2 := (r.1.setFld (Reg.VCH_STATE_DERATE n) lv).setFld (Reg.VCH_HEAT_RATIO n) (if lim = 0 then (if h = 0 then 0 else 0xFFFFF) else min (1024 * h / lim) 0xFFFFF)
    let s3 := s2.raiseIf (decide (old = 0) && decide (lv = 1)) Reg.VD_EVENT_DUTY_HOLD
    let s4 := if lv ≠ 0 ∧ s3.vState n = vPreflux then s3.vClose n 0 else s3
    if lv = 2 ∧ old ≠ 2 then s4.vFail n 8 false
    else if lv = 0 ∧ s4.vState n = vFault ∧ ¬ (s4.valve n).latched ∧ s4.fld (Reg.VCH_FAULT_OPEN_COIL n) = 0 ∧
        s4.fld (Reg.VCH_FAULT_SHORT n) = 0 ∧ s4.fld (Reg.VCH_FAULT_TRIP n) = 0 then s4.vTo n vIdle 0
    else s4

/-- Channel `n` is masked by trip input `t` (R204). -/
def State.tripMasks (s : State) (t n : Nat) : Bool := s.fbit (Reg.TRIP_MASK_CH t (n / 32)) (n % 32)

/-- R186: CH_CLEAR.UNLATCH. -/
def State.unlatch (s : State) (n : Nat) : State :=
  if s.vState n = vFault ∧ s.fld (Reg.VCH_FAULT_OPEN_COIL n) = 0 ∧ s.fld (Reg.VCH_FAULT_SHORT n) = 0 ∧ s.fld (Reg.VCH_FAULT_TRIP n) = 0 ∧
      s.fld (Reg.VCH_STATE_DERATE n) < 2 ∧ (List.range 8).all (fun t => !(s.on (Reg.TRIP_CFG_TRIPPED t) && s.tripMasks t n)) then
    (s.setValve n { s.valve n with latched := false }).vTo n vIdle 0
  else s

/-- The channels that trip input `t` masks. -/
def State.tripChans (s : State) (t : Nat) : List Nat := (List.range s.variant.valves).filter (s.tripMasks t)

/-- R204: asserted inputs in cycle mode hold their channels off; a channel that none holds any more drives again from its next chopper
period start. -/
def State.tripSettle (s : State) : State :=
  let by' := s.vd.trips.filter (fun t => s.on (Reg.TRIP_CFG_EN t) && !s.on (Reg.TRIP_CFG_LATCH t))
  (List.range s.variant.valves).foldl (fun s n =>
    let off := by'.any (fun t => s.tripMasks t n)
    if off = (s.valve n).tripOff then s
    else if off then let s1 := s.cutWins n s.ft; s1.setValve n { s1.valve n with tripOff := true, resume := none }
    else s.setValve n { s.valve n with tripOff := false, resume := some (s.chopNext n s.ft) }) s

/-- R204: a latched trip takes channel `n` to FAULT by fast decay. -/
def State.tripFail (s : State) (n : Nat) : State :=
  let s1 := s.vFail n 4 true
  if s1.vState n = vDecay then s1.setValve n { s1.valve n with residual := true, low := false } else s1

/-- R204: an asserted, enabled input acts on channels `cs`: latched, they go to FAULT with TRIP set. -/
def State.tripAct (s : State) (t : Nat) (cs : List Nat) : State :=
  if s.on (Reg.TRIP_CFG_LATCH t) then cs.foldl (fun s n => s.tripFail n) (s.setFld (Reg.TRIP_CFG_TRIPPED t) 1)
  else s.tripSettle

/-- R204: an enabled input turns asserted. -/
def State.tripOn (s : State) (t : Nat) : State := (s.raise Reg.VD_EVENT_TRIP).tripAct t (s.tripChans t)

/-- R182, R204: how long ago the chopper of channel `n` last switched by its own counter: at its period's start or at 95 % of it. -/
def State.chopEdge (s : State) (n : Nat) : Option Nat :=
  let d := s.chopAge n s.ft
  let off := (95 * s.chopPer n + 99) / 100
  let chops := decide (s.vState n = vPreflux) || (decide (s.vState n = vHold) || (decide (s.vState n = vOpening) && decide ((s.phaseNow n).kind = 3)))
  if chops && !s.frozen n then some (if off ≤ d ∧ (s.valve n).low then d - off else d) else none

/-- R204: the present time lies in the blanking window of an edge of a channel that input `t` masks. -/
def State.blanked (s : State) (t : Nat) : Bool :=
  let w : Int := 800 * (s.fld (Reg.TRIP_CFG_BLANK t) : Int)
  (s.tripChans t).any (fun n => (s.valve n).lastEdge.any (fun e => decide (tdiff s.ft e < w)) || (s.chopEdge n).any (fun d => decide ((d : Int) < w)))

/-- R204: a trip input has held its asserting level for `held` samples. -/
def State.tripAssert (s : State) (t held : Nat) : State :=
  if t < 8 ∧ s.fld (Reg.TRIP_CFG_FILT t) ≤ held ∧ ¬ s.blanked t then
    let s0 := { s with vd := { s.vd with trips := if s.vd.trips.contains t then s.vd.trips else s.vd.trips ++ [t] } }
    if s0.on (Reg.TRIP_CFG_EN t) then s0.tripOn t else s0
  else s

/-- R204: a trip input deasserts. -/
def State.tripDeassert (s : State) (t : Nat) : State := { s with vd := { s.vd with trips := s.vd.trips.filter (· ≠ t) } }.tripSettle

/-- R204: a write of TRIP_CFG of input `t`: a level that the new POL makes asserting counts, and an asserted input acts once enabled. -/
def State.tripCfg (s : State) (t a v : Nat) : State :=
  let was := s.on (Reg.TRIP_CFG_EN t) && s.vd.trips.contains t
  let s1 := s.writeCodes a v
  let s2 : State := if s1.on (Reg.TRIP_CFG_POL t) = s.on (Reg.TRIP_CFG_POL t) then s1
    else { s1 with vd := { s1.vd with trips := if s1.vd.trips.contains t then s1.vd.trips.filter (· ≠ t) else s1.vd.trips ++ [t] } }
  if s2.on (Reg.TRIP_CFG_EN t) ∧ s2.vd.trips.contains t ∧ ¬ was then s2.tripOn t else s2.tripSettle

/-- R204, R210: a write of mask word `k` of input `t`; an asserted input acts on the channels newly masked. -/
def State.tripMask (s : State) (t k a v : Nat) : State :=
  if s.variant.valves ≤ 32 * k then s
  else
    let s1 := s.writeCodes a v
    if s1.on (Reg.TRIP_CFG_EN t) ∧ s1.vd.trips.contains t then s1.tripAct t ((s1.tripChans t).filter (fun n => !s.tripMasks t n)) else s1

/-- R204: CLEAR releases a latched trip once its input has deasserted. -/
def State.tripClear (s : State) (t : Nat) : State :=
  if s.vd.trips.contains t then s else s.setFld (Reg.TRIP_CFG_TRIPPED t) 0

/-- R184: a die's replica measurement, in ticks. -/
def State.gateComp (s : State) (die lambda : Nat) : State :=
  if s.on Reg.VD_CTRL_GATE_COMP_EN ∧ die < 2 ∧ s.dieUp die then
    s.setFld (if die = 0 then Reg.VD_GATECOMP_LAT_A else Reg.VD_GATECOMP_LAT_B) (min lambda 255)
  else s

/-! Boost converters (R196–R198). -/

/-- The variant has boost converter `b` (R210). -/
def State.boost (s : State) (b : Nat) : Bool := decide (b = 0) || (decide (b = 1) && decide (s.variant ≠ .f0512))

/-- R197: the ramp restarts from the measured rail voltage (10 mV units). -/
def State.rampFrom (s : State) (b meas : Nat) : State :=
  let s1 := (s.setFld (Reg.BST_MEAS_MEAS b) meas).setFld (Reg.BST_REF_REF b) (100 * meas)
  s1.setBit (Reg.BST_STAT_SLEWING b) (decide (meas ≠ s1.fld (Reg.BST_SET_SET b)))

/-- R197: a write of BST_SET with the rail at `meas`. -/
def State.bstSet (s : State) (b v meas : Nat) : State :=
  if 7200 < bitsOf v 0 20 then s.raise Reg.VD_EVENT_CFG_ERR
  else (s.setFld (Reg.BST_SET_SET b) v).rampFrom b meas

/-- R196, R197: a write of BST_CTRL with the rail at `meas`. -/
def State.bstEn (s : State) (b v meas : Nat) : State :=
  let was := s.on (Reg.BST_CTRL_BST_EN b)
  let s1 := (s.setFld (Reg.BST_CTRL_BST_EN b) v).setBit (Reg.BST_STAT_BST_OFF b) (!bit v 0)
  if bit v 0 then (if was then s1 else s1.rampFrom b meas)
  else (s1.setFld (Reg.BST_STAT_SLEWING b) 0).setFld (Reg.BST_STAT_LOW b) 0

/-- R197: one 10 µs step of the reference; the rail's measurement is taken too. -/
def State.bstStep (s : State) (b meas : Nat) : State :=
  if s.boost b then
    let s0 := s.setFld (Reg.BST_MEAS_MEAS b) meas
    let s1 := if 200 + meas < s0.fld (Reg.BST_SET_SET b) then s0 else s0.setFld (Reg.BST_STAT_LOW b) 0
    if s1.on (Reg.BST_STAT_SLEWING b) then
      let target : Int := 100 * s1.fld (Reg.BST_SET_SET b)
      let r : Int := s1.fld (Reg.BST_REF_REF b)
      let st : Int := s1.fld (Reg.BST_SLEW_SLEW b)
      let r1 := if r < target then min (r + st) target else max (r - st) target
      (s1.setFld (Reg.BST_REF_REF b) r1.toNat).setBit (Reg.BST_STAT_SLEWING b) (decide (r1 ≠ target))
    else s1
  else s

/-- R198: the rail reached 74.0 V. -/
def State.bstOv (s : State) (b : Nat) : State :=
  if s.boost b then (s.setFld (Reg.BST_STAT_OV b) 1).raise Reg.VD_EVENT_BST_OV else s

/-- R198: the rail fell below 73.0 V. -/
def State.bstOvEnd (s : State) (b : Nat) : State := if s.boost b then s.setFld (Reg.BST_STAT_OV b) 0 else s

/-- R198: the rail stayed 2.00 V low for 1 ms while enabled. -/
def State.bstLow (s : State) (b : Nat) : State :=
  if s.boost b ∧ s.on (Reg.BST_CTRL_BST_EN b) then (s.setFld (Reg.BST_STAT_LOW b) 1).raise Reg.VD_EVENT_BST_LOW else s

/-! Safe states (R205–R207). -/

/-- R206, R209: channel `n` takes its safe state, without a seal, and leaves its modulation (R207); before the link handshake its die drives
nothing. -/
def State.vSafe (s : State) (n : Nat) : State :=
  let st := s.vState n
  if st = vOff ∨ st = vFault ∨ (st = vDecay ∧ 2 ≤ (s.valve n).after) ∨ ¬ s.vd.shaken.contains (dieOf n) then s
  else
    let s1 := s.cutWins n s.ft
    if s1.on (Reg.OT_CFG_SAFE_OPEN (s.fld (Reg.VCH_CFG_OUTLET n))) ∧ s1.on (Reg.VCH_CFG_MAPPED n) ∧ ¬ s1.vd.stopLow then
      let s2 := if st = vOpening ∨ st = vHold then s1 else s1.vOpen n
      s2.setValve n { s2.valve n with safe := 2, pf := none, after := 0, pulse := none }
    else
      let s2 := s1.vClose n 0
      s2.setValve n { s2.valve n with safe := 1 }

/-- The channels that an outlet of the table maps (R209). -/
def State.mapped (s : State) : List Nat := (List.range s.variant.valves).filter (fun n => s.on (Reg.VCH_CFG_MAPPED n))

/-- R206 on every channel. -/
def State.valvesSafe (s : State) : State := s.mapped.foldl (fun s n => s.vSafe n) s

/-- R205: STOP_N low takes the drive of every channel away. -/
def State.valvesStop (s : State) : State :=
  let one (s : State) (n : Nat) : State :=
    let st := s.vState n
    let s1 := (s.cutWins n s.ft).spoilWins n
    if st = vOff ∨ st = vFault ∨ (st = vDecay ∧ 2 ≤ (s.valve n).after) then s1
    else let s2 := s1.vClose n 0; s2.setValve n { s2.valve n with safe := 1 }
  (List.range s.variant.valves).foldl one { s with vd := { s.vd with stopLow := true } }

/-- R398: the safe states of the channels end: what they held open closes without a seal. -/
def State.valvesRelease (s : State) : State :=
  (List.range s.variant.valves).foldl (fun s n =>
    let v := s.valve n
    if ¬ s.dieUp (dieOf n) then s
    else if v.safe = 2 then let s1 := s.vClose n 0; s1.setValve n { s1.valve n with safe := 0 }
    else if v.safe = 1 then s.setValve n { v with safe := 0 } else s) s

/-- R35, R209: the drive dies lose their supply: nothing drives, and they start as from reset. -/
def State.driveUnpowered (s : State) : State :=
  { s with regs := s.regs.filter (fun e => !(inRange 0x520000 0x530000 e.1)), vd := { stopLow := s.vd.stopLow } }

/-- R19, R207: the core die is down: drive die `d` loses its link and takes its channels' safe states on its own. -/
def State.driveAlone (s : State) (d : Nat) : State :=
  let s1 := s.setFld (if d = 0 then Reg.VD_STATUS_DIEA_LINK else Reg.VD_STATUS_DIEB_LINK) 0
  (s1.mapped.filter (fun n => decide (dieOf n = d))).foldl (fun s n => s.vSafe n) s1

/-- R207: the link of drive die `d` is lost: its channels take their safe states and record the loss. -/
def State.driveDieLost (s : State) (d : Nat) : State :=
  if s.dieUp d then
    let s1 := (s.setFld (if d = 0 then Reg.VD_STATUS_DIEA_LINK else Reg.VD_STATUS_DIEB_LINK) 0).raise Reg.VD_EVENT_LINK_LOST
    ((List.range s1.variant.valves).filter (fun n => decide (dieOf n = d))).foldl
      (fun s n => (if s.on (Reg.VCH_CFG_MAPPED n) then s.vSafe n else s).setFld (Reg.VCH_FAULT_LINK n) 1) s1
  else s

/-- R207, R209: the link of drive die `d` is up: where no hold stands, its channels resume from their safe states and obey new
committed events; else a die that has just started takes the safe states. -/
def State.driveDieUp (s : State) (d : Nat) : State :=
  if d = 1 ∧ s.variant = .f0512 then s
  else
    let s0 := s.setFld (if d = 0 then Reg.VD_STATUS_DIEA_LINK else Reg.VD_STATUS_DIEB_LINK) 1
    let s1 : State := { s0 with vd := { s0.vd with shaken := s0.vd.shaken.filter (· ≠ d) ++ [d] } }
    if s1.ls.stop ∨ s1.ls.halt ∨ s1.ls.safe then
      (if s.vd.shaken.contains d then s1 else (s1.mapped.filter (fun n => dieOf n = d)).foldl (fun s n => s.vSafe n) s1)
    else { s1 with vd := { s1.vd with valves := s1.vd.valves.filterMap (fun e =>
      let v : ValveState := if dieOf e.1 = d then { e.2 with safe := 0 } else e.2
      if v = {} then none else some (e.1, v)) } }

/-! Registers (R211). -/

/-- R178: the bank of channel `n` is on boost. -/
def State.boosted (s : State) (n : Nat) : Bool := decide (s.selector (n / 8) = .boost)

/-- A staged write of a unit register (R200, R203, R473). -/
def State.unitWrite (s : State) (u off v : Nat) : State :=
  let err := s.raise Reg.VD_EVENT_CFG_ERR
  let pend (s : State) : State := s.setFld (uPending u) 1
  if off = 4 then (if u < 128 then (if inRange 200000 400001 (bitsOf v 0 20) then s.setFld ⟨unitBase u + 4, 0, 20⟩ v else err) else s)
  else if off = 8 then (if inRange 80000000 800000001 v then pend (s.setFld (uPeriod u) v) else err)
  else if off = 0xC then (if s.on (uLedger u) then err else pend (s.setFld (uDuty u) v))
  else if off = 0x10 then pend (s.setFld (uPhase u) v)
  else s

/-- A write in the drive block (R211, R473); boost rows come with the rail's last measurement; a PWM load-all takes effect only while two
fire copies in service agree on it (R24). -/
def State.vdWrite (s : State) (sup : Bool) (a v : Nat) : State :=
  let err := s.raise Reg.VD_EVENT_CFG_ERR
  if inRange 0x520018 0x52002C a ∧ s.fireCopies < 2 then s
  else if inRange 0x520018 0x520028 a then s.loadAll sup ((a - 0x520018) / 4) v
  else if a = 0x520028 then s.loadAllAux sup v
  else if inRange 0x520100 0x520140 a then
    let b := (a - 0x520100) / 32
    let meas := s.fld (Reg.BST_MEAS_MEAS b)
    if a % 32 = 0 then s.bstEn b v meas else if a % 32 = 4 then s.bstSet b v meas else s.writeCodes a v
  else if inRange 0x520200 0x520300 a then
    let t := (a - 0x520200) / 32
    if a % 32 = 0 then
      if 100 < bitsOf v 3 7 ∨ bitsOf v 10 8 = 0 then err
      else let s1 := s.tripCfg t a v; if bit v 19 then s1.tripClear t else s1
    else if a % 32 < 20 then s.tripMask t (a % 32 / 4 - 1) a v
    else s.writeCodes a v
  else if inRange 0x524000 0x526000 a then
    let n := (a - 0x524000) / 64
    if a % 64 = 0xC then (if bit v 0 then s.unlatch n else s)
    else if a % 64 = 0x1C then (if inRange 1 101 (bitsOf v 0 7) then s.writeCodes a v else err)
    else s.writeCodes a v
  else if inRange 0x528000 0x529000 a then s.unitWrite ((a - 0x528000) / 32) (a % 32) v
  else if inRange 0x529000 0x529200 a then s.unitWrite (128 + (a - 0x529000) / 32) (a % 32) v
  else s.writeCodes a v

/-- Drive words computed when read: BOOSTED of CH_STATE. -/
def State.vdRead (s : State) (a : Nat) : Option Nat :=
  if inRange 0x524000 0x526000 a && a % 64 == 4 then
    let n := (a - 0x524000) / 64
    some ((s.reg a).toNat % 512 + 512 * b2n (s.boosted n))
  else none

end Sys2Proof.Machine
end

