-- ==== Sys2Proof/Machine/Ledger.lean ====
section
/-! DEFINITION. The Ticking ledger (chapter 6): entries and their words, allocation, ends and seal records, cancellation and
withdrawal, learning, sealed transitions. -/

namespace Sys2Proof.Machine

/-- Entry states (LE_HDR.STATE) and kinds (LE_HDR.KIND). -/
abbrev eBooked : Nat := 1
abbrev eCommitted : Nat := 2
abbrev eFired : Nat := 3
abbrev eSealed : Nat := 4
abbrev eCancelled : Nat := 5
abbrev eLate : Nat := 6
abbrev kOpen : Nat := 0
abbrev kClose : Nat := 1
abbrev kRate : Nat := 2

/-- Seal codes (Table 6.3). -/
abbrev sSeated : Nat := 1
abbrev sProfile : Nat := 2
abbrev sUnseated : Nat := 3
abbrev sSenseOpen : Nat := 4
abbrev sSwitchOk : Nat := 5
abbrev sSwitchBad : Nat := 6
abbrev sNoReport : Nat := 7
abbrev sApplied : Nat := 8
abbrev sRedundant : Nat := 9

def State.entry (s : State) (i : Nat) : Option Entry := sget (fun _ => none) s.lg.entries i
def State.setEntry (s : State) (i : Nat) (e : Entry) : State :=
  { s with lg := { s.lg with entries := sset (fun _ => none) s.lg.entries i (some e) } }

/-! The fire slots (R24, R389). -/

/-- The slots of copy `c`. -/
def State.copySlots (s : State) (c : Nat) : List (Nat × Option FireSlot) := s.rs.fire.getD c []

/-- R24: slot `i` of every copy in service written, at commit with its event and at its end with none. -/
def State.putSlot (s : State) (i : Nat) (x : Option FireSlot) : State :=
  { s with rs := { s.rs with fire := (List.range 3).map (fun c =>
      if s.fbit Reg.RES_STATE_FIRE_OK c then sset (fun _ => none) (s.copySlots c) i x else s.copySlots c) } }

/-- R24: what at least two copies in service hold in slot `i`; none where no two agree on an event. -/
def State.voted (s : State) (i : Nat) : Option FireSlot :=
  match s.inService.map (fun c => sget (fun _ => none) (s.copySlots c) i) with
  | [a, b] => if a = b then a else none
  | [a, b, c] => if a = b ∨ a = c then a else if b = c then b else none
  | _ => none

/-- R389: the slots of copy `c` taken from a copy in service, or cleared where fewer than two are. -/
def State.reloadSlots (s : State) (c : Nat) : State :=
  let src := match s.inService with | a :: _ :: _ => s.copySlots a | _ => []
  { s with rs := { s.rs with fire := (List.range 3).map (fun k => if k = c then src else s.copySlots k) } }

/-- The entries that are not FREE, by index. -/
def State.ledger (s : State) : List (Nat × Entry) := s.lg.entries.filterMap (fun p => p.2.map (fun e => (p.1, e)))

/-- R154: an entry in flight. -/
def Entry.inFlight (e : Entry) : Bool := decide (1 ≤ e.st) && decide (e.st ≤ 3)

/-- LE_HDR (R152). -/
def Entry.hdr (e : Entry) : Nat :=
  e.st + 2 ^ 3 * e.kind + 2 ^ 5 * e.outlet + 2 ^ 15 * b2n (e.st == 1) + 2 ^ 16 * b2n e.forced + 2 ^ 17 * b2n e.withheld +
    2 ^ 18 * b2n e.orphaned + 2 ^ 19 * b2n e.preflux + 2 ^ 20 * b2n e.replanned + 2 ^ 21 * b2n e.shifted + 2 ^ 22 * b2n e.wdr +
    2 ^ 23 * e.cause + 2 ^ 26 * b2n e.remote + 2 ^ 27 * b2n e.ctx.isSome

/-- The four words of an entry (R152). -/
def Entry.words (e : Entry) : List Nat :=
  [e.hdr, e.frame, e.due.toNat % 2 ^ 32, e.due.toNat / 2 ^ 32 % 256 + 2 ^ 8 * (e.param % 2 ^ 20) + 2 ^ 28 * e.code]

/-- Entries the variant holds in the reserve (R168). -/
def Variant.reserve : Variant → Nat := Variant.outlets

def State.inFlight (s : State) : Nat := (s.ledger.filter (fun p => p.2.inFlight)).length
def State.reserveUsed (s : State) : Nat := (s.ledger.filter (fun p => p.2.inFlight && p.2.reserve)).length

/-- Words of the ledger page computed from the entries (R176): LG_STAT and LG_COUNT. -/
def State.lgStat (s : State) : Nat :=
  s.inFlight + 2 ^ 16 * (s.variant.reserve - s.reserveUsed) + 2 ^ 27 * s.fld Reg.LG_STAT_PATH_ACT
def State.lgCount (s : State) : Nat :=
  (s.ledger.filter (fun p => p.2.st == eBooked)).length + 2 ^ 16 * (s.ledger.filter (fun p => p.2.st == eCommitted)).length

/-- The lowest key from `k` on that a table of rising keys does not list. -/
def firstGap {α : Type} : List (Nat × α) → Nat → Nat
  | [], k => k
  | (j, _) :: m, k => if j = k then firstGap m (k + 1) else k

/-- R154: the index a booking takes: the lowest FREE one, else the ended entry whose end is oldest. -/
def State.freeIndex (s : State) : Option Nat :=
  let i := firstGap s.lg.entries 0
  if i < s.variant.ledger then some i
  else
    let ended := s.ledger.filter (fun p => !p.2.inFlight)
    (ended.foldl (fun (m : Option (Nat × Nat)) p => match m with
      | some (_, k) => if p.2.ended < k then some (p.1, p.2.ended) else m
      | none => some (p.1, p.2.ended)) none).map (·.1)

/-- R168: whether a booking of `kind` for outlet `o` finds an entry, and whether it draws on the reserve. -/
def State.allocClass (s : State) (kind o : Nat) : Option Bool :=
  let general := s.inFlight - s.reserveUsed
  if general < s.variant.ledger - s.variant.reserve then some false
  else if kind = kClose ∧ s.reserveUsed < s.variant.reserve ∧
      ¬ s.ledger.any (fun p => p.2.inFlight && (p.2.reserve && decide (p.2.outlet = o))) then some true
  else none

/-- R159, R169: a crossing of outlet `o` whose event did not come about is looked for again: the next frame sweeps all of the outlet's path
(DEDUCED, log 31). -/
def State.resweep (s : State) (o : Nat) : State := { s with lg := { s.lg with again := s.lg.again.filter (· ≠ o) ++ [o] } }

/-- R168, R169: a booking; where it finds no entry it is counted and not made. -/
def State.bookEntry (s : State) (e : Entry) : State × Option Nat :=
  match s.allocClass e.kind e.outlet, s.freeIndex with
  | some r, some i => ((s.setEntry i { e with reserve := r }).count 0x010 1, some i)
  | _, _ => ((((s.resweep e.outlet).bump Reg.LG_CNT_B_FULL_N 1).raise Reg.LG_EVENT_FULL).count 0x019 1, none)

/-- The seal record of an ended entry (R353). -/
def sealRecord (e : Entry) (ft : Time) (i : Nat) : List Byte :=
  e.words.flatMap (leBytes 4) ++ leBytes 8 ft.toNat ++ leBytes 2 i ++ leBytes 6 0

/-- R354: the record goes to the outlet's owner and to every SEAL_ALL context; one without read rights gets zeros (R348). -/
def State.deliver (s : State) (i : Nat) (e : Entry) : State :=
  let owner := if s.on (Reg.OT_STATE_OWNED e.outlet) then some (s.fld (Reg.OT_STATE_OWNER e.outlet)) else none
  let bs := sealRecord e s.ft i
  s.boundContexts.foldl (fun s c =>
    if owner = some c ∨ s.holds c Reg.CTX_PERM_SEAL_ALL then
      s.streamCtx c 3 (if s.mayReadOutlet c e.outlet then bs else List.replicate 32 0)
    else s) s

/-- R154: an entry ends in the state and with the marks that `e` holds. -/
def State.endEntry (s : State) (i : Nat) (e : Entry) : State :=
  let e1 := { e with ended := s.lg.ends }
  ({ s with lg := { s.lg with ends := s.lg.ends + 1 } }.setEntry i e1).deliver i e1

/-- R155: a BOOKED entry is cancelled; pre-flux decays (R160). -/
def State.cancelEntry (s : State) (i : Nat) (cause : Nat) : State :=
  match s.entry i with
  | some e =>
    if e.st = eBooked then
      ((if cause = 0 ∨ cause = 2 ∨ cause = 7 then s else s.resweep e.outlet).prefluxStop i).endEntry i { e with st := eCancelled, cause := cause, withheld := decide (cause = 1) }
    else s
  | none => s

/-- R161: a COMMITTED entry is withdrawn. -/
def State.withdrawEntry (s : State) (i : Nat) (cause : Nat) : State :=
  match s.entry i with
  | some e =>
    if e.st = eCommitted then
      (((s.resweep e.outlet).prefluxStop i).putSlot i none).endEntry i { e with st := eCancelled, cause := cause, wdr := true, orphaned := decide (cause = 3) }
    else s
  | none => s

/-- R161, R426: one action of a withdrawal path on the outlets from `first` to `last`: the entries selected by `p` are cancelled or
withdrawn with a cause, and the withdrawal is recorded in Canvas with its path (Table 17.1) and context, also where it withdraws none. -/
def State.withdraw (s : State) (p : Entry → Bool) (cause path ctx first last : Nat) : State :=
  let booked := s.ledger.filter (fun x => decide (x.2.st = eBooked) && p x.2)
  let comm := s.ledger.filter (fun x => decide (x.2.st = eCommitted) && p x.2)
  let s1 := booked.foldl (fun s x => s.cancelEntry x.1 cause) s
  let s2 := comm.foldl (fun s x => s.withdrawEntry x.1 cause) s1
  let head (n lo hi : Nat) : List Byte := leBytes 1 cause ++ leBytes 1 path ++ leBytes 2 ctx ++ leBytes 4 n ++ leBytes 2 lo ++ leBytes 2 hi
  match comm with
  | [] => s2.canvas 15 0x0030 (head 0 first last)
  | h :: t =>
    let lo := t.foldl (fun m x => min m x.2.outlet) h.2.outlet
    let hi := t.foldl (fun m x => max m x.2.outlet) h.2.outlet
    let early := t.foldl (fun m x => if tdiff x.2.due m < 0 then x.2.due else m) h.2.due
    let late := t.foldl (fun m x => if tdiff m x.2.due < 0 then x.2.due else m) h.2.due
    let s3 := s2.raise Reg.LG_EVENT_WITHDRAWN
    let s4 := s3.raiseIf (decide (cause = 3)) Reg.LG_EVENT_ORPHAN
    s4.canvas 15 0x0030 (head comm.length lo hi ++ leBytes 8 early.toNat ++ leBytes 8 late.toNat)

/-! Commanded state, learning and sealed transitions. -/

/-- R144: outlet `o` is commanded open. -/
def State.isOpen (s : State) (o : Nat) : Bool := sget (fun _ => false) s.lg.opened o
def State.setOpen (s : State) (o : Nat) (b : Bool) : State :=
  { s with lg := { s.lg with opened := sset (fun _ => false) s.lg.opened o b } }

/-- Fields of the learned words by direction. -/
def lrnF (kind o : Nat) : Fld := if kind = kOpen then Reg.OT_LRN_OPEN_LRN o else Reg.OT_LRN_CLOSE_LRN o
def nomF (kind o : Nat) : Fld := if kind = kOpen then Reg.OT_NOM_OPEN_NOM o else Reg.OT_NOM_CLOSE_NOM o
def trnF (kind o : Nat) : Fld := if kind = kOpen then Reg.OT_TRN_OPEN_TRN o else Reg.OT_TRN_CLOSE_TRN o
def learnedF (kind o : Nat) : Fld := if kind = kOpen then Reg.OT_LRN_OPEN_LEARNED o else Reg.OT_LRN_CLOSE_LEARNED o
def frozenF (kind o : Nat) : Fld := if kind = kOpen then Reg.OT_LRN_OPEN_FROZEN o else Reg.OT_LRN_CLOSE_FROZEN o
def jitF (kind o : Nat) : Fld := if kind = kOpen then Reg.LJ_OPEN_JIT o else Reg.LJ_CLOSE_JIT o
def sealsF (kind o : Nat) : Fld := if kind = kOpen then Reg.LJ_OPEN_SEALS o else Reg.LJ_CLOSE_SEALS o
def jitOkF (kind o : Nat) : Fld := if kind = kOpen then Reg.LJ_OPEN_JIT_OK o else Reg.LJ_CLOSE_JIT_OK o

/-- R170: the measured delay of a seat, 0.25 µs, an int32 (R17). -/
def measured (seat due : Time) : Int := wrapI 32 (max 0 ((tdiff seat due).tdiv 2000))

/-- R170: the learning update of one SEATED seal. -/
def State.learn (s : State) (kind o : Nat) (m : Int) : State :=
  if s.on (frozenF kind o) then s
  else
    let lrn : Int := s.fld (lrnF kind o)
    let nom : Int := s.fld (nomF kind o)
    let e := wrapI 32 (m - lrn)
    let lim := nom / 5
    let step := clampI (-lim) lim (e.tdiv 16)
    let l := clampI (nom / 2) (min (2 * nom) 0xFFFFF) (lrn + step)
    let j : Int := s.fld (jitF kind o)
    let j1 := j + ((e.natAbs : Int) - j).tdiv 16
    let n := min (s.fld (sealsF kind o) + 1) 127
    let s1 := ((s.setFld (lrnF kind o) l.toNat).setFld (learnedF kind o) 1).setFld (jitF kind o) j1.toNat
    (s1.setFld (sealsF kind o) n).setBit (jitOkF kind o) (decide (16 ≤ n) && decide (s1.fld (jitF kind o) ≤ 3600))

/-- Table 5.3, R233: what the painter takes from a seal: the time of the transition, none where there is none. -/
def sealTime (kind code : Nat) (due seat : Time) (lrn : Nat) : Option Time :=
  let prof := tadd due (2000 * lrn : Nat)
  if code = sSeated then some seat
  else if code = sProfile ∨ code = sSwitchOk then some prof
  else if code = sSenseOpen ∧ kind = kClose then some prof
  else if code = sNoReport ∧ kind = kOpen then some prof
  else none

/-- R132: the transition that a sealed edge leaves, with SEALED_OPEN and UNSURE. -/
def State.sealedEdge (s : State) (kind o code : Nat) (due seat : Time) : State :=
  match sealTime kind code due seat (s.fld (lrnF kind o)) with
  | some t =>
    let opening := decide (kind = kOpen)
    let s1 : State := { s with mp := { s.mp with landings := s.mp.landings ++ [(s.landTime o opening t, o, code, !opening)] } }
    let latest := ((insTrans (opening, t) (s.transOf o)).head?).any (·.1)
    let s2 := s1.setBit (Reg.OT_STATE_SEALED_OPEN o) latest
    (if opening then s2 else s2.setFld (Reg.OT_STATE_UNSURE o) 0).lateSeal o opening t
  | none =>
    if kind = kClose ∧ (code = sUnseated ∨ code = sSwitchBad ∨ code = sNoReport) then s.setFld (Reg.OT_STATE_UNSURE o) 1 else s

/-- R155, R163, R170: a FIRED entry is sealed with a code; `seat` is the seat time where one was found. -/
def State.sealEntry (s : State) (i code : Nat) (seat : Option Time) : State :=
  match s.entry i with
  | some e =>
    if e.st = eFired then
      let m : Option Int := if e.kind = kRate then none else seat.map (fun t => measured t e.due)
      let par := match m with | some m => unsx 20 (min m 0xFFFFF) | none => e.param
      let s1 := if e.kind = kRate then s else s.sealedEdge e.kind e.outlet code e.due (seat.getD e.due)
      let s2 := match m with | some m => if code = sSeated then s1.learn e.kind e.outlet m else s1 | none => s1
      (s2.count (if code = sSeated then 0x016 else 0x017) 1).endEntry i { e with st := eSealed, code := code, param := par }
    else s
  | none => s

/-- R155, R164: a COMMITTED entry ends LATE. -/
def State.lateEntry (s : State) (i : Nat) : State :=
  match s.entry i with
  | some e =>
    if e.st = eCommitted then
      ((((((s.resweep e.outlet).prefluxStop i).putSlot i none).bump Reg.LG_CNT_C_LATE_N 1).raise Reg.LG_EVENT_LATE).count 0x018 1).endEntry i { e with st := eLate }
    else s
  | none => s

/-- The ledger window's word `w` of entry `i` for a context (R152, R348). -/
def State.leWord (s : State) (c i w : Nat) : Nat :=
  match s.entry i with
  | some e => if s.mayReadOutlet c e.outlet then e.words.getD w 0 else 0
  | none => 0

end Sys2Proof.Machine
end

