-- ==== Sys2Proof/Machine/Plan.lean ====
section
/-! DEFINITION. Looking ahead (chapter 6): the predicted path, placements, wanted states, crossings, rates, gap rules, matching and
booking of one frame; the commit pass. -/

namespace Sys2Proof.Machine

/-! The predicted path (R141–R143). -/

/-- The epoch whose time is `te`. -/
def State.epochOf (s : State) (te : Time) : Option PoseHist := s.po.hist.find? (fun h => decide (h.te = te))

/-- The heading at an epoch, the last valid one where the attitude gives none (R117). -/
def State.headAt (s : State) (h : PoseHist) : Pt := (headingOf h.quat).getD s.mp.head

/-- R141: the speed at an epoch, 2^-20 of 0.1 mm/s. -/
def State.speedAt (s : State) (h : PoseHist) : Int :=
  let d := s.headAt h
  (comp h.vel 0 * d.1 + comp h.vel 1 * d.2) * 4

/-- What steers a prediction step: turn per millisecond and speed for each millisecond of the path. -/
structure Steer where
  /-- Constant turn: angle per ms (2^-60), speed and its change per ms (2^-20 of 0.1 mm/s). -/
  turn : Int
  acc : Int
  /-- Host path: its knots and the distance at the start. -/
  path : Option (List (Nat × Int × Nat) × Int)

/-- R143: curvature (2^-16 per m) and speed (0.1 mm/s) at a distance (2^-20 of 0.1 mm), each in 2^-20, linear between knots. -/
def knotAt : List (Nat × Int × Nat) → Int → Int × Int
  | [], _ => (0, 0)
  | [(_, k, v)], _ => (k * 2 ^ 20, (v : Int) * 2 ^ 20)
  | (d1, k1, v1) :: (d2, k2, v2) :: r, x =>
    let a : Int := (d1 : Int) * 100 * 2 ^ 20
    let b : Int := (d2 : Int) * 100 * 2 ^ 20
    if x ≤ b ∨ r.isEmpty then
      if b ≤ a then (k2 * 2 ^ 20, (v2 : Int) * 2 ^ 20)
      else
        let y := max 0 (min (x - a) (b - a))
        (k1 * 2 ^ 20 + (k2 - k1) * 2 ^ 20 * y / (b - a), (v1 : Int) * 2 ^ 20 + ((v2 : Int) - v1) * 2 ^ 20 * y / (b - a))
    else knotAt ((d2, k2, v2) :: r) x

/-- R143: the yaw of one step of `ticks` at curvature `k` and speed `v` (2^-20 each): radians in 2^-60. -/
def pathTurn (k v : Int) (ticks : Nat) : Int := k * v * 16 * ticks / (10 ^ 7 * 8000000)

/-- R141: how far the part's pose `m` lies from the real-valued one (2^-20 of 0.1 mm), in 0.1 mm: any place within 0.5 mm of it (log 30). -/
def pathDev (fr m : Nat) (e n : Int) : Int × Int :=
  let a := Config.pathDev fr (2 * m)
  let b := Config.pathDev fr (2 * m + 1)
  let x := (e / 2 ^ 20 + a) * 2 ^ 20 - e
  let y := (n / 2 ^ 20 + b) * 2 ^ 20 - n
  if x * x + y * y ≤ (5 * 2 ^ 20) * (5 * 2 ^ 20) then (a, b) else (0, 0)

/-- R141, R143: the poses after the first, one per millisecond, until the machine stops. -/
def predictGo (fr : Nat) (st : Steer) : Nat → Nat → Pred → Int × Int → Int → List Pred
  | 0, _, _, _, _ => []
  | n + 1, m, p, d, v =>
    let kv : Option (Int × Int) := st.path.map (fun h => knotAt h.1 h.2)
    let v1 := match kv with
      | some x => x.2
      | none => max 0 (v + (if m ≤ 500 then st.acc else 0))
    if v1 ≤ 0 then []
    else
      let w := match kv with
        | some x => pathTurn x.1 v1 8000000
        | none => st.turn
      let d1 := turnDir d (fcos w) (fsin w)
      let e1 := p.e + fmul v1 d1.1 / 1000
      let n1 := p.n + fmul v1 d1.2 / 1000
      let p1 : Pred :=
        { t := tadd p.t 8000000, e := e1, n := n1, u := p.u,
          q := turnQuat p.q (fcos (w / 2)) (fsin (w / 2)), dev := pathDev fr m e1 n1 }
      let st1 := { st with path := st.path.map (fun h => (h.1, h.2 + v1 / 1000)) }
      p1 :: predictGo fr st1 n (m + 1) p1 d1 v1

/-- An epoch as a predicted pose. -/
def predOf (h : PoseHist) : Pred :=
  { t := h.te, e := comp h.pos 0 * 2 ^ 20, n := comp h.pos 1 * 2 ^ 20, u := comp h.pos 2 * 2 ^ 20, q := h.quat.map (· * 2 ^ 42), dev := (0, 0) }

/-- R141: the turn per millisecond at an epoch: the change of heading over 10 ms, divided by ten. -/
def State.turnAt (s : State) (h : PoseHist) : Int :=
  match s.epochOf (h.te - BitVec.ofNat 64 80000000) with
  | some b =>
    let x := s.headAt h
    let y := s.headAt b
    angleOf (dirOf (x.1 * y.1 + x.2 * y.2, y.1 * x.2 - y.2 * x.1)) / 10
  | none => 0

/-- R141: the change of speed per millisecond at an epoch: that over 100 ms, divided by a hundred. -/
def State.accAt (s : State) (h : PoseHist) : Int :=
  match s.epochOf (h.te - BitVec.ofNat 64 800000000) with
  | some b => (s.speedAt h - s.speedAt b) / 100
  | none => 0

/-- R143: the position and heading that a host path reaches after `n` steps of 10 mm. -/
def walkPath (ks : List (Nat × Int × Nat)) : Nat → Int → Int × Int → Int × Int → (Int × Int) × (Int × Int)
  | 0, _, p, d => (p, d)
  | n + 1, x, p, d =>
    let w := (knotAt ks x).1 * (2 ^ 24) / 100
    let d1 := turnDir d (fcos w) (fsin w)
    walkPath ks n (x + 100 * 2 ^ 20) (p.1 + fmul (100 * 2 ^ 20) d1.1, p.2 + fmul (100 * 2 ^ 20) d1.2) d1

/-- R143: the active host path does not serve at this epoch. -/
def State.pathStale (p : HostPath) (h : PoseHist) : Bool :=
  let last := (p.knots.getLast?.map (·.1)).getD 0
  let r := walkPath p.knots (p.progress / (100 * 2 ^ 20)).toNat 0 (p.start.1.1 * 2 ^ 20, p.start.1.2 * 2 ^ 20) (dirOf p.start.2)
  let x := comp h.pos 0 * 2 ^ 20 - r.1.1
  let y := comp h.pos 1 * 2 ^ 20 - r.1.2
  let side := fmul y r.2.1 - fmul x r.2.2
  decide (5000 * 2 ^ 20 < (side.natAbs : Int)) || (decide ((last : Int) * 100 * 2 ^ 20 < p.progress) ||
    decide (10 * 8000000000 < tdiff h.te p.ft))

/-- R141, R143: the predicted path from an epoch, with whether the host path was used. -/
def State.predict (s : State) (h : PoseHist) : List Pred × Bool :=
  let host := if s.on Reg.LG_CTRL_PRED_MODE then s.lg.host.filter (fun p => !State.pathStale p h) else none
  let st : Steer := { turn := s.turnAt h, acc := s.accAt h, path := host.map (fun p => (p.knots, p.progress)) }
  let p0 := predOf h
  (p0 :: predictGo s.free st s.tb.horizon 1 p0 (dirOf (s.headAt h)) (s.speedAt h), host.isSome)

/-- R142: the pose `i/n` of the way between two predicted poses, heading included. -/
def lerpPred (a b : Pred) (i n : Nat) : Pred :=
  let f (x y : Int) : Int := x + (y - x) * i / n
  { t := tadd a.t (tdiff b.t a.t * i / n), e := f a.e b.e, n := f a.n b.n, u := f a.u b.u,
    q := [0, 1, 2, 3].map (fun k => f (comp a.q k) (comp b.q k)), dev := (f a.dev.1 b.dev.1, f a.dev.2 b.dev.2) }

/-- R143: a pose epoch moves the progress along the host paths. -/
def State.pathProgress (s : State) : State :=
  match s.po.hist with
  | [] => s
  | h :: _ =>
    let d := max 0 (s.speedAt h) / 20000
    let go (p : HostPath) : HostPath := { p with progress := p.progress + d }
    { s with lg := { s.lg with host := s.lg.host.map go, hostStaged := s.lg.hostStaged.map go } }

/-- The distance of knot `i` lies above that of the knot before it (PK_DIST: ascending with i). -/
def State.distAscends (s : State) (i v : Nat) : Bool := decide (i = 0) || decide (s.fld (Reg.PK_DIST_DIST (i - 1)) < v)

/-- R143: a write of PATH_CTRL with COMMIT and `n` knots: refused whole where PATH_FT lies outside the pose history, or the knots do not
ascend. -/
def State.pathCommit (s : State) (v : Nat) : State :=
  let n := bitsOf v 0 6
  let ft : Time := BitVec.ofNat 64 (s.reg64 0x40C024)
  let rising := (List.range n).all (fun i => s.distAscends i (s.fld (Reg.PK_DIST_DIST i)))
  match s.poseAt ft with
  | some h =>
    if tdiff s.ft ft < 0 ∨ 2048000000 < tdiff s.ft ft ∨ ¬ rising then s.raise Reg.LG_EVENT_CFG_ERR
    else
      let ks := (List.range n).map (fun i =>
        (s.fld (Reg.PK_DIST_DIST i), s.sfld (Reg.PK_CURV_CURV i), s.fld (Reg.PK_SPEED_SPEED i)))
      let prog := (s.po.hist.filter (fun x => decide (0 < tdiff x.te ft))).foldl (fun a x => a + max 0 (s.speedAt x) / 20000) 0
      let s1 := s.writeCodes 0x40C020 v
      { s1 with lg := { s1.lg with hostStaged := some ⟨ft, ks, ((comp h.pos 0, comp h.pos 1), s.headAt h), prog⟩ } }
  | none => s.raise Reg.LG_EVENT_CFG_ERR

/-- R143: the staged path is active from a frame start. -/
def State.pathFrame (s : State) : State :=
  match s.lg.hostStaged with
  | some p => { s.setFld Reg.PATH_CTRL_VALID 1 with lg := { s.lg with host := some p, hostStaged := none } }
  | none => s

/-! Placements along the path (R142). -/

/-- An outlet's footprint at a predicted pose: time, place, and the exact centre in 2^-20 of 0.1 mm. -/
structure Spot where
  t : Time
  pl : Place
  fine : Pt
  pose : Pred

/-- A rotation by a quaternion in 2^-60, of a vector in 2^-20. -/
def rotFine (q v : List Int) : List Int :=
  let g (x y : Int) : Int := x * y / 2 ^ 60
  let q0 := comp q 0
  let q1 := comp q 1
  let q2 := comp q 2
  let q3 := comp q 3
  let m := [[fxOne - 2 * (g q2 q2 + g q3 q3), 2 * (g q1 q2 - g q0 q3), 2 * (g q1 q3 + g q0 q2)],
            [2 * (g q1 q2 + g q0 q3), fxOne - 2 * (g q1 q1 + g q3 q3), 2 * (g q2 q3 - g q0 q1)],
            [2 * (g q1 q3 - g q0 q2), 2 * (g q2 q3 + g q0 q1), fxOne - 2 * (g q1 q1 + g q2 q2)]]
  m.map (fun r => (comp r 0 * comp v 0 + comp r 1 * comp v 1 + comp r 2 * comp v 2) / 2 ^ 60)

/-- R117: outlet `o` at a predicted pose. -/
def State.spot (s : State) (o : Nat) (defl : List (Int × Int)) (p : Pred) : Spot :=
  let pos := [p.e / 2 ^ 20 + p.dev.1, p.n / 2 ^ 20 + p.dev.2, p.u / 2 ^ 20]
  let q := p.q.map (fun x => (x + 2 ^ 41) / 2 ^ 42)
  let d := if s.on (Reg.OT_CFG_ON_SEG o) then s.deflAt (s.fld (Reg.OT_CFG_SEGMENT o))
      (defl.getD (s.fld (Reg.OT_CFG_SEGMENT o)) (0, 0)) (s.sfld (Reg.OT_MOUNT_Y_MOUNT o)) else (0, 0)
  let lev := [s.sfld (Reg.OT_MOUNT_X_MOUNT o) + d.1, s.sfld (Reg.OT_MOUNT_Y_MOUNT o), s.sfld (Reg.OT_MOUNT_Z_MOUNT o) + d.2].map (· * 2 ^ 20)
  let g := rotFine p.q lev
  let b := rotFine p.q [2 ^ 40, 0, 0]
  let h := dirOf (comp b 0, comp b 1)
  let dx := s.sfld (Reg.OT_FP_DX_DX o) * 2 ^ 20
  ⟨p.t, s.place o pos q defl, (p.e + p.dev.1 * 2 ^ 20 + comp g 0 + fmul dx h.1, p.n + p.dev.2 * 2 ^ 20 + comp g 1 + fmul dx h.2), p⟩

/-- Two points are more than `d` apart. -/
def fartherThan (d : Int) (a b : Pt) : Bool := decide (d * d < (b.1 - a.1) * (b.1 - a.1) + (b.2 - a.2) * (b.2 - a.2))

/-- R142: the placement `i/n` of the way between two predicted poses. -/
def State.subSpot (s : State) (o : Nat) (defl : List (Int × Int)) (a b : Pred) (i n : Nat) : Spot :=
  s.spot o defl (if i = 0 then a else if i = n then b else lerpPred a b i n)

/-- R142: the least power of two of sub-steps none of which moves the centre by more than 25 mm. -/
def State.subCount (s : State) (o : Nat) (defl : List (Int × Int)) (a b : Pred) : Nat :=
  (((List.range 24).map (2 ^ ·)).find? (fun n => (List.range n).all (fun i =>
    !fartherThan 250 (s.subSpot o defl a b i n).pl.c (s.subSpot o defl a b (i + 1) n).pl.c))).getD (2 ^ 24)

/-- R142: the placements of an outlet: one per predicted pose, with sub-steps where the centre moves more than 25 mm. -/
def State.spotsGo (s : State) (o : Nat) (defl : List (Int × Int)) : List Pred → List Spot
  | a :: b :: r =>
    let n := s.subCount o defl a b
    ((List.range n).map (fun i => s.subSpot o defl a b i n)) ++ s.spotsGo o defl (b :: r)
  | [a] => [s.spot o defl a]
  | [] => []

/-! The plan as the ledger leaves it (R144). -/

/-- The place of an entry in time: its crossing time, or its due time where it holds none (R476). -/
def Entry.pos (e : Entry) : Time := match e.cross with | some c => c.1 | none => e.due

/-- R144: the non-ended edges of outlet `o`. -/
def State.planEdges (s : State) (o : Nat) : List Entry :=
  (s.ledger.filter (fun p => decide (p.2.outlet = o) && (decide (p.2.kind ≠ kRate) && p.2.inFlight))).map (·.2)

/-- The latest of a list of entries by a time. -/
def latestBy (f : Entry → Time) (es : List Entry) : Option Entry :=
  es.foldl (fun m e => match m with
    | some x => if tdiff (f x) (f e) ≤ 0 then some e else m
    | none => some e) none

/-- R144: the planned state of outlet `o` at `t`: what the last non-ended edge by then leaves, else the present commanded state. -/
def State.plannedAt (s : State) (o : Nat) (t : Time) : Bool :=
  match latestBy Entry.pos ((s.planEdges o).filter (fun e => tge t e.pos)) with
  | some e => decide (e.kind = kOpen)
  | none => s.isOpen o

/-- An edge of outlet `o` has switched it already while the crossing it serves is still to come after `now`. -/
def State.firedAhead (s : State) (o : Nat) (now : Time) : Bool :=
  s.ledger.any (fun p => decide (p.2.outlet = o) && (decide (p.2.kind ≠ kRate) && ((p.2.st == eFired || p.2.st == eSealed) &&
    (p.2.cross.isSome && (decide (0 < tdiff p.2.pos now) && p.2.code != sRedundant)))))

/-- R350: the mode in which outlet `o` is held: 1 SWITCH, 2 RATE, 3 BOTH, 0 by nobody. -/
def State.ownMode (s : State) (o : Nat) : Nat := if s.on (Reg.OWN_OWNED o) then s.fld (Reg.OWN_MODE o) else 0

/-- R350: the entry was booked by the context that owns its outlet at present. -/
def State.byOwner (s : State) (e : Entry) : Bool := s.on (Reg.OWN_OWNED e.outlet) && decide (e.ctx = some (s.fld (Reg.OWN_OWNER e.outlet)))

/-- R150: outlet `o` takes RATE events. -/
def State.takesRate (s : State) (o : Nat) : Bool := s.on (Reg.OT_CFG_DUTY_MOD o) || s.on (Reg.OT_RATE_DEST o)

/-- R41: planning is degraded: a degraded timebase that the image does not permit. -/
def State.degraded (s : State) : Bool := (s.tbState == tbDrift || s.tbState == tbIosc) && !s.lg.degradedOk

/-- Outlet `o` is held closed whoever owns it: not plannable, inhibited, stopped, held safe or degraded (R116, R161, R350, R41). -/
def State.mustClose (s : State) (o : Nat) : Bool :=
  !s.on (Reg.OT_STATE_PLANNABLE o) || (s.on (Reg.OT_STATE_INHIBIT o) || (s.on Reg.RES_STATE_STOP || (s.on Reg.RES_STATE_HELD_SAFE || s.degraded)))

/-- R122, R136: the gate of outlet `o`'s section; section 255 has none. -/
def State.gateOpen (s : State) (o : Nat) : Bool :=
  let k := s.fld (Reg.OT_CFG_SECTION o)
  s.on Reg.MAP_CTRL_GATE_ALL && (k == 255 || s.fbit (Reg.SEC_GATE_GATES (k / 32)) (k % 32))

/-- R122: the footprint of outlet `o` is wanted closed at every place. -/
def State.closedAll (s : State) (o : Nat) : Bool :=
  s.mustClose o || (!s.gateOpen o || (!s.on (Reg.MAP_LAYER_LAYER_EN (s.fld (Reg.OT_CFG_LAYER o))) || !s.on Reg.LG_CTRL_PLAN_EN))

/-- R122: the wanted state at a place, the outlet being planned open or closed just before. -/
def State.wantedAt (s : State) (o : Nat) (pl : Place) (was : Bool) : Bool :=
  let cells := s.cellsUnder o pl
  let w := (cells.filter (fun c => s.wantsCell o (s.cellAt c))).length
  let l := s.fld (Reg.OT_CFG_LAYER o)
  let thr := if was then s.fld (Reg.MAP_LAYER_CLOSE_THR l) else s.fld (Reg.MAP_LAYER_OPEN_THR l)
  decide (thr * cells.length ≤ 256 * w)

/-! Due times and rates (R147–R150). -/

/-- R147: what is taken off a crossing time, in ticks, and the delay A. -/
def State.delays (s : State) (kind o : Nat) : Nat × Nat :=
  if kind = kRate then (80000 * s.fld (Reg.OT_TRN_OPEN_TRN o) + 2000 * s.fld (Reg.CL_RATE_LEAD_RATE_LEAD (s.cls o)), 0)
  else (2000 * s.fld (lrnF kind o) + 80000 * s.fld (trnF kind o), s.fld (lrnF kind o))

/-- R149: the prescription index at a centre. -/
def State.rxAt (s : State) (c : Pt) : Nat := match s.cellAt (cellOf c) with | some w => bitsOf w 10 6 | none => 0

/-- R149: the centre's speed over a step, 0.1 mm/s. -/
def stepSpeed (a b : Spot) : Nat :=
  let dx := b.fine.1 - a.fine.1
  let dy := b.fine.2 - a.fine.2
  let dt := (tdiff b.t a.t).toNat
  if dt = 0 then 0 else isqrt (dx * dx + dy * dy).toNat * 8000000000 / dt / 2 ^ 20

/-- R149: the rate of outlet `o` and whether it was clamped. -/
def State.rateOf (s : State) (o rx v : Nat) : Nat × Bool :=
  let mode := s.fld (Reg.OT_RATE_RATE_MODE o)
  let base := if mode = 0 then 0x10000 else s.fld (Reg.RT_ENTRY_RATE (s.fld (Reg.OT_CFG_LAYER o)) rx)
  let u64 (x : Nat) : Nat := x % 2 ^ 64
  let q := if mode = 2 then u64 (base * v) / 2 ^ 10 else if mode = 1 then u64 (base * v * s.fld (Reg.OT_FP_W_W o)) / 2 ^ 20 else base
  let out := u64 (q * s.fld (Reg.OT_RATE_RATE_GAIN o)) / 2 ^ 16
  let lo := s.fld (Reg.CL_RATE_MIN_RATE_MIN (s.cls o))
  let hi := s.fld (Reg.CL_RATE_MAX_RATE_MAX (s.cls o))
  (if out < lo then lo else if hi < out then hi else out, decide (out < lo) || decide (hi < out))

/-! The sweep (R30, R144, R145). -/

/-- A crossing found, or the place of a RATE event. -/
structure Cross where
  kind : Nat
  t : Time
  pl : Place
  rate : Nat
  clamped : Bool

/-- What a sweep carries along an outlet's placements: the previous one with its wanted state, the crossings it has found, newest first,
and the wanted states. -/
structure Sweep where
  prev : Option (Spot × Bool) := none
  crosses : List Cross := []
  seen : List (Time × Bool) := []

/-- What the RATE test carries along an outlet's placements: the prescription index at the previous placement or at a crossing since, the
value at the first placement of the open stretch (R476.3), the plan's edges still to come, those behind with the RATE events found,
newest first. -/
structure RateWalk where
  rx : Option Nat := none
  base : Option Nat := none
  ahead : List Cross := []
  behind : List Cross := []

/-- How an outlet is swept: whether the planner books its edges and its rates, and whether it is wanted closed everywhere. -/
structure How where
  edges : Bool
  rates : Bool
  shut : Bool
  hard : Bool

def State.how (s : State) (o : Nat) : How :=
  let m := s.ownMode o
  ⟨m = 0 || m = 2, s.takesRate o && ((m = 0 || m = 1) && s.on Reg.LG_CTRL_PLAN_EN), s.closedAll o, s.mustClose o⟩

/-- R144: the planned state at `t` with the crossings that this sweep has found so far. -/
def State.planWith (s : State) (o : Nat) (cs : List Cross) (t : Time) : Bool :=
  match cs.find? (fun c => decide (c.kind ≠ kRate) && tge t c.t) with
  | none => s.plannedAt o t
  | some c =>
    match latestBy Entry.pos ((s.planEdges o).filter (fun e => tge t e.pos && decide (0 < tdiff e.pos c.t))) with
    | some e => decide (e.kind = kOpen)
    | none => decide (c.kind = kOpen)

/-- R122, R144: the wanted state of outlet `o` at a placement; an outlet whose edges its owner books is wanted as it is planned. -/
def State.wantedBy (s : State) (o : Nat) (how : How) (cs : List Cross) (b : Spot) : Bool :=
  let was := s.planWith o cs b.t
  if how.edges && !how.shut then s.wantedAt o b.pl was else if how.edges || how.hard then false else was

/-- R145: the crossing between two placements, by halvings: `want` is the wanted state at the second. -/
def State.halve (s : State) (o : Nat) (defl : List (Int × Int)) (how : How) (cs : List Cross) (a b : Spot) (want : Bool) :
    Nat → Spot → Spot → Spot
  | 0, _, hi => hi
  | n + 1, lo, hi =>
    let mid := s.spot o defl (lerpPred a.pose b.pose ((tdiff lo.t a.t).toNat + (tdiff hi.t lo.t).toNat / 2) (max 1 (tdiff b.t a.t).toNat))
    if s.wantedBy o how cs mid = want then s.halve o defl how cs a b want n lo mid else s.halve o defl how cs a b want n mid hi

/-- R476.2: the value in force at the destination of outlet `o`. -/
def State.inForce (s : State) (o : Nat) : Nat :=
  let t := s.fld (Reg.OT_CFG_TARGET o)
  let n := s.fld (Reg.OT_TARGET_CHAN o)
  if s.on (Reg.OT_RATE_DEST o) then sget (fun _ => 0) s.lp.contrib o
  else if t = 1 then s.fld (uActDuty (s.unitOf n))
  else if t = 2 then s.fld (Reg.LS_DUTY_DUTY n)
  else if t = 3 then s.fld (Reg.FO_DUTY_DUTY n)
  else sget (fun _ => 0) s.lk.duties o

/-- R476: an entry gives a rate: an OPEN or RATE that is neither CANCELLED nor LATE; a sealed OPEN's PARAM holds its delay (R152). -/
def Entry.givesRate (e : Entry) : Bool :=
  decide (e.kind ≠ kClose) && (decide (e.st ≠ eCancelled) && (decide (e.st ≠ eLate) && !(e.kind == kOpen && e.st == eSealed)))

/-- R476: out_last at `t` with what this sweep has found: the latest value within the present open stretch, which the last CLOSE by then
began behind; else the value in force where the outlet is open since the frame's start at `now`. -/
def State.outLast (s : State) (o : Nat) (now : Time) (cs : List Cross) (t : Time) : Option Nat :=
  let mine := s.ledger.filterMap (fun p => if p.2.outlet = o ∧ tge t p.2.pos then some p.2 else none)
  let shut := latestBy Entry.pos (mine.filter (fun e => e.kind == kClose && (decide (e.st ≠ eCancelled) && decide (e.st ≠ eLate))))
  let cut : Option Time := match cs.find? (fun c => decide (c.kind = kClose) && tge t c.t), shut with
    | some c, some e => some (if 0 ≤ tdiff c.t e.pos then c.t else e.pos)
    | some c, none => some c.t
    | none, e => e.map Entry.pos
  let inside (x : Time) : Bool := cut.all (fun c => decide (0 ≤ tdiff x c))
  let found := cs.find? (fun c => decide (c.kind ≠ kClose) && (tge t c.t && inside c.t))
  let held := latestBy Entry.pos (mine.filter (fun e => e.givesRate && inside e.pos))
  match found, held with
  | some c, some e => some (if 0 ≤ tdiff c.t e.pos then c.rate else e.param)
  | some c, none => some c.rate
  | none, some e => some e.param
  | none, none => if s.isOpen o ∧ cut.all (fun c => decide (tdiff c now ≤ 0)) then some (s.inForce o) else none

/-- R150: the RATE test at a placement `b` in a planned-open stretch. -/
def State.rateTest (s : State) (o v : Nat) (now : Time) (w : RateWalk) (b : Spot) : RateWalk :=
  let rx := s.rxAt b.pl.c
  let out := s.rateOf o rx v
  match (match s.outLast o now w.behind b.t with | some l => some l | none => w.base) with
  | none => { w with rx := some rx, base := some out.1 }
  | some l =>
    if s.fld (Reg.CL_MATCH_RATE_DB (s.cls o)) * l < 256 * ((out.1 : Int) - l).natAbs ∨ w.rx.any (fun r => decide (r ≠ rx)) then
      { w with rx := some rx, behind := ⟨kRate, b.t, b.pl, out.1, out.2⟩ :: w.behind }
    else { w with rx := some rx }

/-- R150: one swept placement `b` after `a` tested against the plan's edges, the centre's speed over the step being `v`. -/
def State.rateSpot (s : State) (o : Nat) (now : Time) (v : Nat) (w : RateWalk) (a : Option Spot) (b : Spot) : RateWalk :=
  let met := w.ahead.filter (fun c => tge b.t c.t)
  let w0 : RateWalk := { w with ahead := w.ahead.filter (fun c => !tge b.t c.t), behind := met.reverse ++ w.behind }
  let w1 : RateWalk := match met.getLast? with
    | some c => { w0 with rx := some (s.rxAt c.pl.c), base := none }
    | none => { w0 with rx := match w.rx with | some r => some r | none => a.map (fun a => s.rxAt a.pl.c) }
  if s.planWith o w1.behind b.t then s.rateTest o v now w1 b else { w1 with rx := some (s.rxAt b.pl.c), base := none }

/-- The speed of the centre over the step at a placement with those before and after it. -/
def walkSpeed (before : Option Spot) (b : Spot) (after : Option Spot) : Nat :=
  match before, after with
  | some a, _ => stepSpeed a b
  | none, some c => stepSpeed b c
  | none, none => 0

/-- R150: the RATE test along an outlet's placements; those not selected break the stretch. -/
def State.rateGo (s : State) (o : Nat) (now : Time) : List (Spot × Bool) → Option Spot → RateWalk → RateWalk
  | [], _, w => w
  | (b, sel) :: r, before, w =>
    s.rateGo o now r (some b)
      (if sel then s.rateSpot o now (walkSpeed before b (r.head?.map (·.1))) w before b else { w with rx := none, base := none })

/-- R144, R145: one swept placement `b` after `a`; `v` is the centre's speed over the step. A crossing lies between two placements whose
wanted states differ. At the start of the path it lies where the wanted state differs from the planned one, unless an edge has fired
ahead of its crossing (DEDUCED, log 31). -/
def State.sweepSpot (s : State) (o : Nat) (defl : List (Int × Int)) (how : How) (now : Time) (v : Nat) (w : Sweep) (a : Option Spot)
    (b : Spot) : Sweep :=
  let want := s.wantedBy o how w.crosses b
  let was := match w.prev, a with
    | some p, _ => p.2
    | none, some a => s.wantedBy o how w.crosses a
    | none, none => if s.firedAhead o now ∧ ¬ how.shut then want else s.planWith o w.crosses b.t
  let w0 : Sweep := { w with prev := some (b, want), seen := (b.t, want) :: w.seen }
  if want ≠ was ∧ (how.edges ∨ (how.hard ∧ ¬ want)) then
    let x := match a with
      | some a => if how.edges && !how.shut then s.halve o defl how w.crosses a b want 8 a b else b
      | none => b
    let r := s.rateOf o (s.rxAt x.pl.c) v
    { w0 with crosses := ⟨if want then kOpen else kClose, x.t, x.pl, if want then r.1 else 0, want && r.2⟩ :: w.crosses }
  else w0

/-- The sweep over an outlet's placements; those not selected break the stretch. -/
def State.sweepGo (s : State) (o : Nat) (defl : List (Int × Int)) (how : How) (now : Time) : List (Spot × Bool) → Option Spot → Sweep → Sweep
  | [], _, w => w
  | (b, sel) :: r, before, w =>
    s.sweepGo o defl how now r (some b)
      (if sel then s.sweepSpot o defl how now (walkSpeed before b (r.head?.map (·.1))) w before b else { w with prev := none })

/-- The inputs of an outlet's sweep beyond path and cells: a change of any makes the frame sweep all of its path (R123, R136, R122). -/
def State.sweepInputs (s : State) (o : Nat) : List Nat :=
  let l := s.fld (Reg.OT_CFG_LAYER o)
  [b2n (s.closedAll o), b2n (s.mustClose o), s.ownMode o, (s.reg (0x409020 + 4 * l)).toNat, sget (fun _ => 0) s.lg.rtGen l,
    s.fld Reg.LG_CTRL_PRED_MODE]

/-- Where the previous frame's path puts outlet `o` at time `t`. -/
def State.formerSpot (s : State) (o : Nat) (defl : List (Int × Int)) (t : Time) : List Pred → Option Spot
  | a :: b :: r =>
    if tge t a.t ∧ tge b.t t then some (s.spot o defl (lerpPred a b (tdiff t a.t).toNat (max 1 (tdiff b.t a.t).toNat)))
    else s.formerSpot o defl t (b :: r)
  | _ => none

/-- R30: the cell row, along the axis that the crossing's heading is nearer to, of a centre against that of a crossing place: the same or
next to it, and the centre within a footprint's width to the side. -/
def State.inRow (s : State) (o : Nat) (c h p : Pt) : Bool :=
  let k := cellOf c
  let m := cellOf p
  let side := ((p.2 - c.2) * h.1 - (p.1 - c.1) * h.2) / 262144
  (if h.1.natAbs ≤ h.2.natAbs then decide ((m.2 - k.2).natAbs ≤ 1) else decide ((m.1 - k.1).natAbs ≤ 1)) &&
    decide (side.natAbs ≤ s.fld (Reg.OT_FP_W_W o) + 500)

/-- R30: the BOOKED event in whose crossing row, or the row on either side, a placement lies. -/
def State.rowEntry (s : State) (o : Nat) (b : Spot) : Option Entry :=
  (s.ledger.find? (fun p => decide (p.2.outlet = o) && (decide (p.2.st = eBooked) && (match p.2.cross with
    | some (_, c, h) => s.inRow o c h b.pl.c
    | none => false)))).map (·.2)

/-- R30: the placement belongs to the frame's sweep work. -/
def State.sweepWork (s : State) (o : Nat) (defl : List (Int × Int)) (full : Bool) (b : Spot) : Bool :=
  full || (match sget (fun _ => none) s.lg.swept o with | some t => decide (0 < tdiff b.t t) | none => true) || (s.rowEntry o b).isSome ||
    (match s.formerSpot o defl b.t s.lg.path with | some f => fartherThan 250 f.pl.c b.pl.c | none => true)

/-- R30: the due time by which sweep work at a placement is ordered: that of the BOOKED event it serves, else that of the edge it may find
against the plan. -/
def State.workDue (s : State) (o : Nat) (b : Spot) : Time :=
  let kind := match s.rowEntry o b with
    | some e => e.kind
    | none => if s.plannedAt o b.t then kClose else kOpen
  b.t - BitVec.ofNat 64 (s.delays kind o).1

/-- R30, Example 1.1: the cells that a placement tests: those newly under the footprint. -/
def State.newCells (s : State) (o : Nat) (before : Option Spot) (b : Spot) : List Pt :=
  let cells := s.cellsUnder o b.pl
  match before with
  | some a => let old := s.cellsUnder o a.pl; cells.filter (fun c => !old.contains c)
  | none => cells

/-- R121: the cells among those tested whose coverage of the outlet's layer reads 0b11. -/
def State.badCells (s : State) (o : Nat) (cs : List Pt) : Nat :=
  (cs.filter (fun c => (s.cellAt c).any (fun w => covOf w (s.fld (Reg.OT_CFG_LAYER o)) == 3))).length

/-- R29, R50: the frame's sweep budget in cell tests. -/
def State.sweepBudget (s : State) : Nat := 1600 * (min 700 (50 * s.tb.period - 300) - 50)

/-- An item of sweep work: due distance from the frame's start, outlet, cell tests, cells found with coverage 0b11, time. -/
structure Work where
  due : Int
  o : Nat
  cost : Nat
  bad : Nat
  t : Time

/-- Items of sweep work sorted by due time, nearest first. -/
def insWork (x : Work) : List Work → List Work
  | [] => [x]
  | y :: r => if x.due < y.due then x :: y :: r else y :: insWork x r

/-- R30: the items that the budget reaches, and those it does not. -/
def budgetGo : Nat → List Work → List Work × List Work
  | _, [] => ([], [])
  | left, x :: r =>
    if x.cost ≤ left then let y := budgetGo (left - x.cost) r; (x :: y.1, y.2) else ([], x :: r)

/-! Gap rules and matching (R146). -/

/-- R146.5: an open stretch shorter than MIN_ON is not booked, a closed gap shorter than MIN_OFF is bridged; not where `held` tells that the
stretch's first edge is committed or has switched the outlet already (no gap rule delays a CLOSE). Answers the crossings kept and those of the short stretches. -/
def gapGo (minOn minOff : Nat) (held : Cross → Bool) : Nat → List Cross → List Cross × List (Cross × Cross)
  | 0, cs => (cs, [])
  | n + 1, a :: b :: r =>
    if ¬ held a ∧ ((a.kind = kOpen ∧ b.kind = kClose ∧ tdiff b.t a.t < minOn) ∨ (a.kind = kClose ∧ b.kind = kOpen ∧ tdiff b.t a.t < minOff)) then
      let x := gapGo minOn minOff held n r
      (x.1, (a, b) :: x.2)
    else
      let x := gapGo minOn minOff held n (b :: r)
      (a :: x.1, x.2)
  | _ + 1, cs => (cs, [])

/-- R146.1: the entry of the same kind nearest in crossing time within MATCH_TOL, among those not yet paired. -/
def pairOf (c : Cross) (tol : Nat) (es : List (Nat × Entry)) : Option (Nat × Entry) :=
  (es.filter (fun p => decide (p.2.kind = c.kind) && decide ((tdiff p.2.pos c.t).natAbs ≤ tol))).foldl (fun m p => match m with
    | some x => if (tdiff p.2.pos c.t).natAbs < (tdiff x.2.pos c.t).natAbs then some p else m
    | none => some p) none

/-- R146.1, .2: every crossing with its pair, and the entries left unpaired. -/
def pairGo (tol : Nat) : List Cross → List (Nat × Entry) → List (Cross × Option (Nat × Entry)) × List (Nat × Entry)
  | [], es => ([], es)
  | c :: cs, es =>
    let p := pairOf c tol es
    let left := match p with | some x => es.filter (fun y => decide (y.1 ≠ x.1)) | none => es
    let r := pairGo tol cs left
    ((c, p) :: r.1, r.2)

/-- A crossing to book or rewrite: outlet, crossing, pair, the due time that R147 gives. -/
structure Booking where
  o : Nat
  c : Cross
  pair : Option (Nat × Entry)
  due : Time

/-- One outlet's part of a frame: what it books or rewrites, what it supersedes, gap actions, tests and tiles met. -/
structure OutletPlan where
  books : List Booking
  supersede : List Nat
  gaps : Nat

/-- R144: a COMMITTED OPEN that stands unpaired where the sweep wants the outlet closed gets a CLOSE where it opens; so does one that has
opened the outlet ahead of its crossing. -/
def standing (wanted : Time → Bool) (opened : Bool) (pl : Place) (es : List (Nat × Entry)) : List Cross :=
  es.filterMap (fun p => if (p.2.st = eCommitted ∨ (p.2.st ≠ eBooked ∧ opened)) ∧ p.2.kind = kOpen ∧ ¬ wanted p.2.pos
    then some ⟨kClose, p.2.pos, pl, 0, false⟩ else none)

/-- The edges of outlet `o` that have been sealed while the crossings they serve are still to come after `now`. -/
def State.sealedAhead (s : State) (o : Nat) (now : Time) : List (Nat × Entry) :=
  s.ledger.filter (fun p => decide (p.2.outlet = o) && (decide (p.2.kind ≠ kRate) && (p.2.st == eSealed &&
    (p.2.cross.isSome && (decide (0 < tdiff p.2.pos now) && p.2.code != sRedundant)))))

/-- R146, R150: the plan of one outlet from its swept placements; the RATE test runs on the plan as the gap rules leave it, the edges that
this frame rewrites or supersedes taken from the ledger. -/
def State.planOutlet (s : State) (o : Nat) (defl : List (Int × Int)) (tk : Time) (spots : List (Spot × Bool)) : OutletPlan :=
  let how := s.how o
  let w := s.sweepGo o defl how tk spots none {}
  let edges := w.crosses.reverse
  let tol := 80000 * s.fld (Reg.CL_MATCH_MATCH_TOL (s.cls o))
  let mine := s.ledger.filter (fun p => decide (p.2.outlet = o) && (p.2.ctx.isNone && (p.2.cross.isSome && p.2.inFlight)))
  let ahead := s.sealedAhead o tk
  let firm := mine.filter (fun p => decide (p.2.st ≠ eBooked)) ++ ahead
  let g := gapGo (80000 * s.fld (Reg.CL_GAPS_MIN_ON (s.cls o))) (80000 * s.fld (Reg.CL_GAPS_MIN_OFF (s.cls o)))
    (fun c => (pairOf c tol firm).isSome) edges.length edges
  let inSwept (t : Time) : Bool := ((spots.zip (spots.drop 1)).any (fun p => p.2.2 && (decide (0 < tdiff t p.1.1.t) && tge p.2.1.t t))) ||
    (spots.head?.any (fun p => p.2 && decide (t = p.1.t)))
  let stale (p : Nat × Entry) : Bool := decide (p.2.st = eBooked) && (inSwept p.2.pos && decide (2000000 ≤ tdiff p.2.due tk))
  let rE := pairGo tol g.1 (mine.filter (fun p => decide (p.2.kind ≠ kRate)))
  let anew := (rE.1.filterMap (fun x => x.2.bind (fun p => if p.2.st = eBooked then some p.1 else none))) ++ (rE.2.filter stale).map (·.1)
  let kept := rE.1.map (fun x => match x.2 with
    | some p => if p.2.st = eBooked then x.1 else { x.1 with t := p.2.pos, rate := p.2.param }
    | none => x.1)
  let view : State := { s with lg := { s.lg with entries := s.lg.entries.filter (fun p => !anew.contains p.1) } }
  let rates := if how.rates then ((view.rateGo o tk spots none { ahead := kept }).behind.filter (fun c => decide (c.kind = kRate))).reverse else []
  let r := pairGo tol (g.1 ++ rates) mine
  let wanted (t : Time) : Bool := (w.seen.find? (fun x => tge t x.1)).any (·.2)
  let extra := match spots with
    | [] => []
    | b :: _ => if how.edges then standing wanted (s.isOpen o) b.1.pl ((r.2 ++ (pairGo tol g.1 ahead).2).filter (fun p => inSwept p.2.pos)) else []
  let due (c : Cross) : Time := c.t - BitVec.ofNat 64 (s.delays c.kind o).1
  ⟨r.1.map (fun x => ⟨o, x.1, x.2, due x.1⟩) ++ (extra.filter (fun c => (pairOf c 80000000 mine).isNone)).map (fun c => ⟨o, c, none, due c⟩),
   (r.2.filter stale).map (·.1), g.2.length⟩

/-- Bookings in order of due time, nearest first. -/
def insBooking (x : Booking) : List Booking → List Booking
  | [] => [x]
  | y :: r => if tdiff x.due y.due < 0 then x :: y :: r else y :: insBooking x r

/-! Writing the plan into the ledger (R52, R146, R166, R475). -/

/-- COMMIT_LEAD of a class, in ticks. -/
def State.commitLead (s : State) (o : Nat) : Nat := 400000 * s.fld (Reg.CL_TIMING_COMMIT_LEAD (s.cls o))

/-- R166, R146: the due time a crossing is booked at, whether it is late, whether a gap rule moved it. -/
def State.bookedDue (s : State) (tk : Time) (b : Booking) : Time × Bool × Bool :=
  let up (t x : Time) : Time := if tdiff t x < 0 then x else t
  let gapClose := (s.ledger.filter (fun p => decide (p.2.outlet = b.o) && (p.2.st == eCommitted && (p.2.kind == kClose &&
    (decide (b.c.kind = kOpen) && (decide (0 ≤ tdiff b.due p.2.due) &&
      decide (tdiff b.due p.2.due < 80000 * s.fld (Reg.CL_GAPS_MIN_OFF (s.cls b.o))))))))).map (·.2)
  let d1 := match latestBy (fun e => e.due) gapClose with
    | some e => tadd e.due (80000 * s.fld (Reg.CL_GAPS_MIN_OFF (s.cls b.o)) : Nat)
    | none => b.due
  let late := decide (tdiff d1 tk < 2000000) || decide (tdiff d1 s.ft < s.commitLead b.o)
  let d2 := if ¬ late then d1
    else if b.c.kind = kOpen then up d1 (tadd s.ft ((s.commitLead b.o + 800000 : Nat)))
    else up (up d1 (tadd tk 2000000)) (tadd s.ft 800000)
  (d2, late, decide (d1 ≠ b.due))

/-- R350: the value an OPEN carries where a RATE owner holds the outlet. -/
def State.openParam (s : State) (b : Booking) (due : Time) : Nat :=
  if s.ownMode b.o = 2 then
    let own := (s.ledger.filter (fun p => decide (p.2.outlet = b.o) && (p.2.kind == kRate && (s.byOwner p.2 &&
      (decide (p.2.st ≠ eCancelled) && (decide (p.2.st ≠ eLate) && tge due p.2.due)))))).map (·.2)
    match latestBy (fun e => e.due) own with
    | some e => e.param
    | none => sget (fun _ => 0) s.lg.ownerRate b.o
  else b.c.rate

/-- One booking or rewrite of a frame. -/
def State.writeBooking (tk : Time) (s : State) (b : Booking) : State :=
  let d := s.bookedDue tk b
  let kind := b.c.kind
  let stop := decide (kind ≠ kClose) && (s.mustClose b.o || !s.on Reg.LG_CTRL_PLAN_EN)
  let touch : Bool := match b.pair with
    | some (i, _) => (match s.entry i with | some e => decide (e.st = eBooked) && decide (2000000 ≤ tdiff e.due tk) | none => false)
    | none => true
  if ¬ touch ∨ stop then s
  else
    let s1 := if b.pair.isNone ∧ 0 ≤ tdiff b.due tk ∧ tdiff b.due tk < 2000000 then s.bump Reg.FRM_STAT_HEADSKIP 1 else s
    let s2 := if d.2.1 then (s1.bump Reg.LG_CNT_B_SHIFTED_N 1).raise Reg.LG_EVENT_LATE_CROSS else s1
    let s3 := if d.2.2 then s2.bump Reg.LG_CNT_D_GAP_N 1 else s2
    let dl := s.delays kind b.o
    let shifted := decide (0 < tdiff d.1 b.due) || (d.2.1 && decide (kind ≠ kRate))
    let e : Entry :=
      { st := eBooked, kind := kind, outlet := b.o, frame := s.fld Reg.FRM_NO_NUMBER, due := d.1, frameDue := d.1,
        param := if kind = kOpen then s.openParam b d.1 else b.c.rate, remote := decide (s.fld (Reg.OT_CFG_TARGET b.o) = 4),
        cross := some (b.c.t, b.c.pl.c, b.c.pl.h), delay := dl.1, delayA := dl.2, shifted := shifted,
        floor := if shifted then some d.1 else none, clamped := b.c.clamped && !(decide (kind = kOpen) && decide (s.ownMode b.o = 2)) }
    let clampN (s : State) (yes : Bool) : State := if yes then (s.bump Reg.LG_CNT_D_CLAMP_N 1).raise Reg.LG_EVENT_RATE_CLAMP else s
    match b.pair with
    | some (i, old) =>
      let s4 := if old.preflux ∧ 400000 * s.fld (Reg.CL_TIMING_PRE_LEAD (s.cls b.o)) < tdiff d.1 s.ft then s3.prefluxStop i else s3
      clampN (s4.setEntry i { e with reserve := old.reserve, preflux := old.preflux }) (e.clamped && !old.clamped)
    | none =>
      let r := s3.bookEntry e
      clampN r.1 (e.clamped && r.2.isSome)

/-- R474: the ledger leaves outlet `o` planned open with no CLOSE after its last open edge, by the edges' due times; an owner's OPEN that is
still BOOKED does not yet leave it open (DEDUCED, log 31). -/
def State.leftOpen (s : State) (o : Nat) : Bool :=
  match latestBy (fun e => e.due) ((s.planEdges o).filter (fun e => !(e.ctx.isSome && (e.kind == kOpen && e.st == eBooked)))) with
  | some e => decide (e.kind = kOpen)
  | none => s.isOpen o

/-- R474: a late CLOSE without a crossing place, for an outlet that the ledger leaves planned open. -/
def State.invalidClose (tk : Time) (s : State) (o : Nat) : State :=
  if ¬ s.leftOpen o then s
  else
    let d := if tdiff (tadd tk 2000000) (tadd s.ft 800000) < 0 then tadd s.ft 800000 else tadd tk 2000000
    let e : Entry :=
      { st := eBooked, kind := kClose, outlet := o, frame := s.fld Reg.FRM_NO_NUMBER, due := d, frameDue := d,
        remote := decide (s.fld (Reg.OT_CFG_TARGET o) = 4), delay := (s.delays kClose o).1, delayA := (s.delays kClose o).2,
        shifted := true, floor := some d }
    (((s.bump Reg.LG_CNT_B_SHIFTED_N 1).raise Reg.LG_EVENT_LATE_CROSS).bookEntry e).1

/-- R474: a frame whose epoch is not VALID: no path, so the next frame with one sweeps all of it. -/
def State.invalidFrame (s : State) (tk : Time) : State :=
  let gone := s.ledger.filter (fun p => p.2.st == eBooked && (p.2.kind != kClose && (p.2.ctx.isNone && decide (2000000 ≤ tdiff p.2.due tk))))
  let s1 := gone.foldl (fun s p => s.cancelEntry p.1 0) s
  let s2 := s1.outlets.foldl (State.invalidClose tk) s1
  let s3 := s2.setFld Reg.LG_STAT_PATH_ACT 0
  { s3 with lg := { s3.lg with path := [] } }

/-- R130: missing tiles that outlets' footprints reach, nearest first, each once. -/
def State.missingTiles (s : State) (spots : List (Nat × List (Spot × Bool))) (selOnly : Bool) : List Pt :=
  let work := spots.flatMap (fun x => (x.2.filter (fun b => b.2 || !selOnly)).map (fun b =>
    ((tdiff b.1.t s.ft - (s.delays kOpen x.1).1, x.1, 0, b.1.t), (s.cellsUnder x.1 b.1.pl).map tileOf)))
  let sorted := work.foldl (fun (l : List ((Int × Nat × Nat × Time) × List Pt)) x =>
    (l.filter (fun y => decide (y.1.1 ≤ x.1.1))) ++ [x] ++ (l.filter (fun y => decide (x.1.1 < y.1.1)))) []
  ((sorted.flatMap (fun x => x.2)).eraseDups).filter (fun t => (s.slotOf t).isNone)

/-- R130: TILE_MISS, MISS_COUNT and MISS_TX, MISS_TY of a frame. -/
def State.noteMissing (s : State) (ts : List Pt) : State :=
  match ts with
  | [] => s
  | t :: _ =>
    let s1 := ((s.bump Reg.MISS_COUNT_COUNT ts.length).raise Reg.MAP_EVENT_TILE_MISS).count 0x007 ts.length
    (s1.setSfld Reg.MISS_TX_T t.1).setSfld Reg.MISS_TY_T t.2

/-- R130: NEED0 to NEED7. -/
def State.noteNeeds (s : State) (ts : List Pt) : State :=
  (List.range 8).foldl (fun s k => match ts[k]? with
    | some t => ((s.setSfld (Reg.NEED_TX_T k) t.1).setFld (Reg.NEED_TX_VALID k) 1).setSfld (Reg.NEED_TY_T k) t.2
    | none => ((s.setFld (Reg.NEED_TX_T k) 0).setFld (Reg.NEED_TX_VALID k) 0).setFld (Reg.NEED_TY_T k) 0) s

/-- R30, R146: the planning of a frame from a VALID epoch: predict, sweep within the budget, supersede, then book and rewrite. -/
def State.validFrame (s : State) (tk : Time) (h : PoseHist) : State :=
  let pr := s.predict h
  let stale := s.on Reg.LG_CTRL_PRED_MODE && (s.lg.host.isSome && !pr.2)
  let s0 : State := { (s.tick.raiseIf stale Reg.LG_EVENT_PATH_STALE).setBit Reg.LG_STAT_PATH_ACT pr.2 with lg := { s.lg with again := [] } }
  let outs := s.outlets
  let spots := outs.map (fun o =>
    let full := decide (sget (fun _ => []) s.lg.inputs o ≠ s.sweepInputs o) || s.lg.again.contains o
    (o, (s.spotsGo o h.defl pr.1).map (fun b => (b, s.sweepWork o h.defl full b))))
  let work : List Work := spots.flatMap (fun x => ((x.2.zip (none :: x.2.map (fun b => some b.1))).filter (fun y => y.1.2)).map (fun y =>
    let cells := if s.closedAll x.1 then [] else s.newCells x.1 y.2 y.1.1
    ⟨tdiff (s.workDue x.1 y.1.1) tk, x.1, cells.length, s.badCells x.1 cells, y.1.1.t⟩))
  let cut := budgetGo s.sweepBudget (work.foldl (fun l x => insWork x l) [])
  let left (o : Nat) : List Time := (cut.2.filter (fun x => decide (x.o = o))).map (fun x => x.t)
  let spots1 := spots.map (fun x => let l := left x.1; (x.1, x.2.map (fun b => (b.1, b.2 && !l.contains b.1.t))))
  let reach (x : Nat × List (Spot × Bool)) : Option Time :=
    let l := left x.1
    match (x.2.filter (fun b => b.2 && l.contains b.1.t)).head? with
    | some b => some (b.1.t - 1)
    | none => x.2.getLast?.map (fun b => b.1.t)
  let deferred := (spots.filter (fun x => !(left x.1).isEmpty)).length
  let tests := cut.1.foldl (fun a x => a + x.cost) 0
  let bad := cut.1.foldl (fun a x => a + x.bad) 0
  let plans := spots1.map (fun x => s0.planOutlet x.1 h.defl tk x.2)
  let s1 := ((s0.count 0x005 tests).count 0x006 deferred).bump Reg.MAP_COUNT_B_CELL_ERR bad
  let s2 := s1.noteMissing (s1.missingTiles (spots1.filter (fun x => !s.closedAll x.1)) true)
  let s3 := plans.foldl (fun s p => p.supersede.foldl (fun s i => s.cancelEntry i 0) (s.bump Reg.LG_CNT_D_GAP_N p.gaps)) s2
  let books := (plans.flatMap (fun p => p.books)).foldl (fun l b => insBooking b l) []
  let s4 := books.foldl (State.writeBooking tk) s3
  let s5 := s4.noteNeeds (s4.missingTiles (spots.filter (fun x => s.on (Reg.OT_STATE_PLANNABLE x.1))) false)
  { s5 with lg := { s5.lg with path := pr.1,
                               swept := spots.foldl (fun m x => sset (fun _ => none) m x.1 (reach x)) [],
                               inputs := outs.foldl (fun m o => sset (fun _ => []) m o (s.sweepInputs o)) [] } }

/-! The commit pass (R156–R159). -/

/-- R156.1: the placement lies on the line through the crossing place `c` square to the heading `h`, or beyond it. -/
def pastLine (c h : Pt) (x : Spot) : Bool := decide (0 ≤ (x.pl.c.1 - c.1) * h.1 + (x.pl.c.2 - c.2) * h.2)

/-- R156.1: the halvings of R145 between placements `a` and `b` for the line. -/
def State.reachHalve (s : State) (o : Nat) (defl : List (Int × Int)) (c h : Pt) (a b : Spot) : Nat → Spot → Spot → Time
  | 0, _, hi => hi.t
  | n + 1, lo, hi =>
    let mid := s.spot o defl (lerpPred a.pose b.pose ((tdiff lo.t a.t).toNat + (tdiff hi.t lo.t).toNat / 2) (max 1 (tdiff b.t a.t).toNat))
    if pastLine c h mid then s.reachHalve o defl c h a b n lo mid else s.reachHalve o defl c h a b n mid hi

/-- R156.1, R142: the first instant at which the outlet's centre reaches the line, over its placements along the predicted path. -/
def State.reachGo (s : State) (o : Nat) (defl : List (Int × Int)) (c h : Pt) : List Pred → Option Time
  | a :: b :: r =>
    if pastLine c h (s.spot o defl b) then
      let n := s.subCount o defl a b
      let sp := (List.range (n + 1)).map (fun i => s.subSpot o defl a b i n)
      ((sp.zip (sp.drop 1)).find? (fun p => pastLine c h p.2)).map (fun p => s.reachHalve o defl c h p.1 p.2 8 p.1 p.2)
    else s.reachGo o defl c h (b :: r)
  | _ => none

/-- R156.1: the replanned crossing time of an entry at the epoch `h`, none where it has no replan. -/
def State.replan (s : State) (h : PoseHist) (path : List Pred) (e : Entry) : Option Time :=
  match e.cross with
  | some (_, c, d) =>
    if ¬ h.valid then none
    else
      let here := (s.spot e.outlet h.defl (predOf h)).pl.c
      if 0 ≤ (here.1 - c.1) * d.1 + (here.2 - c.2) * d.2 then some h.te
      else s.reachGo e.outlet h.defl c d path
  | none => none

/-- R105: the confidence of an outlet at the present epoch. -/
def State.outletConfOf (s : State) (o : Nat) : Nat :=
  outletConf s.conf s.attUnc (s.sfld (Reg.OT_MOUNT_X_MOUNT o)) (s.sfld (Reg.OT_MOUNT_Y_MOUNT o))
    (if s.on (Reg.OT_CFG_ON_SEG o) then (s.segOf (s.fld (Reg.OT_CFG_SEGMENT o))).unc else 0)

/-- R157, R159: an entry commits at a due time and its event goes into the fire slots (R24); a remote one joins its link's queue (R25)
with its `acked` mark clear. -/
def State.commitEntry (s : State) (i : Nat) (e : Entry) (due : Time) (forced shifted : Bool) : State :=
  let e1 := { e with st := eCommitted, due := due, forced := forced, replanned := e.replanned || decide (due ≠ e.frameDue),
                     shifted := e.shifted || shifted, acked := false }
  let s1 := (s.setEntry i e1).putSlot i (some ⟨e.outlet, e.kind, due, e.param, e.delayA⟩)
  if forced then ((s1.bump Reg.LG_CNT_A_FORCED_N 1).raise Reg.LG_EVENT_FORCED).count 0x012 1 else s1.count 0x011 1

/-- R165: the floored CLOSE falls at or after the outlet's next COMMITTED OPEN. -/
def State.merged (s : State) (o : Nat) (unfloored due : Time) : Bool :=
  let opens := (s.ledger.filter (fun p => decide (p.2.outlet = o) && (p.2.st == eCommitted && (p.2.kind == kOpen &&
    decide (0 < tdiff p.2.due unfloored))))).map (fun p => p.2.due)
  match opens with
  | [] => false
  | t :: ts => let first := ts.foldl (fun m x => if tdiff x m < 0 then x else m) t; decide (0 ≤ tdiff due first)

/-- R159, R41: a BOOKED OPEN ends CANCELLED with WITHHELD set. -/
def State.withhold (s : State) (i : Nat) : State :=
  (((s.bump Reg.LG_CNT_A_WITHHELD_N 1).raise Reg.LG_EVENT_WITHHELD).count 0x013 1).cancelEntry i 1

/-- R41: entry to a degraded timebase that the image does not permit, `old` being the state before: every OPEN whose deadline is still to come
is withheld. The CLOSE of every open outlet is the next frame's, for which all of them are wanted closed. -/
def State.degradeFrom (s old : State) : State :=
  if s.degraded ∧ s.tbState ≠ old.tbState then
    (s.ledger.filter (fun p => p.2.st == eBooked && (p.2.kind == kOpen && decide ((s.commitLead p.2.outlet : Int) < tdiff p.2.due s.ft)))).foldl
      (fun s p => s.withhold p.1) s
  else s

/-- R159: the commit deadline of an entry, its due time standing at `e.due`. -/
def State.deadline (s : State) (i : Nat) (e : Entry) (due1 te : Time) : State :=
  if tdiff te e.due < -(s.commitLead e.outlet : Int) then s
  else if e.kind = kOpen then
    s.withhold i
  else
    let lo := if tdiff due1 e.due < 0 then due1 else e.due
    let floor := tadd te 800000
    let due := if tdiff lo floor < 0 then floor else lo
    if e.kind = kClose ∧ tdiff lo floor < 0 ∧ s.merged e.outlet lo due then s.cancelEntry i 7
    else s.commitEntry i e due true (decide (tdiff lo floor < 0))

/-- R156: one event of a commit pass at the epoch `h`. -/
def State.commitOne (h : PoseHist) (path : List Pred) (s : State) (i : Nat) : State :=
  match s.entry i with
  | none => s
  | some e =>
    if e.st ≠ eBooked then s
    else if s.degraded ∧ e.kind = kOpen then s.withhold i
    else
      let replan : Option Time := if e.ctx.isSome then some e.due
        else (s.replan h path e).map (fun t =>
          let d := t - BitVec.ofNat 64 e.delay
          match e.floor with | some f => if e.shifted ∧ tdiff d f < 0 then f else d | none => d)
      match replan with
      | none => s.deadline i e e.due h.te
      | some due1 =>
        let c := s.cls e.outlet
        let confOk := decide (s.outletConfOf e.outlet ≤ s.fld (Reg.CL_COMMIT_COMMIT_CONF c)) || (e.ctx.isSome && !s.on (Reg.CL_COMMIT_CTX_CONF c))
        let near := decide ((tdiff due1 e.due).natAbs ≤ 40000 * s.fld (Reg.CL_TIMING_REPLAN_TOL c))
        let ahead := decide (800000 ≤ tdiff due1 h.te)
        if confOk && (near && ahead) then s.commitEntry i e due1 false false
        else if near && ahead then s.deadline i e due1 h.te
        else
          let e1 := { e with due := due1, replanned := true }
          let s1 := if e.preflux ∧ 400000 * s.fld (Reg.CL_TIMING_PRE_LEAD c) < tdiff due1 s.ft then s.prefluxStop i else s
          let s2 := ((s1.setEntry i e1).bump Reg.LG_CNT_C_REPLACED_N 1).count 0x014 1
          s2.deadline i e1 due1 h.te

/-- Entries in due order, nearest first. -/
def insDue (te : Time) (x : Nat × Entry) : List (Nat × Entry) → List (Nat × Entry)
  | [] => [x]
  | y :: r => if tdiff x.2.due te < tdiff y.2.due te then x :: y :: r else y :: insDue te x r

/-- R156, R173, R20: the commit pass of the latest epoch, one for each: none in a takeover or without a lane; the first one after a
takeover settles the events whose deadline has passed before any others. -/
def State.commitPass (s : State) : State :=
  let st := s.fld Reg.RES_STATE_STATE
  match s.po.hist with
  | [] => s
  | h :: _ =>
    if st = 1 ∨ st = 3 ∨ s.lg.lastPass = some h.te then s
    else
      let win := s.ledger.filter (fun p => p.2.st == eBooked &&
        decide (tdiff p.2.due h.te ≤ 8000000 * s.fld (Reg.CL_TIMING_COMMIT_WIN (s.cls p.2.outlet))))
      let due := win.foldl (fun l x => insDue h.te x l) []
      let passed (x : Nat × Entry) : Bool := s.lg.passMissed && decide (-(s.commitLead x.2.outlet : Int) ≤ tdiff h.te x.2.due)
      let order := ((due.filter passed) ++ (due.filter (fun x => !passed x))).take 4096
      let path := (s.predict h).1
      let s1 := order.foldl (fun s x => State.commitOne h path s x.1) s.tick
      { s1 with lg := { s1.lg with passMissed := false, lastPass := some h.te } }

end Sys2Proof.Machine
end

