-- ==== Sys2Proof/Machine/Links.lean ====
section
/-! DEFINITION. Outlet links and remote nodes (chapter 8): the cycle, enumeration, time transfer, commands and acknowledgement,
seals and diagnostics, holds, loss and divergence. -/

namespace Sys2Proof.Machine

def State.link (s : State) (l : Nat) : LinkState := sget (fun _ => {}) s.lk.links l
def State.setLink (s : State) (l : Nat) (k : LinkState) : State :=
  { s with lk := { s.lk with links := sset (fun _ => {}) s.lk.links l k } }

/-- Number of outlet links (R242). -/
def Variant.links : Variant → Nat
  | .f0512 => 8
  | _ => 16

/-- Position states (ND_STATE.STATE). -/
abbrev nEmpty : Nat := 0
abbrev nEnumerating : Nat := 1
abbrev nEnumerated : Nat := 2
abbrev nDivergent : Nat := 3
abbrev nLost : Nat := 4

def State.ndState (s : State) (l p : Nat) : Nat := s.fld (Reg.ND_STATE_STATE l p)

/-- R217: one bit of CRC-16 with polynomial 0x1021. -/
def crc16Bit (c : Nat) : Nat := if 0x8000 ≤ c then ((2 * c) ^^^ 0x1021) % 0x10000 else 2 * c

/-- R217: the check value of a frame's header and payload. -/
def crc16 (bs : List Byte) : Nat :=
  bs.foldl (fun c b => crc16Bit (crc16Bit (crc16Bit (crc16Bit (crc16Bit (crc16Bit (crc16Bit (crc16Bit (c ^^^ (b.toNat * 256)))))))))) 0xFFFF

/-- R216: the bytes of a frame between SOF and EOF. -/
def OutFrame.bytes (f : OutFrame) : List Byte :=
  let h : List Byte := leBytes 1 f.type ++ leBytes 1 (match f.pos with | some p => p | none => 16) ++ leBytes 1 f.payload.length ++ f.payload
  h ++ leBytes 2 (crc16 h)

/-- R216: symbol times a frame occupies. -/
def OutFrame.symbols (f : OutFrame) : Nat := f.payload.length + 7

/-! Receiving (R214, R216, R217). -/

/-- The bytes of an inbound frame that its check value covers. -/
def inBytes (type p : Nat) (payload : List Byte) : List Byte := leBytes 1 type ++ leBytes 1 p ++ leBytes 1 payload.length ++ payload

/-- Payloads of Table 8.3. -/
def identPayload (f : IdentIn) : List Byte :=
  leBytes 2 f.vendor ++ leBytes 2 f.product ++ leBytes 4 f.serial ++ leBytes 1 f.outlets ++ leBytes 1 f.qdepth ++ leBytes 2 f.winMax ++ leBytes 1 f.caps
def statusPayload (f : StatusIn) : List Byte := leBytes 1 f.state ++ leBytes 2 f.cycle ++ leBytes 1 f.rxErr ++ leBytes 1 f.flags
def sealPayload (f : SealIn) : List Byte := leBytes 2 f.seq ++ leBytes 1 f.out ++ leBytes 1 f.code ++ leBytes 5 f.seat

/-- A frame that came over link `l` has its effect where every symbol is good, its length is what its header says, and its check passes;
else it is discarded and counted. -/
def State.linkRx (s : State) (l type p : Nat) (payload : List Byte) (w : LinkRx) (f : State → State) : State :=
  if w.code ≠ 0 then s.bump (Reg.LK_CNT_CODE_N l) w.code
  else if w.symbols ≠ payload.length + 7 then s
  else if w.check ≠ crc16 (inBytes type p payload) then s.bump (Reg.LK_CNT_CRC_N l) 1
  else f s

/-- R224: link, position and node outlet of a remote outlet. -/
def State.remoteOf (s : State) (o : Nat) : Nat × Nat × Nat :=
  (s.fld (Reg.OT_TARGET_LINK o), s.fld (Reg.OT_TARGET_NODE o), s.fld (Reg.OT_TARGET_NODE_OUT o))

/-- The outlets mapped to a position. -/
def State.outletsAt (s : State) (l p : Nat) : List Nat :=
  s.outlets.filter (fun o => decide (s.fld (Reg.OT_CFG_TARGET o) = 4) && decide ((s.remoteOf o).1 = l ∧ (s.remoteOf o).2.1 = p))

/-- R224: TARGET_ABSENT and DIVERGENT of a position's outlets as its state gives them. -/
def State.refreshTargets (s : State) (l p : Nat) : State :=
  (s.outletsAt l p).foldl (fun s o =>
    let there := decide (s.ndState l p = nEnumerated) && (!s.on (Reg.ND_STATE_ID_CHANGED l p) &&
      decide ((s.remoteOf o).2.2 < s.fld (Reg.ND_STATE_OUT_COUNT l p)))
    (s.setBit (Reg.OT_STATE_TARGET_ABSENT o) (!there)).setBit (Reg.OT_STATE_DIVERGENT o)
      (decide (s.ndState l p = nDivergent) || decide (s.ndState l p = nLost))) s

/-- Positions of link `l` in state ENUMERATED. -/
def State.enumerated (s : State) (l : Nat) : List Nat := (List.range 16).filter (fun p => decide (s.ndState l p = nEnumerated))

/-- R223: link outlets in use: those of every position that is not EMPTY. -/
def State.linkOutlets (s : State) (l : Nat) : Nat :=
  ((List.range 16).filter (fun p => decide (s.ndState l p ≠ nEmpty))).foldl (fun a p => a + s.fld (Reg.ND_STATE_OUT_COUNT l p)) 0

/-- LK_STATUS.NODES and OUTLETS kept true. -/
def State.linkCount (s : State) (l : Nat) : State :=
  (s.setFld (Reg.LK_STATUS_NODES l) (s.enumerated l).length).setFld (Reg.LK_STATUS_OUTLETS l) (s.linkOutlets l)

/-- An unsequenced frame queued on link `l`. -/
def State.queueFrame (s : State) (l : Nat) (f : OutFrame) : State := s.setLink l { s.link l with ctl := (s.link l).ctl ++ [f] }

/-- R224: the link outlet that a remote outlet is. -/
def State.linkOutlet (s : State) (o : Nat) : Nat :=
  (s.fld (Reg.ND_STATE_OUT_BASE (s.remoteOf o).1 (s.remoteOf o).2.1) + (s.remoteOf o).2.2) % 64

/-- Outlet `o` is a link outlet of link `l`: mapped to a position that is not EMPTY, within its outlets. -/
def State.onLink (s : State) (l o : Nat) : Bool :=
  let r := s.remoteOf o
  decide (s.fld (Reg.OT_CFG_TARGET o) = 4) && (decide (r.1 = l) && (decide (s.ndState l r.2.1 ≠ nEmpty) &&
    decide (r.2.2 < s.fld (Reg.ND_STATE_OUT_COUNT l r.2.1))))

/-- A mask of link outlets. -/
def maskOf (bs : List Nat) : Nat := bs.foldl (fun m b => m ||| 2 ^ b) 0

/-- The SAFEMAP mask of link `l` (R240): the safe-open link outlets of the active table. -/
def State.safeMask (s : State) (l : Nat) : Nat :=
  maskOf ((s.outlets.filter (fun o => s.onLink l o && s.on (Reg.OT_CFG_SAFE_OPEN o))).map s.linkOutlet)

/-- SAFEMAP queued (R223, R239, R240). -/
def State.sendSafeMap (s : State) (l : Nat) : State := s.queueFrame l ⟨0x06, none, leBytes 8 (s.safeMask l)⟩

/-- R236: the hold mask of link `l`: inhibited outlets, those whose withdrawn OPEN's CANCEL is not acknowledged or was not needed yet,
and those brought closed by their removal (R378). -/
def State.holdMask (s : State) (l : Nat) : Nat :=
  let k := s.link l
  let cancelled := k.cmds.filterMap (fun c => if c.acked && !c.rejected then none else c.holds)
  let inhibited := (s.outlets.filter (fun o => s.onLink l o && s.on (Reg.OT_STATE_INHIBIT o))).map s.linkOutlet
  maskOf (inhibited ++ cancelled ++ k.removed ++ k.unsent)

/-- The payload of a command (Table 8.2). -/
def LinkCmd.payload (c : LinkCmd) (seq : Nat) : List Byte :=
  if c.type = 0x10 then leBytes 2 seq ++ leBytes 1 c.out ++ leBytes 1 c.kind ++ leBytes 5 c.due.toNat ++ leBytes 3 c.a ++ leBytes 3 c.rate
  else if c.type = 0x11 then leBytes 2 seq ++ leBytes 1 c.out ++ leBytes 5 c.due.toNat ++ leBytes 3 c.rate
  else if c.type = 0x12 then leBytes 2 seq ++ leBytes 2 c.target
  else leBytes 2 seq ++ leBytes 5 c.due.toNat ++ leBytes 2 c.mode ++ c.data

/-- The symbol times of frames that follow one another from `n` on. -/
def startsFrom : Nat → List OutFrame → List Nat
  | _, [] => []
  | n, f :: r => n :: startsFrom (n + f.symbols) r

/-- A frame that a cycle has shown as sent was not: it waits again (R215, R236). -/
def LinkState.waits (k : LinkState) (f : OutFrame) : LinkState :=
  if f.type = 0x01 then k
  else if f.type = 0x09 then { k with holdFrames := k.holdFrames + 1 }
  else if f.type < 0x10 then { k with ctl := k.ctl ++ [f] }
  else
    let hit (c : LinkCmd) : Bool := c.sent && c.seq.any (fun q => decide (f = ⟨c.type, some c.pos, c.payload q⟩))
    { k with cmds := k.cmds.map (fun c => if hit c then { c with sent := false } else c) }

/-- Frames of the running cycle sent one after another from symbol `n` on instead of where they stood; one that no longer ends before the next
cycle start waits for it (R218), and a PING's transmit time follows (R225). -/
def LinkState.refit (k : LinkState) (start : Time) : Nat → List OutFrame → LinkState
  | _, [] => k
  | n, f :: r =>
    if n + f.symbols ≤ 1250 then
      let k1 := if f.type = 0x04 then
          { k with pings := (k.pings.filter (fun e => !(decide (some e.1 = f.pos) && decide (start.toNat ≤ e.2.toNat)))) ++ [(f.pos.getD 0, tadd start (640 * n : Nat))] }
        else k
      ({ k1 with sent := k1.sent ++ [f], starts := k1.starts ++ [n] } : LinkState).refit start (n + f.symbols) r
    else (k.waits f).refit start n r

/-- R236: HOLD frames that wait go into the running cycle once the frame in progress has ended, ahead of what it still carries. -/
def State.holdInsert (s : State) (l : Nat) : State :=
  let k := s.link l
  let n := s.ft.toNat % 800000 / 640
  let fs := k.sent.zip k.starts
  let past := fs.filter (fun e => decide (e.2 ≤ n))
  let at' := past.foldl (fun m e => max m (e.2 + e.1.symbols)) (n + 1)
  let hold : OutFrame := ⟨0x09, none, leBytes 4 (s.fld (Reg.LK_HOLD_LO_HOLD l)) ++ leBytes 4 (s.fld (Reg.LK_HOLD_HI_HOLD l))⟩
  if k.holdFrames = 0 ∨ k.cycle ≠ s.ft.toNat / 800000 ∨ k.sent = [] ∨ 1250 < at' + 15 * k.holdFrames then s
  else
    let later := (fs.filter (fun e => decide (n < e.2))).map (·.1)
    s.setLink l (({ k with holdFrames := 0, sent := past.map (·.1), starts := past.map (·.2) } : LinkState).refit
      (BitVec.ofNat 64 (s.ft.toNat / 800000 * 800000)) at' (List.replicate k.holdFrames hold ++ later))

/-- R236: the hold registers follow the mask; newly held outlets send three HOLD frames. -/
def State.holdRefresh (s : State) (l : Nat) : State :=
  let m := s.holdMask l
  let old := s.fld (Reg.LK_HOLD_LO_HOLD l) + 2 ^ 32 * s.fld (Reg.LK_HOLD_HI_HOLD l)
  let s1 := (s.setFld (Reg.LK_HOLD_LO_HOLD l) m).setFld (Reg.LK_HOLD_HI_HOLD l) (m / 2 ^ 32)
  if m &&& (old ^^^ (2 ^ 64 - 1)) = 0 then s1 else (s1.setLink l { s1.link l with holdFrames := 3 }).holdInsert l

/-- The link numbers the variant has. -/
def State.allLinks (s : State) : List Nat := List.range s.variant.links

/-- R228, R236, R161: entries no longer committed: a command already numbered is withdrawn by CANCEL, and stays until its number is
acknowledged; another is dropped; holds follow, those of the outlets `opens` too, whose OPEN is withdrawn. A stop leaves no CANCEL: the
nodes discard their commands at RELEASE (Table 8.5). -/
def State.linksWithdrawn (s : State) (opens : List Nat) (cancels : Bool) : State :=
  let alive (c : LinkCmd) : Bool := c.withdrawn || c.entry.all (fun i => (s.entry i).all (fun e => e.st != eCancelled))
  let one (s : State) (l : Nat) : State :=
    let k := s.link l
    let gone := k.cmds.filter (fun c => !alive c)
    let made := if cancels then gone.filterMap (fun c => c.seq.map (fun q =>
        ({ pos := c.pos, type := 0x12, target := q, due := c.due,
           holds := if c.type = 0x10 ∧ c.kind = 0 then (c.entry.bind s.entry).map (fun e => s.linkOutlet e.outlet) else none } : LinkCmd))) else []
    let kept := k.cmds.filterMap (fun c => if alive c then some c else if c.seq.isSome ∧ ¬ c.acked then some { c with withdrawn := true } else none)
    let unsent := if cancels then ((opens.filter (s.onLink l)).map s.linkOutlet).filter (fun b => !made.any (fun c => decide (c.holds = some b))) else []
    (s.setLink l { k with cmds := kept ++ made, unsent := k.unsent.filter (fun b => !unsent.contains b) ++ unsent }).holdRefresh l
  s.allLinks.foldl one s

/-- R161, R236: a withdrawal path and what it does on the links. -/
def State.withdrawAll (s : State) (p : Entry → Bool) (cause path ctx first last : Nat) (cancels : Bool) : State :=
  let opens := (s.ledger.filter (fun x => decide (x.2.st = eCommitted) && (p x.2 && (decide (x.2.kind = kOpen) && x.2.remote)))).map (·.2.outlet)
  (s.withdraw p cause path ctx first last).linksWithdrawn opens cancels

/-- R238: for the painter an open outlet of a LOST or DIVERGENT position closes 5 ms after the last BEACON with the position's bit, and
it has not opened after that. -/
def State.lossClose (s : State) (l p o : Nat) : State :=
  if s.on (Reg.OT_STATE_SEALED_OPEN o) then
    let tv : Time := sget (fun _ => 0) (s.link l).beacons p
    let t := tadd tv (40000000 + s.fld (Reg.ND_DELAY_D l p) + 2000 * s.fld (lrnF kClose o) : Nat)
    let s1 := s.setFld (Reg.OT_STATE_SEALED_OPEN o) 0
    let kept := (s1.transOf o).filter (fun e => !(e.1 && decide (0 < tdiff e.2 t)))
    ({ s1 with mp := { s1.mp with trans := sset (fun _ => []) s1.mp.trans o kept } } : State).lateSeal o false t
  else s

/-- R238: position `p` becomes LOST or DIVERGENT. -/
def State.nodeOut (s : State) (l p st : Nat) : State :=
  if s.ndState l p = st ∨ s.ndState l p = nEmpty then s
  else
    let s1 := (s.setFld (Reg.ND_STATE_STATE l p) st).setLink l { s.link l with valid := putBits (s.link l).valid p 1 0 }
    let s2 := s1.raise (if st = nLost then Reg.LK_EVENT_NODE_LOST l else Reg.LK_EVENT_DIVERGENT l)
    let s3 := (s2.refreshTargets l p).linkCount l
    (s3.outletsAt l p).foldl (fun s o => s.lossClose l p o) s3

/-- A position is ENUMERATED: its bit and SAFEMAP; the next frame start finds its outlets plannable (R116, R223, R239). -/
def State.nodeIn (s : State) (l p : Nat) : State :=
  let s1 := s.setFld (Reg.ND_STATE_STATE l p) nEnumerated
  let s2 := s1.setLink l { s1.link l with valid := putBits (s1.link l).valid p 1 1, resync := (s1.link l).resync.filter (· ≠ p),
                                          cmds := (s1.link l).cmds.filter (fun c => decide (c.pos ≠ p)) }
  let s3 := ((s2.setFld (Reg.ND_SEQ_TX_SEQ l p) 0).setFld (Reg.ND_SEQ_ACK_SEQ l p) 0).setFld (Reg.ND_SEQ_PENDING l p) 0
  let s5 := (((s3.sendSafeMap l).refreshTargets l p).linkCount l).holdRefresh l
  (s5.outletsAt l p).foldl (fun s o => s.setOpen o false) s5

/-- CONFIRM (R223, R239). -/
def State.confirmFrame (s : State) (l p : Nat) : OutFrame :=
  ⟨0x03, some p, leBytes 1 (s.fld (Reg.ND_STATE_OUT_BASE l p)) ++ leBytes 1 (s.fld (Reg.ND_STATE_OUT_COUNT l p))⟩

/-- R223: the position that is next assigned: the lowest EMPTY one beyond the last ENUMERATED one. -/
def State.nextPosition (s : State) (l : Nat) : Option Nat :=
  let last := (s.enumerated l).foldl (fun m p => max m (p + 1)) 0
  (List.range 16).find? (fun p => decide (last ≤ p) && decide (s.ndState l p = nEmpty))

/-- R223, R239: a CONFIRM has been sent: its position is ENUMERATED; enumeration goes on no earlier than 1.2 ms after, and ends where no
position or outlet is left. -/
def State.confirmed (s : State) (l p : Nat) : State :=
  let s1 := s.nodeIn l p
  if (s.link l).enumerating.any (fun e => decide (e.1 = p)) then
    let s2 := (s1.setLink l { s1.link l with enumerating := none, notBefore := tadd s.ft 9600000 }).raise (Reg.LK_EVENT_NODE_ADDED l)
    if 64 ≤ s2.linkOutlets l ∨ (s2.nextPosition l).isNone then s2.setFld (Reg.LK_STATUS_STATE l) 2 else s2
  else s1

/-- R225: the cycle's PING of an ENUMERATED position, in turn. -/
def LinkState.ping (k : LinkState) (ps : List Nat) : LinkState :=
  match (ps.find? (fun p => decide (k.turn < p))).or ps.head? with
  | some p => { k with turn := p, ctl := k.ctl ++ [⟨0x04, some p, []⟩] }
  | none => k

/-- R223, R225: the enumeration's and time transfer's part of a cycle: one PING, of the position being enumerated or of one in turn. -/
def State.enumStep (s : State) (l : Nat) : State :=
  let k := s.link l
  let ps := s.enumerated l
  match k.enumerating with
  | some (p, n) =>
    if n < 4 then s.setLink l { k with enumerating := some (p, n + 1), ctl := k.ctl ++ [⟨0x04, some p, []⟩] }
    else if n = 4 then
      s.setLink l (({ k with enumerating := some (p, 5),
                             ctl := k.ctl ++ [⟨0x05, some p, leBytes 4 (s.fld (Reg.ND_DELAY_D l p))⟩, s.confirmFrame l p] } : LinkState).ping ps)
    else s.setLink l (k.ping ps)
  | none =>
    let scan := (s.on (Reg.LK_CTRL_SCAN l) || s.fld (Reg.LK_STATUS_STATE l) == 1) && (decide (s.linkOutlets l < 64) && tge s.ft k.notBefore)
    match scan, s.nextPosition l with
    | true, some p =>
      let n := match k.assign with | some (q, n) => if q = p then n else 0 | none => 0
      s.setLink l (({ k with assign := some (p, n + 1), ctl := k.ctl ++ [⟨0x02, some p, []⟩] } : LinkState).ping ps)
    | _, _ => s.setLink l ({ k with assign := none }.ping ps)

/-- R24: the events that at least two fire copies hold, by ledger entry index. -/
def State.votedSlots (s : State) : List (Nat × FireSlot) :=
  match s.inService with
  | a :: b :: _ => (((s.copySlots a).map (·.1)) ++ ((s.copySlots b).map (·.1)).filter (fun i => (s.copySlots a).all (fun e => decide (e.1 ≠ i)))).filterMap
      (fun i => (s.voted i).map (fun x => (i, x)))
  | _ => []

/-- R24, R25: the commands of the fire slots that the link has not yet formed: remote events that two copies agree on, of its valid positions. -/
def State.newCmds (s : State) (l : Nat) : List LinkCmd :=
  (s.votedSlots.filter (fun p => decide (s.fld (Reg.OT_CFG_TARGET p.2.outlet) = 4) && (!(p.2.kind == kRate && s.on (Reg.OT_RATE_DEST p.2.outlet)) &&
    (decide ((s.remoteOf p.2.outlet).1 = l) && (bit (s.link l).valid (s.remoteOf p.2.outlet).2.1 && (s.link l).cmds.all (fun c => decide (c.entry ≠ some p.1))))))).map (fun p =>
      { pos := (s.remoteOf p.2.outlet).2.1, type := if p.2.kind = kRate then 0x11 else 0x10, entry := some p.1,
        out := (s.remoteOf p.2.outlet).2.2, kind := p.2.kind, due := p.2.due, a := p.2.a,
        rate := if p.2.kind = kClose then 0 else p.2.param })

/-- R220: rank of a command: a new CANCEL, then what is sent again, then the rest. -/
def LinkCmd.rank (c : LinkCmd) : Nat := if c.seq.isSome then 1 else if c.type = 0x12 then 0 else 2

/-- R228: how far back from the next number a command's own number lies. -/
def State.seqAge (s : State) (l : Nat) (c : LinkCmd) : Nat := (s.fld (Reg.ND_SEQ_TX_SEQ l c.pos) + 4096 - c.seq.getD 0 % 4096) % 4096

/-- Commands in the order of R220: by rank, those sent again oldest number first (go-back-N), new ones by due time. -/
def State.insCmd (s : State) (l : Nat) (x : LinkCmd) : List LinkCmd → List LinkCmd
  | [] => [x]
  | y :: r => if x.rank < y.rank ∨ (x.rank = 1 ∧ y.rank = 1 ∧ s.seqAge l y < s.seqAge l x) ∨
      (x.rank = 2 ∧ y.rank = 2 ∧ tdiff x.due s.ft < tdiff y.due s.ft) then x :: y :: r else y :: s.insCmd l x r

/-- R24, R25: a command goes out while two fire copies hold its event; a CANCEL, a MODE and what a withdrawal leaves behind hang on none. -/
def State.maySendCmd (s : State) (c : LinkCmd) : Bool := c.withdrawn || c.entry.all (fun i => (s.voted i).isSome)

/-- R228: the node's pending count once everything sent to it is counted. -/
def State.pendingAt (s : State) (l p : Nat) : Nat :=
  ((s.link l).cmds.filter (fun c => decide (c.pos = p) && (c.sent && (!c.rejected && (decide (c.type ≠ 0x12) && decide (0 < tdiff c.due s.ft)))))).length

/-- What a cycle carries so far: state, symbols used, frames sent (R218). -/
abbrev Cycle := State × Nat × List OutFrame

/-- One frame of the cycle, if it still ends before the next cycle start (R218). -/
def cyclePut (c : Cycle) (f : OutFrame) : Option Cycle :=
  if c.2.1 + f.symbols ≤ 1250 then some (c.1, c.2.1 + f.symbols, c.2.2 ++ [f]) else none

/-- R227, R228: one command sent with its sequence number, if the node can hold it. -/
def cycleCmd (l : Nat) (c : Cycle) (x : LinkCmd) : Cycle :=
  let s := c.1
  let seq := x.seq.getD (s.fld (Reg.ND_SEQ_TX_SEQ l x.pos))
  let f : OutFrame := ⟨x.type, some x.pos, x.payload seq⟩
  let holdsMore := decide (s.pendingAt l x.pos < s.fld (Reg.ND_CAPS_QDEPTH l x.pos)) || x.type == 0x12
  match (if holdsMore then cyclePut c f else none) with
  | none => c
  | some d =>
    let s1 := if x.seq.isSome then s else s.setFld (Reg.ND_SEQ_TX_SEQ l x.pos) (seq + 1)
    let k := s1.link l
    let y := { x with seq := some seq, sent := true }
    let s2 := s1.setLink l { k with cmds := if k.cmds.contains x then k.cmds.map (fun z => if z = x then y else z) else k.cmds ++ [y] }
    ((if x.type = 0x10 then s2.count (0x070 + l) 1 else s2), d.2)

/-- R220: rank of an unsequenced frame: PING, DELAY, CONFIRM, ASSIGN, SAFEMAP, RELEASE, RESET. -/
def ctlRank (t : Nat) : Nat :=
  if t = 0x04 then 0 else if t = 0x05 then 1 else if t = 0x03 then 2 else if t = 0x02 then 3 else if t = 0x06 then 4 else if t = 0x07 then 5 else 6

def insCtl (x : OutFrame) : List OutFrame → List OutFrame
  | [] => [x]
  | y :: r => if ctlRank x.type < ctlRank y.type then x :: y :: r else y :: insCtl x r

/-- An unsequenced frame of the cycle; a PING's transmit time is kept (R225), one that does not fit waits. -/
def cycleCtl (l : Nat) (start : Time) (c : Cycle) (f : OutFrame) : Cycle :=
  match cyclePut c f with
  | some d =>
    if f.type = 0x04 then
      let s := c.1
      (s.setLink l { s.link l with pings := (s.link l).pings ++ [(f.pos.getD 0, tadd start (640 * c.2.1 : Nat))] }, d.2)
    else d
  | none => (c.1.queueFrame l f, c.2)

/-- What the frames of the cycle that has ended brought about: positions confirmed (R223, R239), SAFEMAP as last sent (R243). -/
def State.cycleEnds (s : State) (l : Nat) : State :=
  (s.link l).sent.foldl (fun s f =>
    if f.type = 0x03 then
      (match f.pos with
      | some p => if s.ndState l p = nEmpty then s else s.confirmed l p
      | none => s)
    else if f.type = 0x06 then (s.setFld (Reg.LK_SAFE_LO_SAFE l) (leAt f.payload 0 4)).setFld (Reg.LK_SAFE_HI_SAFE l) (leAt f.payload 4 4)
    else s) (s.setLink l { s.link l with sent := [], starts := [] })

/-- R218, R220: a cycle of link `l`: BEACON, HOLD, CANCEL, retries, new commands, then the rest. -/
def State.linkCycle (s : State) (l : Nat) : State :=
  if s.variant.links ≤ l ∨ ¬ s.on (Reg.LK_CTRL_EN l) then s
  else
    let s0 := if s.fld (Reg.LK_STATUS_STATE l) = 0 then s.setFld (Reg.LK_STATUS_STATE l) 1 else s
    let c := s.ft.toNat / 800000
    let start : Time := BitVec.ofNat 64 (800000 * c)
    let s1 := (s0.cycleEnds l).enumStep l
    let k := s1.link l
    let hold := leBytes 4 (s1.fld (Reg.LK_HOLD_LO_HOLD l)) ++ leBytes 4 (s1.fld (Reg.LK_HOLD_HI_HOLD l))
    let beacon : OutFrame := ⟨0x01, none, leBytes 8 start.toNat ++ leBytes 2 c ++ leBytes 2 k.valid ++ hold⟩
    let bs := (List.range 16).foldl (fun m p => if bit k.valid p then sset (fun _ => 0) m p start else m) k.beacons
    let live := k.cmds.filter (fun x => x.type == 0x12 || (x.entry.isNone || (x.entry.any (fun i => (s1.entry i).any (fun e => e.inFlight)) ||
      (x.withdrawn && (!x.acked && decide (0 < tdiff x.due s1.ft))))))
    let young := k.pings.filter (fun e => decide (tdiff start e.2 ≤ 1600000))
    let holds := List.replicate k.holdFrames (⟨0x09, none, hold⟩ : OutFrame)
    let s2 := (s1.setLink l { k with ctl := [], cmds := live, beacons := bs, cycle := c, holdFrames := 0, pings := young }).setFld (Reg.LK_VALID_VALID l) k.valid
    let c0 : Cycle := (s2, (beacon :: holds).foldl (fun a f => a + f.symbols) 0, beacon :: holds)
    let cmds := if s2.on Reg.IMG_STATUS_ACTIVE then
        ((live.filter (fun x => !x.sent && s2.maySendCmd x)) ++ s2.newCmds l).foldl (fun q x => s2.insCmd l x q) [] else []
    let c1 := cmds.foldl (cycleCmd l) c0
    let c2 := (k.ctl.foldl (fun q f => insCtl f q) []).foldl (cycleCtl l start) c1
    (c2.1.setLink l { c2.1.link l with sent := c2.2.2, starts := startsFrom 0 c2.2.2, unsent := [] }).holdRefresh l

/-- R223: 20 cycles without an IDENT: the chain ends there; the next attempt follows 10 ms later. -/
def State.chainEnd (s : State) (l : Nat) : State :=
  let k := s.link l
  if k.assign.isSome then
    (s.setLink l { k with assign := none, notBefore := tadd s.ft 80000000 }).setFld (Reg.LK_STATUS_STATE l) 2
  else s

/-- R223: IDENT from the position being assigned. -/
def State.ident (s : State) (l p : Nat) (f : IdentIn) : State :=
  let k := s.link l
  if k.assign.any (fun a => decide (a.1 = p)) ∧ p < 16 then
    let s0 := s.setFld (Reg.LK_STATUS_RX_ALIGNED l) 1
    let ep := s.fld (Reg.ND_EXPECT_PRODUCT l p)
    let eo := s.fld (Reg.ND_EXPECT_OUTLETS l p)
    if 64 < s.linkOutlets l + f.outlets ∨ (ep ≠ 0 ∧ ep ≠ f.product) ∨ (eo ≠ 0 ∧ eo ≠ f.outlets) then
      let s1 := s0.setLink l { k with assign := none, notBefore := tadd s.ft 80000000, ctl := k.ctl ++ [⟨0x08, some p, []⟩] }
      ((s1.setFld (Reg.ND_STATE_MISMATCH l p) 1).raise (Reg.LK_EVENT_MISMATCH l)).setFld (Reg.LK_STATUS_STATE l) 2
    else
      let base := ((List.range p).map (fun q => if s.ndState l q = nEmpty then 0 else s.fld (Reg.ND_STATE_OUT_COUNT l q))).foldl (· + ·) 0
      let changed := (sget (fun _ => none) k.serials p).any (fun x => decide (x ≠ f.serial))
      let s1 := s0.setLink l { k with assign := none, enumerating := some (p, 0), serials := sset (fun _ => none) k.serials p (some f.serial),
                                      rtts := sset (fun _ => []) k.rtts p [] }
      let s2 := ((((s1.setFld (Reg.ND_STATE_STATE l p) nEnumerating).setFld (Reg.ND_STATE_OUT_BASE l p) base).setFld
        (Reg.ND_STATE_OUT_COUNT l p) f.outlets).setFld (Reg.ND_STATE_MISMATCH l p) 0).setFld (Reg.ND_DELAY_D l p) 0
      let s3 := (((((s2.setFld (Reg.ND_ID_VENDOR l p) f.vendor).setFld (Reg.ND_ID_PRODUCT l p) f.product).setFld (Reg.ND_SERIAL_SERIAL l p)
        f.serial).setFld (Reg.ND_CAPS_QDEPTH l p) f.qdepth).setFld (Reg.ND_CAPS_WIN_MAX l p) f.winMax).setFld (Reg.ND_CAPS_CAPS l p) f.caps
      let s4 := if changed then (s3.setFld (Reg.ND_STATE_ID_CHANGED l p) 1).raise (Reg.LK_EVENT_ID_CHANGED l) else s3
      s4.linkCount l
  else s

/-- R219: `rx` falls in a window of position `p`. -/
def inNodeWindow (p : Nat) (rx : Time) : Bool := inRange (32000 + 46080 * p) (32000 + 46080 * (p + 1)) (rx.toNat % 800000)

/-- R219, R225: the start, at OLnRX, of the first window of position `p` at or after `t`. -/
def nextWindow (p : Nat) (t : Nat) : Nat :=
  let base := 32000 + 46080 * p
  base + (t - base + 799999) / 800000 * 800000

/-- R225: a PONG whose SOF reached OLnRX at `rx` answers the PING whose arrival at the node the window of `rx` is the first to follow. -/
def State.pong (s : State) (l p turn : Nat) (rx : Time) : State :=
  let k := s.link l
  match k.pings.find? (fun e => decide (e.1 = p) && (inNodeWindow p rx && (decide (0 < tdiff rx e.2) &&
      decide (rx.toNat < nextWindow p (e.2.toNat + 2 * s.fld (Reg.ND_DELAY_D l p)) + 46080 ∧ nextWindow p (e.2.toNat + 2 * s.fld (Reg.ND_DELAY_D l p)) ≤ rx.toNat)))) with
  | none => s
  | some (_, tx) =>
    let rtt := tdiff rx tx - turn
    let rs := (rtt :: sget (fun _ => []) k.rtts p).take 8
    let sum : Int := rs.foldl (· + ·) 0
    let d := (sum / (2 * rs.length : Nat)).toNat
    let spread := (rs.foldl max rtt - rs.foldl min rtt).toNat
    let s1 := s.setLink l { k with rtts := sset (fun _ => []) k.rtts p rs, pings := k.pings.filter (fun e => decide (e.1 ≠ p) || decide (0 < tdiff e.2 tx)) }
    let s2 := (s1.setFld (Reg.ND_DELAY_D l p) (min d 0xFFFFF)).setFld (Reg.ND_SPREAD_SPREAD l p) (min spread 0xFFFFF)
    if s.ndState l p = nEnumerated ∧ d ≠ s.fld (Reg.ND_DELAY_D l p) then s2.queueFrame l ⟨0x05, some p, leBytes 4 d⟩ else s2

/-- R239: CONFIRM to a position that re-joins, once; it is ENUMERATED when that has been sent. -/
def State.resync (s : State) (l p : Nat) : State :=
  if ((s.link l).ctl ++ (s.link l).sent).any (fun f => decide (f.type = 0x03) && decide (f.pos = some p)) then s
  else s.queueFrame l (s.confirmFrame l p)

/-- R238, R239: STATUS of a position. -/
def State.nodeStatus (s : State) (l p : Nat) (f : StatusIn) : State :=
  if p < 16 ∧ s.ndState l p ≠ nEmpty then
    let st := s.ndState l p
    let s1 := s.setFld (Reg.ND_STATE_NODE_STATE l p) f.state
    if f.state ≠ 5 then s1
    else if st = nEnumerated then s1.nodeOut l p nDivergent
    else if (st = nLost ∨ st = nDivergent) ∧ (s.on (Reg.LK_CTRL_AUTO_RESYNC l) ∨ (s.link l).resync.contains p) then s1.resync l p
    else s1
  else s

/-- R227: `b` is at or after `a` in 12-bit sequence order. -/
def seqCovers (b a : Nat) : Bool := decide ((b + 4096 - a % 4096) % 4096 < 2048)

/-- R228: the acknowledged mark of a ledger entry. -/
def State.markAcked (s : State) (i : Nat) (b : Bool) : State :=
  match s.entry i with
  | some e => s.setEntry i { e with acked := b }
  | none => s

/-- R476: the duty that an acknowledged command gives its outlet. -/
def State.dutyAcked (s : State) (c : LinkCmd) : State :=
  match c.entry.bind s.entry with
  | some e => if c.type = 0x11 ∨ (c.type = 0x10 ∧ c.kind = kOpen) then { s with lk := { s.lk with duties := sset (fun _ => 0) s.lk.duties e.outlet c.rate } } else s
  | none => s

/-- R227, R228: ACK: every command up to `seq` that no REJECT names is acknowledged; a CANCEL's acknowledgement ends its hold (R236). -/
def State.linkAck (s : State) (l p seq pending : Nat) : State :=
  if s.variant.links ≤ l ∨ 16 ≤ p then s
  else
    let k := s.link l
    let hit (c : LinkCmd) : Bool := decide (c.pos = p) && c.seq.any (fun q => seqCovers seq q)
    let good := k.cmds.filter (fun c => hit c && (!c.acked && (!c.rejected && !c.withdrawn)))
    let cmds := (k.cmds.map (fun c => if hit c then { c with acked := true } else c)).filter (fun c =>
      !(c.acked && ((c.type == 0x12 && !c.rejected) || c.withdrawn)))
    let s1 := ((s.setLink l { k with cmds := cmds }).setFld (Reg.ND_SEQ_ACK_SEQ l p) seq).setFld (Reg.ND_SEQ_PENDING l p) pending
    (good.foldl (fun s c => (match c.entry with | some i => s.markAcked i true | none => s).dutyAcked c) s1).holdRefresh l

/-- R227, R228: REJECT names a command. -/
def State.linkReject (s : State) (l p seq : Nat) : State :=
  if s.variant.links ≤ l ∨ 16 ≤ p then s
  else
    let k := s.link l
    let hit (c : LinkCmd) : Bool := decide (c.pos = p) && c.seq.any (fun q => decide (q = seq))
    let s1 := s.setLink l { k with cmds := k.cmds.map (fun c => if hit c then { c with rejected := true } else c) }
    let s2 := (s1.bump (Reg.LK_CNT2_REJECT_N l) 1).raise (Reg.LK_EVENT_REJECT l)
    ((k.cmds.filter hit).filterMap (·.entry)).foldl (fun s i => s.markAcked i false) s2

/-- R228: go-back-N: the unacknowledged commands whose due time has not passed are sent again. -/
def State.linkRetry (s : State) (l p : Nat) : State :=
  let k := s.link l
  let hit (c : LinkCmd) : Bool := decide (c.pos = p) && (c.sent && (!c.acked && (c.type == 0x12 || decide (0 < tdiff c.due s.ft))))
  if k.cmds.any hit then
    ((s.setLink l { k with cmds := k.cmds.map (fun c => if hit c then { c with sent := false } else c) }).bump (Reg.LK_CNT2_RETRY_N l) 1).count (0x060 + l) 1
  else s

/-- R152: the full time nearest the present FT with the given low 40 bits, the earlier at a tie. -/
def State.near40 (s : State) (v : Nat) : Time :=
  let d := (v + 2 ^ 40 - s.ft.toNat % 2 ^ 40) % 2 ^ 40
  if d < 2 ^ 39 then s.ft + BitVec.ofNat 64 d else s.ft - BitVec.ofNat 64 (2 ^ 40 - d)

/-- R232: the entry that a SEAL of position `p` names by its sequence number and outlet, where its code is one of the rule's. -/
def State.sealFor (s : State) (l p : Nat) (f : SealIn) : Option Nat :=
  let hit (c : LinkCmd) : Bool := decide (c.pos = p) && (c.type == 0x10 && (c.seq.any (fun q => decide (q = f.seq)) && decide (c.out = f.out)))
  if (1 ≤ f.code ∧ f.code ≤ 4) ∨ f.code = 9 then (((s.link l).cmds.filter hit).filterMap (·.entry)).head? else none

/-- R232: a node's SEAL seals the FIRED edge of its sequence number; at a LOST or DIVERGENT position the painter closes what it opened
(R238). -/
def State.nodeSeal (s : State) (l p : Nat) (f : SealIn) : State :=
  match s.sealFor l p f with
  | some i =>
    let s1 := s.sealEntry i f.code (if f.code = 1 ∨ f.code = 2 ∧ f.seat ≠ 0 then some (s.near40 f.seat) else none)
    if s.ndState l p = nLost ∨ s.ndState l p = nDivergent then
      (match s.entry i with
      | some e => if e.kind = kOpen then s1.lossClose l p e.outlet else s1
      | none => s1)
    else s1
  | none => s

/-- R234: a node's DIAG. -/
def State.nodeDiag (s : State) (l p out fault value : Nat) : State :=
  if s.variant.links ≤ l ∨ 16 ≤ p then s
  else
    let s1 := ((s.setFld (Reg.ND_DIAG_OUT l p) out).setFld (Reg.ND_DIAG_FAULT l p) fault).setFld (Reg.ND_DIAGV_VALUE l p) value
    s1.muslin 6 0x0101 (leBytes 1 l ++ leBytes 1 p ++ leBytes 1 out ++ leBytes 1 0 ++ leBytes 2 fault ++ leBytes 2 value)

/-- R241: a SEAL or DIAG frame received in a takeover is held. -/
def State.holdFrame (s : State) (i : Instr) : State := s.hold (.link i)

/-- R241: a frame held is passed on. -/
def State.passFrame (s : State) (i : Instr) : State :=
  match i with
  | .sealFrame l p f _ => s.nodeSeal l p f
  | .diag l p out fault value _ => s.nodeDiag l p out fault value
  | _ => s

/-- R241: a SEAL of entry `i` arrived in time and is held. -/
def State.sealHeld (s : State) (i : Nat) : Bool :=
  s.rs.held.any (fun h => match h with | .link (.sealFrame l p f _) => decide (s.sealFor l p f = some i) | _ => false)

/-- R233, R238: no SEAL arrived in time. -/
def State.noReport (s : State) (i : Nat) : State :=
  match s.entry i with
  | some e =>
    if e.st = eFired ∧ e.remote ∧ ¬ s.sealHeld i then
      let r := s.remoteOf e.outlet
      let s1 := (s.bump (Reg.ND_CNT_NOREP_N r.1 r.2.1) 1).sealEntry i sNoReport none
      if s.ndState r.1 r.2.1 = nLost ∨ s.ndState r.1 r.2.1 = nDivergent then s1.lossClose r.1 r.2.1 e.outlet else s1
    else s
  | none => s

/-- R238: eight windows of a position brought no frame. -/
def State.nodeLost (s : State) (l p : Nat) : State :=
  if l < s.variant.links ∧ p < 16 ∧ (s.ndState l p = nEnumerated ∨ s.ndState l p = nDivergent) then s.nodeOut l p nLost else s

/-- The position becomes EMPTY after a RESET is sent to it (R237, R243). -/
def State.nodeReset (s : State) (l p : Nat) : State :=
  let k := s.link l
  let s1 := s.setLink l { k with ctl := k.ctl.filter (fun f => decide (f.pos ≠ some p)) ++ [⟨0x08, some p, []⟩], cmds := k.cmds.filter (fun c => decide (c.pos ≠ p)),
                                 valid := putBits k.valid p 1 0,
                                 enumerating := k.enumerating.filter (fun e => decide (e.1 ≠ p)),
                                 removed := k.removed.filter (fun b => !inRange (s.fld (Reg.ND_STATE_OUT_BASE l p))
                                   (s.fld (Reg.ND_STATE_OUT_BASE l p) + s.fld (Reg.ND_STATE_OUT_COUNT l p)) b) }
  let s2 := (s1.setFld (Reg.ND_STATE_STATE l p) nEmpty).setFld (Reg.ND_STATE_OUT_COUNT l p) 0
  ((s2.refreshTargets l p).linkCount l).holdRefresh l

/-- R237: REMOVE is for a position that the image no longer maps. -/
def State.nodeRemove (s : State) (l p : Nat) : State :=
  if (s.outletsAt l p).isEmpty then s.nodeReset l p else s.raise (Reg.LK_EVENT_CFG_ERR l)

/-- R223: ACCEPT of a node with another serial number. -/
def State.nodeAccept (s : State) (l p : Nat) : State := (s.setFld (Reg.ND_STATE_ID_CHANGED l p) 0).refreshTargets l p

/-- R239: RESYNC: at once where the node has shown LOSS, else once it does. -/
def State.nodeResync (s : State) (l p : Nat) : State :=
  let st := s.ndState l p
  if st = nLost ∨ st = nDivergent then
    if s.fld (Reg.ND_STATE_NODE_STATE l p) = 5 then s.resync l p
    else s.setLink l { s.link l with resync := (s.link l).resync ++ [p] }
  else s

/-- R215: the frame in progress on link `l` is interrupted and will be sent again; a BEACON is, at the next cycle start. -/
def State.interrupt (s : State) (l : Nat) : State :=
  let k := s.link l
  let n := s.ft.toNat % 800000 / 640
  if k.cycle ≠ s.ft.toNat / 800000 then s
  else match (k.sent.zip k.starts).find? (fun e => decide (e.2 ≤ n) && decide (n < e.2 + e.1.symbols)) with
    | none => s
    | some f =>
      if f.1.type = 0x01 then s
      else
        let fs := (k.sent.zip k.starts).filter (fun e => decide (e.2 ≠ f.2))
        s.setLink l (({ k with sent := fs.map (·.1), starts := fs.map (·.2) } : LinkState).waits f.1)

/-- R235: HALT (1) or SAFE (2) on every present link. -/
def State.linksStop (s : State) (sp : Nat) : State :=
  s.allLinks.foldl (fun s l => let s1 := s.interrupt l; s1.setLink l { s1.link l with special := sp }) s

/-- R235: RELEASE on every present link. -/
def State.linksRelease (s : State) : State :=
  s.allLinks.foldl (fun s l =>
    let k := s.link l
    s.setLink l { k with ctl := k.ctl.filter (fun f => decide (f.type ≠ 0x07)) ++ [⟨0x07, none, []⟩], special := 0 }) s

/-- R231: a MODE frame for a position. -/
def State.sendMode (s : State) (l p mode : Nat) (data : List Byte) (due : Time) : State :=
  s.setLink l { s.link l with cmds := (s.link l).cmds ++ [{ pos := p, type := 0x13, mode := mode, data := data, due := due }] }

/-- R231: at the boundary, positions whose MODE is not acknowledged are DIVERGENT; a MODE not yet sent still goes out, the others end. -/
def State.modeBoundary (s : State) : State :=
  s.allLinks.foldl (fun s l =>
    let k := s.link l
    let bad := (k.cmds.filter (fun c => c.type == 0x13 && (!c.withdrawn && (!c.acked || c.rejected)))).map (·.pos)
    let cmds := k.cmds.filterMap (fun c => if c.type != 0x13 then some c else if c.seq.isNone then some { c with withdrawn := true } else none)
    bad.foldl (fun s p => s.nodeOut l p nDivergent) (s.setLink l { k with cmds := cmds })) s

/-- A write in the link blocks (R243). Of several bits of ND_CTRL each acts, in the order ACCEPT, REMOVE, RESET, RESYNC, and a refused REMOVE
leaves the others in effect (DESIGN CHOICE, log 36). -/
def State.lkWrite (s : State) (a v : Nat) : State :=
  let l := (a - 0x530000) / 0x800
  let off := a % 0x800
  if off = 0 then
    let s1 := s.writeCodes a v
    if bit v 0 then s1 else s1.setFld (Reg.LK_STATUS_STATE l) 0
  else if 0x100 ≤ off ∧ off % 0x40 = 0x1C ∧ off < 0x500 then
    let p := (off - 0x100) / 0x40
    let s1 := if bit v 0 then s.nodeAccept l p else s
    let s2 := if bit v 1 then s1.nodeRemove l p else s1
    let s3 := if bit v 2 then s2.nodeReset l p else s2
    if bit v 3 then s3.nodeResync l p else s3
  else s.writeCodes a v

end Sys2Proof.Machine
end

