-- ==== Sys2Proof/Machine/LoopIn.lean ====
section
/-! DEFINITION. Loop slots but for their runs (chapter 9): states and causes, setpoints, input values and new samples, position
counters, tables and coefficients. -/

namespace Sys2Proof.Machine

/-- Slot states (Table 9.1). -/
abbrev slOff : Nat := 0
abbrev slStopped : Nat := 1
abbrev slSoft : Nat := 2
abbrev slRun : Nat := 3
abbrev slSafe : Nat := 4

/-- SAFE_CAUSE codes. -/
abbrev caHeld : Nat := 1
abbrev caStop : Nat := 2
abbrev caInput : Nat := 3
abbrev caRunaway : Nat := 4
abbrev caDebug : Nat := 5

def State.slot (s : State) (n : Nat) : SlotState := sget (fun _ => {}) s.lp.slots n
def State.setSlot (s : State) (n : Nat) (x : SlotState) : State := { s with lp := { s.lp with slots := sset (fun _ => {}) s.lp.slots n x } }
def State.slState (s : State) (n : Nat) : Nat := s.fld (Reg.SL_STATE_STATE n)
def State.core (s : State) (c : Nat) : CoreState := sget (fun _ => {}) s.lp.cores c
def State.setCore (s : State) (c : Nat) (x : CoreState) : State := { s with lp := { s.lp with cores := sset (fun _ => {}) s.lp.cores c x } }
def State.counter (s : State) (k : Nat) : CounterState := sget (fun _ => {}) s.lp.counters k
def State.setCounter (s : State) (k : Nat) (x : CounterState) : State :=
  { s with lp := { s.lp with counters := sset (fun _ => {}) s.lp.counters k x } }

/-- The slots that are not OFF; a written SL_STATE is listed. -/
def State.liveSlots (s : State) : List Nat := (List.range 64).filter (fun n => decide (s.slState n ≠ slOff))

/-- A flag of SL_FLAGS, sticky (R246). -/
def State.slFlag (s : State) (n f : Nat) : State := (s.setFbit ⟨0x541008 + 256 * (n % 64), 0, 16⟩ f true).raise Reg.LP_EVENT_SLOT_FLAG

/-! Position counters (R256). -/

/-- R254, R256: of stamps, newest first, those within `win` ticks of `now`, or the last two. -/
def recentBy {α : Type} (stamp : α → Time) (now : Time) (win : Nat) (es : List α) : List α :=
  let r := es.filter (fun e => decide ((now - stamp e).toNat ≤ win))
  if 2 ≤ r.length then r else es.take 2

/-- R256: the velocity of counter `k` at `now`, 2^-10 cycle per second. -/
def State.counterVel (s : State) (k : Nat) (now : Time) : Int :=
  let es := (s.counter k).edges
  let cpr := s.fld (Reg.PC_CPR_CPR k)
  match es with
  | [] => 0
  | e :: _ =>
    if 800000000 < (now - e.1).toNat then 0
    else
      let r := recentBy (·.1) now 80000000 es
      let l := r.getLast?.getD e
      let dn := e.2 - l.2
      let dt := (e.1 - l.1).toNat
      let span := sx 64 (cpr * dt)
      if r.length < 2 ∨ cpr = 0 then 0
      else if span = 0 then satI 20 (Config.velZero dn)
      else satI 20 ((sx 64 (unsx 64 (dn * 1024 * 8000000000))).tdiv span)

/-- R256: the position of counter `k` at `now`, 2^-20 cycle. -/
def State.counterPos (s : State) (k : Nat) (now : Time) : Nat :=
  let c := s.counter k
  let cpr := s.fld (Reg.PC_CPR_CPR k)
  if cpr = 0 then 0
  else
    let base : Nat := (c.n % (cpr : Int)).toNat * 2 ^ 20 / cpr
    let last := (c.edges.head?.map (·.1)).getD now
    let step : Int := (((2 : Nat) ^ 20 / cpr : Nat) : Int)
    let adv := clampI (-step) step ((s.counterVel k now * ((now - last).toNat : Int) * 1024).tdiv 8000000000)
    unsx 20 ((base : Int) + adv)

/-- R257: the value of table `t` at a position; the product is an int32 (R17). -/
def State.tableAt (s : State) (t pos : Nat) : Int :=
  let i := pos / 4096
  let f : Int := ((pos % 4096 : Nat) : Int)
  let a := s.sfld (Reg.TBL_ENTRY t i)
  let b := s.sfld (Reg.TBL_ENTRY t ((i + 1) % 256))
  satI 20 (a + sx 32 (unsx 32 ((b - a) * f)) / 4096)

/-- The Hall states in order of their counts (R256). -/
def hallCount (st : Nat) : Option Nat := ([1, 3, 2, 6, 4, 5] : List Nat).findIdx? (· == st)

/-- The accepted level of field input `i` as the part holds it. -/
def State.fiLevel (s : State) (i : Nat) : Bool := s.fbit (Reg.FIO_LEVEL_LEVEL (i / 32)) (i % 32)

/-- R256: a counter takes a count at `t`. -/
def State.countBy (s : State) (k : Nat) (d : Int) (t : Time) : State :=
  let c := s.counter k
  let d1 := if s.on (Reg.PC_CFG_DIR_INV k) then -d else d
  let n := c.n + d1
  let es := recentBy (·.1) t 80000000 ((t, n) :: c.edges)
  let s1 := s.setCounter k { c with n := n, edges := es }
  let s2 := s1.setBit (Reg.PC_STAT_REVERSE k) (decide (d1 < 0))
  s2.setFld (Reg.PC_COUNT_COUNT k) (if s2.fld (Reg.PC_CPR_CPR k) = 0 then 0 else (n % (s2.fld (Reg.PC_CPR_CPR k) : Int)).toNat)

/-- R256: the count of counter `k` set to `n`, with no edge of its own. -/
def State.countSet (s : State) (k : Nat) (n : Int) : State :=
  let s1 := s.setCounter k { s.counter k with n := n }
  s1.setFld (Reg.PC_COUNT_COUNT k) (if s1.fld (Reg.PC_CPR_CPR k) = 0 then 0 else (n % (s1.fld (Reg.PC_CPR_CPR k) : Int)).toNat)

/-- R256: an accepted edge of field input `i` reaches the counters that use it; `s` holds the new level. True where the counter moved. -/
def State.counterEdge (s : State) (k i : Nat) (rising : Bool) (t : Time) : State × Bool :=
  let mode := s.fld (Reg.PC_CFG_MODE k)
  let ia := s.fld (Reg.PC_CFG_IN_A k)
  let ib := s.fld (Reg.PC_CFG_IN_B k)
  let ic := s.fld (Reg.PC_CFG_IN_C k)
  let la := s.fiLevel ia
  let lb := s.fiLevel ib
  if mode = 1 ∨ mode = 2 then
    if s.on (Reg.PC_CFG_INDEX_EN k) ∧ i = ic then
      let c := s.counter k
      ((((s.setCounter k { c with n := 0, edges := c.edges.map (fun e => (e.1, e.2 - c.n)) }).setFld (Reg.PC_COUNT_COUNT k) 0).setFld
        (Reg.PC_STAT_INDEX_SEEN k) 1), true)
    else if mode = 1 ∧ i = ia then ((s.countBy k (if la = lb then -1 else 1) t).setFld (Reg.PC_STAT_VALID k) 1, true)
    else if mode = 1 ∧ i = ib then ((s.countBy k (if la = lb then 1 else -1) t).setFld (Reg.PC_STAT_VALID k) 1, true)
    else if mode = 2 ∧ i = ia ∧ rising then ((s.countBy k (if lb then -1 else 1) t).setFld (Reg.PC_STAT_VALID k) 1, true)
    else (s, false)
  else if mode = 3 ∧ (i = ia ∨ i = ib ∨ i = ic) then
    let c := s.counter k
    match hallCount (b2n la + 2 * b2n lb + 4 * b2n (s.fiLevel ic)) with
    | none => (((s.setCounter k { c with hall := none, run := 0 }).setFld (Reg.PC_STAT_SEQ_ERR k) 1).setFld (Reg.PC_STAT_VALID k) 0, false)
    | some h =>
      let next := match c.hall with
        | none => some (0 : Int)
        | some p => if h = (p + 1) % 6 then some 1 else if p = (h + 1) % 6 then some (-1) else if h = p then some 0 else none
      let at' : Int := if s.on (Reg.PC_CFG_DIR_INV k) then ((6 - h) % 6 : Nat) else h
      match next with
      | none =>
        ((((s.setCounter k { c with hall := some h, run := 1 }).countSet k (c.n - c.n % 6 + at')).setFld (Reg.PC_STAT_SEQ_ERR k) 1).setFld
          (Reg.PC_STAT_VALID k) 0, false)
      | some d =>
        let s1 := s.setCounter k { c with hall := some h, run := c.run + 1 }
        let s2 := if c.hall.isNone then s1.countSet k (c.n - c.n % 6 + at') else if d = 0 then s1 else s1.countBy k d t
        (if 2 ≤ c.run + 1 then s2.setFld (Reg.PC_STAT_VALID k) 1 else s2, decide (d ≠ 0))
  else (s, false)

/-! Input values and new samples (R253, R254). -/

def State.input (s : State) (i : Nat) : InState := sget (fun _ => {}) s.fd.inputs i
def State.setInput (s : State) (i : Nat) (x : InState) : State := { s with fd := { s.fd with inputs := sset (fun _ => {}) s.fd.inputs i x } }

/-- R254: the frequency of field input `i` at `now`, 0.01 Hz. -/
def State.frequency (s : State) (i : Nat) (now : Time) : Int :=
  let es := (s.input i).stamps
  match es with
  | [] => 0
  | e :: _ =>
    if 8000000000 < (now - e).toNat then 0
    else
      let r := recentBy id now 800000000 es
      let dt := (e - r.getLast?.getD e).toNat
      if r.length < 2 then 0
      else if dt = 0 then satI 20 (Config.velZero r.length)
      else satI 20 (((r.length - 1) * 800000000000 / dt : Nat) : Int)

def State.rxObj (s : State) (k : Nat) : RxObj := sget (fun _ => {}) s.bp.rx k
def State.setRxObj (s : State) (k : Nat) (x : RxObj) : State := { s with bp := { s.bp with rx := sset (fun _ => {}) s.bp.rx k x } }

/-- R253, Table 9.5: the word of an input source. -/
def State.sourceWord (s : State) (kind index field : Nat) (now : Time) : Int :=
  if kind = 1 then s.sfld (Reg.VCH_IMEAS_I (index % 128))
  else if kind = 2 then s.sfld (Reg.VCH_VMEAS_V (index % 128))
  else if kind = 3 then s.sfld (Reg.BST_MEAS_MEAS (index % 2))
  else if kind = 4 then s.frequency (index % 64) now
  else if kind = 5 then s.sfld (Reg.FI_COUNT_COUNT (index % 64))
  else if kind = 6 then sx 20 (s.counterPos (index % 8) now)
  else if kind = 7 then s.counterVel (index % 8) now
  else if kind = 8 then sx 20 (leAt (s.rxObj index).data field 3)
  else if kind = 9 then s.sfld (Reg.HIN_VALUE (index % 64))
  else if kind = 10 then s.sfld (Reg.SL_OUT_VALUE (index / 8 % 64) (index % 8))
  else if kind = 11 then (match s.po.hist.head? with | some h => satI 20 (s.speedAt h / 2 ^ 20) | none => 0)
  else 0

/-- The word of a slot's input port. -/
def State.slotInput (s : State) (n p : Nat) (now : Time) : Int :=
  s.sourceWord (s.fld (Reg.SL_IN_KIND n p)) (s.fld (Reg.SL_IN_INDEX n p)) (s.fld (Reg.SL_IN_FIELD n p)) now

/-! Slot states (R245). -/

/-- A value written into output `p`'s register of slot `n` (R245, R255); `slotDeliver` carries it on. -/
def State.slotOut (s : State) (n p : Nat) (v : Int) : State := s.setSfld (Reg.SL_OUT_VALUE n p) v

/-- Entering SOFT: R is loaded from input port 0 (R252). -/
def State.slotSoft (s : State) (n : Nat) : State :=
  let s1 := (s.setFld (Reg.SL_STATE_STATE n) slSoft).setFld (Reg.SL_STATE_SAFE_CAUSE n) 0
  (s1.setSlot n { s1.slot n with entering := true, causes := [], due := [], earliest := s.ft, parentRuns := 0,
                                 sampled := (List.range 16).map (fun p => (p, s.ft)) }).setSfld (Reg.SL_RAMP_R n) (s1.slotInput n 0 s.ft)

/-- Slot `n` is in SOFT or RUN. -/
def State.slotLive (s : State) (n : Nat) : Bool := decide (s.slState n = slSoft) || decide (s.slState n = slRun)

/-- R250: a slot after new samples of its input ports `ps` at `t`: an INPUT trigger on one of them is due. -/
def State.sampledAt (s : State) (n : Nat) (ps : List Nat) (t : Time) : SlotState :=
  let x := s.slot n
  let due := if s.slotLive n ∧ s.fld (Reg.SL_CFG_TRIG n) = 1 ∧ ps.contains (s.fld (Reg.SL_CFG_TRIG_SRC n)) then x.due ++ [t] else x.due
  { x with fresh := x.fresh ++ ps.filter (fun p => !x.fresh.contains p), late := x.late.filter (fun p => !ps.contains p), due := due,
           sampled := x.sampled.map (fun e => if ps.contains e.1 then (e.1, t) else e) }

/-- The output kinds of slot `n` name boost converter `b` (R245). -/
def State.boostSlot (s : State) (n : Nat) : Option Nat :=
  ((List.range 8).find? (fun p => decide (s.fld (Reg.SL_OUTCFG_KIND n p) = 2))).map (fun p => s.fld (Reg.SL_OUTCFG_INDEX n p) % 2)

/-! Setpoints (R251). -/

/-- R251: the present S of slot `n`. -/
def State.setpoint (s : State) (n : Nat) : Int :=
  let src := s.fld (Reg.SL_SPCFG_SP_SRC n)
  if src = 1 then
    satI 20 (s.lp.contrib.foldl (fun (a : Int) e =>
      if s.on (Reg.OT_RATE_DEST e.1) && decide (s.fld (Reg.OT_RATE_LOOP_SLOT e.1) = n) then a + (e.2 : Int) else a) 0)
  else if src = 3 then
    satI 20 (((s.fld (Reg.BST_REF_REF (b2n (s.on (Reg.SL_SPCFG_BOOST_B n)))) / 100 : Nat) : Int))
  else s.sfld (Reg.SL_SETP_S n)

/-- R251: outlet `o`'s contribution to its slot. -/
def State.contribute (s : State) (o v : Nat) : State := { s with lp := { s.lp with contrib := sset (fun _ => 0) s.lp.contrib o v } }

/-! Tables and coefficients (R257, R259). -/

/-- R249, R259: slot `n` is in a run. -/
def State.slotBusy (s : State) (n : Nat) : Bool := (s.slot n).busy.any (fun d => !tge s.ft d)

/-- R257: staged tables committed by the bits of `v` become active. -/
def State.tableTake (s : State) (v : Nat) : State :=
  let due := s.lp.tableStaged.filter (fun e => bit v (e.1 / 256))
  let s1 := due.foldl (fun s e => match e.2 with
    | some w => s.setFld (Reg.TBL_ENTRY (e.1 / 256) (e.1 % 256)) w.toNat
    | none => s) s
  { s1 with lp := { s1.lp with tableStaged := s1.lp.tableStaged.filter (fun e => !bit v (e.1 / 256)) } }

/-- R259: the staged coefficients of slot `n` become active together. -/
def State.coefTake (s : State) (n : Nat) : State :=
  let due := s.lp.coefStaged.filter (fun e => decide (e.1 / 64 = n))
  let s1 := due.foldl (fun s e => match e.2 with
    | some w => s.setFld (Reg.COEF_C n (e.1 % 64)) w.toNat
    | none => s) s
  { s1 with lp := { s1.lp with coefStaged := s1.lp.coefStaged.filter (fun e => decide (e.1 / 64 ≠ n)) } }

/-- R257: TB_COMMIT: between runs at once; while a slot is in a run the commit is pending. -/
def State.tableCommit (s : State) (v : Nat) : State :=
  if s.liveSlots.any s.slotBusy then s.setFld Reg.TB_COMMIT_PENDING (s.fld Reg.TB_COMMIT_PENDING ||| v) else s.tableTake v

/-- R259: COEF_COMMIT of slot `n`: between its runs at once; while it is in a run the commit is pending. -/
def State.coefCommit (s : State) (n : Nat) : State :=
  if s.slotBusy n then s.setFld (Reg.SL_STATE_COEF_PENDING n) 1 else s.coefTake n

/-- R257, R259: commits that waited for the end of runs now over. -/
def State.loopSettle (s : State) : State :=
  let s1 := if s.fld Reg.TB_COMMIT_PENDING = 0 ∨ s.liveSlots.any s.slotBusy then s
    else (s.tableTake (s.fld Reg.TB_COMMIT_PENDING)).setFld Reg.TB_COMMIT_PENDING 0
  s1.liveSlots.foldl (fun s n => if s.on (Reg.SL_STATE_COEF_PENDING n) ∧ ¬ s.slotBusy n then (s.coefTake n).setFld (Reg.SL_STATE_COEF_PENDING n) 0 else s) s1

/-- The active image's record of a kind and index (R363). -/
def State.record (s : State) (kind index : Nat) : Option ImgRec :=
  s.im.active.bind (fun m => m.recs.find? (fun r => decide (r.kind = kind) && decide (r.index = index)))

/-- R364: the owner context that an OWNERS table of the active image names. -/
def State.ownerOf (s : State) (table item : Nat) : Option Nat :=
  match s.record 0x0503 table with
  | some r =>
    let c := bitsOf (r.words.getD (item / 2) 0xFFFFFFFF) (16 * (item % 2)) 16
    if c = 0xFFFF then none else some c
  | none => none

/-- R267: the data words of slot `n` from the image. -/
def State.loadData (s : State) (n : Nat) : State :=
  let ws := match s.record 0x0304 n with | some r => r.words | none => []
  (List.range 64).foldl (fun s w => s.setFld (Reg.DATA_D n w) (ws.getD w 0)) s

/-- R267: CLR_STATE, in STOPPED only. -/
def State.clrState (s : State) (n : Nat) : State :=
  if s.slState n = slStopped then s.loadData n else s.raise Reg.LP_EVENT_CFG_ERR

end Sys2Proof.Machine
end

