-- ==== Sys2Proof/Machine/Switches.lean ====
section
/-! DEFINITION. Load switches and limp-home (chapter 10): the PWM grid, precedence, protections, clamp energy, supply faults, the core
watchdog, and the confirmation of ledger edges. -/

namespace Sys2Proof.Machine

/-! The PWM grid (R271), shared by load switches and field outputs (R298). -/

/-- R271: whether a grid with a duty (2^-20) is on at `t`; on- and off-intervals under 10 µs are not produced. -/
def Grid.isOn (g : Grid) (duty : Nat) (t : Time) : Bool :=
  let ps := match g.old with
    | some (p, a, e) => if tdiff t e < 0 then (p, a) else (g.period, g.start)
    | none => (g.period, g.start)
  let per := max ps.1 1
  if tdiff t ps.2 < 0 then false
  else
    let ph := (t - ps.2).toNat % (8000 * per) / 8000
    let w := duty * per / 2 ^ 20
    decide (10 ≤ w) && (decide (per - w < 10) || decide (ph < w))

/-- R271: the shift of a grid of period `per` for channel `n`. -/
def gridShift (per n : Nat) : Time := BitVec.ofNat 64 (per * 8000 * (n % 8) / 8)

/-- R271: the first start of channel `n`'s grid of period `per` at or after `t`. -/
def gridNext (per n : Nat) (t : Time) : Time :=
  let a := gridShift per n
  let d := (t - a).toNat
  let p := max (8000 * per) 1
  a + BitVec.ofNat 64 ((d + p - 1) / p * p)

/-- R271: the grid of a context's or loop's channel `n`. -/
def Grid.fresh (per n : Nat) : Grid := { period := per, start := gridShift per n }

/-- R271: a new period from the next period start; `ledger` grids follow from the OPEN. While a new period still waits for its first
start, a further one takes its place, and the period in progress runs to its end. -/
def Grid.setPeriod (g : Grid) (n per : Nat) (ledger : Bool) (t : Time) : Grid :=
  let waits := g.old.isSome && decide (tdiff t g.start < 0)
  if per = g.period then g
  else if waits then
    let e := (g.old.map (·.2.2)).getD t
    { g with period := per, start := if ledger then e else gridNext per n (if tdiff t e < 0 then e else t) }
  else
    let p := max (8000 * g.period) 1
    let a := g.start
    let e := if tdiff t a < 0 then a else a + BitVec.ofNat 64 (((t - a).toNat + p) / p * p)
    { period := per, start := if ledger then e else gridNext per n e, old := some (g.period, a, e) }

/-- R271: output `n` before anything has set it: the reset period of 1,000 µs on the grid with its shift. -/
def OutState.initial (n : Nat) : OutState := { grid := Grid.fresh 1000 n }

/-- R253, R282, R290: `n` ticks have passed since `t`; where field time has not run since, the outside says so. -/
def State.overdue (s : State) (t : Option Time) (n : Nat) : Bool := !s.pw.coreUp || t.all (fun t => decide (n ≤ (s.ft - t).toNat))

/-! Channels. -/

def State.lsw (s : State) (n : Nat) : OutState := sget OutState.initial s.ls.chans n
def State.setLsw (s : State) (n : Nat) (x : OutState) : State := { s with ls := { s.ls with chans := sset OutState.initial s.ls.chans n x } }

/-- Load-switch channels of the variant (R285). -/
def Variant.switches : Variant → Nat
  | .f0512 => 16
  | _ => 32
def State.allLs (s : State) : List Nat := List.range s.variant.switches

/-- The outlet that a target kind and channel serve (R113). -/
def State.outletOn (s : State) (target chan : Nat) : Option Nat :=
  s.outlets.find? (fun o => decide (s.fld (Reg.OT_CFG_TARGET o) = target) && decide (s.fld (Reg.OT_TARGET_CHAN o) = chan))

/-- R270: what the source of channel `n` asks for: on at all, and in PWM. -/
def State.lsAsked (s : State) (n : Nat) : Bool × Bool :=
  let src := s.fld (Reg.LS_CFG_SOURCE n)
  if src = 0 then (s.on (Reg.LS_SET_ON n), s.on (Reg.LS_SET_PWM_EN n))
  else if src = 1 then ((s.lsw n).on, (s.outletOn 2 n).any (fun o => s.on (Reg.OT_CFG_DUTY_MOD o)))
  else if src = 2 then (true, true)
  else (false, false)

/-- R270, R271: the source's command at `t`. -/
def State.lsCommand (s : State) (n : Nat) (t : Time) : Bool :=
  let a := s.lsAsked n
  a.1 && (!a.2 || (s.lsw n).grid.isOn (s.fld (Reg.LS_DUTY_DUTY n)) t)

/-- R281: LS_CFG of channel `n` as the shadow in force holds it, a shadow never written holding the reset word; a shadow that failed its
check is not used, and no channel then takes part in limp-home. -/
def State.lsShadowCfg (s : State) (n : Nat) : Nat :=
  if s.ls.shadowGood then ((s.ls.shadow.find? (fun e => e.1 = 2 * n)).map (·.2)).getD (resetWord s.variant (0x580100 + 0x40 * n)).toNat else 0

/-- R272, R282: SAFE_ON of channel `n`: the shadow's while the core watchdog is expired. -/
def State.lsSafeOn (s : State) (n : Nat) : Bool :=
  if s.on Reg.LS_STATUS_WD_EXPIRED then bit (s.lsShadowCfg n) 26 else s.on (Reg.LS_CFG_SAFE_ON n)

/-- Table 10.1: the rank that sets channel `n`'s state; the stop rows hold until the safety block releases them (R398). -/
def State.lsRank (s : State) (n : Nat) : Nat :=
  let stopped := decide (s.fld (Reg.LS_CFG_SOURCE n) = 1) || s.on (Reg.LS_CFG_STOP_OFF n)
  if s.on Reg.LS_STATUS_UV ∨ s.ls.noGround ∨ s.ls.reverse then 1
  else if s.on (Reg.LS_STATE_TSD n) ∨ s.on (Reg.LS_STATE_LOCKED n) ∨ s.on (Reg.LS_STATE_LATCHED n) ∨ (s.lsw n).waiting then 2
  else if s.on Reg.LS_STATUS_OV ∧ ¬ s.on (Reg.LS_CFG_RIDE n) then 3
  else if s.ls.stop ∧ stopped then 4
  else if s.on Reg.LS_STATUS_LIMP_ACT ∧ bit (s.lsShadowCfg n) 27 then 5
  else if s.ls.safe ∨ (s.ls.halt ∧ stopped) ∨ s.on Reg.LS_STATUS_WD_EXPIRED ∨ s.ls.asleep then 6
  else 7

/-- Table 10.1: the output of channel `n` at `t`; before the first heartbeat and in sleep rank 6 is off (R282). -/
def State.lsOn (s : State) (n : Nat) (t : Time) : Bool :=
  let r := s.lsRank n
  let c := s.lsShadowCfg n
  if r = 1 then s.ls.reverse
  else if r ≤ 4 then false
  else if r = 5 then (s.fbit Reg.LS_STATUS_LHIN (bitsOf c 28 3) != bit c 31)
  else if r = 6 then s.lsSafeOn n && (s.ls.beat && !s.ls.asleep)
  else s.lsCommand n t

/-- R276: channel `n` is in PWM at its source's command and its on-intervals are too short for the open-load test; an off-interval under
10 µs is not produced (R271), which leaves it on continuously. -/
def State.olNa (s : State) (n : Nat) : Bool :=
  let a := s.lsAsked n
  let per := (s.lsw n).grid.period
  let w := s.fld (Reg.LS_DUTY_DUTY n) * per / 2 ^ 20
  decide (s.lsRank n = 7) && (a.1 && (a.2 && (decide (w + 10 ≤ per) && decide (w < 1000 * (s.fld (Reg.LS_CFG2_OL_BLANK n) + 2)))))

/-- LS_STATE as read: its stored bits with OUT_ON, OL_NA, LIMP, SAFE, STOPPED, OV_OFF and INRUSH as they stand. -/
def State.lsStateWord (s : State) (n : Nat) : Nat :=
  let r := s.lsRank n
  let inr := (s.lsw n).inrush.any (fun t => decide ((s.ft - t).toNat < 1600000000))
  let on := s.lsOn n s.ft
  ((s.reg (0x580114 + 0x40 * n)).toNat &&& (if on then 0x3E else 0x3C)) + b2n on + 0x40 * b2n (s.olNa n) + 0x80 * b2n (r == 5) + 0x100 * b2n (r == 6) +
    0x200 * b2n (r == 4) + 0x400 * b2n (r == 3) + 0x800 * b2n inr

/-- R279: whether a supply fault or protection (ranks 1 to 3) holds a ledger-driven channel off against its command. -/
def State.lsDark (s : State) (n : Nat) : Bool := decide (s.fld (Reg.LS_CFG_SOURCE n) = 1) && ((s.lsw n).on && decide (s.lsRank n ≤ 3))

/-- R275: a turn-on from off by the source opens the inrush period. -/
def State.lsInrush (s : State) (n : Nat) (t : Time) : State :=
  let x := s.lsw n
  s.setLsw n { x with inrush := if s.fld (Reg.LS_CFG_RETRY_N n) = 0 then none else some t, retries := 0, waiting := false, armed := false }

/-- R275: the source turns channel `n` on at `t`; where a higher rank holds the channel the turn-on comes when that ends. -/
def State.lsTurnOn (s : State) (n : Nat) (t : Time) : State :=
  let s1 := s.setLsw n { s.lsw n with waiting := false, inrush := none, retries := 0 }
  if s1.lsRank n = 7 then s1.lsInrush n t else s1.setLsw n { s1.lsw n with armed := true }

/-- R273, R275: a channel that is off is in no limit episode; a turn-on that a higher rank held back comes when the source commands again. -/
def State.lsArmed (s : State) : State :=
  s.allLs.foldl (fun s n =>
    let s1 := if s.on (Reg.LS_STATE_IN_LIMIT n) ∧ ¬ s.lsOn n s.ft then s.setFld (Reg.LS_STATE_IN_LIMIT n) 0 else s
    if (s1.lsw n).armed ∧ s1.lsRank n = 7 then
      (if (s1.lsAsked n).1 then s1.lsInrush n s1.ft else s1.setLsw n { s1.lsw n with armed := false })
    else s1) s

/-- R279: what the painter takes from channels whose output a supply fault drops or lets return. -/
def State.lsRepaint (s : State) : State :=
  s.lsArmed.allLs.foldl (fun s n =>
    let x := s.lsw n
    let d := s.lsDark n
    if d = x.dark then s
    else
      let lag : Nat := min (Config.switchLag s.free) 1088000
      let s1 := s.tick.setLsw n { x with dark := d }
      match s.outletOn 2 n with
      | some o => if d then s1.lateSeal o false (tadd s.ft lag)
                  else if x.on then s1.lateSeal o true (tadd s.ft lag) else s1
      | none => s1) s.lsArmed

/-- R271: a duty for channel `n`, from its source. -/
def State.lsDuty (s : State) (n d : Nat) : State :=
  let was := s.fld (Reg.LS_DUTY_DUTY n)
  let s1 := s.setFld (Reg.LS_DUTY_DUTY n) d
  if was = 0 ∧ d % 2 ^ 20 ≠ 0 ∧ (s.lsAsked n).1 ∧ (s.lsAsked n).2 then s1.lsTurnOn n s.ft else s1

/-- R279: a fired edge of the outlet on channel `n`; an OPEN in PWM starts its first period at its due time. -/
def State.lsEdge (s : State) (n kind : Nat) (due : Time) (entry : Nat) : State :=
  let x := s.lsw n
  let limp := decide (s.lsRank n = 5)
  let s0 := if limp then { s with ls := { s.ls with limpFired := s.ls.limpFired ++ [entry] } } else s
  if kind = kOpen then
    let s1 := s0.setLsw n { x with on := true, grid := { period := s.fld (Reg.LS_PERIOD_PERIOD n), start := due } }
    if x.on then s1 else (s1.lsTurnOn n due).lsRepaint
  else (s0.setLsw n { x with on := false, waiting := false, inrush := none, armed := false, dark := false }).lsArmed

/-! Writes (R270, R286). -/

/-- A write of LS_SET, LS_PERIOD or LS_DUTY of channel `n`; `sup` the supervisor, `own` the channel's owner context. -/
def State.lsChanWrite (s : State) (sup own : Bool) (n off v : Nat) : State :=
  let src := s.fld (Reg.LS_CFG_SOURCE n)
  let err := s.raise Reg.LS_EVENT_CFG_ERR
  let early := !s.ls.beat || (!s.on Reg.IMG_STATUS_ACTIVE && !s.ls.shadowGood)
  if src = 0 ∧ (sup ∨ own) ∧ ¬ early then
    if off = 8 then
      let was := (s.lsAsked n).1
      let s1 := s.writeCodes (0x580100 + 0x40 * n + off) v
      if bit v 0 && !was then s1.lsTurnOn n s.ft
      else if !bit v 0 then (s1.setLsw n { s1.lsw n with waiting := false, inrush := none, armed := false }).lsArmed else s1
    else if off = 0xC then
      if inRange 250 1000001 (bitsOf v 0 20) then
        (s.setFld (Reg.LS_PERIOD_PERIOD n) v).setLsw n { s.lsw n with grid := (s.lsw n).grid.setPeriod n (bitsOf v 0 20) false s.ft }
      else err
    else s.lsDuty n (bitsOf v 0 20)
  else if src = 2 ∧ sup ∧ off = 0xC ∧ ¬ early then
    if inRange 250 1000001 (bitsOf v 0 20) then
      (s.setFld (Reg.LS_PERIOD_PERIOD n) v).setLsw n { s.lsw n with grid := (s.lsw n).grid.setPeriod n (bitsOf v 0 20) false s.ft }
    else err
  else err

/-- R274: UNLATCH, applied at or below 145 °C. -/
def State.lsUnlatch (s : State) (n : Nat) : State :=
  if s.sfld (Reg.LS_TEMP_TJ n) ≤ 1450 then ((s.setFld (Reg.LS_STATE_LATCHED n) 0).setFld (Reg.LS_STATE_TSD n) 0).lsRepaint
  else s.raise Reg.LS_EVENT_CFG_ERR

/-- R277: UNLOCK, applied when B has leaked to half the budget. -/
def State.lsUnlock (s : State) (n : Nat) : State :=
  if (s.lsw n).energy ≤ s.fld (Reg.LS_CFG2_BUDGET n) * 500000 then (s.setFld (Reg.LS_STATE_LOCKED n) 0).lsRepaint
  else s.raise Reg.LS_EVENT_CFG_ERR

/-- A write in the switch block (R286). -/
def State.lsWrite (s : State) (sup own : Bool) (a v : Nat) : State :=
  if inRange 0x580100 0x580900 a then
    let n := (a - 0x580100) / 0x40
    let off := a % 0x40
    if off = 8 ∨ off = 0xC ∨ off = 0x10 then s.lsChanWrite sup own n off v
    else if off = 0x1C then
      let s1 := if bit v 0 then s.lsUnlatch n else s
      if bit v 1 then s1.lsUnlock n else s1
    else s.writeCodes a v
  else s.writeCodes a v

/-! Protections (R274–R277). -/

/-- A record of the switch die in Canvas; one latched while the core die is down is written at its next READY (R427). -/
def State.switchRecord (s : State) (kind : Nat) (data : List Byte) : State :=
  if s.pw.coreUp then s.canvasWith 8 kind false (s.on (Reg.REF_STAT_SUSPECT 3)) data
  else { s with rc := { s.rc with deferred := s.rc.deferred ++ [(kind, 8, data)] } }

/-- A latch recorded in Canvas (R274, R275). -/
def State.lsLatched (s : State) (n cause : Nat) : State :=
  (s.setFld (Reg.LS_STATE_LATCHED n) 1).switchRecord 0x0050 (leBytes 1 n ++ leBytes 1 cause ++ leBytes 2 0 ++ leBytes 4 (s.fld (Reg.LS_TEMP_TJ n)))

/-- R274: the channel's junction reached 175 °C; `tj` in 0.1 °C. -/
def State.lsShutdown (s : State) (n : Nat) (tj : Int) : State :=
  if n < s.variant.switches then
    let s1 := ((s.setSfld (Reg.LS_TEMP_TJ n) tj).setFld (Reg.LS_STATE_TSD n) 1).setFld (Reg.LS_FAULT_TSD n) 1
    let s2 := (s1.setLsw n { s1.lsw n with inrush := none, waiting := false }).raise Reg.LS_EVENT_TSD
    (if s2.on (Reg.LS_CFG_RESTART n) then s2.lsLatched n 0 else s2).lsRepaint
  else s

/-- R274: with RESTART 0 it switches on again at 145 °C, if still commanded. -/
def State.lsRestart (s : State) (n : Nat) (tj : Int) : State :=
  if n < s.variant.switches then
    let s1 := s.setSfld (Reg.LS_TEMP_TJ n) tj
    if s1.on (Reg.LS_STATE_TSD n) ∧ ¬ s1.on (Reg.LS_CFG_RESTART n) ∧ tj ≤ 1450 then
      let s2 := s1.setFld (Reg.LS_STATE_TSD n) 0
      (if s2.lsOn n s2.ft ∨ (s2.lsRank n = 7 ∧ (s2.lsAsked n).1) then s2.bump (Reg.LS_CNT_TSD_N n) 1 else s2).lsRepaint
    else s1
  else s

/-- R273: IN_LIMIT follows the measured current `ma` against a limit within 15 % of ILIM × 0.5 A. -/
def State.lsCurrent (s : State) (n : Nat) (ma : Int) : State :=
  let i : Int := 500 * s.fld (Reg.LS_CFG_ILIM n)
  let lim := clampI (i * 85 / 100) (i * 115 / 100) (Config.limitMa n s.free)
  ((s.setSfld (Reg.LS_IMEAS_I n) ma).setBit (Reg.LS_STATE_IN_LIMIT n) (decide (lim ≤ ma))).tick

/-- R275: a limit episode of 2 ms in the inrush period. -/
def State.inrushEpisode (s : State) (n : Nat) : State :=
  let x := s.lsw n
  if n < s.variant.switches ∧ ¬ x.waiting ∧ x.inrush.any (fun t => decide ((s.ft - t).toNat < 1600000000)) ∧ 5 ≤ s.lsRank n then
    if x.retries < s.fld (Reg.LS_CFG_RETRY_N n) then (s.setLsw n { x with waiting := true, waitFrom := s.ft }).lsRepaint
    else
      ((((s.setLsw n { x with inrush := none }).setFld (Reg.LS_FAULT_INRUSH_FAIL n) 1).raise Reg.LS_EVENT_INRUSH_FAIL).lsLatched n 1).lsRepaint
  else s

/-- R275: the retry gap has passed. -/
def State.inrushRetry (s : State) (n : Nat) : State :=
  let x := s.lsw n
  if x.waiting ∧ s.overdue (some x.waitFrom) (8000000 * (s.fld (Reg.LS_CFG_RETRY_GAP n) + 1)) then ((s.setLsw n { x with waiting := false, retries := x.retries + 1 }).bump (Reg.LS_CNT_RETRY_CNT n) 1).lsRepaint else s

/-- R276, R394: a current held for 2 ms after OL_BLANK, judged against the open-load threshold. -/
def State.lsOpenLoad (s : State) (n : Nat) (ma : Int) : State :=
  if n < s.variant.switches ∧ s.lsOn n s.ft ∧ ¬ s.olNa n then
    let thr : Int := 5 * s.fld (Reg.LS_CFG_OL_THR n)
    let low := if s.derated 3 then decide (16 * ma < 15 * thr) else decide (ma < thr)
    let s1 := s.lsCurrent n ma
    if low then ((s1.setFld (Reg.LS_STATE_OPEN_LOAD n) 1).setFld (Reg.LS_FAULT_OPEN_LOAD n) 1).raise Reg.LS_EVENT_OPEN_LOAD
    else s1.setFld (Reg.LS_STATE_OPEN_LOAD n) 0
  else s

/-- R277: B after the samples of one clamp: mV across the switch and mA. -/
def clampEnergy (b : Nat) (samples : List Sample) : Nat :=
  samples.foldl (fun b x => (b + x.v.toNat * x.i.toNat / 100) % 2 ^ 48) b

/-- R277: LS_CLAMPE follows B. -/
def State.setEnergy (s : State) (n b : Nat) : State :=
  (s.setLsw n { s.lsw n with energy := b }).setFld (Reg.LS_CLAMPE_B n) (min (b / 100000) 0xFFFFF)

/-- R277: a clamp ends; its last sample stands in LS_IMEAS (R273). -/
def State.clampEnd (s : State) (n : Nat) (samples : List Sample) : State :=
  if n < s.variant.switches then
    let b := clampEnergy (s.lsw n).energy samples
    let s0 := match samples.getLast? with | some x => s.setSfld (Reg.LS_IMEAS_I n) x.i | none => s
    let s1 := (s0.setEnergy n b).bump (Reg.LS_CNT_CLAMP_N n) 1
    if s1.fld (Reg.LS_CFG2_BUDGET n) * 1000000 < b ∧ ¬ s1.on (Reg.LS_STATE_LOCKED n) then
      let s2 := (s1.setFld (Reg.LS_STATE_LOCKED n) 1).setFld (Reg.LS_FAULT_LOCK n) 1
      ((s2.raise Reg.LS_EVENT_LOCK).switchRecord 0x0051 (leBytes 1 n ++ leBytes 3 0 ++ leBytes 4 (s2.fld (Reg.LS_CLAMPE_B n)))).lsRepaint
    else s1
  else s

/-- R277: every millisecond each B leaks. -/
def State.clampLeak (s : State) : State :=
  s.allLs.foldl (fun s n =>
    let b := (s.lsw n).energy
    let l := s.fld (Reg.LS_CFG2_LEAK n) * 1000
    if b = 0 then s else s.setEnergy n (if l < b then b - l else 0)) s

/-! Supply faults (R278). -/

/-- RTC seconds as an event's record carries them: 0 while RTC_VALID is 0 (Table 17.1). -/
def State.rtcStamp (s : State) : Nat :=
  if s.on Reg.PWR_STATUS_RTC_VALID then (s.pw.rtc + (s.ft - s.pw.rtcFt).toNat / 8000000000) % 2 ^ 40 else 0

/-- R278, R427: a supply event latched in the always-on domain. -/
def State.supplyLatch (s : State) (kind : Nat) : State :=
  { s with rc := { s.rc with deferred := s.rc.deferred ++ [(0x0013, 8, leBytes 1 kind ++ leBytes 3 0 ++ leBytes 5 s.rtcStamp)] } }

def State.underVoltage (s : State) : State := ((s.setFld Reg.LS_STATUS_UV 1).raise Reg.LS_EVENT_UV).lsRepaint
def State.underVoltageEnd (s : State) : State := (s.setFld Reg.LS_STATUS_UV 0).lsRepaint

/-- R278: overvoltage switches off the channels with RIDE 0. -/
def State.overVoltage (s : State) : State :=
  let s1 := ((s.setFld Reg.LS_STATUS_OV 1).raise Reg.LS_EVENT_OV).supplyLatch 1
  (s1.allLs.foldl (fun t n => if ¬ s.on (Reg.LS_CFG_RIDE n) ∧ s.lsOn n s.ft then t.setFld (Reg.LS_FAULT_OV_OFF n) 1 else t) s1).lsRepaint
def State.overVoltageEnd (s : State) : State := (s.setFld Reg.LS_STATUS_OV 0).lsRepaint

def State.reverseBattery (s : State) : State :=
  (({ s with ls := { s.ls with reverse := true } }.raise Reg.LS_EVENT_SUPPLY_REC).supplyLatch 2).lsRepaint
def State.lossOfGround (s : State) : State :=
  (({ s with ls := { s.ls with noGround := true } }.raise Reg.LS_EVENT_SUPPLY_REC).supplyLatch 3).lsRepaint

/-! Confirmation (R279). -/

/-- R279, R301: the check time of a fired edge has come: F + 2,000 × A ticks, A from the shadow. -/
def State.checkDue (s : State) (e : Entry) : Bool := tge s.ft (e.due + BitVec.ofNat 64 (2000 * e.delayA))

/-- R279: the check of a fired edge, `mv` at the output, `ma` through it, `vbat` in mV. -/
def State.switchCheck (s : State) (i : Nat) (mv ma vbat : Int) : State :=
  match s.entry i with
  | some e =>
    if e.st = eFired ∧ e.kind ≠ kRate ∧ s.fld (Reg.OT_CFG_TARGET e.outlet) = 2 ∧ s.checkDue e then
      let n := s.fld (Reg.OT_TARGET_CHAN e.outlet) % 32
      let s1 := ((s.setSfld Reg.LS_VBAT_VBAT (vbat / 10)).setSfld (Reg.LS_VOUT_V n) (mv / 10)).lsCurrent n ma
      let limp := s1.ls.limpFired.contains i
      let s2 := { s1 with ls := { s1.ls with limpFired := s1.ls.limpFired.filter (· ≠ i) } }
      let ok := !limp && (if e.kind = kOpen then
          decide ((vbat - mv).natAbs ≤ 2000) && (decide (5 ≤ s2.lsRank n) && !s2.on (Reg.LS_STATE_OPEN_LOAD n))
        else decide (mv < 3000))
      if ok then s2.sealEntry i sSwitchOk none else (s2.setFld (Reg.LS_FAULT_SWITCH_BAD n) 1).sealEntry i sSwitchBad none
    else s
  | none => s

/-! Stops (R280, R272). -/

/-- R272: the source's command of a context channel is cleared when a hold that affects it begins. -/
def State.lsHoldBegins (s : State) (all : Bool) : State :=
  s.allLs.foldl (fun s n =>
    let src := s.fld (Reg.LS_CFG_SOURCE n)
    let hit := all || (src == 1 || s.on (Reg.LS_CFG_STOP_OFF n))
    let s1 := if src = 0 ∧ hit then (s.setFld (Reg.LS_SET_ON n) 0).setLsw n { s.lsw n with inrush := none, waiting := false, armed := false } else s
    if src = 1 then s1.setLsw n { s1.lsw n with on := false, dark := false, inrush := none, waiting := false, armed := false } else s1) s

/-- STOP_N low (R280); a stop hold that already stands began before (R272). -/
def State.lsStop (s : State) : State :=
  let s1 : State := { s with ls := { s.ls with stop := true } }
  (if s.ls.stop ∨ s.ls.halt then s1 else s1.lsHoldBegins false).lsRepaint
/-- A halt doorbell or halt filter (R280). -/
def State.lsHalt (s : State) : State :=
  let s1 : State := { s with ls := { s.ls with halt := true } }
  (if s.ls.stop ∨ s.ls.halt then s1 else s1.lsHoldBegins false).lsRepaint
/-- Held-safe (R280). -/
def State.lsSafe (s : State) : State := ({ s with ls := { s.ls with safe := true } }.lsHoldBegins true).lsRepaint
/-- R398: the stop hold, or held-safe, is released. -/
def State.lsRelease (s : State) (held : Bool) : State :=
  (if held then { s with ls := { s.ls with safe := false } } else { s with ls := { s.ls with stop := false, halt := false } }).lsRepaint

/-! The shadow, the core watchdog and limp-home (R281–R284). -/

/-- R283: limp-home follows LIMP_N and the watchdog; its entry and exit are recorded. -/
def State.limpRefresh (s : State) : State :=
  let act := s.on Reg.LS_STATUS_LIMP_PIN || (s.on Reg.LS_STATUS_WD_EXPIRED && !s.ls.asleep)
  if act = s.on Reg.LS_STATUS_LIMP_ACT then s
  else
    let s1 := (s.setBit Reg.LS_STATUS_LIMP_ACT act).raise Reg.LS_EVENT_LIMP
    (s1.switchRecord 0x0052 (leBytes 1 (b2n act) ++ leBytes 1 (s1.fld Reg.LS_STATUS_LIMP_PIN + 2 * s1.fld Reg.LS_STATUS_WD_EXPIRED))).lsRepaint

/-- R281: what the shadow holds: LS_CFG, LS_CFG2 of every channel and LS_WD. -/
def State.lsShadowNow (s : State) : List (Nat × Nat) :=
  (s.allLs.flatMap (fun n => [(2 * n, (s.reg (0x580100 + 0x40 * n)).toNat), (2 * n + 1, (s.reg (0x580104 + 0x40 * n)).toNat)])) ++
    [(64, (s.reg 0x58000C).toNat)]

/-- R284: the configuration registers take the shadow's words. -/
def State.lsFromShadow (s : State) : State :=
  if s.ls.shadowGood then
    s.ls.shadow.foldl (fun s e =>
      s.setReg (if e.1 = 64 then 0x58000C else 0x580100 + 0x40 * (e.1 / 2 % 32) + 4 * (e.1 % 2)) (BitVec.ofNat 32 e.2)) s
  else s

/-- R281: the check value of a shadow's words (R217). -/
def shadowCrc (ws : List (Nat × Nat)) : Nat := crc16 (ws.flatMap (fun e => leBytes 4 e.2))

/-- R281: after an activation the shadow is written if it differs. -/
def State.lsShadowWrite (s : State) : State :=
  if s.lsShadowNow = s.ls.shadow ∧ s.ls.shadowGood then s.setFld Reg.LS_STATUS_SHADOW_OK 1
  else { s.setFld Reg.LS_STATUS_SHADOW_OK 0 with ls := { s.ls with writing := true } }

/-- R281: the shadow write ends. One that does not complete leaves the previous shadow in force, and non-volatile words whose check fails
at the next power-on. -/
def State.lsShadowDone (s : State) (ok : Bool) : State :=
  if s.ls.writing then
    let w := s.lsShadowNow
    let s1 : State := { s with ls := { s.ls with writing := false, store := w, storeCrc := if ok then shadowCrc w else shadowCrc w + 1 } }
    if ok then { s1 with ls := { s1.ls with shadow := w, shadowGood := true } }.setFld Reg.LS_STATUS_SHADOW_OK 1 else s1
  else s

/-- R282: a valid heartbeat. -/
def State.heartbeat (s : State) : State :=
  if s.ls.asleep then s
  else
    let s1 := { s with ls := { s.ls with beat := true, beatAt := some s.ft } }.setFld Reg.LS_STATUS_WD_EXPIRED 0
    let s2 := if s1.on Reg.IMG_STATUS_ACTIVE then s1 else s1.lsFromShadow
    s2.limpRefresh

/-- R281: the WD_TMO in force, in ms: the shadow's; the reset value where there is none. -/
def State.wdTmo (s : State) : Nat := ((s.ls.shadow.find? (fun e => e.1 = 64)).map (·.2 % 128)).getD 0x14

/-- R282: no valid heartbeat for WD_TMO. -/
def State.wdExpiry (s : State) : State :=
  if s.ls.asleep ∨ s.on Reg.LS_STATUS_WD_EXPIRED ∨ ¬ s.overdue s.ls.beatAt (8000000 * s.wdTmo) then s
  else
    let s1 := (s.setFld Reg.LS_STATUS_WD_EXPIRED 1).raise Reg.LS_EVENT_WD_EXP
    { s1 with rc := { s1.rc with deferred := s1.rc.deferred ++ [(0x0053, 8, leBytes 4 0 ++ leBytes 5 s1.rtcStamp)] } }.limpRefresh

/-- R283: LIMP_N held low or high for 1 ms. -/
def State.limpPin (s : State) (low : Bool) : State := (s.setBit Reg.LS_STATUS_LIMP_PIN low).limpRefresh

/-- R283: a filtered change of an LHIN pin. -/
def State.lhin (s : State) (i : Nat) (level : Bool) : State := if i < 8 then (s.setFbit Reg.LS_STATUS_LHIN i level).lsArmed else s

/-- R284: the switch die at VBAT power-on, which checks the shadow and holds the stop of a STOP_N that stands low (R280): every channel off, B 0, nothing latched, limp-home under an expired watchdog; a reverse battery
or loss of ground that the always-on domain still holds is reported (R278). -/
def State.lsPowerOn (s : State) : State :=
  let regs := s.regs.filter (fun e => !(inRange 0x580000 0x590000 e.1))
  let good := decide (shadowCrc s.ls.store = s.ls.storeCrc)
  let s0 : State := { s with regs := regs, ls := { shadow := if good then s.ls.store else [], shadowGood := good, store := s.ls.store,
                                                   storeCrc := s.ls.storeCrc, stop := s.rs.stopLow } }
  let s1 := s0.setBit Reg.LS_STATUS_STOP s.rs.stopLow
  let s2 := s1.lsFromShadow
  let s3 := if s2.ls.shadowGood then s2.setFld Reg.LS_STATUS_SHADOW_OK 1 else s2.raise Reg.LS_EVENT_SHADOW_ERR
  let rec' := s.rc.deferred.any (fun d => d.1 == 0x0013 && (decide (d.2.2.head? = some 2) || decide (d.2.2.head? = some 3)))
  (s3.raiseIf rec' Reg.LS_EVENT_SUPPLY_REC).limpRefresh

/-- Words of the switch block computed when read. -/
def State.lsRead (s : State) (a : Nat) : Option Nat :=
  if inRange 0x580100 0x580900 a && a % 0x40 == 0x14 then some (s.lsStateWord ((a - 0x580100) / 0x40)) else none

end Sys2Proof.Machine
end

