-- ==== Sys2Proof/Machine/Field.lean ====
section
/-! DEFINITION. Isolated field inputs and outputs (chapter 11): sampling and debounce, barrier frames, output precedence and faults,
confirmation, silence, the shadow. -/

namespace Sys2Proof.Machine

def State.fout (s : State) (m : Nat) : OutState := sget OutState.initial s.fd.outs m
def State.setFout (s : State) (m : Nat) (x : OutState) : State := { s with fd := { s.fd with outs := sset OutState.initial s.fd.outs m x } }

/-- Inputs and outputs of the variant (R307). -/
def Variant.fins : Variant → Nat
  | .f0512 => 32
  | _ => 64
def Variant.fouts : Variant → Nat
  | .f0512 => 16
  | _ => 32
def State.allFo (s : State) : List Nat := List.range s.variant.fouts

/-- R297: the output that output `m` follows. -/
def State.foLead (s : State) (m : Nat) : Nat :=
  if s.fld (Reg.FO_CFG_PAR (4 * (m / 4))) = 2 then 4 * (m / 4)
  else if s.fld (Reg.FO_CFG_PAR (2 * (m / 2))) = 1 then 2 * (m / 2) else m

/-! Inputs (R292–R295). -/

/-- R293, R295: one sample of an input at `t`; `thr` 16 times the open-wire threshold in µA. -/
def inputStep (x : InState) (deb thr : Nat) (owEn : Bool) (level : Bool) (ua : Nat) (t : Time) : InState :=
  let low := if owEn && (!x.level && decide (16 * ua < thr)) then x.low + 1 else 0
  let good := if decide (200 ≤ ua) then x.good + 1 else 0
  let wire := owEn && (if x.wire then decide (good < 3) else decide (3 ≤ low))
  let y := { x with low := min low 3, good := min good 3, wire := wire }
  if wire ∨ level = x.level then { y with since := none }
  else
    let t0 := x.since.getD t
    if 8000 * deb ≤ (t - t0).toNat then
      { y with since := none, level := level, edge := some (level, t0), count := if level then (x.count + 1) % 2 ^ 20 else x.count }
    else { y with since := some t0 }

/-- R292: a sampling window of group `g` ends now: at a multiple of 16 × 2^INTERVAL µs, plus g × 2 µs. -/
def State.windowEnd (s : State) (g : Nat) : Bool :=
  decide ((s.ft - BitVec.ofNat 64 (16000 * g)).toNat % (128000 * 2 ^ min (bitsOf (s.fld Reg.FIO_GRP_INTERVALS) (3 * g) 3) 6) = 0)

/-- R293, R306: a sample in sleep of an input with wake polarity `pol`; the samples stand 1,024 µs apart. -/
def wakeStep (x : InState) (deb : Nat) (pol level : Bool) : InState :=
  if level = x.level then { x with run := 0 }
  else if deb ≤ 1024 * x.run then
    { x with run := 0, level := level, woke := some (x.woke.getD false || level == pol), count := if level then (x.count + 1) % 2 ^ 20 else x.count }
  else { x with run := x.run + 1 }

/-- R306: the samples of group `g` in sleep, of the inputs that may wake the part; none without VFIELD. -/
def State.sleepSample (s : State) (g : Nat) (xs : List FieldSample) : State :=
  if s.fd.uv then s
  else (List.range 8).foldl (fun s i =>
    let n := 8 * g + i
    match xs[i]? with
    | some x =>
      if n < s.variant.fins ∧ s.on (Reg.FI_CFG_WAKE_EN n) then
        s.setInput n (wakeStep (s.input n) (s.fld (Reg.FI_CFG_DEB n)) (s.on (Reg.FI_CFG_WAKE_POL n)) (x.level != s.on (Reg.FI_CFG_INVERT n)))
      else s
    | none => s) s

/-- R306: sleep begins or ends: no wake edge has been accepted. -/
def State.sleepInputs (s : State) : State :=
  { s with fd := { s.fd with inputs := s.fd.inputs.map (fun e => (e.1, { e.2 with run := 0, woke := none, since := none, edge := none })) } }

/-- R306: an input's first accepted edge towards WAKE_POL drives the wake line. -/
def State.wakeLine (s : State) (n : Nat) : Bool := decide (n < s.variant.fins) && (s.on (Reg.FI_CFG_WAKE_EN n) && ((s.input n).woke == some true && !s.fd.uv))

/-- R292–R295: the samples of group `g` at a window end; in sleep those of R306. -/
def State.inputSample (s : State) (g : Nat) (xs : List FieldSample) : State :=
  if s.fd.asleep then s.sleepSample g xs
  else if ¬ s.windowEnd g then s
  else (List.range 8).foldl (fun s i =>
    let n := 8 * g + i
    match xs[i]? with
    | some x =>
      if n < s.variant.fins then
        let thr := if s.derated 4 then 15 * 150 else 16 * 150
        s.setInput n (inputStep (s.input n) (s.fld (Reg.FI_CFG_DEB n)) thr (s.on (Reg.FI_CFG_OW_EN n))
          (x.level != s.on (Reg.FI_CFG_INVERT n)) x.ua s.ft)
      else s
    | none => s) s

/-! New samples (R253, R262). -/

/-- R262: an input of slot `n` no longer holds it in SAFE: the cause ends, or waits for EN where IN_RECOVER is 0. -/
def State.slotRecover (s : State) (n : Nat) : State :=
  let x := s.slot n
  if x.late.isEmpty ∧ x.causes.contains caInput ∧ s.on (Reg.SL_SPCFG_IN_RECOVER n) then
    let cs := x.causes.filter (· ≠ caInput)
    let s1 := s.setSlot n { x with causes := cs }
    if s1.slState n = slSafe then (if cs.isEmpty then s1.slotSoft n else s1.setFld (Reg.SL_STATE_SAFE_CAUSE n) (cs.headD 0)) else s1
  else s

/-- R253: a new sample of a source, at `t`, reaches every slot input routed to it. -/
def State.newSampleAt (s : State) (kind index : Nat) (t : Time) : State :=
  s.liveSlots.foldl (fun s n =>
    let ps := (List.range 16).filter (fun p => decide (s.fld (Reg.SL_IN_KIND n p) = kind) &&
      (decide (s.fld (Reg.SL_IN_INDEX n p) = index) || kind == 11))
    if ps.isEmpty then s else (s.setSlot n (s.sampledAt n ps t)).slotRecover n) s

/-- R253: a new sample of a source now. -/
def State.newSample (s : State) (kind index : Nat) : State := s.newSampleAt kind index s.ft

/-! Outputs (R296–R301). -/

/-- R298: what the source of output `m` asks for: on, in PWM, duty. -/
def State.foAsked (s : State) (m : Nat) : Bool × Bool × Nat :=
  let src := s.fld (Reg.FO_CFG_SOURCE m)
  let d := s.fld (Reg.FO_DUTY_DUTY m)
  if src = 0 then (s.on (Reg.FO_SET_ON m), s.on (Reg.FO_SET_PWM_EN m), d)
  else if src = 1 then ((s.fout m).on, (s.outletOn 3 m).any (fun o => s.on (Reg.OT_CFG_DUTY_MOD o)), d)
  else if src = 2 then (true, true, d)
  else (false, false, 0)

/-- R299: STOP, or SAFE from a halt, acts on output `m`. -/
def State.foStopped (s : State) (m : Nat) : Bool := decide (s.fld (Reg.FO_CFG_SOURCE m) = 1) || s.on (Reg.FO_CFG_STOP_OFF m)

/-- Row 3 of Table 11.2: silence, held-safe, or SAFE from a halt. -/
def State.foSafeHeld (s : State) (m : Nat) : Bool := s.fd.silent || (s.fd.never || (s.fd.safe || (s.fd.halt && s.foStopped m)))

/-- R297: the outputs of the group that output `l` leads, and what any of them has. -/
def State.foGroup (s : State) (l : Nat) : List Nat := s.allFo.filter (fun m => s.foLead m = l)
def State.foHot (s : State) (l : Nat) : Bool := (s.foGroup l).any (fun m => (s.fout m).hot)
def State.foOpenWire (s : State) (l : Nat) : Bool := (s.foGroup l).any (fun m => (s.fout m).wire)

/-- Table 11.2, R297: the rank that sets output `m`'s state: its group's. -/
def State.foRank (s : State) (m : Nat) : Nat :=
  let l := s.foLead m
  if s.fd.uv ∨ s.foHot l ∨ (s.fout l).ovl ∨ (s.fout l).latched then 1
  else if s.fd.stop ∧ s.foStopped l then 2
  else if s.foSafeHeld l then 3
  else 4

/-- A command on a grid as a level at `t`. -/
def foLevel (c : Bool × Bool × Nat) (g : Grid) (t : Time) : Bool := c.1 && (!c.2.1 || g.isOn c.2.2 t)

/-- R288, R301: the command of output `m` on the field side: of a ledger-driven one its last fired edge, else what the last frame carried. -/
def State.foCmd (s : State) (m : Nat) : Bool × Bool × Nat :=
  let x := s.fout m
  if s.fld (Reg.FO_CFG_SOURCE m) = 1 then (x.on, x.cmd.2) else x.cmd

/-- Table 11.2, R306: output `m` at `t`, off in sleep; a shadow that failed its check holds it off, and HOLD counts as off before the first frame (R304). -/
def State.foOn (s : State) (m : Nat) (t : Time) : Bool :=
  let l := s.foLead m
  let r := s.foRank l
  if r ≤ 2 ∨ s.fd.asleep ∨ (s.fd.never ∧ ¬ s.fd.shadowGood) then false
  else if r = 3 then
    let safe := s.fld (Reg.FO_CFG_SAFE l)
    if safe = 1 then true
    else if safe = 2 then (match (s.fout l).kept with | some c => foLevel c.1 c.2 t | none => false)
    else false
  else foLevel (s.foCmd l) (s.fout l).grid t

/-- FO_STATE as it stands on the field side, without IN_LIMIT; a group's faults stand on its lowest output (R297). -/
def State.foStateNow (s : State) (m : Nat) : Nat :=
  let r := s.foRank m
  let x := s.fout m
  let own := s.foLead m = m
  b2n (s.foOn m s.ft) + 0x4 * b2n (own && s.foHot m) + 0x8 * b2n (own && x.ovl) + 0x10 * b2n (own && x.latched) + 0x20 * b2n (own && s.foOpenWire m) +
    0x40 * b2n (r == 3) + 0x80 * b2n (r == 2) + 0x100 * b2n s.fd.uv

/-- R299: rank 2 or 3 begins on the outputs that `hit` selects: HOLD keeps the command with its grid, context outputs lose ON where `clear`
says that no hold of the same stop began before, ledger ones stay off. -/
def State.foHold (s : State) (hit : Nat → Bool) (keep clear : Bool) : State :=
  s.allFo.foldl (fun s m =>
    if hit m then
      let x := s.fout m
      let k := if keep && x.kept.isNone then some (if s.foRank m = 4 then s.foCmd m else (false, false, 0), x.grid) else x.kept
      let s1 := s.setFout m { x with kept := k, on := if s.fld (Reg.FO_CFG_SOURCE m) = 1 then false else x.on }
      if clear && s.fld (Reg.FO_CFG_SOURCE m) = 0 then s1.setFld (Reg.FO_SET_ON m) 0 else s1
    else s) { s with fd := { s.fd with edges := s.fd.edges.filter (fun e => !hit e.out) } }

/-- Rank 3 has ended: HOLD's commands are dropped. -/
def State.foFree (s : State) : State :=
  s.allFo.foldl (fun s m => if ¬ s.foSafeHeld m ∧ (s.fout m).kept.isSome then s.setFout m { s.fout m with kept := none } else s) s

/-- R19: outbound frames reach the field die: the core die runs, and the field side has heard a frame within BAR_TMO. -/
def State.fieldReached (s : State) : Bool := s.pw.coreUp && (!s.fd.never && (!s.fd.silent || decide (0 < s.fd.good)))

/-- R302: the field die takes STOP, SAFE and RELEASE from an outbound frame. -/
def State.foHear (s : State) : State :=
  let s1 := if s.fd.tellStop && !s.fd.stop then s.foHold s.foStopped false (!s.fd.halt) else s
  let s2 := if s1.fd.tellHalt && !s1.fd.halt then s1.foHold s1.foStopped true (!s1.fd.stop && !s1.fd.tellStop) else s1
  let s3 := if s2.fd.tellSafe && !s2.fd.safe then s2.foHold (fun _ => true) true true else s2
  { s3 with fd := { s3.fd with stop := s3.fd.tellStop, halt := s3.fd.tellHalt, safe := s3.fd.tellSafe } }.foFree

/-- R290: the field side takes an outbound frame as valid: its SEQ, the gaps it shows, and FT. -/
def State.heardSeq (s : State) (seq : Nat) : State :=
  let gap := s.fd.seqIn.any (fun q => decide ((q + 1) % 256 ≠ seq))
  { s with fd := { s.fd with seqIn := some seq, skipN := s.fd.skipN + b2n gap, ftCopy := s.ft } }

/-- R19, R289, R302: the safety block's urgent frame, with a SEQ of its own; it takes effect where frames cross the barrier. -/
def State.foTell (s : State) (stop halt safe : Bool) : State :=
  let s1 : State := { s with fd := { s.fd with tellStop := stop, tellHalt := halt, tellSafe := safe, txSeq := (s.fd.txSeq + 1) % 256 } }
  let s2 := (s1.setBit Reg.FIO_STATUS_STOP stop).setBit Reg.FIO_STATUS_SAFE (safe || halt)
  if s2.fieldReached then (s2.heardSeq s2.fd.txSeq).foHear else s2

/-- STOP (R302): the outputs of rank 2. -/
def State.foStop (s : State) : State := s.foTell true s.fd.tellHalt s.fd.tellSafe
/-- SAFE on a halt doorbell or halt filter (R302). -/
def State.foHalt (s : State) : State := s.foTell s.fd.tellStop true s.fd.tellSafe
/-- SAFE on held-safe (R302). -/
def State.foSafe (s : State) : State := s.foTell s.fd.tellStop s.fd.tellHalt true
/-- RELEASE of the stop hold, or of held-safe (R302). -/
def State.foRelease (s : State) (held : Bool) : State :=
  if held then s.foTell s.fd.tellStop s.fd.tellHalt false else s.foTell false false s.fd.tellSafe

/-- R290: BAR_TMO in force, in ticks: the field side's from its shadow. -/
def State.barTicks (s : State) (shadow : Bool) : Nat :=
  let r := s.fld Reg.FIO_BAR_BAR_TMO
  80000 * (if shadow then ((s.fd.shadow.find? (fun e => e.1 = 97)).map (·.2 % 2 ^ 14)).getD r else r)

/-- R290: the field side hears nothing for BAR_TMO, timed to ±5 %. -/
def State.fieldSilence (s : State) : State :=
  if ¬ s.overdue s.fd.txAt (s.barTicks true * 95 / 100) then s
  else if s.fd.silent then { s with fd := { s.fd with good := 0 } }
  else
    let s1 := s.foHold (fun _ => true) true true
    { s1 with fd := { s1.fd with silent := true, good := 0, episode := true } }

/-- R301: the due time of an edge of the outlet on output `m`: the field side acts on it if an outbound frame has carried it there, and
tracks no OPEN while a stop or SAFE holds (R299). -/
def State.foEdge (s : State) (i m kind : Nat) (due : Time) : State :=
  if ¬ s.fd.edges.any (fun e => decide (e.entry = i) && (decide (e.kind = kind) && decide (e.due = due))) then s
  else
    let s1 : State := { s with fd := { s.fd with edges := s.fd.edges.filter (fun e => e.entry ≠ i) } }
    let x := s1.fout m
    if kind ≠ kOpen then s1.setFout m { x with on := false }
    else if s1.foRank m = 2 ∨ s1.foRank m = 3 then s1
    else s1.setFout m { x with on := true, grid := { period := x.grid.period, start := due } }

/-- R271, R298: a duty from the output's source. -/
def State.foDuty (s : State) (m d : Nat) : State := s.setFld (Reg.FO_DUTY_DUTY m) d

/-- R288, R297: a fault of the group of output `m` that the next inbound frame reports (bits of FO_FAULT). -/
def State.foNews (s : State) (m k : Nat) : State := s.setFout (s.foLead m) { s.fout (s.foLead m) with news := (s.fout (s.foLead m)).news ||| k }

/-- R300: a limit of 2 ms on output `m` switches its group off. -/
def State.overload (s : State) (m : Nat) : State :=
  let l := s.foLead m
  let s1 := s.foNews m 1
  if s.on (Reg.FO_CFG_OVL_LATCH l) then s1.setFout l { s1.fout l with latched := true }
  else s1.setFout l { s1.fout l with ovl := true, waitFrom := s.ft }

/-- R300: 100 ms after an unlatched overload. -/
def State.overloadRestart (s : State) (m : Nat) : State :=
  let l := s.foLead m
  let x := s.fout l
  if x.ovl ∧ s.overdue (some x.waitFrom) 800000000 then s.setFout l { x with ovl := false, restarts := x.restarts + 1 } else s

/-- R300: the junction reached 165 °C. -/
def State.overtemp (s : State) (m : Nat) : State :=
  let s1 := s.foNews m 2
  s1.setFout m { s1.fout m with hot := true }

/-- R300: it fell to 145 °C. -/
def State.overtempEnd (s : State) (m : Nat) : State := s.setFout m { s.fout m with hot := false }

/-- R300, R394: the open-wire test of output `m`: its current in µA while on, its voltage in mV while off. -/
def State.foWire (s : State) (m : Nat) (ua mv : Int) : State :=
  let set (b : Bool) : State :=
    let s1 := if b then s.foNews m 4 else s
    s1.setFout m { s1.fout m with wire := b }
  if s.foOn m s.ft then set (if s.derated 4 then decide (16 * ua < 15 * 3000) else decide (ua < 3000))
  else if s.on (Reg.FO_CFG_OW_OFF_EN (s.foLead m)) then set (decide (12000 < mv))
  else s

/-- R299: VFIELD fell below 17.0 V. -/
def State.fieldUv (s : State) : State :=
  let hit := s.allFo.filter (fun m => decide (s.foLead m = m) && s.foOn m s.ft)
  hit.foldl (fun s m => s.foNews m 8) { s with fd := { s.fd with uv := true, uvNews := s.fd.uvNews || !s.fd.uv } }
/-- R299: VFIELD above 18.0 V for 1 ms. -/
def State.fieldUvEnd (s : State) : State := { s with fd := { s.fd with uv := false } }

/-- R301: the seal of a checked edge, and FO_FAULT.SWITCH_BAD. -/
def State.foSeal (s : State) (i m code : Nat) : State :=
  if code = sSwitchOk then s.sealEntry i code none
  else ((s.setFld (Reg.FO_FAULT_SWITCH_BAD m) 1).raise Reg.FIO_EVENT_SWITCH_BAD).sealEntry i code none

/-- R301: the check of a fired edge; voltages in mV. A seal that arrives in a takeover waits for its end (R305). -/
def State.foCheck (s : State) (i : Nat) (mv ma vfield : Int) : State :=
  match s.entry i with
  | some e =>
    if e.st = eFired ∧ e.kind ≠ kRate ∧ s.fld (Reg.OT_CFG_TARGET e.outlet) = 3 ∧ s.checkDue e then
      let m := s.fld (Reg.OT_TARGET_CHAN e.outlet) % 32
      let s1 := (s.setSfld (Reg.FO_VOUT_V m) (mv / 10)).setSfld (Reg.FO_IMEAS_I m) ma
      let ok := if e.kind = kOpen then
          decide ((vfield - mv).natAbs ≤ 2000) && (decide (s1.foRank m = 4) && !s1.foOpenWire (s1.foLead m))
        else decide (mv < 3000)
      let code := if ok then sSwitchOk else sSwitchBad
      if s1.holdsBack then s1.hold (.check i m code) else s1.foSeal i m code
    else s
  | none => s

/-! The shadow (R304, R281). -/

/-- R304: what the shadow holds; COS_RISE and COS_FALL are no configuration of the image (R308). -/
def State.fdShadowNow (s : State) : List (Nat × Nat) :=
  s.allFo.map (fun m => (m, (s.reg (0x590600 + 0x40 * m)).toNat)) ++
    ((List.range s.variant.fins).map (fun n => (32 + n, (s.reg (0x590100 + 0x10 * n)).toNat % 2 ^ 21)) ++
      [(96, (s.reg 0x59002C).toNat), (97, (s.reg 0x590008).toNat)])

/-- R304: after an activation the shadow is written if it differs. -/
def State.fdShadowWrite (s : State) : State :=
  if s.fdShadowNow = s.fd.shadow ∧ s.fd.shadowGood then s.setFld Reg.FIO_STATUS_SHADOW_OK 1
  else { s.setFld Reg.FIO_STATUS_SHADOW_OK 0 with fd := { s.fd with writing := true } }

/-- R304, R281: the shadow write ends, as the switch die's does. -/
def State.fdShadowDone (s : State) (ok : Bool) : State :=
  if s.fd.writing then
    let w := s.fdShadowNow
    let s1 : State := { s with fd := { s.fd with writing := false, store := w, storeCrc := if ok then shadowCrc w else shadowCrc w + 1 } }
    if ok then { s1 with fd := { s1.fd with shadow := w, shadowGood := true } }.setFld Reg.FIO_STATUS_SHADOW_OK 1 else s1
  else s

/-- The register that a word of the shadow is loaded into. -/
def fdShadowReg (k : Nat) : Nat :=
  if k < 32 then 0x590600 + 0x40 * (k % 32) else if k < 96 then 0x590100 + 0x10 * ((k - 32) % 64) else if k = 96 then 0x59002C else 0x590008

/-- The configuration registers of the field die. -/
def fieldCfg (a : Nat) : Bool :=
  (inRange 0x590600 0x590E00 a && a % 0x40 == 0) || ((inRange 0x590100 0x590500 a && a % 0x10 == 0) || (a == 0x59002C || a == 0x590008))

/-- The configuration registers take the shadow's words, those it does not hold their reset words (R304, R308). -/
def State.fdFromShadow (s : State) : State :=
  let s1 : State := { s with regs := s.regs.filter (fun e => !fieldCfg e.1) }
  if s.fd.shadowGood then s.fd.shadow.foldl (fun s e => s.setReg (fdShadowReg e.1) (BitVec.ofNat 32 e.2)) s1 else s1

/-- R304: the field die at power-on. -/
def State.fdPowerOn (s : State) : State :=
  let regs := s.regs.filter (fun e => !(inRange 0x590000 0x5A0000 e.1))
  let good := decide (shadowCrc s.fd.store = s.fd.storeCrc)
  let s1 : State := { s with regs := regs, fd := { shadow := if good then s.fd.store else [], shadowGood := good, store := s.fd.store,
                                                   storeCrc := s.fd.storeCrc } }
  let s2 := s1.fdFromShadow
  if good then s2.setFld Reg.FIO_STATUS_SHADOW_OK 1 else s2.raise Reg.FIO_EVENT_SHADOW_ERR

/-- R375, R300: the field die takes with a frame the image's items that wait for it, a new source on its own grid (R271), and UNLATCH; the
shadow then follows the image. -/
def State.foTake (s : State) : State :=
  let s0 : State := s.fd.unlatch.foldl (fun s m => s.setFout m { s.fout m with latched := false }) { s with fd := { s.fd with unlatch := [] } }
  match s0.fd.staged with
  | none => s0
  | some ws =>
    (ws.foldl (fun (s : State) (e : Nat × Nat) =>
      let s1 := s.setReg (fdShadowReg e.1) (BitVec.ofNat 32 e.2)
      if 32 ≤ e.1 ∨ s1.fld (Reg.FO_CFG_SOURCE e.1) = s.fld (Reg.FO_CFG_SOURCE e.1) then s1
      else s1.setFout e.1 { s1.fout e.1 with grid := Grid.fresh (s1.fout e.1).grid.period e.1 }) { s0 with fd := { s0.fd with staged := none } }).fdShadowWrite

/-! Barrier frames (R288, R290). -/

/-- R288: a frame that starts `ofs` ticks after a multiple of 64,000 is being delivered, within 2 µs of its start. -/
def State.barGrid (s : State) (ofs : Nat) : Bool := decide ((s.ft.toNat + (64000 - ofs)) % 64000 ≤ 16000)

/-- R288, R301: the committed edges of field outputs, as the frame of this instant carries them. -/
def State.foEdges (s : State) : List FieldEdge :=
  (s.ledger.filter (fun p => decide (p.2.st = eCommitted) && (decide (p.2.kind ≠ kRate) && decide (s.fld (Reg.OT_CFG_TARGET p.2.outlet) = 3)))).map
    (fun p => { entry := p.1, out := s.fld (Reg.OT_TARGET_CHAN p.2.outlet) % 32, kind := p.2.kind, due := p.2.due, a := p.2.delayA })

/-- R288: the commands of a valid frame: level, PWM, duty, and a period from its next start (R271). -/
def State.foCommands (s : State) : State :=
  s.allFo.foldl (fun s m =>
    let x := s.fout m
    let c := s.foAsked m
    let per := s.fld (Reg.FO_PERIOD_PERIOD m)
    if x.cmd = c ∧ x.grid.period = per then s
    else s.setFout m { x with cmd := c, grid := x.grid.setPeriod m per (decide (s.fld (Reg.FO_CFG_SOURCE m) = 1)) s.ft }) s

/-- R288, R290: an outbound frame crosses the barrier, its check good where `ok`; the field side takes every command and committed edge, and
four valid ones end a silence. -/
def State.outboundFrame (s : State) (ok : Bool) : State :=
  if ¬ s.pw.coreUp ∨ ¬ s.barGrid 0 then s
  else
    let seq := (s.fd.txSeq + 1) % 256
    let s0 : State := { s with fd := { s.fd with txSeq := seq } }
    if ¬ ok then { s0 with fd := { s0.fd with crcN := s0.fd.crcN + 1 } }
    else if s0.fd.seqIn = some seq then s0
    else
      let good := if s.fd.silent then s.fd.good + 1 else 0
      let s1 := s0.heardSeq seq
      let s2 : State := { s1 with fd := { s1.fd with txAt := some s1.ft, never := false, good := good % 4, silent := s1.fd.silent && decide (good < 4) } }
      let s3 := s2.foTake.foHear
      { s3 with fd := { s3.fd with edges := s3.foEdges } }.foCommands

/-- R294: a change-of-state bit, with its interrupts. -/
def State.cosBit (s : State) (n : Nat) : State :=
  let s1 := (s.setFbit (Reg.FIO_COS_COS (n / 32)) (n % 32) true).raise Reg.FIO_EVENT_COS
  match s.ownerOf 1 n with
  | some c => s1.ctxIrq c 3
  | none => s1

/-- R294, R305: an accepted edge as its inbound frame brings it to the part. -/
def State.inputEdge (s : State) (n : Nat) (rising : Bool) (t : Time) : State :=
  let x := s.input n
  let s1 := (s.setFbit (Reg.FIO_LEVEL_LEVEL (n / 32)) (n % 32) rising).setBit (Reg.FI_STAT_LEVEL n) rising
  let s2 := ((s1.setBit (Reg.FI_STAT_LAST_DIR n) rising).setFld (Reg.FI_STAMP_STAMP n) t.toNat).setFld (Reg.FI_COUNT_COUNT n) x.count
  let s3 := if rising then s2.setInput n { x with stamps := recentBy id t 800000000 (t :: x.stamps), edge := none } else s2.setInput n { x with edge := none }
  let cos := if rising then s3.on (Reg.FI_CFG_COS_RISE n) else s3.on (Reg.FI_CFG_COS_FALL n)
  let s4 := if cos then (if s3.holdsBack then s3.hold (.cos n) else s3.cosBit n) else s3
  let s5 := (List.range 8).foldl (fun s k =>
    let r := s.counterEdge k n rising t
    if r.2 then (r.1.newSample 6 k).newSample 7 k else r.1) s4
  let s6 := if rising ∧ s5.on Reg.SPD_CFG_SPD_EN ∧ s5.fld Reg.SPD_CFG_SPD_IN = n then s5.speedEdge t else s5
  (s6.newSample 4 n).newSample 5 n

/-- Edges of a frame in the order of their stamps. -/
def insEdge (now : Time) (x : Nat × Bool × Time) : List (Nat × Bool × Time) → List (Nat × Bool × Time)
  | [] => [x]
  | y :: r => if (now - y.2.2).toNat < (now - x.2.2).toNat then x :: y :: r else y :: insEdge now x r

/-- R288: what every inbound frame says of input `n`: its accepted level and its count, and that it is not stale. An input whose edge the
frame brings keeps its level until that edge. -/
def State.inputReport (s : State) (n : Nat) : State :=
  let x := s.input n
  let s1 := if s.on (Reg.FI_STAT_STALE n) then s.setFld (Reg.FI_STAT_STALE n) 0 else s
  let s2 := if x.edge.isSome ∨ s1.on (Reg.FI_STAT_LEVEL n) = x.level then s1
    else (s1.setFbit (Reg.FIO_LEVEL_LEVEL (n / 32)) (n % 32) x.level).setBit (Reg.FI_STAT_LEVEL n) x.level
  if s2.fld (Reg.FI_COUNT_COUNT n) = x.count then s2 else s2.setFld (Reg.FI_COUNT_COUNT n) x.count

/-- R288: what every inbound frame says of output `m`: its state, its faults since the frame before, its restarts. -/
def State.outputReport (s : State) (m : Nat) : State :=
  let x := s.fout m
  let w := s.foStateNow m + 2 * s.fld (Reg.FO_STATE_IN_LIMIT m)
  let s1 := s.setReg (0x590610 + 0x40 * (m % 32)) (BitVec.ofNat 32 w)
  if x.news = 0 ∧ x.restarts = 0 then s1
  else
    let s2 := ([0, 1, 2, 3] : List Nat).foldl (fun s k => if bit x.news k then s.setFld ⟨0x590614 + 0x40 * (m % 32), k, 1⟩ 1 else s) s1
    let s3 := ((s2.raiseIf (bit x.news 0) Reg.FIO_EVENT_OVERLOAD).raiseIf (bit x.news 1) Reg.FIO_EVENT_OVERTEMP).raiseIf (bit x.news 2) Reg.FIO_EVENT_OW_OUT
    (s3.bump (Reg.FO_CNT_OVL_N m) x.restarts).setFout m { x with news := 0, restarts := 0 }

/-- R288, R299: what every inbound frame says of VFIELD. -/
def State.vfieldReport (s : State) : State :=
  let s1 := (s.setBit Reg.FIO_STATUS_VFIELD_UV s.fd.uv).raiseIf s.fd.uvNews Reg.FIO_EVENT_VFIELD_UV
  { s1 with fd := { s1.fd with uvNews := false } }

/-- The edges that a frame carries, which no later frame repeats. -/
def State.edgesSent (s : State) : State :=
  (s.fd.inputs.map (·.1)).foldl (fun s n => if (s.input n).edge.isSome then s.setInput n { s.input n with edge := none } else s) s

/-- R288, R290: an inbound frame. -/
def State.inboundFrame (s : State) (f : BarrierIn) : State :=
  if ¬ s.barGrid 32000 then s
  else if ¬ f.ok then s.edgesSent.bump Reg.FIO_BARCNT_CRC_N 1
  else if s.fd.rxSeq = some (f.seq % 256) then s.edgesSent
  else
    let gap := s.fd.rxSeq.any (fun q => decide ((q + 1) % 256 ≠ f.seq % 256))
    let s1 := if gap then s.bump Reg.FIO_BARCNT_SKIP_N 1 else s
    let s2 := { s1 with fd := { s1.fd with rxSeq := some (f.seq % 256), rxAt := some s1.ft, episode := false, lost := false } }
    let s3 := if s1.fd.episode then s2.setFld Reg.FIO_STATUS_SILENT 1 else s2
    let s4 := ((s3.setFld Reg.FIO_STATUS_BAR_OK 1).setSfld Reg.FIO_VFIELD_V f.vfield).vfieldReport
    let ns := List.range s4.variant.fins
    let es := (s4.fd.inputs.map (·.1)).foldl (fun q n => match (s4.input n).edge with | some e => insEdge s4.ft (n, e.1, e.2) q | none => q) []
    let s5 := ns.foldl (fun s n => s.inputReport n) s4
    let s6 := ns.foldl (fun s n => s.inputReport n) (es.foldl (fun s e => s.inputEdge e.1 e.2.1 e.2.2) s5)
    let s7 := ns.foldl (fun s n =>
      let w := (s.input n).wire
      if w = s.on (Reg.FI_STAT_OPEN_WIRE n) then s
      else
        let s1 := (s.setBit (Reg.FI_STAT_OPEN_WIRE n) w).setFbit (Reg.FIO_OWIN_OW (n / 32)) (n % 32) w
        if w then s1.raise Reg.FIO_EVENT_OW_IN else s1) s6
    let s8 := s7.allFo.foldl (fun s m => s.outputReport m) s7
    f.outs.foldl (fun s r => if r.out < s.variant.fouts then
      ((s.setSfld (Reg.FO_IMEAS_I r.out) r.ma).setSfld (Reg.FO_VOUT_V r.out) r.cv).setBit (Reg.FO_STATE_IN_LIMIT r.out) r.limit else s) s8

/-- R290: the part hears nothing for BAR_TMO, since the last valid frame or, where there was none, since the reset: inputs go stale; committed
edges that fall due are ended by EVENT_FIRE (R164). -/
def State.barrierTimeout (s : State) : State :=
  if ¬ s.fd.lost ∧ s.overdue (some (s.fd.rxAt.getD 0)) (s.barTicks false) then
    let s0 : State := { s with fd := { s.fd with lost := true } }
    let s1 := (s0.setFld Reg.FIO_STATUS_BAR_OK 0).raise Reg.FIO_EVENT_BAR_LOST
    let s2 := (List.range s1.variant.fins).foldl (fun s n => s.setFld (Reg.FI_STAT_STALE n) 1) s1
    let s3 := s2.raise Reg.RES_EVENT_DIE_LINK
    s3.canvas 15 0x0044 (leBytes 1 3 ++ leBytes 1 1)
  else s

/-! Writes (R308). -/

/-- A write in the field block: `sup` the supervisor, `own` the item's owner context. Commands and UNLATCH reach the field die with a frame (R287). -/
def State.fdWrite (s : State) (sup own : Bool) (a v : Nat) : State :=
  let err := s.raise Reg.FIO_EVENT_CFG_ERR
  if inRange 0x590600 0x590E00 a then
    let m := (a - 0x590600) / 0x40
    let off := a % 0x40
    let src := s.fld (Reg.FO_CFG_SOURCE m)
    let per (s : State) : State := if inRange 500 1000001 (bitsOf v 0 20) then s.setFld (Reg.FO_PERIOD_PERIOD m) v else err
    if off = 4 ∨ off = 8 ∨ off = 0xC then
      if src = 0 ∧ (sup ∨ own) then (if off = 4 then s.writeCodes a v else if off = 8 then per s else s.foDuty m (bitsOf v 0 20))
      else if src = 2 ∧ sup ∧ off = 8 then per s
      else err
    else if off = 0x18 then (if bit v 0 then { s with fd := { s.fd with unlatch := s.fd.unlatch ++ [m] } } else s)
    else s.writeCodes a v
  else s.writeCodes a v

end Sys2Proof.Machine
end

