-- ==== Sys2Proof/Machine/Bus.lean ====
section
/-! DEFINITION. Bus ports (chapter 12): states, reception and the receive objects, views, schedule windows, references, the event
queue, errors and stranded frames. The halt filter's stop is taken by Stops.lean. -/

namespace Sys2Proof.Machine

/-- Port states (Table 12.2). -/
abbrev bpOff : Nat := 0
abbrev bpInteg : Nat := 1
abbrev bpActive : Nat := 2
abbrev bpRestr : Nat := 3
abbrev bpBusOff : Nat := 4
abbrev bpRecov : Nat := 5
abbrev bpSleep : Nat := 6

def State.port (s : State) (p : Nat) : PortState := sget (fun _ => {}) s.bp.ports p
def State.setPort (s : State) (p : Nat) (x : PortState) : State := { s with bp := { s.bp with ports := sset (fun _ => {}) s.bp.ports p x } }
def State.txObj (s : State) (k : Nat) : TxObj := sget (fun _ => {}) s.bp.tx k
def State.setTxObj (s : State) (k : Nat) (x : TxObj) : State := { s with bp := { s.bp with tx := sset (fun _ => {}) s.bp.tx k x } }
def State.bpState (s : State) (p : Nat) : Nat := s.fld (Reg.BP_STATUS_STATE p)

/-- Bus ports of the variant (R334). -/
def Variant.buses : Variant → Nat
  | .f0512 => 3
  | _ => 6

/-- The image's records of objects, windows and cells (Table 14.4), as words. -/
def State.rxCfg (s : State) (k : Nat) : Option (List Nat) := (s.record 0x0404 k).map (·.words)
def State.txCfg (s : State) (k : Nat) : Option (List Nat) := (s.record 0x0405 k).map (·.words)
def State.winCfg (s : State) (p w : Nat) : Option (List Nat) := (s.record 0x0402 (64 * p + w)).map (·.words)
def State.cellCfg (s : State) (p c w : Nat) : Nat := ((s.record 0x0403 (4096 * p + 64 * c + w)).map (fun r => r.words.getD 0 0)).getD 0

/-- Data bytes of a DLC (ISO 11898-1, Table 12.1). -/
def dlcBytes (fdf : Bool) (dlc : Nat) : Nat :=
  if dlc ≤ 8 then dlc else if fdf then ([12, 16, 20, 24, 32, 48, 64] : List Nat).getD (dlc - 9) 64 else 8

/-- R311: nominal and data-phase bit times, ns. -/
def State.bitN (s : State) (p : Nat) : Nat :=
  (s.fld (Reg.BP_NBT_NBRP p) + 1) * (1 + (s.fld (Reg.BP_NBT_NTSEG1 p) + 1) + (s.fld (Reg.BP_NBT_NTSEG2 p) + 1)) * 10
def State.bitD (s : State) (p : Nat) : Nat :=
  (s.fld (Reg.BP_DBT_DBRP p) + 1) * (1 + (s.fld (Reg.BP_DBT_DTSEG1 p) + 1) + (s.fld (Reg.BP_DBT_DTSEG2 p) + 1)) * 10

/-- R319: the length bound of a frame, ns. -/
def boundNs (tn tdata : Nat) (ext fd brs : Bool) (n : Nat) : Nat :=
  if !fd then
    let g := if ext then 54 else 34
    (g + 8 * n + 13 + (g + 8 * n - 1) / 4) * tn
  else
    let td := if brs then tdata else tn
    let a := if ext then 36 else 17
    let d := 5 + 8 * n
    let c := if n ≤ 16 then 21 else 25
    let f := if n ≤ 16 then 6 else 7
    (a + (a - 1) / 4 + 13) * tn + (d + (d - 1) / 4 + c + f) * td

/-- R319 for a header word (BV_HDR form) and DLC on port `p`. -/
def State.boundOf (s : State) (p hdr dlc : Nat) : Nat :=
  boundNs (s.bitN p) (s.bitD p) (bit hdr 29) (bit hdr 30) (bit hdr 31) (dlcBytes (bit hdr 30) dlc)

/-- BP_STATUS and BUS_EVENT bits that follow others: queued entries and STRANDED. -/
def State.busRefresh (s : State) (p : Nat) : State :=
  (s.setFld (Reg.BP_STATUS_QUEUED p) (s.port p).queue.length).setBit (Reg.BP_STATUS_STRANDED p) (s.port p).stranded.isSome

/-! Completions of ring commands (R342, R343), used by departing queue entries. -/

/-- R341: the completion ring's slot for context `c`, or the slot in ring memory for an SPI context (R339). -/
def State.cplAddr (s : State) (c tail : Nat) : Nat :=
  if s.fld (Reg.CTX_CFG_PORT c) < 2 then s.reg64 (0x10 + 0x1000 * c) + 16 * tail
  else 0x4000 * s.fld (Reg.CTX_CFG_SPI_SLOT c) + 0x2000 + 16 * tail

/-- R341, R343: a completion written; over a stopped port the transfer is a DMA error. -/
def State.complete (s : State) (c tag flags status r0 r1 : Nat) : State :=
  let tail := s.fld (Reg.CW_CQ_TAIL_INDEX c)
  let ph := s.fld (Reg.CW_CQ_TAIL_PHASE c)
  let bs := leBytes 2 tag ++ leBytes 1 status ++ leBytes 1 ph ++ leBytes 4 r0 ++ leBytes 8 r1
  let s1 := s.hostWriteMem (s.fld (Reg.CTX_CFG_PORT c)) (s.cplAddr c tail) bs
  let s2 := s1.setFld (Reg.CW_CQ_TAIL_INDEX c) (tail + 1)
  let s3 := if tail = 255 then s2.setFld (Reg.CW_CQ_TAIL_PHASE c) (1 - ph) else s2
  let s4 := if status = 2 then s3.bump (Reg.CTX_CNT_REFUSED_N c) 1 else if status = 12 then s3.bump (Reg.CTX_CNT_UNBOUND_N c) 1 else s3
  (if bit flags 0 then s4.ctxIrq c 0 else s4).dmaError c

/-- A completion whose slot was reserved when the command was taken (R341). -/
def State.completeLater (s : State) (c tag flags status r0 r1 : Nat) : State :=
  let n := sget (fun _ => 0) s.hp.reserved c
  { s with hp := { s.hp with reserved := sset (fun _ => 0) s.hp.reserved c (n - 1) } }.complete c tag flags status r0 r1

/-- R22, R345: a command taken earlier completes; where no result leaves a lane the completion waits. -/
def State.finish (s : State) (c tag flags status : Nat) : State :=
  if s.holdsBack then { s with hp := { s.hp with heldCpl := s.hp.heldCpl ++ [(c, tag, flags, status)] } }
  else s.completeLater c tag flags status 0 0

/-- R323: a queue entry departs with a status. -/
def State.depart (s : State) (e : QEntry) (status : Nat) : State :=
  match e.cmd with
  | some (tag, flags) => s.finish e.ctx tag flags status
  | none => s

/-! States (R312). -/

/-- R334, R378: a port goes to OFF; what it holds is discarded, and its error counters, which no frame moves any more, start at 0 again
(DESIGN CHOICE, log 41). -/
def State.portOff (s : State) (p : Nat) : State :=
  let s1 := (s.port p).queue.foldl (fun s e => s.depart e 2) s
  (((s1.setPort p {}).setReg (0x5A0104 + 0x100 * (p % 6)) 0).setReg (0x5A0108 + 0x100 * (p % 6)) 0).busRefresh p

/-- A port begins to integrate. -/
def State.portJoin (s : State) (p : Nat) : State :=
  let x := s.port p
  let s1 := s.setPort p { x with window := none, owed := none, cycleStart := none, lastRef := none, masterPri := none, activeAt := none, refAt := none,
                                 refWait := none }
  ((s1.setFld (Reg.BP_STATUS_STATE p) bpInteg).setFld (Reg.BP_STATUS_SYNCED p) 0).setFld (Reg.BP_STATUS_ROLE p)
    (match s.fld (Reg.BP_TT_SYNC p) with | 0 => 0 | 1 => 1 | _ => 3)

/-- R312, R321: the port enters ACTIVE; a potential master listens first. -/
def State.portActive (s : State) (p : Nat) : State :=
  let s1 := if s.fld (Reg.BP_STATUS_ROLE p) = 2 then s.setFld (Reg.BP_STATUS_ROLE p) 3 else s
  (s1.setPort p { s1.port p with activeAt := some s.ft, refAt := none, refWait := none }).setFld (Reg.BP_STATUS_STATE p) bpActive

/-- R312: MODE written. -/
def State.bpMode (s : State) (p m : Nat) : State :=
  if m = 3 then s.raise (Reg.BP_EVENT_CFG_ERR p)
  else
    let s1 := s.setFld (Reg.BP_CTRL_MODE p) m
    let st := s.bpState p
    if st = bpSleep then s1
    else if m = 0 then s1.portOff p
    else if st = bpOff then s1.portJoin p
    else if (st = bpActive ∧ m = 2) ∨ (st = bpRestr ∧ m = 1) then
      let next := if m = 2 then bpRestr else bpActive
      if (s1.port p).sending.isSome then s1.setPort p { s1.port p with modeWait := some next }
      else if m = 2 then s1.setFld (Reg.BP_STATUS_STATE p) next else s1.portActive p
    else s1.setPort p { s1.port p with modeWait := none }

/-- R312: RECOVER written. -/
def State.bpRecover (s : State) (p : Nat) : State :=
  if s.bpState p = bpBusOff then s.setFld (Reg.BP_STATUS_STATE p) bpRecov else s.raise (Reg.BP_EVENT_CFG_ERR p)

/-- R312: 11 consecutive recessive bits. -/
def State.integrated (s : State) (p : Nat) : State :=
  if s.bpState p = bpInteg then (if s.fld (Reg.BP_CTRL_MODE p) = 2 then s.setFld (Reg.BP_STATUS_STATE p) bpRestr else s.portActive p) else s

/-- The error state and WARN as the counters give them (R312, R327). -/
def State.busErrState (s : State) (p tec recv : Nat) : State :=
  let old := s.fld (Reg.BP_STATUS_ERR p)
  let s1 := (((s.setFld (Reg.BP_ERRCNT_TEC p) (min tec 511)).setFld (Reg.BP_ERRCNT_REC p) (min recv 127)).setBit (Reg.BP_ERRCNT_RP p) (decide (128 ≤ recv)))
  let warn := decide (96 ≤ tec) || decide (96 ≤ recv)
  let e := if 255 < tec then 2 else if 128 ≤ tec ∨ 128 ≤ recv then 1 else 0
  let s2 := (s1.setBit (Reg.BP_STATUS_WARN p) warn).setFld (Reg.BP_STATUS_ERR p) e
  let s3 := s2.raiseIf (warn && !s.on (Reg.BP_STATUS_WARN p)) (Reg.BP_EVENT_WARN p)
  s3.raiseIf (decide (e = 1) && decide (old = 0)) (Reg.BP_EVENT_PASSIVE p)

/-- R312: recovery is complete. -/
def State.recovered (s : State) (p : Nat) : State :=
  if s.bpState p = bpRecov then
    ((s.busErrState p 0 0).portActive p).raise (Reg.BP_EVENT_RECOVERED p)
  else s

/-! Receiving (R313–R315). -/

/-- R313: the frame's header word (BV_HDR form). -/
def frameHdr (f : BusFrame) : Nat := f.id % 2 ^ 29 + 2 ^ 29 * b2n f.ide + 2 ^ 30 * b2n f.fdf + 2 ^ 31 * b2n f.brs

/-- R313: the receive object that takes a frame. -/
def State.rxMatch (s : State) (p : Nat) (f : BusFrame) : Option Nat :=
  match s.im.active with
  | none => none
  | some m =>
    (m.recs.find? (fun r => decide (r.kind = 0x0404) && (decide (r.index / 256 = p) &&
      (decide (bit (r.words.getD 0 0) 29 = f.ide) && decide (((f.id ^^^ r.words.getD 0 0) &&& r.words.getD 1 0) % 2 ^ 29 = 0))))).map (fun r => r.index % 256)

/-- R353: the bus record of a frame. -/
def busRecord (p o : Nat) (f : BusFrame) (lost : Bool) : List Byte :=
  leBytes 8 f.sof.toNat ++ leBytes 4 (frameHdr f) ++ leBytes 1 p ++ leBytes 1 o ++ leBytes 1 (f.dlc % 16 + 16 * b2n f.esi + 32 * b2n lost) ++ leBytes 1 0 ++
    padTo 64 (f.data.take (dlcBytes f.fdf f.dlc))

/-- R314: a frame that arrived at `t` stored into object `o`. -/
def State.rxStore (s : State) (p o : Nat) (f : BusFrame) (t : Time) : State :=
  let k := 256 * p + o
  let old := s.rxObj k
  let lost := old.fresh
  let s1 := s.setRxObj k { hdr := frameHdr f, esi := f.esi, dlc := f.dlc, data := f.data.take (dlcBytes f.fdf f.dlc), stamp := f.sof, fresh := true,
                           lost := old.lost || lost }
  let s2 := if lost then (s1.bump (Reg.BP_CNT_F_LOST_N p) 1).raise (Reg.BP_EVENT_LOST p) else s1
  let s3 := (s2.count (0x040 + p) 1).newSampleAt 8 k t
  match s3.rxCfg k, s3.ownerOf (6 + p) o with
  | some ws, some c => if bit (ws.getD 0 0) 30 then s3.streamCtx c 4 (busRecord p o f (old.lost || lost)) else s3
  | _, _ => s3

/-- R320: a frame is a reference message of port `p`; its sender's priority. -/
def State.isRef (s : State) (p : Nat) (f : BusFrame) : Option Nat :=
  if s.fld (Reg.BP_TT_SYNC p) ≠ 0 ∧ ¬ f.fdf ∧ f.dlc = 3 ∧ (f.data.headD 0).toNat < 64 ∧ f.ide = s.on (Reg.BP_TT_REF_IDE p) ∧ f.id / 8 = s.fld (Reg.BP_REFID_REF_BASE p) / 8 then some (f.id % 8)
  else none

/-- A list without the first entry equal to `x`. -/
def dropEntry (x : QEntry) : List QEntry → List QEntry
  | [] => []
  | e :: r => if e = x then r else e :: dropEntry x r

/-- R324: a one-shot attempt fails. -/
def State.oneShotFail (s : State) (p : Nat) : State := (s.bump (Reg.BP_CNT_D_ONESHOT_N p) 1).raise (Reg.BP_EVENT_ONESHOT_FAIL p)

/-- R318: a cell's object not completed. -/
def State.missed (s : State) (p : Nat) : State := (s.bump (Reg.BP_CNT_D_MISSED_N p) 1).raise (Reg.BP_EVENT_MISSED p)

/-- R323: an entry leaves the queue with a status. -/
def State.leave (s : State) (p : Nat) (e : QEntry) (status : Nat) : State :=
  ((s.setPort p { s.port p with queue := dropEntry e (s.port p).queue }).busRefresh p).depart e status

/-- R312: a mode change that waited for bus idle. -/
def State.modeIdle (s : State) (p : Nat) : State :=
  match (s.port p).modeWait with
  | some st =>
    let s1 := s.setPort p { s.port p with modeWait := none }
    if (s.port p).sending.isSome then s else if st = bpActive then s1.portActive p else s1.setFld (Reg.BP_STATUS_STATE p) st
  | none => s

/-- What waits for the bus does not start: a queue entry stays in the queue, or as a one-shot fails and leaves (R323, R324). -/
def State.unsend (s : State) (p : Nat) : State :=
  let x := s.port p
  let s1 := s.setPort p { x with sending := none }
  match x.sending with
  | some (.entry e) => if e.oneShot then (s1.oneShotFail p).leave p e 10 else s1
  | some _ => s1
  | none => s

/-- R320: a reference that was due while the port sent starts now. -/
def State.refNow (s : State) (p : Nat) : State :=
  match (s.port p).refWait with
  | some r =>
    if (s.port p).sending.isNone ∧ s.bpState p = bpActive then
      s.setPort p { s.port p with sending := some (.reference r.1), refAt := some r.2, refWait := none }
    else s
  | none => s

/-- R318: the open window ends: what has not started waits no longer, and its cell's object, if still owed, is missed. -/
def State.windowEnds (s : State) (p : Nat) : State :=
  let s0 : State := match (s.port p).sending with | some (.reference _) => s | _ => s.unsend p
  let x := s0.port p
  let s1 := s0.setPort p { x with window := none, owed := none }
  let s2 := match x.owed with
    | some (_, one) => if one then (s1.oneShotFail p) else s1.missed p
    | none => s1
  (s2.modeIdle p).refNow p

/-- R318: the ends of windows that have passed. -/
def State.busWindows (s : State) : State :=
  (List.range s.variant.buses).foldl (fun s p => if (s.port p).window.any (fun w => tge s.ft w.2) then s.windowEnds p else s) s

/-- R320, R321: a cycle starts at a reference's SOF. -/
def State.cycleBegins (s : State) (p cycle : Nat) (sof : Time) (pri : Nat) : State :=
  let s0 := if (s.port p).window.isSome then s.windowEnds p else s
  let s1 := s0.setPort p { s0.port p with cycleStart := some sof, lastRef := some sof, masterPri := some pri }
  ((s1.setFld (Reg.BP_STATUS_CYCLE p) (cycle % 2 ^ s.fld (Reg.BP_TT_CYCLES_LOG p))).setFld (Reg.BP_STATUS_SYNCED p) 1).setReg64 (0x5A015C + 0x100 * (p % 6)) sof.toNat

/-- R321: a valid reference received. -/
def State.refReceived (s : State) (p pri : Nat) (f : BusFrame) : State :=
  let own := s.fld (Reg.BP_TT_PRI p)
  let s1 := if (s.fld (Reg.BP_STATUS_ROLE p) = 2 ∨ (s.port p).masterPri = some own) ∧ pri < own then (s.setFld (Reg.BP_STATUS_ROLE p) 3).raise (Reg.BP_EVENT_MASTER_CHG p) else s
  (s1.setPort p { s1.port p with refAt := some f.sof, refWait := none }).cycleBegins p ((f.data.headD 0).toNat % 64) f.sof pri

/-- R328: the halt filter of port `p` takes the frame. -/
def State.haltHit (s : State) (p : Nat) (f : BusFrame) : Bool :=
  s.on (Reg.BP_HALT_HALT_EN p) && (!f.rtr && (decide (f.id = s.fld (Reg.BP_HALT_HALT_ID p)) && (decide (f.ide = s.on (Reg.BP_HALT_HALT_IDE p)) &&
    (!s.on (Reg.BP_HALT_HALT_KEY_EN p) ||
      (decide (2 ≤ dlcBytes f.fdf f.dlc) && decide (leAt f.data 0 2 = s.fld (Reg.BP_HALTKEY_HALT_KEY p)))))))

/-- R313: a frame that arrived at `t` to the objects, or counted unmatched. -/
def State.rxFrame (s : State) (p : Nat) (f : BusFrame) (t : Time) : State :=
  match s.rxMatch p f with
  | some o => s.rxStore p o f t
  | none => s.bump (Reg.BP_CNT_E_NOMATCH_N p) 1

/-- REC as it counts: 128 and more stand in RP. -/
def State.recNow (s : State) (p : Nat) : Nat := s.fld (Reg.BP_ERRCNT_REC p) + 128 * s.fld (Reg.BP_ERRCNT_RP p)

/-- R312: a frame received without error lowers REC, in ACTIVE (ISO 11898-1: by 1, or to 127 from above it; PRESUMED, log 41). -/
def State.goodFrame (s : State) (p : Nat) : State :=
  let r := s.recNow p
  if s.bpState p = bpActive ∧ 0 < r then s.busErrState p (s.fld (Reg.BP_ERRCNT_TEC p)) (if 127 < r then 127 else r - 1) else s

/-- The frames of port `p` that the lane merge holds. -/
def State.heldFrames (s : State) (p : Nat) : Nat :=
  (s.rs.held.filter (fun h => match h with | .bus q _ _ => decide (q = p) | _ => false)).length

/-- R313, R333: a valid received frame that the halt filter does not take. -/
def State.received (s : State) (p : Nat) (f : BusFrame) : State :=
  let st := s.bpState p
  if st ≠ bpActive ∧ st ≠ bpRestr then s
  else if f.rtr then s.bump (Reg.BP_CNT_E_RTR_N p) 1
  else
    let s1 := match s.isRef p f with | some pri => s.refReceived p pri f | none => s
    if s1.holdsBack then
      if s1.heldFrames p < 64 then s1.hold (.bus p f s1.ft)
      else (s1.bump (Reg.BP_CNT_F_RX_OVF_N p) 1).raise (Reg.BP_EVENT_RX_OVF p)
    else s1.rxFrame p f s1.ft

/-! Transmitting (R316–R326). -/

/-- The frame that something sent spells: header word, DLC. -/
def State.frameOf (s : State) (p : Nat) (x : Sending) : Nat × Nat :=
  let obj (o : Nat) : Nat × Nat := match s.txCfg (128 * p + o) with
    | some ws => (ws.getD 0 0, ws.getD 1 0 % 16)
    | none => (0, 0)
  let ref : Nat × Nat := (s.fld (Reg.BP_REFID_REF_BASE p) + s.fld (Reg.BP_TT_PRI p) + 2 ^ 29 * s.fld (Reg.BP_TT_REF_IDE p), 3)
  match x with
  | .object o _ => obj o
  | .entry e => (e.hdr, e.dlc)
  | .reference _ => ref
  | .stranded (some o) _ => obj o
  | .stranded none (some e) => (e.hdr, e.dlc)
  | .stranded none none => ref

/-- R318: a frame that starts `wait` ticks from now ends, by its bound, before the window does. -/
def State.fitsAfter (s : State) (p : Nat) (x : Sending) (wait : Int) : Bool :=
  let f := s.frameOf p x
  let ticks := 8 * s.boundOf p f.1 f.2
  match (s.port p).window with
  | some (_, e) => decide (wait + ticks ≤ tdiff e s.ft)
  | none => match x with | .reference _ => true | _ => false

/-- R325: ticks an error-passive port still waits before it starts a frame of its own. -/
def State.suspended (s : State) (p : Nat) : Int :=
  if s.fld (Reg.BP_STATUS_ERR p) = 1 then match (s.port p).suspend with | some e => max (tdiff e s.ft) 0 | none => 0 else 0

/-- R318, R325: a frame started as soon as the port may fits the window. -/
def State.fits (s : State) (p : Nat) (x : Sending) : Bool := s.fitsAfter p x (s.suspended p)

/-- R325: only the suspension keeps the frame from starting. -/
def State.pushed (s : State) (p : Nat) (x : Sending) : Bool := s.fitsAfter p x 0 && !s.fits p x

/-- R325: a transmission of the port's own ends here; suspend-transmission runs from it. -/
def State.ownEnds (s : State) (p : Nat) : State := s.setPort p { s.port p with suspend := some (tadd s.ft (64 * s.bitN p : Nat)) }

/-- R323: the order of arbitration: lower identifier bits first, a base identifier before an extended one with the same leading bits. -/
def QEntry.rank (e : QEntry) : Nat := if bit e.hdr 29 then (e.hdr % 2 ^ 29) * 2 + 1 else (e.hdr % 2 ^ 11) * 2 ^ 19

/-- The queue entry that goes next (R323): least rank, then oldest. -/
def nextEntry (q : List QEntry) : Option QEntry :=
  q.foldl (fun (m : Option QEntry) e => match m with | some x => if e.rank < x.rank then some e else m | none => some e) none

/-- R318, R323: in a free window the next entry that fits starts, and stays in the queue until it has been sent; a one-shot that does not fit
fails and leaves. -/
def State.freeNext (s : State) (p : Nat) : Nat → State
  | 0 => s
  | n + 1 =>
    let x := s.port p
    match nextEntry x.queue with
    | none => s
    | some e =>
      if s.fits p (.entry e) then s.setPort p { x with sending := some (.entry e) }
      else if e.oneShot then ((s.oneShotFail p).leave p e 10).freeNext p n
      else if s.pushed p (.entry e) then s.missed p
      else s

/-- The port may start frames (R312, R321, R329). -/
def State.maySend (s : State) (p : Nat) : Bool :=
  s.bpState p == bpActive && (s.fld (Reg.BP_TT_SYNC p) == 0 || s.on (Reg.BP_STATUS_SYNCED p))

/-- R320: present cycle time of port `p`, nominal bit times from the cycle's start. -/
def State.cycleTime (s : State) (p : Nat) : Nat :=
  let tb := max (8 * s.bitN p) 1
  if s.fld (Reg.BP_TT_SYNC p) = 0 then s.ft.toNat / tb % max (s.fld (Reg.BP_CYCLEN_CYCLE_LEN p)) 1
  else match (s.port p).cycleStart with | some t => (s.ft - t).toNat / tb | none => 0

/-- The start of the present basic cycle and its count; under LOCAL timing both follow from FT (R320). -/
def State.cycleNow (s : State) (p : Nat) : Time × Nat :=
  let len := max (8 * s.bitN p * s.fld (Reg.BP_CYCLEN_CYCLE_LEN p)) 1
  if s.fld (Reg.BP_TT_SYNC p) = 0 then
    (BitVec.ofNat 64 (s.ft.toNat / len * len), s.ft.toNat / len % 2 ^ s.fld (Reg.BP_TT_CYCLES_LOG p))
  else ((s.port p).cycleStart.getD s.ft, s.fld (Reg.BP_STATUS_CYCLE p))

/-- R317: the end of a window with descriptor words `ws` in the present basic cycle of port `p`. -/
def State.windowFin (s : State) (p : Nat) (ws : List Nat) : Time :=
  tadd (s.cycleNow p).1 ((bitsOf (ws.getD 0 0) 0 20 + bitsOf (ws.getD 1 0) 0 16) * (8 * s.bitN p) : Nat)

/-- R317: window `w`, with descriptor words `ws`, starts at the present cycle time, and has not started yet. -/
def State.windowDue (s : State) (p w : Nat) (ws : List Nat) : Bool :=
  decide (s.cycleTime p = bitsOf (ws.getD 0 0) 0 20) && ((s.fld (Reg.BP_TT_SYNC p) == 0 || (s.port p).cycleStart.isSome) &&
    decide ((s.port p).window ≠ some (w, s.windowFin p ws)))

/-- R317, R318: window `w` of port `p` starts. -/
def State.windowStart (s : State) (p w : Nat) : State :=
  match (s.winCfg p w).filter (s.windowDue p w) with
  | none => s
  | some ws =>
    let s0 := s.windowEnds p
    let cy := s0.cycleNow p
    let kind := bitsOf (ws.getD 1 0) 16 2
    let fin := s0.windowFin p ws
    let cell := if kind = 2 then 0 else s0.cellCfg p cy.2 w
    let obj := bitsOf cell 0 7
    let one := bit cell 8
    let s1 := (s0.setFld (Reg.BP_STATUS_CYCLE p) cy.2).setPort p { s0.port p with window := some (w, fin), winFrom := s0.ft, kind := kind }
    let upd := match s1.txCfg (128 * p + obj) with | some c => bit (c.getD 1 0) 4 | none => false
    let due := bit cell 7 && !(upd && !(s1.txObj (128 * p + obj)).written)
    if ¬ s1.maySend p then
      if kind = 2 then
        ((s1.port p).queue.filter (·.oneShot)).foldl (fun s e => (s.oneShotFail p).leave p e 10) s1
      else if due then (if one then s1.oneShotFail p else s1.missed p) else s1
    else
      let x := s1.port p
      if x.sending.isSome then (if due then s1.setPort p { x with owed := some (obj, one) } else s1)
      else match x.stranded with
      | some st =>
        let y : Sending := .stranded st.1 st.2
        if s1.fits p y then
          let s2 := s1.setPort p { x with sending := some y }
          if due then (if one then s2.oneShotFail p else s2.missed p) else s2
        else if due ∧ one then s1.oneShotFail p
        else if due ∨ s1.pushed p y then s1.missed p else s1
      | none =>
        if kind = 2 then s1.freeNext p 16
        else if due then
          let y : Sending := .object obj one
          if s1.fits p y then s1.setPort p { x with sending := some y, owed := some (obj, one) }
          else if one then s1.oneShotFail p else s1.missed p
        else s1

/-- R316: the content a transmit object had 2 µs before `sof`. -/
def State.txContent (s : State) (p o : Nat) (sof : Time) : List Byte :=
  let x := s.txObj (128 * p + o)
  let n := match s.txCfg (128 * p + o) with | some ws => dlcBytes (bit (ws.getD 0 0) 30) (ws.getD 1 0 % 16) | none => 0
  padTo n (((x.olds.takeWhile (fun e => decide (0 < tdiff e.1 (sof - 16000)))).getLast?.map (·.2)).getD x.data)

/-- R316, R320: the data that something sent carries from `sof`; a reference carries the cycle count and TAG. -/
def State.contentOf (s : State) (p : Nat) (x : Sending) (sof : Time) : List Byte :=
  match x with
  | .object o _ => s.txContent p o sof
  | .entry e => e.data
  | .stranded (some o) _ => s.txContent p o sof
  | .stranded none (some e) => e.data
  | .stranded none none => leBytes 1 ((s.port p).strandedCycle % 64) ++ leBytes 2 (Config.uniqueNumber % 2 ^ 16)
  | .reference c => leBytes 1 (c % 64) ++ leBytes 2 (Config.uniqueNumber % 2 ^ 16)

/-- R316: a write of a transmit object's content; what it replaces stands for a frame that started before, whose end comes within 100 ms. -/
def TxObj.put (x : TxObj) (data : List Byte) (t : Time) : TxObj :=
  { data := data, written := true, wroteAt := t, olds := recentBy (·.1) t 800000000 ((t, x.data) :: x.olds) }

/-- R316, R318: what was being sent has been sent; a write later than 2 µs before its SOF is for the next frame. -/
def State.sentDone (s : State) (p : Nat) (y : Sending) (sof : Time) : State :=
  let tec := s.fld (Reg.BP_ERRCNT_TEC p)
  let recv := s.fld (Reg.BP_ERRCNT_REC p) + 128 * s.fld (Reg.BP_ERRCNT_RP p)
  let s1 := (s.busErrState p (tec - 1) recv).count (0x048 + p) 1
  let obj (s : State) (o : Nat) : State :=
    let x := s.txObj (128 * p + o)
    s.setTxObj (128 * p + o) { x with written := x.written && decide (0 < tdiff x.wroteAt (sof - 16000)) }
  let x := s1.port p
  let ref (s : State) (c : Nat) : State :=
    let role := s.fld (Reg.BP_STATUS_ROLE p)
    let s2 := (s.setFld (Reg.BP_STATUS_ROLE p) 2).raiseIf (decide (role = 3) && x.lastRef.isSome) (Reg.BP_EVENT_MASTER_CHG p)
    s2.cycleBegins p c sof (s2.fld (Reg.BP_TT_PRI p))
  match y with
  | .object o _ => obj (s1.setPort p { x with sending := none, owed := none }) o
  | .entry e => (s1.setPort p { x with sending := none }).leave p e 0
  | .stranded (some o) _ => (obj (s1.setPort p { x with sending := none, stranded := none }) o).busRefresh p
  | .stranded none (some e) => (s1.setPort p { x with sending := none, stranded := none }).leave p e 0
  | .stranded none none => ref ((s1.setPort p { x with sending := none, stranded := none }).busRefresh p) x.strandedCycle
  | .reference c => ref (s1.setPort p { x with sending := none }) c

/-- R318, R321, R324: what was being sent lost arbitration (`arb`) or was broken; one-shots fail, arbitrating and free windows retry,
but not where a mode change waits for bus idle (Table 12.2). -/
def State.sendFailed (s : State) (p : Nat) (y : Sending) (arb : Bool) : State :=
  let x := s.port p
  let s1 := s.setPort p { x with sending := none }
  let again := x.modeWait.isNone
  match y with
  | .object o one =>
    if one then (s1.setPort p { s1.port p with owed := none }).oneShotFail p
    else if again ∧ x.kind = 1 ∧ s1.fits p y then s1.setPort p { s1.port p with sending := some (.object o one) }
    else s1
  | .entry e =>
    if e.oneShot then (s1.oneShotFail p).leave p e 10
    else if again ∧ x.kind = 2 then s1.freeNext p 16 else s1
  | .stranded o e =>
    if again ∧ s1.fits p (.stranded o e) ∧ x.kind ≠ 0 then s1.setPort p { s1.port p with sending := some (.stranded o e) }
    else if again ∧ x.kind ≠ 0 ∧ s1.pushed p (.stranded o e) then s1.missed p
    else s1
  | .reference _ => if arb ∧ s1.fld (Reg.BP_STATUS_ROLE p) = 2 then s1.setFld (Reg.BP_STATUS_ROLE p) 3 else s1

/-- R318, R325: a frame that waits may have started at `sof`: in its window, with its bound before the window's end, after the suspension; a
reference at or after its scheduled start. -/
def State.couldStart (s : State) (p : Nat) (y : Sending) (sof : Time) : Bool :=
  let x := s.port p
  let f := s.frameOf p y
  let calm := decide (s.fld (Reg.BP_STATUS_ERR p) ≠ 1) || x.suspend.all (fun e => tge sof e)
  tge s.ft sof && (calm && (match y with
    | .reference _ => x.refAt.all (fun t => tge sof t)
    | _ => x.window.any (fun w => tge sof x.winFrom && tge w.2 (tadd sof (8 * s.boundOf p f.1 f.2 : Nat)))))

/-- R318, R323: a transmission ends. -/
def State.txDone (s : State) (p : Nat) (r : TxResult) : State :=
  match (s.port p).sending.filter (fun y => match r with | .sent sof => s.couldStart p y sof | _ => true) with
  | none => s
  | some y =>
    let s1 : State := match r with
      | .sent sof =>
        let f := s.frameOf p y
        let s0 := s.ownEnds p
        let s2 := (s0.setPort p { s0.port p with sent := some { hdr := f.1, dlc := f.2, data := s.contentOf p y sof, sof := sof } }).sentDone p y sof
        if (s2.port p).kind = 2 ∧ (s2.port p).window.isSome ∧ s2.maySend p ∧ (s2.port p).sending.isNone ∧ (s2.port p).modeWait.isNone then s2.freeNext p 16 else s2
      | .lost => s.sendFailed p y true
      | .error => (s.ownEnds p).sendFailed p y false
    ((s1.modeIdle p).refNow p).busRefresh p

/-! References (R320, R321). -/

/-- R320, R321: the port sends its own reference with a cycle count, scheduled at `at'`; one under way is let end first. -/
def State.sendRef (s : State) (p cycle : Nat) (at' : Time) : State :=
  if s.bpState p = bpActive then
    if (s.port p).sending.isNone then s.setPort p { s.port p with sending := some (.reference (cycle % 64)), refAt := some at' }
    else match (s.port p).sending with
      | some (.reference _) => s
      | _ => s.setPort p { s.port p with refWait := some (cycle % 64, at') }
  else s

/-- R320: the scheduled start of the next reference, CYCLE_LEN nominal bit times after that of the last. -/
def State.refNext (s : State) (p : Nat) : Option Time :=
  (s.port p).refAt.map (fun t => tadd t (8 * s.bitN p * s.fld (Reg.BP_CYCLEN_CYCLE_LEN p) : Nat))

/-- R320: the cycle count after the present one. -/
def State.nextCycle (s : State) (p : Nat) : Nat := (s.fld (Reg.BP_STATUS_CYCLE p) + 1) % 2 ^ s.fld (Reg.BP_TT_CYCLES_LOG p)

/-- R320, R321: a reference is due at a cycle start: a master's own, or that of a backup of higher priority. -/
def State.refDue (s : State) (p : Nat) : State :=
  let role := s.fld (Reg.BP_STATUS_ROLE p)
  match s.refNext p with
  | some t =>
    if s.fld (Reg.BP_TT_SYNC p) = 2 ∧ tge s.ft t ∧
        (role = 2 ∨ (role = 3 ∧ (s.port p).masterPri.any (fun q => decide (s.fld (Reg.BP_TT_PRI p) < q)))) then s.sendRef p (s.nextCycle p) t
    else s
  | none => s

/-- R321: `n` nominal bit times have passed since `t`. -/
def State.bitsPast (s : State) (p n : Nat) (t : Time) : Bool := decide (8 * s.bitN p * n ≤ (s.ft - t).toNat)

/-- R321: no reference has started in time since the previous one. -/
def State.refGone (s : State) (p : Nat) : Bool :=
  s.on (Reg.BP_STATUS_SYNCED p) && (s.port p).lastRef.any (s.bitsPast p (s.fld (Reg.BP_CYCLEN_CYCLE_LEN p) + 16))

/-- R321: a potential master that is not master has waited long enough to send its own reference. -/
def State.refOwnDue (s : State) (p : Nat) : Bool :=
  let n := s.fld (Reg.BP_CYCLEN_CYCLE_LEN p) + 16
  decide (s.fld (Reg.BP_TT_SYNC p) = 2) && (decide (s.fld (Reg.BP_STATUS_ROLE p) = 3) && ((s.port p).activeAt.any (s.bitsPast p n) &&
    (s.port p).lastRef.all (s.bitsPast p (n + 8 * s.fld (Reg.BP_TT_PRI p)))))

/-- R321: no reference in time. -/
def State.refTimeout (s : State) (p : Nat) : State :=
  if s.fld (Reg.BP_TT_SYNC p) = 0 then s
  else
    let s1 := if s.refGone p then (s.setFld (Reg.BP_STATUS_SYNCED p) 0).raise (Reg.BP_EVENT_REF_LOST p) else s
    if s.refOwnDue p then s1.sendRef p (if (s.port p).lastRef.isSome then s.nextCycle p else 0) s.ft else s1

/-! Errors (R322, R326, R327). -/

/-- R326: entry to BUS_OFF; `y` is the frame whose transmission caused it. -/
def State.busOff (s : State) (p : Nat) (y : Option Sending) : State :=
  let s0 := if y.isSome then s else s.unsend p
  let s1 := s0.setPort p { s0.port p with sending := none, modeWait := none, refWait := none }
  let s2 : State := match y with
    | some (.object o one) =>
      if one then (s1.setPort p { s1.port p with owed := none }).oneShotFail p
      else s1.setPort p { s1.port p with stranded := some (some o, none) }
    | some (.entry e) => if e.oneShot then (s1.oneShotFail p).leave p e 10 else s1.setPort p { s1.port p with stranded := some (none, some e) }
    | some (.stranded o e) => s1.setPort p { s1.port p with stranded := some (o, e) }
    | some (.reference c) => s1.setPort p { s1.port p with stranded := some (none, none), strandedCycle := c }
    | none => s1
  let s3 := (s2.busRefresh p).raise (Reg.BP_EVENT_BUS_OFF p)
  let s4 := s3.canvas 10 0x0060 (leBytes 1 p ++ leBytes 1 (s3.fld (Reg.BP_ERRLOG_LEC p)) ++ leBytes 1 (s3.fld (Reg.BP_STATUS_STRANDED p)))
  s4.setFld (Reg.BP_STATUS_STATE p) (if s4.on (Reg.BP_CTRL_AUTO_REC p) then bpRecov else bpBusOff)

/-- R327: the counter of an error code (BP_ERRLOG.LEC). -/
def errCounter (p lec : Nat) : Option Fld :=
  if lec = 1 then some (Reg.BP_CNT_A_STUFF_N p) else if lec = 2 then some (Reg.BP_CNT_B_FORM_N p) else if lec = 3 then some (Reg.BP_CNT_C_ACK_N p)
  else if lec = 4 ∨ lec = 5 then some (Reg.BP_CNT_A_BIT_N p) else if lec = 6 then some (Reg.BP_CNT_B_CRC_N p) else none

/-- R310, R312: TEC and REC after an error, as ISO 11898-1 steps them: a transmitter's by 8, a receiver's by 1, with the standard's exceptions and
its further steps of 8 (PRESUMED, log 41). -/
def State.errStep (s : State) (p : Nat) (e : BusErr) : Nat × Nat :=
  let tec := s.fld (Reg.BP_ERRCNT_TEC p)
  let r := s.recNow p
  if e.ownTx then (tec + (if e.spared then 0 else 8) + 8 * e.more, r) else (tec, r + 1 + 8 * e.more)

/-- R327: a bus error, or a protocol exception (Table 12.1). -/
def State.busError (s : State) (p : Nat) (e : BusErr) : State :=
  let st := s.bpState p
  if st ≠ bpActive ∧ st ≠ bpRestr then s
  else if e.exception then
    let s1 := s.unsend p
    ((s1.setPort p { s1.port p with modeWait := none }).bump (Reg.BP_CNT_C_PEX_N p) 1).setFld (Reg.BP_STATUS_STATE p) bpInteg
  else
    let s1 := ((s.setFld (Reg.BP_ERRLOG_LEC p) e.lec).setBit (Reg.BP_ERRLOG_DATA_PHASE p) e.dataPhase).setBit (Reg.BP_ERRLOG_REF p) e.ownRef
    let s2 := match errCounter p e.lec with | some f => s1.bump f 1 | none => s1
    let s3 := (s2.count (0x050 + p) 1).raiseIf (e.ownRef && (e.inTag && (e.lec == 4 || e.lec == 5))) (Reg.BP_EVENT_REF_DUP p)
    if st = bpRestr then s3
    else
      let c := s3.errStep p e
      let s4 := s3.busErrState p c.1 c.2
      let y := if e.ownTx then (s4.port p).sending else none
      if 255 < c.1 then s4.busOff p y
      else match y with
        | some x => ((((s4.ownEnds p).sendFailed p x false).modeIdle p).refNow p).busRefresh p
        | none => s4

/-! Views (R315, R316, R323). -/

/-- R334: a view names an absent port. -/
def State.busAbsent (s : State) (p : Nat) : Bool := decide (s.variant.buses ≤ p)

def State.viewResult (s : State) (v r : Nat) : State := s.setFld (Reg.BV_STAT_RESULT v) r

/-- Data words of a view from bytes, and back. -/
def State.setViewData (s : State) (v : Nat) (bs : List Byte) : State :=
  (List.range 16).foldl (fun s k => s.setReg (0x5A1020 + 0x80 * (v % 16) + 4 * (k % 16)) (wordAt (padTo 64 bs) k)) s
def State.viewData (s : State) (v : Nat) : List Byte := (List.range 16).flatMap (fun k => leBytes 4 (s.reg (0x5A1020 + 0x80 * v + 4 * k)).toNat)

/-- R316: a transmit object is driven by a loop output. -/
def State.loopDriven (s : State) (p o : Nat) : Bool :=
  s.liveSlots.any (fun n => (List.range 8).any (fun k => decide (s.fld (Reg.SL_OUTCFG_KIND n k) = 5) && decide (s.fld (Reg.SL_OUTCFG_INDEX n k) = 256 * p + o)))

/-- R316: the content of a transmit object, as loaded where nothing has written it. -/
def State.txData (s : State) (p o : Nat) : List Byte :=
  let n := match s.txCfg (128 * p + o) with | some ws => dlcBytes (bit (ws.getD 0 0) 30) (ws.getD 1 0 % 16) | none => 0
  padTo n (s.txObj (128 * p + o)).data

/-- R315: a capture of an object into view `v` for context `c`. -/
def State.capture (s : State) (v c p o : Nat) (tx : Bool) : State :=
  let sup := s.supervisor c
  let a := 0x5A1000 + 0x80 * (v % 16)
  if s.busAbsent p then s.viewResult v 3
  else if tx then
    if 127 < o ∨ ¬ (sup ∨ s.ownerOf (12 + p) o = some c) then s.viewResult v 1
    else match s.txCfg (128 * p + o) with
      | none => s.viewResult v 1
      | some ws =>
        let stranded := decide ((s.port p).stranded = some (some o, none))
        let s1 := (s.setReg (a + 8) (BitVec.ofNat 32 (ws.getD 0 0))).setReg (a + 0xC) (BitVec.ofNat 32 (ws.getD 1 0 % 16 + 64 * b2n stranded))
        let s2 := ((s1.setReg64 (a + 0x10) 0).setReg (a + 0x18) (BitVec.ofNat 32 (ws.getD 0 0 % 2 ^ 30 + 2 ^ 30 * bitsOf (ws.getD 1 0) 4 1 +
          2 ^ 31 * b2n (s1.loopDriven p o)))).setReg (a + 0x1C) 0
        (s2.setViewData v (s2.txData p o)).viewResult v 0
  else if ¬ (sup ∨ s.ownerOf (6 + p) o = some c) then s.viewResult v 1
  else
    let x := s.rxObj (256 * p + o)
    let cfg := (s.rxCfg (256 * p + o)).getD []
    let s1 := (s.setReg (a + 8) (BitVec.ofNat 32 x.hdr)).setReg (a + 0xC) (BitVec.ofNat 32 (x.dlc % 16 + 16 * b2n x.fresh + 32 * b2n x.lost + 128 * b2n x.esi))
    let s2 := ((s1.setReg64 (a + 0x10) x.stamp.toNat).setReg (a + 0x18) (BitVec.ofNat 32 (cfg.getD 0 0 % 2 ^ 31))).setReg (a + 0x1C) (BitVec.ofNat 32 (cfg.getD 1 0 % 2 ^ 29))
    ((s2.setViewData v x.data).setRxObj (256 * p + o) { x with fresh := false, lost := false }).viewResult v 0

/-- R316: a commit of view `v` to a transmit object. -/
def State.viewCommit (s : State) (v c p o : Nat) : State :=
  if s.busAbsent p then s.viewResult v 3
  else if 127 < o ∨ ¬ (s.supervisor c ∨ s.ownerOf (12 + p) o = some c) then s.viewResult v 1
  else match s.txCfg (128 * p + o) with
    | none => s.viewResult v 1
    | some ws =>
      let fdf := bit (ws.getD 0 0) 30
      if s.loopDriven p o then s.viewResult v 4
      else if ¬ fdf ∧ 8 < s.fld (Reg.BV_META_DLC v) then s.viewResult v 5
      else (s.setTxObj (128 * p + o) ((s.txObj (128 * p + o)).put ((s.viewData v).take (dlcBytes fdf (ws.getD 1 0 % 16))) s.ft)).viewResult v 0

/-- R364: a context's enqueue filters cover an identifier on a port. -/
def State.mayEnqueue (s : State) (c p hdr : Nat) : Bool :=
  s.supervisor c || (match s.record 0x0504 c with
    | some r => (List.range (r.words.length / 2)).any (fun i =>
        let id := r.words.getD (2 * i) 0
        let mk := r.words.getD (2 * i + 1) 0
        decide (bitsOf mk 29 3 = p) && (decide (bitsOf id 29 1 = bitsOf hdr 29 1) && decide (((id ^^^ hdr) &&& mk) % 2 ^ 29 = 0)))
    | none => false)

/-- R323: an entry for the event queue of a port: 0 placed, else the result code of Table 13.3. -/
def State.enqueue (s : State) (p : Nat) (e : QEntry) : State × Nat :=
  let fdf := bit e.hdr 30
  if s.busAbsent p then (s, 1)
  else if ¬ s.mayEnqueue e.ctx p e.hdr then (s, 2)
  else if (¬ fdf ∧ (8 < e.dlc ∨ bit e.hdr 31)) ∨ (fdf ∧ ¬ s.on (Reg.BP_DBT_FD_EN p)) then (s, 13)
  else if 16 ≤ (s.port p).queue.length then (s.bump (Reg.BP_CNT_G_QFULL_N p) 1, 9)
  else
    let s1 := (s.setPort p { s.port p with queue := (s.port p).queue ++ [e] }).busRefresh p
    let x := s1.port p
    let idle := x.sending.isNone ∧ x.stranded.isNone ∧ x.modeWait.isNone
    (if x.window.isSome ∧ x.kind = 2 ∧ idle ∧ s1.maySend p then s1.freeNext p 16 else s1, 0)

/-- R323: an enqueue through view `v`. -/
def State.viewEnqueue (s : State) (v c p : Nat) : State :=
  let hdr := (s.reg (0x5A1008 + 0x80 * v)).toNat
  let dlc := s.fld (Reg.BV_META_DLC v)
  let r := s.enqueue p { ctx := c, hdr := hdr, dlc := dlc, oneShot := s.on (Reg.BV_META_ONE_SHOT v), data := (s.viewData v).take (dlcBytes (bit hdr 30) dlc) }
  r.1.viewResult v (if r.2 = 0 then 0 else if r.2 = 1 then 3 else if r.2 = 9 then 2 else if r.2 = 13 then 5 else 1)

/-- A write of BV_SEL of view `v` by context `c` (R315). -/
def State.viewSel (s : State) (v c w : Nat) : State :=
  let p := bitsOf w 0 3
  let o := bitsOf w 3 8
  let op := bitsOf w 12 2
  if op = 1 then s.capture v c p o (bit w 11) else if op = 2 then (if bit w 11 then s.viewCommit v c p o else s.viewResult v (if s.busAbsent p then 3 else 1))
  else if op = 3 then s.viewEnqueue v c p else s

/-- R315: the context that view `v` is assigned to. -/
def State.viewOwner (s : State) (v : Nat) : Option Nat := s.ownerOf 5 v

/-- A write in the bus block by context `c` (R335). -/
def State.bpWrite (s : State) (c a v : Nat) : State :=
  if inRange 0x5A1000 0x5A1800 a then
    if a % 0x80 = 0 then s.viewSel ((a - 0x5A1000) / 0x80) c v else s.writeCodes a v
  else if inRange 0x5A0100 0x5A0700 a ∧ a % 0x100 = 0 then
    let p := (a - 0x5A0100) / 0x100
    if bitsOf v 0 2 = 3 then s.raise (Reg.BP_EVENT_CFG_ERR p)
    else
      let s1 := (s.setFld (Reg.BP_CTRL_AUTO_REC p) (bitsOf v 3 1))
      let s2 := if bitsOf v 0 2 = 0 ∧ s1.fld (Reg.BP_CTRL_MODE p) = 0 then s1 else s1.bpMode p (bitsOf v 0 2)
      let s3 := if bit v 2 then s2.bpRecover p else s2
      if s3.bpState p = bpBusOff ∧ s3.on (Reg.BP_CTRL_AUTO_REC p) then s3.setFld (Reg.BP_STATUS_STATE p) bpRecov else s3
  else s.writeCodes a v

/-- Words of the bus block computed when read: BUS_EVENT.PORT, BP_CYCTIME, and the schedule window (SM_DATA, SM_DATA2). -/
def State.bpRead (s : State) (a : Nat) : Option Nat :=
  if a = 0x5A0004 then
    some ((s.reg a).toNat / 256 * 256 + (List.range 6).foldl (fun m p => m + 2 ^ p * b2n ((s.reg (0x5A010C + 0x100 * p)).toNat % 4096 != 0)) 0)
  else if inRange 0x5A0100 0x5A0700 a then
    let p := (a - 0x5A0100) / 0x100
    let off := a % 0x100
    if off = 4 then (if s.bpState p ≠ bpOff ∧ s.fld (Reg.BP_TT_SYNC p) = 0 then some (putBits (s.reg a).toNat 9 6 (s.cycleNow p).2) else none)
    else if off = 0x58 then some (s.cycleTime p % 2 ^ 20)
    else if off = 0x68 then
      some (if s.on (Reg.SM_IDX_CELL p) then s.cellCfg p (s.fld (Reg.SM_IDX_CYCLE p)) (s.fld (Reg.SM_IDX_WINDOW p)) % 512
        else ((s.winCfg p (s.fld (Reg.SM_IDX_WINDOW p))).getD []).getD 0 0)
    else if off = 0x6C then some (if s.on (Reg.SM_IDX_CELL p) then 0 else ((s.winCfg p (s.fld (Reg.SM_IDX_WINDOW p))).getD []).getD 1 0)
    else none
  else none

/-- R316: a loop output writes 20 bits into a transmit object. -/
def State.busField (s : State) (index field : Nat) (v : Int) : State :=
  let p := index / 256
  let o := index % 256
  let d := s.txData p o
  let old := leAt d field 3
  let w := putBits old 0 20 (unsx 20 v)
  s.setTxObj (128 * p + o) ((s.txObj (128 * p + o)).put (d.take field ++ leBytes 3 w ++ d.drop (field + 3)) s.ft)

/-- R330: the wake matcher of port `p` takes a frame. -/
def State.wakeHit (s : State) (p : Nat) (f : BusFrame) : Bool :=
  s.on (Reg.BP_WAKE_WAKE_EN p) && (!f.fdf && (decide (2000 ≤ s.bitN p) && (decide (f.ide = s.on (Reg.BP_WAKE_WAKE_IDE p)) &&
    (decide ((f.id ^^^ s.fld (Reg.BP_WAKE_WAKE_ID p)) &&& s.fld (Reg.BP_WAKEM_WAKE_MASK p) = 0) &&
      (if f.dlc = 0 then decide (s.fld (Reg.BP_WAKED_WAKE_DMASK p) = 0)
       else decide (((f.data.headD 0).toNat ^^^ s.fld (Reg.BP_WAKED_WAKE_DATA p)) &&& s.fld (Reg.BP_WAKED_WAKE_DMASK p) = 0))))))

end Sys2Proof.Machine
end

