-- ==== Sys2Proof/Machine/LoopRun.lean ====
section
/-! DEFINITION. What a slot's run does (chapter 9): delivery of outputs, the instruction set of Table 9.4, soft-start, the test
generators, the capture buffers, and precise sampling (R440). -/

namespace Sys2Proof.Machine

/-! Outputs (R255, Table 9.6). -/

/-- R255: a value an output delivers, by its kind, and whether the conversion clips it. -/
def outClips (kind : Nat) (v : Int) : Bool := (decide (kind = 2) || (decide (kind = 3) || decide (kind = 4))) && decide (v < 0)

/-- R255: the value of output `p` of slot `n` written and carried to its target. -/
def State.slotDeliver (s : State) (n p : Nat) (v : Int) : State :=
  let kind := s.fld (Reg.SL_OUTCFG_KIND n p)
  let idx := s.fld (Reg.SL_OUTCFG_INDEX n p)
  let s1 := s.slotOut n p v
  let s2 := if outClips kind v then s1.slFlag n 3 else s1
  let u := v.toNat
  let s3 : State :=
    if kind = 1 then s2.setSfld (Reg.SL_SETP_S (idx % 64)) v
    else if kind = 2 then { s2 with lp := { s2.lp with boostCmd := sset (fun _ => 0) s2.lp.boostCmd (idx % 2) u } }
    else if kind = 3 then s2.lsDuty (idx % 32) (2 * u)
    else if kind = 4 then s2.foDuty (idx % 32) (2 * u)
    else if kind = 5 then s2.busField idx (s2.fld (Reg.SL_OUTCFG_FIELD n p)) v
    else if kind = 6 then s2.setSfld (Reg.HOUT_VALUE (idx % 64)) v
    else s2
  s3.newSample 10 (8 * n + p)

/-- R245: each routed output of slot `n` written with its SAFE_VAL. -/
def State.writeSafe (s : State) (n : Nat) : State :=
  (List.range 8).foldl (fun s p => if s.fld (Reg.SL_OUTCFG_KIND n p) = 0 then s else s.slotDeliver n p (s.sfld (Reg.SL_OUTSAFE_SAFE_VAL n p))) s

/-! Slot states (R245, R262, R263, R265). -/

/-- R245: slot `n` goes to STOPPED. -/
def State.slotStop (s : State) (n : Nat) : State :=
  if s.slState n = slStopped then s
  else
    let s1 := (s.setFld (Reg.SL_STATE_STATE n) slStopped).setFld (Reg.SL_STATE_SAFE_CAUSE n) 0
    (s1.setSlot n { s1.slot n with causes := [], late := [] }).writeSafe n

/-- R245: a cause of SAFE falls on slot `n`; SET writes the safe values, and so does IGNORE where an input fault or a runaway moves it. -/
def State.slotSafe (s : State) (n cause : Nat) : State :=
  let st := s.slState n
  let x := s.slot n
  if st = slSoft ∨ st = slRun then
    let s1 := (s.setFld (Reg.SL_STATE_STATE n) slSafe).setFld (Reg.SL_STATE_SAFE_CAUSE n) cause
    let s2 := s1.setSlot n { x with causes := [cause] }
    if s2.fld (Reg.SL_CFG_SAFE_ACT n) = 1 then s2 else s2.writeSafe n
  else if st = slSafe ∧ ¬ x.causes.contains cause then s.setSlot n { x with causes := x.causes ++ [cause] }
  else s

/-- R245: a cause of SAFE has cleared; with none left the slot soft-starts. -/
def State.slotClear (s : State) (n cause : Nat) : State :=
  let x := s.slot n
  if s.slState n = slSafe ∧ x.causes.contains cause then
    let cs := x.causes.filter (· ≠ cause)
    let s1 := s.setSlot n { x with causes := cs }
    if cs.isEmpty then s1.slotSoft n else s1.setFld (Reg.SL_STATE_SAFE_CAUSE n) (cs.headD 0)
  else s

/-- R245, R262: a write of SL_CTRL.EN of slot `n`. -/
def State.slotEn (s : State) (n : Nat) (en : Bool) : State :=
  let s1 := s.setBit (Reg.SL_CTRL_EN n) en
  let st := s1.slState n
  if st = slOff ∨ (s1.boostSlot n).isSome then s1
  else if ¬ en then s1.slotStop n
  else if st = slStopped then s1.slotSoft n
  else if st = slSafe ∧ (s1.slot n).late.isEmpty then s1.slotClear n caInput
  else s1

/-- R245: the slots of boost converter `b` follow its BST_EN. -/
def State.slotsBoost (s : State) (b : Nat) : State :=
  s.liveSlots.foldl (fun s n =>
    if s.boostSlot n = some b then
      (if s.on (Reg.BST_CTRL_BST_EN b) then (if s.slState n = slStopped then s.slotSoft n else s) else s.slotStop n)
    else s) s

/-- R253: ticks between the samples of a source that is sampled steadily: a channel's current, a coil's voltage. -/
def sampleTicks (kind : Nat) : Option Nat := if kind = 1 then some 8000 else if kind = 2 then some 2000 else none

/-- R253: ticks between the samples that input port `p` of slot `n` takes steadily, while its channel's die is heard. -/
def State.steady (s : State) (n p : Nat) : Option Nat :=
  if s.dieUp (dieOf (s.fld (Reg.SL_IN_INDEX n p))) then sampleTicks (s.fld (Reg.SL_IN_KIND n p)) else none

/-- R247, R253: the steadily sampled input ports at a trigger: one is fresh where a sample came since the one that the slot knew. -/
def State.steadyFresh (s : State) (n : Nat) (now : Time) : SlotState :=
  (List.range 16).foldl (fun x p => match s.steady n p with
    | some g =>
      let at' : Time := now - BitVec.ofNat 64 (now.toNat % g)
      if x.sampled.any (fun e => decide (e.1 = p) && decide (tdiff at' e.2 ≤ 0)) then x
      else { x with fresh := if x.fresh.contains p then x.fresh else x.fresh ++ [p], sampled := (x.sampled.filter (fun e => decide (e.1 ≠ p))) ++ [(p, at')] }
    | none => x) (s.slot n)

/-- R253: input port `p` of slot `n` has had no sample for its TMO × 100 µs. -/
def State.sampleLate (s : State) (n p : Nat) : Bool :=
  (s.steady n p).isNone && match (s.slot n).sampled.find? (fun e => decide (e.1 = p)) with
  | some e => decide ((s.fld (Reg.SL_IN_TMO n p) * 800000 : Nat) ≤ tdiff s.ft e.2)
  | none => false

/-- R262: input port `p` of slot `n` had no new sample for its TMO. -/
def State.inputTimeout (s : State) (n p : Nat) : State :=
  let st := s.slState n
  if (st = slSoft ∨ st = slRun ∨ st = slSafe) ∧ s.fld (Reg.SL_IN_TMO n p) ≠ 0 ∧ s.sampleLate n p then
    let x := s.slot n
    let s1 := (s.setSlot n { x with late := if x.late.contains p then x.late else x.late ++ [p] }).slFlag n 5
    let s2 := s1.slotSafe n caInput
    if st = slSafe then s2 else s2.raise Reg.LP_EVENT_INFAULT
  else s

/-- R263: the stop paths. -/
def State.loopsStop (s : State) : State :=
  s.liveSlots.foldl (fun s n => if s.on (Reg.SL_CFG_STOP_ACT n) ∧ s.fld (Reg.SL_CFG_SAFE_ACT n) ≠ 2 then s.slotSafe n caStop else s) s

/-- R263: entry to held-safe. -/
def State.loopsHeld (s : State) : State :=
  s.liveSlots.foldl (fun s n => if s.fld (Reg.SL_CFG_SAFE_ACT n) ≠ 2 then s.slotSafe n caHeld else s) s

/-- R263: the stop, or held-safe, has cleared. -/
def State.loopsRelease (s : State) (held : Bool) : State := s.liveSlots.foldl (fun s n => s.slotClear n (if held then caHeld else caStop)) s

/-- R265: a debug halt begins. -/
def State.loopsHalt (s : State) : State :=
  let s1 := s.setFld Reg.LP_STATUS_HALTED 1
  if s1.on Reg.DBG_CFG_HALT_OFF then
    s1.liveSlots.foldl (fun s n => if s.fld (Reg.SL_CFG_SAFE_ACT n) ≠ 2 then s.slotSafe n caDebug else s) s1
  else s1

/-- R265: a debug halt ends. -/
def State.loopsResume (s : State) : State :=
  let s1 := s.setFld Reg.LP_STATUS_HALTED 0
  s1.liveSlots.foldl (fun s n =>
    let x := s.slot n
    let s2 := if s.on Reg.DBG_CFG_HALT_OFF then s else s.setSlot n { x with due := [], earliest := s.ft }
    s2.slotClear n caDebug) s1

/-! The run of a program (R246–R249). -/

/-- What a run carries: working register, accumulators, program address, instruction times so far, times up to the last OUT, and
whether END came. -/
structure Run where
  s : State
  x : Int := 0
  a : Int := 0
  b : Int := 0
  pc : Nat
  times : Nat := 0
  out : Option Nat := none
  ended : Bool := false

/-- What stays the same through a run: slot, trigger, the test generator's value if it drives the slot, and whether the run is captured. -/
structure RunEnv where
  n : Nat
  trigger : Time
  test : Option Int
  rec' : Bool

/-- R246: an accumulator sum. -/
def Run.sat40 (r : Run) (n : Nat) (v : Int) : Run × Int :=
  let w := satI 40 v
  (if w = v then r else { r with s := r.s.slFlag n 0 }, w)

/-- R246: the product of a data word and a coefficient word. -/
def coefMul (d : Int) (cw : Nat) : Int := d * sx 16 cw * 2 ^ bitsOf cw 16 4

def Run.mul (r : Run) (n : Nat) (d : Int) (cw : Nat) : Run × Int := r.sat40 n (coefMul d cw)

/-- R246: the store of an accumulator, rounding half up. -/
def Run.st (r : Run) (n : Nat) (a : Int) : Run × Int :=
  let v := (a + 2 ^ 14) / 2 ^ 15
  let w := satI 20 v
  (if w = v then r else { r with s := r.s.slFlag n 1 }, w)

def Run.d (r : Run) (n i : Nat) : Int := r.s.sfld (Reg.DATA_D n (i % 64))
def Run.setD (r : Run) (n i : Nat) (v : Int) : Run := { r with s := r.s.setSfld (Reg.DATA_D n (i % 64)) v }
def Run.c (r : Run) (n i : Nat) : Nat := r.s.fld (Reg.COEF_C n (i % 64))

/-- A += v. -/
def Run.add (r : Run) (n : Nat) (v : Int) : Run :=
  let p := r.sat40 n (r.a + v); { p.1 with a := p.2 }

/-- A sum of products, each sum sat40 (R248). -/
def Run.macs (r : Run) (n : Nat) (acc : Int) : List (Int × Nat) → Run × Int
  | [] => (r, acc)
  | (d, cw) :: ts =>
    let p := r.mul n d cw
    let q := p.1.sat40 n (acc + p.2)
    q.1.macs n q.2 ts

/-- `v` held within limits, setting LIM where they act (R247, R248). -/
def Run.lim (r : Run) (n : Nat) (v lo hi : Int) : Run × Int :=
  let w := min (max v lo) hi
  (if w = v then r else { r with s := r.s.slFlag n 2 }, w)

/-- R248: a compensator of order `k`. -/
def Run.comp (r : Run) (n k c d : Nat) : Run :=
  let es := (List.range k).map (fun i => r.d n (d + i))
  let ys := (List.range k).map (fun i => r.d n (d + k + i))
  let terms := (r.x :: es ++ ys).mapIdx (fun i v => (v, r.c n (c + i)))
  let p := r.macs n 0 terms
  let q := p.1.st n p.2
  let r2 := q.1
  let y0 := q.2
  let lo := r2.d n (d + 2 * k)
  let hi := r2.d n (d + 2 * k + 1)
  let y1 := if hi < y0 then hi else y0
  let y := if y1 < lo then lo else y1
  let r3 := if hi < y0 ∨ y1 < lo then { r2 with s := r2.s.slFlag n 2 } else r2
  let r4 := ((r3.x :: es.take (k - 1)) ++ (y :: ys.take (k - 1))).zipIdx.foldl (fun r e => r.setD n (d + e.2) e.1) r3
  { r4 with x := y }

/-- A 40-bit value in two data words. -/
def Run.wide (r : Run) (n d : Nat) : Int := r.d n d * 2 ^ 20 + (unsx 20 (r.d n (d + 1)) : Int)
def Run.setWide (r : Run) (n d : Nat) (v : Int) : Run := (r.setD n d (v / 2 ^ 20)).setD n (d + 1) (v % 2 ^ 20)

/-- R256, R257: the position counter of slot `n`. -/
def State.posSrc (s : State) (n : Nat) : Nat := s.fld (Reg.SL_SPCFG_POS_SRC n)

/-- R257: the table value at the slot's position; 0 while the counter's VALID is 0. -/
def State.slotTable (s : State) (n t : Nat) (now : Time) : Int :=
  let k := s.posSrc n
  if s.on (Reg.PC_STAT_VALID k) then s.tableAt t (s.counterPos k now) else 0

/-- R261: X into the core's capture buffer. -/
def State.capPut (s : State) (c : Nat) (x : Int) : State :=
  let w := s.fld (Reg.CP_COUNT_WORDS c)
  if s.on (Reg.CP_CTRL_ARM c) ∧ w < 8192 then
    let s1 : State := { s with lp := { s.lp with capture := sset (fun _ => 0) s.lp.capture (8192 * c + w) (BitVec.ofNat 32 (unsx 20 x)) } }
    let s2 := s1.setFld (Reg.CP_COUNT_WORDS c) (w + 1)
    if w + 1 = 8192 then ((s2.setFld (Reg.CP_CTRL_FULL c) 1).setFld (Reg.CP_CTRL_ARM c) 0).raise Reg.LP_EVENT_CAP_DONE else s2
  else s

/-- Instruction times of an operation (Table 9.4). -/
def opTimes (op : Nat) : Nat :=
  if op = 0x19 then 4 else if op = 0x1D then 5 else if op = 0x1E then 7 else if op = 0x1F ∨ op = 0x20 then 2 else 1

/-- One instruction's effect (Table 9.4); `r.pc` already names the next one. -/
def Run.effect (r : Run) (e : RunEnv) (w : Nat) : Run :=
  let n := e.n
  let d := w % 64
  let c := bitsOf w 8 6
  match bitsOf w 14 6 with
  | 0x01 => { r with ended := true }
  | 0x02 => { r with x := r.d n d }
  | 0x03 => r.setD n d r.x
  | 0x04 => { r with x := sx 14 w * 64 }
  | 0x05 =>
    let x := r.s.slot n
    { r with x := r.s.slotInput n (w % 16) e.trigger, s := r.s.setSlot n { x with fresh := x.fresh.filter (· ≠ w % 16) } }
  | 0x06 => { r with s := r.s.slotDeliver n (w % 8) r.x, out := some r.times }
  | 0x07 => { r with x := r.s.sfld (Reg.SL_RAMP_R n) }
  | 0x08 => { r with x := sx 20 (r.s.counterPos (r.s.posSrc n) e.trigger) }
  | 0x09 => { r with x := r.s.counterVel (r.s.posSrc n) e.trigger }
  | 0x0A => let p := r.st n r.a; { p.1 with x := p.2 }
  | 0x0B => { r with a := r.d n d * 2 ^ 15 }
  | 0x0C => let p := r.st n r.a; p.1.setD n d p.2
  | 0x0D => { r with a := r.wide n d }
  | 0x0E => r.setWide n d r.a
  | 0x0F => { r with b := r.a }
  | 0x10 => { r with a := r.b, b := r.a }
  | 0x11 => { r with a := 0 }
  | 0x12 => r.add n (r.d n d * 2 ^ 15)
  | 0x13 => r.add n (-(r.d n d * 2 ^ 15))
  | 0x14 => r.add n (r.x * 2 ^ 15)
  | 0x15 => r.add n (-(r.x * 2 ^ 15))
  | 0x16 => let p := r.mul n (r.d n d) (r.c n c); p.1.add n p.2
  | 0x17 => let p := r.mul n r.x (r.c n c); p.1.add n p.2
  | 0x18 => { r with a := r.x * r.d n d / 2 ^ 4 }
  | 0x19 =>
    let v := r.d n d
    if v = 0 then { r with x := if 0 ≤ r.a then 0x7FFFF else -0x80000, s := r.s.slFlag n 6 }
    else { r with x := satI 20 ((r.a * 16).tdiv v) }
  | 0x1A =>
    let k := sx 6 w
    if k < 0 then { r with a := r.a / 2 ^ (-k).toNat }
    else let p := r.sat40 n (r.a * 2 ^ k.toNat); { p.1 with a := p.2 }
  | 0x1B => let p := r.sat40 n r.a.natAbs; { p.1 with a := p.2 }
  | 0x1C => let p := r.lim n r.a (r.d n d * 2 ^ 15) (r.d n (d + 1) * 2 ^ 15); { p.1 with a := p.2 }
  | 0x1D => r.comp n 2 c d
  | 0x1E => r.comp n 3 c d
  | 0x1F =>
    let p := r.mul n (satI 20 (r.x - r.d n d)) (r.c n c)
    let y := p.1.st n (wrapI 40 (r.d n d * 2 ^ 15 + p.2))
    { y.1.setD n d y.2 with x := y.2 }
  | 0x20 =>
    let p := r.mul n r.x (r.c n c)
    let q := p.1.sat40 n (r.wide n d + p.2)
    let v := q.1.lim n q.2 (r.d n (d + 2) * 2 ^ 15) (r.d n (d + 3) * 2 ^ 15)
    let y := (v.1.setWide n d v.2).st n v.2
    { y.1 with x := y.2 }
  | 0x21 =>
    let p := r.mul n (satI 20 (r.x - r.d n d)) (r.c n c); { p.1.setD n d r.x with a := p.2 }
  | 0x22 => { r with x := r.s.slotTable n (bitsOf w 10 4) e.trigger }
  | 0x23 => { r with x := satI 20 (r.s.slotTable n (bitsOf w 10 4) e.trigger * (r.d n d).sign) }
  | 0x24 => match e.test with | some v => r.add n (v * 2 ^ 15) | none => r
  | 0x25 => if e.rec' then { r with s := r.s.capPut (n / 8) r.x } else r
  | 0x26 => { r with pc := w % 4096 }
  | 0x27 => if r.a < 0 then { r with pc := w % 4096 } else r
  | 0x28 => if (r.s.slot n).fresh.contains (bitsOf w 10 4) then r else { r with pc := r.pc + w % 256 }
  | 0x29 => { r with s := r.s.slFlag n (8 + w % 8) }
  | _ => r

/-- R440: the PRBS7 register of the sampling jitter advanced once. -/
def prbs7 (v : Nat) : Nat := (2 * v + b2n (bit v 6 != bit v 5)) % 128

/-- R440: instruction times counted on a run of slot `n`; the sample of the instruction at `a` that ends there. -/
def State.sampleTimes (s : State) (n a op t : Nat) (trigger : Time) (total : Nat) : State :=
  let c := n / 8
  if s.on Reg.SMP_CTRL_EN ∧ ¬ s.on Reg.SMP_COUNT_FULL ∧ s.fbit Reg.SMP_CTRL_CORES c ∧ (¬ s.on Reg.SMP_CTRL_SLOT_EN ∨ s.fld Reg.SMP_CTRL_SLOT = n) then
    let gap := s.fld Reg.SMP_PERIOD_PERIOD + (if s.on Reg.SMP_CTRL_JITTER then s.rc.prbs % 16 else 0)
    let k := s.rc.smpCount + t
    if k < gap then { s with rc := { s.rc with smpCount := k } }
    else
      let i := s.fld Reg.SMP_COUNT_COUNT
      let from' := min (Config.runTicks s.free) (3600 + 80 * total)
      let lat := min (Config.runTicks (s.free + 1)) (80 * t)
      let bs := leBytes 5 (trigger + BitVec.ofNat 64 from').toNat ++ leBytes 1 n ++ leBytes 2 a ++ leBytes 1 op ++ leBytes 1 0 ++ leBytes 2 (satU 16 lat) ++ leBytes 4 (satU 24 from')
      let s1 := (List.range 4).foldl (fun s w => s.setFld (Reg.SMP_BUF_DATA i w) (leAt bs (4 * w) 4)) s.tick.tick
      let s2 : State := { s1 with rc := { s1.rc with smpCount := k - gap, prbs := prbs7 s1.rc.prbs } }
      let s3 := s2.setFld Reg.SMP_COUNT_COUNT (i + 1)
      if i + 1 = 1024 then (s3.setFld Reg.SMP_COUNT_FULL 1).raise Reg.REC_EVENT_SMP_FULL else s3
  else s

/-- One instruction: fetched, counted, taken; a run of 1,024 times without END is stopped (R249). -/
def Run.step (r : Run) (e : RunEnv) : Run :=
  let w := r.s.fld (Reg.PROG_INSTR (e.n / 8) (r.pc % 4096))
  let op := bitsOf w 14 6
  let t := opTimes op
  let r1 := ({ r with pc := r.pc + 1, times := r.times + t } : Run).effect e w
  { r1 with s := r1.s.sampleTimes e.n (r.pc % 4096) op t e.trigger r1.times }

/-- R249: the program from `r.pc` until END, or until 1,024 instruction times have passed. -/
def Run.go (e : RunEnv) : Nat → Run → Run
  | 0, r => r
  | f + 1, r => if r.ended ∨ 1024 ≤ r.times then r else Run.go e f (r.step e)

/-! Test generators (R260). -/

/-- Register length and second tap of the PRBS of an ORDER. -/
def prbsShape (order : Nat) : Nat × Nat :=
  if order = 0 then (7, 6) else if order = 1 then (9, 5) else if order = 2 then (11, 9) else if order = 3 then (15, 14) else (23, 18)

/-- 2π in units of 2^-60. -/
def twoPi : Int := 7244019458077122842

/-- The sine of a phase in 2^-32 cycle, in units of 2^-60. -/
def sinPhase (ph : Nat) : Int :=
  let q : Nat := ph % 2 ^ 32
  let h : Nat := q % 2 ^ 31
  let g : Nat := if h ≤ 2 ^ 30 then h else 2 ^ 31 - h
  let v := fsin (twoPi * (g : Int) / 2 ^ 32)
  if q < 2 ^ 31 then v else -v

/-- R260: a sine value: any number within 2 LSB of the exact product. -/
def sineValue (amp : Int) (ph : Nat) (dev : Int) : Int :=
  let x := amp * sinPhase ph
  let eps : Int := 2 ^ 40
  clampI (-((2 * 2 ^ 60 + eps - x) / 2 ^ 60)) ((x + 2 * 2 ^ 60 + eps) / 2 ^ 60) (x / 2 ^ 60 + dev)

/-- R260: the value the generator of core `c` gives its slot in this run. -/
def State.testValue (s : State) (c : Nat) : Int :=
  let k := s.core c
  let amp := s.sfld (Reg.TG_AMP_AMP c)
  let kind := s.fld (Reg.TG_CTRL_KIND c)
  if kind = 0 then amp
  else if kind = 1 then (if bit k.prbs ((prbsShape (s.fld (Reg.TG_CTRL_ORDER c))).1 - 1) then amp else -amp)
  else sineValue amp k.phase (Config.sineDev s.free)

/-- R260: the generator of core `c` after the run of its slot, at its end with TEST_DONE. -/
def State.testStep (s : State) (c : Nat) : State :=
  let k := s.core c
  let i := k.runs.getD 0
  let kind := s.fld (Reg.TG_CTRL_KIND c)
  let dur := s.fld (Reg.TG_DUR_DUR c)
  let shape := prbsShape (s.fld (Reg.TG_CTRL_ORDER c))
  let adv := kind = 1 ∧ (i + 1) % max 1 (s.fld (Reg.TG_CTRL_HOLD c)) = 0
  let prbs := if adv then (2 * k.prbs + b2n (bit k.prbs (shape.1 - 1) != bit k.prbs (shape.2 - 1))) % 2 ^ shape.1 else k.prbs
  let f0 : Int := s.fld (Reg.TG_F0_INC c)
  let f1 : Int := s.fld (Reg.TG_F1_INC c)
  let inc : Int := if kind = 3 ∧ dur ≠ 0 then f0 + ((f1 - f0) * i).tdiv dur else f0
  let s1 := (s.setCore c { k with runs := some (i + 1), prbs := prbs, phase := (((k.phase : Int) + inc) % (2 : Int) ^ 32).toNat }).tick
  if dur ≤ i + 1 then
    let s2 := ((s1.setFld (Reg.TG_CTRL_RUN c) 0).setFld (Reg.TG_CTRL_DONE c) 1).raise Reg.LP_EVENT_TEST_DONE
    let k2 := s2.core c
    if s2.on (Reg.CP_CTRL_ARM c) ∧ s2.on (Reg.CP_CTRL_WITH_TEST c) ∧ ¬ k2.ended ∧ k2.seen ≠ 0 then
      (s2.setCore c { k2 with ended := true }).raise Reg.LP_EVENT_CAP_DONE
    else s2
  else s1

/-- R260: a write of TG_CTRL of core `c`. -/
def State.testWrite (s : State) (c v : Nat) : State :=
  if 4 < bitsOf v 7 3 ∨ bitsOf v 10 8 = 0 then s.raise Reg.LP_EVENT_CFG_ERR
  else
    let s1 := s.writeCodes (0x540100 + 0x40 * (c % 8)) v
    if bit v 5 then
      let m := (prbsShape (bitsOf v 7 3)).1
      (s1.setFld (Reg.TG_CTRL_DONE c) 0).setCore c { s1.core c with runs := none, prbs := 2 ^ m - 1, phase := 0 }
    else s1

/-- R261: a write of CP_CTRL of core `c`. -/
def State.captureWrite (s : State) (c v : Nat) : State :=
  if bitsOf v 6 8 = 0 then s.raise Reg.LP_EVENT_CFG_ERR
  else
    let s1 := s.writeCodes (0x540114 + 0x40 * (c % 8)) v
    if bit v 3 then
      ((s1.setFld (Reg.CP_CTRL_FULL c) 0).setFld (Reg.CP_COUNT_WORDS c) 0).setCore c { s1.core c with seen := 0, ended := false }
    else s1

/-! A trigger (R249, R250). -/

/-- R252: one step of a ramp toward a setpoint, without overshoot. -/
def rampTo (r t : Int) (slew : Nat) : Int := if r < t then min (r + slew) t else max (r - slew) t

/-- R252: the ramped setpoint of slot `n` at a trigger. -/
def State.rampStep (s : State) (n : Nat) (now : Time) : State :=
  let S := s.setpoint n
  let x := s.slot n
  let r := s.sfld (Reg.SL_RAMP_R n)
  let ss := s.fld (Reg.SL_SSLEW_SLEW n)
  let sp := s.fld (Reg.SL_SPSLEW_SLEW n)
  let soft := s.slState n = slSoft
  let r1 : Int :=
    if s.fld (Reg.SL_SPCFG_SP_SRC n) = 3 then S
    else if soft then
      (if ss = 0 then S else if x.entering then r else if S ≠ x.lastS then s.slotInput n 0 now else rampTo r S ss)
    else if sp = 0 then S else rampTo r S sp
  let s1 := (s.setSlot n { x with entering := false, lastS := S }).setSfld (Reg.SL_RAMP_R n) r1
  if soft ∧ r1 = S then s1.setFld (Reg.SL_STATE_STATE n) slRun else s1

/-- R250, R265: slot `n` answers triggers; none runs without a lane (Table 15.2), not even one with SAFE_ACT IGNORE, whose state a hold does
not move (R245). -/
def State.slotReady (s : State) (n : Nat) : Bool :=
  decide (n < 64) && (decide (s.fld Reg.RES_STATE_STATE ≠ 3) && s.slotLive n && (!(s.on Reg.LP_STATUS_HALTED && !s.on Reg.DBG_CFG_HALT_OFF) &&
    (decide (s.fld (Reg.SL_CFG_TRIG n) ≠ 2) || s.slotLive (s.fld (Reg.SL_CFG_TRIG_SRC n)))))

/-- R250: the trigger that slot `n` takes, and the slot with it taken: a timer's instant, an instant of steady sampling, or the oldest
that is due. `t` names the instant of the first two. -/
def State.slotTrigger (s : State) (n : Nat) (t : Time) : Option (Time × SlotState) :=
  let x := s.slot n
  let trig := s.fld (Reg.SL_CFG_TRIG n)
  let inTime := tge t x.earliest && tge s.ft t
  let due := match x.due with
    | d :: r => if tge s.ft d then some (d, { x with due := r }) else none
    | [] => none
  if trig = 0 then
    let per := 8000 * s.fld (Reg.SL_TIMER_TPER n)
    if inTime ∧ t.toNat % per = 8000 * s.fld (Reg.SL_TIMER_TOFS n) % per then some (t, { x with earliest := t + 1 }) else none
  else if trig = 1 then
    match s.steady n (s.fld (Reg.SL_CFG_TRIG_SRC n)) with
    | some g => if inTime ∧ t.toNat % g = 0 then some (t, { x with due := [], earliest := tadd t g }) else none
    | none => due
  else due

/-- R250: a run of slot `n` has completed at `t`; a child whose DIV-th it is has a trigger due. -/
def State.parentRan (s : State) (n : Nat) (t : Time) : State :=
  s.liveSlots.foldl (fun s k =>
    if s.slotLive k ∧ s.fld (Reg.SL_CFG_TRIG k) = 2 ∧ s.fld (Reg.SL_CFG_TRIG_SRC k) = n then
      let x := s.slot k
      s.setSlot k (if s.fld (Reg.SL_CFG_DIV k) ≤ x.parentRuns then { x with parentRuns := 0, due := x.due ++ [t] }
                   else { x with parentRuns := x.parentRuns + 1 })
    else s) s

/-- R250: a trigger dropped while the slot is still in its previous run. -/
def State.slotOverrun (s : State) (n : Nat) : State :=
  (((s.slFlag n 4).bump (Reg.SL_OVR_OVR_N n) 1).raise Reg.LP_EVENT_OVERRUN).count (0x090 + n / 8) 1

/-- R249: the run of slot `n` at `trigger`: setpoint and ramp, cleared registers, the program until END. -/
def State.slotProgram (s : State) (n : Nat) (trigger : Time) : State :=
  let c := n / 8
  let s1 := (s.setSlot n (s.steadyFresh n trigger)).rampStep n trigger
  let driven := s1.on (Reg.TG_CTRL_RUN c) && decide (s1.fld (Reg.TG_CTRL_SLOT c) = n % 8)
  let k := s1.core c
  let live := driven && decide (k.runs.getD 0 < s1.fld (Reg.TG_DUR_DUR c))
  let may := s1.on (Reg.CP_CTRL_ARM c) && (decide (s1.fld (Reg.CP_CTRL_SLOT c) = n % 8) && (!k.ended &&
    (!s1.on (Reg.CP_CTRL_WITH_TEST c) || (driven || (s1.on (Reg.TG_CTRL_RUN c) && k.runs.isSome)))))
  let rec' := may && decide (k.seen % max 1 (s1.fld (Reg.CP_CTRL_DECIM c)) = 0)
  let s2 := if may ∧ k.seen = 0 then s1.setReg64 (0x54011C + 0x40 * (c % 8)) trigger.toNat else s1
  let s3 := if may then s2.setCore c { k with seen := k.seen + 1 } else s2
  let e : RunEnv := { n := n, trigger := trigger, test := if live then some (s3.testValue c) else none, rec' := rec' }
  let r := Run.go e 1024 { s := s3, pc := s3.fld (Reg.SL_CFG_ENTRY n) }
  let x := r.s.slot n
  let done := trigger + BitVec.ofNat 64 (min (Config.runTicks r.s.free) (3600 + 80 * r.times))
  let s4 := (r.s.setSlot n { x with x := r.x, a := r.a, b := r.b, fresh := [], busy := some done }).tick
  let s5 := match r.out with
    | some t =>
      let lat := satU 16 (min (Config.runTicks s4.free) (3600 + 80 * t))
      ((s4.setFld (Reg.SL_LAT_LAST_LAT n) lat).setFld (Reg.SL_LAT_MAX_LAT n) (max lat (s4.fld (Reg.SL_LAT_MAX_LAT n)))).tick
    | none => s4
  let s6 := if driven then s5.testStep c else s5
  let s7 := (s6.count (0x080 + c) 1).count (0x088 + c) r.times
  if r.ended then (s7.bumpWrap (Reg.SL_RUNS_RUNS n) 1).parentRan n done
  else ((s7.slFlag n 7).slotSafe n caRunaway).raise Reg.LP_EVENT_RUNAWAY

/-- R249, R250: SLOT_RUN of slot `n`: its next trigger is taken, and answered with a run or dropped as an overrun. -/
def State.slotRun (s0 : State) (n : Nat) (t : Time) : State :=
  let s := s0.loopSettle
  if s.slotReady n then
    match s.slotTrigger n t with
    | none => s
    | some (trigger, x) =>
      let s1 := s.setSlot n x
      if x.busy.any (fun d => !tge trigger d) then s1.slotOverrun n else s1.slotProgram n trigger
  else s

/-! Registers (R267). -/

/-- R255: writes of the block, after the check of rights. A write of SL_CTRL with CLR_STATE outside STOPPED takes its EN and then its
COEF_COMMIT all the same, and sets CFG_ERR for CLR_STATE alone (DESIGN CHOICE, log 37). -/
def State.lpWrite (s0 : State) (a v : Nat) : State :=
  let s := s0.loopSettle
  let v20 := BitVec.ofNat 32 (v % 2 ^ 20)
  if a = 0x540010 then s.tableCommit (v % 2 ^ 16)
  else if inRange 0x540100 0x540300 a then
    let c := (a - 0x540100) / 0x40
    let off := (a - 0x540100) % 0x40
    if off = 0 then s.testWrite c v else if off = 0x14 then s.captureWrite c v else s.writeCodes a v
  else if inRange 0x540400 0x540500 a then
    (s.setReg a v20).newSample 9 ((a - 0x540400) / 4)
  else if inRange 0x541000 0x545000 a then
    let n := (a - 0x541000) / 0x100
    let off := (a - 0x541000) % 0x100
    if off = 0 then
      let s1 := s.slotEn n (bit v 0)
      let s2 := if bit v 1 then s1.coefCommit n else s1
      if bit v 2 then s2.clrState n else s2
    else if off = 0xC then
      (if s.fld (Reg.SL_SPCFG_SP_SRC n) = 0 then s.setReg a v20 else s.raise Reg.LP_EVENT_CFG_ERR)
    else s.writeCodes a v
  else if inRange 0x548000 0x54C000 a then
    let k := (a - 0x548000) / 4
    { s with lp := { s.lp with tableStaged := sset (fun _ => none) s.lp.tableStaged k (if s.reg a = v20 then none else some v20) } }
  else if inRange 0x57C000 0x580000 a then
    let k := (a - 0x57C000) / 4
    { s with lp := { s.lp with coefStaged := sset (fun _ => none) s.lp.coefStaged k (if s.reg a = v20 then none else some v20) } }
  else s.writeCodes a v

/-- Words of the block computed when read. -/
def State.lpWords (s : State) (a : Nat) : Option Nat :=
  if a = 0x540000 then
    some ((s.liveSlots.filter (fun n => decide (s.slState n = slSoft) || decide (s.slState n = slRun))).length + 128 * s.fld Reg.LP_STATUS_HALTED)
  else if a = 0x540008 ∨ a = 0x54000C then
    let k := (a - 0x540008) / 4
    some ((List.range 32).foldl (fun m i => if s.reg (0x541008 + 0x100 * (32 * k + i)) = 0 then m else m + 2 ^ i) 0)
  else if inRange 0x540300 0x540400 a then
    let k := (a - 0x540300) / 0x20
    let off := (a - 0x540300) % 0x20
    if off = 0xC then some (s.counterPos k s.ft) else if off = 0x10 then some (unsx 20 (s.counterVel k s.ft)) else none
  else if inRange 0x541000 0x545000 a ∧ (a - 0x541000) % 0x100 = 0xC then some (unsx 20 (s.setpoint ((a - 0x541000) / 0x100)))
  else if inRange 0x570000 0x578000 a then some (sget (fun _ => (0 : Word)) s.lp.capture (8192 * s.fld Reg.LP_CAPVIEW_CORE + (a - 0x570000) / 4)).toNat
  else none

/-- Words of the block as a read finds them: commits whose runs are over have been made. -/
def State.lpRead (s : State) (a : Nat) : Option Nat :=
  if inRange 0x540000 0x580000 a then (let t := s.loopSettle; some ((t.lpWords a).getD (t.readCodes a))) else none

end Sys2Proof.Machine
end

