-- ==== Sys2Proof/Machine/Fire.lean ====
section
/-! DEFINITION. The fire stage and the valve channels' edges (chapters 6 and 7): firing at the due time (R24, R151, R163, R164),
pre-flux (R185), search windows and their seals (R188–R192), debug halt (R208, R265, R468). -/

namespace Sys2Proof.Machine

/-! Seals of a valve channel. -/

/-- CH_SEAL: the last seal of channel `n`. -/
def State.chanSeal (s : State) (n kind code : Nat) (m : Nat) : State :=
  (((s.setFld (Reg.VCH_SEAL_CODE n) code).setFld (Reg.VCH_SEAL_KIND n) kind).setFld (Reg.VCH_SEAL_M n) m)

/-- A FIRED edge of channel `n` sealed with a code and, where one was found, its seat. -/
def State.sealValve (s : State) (n i kind code : Nat) (seat : Option Time) : State :=
  let m := match s.entry i, seat with | some e, some t => unsx 20 (min (measured t e.due) 0xFFFFF) | _, _ => 0
  let s1 := if code = sUnseated then s.bump (Reg.VCH_CNT_UNSEATED_N n) 1 else s
  (s1.chanSeal n kind code m).sealEntry i code seat

/-- CH_KPEAK after a window (R189, R190); a value outside the field is a free value. -/
def State.setPeak (s : State) (n : Nat) (v : Int) : State :=
  if 0 ≤ v ∧ v < 2 ^ 20 then s.setFld (Reg.VCH_KPEAK_PEAK n) v.toNat
  else (s.setFld (Reg.VCH_KPEAK_PEAK n) (Config.kpeak s.free)).tick

/-- What the dip search holds (R189): largest sum, smallest since the drop with its place, and the place of the seat. -/
structure Dip where
  pk : Int := -(2 ^ 21)
  mn : Int := 0
  at' : Nat := 0
  drop : Bool := false
  found : Option Nat := none

/-- R189: one sum `cs` ending at sample `n`. -/
def dipStep (thr : Nat) (d : Dip) (n : Nat) (cs : Int) : Dip :=
  if d.found.isSome then d
  else if ¬ d.drop then
    let pk := max d.pk cs
    if 4 * (thr : Int) ≤ pk - cs then { d with pk := pk, drop := true, mn := cs, at' := n } else { d with pk := pk }
  else
    let d1 := if cs < d.mn then { d with mn := cs, at' := n } else d
    if 2 * (thr : Int) ≤ cs - d1.mn then { d1 with found := some d1.at' } else d1

/-- R189: the search over current samples; sample `n` is the last of its sum. -/
def dipGo (thr : Nat) : Nat → List Int → Dip → Dip
  | n, a :: b :: c :: e :: l, d => dipGo thr (n + 1) (b :: c :: e :: l) (dipStep thr d n (a + b + c + e))
  | _, _, d => d

/-- R190: sums of four voltage samples in a row. -/
def fours : List Int → List Int
  | a :: b :: c :: e :: l => (a + b + c + e) :: fours (b :: c :: e :: l)
  | _ => []

/-- R190: the second differences at span `k`. -/
def bends (k : Nat) (v : List Int) : List Int :=
  let vs := fours v
  List.zipWith (fun x y => y + x) (List.zipWith (fun a b => a - 2 * b) vs (vs.drop k)) (vs.drop (2 * k))

/-- The largest of a list and the first place it stands at. -/
def largest (l : List Int) : Option (Int × Nat) :=
  (l.zipIdx).foldl (fun (m : Option (Int × Nat)) e => match m with
    | some (v, _) => if v < e.1 then some e else m
    | none => some e) none

/-- R188: the start of a window. -/
def winStart (w : SealWin) : Time :=
  tadd w.f (2000 * (w.a - 40 * w.pre) : Nat)

/-- The first multiple of `step` ticks at or after `t` (R187). -/
def sampleFrom (t : Time) (step : Nat) : Time :=
  let r := t.toNat % step
  if r = 0 then t else t + BitVec.ofNat 64 (step - r)

/-- The samples of a window: those taken before its end. -/
def inWindow {α : Type} (from' we : Time) (step : Nat) (xs : List α) : List α := xs.take ((tdiff we from' + step - 1) / step).toNat

/-- R189: the opening search: seat and depth. -/
def State.dip (s : State) (n : Nat) (w : SealWin) (samples : List Sample) : Option Time × Option Int :=
  let t0 := sampleFrom (winStart w) 8000
  let cs := (inWindow t0 w.we 8000 samples).map (·.i)
  let d := dipGo (s.fld (Reg.PF_DIP_DIP_THR (s.profile n))) 3 cs {}
  (d.found.map (fun k => tadd t0 (8000 * k : Nat)), if d.drop then some (d.pk - d.mn) else none)

/-- R190: the closing search: seat and peak. -/
def State.kink (s : State) (n : Nat) (w : SealWin) (samples : List Sample) : Option Time × Option Int :=
  let p := s.profile n
  let k := s.fld (Reg.PF_CFG_KINK_SPAN p)
  let t0 := sampleFrom (winStart w) 2000
  let vs := (inWindow t0 w.we 2000 samples).map (·.v)
  match largest (bends k vs) with
  | some (dd, j) => (if (s.fld (Reg.PF_KINK_KINK_THR p) : Int) ≤ dd then some (tadd t0 (2000 * (j + k + 2) : Nat)) else none, some dd)
  | none => (none, none)

/-- R189, R190: what a window finds: code, seat and the value for CH_KPEAK. An OPEN with no dip whose phase 0 has neither reached its target nor
ended at the window's end (it runs on, or CLOSE_PH is 1 and there is none) seals UNSEATED; DESIGN CHOICE (log 35). -/
def State.judge (s : State) (n : Nat) (w : SealWin) (samples : List Sample) : Nat × Option Time × Option Int :=
  let p := s.profile n
  let open' := s.on (Reg.VCH_STATE_SENSE_OPEN n)
  if w.kind = 0 then
    if w.bad then (sUnseated, none, none)
    else
      let r := if s.on (Reg.PF_CFG_DIP_EN p) ∧ ¬ open' then s.dip n w samples else (none, none)
      match r.1 with
      | some t => (sSeated, some t, r.2)
      | none => (if w.reached then sProfile else sUnseated, none, r.2)
  else if open' then (sSenseOpen, none, none)
  else if ¬ s.on (Reg.PF_CFG_KINK_EN p) then (sProfile, none, none)
  else
    let r := s.kink n w samples
    match r.1 with
    | some t => (sSeated, some t, r.2)
    | none => (sUnseated, none, r.2)

/-- R208: an edge that fell due in a debug halt seals without learning and is written to Muslin. -/
def State.sealHalted (s : State) (n i kind : Nat) : State :=
  let o := (s.entry i).map (·.outlet) |>.getD 0
  let s0 := s.muslin 5 0x0102 (leBytes 2 o ++ leBytes 1 kind ++ leBytes 1 0 ++ leBytes 4 i)
  let s1 := if kind = 0 ∧ s0.on (Reg.PF_CFG_DIP_EN (s0.profile n)) then s0.bump (Reg.VCH_CNT_DIP_MISS_N n) 1 else s0
  s1.sealValve n i kind (if kind = 0 then sProfile else sUnseated) none

/-- R188–R191: the oldest window of channel `n` has ended and its search is judged on the samples that follow its start. -/
def State.valveSeal (s : State) (n : Nat) (samples : List Sample) : State :=
  if s.variant.valves ≤ n then s
  else
    let v := s.valve n
    match v.wins with
    | [] => s
    | w :: ws =>
      if ¬ tge s.ft w.we then s else
      let s0 := s.setValve n { v with wins := ws }
      match w.entry with
      | some i =>
        if w.dbg then s0.sealHalted n i w.kind
        else
          let r := s0.judge n w samples
          let s1 : State := match r.2.2 with | some x => s0.setPeak n x | none => s0
          let s2 := if w.kind = 0 ∧ r.1 = sProfile ∧ s1.on (Reg.PF_CFG_DIP_EN (s1.profile n)) then s1.bump (Reg.VCH_CNT_DIP_MISS_N n) 1 else s1
          let due := ((s2.entry i).map (·.due)).getD w.f
          s2.sealValve n i w.kind r.1 (r.2.1.map (fun t => due + (t - w.f)))
      | none =>
        let r := s0.judge n w samples
        let s1 : State := match r.2.2 with | some x => s0.setPeak n x | none => s0
        s1.setValve n { s1.valve n with off := some (r.1, (r.2.1.map (fun t => tdiff t w.f)).getD 0) }

/-! Firing. -/

/-- R163: a FIRED edge is sealed in its tick. -/
def State.sealNow (s : State) (n i kind code : Nat) : State := s.sealValve n i kind code none

/-- A COMMITTED entry becomes FIRED (Table 6.4). -/
def State.fired (s : State) (i : Nat) (e : Entry) : State := ((s.putSlot i none).setEntry i { e with st := eFired }).count 0x015 1

/-- R165: a CLOSE of the same outlet is due in the same tick. -/
def State.closeWins (s : State) (e : Entry) : Bool :=
  s.ledger.any (fun p => p.2.kind == kClose && (decide (p.2.outlet = e.outlet) && (decide (p.2.due = e.due) && (p.2.st == eCommitted || p.2.st == eFired || p.2.st == eSealed))))

/-- R202: another rate fired in this tick on the same unit by a lower-numbered outlet. -/
def State.lowerRate (s : State) (e : Entry) (u : Nat) : Bool :=
  s.ledger.any (fun p => p.2.kind == kRate && (decide (p.2.due = e.due) && (decide (p.2.outlet < e.outlet) && ((p.2.st == eFired || p.2.st == eSealed) &&
    (s.on (Reg.OT_CFG_DUTY_MOD p.2.outlet) && (!s.on (Reg.OT_RATE_DEST p.2.outlet) && (decide (s.fld (Reg.OT_CFG_TARGET p.2.outlet) = 1) && decide (s.unitOf (s.fld (Reg.OT_TARGET_CHAN p.2.outlet)) = u))))))))

/-- R151, R251: the rate that an OPEN or RATE event carries takes effect at its destination. -/
def State.rateTakes (s : State) (e : Entry) : State :=
  let o := e.outlet
  let t := s.fld (Reg.OT_CFG_TARGET o)
  let n := s.fld (Reg.OT_TARGET_CHAN o)
  let s1 : State := if s.byOwner e ∧ e.kind = kRate then { s with lg := { s.lg with ownerRate := sset (fun _ => 0) s.lg.ownerRate o e.param } } else s
  if s.on (Reg.OT_RATE_DEST o) then s1.contribute o e.param
  else if ¬ s.on (Reg.OT_CFG_DUTY_MOD o) then s1
  else if t = 1 then (if s1.lowerRate e (s1.unitOf n) then s1 else s1.loadDuty (s1.unitOf n) e.param)
  else if t = 2 then s1.lsDuty n e.param
  else if t = 3 then s1.foDuty n e.param
  else s1

/-- R251: a fired CLOSE takes its contribution away. -/
def State.rateEnds (s : State) (o : Nat) : State := if s.on (Reg.OT_RATE_DEST o) then s.contribute o 0 else s

/-- R188, R189: the search window of an edge of channel `n` added. -/
def State.addWin (s : State) (n i : Nat) (e : Entry) (dbg : Bool) : State :=
  let p := s.profile n
  let post := if e.kind = kOpen then s.fld (Reg.PF_WIN_O_WIN_POST p) else s.fld (Reg.PF_WIN_C_WIN_POST p)
  let pre := if e.kind = kOpen then s.fld (Reg.PF_WIN_O_WIN_PRE p) else s.fld (Reg.PF_WIN_C_WIN_PRE p)
  let w : SealWin :=
    { entry := some i, kind := e.kind, f := e.due, a := e.delayA, we := tadd e.due (2000 * (e.delayA + 40 * post) : Nat), pre := pre, dbg := dbg }
  s.setValve n { s.valve n with wins := (s.valve n).wins ++ [w] }

/-- R186: a fired OPEN on channel `n`. -/
def State.valveOpen (s : State) (n i : Nat) (e : Entry) : State :=
  let st := s.vState n
  let v := s.valve n
  if v.safe ≠ 0 then s.sealNow n i 0 (if st = vOpening ∨ st = vHold then sRedundant else sUnseated)
  else if st = vFault ∨ st = vOff ∨ s.vd.stopLow ∨ (st = vDecay ∧ 2 ≤ v.after) then (s.rateTakes e).sealNow n i 0 sUnseated
  else if st = vOpening ∨ st = vHold ∨ st = vModOff ∨ (st = vDecay ∧ v.after = 1) then s.sealNow n i 0 sRedundant
  else
    let s1 := (s.rateTakes e).cutWins n e.due
    let s2 := (s1.setValve n { s1.valve n with pf := none, after := 0 }).vOpen n
    (s2.beginPulse n e.due).addWin n i e false

/-- R191: a CLOSE of a modulated outlet after its off-edge seals from the search on that edge. -/
def State.closeFromOff (s : State) (n i : Nat) (e : Entry) : State :=
  let v := s.valve n
  if v.wins.any (fun w => w.entry.isNone) then
    s.setValve n { v with wins := v.wins.map (fun w => if w.entry.isNone then { w with entry := some i } else w) }
  else match v.off with
    | some (code, d) =>
      if code = sSeated then s.sealValve n i 1 sSeated (some (tadd e.due d)) else s.sealNow n i 1 code
    | none =>
      s.sealNow n i 1 (if s.on (Reg.VCH_STATE_SENSE_OPEN n) then sSenseOpen else if s.on (Reg.PF_CFG_KINK_EN (s.profile n)) then sUnseated else sProfile)

/-- R186: a fired CLOSE on channel `n`. -/
def State.valveClose (s0 : State) (n i : Nat) (e : Entry) : State :=
  let s := s0.rateEnds e.outlet
  let st := s.vState n
  let v := s.valve n
  if v.safe ≠ 0 then s.sealNow n i 1 (if st = vOpening ∨ st = vHold then sUnseated else sRedundant)
  else if st = vOpening ∨ st = vHold then
    let s1 := s.cutWins n e.due
    let s2 := s1.setValve n { s1.valve n with pulse := (s1.valve n).pulse.map (fun p => (p.1, some e.due)) }
    (s2.vClose n 0).addWin n i e false
  else if st = vModOff ∨ (st = vDecay ∧ v.after = 1) then
    let s1 := (s.cutWins n e.due).closeFromOff n i e
    s1.vClose n 0
  else s.sealNow n i 1 sRedundant

/-- A fired edge reaches valve channel `n`; in a debug halt it is queued (R208). -/
def State.valveEdge (s : State) (n i : Nat) (e : Entry) : State :=
  if s.frozen n then (s.setValve n { s.valve n with queued := some i }).addWin n i e true
  else if e.kind = kOpen then s.valveOpen n i e else s.valveClose n i e

/-- The link to the die of a local target (R164): the drive die's, the switch die's, or the barrier. -/
def State.targetUp (s : State) (o : Nat) : Bool :=
  let t := s.fld (Reg.OT_CFG_TARGET o)
  if t = 1 then s.dieUp (dieOf (s.fld (Reg.OT_TARGET_CHAN o)))
  else if t = 2 then s.on Reg.LS_STATUS_SW_LINK
  else if t = 3 then s.on Reg.FIO_STATUS_BAR_OK
  else decide (t = 4)

/-- R230: an unacknowledged remote command ends LATE and its position becomes DIVERGENT. -/
def State.remoteLate (s : State) (i : Nat) (e : Entry) : State :=
  let r := s.remoteOf e.outlet
  (((s.lateEntry i).bump (Reg.ND_CNT_LATE_N r.1 r.2.1) 1).raise (Reg.LK_EVENT_LATE r.1)).nodeOut r.1 r.2.1 nDivergent

/-- A fired edge at its target (R151, R163). -/
def State.edgeAt (s : State) (i : Nat) (e : Entry) : State :=
  let o := e.outlet
  let t := s.fld (Reg.OT_CFG_TARGET o)
  let n := s.fld (Reg.OT_TARGET_CHAN o)
  let rate (s : State) : State := if e.kind = kOpen then s.rateTakes e else s.rateEnds o
  if e.kind = kOpen ∧ s.closeWins e then s.sealEntry i sRedundant none
  else
    let s1 := s.setOpen o (e.kind == kOpen)
    if t = 1 then s1.valveEdge n i e
    else if t = 2 then
      (if (s.lsw n).on = (e.kind == kOpen) then (if e.kind = kClose then s1.rateEnds o else s1).sealEntry i sRedundant none
       else (rate s1).lsEdge n e.kind e.due i)
    else if t = 3 then
      (if (s.fout n).on = (e.kind == kOpen) then (if e.kind = kClose then s1.rateEnds o else s1).sealEntry i sRedundant none
       else (rate s1).foEdge i n e.kind e.due)
    else rate s1

/-- R24: field time has reached the due time that at least two copies in service hold for entry `i`. -/
def State.fireDue (s : State) (i : Nat) : Bool := match s.voted i with | some x => tge s.ft x.due | none => false

/-- R24, R151, R164, R230: a COMMITTED entry at its due time, two fire copies agreeing; no OPEN or RATE of an inhibited outlet fires
(R351). -/
def State.fireOne (s : State) (i : Nat) : State :=
  match s.entry i with
  | none => s
  | some e =>
    if e.st ≠ eCommitted ∨ ¬ s.fireDue i then s
    else
      let o := e.outlet
      let local' := e.kind = kRate ∧ s.on (Reg.OT_RATE_DEST o)
      if e.kind ≠ kClose ∧ s.on (Reg.OT_STATE_INHIBIT o) then s.withdrawAll (fun x => decide (x = e)) 5 4 0xFFFF o o true
      else if s.fld (Reg.OT_CFG_TARGET o) = 4 ∧ ¬ local' ∧ ¬ e.acked then s.remoteLate i e
      else if ¬ local' ∧ ¬ s.targetUp o then s.lateEntry i
      else
        let s1 := s.fired i e
        if e.kind = kRate then (s1.rateTakes e).sealEntry i sApplied none
        else s1.edgeAt i { e with st := eFired }

/-- R350: the COMMITTED edges due in the tick of an owner's RATE, which are applied before it. -/
def State.edgesBefore (s : State) (i : Nat) : List Nat :=
  match s.entry i with
  | some e => if e.kind = kRate ∧ e.ctx.isSome then (s.ledger.filter (fun p => decide (p.2.outlet = e.outlet) && (decide (p.2.kind ≠ kRate) &&
      (p.2.st == eCommitted && decide (p.2.due = e.due))))).map (·.1) else []
  | none => []

/-- R151, R350: the event of entry `i` at its due time; an owner's RATE comes after the edges of its tick. -/
def State.fire (s : State) (i : Nat) : State := ((s.edgesBefore i).foldl State.fireOne s).fireOne i

/-! Modulation edges (R186, R201). -/

/-- R186: a CLOSE of channel `n`'s outlet is due in the tick `t` and wins over a modulation edge. -/
def State.closeDue (s : State) (n : Nat) (t : Time) : Bool :=
  s.ledger.any (fun p => decide (p.2.kind = kClose) && (decide (p.2.st = eCommitted) && (decide (p.2.due = t) &&
    decide (p.2.outlet = s.fld (Reg.VCH_CFG_OUTLET n)))))

/-- R186, R201: a modulation off-edge, at the end of the pulse in progress: its decay begins, with a kink search on it (R191). -/
def State.modOff (s : State) (n : Nat) : State :=
  let st := s.vState n
  let v := s.valve n
  match v.pulse with
  | some (_, some t) =>
    if s.variant.valves ≤ n ∨ s.vd.haltFt.isSome ∨ v.safe ≠ 0 ∨ ¬ s.modulated n ∨ ¬ tge s.ft t ∨ s.closeDue n t then s
    else if st = vOpening ∨ st = vHold then
      let p := s.profile n
      let a := s.fld (Reg.OT_LRN_CLOSE_LRN (s.fld (Reg.VCH_CFG_OUTLET n)))
      let w : SealWin := { entry := none, kind := 1, f := t, a := a, we := tadd t (2000 * (a + 40 * s.fld (Reg.PF_WIN_C_WIN_POST p)) : Nat), pre := s.fld (Reg.PF_WIN_C_WIN_PRE p) }
      let s1 := s.cutWins n t
      let s2 := s1.setValve n { s1.valve n with wins := (s1.valve n).wins ++ [w] }
      s2.vClose n 1
    else s
  | _ => s

/-- R186, R201: a modulation on-edge: the next pulse, at the first grid on-edge that its gap admits. -/
def State.modOn (s : State) (n : Nat) : State :=
  let v := s.valve n
  if s.variant.valves ≤ n ∨ s.vd.haltFt.isSome ∨ v.safe ≠ 0 then s
  else if s.vState n = vModOff then
    let last := match v.pulse with | some (_, some e) => e | _ => s.ft
    let g := s.gridOn (s.unitOf n) (tadd last (s.modGap (s.profile n)))
    if ¬ tge s.ft g ∨ s.closeDue n g then s else ((s.cutWins n g).vOpen n).beginPulse n g
  else s

/-! Pre-flux (R160, R185). -/

/-- R185: the channel is inside the search window of an earlier CLOSE. -/
def State.inCloseWin (s : State) (n : Nat) : Bool := (s.valve n).wins.any (fun w => decide (w.kind = 1) && !tge s.ft w.we)

/-- R160, R185: pre-flux of an OPEN begins on its valve channel. -/
def State.preflux (s : State) (i : Nat) : State :=
  match s.entry i with
  | none => s
  | some e =>
    let n := s.fld (Reg.OT_TARGET_CHAN e.outlet)
    if e.kind = kOpen ∧ (e.st = eBooked ∨ e.st = eCommitted) ∧ s.fld (Reg.OT_CFG_TARGET e.outlet) = 1 ∧ s.vState n = vIdle ∧
        s.fld (Reg.CL_PREFLUX_PREFLUX (s.cls e.outlet)) ≠ 0 ∧ ¬ s.inCloseWin n ∧ s.fld (Reg.VCH_STATE_DERATE n) = 0 ∧ (s.valve n).safe = 0 ∧
        tdiff e.due s.ft ≤ 400000 * (s.fld (Reg.CL_TIMING_PRE_LEAD (s.cls e.outlet)) : Int) ∧
        ¬ s.vd.stopLow ∧ s.dieUp (dieOf n) ∧ s.vd.haltFt.isNone then
      let s1 := s.setEntry i { e with preflux := true }
      (s1.setValve n { s1.valve n with pf := some i }).vTo n vPreflux 0
    else s

/-! Debug halt (R208, R265, R468). -/

/-- A stop hold or held-safe stands (R398). -/
def State.heldNow (s : State) : Bool := s.ls.stop || (s.ls.halt || s.ls.safe)

/-- HALT of the test access port. -/
def State.debugHalt (s : State) : State :=
  if s.on Reg.VD_STATUS_HALTED then s
  else
    let s1 := (s.setFld Reg.VD_STATUS_HALTED 1).loopsHalt
    if s1.on Reg.DBG_CFG_HALT_OFF then s1.valvesSafe else { s1 with vd := { s1.vd with haltFt := some s1.ft } }

/-- R208: the chopper and modulation counters and the phase timers go on where a debug halt stopped them. -/
def State.countersGo (s : State) : State :=
  match s.vd.haltFt with
  | none => s
  | some t =>
    let d : Time := s.ft - t
    (List.range s.variant.valves).foldl (fun s n =>
      let v := s.valve n
      s.setValve n { v with since := if vRuns (s.vState n) then v.since + d else v.since, pulse := v.pulse.map (fun p => (p.1 + d, p.2.map (· + d))) })
      { s with vd := { s.vd with haltFt := none, chopLag := s.vd.chopLag + d, spStart := s.vd.spStart + d } }

/-- R188, R208: channel `n` applies its queued edge, which ends its earlier windows. -/
def State.applyQueued (s : State) (n : Nat) : State :=
  let v := s.valve n
  match v.queued with
  | none => s
  | some i =>
    let s1 := (s.setValve n { v with queued := none }).cutWins n s.ft
    match s1.entry i with
    | none => s1
    | some e =>
      let st := s1.vState n
      if v.safe ≠ 0 then s1
      else if e.kind = kOpen then
        (if st = vIdle ∨ st = vPreflux ∨ (st = vDecay ∧ v.after = 0) then
           let s2 := s1.rateTakes e
           ((s2.setValve n { s2.valve n with pf := none, after := 0 }).vOpen n).beginPulse n s.ft
         else s1)
      else if st = vOpening ∨ st = vHold ∨ st = vModOff ∨ (st = vDecay ∧ v.after = 1) then
        let s2 := s1.rateEnds e.outlet
        (s2.setValve n { s2.valve n with pulse := (s2.valve n).pulse.map (fun p => (p.1, some s.ft)) }).vClose n 0
      else s1

/-- RESUME of the test access port. -/
def State.debugResume (s : State) : State :=
  if s.on Reg.VD_STATUS_HALTED then
    let s1 := ((s.setFld Reg.VD_STATUS_HALTED 0).loopsResume).countersGo
    let s2 := if s1.heldNow then s1 else s1.valvesRelease
    (List.range s2.variant.valves).foldl (fun s n => s.applyQueued n) s2
  else s

end Sys2Proof.Machine
end

