-- ==== Sys2Proof/Machine/Stops.lean ====
section
/-! DEFINITION. Stop paths, held-safe and their release (R27, R161, R395–R398), lanes and takeovers (R384–R388), the fire copies (R389),
scrubbing (R390), die links (R391) and references (R392, R393). -/

namespace Sys2Proof.Machine

/-! Stop paths. -/

/-- Outlets that `hit` selects are commanded closed, and their contributions end (R144, R251). -/
def State.commandClosed (s : State) (hit : Nat → Bool) : State :=
  { s with lg := { s.lg with opened := s.lg.opened.filter (fun e => !hit e.1) }, lp := { s.lp with contrib := s.lp.contrib.filter (fun e => !hit e.1) } }

/-- R161: what every stop path does to the ledger and the links; `special` is 1 HALT, 2 SAFE. -/
def State.stopEvents (s : State) (path ctx special : Nat) : State :=
  (s.withdrawAll (fun _ => true) 4 path ctx 0 (s.variant.outlets - 1) false).linksStop special

/-- The outlets that a safe state closes. -/
def State.safeCloses (s : State) (o : Nat) : Bool := !s.on (Reg.OT_CFG_SAFE_OPEN o)

/-- The STOP record (Table 17.1). -/
def State.stopRecord (s : State) (src port ctx ident : Nat) : State :=
  s.canvas 15 0x0031 (leBytes 1 src ++ leBytes 1 port ++ leBytes 2 ctx ++ leBytes 4 ident)

/-- R27, R205, R280, R302, R235: STOP_N goes low. -/
def State.stopPin (s : State) : State :=
  if s.rs.stopLow then s
  else
    let s0 : State := { s with rs := { s.rs with stopLow := true, highAt := none } }
    let s1 := ((s0.setFld Reg.RES_STATE_STOP 1).setFbit Reg.RES_STATE_STOP_SRC 0 true).setFld Reg.LS_STATUS_STOP 1
    let s2 := s1.stopEvents 0 0xFFFF 1
    let s3 := (((s2.valvesStop.lsStop).foStop).loopsStop).commandClosed (fun _ => true)
    s3.stopRecord 0 0 0xFFFF 0

/-- R27, R206, R280, R302: a stop by the safety block: source bit 1 doorbell, 2 halt filter; 3 a brown-out (R412), whose STOP record goes
ahead of the queue (R431). -/
def State.stopHalt (s : State) (src port ctx ident : Nat) : State :=
  let s1 := (s.setFld Reg.RES_STATE_STOP 1).setFbit Reg.RES_STATE_STOP_SRC (if src = 2 then 2 else 1) true
  let s2 := s1.stopEvents (if src = 3 then 7 else src) ctx 2
  let s3 := (((s2.valvesSafe.lsHalt).foHalt).loopsStop).commandClosed s2.safeCloses
  if src = 3 then s3 else s3.stopRecord src port ctx ident

/-- What held-safe and the stop hold release of the valves, the links and the commanded states, when the last hold ends (R398). -/
def State.releaseUnits (s : State) : State :=
  let s1 := if s.on Reg.VD_STATUS_HALTED ∧ s.on Reg.DBG_CFG_HALT_OFF then s else s.valvesRelease
  s1.linksRelease.commandClosed (fun _ => true)

/-- R398: a hold is released and recorded; `ctx` is the supervisor context that wrote the release, 0xFFFF for none. -/
def State.released (s : State) (held : Bool) (ctx : Nat) : State :=
  (s.raise Reg.RES_EVENT_RELEASED).canvas 15 0x0032 (leBytes 1 (b2n held) ++ leBytes 1 0 ++ leBytes 2 ctx)

/-- R398: the stop hold is released. -/
def State.stopRelease (s : State) (ctx : Nat) : State :=
  if ¬ s.on Reg.RES_STATE_STOP then s
  else
    let s1 := (s.setFld Reg.RES_STATE_STOP 0).setFld Reg.RES_STATE_STOP_SRC 0
    let s2 := ((s1.lsRelease false).foRelease false).loopsRelease false
    let s3 := if s2.on Reg.RES_STATE_HELD_SAFE then s2 else s2.releaseUnits
    s3.released false ctx

/-- R398: with STOPN_AUTO a stop hold from STOP_N alone is released 10 ms after STOP_N returned high. -/
def State.stopAuto (s : State) : State :=
  match s.rs.highAt with
  | some h =>
    if 80000000 ≤ (s.ft - h).toNat ∧ s.on Reg.RES_CTRL_STOPN_AUTO ∧ s.fld Reg.RES_STATE_STOP_SRC = 1 then
      { s with rs := { s.rs with highAt := none } }.stopRelease 0xFFFF
    else s
  | none => s

/-- R398: STOP_N returns high; while it stands high the 10 ms of an automatic release run. -/
def State.stopPinHigh (s : State) : State :=
  if s.rs.stopLow then
    { s with rs := { s.rs with stopLow := false, highAt := some s.ft }, vd := { s.vd with stopLow := false } }.setFld Reg.LS_STATUS_STOP 0
  else s.stopAuto

/-- R398: STOP_RELEASE written by context `ctx`. -/
def State.stopReleaseCmd (s : State) (ctx : Nat) : State :=
  if s.rs.stopLow then s.raise Reg.RES_EVENT_CFG_ERR else s.stopRelease ctx

/-- R395, R396: entry to held-safe with a cause and the faults involved. -/
def State.holdSafe (s : State) (cause first second : Nat) : State :=
  if s.on Reg.RES_STATE_HELD_SAFE then s
  else
    let s1 := ((s.setFld Reg.RES_STATE_HELD_SAFE 1).setFld Reg.RES_HSCAUSE_CAUSE cause).setReg64 0x5C0018 s.ft.toNat
    let s2 := (s1.raise Reg.RES_EVENT_HELD_SAFE).stopEvents 3 0xFFFF 2
    let s3 := (((s2.valvesSafe.lsSafe).foSafe).loopsHeld).commandClosed s2.safeCloses
    s3.canvas 15 0x0041 (leBytes 1 cause ++ leBytes 1 first ++ leBytes 1 second)

/-- R397, R398: held-safe is released. -/
def State.heldRelease (s : State) (ctx : Nat) : State :=
  let s1 := s.setFld Reg.RES_STATE_HELD_SAFE 0
  let s2 := ((s1.lsRelease true).foRelease true).loopsRelease true
  let s3 := if s2.on Reg.RES_STATE_STOP then s2 else s2.releaseUnits
  s3.released true ctx

/-- R356: the halt doorbell on port `p`, written with `v` by the context it is attributed to. -/
def State.doorbell (s : State) (p ctx v : Nat) : State :=
  if v = 0x51A7 ∧ (s.supervisor ctx ∨ s.on (Reg.CTX_PERM_HALT ctx)) then
    (s.raiseBit Reg.HP_EVENT_HALT p).stopHalt 1 p ctx 0
  else s.raise Reg.HP_EVENT_HALT_REJ

/-- R328: the halt filter of bus port `p` takes a frame; while the stop of a doorbell or halt filter already holds it only counts. -/
def State.haltFrame (s : State) (p : Nat) (f : BusFrame) : State :=
  let s1 := s.bump (Reg.BP_CNT_G_HALT_N p) 1
  if s1.fbit Reg.RES_STATE_STOP_SRC 1 || s1.fbit Reg.RES_STATE_STOP_SRC 2 then s1
  else (s1.raiseBit Reg.BUS_EVENT_HALT p).stopHalt 2 p 0xFFFF (frameHdr f % 2 ^ 30)

/-! Lanes (R384–R388). -/

/-- Lane fields of RES_STATE: 0 running, 1 rebuilding, 2 fenced, 3 under self-test. -/
def laneFld (lane : Nat) : Fld := if lane = 0 then Reg.RES_STATE_LANE_A else Reg.RES_STATE_LANE_B

/-- R231, R376: MODE frames are sent again, with new sequence numbers; one whose old number is not acknowledged stays, so that the node's next
expected number comes to it (R227, R228). -/
def State.resendModes (s : State) : State :=
  s.allLinks.foldl (fun s l =>
    let k := s.link l
    let again := (k.cmds.filter (fun c => c.type == 0x13 && (c.seq.isSome && !c.withdrawn))).map
      (fun c => { c with seq := none, sent := false, acked := false, rejected := false })
    let old := k.cmds.filterMap (fun c => if c.type == 0x13 && c.seq.isSome then (if c.acked then none else some { c with withdrawn := true }) else some c)
    s.setLink l { k with cmds := old ++ again }) s

/-- R387, R376: a takeover begins for a lane. -/
def State.takeoverBegins (s : State) (lane checker unit : Nat) (retry : Bool) : State :=
  let s1 : State := { s with rs := { s.rs with takeover := some { lane := lane, checker := checker, unit := unit, since := s.ft, retry := retry } },
                             po := { s.po with coast := s.po.coast || decide (s.fld Reg.POSE_STATUS_STATE ≠ 0) } }
  let s2 := (((s1.setFld Reg.RES_STATE_STATE 1).setFld (laneFld lane) 3).bump Reg.RES_CNT_A_TAKEOVER_N 1).raise Reg.RES_EVENT_TAKEOVER
  let s3 := s2.coastAll true
  if s3.fld Reg.IMG_STATUS_STAGE = 4 ∧ ¬ s3.im.copied then ({ s3 with im := { s3.im with cut := true } }.raise Reg.IMG_EVENT_REPLAYED).resendModes else s3

/-- R264: outputs that the lanes disagreed on before one was named. -/
def State.mergeLate (s : State) : State :=
  let n := Config.mergeN s.free
  (s.tick.bump Reg.LP_MERGE_MERGE_N n).raiseIf (decide (n ≠ 0)) Reg.LP_EVENT_MERGE_LATE

/-- RES_CAUSE. -/
def State.nameLane (s : State) (lane checker unit : Nat) : State :=
  ((s.setFld Reg.RES_CAUSE_LANE lane).setFld Reg.RES_CAUSE_CHECKER checker).setFld Reg.RES_CAUSE_UNIT unit

/-- R383, R390: an uncorrectable error in the memory of row `mem` of Table 15.3 is logged, counted and recorded. -/
def State.eccLog (s : State) (mem place copy addr : Nat) : State :=
  let s1 := ((((s.setFld Reg.RES_ECCLOG_MEMORY mem).setFld Reg.RES_ECCLOG_WHERE place).setFld Reg.RES_ECCLOG_COPY copy).setFld Reg.RES_ECCADDR_ADDR addr)
  let s2 := (s1.bump Reg.RES_CNT_B_ECC_UNCORR_N 1).raise Reg.RES_EVENT_ECC_UNCORR
  s2.canvas 11 0x0043 (leBytes 1 ((s2.reg 0x5C0030).toNat % 256) ++ leBytes 3 0 ++ leBytes 4 addr)

/-- R385, R387, R395: a checker names a lane. -/
def State.laneFault (s : State) (lane checker unit : Nat) : State :=
  let st := s.fld Reg.RES_STATE_STATE
  if 2 ≤ lane ∨ st = 3 ∨ (st = 2 ∧ s.fld (laneFld lane) = 2) then s
  else
    let s1 := s.nameLane lane checker unit
    if st = 0 then (s1.takeoverBegins lane checker unit false).mergeLate
    else if st = 2 then (s1.setFld Reg.RES_STATE_STATE 3).holdSafe 2 (1 - lane) lane
    else
      let first := (s1.rs.takeover.map (·.lane)).getD 0
      if first = lane then s1.holdSafe 1 first lane
      else ({ s1 with rs := { s1.rs with takeover := none } }.setFld Reg.RES_STATE_STATE 3).holdSafe 1 first lane

/-- R383: a lane's checker fires; its ECC logs the word of the lane memory (row 1 of Table 15.3, or 5) before it names the lane. -/
def State.laneNamed (s : State) (lane checker unit mem addr : Nat) : State :=
  (if lane < 2 ∧ checker = 0 ∧ (mem = 1 ∨ mem = 5) then s.eccLog mem lane 0 addr else s).laneFault lane checker unit

/-- R386: an unresolved disagreement. -/
def State.laneDisagree (s : State) : State := if s.fld Reg.RES_STATE_STATE = 0 then s.holdSafe 3 0 0 else s

/-- R387: the self-test of the named lane ends. -/
def State.laneTested (s : State) (pass : Bool) : State :=
  match s.rs.takeover with
  | some t =>
    if t.passed.isSome then s
    else
      let s1 : State := { s with rs := { s.rs with takeover := some { t with passed := some pass } } }
      if pass then s1.setFld (laneFld t.lane) 1
      else
        let s2 := (s1.setFld (laneFld t.lane) 2).raise Reg.RES_EVENT_FENCED
        if t.retry then s2
        else { s2 with rs := { s2.rs with fencedLanes := s2.rs.fencedLanes.filter (· ≠ t.lane) ++ [t.lane] } }.bump Reg.RES_CNT_A_FENCE_N 1
  | none => s

/-- R387: the copy into the named lane ends. -/
def State.laneCopied (s : State) : State :=
  match s.rs.takeover with
  | some t => if t.passed = some true then { s with rs := { s.rs with takeover := some { t with copied := true } } } else s
  | none => s

/-- R241, R305, R333: an item that a takeover held back is passed on. -/
def State.passItem (s : State) (x : HeldItem) : State :=
  match x with
  | .link i => s.passFrame i
  | .cos n => s.cosBit n
  | .check i m code => s.foSeal i m code
  | .bus p f t => s.rxFrame p f t

/-- R241, R305, R333, R345: what a takeover held back is passed on, in the order it came. -/
def State.passAll (s : State) : State :=
  let s3 := (s.rs.held.foldl State.passItem { s with rs := { s.rs with held := [] } }).releaseObs
  s3.hp.heldCpl.foldl (fun s c => s.completeLater c.1 c.2.1 c.2.2.1 c.2.2.2 0 0) { s3 with hp := { s3.hp with heldCpl := [] } }

/-- R387: the takeover ends at a pose epoch boundary and nowhere else; the commit pass that follows is the first after it (R173). -/
def State.takeoverEnds (s : State) : State :=
  match s.rs.takeover with
  | some t =>
    if s.ft.toNat % 400000 = 0 ∧ (t.passed = some false ∨ t.copied) then
      let ok := t.copied
      let us := min ((s.ft - t.since).toNat / 8000) 1023
      let s1 : State := { s with rs := { s.rs with takeover := none, fencedLanes := if ok then s.rs.fencedLanes.filter (· ≠ t.lane) else s.rs.fencedLanes },
                                 lg := { s.lg with passMissed := true } }
      let s2 := if ok then ((s1.setFld Reg.RES_STATE_STATE 0).setFld (laneFld t.lane) 0).raise Reg.RES_EVENT_RECOVERED else s1.setFld Reg.RES_STATE_STATE 2
      let s3 := (s2.setFld Reg.RES_TIMES_LAST us).setFld Reg.RES_TIMES_MAX (max us (s2.fld Reg.RES_TIMES_MAX))
      let out := if ok then 0 else if t.retry then 2 else 1
      (s3.canvas 11 0x0040 (leBytes 1 t.lane ++ leBytes 1 t.checker ++ leBytes 1 t.unit ++ leBytes 1 out ++ leBytes 2 us)).passAll.coastAll false
    else s
  | none => s

/-- R388: LANE_RETRY. -/
def State.laneRetry (s : State) : State :=
  if s.fld Reg.RES_STATE_STATE = 2 then s.takeoverBegins (if s.fld Reg.RES_STATE_LANE_A = 2 then 0 else 1) (s.fld Reg.RES_CAUSE_CHECKER) (s.fld Reg.RES_CAUSE_UNIT) true
  else s.raise Reg.RES_EVENT_CFG_ERR

/-! The fire stage (R389). -/

/-- R389, R395: copy `c` is found differing. -/
def State.fireOut (s : State) (c : Nat) : State :=
  if ¬ s.fbit Reg.RES_STATE_FIRE_OK c then s
  else
    let other := (List.range 3).find? (fun k => !s.fbit Reg.RES_STATE_FIRE_OK k)
    let s1 := ((s.setFbit Reg.RES_STATE_FIRE_OK c false).bump Reg.RES_CNT_C_FIRE_COPY_N 1).raise Reg.RES_EVENT_FIRE_COPY
    match other with
    | none => { s1 with rs := { s1.rs with reloading := s1.rs.reloading ++ [c] } }
    | some k => { s1 with rs := { s1.rs with reloading := [] } }.holdSafe 4 k c

/-- R389, R383: a comparison; bit c of `differs` is set for a copy that differs, of `ecc` for one whose own ECC reports an uncorrectable error at
word `addr`. -/
def State.fireCompare (s : State) (differs ecc addr : Nat) : State :=
  ((List.range 3).filter (fun c => bit differs c || bit ecc c)).foldl (fun s c =>
    (if bit ecc c ∧ s.fbit Reg.RES_STATE_FIRE_OK c then s.eccLog 2 3 c addr else s).fireOut c) s

/-- R389: a reload of copy `c` ends: its slots are those of the copies in service, and it returns or is fenced. -/
def State.fireReloaded (s : State) (c : Nat) (ok : Bool) : State :=
  if s.rs.reloading.contains c then
    let s1 : State := { s with rs := { s.rs with reloading := s.rs.reloading.filter (· ≠ c), fencedCopies := s.rs.fencedCopies.filter (· ≠ c) ++ (if ok then [] else [c]) } }
    let s2 := (((if ok then s1.reloadSlots c else s1).setFbit Reg.RES_STATE_FIRE_OK c ok)).setFbit Reg.RES_STATE_FIRE_FENCED c (!ok)
    s2.canvas 11 0x0042 (leBytes 1 c ++ leBytes 1 (b2n (!ok)))
  else s

/-- R389: FIRE_RETRY reloads every copy out of service; where fewer than two are in service it clears all its slots. -/
def State.fireRetry (s : State) : State :=
  let out := (List.range 3).filter (fun c => !s.fbit Reg.RES_STATE_FIRE_OK c)
  out.foldl (fun s c => s.reloadSlots c) { s with rs := { s.rs with reloading := out } }

/-! Scrubbing (R390). -/

/-- Key slot `k` (R367). -/
def State.key (s : State) (k : Nat) : Option KeySlot := sget (fun _ => none) s.im.keys k

/-- A key slot with its bits in IMG_KEY. -/
def State.setKey (s : State) (k : Nat) (x : KeySlot) : State :=
  let s1 : State := { s with im := { s.im with keys := sset (fun _ => none) s.im.keys k (some x) } }
  (s1.setFbit Reg.IMG_KEY_PROGRAMMED k true).setFbit Reg.IMG_KEY_REVOKED k x.revoked

/-- R390, Table 16.7: an uncorrectable error at a 64-bit word of the retained store invalidates its region. -/
def State.retainedBad (s : State) (word unit : Nat) : State :=
  let a := 8 * word
  if a < 0x300000 then
    let k := a / 0x180000
    let x : BootSlot := sget (fun _ => {}) s.im.slots k
    { s with im := { s.im with slots := sset (fun _ => {}) s.im.slots k { x with valid := false } } }.setFld (if k = 0 then Reg.IMG_BOOT_VALID_A else Reg.IMG_BOOT_VALID_B) 0
  else if a < 0x700000 then
    let i := (a - 0x300000) / 64
    if s.rc.badRecs.contains i ∨ s.rc.canvas.length ≤ i then s
    else ({ s with rc := { s.rc with badRecs := s.rc.badRecs ++ [i] } }.bump Reg.CV_STATUS_CORRUPT 1).raise Reg.REC_EVENT_CORRUPT
  else if a < 0x740000 then
    let b := (a - 0x700000) / 0x20000
    { s with pw := { s.pw with bankBad := s.pw.bankBad.filter (· ≠ b) ++ [b] } }
  else if a < 0x750000 then { s with gn := { s.gn with retained := [] } }
  else if a < 0x752000 then { s with pw := { s.pw with ld := none } }
  else if 0x754000 ≤ a ∧ a < 0x755000 then
    s.setKey unit { (s.key unit).getD { digest := 0 } with revoked := true, bad := true }
  else s

/-- R390: one error of a scrub pass of the memory in row `mem` of Table 15.3. -/
def State.scrubError (s : State) (mem : Nat) (e : ScrubIn) : State :=
  if ¬ e.bad then (s.bump Reg.RES_CNT_B_ECC_CORR_N 1).muslin 11 0x0100 (leBytes 1 mem ++ leBytes 1 e.place ++ leBytes 2 0 ++ leBytes 4 e.addr)
  else
    let s3 := s.eccLog mem e.place e.copy e.addr
    if mem = 1 ∨ mem = 5 then s3.laneFault e.place 0 e.unit
    else if mem = 2 then s3.fireOut e.copy
    else if mem = 3 then s3.bankFault e.unit
    else if mem = 4 then s3.tileBad e.unit
    else if mem = 6 then s3.retainedBad e.addr e.unit
    else if mem = 8 then { s3 with im := { s3.im with storeBad := true } }
    else s3

/-- R390: a scrub pass; the die shadows have none (Table 15.3). -/
def State.scrub (s : State) (mem : Nat) (es : List ScrubIn) : State :=
  if 1 ≤ mem ∧ mem ≤ 8 ∧ mem ≠ 7 then es.foldl (fun s e => s.scrubError mem e) s else s

/-! Internal die links (R391). -/

/-- R391: one path of the link to die `d` (0 drive A, 1 drive B, 2 switch) is lost. -/
def State.pathLost (s : State) (d : Nat) : State :=
  if 3 ≤ d ∨ (d = 1 ∧ s.variant = .f0512) ∨ s.fbit Reg.RES_STATE_DIE_PATH d then s
  else (((s.setFbit Reg.RES_STATE_DIE_PATH d true).bump Reg.RES_CNT_C_PATH_N 1).raise Reg.RES_EVENT_DIE_PATH).canvas 11 0x0044 (leBytes 1 d ++ leBytes 1 0)

/-- R207, R282, R391: both paths of the link to die `d` are lost. -/
def State.dieLost (s : State) (d : Nat) : State :=
  let up := if d = 2 then s.on Reg.LS_STATUS_SW_LINK else decide (d < 2) && s.dieUp d
  if ¬ up then s
  else
    let s1 := if d = 2 then s.setFld Reg.LS_STATUS_SW_LINK 0 else s.driveDieLost d
    (s1.raise Reg.RES_EVENT_DIE_LINK).canvas 11 0x0044 (leBytes 1 d ++ leBytes 1 1)

/-- R209, R391: the handshake of die `d` completes (3: the field barrier, which its inbound frames bring up). -/
def State.dieHandshake (s : State) (d : Nat) : State :=
  if d = 2 then (s.setFld Reg.LS_STATUS_SW_LINK 1).setFbit Reg.RES_STATE_DIE_PATH 2 false
  else if d < 2 then (s.driveDieUp d).setFbit Reg.RES_STATE_DIE_PATH d false
  else s

/-! References (R392, R393). -/

def State.refGroup (s : State) (g : Nat) : RefState := sget (fun _ => {}) s.rs.refs g

/-- R392: the 160 ms mean with a new d, and the history that follows. -/
def refMean (old : List Nat) (d : Nat) : Nat × List Nat := ((d + (old.take 15).foldl (· + ·) 0) / 16, (d :: old).take 15)

/-- R392: d of a pair whose measured ratio lies `dev` ppm from nominal: r is a uint20. -/
def refDev (dev : Int) : Nat := (((1000000 + dev) % 2 ^ 20) - 1000000).natAbs

/-- The pair index of two references of a group: 0 BG0–BG1, 1 BG0–REFA, 2 BG1–REFA. -/
def pairIdx (i j : Nat) : Nat := if i + j = 1 then 0 else if i + j = 2 then 1 else 2

/-- R393: the reference that three in vote outvote, by their means or by a single comparison. -/
def outvoted (D d : Nat → Nat) : Option Nat :=
  ([0, 1, 2] : List Nat).find? (fun k =>
    let i := (k + 1) % 3
    let j := (k + 2) % 3
    let far (x : Nat → Nat) (lim : Nat) : Bool := decide (lim < x (pairIdx k i)) && (decide (lim < x (pairIdx k j)) && decide (x (pairIdx i j) ≤ 10000))
    far D 10000 || far d 50000)

/-- The REFERENCE record (Table 17.1). -/
def State.refRecord (s : State) (g what : Nat) : State :=
  s.canvasWith 11 0x0045 false (s.on (Reg.REF_STAT_SUSPECT g)) (leBytes 1 g ++ leBytes 1 what ++ leBytes 1 (s.fld (Reg.REF_STAT_IN_VOTE g)) ++ leBytes 1 0 ++
    leBytes 4 (s.fld (Reg.REF_D01_D g)) ++ leBytes 4 (s.fld (Reg.REF_D0A_D g)) ++ leBytes 4 (s.fld (Reg.REF_D1A_D g)))

/-- R392, R393: a comparison of group `g`: the deviations of the measured ratios from nominal in ppm, and the references present. -/
def State.refCompare (s : State) (g : Nat) (d01 d0a d1a : Int) (present : Nat) : State :=
  if 5 ≤ g ∨ (g = 2 ∧ s.variant = .f0512) then s
  else
    let refa := s.on Reg.RES_CTRL_REFA_EN && decide (g < 4)
    let has (k : Nat) : Bool := bit present k && (decide (k < 2) || (decide (k = 2) && refa))
    let x := s.refGroup g
    let ds := [refDev d01, refDev d0a, refDev d1a]
    let live := [has 0 && has 1, has 0 && has 2, has 1 && has 2]
    let means := (List.range 3).map (fun i => if live.getD i false then refMean (x.d.getD i []) (ds.getD i 0) else (0, []))
    let D (i : Nat) : Nat := satU 20 (means.getD i (0, [])).1
    let s1 := ((s.setFld (Reg.REF_D01_D g) (D 0)).setFld (Reg.REF_D0A_D g) (D 1)).setFld (Reg.REF_D1A_D g) (D 2)
    let calmNow := (List.range 3).all (fun i => !live.getD i false || decide (D i ≤ 3000))
    let calm : Option Time := if calmNow then some (x.calm.getD s.ft) else none
    let s2 : State := { s1 with rs := { s1.rs with refs := sset (fun _ => {}) s1.rs.refs g { d := means.map (·.2), calm := calm } } }
    let out0 := s2.fld (Reg.REF_STAT_VOTED g)
    let der0 := s2.on (Reg.REF_STAT_DERATE g)
    let passed := calm.any (fun t => decide (480000000000 ≤ (s.ft - t).toNat))
    let clear := passed && (der0 || decide (out0 ≠ 0))
    let out1 := if clear then 0 else out0
    let votes (o : Nat) : List Nat := ([0, 1, 2] : List Nat).filter (fun k => has k && !bit o k)
    let k := if (votes out1).length = 3 then outvoted D (fun i => ds.getD i 0) else none
    let out2 := match k with | some k => out1 + 2 ^ k | none => out1
    let vs := votes out2
    let pairs := (([(0, 0, 1), (1, 0, 2), (2, 1, 2)] : List (Nat × Nat × Nat)).filter (fun p => vs.contains p.2.1 && vs.contains p.2.2)).map (·.1)
    let bad := pairs.any (fun i => decide (10000 < D i)) && decide (2 ≤ vs.length)
    let der := if clear then bad else der0 || bad
    let warn0 := s2.on (Reg.REF_STAT_WARN g)
    let warn := pairs.any (fun i => decide (4000 < D i)) || (warn0 && pairs.any (fun i => decide (3000 < D i)))
    let s3 := (((s2.setFld (Reg.REF_STAT_IN_VOTE g) (vs.foldl (fun m k => m + 2 ^ k) 0)).setFld (Reg.REF_STAT_VOTED g) out2).setBit (Reg.REF_STAT_WARN g) warn)
    let s4 := (s3.setBit (Reg.REF_STAT_DERATE g) der).setBit (Reg.REF_STAT_SUSPECT g) der
    let s5 := s4.raiseIf (warn && !warn0) Reg.RES_EVENT_REF_WARN
    let s6 := if clear then s5.refRecord g 2 else s5
    let s7 := if k.isSome then (s6.raise Reg.RES_EVENT_REF_VOTE).refRecord g 0 else s6
    if der ∧ (¬ der0 ∨ clear) then (s7.raise Reg.RES_EVENT_REF_DERATE).refRecord g 1 else s7

end Sys2Proof.Machine
end

