-- ==== Sys2Proof/Machine/Canvas.lean ====
section
/-! DEFINITION. The Canvas writer and its erasure, the Canvas, Muslin and tag windows, counters and sampling control (chapter 17). -/

namespace Sys2Proof.Machine

def State.recErr (s : State) : State := s.raise Reg.REC_EVENT_CFG_ERR

/-! The writer (R430–R432). -/

/-- A record put into the store at the lowest empty place. -/
def State.storeRecord (s : State) (r : CvRec) : State :=
  let s1 : State := { s with rc := { s.rc with canvas := s.rc.canvas ++ [r] } }
  (s1.setFld Reg.CV_STATUS_COUNT s1.rc.canvas.length).count 0x0C3 1

/-- The CANVAS_FULL record with DROPPED as it stands (R432). -/
def State.fullRecord (s : State) : CvRec :=
  let cal := s.calNow
  { kind := 0x0001, source := 13, flags := s.recFlags false false + s.fld Reg.TB_STATUS_CAL_VALID, cal := cal.1, frac := cal.2 * 2 ^ 16 / 8000000000,
    ft := s.ft, imageVer := s.fld Reg.IMG_ACTIVE_VER_IMAGE_VER, data := padTo 36 (leBytes 4 (s.fld Reg.CV_DROPPED_DROPPED)) }

/-- R432: once record 65,534 is written, CANVAS_FULL is record 65,535 and FULL is set. -/
def State.closeCanvas (s : State) : State :=
  if s.rc.canvas.length = 65535 then
    let s2 := s.muslinWith 13 0x0001 (s.recFlags false false) (leBytes 4 (s.fld Reg.CV_DROPPED_DROPPED))
    let s3 := (s2.storeRecord s2.fullRecord).setFld Reg.CV_STATUS_FULL 1
    { s3 with rc := { s3.rc with dropped := s3.fld Reg.CV_DROPPED_DROPPED } }.raise Reg.REC_EVENT_FULL
  else s

/-- R432: a record reaches the writer: it is stored, or counted in DROPPED once Canvas is full. -/
def State.writeRecord (s : State) (r : CvRec) : State :=
  let s1 := s.closeCanvas
  if s1.on Reg.CV_STATUS_FULL then s1.bump Reg.CV_DROPPED_DROPPED 1 else (s1.storeRecord r).closeCanvas

/-- R430, R433: the writer takes the record at the front of its queue; during an erasure the queue waits. -/
def State.canvasStep (s : State) : State :=
  match s.rc.queue with
  | r :: q => if s.on Reg.CV_STATUS_ERASING then s else { s with rc := { s.rc with queue := q } }.writeRecord r
  | [] => s

/-- R431: the queue drained into the store. -/
def State.canvasDrain (s : State) : State := s.rc.queue.foldl (fun s r => s.writeRecord r) { s with rc := { s.rc with queue := [] } }

/-- R432: the CANVAS_FULL record rewritten while DROPPED changes. -/
def State.canvasRewrite (s : State) : State :=
  let n := s.fld Reg.CV_DROPPED_DROPPED
  if s.on Reg.CV_STATUS_FULL ∧ n ≠ s.rc.dropped then
    let put (r : CvRec) : CvRec := { r with data := padTo 36 (leBytes 4 n) }
    { s with rc := { s.rc with canvas := s.rc.canvas.take 65535 ++ (s.rc.canvas.drop 65535).map put, dropped := n } }
  else s

/-! Erasure (R433). -/

/-- A write of CV_ERASE by the supervisor context `c`. -/
def State.erase (s : State) (c v : Nat) : State :=
  if v = 0xE7A5 ∧ ¬ s.on Reg.CV_STATUS_ERASING then { s with rc := { s.rc with eraser := c } }.setFld Reg.CV_STATUS_ERASING 1 else s.recErr

/-- R433: the erasure ends: CANVAS_ERASED is record 0. -/
def State.eraseDone (s : State) : State :=
  if s.on Reg.CV_STATUS_ERASING then
    let n := s.rc.canvas.length
    let q := s.rc.queue
    let s1 : State := { s with rc := { s.rc with canvas := [], badRecs := [], queue := [], dropped := 0 } }
    let s2 := (((s1.setFld Reg.CV_STATUS_ERASING 0).setFld Reg.CV_STATUS_FULL 0).setFld Reg.CV_STATUS_CORRUPT 0).setFld Reg.CV_DROPPED_DROPPED 0
    let s3 := (s2.canvas 13 0x0002 (leBytes 4 n ++ leBytes 2 s.rc.eraser)).canvasDrain
    { s3 with rc := { s3.rc with queue := q } }.raise Reg.REC_EVENT_ERASE_DONE
  else s

/-- R433: an erasure cut short: the records below the place it had reached stand, and it is not resumed. -/
def State.eraseCut (s : State) : State :=
  if s.on Reg.CV_STATUS_ERASING then
    let n := Config.eraseLeft s.free % (s.rc.canvas.length + 1)
    let bad := s.rc.badRecs.filter (fun i => decide (i < n))
    let t := s.tick
    let t1 : State := { t with rc := { t.rc with canvas := t.rc.canvas.take n, badRecs := bad, dropped := if n = 65536 then t.rc.dropped else 0 } }
    let t2 := (t1.setFld Reg.CV_STATUS_COUNT n).setFld Reg.CV_STATUS_CORRUPT (min bad.length 8191)
    (t2.setBit Reg.CV_STATUS_FULL (decide (n = 65536))).setFld Reg.CV_STATUS_ERASING 0
  else s

/-- R412, R431: at a brown-out an erasure is cut short, the STOP record is written first, and then the queue drains into the store. -/
def State.brownDrain (s : State) : State :=
  let s1 := s.eraseCut
  let data := leBytes 1 3 ++ leBytes 1 0 ++ leBytes 2 0xFFFF ++ leBytes 4 0
  let cal := s1.calNow
  let r : CvRec :=
    { kind := 0x0031, source := 15, flags := s1.recFlags false false + s1.fld Reg.TB_STATUS_CAL_VALID, cal := cal.1,
      frac := cal.2 * 2 ^ 16 / 8000000000, ft := s1.ft, imageVer := s1.fld Reg.IMG_ACTIVE_VER_IMAGE_VER, data := padTo 36 data }
  ((s1.muslin 15 0x0031 data).writeRecord r).canvasDrain

/-! The windows (R429, R435, R437). -/

/-- The 16 words of Canvas record `i` (R390, R429): zeros where it is empty, open where its check fails. -/
def State.canvasWords (s : State) (i : Nat) : List Word :=
  if s.rc.badRecs.contains i then (List.range 16).map (fun w => BitVec.ofNat 32 (Config.badWord i w))
  else match s.rc.canvas[i]? with
    | some r => wordsOf (r.bytes i) 16
    | none => List.replicate 16 0

/-- A read of CV_DATA: word 0 latches the record; the index moves on. -/
def State.cvData (s : State) : State × Word :=
  let i := s.fld Reg.CV_IDX_RECORD
  let w := s.fld Reg.CV_IDX_WORD
  let s1 : State := if w = 0 then { s with rc := { s.rc with cvLatch := s.canvasWords i } } else s
  let s2 := s1.setFld Reg.CV_IDX_WORD (w + 1)
  (if w = 15 then s2.setFld Reg.CV_IDX_RECORD (i + 1) else s2, s1.rc.cvLatch.getD w 0)

/-- A read of MU_DATA: word 0 latches the entry (R435). -/
def State.muData (s : State) : State × Word :=
  let i := s.fld Reg.MU_IDX_ENTRY
  let w := s.fld Reg.MU_IDX_WORD
  let words : List Word := match sget (fun _ => none) s.rc.muslin i with | some e => wordsOf e.bytes 8 | none => List.replicate 8 0
  let s1 : State := if w = 0 then { s with rc := { s.rc with muLatch := words } } else s
  (s1.setFld Reg.MU_IDX_WORD (w + 1), s1.rc.muLatch.getD w 0)

/-- An access through TAG_DATA (R437): a read, or a write by the supervisor. -/
def State.tagData (s : State) (w : Option Word) : State × Word :=
  let i := s.fld Reg.TAG_IDX_WORD
  match w with
  | none => (s.setFld Reg.TAG_IDX_WORD (i + 1), sget (fun _ => 0) s.rc.tags i)
  | some v =>
    if s.fld Reg.TAG_WCOUNT_COUNT = 0xFFFFFFFF then (s.recErr, 0)
    else
      let s1 : State := { s with rc := { s.rc with tags := sset (fun _ => 0) s.rc.tags i v } }
      ((s1.bump Reg.TAG_WCOUNT_COUNT 1).setFld Reg.TAG_IDX_WORD (i + 1), 0)

/-! Counters and sampling (R438–R440). -/

/-- Table 17.4: the event numbers. -/
def eventListed (e : Nat) : Bool :=
  inRange 0 9 e || (inRange 0x010 0x01A e || (inRange 0x020 0x025 e || (inRange 0x040 0x046 e || (inRange 0x048 0x04E e || (inRange 0x050 0x056 e ||
    (inRange 0x060 0x080 e || (inRange 0x080 0x098 e || (inRange 0x0A0 0x0A2 e || inRange 0x0C0 0x0C4 e))))))))

/-- A write of PMC_CTRL.RUN. -/
def State.pmcRun (s : State) (b : Bool) : State := s.setBit Reg.PMC_CTRL_RUN b

/-- PMC_CTRL.CLEAR: every counter and PMC_OVF zeroed. -/
def State.pmcClear (s : State) : State :=
  let s1 := (List.range 64).foldl (fun s k => (s.setReg (0x5E0204 + 16 * (k % 64)) 0).setReg (0x5E0208 + 16 * (k % 64)) 0) s
  (s1.setReg 0x5E0104 0).setReg 0x5E0108 0

/-- A write of SMP_CTRL (R440): EN written 1 after 0 clears the buffer's count and starts again. -/
def State.smpWrite (s : State) (v : Nat) : State :=
  let start := bit v 8 && !s.on Reg.SMP_CTRL_EN
  let s1 := s.writeCodes 0x5E0600 v
  if start then { (s1.setReg 0x5E0608 0) with rc := { s1.rc with smpCount := 0, prbs := 0x7F } } else s1

/-- A supervisor's write in the block (R442); TAG_DATA has its own access. -/
def State.rcWrite (s : State) (c a v : Nat) : State :=
  if a = 0x5E0014 then s.erase c v
  else if a = 0x5E0100 then (if bit v 1 then (s.pmcRun (bit v 0)).pmcClear else s.pmcRun (bit v 0))
  else if inRange 0x5E0200 0x5E0600 a ∧ a % 16 = 0 then
    if eventListed (v % 1024) then s.writeCodes a (if a = 0x5E0200 then v &&& 0xFFFFF7FF else v) else s.recErr
  else if a = 0x5E0600 then s.smpWrite v
  else if a = 0x5E0604 then (if 16 ≤ v % 65536 then s.writeCodes a v else s.recErr)
  else s.writeCodes a v

end Sys2Proof.Machine
end

