-- ==== Sys2Proof/Machine/Hosts.lean ====
section
/-! DEFINITION. Hosts and contexts (chapter 13): the commands of the rings (R341–R345), ownership, inhibits and overrides (R349–R352),
binding (R357), context windows (R359), links and doorbells (R337, R356). -/

namespace Sys2Proof.Machine

/-! Taking and completing commands (R341–R344). -/

/-- The ring slots of context `c` that hold unconsumed completions or are reserved. -/
def State.cplUsed (s : State) (c : Nat) : Nat :=
  (s.fld (Reg.CW_CQ_TAIL_INDEX c) + 256 - s.fld (Reg.CW_CQ_HEAD_INDEX c)) % 256 + sget (fun _ => 0) s.hp.reserved c

/-- R341, R344: context `c` has a command and a free completion slot: bound, its ring enabled and not empty. -/
def State.ringWork (s : State) (c : Nat) : Bool :=
  s.on (Reg.CTX_CFG_BOUND c) && (s.on (Reg.CW_RING_EN c) &&
    (decide (s.fld (Reg.CW_SQ_HEAD_INDEX c) ≠ s.fld (Reg.CW_SQ_TAIL_INDEX c)) && decide (s.cplUsed c < 255)))

/-- R344: the contexts that the arbiter visits before `c`, after the one it served last. -/
def State.before (s : State) (c : Nat) : List Nat :=
  let n := s.variant.contexts
  let f := (s.hp.last + 1) % n
  if f ≤ c then (List.range (c - f)).map (f + ·) else (List.range (n - f)).map (f + ·) ++ List.range c

/-- R344: the arbiter's visit of the context it served last goes on: less than BUDGET taken in it, and work left. -/
def State.visiting (s : State) : Bool := decide (s.hp.run ≠ 0) && s.ringWork s.hp.last

/-- R344: the next command is context `c`'s: the visit under way is `c`'s, or, with none under way, no context before `c` has work. -/
def State.turn (s : State) (c : Nat) : Bool :=
  if s.visiting then decide (c = s.hp.last) else (s.before c).all (fun k => !s.ringWork k)

/-- R341, R344, R345: the arbiter takes a command of context `c`: it has one, it is its turn, no takeover is under way, a lane runs. -/
def State.mayTake (s : State) (c : Nat) : Bool :=
  decide (c < s.variant.contexts) && (s.ringWork c && (s.turn c && !s.holdsBack))

/-- R344: commands taken in the visit of context `c` after one more; 0 where BUDGET or the ring ends it. -/
def State.visit (s : State) (c : Nat) : Nat :=
  let n := if s.visiting then s.hp.run + 1 else 1
  if n ≤ s.fld (Reg.CTX_CFG_BUDGET c) ∧ (s.fld (Reg.CW_SQ_HEAD_INDEX c) + 1) % 256 ≠ s.fld (Reg.CW_SQ_TAIL_INDEX c) then n else 0

/-- A command taken: the head moves on, SERVED counts it, and it is the one the arbiter served last. -/
def State.take (s : State) (c : Nat) : State :=
  let s1 := (s.setFld (Reg.CW_SQ_HEAD_INDEX c) (s.fld (Reg.CW_SQ_HEAD_INDEX c) + 1)).bumpWrap (Reg.CTX_SERVED_SERVED c) 1
  { s1 with hp := { s1.hp with last := c, run := s.visit c } }.count (0x020 + s.fld (Reg.CTX_CFG_PORT c)) 1

/-- R342: the header's FLAGS bits other than IRQ and HDG_VALID must be 0, and the header fits its fields. -/
def headerOk (tag flags : Nat) : Bool := decide (tag < 2 ^ 16) && decide (flags < 2 ^ 8 ∧ flags &&& 0xFA = 0)

/-- A command of context `c` that completes at its execution: `run` gives its effect with status and results; a command that fails a
check (status other than 0) has no effect beside its completion (R343). -/
def State.command (s : State) (c tag flags : Nat) (run : State → State × Nat × Nat × Nat) : State :=
  if ¬ s.mayTake c then s
  else
    let s1 := s.take c
    if ¬ headerOk tag flags then s1.complete c tag flags 3 0 0
    else
      let r := run s1
      r.1.complete c tag flags r.2.1 r.2.2.1 r.2.2.2

/-- A completion slot reserved for a command that completes later (R341). -/
def State.reserve (s : State) (c : Nat) : State :=
  { s with hp := { s.hp with reserved := sset (fun _ => 0) s.hp.reserved c (sget (fun _ => 0) s.hp.reserved c + 1) } }

/-- A command of context `c` that completes later where `check` answers 0, else at once with that status. -/
def State.commandLater (s : State) (c tag flags : Nat) (check : State → Nat) (run : State → State) : State :=
  if ¬ s.mayTake c then s
  else
    let s1 := s.take c
    let st := if headerOk tag flags then check s1 else 3
    if st = 0 then run (s1.reserve c) else s1.complete c tag flags st 0 0

/-- Checks in order: the first that fails gives the status. -/
def firstStatus : List (Bool × Nat) → Nat
  | [] => 0
  | (ok, st) :: r => if ok then firstStatus r else st

/-- R346: a safety-inhibit context. -/
def State.inhibitor (s : State) (c : Nat) : Bool := !s.supervisor c && decide (s.fld (Reg.CTX_CFG_CLASS c) = 1)

/-- The outlets of a range. -/
def rangeOf (first count : Nat) : List Nat := (List.range count).map (first + ·)

/-- Table 13.2: a range of 1 to 1,024 outlets, its first a 16-bit number. -/
def rangeOk (first count : Nat) : Bool := decide (1 ≤ count) && (decide (count ≤ 1024) && decide (first < 2 ^ 16))

/-- R4: every outlet of a range is present. -/
def State.present (s : State) (first count : Nat) : Bool := decide (first + count ≤ s.variant.outlets)

/-- Every outlet of a range lies in a group of a grant of context `c`, or the context is the supervisor. -/
def State.grouped (s : State) (c : Nat) (g : Nat → Fld) (first count : Nat) : Bool :=
  s.supervisor c || (rangeOf first count).all (fun o => s.fbit (g c) (o / 32))

/-- Context `c` owns outlet `o`. -/
def State.owns (s : State) (c o : Nat) : Bool := s.on (Reg.OWN_OWNED o) && decide (s.fld (Reg.OWN_OWNER o) = c)

/-! Ownership (R350) as OWNo and OT_STATE show it. -/

/-- Outlet `o` gets an owner in a mode; a new owner has applied no rate since its claim. -/
def State.setOwner (s : State) (o c mode : Nat) : State :=
  let s1 := if s.owns c o then s else { s with lg := { s.lg with ownerRate := sdel o s.lg.ownerRate } }
  ((((s1.setFld (Reg.OWN_OWNER o) c).setFld (Reg.OWN_OWNED o) 1).setFld (Reg.OWN_MODE o) mode).setFld (Reg.OT_STATE_OWNER o) c).setFld (Reg.OT_STATE_OWNED o) 1

/-- Outlet `o` returns to the planner. -/
def State.freeOwner (s : State) (o : Nat) : State :=
  let s1 : State := { s with lg := { s.lg with ownerRate := sdel o s.lg.ownerRate } }
  ((((s1.setFld (Reg.OWN_OWNER o) 0).setFld (Reg.OWN_OWNED o) 0).setFld (Reg.OWN_MODE o) 0).setFld (Reg.OT_STATE_OWNER o) 0).setFld (Reg.OT_STATE_OWNED o) 0

/-- The outlets that context `c` owns. -/
def State.ownedBy (s : State) (c : Nat) : List Nat := (List.range s.variant.outlets).filter (s.owns c)

/-! Inhibits (R351). -/

/-- R351: an open outlet is brought closed on its target, whatever its SAFE_OPEN: close phases, off, or held on its link. -/
def State.bringClosed (s : State) (o : Nat) : State :=
  let t := s.fld (Reg.OT_CFG_TARGET o)
  let n := s.fld (Reg.OT_TARGET_CHAN o)
  let s0 := s.commandClosed (fun k => k = o)
  let s1 := if t = 1 ∧ (s0.valve n).safe = 2 then s0.setValve n { s0.valve n with safe := 1 } else s0
  if t = 1 then
    let st := s1.vState n
    if st = vOpening ∨ st = vHold ∨ st = vPreflux then (s1.cutWins n s1.ft).vClose n 0
    else if st = vModOff ∨ (st = vDecay ∧ (s1.valve n).after = 1) then s1.vClose n 0
    else s1
  else if t = 2 then s1.setLsw n { s1.lsw n with on := false, waiting := false, inrush := none }
  else if t = 3 then s1.setFout n { s1.fout n with on := false }
  else s1

/-- OT_STATE.INHIBIT and OWNo.INH_N follow the inhibits held on outlet `o`. -/
def State.inhibitRefresh (s : State) (o : Nat) : State :=
  let n := (s.hp.inhibits.filter (fun p => p.1 = o)).length
  (s.setFld (Reg.OWN_INH_N o) n).setBit (Reg.OT_STATE_INHIBIT o) (decide (n ≠ 0))

/-- The hold masks of the links follow (R236). -/
def State.holdsRefresh (s : State) : State := s.allLinks.foldl (fun s l => s.holdRefresh l) s

/-- R351: context `c` inhibits a range. -/
def State.inhibit (s : State) (c first count : Nat) : State :=
  let os := rangeOf first count
  let new := (os.map (fun o => (o, c))).filter (fun p => !s.hp.inhibits.contains p)
  let s1 : State := { s with hp := { s.hp with inhibits := s.hp.inhibits ++ new } }
  let s2 := os.foldl (fun s o => s.inhibitRefresh o) s1
  let s3 := s2.withdrawAll (fun e => inRange first (first + count) e.outlet && decide (e.kind ≠ kClose)) 5 4 c first (first + count - 1) true
  os.foldl (fun s o => s.bringClosed o) s3

/-- Inhibits that `p` selects are lifted from a range. -/
def State.lift (s : State) (p : Nat × Nat → Bool) (first count : Nat) : State :=
  let s1 : State := { s with hp := { s.hp with inhibits := s.hp.inhibits.filter (fun x => !(inRange first (first + count) x.1 && p x)) } }
  ((rangeOf first count).foldl (fun s o => s.inhibitRefresh o) s1).holdsRefresh

/-! Boundary changes (R349). -/

/-- A change that waits for its frame boundary. -/
def State.await (s : State) (kind : ChangeKind) (c tag flags first count : Nat) : State :=
  { s with hp := { s.hp with changes := s.hp.changes ++ [⟨kind, c, tag, flags, first, count, s.ft⟩] } }

/-- The command in slot `i` of the ring of an SPI context, as its header's tag and flags (R339); what stands in the memory of a PCIe
host is not the part's. -/
def State.slotHeader (s : State) (c i : Nat) : Nat × Nat :=
  let p := s.fld (Reg.CTX_CFG_PORT c)
  if 2 ≤ p then
    let a := (p - 2) * 0x80000 + 0x4000 * s.fld (Reg.CTX_CFG_SPI_SLOT c) + 32 * i
    let b (k : Nat) : Nat := (sget (fun _ => (0 : Byte)) s.hp.ring (a + k)).toNat
    (b 2 + 256 * b 3, b 1)
  else (Config.ringHeader c i s.free % 2 ^ 16, Config.ringHeader c i s.free / 2 ^ 16 % 2 ^ 8)

/-- R357: commands of context `c` not yet executed complete UNBOUND, as far as completion slots are free. -/
def State.flushRing (s : State) (c : Nat) : Nat → State
  | 0 => s
  | n + 1 =>
    let i := s.fld (Reg.CW_SQ_HEAD_INDEX c)
    if i = s.fld (Reg.CW_SQ_TAIL_INDEX c) then s
    else
      let h := s.slotHeader c i
      let s1 := s.setFld (Reg.CW_SQ_HEAD_INDEX c) (i + 1)
      let s2 := if s1.cplUsed c < 255 then s1.complete c h.1 h.2 12 0 0 else s1
      s2.flushRing c n

/-- The ring and the streams of context `c` are disabled (R337, R357). -/
def State.ringsOff (s : State) (c : Nat) : State :=
  (List.range 4).foldl (fun s k => s.setFld (Reg.CW_STR_CFG_EN c k) 0) (s.setFld (Reg.CW_RING_EN c) 0)

/-- R357: context `c` is bound. -/
def State.bind (s : State) (c : Nat) : State := (s.setFld (Reg.CTX_CFG_BOUND c) 1).setFld (Reg.CTX_CFG_BIND_PEND c) 0

/-- R357: context `c` is unbound; its inhibits stay. -/
def State.unbind (s : State) (c : Nat) : State :=
  if s.on (Reg.CTX_CFG_BOUND c) then
    let s1 := ((s.tick.flushRing c 255).ctxIrq c 4).ringsOff c
    let s2 := (s1.ownedBy c).foldl (fun s o => s.freeOwner o) s1
    (s2.setFld (Reg.CTX_CFG_BOUND c) 0).setFld (Reg.CTX_CFG_BIND_PEND c) 0
  else s.setFld (Reg.CTX_CFG_BIND_PEND c) 0

/-- R349: order of application of a change. -/
def ChangeKind.rank : ChangeKind → Nat
  | .bind _ => 0
  | .unbind _ => 0
  | .grant _ _ => 0
  | .take _ _ => 1
  | .free => 1
  | .release => 2
  | .claim _ => 3

/-- R349, R350, R352: one change applied, with its completion. -/
def State.applyChange (s : State) (x : Change) : State :=
  let os := rangeOf x.first x.count
  let done (s : State) (st : Nat) : State := s.finish x.ctx x.tag x.flags st
  match x.kind with
  | .bind t => done (s.bind t) 0
  | .unbind t => done (s.unbind t) 0
  | .grant t v => s.setBit (Reg.CTX_PERM_COUNTERS_GRANT t) v
  | .take m t => done (os.foldl (fun s o => s.setOwner o t m) s) 0
  | .free => done (os.foldl (fun s o => s.freeOwner o) s) 0
  | .release =>
    if os.all (s.owns x.ctx) then done (os.foldl (fun s o => s.freeOwner o) s) 0 else done s 4
  | .claim m =>
    if ¬ s.on (Reg.CTX_CFG_BOUND x.ctx) then done s 12
    else if os.all (fun o => !s.on (Reg.OWN_OWNED o) || s.owns x.ctx o) then done (os.foldl (fun s o => s.setOwner o x.ctx m) s) 0
    else done s 4

/-- R349: the changes due at the frame start `tk`: those executed at least 20 µs before it, in order of kind, then of execution; none
while no lane runs (R384). -/
def State.boundary (s : State) (tk : Time) : State :=
  let ready (x : Change) : Bool := decide (s.fld Reg.RES_STATE_STATE ≠ 3) && decide (160000 ≤ tdiff tk x.ft)
  let now := s.hp.changes.filter ready
  let s1 : State := { s with hp := { s.hp with changes := s.hp.changes.filter (fun x => !ready x) } }
  (List.range 4).foldl (fun s r => (now.filter (fun x => x.kind.rank = r)).foldl (fun s x => s.applyChange x) s) s1

/-! The commands of Table 13.2 but the register accesses. -/

/-- NOP (Table 13.2). -/
def State.cmdNop (s : State) (c tag flags : Nat) : State := s.command c tag flags (fun s => (s, 0, 0, 0))

/-- R350: the mode in which an owner holds an outlet admits a kind of event. -/
def modeAdmits (mode kind : Nat) : Bool :=
  if kind = kRate then decide (mode = 2) || decide (mode = 3) else decide (mode = 1) || decide (mode = 3)

/-- R377: a quiet commit is pending. -/
def State.quietPending (s : State) : Bool := decide (s.fld Reg.IMG_STATUS_STAGE = 4) && !s.on Reg.IMG_STATUS_LIVE

/-- R162: the checks of EDGE, in order. -/
def State.edgeStatus (s : State) (c outlet kind : Nat) (due : Time) (rate : Nat) : Nat :=
  firstStatus
    [(decide (kind ≤ 2) && (decide (outlet < 2 ^ 16) && decide (rate < 2 ^ 20)), 3),
     (decide (outlet < s.variant.outlets), 1),
     (!s.inhibitor c && !s.quietPending, 2),
     (s.owns c outlet && modeAdmits (s.fld (Reg.OWN_MODE outlet)) kind, 4),
     (decide (kind = kClose) || !(s.on Reg.RES_STATE_STOP || s.on Reg.RES_STATE_HELD_SAFE), 11),
     (s.on (Reg.OT_STATE_PLANNABLE outlet), 7),
     (decide ((s.commitLead outlet : Int) ≤ tdiff due s.ft), 5),
     (decide (tdiff due s.ft ≤ 8000000 * s.tb.horizon), 6)]

/-- The entry of an EDGE command (R162). -/
def State.edgeEntry (s : State) (c outlet kind : Nat) (due : Time) (rate : Nat) : Entry :=
  { st := eBooked, kind := kind, outlet := outlet, ctx := some c, frame := s.fld Reg.FRM_NO_NUMBER, due := due, frameDue := due,
    param := if kind = kClose then 0 else rate, remote := decide (s.fld (Reg.OT_CFG_TARGET outlet) = 4),
    delay := (s.delays kind outlet).1, delayA := (s.delays kind outlet).2 }

/-- EDGE (R162, Table 13.2). -/
def State.cmdEdge (s : State) (c tag flags outlet kind : Nat) (due : Time) (rate : Nat) : State :=
  s.command c tag flags (fun s =>
    let st := s.edgeStatus c outlet kind due rate
    if st ≠ 0 then (s, st, 0, 0)
    else
      let r := s.bookEntry (s.edgeEntry c outlet kind due rate)
      match r.2 with
      | some i => (r.1, 0, i, due.toNat)
      | none => (r.1, 8, 0, 0))

/-- CLAIM (R350): ownership is judged at the boundary. -/
def State.cmdClaim (s : State) (c tag flags first count mode : Nat) : State :=
  s.commandLater c tag flags
    (fun s => firstStatus [(rangeOk first count && (decide (1 ≤ mode) && decide (mode ≤ 3)), 3), (s.present first count, 1),
      (!s.inhibitor c && s.grouped c Reg.CTX_OWN_GROUPS first count, 2)])
    (fun s => s.await (.claim mode) c tag flags first count)

/-- RELEASE (R350). -/
def State.cmdRelease (s : State) (c tag flags first count : Nat) : State :=
  s.commandLater c tag flags
    (fun s => firstStatus [(rangeOk first count, 3), (s.present first count, 1), (!s.inhibitor c, 2), ((rangeOf first count).all (s.owns c), 4)])
    (fun s => s.await .release c tag flags first count)

/-- The checks of INHIBIT, either action (Table 13.2). -/
def State.inhibitStatus (s : State) (c first count : Nat) : Nat :=
  firstStatus [(rangeOk first count, 3), (s.present first count, 1),
    ((s.supervisor c || s.inhibitor c) && s.grouped c Reg.CTX_INH_GROUPS first count, 2)]

/-- INHIBIT (R351). -/
def State.cmdInhibit (s : State) (c tag flags first count : Nat) : State :=
  s.command c tag flags (fun s =>
    let st := s.inhibitStatus c first count
    if st = 0 then (s.inhibit c first count, 0, 0, 0) else (s, st, 0, 0))

/-- INHIBIT with action 0: each context lifts only its own (R351). -/
def State.cmdInhibitLift (s : State) (c tag flags first count : Nat) : State :=
  s.command c tag flags (fun s =>
    let st := s.inhibitStatus c first count
    if st = 0 then (s.lift (fun x => x.2 = c) first count, 0, 0, 0) else (s, st, 0, 0))

/-- The checks that every OVERRIDE makes. -/
def State.overrideStatus (s : State) (c first count : Nat) : Nat :=
  firstStatus [(rangeOk first count, 3), (s.present first count, 1), (s.supervisor c, 2)]

/-- The OVERRIDE record (Table 17.1). -/
def State.overrideRecord (s : State) (action mode c first count target : Nat) (since : Time) : State :=
  s.canvas 14 0x0033 (leBytes 1 action ++ leBytes 1 mode ++ leBytes 2 c ++ leBytes 2 first ++ leBytes 2 count ++ leBytes 2 target ++ leBytes 2 0 ++
    leBytes 8 since.toNat)

/-- OVERRIDE WITHDRAW (R352). -/
def State.cmdOverrideWithdraw (s : State) (c tag flags first count : Nat) (since : Time) : State :=
  s.command c tag flags (fun s =>
    let st := s.overrideStatus c first count
    if st ≠ 0 then (s, st, 0, 0)
    else
      let s1 := s.withdrawAll (fun e => inRange first (first + count) e.outlet && tge e.due since) 6 5 c first (first + count - 1) true
      (s1.overrideRecord 1 0 c first count 0 since, 0, 0, 0))

/-- OVERRIDE LIFT (R352). -/
def State.cmdOverrideLift (s : State) (c tag flags first count : Nat) : State :=
  s.command c tag flags (fun s =>
    let st := s.overrideStatus c first count
    if st = 0 then ((s.lift (fun _ => true) first count).overrideRecord 3 0 c first count 0 0, 0, 0, 0) else (s, st, 0, 0))

/-- OVERRIDE TAKE (R352): a safety-inhibit context never owns an outlet (R346). -/
def State.cmdOverrideTake (s : State) (c tag flags first count mode target : Nat) : State :=
  s.commandLater c tag flags
    (fun s => firstStatus [(rangeOk first count && (decide (1 ≤ mode) && (decide (mode ≤ 3) && decide (target < 2 ^ 16))), 3),
      (s.present first count && decide (target < s.variant.contexts), 1), (s.supervisor c && !s.inhibitor target, 2)])
    (fun s => (s.await (.take mode target) c tag flags first count).overrideRecord 2 mode c first count target 0)

/-- OVERRIDE FREE (R352). -/
def State.cmdOverrideFree (s : State) (c tag flags first count : Nat) : State :=
  s.commandLater c tag flags (fun s => s.overrideStatus c first count)
    (fun s => (s.await .free c tag flags first count).overrideRecord 4 0 c first count 0 0)

/-- R152: the field time nearest the present one whose low 40 bits are given; the earlier of two at a tie. -/
def State.full40 (s : State) (lo : Nat) : Time :=
  let d := (lo + 2 ^ 40 - s.ft.toNat % 2 ^ 40) % 2 ^ 40
  if d < 2 ^ 39 then s.ft + BitVec.ofNat 64 d else s.ft - BitVec.ofNat 64 (2 ^ 40 - d)

/-- The operands of FIX fit their fields (Table 13.2). -/
def fixFits (f : FixIn) : Bool :=
  let s40 (v : Int) : Bool := decide (-(2 ^ 39) ≤ v) && decide (v < 2 ^ 39)
  s40 f.e && (s40 f.n && (s40 f.u && (decide (f.rad < 2 ^ 20) && (decide (f.qual < 4) && (decide (f.ant < 4) &&
    f.hdg.all (fun h => decide (h.1 < 2 ^ 20) && decide (h.2 < 2 ^ 20)))))))

/-- FIX (R342): stamped by its low 40 bits; the heading counts where FLAGS holds HDG_VALID. -/
def State.cmdFix (s : State) (c tag flags : Nat) (f : FixIn) : State :=
  s.command c tag flags (fun s =>
    let st := firstStatus [(fixFits f, 3), (!s.inhibitor c && s.holds c Reg.CTX_PERM_FIX_SOURCE, 2)]
    if st = 0 then
      (s.submitFix { f with stamp := s.full40 (f.stamp.toNat % 2 ^ 40), hdg := if bit flags 2 then f.hdg else none }, 0, 0, 0)
    else (s, st, 0, 0))

/-- The header word of a frame: ID [28:0], IDE [29], FDF [30], BRS [31]. -/
def hdrOf (id : Nat) (ide fdf brs : Bool) : Nat := id % 2 ^ 29 + 2 ^ 29 * b2n ide + 2 ^ 30 * b2n fdf + 2 ^ 31 * b2n brs

/-- BUS_SEND (R323, R342): completes when its queue entry departs. -/
def State.cmdBusSend (s : State) (c tag flags port dlc : Nat) (oneShot ide fdf brs : Bool) (id : Nat) (data : List Byte) : State :=
  if ¬ s.mayTake c then s
  else
    let s1 := s.take c
    let st := firstStatus [(headerOk tag flags && (decide (port < 6) && (decide (dlc < 16) && decide (id < if ide then 2 ^ 29 else 2 ^ 11))), 3), (!s1.busAbsent port, 1),
      (!s1.inhibitor c, 2), (decide (dlc ≤ 10), 13)]
    if st ≠ 0 then s1.complete c tag flags st 0 0
    else
      let e : QEntry := { ctx := c, cmd := some (tag, flags), hdr := hdrOf id ide fdf brs, dlc := dlc, oneShot := oneShot, data := padTo (dlcBytes fdf dlc) data }
      let r := s1.enqueue port e
      if r.2 = 0 then r.1.reserve c else r.1.complete c tag flags r.2 0 0

/-- The checks of BIND, either action: the named context exists and is defined, the issuer is privileged. -/
def State.bindStatus (s : State) (c target : Nat) : Nat :=
  firstStatus [(decide (target < 2 ^ 16), 3), (decide (target < s.variant.contexts), 1), (s.supervisor c, 2), (s.on (Reg.CTX_CFG_DEFINED target), 3)]

/-- BIND (R357). -/
def State.cmdBind (s : State) (c tag flags target : Nat) : State :=
  s.commandLater c tag flags (fun s => s.bindStatus c target)
    (fun s => (s.await (.bind target) c tag flags 0 0).setFld (Reg.CTX_CFG_BIND_PEND target) 1)

/-- BIND with action 0 (R357). -/
def State.cmdUnbind (s : State) (c tag flags target : Nat) : State :=
  s.commandLater c tag flags (fun s => s.bindStatus c target)
    (fun s => (s.await (.unbind target) c tag flags 0 0).setFld (Reg.CTX_CFG_BIND_PEND target) 1)

/-! Context windows and the host block (R359). -/

/-- A bound context's write of CW_SQ_TAIL (R341). -/
def State.sqTail (s : State) (c v : Nat) : State :=
  if c < s.variant.contexts ∧ s.on (Reg.CTX_CFG_BOUND c) then s.setFld (Reg.CW_SQ_TAIL_INDEX c) v else s

/-- A write of CW_STR_CFG (R353). -/
def strCfgLegal (v : Nat) : Bool :=
  let kind := bitsOf v 0 3
  let size := bitsOf v 3 5
  !bit v 8 || ((decide (1 ≤ kind) && decide (kind ≤ 4)) && (decide (4 ≤ size) && decide (size ≤ 16)))

/-- A message where interrupt bits set and enabled now were not before (R355). -/
def State.irqRises (s : State) (c before : Nat) : State :=
  if (s.reg (0x2C + 0x1000 * c)).toNat &&& (s.reg (0x30 + 0x1000 * c)).toNat &&& (0x3F ^^^ before) = 0 then s else s.ctxMessage c

/-- EN written 1 for a ring or a stream of context `c`: its port's DMA, if a reset or link-down has stopped it, runs again (DESIGN CHOICE,
log 11). -/
def State.dmaStarts (s : State) (c : Nat) : State :=
  let p := s.fld (Reg.CTX_CFG_PORT c)
  if s.hp.dmaOff.contains p then { s with hp := { s.hp with dmaOff := s.hp.dmaOff.filter (· ≠ p) } } else s

/-- A write in the window of bound context `c`, but for CW_RDATA and CW_HALT (R359); EN written 1 clears RING_ERR (DESIGN CHOICE, log 11). -/
def State.cwWrite (s : State) (c off v : Nat) : State :=
  let a := 0x1000 * c + off
  let err := s.raise Reg.HP_EVENT_CFG_ERR
  let spi := decide (2 ≤ s.fld (Reg.CTX_CFG_PORT c))
  if inRange 0x08 0x18 off then
    if spi then s
    else if s.on (Reg.CW_RING_EN c) ∨ (off % 8 = 0 ∧ v % 4096 ≠ 0) then err
    else s.writeCodes a v
  else if off = 0x18 then (if bit v 0 then ((s.dmaStarts c).setFld (Reg.CW_RING_RING_ERR c) 0).writeCodes a v else s.writeCodes a v)
  else if off = 0x1C then s.sqTail c v
  else if off = 0x30 then
    (s.writeCodes a v).irqRises c ((s.reg (0x2C + 0x1000 * c)).toNat &&& (s.reg a).toNat)
  else if inRange 0x40 0xC0 off ∧ off % 0x20 = 8 then
    if strCfgLegal v then (if bit v 8 then s.dmaStarts c else s).writeCodes a v else err
  else s.writeCodes a v

/-- A read in the window of context `c`, but for CW_RDATA (R357): CW_ID always; the rest only while the context is bound. -/
def State.cwRead (s : State) (c off : Nat) : Word :=
  if off = 0 then
    if s.on (Reg.CTX_CFG_DEFINED c) then
      BitVec.ofNat 32 (c + 2 ^ 10 * s.fld (Reg.CTX_CFG_PORT c) + 2 ^ 12 * s.fld (Reg.CTX_CFG_CLASS c) + 2 ^ 14 * s.fld (Reg.CTX_CFG_BOUND c))
    else 0
  else if s.on (Reg.CTX_CFG_BOUND c) then (sget (fun _ => none) s.latch (0x1000 * c + off)).getD (BitVec.ofNat 32 (s.readCodes (0x1000 * c + off)))
  else 0

/-- A write of an MSI-X entry's mask: a message that was pending goes out when the mask clears. -/
def State.msixUnmask (s : State) (p v : Nat) : State :=
  let f : Fld := ⟨msixPba p + 4 * (v / 32 % 2), 0, 32⟩
  if (s.reg (msixTable p + 16 * v + 12)).toNat % 2 = 0 ∧ s.fbit f (v % 32) then (s.setFbit f (v % 32) false).msix p v else s

/-- A supervisor's write in the host block, but for the doorbell (R359). -/
def State.hpWrite (s : State) (a v : Nat) : State :=
  if a = 0x5B000C then (s.writeCodes a v).supNotify (s.supIrq &&& s.fld Reg.SUP_IRQ_EN_EN)
  else if inRange 0x5B1000 0x5B9000 a ∧ a % 0x20 = 4 then
    s.await (.grant ((a - 0x5B1000) / 0x20) (bit v 4)) 0 0 0 0 0
  else if inRange 0x5BA000 0x5BA400 a ∧ a % 16 = 12 then (s.writeCodes a v).msixUnmask 0 ((a - 0x5BA000) / 16)
  else if inRange 0x5BC000 0x5BC400 a ∧ a % 16 = 12 then (s.writeCodes a v).msixUnmask 1 ((a - 0x5BC000) / 16)
  else s.writeCodes a v

/-- R356: a doorbell write through window `w` of a context, or at HP_HALT as the port's direct context; an unbound context's doorbell
is ignored. -/
def State.ring (s : State) (p : Nat) (w : Option Nat) (v : Nat) : State :=
  match w with
  | none => if p < 4 then s.doorbell p (s.directCtx p) v else s
  | some c => if p < 4 ∧ c < s.variant.contexts ∧ s.on (Reg.CTX_CFG_BOUND c) then s.doorbell p c v else s

/-- R337: a function-level reset, a hot reset or a link-down on HP0 or HP1. -/
def State.linkDown (s : State) (p : Nat) (down : Bool) : State :=
  if 2 ≤ p then s
  else
    let cs := s.boundContexts.filter (fun c => s.fld (Reg.CTX_CFG_PORT c) = p)
    let s1 := cs.foldl (fun s c => s.ringsOff c) s
    let s2 := if down then s1.setFbit Reg.HP_STATUS_LINK_UP p false else s1
    let s3 : State := { s2 with hp := { s2.hp with dmaOff := s2.hp.dmaOff.filter (· ≠ p) ++ [p] } }
    s3.raiseBit Reg.HP_EVENT_LINK_DOWN p

end Sys2Proof.Machine
end

