-- ==== Sys2Proof/Machine/Crypto.lean ====
section
/-! DEFINITION. SHA-256 and ECDSA on P-256 (R366), PRESUMED as FIPS 180-4 and FIPS 186-4 define them. -/

namespace Sys2Proof.Machine

/-- The 64 primes below 312: no number from 2 to 17 below them divides them. -/
def smallPrimes : List Nat :=
  (List.range 312).filter (fun n =>
    decide (2 ≤ n) && (List.range 18).all (fun q => decide (q < 2) || (decide (n ≤ q) || decide (n % q ≠ 0))))

/-- The largest `r + d` with `d < 2^k` whose power `e` does not exceed `x`, found bit by bit from the top. -/
def rootBits (e x : Nat) : Nat → Nat → Nat
  | 0, r => r
  | k + 1, r => rootBits e x k (if (r + 2 ^ k) ^ e ≤ x then r + 2 ^ k else r)

/-- The first 32 bits of the fractional part of the root of degree `e` of a prime: the constants of FIPS 180-4 (5.3.3 with square
roots, 4.2.2 with cube roots). -/
def rootWord (e q : Nat) : Nat := rootBits e (q * 2 ^ (32 * e)) 40 0 % 2 ^ 32

/-- A word turned right by each distance of a list, all of them combined by exclusive or. -/
def turns (ds : List Nat) (x : Nat) : Nat :=
  ds.foldl (fun a d => a ^^^ (x / 2 ^ d + x * 2 ^ (32 - d)) % 2 ^ 32) 0

/-- The message schedule, newest word first, `n` words longer. -/
def shaExtend : Nat → List Nat → List Nat
  | 0, w => w
  | n + 1, w =>
    let near := w.getD 1 0
    let far := w.getD 14 0
    let small := (turns [7, 18] far ^^^ far / 8) + (turns [17, 19] near ^^^ near / 1024)
    shaExtend n ((w.getD 15 0 + w.getD 6 0 + small) % 2 ^ 32 :: w)

/-- The working variables as two histories, newest first: a, b, c, d are the last four values of the one and e, f, g, h of the other;
a round lengthens both. -/
def shaRound (v : List Nat × List Nat) (kw : Nat) : List Nat × List Nat :=
  let e := v.2.getD 0 0
  let choice := (e &&& v.2.getD 1 0) + (v.2.getD 2 0 - (e &&& v.2.getD 2 0))
  let in1 := v.2.getD 3 0 + turns [6, 11, 25] e + choice + kw
  let a := v.1.getD 0 0
  let major := (a &&& (v.1.getD 1 0 ||| v.1.getD 2 0)) ||| (v.1.getD 1 0 &&& v.1.getD 2 0)
  ((in1 + turns [2, 13, 22] a + major) % 2 ^ 32 :: v.1.take 3, (v.1.getD 3 0 + in1) % 2 ^ 32 :: v.2.take 3)

/-- One block's compression: 64 rounds, each with its constant and its word, then the sum with the hash so far. -/
def shaBlock (ks h : List Nat) (bs : List Byte) : List Nat :=
  let first := (List.range 16).map (fun i => beNat (slice bs (4 * i) 4))
  let kws := List.zipWith (· + ·) ks (shaExtend 48 first.reverse).reverse
  let v := kws.foldl shaRound (h.take 4, h.drop 4)
  List.zipWith (fun x y => (x + y) % 2 ^ 32) h (v.1 ++ v.2)

/-- The blocks of a padded message. -/
def shaGo (ks : List Nat) : Nat → List Nat → List Byte → List Nat
  | 0, h, _ => h
  | n + 1, h, bs => shaGo ks n (shaBlock ks h (bs.take 64)) (bs.drop 64)

/-- Big-endian bytes of a number. -/
def beBytes (n v : Nat) : List Byte := (leBytes n v).reverse

/-- SHA-256 as a 256-bit number (FIPS 180-4). -/
def sha256 (bs : List Byte) : Nat :=
  let l := bs.length
  let pad := (119 - l % 64) % 64
  let m := bs ++ (0x80 : Byte) :: (List.replicate pad (0 : Byte) ++ beBytes 8 (8 * l))
  let start := (smallPrimes.take 8).map (rootWord 2)
  (shaGo (smallPrimes.map (rootWord 3)) (m.length / 64) start m).foldl (fun a w => a * 2 ^ 32 + w) 0

/-- The curve P-256 (FIPS 186-4, D.1.2.3): prime, order, coefficient b and base point; a is p - 3. -/
def p256P : Nat := 0xffffffff00000001000000000000000000000000ffffffffffffffffffffffff
def p256N : Nat := 0xffffffff00000000ffffffffffffffffbce6faada7179e84f3b9cac2fc632551
def p256B : Nat := 0x5ac635d8aa3a93e7b3ebbd55769886bc651d06b0cc53b0f63bce3c3e27d2604b
def p256G : Nat × Nat :=
  (0x6b17d1f2e12c4247f8bce6e563a440f277037d812deb33a0f4a13945d898c296,
   0x4fe342e2fe1a7f9b8ee7eb4a7c0f9e162bce33576b315ececbb6406837bf51f5)

/-- `a` to the power `e` modulo `m`, by the bits of `e` from the top of `k`. -/
def powMod (m a e : Nat) : Nat → Nat
  | 0 => 1
  | k + 1 =>
    let r := powMod m a (e / 2) k
    let q := r * r % m
    if e % 2 = 1 then q * a % m else q

/-- The inverse modulo a prime. -/
def invMod (m a : Nat) : Nat := powMod m (a % m) (m - 2) 256

/-- Doubling and addition in Jacobian coordinates; z = 0 is the point at infinity. -/
def ecDouble (q : Nat × Nat × Nat) : Nat × Nat × Nat :=
  let (x, y, z) := q
  let p := p256P
  let yy := y * y % p
  let s := 4 * x * yy % p
  let zz := z * z % p
  let m := 3 * ((x + p - zz) * (x + zz) % p) % p
  let x3 := (m * m + 2 * p - 2 * s % p) % p
  let y3 := (m * (s + p - x3) + (p - 8 * (yy * yy % p) % p)) % p
  (x3, y3, 2 * y * z % p)
def ecAdd (q r : Nat × Nat × Nat) : Nat × Nat × Nat :=
  let (x1, y1, z1) := q
  let (x2, y2, z2) := r
  let p := p256P
  if z1 = 0 then r else if z2 = 0 then q
  else
    let z1z := z1 * z1 % p
    let z2z := z2 * z2 % p
    let u1 := x1 * z2z % p
    let u2 := x2 * z1z % p
    let s1 := y1 * (z2 * z2z % p) % p
    let s2 := y2 * (z1 * z1z % p) % p
    if u1 = u2 then (if s1 = s2 then ecDouble q else (1, 1, 0))
    else
      let h := (u2 + p - u1) % p
      let d := (s2 + p - s1) % p
      let hh := h * h % p
      let hhh := h * hh % p
      let v := u1 * hh % p
      let x3 := (d * d + (p - hhh) + (2 * p - 2 * v)) % p
      let y3 := (d * (v + p - x3) + (p - s1 * hhh % p)) % p
      (x3, y3, h * (z1 * z2 % p) % p)

/-- `k` times a point, over `n` bits. -/
def ecMul (q : Nat × Nat × Nat) (k : Nat) : Nat → Nat × Nat × Nat
  | 0 => (1, 1, 0)
  | n + 1 =>
    let d := ecDouble (ecMul q (k / 2) n)
    if k % 2 = 1 then ecAdd d q else d

/-- ECDSA verification (FIPS 186-4, 6.4): the public key is a point of the curve, r and s lie in 1 to n - 1. -/
def ecdsaOk (key sig : List Byte) (digest : Nat) : Bool :=
  let x := beNat (slice key 0 32)
  let y := beNat (slice key 32 32)
  let r := beNat (slice sig 0 32)
  let s := beNat (slice sig 32 32)
  let p := p256P
  let n := p256N
  if x < p ∧ y < p ∧ y * y % p = (x * x * x + (p - 3) * x + p256B) % p ∧ 0 < r ∧ r < n ∧ 0 < s ∧ s < n then
    let w := invMod n s
    let q := ecAdd (ecMul (p256G.1, p256G.2, 1) (digest * w % n) 256) (ecMul (x, y, 1) (r * w % n) 256)
    if q.2.2 = 0 then false
    else
      let zi := invMod p q.2.2
      decide (q.1 * (zi * zi % p) % p % n = r)
  else false

end Sys2Proof.Machine
end

