-- ==== Sys2Proof/Machine/ImageCheck.lean ====
section
/-! DEFINITION. The form of a Damask image (R360–R365): header, directory, record layout, and the checks of Table 14.5 up to code 10. -/

namespace Sys2Proof.Machine

/-- A failed check: code of Table 14.5, directory entry, rule number, byte offset (R369). -/
structure Bad where
  code : Nat
  seg : Nat := 0
  rule : Nat := 0
  ofs : Nat
  deriving DecidableEq, Repr

/-- The first failure among several checks in order. -/
def firstBad : List (Unit → Option Bad) → Option Bad
  | [] => none
  | f :: fs => match f () with
    | some b => some b
    | none => firstBad fs

/-- One check: `bad` fails under a code at an offset. -/
def failIf (bad : Bool) (code ofs : Nat) : Unit → Option Bad := fun _ => if bad then some { code := code, ofs := ofs } else none

/-- Bit of VARIANT_MASK (Table 14.2). -/
def Variant.imageBit : Variant → Nat
  | .f1024 => 0
  | .l1024 => 1
  | .f0512 => 2

/-- A directory entry (Table 14.3) with its place. -/
structure SegEntry where
  no : Nat
  type : Nat
  off : Nat
  size : Nat
  check : Nat
  deriving DecidableEq, Repr

/-- The directory's entries. -/
def segEntries (bs : List Byte) : List SegEntry :=
  (List.range (leAt bs 24 2)).map (fun i =>
    let e := slice bs (64 + 16 * i) 16
    { no := i, type := leAt e 0 1, off := leAt e 4 4, size := leAt e 8 4, check := leAt e 12 4 })

/-- The directory entry whose segment holds the byte at `ofs`. -/
def segAt (es : List SegEntry) (ofs : Nat) : Nat := ((es.find? (fun e => decide (e.off ≤ ofs) && decide (ofs < e.off + e.size))).map (·.no)).getD 0

/-- The first non-zero byte of `bs`, whose first byte lies at `o`. -/
def firstNonzero (o : Nat) : List Byte → Option Nat
  | [] => none
  | b :: bs => if b = 0 then firstNonzero (o + 1) bs else some o

/-- R362: the directory's entries in order: `prev` is the end of the last one, `seen` the types met below 0x0A. -/
def dirGo (bs : List Byte) (top : Nat) : List SegEntry → Nat → List Nat → Option Bad
  | [], prev, _ => (firstNonzero prev (slice bs prev (top - prev))).map (fun o => { code := 5, ofs := o })
  | e :: es, prev, seen =>
    let at' := 64 + 16 * e.no
    let okType := (decide (1 ≤ e.type) && decide (e.type ≤ 9) && !seen.contains e.type) || decide (0x80 ≤ e.type)
    let reserved := leAt bs (at' + 1) 3
    if okType && (decide (reserved = 0) && (decide (e.off % 16 = 0) && (decide (e.size % 4 = 0) && (decide (prev ≤ e.off) &&
        decide (e.off + e.size ≤ top))))) then
      match firstNonzero prev (slice bs prev (e.off - prev)) with
      | some o => some { code := 5, seg := e.no, ofs := o }
      | none => dirGo bs top es (e.off + e.size) (if e.type ≤ 9 then e.type :: seen else seen)
    else some { code := 5, seg := e.no, ofs := at' }

/-- A 20-bit word's bits, and all bits of a word. -/
def m20 : Nat := 0xFFFFF
def m32 : Nat := 0xFFFFFFFF

/-- Words 0x40 to 0xBC of a profile block: four per phase. -/
def phaseMasks : List Nat := (List.range 8).flatMap (fun _ => [0xF, m20, m20, m20])

/-- R364, R365: the settable bits of the words of a record kind; the last mask repeats. An unknown kind has none. -/
def kindMasks (kind : Nat) : List Nat :=
  match kind with
  | 0x0101 => [0x03FFFFFF, 0x3FFF, m20, m20, m20, m20, 0x3FFFFF, m20, m20, m20, m20, m20, 0x1FFFFFFF]
  | 0x0102 => [0x7FFFFF, 0x3FFFFF, m32]
  | 0x0103 => [m32]
  | 0x0201 => [0x3FFF, m20, m20, m20, m32, m32, m20, m20, m20, m20, 0, 0, 0, 0, 0, 0] ++ phaseMasks
  | 0x0202 => [0x78000]
  | 0x0301 => [0xFFF, m20]
  | 0x0302 => [m32, m32, 0xFF, m20, m20, 0, 0, 0] ++ List.replicate 16 m32 ++ (List.range 8).flatMap (fun _ => [0x7FFFF, m20])
  | 0x0303 => [m20]
  | 0x0304 => [m20]
  | 0x0305 => [m20]
  | 0x0306 => [0x3FFFFF, m20]
  | 0x0401 => [0x7FFFFFF, 0x7FFFFFF, 0x1FFFF, m20, 0x1FFFFFFF, m32, 0xFFFF, 0x7FFFFFFF, 0x1FFFFFFF, 0xFFFF]
  | 0x0402 => [m20, 0x3FFFF]
  | 0x0403 => [0x1FF]
  | 0x0404 => [0x7FFFFFFF, 0x1FFFFFFF]
  | 0x0405 => [m32, 0x1F, m32]
  | 0x0501 => [0xFFBF, 0xFFF, m32]
  | 0x0502 => [0x3FF]
  | 0x0503 => [m32]
  | 0x0504 => [0x3FFFFFFF, m32, 0x3FFFFFFF, m32, 0x3FFFFFFF, m32, 0x3FFFFFFF, m32]
  | 0x0601 => [0x07FFFFFF, 0x0FFFFFFF]
  | 0x0602 => [0x7FFFFF]
  | 0x0603 => [0x1FF]
  | 0x0604 => [0xFFFFFF, 0x3FFF]
  | 0x0605 => [m32]
  | 0x0701 => [0xF8000000]
  | 0x0702 => [0x7F]
  | 0x0801 => [0x1FFF, m32, 0x7F, m32, 0xFFFFFF, m20, m20, m20]
  | 0x0802 => [0x1FFFFF]
  | 0x0803 => [m20]
  | 0x0804 => [0x7FFFF, 0x3FF]
  | 0x0901 => [m20]
  | _ => []

/-- Table 14.4: how many INDEX values a kind has. -/
def kindRange (kind : Nat) : Nat :=
  match kind with
  | 0x0101 | 0x0501 | 0x0504 | 0x0901 => 1024
  | 0x0102 => 256
  | 0x0201 | 0x0305 => 16
  | 0x0202 => 128
  | 0x0301 | 0x0306 | 0x0801 => 8
  | 0x0302 | 0x0303 | 0x0304 | 0x0602 => 64
  | 0x0401 => 6
  | 0x0402 => 384
  | 0x0403 => 24576
  | 0x0404 => 1536
  | 0x0405 => 768
  | 0x0503 => 18
  | 0x0601 | 0x0603 | 0x0701 => 32
  | 0x0802 | 0x0803 => 4
  | 0x0103 | 0x0502 | 0x0604 | 0x0605 | 0x0702 | 0x0804 => 1
  | _ => 0

/-- Items of an OWNERS table (Table 14.4). -/
def ownerItems (t : Nat) : Nat :=
  if t < 6 then [32, 64, 32, 64, 64, 16].getD t 0 else if t < 12 then 256 else 128

/-- Table 14.4: a record has as many words as its kind asks for. -/
def nwordsOk (kind index : Nat) (ws : List Nat) : Bool :=
  let n := ws.length
  match kind with
  | 0x0101 => n == 13
  | 0x0102 => decide (2 ≤ n) && (decide (bitsOf (ws.getD 1 0) 16 6 ≤ 48) && decide (n = 2 + (bitsOf (ws.getD 1 0) 16 6 + 3) / 4))
  | 0x0103 | 0x0605 => n == 32
  | 0x0201 => n == 48
  | 0x0301 => decide (1 ≤ n) && decide (bitsOf (ws.getD 0 0) 0 12 + (n - 1) ≤ 4096)
  | 0x0302 => n == 40
  | 0x0303 | 0x0304 | 0x0803 => n == 64
  | 0x0305 => n == 256
  | 0x0306 | 0x0402 | 0x0404 | 0x0601 | 0x0604 | 0x0804 | 0x0901 => n == 2
  | 0x0401 => n == 10
  | 0x0405 => n == 18
  | 0x0501 => n == 5
  | 0x0502 => n == 4
  | 0x0503 => decide (n = ownerItems index / 2)
  | 0x0504 => decide (2 ≤ n) && (decide (n ≤ 8) && decide (n % 2 = 0))
  | 0x0801 => n == 8
  | _ => n == 1

/-- The words of `4 * n` bytes. -/
def natWords : Nat → List Byte → List Nat
  | 0, _ => []
  | n + 1, bs => leNat (bs.take 4) :: natWords n (bs.drop 4)

/-- R365: the first word with a bit outside its mask. -/
def badMask : List Nat → List Nat → Nat → Option Nat
  | _, [], _ => none
  | [], _ :: _, i => some i
  | [m], w :: ws, i => if w &&& (m32 ^^^ m) = 0 then badMask [m] ws (i + 1) else some i
  | m :: ms, w :: ws, i => if w &&& (m32 ^^^ m) = 0 then badMask ms ws (i + 1) else some i

/-- A record with its byte offset. -/
structure PlacedRec where
  ofs : Nat
  r : ImgRec
  deriving DecidableEq, Repr

/-- R363, R365: the records of a segment of a type, from offset `o`; `last` is the last KIND and INDEX as one number plus one. -/
def parseRecs (type seg : Nat) : Nat → Nat → Nat → List Byte → Except Bad (List PlacedRec)
  | 0, o, _, bs => if bs.isEmpty then .ok [] else .error { code := 10, seg := seg, ofs := o }
  | fuel + 1, o, last, bs =>
    if bs.isEmpty then .ok []
    else
      let kind := leAt bs 0 2
      let index := leAt bs 2 2
      let nw := leAt bs 4 2
      let key := 65536 * kind + index + 1
      let ws := natWords nw (slice bs 8 (4 * nw))
      if 8 ≤ bs.length ∧ leAt bs 6 2 = 0 ∧ kind / 256 = type ∧ index < kindRange kind ∧ last < key ∧ 8 + 4 * nw ≤ bs.length ∧
          nwordsOk kind index ws then
        match badMask (kindMasks kind) ws 0 with
        | some i => .error { code := 10, seg := seg, ofs := o + 8 + 4 * i }
        | none =>
          match parseRecs type seg fuel (o + 8 + 4 * nw) key (bs.drop (8 + 4 * nw)) with
          | .ok rs => .ok ({ ofs := o, r := { kind := kind, index := index, words := ws } } :: rs)
          | .error b => .error b
      else .error { code := 10, seg := seg, ofs := o }

/-- The records of every segment that is no annotation, in directory order. -/
def parseSegs (bs : List Byte) : List SegEntry → Except Bad (List PlacedRec)
  | [] => .ok []
  | e :: es =>
    if 0x80 ≤ e.type then parseSegs bs es
    else match parseRecs e.type e.no (e.size / 8 + 1) e.off 0 (slice bs e.off e.size) with
      | .error b => .error b
      | .ok rs => match parseSegs bs es with
        | .error b => .error b
        | .ok rest => .ok (rs ++ rest)

/-- The words of a record, if the image holds it. -/
def recOf (rs : List PlacedRec) (kind index : Nat) : Option (List Nat) :=
  (rs.find? (fun p => decide (p.r.kind = kind) && decide (p.r.index = index))).map (fun p => p.r.words)

/-- The records of a kind. -/
def ofKind (rs : List PlacedRec) (kind : Nat) : List PlacedRec := rs.filter (fun p => decide (p.r.kind = kind))

/-- R365: the checks over the whole image that Table 14.5 reports under code 10. -/
def wholeRecs (rs : List PlacedRec) : Option Bad :=
  let fail (p : PlacedRec) : Bad := { code := 10, ofs := p.ofs }
  let ctxs := ofKind rs 0x0501
  firstBad
    [fun _ => (ctxs.find? (fun p => decide (p.r.index = 0) &&
        (decide (bitsOf (p.r.words.getD 0 0) 2 2 ≠ 2) || !bit (p.r.words.getD 0 0) 4))).map fail,
     fun _ => (([6, 7, 8, 9, 10] : List Nat).findSome? (fun b => (ctxs.filter (fun p => bit (p.r.words.getD 1 0) b))[1]?)).map fail,
     fun _ => ((ofKind rs 0x0503).find? (fun p => decide (p.r.index = 5) &&
        !([0, 0xFFFF] : List Nat).contains (bitsOf (p.r.words.getD 0 0) 0 16))).map fail,
     fun _ => ((ofKind rs 0x0901).find? (fun p => ([0, 1] : List Nat).any (fun d =>
        let seed := bitsOf (p.r.words.getD d 0) 0 20
        let nom := bitsOf (((recOf rs 0x0101 p.r.index).getD []).getD (8 + d) 0) 0 20
        decide (seed ≠ 0) && !(decide (nom / 2 ≤ seed) && decide (seed ≤ min (2 * nom) m20))))).map fail]

/-- The digest that the signature covers (R366). -/
def imageDigest (bs : List Byte) : Nat := sha256 (bs.take (bs.length - 64))

/-- R367: the key slot that admits an image: none where the part is keyed and no slot holds its digest unrevoked. -/
def admits (keys : List (Nat × Option KeySlot)) (digest : Nat) : Option (Option Nat) :=
  let slots := (List.range 4).filterMap (fun k => (sget (fun _ => none) keys k).map (fun x => (k, x)))
  if slots.isEmpty then some none
  else ((slots.find? (fun e => decide (e.2.digest = digest) && (!e.2.revoked && !e.2.bad))).map (fun e => some e.1))

/-- Codes 1 to 9 of Table 14.5 in order. -/
def formBad (v : Variant) (keys : List (Nat × Option KeySlot)) (floor : Nat) (buf : List Byte) : Option Bad :=
  let u (o n : Nat) := leAt buf o n
  let len := u 12 4
  let bs := buf.take len
  let top := len - 128
  let n := u 24 2
  firstBad
    [failIf (u 0 4 != 0x4B534D44) 1 0,
     failIf (u 4 1 != 1) 2 4,
     failIf (u 6 2 / 2 != 0) 2 6,
     failIf (u 8 4 / 8 != 0) 2 8,
     failIf (u 26 2 != 0) 2 26,
     failIf (!(decide (len % 16 = 0) && (decide (256 ≤ len) && decide (len ≤ 1572864)))) 3 12,
     failIf (!bit (u 8 4) v.imageBit) 4 8,
     failIf (!(decide (1 ≤ n) && decide (n ≤ 32))) 5 24,
     failIf (u 28 4 != 64) 5 28,
     failIf (decide (top < 64 + 16 * n)) 5 64,
     fun _ => dirGo bs top (segEntries bs) (64 + 16 * n) [],
     fun _ => ((segEntries bs).find? (fun e => crc32 (slice bs e.off e.size) != e.check)).map
       (fun e => { code := 6, seg := e.no, ofs := e.off }),
     failIf (admits keys (sha256 (slice bs top 64))).isNone 7 top,
     failIf (!ecdsaOk (slice bs top 64) (slice bs (len - 64) 64) (imageDigest bs)) 8 (len - 64),
     failIf (decide (u 22 2 < floor)) 9 22]

/-- Code 12: a segment type 0x01 to 0x08 is missing (R362). -/
def missingSeg (bs : List Byte) : Option Bad :=
  if (List.range 8).all (fun t => (segEntries bs).any (fun e => decide (e.type = t + 1))) then none else some { code := 12, ofs := 64 }

end Sys2Proof.Machine
end

