-- ==== Sys2Proof/Machine/ImageRules.lean ====
section
/-! DEFINITION. The content rules checked under code 11 of Table 14.5: those that the other chapters give for their segments,
against the image as a whole (R369), and R4 for what the variant lacks (R370). -/

namespace Sys2Proof.Machine

/-- What a content rule finds: the record at fault. -/
abbrev Offender := Option PlacedRec

/-- Word `i` of a record. -/
def PlacedRec.w (p : PlacedRec) (i : Nat) : Nat := p.r.words.getD i 0

/-- The first record of a kind that breaks a rule. -/
def offender (rs : List PlacedRec) (kind : Nat) (bad : PlacedRec → Bool) : Offender := (ofKind rs kind).find? bad

/-- The first offender of several. -/
def firstOf : List (Unit → Offender) → Offender
  | [] => none
  | f :: fs => match f () with
    | some p => some p
    | none => firstOf fs

/-- The target an outlet record names, defined or not: kind and number, none without target (R113). -/
def namedTarget (p : PlacedRec) : Option (Nat × Nat) :=
  let t := bitsOf (p.w 0) 1 3
  if decide (1 ≤ t) && decide (t ≤ 4) then some (t, if t = 4 then bitsOf (p.w 1) 0 14 else bitsOf (p.w 1) 0 7) else none

/-- A defined outlet's target: none where undefined or without target (R113). -/
def targetOf (p : PlacedRec) : Option (Nat × Nat) := if bit (p.w 0) 0 then namedTarget p else none

/-- Units of a target kind on the variant. -/
def targetLimit (v : Variant) (t : Nat) : Nat := if t = 1 then v.valves else if t = 2 then v.switches else v.fouts

/-- Boost converters (R210, Table 0.1). -/
def Variant.boosts : Variant → Nat
  | .f0512 => 1
  | _ => 2

/-- An input or output route names a unit that the variant lacks (R253, R255). -/
def inputAbsent (v : Variant) (kind index : Nat) : Bool :=
  match kind with
  | 1 | 2 => decide (v.valves ≤ index)
  | 3 => decide (v.boosts ≤ index)
  | 4 | 5 => decide (v.fins ≤ index)
  | 6 | 7 => decide (8 ≤ index)
  | 8 => decide (v.buses ≤ index / 256)
  | 9 => decide (64 ≤ index)
  | 10 => decide (512 ≤ index)
  | 11 => decide (1 ≤ index)
  | _ => false
def outputAbsent (v : Variant) (kind index : Nat) : Bool :=
  match kind with
  | 1 | 6 => decide (64 ≤ index)
  | 2 => decide (v.boosts ≤ index)
  | 3 => decide (v.switches ≤ index)
  | 4 => decide (v.fouts ≤ index)
  | 5 => decide (v.buses ≤ index / 256)
  | _ => false

/-- Routes of a SLOT record: input kinds with index, and outputs with kind, index, field. -/
def slotIns (p : PlacedRec) : List (Nat × Nat) := (List.range 16).map (fun k => (bitsOf (p.w (8 + k)) 0 4, bitsOf (p.w (8 + k)) 4 11))
def slotOuts (p : PlacedRec) : List (Nat × Nat × Nat) :=
  (List.range 8).map (fun k => (bitsOf (p.w (24 + 2 * k)) 0 3, bitsOf (p.w (24 + 2 * k)) 3 11, bitsOf (p.w (24 + 2 * k)) 14 5))

/-- R4, R370: content beyond the variant's ranges. -/
def variantExcess (v : Variant) (rs : List PlacedRec) : Offender :=
  let top (kind lim : Nat) : Unit → Offender := fun _ => offender rs kind (fun p => decide (lim ≤ p.r.index))
  let ports (kind per : Nat) : Unit → Offender := fun _ => offender rs kind (fun p => decide (v.buses ≤ p.r.index / per))
  let outletBits (kind : Nat) : Unit → Offender := fun _ => offender rs kind (fun p => (p.r.words.drop (v.outlets / 32)).any (· ≠ 0))
  firstOf
    [top 0x0101 v.outlets, fun _ => offender rs 0x0102 (fun p => decide (v.links ≤ p.r.index / 16)), outletBits 0x0103,
     top 0x0202 v.valves,
     fun _ => offender rs 0x0101 (fun p => match namedTarget p with
       | some (4, n) => decide (v.links ≤ n % 16)
       | some (t, n) => decide (targetLimit v t ≤ n)
       | none => false),
     fun _ => offender rs 0x0302 (fun p => (slotIns p).any (fun r => inputAbsent v r.1 r.2) || (slotOuts p).any (fun r => outputAbsent v r.1 r.2.1)),
     fun _ => offender rs 0x0302 (fun p => decide (bitsOf (p.w 2) 0 2 = 3) && decide (v.boosts ≤ bitsOf (p.w 2) 2 1)),
     fun _ => offender rs 0x0306 (fun p => ([2, 8, 14] : List Nat).any (fun lo => decide (v.fins ≤ bitsOf (p.w 0) lo 6))),
     ports 0x0401 1, ports 0x0402 64, ports 0x0403 4096, ports 0x0404 256, ports 0x0405 128,
     top 0x0501 v.contexts, top 0x0504 v.contexts,
     fun _ => offender rs 0x0502 (fun p => (List.range 4).any (fun i => decide (v.contexts ≤ p.w i))),
     fun _ => offender rs 0x0503 (fun p =>
       let t := p.r.index
       let lim := if t < 6 then ([v.switches, v.fins, v.fouts, 64, 64, 16] : List Nat).getD t 0
         else if (t - 6) % 6 < v.buses then ownerItems t else 0
       (List.range (ownerItems t)).any (fun j =>
         let c := bitsOf (p.w (j / 2)) (16 * (j % 2)) 16
         decide (c ≠ 0xFFFF) && (decide (lim ≤ j) || decide (v.contexts ≤ c)))),
     fun _ => offender rs 0x0504 (fun p => (List.range (p.r.words.length / 2)).any (fun i => decide (v.buses ≤ bitsOf (p.w (2 * i + 1)) 29 3))),
     top 0x0601 v.switches, top 0x0602 v.fins, top 0x0603 v.fouts,
     fun _ => offender rs 0x0604 (fun p => decide (v.fins < 64) && decide (p.w 0 / 2 ^ 12 ≠ 0)),
     outletBits 0x0605, top 0x0701 v.switches, top 0x0901 v.outlets]

/-- The first record whose key some earlier record of the list has too. -/
def repeated (key : PlacedRec → Option (Nat × Nat)) : List (Nat × Nat) → List PlacedRec → Offender
  | _, [] => none
  | seen, p :: ps => match key p with
    | none => repeated key seen ps
    | some k => if seen.contains k then some p else repeated key (k :: seen) ps

/-- R114; `src` gives SEG_CFG.SRC of a segment as it stands when VERIFY runs. -/
def rule114 (src : Nat → Nat) (rs : List PlacedRec) : Offender :=
  firstOf
    [fun _ => repeated targetOf [] (ofKind rs 0x0101),
     fun _ => offender rs 0x0101 (fun p =>
       decide (4 < bitsOf (p.w 0) 1 3) || (decide (bitsOf (p.w 6) 20 2 = 3) ||
       ((bit (p.w 0) 17 && decide (src (bitsOf (p.w 0) 14 3) = 0)) ||
        (decide ((namedTarget p).map (·.1) = some 1) && (recOf rs 0x0201 (bitsOf (p.w 0) 18 4)).isNone))))]

/-- R176. -/
def rule176 (rs : List PlacedRec) : Offender :=
  offender rs 0x0801 (fun p =>
    let lead := bitsOf (p.w 1) 8 8
    let win := bitsOf (p.w 1) 24 8
    decide (lead < 14) || (decide (200 < lead) || (decide (20 * win < lead + 20) || (decide (50 < bitsOf (p.w 2) 0 7) || decide (p.w 7 < p.w 6)))))

/-- R183, R179; a phase KIND of 6 or 7 has no meaning in Table 7.1 and is refused too (DESIGN CHOICE). -/
def rule183 (rs : List PlacedRec) : Offender :=
  offender rs 0x0201 (fun p =>
    let nph := if bitsOf (p.w 0) 0 3 = 0 then 8 else bitsOf (p.w 0) 0 3
    let cph := bitsOf (p.w 0) 3 3
    let kind (k : Nat) := bitsOf (p.w (16 + 4 * k)) 0 3
    let itgt (k : Nat) := p.w (17 + 4 * k)
    let pull := p.w 1
    let move := p.w 2
    let oc := p.w 3
    let big := ((List.range cph).map itgt).foldl max 0
    decide (nph < 2) || (decide (cph < 1) || (decide (nph ≤ cph) || (decide (kind (cph - 1) ≠ 3) || (decide (p.w (16 + 4 * (cph - 1) + 3) ≠ 0) ||
    ((List.range nph).any (fun k => decide (5 < kind k) || (decide (4 ≤ kind k) != decide (cph ≤ k) ||
        ((decide (kind k < 2) && decide (400000 < itgt k)) || (decide (2 ≤ kind k ∧ kind k < 4) && decide (200000 < itgt k))))) ||
    (decide (pull ≤ move) || (decide (2 * move ≤ pull) || (decide (4 * oc < 5 * big) || decide (600000 < oc))))))))))

/-- What an instruction can go to and what it costs (Tables 9.3, 9.4): successors of the word `w` at `a`. -/
def progNext (a w : Nat) : List Nat :=
  let op := bitsOf w 14 6
  if op = 0x01 then [] else if op = 0x26 then [bitsOf w 0 12] else if op = 0x27 then [a + 1, bitsOf w 0 12]
  else if op = 0x28 then [a + 1, a + 1 + bitsOf w 0 8] else [a + 1]
def progTimes (w : Nat) : Nat :=
  match bitsOf w 14 6 with
  | 0x19 => 4
  | 0x1D => 5
  | 0x1E => 7
  | 0x1F | 0x20 => 2
  | _ => 1

/-- R247, Table 9.3: an opcode or an operand out of range, or a bit marked 0 that is set. -/
def progBad (w : Nat) : Bool :=
  let op := bitsOf w 14 6
  let low := bitsOf w 0 14
  let d := bitsOf w 0 6
  let c := bitsOf w 8 6
  let fN := decide (low ≠ 0)
  let fD (m : Nat) := decide (bitsOf w 6 8 ≠ 0) || decide (m < d)
  let fCD (mc md : Nat) := decide (bitsOf w 6 2 ≠ 0) || (decide (mc < c) || decide (md < d))
  let sh := sx 6 d
  match op with
  | 0x00 | 0x01 | 0x07 | 0x08 | 0x09 | 0x0A | 0x0F | 0x10 | 0x11 | 0x14 | 0x15 | 0x1B | 0x24 | 0x25 => fN
  | 0x02 | 0x03 | 0x0B | 0x0C | 0x12 | 0x13 | 0x18 | 0x19 => fD 63
  | 0x0D | 0x0E | 0x1C => fD 62
  | 0x04 => false
  | 0x05 => decide (15 < low)
  | 0x06 => decide (7 < low)
  | 0x16 => fCD 63 63
  | 0x17 => decide (bitsOf w 0 8 ≠ 0)
  | 0x1A => decide (bitsOf w 6 8 ≠ 0) || (decide (sh < -24) || decide (24 < sh))
  | 0x1D => fCD 59 58
  | 0x1E => fCD 57 56
  | 0x1F | 0x21 => fCD 63 63
  | 0x20 => fCD 63 60
  | 0x22 => decide (bitsOf w 0 10 ≠ 0)
  | 0x23 => decide (bitsOf w 6 4 ≠ 0)
  | 0x26 | 0x27 => decide (bitsOf w 12 2 ≠ 0)
  | 0x28 => decide (bitsOf w 8 2 ≠ 0) || decide (bitsOf w 0 8 = 0)
  | 0x29 => decide (7 < low)
  | _ => true

/-- A core's program: its words by address. -/
def progWords (p : PlacedRec) : List (Nat × Nat) := (p.r.words.drop 1).zipIdx.map (fun e => (bitsOf (p.w 0) 0 12 + e.2, e.1))

/-- R247: a program's words; a branch or skip leaves the region that the record fills. -/
def rule247 (rs : List PlacedRec) : Offender :=
  offender rs 0x0301 (fun p =>
    let lo := bitsOf (p.w 0) 0 12
    let hi := lo + (p.r.words.length - 1)
    (progWords p).any (fun e => progBad e.2 ||
      (decide (0x26 ≤ bitsOf e.2 14 6) && (decide (bitsOf e.2 14 6 ≤ 0x28) &&
        ((progNext e.1 e.2).filter (· ≠ e.1 + 1)).any (fun t => decide (t < lo) || decide (hi ≤ t))))))

/-- Addresses reachable from those waiting, within a program. -/
def reachGo (prog : List (Nat × Nat)) : Nat → List Nat → List Nat → List Nat
  | 0, _, seen => seen
  | _, [], seen => seen
  | fuel + 1, a :: as, seen =>
    if seen.contains a then reachGo prog fuel as seen
    else match prog.find? (fun e => e.1 == a) with
      | none => reachGo prog fuel as seen
      | some e => reachGo prog fuel (progNext a e.2 ++ as) (a :: seen)

/-- The program that a slot runs, and what it reaches from ENTRY, in address order. -/
def slotReach (rs : List PlacedRec) (p : PlacedRec) : List (Nat × Nat) :=
  match (ofKind rs 0x0301).find? (fun q => decide (q.r.index = p.r.index / 8)) with
  | none => []
  | some q =>
    let prog := progWords q
    let seen := reachGo prog (3 * prog.length + 3) [bitsOf (p.w 0) 0 12] []
    prog.filter (fun e => seen.contains e.1)

/-- R257: a slot that reaches TBL or TBLS without POS_EN. -/
def rule257 (rs : List PlacedRec) : Offender :=
  offender rs 0x0302 (fun p => !bit (p.w 2) 6 && (slotReach rs p).any (fun e => decide (bitsOf e.2 14 6 = 0x22) || decide (bitsOf e.2 14 6 = 0x23)))

/-- Instructions, of those in reverse address order, from which an OUT is reached by forward steps; repeated, over backward ones too. -/
def outsGo : List (Nat × Nat) → List Nat → List Nat
  | [], seen => seen
  | e :: es, seen =>
    outsGo es (if !seen.contains e.1 && (decide (bitsOf e.2 14 6 = 0x06) || (progNext e.1 e.2).any seen.contains) then e.1 :: seen else seen)
def outsAll (rev : List (Nat × Nat)) : Nat → List Nat → List Nat
  | 0, seen => seen
  | n + 1, seen =>
    let more := outsGo rev seen
    if more.length = seen.length then seen else outsAll rev n more

/-- The longest way to each address, in address order: times before it. -/
def timesGo : List (Nat × Nat) → List (Nat × Nat) → List (Nat × Nat)
  | [], ts => ts
  | e :: es, ts =>
    let before := ((ts.filter (fun t => t.1 == e.1)).map (·.2)).foldl max 0
    timesGo es (if ts.any (fun t => t.1 == e.1) then (progNext e.1 e.2).map (fun n => (n, before + progTimes e.2)) ++ ts else ts)

/-- R258: a path from ENTRY to an OUT holds a backward branch or exceeds 105 instruction times, the OUT's own included. -/
def rule258 (rs : List PlacedRec) : Offender :=
  offender rs 0x0302 (fun p =>
    let entry := bitsOf (p.w 0) 0 12
    let prog := slotReach rs p
    let outs := outsAll prog.reverse prog.length []
    let live := prog.filter (fun e => outs.contains e.1)
    let ts := timesGo live [(entry, 0)]
    live.any (fun e => (progNext e.1 e.2).any (fun t => decide (t ≤ e.1) && outs.contains t)) ||
    live.any (fun e => decide (bitsOf e.2 14 6 = 0x06) && ts.any (fun t => t.1 == e.1 && decide (105 < t.2 + 1))))

/-- R250: a chain of parents that returns to its start. -/
def parentGo (rs : List PlacedRec) (start : Nat) : Nat → Nat → Bool
  | 0, _ => false
  | fuel + 1, n =>
    match recOf rs 0x0302 n with
    | none => false
    | some ws =>
      if bitsOf (ws.getD 0 0) 12 2 = 2 then
        let m := bitsOf (ws.getD 0 0) 14 6
        decide (m = start) || parentGo rs start fuel m
      else false

/-- R250: the trigger is none of the three, or its period, port or divider lies outside the rule's range (refused: DEDUCED, log 37). -/
def trigBad (p : PlacedRec) : Bool :=
  let trig := bitsOf (p.w 0) 12 2
  decide (trig = 3) || ((decide (trig = 0) && decide (bitsOf (p.w 1) 0 16 < 5)) ||
    ((decide (trig = 1) && decide (16 ≤ bitsOf (p.w 0) 14 6)) || (decide (trig = 2) && decide (bitsOf (p.w 0) 20 8 = 0))))

/-- R250: what is refused of a slot's trigger. -/
def rule250 (rs : List PlacedRec) : Offender := offender rs 0x0302 (fun p => trigBad p || parentGo rs p.r.index 64 p.r.index)

/-- R253: a refused input kind. -/
def rule253 (rs : List PlacedRec) : Offender := offender rs 0x0302 (fun p => (slotIns p).any (fun r => decide (12 ≤ r.1)))

/-- The targets of all outputs up to a record: kind with index and field; only a bus field has one (DEDUCED). -/
def outKeys (p : PlacedRec) : List (Nat × Nat) :=
  ((slotOuts p).filter (fun r => decide (r.1 ≠ 0))).map (fun r => (r.1, if r.1 = 5 then 32 * r.2.1 + r.2.2 else r.2.1))

/-- An entry occurs twice. -/
def hasTwice : List (Nat × Nat) → Bool
  | [] => false
  | k :: ks => ks.contains k || hasTwice ks

/-- Two outputs with one target, over the slots in order. -/
def outsTwice : List (Nat × Nat) → List PlacedRec → Offender
  | _, [] => none
  | seen, p :: ps => if hasTwice (outKeys p) || (outKeys p).any seen.contains then some p else outsTwice (outKeys p ++ seen) ps

/-- R255: shared targets, the refused output kind, a slot setpoint whose slot is not OUTER. -/
def rule255 (rs : List PlacedRec) : Offender :=
  firstOf
    [fun _ => outsTwice [] (ofKind rs 0x0302),
     fun _ => offender rs 0x0302 (fun p => (slotOuts p).any (fun r => decide (r.1 = 7) ||
       (decide (r.1 = 1) && decide (bitsOf (((recOf rs 0x0302 r.2.1).getD []).getD 2 0) 0 2 ≠ 2))))]

/-- The SOURCE of a load switch or field output under an image (reset value 3; R270, R298). -/
def lsSource (rs : List PlacedRec) (n : Nat) : Nat := match recOf rs 0x0601 n with | some ws => bitsOf (ws.getD 0 0) 0 2 | none => 3
def foSource (rs : List PlacedRec) (n : Nat) : Nat := match recOf rs 0x0603 n with | some ws => bitsOf (ws.getD 0 0) 0 2 | none => 3

/-- R270, R298: a mapped channel without SOURCE 1, a routed one without SOURCE 2. -/
def sourceRule (rs : List PlacedRec) (target outKind : Nat) (source : Nat → Nat) : Offender :=
  firstOf
    [fun _ => offender rs 0x0101 (fun p => match targetOf p with | some (t, n) => decide (t = target) && decide (source n ≠ 1) | none => false),
     fun _ => offender rs 0x0302 (fun p => (slotOuts p).any (fun r => decide (r.1 = outKind) && decide (source r.2.1 ≠ 2)))]

/-- The outlet that maps a target. -/
def mapperOf (rs : List PlacedRec) (t n : Nat) : Option Nat := (offender rs 0x0101 (fun p => decide (targetOf p = some (t, n)))).map (·.r.index)

/-- Bit `o` of an outlet map record. -/
def outletBit (rs : List PlacedRec) (kind o : Nat) : Bool := bit (((recOf rs kind 0).getD []).getD (o / 32) 0) (o % 32)

/-- R283: a channel both ledger-driven and limp-mapped whose outlet is not marked for manual limp operation. -/
def rule283 (rs : List PlacedRec) : Offender :=
  offender rs 0x0701 (fun p => bit (p.w 0) 27 && (match mapperOf rs 2 p.r.index with | some o => !outletBit rs 0x0103 o | none => false))

/-- R297: PAR. -/
def rule297 (rs : List PlacedRec) : Offender :=
  offender rs 0x0603 (fun p =>
    let par := bitsOf (p.w 0) 5 2
    let size := if par = 1 then 2 else 4
    decide (par ≠ 0) && (decide (par = 3) || (decide (p.r.index % size ≠ 0) || (List.range (size - 1)).any (fun j =>
      let w := ((recOf rs 0x0603 (p.r.index + j + 1)).getD []).getD 0 3
      decide (bitsOf w 5 2 ≠ 0) || decide (bitsOf w 0 2 ≠ 3)))))

/-- R298: SAFE 3 is refused. -/
def rule298 (rs : List PlacedRec) : Offender :=
  firstOf [fun _ => offender rs 0x0603 (fun p => decide (bitsOf (p.w 0) 2 2 = 3)), fun _ => sourceRule rs 3 4 (foSource rs)]

/-- R299: a ledger-driven output's SAFE is off or on and agrees with its outlet's SAFE_OPEN. -/
def rule299 (rs : List PlacedRec) : Offender :=
  offender rs 0x0603 (fun p => match mapperOf rs 3 p.r.index with
    | some o => decide (bitsOf (p.w 0) 2 2 ≠ b2n (outletBit rs 0x0605 o))
    | none => false)

/-- Nominal and data-phase bit times of a PORT record, ns (R311). -/
def recTn (p : PlacedRec) : Nat := (bitsOf (p.w 0) 0 5 + 1) * (3 + bitsOf (p.w 0) 5 8 + bitsOf (p.w 0) 13 7) * 10
def recTd (p : PlacedRec) : Nat := (bitsOf (p.w 1) 0 5 + 1) * (3 + bitsOf (p.w 1) 5 5 + bitsOf (p.w 1) 10 4) * 10

/-- R311. -/
def rule311 (rs : List PlacedRec) : Offender :=
  offender rs 0x0401 (fun p =>
    decide (bitsOf (p.w 0) 5 8 < 1) || (decide (bitsOf (p.w 0) 13 7 < 1) || (decide (bitsOf (p.w 0) 13 7 < bitsOf (p.w 0) 20 7) ||
    (decide (bitsOf (p.w 1) 10 4 < bitsOf (p.w 1) 14 4) ||
    (decide (recTn p < 1000) || (decide (100000 < recTn p) || (decide (recTd p < 200) || decide (recTn p < recTd p))))))))

/-- R316: a route beyond the object's data, or to an object above 127. -/
def rule316 (rs : List PlacedRec) : Offender :=
  offender rs 0x0302 (fun p => (slotOuts p).any (fun r => decide (r.1 = 5) &&
    (decide (127 < r.2.1 % 256) ||
      (let ws := (recOf rs 0x0405 (128 * (r.2.1 / 256) + r.2.1 % 256)).getD []
       decide (dlcBytes (bit (ws.getD 0 0) 30) (ws.getD 1 0 % 16) < r.2.2 + 3)))))

/-- The windows of a port that its PORT record counts, with their numbers. -/
def portWindows (rs : List PlacedRec) (p : PlacedRec) : List (Nat × PlacedRec) :=
  (List.range (bitsOf (p.w 2) 8 6 + 1)).filterMap (fun w =>
    ((ofKind rs 0x0402).find? (fun q => decide (q.r.index = 64 * p.r.index + w))).map (fun q => (w, q)))

/-- Windows in order without overlap, the last one ending by CYCLE_LEN (R317). -/
def windowsInOrder (len : Nat) : Nat → List (Nat × PlacedRec) → Bool
  | _, [] => true
  | at', q :: qs =>
    let e := q.2.w 0 + bitsOf (q.2.w 1) 0 16
    decide (at' ≤ q.2.w 0) && (decide (e ≤ len) && windowsInOrder len e qs)

/-- The used cells of a window. -/
def cellsOf (rs : List PlacedRec) (port w : Nat) : List PlacedRec :=
  (ofKind rs 0x0403).filter (fun c => decide (c.r.index / 4096 = port) && (decide (c.r.index % 64 = w) && bit (c.w 0) 7))

/-- R317. -/
def rule317 (rs : List PlacedRec) : Offender :=
  offender rs 0x0401 (fun p =>
    let ws := portWindows rs p
    let tn := recTn p
    let sync := bitsOf (p.w 2) 0 2
    let refBound := boundNs tn tn (bit (p.w 2) 14) false false 3
    !windowsInOrder (p.w 3) 0 ws ||
    (decide (sync ≠ 0) && (match ws.head? with | some q => decide (q.2.w 0 * tn < refBound) | none => false)) ||
    ws.any (fun q =>
      let kind := bitsOf (q.2.w 1) 16 2
      let cells := cellsOf rs p.r.index q.1
      (decide (kind = 2) && !cells.isEmpty) || ((decide (kind = 0) && decide (sync = 0)) ||
      cells.any (fun c =>
        let x := (recOf rs 0x0405 (128 * p.r.index + bitsOf (c.w 0) 0 7)).getD []
        let h := x.getD 0 0
        decide (bitsOf (q.2.w 1) 0 16 * tn <
          boundNs tn (recTd p) (bit h 29) (bit h 30) (bit h 31) (dlcBytes (bit h 30) (x.getD 1 0 % 16)))))))

/-- Code 11: the content rules in the order of their numbers. -/
def contentBad (v : Variant) (src : Nat → Nat) (rs : List PlacedRec) : Option Bad :=
  let rule (n : Nat) (f : Unit → Offender) : Unit → Option Bad :=
    fun _ => (f ()).map (fun p => { code := 11, rule := n, ofs := p.ofs })
  firstBad
    [rule 4 (fun _ => variantExcess v rs), rule 114 (fun _ => rule114 src rs), rule 176 (fun _ => rule176 rs),
     rule 183 (fun _ => rule183 rs), rule 247 (fun _ => rule247 rs), rule 250 (fun _ => rule250 rs),
     rule 253 (fun _ => rule253 rs), rule 255 (fun _ => rule255 rs), rule 257 (fun _ => rule257 rs),
     rule 258 (fun _ => rule258 rs), rule 270 (fun _ => sourceRule rs 2 3 (lsSource rs)), rule 283 (fun _ => rule283 rs),
     rule 297 (fun _ => rule297 rs), rule 298 (fun _ => rule298 rs), rule 299 (fun _ => rule299 rs),
     rule 311 (fun _ => rule311 rs), rule 316 (fun _ => rule316 rs), rule 317 (fun _ => rule317 rs)]

/-- R369: the whole verification but for code 13: what is wrong, or the image parsed. -/
def verifyImage (v : Variant) (keys : List (Nat × Option KeySlot)) (floor : Nat) (src : Nat → Nat) (buf : List Byte) : Except Bad Image :=
  match formBad v keys floor buf with
  | some b => .error b
  | none =>
    let bs := buf.take (leAt buf 12 4)
    match parseSegs bs (segEntries bs) with
    | .error b => .error b
    | .ok rs =>
      match firstBad [fun _ => wholeRecs rs, fun _ => contentBad v src rs, fun _ => missingSeg bs] with
      | some b => .error { b with seg := segAt (segEntries bs) b.ofs }
      | none => .ok { bytes := bs, recs := rs.map (·.r) }

end Sys2Proof.Machine
end

