-- ==== Sys2Proof/Machine/Activate.lean ====
section
/-! DEFINITION. What an activation changes in the part (R364, R377–R379): the records that differ, the registers that records name, and
the effect on outlets, profiles, slots, ports and contexts. -/

namespace Sys2Proof.Machine

/-! Records that differ (R375). -/

/-- A record of a list by kind and index. -/
def findRec (rs : List ImgRec) (kind index : Nat) : Option ImgRec := rs.find? (fun r => decide (r.kind = kind) && decide (r.index = index))

/-- The kinds and indices whose records differ between two images. -/
def diffKeys (old new : List ImgRec) : List (Nat × Nat) :=
  ((new.filter (fun r => findRec old r.kind r.index ≠ some r)).map (fun r => (r.kind, r.index))) ++
    ((old.filter (fun r => (findRec new r.kind r.index).isNone)).map (fun r => (r.kind, r.index)))

/-- The indices of a kind among keys. -/
def keysOf (ks : List (Nat × Nat)) (kind : Nat) : List Nat := (ks.filter (fun k => k.1 = kind)).map (·.2)

/-! Registers named by records (R364). -/

/-- A record's words in the registers from `base` on; without a record the registers' reset words. -/
def State.loadWords (s : State) (r : Option ImgRec) (base n : Nat) : State :=
  (List.range n).foldl (fun s i => s.setReg (base + 4 * i) (match r with
    | some r => BitVec.ofNat 32 (r.words.getD i 0)
    | none => resetWord s.variant (base + 4 * i))) s

/-- Table 14.4: the outlet record of `o` and its SAFE_OPEN bit into OT_CFG to OT_RATE; the learned words stand. -/
def State.loadOutlet (s : State) (o : Nat) : State :=
  let r := s.record 0x0101 o
  let b := 0x470000 + 0x40 * (o % 1024)
  let s1 := s.loadWords r b 10
  let s2 := s1.loadWords (r.map (fun r => { r with words := r.words.drop 10 })) (b + 0x30) 3
  let safe := match s.record 0x0605 0 with | some x => bit (x.words.getD (o / 32) 0) (o % 32) | none => false
  if r.isSome then s2.setBit (Reg.OT_CFG_SAFE_OPEN o) safe else s2

/-- Table 14.4: LS and LIMP records of channel `n` into LS_CFG and LS_CFG2. -/
def State.loadSwitch (s : State) (n : Nat) : State :=
  let s0 := s.loadWords (s.record 0x0601 n) (0x580100 + 0x40 * (n % 32)) 2
  let s1 := if s0.fld (Reg.LS_CFG_SOURCE n) = s.fld (Reg.LS_CFG_SOURCE n) then s0
    else s0.setLsw n { s0.lsw n with grid := Grid.fresh (s0.fld (Reg.LS_PERIOD_PERIOD n)) n }
  let limp := match s.record 0x0701 n with | some r => r.words.getD 0 0 / 2 ^ 27 | none => 0
  s1.setFld ⟨0x580100 + 0x40 * (n % 32), 27, 5⟩ limp

/-- R375: word `i` of a record for word `k` of the field die's configuration (`fdShadowReg`), which the die takes with the first frame at or
after the boundary; without a record the register's reset word. -/
def State.stageField (s : State) (r : Option ImgRec) (i k : Nat) : State :=
  let w := match r with
    | some r => r.words.getD i 0 % 2 ^ 32
    | none => (resetWord s.variant (fdShadowReg k)).toNat
  { s with fd := { s.fd with staged := some (s.fd.staged.getD [] ++ [(k, w)]) } }

/-- R365: what context 0 is without a record. -/
def contextZero : ImgRec := { kind := 0x0501, index := 0, words := [0x1B8, 0, 0, 0, 0] }

/-- The record of context `c`. -/
def State.ctxRecord (s : State) (c : Nat) : Option ImgRec :=
  match s.record 0x0501 c with
  | some r => some r
  | none => if c = 0 then some contextZero else none

/-- A record of kind `k` into the registers it names; outlets, switches, contexts, slots and ports have their own loads. -/
def State.loadRec (s : State) (k : Nat × Nat) : State :=
  let r := s.record k.1 k.2
  let i := k.2
  match k.1 with
  | 0x0102 => s.loadWords r (0x530118 + 0x800 * (i / 16 % 16) + 0x40 * (i % 16)) 1
  | 0x0201 =>
    let s1 := s.loadWords r (0x521000 + 0x100 * (i % 16)) 10
    s1.loadWords (r.map (fun r => { r with words := r.words.drop 16 })) (0x521040 + 0x100 * (i % 16)) 32
  | 0x0202 =>
    let w := match r with | some r => r.words.getD 0 0 | none => 0
    (s.setFld (Reg.VCH_CFG_MOD_AUX i) (bitsOf w 15 1)).setFld (Reg.VCH_CFG_AUX i) (bitsOf w 16 3)
  | 0x0301 =>
    let s1 := s.loadWords none (0x550000 + 0x4000 * (i % 8)) 4096
    match r with
    | some r => (r.words.drop 1).zipIdx.foldl (fun s w => s.setReg (0x550000 + 0x4000 * (i % 8) + 4 * ((bitsOf (r.words.getD 0 0) 0 12 + w.2) % 4096)) (BitVec.ofNat 32 w.1)) s1
    | none => s1
  | 0x0305 =>
    let s1 := s.loadWords r (0x548000 + 0x400 * (i % 16)) 256
    { s1 with lp := { s1.lp with tableStaged := s1.lp.tableStaged.filter (fun e => e.1 / 256 ≠ i) } }
  | 0x0306 => (s.loadWords r (0x540300 + 0x20 * (i % 8)) 2).setFld (Reg.PC_STAT_VALID i) 0
  | 0x0502 => s.loadWords r 0x5B0020 4
  | 0x0602 => s.stageField r 0 (32 + i % 64)
  | 0x0603 => s.stageField r 0 (i % 32)
  | 0x0604 =>
    (s.stageField r 0 96).stageField r 1 97
  | 0x0601 | 0x0701 => s.loadSwitch i
  | 0x0702 => s.loadWords r 0x58000C 1
  | 0x0801 => s.loadWords r (0x40C100 + 0x20 * (i % 8)) 8
  | 0x0802 => s.loadWords r (0x409020 + 4 * (i % 4)) 1
  | 0x0803 =>
    let s1 := (s.loadWords r (0x40A400 + 0x100 * (i % 4)) 64).loadWords r (0x40A800 + 0x100 * (i % 4)) 64
    { s1 with lg := { s1.lg with rtGen := sset (fun _ => 0) s1.lg.rtGen i (sget (fun _ => 0) s1.lg.rtGen i + 1) } }
  | 0x0804 =>
    let s1 := s.loadWords r 0x410030 1
    s1.loadWords (r.map (fun r => { r with words := r.words.drop 1 })) 0x409000 1
  | _ => s

/-- The item of an image that a register a host may write before an image is active belongs to (Table 14.4). -/
def itemOf (a : Nat) : Option (Nat × Nat) :=
  if inRange 0x580100 0x580900 a && (a % 0x40 == 0 || a % 0x40 == 4) then some (0x0601, (a - 0x580100) / 0x40)
  else if a = 0x58000C then some (0x0702, 0)
  else if inRange 0x590100 0x590500 a && a % 0x10 == 0 then some (0x0602, (a - 0x590100) / 0x10)
  else if inRange 0x590600 0x590E00 a && a % 0x40 == 0 then some (0x0603, (a - 0x590600) / 0x40)
  else if a = 0x59002C ∨ a = 0x590008 then some (0x0604, 0)
  else if inRange 0x40C100 0x40C200 a then some (0x0801, (a - 0x40C100) / 0x20)
  else if inRange 0x409020 0x409030 a then some (0x0802, (a - 0x409020) / 4)
  else if inRange 0x40A400 0x40AC00 a then some (0x0803, (a - 0x40A400) / 0x100 % 4)
  else if a = 0x410030 ∨ a = 0x409000 then some (0x0804, 0)
  else none

/-- R365: the items that a first activation gives their reset values: without a record, and not as reset. -/
def State.plainItems (s : State) (ks : List (Nat × Nat)) : List (Nat × Nat) :=
  ((s.regs.filterMap (fun e => itemOf e.1)).filter (fun k => !ks.contains k)).eraseDups

/-! Outlets (Table 14.6). -/

/-- The target of an outlet record: TARGET with OT_TARGET, none where the record defines no outlet. -/
def targetIn (rs : List ImgRec) (o : Nat) : Option (Nat × Nat) :=
  (findRec rs 0x0101 o).bind (fun r => if bit (r.words.getD 0 0) 0 then some (bitsOf (r.words.getD 0 0) 1 3, r.words.getD 1 0) else none)

/-- NOM of a direction (0 open, 1 close) in an outlet record. -/
def nomIn (rs : List ImgRec) (o d : Nat) : Nat := match findRec rs 0x0101 o with | some r => bitsOf (r.words.getD (8 + d) 0) 0 20 | none => 0

/-- R161, R378: outlets removed or retargeted are removed: their BOOKED and COMMITTED events end with CAUSE 3 (Table 6.4), and what is open
is brought closed. -/
def State.removeOutlets (s : State) (os : List Nat) : State :=
  match os with
  | [] => s
  | o :: r =>
    let lo := r.foldl min o
    let hi := r.foldl max o
    let s1 := s.withdrawAll (fun e => os.contains e.outlet) 3 6 0xFFFF lo hi true
    os.foldl (fun s o =>
      let s2 := if s.isOpen o ∧ s.fld (Reg.OT_CFG_TARGET o) = 4 then
          let l := (s.remoteOf o).1
          let k := s.link l
          (s.setLink l { k with removed := k.removed.filter (· ≠ s.linkOutlet o) ++ [s.linkOutlet o] }).holdRefresh l
        else s
      let s3 := s2.bringClosed o
      let s4 := ((s3.setFld (Reg.OT_STATE_SEALED_OPEN o) 0).setFld (Reg.OT_STATE_UNSURE o) 0).setFld (Reg.OT_STATE_LANDING o) 0
      { s4 with mp := { s4.mp with trans := sdel o s4.mp.trans } }) s1

/-- OT_STATE of an outlet that the table no longer defines. -/
def State.undefine (s : State) (o : Nat) : State :=
  if s.on (Reg.OT_CFG_DEFINED o) then s
  else (((s.setFld (Reg.OT_STATE_PLANNABLE o) 0).setFld (Reg.OT_STATE_TARGET_ABSENT o) 0).setFld (Reg.OT_STATE_DIVERGENT o) 0).setFld (Reg.OT_STATE_DELAY_RANGE o) 0

/-- R379, R171: one direction's learned delay: kept, or reset to its seed or NOM; J and n set at a quiet activation or with a reset. -/
def State.learnedAt (s : State) (keep quiet : Bool) (o kind : Nat) : State :=
  let nom := s.fld (nomF kind o)
  let seed := match s.record 0x0901 o with | some r => bitsOf (r.words.getD kind 0) 0 20 | none => 0
  let seeded : Fld := if kind = kOpen then Reg.OT_LRN_OPEN_SEEDED o else Reg.OT_LRN_CLOSE_SEEDED o
  let s1 := if keep then s
    else ((s.setFld (lrnF kind o) (if seed = 0 then nom else seed)).setBit seeded (decide (seed ≠ 0))).setFld (learnedF kind o) 0
  if keep ∧ ¬ quiet then s1
  else ((s1.setFld (jitF kind o) (nom / 8)).setFld (sealsF kind o) 0).setFld (jitOkF kind o) 0

/-- R378: the outlet table at `t_a`. -/
def State.activateOutlets (s : State) (old : List ImgRec) (ks : List (Nat × Nat)) (quiet : Bool) : State :=
  let new := match s.im.active with | some m => m.recs | none => []
  let changed := keysOf ks 0x0101
  let moved := changed.filter (fun o => targetIn old o ≠ targetIn new o)
  let gone := moved.filter (fun o => (targetIn old o).isSome)
  let came := moved.filter (fun o => (targetIn new o).isSome)
  let booked := (s.ledger.filter (fun p => decide (p.2.st = eBooked) && (changed.contains p.2.outlet && !gone.contains p.2.outlet))).map (·.1)
  let s1 := booked.foldl (fun s i => s.cancelEntry i 0) { s with lg := { s.lg with path := [] } }
  let s2 := s1.removeOutlets gone
  let all := (changed ++ (if (keysOf ks 0x0605).isEmpty then [] else (new.filter (fun r => r.kind = 0x0101)).map (·.index))).eraseDups
  let s3 := all.foldl (fun s o => (s.loadOutlet o).undefine o) s2
  let s4 : State := { s3 with lg := { s3.lg with fresh := if s3.tb.framesOn then came else [], opened := s3.lg.opened.filter (fun e => !came.contains e.1) } }
  let kept (o kind : Nat) : Bool := decide (targetIn old o = targetIn new o) && decide (nomIn old o kind = nomIn new o kind)
  let s5 := ((new.filter (fun r => r.kind = 0x0101)).map (·.index)).foldl (fun s o =>
    (s.learnedAt (kept o kOpen) quiet o kOpen).learnedAt (kept o kClose) quiet o kClose) s4
  let lost := (gone.filter (fun o => !came.contains o))
  lost.foldl (fun s o => [kOpen, kClose].foldl (fun s k =>
    let s1 := ((s.setFld (lrnF k o) 0).setFld (learnedF k o) 0).setFld (if k = kOpen then Reg.OT_LRN_OPEN_SEEDED o else Reg.OT_LRN_CLOSE_SEEDED o) 0
    ((s1.setFld (jitF k o) 0).setFld (sealsF k o) 0).setFld (jitOkF k o) 0) s) s5

/-- R224, R240: link targets as the new table maps them, SAFEMAP, and holds of removed link outlets that are mapped again. -/
def State.activateLinks (s : State) : State :=
  s.allLinks.foldl (fun s l =>
    let k := s.link l
    let mapped := (s.outlets.filter (fun o => decide (s.fld (Reg.OT_CFG_TARGET o) = 4) && decide ((s.remoteOf o).1 = l))).map s.linkOutlet
    let s1 := s.setLink l { k with removed := k.removed.filter (fun b => !mapped.contains b) }
    ((List.range 16).foldl (fun s p => s.refreshTargets l p) (if s1.on (Reg.LK_CTRL_EN l) then s1.sendSafeMap l else s1)).holdRefresh l) s

/-! Valve channels (R178, R209, R378). -/

/-- R378: phases already running keep what their profile gave them. -/
def State.keepPhases (s : State) : State :=
  (List.range s.variant.valves).foldl (fun s n =>
    let st := s.vState n
    if st = vOpening ∨ st = vHold ∨ st = vDecay then s.setValve n { s.valve n with kept := some (s.phaseNow n) } else s) s

/-- Table 7.2: channel `n` serves outlet `o`: it leaves OFF, or ends its decay in IDLE. -/
def State.mapValve (s : State) (n o : Nat) : State :=
  let s1 := ((s.setFld (Reg.VCH_CFG_OUTLET n) o).setFld (Reg.VCH_CFG_MAPPED n) 1).setFld (Reg.VCH_CFG_PROFILE n) (s.fld (Reg.OT_CFG_PROFILE o))
  if s1.vState n = vOff then s1.vTo n vIdle 0
  else if s1.vState n = vDecay ∧ (s1.valve n).after = 2 then s1.setValve n { s1.valve n with after := 0 }
  else s1

/-- Table 7.2: channel `n` serves no outlet any more: it decays to OFF under the profile it had. -/
def State.unmapValve (s : State) (n : Nat) : State :=
  let p := s.profile n
  let s1 := (((s.setFld (Reg.VCH_CFG_OUTLET n) 0).setFld (Reg.VCH_CFG_MAPPED n) 0).setFld (Reg.VCH_CFG_PROFILE n) 0).setValve n { s.valve n with keptProf := some p }
  s1.vClose n 2

/-- R203: the units that serve an outlet with DUTY_MOD = 1 and DEST = 0 are ledger-driven. -/
def State.ledgerUnits (s : State) : State :=
  let us := (s.outlets.filter (fun o => decide (s.fld (Reg.OT_CFG_TARGET o) = 1) && (s.on (Reg.OT_CFG_DUTY_MOD o) && !s.on (Reg.OT_RATE_DEST o)))).map
    (fun o => s.unitOf (s.fld (Reg.OT_TARGET_CHAN o)))
  (s.variant.units.filter (fun u => s.on (uLedger u) != us.contains u)).foldl (fun s u => s.setBit (uLedger u) (us.contains u)) s

/-- VCH_CFG's outlet, mapping and profile follow the table; channels newly mapped leave OFF, channels no longer mapped go to it. -/
def State.mapValves (s : State) : State :=
  ((List.range s.variant.valves).foldl (fun s n =>
    match s.outletOn 1 n with
    | some o => s.mapValve n o
    | none => if s.on (Reg.VCH_CFG_MAPPED n) then s.unmapValve n else s) s).ledgerUnits

/-! Loop slots (Table 14.6). -/

/-- What slot `n` runs in an image: its program words reachable from ENTRY, with their addresses. -/
def reachIn (rs : List ImgRec) (n : Nat) : List (Nat × Nat) :=
  match findRec rs 0x0302 n with
  | some r => slotReach (rs.map (fun r => { ofs := 0, r := r })) { ofs := 0, r := r }
  | none => []

/-- R378: the slots that an activation changes. -/
def changedSlots (old new : List ImgRec) (ks : List (Nat × Nat)) : List Nat :=
  (List.range 64).filter (fun n => ks.contains (0x0302, n) || (ks.contains (0x0303, n) || (ks.contains (0x0304, n) ||
    (ks.contains (0x0301, n / 8) && decide (reachIn old n ≠ reachIn new n)))))

/-- R376, Table 15.5: a slot that an activation starts while a hold stands takes the hold's safe state. -/
def State.slotHeld (s : State) (n : Nat) : State :=
  let obeys := decide (s.fld (Reg.SL_CFG_SAFE_ACT n) ≠ 2)
  let s1 := if s.on Reg.RES_STATE_STOP ∧ s.on (Reg.SL_CFG_STOP_ACT n) ∧ obeys then s.slotSafe n caStop else s
  if s1.on Reg.RES_STATE_HELD_SAFE ∧ obeys then s1.slotSafe n caHeld else s1

/-- Table 9.2, R378: a changed slot goes to OFF, then STOPPED with its new words, and soft-starts where AUTO_EN is 1. -/
def State.activateSlot (s : State) (n : Nat) : State :=
  let r := s.record 0x0302 n
  let s0 := (s.setSlot n {}).setReg (0x541004 + 0x100 * (n % 64)) 0
  let s1 := (s0.loadWords r (0x541040 + 0x100 * (n % 64)) 5).loadWords (r.map (fun r => { r with words := r.words.drop 8 })) (0x541060 + 0x100 * (n % 64)) 32
  let s2 := s1.loadWords (s.record 0x0303 n) (0x57C000 + 0x100 * (n % 64)) 64
  let s3 : State := ({ s2 with lp := { s2.lp with coefStaged := s2.lp.coefStaged.filter (fun e => e.1 / 64 ≠ n) } }).loadData n
  match r with
  | none => s3.setFld (Reg.SL_CTRL_EN n) 0
  | some _ =>
    let s4 := s3.slotStop n
    match s4.boostSlot n with
    | some b => if s4.on (Reg.BST_CTRL_BST_EN b) then (s4.slotSoft n).slotHeld n else s4
    | none =>
      let auto := s4.on (Reg.SL_CFG_AUTO_EN n)
      let s5 := s4.setBit (Reg.SL_CTRL_EN n) auto
      if auto then (s5.slotSoft n).slotHeld n else s5

/-! Bus ports (Table 14.6). -/

/-- The ports that an activation changes. -/
def changedPorts (ks : List (Nat × Nat)) : List Nat :=
  (List.range 6).filter (fun p => ks.any (fun k =>
    (k.1 == 0x0401 && k.2 == p) || ((k.1 == 0x0402 && k.2 / 64 == p) || ((k.1 == 0x0403 && k.2 / 4096 == p) ||
      ((k.1 == 0x0404 && k.2 / 256 == p) || (k.1 == 0x0405 && k.2 / 128 == p))))))

/-- R378: a changed port goes to OFF and then integrates under its new settings; its objects start afresh. -/
def State.activatePort (s : State) (p : Nat) : State :=
  let s0 := s.portOff p
  let s1 := s0.loadWords (s.record 0x0401 p) (0x5A0130 + 0x100 * (p % 6)) 10
  let s2 : State := { s1 with bp := { s1.bp with rx := s1.bp.rx.filter (fun e => e.1 / 256 ≠ p), tx := s1.bp.tx.filter (fun e => e.1 / 128 ≠ p) } }
  let objs : List ImgRec := match s.im.active with | some m => m.recs.filter (fun r => r.kind = 0x0405 ∧ r.index / 128 = p) | none => []
  let s3 := objs.foldl (fun s r => s.setTxObj r.index { data := (r.words.drop 2).flatMap (leBytes 4) }) s2
  let m := s3.fld (Reg.BP_TT_START_MODE p)
  let s4 := s3.setFld (Reg.BP_CTRL_MODE p) m
  if (s.record 0x0401 p).isSome ∧ m ≠ 0 ∧ ¬ s.busAbsent p then s4.portJoin p else s4

/-! Contexts (Table 14.6). -/

/-- R349, R357, R378: context `c` as the image gives it: rights at once, a change of BOUND as BIND or unbind, outlets outside its groups
released. -/
def State.activateContext (s : State) (c : Nat) : State :=
  let r := s.ctxRecord c
  let w := match r with | some r => r.words.getD 0 0 | none => 0
  let was := s.on (Reg.CTX_CFG_BOUND c)
  let now := bit w 5
  let s0 := if was ∧ ¬ now then s.unbind c else s
  let s1 := s0.loadWords r (0x5B1000 + 0x20 * (c % 1024)) 5
  let s2 := if was ∧ now then s1 else (s1.setBit (Reg.CTX_CFG_BOUND c) now)
  (s2.ownedBy c).foldl (fun s o => if s.grouped c Reg.CTX_OWN_GROUPS o 1 then s else s.freeOwner o) s2

/-! The whole activation (R374, R378). -/

/-- Bytes of an image's header. -/
def Image.hdr (m : Image) (o n : Nat) : Nat := leAt m.bytes o n

/-- R281, R304: the shadow copies are written; the field die's once it has the image's words (R375). -/
def State.shadowWrites (s : State) : State :=
  let s1 := s.lsShadowWrite
  if s1.fd.staged.isNone then s1.fdShadowWrite else s1

/-- R48: where frames are off, PERIOD and HORIZON take the registers' values and the next frame start is set. -/
def State.framesStart (s : State) : State :=
  if s.tb.framesOn then s else
    { s with tb := { s.tb with period := s.fld Reg.FRM_CFG_PERIOD, horizon := s.fld Reg.FRM_CFG_HORIZON, next := some s.epochAfter } }

/-- The staged image becomes active at the present field time; `live` tells a live activation. -/
def State.activate (s : State) (m : Image) (live : Bool) : State :=
  let old := match s.im.active with | some a => a.recs | none => []
  let first := s.im.active.isNone
  let ks := diffKeys old m.recs
  let has (t : Nat) : Bool := first || ks.any (fun k => k.1 / 256 == t)
  let s0 : State := { s.keepPhases with im := { s.keepPhases.im with active := some m, staged := none, copied := false, cut := false } }
  let cs := ((if first then [0] else []) ++ keysOf ks 0x0501).eraseDups
  let s1 := cs.foldl (fun s c => s.activateContext c) s0
  let s2 := (ks ++ (if first then s1.plainItems ks else [])).foldl (fun s k => s.loadRec k) s1
  let s3 := if ¬ live ∨ has 1 then s2.activateOutlets old ks (!live) else s2
  let s4 := s3.mapValves
  let s5 := if has 1 then s4.activateLinks else s4
  let s6 := (changedPorts ks).foldl (fun s p => s.activatePort p) s5
  let s7 := (changedSlots old m.recs ks).foldl (fun s n => s.activateSlot n) s6
  let s8 := s7.modeBoundary.shadowWrites
  let s9 : State := { s8 with lg := { s8.lg with degradedOk := bit (m.hdr 6 2) 0 } }
  let s11 := (((s9.framesStart.setFld Reg.IMG_STATUS_ACTIVE 1).setFld Reg.IMG_STATUS_STAGE 0).setFld Reg.IMG_STATUS_LIVE 0).setReg 0x401028 (BitVec.ofNat 32 (m.hdr 16 4))
  let s12 := (s11.setFld Reg.IMG_ACTIVE_VER_IMAGE_VER (m.hdr 20 2)).setFld Reg.IMG_ACTIVE_VER_SEC_VER (m.hdr 22 2)
  let s13 := ((s12.setReg 0x40102C 0).setReg 0x401034 0).setReg 0x401024 0
  let s14 := if first ∧ s13.on Reg.POSE_CTRL_POSE_EN then s13.poWake else s13
  (s14.raise Reg.IMG_EVENT_ACTIVATED).canvas 12 0x0070
    (leBytes 1 (b2n live) ++ leBytes 3 0 ++ leBytes 4 (m.hdr 16 4) ++ leBytes 2 (m.hdr 20 2) ++ leBytes 2 (m.hdr 22 2) ++ leBytes 8 s.ft.toNat)

end Sys2Proof.Machine
end

