-- ==== Sys2Proof/Machine/Image.lean ====
section
/-! DEFINITION. Image control (chapter 14): staging, verification, boot slots, keys, the floor, commits and boot (R367–R377, R382). -/

namespace Sys2Proof.Machine

/-! Staging and verification (R369, R371). -/

/-- STAGE. -/
abbrev stEmpty : Nat := 0
abbrev stVerifying : Nat := 1
abbrev stVerified : Nat := 2
abbrev stRefused : Nat := 3
abbrev stPending : Nat := 4

def State.stage (s : State) : Nat := s.fld Reg.IMG_STATUS_STAGE
def State.imgErr (s : State) : State := s.raise Reg.IMG_EVENT_CFG_ERR

/-- The size of the staging buffer. -/
abbrev stagingSize : Nat := 0x180000

/-- Bytes of a sparse table from `pos` on, zero where none is listed. -/
def denseFrom : Nat → List (Nat × Byte) → List Byte
  | _, [] => []
  | pos, (k, b) :: m => List.replicate (k - pos) 0 ++ b :: denseFrom (k + 1) m

/-- The bytes of the staging buffer as a listing of offsets, zeros unlisted. -/
def sparseFrom : Nat → List Byte → List (Nat × Byte)
  | _, [] => []
  | pos, b :: bs => if b = 0 then sparseFrom (pos + 1) bs else (pos, b) :: sparseFrom (pos + 1) bs

/-- The staged bytes that a verification reads: LENGTH of them, the header at least. -/
def State.stagedBytes (s : State) : List Byte :=
  let all := denseFrom 0 s.im.staging
  let n := leAt all 12 4
  padTo (max 64 (min n stagingSize)) all

/-- R371: bytes written to the staging buffer. -/
def State.stagingWrite (s : State) (offset : Nat) (bs : List Byte) : State :=
  if s.stage = stEmpty ∨ s.stage = stRefused then
    { s with im := { s.im with staging := ssetMany (fun _ => 0) s.im.staging offset (bs.take (stagingSize - offset)) } }
  else s.imgErr

/-- R371: a byte of the image aperture by offset: the active image from 0x80_0000, zero elsewhere. -/
def State.imageByte (s : State) (offset : Nat) : Byte :=
  if inRange 0x800000 (0x800000 + stagingSize) offset then
    match s.im.active with
    | some m => m.bytes.getD (offset - 0x800000) 0
    | none => 0
  else 0

/-- Nothing is staged (R374). -/
def State.unstage (s : State) : State :=
  let s1 : State := { s with im := { s.im with staged := none, verdict := none } }
  ((s1.setReg 0x40102C 0).setReg 0x401034 0).setReg 0x401024 0

/-- The failure of a verification in IMG_ERR and IMG_ERROFS (R369). -/
def State.showErr (s : State) (code seg rule ofs : Nat) : State :=
  (((s.setFld Reg.IMG_ERR_CODE code).setFld Reg.IMG_ERR_SEG seg).setFld Reg.IMG_ERR_RULE rule).setFld Reg.IMG_ERROFS_OFFSET ofs

/-- R369: the check of an image by the keys, the floor and SEG_CFG as they stand. -/
def State.check (s : State) (bs : List Byte) : Except Bad Image :=
  verifyImage s.variant s.im.keys (s.fld Reg.IMG_FLOOR_SEC_FLOOR) (fun i => s.fld (Reg.SEG_CFG_SRC i)) bs

/-- VERIFY (R369). -/
def State.verify (s : State) : State :=
  if s.stage = stPending then (s.showErr 13 0 0 0).raise Reg.IMG_EVENT_VERIFY_DONE
  else if s.stage = stVerifying ∨ s.im.loading.isSome then s.imgErr
  else
    let s1 := (s.unstage.setFld Reg.IMG_STATUS_STAGE stVerifying).showErr 0 0 0 0
    match s.check s.stagedBytes with
    | .ok m => { s1 with im := { s1.im with staged := some m, verdict := none } }
    | .error b => { s1 with im := { s1.im with staged := none, verdict := some (b.code, b.seg, b.rule, b.ofs) } }

/-- R375: IMG_DIFF of a staged image: bit t − 1 where segments of type t differ, bit 9 where HDR_FLAGS do. -/
def State.imageDiff (s : State) (m : Image) : Nat :=
  let old := match s.im.active with | some a => a.recs | none => []
  let of (rs : List ImgRec) (t : Nat) : List ImgRec := rs.filter (fun r => r.kind / 256 = t)
  let segs := (List.range 9).foldl (fun w i => if of old (i + 1) = of m.recs (i + 1) then w else w + 2 ^ i) 0
  let hdr := match s.im.active with | some a => decide (a.hdr 6 2 ≠ m.hdr 6 2) | none => decide (m.hdr 6 2 ≠ 0)
  segs + 2 ^ 9 * b2n hdr

/-- Table 14.6: an activation is live when only segments marked live differ. -/
def liveDiff (diff : Nat) : Bool := decide (diff &&& 0x2E0 = 0)

/-- R367: the part is unkeyed. -/
def State.unkeyed (s : State) : Bool := (List.range 4).all (fun k => (sget (fun _ => none) s.im.keys k).isNone)

/-- A verification ends (R369, R374). -/
def State.verifyDone (s : State) : State :=
  if s.stage ≠ stVerifying then s
  else match s.im.staged with
    | some m =>
      let n := (s.im.passed + 1) % 65536
      let s1 : State := { s with im := { s.im with passed := n } }
      let s2 := (s1.setFld Reg.IMG_STATUS_STAGE stVerified).setReg 0x401010 (BitVec.ofNat 32 (n + 65536 * (imageDigest m.bytes % 65536)))
      let s3 := (s2.setReg 0x40102C (BitVec.ofNat 32 (m.hdr 16 4))).setReg 0x401034 (BitVec.ofNat 32 (m.hdr 20 2 + 65536 * m.hdr 22 2))
      let s4 := s3.setReg 0x401024 (BitVec.ofNat 32 (s.imageDiff m))
      (s4.setBit Reg.IMG_STATUS_UNKEYED s.unkeyed).raise Reg.IMG_EVENT_VERIFY_DONE
    | none =>
      let v := s.im.verdict.getD (0, 0, 0, 0)
      let s1 := ((s.setFld Reg.IMG_STATUS_STAGE stRefused).showErr v.1 v.2.1 v.2.2.1 v.2.2.2)
      (s1.raise Reg.IMG_EVENT_VERIFY_DONE).raise Reg.IMG_EVENT_REFUSED

/-- DISCARD (R371). -/
def State.discard (s : State) : State :=
  if s.stage = stPending then s.imgErr else s.unstage.setFld Reg.IMG_STATUS_STAGE stEmpty

/-! Boot slots (R372, R373). -/

def State.bootSlot (s : State) (k : Nat) : BootSlot := sget (fun _ => {}) s.im.slots k

/-- A boot slot's content with VALID and TRIAL in IMG_BOOT. -/
def State.setBootSlot (s : State) (k : Nat) (x : BootSlot) : State :=
  let s1 : State := { s with im := { s.im with slots := sset (fun _ => {}) s.im.slots k x } }
  (s1.setBit (if k = 0 then Reg.IMG_BOOT_VALID_A else Reg.IMG_BOOT_VALID_B) x.valid).setBit
    (if k = 0 then Reg.IMG_BOOT_TRIAL_A else Reg.IMG_BOOT_TRIAL_B) x.trial

/-- SAVE (R373): the slot is invalid until the write ends. -/
def State.save (s : State) (k : Nat) (trial : Bool) : State :=
  let src : Option Image := if s.stage = stVerified ∨ s.stage = stPending then s.im.staged else s.im.active
  let only := (s.bootSlot k).valid && !(s.bootSlot (1 - k)).valid
  match src with
  | some m =>
    if 2 ≤ k ∨ s.on Reg.IMG_STATUS_BUSY ∨ only then s.imgErr
    else
      let s1 := (s.setBootSlot k {}).setFld Reg.IMG_STATUS_BUSY 1
      { s1 with im := { s1.im with saving := some (k, m.bytes, trial) } }
  | none => s.imgErr

/-- The write of a slot ends (R373). -/
def State.saveDone (s : State) (ok : Bool) : State :=
  match s.im.saving with
  | some (k, bs, trial) =>
    let s1 : State := { s with im := { s.im with saving := none } }
    let s2 := s1.setFld Reg.IMG_STATUS_BUSY 0
    if ok then (s2.setBootSlot k { bytes := bs, valid := true, trial := trial }).raise Reg.IMG_EVENT_SAVE_DONE
    else s2.raise Reg.IMG_EVENT_SAVE_FAIL
  | none => s

/-- LOAD (R373): from its start nothing is staged, so that no token of an image that it replaces is accepted (DESIGN CHOICE, log 50). -/
def State.load (s : State) (k : Nat) : State :=
  if 2 ≤ k ∨ s.on Reg.IMG_STATUS_BUSY ∨ s.stage = stVerifying ∨ s.stage = stPending ∨ ¬ (s.bootSlot k).valid then s.imgErr
  else
    let s1 := s.unstage.setFld Reg.IMG_STATUS_STAGE stEmpty
    { s1 with im := { s1.im with loading := some k } }.setFld Reg.IMG_STATUS_BUSY 1

/-- The copy of a slot into staging ends (R373). -/
def State.loadDone (s : State) (ok : Bool) : State :=
  match s.im.loading with
  | some k =>
    let s1 : State := { s with im := { s.im with loading := none } }
    let s2 := s1.setFld Reg.IMG_STATUS_BUSY 0
    if ok then { s2 with im := { s2.im with staging := sparseFrom 0 (s.bootSlot k).bytes } } else s2
  | none => s

/-- CONFIRM (R372). -/
def State.confirm (s : State) : State :=
  let k := s.fld Reg.IMG_STATUS_BOOTED_FROM
  if k = 0 then s else s.setBootSlot (k - 1) { s.bootSlot (k - 1) with trial := false, tried := false }

/-! Keys and the floor (R367, R368). -/

/-- The KEY record (Table 17.1). -/
def State.keyRecord (s : State) (cmd slot : Nat) : State :=
  s.canvas 12 0x0071 (leBytes 1 cmd ++ leBytes 1 slot ++ leBytes 2 (s.fld Reg.IMG_FLOOR_SEC_FLOOR))

/-- RAISE_FLOOR (R368). -/
def State.raiseFloor (s : State) : State :=
  match s.im.active with
  | some m => (s.setFld Reg.IMG_FLOOR_SEC_FLOOR (max (s.fld Reg.IMG_FLOOR_SEC_FLOOR) (m.hdr 22 2))).keyRecord 6 0
  | none => s.imgErr

/-- The digest that IMG_KEYDATA0–7 hold, its byte 0 the most significant (R12, R367). -/
def State.keyDigest (s : State) : Nat :=
  beNat ((List.range 8).flatMap (fun i => leBytes 4 (sget (fun _ => (0 : Word)) s.im.keyData i).toNat))

/-- KEY_PROG (R367). -/
def State.keyProg (s : State) (k : Nat) : State :=
  if 4 ≤ k ∨ (s.key k).isSome then s.imgErr else (s.setKey k { digest := s.keyDigest }).keyRecord 7 k

/-- KEY_REVOKE (R367). -/
def State.keyRevoke (s : State) (k : Nat) : State :=
  let other := (List.range 4).any (fun j => decide (j ≠ k) && (s.key j).any (fun x => !x.revoked && !x.bad))
  match s.key k with
  | some x => if 4 ≤ k ∨ ¬ other then s.imgErr else (s.setKey k { x with revoked := true }).keyRecord 8 k
  | none => s.imgErr

/-! Commit (R374–R377). -/

/-- The slot that admits an image, in IMG_KEY.MATCH. -/
def State.showMatch (s : State) (m : Image) : State :=
  match admits s.im.keys (sha256 (slice m.bytes (m.bytes.length - 128) 64)) with
  | some (some k) => s.setFld Reg.IMG_KEY_MATCH k
  | _ => s

/-- A verified image becomes active. -/
def State.bringUp (s : State) (m : Image) (live : Bool) : State := (s.showMatch m).activate m live

/-- R377: what a quiet token needs. -/
def State.quiet (s : State) : Bool :=
  !s.on Reg.LG_CTRL_PLAN_EN && (decide (s.inFlight = 0) && (List.range s.variant.outlets).all (fun o => !s.on (Reg.OT_STATE_SEALED_OPEN o)))

/-- R374: frames from the last frame start to the first one at least 5 ms ahead, and its time; a PERIOD that waits for the next frame start
(R51) counts from there. -/
def State.framesAhead (s : State) : Nat × Time :=
  let next := s.tb.next.getD (BitVec.ofNat 64 (s.reg64 0x410038) + BitVec.ofNat 64 (400000 * s.tb.period))
  let q := max (400000 * s.fld Reg.FRM_CFG_PERIOD) 1
  let lack := (40000000 - tdiff next s.ft).toNat
  let n := 1 + (lack + q - 1) / q
  (n, next + BitVec.ofNat 64 ((n - 1) * q))

/-- R231: MODE frames of the staged NODE records that differ, for positions enumerated, with DUE at the boundary. -/
def State.sendModes (s : State) (m : Image) (due : Time) : State :=
  let old := match s.im.active with | some a => a.recs | none => []
  ((m.recs.filter (fun r => decide (r.kind = 0x0102))).filter (fun r => findRec old 0x0102 r.index ≠ some r)).foldl (fun s r =>
    let l := r.index / 16
    let p := r.index % 16
    if s.ndState l p = nEnumerated then
      let w := r.words.getD 1 0
      s.sendMode l p (w % 65536) (((r.words.drop 2).flatMap (leBytes 4)).take (bitsOf w 16 6)) due
    else s) s

/-- IMG_COMMIT (R374, R377): the token fixes the boundary; with no image active the boundary is the acceptance itself. -/
def State.commit (s : State) (token : Nat) : State :=
  match s.im.staged with
  | some m =>
    if s.stage ≠ stVerified ∨ token ≠ (s.reg 0x401010).toNat then s.imgErr
    else if s.im.active.isNone then
      let s1 := (s.setReg64 0x401018 s.ft.toNat).setReg 0x401020 1
      ((s1.sendModes m s.ft).setFld Reg.IMG_STATUS_BOOTED_FROM 0).bringUp m false
    else
      let live := liveDiff (s.reg 0x401024).toNat
      if ¬ live ∧ ¬ s.quiet then s.imgErr.raise Reg.IMG_EVENT_NOT_QUIET
      else
        let n := s.framesAhead.1
        let ta := s.framesAhead.2
        let s1 := ((s.setFld Reg.IMG_STATUS_STAGE stPending).setBit Reg.IMG_STATUS_LIVE live).setReg64 0x401018 ta.toNat
        let s2 := s1.setReg 0x401020 (BitVec.ofNat 32 (s.fld Reg.FRM_NO_NUMBER + n))
        { s2 with im := { s2.im with copied := false, cut := false } }.sendModes m ta
  | none => s.imgErr

/-- R375, R376: the copying of a pending commit ends; the staged rate tables stand in RT_STAGED. -/
def State.copyDone (s : State) : State :=
  if s.stage = stPending ∧ ¬ s.inTakeover then
    let s1 : State := { s with im := { s.im with copied := true } }
    ((s1.im.staged.map (fun m => m.recs.filter (fun r => r.kind = 0x0803))).getD []).foldl (fun s r =>
      s.loadWords (some r) (0x40A800 + 0x100 * (r.index % 4)) 64) s1
  else s

/-- R375: the staged copies become active at the boundary, by which their copying has ended (R376). -/
def State.activation (s : State) : State :=
  match s.im.staged with
  | some m => if s.stage = stPending then (s.setFld Reg.IMG_STATUS_BOOTED_FROM 0).bringUp m (s.on Reg.IMG_STATUS_LIVE) else s
  | none => s

/-! Boot (R372). -/

/-- One boot slot tried: the state, and whether an image is active. -/
def State.tryBoot (s : State) (k : Nat) : State :=
  let x := s.bootSlot k
  if s.im.active.isSome ∨ ¬ x.valid then s
  else if x.trial ∧ x.tried then s.raise Reg.IMG_EVENT_TRIAL_FAIL
  else
    let s1 := if x.trial then s.setBootSlot k { x with tried := true } else s
    match s1.check x.bytes with
    | .ok m => ((s1.setFld Reg.IMG_STATUS_BOOTED_FROM (k + 1)).setBit Reg.IMG_STATUS_UNKEYED s1.unkeyed).bringUp m false
    | .error b => s1.showErr b.code b.seg b.rule b.ofs

/-- R372: slot PREF, then the other. -/
def State.boot (s : State) : State :=
  let k := s.fld Reg.IMG_BOOT_PREF
  (s.tryBoot k).tryBoot (1 - k)

/-- A write in the image page other than a command or a token (R382). -/
def State.imWrite (s : State) (a v : Nat) : State :=
  if inRange 0x401044 0x401064 a then
    { s with im := { s.im with keyData := sset (fun _ => 0) s.im.keyData ((a - 0x401044) / 4) (BitVec.ofNat 32 v) } }
  else s.writeCodes a v

/-- IMG_CTRL: a command by number (R382). -/
def State.imCommand (s : State) (v : Nat) : State :=
  let k := bitsOf v 4 2
  match bitsOf v 0 4 with
  | 0 => s
  | 1 => s.verify
  | 2 => s.discard
  | 3 => s.save k (bit v 6)
  | 4 => s.load k
  | 5 => s.confirm
  | 6 => s.raiseFloor
  | 7 => s.keyProg k
  | 8 => s.keyRevoke k
  | _ => s.imgErr

end Sys2Proof.Machine
end

