-- ==== Sys2Proof/Machine/Power.lean ====
section
/-! DEFINITION. Power, start-up, sleep and retention (chapter 16), and the reload after held-safe in NONE (R397). -/

namespace Sys2Proof.Machine

def State.pwrErr (s : State) : State := s.raise Reg.PWR_EVENT_CFG_ERR

/-! Learned delays (R416–R418). -/

/-- R416: BIND of an outlet's words. -/
def State.bindOf (s : State) (o : Nat) : Nat :=
  crc32 ((leBytes 4 (s.reg (0x470004 + 0x40 * o)).toNat) ++ leBytes 4 (s.reg (0x470020 + 0x40 * o)).toNat ++ leBytes 4 (s.reg (0x470024 + 0x40 * o)).toNat) % 2 ^ 20

/-- Table 16.5: the record of a defined outlet, as a 64-bit value. -/
def State.ldRecord (s : State) (o : Nat) : Nat :=
  s.fld (Reg.OT_LRN_OPEN_LRN o) + 2 ^ 20 * s.fld (Reg.OT_LRN_CLOSE_LRN o) + 2 ^ 40 * s.fld (Reg.OT_LRN_OPEN_LEARNED o) +
    2 ^ 41 * s.fld (Reg.OT_LRN_OPEN_SEEDED o) + 2 ^ 42 * s.fld (Reg.OT_LRN_CLOSE_LEARNED o) + 2 ^ 43 * s.fld (Reg.OT_LRN_CLOSE_SEEDED o) +
    2 ^ 44 * s.bindOf o

/-- The records of the defined outlets; every other outlet's is zero. -/
def State.ldTable (s : State) : List (Nat × Nat) :=
  (s.outlets.map (fun o => (o, s.ldRecord o))).filter (fun e => decide (e.2 ≠ 0))

/-- R417: the learned-delay area rewritten. -/
def State.ldWrite (s : State) : State :=
  let n := s.pw.saveSeq + 1
  { s with pw := { s.pw with ld := some { seq := n, recs := s.ldTable }, saveSeq := n } }.setReg 0x5D0038 (BitVec.ofNat 32 n)

/-- R417: every LD_PERIOD seconds in which a learned word has changed. -/
def State.ldRewrite (s : State) : State := if (s.pw.ld.map (·.recs)).getD [] = s.ldTable then s else s.ldWrite

/-- Word `w` of a state bank (R390, R415). -/
def State.bankWord (s : State) (b w : Nat) : Word := sget (fun _ => 0) s.pw.banks (32768 * b + w)

/-- R415: SEQ of a bank, 0 where it is invalid. -/
def State.bankSeq (s : State) (b : Nat) : Nat := if s.pw.bankBad.contains b then 0 else (s.bankWord b 0).toNat

/-- R418, R424: the valid sources of the learned-delay table: LD_SRC and SEQ. -/
def State.ldSources (s : State) : List (Nat × Nat) :=
  (([0, 1] : List Nat).filter (fun b => decide (s.bankSeq b ≠ 0) && decide (bitsOf (s.bankWord b 2).toNat 8 8 = s.variant.imageBit))).map
    (fun b => (b + 1, s.bankSeq b)) ++ (match s.pw.ld with | some l => [(3, l.seq)] | none => [])

/-- The stored record of outlet `o` in a source. -/
def State.ldFrom (s : State) (src o : Nat) : Nat :=
  if src = 3 then (match s.pw.ld with | some l => sget (fun _ => 0) l.recs o | none => 0)
  else (s.bankWord (src - 1) (16 + 2 * o)).toNat + 2 ^ 32 * (s.bankWord (src - 1) (17 + 2 * o)).toNat

/-- R418: learned delays restored at start, all or nothing per outlet. -/
def State.ldRestore (s : State) : State :=
  match s.ldSources.foldl (fun (m : Option (Nat × Nat)) x => match m with
    | some y => if y.2 < x.2 then some x else m
    | none => some x) none with
  | none => s
  | some (src, _) =>
    s.outlets.foldl (fun s o =>
      let r := s.ldFrom src o
      if r ≠ 0 ∧ bitsOf r 44 20 = s.bindOf o then
        let s1 := ((s.setFld (Reg.OT_LRN_OPEN_LRN o) (bitsOf r 0 20)).setFld (Reg.OT_LRN_CLOSE_LRN o) (bitsOf r 20 20)).setFld (Reg.OT_LRN_OPEN_LEARNED o) (bitsOf r 40 1)
        ((s1.setFld (Reg.OT_LRN_OPEN_SEEDED o) (bitsOf r 41 1)).setFld (Reg.OT_LRN_CLOSE_LEARNED o) (bitsOf r 42 1)).setFld (Reg.OT_LRN_CLOSE_SEEDED o) (bitsOf r 43 1)
      else s) (s.setFld Reg.PWR_STATUS_LD_SRC src)

/-! The swath log (R419). -/

/-- A direction as an angle from field north towards field east, 2π / 65,536. -/
def northAngle (e n : Int) : Nat :=
  if e = 0 ∧ n = 0 then 0 else ((angleOf (dirOf (n, e)) * 65536).fdiv twoPi % 65536).toNat

/-- An entry added; the log keeps the most recent 4,192. -/
def State.swathAdd (s : State) (bs : List Byte) : State := { s with pw := { s.pw with swath := (bs :: s.pw.swath).take 4192 } }

/-- Table 16.6: a pose entry. -/
def State.swathPose (s : State) (h : PoseHist) : State :=
  let d := s.headAt h
  s.swathAdd (leBytes 1 2 ++ leBytes 3 0 ++ leBytes 5 h.te.toNat ++ leBytes 5 (unsx 40 (comp h.pos 0)) ++ leBytes 5 (unsx 40 (comp h.pos 1)) ++
    leBytes 2 (northAngle d.1 d.2) ++ leBytes 3 (unsx 20 (satI 20 (s.speedAt h / 2 ^ 20))))

/-- Table 16.6: a landing entry at the instant `t` (the pose last before it). -/
def State.swathLanding (s : State) (x : Time × Nat × Nat × Bool) : State :=
  match s.poseAt x.1 with
  | some h =>
    let p := s.place x.2.1 h.pos h.quat h.defl
    s.swathAdd (leBytes 1 1 ++ leBytes 1 (x.2.2.1 + 16 * b2n x.2.2.2) ++ leBytes 2 x.2.1 ++ leBytes 5 x.1.toNat ++ leBytes 5 (unsx 40 p.c.1) ++
      leBytes 5 (unsx 40 p.c.2) ++ leBytes 2 (northAngle p.h.1 p.h.2) ++ leBytes 3 0)
  | none => s

/-- R419: the landings that the painter has formed up to its present instant. -/
def State.swathForm (s : State) : State :=
  match s.mp.tau with
  | some tau =>
    let due := s.mp.landings.filter (fun x => tge tau x.1)
    due.foldl (fun s x => s.swathLanding x) { s with mp := { s.mp with landings := s.mp.landings.filter (fun x => !tge tau x.1) } }
  | none => s

/-! State banks (R415). -/

/-- Words with their places from word `k` on, zeros left out. -/
def placeWords : Nat → List Nat → List (Nat × Word)
  | _, [] => []
  | k, w :: ws => if w % 2 ^ 32 = 0 then placeWords (k + 1) ws else (k, BitVec.ofNat 32 w) :: placeWords (k + 1) ws

/-- Little-endian bytes as words. -/
def byteWords : List Byte → List Nat
  | a :: b :: c :: d :: r => (a.toNat + 256 * b.toNat + 65536 * c.toNat + 16777216 * d.toNat) :: byteWords r
  | [] => []
  | r => [leNat r]

/-- Table 16.4: the ledger entries in COMMITTED or FIRED state, nearest due first. -/
def State.bankEntries (s : State) : List Nat :=
  let es := s.ledger.filter (fun p => p.2.st == eCommitted || p.2.st == eFired)
  ((es.foldl (fun l x => insDue s.ft x l) []).take 1024).flatMap (fun p => p.2.words)

/-- The words of a bank after SEQ and CRC (Table 16.4), sparse. -/
def State.bankWords (s : State) (cause : Nat) : List (Nat × Word) :=
  let cal := s.calNow.1 + 2 ^ 40 * s.fld Reg.TB_STATUS_CAL_VALID
  let head := [cause + 2 ^ 8 * s.variant.imageBit + 2 ^ 16 * s.fld Reg.IMG_ACTIVE_VER_IMAGE_VER, (s.reg 0x401028).toNat,
    s.ft.toNat % 2 ^ 32, s.ft.toNat / 2 ^ 32, cal % 2 ^ 32, cal / 2 ^ 32, s.fld Reg.FRM_NO_NUMBER, (s.reg 0x5C0000).toNat]
  let ld := s.ldTable.flatMap (fun e => placeWords (16 + 2 * e.1) [e.2, e.2 / 2 ^ 32])
  let states := s.outlets.flatMap (fun o => placeWords (2064 + o) [bitsOf (s.reg (0x47003C + 0x40 * o)).toNat 11 8])
  let lg := placeWords 3088 ([s.lgStat, s.lgCount] ++ ([0, 1, 2, 3].map (fun i => (s.reg (0x40C010 + 4 * i)).toNat)))
  let dirty := (List.range s.variant.slots).flatMap (fun k =>
    let d := s.fld (Reg.TILE_DIRTY_BAND k)
    if d = 0 then [] else
      let v := s.fld (Reg.TILE_X_TX k) + 2 ^ 24 * s.fld (Reg.TILE_Y_TY k) + 2 ^ 48 * d
      placeWords (7200 + 2 * k) [v, v / 2 ^ 32])
  let log := s.pw.swath.reverse
  placeWords 2 head ++ ld ++ states ++ lg ++ placeWords 3104 s.bankEntries ++ dirty ++ placeWords 7584 [log.length] ++
    placeWords 7586 (byteWords (log.flatMap (padTo 24)))

/-- The bytes of sparse words from word `k` to word `n`. -/
def denseWords : Nat → Nat → List (Nat × Word) → List Byte
  | k, n, [] => List.replicate (4 * (n - k)) 0
  | k, n, (j, w) :: r => List.replicate (4 * (j - k)) 0 ++ leBytes 4 w.toNat ++ denseWords (j + 1) n r

/-- The words of bank `b` replaced. -/
def State.setBank (s : State) (b : Nat) (ws : List (Nat × Word)) : State :=
  let mine := ws.map (fun e => (32768 * b + e.1, e.2))
  let other := s.pw.banks.filter (fun e => e.1 / 32768 ≠ b)
  let s1 : State := { s with pw := { s.pw with banks := if b = 0 then mine ++ other else other ++ mine, bankBad := s.pw.bankBad.filter (· ≠ b) } }
  s1.setReg (0x5D0030 + 4 * (b % 2)) (s1.bankWord b 0)

/-- R415: a save begins: the bank that does not hold the newest valid save, or bank A; its SEQ is zeroed. -/
def State.saveBegins (s : State) (cause : Nat) : State :=
  let a := s.bankSeq 0
  let b := s.bankSeq 1
  let t := if a = 0 ∧ b = 0 then 0 else if b ≤ a then 1 else 0
  let s1 : State := { s with pw := { s.pw with saving := some (t, cause), saveFt := s.ft, banks := sdel (32768 * t) s.pw.banks } }
  s1.setReg (0x5D0030 + 4 * (t % 2)) 0

/-- R415: the save under way ends; one that does not complete leaves the bank invalid. -/
def State.saveEnds (s : State) (ok : Bool) : State :=
  match s.pw.saving with
  | some (b, cause) =>
    let us := min ((s.ft - s.pw.saveFt).toNat / 8000) 65535
    let s1 : State := ({ s with pw := { s.pw with saving := none } }).setFld Reg.PWR_TIMES_SAVE_T us
    if ok then
      let n := s1.pw.saveSeq + 1
      let ws := s1.bankWords cause
      let crc := crc32 (denseWords 2 32768 ws)
      { s1 with pw := { s1.pw with saveSeq := n } }.setBank b (placeWords 0 [n, crc] ++ ws)
    else s1.setBank b []
  | none => s

/-! Losing and resetting the core die (R405, R412–R414). -/

/-- R423: the RTC now: 40 bits of seconds and a 15-bit fraction. -/
def State.rtcFine (s : State) : Nat :=
  (32768 * s.pw.rtc + s.pw.rtcFrac + (if s.pw.coreUp then (s.ft - s.pw.rtcFt).toNat * 32768 / 8000000000 else 0)) % 2 ^ 55

/-- R423: RTC seconds now. -/
def State.rtcNow (s : State) : Nat := s.rtcFine / 32768

/-- The core die stops: what it had under way is cut short (R373, R414, R417, R433), its internal links end. -/
def State.coreDown (s : State) : State :=
  let now := s.rtcFine
  let s1 := if s.pw.saving.isSome then s.saveEnds false else s
  let s2 := s1.eraseCut
  let s3 : State := { s2 with pw := { s2.pw with coreUp := false, rtc := now / 32768, rtcFrac := now % 32768, sleepBy := none }, im := { s2.im with saving := none, loading := none } }
  ((((s3.driveAlone 0).driveAlone 1).setFld Reg.LS_STATUS_SW_LINK 0).setFld Reg.PWR_STATUS_READY 0).setFld Reg.PWR_STATUS_SLEEP_PEND 0

/-- The register words that a reset of the core die leaves: those of the switch and field dies, of the always-on domain and of the
retained store. -/
def survives (a w : Nat) : Option Nat :=
  if a = 0x590000 then some (w &&& 0xE)
  else if inRange 0x580000 0x5A0000 a then some w
  else if a = 0x401038 ∨ a = 0x40103C then some w
  else if a = 0x401040 then some (w % 256)
  else if a = 0x5D0004 then some (w &&& 0x1E)
  else if a = 0x5D0008 ∨ a = 0x5D000C ∨ a = 0x5D0018 ∨ a = 0x5D0028 ∨ a = 0x5D002C then some w
  else if a = 0x5D0000 then some (w &&& 0x3C)
  else if a = 0x5D0030 ∨ a = 0x5D0034 ∨ a = 0x5D0038 then some w
  else if a = 0x5E0004 ∨ a = 0x5E0048 then some w
  else none

/-- R40, R58: FT starts at 0 with a run of the core die: what a die with its own supply timed goes on from there, its grids as R271 sets them. -/
def OutState.rebased (x : OutState) (n : Nat) (ft : Time) : OutState :=
  { x with grid := Grid.fresh x.grid.period n, armed := false, dark := false, inrush := x.inrush.map (· - ft), waitFrom := x.waitFrom - ft,
           kept := x.kept.map (fun k => (k.1, { k.2 with start := k.2.start - ft, old := none })) }

/-- The channels of a die, rebased. -/
def rebaseAll (xs : List (Nat × OutState)) (ft : Time) : List (Nat × OutState) :=
  xs.foldl (fun q e => sset OutState.initial q e.1 (e.2.rebased e.1 ft)) []

/-- The part with its core die reset: every unit of it as after reset, the retained store, the dies with their own supplies and the
always-on domain as they were. -/
def State.coreCleared (s : State) : State :=
  let regs := s.regs.filterMap (fun e => (survives e.1 e.2.toNat).map (fun w => (e.1, BitVec.ofNat 32 w)))
  { variant := s.variant, pending := s.pending, free := s.free, answer := s.answer,
    regs := regs.filter (fun e => e.2 ≠ resetWord s.variant e.1),
    rc := { canvas := s.rc.canvas, badRecs := s.rc.badRecs, dropped := s.rc.dropped, tags := s.rc.tags, deferred := s.rc.deferred },
    hp := { hostMem := s.hp.hostMem }, gn := { retained := s.gn.retained },
    ls := { s.ls with beatAt := none, stop := false, halt := false, safe := false, limpFired := [], chans := rebaseAll s.ls.chans s.ft },
    fd := { s.fd with txAt := none, rxAt := none, rxSeq := none, tellStop := false, tellHalt := false, tellSafe := false, lost := false, edges := [],
                      staged := none, unlatch := [], outs := rebaseAll s.fd.outs s.ft },
    im := { slots := s.im.slots, keys := s.im.keys }, pw := s.pw,
    rs := { fencedLanes := s.rs.fencedLanes, fencedCopies := s.rs.fencedCopies } }

/-- The core die reset; DROPPED is what the CANVAS_FULL record holds (R432). -/
def State.coreReset (s : State) : State := s.coreCleared.setFld Reg.CV_DROPPED_DROPPED s.rc.dropped

/-- R47, R58: calendar time resumes from the RTC while it is valid. -/
def State.calFromRtc (s : State) : State :=
  if s.on Reg.PWR_STATUS_RTC_VALID then
    { s with tb := { s.tb with calSec := s.rtcNow, calFt := s.ft, calFrac := s.rtcFine % 32768 * 8000000000 / 32768 } }.setFld Reg.TB_STATUS_CAL_VALID 1
  else s

/-- R399: lanes at start by their self-tests, and fire copies that the retained store names as fenced, each tested again: DUAL, SINGLE with a fence, or NONE in held-safe with cause START. -/
def State.lanesStart (s : State) (laneA laneB : Bool) : State :=
  let before := s.rs.fencedLanes
  let bad := s.rs.fencedCopies.filter (fun c => !Config.copyTest s.free c)
  let back := (before.contains 0 && laneA) || ((before.contains 1 && laneB) || decide (bad.length < s.rs.fencedCopies.length))
  let s0 := bad.foldl (fun s c => (s.setFbit Reg.RES_STATE_FIRE_OK c false).setFbit Reg.RES_STATE_FIRE_FENCED c true) s.tick
  let s1 : State := { s0 with rs := { s0.rs with fencedLanes := (if laneA then [] else [0]) ++ (if laneB then [] else [1]), fencedCopies := bad } }
  let s2 := (s1.setFld Reg.RES_STATE_LANE_A (if laneA then 0 else 2)).setFld Reg.RES_STATE_LANE_B (if laneB then 0 else 2)
  let s3 := s2.raiseIf back Reg.RES_EVENT_FENCED_BEFORE
  if laneA ∧ laneB then s3
  else
    let s4 := (s3.raise Reg.RES_EVENT_FENCED).bump Reg.RES_CNT_A_FENCE_N (b2n (!laneA) + b2n (!laneB))
    if laneA ∨ laneB then s4.setFld Reg.RES_STATE_STATE 2 else (s4.setFld Reg.RES_STATE_STATE 3).holdSafe 5 0 1

/-- R33: no committed plan exists after a start: what the ledger had opened on the dies with their own supplies is off. -/
def State.startClosed (s : State) : State :=
  let s1 := s.ls.chans.foldl (fun s e => s.setLsw e.1 { e.2 with on := false }) s
  s1.fd.outs.foldl (fun s e => s.setFout e.1 { e.2 with on := false }) s1

/-- R9, R405, R406, R408: the reset release, unless a failed attempt still waits for a RESET_N pulse: the core die starts from reset, its lanes test themselves, the field configuration
is the shadow's until an image activates (R308), the part boots, learned delays return. -/
def State.resetRelease (s : State) (laneA laneB : Bool) : State :=
  if s.pw.coreUp ∨ s.pw.asleep ∨ s.pw.brown ∨ s.pw.stuck then s
  else
    let s1 := s.coreReset.startClosed.fdFromShadow
    let r := (32768 * s1.pw.rtc + s1.pw.rtcFrac + Config.downTime s1.free) % 2 ^ 55
    let seq := max (max (s1.bankSeq 0) (s1.bankSeq 1)) ((s1.pw.ld.map (·.seq)).getD 0)
    let s2 : State := { s1.tick with pw := { s1.pw with coreUp := true, rtc := r / 32768, rtcFrac := r % 32768, rtcFt := 0, saveSeq := seq, released := 0, good := [true, true, true],
                                                        saving := none, swath := [] } }
    let s3 := (s2.setFld Reg.PWR_STATUS_START_KIND s2.pw.startKind).setFld Reg.PWR_STATUS_PG 7
    let s4 := (((s3.setFld Reg.LS_STATUS_SW_LINK 0).setFld Reg.FIO_STATUS_BAR_OK 0).calFromRtc).loadLeap
    let s5 := (s4.setReg 0x5D0030 (BitVec.ofNat 32 (s4.bankSeq 0))).setReg 0x5D0034 (BitVec.ofNat 32 (s4.bankSeq 1))
    let s6 := s5.lanesStart laneA laneB
    let s7 := s6.boot
    let s8 := if s7.im.active.isSome then s7.ldRestore else s7
    if s.rs.stopLow then s8.stopPin else s8

/-- VBAT power-on (R403): the switch die, the field die (whose shadow is checked then: Table 15.3) and the always-on domain start; it wakes a
sleeping part too (R422). -/
def State.vbatOn (s : State) : State :=
  let s0 : State := { s with pw := { s.pw with alarm := none } }
  let s1 := ((s0.coreDown.driveUnpowered.lsPowerOn.fdPowerOn).setFld Reg.PWR_STATUS_RTC_VALID 0).setFld Reg.PWR_WAKE_WAKE_SRC (if s.pw.asleep then 4 else s.fld Reg.PWR_WAKE_WAKE_SRC)
  { s1 with pw := { s1.pw with asleep := false, brown := false, holdLow := false, stuck := false, rtc := 0, rtcFrac := 0, startKind := if s.pw.asleep then 2 else 0 } }

/-- What ended the previous run, in PWR_AOLOG. -/
def State.endedBy (s : State) (brown pg : Bool) : State := (s.setBit Reg.PWR_AOLOG_BO_PREV brown).setBit Reg.PWR_AOLOG_PGLOST_PREV pg

/-- The BROWNOUT record (Table 17.1) latched for the next READY: whether a save completed (`some true`), did not (`some false`) or there was
none, and the bank written. -/
def State.brownRecord (s : State) (save : Option Bool) (bank : Nat) : State :=
  let fl := b2n (save == some true) + 2 * b2n (save == some false) + 4 * b2n s.pw.holdLow
  let seq := if save = some true then s.bankSeq bank else 0
  { s with rc := { s.rc with deferred := s.rc.deferred ++ [(0x0012, 12, leBytes 4 fl ++ leBytes 4 seq)] } }

/-- R414: a brown-out that the core die's reset cuts short: its save is abandoned. -/
def State.brownCut (s : State) : State :=
  if s.pw.brown ∧ s.pw.coreUp then
    (s.raiseIf s.pw.saving.isSome Reg.PWR_EVENT_BO_SAVE_FAIL).brownRecord (if s.pw.saving.isSome then some false else none) 0
  else s

/-- R405, R414: RESET_N low for 10 µs or more resets the core die. -/
def State.resetLow (s : State) : State :=
  if s.pw.asleep then s
  else if s.pw.coreUp then
    let s1 := ((s.brownCut).endedBy s.pw.brown false).coreDown
    { s1 with pw := { s1.pw with startKind := 1 } }
  else if s.pw.stuck ∨ s.pw.good.contains false then { s with pw := { s.pw with stuck := false, startKind := 1 } }
  else s

/-- R408: power-good inputs (bits of `pg`: PGCORE, PGIO, PGANA) still missing 50 ms after REGEN. -/
def State.startTimeout (s : State) (pg : Nat) : State :=
  if s.pw.coreUp ∨ s.pw.asleep ∨ s.pw.brown ∨ s.pw.stuck then s
  else
    let s1 := (s.setFld Reg.PWR_AOLOG_PG_MISSING pg).bump Reg.PWR_AOLOG_FAIL_N 1
    let good := (List.range 3).map (fun i => !bit pg i)
    let s2 := s1.setFld Reg.PWR_STATUS_PG (7 ^^^ (pg % 8))
    { s2 with pw := { s2.pw with good := good, stuck := true }, rc := { s2.rc with deferred := s2.rc.deferred ++ [(0x0011, 12, leBytes 4 (s2.reg 0x5D0008).toNat)] } }

/-- R408, R414: a power-good input lost while running: the core die is reset at once. -/
def State.pgLost (s : State) (pg : Nat) : State :=
  if ¬ s.pw.coreUp then s
  else
    let s1 := (((s.brownCut).raise Reg.PWR_EVENT_PG_LOST).endedBy s.pw.brown true).setFld Reg.PWR_STATUS_PG (7 ^^^ (pg % 8))
    let s2 := s1.coreDown
    { s2 with pw := { s2.pw with good := (List.range 3).map (fun i => !bit pg i) } }

/-! Brown-out (R410–R414). -/

/-- R409: VHOLD, 10 mV; nothing is charged at the reset release. -/
def State.vholdNow (s : State) : Nat := if s.ft = s.pw.released then 0 else Config.vhold s.ft.toNat % 2 ^ 20
def State.holdOk (s : State) : Bool := decide (1200 ≤ s.vholdNow)

/-- R412, R413: a brown-out begins: a stop as by a doorbell, the load shed, one state bank saved where an image is active and a lane
runs. -/
def State.brownOut (s : State) : State :=
  if ¬ s.pw.coreUp ∨ s.pw.brown then s
  else
    let s1 := s.raiseIf (!s.holdOk) Reg.PWR_EVENT_HOLD_LOW
    let low := !s.holdOk
    let s2 := (s1.stopHalt 3 0 0xFFFF 0).brownDrain
    let s2b : State := { s2 with pw := { s2.pw with brown := true, sleepBy := none, holdLow := low } }
    let s3 := s2b.liveSlots.foldl (fun s n => s.slotSafe n caStop) s2b.bbStop
    let s4 : State := { s3 with
                                im := { s3.im with saving := none, loading := none }, tb := { s3.tb with framesOn := false, next := none } }
    let s5 := (s4.endedBy true false).setFld Reg.PWR_STATUS_SLEEP_PEND 0
    let s6 := if s.pw.saving.isSome then s5.saveEnds false else s5
    if s.im.active.isSome ∧ s.fld Reg.RES_STATE_STATE ≠ 3 then s6.saveBegins 1 else s6

/-- R413: the brown-out save ends, complete where `held`; the core die is held in reset. -/
def State.brownSaved (s : State) (held : Bool) : State :=
  if ¬ s.pw.brown ∨ ¬ s.pw.coreUp then s
  else
    let bank := s.pw.saving.map (·.1)
    let s1 := s.saveEnds held
    let s2 := if bank.isNone then s1 else if held then s1.raise Reg.PWR_EVENT_BO_SAVED else s1.raise Reg.PWR_EVENT_BO_SAVE_FAIL
    (s2.brownRecord (bank.map (fun _ => held)) (bank.getD 0)).coreDown

/-- R410, R413: VBAT has recovered: the part starts again with START_KIND 3. -/
def State.brownRecovered (s : State) : State :=
  if s.pw.brown ∧ ¬ s.pw.coreUp then { s with pw := { s.pw with brown := false, startKind := 3 } } else s

/-! READY (R406, R407). -/

/-- The deferred records written in the order of latching (R427). -/
def State.writeDeferred (s : State) : State :=
  s.rc.deferred.foldl (fun s d => s.canvasWith d.2.1 d.1 true false d.2.2) { s with rc := { s.rc with deferred := [] } }

/-- R406, R407: the part accepts commands; START is recorded, then what was latched. -/
def State.ready (s : State) : State :=
  if ¬ s.pw.coreUp ∨ s.on Reg.PWR_STATUS_READY then s
  else
    let t := min ((s.ft - s.pw.released).toNat / 800000) 65535
    let s1 := ((s.setFld Reg.PWR_STATUS_READY 1).setFld Reg.PWR_TIMES_READY_T t).setFld Reg.HP_STATUS_LINK_UP 15
    let s2 := s1.canvas 12 0x0010 (leBytes 1 (s1.fld Reg.PWR_STATUS_START_KIND) ++ leBytes 1 (s1.fld Reg.IMG_STATUS_BOOTED_FROM) ++
      leBytes 1 (s1.fld Reg.PWR_STATUS_LD_SRC) ++ leBytes 1 (s1.fld Reg.RES_STATE_STATE) ++ leBytes 4 (s1.reg 0x401028).toNat ++ leBytes 2 t)
    let s3 := s2.raiseIf (decide (s2.fld Reg.PWR_AOLOG_FAIL_N ≠ 0)) Reg.PWR_EVENT_START_FAIL
    (s3.setFld Reg.PWR_AOLOG_FAIL_N 0).writeDeferred

/-! Sleep (R421, R422). -/

/-- R421: an accepted sleep request that nothing delays: frames stop, GNSS and learned delays are kept, a bank is saved. -/
def State.sleepBegins (s : State) : State :=
  if s.stage = stPending ∨ s.on Reg.CV_STATUS_ERASING ∨ s.pw.saving.isSome ∨ s.pw.sleepBy.isNone then s
  else
    let s1 : State := { s with tb := { s.tb with framesOn := false, next := none } }
    (s1.gnssWrite.ldWrite).saveBegins 2

/-- PWR_CMD SLEEP by context `c` (R421). -/
def State.sleepRequest (s : State) (c : Nat) : State :=
  if s.inFlight ≠ 0 ∨ (List.range s.variant.outlets).any (fun o => s.on (Reg.OT_STATE_SEALED_OPEN o)) ∨ s.im.saving.isSome then
    s.pwrErr.raise Reg.PWR_EVENT_SLEEP_BUSY
  else if s.pw.sleepBy.isSome ∨ s.pw.brown then s.pwrErr
  else ({ s with pw := { s.pw with sleepBy := some c } }.setFld Reg.PWR_STATUS_SLEEP_PEND 1).sleepBegins

/-- PWR_CMD SAVE (R415). -/
def State.hostSave (s : State) : State := if s.pw.saving.isSome then s.pwrErr else s.saveBegins 3

/-- A bank save other than a brown-out's ends (R415, R421): at sleep the core die goes down and
the drive dies lose their supply (R35), unless a commit or an erasure has begun meanwhile, whose end begins the sleep anew (R381, R433). -/
def State.bankSaved (s : State) (ok : Bool) : State :=
  match s.pw.saving with
  | some (_, 3) => ((s.saveEnds ok).raiseIf ok Reg.PWR_EVENT_SAVE_DONE).sleepBegins
  | some (_, 2) =>
    let s0 := s.saveEnds ok
    if s0.stage = stPending ∨ s0.on Reg.CV_STATUS_ERASING then s0 else
    let s1 := ((s0.canvas 12 0x0014 (leBytes 4 (s0.reg 0x5D0018).toNat)).canvasDrain).canvasRewrite
    let s2 := (((List.range s1.variant.buses).foldl (fun s p => s.setFld (Reg.BP_STATUS_STATE p) bpSleep) s1).endedBy false false).coreDown.driveUnpowered
    ({ s2 with pw := { s2.pw with asleep := true }, ls := { s2.ls with asleep := true }, fd := { s2.fd with asleep := true } }.sleepInputs).limpRefresh
  | _ => s

/-- R422: the part wakes: source 1 bus, 2 field input, 3 RTC, each where it is enabled. -/
def State.wake (s : State) (source port : Nat) : State :=
  let on := (decide (source = 1) && s.on Reg.PWR_WAKE_BUS_EN) || ((decide (source = 2) && s.on Reg.PWR_WAKE_FIN_EN) ||
    (decide (source = 3) && (s.on Reg.PWR_WAKE_RTC_EN && s.pw.alarm.isSome)))
  if ¬ s.pw.asleep ∨ ¬ on then s
  else
    let r := if source = 3 then s.pw.alarm.getD s.pw.rtc else s.pw.rtc
    let f := if source = 3 then 0 else s.pw.rtcFrac
    let s1 := (s.setFld Reg.PWR_WAKE_WAKE_SRC source).setFld Reg.PWR_WAKE_WAKE_PORT (if source = 1 then port else 0)
    ({ s1 with pw := { s1.pw with asleep := false, startKind := 2, rtc := r, rtcFrac := f, alarm := if source = 3 then none else s1.pw.alarm },
               ls := { s1.ls with asleep := false }, fd := { s1.fd with asleep := false } }.sleepInputs).limpRefresh

/-- R423: once a second the RTC is set from calendar time. -/
def State.rtcSet (s : State) : State :=
  if s.on Reg.TB_STATUS_CAL_VALID then
    { s with pw := { s.pw with rtc := s.calNow.1, rtcFrac := s.calNow.2 * 32768 / 8000000000, rtcFt := s.ft, rtcSet := s.calNow.1 } }.setFld Reg.PWR_STATUS_RTC_VALID 1
  else s

/-! Registers (R425). -/

/-- A supervisor's write in the power block by context `c`. -/
def State.pwWrite (s : State) (c a v : Nat) : State :=
  if a = 0x5D000C then
    if inRange 60 201 (bitsOf v 1 8) then { s with pw := { s.pw with tripSet := true } }.writeCodes a v else s.pwrErr
  else if a = 0x5D0014 then
    match v % 4 with
    | 0 => s
    | 1 => s.sleepRequest c
    | 2 => s.hostSave
    | _ => s.pwrErr
  else if a = 0x5D001C then (if 10 ≤ v % 256 then s.writeCodes a v else s.pwrErr)
  else if a = 0x5D002C then
    let s1 := s.writeCodes a v
    { s1 with pw := { s1.pw with alarm := some (s1.reg64 0x5D0028) } }
  else s.writeCodes a v

/-- Words of the block that the part computes when they are read. -/
def State.pwRead (s : State) (a : Nat) : Option Nat :=
  if a = 0x5D0000 then some (s.readCodes a ||| 2 * b2n s.holdOk)
  else if a = 0x5D000C then
    if s.pw.tripSet then none else some (s.fld Reg.PWR_BO_SYS + 2 * (if s.on Reg.PWR_BO_SYS then 140 else 70))
  else if a = 0x5D0010 then some s.vholdNow
  else if a = 0x5D0020 then some (s.rtcNow % 2 ^ 32)
  else if a = 0x5D0024 then some (s.rtcNow / 2 ^ 32)
  else none

/-- A read of BANK_DATA: the word index moves on; a bank being written reads as zero. -/
def State.bankData (s : State) : State × Word :=
  let b := s.fld Reg.BANK_IDX_BANK
  let w := s.fld Reg.BANK_IDX_WORD
  (s.setFld Reg.BANK_IDX_WORD (w + 1), if s.pw.saving.any (fun x => decide (x.1 = b)) then 0 else s.bankWord b w)

/-! Held-safe cleared in NONE (R397). -/

/-- HS_CLEAR by the supervisor context `c`. -/
def State.hsClear (s : State) (c : Nat) : State :=
  if s.inTakeover ∨ s.fireCopies < 2 then s.raise Reg.RES_EVENT_CFG_ERR
  else if ¬ s.on Reg.RES_STATE_HELD_SAFE then s
  else if s.fld Reg.RES_STATE_STATE = 3 then
    { s with rs := { s.rs with clearing := true } }.setFld Reg.RES_STATE_LANE_A 3 |>.setFld Reg.RES_STATE_LANE_B 3
  else s.heldRelease c

/-- R397: the active image checked again after a reload: brought up, or another booted where its store or its check is bad;
with no image active every bus port is OFF (R312). -/
def State.reloadImage (s : State) : State :=
  match s.im.active with
  | some m =>
    let s0 : State := { s with im := { s.im with active := none } }
    let s1 := if s.im.storeBad then ({ s0 with im := { s0.im with storeBad := false } }.setFld Reg.IMG_STATUS_ACTIVE 0).boot
      else (match s.check m.bytes with
        | .ok m1 => s0.bringUp m1 false
        | .error _ => (s0.setFld Reg.IMG_STATUS_ACTIVE 0).boot)
    if s1.im.active.isSome then s1 else (List.range s1.variant.buses).foldl (fun s p => s.portOff p) s1
  | none => s

/-- R397: the reload ends: lanes by their self-tests; the ledger starts empty, the propagator in OFF, the image comes from the active
store or the boot slots, the learned delays from the retained store. -/
def State.reloadDone (s : State) (laneA laneB : Bool) : State :=
  if ¬ s.rs.clearing then s
  else
    let s0 : State := { s with rs := { s.rs with clearing := false } }
    let s1 := (s0.setFld Reg.RES_STATE_LANE_A (if laneA then 0 else 2)).setFld Reg.RES_STATE_LANE_B (if laneB then 0 else 2)
    let s2 : State := { s1 with rs := { s1.rs with fencedLanes := (if laneA then [] else [0]) ++ (if laneB then [] else [1]) } }
    let s3 := if laneA ∧ laneB then s2 else (s2.raise Reg.RES_EVENT_FENCED).bump Reg.RES_CNT_A_FENCE_N (b2n (!laneA) + b2n (!laneB))
    if ¬ laneA ∧ ¬ laneB then s3.setFld Reg.RES_HSCAUSE_CAUSE 5
    else
      let s4 := s3.setFld Reg.RES_STATE_STATE (if laneA ∧ laneB then 0 else 2)
      let s5 : State := ({ s4 with lg := { degradedOk := s4.lg.degradedOk }, po := {} }).poTo poOff
      let s6 := s5.reloadImage
      let s7 := if s6.im.active.isSome then s6.ldRestore else s6
      (s7.heldRelease 0xFFFF).passAll

end Sys2Proof.Machine
end

