-- ==== Sys2Proof/Machine/Frames.lean ====
section
/-! DEFINITION. Planning frames (R48–R52, R116), the sharing of frame boundaries (R53, R54), the pose epoch and the painter run with what
hangs on them, and the timebase cycle of an idle part (R42). -/

namespace Sys2Proof.Machine

/-- R48: ticks from one frame start to the next. -/
def State.frameTicks (s : State) : Nat := 400000 * s.tb.period

/-- R116, R224: the outlet's target is present. -/
def State.targetThere (s : State) (o : Nat) : Bool :=
  let t := s.fld (Reg.OT_CFG_TARGET o)
  if t = 4 then
    let r := s.remoteOf o
    decide (s.ndState r.1 r.2.1 = nEnumerated) && (!s.on (Reg.ND_STATE_ID_CHANGED r.1 r.2.1) &&
      decide (r.2.2 < s.fld (Reg.ND_STATE_OUT_COUNT r.1 r.2.1)))
  else decide (1 ≤ t) && decide (t ≤ 3)

/-- R116: a direction's delay, in ticks, exceeds the horizon less the commit lead. -/
def State.delayOut (s : State) (kind o : Nat) : Bool :=
  decide (8000000 * s.tb.horizon <
    2000 * max (s.fld (nomF kind o)) (s.fld (lrnF kind o)) + 80000 * s.fld (trnF kind o) + s.commitLead o)

/-- R116: PLANNABLE, TARGET_ABSENT and DELAY_RANGE of one outlet at a frame start. -/
def State.planOne (s : State) (o : Nat) : State :=
  let there := s.targetThere o
  let far := s.delayOut kOpen o || s.delayOut kClose o
  let ok := there && (!s.lg.fresh.contains o && (!s.on (Reg.OT_STATE_DIVERGENT o) && !far))
  ((s.setBit (Reg.OT_STATE_TARGET_ABSENT o) (!there)).setBit (Reg.OT_STATE_DELAY_RANGE o) far).setBit (Reg.OT_STATE_PLANNABLE o) ok

/-- R116: every defined outlet at a frame start. -/
def State.plannables (s : State) : State :=
  let s1 := s.outlets.foldl (fun s o => s.planOne o) s
  { s1 with lg := { s1.lg with fresh := [] } }

/-- R51: the staged PERIOD and HORIZON come into force; a shorter horizon cancels what frames booked beyond it, with CAUSE 2. -/
def State.takeFrmCfg (s : State) (tk : Time) : State :=
  let h := s.fld Reg.FRM_CFG_HORIZON
  let s1 := { s with tb := { s.tb with period := s.fld Reg.FRM_CFG_PERIOD, horizon := h } }
  if h < s.tb.horizon then
    (s.ledger.filter (fun p => p.2.st == eBooked && (p.2.ctx.isNone && decide ((8000000 * h : Int) < tdiff p.2.due tk)))).foldl
      (fun s p => s.cancelEntry p.1 2) s1
  else s1

/-- R49: the frame at `tk` takes its number. -/
def State.frameNumber (s : State) (tk : Time) : State :=
  let s1 := if s.tb.framesOn then s.bumpWrap Reg.FRM_NO_NUMBER 1 else s.setFld Reg.FRM_NO_NUMBER 1
  { s1.setReg64 0x410038 tk.toNat with tb := { s1.tb with framesOn := true } }

/-- R49: a frame is computed: not in a takeover, not in held-safe. -/
def State.framesComputed (s : State) : Bool :=
  decide (s.fld Reg.RES_STATE_STATE ≠ 1) && (decide (s.fld Reg.RES_STATE_STATE ≠ 3) && !s.on Reg.RES_STATE_HELD_SAFE)

/-- R30, R474: what the frame at `tk` plans. -/
def State.planFrame (s : State) (tk : Time) : State :=
  if s.framesComputed then
    let s1 := s.count 0x004 1
    match s1.epochOf tk with
    | some h => if h.valid then s1.validFrame tk h else s1.invalidFrame tk
    | none => s1.invalidFrame tk
  else s.bump Reg.FRM_STAT_SKIPPED 1

/-- R48: the frame that starts at `tk`. -/
def State.frameAt (s : State) (tk : Time) : State :=
  let s0 := (((s.frameNumber tk).boundary tk).takeOfs).takeFrmCfg tk
  let s1 := { s0 with tb := { s0.tb with next := some (tadd tk s0.frameTicks) } }
  let s2 := (((s1.count 0x003 1).tileFrame.rateFrame).pathFrame).plannables
  (s2.planFrame tk).syncPulse 1 tk

/-- R48: the start of the next frame: frame 1's is set by the first activation, t_{k+1} is t_k + P. -/
def State.frameDue (s : State) : Option Time :=
  match s.tb.next with
  | some t => if tge s.ft t then some t else none
  | none => none

/-- R48: the next frame starts when field time reaches its start, with what its start brings about: host changes, staged values, tiles,
plannability. -/
def State.frameStart (s : State) : State :=
  if s.pw.coreUp ∧ s.on Reg.IMG_STATUS_ACTIVE ∧ s.ftCounts then
    match s.frameDue with
    | none => s
    | some tk => s.frameAt tk
  else s

/-! Sharing frame boundaries (R54). -/

/-- R54: own frame start nearest the leader's, less the leader's. -/
def State.syncError (s : State) (leader : Time) : Int :=
  let p := s.frameTicks
  let d := (leader - BitVec.ofNat 64 (s.reg64 0x410038)).toNat % p
  if 2 * d ≤ p then -(d : Int) else (p : Int) - d

/-- R54: the follower phase step: FT forward by `d` ticks, with BOOKED events cancelled and the stamps of pose history and waiting fixes
moved by the same step. The part's other reckoning points (calendar, RTC, NCO phases, PLL lock, REFIN) move too, so that none of them
jumps (DEDUCED, log 21). -/
def State.phaseStep (s : State) (d : Nat) : State :=
  let by' (t : Time) : Time := t + BitVec.ofNat 64 d
  let booked := s.ledger.filter (fun p => p.2.st == eBooked)
  let s0 := booked.foldl (fun s p => s.cancelEntry p.1 0) s
  let s1 := s0.gn.chans.foldl (fun s e => s.setChan e.1 { s.chan e.1 with ncoFt := by' e.2.ncoFt, lockFt := by' e.2.lockFt }) s0
  { s1 with
    ft := by' s1.ft
    tb := { s1.tb with calFt := by' s1.tb.calFt, refinSince := s1.tb.refinSince.map by' }
    pw := { s1.pw with rtcFt := by' s1.pw.rtcFt }
    po := { s1.po with hist := s1.po.hist.map (fun h => { h with te := by' h.te })
                       pending := s1.po.pending.map (fun f => { f with stamp := by' f.stamp })
                       lastStamp := s1.po.lastStamp.map by' }
    lg := { s1.lg with path := [] } }

/-- R54: the follower is aligned from here on. -/
def State.syncAlign (s : State) : State :=
  { s.setFld Reg.TB_STATUS_SYNC_LOCK 1 with tb := { s.tb with aligned := true, missed := 0, syncLost := false } }

/-- R54: SYNCIN_ERR of an accepted pulse. -/
def State.syncAccept (s : State) (err : Int) : State :=
  { s.setSfld Reg.SYNCIN_ERR_ERR (satI 20 err) with tb := { s.tb with errs := s.tb.errs ++ [err], missed := 0 } }

/-- R54: a pulse out of the window: rejected, and the third in a row is a loss. -/
def State.syncReject (s : State) : State :=
  let s1 := s.raise Reg.TB_EVENT_SYNC_REJECT
  if 3 ≤ s1.tb.missed + 1 then { s1 with tb := { s1.tb with missed := 0 } }.syncLoss
  else { s1 with tb := { s1.tb with missed := s1.tb.missed + 1 } }

/-- R54: a rising edge on SYNCIN captured at `capture`. -/
def State.syncIn (s : State) (capture : Time) : State :=
  if ¬ (s.pw.coreUp ∧ s.on Reg.TB_CTRL_FOLLOWER ∧ s.tb.framesOn ∧ 0 < s.frameTicks) then s
  else
    let leader := capture - BitVec.ofInt 64 (s.sfld Reg.SYNCIN_COMP_COMP)
    let err := s.syncError leader
    if err.natAbs ≤ 40000 ∧ (s.tb.aligned ∨ s.tb.syncLost) then s.syncAlign.syncAccept err
    else if s.tb.aligned then s.syncReject
    else if s.ledger.any (fun p => p.2.st == eCommitted || p.2.st == eFired) then s.raise Reg.TB_EVENT_SYNC_UNALIGNED
    else
      let p := s.frameTicks
      let m := (leader - BitVec.ofNat 64 (s.reg64 0x410038)).toNat % p
      (s.phaseStep ((p - m) % p)).syncAlign

/-! Rows that hang several chapters' effects on one trigger. -/

/-- POSE_EPOCH (R101) with the progress on a host path (R143), the last heading (R117), the pose source of the loops (R247) and the
swath's pose entries (Table 16.6). -/
def State.epochRow (s : State) : State :=
  if ¬ (s.pw.coreUp ∧ s.ftCounts) then s
  else
    let s1 := s.poseEpoch
    match s1.po.hist with
    | [] => s1
    | h :: _ =>
      if s.po.hist.head?.map (·.te) = some h.te then s1
      else
        let s2 := s1.pathProgress
        let s3 : State := match headingOf h.quat with
          | some d => { s2 with mp := { s2.mp with head := d } }
          | none => s2
        let s4 := s3.newSample 11 0
        if h.te.toNat % 80000000 = 0 then s4.swathPose h else s4

/-- PAINTER_RUN (R134) with the landing entries of the swath (Table 16.6). -/
def State.painterRow (s : State) : State := if s.pw.coreUp then s.painterRun.swathForm else s

/-- One timebase cycle with nothing commanded (R42): FT advances while it counts, an automatic stop release that has fallen due is made
(R398), bus windows end (R318), and messages held back go out when MOD allows. -/
def State.idle (s : State) : State :=
  if s.pw.coreUp ∧ s.ftCounts then
    let s1 := (s.ftStep.count 0x001 1).stopAuto.busWindows
    s1.hp.held.foldl (fun s c => { s with hp := { s.hp with held := s.hp.held.filter (· ≠ c) } }.ctxMessage c) s1
  else s

end Sys2Proof.Machine
end

