-- ==== Sys2Proof/Machine/Operands.lean ====
section
/-! DEFINITION. Who speaks and what it may reach: attribution of an access (R340), rights to read (R348) and to write each region of the
host address map (Table 18.1), by the rule that heads each block's registers. -/

namespace Sys2Proof.Machine

/-- The context an access at `a` through host port `p` is made as (R340). -/
def State.speaker (s : State) (p a : Nat) : Nat := if a < 0x400000 then a / 0x1000 else s.directCtx p

/-- R364, R286, R308, R267: context `c` is the owner that an OWNERS table names for an item. -/
def State.namedOwner (s : State) (table item c : Nat) : Bool := decide (s.ownerOf table item = some c)

/-- A context may read the outlet on a target's channel, if there is one (R286, R308). -/
def State.mayReadTarget (s : State) (target chan c : Nat) : Bool :=
  match s.outletOn target chan with
  | some o => s.mayReadOutlet c o
  | none => false

/-- R243: a context may read a link's registers if it may read one of its outlets. -/
def State.mayReadLink (s : State) (l c : Nat) : Bool :=
  s.outlets.any (fun o => decide (s.fld (Reg.OT_CFG_TARGET o) = 4) && (decide ((s.remoteOf o).1 = l) && s.mayReadOutlet c o))

/-- R439: a context reads the counters. -/
def State.readsCounters (s : State) (c : Nat) : Bool :=
  s.holds c Reg.CTX_PERM_COUNTERS || s.on (Reg.CTX_PERM_COUNTERS_GRANT c)

/-- R348: context `c` holds read rights over the item at a defined address outside the context windows. -/
def State.mayRead (s : State) (c a : Nat) : Bool :=
  if s.supervisor c then true
  else if inRange 0x409038 0x40903C a then s.mayReadOutlet c (s.fld Reg.OT_SREAD_IDX_OUTLET)
  else if inRange 0x409800 0x40A400 a then s.on (Reg.CTX_PERM_MAP c)
  else if inRange 0x40D000 0x40F000 a then s.mayReadOutlet c ((a - 0x40D000) / 8)
  else if inRange 0x470000 0x480000 a then s.mayReadOutlet c ((a - 0x470000) / 0x40)
  else if inRange 0x480000 0x520000 a then
    match s.entry ((a - 0x480000) / 16) with
    | some e => s.mayReadOutlet c e.outlet
    | none => true
  else if inRange 0x530000 0x538000 a then s.mayReadLink ((a - 0x530000) / 0x800) c
  else if inRange 0x580100 0x580900 a then
    let n := (a - 0x580100) / 0x40
    s.namedOwner 0 n c || s.mayReadTarget 2 n c
  else if inRange 0x590100 0x590500 a then s.namedOwner 1 ((a - 0x590100) / 16) c
  else if inRange 0x590600 0x590E00 a then
    let m := (a - 0x590600) / 0x40
    s.namedOwner 2 m c || s.mayReadTarget 3 m c
  else if inRange 0x5BE000 0x5BF000 a then s.mayReadOutlet c ((a - 0x5BE000) / 4)
  else if inRange 0x5D0004 0x5D0048 a then false
  else if inRange 0x5E0004 0x5E0040 a then false
  else if inRange 0x5E0100 0x5E5000 a then s.readsCounters c
  else true

/-- The tile slots and the aperture are for the supervisor and for contexts that hold MAP (R140). -/
def State.mayMap (s : State) (c : Nat) : Bool := s.holds c Reg.CTX_PERM_MAP

/-- R211, R203: registers of the drive block that contexts with drive permission may write. -/
def driveReg (s : State) (a : Nat) : Bool :=
  inRange 0x520018 0x52002C a ||
    (let u := if a < 0x529000 then (a - 0x528000) / 32 else 128 + (a - 0x529000) / 32
     inRange 0x528000 0x529200 a && (decide (a % 32 = 0xC) || ((decide (a % 32 = 8) || decide (a % 32 = 0x10)) && !s.on (uLedger u))))

/-- R267: registers of the loop block that contexts with loop tuning may write. -/
def tuneReg (a : Nat) : Bool := inRange 0x540010 0x540018 a || (inRange 0x540100 0x540300 a || inRange 0x548000 0x54C000 a)

/-- R267: the owner of the slot or host word that a register belongs to. -/
def State.loopOwner (s : State) (a : Nat) : Option Nat :=
  if inRange 0x540400 0x540500 a then s.ownerOf 4 ((a - 0x540400) / 4)
  else if inRange 0x541000 0x545000 a ∧ (a % 0x100 = 0 ∨ a % 0x100 = 0xC) then s.ownerOf 3 ((a - 0x541000) / 0x100)
  else if inRange 0x57C000 0x580000 a then s.ownerOf 3 ((a - 0x57C000) / 0x100)
  else none

/-- Context `c` may write the register at a defined address outside the context windows. -/
def State.mayWrite (s : State) (c a : Nat) : Bool :=
  if s.supervisor c then (if inRange 0x5A1000 0x5A1800 a then decide (s.viewOwner ((a - 0x5A1000) / 0x80) = some c) || decide (a < 0x5A1080) else true)
  else if inRange 0x408000 0x409000 a || inRange 0x420000 0x460000 a then s.on (Reg.CTX_PERM_GNSS_CONSUMER c)
  else if a = 0x409000 ∨ a = 0x409030 then s.on (Reg.CTX_PERM_TASK_CONTROL c)
  else if inRange 0x409180 0x4091A0 a || inRange 0x40A400 0x40A800 a then s.on (Reg.CTX_PERM_TASK_CONTROL c)
  else if inRange 0x409800 0x40A400 a then s.on (Reg.CTX_PERM_MAP c)
  else if inRange 0x40C020 0x40C02C a || inRange 0x40C200 0x40C400 a then s.on (Reg.CTX_PERM_PATH_SOURCE c)
  else if inRange 0x460000 0x470000 a then fixSourceReg a && s.on (Reg.CTX_PERM_FIX_SOURCE c)
  else if inRange 0x520000 0x530000 a then driveReg s a && s.on (Reg.CTX_PERM_DRIVE c)
  else if inRange 0x540000 0x580000 a then
    (tuneReg a && s.on (Reg.CTX_PERM_LOOP_TUNE c)) || decide (s.loopOwner a = some c)
  else if inRange 0x580100 0x580900 a then
    inRange 8 0x14 (a % 0x40) && s.namedOwner 0 ((a - 0x580100) / 0x40) c
  else if inRange 0x590100 0x590500 a then decide (a % 16 = 0) && s.namedOwner 1 ((a - 0x590100) / 16) c
  else if inRange 0x590600 0x590E00 a then
    inRange 4 0x10 (a % 0x40) && s.namedOwner 2 ((a - 0x590600) / 0x40) c
  else if inRange 0x5A1000 0x5A1800 a then decide (s.viewOwner ((a - 0x5A1000) / 0x80) = some c)
  else false

end Sys2Proof.Machine
end

