-- ==== Sys2Proof/Machine/Flags.lean ====
section
/-! DEFINITION. Register words that the part computes at the instant they are read: counts, states and windows that show what State
holds elsewhere. -/

namespace Sys2Proof.Machine

/-- R369, R374: the image verified and staged. -/
def State.shownStaged (s : State) : Option Image := if s.stage = stVerified ∨ s.stage = stPending then s.im.staged else none

/-- The words of an outlet's record in an image (Table 14.4): words 10, 11 and 15 are the part's own. -/
def outletWords (rs : List ImgRec) (o : Nat) : List Nat :=
  match findRec rs 0x0101 o with
  | some r => r.words.take 10 ++ [0, 0] ++ (r.words.drop 10).take 3 ++ [0]
  | none => List.replicate 16 0

/-- An image holds an outlet-table segment. -/
def hasOutlets (rs : List ImgRec) : Bool := rs.any (fun r => decide (r.kind = 0x0101))

/-- OT_SREAD_DATA: a word of the staged record, of the active record if no outlet table is staged. -/
def State.stagedWord (s : State) : Nat :=
  let o := s.fld Reg.OT_SREAD_IDX_OUTLET
  let w := s.fld Reg.OT_SREAD_IDX_WORD
  match s.shownStaged with
  | some m => if hasOutlets m.recs then (outletWords m.recs o).getD w 0 else s.readCodes (0x470000 + 0x40 * o + 4 * w)
  | none => s.readCodes (0x470000 + 0x40 * o + 4 * w)

/-- OT_STAGE: an outlet table is staged, and how many of its records differ from the active ones. -/
def State.stageWord (s : State) : Nat :=
  match s.shownStaged with
  | some m =>
    if hasOutlets m.recs then
      let old := match s.im.active with | some a => a.recs | none => []
      1 + 2 * (keysOf (diffKeys old m.recs) 0x0101).length
    else 0
  | none => 0

/-- Segments that an outlet of the active or of the verified staged image names (R112, R114). -/
def State.segInUse (s : State) (i : Nat) : Bool :=
  s.segUsed i || (match s.shownStaged with
    | some m => m.recs.any (fun r => decide (r.kind = 0x0101) && (bit (r.words.getD 0 0) 17 && decide (bitsOf (r.words.getD 0 0) 14 3 = i)))
    | none => false)

/-- The word that a defined register outside the context windows shows, where the part computes it at the read. -/
def State.computed (s : State) (a : Nat) : Option Nat :=
  if a < 0x408000 then
    if a = 0x400000 then some (Config.uniqueNumber % 2 ^ 32)
    else if a = 0x400004 then some (Config.uniqueNumber / 2 ^ 32 % 2 ^ 32)
    else if a = 0x400008 then some (putBits (s.reg a).toNat 4 8 Config.stepping)
    else none
  else if a = 0x409008 then some s.mapStat
  else if a = 0x409038 then some s.stagedWord
  else if a = 0x40903C then some s.stageWord
  else if a = 0x40C004 then some s.lgStat
  else if a = 0x40C008 then some s.lgCount
  else if inRange 0x410000 0x420000 a then s.tbRead a
  else if inRange 0x480000 0x520000 a then
    some (match s.entry ((a - 0x480000) / 16) with | some e => e.words.getD (a % 16 / 4) 0 | none => 0)
  else if inRange 0x520000 0x530000 a then s.vdRead a
  else if inRange 0x540000 0x580000 a then s.lpRead a
  else if inRange 0x580000 0x590000 a then s.lsRead a
  else if inRange 0x5A0000 0x5B0000 a then s.bpRead a
  else if a = 0x5B0008 then some s.supIrq
  else if inRange 0x5D0000 0x5E0000 a then s.pwRead a
  else none

/-- R11, R102, R152: the upper words that a read of the word at `a` latches. -/
def upperWords (a : Nat) : List Nat :=
  if [0x400000, 0x401018, 0x40C024, 0x410008, 0x410010, 0x410024, 0x410038, 0x460010, 0x460018, 0x460020, 0x460200, 0x460208, 0x460210,
      0x460218, 0x590014, 0x59001C, 0x590024, 0x5C0018, 0x5D0020, 0x5D0028, 0x5E0104].contains a then [a + 4]
  else if a < 0x400000 ∧ ([0x08, 0x10, 0x40, 0x60, 0x80, 0xA0].contains (a % 0x1000)) then [a + 4]
  else if a = 0x460300 then (List.range 31).map (fun k => a + 4 + 4 * k)
  else if inRange 0x480000 0x520000 a ∧ a % 16 = 0 then [a + 4, a + 8, a + 12]
  else if inRange 0x530000 0x538000 a ∧ (a % 0x800 = 0x14 ∨ a % 0x800 = 0x1C) then [a + 4]
  else if inRange 0x540100 0x540300 a ∧ a % 0x40 = 0x1C then [a + 4]
  else if inRange 0x5A0100 0x5A0700 a ∧ a % 0x100 = 0x5C then [a + 4]
  else if inRange 0x5A1000 0x5A1800 a ∧ a % 0x80 = 0x10 then [a + 4]
  else if inRange 0x5E0200 0x5E0600 a ∧ a % 16 = 4 then [a + 4]
  else []

/-- The word a register shows now, before any latch: computed, or by access codes (R7). -/
def State.shown (s : State) (a : Nat) : Word := BitVec.ofNat 32 ((s.computed a).getD (s.readCodes a))

/-- The word a read returns: the latched upper word, if one is latched (R11). -/
def State.readWord (s : State) (a : Nat) : Word := (sget (fun _ => none) s.latch a).getD (s.shown a)

/-- What a read leaves behind: the upper words latched (R11), the RC fields cleared (R7), and SILENT after FIO_EVENT (R308). -/
def State.afterRead (s : State) (a : Nat) : State :=
  let latch := (upperWords a).foldl (fun m u => sset (fun _ => none) m u (some (s.shown u))) s.latch
  let s1 := { s with latch := latch }.clearRc a
  if a = 0x590004 ∧ s1.on Reg.FIO_STATUS_SILENT then s1.setFld Reg.FIO_STATUS_SILENT 0 else s1

end Sys2Proof.Machine
end

