-- ==== Sys2Proof/Machine/Ops.lean ====
section
/-! DEFINITION. Reads and writes of the host address map (R443): by context, by host port (R340), through CW_RDATA, in quad-SPI frames
(R338, R339) and by the ring commands REG_WRITE and REG_READ (Table 13.2). Result codes: 0 OK, 1 REFUSED, 2 UNIT_ABSENT, 3 bad frame. -/

namespace Sys2Proof.Machine

/-! The blocks' writes, after the check of rights. -/

/-- A supervisor's write in the resilience block by context `c` (R401). -/
def State.rsWrite (s : State) (c a v : Nat) : State :=
  if a = 0x5C000C then
    match v % 8 with
    | 0 => s
    | 1 => s.stopReleaseCmd c
    | 2 => s.hsClear c
    | 3 => s.laneRetry
    | 4 => s.fireRetry
    | _ => s.raise Reg.RES_EVENT_CFG_ERR
  else s.writeCodes a v

/-- A supervisor's write in the image page (R382). -/
def State.imPage (s : State) (a v : Nat) : State :=
  if a = 0x401000 then s.imCommand v else if a = 0x401014 then s.commit v else s.imWrite a v

/-- A write in the ledger page (R143, R176, R377, R473). -/
def State.lgWrite (s : State) (a v : Nat) : State :=
  let err := s.raise Reg.LG_EVENT_CFG_ERR
  if a = 0x40C000 then (if bit v 0 ∧ s.quietPending then err else s.writeCodes a v)
  else if a = 0x40C020 then
    if 32 < bitsOf v 0 6 then err
    else if bit v 6 then s.pathCommit v
    else s.writeCodes a v
  else if inRange 0x40C200 0x40C400 a ∧ a % 16 = 0 ∧ ¬ s.distAscends ((a - 0x40C200) / 16) (v % 2 ^ 20) then err
  else s.writeCodes a v

/-- R196, R245: the voltage loops' slots follow a write of BST_EN. -/
def State.boostSlots (s : State) (a : Nat) : State :=
  if a = 0x520100 then s.slotsBoost 0 else if a = 0x520120 then s.slotsBoost 1 else s

/-- A legal write by context `c` to a defined register outside the context windows, by block (Table 18.1). -/
def State.blockWrite (s : State) (c a v : Nat) : State :=
  let sup := s.supervisor c
  if a < 0x401000 then s
  else if a < 0x408000 then s.imPage a v
  else if a < 0x409000 then s.bbWrite a v
  else if a < 0x40C000 then s.mapWrite sup a v
  else if a < 0x410000 then s.lgWrite a v
  else if a < 0x420000 then s.tbWrite a v
  else if a < 0x460000 then s.chanWrite a v
  else if a < 0x470000 then s.poWrite s.segInUse a v
  else if a < 0x520000 then s
  else if a < 0x530000 then (s.vdWrite sup a v).boostSlots a
  else if a < 0x540000 then s.lkWrite a v
  else if a < 0x580000 then s.lpWrite a (if sup ∨ ¬ inRange 0x541000 0x545000 a ∨ a % 0x100 ≠ 0 then v else v % 4)
  else if a < 0x590000 then s.lsWrite sup (s.namedOwner 0 ((a - 0x580100) / 0x40) c) a v
  else if a < 0x5A0000 then s.fdWrite sup (s.namedOwner 2 ((a - 0x590600) / 0x40) c) a v
  else if a < 0x5B0000 then s.bpWrite c a v
  else if a < 0x5C0000 then s.hpWrite a v
  else if a < 0x5D0000 then s.rsWrite c a v
  else if a < 0x5E0000 then s.pwWrite c a v
  else if a = 0x5E0044 then (s.tagData (some (BitVec.ofNat 32 v))).1
  else s.rcWrite c a v

/-! Access by a context (R340, R443). -/

/-- Context `c` reaches the window of context `w` (R340): its own, or any as the supervisor. -/
def State.reaches (s : State) (c w : Nat) : Bool := decide (c = w) || s.supervisor c

/-- A host's write of an upper word ends its latch (R11). -/
def State.dropLatch (s : State) (a : Nat) : State := { s with latch := sset (fun _ => none) s.latch a none }

/-- A write of `v` at `a` as context `c`, on host port `p`; CW_RDATA has its own access. -/
def State.regWrite (s : State) (p c a v : Nat) : State × Nat :=
  if a % 4 ≠ 0 then (s, 0)
  else if absent s.variant a then (s, 2)
  else if a < 0x400000 then
    let w := a / 0x1000
    let off := a % 0x1000
    if ¬ s.reaches c w then (s, 1)
    else if ¬ s.on (Reg.CTX_CFG_BOUND w) ∨ off = 0x38 then (s, 0)
    else if off = 0xFFC then (s.doorbell p c v, b2n (!s.holds c Reg.CTX_PERM_HALT))
    else if (rowOf a).isNone then (s, 0)
    else ((s.cwWrite w off v).dropLatch a, 0)
  else if a = 0x5B0040 then (s.doorbell p c v, b2n (!s.holds c Reg.CTX_PERM_HALT))
  else if inRange 0x1000000 0x2800000 a then
    if s.mayMap c then (s.apertureWrite (a - 0x1000000) (leBytes 4 v), 0) else (s, 1)
  else if inRange 0x3000000 0x3180000 a then
    if s.supervisor c then (s.stagingWrite (a - 0x3000000) (leBytes 4 v), 0) else (s, 1)
  else if (rowOf a).isNone then (s, 0)
  else if ¬ s.mayWrite c a then (s, 1)
  else ((s.blockWrite c a v).dropLatch a, 0)

/-- A read at `a` as context `c`; CW_RDATA has its own access. -/
def State.regRead (s : State) (c a : Nat) : State × Nat × Word :=
  if a % 4 ≠ 0 then (s, 0, 0)
  else if absent s.variant a then (s, 2, 0)
  else if a < 0x400000 then
    let w := a / 0x1000
    let off := a % 0x1000
    if ¬ s.reaches c w then (s, 1, 0)
    else if off = 0x38 ∨ (rowOf a).isNone then (s, 0, 0)
    else (if s.on (Reg.CTX_CFG_BOUND w) then s.afterRead a else s, 0, s.cwRead w off)
  else if inRange 0x1000000 0x2800000 a then
    if s.mayMap c then (s, 0, BitVec.ofNat 32 (leNat (s.apertureRead (a - 0x1000000) 4))) else (s, 1, 0)
  else if inRange 0x3000000 0x4000000 a then
    if s.supervisor c then (s, 0, BitVec.ofNat 32 (leNat ([0, 1, 2, 3].map (fun i => s.imageByte (a - 0x3000000 + i))))) else (s, 1, 0)
  else if (rowOf a).isNone then (s, 0, 0)
  else if ¬ s.mayRead c a then (s, 1, 0)
  else
    let window (r : State × Word) : State × Nat × Word := (r.1, 0, r.2)
    if a = 0x408108 then window (s.codeData none)
    else if a = 0x408124 then window (s.aidData none)
    else if a = 0x5D0044 then window s.bankData
    else if a = 0x5E0010 then window s.cvData
    else if a = 0x5E002C then window s.muData
    else if a = 0x5E0044 then window (s.tagData none)
    else (s.afterRead a, 0, s.readWord a)

/-- CW_RDATA of window `c` written or read (R340): the access at CW_RADDR as context `c`, its result in CW_RSTAT. -/
def State.rdata (s : State) (c : Nat) (w : Option Word) : State × Nat × Word :=
  if c < s.variant.contexts ∧ s.on (Reg.CTX_CFG_BOUND c) then
    let a := s.fld (Reg.CW_RADDR_OFFSET c)
    match w with
    | some v =>
      let r := s.regWrite (s.fld (Reg.CTX_CFG_PORT c)) c a v.toNat
      (r.1.setFld (Reg.CW_RSTAT_RESULT c) r.2, r.2, 0)
    | none =>
      let r := s.regRead c a
      (r.1.setFld (Reg.CW_RSTAT_RESULT c) r.2.1, r.2.1, r.2.2)
  else (s, 0, 0)

/-! Access through a host port (R336, R338, R340). -/

/-- A write through port `p`: attributed by its address, a window's CW_RDATA passed on. -/
def State.portPut (s : State) (p a v : Nat) : State × Nat :=
  if a < 0x400000 ∧ a % 0x1000 = 0x38 ∧ ¬ absent s.variant a then
    let r := s.rdata (a / 0x1000) (some (BitVec.ofNat 32 v))
    (r.1, r.2.1)
  else s.regWrite p (s.speaker p a) a v

/-- A read through port `p`. -/
def State.portGet (s : State) (p a : Nat) : State × Nat × Word :=
  if a < 0x400000 ∧ a % 0x1000 = 0x38 ∧ ¬ absent s.variant a then s.rdata (a / 0x1000) none
  else s.regRead (s.speaker p a) a

/-- The part answers on host port `p`: its core die is up, the port exists, and no brown-out has stopped its PCIe PHY (R412). -/
def State.answersOn (s : State) (p : Nat) : Bool := s.pw.coreUp && (decide (p < 4) && !(s.pw.brown && decide (p < 2)))

/-- R396: while no lane runs, only the resilience block, the halt doorbells and the Canvas read window are served. -/
def State.served (s : State) (a : Nat) : Bool :=
  decide (s.fld Reg.RES_STATE_STATE ≠ 3) || (inRange 0x5C0000 0x5D0000 a || (decide (a = 0x5B0040) ||
    ((decide (a < 0x400000) && decide (a % 0x1000 = 0xFFC)) || inRange 0x5E0004 0x5E0014 a)))

/-- A port over which an access has come: HP_STATUS.LINK_UP (DEDUCED, log 11). -/
def State.linkSeen (s : State) (p : Nat) : State := s.setFbit Reg.HP_STATUS_LINK_UP p true

/-- R3: what an access through port `p` answers: over PCI Express an access to an absent unit completes as an ordinary one. -/
def portCode (p code : Nat) : Nat := if p < 2 ∧ code = 2 then 0 else code

/-- A host writes `v` at `a` through port `p` (R336, R340). -/
def State.hostWrite (s : State) (p a v : Nat) : State :=
  if s.answersOn p && s.served a then
    let r := (s.linkSeen p).portPut p a v
    r.1.answers (portCode p r.2) []
  else s

/-- A host reads the word at `a` through port `p`; State's answer holds what it reads. -/
def State.hostRead (s : State) (p a : Nat) : State :=
  if s.answersOn p && s.served a then
    let r := (s.linkSeen p).portGet p a
    r.1.answers (portCode p r.2.1) [r.2.2]
  else s

/-- A host writes the register at `a` so that its bits `lo` to `lo + n - 1` are `v` and its other writable bits keep their values. -/
def State.hostField (s : State) (p a lo n v : Nat) : State :=
  let old := match rowOf a with
    | some r => (s.reg a).toNat &&& r.mask (fun c => c == .rw)
    | none => 0
  s.hostWrite p a (putBits old lo n v)

/-- A host writes bytes into the tile aperture in 16- or 32-bit accesses (R125). -/
def State.hostTile (s : State) (p off : Nat) (bs : List Byte) : State :=
  if s.answersOn p ∧ s.served 0x1000000 ∧ off + bs.length ≤ 0x1800000 then
    let s1 := s.linkSeen p
    if absent s.variant (0x1000000 + off) then s1.answers (portCode p 2) []
    else if s1.mayMap (s1.directCtx p) then (s1.apertureWrite off bs).answers 0 [] else s1.answers 1 []
  else s

/-- A host writes bytes into the staging buffer (R371). -/
def State.hostStaging (s : State) (p off : Nat) (bs : List Byte) : State :=
  if s.answersOn p ∧ s.served 0x3000000 ∧ off + bs.length ≤ stagingSize then
    let s1 := s.linkSeen p
    if s1.supervisor (s1.directCtx p) then (s1.stagingWrite off bs).answers 0 [] else s1.answers 1 []
  else s

/-! Quad-SPI frames (R338, R339). -/

/-- R338: a frame's address word is well formed; ring memory has 512 KiB a port. -/
def spiOk (addr n : Nat) : Bool :=
  decide (addr < 2 ^ 32) && (decide (bitsOf addr 26 4 = 0) && (decide (addr % 4 = 0) &&
    (decide (bitsOf addr 30 2 = 0) || (decide (bitsOf addr 30 2 = 1) && decide (bitsOf addr 0 26 + 4 * n ≤ 0x80000)))))

/-- The frame's result kept for the status read. -/
def State.spiResult (s : State) (p code : Nat) (data : List Word) : State :=
  { s with hp := { s.hp with spi := sset (fun _ => 0) s.hp.spi p code } }.answers code data

/-- A write frame's words one after another; the first result other than OK stands. -/
def State.spiPut (s : State) (p a : Nat) : List Word → State × Nat
  | [] => (s, 0)
  | w :: ws =>
    let r := s.portPut p a w.toNat
    let t := r.1.spiPut p (a + 4) ws
    (t.1, if r.2 ≠ 0 then r.2 else t.2)

/-- A read frame's words one after another. -/
def State.spiGet (s : State) (p a : Nat) : Nat → State × Nat × List Word
  | 0 => (s, 0, [])
  | n + 1 =>
    let r := s.portGet p a
    let t := r.1.spiGet p (a + 4) n
    (t.1, if r.2.1 ≠ 0 then r.2.1 else t.2.1, r.2.2 :: t.2.2)

/-- The words of a frame are served (R396). -/
def State.spiServed (s : State) (addr n : Nat) : Bool :=
  decide (bitsOf addr 30 2 ≠ 0) || (List.range n).all (fun i => s.served (bitsOf addr 0 26 + 4 * i))

/-- A quad-SPI write frame (R338); the words of one cut short are discarded, a bad frame (DEDUCED, log 11). -/
def State.spiWrite (s : State) (p addr : Nat) (cut : Bool) (ws : List Word) : State :=
  if ¬ s.answersOn p ∨ p < 2 ∨ ¬ s.spiServed addr ws.length then s
  else
    let s1 := s.linkSeen p
    let a := bitsOf addr 0 26
    if cut ∨ ¬ spiOk addr ws.length then s1.spiResult p 3 []
    else if bitsOf addr 30 2 = 0 then
      let r := s1.spiPut p a ws
      r.1.spiResult p r.2 []
    else (s1.hostWriteMem p a (ws.flatMap (fun w => leBytes 4 w.toNat))).spiResult p 0 []

/-- A quad-SPI read frame of `n` words (R338). -/
def State.spiRead (s : State) (p addr n : Nat) : State :=
  if ¬ s.answersOn p ∨ p < 2 ∨ ¬ s.spiServed addr n then s
  else
    let s1 := s.linkSeen p
    let a := bitsOf addr 0 26
    if ¬ spiOk addr n then s1.spiResult p 3 (List.replicate n 0)
    else if bitsOf addr 30 2 = 0 then
      let r := s1.spiGet p a n
      r.1.spiResult p r.2.1 r.2.2
    else s1.spiResult p 0 (wordsOf (sgetMany (fun _ => 0) s1.hp.ring ((p - 2) * 0x80000 + a) (4 * n)) n)

/-- A quad-SPI status read: the result of the port's previous frame (R338). -/
def State.spiStatus (s : State) (p : Nat) : State :=
  if ¬ s.answersOn p ∨ p < 2 then s else (s.linkSeen p).answers 0 [BitVec.ofNat 32 (sget (fun _ => 0) s.hp.spi p)]

/-! REG_WRITE and REG_READ (Table 13.2). -/

/-- Table 13.3: a completion status from an access's result. -/
def statusOf (code : Nat) : Nat := if code = 1 then 2 else if code = 2 then 1 else 0

/-- The word in the memory behind a data window that a write at `a` would replace; none where `a` is no window. -/
def State.windowWord (s : State) (a : Nat) : Option Nat :=
  let staged (m : List (Nat × Option Word)) (k : Nat) : Nat := ((sget (fun _ => none) m k).getD (s.reg a)).toNat
  if inRange 0x1000000 0x2800000 a then some (leNat (s.apertureRead (a - 0x1000000) 4))
  else if inRange 0x3000000 0x3180000 a then some (leNat (sgetMany (fun _ => 0) s.im.staging (a - 0x3000000) 4))
  else if inRange 0x548000 0x54C000 a then some (staged s.lp.tableStaged ((a - 0x548000) / 4))
  else if inRange 0x57C000 0x580000 a then some (staged s.lp.coefStaged ((a - 0x57C000) / 4))
  else if a = 0x408108 then some (s.codeData none).2.toNat
  else if a = 0x408124 then some (s.aidData none).2.toNat
  else if a = 0x5E0044 then some (s.tagData none).2.toNat
  else none

/-- The word a masked write puts: masked bits from the value, other writable bits as they stand, every other bit 0. -/
def State.maskedWord (s : State) (a value mask : Nat) : Nat :=
  let keep := match s.windowWord a with
    | some w => w
    | none => match rowOf a with
      | some r => (s.reg a).toNat &&& r.mask (fun c => c == .rw)
      | none => 0
  (value &&& mask) ||| (keep &&& (0xFFFFFFFF ^^^ mask))

/-- REG_WRITE: the masked bits written as the context; a mask of 0 writes nothing, under the same checks. -/
def State.cmdRegWrite (s : State) (c tag flags offset : Nat) (value mask : Word) : State :=
  s.command c tag flags (fun s =>
    if 2 ^ 26 ≤ offset then (s, 3, 0, 0)
    else
      let r := s.regWrite (s.fld (Reg.CTX_CFG_PORT c)) c offset (s.maskedWord offset value.toNat mask.toNat)
      (if mask = 0 ∧ r.2 = 0 then s else r.1, statusOf r.2, 0, 0))

/-- REG_READ: RESULT0 is the value read as the context. -/
def State.cmdRegRead (s : State) (c tag flags offset : Nat) : State :=
  s.command c tag flags (fun s =>
    if 2 ^ 26 ≤ offset then (s, 3, 0, 0)
    else
      let r := s.regRead c offset
      (r.1, statusOf r.2.1, r.2.2.toNat, 0))

/-- CW_RDATA of a window accessed by its host (R340). -/
def State.rdataAccess (s : State) (c : Nat) (w : Option Word) : State :=
  let p := s.fld (Reg.CTX_CFG_PORT c)
  if s.answersOn p ∧ s.served 0x1000000 then
    let r := (s.linkSeen p).rdata c w
    r.1.answers (portCode p r.2.1) (if w.isNone then [r.2.2] else [])
  else s

/-! Guards of the commands that are not accesses. -/

/-- An effect of the core die: nothing while it is down (R403). -/
def State.whenUp (s : State) (f : State → State) : State := if s.pw.coreUp then f s else s

end Sys2Proof.Machine
end

