-- ==== Sys2Proof/Machine/Rows.lean ====
section
/-! DEFINITION. What the rows' meanings share: which part of the device a command reaches, and the few effects that a row puts together
from several operations. -/

namespace Sys2Proof.Machine

/-- An effect on unit `i` of `n`: nothing where the unit does not exist (R3). -/
def State.inRangeOf (s : State) (i n : Nat) (f : State → State) : State := if i < n then f s else s

/-- An effect of the core die on unit `i` of `n`. -/
def State.inRangeUp (s : State) (i n : Nat) (f : State → State) : State := s.whenUp (fun s => s.inRangeOf i n f)

/-- What a position on a link sends or suffers: links the variant has, positions 0 to 15. -/
def State.atNode (s : State) (l p : Nat) (f : State → State) : State :=
  s.whenUp (fun s => if l < s.variant.links ∧ p < 16 then f s else s)

/-- An access to a position's registers: links 0 to 15 have addresses on every variant. -/
def State.atPosition (s : State) (l p : Nat) (f : State → State) : State := if l < 16 ∧ p < 16 then f s else s

/-- A host accesses a window register: writes a word, or reads. -/
def State.hostAccess (s : State) (p a : Nat) (w : Option Word) : State :=
  match w with
  | some v => s.hostWrite p a v.toNat
  | none => s.hostRead p a

/-- The measured rail of boost converter `b` as its last measurement left it (R197). -/
def State.railMeasured (s : State) (b meas : Nat) : State := s.setFld (Reg.BST_MEAS_MEAS b) meas

/-- R328: the halt filter decodes in every state that listens. -/
def State.listens (s : State) (p : Nat) : Bool := inRange bpActive (bpRecov + 1) (s.bpState p)

/-- R313, R328: a valid frame on bus port `p`: taken by the halt filter, or received; an FD frame is a form error where FD_EN is 0 (Table 12.1). -/
def State.frameIn (s : State) (p : Nat) (f : BusFrame) : State :=
  if f.fdf && !s.on (Reg.BP_DBT_FD_EN p) then
    s.busError p { lec := 2, dataPhase := false, ownTx := false, ownRef := false, inTag := false, exception := false, spared := false, more := 0 }
  else
    let s1 := s.goodFrame p
    if s1.listens p && s1.haltHit p f then s1.haltFrame p f else s1.received p f

end Sys2Proof.Machine
end

