-- ==== Sys2Proof/Machine/AccessCmds.lean ====
section
/-! DEFINITION. The meanings of the commands: register accesses, power, start-up, sleep and retention. Each is one row of spec/opcode_table.json; what it does to the state is its
rule's, in the operation it calls. -/

namespace Sys2Proof.Machine

/-- REGISTER_WRITE (R7): a host write by access codes, refused or not applied as the block rules. -/
def execRegisterWrite (port addr : Nat) (value : Word) (s : State) : Host.Outcome State Fault Refusal :=
  .next (s.hostWrite port addr value.toNat)

/-- CLEARING_READ (R7): a read, which clears RC fields. -/
def execClearingRead (port addr : Nat) (s : State) : Host.Outcome State Fault Refusal :=
  .next (s.hostRead port addr)

/-- LATCHING_READ (R11): a read, which latches the upper words of a wide value. -/
def execLatchingRead (port addr : Nat) (s : State) : Host.Outcome State Fault Refusal :=
  .next (s.hostRead port addr)

/-- VBAT_POWER_ON (R403). -/
def execVbatPowerOn (s : State) : Host.Outcome State Fault Refusal :=
  .next (s.vbatOn)

/-- RESET_RELEASE (R405). -/
def execResetRelease (laneA laneB : Bool) (s : State) : Host.Outcome State Fault Refusal :=
  .next (s.resetRelease laneA laneB)

/-- RESET_N_LOW (R405). -/
def execResetNLow (s : State) : Host.Outcome State Fault Refusal :=
  .next (s.resetLow)

/-- READY (R406). -/
def execReady (s : State) : Host.Outcome State Fault Refusal :=
  .next (s.ready)

/-- PG_START_TIMEOUT (R408). -/
def execPgStartTimeout (pg : Nat) (s : State) : Host.Outcome State Fault Refusal :=
  .next (s.startTimeout pg)

/-- PG_LOST (R408). -/
def execPgLost (pg : Nat) (s : State) : Host.Outcome State Fault Refusal :=
  .next (s.pgLost pg)

/-- BROWN_OUT (R412). -/
def execBrownOut (s : State) : Host.Outcome State Fault Refusal :=
  .next (s.brownOut)

/-- BROWN_OUT_SAVE_DONE (R413). -/
def execBrownOutSaveDone (held : Bool) (s : State) : Host.Outcome State Fault Refusal :=
  .next (s.brownSaved held)

/-- BROWN_OUT_RECOVERED (R410). -/
def execBrownOutRecovered (s : State) : Host.Outcome State Fault Refusal :=
  .next (s.brownRecovered)

/-- SLEEP (R421). -/
def execSleep (port : Nat) (s : State) : Host.Outcome State Fault Refusal :=
  .next (s.hostWrite port 0x5D0014 1)

/-- STATE_BANK_SAVE (R415). -/
def execStateBankSave (port : Nat) (s : State) : Host.Outcome State Fault Refusal :=
  .next (s.hostWrite port 0x5D0014 2)

/-- WAKE (R422). -/
def execWake (source port : Nat) (s : State) : Host.Outcome State Fault Refusal :=
  .next (s.wake source port)

/-- LD_REWRITE (R417). -/
def execLdRewrite (s : State) : Host.Outcome State Fault Refusal :=
  .next (s.whenUp State.ldRewrite)

/-- RTC_SET (R423). -/
def execRtcSet (s : State) : Host.Outcome State Fault Refusal :=
  .next (s.whenUp State.rtcSet)

end Sys2Proof.Machine
end

