-- ==== Sys2Proof/Machine/BusCmds.lean ====
section
/-! DEFINITION. The meanings of the commands: bus ports. Each is one row of spec/opcode_table.json; what it does to the state is its
rule's, in the operation it calls. -/

namespace Sys2Proof.Machine

/-- BUS_FRAME_RECEIVED (R313). -/
def execBusFrameReceived (port : Nat) (f : BusFrame) (s : State) : Host.Outcome State Fault Refusal :=
  .next (s.inRangeUp port s.variant.buses (fun s => s.frameIn port f))

/-- SCHEDULE_WINDOW (R318). -/
def execScheduleWindow (port w : Nat) (s : State) : Host.Outcome State Fault Refusal :=
  .next (s.inRangeUp port s.variant.buses (fun s => s.windowStart port w))

/-- BUS_TX_DONE (R318). -/
def execBusTxDone (port : Nat) (result : TxResult) (s : State) : Host.Outcome State Fault Refusal :=
  .next (s.inRangeUp port s.variant.buses (fun s => s.txDone port result))

/-- BUS_ERROR (R327). -/
def execBusError (port : Nat) (e : BusErr) (s : State) : Host.Outcome State Fault Refusal :=
  .next (s.inRangeUp port s.variant.buses (fun s => s.busError port e))

/-- BUS_INTEGRATION_DONE (R312). -/
def execBusIntegrationDone (port : Nat) (s : State) : Host.Outcome State Fault Refusal :=
  .next (s.inRangeUp port s.variant.buses (fun s => s.integrated port))

/-- BUS_RECOVERY_DONE (R312). -/
def execBusRecoveryDone (port : Nat) (s : State) : Host.Outcome State Fault Refusal :=
  .next (s.inRangeUp port s.variant.buses (fun s => s.recovered port))

/-- REF_TIMEOUT (R321). -/
def execRefTimeout (port : Nat) (s : State) : Host.Outcome State Fault Refusal :=
  .next (s.inRangeUp port s.variant.buses (fun s => s.refTimeout port))

/-- BP_MODE_WRITE (R312). -/
def execBpModeWrite (port n : Nat) (value : Word) (s : State) : Host.Outcome State Fault Refusal :=
  .next (s.inRangeUp n 6 (fun s => s.hostWrite port (0x5A0100 + 256 * n) value.toNat))

/-- BP_RECOVER (R312). -/
def execBpRecover (port n : Nat) (s : State) : Host.Outcome State Fault Refusal :=
  .next (s.inRangeUp n 6 (fun s => s.hostField port (0x5A0100 + 256 * n) 2 1 1))

/-- BV_CAPTURE (R315). -/
def execBvCapture (port v : Nat) (value : Word) (s : State) : Host.Outcome State Fault Refusal :=
  .next (s.inRangeUp v 16 (fun s => s.hostWrite port (0x5A1000 + 0x80 * v) (putBits value.toNat 12 2 1)))

/-- BV_COMMIT (R316). -/
def execBvCommit (port v : Nat) (value : Word) (s : State) : Host.Outcome State Fault Refusal :=
  .next (s.inRangeUp v 16 (fun s => s.hostWrite port (0x5A1000 + 0x80 * v) (putBits value.toNat 12 2 2)))

/-- BV_ENQUEUE (R323). -/
def execBvEnqueue (port v : Nat) (value : Word) (s : State) : Host.Outcome State Fault Refusal :=
  .next (s.inRangeUp v 16 (fun s => s.hostWrite port (0x5A1000 + 0x80 * v) (putBits value.toNat 12 2 3)))

/-- BUS_WAKE_FRAME (R330). -/
def execBusWakeFrame (port : Nat) (f : BusFrame) (s : State) : Host.Outcome State Fault Refusal :=
  .next (if port < s.variant.buses ∧ s.wakeHit port f then s.wake 1 port else s)

end Sys2Proof.Machine
end

