-- ==== Sys2Proof/Machine/DriveCmds.lean ====
section
/-! DEFINITION. The meanings of the commands: valve drive, stops and internal die links. Each is one row of spec/opcode_table.json; what it does to the state is its
rule's, in the operation it calls. -/

namespace Sys2Proof.Machine

/-- VALVE_SEAL (R188). -/
def execValveSeal (n : Nat) (samples : List Sample) (s : State) : Host.Outcome State Fault Refusal :=
  .next (s.inRangeUp n s.variant.valves (fun s => s.valveSeal n samples))

/-- PHASE_END (R180). -/
def execPhaseEnd (n : Nat) (peak now : Int) (s : State) : Host.Outcome State Fault Refusal :=
  .next (s.inRangeUp n s.variant.valves (fun s => s.phaseEnd n peak now))

/-- OVER_CURRENT (R194). -/
def execOverCurrent (n : Nat) (s : State) : Host.Outcome State Fault Refusal :=
  .next (s.inRangeUp n s.variant.valves (fun s => s.overCurrent n))

/-- MOD_OFF_EDGE (R201). -/
def execModOffEdge (n : Nat) (s : State) : Host.Outcome State Fault Refusal :=
  .next (s.inRangeUp n s.variant.valves (fun s => s.modOff n))

/-- MOD_ON_EDGE (R201). -/
def execModOnEdge (n : Nat) (s : State) : Host.Outcome State Fault Refusal :=
  .next (s.inRangeUp n s.variant.valves (fun s => s.modOn n))

/-- SENSE_CONTINUITY_TEST (R193). -/
def execSenseContinuityTest (n : Nat) (mv : Int) (s : State) : Host.Outcome State Fault Refusal :=
  .next (s.inRangeUp n s.variant.valves (fun s => s.senseTest n mv))

/-- DUTY_WINDOW_UPDATE (R195). -/
def execDutyWindowUpdate (n : Nat) (samples : List Int) (mv : Int) (s : State) : Host.Outcome State Fault Refusal :=
  .next (s.inRangeUp n s.variant.valves (fun s => ((s.dutyWindow n samples mv).newSample 1 n).newSample 2 n))

/-- CH_UNLATCH (R186). -/
def execChUnlatch (port n : Nat) (s : State) : Host.Outcome State Fault Refusal :=
  .next (s.inRangeUp n 128 (fun s => s.hostWrite port (0x52400C + 0x40 * n) 1))

/-- GATE_COMP_MEASURE (R184). -/
def execGateCompMeasure (die lambda : Nat) (s : State) : Host.Outcome State Fault Refusal :=
  .next (s.inRangeUp die 2 (fun s => s.gateComp die lambda))

/-- BST_SET_WRITE (R197). -/
def execBstSetWrite (port b : Nat) (value : Word) (meas : Nat) (s : State) : Host.Outcome State Fault Refusal :=
  .next (s.inRangeUp b 2 (fun s => (s.railMeasured b meas).hostWrite port (0x520104 + 32 * b) value.toNat))

/-- BST_EN_WRITE (R196). -/
def execBstEnWrite (port b : Nat) (value : Word) (meas : Nat) (s : State) : Host.Outcome State Fault Refusal :=
  .next (s.inRangeUp b 2 (fun s => (s.railMeasured b meas).hostWrite port (0x520100 + 32 * b) value.toNat))

/-- BOOST_REF_STEP (R197). -/
def execBoostRefStep (b meas : Nat) (s : State) : Host.Outcome State Fault Refusal :=
  .next (s.inRangeUp b 2 (fun s => (s.bstStep b meas).newSample 3 b))

/-- BST_OV (R198). -/
def execBstOv (b : Nat) (s : State) : Host.Outcome State Fault Refusal :=
  .next (s.inRangeUp b 2 (fun s => s.bstOv b))

/-- BST_LOW (R198). -/
def execBstLow (b : Nat) (s : State) : Host.Outcome State Fault Refusal :=
  .next (s.inRangeUp b 2 (fun s => s.bstLow b))

/-- LOADALL (R202). -/
def execLoadall (port k : Nat) (value : Word) (s : State) : Host.Outcome State Fault Refusal :=
  .next (s.inRangeUp k 4 (fun s => s.hostWrite port (0x520018 + 4 * k) value.toNat))

/-- LOADALL_AUX (R202). -/
def execLoadallAux (port : Nat) (value : Word) (s : State) : Host.Outcome State Fault Refusal :=
  .next (s.hostWrite port 0x520028 value.toNat)

/-- TRIP_ASSERT (R204). -/
def execTripAssert (t held : Nat) (s : State) : Host.Outcome State Fault Refusal :=
  .next (s.inRangeUp t 8 (fun s => s.tripAssert t held))

/-- TRIP_DEASSERT (R204). -/
def execTripDeassert (t : Nat) (s : State) : Host.Outcome State Fault Refusal :=
  .next (s.inRangeUp t 8 (fun s => s.tripDeassert t))

/-- TRIP_CLEAR (R204). -/
def execTripClear (port t : Nat) (s : State) : Host.Outcome State Fault Refusal :=
  .next (s.inRangeUp t 8 (fun s => s.hostField port (0x520200 + 32 * t) 19 1 1))

/-- STOP_N_LOW (R27). -/
def execStopNLow (s : State) : Host.Outcome State Fault Refusal :=
  .next (s.stopPin)

/-- STOP_N_HIGH (R398). -/
def execStopNHigh (s : State) : Host.Outcome State Fault Refusal :=
  .next (s.stopPinHigh)

/-- DEBUG_HALT (R468). -/
def execDebugHalt (s : State) : Host.Outcome State Fault Refusal :=
  .next (s.whenUp State.debugHalt)

/-- DEBUG_RESUME (R208). -/
def execDebugResume (s : State) : Host.Outcome State Fault Refusal :=
  .next (s.whenUp State.debugResume)

/-- EXTEST (R468). -/
def execExtest (s : State) : Host.Outcome State Fault Refusal :=
  .next (s.whenUp (fun s => s.stopHalt 1 0 0xFFFF 0))

/-- DIE_PATH_LOST (R391): `path` tells which of the two falls silent; the part reports the die. -/
def execDiePathLost (d _path : Nat) (s : State) : Host.Outcome State Fault Refusal :=
  .next (s.whenUp (fun s => s.pathLost d))

/-- DIE_LINK_LOST (R391). -/
def execDieLinkLost (d : Nat) (s : State) : Host.Outcome State Fault Refusal :=
  .next (s.whenUp (fun s => s.dieLost d))

end Sys2Proof.Machine
end

