-- ==== Sys2Proof/Machine/FieldCmds.lean ====
section
/-! DEFINITION. The meanings of the commands: field inputs and outputs. Each is one row of spec/opcode_table.json; what it does to the state is its
rule's, in the operation it calls. -/

namespace Sys2Proof.Machine

/-- BARRIER_OUTBOUND_FRAME (R288). -/
def execBarrierOutboundFrame (ok : Bool) (s : State) : Host.Outcome State Fault Refusal :=
  .next (s.outboundFrame ok)

/-- BARRIER_INBOUND_FRAME (R288). -/
def execBarrierInboundFrame (f : BarrierIn) (s : State) : Host.Outcome State Fault Refusal :=
  .next (s.whenUp (fun s => s.inboundFrame f))

/-- BARRIER_TIMEOUT (R290). -/
def execBarrierTimeout (s : State) : Host.Outcome State Fault Refusal :=
  .next (s.whenUp State.barrierTimeout)

/-- FIELD_SILENCE (R290). -/
def execFieldSilence (s : State) : Host.Outcome State Fault Refusal :=
  .next (s.fieldSilence)

/-- INPUT_SAMPLE (R292). -/
def execInputSample (g : Nat) (samples : List FieldSample) (s : State) : Host.Outcome State Fault Refusal :=
  .next (s.inRangeOf g 8 (fun s => s.inputSample g samples))

/-- OUTPUT_OVERLOAD (R300). -/
def execOutputOverload (m : Nat) (s : State) : Host.Outcome State Fault Refusal :=
  .next (s.inRangeOf m s.variant.fouts (fun s => s.overload m))

/-- OUTPUT_OVERLOAD_RESTART (R300). -/
def execOutputOverloadRestart (m : Nat) (s : State) : Host.Outcome State Fault Refusal :=
  .next (s.inRangeOf m s.variant.fouts (fun s => s.overloadRestart m))

/-- OUTPUT_OVERTEMP (R300). -/
def execOutputOvertemp (m : Nat) (s : State) : Host.Outcome State Fault Refusal :=
  .next (s.inRangeOf m s.variant.fouts (fun s => s.overtemp m))

/-- OUTPUT_OPEN_WIRE (R300). -/
def execOutputOpenWire (m : Nat) (ua mv : Int) (s : State) : Host.Outcome State Fault Refusal :=
  .next (s.inRangeOf m s.variant.fouts (fun s => s.foWire m ua mv))

/-- FO_UNLATCH (R300). -/
def execFoUnlatch (port m : Nat) (s : State) : Host.Outcome State Fault Refusal :=
  .next (s.inRangeUp m 32 (fun s => s.hostWrite port (0x590618 + 0x40 * m) 1))

/-- VFIELD_UNDERVOLTAGE (R299). -/
def execVfieldUndervoltage (s : State) : Host.Outcome State Fault Refusal :=
  .next (s.fieldUv)

/-- FIELD_OUTPUT_CHECK (R301). -/
def execFieldOutputCheck (entry : Nat) (mv ma vfield : Int) (s : State) : Host.Outcome State Fault Refusal :=
  .next (s.whenUp (fun s => s.foCheck entry mv ma vfield))

/-- INPUT_WAKE_EDGE (R306). -/
def execInputWakeEdge (n : Nat) (s : State) : Host.Outcome State Fault Refusal :=
  .next (if s.wakeLine n then s.wake 2 0 else s)

end Sys2Proof.Machine
end

