-- ==== Sys2Proof/Machine/GnssCmds.lean ====
section
/-! DEFINITION. The meanings of the commands: the GNSS baseband. Each is one row of spec/opcode_table.json; what it does to the state is its
rule's, in the operation it calls. -/

namespace Sys2Proof.Machine

/-- AS_TRAIN (R63): the write of AS_CTRL; with TRAIN accepted the front-end's pattern aligns the port. -/
def execAsTrain (port n : Nat) (value : Word) (s : State) : Host.Outcome State Fault Refusal :=
  .next (s.inRangeUp n 4 (fun s => (s.hostWrite port (0x408010 + 8 * n) value.toNat).train n))

/-- AS_PORT_LOST (R63). -/
def execAsPortLost (n : Nat) (s : State) : Host.Outcome State Fault Refusal :=
  .next (s.inRangeUp n s.variant.asPorts (fun s => s.asPortLost n))

/-- CH_START_SEARCH (R73). -/
def execChStartSearch (port n : Nat) (s : State) : Host.Outcome State Fault Refusal :=
  .next (s.inRangeUp n 1024 (fun s => s.hostWrite port (0x420000 + 256 * n) 1))

/-- CH_START_AIDED (R73). -/
def execChStartAided (port n : Nat) (s : State) : Host.Outcome State Fault Refusal :=
  .next (s.inRangeUp n 1024 (fun s => s.hostWrite port (0x420000 + 256 * n) 2))

/-- CH_STOP (R73). -/
def execChStop (port n : Nat) (s : State) : Host.Outcome State Fault Refusal :=
  .next (s.inRangeUp n 1024 (fun s => s.hostWrite port (0x420000 + 256 * n) 3))

/-- INTEGRATION_PERIOD_END (R75). -/
def execIntegrationPeriodEnd (n : Nat) (sums : List Tap) (sync neg : Bool) (s : State) : Host.Outcome State Fault Refusal :=
  .next (s.inRangeUp n s.variant.channels (fun s => s.periodEnd n sums sync neg))

/-- PULLIN_TIMEOUT (R73). -/
def execPullinTimeout (n : Nat) (s : State) : Host.Outcome State Fault Refusal :=
  .next (s.inRangeUp n s.variant.channels (fun s => s.pullinTimeout n))

/-- CN0_LOW_TIMEOUT (R73). -/
def execCn0LowTimeout (n : Nat) (s : State) : Host.Outcome State Fault Refusal :=
  .next (s.inRangeUp n s.variant.channels (fun s => s.cn0Timeout n))

/-- LOST_TIMEOUT (R73). -/
def execLostTimeout (n : Nat) (s : State) : Host.Outcome State Fault Refusal :=
  .next (s.inRangeUp n s.variant.channels (fun s => s.lostTimeout n))

/-- MEASUREMENT_EPOCH (R76). -/
def execMeasurementEpoch (m : EpochIn) (s : State) : Host.Outcome State Fault Refusal :=
  .next (s.whenUp (fun s => s.measurementEpoch m))

/-- BANK_FAULT (R79). -/
def execBankFault (b : Nat) (s : State) : Host.Outcome State Fault Refusal :=
  .next (s.whenUp (fun s => s.bankFault b))

/-- CODE_DATA_ACCESS (R66). -/
def execCodeDataAccess (port : Nat) (write : Option Word) (s : State) : Host.Outcome State Fault Refusal :=
  .next (s.hostAccess port 0x408108 write)

/-- AID_DATA_ACCESS (R82). -/
def execAidDataAccess (port : Nat) (write : Option Word) (s : State) : Host.Outcome State Fault Refusal :=
  .next (s.hostAccess port 0x408124 write)

/-- GNSS_RETAINED_SAVE (R82). -/
def execGnssRetainedSave (s : State) : Host.Outcome State Fault Refusal :=
  .next (s.whenUp State.gnssSave)

end Sys2Proof.Machine
end

