-- ==== Sys2Proof/Machine/HostCmds.lean ====
section
/-! DEFINITION. The meanings of the commands: hosts and contexts. Each is one row of spec/opcode_table.json; what it does to the state is its
rule's, in the operation it calls. -/

namespace Sys2Proof.Machine

/-- SQ_TAIL_WRITE (R341). -/
def execSqTailWrite (ctx : Nat) (value : Word) (s : State) : Host.Outcome State Fault Refusal :=
  .next (s.whenUp (fun s => s.sqTail ctx value.toNat))

/-- NOP (R342). -/
def execNop (ctx tag flags : Nat) (s : State) : Host.Outcome State Fault Refusal :=
  .next (s.whenUp (fun s => s.cmdNop ctx tag flags))

/-- REG_WRITE (R342). -/
def execRegWrite (ctx tag flags offset : Nat) (value mask : Word) (s : State) : Host.Outcome State Fault Refusal :=
  .next (s.whenUp (fun s => s.cmdRegWrite ctx tag flags offset value mask))

/-- REG_READ (R342). -/
def execRegRead (ctx tag flags offset : Nat) (s : State) : Host.Outcome State Fault Refusal :=
  .next (s.whenUp (fun s => s.cmdRegRead ctx tag flags offset))

/-- EDGE (R162). -/
def execEdge (ctx tag flags outlet kind : Nat) (due : Time) (rate : Nat) (s : State) : Host.Outcome State Fault Refusal :=
  .next (s.whenUp (fun s => s.cmdEdge ctx tag flags outlet kind due rate))

/-- CLAIM (R350). -/
def execClaim (ctx tag flags first count mode : Nat) (s : State) : Host.Outcome State Fault Refusal :=
  .next (s.whenUp (fun s => s.cmdClaim ctx tag flags first count mode))

/-- RELEASE (R350). -/
def execRelease (ctx tag flags first count : Nat) (s : State) : Host.Outcome State Fault Refusal :=
  .next (s.whenUp (fun s => s.cmdRelease ctx tag flags first count))

/-- INHIBIT (R351). -/
def execInhibit (ctx tag flags first count : Nat) (s : State) : Host.Outcome State Fault Refusal :=
  .next (s.whenUp (fun s => s.cmdInhibit ctx tag flags first count))

/-- INHIBIT_LIFT (R351). -/
def execInhibitLift (ctx tag flags first count : Nat) (s : State) : Host.Outcome State Fault Refusal :=
  .next (s.whenUp (fun s => s.cmdInhibitLift ctx tag flags first count))

/-- OVERRIDE_WITHDRAW (R352). -/
def execOverrideWithdraw (ctx tag flags first count : Nat) (since : Time) (s : State) : Host.Outcome State Fault Refusal :=
  .next (s.whenUp (fun s => s.cmdOverrideWithdraw ctx tag flags first count since))

/-- OVERRIDE_TAKE (R352). -/
def execOverrideTake (ctx tag flags first count mode target : Nat) (s : State) : Host.Outcome State Fault Refusal :=
  .next (s.whenUp (fun s => s.cmdOverrideTake ctx tag flags first count mode target))

/-- OVERRIDE_LIFT (R352). -/
def execOverrideLift (ctx tag flags first count : Nat) (s : State) : Host.Outcome State Fault Refusal :=
  .next (s.whenUp (fun s => s.cmdOverrideLift ctx tag flags first count))

/-- OVERRIDE_FREE (R352). -/
def execOverrideFree (ctx tag flags first count : Nat) (s : State) : Host.Outcome State Fault Refusal :=
  .next (s.whenUp (fun s => s.cmdOverrideFree ctx tag flags first count))

/-- FIX (R342). -/
def execFix (ctx tag flags : Nat) (f : FixIn) (s : State) : Host.Outcome State Fault Refusal :=
  .next (s.whenUp (fun s => s.cmdFix ctx tag flags f))

/-- BUS_SEND (R323). -/
def execBusSend (ctx tag flags port dlc : Nat) (oneShot ide fdf brs : Bool) (id : Nat) (data : List Byte) (s : State) : Host.Outcome State Fault Refusal :=
  .next (s.whenUp (fun s => s.cmdBusSend ctx tag flags port dlc oneShot ide fdf brs id data))

/-- BIND (R357). -/
def execBind (ctx tag flags target : Nat) (s : State) : Host.Outcome State Fault Refusal :=
  .next (s.whenUp (fun s => s.cmdBind ctx tag flags target))

/-- UNBIND (R357). -/
def execUnbind (ctx tag flags target : Nat) (s : State) : Host.Outcome State Fault Refusal :=
  .next (s.whenUp (fun s => s.cmdUnbind ctx tag flags target))

/-- HALT_DOORBELL (R356). -/
def execHaltDoorbell (port : Nat) (window : Option Nat) (value : Word) (s : State) : Host.Outcome State Fault Refusal :=
  .next (s.whenUp (fun s => s.ring port window value.toNat))

/-- HOST_LINK_DOWN (R337). -/
def execHostLinkDown (port : Nat) (down : Bool) (s : State) : Host.Outcome State Fault Refusal :=
  .next (s.whenUp (fun s => s.linkDown port down))

/-- CW_RDATA_ACCESS (R340). -/
def execCwRdataAccess (ctx : Nat) (write : Option Word) (s : State) : Host.Outcome State Fault Refusal :=
  .next (s.rdataAccess ctx write)

/-- SPI_WRITE (R338). -/
def execSpiWrite (port addr : Nat) (cut : Bool) (words : List Word) (s : State) : Host.Outcome State Fault Refusal :=
  .next (s.spiWrite port addr cut words)

/-- SPI_READ (R338). -/
def execSpiRead (port addr n : Nat) (s : State) : Host.Outcome State Fault Refusal :=
  .next (s.spiRead port addr n)

/-- SPI_STATUS_READ (R338). -/
def execSpiStatusRead (port : Nat) (s : State) : Host.Outcome State Fault Refusal :=
  .next (s.spiStatus port)

end Sys2Proof.Machine
end

