-- ==== Sys2Proof/Machine/ImageCmds.lean ====
section
/-! DEFINITION. The meanings of the commands: the Damask image. Each is one row of spec/opcode_table.json; what it does to the state is its
rule's, in the operation it calls. -/

namespace Sys2Proof.Machine

/-- STAGING_WRITE (R371). -/
def execStagingWrite (port offset : Nat) (bytes : List Byte) (s : State) : Host.Outcome State Fault Refusal :=
  .next (s.hostStaging port offset bytes)

/-- VERIFY (R369). -/
def execVerify (port : Nat) (s : State) : Host.Outcome State Fault Refusal :=
  .next (s.hostWrite port 0x401000 1)

/-- VERIFY_DONE (R374). -/
def execVerifyDone (s : State) : Host.Outcome State Fault Refusal :=
  .next (s.whenUp State.verifyDone)

/-- DISCARD (R371). -/
def execDiscard (port : Nat) (s : State) : Host.Outcome State Fault Refusal :=
  .next (s.hostWrite port 0x401000 2)

/-- SAVE (R373). -/
def execSave (port slot : Nat) (trial : Bool) (s : State) : Host.Outcome State Fault Refusal :=
  .next (s.hostWrite port 0x401000 (3 + 16 * (slot % 4) + 64 * b2n trial))

/-- SAVE_COMPLETE (R373). -/
def execSaveComplete (ok : Bool) (s : State) : Host.Outcome State Fault Refusal :=
  .next (s.whenUp (fun s => s.saveDone ok))

/-- LOAD (R373). -/
def execLoad (port slot : Nat) (s : State) : Host.Outcome State Fault Refusal :=
  .next (s.hostWrite port 0x401000 (4 + 16 * (slot % 4)))

/-- CONFIRM (R372). -/
def execConfirm (port : Nat) (s : State) : Host.Outcome State Fault Refusal :=
  .next (s.hostWrite port 0x401000 5)

/-- RAISE_FLOOR (R368). -/
def execRaiseFloor (port : Nat) (s : State) : Host.Outcome State Fault Refusal :=
  .next (s.hostWrite port 0x401000 6)

/-- KEY_PROG (R367). -/
def execKeyProg (port slot : Nat) (s : State) : Host.Outcome State Fault Refusal :=
  .next (s.hostWrite port 0x401000 (7 + 16 * (slot % 4)))

/-- KEY_REVOKE (R367). -/
def execKeyRevoke (port slot : Nat) (s : State) : Host.Outcome State Fault Refusal :=
  .next (s.hostWrite port 0x401000 (8 + 16 * (slot % 4)))

/-- IMG_COMMIT (R374). -/
def execImgCommit (port : Nat) (value : Word) (s : State) : Host.Outcome State Fault Refusal :=
  .next (s.hostWrite port 0x401014 value.toNat)

/-- STAGED_COPY_DONE (R375). -/
def execStagedCopyDone (s : State) : Host.Outcome State Fault Refusal :=
  .next (s.whenUp State.copyDone)

/-- ACTIVATION (R375): a sleep request that waited for it goes on (R421). -/
def execActivation (s : State) : Host.Outcome State Fault Refusal :=
  .next (s.whenUp (fun s => s.activation.sleepBegins))

end Sys2Proof.Machine
end

