-- ==== Sys2Proof/Machine/LateCmds.lean ====
section
/-! DEFINITION. The meanings of the commands: super-periods, recoveries and completions. Each is one row of spec/opcode_table.json; what it does to the state is its
rule's, in the operation it calls. -/

namespace Sys2Proof.Machine

/-- SUPER_PERIOD_START (R202). -/
def execSuperPeriodStart (s : State) : Host.Outcome State Fault Refusal :=
  .next (s.whenUp State.superPeriod)

/-- INTERNAL_LINK_HANDSHAKE (R209). -/
def execInternalLinkHandshake (die : Nat) (s : State) : Host.Outcome State Fault Refusal :=
  .next (s.whenUp (fun s => s.dieHandshake die))

/-- BST_OV_END (R198). -/
def execBstOvEnd (b : Nat) (s : State) : Host.Outcome State Fault Refusal :=
  .next (s.inRangeUp b 2 (fun s => s.bstOvEnd b))

/-- VBAT_UNDERVOLTAGE_RECOVERY (R278). -/
def execVbatUndervoltageRecovery (s : State) : Host.Outcome State Fault Refusal :=
  .next (s.underVoltageEnd)

/-- LS_THERMAL_RESTART (R274). -/
def execLsThermalRestart (n : Nat) (tj : Int) (s : State) : Host.Outcome State Fault Refusal :=
  .next (s.inRangeOf n s.variant.switches (fun s => s.lsRestart n tj))

/-- OUTPUT_OVERTEMP_RESTART (R300). -/
def execOutputOvertempRestart (m : Nat) (s : State) : Host.Outcome State Fault Refusal :=
  .next (s.inRangeOf m s.variant.fouts (fun s => s.overtempEnd m))

/-- VFIELD_UV_RECOVERY (R299). -/
def execVfieldUvRecovery (s : State) : Host.Outcome State Fault Refusal :=
  .next (s.fieldUvEnd)

/-- SHADOW_WRITE_DONE (R281): die 2 is the switch die, 3 the field die. -/
def execShadowWriteDone (die : Nat) (ok : Bool) (s : State) : Host.Outcome State Fault Refusal :=
  .next (if die = 2 then s.lsShadowDone ok else if die = 3 then s.fdShadowDone ok else s)

/-- MASTER_REFERENCE_DUE (R320). -/
def execMasterReferenceDue (port : Nat) (s : State) : Host.Outcome State Fault Refusal :=
  .next (s.inRangeUp port s.variant.buses (fun s => s.refDue port))

/-- STATE_BANK_SAVE_DONE (R415). -/
def execStateBankSaveDone (ok : Bool) (s : State) : Host.Outcome State Fault Refusal :=
  .next (s.whenUp (fun s => s.bankSaved ok))

/-- LOAD_COMPLETE (R373). -/
def execLoadComplete (ok : Bool) (s : State) : Host.Outcome State Fault Refusal :=
  .next (s.whenUp (fun s => s.loadDone ok))

/-- HELD_SAFE_RELOAD_DONE (R397). -/
def execHeldSafeReloadDone (laneA laneB : Bool) (s : State) : Host.Outcome State Fault Refusal :=
  .next (s.whenUp (fun s => s.reloadDone laneA laneB))

end Sys2Proof.Machine
end

