-- ==== Sys2Proof/Machine/LinkCmds.lean ====
section
/-! DEFINITION. The meanings of the commands: outlet links. Each is one row of spec/opcode_table.json; what it does to the state is its
rule's, in the operation it calls. -/

namespace Sys2Proof.Machine

/-- LINK_CYCLE (R218). -/
def execLinkCycle (l : Nat) (s : State) : Host.Outcome State Fault Refusal :=
  .next (s.inRangeUp l s.variant.links (fun s => s.linkCycle l))

/-- ENUM_CHAIN_END (R223). -/
def execEnumChainEnd (l : Nat) (s : State) : Host.Outcome State Fault Refusal :=
  .next (s.inRangeUp l s.variant.links (fun s => s.chainEnd l))

/-- IDENT (R223). -/
def execIdent (l p : Nat) (f : IdentIn) (w : LinkRx) (s : State) : Host.Outcome State Fault Refusal :=
  .next (s.atNode l p (fun s => s.linkRx l 0x81 p (identPayload f) w (fun s => s.ident l p f)))

/-- PONG (R225). -/
def execPong (l p turn : Nat) (rx : Time) (w : LinkRx) (s : State) : Host.Outcome State Fault Refusal :=
  .next (s.atNode l p (fun s => s.linkRx l 0x82 p (leBytes 4 turn) w (fun s => s.pong l p turn rx)))

/-- STATUS (R238). -/
def execStatus (l p : Nat) (f : StatusIn) (w : LinkRx) (s : State) : Host.Outcome State Fault Refusal :=
  .next (s.atNode l p (fun s => s.linkRx l 0x83 p (statusPayload f) w (fun s => s.nodeStatus l p f)))

/-- ACK (R228). -/
def execAck (l p seq pending : Nat) (w : LinkRx) (s : State) : Host.Outcome State Fault Refusal :=
  .next (s.atNode l p (fun s => s.linkRx l 0x90 p (leBytes 2 seq ++ leBytes 1 pending) w (fun s => s.linkAck l p seq pending)))

/-- REJECT (R227): the reason changes nothing that the part does. -/
def execReject (l p seq reason : Nat) (w : LinkRx) (s : State) : Host.Outcome State Fault Refusal :=
  .next (s.atNode l p (fun s => s.linkRx l 0x91 p (leBytes 2 seq ++ leBytes 1 reason) w (fun s => s.linkReject l p seq)))

/-- SEAL (R232): held in a takeover (R241). -/
def execSealFrame (l p : Nat) (f : SealIn) (w : LinkRx) (s : State) : Host.Outcome State Fault Refusal :=
  .next (s.atNode l p (fun s => s.linkRx l 0x92 p (sealPayload f) w (fun s => if s.holdsBack then s.holdFrame (.sealFrame l p f w) else s.nodeSeal l p f)))

/-- DIAG (R234): held in a takeover (R241). -/
def execDiag (l p out fault value : Nat) (w : LinkRx) (s : State) : Host.Outcome State Fault Refusal :=
  .next (s.atNode l p (fun s => s.linkRx l 0x93 p (leBytes 1 out ++ leBytes 2 fault ++ leBytes 2 value) w (fun s => if s.holdsBack then s.holdFrame (.diag l p out fault value w) else s.nodeDiag l p out fault value)))

/-- LINK_RETRY (R228). -/
def execLinkRetry (l p : Nat) (s : State) : Host.Outcome State Fault Refusal :=
  .next (s.atNode l p (fun s => s.linkRetry l p))

/-- NO_REPORT_TIMEOUT (R233). -/
def execNoReportTimeout (entry : Nat) (s : State) : Host.Outcome State Fault Refusal :=
  .next (s.whenUp (fun s => s.noReport entry))

/-- NODE_LOST (R238). -/
def execNodeLost (l p : Nat) (s : State) : Host.Outcome State Fault Refusal :=
  .next (s.atNode l p (fun s => s.nodeLost l p))

/-- ND_ACCEPT (R223). -/
def execNdAccept (port l p : Nat) (s : State) : Host.Outcome State Fault Refusal :=
  .next (s.atPosition l p (fun s => s.hostWrite port (0x53011C + 0x800 * l + 0x40 * p) 1))

/-- ND_REMOVE (R237). -/
def execNdRemove (port l p : Nat) (s : State) : Host.Outcome State Fault Refusal :=
  .next (s.atPosition l p (fun s => s.hostWrite port (0x53011C + 0x800 * l + 0x40 * p) 2))

/-- ND_RESET (R243). -/
def execNdReset (port l p : Nat) (s : State) : Host.Outcome State Fault Refusal :=
  .next (s.atPosition l p (fun s => s.hostWrite port (0x53011C + 0x800 * l + 0x40 * p) 4))

/-- ND_RESYNC (R239). -/
def execNdResync (port l p : Nat) (s : State) : Host.Outcome State Fault Refusal :=
  .next (s.atPosition l p (fun s => s.hostWrite port (0x53011C + 0x800 * l + 0x40 * p) 8))

end Sys2Proof.Machine
end

