-- ==== Sys2Proof/Machine/LoopCmds.lean ====
section
/-! DEFINITION. The meanings of the commands: metering loops. Each is one row of spec/opcode_table.json; what it does to the state is its
rule's, in the operation it calls. -/

namespace Sys2Proof.Machine

/-- SLOT_RUN (R249). -/
def execSlotRun (k : Nat) (trigger : Time) (s : State) : Host.Outcome State Fault Refusal :=
  .next (s.inRangeUp k 64 (fun s => s.slotRun k trigger))

/-- SL_EN_WRITE (R245). -/
def execSlEnWrite (port k : Nat) (value : Word) (s : State) : Host.Outcome State Fault Refusal :=
  .next (s.inRangeUp k 64 (fun s => s.hostWrite port (0x541000 + 0x100 * k) value.toNat))

/-- COEF_COMMIT (R259). -/
def execCoefCommit (port k : Nat) (s : State) : Host.Outcome State Fault Refusal :=
  .next (s.inRangeUp k 64 (fun s => s.hostField port (0x541000 + 0x100 * k) 1 1 1))

/-- CLR_STATE (R267). -/
def execClrState (port k : Nat) (s : State) : Host.Outcome State Fault Refusal :=
  .next (s.inRangeUp k 64 (fun s => s.hostField port (0x541000 + 0x100 * k) 2 1 1))

/-- TB_COMMIT (R257). -/
def execTbCommit (port : Nat) (value : Word) (s : State) : Host.Outcome State Fault Refusal :=
  .next (s.hostWrite port 0x540010 value.toNat)

/-- INPUT_TIMEOUT (R262). -/
def execInputTimeout (k p : Nat) (s : State) : Host.Outcome State Fault Refusal :=
  .next (s.inRangeUp k 64 (fun s => s.inputTimeout k p))

/-- TEST_GEN_RUN (R260). -/
def execTestGenRun (port c : Nat) (value : Word) (s : State) : Host.Outcome State Fault Refusal :=
  .next (s.inRangeUp c 8 (fun s => s.hostWrite port (0x540100 + 0x40 * c) value.toNat))

/-- CAPTURE_ARM (R261). -/
def execCaptureArm (port c : Nat) (value : Word) (s : State) : Host.Outcome State Fault Refusal :=
  .next (s.inRangeUp c 8 (fun s => s.hostWrite port (0x540114 + 0x40 * c) value.toNat))

end Sys2Proof.Machine
end

