-- ==== Sys2Proof/Machine/MapCmds.lean ====
section
/-! DEFINITION. The meanings of the commands: field maps, painter, ledger. Each is one row of spec/opcode_table.json; what it does to the state is its
rule's, in the operation it calls. -/

namespace Sys2Proof.Machine

/-- TILE_LOAD (R125). -/
def execTileLoad (port k : Nat) (s : State) : Host.Outcome State Fault Refusal :=
  .next (s.inRangeUp k 192 (fun s => s.hostField port (0x409808 + 16 * k) 3 3 1))

/-- TILE_FILL_DONE (R125). -/
def execTileFillDone (k : Nat) (s : State) : Host.Outcome State Fault Refusal :=
  .next (s.inRangeUp k s.variant.slots (fun s => s.tileFillDone k))

/-- TILE_COMMIT (R124). -/
def execTileCommit (port k : Nat) (s : State) : Host.Outcome State Fault Refusal :=
  .next (s.inRangeUp k 192 (fun s => s.hostField port (0x409808 + 16 * k) 3 3 2))

/-- TILE_EVICT (R127). -/
def execTileEvict (port k : Nat) (force : Bool) (s : State) : Host.Outcome State Fault Refusal :=
  .next (s.inRangeUp k 192 (fun s => s.hostField port (0x409808 + 16 * k) 3 3 (3 + 4 * b2n force)))

/-- TILE_SWAP_MERGE_DONE (R126). -/
def execTileSwapMergeDone (k : Nat) (s : State) : Host.Outcome State Fault Refusal :=
  .next (s.inRangeUp k s.variant.slots (fun s => s.mergeDone k))

/-- TILE_APERTURE_WRITE (R128). -/
def execTileApertureWrite (port offset : Nat) (bytes : List Byte) (s : State) : Host.Outcome State Fault Refusal :=
  .next (s.hostTile port offset bytes)

/-- TILE_DIRTY_READ (R129). -/
def execTileDirtyRead (port k : Nat) (s : State) : Host.Outcome State Fault Refusal :=
  .next (s.inRangeUp k 192 (fun s => s.hostRead port (0x40980C + 16 * k)))

/-- RATE_TABLE_COMMIT (R123). -/
def execRateTableCommit (port : Nat) (value : Word) (s : State) : Host.Outcome State Fault Refusal :=
  .next (s.hostWrite port 0x409030 value.toNat)

/-- PAINTER_RUN (R133). -/
def execPainterRun (s : State) : Host.Outcome State Fault Refusal :=
  .next (s.painterRow)

/-- PATH_COMMIT (R143). -/
def execPathCommit (port : Nat) (value : Word) (s : State) : Host.Outcome State Fault Refusal :=
  .next (s.hostWrite port 0x40C020 value.toNat)

/-- COMMIT_PASS (R156). -/
def execCommitPass (s : State) : Host.Outcome State Fault Refusal :=
  .next (s.whenUp State.commitPass)

/-- PREFLUX_START (R185). -/
def execPrefluxStart (entry : Nat) (s : State) : Host.Outcome State Fault Refusal :=
  .next (s.whenUp (fun s => s.preflux entry))

/-- EVENT_FIRE (R24). -/
def execEventFire (entry : Nat) (s : State) : Host.Outcome State Fault Refusal :=
  .next (s.whenUp (fun s => s.fire entry))

end Sys2Proof.Machine
end

