-- ==== Sys2Proof/Machine/PoseCmds.lean ====
section
/-! DEFINITION. The meanings of the commands: the pose propagator. Each is one row of spec/opcode_table.json; what it does to the state is its
rule's, in the operation it calls. -/

namespace Sys2Proof.Machine

/-- POSE_EPOCH (R101). -/
def execPoseEpoch (s : State) : Host.Outcome State Fault Refusal :=
  .next (s.epochRow)

/-- POSE_EN_WRITE (R90). -/
def execPoseEnWrite (port : Nat) (value : Word) (s : State) : Host.Outcome State Fault Refusal :=
  .next (s.hostWrite port 0x460000 value.toNat)

/-- FIX_GO (R92). -/
def execFixGo (port : Nat) (value : Word) (s : State) : Host.Outcome State Fault Refusal :=
  .next (s.hostWrite port 0x46022C value.toNat)

/-- FIX_LOST (R109). -/
def execFixLost (s : State) : Host.Outcome State Fault Refusal :=
  .next (s.whenUp State.fixLost)

/-- IMU_MAX_EXPIRY (R90). -/
def execImuMaxExpiry (s : State) : Host.Outcome State Fault Refusal :=
  .next (s.whenUp State.imuMaxExpiry)

/-- IMU_TRANSFER (R97). -/
def execImuTransfer (m : Nat) (ready : Bool) (bytes : List Byte) (trigger : Time) (s : State) : Host.Outcome State Fault Refusal :=
  .next (s.inRangeUp m 2 (fun s => s.imuTransfer m ready bytes trigger))

/-- IMU_DISAGREE (R99). -/
def execImuDisagree (s : State) : Host.Outcome State Fault Refusal :=
  .next (s.whenUp State.imuDisagree)

/-- SPEED_TIMEOUT (R100). -/
def execSpeedTimeout (s : State) : Host.Outcome State Fault Refusal :=
  .next (s.whenUp State.speedTimeout)

/-- SEG_HOST_UNC_WRITE (R106). -/
def execSegHostUncWrite (port k : Nat) (value : Word) (s : State) : Host.Outcome State Fault Refusal :=
  .next (s.inRangeUp k 8 (fun s => s.hostWrite port (0x460118 + 32 * k) value.toNat))

/-- DEFL_HOLD_EXPIRY (R108). -/
def execDeflHoldExpiry (k : Nat) (s : State) : Host.Outcome State Fault Refusal :=
  .next (s.inRangeUp k 8 (fun s => s.deflExpiry k))

end Sys2Proof.Machine
end

