-- ==== Sys2Proof/Machine/RecordCmds.lean ====
section
/-! DEFINITION. The meanings of the commands: records, tags, counters and sampling. Each is one row of spec/opcode_table.json; what it does to the state is its
rule's, in the operation it calls. -/

namespace Sys2Proof.Machine

/-- CANVAS_FULL_REWRITE (R432). -/
def execCanvasFullRewrite (s : State) : Host.Outcome State Fault Refusal :=
  .next (s.whenUp State.canvasRewrite)

/-- CANVAS_WRITE (R430). -/
def execCanvasWrite (s : State) : Host.Outcome State Fault Refusal :=
  .next (s.whenUp State.canvasStep)

/-- CV_ERASE (R433). -/
def execCvErase (port : Nat) (value : Word) (s : State) : Host.Outcome State Fault Refusal :=
  .next (s.hostWrite port 0x5E0014 value.toNat)

/-- ERASE_DONE (R433): a sleep request that waited for it goes on (R421). -/
def execEraseDone (s : State) : Host.Outcome State Fault Refusal :=
  .next (s.whenUp (fun s => s.eraseDone.sleepBegins))

/-- TAG_DATA_ACCESS (R437). -/
def execTagDataAccess (port : Nat) (write : Option Word) (s : State) : Host.Outcome State Fault Refusal :=
  .next (s.hostAccess port 0x5E0044 write)

/-- PMC_RUN (R438). -/
def execPmcRun (port : Nat) (value : Word) (s : State) : Host.Outcome State Fault Refusal :=
  .next (s.hostWrite port 0x5E0100 value.toNat)

/-- PMC_CLEAR (R438). -/
def execPmcClear (port : Nat) (s : State) : Host.Outcome State Fault Refusal :=
  .next (s.hostField port 0x5E0100 1 1 1)

/-- SMP_EN_WRITE (R440). -/
def execSmpEnWrite (port : Nat) (value : Word) (s : State) : Host.Outcome State Fault Refusal :=
  .next (s.hostWrite port 0x5E0600 value.toNat)

/-- BANK_DATA_READ (R420). -/
def execBankDataRead (port : Nat) (s : State) : Host.Outcome State Fault Refusal :=
  .next (s.hostRead port 0x5D0044)

end Sys2Proof.Machine
end

