-- ==== Sys2Proof/Machine/SafetyCmds.lean ====
section
/-! DEFINITION. The meanings of the commands: fault masking. Each is one row of spec/opcode_table.json; what it does to the state is its
rule's, in the operation it calls. -/

namespace Sys2Proof.Machine

/-- LANE_FAULT (R387). -/
def execLaneFault (lane checker unit mem addr : Nat) (s : State) : Host.Outcome State Fault Refusal :=
  .next (s.whenUp (fun s => s.laneNamed lane checker unit mem addr))

/-- LANE_DISAGREEMENT (R386). -/
def execLaneDisagreement (s : State) : Host.Outcome State Fault Refusal :=
  .next (s.whenUp State.laneDisagree)

/-- LANE_SELF_TEST_DONE (R387). -/
def execLaneSelfTestDone (pass : Bool) (s : State) : Host.Outcome State Fault Refusal :=
  .next (s.whenUp (fun s => s.laneTested pass))

/-- LANE_COPY_DONE (R387). -/
def execLaneCopyDone (s : State) : Host.Outcome State Fault Refusal :=
  .next (s.whenUp State.laneCopied)

/-- TAKEOVER_END (R387). -/
def execTakeoverEnd (s : State) : Host.Outcome State Fault Refusal :=
  .next (s.whenUp State.takeoverEnds)

/-- FIRE_COMPARE (R389). -/
def execFireCompare (differs ecc addr : Nat) (s : State) : Host.Outcome State Fault Refusal :=
  .next (s.whenUp (fun s => s.fireCompare differs ecc addr))

/-- FIRE_RELOAD_DONE (R389). -/
def execFireReloadDone (copy : Nat) (ok : Bool) (s : State) : Host.Outcome State Fault Refusal :=
  .next (s.whenUp (fun s => s.fireReloaded copy ok))

/-- STOP_RELEASE (R398). -/
def execStopRelease (port : Nat) (s : State) : Host.Outcome State Fault Refusal :=
  .next (s.hostWrite port 0x5C000C 1)

/-- HS_CLEAR (R397). -/
def execHsClear (port : Nat) (s : State) : Host.Outcome State Fault Refusal :=
  .next (s.hostWrite port 0x5C000C 2)

/-- LANE_RETRY (R388). -/
def execLaneRetry (port : Nat) (s : State) : Host.Outcome State Fault Refusal :=
  .next (s.hostWrite port 0x5C000C 3)

/-- FIRE_RETRY (R389). -/
def execFireRetry (port : Nat) (s : State) : Host.Outcome State Fault Refusal :=
  .next (s.hostWrite port 0x5C000C 4)

/-- MEMORY_SCRUB (R390). -/
def execMemoryScrub (memory : Nat) (errors : List ScrubIn) (s : State) : Host.Outcome State Fault Refusal :=
  .next (s.whenUp (fun s => s.scrub memory errors))

/-- REFERENCE_COMPARE (R393). -/
def execReferenceCompare (g : Nat) (d01 d0a d1a : Int) (present : Nat) (s : State) : Host.Outcome State Fault Refusal :=
  .next (s.whenUp (fun s => s.refCompare g d01 d0a d1a present))

end Sys2Proof.Machine
end

