-- ==== Sys2Proof/Machine/SwitchCmds.lean ====
section
/-! DEFINITION. The meanings of the commands: load switches. Each is one row of spec/opcode_table.json; what it does to the state is its
rule's, in the operation it calls. -/

namespace Sys2Proof.Machine

/-- LS_THERMAL_SHUTDOWN (R274). -/
def execLsThermalShutdown (n : Nat) (tj : Int) (s : State) : Host.Outcome State Fault Refusal :=
  .next (s.inRangeOf n s.variant.switches (fun s => s.lsShutdown n tj))

/-- LS_UNLATCH (R274). -/
def execLsUnlatch (port n : Nat) (tj : Int) (s : State) : Host.Outcome State Fault Refusal :=
  .next (s.inRangeUp n 32 (fun s => (s.setSfld (Reg.LS_TEMP_TJ n) tj).hostWrite port (0x58011C + 0x40 * n) 1))

/-- LS_UNLOCK (R277). -/
def execLsUnlock (port n : Nat) (s : State) : Host.Outcome State Fault Refusal :=
  .next (s.inRangeUp n 32 (fun s => s.hostWrite port (0x58011C + 0x40 * n) 2))

/-- INRUSH_EPISODE (R275). -/
def execInrushEpisode (n : Nat) (s : State) : Host.Outcome State Fault Refusal :=
  .next (s.inRangeOf n s.variant.switches (fun s => s.inrushEpisode n))

/-- INRUSH_RETRY (R275). -/
def execInrushRetry (n : Nat) (s : State) : Host.Outcome State Fault Refusal :=
  .next (s.inRangeOf n s.variant.switches (fun s => s.inrushRetry n))

/-- LS_OPEN_LOAD (R276). -/
def execLsOpenLoad (n : Nat) (ma : Int) (s : State) : Host.Outcome State Fault Refusal :=
  .next (s.inRangeOf n s.variant.switches (fun s => s.lsOpenLoad n ma))

/-- CLAMP_END (R277). -/
def execClampEnd (n : Nat) (samples : List Sample) (s : State) : Host.Outcome State Fault Refusal :=
  .next (s.inRangeOf n s.variant.switches (fun s => s.clampEnd n samples))

/-- CLAMP_LEAK (R277). -/
def execClampLeak (s : State) : Host.Outcome State Fault Refusal :=
  .next (s.clampLeak)

/-- VBAT_UNDERVOLTAGE (R278). -/
def execVbatUndervoltage (s : State) : Host.Outcome State Fault Refusal :=
  .next (s.underVoltage)

/-- VBAT_OVERVOLTAGE (R278). -/
def execVbatOvervoltage (s : State) : Host.Outcome State Fault Refusal :=
  .next (s.overVoltage)

/-- OVERVOLTAGE_RECOVERY (R278). -/
def execOvervoltageRecovery (s : State) : Host.Outcome State Fault Refusal :=
  .next (s.overVoltageEnd)

/-- REVERSE_BATTERY (R278). -/
def execReverseBattery (s : State) : Host.Outcome State Fault Refusal :=
  .next (s.reverseBattery)

/-- LOSS_OF_GROUND (R278). -/
def execLossOfGround (s : State) : Host.Outcome State Fault Refusal :=
  .next (s.lossOfGround)

/-- SWITCH_CHECK (R279). -/
def execSwitchCheck (entry : Nat) (mv ma vbat : Int) (s : State) : Host.Outcome State Fault Refusal :=
  .next (s.whenUp (fun s => s.switchCheck entry mv ma vbat))

/-- HEARTBEAT (R282). -/
def execHeartbeat (s : State) : Host.Outcome State Fault Refusal :=
  .next (s.whenUp State.heartbeat)

/-- WD_EXPIRY (R282). -/
def execWdExpiry (s : State) : Host.Outcome State Fault Refusal :=
  .next (s.wdExpiry)

/-- LIMP_N_CHANGE (R283). -/
def execLimpNChange (low : Bool) (s : State) : Host.Outcome State Fault Refusal :=
  .next (s.limpPin low)

/-- LHIN_CHANGE (R283). -/
def execLhinChange (pin : Nat) (level : Bool) (s : State) : Host.Outcome State Fault Refusal :=
  .next (s.lhin pin level)

end Sys2Proof.Machine
end

