-- ==== Sys2Proof/Machine/TimeCmds.lean ====
section
/-! DEFINITION. The meanings of the commands: the timebase and planning frames. Each is one row of spec/opcode_table.json; what it does to the state is its
rule's, in the operation it calls. -/

namespace Sys2Proof.Machine

/-- REFIN_LOST (R37). -/
def execRefinLost (s : State) : Host.Outcome State Fault Refusal :=
  .next (s.whenUp State.refinLost)

/-- REFIN_ACTIVE (R39). -/
def execRefinActive (edges freq : Nat) (s : State) : Host.Outcome State Fault Refusal :=
  .next (s.whenUp (fun s => s.refinActive edges freq))

/-- PLL_LOCK (R39). -/
def execPllLock (s : State) : Host.Outcome State Fault Refusal :=
  .next (s.whenUp State.pllLock)

/-- REFIN_START_TIMEOUT (R39). -/
def execRefinStartTimeout (s : State) : Host.Outcome State Fault Refusal :=
  .next (s.whenUp State.refinStartTimeout)

/-- HOLDOVER_TIMEOUT (R39). -/
def execHoldoverTimeout (s : State) : Host.Outcome State Fault Refusal :=
  .next (s.whenUp (fun s => s.holdoverTimeout.degradeFrom s))

/-- DISCIPLINE_UPDATE (R43). -/
def execDisciplineUpdate (yGnss ySync : Int) (gnssTime : Time) (s : State) : Host.Outcome State Fault Refusal :=
  .next (s.whenUp (fun s => (s.discipline yGnss ySync gnssTime).degradeFrom s))

/-- DRIFT_COMPLIANCE (R44). -/
def execDriftCompliance (s : State) : Host.Outcome State Fault Refusal :=
  .next (s.whenUp State.driftCompliance)

/-- DRIFT_ACCEPT (R44). -/
def execDriftAccept (port : Nat) (s : State) : Host.Outcome State Fault Refusal :=
  .next (s.hostField port 0x410004 6 1 1)

/-- AUTO_RETURN_SET (R39). -/
def execAutoReturnSet (port : Nat) (s : State) : Host.Outcome State Fault Refusal :=
  .next (s.hostField port 0x410004 4 1 1)

/-- GNSS_OFS_WRITE (R45). -/
def execGnssOfsWrite (port : Nat) (value : Word) (s : State) : Host.Outcome State Fault Refusal :=
  .next (s.hostWrite port 0x410014 value.toNat)

/-- CAL_SET (R46). -/
def execCalSet (port : Nat) (value : Word) (s : State) : Host.Outcome State Fault Refusal :=
  .next (s.hostWrite port 0x410028 value.toNat)

/-- FRAME_START (R48). -/
def execFrameStart (s : State) : Host.Outcome State Fault Refusal :=
  .next (s.frameStart)

/-- FRM_CFG_WRITE (R51). -/
def execFrmCfgWrite (port : Nat) (value : Word) (s : State) : Host.Outcome State Fault Refusal :=
  .next (s.hostWrite port 0x410030 value.toNat)

/-- SYNCIN_PULSE (R54). -/
def execSyncinPulse (capture : Time) (s : State) : Host.Outcome State Fault Refusal :=
  .next (s.syncIn capture)

/-- SYNC_LOST (R54). -/
def execSyncLost (s : State) : Host.Outcome State Fault Refusal :=
  .next (s.whenUp State.syncLoss)

/-- REFOUT_REENABLE (R55). -/
def execRefoutReenable (s : State) : Host.Outcome State Fault Refusal :=
  .next (s.whenUp State.refoutReenable)

end Sys2Proof.Machine
end

