-- ==== Sys2Proof/Machine/Dispatch.lean ====
section
/-! DEFINITION. The meaning of every command, one arm a constructor. -/

namespace Sys2Proof.Machine

def exec (i : Instr) (s : State) : Host.Outcome State Fault Refusal :=
  match i with
  | .registerWrite port addr value => Sys2Proof.Machine.execRegisterWrite port addr value s
  | .clearingRead port addr => Sys2Proof.Machine.execClearingRead port addr s
  | .latchingRead port addr => Sys2Proof.Machine.execLatchingRead port addr s
  | .vbatPowerOn => Sys2Proof.Machine.execVbatPowerOn s
  | .resetRelease laneA laneB => Sys2Proof.Machine.execResetRelease laneA laneB s
  | .resetNLow => Sys2Proof.Machine.execResetNLow s
  | .ready => Sys2Proof.Machine.execReady s
  | .pgStartTimeout pg => Sys2Proof.Machine.execPgStartTimeout pg s
  | .pgLost pg => Sys2Proof.Machine.execPgLost pg s
  | .brownOut => Sys2Proof.Machine.execBrownOut s
  | .brownOutSaveDone held => Sys2Proof.Machine.execBrownOutSaveDone held s
  | .brownOutRecovered => Sys2Proof.Machine.execBrownOutRecovered s
  | .sleep port => Sys2Proof.Machine.execSleep port s
  | .stateBankSave port => Sys2Proof.Machine.execStateBankSave port s
  | .wake source port => Sys2Proof.Machine.execWake source port s
  | .ldRewrite => Sys2Proof.Machine.execLdRewrite s
  | .rtcSet => Sys2Proof.Machine.execRtcSet s
  | .refinLost => Sys2Proof.Machine.execRefinLost s
  | .refinActive edges freq => Sys2Proof.Machine.execRefinActive edges freq s
  | .pllLock => Sys2Proof.Machine.execPllLock s
  | .refinStartTimeout => Sys2Proof.Machine.execRefinStartTimeout s
  | .holdoverTimeout => Sys2Proof.Machine.execHoldoverTimeout s
  | .disciplineUpdate yGnss ySync gnssTime => Sys2Proof.Machine.execDisciplineUpdate yGnss ySync gnssTime s
  | .driftCompliance => Sys2Proof.Machine.execDriftCompliance s
  | .driftAccept port => Sys2Proof.Machine.execDriftAccept port s
  | .autoReturnSet port => Sys2Proof.Machine.execAutoReturnSet port s
  | .gnssOfsWrite port value => Sys2Proof.Machine.execGnssOfsWrite port value s
  | .calSet port value => Sys2Proof.Machine.execCalSet port value s
  | .frameStart => Sys2Proof.Machine.execFrameStart s
  | .frmCfgWrite port value => Sys2Proof.Machine.execFrmCfgWrite port value s
  | .syncinPulse capture => Sys2Proof.Machine.execSyncinPulse capture s
  | .syncLost => Sys2Proof.Machine.execSyncLost s
  | .refoutReenable => Sys2Proof.Machine.execRefoutReenable s
  | .asTrain port n value => Sys2Proof.Machine.execAsTrain port n value s
  | .asPortLost n => Sys2Proof.Machine.execAsPortLost n s
  | .chStartSearch port n => Sys2Proof.Machine.execChStartSearch port n s
  | .chStartAided port n => Sys2Proof.Machine.execChStartAided port n s
  | .chStop port n => Sys2Proof.Machine.execChStop port n s
  | .integrationPeriodEnd n sums sync neg => Sys2Proof.Machine.execIntegrationPeriodEnd n sums sync neg s
  | .pullinTimeout n => Sys2Proof.Machine.execPullinTimeout n s
  | .cn0LowTimeout n => Sys2Proof.Machine.execCn0LowTimeout n s
  | .lostTimeout n => Sys2Proof.Machine.execLostTimeout n s
  | .measurementEpoch m => Sys2Proof.Machine.execMeasurementEpoch m s
  | .bankFault b => Sys2Proof.Machine.execBankFault b s
  | .codeDataAccess port write => Sys2Proof.Machine.execCodeDataAccess port write s
  | .aidDataAccess port write => Sys2Proof.Machine.execAidDataAccess port write s
  | .gnssRetainedSave => Sys2Proof.Machine.execGnssRetainedSave s
  | .poseEpoch => Sys2Proof.Machine.execPoseEpoch s
  | .poseEnWrite port value => Sys2Proof.Machine.execPoseEnWrite port value s
  | .fixGo port value => Sys2Proof.Machine.execFixGo port value s
  | .fixLost => Sys2Proof.Machine.execFixLost s
  | .imuMaxExpiry => Sys2Proof.Machine.execImuMaxExpiry s
  | .imuTransfer m ready bytes trigger => Sys2Proof.Machine.execImuTransfer m ready bytes trigger s
  | .imuDisagree => Sys2Proof.Machine.execImuDisagree s
  | .speedTimeout => Sys2Proof.Machine.execSpeedTimeout s
  | .segHostUncWrite port k value => Sys2Proof.Machine.execSegHostUncWrite port k value s
  | .deflHoldExpiry k => Sys2Proof.Machine.execDeflHoldExpiry k s
  | .tileLoad port k => Sys2Proof.Machine.execTileLoad port k s
  | .tileFillDone k => Sys2Proof.Machine.execTileFillDone k s
  | .tileCommit port k => Sys2Proof.Machine.execTileCommit port k s
  | .tileEvict port k force => Sys2Proof.Machine.execTileEvict port k force s
  | .tileSwapMergeDone k => Sys2Proof.Machine.execTileSwapMergeDone k s
  | .tileApertureWrite port offset bytes => Sys2Proof.Machine.execTileApertureWrite port offset bytes s
  | .tileDirtyRead port k => Sys2Proof.Machine.execTileDirtyRead port k s
  | .rateTableCommit port value => Sys2Proof.Machine.execRateTableCommit port value s
  | .painterRun => Sys2Proof.Machine.execPainterRun s
  | .pathCommit port value => Sys2Proof.Machine.execPathCommit port value s
  | .commitPass => Sys2Proof.Machine.execCommitPass s
  | .prefluxStart entry => Sys2Proof.Machine.execPrefluxStart entry s
  | .eventFire entry => Sys2Proof.Machine.execEventFire entry s
  | .valveSeal n samples => Sys2Proof.Machine.execValveSeal n samples s
  | .phaseEnd n peak now => Sys2Proof.Machine.execPhaseEnd n peak now s
  | .overCurrent n => Sys2Proof.Machine.execOverCurrent n s
  | .modOffEdge n => Sys2Proof.Machine.execModOffEdge n s
  | .modOnEdge n => Sys2Proof.Machine.execModOnEdge n s
  | .senseContinuityTest n mv => Sys2Proof.Machine.execSenseContinuityTest n mv s
  | .dutyWindowUpdate n samples mv => Sys2Proof.Machine.execDutyWindowUpdate n samples mv s
  | .chUnlatch port n => Sys2Proof.Machine.execChUnlatch port n s
  | .gateCompMeasure die lambda => Sys2Proof.Machine.execGateCompMeasure die lambda s
  | .bstSetWrite port b value meas => Sys2Proof.Machine.execBstSetWrite port b value meas s
  | .bstEnWrite port b value meas => Sys2Proof.Machine.execBstEnWrite port b value meas s
  | .boostRefStep b meas => Sys2Proof.Machine.execBoostRefStep b meas s
  | .bstOv b => Sys2Proof.Machine.execBstOv b s
  | .bstLow b => Sys2Proof.Machine.execBstLow b s
  | .loadall port k value => Sys2Proof.Machine.execLoadall port k value s
  | .loadallAux port value => Sys2Proof.Machine.execLoadallAux port value s
  | .tripAssert t held => Sys2Proof.Machine.execTripAssert t held s
  | .tripDeassert t => Sys2Proof.Machine.execTripDeassert t s
  | .tripClear port t => Sys2Proof.Machine.execTripClear port t s
  | .stopNLow => Sys2Proof.Machine.execStopNLow s
  | .stopNHigh => Sys2Proof.Machine.execStopNHigh s
  | .debugHalt => Sys2Proof.Machine.execDebugHalt s
  | .debugResume => Sys2Proof.Machine.execDebugResume s
  | .extest => Sys2Proof.Machine.execExtest s
  | .diePathLost d path => Sys2Proof.Machine.execDiePathLost d path s
  | .dieLinkLost d => Sys2Proof.Machine.execDieLinkLost d s
  | .linkCycle l => Sys2Proof.Machine.execLinkCycle l s
  | .enumChainEnd l => Sys2Proof.Machine.execEnumChainEnd l s
  | .ident l p f w => Sys2Proof.Machine.execIdent l p f w s
  | .pong l p turn rx w => Sys2Proof.Machine.execPong l p turn rx w s
  | .status l p f w => Sys2Proof.Machine.execStatus l p f w s
  | .ack l p seq pending w => Sys2Proof.Machine.execAck l p seq pending w s
  | .reject l p seq reason w => Sys2Proof.Machine.execReject l p seq reason w s
  | .sealFrame l p f w => Sys2Proof.Machine.execSealFrame l p f w s
  | .diag l p out fault value w => Sys2Proof.Machine.execDiag l p out fault value w s
  | .linkRetry l p => Sys2Proof.Machine.execLinkRetry l p s
  | .noReportTimeout entry => Sys2Proof.Machine.execNoReportTimeout entry s
  | .nodeLost l p => Sys2Proof.Machine.execNodeLost l p s
  | .ndAccept port l p => Sys2Proof.Machine.execNdAccept port l p s
  | .ndRemove port l p => Sys2Proof.Machine.execNdRemove port l p s
  | .ndReset port l p => Sys2Proof.Machine.execNdReset port l p s
  | .ndResync port l p => Sys2Proof.Machine.execNdResync port l p s
  | .slotRun k trigger => Sys2Proof.Machine.execSlotRun k trigger s
  | .slEnWrite port k value => Sys2Proof.Machine.execSlEnWrite port k value s
  | .coefCommit port k => Sys2Proof.Machine.execCoefCommit port k s
  | .clrState port k => Sys2Proof.Machine.execClrState port k s
  | .tbCommit port value => Sys2Proof.Machine.execTbCommit port value s
  | .inputTimeout k p => Sys2Proof.Machine.execInputTimeout k p s
  | .testGenRun port c value => Sys2Proof.Machine.execTestGenRun port c value s
  | .captureArm port c value => Sys2Proof.Machine.execCaptureArm port c value s
  | .lsThermalShutdown n tj => Sys2Proof.Machine.execLsThermalShutdown n tj s
  | .lsUnlatch port n tj => Sys2Proof.Machine.execLsUnlatch port n tj s
  | .lsUnlock port n => Sys2Proof.Machine.execLsUnlock port n s
  | .inrushEpisode n => Sys2Proof.Machine.execInrushEpisode n s
  | .inrushRetry n => Sys2Proof.Machine.execInrushRetry n s
  | .lsOpenLoad n ma => Sys2Proof.Machine.execLsOpenLoad n ma s
  | .clampEnd n samples => Sys2Proof.Machine.execClampEnd n samples s
  | .clampLeak => Sys2Proof.Machine.execClampLeak s
  | .vbatUndervoltage => Sys2Proof.Machine.execVbatUndervoltage s
  | .vbatOvervoltage => Sys2Proof.Machine.execVbatOvervoltage s
  | .overvoltageRecovery => Sys2Proof.Machine.execOvervoltageRecovery s
  | .reverseBattery => Sys2Proof.Machine.execReverseBattery s
  | .lossOfGround => Sys2Proof.Machine.execLossOfGround s
  | .switchCheck entry mv ma vbat => Sys2Proof.Machine.execSwitchCheck entry mv ma vbat s
  | .heartbeat => Sys2Proof.Machine.execHeartbeat s
  | .wdExpiry => Sys2Proof.Machine.execWdExpiry s
  | .limpNChange low => Sys2Proof.Machine.execLimpNChange low s
  | .lhinChange pin level => Sys2Proof.Machine.execLhinChange pin level s
  | .barrierOutboundFrame ok => Sys2Proof.Machine.execBarrierOutboundFrame ok s
  | .barrierInboundFrame f => Sys2Proof.Machine.execBarrierInboundFrame f s
  | .barrierTimeout => Sys2Proof.Machine.execBarrierTimeout s
  | .fieldSilence => Sys2Proof.Machine.execFieldSilence s
  | .inputSample g samples => Sys2Proof.Machine.execInputSample g samples s
  | .outputOverload m => Sys2Proof.Machine.execOutputOverload m s
  | .outputOverloadRestart m => Sys2Proof.Machine.execOutputOverloadRestart m s
  | .outputOvertemp m => Sys2Proof.Machine.execOutputOvertemp m s
  | .outputOpenWire m ua mv => Sys2Proof.Machine.execOutputOpenWire m ua mv s
  | .foUnlatch port m => Sys2Proof.Machine.execFoUnlatch port m s
  | .vfieldUndervoltage => Sys2Proof.Machine.execVfieldUndervoltage s
  | .fieldOutputCheck entry mv ma vfield => Sys2Proof.Machine.execFieldOutputCheck entry mv ma vfield s
  | .inputWakeEdge n => Sys2Proof.Machine.execInputWakeEdge n s
  | .busFrameReceived port f => Sys2Proof.Machine.execBusFrameReceived port f s
  | .scheduleWindow port w => Sys2Proof.Machine.execScheduleWindow port w s
  | .busTxDone port result => Sys2Proof.Machine.execBusTxDone port result s
  | .busError port e => Sys2Proof.Machine.execBusError port e s
  | .busIntegrationDone port => Sys2Proof.Machine.execBusIntegrationDone port s
  | .busRecoveryDone port => Sys2Proof.Machine.execBusRecoveryDone port s
  | .refTimeout port => Sys2Proof.Machine.execRefTimeout port s
  | .bpModeWrite port n value => Sys2Proof.Machine.execBpModeWrite port n value s
  | .bpRecover port n => Sys2Proof.Machine.execBpRecover port n s
  | .bvCapture port v value => Sys2Proof.Machine.execBvCapture port v value s
  | .bvCommit port v value => Sys2Proof.Machine.execBvCommit port v value s
  | .bvEnqueue port v value => Sys2Proof.Machine.execBvEnqueue port v value s
  | .busWakeFrame port f => Sys2Proof.Machine.execBusWakeFrame port f s
  | .sqTailWrite ctx value => Sys2Proof.Machine.execSqTailWrite ctx value s
  | .nop ctx tag flags => Sys2Proof.Machine.execNop ctx tag flags s
  | .regWrite ctx tag flags offset value mask => Sys2Proof.Machine.execRegWrite ctx tag flags offset value mask s
  | .regRead ctx tag flags offset => Sys2Proof.Machine.execRegRead ctx tag flags offset s
  | .edge ctx tag flags outlet kind due rate => Sys2Proof.Machine.execEdge ctx tag flags outlet kind due rate s
  | .claim ctx tag flags first count mode => Sys2Proof.Machine.execClaim ctx tag flags first count mode s
  | .release ctx tag flags first count => Sys2Proof.Machine.execRelease ctx tag flags first count s
  | .inhibit ctx tag flags first count => Sys2Proof.Machine.execInhibit ctx tag flags first count s
  | .inhibitLift ctx tag flags first count => Sys2Proof.Machine.execInhibitLift ctx tag flags first count s
  | .overrideWithdraw ctx tag flags first count since => Sys2Proof.Machine.execOverrideWithdraw ctx tag flags first count since s
  | .overrideTake ctx tag flags first count mode target => Sys2Proof.Machine.execOverrideTake ctx tag flags first count mode target s
  | .overrideLift ctx tag flags first count => Sys2Proof.Machine.execOverrideLift ctx tag flags first count s
  | .overrideFree ctx tag flags first count => Sys2Proof.Machine.execOverrideFree ctx tag flags first count s
  | .fix ctx tag flags f => Sys2Proof.Machine.execFix ctx tag flags f s
  | .busSend ctx tag flags port dlc oneShot ide fdf brs id data => Sys2Proof.Machine.execBusSend ctx tag flags port dlc oneShot ide fdf brs id data s
  | .bind ctx tag flags target => Sys2Proof.Machine.execBind ctx tag flags target s
  | .unbind ctx tag flags target => Sys2Proof.Machine.execUnbind ctx tag flags target s
  | .haltDoorbell port window value => Sys2Proof.Machine.execHaltDoorbell port window value s
  | .hostLinkDown port down => Sys2Proof.Machine.execHostLinkDown port down s
  | .cwRdataAccess ctx write => Sys2Proof.Machine.execCwRdataAccess ctx write s
  | .spiWrite port addr cut words => Sys2Proof.Machine.execSpiWrite port addr cut words s
  | .spiRead port addr n => Sys2Proof.Machine.execSpiRead port addr n s
  | .spiStatusRead port => Sys2Proof.Machine.execSpiStatusRead port s
  | .stagingWrite port offset bytes => Sys2Proof.Machine.execStagingWrite port offset bytes s
  | .verify port => Sys2Proof.Machine.execVerify port s
  | .verifyDone => Sys2Proof.Machine.execVerifyDone s
  | .discard port => Sys2Proof.Machine.execDiscard port s
  | .save port slot trial => Sys2Proof.Machine.execSave port slot trial s
  | .saveComplete ok => Sys2Proof.Machine.execSaveComplete ok s
  | .load port slot => Sys2Proof.Machine.execLoad port slot s
  | .confirm port => Sys2Proof.Machine.execConfirm port s
  | .raiseFloor port => Sys2Proof.Machine.execRaiseFloor port s
  | .keyProg port slot => Sys2Proof.Machine.execKeyProg port slot s
  | .keyRevoke port slot => Sys2Proof.Machine.execKeyRevoke port slot s
  | .imgCommit port value => Sys2Proof.Machine.execImgCommit port value s
  | .stagedCopyDone => Sys2Proof.Machine.execStagedCopyDone s
  | .activation => Sys2Proof.Machine.execActivation s
  | .laneFault lane checker unit mem addr => Sys2Proof.Machine.execLaneFault lane checker unit mem addr s
  | .laneDisagreement => Sys2Proof.Machine.execLaneDisagreement s
  | .laneSelfTestDone pass => Sys2Proof.Machine.execLaneSelfTestDone pass s
  | .laneCopyDone => Sys2Proof.Machine.execLaneCopyDone s
  | .takeoverEnd => Sys2Proof.Machine.execTakeoverEnd s
  | .fireCompare differs ecc addr => Sys2Proof.Machine.execFireCompare differs ecc addr s
  | .fireReloadDone copy ok => Sys2Proof.Machine.execFireReloadDone copy ok s
  | .stopRelease port => Sys2Proof.Machine.execStopRelease port s
  | .hsClear port => Sys2Proof.Machine.execHsClear port s
  | .laneRetry port => Sys2Proof.Machine.execLaneRetry port s
  | .fireRetry port => Sys2Proof.Machine.execFireRetry port s
  | .memoryScrub memory errors => Sys2Proof.Machine.execMemoryScrub memory errors s
  | .referenceCompare g d01 d0a d1a present => Sys2Proof.Machine.execReferenceCompare g d01 d0a d1a present s
  | .canvasFullRewrite => Sys2Proof.Machine.execCanvasFullRewrite s
  | .canvasWrite => Sys2Proof.Machine.execCanvasWrite s
  | .cvErase port value => Sys2Proof.Machine.execCvErase port value s
  | .eraseDone => Sys2Proof.Machine.execEraseDone s
  | .tagDataAccess port write => Sys2Proof.Machine.execTagDataAccess port write s
  | .pmcRun port value => Sys2Proof.Machine.execPmcRun port value s
  | .pmcClear port => Sys2Proof.Machine.execPmcClear port s
  | .smpEnWrite port value => Sys2Proof.Machine.execSmpEnWrite port value s
  | .bankDataRead port => Sys2Proof.Machine.execBankDataRead port s
  | .superPeriodStart => Sys2Proof.Machine.execSuperPeriodStart s
  | .internalLinkHandshake die => Sys2Proof.Machine.execInternalLinkHandshake die s
  | .bstOvEnd b => Sys2Proof.Machine.execBstOvEnd b s
  | .vbatUndervoltageRecovery => Sys2Proof.Machine.execVbatUndervoltageRecovery s
  | .lsThermalRestart n tj => Sys2Proof.Machine.execLsThermalRestart n tj s
  | .outputOvertempRestart m => Sys2Proof.Machine.execOutputOvertempRestart m s
  | .vfieldUvRecovery => Sys2Proof.Machine.execVfieldUvRecovery s
  | .shadowWriteDone die ok => Sys2Proof.Machine.execShadowWriteDone die ok s
  | .masterReferenceDue port => Sys2Proof.Machine.execMasterReferenceDue port s
  | .stateBankSaveDone ok => Sys2Proof.Machine.execStateBankSaveDone ok s
  | .loadComplete ok => Sys2Proof.Machine.execLoadComplete ok s
  | .heldSafeReloadDone laneA laneB => Sys2Proof.Machine.execHeldSafeReloadDone laneA laneB s

end Sys2Proof.Machine
end

