-- ==== Sys2Proof/Safety.lean ====
section
/-! DEFINITION. What counts as a safe run, in the terms that claims use: every table of the part keeps its canonical form, so that equal
contents are equal data, and the strap that selects the variant never changes; when a host port is served; and what it
means that a command changes nothing but what an effect names. -/

namespace Sys2Proof.Machine

/-- The memories of the part that are sparse tables: what each key reads as that is not listed stands beside its use in `Tables.wf`. -/
structure Tables where
  regs : List (Nat × Word)
  latch : List (Nat × Option Word)
  codeRam : List (Nat × Word)
  retained : List (Nat × Word)
  cells : List (Nat × Nat)
  hostMem : List (Nat × Byte)
  ring : List (Nat × Byte)
  tags : List (Nat × Word)
  staging : List (Nat × Byte)
  capture : List (Nat × Word)
  tableStaged : List (Nat × Option Word)
  coefStaged : List (Nat × Option Word)

/-- Registers, latched upper words (R11), code RAM (R66), the retained GNSS area (R82), tile cells (R125), host memory written by the part,
ring memory of the SPI ports (R339), tag words (R437), the staging buffer (R371), capture buffers (R261), staged tables and coefficients
(R257, R259). -/
def State.tables (s : State) : Tables :=
  { regs := s.regs, latch := s.latch, codeRam := s.gn.codeRam, retained := s.gn.retained, cells := s.mp.cells, hostMem := s.hp.hostMem,
    ring := s.hp.ring, tags := s.rc.tags, staging := s.im.staging, capture := s.lp.capture, tableStaged := s.lp.tableStaged,
    coefStaged := s.lp.coefStaged }

/-- Every table is in its canonical form: keys rise, and no entry holds what an unlisted key reads as. -/
def Tables.wf (v : Variant) (m : Tables) : Bool :=
  swf (resetWord v) m.regs && (swf (fun _ => none) m.latch && (swf (fun _ => 0) m.codeRam && (swf (fun _ => 0) m.retained &&
    (swf (fun _ => fillCell) m.cells && (swf (fun _ => 0) m.hostMem && (swf (fun _ => 0) m.ring && (swf (fun _ => 0) m.tags &&
      (swf (fun _ => 0) m.staging && (swf (fun _ => 0) m.capture && (swf (fun _ => none) m.tableStaged &&
        swf (fun _ => none) m.coefStaged))))))))))

/-- The canonical form of every table of the part. -/
def State.memWf (s : State) : Bool := s.tables.wf s.variant

/-- Host port `p` is served for a supervisor's direct accesses: the core die is up, a lane runs (R396), and the port's direct context is
a supervisor (R340, R348). -/
def State.Serves (s : State) (p : Nat) : Prop :=
  s.answersOn p = true ∧ s.fld Reg.RES_STATE_STATE ≠ 3 ∧ s.supervisor (s.directCtx p) = true

/-- Slot `i` of the completion ring of context `c`, as its host reads it (R339, R341). -/
def State.completionSlot (s : State) (c i : Nat) : List Byte :=
  let p := s.fld (Reg.CTX_CFG_PORT c)
  if p < 2 then sgetMany (fun _ => 0) s.hp.hostMem (p * 2 ^ 64 + s.cplAddr c i) 16
  else sgetMany (fun _ => 0) s.hp.ring ((p - 2) * 0x80000 + s.cplAddr c i % 0x80000) 16

/-- R337: the DMA of context `c`'s host port runs, so its completions reach the host's memory. -/
def State.dmaRuns (s : State) (c : Nat) : Bool := !s.hp.dmaOff.contains (s.fld (Reg.CTX_CFG_PORT c))

/-- From `s` to `t` the arbiter takes one command of context `c` and completes it (R341–R343): the head and SERVED move on, and the next
completion slot holds TAG, STATUS, the phase and the results. -/
def completes (s t : State) (c tag status r0 r1 : Nat) : Bool :=
  let i := s.fld (Reg.CW_CQ_TAIL_INDEX c)
  decide (t.fld (Reg.CW_SQ_HEAD_INDEX c) = (s.fld (Reg.CW_SQ_HEAD_INDEX c) + 1) % 256) &&
    (decide (t.fld (Reg.CTX_SERVED_SERVED c) = (s.fld (Reg.CTX_SERVED_SERVED c) + 1) % 2 ^ 32) &&
      (decide (t.fld (Reg.CW_CQ_TAIL_INDEX c) = (i + 1) % 256) &&
        (decide (t.fld (Reg.CW_CQ_TAIL_PHASE c) = if i = 255 then 1 - s.fld (Reg.CW_CQ_TAIL_PHASE c) else s.fld (Reg.CW_CQ_TAIL_PHASE c)) &&
          decide (t.completionSlot c i = leBytes 2 tag ++ leBytes 1 status ++ leBytes 1 (s.fld (Reg.CW_CQ_TAIL_PHASE c)) ++ leBytes 4 r0 ++ leBytes 8 r1))))

/-- From `s` to `t` the arbiter takes a command of context `c` that completes later (R342): its completion slot is reserved. -/
def taken (s t : State) (c : Nat) : Bool :=
  decide (t.fld (Reg.CW_SQ_HEAD_INDEX c) = (s.fld (Reg.CW_SQ_HEAD_INDEX c) + 1) % 256) &&
    (decide (t.fld (Reg.CTX_SERVED_SERVED c) = (s.fld (Reg.CTX_SERVED_SERVED c) + 1) % 2 ^ 32) &&
      (decide (t.fld (Reg.CW_CQ_TAIL_INDEX c) = s.fld (Reg.CW_CQ_TAIL_INDEX c)) &&
        decide (sget (fun _ => 0) t.hp.reserved c = sget (fun _ => 0) s.hp.reserved c + 1)))

/-! What a command may change. -/

/-- The parts of the state beside its registers. -/
inductive Part where
  | variant | ft | pending | free | answer | latch | tb | gn | po | rc | hp | mp | lg | vd | lk | lp | ls | fd | bp | im | rs | pw
  deriving DecidableEq, Repr

/-- One part is the same in two states. -/
def samePart (s t : State) : Part → Prop
  | .variant => t.variant = s.variant
  | .ft => t.ft = s.ft
  | .pending => t.pending = s.pending
  | .free => t.free = s.free
  | .answer => t.answer = s.answer
  | .latch => t.latch = s.latch
  | .tb => t.tb = s.tb
  | .gn => t.gn = s.gn
  | .po => t.po = s.po
  | .rc => t.rc = s.rc
  | .hp => t.hp = s.hp
  | .mp => t.mp = s.mp
  | .lg => t.lg = s.lg
  | .vd => t.vd = s.vd
  | .lk => t.lk = s.lk
  | .lp => t.lp = s.lp
  | .ls => t.ls = s.ls
  | .fd => t.fd = s.fd
  | .bp => t.bp = s.bp
  | .im => t.im = s.im
  | .rs => t.rs = s.rs
  | .pw => t.pw = s.pw

/-- Registers (each named by one of its fields; an array by a field of its element 0) and parts. -/
structure Effect where
  regs : List Fld
  parts : List Part

/-- The register at `a` is one that the effect names, or an element of an array that it names. -/
def Effect.covers (e : Effect) (a : Nat) : Bool :=
  e.regs.any (fun f => match rowOf f.addr with | some r => r.holds a | none => false)

/-- From `s` to `t` no register and no part changes but those that the effect names. -/
def Effect.Only (e : Effect) (s t : State) : Prop :=
  (∀ a, (rowOf a).isSome = true → e.covers a = false → t.reg a = s.reg a) ∧ ∀ p, p ∉ e.parts → samePart s t p

/-! What the statements speak of. -/

/-- The reset words of Tables 18.2 to 18.14 on ILK1024-F that are not zero, each with the first address of its register or
array of registers. -/
def resetTable : List (Nat × Nat) :=
  [(0x28, 0x100), (0x40000C, 0x00200400), (0x400010, 0x0180A000), (0x400014, 0x04102080),
   (0x400018, 0x01342400), (0x40001C, 0x1F), (0x408000, 0x107), (0x408004, 0x1), (0x409000, 0xCB), (0x409008, 0xC000),
   (0x409020, 0x00110080), (0x409100, 0xFFFFFFFF), (0x409180, 0xFFFFFFFF), (0x40C000, 0x1), (0x40C004, 0x04000000),
   (0x40C100, 0x10C8), (0x40C104, 0x0A182832), (0x40C108, 0x23), (0x40C10C, 0x07D007D0), (0x40C110, 0x00042710)] ++
  [(0x40C118, 0x0001999A), (0x40C11C, 0x000FFFFF), (0x410004, 0x19), (0x41002C, 0x12), (0x410030, 0x0007D014),
   (0x410044, 0x28), (0x420004, 0x03020000), (0x420008, 0x04026B0C), (0x42000C, 0x00326496), (0x420010, 0x00064450),
   (0x460028, 0x01F407D0), (0x46002C, 0x3214), (0x460030, 0x00146414), (0x460034, 0x01F407D0), (0x460080, 0x00010413),
   (0x460084, 0x88), (0x4600C0, 0x00190000), (0x520000, 0x1), (0x520004, 0x4), (0x520014, 0x2FAF0800), (0x520108, 0xC8),
   (0x520114, 0x1), (0x520200, 0x400), (0x52401C, 0xA), (0x528004, 0x0004E200), (0x528008, 0x2FAF0800)] ++
  [(0x52800C, 0x00080000), (0x528014, 0x00080000), (0x528018, 0x2FAF0800), (0x529008, 0x2FAF0800), (0x52900C, 0x00080000),
   (0x529014, 0x00080000), (0x529018, 0x2FAF0800), (0x530000, 0x7), (0x540100, 0x400), (0x540114, 0x40), (0x580000, 0x2),
   (0x58000C, 0x14), (0x580100, 0x02000413), (0x580104, 0x0028640A), (0x58010C, 0x3E8), (0x590008, 0x64), (0x590600, 0x13),
   (0x590608, 0x3E8), (0x5A0000, 0x3F), (0x5A0100, 0x8), (0x5B000C, 0x7FFF), (0x5B1000, 0x180), (0x5C0000, 0x1C0)] ++
  [(0x5C0100, 0x3), (0x5D0000, 0x38), (0x5D000C, 0x8C), (0x5D0018, 0x3), (0x5D001C, 0x3C), (0x5E0604, 0x400)]

/-- The reset words of Tables 18.2 to 18.14 that differ on the other variants, by address. -/
def variantTable : Variant → List (Nat × Nat)
  | .f1024 => []
  | .l1024 => [(0x400018, 0x01340000), (0x40001C, 0x1E), (0x410004, 0x38), (0x460034, 0x7D0)]
  | .f0512 => [(0x40000C, 0x00100200), (0x400010, 0x00C05000), (0x400014, 0x02081040), (0x400018, 0x011A1200), (0x40001C, 0x1B),
      (0x409008, 0x6000), (0x40C004, 0x02000000), (0x520004, 0), (0x5A0000, 0x7)]

/-- `s` with changes waiting for its frame boundary (R349). -/
def withChanges (s : State) (xs : List Change) : State := { s with hp := { s.hp with changes := xs } }

/-- The value of performance counter `k` (R438). -/
def counterValue (s : State) (k : Nat) : Nat := s.fld (Reg.PMC_LO_COUNT k) + 2 ^ 32 * s.fld (Reg.PMC_HI_COUNT k)

/-- `n` timebase cycles in a row (R42). -/
def State.ftSteps (s : State) : Nat → State
  | 0 => s
  | n + 1 => (s.ftSteps n).ftStep

/-- How a frame of `type` from position `p` comes over an outlet link intact (R214, R216, R217). -/
def goodRx (type p : Nat) (payload : List Byte) : LinkRx := ⟨0, payload.length + 7, crc16 (inBytes type p payload)⟩

/-- R317: schedule window `w` of bus port `n` starts now; its end and its kind. -/
def State.winOpens (s : State) (n w : Nat) : Bool := (s.winCfg n w).any (s.windowDue n w)
def State.winEnd (s : State) (n w : Nat) : Time := s.windowFin n ((s.winCfg n w).getD [])
def State.winKind (s : State) (n w : Nat) : Nat := ((s.winCfg n w).getD []).getD 1 0 / 65536 % 4

/-- R317, R318: the window's cell in the present cycle: its object, its one-shot bit, and whether it wants a frame. -/
def State.cellObject (s : State) (n w : Nat) : Nat := s.cellCfg n (s.cycleNow n).2 w % 128
def State.cellOnce (s : State) (n w : Nat) : Bool := (s.cellCfg n (s.cycleNow n).2 w).testBit 8
def State.cellDue (s : State) (n w : Nat) : Bool :=
  (s.cellCfg n (s.cycleNow n).2 w).testBit 7 && ((s.txObj (128 * n + s.cellObject n w)).written ||
    !(s.txCfg (128 * n + s.cellObject n w)).any (fun c => (c.getD 1 0).testBit 4))

/-- R318, R325: what port `n` sends next ends before `e` by its length bound. -/
def State.endsBefore (s : State) (n : Nat) (x : Sending) (e : Time) : Bool :=
  decide (s.suspended n + 8 * (s.boundOf n (s.frameOf n x).1 (s.frameOf n x).2 : Nat) ≤ tdiff e s.ft)

end Sys2Proof.Machine
end

