-- ==== Sys2Proof/Effects.lean ====
section
/-! DEFINITION. What each command may change, as an effect: the registers (an array by a field of its element 0) and the parts of the
state. The frame statements say that a command changes nothing else. -/

namespace Sys2Proof.Machine

/-- Both effects. -/
def Effect.and (e f : Effect) : Effect := ⟨e.regs ++ f.regs, e.parts ++ f.parts⟩

/-- No change. -/
def Effect.none : Effect := ⟨[], []⟩

/-- The register at an address, with the array it is an element of. -/
def Effect.regAt (a : Nat) : Effect := ⟨[⟨a, 0, 32⟩], []⟩

/-- Every row of Table 18.1, by block. -/
def allRows : List RegRow :=
  rowsCw0 ++ rowsCw1 ++ rowsGl0 ++ rowsGl1 ++ rowsGl2 ++ rowsBb0 ++ rowsBb1 ++ rowsMp0 ++ rowsMp1 ++ rowsLg0 ++ rowsLg1 ++
    rowsTb0 ++ rowsTb1 ++ rowsGch0 ++ rowsGch1 ++ rowsPo0 ++ rowsPo1 ++ rowsPo2 ++ rowsPo3 ++ rowsOt0 ++ rowsOt1 ++ rowsLe0 ++
    rowsVd0 ++ rowsVd1 ++ rowsVd2 ++ rowsVd3 ++ rowsVd4 ++ rowsLk0 ++ rowsLk1 ++ rowsLp0 ++ rowsLp1 ++ rowsLp2 ++ rowsLp3 ++
    rowsLs0 ++ rowsLs1 ++ rowsFi0 ++ rowsFi1 ++ rowsBp0 ++ rowsBp1 ++ rowsBp2 ++ rowsBp3 ++ rowsHp0 ++ rowsHp1 ++ rowsHp2 ++
    rowsRs0 ++ rowsRs1 ++ rowsPw0 ++ rowsPw1 ++ rowsRc0 ++ rowsRc1 ++ rowsRc2

/-- Every register, and every part but the variant and the queue. -/
def Effect.everything : Effect :=
  ⟨allRows.map (fun r => ⟨r.base, 0, 32⟩),
    [.ft, .free, .answer, .latch, .tb, .gn, .po, .rc, .hp, .mp, .lg, .vd, .lk, .lp, .ls, .fd, .bp, .im, .rs, .pw]⟩

/-- An event bit raised: pending message vectors (R330–R334). -/
def Effect.raised : Effect :=
  ⟨[Reg.MSIX0_PBA_PEND 0, Reg.MSIX1_PBA_PEND 0], [.hp]⟩

/-- A canvas record offered: its ring, or the loss counted (R418–R424), and the counters of Table 17.6. -/
def Effect.recorded : Effect :=
  Effect.raised.and ⟨[Reg.REC_EVENT_FULL, Reg.CV_QLOST_QLOST_N, Reg.MU_WRITTEN_WRITTEN, Reg.MU_SKIP_SKIP_N, Reg.PMC_OVF_LO_OVF, Reg.PMC_OVF_HI_OVF,
    Reg.PMC_LO_COUNT 0, Reg.PMC_HI_COUNT 0], [.rc]⟩

/-- A halt asserted (R264): every output it stops, its records and its events. -/
def Effect.halted : Effect :=
  Effect.recorded.and ⟨[Reg.CW_IRQ_CPL 0, Reg.CW_STR_WR_INDEX 0 0, Reg.CW_STR_DROP_DROP_N 0 0, Reg.MAP_EVENT_TILE_MISS, Reg.MAP_COUNT_A_PAINT_LOST,
    Reg.MAP_COUNT_B_PAINT_UNSURE, Reg.TILE_DIRTY_BAND 0, Reg.LG_EVENT_FULL, Reg.VCH_STATE_STATE 0, Reg.LK_HOLD_LO_HOLD 0,
    Reg.LK_HOLD_HI_HOLD 0, Reg.LP_EVENT_SLOT_FLAG, Reg.HOUT_VALUE 0, Reg.SL_STATE_STATE 0, Reg.SL_FLAGS_SAT_ACC 0, Reg.SL_SETP_S 0,
    Reg.SL_RAMP_R 0, Reg.SL_OUT_VALUE 0 0, Reg.LS_SET_ON 0, Reg.LS_DUTY_DUTY 0, Reg.LS_STATE_OUT_ON 0, Reg.FIO_STATUS_BAR_OK, Reg.FO_SET_ON 0,
    Reg.FO_DUTY_DUTY 0, Reg.HP_EVENT_LINK_DOWN, Reg.RES_STATE_STATE], [.free, .mp, .lg, .vd, .lk, .lp, .ls, .fd, .bp, .rs]⟩

/-- An image activated (R364, R378). -/
def Effect.activated : Effect :=
  Effect.recorded.and ⟨[Reg.CW_RING_EN 0, Reg.CW_SQ_HEAD_INDEX 0, Reg.CW_CQ_TAIL_INDEX 0, Reg.CW_IRQ_CPL 0, Reg.CW_STR_CFG_KIND 0 0, Reg.CW_STR_WR_INDEX 0 0,
    Reg.CW_STR_DROP_DROP_N 0 0, Reg.IMG_STATUS_STAGE, Reg.IMG_DIFF_SEGS, Reg.IMG_ACTIVE_ID_IMAGE_ID, Reg.IMG_STAGED_ID_IMAGE_ID,
    Reg.IMG_ACTIVE_VER_IMAGE_VER, Reg.IMG_STAGED_VER_IMAGE_VER, Reg.IMG_EVENT_VERIFY_DONE, Reg.MAP_CTRL_GATE_ALL, Reg.MAP_EVENT_TILE_MISS,
    Reg.MAP_COUNT_A_PAINT_LOST, Reg.MAP_COUNT_B_PAINT_UNSURE, Reg.MAP_LAYER_OPEN_THR 0, Reg.TILE_DIRTY_BAND 0, Reg.RT_ENTRY_RATE 0 0,
    Reg.RT_STAGED_RATE 0 0, Reg.LG_EVENT_FULL, Reg.CL_COMMIT_COMMIT_CONF 0, Reg.CL_TIMING_REPLAN_TOL 0, Reg.CL_PREFLUX_PREFLUX 0,
    Reg.CL_GAPS_MIN_ON 0, Reg.CL_MATCH_MATCH_TOL 0, Reg.CL_RATE_LEAD_RATE_LEAD 0, Reg.CL_RATE_MIN_RATE_MIN 0, Reg.CL_RATE_MAX_RATE_MAX 0,
    Reg.LJ_OPEN_JIT 0, Reg.LJ_CLOSE_JIT 0, Reg.FRM_CFG_PERIOD, Reg.POSE_STATUS_STATE, Reg.POSE_EVENT_STATE_CHG, Reg.OT_CFG_DEFINED 0,
    Reg.OT_TARGET_CHAN 0, Reg.OT_MOUNT_X_MOUNT 0, Reg.OT_MOUNT_Y_MOUNT 0, Reg.OT_MOUNT_Z_MOUNT 0, Reg.OT_FP_W_W 0, Reg.OT_FP_L_L 0,
    Reg.OT_FP_DX_DX 0, Reg.OT_NOM_OPEN_NOM 0, Reg.OT_NOM_CLOSE_NOM 0, Reg.OT_LRN_OPEN_LRN 0, Reg.OT_LRN_CLOSE_LRN 0, Reg.OT_TRN_OPEN_TRN 0,
    Reg.OT_TRN_CLOSE_TRN 0, Reg.OT_RATE_RATE_GAIN 0, Reg.OT_STATE_OWNER 0, Reg.PF_CFG_NPH 0, Reg.PF_PULL_I_PULL 0, Reg.PF_MOVE_I_MOVE 0,
    Reg.PF_OC_OC_LIM 0, Reg.PF_RISE_RISE_MIN 0, Reg.PF_WIN_O_WIN_PRE 0, Reg.PF_WIN_C_WIN_PRE 0, Reg.PF_KINK_KINK_THR 0, Reg.PF_DIP_DIP_THR 0,
    Reg.PF_DW_DW_LIM 0, Reg.PH_CFG_KIND 0 0, Reg.PH_ITGT_ITGT 0 0, Reg.PH_BAND_BAND 0 0, Reg.PH_TMAX_TMAX 0 0, Reg.VCH_CFG_OUTLET 0,
    Reg.VCH_STATE_STATE 0, Reg.PWM_CTRL_LEDGER 0, Reg.AUXPWM_CTRL_LEDGER 0, Reg.LK_STATUS_STATE 0, Reg.LK_EVENT_NODE_ADDED 0,
    Reg.LK_HOLD_LO_HOLD 0, Reg.LK_HOLD_HI_HOLD 0, Reg.ND_STATE_STATE 0 0, Reg.ND_EXPECT_PRODUCT 0 0, Reg.LP_EVENT_SLOT_FLAG, Reg.PC_CFG_MODE 0,
    Reg.PC_CPR_CPR 0, Reg.PC_STAT_VALID 0, Reg.HOUT_VALUE 0, Reg.SL_CTRL_EN 0, Reg.SL_STATE_STATE 0, Reg.SL_FLAGS_SAT_ACC 0, Reg.SL_SETP_S 0,
    Reg.SL_RAMP_R 0, Reg.SL_OUT_VALUE 0 0, Reg.SL_CFG_ENTRY 0, Reg.SL_TIMER_TPER 0, Reg.SL_SPCFG_SP_SRC 0, Reg.SL_SSLEW_SLEW 0,
    Reg.SL_SPSLEW_SLEW 0, Reg.SL_IN_KIND 0 0, Reg.SL_OUTCFG_KIND 0 0, Reg.SL_OUTSAFE_SAFE_VAL 0 0, Reg.TBL_ENTRY 0 0, Reg.PROG_INSTR 0 0,
    Reg.DATA_D 0 0, Reg.COEF_C 0 0, Reg.LS_STATUS_SW_LINK, Reg.LS_WD_WD_TMO, Reg.LS_CFG_SOURCE 0, Reg.LS_CFG2_OL_BLANK 0, Reg.LS_DUTY_DUTY 0,
    Reg.FIO_STATUS_BAR_OK, Reg.FO_DUTY_DUTY 0, Reg.BP_CTRL_MODE 0, Reg.BP_STATUS_STATE 0, Reg.BP_ERRCNT_TEC 0, Reg.BP_NBT_NBRP 0,
    Reg.BP_DBT_DBRP 0, Reg.BP_TT_SYNC 0, Reg.BP_CYCLEN_CYCLE_LEN 0, Reg.BP_REFID_REF_BASE 0, Reg.BP_HALT_HALT_ID 0, Reg.BP_HALTKEY_HALT_KEY 0,
    Reg.BP_WAKE_WAKE_ID 0, Reg.BP_WAKEM_WAKE_MASK 0, Reg.BP_WAKED_WAKE_DATA 0, Reg.HP_DIRECT_DIRECT_CTX 0, Reg.CTX_CFG_PORT 0,
    Reg.CTX_PERM_MAP 0, Reg.CTX_READ_GROUPS 0, Reg.CTX_OWN_GROUPS 0, Reg.CTX_INH_GROUPS 0, Reg.CTX_CNT_REFUSED_N 0, Reg.OWN_OWNER 0], [.free,
    .tb, .po, .mp, .lg, .vd, .lk, .lp, .ls, .fd, .bp, .im, .rs]⟩

/-! Register accesses. -/

/-- A write at `a` outside the context windows, beside the register itself, by block. -/
def blockEffect (a : Nat) : Effect :=
  if a < 0x401000 then Effect.none
  else if a < 0x408000 then (if a = 0x401014 then Effect.activated.and ⟨[Reg.IMG_ACT_FT_LO_T, Reg.IMG_ACT_FT_HI_T, Reg.IMG_ACT_FRAME_FRAME, Reg.IMG_KEY_PROGRAMMED], []⟩
    else Effect.recorded.and ⟨[Reg.IMG_STATUS_STAGE, Reg.IMG_ERR_CODE, Reg.IMG_ERROFS_OFFSET, Reg.IMG_DIFF_SEGS, Reg.IMG_STAGED_ID_IMAGE_ID,
    Reg.IMG_STAGED_VER_IMAGE_VER, Reg.IMG_BOOT_PREF, Reg.IMG_FLOOR_SEC_FLOOR, Reg.IMG_KEY_PROGRAMMED, Reg.IMG_EVENT_VERIFY_DONE], [.im]⟩)
  else if a < 0x409000 then ⟨[Reg.CODE_ADDR_WORD, Reg.AID_ADDR_WORD], [.gn]⟩
  else if a < 0x40C000 then Effect.raised.and ⟨[Reg.MAP_CTRL_GATE_ALL, Reg.MAP_EVENT_TILE_MISS, Reg.RT_CTRL_COMMIT, Reg.TILE_CTRL_STATE 0, Reg.TILE_DIRTY_BAND 0,
    Reg.RT_STAGED_RATE 0 0], [.mp]⟩
  else if a < 0x410000 then Effect.raised.and ⟨[Reg.LG_EVENT_FULL, Reg.PATH_CTRL_KNOTS], [.lg]⟩
  else if a < 0x420000 then Effect.recorded.and ⟨[Reg.CW_IRQ_CPL 0, Reg.CW_STR_WR_INDEX 0 0, Reg.CW_STR_DROP_DROP_N 0 0, Reg.BB_STATUS_BB_PRESENT, Reg.TB_STATUS_STATE,
    Reg.TB_CTRL_DISC_SRC, Reg.GNSS_OFS_HI_OFS, Reg.TB_EVENT_REFIN_LOST, Reg.GCH_CFG_PORT 0, Reg.GCH_STATE_STATE 0, Reg.GCH_EVENT_ACQ_FAIL 0,
    Reg.GCH_CARR_NCO_INC 0, Reg.GCH_CODE_NCO_INC 0, Reg.GCH_MP_MP_CORR 0, Reg.POSE_STATUS_STATE], [.free, .tb, .gn, .po]⟩
  else if a < 0x460000 then Effect.raised.and ⟨[Reg.CW_IRQ_CPL 0, Reg.CW_STR_WR_INDEX 0 0, Reg.CW_STR_DROP_DROP_N 0 0, Reg.BB_STATUS_BB_PRESENT, Reg.GCH_STATE_STATE 0,
    Reg.GCH_EVENT_ACQ_FAIL 0, Reg.GCH_CARR_NCO_INC 0, Reg.GCH_CODE_NCO_INC 0, Reg.GCH_MP_MP_CORR 0, Reg.REC_EVENT_FULL, Reg.PMC_OVF_LO_OVF,
    Reg.PMC_OVF_HI_OVF, Reg.PMC_LO_COUNT 0, Reg.PMC_HI_COUNT 0], [.tb, .gn]⟩
  else if a < 0x470000 then Effect.recorded.and ⟨[Reg.POSE_CTRL_POSE_EN, Reg.POSE_STATUS_STATE, Reg.POSE_EVENT_STATE_CHG, Reg.POSE_BL_BL_SIGMA], [.po]⟩
  else if a < 0x520000 then Effect.none
  else if a < 0x530000 then (if a = 0x520100 ∨ a = 0x520120 then Effect.raised.and ⟨[Reg.VD_EVENT_CH_FAULT, Reg.BST_CTRL_BST_EN 0, Reg.BST_SET_SET 0, Reg.BST_REF_REF 0, Reg.BST_MEAS_MEAS 0, Reg.BST_STAT_BST_OFF 0,
    Reg.TRIP_CFG_EN 0, Reg.VCH_STATE_STATE 0, Reg.VCH_FAULT_OPEN_COIL 0, Reg.PWM_CTRL_LEDGER 0, Reg.PWM_CHOP_CHOP_PER 0,
    Reg.PWM_PERIOD_PERIOD 0, Reg.PWM_DUTY_DUTY 0, Reg.PWM_PHASE_PHASE 0, Reg.PWM_ACT_DUTY_DUTY 0, Reg.AUXPWM_CTRL_LEDGER 0,
    Reg.AUXPWM_CHOP_CHOP_PER 0, Reg.AUXPWM_PERIOD_PERIOD 0, Reg.AUXPWM_DUTY_DUTY 0, Reg.AUXPWM_PHASE_PHASE 0, Reg.AUXPWM_ACT_DUTY_DUTY 0,
    Reg.LP_EVENT_SLOT_FLAG, Reg.HOUT_VALUE 0, Reg.SL_STATE_STATE 0, Reg.SL_FLAGS_SAT_ACC 0, Reg.SL_SETP_S 0, Reg.SL_RAMP_R 0,
    Reg.SL_OUT_VALUE 0 0, Reg.LS_DUTY_DUTY 0, Reg.FO_DUTY_DUTY 0], [.vd, .lp, .ls, .bp]⟩
    else Effect.raised.and ⟨[Reg.VD_EVENT_CH_FAULT, Reg.BST_CTRL_BST_EN 0, Reg.BST_SET_SET 0, Reg.BST_REF_REF 0, Reg.BST_MEAS_MEAS 0, Reg.BST_STAT_BST_OFF 0,
    Reg.TRIP_CFG_EN 0, Reg.VCH_STATE_STATE 0, Reg.VCH_FAULT_OPEN_COIL 0, Reg.PWM_CTRL_LEDGER 0, Reg.PWM_CHOP_CHOP_PER 0,
    Reg.PWM_PERIOD_PERIOD 0, Reg.PWM_DUTY_DUTY 0, Reg.PWM_PHASE_PHASE 0, Reg.PWM_ACT_DUTY_DUTY 0, Reg.AUXPWM_CTRL_LEDGER 0,
    Reg.AUXPWM_CHOP_CHOP_PER 0, Reg.AUXPWM_PERIOD_PERIOD 0, Reg.AUXPWM_DUTY_DUTY 0, Reg.AUXPWM_PHASE_PHASE 0, Reg.AUXPWM_ACT_DUTY_DUTY 0],
    [.vd]⟩)
  else if a < 0x540000 then Effect.raised.and ⟨[Reg.OT_STATE_OWNER 0, Reg.LK_STATUS_STATE 0, Reg.LK_EVENT_NODE_ADDED 0, Reg.LK_HOLD_LO_HOLD 0, Reg.LK_HOLD_HI_HOLD 0,
    Reg.ND_STATE_STATE 0 0], [.lk]⟩
  else if a < 0x580000 then Effect.raised.and ⟨[Reg.LP_EVENT_SLOT_FLAG, Reg.TB_COMMIT_COMMIT, Reg.TG_CTRL_SLOT 0, Reg.CP_CTRL_SLOT 0, Reg.CP_COUNT_WORDS 0, Reg.HOUT_VALUE 0,
    Reg.SL_CTRL_EN 0, Reg.SL_STATE_STATE 0, Reg.SL_FLAGS_SAT_ACC 0, Reg.SL_SETP_S 0, Reg.SL_RAMP_R 0, Reg.SL_OUT_VALUE 0 0, Reg.TBL_ENTRY 0 0,
    Reg.DATA_D 0 0, Reg.COEF_C 0 0, Reg.LS_DUTY_DUTY 0, Reg.FO_DUTY_DUTY 0], [.lp, .ls, .bp]⟩
  else if a < 0x590000 then Effect.raised.and ⟨[Reg.MAP_EVENT_TILE_MISS, Reg.MAP_COUNT_A_PAINT_LOST, Reg.MAP_COUNT_B_PAINT_UNSURE, Reg.TILE_DIRTY_BAND 0, Reg.LS_EVENT_TSD,
    Reg.LS_CFG_SOURCE 0, Reg.LS_PERIOD_PERIOD 0, Reg.LS_DUTY_DUTY 0, Reg.LS_STATE_OUT_ON 0, Reg.REC_EVENT_FULL, Reg.PMC_OVF_LO_OVF,
    Reg.PMC_OVF_HI_OVF, Reg.PMC_LO_COUNT 0, Reg.PMC_HI_COUNT 0], [.free, .mp, .ls]⟩
  else if a < 0x5A0000 then Effect.raised.and ⟨[Reg.FIO_EVENT_BAR_LOST, Reg.FO_PERIOD_PERIOD 0, Reg.FO_DUTY_DUTY 0], [.fd]⟩
  else if a < 0x5B0000 then Effect.raised.and ⟨[Reg.CW_RING_EN 0, Reg.CW_CQ_TAIL_INDEX 0, Reg.CW_IRQ_CPL 0, Reg.BP_CTRL_MODE 0, Reg.BP_STATUS_STATE 0, Reg.BP_ERRCNT_TEC 0,
    Reg.BP_EVENT_BUS_OFF 0, Reg.BP_CNT_D_MISSED_N 0, Reg.BP_CNT_G_QFULL_N 0, Reg.BV_SEL_PORT 0, Reg.BV_STAT_BUSY 0, Reg.BV_HDR_ID 0,
    Reg.BV_META_DLC 0, Reg.BV_STAMP_LO_T 0, Reg.BV_STAMP_HI_T 0, Reg.BV_CFG_ID_OBJ_ID 0, Reg.BV_CFG_MASK_MASK 0, Reg.BV_DATA_DATA 0 0,
    Reg.CTX_CNT_REFUSED_N 0], [.bp]⟩
  else if a < 0x5C0000 then Effect.raised
  else if a < 0x5D0000 then Effect.recorded.and ⟨[Reg.IMG_EVENT_VERIFY_DONE, Reg.MAP_EVENT_TILE_MISS, Reg.MAP_COUNT_A_PAINT_LOST, Reg.MAP_COUNT_B_PAINT_UNSURE, Reg.TILE_DIRTY_BAND 0,
    Reg.GCH_STATE_STATE 0, Reg.VCH_STATE_STATE 0, Reg.SL_STATE_STATE 0, Reg.SL_RAMP_R 0, Reg.LS_STATE_OUT_ON 0, Reg.FIO_STATUS_BAR_OK,
    Reg.FO_SET_ON 0, Reg.RES_STATE_STATE, Reg.RES_EVENT_TAKEOVER, Reg.RES_CNT_A_TAKEOVER_N], [.free, .po, .mp, .lg, .vd, .lk, .lp, .ls, .fd,
    .im, .rs]⟩
  else if a < 0x5E0000 then Effect.raised.and ⟨[Reg.PWR_STATUS_READY, Reg.PWR_EVENT_START_FAIL, Reg.SEQ_A_SEQ, Reg.SEQ_B_SEQ, Reg.SEQ_LD_SEQ], [.tb, .gn, .pw]⟩
  else if a = 0x5E0044 then Effect.raised.and ⟨[Reg.REC_EVENT_FULL, Reg.TAG_IDX_WORD, Reg.TAG_WCOUNT_COUNT], [.rc]⟩
  else Effect.raised.and ⟨[Reg.REC_EVENT_FULL, Reg.CV_STATUS_COUNT, Reg.PMC_CTRL_RUN, Reg.PMC_OVF_LO_OVF, Reg.PMC_OVF_HI_OVF, Reg.PMC_LO_COUNT 0,
    Reg.PMC_HI_COUNT 0, Reg.SMP_CTRL_CORES, Reg.SMP_COUNT_COUNT], [.rc]⟩

/-- A write at `a` that is applied, beside the register itself: a context window, a halt doorbell, the apertures, or a block. -/
def placeEffect (a : Nat) : Effect :=
  if a < 0x400000 then (if a % 0x1000 = 0xFFC then Effect.halted else Effect.raised.and ⟨[Reg.CW_RING_EN 0, Reg.CW_SQ_TAIL_INDEX 0, Reg.HP_EVENT_LINK_DOWN], [.latch]⟩)
  else if a = 0x5B0040 then Effect.halted
  else if inRange 0x1000000 0x2800000 a then Effect.raised.and ⟨[Reg.MAP_EVENT_TILE_MISS], [.mp]⟩
  else if inRange 0x3000000 0x3180000 a then Effect.raised.and ⟨[Reg.IMG_EVENT_VERIFY_DONE], [.im]⟩
  else (blockEffect a).and ⟨[], [.latch]⟩

/-- What every host access changes (R336): the link seen, and the answer. -/
def Effect.answered : Effect := ⟨[Reg.HP_STATUS_LINK_UP], [.answer]⟩

/-- A host write at `a`; CW_RDATA passes on a write at the address that CW_RADDR holds (R340). -/
def writeEffect (a : Nat) : Effect :=
  if a < 0x400000 ∧ a % 0x1000 = 0x38 then Effect.everything else Effect.answered.and ((placeEffect a).and (Effect.regAt a))

/-- A read at `a` that is applied: the windows that advance, the latches (R11) and the fields a read clears (R7). -/
def lookEffect (a : Nat) : Effect :=
  if a = 0x408108 then ⟨[Reg.CODE_ADDR_WORD], [.gn]⟩
  else if a = 0x408124 then ⟨[Reg.AID_ADDR_WORD], [.gn]⟩
  else if a = 0x5D0044 then ⟨[Reg.BANK_IDX_WORD], []⟩
  else if a = 0x5E0010 then ⟨[Reg.CV_IDX_RECORD], [.rc]⟩
  else if a = 0x5E002C then ⟨[Reg.MU_IDX_ENTRY], [.rc]⟩
  else if a = 0x5E0044 then Effect.raised.and ⟨[Reg.REC_EVENT_FULL, Reg.TAG_IDX_WORD, Reg.TAG_WCOUNT_COUNT], [.rc]⟩
  else (Effect.regAt a).and (if a = 0x590004 then ⟨[Reg.FIO_STATUS_SILENT], [.latch]⟩ else ⟨[], [.latch]⟩)

/-- A host read at `a`; CW_RDATA passes on a read at the address that CW_RADDR holds. -/
def readEffect (a : Nat) : Effect :=
  if a < 0x400000 ∧ a % 0x1000 = 0x38 then Effect.everything else Effect.answered.and (lookEffect a)

/-- A host access at `a`, a write or a read. -/
def accessEffect (a : Nat) (w : Option Word) : Effect := if w.isSome then writeEffect a else readEffect a

/-! The commands. -/

/-- What a command may change. -/
def effect : Instr → Effect
  | .registerWrite _ addr _ => writeEffect addr
  | .clearingRead _ addr => readEffect addr
  | .latchingRead _ addr => readEffect addr
  | .vbatPowerOn => Effect.recorded.and ⟨[Reg.MAP_EVENT_TILE_MISS, Reg.MAP_COUNT_A_PAINT_LOST, Reg.MAP_COUNT_B_PAINT_UNSURE, Reg.TILE_DIRTY_BAND 0, Reg.VD_CTRL_GATE_COMP_EN,
    Reg.VD_STATUS_DIEA_LINK, Reg.VD_EVENT_CH_FAULT, Reg.VD_GATECOMP_LAT_A, Reg.DBG_CFG_HALT_OFF, Reg.SP_PERIOD_PERIOD, Reg.LOADALL_UNITS 0,
    Reg.LOADALL_AUX_AUX, Reg.BST_CTRL_BST_EN 0, Reg.BST_SET_SET 0, Reg.BST_SLEW_SLEW 0, Reg.BST_REF_REF 0, Reg.BST_MEAS_MEAS 0,
    Reg.BST_STAT_BST_OFF 0, Reg.TRIP_CFG_EN 0, Reg.TRIP_MASK_CH 0 0, Reg.PF_CFG_NPH 0, Reg.PF_PULL_I_PULL 0, Reg.PF_MOVE_I_MOVE 0,
    Reg.PF_OC_OC_LIM 0, Reg.PF_RISE_RISE_MIN 0, Reg.PF_WIN_O_WIN_PRE 0, Reg.PF_WIN_C_WIN_PRE 0, Reg.PF_KINK_KINK_THR 0, Reg.PF_DIP_DIP_THR 0,
    Reg.PF_DW_DW_LIM 0, Reg.PH_CFG_KIND 0 0, Reg.PH_ITGT_ITGT 0 0, Reg.PH_BAND_BAND 0 0, Reg.PH_TMAX_TMAX 0 0, Reg.VCH_CFG_OUTLET 0,
    Reg.VCH_STATE_STATE 0, Reg.VCH_FAULT_OPEN_COIL 0, Reg.VCH_CLEAR_UNLATCH 0, Reg.VCH_IMEAS_I 0, Reg.VCH_VMEAS_V 0, Reg.VCH_HEAT_RATIO 0,
    Reg.VCH_DW_DW_WIN 0, Reg.VCH_SEAL_CODE 0, Reg.VCH_KPEAK_PEAK 0, Reg.VCH_CNT_UNSEATED_N 0, Reg.PWM_CTRL_LEDGER 0, Reg.PWM_CHOP_CHOP_PER 0,
    Reg.PWM_PERIOD_PERIOD 0, Reg.PWM_DUTY_DUTY 0, Reg.PWM_PHASE_PHASE 0, Reg.PWM_ACT_DUTY_DUTY 0, Reg.PWM_ACT_PERIOD_PERIOD 0,
    Reg.AUXPWM_CTRL_LEDGER 0, Reg.AUXPWM_CHOP_CHOP_PER 0, Reg.AUXPWM_PERIOD_PERIOD 0, Reg.AUXPWM_DUTY_DUTY 0, Reg.AUXPWM_PHASE_PHASE 0,
    Reg.AUXPWM_ACT_DUTY_DUTY 0, Reg.AUXPWM_ACT_PERIOD_PERIOD 0, Reg.LS_STATUS_SW_LINK, Reg.LS_EVENT_TSD, Reg.LS_VBAT_VBAT, Reg.LS_WD_WD_TMO,
    Reg.LS_CFG_SOURCE 0, Reg.LS_CFG2_OL_BLANK 0, Reg.LS_SET_ON 0, Reg.LS_PERIOD_PERIOD 0, Reg.LS_DUTY_DUTY 0, Reg.LS_STATE_OUT_ON 0,
    Reg.LS_FAULT_TSD 0, Reg.LS_CLEAR_UNLATCH 0, Reg.LS_IMEAS_I 0, Reg.LS_VOUT_V 0, Reg.LS_TEMP_TJ 0, Reg.LS_CLAMPE_B 0, Reg.LS_CNT_RETRY_CNT 0,
    Reg.FIO_STATUS_BAR_OK, Reg.FIO_EVENT_BAR_LOST, Reg.FIO_BAR_BAR_TMO, Reg.FIO_BARCNT_CRC_N, Reg.FIO_VFIELD_V, Reg.FIO_GRP_INTERVALS,
    Reg.FIO_LEVEL_LEVEL 0, Reg.FIO_COS_COS 0, Reg.FIO_OWIN_OW 0, Reg.FI_CFG_DEB 0, Reg.FI_STAT_LEVEL 0, Reg.FI_STAMP_STAMP 0,
    Reg.FI_COUNT_COUNT 0, Reg.FO_CFG_SOURCE 0, Reg.FO_SET_ON 0, Reg.FO_PERIOD_PERIOD 0, Reg.FO_DUTY_DUTY 0, Reg.FO_STATE_OUT_ON 0,
    Reg.FO_FAULT_OVERLOAD 0, Reg.FO_CLEAR_UNLATCH 0, Reg.FO_IMEAS_I 0, Reg.FO_VOUT_V 0, Reg.FO_CNT_OVL_N 0, Reg.PWR_STATUS_READY,
    Reg.PWR_WAKE_BUS_EN, Reg.SEQ_A_SEQ, Reg.SEQ_B_SEQ, Reg.PWR_TIMES_READY_T, Reg.CV_STATUS_COUNT], [.free, .mp, .vd, .ls, .fd, .im, .pw]⟩
  | .resetRelease _ _ => Effect.everything
  | .resetNLow => Effect.raised.and ⟨[Reg.VD_STATUS_DIEA_LINK, Reg.VCH_STATE_STATE 0, Reg.LS_STATUS_SW_LINK, Reg.PWR_STATUS_READY, Reg.PWR_EVENT_START_FAIL,
    Reg.PWR_AOLOG_PG_MISSING, Reg.SEQ_A_SEQ, Reg.SEQ_B_SEQ, Reg.PWR_TIMES_READY_T, Reg.CV_STATUS_COUNT], [.free, .rc, .vd, .im, .pw]⟩
  | .ready => Effect.recorded.and ⟨[Reg.HP_STATUS_LINK_UP, Reg.PWR_STATUS_READY, Reg.PWR_EVENT_START_FAIL, Reg.PWR_AOLOG_PG_MISSING, Reg.PWR_TIMES_READY_T], []⟩
  | .pgStartTimeout _ => ⟨[Reg.PWR_STATUS_READY, Reg.PWR_AOLOG_PG_MISSING], [.rc, .pw]⟩
  | .pgLost _ => Effect.raised.and ⟨[Reg.VD_STATUS_DIEA_LINK, Reg.VCH_STATE_STATE 0, Reg.LS_STATUS_SW_LINK, Reg.PWR_STATUS_READY, Reg.PWR_EVENT_START_FAIL,
    Reg.PWR_AOLOG_PG_MISSING, Reg.SEQ_A_SEQ, Reg.SEQ_B_SEQ, Reg.PWR_TIMES_READY_T, Reg.CV_STATUS_COUNT], [.free, .rc, .vd, .im, .pw]⟩
  | .brownOut => Effect.recorded.and ⟨[Reg.CW_IRQ_CPL 0, Reg.CW_STR_WR_INDEX 0 0, Reg.CW_STR_DROP_DROP_N 0 0, Reg.BB_STATUS_BB_PRESENT, Reg.MAP_EVENT_TILE_MISS,
    Reg.MAP_COUNT_A_PAINT_LOST, Reg.MAP_COUNT_B_PAINT_UNSURE, Reg.TILE_DIRTY_BAND 0, Reg.LG_EVENT_FULL, Reg.GCH_STATE_STATE 0,
    Reg.GCH_CARR_NCO_INC 0, Reg.GCH_CODE_NCO_INC 0, Reg.GCH_MP_MP_CORR 0, Reg.POSE_STATUS_STATE, Reg.VCH_STATE_STATE 0, Reg.LK_HOLD_LO_HOLD 0,
    Reg.LK_HOLD_HI_HOLD 0, Reg.LP_EVENT_SLOT_FLAG, Reg.HOUT_VALUE 0, Reg.SL_STATE_STATE 0, Reg.SL_FLAGS_SAT_ACC 0, Reg.SL_SETP_S 0,
    Reg.SL_RAMP_R 0, Reg.SL_OUT_VALUE 0 0, Reg.LS_SET_ON 0, Reg.LS_DUTY_DUTY 0, Reg.LS_STATE_OUT_ON 0, Reg.FIO_STATUS_BAR_OK, Reg.FO_SET_ON 0,
    Reg.FO_DUTY_DUTY 0, Reg.RES_STATE_STATE, Reg.PWR_STATUS_READY, Reg.PWR_EVENT_START_FAIL, Reg.PWR_AOLOG_PG_MISSING, Reg.SEQ_A_SEQ,
    Reg.SEQ_B_SEQ, Reg.PWR_TIMES_READY_T, Reg.CV_STATUS_COUNT, Reg.CV_DROPPED_DROPPED], [.free, .tb, .gn, .po, .mp, .lg, .vd, .lk, .lp, .ls,
    .fd, .bp, .im, .rs, .pw]⟩
  | .brownOutSaveDone _ => Effect.raised.and ⟨[Reg.VD_STATUS_DIEA_LINK, Reg.VCH_STATE_STATE 0, Reg.LS_STATUS_SW_LINK, Reg.PWR_STATUS_READY, Reg.PWR_EVENT_START_FAIL, Reg.SEQ_A_SEQ,
    Reg.SEQ_B_SEQ, Reg.PWR_TIMES_READY_T, Reg.CV_STATUS_COUNT], [.free, .rc, .vd, .im, .pw]⟩
  | .brownOutRecovered => ⟨[], [.pw]⟩
  | .sleep _ => writeEffect 0x5D0014
  | .stateBankSave _ => writeEffect 0x5D0014
  | .wake _ _ => Effect.recorded.and ⟨[Reg.MAP_EVENT_TILE_MISS, Reg.MAP_COUNT_A_PAINT_LOST, Reg.MAP_COUNT_B_PAINT_UNSURE, Reg.TILE_DIRTY_BAND 0, Reg.LS_STATUS_SW_LINK,
    Reg.LS_EVENT_TSD, Reg.LS_STATE_OUT_ON 0, Reg.PWR_WAKE_BUS_EN], [.free, .mp, .ls, .fd, .pw]⟩
  | .ldRewrite => ⟨[Reg.SEQ_LD_SEQ], [.pw]⟩
  | .rtcSet => ⟨[Reg.PWR_STATUS_READY], [.pw]⟩
  | .refinLost => Effect.recorded.and ⟨[Reg.CW_IRQ_CPL 0, Reg.CW_STR_WR_INDEX 0 0, Reg.CW_STR_DROP_DROP_N 0 0, Reg.BB_STATUS_BB_PRESENT, Reg.TB_STATUS_STATE,
    Reg.TB_EVENT_REFIN_LOST, Reg.GCH_CFG_PORT 0, Reg.GCH_STATE_STATE 0, Reg.GCH_EVENT_ACQ_FAIL 0, Reg.GCH_CARR_NCO_INC 0,
    Reg.GCH_CODE_NCO_INC 0, Reg.GCH_MP_MP_CORR 0, Reg.POSE_STATUS_STATE], [.free, .tb, .gn, .po]⟩
  | .refinActive _ _ => Effect.recorded.and ⟨[Reg.CW_IRQ_CPL 0, Reg.CW_STR_WR_INDEX 0 0, Reg.CW_STR_DROP_DROP_N 0 0, Reg.BB_STATUS_BB_PRESENT, Reg.TB_STATUS_STATE,
    Reg.TB_EVENT_REFIN_LOST, Reg.GCH_CFG_PORT 0, Reg.GCH_STATE_STATE 0, Reg.GCH_EVENT_ACQ_FAIL 0, Reg.GCH_CARR_NCO_INC 0,
    Reg.GCH_CODE_NCO_INC 0, Reg.GCH_MP_MP_CORR 0, Reg.POSE_STATUS_STATE], [.free, .tb, .gn, .po]⟩
  | .pllLock => Effect.recorded.and ⟨[Reg.CW_IRQ_CPL 0, Reg.CW_STR_WR_INDEX 0 0, Reg.CW_STR_DROP_DROP_N 0 0, Reg.BB_STATUS_BB_PRESENT, Reg.TB_STATUS_STATE,
    Reg.TB_EVENT_REFIN_LOST, Reg.GCH_CFG_PORT 0, Reg.GCH_STATE_STATE 0, Reg.GCH_EVENT_ACQ_FAIL 0, Reg.GCH_CARR_NCO_INC 0,
    Reg.GCH_CODE_NCO_INC 0, Reg.GCH_MP_MP_CORR 0, Reg.POSE_STATUS_STATE], [.free, .tb, .gn, .po]⟩
  | .refinStartTimeout => Effect.recorded.and ⟨[Reg.CW_IRQ_CPL 0, Reg.CW_STR_WR_INDEX 0 0, Reg.CW_STR_DROP_DROP_N 0 0, Reg.BB_STATUS_BB_PRESENT, Reg.TB_STATUS_STATE,
    Reg.TB_EVENT_REFIN_LOST, Reg.GCH_CFG_PORT 0, Reg.GCH_STATE_STATE 0, Reg.GCH_EVENT_ACQ_FAIL 0, Reg.GCH_CARR_NCO_INC 0,
    Reg.GCH_CODE_NCO_INC 0, Reg.GCH_MP_MP_CORR 0, Reg.POSE_STATUS_STATE], [.free, .tb, .gn, .po]⟩
  | .holdoverTimeout => Effect.recorded.and ⟨[Reg.CW_IRQ_CPL 0, Reg.CW_STR_WR_INDEX 0 0, Reg.CW_STR_DROP_DROP_N 0 0, Reg.BB_STATUS_BB_PRESENT, Reg.LG_EVENT_FULL,
    Reg.LG_CNT_A_FORCED_N, Reg.TB_STATUS_STATE, Reg.TB_EVENT_REFIN_LOST, Reg.GCH_CFG_PORT 0, Reg.GCH_STATE_STATE 0, Reg.GCH_EVENT_ACQ_FAIL 0,
    Reg.GCH_CARR_NCO_INC 0, Reg.GCH_CODE_NCO_INC 0, Reg.GCH_MP_MP_CORR 0, Reg.POSE_STATUS_STATE, Reg.VCH_STATE_STATE 0], [.free, .tb, .gn, .po,
    .lg, .vd]⟩
  | .disciplineUpdate _ _ _ => Effect.recorded.and ⟨[Reg.CW_IRQ_CPL 0, Reg.CW_STR_WR_INDEX 0 0, Reg.CW_STR_DROP_DROP_N 0 0, Reg.BB_STATUS_BB_PRESENT, Reg.LG_EVENT_FULL,
    Reg.LG_CNT_A_FORCED_N, Reg.TB_STATUS_STATE, Reg.REF_MEAS_OFFSET, Reg.REF_DRIFT_DRIFT, Reg.DISC_TRIM_TRIM, Reg.TB_EVENT_REFIN_LOST,
    Reg.GCH_CFG_PORT 0, Reg.GCH_STATE_STATE 0, Reg.GCH_EVENT_ACQ_FAIL 0, Reg.GCH_CARR_NCO_INC 0, Reg.GCH_CODE_NCO_INC 0, Reg.GCH_MP_MP_CORR 0,
    Reg.POSE_STATUS_STATE, Reg.VCH_STATE_STATE 0], [.free, .tb, .gn, .po, .lg, .vd]⟩
  | .driftCompliance => Effect.recorded.and ⟨[Reg.CW_IRQ_CPL 0, Reg.CW_STR_WR_INDEX 0 0, Reg.CW_STR_DROP_DROP_N 0 0, Reg.BB_STATUS_BB_PRESENT, Reg.TB_STATUS_STATE,
    Reg.TB_EVENT_REFIN_LOST, Reg.GCH_CFG_PORT 0, Reg.GCH_STATE_STATE 0, Reg.GCH_EVENT_ACQ_FAIL 0, Reg.GCH_CARR_NCO_INC 0,
    Reg.GCH_CODE_NCO_INC 0, Reg.GCH_MP_MP_CORR 0, Reg.POSE_STATUS_STATE], [.free, .tb, .gn, .po]⟩
  | .driftAccept _ => writeEffect 0x410004
  | .autoReturnSet _ => writeEffect 0x410004
  | .gnssOfsWrite _ _ => writeEffect 0x410014
  | .calSet _ _ => writeEffect 0x410028
  | .frameStart => Effect.raised.and ⟨[Reg.CW_RING_EN 0, Reg.CW_SQ_HEAD_INDEX 0, Reg.CW_CQ_TAIL_INDEX 0, Reg.CW_IRQ_CPL 0, Reg.CW_STR_CFG_KIND 0 0, Reg.CW_STR_WR_INDEX 0 0,
    Reg.CW_STR_DROP_DROP_N 0 0, Reg.MAP_EVENT_TILE_MISS, Reg.MAP_COUNT_B_PAINT_UNSURE, Reg.MISS_TX_T, Reg.MISS_TY_T, Reg.MISS_COUNT_COUNT,
    Reg.RT_CTRL_COMMIT, Reg.NEED_TX_T 0, Reg.NEED_TY_T 0, Reg.TILE_CTRL_STATE 0, Reg.TILE_DIRTY_BAND 0, Reg.RT_ENTRY_RATE 0 0,
    Reg.LG_STAT_IN_FLIGHT, Reg.LG_EVENT_FULL, Reg.LG_CNT_B_SHIFTED_N, Reg.LG_CNT_D_CLAMP_N, Reg.PATH_CTRL_KNOTS, Reg.FRM_NO_NUMBER,
    Reg.FRM_START_LO_T, Reg.FRM_START_HI_T, Reg.FRM_STAT_SKIPPED, Reg.OT_STATE_OWNER 0, Reg.VCH_STATE_STATE 0, Reg.CTX_CFG_PORT 0,
    Reg.CTX_PERM_MAP 0, Reg.CTX_CNT_REFUSED_N 0, Reg.OWN_OWNER 0, Reg.REC_EVENT_FULL, Reg.PMC_OVF_LO_OVF, Reg.PMC_OVF_HI_OVF,
    Reg.PMC_LO_COUNT 0, Reg.PMC_HI_COUNT 0], [.free, .tb, .mp, .lg, .vd]⟩
  | .frmCfgWrite _ _ => writeEffect 0x410030
  | .syncinPulse _ => Effect.raised.and ⟨[Reg.CW_IRQ_CPL 0, Reg.CW_STR_WR_INDEX 0 0, Reg.CW_STR_DROP_DROP_N 0 0, Reg.TB_STATUS_STATE, Reg.SYNCIN_ERR_ERR, Reg.TB_EVENT_REFIN_LOST,
    Reg.VCH_STATE_STATE 0, Reg.REC_EVENT_FULL, Reg.PMC_OVF_LO_OVF, Reg.PMC_OVF_HI_OVF, Reg.PMC_LO_COUNT 0, Reg.PMC_HI_COUNT 0], [.ft, .tb, .gn,
    .po, .lg, .vd, .pw]⟩
  | .syncLost => Effect.raised.and ⟨[Reg.TB_STATUS_STATE, Reg.TB_EVENT_REFIN_LOST], [.tb]⟩
  | .refoutReenable => ⟨[Reg.TB_STATUS_STATE], []⟩
  | .asTrain _ n _ => (writeEffect (0x408010 + 8 * n)).and ⟨[Reg.AS_STAT_CLK_PRESENT 0], [.gn]⟩
  | .asPortLost _ => Effect.raised.and ⟨[Reg.CW_IRQ_CPL 0, Reg.CW_STR_WR_INDEX 0 0, Reg.CW_STR_DROP_DROP_N 0 0, Reg.BB_STATUS_BB_PRESENT, Reg.AS_STAT_CLK_PRESENT 0,
    Reg.GCH_STATE_STATE 0, Reg.GCH_EVENT_ACQ_FAIL 0, Reg.GCH_CARR_NCO_INC 0, Reg.GCH_CODE_NCO_INC 0, Reg.GCH_MP_MP_CORR 0,
    Reg.POSE_STATUS_STATE, Reg.REC_EVENT_FULL, Reg.PMC_OVF_LO_OVF, Reg.PMC_OVF_HI_OVF, Reg.PMC_LO_COUNT 0, Reg.PMC_HI_COUNT 0], [.tb, .gn, .po]⟩
  | .chStartSearch _ n => writeEffect (0x420000 + 256 * n)
  | .chStartAided _ n => writeEffect (0x420000 + 256 * n)
  | .chStop _ n => writeEffect (0x420000 + 256 * n)
  | .integrationPeriodEnd _ _ _ _ => Effect.raised.and ⟨[Reg.CW_IRQ_CPL 0, Reg.CW_STR_WR_INDEX 0 0, Reg.CW_STR_DROP_DROP_N 0 0, Reg.BB_STATUS_BB_PRESENT, Reg.GCH_STATE_STATE 0,
    Reg.GCH_EVENT_ACQ_FAIL 0, Reg.GCH_CARR_NCO_INC 0, Reg.GCH_CODE_NCO_INC 0, Reg.GCH_TAP_I_SUM 0 0, Reg.GCH_TAP_Q_SUM 0 0,
    Reg.GCH_MP_MP_CORR 0, Reg.POSE_STATUS_STATE, Reg.REC_EVENT_FULL, Reg.PMC_OVF_LO_OVF, Reg.PMC_OVF_HI_OVF, Reg.PMC_LO_COUNT 0,
    Reg.PMC_HI_COUNT 0], [.free, .tb, .gn, .po]⟩
  | .pullinTimeout _ => Effect.raised.and ⟨[Reg.CW_IRQ_CPL 0, Reg.CW_STR_WR_INDEX 0 0, Reg.CW_STR_DROP_DROP_N 0 0, Reg.BB_STATUS_BB_PRESENT, Reg.GCH_STATE_STATE 0,
    Reg.GCH_CARR_NCO_INC 0, Reg.GCH_CODE_NCO_INC 0, Reg.GCH_MP_MP_CORR 0, Reg.REC_EVENT_FULL, Reg.PMC_OVF_LO_OVF, Reg.PMC_OVF_HI_OVF,
    Reg.PMC_LO_COUNT 0, Reg.PMC_HI_COUNT 0], [.tb, .gn]⟩
  | .cn0LowTimeout _ => Effect.raised.and ⟨[Reg.CW_IRQ_CPL 0, Reg.CW_STR_WR_INDEX 0 0, Reg.CW_STR_DROP_DROP_N 0 0, Reg.BB_STATUS_BB_PRESENT, Reg.GCH_STATE_STATE 0,
    Reg.GCH_CARR_NCO_INC 0, Reg.GCH_CODE_NCO_INC 0, Reg.GCH_MP_MP_CORR 0, Reg.REC_EVENT_FULL, Reg.PMC_OVF_LO_OVF, Reg.PMC_OVF_HI_OVF,
    Reg.PMC_LO_COUNT 0, Reg.PMC_HI_COUNT 0], [.tb, .gn]⟩
  | .lostTimeout _ => Effect.raised.and ⟨[Reg.CW_IRQ_CPL 0, Reg.CW_STR_WR_INDEX 0 0, Reg.CW_STR_DROP_DROP_N 0 0, Reg.BB_STATUS_BB_PRESENT, Reg.GCH_STATE_STATE 0,
    Reg.GCH_EVENT_ACQ_FAIL 0, Reg.GCH_CARR_NCO_INC 0, Reg.GCH_CODE_NCO_INC 0, Reg.GCH_MP_MP_CORR 0, Reg.REC_EVENT_FULL, Reg.PMC_OVF_LO_OVF,
    Reg.PMC_OVF_HI_OVF, Reg.PMC_LO_COUNT 0, Reg.PMC_HI_COUNT 0], [.tb, .gn]⟩
  | .measurementEpoch _ => Effect.raised.and ⟨[Reg.CW_IRQ_CPL 0, Reg.CW_STR_WR_INDEX 0 0, Reg.CW_STR_DROP_DROP_N 0 0, Reg.BB_STATUS_BB_PRESENT, Reg.AS_PWR_RMS 0 0, Reg.TB_STATUS_STATE,
    Reg.CAL_HI_SEC, Reg.LEAP_LEAP_S, Reg.GCH_CFG_PORT 0, Reg.GCH_STATE_STATE 0, Reg.GCH_EVENT_ACQ_FAIL 0, Reg.GCH_CARR_NCO_INC 0,
    Reg.GCH_CODE_NCO_INC 0, Reg.GCH_MP_MP_CORR 0, Reg.POSE_STATUS_STATE, Reg.POSE_EVENT_STATE_CHG, Reg.REC_EVENT_FULL, Reg.PMC_OVF_LO_OVF,
    Reg.PMC_OVF_HI_OVF, Reg.PMC_LO_COUNT 0, Reg.PMC_HI_COUNT 0], [.free, .tb, .gn, .po]⟩
  | .bankFault _ => Effect.recorded.and ⟨[Reg.CW_IRQ_CPL 0, Reg.CW_STR_WR_INDEX 0 0, Reg.CW_STR_DROP_DROP_N 0 0, Reg.BB_STATUS_BB_PRESENT, Reg.BANK_STAT_FENCED,
    Reg.GCH_STATE_STATE 0, Reg.GCH_EVENT_ACQ_FAIL 0, Reg.GCH_CARR_NCO_INC 0, Reg.GCH_CODE_NCO_INC 0, Reg.GCH_MP_MP_CORR 0], [.tb, .gn]⟩
  | .codeDataAccess _ write => accessEffect 0x408108 write
  | .aidDataAccess _ write => accessEffect 0x408124 write
  | .gnssRetainedSave => ⟨[], [.gn]⟩
  | .poseEpoch => Effect.recorded.and ⟨[Reg.CW_IRQ_CPL 0, Reg.CW_STR_WR_INDEX 0 0, Reg.CW_STR_DROP_DROP_N 0 0, Reg.POSE_STATUS_STATE, Reg.POSE_EVENT_STATE_CHG,
    Reg.POSE_REC_WORD 0, Reg.SL_STATE_STATE 0, Reg.SL_RAMP_R 0], [.free, .po, .mp, .lg, .lp, .pw]⟩
  | .poseEnWrite _ _ => writeEffect 0x460000
  | .fixGo _ _ => writeEffect 0x46022C
  | .fixLost => Effect.raised.and ⟨[Reg.POSE_EVENT_STATE_CHG], []⟩
  | .imuMaxExpiry => Effect.recorded.and ⟨[Reg.POSE_STATUS_STATE, Reg.POSE_EVENT_STATE_CHG], [.po]⟩
  | .imuTransfer _ _ _ _ => ⟨[Reg.POSE_STATUS_STATE], [.po]⟩
  | .imuDisagree => Effect.raised.and ⟨[Reg.POSE_EVENT_STATE_CHG], []⟩
  | .speedTimeout => ⟨[Reg.POSE_STATUS_STATE], [.po]⟩
  | .segHostUncWrite _ k _ => writeEffect (0x460118 + 32 * k)
  | .deflHoldExpiry _ => ⟨[], [.po]⟩
  | .tileLoad _ k => writeEffect (0x409808 + 16 * k)
  | .tileFillDone _ => Effect.raised.and ⟨[Reg.MAP_EVENT_TILE_MISS, Reg.TILE_CTRL_STATE 0], [.mp]⟩
  | .tileCommit _ k => writeEffect (0x409808 + 16 * k)
  | .tileEvict _ k _ => writeEffect (0x409808 + 16 * k)
  | .tileSwapMergeDone _ => ⟨[Reg.TILE_CTRL_STATE 0, Reg.TILE_DIRTY_BAND 0], [.mp]⟩
  | .tileApertureWrite _ _ _ => Effect.raised.and ⟨[Reg.MAP_EVENT_TILE_MISS, Reg.HP_STATUS_LINK_UP], [.answer, .mp]⟩
  | .tileDirtyRead _ k => readEffect (0x40980C + 16 * k)
  | .rateTableCommit _ _ => writeEffect 0x409030
  | .painterRun => Effect.raised.and ⟨[Reg.MAP_EVENT_TILE_MISS, Reg.MAP_COUNT_A_PAINT_LOST, Reg.MAP_COUNT_B_PAINT_UNSURE, Reg.SEC_STATE_SECS 0, Reg.TILE_DIRTY_BAND 0,
    Reg.OT_STATE_OWNER 0, Reg.REC_EVENT_FULL, Reg.PMC_OVF_LO_OVF, Reg.PMC_OVF_HI_OVF, Reg.PMC_LO_COUNT 0, Reg.PMC_HI_COUNT 0], [.mp, .pw]⟩
  | .pathCommit _ _ => writeEffect 0x40C020
  | .commitPass => Effect.raised.and ⟨[Reg.CW_IRQ_CPL 0, Reg.CW_STR_WR_INDEX 0 0, Reg.CW_STR_DROP_DROP_N 0 0, Reg.LG_EVENT_FULL, Reg.LG_CNT_A_FORCED_N, Reg.LG_CNT_C_LATE_N,
    Reg.VCH_STATE_STATE 0, Reg.REC_EVENT_FULL, Reg.PMC_OVF_LO_OVF, Reg.PMC_OVF_HI_OVF, Reg.PMC_LO_COUNT 0, Reg.PMC_HI_COUNT 0], [.free, .lg,
    .vd, .rs]⟩
  | .prefluxStart _ => ⟨[Reg.VCH_STATE_STATE 0], [.lg, .vd]⟩
  | .eventFire _ => Effect.recorded.and ⟨[Reg.CW_IRQ_CPL 0, Reg.CW_STR_WR_INDEX 0 0, Reg.CW_STR_DROP_DROP_N 0 0, Reg.MAP_EVENT_TILE_MISS, Reg.MAP_COUNT_A_PAINT_LOST,
    Reg.MAP_COUNT_B_PAINT_UNSURE, Reg.TILE_DIRTY_BAND 0, Reg.LG_EVENT_FULL, Reg.LG_CNT_C_LATE_N, Reg.LJ_OPEN_JIT 0, Reg.LJ_CLOSE_JIT 0,
    Reg.OT_LRN_OPEN_LRN 0, Reg.OT_LRN_CLOSE_LRN 0, Reg.OT_STATE_OWNER 0, Reg.VCH_STATE_STATE 0, Reg.VCH_SEAL_CODE 0, Reg.VCH_CNT_UNSEATED_N 0,
    Reg.PWM_CTRL_LEDGER 0, Reg.PWM_ACT_DUTY_DUTY 0, Reg.AUXPWM_CTRL_LEDGER 0, Reg.AUXPWM_ACT_DUTY_DUTY 0, Reg.LK_STATUS_STATE 0,
    Reg.LK_EVENT_NODE_ADDED 0, Reg.LK_HOLD_LO_HOLD 0, Reg.LK_HOLD_HI_HOLD 0, Reg.ND_STATE_STATE 0 0, Reg.ND_CNT_LATE_N 0 0, Reg.LS_DUTY_DUTY 0,
    Reg.LS_STATE_OUT_ON 0, Reg.FO_DUTY_DUTY 0], [.free, .mp, .lg, .vd, .lk, .lp, .ls, .fd, .rs]⟩
  | .valveSeal _ _ => Effect.raised.and ⟨[Reg.CW_IRQ_CPL 0, Reg.CW_STR_WR_INDEX 0 0, Reg.CW_STR_DROP_DROP_N 0 0, Reg.MAP_EVENT_TILE_MISS, Reg.MAP_COUNT_A_PAINT_LOST,
    Reg.MAP_COUNT_B_PAINT_UNSURE, Reg.TILE_DIRTY_BAND 0, Reg.LJ_OPEN_JIT 0, Reg.LJ_CLOSE_JIT 0, Reg.OT_LRN_OPEN_LRN 0, Reg.OT_LRN_CLOSE_LRN 0,
    Reg.OT_STATE_OWNER 0, Reg.VCH_SEAL_CODE 0, Reg.VCH_KPEAK_PEAK 0, Reg.VCH_CNT_UNSEATED_N 0, Reg.REC_EVENT_FULL, Reg.MU_WRITTEN_WRITTEN,
    Reg.MU_SKIP_SKIP_N, Reg.PMC_OVF_LO_OVF, Reg.PMC_OVF_HI_OVF, Reg.PMC_LO_COUNT 0, Reg.PMC_HI_COUNT 0], [.free, .rc, .mp, .lg, .vd]⟩
  | .phaseEnd _ _ _ => Effect.raised.and ⟨[Reg.VD_EVENT_CH_FAULT, Reg.VCH_STATE_STATE 0, Reg.VCH_FAULT_OPEN_COIL 0], [.vd]⟩
  | .overCurrent _ => Effect.raised.and ⟨[Reg.VD_EVENT_CH_FAULT, Reg.VCH_STATE_STATE 0, Reg.VCH_FAULT_OPEN_COIL 0], [.vd]⟩
  | .modOffEdge _ => ⟨[Reg.VCH_STATE_STATE 0], [.vd]⟩
  | .modOnEdge _ => ⟨[Reg.VCH_STATE_STATE 0], [.vd]⟩
  | .senseContinuityTest _ _ => Effect.raised.and ⟨[Reg.OT_LRN_OPEN_LRN 0, Reg.OT_LRN_CLOSE_LRN 0, Reg.VD_EVENT_CH_FAULT, Reg.VCH_STATE_STATE 0], [.vd]⟩
  | .dutyWindowUpdate _ _ _ => Effect.raised.and ⟨[Reg.VD_EVENT_CH_FAULT, Reg.VCH_STATE_STATE 0, Reg.VCH_FAULT_OPEN_COIL 0, Reg.VCH_IMEAS_I 0, Reg.VCH_VMEAS_V 0, Reg.VCH_HEAT_RATIO 0,
    Reg.SL_STATE_STATE 0, Reg.SL_RAMP_R 0], [.vd, .lp]⟩
  | .chUnlatch _ n => writeEffect (0x52400C + 0x40 * n)
  | .gateCompMeasure _ _ => ⟨[Reg.VD_GATECOMP_LAT_A], []⟩
  | .bstSetWrite _ b _ _ => (writeEffect (0x520104 + 32 * b)).and ⟨[Reg.BST_MEAS_MEAS 0], []⟩
  | .bstEnWrite _ b _ _ => (writeEffect (0x520100 + 32 * b)).and ⟨[Reg.BST_MEAS_MEAS 0], []⟩
  | .boostRefStep _ _ => ⟨[Reg.BST_REF_REF 0, Reg.BST_MEAS_MEAS 0, Reg.BST_STAT_BST_OFF 0, Reg.SL_STATE_STATE 0, Reg.SL_RAMP_R 0], [.lp]⟩
  | .bstOv _ => Effect.raised.and ⟨[Reg.VD_EVENT_CH_FAULT, Reg.BST_STAT_BST_OFF 0], []⟩
  | .bstLow _ => Effect.raised.and ⟨[Reg.VD_EVENT_CH_FAULT, Reg.BST_STAT_BST_OFF 0], []⟩
  | .loadall _ k _ => writeEffect (0x520018 + 4 * k)
  | .loadallAux _ _ => writeEffect 0x520028
  | .tripAssert _ _ => Effect.raised.and ⟨[Reg.VD_EVENT_CH_FAULT, Reg.TRIP_CFG_EN 0, Reg.VCH_STATE_STATE 0, Reg.VCH_FAULT_OPEN_COIL 0], [.vd]⟩
  | .tripDeassert _ => ⟨[], [.vd]⟩
  | .tripClear _ t => writeEffect (0x520200 + 32 * t)
  | .stopNLow => Effect.recorded.and ⟨[Reg.CW_IRQ_CPL 0, Reg.CW_STR_WR_INDEX 0 0, Reg.CW_STR_DROP_DROP_N 0 0, Reg.MAP_EVENT_TILE_MISS, Reg.MAP_COUNT_A_PAINT_LOST,
    Reg.MAP_COUNT_B_PAINT_UNSURE, Reg.TILE_DIRTY_BAND 0, Reg.LG_EVENT_FULL, Reg.VCH_STATE_STATE 0, Reg.LK_HOLD_LO_HOLD 0,
    Reg.LK_HOLD_HI_HOLD 0, Reg.LP_EVENT_SLOT_FLAG, Reg.HOUT_VALUE 0, Reg.SL_STATE_STATE 0, Reg.SL_FLAGS_SAT_ACC 0, Reg.SL_SETP_S 0,
    Reg.SL_RAMP_R 0, Reg.SL_OUT_VALUE 0 0, Reg.LS_STATUS_SW_LINK, Reg.LS_SET_ON 0, Reg.LS_DUTY_DUTY 0, Reg.LS_STATE_OUT_ON 0,
    Reg.FIO_STATUS_BAR_OK, Reg.FO_SET_ON 0, Reg.FO_DUTY_DUTY 0, Reg.RES_STATE_STATE], [.free, .mp, .lg, .vd, .lk, .lp, .ls, .fd, .bp, .rs]⟩
  | .stopNHigh => Effect.recorded.and ⟨[Reg.MAP_EVENT_TILE_MISS, Reg.MAP_COUNT_A_PAINT_LOST, Reg.MAP_COUNT_B_PAINT_UNSURE, Reg.TILE_DIRTY_BAND 0, Reg.VCH_STATE_STATE 0,
    Reg.SL_STATE_STATE 0, Reg.SL_RAMP_R 0, Reg.LS_STATUS_SW_LINK, Reg.LS_STATE_OUT_ON 0, Reg.FIO_STATUS_BAR_OK, Reg.FO_SET_ON 0,
    Reg.RES_STATE_STATE, Reg.RES_EVENT_TAKEOVER], [.free, .mp, .lg, .vd, .lk, .lp, .ls, .fd, .rs]⟩
  | .debugHalt => Effect.raised.and ⟨[Reg.VD_STATUS_DIEA_LINK, Reg.VCH_STATE_STATE 0, Reg.LP_STATUS_RUNNING, Reg.LP_EVENT_SLOT_FLAG, Reg.HOUT_VALUE 0, Reg.SL_STATE_STATE 0,
    Reg.SL_FLAGS_SAT_ACC 0, Reg.SL_SETP_S 0, Reg.SL_RAMP_R 0, Reg.SL_OUT_VALUE 0 0, Reg.LS_DUTY_DUTY 0, Reg.FO_DUTY_DUTY 0], [.vd, .lp, .ls,
    .bp]⟩
  | .debugResume => ⟨[Reg.VD_STATUS_DIEA_LINK, Reg.VCH_STATE_STATE 0, Reg.PWM_CTRL_LEDGER 0, Reg.PWM_ACT_DUTY_DUTY 0, Reg.AUXPWM_CTRL_LEDGER 0,
    Reg.AUXPWM_ACT_DUTY_DUTY 0, Reg.LP_STATUS_RUNNING, Reg.SL_STATE_STATE 0, Reg.SL_RAMP_R 0, Reg.LS_DUTY_DUTY 0, Reg.FO_DUTY_DUTY 0], [.lg,
    .vd, .lp, .ls]⟩
  | .extest => Effect.recorded.and ⟨[Reg.CW_IRQ_CPL 0, Reg.CW_STR_WR_INDEX 0 0, Reg.CW_STR_DROP_DROP_N 0 0, Reg.MAP_EVENT_TILE_MISS, Reg.MAP_COUNT_A_PAINT_LOST,
    Reg.MAP_COUNT_B_PAINT_UNSURE, Reg.TILE_DIRTY_BAND 0, Reg.LG_EVENT_FULL, Reg.VCH_STATE_STATE 0, Reg.LK_HOLD_LO_HOLD 0,
    Reg.LK_HOLD_HI_HOLD 0, Reg.LP_EVENT_SLOT_FLAG, Reg.HOUT_VALUE 0, Reg.SL_STATE_STATE 0, Reg.SL_FLAGS_SAT_ACC 0, Reg.SL_SETP_S 0,
    Reg.SL_RAMP_R 0, Reg.SL_OUT_VALUE 0 0, Reg.LS_SET_ON 0, Reg.LS_DUTY_DUTY 0, Reg.LS_STATE_OUT_ON 0, Reg.FIO_STATUS_BAR_OK, Reg.FO_SET_ON 0,
    Reg.FO_DUTY_DUTY 0, Reg.RES_STATE_STATE], [.free, .mp, .lg, .vd, .lk, .lp, .ls, .fd, .bp, .rs]⟩
  | .diePathLost _ _ => Effect.recorded.and ⟨[Reg.RES_STATE_STATE, Reg.RES_EVENT_TAKEOVER, Reg.RES_CNT_C_FIRE_COPY_N], []⟩
  | .dieLinkLost _ => Effect.recorded.and ⟨[Reg.VD_STATUS_DIEA_LINK, Reg.VD_EVENT_CH_FAULT, Reg.VCH_STATE_STATE 0, Reg.VCH_FAULT_OPEN_COIL 0, Reg.LS_STATUS_SW_LINK,
    Reg.RES_EVENT_TAKEOVER], [.vd]⟩
  | .linkCycle _ => Effect.raised.and ⟨[Reg.OT_STATE_OWNER 0, Reg.LK_STATUS_STATE 0, Reg.LK_EVENT_NODE_ADDED 0, Reg.LK_HOLD_LO_HOLD 0, Reg.LK_HOLD_HI_HOLD 0,
    Reg.LK_SAFE_LO_SAFE 0, Reg.LK_SAFE_HI_SAFE 0, Reg.LK_VALID_VALID 0, Reg.ND_STATE_STATE 0 0, Reg.ND_SEQ_TX_SEQ 0 0, Reg.REC_EVENT_FULL,
    Reg.PMC_OVF_LO_OVF, Reg.PMC_OVF_HI_OVF, Reg.PMC_LO_COUNT 0, Reg.PMC_HI_COUNT 0], [.lg, .lk]⟩
  | .enumChainEnd _ => ⟨[Reg.LK_STATUS_STATE 0], [.lk]⟩
  | .ident _ _ _ _ => Effect.raised.and ⟨[Reg.LK_STATUS_STATE 0, Reg.LK_EVENT_NODE_ADDED 0, Reg.LK_CNT_CRC_N 0, Reg.ND_STATE_STATE 0 0, Reg.ND_ID_VENDOR 0 0,
    Reg.ND_SERIAL_SERIAL 0 0, Reg.ND_CAPS_QDEPTH 0 0, Reg.ND_DELAY_D 0 0], [.lk]⟩
  | .pong _ _ _ _ _ => ⟨[Reg.LK_CNT_CRC_N 0, Reg.ND_DELAY_D 0 0, Reg.ND_SPREAD_SPREAD 0 0], [.lk]⟩
  | .status _ _ _ _ => Effect.raised.and ⟨[Reg.MAP_EVENT_TILE_MISS, Reg.MAP_COUNT_A_PAINT_LOST, Reg.MAP_COUNT_B_PAINT_UNSURE, Reg.TILE_DIRTY_BAND 0, Reg.OT_STATE_OWNER 0,
    Reg.LK_STATUS_STATE 0, Reg.LK_EVENT_NODE_ADDED 0, Reg.LK_CNT_CRC_N 0, Reg.ND_STATE_STATE 0 0, Reg.REC_EVENT_FULL, Reg.PMC_OVF_LO_OVF,
    Reg.PMC_OVF_HI_OVF, Reg.PMC_LO_COUNT 0, Reg.PMC_HI_COUNT 0], [.mp, .lk]⟩
  | .ack _ _ _ _ _ => ⟨[Reg.LK_CNT_CRC_N 0, Reg.LK_HOLD_LO_HOLD 0, Reg.LK_HOLD_HI_HOLD 0, Reg.ND_SEQ_TX_SEQ 0 0], [.lg, .lk]⟩
  | .reject _ _ _ _ _ => Effect.raised.and ⟨[Reg.LK_EVENT_NODE_ADDED 0, Reg.LK_CNT_CRC_N 0, Reg.LK_CNT2_RETRY_N 0], [.lg, .lk]⟩
  | .sealFrame _ _ _ _ => Effect.raised.and ⟨[Reg.CW_IRQ_CPL 0, Reg.CW_STR_WR_INDEX 0 0, Reg.CW_STR_DROP_DROP_N 0 0, Reg.MAP_EVENT_TILE_MISS, Reg.MAP_COUNT_A_PAINT_LOST,
    Reg.MAP_COUNT_B_PAINT_UNSURE, Reg.TILE_DIRTY_BAND 0, Reg.LJ_OPEN_JIT 0, Reg.LJ_CLOSE_JIT 0, Reg.OT_LRN_OPEN_LRN 0, Reg.OT_LRN_CLOSE_LRN 0,
    Reg.OT_STATE_OWNER 0, Reg.LK_CNT_CRC_N 0, Reg.REC_EVENT_FULL, Reg.PMC_OVF_LO_OVF, Reg.PMC_OVF_HI_OVF, Reg.PMC_LO_COUNT 0,
    Reg.PMC_HI_COUNT 0], [.mp, .lg, .rs]⟩
  | .diag _ _ _ _ _ _ => Effect.raised.and ⟨[Reg.LK_CNT_CRC_N 0, Reg.ND_DIAG_OUT 0 0, Reg.ND_DIAGV_VALUE 0 0, Reg.REC_EVENT_FULL, Reg.MU_WRITTEN_WRITTEN, Reg.MU_SKIP_SKIP_N,
    Reg.PMC_OVF_LO_OVF, Reg.PMC_OVF_HI_OVF, Reg.PMC_LO_COUNT 0, Reg.PMC_HI_COUNT 0], [.rc, .rs]⟩
  | .linkRetry _ _ => Effect.raised.and ⟨[Reg.LK_CNT2_RETRY_N 0, Reg.REC_EVENT_FULL, Reg.PMC_OVF_LO_OVF, Reg.PMC_OVF_HI_OVF, Reg.PMC_LO_COUNT 0, Reg.PMC_HI_COUNT 0], [.lk]⟩
  | .noReportTimeout _ => Effect.raised.and ⟨[Reg.CW_IRQ_CPL 0, Reg.CW_STR_WR_INDEX 0 0, Reg.CW_STR_DROP_DROP_N 0 0, Reg.MAP_EVENT_TILE_MISS, Reg.MAP_COUNT_A_PAINT_LOST,
    Reg.MAP_COUNT_B_PAINT_UNSURE, Reg.TILE_DIRTY_BAND 0, Reg.LJ_OPEN_JIT 0, Reg.LJ_CLOSE_JIT 0, Reg.OT_LRN_OPEN_LRN 0, Reg.OT_LRN_CLOSE_LRN 0,
    Reg.OT_STATE_OWNER 0, Reg.ND_CNT_LATE_N 0 0, Reg.REC_EVENT_FULL, Reg.PMC_OVF_LO_OVF, Reg.PMC_OVF_HI_OVF, Reg.PMC_LO_COUNT 0,
    Reg.PMC_HI_COUNT 0], [.mp, .lg]⟩
  | .nodeLost _ _ => Effect.raised.and ⟨[Reg.MAP_EVENT_TILE_MISS, Reg.MAP_COUNT_A_PAINT_LOST, Reg.MAP_COUNT_B_PAINT_UNSURE, Reg.TILE_DIRTY_BAND 0, Reg.OT_STATE_OWNER 0,
    Reg.LK_STATUS_STATE 0, Reg.LK_EVENT_NODE_ADDED 0, Reg.ND_STATE_STATE 0 0, Reg.REC_EVENT_FULL, Reg.PMC_OVF_LO_OVF, Reg.PMC_OVF_HI_OVF,
    Reg.PMC_LO_COUNT 0, Reg.PMC_HI_COUNT 0], [.mp, .lk]⟩
  | .ndAccept _ l p => writeEffect (0x53011C + 0x800 * l + 0x40 * p)
  | .ndRemove _ l p => writeEffect (0x53011C + 0x800 * l + 0x40 * p)
  | .ndReset _ l p => writeEffect (0x53011C + 0x800 * l + 0x40 * p)
  | .ndResync _ l p => writeEffect (0x53011C + 0x800 * l + 0x40 * p)
  | .slotRun _ _ => Effect.raised.and ⟨[Reg.LP_EVENT_SLOT_FLAG, Reg.TB_COMMIT_COMMIT, Reg.TG_CTRL_SLOT 0, Reg.CP_CTRL_SLOT 0, Reg.CP_COUNT_WORDS 0, Reg.CP_START_LO_T 0,
    Reg.CP_START_HI_T 0, Reg.HOUT_VALUE 0, Reg.SL_STATE_STATE 0, Reg.SL_FLAGS_SAT_ACC 0, Reg.SL_SETP_S 0, Reg.SL_RAMP_R 0, Reg.SL_OVR_OVR_N 0,
    Reg.SL_RUNS_RUNS 0, Reg.SL_LAT_LAST_LAT 0, Reg.SL_OUT_VALUE 0 0, Reg.TBL_ENTRY 0 0, Reg.DATA_D 0 0, Reg.COEF_C 0 0, Reg.LS_DUTY_DUTY 0,
    Reg.FO_DUTY_DUTY 0, Reg.REC_EVENT_FULL, Reg.PMC_OVF_LO_OVF, Reg.PMC_OVF_HI_OVF, Reg.PMC_LO_COUNT 0, Reg.PMC_HI_COUNT 0,
    Reg.SMP_COUNT_COUNT, Reg.SMP_BUF_DATA 0 0], [.free, .rc, .lp, .ls, .bp]⟩
  | .slEnWrite _ k _ => writeEffect (0x541000 + 0x100 * k)
  | .coefCommit _ k => writeEffect (0x541000 + 0x100 * k)
  | .clrState _ k => writeEffect (0x541000 + 0x100 * k)
  | .tbCommit _ _ => writeEffect 0x540010
  | .inputTimeout _ _ => Effect.raised.and ⟨[Reg.LP_EVENT_SLOT_FLAG, Reg.HOUT_VALUE 0, Reg.SL_STATE_STATE 0, Reg.SL_FLAGS_SAT_ACC 0, Reg.SL_SETP_S 0, Reg.SL_RAMP_R 0,
    Reg.SL_OUT_VALUE 0 0, Reg.LS_DUTY_DUTY 0, Reg.FO_DUTY_DUTY 0], [.lp, .ls, .bp]⟩
  | .testGenRun _ c _ => writeEffect (0x540100 + 0x40 * c)
  | .captureArm _ c _ => writeEffect (0x540114 + 0x40 * c)
  | .lsThermalShutdown _ _ => Effect.recorded.and ⟨[Reg.MAP_EVENT_TILE_MISS, Reg.MAP_COUNT_A_PAINT_LOST, Reg.MAP_COUNT_B_PAINT_UNSURE, Reg.TILE_DIRTY_BAND 0, Reg.LS_EVENT_TSD,
    Reg.LS_STATE_OUT_ON 0, Reg.LS_FAULT_TSD 0, Reg.LS_TEMP_TJ 0], [.free, .mp, .ls]⟩
  | .lsUnlatch _ n _ => (writeEffect (0x58011C + 0x40 * n)).and ⟨[Reg.LS_TEMP_TJ 0], []⟩
  | .lsUnlock _ n => writeEffect (0x58011C + 0x40 * n)
  | .inrushEpisode _ => Effect.recorded.and ⟨[Reg.MAP_EVENT_TILE_MISS, Reg.MAP_COUNT_A_PAINT_LOST, Reg.MAP_COUNT_B_PAINT_UNSURE, Reg.TILE_DIRTY_BAND 0, Reg.LS_EVENT_TSD,
    Reg.LS_STATE_OUT_ON 0, Reg.LS_FAULT_TSD 0], [.free, .mp, .ls]⟩
  | .inrushRetry _ => Effect.raised.and ⟨[Reg.MAP_EVENT_TILE_MISS, Reg.MAP_COUNT_A_PAINT_LOST, Reg.MAP_COUNT_B_PAINT_UNSURE, Reg.TILE_DIRTY_BAND 0, Reg.LS_STATE_OUT_ON 0,
    Reg.LS_CNT_RETRY_CNT 0, Reg.REC_EVENT_FULL, Reg.PMC_OVF_LO_OVF, Reg.PMC_OVF_HI_OVF, Reg.PMC_LO_COUNT 0, Reg.PMC_HI_COUNT 0], [.free, .mp,
    .ls]⟩
  | .lsOpenLoad _ _ => Effect.raised.and ⟨[Reg.LS_EVENT_TSD, Reg.LS_STATE_OUT_ON 0, Reg.LS_FAULT_TSD 0, Reg.LS_IMEAS_I 0], [.free]⟩
  | .clampEnd _ _ => Effect.recorded.and ⟨[Reg.MAP_EVENT_TILE_MISS, Reg.MAP_COUNT_A_PAINT_LOST, Reg.MAP_COUNT_B_PAINT_UNSURE, Reg.TILE_DIRTY_BAND 0, Reg.LS_EVENT_TSD,
    Reg.LS_STATE_OUT_ON 0, Reg.LS_FAULT_TSD 0, Reg.LS_IMEAS_I 0, Reg.LS_CLAMPE_B 0, Reg.LS_CNT_RETRY_CNT 0], [.free, .mp, .ls]⟩
  | .clampLeak => ⟨[Reg.LS_CLAMPE_B 0], [.ls]⟩
  | .vbatUndervoltage => Effect.raised.and ⟨[Reg.MAP_EVENT_TILE_MISS, Reg.MAP_COUNT_A_PAINT_LOST, Reg.MAP_COUNT_B_PAINT_UNSURE, Reg.TILE_DIRTY_BAND 0, Reg.LS_STATUS_SW_LINK,
    Reg.LS_EVENT_TSD, Reg.LS_STATE_OUT_ON 0, Reg.REC_EVENT_FULL, Reg.PMC_OVF_LO_OVF, Reg.PMC_OVF_HI_OVF, Reg.PMC_LO_COUNT 0,
    Reg.PMC_HI_COUNT 0], [.free, .mp, .ls]⟩
  | .vbatOvervoltage => Effect.raised.and ⟨[Reg.MAP_EVENT_TILE_MISS, Reg.MAP_COUNT_A_PAINT_LOST, Reg.MAP_COUNT_B_PAINT_UNSURE, Reg.TILE_DIRTY_BAND 0, Reg.LS_STATUS_SW_LINK,
    Reg.LS_EVENT_TSD, Reg.LS_STATE_OUT_ON 0, Reg.LS_FAULT_TSD 0, Reg.REC_EVENT_FULL, Reg.PMC_OVF_LO_OVF, Reg.PMC_OVF_HI_OVF,
    Reg.PMC_LO_COUNT 0, Reg.PMC_HI_COUNT 0], [.free, .rc, .mp, .ls]⟩
  | .overvoltageRecovery => Effect.raised.and ⟨[Reg.MAP_EVENT_TILE_MISS, Reg.MAP_COUNT_A_PAINT_LOST, Reg.MAP_COUNT_B_PAINT_UNSURE, Reg.TILE_DIRTY_BAND 0, Reg.LS_STATUS_SW_LINK,
    Reg.LS_STATE_OUT_ON 0, Reg.REC_EVENT_FULL, Reg.PMC_OVF_LO_OVF, Reg.PMC_OVF_HI_OVF, Reg.PMC_LO_COUNT 0, Reg.PMC_HI_COUNT 0], [.free, .mp,
    .ls]⟩
  | .reverseBattery => Effect.raised.and ⟨[Reg.MAP_EVENT_TILE_MISS, Reg.MAP_COUNT_A_PAINT_LOST, Reg.MAP_COUNT_B_PAINT_UNSURE, Reg.TILE_DIRTY_BAND 0, Reg.LS_EVENT_TSD,
    Reg.LS_STATE_OUT_ON 0, Reg.REC_EVENT_FULL, Reg.PMC_OVF_LO_OVF, Reg.PMC_OVF_HI_OVF, Reg.PMC_LO_COUNT 0, Reg.PMC_HI_COUNT 0], [.free, .rc,
    .mp, .ls]⟩
  | .lossOfGround => Effect.raised.and ⟨[Reg.MAP_EVENT_TILE_MISS, Reg.MAP_COUNT_A_PAINT_LOST, Reg.MAP_COUNT_B_PAINT_UNSURE, Reg.TILE_DIRTY_BAND 0, Reg.LS_EVENT_TSD,
    Reg.LS_STATE_OUT_ON 0, Reg.REC_EVENT_FULL, Reg.PMC_OVF_LO_OVF, Reg.PMC_OVF_HI_OVF, Reg.PMC_LO_COUNT 0, Reg.PMC_HI_COUNT 0], [.free, .rc,
    .mp, .ls]⟩
  | .switchCheck _ _ _ _ => Effect.raised.and ⟨[Reg.CW_IRQ_CPL 0, Reg.CW_STR_WR_INDEX 0 0, Reg.CW_STR_DROP_DROP_N 0 0, Reg.MAP_EVENT_TILE_MISS, Reg.MAP_COUNT_A_PAINT_LOST,
    Reg.MAP_COUNT_B_PAINT_UNSURE, Reg.TILE_DIRTY_BAND 0, Reg.LJ_OPEN_JIT 0, Reg.LJ_CLOSE_JIT 0, Reg.OT_LRN_OPEN_LRN 0, Reg.OT_LRN_CLOSE_LRN 0,
    Reg.OT_STATE_OWNER 0, Reg.LS_VBAT_VBAT, Reg.LS_STATE_OUT_ON 0, Reg.LS_FAULT_TSD 0, Reg.LS_IMEAS_I 0, Reg.LS_VOUT_V 0, Reg.REC_EVENT_FULL,
    Reg.PMC_OVF_LO_OVF, Reg.PMC_OVF_HI_OVF, Reg.PMC_LO_COUNT 0, Reg.PMC_HI_COUNT 0], [.free, .mp, .lg, .ls]⟩
  | .heartbeat => Effect.recorded.and ⟨[Reg.MAP_EVENT_TILE_MISS, Reg.MAP_COUNT_A_PAINT_LOST, Reg.MAP_COUNT_B_PAINT_UNSURE, Reg.TILE_DIRTY_BAND 0, Reg.LS_STATUS_SW_LINK,
    Reg.LS_EVENT_TSD, Reg.LS_WD_WD_TMO, Reg.LS_CFG_SOURCE 0, Reg.LS_CFG2_OL_BLANK 0, Reg.LS_STATE_OUT_ON 0], [.free, .mp, .ls]⟩
  | .wdExpiry => Effect.recorded.and ⟨[Reg.MAP_EVENT_TILE_MISS, Reg.MAP_COUNT_A_PAINT_LOST, Reg.MAP_COUNT_B_PAINT_UNSURE, Reg.TILE_DIRTY_BAND 0, Reg.LS_STATUS_SW_LINK,
    Reg.LS_EVENT_TSD, Reg.LS_STATE_OUT_ON 0], [.free, .mp, .ls]⟩
  | .limpNChange _ => Effect.recorded.and ⟨[Reg.MAP_EVENT_TILE_MISS, Reg.MAP_COUNT_A_PAINT_LOST, Reg.MAP_COUNT_B_PAINT_UNSURE, Reg.TILE_DIRTY_BAND 0, Reg.LS_STATUS_SW_LINK,
    Reg.LS_EVENT_TSD, Reg.LS_STATE_OUT_ON 0], [.free, .mp, .ls]⟩
  | .lhinChange _ _ => ⟨[Reg.LS_STATUS_SW_LINK, Reg.LS_STATE_OUT_ON 0], [.ls]⟩
  | .barrierOutboundFrame _ => ⟨[Reg.FIO_STATUS_BAR_OK, Reg.FIO_BAR_BAR_TMO, Reg.FIO_GRP_INTERVALS, Reg.FI_CFG_DEB 0, Reg.FO_CFG_SOURCE 0, Reg.FO_SET_ON 0], [.fd]⟩
  | .barrierInboundFrame _ => Effect.raised.and ⟨[Reg.CW_IRQ_CPL 0, Reg.POSE_STATUS_STATE, Reg.PC_COUNT_COUNT 0, Reg.PC_STAT_VALID 0, Reg.SL_STATE_STATE 0, Reg.SL_RAMP_R 0,
    Reg.FIO_STATUS_BAR_OK, Reg.FIO_EVENT_BAR_LOST, Reg.FIO_BARCNT_CRC_N, Reg.FIO_VFIELD_V, Reg.FIO_LEVEL_LEVEL 0, Reg.FIO_COS_COS 0,
    Reg.FIO_OWIN_OW 0, Reg.FI_STAT_LEVEL 0, Reg.FI_STAMP_STAMP 0, Reg.FI_COUNT_COUNT 0, Reg.FO_STATE_OUT_ON 0, Reg.FO_FAULT_OVERLOAD 0,
    Reg.FO_IMEAS_I 0, Reg.FO_VOUT_V 0, Reg.FO_CNT_OVL_N 0], [.po, .lp, .fd, .rs]⟩
  | .barrierTimeout => Effect.recorded.and ⟨[Reg.FIO_STATUS_BAR_OK, Reg.FIO_EVENT_BAR_LOST, Reg.FI_STAT_LEVEL 0, Reg.RES_EVENT_TAKEOVER], [.fd]⟩
  | .fieldSilence => ⟨[Reg.FO_SET_ON 0], [.fd]⟩
  | .inputSample _ _ => ⟨[], [.fd]⟩
  | .outputOverload _ => ⟨[], [.fd]⟩
  | .outputOverloadRestart _ => ⟨[], [.fd]⟩
  | .outputOvertemp _ => ⟨[], [.fd]⟩
  | .outputOpenWire _ _ _ => ⟨[], [.fd]⟩
  | .foUnlatch _ m => writeEffect (0x590618 + 0x40 * m)
  | .vfieldUndervoltage => ⟨[], [.fd]⟩
  | .fieldOutputCheck _ _ _ _ => Effect.raised.and ⟨[Reg.CW_IRQ_CPL 0, Reg.CW_STR_WR_INDEX 0 0, Reg.CW_STR_DROP_DROP_N 0 0, Reg.MAP_EVENT_TILE_MISS, Reg.MAP_COUNT_A_PAINT_LOST,
    Reg.MAP_COUNT_B_PAINT_UNSURE, Reg.TILE_DIRTY_BAND 0, Reg.LJ_OPEN_JIT 0, Reg.LJ_CLOSE_JIT 0, Reg.OT_LRN_OPEN_LRN 0, Reg.OT_LRN_CLOSE_LRN 0,
    Reg.OT_STATE_OWNER 0, Reg.FIO_EVENT_BAR_LOST, Reg.FO_FAULT_OVERLOAD 0, Reg.FO_IMEAS_I 0, Reg.FO_VOUT_V 0, Reg.REC_EVENT_FULL,
    Reg.PMC_OVF_LO_OVF, Reg.PMC_OVF_HI_OVF, Reg.PMC_LO_COUNT 0, Reg.PMC_HI_COUNT 0], [.mp, .lg, .rs]⟩
  | .inputWakeEdge _ => Effect.recorded.and ⟨[Reg.MAP_EVENT_TILE_MISS, Reg.MAP_COUNT_A_PAINT_LOST, Reg.MAP_COUNT_B_PAINT_UNSURE, Reg.TILE_DIRTY_BAND 0, Reg.LS_STATUS_SW_LINK,
    Reg.LS_EVENT_TSD, Reg.LS_STATE_OUT_ON 0, Reg.PWR_WAKE_BUS_EN], [.free, .mp, .ls, .fd, .pw]⟩
  | .busFrameReceived _ _ => Effect.recorded.and ⟨[Reg.CW_RING_EN 0, Reg.CW_CQ_TAIL_INDEX 0, Reg.CW_IRQ_CPL 0, Reg.CW_STR_WR_INDEX 0 0, Reg.CW_STR_DROP_DROP_N 0 0, Reg.MAP_EVENT_TILE_MISS,
    Reg.MAP_COUNT_A_PAINT_LOST, Reg.MAP_COUNT_B_PAINT_UNSURE, Reg.TILE_DIRTY_BAND 0, Reg.LG_EVENT_FULL, Reg.VCH_STATE_STATE 0,
    Reg.LK_HOLD_LO_HOLD 0, Reg.LK_HOLD_HI_HOLD 0, Reg.LP_EVENT_SLOT_FLAG, Reg.HOUT_VALUE 0, Reg.SL_STATE_STATE 0, Reg.SL_FLAGS_SAT_ACC 0,
    Reg.SL_SETP_S 0, Reg.SL_RAMP_R 0, Reg.SL_OUT_VALUE 0 0, Reg.LS_SET_ON 0, Reg.LS_DUTY_DUTY 0, Reg.LS_STATE_OUT_ON 0, Reg.FIO_STATUS_BAR_OK,
    Reg.FO_SET_ON 0, Reg.FO_DUTY_DUTY 0, Reg.BUS_EVENT_PORT, Reg.BP_STATUS_STATE 0, Reg.BP_ERRCNT_TEC 0, Reg.BP_EVENT_BUS_OFF 0,
    Reg.BP_ERRLOG_LEC 0, Reg.BP_CNT_A_BIT_N 0, Reg.BP_CNT_B_FORM_N 0, Reg.BP_CNT_C_ACK_N 0, Reg.BP_CNT_D_MISSED_N 0, Reg.BP_CNT_E_NOMATCH_N 0,
    Reg.BP_CNT_F_LOST_N 0, Reg.BP_CNT_G_QFULL_N 0, Reg.BP_REFFT_LO_T 0, Reg.BP_REFFT_HI_T 0, Reg.CTX_CNT_REFUSED_N 0, Reg.RES_STATE_STATE],
    [.free, .mp, .lg, .vd, .lk, .lp, .ls, .fd, .bp, .rs]⟩
  | .scheduleWindow _ _ => Effect.raised.and ⟨[Reg.CW_RING_EN 0, Reg.CW_CQ_TAIL_INDEX 0, Reg.CW_IRQ_CPL 0, Reg.BP_STATUS_STATE 0, Reg.BP_EVENT_BUS_OFF 0, Reg.BP_CNT_D_MISSED_N 0,
    Reg.CTX_CNT_REFUSED_N 0], [.bp]⟩
  | .busTxDone _ _ => Effect.raised.and ⟨[Reg.CW_RING_EN 0, Reg.CW_CQ_TAIL_INDEX 0, Reg.CW_IRQ_CPL 0, Reg.BP_STATUS_STATE 0, Reg.BP_ERRCNT_TEC 0, Reg.BP_EVENT_BUS_OFF 0,
    Reg.BP_CNT_D_MISSED_N 0, Reg.BP_REFFT_LO_T 0, Reg.BP_REFFT_HI_T 0, Reg.CTX_CNT_REFUSED_N 0, Reg.REC_EVENT_FULL, Reg.PMC_OVF_LO_OVF,
    Reg.PMC_OVF_HI_OVF, Reg.PMC_LO_COUNT 0, Reg.PMC_HI_COUNT 0], [.bp]⟩
  | .busError _ _ => Effect.recorded.and ⟨[Reg.CW_RING_EN 0, Reg.CW_CQ_TAIL_INDEX 0, Reg.CW_IRQ_CPL 0, Reg.BP_STATUS_STATE 0, Reg.BP_ERRCNT_TEC 0, Reg.BP_EVENT_BUS_OFF 0,
    Reg.BP_ERRLOG_LEC 0, Reg.BP_CNT_A_BIT_N 0, Reg.BP_CNT_B_FORM_N 0, Reg.BP_CNT_C_ACK_N 0, Reg.BP_CNT_D_MISSED_N 0, Reg.CTX_CNT_REFUSED_N 0],
    [.bp]⟩
  | .busIntegrationDone _ => ⟨[Reg.BP_STATUS_STATE 0], [.bp]⟩
  | .busRecoveryDone _ => Effect.raised.and ⟨[Reg.BP_STATUS_STATE 0, Reg.BP_ERRCNT_TEC 0, Reg.BP_EVENT_BUS_OFF 0], [.bp]⟩
  | .refTimeout _ => Effect.raised.and ⟨[Reg.BP_STATUS_STATE 0, Reg.BP_EVENT_BUS_OFF 0], [.bp]⟩
  | .bpModeWrite _ n _ => writeEffect (0x5A0100 + 256 * n)
  | .bpRecover _ n => writeEffect (0x5A0100 + 256 * n)
  | .bvCapture _ v _ => writeEffect (0x5A1000 + 0x80 * v)
  | .bvCommit _ v _ => writeEffect (0x5A1000 + 0x80 * v)
  | .bvEnqueue _ v _ => writeEffect (0x5A1000 + 0x80 * v)
  | .busWakeFrame _ _ => Effect.recorded.and ⟨[Reg.MAP_EVENT_TILE_MISS, Reg.MAP_COUNT_A_PAINT_LOST, Reg.MAP_COUNT_B_PAINT_UNSURE, Reg.TILE_DIRTY_BAND 0, Reg.LS_STATUS_SW_LINK,
    Reg.LS_EVENT_TSD, Reg.LS_STATE_OUT_ON 0, Reg.PWR_WAKE_BUS_EN], [.free, .mp, .ls, .fd, .pw]⟩
  | .sqTailWrite _ _ => ⟨[Reg.CW_SQ_TAIL_INDEX 0], []⟩
  | .nop _ _ _ => Effect.raised.and ⟨[Reg.CW_RING_EN 0, Reg.CW_SQ_HEAD_INDEX 0, Reg.CW_CQ_TAIL_INDEX 0, Reg.CW_IRQ_CPL 0, Reg.CTX_CNT_REFUSED_N 0, Reg.CTX_SERVED_SERVED 0,
    Reg.REC_EVENT_FULL, Reg.PMC_OVF_LO_OVF, Reg.PMC_OVF_HI_OVF, Reg.PMC_LO_COUNT 0, Reg.PMC_HI_COUNT 0], []⟩
  | .regWrite _ _ _ offset _ _ => (Effect.raised.and ⟨[Reg.CW_RING_EN 0, Reg.CW_SQ_HEAD_INDEX 0, Reg.CW_CQ_TAIL_INDEX 0, Reg.CW_IRQ_CPL 0, Reg.CTX_CNT_REFUSED_N 0, Reg.CTX_SERVED_SERVED 0,
    Reg.REC_EVENT_FULL, Reg.PMC_OVF_LO_OVF, Reg.PMC_OVF_HI_OVF, Reg.PMC_LO_COUNT 0, Reg.PMC_HI_COUNT 0], []⟩).and ((placeEffect offset).and (Effect.regAt offset))
  | .regRead _ _ _ offset => (Effect.raised.and ⟨[Reg.CW_RING_EN 0, Reg.CW_SQ_HEAD_INDEX 0, Reg.CW_CQ_TAIL_INDEX 0, Reg.CW_IRQ_CPL 0, Reg.CTX_CNT_REFUSED_N 0, Reg.CTX_SERVED_SERVED 0,
    Reg.REC_EVENT_FULL, Reg.PMC_OVF_LO_OVF, Reg.PMC_OVF_HI_OVF, Reg.PMC_LO_COUNT 0, Reg.PMC_HI_COUNT 0], []⟩).and (lookEffect offset)
  | .edge _ _ _ _ _ _ _ => Effect.raised.and ⟨[Reg.CW_RING_EN 0, Reg.CW_SQ_HEAD_INDEX 0, Reg.CW_CQ_TAIL_INDEX 0, Reg.CW_IRQ_CPL 0, Reg.LG_EVENT_FULL, Reg.LG_CNT_B_SHIFTED_N,
    Reg.CTX_CNT_REFUSED_N 0, Reg.CTX_SERVED_SERVED 0, Reg.REC_EVENT_FULL, Reg.PMC_OVF_LO_OVF, Reg.PMC_OVF_HI_OVF, Reg.PMC_LO_COUNT 0,
    Reg.PMC_HI_COUNT 0], [.lg]⟩
  | .claim _ _ _ _ _ _ => Effect.raised.and ⟨[Reg.CW_RING_EN 0, Reg.CW_SQ_HEAD_INDEX 0, Reg.CW_CQ_TAIL_INDEX 0, Reg.CW_IRQ_CPL 0, Reg.CTX_CNT_REFUSED_N 0, Reg.CTX_SERVED_SERVED 0,
    Reg.REC_EVENT_FULL, Reg.PMC_OVF_LO_OVF, Reg.PMC_OVF_HI_OVF, Reg.PMC_LO_COUNT 0, Reg.PMC_HI_COUNT 0], []⟩
  | .release _ _ _ _ _ => Effect.raised.and ⟨[Reg.CW_RING_EN 0, Reg.CW_SQ_HEAD_INDEX 0, Reg.CW_CQ_TAIL_INDEX 0, Reg.CW_IRQ_CPL 0, Reg.CTX_CNT_REFUSED_N 0, Reg.CTX_SERVED_SERVED 0,
    Reg.REC_EVENT_FULL, Reg.PMC_OVF_LO_OVF, Reg.PMC_OVF_HI_OVF, Reg.PMC_LO_COUNT 0, Reg.PMC_HI_COUNT 0], []⟩
  | .inhibit _ _ _ _ _ => Effect.recorded.and ⟨[Reg.CW_RING_EN 0, Reg.CW_SQ_HEAD_INDEX 0, Reg.CW_CQ_TAIL_INDEX 0, Reg.CW_IRQ_CPL 0, Reg.CW_STR_WR_INDEX 0 0, Reg.CW_STR_DROP_DROP_N 0 0,
    Reg.LG_EVENT_FULL, Reg.OT_STATE_OWNER 0, Reg.VCH_STATE_STATE 0, Reg.LK_HOLD_LO_HOLD 0, Reg.LK_HOLD_HI_HOLD 0, Reg.CTX_CNT_REFUSED_N 0,
    Reg.CTX_SERVED_SERVED 0, Reg.OWN_OWNER 0], [.lg, .vd, .lk, .lp, .ls, .fd, .rs]⟩
  | .inhibitLift _ _ _ _ _ => Effect.raised.and ⟨[Reg.CW_RING_EN 0, Reg.CW_SQ_HEAD_INDEX 0, Reg.CW_CQ_TAIL_INDEX 0, Reg.CW_IRQ_CPL 0, Reg.OT_STATE_OWNER 0, Reg.LK_HOLD_LO_HOLD 0,
    Reg.LK_HOLD_HI_HOLD 0, Reg.CTX_CNT_REFUSED_N 0, Reg.CTX_SERVED_SERVED 0, Reg.OWN_OWNER 0, Reg.REC_EVENT_FULL, Reg.PMC_OVF_LO_OVF,
    Reg.PMC_OVF_HI_OVF, Reg.PMC_LO_COUNT 0, Reg.PMC_HI_COUNT 0], [.lk]⟩
  | .overrideWithdraw _ _ _ _ _ _ => Effect.recorded.and ⟨[Reg.CW_RING_EN 0, Reg.CW_SQ_HEAD_INDEX 0, Reg.CW_CQ_TAIL_INDEX 0, Reg.CW_IRQ_CPL 0, Reg.CW_STR_WR_INDEX 0 0, Reg.CW_STR_DROP_DROP_N 0 0,
    Reg.LG_EVENT_FULL, Reg.VCH_STATE_STATE 0, Reg.LK_HOLD_LO_HOLD 0, Reg.LK_HOLD_HI_HOLD 0, Reg.CTX_CNT_REFUSED_N 0, Reg.CTX_SERVED_SERVED 0],
    [.lg, .vd, .lk, .rs]⟩
  | .overrideTake _ _ _ _ _ _ _ => Effect.recorded.and ⟨[Reg.CW_RING_EN 0, Reg.CW_SQ_HEAD_INDEX 0, Reg.CW_CQ_TAIL_INDEX 0, Reg.CW_IRQ_CPL 0, Reg.CTX_CNT_REFUSED_N 0, Reg.CTX_SERVED_SERVED 0], []⟩
  | .overrideLift _ _ _ _ _ => Effect.recorded.and ⟨[Reg.CW_RING_EN 0, Reg.CW_SQ_HEAD_INDEX 0, Reg.CW_CQ_TAIL_INDEX 0, Reg.CW_IRQ_CPL 0, Reg.OT_STATE_OWNER 0, Reg.LK_HOLD_LO_HOLD 0,
    Reg.LK_HOLD_HI_HOLD 0, Reg.CTX_CNT_REFUSED_N 0, Reg.CTX_SERVED_SERVED 0, Reg.OWN_OWNER 0], [.lk]⟩
  | .overrideFree _ _ _ _ _ => Effect.recorded.and ⟨[Reg.CW_RING_EN 0, Reg.CW_SQ_HEAD_INDEX 0, Reg.CW_CQ_TAIL_INDEX 0, Reg.CW_IRQ_CPL 0, Reg.CTX_CNT_REFUSED_N 0, Reg.CTX_SERVED_SERVED 0], []⟩
  | .fix _ _ _ _ => Effect.raised.and ⟨[Reg.CW_RING_EN 0, Reg.CW_SQ_HEAD_INDEX 0, Reg.CW_CQ_TAIL_INDEX 0, Reg.CW_IRQ_CPL 0, Reg.CTX_CNT_REFUSED_N 0, Reg.CTX_SERVED_SERVED 0,
    Reg.REC_EVENT_FULL, Reg.PMC_OVF_LO_OVF, Reg.PMC_OVF_HI_OVF, Reg.PMC_LO_COUNT 0, Reg.PMC_HI_COUNT 0], [.po]⟩
  | .busSend _ _ _ _ _ _ _ _ _ _ _ => Effect.raised.and ⟨[Reg.CW_RING_EN 0, Reg.CW_SQ_HEAD_INDEX 0, Reg.CW_CQ_TAIL_INDEX 0, Reg.CW_IRQ_CPL 0, Reg.BP_STATUS_STATE 0, Reg.BP_EVENT_BUS_OFF 0,
    Reg.BP_CNT_D_MISSED_N 0, Reg.BP_CNT_G_QFULL_N 0, Reg.CTX_CNT_REFUSED_N 0, Reg.CTX_SERVED_SERVED 0, Reg.REC_EVENT_FULL, Reg.PMC_OVF_LO_OVF,
    Reg.PMC_OVF_HI_OVF, Reg.PMC_LO_COUNT 0, Reg.PMC_HI_COUNT 0], [.bp]⟩
  | .bind _ _ _ _ => Effect.raised.and ⟨[Reg.CW_RING_EN 0, Reg.CW_SQ_HEAD_INDEX 0, Reg.CW_CQ_TAIL_INDEX 0, Reg.CW_IRQ_CPL 0, Reg.CTX_CFG_PORT 0, Reg.CTX_CNT_REFUSED_N 0,
    Reg.CTX_SERVED_SERVED 0, Reg.REC_EVENT_FULL, Reg.PMC_OVF_LO_OVF, Reg.PMC_OVF_HI_OVF, Reg.PMC_LO_COUNT 0, Reg.PMC_HI_COUNT 0], []⟩
  | .unbind _ _ _ _ => Effect.raised.and ⟨[Reg.CW_RING_EN 0, Reg.CW_SQ_HEAD_INDEX 0, Reg.CW_CQ_TAIL_INDEX 0, Reg.CW_IRQ_CPL 0, Reg.CTX_CFG_PORT 0, Reg.CTX_CNT_REFUSED_N 0,
    Reg.CTX_SERVED_SERVED 0, Reg.REC_EVENT_FULL, Reg.PMC_OVF_LO_OVF, Reg.PMC_OVF_HI_OVF, Reg.PMC_LO_COUNT 0, Reg.PMC_HI_COUNT 0], []⟩
  | .haltDoorbell _ _ _ => Effect.halted
  | .hostLinkDown _ _ => Effect.raised.and ⟨[Reg.CW_RING_EN 0, Reg.CW_STR_CFG_KIND 0 0, Reg.HP_STATUS_LINK_UP, Reg.HP_EVENT_LINK_DOWN], []⟩
  | .cwRdataAccess _ _ => Effect.everything
  | .spiWrite _ _ _ _ => Effect.everything
  | .spiRead _ _ _ => Effect.everything
  | .spiStatusRead _ => ⟨[Reg.HP_STATUS_LINK_UP], [.answer]⟩
  | .stagingWrite _ _ _ => Effect.raised.and ⟨[Reg.IMG_EVENT_VERIFY_DONE, Reg.HP_STATUS_LINK_UP], [.answer, .im]⟩
  | .verify _ => writeEffect 0x401000
  | .verifyDone => Effect.raised.and ⟨[Reg.IMG_STATUS_STAGE, Reg.IMG_ERR_CODE, Reg.IMG_ERROFS_OFFSET, Reg.IMG_TOKEN_TOKEN, Reg.IMG_DIFF_SEGS, Reg.IMG_STAGED_ID_IMAGE_ID,
    Reg.IMG_STAGED_VER_IMAGE_VER, Reg.IMG_EVENT_VERIFY_DONE], [.im]⟩
  | .discard _ => writeEffect 0x401000
  | .save _ _ _ => writeEffect 0x401000
  | .saveComplete _ => Effect.raised.and ⟨[Reg.IMG_STATUS_STAGE, Reg.IMG_BOOT_PREF, Reg.IMG_EVENT_VERIFY_DONE], [.im]⟩
  | .load _ _ => writeEffect 0x401000
  | .confirm _ => writeEffect 0x401000
  | .raiseFloor _ => writeEffect 0x401000
  | .keyProg _ _ => writeEffect 0x401000
  | .keyRevoke _ _ => writeEffect 0x401000
  | .imgCommit _ _ => writeEffect 0x401014
  | .stagedCopyDone => ⟨[Reg.RT_STAGED_RATE 0 0], [.im]⟩
  | .activation => Effect.activated.and ⟨[Reg.IMG_KEY_PROGRAMMED, Reg.SEQ_A_SEQ, Reg.SEQ_B_SEQ, Reg.SEQ_LD_SEQ], [.gn, .pw]⟩
  | .laneFault _ _ _ _ _ => Effect.recorded.and ⟨[Reg.CW_IRQ_CPL 0, Reg.CW_STR_WR_INDEX 0 0, Reg.CW_STR_DROP_DROP_N 0 0, Reg.IMG_EVENT_VERIFY_DONE, Reg.MAP_EVENT_TILE_MISS,
    Reg.MAP_COUNT_A_PAINT_LOST, Reg.MAP_COUNT_B_PAINT_UNSURE, Reg.TILE_DIRTY_BAND 0, Reg.LG_EVENT_FULL, Reg.GCH_STATE_STATE 0,
    Reg.VCH_STATE_STATE 0, Reg.LK_HOLD_LO_HOLD 0, Reg.LK_HOLD_HI_HOLD 0, Reg.LP_EVENT_SLOT_FLAG, Reg.LP_MERGE_MERGE_N, Reg.HOUT_VALUE 0,
    Reg.SL_STATE_STATE 0, Reg.SL_FLAGS_SAT_ACC 0, Reg.SL_SETP_S 0, Reg.SL_RAMP_R 0, Reg.SL_OUT_VALUE 0 0, Reg.LS_SET_ON 0, Reg.LS_DUTY_DUTY 0,
    Reg.LS_STATE_OUT_ON 0, Reg.FIO_STATUS_BAR_OK, Reg.FO_SET_ON 0, Reg.FO_DUTY_DUTY 0, Reg.RES_STATE_STATE, Reg.RES_EVENT_TAKEOVER,
    Reg.RES_CAUSE_LANE, Reg.RES_HSCAUSE_CAUSE, Reg.RES_HSFT_LO_T, Reg.RES_HSFT_HI_T, Reg.RES_CNT_A_TAKEOVER_N, Reg.RES_CNT_B_ECC_CORR_N,
    Reg.RES_ECCLOG_MEMORY, Reg.RES_ECCADDR_ADDR], [.free, .po, .mp, .lg, .vd, .lk, .lp, .ls, .fd, .bp, .im, .rs]⟩
  | .laneDisagreement => Effect.recorded.and ⟨[Reg.CW_IRQ_CPL 0, Reg.CW_STR_WR_INDEX 0 0, Reg.CW_STR_DROP_DROP_N 0 0, Reg.MAP_EVENT_TILE_MISS, Reg.MAP_COUNT_A_PAINT_LOST,
    Reg.MAP_COUNT_B_PAINT_UNSURE, Reg.TILE_DIRTY_BAND 0, Reg.LG_EVENT_FULL, Reg.VCH_STATE_STATE 0, Reg.LK_HOLD_LO_HOLD 0,
    Reg.LK_HOLD_HI_HOLD 0, Reg.LP_EVENT_SLOT_FLAG, Reg.HOUT_VALUE 0, Reg.SL_STATE_STATE 0, Reg.SL_FLAGS_SAT_ACC 0, Reg.SL_SETP_S 0,
    Reg.SL_RAMP_R 0, Reg.SL_OUT_VALUE 0 0, Reg.LS_SET_ON 0, Reg.LS_DUTY_DUTY 0, Reg.LS_STATE_OUT_ON 0, Reg.FIO_STATUS_BAR_OK, Reg.FO_SET_ON 0,
    Reg.FO_DUTY_DUTY 0, Reg.RES_STATE_STATE, Reg.RES_EVENT_TAKEOVER, Reg.RES_HSCAUSE_CAUSE, Reg.RES_HSFT_LO_T, Reg.RES_HSFT_HI_T], [.free, .mp,
    .lg, .vd, .lk, .lp, .ls, .fd, .bp, .rs]⟩
  | .laneSelfTestDone _ => Effect.raised.and ⟨[Reg.RES_STATE_STATE, Reg.RES_EVENT_TAKEOVER, Reg.RES_CNT_A_TAKEOVER_N], [.rs]⟩
  | .laneCopyDone => ⟨[], [.rs]⟩
  | .takeoverEnd => Effect.recorded.and ⟨[Reg.CW_RING_EN 0, Reg.CW_CQ_TAIL_INDEX 0, Reg.CW_IRQ_CPL 0, Reg.CW_STR_WR_INDEX 0 0, Reg.CW_STR_DROP_DROP_N 0 0, Reg.MAP_EVENT_TILE_MISS,
    Reg.MAP_COUNT_A_PAINT_LOST, Reg.MAP_COUNT_B_PAINT_UNSURE, Reg.TILE_DIRTY_BAND 0, Reg.LJ_OPEN_JIT 0, Reg.LJ_CLOSE_JIT 0,
    Reg.GCH_STATE_STATE 0, Reg.OT_LRN_OPEN_LRN 0, Reg.OT_LRN_CLOSE_LRN 0, Reg.OT_STATE_OWNER 0, Reg.ND_DIAG_OUT 0 0, Reg.ND_DIAGV_VALUE 0 0,
    Reg.SL_STATE_STATE 0, Reg.SL_RAMP_R 0, Reg.FIO_EVENT_BAR_LOST, Reg.FIO_COS_COS 0, Reg.FO_FAULT_OVERLOAD 0, Reg.BP_EVENT_BUS_OFF 0,
    Reg.BP_CNT_E_NOMATCH_N 0, Reg.BP_CNT_F_LOST_N 0, Reg.CTX_CNT_REFUSED_N 0, Reg.RES_STATE_STATE, Reg.RES_EVENT_TAKEOVER, Reg.RES_TIMES_LAST],
    [.gn, .mp, .lg, .lp, .bp, .rs]⟩
  | .fireCompare _ _ _ => Effect.recorded.and ⟨[Reg.CW_IRQ_CPL 0, Reg.CW_STR_WR_INDEX 0 0, Reg.CW_STR_DROP_DROP_N 0 0, Reg.MAP_EVENT_TILE_MISS, Reg.MAP_COUNT_A_PAINT_LOST,
    Reg.MAP_COUNT_B_PAINT_UNSURE, Reg.TILE_DIRTY_BAND 0, Reg.LG_EVENT_FULL, Reg.VCH_STATE_STATE 0, Reg.LK_HOLD_LO_HOLD 0,
    Reg.LK_HOLD_HI_HOLD 0, Reg.LP_EVENT_SLOT_FLAG, Reg.HOUT_VALUE 0, Reg.SL_STATE_STATE 0, Reg.SL_FLAGS_SAT_ACC 0, Reg.SL_SETP_S 0,
    Reg.SL_RAMP_R 0, Reg.SL_OUT_VALUE 0 0, Reg.LS_SET_ON 0, Reg.LS_DUTY_DUTY 0, Reg.LS_STATE_OUT_ON 0, Reg.FIO_STATUS_BAR_OK, Reg.FO_SET_ON 0,
    Reg.FO_DUTY_DUTY 0, Reg.RES_STATE_STATE, Reg.RES_EVENT_TAKEOVER, Reg.RES_HSCAUSE_CAUSE, Reg.RES_HSFT_LO_T, Reg.RES_HSFT_HI_T,
    Reg.RES_CNT_B_ECC_CORR_N, Reg.RES_CNT_C_FIRE_COPY_N, Reg.RES_ECCLOG_MEMORY, Reg.RES_ECCADDR_ADDR], [.free, .mp, .lg, .vd, .lk, .lp, .ls,
    .fd, .bp, .rs]⟩
  | .fireReloadDone _ _ => Effect.recorded.and ⟨[Reg.RES_STATE_STATE], [.rs]⟩
  | .stopRelease _ => writeEffect 0x5C000C
  | .hsClear _ => writeEffect 0x5C000C
  | .laneRetry _ => writeEffect 0x5C000C
  | .fireRetry _ => writeEffect 0x5C000C
  | .memoryScrub _ _ => Effect.recorded.and ⟨[Reg.CW_IRQ_CPL 0, Reg.CW_STR_WR_INDEX 0 0, Reg.CW_STR_DROP_DROP_N 0 0, Reg.IMG_BOOT_PREF, Reg.IMG_KEY_PROGRAMMED,
    Reg.IMG_EVENT_VERIFY_DONE, Reg.BB_STATUS_BB_PRESENT, Reg.BANK_STAT_FENCED, Reg.MAP_EVENT_TILE_MISS, Reg.MAP_COUNT_A_PAINT_LOST,
    Reg.MAP_COUNT_B_PAINT_UNSURE, Reg.TILE_CTRL_STATE 0, Reg.TILE_DIRTY_BAND 0, Reg.LG_EVENT_FULL, Reg.GCH_STATE_STATE 0,
    Reg.GCH_EVENT_ACQ_FAIL 0, Reg.GCH_CARR_NCO_INC 0, Reg.GCH_CODE_NCO_INC 0, Reg.GCH_MP_MP_CORR 0, Reg.VCH_STATE_STATE 0,
    Reg.LK_HOLD_LO_HOLD 0, Reg.LK_HOLD_HI_HOLD 0, Reg.LP_EVENT_SLOT_FLAG, Reg.LP_MERGE_MERGE_N, Reg.HOUT_VALUE 0, Reg.SL_STATE_STATE 0,
    Reg.SL_FLAGS_SAT_ACC 0, Reg.SL_SETP_S 0, Reg.SL_RAMP_R 0, Reg.SL_OUT_VALUE 0 0, Reg.LS_SET_ON 0, Reg.LS_DUTY_DUTY 0, Reg.LS_STATE_OUT_ON 0,
    Reg.FIO_STATUS_BAR_OK, Reg.FO_SET_ON 0, Reg.FO_DUTY_DUTY 0, Reg.RES_STATE_STATE, Reg.RES_EVENT_TAKEOVER, Reg.RES_CAUSE_LANE,
    Reg.RES_HSCAUSE_CAUSE, Reg.RES_HSFT_LO_T, Reg.RES_HSFT_HI_T, Reg.RES_CNT_A_TAKEOVER_N, Reg.RES_CNT_B_ECC_CORR_N, Reg.RES_CNT_C_FIRE_COPY_N,
    Reg.RES_ECCLOG_MEMORY, Reg.RES_ECCADDR_ADDR, Reg.CV_STATUS_COUNT], [.free, .tb, .gn, .po, .mp, .lg, .vd, .lk, .lp, .ls, .fd, .bp, .im, .rs,
    .pw]⟩
  | .referenceCompare _ _ _ _ _ => Effect.recorded.and ⟨[Reg.RES_EVENT_TAKEOVER, Reg.REF_STAT_IN_VOTE 0, Reg.REF_D01_D 0, Reg.REF_D0A_D 0, Reg.REF_D1A_D 0], [.rs]⟩
  | .canvasFullRewrite => ⟨[], [.rc]⟩
  | .canvasWrite => Effect.raised.and ⟨[Reg.REC_EVENT_FULL, Reg.CV_STATUS_COUNT, Reg.CV_DROPPED_DROPPED, Reg.MU_WRITTEN_WRITTEN, Reg.MU_SKIP_SKIP_N, Reg.PMC_OVF_LO_OVF,
    Reg.PMC_OVF_HI_OVF, Reg.PMC_LO_COUNT 0, Reg.PMC_HI_COUNT 0], [.rc]⟩
  | .cvErase _ _ => writeEffect 0x5E0014
  | .eraseDone => Effect.recorded.and ⟨[Reg.SEQ_A_SEQ, Reg.SEQ_B_SEQ, Reg.SEQ_LD_SEQ, Reg.CV_STATUS_COUNT, Reg.CV_DROPPED_DROPPED], [.tb, .gn, .pw]⟩
  | .tagDataAccess _ write => accessEffect 0x5E0044 write
  | .pmcRun _ _ => writeEffect 0x5E0100
  | .pmcClear _ => writeEffect 0x5E0100
  | .smpEnWrite _ _ => writeEffect 0x5E0600
  | .bankDataRead _ => readEffect 0x5D0044
  | .superPeriodStart => ⟨[Reg.PWM_ACT_PERIOD_PERIOD 0, Reg.AUXPWM_ACT_PERIOD_PERIOD 0], [.tb, .vd]⟩
  | .internalLinkHandshake _ => ⟨[Reg.VD_STATUS_DIEA_LINK, Reg.VCH_STATE_STATE 0, Reg.LS_STATUS_SW_LINK, Reg.RES_STATE_STATE], [.vd]⟩
  | .bstOvEnd _ => ⟨[Reg.BST_STAT_BST_OFF 0], []⟩
  | .vbatUndervoltageRecovery => Effect.raised.and ⟨[Reg.MAP_EVENT_TILE_MISS, Reg.MAP_COUNT_A_PAINT_LOST, Reg.MAP_COUNT_B_PAINT_UNSURE, Reg.TILE_DIRTY_BAND 0, Reg.LS_STATUS_SW_LINK,
    Reg.LS_STATE_OUT_ON 0, Reg.REC_EVENT_FULL, Reg.PMC_OVF_LO_OVF, Reg.PMC_OVF_HI_OVF, Reg.PMC_LO_COUNT 0, Reg.PMC_HI_COUNT 0], [.free, .mp,
    .ls]⟩
  | .lsThermalRestart _ _ => Effect.raised.and ⟨[Reg.MAP_EVENT_TILE_MISS, Reg.MAP_COUNT_A_PAINT_LOST, Reg.MAP_COUNT_B_PAINT_UNSURE, Reg.TILE_DIRTY_BAND 0, Reg.LS_STATE_OUT_ON 0,
    Reg.LS_TEMP_TJ 0, Reg.LS_CNT_RETRY_CNT 0, Reg.REC_EVENT_FULL, Reg.PMC_OVF_LO_OVF, Reg.PMC_OVF_HI_OVF, Reg.PMC_LO_COUNT 0,
    Reg.PMC_HI_COUNT 0], [.free, .mp, .ls]⟩
  | .outputOvertempRestart _ => ⟨[], [.fd]⟩
  | .vfieldUvRecovery => ⟨[], [.fd]⟩
  | .shadowWriteDone _ _ => ⟨[Reg.LS_STATUS_SW_LINK, Reg.FIO_STATUS_BAR_OK], [.ls, .fd]⟩
  | .masterReferenceDue _ => ⟨[], [.bp]⟩
  | .stateBankSaveDone _ => Effect.recorded.and ⟨[Reg.MAP_EVENT_TILE_MISS, Reg.MAP_COUNT_A_PAINT_LOST, Reg.MAP_COUNT_B_PAINT_UNSURE, Reg.TILE_DIRTY_BAND 0, Reg.VD_CTRL_GATE_COMP_EN,
    Reg.VD_STATUS_DIEA_LINK, Reg.VD_EVENT_CH_FAULT, Reg.VD_GATECOMP_LAT_A, Reg.DBG_CFG_HALT_OFF, Reg.SP_PERIOD_PERIOD, Reg.LOADALL_UNITS 0,
    Reg.LOADALL_AUX_AUX, Reg.BST_CTRL_BST_EN 0, Reg.BST_SET_SET 0, Reg.BST_SLEW_SLEW 0, Reg.BST_REF_REF 0, Reg.BST_MEAS_MEAS 0,
    Reg.BST_STAT_BST_OFF 0, Reg.TRIP_CFG_EN 0, Reg.TRIP_MASK_CH 0 0, Reg.PF_CFG_NPH 0, Reg.PF_PULL_I_PULL 0, Reg.PF_MOVE_I_MOVE 0,
    Reg.PF_OC_OC_LIM 0, Reg.PF_RISE_RISE_MIN 0, Reg.PF_WIN_O_WIN_PRE 0, Reg.PF_WIN_C_WIN_PRE 0, Reg.PF_KINK_KINK_THR 0, Reg.PF_DIP_DIP_THR 0,
    Reg.PF_DW_DW_LIM 0, Reg.PH_CFG_KIND 0 0, Reg.PH_ITGT_ITGT 0 0, Reg.PH_BAND_BAND 0 0, Reg.PH_TMAX_TMAX 0 0, Reg.VCH_CFG_OUTLET 0,
    Reg.VCH_STATE_STATE 0, Reg.VCH_FAULT_OPEN_COIL 0, Reg.VCH_CLEAR_UNLATCH 0, Reg.VCH_IMEAS_I 0, Reg.VCH_VMEAS_V 0, Reg.VCH_HEAT_RATIO 0,
    Reg.VCH_DW_DW_WIN 0, Reg.VCH_SEAL_CODE 0, Reg.VCH_KPEAK_PEAK 0, Reg.VCH_CNT_UNSEATED_N 0, Reg.PWM_CTRL_LEDGER 0, Reg.PWM_CHOP_CHOP_PER 0,
    Reg.PWM_PERIOD_PERIOD 0, Reg.PWM_DUTY_DUTY 0, Reg.PWM_PHASE_PHASE 0, Reg.PWM_ACT_DUTY_DUTY 0, Reg.PWM_ACT_PERIOD_PERIOD 0,
    Reg.AUXPWM_CTRL_LEDGER 0, Reg.AUXPWM_CHOP_CHOP_PER 0, Reg.AUXPWM_PERIOD_PERIOD 0, Reg.AUXPWM_DUTY_DUTY 0, Reg.AUXPWM_PHASE_PHASE 0,
    Reg.AUXPWM_ACT_DUTY_DUTY 0, Reg.AUXPWM_ACT_PERIOD_PERIOD 0, Reg.LS_STATUS_SW_LINK, Reg.LS_EVENT_TSD, Reg.LS_STATE_OUT_ON 0,
    Reg.BP_STATUS_STATE 0, Reg.PWR_STATUS_READY, Reg.PWR_EVENT_START_FAIL, Reg.PWR_AOLOG_PG_MISSING, Reg.SEQ_A_SEQ, Reg.SEQ_B_SEQ,
    Reg.SEQ_LD_SEQ, Reg.PWR_TIMES_READY_T, Reg.CV_STATUS_COUNT, Reg.CV_DROPPED_DROPPED], [.free, .tb, .gn, .mp, .vd, .ls, .fd, .im, .pw]⟩
  | .loadComplete _ => ⟨[Reg.IMG_STATUS_STAGE], [.im]⟩
  | .heldSafeReloadDone _ _ => Effect.activated.and ⟨[Reg.IMG_ERR_CODE, Reg.IMG_ERROFS_OFFSET, Reg.IMG_BOOT_PREF, Reg.IMG_KEY_PROGRAMMED, Reg.ND_DIAG_OUT 0 0, Reg.ND_DIAGV_VALUE 0 0,
    Reg.LS_STATE_OUT_ON 0, Reg.FIO_EVENT_BAR_LOST, Reg.FIO_COS_COS 0, Reg.FO_SET_ON 0, Reg.FO_FAULT_OVERLOAD 0, Reg.BP_EVENT_BUS_OFF 0,
    Reg.BP_CNT_E_NOMATCH_N 0, Reg.BP_CNT_F_LOST_N 0, Reg.RES_STATE_STATE, Reg.RES_EVENT_TAKEOVER, Reg.RES_HSCAUSE_CAUSE,
    Reg.RES_CNT_A_TAKEOVER_N, Reg.PWR_STATUS_READY], [.gn]⟩

end Sys2Proof.Machine
end

