-- ==== Sys2Proof/Certificates/Slice0/Obligations.lean ====
section
/-! DEFINITION. The statements for the provers: each says what the rules named in its docstring say of the commands it covers. -/

section

open Sys2Proof Sys2Proof.Machine

/-- One step takes the command at the front of the queue: it is `exec` of that command on the state with the queue's rest. -/
def Obligations.StepRunsFront : Prop :=
  ∀ (c : Instr) (rest : List Instr) (s : State), s.pending = c :: rest → step s = exec c { s with pending := rest }

/-- R42 and R40, on an empty queue. That an idle step is one 1 ns timebase cycle is the model's choice (log 1): FT moves as R42 has it
while the core die is up and FT counts, and otherwise nothing changes. -/
def Obligations.IdleStep : Prop :=
  ∀ s : State, s.pending = [] → ∃ t, step s = .next t ∧ t.pending = [] ∧ (s.pw.coreUp = false ∨ s.ftCounts = false → t = s) ∧
    (s.pw.coreUp = true → s.ftCounts = true → t.ft = s.ftStep.ft ∧ t.tb = s.ftStep.tb ∧ t.mp = s.mp ∧ t.lg = s.lg)

/-- R444, with the words of Tables 18.2 to 18.14: on every variant, each register of the map reads after reset as its table's word, the
registers of absent units as zero (R446); but for the identity words (per part) and the tables of MSI-X (per PCI Express). After reset
every table of the part is in canonical form and the queue is empty. -/
def Obligations.ResetState : Prop :=
  State.reset.memWf = true ∧ State.reset.pending = [] ∧ State.reset.variant = .f1024 ∧
  ∀ (v : Variant) (a : Nat) (r : RegRow), rowOf a = some r → ¬(0x400000 ≤ a ∧ a < 0x40000C) → ¬(0x5BA000 ≤ a ∧ a < 0x5BE000) →
    ({ variant := v } : State).reg a = if absent v a = true then 0
      else BitVec.ofNat 32 (((variantTable v).lookup a).getD ((resetTable.lookup r.base).getD 0))

/-- R42: one timebase cycle, with `a` the accumulator after the trim is added; and what the rule's code comes to over `n` cycles: the
accumulator stays inside one tick, and FT has gained 8 ticks a cycle and the trim's 1 ppb share of them. -/
def Obligations.FtAdvance : Prop :=
  (∀ s : State, let a := s.tb.acc + 8 * s.sfld Reg.DISC_TRIM_TRIM
    s.ftStep.ft = s.ft + (if 1000000000 ≤ a then 9 else if a ≤ -1000000000 then 7 else 8) ∧
    s.ftStep.tb.acc = (if 1000000000 ≤ a then a - 1000000000 else if a ≤ -1000000000 then a + 1000000000 else a)) ∧
  (∀ (s : State) (n : Nat), s.tb.acc.natAbs < 1000000000 → ∃ ticks : Nat,
    (s.ftSteps n).ft = s.ft + BitVec.ofNat 64 ticks ∧ (s.ftSteps n).tb.acc.natAbs < 1000000000 ∧
    1000000000 * (ticks : Int) + (s.ftSteps n).tb.acc =
      n * (8 * 1000000000 + 8 * s.sfld Reg.DISC_TRIM_TRIM) + s.tb.acc)

/-- Chapter 2, Table 2.2 (R39), with Table 2.1's REFOUT and R40's unbroken field time: what each timebase trigger does in the state it
acts on, while the core die is up. Covers REFIN_LOST, REFIN_ACTIVE, PLL_LOCK, REFIN_START_TIMEOUT, HOLDOVER_TIMEOUT, DRIFT_COMPLIANCE,
DRIFT_ACCEPT and AUTO_RETURN_SET. Conventions of the model it rests on: log 1, 3, 20 and 21. -/
def Obligations.TimebaseTransitions : Prop :=
  ∀ s : State, s.pw.coreUp = true →
    (s.tbState = tbLocked ∨ s.tbState = tbDrift → ∃ t, exec .refinLost s = .next t ∧ t.tbState = tbHoldover ∧
      t.on Reg.TB_STATUS_REFIN_ACT = false ∧ t.on Reg.TB_STATUS_PLL_LOCK = false ∧ t.on Reg.TB_EVENT_REFIN_LOST = true ∧
      t.on Reg.TB_EVENT_HOLDOVER = true ∧ t.fld Reg.TB_STATUS_REFOUT_ON = s.fld Reg.TB_STATUS_REFOUT_ON ∧ t.ft = s.ft) ∧
    (∀ edges hz x, s.tbState = tbHoldover ∨ s.tbState = tbIosc ∧ s.on Reg.TB_CTRL_AUTO_RETURN = true → 64 ≤ edges → 24750000 ≤ hz →
      hz ≤ 25250000 → s.tb.refinSince = some x → 8000000 ≤ tdiff s.ft x → ∃ t, exec (.refinActive edges hz) s = .next t ∧
      t.tbState = tbLocked ∧ t.on Reg.TB_STATUS_REFIN_ACT = true ∧ t.on Reg.TB_STATUS_PLL_LOCK = true ∧
      t.on Reg.TB_STATUS_REFOUT_ON = false ∧ t.on Reg.TB_EVENT_RECOVERED = true ∧ t.ft = s.ft) ∧
    (∀ edges hz, s.tbState = tbHoldover → 64 ≤ edges → 24750000 ≤ hz → hz ≤ 25250000 → s.tb.refinSince = none →
      ∃ t, exec (.refinActive edges hz) s = .next t ∧ t.tbState = tbHoldover ∧ t.on Reg.TB_STATUS_REFIN_ACT = true) ∧
    (∀ edges hz, edges < 64 ∨ hz < 24750000 ∨ 25250000 < hz → exec (.refinActive edges hz) s = .next s) ∧
    (∀ edges hz, s.tbState = tbIosc ∧ s.on Reg.TB_CTRL_AUTO_RETURN = false → 64 ≤ edges → 24750000 ≤ hz → hz ≤ 25250000 →
      ∃ t, exec (.refinActive edges hz) s = .next t ∧ t.tbState = tbIosc ∧ t.on Reg.TB_STATUS_REFIN_ACT = true) ∧
    (s.tbState = tbStarting → ∃ t, exec .pllLock s = .next t ∧ t.ft = s.ft ∧ t.on Reg.TB_STATUS_PLL_LOCK = true ∧
      t.tbState = if s.on Reg.TB_STATUS_REFIN_ACT = true then tbLocked else tbIosc) ∧
    (s.tbState = tbStarting → s.on Reg.TB_STATUS_REFIN_ACT = false → ∃ t, exec .refinStartTimeout s = .next t ∧ t.tbState = tbIosc ∧
      t.on Reg.TB_EVENT_DEGRADED = true ∧ t.on Reg.TB_STATUS_REFOUT_ON = false) ∧
    (s.tbState = tbHoldover → s.on Reg.TB_STATUS_REFIN_ACT = false → ∃ t, exec .holdoverTimeout s = .next t ∧ t.tbState = tbIosc ∧
      t.on Reg.TB_EVENT_DEGRADED = true ∧ t.on Reg.TB_STATUS_REFOUT_ON = false ∧ t.on Reg.TB_STATUS_MEAS_VALID = false ∧
      t.fld Reg.TB_STATUS_DISC_ACT = 0 ∧ t.fld Reg.DISC_TRIM_TRIM = s.fld Reg.DISC_TRIM_TRIM ∧ t.ft = s.ft) ∧
    (s.tbState = tbDrift → 60 ≤ s.tb.comply → ∃ t, exec .driftCompliance s = .next t ∧ t.tbState = tbLocked ∧
      t.on Reg.TB_EVENT_RECOVERED = true ∧ t.fld Reg.DISC_TRIM_TRIM = s.fld Reg.DISC_TRIM_TRIM) ∧
    (∀ p, s.Serves p → s.tbState = tbDrift → s.fld Reg.TB_CTRL_DISC_SRC ≠ 3 →
      (s.fld Reg.TB_CTRL_DISC_SRC = 1 → s.variant ≠ .l1024) → ∃ t, exec (.driftAccept p) s = .next t ∧ t.tbState = tbLocked ∧
      t.fld Reg.DISC_TRIM_TRIM = s.fld Reg.DISC_TRIM_TRIM ∧ t.fld Reg.TB_CTRL_DISC_SRC = s.fld Reg.TB_CTRL_DISC_SRC) ∧
    (∀ p, s.Serves p → s.tbState = tbIosc → s.on Reg.TB_CTRL_AUTO_RETURN = false → s.on Reg.TB_STATUS_REFIN_ACT = true →
      s.fld Reg.TB_CTRL_DISC_SRC ≠ 3 → (s.fld Reg.TB_CTRL_DISC_SRC = 1 → s.variant ≠ .l1024) →
      ∃ t, exec (.autoReturnSet p) s = .next t ∧ t.on Reg.TB_CTRL_AUTO_RETURN = true ∧ t.tbState = tbLocked)

/-- R43's trim, R45's staging, R46, R47, R51, R54, R55: what the other timebase commands do. Covers DISCIPLINE_UPDATE, GNSS_OFS_WRITE,
CAL_SET, FRM_CFG_WRITE, SYNCIN_PULSE, SYNC_LOST and REFOUT_REENABLE. Conventions of the model it rests on: log 1, 3, 20 and 21. -/
def Obligations.TimebaseCommands : Prop :=
  ∀ s : State, s.pw.coreUp = true →
    (∀ yGnss ySync g, s.tbState = tbLocked → s.on Reg.TB_CTRL_FOLLOWER = false → s.fld Reg.TB_CTRL_DISC_SRC = 1 → 4 ≤ s.lockedChans →
      ∃ t, exec (.disciplineUpdate yGnss ySync g) s = .next t ∧ t.fld Reg.TB_STATUS_DISC_ACT = 1 ∧
        t.sfld Reg.DISC_TRIM_TRIM = clampI (-5000) 5000
          (s.sfld Reg.DISC_TRIM_TRIM - yGnss - (if s.tb.ofsWritten then tdiff (s.secondEnd + s.tb.ofs) g else 0).tdiv 80)) ∧
    (∀ yGnss ySync g, s.tbState = tbLocked → s.on Reg.TB_CTRL_FOLLOWER = false → s.fld Reg.TB_CTRL_DISC_SRC = 0 →
      ∃ t, exec (.disciplineUpdate yGnss ySync g) s = .next t ∧ t.fld Reg.TB_STATUS_DISC_ACT = 0 ∧
        t.fld Reg.DISC_TRIM_TRIM = s.fld Reg.DISC_TRIM_TRIM) ∧
    (∀ p v, s.Serves p → ∃ t, exec (.gnssOfsWrite p v) s = .next t ∧ t.reg 0x410014 = v ∧ t.ft = s.ft ∧
      (s.tb.framesOn = false → t.tb.ofs = v ++ s.reg 0x410010 ∧ t.tb.ofsStaged = none) ∧
      (s.tb.framesOn = true → t.tb.ofs = s.tb.ofs ∧ t.tb.ofsStaged = some (v ++ s.reg 0x410010))) ∧
    (∀ p v, s.Serves p → s.on Reg.TB_CTRL_CAL_SRC = true → ∃ t, exec (.calSet p v) s = .next t ∧ t.on Reg.TB_STATUS_CAL_VALID = true ∧
      t.calNow.1 = (s.reg 0x410024).toNat + 2 ^ 32 * (v.toNat % 256)) ∧
    (∀ p v, s.Serves p → s.on Reg.TB_CTRL_CAL_SRC = false → ∃ t, exec (.calSet p v) s = .next t ∧ t.calNow.1 = s.calNow.1 ∧
      t.fld Reg.TB_STATUS_CAL_VALID = s.fld Reg.TB_STATUS_CAL_VALID) ∧
    (∀ p v, s.Serves p → ∃ t, exec (.frmCfgWrite p v) s = .next t ∧ t.tb.period = s.tb.period ∧ t.tb.horizon = s.tb.horizon ∧
      if 10 ≤ v.toNat % 128 ∧ v.toNat % 128 ≤ 80 ∧ 50 ≤ v.toNat / 128 % 4096 ∧ v.toNat / 128 % 4096 ≤ 4000 then
        t.fld Reg.FRM_CFG_PERIOD = v.toNat % 128 ∧ t.fld Reg.FRM_CFG_HORIZON = v.toNat / 128 % 4096
      else t.reg 0x410030 = s.reg 0x410030 ∧ t.on Reg.TB_EVENT_CFG_ERR = true) ∧
    (∀ x, s.on Reg.TB_CTRL_FOLLOWER = true → s.tb.framesOn = true → 0 < s.tb.period → s.tb.aligned = true →
      (s.syncError (x - BitVec.ofInt 64 (s.sfld Reg.SYNCIN_COMP_COMP))).natAbs ≤ 40000 → ∃ t, exec (.syncinPulse x) s = .next t ∧
        t.sfld Reg.SYNCIN_ERR_ERR = s.syncError (x - BitVec.ofInt 64 (s.sfld Reg.SYNCIN_COMP_COMP)) ∧ t.tb.missed = 0 ∧ t.ft = s.ft ∧
        t.on Reg.TB_STATUS_SYNC_LOCK = true) ∧
    (∀ x, s.on Reg.TB_CTRL_FOLLOWER = true → s.tb.framesOn = true → 0 < s.tb.period → s.tb.aligned = false → s.tb.syncLost = false →
      (∃ e ∈ s.ledger, e.2.st = eCommitted ∨ e.2.st = eFired) → ∃ t, exec (.syncinPulse x) s = .next t ∧ t.ft = s.ft ∧
        t.on Reg.TB_EVENT_SYNC_UNALIGNED = true ∧ t.tb = s.tb ∧ t.lg = s.lg) ∧
    (s.on Reg.TB_CTRL_FOLLOWER = true → s.tb.aligned = true → ∃ t, exec .syncLost s = .next t ∧ t.on Reg.TB_EVENT_SYNC_LOST = true ∧
      t.on Reg.TB_STATUS_SYNC_LOCK = false ∧ t.tb.aligned = false ∧ t.fld Reg.DISC_TRIM_TRIM = s.fld Reg.DISC_TRIM_TRIM) ∧
    (s.on Reg.TB_CTRL_REFOUT_EN = true → s.on Reg.TB_STATUS_PLL_LOCK = true → s.tbState = tbLocked ∨ s.tbState = tbDrift →
      ∃ t, exec .refoutReenable s = .next t ∧ t.on Reg.TB_STATUS_REFOUT_ON = true)

/-- Chapter 3: what the sample-port and channel commands do (R63, R73's Table 3.2). Covers AS_TRAIN, AS_PORT_LOST, CH_START_SEARCH,
CH_START_AIDED, CH_STOP, PULLIN_TIMEOUT, CN0_LOW_TIMEOUT and LOST_TIMEOUT. Conventions of the model it rests on: log 24 to 26. -/
def Obligations.ChannelTransitions : Prop :=
  ∀ s : State, s.pw.coreUp = true →
    (∀ p n v, s.Serves p → n < s.variant.asPorts → v.getLsbD 0 = true → v.getLsbD 5 = true → ∃ t, exec (.asTrain p n v) s = .next t ∧
      t.on (Reg.AS_STAT_ALIGNED n) = true ∧ t.on (Reg.AS_STAT_CLK_PRESENT n) = true ∧
      t.fld (Reg.AS_CTRL_STREAM_EN n) = v.toNat / 2 % 16) ∧
    (∀ n, n < s.variant.asPorts → s.on (Reg.AS_STAT_ALIGNED n) = true → ∃ t, exec (.asPortLost n) s = .next t ∧
      t.on (Reg.AS_STAT_ALIGNED n) = false ∧ t.on (Reg.AS_STAT_CLK_PRESENT n) = false ∧ t.on (Reg.AS_STAT_PORT_LOST n) = true ∧
      ∀ c, c < 1024 → s.fld (Reg.GCH_CFG_PORT c) = n → s.fld (Reg.GCH_STATE_STATE c) ≠ chIdle →
        t.fld (Reg.GCH_STATE_STATE c) = chIdle ∧ t.on (Reg.GCH_EVENT_PORT_LOST c) = true) ∧
    (∀ p n, s.Serves p → n < s.variant.channels → s.on Reg.BB_STATUS_BB_ON = true → s.fld (Reg.GCH_STATE_STATE n) = chIdle → s.bankWorks n = true →
      s.fld (Reg.GCH_CFG_SIG n) ≠ 4 → s.carrierOk (s.reg (0x420004 + 256 * n)).toNat = true → ∃ t, exec (.chStartSearch p n) s = .next t ∧
        t.fld (Reg.GCH_STATE_STATE n) = chAcquire) ∧
    (∀ p n, s.Serves p → n < s.variant.channels → s.on Reg.BB_STATUS_BB_ON = true → s.fld (Reg.GCH_STATE_STATE n) = chIdle → s.bankWorks n = true →
      s.carrierOk (s.reg (0x420004 + 256 * n)).toNat = false → ∃ t, exec (.chStartSearch p n) s = .next t ∧
        t.fld (Reg.GCH_STATE_STATE n) = chIdle ∧ t.on (Reg.GCH_EVENT_CFG_ERR n) = true) ∧
    (∀ p n, s.Serves p → n < s.variant.channels → s.on Reg.BB_STATUS_BB_ON = true → s.fld (Reg.GCH_STATE_STATE n) = chIdle → s.bankWorks n = true →
      s.fld (Reg.GCH_CFG_SIG n) ≠ 4 → s.carrierOk (s.reg (0x420004 + 256 * n)).toNat = true → ∃ t, exec (.chStartAided p n) s = .next t ∧
        t.fld (Reg.GCH_STATE_STATE n) = chPullin) ∧
    (∀ p n, s.Serves p → n < s.variant.channels → s.on Reg.BB_STATUS_BB_ON = true → s.fld (Reg.GCH_STATE_STATE n) = chIdle →
      s.bankWorks n = true → s.fld (Reg.GCH_CFG_SIG n) = 4 → s.carrierOk (s.reg (0x420004 + 256 * n)).toNat = true →
      ∃ t, exec (.chStartSearch p n) s = .next t ∧ t.fld (Reg.GCH_STATE_STATE n) = if (s.aidFor n).isSome then chPullin else chIdle) ∧
    (∀ p n, s.Serves p → n < s.variant.channels → s.bankWorks n = false → s.fld (Reg.GCH_STATE_STATE n) = chIdle →
      ∃ t, exec (.chStartSearch p n) s = .next t ∧ t.fld (Reg.GCH_STATE_STATE n) = chIdle) ∧
    (∀ p n, s.Serves p → n < s.variant.channels → ∃ t, exec (.chStop p n) s = .next t ∧ t.fld (Reg.GCH_STATE_STATE n) = chIdle) ∧
    (∀ n, n < s.variant.channels → s.fld (Reg.GCH_STATE_STATE n) = chPullin → s.on (Reg.GCH_STATE_PLL_LOCK n) = false →
      ∃ t, exec (.pullinTimeout n) s = .next t ∧ t.fld (Reg.GCH_STATE_STATE n) = chAcquire) ∧
    (∀ n, n < s.variant.channels → s.fld (Reg.GCH_STATE_STATE n) = chPullin ∨ s.fld (Reg.GCH_STATE_STATE n) = chTrack →
      s.fld (Reg.GCH_STATE_CN0 n) < s.fld (Reg.GCH_ACQ_CN0_MIN n) → ∃ t, exec (.cn0LowTimeout n) s = .next t ∧
        t.fld (Reg.GCH_STATE_STATE n) = chLost ∧ t.on (Reg.GCH_STATE_PLL_LOCK n) = false) ∧
    (∀ n, n < s.variant.channels → s.fld (Reg.GCH_STATE_STATE n) = chLost → ∃ t, exec (.lostTimeout n) s = .next t ∧
      t.fld (Reg.GCH_STATE_STATE n) = chIdle ∧ t.on (Reg.GCH_EVENT_LOST n) = true)

/-- Chapter 3: integration periods (R71, R80), bank faults (R79), code RAM (R66), aiding records and the retained area (R82). Covers
INTEGRATION_PERIOD_END, BANK_FAULT, CODE_DATA_ACCESS, AID_DATA_ACCESS and GNSS_RETAINED_SAVE. Conventions of the model it rests on: log
24 to 26. -/
def Obligations.CorrelatorCommands : Prop :=
  ∀ s : State, s.pw.coreUp = true →
    (∀ n sums sync neg, n < s.variant.channels → s.on Reg.BB_STATUS_BB_ON = true → s.fld (Reg.GCH_STATE_STATE n) ≠ chIdle →
      s.on (Reg.AS_STAT_ALIGNED (s.fld (Reg.GCH_CFG_PORT n))) = true → (neg = true → s.strips n = false) →
      ∃ t, exec (.integrationPeriodEnd n sums sync neg) s = .next t ∧
        (∀ j, j < 25 →
          t.sfld (Reg.GCH_TAP_I_SUM n j) = (tapSum (s.fld (Reg.GCH_CFG_ACC_SHIFT n)) (sums.getD j ⟨0, 0⟩).i).1 ∧
          t.sfld (Reg.GCH_TAP_Q_SUM n j) = (tapSum (s.fld (Reg.GCH_CFG_ACC_SHIFT n)) (sums.getD j ⟨0, 0⟩).q).1) ∧
        (s.fld Reg.RES_STATE_STATE = 1 → t.on (Reg.GCH_STATE_COAST n) = true ∧
          t.fld (Reg.GCH_STATE_STATE n) = s.fld (Reg.GCH_STATE_STATE n))) ∧
    (∀ n sums sync neg, s.on (Reg.AS_STAT_ALIGNED (s.fld (Reg.GCH_CFG_PORT n))) = false → exec (.integrationPeriodEnd n sums sync neg) s = .next s) ∧
    (∀ b, b * 64 < s.variant.channels → s.fbit Reg.BANK_STAT_FENCED b = false → ∃ t, exec (.bankFault b) s = .next t ∧
      t.fbit Reg.BANK_STAT_FENCED b = true ∧ t.on Reg.BANK_STAT_BANK_EVENT = true ∧
      (s.gn.spareOut = false → t.on Reg.BANK_STAT_SPARE_USED = true ∧
        (s.on Reg.BANK_STAT_SPARE_USED = false → t.fld Reg.BANK_STAT_SPARE_FOR = b)) ∧
      ∀ n, n / 64 = b → s.fld (Reg.GCH_STATE_STATE n) ≠ chIdle →
        if s.on Reg.BANK_STAT_SPARE_USED ∨ s.gn.spareOut then t.fld (Reg.GCH_STATE_STATE n) = chIdle ∧ t.on (Reg.GCH_EVENT_BANK_FAULT n) = true
        else t.fld (Reg.GCH_STATE_STATE n) = chPullin ∧ t.on (Reg.GCH_EVENT_MOVED n) = true ∧ (t.chan n).moved = true ∧
          t.fld (Reg.GCH_STATE_PLL_LOCK n) = s.fld (Reg.GCH_STATE_PLL_LOCK n)) ∧
    (s.variant ≠ .l1024 → s.gn.spareOut = false → ∃ t, exec (.bankFault 16) s = .next t ∧ t.gn.spareOut = true ∧
      t.on Reg.BANK_STAT_BANK_EVENT = true ∧ ∀ n, n < s.variant.channels → s.on Reg.BANK_STAT_SPARE_USED = true →
        n / 64 = s.fld Reg.BANK_STAT_SPARE_FOR → s.fld (Reg.GCH_STATE_STATE n) ≠ chIdle →
          t.fld (Reg.GCH_STATE_STATE n) = chIdle ∧ t.on (Reg.GCH_EVENT_BANK_FAULT n) = true) ∧
    (∀ p v, s.Serves p → s.variant ≠ .l1024 → s.ramCodeFree = true → ∃ t, exec (.codeDataAccess p (some v)) s = .next t ∧
      t.gn.codeRam = sset (fun _ => 0) s.gn.codeRam (s.fld Reg.CODE_ADDR_WORD) v ∧
      t.fld Reg.CODE_ADDR_WORD = (s.fld Reg.CODE_ADDR_WORD + 1) % 2 ^ 14) ∧
    (∀ p, s.Serves p → s.variant ≠ .l1024 → ∃ t, exec (.codeDataAccess p none) s = .next t ∧ t.gn.codeRam = s.gn.codeRam ∧
      t.answer.data = [sget (fun _ => 0) s.gn.codeRam (s.fld Reg.CODE_ADDR_WORD)] ∧
      t.fld Reg.CODE_ADDR_WORD = (s.fld Reg.CODE_ADDR_WORD + 1) % 2 ^ 14) ∧
    (∀ p v, s.Serves p → s.variant ≠ .l1024 → ∃ t, exec (.aidDataAccess p (some v)) s = .next t ∧
      t.gn.retained = sset (fun _ => 0) s.gn.retained (s.fld Reg.AID_ADDR_WORD) v ∧
      t.fld Reg.AID_ADDR_WORD = (s.fld Reg.AID_ADDR_WORD + 1) % 2 ^ 14) ∧
    (∀ p, s.Serves p → s.variant ≠ .l1024 → ∃ t, exec (.aidDataAccess p none) s = .next t ∧
      t.answer.data = [sget (fun _ => 0) s.gn.retained (s.fld Reg.AID_ADDR_WORD)] ∧ t.gn.retained = s.gn.retained) ∧
    (s.fld Reg.BB_STATUS_TRACKING < 4 → ∃ t, exec .gnssRetainedSave s = .next t ∧ t = s) ∧
    (4 ≤ s.fld Reg.BB_STATUS_TRACKING → ∃ t, exec .gnssRetainedSave s = .next t ∧
      (∀ i, i < s.po.pos.length → i < 16 →
        sget (fun _ => 0) t.gn.retained (12288 + i) = BitVec.ofInt 32 (s.po.pos.getD i 0)) ∧
      ∀ k, k < 12288 → sget (fun _ => 0) t.gn.retained k = sget (fun _ => 0) s.gn.retained k)

/-- R76, R80: the records of a 1 ms measurement epoch. Covers MEASUREMENT_EPOCH. The record of the one channel in TRACK stands in the
stream ring of the GNSS consumer; in a takeover one of every channel in TRACK that is due is kept; an epoch happens once. Conventions
of the model it rests on: log 24 to 26. -/
def Obligations.MeasurementEpochRecords : Prop :=
  ∀ s : State, s.pw.coreUp = true →
    (∀ n c k, s.on Reg.BB_STATUS_BB_ON = true → s.gn.epoch ≠ some s.measTime → s.holdsBack = false →
      s.chansWhere (fun w => w % 8 == chTrack) = [n] → s.measTime.toNat % (s.fld (Reg.GCH_CFG_INT_MS n) * 8000000) = 0 →
      s.boundContexts.filter (fun c => s.on (Reg.CTX_PERM_GNSS_CONSUMER c)) = [c] → s.streamsOf c 1 = [k] →
      s.fld (Reg.CTX_CFG_PORT c) < 2 → s.hp.dmaOff.contains (s.fld (Reg.CTX_CFG_PORT c)) = false → s.on (Reg.CW_STR_CFG_IRQ c k) = false →
      (s.fld (Reg.CW_STR_WR_INDEX c k) + 2 ^ 17 - s.fld (Reg.CW_STR_RD_INDEX c k)) % 2 ^ 17 < 2 ^ s.fld (Reg.CW_STR_CFG_SIZE c k) →
      ∃ t, exec (.measurementEpoch { cpv := [], baselines := [], pwr := [], leap := none, symbols := [] }) s = .next t ∧
        t.fld (Reg.CW_STR_WR_INDEX c k) = (s.fld (Reg.CW_STR_WR_INDEX c k) + 1) % 2 ^ 17 ∧
        (t.chan n).slip = false ∧
        ∀ i, i < 32 → sget (fun _ => 0) t.hp.hostMem (s.fld (Reg.CTX_CFG_PORT c) * 2 ^ 64 + (s.reg64 (0x40 + 0x1000 * c + 0x20 * k) +
          s.fld (Reg.CW_STR_WR_INDEX c k) % 2 ^ s.fld (Reg.CW_STR_CFG_SIZE c k) * 32) + i) = (s.obsRecord s.measTime n).getD i 0) ∧
    (s.on Reg.BB_STATUS_BB_ON = true → s.gn.epoch ≠ some s.measTime → s.holdsBack = true →
      ∃ t, exec (.measurementEpoch { cpv := [], baselines := [], pwr := [], leap := none, symbols := [] }) s = .next t ∧
        t.gn.epoch = some s.measTime ∧
        t.gn.heldObs = s.gn.heldObs ++ ((s.chansWhere (fun w => w % 8 == chTrack)).filter
          (fun n => decide (s.measTime.toNat % (s.fld (Reg.GCH_CFG_INT_MS n) * 8000000) = 0))).map (s.obsRecord s.measTime)) ∧
    (∀ m, s.on Reg.BB_STATUS_BB_ON = false ∨ s.gn.epoch = some s.measTime → exec (.measurementEpoch m) s = .next s) ∧
    (∀ x, s.on Reg.BB_STATUS_BB_ON = true → s.gn.epoch ≠ some s.measTime → s.on (Reg.AS_STAT_ALIGNED x.port) = true →
      ∃ t, exec (.measurementEpoch { cpv := [], baselines := [], pwr := [x], leap := none, symbols := [] }) s = .next t ∧
      t.fld (Reg.AS_PWR_RMS x.port x.stream) = x.rms % 1024 ∧ t.fld (Reg.AS_PWR_CLIP x.port x.stream) = x.clip % 1024)

/-- R103: the internal radius over one pose epoch in which no fix waits and none was missed, by the state the epoch selects. Covers
POSE_EPOCH. Conventions of the model it rests on: log 27 and 28. -/
def Obligations.PoseEpochGrowth : Prop :=
  ∀ s : State, s.pw.coreUp = true → s.ftCounts = true → s.poState ≠ poOff → s.fld Reg.RES_STATE_STATE ≠ 1 → s.fld Reg.RES_STATE_STATE ≠ 3 →
    s.po.pending = [] → s.po.coast = false → s.po.hist.head?.map (·.te) ≠ some s.epochTime →
    ∃ t, exec .poseEpoch s = .next t ∧ t.po.hist.head?.map (·.te) = some s.epochTime ∧
      (t.poState = poCpv → t.po.r = wrapI 64 (s.po.r + s.fld Reg.POSE_GROW_A_CPV_GROW * 50000) ∧ t.po.j = 0) ∧
      (t.poState = poSpd → t.po.r = wrapI 64 (s.po.r + s.speed.natAbs * s.fld Reg.POSE_GROW_B_SPD_GROW * 5000) ∧ t.po.j = 0) ∧
      (t.poState = poImu → t.po.r = wrapI 64 (s.po.r + s.fld Reg.POSE_GROW_A_ACC_GROW * (s.po.j + 1) * 25) ∧ t.po.j = s.po.j + 1) ∧
      (t.poState = poWait ∨ t.poState = poInvalid → t.po.r = 0xFFFFF * 100000000000 ∧ t.po.j = 0)

/-- Chapter 4: what the other pose commands do (R90, R91, R92, R97, R99, R100, R106, R108, R109). Covers POSE_EN_WRITE, FIX_GO,
FIX_LOST, IMU_MAX_EXPIRY, IMU_TRANSFER, IMU_DISAGREE, SPEED_TIMEOUT, SEG_HOST_UNC_WRITE and DEFL_HOLD_EXPIRY. Conventions of the model
it rests on: log 27 and 28. -/
def Obligations.PoseCommands : Prop :=
  ∀ s : State, s.pw.coreUp = true →
    (∀ p v, s.Serves p → v.getLsbD 0 = true → v.toNat / 2 % 2048 ≤ 2000 → s.poState = poOff → s.on Reg.IMG_STATUS_ACTIVE = true →
      ∃ t, exec (.poseEnWrite p v) s = .next t ∧ t.poState = poWait ∧ t.on Reg.POSE_EVENT_STATE_CHG = true ∧ t.po.hist = [] ∧
        t.fld Reg.POSE_CTRL_POSE_DECIM = v.toNat / 2 % 2048) ∧
    (∀ p v, s.Serves p → v.getLsbD 0 = false → v.toNat / 2 % 2048 ≤ 2000 → ∃ t, exec (.poseEnWrite p v) s = .next t ∧
      t.poState = poOff ∧ t.on Reg.POSE_CTRL_POSE_EN = false) ∧
    (∀ p v, s.Serves p → 2000 < v.toNat / 2 % 2048 → ∃ t, exec (.poseEnWrite p v) s = .next t ∧ t.reg 0x460000 = s.reg 0x460000 ∧
      t.on Reg.POSE_EVENT_CFG_ERR = true ∧ t.po = s.po) ∧
    (∀ p v, s.Serves p → v.getLsbD 0 = true → ∃ t, exec (.fixGo p v) s = .next t ∧ t.po.pending = s.po.pending ++ [s.fixRegs] ∧
      t.po.pos = s.po.pos ∧ t.po.r = s.po.r) ∧
    (s.poState ≠ poOff → ∃ t, exec .fixLost s = .next t ∧ t.on Reg.POSE_EVENT_FIX_LOST = true ∧ t.po = s.po ∧ t.poState = s.poState) ∧
    (s.poState = poImu → ∃ t, exec .imuMaxExpiry s = .next t ∧ t.poState = poInvalid ∧ t.on Reg.POSE_STATUS_VALID = false ∧
      t.on Reg.POSE_EVENT_STATE_CHG = true) ∧
    (∀ m ready x, m < 2 → s.imuStarts m ready x = true → 3 ≤ (sget (fun _ => {}) s.po.imu m).bad →
      ∃ t, exec (.imuTransfer m ready [] x) s = .next t ∧
        t.on (if m = 0 then Reg.POSE_STATUS_IMU0_OK else Reg.POSE_STATUS_IMU1_OK) = false ∧ (sget (fun _ => {}) t.po.imu m).good = 0) ∧
    (∀ m ready x bs, m < 2 → s.imuStarts m ready x = true → s.fld (Reg.IMU_CFG_WIDTH m) = 0 → s.fld (Reg.IMU_CFG_HDR_LEN m) = 0 →
      bs.length = 12 → (∃ b ∈ bs, b ≠ 0) → (∃ b ∈ bs, b ≠ 0xFF) → (sget (fun _ => {}) s.po.imu m).full = [] →
      99 ≤ (sget (fun _ => {}) s.po.imu m).good → ∃ t, exec (.imuTransfer m ready bs x) s = .next t ∧
        t.on (if m = 0 then Reg.POSE_STATUS_IMU0_OK else Reg.POSE_STATUS_IMU1_OK) = true ∧
        (sget (fun _ => {}) t.po.imu m).buf.getLast?.map (·.1) = some (x - BitVec.ofNat 64 (800 * s.fld (Reg.IMU_LAT_LAT m))) ∧
        (sget (fun _ => {}) t.po.imu m).rate = (s.imuScale m (orient (s.reg (0x460084 + 32 * m)).toNat
          ((List.range 3).map (fun i => imuValue (s.on (Reg.IMU_CFG_BIG_END m)) (slice bs (2 * i) 2))) ++ [0, 0, 0])).take 3) ∧
    (∀ m ready x bs, m < 2 → s.imuStarts m ready x = false → exec (.imuTransfer m ready bs x) s = .next s) ∧
    (s.on Reg.POSE_STATUS_IMU0_OK = true → s.on Reg.POSE_STATUS_IMU1_OK = true → s.ratesDiffer = true → ∃ t, exec .imuDisagree s = .next t ∧
      t.on Reg.POSE_EVENT_IMU_DISAGREE = true ∧ t.po = s.po) ∧
    (s.ratesDiffer = false → exec .imuDisagree s = .next s) ∧
    (∃ t, exec .speedTimeout s = .next t ∧ t.on Reg.POSE_STATUS_SPD_OK = false ∧ t.speed = 0) ∧
    (∀ p k v, s.Serves p → k < 8 → ∃ t, exec (.segHostUncWrite p k v) s = .next t ∧
      (t.segOf k).host = some (s.sfld (Reg.SEG_HOST_X_DX k), s.sfld (Reg.SEG_HOST_Z_DZ k), v.toNat % 2 ^ 20) ∧
      (t.segOf k).dx = (s.segOf k).dx) ∧
    (∀ k, k < 8 → (s.segOf k).srcAct = 3 → ∃ t, exec (.deflHoldExpiry k) s = .next t ∧ (t.segOf k).dx = 0 ∧ (t.segOf k).dz = 0 ∧
      (t.segOf k).stale = true ∧ (t.segOf k).unc = s.fld (Reg.SEG_DMAX_DMAX k))

/-- Chapter 5: the tile slots' commands (Table 5.2, R125, R127, R129) and RATE_TABLE_COMMIT (R123). Covers TILE_LOAD, TILE_FILL_DONE,
TILE_COMMIT, TILE_EVICT, TILE_DIRTY_READ and RATE_TABLE_COMMIT. Conventions of the model it rests on: log 9, 22, 29 and 31 to 33. -/
def Obligations.TileSlotCommands : Prop :=
  ∀ s : State, s.pw.coreUp = true →
    (∀ p k, s.Serves p → k < s.variant.slots → s.tileState k = 0 → k ∉ s.mp.filling → ∃ t, exec (.tileLoad p k) s = .next t ∧
      t.on (Reg.TILE_CTRL_PENDING k) = true ∧ k ∈ t.mp.filling ∧ ∀ i, i < 65536 → t.cellWord (65536 * k + i) = 0x0300) ∧
    (∀ p k, s.Serves p → k < s.variant.slots → s.tileState k = 0 → k ∈ s.mp.filling → ∃ t, exec (.tileLoad p k) s = .next t ∧
      t.mp = s.mp ∧ t.tileState k = 0 ∧ t.fld Reg.MAP_EVENT_CMD_ERR = s.fld Reg.MAP_EVENT_CMD_ERR) ∧
    (∀ p k, s.Serves p → k < s.variant.slots → s.tileState k ≠ 0 → ∃ t, exec (.tileLoad p k) s = .next t ∧
      t.tileState k = s.tileState k ∧ t.on Reg.MAP_EVENT_CMD_ERR = true ∧ t.mp = s.mp) ∧
    (∀ k, k < s.variant.slots → k ∈ s.mp.filling → ∃ t, exec (.tileFillDone k) s = .next t ∧ t.tileState k = 1 ∧
      t.on (Reg.TILE_CTRL_PENDING k) = false ∧ k ∉ t.mp.filling) ∧
    (∀ p k, s.Serves p → k < s.variant.slots → s.tileState k = 1 → k ∉ s.committing → (∀ j ∈ s.committing, s.tileAt j ≠ s.tileAt k) →
      ∃ t, exec (.tileCommit p k) s = .next t ∧ t.tileState k = 1 ∧ t.on (Reg.TILE_CTRL_PENDING k) = true ∧ k ∈ t.mp.commits) ∧
    (∀ p k j, s.Serves p → k < s.variant.slots → s.tileState k = 1 → k ∉ s.committing → j ∈ s.committing → s.tileAt j = s.tileAt k →
      ∃ t, exec (.tileCommit p k) s = .next t ∧ t.on Reg.MAP_EVENT_TAG_CONFLICT = true ∧ t.mp = s.mp) ∧
    (∀ p k f, s.Serves p → k < s.variant.slots → s.tileState k = 1 → ∃ t, exec (.tileEvict p k f) s = .next t ∧ t.tileState k = 0) ∧
    (∀ p k, s.Serves p → k < s.variant.slots → s.tileState k = 2 → s.fld (Reg.TILE_DIRTY_BAND k) ≠ 0 →
      ∃ t, exec (.tileEvict p k false) s = .next t ∧ t.tileState k = 2 ∧ t.on Reg.MAP_EVENT_EVICT_DIRTY = true ∧ t.mp = s.mp ∧
        t.fld (Reg.TILE_DIRTY_BAND k) = s.fld (Reg.TILE_DIRTY_BAND k)) ∧
    (∀ p k, s.Serves p → k < s.variant.slots → s.tileState k = 3 → ∃ t, exec (.tileEvict p k true) s = .next t ∧ t.tileState k = 0) ∧
    (∀ p k, s.Serves p → k < s.variant.slots → ∃ t, exec (.tileDirtyRead p k) s = .next t ∧
      t.answer.data = [BitVec.ofNat 32 (s.fld (Reg.TILE_DIRTY_BAND k))] ∧ t.fld (Reg.TILE_DIRTY_BAND k) = 0) ∧
    (∀ p v, s.Serves p → ∃ t, exec (.rateTableCommit p v) s = .next t ∧
      t.fld Reg.RT_CTRL_PENDING = s.fld Reg.RT_CTRL_PENDING ||| v.toNat % 16 ∧
      ∀ l i, l < 4 → i < 64 → t.fld (Reg.RT_ENTRY_RATE l i) = s.fld (Reg.RT_ENTRY_RATE l i))

/-- R127: an EVICT of a RESIDENT slot with a dirty band set is refused unless FORCE is 1; a forced one takes its slot FREE at the next
frame start (Table 5.2), its dirty bands gone unread. -/
def Obligations.TileEviction : Prop :=
  ∀ (s : State) (p k : Nat), s.pw.coreUp = true → s.Serves p → k < s.variant.slots → s.tileState k = 2 → s.fld (Reg.TILE_DIRTY_BAND k) ≠ 0 →
    (∃ t, exec (.tileEvict p k false) s = .next t ∧ t.on Reg.MAP_EVENT_EVICT_DIRTY = true ∧ t.mp = s.mp ∧
      ∀ j, j < s.variant.slots → t.tileState j = s.tileState j ∧ t.fld (Reg.TILE_DIRTY_BAND j) = s.fld (Reg.TILE_DIRTY_BAND j)) ∧
    (∃ t, exec (.tileEvict p k true) s = .next t ∧ k ∈ t.mp.evicts ∧ t.tileState k = 2 ∧
      t.on Reg.MAP_EVENT_EVICT_DIRTY = s.on Reg.MAP_EVENT_EVICT_DIRTY ∧
      t.tileFrame.tileState k = 0 ∧ t.tileFrame.fld (Reg.TILE_DIRTY_BAND k) = 0)

/-- R126, R128, R125: swaps and aperture writes, cell by cell. Covers TILE_SWAP_MERGE_DONE and TILE_APERTURE_WRITE. R135: SEC_STATE is
updated at every painter run: it then shows each section's state. Covers PAINTER_RUN. Conventions of the model it rests on: log 9, 22,
29 and 31 to 33. -/
def Obligations.TileContentsAndSections : Prop :=
  (∀ s : State, s.pw.coreUp = true →
     (∀ k old, k < s.variant.slots → s.mp.merges.find? (fun m => decide (m.1 = k)) = some (k, old) → old < s.variant.slots → old ≠ k →
       s.tileState old = 2 → ∃ t, exec (.tileSwapMergeDone k) s = .next t ∧ t.tileState k = 2 ∧ t.tileState old = 0 ∧
         t.on (Reg.TILE_CTRL_PENDING k) = false ∧
         t.fld (Reg.TILE_DIRTY_BAND k) = s.fld (Reg.TILE_DIRTY_BAND k) ||| s.fld (Reg.TILE_DIRTY_BAND old) ∧
         ∀ i, i < 65536 → s.cellWord (65536 * k + i) < 65536 → t.cellWord (65536 * k + i) =
           mergeCell (s.cellWord (65536 * k + i)) (s.cellWord (65536 * old + i))) ∧
     (∀ p off bs, s.Serves p → off / 0x20000 < s.variant.slots → off % 0x20000 + bs.length ≤ 0x20000 →
       off / 0x20000 ∉ s.mp.filling → s.tileState (off / 0x20000) = 1 → (∀ key, s.cellWord key < 65536) →
       ∃ t, exec (.tileApertureWrite p off bs) s = .next t ∧ ∀ i, i < bs.length → t.apertureRead (off + i) 1 = [bs.getD i 0]) ∧
     (∀ p off b, s.Serves p → off / 0x20000 < s.variant.slots → off / 0x20000 ∉ s.mp.filling → s.tileState (off / 0x20000) = 2 →
       s.on (Reg.TILE_CTRL_COV_WRITE (off / 0x20000)) = false → off % 2 = 0 →
       ∃ t, exec (.tileApertureWrite p off [b]) s = .next t ∧ t.mp.cells = s.mp.cells) ∧
     (∀ p off bs, s.Serves p → off / 0x20000 < s.variant.slots → off + bs.length ≤ 0x1800000 → off / 0x20000 ∉ s.mp.filling →
       s.tileState (off / 0x20000) = 0 ∨ s.tileState (off / 0x20000) = 3 → ∃ t, exec (.tileApertureWrite p off bs) s = .next t ∧
         t.mp.cells = s.mp.cells ∧ t.on Reg.MAP_EVENT_CFG_ERR = true)) ∧
  (∀ s : State, s.pw.coreUp = true → s.fld Reg.RES_STATE_STATE ≠ 1 → s.fld Reg.RES_STATE_STATE ≠ 3 →
     ∃ t, exec .painterRun s = .next t ∧ ∀ k, k < 256 →
       bitsOf (t.reg (0x409100 + 4 * (k / 16))).toNat (2 * (k % 16)) 2 = t.sectionState k)

/-- R143's refusals: a commit of a host path whose PATH_FT lies in the pose history and whose knots ascend stages its knots, any other
sets CFG_ERR and changes nothing else. Covers PATH_COMMIT. R157 and R159, on a ledger of one BOOKED entry that has no replan of its own
(booked by a context, or without a crossing place): it commits at its due time, waits, is withheld or is forced. The pass is the one of
the latest pose epoch. Covers COMMIT_PASS. Conventions of the model it rests on: log 9, 22, 29 and 31 to 33. -/
def Obligations.PathCommitAndCommitPass : Prop :=
  (∀ s : State, s.pw.coreUp = true → ∀ p v, s.Serves p → v.getLsbD 6 = true →
     (v.toNat % 64 ≤ 32 → (∀ i, i < v.toNat % 64 → s.distAscends i (s.fld (Reg.PK_DIST_DIST i)) = true) → (s.poseAt (BitVec.ofNat 64 (s.reg64 0x40C024))).isSome = true → 0 ≤ tdiff s.ft (BitVec.ofNat 64 (s.reg64 0x40C024)) →
       tdiff s.ft (BitVec.ofNat 64 (s.reg64 0x40C024)) ≤ 2048000000 → ∃ t q, exec (.pathCommit p v) s = .next t ∧
         t.lg.hostStaged = some q ∧ t.lg.host = s.lg.host ∧ q.ft = BitVec.ofNat 64 (s.reg64 0x40C024) ∧
         q.knots = (List.range (v.toNat % 64)).map (fun i =>
           (s.fld (Reg.PK_DIST_DIST i), s.sfld (Reg.PK_CURV_CURV i), s.fld (Reg.PK_SPEED_SPEED i)))) ∧
     (v.toNat % 64 ≤ 32 → s.poseAt (BitVec.ofNat 64 (s.reg64 0x40C024)) = none ∨
         (∃ i, i < v.toNat % 64 ∧ s.distAscends i (s.fld (Reg.PK_DIST_DIST i)) = false) →
       ∃ t, exec (.pathCommit p v) s = .next t ∧ t.lg = s.lg ∧ t.reg 0x40C020 = s.reg 0x40C020 ∧ t.on Reg.LG_EVENT_CFG_ERR = true) ∧
     (32 < v.toNat % 64 → ∃ t, exec (.pathCommit p v) s = .next t ∧ t.lg = s.lg ∧ t.reg 0x40C020 = s.reg 0x40C020 ∧
       t.on Reg.LG_EVENT_CFG_ERR = true)) ∧
  (∀ s : State, s.pw.coreUp = true → s.fld Reg.RES_STATE_STATE ≠ 1 → s.fld Reg.RES_STATE_STATE ≠ 3 → s.degraded = false → ∀ h hs, s.po.hist = h :: hs →
     (s.lg.lastPass = some h.te → exec .commitPass s = .next s) ∧
     ∀ i e, s.lg.lastPass ≠ some h.te → s.ledger = [(i, e)] → s.entry i = some e → e.st = eBooked →
       tdiff e.due h.te ≤ 8000000 * s.fld (Reg.CL_TIMING_COMMIT_WIN (s.cls e.outlet)) →
       (e.ctx.isSome = true → s.on (Reg.CL_COMMIT_CTX_CONF (s.cls e.outlet)) = false → 800000 ≤ tdiff e.due h.te →
         ∃ t x, exec .commitPass s = .next t ∧ t.entry i = some x ∧ x.st = eCommitted ∧ x.due = e.due ∧ x.forced = false ∧
           x.replanned = (e.replanned || decide (e.due ≠ e.frameDue))) ∧
       (e.cross = none → e.ctx = none → tdiff h.te e.due < -(s.commitLead e.outlet : Int) → ∃ t, exec .commitPass s = .next t ∧
         t.entry i = some e) ∧
       (e.cross = none → e.ctx = none → e.kind = kOpen → -(s.commitLead e.outlet : Int) ≤ tdiff h.te e.due →
         ∃ t x, exec .commitPass s = .next t ∧ t.entry i = some x ∧ x.st = eCancelled ∧ x.withheld = true ∧ x.cause = 1 ∧
           t.on Reg.LG_EVENT_WITHHELD = true) ∧
       (e.cross = none → e.ctx = none → e.kind ≠ kOpen → -(s.commitLead e.outlet : Int) ≤ tdiff h.te e.due →
         ∃ t x, exec .commitPass s = .next t ∧ t.entry i = some x ∧ x.st = eCommitted ∧ x.forced = true ∧
           x.due = (if tdiff e.due (tadd h.te 800000) < 0 then tadd h.te 800000 else e.due) ∧ t.on Reg.LG_EVENT_FORCED = true))

/-- R48, R49, R53: with the image active and field time counting, a frame starts when field time reaches its start: frames run, FRM_NO
counts, FRM_START is its start and the next start lies PERIOD × 50 µs on; before that time nothing happens. Covers FRAME_START. R160
and R185: pre-flux begins under exactly the conditions of R185. Covers PREFLUX_START. Conventions of the model it rests on: log 20, 22,
23 and 30 to 34. -/
def Obligations.FrameStartAndPreflux : Prop :=
  (∀ s : State, s.pw.coreUp = true → s.on Reg.IMG_STATUS_ACTIVE = true → s.ftCounts = true → ∀ tk, s.tb.next = some tk →
     (tge s.ft tk = true → ∃ t, exec .frameStart s = .next t ∧ t.tb.framesOn = true ∧ t.reg64 0x410038 = tk.toNat ∧ t.ft = s.ft ∧
       t.tb.next = some (tadd tk (400000 * t.tb.period : Nat)) ∧
       t.fld Reg.FRM_NO_NUMBER = (if s.tb.framesOn = true then (s.fld Reg.FRM_NO_NUMBER + 1) % 2 ^ 32 else 1)) ∧
     (tge s.ft tk = false → exec .frameStart s = .next s)) ∧
  (∀ s : State, s.pw.coreUp = true → ∀ i e, s.entry i = some e → e.outlet < 1024 → s.fld (Reg.OT_TARGET_CHAN e.outlet) < 128 →
     (e.kind = kOpen → e.st = eBooked ∨ e.st = eCommitted → s.fld (Reg.OT_CFG_TARGET e.outlet) = 1 →
       s.vState (s.fld (Reg.OT_TARGET_CHAN e.outlet)) = vIdle → s.fld (Reg.CL_PREFLUX_PREFLUX (s.cls e.outlet)) ≠ 0 →
       s.inCloseWin (s.fld (Reg.OT_TARGET_CHAN e.outlet)) = false → s.fld (Reg.VCH_STATE_DERATE (s.fld (Reg.OT_TARGET_CHAN e.outlet))) = 0 →
       (s.valve (s.fld (Reg.OT_TARGET_CHAN e.outlet))).safe = 0 → s.vd.stopLow = false → s.vd.haltFt = none →
       tdiff e.due s.ft ≤ 400000 * (s.fld (Reg.CL_TIMING_PRE_LEAD (s.cls e.outlet)) : Int) → s.dieUp (dieOf (s.fld (Reg.OT_TARGET_CHAN e.outlet))) = true → ∃ t x, exec (.prefluxStart i) s = .next t ∧
         t.entry i = some x ∧ x.preflux = true ∧ x.st = e.st ∧ x.due = e.due ∧ t.vState (s.fld (Reg.OT_TARGET_CHAN e.outlet)) = vPreflux) ∧
     (e.kind ≠ kOpen ∨ s.vState (s.fld (Reg.OT_TARGET_CHAN e.outlet)) ≠ vIdle ∨
       s.fld (Reg.VCH_STATE_DERATE (s.fld (Reg.OT_TARGET_CHAN e.outlet))) ≠ 0 ∨ s.inCloseWin (s.fld (Reg.OT_TARGET_CHAN e.outlet)) = true →
       exec (.prefluxStart i) s = .next s))

/-- R24, R151, R163, R186 on a local valve channel, R164's late events and R161's inhibited ones: what the due time of a COMMITTED
entry does: two fire copies in service hold it, and field time has reached it; before that nothing happens. Covers EVENT_FIRE.
Conventions of the model it rests on: log 20, 22, 23 and 30 to 34. -/
def Obligations.EventFires : Prop :=
  ∀ s : State, s.pw.coreUp = true → ∀ i e, s.entry i = some e → e.st = eCommitted → e.outlet < 1024 →
    (s.fireDue i = false → exec (.eventFire i) s = .next s) ∧ (s.fireDue i = true →
    (s.fld (Reg.OT_CFG_TARGET e.outlet) = 1 → s.fld (Reg.OT_TARGET_CHAN e.outlet) < 128 → s.targetUp e.outlet = true →
      s.frozen (s.fld (Reg.OT_TARGET_CHAN e.outlet)) = false → s.on (Reg.OT_STATE_INHIBIT e.outlet) = false →
      (s.valve (s.fld (Reg.OT_TARGET_CHAN e.outlet))).safe = 0 → s.vd.stopLow = false →
      (e.kind = kOpen → s.closeWins e = false →
        s.vState (s.fld (Reg.OT_TARGET_CHAN e.outlet)) = vIdle ∨ s.vState (s.fld (Reg.OT_TARGET_CHAN e.outlet)) = vPreflux →
        ∃ t x, exec (.eventFire i) s = .next t ∧ t.entry i = some x ∧ x.st = eFired ∧ x.due = e.due ∧ t.isOpen e.outlet = true ∧
          t.vState (s.fld (Reg.OT_TARGET_CHAN e.outlet)) =
            (if s.closePh (s.profile (s.fld (Reg.OT_TARGET_CHAN e.outlet))) = 1 then vHold else vOpening) ∧
          t.fld (Reg.VCH_STATE_PHASE (s.fld (Reg.OT_TARGET_CHAN e.outlet))) = 0) ∧
      (e.kind = kClose → s.vState (s.fld (Reg.OT_TARGET_CHAN e.outlet)) = vOpening ∨
        s.vState (s.fld (Reg.OT_TARGET_CHAN e.outlet)) = vHold →
        ∃ t x, exec (.eventFire i) s = .next t ∧ t.entry i = some x ∧ x.st = eFired ∧ t.isOpen e.outlet = false ∧
          t.vState (s.fld (Reg.OT_TARGET_CHAN e.outlet)) = vDecay ∧
          t.fld (Reg.VCH_STATE_PHASE (s.fld (Reg.OT_TARGET_CHAN e.outlet))) = s.closePh (s.profile (s.fld (Reg.OT_TARGET_CHAN e.outlet)))) ∧
      (e.kind = kOpen → s.closeWins e = false → s.vState (s.fld (Reg.OT_TARGET_CHAN e.outlet)) = vHold →
        ∃ t x, exec (.eventFire i) s = .next t ∧ t.entry i = some x ∧ x.st = eSealed ∧ x.code = sRedundant ∧
          t.vState (s.fld (Reg.OT_TARGET_CHAN e.outlet)) = vHold) ∧
      (e.kind = kOpen → s.closeWins e = false → s.vState (s.fld (Reg.OT_TARGET_CHAN e.outlet)) = vFault →
        ∃ t x, exec (.eventFire i) s = .next t ∧ t.entry i = some x ∧ x.st = eSealed ∧ x.code = sUnseated ∧
          t.vState (s.fld (Reg.OT_TARGET_CHAN e.outlet)) = vFault)) ∧
    (e.kind = kRate → s.on (Reg.OT_RATE_DEST e.outlet) = true → s.on (Reg.OT_STATE_INHIBIT e.outlet) = false →
      ∃ t x, exec (.eventFire i) s = .next t ∧ t.entry i = some x ∧ x.st = eSealed ∧ x.code = sApplied) ∧
    (s.fld (Reg.OT_CFG_TARGET e.outlet) ≠ 4 → e.kind = kClose → s.targetUp e.outlet = false → ∃ t x, exec (.eventFire i) s = .next t ∧
      t.entry i = some x ∧ x.st = eLate ∧ t.on Reg.LG_EVENT_LATE = true) ∧
    (s.fld (Reg.OT_CFG_TARGET e.outlet) = 4 → e.kind = kClose → e.acked = false → ∃ t x, exec (.eventFire i) s = .next t ∧
      t.entry i = some x ∧ x.st = eLate ∧ t.on Reg.LG_EVENT_LATE = true) ∧
    (e.kind = kOpen → s.on (Reg.OT_STATE_INHIBIT e.outlet) = true → s.ledger = [(i, e)] → ∃ t x, exec (.eventFire i) s = .next t ∧
      t.entry i = some x ∧ x.st = eCancelled ∧ x.cause = 5))

/-- Chapter 7, Tables 7.1 to 7.3: phases, faults, modulation edges and UNLATCH of a valve channel (R179–R181, R186, R194, R201). Covers
PHASE_END, OVER_CURRENT, MOD_OFF_EDGE, MOD_ON_EDGE and CH_UNLATCH. Conventions of the model it rests on: log 33 and 35. -/
def Obligations.ValveChannelMoves : Prop :=
  ∀ s : State, s.pw.coreUp = true → ∀ n, n < s.variant.valves →
    (∀ peak now : Int, s.vState n = vOpening → s.frozen n = false → s.phaseOver n now = true → (s.valve n).kept = none →
      s.on (Reg.PH_CFG_RISE_CHK (s.profile n) (s.fld (Reg.VCH_STATE_PHASE n))) = false ∨ (s.fld (Reg.PF_RISE_RISE_MIN (s.profile n)) : Int) ≤ peak →
      ∃ t, exec (.phaseEnd n peak now) s = .next t ∧ t.fld (Reg.VCH_STATE_PHASE n) = (s.fld (Reg.VCH_STATE_PHASE n) + 1) % 8 ∧
        (t.valve n).since = s.ft ∧ t.vState n = if s.closePh (s.profile n) ≤ s.fld (Reg.VCH_STATE_PHASE n) + 2 then vHold else vOpening) ∧
    (∀ peak now : Int, s.vState n = vOpening → s.frozen n = false → s.phaseOver n now = true → (s.valve n).kept = none →
      s.on (Reg.PH_CFG_RISE_CHK (s.profile n) (s.fld (Reg.VCH_STATE_PHASE n))) = true →
      s.fld (Reg.PH_CFG_KIND (s.profile n) (s.fld (Reg.VCH_STATE_PHASE n))) ≤ 1 →
      peak < ((s.fld (Reg.PF_RISE_RISE_MIN (s.profile n)) * 15 / 16 : Nat) : Int) →
      ∃ t, exec (.phaseEnd n peak now) s = .next t ∧ t.vState n = vDecay ∧ (t.valve n).after = 3 ∧ t.on (Reg.VCH_FAULT_OPEN_COIL n) = true ∧
        t.on Reg.VD_EVENT_CH_FAULT = true ∧ ∀ w ∈ (t.valve n).wins, w.kind = 0 → w.bad = true) ∧
    (∀ peak now : Int, s.vState n = vDecay → s.frozen n = false → now < 2000 → (s.valve n).residual = true ∨
        (s.phaseOver n now = true ∧ s.nph (s.profile n) ≤ s.fld (Reg.VCH_STATE_PHASE n) + 1) →
      ∃ t, exec (.phaseEnd n peak now) s = .next t ∧
        t.vState n = (if (s.valve n).after = 1 then vModOff else if (s.valve n).after = 2 then vOff else if (s.valve n).after = 3 then vFault
          else vIdle)) ∧
    (∀ peak now : Int, s.vState n = vDecay → s.frozen n = false → 2000 ≤ now → s.phaseOver n now = true → (s.valve n).residual = false →
      s.nph (s.profile n) ≤ s.fld (Reg.VCH_STATE_PHASE n) + 1 →
      ∃ t, exec (.phaseEnd n peak now) s = .next t ∧ t.vState n = vDecay ∧ (t.valve n).residual = true) ∧
    (∀ peak now : Int, s.vState n = vDecay → s.frozen n = false → s.phaseOver n now = true → (s.valve n).residual = false →
      s.fld (Reg.VCH_STATE_PHASE n) + 1 < s.nph (s.profile n) →
      ∃ t, exec (.phaseEnd n peak now) s = .next t ∧ t.vState n = vDecay ∧ t.fld (Reg.VCH_STATE_PHASE n) = s.fld (Reg.VCH_STATE_PHASE n) + 1) ∧
    (∀ peak now : Int, s.phaseOver n now = false → (s.valve n).residual = false → exec (.phaseEnd n peak now) s = .next s) ∧
    (s.vState n = vOpening ∨ s.vState n = vHold → ∃ t, exec (.overCurrent n) s = .next t ∧ t.vState n = vDecay ∧ (t.valve n).after = 3 ∧
      t.on (Reg.VCH_FAULT_SHORT n) = true ∧ t.on Reg.VD_EVENT_CH_FAULT = true) ∧
    (∀ b e, s.vState n = vOpening ∨ s.vState n = vHold → s.vd.haltFt = none → (s.valve n).safe = 0 → s.modulated n = true →
      (s.valve n).pulse = some (b, some e) → tge s.ft e = true → s.closeDue n e = false → ∃ t, exec (.modOffEdge n) s = .next t ∧ t.vState n = vDecay ∧ (t.valve n).after = 1 ∧ (t.valve n).wins ≠ []) ∧
    (∀ b e, s.vState n = vModOff → s.vd.haltFt = none → (s.valve n).safe = 0 → (s.valve n).pulse = some (b, some e) →
      tge s.ft (s.gridOn (s.unitOf n) (tadd e (s.modGap (s.profile n)))) = true →
      s.closeDue n (s.gridOn (s.unitOf n) (tadd e (s.modGap (s.profile n)))) = false → ∃ t, exec (.modOnEdge n) s = .next t ∧
      t.fld (Reg.VCH_STATE_PHASE n) = 0 ∧ t.vState n = if s.closePh (s.profile n) = 1 then vHold else vOpening) ∧
    (∀ p, s.Serves p → s.vState n = vFault → s.fld (Reg.VCH_FAULT_OPEN_COIL n) = 0 → s.fld (Reg.VCH_FAULT_SHORT n) = 0 →
      s.fld (Reg.VCH_FAULT_TRIP n) = 0 → s.fld (Reg.VCH_STATE_DERATE n) < 2 → (∀ x, x < 8 → s.on (Reg.TRIP_CFG_TRIPPED x) = false) →
      ∃ t, exec (.chUnlatch p n) s = .next t ∧ t.vState n = vIdle) ∧
    (∀ p, s.Serves p → s.vState n = vFault → s.fld (Reg.VCH_FAULT_OPEN_COIL n) = 1 ∨ s.fld (Reg.VCH_FAULT_SHORT n) = 1 ∨
      s.fld (Reg.VCH_FAULT_TRIP n) = 1 ∨ 2 ≤ s.fld (Reg.VCH_STATE_DERATE n) → ∃ t, exec (.chUnlatch p n) s = .next t ∧ t.vState n = vFault)

/-- R193's declarations and R195's levels. Covers SENSE_CONTINUITY_TEST and DUTY_WINDOW_UPDATE. R190's search over voltage samples `v`
in a window: S is the sample K before the earliest largest second difference of four-sample sums, where it reaches KINK_THR.
Conventions of the model it rests on: log 33 and 35. -/
def Obligations.CoilMonitorsAndKinkSearch : Prop :=
  (∀ s : State, s.pw.coreUp = true → ∀ n, n < s.variant.valves →
     (∀ mv : Int, 2000 < mv → s.vState n = vIdle → (s.valve n).openReads = 1 → s.fld (Reg.VCH_CFG_OUTLET n) < 1024 →
       s.on (Reg.VCH_CFG_MAPPED n) = true → ∃ t, exec (.senseContinuityTest n mv) s = .next t ∧ t.on (Reg.VCH_STATE_SENSE_OPEN n) = true ∧
         t.on Reg.VD_EVENT_SENSE_OPEN = true ∧ t.on (Reg.OT_LRN_OPEN_FROZEN (s.fld (Reg.VCH_CFG_OUTLET n))) = true ∧
         t.on (Reg.OT_LRN_CLOSE_FROZEN (s.fld (Reg.VCH_CFG_OUTLET n))) = true) ∧
     (∀ mv : Int, mv ≤ 2000 → s.vState n = vIdle → (s.valve n).okReads = 15 → s.on (Reg.VCH_CFG_MAPPED n) = true →
       ∃ t, exec (.senseContinuityTest n mv) s = .next t ∧ t.on (Reg.VCH_STATE_SENSE_OPEN n) = false ∧
         t.on (Reg.OT_LRN_OPEN_FROZEN (s.fld (Reg.VCH_CFG_OUTLET n))) = false ∧
         t.on (Reg.OT_LRN_CLOSE_FROZEN (s.fld (Reg.VCH_CFG_OUTLET n))) = false) ∧
     (∀ samples mv, s.fld (Reg.VCH_STATE_DERATE n) ≤ 2 → ∃ t, exec (.dutyWindowUpdate n samples mv) s = .next t ∧
       (-(2 ^ 19) ≤ mv → mv < 2 ^ 19 → t.sfld (Reg.VCH_VMEAS_V n) = mv) ∧
       (∀ i, samples.getLast? = some i → -(2 ^ 19) ≤ i → i < 2 ^ 19 → t.sfld (Reg.VCH_IMEAS_I n) = i) ∧
       ((s.valve n).msIn + 1 < s.fld (Reg.VCH_DW_DW_WIN n) → (t.valve n).bucket = (s.valve n).bucket ∧
         sget (fun _ => 0) (t.valve n).buckets (s.valve n).bucket = sget (fun _ => 0) (s.valve n).buckets (s.valve n).bucket +
           (samples.map (fun i => min (i.natAbs / 1024) 1023 ^ 2)).sum) ∧
       (s.fld (Reg.VCH_DW_DW_WIN n) ≤ (s.valve n).msIn + 1 → (t.valve n).bucket = ((s.valve n).bucket + 1) % 100 ∧ (t.valve n).msIn = 0 ∧
         sget (fun _ => 0) (t.valve n).buckets (((s.valve n).bucket + 1) % 100) = 0) ∧
       t.fld (Reg.VCH_STATE_DERATE n) =
         (let h := ((t.valve n).buckets.map (·.2)).sum
          let lim := s.fld (Reg.PF_DW_DW_LIM (s.profile n)) * 100000 * s.fld (Reg.VCH_DW_DW_WIN n)
          if s.fld (Reg.VCH_STATE_DERATE n) = 0 then (if lim < h then 1 else 0)
          else if h ≤ 3 * lim / 4 then 0
          else if s.fld (Reg.VCH_STATE_DERATE n) = 1 ∧ 5 * lim / 4 < h then 2 else s.fld (Reg.VCH_STATE_DERATE n)) ∧
       (s.fld (Reg.VCH_STATE_DERATE n) = 0 → t.fld (Reg.VCH_STATE_DERATE n) = 1 → t.on Reg.VD_EVENT_DUTY_HOLD = true) ∧
       (s.vState n ≠ vOff → s.fld (Reg.VCH_STATE_DERATE n) = 1 → t.fld (Reg.VCH_STATE_DERATE n) = 2 → t.on (Reg.VCH_FAULT_DUTY_OFF n) = true ∧
         (t.vState n = vDecay ∨ t.vState n = vFault)))) ∧
  (∀ (s : State) (n : Nat) (w : SealWin) (samples : List Sample), n < 128 →
     ∀ b : Nat, let k := s.fld (Reg.PF_CFG_KINK_SPAN (s.profile n))
       let t0 := sampleFrom (winStart w) 2000
       let v := fun i => ((inWindow t0 w.we 2000 samples).map (·.v)).getD i 0
       let vs := fun m => v (m - 2) + v (m - 1) + v m + v (m + 1)
       let dd := fun m => vs m - 2 * vs (m - k) + vs (m - 2 * k)
       let ok := fun m => 2 * k + 2 ≤ m ∧ m + 1 < (inWindow t0 w.we 2000 samples).length
       ok b → (∀ m, ok m → dd m ≤ dd b) → (∀ m, ok m → m < b → dd m < dd b) →
         s.kink n w samples = (if (s.fld (Reg.PF_KINK_KINK_THR (s.profile n)) : Int) ≤ dd b then some (tadd t0 (2000 * (b - k) : Nat)) else none,
           some (dd b)))

/-- R188–R191: what the end of the oldest search window of a channel seals; before it nothing. Covers VALVE_SEAL. Conventions of the
model it rests on: log 33 and 35. -/
def Obligations.ValveSeals : Prop :=
  ∀ s : State, s.pw.coreUp = true → ∀ n, n < s.variant.valves → ∀ samples w ws i e, (s.valve n).wins = w :: ws → w.entry = some i →
    w.dbg = false → s.entry i = some e → e.st = eFired → e.kind ≠ kRate → e.outlet < 1024 →
    (tge s.ft w.we = false → exec (.valveSeal n samples) s = .next s) ∧ (tge s.ft w.we = true →
    (w.kind = 0 → w.bad = true → ∃ t x, exec (.valveSeal n samples) s = .next t ∧ t.entry i = some x ∧ x.st = eSealed ∧ x.code = sUnseated ∧
      t.fld (Reg.VCH_SEAL_CODE n) = sUnseated) ∧
    (w.kind = 0 → w.bad = false → s.on (Reg.PF_CFG_DIP_EN (s.profile n)) = false → ∃ t x, exec (.valveSeal n samples) s = .next t ∧
      t.entry i = some x ∧ x.st = eSealed ∧ x.code = (if w.reached = true then sProfile else sUnseated)) ∧
    (w.kind = 1 → s.on (Reg.VCH_STATE_SENSE_OPEN n) = true → ∃ t x, exec (.valveSeal n samples) s = .next t ∧ t.entry i = some x ∧
      x.st = eSealed ∧ x.code = sSenseOpen) ∧
    (w.kind = 1 → s.on (Reg.VCH_STATE_SENSE_OPEN n) = false → s.on (Reg.PF_CFG_KINK_EN (s.profile n)) = false →
      ∃ t x, exec (.valveSeal n samples) s = .next t ∧ t.entry i = some x ∧ x.st = eSealed ∧ x.code = sProfile) ∧
    (w.kind = 1 → s.on (Reg.VCH_STATE_SENSE_OPEN n) = false → s.on (Reg.PF_CFG_KINK_EN (s.profile n)) = true →
      ∀ seat peak, s.kink n w samples = (seat, peak) → ∃ t x, exec (.valveSeal n samples) s = .next t ∧ t.entry i = some x ∧
        x.st = eSealed ∧ x.code = (if seat.isSome = true then sSeated else sUnseated)) ∧
    (w.kind = 0 → w.bad = false → s.on (Reg.PF_CFG_DIP_EN (s.profile n)) = true → s.on (Reg.VCH_STATE_SENSE_OPEN n) = false →
      ∀ f peak, s.dip n w samples = (some f, peak) → ∃ t x, exec (.valveSeal n samples) s = .next t ∧ t.entry i = some x ∧
        x.st = eSealed ∧ x.code = sSeated ∧ t.fld (Reg.VCH_SEAL_CODE n) = sSeated))

/-- R204: trip inputs: an input counts once it has held its level for FILT samples outside the blanking window. Covers TRIP_ASSERT,
TRIP_DEASSERT and TRIP_CLEAR. R184, R196–R198: gate compensation and the boost converters. Covers GATE_COMP_MEASURE, BST_SET_WRITE,
BST_EN_WRITE, BOOST_REF_STEP, BST_OV, BST_OV_END and BST_LOW. Conventions of the model it rests on: log 35. -/
def Obligations.TripInputsAndBoost : Prop :=
  (∀ s : State, s.pw.coreUp = true → ∀ x, x < 8 → ∀ held,
     (held < s.fld (Reg.TRIP_CFG_FILT x) ∨ s.blanked x = true → exec (.tripAssert x held) s = .next s) ∧
     (∀ n, n < s.variant.valves → s.on (Reg.TRIP_CFG_EN x) = true → s.on (Reg.TRIP_CFG_LATCH x) = true → s.tripMasks x n = true →
       s.fld (Reg.TRIP_CFG_FILT x) ≤ held → s.blanked x = false →
       s.vState n ≠ vOff → ∃ t, exec (.tripAssert x held) s = .next t ∧ t.on (Reg.TRIP_CFG_TRIPPED x) = true ∧ t.on Reg.VD_EVENT_TRIP = true ∧
         t.on (Reg.VCH_FAULT_TRIP n) = true ∧ (t.vState n = vFault ∨ t.vState n = vDecay ∧ (t.valve n).after = 3)) ∧
     (∀ n, n < s.variant.valves → s.on (Reg.TRIP_CFG_EN x) = true → s.on (Reg.TRIP_CFG_LATCH x) = false → s.tripMasks x n = true →
       s.fld (Reg.TRIP_CFG_FILT x) ≤ held → s.blanked x = false →
       ∃ t, exec (.tripAssert x held) s = .next t ∧ t.on Reg.VD_EVENT_TRIP = true ∧ (t.valve n).tripOff = true ∧ t.vState n = s.vState n ∧
         t.fld (Reg.VCH_STATE_PHASE n) = s.fld (Reg.VCH_STATE_PHASE n)) ∧
     (s.on (Reg.TRIP_CFG_EN x) = false → ∃ t, exec (.tripAssert x held) s = .next t ∧ t.regs = s.regs ∧ t.vd.valves = s.vd.valves) ∧
     (∀ n, n < s.variant.valves → (s.valve n).tripOff = true → s.vd.trips = [x] → ∃ t, exec (.tripDeassert x) s = .next t ∧
       (t.valve n).tripOff = false ∧ (t.valve n).resume = some (s.chopNext n s.ft) ∧ t.vd.trips = [] ∧ t.regs = s.regs) ∧
     (∀ p, s.Serves p → x ∉ s.vd.trips → 1 ≤ s.fld (Reg.TRIP_CFG_FILT x) → s.fld (Reg.TRIP_CFG_BLANK x) ≤ 100 →
       ∃ t, exec (.tripClear p x) s = .next t ∧ t.on (Reg.TRIP_CFG_TRIPPED x) = false ∧
         t.fld (Reg.TRIP_CFG_EN x) = s.fld (Reg.TRIP_CFG_EN x) ∧ t.fld (Reg.TRIP_CFG_FILT x) = s.fld (Reg.TRIP_CFG_FILT x)) ∧
     (∀ p, s.Serves p → x ∈ s.vd.trips → 1 ≤ s.fld (Reg.TRIP_CFG_FILT x) → s.fld (Reg.TRIP_CFG_BLANK x) ≤ 100 →
       ∃ t, exec (.tripClear p x) s = .next t ∧ t.fld (Reg.TRIP_CFG_TRIPPED x) = s.fld (Reg.TRIP_CFG_TRIPPED x))) ∧
  (∀ s : State, s.pw.coreUp = true → s.variant ≠ .f0512 →
     (∀ lambda, lambda < 256 → s.on Reg.VD_CTRL_GATE_COMP_EN = true → s.on Reg.VD_STATUS_DIEA_LINK = true →
       ∃ t, exec (.gateCompMeasure 0 lambda) s = .next t ∧ t.fld Reg.VD_GATECOMP_LAT_A = lambda ∧
         t.fld Reg.VD_GATECOMP_LAT_B = s.fld Reg.VD_GATECOMP_LAT_B) ∧
     (∀ p b v meas, s.Serves p → b < 2 → v.toNat % 2 ^ 20 ≤ 7200 → meas < 10000 → ∃ t, exec (.bstSetWrite p b v meas) s = .next t ∧
       t.fld (Reg.BST_SET_SET b) = v.toNat % 2 ^ 20 ∧ t.fld (Reg.BST_MEAS_MEAS b) = meas ∧ t.fld (Reg.BST_REF_REF b) = 100 * meas) ∧
     (∀ p b v meas, s.Serves p → b < 2 → 7200 < v.toNat % 2 ^ 20 → ∃ t, exec (.bstSetWrite p b v meas) s = .next t ∧
       t.fld (Reg.BST_SET_SET b) = s.fld (Reg.BST_SET_SET b) ∧ t.on Reg.VD_EVENT_CFG_ERR = true) ∧
     (∀ p b v meas, s.Serves p → b < 2 → v.getLsbD 0 = true → s.on (Reg.BST_CTRL_BST_EN b) = false → meas < 10000 →
       ∃ t, exec (.bstEnWrite p b v meas) s = .next t ∧ t.on (Reg.BST_CTRL_BST_EN b) = true ∧ t.on (Reg.BST_STAT_BST_OFF b) = false ∧
         t.fld (Reg.BST_REF_REF b) = 100 * meas) ∧
     (∀ p b v meas, s.Serves p → b < 2 → v.getLsbD 0 = false → ∃ t, exec (.bstEnWrite p b v meas) s = .next t ∧
       t.on (Reg.BST_CTRL_BST_EN b) = false ∧ t.on (Reg.BST_STAT_BST_OFF b) = true) ∧
     (∀ b meas, b < 2 → s.on (Reg.BST_STAT_SLEWING b) = true → s.fld (Reg.BST_SET_SET b) ≤ 7200 → ∃ t, exec (.boostRefStep b meas) s = .next t ∧
       t.fld (Reg.BST_MEAS_MEAS b) = meas % 2 ^ 20 ∧
       t.fld (Reg.BST_REF_REF b) =
         (if s.fld (Reg.BST_REF_REF b) < 100 * s.fld (Reg.BST_SET_SET b) then
           min (s.fld (Reg.BST_REF_REF b) + s.fld (Reg.BST_SLEW_SLEW b)) (100 * s.fld (Reg.BST_SET_SET b))
         else max (s.fld (Reg.BST_REF_REF b) - s.fld (Reg.BST_SLEW_SLEW b)) (100 * s.fld (Reg.BST_SET_SET b)))) ∧
     (∀ b, b < 2 → ∃ t, exec (.bstOv b) s = .next t ∧ t.on (Reg.BST_STAT_OV b) = true ∧ t.on Reg.VD_EVENT_BST_OV = true) ∧
     (∀ b, b < 2 → ∃ t, exec (.bstOvEnd b) s = .next t ∧ t.on (Reg.BST_STAT_OV b) = false ∧
       t.fld Reg.VD_EVENT_BST_OV = s.fld Reg.VD_EVENT_BST_OV) ∧
     (∀ b, b < 2 → s.on (Reg.BST_CTRL_BST_EN b) = true → ∃ t, exec (.bstLow b) s = .next t ∧ t.on (Reg.BST_STAT_LOW b) = true ∧
       t.on Reg.VD_EVENT_BST_LOW = true))

/-- R200, R202, R203 on one unit: loads and super-period starts. Covers LOADALL, LOADALL_AUX and SUPER_PERIOD_START. Conventions of the
model it rests on: log 35. -/
def Obligations.UnitLoads : Prop :=
  ∀ s : State, s.pw.coreUp = true →
    (∀ p u, s.Serves p → u < 64 → s.on (uLedger u) = false → s.vd.spWait = none → 0 < s.fld (uPeriod u) →
      s.vd.spAct % s.fld (uPeriod u) = 0 → ∃ t, exec (.loadall p (u / 32) (BitVec.ofNat 32 (2 ^ (u % 32)))) s = .next t ∧
        t.fld (uActDuty u) = max (s.fld (uDuty u)) 0x1999A ∧ t.on (uClamp u) = decide (s.fld (uDuty u) < 0x1999A) ∧
        t.on (uPending u) = false ∧ (t.unit u).wait = some (s.fld (uPeriod u), s.fld (uPhase u)) ∧
        t.fld (uActPeriod u) = s.fld (uActPeriod u)) ∧
    (∀ p u, s.Serves p → u < 64 → s.on (uLedger u) = true → s.vd.spWait = none → 0 < s.fld (uPeriod u) →
      s.vd.spAct % s.fld (uPeriod u) = 0 → ∃ t, exec (.loadall p (u / 32) (BitVec.ofNat 32 (2 ^ (u % 32)))) s = .next t ∧
        t.fld (uActDuty u) = s.fld (uActDuty u) ∧ (t.unit u).wait = some (s.fld (uPeriod u), s.fld (uPhase u))) ∧
    (∀ p u, s.Serves p → u < 64 → s.vd.spWait = none → s.vd.spAct % s.fld (uPeriod u) ≠ 0 →
      ∃ t, exec (.loadall p (u / 32) (BitVec.ofNat 32 (2 ^ (u % 32)))) s = .next t ∧ t.vd = s.vd ∧
        t.fld (uActDuty u) = s.fld (uActDuty u) ∧ t.fld (uPending u) = s.fld (uPending u) ∧ t.on Reg.VD_EVENT_CFG_ERR = true) ∧
    (∀ p, s.Serves p → 0 < s.fld Reg.SP_PERIOD_PERIOD →
      (∀ u ∈ s.variant.units, 0 < s.periodAfter [] u ∧ s.fld Reg.SP_PERIOD_PERIOD % s.periodAfter [] u = 0) →
      ∃ t, exec (.loadallAux p 0x10000) s = .next t ∧ t.vd.spWait = some (s.fld Reg.SP_PERIOD_PERIOD) ∧ t.vd.spAct = s.vd.spAct ∧
        t.vd.units = s.vd.units) ∧
    (∀ p, s.Serves p → (∃ u ∈ s.variant.units, s.periodAfter [] u ≠ 0 ∧ s.fld Reg.SP_PERIOD_PERIOD % s.periodAfter [] u ≠ 0) →
      ∃ t, exec (.loadallAux p 0x10000) s = .next t ∧ t.vd = s.vd ∧ t.on Reg.VD_EVENT_CFG_ERR = true) ∧
    (s.vd.haltFt = none → 0 < s.vd.spAct → 0 < tdiff (s.ft - BitVec.ofNat 64 (s.ft.toNat % s.vd.spAct)) s.vd.spStart →
      ∃ t, exec .superPeriodStart s = .next t ∧ t.vd.spStart = s.ft - BitVec.ofNat 64 (s.ft.toNat % s.vd.spAct) ∧
        t.vd.spAct = s.vd.spWait.getD s.vd.spAct ∧ t.vd.spWait = none ∧
        ∀ u per ph, s.vd.units = [(u, { phase := 0, wait := some (per, ph) })] → u < 144 → per < 2 ^ 32 →
          t.fld (uActPeriod u) = per ∧ (t.unit u).phase = ph ∧ (t.unit u).wait = none) ∧
    (0 < s.vd.spAct → s.vd.haltFt ≠ none ∨ tdiff (s.ft - BitVec.ofNat 64 (s.ft.toNat % s.vd.spAct)) s.vd.spStart ≤ 0 →
      exec .superPeriodStart s = .next s)

/-- R27, R161, R205, R206, R398, R468, R208: the stop paths. Covers STOP_N_LOW, STOP_N_HIGH, STOP_RELEASE, EXTEST, DEBUG_HALT and
DEBUG_RESUME. Conventions of the model it rests on: log 47 and 52. -/
def Obligations.StopPaths : Prop :=
  ∀ s : State,
    (s.rs.stopLow = false → ∃ t, exec .stopNLow s = .next t ∧ t.rs.stopLow = true ∧ t.on Reg.RES_STATE_STOP = true ∧
      t.fbit Reg.RES_STATE_STOP_SRC 0 = true ∧ (∀ o, t.isOpen o = false) ∧
      (∀ n, n < s.variant.valves → s.vState n = vOpening ∨ s.vState n = vHold → t.vState n = vDecay ∧ (t.valve n).after = 0) ∧
      (∀ n, n < s.variant.valves → s.vState n = vModOff → t.vState n = vIdle) ∧
      (∀ i e, s.entry i = some e → e.st = eBooked ∨ e.st = eCommitted → ∃ x, t.entry i = some x ∧ x.st = eCancelled ∧ x.cause = 4 ∧
        x.wdr = (e.wdr || decide (e.st = eCommitted)))) ∧
    (s.rs.stopLow = true → ∃ t, exec .stopNHigh s = .next t ∧ t.rs.stopLow = false ∧ t.vd.stopLow = false ∧ t.rs.highAt = some s.ft ∧
      t.fld Reg.RES_STATE_STOP = s.fld Reg.RES_STATE_STOP ∧ t.lg = s.lg) ∧
    (∀ h, s.rs.stopLow = false → s.rs.highAt = some h → s.on Reg.RES_CTRL_STOPN_AUTO = true → s.fld Reg.RES_STATE_STOP_SRC = 1 →
      s.on Reg.RES_STATE_STOP = true →
      ((s.ft - h).toNat < 80000000 → exec .stopNHigh s = .next s) ∧
      (80000000 ≤ (s.ft - h).toNat → ∃ t, exec .stopNHigh s = .next t ∧ t.rs.stopLow = false ∧ t.on Reg.RES_STATE_STOP = false ∧
        t.fld Reg.RES_STATE_STOP_SRC = 0 ∧ t.on Reg.RES_EVENT_RELEASED = true)) ∧
    (∀ p, s.Serves p → s.rs.stopLow = false → s.on Reg.RES_STATE_STOP = true → ∃ t, exec (.stopRelease p) s = .next t ∧
      t.on Reg.RES_STATE_STOP = false ∧ t.fld Reg.RES_STATE_STOP_SRC = 0 ∧ t.on Reg.RES_EVENT_RELEASED = true ∧
      t.fld Reg.RES_STATE_HELD_SAFE = s.fld Reg.RES_STATE_HELD_SAFE) ∧
    (∀ p, s.Serves p → s.rs.stopLow = true → ∃ t, exec (.stopRelease p) s = .next t ∧
      t.fld Reg.RES_STATE_STOP = s.fld Reg.RES_STATE_STOP ∧ t.on Reg.RES_EVENT_CFG_ERR = true) ∧
    (s.pw.coreUp = true → ∃ t, exec .extest s = .next t ∧ t.on Reg.RES_STATE_STOP = true ∧ t.fbit Reg.RES_STATE_STOP_SRC 1 = true ∧
      (∀ o, t.isOpen o = true → s.isOpen o = true ∧ s.on (Reg.OT_CFG_SAFE_OPEN o) = true) ∧
      (∀ i e, s.entry i = some e → e.st = eBooked ∨ e.st = eCommitted → ∃ x, t.entry i = some x ∧ x.st = eCancelled ∧ x.cause = 4)) ∧
    (s.pw.coreUp = true → s.on Reg.VD_STATUS_HALTED = false → s.on Reg.DBG_CFG_HALT_OFF = false → ∃ t, exec .debugHalt s = .next t ∧
      t.on Reg.VD_STATUS_HALTED = true ∧ t.vd = { s.vd with haltFt := some s.ft } ∧ ∀ n, n < 128 → t.vState n = s.vState n) ∧
    (s.pw.coreUp = true → s.on Reg.VD_STATUS_HALTED = false → s.on Reg.DBG_CFG_HALT_OFF = true → ∃ t, exec .debugHalt s = .next t ∧
      t.on Reg.VD_STATUS_HALTED = true ∧ ∀ n, n < s.variant.valves → s.on (Reg.VCH_CFG_MAPPED n) = true → dieOf n ∈ s.vd.shaken →
        s.on (Reg.OT_CFG_SAFE_OPEN (s.fld (Reg.VCH_CFG_OUTLET n))) = false → s.vState n = vHold ∨ s.vState n = vOpening →
          t.vState n = vDecay ∧ (t.valve n).safe = 1) ∧
    (s.pw.coreUp = true → s.on Reg.VD_STATUS_HALTED = true → ∃ t, exec .debugResume s = .next t ∧ t.on Reg.VD_STATUS_HALTED = false ∧
      ∀ n, n < s.variant.valves → (t.valve n).queued = none)

/-- R207 and R391: the internal links to the dies. Covers DIE_PATH_LOST, DIE_LINK_LOST and INTERNAL_LINK_HANDSHAKE. Conventions of the
model it rests on: log 47 and 52. -/
def Obligations.DieLinks : Prop :=
  ∀ s : State, s.pw.coreUp = true → s.variant ≠ .f0512 →
    (∀ d path, d < 3 → s.fbit Reg.RES_STATE_DIE_PATH d = false → ∃ t, exec (.diePathLost d path) s = .next t ∧
      t.fbit Reg.RES_STATE_DIE_PATH d = true ∧ t.on Reg.RES_EVENT_DIE_PATH = true ∧ t.vd = s.vd ∧ t.lg = s.lg ∧
      t.fld Reg.RES_CNT_C_PATH_N = min (s.fld Reg.RES_CNT_C_PATH_N + 1) (2 ^ Reg.RES_CNT_C_PATH_N.width - 1)) ∧
    (∀ d, d < 2 → s.dieUp d = true → ∃ t, exec (.dieLinkLost d) s = .next t ∧ t.dieUp d = false ∧ t.on Reg.VD_EVENT_LINK_LOST = true ∧
      t.on Reg.RES_EVENT_DIE_LINK = true ∧ ∀ n, n < 128 → dieOf n = d → t.on (Reg.VCH_FAULT_LINK n) = true ∧ t.vState n ≠ vFault ∨
        s.vState n = vFault ∧ t.on (Reg.VCH_FAULT_LINK n) = true) ∧
    (s.on Reg.LS_STATUS_SW_LINK = true → ∃ t, exec (.dieLinkLost 2) s = .next t ∧ t.on Reg.LS_STATUS_SW_LINK = false ∧
      t.on Reg.RES_EVENT_DIE_LINK = true ∧ t.vd = s.vd) ∧
    (∀ d, d < 2 → ∃ t, exec (.internalLinkHandshake d) s = .next t ∧ t.dieUp d = true ∧ t.fbit Reg.RES_STATE_DIE_PATH d = false) ∧
    (∃ t, exec (.internalLinkHandshake 2) s = .next t ∧ t.on Reg.LS_STATUS_SW_LINK = true ∧ t.fbit Reg.RES_STATE_DIE_PATH 2 = false)

/-- R384–R388 and R395: lanes, takeovers and held-safe. Covers LANE_FAULT, LANE_DISAGREEMENT, LANE_SELF_TEST_DONE, LANE_COPY_DONE,
TAKEOVER_END and LANE_RETRY. Conventions of the model it rests on: log 47 and 52. -/
def Obligations.LaneTransitions : Prop :=
  ∀ s : State, s.pw.coreUp = true →
    (∀ l c u m a, l < 2 → s.fld Reg.RES_STATE_STATE = 0 → s.fld Reg.IMG_STATUS_STAGE ≠ 4 → ∃ t, exec (.laneFault l c u m a) s = .next t ∧
      t.fld Reg.RES_STATE_STATE = 1 ∧ t.fld (laneFld l) = 3 ∧ t.fld (laneFld (1 - l)) = s.fld (laneFld (1 - l)) ∧
      t.on Reg.RES_EVENT_TAKEOVER = true ∧ t.rs.takeover.map (·.lane) = some l ∧ t.lg = s.lg ∧
      t.fld Reg.RES_STATE_HELD_SAFE = s.fld Reg.RES_STATE_HELD_SAFE) ∧
    (∀ l u m a, l < 2 → s.fld Reg.RES_STATE_STATE = 0 → s.fld Reg.IMG_STATUS_STAGE ≠ 4 → m = 1 ∨ m = 5 → a < 2 ^ 32 →
      ∃ t, exec (.laneFault l 0 u m a) s = .next t ∧ t.fld Reg.RES_STATE_STATE = 1 ∧ t.fld Reg.RES_ECCLOG_MEMORY = m ∧
        t.fld Reg.RES_ECCLOG_WHERE = l ∧ t.fld Reg.RES_ECCADDR_ADDR = a ∧ t.on Reg.RES_EVENT_ECC_UNCORR = true) ∧
    (∀ l c u m a, l < 2 → s.fld Reg.RES_STATE_STATE = 2 → s.fld (laneFld l) ≠ 2 → s.on Reg.RES_STATE_HELD_SAFE = false →
      ∃ t, exec (.laneFault l c u m a) s = .next t ∧ t.fld Reg.RES_STATE_STATE = 3 ∧ t.on Reg.RES_STATE_HELD_SAFE = true ∧
        t.fld Reg.RES_HSCAUSE_CAUSE = 2) ∧
    (∀ l c u m a, l < 2 → s.fld Reg.RES_STATE_STATE = 1 → s.on Reg.RES_STATE_HELD_SAFE = false → ∃ t, exec (.laneFault l c u m a) s = .next t ∧
      t.on Reg.RES_STATE_HELD_SAFE = true ∧ t.fld Reg.RES_HSCAUSE_CAUSE = 1 ∧ t.on Reg.RES_EVENT_HELD_SAFE = true ∧
      (∀ i e, s.entry i = some e → e.st = eBooked ∨ e.st = eCommitted → ∃ x, t.entry i = some x ∧ x.st = eCancelled ∧ x.cause = 4)) ∧
    (s.fld Reg.RES_STATE_STATE = 0 → s.on Reg.RES_STATE_HELD_SAFE = false → ∃ t, exec .laneDisagreement s = .next t ∧
      t.on Reg.RES_STATE_HELD_SAFE = true ∧ t.fld Reg.RES_HSCAUSE_CAUSE = 3 ∧ t.fld Reg.RES_STATE_STATE = 0) ∧
    (∀ k, s.rs.takeover = some k → k.lane < 2 → k.passed = none → ∃ t, exec (.laneSelfTestDone true) s = .next t ∧ t.fld (laneFld k.lane) = 1 ∧
      t.rs.takeover = some { k with passed := some true }) ∧
    (∀ k, s.rs.takeover = some k → k.lane < 2 → k.passed = none → ∃ t, exec (.laneSelfTestDone false) s = .next t ∧ t.fld (laneFld k.lane) = 2 ∧
      t.on Reg.RES_EVENT_FENCED = true ∧ t.rs.takeover = some { k with passed := some false }) ∧
    (∀ k, s.rs.takeover = some k → k.passed = some true → ∃ t, exec .laneCopyDone s = .next t ∧ t.rs.takeover = some { k with copied := true }) ∧
    (∀ k, s.rs.takeover = some k → k.lane < 2 → s.ft.toNat % 400000 = 0 → k.copied = true → s.rs.held = [] → s.hp.heldCpl = [] →
      ∃ t, exec .takeoverEnd s = .next t ∧ t.fld Reg.RES_STATE_STATE = 0 ∧ t.fld (laneFld k.lane) = 0 ∧ t.rs.takeover = none ∧
        t.on Reg.RES_EVENT_RECOVERED = true ∧ t.fld Reg.RES_TIMES_LAST = min ((s.ft - k.since).toNat / 8000) 1023) ∧
    (∀ k, s.rs.takeover = some k → k.lane < 2 → s.ft.toNat % 400000 = 0 → k.copied = false → k.passed = some false → s.rs.held = [] → s.hp.heldCpl = [] →
      ∃ t, exec .takeoverEnd s = .next t ∧ t.fld Reg.RES_STATE_STATE = 2 ∧ t.fld (laneFld k.lane) = s.fld (laneFld k.lane) ∧
        t.rs.takeover = none) ∧
    (s.ft.toNat % 400000 ≠ 0 → exec .takeoverEnd s = .next s) ∧
    (∀ p, s.Serves p → s.fld Reg.RES_STATE_STATE = 2 → s.fld Reg.RES_STATE_LANE_A = 2 → s.fld Reg.IMG_STATUS_STAGE ≠ 4 →
      ∃ t, exec (.laneRetry p) s = .next t ∧ t.fld Reg.RES_STATE_STATE = 1 ∧ t.rs.takeover.map (·.lane) = some 0 ∧
        t.on Reg.RES_EVENT_TAKEOVER = true) ∧
    (∀ p, s.Serves p → s.fld Reg.RES_STATE_STATE ≠ 2 → ∃ t, exec (.laneRetry p) s = .next t ∧
      t.fld Reg.RES_STATE_STATE = s.fld Reg.RES_STATE_STATE ∧ t.on Reg.RES_EVENT_CFG_ERR = true)

/-- R389, R390, R392, R393 and R397: fire copies, scrub passes, references and HS_CLEAR. Covers FIRE_COMPARE, FIRE_RELOAD_DONE,
FIRE_RETRY, MEMORY_SCRUB, REFERENCE_COMPARE and HS_CLEAR. R397 in NONE: HS_CLEAR resets both lanes, and the reload ends held-safe in
DUAL or SINGLE, or leaves it with cause START where both lanes fail. Covers HELD_SAFE_RELOAD_DONE. Conventions of the model it rests
on: log 47 and 52. -/
def Obligations.ResilienceBlock : Prop :=
  (∀ s : State, s.pw.coreUp = true →
     (∀ c a, c < 3 → s.fld Reg.RES_STATE_FIRE_OK = 7 → ∃ t, exec (.fireCompare (2 ^ c) 0 a) s = .next t ∧ t.fbit Reg.RES_STATE_FIRE_OK c = false ∧
       t.fireCopies = 2 ∧ t.on Reg.RES_EVENT_FIRE_COPY = true ∧ c ∈ t.rs.reloading ∧
       t.fld Reg.RES_STATE_HELD_SAFE = s.fld Reg.RES_STATE_HELD_SAFE) ∧
     (∀ c a, c < 3 → s.fireCopies = 2 → s.fbit Reg.RES_STATE_FIRE_OK c = true → s.on Reg.RES_STATE_HELD_SAFE = false →
       ∃ t, exec (.fireCompare (2 ^ c) 0 a) s = .next t ∧ t.on Reg.RES_STATE_HELD_SAFE = true ∧ t.fld Reg.RES_HSCAUSE_CAUSE = 4) ∧
     (∀ c a, c < 3 → s.fld Reg.RES_STATE_FIRE_OK = 7 → a < 2 ^ 32 → ∃ t, exec (.fireCompare 0 (2 ^ c) a) s = .next t ∧
       t.fbit Reg.RES_STATE_FIRE_OK c = false ∧ t.fireCopies = 2 ∧ t.fld Reg.RES_ECCLOG_MEMORY = 2 ∧ t.fld Reg.RES_ECCLOG_COPY = c ∧
       t.fld Reg.RES_ECCADDR_ADDR = a ∧ t.on Reg.RES_EVENT_ECC_UNCORR = true) ∧
     (∀ c ok, c < 3 → c ∈ s.rs.reloading → ∃ t, exec (.fireReloadDone c ok) s = .next t ∧ t.fbit Reg.RES_STATE_FIRE_OK c = ok ∧
       t.fbit Reg.RES_STATE_FIRE_FENCED c = !ok) ∧
     (∀ p, s.Serves p → ∃ t, exec (.fireRetry p) s = .next t ∧
       t.rs.reloading = (List.range 3).filter (fun c => !s.fbit Reg.RES_STATE_FIRE_OK c)) ∧
     (∀ mem x, 1 ≤ mem → mem ≤ 8 → mem ≠ 7 → x.bad = false → ∃ t, exec (.memoryScrub mem [x]) s = .next t ∧
       t.fld Reg.RES_CNT_B_ECC_CORR_N = min (s.fld Reg.RES_CNT_B_ECC_CORR_N + 1) (2 ^ Reg.RES_CNT_B_ECC_CORR_N.width - 1) ∧
       t.reg 0x5C0030 = s.reg 0x5C0030) ∧
     (∀ x, x.bad = true → x.place < 4 → x.copy < 4 → x.addr < 2 ^ 32 → ∃ t, exec (.memoryScrub 8 [x]) s = .next t ∧ t.im.storeBad = true ∧
       t.on Reg.RES_EVENT_ECC_UNCORR = true ∧ t.fld Reg.RES_ECCLOG_MEMORY = 8 ∧ t.fld Reg.RES_ECCADDR_ADDR = x.addr) ∧
     (∀ g d, g < 5 → s.variant ≠ .f0512 → s.on Reg.RES_CTRL_REFA_EN = false → s.refGroup g = {} → s.on (Reg.REF_STAT_WARN g) = false →
       -1000000 ≤ d → d < 48576 → s.fld (Reg.REF_STAT_VOTED g) = 0 → ∃ t, exec (.referenceCompare g d 0 0 3) s = .next t ∧
         t.fld (Reg.REF_D01_D g) = d.natAbs / 16 ∧ t.on (Reg.REF_STAT_WARN g) = decide (4000 < d.natAbs / 16) ∧
         t.fld (Reg.REF_STAT_IN_VOTE g) = 3) ∧
     (∀ p, s.Serves p → s.on Reg.RES_STATE_HELD_SAFE = true → s.fld Reg.RES_STATE_STATE = 0 ∨ s.fld Reg.RES_STATE_STATE = 2 →
       2 ≤ s.fireCopies → ∃ t, exec (.hsClear p) s = .next t ∧ t.on Reg.RES_STATE_HELD_SAFE = false ∧ t.on Reg.RES_EVENT_RELEASED = true) ∧
     (∀ p, s.Serves p → s.on Reg.RES_STATE_HELD_SAFE = true → s.fld Reg.RES_STATE_STATE = 1 ∨ s.fireCopies < 2 → s.rs.takeover.isSome = true →
       ∃ t, exec (.hsClear p) s = .next t ∧ t.on Reg.RES_STATE_HELD_SAFE = true ∧ t.on Reg.RES_EVENT_CFG_ERR = true)) ∧
  (∀ s : State, s.pw.coreUp = true →
     (s.rs.clearing = true → s.im.active = none → s.on Reg.RES_STATE_HELD_SAFE = true → ∃ t, exec (.heldSafeReloadDone true true) s = .next t ∧
       t.fld Reg.RES_STATE_STATE = 0 ∧ t.on Reg.RES_STATE_HELD_SAFE = false ∧ t.ledger = [] ∧ t.poState = poOff ∧ t.rs.clearing = false) ∧
     (∀ a, s.rs.clearing = true → s.im.active = none → ∃ t, exec (.heldSafeReloadDone a !a) s = .next t ∧
       t.fld Reg.RES_STATE_STATE = 2 ∧ t.fld (laneFld (if a = true then 1 else 0)) = 2 ∧ t.fld (laneFld (if a = true then 0 else 1)) = 0 ∧
       t.on Reg.RES_EVENT_FENCED = true) ∧
     (s.rs.clearing = true → s.on Reg.RES_STATE_HELD_SAFE = true → ∃ t, exec (.heldSafeReloadDone false false) s = .next t ∧
       t.on Reg.RES_STATE_HELD_SAFE = true ∧ t.fld Reg.RES_HSCAUSE_CAUSE = 5 ∧ t.fld Reg.RES_STATE_STATE = s.fld Reg.RES_STATE_STATE))

/-- R218, R220, R223, R236 on a link whose hold registers show its mask: what a cycle carries. Covers LINK_CYCLE. R223, R237, R239,
R243: ND_CTRL. Covers ND_ACCEPT, ND_REMOVE, ND_RESET and ND_RESYNC. Conventions of the model it rests on: log 36. -/
def Obligations.LinkCyclesAndNodeControl : Prop :=
  (∀ s : State, s.pw.coreUp = true → ∀ l, l < s.variant.links → s.on (Reg.LK_CTRL_EN l) = true → (s.link l).holdFrames ≤ 3 →
     (s.link l).unsent = [] → s.fld (Reg.LK_HOLD_LO_HOLD l) + 2 ^ 32 * s.fld (Reg.LK_HOLD_HI_HOLD l) = s.holdMask l →
     (∀ f ∈ (s.link l).ctl, 2 ≤ f.type ∧ f.type ≤ 8) → (∀ c ∈ (s.link l).cmds, 0x10 ≤ c.type ∧ (c.type = 0x12 ∨ c.holds = none)) →
     ∃ t, exec (.linkCycle l) s = .next t ∧ (t.link l).cycle = s.ft.toNat / 800000 ∧ (t.link l).holdFrames = 0 ∧
       t.fld (Reg.LK_STATUS_STATE l) ≠ 0 ∧ ((t.link l).sent.map OutFrame.symbols).sum ≤ 1250 ∧
       (t.link l).sent.head? = some ⟨0x01, none, leBytes 8 (s.ft.toNat - s.ft.toNat % 800000) ++ leBytes 2 (s.ft.toNat / 800000) ++
         leBytes 2 (t.fld (Reg.LK_VALID_VALID l)) ++ (leBytes 4 (t.fld (Reg.LK_HOLD_LO_HOLD l)) ++ leBytes 4 (t.fld (Reg.LK_HOLD_HI_HOLD l)))⟩ ∧
       ((s.link l).enumerating.all (fun e => decide (e.2 < 4)) = true → ∀ f ∈ (t.link l).sent.drop (1 + (s.link l).holdFrames), f.type ≠ 0x01 ∧ f.type ≠ 0x09) ∧
       (s.on Reg.IMG_STATUS_ACTIVE = false → ∀ f ∈ (t.link l).sent, f.type < 0x10) ∧
       ∀ p, p < 16 → (s.link l).sent = [s.confirmFrame l p] → s.ndState l p ≠ nEmpty → t.ndState l p = nEnumerated ∧ bit (t.link l).valid p = true) ∧
  (∀ s : State, s.pw.coreUp = true → ∀ q l p, s.Serves q → l < s.variant.links → p < 16 →
     (∃ t, exec (.ndAccept q l p) s = .next t ∧ t.on (Reg.ND_STATE_ID_CHANGED l p) = false ∧ t.ndState l p = s.ndState l p ∧ t.lk = s.lk) ∧
     (s.outletsAt l p = [] → ∃ t, exec (.ndRemove q l p) s = .next t ∧ t.ndState l p = nEmpty ∧ bit (t.link l).valid p = false ∧
       (t.link l).ctl = (s.link l).ctl.filter (fun f => decide (f.pos ≠ some p)) ++ [⟨0x08, some p, []⟩] ∧ ∀ c ∈ (t.link l).cmds, c.pos ≠ p) ∧
     (s.outletsAt l p ≠ [] → ∃ t, exec (.ndRemove q l p) s = .next t ∧ t.ndState l p = s.ndState l p ∧ t.on (Reg.LK_EVENT_CFG_ERR l) = true ∧
       t.lk = s.lk) ∧
     (∃ t, exec (.ndReset q l p) s = .next t ∧ t.ndState l p = nEmpty ∧ bit (t.link l).valid p = false ∧
       (t.link l).ctl = (s.link l).ctl.filter (fun f => decide (f.pos ≠ some p)) ++ [⟨0x08, some p, []⟩]) ∧
     (s.ndState l p = nLost → s.fld (Reg.ND_STATE_NODE_STATE l p) = 5 → (∀ x ∈ (s.link l).ctl ++ (s.link l).sent, x.type ≠ 0x03) →
       ∃ t, exec (.ndResync q l p) s = .next t ∧ t.ndState l p = nLost ∧ (t.link l).ctl = (s.link l).ctl ++ [s.confirmFrame l p]) ∧
     (s.ndState l p = nLost → s.fld (Reg.ND_STATE_NODE_STATE l p) ≠ 5 → ∃ t, exec (.ndResync q l p) s = .next t ∧
       t.ndState l p = nLost ∧ p ∈ (t.link l).resync))

/-- R223: enumeration of a position. Covers ENUM_CHAIN_END and IDENT. Conventions of the model it rests on: log 36. -/
def Obligations.Enumeration : Prop :=
  ∀ s : State, s.pw.coreUp = true → ∀ l, l < s.variant.links →
    (∀ a, (s.link l).assign = some a → ∃ t, exec (.enumChainEnd l) s = .next t ∧ (t.link l).assign = none ∧
      (t.link l).notBefore = tadd s.ft 80000000 ∧ t.fld (Reg.LK_STATUS_STATE l) = 2) ∧
    (∀ p n f, p < 16 → (s.link l).assign = some (p, n) → s.linkOutlets l + f.outlets ≤ 64 → s.fld (Reg.ND_EXPECT_PRODUCT l p) = 0 →
      s.fld (Reg.ND_EXPECT_OUTLETS l p) = 0 → ∃ t, exec (.ident l p f (goodRx 0x81 p (identPayload f))) s = .next t ∧ t.ndState l p = nEnumerating ∧
        (t.link l).enumerating = some (p, 0) ∧ (t.link l).assign = none ∧ t.fld (Reg.ND_STATE_OUT_COUNT l p) = f.outlets ∧
        t.fld (Reg.ND_SERIAL_SERIAL l p) = f.serial % 2 ^ 32 ∧ t.fld (Reg.ND_CAPS_QDEPTH l p) = f.qdepth % 256 ∧
        t.fld (Reg.ND_ID_PRODUCT l p) = f.product % 65536) ∧
    (∀ p n f, p < 16 → (s.link l).assign = some (p, n) → 64 < s.linkOutlets l + f.outlets ∨
      s.fld (Reg.ND_EXPECT_PRODUCT l p) ≠ 0 ∧ s.fld (Reg.ND_EXPECT_PRODUCT l p) ≠ f.product ∨
      s.fld (Reg.ND_EXPECT_OUTLETS l p) ≠ 0 ∧ s.fld (Reg.ND_EXPECT_OUTLETS l p) ≠ f.outlets → ∃ t, exec (.ident l p f (goodRx 0x81 p (identPayload f))) s = .next t ∧
        t.ndState l p = s.ndState l p ∧ t.on (Reg.ND_STATE_MISMATCH l p) = true ∧ t.on (Reg.LK_EVENT_MISMATCH l) = true ∧
        (t.link l).enumerating = (s.link l).enumerating ∧ (t.link l).ctl = (s.link l).ctl ++ [⟨0x08, some p, []⟩]) ∧
    (∀ p n f x, p < 16 → (s.link l).assign = some (p, n) → s.linkOutlets l + f.outlets ≤ 64 → s.fld (Reg.ND_EXPECT_PRODUCT l p) = 0 →
      s.fld (Reg.ND_EXPECT_OUTLETS l p) = 0 → sget (fun _ => none) (s.link l).serials p = some x → x ≠ f.serial →
      ∃ t, exec (.ident l p f (goodRx 0x81 p (identPayload f))) s = .next t ∧ t.on (Reg.ND_STATE_ID_CHANGED l p) = true ∧ t.on (Reg.LK_EVENT_ID_CHANGED l) = true)

/-- R214, R216, R217, R225, R227, R228, R232–R234, R238, R239, R241: what a node's frames do once they come intact; a bad one is
counted and has no effect. Covers PONG, STATUS, ACK, REJECT, SEAL, DIAG, LINK_RETRY, NO_REPORT_TIMEOUT and NODE_LOST. Conventions of
the model it rests on: log 36. -/
def Obligations.NodeFrames : Prop :=
  ∀ s : State, s.pw.coreUp = true → ∀ l p, l < s.variant.links → p < 16 →
    (∀ (turn : Nat) rx tx, (s.link l).pings = [(p, tx)] → sget (fun _ => []) (s.link l).rtts p = [] → inNodeWindow p rx = true → 0 < tdiff rx tx →
      nextWindow p (tx.toNat + 2 * s.fld (Reg.ND_DELAY_D l p)) ≤ rx.toNat → rx.toNat < nextWindow p (tx.toNat + 2 * s.fld (Reg.ND_DELAY_D l p)) + 46080 →
      0 ≤ tdiff rx tx - turn → tdiff rx tx - turn < 2 ^ 20 →
      ∃ t, exec (.pong l p turn rx (goodRx 0x82 p (leBytes 4 turn))) s = .next t ∧ (t.fld (Reg.ND_DELAY_D l p) : Int) = (tdiff rx tx - turn) / 2 ∧
        t.fld (Reg.ND_SPREAD_SPREAD l p) = 0 ∧ (t.link l).pings = []) ∧
    (∀ turn rx w, (0 < w.code → exec (.pong l p turn rx w) s = .next (s.bump (Reg.LK_CNT_CODE_N l) w.code)) ∧
      (w.code = 0 → w.symbols ≠ 11 → exec (.pong l p turn rx w) s = .next s) ∧
      (w.code = 0 → w.symbols = 11 → w.check ≠ crc16 (inBytes 0x82 p (leBytes 4 turn)) →
        exec (.pong l p turn rx w) s = .next (s.bump (Reg.LK_CNT_CRC_N l) 1))) ∧
    (∀ f, s.ndState l p = nEnumerated → f.state = 5 → ∃ t, exec (.status l p f (goodRx 0x83 p (statusPayload f))) s = .next t ∧ t.ndState l p = nDivergent ∧
      bit (t.link l).valid p = false ∧ t.on (Reg.LK_EVENT_DIVERGENT l) = true ∧ t.fld (Reg.ND_STATE_NODE_STATE l p) = 5) ∧
    (∀ f, s.ndState l p = nLost ∨ s.ndState l p = nDivergent → f.state = 5 → s.on (Reg.LK_CTRL_AUTO_RESYNC l) = true →
      (∀ x ∈ (s.link l).ctl ++ (s.link l).sent, x.type ≠ 0x03) →
      ∃ t, exec (.status l p f (goodRx 0x83 p (statusPayload f))) s = .next t ∧ t.ndState l p = s.ndState l p ∧
        (t.link l).valid = (s.link l).valid ∧ (t.link l).ctl = (s.link l).ctl ++ [s.confirmFrame l p]) ∧
    (∀ c pending, pending < 256 → (s.link l).cmds = [c] → c.pos = p → c.acked = false → c.withdrawn = false → c.type ≠ 0x12 → ∀ q, c.seq = some q → q < 4096 →
      c.rejected = false → ∃ t, exec (.ack l p q pending (goodRx 0x90 p (leBytes 2 q ++ leBytes 1 pending))) s = .next t ∧ (t.link l).cmds = [{ c with acked := true }] ∧
        t.fld (Reg.ND_SEQ_ACK_SEQ l p) = q ∧ t.fld (Reg.ND_SEQ_PENDING l p) = pending ∧
        ∀ i e, c.entry = some i → s.entry i = some e → t.entry i = some { e with acked := true }) ∧
    (∀ c q r, (s.link l).cmds = [c] → c.pos = p → c.seq = some q → ∃ t, exec (.reject l p q r (goodRx 0x91 p (leBytes 2 q ++ leBytes 1 r))) s = .next t ∧
      (t.link l).cmds = [{ c with rejected := true }] ∧ t.on (Reg.LK_EVENT_REJECT l) = true ∧
      t.fld (Reg.LK_CNT2_REJECT_N l) = min (s.fld (Reg.LK_CNT2_REJECT_N l) + 1) 65535) ∧
    (∀ f, s.holdsBack = true → ∃ t, exec (.sealFrame l p f (goodRx 0x92 p (sealPayload f))) s = .next t ∧ t.rs.held = s.rs.held ++ [.link (.sealFrame l p f (goodRx 0x92 p (sealPayload f)))] ∧ t.lg = s.lg) ∧
    (∀ c f i e, s.holdsBack = false → (s.link l).cmds = [c] → c.pos = p → c.type = 0x10 → c.seq = some f.seq → c.out = f.out →
      c.entry = some i → s.entry i = some e → e.st = eFired → e.kind ≠ kRate → 1 ≤ f.code → f.code ≤ 4 →
      ∃ t x, exec (.sealFrame l p f (goodRx 0x92 p (sealPayload f))) s = .next t ∧ t.entry i = some x ∧ x.st = eSealed ∧ x.code = f.code) ∧
    (∀ o f v, s.holdsBack = false → o < 256 → f < 65536 → v < 65536 → ∃ t, exec (.diag l p o f v (goodRx 0x93 p (leBytes 1 o ++ leBytes 2 f ++ leBytes 2 v))) s = .next t ∧
      t.fld (Reg.ND_DIAG_OUT l p) = o ∧ t.fld (Reg.ND_DIAG_FAULT l p) = f ∧ t.fld (Reg.ND_DIAGV_VALUE l p) = v ∧ t.lg = s.lg) ∧
    (∀ c, (s.link l).cmds = [c] → c.pos = p → c.sent = true → c.acked = false → 0 < tdiff c.due s.ft → ∃ t, exec (.linkRetry l p) s = .next t ∧
      (t.link l).cmds = [{ c with sent := false }] ∧ t.fld (Reg.LK_CNT2_RETRY_N l) = min (s.fld (Reg.LK_CNT2_RETRY_N l) + 1) 65535) ∧
    (∀ i e, s.entry i = some e → e.st = eFired → e.remote = true → e.kind ≠ kRate → s.sealHeld i = false → ∃ t x, exec (.noReportTimeout i) s = .next t ∧
      t.entry i = some x ∧ x.st = eSealed ∧ x.code = sNoReport) ∧
    (s.ndState l p = nEnumerated ∨ s.ndState l p = nDivergent → ∃ t, exec (.nodeLost l p) s = .next t ∧ t.ndState l p = nLost ∧
      bit (t.link l).valid p = false ∧ t.on (Reg.LK_EVENT_NODE_LOST l) = true)

/-- R249–R252, R258 and Table 9.2: triggers, the ramp and the end of a run. Covers SLOT_RUN. Conventions of the model it rests on: log
37 and 38. -/
def Obligations.SlotTriggers : Prop :=
  ∀ s : State, s.pw.coreUp = true → ∀ k trig, k < 64 →
    exec (.slotRun k trig) s = exec (.slotRun k trig) s.loopSettle ∧
    (s.slotReady k = true → s.fld (Reg.SL_CFG_TRIG k) = 0 → tge trig (s.slot k).earliest = true → tge s.ft trig = true →
      trig.toNat % (8000 * s.fld (Reg.SL_TIMER_TPER k)) = 8000 * s.fld (Reg.SL_TIMER_TOFS k) % (8000 * s.fld (Reg.SL_TIMER_TPER k)) →
      s.slotTrigger k trig = some (trig, { s.slot k with earliest := trig + 1 })) ∧
    (s.slState k = slStopped ∨ s.slState k = slSafe ∨ s.slState k = slOff → exec (.slotRun k trig) s = .next s.loopSettle) ∧
    (s.loopSettle = s → s.slotReady k = false ∨ s.slotTrigger k trig = none → exec (.slotRun k trig) s = .next s) ∧
    (s.loopSettle = s → s.slotReady k = true → (s.slotTrigger k trig).isSome = true →
    s.fld (Reg.SL_CFG_ENTRY k) < 4094 → s.fld (Reg.PROG_INSTR (k / 8) (s.fld (Reg.SL_CFG_ENTRY k))) = 0x4000 →
    (s.slState k = slRun → (s.slot k).busy = none → s.fld (Reg.SL_SPCFG_SP_SRC k) = 0 → s.fld (Reg.SL_SPSLEW_SLEW k) = 0 →
      ∃ t, exec (.slotRun k trig) s = .next t ∧ t.slState k = slRun ∧ t.sfld (Reg.SL_RAMP_R k) = s.sfld (Reg.SL_SETP_S k) ∧
        t.fld (Reg.SL_RUNS_RUNS k) = (s.fld (Reg.SL_RUNS_RUNS k) + 1) % 2 ^ 32) ∧
    (∀ e, s.slState k = slRun ∨ s.slState k = slSoft → (s.slot k).busy = some e → (s.slotTrigger k trig).any (fun y => tge y.1 e) = false → ∃ t, exec (.slotRun k trig) s = .next t ∧
      some t.lp = (s.slotTrigger k trig).map (fun y => (s.setSlot k y.2).lp) ∧ t.fld (Reg.SL_RUNS_RUNS k) = s.fld (Reg.SL_RUNS_RUNS k) ∧ t.on Reg.LP_EVENT_OVERRUN = true ∧
      t.fld (Reg.SL_OVR_OVR_N k) = min (s.fld (Reg.SL_OVR_OVR_N k) + 1) 65535) ∧
    (s.slState k = slSoft → (s.slot k).busy = none → (s.slot k).entering = true → s.fld (Reg.SL_SPCFG_SP_SRC k) = 0 →
      s.fld (Reg.SL_SSLEW_SLEW k) ≠ 0 → ∃ t, exec (.slotRun k trig) s = .next t ∧ t.sfld (Reg.SL_RAMP_R k) = s.sfld (Reg.SL_RAMP_R k) ∧
        t.slState k = if s.sfld (Reg.SL_RAMP_R k) = s.sfld (Reg.SL_SETP_S k) then slRun else slSoft) ∧
    (s.slState k = slSoft → (s.slot k).busy = none → (s.slot k).entering = false → (s.slot k).lastS = s.sfld (Reg.SL_SETP_S k) →
      s.fld (Reg.SL_SPCFG_SP_SRC k) = 0 → s.fld (Reg.SL_SSLEW_SLEW k) ≠ 0 → s.sfld (Reg.SL_RAMP_R k) < s.sfld (Reg.SL_SETP_S k) →
      ∃ t, exec (.slotRun k trig) s = .next t ∧
        t.sfld (Reg.SL_RAMP_R k) = min (s.sfld (Reg.SL_RAMP_R k) + s.fld (Reg.SL_SSLEW_SLEW k)) (s.sfld (Reg.SL_SETP_S k))) ∧
    (s.slState k = slSoft → (s.slot k).busy = none → (s.slot k).entering = false → (s.slot k).lastS ≠ s.sfld (Reg.SL_SETP_S k) →
      s.fld (Reg.SL_SPCFG_SP_SRC k) = 0 → s.fld (Reg.SL_SSLEW_SLEW k) ≠ 0 → s.fld (Reg.SL_IN_KIND k 0) = 9 → s.fld (Reg.SL_IN_INDEX k 0) < 64 →
      ∃ t, exec (.slotRun k trig) s = .next t ∧ t.sfld (Reg.SL_RAMP_R k) = s.sfld (Reg.HIN_VALUE (s.fld (Reg.SL_IN_INDEX k 0)))))

/-- R246–R249, Table 9.4: short programs of a slot in RUN. Covers SLOT_RUN. Conventions of the model it rests on: log 37 and 38. -/
def Obligations.SlotPrograms : Prop :=
  ∀ s : State, s.pw.coreUp = true → s.loopSettle = s → ∀ k trig, k < 64 → s.slotReady k = true → (s.slotTrigger k trig).isSome = true → s.slState k = slRun →
    (s.slot k).busy = none → s.on Reg.SMP_CTRL_EN = false → s.on (Reg.CP_CTRL_ARM (k / 8)) = false →
    s.on (Reg.TG_CTRL_RUN (k / 8)) = false →
    ∀ a, s.fld (Reg.SL_CFG_ENTRY k) = a → a < 4093 →
    (∀ imm, imm < 16384 → s.fld (Reg.PROG_INSTR (k / 8) a) = 0x10000 + imm → s.fld (Reg.PROG_INSTR (k / 8) (a + 1)) = 0x4000 →
      ∃ t, exec (.slotRun k trig) s = .next t ∧ (t.slot k).x = (if imm < 8192 then (imm : Int) else imm - 16384) * 64) ∧
    (∀ p, p < 16 → s.fld (Reg.PROG_INSTR (k / 8) a) = 0x14000 + p → s.fld (Reg.PROG_INSTR (k / 8) (a + 1)) = 0x4000 →
      s.fld (Reg.SL_IN_KIND k p) = 9 → s.fld (Reg.SL_IN_INDEX k p) < 64 → ∃ t, exec (.slotRun k trig) s = .next t ∧
        (t.slot k).x = s.sfld (Reg.HIN_VALUE (s.fld (Reg.SL_IN_INDEX k p)))) ∧
    (∀ imm p, imm < 8192 → p < 8 → s.fld (Reg.PROG_INSTR (k / 8) a) = 0x10000 + imm → s.fld (Reg.PROG_INSTR (k / 8) (a + 1)) = 0x18000 + p →
      s.fld (Reg.PROG_INSTR (k / 8) (a + 2)) = 0x4000 → s.fld (Reg.SL_OUTCFG_KIND k p) = 6 → s.fld (Reg.SL_OUTCFG_INDEX k p) < 64 →
      ∃ t, exec (.slotRun k trig) s = .next t ∧ t.sfld (Reg.SL_OUT_VALUE k p) = imm * 64 ∧
        t.sfld (Reg.HOUT_VALUE (s.fld (Reg.SL_OUTCFG_INDEX k p))) = imm * 64) ∧
    (∀ c d, c < 64 → d < 64 → s.fld (Reg.PROG_INSTR (k / 8) a) = 0x58000 + 256 * c + d → s.fld (Reg.PROG_INSTR (k / 8) (a + 1)) = 0x4000 →
      ∃ t, exec (.slotRun k trig) s = .next t ∧ (t.slot k).a = max (-(2 ^ 39)) (min (2 ^ 39 - 1)
        (s.sfld (Reg.DATA_D k d) * sx 16 (s.fld (Reg.COEF_C k c)) * 2 ^ (s.fld (Reg.COEF_C k c) / 65536 % 16)))) ∧
    (∀ d, d < 64 → s.fld (Reg.DATA_D k d) = 0 → s.fld (Reg.PROG_INSTR (k / 8) a) = 0x64000 + d → s.fld (Reg.PROG_INSTR (k / 8) (a + 1)) = 0x4000 →
      ∃ t, exec (.slotRun k trig) s = .next t ∧ (t.slot k).x = 0x7FFFF ∧ t.on (Reg.SL_FLAGS_DIV0 k) = true) ∧
    (∀ d e, d < 64 → e < 64 → s.fld (Reg.PROG_INSTR (k / 8) a) = 0x8000 + d → s.fld (Reg.PROG_INSTR (k / 8) (a + 1)) = 0xC000 + e →
      s.fld (Reg.PROG_INSTR (k / 8) (a + 2)) = 0x4000 → ∃ t, exec (.slotRun k trig) s = .next t ∧
        t.sfld (Reg.DATA_D k e) = s.sfld (Reg.DATA_D k d)) ∧
    (s.fld (Reg.PROG_INSTR (k / 8) a) = 0x98000 + a → ∃ t, exec (.slotRun k trig) s = .next t ∧ t.slState k = slSafe ∧
      t.fld (Reg.SL_STATE_SAFE_CAUSE k) = 4 ∧ t.on (Reg.SL_FLAGS_RUNAWAY k) = true ∧ t.on Reg.LP_EVENT_RUNAWAY = true ∧
      t.fld (Reg.SL_RUNS_RUNS k) = s.fld (Reg.SL_RUNS_RUNS k))

/-- R245, R255, R257, R259–R262, R267: the other loop commands. Covers SL_EN_WRITE, COEF_COMMIT, CLR_STATE, TB_COMMIT, INPUT_TIMEOUT,
TEST_GEN_RUN and CAPTURE_ARM. Conventions of the model it rests on: log 37 and 38. -/
def Obligations.LoopCommands : Prop :=
  ∀ s : State, s.pw.coreUp = true →
    (∀ q k v, s.Serves q → k < 64 → v.toNat % 8 = 1 → s.slState k = slStopped → s.boostSlot k = none → ∃ t, exec (.slEnWrite q k v) s = .next t ∧
      t.on (Reg.SL_CTRL_EN k) = true ∧ t.slState k = slSoft ∧ (t.slot k).entering = true) ∧
    (∀ q k v, s.Serves q → k < 64 → v.toNat % 8 = 0 → s.slState k = slRun → s.boostSlot k = none → (∀ p, p < 8 → s.fld (Reg.SL_OUTCFG_KIND k p) = 0) →
      ∃ t, exec (.slEnWrite q k v) s = .next t ∧ t.on (Reg.SL_CTRL_EN k) = false ∧ t.slState k = slStopped) ∧
    (∀ q k, s.Serves q → k < 64 → s.slState k = slOff → s.loopSettle = s → s.slotBusy k = false → swf (fun _ => none) s.lp.coefStaged = true → ∃ t, exec (.coefCommit q k) s = .next t ∧
      (∀ w, w < 64 → t.fld (Reg.COEF_C k w) = ((sget (fun _ => none) s.lp.coefStaged (64 * k + w)).map (·.toNat % 2 ^ 20)).getD (s.fld (Reg.COEF_C k w))) ∧
      ∀ w, w < 64 → sget (fun _ => none) t.lp.coefStaged (64 * k + w) = none) ∧
    (∀ q k, s.Serves q → k < 64 → s.slState k = slRun → s.on (Reg.SL_CTRL_EN k) = true → s.slotBusy k = true →
      ∃ t, exec (.coefCommit q k) s = .next t ∧ t.on (Reg.SL_STATE_COEF_PENDING k) = true ∧
        ∀ w, w < 64 → t.fld (Reg.COEF_C k w) = s.fld (Reg.COEF_C k w)) ∧
    (∀ q k r, s.Serves q → k < 64 → s.slState k = slStopped → s.on (Reg.SL_CTRL_EN k) = false → s.record 0x0304 k = some r →
      ∃ t, exec (.clrState q k) s = .next t ∧ ∀ w, w < 64 → t.fld (Reg.DATA_D k w) = r.words.getD w 0 % 2 ^ 20) ∧
    (∀ q k, s.Serves q → k < 64 → s.slState k = slOff → ∃ t, exec (.clrState q k) s = .next t ∧ t.on Reg.LP_EVENT_CFG_ERR = true ∧
      ∀ w, w < 64 → t.fld (Reg.DATA_D k w) = s.fld (Reg.DATA_D k w)) ∧
    (∀ q v, s.Serves q → s.liveSlots.any s.slotBusy = true → ∃ t, exec (.tbCommit q v) s = .next t ∧
      t.fld Reg.TB_COMMIT_PENDING = s.fld Reg.TB_COMMIT_PENDING ||| v.toNat % 2 ^ 16 ∧
      ∀ x i, x < 16 → i < 256 → t.fld (Reg.TBL_ENTRY x i) = s.fld (Reg.TBL_ENTRY x i)) ∧
    (∀ q v, s.Serves q → s.loopSettle = s → s.liveSlots.any s.slotBusy = false → swf (fun _ => none) s.lp.tableStaged = true → ∃ t, exec (.tbCommit q v) s = .next t ∧
      ∀ x i, x < 16 → i < 256 → t.fld (Reg.TBL_ENTRY x i) =
        if v.getLsbD x = true then ((sget (fun _ => none) s.lp.tableStaged (256 * x + i)).map (·.toNat % 2 ^ 20)).getD (s.fld (Reg.TBL_ENTRY x i))
        else s.fld (Reg.TBL_ENTRY x i)) ∧
    (∀ k p, k < 64 → p < 16 → s.slState k = slRun → s.fld (Reg.SL_IN_TMO k p) ≠ 0 → s.sampleLate k p = true → s.fld (Reg.SL_CFG_SAFE_ACT k) = 1 →
      ∃ t, exec (.inputTimeout k p) s = .next t ∧ t.slState k = slSafe ∧ t.fld (Reg.SL_STATE_SAFE_CAUSE k) = 3 ∧
        t.on (Reg.SL_FLAGS_INFAULT k) = true ∧ t.on Reg.LP_EVENT_INFAULT = true) ∧
    (∀ k p, k < 64 → p < 16 → s.fld (Reg.SL_IN_TMO k p) = 0 ∨ s.sampleLate k p = false → exec (.inputTimeout k p) s = .next s) ∧
    (∀ q c v, s.Serves q → c < 8 → v.toNat / 128 % 8 ≤ 4 → 1 ≤ v.toNat / 1024 % 256 → v.getLsbD 5 = true → ∃ t, exec (.testGenRun q c v) s = .next t ∧
      t.on (Reg.TG_CTRL_RUN c) = true ∧ t.on (Reg.TG_CTRL_DONE c) = false ∧ (t.core c).runs = none ∧ t.fld (Reg.TG_CTRL_KIND c) = v.toNat / 8 % 4) ∧
    (∀ q c v, s.Serves q → c < 8 → 1 ≤ v.toNat / 64 % 256 → v.getLsbD 3 = true → ∃ t, exec (.captureArm q c v) s = .next t ∧
      t.on (Reg.CP_CTRL_ARM c) = true ∧ t.on (Reg.CP_CTRL_FULL c) = false ∧ t.fld (Reg.CP_COUNT_WORDS c) = 0) ∧
    (∀ q c v, s.Serves q → c < 8 → v.toNat / 64 % 256 = 0 → ∃ t, exec (.captureArm q c v) s = .next t ∧ t.on Reg.LP_EVENT_CFG_ERR = true ∧
      t.reg (0x540114 + 0x40 * c) = s.reg (0x540114 + 0x40 * c))

/-- R274–R277 with Table 10.1: the protections of a load switch. Covers LS_THERMAL_SHUTDOWN, LS_THERMAL_RESTART, LS_UNLATCH, LS_UNLOCK,
INRUSH_EPISODE, INRUSH_RETRY, LS_OPEN_LOAD, CLAMP_END and CLAMP_LEAK. Conventions of the model it rests on: log 39. -/
def Obligations.SwitchProtections : Prop :=
  ∀ s : State,
    (∀ n (tj : Int), n < s.variant.switches → -524288 ≤ tj ∧ tj < 524288 → ∃ t, exec (.lsThermalShutdown n tj) s = .next t ∧
      t.on (Reg.LS_STATE_TSD n) = true ∧ t.on (Reg.LS_FAULT_TSD n) = true ∧ t.on Reg.LS_EVENT_TSD = true ∧ t.sfld (Reg.LS_TEMP_TJ n) = tj ∧
      t.on (Reg.LS_STATE_LATCHED n) = (s.on (Reg.LS_STATE_LATCHED n) || s.on (Reg.LS_CFG_RESTART n)) ∧ t.lsRank n ≤ 2 ∧
      (t.lsw n).inrush = none ∧ (t.lsw n).waiting = false ∧ ∀ m, m < 32 → m ≠ n → t.fld (Reg.LS_STATE_TSD m) = s.fld (Reg.LS_STATE_TSD m)) ∧
    (∀ n (tj : Int), n < s.variant.switches → -524288 ≤ tj ∧ tj < 524288 → s.on (Reg.LS_STATE_TSD n) = true → ∃ t,
      exec (.lsThermalRestart n tj) s = .next t ∧ t.sfld (Reg.LS_TEMP_TJ n) = tj ∧ t.fld (Reg.LS_STATE_LATCHED n) = s.fld (Reg.LS_STATE_LATCHED n) ∧
      if s.on (Reg.LS_CFG_RESTART n) = false ∧ tj ≤ 1450 then t.on (Reg.LS_STATE_TSD n) = false ∧
        t.fld (Reg.LS_CNT_TSD_N n) = (if t.lsOn n t.ft = true ∨ t.lsRank n = 7 ∧ (t.lsAsked n).1 = true then min (s.fld (Reg.LS_CNT_TSD_N n) + 1) 255
          else s.fld (Reg.LS_CNT_TSD_N n))
      else t.on (Reg.LS_STATE_TSD n) = true ∧ t.fld (Reg.LS_CNT_TSD_N n) = s.fld (Reg.LS_CNT_TSD_N n)) ∧
    (∀ p n (tj : Int), s.Serves p → n < s.variant.switches → -524288 ≤ tj ∧ tj < 524288 → ∃ t, exec (.lsUnlatch p n tj) s = .next t ∧
      t.sfld (Reg.LS_TEMP_TJ n) = tj ∧ if tj ≤ 1450 then t.on (Reg.LS_STATE_LATCHED n) = false
        else t.fld (Reg.LS_STATE_LATCHED n) = s.fld (Reg.LS_STATE_LATCHED n) ∧ t.on Reg.LS_EVENT_CFG_ERR = true) ∧
    (∀ p n, s.Serves p → n < s.variant.switches → ∃ t, exec (.lsUnlock p n) s = .next t ∧ (t.lsw n).energy = (s.lsw n).energy ∧
      if (s.lsw n).energy ≤ s.fld (Reg.LS_CFG2_BUDGET n) * 500000 then t.on (Reg.LS_STATE_LOCKED n) = false
        else t.fld (Reg.LS_STATE_LOCKED n) = s.fld (Reg.LS_STATE_LOCKED n) ∧ t.on Reg.LS_EVENT_CFG_ERR = true) ∧
    (∀ n, n < s.variant.switches → 5 ≤ s.lsRank n → (s.lsw n).inrush.any (fun t0 => decide ((s.ft - t0).toNat < 1600000000)) = true → ∃ t,
      exec (.inrushEpisode n) s = .next t ∧ t.lsRank n ≤ 2 ∧ (t.lsw n).retries = (s.lsw n).retries ∧
      if (s.lsw n).retries < s.fld (Reg.LS_CFG_RETRY_N n) then (t.lsw n).waiting = true ∧ t.fld (Reg.LS_STATE_LATCHED n) = s.fld (Reg.LS_STATE_LATCHED n)
      else t.on (Reg.LS_STATE_LATCHED n) = true ∧ t.on (Reg.LS_FAULT_INRUSH_FAIL n) = true ∧ t.on Reg.LS_EVENT_INRUSH_FAIL = true) ∧
    (∀ n, n < s.variant.switches → (s.lsw n).waiting = true →
      (s.overdue (some (s.lsw n).waitFrom) (8000000 * (s.fld (Reg.LS_CFG_RETRY_GAP n) + 1)) = false → exec (.inrushRetry n) s = .next s) ∧
      (s.overdue (some (s.lsw n).waitFrom) (8000000 * (s.fld (Reg.LS_CFG_RETRY_GAP n) + 1)) = true → ∃ t, exec (.inrushRetry n) s = .next t ∧ (t.lsw n).waiting = false ∧
      (t.lsw n).retries = (s.lsw n).retries + 1 ∧ t.fld (Reg.LS_CNT_RETRY_CNT n) = min (s.fld (Reg.LS_CNT_RETRY_CNT n) + 1) 255)) ∧
    (∀ n (ma : Int), n < s.variant.switches → s.lsOn n s.ft = true → s.olNa n = false → s.derated 3 = false → -524288 ≤ ma ∧ ma < 524288 → ∃ t,
      exec (.lsOpenLoad n ma) s = .next t ∧ t.sfld (Reg.LS_IMEAS_I n) = ma ∧
      t.on (Reg.LS_STATE_OPEN_LOAD n) = decide (ma < 5 * (s.fld (Reg.LS_CFG_OL_THR n) : Int)) ∧ t.lsOn n t.ft = true ∧
      (ma < 5 * (s.fld (Reg.LS_CFG_OL_THR n) : Int) → t.on (Reg.LS_FAULT_OPEN_LOAD n) = true ∧ t.on Reg.LS_EVENT_OPEN_LOAD = true)) ∧
    (∀ n xs, n < s.variant.switches → s.on (Reg.LS_STATE_LOCKED n) = false → ∃ t, exec (.clampEnd n xs) s = .next t ∧
      (t.lsw n).energy = clampEnergy (s.lsw n).energy xs ∧ t.fld (Reg.LS_CLAMPE_B n) = min ((t.lsw n).energy / 100000) 0xFFFFF ∧
      t.on (Reg.LS_STATE_LOCKED n) = decide (s.fld (Reg.LS_CFG2_BUDGET n) * 1000000 < (t.lsw n).energy) ∧
      (t.on (Reg.LS_STATE_LOCKED n) = true → t.lsRank n ≤ 2 ∧ t.on (Reg.LS_FAULT_LOCK n) = true ∧ t.on Reg.LS_EVENT_LOCK = true) ∧
      t.fld (Reg.LS_CNT_CLAMP_N n) = min (s.fld (Reg.LS_CNT_CLAMP_N n) + 1) 65535) ∧
    (∃ t, exec .clampLeak s = .next t ∧ ∀ n, n < s.variant.switches →
      (t.lsw n).energy = (s.lsw n).energy - s.fld (Reg.LS_CFG2_LEAK n) * 1000 ∧ t.fld (Reg.LS_STATE_LOCKED n) = s.fld (Reg.LS_STATE_LOCKED n))

/-- R278 with ranks 1 and 3 of Table 10.1: supply faults at the switch die. Covers VBAT_UNDERVOLTAGE, VBAT_UNDERVOLTAGE_RECOVERY,
VBAT_OVERVOLTAGE, OVERVOLTAGE_RECOVERY, REVERSE_BATTERY and LOSS_OF_GROUND. R279: the check that confirms a load switch's fired edge,
at its due time plus its delay and not before. Covers SWITCH_CHECK. Conventions of the model it rests on: log 39. -/
def Obligations.SwitchSupplyAndConfirmation : Prop :=
  (∀ s : State,
     (∃ t, exec .vbatUndervoltage s = .next t ∧ t.on Reg.LS_STATUS_UV = true ∧ t.on Reg.LS_EVENT_UV = true ∧
       (∀ n, t.lsRank n = 1) ∧ (s.ls.reverse = false → ∀ n, t.lsOn n t.ft = false) ∧
       ∀ n, n < s.variant.switches → s.fld (Reg.LS_CFG_SOURCE n) = 1 → (t.lsw n).dark = (s.lsw n).on ∧ (t.lsw n).on = (s.lsw n).on) ∧
     (∃ t, exec .vbatUndervoltageRecovery s = .next t ∧ t.on Reg.LS_STATUS_UV = false ∧
       (∀ n, s.lsRank n ≠ 1 → t.lsRank n = s.lsRank n) ∧ (s.ls.noGround = false → s.ls.reverse = false → ∀ n, t.lsRank n ≠ 1)) ∧
     (∃ t, exec .vbatOvervoltage s = .next t ∧ t.on Reg.LS_STATUS_OV = true ∧ t.on Reg.LS_EVENT_OV = true ∧
       t.rc.deferred.length = s.rc.deferred.length + 1 ∧ ∀ n, n < s.variant.switches → s.ls.reverse = false →
         (s.on (Reg.LS_CFG_RIDE n) = false → t.lsOn n t.ft = false ∧ (s.lsOn n s.ft = true → t.on (Reg.LS_FAULT_OV_OFF n) = true)) ∧
         (s.on (Reg.LS_CFG_RIDE n) = true → t.lsRank n = s.lsRank n)) ∧
     (∃ t, exec .overvoltageRecovery s = .next t ∧ t.on Reg.LS_STATUS_OV = false ∧ ∀ n, s.lsRank n ≠ 3 → t.lsRank n = s.lsRank n) ∧
     (∃ t, exec .reverseBattery s = .next t ∧ t.on Reg.LS_EVENT_SUPPLY_REC = true ∧ t.rc.deferred.length = s.rc.deferred.length + 1 ∧
       ∀ n, t.lsOn n t.ft = true) ∧
     (∃ t, exec .lossOfGround s = .next t ∧ t.on Reg.LS_EVENT_SUPPLY_REC = true ∧ t.rc.deferred.length = s.rc.deferred.length + 1 ∧
       (s.ls.reverse = false → ∀ n, t.lsOn n t.ft = false))) ∧
  (∀ (s : State) (i : Nat) (mv ma vbat : Int) (e : Entry), s.pw.coreUp = true → s.entry i = some e → e.st = eFired → e.kind = kOpen ∨ e.kind = kClose →
     s.fld (Reg.OT_CFG_TARGET e.outlet) = 2 →
     (s.checkDue e = false → exec (.switchCheck i mv ma vbat) s = .next s) ∧
     (s.checkDue e = true → ∃ t, exec (.switchCheck i mv ma vbat) s = .next t ∧ (∃ x, t.entry i = some x ∧ x.st = eSealed ∧
       (x.code = sSwitchOk ∨ x.code = sSwitchBad) ∧
       (x.code = sSwitchOk ↔ i ∉ s.ls.limpFired ∧
         (e.kind = kOpen → (vbat - mv).natAbs ≤ 2000 ∧ 5 ≤ s.lsRank (s.fld (Reg.OT_TARGET_CHAN e.outlet) % 32) ∧
           s.on (Reg.LS_STATE_OPEN_LOAD (s.fld (Reg.OT_TARGET_CHAN e.outlet) % 32)) = false) ∧ (e.kind = kClose → mv < 3000)) ∧
       (x.code = sSwitchBad → t.on (Reg.LS_FAULT_SWITCH_BAD (s.fld (Reg.OT_TARGET_CHAN e.outlet) % 32)) = true)) ∧ i ∉ t.ls.limpFired))

/-- R281–R283: the shadow, the core watchdog and limp-home. Covers HEARTBEAT, WD_EXPIRY, LIMP_N_CHANGE, LHIN_CHANGE and
SHADOW_WRITE_DONE of the switch die. Conventions of the model it rests on: log 39. -/
def Obligations.LimpHome : Prop :=
  ∀ s : State,
    (s.pw.coreUp = true → s.ls.asleep = false → ∃ t, exec .heartbeat s = .next t ∧ t.on Reg.LS_STATUS_WD_EXPIRED = false ∧ t.ls.beat = true ∧
      t.on Reg.LS_STATUS_LIMP_ACT = s.on Reg.LS_STATUS_LIMP_PIN ∧
      (s.on Reg.LS_STATUS_LIMP_ACT ≠ s.on Reg.LS_STATUS_LIMP_PIN → t.on Reg.LS_EVENT_LIMP = true)) ∧
    (s.overdue s.ls.beatAt (8000000 * s.wdTmo) = false → exec .wdExpiry s = .next s) ∧
    (s.ls.asleep = false → s.on Reg.LS_STATUS_WD_EXPIRED = false → s.overdue s.ls.beatAt (8000000 * s.wdTmo) = true → ∃ t, exec .wdExpiry s = .next t ∧ t.on Reg.LS_STATUS_WD_EXPIRED = true ∧
      t.on Reg.LS_EVENT_WD_EXP = true ∧ t.on Reg.LS_STATUS_LIMP_ACT = true ∧ (0x0053, 8, leBytes 4 0 ++ leBytes 5 s.rtcStamp) ∈ t.rc.deferred ∧
      ∀ n, 5 ≤ s.lsRank n → t.lsRank n = if (t.lsShadowCfg n).testBit 27 = true then 5 else 6) ∧
    (s.ls.asleep = true → ∃ t, exec .wdExpiry s = .next t ∧ t = s) ∧
    (∀ low, ∃ t, exec (.limpNChange low) s = .next t ∧ t.on Reg.LS_STATUS_LIMP_PIN = low ∧
      t.on Reg.LS_STATUS_LIMP_ACT = (low || (s.on Reg.LS_STATUS_WD_EXPIRED && !s.ls.asleep)) ∧
      ∀ n, s.lsRank n ≤ 4 → t.lsRank n = s.lsRank n) ∧
    (∀ i level, i < 8 → ∃ t, exec (.lhinChange i level) s = .next t ∧ t.fbit Reg.LS_STATUS_LHIN i = level ∧
      (∀ j, j < 8 → j ≠ i → t.fbit Reg.LS_STATUS_LHIN j = s.fbit Reg.LS_STATUS_LHIN j) ∧
      (∀ n, s.lsRank n = 5 → s.lsShadowCfg n / 2 ^ 28 % 8 = i → t.lsOn n t.ft = (level != (s.lsShadowCfg n).testBit 31)) ∧
      ∀ n, s.lsRank n ≠ 5 → t.lsOn n t.ft = s.lsOn n s.ft) ∧
    (s.ls.writing = true → ∃ t, exec (.shadowWriteDone 2 true) s = .next t ∧ t.ls.writing = false ∧ t.ls.shadow = s.lsShadowNow ∧
      t.ls.shadowGood = true ∧ t.on Reg.LS_STATUS_SHADOW_OK = true) ∧
    (s.ls.writing = true → ∃ t, exec (.shadowWriteDone 2 false) s = .next t ∧ t.ls.writing = false ∧ t.ls.shadow = s.ls.shadow ∧
      t.ls.shadowGood = s.ls.shadowGood ∧ t.regs = s.regs ∧ shadowCrc t.ls.store ≠ t.ls.storeCrc)

/-- R288, R290, R292–R295: sampled inputs and the barrier's frames. Covers INPUT_SAMPLE, BARRIER_INBOUND_FRAME, BARRIER_OUTBOUND_FRAME,
BARRIER_TIMEOUT and FIELD_SILENCE. Conventions of the model it rests on: log 40. -/
def Obligations.FieldInputsAndBarrier : Prop :=
  ∀ s : State,
    (∀ g xs, g < 8 → s.fd.asleep = false → s.windowEnd g = false → exec (.inputSample g xs) s = .next s) ∧
    (∀ g xs, g < 8 → s.fd.asleep = true → ∃ t, exec (.inputSample g xs) s = .next t ∧ t.regs = s.regs ∧ t.fd.outs = s.fd.outs ∧
      ∀ n, n < 64 → n / 8 ≠ g ∨ s.on (Reg.FI_CFG_WAKE_EN n) = false → t.input n = s.input n) ∧
    (∀ g xs, g < 8 → s.fd.asleep = false → s.windowEnd g = true → ∃ t, exec (.inputSample g xs) s = .next t ∧ t.regs = s.regs ∧ t.fd.outs = s.fd.outs ∧
      (∀ n, n < 64 → n / 8 ≠ g → t.input n = s.input n) ∧
      (∀ n, n < s.variant.fins → n / 8 = g → n % 8 < xs.length → ((xs.getD (n % 8) ⟨false, 0⟩).level != s.on (Reg.FI_CFG_INVERT n)) = (s.input n).level →
        (t.input n).since = none ∧ (t.input n).level = (s.input n).level ∧ (t.input n).count = (s.input n).count) ∧
      (∀ n, n < s.variant.fins → n / 8 = g → n % 8 < xs.length → ((xs.getD (n % 8) ⟨false, 0⟩).level != s.on (Reg.FI_CFG_INVERT n)) ≠ (s.input n).level →
        s.on (Reg.FI_CFG_OW_EN n) = false →
        if 8000 * s.fld (Reg.FI_CFG_DEB n) ≤ (s.ft - (s.input n).since.getD s.ft).toNat then
          (t.input n).level = (!(s.input n).level) ∧ (t.input n).edge = some (!(s.input n).level, (s.input n).since.getD s.ft) ∧
          (t.input n).count = (if (s.input n).level = true then (s.input n).count else ((s.input n).count + 1) % 2 ^ 20)
        else (t.input n).level = (s.input n).level ∧ (t.input n).since = some ((s.input n).since.getD s.ft))) ∧
    (∀ f : BarrierIn, s.barGrid 32000 = false → exec (.barrierInboundFrame f) s = .next s) ∧
    (∀ f : BarrierIn, s.pw.coreUp = true → s.barGrid 32000 = true → f.ok = true → s.fd.rxSeq ≠ some (f.seq % 256) → ∃ t, exec (.barrierInboundFrame f) s = .next t ∧
      t.on Reg.FIO_STATUS_BAR_OK = true ∧ t.fd.rxSeq = some (f.seq % 256) ∧ t.fd.lost = false ∧ t.on Reg.FIO_STATUS_VFIELD_UV = s.fd.uv ∧
      (∀ m, m < s.variant.fouts → (t.fout m).news = 0 ∧ t.on (Reg.FO_FAULT_OVERLOAD m) = (s.on (Reg.FO_FAULT_OVERLOAD m) || bit (s.fout m).news 0) ∧
        t.on (Reg.FO_FAULT_OVERTEMP m) = (s.on (Reg.FO_FAULT_OVERTEMP m) || bit (s.fout m).news 1) ∧
        (bit (s.fout m).news 0 = true → t.on Reg.FIO_EVENT_OVERLOAD = true) ∧ (bit (s.fout m).news 1 = true → t.on Reg.FIO_EVENT_OVERTEMP = true)) ∧
      t.fld Reg.FIO_BARCNT_SKIP_N = (if (s.fd.rxSeq.any fun q => decide ((q + 1) % 256 ≠ f.seq % 256)) = true then
        min (s.fld Reg.FIO_BARCNT_SKIP_N + 1) 65535 else s.fld Reg.FIO_BARCNT_SKIP_N) ∧
      ∀ n, n < s.variant.fins → t.on (Reg.FI_STAT_STALE n) = false ∧ (t.input n).edge = none ∧ t.on (Reg.FI_STAT_OPEN_WIRE n) = (s.input n).wire ∧
        t.fld (Reg.FI_COUNT_COUNT n) = (s.input n).count % 2 ^ 20 ∧
        t.on (Reg.FI_STAT_LEVEL n) = (s.input n).level ∧
        ((s.input n).edge.isSome = true → t.on (Reg.FI_STAT_LAST_DIR n) = ((s.input n).edge.getD (false, 0)).1 ∧
          t.fld (Reg.FI_STAMP_STAMP n) = ((s.input n).edge.getD (false, 0)).2.toNat % 2 ^ 32)) ∧
    (∀ f : BarrierIn, s.pw.coreUp = true → s.barGrid 32000 = true → f.ok = false → ∃ t, exec (.barrierInboundFrame f) s = .next t ∧
      t.fld Reg.FIO_BARCNT_CRC_N = min (s.fld Reg.FIO_BARCNT_CRC_N + 1) 65535 ∧ t.fd.rxSeq = s.fd.rxSeq ∧
      ∀ n, n < s.variant.fins → t.fld (Reg.FI_STAT_LEVEL n) = s.fld (Reg.FI_STAT_LEVEL n) ∧ (t.input n).edge = none) ∧
    (∀ f : BarrierIn, s.pw.coreUp = true → s.barGrid 32000 = true → f.ok = true → s.fd.rxSeq = some (f.seq % 256) → ∃ t, exec (.barrierInboundFrame f) s = .next t ∧
      t.regs = s.regs ∧ t.fd.rxSeq = s.fd.rxSeq) ∧
    (∀ ok, s.barGrid 0 = false → exec (.barrierOutboundFrame ok) s = .next s) ∧
    (s.pw.coreUp = true → s.barGrid 0 = true → ∃ t, exec (.barrierOutboundFrame false) s = .next t ∧ t.regs = s.regs ∧
      t.fd.txSeq = (s.fd.txSeq + 1) % 256 ∧ t.fd.crcN = s.fd.crcN + 1 ∧ t.fd.seqIn = s.fd.seqIn ∧ t.fd.outs = s.fd.outs ∧ t.fd.txAt = s.fd.txAt) ∧
    (s.pw.coreUp = true → s.barGrid 0 = true → s.fd.seqIn ≠ some ((s.fd.txSeq + 1) % 256) → s.fd.staged = none → s.fd.stop = s.fd.tellStop →
      s.fd.halt = s.fd.tellHalt → s.fd.safe = s.fd.tellSafe →
      ∃ t, exec (.barrierOutboundFrame true) s = .next t ∧ t.fd.txAt = some s.ft ∧ t.fd.txSeq = (s.fd.txSeq + 1) % 256 ∧ t.fd.never = false ∧
      t.fd.seqIn = some t.fd.txSeq ∧ t.fd.ftCopy = s.ft ∧ t.fd.unlatch = [] ∧ t.fd.edges = s.foEdges ∧ t.regs = s.regs ∧
      (s.fd.silent = false → t.fd.silent = false) ∧ (s.fd.silent = true → t.fd.silent = decide (s.fd.good < 3)) ∧
      ∀ m, m < s.variant.fouts → (t.fout m).on = (s.fout m).on ∧ (t.fout m).cmd = s.foAsked m ∧
        (t.fout m).latched = ((s.fout m).latched && !s.fd.unlatch.contains m)) ∧
    (s.pw.coreUp = true → s.fd.lost = false → s.overdue (some (s.fd.rxAt.getD 0)) (s.barTicks false) = true → ∃ t, exec .barrierTimeout s = .next t ∧
      t.on Reg.FIO_STATUS_BAR_OK = false ∧ t.fd.lost = true ∧
      t.on Reg.FIO_EVENT_BAR_LOST = true ∧ ∀ n, n < s.variant.fins → t.on (Reg.FI_STAT_STALE n) = true ∧
        t.fld (Reg.FI_STAT_LEVEL n) = s.fld (Reg.FI_STAT_LEVEL n)) ∧
    (s.fd.lost = true ∨ s.overdue (some (s.fd.rxAt.getD 0)) (s.barTicks false) = false → exec .barrierTimeout s = .next s) ∧
    (s.overdue s.fd.txAt (s.barTicks true * 95 / 100) = false → exec .fieldSilence s = .next s) ∧
    (s.fd.silent = false → s.overdue s.fd.txAt (s.barTicks true * 95 / 100) = true → ∃ t, exec .fieldSilence s = .next t ∧ t.fd.silent = true ∧ t.fd.good = 0 ∧
      (∀ m, m < s.variant.fouts → 3 ≤ s.foRank m → t.foRank m = 3 ∧
        (s.fld (Reg.FO_CFG_SOURCE m) = 0 → t.on (Reg.FO_SET_ON m) = false) ∧ (s.fld (Reg.FO_CFG_SOURCE m) = 1 → (t.fout m).on = false)) ∧
      ∀ m, m < s.variant.fouts → s.foLead m = m → s.foRank m = 4 → (s.fout m).kept = none → s.fld (Reg.FO_CFG_SAFE m) = 2 →
        s.fld (Reg.FO_CFG_SOURCE m) ≠ 1 → t.foOn m t.ft = s.foOn m s.ft)

/-- R297, R299, R300: faults of field outputs and of the field supply. Covers OUTPUT_OVERLOAD, OUTPUT_OVERLOAD_RESTART,
OUTPUT_OVERTEMP, OUTPUT_OVERTEMP_RESTART, OUTPUT_OPEN_WIRE, FO_UNLATCH, VFIELD_UNDERVOLTAGE and VFIELD_UV_RECOVERY. R301, R306: the
check of a field output's fired edge, and the wake by an input. Covers FIELD_OUTPUT_CHECK and INPUT_WAKE_EDGE. Conventions of the model
it rests on: log 40. -/
def Obligations.FieldOutputs : Prop :=
  (∀ s : State,
     (∀ m, m < s.variant.fouts → ∃ t, exec (.outputOverload m) s = .next t ∧ t.regs = s.regs ∧ bit (t.fout (s.foLead m)).news 0 = true ∧
       t.foOn m t.ft = false ∧
       (s.on (Reg.FO_CFG_OVL_LATCH (s.foLead m)) = true → (t.fout (s.foLead m)).latched = true) ∧
       (s.on (Reg.FO_CFG_OVL_LATCH (s.foLead m)) = false → (t.fout (s.foLead m)).ovl = true ∧
         (t.fout (s.foLead m)).latched = (s.fout (s.foLead m)).latched)) ∧
     (∀ m, m < s.variant.fouts → (s.fout (s.foLead m)).ovl = true →
       s.overdue (some (s.fout (s.foLead m)).waitFrom) 800000000 = true → ∃ t, exec (.outputOverloadRestart m) s = .next t ∧ t.regs = s.regs ∧
       (t.fout (s.foLead m)).ovl = false ∧ (t.fout (s.foLead m)).restarts = (s.fout (s.foLead m)).restarts + 1) ∧
     (∀ m, s.overdue (some (s.fout (s.foLead m)).waitFrom) 800000000 = false → exec (.outputOverloadRestart m) s = .next s) ∧
     (∀ m, m < s.variant.fouts → ∃ t, exec (.outputOvertemp m) s = .next t ∧ t.regs = s.regs ∧ (t.fout m).hot = true ∧
       bit (t.fout (s.foLead m)).news 1 = true ∧ t.foOn m t.ft = false) ∧
     (∀ m, m < s.variant.fouts → ∃ t, exec (.outputOvertempRestart m) s = .next t ∧ t.regs = s.regs ∧ (t.fout m).hot = false ∧
       (t.fout m).latched = (s.fout m).latched ∧ (t.fout m).news = (s.fout m).news ∧ ∀ k, k ≠ m → t.fout k = s.fout k) ∧
     (∀ m (ua mv : Int), m < s.variant.fouts → s.derated 4 = false → ∃ t, exec (.outputOpenWire m ua mv) s = .next t ∧ t.regs = s.regs ∧
       t.foOn m t.ft = s.foOn m s.ft ∧
       (s.foOn m s.ft = true → (t.fout m).wire = decide (ua < 3000) ∧ (ua < 3000 → bit (t.fout (s.foLead m)).news 2 = true)) ∧
       (s.foOn m s.ft = false → s.on (Reg.FO_CFG_OW_OFF_EN (s.foLead m)) = true → (t.fout m).wire = decide (12000 < mv)) ∧
       (s.foOn m s.ft = false → s.on (Reg.FO_CFG_OW_OFF_EN (s.foLead m)) = false → t = s)) ∧
     (∀ p m, s.Serves p → m < s.variant.fouts → ∃ t, exec (.foUnlatch p m) s = .next t ∧ t.fd.unlatch = s.fd.unlatch ++ [m] ∧
       t.fd.outs = s.fd.outs ∧ t.fld (Reg.FO_STATE_OVERTEMP m) = s.fld (Reg.FO_STATE_OVERTEMP m)) ∧
     (∃ t, exec .vfieldUndervoltage s = .next t ∧ t.regs = s.regs ∧ t.fd.uv = true ∧ (s.fd.uv = false → t.fd.uvNews = true) ∧
       (∀ m, t.foRank m = 1 ∧ t.foOn m t.ft = false) ∧
       ∀ m, m < s.variant.fouts → s.foLead m = m → s.foOn m s.ft = true → bit (t.fout m).news 3 = true) ∧
     (∃ t, exec .vfieldUvRecovery s = .next t ∧ t.regs = s.regs ∧ t.fd = { s.fd with uv := false } ∧
       ∀ m, s.foRank m ≠ 1 → t.foOn m t.ft = s.foOn m s.ft)) ∧
  (∀ s : State,
     (∀ (i : Nat) (mv ma vfield : Int) (e : Entry), s.pw.coreUp = true → s.entry i = some e → e.st = eFired →
       e.kind = kOpen ∨ e.kind = kClose → s.fld (Reg.OT_CFG_TARGET e.outlet) = 3 →
       (s.checkDue e = false → exec (.fieldOutputCheck i mv ma vfield) s = .next s) ∧
       (s.checkDue e = true → s.holdsBack = true → ∃ t, exec (.fieldOutputCheck i mv ma vfield) s = .next t ∧ t.lg = s.lg ∧
         (t.rs.held = s.rs.held ++ [.check i (s.fld (Reg.OT_TARGET_CHAN e.outlet) % 32) sSwitchOk] ∨
           t.rs.held = s.rs.held ++ [.check i (s.fld (Reg.OT_TARGET_CHAN e.outlet) % 32) sSwitchBad])) ∧
       (s.checkDue e = true → s.holdsBack = false → ∃ t, exec (.fieldOutputCheck i mv ma vfield) s = .next t ∧
         ∃ x, t.entry i = some x ∧ x.st = eSealed ∧ (x.code = sSwitchOk ∨ x.code = sSwitchBad) ∧ x.param = e.param ∧
           (x.code = sSwitchOk ↔
             (e.kind = kOpen → (vfield - mv).natAbs ≤ 2000 ∧ s.foRank (s.fld (Reg.OT_TARGET_CHAN e.outlet) % 32) = 4 ∧
               s.foOpenWire (s.foLead (s.fld (Reg.OT_TARGET_CHAN e.outlet) % 32)) = false) ∧ (e.kind = kClose → mv < 3000)) ∧
           (x.code = sSwitchBad → t.on (Reg.FO_FAULT_SWITCH_BAD (s.fld (Reg.OT_TARGET_CHAN e.outlet) % 32)) = true ∧
             t.on Reg.FIO_EVENT_SWITCH_BAD = true))) ∧
     (∀ n, n < s.variant.fins → s.on (Reg.FI_CFG_WAKE_EN n) = true → (s.input n).woke = some true → s.fd.uv = false →
       ∃ t, exec (.inputWakeEdge n) s = .next t ∧ t = s.wake 2 0) ∧
     (∀ n, s.wakeLine n = false → exec (.inputWakeEdge n) s = .next s))

/-- R310, R313, R314, R328, R330 and R333: frames on a bus port. Covers BUS_FRAME_RECEIVED and BUS_WAKE_FRAME. Conventions of the model
it rests on: log 41 and 42. -/
def Obligations.BusReception : Prop :=
  ∀ s : State,
    (∀ p (f : BusFrame), s.pw.coreUp = true → p < s.variant.buses → (f.fdf = true → s.on (Reg.BP_DBT_FD_EN p) = true) → s.listens p = true →
      s.haltHit p f = true → ∃ t, exec (.busFrameReceived p f) s = .next t ∧
      (s.fbit Reg.RES_STATE_STOP_SRC 1 = false → s.fbit Reg.RES_STATE_STOP_SRC 2 = false → t.on Reg.RES_STATE_STOP = true ∧
        t.fbit Reg.RES_STATE_STOP_SRC 2 = true ∧ t.fbit Reg.BUS_EVENT_HALT p = true) ∧ t.fld (Reg.BP_CNT_G_HALT_N p) = min (s.fld (Reg.BP_CNT_G_HALT_N p) + 1) 65535 ∧
      t.bp.rx = s.bp.rx ∧ t.rs.held = s.rs.held ∧ t.fld (Reg.BP_CNT_E_NOMATCH_N p) = s.fld (Reg.BP_CNT_E_NOMATCH_N p)) ∧
    (∀ p (f : BusFrame), s.pw.coreUp = true → p < s.variant.buses → (f.fdf = true → s.on (Reg.BP_DBT_FD_EN p) = true) →
      s.bpState p = bpActive ∨ s.bpState p = bpRestr → s.haltHit p f = false → f.rtr = false → s.holdsBack = false →
      ∃ t, exec (.busFrameReceived p f) s = .next t ∧ ∀ o, o < 256 →
        (s.rxMatch p f = some o → (t.rxObj (256 * p + o)).fresh = true ∧ (t.rxObj (256 * p + o)).hdr = frameHdr f ∧
          (t.rxObj (256 * p + o)).dlc = f.dlc ∧ (t.rxObj (256 * p + o)).stamp = f.sof ∧
          (t.rxObj (256 * p + o)).data = f.data.take (dlcBytes f.fdf f.dlc) ∧
          (t.rxObj (256 * p + o)).lost = ((s.rxObj (256 * p + o)).lost || (s.rxObj (256 * p + o)).fresh) ∧
          t.fld (Reg.BP_CNT_E_NOMATCH_N p) = s.fld (Reg.BP_CNT_E_NOMATCH_N p) ∧
          ((s.rxObj (256 * p + o)).fresh = true → t.on (Reg.BP_EVENT_LOST p) = true ∧
            t.fld (Reg.BP_CNT_F_LOST_N p) = min (s.fld (Reg.BP_CNT_F_LOST_N p) + 1) 65535)) ∧
        (s.rxMatch p f ≠ some o → t.rxObj (256 * p + o) = s.rxObj (256 * p + o))) ∧
    (∀ p (f : BusFrame), s.pw.coreUp = true → p < s.variant.buses → (f.fdf = true → s.on (Reg.BP_DBT_FD_EN p) = true) →
      s.bpState p = bpActive ∨ s.bpState p = bpRestr → s.haltHit p f = false → f.rtr = false → s.holdsBack = false → s.rxMatch p f = none →
      ∃ t, exec (.busFrameReceived p f) s = .next t ∧ t.fld (Reg.BP_CNT_E_NOMATCH_N p) = min (s.fld (Reg.BP_CNT_E_NOMATCH_N p) + 1) 65535 ∧
        t.bp.rx = s.bp.rx) ∧
    (∀ p (f : BusFrame), s.pw.coreUp = true → p < s.variant.buses → f.fdf = true → s.on (Reg.BP_DBT_FD_EN p) = false →
      s.bpState p = bpActive ∨ s.bpState p = bpRestr → ∃ t, exec (.busFrameReceived p f) s = .next t ∧ t.fld (Reg.BP_ERRLOG_LEC p) = 2 ∧
        t.fld (Reg.BP_CNT_B_FORM_N p) = min (s.fld (Reg.BP_CNT_B_FORM_N p) + 1) 65535 ∧ t.bp.rx = s.bp.rx) ∧
    (∀ p (f : BusFrame), s.pw.coreUp = true → p < s.variant.buses → (f.fdf = true → s.on (Reg.BP_DBT_FD_EN p) = true) →
      s.bpState p = bpActive ∨ s.bpState p = bpRestr → f.rtr = true → ∃ t, exec (.busFrameReceived p f) s = .next t ∧
        t.fld (Reg.BP_CNT_E_RTR_N p) = min (s.fld (Reg.BP_CNT_E_RTR_N p) + 1) 65535 ∧ t.bp.rx = s.bp.rx ∧ t.rs.held = s.rs.held) ∧
    (∀ p (f : BusFrame), s.pw.coreUp = true → p < s.variant.buses → (f.fdf = true → s.on (Reg.BP_DBT_FD_EN p) = true) →
      s.bpState p = bpActive ∨ s.bpState p = bpRestr → s.haltHit p f = false → f.rtr = false → s.holdsBack = true →
      ∃ t, exec (.busFrameReceived p f) s = .next t ∧ t.bp.rx = s.bp.rx ∧
        if s.heldFrames p < 64 then t.rs.held = s.rs.held ++ [.bus p f s.ft]
        else t.rs.held = s.rs.held ∧ t.on (Reg.BP_EVENT_RX_OVF p) = true ∧
          t.fld (Reg.BP_CNT_F_RX_OVF_N p) = min (s.fld (Reg.BP_CNT_F_RX_OVF_N p) + 1) 65535) ∧
    (∀ p (f : BusFrame), s.pw.coreUp = true → p < s.variant.buses → s.listens p = false → ∃ t, exec (.busFrameReceived p f) s = .next t ∧ t = s) ∧
    (∀ p (f : BusFrame), p < s.variant.buses → s.wakeHit p f = true → ∃ t, exec (.busWakeFrame p f) s = .next t ∧ t = s.wake 1 p) ∧
    (∀ p (f : BusFrame), f.fdf = true ∨ s.on (Reg.BP_WAKE_WAKE_EN p) = false → ∃ t, exec (.busWakeFrame p f) s = .next t ∧ t = s)

/-- Table 12.2 with R312, R326 and R327: the states of a bus port. Covers BUS_INTEGRATION_DONE, BUS_RECOVERY_DONE, BP_MODE_WRITE,
BP_RECOVER and BUS_ERROR. Conventions of the model it rests on: log 41 and 42. -/
def Obligations.BusPortStates : Prop :=
  ∀ s : State, s.pw.coreUp = true → ∀ n, n < s.variant.buses →
    (s.bpState n = bpInteg → ∃ t, exec (.busIntegrationDone n) s = .next t ∧
      t.port n = (if s.fld (Reg.BP_CTRL_MODE n) = 2 then s.port n else { s.port n with activeAt := some s.ft, refAt := none, refWait := none }) ∧
      t.bpState n = (if s.fld (Reg.BP_CTRL_MODE n) = 2 then bpRestr else bpActive)) ∧
    (s.bpState n = bpRecov → ∃ t, exec (.busRecoveryDone n) s = .next t ∧ t.bpState n = bpActive ∧ t.fld (Reg.BP_ERRCNT_TEC n) = 0 ∧
      t.fld (Reg.BP_ERRCNT_REC n) = 0 ∧ t.fld (Reg.BP_STATUS_ERR n) = 0 ∧ t.on (Reg.BP_EVENT_RECOVERED n) = true ∧ t.port n = { s.port n with activeAt := some s.ft, refAt := none, refWait := none }) ∧
    (∀ p (v : Word), s.Serves p → v.toNat % 4 = 0 → v.toNat / 4 % 2 = 0 → s.bpState n ≠ bpOff → s.bpState n ≠ bpSleep →
      s.fld (Reg.BP_CTRL_MODE n) ≠ 0 → ∃ t, exec (.bpModeWrite p n v) s = .next t ∧ t.bpState n = bpOff ∧ t.fld (Reg.BP_CTRL_MODE n) = 0 ∧
      t.port n = {} ∧ t.fld (Reg.BP_ERRCNT_TEC n) = 0 ∧ t.fld (Reg.BP_ERRCNT_REC n) = 0) ∧
    (∀ p (v : Word), s.Serves p → v.toNat % 4 = 1 ∨ v.toNat % 4 = 2 → v.toNat / 4 % 2 = 0 → s.bpState n = bpOff →
      ∃ t, exec (.bpModeWrite p n v) s = .next t ∧ t.bpState n = bpInteg ∧ t.fld (Reg.BP_CTRL_MODE n) = v.toNat % 4 ∧
      t.fld (Reg.BP_CTRL_AUTO_REC n) = v.toNat / 8 % 2 ∧ t.on (Reg.BP_STATUS_SYNCED n) = false) ∧
    (∀ p (v : Word), s.Serves p → v.toNat / 4 % 2 = 0 → (s.bpState n = bpActive ∧ v.toNat % 4 = 2) ∨ (s.bpState n = bpRestr ∧ v.toNat % 4 = 1) →
      (s.port n).sending = none → ∃ t, exec (.bpModeWrite p n v) s = .next t ∧ t.fld (Reg.BP_CTRL_MODE n) = v.toNat % 4 ∧
      t.bpState n = (if s.bpState n = bpActive then bpRestr else bpActive) ∧
      t.fld (Reg.BP_ERRCNT_TEC n) = s.fld (Reg.BP_ERRCNT_TEC n) ∧ t.fld (Reg.BP_ERRCNT_REC n) = s.fld (Reg.BP_ERRCNT_REC n)) ∧
    (∀ p (v : Word), s.Serves p → v.toNat % 4 = 3 → ∃ t, exec (.bpModeWrite p n v) s = .next t ∧ t.bpState n = s.bpState n ∧
      t.fld (Reg.BP_CTRL_MODE n) = s.fld (Reg.BP_CTRL_MODE n) ∧ t.on (Reg.BP_EVENT_CFG_ERR n) = true) ∧
    (∀ p, s.Serves p → s.bpState n = bpBusOff → s.fld (Reg.BP_CTRL_MODE n) = 1 ∨ s.fld (Reg.BP_CTRL_MODE n) = 2 → ∃ t, exec (.bpRecover p n) s = .next t ∧ t.bpState n = bpRecov ∧
      (t.port n).stranded = (s.port n).stranded ∧ (t.port n).queue = (s.port n).queue) ∧
    (∀ p, s.Serves p → s.bpState n = bpActive → s.fld (Reg.BP_CTRL_MODE n) = 1 → ∃ t, exec (.bpRecover p n) s = .next t ∧
      t.bpState n = bpActive ∧ t.on (Reg.BP_EVENT_CFG_ERR n) = true) ∧
    (∀ e : BusErr, s.bpState n = bpActive → e.exception = false → e.ownTx = true → 255 < s.fld (Reg.BP_ERRCNT_TEC n) + (if e.spared then 0 else 8) + 8 * e.more → ∃ t, exec (.busError n e) s = .next t ∧
      t.bpState n = (if s.on (Reg.BP_CTRL_AUTO_REC n) = true then bpRecov else bpBusOff) ∧ t.on (Reg.BP_EVENT_BUS_OFF n) = true ∧
      t.fld (Reg.BP_STATUS_ERR n) = 2 ∧ t.fld (Reg.BP_ERRLOG_LEC n) = e.lec % 8 ∧ (t.port n).sending = none ∧
      (∀ o, o < 128 → (s.port n).sending = some (.object o false) → (t.port n).stranded = some (some o, none) ∧ t.on (Reg.BP_STATUS_STRANDED n) = true) ∧
      (∀ o, o < 128 → (s.port n).sending = some (.object o true) → (t.port n).stranded = (s.port n).stranded ∧
        t.on (Reg.BP_EVENT_ONESHOT_FAIL n) = true) ∧
      (∀ c, (s.port n).sending = some (.reference c) → (t.port n).stranded = some (none, none) ∧ (t.port n).strandedCycle = c)) ∧
    (∀ e : BusErr, s.bpState n = bpActive → e.exception = false → e.ownTx = false → s.fld (Reg.BP_ERRCNT_TEC n) ≤ 255 →
      ∃ t, exec (.busError n e) s = .next t ∧ t.bpState n = bpActive ∧ t.fld (Reg.BP_ERRCNT_TEC n) = s.fld (Reg.BP_ERRCNT_TEC n) ∧
      t.recNow n = (if s.recNow n + 1 + 8 * e.more < 128 then s.recNow n + 1 + 8 * e.more else 255) ∧ t.port n = s.port n) ∧
    (∀ w, s.winOpens n w = true → ∃ t, exec (.scheduleWindow n w) s = .next t ∧ (t.port n).window = some (w, s.winEnd n w)) ∧
    (∀ o sof, (s.port n).sending = some (.object o false) → s.couldStart n (.object o false) sof = true → ∃ t,
      exec (.busTxDone n (.sent sof)) s = .next t ∧ (t.port n).sent.map (·.sof) = some sof) ∧
    (s.fld (Reg.BP_TT_SYNC n) ≠ 0 → s.refGone n = true → ∃ t, exec (.refTimeout n) s = .next t ∧ t.on (Reg.BP_STATUS_SYNCED n) = false ∧
      t.on (Reg.BP_EVENT_REF_LOST n) = true) ∧
    (s.fld (Reg.BP_TT_SYNC n) = 2 → s.fld (Reg.BP_STATUS_ROLE n) = 2 → s.bpState n = bpActive → (s.port n).sending = none →
      (s.refNext n).any (fun x => tge s.ft x) = true → ∃ t, exec (.masterReferenceDue n) s = .next t ∧ (t.port n).refAt = s.refNext n ∧
        (t.port n).sending = some (.reference (s.nextCycle n % 64))) ∧
    (∀ e : BusErr, s.bpState n = bpActive ∨ s.bpState n = bpRestr → e.exception = true → ∃ t, exec (.busError n e) s = .next t ∧
      t.bpState n = bpInteg ∧ t.fld (Reg.BP_CNT_C_PEX_N n) = min (s.fld (Reg.BP_CNT_C_PEX_N n) + 1) 65535 ∧ (t.port n).sending = none) ∧
    (∀ e : BusErr, s.bpState n = bpRestr → e.exception = false → ∃ t, exec (.busError n e) s = .next t ∧
      t.fld (Reg.BP_ERRLOG_LEC n) = e.lec % 8 ∧ t.on (Reg.BP_ERRLOG_DATA_PHASE n) = e.dataPhase ∧ t.on (Reg.BP_ERRLOG_REF n) = e.ownRef ∧
      t.fld (Reg.BP_ERRCNT_TEC n) = s.fld (Reg.BP_ERRCNT_TEC n) ∧ t.fld (Reg.BP_ERRCNT_REC n) = s.fld (Reg.BP_ERRCNT_REC n) ∧ t.bp = s.bp)

/-- R316–R318, R320, R321, R323 and R324: windows, transmissions and references. Covers SCHEDULE_WINDOW, BUS_TX_DONE, REF_TIMEOUT and
MASTER_REFERENCE_DUE. Conventions of the model it rests on: log 41 and 42. -/
def Obligations.BusSchedule : Prop :=
  ∀ s : State, s.pw.coreUp = true → ∀ n, n < s.variant.buses →
    (∀ w, s.winOpens n w = false → exec (.scheduleWindow n w) s = .next s) ∧
    (∀ w, s.winOpens n w = true → ∃ t, exec (.scheduleWindow n w) s = .next t ∧
      (t.port n).window = some (w, s.winEnd n w) ∧ (t.port n).kind = s.winKind n w ∧ t.fld (Reg.BP_STATUS_CYCLE n) = (s.cycleNow n).2 % 64) ∧
    (∀ w, s.winOpens n w = true → s.maySend n = true → (s.port n).sending = none → (s.port n).modeWait = none → (s.port n).refWait = none →
      (s.port n).stranded = none → s.winKind n w ≠ 2 →
      ∃ t, exec (.scheduleWindow n w) s = .next t ∧
        (s.cellDue n w = true → s.endsBefore n (.object (s.cellObject n w) (s.cellOnce n w)) (s.winEnd n w) = true →
          (t.port n).sending = some (.object (s.cellObject n w) (s.cellOnce n w)) ∧ (t.port n).owed = some (s.cellObject n w, s.cellOnce n w)) ∧
        (s.cellDue n w = true → s.endsBefore n (.object (s.cellObject n w) (s.cellOnce n w)) (s.winEnd n w) = false →
          (t.port n).sending = none ∧ t.on (if s.cellOnce n w = true then Reg.BP_EVENT_ONESHOT_FAIL n else Reg.BP_EVENT_MISSED n) = true) ∧
        (s.cellDue n w = false → (t.port n).sending = none ∧ (t.port n).owed = none)) ∧
    (∀ w, s.winOpens n w = true → s.maySend n = true → (s.port n).sending = none → (s.port n).modeWait = none → (s.port n).refWait = none →
      (s.port n).stranded = none → s.winKind n w = 2 →
      (nextEntry (s.port n).queue).any (fun e => s.endsBefore n (.entry e) (s.winEnd n w)) = true →
      ∃ t, exec (.scheduleWindow n w) s = .next t ∧ (t.port n).sending = (nextEntry (s.port n).queue).map .entry ∧
        (t.port n).queue = (s.port n).queue) ∧
    (∀ w, s.winOpens n w = true → s.maySend n = true → (s.port n).sending = none → (s.port n).modeWait = none → (s.port n).refWait = none →
      (s.port n).stranded.any (fun y => s.endsBefore n (.stranded y.1 y.2) (s.winEnd n w)) = true →
      ∃ t, exec (.scheduleWindow n w) s = .next t ∧ (t.port n).sending = (s.port n).stranded.map (fun y => .stranded y.1 y.2)) ∧
    (∀ w, s.winOpens n w = true → s.maySend n = false → (s.port n).sending = none → (s.port n).modeWait = none → (s.port n).refWait = none →
      (s.port n).owed = none → s.winKind n w ≠ 2 →
      s.cellDue n w = true → s.cellOnce n w = false → ∃ t, exec (.scheduleWindow n w) s = .next t ∧
        (t.port n).sending = none ∧ t.on (Reg.BP_EVENT_MISSED n) = true ∧
        t.fld (Reg.BP_CNT_D_MISSED_N n) = min (s.fld (Reg.BP_CNT_D_MISSED_N n) + 1) 65535) ∧
    ((s.port n).sending = none → ∀ r, exec (.busTxDone n r) s = .next s) ∧
    (∀ sof, (s.port n).sending.all (fun y => !s.couldStart n y sof) = true → exec (.busTxDone n (.sent sof)) s = .next s) ∧
    (∀ sof, (s.port n).sending.any (fun y => s.couldStart n y sof) = true → ∃ t, exec (.busTxDone n (.sent sof)) s = .next t ∧
      (t.port n).sent = (s.port n).sending.map (fun y => ⟨(s.frameOf n y).1, (s.frameOf n y).2, s.contentOf n y sof, sof⟩) ∧
      t.fld (Reg.BP_ERRCNT_TEC n) = s.fld (Reg.BP_ERRCNT_TEC n) - 1 ∧ ((s.port n).kind ≠ 2 → (s.port n).refWait = none → (t.port n).sending = none)) ∧
    (∀ o one sof, (s.port n).sending = some (.object o one) → s.couldStart n (.object o one) sof = true → ∃ t, exec (.busTxDone n (.sent sof)) s = .next t ∧
      (t.port n).owed = none ∧ t.fld (Reg.BP_CNT_D_MISSED_N n) = s.fld (Reg.BP_CNT_D_MISSED_N n) ∧
      (t.txObj (128 * n + o)).data = (s.txObj (128 * n + o)).data ∧
      (t.txObj (128 * n + o)).written = ((s.txObj (128 * n + o)).written && decide (0 < tdiff (s.txObj (128 * n + o)).wroteAt (sof - 16000)))) ∧
    (∀ o, (s.port n).sending = some (.object o true) → ∃ t, exec (.busTxDone n .lost) s = .next t ∧ ((s.port n).refWait = none → (t.port n).sending = none) ∧
      (t.port n).owed = none ∧ t.on (Reg.BP_EVENT_ONESHOT_FAIL n) = true ∧
      t.fld (Reg.BP_CNT_D_ONESHOT_N n) = min (s.fld (Reg.BP_CNT_D_ONESHOT_N n) + 1) 65535 ∧ t.bp.tx = s.bp.tx) ∧
    (∀ o, (s.port n).sending = some (.object o false) → ∃ t, exec (.busTxDone n .lost) s = .next t ∧
      (t.port n).owed = (s.port n).owed ∧ t.bp.tx = s.bp.tx ∧
      ((s.port n).refWait = none → (t.port n).sending = if (s.port n).kind = 1 ∧ (s.port n).modeWait = none ∧
        (s.port n).window.any (fun w => s.endsBefore n (.object o false) w.2) = true then some (.object o false) else none)) ∧
    (∀ k, (s.port n).sending = some (.reference k) → s.fld (Reg.BP_STATUS_ROLE n) = 2 ∨ s.fld (Reg.BP_STATUS_ROLE n) = 3 → ∃ t,
      exec (.busTxDone n .lost) s = .next t ∧ t.fld (Reg.BP_STATUS_ROLE n) = 3 ∧ ((s.port n).refWait = none → (t.port n).sending = none)) ∧
    (∀ k sof, (s.port n).sending = some (.reference k) → s.couldStart n (.reference k) sof = true → ∃ t,
      exec (.busTxDone n (.sent sof)) s = .next t ∧ ((s.port n).refWait = none → (t.port n).sending = none) ∧
      t.fld (Reg.BP_STATUS_ROLE n) = 2 ∧ t.on (Reg.BP_STATUS_SYNCED n) = true ∧ (t.port n).cycleStart = some sof ∧
      t.fld (Reg.BP_STATUS_CYCLE n) = k % 2 ^ s.fld (Reg.BP_TT_CYCLES_LOG n) % 64 ∧ (t.port n).masterPri = some (s.fld (Reg.BP_TT_PRI n))) ∧
    (s.fld (Reg.BP_TT_SYNC n) = 0 → exec (.refTimeout n) s = .next s) ∧
    (s.fld (Reg.BP_TT_SYNC n) ≠ 0 → ∃ t, exec (.refTimeout n) s = .next t ∧
      t.on (Reg.BP_STATUS_SYNCED n) = (s.on (Reg.BP_STATUS_SYNCED n) && !s.refGone n) ∧
      (s.refGone n = true → t.on (Reg.BP_EVENT_REF_LOST n) = true ∧ t.maySend n = false) ∧
      (t.port n).sending = (if s.refOwnDue n = true ∧ s.bpState n = bpActive ∧ (s.port n).sending = none then some (.reference
        (if (s.port n).lastRef.isSome = true then (s.fld (Reg.BP_STATUS_CYCLE n) + 1) % 2 ^ s.fld (Reg.BP_TT_CYCLES_LOG n) % 64 else 0))
        else (s.port n).sending)) ∧
    (s.fld (Reg.BP_TT_SYNC n) = 2 → s.fld (Reg.BP_STATUS_ROLE n) = 2 ∨ (s.fld (Reg.BP_STATUS_ROLE n) = 3 ∧
        (s.port n).masterPri.any (fun q => decide (s.fld (Reg.BP_TT_PRI n) < q)) = true) →
      s.bpState n = bpActive → (s.port n).sending = none → (s.refNext n).any (tge s.ft) = true → ∃ t,
      exec (.masterReferenceDue n) s = .next t ∧ t.regs = s.regs ∧ (t.port n).refAt = s.refNext n ∧
      (t.port n).sending = some (.reference ((s.fld (Reg.BP_STATUS_CYCLE n) + 1) % 2 ^ s.fld (Reg.BP_TT_CYCLES_LOG n) % 64))) ∧
    (∀ o one, s.fld (Reg.BP_TT_SYNC n) = 2 → s.fld (Reg.BP_STATUS_ROLE n) = 2 → s.bpState n = bpActive →
      (s.port n).sending = some (.object o one) → (s.refNext n).any (tge s.ft) = true → ∃ t, exec (.masterReferenceDue n) s = .next t ∧
      (t.port n).sending = some (.object o one) ∧ (t.port n).refWait = (s.refNext n).map (fun x => (s.nextCycle n % 64, x))) ∧
    (s.fld (Reg.BP_TT_SYNC n) ≠ 2 ∨ (s.refNext n).any (tge s.ft) = false → exec (.masterReferenceDue n) s = .next s)

/-- R315, R316 and R323: the bus views. Covers BV_CAPTURE, BV_COMMIT and BV_ENQUEUE. Conventions of the model it rests on: log 41 and
42. -/
def Obligations.BusViews : Prop :=
  ∀ s : State, ∀ p v (w : Word), s.Serves p → v < 16 → s.viewOwner v = some (s.directCtx p) ∨ v = 0 →
    (w.toNat % 8 < s.variant.buses → bit w.toNat 11 = false → ∃ t, exec (.bvCapture p v w) s = .next t ∧ t.fld (Reg.BV_STAT_RESULT v) = 0 ∧
      (t.fld (Reg.BV_META_DLC v) = (s.rxObj (256 * (w.toNat % 8) + w.toNat / 8 % 256)).dlc % 16 ∧
        t.on (Reg.BV_META_NEW v) = (s.rxObj (256 * (w.toNat % 8) + w.toNat / 8 % 256)).fresh ∧
        t.on (Reg.BV_META_LOST v) = (s.rxObj (256 * (w.toNat % 8) + w.toNat / 8 % 256)).lost) ∧
      (t.rxObj (256 * (w.toNat % 8) + w.toNat / 8 % 256)).fresh = false ∧ (t.rxObj (256 * (w.toNat % 8) + w.toNat / 8 % 256)).lost = false ∧
      (t.rxObj (256 * (w.toNat % 8) + w.toNat / 8 % 256)).data = (s.rxObj (256 * (w.toNat % 8) + w.toNat / 8 % 256)).data) ∧
    (s.variant.buses ≤ w.toNat % 8 → ∃ t, exec (.bvCapture p v w) s = .next t ∧ t.fld (Reg.BV_STAT_RESULT v) = 3 ∧ t.bp = s.bp) ∧
    (w.toNat % 8 < s.variant.buses → bit w.toNat 11 = true → w.toNat / 8 % 256 < 128 →
      (s.txCfg (128 * (w.toNat % 8) + w.toNat / 8 % 256)).isSome = true → s.loopDriven (w.toNat % 8) (w.toNat / 8 % 256) = false →
      bit (((s.txCfg (128 * (w.toNat % 8) + w.toNat / 8 % 256)).getD []).getD 0 0) 30 = true ∨ s.fld (Reg.BV_META_DLC v) ≤ 8 → ∃ t, exec (.bvCommit p v w) s = .next t ∧ t.fld (Reg.BV_STAT_RESULT v) = 0 ∧
      (t.txObj (128 * (w.toNat % 8) + w.toNat / 8 % 256)).written = true ∧
      (t.txObj (128 * (w.toNat % 8) + w.toNat / 8 % 256)).data = (s.viewData v).take (dlcBytes (bit (((s.txCfg (128 * (w.toNat % 8) + w.toNat / 8 % 256)).getD []).getD 0 0) 30) (((s.txCfg (128 * (w.toNat % 8) + w.toNat / 8 % 256)).getD []).getD 1 0 % 16)) ∧
      t.bp.ports = s.bp.ports ∧ t.bp.rx = s.bp.rx) ∧
    (w.toNat % 8 < s.variant.buses → bit w.toNat 11 = true → w.toNat / 8 % 256 < 128 →
      (s.txCfg (128 * (w.toNat % 8) + w.toNat / 8 % 256)).isSome = true → s.loopDriven (w.toNat % 8) (w.toNat / 8 % 256) = true →
      ∃ t, exec (.bvCommit p v w) s = .next t ∧ t.fld (Reg.BV_STAT_RESULT v) = 4 ∧ t.bp = s.bp) ∧
    (w.toNat % 8 < s.variant.buses → bit (s.reg (0x5A1008 + 0x80 * v)).toNat 30 = false → bit (s.reg (0x5A1008 + 0x80 * v)).toNat 31 = false →
      s.fld (Reg.BV_META_DLC v) ≤ 8 → (s.port (w.toNat % 8)).queue.length < 16 →
      ((s.port (w.toNat % 8)).window.isSome = true → (s.port (w.toNat % 8)).kind = 2 → s.maySend (w.toNat % 8) = true →
        s.on (Reg.BV_META_ONE_SHOT v) = false ∧ ∀ e ∈ (s.port (w.toNat % 8)).queue, e.oneShot = false) → ∃ t, exec (.bvEnqueue p v w) s = .next t ∧
      t.fld (Reg.BV_STAT_RESULT v) = 0 ∧ t.fld (Reg.BP_STATUS_QUEUED (w.toNat % 8)) = (s.port (w.toNat % 8)).queue.length + 1 ∧
      (t.port (w.toNat % 8)).queue.map (·.hdr) = (s.port (w.toNat % 8)).queue.map (·.hdr) ++ [(s.reg (0x5A1008 + 0x80 * v)).toNat]) ∧
    (w.toNat % 8 < s.variant.buses → bit (s.reg (0x5A1008 + 0x80 * v)).toNat 30 = false → bit (s.reg (0x5A1008 + 0x80 * v)).toNat 31 = false →
      s.fld (Reg.BV_META_DLC v) ≤ 8 → 16 ≤ (s.port (w.toNat % 8)).queue.length → ∃ t, exec (.bvEnqueue p v w) s = .next t ∧
      t.fld (Reg.BV_STAT_RESULT v) = 2 ∧ t.bp = s.bp ∧
      t.fld (Reg.BP_CNT_G_QFULL_N (w.toNat % 8)) = min (s.fld (Reg.BP_CNT_G_QFULL_N (w.toNat % 8)) + 1) 65535) ∧
    (w.toNat % 8 < s.variant.buses → bit (s.reg (0x5A1008 + 0x80 * v)).toNat 30 = false → 8 < s.fld (Reg.BV_META_DLC v) → ∃ t,
      exec (.bvEnqueue p v w) s = .next t ∧ t.fld (Reg.BV_STAT_RESULT v) = 5 ∧ t.bp = s.bp)

/-- R341–R343, R323: commands of the rings. Covers SQ_TAIL_WRITE, NOP, REG_WRITE, REG_READ, FIX and BUS_SEND. That a transfer over a
port whose DMA is stopped is a DMA error is the model's choice (log 11). Conventions of the model it rests on: log 14, 16, 17, 43 and
44. -/
def Obligations.RingCommands : Prop :=
  ∀ s : State, s.pw.coreUp = true →
    (∀ c (v : Word), c < s.variant.contexts → s.on (Reg.CTX_CFG_BOUND c) = true → ∃ t, exec (.sqTailWrite c v) s = .next t ∧
      t.fld (Reg.CW_SQ_TAIL_INDEX c) = v.toNat % 256 ∧ t.fld (Reg.CW_SQ_HEAD_INDEX c) = s.fld (Reg.CW_SQ_HEAD_INDEX c) ∧ t.hp = s.hp) ∧
    (∀ c tag, s.mayTake c = true → s.dmaRuns c = true → tag < 2 ^ 16 → ∃ t, exec (.nop c tag 0) s = .next t ∧ completes s t c tag 0 0 0 = true ∧ t.lg = s.lg) ∧
    (∀ c tag flags, s.mayTake c = true → s.dmaRuns c = true → tag < 2 ^ 16 → flags < 2 ^ 8 → flags &&& 0xFA ≠ 0 → bit flags 0 = false → ∃ t,
      exec (.nop c tag flags) s = .next t ∧ completes s t c tag 3 0 0 = true) ∧
    (∀ c tag, s.mayTake c = true → tag < 2 ^ 16 → ∃ t, exec (.nop c tag 1) s = .next t ∧ t.fbit ⟨0x2C + 0x1000 * c, 0, 6⟩ 0 = true) ∧
    (∀ c tag a (v m : Word), s.mayTake c = true → s.dmaRuns c = true → tag < 2 ^ 16 → a < 2 ^ 26 → a % 4 = 0 → 0x400000 ≤ a →
      absent s.variant a = true → ∃ t, exec (.regWrite c tag 0 a v m) s = .next t ∧ completes s t c tag 1 0 0 = true ∧
        t.reg a = s.reg a) ∧
    (∀ c tag a (v m : Word), s.mayTake c = true → s.dmaRuns c = true → tag < 2 ^ 16 → a < 2 ^ 26 → a % 4 = 0 → 0x400000 ≤ a → a < 0x1000000 → a ≠ 0x5B0040 →
      absent s.variant a = false → (rowOf a).isSome = true → s.mayWrite c a = false → ∃ t, exec (.regWrite c tag 0 a v m) s = .next t ∧
        completes s t c tag 2 0 0 = true ∧ (a < 0x5B0000 → t.reg a = s.reg a)) ∧
    (∀ c tag (v m : Word), s.mayTake c = true → s.dmaRuns c = true → tag < 2 ^ 16 → s.supervisor c = true → ∃ t,
      exec (.regWrite c tag 0 0x5B0010 v m) s = .next t ∧ completes s t c tag 0 0 0 = true ∧
        (t.reg 0x5B0010).toNat % 256 = (v.toNat &&& m.toNat ||| (s.reg 0x5B0010).toNat &&& (0xFFFFFFFF ^^^ m.toNat)) % 256) ∧
    (∀ c tag a, s.mayTake c = true → s.dmaRuns c = true → tag < 2 ^ 16 → a < 2 ^ 26 → ∃ t, exec (.regRead c tag 0 a) s = .next t ∧
      completes s t c tag (statusOf ((s.take c).regRead c a).2.1) ((s.take c).regRead c a).2.2.toNat 0 = true) ∧
    (∀ c tag flags (f : FixIn), s.mayTake c = true → s.dmaRuns c = true → tag < 2 ^ 16 → flags = 0 ∨ flags = 4 → fixFits f = true → s.inhibitor c = false →
      s.holds c Reg.CTX_PERM_FIX_SOURCE = true → ∃ t, exec (.fix c tag flags f) s = .next t ∧ completes s t c tag 0 0 0 = true ∧
        t.po = ((s.take c).submitFix { f with stamp := s.full40 (f.stamp.toNat % 2 ^ 40), hdg := if bit flags 2 = true then f.hdg else none }).po) ∧
    (∀ c tag (f : FixIn), s.mayTake c = true → s.dmaRuns c = true → tag < 2 ^ 16 → fixFits f = true → s.holds c Reg.CTX_PERM_FIX_SOURCE = false → ∃ t,
      exec (.fix c tag 0 f) s = .next t ∧ completes s t c tag 2 0 0 = true ∧ t.po = s.po) ∧
    (∀ c tag p dlc (one ide : Bool) id data, s.mayTake c = true → tag < 2 ^ 16 → p < s.variant.buses → dlc ≤ 8 → id < 2 ^ 11 → s.inhibitor c = false →
      s.mayEnqueue c p (hdrOf id ide false false) = true → (s.port p).queue.length < 16 → ∃ t,
      exec (.busSend c tag 0 p dlc one ide false false id data) s = .next t ∧ taken s t c = true ∧
        (t.port p).queue = (s.port p).queue ++ [{ ctx := c, cmd := some (tag, 0), hdr := hdrOf id ide false false, dlc := dlc, oneShot := one, data := padTo dlc data }]) ∧
    (∀ c tag p dlc (one ide brs : Bool) id data, s.mayTake c = true → s.dmaRuns c = true → tag < 2 ^ 16 → p < s.variant.buses → 10 < dlc ∧ dlc < 16 → id < 2 ^ 11 →
      s.inhibitor c = false → ∃ t, exec (.busSend c tag 0 p dlc one ide true brs id data) s = .next t ∧ completes s t c tag 13 0 0 = true ∧ t.bp = s.bp) ∧
    (∀ c tag flags, s.mayTake c = true → s.dmaRuns c = false → ∃ t, exec (.nop c tag flags) s = .next t ∧ t.on (Reg.CW_RING_RING_ERR c) = true ∧
      t.on (Reg.CW_RING_EN c) = false ∧ t.fbit ⟨0x2C + 0x1000 * c, 0, 6⟩ 5 = true ∧ t.hp.hostMem = s.hp.hostMem)

/-- R346, R349, R350, R352 and R357: commands that take effect at a frame boundary. Covers CLAIM, RELEASE, OVERRIDE_TAKE,
OVERRIDE_FREE, BIND and UNBIND. Conventions of the model it rests on: log 14, 16, 17, 43 and 44. -/
def Obligations.BoundaryCommands : Prop :=
  ∀ s : State, s.pw.coreUp = true → ∀ c tag first count, s.mayTake c = true → tag < 2 ^ 16 →
    (∀ mode, 1 ≤ count → first + count ≤ s.variant.outlets → 1 ≤ mode ∧ mode ≤ 3 → s.inhibitor c = false →
      s.grouped c Reg.CTX_OWN_GROUPS first count = true → ∃ t, exec (.claim c tag 0 first count mode) s = .next t ∧ taken s t c = true ∧
        t.hp.changes = s.hp.changes ++ [⟨.claim mode, c, tag, 0, first, count, s.ft⟩] ∧
        ∀ o, o < s.variant.outlets → t.reg (0x5BE000 + 4 * o) = s.reg (0x5BE000 + 4 * o)) ∧
    (∀ mode, 1 ≤ count → first + count ≤ s.variant.outlets → 1 ≤ mode ∧ mode ≤ 3 → s.grouped c Reg.CTX_OWN_GROUPS first count = false → s.dmaRuns c = true → ∃ t,
      exec (.claim c tag 0 first count mode) s = .next t ∧ completes s t c tag 2 0 0 = true ∧ t.hp.changes = s.hp.changes) ∧
    (∀ mode, count = 0 → s.dmaRuns c = true → ∃ t, exec (.claim c tag 0 first count mode) s = .next t ∧ completes s t c tag 3 0 0 = true ∧
      t.hp.changes = s.hp.changes) ∧
    (∀ mode, first < 2 ^ 16 → 1 ≤ count → count ≤ 1024 → s.variant.outlets < first + count → 1 ≤ mode ∧ mode ≤ 3 → s.dmaRuns c = true → ∃ t,
      exec (.claim c tag 0 first count mode) s = .next t ∧ completes s t c tag 1 0 0 = true ∧ t.hp.changes = s.hp.changes) ∧
    (1 ≤ count → first + count ≤ s.variant.outlets → s.inhibitor c = false → (∀ o, o < count → s.owns c (first + o) = true) → ∃ t,
      exec (.release c tag 0 first count) s = .next t ∧ taken s t c = true ∧
        t.hp.changes = s.hp.changes ++ [⟨.release, c, tag, 0, first, count, s.ft⟩]) ∧
    (1 ≤ count → first + count ≤ s.variant.outlets → s.inhibitor c = false → s.owns c first = false → s.dmaRuns c = true → ∃ t,
      exec (.release c tag 0 first count) s = .next t ∧ completes s t c tag 4 0 0 = true ∧ t.hp.changes = s.hp.changes) ∧
    (∀ mode target, 1 ≤ count → first + count ≤ s.variant.outlets → 1 ≤ mode ∧ mode ≤ 3 → target < s.variant.contexts → s.supervisor c = true →
      s.inhibitor target = false → ∃ t, exec (.overrideTake c tag 0 first count mode target) s = .next t ∧ taken s t c = true ∧
        t.hp.changes = s.hp.changes ++ [⟨.take mode target, c, tag, 0, first, count, s.ft⟩]) ∧
    (1 ≤ count → first + count ≤ s.variant.outlets → s.supervisor c = true → ∃ t, exec (.overrideFree c tag 0 first count) s = .next t ∧
      taken s t c = true ∧ t.hp.changes = s.hp.changes ++ [⟨.free, c, tag, 0, first, count, s.ft⟩]) ∧
    (1 ≤ count → first + count ≤ s.variant.outlets → s.supervisor c = false → s.dmaRuns c = true → ∃ t, exec (.overrideFree c tag 0 first count) s = .next t ∧
      completes s t c tag 2 0 0 = true ∧ t.hp.changes = s.hp.changes) ∧
    (∀ target, target < s.variant.contexts → s.supervisor c = true → s.on (Reg.CTX_CFG_DEFINED target) = true → ∃ t,
      exec (.bind c tag 0 target) s = .next t ∧ taken s t c = true ∧ t.hp.changes = s.hp.changes ++ [⟨.bind target, c, tag, 0, 0, 0, s.ft⟩] ∧
        t.on (Reg.CTX_CFG_BIND_PEND target) = true ∧ t.fld (Reg.CTX_CFG_BOUND target) = s.fld (Reg.CTX_CFG_BOUND target)) ∧
    (∀ target, target < s.variant.contexts → s.supervisor c = true → s.on (Reg.CTX_CFG_DEFINED target) = true → ∃ t,
      exec (.unbind c tag 0 target) s = .next t ∧ taken s t c = true ∧ t.hp.changes = s.hp.changes ++ [⟨.unbind target, c, tag, 0, 0, 0, s.ft⟩] ∧
        t.on (Reg.CTX_CFG_BIND_PEND target) = true ∧ t.fld (Reg.CTX_CFG_BOUND target) = s.fld (Reg.CTX_CFG_BOUND target))

/-- R349, R350 and Table 13.5: what a frame boundary makes of the changes that wait for it. Conventions of the model it rests on: log
14, 16, 17, 43 and 44. -/
def Obligations.BoundaryOrder : Prop :=
  ∀ (s : State) (tk f g : Time) (c d o m : Nat), 160000 ≤ tdiff tk f → 160000 ≤ tdiff tk g → o < s.variant.outlets →
    c < 1024 ∧ d < 1024 → c ≠ d → 1 ≤ m ∧ m ≤ 3 → s.on (Reg.CTX_CFG_BOUND c) = true → s.on (Reg.CTX_CFG_BOUND d) = true →
    (s.on (Reg.OWN_OWNED o) = false → ∃ t, (withChanges s [⟨.claim m, c, 0, 0, o, 1, f⟩, ⟨.claim m, d, 0, 0, o, 1, g⟩]).boundary tk = t ∧
      t.hp.changes = [] ∧ t.owns c o = true ∧ t.fld (Reg.OWN_MODE o) = m) ∧
    (s.owns c o = true → ∃ t, (withChanges s [⟨.claim m, d, 0, 0, o, 1, f⟩, ⟨.release, c, 0, 0, o, 1, g⟩]).boundary tk = t ∧
      t.hp.changes = [] ∧ t.owns d o = true ∧ t.fld (Reg.OWN_MODE o) = m) ∧
    (∃ t, (withChanges s [⟨.claim m, d, 0, 0, o, 1, f⟩, ⟨.take m c, d, 0, 0, o, 1, g⟩]).boundary tk = t ∧
      t.hp.changes = [] ∧ t.owns c o = true ∧ t.fld (Reg.OWN_MODE o) = m) ∧
    (∀ h : Time, tdiff tk h < 160000 → ∃ t, (withChanges s [⟨.claim m, c, 0, 0, o, 1, h⟩]).boundary tk = t ∧
      t = withChanges s [⟨.claim m, c, 0, 0, o, 1, h⟩])

/-- R162, R351, R352 and Table 13.3: edges, inhibits and overrides that act at once. Covers EDGE, INHIBIT, INHIBIT_LIFT,
OVERRIDE_WITHDRAW and OVERRIDE_LIFT. Conventions of the model it rests on: log 14, 16, 17, 43 and 44. -/
def Obligations.LedgerCommands : Prop :=
  ∀ s : State, s.pw.coreUp = true → ∀ c tag, s.mayTake c = true → tag < 2 ^ 16 →
    (∀ o kind (due : Time) rate, s.edgeStatus c o kind due rate = 0 → (s.allocClass kind o).isSome = true → s.freeIndex.isSome = true → s.dmaRuns c = true → ∃ t,
      exec (.edge c tag 0 o kind due rate) s = .next t ∧ completes s t c tag 0 (s.freeIndex.getD 0) due.toNat = true ∧
        ∃ e, t.entry (s.freeIndex.getD 0) = some e ∧ e.st = eBooked ∧ e.kind = kind ∧ e.outlet = o ∧ e.due = due ∧ e.ctx = some c) ∧
    (∀ o kind (due : Time) rate, s.edgeStatus c o kind due rate ≠ 0 → s.dmaRuns c = true → ∃ t, exec (.edge c tag 0 o kind due rate) s = .next t ∧
      completes s t c tag (s.edgeStatus c o kind due rate) 0 0 = true ∧ t.lg = s.lg) ∧
    (∀ o kind (due : Time) rate, o < s.variant.outlets → kind ≤ 2 → rate < 2 ^ 20 → s.inhibitor c = false → s.quietPending = false → s.owns c o = false → s.dmaRuns c = true → ∃ t, exec (.edge c tag 0 o kind due rate) s = .next t ∧ completes s t c tag 4 0 0 = true ∧ t.lg = s.lg) ∧
    (∀ first count, 1 ≤ count → first + count ≤ s.variant.outlets → s.supervisor c = true ∨ s.inhibitor c = true →
      s.grouped c Reg.CTX_INH_GROUPS first count = true → s.dmaRuns c = true → ∃ t, exec (.inhibit c tag 0 first count) s = .next t ∧ completes s t c tag 0 0 0 = true ∧
        (∀ o, first ≤ o → o < first + count → t.on (Reg.OT_STATE_INHIBIT o) = true ∧ (o, c) ∈ t.hp.inhibits ∧ t.isOpen o = false) ∧
        ∀ i e, s.entry i = some e → first ≤ e.outlet → e.outlet < first + count → e.st = eBooked ∨ e.st = eCommitted →
          ∃ x, t.entry i = some x ∧ if e.kind = kClose then x.st = e.st else x.st = eCancelled ∧ x.cause = 5) ∧
    (∀ first count, 1 ≤ count → first + count ≤ s.variant.outlets → s.supervisor c = true ∨ s.inhibitor c = true →
      s.grouped c Reg.CTX_INH_GROUPS first count = true → s.dmaRuns c = true → ∃ t, exec (.inhibitLift c tag 0 first count) s = .next t ∧ completes s t c tag 0 0 0 = true ∧
        t.hp.inhibits = s.hp.inhibits.filter (fun x => !(inRange first (first + count) x.1 && decide (x.2 = c))) ∧
        ∀ o, first ≤ o → o < first + count → t.on (Reg.OT_STATE_INHIBIT o) = (t.hp.inhibits.any fun x => decide (x.1 = o))) ∧
    (∀ first count, 1 ≤ count → first + count ≤ s.variant.outlets → s.supervisor c = false → s.inhibitor c = false → s.dmaRuns c = true → ∃ t,
      exec (.inhibit c tag 0 first count) s = .next t ∧ completes s t c tag 2 0 0 = true ∧ t.hp.inhibits = s.hp.inhibits ∧ t.lg = s.lg) ∧
    (∀ first count (since : Time), 1 ≤ count → first + count ≤ s.variant.outlets → s.supervisor c = true → s.dmaRuns c = true → ∃ t,
      exec (.overrideWithdraw c tag 0 first count since) s = .next t ∧ completes s t c tag 0 0 0 = true ∧
        ∀ i e, s.entry i = some e → e.st = eBooked ∨ e.st = eCommitted →
          ∃ x, t.entry i = some x ∧ if first ≤ e.outlet ∧ e.outlet < first + count ∧ tge e.due since = true then x.st = eCancelled ∧ x.cause = 6
            else x.st = e.st) ∧
    (∀ first count, 1 ≤ count → first + count ≤ s.variant.outlets → s.supervisor c = true → s.dmaRuns c = true → ∃ t, exec (.overrideLift c tag 0 first count) s = .next t ∧
      completes s t c tag 0 0 0 = true ∧ t.hp.inhibits = s.hp.inhibits.filter (fun x => !inRange first (first + count) x.1) ∧
      ∀ o, first ≤ o → o < first + count → t.on (Reg.OT_STATE_INHIBIT o) = false)

/-- R337–R340 and R356: doorbells, links and service-port frames. Covers HALT_DOORBELL, HOST_LINK_DOWN, CW_RDATA_ACCESS, SPI_WRITE,
SPI_READ and SPI_STATUS_READ. Conventions of the model it rests on: log 14, 16, 17, 43 and 44. -/
def Obligations.HostPorts : Prop :=
  ∀ s : State, s.pw.coreUp = true →
    (∀ p, p < 4 → s.supervisor (s.directCtx p) = true ∨ s.on (Reg.CTX_PERM_HALT (s.directCtx p)) = true → ∃ t,
      exec (.haltDoorbell p none 0x51A7) s = .next t ∧ t.fbit Reg.HP_EVENT_HALT p = true ∧ t.on Reg.RES_STATE_STOP = true) ∧
    (∀ p c, p < 4 → c < s.variant.contexts → s.on (Reg.CTX_CFG_BOUND c) = true → s.supervisor c = true ∨ s.on (Reg.CTX_PERM_HALT c) = true → ∃ t,
      exec (.haltDoorbell p (some c) 0x51A7) s = .next t ∧ t.fbit Reg.HP_EVENT_HALT p = true ∧ t.on Reg.RES_STATE_STOP = true) ∧
    (∀ p (v : Word), p < 4 → v ≠ 0x51A7 → ∃ t, exec (.haltDoorbell p none v) s = .next t ∧ t.on Reg.HP_EVENT_HALT_REJ = true ∧
      t.fld Reg.RES_STATE_STOP = s.fld Reg.RES_STATE_STOP ∧ t.lg = s.lg) ∧
    (∀ p c (v : Word), s.on (Reg.CTX_CFG_BOUND c) = false → ∃ t, exec (.haltDoorbell p (some c) v) s = .next t ∧ t = s) ∧
    (∀ p, p < 2 → ∃ t, exec (.hostLinkDown p true) s = .next t ∧ t.fbit Reg.HP_EVENT_LINK_DOWN p = true ∧ t.fbit Reg.HP_STATUS_LINK_UP p = false ∧
      t.hp.dmaOff.contains p = true ∧ t.lg = s.lg ∧ t.hp.inhibits = s.hp.inhibits ∧ ∀ c, c < s.variant.contexts → s.on (Reg.CTX_CFG_BOUND c) = true → s.fld (Reg.CTX_CFG_PORT c) = p → t.on (Reg.CW_RING_EN c) = false ∧
        t.on (Reg.CTX_CFG_BOUND c) = true ∧ ∀ k, k < 4 → t.on (Reg.CW_STR_CFG_EN c k) = false) ∧
    (∀ p (d : Bool), 2 ≤ p → ∃ t, exec (.hostLinkDown p d) s = .next t ∧ t = s) ∧
    (∀ c w, s.fld Reg.RES_STATE_STATE ≠ 3 → c < s.variant.contexts → s.on (Reg.CTX_CFG_BOUND c) = true → s.pw.brown = false →
      0x1000000 ≤ s.fld (Reg.CW_RADDR_OFFSET c) → s.fld (Reg.CW_RADDR_OFFSET c) < 0x1000000 + 0x1800000 → s.fld (Reg.CW_RADDR_OFFSET c) % 4 = 0 →
      absent s.variant (s.fld (Reg.CW_RADDR_OFFSET c)) = false → ∃ t, exec (.cwRdataAccess c w) s = .next t ∧
      if s.mayMap c = true then t.answer.code = 0 ∧ t.fld (Reg.CW_RSTAT_RESULT c) = 0 ∧
        (w = none → t.answer.data = [BitVec.ofNat 32 (leNat (s.apertureRead (s.fld (Reg.CW_RADDR_OFFSET c) - 0x1000000) 4))] ∧ t.mp = s.mp) ∧
        (w.isSome = true → t.answer.data = [] ∧
          t.mp = (s.apertureWrite (s.fld (Reg.CW_RADDR_OFFSET c) - 0x1000000) (leBytes 4 (w.getD 0).toNat)).mp)
      else t.answer.code = 1 ∧ t.fld (Reg.CW_RSTAT_RESULT c) = 1 ∧ t.mp = s.mp ∧ (w = none → t.answer.data = [0])) ∧
    (∀ c w, s.fld Reg.RES_STATE_STATE ≠ 3 → c < s.variant.contexts → s.on (Reg.CTX_CFG_BOUND c) = true → s.pw.brown = false →
      s.fld (Reg.CW_RADDR_OFFSET c) % 4 = 0 → absent s.variant (s.fld (Reg.CW_RADDR_OFFSET c)) = true → ∃ t, exec (.cwRdataAccess c w) s = .next t ∧
      t.fld (Reg.CW_RSTAT_RESULT c) = 2 ∧ t.answer.code = (if s.fld (Reg.CTX_CFG_PORT c) < 2 then 0 else 2) ∧ (w = none → t.answer.data = [0]) ∧ t.mp = s.mp) ∧
    (∀ p off ws, 2 ≤ p ∧ p < 4 → off % 4 = 0 → off + 4 * ws.length ≤ 0x80000 → ∃ t, exec (.spiWrite p (0x40000000 + off) false ws) s = .next t ∧
      sget (fun _ => 0) t.hp.spi p = 0 ∧ sgetMany (fun _ => 0) t.hp.ring ((p - 2) * 0x80000 + off) (4 * ws.length) = ws.flatMap (fun w => leBytes 4 w.toNat)) ∧
    (∀ p off n, 2 ≤ p ∧ p < 4 → off % 4 = 0 → off + 4 * n ≤ 0x80000 → ∃ t, exec (.spiRead p (0x40000000 + off) n) s = .next t ∧
      t.answer = { code := 0, data := wordsOf (sgetMany (fun _ => 0) s.hp.ring ((p - 2) * 0x80000 + off) (4 * n)) n } ∧ t.hp.ring = s.hp.ring) ∧
    (∀ p a (cut : Bool) ws, 2 ≤ p ∧ p < 4 → a < 2 ^ 32 → 2 ^ 31 ≤ a ∨ cut = true ∧ 2 ^ 30 ≤ a → ∃ t, exec (.spiWrite p a cut ws) s = .next t ∧ sget (fun _ => 0) t.hp.spi p = 3 ∧
      t.hp.ring = s.hp.ring) ∧
    (∀ p, 2 ≤ p ∧ p < 4 → ∃ t, exec (.spiStatusRead p) s = .next t ∧ t.answer = { code := 0, data := [BitVec.ofNat 32 (sget (fun _ => 0) s.hp.spi p)] } ∧
      t.hp.spi = s.hp.spi)

/-- R369, R371, R373 and R374: staging, verification and boot slots. Covers STAGING_WRITE, VERIFY, VERIFY_DONE, DISCARD, SAVE,
SAVE_COMPLETE, LOAD and LOAD_COMPLETE. Conventions of the model it rests on: log 48 to 51. -/
def Obligations.ImageStaging : Prop :=
  ∀ s : State, s.pw.coreUp = true →
    (∀ p ofs bs, s.Serves p → s.stage = stEmpty ∨ s.stage = stRefused → ofs + bs.length ≤ 0x180000 → ∃ t, exec (.stagingWrite p ofs bs) s = .next t ∧
      sgetMany (fun _ => 0) t.im.staging ofs bs.length = bs ∧
      (∀ i, i < ofs ∨ ofs + bs.length ≤ i → sget (fun _ => 0) t.im.staging i = sget (fun _ => 0) s.im.staging i) ∧ t.answer.code = 0) ∧
    (∀ p ofs bs, s.Serves p → s.stage ≠ stEmpty → s.stage ≠ stRefused → ofs + bs.length ≤ 0x180000 → ∃ t, exec (.stagingWrite p ofs bs) s = .next t ∧
      t.im = s.im ∧ t.on Reg.IMG_EVENT_CFG_ERR = true) ∧
    (∀ p, s.Serves p → s.stage ≠ stPending → s.stage ≠ stVerifying → s.im.loading = none → ∃ t, exec (.verify p) s = .next t ∧
      t.stage = stVerifying ∧ t.im.active = s.im.active ∧ t.reg 0x401010 = s.reg 0x401010 ∧
      t.im.staged = (s.check s.stagedBytes).toOption ∧ t.im.staging = s.im.staging) ∧
    (∀ p, s.Serves p → s.stage = stPending → ∃ t, exec (.verify p) s = .next t ∧ t.stage = stPending ∧ t.fld Reg.IMG_ERR_CODE = 13 ∧
      t.fld Reg.IMG_ERR_SEG = 0 ∧ t.fld Reg.IMG_ERR_RULE = 0 ∧ t.fld Reg.IMG_ERROFS_OFFSET = 0 ∧ t.on Reg.IMG_EVENT_VERIFY_DONE = true ∧
      t.reg 0x401010 = s.reg 0x401010 ∧ t.im = s.im) ∧
    (s.stage = stVerifying → s.im.staged.isSome = true → ∃ t, exec .verifyDone s = .next t ∧ t.stage = stVerified ∧
      t.on Reg.IMG_EVENT_VERIFY_DONE = true ∧ (t.reg 0x401010).toNat % 65536 = (s.im.passed + 1) % 65536 ∧ t.im.passed = (s.im.passed + 1) % 65536) ∧
    (s.stage = stVerifying → s.im.staged = none → ∃ t, exec .verifyDone s = .next t ∧ t.stage = stRefused ∧ t.on Reg.IMG_EVENT_REFUSED = true ∧
      t.fld Reg.IMG_ERR_CODE = (s.im.verdict.getD (0, 0, 0, 0)).1 % 256 ∧ t.reg 0x401010 = s.reg 0x401010) ∧
    (∀ p, s.Serves p → s.stage ≠ stPending → ∃ t, exec (.discard p) s = .next t ∧ t.stage = stEmpty ∧ t.im.staged = none ∧
      t.reg 0x40102C = 0 ∧ t.reg 0x401034 = 0 ∧ t.reg 0x401024 = 0 ∧ t.im.active = s.im.active) ∧
    (∀ p, s.Serves p → s.stage = stPending → ∃ t, exec (.discard p) s = .next t ∧ t.stage = stPending ∧ t.im = s.im ∧ t.on Reg.IMG_EVENT_CFG_ERR = true) ∧
    (∀ p k (trial : Bool), s.Serves p → k < 2 → s.on Reg.IMG_STATUS_BUSY = false → s.im.active.isSome = true → s.im.staged.isSome = true →
      (s.bootSlot (1 - k)).valid = true → ∃ t, exec (.save p k trial) s = .next t ∧ t.on Reg.IMG_STATUS_BUSY = true ∧ (t.bootSlot k).valid = false ∧
      t.bootSlot (1 - k) = s.bootSlot (1 - k) ∧
      t.im.saving = some (k, ((if s.stage = stVerified ∨ s.stage = stPending then s.im.staged else s.im.active).getD {}).bytes, trial)) ∧
    (∀ p k (trial : Bool), s.Serves p → k < 2 → (s.bootSlot k).valid = true → (s.bootSlot (1 - k)).valid = false → ∃ t,
      exec (.save p k trial) s = .next t ∧ t.on Reg.IMG_EVENT_CFG_ERR = true ∧ t.im.slots = s.im.slots) ∧
    (s.im.saving.isSome = true → (s.im.saving.getD (0, [], false)).1 < 2 → ∃ t, exec (.saveComplete true) s = .next t ∧ t.on Reg.IMG_STATUS_BUSY = false ∧
      t.on Reg.IMG_EVENT_SAVE_DONE = true ∧ t.im.saving = none ∧ t.bootSlot (s.im.saving.getD (0, [], false)).1 =
        { bytes := (s.im.saving.getD (0, [], false)).2.1, valid := true, trial := (s.im.saving.getD (0, [], false)).2.2, tried := false }) ∧
    (s.im.saving.isSome = true → ∃ t, exec (.saveComplete false) s = .next t ∧ t.on Reg.IMG_EVENT_SAVE_FAIL = true ∧ t.im.slots = s.im.slots ∧
      t.im.saving = none ∧ t.on Reg.IMG_STATUS_BUSY = false) ∧
    (∀ p k, s.Serves p → k < 2 → s.on Reg.IMG_STATUS_BUSY = false → s.stage ≠ stVerifying → s.stage ≠ stPending → (s.bootSlot k).valid = true → ∃ t,
      exec (.load p k) s = .next t ∧ t.im.loading = some k ∧ t.on Reg.IMG_STATUS_BUSY = true ∧ t.stage = stEmpty ∧ t.im.staged = none) ∧
    (s.im.loading.isSome = true → ∃ t, exec (.loadComplete true) s = .next t ∧ t.stage = s.stage ∧ t.im.loading = none ∧ t.on Reg.IMG_STATUS_BUSY = false ∧
      t.im.staged = s.im.staged ∧ ∀ i, sget (fun _ => 0) t.im.staging i = (s.bootSlot (s.im.loading.getD 0)).bytes.getD i 0)

/-- R367, R368 and R372: keys, the floor and CONFIRM. Covers CONFIRM, RAISE_FLOOR, KEY_PROG and KEY_REVOKE. Conventions of the model it
rests on: log 48 to 51. -/
def Obligations.ImageKeys : Prop :=
  ∀ s : State, ∀ p, s.Serves p →
    (s.fld Reg.IMG_STATUS_BOOTED_FROM = 1 ∨ s.fld Reg.IMG_STATUS_BOOTED_FROM = 2 → ∃ t, exec (.confirm p) s = .next t ∧
      (t.bootSlot (s.fld Reg.IMG_STATUS_BOOTED_FROM - 1)).trial = false ∧
      (t.bootSlot (s.fld Reg.IMG_STATUS_BOOTED_FROM - 1)).bytes = (s.bootSlot (s.fld Reg.IMG_STATUS_BOOTED_FROM - 1)).bytes ∧
      t.bootSlot (2 - s.fld Reg.IMG_STATUS_BOOTED_FROM) = s.bootSlot (2 - s.fld Reg.IMG_STATUS_BOOTED_FROM)) ∧
    (s.im.active.isSome = true → ∃ t, exec (.raiseFloor p) s = .next t ∧
      t.fld Reg.IMG_FLOOR_SEC_FLOOR = max (s.fld Reg.IMG_FLOOR_SEC_FLOOR) ((s.im.active.getD {}).hdr 22 2)) ∧
    (s.im.active = none → ∃ t, exec (.raiseFloor p) s = .next t ∧ t.fld Reg.IMG_FLOOR_SEC_FLOOR = s.fld Reg.IMG_FLOOR_SEC_FLOOR ∧
      t.on Reg.IMG_EVENT_CFG_ERR = true) ∧
    (∀ k, k < 4 → s.key k = none → ∃ t, exec (.keyProg p k) s = .next t ∧ t.key k = some { digest := s.keyDigest } ∧
      t.fbit Reg.IMG_KEY_PROGRAMMED k = true ∧ t.unkeyed = false ∧ ∀ j, j < 4 → j ≠ k → t.key j = s.key j) ∧
    (∀ k, k < 4 → (s.key k).isSome = true → ∃ t, exec (.keyProg p k) s = .next t ∧ t.im.keys = s.im.keys ∧ t.on Reg.IMG_EVENT_CFG_ERR = true) ∧
    (∀ k j, k < 4 → j < 4 → j ≠ k → (s.key k).isSome = true → (s.key j).any (fun x => !x.revoked && !x.bad) = true → ∃ t,
      exec (.keyRevoke p k) s = .next t ∧ (t.key k).any (fun x => x.revoked) = true ∧ t.fbit Reg.IMG_KEY_REVOKED k = true ∧
      ∀ m, m < 4 → m ≠ k → t.key m = s.key m) ∧
    (∀ k, k < 4 → (∀ j, j < 4 → j ≠ k → (s.key j).any (fun x => !x.revoked && !x.bad) = false) → ∃ t, exec (.keyRevoke p k) s = .next t ∧
      t.im.keys = s.im.keys ∧ t.on Reg.IMG_EVENT_CFG_ERR = true)

/-- R374, R375 and R377: commits and activation. Covers IMG_COMMIT, STAGED_COPY_DONE and ACTIVATION. Conventions of the model it rests
on: log 48 to 51. -/
def Obligations.ImageCommits : Prop :=
  ∀ s : State,
    (∀ p (v : Word), s.Serves p → s.stage ≠ stVerified ∨ v ≠ s.reg 0x401010 → ∃ t, exec (.imgCommit p v) s = .next t ∧ t.im = s.im ∧
      t.stage = s.stage ∧ t.on Reg.IMG_EVENT_CFG_ERR = true) ∧
    (∀ p, s.Serves p → s.stage = stVerified → s.im.staged.isSome = true → s.im.active.isSome = true → liveDiff (s.reg 0x401024).toNat = true →
      ∃ t, exec (.imgCommit p (s.reg 0x401010)) s = .next t ∧ t.stage = stPending ∧ t.on Reg.IMG_STATUS_LIVE = true ∧ t.im.active = s.im.active ∧
      t.reg64 0x401018 = s.framesAhead.2.toNat) ∧
    (∀ p, s.Serves p → s.stage = stVerified → s.im.staged.isSome = true → s.im.active.isSome = true → liveDiff (s.reg 0x401024).toNat = false →
      s.quiet = true → ∃ t, exec (.imgCommit p (s.reg 0x401010)) s = .next t ∧ t.stage = stPending ∧ t.on Reg.IMG_STATUS_LIVE = false) ∧
    (∀ p, s.Serves p → s.stage = stVerified → s.im.staged.isSome = true → s.im.active.isSome = true → liveDiff (s.reg 0x401024).toNat = false →
      s.quiet = false → ∃ t, exec (.imgCommit p (s.reg 0x401010)) s = .next t ∧ t.stage = stVerified ∧ t.im = s.im ∧
      t.on Reg.IMG_EVENT_CFG_ERR = true ∧ t.on Reg.IMG_EVENT_NOT_QUIET = true) ∧
    (∀ p, s.Serves p → s.stage = stVerified → s.im.staged.isSome = true → s.im.active = none → ∃ t,
      exec (.imgCommit p (s.reg 0x401010)) s = .next t ∧ t.stage = stEmpty ∧ t.on Reg.IMG_STATUS_ACTIVE = true ∧ t.im.active = s.im.staged ∧
      t.on Reg.IMG_EVENT_ACTIVATED = true ∧ t.reg64 0x401018 = s.ft.toNat) ∧
    (s.pw.coreUp = true → s.stage = stPending → s.inTakeover = false → ∃ t, exec .stagedCopyDone s = .next t ∧ t.im = { s.im with copied := true } ∧ t.regs = s.regs) ∧
    (s.pw.coreUp = true → s.stage = stPending → s.im.staged.isSome = true → s.pw.sleepBy = none → ∃ t, exec .activation s = .next t ∧ t.stage = stEmpty ∧
      t.im.active = s.im.staged ∧ t.im.staged = none ∧ t.on Reg.IMG_STATUS_ACTIVE = true ∧ t.on Reg.IMG_STATUS_LIVE = false ∧
      t.reg 0x40102C = 0 ∧ t.reg 0x401034 = 0 ∧ t.reg 0x401024 = 0 ∧ t.on Reg.IMG_EVENT_ACTIVATED = true ∧ t.im.staging = s.im.staging ∧
      t.fld Reg.IMG_STATUS_BOOTED_FROM = 0) ∧
    (s.stage ≠ stPending → s.pw.sleepBy = none → ∃ t, exec .activation s = .next t ∧ t = s)

/-- R403, R405, R407 and R408: power-on, reset release, READY and failed starts. Covers VBAT_POWER_ON, RESET_RELEASE, RESET_N_LOW,
READY, PG_START_TIMEOUT and PG_LOST. Conventions of the model it rests on: log 53 and 54. -/
def Obligations.StartUp : Prop :=
  ∀ s : State,
    (∃ t, exec .vbatPowerOn s = .next t ∧ t.pw.coreUp = false ∧ t.pw.asleep = false ∧ t.pw.brown = false ∧ t.on Reg.PWR_STATUS_RTC_VALID = false ∧
      t.on Reg.PWR_STATUS_READY = false ∧ t.pw.startKind = (if s.pw.asleep then 2 else 0) ∧ (s.pw.asleep = true → t.fld Reg.PWR_WAKE_WAKE_SRC = 4)) ∧
    (∀ a b, s.pw.coreUp = false → s.pw.asleep = false → s.pw.brown = false → s.pw.stuck = false → ∃ t, exec (.resetRelease a b) s = .next t ∧ t.pw.coreUp = true ∧
      t.fld Reg.PWR_STATUS_START_KIND = s.pw.startKind % 4 ∧ t.fld Reg.PWR_STATUS_PG = 7 ∧ t.on Reg.PWR_STATUS_READY = false ∧ t.pw.released = 0 ∧
      t.rc.tags = s.rc.tags ∧ t.rc.canvas = s.rc.canvas ∧ t.rc.queue.length ≤ 64 ∧ t.im.keys = s.im.keys ∧ t.pw.banks = s.pw.banks ∧
      t.gn.retained = s.gn.retained ∧ t.pw.saveSeq = max (max (s.bankSeq 0) (s.bankSeq 1)) ((s.pw.ld.map (·.seq)).getD 0)) ∧
    (∀ a b, s.pw.coreUp = false → s.pw.asleep = false → s.pw.brown = false → s.pw.stuck = false → ∃ t, exec (.resetRelease a b) s = .next t ∧
      t.fld Reg.RES_STATE_LANE_A = (if a then 0 else 2) ∧ t.fld Reg.RES_STATE_LANE_B = (if b then 0 else 2) ∧
      t.fld Reg.RES_STATE_STATE = (if a && b then 0 else if a || b then 2 else 3) ∧ (t.on Reg.RES_EVENT_FENCED = !(a && b)) ∧
      t.rs.fencedLanes = (if a then [] else [0]) ++ (if b then [] else [1]) ∧ (∀ c ∈ t.rs.fencedCopies, c ∈ s.rs.fencedCopies) ∧
      (a = false → b = false → t.on Reg.RES_STATE_HELD_SAFE = true ∧ t.fld Reg.RES_HSCAUSE_CAUSE = 5)) ∧
    (∀ a b, s.pw.coreUp = true ∨ s.pw.asleep = true ∨ s.pw.brown = true ∨ s.pw.stuck = true → exec (.resetRelease a b) s = .next s) ∧
    (s.pw.coreUp = true → s.pw.asleep = false → ∃ t, exec .resetNLow s = .next t ∧ t.pw.coreUp = false ∧ t.pw.startKind = 1 ∧
      t.on Reg.PWR_STATUS_READY = false ∧ t.ls = s.ls ∧ t.fd = s.fd ∧ t.pw.brown = s.pw.brown ∧ t.pw.saving = none ∧
      (s.pw.brown = true → s.pw.saving.isSome = true → t.on Reg.PWR_EVENT_BO_SAVE_FAIL = true)) ∧
    (∀ k, k < 0x10000 → s.pw.coreUp = true → s.pw.asleep = false → ∃ t, exec .resetNLow s = .next t ∧ t.reg (0x590000 + k) = s.reg (0x590000 + k)) ∧
    (s.pw.asleep = true → exec .resetNLow s = .next s) ∧
    (s.pw.coreUp = false → s.pw.asleep = false → s.pw.stuck = true → exec .resetNLow s = .next { s with pw := { s.pw with stuck := false, startKind := 1 } }) ∧
    (s.pw.coreUp = true → s.pw.brown = false → s.on Reg.PWR_STATUS_READY = false → s.rc.queue.length + s.rc.deferred.length < 64 → ∃ t, exec .ready s = .next t ∧
      t.on Reg.PWR_STATUS_READY = true ∧ t.fld Reg.PWR_TIMES_READY_T = min ((s.ft - s.pw.released).toNat / 800000) 65535 ∧
      t.fld Reg.PWR_AOLOG_FAIL_N = 0 ∧ (s.fld Reg.PWR_AOLOG_FAIL_N ≠ 0 → t.on Reg.PWR_EVENT_START_FAIL = true) ∧ t.rc.deferred = [] ∧
      (t.rc.queue.drop s.rc.queue.length).map (·.kind) = 0x0010 :: s.rc.deferred.map (·.1) ∧
      (t.rc.queue.drop (s.rc.queue.length + 1)).all (fun r => bit r.flags 1) = true) ∧
    (∀ pg, pg < 8 → s.pw.coreUp = false → s.pw.asleep = false → s.pw.brown = false → s.pw.stuck = false → ∃ t, exec (.pgStartTimeout pg) s = .next t ∧ t.pw.coreUp = false ∧ t.pw.stuck = true ∧
      t.fld Reg.PWR_AOLOG_PG_MISSING = pg ∧ t.fld Reg.PWR_AOLOG_FAIL_N = min (s.fld Reg.PWR_AOLOG_FAIL_N + 1) 15 ∧
      t.rc.deferred.map (·.1) = s.rc.deferred.map (·.1) ++ [0x0011]) ∧
    (∀ pg, pg < 8 → s.pw.coreUp = true → ∃ t, exec (.pgLost pg) s = .next t ∧ t.pw.coreUp = false ∧ t.on Reg.PWR_EVENT_PG_LOST = true ∧
      t.on Reg.PWR_AOLOG_PGLOST_PREV = true ∧ t.fld Reg.PWR_STATUS_PG = 7 - pg ∧ t.on Reg.PWR_STATUS_READY = false ∧ t.ls = s.ls ∧ t.fd = s.fd ∧
      t.pw.saving = none)

/-- R410, R412, R413 and R414: a brown-out, its save and its end, and (R403, R405–R408) that each command of a start completes with its
effect. Covers BROWN_OUT, BROWN_OUT_SAVE_DONE, BROWN_OUT_RECOVERED, VBAT_POWER_ON, RESET_RELEASE, RESET_N_LOW, READY, PG_START_TIMEOUT
and PG_LOST. Conventions of the model it rests on: log 53 and 54. -/
def Obligations.BrownOuts : Prop :=
  ∀ s : State,
    (s.pw.coreUp = true → s.pw.brown = false → ∃ t, exec .brownOut s = .next t ∧ t.pw.brown = true ∧ t.pw.coreUp = true ∧
      t.on Reg.PWR_AOLOG_BO_PREV = true ∧ t.pw.sleepBy = none ∧ t.on Reg.PWR_STATUS_SLEEP_PEND = false ∧ t.on Reg.RES_STATE_STOP = true ∧
      t.fbit Reg.RES_STATE_STOP_SRC 1 = true ∧ t.rc.queue = [] ∧ t.im.saving = none ∧ t.im.loading = none ∧
      (s.holdOk = false → t.on Reg.PWR_EVENT_HOLD_LOW = true)) ∧
    (s.pw.coreUp = true → s.pw.brown = false → s.pw.saving = none → s.im.active.isSome = true → s.fld Reg.RES_STATE_STATE ≠ 3 → ∃ t,
      exec .brownOut s = .next t ∧ t.pw.saving = some (if s.bankSeq 0 = 0 ∧ s.bankSeq 1 = 0 then 0 else if s.bankSeq 1 ≤ s.bankSeq 0 then 1 else 0, 1) ∧
      t.bankWord (if s.bankSeq 0 = 0 ∧ s.bankSeq 1 = 0 then 0 else if s.bankSeq 1 ≤ s.bankSeq 0 then 1 else 0) 0 = 0) ∧
    (s.pw.coreUp = true → s.pw.brown = false → s.pw.saving = none → s.im.active = none ∨ s.fld Reg.RES_STATE_STATE = 3 → ∃ t,
      exec .brownOut s = .next t ∧ t.pw.saving = none ∧ t.pw.banks = s.pw.banks) ∧
    (∀ held b, s.pw.brown = true → s.pw.coreUp = true → b < 2 → s.pw.saving = some (b, 1) → ∃ t, exec (.brownOutSaveDone held) s = .next t ∧
      t.pw.coreUp = false ∧ t.pw.brown = true ∧ t.pw.saving = none ∧ t.bankSeq (1 - b) = s.bankSeq (1 - b) ∧
      (held = true → t.on Reg.PWR_EVENT_BO_SAVED = true ∧ t.pw.saveSeq = s.pw.saveSeq + 1 ∧ t.bankSeq b = (s.pw.saveSeq + 1) % 2 ^ 32 ∧
        t.reg (0x5D0030 + 4 * b) = BitVec.ofNat 32 (s.pw.saveSeq + 1) ∧ (t.bankWord b 2).toNat % 256 = 1) ∧
      (held = false → t.on Reg.PWR_EVENT_BO_SAVE_FAIL = true ∧ t.pw.saveSeq = s.pw.saveSeq ∧ t.bankSeq b = 0 ∧ t.reg (0x5D0030 + 4 * b) = 0) ∧
      t.rc.deferred.map (·.1) = s.rc.deferred.map (·.1) ++ [0x0012]) ∧
    (∀ held, s.pw.brown = true → s.pw.coreUp = true → s.pw.saving = none → ∃ t, exec (.brownOutSaveDone held) s = .next t ∧
      t.pw.coreUp = false ∧ t.pw.banks = s.pw.banks ∧ t.pw.saveSeq = s.pw.saveSeq) ∧
    (s.pw.brown = true → s.pw.coreUp = false →
      exec .brownOutRecovered s = .next { s with pw := { s.pw with brown := false, startKind := 3 } }) ∧
    (∀ b c, s.pw.brown = true → s.pw.coreUp = true → s.pw.saving = some (b, c) → b < 2 → ∃ t, exec (.pgLost 1) s = .next t ∧ t.bankSeq b = 0 ∧
      t.on Reg.PWR_EVENT_BO_SAVE_FAIL = true ∧ t.bankSeq (1 - b) = s.bankSeq (1 - b)) ∧
    (∃ t, exec .vbatPowerOn s = .next t ∧ t.pw.brown = false ∧ t.pw.asleep = false ∧ t.pw.coreUp = false ∧ t.on Reg.PWR_STATUS_RTC_VALID = false) ∧
    (∀ a b, s.pw.coreUp = false → s.pw.asleep = false → s.pw.brown = false → s.pw.stuck = false → ∃ t, exec (.resetRelease a b) s = .next t ∧
      t.pw.coreUp = true ∧ t.on Reg.PWR_STATUS_READY = false) ∧
    (s.pw.coreUp = true → s.pw.asleep = false → ∃ t, exec .resetNLow s = .next t ∧ t.pw.coreUp = false ∧ t.pw.startKind = 1) ∧
    (s.pw.coreUp = true → s.on Reg.PWR_STATUS_READY = false → ∃ t, exec .ready s = .next t ∧ t.on Reg.PWR_STATUS_READY = true ∧
      t.fld Reg.PWR_AOLOG_FAIL_N = 0) ∧
    (∀ pg, s.pw.coreUp = false → s.pw.asleep = false → s.pw.brown = false → s.pw.stuck = false → ∃ t, exec (.pgStartTimeout pg) s = .next t ∧
      t.pw.stuck = true ∧ t.fld Reg.PWR_AOLOG_FAIL_N = min (s.fld Reg.PWR_AOLOG_FAIL_N + 1) 15) ∧
    (∀ pg, s.pw.coreUp = true → ∃ t, exec (.pgLost pg) s = .next t ∧ t.pw.coreUp = false ∧ t.on Reg.PWR_EVENT_PG_LOST = true)

/-- R415, R417, R420, R421, R422 and R423: sleep, wake, host saves, learned delays and the RTC. Covers SLEEP, STATE_BANK_SAVE,
STATE_BANK_SAVE_DONE, WAKE, LD_REWRITE, RTC_SET and BANK_DATA_READ. Conventions of the model it rests on: log 53 and 54. -/
def Obligations.SleepAndBanks : Prop :=
  ∀ s : State,
    (∀ p, s.Serves p → s.inFlight ≠ 0 ∨ s.im.saving.isSome = true ∨ (List.range s.variant.outlets).any (fun o => s.on (Reg.OT_STATE_SEALED_OPEN o)) = true →
      ∃ t, exec (.sleep p) s = .next t ∧ t.on Reg.PWR_EVENT_CFG_ERR = true ∧ t.on Reg.PWR_EVENT_SLEEP_BUSY = true ∧ t.pw = s.pw ∧ t.tb = s.tb) ∧
    (∀ p, s.Serves p → s.inFlight = 0 → s.im.saving = none → (List.range s.variant.outlets).any (fun o => s.on (Reg.OT_STATE_SEALED_OPEN o)) = false →
      s.pw.sleepBy = none → s.pw.brown = false → s.stage = stPending ∨ s.on Reg.CV_STATUS_ERASING = true → ∃ t, exec (.sleep p) s = .next t ∧
      t.on Reg.PWR_STATUS_SLEEP_PEND = true ∧ t.pw.sleepBy.isSome = true ∧ t.pw.saving = s.pw.saving ∧ t.pw.ld = s.pw.ld ∧ t.tb = s.tb) ∧
    (∀ p, s.Serves p → s.inFlight = 0 → s.im.saving = none → (List.range s.variant.outlets).any (fun o => s.on (Reg.OT_STATE_SEALED_OPEN o)) = false →
      s.pw.sleepBy = none → s.pw.brown = false → s.stage ≠ stPending → s.on Reg.CV_STATUS_ERASING = false → s.pw.saving = none → ∃ t,
      exec (.sleep p) s = .next t ∧ t.on Reg.PWR_STATUS_SLEEP_PEND = true ∧ t.tb.framesOn = false ∧ t.pw.saveSeq = s.pw.saveSeq + 1 ∧
      t.pw.ld = some { seq := s.pw.saveSeq + 1, recs := s.ldTable } ∧ t.pw.saving.any (fun x => decide (x.2 = 2)) = true) ∧
    (∀ p, s.Serves p → s.pw.saving = none → ∃ t, exec (.stateBankSave p) s = .next t ∧
      t.pw.saving = some (if s.bankSeq 0 = 0 ∧ s.bankSeq 1 = 0 then 0 else if s.bankSeq 1 ≤ s.bankSeq 0 then 1 else 0, 3) ∧ t.pw.saveFt = s.ft) ∧
    (∀ p, s.Serves p → s.pw.saving.isSome = true → ∃ t, exec (.stateBankSave p) s = .next t ∧ t.pw = s.pw ∧ t.on Reg.PWR_EVENT_CFG_ERR = true) ∧
    (∀ b, s.pw.coreUp = true → b < 2 → s.pw.saving = some (b, 3) → s.pw.sleepBy = none → ∃ t, exec (.stateBankSaveDone true) s = .next t ∧
      t.pw.saving = none ∧ t.on Reg.PWR_EVENT_SAVE_DONE = true ∧ t.pw.saveSeq = s.pw.saveSeq + 1 ∧ t.bankSeq b = (s.pw.saveSeq + 1) % 2 ^ 32 ∧
      (t.bankWord b 2).toNat % 256 = 3 ∧ t.bankSeq (1 - b) = s.bankSeq (1 - b) ∧
      t.fld Reg.PWR_TIMES_SAVE_T = min ((s.ft - s.pw.saveFt).toNat / 8000) 65535) ∧
    (∀ b, s.pw.coreUp = true → b < 2 → s.pw.saving = some (b, 2) → s.stage = stPending ∨ s.on Reg.CV_STATUS_ERASING = true → ∃ t,
      exec (.stateBankSaveDone true) s = .next t ∧ t.pw.saving = none ∧ t.pw.asleep = s.pw.asleep ∧ t.pw.coreUp = true ∧ t.pw.sleepBy = s.pw.sleepBy ∧
      t.bankSeq b = (s.pw.saveSeq + 1) % 2 ^ 32) ∧
    (∀ b, s.pw.coreUp = true → b < 2 → s.pw.saving = some (b, 2) → s.stage ≠ stPending → s.on Reg.CV_STATUS_ERASING = false → ∃ t,
      exec (.stateBankSaveDone true) s = .next t ∧
      t.pw.saving = none ∧ t.pw.asleep = true ∧ t.pw.coreUp = false ∧ (t.bankWord b 2).toNat % 256 = 2 ∧ t.bankSeq b = (s.pw.saveSeq + 1) % 2 ^ 32) ∧
    (∀ src port, s.pw.asleep = true → (src = 1 ∧ s.on Reg.PWR_WAKE_BUS_EN = true ∨ src = 2 ∧ s.on Reg.PWR_WAKE_FIN_EN = true ∨
        src = 3 ∧ s.on Reg.PWR_WAKE_RTC_EN = true ∧ s.pw.alarm.isSome = true) → port < 6 → ∃ t, exec (.wake src port) s = .next t ∧
      t.pw.asleep = false ∧ t.pw.startKind = 2 ∧ t.fld Reg.PWR_WAKE_WAKE_SRC = src ∧ (src = 1 → t.fld Reg.PWR_WAKE_WAKE_PORT = port)) ∧
    (∀ src port, s.pw.asleep = false ∨ src = 0 ∨ 3 < src ∨ (src = 1 ∧ s.on Reg.PWR_WAKE_BUS_EN = false) ∨ (src = 2 ∧ s.on Reg.PWR_WAKE_FIN_EN = false) ∨
        (src = 3 ∧ s.on Reg.PWR_WAKE_RTC_EN = false) → exec (.wake src port) s = .next s) ∧
    (s.pw.coreUp = true → (s.pw.ld.map (·.recs)).getD [] ≠ s.ldTable → ∃ t, exec .ldRewrite s = .next t ∧
      t.pw.ld = some { seq := s.pw.saveSeq + 1, recs := s.ldTable } ∧ t.pw.saveSeq = s.pw.saveSeq + 1 ∧
      t.reg 0x5D0038 = BitVec.ofNat 32 (s.pw.saveSeq + 1)) ∧
    (s.pw.coreUp = true → (s.pw.ld.map (·.recs)).getD [] = s.ldTable → exec .ldRewrite s = .next s) ∧
    (s.pw.coreUp = true → s.on Reg.TB_STATUS_CAL_VALID = true → ∃ t, exec .rtcSet s = .next t ∧ t.rtcNow = s.calNow.1 % 2 ^ 40 ∧
      t.on Reg.PWR_STATUS_RTC_VALID = true) ∧
    (s.pw.coreUp = true → s.on Reg.TB_STATUS_CAL_VALID = false → exec .rtcSet s = .next s) ∧
    (∀ p, s.Serves p → ∃ t, exec (.bankDataRead p) s = .next t ∧ t.fld Reg.BANK_IDX_WORD = (s.fld Reg.BANK_IDX_WORD + 1) % 32768 ∧
      t.fld Reg.BANK_IDX_BANK = s.fld Reg.BANK_IDX_BANK ∧ t.answer.data = [if s.pw.saving.any (fun x => decide (x.1 = s.fld Reg.BANK_IDX_BANK)) = true then 0
        else s.bankWord (s.fld Reg.BANK_IDX_BANK) (s.fld Reg.BANK_IDX_WORD)])

/-- R430, R432 and R433: the Canvas writer, its stop when full, and erasure. Covers CANVAS_WRITE, CANVAS_FULL_REWRITE, CV_ERASE and
ERASE_DONE. Conventions of the model it rests on: log 9, 12, 13, 18 and 55. -/
def Obligations.CanvasWriter : Prop :=
  ∀ s : State, s.pw.coreUp = true →
    (s.rc.queue ≠ [] → s.on Reg.CV_STATUS_ERASING = false → s.on Reg.CV_STATUS_FULL = false → s.rc.canvas.length < 65534 → ∃ t,
      exec .canvasWrite s = .next t ∧ t.rc.canvas = s.rc.canvas ++ s.rc.queue.take 1 ∧ t.rc.queue = s.rc.queue.drop 1 ∧
      t.fld Reg.CV_STATUS_COUNT = s.rc.canvas.length + 1 ∧ t.on Reg.CV_STATUS_FULL = false) ∧
    (s.rc.queue ≠ [] → s.on Reg.CV_STATUS_ERASING = false → s.on Reg.CV_STATUS_FULL = false → s.rc.canvas.length = 65534 → ∃ t,
      exec .canvasWrite s = .next t ∧ t.rc.canvas.take 65535 = s.rc.canvas ++ s.rc.queue.take 1 ∧ t.rc.canvas.length = 65536 ∧
      (t.rc.canvas.drop 65535).map (·.kind) = [0x0001] ∧ t.on Reg.CV_STATUS_FULL = true ∧ t.on Reg.REC_EVENT_FULL = true) ∧
    (s.rc.queue ≠ [] → s.on Reg.CV_STATUS_ERASING = false → s.on Reg.CV_STATUS_FULL = true → s.rc.canvas.length = 65536 → ∃ t,
      exec .canvasWrite s = .next t ∧ t.rc.canvas = s.rc.canvas ∧ t.rc.queue = s.rc.queue.drop 1 ∧
      t.fld Reg.CV_DROPPED_DROPPED = min (s.fld Reg.CV_DROPPED_DROPPED + 1) (2 ^ 32 - 1)) ∧
    (s.on Reg.CV_STATUS_ERASING = true ∨ s.rc.queue = [] → exec .canvasWrite s = .next s) ∧
    (s.on Reg.CV_STATUS_FULL = true → s.rc.canvas.length = 65536 → s.fld Reg.CV_DROPPED_DROPPED ≠ s.rc.dropped → ∃ t,
      exec .canvasFullRewrite s = .next t ∧ t.rc.canvas.take 65535 = s.rc.canvas.take 65535 ∧ t.rc.canvas.length = 65536 ∧
      (t.rc.canvas.drop 65535).all (fun r => decide (r.data.take 4 = leBytes 4 (s.fld Reg.CV_DROPPED_DROPPED))) = true ∧
      t.rc.dropped = s.fld Reg.CV_DROPPED_DROPPED) ∧
    (s.on Reg.CV_STATUS_FULL = false ∨ s.fld Reg.CV_DROPPED_DROPPED = s.rc.dropped → exec .canvasFullRewrite s = .next s) ∧
    (∀ p, s.Serves p → s.on Reg.CV_STATUS_ERASING = false → ∃ t, exec (.cvErase p 0xE7A5) s = .next t ∧ t.on Reg.CV_STATUS_ERASING = true ∧
      t.rc.canvas = s.rc.canvas) ∧
    (∀ p v, s.Serves p → v ≠ 0xE7A5 ∨ s.on Reg.CV_STATUS_ERASING = true → ∃ t, exec (.cvErase p v) s = .next t ∧
      t.fld Reg.CV_STATUS_ERASING = s.fld Reg.CV_STATUS_ERASING ∧ t.rc = s.rc ∧ t.on Reg.REC_EVENT_CFG_ERR = true) ∧
    (s.on Reg.CV_STATUS_ERASING = true → ∃ t, exec .eraseDone s = .next t ∧ t.on Reg.CV_STATUS_ERASING = false ∧
      t.on Reg.CV_STATUS_FULL = false ∧ t.fld Reg.CV_STATUS_CORRUPT = 0 ∧ t.fld Reg.CV_DROPPED_DROPPED = 0 ∧ t.fld Reg.CV_STATUS_COUNT = 1 ∧
      t.on Reg.REC_EVENT_ERASE_DONE = true ∧ t.rc.canvas.map (fun r => (r.kind, r.data.take 6)) =
        [(0x0002, leBytes 4 s.rc.canvas.length ++ leBytes 2 s.rc.eraser)] ∧ t.rc.queue = s.rc.queue)

/-- R437 and R420: the tag area. Covers TAG_DATA_ACCESS. R438 and R440: counters run, stop and clear, and sampling starts again. Covers
PMC_RUN, PMC_CLEAR and SMP_EN_WRITE. Conventions of the model it rests on: log 9, 12, 13, 18 and 55. -/
def Obligations.TagAreaAndCounterControl : Prop :=
  (∀ s : State, ∀ p, s.Serves p →
     (∃ t, exec (.tagDataAccess p none) s = .next t ∧ t.answer.data = [sget (fun _ => 0) s.rc.tags (s.fld Reg.TAG_IDX_WORD)] ∧
       t.fld Reg.TAG_IDX_WORD = (s.fld Reg.TAG_IDX_WORD + 1) % 1024 ∧ t.rc = s.rc ∧ t.reg 0x5E0048 = s.reg 0x5E0048) ∧
     (∀ v, s.fld Reg.TAG_WCOUNT_COUNT < 0xFFFFFFFF → ∃ t, exec (.tagDataAccess p (some v)) s = .next t ∧
       sget (fun _ => 0) t.rc.tags (s.fld Reg.TAG_IDX_WORD) = v ∧ t.fld Reg.TAG_WCOUNT_COUNT = s.fld Reg.TAG_WCOUNT_COUNT + 1 ∧
       t.fld Reg.TAG_IDX_WORD = (s.fld Reg.TAG_IDX_WORD + 1) % 1024) ∧
     (∀ v j, s.fld Reg.TAG_WCOUNT_COUNT < 0xFFFFFFFF → j ≠ s.fld Reg.TAG_IDX_WORD → ∃ t, exec (.tagDataAccess p (some v)) s = .next t ∧
       sget (fun _ => 0) t.rc.tags j = sget (fun _ => 0) s.rc.tags j) ∧
     (∀ v, s.fld Reg.TAG_WCOUNT_COUNT = 0xFFFFFFFF → ∃ t, exec (.tagDataAccess p (some v)) s = .next t ∧ t.rc = s.rc ∧
       t.fld Reg.TAG_WCOUNT_COUNT = 0xFFFFFFFF ∧ t.on Reg.REC_EVENT_CFG_ERR = true)) ∧
  (∀ s : State, ∀ p, s.Serves p →
     (∀ v k, bit v.toNat 1 = false → k < 64 → ∃ t, exec (.pmcRun p v) s = .next t ∧ t.on Reg.PMC_CTRL_RUN = bit v.toNat 0 ∧
       t.reg (0x5E0204 + 16 * k) = s.reg (0x5E0204 + 16 * k) ∧ t.reg (0x5E0208 + 16 * k) = s.reg (0x5E0208 + 16 * k)) ∧
     (∀ v k, bit v.toNat 1 = true → k < 64 → ∃ t, exec (.pmcRun p v) s = .next t ∧ t.on Reg.PMC_CTRL_RUN = bit v.toNat 0 ∧
       t.reg (0x5E0204 + 16 * k) = 0 ∧ t.reg (0x5E0208 + 16 * k) = 0) ∧
     (∀ k, k < 64 → ∃ t, exec (.pmcClear p) s = .next t ∧ t.fld Reg.PMC_CTRL_RUN = s.fld Reg.PMC_CTRL_RUN ∧ t.reg (0x5E0204 + 16 * k) = 0 ∧
       t.reg (0x5E0208 + 16 * k) = 0 ∧ t.reg 0x5E0104 = 0 ∧ t.reg 0x5E0108 = 0) ∧
     (∀ v, bit v.toNat 8 = true → s.on Reg.SMP_CTRL_EN = false → ∃ t, exec (.smpEnWrite p v) s = .next t ∧ t.fld Reg.SMP_COUNT_COUNT = 0 ∧
       t.on Reg.SMP_COUNT_FULL = false ∧ t.on Reg.SMP_CTRL_EN = true ∧ t.fld Reg.SMP_CTRL_CORES = v.toNat % 256) ∧
     (∀ v, bit v.toNat 8 = false ∨ s.on Reg.SMP_CTRL_EN = true → ∃ t, exec (.smpEnWrite p v) s = .next t ∧
       t.reg 0x5E0608 = s.reg 0x5E0608 ∧ t.reg 0x5E0600 = v &&& 0x1FFFF))

/-- R438: a counter that runs counts its event modulo 2^40 and sets its overflow bit where it wraps; every other one stands.
Conventions of the model it rests on: log 9, 12, 13, 18 and 55. -/
def Obligations.CountersCount : Prop :=
  ∀ (s : State) (ev n k : Nat), k < 64 →
    (s.on Reg.PMC_CTRL_RUN = true → s.on (Reg.PMC_CFG_EN k) = true → k = 0 ∨ s.on (Reg.PMC_CFG_CHAIN k) = false →
      s.fld (Reg.PMC_CFG_EVENT k) = ev → ev ≠ 0 → counterValue (s.count ev n) k = (counterValue s k + n) % 2 ^ 40 ∧
      (2 ^ 40 ≤ counterValue s k + n → (s.count ev n).fbit ⟨0x5E0104 + 4 * (k / 32), 0, 32⟩ (k % 32) = true)) ∧
    (s.on Reg.PMC_CTRL_RUN = false ∨ s.on (Reg.PMC_CFG_EN k) = false → counterValue (s.count ev n) k = counterValue s k) ∧
    (0 < k → s.on Reg.PMC_CTRL_RUN = true → s.on (Reg.PMC_CFG_EN k) = true → s.on (Reg.PMC_CFG_CHAIN k) = true →
      s.on (Reg.PMC_CFG_EN (k - 1)) = true → k - 1 = 0 ∨ s.on (Reg.PMC_CFG_CHAIN (k - 1)) = false → s.fld (Reg.PMC_CFG_EVENT (k - 1)) = ev → ev ≠ 0 →
      counterValue (s.count ev n) k = (counterValue s k + (counterValue s (k - 1) + n) / 2 ^ 40) % 2 ^ 40)

/-- R428, R429, R430, R434 and R435: a happening enters Muslin at slot MU_WRITTEN mod 4,096 and the Canvas queue while it holds fewer
than 64 records; a frozen Muslin counts what it misses. Conventions of the model it rests on: log 9, 12, 13, 18 and 55. -/
def Obligations.RecordsOffered : Prop :=
  ∀ (s : State) (src kind : Nat) (data : List Byte),
    (s.on Reg.MU_CTRL_FREEZE = false → (sget (fun _ => none) (s.canvas src kind data).rc.muslin (s.fld Reg.MU_WRITTEN_WRITTEN % 4096)).any (fun e =>
        decide (e.ft = s.ft ∧ e.kind = kind ∧ e.source = src ∧ e.seq = s.fld Reg.MU_WRITTEN_WRITTEN ∧ e.data = padTo 16 data)) = true ∧
      (s.canvas src kind data).fld Reg.MU_WRITTEN_WRITTEN = (s.fld Reg.MU_WRITTEN_WRITTEN + 1) % 2 ^ 32) ∧
    (s.on Reg.MU_CTRL_FREEZE = true → (s.canvas src kind data).rc.muslin = s.rc.muslin ∧
      (s.canvas src kind data).fld Reg.MU_SKIP_SKIP_N = min (s.fld Reg.MU_SKIP_SKIP_N + 1) 65535) ∧
    (s.rc.queue.length < 64 → (s.canvas src kind data).rc.queue.take s.rc.queue.length = s.rc.queue ∧
      (s.canvas src kind data).rc.queue.length = s.rc.queue.length + 1 ∧
      ((s.canvas src kind data).rc.queue.drop s.rc.queue.length).all (fun r => decide (r.kind = kind ∧ r.source = src ∧ r.ft = s.ft ∧
        r.data = padTo 36 data ∧ bit r.flags 0 = s.on Reg.TB_STATUS_CAL_VALID ∧ bit r.flags 1 = false ∧ bitsOf r.flags 3 2 = s.fld Reg.RES_STATE_STATE)) = true) ∧
    (64 ≤ s.rc.queue.length → (s.canvas src kind data).rc.queue = s.rc.queue ∧ (s.canvas src kind data).on Reg.REC_EVENT_QLOST = true ∧
      (s.canvas src kind data).fld Reg.CV_QLOST_QLOST_N = min (s.fld Reg.CV_QLOST_QLOST_N + 1) 65535)

/-- R7, R348, R396 and R443: plain register accesses over a host port. Covers REGISTER_WRITE, CLEARING_READ and LATCHING_READ. R11: a
latched upper word is what a later read of it returns, whatever the counter has become. Conventions of the model it rests on: log 9,
12, 13, 18 and 55. -/
def Obligations.RegisterAccesses : Prop :=
  (∀ s : State, ∀ p,
     (∀ a v, s.answersOn p = false ∨ s.served a = false → exec (.registerWrite p a v) s = .next s ∧ exec (.clearingRead p a) s = .next s ∧
       exec (.latchingRead p a) s = .next s) ∧
     (∀ a v, s.answersOn p = true → s.served a = true → a % 4 ≠ 0 → exec (.registerWrite p a v) s = .next ((s.linkSeen p).answers 0 []) ∧
       exec (.clearingRead p a) s = .next ((s.linkSeen p).answers 0 [0]) ∧ exec (.latchingRead p a) s = .next ((s.linkSeen p).answers 0 [0])) ∧
     (∀ a v, s.answersOn p = true → s.served (4 * a) = true → absent s.variant (4 * a) = true →
       exec (.registerWrite p (4 * a) v) s = .next ((s.linkSeen p).answers (if p < 2 then 0 else 2) []) ∧
       exec (.clearingRead p (4 * a)) s = .next ((s.linkSeen p).answers (if p < 2 then 0 else 2) [0]) ∧ exec (.latchingRead p (4 * a)) s = .next ((s.linkSeen p).answers (if p < 2 then 0 else 2) [0])) ∧
     (∀ a v, s.answersOn p = true → s.served (4 * a) = true → absent s.variant (4 * a) = false → 0x400000 ≤ 4 * a → 4 * a < 0x1000000 →
       (rowOf (4 * a)).isNone = true → exec (.registerWrite p (4 * a) v) s = .next ((s.linkSeen p).answers 0 []) ∧
       exec (.clearingRead p (4 * a)) s = .next ((s.linkSeen p).answers 0 [0]) ∧ exec (.latchingRead p (4 * a)) s = .next ((s.linkSeen p).answers 0 [0])) ∧
     (∀ a v, s.answersOn p = true → s.served (4 * a) = true → absent s.variant (4 * a) = false → 0x400000 ≤ 4 * a → 4 * a < 0x1000000 →
       (rowOf (4 * a)).isSome = true → 4 * a ≠ 0x5B0040 → s.mayWrite (s.directCtx p) (4 * a) = false →
       exec (.registerWrite p (4 * a) v) s = .next ((s.linkSeen p).answers 1 [])) ∧
     (∀ a, s.answersOn p = true → s.served (4 * a) = true → absent s.variant (4 * a) = false → 0x400000 ≤ 4 * a → 4 * a < 0x1000000 →
       (rowOf (4 * a)).isSome = true → s.mayRead (s.directCtx p) (4 * a) = false →
       exec (.clearingRead p (4 * a)) s = .next ((s.linkSeen p).answers 1 [0])) ∧
     (∀ v, s.Serves p → ∃ t, exec (.registerWrite p 0x5D0028 v) s = .next t ∧ t.reg 0x5D0028 = v ∧ t.answer.code = 0) ∧
     (∀ v, s.Serves p → ∃ t, exec (.registerWrite p 0x5D0004 v) s = .next t ∧ t.reg 0x5D0004 = s.reg 0x5D0004 &&& ~~~(v &&& 0xFF) ∧ t.answer.code = 0) ∧
     (∀ v, s.Serves p → ∃ t, exec (.registerWrite p 0x5D0000 v) s = .next t ∧ t.reg 0x5D0000 = s.reg 0x5D0000) ∧
     (∀ v, s.Serves p → v.toNat % 256 < 10 → ∃ t, exec (.registerWrite p 0x5D001C v) s = .next t ∧ t.reg 0x5D001C = s.reg 0x5D001C ∧
       t.on Reg.PWR_EVENT_CFG_ERR = true) ∧
     (s.Serves p → ∃ t, exec (.clearingRead p 0x5E0018) s = .next t ∧ t.answer.data = [s.reg 0x5E0018 &&& 0xFFFF] ∧ t.fld Reg.CV_QLOST_QLOST_N = 0 ∧
       t.answer.code = 0) ∧
     (∀ k, s.Serves p → k < 64 → ∃ t, exec (.latchingRead p (0x5E0204 + 16 * k)) s = .next t ∧ t.answer.data = [s.reg (0x5E0204 + 16 * k)] ∧
       sget (fun _ => none) t.latch (0x5E0208 + 16 * k) = some (s.reg (0x5E0208 + 16 * k) &&& 0xFF) ∧ t.regs = (s.linkSeen p).regs)) ∧
  (∀ (s : State) (p k : Nat), s.Serves p → k < 64 → (sget (fun _ => none) s.latch (0x5E0208 + 16 * k)).isSome = true → ∃ t,
     exec (.latchingRead p (0x5E0208 + 16 * k)) s = .next t ∧ t.answer.data = [(sget (fun _ => none) s.latch (0x5E0208 + 16 * k)).getD 0])

/-- R7: what a host write leaves in a register by its access codes, bit by bit, wherever the codes of a row do not overlap; and they
overlap in no register of the map. Conventions of the model it rests on: log 9, 12, 13, 18 and 55. -/
def Obligations.AccessCodes : Prop :=
  (∀ (r : RegRow) (old v i : Nat), i < 32 → old < 2 ^ 32 → v < 2 ^ 32 → r.mask (fun c => c == .rw) < 2 ^ 32 →
    r.mask (fun c => c == .w1c) < 2 ^ 32 → r.mask (fun c => c == .w1s) < 2 ^ 32 →
    r.mask (fun c => c == .rw) &&& r.mask (fun c => c == .w1c) = 0 → r.mask (fun c => c == .rw) &&& r.mask (fun c => c == .w1s) = 0 →
    r.mask (fun c => c == .w1c) &&& r.mask (fun c => c == .w1s) = 0 →
    bit (r.written old v) i = if bit (r.mask (fun c => c == .rw)) i then bit v i
      else if bit (r.mask (fun c => c == .w1c)) i then bit old i && !bit v i
      else if bit (r.mask (fun c => c == .w1s)) i then bit old i || bit v i else bit old i) ∧
  ∀ a r, rowOf a = some r → r.mask (fun _ => true) < 2 ^ 32 ∧ r.mask (fun c => c == .rw) &&& r.mask (fun c => c == .w1c) = 0 ∧
    r.mask (fun c => c == .rw) &&& r.mask (fun c => c == .w1s) = 0 ∧ r.mask (fun c => c == .w1c) &&& r.mask (fun c => c == .w1s) = 0

/-- Every command completes, and from it no register and no part of the state changes but those its effect names: the frame of all
commands at once (`effect`, in Sys2Proof/Effects.lean, is written command by command from the rules of each). -/
def Obligations.CommandsChangeOnlyTheirEffect : Prop :=
  ∀ (i : Instr) (s : State), ∃ t, exec i s = .next t ∧ (effect i).Only s t

/-- Every step answers a next state; it keeps the canonical form of every table of the part, keeps the variant strap, and takes no more
than the front of the queue. -/
def Obligations.StepKeepsForm : Prop :=
  ∀ s : State, ∃ t, step s = .next t ∧ (s.memWf = true → t.memWf = true) ∧ t.variant = s.variant ∧ t.pending = s.pending.drop 1

end
end

