-- ==== Sys2Proof/Laws/Sparse.lean ====
section
/-! SUPPORT. Laws of sparse tables: what a write reads as afterwards, at its key and elsewhere, and that every operation keeps the
canonical form. -/

namespace Sys2Proof.Machine

variable {α : Type}

@[simp] theorem sget_nil (d : Nat → α) (k : Nat) : sget d [] k = d k := rfl

theorem sget_sdel_same (d : Nat → α) (m : List (Nat × α)) (k : Nat) : sget d (sdel k m) k = d k := by
  induction m with
  | nil => rfl
  | cons e m ih =>
    by_cases h : e.1 = k
    · simp [sdel, h, ih]
    · simp [sdel, sget, h, ih]

theorem sget_sdel_other (d : Nat → α) (m : List (Nat × α)) {j k : Nat} (hjk : j ≠ k) : sget d (sdel k m) j = sget d m j := by
  induction m with
  | nil => rfl
  | cons e m ih =>
    simp only [sdel]
    split
    · rename_i h
      simp only [sget, ih, if_neg (fun hj : e.1 = j => hjk (hj.symm.trans h))]
    · simp only [sget, ih]

theorem sget_sins (d : Nat → α) (m : List (Nat × α)) (k : Nat) (v : α) (h : ∀ e ∈ m, e.1 ≠ k) (j : Nat) :
    sget d (sins k v m) j = if j = k then v else sget d m j := by
  induction m with
  | nil =>
    simp only [sins, sget, eq_comm (a := k)]
  | cons e m ih =>
    have he : e.1 ≠ k := h e List.mem_cons_self
    have ih := ih (fun e' he => h e' (List.mem_cons_of_mem _ he))
    simp only [sins]
    split
    · simp only [sget, eq_comm (a := k)]
    · simp only [sget, ih]
      by_cases hj : e.1 = j
      · rw [if_pos hj, if_neg (fun hk : j = k => he (hj.trans hk)), if_pos hj]
      · rw [if_neg hj, if_neg hj]

theorem sdel_keys (m : List (Nat × α)) (k : Nat) : ∀ e ∈ sdel k m, e.1 ≠ k := by
  induction m with
  | nil => simp [sdel]
  | cons e m ih =>
    intro e' he'
    by_cases h : e.1 = k
    · exact ih e' (by simpa [sdel, h] using he')
    · rcases List.mem_cons.1 (by simpa [sdel, h] using he') with rfl | h'
      · exact h
      · exact ih e' h'

/-- A key written holds what was written. -/
@[simp] theorem sget_sset_same [DecidableEq α] (d : Nat → α) (m : List (Nat × α)) (k : Nat) (v : α) :
    sget d (sset d m k v) k = v := by
  unfold sset
  split
  · rename_i h
    rw [sget_sdel_same, h]
  · rw [sget_sins d _ k v (sdel_keys m k)]
    simp

/-- Every other key is unchanged. -/
theorem sget_sset_other [DecidableEq α] (d : Nat → α) (m : List (Nat × α)) {j k : Nat} (v : α) (h : j ≠ k) :
    sget d (sset d m k v) j = sget d m j := by
  unfold sset
  split
  · exact sget_sdel_other d m h
  · rw [sget_sins d _ k v (sdel_keys m k), if_neg h, sget_sdel_other d m h]

theorem sget_sset [DecidableEq α] (d : Nat → α) (m : List (Nat × α)) (j k : Nat) (v : α) :
    sget d (sset d m k v) j = if j = k then v else sget d m j := by
  split
  · rename_i h
    rw [h, sget_sset_same]
  · exact sget_sset_other d m v ‹_›

theorem sabove_trans {a b : Nat} (m : List (Nat × α)) (hab : a < b) (h : sabove b m = true) : sabove a m = true := by
  simp only [sabove, List.all_eq_true, decide_eq_true_eq] at *
  exact fun e he => Nat.lt_trans hab (h e he)

theorem sabove_sdel {b k : Nat} (m : List (Nat × α)) (h : sabove b m = true) : sabove b (sdel k m) = true := by
  induction m with
  | nil => rfl
  | cons e m ih =>
    simp only [sabove, List.all_cons, Bool.and_eq_true, decide_eq_true_eq] at h ih ⊢
    by_cases hk : e.1 = k
    · simpa [sdel, hk] using ih h.2
    · simp only [sdel, hk, if_false, List.all_cons, Bool.and_eq_true, decide_eq_true_eq]
      exact ⟨h.1, ih h.2⟩

theorem sabove_sins {b k : Nat} (m : List (Nat × α)) (v : α) (hb : b < k) (h : sabove b m = true) : sabove b (sins k v m) = true := by
  induction m with
  | nil => simp [sins, sabove, hb]
  | cons e m ih =>
    simp only [sabove, List.all_cons, Bool.and_eq_true, decide_eq_true_eq] at h ih
    unfold sins
    by_cases hk : k < e.1
    · simp only [hk, if_true, sabove, List.all_cons, Bool.and_eq_true, decide_eq_true_eq]
      exact ⟨hb, h.1, h.2⟩
    · simp only [hk, if_false, sabove, List.all_cons, Bool.and_eq_true, decide_eq_true_eq]
      exact ⟨h.1, ih h.2⟩

theorem sabove_filter (p : Nat × α → Bool) {b : Nat} (m : List (Nat × α)) (h : sabove b m = true) : sabove b (m.filter p) = true := by
  simp only [sabove, List.all_eq_true, decide_eq_true_eq] at *
  exact fun e he => h e (List.mem_filter.1 he |>.1)

variable [DecidableEq α] {d : Nat → α}

theorem swf_sdel (m : List (Nat × α)) (k : Nat) (h : swf d m = true) : swf d (sdel k m) = true := by
  induction m with
  | nil => rfl
  | cons e m ih =>
    simp only [swf, Bool.and_eq_true] at h
    by_cases hk : e.1 = k
    · simpa [sdel, hk] using ih h.2.2
    · simp only [sdel, hk, if_false, swf, Bool.and_eq_true]
      exact ⟨sabove_sdel m h.1, h.2.1, ih h.2.2⟩

theorem swf_sins (m : List (Nat × α)) (k : Nat) (v : α) (hv : v ≠ d k) (hk : ∀ e ∈ m, e.1 ≠ k) (h : swf d m = true) :
    swf d (sins k v m) = true := by
  induction m with
  | nil => simp [sins, swf, sabove, hv]
  | cons e m ih =>
    have hm : ∀ e' ∈ m, e'.1 ≠ k := fun e' he => hk e' (List.mem_cons_of_mem _ he)
    have he : e.1 ≠ k := hk e List.mem_cons_self
    have hw := h
    simp only [swf, Bool.and_eq_true] at h
    unfold sins
    by_cases hlt : k < e.1
    · simp only [hlt, if_true]
      unfold swf
      simp only [Bool.and_eq_true, decide_eq_true_eq]
      refine ⟨?_, hv, hw⟩
      have := sabove_trans m hlt h.1
      simp only [sabove, List.all_cons, Bool.and_eq_true, decide_eq_true_eq] at this ⊢
      exact ⟨hlt, this⟩
    · simp only [hlt, if_false, swf, Bool.and_eq_true]
      have hek : e.1 < k := Nat.lt_of_le_of_ne (Nat.le_of_not_lt hlt) he
      exact ⟨sabove_sins m v hek h.1, h.2.1, ih hm h.2.2⟩

/-- A write keeps the canonical form. -/
theorem swf_sset (m : List (Nat × α)) (k : Nat) (v : α) (h : swf d m = true) : swf d (sset d m k v) = true := by
  unfold sset
  split
  · exact swf_sdel m k h
  · rename_i hv
    exact swf_sins _ k v hv (sdel_keys m k) (swf_sdel m k h)

/-- Writing values one after another keeps the canonical form. -/
theorem swf_ssetMany (vs : List α) (m : List (Nat × α)) (k : Nat) (h : swf d m = true) : swf d (ssetMany d m k vs) = true := by
  induction vs generalizing m k with
  | nil => exact h
  | cons v vs ih => exact ih _ _ (swf_sset m k v h)

/-- Leaving entries out keeps the canonical form. -/
theorem swf_filter (p : Nat × α → Bool) (m : List (Nat × α)) (h : swf d m = true) : swf d (m.filter p) = true := by
  induction m with
  | nil => rfl
  | cons e m ih =>
    simp only [swf, Bool.and_eq_true] at h
    by_cases hp : p e = true
    · simp only [List.filter_cons, hp, if_true, swf, Bool.and_eq_true]
      exact ⟨sabove_filter p m h.1, h.2.1, ih h.2.2⟩
    · simpa [List.filter_cons, hp] using ih h.2.2

theorem swf_nil : swf d ([] : List (Nat × α)) = true := rfl

/-- Writes one after another keep the canonical form. -/
theorem swf_foldl {β : Type} (f : List (Nat × α) → β → List (Nat × α)) (hf : ∀ m x, swf d m = true → swf d (f m x) = true)
    (l : List β) (m : List (Nat × α)) (h : swf d m = true) : swf d (l.foldl f m) = true := by
  induction l generalizing m with
  | nil => exact h
  | cons x l ih => exact ih _ (hf m x h)

theorem swf_ite {a b : List (Nat × α)} {c : Prop} [Decidable c] (ha : swf d a = true) (hb : swf d b = true) :
    swf d (if c then a else b) = true := by split <;> assumption

end Sys2Proof.Machine
end

