-- ==== Sys2Proof/Laws/Keeps.lean ====
section
/-! SUPPORT. What no operation of the part changes: the variant, the queue of waiting commands, and that every table of the part is
canonical. One relation says it, and it composes. -/

namespace Sys2Proof.Machine

set_option linter.all false

/-- A variant, a queue and tables as a step from `s` leaves them: the first two those of `s`, the tables canonical if those of `s` are. -/
def KeepsRaw (s : State) (v : Variant) (p : List Instr) (m : Tables) : Prop :=
  v = s.variant ∧ p = s.pending ∧ (s.memWf = true → m.wf v = true)

/-- `t` has the variant and the queue of `s`, and canonical tables if `s` has them. -/
def Keeps (s t : State) : Prop := KeepsRaw s t.variant t.pending t.tables

theorem Keeps.refl (s : State) : Keeps s s := ⟨rfl, rfl, id⟩

theorem Keeps.trans {s t u : State} (h : Keeps s t) (k : Keeps t u) : Keeps s u :=
  ⟨k.1.trans h.1, k.2.1.trans h.2.1, fun w => k.2.2 (h.2.2 w)⟩

/-- The canonical form of the tables, one clause a table. -/
theorem Tables.wf_iff (v : Variant) (m : Tables) : m.wf v = true ↔
    swf (resetWord v) m.regs = true ∧ swf (fun _ => none) m.latch = true ∧ swf (fun _ => 0) m.codeRam = true ∧
      swf (fun _ => 0) m.retained = true ∧ swf (fun _ => fillCell) m.cells = true ∧ swf (fun _ => 0) m.hostMem = true ∧
      swf (fun _ => 0) m.ring = true ∧ swf (fun _ => 0) m.tags = true ∧ swf (fun _ => 0) m.staging = true ∧
      swf (fun _ => 0) m.capture = true ∧ swf (fun _ => none) m.tableStaged = true ∧ swf (fun _ => none) m.coefStaged = true := by
  simp only [Tables.wf, Bool.and_eq_true]

/-- One table changed in a way that keeps its canonical form. -/
theorem Keeps.change {s0 s t : State} (h : Keeps s0 s) (hv : t.variant = s.variant) (hp : t.pending = s.pending)
    (hm : s.tables.wf s.variant = true → t.tables.wf s.variant = true) : Keeps s0 t :=
  ⟨hv.trans h.1, hp.trans h.2.1, fun k => hv ▸ hm (h.2.2 k)⟩

/-- A state written out with the variant and the queue of a state that keeps them, each of its tables canonical if that state's is. -/
theorem keeps_with {s0 s : State} {ft f a r l tb gn po rc hp mp lg vd lk lp ls fd bp im rs pw} (h : Keeps s0 s)
    (hr : swf (resetWord s.variant) s.regs = true → swf (resetWord s.variant) r = true)
    (hl : swf (fun _ => none) s.latch = true → swf (fun _ => none) l = true)
    (h1 : swf (fun _ => 0) s.gn.codeRam = true → swf (fun _ => 0) gn.codeRam = true)
    (h2 : swf (fun _ => 0) s.gn.retained = true → swf (fun _ => 0) gn.retained = true)
    (h3 : swf (fun _ => fillCell) s.mp.cells = true → swf (fun _ => fillCell) mp.cells = true)
    (h4 : swf (fun _ => 0) s.hp.hostMem = true → swf (fun _ => 0) hp.hostMem = true)
    (h5 : swf (fun _ => 0) s.hp.ring = true → swf (fun _ => 0) hp.ring = true)
    (h6 : swf (fun _ => 0) s.rc.tags = true → swf (fun _ => 0) rc.tags = true)
    (h7 : swf (fun _ => 0) s.im.staging = true → swf (fun _ => 0) im.staging = true)
    (h8 : swf (fun _ => 0) s.lp.capture = true → swf (fun _ => 0) lp.capture = true)
    (h9 : swf (fun _ => none) s.lp.tableStaged = true → swf (fun _ => none) lp.tableStaged = true)
    (h10 : swf (fun _ => none) s.lp.coefStaged = true → swf (fun _ => none) lp.coefStaged = true) :
    Keeps s0 (State.mk s.variant ft s.pending f a r l tb gn po rc hp mp lg vd lk lp ls fd bp im rs pw) :=
  h.change rfl rfl (fun k => by
    rw [Tables.wf_iff] at k ⊢
    obtain ⟨kr, kl, k1, k2, k3, k4, k5, k6, k7, k8, k9, k10⟩ := k
    exact ⟨hr kr, hl kl, h1 k1, h2 k2, h3 k3, h4 k4, h5 k5, h6 k6, h7 k7, h8 k8, h9 k9, h10 k10⟩)

theorem keeps_ite {s0 a b : State} {c : Prop} [Decidable c] (ha : Keeps s0 a) (hb : Keeps s0 b) :
    Keeps s0 (if c then a else b) := by split <;> assumption

theorem keeps_ite_fst {α : Type} {s0 : State} {a b : State × α} {c : Prop} [Decidable c] (ha : Keeps s0 a.1) (hb : Keeps s0 b.1) :
    Keeps s0 (if c then a else b).1 := by split <;> assumption

theorem keeps_foldl {α : Type} (s0 : State) (f : State → α → State) (hf : ∀ t x, Keeps s0 t → Keeps s0 (f t x)) (l : List α) (s : State)
    (h : Keeps s0 s) : Keeps s0 (l.foldl f s) := by
  induction l generalizing s with
  | nil => exact h
  | cons x l ih => exact ih _ (hf s x h)

theorem keeps_foldl_fst {α β : Type} (s0 : State) (f : State × β → α → State × β)
    (hf : ∀ t x, Keeps s0 t.1 → Keeps s0 (f t x).1) (l : List α) (s : State × β)
    (h : Keeps s0 s.1) : Keeps s0 (l.foldl f s).1 := by
  induction l generalizing s with
  | nil => exact h
  | cons x l ih => exact ih _ (hf s x h)

/-- Writing a register keeps the variant, the queue and the canonical form. -/
theorem State.setReg_keeps (s0 s : State) (a : Nat) (w : Word) (h : Keeps s0 s) : Keeps s0 (s.setReg a w) :=
  h.change rfl rfl (fun k => by
    rw [Tables.wf_iff] at k ⊢
    exact ⟨swf_sset _ _ _ k.1, k.2⟩)

end Sys2Proof.Machine
end

