-- ==== Sys2Proof/Laws/KeepsRegs.lean ====
section
/-! SUPPORT. Every operation of Machine/Regs.lean keeps the variant, the queue and the canonical form of the register table. -/

namespace Sys2Proof.Machine

set_option linter.all false
set_option Elab.async false

theorem State.setFld_keeps (z : State) (s : State) (f : Fld) (v : Nat) (hz : Keeps z s) : Keeps z (State.setFld s f v) := by
  unfold State.setFld
  repeat' with_reducible (first | assumption | intro _ | apply State.setReg_keeps | apply keeps_ite | apply keeps_ite_fst | apply keeps_foldl | apply keeps_foldl_fst | split | (dsimp only; split) | apply keeps_with | apply swf_sset | apply swf_ssetMany | apply swf_filter | apply swf_foldl | apply swf_nil | apply swf_ite)

theorem State.setSfld_keeps (z : State) (s : State) (f : Fld) (v : Int) (hz : Keeps z s) : Keeps z (State.setSfld s f v) := by
  unfold State.setSfld
  repeat' with_reducible (first | assumption | intro _ | apply State.setFld_keeps | apply keeps_ite | apply keeps_ite_fst | apply keeps_foldl | apply keeps_foldl_fst | split | (dsimp only; split) | apply keeps_with | apply swf_sset | apply swf_ssetMany | apply swf_filter | apply swf_foldl | apply swf_nil | apply swf_ite)

theorem State.setBit_keeps (z : State) (s : State) (f : Fld) (b : Bool) (hz : Keeps z s) : Keeps z (State.setBit s f b) := by
  unfold State.setBit
  repeat' with_reducible (first | assumption | intro _ | apply State.setFld_keeps | apply keeps_ite | apply keeps_ite_fst | apply keeps_foldl | apply keeps_foldl_fst | split | (dsimp only; split) | apply keeps_with | apply swf_sset | apply swf_ssetMany | apply swf_filter | apply swf_foldl | apply swf_nil | apply swf_ite)

theorem State.bump_keeps (z : State) (s : State) (f : Fld) (n : Nat) (hz : Keeps z s) : Keeps z (State.bump s f n) := by
  unfold State.bump
  repeat' with_reducible (first | assumption | intro _ | apply State.setFld_keeps | apply keeps_ite | apply keeps_ite_fst | apply keeps_foldl | apply keeps_foldl_fst | split | (dsimp only; split) | apply keeps_with | apply swf_sset | apply swf_ssetMany | apply swf_filter | apply swf_foldl | apply swf_nil | apply swf_ite)

theorem State.bumpWrap_keeps (z : State) (s : State) (f : Fld) (n : Nat) (hz : Keeps z s) : Keeps z (State.bumpWrap s f n) := by
  unfold State.bumpWrap
  repeat' with_reducible (first | assumption | intro _ | apply State.setFld_keeps | apply keeps_ite | apply keeps_ite_fst | apply keeps_foldl | apply keeps_foldl_fst | split | (dsimp only; split) | apply keeps_with | apply swf_sset | apply swf_ssetMany | apply swf_filter | apply swf_foldl | apply swf_nil | apply swf_ite)

theorem State.setFbit_keeps (z : State) (s : State) (f : Fld) (i : Nat) (b : Bool) (hz : Keeps z s) : Keeps z (State.setFbit s f i b) := by
  unfold State.setFbit
  repeat' with_reducible (first | assumption | intro _ | apply State.setFld_keeps | apply keeps_ite | apply keeps_ite_fst | apply keeps_foldl | apply keeps_foldl_fst | split | (dsimp only; split) | apply keeps_with | apply swf_sset | apply swf_ssetMany | apply swf_filter | apply swf_foldl | apply swf_nil | apply swf_ite)

theorem State.setReg64_keeps (z : State) (s : State) (lo v : Nat) (hz : Keeps z s) : Keeps z (State.setReg64 s lo v) := by
  unfold State.setReg64
  repeat' with_reducible (first | assumption | intro _ | apply State.setReg_keeps | apply keeps_ite | apply keeps_ite_fst | apply keeps_foldl | apply keeps_foldl_fst | split | (dsimp only; split) | apply keeps_with | apply swf_sset | apply swf_ssetMany | apply swf_filter | apply swf_foldl | apply swf_nil | apply swf_ite)

theorem State.writeCodes_keeps (z : State) (s : State) (a v : Nat) (hz : Keeps z s) : Keeps z (State.writeCodes s a v) := by
  unfold State.writeCodes
  repeat' with_reducible (first | assumption | intro _ | apply State.setReg_keeps | apply keeps_ite | apply keeps_ite_fst | apply keeps_foldl | apply keeps_foldl_fst | split | (dsimp only; split) | apply keeps_with | apply swf_sset | apply swf_ssetMany | apply swf_filter | apply swf_foldl | apply swf_nil | apply swf_ite)

theorem State.clearRc_keeps (z : State) (s : State) (a : Nat) (hz : Keeps z s) : Keeps z (State.clearRc s a) := by
  unfold State.clearRc
  repeat' with_reducible (first | assumption | intro _ | apply State.setReg_keeps | apply keeps_ite | apply keeps_ite_fst | apply keeps_foldl | apply keeps_foldl_fst | split | (dsimp only; split) | apply keeps_with | apply swf_sset | apply swf_ssetMany | apply swf_filter | apply swf_foldl | apply swf_nil | apply swf_ite)

theorem State.tick_keeps (z : State) (s : State) (hz : Keeps z s) : Keeps z (State.tick s) := by
  unfold State.tick
  repeat' with_reducible (first | assumption | intro _ | apply keeps_ite | apply keeps_ite_fst | apply keeps_foldl | apply keeps_foldl_fst | split | (dsimp only; split) | apply keeps_with | apply swf_sset | apply swf_ssetMany | apply swf_filter | apply swf_foldl | apply swf_nil | apply swf_ite)

end Sys2Proof.Machine
end

