-- ==== Sys2Proof/Laws/KeepsRecords.lean ====
section
/-! SUPPORT. Every operation of Machine/Records.lean keeps the variant, the queue and the canonical form of the register table. -/

namespace Sys2Proof.Machine

set_option linter.all false
set_option Elab.async false

theorem State.hostWriteMem_keeps (z : State) (s : State) (p addr : Nat) (bs : List Byte) (hz : Keeps z s) : Keeps z (State.hostWriteMem s p addr bs) := by
  unfold State.hostWriteMem
  repeat' with_reducible (first | assumption | intro _ | apply State.ring_keeps | apply keeps_ite | apply keeps_ite_fst | apply keeps_foldl | apply keeps_foldl_fst | split | (dsimp only; split) | apply keeps_with | apply swf_sset | apply swf_ssetMany | apply swf_filter | apply swf_foldl | apply swf_nil | apply swf_ite)

theorem State.msix_keeps (z : State) (s : State) (p v : Nat) (hz : Keeps z s) : Keeps z (State.msix s p v) := by
  unfold State.msix
  repeat' with_reducible (first | assumption | intro _ | apply State.setFbit_keeps | apply State.hostWriteMem_keeps | apply keeps_ite | apply keeps_ite_fst | apply keeps_foldl | apply keeps_foldl_fst | split | (dsimp only; split) | apply keeps_with | apply swf_sset | apply swf_ssetMany | apply swf_filter | apply swf_foldl | apply swf_nil | apply swf_ite)

theorem State.supNotify_keeps (z : State) (s : State) (before : Nat) (hz : Keeps z s) : Keeps z (State.supNotify s before) := by
  unfold State.supNotify
  repeat' with_reducible (first | assumption | intro _ | apply State.msix_keeps | apply keeps_ite | apply keeps_ite_fst | apply keeps_foldl | apply keeps_foldl_fst | split | (dsimp only; split) | apply keeps_with | apply swf_sset | apply swf_ssetMany | apply swf_filter | apply swf_foldl | apply swf_nil | apply swf_ite)

theorem State.raiseBit_keeps (z : State) (s : State) (f : Fld) (i : Nat) (hz : Keeps z s) : Keeps z (State.raiseBit s f i) := by
  unfold State.raiseBit
  repeat' with_reducible (first | assumption | intro _ | apply State.setFbit_keeps | apply State.supNotify_keeps | apply keeps_ite | apply keeps_ite_fst | apply keeps_foldl | apply keeps_foldl_fst | split | (dsimp only; split) | apply keeps_with | apply swf_sset | apply swf_ssetMany | apply swf_filter | apply swf_foldl | apply swf_nil | apply swf_ite)

theorem State.raise_keeps (z : State) (s : State) (f : Fld) (hz : Keeps z s) : Keeps z (State.raise s f) := by
  unfold State.raise
  repeat' with_reducible (first | assumption | intro _ | apply State.raiseBit_keeps | apply keeps_ite | apply keeps_ite_fst | apply keeps_foldl | apply keeps_foldl_fst | split | (dsimp only; split) | apply keeps_with | apply swf_sset | apply swf_ssetMany | apply swf_filter | apply swf_foldl | apply swf_nil | apply swf_ite)

theorem State.raiseIf_keeps (z : State) (s : State) (b : Bool) (f : Fld) (hz : Keeps z s) : Keeps z (State.raiseIf s b f) := by
  unfold State.raiseIf
  repeat' with_reducible (first | assumption | intro _ | apply State.raise_keeps | apply keeps_ite | apply keeps_ite_fst | apply keeps_foldl | apply keeps_foldl_fst | split | (dsimp only; split) | apply keeps_with | apply swf_sset | apply swf_ssetMany | apply swf_filter | apply swf_foldl | apply swf_nil | apply swf_ite)

theorem pmcOne_keeps (z : State) (ev n : Nat) (sc : State × Nat) (k : Nat) (hz : Keeps z sc.1) : Keeps z (pmcOne ev n sc k).1 := by
  unfold pmcOne
  repeat' with_reducible (first | assumption | intro _ | apply State.setFld_keeps | apply State.setFbit_keeps | apply State.raise_keeps | apply keeps_ite | apply keeps_ite_fst | apply keeps_foldl | apply keeps_foldl_fst | split | (dsimp only; split) | apply keeps_with | apply swf_sset | apply swf_ssetMany | apply swf_filter | apply swf_foldl | apply swf_nil | apply swf_ite)

theorem State.count_keeps (z : State) (s : State) (ev n : Nat) (hz : Keeps z s) : Keeps z (State.count s ev n) := by
  unfold State.count; split
  · exact keeps_foldl_fst z _ (fun t x k => pmcOne_keeps z _ _ t x k) _ _ hz
  · exact hz

theorem State.muslinWith_keeps (z : State) (s : State) (source kind flags : Nat) (data : List Byte) (hz : Keeps z s) : Keeps z (State.muslinWith s source kind flags data) := by
  unfold State.muslinWith
  repeat' with_reducible (first | assumption | intro _ | apply State.bump_keeps | apply State.muslin_keeps | apply State.bumpWrap_keeps | apply State.count_keeps | apply keeps_ite | apply keeps_ite_fst | apply keeps_foldl | apply keeps_foldl_fst | split | (dsimp only; split) | apply keeps_with | apply swf_sset | apply swf_ssetMany | apply swf_filter | apply swf_foldl | apply swf_nil | apply swf_ite)

theorem State.muslin_keeps (z : State) (s : State) (source kind : Nat) (data : List Byte) (hz : Keeps z s) : Keeps z (State.muslin s source kind data) := by
  unfold State.muslin
  repeat' with_reducible (first | assumption | intro _ | apply State.muslinWith_keeps | apply keeps_ite | apply keeps_ite_fst | apply keeps_foldl | apply keeps_foldl_fst | split | (dsimp only; split) | apply keeps_with | apply swf_sset | apply swf_ssetMany | apply swf_filter | apply swf_foldl | apply swf_nil | apply swf_ite)

theorem State.canvasWith_keeps (z : State) (s : State) (source kind : Nat) (deferred suspect : Bool) (data : List Byte) (hz : Keeps z s) : Keeps z (State.canvasWith s source kind deferred suspect data) := by
  unfold State.canvasWith
  repeat' with_reducible (first | assumption | intro _ | apply State.muslinWith_keeps | apply State.bump_keeps | apply State.raise_keeps | apply keeps_ite | apply keeps_ite_fst | apply keeps_foldl | apply keeps_foldl_fst | split | (dsimp only; split) | apply keeps_with | apply swf_sset | apply swf_ssetMany | apply swf_filter | apply swf_foldl | apply swf_nil | apply swf_ite)

theorem State.canvas_keeps (z : State) (s : State) (source kind : Nat) (data : List Byte) (hz : Keeps z s) : Keeps z (State.canvas s source kind data) := by
  unfold State.canvas
  repeat' with_reducible (first | assumption | intro _ | apply State.canvasWith_keeps | apply keeps_ite | apply keeps_ite_fst | apply keeps_foldl | apply keeps_foldl_fst | split | (dsimp only; split) | apply keeps_with | apply swf_sset | apply swf_ssetMany | apply swf_filter | apply swf_foldl | apply swf_nil | apply swf_ite)

end Sys2Proof.Machine
end

