-- ==== Sys2Proof/Laws/KeepsContexts.lean ====
section
/-! SUPPORT. Every operation of Machine/Contexts.lean keeps the variant, the queue and the canonical form of the register table. -/

namespace Sys2Proof.Machine

set_option linter.all false
set_option Elab.async false

theorem State.answers_keeps (z : State) (s : State) (code : Nat) (data : List Word) (hz : Keeps z s) : Keeps z (State.answers s code data) := by
  unfold State.answers
  repeat' with_reducible (first | assumption | intro _ | apply keeps_ite | apply keeps_ite_fst | apply keeps_foldl | apply keeps_foldl_fst | split | (dsimp only; split) | apply keeps_with | apply swf_sset | apply swf_ssetMany | apply swf_filter | apply swf_foldl | apply swf_nil | apply swf_ite)

theorem State.ctxMessage_keeps (z : State) (s : State) (c : Nat) (hz : Keeps z s) : Keeps z (State.ctxMessage s c) := by
  unfold State.ctxMessage
  repeat' with_reducible (first | assumption | intro _ | apply State.msix_keeps | apply keeps_ite | apply keeps_ite_fst | apply keeps_foldl | apply keeps_foldl_fst | split | (dsimp only; split) | apply keeps_with | apply swf_sset | apply swf_ssetMany | apply swf_filter | apply swf_foldl | apply swf_nil | apply swf_ite)

theorem State.ctxIrq_keeps (z : State) (s : State) (c i : Nat) (hz : Keeps z s) : Keeps z (State.ctxIrq s c i) := by
  unfold State.ctxIrq
  repeat' with_reducible (first | assumption | intro _ | apply State.setFbit_keeps | apply State.ctxMessage_keeps | apply keeps_ite | apply keeps_ite_fst | apply keeps_foldl | apply keeps_foldl_fst | split | (dsimp only; split) | apply keeps_with | apply swf_sset | apply swf_ssetMany | apply swf_filter | apply swf_foldl | apply swf_nil | apply swf_ite)

theorem State.dmaError_keeps (z : State) (s : State) (c : Nat) (hz : Keeps z s) : Keeps z (State.dmaError s c) := by
  unfold State.dmaError
  repeat' with_reducible (first | assumption | intro _ | apply State.setFld_keeps | apply State.ctxIrq_keeps | apply keeps_ite | apply keeps_ite_fst | apply keeps_foldl | apply keeps_foldl_fst | split | (dsimp only; split) | apply keeps_with | apply swf_sset | apply swf_ssetMany | apply swf_filter | apply swf_foldl | apply swf_nil | apply swf_ite)

theorem State.streamPut_keeps (z : State) (s : State) (c k : Nat) (bs : List Byte) (hz : Keeps z s) : Keeps z (State.streamPut s c k bs) := by
  unfold State.streamPut
  repeat' with_reducible (first | assumption | intro _ | apply State.bump_keeps | apply State.ctxIrq_keeps | apply State.count_keeps | apply State.hostWriteMem_keeps | apply State.setFld_keeps | apply keeps_ite | apply keeps_ite_fst | apply keeps_foldl | apply keeps_foldl_fst | split | (dsimp only; split) | apply keeps_with | apply swf_sset | apply swf_ssetMany | apply swf_filter | apply swf_foldl | apply swf_nil | apply swf_ite)

theorem State.streamCtx_keeps (z : State) (s : State) (c kind : Nat) (bs : List Byte) (hz : Keeps z s) : Keeps z (State.streamCtx s c kind bs) := by
  unfold State.streamCtx
  repeat' with_reducible (first | assumption | intro _ | apply State.streamPut_keeps | apply keeps_ite | apply keeps_ite_fst | apply keeps_foldl | apply keeps_foldl_fst | split | (dsimp only; split) | apply keeps_with | apply swf_sset | apply swf_ssetMany | apply swf_filter | apply swf_foldl | apply swf_nil | apply swf_ite)

theorem State.streamRole_keeps (z : State) (s : State) (g : Nat → Fld) (kind : Nat) (bs : List Byte) (hz : Keeps z s) : Keeps z (State.streamRole s g kind bs) := by
  unfold State.streamRole
  repeat' with_reducible (first | assumption | intro _ | apply State.streamCtx_keeps | apply keeps_ite | apply keeps_ite_fst | apply keeps_foldl | apply keeps_foldl_fst | split | (dsimp only; split) | apply keeps_with | apply swf_sset | apply swf_ssetMany | apply swf_filter | apply swf_foldl | apply swf_nil | apply swf_ite)

end Sys2Proof.Machine
end

