-- ==== Sys2Proof/Laws/KeepsSignals.lean ====
section
/-! SUPPORT. Every operation of Machine/Signals.lean keeps the variant, the queue and the canonical form of the register table. -/

namespace Sys2Proof.Machine

set_option linter.all false
set_option Elab.async false

theorem State.setChan_keeps (z : State) (s : State) (n : Nat) (c : ChanState) (hz : Keeps z s) : Keeps z (State.setChan s n c) := by
  unfold State.setChan
  repeat' with_reducible (first | assumption | intro _ | apply keeps_ite | apply keeps_ite_fst | apply keeps_foldl | apply keeps_foldl_fst | split | (dsimp only; split) | apply keeps_with | apply swf_sset | apply swf_ssetMany | apply swf_filter | apply swf_foldl | apply swf_nil | apply swf_ite)

theorem State.ncoRun_keeps (z : State) (s : State) (n : Nat) (hz : Keeps z s) : Keeps z (State.ncoRun s n) := by
  unfold State.ncoRun
  repeat' with_reducible (first | assumption | intro _ | apply State.setChan_keeps | apply keeps_ite | apply keeps_ite_fst | apply keeps_foldl | apply keeps_foldl_fst | split | (dsimp only; split) | apply keeps_with | apply swf_sset | apply swf_ssetMany | apply swf_filter | apply swf_foldl | apply swf_nil | apply swf_ite)

theorem State.ncoSet_keeps (z : State) (s : State) (n : Nat) (fc fk : Int) (hz : Keeps z s) : Keeps z (State.ncoSet s n fc fk) := by
  unfold State.ncoSet
  repeat' with_reducible (first | assumption | intro _ | apply State.setSfld_keeps | apply keeps_ite | apply keeps_ite_fst | apply keeps_foldl | apply keeps_foldl_fst | split | (dsimp only; split) | apply keeps_with | apply swf_sset | apply swf_ssetMany | apply swf_filter | apply swf_foldl | apply swf_nil | apply swf_ite)

theorem State.ncoStart_keeps (z : State) (s : State) (n : Nat) (fc : Int) (ph : Nat) (hz : Keeps z s) : Keeps z (State.ncoStart s n fc ph) := by
  unfold State.ncoStart
  repeat' with_reducible (first | assumption | intro _ | apply State.setChan_keeps | apply State.ncoSet_keeps | apply keeps_ite | apply keeps_ite_fst | apply keeps_foldl | apply keeps_foldl_fst | split | (dsimp only; split) | apply keeps_with | apply swf_sset | apply swf_ssetMany | apply swf_filter | apply swf_foldl | apply swf_nil | apply swf_ite)

theorem State.trialRates_keeps (z : State) (s : State) (n : Nat) (hz : Keeps z s) : Keeps z (State.trialRates s n) := by
  unfold State.trialRates
  repeat' with_reducible (first | assumption | intro _ | apply State.ncoSet_keeps | apply keeps_ite | apply keeps_ite_fst | apply keeps_foldl | apply keeps_foldl_fst | split | (dsimp only; split) | apply keeps_with | apply swf_sset | apply swf_ssetMany | apply swf_filter | apply swf_foldl | apply swf_nil | apply swf_ite)

theorem State.searchBegin_keeps (z : State) (s : State) (n : Nat) (hz : Keeps z s) : Keeps z (State.searchBegin s n) := by
  unfold State.searchBegin
  repeat' with_reducible (first | assumption | intro _ | apply State.setChan_keeps | apply State.trialRates_keeps | apply keeps_ite | apply keeps_ite_fst | apply keeps_foldl | apply keeps_foldl_fst | split | (dsimp only; split) | apply keeps_with | apply swf_sset | apply swf_ssetMany | apply swf_filter | apply swf_foldl | apply swf_nil | apply swf_ite)

theorem State.searchTo_keeps (z : State) (s : State) (n k : Nat) (hz : Keeps z s) : Keeps z (State.searchTo s n k) := by
  unfold State.searchTo
  repeat' with_reducible (first | assumption | intro _ | apply State.ncoRun_keeps | apply State.setChan_keeps | apply State.trialRates_keeps | apply keeps_ite | apply keeps_ite_fst | apply keeps_foldl | apply keeps_foldl_fst | split | (dsimp only; split) | apply keeps_with | apply swf_sset | apply swf_ssetMany | apply swf_filter | apply swf_foldl | apply swf_nil | apply swf_ite)

end Sys2Proof.Machine
end

