-- ==== Sys2Proof/Laws/KeepsGnss.lean ====
section
/-! SUPPORT. Every operation of Machine/Gnss.lean keeps the variant, the queue and the canonical form of the register table. -/

namespace Sys2Proof.Machine

set_option linter.all false
set_option Elab.async false

theorem State.hold_keeps (z : State) (s : State) (x : HeldItem) (hz : Keeps z s) : Keeps z (State.hold s x) := by
  unfold State.hold
  repeat' with_reducible (first | assumption | intro _ | apply keeps_ite | apply keeps_ite_fst | apply keeps_foldl | apply keeps_foldl_fst | split | (dsimp only; split) | apply keeps_with | apply swf_sset | apply swf_ssetMany | apply swf_filter | apply swf_foldl | apply swf_nil | apply swf_ite)

theorem State.recountTracking_keeps (z : State) (s : State) (hz : Keeps z s) : Keeps z (State.recountTracking s) := by
  unfold State.recountTracking
  repeat' with_reducible (first | assumption | intro _ | apply State.setFld_keeps | apply keeps_ite | apply keeps_ite_fst | apply keeps_foldl | apply keeps_foldl_fst | split | (dsimp only; split) | apply keeps_with | apply swf_sset | apply swf_ssetMany | apply swf_filter | apply swf_foldl | apply swf_nil | apply swf_ite)

theorem State.noteLock_keeps (z : State) (s : State) (hz : Keeps z s) : Keeps z (State.noteLock s) := by
  unfold State.noteLock
  repeat' with_reducible (first | assumption | intro _ | apply keeps_ite | apply keeps_ite_fst | apply keeps_foldl | apply keeps_foldl_fst | split | (dsimp only; split) | apply keeps_with | apply swf_sset | apply swf_ssetMany | apply swf_filter | apply swf_foldl | apply swf_nil | apply swf_ite)

theorem State.sendSymbols_keeps (z : State) (s : State) (n : Nat) (hz : Keeps z s) : Keeps z (State.sendSymbols s n) := by
  unfold State.sendSymbols
  repeat' with_reducible (first | assumption | intro _ | apply State.streamRole_keeps | apply State.setChan_keeps | apply keeps_ite | apply keeps_ite_fst | apply keeps_foldl | apply keeps_foldl_fst | split | (dsimp only; split) | apply keeps_with | apply swf_sset | apply swf_ssetMany | apply swf_filter | apply swf_foldl | apply swf_nil | apply swf_ite)

theorem State.fitEnds_keeps (z : State) (s : State) (n : Nat) (hz : Keeps z s) : Keeps z (State.fitEnds s n) := by
  unfold State.fitEnds
  repeat' with_reducible (first | assumption | intro _ | apply State.setReg_keeps | apply State.setChan_keeps | apply keeps_ite | apply keeps_ite_fst | apply keeps_foldl | apply keeps_foldl_fst | split | (dsimp only; split) | apply keeps_with | apply swf_sset | apply swf_ssetMany | apply swf_filter | apply swf_foldl | apply swf_nil | apply swf_ite)

theorem State.chanTo_keeps (z : State) (s : State) (n st : Nat) (hz : Keeps z s) : Keeps z (State.chanTo s n st) := by
  unfold State.chanTo
  repeat' with_reducible (first | assumption | intro _ | apply Run.st_keeps | apply State.sendSymbols_keeps | apply State.fitEnds_keeps | apply State.setFld_keeps | apply State.setChan_keeps | apply State.recountTracking_keeps | apply State.noteLock_keeps | apply State.searchBegin_keeps | apply keeps_ite | apply keeps_ite_fst | apply keeps_foldl | apply keeps_foldl_fst | split | (dsimp only; split) | apply keeps_with | apply swf_sset | apply swf_ssetMany | apply swf_filter | apply swf_foldl | apply swf_nil | apply swf_ite)

theorem State.pullinAt_keeps (z : State) (s : State) (n : Nat) (fc : Int) (ph : Nat) (hz : Keeps z s) : Keeps z (State.pullinAt s n fc ph) := by
  unfold State.pullinAt
  repeat' with_reducible (first | assumption | intro _ | apply State.setChan_keeps | apply State.ncoStart_keeps | apply State.chanTo_keeps | apply keeps_ite | apply keeps_ite_fst | apply keeps_foldl | apply keeps_foldl_fst | split | (dsimp only; split) | apply keeps_with | apply swf_sset | apply swf_ssetMany | apply swf_filter | apply swf_foldl | apply swf_nil | apply swf_ite)

theorem State.startFrom_keeps (z : State) (s : State) (n m : Nat) (hz : Keeps z s) : Keeps z (State.startFrom s n m) := by
  unfold State.startFrom
  repeat' with_reducible (first | assumption | intro _ | apply State.pullinAt_keeps | apply keeps_ite | apply keeps_ite_fst | apply keeps_foldl | apply keeps_foldl_fst | split | (dsimp only; split) | apply keeps_with | apply swf_sset | apply swf_ssetMany | apply swf_filter | apply swf_foldl | apply swf_nil | apply swf_ite)

theorem State.startChan_keeps (z : State) (s : State) (n : Nat) (part : Nat × Nat) (hz : Keeps z s) : Keeps z (State.startChan s n part) := by
  unfold State.startChan
  repeat' with_reducible (first | assumption | intro _ | apply State.raise_keeps | apply State.startFrom_keeps | apply State.setChan_keeps | apply State.chanTo_keeps | apply keeps_ite | apply keeps_ite_fst | apply keeps_foldl | apply keeps_foldl_fst | split | (dsimp only; split) | apply keeps_with | apply swf_sset | apply swf_ssetMany | apply swf_filter | apply swf_foldl | apply swf_nil | apply swf_ite)

theorem State.giveChan_keeps (z : State) (s : State) (n : Nat) (e : Nat × Nat × Nat × Nat) (hz : Keeps z s) : Keeps z (State.giveChan s n e) := by
  unfold State.giveChan
  repeat' with_reducible (first | assumption | intro _ | apply State.raise_keeps | apply State.setFld_keeps | apply State.startChan_keeps | apply keeps_ite | apply keeps_ite_fst | apply keeps_foldl | apply keeps_foldl_fst | split | (dsimp only; split) | apply keeps_with | apply swf_sset | apply swf_ssetMany | apply swf_filter | apply swf_foldl | apply swf_nil | apply swf_ite)

theorem State.allocateBlock_keeps (z : State) (s : State) (b : Nat) (hz : Keeps z s) : Keeps z (State.allocateBlock s b) := by
  unfold State.allocateBlock
  repeat' with_reducible (first | assumption | intro _ | apply State.tick_keeps | apply State.giveChan_keeps | apply keeps_ite | apply keeps_ite_fst | apply keeps_foldl | apply keeps_foldl_fst | split | (dsimp only; split) | apply keeps_with | apply swf_sset | apply swf_ssetMany | apply swf_filter | apply swf_foldl | apply swf_nil | apply swf_ite)

theorem State.allocate_keeps (z : State) (s : State) (hz : Keeps z s) : Keeps z (State.allocate s) := by
  unfold State.allocate
  repeat' with_reducible (first | assumption | intro _ | apply State.allocateBlock_keeps | apply keeps_ite | apply keeps_ite_fst | apply keeps_foldl | apply keeps_foldl_fst | split | (dsimp only; split) | apply keeps_with | apply swf_sset | apply swf_ssetMany | apply swf_filter | apply swf_foldl | apply swf_nil | apply swf_ite)

theorem State.setBaselines_keeps (z : State) (s : State) (bs : List (Nat × List Int)) (hz : Keeps z s) : Keeps z (State.setBaselines s bs) := by
  unfold State.setBaselines
  repeat' with_reducible (first | assumption | intro _ | apply State.setFld_keeps | apply keeps_ite | apply keeps_ite_fst | apply keeps_foldl | apply keeps_foldl_fst | split | (dsimp only; split) | apply keeps_with | apply swf_sset | apply swf_ssetMany | apply swf_filter | apply swf_foldl | apply swf_nil | apply swf_ite)

theorem State.bbStop_keeps (z : State) (s : State) (hz : Keeps z s) : Keeps z (State.bbStop s) := by
  unfold State.bbStop
  repeat' with_reducible (first | assumption | intro _ | apply State.chanTo_keeps | apply State.setFld_keeps | apply State.setBaselines_keeps | apply keeps_ite | apply keeps_ite_fst | apply keeps_foldl | apply keeps_foldl_fst | split | (dsimp only; split) | apply keeps_with | apply swf_sset | apply swf_ssetMany | apply swf_filter | apply swf_foldl | apply swf_nil | apply swf_ite)

theorem State.bbStart_keeps (z : State) (s : State) (hz : Keeps z s) : Keeps z (State.bbStart s) := by
  unfold State.bbStart
  repeat' with_reducible (first | assumption | intro _ | apply State.setFld_keeps | apply State.tick_keeps | apply State.allocate_keeps | apply keeps_ite | apply keeps_ite_fst | apply keeps_foldl | apply keeps_foldl_fst | split | (dsimp only; split) | apply keeps_with | apply swf_sset | apply swf_ssetMany | apply swf_filter | apply swf_foldl | apply swf_nil | apply swf_ite)

theorem State.chanCmd_keeps (z : State) (s : State) (n cmd : Nat) (hz : Keeps z s) : Keeps z (State.chanCmd s n cmd) := by
  unfold State.chanCmd
  repeat' with_reducible (first | assumption | intro _ | apply State.chanTo_keeps | apply State.raise_keeps | apply State.startChan_keeps | apply State.setChan_keeps | apply State.pullinAt_keeps | apply keeps_ite | apply keeps_ite_fst | apply keeps_foldl | apply keeps_foldl_fst | split | (dsimp only; split) | apply keeps_with | apply swf_sset | apply swf_ssetMany | apply swf_filter | apply swf_foldl | apply swf_nil | apply swf_ite)

theorem State.chanWrite_keeps (z : State) (s : State) (a v : Nat) (hz : Keeps z s) : Keeps z (State.chanWrite s a v) := by
  unfold State.chanWrite
  repeat' with_reducible (first | assumption | intro _ | apply State.chanCmd_keeps | apply State.writeCodes_keeps | apply State.raise_keeps | apply keeps_ite | apply keeps_ite_fst | apply keeps_foldl | apply keeps_foldl_fst | split | (dsimp only; split) | apply keeps_with | apply swf_sset | apply swf_ssetMany | apply swf_filter | apply swf_foldl | apply swf_nil | apply swf_ite)

theorem State.codeData_keeps (z : State) (s : State) (w : Option Word) (hz : Keeps z s) : Keeps z (State.codeData s w).1 := by
  unfold State.codeData
  repeat' with_reducible (first | assumption | intro _ | apply State.setFld_keeps | apply keeps_ite | apply keeps_ite_fst | apply keeps_foldl | apply keeps_foldl_fst | split | (dsimp only; split) | apply keeps_with | apply swf_sset | apply swf_ssetMany | apply swf_filter | apply swf_foldl | apply swf_nil | apply swf_ite)

theorem State.aidData_keeps (z : State) (s : State) (w : Option Word) (hz : Keeps z s) : Keeps z (State.aidData s w).1 := by
  unfold State.aidData
  repeat' with_reducible (first | assumption | intro _ | apply State.setFld_keeps | apply keeps_ite | apply keeps_ite_fst | apply keeps_foldl | apply keeps_foldl_fst | split | (dsimp only; split) | apply keeps_with | apply swf_sset | apply swf_ssetMany | apply swf_filter | apply swf_foldl | apply swf_nil | apply swf_ite)

theorem State.bbWrite_keeps (z : State) (s : State) (a v : Nat) (hz : Keeps z s) : Keeps z (State.bbWrite s a v) := by
  unfold State.bbWrite
  repeat' with_reducible (first | assumption | intro _ | apply State.codeData_keeps | apply State.aidData_keeps | apply State.writeCodes_keeps | apply keeps_ite | apply keeps_ite_fst | apply keeps_foldl | apply keeps_foldl_fst | split | (dsimp only; split) | apply keeps_with | apply swf_sset | apply swf_ssetMany | apply swf_filter | apply swf_foldl | apply swf_nil | apply swf_ite)

theorem State.train_keeps (z : State) (s : State) (n : Nat) (hz : Keeps z s) : Keeps z (State.train s n) := by
  unfold State.train
  repeat' with_reducible (first | assumption | intro _ | apply State.setFld_keeps | apply keeps_ite | apply keeps_ite_fst | apply keeps_foldl | apply keeps_foldl_fst | split | (dsimp only; split) | apply keeps_with | apply swf_sset | apply swf_ssetMany | apply swf_filter | apply swf_foldl | apply swf_nil | apply swf_ite)
  all_goals (first | assumption | exact swf_filter _ _ ‹_›)

theorem State.asPortLost_keeps (z : State) (s : State) (n : Nat) (hz : Keeps z s) : Keeps z (State.asPortLost s n) := by
  unfold State.asPortLost
  repeat' with_reducible (first | assumption | intro _ | apply State.setFld_keeps | apply State.raise_keeps | apply State.chanTo_keeps | apply State.setBaselines_keeps | apply keeps_ite | apply keeps_ite_fst | apply keeps_foldl | apply keeps_foldl_fst | split | (dsimp only; split) | apply keeps_with | apply swf_sset | apply swf_ssetMany | apply swf_filter | apply swf_foldl | apply swf_nil | apply swf_ite)

theorem State.latchTaps_keeps (z : State) (s : State) (n : Nat) (sums : List Tap) (neg : Bool) (hz : Keeps z s) : Keeps z (State.latchTaps s n sums neg) := by
  unfold State.latchTaps
  repeat' with_reducible (first | assumption | intro _ | apply State.setSfld_keeps | apply State.raiseIf_keeps | apply keeps_ite | apply keeps_ite_fst | apply keeps_foldl | apply keeps_foldl_fst | split | (dsimp only; split) | apply keeps_with | apply swf_sset | apply swf_ssetMany | apply swf_filter | apply swf_foldl | apply swf_nil | apply swf_ite)

theorem State.found_keeps (z : State) (s : State) (n p : Nat) (hz : Keeps z s) : Keeps z (State.found s n p) := by
  unfold State.found
  repeat' with_reducible (first | assumption | intro _ | apply State.ncoStart_keeps | apply State.chanTo_keeps | apply keeps_ite | apply keeps_ite_fst | apply keeps_foldl | apply keeps_foldl_fst | split | (dsimp only; split) | apply keeps_with | apply swf_sset | apply swf_ssetMany | apply swf_filter | apply swf_foldl | apply swf_nil | apply swf_ite)

theorem State.dwell_keeps (z : State) (s : State) (n : Nat) (hz : Keeps z s) : Keeps z (State.dwell s n) := by
  unfold State.dwell
  repeat' with_reducible (first | assumption | intro _ | apply State.setChan_keeps | apply State.found_keeps | apply State.searchTo_keeps | apply State.chanTo_keeps | apply State.raise_keeps | apply keeps_ite | apply keeps_ite_fst | apply keeps_foldl | apply keeps_foldl_fst | split | (dsimp only; split) | apply keeps_with | apply swf_sset | apply swf_ssetMany | apply swf_filter | apply swf_foldl | apply swf_nil | apply swf_ite)

theorem State.estimate_keeps (z : State) (s : State) (n : Nat) (hz : Keeps z s) : Keeps z (State.estimate s n) := by
  unfold State.estimate
  repeat' with_reducible (first | assumption | intro _ | apply Run.comp_keeps | apply State.setSfld_keeps | apply State.setFld_keeps | apply State.setBit_keeps | apply State.setChan_keeps | apply keeps_ite | apply keeps_ite_fst | apply keeps_foldl | apply keeps_foldl_fst | split | (dsimp only; split) | apply keeps_with | apply swf_sset | apply swf_ssetMany | apply swf_filter | apply swf_foldl | apply swf_nil | apply swf_ite)

theorem State.crossAid_keeps (z : State) (s : State) (n : Nat) (hz : Keeps z s) : Keeps z (State.crossAid s n) := by
  unfold State.crossAid
  repeat' with_reducible (first | assumption | intro _ | apply State.startFrom_keeps | apply State.raise_keeps | apply keeps_ite | apply keeps_ite_fst | apply keeps_foldl | apply keeps_foldl_fst | split | (dsimp only; split) | apply keeps_with | apply swf_sset | apply swf_ssetMany | apply swf_filter | apply swf_foldl | apply swf_nil | apply swf_ite)

theorem State.slipBaselines_keeps (z : State) (s : State) (n : Nat) (hz : Keeps z s) : Keeps z (State.slipBaselines s n) := by
  unfold State.slipBaselines
  repeat' with_reducible (first | assumption | intro _ | apply State.setBaselines_keeps | apply keeps_ite | apply keeps_ite_fst | apply keeps_foldl | apply keeps_foldl_fst | split | (dsimp only; split) | apply keeps_with | apply swf_sset | apply swf_ssetMany | apply swf_filter | apply swf_foldl | apply swf_nil | apply swf_ite)

theorem State.slip_keeps (z : State) (s : State) (n : Nat) (hz : Keeps z s) : Keeps z (State.slip s n) := by
  unfold State.slip
  repeat' with_reducible (first | assumption | intro _ | apply State.setChan_keeps | apply State.raise_keeps | apply State.slipBaselines_keeps | apply keeps_ite | apply keeps_ite_fst | apply keeps_foldl | apply keeps_foldl_fst | split | (dsimp only; split) | apply keeps_with | apply swf_sset | apply swf_ssetMany | apply swf_filter | apply swf_foldl | apply swf_nil | apply swf_ite)

theorem State.loopFilter_keeps (z : State) (s : State) (n : Nat) (hz : Keeps z s) : Keeps z (State.loopFilter s n) := by
  unfold State.loopFilter
  repeat' with_reducible (first | assumption | intro _ | apply State.tick_keeps | apply State.ncoRun_keeps | apply State.setChan_keeps | apply State.ncoSet_keeps | apply keeps_ite | apply keeps_ite_fst | apply keeps_foldl | apply keeps_foldl_fst | split | (dsimp only; split) | apply keeps_with | apply swf_sset | apply swf_ssetMany | apply swf_filter | apply swf_foldl | apply swf_nil | apply swf_ite)

theorem State.loopUpdate_keeps (z : State) (s : State) (n : Nat) (sync : Bool) (hz : Keeps z s) : Keeps z (State.loopUpdate s n sync) := by
  unfold State.loopUpdate
  repeat' with_reducible (first | assumption | intro _ | apply State.loopFilter_keeps | apply State.take_keeps | apply State.tick_keeps | apply State.setChan_keeps | apply State.setBit_keeps | apply State.setFld_keeps | apply State.noteLock_keeps | apply State.slip_keeps | apply State.ready_keeps | apply State.chanTo_keeps | apply State.crossAid_keeps | apply State.estimate_keeps | apply keeps_ite | apply keeps_ite_fst | apply keeps_foldl | apply keeps_foldl_fst | split | (dsimp only; split) | apply keeps_with | apply swf_sset | apply swf_ssetMany | apply swf_filter | apply swf_foldl | apply swf_nil | apply swf_ite)

theorem State.periodEnd_keeps (z : State) (s : State) (n : Nat) (sums : List Tap) (sync neg : Bool) (hz : Keeps z s) : Keeps z (State.periodEnd s n sums sync neg) := by
  unfold State.periodEnd
  repeat' with_reducible (first | assumption | intro _ | apply Run.st_keeps | apply State.latchTaps_keeps | apply State.loopUpdate_keeps | apply State.dwell_keeps | apply keeps_ite | apply keeps_ite_fst | apply keeps_foldl | apply keeps_foldl_fst | split | (dsimp only; split) | apply keeps_with | apply swf_sset | apply swf_ssetMany | apply swf_filter | apply swf_foldl | apply swf_nil | apply swf_ite)

theorem State.coastAll_keeps (z : State) (s : State) (b : Bool) (hz : Keeps z s) : Keeps z (State.coastAll s b) := by
  unfold State.coastAll
  repeat' with_reducible (first | assumption | intro _ | apply State.setBit_keeps | apply keeps_ite | apply keeps_ite_fst | apply keeps_foldl | apply keeps_foldl_fst | split | (dsimp only; split) | apply keeps_with | apply swf_sset | apply swf_ssetMany | apply swf_filter | apply swf_foldl | apply swf_nil | apply swf_ite)

theorem State.pullinTimeout_keeps (z : State) (s : State) (n : Nat) (hz : Keeps z s) : Keeps z (State.pullinTimeout s n) := by
  unfold State.pullinTimeout
  repeat' with_reducible (first | assumption | intro _ | apply State.chanTo_keeps | apply keeps_ite | apply keeps_ite_fst | apply keeps_foldl | apply keeps_foldl_fst | split | (dsimp only; split) | apply keeps_with | apply swf_sset | apply swf_ssetMany | apply swf_filter | apply swf_foldl | apply swf_nil | apply swf_ite)

theorem State.cn0Timeout_keeps (z : State) (s : State) (n : Nat) (hz : Keeps z s) : Keeps z (State.cn0Timeout s n) := by
  unfold State.cn0Timeout
  repeat' with_reducible (first | assumption | intro _ | apply Run.st_keeps | apply State.chanTo_keeps | apply keeps_ite | apply keeps_ite_fst | apply keeps_foldl | apply keeps_foldl_fst | split | (dsimp only; split) | apply keeps_with | apply swf_sset | apply swf_ssetMany | apply swf_filter | apply swf_foldl | apply swf_nil | apply swf_ite)

theorem State.lostTimeout_keeps (z : State) (s : State) (n : Nat) (hz : Keeps z s) : Keeps z (State.lostTimeout s n) := by
  unfold State.lostTimeout
  repeat' with_reducible (first | assumption | intro _ | apply State.chanTo_keeps | apply State.raise_keeps | apply keeps_ite | apply keeps_ite_fst | apply keeps_foldl | apply keeps_foldl_fst | split | (dsimp only; split) | apply keeps_with | apply swf_sset | apply swf_ssetMany | apply swf_filter | apply swf_foldl | apply swf_nil | apply swf_ite)

theorem State.observe_keeps (z : State) (s : State) (te : Time) (n : Nat) (hz : Keeps z s) : Keeps z (State.observe s te n) := by
  unfold State.observe
  repeat' with_reducible (first | assumption | intro _ | apply State.streamRole_keeps | apply State.count_keeps | apply State.setChan_keeps | apply State.slip_keeps | apply keeps_ite | apply keeps_ite_fst | apply keeps_foldl | apply keeps_foldl_fst | split | (dsimp only; split) | apply keeps_with | apply swf_sset | apply swf_ssetMany | apply swf_filter | apply swf_foldl | apply swf_nil | apply swf_ite)

theorem State.observeAll_keeps (z : State) (s : State) (te : Time) (hz : Keeps z s) : Keeps z (State.observeAll s te) := by
  unfold State.observeAll
  repeat' with_reducible (first | assumption | intro _ | apply State.observe_keeps | apply keeps_ite | apply keeps_ite_fst | apply keeps_foldl | apply keeps_foldl_fst | split | (dsimp only; split) | apply keeps_with | apply swf_sset | apply swf_ssetMany | apply swf_filter | apply swf_foldl | apply swf_nil | apply swf_ite)

theorem State.releaseObs_keeps (z : State) (s : State) (hz : Keeps z s) : Keeps z (State.releaseObs s) := by
  unfold State.releaseObs
  repeat' with_reducible (first | assumption | intro _ | apply State.streamRole_keeps | apply keeps_ite | apply keeps_ite_fst | apply keeps_foldl | apply keeps_foldl_fst | split | (dsimp only; split) | apply keeps_with | apply swf_sset | apply swf_ssetMany | apply swf_filter | apply swf_foldl | apply swf_nil | apply swf_ite)

theorem State.symbol_keeps (z : State) (s : State) (e : SymIn) (hz : Keeps z s) : Keeps z (State.symbol s e) := by
  unfold State.symbol
  repeat' with_reducible (first | assumption | intro _ | apply State.setChan_keeps | apply State.sendSymbols_keeps | apply keeps_ite | apply keeps_ite_fst | apply keeps_foldl | apply keeps_foldl_fst | split | (dsimp only; split) | apply keeps_with | apply swf_sset | apply swf_ssetMany | apply swf_filter | apply swf_foldl | apply swf_nil | apply swf_ite)

theorem State.calFromGnss_keeps (z : State) (s : State) (hz : Keeps z s) : Keeps z (State.calFromGnss s) := by
  unfold State.calFromGnss
  repeat' with_reducible (first | assumption | intro _ | apply State.setFld_keeps | apply keeps_ite | apply keeps_ite_fst | apply keeps_foldl | apply keeps_foldl_fst | split | (dsimp only; split) | apply keeps_with | apply swf_sset | apply swf_ssetMany | apply swf_filter | apply swf_foldl | apply swf_nil | apply swf_ite)

theorem State.takeLeap_keeps (z : State) (s : State) (l : LeapIn) (hz : Keeps z s) : Keeps z (State.takeLeap s l) := by
  unfold State.takeLeap
  repeat' with_reducible (first | assumption | intro _ | apply State.setFld_keeps | apply State.setBit_keeps | apply keeps_ite | apply keeps_ite_fst | apply keeps_foldl | apply keeps_foldl_fst | split | (dsimp only; split) | apply keeps_with | apply swf_sset | apply swf_ssetMany | apply swf_filter | apply swf_foldl | apply swf_nil | apply swf_ite)

theorem State.loadLeap_keeps (z : State) (s : State) (hz : Keeps z s) : Keeps z (State.loadLeap s) := by
  unfold State.loadLeap
  repeat' with_reducible (first | assumption | intro _ | apply State.setFld_keeps | apply keeps_ite | apply keeps_ite_fst | apply keeps_foldl | apply keeps_foldl_fst | split | (dsimp only; split) | apply keeps_with | apply swf_sset | apply swf_ssetMany | apply swf_filter | apply swf_foldl | apply swf_nil | apply swf_ite)

theorem State.spareFault_keeps (z : State) (s : State) (hz : Keeps z s) : Keeps z (State.spareFault s) := by
  unfold State.spareFault
  repeat' with_reducible (first | assumption | intro _ | apply State.raise_keeps | apply State.chanTo_keeps | apply State.recountTracking_keeps | apply State.canvas_keeps | apply keeps_ite | apply keeps_ite_fst | apply keeps_foldl | apply keeps_foldl_fst | split | (dsimp only; split) | apply keeps_with | apply swf_sset | apply swf_ssetMany | apply swf_filter | apply swf_foldl | apply swf_nil | apply swf_ite)

theorem State.bankFault_keeps (z : State) (s : State) (b : Nat) (hz : Keeps z s) : Keeps z (State.bankFault s b) := by
  unfold State.bankFault
  repeat' with_reducible (first | assumption | intro _ | apply State.spareFault_keeps | apply State.setFbit_keeps | apply State.raise_keeps | apply State.chanTo_keeps | apply State.setChan_keeps | apply State.setFld_keeps | apply State.recountTracking_keeps | apply State.canvas_keeps | apply keeps_ite | apply keeps_ite_fst | apply keeps_foldl | apply keeps_foldl_fst | split | (dsimp only; split) | apply keeps_with | apply swf_sset | apply swf_ssetMany | apply swf_filter | apply swf_foldl | apply swf_nil | apply swf_ite)

theorem State.gnssWrite_keeps (z : State) (s : State) (hz : Keeps z s) : Keeps z (State.gnssWrite s) := by
  unfold State.gnssWrite
  repeat' with_reducible (first | assumption | intro _ | apply keeps_ite | apply keeps_ite_fst | apply keeps_foldl | apply keeps_foldl_fst | split | (dsimp only; split) | apply keeps_with | apply swf_sset | apply swf_ssetMany | apply swf_filter | apply swf_foldl | apply swf_nil | apply swf_ite)

theorem State.gnssSave_keeps (z : State) (s : State) (hz : Keeps z s) : Keeps z (State.gnssSave s) := by
  unfold State.gnssSave
  repeat' with_reducible (first | assumption | intro _ | apply State.gnssWrite_keeps | apply keeps_ite | apply keeps_ite_fst | apply keeps_foldl | apply keeps_foldl_fst | split | (dsimp only; split) | apply keeps_with | apply swf_sset | apply swf_ssetMany | apply swf_filter | apply swf_foldl | apply swf_nil | apply swf_ite)

end Sys2Proof.Machine
end

