-- ==== Sys2Proof/Laws/KeepsTimebase.lean ====
section
/-! SUPPORT. Every operation of Machine/Timebase.lean keeps the variant, the queue and the canonical form of the register table. -/

namespace Sys2Proof.Machine

set_option linter.all false
set_option Elab.async false

theorem State.ftStep_keeps (z : State) (s : State) (hz : Keeps z s) : Keeps z (State.ftStep s) := by
  unfold State.ftStep
  repeat' with_reducible (first | assumption | intro _ | apply keeps_ite | apply keeps_ite_fst | apply keeps_foldl | apply keeps_foldl_fst | split | (dsimp only; split) | apply keeps_with | apply swf_sset | apply swf_ssetMany | apply swf_filter | apply swf_foldl | apply swf_nil | apply swf_ite)

theorem State.tbTo_keeps (z : State) (s : State) (st row : Nat) (relock : Bool) (hz : Keeps z s) : Keeps z (State.tbTo s st row relock) := by
  unfold State.tbTo
  repeat' with_reducible (first | assumption | intro _ | apply State.setFld_keeps | apply Run.st_keeps | apply State.setBit_keeps | apply State.raiseIf_keeps | apply State.canvas_keeps | apply State.bbStop_keeps | apply State.bbStart_keeps | apply keeps_ite | apply keeps_ite_fst | apply keeps_foldl | apply keeps_foldl_fst | split | (dsimp only; split) | apply keeps_with | apply swf_sset | apply swf_ssetMany | apply swf_filter | apply swf_foldl | apply swf_nil | apply swf_ite)

theorem State.refinLost_keeps (z : State) (s : State) (hz : Keeps z s) : Keeps z (State.refinLost s) := by
  unfold State.refinLost
  repeat' with_reducible (first | assumption | intro _ | apply State.setFld_keeps | apply State.raiseIf_keeps | apply State.tbTo_keeps | apply keeps_ite | apply keeps_ite_fst | apply keeps_foldl | apply keeps_foldl_fst | split | (dsimp only; split) | apply keeps_with | apply swf_sset | apply swf_ssetMany | apply swf_filter | apply swf_foldl | apply swf_nil | apply swf_ite)

theorem State.refinSeen_keeps (z : State) (s : State) (hz : Keeps z s) : Keeps z (State.refinSeen s) := by
  unfold State.refinSeen
  repeat' with_reducible (first | assumption | intro _ | apply State.setFld_keeps | apply keeps_ite | apply keeps_ite_fst | apply keeps_foldl | apply keeps_foldl_fst | split | (dsimp only; split) | apply keeps_with | apply swf_sset | apply swf_ssetMany | apply swf_filter | apply swf_foldl | apply swf_nil | apply swf_ite)

theorem State.refinActive_keeps (z : State) (s : State) (edges freq : Nat) (hz : Keeps z s) : Keeps z (State.refinActive s edges freq) := by
  unfold State.refinActive
  repeat' with_reducible (first | assumption | intro _ | apply State.refinSeen_keeps | apply State.tbTo_keeps | apply keeps_ite | apply keeps_ite_fst | apply keeps_foldl | apply keeps_foldl_fst | split | (dsimp only; split) | apply keeps_with | apply swf_sset | apply swf_ssetMany | apply swf_filter | apply swf_foldl | apply swf_nil | apply swf_ite)

theorem State.pllLock_keeps (z : State) (s : State) (hz : Keeps z s) : Keeps z (State.pllLock s) := by
  unfold State.pllLock
  repeat' with_reducible (first | assumption | intro _ | apply State.tbTo_keeps | apply keeps_ite | apply keeps_ite_fst | apply keeps_foldl | apply keeps_foldl_fst | split | (dsimp only; split) | apply keeps_with | apply swf_sset | apply swf_ssetMany | apply swf_filter | apply swf_foldl | apply swf_nil | apply swf_ite)

theorem State.refinStartTimeout_keeps (z : State) (s : State) (hz : Keeps z s) : Keeps z (State.refinStartTimeout s) := by
  unfold State.refinStartTimeout
  repeat' with_reducible (first | assumption | intro _ | apply State.tbTo_keeps | apply keeps_ite | apply keeps_ite_fst | apply keeps_foldl | apply keeps_foldl_fst | split | (dsimp only; split) | apply keeps_with | apply swf_sset | apply swf_ssetMany | apply swf_filter | apply swf_foldl | apply swf_nil | apply swf_ite)

theorem State.holdoverTimeout_keeps (z : State) (s : State) (hz : Keeps z s) : Keeps z (State.holdoverTimeout s) := by
  unfold State.holdoverTimeout
  repeat' with_reducible (first | assumption | intro _ | apply State.tbTo_keeps | apply keeps_ite | apply keeps_ite_fst | apply keeps_foldl | apply keeps_foldl_fst | split | (dsimp only; split) | apply keeps_with | apply swf_sset | apply swf_ssetMany | apply swf_filter | apply swf_foldl | apply swf_nil | apply swf_ite)

theorem State.driftCheck_keeps (z : State) (s : State) (raw : Int) (hz : Keeps z s) : Keeps z (State.driftCheck s raw) := by
  unfold State.driftCheck
  repeat' with_reducible (first | assumption | intro _ | apply State.setSfld_keeps | apply State.setFld_keeps | apply State.take_keeps | apply State.raiseIf_keeps | apply State.tbTo_keeps | apply keeps_ite | apply keeps_ite_fst | apply keeps_foldl | apply keeps_foldl_fst | split | (dsimp only; split) | apply keeps_with | apply swf_sset | apply swf_ssetMany | apply swf_filter | apply swf_foldl | apply swf_nil | apply swf_ite)

theorem State.discipline_keeps (z : State) (s : State) (yGnss ySync : Int) (gnssTime : Time) (hz : Keeps z s) : Keeps z (State.discipline s yGnss ySync gnssTime) := by
  unfold State.discipline
  repeat' with_reducible (first | assumption | intro _ | apply State.driftCheck_keeps | apply State.setSfld_keeps | apply State.setFld_keeps | apply State.noteLock_keeps | apply keeps_ite | apply keeps_ite_fst | apply keeps_foldl | apply keeps_foldl_fst | split | (dsimp only; split) | apply keeps_with | apply swf_sset | apply swf_ssetMany | apply swf_filter | apply swf_foldl | apply swf_nil | apply swf_ite)

theorem State.driftCompliance_keeps (z : State) (s : State) (hz : Keeps z s) : Keeps z (State.driftCompliance s) := by
  unfold State.driftCompliance
  repeat' with_reducible (first | assumption | intro _ | apply State.tbTo_keeps | apply keeps_ite | apply keeps_ite_fst | apply keeps_foldl | apply keeps_foldl_fst | split | (dsimp only; split) | apply keeps_with | apply swf_sset | apply swf_ssetMany | apply swf_filter | apply swf_foldl | apply swf_nil | apply swf_ite)

theorem State.refoutReenable_keeps (z : State) (s : State) (hz : Keeps z s) : Keeps z (State.refoutReenable s) := by
  unfold State.refoutReenable
  repeat' with_reducible (first | assumption | intro _ | apply State.setFld_keeps | apply keeps_ite | apply keeps_ite_fst | apply keeps_foldl | apply keeps_foldl_fst | split | (dsimp only; split) | apply keeps_with | apply swf_sset | apply swf_ssetMany | apply swf_filter | apply swf_foldl | apply swf_nil | apply swf_ite)

theorem State.syncLoss_keeps (z : State) (s : State) (hz : Keeps z s) : Keeps z (State.syncLoss s) := by
  unfold State.syncLoss
  repeat' with_reducible (first | assumption | intro _ | apply State.raise_keeps | apply State.setFld_keeps | apply State.missed_keeps | apply keeps_ite | apply keeps_ite_fst | apply keeps_foldl | apply keeps_foldl_fst | split | (dsimp only; split) | apply keeps_with | apply swf_sset | apply swf_ssetMany | apply swf_filter | apply swf_foldl | apply swf_nil | apply swf_ite)

theorem State.tbCtrlWrite_keeps (z : State) (s : State) (v : Nat) (hz : Keeps z s) : Keeps z (State.tbCtrlWrite s v) := by
  unfold State.tbCtrlWrite
  repeat' with_reducible (first | assumption | intro _ | apply State.raise_keeps | apply State.writeCodes_keeps | apply State.setFld_keeps | apply State.missed_keeps | apply State.tbTo_keeps | apply keeps_ite | apply keeps_ite_fst | apply keeps_foldl | apply keeps_foldl_fst | split | (dsimp only; split) | apply keeps_with | apply swf_sset | apply swf_ssetMany | apply swf_filter | apply swf_foldl | apply swf_nil | apply swf_ite)

theorem State.takeOfs_keeps (z : State) (s : State) (hz : Keeps z s) : Keeps z (State.takeOfs s) := by
  unfold State.takeOfs
  repeat' with_reducible (first | assumption | intro _ | apply keeps_ite | apply keeps_ite_fst | apply keeps_foldl | apply keeps_foldl_fst | split | (dsimp only; split) | apply keeps_with | apply swf_sset | apply swf_ssetMany | apply swf_filter | apply swf_foldl | apply swf_nil | apply swf_ite)

theorem State.ofsHiWrite_keeps (z : State) (s : State) (v : Nat) (hz : Keeps z s) : Keeps z (State.ofsHiWrite s v) := by
  unfold State.ofsHiWrite
  repeat' with_reducible (first | assumption | intro _ | apply State.setReg_keeps | apply State.takeOfs_keeps | apply keeps_ite | apply keeps_ite_fst | apply keeps_foldl | apply keeps_foldl_fst | split | (dsimp only; split) | apply keeps_with | apply swf_sset | apply swf_ssetMany | apply swf_filter | apply swf_foldl | apply swf_nil | apply swf_ite)

theorem State.calSet_keeps (z : State) (s : State) (v : Nat) (hz : Keeps z s) : Keeps z (State.calSet s v) := by
  unfold State.calSet
  repeat' with_reducible (first | assumption | intro _ | apply State.setFld_keeps | apply keeps_ite | apply keeps_ite_fst | apply keeps_foldl | apply keeps_foldl_fst | split | (dsimp only; split) | apply keeps_with | apply swf_sset | apply swf_ssetMany | apply swf_filter | apply swf_foldl | apply swf_nil | apply swf_ite)

theorem State.tbWrite_keeps (z : State) (s : State) (a v : Nat) (hz : Keeps z s) : Keeps z (State.tbWrite s a v) := by
  unfold State.tbWrite
  repeat' with_reducible (first | assumption | intro _ | apply State.tbCtrlWrite_keeps | apply State.ofsHiWrite_keeps | apply State.calSet_keeps | apply State.writeCodes_keeps | apply State.raise_keeps | apply keeps_ite | apply keeps_ite_fst | apply keeps_foldl | apply keeps_foldl_fst | split | (dsimp only; split) | apply keeps_with | apply swf_sset | apply swf_ssetMany | apply swf_filter | apply swf_foldl | apply swf_nil | apply swf_ite)

theorem State.syncPulse_keeps (z : State) (s : State) (mode : Nat) (t : Time) (hz : Keeps z s) : Keeps z (State.syncPulse s mode t) := by
  unfold State.syncPulse
  repeat' with_reducible (first | assumption | intro _ | apply keeps_ite | apply keeps_ite_fst | apply keeps_foldl | apply keeps_foldl_fst | split | (dsimp only; split) | apply keeps_with | apply swf_sset | apply swf_ssetMany | apply swf_filter | apply swf_foldl | apply swf_nil | apply swf_ite)

end Sys2Proof.Machine
end

