-- ==== Sys2Proof/Laws/KeepsPose.lean ====
section
/-! SUPPORT. Every operation of Machine/Pose.lean keeps the variant, the queue and the canonical form of the register table. -/

namespace Sys2Proof.Machine

set_option linter.all false
set_option Elab.async false

theorem State.freeQuat_keeps (z : State) (s : State) (old : List Int) (g : Bool) (hz : Keeps z s) : Keeps z (State.freeQuat s old g).1 := by
  unfold State.freeQuat
  repeat' with_reducible (first | assumption | intro _ | apply State.tick_keeps | apply keeps_ite | apply keeps_ite_fst | apply keeps_foldl | apply keeps_foldl_fst | split | (dsimp only; split) | apply keeps_with | apply swf_sset | apply swf_ssetMany | apply swf_filter | apply swf_foldl | apply swf_nil | apply swf_ite)

theorem State.poTo_keeps (z : State) (s : State) (st : Nat) (hz : Keeps z s) : Keeps z (State.poTo s st) := by
  unfold State.poTo
  repeat' with_reducible (first | assumption | intro _ | apply Run.st_keeps | apply State.setFld_keeps | apply State.setBit_keeps | apply State.raise_keeps | apply State.canvas_keeps | apply State.muslin_keeps | apply keeps_ite | apply keeps_ite_fst | apply keeps_foldl | apply keeps_foldl_fst | split | (dsimp only; split) | apply keeps_with | apply swf_sset | apply swf_ssetMany | apply swf_filter | apply swf_foldl | apply swf_nil | apply swf_ite)

theorem State.poWake_keeps (z : State) (s : State) (hz : Keeps z s) : Keeps z (State.poWake s) := by
  unfold State.poWake
  repeat' with_reducible (first | assumption | intro _ | apply State.poTo_keeps | apply keeps_ite | apply keeps_ite_fst | apply keeps_foldl | apply keeps_foldl_fst | split | (dsimp only; split) | apply keeps_with | apply swf_sset | apply swf_ssetMany | apply swf_filter | apply swf_foldl | apply swf_nil | apply swf_ite)

theorem State.poCtrlWrite_keeps (z : State) (s : State) (v : Nat) (hz : Keeps z s) : Keeps z (State.poCtrlWrite s v) := by
  unfold State.poCtrlWrite
  repeat' with_reducible (first | assumption | intro _ | apply State.raise_keeps | apply State.writeCodes_keeps | apply State.poWake_keeps | apply State.poTo_keeps | apply keeps_ite | apply keeps_ite_fst | apply keeps_foldl | apply keeps_foldl_fst | split | (dsimp only; split) | apply keeps_with | apply swf_sset | apply swf_ssetMany | apply swf_filter | apply swf_foldl | apply swf_nil | apply swf_ite)

theorem State.takeHeading_keeps (z : State) (s : State) (h unc : Nat) (hz : Keeps z s) : Keeps z (State.takeHeading s h unc) := by
  unfold State.takeHeading
  repeat' with_reducible (first | assumption | intro _ | apply State.freeQuat_keeps | apply keeps_ite | apply keeps_ite_fst | apply keeps_foldl | apply keeps_foldl_fst | split | (dsimp only; split) | apply keeps_with | apply swf_sset | apply swf_ssetMany | apply swf_filter | apply swf_foldl | apply swf_nil | apply swf_ite)

theorem State.applyFix_keeps (z : State) (te : Time) (sf : State × FixFlags) (f : FixIn) (hz : Keeps z sf.1) : Keeps z (State.applyFix te sf f).1 := by
  unfold State.applyFix
  repeat' with_reducible (first | assumption | intro _ | apply State.raise_keeps | apply State.raiseIf_keeps | apply State.tick_keeps | apply State.takeHeading_keeps | apply keeps_ite | apply keeps_ite_fst | apply keeps_foldl | apply keeps_foldl_fst | split | (dsimp only; split) | apply keeps_with | apply swf_sset | apply swf_ssetMany | apply swf_filter | apply swf_foldl | apply swf_nil | apply swf_ite)

theorem State.poSelect_keeps (z : State) (s : State) (te : Time) (applied : Bool) (hz : Keeps z s) : Keeps z (State.poSelect s te applied) := by
  unfold State.poSelect
  repeat' with_reducible (first | assumption | intro _ | apply Run.st_keeps | apply State.raiseIf_keeps | apply State.poTo_keeps | apply keeps_ite | apply keeps_ite_fst | apply keeps_foldl | apply keeps_foldl_fst | split | (dsimp only; split) | apply keeps_with | apply swf_sset | apply swf_ssetMany | apply swf_filter | apply swf_foldl | apply swf_nil | apply swf_ite)

theorem State.growOnce_keeps (z : State) (s : State) (hz : Keeps z s) : Keeps z (State.growOnce s) := by
  unfold State.growOnce
  repeat' with_reducible (first | assumption | intro _ | apply Run.st_keeps | apply keeps_ite | apply keeps_ite_fst | apply keeps_foldl | apply keeps_foldl_fst | split | (dsimp only; split) | apply keeps_with | apply swf_sset | apply swf_ssetMany | apply swf_filter | apply swf_foldl | apply swf_nil | apply swf_ite)

theorem State.growAtt_keeps (z : State) (s : State) (hz : Keeps z s) : Keeps z (State.growAtt s) := by
  unfold State.growAtt
  repeat' with_reducible (first | assumption | intro _ | apply keeps_ite | apply keeps_ite_fst | apply keeps_foldl | apply keeps_foldl_fst | split | (dsimp only; split) | apply keeps_with | apply swf_sset | apply swf_ssetMany | apply swf_filter | apply swf_foldl | apply swf_nil | apply swf_ite)

theorem State.setSeg_keeps (z : State) (s : State) (i : Nat) (g : SegState) (hz : Keeps z s) : Keeps z (State.setSeg s i g) := by
  unfold State.setSeg
  repeat' with_reducible (first | assumption | intro _ | apply keeps_ite | apply keeps_ite_fst | apply keeps_foldl | apply keeps_foldl_fst | split | (dsimp only; split) | apply keeps_with | apply swf_sset | apply swf_ssetMany | apply swf_filter | apply swf_foldl | apply swf_nil | apply swf_ite)

theorem State.segUpdate_keeps (z : State) (s : State) (te : Time) (i : Nat) (hz : Keeps z s) : Keeps z (State.segUpdate s te i) := by
  unfold State.segUpdate
  repeat' with_reducible (first | assumption | intro _ | apply State.setSeg_keeps | apply Run.comp_keeps | apply keeps_ite | apply keeps_ite_fst | apply keeps_foldl | apply keeps_foldl_fst | split | (dsimp only; split) | apply keeps_with | apply swf_sset | apply swf_ssetMany | apply swf_filter | apply swf_foldl | apply swf_nil | apply swf_ite)

theorem State.deflExpiry_keeps (z : State) (s : State) (i : Nat) (hz : Keeps z s) : Keeps z (State.deflExpiry s i) := by
  unfold State.deflExpiry
  repeat' with_reducible (first | assumption | intro _ | apply State.setSeg_keeps | apply keeps_ite | apply keeps_ite_fst | apply keeps_foldl | apply keeps_foldl_fst | split | (dsimp only; split) | apply keeps_with | apply swf_sset | apply swf_ssetMany | apply swf_filter | apply swf_foldl | apply swf_nil | apply swf_ite)

theorem State.publishPose_keeps (z : State) (s : State) (rec : List Byte) (hz : Keeps z s) : Keeps z (State.publishPose s rec) := by
  unfold State.publishPose
  repeat' with_reducible (first | assumption | intro _ | apply State.setReg_keeps | apply State.streamRole_keeps | apply keeps_ite | apply keeps_ite_fst | apply keeps_foldl | apply keeps_foldl_fst | split | (dsimp only; split) | apply keeps_with | apply swf_sset | apply swf_ssetMany | apply swf_filter | apply swf_foldl | apply swf_nil | apply swf_ite)

theorem State.propagate_keeps (z : State) (s : State) (te : Time) (hz : Keeps z s) : Keeps z (State.propagate s te) := by
  unfold State.propagate
  repeat' with_reducible (first | assumption | intro _ | apply State.raiseIf_keeps | apply State.freeQuat_keeps | apply Run.comp_keeps | apply keeps_ite | apply keeps_ite_fst | apply keeps_foldl | apply keeps_foldl_fst | split | (dsimp only; split) | apply keeps_with | apply swf_sset | apply swf_ssetMany | apply swf_filter | apply swf_foldl | apply swf_nil | apply swf_ite)

theorem State.velocity_keeps (z : State) (s : State) (hz : Keeps z s) : Keeps z (State.velocity s) := by
  unfold State.velocity
  repeat' with_reducible (first | assumption | intro _ | apply Run.st_keeps | apply State.tick_keeps | apply keeps_ite | apply keeps_ite_fst | apply keeps_foldl | apply keeps_foldl_fst | split | (dsimp only; split) | apply keeps_with | apply swf_sset | apply swf_ssetMany | apply swf_filter | apply swf_foldl | apply swf_nil | apply swf_ite)

theorem State.epochAt_keeps (z : State) (s : State) (te : Time) (missed : Nat) (hz : Keeps z s) : Keeps z (State.epochAt s te missed) := by
  unfold State.epochAt
  repeat' with_reducible (first | assumption | intro _ | apply State.propagate_keeps | apply State.applyFix_keeps | apply State.poSelect_keeps | apply State.velocity_keeps | apply State.missed_keeps | apply State.growAtt_keeps | apply State.growOnce_keeps | apply State.segUpdate_keeps | apply State.take_keeps | apply State.publishPose_keeps | apply State.count_keeps | apply keeps_ite | apply keeps_ite_fst | apply keeps_foldl | apply keeps_foldl_fst | split | (dsimp only; split) | apply keeps_with | apply swf_sset | apply swf_ssetMany | apply swf_filter | apply swf_foldl | apply swf_nil | apply swf_ite)

theorem State.poseEpoch_keeps (z : State) (s : State) (hz : Keeps z s) : Keeps z (State.poseEpoch s) := by
  unfold State.poseEpoch
  repeat' with_reducible (first | assumption | intro _ | apply State.missed_keeps | apply State.epochAt_keeps | apply keeps_ite | apply keeps_ite_fst | apply keeps_foldl | apply keeps_foldl_fst | split | (dsimp only; split) | apply keeps_with | apply swf_sset | apply swf_ssetMany | apply swf_filter | apply swf_foldl | apply swf_nil | apply swf_ite)

theorem State.submitFix_keeps (z : State) (s : State) (f : FixIn) (hz : Keeps z s) : Keeps z (State.submitFix s f) := by
  unfold State.submitFix
  repeat' with_reducible (first | assumption | intro _ | apply keeps_ite | apply keeps_ite_fst | apply keeps_foldl | apply keeps_foldl_fst | split | (dsimp only; split) | apply keeps_with | apply swf_sset | apply swf_ssetMany | apply swf_filter | apply swf_foldl | apply swf_nil | apply swf_ite)

theorem State.fixLost_keeps (z : State) (s : State) (hz : Keeps z s) : Keeps z (State.fixLost s) := by
  unfold State.fixLost
  repeat' with_reducible (first | assumption | intro _ | apply State.raise_keeps | apply keeps_ite | apply keeps_ite_fst | apply keeps_foldl | apply keeps_foldl_fst | split | (dsimp only; split) | apply keeps_with | apply swf_sset | apply swf_ssetMany | apply swf_filter | apply swf_foldl | apply swf_nil | apply swf_ite)

theorem State.imuMaxExpiry_keeps (z : State) (s : State) (hz : Keeps z s) : Keeps z (State.imuMaxExpiry s) := by
  unfold State.imuMaxExpiry
  repeat' with_reducible (first | assumption | intro _ | apply State.poTo_keeps | apply keeps_ite | apply keeps_ite_fst | apply keeps_foldl | apply keeps_foldl_fst | split | (dsimp only; split) | apply keeps_with | apply swf_sset | apply swf_ssetMany | apply swf_filter | apply swf_foldl | apply swf_nil | apply swf_ite)

theorem State.imuCount_keeps (z : State) (s : State) (m : Nat) (g : ImuState) (good : Bool) (hz : Keeps z s) : Keeps z (State.imuCount s m g good) := by
  unfold State.imuCount
  repeat' with_reducible (first | assumption | intro _ | apply State.setFld_keeps | apply keeps_ite | apply keeps_ite_fst | apply keeps_foldl | apply keeps_foldl_fst | split | (dsimp only; split) | apply keeps_with | apply swf_sset | apply swf_ssetMany | apply swf_filter | apply swf_foldl | apply swf_nil | apply swf_ite)

theorem State.imuTransfer_keeps (z : State) (s : State) (m : Nat) (ready : Bool) (bytes : List Byte) (trigger : Time) (hz : Keeps z s) : Keeps z (State.imuTransfer s m ready bytes trigger) := by
  unfold State.imuTransfer
  repeat' with_reducible (first | assumption | intro _ | apply State.ready_keeps | apply Run.comp_keeps | apply State.take_keeps | apply State.imuCount_keeps | apply keeps_ite | apply keeps_ite_fst | apply keeps_foldl | apply keeps_foldl_fst | split | (dsimp only; split) | apply keeps_with | apply swf_sset | apply swf_ssetMany | apply swf_filter | apply swf_foldl | apply swf_nil | apply swf_ite)

theorem State.imuDisagree_keeps (z : State) (s : State) (hz : Keeps z s) : Keeps z (State.imuDisagree s) := by
  unfold State.imuDisagree
  repeat' with_reducible (first | assumption | intro _ | apply State.raise_keeps | apply keeps_ite | apply keeps_ite_fst | apply keeps_foldl | apply keeps_foldl_fst | split | (dsimp only; split) | apply keeps_with | apply swf_sset | apply swf_ssetMany | apply swf_filter | apply swf_foldl | apply swf_nil | apply swf_ite)

theorem State.speedEdge_keeps (z : State) (s : State) (t : Time) (hz : Keeps z s) : Keeps z (State.speedEdge s t) := by
  unfold State.speedEdge
  repeat' with_reducible (first | assumption | intro _ | apply State.take_keeps | apply State.setFld_keeps | apply keeps_ite | apply keeps_ite_fst | apply keeps_foldl | apply keeps_foldl_fst | split | (dsimp only; split) | apply keeps_with | apply swf_sset | apply swf_ssetMany | apply swf_filter | apply swf_foldl | apply swf_nil | apply swf_ite)

theorem State.speedTimeout_keeps (z : State) (s : State) (hz : Keeps z s) : Keeps z (State.speedTimeout s) := by
  unfold State.speedTimeout
  repeat' with_reducible (first | assumption | intro _ | apply State.setFld_keeps | apply State.take_keeps | apply keeps_ite | apply keeps_ite_fst | apply keeps_foldl | apply keeps_foldl_fst | split | (dsimp only; split) | apply keeps_with | apply swf_sset | apply swf_ssetMany | apply swf_filter | apply swf_foldl | apply swf_nil | apply swf_ite)

theorem State.cpvUpdate_keeps (z : State) (s : State) (cs : List CpvIn) (hz : Keeps z s) : Keeps z (State.cpvUpdate s cs) := by
  unfold State.cpvUpdate
  repeat' with_reducible (first | assumption | intro _ | apply State.raiseIf_keeps | apply State.setBit_keeps | apply keeps_ite | apply keeps_ite_fst | apply keeps_foldl | apply keeps_foldl_fst | split | (dsimp only; split) | apply keeps_with | apply swf_sset | apply swf_ssetMany | apply swf_filter | apply swf_foldl | apply swf_nil | apply swf_ite)

theorem State.baselineUpdate_keeps (z : State) (s : State) (bs : List BlIn) (hz : Keeps z s) : Keeps z (State.baselineUpdate s bs) := by
  unfold State.baselineUpdate
  repeat' with_reducible (first | assumption | intro _ | apply State.setBaselines_keeps | apply keeps_ite | apply keeps_ite_fst | apply keeps_foldl | apply keeps_foldl_fst | split | (dsimp only; split) | apply keeps_with | apply swf_sset | apply swf_ssetMany | apply swf_filter | apply swf_foldl | apply swf_nil | apply swf_ite)

theorem State.measurementEpoch_keeps (z : State) (s : State) (m : EpochIn) (hz : Keeps z s) : Keeps z (State.measurementEpoch s m) := by
  unfold State.measurementEpoch
  repeat' with_reducible (first | assumption | intro _ | apply State.observeAll_keeps | apply State.symbol_keeps | apply State.setFld_keeps | apply State.takeLeap_keeps | apply State.calFromGnss_keeps | apply State.cpvUpdate_keeps | apply State.baselineUpdate_keeps | apply State.allocate_keeps | apply keeps_ite | apply keeps_ite_fst | apply keeps_foldl | apply keeps_foldl_fst | split | (dsimp only; split) | apply keeps_with | apply swf_sset | apply swf_ssetMany | apply swf_filter | apply swf_foldl | apply swf_nil | apply swf_ite)

theorem State.imuOff_keeps (z : State) (s : State) (m : Nat) (hz : Keeps z s) : Keeps z (State.imuOff s m) := by
  unfold State.imuOff
  repeat' with_reducible (first | assumption | intro _ | apply State.setFld_keeps | apply keeps_ite | apply keeps_ite_fst | apply keeps_foldl | apply keeps_foldl_fst | split | (dsimp only; split) | apply keeps_with | apply swf_sset | apply swf_ssetMany | apply swf_filter | apply swf_foldl | apply swf_nil | apply swf_ite)

theorem State.poWrite_keeps (z : State) (s : State) (used : Nat → Bool) (a v : Nat) (hz : Keeps z s) : Keeps z (State.poWrite s used a v) := by
  unfold State.poWrite
  repeat' with_reducible (first | assumption | intro _ | apply State.raise_keeps | apply State.poCtrlWrite_keeps | apply State.writeCodes_keeps | apply State.setFld_keeps | apply State.imuOff_keeps | apply State.setSeg_keeps | apply State.speedTimeout_keeps | apply State.submitFix_keeps | apply keeps_ite | apply keeps_ite_fst | apply keeps_foldl | apply keeps_foldl_fst | split | (dsimp only; split) | apply keeps_with | apply swf_sset | apply swf_ssetMany | apply swf_filter | apply swf_foldl | apply swf_nil | apply swf_ite)

end Sys2Proof.Machine
end

