-- ==== Sys2Proof/Laws/KeepsMaps.lean ====
section
/-! SUPPORT. Every operation of Machine/Maps.lean keeps the variant, the queue and the canonical form of the register table. -/

namespace Sys2Proof.Machine

set_option linter.all false
set_option Elab.async false

theorem State.setCellWord_keeps (z : State) (s : State) (key v : Nat) (hz : Keeps z s) : Keeps z (State.setCellWord s key v) := by
  unfold State.setCellWord
  repeat' with_reducible (first | assumption | intro _ | apply keeps_ite | apply keeps_ite_fst | apply keeps_foldl | apply keeps_foldl_fst | split | (dsimp only; split) | apply keeps_with | apply swf_sset | apply swf_ssetMany | apply swf_filter | apply swf_foldl | apply swf_nil | apply swf_ite)

theorem State.tileLoad_keeps (z : State) (s : State) (k : Nat) (hz : Keeps z s) : Keeps z (State.tileLoad s k) := by
  unfold State.tileLoad
  repeat' with_reducible (first | assumption | intro _ | apply State.setFld_keeps | apply State.raise_keeps | apply keeps_ite | apply keeps_ite_fst | apply keeps_foldl | apply keeps_foldl_fst | split | (dsimp only; split) | apply keeps_with | apply swf_sset | apply swf_ssetMany | apply swf_filter | apply swf_foldl | apply swf_nil | apply swf_ite)
  all_goals (first | assumption | exact swf_filter _ _ ‹_›)

theorem State.tileCommit_keeps (z : State) (s : State) (k : Nat) (hz : Keeps z s) : Keeps z (State.tileCommit s k) := by
  unfold State.tileCommit
  repeat' with_reducible (first | assumption | intro _ | apply State.raise_keeps | apply State.setFld_keeps | apply keeps_ite | apply keeps_ite_fst | apply keeps_foldl | apply keeps_foldl_fst | split | (dsimp only; split) | apply keeps_with | apply swf_sset | apply swf_ssetMany | apply swf_filter | apply swf_foldl | apply swf_nil | apply swf_ite)
  all_goals (first | assumption | exact swf_filter _ _ ‹_›)

theorem State.tileFree_keeps (z : State) (s : State) (k : Nat) (hz : Keeps z s) : Keeps z (State.tileFree s k) := by
  unfold State.tileFree
  repeat' with_reducible (first | assumption | intro _ | apply State.setFld_keeps | apply keeps_ite | apply keeps_ite_fst | apply keeps_foldl | apply keeps_foldl_fst | split | (dsimp only; split) | apply keeps_with | apply swf_sset | apply swf_ssetMany | apply swf_filter | apply swf_foldl | apply swf_nil | apply swf_ite)
  all_goals (first | assumption | exact swf_filter _ _ ‹_›)

theorem State.tileEvict_keeps (z : State) (s : State) (k : Nat) (force : Bool) (hz : Keeps z s) : Keeps z (State.tileEvict s k force) := by
  unfold State.tileEvict
  repeat' with_reducible (first | assumption | intro _ | apply Run.st_keeps | apply State.tileFree_keeps | apply State.raise_keeps | apply State.setFld_keeps | apply keeps_ite | apply keeps_ite_fst | apply keeps_foldl | apply keeps_foldl_fst | split | (dsimp only; split) | apply keeps_with | apply swf_sset | apply swf_ssetMany | apply swf_filter | apply swf_foldl | apply swf_nil | apply swf_ite)
  all_goals (first | assumption | exact swf_filter _ _ ‹_›)

theorem State.apertureByte_keeps (z : State) (s : State) (off : Nat) (b : Byte) (hz : Keeps z s) : Keeps z (State.apertureByte s off b) := by
  unfold State.apertureByte
  repeat' with_reducible (first | assumption | intro _ | apply State.setCellWord_keeps | apply keeps_ite | apply keeps_ite_fst | apply keeps_foldl | apply keeps_foldl_fst | split | (dsimp only; split) | apply keeps_with | apply swf_sset | apply swf_ssetMany | apply swf_filter | apply swf_foldl | apply swf_nil | apply swf_ite)

theorem State.apertureWrite_keeps (z : State) (s : State) (off : Nat) (bs : List Byte) (hz : Keeps z s) : Keeps z (State.apertureWrite s off bs) := by
  unfold State.apertureWrite
  repeat' with_reducible (first | assumption | intro _ | apply State.raise_keeps | apply State.apertureByte_keeps | apply keeps_ite | apply keeps_ite_fst | apply keeps_foldl | apply keeps_foldl_fst | split | (dsimp only; split) | apply keeps_with | apply swf_sset | apply swf_ssetMany | apply swf_filter | apply swf_foldl | apply swf_nil | apply swf_ite)

theorem State.tileFillDone_keeps (z : State) (s : State) (k : Nat) (hz : Keeps z s) : Keeps z (State.tileFillDone s k) := by
  unfold State.tileFillDone
  repeat' with_reducible (first | assumption | intro _ | apply State.setFld_keeps | apply State.apertureWrite_keeps | apply keeps_ite | apply keeps_ite_fst | apply keeps_foldl | apply keeps_foldl_fst | split | (dsimp only; split) | apply keeps_with | apply swf_sset | apply swf_ssetMany | apply swf_filter | apply swf_foldl | apply swf_nil | apply swf_ite)

theorem State.tileFrame_keeps (z : State) (s : State) (hz : Keeps z s) : Keeps z (State.tileFrame s) := by
  unfold State.tileFrame
  repeat' with_reducible (first | assumption | intro _ | apply State.tileFree_keeps | apply State.setFld_keeps | apply keeps_ite | apply keeps_ite_fst | apply keeps_foldl | apply keeps_foldl_fst | split | (dsimp only; split) | apply keeps_with | apply swf_sset | apply swf_ssetMany | apply swf_filter | apply swf_foldl | apply swf_nil | apply swf_ite)
  all_goals (first | assumption | exact swf_filter _ _ ‹_›)

theorem State.mergeCells_keeps (z : State) (s : State) (k old : Nat) (hz : Keeps z s) : Keeps z (State.mergeCells s k old) := by
  unfold State.mergeCells
  repeat' with_reducible (first | assumption | intro _ | apply State.setCellWord_keeps | apply keeps_ite | apply keeps_ite_fst | apply keeps_foldl | apply keeps_foldl_fst | split | (dsimp only; split) | apply keeps_with | apply swf_sset | apply swf_ssetMany | apply swf_filter | apply swf_foldl | apply swf_nil | apply swf_ite)

theorem State.mergeDone_keeps (z : State) (s : State) (k : Nat) (hz : Keeps z s) : Keeps z (State.mergeDone s k) := by
  unfold State.mergeDone
  repeat' with_reducible (first | assumption | intro _ | apply State.mergeCells_keeps | apply State.setFld_keeps | apply State.tileFree_keeps | apply keeps_ite | apply keeps_ite_fst | apply keeps_foldl | apply keeps_foldl_fst | split | (dsimp only; split) | apply keeps_with | apply swf_sset | apply swf_ssetMany | apply swf_filter | apply swf_foldl | apply swf_nil | apply swf_ite)

theorem State.tileBad_keeps (z : State) (s : State) (k : Nat) (hz : Keeps z s) : Keeps z (State.tileBad s k) := by
  unfold State.tileBad
  repeat' with_reducible (first | assumption | intro _ | apply State.setFld_keeps | apply State.raise_keeps | apply keeps_ite | apply keeps_ite_fst | apply keeps_foldl | apply keeps_foldl_fst | split | (dsimp only; split) | apply keeps_with | apply swf_sset | apply swf_ssetMany | apply swf_filter | apply swf_foldl | apply swf_nil | apply swf_ite)
  all_goals (first | assumption | exact swf_filter _ _ ‹_›)

theorem State.addTrans_keeps (z : State) (s : State) (o : Nat) (opening : Bool) (t : Time) (hz : Keeps z s) : Keeps z (State.addTrans s o opening t) := by
  unfold State.addTrans
  repeat' with_reducible (first | assumption | intro _ | apply State.take_keeps | apply keeps_ite | apply keeps_ite_fst | apply keeps_foldl | apply keeps_foldl_fst | split | (dsimp only; split) | apply keeps_with | apply swf_sset | apply swf_ssetMany | apply swf_filter | apply swf_foldl | apply swf_nil | apply swf_ite)

theorem State.paintCell_keeps (z : State) (s : State) (l : Nat) (unsure : List Pt) (c : Pt) (hz : Keeps z s) : Keeps z (State.paintCell s l unsure c) := by
  unfold State.paintCell
  repeat' with_reducible (first | assumption | intro _ | apply State.bump_keeps | apply State.raise_keeps | apply State.setCellWord_keeps | apply State.setFbit_keeps | apply State.count_keeps | apply keeps_ite | apply keeps_ite_fst | apply keeps_foldl | apply keeps_foldl_fst | split | (dsimp only; split) | apply keeps_with | apply swf_sset | apply swf_ssetMany | apply swf_filter | apply swf_foldl | apply swf_nil | apply swf_ite)

theorem State.paintLost_keeps (z : State) (s : State) (n : Nat) (hz : Keeps z s) : Keeps z (State.paintLost s n) := by
  unfold State.paintLost
  repeat' with_reducible (first | assumption | intro _ | apply State.bump_keeps | apply State.raise_keeps | apply keeps_ite | apply keeps_ite_fst | apply keeps_foldl | apply keeps_foldl_fst | split | (dsimp only; split) | apply keeps_with | apply swf_sset | apply swf_ssetMany | apply swf_filter | apply swf_foldl | apply swf_nil | apply swf_ite)

theorem State.paintRaises_keeps (z : State) (s : State) (rs : List (Nat × List (List Pt × List Pt))) (hz : Keeps z s) : Keeps z (State.paintRaises s rs) := by
  unfold State.paintRaises
  repeat' with_reducible (first | assumption | intro _ | apply State.paintCell_keeps | apply keeps_ite | apply keeps_ite_fst | apply keeps_foldl | apply keeps_foldl_fst | split | (dsimp only; split) | apply keeps_with | apply swf_sset | apply swf_ssetMany | apply swf_filter | apply swf_foldl | apply swf_nil | apply swf_ite)

theorem State.setBrush_keeps (z : State) (s : State) (b : Brush) (hz : Keeps z s) : Keeps z (State.setBrush s b) := by
  unfold State.setBrush
  repeat' with_reducible (first | assumption | intro _ | apply keeps_ite | apply keeps_ite_fst | apply keeps_foldl | apply keeps_foldl_fst | split | (dsimp only; split) | apply keeps_with | apply swf_sset | apply swf_ssetMany | apply swf_filter | apply swf_foldl | apply swf_nil | apply swf_ite)

theorem State.paintInstant_keeps (z : State) (s : State) (tau : Time) (hz : Keeps z s) : Keeps z (State.paintInstant s tau) := by
  unfold State.paintInstant
  repeat' with_reducible (first | assumption | intro _ | apply State.paintLost_keeps | apply State.paintRaises_keeps | apply State.setBrush_keeps | apply keeps_ite | apply keeps_ite_fst | apply keeps_foldl | apply keeps_foldl_fst | split | (dsimp only; split) | apply keeps_with | apply swf_sset | apply swf_ssetMany | apply swf_filter | apply swf_foldl | apply swf_nil | apply swf_ite)

theorem State.paintBeyond_keeps (z : State) (s : State) (had : List (Nat × Pt)) (rs : List (Nat × List (List Pt × List Pt))) (hz : Keeps z s) : Keeps z (State.paintBeyond s had rs) := by
  unfold State.paintBeyond
  repeat' with_reducible (first | assumption | intro _ | apply State.erase_keeps | apply State.paintCell_keeps | apply keeps_ite | apply keeps_ite_fst | apply keeps_foldl | apply keeps_foldl_fst | split | (dsimp only; split) | apply keeps_with | apply swf_sset | apply swf_ssetMany | apply swf_filter | apply swf_foldl | apply swf_nil | apply swf_ite)

theorem State.backPaint_keeps (z : State) (s : State) (old : List (Nat × List (Bool × Time))) (taus : List Time) (hz : Keeps z s) : Keeps z (State.backPaint s old taus) := by
  unfold State.backPaint
  repeat' with_reducible (first | assumption | intro _ | apply State.paintBeyond_keeps | apply State.setBrush_keeps | apply keeps_ite | apply keeps_ite_fst | apply keeps_foldl | apply keeps_foldl_fst | split | (dsimp only; split) | apply keeps_with | apply swf_sset | apply swf_ssetMany | apply swf_filter | apply swf_foldl | apply swf_nil | apply swf_ite)

theorem State.lateSeal_keeps (z : State) (s : State) (o : Nat) (opening : Bool) (t : Time) (hz : Keeps z s) : Keeps z (State.lateSeal s o opening t) := by
  unfold State.lateSeal
  repeat' with_reducible (first | assumption | intro _ | apply State.addTrans_keeps | apply State.paintLost_keeps | apply State.backPaint_keeps | apply keeps_ite | apply keeps_ite_fst | apply keeps_foldl | apply keeps_foldl_fst | split | (dsimp only; split) | apply keeps_with | apply swf_sset | apply swf_ssetMany | apply swf_filter | apply swf_foldl | apply swf_nil | apply swf_ite)

theorem State.sections_keeps (z : State) (s : State) (tau : Time) (hz : Keeps z s) : Keeps z (State.sections s tau) := by
  unfold State.sections
  repeat' with_reducible (first | assumption | intro _ | apply State.setBit_keeps | apply State.setReg_keeps | apply keeps_ite | apply keeps_ite_fst | apply keeps_foldl | apply keeps_foldl_fst | split | (dsimp only; split) | apply keeps_with | apply swf_sset | apply swf_ssetMany | apply swf_filter | apply swf_foldl | apply swf_nil | apply swf_ite)

theorem State.painterRun_keeps (z : State) (s : State) (hz : Keeps z s) : Keeps z (State.painterRun s) := by
  unfold State.painterRun
  repeat' with_reducible (first | assumption | intro _ | apply Run.st_keeps | apply State.missed_keeps | apply State.sections_keeps | apply State.paintInstant_keeps | apply keeps_ite | apply keeps_ite_fst | apply keeps_foldl | apply keeps_foldl_fst | split | (dsimp only; split) | apply keeps_with | apply swf_sset | apply swf_ssetMany | apply swf_filter | apply swf_foldl | apply swf_nil | apply swf_ite)

theorem State.tileCtrlWrite_keeps (z : State) (s : State) (sup : Bool) (k v : Nat) (hz : Keeps z s) : Keeps z (State.tileCtrlWrite s sup k v) := by
  unfold State.tileCtrlWrite
  repeat' with_reducible (first | assumption | intro _ | apply State.setFld_keeps | apply State.tileLoad_keeps | apply State.tileCommit_keeps | apply State.tileEvict_keeps | apply keeps_ite | apply keeps_ite_fst | apply keeps_foldl | apply keeps_foldl_fst | split | (dsimp only; split) | apply keeps_with | apply swf_sset | apply swf_ssetMany | apply swf_filter | apply swf_foldl | apply swf_nil | apply swf_ite)

theorem State.rateCommit_keeps (z : State) (s : State) (v : Nat) (hz : Keeps z s) : Keeps z (State.rateCommit s v) := by
  unfold State.rateCommit
  repeat' with_reducible (first | assumption | intro _ | apply State.setFld_keeps | apply keeps_ite | apply keeps_ite_fst | apply keeps_foldl | apply keeps_foldl_fst | split | (dsimp only; split) | apply keeps_with | apply swf_sset | apply swf_ssetMany | apply swf_filter | apply swf_foldl | apply swf_nil | apply swf_ite)

theorem State.rateFrame_keeps (z : State) (s : State) (hz : Keeps z s) : Keeps z (State.rateFrame s) := by
  unfold State.rateFrame
  repeat' with_reducible (first | assumption | intro _ | apply State.setFld_keeps | apply State.setFbit_keeps | apply keeps_ite | apply keeps_ite_fst | apply keeps_foldl | apply keeps_foldl_fst | split | (dsimp only; split) | apply keeps_with | apply swf_sset | apply swf_ssetMany | apply swf_filter | apply swf_foldl | apply swf_nil | apply swf_ite)

theorem State.mapWrite_keeps (z : State) (s : State) (sup : Bool) (a v : Nat) (hz : Keeps z s) : Keeps z (State.mapWrite s sup a v) := by
  unfold State.mapWrite
  repeat' with_reducible (first | assumption | intro _ | apply State.raise_keeps | apply State.writeCodes_keeps | apply State.setFld_keeps | apply State.rateCommit_keeps | apply State.tileCtrlWrite_keeps | apply State.setReg_keeps | apply keeps_ite | apply keeps_ite_fst | apply keeps_foldl | apply keeps_foldl_fst | split | (dsimp only; split) | apply keeps_with | apply swf_sset | apply swf_ssetMany | apply swf_filter | apply swf_foldl | apply swf_nil | apply swf_ite)

end Sys2Proof.Machine
end

