-- ==== Sys2Proof/Laws/KeepsDrive.lean ====
section
/-! SUPPORT. Every operation of Machine/Drive.lean keeps the variant, the queue and the canonical form of the register table. -/

namespace Sys2Proof.Machine

set_option linter.all false
set_option Elab.async false

theorem State.setValve_keeps (z : State) (s : State) (n : Nat) (v : ValveState) (hz : Keeps z s) : Keeps z (State.setValve s n v) := by
  unfold State.setValve
  repeat' with_reducible (first | assumption | intro _ | apply keeps_ite | apply keeps_ite_fst | apply keeps_foldl | apply keeps_foldl_fst | split | (dsimp only; split) | apply keeps_with | apply swf_sset | apply swf_ssetMany | apply swf_filter | apply swf_foldl | apply swf_nil | apply swf_ite)

theorem State.vTo_keeps (z : State) (s0 : State) (n st ph : Nat) (hz : Keeps z s0) : Keeps z (State.vTo s0 n st ph) := by
  unfold State.vTo
  repeat' with_reducible (first | assumption | intro _ | apply State.setValve_keeps | apply Run.st_keeps | apply State.setFld_keeps | apply keeps_ite | apply keeps_ite_fst | apply keeps_foldl | apply keeps_foldl_fst | split | (dsimp only; split) | apply keeps_with | apply swf_sset | apply swf_ssetMany | apply swf_filter | apply swf_foldl | apply swf_nil | apply swf_ite)

theorem State.cutWins_keeps (z : State) (s : State) (n : Nat) (t : Time) (hz : Keeps z s) : Keeps z (State.cutWins s n t) := by
  unfold State.cutWins
  repeat' with_reducible (first | assumption | intro _ | apply State.setValve_keeps | apply keeps_ite | apply keeps_ite_fst | apply keeps_foldl | apply keeps_foldl_fst | split | (dsimp only; split) | apply keeps_with | apply swf_sset | apply swf_ssetMany | apply swf_filter | apply swf_foldl | apply swf_nil | apply swf_ite)

theorem State.spoilWins_keeps (z : State) (s : State) (n : Nat) (hz : Keeps z s) : Keeps z (State.spoilWins s n) := by
  unfold State.spoilWins
  repeat' with_reducible (first | assumption | intro _ | apply State.setValve_keeps | apply keeps_ite | apply keeps_ite_fst | apply keeps_foldl | apply keeps_foldl_fst | split | (dsimp only; split) | apply keeps_with | apply swf_sset | apply swf_ssetMany | apply swf_filter | apply swf_foldl | apply swf_nil | apply swf_ite)

theorem State.vOpen_keeps (z : State) (s : State) (n : Nat) (hz : Keeps z s) : Keeps z (State.vOpen s n) := by
  unfold State.vOpen
  repeat' with_reducible (first | assumption | intro _ | apply State.vTo_keeps | apply keeps_ite | apply keeps_ite_fst | apply keeps_foldl | apply keeps_foldl_fst | split | (dsimp only; split) | apply keeps_with | apply swf_sset | apply swf_ssetMany | apply swf_filter | apply swf_foldl | apply swf_nil | apply swf_ite)

theorem State.vClose_keeps (z : State) (s : State) (n after : Nat) (hz : Keeps z s) : Keeps z (State.vClose s n after) := by
  unfold State.vClose
  repeat' with_reducible (first | assumption | intro _ | apply Run.st_keeps | apply State.setValve_keeps | apply State.vTo_keeps | apply keeps_ite | apply keeps_ite_fst | apply keeps_foldl | apply keeps_foldl_fst | split | (dsimp only; split) | apply keeps_with | apply swf_sset | apply swf_ssetMany | apply swf_filter | apply swf_foldl | apply swf_nil | apply swf_ite)

theorem State.vFail_keeps (z : State) (s : State) (n : Nat) (bits : Nat) (latched : Bool) (hz : Keeps z s) : Keeps z (State.vFail s n bits latched) := by
  unfold State.vFail
  repeat' with_reducible (first | assumption | intro _ | apply State.setReg_keeps | apply State.raise_keeps | apply State.cutWins_keeps | apply State.spoilWins_keeps | apply State.setValve_keeps | apply State.vClose_keeps | apply keeps_ite | apply keeps_ite_fst | apply keeps_foldl | apply keeps_foldl_fst | split | (dsimp only; split) | apply keeps_with | apply swf_sset | apply swf_ssetMany | apply swf_filter | apply swf_foldl | apply swf_nil | apply swf_ite)

theorem State.prefluxStop_keeps (z : State) (s : State) (entry : Nat) (hz : Keeps z s) : Keeps z (State.prefluxStop s entry) := by
  unfold State.prefluxStop
  repeat' with_reducible (first | assumption | intro _ | apply State.vClose_keeps | apply keeps_ite | apply keeps_ite_fst | apply keeps_foldl | apply keeps_foldl_fst | split | (dsimp only; split) | apply keeps_with | apply swf_sset | apply swf_ssetMany | apply swf_filter | apply swf_foldl | apply swf_nil | apply swf_ite)

theorem State.decayed_keeps (z : State) (s : State) (n : Nat) (hz : Keeps z s) : Keeps z (State.decayed s n) := by
  unfold State.decayed
  repeat' with_reducible (first | assumption | intro _ | apply State.vTo_keeps | apply keeps_ite | apply keeps_ite_fst | apply keeps_foldl | apply keeps_foldl_fst | split | (dsimp only; split) | apply keeps_with | apply swf_sset | apply swf_ssetMany | apply swf_filter | apply swf_foldl | apply swf_nil | apply swf_ite)

theorem State.phaseEnd_keeps (z : State) (s : State) (n : Nat) (peak now : Int) (hz : Keeps z s) : Keeps z (State.phaseEnd s n peak now) := by
  unfold State.phaseEnd
  repeat' with_reducible (first | assumption | intro _ | apply Run.st_keeps | apply State.decayed_keeps | apply State.setValve_keeps | apply State.vFail_keeps | apply State.vTo_keeps | apply keeps_ite | apply keeps_ite_fst | apply keeps_foldl | apply keeps_foldl_fst | split | (dsimp only; split) | apply keeps_with | apply swf_sset | apply swf_ssetMany | apply swf_filter | apply swf_foldl | apply swf_nil | apply swf_ite)

theorem State.overCurrent_keeps (z : State) (s : State) (n : Nat) (hz : Keeps z s) : Keeps z (State.overCurrent s n) := by
  unfold State.overCurrent
  repeat' with_reducible (first | assumption | intro _ | apply State.vFail_keeps | apply keeps_ite | apply keeps_ite_fst | apply keeps_foldl | apply keeps_foldl_fst | split | (dsimp only; split) | apply keeps_with | apply swf_sset | apply swf_ssetMany | apply swf_filter | apply swf_foldl | apply swf_nil | apply swf_ite)

theorem State.setUnit_keeps (z : State) (s : State) (u : Nat) (x : UnitState) (hz : Keeps z s) : Keeps z (State.setUnit s u x) := by
  unfold State.setUnit
  repeat' with_reducible (first | assumption | intro _ | apply keeps_ite | apply keeps_ite_fst | apply keeps_foldl | apply keeps_foldl_fst | split | (dsimp only; split) | apply keeps_with | apply swf_sset | apply swf_ssetMany | apply swf_filter | apply swf_foldl | apply swf_nil | apply swf_ite)

theorem State.beginPulse_keeps (z : State) (s : State) (n : Nat) (t : Time) (hz : Keeps z s) : Keeps z (State.beginPulse s n t) := by
  unfold State.beginPulse
  repeat' with_reducible (first | assumption | intro _ | apply State.setValve_keeps | apply keeps_ite | apply keeps_ite_fst | apply keeps_foldl | apply keeps_foldl_fst | split | (dsimp only; split) | apply keeps_with | apply swf_sset | apply swf_ssetMany | apply swf_filter | apply swf_foldl | apply swf_nil | apply swf_ite)

theorem State.loadDuty_keeps (z : State) (s : State) (u d : Nat) (hz : Keeps z s) : Keeps z (State.loadDuty s u d) := by
  unfold State.loadDuty
  repeat' with_reducible (first | assumption | intro _ | apply State.setFld_keeps | apply State.setBit_keeps | apply State.setValve_keeps | apply keeps_ite | apply keeps_ite_fst | apply keeps_foldl | apply keeps_foldl_fst | split | (dsimp only; split) | apply keeps_with | apply swf_sset | apply swf_ssetMany | apply swf_filter | apply swf_foldl | apply swf_nil | apply swf_ite)

theorem State.loadUnit_keeps (z : State) (s : State) (u sp : Nat) (hz : Keeps z s) : Keeps z (State.loadUnit s u sp).1 := by
  unfold State.loadUnit
  repeat' with_reducible (first | assumption | intro _ | apply State.loadDuty_keeps | apply State.setUnit_keeps | apply State.setFld_keeps | apply keeps_ite | apply keeps_ite_fst | apply keeps_foldl | apply keeps_foldl_fst | split | (dsimp only; split) | apply keeps_with | apply swf_sset | apply swf_ssetMany | apply swf_filter | apply swf_foldl | apply swf_nil | apply swf_ite)

theorem State.loadUnits_keeps (z : State) (s : State) (us : List Nat) (sp : Nat) (err : Bool) (hz : Keeps z s) : Keeps z (State.loadUnits s us sp err) := by
  unfold State.loadUnits
  repeat' with_reducible (first | assumption | intro _ | apply State.loadUnit_keeps | apply State.raiseIf_keeps | apply keeps_ite | apply keeps_ite_fst | apply keeps_foldl | apply keeps_foldl_fst | split | (dsimp only; split) | apply keeps_with | apply swf_sset | apply swf_ssetMany | apply swf_filter | apply swf_foldl | apply swf_nil | apply swf_ite)

theorem State.loadAll_keeps (z : State) (s : State) (sup : Bool) (k v : Nat) (hz : Keeps z s) : Keeps z (State.loadAll s sup k v) := by
  unfold State.loadAll
  repeat' with_reducible (first | assumption | intro _ | apply State.loadUnits_keeps | apply keeps_ite | apply keeps_ite_fst | apply keeps_foldl | apply keeps_foldl_fst | split | (dsimp only; split) | apply keeps_with | apply swf_sset | apply swf_ssetMany | apply swf_filter | apply swf_foldl | apply swf_nil | apply swf_ite)

theorem State.loadAllAux_keeps (z : State) (s : State) (sup : Bool) (v : Nat) (hz : Keeps z s) : Keeps z (State.loadAllAux s sup v) := by
  unfold State.loadAllAux
  repeat' with_reducible (first | assumption | intro _ | apply State.loadUnits_keeps | apply State.raise_keeps | apply keeps_ite | apply keeps_ite_fst | apply keeps_foldl | apply keeps_foldl_fst | split | (dsimp only; split) | apply keeps_with | apply swf_sset | apply swf_ssetMany | apply swf_filter | apply swf_foldl | apply swf_nil | apply swf_ite)

theorem State.superPeriod_keeps (z : State) (s : State) (hz : Keeps z s) : Keeps z (State.superPeriod s) := by
  unfold State.superPeriod
  repeat' with_reducible (first | assumption | intro _ | apply State.setUnit_keeps | apply State.setFld_keeps | apply State.syncPulse_keeps | apply keeps_ite | apply keeps_ite_fst | apply keeps_foldl | apply keeps_foldl_fst | split | (dsimp only; split) | apply keeps_with | apply swf_sset | apply swf_ssetMany | apply swf_filter | apply swf_foldl | apply swf_nil | apply swf_ite)

theorem State.senseTest_keeps (z : State) (s : State) (n : Nat) (mv : Int) (hz : Keeps z s) : Keeps z (State.senseTest s n mv) := by
  unfold State.senseTest
  repeat' with_reducible (first | assumption | intro _ | apply State.setValve_keeps | apply State.setBit_keeps | apply State.setFld_keeps | apply State.raise_keeps | apply keeps_ite | apply keeps_ite_fst | apply keeps_foldl | apply keeps_foldl_fst | split | (dsimp only; split) | apply keeps_with | apply swf_sset | apply swf_ssetMany | apply swf_filter | apply swf_foldl | apply swf_nil | apply swf_ite)

theorem State.reachMark_keeps (z : State) (s : State) (n : Nat) (samples : List Int) (hz : Keeps z s) : Keeps z (State.reachMark s n samples) := by
  unfold State.reachMark
  repeat' with_reducible (first | assumption | intro _ | apply Run.st_keeps | apply State.setValve_keeps | apply keeps_ite | apply keeps_ite_fst | apply keeps_foldl | apply keeps_foldl_fst | split | (dsimp only; split) | apply keeps_with | apply swf_sset | apply swf_ssetMany | apply swf_filter | apply swf_foldl | apply swf_nil | apply swf_ite)

theorem State.sampled_keeps (z : State) (s : State) (n : Nat) (samples : List Int) (mv : Int) (hz : Keeps z s) : Keeps z (State.sampled s n samples mv) := by
  unfold State.sampled
  repeat' with_reducible (first | assumption | intro _ | apply State.setSfld_keeps | apply keeps_ite | apply keeps_ite_fst | apply keeps_foldl | apply keeps_foldl_fst | split | (dsimp only; split) | apply keeps_with | apply swf_sset | apply swf_ssetMany | apply swf_filter | apply swf_foldl | apply swf_nil | apply swf_ite)

theorem State.heated_keeps (z : State) (s : State) (n : Nat) (samples : List Int) (hz : Keeps z s) : Keeps z (State.heated s n samples).1 := by
  unfold State.heated
  repeat' with_reducible (first | assumption | intro _ | apply State.setValve_keeps | apply keeps_ite | apply keeps_ite_fst | apply keeps_foldl | apply keeps_foldl_fst | split | (dsimp only; split) | apply keeps_with | apply swf_sset | apply swf_ssetMany | apply swf_filter | apply swf_foldl | apply swf_nil | apply swf_ite)

theorem State.dutyWindow_keeps (z : State) (s : State) (n : Nat) (samples : List Int) (mv : Int) (hz : Keeps z s) : Keeps z (State.dutyWindow s n samples mv) := by
  unfold State.dutyWindow
  repeat' with_reducible (first | assumption | intro _ | apply State.setValve_keeps | apply State.reachMark_keeps | apply State.sampled_keeps | apply State.heated_keeps | apply Run.lim_keeps | apply State.setFld_keeps | apply State.raiseIf_keeps | apply State.vClose_keeps | apply State.vFail_keeps | apply State.vTo_keeps | apply keeps_ite | apply keeps_ite_fst | apply keeps_foldl | apply keeps_foldl_fst | split | (dsimp only; split) | apply keeps_with | apply swf_sset | apply swf_ssetMany | apply swf_filter | apply swf_foldl | apply swf_nil | apply swf_ite)

theorem State.unlatch_keeps (z : State) (s : State) (n : Nat) (hz : Keeps z s) : Keeps z (State.unlatch s n) := by
  unfold State.unlatch
  repeat' with_reducible (first | assumption | intro _ | apply State.setValve_keeps | apply State.vTo_keeps | apply keeps_ite | apply keeps_ite_fst | apply keeps_foldl | apply keeps_foldl_fst | split | (dsimp only; split) | apply keeps_with | apply swf_sset | apply swf_ssetMany | apply swf_filter | apply swf_foldl | apply swf_nil | apply swf_ite)

theorem State.tripSettle_keeps (z : State) (s : State) (hz : Keeps z s) : Keeps z (State.tripSettle s) := by
  unfold State.tripSettle
  repeat' with_reducible (first | assumption | intro _ | apply State.cutWins_keeps | apply State.setValve_keeps | apply keeps_ite | apply keeps_ite_fst | apply keeps_foldl | apply keeps_foldl_fst | split | (dsimp only; split) | apply keeps_with | apply swf_sset | apply swf_ssetMany | apply swf_filter | apply swf_foldl | apply swf_nil | apply swf_ite)

theorem State.tripFail_keeps (z : State) (s : State) (n : Nat) (hz : Keeps z s) : Keeps z (State.tripFail s n) := by
  unfold State.tripFail
  repeat' with_reducible (first | assumption | intro _ | apply State.vFail_keeps | apply State.setValve_keeps | apply keeps_ite | apply keeps_ite_fst | apply keeps_foldl | apply keeps_foldl_fst | split | (dsimp only; split) | apply keeps_with | apply swf_sset | apply swf_ssetMany | apply swf_filter | apply swf_foldl | apply swf_nil | apply swf_ite)

theorem State.tripAct_keeps (z : State) (s : State) (t : Nat) (cs : List Nat) (hz : Keeps z s) : Keeps z (State.tripAct s t cs) := by
  unfold State.tripAct
  repeat' with_reducible (first | assumption | intro _ | apply State.tripFail_keeps | apply State.setFld_keeps | apply State.tripSettle_keeps | apply keeps_ite | apply keeps_ite_fst | apply keeps_foldl | apply keeps_foldl_fst | split | (dsimp only; split) | apply keeps_with | apply swf_sset | apply swf_ssetMany | apply swf_filter | apply swf_foldl | apply swf_nil | apply swf_ite)

theorem State.tripOn_keeps (z : State) (s : State) (t : Nat) (hz : Keeps z s) : Keeps z (State.tripOn s t) := by
  unfold State.tripOn
  repeat' with_reducible (first | assumption | intro _ | apply State.raise_keeps | apply State.tripAct_keeps | apply keeps_ite | apply keeps_ite_fst | apply keeps_foldl | apply keeps_foldl_fst | split | (dsimp only; split) | apply keeps_with | apply swf_sset | apply swf_ssetMany | apply swf_filter | apply swf_foldl | apply swf_nil | apply swf_ite)

theorem State.tripAssert_keeps (z : State) (s : State) (t held : Nat) (hz : Keeps z s) : Keeps z (State.tripAssert s t held) := by
  unfold State.tripAssert
  repeat' with_reducible (first | assumption | intro _ | apply State.tripOn_keeps | apply keeps_ite | apply keeps_ite_fst | apply keeps_foldl | apply keeps_foldl_fst | split | (dsimp only; split) | apply keeps_with | apply swf_sset | apply swf_ssetMany | apply swf_filter | apply swf_foldl | apply swf_nil | apply swf_ite)

theorem State.tripDeassert_keeps (z : State) (s : State) (t : Nat) (hz : Keeps z s) : Keeps z (State.tripDeassert s t) := by
  unfold State.tripDeassert
  repeat' with_reducible (first | assumption | intro _ | apply State.tripSettle_keeps | apply keeps_ite | apply keeps_ite_fst | apply keeps_foldl | apply keeps_foldl_fst | split | (dsimp only; split) | apply keeps_with | apply swf_sset | apply swf_ssetMany | apply swf_filter | apply swf_foldl | apply swf_nil | apply swf_ite)

theorem State.tripCfg_keeps (z : State) (s : State) (t a v : Nat) (hz : Keeps z s) : Keeps z (State.tripCfg s t a v) := by
  unfold State.tripCfg
  repeat' with_reducible (first | assumption | intro _ | apply State.writeCodes_keeps | apply State.tripOn_keeps | apply State.tripSettle_keeps | apply keeps_ite | apply keeps_ite_fst | apply keeps_foldl | apply keeps_foldl_fst | split | (dsimp only; split) | apply keeps_with | apply swf_sset | apply swf_ssetMany | apply swf_filter | apply swf_foldl | apply swf_nil | apply swf_ite)

theorem State.tripMask_keeps (z : State) (s : State) (t k a v : Nat) (hz : Keeps z s) : Keeps z (State.tripMask s t k a v) := by
  unfold State.tripMask
  repeat' with_reducible (first | assumption | intro _ | apply State.writeCodes_keeps | apply State.tripAct_keeps | apply keeps_ite | apply keeps_ite_fst | apply keeps_foldl | apply keeps_foldl_fst | split | (dsimp only; split) | apply keeps_with | apply swf_sset | apply swf_ssetMany | apply swf_filter | apply swf_foldl | apply swf_nil | apply swf_ite)

theorem State.tripClear_keeps (z : State) (s : State) (t : Nat) (hz : Keeps z s) : Keeps z (State.tripClear s t) := by
  unfold State.tripClear
  repeat' with_reducible (first | assumption | intro _ | apply State.setFld_keeps | apply keeps_ite | apply keeps_ite_fst | apply keeps_foldl | apply keeps_foldl_fst | split | (dsimp only; split) | apply keeps_with | apply swf_sset | apply swf_ssetMany | apply swf_filter | apply swf_foldl | apply swf_nil | apply swf_ite)

theorem State.gateComp_keeps (z : State) (s : State) (die lambda : Nat) (hz : Keeps z s) : Keeps z (State.gateComp s die lambda) := by
  unfold State.gateComp
  repeat' with_reducible (first | assumption | intro _ | apply State.setFld_keeps | apply keeps_ite | apply keeps_ite_fst | apply keeps_foldl | apply keeps_foldl_fst | split | (dsimp only; split) | apply keeps_with | apply swf_sset | apply swf_ssetMany | apply swf_filter | apply swf_foldl | apply swf_nil | apply swf_ite)

theorem State.rampFrom_keeps (z : State) (s : State) (b meas : Nat) (hz : Keeps z s) : Keeps z (State.rampFrom s b meas) := by
  unfold State.rampFrom
  repeat' with_reducible (first | assumption | intro _ | apply State.setFld_keeps | apply State.setBit_keeps | apply keeps_ite | apply keeps_ite_fst | apply keeps_foldl | apply keeps_foldl_fst | split | (dsimp only; split) | apply keeps_with | apply swf_sset | apply swf_ssetMany | apply swf_filter | apply swf_foldl | apply swf_nil | apply swf_ite)

theorem State.bstSet_keeps (z : State) (s : State) (b v meas : Nat) (hz : Keeps z s) : Keeps z (State.bstSet s b v meas) := by
  unfold State.bstSet
  repeat' with_reducible (first | assumption | intro _ | apply State.raise_keeps | apply State.setFld_keeps | apply State.rampFrom_keeps | apply keeps_ite | apply keeps_ite_fst | apply keeps_foldl | apply keeps_foldl_fst | split | (dsimp only; split) | apply keeps_with | apply swf_sset | apply swf_ssetMany | apply swf_filter | apply swf_foldl | apply swf_nil | apply swf_ite)

theorem State.bstEn_keeps (z : State) (s : State) (b v meas : Nat) (hz : Keeps z s) : Keeps z (State.bstEn s b v meas) := by
  unfold State.bstEn
  repeat' with_reducible (first | assumption | intro _ | apply State.setFld_keeps | apply State.setBit_keeps | apply State.rampFrom_keeps | apply keeps_ite | apply keeps_ite_fst | apply keeps_foldl | apply keeps_foldl_fst | split | (dsimp only; split) | apply keeps_with | apply swf_sset | apply swf_ssetMany | apply swf_filter | apply swf_foldl | apply swf_nil | apply swf_ite)

theorem State.bstStep_keeps (z : State) (s : State) (b meas : Nat) (hz : Keeps z s) : Keeps z (State.bstStep s b meas) := by
  unfold State.bstStep
  repeat' with_reducible (first | assumption | intro _ | apply State.setFld_keeps | apply Run.st_keeps | apply State.setBit_keeps | apply keeps_ite | apply keeps_ite_fst | apply keeps_foldl | apply keeps_foldl_fst | split | (dsimp only; split) | apply keeps_with | apply swf_sset | apply swf_ssetMany | apply swf_filter | apply swf_foldl | apply swf_nil | apply swf_ite)

theorem State.bstOv_keeps (z : State) (s : State) (b : Nat) (hz : Keeps z s) : Keeps z (State.bstOv s b) := by
  unfold State.bstOv
  repeat' with_reducible (first | assumption | intro _ | apply State.setFld_keeps | apply State.raise_keeps | apply keeps_ite | apply keeps_ite_fst | apply keeps_foldl | apply keeps_foldl_fst | split | (dsimp only; split) | apply keeps_with | apply swf_sset | apply swf_ssetMany | apply swf_filter | apply swf_foldl | apply swf_nil | apply swf_ite)

theorem State.bstOvEnd_keeps (z : State) (s : State) (b : Nat) (hz : Keeps z s) : Keeps z (State.bstOvEnd s b) := by
  unfold State.bstOvEnd
  repeat' with_reducible (first | assumption | intro _ | apply State.setFld_keeps | apply keeps_ite | apply keeps_ite_fst | apply keeps_foldl | apply keeps_foldl_fst | split | (dsimp only; split) | apply keeps_with | apply swf_sset | apply swf_ssetMany | apply swf_filter | apply swf_foldl | apply swf_nil | apply swf_ite)

theorem State.bstLow_keeps (z : State) (s : State) (b : Nat) (hz : Keeps z s) : Keeps z (State.bstLow s b) := by
  unfold State.bstLow
  repeat' with_reducible (first | assumption | intro _ | apply State.setFld_keeps | apply State.raise_keeps | apply keeps_ite | apply keeps_ite_fst | apply keeps_foldl | apply keeps_foldl_fst | split | (dsimp only; split) | apply keeps_with | apply swf_sset | apply swf_ssetMany | apply swf_filter | apply swf_foldl | apply swf_nil | apply swf_ite)

theorem State.vSafe_keeps (z : State) (s : State) (n : Nat) (hz : Keeps z s) : Keeps z (State.vSafe s n) := by
  unfold State.vSafe
  repeat' with_reducible (first | assumption | intro _ | apply Run.st_keeps | apply State.cutWins_keeps | apply State.vOpen_keeps | apply State.setValve_keeps | apply State.vClose_keeps | apply keeps_ite | apply keeps_ite_fst | apply keeps_foldl | apply keeps_foldl_fst | split | (dsimp only; split) | apply keeps_with | apply swf_sset | apply swf_ssetMany | apply swf_filter | apply swf_foldl | apply swf_nil | apply swf_ite)

theorem State.valvesSafe_keeps (z : State) (s : State) (hz : Keeps z s) : Keeps z (State.valvesSafe s) := by
  unfold State.valvesSafe
  repeat' with_reducible (first | assumption | intro _ | apply State.vSafe_keeps | apply keeps_ite | apply keeps_ite_fst | apply keeps_foldl | apply keeps_foldl_fst | split | (dsimp only; split) | apply keeps_with | apply swf_sset | apply swf_ssetMany | apply swf_filter | apply swf_foldl | apply swf_nil | apply swf_ite)

theorem State.valvesStop_keeps (z : State) (s : State) (hz : Keeps z s) : Keeps z (State.valvesStop s) := by
  unfold State.valvesStop
  repeat' with_reducible (first | assumption | intro _ | apply Run.st_keeps | apply State.cutWins_keeps | apply State.spoilWins_keeps | apply State.vClose_keeps | apply State.setValve_keeps | apply keeps_ite | apply keeps_ite_fst | apply keeps_foldl | apply keeps_foldl_fst | split | (dsimp only; split) | apply keeps_with | apply swf_sset | apply swf_ssetMany | apply swf_filter | apply swf_foldl | apply swf_nil | apply swf_ite)

theorem State.valvesRelease_keeps (z : State) (s : State) (hz : Keeps z s) : Keeps z (State.valvesRelease s) := by
  unfold State.valvesRelease
  repeat' with_reducible (first | assumption | intro _ | apply State.vClose_keeps | apply State.setValve_keeps | apply keeps_ite | apply keeps_ite_fst | apply keeps_foldl | apply keeps_foldl_fst | split | (dsimp only; split) | apply keeps_with | apply swf_sset | apply swf_ssetMany | apply swf_filter | apply swf_foldl | apply swf_nil | apply swf_ite)

theorem State.driveUnpowered_keeps (z : State) (s : State) (hz : Keeps z s) : Keeps z (State.driveUnpowered s) := by
  unfold State.driveUnpowered
  repeat' with_reducible (first | assumption | intro _ | apply keeps_ite | apply keeps_ite_fst | apply keeps_foldl | apply keeps_foldl_fst | split | (dsimp only; split) | apply keeps_with | apply swf_sset | apply swf_ssetMany | apply swf_filter | apply swf_foldl | apply swf_nil | apply swf_ite)

theorem State.driveAlone_keeps (z : State) (s : State) (d : Nat) (hz : Keeps z s) : Keeps z (State.driveAlone s d) := by
  unfold State.driveAlone
  repeat' with_reducible (first | assumption | intro _ | apply State.setFld_keeps | apply State.vSafe_keeps | apply keeps_ite | apply keeps_ite_fst | apply keeps_foldl | apply keeps_foldl_fst | split | (dsimp only; split) | apply keeps_with | apply swf_sset | apply swf_ssetMany | apply swf_filter | apply swf_foldl | apply swf_nil | apply swf_ite)

theorem State.driveDieLost_keeps (z : State) (s : State) (d : Nat) (hz : Keeps z s) : Keeps z (State.driveDieLost s d) := by
  unfold State.driveDieLost
  repeat' with_reducible (first | assumption | intro _ | apply State.setFld_keeps | apply State.raise_keeps | apply State.vSafe_keeps | apply keeps_ite | apply keeps_ite_fst | apply keeps_foldl | apply keeps_foldl_fst | split | (dsimp only; split) | apply keeps_with | apply swf_sset | apply swf_ssetMany | apply swf_filter | apply swf_foldl | apply swf_nil | apply swf_ite)

theorem State.driveDieUp_keeps (z : State) (s : State) (d : Nat) (hz : Keeps z s) : Keeps z (State.driveDieUp s d) := by
  unfold State.driveDieUp
  repeat' with_reducible (first | assumption | intro _ | apply State.setFld_keeps | apply State.vSafe_keeps | apply keeps_ite | apply keeps_ite_fst | apply keeps_foldl | apply keeps_foldl_fst | split | (dsimp only; split) | apply keeps_with | apply swf_sset | apply swf_ssetMany | apply swf_filter | apply swf_foldl | apply swf_nil | apply swf_ite)

theorem State.unitWrite_keeps (z : State) (s : State) (u off v : Nat) (hz : Keeps z s) : Keeps z (State.unitWrite s u off v) := by
  unfold State.unitWrite
  repeat' with_reducible (first | assumption | intro _ | apply State.raise_keeps | apply State.setFld_keeps | apply keeps_ite | apply keeps_ite_fst | apply keeps_foldl | apply keeps_foldl_fst | split | (dsimp only; split) | apply keeps_with | apply swf_sset | apply swf_ssetMany | apply swf_filter | apply swf_foldl | apply swf_nil | apply swf_ite)

theorem State.vdWrite_keeps (z : State) (s : State) (sup : Bool) (a v : Nat) (hz : Keeps z s) : Keeps z (State.vdWrite s sup a v) := by
  unfold State.vdWrite
  repeat' with_reducible (first | assumption | intro _ | apply State.raise_keeps | apply State.loadAll_keeps | apply State.loadAllAux_keeps | apply State.bstEn_keeps | apply State.bstSet_keeps | apply State.writeCodes_keeps | apply State.tripCfg_keeps | apply State.tripClear_keeps | apply State.tripMask_keeps | apply State.unlatch_keeps | apply State.unitWrite_keeps | apply keeps_ite | apply keeps_ite_fst | apply keeps_foldl | apply keeps_foldl_fst | split | (dsimp only; split) | apply keeps_with | apply swf_sset | apply swf_ssetMany | apply swf_filter | apply swf_foldl | apply swf_nil | apply swf_ite)

end Sys2Proof.Machine
end

