-- ==== Sys2Proof/Laws/KeepsLedger.lean ====
section
/-! SUPPORT. Every operation of Machine/Ledger.lean keeps the variant, the queue and the canonical form of the register table. -/

namespace Sys2Proof.Machine

set_option linter.all false
set_option Elab.async false

theorem State.setEntry_keeps (z : State) (s : State) (i : Nat) (e : Entry) (hz : Keeps z s) : Keeps z (State.setEntry s i e) := by
  unfold State.setEntry
  repeat' with_reducible (first | assumption | intro _ | apply keeps_ite | apply keeps_ite_fst | apply keeps_foldl | apply keeps_foldl_fst | split | (dsimp only; split) | apply keeps_with | apply swf_sset | apply swf_ssetMany | apply swf_filter | apply swf_foldl | apply swf_nil | apply swf_ite)

theorem State.putSlot_keeps (z : State) (s : State) (i : Nat) (x : Option FireSlot) (hz : Keeps z s) : Keeps z (State.putSlot s i x) := by
  unfold State.putSlot
  repeat' with_reducible (first | assumption | intro _ | apply State.fire_keeps | apply keeps_ite | apply keeps_ite_fst | apply keeps_foldl | apply keeps_foldl_fst | split | (dsimp only; split) | apply keeps_with | apply swf_sset | apply swf_ssetMany | apply swf_filter | apply swf_foldl | apply swf_nil | apply swf_ite)

theorem State.reloadSlots_keeps (z : State) (s : State) (c : Nat) (hz : Keeps z s) : Keeps z (State.reloadSlots s c) := by
  unfold State.reloadSlots
  repeat' with_reducible (first | assumption | intro _ | apply State.fire_keeps | apply keeps_ite | apply keeps_ite_fst | apply keeps_foldl | apply keeps_foldl_fst | split | (dsimp only; split) | apply keeps_with | apply swf_sset | apply swf_ssetMany | apply swf_filter | apply swf_foldl | apply swf_nil | apply swf_ite)

theorem State.resweep_keeps (z : State) (s : State) (o : Nat) (hz : Keeps z s) : Keeps z (State.resweep s o) := by
  unfold State.resweep
  repeat' with_reducible (first | assumption | intro _ | apply keeps_ite | apply keeps_ite_fst | apply keeps_foldl | apply keeps_foldl_fst | split | (dsimp only; split) | apply keeps_with | apply swf_sset | apply swf_ssetMany | apply swf_filter | apply swf_foldl | apply swf_nil | apply swf_ite)

theorem State.bookEntry_keeps (z : State) (s : State) (e : Entry) (hz : Keeps z s) : Keeps z (State.bookEntry s e).1 := by
  unfold State.bookEntry
  repeat' with_reducible (first | assumption | intro _ | apply State.setEntry_keeps | apply State.reserve_keeps | apply State.count_keeps | apply State.resweep_keeps | apply State.bump_keeps | apply State.raise_keeps | apply keeps_ite | apply keeps_ite_fst | apply keeps_foldl | apply keeps_foldl_fst | split | (dsimp only; split) | apply keeps_with | apply swf_sset | apply swf_ssetMany | apply swf_filter | apply swf_foldl | apply swf_nil | apply swf_ite)

theorem State.deliver_keeps (z : State) (s : State) (i : Nat) (e : Entry) (hz : Keeps z s) : Keeps z (State.deliver s i e) := by
  unfold State.deliver
  repeat' with_reducible (first | assumption | intro _ | apply State.streamCtx_keeps | apply keeps_ite | apply keeps_ite_fst | apply keeps_foldl | apply keeps_foldl_fst | split | (dsimp only; split) | apply keeps_with | apply swf_sset | apply swf_ssetMany | apply swf_filter | apply swf_foldl | apply swf_nil | apply swf_ite)

theorem State.endEntry_keeps (z : State) (s : State) (i : Nat) (e : Entry) (hz : Keeps z s) : Keeps z (State.endEntry s i e) := by
  unfold State.endEntry
  repeat' with_reducible (first | assumption | intro _ | apply State.setEntry_keeps | apply State.deliver_keeps | apply keeps_ite | apply keeps_ite_fst | apply keeps_foldl | apply keeps_foldl_fst | split | (dsimp only; split) | apply keeps_with | apply swf_sset | apply swf_ssetMany | apply swf_filter | apply swf_foldl | apply swf_nil | apply swf_ite)

theorem State.cancelEntry_keeps (z : State) (s : State) (i : Nat) (cause : Nat) (hz : Keeps z s) : Keeps z (State.cancelEntry s i cause) := by
  unfold State.cancelEntry
  repeat' with_reducible (first | assumption | intro _ | apply Run.st_keeps | apply State.resweep_keeps | apply State.prefluxStop_keeps | apply State.endEntry_keeps | apply keeps_ite | apply keeps_ite_fst | apply keeps_foldl | apply keeps_foldl_fst | split | (dsimp only; split) | apply keeps_with | apply swf_sset | apply swf_ssetMany | apply swf_filter | apply swf_foldl | apply swf_nil | apply swf_ite)

theorem State.withdrawEntry_keeps (z : State) (s : State) (i : Nat) (cause : Nat) (hz : Keeps z s) : Keeps z (State.withdrawEntry s i cause) := by
  unfold State.withdrawEntry
  repeat' with_reducible (first | assumption | intro _ | apply Run.st_keeps | apply State.resweep_keeps | apply State.prefluxStop_keeps | apply State.putSlot_keeps | apply State.endEntry_keeps | apply keeps_ite | apply keeps_ite_fst | apply keeps_foldl | apply keeps_foldl_fst | split | (dsimp only; split) | apply keeps_with | apply swf_sset | apply swf_ssetMany | apply swf_filter | apply swf_foldl | apply swf_nil | apply swf_ite)

theorem State.withdraw_keeps (z : State) (s : State) (p : Entry → Bool) (cause path ctx first last : Nat) (hz : Keeps z s) : Keeps z (State.withdraw s p cause path ctx first last) := by
  unfold State.withdraw
  repeat' with_reducible (first | assumption | intro _ | apply Run.st_keeps | apply State.cancelEntry_keeps | apply State.withdrawEntry_keeps | apply State.canvas_keeps | apply State.raise_keeps | apply State.raiseIf_keeps | apply keeps_ite | apply keeps_ite_fst | apply keeps_foldl | apply keeps_foldl_fst | split | (dsimp only; split) | apply keeps_with | apply swf_sset | apply swf_ssetMany | apply swf_filter | apply swf_foldl | apply swf_nil | apply swf_ite)

theorem State.setOpen_keeps (z : State) (s : State) (o : Nat) (b : Bool) (hz : Keeps z s) : Keeps z (State.setOpen s o b) := by
  unfold State.setOpen
  repeat' with_reducible (first | assumption | intro _ | apply keeps_ite | apply keeps_ite_fst | apply keeps_foldl | apply keeps_foldl_fst | split | (dsimp only; split) | apply keeps_with | apply swf_sset | apply swf_ssetMany | apply swf_filter | apply swf_foldl | apply swf_nil | apply swf_ite)

theorem State.learn_keeps (z : State) (s : State) (kind o : Nat) (m : Int) (hz : Keeps z s) : Keeps z (State.learn s kind o m) := by
  unfold State.learn
  repeat' with_reducible (first | assumption | intro _ | apply Run.lim_keeps | apply Run.step_keeps | apply State.setFld_keeps | apply State.setBit_keeps | apply keeps_ite | apply keeps_ite_fst | apply keeps_foldl | apply keeps_foldl_fst | split | (dsimp only; split) | apply keeps_with | apply swf_sset | apply swf_ssetMany | apply swf_filter | apply swf_foldl | apply swf_nil | apply swf_ite)

theorem State.sealedEdge_keeps (z : State) (s : State) (kind o code : Nat) (due seat : Time) (hz : Keeps z s) : Keeps z (State.sealedEdge s kind o code due seat) := by
  unfold State.sealedEdge
  repeat' with_reducible (first | assumption | intro _ | apply State.setBit_keeps | apply State.setFld_keeps | apply State.lateSeal_keeps | apply keeps_ite | apply keeps_ite_fst | apply keeps_foldl | apply keeps_foldl_fst | split | (dsimp only; split) | apply keeps_with | apply swf_sset | apply swf_ssetMany | apply swf_filter | apply swf_foldl | apply swf_nil | apply swf_ite)

theorem State.sealEntry_keeps (z : State) (s : State) (i code : Nat) (seat : Option Time) (hz : Keeps z s) : Keeps z (State.sealEntry s i code seat) := by
  unfold State.sealEntry
  repeat' with_reducible (first | assumption | intro _ | apply Run.st_keeps | apply State.sealedEdge_keeps | apply State.learn_keeps | apply State.count_keeps | apply State.endEntry_keeps | apply keeps_ite | apply keeps_ite_fst | apply keeps_foldl | apply keeps_foldl_fst | split | (dsimp only; split) | apply keeps_with | apply swf_sset | apply swf_ssetMany | apply swf_filter | apply swf_foldl | apply swf_nil | apply swf_ite)

theorem State.lateEntry_keeps (z : State) (s : State) (i : Nat) (hz : Keeps z s) : Keeps z (State.lateEntry s i) := by
  unfold State.lateEntry
  repeat' with_reducible (first | assumption | intro _ | apply Run.st_keeps | apply State.resweep_keeps | apply State.prefluxStop_keeps | apply State.putSlot_keeps | apply State.bump_keeps | apply State.raise_keeps | apply State.count_keeps | apply State.endEntry_keeps | apply keeps_ite | apply keeps_ite_fst | apply keeps_foldl | apply keeps_foldl_fst | split | (dsimp only; split) | apply keeps_with | apply swf_sset | apply swf_ssetMany | apply swf_filter | apply swf_foldl | apply swf_nil | apply swf_ite)

end Sys2Proof.Machine
end

