-- ==== Sys2Proof/Laws/KeepsPlan.lean ====
section
/-! SUPPORT. Every operation of Machine/Plan.lean keeps the variant, the queue and the canonical form of the register table. -/

namespace Sys2Proof.Machine

set_option linter.all false
set_option Elab.async false

theorem State.pathProgress_keeps (z : State) (s : State) (hz : Keeps z s) : Keeps z (State.pathProgress s) := by
  unfold State.pathProgress
  repeat' with_reducible (first | assumption | intro _ | apply keeps_ite | apply keeps_ite_fst | apply keeps_foldl | apply keeps_foldl_fst | split | (dsimp only; split) | apply keeps_with | apply swf_sset | apply swf_ssetMany | apply swf_filter | apply swf_foldl | apply swf_nil | apply swf_ite)

theorem State.pathCommit_keeps (z : State) (s : State) (v : Nat) (hz : Keeps z s) : Keeps z (State.pathCommit s v) := by
  unfold State.pathCommit
  repeat' with_reducible (first | assumption | intro _ | apply State.raise_keeps | apply State.writeCodes_keeps | apply Run.comp_keeps | apply keeps_ite | apply keeps_ite_fst | apply keeps_foldl | apply keeps_foldl_fst | split | (dsimp only; split) | apply keeps_with | apply swf_sset | apply swf_ssetMany | apply swf_filter | apply swf_foldl | apply swf_nil | apply swf_ite)

theorem State.pathFrame_keeps (z : State) (s : State) (hz : Keeps z s) : Keeps z (State.pathFrame s) := by
  unfold State.pathFrame
  repeat' with_reducible (first | assumption | intro _ | apply State.setFld_keeps | apply keeps_ite | apply keeps_ite_fst | apply keeps_foldl | apply keeps_foldl_fst | split | (dsimp only; split) | apply keeps_with | apply swf_sset | apply swf_ssetMany | apply swf_filter | apply swf_foldl | apply swf_nil | apply swf_ite)

theorem State.writeBooking_keeps (z : State) (tk : Time) (s : State) (b : Booking) (hz : Keeps z s) : Keeps z (State.writeBooking tk s b) := by
  unfold State.writeBooking
  repeat' with_reducible (first | assumption | intro _ | apply Run.st_keeps | apply State.bump_keeps | apply State.raise_keeps | apply State.preflux_keeps | apply State.prefluxStop_keeps | apply State.setEntry_keeps | apply State.reserve_keeps | apply State.bookEntry_keeps | apply keeps_ite | apply keeps_ite_fst | apply keeps_foldl | apply keeps_foldl_fst | split | (dsimp only; split) | apply keeps_with | apply swf_sset | apply swf_ssetMany | apply swf_filter | apply swf_foldl | apply swf_nil | apply swf_ite)

theorem State.invalidClose_keeps (z : State) (tk : Time) (s : State) (o : Nat) (hz : Keeps z s) : Keeps z (State.invalidClose tk s o) := by
  unfold State.invalidClose
  repeat' with_reducible (first | assumption | intro _ | apply Run.st_keeps | apply State.bump_keeps | apply State.raise_keeps | apply State.bookEntry_keeps | apply keeps_ite | apply keeps_ite_fst | apply keeps_foldl | apply keeps_foldl_fst | split | (dsimp only; split) | apply keeps_with | apply swf_sset | apply swf_ssetMany | apply swf_filter | apply swf_foldl | apply swf_nil | apply swf_ite)

theorem State.invalidFrame_keeps (z : State) (s : State) (tk : Time) (hz : Keeps z s) : Keeps z (State.invalidFrame s tk) := by
  unfold State.invalidFrame
  repeat' with_reducible (first | assumption | intro _ | apply Run.st_keeps | apply State.cancelEntry_keeps | apply State.invalidClose_keeps | apply State.setFld_keeps | apply keeps_ite | apply keeps_ite_fst | apply keeps_foldl | apply keeps_foldl_fst | split | (dsimp only; split) | apply keeps_with | apply swf_sset | apply swf_ssetMany | apply swf_filter | apply swf_foldl | apply swf_nil | apply swf_ite)

theorem State.noteMissing_keeps (z : State) (s : State) (ts : List Pt) (hz : Keeps z s) : Keeps z (State.noteMissing s ts) := by
  unfold State.noteMissing
  repeat' with_reducible (first | assumption | intro _ | apply State.bump_keeps | apply State.raise_keeps | apply State.count_keeps | apply State.setSfld_keeps | apply keeps_ite | apply keeps_ite_fst | apply keeps_foldl | apply keeps_foldl_fst | split | (dsimp only; split) | apply keeps_with | apply swf_sset | apply swf_ssetMany | apply swf_filter | apply swf_foldl | apply swf_nil | apply swf_ite)

theorem State.noteNeeds_keeps (z : State) (s : State) (ts : List Pt) (hz : Keeps z s) : Keeps z (State.noteNeeds s ts) := by
  unfold State.noteNeeds
  repeat' with_reducible (first | assumption | intro _ | apply State.setSfld_keeps | apply State.setFld_keeps | apply keeps_ite | apply keeps_ite_fst | apply keeps_foldl | apply keeps_foldl_fst | split | (dsimp only; split) | apply keeps_with | apply swf_sset | apply swf_ssetMany | apply swf_filter | apply swf_foldl | apply swf_nil | apply swf_ite)

theorem State.validFrame_keeps (z : State) (s : State) (tk : Time) (h : PoseHist) (hz : Keeps z s) : Keeps z (State.validFrame s tk h) := by
  unfold State.validFrame
  repeat' with_reducible (first | assumption | intro _ | apply State.tick_keeps | apply State.raiseIf_keeps | apply State.setBit_keeps | apply State.count_keeps | apply State.bump_keeps | apply State.noteMissing_keeps | apply State.cancelEntry_keeps | apply State.writeBooking_keeps | apply State.noteNeeds_keeps | apply keeps_ite | apply keeps_ite_fst | apply keeps_foldl | apply keeps_foldl_fst | split | (dsimp only; split) | apply keeps_with | apply swf_sset | apply swf_ssetMany | apply swf_filter | apply swf_foldl | apply swf_nil | apply swf_ite)

theorem State.commitEntry_keeps (z : State) (s : State) (i : Nat) (e : Entry) (due : Time) (forced shifted : Bool) (hz : Keeps z s) : Keeps z (State.commitEntry s i e due forced shifted) := by
  unfold State.commitEntry
  repeat' with_reducible (first | assumption | intro _ | apply Run.st_keeps | apply State.setEntry_keeps | apply State.putSlot_keeps | apply State.bump_keeps | apply State.raise_keeps | apply State.count_keeps | apply keeps_ite | apply keeps_ite_fst | apply keeps_foldl | apply keeps_foldl_fst | split | (dsimp only; split) | apply keeps_with | apply swf_sset | apply swf_ssetMany | apply swf_filter | apply swf_foldl | apply swf_nil | apply swf_ite)

theorem State.withhold_keeps (z : State) (s : State) (i : Nat) (hz : Keeps z s) : Keeps z (State.withhold s i) := by
  unfold State.withhold
  repeat' with_reducible (first | assumption | intro _ | apply State.bump_keeps | apply State.raise_keeps | apply State.count_keeps | apply State.cancelEntry_keeps | apply keeps_ite | apply keeps_ite_fst | apply keeps_foldl | apply keeps_foldl_fst | split | (dsimp only; split) | apply keeps_with | apply swf_sset | apply swf_ssetMany | apply swf_filter | apply swf_foldl | apply swf_nil | apply swf_ite)

theorem State.degradeFrom_keeps (z : State) (s old : State) (hz : Keeps z s) : Keeps z (State.degradeFrom s old) := by
  unfold State.degradeFrom
  repeat' with_reducible (first | assumption | intro _ | apply Run.st_keeps | apply State.withhold_keeps | apply keeps_ite | apply keeps_ite_fst | apply keeps_foldl | apply keeps_foldl_fst | split | (dsimp only; split) | apply keeps_with | apply swf_sset | apply swf_ssetMany | apply swf_filter | apply swf_foldl | apply swf_nil | apply swf_ite)

theorem State.deadline_keeps (z : State) (s : State) (i : Nat) (e : Entry) (due1 te : Time) (hz : Keeps z s) : Keeps z (State.deadline s i e due1 te) := by
  unfold State.deadline
  repeat' with_reducible (first | assumption | intro _ | apply State.withhold_keeps | apply State.cancelEntry_keeps | apply State.commitEntry_keeps | apply keeps_ite | apply keeps_ite_fst | apply keeps_foldl | apply keeps_foldl_fst | split | (dsimp only; split) | apply keeps_with | apply swf_sset | apply swf_ssetMany | apply swf_filter | apply swf_foldl | apply swf_nil | apply swf_ite)

theorem State.commitOne_keeps (z : State) (h : PoseHist) (path : List Pred) (s : State) (i : Nat) (hz : Keeps z s) : Keeps z (State.commitOne h path s i) := by
  unfold State.commitOne
  repeat' with_reducible (first | assumption | intro _ | apply Run.st_keeps | apply State.withhold_keeps | apply State.deadline_keeps | apply State.commitEntry_keeps | apply State.preflux_keeps | apply State.prefluxStop_keeps | apply State.setEntry_keeps | apply State.bump_keeps | apply State.count_keeps | apply keeps_ite | apply keeps_ite_fst | apply keeps_foldl | apply keeps_foldl_fst | split | (dsimp only; split) | apply keeps_with | apply swf_sset | apply swf_ssetMany | apply swf_filter | apply swf_foldl | apply swf_nil | apply swf_ite)

theorem State.commitPass_keeps (z : State) (s : State) (hz : Keeps z s) : Keeps z (State.commitPass s) := by
  unfold State.commitPass
  repeat' with_reducible (first | assumption | intro _ | apply Run.st_keeps | apply State.take_keeps | apply State.commitOne_keeps | apply State.tick_keeps | apply keeps_ite | apply keeps_ite_fst | apply keeps_foldl | apply keeps_foldl_fst | split | (dsimp only; split) | apply keeps_with | apply swf_sset | apply swf_ssetMany | apply swf_filter | apply swf_foldl | apply swf_nil | apply swf_ite)

end Sys2Proof.Machine
end

