-- ==== Sys2Proof/Laws/KeepsLinks.lean ====
section
/-! SUPPORT. Every operation of Machine/Links.lean keeps the variant, the queue and the canonical form of the register table. -/

namespace Sys2Proof.Machine

set_option linter.all false
set_option Elab.async false

theorem State.setLink_keeps (z : State) (s : State) (l : Nat) (k : LinkState) (hz : Keeps z s) : Keeps z (State.setLink s l k) := by
  unfold State.setLink
  repeat' with_reducible (first | assumption | intro _ | apply keeps_ite | apply keeps_ite_fst | apply keeps_foldl | apply keeps_foldl_fst | split | (dsimp only; split) | apply keeps_with | apply swf_sset | apply swf_ssetMany | apply swf_filter | apply swf_foldl | apply swf_nil | apply swf_ite)

theorem State.linkRx_keeps (z : State) (s : State) (l type p : Nat) (payload : List Byte) (w : LinkRx) (f : State → State) (hz : Keeps z s) (hf : ∀ t, Keeps z t → Keeps z (f t)) : Keeps z (State.linkRx s l type p payload w f) := by
  unfold State.linkRx
  repeat' with_reducible (first | assumption | intro _ | apply hf | apply State.bump_keeps | apply keeps_ite | apply keeps_ite_fst | apply keeps_foldl | apply keeps_foldl_fst | split | (dsimp only; split) | apply keeps_with | apply swf_sset | apply swf_ssetMany | apply swf_filter | apply swf_foldl | apply swf_nil | apply swf_ite)

theorem State.refreshTargets_keeps (z : State) (s : State) (l p : Nat) (hz : Keeps z s) : Keeps z (State.refreshTargets s l p) := by
  unfold State.refreshTargets
  repeat' with_reducible (first | assumption | intro _ | apply State.setBit_keeps | apply keeps_ite | apply keeps_ite_fst | apply keeps_foldl | apply keeps_foldl_fst | split | (dsimp only; split) | apply keeps_with | apply swf_sset | apply swf_ssetMany | apply swf_filter | apply swf_foldl | apply swf_nil | apply swf_ite)

theorem State.linkCount_keeps (z : State) (s : State) (l : Nat) (hz : Keeps z s) : Keeps z (State.linkCount s l) := by
  unfold State.linkCount
  repeat' with_reducible (first | assumption | intro _ | apply State.setFld_keeps | apply keeps_ite | apply keeps_ite_fst | apply keeps_foldl | apply keeps_foldl_fst | split | (dsimp only; split) | apply keeps_with | apply swf_sset | apply swf_ssetMany | apply swf_filter | apply swf_foldl | apply swf_nil | apply swf_ite)

theorem State.queueFrame_keeps (z : State) (s : State) (l : Nat) (f : OutFrame) (hz : Keeps z s) : Keeps z (State.queueFrame s l f) := by
  unfold State.queueFrame
  repeat' with_reducible (first | assumption | intro _ | apply State.setLink_keeps | apply keeps_ite | apply keeps_ite_fst | apply keeps_foldl | apply keeps_foldl_fst | split | (dsimp only; split) | apply keeps_with | apply swf_sset | apply swf_ssetMany | apply swf_filter | apply swf_foldl | apply swf_nil | apply swf_ite)

theorem State.sendSafeMap_keeps (z : State) (s : State) (l : Nat) (hz : Keeps z s) : Keeps z (State.sendSafeMap s l) := by
  unfold State.sendSafeMap
  repeat' with_reducible (first | assumption | intro _ | apply State.queueFrame_keeps | apply keeps_ite | apply keeps_ite_fst | apply keeps_foldl | apply keeps_foldl_fst | split | (dsimp only; split) | apply keeps_with | apply swf_sset | apply swf_ssetMany | apply swf_filter | apply swf_foldl | apply swf_nil | apply swf_ite)

theorem State.holdInsert_keeps (z : State) (s : State) (l : Nat) (hz : Keeps z s) : Keeps z (State.holdInsert s l) := by
  unfold State.holdInsert
  repeat' with_reducible (first | assumption | intro _ | apply State.hold_keeps | apply State.setLink_keeps | apply keeps_ite | apply keeps_ite_fst | apply keeps_foldl | apply keeps_foldl_fst | split | (dsimp only; split) | apply keeps_with | apply swf_sset | apply swf_ssetMany | apply swf_filter | apply swf_foldl | apply swf_nil | apply swf_ite)

theorem State.holdRefresh_keeps (z : State) (s : State) (l : Nat) (hz : Keeps z s) : Keeps z (State.holdRefresh s l) := by
  unfold State.holdRefresh
  repeat' with_reducible (first | assumption | intro _ | apply State.setFld_keeps | apply State.setLink_keeps | apply State.holdInsert_keeps | apply keeps_ite | apply keeps_ite_fst | apply keeps_foldl | apply keeps_foldl_fst | split | (dsimp only; split) | apply keeps_with | apply swf_sset | apply swf_ssetMany | apply swf_filter | apply swf_foldl | apply swf_nil | apply swf_ite)

theorem State.linksWithdrawn_keeps (z : State) (s : State) (opens : List Nat) (cancels : Bool) (hz : Keeps z s) : Keeps z (State.linksWithdrawn s opens cancels) := by
  unfold State.linksWithdrawn
  repeat' with_reducible (first | assumption | intro _ | apply Run.st_keeps | apply State.bind_keeps | apply State.setLink_keeps | apply State.holdRefresh_keeps | apply keeps_ite | apply keeps_ite_fst | apply keeps_foldl | apply keeps_foldl_fst | split | (dsimp only; split) | apply keeps_with | apply swf_sset | apply swf_ssetMany | apply swf_filter | apply swf_foldl | apply swf_nil | apply swf_ite)

theorem State.withdrawAll_keeps (z : State) (s : State) (p : Entry → Bool) (cause path ctx first last : Nat) (cancels : Bool) (hz : Keeps z s) : Keeps z (State.withdrawAll s p cause path ctx first last cancels) := by
  unfold State.withdrawAll
  repeat' with_reducible (first | assumption | intro _ | apply Run.st_keeps | apply State.withdraw_keeps | apply State.linksWithdrawn_keeps | apply keeps_ite | apply keeps_ite_fst | apply keeps_foldl | apply keeps_foldl_fst | split | (dsimp only; split) | apply keeps_with | apply swf_sset | apply swf_ssetMany | apply swf_filter | apply swf_foldl | apply swf_nil | apply swf_ite)

theorem State.lossClose_keeps (z : State) (s : State) (l p o : Nat) (hz : Keeps z s) : Keeps z (State.lossClose s l p o) := by
  unfold State.lossClose
  repeat' with_reducible (first | assumption | intro _ | apply State.setFld_keeps | apply State.lateSeal_keeps | apply keeps_ite | apply keeps_ite_fst | apply keeps_foldl | apply keeps_foldl_fst | split | (dsimp only; split) | apply keeps_with | apply swf_sset | apply swf_ssetMany | apply swf_filter | apply swf_foldl | apply swf_nil | apply swf_ite)

theorem State.nodeOut_keeps (z : State) (s : State) (l p st : Nat) (hz : Keeps z s) : Keeps z (State.nodeOut s l p st) := by
  unfold State.nodeOut
  repeat' with_reducible (first | assumption | intro _ | apply Run.st_keeps | apply State.setFld_keeps | apply State.setLink_keeps | apply State.raise_keeps | apply State.refreshTargets_keeps | apply State.linkCount_keeps | apply State.lossClose_keeps | apply keeps_ite | apply keeps_ite_fst | apply keeps_foldl | apply keeps_foldl_fst | split | (dsimp only; split) | apply keeps_with | apply swf_sset | apply swf_ssetMany | apply swf_filter | apply swf_foldl | apply swf_nil | apply swf_ite)

theorem State.nodeIn_keeps (z : State) (s : State) (l p : Nat) (hz : Keeps z s) : Keeps z (State.nodeIn s l p) := by
  unfold State.nodeIn
  repeat' with_reducible (first | assumption | intro _ | apply State.setFld_keeps | apply State.setLink_keeps | apply State.resync_keeps | apply State.sendSafeMap_keeps | apply State.refreshTargets_keeps | apply State.linkCount_keeps | apply State.holdRefresh_keeps | apply State.setOpen_keeps | apply keeps_ite | apply keeps_ite_fst | apply keeps_foldl | apply keeps_foldl_fst | split | (dsimp only; split) | apply keeps_with | apply swf_sset | apply swf_ssetMany | apply swf_filter | apply swf_foldl | apply swf_nil | apply swf_ite)

theorem State.confirmed_keeps (z : State) (s : State) (l p : Nat) (hz : Keeps z s) : Keeps z (State.confirmed s l p) := by
  unfold State.confirmed
  repeat' with_reducible (first | assumption | intro _ | apply State.nodeIn_keeps | apply State.setLink_keeps | apply State.raise_keeps | apply State.setFld_keeps | apply keeps_ite | apply keeps_ite_fst | apply keeps_foldl | apply keeps_foldl_fst | split | (dsimp only; split) | apply keeps_with | apply swf_sset | apply swf_ssetMany | apply swf_filter | apply swf_foldl | apply swf_nil | apply swf_ite)

theorem State.enumStep_keeps (z : State) (s : State) (l : Nat) (hz : Keeps z s) : Keeps z (State.enumStep s l) := by
  unfold State.enumStep
  repeat' with_reducible (first | assumption | intro _ | apply State.setLink_keeps | apply keeps_ite | apply keeps_ite_fst | apply keeps_foldl | apply keeps_foldl_fst | split | (dsimp only; split) | apply keeps_with | apply swf_sset | apply swf_ssetMany | apply swf_filter | apply swf_foldl | apply swf_nil | apply swf_ite)

theorem cycleCmd_keeps (z : State) (l : Nat) (c : State × Nat × List OutFrame) (x : LinkCmd) (hz : Keeps z c.1) : Keeps z (cycleCmd l c x).1 := by
  unfold cycleCmd
  repeat' with_reducible (first | assumption | intro _ | apply State.setFld_keeps | apply State.setLink_keeps | apply State.count_keeps | apply keeps_ite | apply keeps_ite_fst | apply keeps_foldl | apply keeps_foldl_fst | split | (dsimp only; split) | apply keeps_with | apply swf_sset | apply swf_ssetMany | apply swf_filter | apply swf_foldl | apply swf_nil | apply swf_ite)

theorem cyclePut_fst {c d : Cycle} {f : OutFrame} (h : cyclePut c f = some d) : d.1 = c.1 := by
  unfold cyclePut at h
  split at h
  · cases h; rfl
  · cases h

theorem cycleCtl_keeps (z : State) (l : Nat) (start : Time) (c : State × Nat × List OutFrame) (f : OutFrame) (hz : Keeps z c.1) : Keeps z (cycleCtl l start c f).1 := by
  unfold cycleCtl
  split
  · rename_i d hd
    split
    · exact State.setLink_keeps _ _ _ _ hz
    · rw [cyclePut_fst hd]
      exact hz
  · exact State.queueFrame_keeps _ _ _ _ hz

theorem State.cycleEnds_keeps (z : State) (s : State) (l : Nat) (hz : Keeps z s) : Keeps z (State.cycleEnds s l) := by
  unfold State.cycleEnds
  repeat' with_reducible (first | assumption | intro _ | apply State.confirmed_keeps | apply State.setFld_keeps | apply State.setLink_keeps | apply keeps_ite | apply keeps_ite_fst | apply keeps_foldl | apply keeps_foldl_fst | split | (dsimp only; split) | apply keeps_with | apply swf_sset | apply swf_ssetMany | apply swf_filter | apply swf_foldl | apply swf_nil | apply swf_ite)

theorem State.linkCycle_keeps (z : State) (s : State) (l : Nat) (hz : Keeps z s) : Keeps z (State.linkCycle s l) := by
  unfold State.linkCycle
  repeat' with_reducible (first | assumption | intro _ | apply State.setFld_keeps | apply State.cycleEnds_keeps | apply State.enumStep_keeps | apply State.hold_keeps | apply State.setLink_keeps | apply cycleCmd_keeps | apply cycleCtl_keeps | apply State.holdRefresh_keeps | apply keeps_ite | apply keeps_ite_fst | apply keeps_foldl | apply keeps_foldl_fst | split | (dsimp only; split) | apply keeps_with | apply swf_sset | apply swf_ssetMany | apply swf_filter | apply swf_foldl | apply swf_nil | apply swf_ite)

theorem State.chainEnd_keeps (z : State) (s : State) (l : Nat) (hz : Keeps z s) : Keeps z (State.chainEnd s l) := by
  unfold State.chainEnd
  repeat' with_reducible (first | assumption | intro _ | apply State.setLink_keeps | apply State.setFld_keeps | apply keeps_ite | apply keeps_ite_fst | apply keeps_foldl | apply keeps_foldl_fst | split | (dsimp only; split) | apply keeps_with | apply swf_sset | apply swf_ssetMany | apply swf_filter | apply swf_foldl | apply swf_nil | apply swf_ite)

theorem State.ident_keeps (z : State) (s : State) (l p : Nat) (f : IdentIn) (hz : Keeps z s) : Keeps z (State.ident s l p f) := by
  unfold State.ident
  repeat' with_reducible (first | assumption | intro _ | apply State.setFld_keeps | apply State.setLink_keeps | apply State.raise_keeps | apply State.linkCount_keeps | apply keeps_ite | apply keeps_ite_fst | apply keeps_foldl | apply keeps_foldl_fst | split | (dsimp only; split) | apply keeps_with | apply swf_sset | apply swf_ssetMany | apply swf_filter | apply swf_foldl | apply swf_nil | apply swf_ite)

theorem State.pong_keeps (z : State) (s : State) (l p turn : Nat) (rx : Time) (hz : Keeps z s) : Keeps z (State.pong s l p turn rx) := by
  unfold State.pong
  repeat' with_reducible (first | assumption | intro _ | apply State.take_keeps | apply State.setLink_keeps | apply State.setFld_keeps | apply State.queueFrame_keeps | apply keeps_ite | apply keeps_ite_fst | apply keeps_foldl | apply keeps_foldl_fst | split | (dsimp only; split) | apply keeps_with | apply swf_sset | apply swf_ssetMany | apply swf_filter | apply swf_foldl | apply swf_nil | apply swf_ite)

theorem State.resync_keeps (z : State) (s : State) (l p : Nat) (hz : Keeps z s) : Keeps z (State.resync s l p) := by
  unfold State.resync
  repeat' with_reducible (first | assumption | intro _ | apply State.queueFrame_keeps | apply keeps_ite | apply keeps_ite_fst | apply keeps_foldl | apply keeps_foldl_fst | split | (dsimp only; split) | apply keeps_with | apply swf_sset | apply swf_ssetMany | apply swf_filter | apply swf_foldl | apply swf_nil | apply swf_ite)

theorem State.nodeStatus_keeps (z : State) (s : State) (l p : Nat) (f : StatusIn) (hz : Keeps z s) : Keeps z (State.nodeStatus s l p f) := by
  unfold State.nodeStatus
  repeat' with_reducible (first | assumption | intro _ | apply Run.st_keeps | apply State.setFld_keeps | apply State.nodeOut_keeps | apply State.resync_keeps | apply keeps_ite | apply keeps_ite_fst | apply keeps_foldl | apply keeps_foldl_fst | split | (dsimp only; split) | apply keeps_with | apply swf_sset | apply swf_ssetMany | apply swf_filter | apply swf_foldl | apply swf_nil | apply swf_ite)

theorem State.markAcked_keeps (z : State) (s : State) (i : Nat) (b : Bool) (hz : Keeps z s) : Keeps z (State.markAcked s i b) := by
  unfold State.markAcked
  repeat' with_reducible (first | assumption | intro _ | apply State.setEntry_keeps | apply keeps_ite | apply keeps_ite_fst | apply keeps_foldl | apply keeps_foldl_fst | split | (dsimp only; split) | apply keeps_with | apply swf_sset | apply swf_ssetMany | apply swf_filter | apply swf_foldl | apply swf_nil | apply swf_ite)

theorem State.dutyAcked_keeps (z : State) (s : State) (c : LinkCmd) (hz : Keeps z s) : Keeps z (State.dutyAcked s c) := by
  unfold State.dutyAcked
  repeat' with_reducible (first | assumption | intro _ | apply State.bind_keeps | apply keeps_ite | apply keeps_ite_fst | apply keeps_foldl | apply keeps_foldl_fst | split | (dsimp only; split) | apply keeps_with | apply swf_sset | apply swf_ssetMany | apply swf_filter | apply swf_foldl | apply swf_nil | apply swf_ite)

theorem State.linkAck_keeps (z : State) (s : State) (l p seq pending : Nat) (hz : Keeps z s) : Keeps z (State.linkAck s l p seq pending) := by
  unfold State.linkAck
  repeat' with_reducible (first | assumption | intro _ | apply State.setLink_keeps | apply State.setFld_keeps | apply State.markAcked_keeps | apply State.dutyAcked_keeps | apply State.holdRefresh_keeps | apply keeps_ite | apply keeps_ite_fst | apply keeps_foldl | apply keeps_foldl_fst | split | (dsimp only; split) | apply keeps_with | apply swf_sset | apply swf_ssetMany | apply swf_filter | apply swf_foldl | apply swf_nil | apply swf_ite)

theorem State.linkReject_keeps (z : State) (s : State) (l p seq : Nat) (hz : Keeps z s) : Keeps z (State.linkReject s l p seq) := by
  unfold State.linkReject
  repeat' with_reducible (first | assumption | intro _ | apply State.setLink_keeps | apply State.bump_keeps | apply State.raise_keeps | apply State.markAcked_keeps | apply keeps_ite | apply keeps_ite_fst | apply keeps_foldl | apply keeps_foldl_fst | split | (dsimp only; split) | apply keeps_with | apply swf_sset | apply swf_ssetMany | apply swf_filter | apply swf_foldl | apply swf_nil | apply swf_ite)

theorem State.linkRetry_keeps (z : State) (s : State) (l p : Nat) (hz : Keeps z s) : Keeps z (State.linkRetry s l p) := by
  unfold State.linkRetry
  repeat' with_reducible (first | assumption | intro _ | apply State.setLink_keeps | apply State.bump_keeps | apply State.count_keeps | apply keeps_ite | apply keeps_ite_fst | apply keeps_foldl | apply keeps_foldl_fst | split | (dsimp only; split) | apply keeps_with | apply swf_sset | apply swf_ssetMany | apply swf_filter | apply swf_foldl | apply swf_nil | apply swf_ite)

theorem State.nodeSeal_keeps (z : State) (s : State) (l p : Nat) (f : SealIn) (hz : Keeps z s) : Keeps z (State.nodeSeal s l p f) := by
  unfold State.nodeSeal
  repeat' with_reducible (first | assumption | intro _ | apply State.sealEntry_keeps | apply State.lossClose_keeps | apply keeps_ite | apply keeps_ite_fst | apply keeps_foldl | apply keeps_foldl_fst | split | (dsimp only; split) | apply keeps_with | apply swf_sset | apply swf_ssetMany | apply swf_filter | apply swf_foldl | apply swf_nil | apply swf_ite)

theorem State.nodeDiag_keeps (z : State) (s : State) (l p out fault value : Nat) (hz : Keeps z s) : Keeps z (State.nodeDiag s l p out fault value) := by
  unfold State.nodeDiag
  repeat' with_reducible (first | assumption | intro _ | apply State.setFld_keeps | apply State.muslin_keeps | apply keeps_ite | apply keeps_ite_fst | apply keeps_foldl | apply keeps_foldl_fst | split | (dsimp only; split) | apply keeps_with | apply swf_sset | apply swf_ssetMany | apply swf_filter | apply swf_foldl | apply swf_nil | apply swf_ite)

theorem State.holdFrame_keeps (z : State) (s : State) (i : Instr) (hz : Keeps z s) : Keeps z (State.holdFrame s i) := by
  unfold State.holdFrame
  repeat' with_reducible (first | assumption | intro _ | apply State.hold_keeps | apply keeps_ite | apply keeps_ite_fst | apply keeps_foldl | apply keeps_foldl_fst | split | (dsimp only; split) | apply keeps_with | apply swf_sset | apply swf_ssetMany | apply swf_filter | apply swf_foldl | apply swf_nil | apply swf_ite)

theorem State.passFrame_keeps (z : State) (s : State) (i : Instr) (hz : Keeps z s) : Keeps z (State.passFrame s i) := by
  unfold State.passFrame
  repeat' with_reducible (first | assumption | intro _ | apply State.nodeSeal_keeps | apply State.nodeDiag_keeps | apply keeps_ite | apply keeps_ite_fst | apply keeps_foldl | apply keeps_foldl_fst | split | (dsimp only; split) | apply keeps_with | apply swf_sset | apply swf_ssetMany | apply swf_filter | apply swf_foldl | apply swf_nil | apply swf_ite)

theorem State.noReport_keeps (z : State) (s : State) (i : Nat) (hz : Keeps z s) : Keeps z (State.noReport s i) := by
  unfold State.noReport
  repeat' with_reducible (first | assumption | intro _ | apply Run.st_keeps | apply State.bump_keeps | apply State.sealEntry_keeps | apply State.lossClose_keeps | apply keeps_ite | apply keeps_ite_fst | apply keeps_foldl | apply keeps_foldl_fst | split | (dsimp only; split) | apply keeps_with | apply swf_sset | apply swf_ssetMany | apply swf_filter | apply swf_foldl | apply swf_nil | apply swf_ite)

theorem State.nodeLost_keeps (z : State) (s : State) (l p : Nat) (hz : Keeps z s) : Keeps z (State.nodeLost s l p) := by
  unfold State.nodeLost
  repeat' with_reducible (first | assumption | intro _ | apply State.nodeOut_keeps | apply keeps_ite | apply keeps_ite_fst | apply keeps_foldl | apply keeps_foldl_fst | split | (dsimp only; split) | apply keeps_with | apply swf_sset | apply swf_ssetMany | apply swf_filter | apply swf_foldl | apply swf_nil | apply swf_ite)

theorem State.nodeReset_keeps (z : State) (s : State) (l p : Nat) (hz : Keeps z s) : Keeps z (State.nodeReset s l p) := by
  unfold State.nodeReset
  repeat' with_reducible (first | assumption | intro _ | apply State.setLink_keeps | apply State.setFld_keeps | apply State.refreshTargets_keeps | apply State.linkCount_keeps | apply State.holdRefresh_keeps | apply keeps_ite | apply keeps_ite_fst | apply keeps_foldl | apply keeps_foldl_fst | split | (dsimp only; split) | apply keeps_with | apply swf_sset | apply swf_ssetMany | apply swf_filter | apply swf_foldl | apply swf_nil | apply swf_ite)

theorem State.nodeRemove_keeps (z : State) (s : State) (l p : Nat) (hz : Keeps z s) : Keeps z (State.nodeRemove s l p) := by
  unfold State.nodeRemove
  repeat' with_reducible (first | assumption | intro _ | apply State.nodeReset_keeps | apply State.raise_keeps | apply keeps_ite | apply keeps_ite_fst | apply keeps_foldl | apply keeps_foldl_fst | split | (dsimp only; split) | apply keeps_with | apply swf_sset | apply swf_ssetMany | apply swf_filter | apply swf_foldl | apply swf_nil | apply swf_ite)

theorem State.nodeAccept_keeps (z : State) (s : State) (l p : Nat) (hz : Keeps z s) : Keeps z (State.nodeAccept s l p) := by
  unfold State.nodeAccept
  repeat' with_reducible (first | assumption | intro _ | apply State.setFld_keeps | apply State.refreshTargets_keeps | apply keeps_ite | apply keeps_ite_fst | apply keeps_foldl | apply keeps_foldl_fst | split | (dsimp only; split) | apply keeps_with | apply swf_sset | apply swf_ssetMany | apply swf_filter | apply swf_foldl | apply swf_nil | apply swf_ite)

theorem State.nodeResync_keeps (z : State) (s : State) (l p : Nat) (hz : Keeps z s) : Keeps z (State.nodeResync s l p) := by
  unfold State.nodeResync
  repeat' with_reducible (first | assumption | intro _ | apply Run.st_keeps | apply State.resync_keeps | apply State.setLink_keeps | apply keeps_ite | apply keeps_ite_fst | apply keeps_foldl | apply keeps_foldl_fst | split | (dsimp only; split) | apply keeps_with | apply swf_sset | apply swf_ssetMany | apply swf_filter | apply swf_foldl | apply swf_nil | apply swf_ite)

theorem State.interrupt_keeps (z : State) (s : State) (l : Nat) (hz : Keeps z s) : Keeps z (State.interrupt s l) := by
  unfold State.interrupt
  repeat' with_reducible (first | assumption | intro _ | apply State.setLink_keeps | apply keeps_ite | apply keeps_ite_fst | apply keeps_foldl | apply keeps_foldl_fst | split | (dsimp only; split) | apply keeps_with | apply swf_sset | apply swf_ssetMany | apply swf_filter | apply swf_foldl | apply swf_nil | apply swf_ite)

theorem State.linksStop_keeps (z : State) (s : State) (sp : Nat) (hz : Keeps z s) : Keeps z (State.linksStop s sp) := by
  unfold State.linksStop
  repeat' with_reducible (first | assumption | intro _ | apply State.interrupt_keeps | apply State.setLink_keeps | apply keeps_ite | apply keeps_ite_fst | apply keeps_foldl | apply keeps_foldl_fst | split | (dsimp only; split) | apply keeps_with | apply swf_sset | apply swf_ssetMany | apply swf_filter | apply swf_foldl | apply swf_nil | apply swf_ite)

theorem State.linksRelease_keeps (z : State) (s : State) (hz : Keeps z s) : Keeps z (State.linksRelease s) := by
  unfold State.linksRelease
  repeat' with_reducible (first | assumption | intro _ | apply State.setLink_keeps | apply keeps_ite | apply keeps_ite_fst | apply keeps_foldl | apply keeps_foldl_fst | split | (dsimp only; split) | apply keeps_with | apply swf_sset | apply swf_ssetMany | apply swf_filter | apply swf_foldl | apply swf_nil | apply swf_ite)

theorem State.sendMode_keeps (z : State) (s : State) (l p mode : Nat) (data : List Byte) (due : Time) (hz : Keeps z s) : Keeps z (State.sendMode s l p mode data due) := by
  unfold State.sendMode
  repeat' with_reducible (first | assumption | intro _ | apply State.setLink_keeps | apply keeps_ite | apply keeps_ite_fst | apply keeps_foldl | apply keeps_foldl_fst | split | (dsimp only; split) | apply keeps_with | apply swf_sset | apply swf_ssetMany | apply swf_filter | apply swf_foldl | apply swf_nil | apply swf_ite)

theorem State.modeBoundary_keeps (z : State) (s : State) (hz : Keeps z s) : Keeps z (State.modeBoundary s) := by
  unfold State.modeBoundary
  repeat' with_reducible (first | assumption | intro _ | apply State.nodeOut_keeps | apply State.setLink_keeps | apply keeps_ite | apply keeps_ite_fst | apply keeps_foldl | apply keeps_foldl_fst | split | (dsimp only; split) | apply keeps_with | apply swf_sset | apply swf_ssetMany | apply swf_filter | apply swf_foldl | apply swf_nil | apply swf_ite)

theorem State.lkWrite_keeps (z : State) (s : State) (a v : Nat) (hz : Keeps z s) : Keeps z (State.lkWrite s a v) := by
  unfold State.lkWrite
  repeat' with_reducible (first | assumption | intro _ | apply State.writeCodes_keeps | apply State.setFld_keeps | apply State.nodeAccept_keeps | apply State.nodeRemove_keeps | apply State.nodeReset_keeps | apply State.nodeResync_keeps | apply keeps_ite | apply keeps_ite_fst | apply keeps_foldl | apply keeps_foldl_fst | split | (dsimp only; split) | apply keeps_with | apply swf_sset | apply swf_ssetMany | apply swf_filter | apply swf_foldl | apply swf_nil | apply swf_ite)

end Sys2Proof.Machine
end

