-- ==== Sys2Proof/Laws/KeepsLoopIn.lean ====
section
/-! SUPPORT. Every operation of Machine/LoopIn.lean keeps the variant, the queue and the canonical form of the register table. -/

namespace Sys2Proof.Machine

set_option linter.all false
set_option Elab.async false

theorem State.setSlot_keeps (z : State) (s : State) (n : Nat) (x : SlotState) (hz : Keeps z s) : Keeps z (State.setSlot s n x) := by
  unfold State.setSlot
  repeat' with_reducible (first | assumption | intro _ | apply keeps_ite | apply keeps_ite_fst | apply keeps_foldl | apply keeps_foldl_fst | split | (dsimp only; split) | apply keeps_with | apply swf_sset | apply swf_ssetMany | apply swf_filter | apply swf_foldl | apply swf_nil | apply swf_ite)

theorem State.setCore_keeps (z : State) (s : State) (c : Nat) (x : CoreState) (hz : Keeps z s) : Keeps z (State.setCore s c x) := by
  unfold State.setCore
  repeat' with_reducible (first | assumption | intro _ | apply keeps_ite | apply keeps_ite_fst | apply keeps_foldl | apply keeps_foldl_fst | split | (dsimp only; split) | apply keeps_with | apply swf_sset | apply swf_ssetMany | apply swf_filter | apply swf_foldl | apply swf_nil | apply swf_ite)

theorem State.setCounter_keeps (z : State) (s : State) (k : Nat) (x : CounterState) (hz : Keeps z s) : Keeps z (State.setCounter s k x) := by
  unfold State.setCounter
  repeat' with_reducible (first | assumption | intro _ | apply keeps_ite | apply keeps_ite_fst | apply keeps_foldl | apply keeps_foldl_fst | split | (dsimp only; split) | apply keeps_with | apply swf_sset | apply swf_ssetMany | apply swf_filter | apply swf_foldl | apply swf_nil | apply swf_ite)

theorem State.slFlag_keeps (z : State) (s : State) (n f : Nat) (hz : Keeps z s) : Keeps z (State.slFlag s n f) := by
  unfold State.slFlag
  repeat' with_reducible (first | assumption | intro _ | apply State.setFbit_keeps | apply State.raise_keeps | apply keeps_ite | apply keeps_ite_fst | apply keeps_foldl | apply keeps_foldl_fst | split | (dsimp only; split) | apply keeps_with | apply swf_sset | apply swf_ssetMany | apply swf_filter | apply swf_foldl | apply swf_nil | apply swf_ite)

theorem State.countBy_keeps (z : State) (s : State) (k : Nat) (d : Int) (t : Time) (hz : Keeps z s) : Keeps z (State.countBy s k d t) := by
  unfold State.countBy
  repeat' with_reducible (first | assumption | intro _ | apply State.setCounter_keeps | apply State.setBit_keeps | apply State.setFld_keeps | apply keeps_ite | apply keeps_ite_fst | apply keeps_foldl | apply keeps_foldl_fst | split | (dsimp only; split) | apply keeps_with | apply swf_sset | apply swf_ssetMany | apply swf_filter | apply swf_foldl | apply swf_nil | apply swf_ite)

theorem State.countSet_keeps (z : State) (s : State) (k : Nat) (n : Int) (hz : Keeps z s) : Keeps z (State.countSet s k n) := by
  unfold State.countSet
  repeat' with_reducible (first | assumption | intro _ | apply State.setCounter_keeps | apply State.setFld_keeps | apply keeps_ite | apply keeps_ite_fst | apply keeps_foldl | apply keeps_foldl_fst | split | (dsimp only; split) | apply keeps_with | apply swf_sset | apply swf_ssetMany | apply swf_filter | apply swf_foldl | apply swf_nil | apply swf_ite)

theorem State.counterEdge_keeps (z : State) (s : State) (k i : Nat) (rising : Bool) (t : Time) (hz : Keeps z s) : Keeps z (State.counterEdge s k i rising t).1 := by
  unfold State.counterEdge
  repeat' with_reducible (first | assumption | intro _ | apply State.setCounter_keeps | apply State.setFld_keeps | apply State.countBy_keeps | apply State.countSet_keeps | apply keeps_ite | apply keeps_ite_fst | apply keeps_foldl | apply keeps_foldl_fst | split | (dsimp only; split) | apply keeps_with | apply swf_sset | apply swf_ssetMany | apply swf_filter | apply swf_foldl | apply swf_nil | apply swf_ite)

theorem State.setInput_keeps (z : State) (s : State) (i : Nat) (x : InState) (hz : Keeps z s) : Keeps z (State.setInput s i x) := by
  unfold State.setInput
  repeat' with_reducible (first | assumption | intro _ | apply keeps_ite | apply keeps_ite_fst | apply keeps_foldl | apply keeps_foldl_fst | split | (dsimp only; split) | apply keeps_with | apply swf_sset | apply swf_ssetMany | apply swf_filter | apply swf_foldl | apply swf_nil | apply swf_ite)

theorem State.setRxObj_keeps (z : State) (s : State) (k : Nat) (x : RxObj) (hz : Keeps z s) : Keeps z (State.setRxObj s k x) := by
  unfold State.setRxObj
  repeat' with_reducible (first | assumption | intro _ | apply keeps_ite | apply keeps_ite_fst | apply keeps_foldl | apply keeps_foldl_fst | split | (dsimp only; split) | apply keeps_with | apply swf_sset | apply swf_ssetMany | apply swf_filter | apply swf_foldl | apply swf_nil | apply swf_ite)

theorem State.slotOut_keeps (z : State) (s : State) (n p : Nat) (v : Int) (hz : Keeps z s) : Keeps z (State.slotOut s n p v) := by
  unfold State.slotOut
  repeat' with_reducible (first | assumption | intro _ | apply State.setSfld_keeps | apply keeps_ite | apply keeps_ite_fst | apply keeps_foldl | apply keeps_foldl_fst | split | (dsimp only; split) | apply keeps_with | apply swf_sset | apply swf_ssetMany | apply swf_filter | apply swf_foldl | apply swf_nil | apply swf_ite)

theorem State.slotSoft_keeps (z : State) (s : State) (n : Nat) (hz : Keeps z s) : Keeps z (State.slotSoft s n) := by
  unfold State.slotSoft
  repeat' with_reducible (first | assumption | intro _ | apply State.setFld_keeps | apply State.setSlot_keeps | apply State.sampled_keeps | apply State.setSfld_keeps | apply keeps_ite | apply keeps_ite_fst | apply keeps_foldl | apply keeps_foldl_fst | split | (dsimp only; split) | apply keeps_with | apply swf_sset | apply swf_ssetMany | apply swf_filter | apply swf_foldl | apply swf_nil | apply swf_ite)

theorem State.contribute_keeps (z : State) (s : State) (o v : Nat) (hz : Keeps z s) : Keeps z (State.contribute s o v) := by
  unfold State.contribute
  repeat' with_reducible (first | assumption | intro _ | apply keeps_ite | apply keeps_ite_fst | apply keeps_foldl | apply keeps_foldl_fst | split | (dsimp only; split) | apply keeps_with | apply swf_sset | apply swf_ssetMany | apply swf_filter | apply swf_foldl | apply swf_nil | apply swf_ite)

theorem State.tableTake_keeps (z : State) (s : State) (v : Nat) (hz : Keeps z s) : Keeps z (State.tableTake s v) := by
  unfold State.tableTake
  repeat' with_reducible (first | assumption | intro _ | apply State.setFld_keeps | apply keeps_ite | apply keeps_ite_fst | apply keeps_foldl | apply keeps_foldl_fst | split | (dsimp only; split) | apply keeps_with | apply swf_sset | apply swf_ssetMany | apply swf_filter | apply swf_foldl | apply swf_nil | apply swf_ite)

theorem State.coefTake_keeps (z : State) (s : State) (n : Nat) (hz : Keeps z s) : Keeps z (State.coefTake s n) := by
  unfold State.coefTake
  repeat' with_reducible (first | assumption | intro _ | apply State.setFld_keeps | apply keeps_ite | apply keeps_ite_fst | apply keeps_foldl | apply keeps_foldl_fst | split | (dsimp only; split) | apply keeps_with | apply swf_sset | apply swf_ssetMany | apply swf_filter | apply swf_foldl | apply swf_nil | apply swf_ite)

theorem State.tableCommit_keeps (z : State) (s : State) (v : Nat) (hz : Keeps z s) : Keeps z (State.tableCommit s v) := by
  unfold State.tableCommit
  repeat' with_reducible (first | assumption | intro _ | apply State.setFld_keeps | apply State.tableTake_keeps | apply keeps_ite | apply keeps_ite_fst | apply keeps_foldl | apply keeps_foldl_fst | split | (dsimp only; split) | apply keeps_with | apply swf_sset | apply swf_ssetMany | apply swf_filter | apply swf_foldl | apply swf_nil | apply swf_ite)

theorem State.coefCommit_keeps (z : State) (s : State) (n : Nat) (hz : Keeps z s) : Keeps z (State.coefCommit s n) := by
  unfold State.coefCommit
  repeat' with_reducible (first | assumption | intro _ | apply State.setFld_keeps | apply State.coefTake_keeps | apply keeps_ite | apply keeps_ite_fst | apply keeps_foldl | apply keeps_foldl_fst | split | (dsimp only; split) | apply keeps_with | apply swf_sset | apply swf_ssetMany | apply swf_filter | apply swf_foldl | apply swf_nil | apply swf_ite)

theorem State.loopSettle_keeps (z : State) (s : State) (hz : Keeps z s) : Keeps z (State.loopSettle s) := by
  unfold State.loopSettle
  repeat' with_reducible (first | assumption | intro _ | apply State.tableTake_keeps | apply State.setFld_keeps | apply State.coefTake_keeps | apply keeps_ite | apply keeps_ite_fst | apply keeps_foldl | apply keeps_foldl_fst | split | (dsimp only; split) | apply keeps_with | apply swf_sset | apply swf_ssetMany | apply swf_filter | apply swf_foldl | apply swf_nil | apply swf_ite)

theorem State.loadData_keeps (z : State) (s : State) (n : Nat) (hz : Keeps z s) : Keeps z (State.loadData s n) := by
  unfold State.loadData
  repeat' with_reducible (first | assumption | intro _ | apply State.setFld_keeps | apply keeps_ite | apply keeps_ite_fst | apply keeps_foldl | apply keeps_foldl_fst | split | (dsimp only; split) | apply keeps_with | apply swf_sset | apply swf_ssetMany | apply swf_filter | apply swf_foldl | apply swf_nil | apply swf_ite)

theorem State.clrState_keeps (z : State) (s : State) (n : Nat) (hz : Keeps z s) : Keeps z (State.clrState s n) := by
  unfold State.clrState
  repeat' with_reducible (first | assumption | intro _ | apply State.loadData_keeps | apply State.raise_keeps | apply keeps_ite | apply keeps_ite_fst | apply keeps_foldl | apply keeps_foldl_fst | split | (dsimp only; split) | apply keeps_with | apply swf_sset | apply swf_ssetMany | apply swf_filter | apply swf_foldl | apply swf_nil | apply swf_ite)

end Sys2Proof.Machine
end

