-- ==== Sys2Proof/Laws/KeepsSwitches.lean ====
section
/-! SUPPORT. Every operation of Machine/Switches.lean keeps the variant, the queue and the canonical form of the register table. -/

namespace Sys2Proof.Machine

set_option linter.all false
set_option Elab.async false

theorem State.setLsw_keeps (z : State) (s : State) (n : Nat) (x : OutState) (hz : Keeps z s) : Keeps z (State.setLsw s n x) := by
  unfold State.setLsw
  repeat' with_reducible (first | assumption | intro _ | apply keeps_ite | apply keeps_ite_fst | apply keeps_foldl | apply keeps_foldl_fst | split | (dsimp only; split) | apply keeps_with | apply swf_sset | apply swf_ssetMany | apply swf_filter | apply swf_foldl | apply swf_nil | apply swf_ite)

theorem State.lsInrush_keeps (z : State) (s : State) (n : Nat) (t : Time) (hz : Keeps z s) : Keeps z (State.lsInrush s n t) := by
  unfold State.lsInrush
  repeat' with_reducible (first | assumption | intro _ | apply State.setLsw_keeps | apply keeps_ite | apply keeps_ite_fst | apply keeps_foldl | apply keeps_foldl_fst | split | (dsimp only; split) | apply keeps_with | apply swf_sset | apply swf_ssetMany | apply swf_filter | apply swf_foldl | apply swf_nil | apply swf_ite)

theorem State.lsTurnOn_keeps (z : State) (s : State) (n : Nat) (t : Time) (hz : Keeps z s) : Keeps z (State.lsTurnOn s n t) := by
  unfold State.lsTurnOn
  repeat' with_reducible (first | assumption | intro _ | apply State.setLsw_keeps | apply State.lsInrush_keeps | apply keeps_ite | apply keeps_ite_fst | apply keeps_foldl | apply keeps_foldl_fst | split | (dsimp only; split) | apply keeps_with | apply swf_sset | apply swf_ssetMany | apply swf_filter | apply swf_foldl | apply swf_nil | apply swf_ite)

theorem State.lsArmed_keeps (z : State) (s : State) (hz : Keeps z s) : Keeps z (State.lsArmed s) := by
  unfold State.lsArmed
  repeat' with_reducible (first | assumption | intro _ | apply State.setFld_keeps | apply State.lsInrush_keeps | apply State.setLsw_keeps | apply keeps_ite | apply keeps_ite_fst | apply keeps_foldl | apply keeps_foldl_fst | split | (dsimp only; split) | apply keeps_with | apply swf_sset | apply swf_ssetMany | apply swf_filter | apply swf_foldl | apply swf_nil | apply swf_ite)

theorem State.lsRepaint_keeps (z : State) (s : State) (hz : Keeps z s) : Keeps z (State.lsRepaint s) := by
  unfold State.lsRepaint
  repeat' with_reducible (first | assumption | intro _ | apply State.lsArmed_keeps | apply State.tick_keeps | apply State.setLsw_keeps | apply State.lateSeal_keeps | apply keeps_ite | apply keeps_ite_fst | apply keeps_foldl | apply keeps_foldl_fst | split | (dsimp only; split) | apply keeps_with | apply swf_sset | apply swf_ssetMany | apply swf_filter | apply swf_foldl | apply swf_nil | apply swf_ite)

theorem State.lsDuty_keeps (z : State) (s : State) (n d : Nat) (hz : Keeps z s) : Keeps z (State.lsDuty s n d) := by
  unfold State.lsDuty
  repeat' with_reducible (first | assumption | intro _ | apply State.setFld_keeps | apply State.lsTurnOn_keeps | apply keeps_ite | apply keeps_ite_fst | apply keeps_foldl | apply keeps_foldl_fst | split | (dsimp only; split) | apply keeps_with | apply swf_sset | apply swf_ssetMany | apply swf_filter | apply swf_foldl | apply swf_nil | apply swf_ite)

theorem State.lsEdge_keeps (z : State) (s : State) (n kind : Nat) (due : Time) (entry : Nat) (hz : Keeps z s) : Keeps z (State.lsEdge s n kind due entry) := by
  unfold State.lsEdge
  repeat' with_reducible (first | assumption | intro _ | apply State.setLsw_keeps | apply State.lsTurnOn_keeps | apply State.lsRepaint_keeps | apply State.lsArmed_keeps | apply keeps_ite | apply keeps_ite_fst | apply keeps_foldl | apply keeps_foldl_fst | split | (dsimp only; split) | apply keeps_with | apply swf_sset | apply swf_ssetMany | apply swf_filter | apply swf_foldl | apply swf_nil | apply swf_ite)

theorem State.lsChanWrite_keeps (z : State) (s : State) (sup own : Bool) (n off v : Nat) (hz : Keeps z s) : Keeps z (State.lsChanWrite s sup own n off v) := by
  unfold State.lsChanWrite
  repeat' with_reducible (first | assumption | intro _ | apply State.raise_keeps | apply State.writeCodes_keeps | apply State.lsTurnOn_keeps | apply State.setLsw_keeps | apply State.lsArmed_keeps | apply State.setFld_keeps | apply State.lsDuty_keeps | apply keeps_ite | apply keeps_ite_fst | apply keeps_foldl | apply keeps_foldl_fst | split | (dsimp only; split) | apply keeps_with | apply swf_sset | apply swf_ssetMany | apply swf_filter | apply swf_foldl | apply swf_nil | apply swf_ite)

theorem State.lsUnlatch_keeps (z : State) (s : State) (n : Nat) (hz : Keeps z s) : Keeps z (State.lsUnlatch s n) := by
  unfold State.lsUnlatch
  repeat' with_reducible (first | assumption | intro _ | apply State.setFld_keeps | apply State.lsRepaint_keeps | apply State.raise_keeps | apply keeps_ite | apply keeps_ite_fst | apply keeps_foldl | apply keeps_foldl_fst | split | (dsimp only; split) | apply keeps_with | apply swf_sset | apply swf_ssetMany | apply swf_filter | apply swf_foldl | apply swf_nil | apply swf_ite)

theorem State.lsUnlock_keeps (z : State) (s : State) (n : Nat) (hz : Keeps z s) : Keeps z (State.lsUnlock s n) := by
  unfold State.lsUnlock
  repeat' with_reducible (first | assumption | intro _ | apply State.setFld_keeps | apply State.lsRepaint_keeps | apply State.raise_keeps | apply keeps_ite | apply keeps_ite_fst | apply keeps_foldl | apply keeps_foldl_fst | split | (dsimp only; split) | apply keeps_with | apply swf_sset | apply swf_ssetMany | apply swf_filter | apply swf_foldl | apply swf_nil | apply swf_ite)

theorem State.lsWrite_keeps (z : State) (s : State) (sup own : Bool) (a v : Nat) (hz : Keeps z s) : Keeps z (State.lsWrite s sup own a v) := by
  unfold State.lsWrite
  repeat' with_reducible (first | assumption | intro _ | apply State.lsChanWrite_keeps | apply State.lsUnlatch_keeps | apply State.lsUnlock_keeps | apply State.writeCodes_keeps | apply keeps_ite | apply keeps_ite_fst | apply keeps_foldl | apply keeps_foldl_fst | split | (dsimp only; split) | apply keeps_with | apply swf_sset | apply swf_ssetMany | apply swf_filter | apply swf_foldl | apply swf_nil | apply swf_ite)

theorem State.switchRecord_keeps (z : State) (s : State) (kind : Nat) (data : List Byte) (hz : Keeps z s) : Keeps z (State.switchRecord s kind data) := by
  unfold State.switchRecord
  repeat' with_reducible (first | assumption | intro _ | apply State.canvasWith_keeps | apply keeps_ite | apply keeps_ite_fst | apply keeps_foldl | apply keeps_foldl_fst | split | (dsimp only; split) | apply keeps_with | apply swf_sset | apply swf_ssetMany | apply swf_filter | apply swf_foldl | apply swf_nil | apply swf_ite)

theorem State.lsLatched_keeps (z : State) (s : State) (n cause : Nat) (hz : Keeps z s) : Keeps z (State.lsLatched s n cause) := by
  unfold State.lsLatched
  repeat' with_reducible (first | assumption | intro _ | apply State.setFld_keeps | apply State.switchRecord_keeps | apply keeps_ite | apply keeps_ite_fst | apply keeps_foldl | apply keeps_foldl_fst | split | (dsimp only; split) | apply keeps_with | apply swf_sset | apply swf_ssetMany | apply swf_filter | apply swf_foldl | apply swf_nil | apply swf_ite)

theorem State.lsShutdown_keeps (z : State) (s : State) (n : Nat) (tj : Int) (hz : Keeps z s) : Keeps z (State.lsShutdown s n tj) := by
  unfold State.lsShutdown
  repeat' with_reducible (first | assumption | intro _ | apply State.setSfld_keeps | apply State.setFld_keeps | apply State.setLsw_keeps | apply State.raise_keeps | apply State.lsLatched_keeps | apply State.lsRepaint_keeps | apply keeps_ite | apply keeps_ite_fst | apply keeps_foldl | apply keeps_foldl_fst | split | (dsimp only; split) | apply keeps_with | apply swf_sset | apply swf_ssetMany | apply swf_filter | apply swf_foldl | apply swf_nil | apply swf_ite)

theorem State.lsRestart_keeps (z : State) (s : State) (n : Nat) (tj : Int) (hz : Keeps z s) : Keeps z (State.lsRestart s n tj) := by
  unfold State.lsRestart
  repeat' with_reducible (first | assumption | intro _ | apply State.setSfld_keeps | apply State.setFld_keeps | apply State.bump_keeps | apply State.lsRepaint_keeps | apply keeps_ite | apply keeps_ite_fst | apply keeps_foldl | apply keeps_foldl_fst | split | (dsimp only; split) | apply keeps_with | apply swf_sset | apply swf_ssetMany | apply swf_filter | apply swf_foldl | apply swf_nil | apply swf_ite)

theorem State.lsCurrent_keeps (z : State) (s : State) (n : Nat) (ma : Int) (hz : Keeps z s) : Keeps z (State.lsCurrent s n ma) := by
  unfold State.lsCurrent
  repeat' with_reducible (first | assumption | intro _ | apply Run.lim_keeps | apply State.setSfld_keeps | apply State.setBit_keeps | apply State.tick_keeps | apply keeps_ite | apply keeps_ite_fst | apply keeps_foldl | apply keeps_foldl_fst | split | (dsimp only; split) | apply keeps_with | apply swf_sset | apply swf_ssetMany | apply swf_filter | apply swf_foldl | apply swf_nil | apply swf_ite)

theorem State.inrushEpisode_keeps (z : State) (s : State) (n : Nat) (hz : Keeps z s) : Keeps z (State.inrushEpisode s n) := by
  unfold State.inrushEpisode
  repeat' with_reducible (first | assumption | intro _ | apply State.setLsw_keeps | apply State.lsRepaint_keeps | apply State.setFld_keeps | apply State.raise_keeps | apply State.lsLatched_keeps | apply keeps_ite | apply keeps_ite_fst | apply keeps_foldl | apply keeps_foldl_fst | split | (dsimp only; split) | apply keeps_with | apply swf_sset | apply swf_ssetMany | apply swf_filter | apply swf_foldl | apply swf_nil | apply swf_ite)

theorem State.inrushRetry_keeps (z : State) (s : State) (n : Nat) (hz : Keeps z s) : Keeps z (State.inrushRetry s n) := by
  unfold State.inrushRetry
  repeat' with_reducible (first | assumption | intro _ | apply State.setLsw_keeps | apply State.bump_keeps | apply State.lsRepaint_keeps | apply keeps_ite | apply keeps_ite_fst | apply keeps_foldl | apply keeps_foldl_fst | split | (dsimp only; split) | apply keeps_with | apply swf_sset | apply swf_ssetMany | apply swf_filter | apply swf_foldl | apply swf_nil | apply swf_ite)

theorem State.lsOpenLoad_keeps (z : State) (s : State) (n : Nat) (ma : Int) (hz : Keeps z s) : Keeps z (State.lsOpenLoad s n ma) := by
  unfold State.lsOpenLoad
  repeat' with_reducible (first | assumption | intro _ | apply State.lsCurrent_keeps | apply State.setFld_keeps | apply State.raise_keeps | apply keeps_ite | apply keeps_ite_fst | apply keeps_foldl | apply keeps_foldl_fst | split | (dsimp only; split) | apply keeps_with | apply swf_sset | apply swf_ssetMany | apply swf_filter | apply swf_foldl | apply swf_nil | apply swf_ite)

theorem State.setEnergy_keeps (z : State) (s : State) (n b : Nat) (hz : Keeps z s) : Keeps z (State.setEnergy s n b) := by
  unfold State.setEnergy
  repeat' with_reducible (first | assumption | intro _ | apply State.setLsw_keeps | apply State.setFld_keeps | apply keeps_ite | apply keeps_ite_fst | apply keeps_foldl | apply keeps_foldl_fst | split | (dsimp only; split) | apply keeps_with | apply swf_sset | apply swf_ssetMany | apply swf_filter | apply swf_foldl | apply swf_nil | apply swf_ite)

theorem State.clampEnd_keeps (z : State) (s : State) (n : Nat) (samples : List Sample) (hz : Keeps z s) : Keeps z (State.clampEnd s n samples) := by
  unfold State.clampEnd
  repeat' with_reducible (first | assumption | intro _ | apply State.setSfld_keeps | apply State.setEnergy_keeps | apply State.bump_keeps | apply State.setFld_keeps | apply State.raise_keeps | apply State.switchRecord_keeps | apply State.lsRepaint_keeps | apply keeps_ite | apply keeps_ite_fst | apply keeps_foldl | apply keeps_foldl_fst | split | (dsimp only; split) | apply keeps_with | apply swf_sset | apply swf_ssetMany | apply swf_filter | apply swf_foldl | apply swf_nil | apply swf_ite)

theorem State.clampLeak_keeps (z : State) (s : State) (hz : Keeps z s) : Keeps z (State.clampLeak s) := by
  unfold State.clampLeak
  repeat' with_reducible (first | assumption | intro _ | apply State.setEnergy_keeps | apply keeps_ite | apply keeps_ite_fst | apply keeps_foldl | apply keeps_foldl_fst | split | (dsimp only; split) | apply keeps_with | apply swf_sset | apply swf_ssetMany | apply swf_filter | apply swf_foldl | apply swf_nil | apply swf_ite)

theorem State.supplyLatch_keeps (z : State) (s : State) (kind : Nat) (hz : Keeps z s) : Keeps z (State.supplyLatch s kind) := by
  unfold State.supplyLatch
  repeat' with_reducible (first | assumption | intro _ | apply keeps_ite | apply keeps_ite_fst | apply keeps_foldl | apply keeps_foldl_fst | split | (dsimp only; split) | apply keeps_with | apply swf_sset | apply swf_ssetMany | apply swf_filter | apply swf_foldl | apply swf_nil | apply swf_ite)

theorem State.underVoltage_keeps (z : State) (s : State) (hz : Keeps z s) : Keeps z (State.underVoltage s) := by
  unfold State.underVoltage
  repeat' with_reducible (first | assumption | intro _ | apply State.setFld_keeps | apply State.raise_keeps | apply State.lsRepaint_keeps | apply keeps_ite | apply keeps_ite_fst | apply keeps_foldl | apply keeps_foldl_fst | split | (dsimp only; split) | apply keeps_with | apply swf_sset | apply swf_ssetMany | apply swf_filter | apply swf_foldl | apply swf_nil | apply swf_ite)

theorem State.underVoltageEnd_keeps (z : State) (s : State) (hz : Keeps z s) : Keeps z (State.underVoltageEnd s) := by
  unfold State.underVoltageEnd
  repeat' with_reducible (first | assumption | intro _ | apply State.setFld_keeps | apply State.lsRepaint_keeps | apply keeps_ite | apply keeps_ite_fst | apply keeps_foldl | apply keeps_foldl_fst | split | (dsimp only; split) | apply keeps_with | apply swf_sset | apply swf_ssetMany | apply swf_filter | apply swf_foldl | apply swf_nil | apply swf_ite)

theorem State.overVoltage_keeps (z : State) (s : State) (hz : Keeps z s) : Keeps z (State.overVoltage s) := by
  unfold State.overVoltage
  repeat' with_reducible (first | assumption | intro _ | apply State.setFld_keeps | apply State.raise_keeps | apply State.supplyLatch_keeps | apply State.lsRepaint_keeps | apply keeps_ite | apply keeps_ite_fst | apply keeps_foldl | apply keeps_foldl_fst | split | (dsimp only; split) | apply keeps_with | apply swf_sset | apply swf_ssetMany | apply swf_filter | apply swf_foldl | apply swf_nil | apply swf_ite)

theorem State.overVoltageEnd_keeps (z : State) (s : State) (hz : Keeps z s) : Keeps z (State.overVoltageEnd s) := by
  unfold State.overVoltageEnd
  repeat' with_reducible (first | assumption | intro _ | apply State.setFld_keeps | apply State.lsRepaint_keeps | apply keeps_ite | apply keeps_ite_fst | apply keeps_foldl | apply keeps_foldl_fst | split | (dsimp only; split) | apply keeps_with | apply swf_sset | apply swf_ssetMany | apply swf_filter | apply swf_foldl | apply swf_nil | apply swf_ite)

theorem State.reverseBattery_keeps (z : State) (s : State) (hz : Keeps z s) : Keeps z (State.reverseBattery s) := by
  unfold State.reverseBattery
  repeat' with_reducible (first | assumption | intro _ | apply State.raise_keeps | apply State.supplyLatch_keeps | apply State.lsRepaint_keeps | apply keeps_ite | apply keeps_ite_fst | apply keeps_foldl | apply keeps_foldl_fst | split | (dsimp only; split) | apply keeps_with | apply swf_sset | apply swf_ssetMany | apply swf_filter | apply swf_foldl | apply swf_nil | apply swf_ite)

theorem State.lossOfGround_keeps (z : State) (s : State) (hz : Keeps z s) : Keeps z (State.lossOfGround s) := by
  unfold State.lossOfGround
  repeat' with_reducible (first | assumption | intro _ | apply State.raise_keeps | apply State.supplyLatch_keeps | apply State.lsRepaint_keeps | apply keeps_ite | apply keeps_ite_fst | apply keeps_foldl | apply keeps_foldl_fst | split | (dsimp only; split) | apply keeps_with | apply swf_sset | apply swf_ssetMany | apply swf_filter | apply swf_foldl | apply swf_nil | apply swf_ite)

theorem State.switchCheck_keeps (z : State) (s : State) (i : Nat) (mv ma vbat : Int) (hz : Keeps z s) : Keeps z (State.switchCheck s i mv ma vbat) := by
  unfold State.switchCheck
  repeat' with_reducible (first | assumption | intro _ | apply Run.st_keeps | apply State.setSfld_keeps | apply State.lsCurrent_keeps | apply State.sealEntry_keeps | apply State.setFld_keeps | apply keeps_ite | apply keeps_ite_fst | apply keeps_foldl | apply keeps_foldl_fst | split | (dsimp only; split) | apply keeps_with | apply swf_sset | apply swf_ssetMany | apply swf_filter | apply swf_foldl | apply swf_nil | apply swf_ite)

theorem State.lsHoldBegins_keeps (z : State) (s : State) (all : Bool) (hz : Keeps z s) : Keeps z (State.lsHoldBegins s all) := by
  unfold State.lsHoldBegins
  repeat' with_reducible (first | assumption | intro _ | apply State.setFld_keeps | apply State.setLsw_keeps | apply keeps_ite | apply keeps_ite_fst | apply keeps_foldl | apply keeps_foldl_fst | split | (dsimp only; split) | apply keeps_with | apply swf_sset | apply swf_ssetMany | apply swf_filter | apply swf_foldl | apply swf_nil | apply swf_ite)

theorem State.lsStop_keeps (z : State) (s : State) (hz : Keeps z s) : Keeps z (State.lsStop s) := by
  unfold State.lsStop
  repeat' with_reducible (first | assumption | intro _ | apply State.lsHoldBegins_keeps | apply State.lsRepaint_keeps | apply keeps_ite | apply keeps_ite_fst | apply keeps_foldl | apply keeps_foldl_fst | split | (dsimp only; split) | apply keeps_with | apply swf_sset | apply swf_ssetMany | apply swf_filter | apply swf_foldl | apply swf_nil | apply swf_ite)

theorem State.lsHalt_keeps (z : State) (s : State) (hz : Keeps z s) : Keeps z (State.lsHalt s) := by
  unfold State.lsHalt
  repeat' with_reducible (first | assumption | intro _ | apply State.lsHoldBegins_keeps | apply State.lsRepaint_keeps | apply keeps_ite | apply keeps_ite_fst | apply keeps_foldl | apply keeps_foldl_fst | split | (dsimp only; split) | apply keeps_with | apply swf_sset | apply swf_ssetMany | apply swf_filter | apply swf_foldl | apply swf_nil | apply swf_ite)

theorem State.lsSafe_keeps (z : State) (s : State) (hz : Keeps z s) : Keeps z (State.lsSafe s) := by
  unfold State.lsSafe
  repeat' with_reducible (first | assumption | intro _ | apply State.lsHoldBegins_keeps | apply State.lsRepaint_keeps | apply keeps_ite | apply keeps_ite_fst | apply keeps_foldl | apply keeps_foldl_fst | split | (dsimp only; split) | apply keeps_with | apply swf_sset | apply swf_ssetMany | apply swf_filter | apply swf_foldl | apply swf_nil | apply swf_ite)

theorem State.lsRelease_keeps (z : State) (s : State) (held : Bool) (hz : Keeps z s) : Keeps z (State.lsRelease s held) := by
  unfold State.lsRelease
  repeat' with_reducible (first | assumption | intro _ | apply State.lsRepaint_keeps | apply keeps_ite | apply keeps_ite_fst | apply keeps_foldl | apply keeps_foldl_fst | split | (dsimp only; split) | apply keeps_with | apply swf_sset | apply swf_ssetMany | apply swf_filter | apply swf_foldl | apply swf_nil | apply swf_ite)

theorem State.limpRefresh_keeps (z : State) (s : State) (hz : Keeps z s) : Keeps z (State.limpRefresh s) := by
  unfold State.limpRefresh
  repeat' with_reducible (first | assumption | intro _ | apply State.setBit_keeps | apply State.raise_keeps | apply State.switchRecord_keeps | apply State.lsRepaint_keeps | apply keeps_ite | apply keeps_ite_fst | apply keeps_foldl | apply keeps_foldl_fst | split | (dsimp only; split) | apply keeps_with | apply swf_sset | apply swf_ssetMany | apply swf_filter | apply swf_foldl | apply swf_nil | apply swf_ite)

theorem State.lsFromShadow_keeps (z : State) (s : State) (hz : Keeps z s) : Keeps z (State.lsFromShadow s) := by
  unfold State.lsFromShadow
  repeat' with_reducible (first | assumption | intro _ | apply State.setReg_keeps | apply keeps_ite | apply keeps_ite_fst | apply keeps_foldl | apply keeps_foldl_fst | split | (dsimp only; split) | apply keeps_with | apply swf_sset | apply swf_ssetMany | apply swf_filter | apply swf_foldl | apply swf_nil | apply swf_ite)

theorem State.lsShadowWrite_keeps (z : State) (s : State) (hz : Keeps z s) : Keeps z (State.lsShadowWrite s) := by
  unfold State.lsShadowWrite
  repeat' with_reducible (first | assumption | intro _ | apply State.setFld_keeps | apply keeps_ite | apply keeps_ite_fst | apply keeps_foldl | apply keeps_foldl_fst | split | (dsimp only; split) | apply keeps_with | apply swf_sset | apply swf_ssetMany | apply swf_filter | apply swf_foldl | apply swf_nil | apply swf_ite)

theorem State.lsShadowDone_keeps (z : State) (s : State) (ok : Bool) (hz : Keeps z s) : Keeps z (State.lsShadowDone s ok) := by
  unfold State.lsShadowDone
  repeat' with_reducible (first | assumption | intro _ | apply State.setFld_keeps | apply keeps_ite | apply keeps_ite_fst | apply keeps_foldl | apply keeps_foldl_fst | split | (dsimp only; split) | apply keeps_with | apply swf_sset | apply swf_ssetMany | apply swf_filter | apply swf_foldl | apply swf_nil | apply swf_ite)

theorem State.heartbeat_keeps (z : State) (s : State) (hz : Keeps z s) : Keeps z (State.heartbeat s) := by
  unfold State.heartbeat
  repeat' with_reducible (first | assumption | intro _ | apply State.setFld_keeps | apply State.lsFromShadow_keeps | apply State.limpRefresh_keeps | apply keeps_ite | apply keeps_ite_fst | apply keeps_foldl | apply keeps_foldl_fst | split | (dsimp only; split) | apply keeps_with | apply swf_sset | apply swf_ssetMany | apply swf_filter | apply swf_foldl | apply swf_nil | apply swf_ite)

theorem State.wdExpiry_keeps (z : State) (s : State) (hz : Keeps z s) : Keeps z (State.wdExpiry s) := by
  unfold State.wdExpiry
  repeat' with_reducible (first | assumption | intro _ | apply State.setFld_keeps | apply State.raise_keeps | apply State.limpRefresh_keeps | apply keeps_ite | apply keeps_ite_fst | apply keeps_foldl | apply keeps_foldl_fst | split | (dsimp only; split) | apply keeps_with | apply swf_sset | apply swf_ssetMany | apply swf_filter | apply swf_foldl | apply swf_nil | apply swf_ite)

theorem State.limpPin_keeps (z : State) (s : State) (low : Bool) (hz : Keeps z s) : Keeps z (State.limpPin s low) := by
  unfold State.limpPin
  repeat' with_reducible (first | assumption | intro _ | apply State.setBit_keeps | apply State.limpRefresh_keeps | apply keeps_ite | apply keeps_ite_fst | apply keeps_foldl | apply keeps_foldl_fst | split | (dsimp only; split) | apply keeps_with | apply swf_sset | apply swf_ssetMany | apply swf_filter | apply swf_foldl | apply swf_nil | apply swf_ite)

theorem State.lhin_keeps (z : State) (s : State) (i : Nat) (level : Bool) (hz : Keeps z s) : Keeps z (State.lhin s i level) := by
  unfold State.lhin
  repeat' with_reducible (first | assumption | intro _ | apply State.setFbit_keeps | apply State.lsArmed_keeps | apply keeps_ite | apply keeps_ite_fst | apply keeps_foldl | apply keeps_foldl_fst | split | (dsimp only; split) | apply keeps_with | apply swf_sset | apply swf_ssetMany | apply swf_filter | apply swf_foldl | apply swf_nil | apply swf_ite)

theorem State.lsPowerOn_keeps (z : State) (s : State) (hz : Keeps z s) : Keeps z (State.lsPowerOn s) := by
  unfold State.lsPowerOn
  repeat' with_reducible (first | assumption | intro _ | apply State.setBit_keeps | apply State.lsFromShadow_keeps | apply State.setFld_keeps | apply State.raise_keeps | apply State.raiseIf_keeps | apply State.limpRefresh_keeps | apply keeps_ite | apply keeps_ite_fst | apply keeps_foldl | apply keeps_foldl_fst | split | (dsimp only; split) | apply keeps_with | apply swf_sset | apply swf_ssetMany | apply swf_filter | apply swf_foldl | apply swf_nil | apply swf_ite)

end Sys2Proof.Machine
end

