-- ==== Sys2Proof/Laws/KeepsField.lean ====
section
/-! SUPPORT. Every operation of Machine/Field.lean keeps the variant, the queue and the canonical form of the register table. -/

namespace Sys2Proof.Machine

set_option linter.all false
set_option Elab.async false

theorem State.setFout_keeps (z : State) (s : State) (m : Nat) (x : OutState) (hz : Keeps z s) : Keeps z (State.setFout s m x) := by
  unfold State.setFout
  repeat' with_reducible (first | assumption | intro _ | apply keeps_ite | apply keeps_ite_fst | apply keeps_foldl | apply keeps_foldl_fst | split | (dsimp only; split) | apply keeps_with | apply swf_sset | apply swf_ssetMany | apply swf_filter | apply swf_foldl | apply swf_nil | apply swf_ite)

theorem State.sleepSample_keeps (z : State) (s : State) (g : Nat) (xs : List FieldSample) (hz : Keeps z s) : Keeps z (State.sleepSample s g xs) := by
  unfold State.sleepSample
  repeat' with_reducible (first | assumption | intro _ | apply State.setInput_keeps | apply keeps_ite | apply keeps_ite_fst | apply keeps_foldl | apply keeps_foldl_fst | split | (dsimp only; split) | apply keeps_with | apply swf_sset | apply swf_ssetMany | apply swf_filter | apply swf_foldl | apply swf_nil | apply swf_ite)

theorem State.sleepInputs_keeps (z : State) (s : State) (hz : Keeps z s) : Keeps z (State.sleepInputs s) := by
  unfold State.sleepInputs
  repeat' with_reducible (first | assumption | intro _ | apply keeps_ite | apply keeps_ite_fst | apply keeps_foldl | apply keeps_foldl_fst | split | (dsimp only; split) | apply keeps_with | apply swf_sset | apply swf_ssetMany | apply swf_filter | apply swf_foldl | apply swf_nil | apply swf_ite)

theorem State.inputSample_keeps (z : State) (s : State) (g : Nat) (xs : List FieldSample) (hz : Keeps z s) : Keeps z (State.inputSample s g xs) := by
  unfold State.inputSample
  repeat' with_reducible (first | assumption | intro _ | apply State.sleepSample_keeps | apply State.setInput_keeps | apply keeps_ite | apply keeps_ite_fst | apply keeps_foldl | apply keeps_foldl_fst | split | (dsimp only; split) | apply keeps_with | apply swf_sset | apply swf_ssetMany | apply swf_filter | apply swf_foldl | apply swf_nil | apply swf_ite)

theorem State.slotRecover_keeps (z : State) (s : State) (n : Nat) (hz : Keeps z s) : Keeps z (State.slotRecover s n) := by
  unfold State.slotRecover
  repeat' with_reducible (first | assumption | intro _ | apply State.setSlot_keeps | apply State.slotSoft_keeps | apply State.setFld_keeps | apply keeps_ite | apply keeps_ite_fst | apply keeps_foldl | apply keeps_foldl_fst | split | (dsimp only; split) | apply keeps_with | apply swf_sset | apply swf_ssetMany | apply swf_filter | apply swf_foldl | apply swf_nil | apply swf_ite)

theorem State.newSampleAt_keeps (z : State) (s : State) (kind index : Nat) (t : Time) (hz : Keeps z s) : Keeps z (State.newSampleAt s kind index t) := by
  unfold State.newSampleAt
  repeat' with_reducible (first | assumption | intro _ | apply State.setSlot_keeps | apply State.slotRecover_keeps | apply keeps_ite | apply keeps_ite_fst | apply keeps_foldl | apply keeps_foldl_fst | split | (dsimp only; split) | apply keeps_with | apply swf_sset | apply swf_ssetMany | apply swf_filter | apply swf_foldl | apply swf_nil | apply swf_ite)

theorem State.newSample_keeps (z : State) (s : State) (kind index : Nat) (hz : Keeps z s) : Keeps z (State.newSample s kind index) := by
  unfold State.newSample
  repeat' with_reducible (first | assumption | intro _ | apply State.newSampleAt_keeps | apply keeps_ite | apply keeps_ite_fst | apply keeps_foldl | apply keeps_foldl_fst | split | (dsimp only; split) | apply keeps_with | apply swf_sset | apply swf_ssetMany | apply swf_filter | apply swf_foldl | apply swf_nil | apply swf_ite)

theorem State.foHold_keeps (z : State) (s : State) (hit : Nat → Bool) (keep clear : Bool) (hz : Keeps z s) : Keeps z (State.foHold s hit keep clear) := by
  unfold State.foHold
  repeat' with_reducible (first | assumption | intro _ | apply State.setFout_keeps | apply State.setFld_keeps | apply keeps_ite | apply keeps_ite_fst | apply keeps_foldl | apply keeps_foldl_fst | split | (dsimp only; split) | apply keeps_with | apply swf_sset | apply swf_ssetMany | apply swf_filter | apply swf_foldl | apply swf_nil | apply swf_ite)

theorem State.foFree_keeps (z : State) (s : State) (hz : Keeps z s) : Keeps z (State.foFree s) := by
  unfold State.foFree
  repeat' with_reducible (first | assumption | intro _ | apply State.setFout_keeps | apply keeps_ite | apply keeps_ite_fst | apply keeps_foldl | apply keeps_foldl_fst | split | (dsimp only; split) | apply keeps_with | apply swf_sset | apply swf_ssetMany | apply swf_filter | apply swf_foldl | apply swf_nil | apply swf_ite)

theorem State.foHear_keeps (z : State) (s : State) (hz : Keeps z s) : Keeps z (State.foHear s) := by
  unfold State.foHear
  repeat' with_reducible (first | assumption | intro _ | apply State.foHold_keeps | apply State.foFree_keeps | apply keeps_ite | apply keeps_ite_fst | apply keeps_foldl | apply keeps_foldl_fst | split | (dsimp only; split) | apply keeps_with | apply swf_sset | apply swf_ssetMany | apply swf_filter | apply swf_foldl | apply swf_nil | apply swf_ite)

theorem State.heardSeq_keeps (z : State) (s : State) (seq : Nat) (hz : Keeps z s) : Keeps z (State.heardSeq s seq) := by
  unfold State.heardSeq
  repeat' with_reducible (first | assumption | intro _ | apply keeps_ite | apply keeps_ite_fst | apply keeps_foldl | apply keeps_foldl_fst | split | (dsimp only; split) | apply keeps_with | apply swf_sset | apply swf_ssetMany | apply swf_filter | apply swf_foldl | apply swf_nil | apply swf_ite)

theorem State.foTell_keeps (z : State) (s : State) (stop halt safe : Bool) (hz : Keeps z s) : Keeps z (State.foTell s stop halt safe) := by
  unfold State.foTell
  repeat' with_reducible (first | assumption | intro _ | apply State.setBit_keeps | apply State.heardSeq_keeps | apply State.foHear_keeps | apply keeps_ite | apply keeps_ite_fst | apply keeps_foldl | apply keeps_foldl_fst | split | (dsimp only; split) | apply keeps_with | apply swf_sset | apply swf_ssetMany | apply swf_filter | apply swf_foldl | apply swf_nil | apply swf_ite)

theorem State.foStop_keeps (z : State) (s : State) (hz : Keeps z s) : Keeps z (State.foStop s) := by
  unfold State.foStop
  repeat' with_reducible (first | assumption | intro _ | apply State.foTell_keeps | apply keeps_ite | apply keeps_ite_fst | apply keeps_foldl | apply keeps_foldl_fst | split | (dsimp only; split) | apply keeps_with | apply swf_sset | apply swf_ssetMany | apply swf_filter | apply swf_foldl | apply swf_nil | apply swf_ite)

theorem State.foHalt_keeps (z : State) (s : State) (hz : Keeps z s) : Keeps z (State.foHalt s) := by
  unfold State.foHalt
  repeat' with_reducible (first | assumption | intro _ | apply State.foTell_keeps | apply keeps_ite | apply keeps_ite_fst | apply keeps_foldl | apply keeps_foldl_fst | split | (dsimp only; split) | apply keeps_with | apply swf_sset | apply swf_ssetMany | apply swf_filter | apply swf_foldl | apply swf_nil | apply swf_ite)

theorem State.foSafe_keeps (z : State) (s : State) (hz : Keeps z s) : Keeps z (State.foSafe s) := by
  unfold State.foSafe
  repeat' with_reducible (first | assumption | intro _ | apply State.foTell_keeps | apply keeps_ite | apply keeps_ite_fst | apply keeps_foldl | apply keeps_foldl_fst | split | (dsimp only; split) | apply keeps_with | apply swf_sset | apply swf_ssetMany | apply swf_filter | apply swf_foldl | apply swf_nil | apply swf_ite)

theorem State.foRelease_keeps (z : State) (s : State) (held : Bool) (hz : Keeps z s) : Keeps z (State.foRelease s held) := by
  unfold State.foRelease
  repeat' with_reducible (first | assumption | intro _ | apply State.foTell_keeps | apply keeps_ite | apply keeps_ite_fst | apply keeps_foldl | apply keeps_foldl_fst | split | (dsimp only; split) | apply keeps_with | apply swf_sset | apply swf_ssetMany | apply swf_filter | apply swf_foldl | apply swf_nil | apply swf_ite)

theorem State.fieldSilence_keeps (z : State) (s : State) (hz : Keeps z s) : Keeps z (State.fieldSilence s) := by
  unfold State.fieldSilence
  repeat' with_reducible (first | assumption | intro _ | apply State.foHold_keeps | apply keeps_ite | apply keeps_ite_fst | apply keeps_foldl | apply keeps_foldl_fst | split | (dsimp only; split) | apply keeps_with | apply swf_sset | apply swf_ssetMany | apply swf_filter | apply swf_foldl | apply swf_nil | apply swf_ite)

theorem State.foEdge_keeps (z : State) (s : State) (i m kind : Nat) (due : Time) (hz : Keeps z s) : Keeps z (State.foEdge s i m kind due) := by
  unfold State.foEdge
  repeat' with_reducible (first | assumption | intro _ | apply State.setFout_keeps | apply keeps_ite | apply keeps_ite_fst | apply keeps_foldl | apply keeps_foldl_fst | split | (dsimp only; split) | apply keeps_with | apply swf_sset | apply swf_ssetMany | apply swf_filter | apply swf_foldl | apply swf_nil | apply swf_ite)

theorem State.foDuty_keeps (z : State) (s : State) (m d : Nat) (hz : Keeps z s) : Keeps z (State.foDuty s m d) := by
  unfold State.foDuty
  repeat' with_reducible (first | assumption | intro _ | apply State.setFld_keeps | apply keeps_ite | apply keeps_ite_fst | apply keeps_foldl | apply keeps_foldl_fst | split | (dsimp only; split) | apply keeps_with | apply swf_sset | apply swf_ssetMany | apply swf_filter | apply swf_foldl | apply swf_nil | apply swf_ite)

theorem State.foNews_keeps (z : State) (s : State) (m k : Nat) (hz : Keeps z s) : Keeps z (State.foNews s m k) := by
  unfold State.foNews
  repeat' with_reducible (first | assumption | intro _ | apply State.setFout_keeps | apply keeps_ite | apply keeps_ite_fst | apply keeps_foldl | apply keeps_foldl_fst | split | (dsimp only; split) | apply keeps_with | apply swf_sset | apply swf_ssetMany | apply swf_filter | apply swf_foldl | apply swf_nil | apply swf_ite)

theorem State.overload_keeps (z : State) (s : State) (m : Nat) (hz : Keeps z s) : Keeps z (State.overload s m) := by
  unfold State.overload
  repeat' with_reducible (first | assumption | intro _ | apply State.foNews_keeps | apply State.setFout_keeps | apply keeps_ite | apply keeps_ite_fst | apply keeps_foldl | apply keeps_foldl_fst | split | (dsimp only; split) | apply keeps_with | apply swf_sset | apply swf_ssetMany | apply swf_filter | apply swf_foldl | apply swf_nil | apply swf_ite)

theorem State.overloadRestart_keeps (z : State) (s : State) (m : Nat) (hz : Keeps z s) : Keeps z (State.overloadRestart s m) := by
  unfold State.overloadRestart
  repeat' with_reducible (first | assumption | intro _ | apply State.setFout_keeps | apply keeps_ite | apply keeps_ite_fst | apply keeps_foldl | apply keeps_foldl_fst | split | (dsimp only; split) | apply keeps_with | apply swf_sset | apply swf_ssetMany | apply swf_filter | apply swf_foldl | apply swf_nil | apply swf_ite)

theorem State.overtemp_keeps (z : State) (s : State) (m : Nat) (hz : Keeps z s) : Keeps z (State.overtemp s m) := by
  unfold State.overtemp
  repeat' with_reducible (first | assumption | intro _ | apply State.foNews_keeps | apply State.setFout_keeps | apply keeps_ite | apply keeps_ite_fst | apply keeps_foldl | apply keeps_foldl_fst | split | (dsimp only; split) | apply keeps_with | apply swf_sset | apply swf_ssetMany | apply swf_filter | apply swf_foldl | apply swf_nil | apply swf_ite)

theorem State.overtempEnd_keeps (z : State) (s : State) (m : Nat) (hz : Keeps z s) : Keeps z (State.overtempEnd s m) := by
  unfold State.overtempEnd
  repeat' with_reducible (first | assumption | intro _ | apply State.setFout_keeps | apply keeps_ite | apply keeps_ite_fst | apply keeps_foldl | apply keeps_foldl_fst | split | (dsimp only; split) | apply keeps_with | apply swf_sset | apply swf_ssetMany | apply swf_filter | apply swf_foldl | apply swf_nil | apply swf_ite)

theorem State.foWire_keeps (z : State) (s : State) (m : Nat) (ua mv : Int) (hz : Keeps z s) : Keeps z (State.foWire s m ua mv) := by
  unfold State.foWire
  repeat' with_reducible (first | assumption | intro _ | apply State.foNews_keeps | apply State.setFout_keeps | apply keeps_ite | apply keeps_ite_fst | apply keeps_foldl | apply keeps_foldl_fst | split | (dsimp only; split) | apply keeps_with | apply swf_sset | apply swf_ssetMany | apply swf_filter | apply swf_foldl | apply swf_nil | apply swf_ite)

theorem State.fieldUv_keeps (z : State) (s : State) (hz : Keeps z s) : Keeps z (State.fieldUv s) := by
  unfold State.fieldUv
  repeat' with_reducible (first | assumption | intro _ | apply State.foNews_keeps | apply keeps_ite | apply keeps_ite_fst | apply keeps_foldl | apply keeps_foldl_fst | split | (dsimp only; split) | apply keeps_with | apply swf_sset | apply swf_ssetMany | apply swf_filter | apply swf_foldl | apply swf_nil | apply swf_ite)

theorem State.fieldUvEnd_keeps (z : State) (s : State) (hz : Keeps z s) : Keeps z (State.fieldUvEnd s) := by
  unfold State.fieldUvEnd
  repeat' with_reducible (first | assumption | intro _ | apply keeps_ite | apply keeps_ite_fst | apply keeps_foldl | apply keeps_foldl_fst | split | (dsimp only; split) | apply keeps_with | apply swf_sset | apply swf_ssetMany | apply swf_filter | apply swf_foldl | apply swf_nil | apply swf_ite)

theorem State.foSeal_keeps (z : State) (s : State) (i m code : Nat) (hz : Keeps z s) : Keeps z (State.foSeal s i m code) := by
  unfold State.foSeal
  repeat' with_reducible (first | assumption | intro _ | apply State.sealEntry_keeps | apply State.setFld_keeps | apply State.raise_keeps | apply keeps_ite | apply keeps_ite_fst | apply keeps_foldl | apply keeps_foldl_fst | split | (dsimp only; split) | apply keeps_with | apply swf_sset | apply swf_ssetMany | apply swf_filter | apply swf_foldl | apply swf_nil | apply swf_ite)

theorem State.foCheck_keeps (z : State) (s : State) (i : Nat) (mv ma vfield : Int) (hz : Keeps z s) : Keeps z (State.foCheck s i mv ma vfield) := by
  unfold State.foCheck
  repeat' with_reducible (first | assumption | intro _ | apply Run.st_keeps | apply State.setSfld_keeps | apply State.hold_keeps | apply State.foSeal_keeps | apply keeps_ite | apply keeps_ite_fst | apply keeps_foldl | apply keeps_foldl_fst | split | (dsimp only; split) | apply keeps_with | apply swf_sset | apply swf_ssetMany | apply swf_filter | apply swf_foldl | apply swf_nil | apply swf_ite)

theorem State.fdShadowWrite_keeps (z : State) (s : State) (hz : Keeps z s) : Keeps z (State.fdShadowWrite s) := by
  unfold State.fdShadowWrite
  repeat' with_reducible (first | assumption | intro _ | apply State.setFld_keeps | apply keeps_ite | apply keeps_ite_fst | apply keeps_foldl | apply keeps_foldl_fst | split | (dsimp only; split) | apply keeps_with | apply swf_sset | apply swf_ssetMany | apply swf_filter | apply swf_foldl | apply swf_nil | apply swf_ite)

theorem State.fdShadowDone_keeps (z : State) (s : State) (ok : Bool) (hz : Keeps z s) : Keeps z (State.fdShadowDone s ok) := by
  unfold State.fdShadowDone
  repeat' with_reducible (first | assumption | intro _ | apply State.setFld_keeps | apply keeps_ite | apply keeps_ite_fst | apply keeps_foldl | apply keeps_foldl_fst | split | (dsimp only; split) | apply keeps_with | apply swf_sset | apply swf_ssetMany | apply swf_filter | apply swf_foldl | apply swf_nil | apply swf_ite)

theorem State.fdFromShadow_keeps (z : State) (s : State) (hz : Keeps z s) : Keeps z (State.fdFromShadow s) := by
  unfold State.fdFromShadow
  repeat' with_reducible (first | assumption | intro _ | apply State.setReg_keeps | apply keeps_ite | apply keeps_ite_fst | apply keeps_foldl | apply keeps_foldl_fst | split | (dsimp only; split) | apply keeps_with | apply swf_sset | apply swf_ssetMany | apply swf_filter | apply swf_foldl | apply swf_nil | apply swf_ite)

theorem State.fdPowerOn_keeps (z : State) (s : State) (hz : Keeps z s) : Keeps z (State.fdPowerOn s) := by
  unfold State.fdPowerOn
  repeat' with_reducible (first | assumption | intro _ | apply State.fdFromShadow_keeps | apply State.setFld_keeps | apply State.raise_keeps | apply keeps_ite | apply keeps_ite_fst | apply keeps_foldl | apply keeps_foldl_fst | split | (dsimp only; split) | apply keeps_with | apply swf_sset | apply swf_ssetMany | apply swf_filter | apply swf_foldl | apply swf_nil | apply swf_ite)

theorem State.foTake_keeps (z : State) (s : State) (hz : Keeps z s) : Keeps z (State.foTake s) := by
  unfold State.foTake
  repeat' with_reducible (first | assumption | intro _ | apply State.unlatch_keeps | apply State.setFout_keeps | apply State.setReg_keeps | apply State.fdShadowWrite_keeps | apply keeps_ite | apply keeps_ite_fst | apply keeps_foldl | apply keeps_foldl_fst | split | (dsimp only; split) | apply keeps_with | apply swf_sset | apply swf_ssetMany | apply swf_filter | apply swf_foldl | apply swf_nil | apply swf_ite)

theorem State.foCommands_keeps (z : State) (s : State) (hz : Keeps z s) : Keeps z (State.foCommands s) := by
  unfold State.foCommands
  repeat' with_reducible (first | assumption | intro _ | apply State.setFout_keeps | apply keeps_ite | apply keeps_ite_fst | apply keeps_foldl | apply keeps_foldl_fst | split | (dsimp only; split) | apply keeps_with | apply swf_sset | apply swf_ssetMany | apply swf_filter | apply swf_foldl | apply swf_nil | apply swf_ite)

theorem State.outboundFrame_keeps (z : State) (s : State) (ok : Bool) (hz : Keeps z s) : Keeps z (State.outboundFrame s ok) := by
  unfold State.outboundFrame
  repeat' with_reducible (first | assumption | intro _ | apply State.heardSeq_keeps | apply State.foTake_keeps | apply State.foHear_keeps | apply State.foCommands_keeps | apply keeps_ite | apply keeps_ite_fst | apply keeps_foldl | apply keeps_foldl_fst | split | (dsimp only; split) | apply keeps_with | apply swf_sset | apply swf_ssetMany | apply swf_filter | apply swf_foldl | apply swf_nil | apply swf_ite)

theorem State.cosBit_keeps (z : State) (s : State) (n : Nat) (hz : Keeps z s) : Keeps z (State.cosBit s n) := by
  unfold State.cosBit
  repeat' with_reducible (first | assumption | intro _ | apply State.setFbit_keeps | apply State.raise_keeps | apply State.ctxIrq_keeps | apply keeps_ite | apply keeps_ite_fst | apply keeps_foldl | apply keeps_foldl_fst | split | (dsimp only; split) | apply keeps_with | apply swf_sset | apply swf_ssetMany | apply swf_filter | apply swf_foldl | apply swf_nil | apply swf_ite)

theorem State.inputEdge_keeps (z : State) (s : State) (n : Nat) (rising : Bool) (t : Time) (hz : Keeps z s) : Keeps z (State.inputEdge s n rising t) := by
  unfold State.inputEdge
  repeat' with_reducible (first | assumption | intro _ | apply State.setFbit_keeps | apply State.setBit_keeps | apply State.setFld_keeps | apply State.count_keeps | apply State.setInput_keeps | apply State.hold_keeps | apply State.cosBit_keeps | apply State.counterEdge_keeps | apply State.newSample_keeps | apply State.speedEdge_keeps | apply keeps_ite | apply keeps_ite_fst | apply keeps_foldl | apply keeps_foldl_fst | split | (dsimp only; split) | apply keeps_with | apply swf_sset | apply swf_ssetMany | apply swf_filter | apply swf_foldl | apply swf_nil | apply swf_ite)

theorem State.inputReport_keeps (z : State) (s : State) (n : Nat) (hz : Keeps z s) : Keeps z (State.inputReport s n) := by
  unfold State.inputReport
  repeat' with_reducible (first | assumption | intro _ | apply State.setFld_keeps | apply State.setFbit_keeps | apply State.setBit_keeps | apply State.count_keeps | apply keeps_ite | apply keeps_ite_fst | apply keeps_foldl | apply keeps_foldl_fst | split | (dsimp only; split) | apply keeps_with | apply swf_sset | apply swf_ssetMany | apply swf_filter | apply swf_foldl | apply swf_nil | apply swf_ite)

theorem State.outputReport_keeps (z : State) (s : State) (m : Nat) (hz : Keeps z s) : Keeps z (State.outputReport s m) := by
  unfold State.outputReport
  repeat' with_reducible (first | assumption | intro _ | apply State.setReg_keeps | apply State.setFld_keeps | apply State.raiseIf_keeps | apply State.bump_keeps | apply State.setFout_keeps | apply keeps_ite | apply keeps_ite_fst | apply keeps_foldl | apply keeps_foldl_fst | split | (dsimp only; split) | apply keeps_with | apply swf_sset | apply swf_ssetMany | apply swf_filter | apply swf_foldl | apply swf_nil | apply swf_ite)

theorem State.vfieldReport_keeps (z : State) (s : State) (hz : Keeps z s) : Keeps z (State.vfieldReport s) := by
  unfold State.vfieldReport
  repeat' with_reducible (first | assumption | intro _ | apply State.setBit_keeps | apply State.raiseIf_keeps | apply keeps_ite | apply keeps_ite_fst | apply keeps_foldl | apply keeps_foldl_fst | split | (dsimp only; split) | apply keeps_with | apply swf_sset | apply swf_ssetMany | apply swf_filter | apply swf_foldl | apply swf_nil | apply swf_ite)

theorem State.edgesSent_keeps (z : State) (s : State) (hz : Keeps z s) : Keeps z (State.edgesSent s) := by
  unfold State.edgesSent
  repeat' with_reducible (first | assumption | intro _ | apply State.setInput_keeps | apply keeps_ite | apply keeps_ite_fst | apply keeps_foldl | apply keeps_foldl_fst | split | (dsimp only; split) | apply keeps_with | apply swf_sset | apply swf_ssetMany | apply swf_filter | apply swf_foldl | apply swf_nil | apply swf_ite)

theorem State.inboundFrame_keeps (z : State) (s : State) (f : BarrierIn) (hz : Keeps z s) : Keeps z (State.inboundFrame s f) := by
  unfold State.inboundFrame
  repeat' with_reducible (first | assumption | intro _ | apply State.edgesSent_keeps | apply State.bump_keeps | apply State.setFld_keeps | apply State.setSfld_keeps | apply State.vfieldReport_keeps | apply State.inputReport_keeps | apply State.inputEdge_keeps | apply State.setBit_keeps | apply State.setFbit_keeps | apply State.raise_keeps | apply State.outputReport_keeps | apply keeps_ite | apply keeps_ite_fst | apply keeps_foldl | apply keeps_foldl_fst | split | (dsimp only; split) | apply keeps_with | apply swf_sset | apply swf_ssetMany | apply swf_filter | apply swf_foldl | apply swf_nil | apply swf_ite)

theorem State.barrierTimeout_keeps (z : State) (s : State) (hz : Keeps z s) : Keeps z (State.barrierTimeout s) := by
  unfold State.barrierTimeout
  repeat' with_reducible (first | assumption | intro _ | apply State.setFld_keeps | apply State.raise_keeps | apply State.canvas_keeps | apply keeps_ite | apply keeps_ite_fst | apply keeps_foldl | apply keeps_foldl_fst | split | (dsimp only; split) | apply keeps_with | apply swf_sset | apply swf_ssetMany | apply swf_filter | apply swf_foldl | apply swf_nil | apply swf_ite)

theorem State.fdWrite_keeps (z : State) (s : State) (sup own : Bool) (a v : Nat) (hz : Keeps z s) : Keeps z (State.fdWrite s sup own a v) := by
  unfold State.fdWrite
  repeat' with_reducible (first | assumption | intro _ | apply State.raise_keeps | apply State.setFld_keeps | apply State.writeCodes_keeps | apply State.foDuty_keeps | apply State.unlatch_keeps | apply keeps_ite | apply keeps_ite_fst | apply keeps_foldl | apply keeps_foldl_fst | split | (dsimp only; split) | apply keeps_with | apply swf_sset | apply swf_ssetMany | apply swf_filter | apply swf_foldl | apply swf_nil | apply swf_ite)

end Sys2Proof.Machine
end

