-- ==== Sys2Proof/Laws/KeepsBus.lean ====
section
/-! SUPPORT. Every operation of Machine/Bus.lean keeps the variant, the queue and the canonical form of the register table. -/

namespace Sys2Proof.Machine

set_option linter.all false
set_option Elab.async false

theorem State.setPort_keeps (z : State) (s : State) (p : Nat) (x : PortState) (hz : Keeps z s) : Keeps z (State.setPort s p x) := by
  unfold State.setPort
  repeat' with_reducible (first | assumption | intro _ | apply keeps_ite | apply keeps_ite_fst | apply keeps_foldl | apply keeps_foldl_fst | split | (dsimp only; split) | apply keeps_with | apply swf_sset | apply swf_ssetMany | apply swf_filter | apply swf_foldl | apply swf_nil | apply swf_ite)

theorem State.setTxObj_keeps (z : State) (s : State) (k : Nat) (x : TxObj) (hz : Keeps z s) : Keeps z (State.setTxObj s k x) := by
  unfold State.setTxObj
  repeat' with_reducible (first | assumption | intro _ | apply keeps_ite | apply keeps_ite_fst | apply keeps_foldl | apply keeps_foldl_fst | split | (dsimp only; split) | apply keeps_with | apply swf_sset | apply swf_ssetMany | apply swf_filter | apply swf_foldl | apply swf_nil | apply swf_ite)

theorem State.busRefresh_keeps (z : State) (s : State) (p : Nat) (hz : Keeps z s) : Keeps z (State.busRefresh s p) := by
  unfold State.busRefresh
  repeat' with_reducible (first | assumption | intro _ | apply State.setFld_keeps | apply State.setBit_keeps | apply keeps_ite | apply keeps_ite_fst | apply keeps_foldl | apply keeps_foldl_fst | split | (dsimp only; split) | apply keeps_with | apply swf_sset | apply swf_ssetMany | apply swf_filter | apply swf_foldl | apply swf_nil | apply swf_ite)

theorem State.complete_keeps (z : State) (s : State) (c tag flags status r0 r1 : Nat) (hz : Keeps z s) : Keeps z (State.complete s c tag flags status r0 r1) := by
  unfold State.complete
  repeat' with_reducible (first | assumption | intro _ | apply State.hostWriteMem_keeps | apply State.setFld_keeps | apply State.bump_keeps | apply State.ctxIrq_keeps | apply State.dmaError_keeps | apply keeps_ite | apply keeps_ite_fst | apply keeps_foldl | apply keeps_foldl_fst | split | (dsimp only; split) | apply keeps_with | apply swf_sset | apply swf_ssetMany | apply swf_filter | apply swf_foldl | apply swf_nil | apply swf_ite)

theorem State.completeLater_keeps (z : State) (s : State) (c tag flags status r0 r1 : Nat) (hz : Keeps z s) : Keeps z (State.completeLater s c tag flags status r0 r1) := by
  unfold State.completeLater
  repeat' with_reducible (first | assumption | intro _ | apply State.complete_keeps | apply keeps_ite | apply keeps_ite_fst | apply keeps_foldl | apply keeps_foldl_fst | split | (dsimp only; split) | apply keeps_with | apply swf_sset | apply swf_ssetMany | apply swf_filter | apply swf_foldl | apply swf_nil | apply swf_ite)

theorem State.finish_keeps (z : State) (s : State) (c tag flags status : Nat) (hz : Keeps z s) : Keeps z (State.finish s c tag flags status) := by
  unfold State.finish
  repeat' with_reducible (first | assumption | intro _ | apply State.completeLater_keeps | apply keeps_ite | apply keeps_ite_fst | apply keeps_foldl | apply keeps_foldl_fst | split | (dsimp only; split) | apply keeps_with | apply swf_sset | apply swf_ssetMany | apply swf_filter | apply swf_foldl | apply swf_nil | apply swf_ite)

theorem State.depart_keeps (z : State) (s : State) (e : QEntry) (status : Nat) (hz : Keeps z s) : Keeps z (State.depart s e status) := by
  unfold State.depart
  repeat' with_reducible (first | assumption | intro _ | apply State.finish_keeps | apply keeps_ite | apply keeps_ite_fst | apply keeps_foldl | apply keeps_foldl_fst | split | (dsimp only; split) | apply keeps_with | apply swf_sset | apply swf_ssetMany | apply swf_filter | apply swf_foldl | apply swf_nil | apply swf_ite)

theorem State.portOff_keeps (z : State) (s : State) (p : Nat) (hz : Keeps z s) : Keeps z (State.portOff s p) := by
  unfold State.portOff
  repeat' with_reducible (first | assumption | intro _ | apply State.depart_keeps | apply State.setPort_keeps | apply State.setReg_keeps | apply State.busRefresh_keeps | apply keeps_ite | apply keeps_ite_fst | apply keeps_foldl | apply keeps_foldl_fst | split | (dsimp only; split) | apply keeps_with | apply swf_sset | apply swf_ssetMany | apply swf_filter | apply swf_foldl | apply swf_nil | apply swf_ite)

theorem State.portJoin_keeps (z : State) (s : State) (p : Nat) (hz : Keeps z s) : Keeps z (State.portJoin s p) := by
  unfold State.portJoin
  repeat' with_reducible (first | assumption | intro _ | apply State.setPort_keeps | apply State.setFld_keeps | apply keeps_ite | apply keeps_ite_fst | apply keeps_foldl | apply keeps_foldl_fst | split | (dsimp only; split) | apply keeps_with | apply swf_sset | apply swf_ssetMany | apply swf_filter | apply swf_foldl | apply swf_nil | apply swf_ite)

theorem State.portActive_keeps (z : State) (s : State) (p : Nat) (hz : Keeps z s) : Keeps z (State.portActive s p) := by
  unfold State.portActive
  repeat' with_reducible (first | assumption | intro _ | apply State.setFld_keeps | apply State.setPort_keeps | apply keeps_ite | apply keeps_ite_fst | apply keeps_foldl | apply keeps_foldl_fst | split | (dsimp only; split) | apply keeps_with | apply swf_sset | apply swf_ssetMany | apply swf_filter | apply swf_foldl | apply swf_nil | apply swf_ite)

theorem State.bpMode_keeps (z : State) (s : State) (p m : Nat) (hz : Keeps z s) : Keeps z (State.bpMode s p m) := by
  unfold State.bpMode
  repeat' with_reducible (first | assumption | intro _ | apply State.raise_keeps | apply State.setFld_keeps | apply Run.st_keeps | apply State.portOff_keeps | apply State.portJoin_keeps | apply State.setPort_keeps | apply State.portActive_keeps | apply keeps_ite | apply keeps_ite_fst | apply keeps_foldl | apply keeps_foldl_fst | split | (dsimp only; split) | apply keeps_with | apply swf_sset | apply swf_ssetMany | apply swf_filter | apply swf_foldl | apply swf_nil | apply swf_ite)

theorem State.bpRecover_keeps (z : State) (s : State) (p : Nat) (hz : Keeps z s) : Keeps z (State.bpRecover s p) := by
  unfold State.bpRecover
  repeat' with_reducible (first | assumption | intro _ | apply State.setFld_keeps | apply State.raise_keeps | apply keeps_ite | apply keeps_ite_fst | apply keeps_foldl | apply keeps_foldl_fst | split | (dsimp only; split) | apply keeps_with | apply swf_sset | apply swf_ssetMany | apply swf_filter | apply swf_foldl | apply swf_nil | apply swf_ite)

theorem State.integrated_keeps (z : State) (s : State) (p : Nat) (hz : Keeps z s) : Keeps z (State.integrated s p) := by
  unfold State.integrated
  repeat' with_reducible (first | assumption | intro _ | apply State.setFld_keeps | apply State.portActive_keeps | apply keeps_ite | apply keeps_ite_fst | apply keeps_foldl | apply keeps_foldl_fst | split | (dsimp only; split) | apply keeps_with | apply swf_sset | apply swf_ssetMany | apply swf_filter | apply swf_foldl | apply swf_nil | apply swf_ite)

theorem State.busErrState_keeps (z : State) (s : State) (p tec recv : Nat) (hz : Keeps z s) : Keeps z (State.busErrState s p tec recv) := by
  unfold State.busErrState
  repeat' with_reducible (first | assumption | intro _ | apply State.setFld_keeps | apply State.setBit_keeps | apply State.raiseIf_keeps | apply keeps_ite | apply keeps_ite_fst | apply keeps_foldl | apply keeps_foldl_fst | split | (dsimp only; split) | apply keeps_with | apply swf_sset | apply swf_ssetMany | apply swf_filter | apply swf_foldl | apply swf_nil | apply swf_ite)

theorem State.recovered_keeps (z : State) (s : State) (p : Nat) (hz : Keeps z s) : Keeps z (State.recovered s p) := by
  unfold State.recovered
  repeat' with_reducible (first | assumption | intro _ | apply State.busErrState_keeps | apply State.portActive_keeps | apply State.raise_keeps | apply keeps_ite | apply keeps_ite_fst | apply keeps_foldl | apply keeps_foldl_fst | split | (dsimp only; split) | apply keeps_with | apply swf_sset | apply swf_ssetMany | apply swf_filter | apply swf_foldl | apply swf_nil | apply swf_ite)

theorem State.rxStore_keeps (z : State) (s : State) (p o : Nat) (f : BusFrame) (t : Time) (hz : Keeps z s) : Keeps z (State.rxStore s p o f t) := by
  unfold State.rxStore
  repeat' with_reducible (first | assumption | intro _ | apply State.setRxObj_keeps | apply State.take_keeps | apply State.bump_keeps | apply State.raise_keeps | apply State.count_keeps | apply State.newSampleAt_keeps | apply State.streamCtx_keeps | apply keeps_ite | apply keeps_ite_fst | apply keeps_foldl | apply keeps_foldl_fst | split | (dsimp only; split) | apply keeps_with | apply swf_sset | apply swf_ssetMany | apply swf_filter | apply swf_foldl | apply swf_nil | apply swf_ite)

theorem State.oneShotFail_keeps (z : State) (s : State) (p : Nat) (hz : Keeps z s) : Keeps z (State.oneShotFail s p) := by
  unfold State.oneShotFail
  repeat' with_reducible (first | assumption | intro _ | apply State.bump_keeps | apply State.raise_keeps | apply keeps_ite | apply keeps_ite_fst | apply keeps_foldl | apply keeps_foldl_fst | split | (dsimp only; split) | apply keeps_with | apply swf_sset | apply swf_ssetMany | apply swf_filter | apply swf_foldl | apply swf_nil | apply swf_ite)

theorem State.missed_keeps (z : State) (s : State) (p : Nat) (hz : Keeps z s) : Keeps z (State.missed s p) := by
  unfold State.missed
  repeat' with_reducible (first | assumption | intro _ | apply State.bump_keeps | apply State.raise_keeps | apply keeps_ite | apply keeps_ite_fst | apply keeps_foldl | apply keeps_foldl_fst | split | (dsimp only; split) | apply keeps_with | apply swf_sset | apply swf_ssetMany | apply swf_filter | apply swf_foldl | apply swf_nil | apply swf_ite)

theorem State.leave_keeps (z : State) (s : State) (p : Nat) (e : QEntry) (status : Nat) (hz : Keeps z s) : Keeps z (State.leave s p e status) := by
  unfold State.leave
  repeat' with_reducible (first | assumption | intro _ | apply State.setPort_keeps | apply State.busRefresh_keeps | apply State.depart_keeps | apply keeps_ite | apply keeps_ite_fst | apply keeps_foldl | apply keeps_foldl_fst | split | (dsimp only; split) | apply keeps_with | apply swf_sset | apply swf_ssetMany | apply swf_filter | apply swf_foldl | apply swf_nil | apply swf_ite)

theorem State.modeIdle_keeps (z : State) (s : State) (p : Nat) (hz : Keeps z s) : Keeps z (State.modeIdle s p) := by
  unfold State.modeIdle
  repeat' with_reducible (first | assumption | intro _ | apply Run.st_keeps | apply State.setPort_keeps | apply State.portActive_keeps | apply State.setFld_keeps | apply keeps_ite | apply keeps_ite_fst | apply keeps_foldl | apply keeps_foldl_fst | split | (dsimp only; split) | apply keeps_with | apply swf_sset | apply swf_ssetMany | apply swf_filter | apply swf_foldl | apply swf_nil | apply swf_ite)

theorem State.unsend_keeps (z : State) (s : State) (p : Nat) (hz : Keeps z s) : Keeps z (State.unsend s p) := by
  unfold State.unsend
  repeat' with_reducible (first | assumption | intro _ | apply State.setPort_keeps | apply State.oneShotFail_keeps | apply State.leave_keeps | apply keeps_ite | apply keeps_ite_fst | apply keeps_foldl | apply keeps_foldl_fst | split | (dsimp only; split) | apply keeps_with | apply swf_sset | apply swf_ssetMany | apply swf_filter | apply swf_foldl | apply swf_nil | apply swf_ite)

theorem State.refNow_keeps (z : State) (s : State) (p : Nat) (hz : Keeps z s) : Keeps z (State.refNow s p) := by
  unfold State.refNow
  repeat' with_reducible (first | assumption | intro _ | apply State.setPort_keeps | apply keeps_ite | apply keeps_ite_fst | apply keeps_foldl | apply keeps_foldl_fst | split | (dsimp only; split) | apply keeps_with | apply swf_sset | apply swf_ssetMany | apply swf_filter | apply swf_foldl | apply swf_nil | apply swf_ite)

theorem State.windowEnds_keeps (z : State) (s : State) (p : Nat) (hz : Keeps z s) : Keeps z (State.windowEnds s p) := by
  unfold State.windowEnds
  repeat' with_reducible (first | assumption | intro _ | apply State.unsend_keeps | apply State.setPort_keeps | apply State.oneShotFail_keeps | apply State.missed_keeps | apply State.modeIdle_keeps | apply State.refNow_keeps | apply keeps_ite | apply keeps_ite_fst | apply keeps_foldl | apply keeps_foldl_fst | split | (dsimp only; split) | apply keeps_with | apply swf_sset | apply swf_ssetMany | apply swf_filter | apply swf_foldl | apply swf_nil | apply swf_ite)

theorem State.busWindows_keeps (z : State) (s : State) (hz : Keeps z s) : Keeps z (State.busWindows s) := by
  unfold State.busWindows
  repeat' with_reducible (first | assumption | intro _ | apply State.windowEnds_keeps | apply keeps_ite | apply keeps_ite_fst | apply keeps_foldl | apply keeps_foldl_fst | split | (dsimp only; split) | apply keeps_with | apply swf_sset | apply swf_ssetMany | apply swf_filter | apply swf_foldl | apply swf_nil | apply swf_ite)

theorem State.cycleBegins_keeps (z : State) (s : State) (p cycle : Nat) (sof : Time) (pri : Nat) (hz : Keeps z s) : Keeps z (State.cycleBegins s p cycle sof pri) := by
  unfold State.cycleBegins
  repeat' with_reducible (first | assumption | intro _ | apply State.windowEnds_keeps | apply State.setPort_keeps | apply State.setFld_keeps | apply State.setReg64_keeps | apply keeps_ite | apply keeps_ite_fst | apply keeps_foldl | apply keeps_foldl_fst | split | (dsimp only; split) | apply keeps_with | apply swf_sset | apply swf_ssetMany | apply swf_filter | apply swf_foldl | apply swf_nil | apply swf_ite)

theorem State.refReceived_keeps (z : State) (s : State) (p pri : Nat) (f : BusFrame) (hz : Keeps z s) : Keeps z (State.refReceived s p pri f) := by
  unfold State.refReceived
  repeat' with_reducible (first | assumption | intro _ | apply State.setFld_keeps | apply State.raise_keeps | apply State.setPort_keeps | apply State.cycleBegins_keeps | apply keeps_ite | apply keeps_ite_fst | apply keeps_foldl | apply keeps_foldl_fst | split | (dsimp only; split) | apply keeps_with | apply swf_sset | apply swf_ssetMany | apply swf_filter | apply swf_foldl | apply swf_nil | apply swf_ite)

theorem State.rxFrame_keeps (z : State) (s : State) (p : Nat) (f : BusFrame) (t : Time) (hz : Keeps z s) : Keeps z (State.rxFrame s p f t) := by
  unfold State.rxFrame
  repeat' with_reducible (first | assumption | intro _ | apply State.rxStore_keeps | apply State.bump_keeps | apply keeps_ite | apply keeps_ite_fst | apply keeps_foldl | apply keeps_foldl_fst | split | (dsimp only; split) | apply keeps_with | apply swf_sset | apply swf_ssetMany | apply swf_filter | apply swf_foldl | apply swf_nil | apply swf_ite)

theorem State.goodFrame_keeps (z : State) (s : State) (p : Nat) (hz : Keeps z s) : Keeps z (State.goodFrame s p) := by
  unfold State.goodFrame
  repeat' with_reducible (first | assumption | intro _ | apply State.busErrState_keeps | apply keeps_ite | apply keeps_ite_fst | apply keeps_foldl | apply keeps_foldl_fst | split | (dsimp only; split) | apply keeps_with | apply swf_sset | apply swf_ssetMany | apply swf_filter | apply swf_foldl | apply swf_nil | apply swf_ite)

theorem State.received_keeps (z : State) (s : State) (p : Nat) (f : BusFrame) (hz : Keeps z s) : Keeps z (State.received s p f) := by
  unfold State.received
  repeat' with_reducible (first | assumption | intro _ | apply Run.st_keeps | apply State.bump_keeps | apply State.refReceived_keeps | apply State.hold_keeps | apply State.raise_keeps | apply State.rxFrame_keeps | apply keeps_ite | apply keeps_ite_fst | apply keeps_foldl | apply keeps_foldl_fst | split | (dsimp only; split) | apply keeps_with | apply swf_sset | apply swf_ssetMany | apply swf_filter | apply swf_foldl | apply swf_nil | apply swf_ite)

theorem State.ownEnds_keeps (z : State) (s : State) (p : Nat) (hz : Keeps z s) : Keeps z (State.ownEnds s p) := by
  unfold State.ownEnds
  repeat' with_reducible (first | assumption | intro _ | apply State.setPort_keeps | apply keeps_ite | apply keeps_ite_fst | apply keeps_foldl | apply keeps_foldl_fst | split | (dsimp only; split) | apply keeps_with | apply swf_sset | apply swf_ssetMany | apply swf_filter | apply swf_foldl | apply swf_nil | apply swf_ite)

theorem State.freeNext_keeps (z : State) (s : State) (p : Nat) (x0 : Nat) (hz : Keeps z s) : Keeps z (State.freeNext s p x0) := by
  induction x0 generalizing s with
  | zero => exact hz
  | succ n ih =>
    unfold State.freeNext
    dsimp only
    split
    · exact hz
    · split
      · exact State.setPort_keeps _ _ _ _ hz
      · split
        · exact ih _ (State.leave_keeps _ _ _ _ _ (State.oneShotFail_keeps _ _ _ hz))
        · split
          · exact State.missed_keeps _ _ _ hz
          · exact hz

theorem State.windowStart_keeps (z : State) (s : State) (p w : Nat) (hz : Keeps z s) : Keeps z (State.windowStart s p w) := by
  unfold State.windowStart
  repeat' with_reducible (first | assumption | intro _ | apply State.windowEnds_keeps | apply State.setFld_keeps | apply State.setPort_keeps | apply State.oneShotFail_keeps | apply State.leave_keeps | apply State.missed_keeps | apply Run.st_keeps | apply State.freeNext_keeps | apply keeps_ite | apply keeps_ite_fst | apply keeps_foldl | apply keeps_foldl_fst | split | (dsimp only; split) | apply keeps_with | apply swf_sset | apply swf_ssetMany | apply swf_filter | apply swf_foldl | apply swf_nil | apply swf_ite)

theorem State.sentDone_keeps (z : State) (s : State) (p : Nat) (y : Sending) (sof : Time) (hz : Keeps z s) : Keeps z (State.sentDone s p y sof) := by
  unfold State.sentDone
  repeat' with_reducible (first | assumption | intro _ | apply State.busErrState_keeps | apply State.count_keeps | apply State.setTxObj_keeps | apply State.setFld_keeps | apply State.raiseIf_keeps | apply State.cycleBegins_keeps | apply State.setPort_keeps | apply State.leave_keeps | apply State.busRefresh_keeps | apply keeps_ite | apply keeps_ite_fst | apply keeps_foldl | apply keeps_foldl_fst | split | (dsimp only; split) | apply keeps_with | apply swf_sset | apply swf_ssetMany | apply swf_filter | apply swf_foldl | apply swf_nil | apply swf_ite)

theorem State.sendFailed_keeps (z : State) (s : State) (p : Nat) (y : Sending) (arb : Bool) (hz : Keeps z s) : Keeps z (State.sendFailed s p y arb) := by
  unfold State.sendFailed
  repeat' with_reducible (first | assumption | intro _ | apply State.setPort_keeps | apply State.oneShotFail_keeps | apply State.leave_keeps | apply State.freeNext_keeps | apply State.missed_keeps | apply State.setFld_keeps | apply keeps_ite | apply keeps_ite_fst | apply keeps_foldl | apply keeps_foldl_fst | split | (dsimp only; split) | apply keeps_with | apply swf_sset | apply swf_ssetMany | apply swf_filter | apply swf_foldl | apply swf_nil | apply swf_ite)

theorem State.txDone_keeps (z : State) (s : State) (p : Nat) (r : TxResult) (hz : Keeps z s) : Keeps z (State.txDone s p r) := by
  unfold State.txDone
  repeat' with_reducible (first | assumption | intro _ | apply State.ownEnds_keeps | apply State.setPort_keeps | apply State.sentDone_keeps | apply State.freeNext_keeps | apply State.sendFailed_keeps | apply State.modeIdle_keeps | apply State.refNow_keeps | apply State.busRefresh_keeps | apply keeps_ite | apply keeps_ite_fst | apply keeps_foldl | apply keeps_foldl_fst | split | (dsimp only; split) | apply keeps_with | apply swf_sset | apply swf_ssetMany | apply swf_filter | apply swf_foldl | apply swf_nil | apply swf_ite)

theorem State.sendRef_keeps (z : State) (s : State) (p cycle : Nat) (at' : Time) (hz : Keeps z s) : Keeps z (State.sendRef s p cycle at') := by
  unfold State.sendRef
  repeat' with_reducible (first | assumption | intro _ | apply State.setPort_keeps | apply keeps_ite | apply keeps_ite_fst | apply keeps_foldl | apply keeps_foldl_fst | split | (dsimp only; split) | apply keeps_with | apply swf_sset | apply swf_ssetMany | apply swf_filter | apply swf_foldl | apply swf_nil | apply swf_ite)

theorem State.refDue_keeps (z : State) (s : State) (p : Nat) (hz : Keeps z s) : Keeps z (State.refDue s p) := by
  unfold State.refDue
  repeat' with_reducible (first | assumption | intro _ | apply State.sendRef_keeps | apply keeps_ite | apply keeps_ite_fst | apply keeps_foldl | apply keeps_foldl_fst | split | (dsimp only; split) | apply keeps_with | apply swf_sset | apply swf_ssetMany | apply swf_filter | apply swf_foldl | apply swf_nil | apply swf_ite)

theorem State.refTimeout_keeps (z : State) (s : State) (p : Nat) (hz : Keeps z s) : Keeps z (State.refTimeout s p) := by
  unfold State.refTimeout
  repeat' with_reducible (first | assumption | intro _ | apply State.setFld_keeps | apply State.raise_keeps | apply State.sendRef_keeps | apply keeps_ite | apply keeps_ite_fst | apply keeps_foldl | apply keeps_foldl_fst | split | (dsimp only; split) | apply keeps_with | apply swf_sset | apply swf_ssetMany | apply swf_filter | apply swf_foldl | apply swf_nil | apply swf_ite)

theorem State.busOff_keeps (z : State) (s : State) (p : Nat) (y : Option Sending) (hz : Keeps z s) : Keeps z (State.busOff s p y) := by
  unfold State.busOff
  repeat' with_reducible (first | assumption | intro _ | apply State.unsend_keeps | apply State.setPort_keeps | apply State.oneShotFail_keeps | apply State.leave_keeps | apply State.busRefresh_keeps | apply State.raise_keeps | apply State.canvas_keeps | apply State.setFld_keeps | apply keeps_ite | apply keeps_ite_fst | apply keeps_foldl | apply keeps_foldl_fst | split | (dsimp only; split) | apply keeps_with | apply swf_sset | apply swf_ssetMany | apply swf_filter | apply swf_foldl | apply swf_nil | apply swf_ite)

theorem State.busError_keeps (z : State) (s : State) (p : Nat) (e : BusErr) (hz : Keeps z s) : Keeps z (State.busError s p e) := by
  unfold State.busError
  repeat' with_reducible (first | assumption | intro _ | apply Run.st_keeps | apply State.unsend_keeps | apply State.setPort_keeps | apply State.bump_keeps | apply State.setFld_keeps | apply State.setBit_keeps | apply State.count_keeps | apply State.raiseIf_keeps | apply State.busErrState_keeps | apply State.busOff_keeps | apply State.ownEnds_keeps | apply State.sendFailed_keeps | apply State.modeIdle_keeps | apply State.refNow_keeps | apply State.busRefresh_keeps | apply keeps_ite | apply keeps_ite_fst | apply keeps_foldl | apply keeps_foldl_fst | split | (dsimp only; split) | apply keeps_with | apply swf_sset | apply swf_ssetMany | apply swf_filter | apply swf_foldl | apply swf_nil | apply swf_ite)

theorem State.viewResult_keeps (z : State) (s : State) (v r : Nat) (hz : Keeps z s) : Keeps z (State.viewResult s v r) := by
  unfold State.viewResult
  repeat' with_reducible (first | assumption | intro _ | apply State.setFld_keeps | apply keeps_ite | apply keeps_ite_fst | apply keeps_foldl | apply keeps_foldl_fst | split | (dsimp only; split) | apply keeps_with | apply swf_sset | apply swf_ssetMany | apply swf_filter | apply swf_foldl | apply swf_nil | apply swf_ite)

theorem State.setViewData_keeps (z : State) (s : State) (v : Nat) (bs : List Byte) (hz : Keeps z s) : Keeps z (State.setViewData s v bs) := by
  unfold State.setViewData
  repeat' with_reducible (first | assumption | intro _ | apply State.setReg_keeps | apply keeps_ite | apply keeps_ite_fst | apply keeps_foldl | apply keeps_foldl_fst | split | (dsimp only; split) | apply keeps_with | apply swf_sset | apply swf_ssetMany | apply swf_filter | apply swf_foldl | apply swf_nil | apply swf_ite)

theorem State.capture_keeps (z : State) (s : State) (v c p o : Nat) (tx : Bool) (hz : Keeps z s) : Keeps z (State.capture s v c p o tx) := by
  unfold State.capture
  repeat' with_reducible (first | assumption | intro _ | apply State.viewResult_keeps | apply State.setReg_keeps | apply State.setReg64_keeps | apply State.setViewData_keeps | apply State.setRxObj_keeps | apply keeps_ite | apply keeps_ite_fst | apply keeps_foldl | apply keeps_foldl_fst | split | (dsimp only; split) | apply keeps_with | apply swf_sset | apply swf_ssetMany | apply swf_filter | apply swf_foldl | apply swf_nil | apply swf_ite)

theorem State.viewCommit_keeps (z : State) (s : State) (v c p o : Nat) (hz : Keeps z s) : Keeps z (State.viewCommit s v c p o) := by
  unfold State.viewCommit
  repeat' with_reducible (first | assumption | intro _ | apply State.viewResult_keeps | apply State.setTxObj_keeps | apply State.take_keeps | apply keeps_ite | apply keeps_ite_fst | apply keeps_foldl | apply keeps_foldl_fst | split | (dsimp only; split) | apply keeps_with | apply swf_sset | apply swf_ssetMany | apply swf_filter | apply swf_foldl | apply swf_nil | apply swf_ite)

theorem State.enqueue_keeps (z : State) (s : State) (p : Nat) (e : QEntry) (hz : Keeps z s) : Keeps z (State.enqueue s p e).1 := by
  unfold State.enqueue
  repeat' with_reducible (first | assumption | intro _ | apply State.bump_keeps | apply State.setPort_keeps | apply State.busRefresh_keeps | apply State.idle_keeps | apply State.freeNext_keeps | apply keeps_ite | apply keeps_ite_fst | apply keeps_foldl | apply keeps_foldl_fst | split | (dsimp only; split) | apply keeps_with | apply swf_sset | apply swf_ssetMany | apply swf_filter | apply swf_foldl | apply swf_nil | apply swf_ite)

theorem State.viewEnqueue_keeps (z : State) (s : State) (v c p : Nat) (hz : Keeps z s) : Keeps z (State.viewEnqueue s v c p) := by
  unfold State.viewEnqueue
  repeat' with_reducible (first | assumption | intro _ | apply State.enqueue_keeps | apply State.take_keeps | apply State.viewResult_keeps | apply keeps_ite | apply keeps_ite_fst | apply keeps_foldl | apply keeps_foldl_fst | split | (dsimp only; split) | apply keeps_with | apply swf_sset | apply swf_ssetMany | apply swf_filter | apply swf_foldl | apply swf_nil | apply swf_ite)

theorem State.viewSel_keeps (z : State) (s : State) (v c w : Nat) (hz : Keeps z s) : Keeps z (State.viewSel s v c w) := by
  unfold State.viewSel
  repeat' with_reducible (first | assumption | intro _ | apply State.capture_keeps | apply State.viewCommit_keeps | apply State.viewResult_keeps | apply State.viewEnqueue_keeps | apply keeps_ite | apply keeps_ite_fst | apply keeps_foldl | apply keeps_foldl_fst | split | (dsimp only; split) | apply keeps_with | apply swf_sset | apply swf_ssetMany | apply swf_filter | apply swf_foldl | apply swf_nil | apply swf_ite)

theorem State.bpWrite_keeps (z : State) (s : State) (c a v : Nat) (hz : Keeps z s) : Keeps z (State.bpWrite s c a v) := by
  unfold State.bpWrite
  repeat' with_reducible (first | assumption | intro _ | apply State.viewSel_keeps | apply State.writeCodes_keeps | apply State.raise_keeps | apply State.setFld_keeps | apply State.bpMode_keeps | apply State.bpRecover_keeps | apply keeps_ite | apply keeps_ite_fst | apply keeps_foldl | apply keeps_foldl_fst | split | (dsimp only; split) | apply keeps_with | apply swf_sset | apply swf_ssetMany | apply swf_filter | apply swf_foldl | apply swf_nil | apply swf_ite)

theorem State.busField_keeps (z : State) (s : State) (index field : Nat) (v : Int) (hz : Keeps z s) : Keeps z (State.busField s index field v) := by
  unfold State.busField
  repeat' with_reducible (first | assumption | intro _ | apply State.setTxObj_keeps | apply State.take_keeps | apply keeps_ite | apply keeps_ite_fst | apply keeps_foldl | apply keeps_foldl_fst | split | (dsimp only; split) | apply keeps_with | apply swf_sset | apply swf_ssetMany | apply swf_filter | apply swf_foldl | apply swf_nil | apply swf_ite)

end Sys2Proof.Machine
end

