-- ==== Sys2Proof/Laws/KeepsLoopRun.lean ====
section
/-! SUPPORT. Every operation of Machine/LoopRun.lean keeps the variant, the queue and the canonical form of the register table. -/

namespace Sys2Proof.Machine

set_option linter.all false
set_option Elab.async false

theorem State.slotDeliver_keeps (z : State) (s : State) (n p : Nat) (v : Int) (hz : Keeps z s) : Keeps z (State.slotDeliver s n p v) := by
  unfold State.slotDeliver
  repeat' with_reducible (first | assumption | intro _ | apply State.slotOut_keeps | apply State.slFlag_keeps | apply State.setSfld_keeps | apply State.lsDuty_keeps | apply State.foDuty_keeps | apply State.busField_keeps | apply State.newSample_keeps | apply keeps_ite | apply keeps_ite_fst | apply keeps_foldl | apply keeps_foldl_fst | split | (dsimp only; split) | apply keeps_with | apply swf_sset | apply swf_ssetMany | apply swf_filter | apply swf_foldl | apply swf_nil | apply swf_ite)

theorem State.writeSafe_keeps (z : State) (s : State) (n : Nat) (hz : Keeps z s) : Keeps z (State.writeSafe s n) := by
  unfold State.writeSafe
  repeat' with_reducible (first | assumption | intro _ | apply State.slotDeliver_keeps | apply keeps_ite | apply keeps_ite_fst | apply keeps_foldl | apply keeps_foldl_fst | split | (dsimp only; split) | apply keeps_with | apply swf_sset | apply swf_ssetMany | apply swf_filter | apply swf_foldl | apply swf_nil | apply swf_ite)

theorem State.slotStop_keeps (z : State) (s : State) (n : Nat) (hz : Keeps z s) : Keeps z (State.slotStop s n) := by
  unfold State.slotStop
  repeat' with_reducible (first | assumption | intro _ | apply State.setFld_keeps | apply State.setSlot_keeps | apply State.writeSafe_keeps | apply keeps_ite | apply keeps_ite_fst | apply keeps_foldl | apply keeps_foldl_fst | split | (dsimp only; split) | apply keeps_with | apply swf_sset | apply swf_ssetMany | apply swf_filter | apply swf_foldl | apply swf_nil | apply swf_ite)

theorem State.slotSafe_keeps (z : State) (s : State) (n cause : Nat) (hz : Keeps z s) : Keeps z (State.slotSafe s n cause) := by
  unfold State.slotSafe
  repeat' with_reducible (first | assumption | intro _ | apply Run.st_keeps | apply State.setFld_keeps | apply State.setSlot_keeps | apply State.writeSafe_keeps | apply keeps_ite | apply keeps_ite_fst | apply keeps_foldl | apply keeps_foldl_fst | split | (dsimp only; split) | apply keeps_with | apply swf_sset | apply swf_ssetMany | apply swf_filter | apply swf_foldl | apply swf_nil | apply swf_ite)

theorem State.slotClear_keeps (z : State) (s : State) (n cause : Nat) (hz : Keeps z s) : Keeps z (State.slotClear s n cause) := by
  unfold State.slotClear
  repeat' with_reducible (first | assumption | intro _ | apply State.setSlot_keeps | apply State.slotSoft_keeps | apply State.setFld_keeps | apply keeps_ite | apply keeps_ite_fst | apply keeps_foldl | apply keeps_foldl_fst | split | (dsimp only; split) | apply keeps_with | apply swf_sset | apply swf_ssetMany | apply swf_filter | apply swf_foldl | apply swf_nil | apply swf_ite)

theorem State.slotEn_keeps (z : State) (s : State) (n : Nat) (en : Bool) (hz : Keeps z s) : Keeps z (State.slotEn s n en) := by
  unfold State.slotEn
  repeat' with_reducible (first | assumption | intro _ | apply State.setBit_keeps | apply Run.st_keeps | apply State.slotStop_keeps | apply State.slotSoft_keeps | apply State.slotClear_keeps | apply keeps_ite | apply keeps_ite_fst | apply keeps_foldl | apply keeps_foldl_fst | split | (dsimp only; split) | apply keeps_with | apply swf_sset | apply swf_ssetMany | apply swf_filter | apply swf_foldl | apply swf_nil | apply swf_ite)

theorem State.slotsBoost_keeps (z : State) (s : State) (b : Nat) (hz : Keeps z s) : Keeps z (State.slotsBoost s b) := by
  unfold State.slotsBoost
  repeat' with_reducible (first | assumption | intro _ | apply State.slotSoft_keeps | apply State.slotStop_keeps | apply keeps_ite | apply keeps_ite_fst | apply keeps_foldl | apply keeps_foldl_fst | split | (dsimp only; split) | apply keeps_with | apply swf_sset | apply swf_ssetMany | apply swf_filter | apply swf_foldl | apply swf_nil | apply swf_ite)

theorem State.inputTimeout_keeps (z : State) (s : State) (n p : Nat) (hz : Keeps z s) : Keeps z (State.inputTimeout s n p) := by
  unfold State.inputTimeout
  repeat' with_reducible (first | assumption | intro _ | apply Run.st_keeps | apply State.setSlot_keeps | apply State.slFlag_keeps | apply State.slotSafe_keeps | apply State.raise_keeps | apply keeps_ite | apply keeps_ite_fst | apply keeps_foldl | apply keeps_foldl_fst | split | (dsimp only; split) | apply keeps_with | apply swf_sset | apply swf_ssetMany | apply swf_filter | apply swf_foldl | apply swf_nil | apply swf_ite)

theorem State.loopsStop_keeps (z : State) (s : State) (hz : Keeps z s) : Keeps z (State.loopsStop s) := by
  unfold State.loopsStop
  repeat' with_reducible (first | assumption | intro _ | apply State.slotSafe_keeps | apply keeps_ite | apply keeps_ite_fst | apply keeps_foldl | apply keeps_foldl_fst | split | (dsimp only; split) | apply keeps_with | apply swf_sset | apply swf_ssetMany | apply swf_filter | apply swf_foldl | apply swf_nil | apply swf_ite)

theorem State.loopsHeld_keeps (z : State) (s : State) (hz : Keeps z s) : Keeps z (State.loopsHeld s) := by
  unfold State.loopsHeld
  repeat' with_reducible (first | assumption | intro _ | apply State.slotSafe_keeps | apply keeps_ite | apply keeps_ite_fst | apply keeps_foldl | apply keeps_foldl_fst | split | (dsimp only; split) | apply keeps_with | apply swf_sset | apply swf_ssetMany | apply swf_filter | apply swf_foldl | apply swf_nil | apply swf_ite)

theorem State.loopsRelease_keeps (z : State) (s : State) (held : Bool) (hz : Keeps z s) : Keeps z (State.loopsRelease s held) := by
  unfold State.loopsRelease
  repeat' with_reducible (first | assumption | intro _ | apply State.slotClear_keeps | apply keeps_ite | apply keeps_ite_fst | apply keeps_foldl | apply keeps_foldl_fst | split | (dsimp only; split) | apply keeps_with | apply swf_sset | apply swf_ssetMany | apply swf_filter | apply swf_foldl | apply swf_nil | apply swf_ite)

theorem State.loopsHalt_keeps (z : State) (s : State) (hz : Keeps z s) : Keeps z (State.loopsHalt s) := by
  unfold State.loopsHalt
  repeat' with_reducible (first | assumption | intro _ | apply State.setFld_keeps | apply State.slotSafe_keeps | apply keeps_ite | apply keeps_ite_fst | apply keeps_foldl | apply keeps_foldl_fst | split | (dsimp only; split) | apply keeps_with | apply swf_sset | apply swf_ssetMany | apply swf_filter | apply swf_foldl | apply swf_nil | apply swf_ite)

theorem State.loopsResume_keeps (z : State) (s : State) (hz : Keeps z s) : Keeps z (State.loopsResume s) := by
  unfold State.loopsResume
  repeat' with_reducible (first | assumption | intro _ | apply State.setFld_keeps | apply State.setSlot_keeps | apply State.slotClear_keeps | apply keeps_ite | apply keeps_ite_fst | apply keeps_foldl | apply keeps_foldl_fst | split | (dsimp only; split) | apply keeps_with | apply swf_sset | apply swf_ssetMany | apply swf_filter | apply swf_foldl | apply swf_nil | apply swf_ite)

theorem Run.sat40_keeps (z : State) (r : Run) (n : Nat) (v : Int) (hz : Keeps z r.s) : Keeps z (Run.sat40 r n v).1.s := by
  unfold Run.sat40
  repeat' with_reducible (first | assumption | intro _ | apply State.slFlag_keeps | apply keeps_ite | apply keeps_ite_fst | apply keeps_foldl | apply keeps_foldl_fst | split | (dsimp only; split) | apply keeps_with | apply swf_sset | apply swf_ssetMany | apply swf_filter | apply swf_foldl | apply swf_nil | apply swf_ite)

theorem Run.mul_keeps (z : State) (r : Run) (n : Nat) (d : Int) (cw : Nat) (hz : Keeps z r.s) : Keeps z (Run.mul r n d cw).1.s := by
  unfold Run.mul
  repeat' with_reducible (first | assumption | intro _ | apply Run.sat40_keeps | apply keeps_ite | apply keeps_ite_fst | apply keeps_foldl | apply keeps_foldl_fst | split | (dsimp only; split) | apply keeps_with | apply swf_sset | apply swf_ssetMany | apply swf_filter | apply swf_foldl | apply swf_nil | apply swf_ite)

theorem Run.st_keeps (z : State) (r : Run) (n : Nat) (a : Int) (hz : Keeps z r.s) : Keeps z (Run.st r n a).1.s := by
  unfold Run.st
  repeat' with_reducible (first | assumption | intro _ | apply State.slFlag_keeps | apply keeps_ite | apply keeps_ite_fst | apply keeps_foldl | apply keeps_foldl_fst | split | (dsimp only; split) | apply keeps_with | apply swf_sset | apply swf_ssetMany | apply swf_filter | apply swf_foldl | apply swf_nil | apply swf_ite)

theorem Run.setD_keeps (z : State) (r : Run) (n i : Nat) (v : Int) (hz : Keeps z r.s) : Keeps z (Run.setD r n i v).s := by
  unfold Run.setD
  repeat' with_reducible (first | assumption | intro _ | apply State.setSfld_keeps | apply keeps_ite | apply keeps_ite_fst | apply keeps_foldl | apply keeps_foldl_fst | split | (dsimp only; split) | apply keeps_with | apply swf_sset | apply swf_ssetMany | apply swf_filter | apply swf_foldl | apply swf_nil | apply swf_ite)

theorem Run.add_keeps (z : State) (r : Run) (n : Nat) (v : Int) (hz : Keeps z r.s) : Keeps z (Run.add r n v).s := by
  unfold Run.add
  repeat' with_reducible (first | assumption | intro _ | apply Run.sat40_keeps | apply keeps_ite | apply keeps_ite_fst | apply keeps_foldl | apply keeps_foldl_fst | split | (dsimp only; split) | apply keeps_with | apply swf_sset | apply swf_ssetMany | apply swf_filter | apply swf_foldl | apply swf_nil | apply swf_ite)

theorem Run.macs_keeps (z : State) (r : Run) (n : Nat) (acc : Int) (x0 : List (Int × Nat)) (hz : Keeps z r.s) : Keeps z (Run.macs r n acc x0).1.s := by
  induction x0 generalizing r acc with
  | nil => exact hz
  | cons t ts ih => exact ih _ _ (Run.sat40_keeps _ _ _ _ (Run.mul_keeps _ _ _ _ _ hz))

theorem Run.lim_keeps (z : State) (r : Run) (n : Nat) (v lo hi : Int) (hz : Keeps z r.s) : Keeps z (Run.lim r n v lo hi).1.s := by
  unfold Run.lim
  repeat' with_reducible (first | assumption | intro _ | apply State.slFlag_keeps | apply keeps_ite | apply keeps_ite_fst | apply keeps_foldl | apply keeps_foldl_fst | split | (dsimp only; split) | apply keeps_with | apply swf_sset | apply swf_ssetMany | apply swf_filter | apply swf_foldl | apply swf_nil | apply swf_ite)

theorem keeps_ite_run {z : State} {a b : Run} {c : Prop} [Decidable c] (ha : Keeps z a.s) (hb : Keeps z b.s) :
    Keeps z (if c then a else b).s := by split <;> assumption

theorem Run.comp_keeps (z : State) (r : Run) (n k c d : Nat) (hz : Keeps z r.s) : Keeps z (Run.comp r n k c d).s := by
  unfold Run.comp
  have hf : ∀ (l : List (Int × Nat)) (x : Run), Keeps z x.s → Keeps z (l.foldl (fun r e => r.setD n (d + e.2) e.1) x).s := by
    intro l
    induction l with
    | nil => exact fun _ hx => hx
    | cons e l ih => exact fun x hx => ih _ (Run.setD_keeps _ _ _ _ _ hx)
  apply hf
  refine keeps_ite_run ?_ ?_
  · exact State.slFlag_keeps _ _ _ _ (Run.st_keeps _ _ _ _ (Run.macs_keeps _ _ _ _ _ hz))
  · exact Run.st_keeps _ _ _ _ (Run.macs_keeps _ _ _ _ _ hz)

theorem Run.setWide_keeps (z : State) (r : Run) (n d : Nat) (v : Int) (hz : Keeps z r.s) : Keeps z (Run.setWide r n d v).s := by
  unfold Run.setWide
  repeat' with_reducible (first | assumption | intro _ | apply Run.setD_keeps | apply keeps_ite | apply keeps_ite_fst | apply keeps_foldl | apply keeps_foldl_fst | split | (dsimp only; split) | apply keeps_with | apply swf_sset | apply swf_ssetMany | apply swf_filter | apply swf_foldl | apply swf_nil | apply swf_ite)

theorem State.capPut_keeps (z : State) (s : State) (c : Nat) (x : Int) (hz : Keeps z s) : Keeps z (State.capPut s c x) := by
  unfold State.capPut
  repeat' with_reducible (first | assumption | intro _ | apply State.capture_keeps | apply State.setFld_keeps | apply State.raise_keeps | apply keeps_ite | apply keeps_ite_fst | apply keeps_foldl | apply keeps_foldl_fst | split | (dsimp only; split) | apply keeps_with | apply swf_sset | apply swf_ssetMany | apply swf_filter | apply swf_foldl | apply swf_nil | apply swf_ite)

theorem Run.effect_keeps (z : State) (r : Run) (e : RunEnv) (w : Nat) (hz : Keeps z r.s) : Keeps z (Run.effect r e w).s := by
  unfold Run.effect
  repeat' with_reducible (first | assumption | intro _ | apply Run.setD_keeps | apply State.setSlot_keeps | apply State.slotDeliver_keeps | apply Run.st_keeps | apply Run.setWide_keeps | apply Run.add_keeps | apply Run.mul_keeps | apply State.slFlag_keeps | apply Run.sat40_keeps | apply Run.lim_keeps | apply Run.comp_keeps | apply State.capPut_keeps | apply keeps_ite | apply keeps_ite_fst | apply keeps_foldl | apply keeps_foldl_fst | split | (dsimp only; split) | apply keeps_with | apply swf_sset | apply swf_ssetMany | apply swf_filter | apply swf_foldl | apply swf_nil | apply swf_ite)

theorem State.sampleTimes_keeps (z : State) (s : State) (n a op t : Nat) (trigger : Time) (total : Nat) (hz : Keeps z s) : Keeps z (State.sampleTimes s n a op t trigger total) := by
  unfold State.sampleTimes
  repeat' with_reducible (first | assumption | intro _ | apply State.setFld_keeps | apply State.tick_keeps | apply State.raise_keeps | apply keeps_ite | apply keeps_ite_fst | apply keeps_foldl | apply keeps_foldl_fst | split | (dsimp only; split) | apply keeps_with | apply swf_sset | apply swf_ssetMany | apply swf_filter | apply swf_foldl | apply swf_nil | apply swf_ite)

theorem Run.step_keeps (z : State) (r : Run) (e : RunEnv) (hz : Keeps z r.s) : Keeps z (Run.step r e).s := by
  unfold Run.step
  repeat' with_reducible (first | assumption | intro _ | apply Run.effect_keeps | apply State.sampleTimes_keeps | apply keeps_ite | apply keeps_ite_fst | apply keeps_foldl | apply keeps_foldl_fst | split | (dsimp only; split) | apply keeps_with | apply swf_sset | apply swf_ssetMany | apply swf_filter | apply swf_foldl | apply swf_nil | apply swf_ite)

theorem State.testStep_keeps (z : State) (s : State) (c : Nat) (hz : Keeps z s) : Keeps z (State.testStep s c) := by
  unfold State.testStep
  repeat' with_reducible (first | assumption | intro _ | apply State.setCore_keeps | apply State.tick_keeps | apply State.setFld_keeps | apply State.raise_keeps | apply keeps_ite | apply keeps_ite_fst | apply keeps_foldl | apply keeps_foldl_fst | split | (dsimp only; split) | apply keeps_with | apply swf_sset | apply swf_ssetMany | apply swf_filter | apply swf_foldl | apply swf_nil | apply swf_ite)

theorem State.testWrite_keeps (z : State) (s : State) (c v : Nat) (hz : Keeps z s) : Keeps z (State.testWrite s c v) := by
  unfold State.testWrite
  repeat' with_reducible (first | assumption | intro _ | apply State.raise_keeps | apply State.writeCodes_keeps | apply State.setFld_keeps | apply State.setCore_keeps | apply keeps_ite | apply keeps_ite_fst | apply keeps_foldl | apply keeps_foldl_fst | split | (dsimp only; split) | apply keeps_with | apply swf_sset | apply swf_ssetMany | apply swf_filter | apply swf_foldl | apply swf_nil | apply swf_ite)

theorem State.captureWrite_keeps (z : State) (s : State) (c v : Nat) (hz : Keeps z s) : Keeps z (State.captureWrite s c v) := by
  unfold State.captureWrite
  repeat' with_reducible (first | assumption | intro _ | apply State.raise_keeps | apply State.writeCodes_keeps | apply State.setFld_keeps | apply State.setCore_keeps | apply keeps_ite | apply keeps_ite_fst | apply keeps_foldl | apply keeps_foldl_fst | split | (dsimp only; split) | apply keeps_with | apply swf_sset | apply swf_ssetMany | apply swf_filter | apply swf_foldl | apply swf_nil | apply swf_ite)

theorem State.rampStep_keeps (z : State) (s : State) (n : Nat) (now : Time) (hz : Keeps z s) : Keeps z (State.rampStep s n now) := by
  unfold State.rampStep
  repeat' with_reducible (first | assumption | intro _ | apply State.setSlot_keeps | apply State.setSfld_keeps | apply State.setFld_keeps | apply keeps_ite | apply keeps_ite_fst | apply keeps_foldl | apply keeps_foldl_fst | split | (dsimp only; split) | apply keeps_with | apply swf_sset | apply swf_ssetMany | apply swf_filter | apply swf_foldl | apply swf_nil | apply swf_ite)

theorem State.parentRan_keeps (z : State) (s : State) (n : Nat) (t : Time) (hz : Keeps z s) : Keeps z (State.parentRan s n t) := by
  unfold State.parentRan
  repeat' with_reducible (first | assumption | intro _ | apply State.setSlot_keeps | apply keeps_ite | apply keeps_ite_fst | apply keeps_foldl | apply keeps_foldl_fst | split | (dsimp only; split) | apply keeps_with | apply swf_sset | apply swf_ssetMany | apply swf_filter | apply swf_foldl | apply swf_nil | apply swf_ite)

theorem State.slotOverrun_keeps (z : State) (s : State) (n : Nat) (hz : Keeps z s) : Keeps z (State.slotOverrun s n) := by
  unfold State.slotOverrun
  repeat' with_reducible (first | assumption | intro _ | apply State.slFlag_keeps | apply State.bump_keeps | apply State.raise_keeps | apply State.count_keeps | apply keeps_ite | apply keeps_ite_fst | apply keeps_foldl | apply keeps_foldl_fst | split | (dsimp only; split) | apply keeps_with | apply swf_sset | apply swf_ssetMany | apply swf_filter | apply swf_foldl | apply swf_nil | apply swf_ite)

theorem Run.go_keeps (z : State) (e : RunEnv) (f : Nat) (r : Run) (hz : Keeps z r.s) : Keeps z (Run.go e f r).s := by
  induction f generalizing r with
  | zero => exact hz
  | succ f ih =>
    unfold Run.go
    split
    · exact hz
    · exact ih _ (Run.step_keeps _ _ _ hz)

theorem State.slotProgram_keeps (z : State) (s : State) (n : Nat) (trigger : Time) (hz : Keeps z s) : Keeps z (State.slotProgram s n trigger) := by
  unfold State.slotProgram
  repeat' with_reducible (first | assumption | intro _ | apply State.setSlot_keeps | apply State.rampStep_keeps | apply State.setReg64_keeps | apply State.setCore_keeps | apply State.tick_keeps | apply State.setFld_keeps | apply State.testStep_keeps | apply State.count_keeps | apply State.bumpWrap_keeps | apply State.parentRan_keeps | apply State.slFlag_keeps | apply State.slotSafe_keeps | apply State.raise_keeps | apply Run.go_keeps | apply keeps_ite | apply keeps_ite_fst | apply keeps_foldl | apply keeps_foldl_fst | split | (dsimp only; split) | apply keeps_with | apply swf_sset | apply swf_ssetMany | apply swf_filter | apply swf_foldl | apply swf_nil | apply swf_ite)

theorem State.slotRun_keeps (z : State) (s0 : State) (n : Nat) (t : Time) (hz : Keeps z s0) : Keeps z (State.slotRun s0 n t) := by
  unfold State.slotRun
  repeat' with_reducible (first | assumption | intro _ | apply State.loopSettle_keeps | apply State.setSlot_keeps | apply State.slotOverrun_keeps | apply State.slotProgram_keeps | apply keeps_ite | apply keeps_ite_fst | apply keeps_foldl | apply keeps_foldl_fst | split | (dsimp only; split) | apply keeps_with | apply swf_sset | apply swf_ssetMany | apply swf_filter | apply swf_foldl | apply swf_nil | apply swf_ite)

theorem State.lpWrite_keeps (z : State) (s0 : State) (a v : Nat) (hz : Keeps z s0) : Keeps z (State.lpWrite s0 a v) := by
  unfold State.lpWrite
  repeat' with_reducible (first | assumption | intro _ | apply State.loopSettle_keeps | apply State.tableCommit_keeps | apply State.testWrite_keeps | apply State.captureWrite_keeps | apply State.writeCodes_keeps | apply State.setReg_keeps | apply State.newSample_keeps | apply State.slotEn_keeps | apply State.coefCommit_keeps | apply State.clrState_keeps | apply State.raise_keeps | apply keeps_ite | apply keeps_ite_fst | apply keeps_foldl | apply keeps_foldl_fst | split | (dsimp only; split) | apply keeps_with | apply swf_sset | apply swf_ssetMany | apply swf_filter | apply swf_foldl | apply swf_nil | apply swf_ite)

end Sys2Proof.Machine
end

