-- ==== Sys2Proof/Laws/KeepsFire.lean ====
section
/-! SUPPORT. Every operation of Machine/Fire.lean keeps the variant, the queue and the canonical form of the register table. -/

namespace Sys2Proof.Machine

set_option linter.all false
set_option Elab.async false

theorem State.chanSeal_keeps (z : State) (s : State) (n kind code : Nat) (m : Nat) (hz : Keeps z s) : Keeps z (State.chanSeal s n kind code m) := by
  unfold State.chanSeal
  repeat' with_reducible (first | assumption | intro _ | apply State.setFld_keeps | apply keeps_ite | apply keeps_ite_fst | apply keeps_foldl | apply keeps_foldl_fst | split | (dsimp only; split) | apply keeps_with | apply swf_sset | apply swf_ssetMany | apply swf_filter | apply swf_foldl | apply swf_nil | apply swf_ite)

theorem State.sealValve_keeps (z : State) (s : State) (n i kind code : Nat) (seat : Option Time) (hz : Keeps z s) : Keeps z (State.sealValve s n i kind code seat) := by
  unfold State.sealValve
  repeat' with_reducible (first | assumption | intro _ | apply State.bump_keeps | apply State.chanSeal_keeps | apply State.sealEntry_keeps | apply keeps_ite | apply keeps_ite_fst | apply keeps_foldl | apply keeps_foldl_fst | split | (dsimp only; split) | apply keeps_with | apply swf_sset | apply swf_ssetMany | apply swf_filter | apply swf_foldl | apply swf_nil | apply swf_ite)

theorem State.setPeak_keeps (z : State) (s : State) (n : Nat) (v : Int) (hz : Keeps z s) : Keeps z (State.setPeak s n v) := by
  unfold State.setPeak
  repeat' with_reducible (first | assumption | intro _ | apply State.setFld_keeps | apply State.tick_keeps | apply keeps_ite | apply keeps_ite_fst | apply keeps_foldl | apply keeps_foldl_fst | split | (dsimp only; split) | apply keeps_with | apply swf_sset | apply swf_ssetMany | apply swf_filter | apply swf_foldl | apply swf_nil | apply swf_ite)

theorem State.sealHalted_keeps (z : State) (s : State) (n i kind : Nat) (hz : Keeps z s) : Keeps z (State.sealHalted s n i kind) := by
  unfold State.sealHalted
  repeat' with_reducible (first | assumption | intro _ | apply State.muslin_keeps | apply State.bump_keeps | apply State.sealValve_keeps | apply keeps_ite | apply keeps_ite_fst | apply keeps_foldl | apply keeps_foldl_fst | split | (dsimp only; split) | apply keeps_with | apply swf_sset | apply swf_ssetMany | apply swf_filter | apply swf_foldl | apply swf_nil | apply swf_ite)

theorem State.valveSeal_keeps (z : State) (s : State) (n : Nat) (samples : List Sample) (hz : Keeps z s) : Keeps z (State.valveSeal s n samples) := by
  unfold State.valveSeal
  repeat' with_reducible (first | assumption | intro _ | apply State.setValve_keeps | apply State.sealHalted_keeps | apply State.setPeak_keeps | apply State.bump_keeps | apply State.sealValve_keeps | apply keeps_ite | apply keeps_ite_fst | apply keeps_foldl | apply keeps_foldl_fst | split | (dsimp only; split) | apply keeps_with | apply swf_sset | apply swf_ssetMany | apply swf_filter | apply swf_foldl | apply swf_nil | apply swf_ite)

theorem State.sealNow_keeps (z : State) (s : State) (n i kind code : Nat) (hz : Keeps z s) : Keeps z (State.sealNow s n i kind code) := by
  unfold State.sealNow
  repeat' with_reducible (first | assumption | intro _ | apply State.sealValve_keeps | apply keeps_ite | apply keeps_ite_fst | apply keeps_foldl | apply keeps_foldl_fst | split | (dsimp only; split) | apply keeps_with | apply swf_sset | apply swf_ssetMany | apply swf_filter | apply swf_foldl | apply swf_nil | apply swf_ite)

theorem State.fired_keeps (z : State) (s : State) (i : Nat) (e : Entry) (hz : Keeps z s) : Keeps z (State.fired s i e) := by
  unfold State.fired
  repeat' with_reducible (first | assumption | intro _ | apply State.putSlot_keeps | apply State.setEntry_keeps | apply Run.st_keeps | apply State.count_keeps | apply keeps_ite | apply keeps_ite_fst | apply keeps_foldl | apply keeps_foldl_fst | split | (dsimp only; split) | apply keeps_with | apply swf_sset | apply swf_ssetMany | apply swf_filter | apply swf_foldl | apply swf_nil | apply swf_ite)

theorem State.rateTakes_keeps (z : State) (s : State) (e : Entry) (hz : Keeps z s) : Keeps z (State.rateTakes s e) := by
  unfold State.rateTakes
  repeat' with_reducible (first | assumption | intro _ | apply State.contribute_keeps | apply State.loadDuty_keeps | apply State.lsDuty_keeps | apply State.foDuty_keeps | apply keeps_ite | apply keeps_ite_fst | apply keeps_foldl | apply keeps_foldl_fst | split | (dsimp only; split) | apply keeps_with | apply swf_sset | apply swf_ssetMany | apply swf_filter | apply swf_foldl | apply swf_nil | apply swf_ite)

theorem State.rateEnds_keeps (z : State) (s : State) (o : Nat) (hz : Keeps z s) : Keeps z (State.rateEnds s o) := by
  unfold State.rateEnds
  repeat' with_reducible (first | assumption | intro _ | apply State.contribute_keeps | apply keeps_ite | apply keeps_ite_fst | apply keeps_foldl | apply keeps_foldl_fst | split | (dsimp only; split) | apply keeps_with | apply swf_sset | apply swf_ssetMany | apply swf_filter | apply swf_foldl | apply swf_nil | apply swf_ite)

theorem State.addWin_keeps (z : State) (s : State) (n i : Nat) (e : Entry) (dbg : Bool) (hz : Keeps z s) : Keeps z (State.addWin s n i e dbg) := by
  unfold State.addWin
  repeat' with_reducible (first | assumption | intro _ | apply State.setValve_keeps | apply keeps_ite | apply keeps_ite_fst | apply keeps_foldl | apply keeps_foldl_fst | split | (dsimp only; split) | apply keeps_with | apply swf_sset | apply swf_ssetMany | apply swf_filter | apply swf_foldl | apply swf_nil | apply swf_ite)

theorem State.valveOpen_keeps (z : State) (s : State) (n i : Nat) (e : Entry) (hz : Keeps z s) : Keeps z (State.valveOpen s n i e) := by
  unfold State.valveOpen
  repeat' with_reducible (first | assumption | intro _ | apply Run.st_keeps | apply State.sealNow_keeps | apply State.rateTakes_keeps | apply State.cutWins_keeps | apply State.setValve_keeps | apply State.vOpen_keeps | apply State.beginPulse_keeps | apply State.addWin_keeps | apply keeps_ite | apply keeps_ite_fst | apply keeps_foldl | apply keeps_foldl_fst | split | (dsimp only; split) | apply keeps_with | apply swf_sset | apply swf_ssetMany | apply swf_filter | apply swf_foldl | apply swf_nil | apply swf_ite)

theorem State.closeFromOff_keeps (z : State) (s : State) (n i : Nat) (e : Entry) (hz : Keeps z s) : Keeps z (State.closeFromOff s n i e) := by
  unfold State.closeFromOff
  repeat' with_reducible (first | assumption | intro _ | apply State.setValve_keeps | apply State.sealValve_keeps | apply State.sealNow_keeps | apply keeps_ite | apply keeps_ite_fst | apply keeps_foldl | apply keeps_foldl_fst | split | (dsimp only; split) | apply keeps_with | apply swf_sset | apply swf_ssetMany | apply swf_filter | apply swf_foldl | apply swf_nil | apply swf_ite)

theorem State.valveClose_keeps (z : State) (s0 : State) (n i : Nat) (e : Entry) (hz : Keeps z s0) : Keeps z (State.valveClose s0 n i e) := by
  unfold State.valveClose
  repeat' with_reducible (first | assumption | intro _ | apply State.rateEnds_keeps | apply Run.st_keeps | apply State.sealNow_keeps | apply State.cutWins_keeps | apply State.setValve_keeps | apply State.vClose_keeps | apply State.addWin_keeps | apply State.closeFromOff_keeps | apply keeps_ite | apply keeps_ite_fst | apply keeps_foldl | apply keeps_foldl_fst | split | (dsimp only; split) | apply keeps_with | apply swf_sset | apply swf_ssetMany | apply swf_filter | apply swf_foldl | apply swf_nil | apply swf_ite)

theorem State.valveEdge_keeps (z : State) (s : State) (n i : Nat) (e : Entry) (hz : Keeps z s) : Keeps z (State.valveEdge s n i e) := by
  unfold State.valveEdge
  repeat' with_reducible (first | assumption | intro _ | apply State.setValve_keeps | apply State.addWin_keeps | apply State.valveOpen_keeps | apply State.valveClose_keeps | apply keeps_ite | apply keeps_ite_fst | apply keeps_foldl | apply keeps_foldl_fst | split | (dsimp only; split) | apply keeps_with | apply swf_sset | apply swf_ssetMany | apply swf_filter | apply swf_foldl | apply swf_nil | apply swf_ite)

theorem State.remoteLate_keeps (z : State) (s : State) (i : Nat) (e : Entry) (hz : Keeps z s) : Keeps z (State.remoteLate s i e) := by
  unfold State.remoteLate
  repeat' with_reducible (first | assumption | intro _ | apply State.lateEntry_keeps | apply State.bump_keeps | apply State.raise_keeps | apply State.nodeOut_keeps | apply keeps_ite | apply keeps_ite_fst | apply keeps_foldl | apply keeps_foldl_fst | split | (dsimp only; split) | apply keeps_with | apply swf_sset | apply swf_ssetMany | apply swf_filter | apply swf_foldl | apply swf_nil | apply swf_ite)

theorem State.edgeAt_keeps (z : State) (s : State) (i : Nat) (e : Entry) (hz : Keeps z s) : Keeps z (State.edgeAt s i e) := by
  unfold State.edgeAt
  repeat' with_reducible (first | assumption | intro _ | apply State.rateTakes_keeps | apply State.rateEnds_keeps | apply State.sealEntry_keeps | apply State.setOpen_keeps | apply State.valveEdge_keeps | apply State.lsEdge_keeps | apply State.foEdge_keeps | apply keeps_ite | apply keeps_ite_fst | apply keeps_foldl | apply keeps_foldl_fst | split | (dsimp only; split) | apply keeps_with | apply swf_sset | apply swf_ssetMany | apply swf_filter | apply swf_foldl | apply swf_nil | apply swf_ite)

theorem State.fireOne_keeps (z : State) (s : State) (i : Nat) (hz : Keeps z s) : Keeps z (State.fireOne s i) := by
  unfold State.fireOne
  repeat' with_reducible (first | assumption | intro _ | apply Run.st_keeps | apply State.withdrawAll_keeps | apply State.remoteLate_keeps | apply State.lateEntry_keeps | apply State.fired_keeps | apply State.rateTakes_keeps | apply State.sealEntry_keeps | apply State.edgeAt_keeps | apply keeps_ite | apply keeps_ite_fst | apply keeps_foldl | apply keeps_foldl_fst | split | (dsimp only; split) | apply keeps_with | apply swf_sset | apply swf_ssetMany | apply swf_filter | apply swf_foldl | apply swf_nil | apply swf_ite)

theorem State.fire_keeps (z : State) (s : State) (i : Nat) (hz : Keeps z s) : Keeps z (State.fire s i) := by
  unfold State.fire
  repeat' with_reducible (first | assumption | intro _ | apply State.fireOne_keeps | apply keeps_ite | apply keeps_ite_fst | apply keeps_foldl | apply keeps_foldl_fst | split | (dsimp only; split) | apply keeps_with | apply swf_sset | apply swf_ssetMany | apply swf_filter | apply swf_foldl | apply swf_nil | apply swf_ite)

theorem State.modOff_keeps (z : State) (s : State) (n : Nat) (hz : Keeps z s) : Keeps z (State.modOff s n) := by
  unfold State.modOff
  repeat' with_reducible (first | assumption | intro _ | apply Run.st_keeps | apply State.cutWins_keeps | apply State.setValve_keeps | apply State.vClose_keeps | apply keeps_ite | apply keeps_ite_fst | apply keeps_foldl | apply keeps_foldl_fst | split | (dsimp only; split) | apply keeps_with | apply swf_sset | apply swf_ssetMany | apply swf_filter | apply swf_foldl | apply swf_nil | apply swf_ite)

theorem State.modOn_keeps (z : State) (s : State) (n : Nat) (hz : Keeps z s) : Keeps z (State.modOn s n) := by
  unfold State.modOn
  repeat' with_reducible (first | assumption | intro _ | apply State.cutWins_keeps | apply State.vOpen_keeps | apply State.beginPulse_keeps | apply keeps_ite | apply keeps_ite_fst | apply keeps_foldl | apply keeps_foldl_fst | split | (dsimp only; split) | apply keeps_with | apply swf_sset | apply swf_ssetMany | apply swf_filter | apply swf_foldl | apply swf_nil | apply swf_ite)

theorem State.preflux_keeps (z : State) (s : State) (i : Nat) (hz : Keeps z s) : Keeps z (State.preflux s i) := by
  unfold State.preflux
  repeat' with_reducible (first | assumption | intro _ | apply Run.st_keeps | apply State.setEntry_keeps | apply State.setValve_keeps | apply State.vTo_keeps | apply keeps_ite | apply keeps_ite_fst | apply keeps_foldl | apply keeps_foldl_fst | split | (dsimp only; split) | apply keeps_with | apply swf_sset | apply swf_ssetMany | apply swf_filter | apply swf_foldl | apply swf_nil | apply swf_ite)

theorem State.debugHalt_keeps (z : State) (s : State) (hz : Keeps z s) : Keeps z (State.debugHalt s) := by
  unfold State.debugHalt
  repeat' with_reducible (first | assumption | intro _ | apply State.setFld_keeps | apply State.loopsHalt_keeps | apply State.valvesSafe_keeps | apply keeps_ite | apply keeps_ite_fst | apply keeps_foldl | apply keeps_foldl_fst | split | (dsimp only; split) | apply keeps_with | apply swf_sset | apply swf_ssetMany | apply swf_filter | apply swf_foldl | apply swf_nil | apply swf_ite)

theorem State.countersGo_keeps (z : State) (s : State) (hz : Keeps z s) : Keeps z (State.countersGo s) := by
  unfold State.countersGo
  repeat' with_reducible (first | assumption | intro _ | apply State.setValve_keeps | apply keeps_ite | apply keeps_ite_fst | apply keeps_foldl | apply keeps_foldl_fst | split | (dsimp only; split) | apply keeps_with | apply swf_sset | apply swf_ssetMany | apply swf_filter | apply swf_foldl | apply swf_nil | apply swf_ite)

theorem State.applyQueued_keeps (z : State) (s : State) (n : Nat) (hz : Keeps z s) : Keeps z (State.applyQueued s n) := by
  unfold State.applyQueued
  repeat' with_reducible (first | assumption | intro _ | apply State.setValve_keeps | apply State.cutWins_keeps | apply Run.st_keeps | apply State.rateTakes_keeps | apply State.vOpen_keeps | apply State.beginPulse_keeps | apply State.rateEnds_keeps | apply State.vClose_keeps | apply keeps_ite | apply keeps_ite_fst | apply keeps_foldl | apply keeps_foldl_fst | split | (dsimp only; split) | apply keeps_with | apply swf_sset | apply swf_ssetMany | apply swf_filter | apply swf_foldl | apply swf_nil | apply swf_ite)

theorem State.debugResume_keeps (z : State) (s : State) (hz : Keeps z s) : Keeps z (State.debugResume s) := by
  unfold State.debugResume
  repeat' with_reducible (first | assumption | intro _ | apply State.setFld_keeps | apply State.loopsResume_keeps | apply State.countersGo_keeps | apply State.valvesRelease_keeps | apply State.applyQueued_keeps | apply keeps_ite | apply keeps_ite_fst | apply keeps_foldl | apply keeps_foldl_fst | split | (dsimp only; split) | apply keeps_with | apply swf_sset | apply swf_ssetMany | apply swf_filter | apply swf_foldl | apply swf_nil | apply swf_ite)

end Sys2Proof.Machine
end

