-- ==== Sys2Proof/Laws/KeepsStops.lean ====
section
/-! SUPPORT. Every operation of Machine/Stops.lean keeps the variant, the queue and the canonical form of the register table. -/

namespace Sys2Proof.Machine

set_option linter.all false
set_option Elab.async false

theorem State.commandClosed_keeps (z : State) (s : State) (hit : Nat → Bool) (hz : Keeps z s) : Keeps z (State.commandClosed s hit) := by
  unfold State.commandClosed
  repeat' with_reducible (first | assumption | intro _ | apply keeps_ite | apply keeps_ite_fst | apply keeps_foldl | apply keeps_foldl_fst | split | (dsimp only; split) | apply keeps_with | apply swf_sset | apply swf_ssetMany | apply swf_filter | apply swf_foldl | apply swf_nil | apply swf_ite)

theorem State.stopEvents_keeps (z : State) (s : State) (path ctx special : Nat) (hz : Keeps z s) : Keeps z (State.stopEvents s path ctx special) := by
  unfold State.stopEvents
  repeat' with_reducible (first | assumption | intro _ | apply State.withdrawAll_keeps | apply State.linksStop_keeps | apply keeps_ite | apply keeps_ite_fst | apply keeps_foldl | apply keeps_foldl_fst | split | (dsimp only; split) | apply keeps_with | apply swf_sset | apply swf_ssetMany | apply swf_filter | apply swf_foldl | apply swf_nil | apply swf_ite)

theorem State.stopRecord_keeps (z : State) (s : State) (src port ctx ident : Nat) (hz : Keeps z s) : Keeps z (State.stopRecord s src port ctx ident) := by
  unfold State.stopRecord
  repeat' with_reducible (first | assumption | intro _ | apply State.canvas_keeps | apply State.ident_keeps | apply keeps_ite | apply keeps_ite_fst | apply keeps_foldl | apply keeps_foldl_fst | split | (dsimp only; split) | apply keeps_with | apply swf_sset | apply swf_ssetMany | apply swf_filter | apply swf_foldl | apply swf_nil | apply swf_ite)

theorem State.stopPin_keeps (z : State) (s : State) (hz : Keeps z s) : Keeps z (State.stopPin s) := by
  unfold State.stopPin
  repeat' with_reducible (first | assumption | intro _ | apply State.setFld_keeps | apply State.setFbit_keeps | apply State.stopEvents_keeps | apply State.valvesStop_keeps | apply State.lsStop_keeps | apply State.foStop_keeps | apply State.loopsStop_keeps | apply State.commandClosed_keeps | apply State.stopRecord_keeps | apply keeps_ite | apply keeps_ite_fst | apply keeps_foldl | apply keeps_foldl_fst | split | (dsimp only; split) | apply keeps_with | apply swf_sset | apply swf_ssetMany | apply swf_filter | apply swf_foldl | apply swf_nil | apply swf_ite)

theorem State.stopHalt_keeps (z : State) (s : State) (src port ctx ident : Nat) (hz : Keeps z s) : Keeps z (State.stopHalt s src port ctx ident) := by
  unfold State.stopHalt
  repeat' with_reducible (first | assumption | intro _ | apply State.setFld_keeps | apply State.setFbit_keeps | apply State.stopEvents_keeps | apply State.valvesSafe_keeps | apply State.lsHalt_keeps | apply State.foHalt_keeps | apply State.loopsStop_keeps | apply State.commandClosed_keeps | apply State.stopRecord_keeps | apply State.ident_keeps | apply keeps_ite | apply keeps_ite_fst | apply keeps_foldl | apply keeps_foldl_fst | split | (dsimp only; split) | apply keeps_with | apply swf_sset | apply swf_ssetMany | apply swf_filter | apply swf_foldl | apply swf_nil | apply swf_ite)

theorem State.releaseUnits_keeps (z : State) (s : State) (hz : Keeps z s) : Keeps z (State.releaseUnits s) := by
  unfold State.releaseUnits
  repeat' with_reducible (first | assumption | intro _ | apply State.valvesRelease_keeps | apply State.linksRelease_keeps | apply State.commandClosed_keeps | apply keeps_ite | apply keeps_ite_fst | apply keeps_foldl | apply keeps_foldl_fst | split | (dsimp only; split) | apply keeps_with | apply swf_sset | apply swf_ssetMany | apply swf_filter | apply swf_foldl | apply swf_nil | apply swf_ite)

theorem State.released_keeps (z : State) (s : State) (held : Bool) (ctx : Nat) (hz : Keeps z s) : Keeps z (State.released s held ctx) := by
  unfold State.released
  repeat' with_reducible (first | assumption | intro _ | apply State.raise_keeps | apply State.canvas_keeps | apply keeps_ite | apply keeps_ite_fst | apply keeps_foldl | apply keeps_foldl_fst | split | (dsimp only; split) | apply keeps_with | apply swf_sset | apply swf_ssetMany | apply swf_filter | apply swf_foldl | apply swf_nil | apply swf_ite)

theorem State.stopRelease_keeps (z : State) (s : State) (ctx : Nat) (hz : Keeps z s) : Keeps z (State.stopRelease s ctx) := by
  unfold State.stopRelease
  repeat' with_reducible (first | assumption | intro _ | apply State.setFld_keeps | apply State.lsRelease_keeps | apply State.foRelease_keeps | apply State.loopsRelease_keeps | apply State.releaseUnits_keeps | apply State.released_keeps | apply keeps_ite | apply keeps_ite_fst | apply keeps_foldl | apply keeps_foldl_fst | split | (dsimp only; split) | apply keeps_with | apply swf_sset | apply swf_ssetMany | apply swf_filter | apply swf_foldl | apply swf_nil | apply swf_ite)

theorem State.stopAuto_keeps (z : State) (s : State) (hz : Keeps z s) : Keeps z (State.stopAuto s) := by
  unfold State.stopAuto
  repeat' with_reducible (first | assumption | intro _ | apply State.stopRelease_keeps | apply keeps_ite | apply keeps_ite_fst | apply keeps_foldl | apply keeps_foldl_fst | split | (dsimp only; split) | apply keeps_with | apply swf_sset | apply swf_ssetMany | apply swf_filter | apply swf_foldl | apply swf_nil | apply swf_ite)

theorem State.stopPinHigh_keeps (z : State) (s : State) (hz : Keeps z s) : Keeps z (State.stopPinHigh s) := by
  unfold State.stopPinHigh
  repeat' with_reducible (first | assumption | intro _ | apply State.setFld_keeps | apply State.stopAuto_keeps | apply keeps_ite | apply keeps_ite_fst | apply keeps_foldl | apply keeps_foldl_fst | split | (dsimp only; split) | apply keeps_with | apply swf_sset | apply swf_ssetMany | apply swf_filter | apply swf_foldl | apply swf_nil | apply swf_ite)

theorem State.stopReleaseCmd_keeps (z : State) (s : State) (ctx : Nat) (hz : Keeps z s) : Keeps z (State.stopReleaseCmd s ctx) := by
  unfold State.stopReleaseCmd
  repeat' with_reducible (first | assumption | intro _ | apply State.raise_keeps | apply State.stopRelease_keeps | apply keeps_ite | apply keeps_ite_fst | apply keeps_foldl | apply keeps_foldl_fst | split | (dsimp only; split) | apply keeps_with | apply swf_sset | apply swf_ssetMany | apply swf_filter | apply swf_foldl | apply swf_nil | apply swf_ite)

theorem State.holdSafe_keeps (z : State) (s : State) (cause first second : Nat) (hz : Keeps z s) : Keeps z (State.holdSafe s cause first second) := by
  unfold State.holdSafe
  repeat' with_reducible (first | assumption | intro _ | apply State.setFld_keeps | apply State.setReg64_keeps | apply State.raise_keeps | apply State.stopEvents_keeps | apply State.valvesSafe_keeps | apply State.lsSafe_keeps | apply State.foSafe_keeps | apply State.loopsHeld_keeps | apply State.commandClosed_keeps | apply State.canvas_keeps | apply keeps_ite | apply keeps_ite_fst | apply keeps_foldl | apply keeps_foldl_fst | split | (dsimp only; split) | apply keeps_with | apply swf_sset | apply swf_ssetMany | apply swf_filter | apply swf_foldl | apply swf_nil | apply swf_ite)

theorem State.heldRelease_keeps (z : State) (s : State) (ctx : Nat) (hz : Keeps z s) : Keeps z (State.heldRelease s ctx) := by
  unfold State.heldRelease
  repeat' with_reducible (first | assumption | intro _ | apply State.setFld_keeps | apply State.lsRelease_keeps | apply State.foRelease_keeps | apply State.loopsRelease_keeps | apply State.releaseUnits_keeps | apply State.released_keeps | apply keeps_ite | apply keeps_ite_fst | apply keeps_foldl | apply keeps_foldl_fst | split | (dsimp only; split) | apply keeps_with | apply swf_sset | apply swf_ssetMany | apply swf_filter | apply swf_foldl | apply swf_nil | apply swf_ite)

theorem State.doorbell_keeps (z : State) (s : State) (p ctx v : Nat) (hz : Keeps z s) : Keeps z (State.doorbell s p ctx v) := by
  unfold State.doorbell
  repeat' with_reducible (first | assumption | intro _ | apply State.raiseBit_keeps | apply State.stopHalt_keeps | apply State.raise_keeps | apply keeps_ite | apply keeps_ite_fst | apply keeps_foldl | apply keeps_foldl_fst | split | (dsimp only; split) | apply keeps_with | apply swf_sset | apply swf_ssetMany | apply swf_filter | apply swf_foldl | apply swf_nil | apply swf_ite)

theorem State.haltFrame_keeps (z : State) (s : State) (p : Nat) (f : BusFrame) (hz : Keeps z s) : Keeps z (State.haltFrame s p f) := by
  unfold State.haltFrame
  repeat' with_reducible (first | assumption | intro _ | apply State.bump_keeps | apply State.raiseBit_keeps | apply State.stopHalt_keeps | apply keeps_ite | apply keeps_ite_fst | apply keeps_foldl | apply keeps_foldl_fst | split | (dsimp only; split) | apply keeps_with | apply swf_sset | apply swf_ssetMany | apply swf_filter | apply swf_foldl | apply swf_nil | apply swf_ite)

theorem State.resendModes_keeps (z : State) (s : State) (hz : Keeps z s) : Keeps z (State.resendModes s) := by
  unfold State.resendModes
  repeat' with_reducible (first | assumption | intro _ | apply State.setLink_keeps | apply keeps_ite | apply keeps_ite_fst | apply keeps_foldl | apply keeps_foldl_fst | split | (dsimp only; split) | apply keeps_with | apply swf_sset | apply swf_ssetMany | apply swf_filter | apply swf_foldl | apply swf_nil | apply swf_ite)

theorem State.takeoverBegins_keeps (z : State) (s : State) (lane checker unit : Nat) (retry : Bool) (hz : Keeps z s) : Keeps z (State.takeoverBegins s lane checker unit retry) := by
  unfold State.takeoverBegins
  repeat' with_reducible (first | assumption | intro _ | apply State.setFld_keeps | apply State.bump_keeps | apply State.raise_keeps | apply State.coastAll_keeps | apply State.resendModes_keeps | apply keeps_ite | apply keeps_ite_fst | apply keeps_foldl | apply keeps_foldl_fst | split | (dsimp only; split) | apply keeps_with | apply swf_sset | apply swf_ssetMany | apply swf_filter | apply swf_foldl | apply swf_nil | apply swf_ite)

theorem State.mergeLate_keeps (z : State) (s : State) (hz : Keeps z s) : Keeps z (State.mergeLate s) := by
  unfold State.mergeLate
  repeat' with_reducible (first | assumption | intro _ | apply State.tick_keeps | apply State.bump_keeps | apply State.raiseIf_keeps | apply keeps_ite | apply keeps_ite_fst | apply keeps_foldl | apply keeps_foldl_fst | split | (dsimp only; split) | apply keeps_with | apply swf_sset | apply swf_ssetMany | apply swf_filter | apply swf_foldl | apply swf_nil | apply swf_ite)

theorem State.nameLane_keeps (z : State) (s : State) (lane checker unit : Nat) (hz : Keeps z s) : Keeps z (State.nameLane s lane checker unit) := by
  unfold State.nameLane
  repeat' with_reducible (first | assumption | intro _ | apply State.setFld_keeps | apply keeps_ite | apply keeps_ite_fst | apply keeps_foldl | apply keeps_foldl_fst | split | (dsimp only; split) | apply keeps_with | apply swf_sset | apply swf_ssetMany | apply swf_filter | apply swf_foldl | apply swf_nil | apply swf_ite)

theorem State.eccLog_keeps (z : State) (s : State) (mem place copy addr : Nat) (hz : Keeps z s) : Keeps z (State.eccLog s mem place copy addr) := by
  unfold State.eccLog
  repeat' with_reducible (first | assumption | intro _ | apply State.setFld_keeps | apply State.bump_keeps | apply State.raise_keeps | apply State.canvas_keeps | apply keeps_ite | apply keeps_ite_fst | apply keeps_foldl | apply keeps_foldl_fst | split | (dsimp only; split) | apply keeps_with | apply swf_sset | apply swf_ssetMany | apply swf_filter | apply swf_foldl | apply swf_nil | apply swf_ite)

theorem State.laneFault_keeps (z : State) (s : State) (lane checker unit : Nat) (hz : Keeps z s) : Keeps z (State.laneFault s lane checker unit) := by
  unfold State.laneFault
  repeat' with_reducible (first | assumption | intro _ | apply Run.st_keeps | apply State.nameLane_keeps | apply State.takeoverBegins_keeps | apply State.mergeLate_keeps | apply State.setFld_keeps | apply State.holdSafe_keeps | apply keeps_ite | apply keeps_ite_fst | apply keeps_foldl | apply keeps_foldl_fst | split | (dsimp only; split) | apply keeps_with | apply swf_sset | apply swf_ssetMany | apply swf_filter | apply swf_foldl | apply swf_nil | apply swf_ite)

theorem State.laneNamed_keeps (z : State) (s : State) (lane checker unit mem addr : Nat) (hz : Keeps z s) : Keeps z (State.laneNamed s lane checker unit mem addr) := by
  unfold State.laneNamed
  repeat' with_reducible (first | assumption | intro _ | apply State.eccLog_keeps | apply State.laneFault_keeps | apply keeps_ite | apply keeps_ite_fst | apply keeps_foldl | apply keeps_foldl_fst | split | (dsimp only; split) | apply keeps_with | apply swf_sset | apply swf_ssetMany | apply swf_filter | apply swf_foldl | apply swf_nil | apply swf_ite)

theorem State.laneDisagree_keeps (z : State) (s : State) (hz : Keeps z s) : Keeps z (State.laneDisagree s) := by
  unfold State.laneDisagree
  repeat' with_reducible (first | assumption | intro _ | apply State.holdSafe_keeps | apply keeps_ite | apply keeps_ite_fst | apply keeps_foldl | apply keeps_foldl_fst | split | (dsimp only; split) | apply keeps_with | apply swf_sset | apply swf_ssetMany | apply swf_filter | apply swf_foldl | apply swf_nil | apply swf_ite)

theorem State.laneTested_keeps (z : State) (s : State) (pass : Bool) (hz : Keeps z s) : Keeps z (State.laneTested s pass) := by
  unfold State.laneTested
  repeat' with_reducible (first | assumption | intro _ | apply State.setFld_keeps | apply State.raise_keeps | apply State.bump_keeps | apply keeps_ite | apply keeps_ite_fst | apply keeps_foldl | apply keeps_foldl_fst | split | (dsimp only; split) | apply keeps_with | apply swf_sset | apply swf_ssetMany | apply swf_filter | apply swf_foldl | apply swf_nil | apply swf_ite)

theorem State.laneCopied_keeps (z : State) (s : State) (hz : Keeps z s) : Keeps z (State.laneCopied s) := by
  unfold State.laneCopied
  repeat' with_reducible (first | assumption | intro _ | apply keeps_ite | apply keeps_ite_fst | apply keeps_foldl | apply keeps_foldl_fst | split | (dsimp only; split) | apply keeps_with | apply swf_sset | apply swf_ssetMany | apply swf_filter | apply swf_foldl | apply swf_nil | apply swf_ite)

theorem State.passItem_keeps (z : State) (s : State) (x : HeldItem) (hz : Keeps z s) : Keeps z (State.passItem s x) := by
  unfold State.passItem
  repeat' with_reducible (first | assumption | intro _ | apply State.passFrame_keeps | apply State.cosBit_keeps | apply State.foSeal_keeps | apply State.rxFrame_keeps | apply keeps_ite | apply keeps_ite_fst | apply keeps_foldl | apply keeps_foldl_fst | split | (dsimp only; split) | apply keeps_with | apply swf_sset | apply swf_ssetMany | apply swf_filter | apply swf_foldl | apply swf_nil | apply swf_ite)

theorem State.passAll_keeps (z : State) (s : State) (hz : Keeps z s) : Keeps z (State.passAll s) := by
  unfold State.passAll
  repeat' with_reducible (first | assumption | intro _ | apply State.passItem_keeps | apply State.releaseObs_keeps | apply State.completeLater_keeps | apply keeps_ite | apply keeps_ite_fst | apply keeps_foldl | apply keeps_foldl_fst | split | (dsimp only; split) | apply keeps_with | apply swf_sset | apply swf_ssetMany | apply swf_filter | apply swf_foldl | apply swf_nil | apply swf_ite)

theorem State.takeoverEnds_keeps (z : State) (s : State) (hz : Keeps z s) : Keeps z (State.takeoverEnds s) := by
  unfold State.takeoverEnds
  repeat' with_reducible (first | assumption | intro _ | apply State.setFld_keeps | apply State.raise_keeps | apply State.canvas_keeps | apply State.passAll_keeps | apply State.coastAll_keeps | apply keeps_ite | apply keeps_ite_fst | apply keeps_foldl | apply keeps_foldl_fst | split | (dsimp only; split) | apply keeps_with | apply swf_sset | apply swf_ssetMany | apply swf_filter | apply swf_foldl | apply swf_nil | apply swf_ite)

theorem State.laneRetry_keeps (z : State) (s : State) (hz : Keeps z s) : Keeps z (State.laneRetry s) := by
  unfold State.laneRetry
  repeat' with_reducible (first | assumption | intro _ | apply State.takeoverBegins_keeps | apply State.raise_keeps | apply keeps_ite | apply keeps_ite_fst | apply keeps_foldl | apply keeps_foldl_fst | split | (dsimp only; split) | apply keeps_with | apply swf_sset | apply swf_ssetMany | apply swf_filter | apply swf_foldl | apply swf_nil | apply swf_ite)

theorem State.fireOut_keeps (z : State) (s : State) (c : Nat) (hz : Keeps z s) : Keeps z (State.fireOut s c) := by
  unfold State.fireOut
  repeat' with_reducible (first | assumption | intro _ | apply State.setFbit_keeps | apply State.bump_keeps | apply State.raise_keeps | apply State.holdSafe_keeps | apply keeps_ite | apply keeps_ite_fst | apply keeps_foldl | apply keeps_foldl_fst | split | (dsimp only; split) | apply keeps_with | apply swf_sset | apply swf_ssetMany | apply swf_filter | apply swf_foldl | apply swf_nil | apply swf_ite)

theorem State.fireCompare_keeps (z : State) (s : State) (differs ecc addr : Nat) (hz : Keeps z s) : Keeps z (State.fireCompare s differs ecc addr) := by
  unfold State.fireCompare
  repeat' with_reducible (first | assumption | intro _ | apply State.eccLog_keeps | apply State.fireOut_keeps | apply keeps_ite | apply keeps_ite_fst | apply keeps_foldl | apply keeps_foldl_fst | split | (dsimp only; split) | apply keeps_with | apply swf_sset | apply swf_ssetMany | apply swf_filter | apply swf_foldl | apply swf_nil | apply swf_ite)

theorem State.fireReloaded_keeps (z : State) (s : State) (c : Nat) (ok : Bool) (hz : Keeps z s) : Keeps z (State.fireReloaded s c ok) := by
  unfold State.fireReloaded
  repeat' with_reducible (first | assumption | intro _ | apply State.reloadSlots_keeps | apply State.setFbit_keeps | apply State.canvas_keeps | apply keeps_ite | apply keeps_ite_fst | apply keeps_foldl | apply keeps_foldl_fst | split | (dsimp only; split) | apply keeps_with | apply swf_sset | apply swf_ssetMany | apply swf_filter | apply swf_foldl | apply swf_nil | apply swf_ite)

theorem State.fireRetry_keeps (z : State) (s : State) (hz : Keeps z s) : Keeps z (State.fireRetry s) := by
  unfold State.fireRetry
  repeat' with_reducible (first | assumption | intro _ | apply State.reloadSlots_keeps | apply keeps_ite | apply keeps_ite_fst | apply keeps_foldl | apply keeps_foldl_fst | split | (dsimp only; split) | apply keeps_with | apply swf_sset | apply swf_ssetMany | apply swf_filter | apply swf_foldl | apply swf_nil | apply swf_ite)

theorem State.setKey_keeps (z : State) (s : State) (k : Nat) (x : KeySlot) (hz : Keeps z s) : Keeps z (State.setKey s k x) := by
  unfold State.setKey
  repeat' with_reducible (first | assumption | intro _ | apply State.setFbit_keeps | apply keeps_ite | apply keeps_ite_fst | apply keeps_foldl | apply keeps_foldl_fst | split | (dsimp only; split) | apply keeps_with | apply swf_sset | apply swf_ssetMany | apply swf_filter | apply swf_foldl | apply swf_nil | apply swf_ite)

theorem State.retainedBad_keeps (z : State) (s : State) (word unit : Nat) (hz : Keeps z s) : Keeps z (State.retainedBad s word unit) := by
  unfold State.retainedBad
  repeat' with_reducible (first | assumption | intro _ | apply State.setFld_keeps | apply State.canvas_keeps | apply State.bump_keeps | apply State.raise_keeps | apply State.setKey_keeps | apply keeps_ite | apply keeps_ite_fst | apply keeps_foldl | apply keeps_foldl_fst | split | (dsimp only; split) | apply keeps_with | apply swf_sset | apply swf_ssetMany | apply swf_filter | apply swf_foldl | apply swf_nil | apply swf_ite)

theorem State.scrubError_keeps (z : State) (s : State) (mem : Nat) (e : ScrubIn) (hz : Keeps z s) : Keeps z (State.scrubError s mem e) := by
  unfold State.scrubError
  repeat' with_reducible (first | assumption | intro _ | apply State.bump_keeps | apply State.muslin_keeps | apply State.eccLog_keeps | apply State.laneFault_keeps | apply State.fireOut_keeps | apply State.bankFault_keeps | apply State.tileBad_keeps | apply State.retainedBad_keeps | apply keeps_ite | apply keeps_ite_fst | apply keeps_foldl | apply keeps_foldl_fst | split | (dsimp only; split) | apply keeps_with | apply swf_sset | apply swf_ssetMany | apply swf_filter | apply swf_foldl | apply swf_nil | apply swf_ite)

theorem State.scrub_keeps (z : State) (s : State) (mem : Nat) (es : List ScrubIn) (hz : Keeps z s) : Keeps z (State.scrub s mem es) := by
  unfold State.scrub
  repeat' with_reducible (first | assumption | intro _ | apply State.scrubError_keeps | apply keeps_ite | apply keeps_ite_fst | apply keeps_foldl | apply keeps_foldl_fst | split | (dsimp only; split) | apply keeps_with | apply swf_sset | apply swf_ssetMany | apply swf_filter | apply swf_foldl | apply swf_nil | apply swf_ite)

theorem State.pathLost_keeps (z : State) (s : State) (d : Nat) (hz : Keeps z s) : Keeps z (State.pathLost s d) := by
  unfold State.pathLost
  repeat' with_reducible (first | assumption | intro _ | apply State.setFbit_keeps | apply State.bump_keeps | apply State.raise_keeps | apply State.canvas_keeps | apply keeps_ite | apply keeps_ite_fst | apply keeps_foldl | apply keeps_foldl_fst | split | (dsimp only; split) | apply keeps_with | apply swf_sset | apply swf_ssetMany | apply swf_filter | apply swf_foldl | apply swf_nil | apply swf_ite)

theorem State.dieLost_keeps (z : State) (s : State) (d : Nat) (hz : Keeps z s) : Keeps z (State.dieLost s d) := by
  unfold State.dieLost
  repeat' with_reducible (first | assumption | intro _ | apply State.setFld_keeps | apply State.driveDieLost_keeps | apply State.raise_keeps | apply State.canvas_keeps | apply keeps_ite | apply keeps_ite_fst | apply keeps_foldl | apply keeps_foldl_fst | split | (dsimp only; split) | apply keeps_with | apply swf_sset | apply swf_ssetMany | apply swf_filter | apply swf_foldl | apply swf_nil | apply swf_ite)

theorem State.dieHandshake_keeps (z : State) (s : State) (d : Nat) (hz : Keeps z s) : Keeps z (State.dieHandshake s d) := by
  unfold State.dieHandshake
  repeat' with_reducible (first | assumption | intro _ | apply State.setFld_keeps | apply State.setFbit_keeps | apply State.driveDieUp_keeps | apply keeps_ite | apply keeps_ite_fst | apply keeps_foldl | apply keeps_foldl_fst | split | (dsimp only; split) | apply keeps_with | apply swf_sset | apply swf_ssetMany | apply swf_filter | apply swf_foldl | apply swf_nil | apply swf_ite)

theorem State.refRecord_keeps (z : State) (s : State) (g what : Nat) (hz : Keeps z s) : Keeps z (State.refRecord s g what) := by
  unfold State.refRecord
  repeat' with_reducible (first | assumption | intro _ | apply State.canvasWith_keeps | apply keeps_ite | apply keeps_ite_fst | apply keeps_foldl | apply keeps_foldl_fst | split | (dsimp only; split) | apply keeps_with | apply swf_sset | apply swf_ssetMany | apply swf_filter | apply swf_foldl | apply swf_nil | apply swf_ite)

theorem State.refCompare_keeps (z : State) (s : State) (g : Nat) (d01 d0a d1a : Int) (present : Nat) (hz : Keeps z s) : Keeps z (State.refCompare s g d01 d0a d1a present) := by
  unfold State.refCompare
  repeat' with_reducible (first | assumption | intro _ | apply State.setFld_keeps | apply State.setBit_keeps | apply State.raiseIf_keeps | apply State.refRecord_keeps | apply State.raise_keeps | apply keeps_ite | apply keeps_ite_fst | apply keeps_foldl | apply keeps_foldl_fst | split | (dsimp only; split) | apply keeps_with | apply swf_sset | apply swf_ssetMany | apply swf_filter | apply swf_foldl | apply swf_nil | apply swf_ite)

end Sys2Proof.Machine
end

