-- ==== Sys2Proof/Laws/KeepsCanvas.lean ====
section
/-! SUPPORT. Every operation of Machine/Canvas.lean keeps the variant, the queue and the canonical form of the register table. -/

namespace Sys2Proof.Machine

set_option linter.all false
set_option Elab.async false

theorem State.recErr_keeps (z : State) (s : State) (hz : Keeps z s) : Keeps z (State.recErr s) := by
  unfold State.recErr
  repeat' with_reducible (first | assumption | intro _ | apply State.raise_keeps | apply keeps_ite | apply keeps_ite_fst | apply keeps_foldl | apply keeps_foldl_fst | split | (dsimp only; split) | apply keeps_with | apply swf_sset | apply swf_ssetMany | apply swf_filter | apply swf_foldl | apply swf_nil | apply swf_ite)

theorem State.storeRecord_keeps (z : State) (s : State) (r : CvRec) (hz : Keeps z s) : Keeps z (State.storeRecord s r) := by
  unfold State.storeRecord
  repeat' with_reducible (first | assumption | intro _ | apply State.canvas_keeps | apply State.setFld_keeps | apply State.count_keeps | apply keeps_ite | apply keeps_ite_fst | apply keeps_foldl | apply keeps_foldl_fst | split | (dsimp only; split) | apply keeps_with | apply swf_sset | apply swf_ssetMany | apply swf_filter | apply swf_foldl | apply swf_nil | apply swf_ite)

theorem State.closeCanvas_keeps (z : State) (s : State) (hz : Keeps z s) : Keeps z (State.closeCanvas s) := by
  unfold State.closeCanvas
  repeat' with_reducible (first | assumption | intro _ | apply State.canvas_keeps | apply State.muslinWith_keeps | apply State.storeRecord_keeps | apply State.setFld_keeps | apply State.raise_keeps | apply keeps_ite | apply keeps_ite_fst | apply keeps_foldl | apply keeps_foldl_fst | split | (dsimp only; split) | apply keeps_with | apply swf_sset | apply swf_ssetMany | apply swf_filter | apply swf_foldl | apply swf_nil | apply swf_ite)

theorem State.writeRecord_keeps (z : State) (s : State) (r : CvRec) (hz : Keeps z s) : Keeps z (State.writeRecord s r) := by
  unfold State.writeRecord
  repeat' with_reducible (first | assumption | intro _ | apply State.closeCanvas_keeps | apply State.bump_keeps | apply State.storeRecord_keeps | apply keeps_ite | apply keeps_ite_fst | apply keeps_foldl | apply keeps_foldl_fst | split | (dsimp only; split) | apply keeps_with | apply swf_sset | apply swf_ssetMany | apply swf_filter | apply swf_foldl | apply swf_nil | apply swf_ite)

theorem State.canvasStep_keeps (z : State) (s : State) (hz : Keeps z s) : Keeps z (State.canvasStep s) := by
  unfold State.canvasStep
  repeat' with_reducible (first | assumption | intro _ | apply State.writeRecord_keeps | apply keeps_ite | apply keeps_ite_fst | apply keeps_foldl | apply keeps_foldl_fst | split | (dsimp only; split) | apply keeps_with | apply swf_sset | apply swf_ssetMany | apply swf_filter | apply swf_foldl | apply swf_nil | apply swf_ite)

theorem State.canvasDrain_keeps (z : State) (s : State) (hz : Keeps z s) : Keeps z (State.canvasDrain s) := by
  unfold State.canvasDrain
  repeat' with_reducible (first | assumption | intro _ | apply State.writeRecord_keeps | apply keeps_ite | apply keeps_ite_fst | apply keeps_foldl | apply keeps_foldl_fst | split | (dsimp only; split) | apply keeps_with | apply swf_sset | apply swf_ssetMany | apply swf_filter | apply swf_foldl | apply swf_nil | apply swf_ite)

theorem State.canvasRewrite_keeps (z : State) (s : State) (hz : Keeps z s) : Keeps z (State.canvasRewrite s) := by
  unfold State.canvasRewrite
  repeat' with_reducible (first | assumption | intro _ | apply State.canvas_keeps | apply State.take_keeps | apply keeps_ite | apply keeps_ite_fst | apply keeps_foldl | apply keeps_foldl_fst | split | (dsimp only; split) | apply keeps_with | apply swf_sset | apply swf_ssetMany | apply swf_filter | apply swf_foldl | apply swf_nil | apply swf_ite)

theorem State.erase_keeps (z : State) (s : State) (c v : Nat) (hz : Keeps z s) : Keeps z (State.erase s c v) := by
  unfold State.erase
  repeat' with_reducible (first | assumption | intro _ | apply State.setFld_keeps | apply State.recErr_keeps | apply keeps_ite | apply keeps_ite_fst | apply keeps_foldl | apply keeps_foldl_fst | split | (dsimp only; split) | apply keeps_with | apply swf_sset | apply swf_ssetMany | apply swf_filter | apply swf_foldl | apply swf_nil | apply swf_ite)

theorem State.eraseDone_keeps (z : State) (s : State) (hz : Keeps z s) : Keeps z (State.eraseDone s) := by
  unfold State.eraseDone
  repeat' with_reducible (first | assumption | intro _ | apply State.canvas_keeps | apply State.setFld_keeps | apply State.canvasDrain_keeps | apply State.raise_keeps | apply keeps_ite | apply keeps_ite_fst | apply keeps_foldl | apply keeps_foldl_fst | split | (dsimp only; split) | apply keeps_with | apply swf_sset | apply swf_ssetMany | apply swf_filter | apply swf_foldl | apply swf_nil | apply swf_ite)

theorem State.eraseCut_keeps (z : State) (s : State) (hz : Keeps z s) : Keeps z (State.eraseCut s) := by
  unfold State.eraseCut
  repeat' with_reducible (first | assumption | intro _ | apply State.canvas_keeps | apply State.tick_keeps | apply State.take_keeps | apply State.setFld_keeps | apply State.setBit_keeps | apply keeps_ite | apply keeps_ite_fst | apply keeps_foldl | apply keeps_foldl_fst | split | (dsimp only; split) | apply keeps_with | apply swf_sset | apply swf_ssetMany | apply swf_filter | apply swf_foldl | apply swf_nil | apply swf_ite)

theorem State.brownDrain_keeps (z : State) (s : State) (hz : Keeps z s) : Keeps z (State.brownDrain s) := by
  unfold State.brownDrain
  repeat' with_reducible (first | assumption | intro _ | apply State.eraseCut_keeps | apply State.muslin_keeps | apply State.writeRecord_keeps | apply State.canvasDrain_keeps | apply keeps_ite | apply keeps_ite_fst | apply keeps_foldl | apply keeps_foldl_fst | split | (dsimp only; split) | apply keeps_with | apply swf_sset | apply swf_ssetMany | apply swf_filter | apply swf_foldl | apply swf_nil | apply swf_ite)

theorem State.cvData_keeps (z : State) (s : State) (hz : Keeps z s) : Keeps z (State.cvData s).1 := by
  unfold State.cvData
  repeat' with_reducible (first | assumption | intro _ | apply State.setFld_keeps | apply keeps_ite | apply keeps_ite_fst | apply keeps_foldl | apply keeps_foldl_fst | split | (dsimp only; split) | apply keeps_with | apply swf_sset | apply swf_ssetMany | apply swf_filter | apply swf_foldl | apply swf_nil | apply swf_ite)

theorem State.muData_keeps (z : State) (s : State) (hz : Keeps z s) : Keeps z (State.muData s).1 := by
  unfold State.muData
  repeat' with_reducible (first | assumption | intro _ | apply State.muslin_keeps | apply State.setFld_keeps | apply keeps_ite | apply keeps_ite_fst | apply keeps_foldl | apply keeps_foldl_fst | split | (dsimp only; split) | apply keeps_with | apply swf_sset | apply swf_ssetMany | apply swf_filter | apply swf_foldl | apply swf_nil | apply swf_ite)

theorem State.tagData_keeps (z : State) (s : State) (w : Option Word) (hz : Keeps z s) : Keeps z (State.tagData s w).1 := by
  unfold State.tagData
  repeat' with_reducible (first | assumption | intro _ | apply State.setFld_keeps | apply State.recErr_keeps | apply State.bump_keeps | apply keeps_ite | apply keeps_ite_fst | apply keeps_foldl | apply keeps_foldl_fst | split | (dsimp only; split) | apply keeps_with | apply swf_sset | apply swf_ssetMany | apply swf_filter | apply swf_foldl | apply swf_nil | apply swf_ite)

theorem State.pmcRun_keeps (z : State) (s : State) (b : Bool) (hz : Keeps z s) : Keeps z (State.pmcRun s b) := by
  unfold State.pmcRun
  repeat' with_reducible (first | assumption | intro _ | apply State.setBit_keeps | apply keeps_ite | apply keeps_ite_fst | apply keeps_foldl | apply keeps_foldl_fst | split | (dsimp only; split) | apply keeps_with | apply swf_sset | apply swf_ssetMany | apply swf_filter | apply swf_foldl | apply swf_nil | apply swf_ite)

theorem State.pmcClear_keeps (z : State) (s : State) (hz : Keeps z s) : Keeps z (State.pmcClear s) := by
  unfold State.pmcClear
  repeat' with_reducible (first | assumption | intro _ | apply State.setReg_keeps | apply keeps_ite | apply keeps_ite_fst | apply keeps_foldl | apply keeps_foldl_fst | split | (dsimp only; split) | apply keeps_with | apply swf_sset | apply swf_ssetMany | apply swf_filter | apply swf_foldl | apply swf_nil | apply swf_ite)

theorem State.smpWrite_keeps (z : State) (s : State) (v : Nat) (hz : Keeps z s) : Keeps z (State.smpWrite s v) := by
  unfold State.smpWrite
  repeat' with_reducible (first | assumption | intro _ | apply State.writeCodes_keeps | apply State.setReg_keeps | apply keeps_ite | apply keeps_ite_fst | apply keeps_foldl | apply keeps_foldl_fst | split | (dsimp only; split) | apply keeps_with | apply swf_sset | apply swf_ssetMany | apply swf_filter | apply swf_foldl | apply swf_nil | apply swf_ite)
  all_goals (first | assumption | exact swf_filter _ _ ‹_›)

theorem State.rcWrite_keeps (z : State) (s : State) (c a v : Nat) (hz : Keeps z s) : Keeps z (State.rcWrite s c a v) := by
  unfold State.rcWrite
  repeat' with_reducible (first | assumption | intro _ | apply State.erase_keeps | apply State.pmcRun_keeps | apply State.pmcClear_keeps | apply State.writeCodes_keeps | apply State.recErr_keeps | apply State.smpWrite_keeps | apply keeps_ite | apply keeps_ite_fst | apply keeps_foldl | apply keeps_foldl_fst | split | (dsimp only; split) | apply keeps_with | apply swf_sset | apply swf_ssetMany | apply swf_filter | apply swf_foldl | apply swf_nil | apply swf_ite)

end Sys2Proof.Machine
end

