-- ==== Sys2Proof/Laws/KeepsHosts.lean ====
section
/-! SUPPORT. Every operation of Machine/Hosts.lean keeps the variant, the queue and the canonical form of the register table. -/

namespace Sys2Proof.Machine

set_option linter.all false
set_option Elab.async false

theorem State.take_keeps (z : State) (s : State) (c : Nat) (hz : Keeps z s) : Keeps z (State.take s c) := by
  unfold State.take
  repeat' with_reducible (first | assumption | intro _ | apply State.setFld_keeps | apply State.bumpWrap_keeps | apply State.count_keeps | apply keeps_ite | apply keeps_ite_fst | apply keeps_foldl | apply keeps_foldl_fst | split | (dsimp only; split) | apply keeps_with | apply swf_sset | apply swf_ssetMany | apply swf_filter | apply swf_foldl | apply swf_nil | apply swf_ite)

theorem State.command_keeps (z : State) (s : State) (c tag flags : Nat) (run : State → State × Nat × Nat × Nat) (hz : Keeps z s) (hrun : ∀ t, Keeps z t → Keeps z (run t).1) : Keeps z (State.command s c tag flags run) := by
  unfold State.command
  repeat' with_reducible (first | assumption | intro _ | apply hrun | apply State.take_keeps | apply State.complete_keeps | apply keeps_ite | apply keeps_ite_fst | apply keeps_foldl | apply keeps_foldl_fst | split | (dsimp only; split) | apply keeps_with | apply swf_sset | apply swf_ssetMany | apply swf_filter | apply swf_foldl | apply swf_nil | apply swf_ite)

theorem State.reserve_keeps (z : State) (s : State) (c : Nat) (hz : Keeps z s) : Keeps z (State.reserve s c) := by
  unfold State.reserve
  repeat' with_reducible (first | assumption | intro _ | apply keeps_ite | apply keeps_ite_fst | apply keeps_foldl | apply keeps_foldl_fst | split | (dsimp only; split) | apply keeps_with | apply swf_sset | apply swf_ssetMany | apply swf_filter | apply swf_foldl | apply swf_nil | apply swf_ite)

theorem State.commandLater_keeps (z : State) (s : State) (c tag flags : Nat) (check : State → Nat) (run : State → State) (hz : Keeps z s) (hrun : ∀ t, Keeps z t → Keeps z (run t)) : Keeps z (State.commandLater s c tag flags check run) := by
  unfold State.commandLater
  repeat' with_reducible (first | assumption | intro _ | apply hrun | apply State.take_keeps | apply Run.st_keeps | apply State.reserve_keeps | apply State.complete_keeps | apply keeps_ite | apply keeps_ite_fst | apply keeps_foldl | apply keeps_foldl_fst | split | (dsimp only; split) | apply keeps_with | apply swf_sset | apply swf_ssetMany | apply swf_filter | apply swf_foldl | apply swf_nil | apply swf_ite)

theorem State.setOwner_keeps (z : State) (s : State) (o c mode : Nat) (hz : Keeps z s) : Keeps z (State.setOwner s o c mode) := by
  unfold State.setOwner
  repeat' with_reducible (first | assumption | intro _ | apply State.setFld_keeps | apply keeps_ite | apply keeps_ite_fst | apply keeps_foldl | apply keeps_foldl_fst | split | (dsimp only; split) | apply keeps_with | apply swf_sset | apply swf_ssetMany | apply swf_filter | apply swf_foldl | apply swf_nil | apply swf_ite)

theorem State.freeOwner_keeps (z : State) (s : State) (o : Nat) (hz : Keeps z s) : Keeps z (State.freeOwner s o) := by
  unfold State.freeOwner
  repeat' with_reducible (first | assumption | intro _ | apply State.setFld_keeps | apply keeps_ite | apply keeps_ite_fst | apply keeps_foldl | apply keeps_foldl_fst | split | (dsimp only; split) | apply keeps_with | apply swf_sset | apply swf_ssetMany | apply swf_filter | apply swf_foldl | apply swf_nil | apply swf_ite)

theorem State.bringClosed_keeps (z : State) (s : State) (o : Nat) (hz : Keeps z s) : Keeps z (State.bringClosed s o) := by
  unfold State.bringClosed
  repeat' with_reducible (first | assumption | intro _ | apply State.commandClosed_keeps | apply State.setValve_keeps | apply Run.st_keeps | apply State.cutWins_keeps | apply State.vClose_keeps | apply State.setLsw_keeps | apply State.setFout_keeps | apply keeps_ite | apply keeps_ite_fst | apply keeps_foldl | apply keeps_foldl_fst | split | (dsimp only; split) | apply keeps_with | apply swf_sset | apply swf_ssetMany | apply swf_filter | apply swf_foldl | apply swf_nil | apply swf_ite)

theorem State.inhibitRefresh_keeps (z : State) (s : State) (o : Nat) (hz : Keeps z s) : Keeps z (State.inhibitRefresh s o) := by
  unfold State.inhibitRefresh
  repeat' with_reducible (first | assumption | intro _ | apply State.setFld_keeps | apply State.setBit_keeps | apply keeps_ite | apply keeps_ite_fst | apply keeps_foldl | apply keeps_foldl_fst | split | (dsimp only; split) | apply keeps_with | apply swf_sset | apply swf_ssetMany | apply swf_filter | apply swf_foldl | apply swf_nil | apply swf_ite)

theorem State.holdsRefresh_keeps (z : State) (s : State) (hz : Keeps z s) : Keeps z (State.holdsRefresh s) := by
  unfold State.holdsRefresh
  repeat' with_reducible (first | assumption | intro _ | apply State.holdRefresh_keeps | apply keeps_ite | apply keeps_ite_fst | apply keeps_foldl | apply keeps_foldl_fst | split | (dsimp only; split) | apply keeps_with | apply swf_sset | apply swf_ssetMany | apply swf_filter | apply swf_foldl | apply swf_nil | apply swf_ite)

theorem State.inhibit_keeps (z : State) (s : State) (c first count : Nat) (hz : Keeps z s) : Keeps z (State.inhibit s c first count) := by
  unfold State.inhibit
  repeat' with_reducible (first | assumption | intro _ | apply State.count_keeps | apply State.inhibitRefresh_keeps | apply State.withdrawAll_keeps | apply State.bringClosed_keeps | apply keeps_ite | apply keeps_ite_fst | apply keeps_foldl | apply keeps_foldl_fst | split | (dsimp only; split) | apply keeps_with | apply swf_sset | apply swf_ssetMany | apply swf_filter | apply swf_foldl | apply swf_nil | apply swf_ite)

theorem State.lift_keeps (z : State) (s : State) (p : Nat × Nat → Bool) (first count : Nat) (hz : Keeps z s) : Keeps z (State.lift s p first count) := by
  unfold State.lift
  repeat' with_reducible (first | assumption | intro _ | apply State.count_keeps | apply State.inhibitRefresh_keeps | apply State.holdsRefresh_keeps | apply keeps_ite | apply keeps_ite_fst | apply keeps_foldl | apply keeps_foldl_fst | split | (dsimp only; split) | apply keeps_with | apply swf_sset | apply swf_ssetMany | apply swf_filter | apply swf_foldl | apply swf_nil | apply swf_ite)

theorem State.await_keeps (z : State) (s : State) (kind : ChangeKind) (c tag flags first count : Nat) (hz : Keeps z s) : Keeps z (State.await s kind c tag flags first count) := by
  unfold State.await
  repeat' with_reducible (first | assumption | intro _ | apply State.count_keeps | apply keeps_ite | apply keeps_ite_fst | apply keeps_foldl | apply keeps_foldl_fst | split | (dsimp only; split) | apply keeps_with | apply swf_sset | apply swf_ssetMany | apply swf_filter | apply swf_foldl | apply swf_nil | apply swf_ite)

theorem State.flushRing_keeps (z : State) (s : State) (c : Nat) (x0 : Nat) (hz : Keeps z s) : Keeps z (State.flushRing s c x0) := by
  induction x0 generalizing s with
  | zero => exact hz
  | succ n ih =>
    unfold State.flushRing
    dsimp only
    split
    · exact hz
    · apply ih
      split
      · exact State.complete_keeps _ _ _ _ _ _ _ _ (State.setFld_keeps _ _ _ _ hz)
      · exact State.setFld_keeps _ _ _ _ hz

theorem State.ringsOff_keeps (z : State) (s : State) (c : Nat) (hz : Keeps z s) : Keeps z (State.ringsOff s c) := by
  unfold State.ringsOff
  repeat' with_reducible (first | assumption | intro _ | apply State.setFld_keeps | apply keeps_ite | apply keeps_ite_fst | apply keeps_foldl | apply keeps_foldl_fst | split | (dsimp only; split) | apply keeps_with | apply swf_sset | apply swf_ssetMany | apply swf_filter | apply swf_foldl | apply swf_nil | apply swf_ite)

theorem State.bind_keeps (z : State) (s : State) (c : Nat) (hz : Keeps z s) : Keeps z (State.bind s c) := by
  unfold State.bind
  repeat' with_reducible (first | assumption | intro _ | apply State.setFld_keeps | apply keeps_ite | apply keeps_ite_fst | apply keeps_foldl | apply keeps_foldl_fst | split | (dsimp only; split) | apply keeps_with | apply swf_sset | apply swf_ssetMany | apply swf_filter | apply swf_foldl | apply swf_nil | apply swf_ite)

theorem State.unbind_keeps (z : State) (s : State) (c : Nat) (hz : Keeps z s) : Keeps z (State.unbind s c) := by
  unfold State.unbind
  repeat' with_reducible (first | assumption | intro _ | apply State.tick_keeps | apply State.flushRing_keeps | apply State.ctxIrq_keeps | apply State.ringsOff_keeps | apply State.freeOwner_keeps | apply State.setFld_keeps | apply keeps_ite | apply keeps_ite_fst | apply keeps_foldl | apply keeps_foldl_fst | split | (dsimp only; split) | apply keeps_with | apply swf_sset | apply swf_ssetMany | apply swf_filter | apply swf_foldl | apply swf_nil | apply swf_ite)

theorem State.applyChange_keeps (z : State) (s : State) (x : Change) (hz : Keeps z s) : Keeps z (State.applyChange s x) := by
  unfold State.applyChange
  dsimp only
  split
  · exact State.finish_keeps _ _ _ _ _ _ (State.bind_keeps _ _ _ hz)
  · exact State.finish_keeps _ _ _ _ _ _ (State.unbind_keeps _ _ _ hz)
  · exact State.setBit_keeps _ _ _ _ hz
  · exact State.finish_keeps _ _ _ _ _ _ (keeps_foldl z _ (fun t o ht => State.setOwner_keeps _ _ _ _ _ ht) _ _ hz)
  · exact State.finish_keeps _ _ _ _ _ _ (keeps_foldl z _ (fun t o ht => State.freeOwner_keeps _ _ _ ht) _ _ hz)
  · split
    · exact State.finish_keeps _ _ _ _ _ _ (keeps_foldl z _ (fun t o ht => State.freeOwner_keeps _ _ _ ht) _ _ hz)
    · exact State.finish_keeps _ _ _ _ _ _ hz
  · split
    · exact State.finish_keeps _ _ _ _ _ _ hz
    · split
      · exact State.finish_keeps _ _ _ _ _ _ (keeps_foldl z _ (fun t o ht => State.setOwner_keeps _ _ _ _ _ ht) _ _ hz)
      · exact State.finish_keeps _ _ _ _ _ _ hz

theorem State.boundary_keeps (z : State) (s : State) (tk : Time) (hz : Keeps z s) : Keeps z (State.boundary s tk) := by
  unfold State.boundary
  repeat' with_reducible (first | assumption | intro _ | apply State.ready_keeps | apply State.applyChange_keeps | apply keeps_ite | apply keeps_ite_fst | apply keeps_foldl | apply keeps_foldl_fst | split | (dsimp only; split) | apply keeps_with | apply swf_sset | apply swf_ssetMany | apply swf_filter | apply swf_foldl | apply swf_nil | apply swf_ite)

theorem State.cmdNop_keeps (z : State) (s : State) (c tag flags : Nat) (hz : Keeps z s) : Keeps z (State.cmdNop s c tag flags) := by
  unfold State.cmdNop
  repeat' with_reducible (first | assumption | intro _ | apply State.command_keeps | apply keeps_ite | apply keeps_ite_fst | apply keeps_foldl | apply keeps_foldl_fst | split | (dsimp only; split) | apply keeps_with | apply swf_sset | apply swf_ssetMany | apply swf_filter | apply swf_foldl | apply swf_nil | apply swf_ite)

theorem State.cmdEdge_keeps (z : State) (s : State) (c tag flags outlet kind : Nat) (due : Time) (rate : Nat) (hz : Keeps z s) : Keeps z (State.cmdEdge s c tag flags outlet kind due rate) := by
  unfold State.cmdEdge
  repeat' with_reducible (first | assumption | intro _ | apply State.command_keeps | apply Run.st_keeps | apply State.bookEntry_keeps | apply keeps_ite | apply keeps_ite_fst | apply keeps_foldl | apply keeps_foldl_fst | split | (dsimp only; split) | apply keeps_with | apply swf_sset | apply swf_ssetMany | apply swf_filter | apply swf_foldl | apply swf_nil | apply swf_ite)

theorem State.cmdClaim_keeps (z : State) (s : State) (c tag flags first count mode : Nat) (hz : Keeps z s) : Keeps z (State.cmdClaim s c tag flags first count mode) := by
  unfold State.cmdClaim
  repeat' with_reducible (first | assumption | intro _ | apply State.commandLater_keeps | apply State.count_keeps | apply State.await_keeps | apply keeps_ite | apply keeps_ite_fst | apply keeps_foldl | apply keeps_foldl_fst | split | (dsimp only; split) | apply keeps_with | apply swf_sset | apply swf_ssetMany | apply swf_filter | apply swf_foldl | apply swf_nil | apply swf_ite)

theorem State.cmdRelease_keeps (z : State) (s : State) (c tag flags first count : Nat) (hz : Keeps z s) : Keeps z (State.cmdRelease s c tag flags first count) := by
  unfold State.cmdRelease
  repeat' with_reducible (first | assumption | intro _ | apply State.commandLater_keeps | apply State.count_keeps | apply State.await_keeps | apply keeps_ite | apply keeps_ite_fst | apply keeps_foldl | apply keeps_foldl_fst | split | (dsimp only; split) | apply keeps_with | apply swf_sset | apply swf_ssetMany | apply swf_filter | apply swf_foldl | apply swf_nil | apply swf_ite)

theorem State.cmdInhibit_keeps (z : State) (s : State) (c tag flags first count : Nat) (hz : Keeps z s) : Keeps z (State.cmdInhibit s c tag flags first count) := by
  unfold State.cmdInhibit
  repeat' with_reducible (first | assumption | intro _ | apply State.command_keeps | apply Run.st_keeps | apply State.count_keeps | apply State.inhibit_keeps | apply keeps_ite | apply keeps_ite_fst | apply keeps_foldl | apply keeps_foldl_fst | split | (dsimp only; split) | apply keeps_with | apply swf_sset | apply swf_ssetMany | apply swf_filter | apply swf_foldl | apply swf_nil | apply swf_ite)

theorem State.cmdInhibitLift_keeps (z : State) (s : State) (c tag flags first count : Nat) (hz : Keeps z s) : Keeps z (State.cmdInhibitLift s c tag flags first count) := by
  unfold State.cmdInhibitLift
  repeat' with_reducible (first | assumption | intro _ | apply State.command_keeps | apply Run.st_keeps | apply State.count_keeps | apply State.lift_keeps | apply keeps_ite | apply keeps_ite_fst | apply keeps_foldl | apply keeps_foldl_fst | split | (dsimp only; split) | apply keeps_with | apply swf_sset | apply swf_ssetMany | apply swf_filter | apply swf_foldl | apply swf_nil | apply swf_ite)

theorem State.overrideRecord_keeps (z : State) (s : State) (action mode c first count target : Nat) (since : Time) (hz : Keeps z s) : Keeps z (State.overrideRecord s action mode c first count target since) := by
  unfold State.overrideRecord
  repeat' with_reducible (first | assumption | intro _ | apply State.canvas_keeps | apply State.count_keeps | apply keeps_ite | apply keeps_ite_fst | apply keeps_foldl | apply keeps_foldl_fst | split | (dsimp only; split) | apply keeps_with | apply swf_sset | apply swf_ssetMany | apply swf_filter | apply swf_foldl | apply swf_nil | apply swf_ite)

theorem State.cmdOverrideWithdraw_keeps (z : State) (s : State) (c tag flags first count : Nat) (since : Time) (hz : Keeps z s) : Keeps z (State.cmdOverrideWithdraw s c tag flags first count since) := by
  unfold State.cmdOverrideWithdraw
  repeat' with_reducible (first | assumption | intro _ | apply State.command_keeps | apply Run.st_keeps | apply State.count_keeps | apply State.withdrawAll_keeps | apply State.overrideRecord_keeps | apply keeps_ite | apply keeps_ite_fst | apply keeps_foldl | apply keeps_foldl_fst | split | (dsimp only; split) | apply keeps_with | apply swf_sset | apply swf_ssetMany | apply swf_filter | apply swf_foldl | apply swf_nil | apply swf_ite)

theorem State.cmdOverrideLift_keeps (z : State) (s : State) (c tag flags first count : Nat) (hz : Keeps z s) : Keeps z (State.cmdOverrideLift s c tag flags first count) := by
  unfold State.cmdOverrideLift
  repeat' with_reducible (first | assumption | intro _ | apply State.command_keeps | apply Run.st_keeps | apply State.count_keeps | apply State.lift_keeps | apply State.overrideRecord_keeps | apply keeps_ite | apply keeps_ite_fst | apply keeps_foldl | apply keeps_foldl_fst | split | (dsimp only; split) | apply keeps_with | apply swf_sset | apply swf_ssetMany | apply swf_filter | apply swf_foldl | apply swf_nil | apply swf_ite)

theorem State.cmdOverrideTake_keeps (z : State) (s : State) (c tag flags first count mode target : Nat) (hz : Keeps z s) : Keeps z (State.cmdOverrideTake s c tag flags first count mode target) := by
  unfold State.cmdOverrideTake
  repeat' with_reducible (first | assumption | intro _ | apply State.commandLater_keeps | apply State.count_keeps | apply State.await_keeps | apply State.take_keeps | apply State.overrideRecord_keeps | apply keeps_ite | apply keeps_ite_fst | apply keeps_foldl | apply keeps_foldl_fst | split | (dsimp only; split) | apply keeps_with | apply swf_sset | apply swf_ssetMany | apply swf_filter | apply swf_foldl | apply swf_nil | apply swf_ite)

theorem State.cmdOverrideFree_keeps (z : State) (s : State) (c tag flags first count : Nat) (hz : Keeps z s) : Keeps z (State.cmdOverrideFree s c tag flags first count) := by
  unfold State.cmdOverrideFree
  repeat' with_reducible (first | assumption | intro _ | apply State.commandLater_keeps | apply State.count_keeps | apply State.await_keeps | apply State.overrideRecord_keeps | apply keeps_ite | apply keeps_ite_fst | apply keeps_foldl | apply keeps_foldl_fst | split | (dsimp only; split) | apply keeps_with | apply swf_sset | apply swf_ssetMany | apply swf_filter | apply swf_foldl | apply swf_nil | apply swf_ite)

theorem State.cmdFix_keeps (z : State) (s : State) (c tag flags : Nat) (f : FixIn) (hz : Keeps z s) : Keeps z (State.cmdFix s c tag flags f) := by
  unfold State.cmdFix
  repeat' with_reducible (first | assumption | intro _ | apply State.command_keeps | apply Run.st_keeps | apply State.submitFix_keeps | apply keeps_ite | apply keeps_ite_fst | apply keeps_foldl | apply keeps_foldl_fst | split | (dsimp only; split) | apply keeps_with | apply swf_sset | apply swf_ssetMany | apply swf_filter | apply swf_foldl | apply swf_nil | apply swf_ite)

theorem State.cmdBusSend_keeps (z : State) (s : State) (c tag flags port dlc : Nat) (oneShot ide fdf brs : Bool) (id : Nat) (data : List Byte) (hz : Keeps z s) : Keeps z (State.cmdBusSend s c tag flags port dlc oneShot ide fdf brs id data) := by
  unfold State.cmdBusSend
  repeat' with_reducible (first | assumption | intro _ | apply State.take_keeps | apply Run.st_keeps | apply State.complete_keeps | apply State.enqueue_keeps | apply State.reserve_keeps | apply keeps_ite | apply keeps_ite_fst | apply keeps_foldl | apply keeps_foldl_fst | split | (dsimp only; split) | apply keeps_with | apply swf_sset | apply swf_ssetMany | apply swf_filter | apply swf_foldl | apply swf_nil | apply swf_ite)

theorem State.cmdBind_keeps (z : State) (s : State) (c tag flags target : Nat) (hz : Keeps z s) : Keeps z (State.cmdBind s c tag flags target) := by
  unfold State.cmdBind
  repeat' with_reducible (first | assumption | intro _ | apply State.commandLater_keeps | apply State.await_keeps | apply State.bind_keeps | apply State.setFld_keeps | apply keeps_ite | apply keeps_ite_fst | apply keeps_foldl | apply keeps_foldl_fst | split | (dsimp only; split) | apply keeps_with | apply swf_sset | apply swf_ssetMany | apply swf_filter | apply swf_foldl | apply swf_nil | apply swf_ite)

theorem State.cmdUnbind_keeps (z : State) (s : State) (c tag flags target : Nat) (hz : Keeps z s) : Keeps z (State.cmdUnbind s c tag flags target) := by
  unfold State.cmdUnbind
  repeat' with_reducible (first | assumption | intro _ | apply State.commandLater_keeps | apply State.await_keeps | apply State.unbind_keeps | apply State.setFld_keeps | apply keeps_ite | apply keeps_ite_fst | apply keeps_foldl | apply keeps_foldl_fst | split | (dsimp only; split) | apply keeps_with | apply swf_sset | apply swf_ssetMany | apply swf_filter | apply swf_foldl | apply swf_nil | apply swf_ite)

theorem State.sqTail_keeps (z : State) (s : State) (c v : Nat) (hz : Keeps z s) : Keeps z (State.sqTail s c v) := by
  unfold State.sqTail
  repeat' with_reducible (first | assumption | intro _ | apply State.setFld_keeps | apply keeps_ite | apply keeps_ite_fst | apply keeps_foldl | apply keeps_foldl_fst | split | (dsimp only; split) | apply keeps_with | apply swf_sset | apply swf_ssetMany | apply swf_filter | apply swf_foldl | apply swf_nil | apply swf_ite)

theorem State.irqRises_keeps (z : State) (s : State) (c before : Nat) (hz : Keeps z s) : Keeps z (State.irqRises s c before) := by
  unfold State.irqRises
  repeat' with_reducible (first | assumption | intro _ | apply State.ctxMessage_keeps | apply keeps_ite | apply keeps_ite_fst | apply keeps_foldl | apply keeps_foldl_fst | split | (dsimp only; split) | apply keeps_with | apply swf_sset | apply swf_ssetMany | apply swf_filter | apply swf_foldl | apply swf_nil | apply swf_ite)

theorem State.dmaStarts_keeps (z : State) (s : State) (c : Nat) (hz : Keeps z s) : Keeps z (State.dmaStarts s c) := by
  unfold State.dmaStarts
  repeat' with_reducible (first | assumption | intro _ | apply keeps_ite | apply keeps_ite_fst | apply keeps_foldl | apply keeps_foldl_fst | split | (dsimp only; split) | apply keeps_with | apply swf_sset | apply swf_ssetMany | apply swf_filter | apply swf_foldl | apply swf_nil | apply swf_ite)

theorem State.cwWrite_keeps (z : State) (s : State) (c off v : Nat) (hz : Keeps z s) : Keeps z (State.cwWrite s c off v) := by
  unfold State.cwWrite
  repeat' with_reducible (first | assumption | intro _ | apply State.raise_keeps | apply State.writeCodes_keeps | apply State.dmaStarts_keeps | apply State.setFld_keeps | apply State.sqTail_keeps | apply State.irqRises_keeps | apply keeps_ite | apply keeps_ite_fst | apply keeps_foldl | apply keeps_foldl_fst | split | (dsimp only; split) | apply keeps_with | apply swf_sset | apply swf_ssetMany | apply swf_filter | apply swf_foldl | apply swf_nil | apply swf_ite)

theorem State.msixUnmask_keeps (z : State) (s : State) (p v : Nat) (hz : Keeps z s) : Keeps z (State.msixUnmask s p v) := by
  unfold State.msixUnmask
  repeat' with_reducible (first | assumption | intro _ | apply State.setFbit_keeps | apply State.msix_keeps | apply keeps_ite | apply keeps_ite_fst | apply keeps_foldl | apply keeps_foldl_fst | split | (dsimp only; split) | apply keeps_with | apply swf_sset | apply swf_ssetMany | apply swf_filter | apply swf_foldl | apply swf_nil | apply swf_ite)

theorem State.hpWrite_keeps (z : State) (s : State) (a v : Nat) (hz : Keeps z s) : Keeps z (State.hpWrite s a v) := by
  unfold State.hpWrite
  repeat' with_reducible (first | assumption | intro _ | apply State.writeCodes_keeps | apply State.supNotify_keeps | apply State.await_keeps | apply State.msixUnmask_keeps | apply keeps_ite | apply keeps_ite_fst | apply keeps_foldl | apply keeps_foldl_fst | split | (dsimp only; split) | apply keeps_with | apply swf_sset | apply swf_ssetMany | apply swf_filter | apply swf_foldl | apply swf_nil | apply swf_ite)

theorem State.ring_keeps (z : State) (s : State) (p : Nat) (w : Option Nat) (v : Nat) (hz : Keeps z s) : Keeps z (State.ring s p w v) := by
  unfold State.ring
  repeat' with_reducible (first | assumption | intro _ | apply State.doorbell_keeps | apply keeps_ite | apply keeps_ite_fst | apply keeps_foldl | apply keeps_foldl_fst | split | (dsimp only; split) | apply keeps_with | apply swf_sset | apply swf_ssetMany | apply swf_filter | apply swf_foldl | apply swf_nil | apply swf_ite)

theorem State.linkDown_keeps (z : State) (s : State) (p : Nat) (down : Bool) (hz : Keeps z s) : Keeps z (State.linkDown s p down) := by
  unfold State.linkDown
  repeat' with_reducible (first | assumption | intro _ | apply State.ringsOff_keeps | apply State.setFbit_keeps | apply State.raiseBit_keeps | apply keeps_ite | apply keeps_ite_fst | apply keeps_foldl | apply keeps_foldl_fst | split | (dsimp only; split) | apply keeps_with | apply swf_sset | apply swf_ssetMany | apply swf_filter | apply swf_foldl | apply swf_nil | apply swf_ite)

end Sys2Proof.Machine
end

