-- ==== Sys2Proof/Laws/KeepsActivate.lean ====
section
/-! SUPPORT. Every operation of Machine/Activate.lean keeps the variant, the queue and the canonical form of the register table. -/

namespace Sys2Proof.Machine

set_option linter.all false
set_option Elab.async false

theorem State.loadWords_keeps (z : State) (s : State) (r : Option ImgRec) (base n : Nat) (hz : Keeps z s) : Keeps z (State.loadWords s r base n) := by
  unfold State.loadWords
  repeat' with_reducible (first | assumption | intro _ | apply State.setReg_keeps | apply keeps_ite | apply keeps_ite_fst | apply keeps_foldl | apply keeps_foldl_fst | split | (dsimp only; split) | apply keeps_with | apply swf_sset | apply swf_ssetMany | apply swf_filter | apply swf_foldl | apply swf_nil | apply swf_ite)

theorem State.loadOutlet_keeps (z : State) (s : State) (o : Nat) (hz : Keeps z s) : Keeps z (State.loadOutlet s o) := by
  unfold State.loadOutlet
  repeat' with_reducible (first | assumption | intro _ | apply State.loadWords_keeps | apply State.setBit_keeps | apply keeps_ite | apply keeps_ite_fst | apply keeps_foldl | apply keeps_foldl_fst | split | (dsimp only; split) | apply keeps_with | apply swf_sset | apply swf_ssetMany | apply swf_filter | apply swf_foldl | apply swf_nil | apply swf_ite)

theorem State.loadSwitch_keeps (z : State) (s : State) (n : Nat) (hz : Keeps z s) : Keeps z (State.loadSwitch s n) := by
  unfold State.loadSwitch
  repeat' with_reducible (first | assumption | intro _ | apply State.loadWords_keeps | apply State.setLsw_keeps | apply State.setFld_keeps | apply keeps_ite | apply keeps_ite_fst | apply keeps_foldl | apply keeps_foldl_fst | split | (dsimp only; split) | apply keeps_with | apply swf_sset | apply swf_ssetMany | apply swf_filter | apply swf_foldl | apply swf_nil | apply swf_ite)

theorem State.stageField_keeps (z : State) (s : State) (r : Option ImgRec) (i k : Nat) (hz : Keeps z s) : Keeps z (State.stageField s r i k) := by
  unfold State.stageField
  repeat' with_reducible (first | assumption | intro _ | apply keeps_ite | apply keeps_ite_fst | apply keeps_foldl | apply keeps_foldl_fst | split | (dsimp only; split) | apply keeps_with | apply swf_sset | apply swf_ssetMany | apply swf_filter | apply swf_foldl | apply swf_nil | apply swf_ite)

theorem State.loadRec_keeps (z : State) (s : State) (k : Nat × Nat) (hz : Keeps z s) : Keeps z (State.loadRec s k) := by
  unfold State.loadRec
  repeat' with_reducible (first | assumption | intro _ | apply State.loadWords_keeps | apply State.setFld_keeps | apply State.setReg_keeps | apply State.stageField_keeps | apply State.loadSwitch_keeps | apply keeps_ite | apply keeps_ite_fst | apply keeps_foldl | apply keeps_foldl_fst | split | (dsimp only; split) | apply keeps_with | apply swf_sset | apply swf_ssetMany | apply swf_filter | apply swf_foldl | apply swf_nil | apply swf_ite)

theorem State.removeOutlets_keeps (z : State) (s : State) (os : List Nat) (hz : Keeps z s) : Keeps z (State.removeOutlets s os) := by
  unfold State.removeOutlets
  repeat' with_reducible (first | assumption | intro _ | apply State.withdrawAll_keeps | apply State.setLink_keeps | apply State.holdRefresh_keeps | apply State.bringClosed_keeps | apply State.setFld_keeps | apply keeps_ite | apply keeps_ite_fst | apply keeps_foldl | apply keeps_foldl_fst | split | (dsimp only; split) | apply keeps_with | apply swf_sset | apply swf_ssetMany | apply swf_filter | apply swf_foldl | apply swf_nil | apply swf_ite)

theorem State.undefine_keeps (z : State) (s : State) (o : Nat) (hz : Keeps z s) : Keeps z (State.undefine s o) := by
  unfold State.undefine
  repeat' with_reducible (first | assumption | intro _ | apply State.setFld_keeps | apply keeps_ite | apply keeps_ite_fst | apply keeps_foldl | apply keeps_foldl_fst | split | (dsimp only; split) | apply keeps_with | apply swf_sset | apply swf_ssetMany | apply swf_filter | apply swf_foldl | apply swf_nil | apply swf_ite)

theorem State.learnedAt_keeps (z : State) (s : State) (keep quiet : Bool) (o kind : Nat) (hz : Keeps z s) : Keeps z (State.learnedAt s keep quiet o kind) := by
  unfold State.learnedAt
  repeat' with_reducible (first | assumption | intro _ | apply State.setFld_keeps | apply State.setBit_keeps | apply keeps_ite | apply keeps_ite_fst | apply keeps_foldl | apply keeps_foldl_fst | split | (dsimp only; split) | apply keeps_with | apply swf_sset | apply swf_ssetMany | apply swf_filter | apply swf_foldl | apply swf_nil | apply swf_ite)

theorem State.activateOutlets_keeps (z : State) (s : State) (old : List ImgRec) (ks : List (Nat × Nat)) (quiet : Bool) (hz : Keeps z s) : Keeps z (State.activateOutlets s old ks quiet) := by
  unfold State.activateOutlets
  repeat' with_reducible (first | assumption | intro _ | apply Run.st_keeps | apply State.cancelEntry_keeps | apply State.removeOutlets_keeps | apply State.loadOutlet_keeps | apply State.undefine_keeps | apply State.learnedAt_keeps | apply State.setFld_keeps | apply keeps_ite | apply keeps_ite_fst | apply keeps_foldl | apply keeps_foldl_fst | split | (dsimp only; split) | apply keeps_with | apply swf_sset | apply swf_ssetMany | apply swf_filter | apply swf_foldl | apply swf_nil | apply swf_ite)

theorem State.activateLinks_keeps (z : State) (s : State) (hz : Keeps z s) : Keeps z (State.activateLinks s) := by
  unfold State.activateLinks
  repeat' with_reducible (first | assumption | intro _ | apply State.setLink_keeps | apply State.refreshTargets_keeps | apply State.sendSafeMap_keeps | apply State.holdRefresh_keeps | apply keeps_ite | apply keeps_ite_fst | apply keeps_foldl | apply keeps_foldl_fst | split | (dsimp only; split) | apply keeps_with | apply swf_sset | apply swf_ssetMany | apply swf_filter | apply swf_foldl | apply swf_nil | apply swf_ite)

theorem State.keepPhases_keeps (z : State) (s : State) (hz : Keeps z s) : Keeps z (State.keepPhases s) := by
  unfold State.keepPhases
  repeat' with_reducible (first | assumption | intro _ | apply Run.st_keeps | apply State.setValve_keeps | apply keeps_ite | apply keeps_ite_fst | apply keeps_foldl | apply keeps_foldl_fst | split | (dsimp only; split) | apply keeps_with | apply swf_sset | apply swf_ssetMany | apply swf_filter | apply swf_foldl | apply swf_nil | apply swf_ite)

theorem State.mapValve_keeps (z : State) (s : State) (n o : Nat) (hz : Keeps z s) : Keeps z (State.mapValve s n o) := by
  unfold State.mapValve
  repeat' with_reducible (first | assumption | intro _ | apply State.setFld_keeps | apply State.vTo_keeps | apply State.setValve_keeps | apply keeps_ite | apply keeps_ite_fst | apply keeps_foldl | apply keeps_foldl_fst | split | (dsimp only; split) | apply keeps_with | apply swf_sset | apply swf_ssetMany | apply swf_filter | apply swf_foldl | apply swf_nil | apply swf_ite)

theorem State.unmapValve_keeps (z : State) (s : State) (n : Nat) (hz : Keeps z s) : Keeps z (State.unmapValve s n) := by
  unfold State.unmapValve
  repeat' with_reducible (first | assumption | intro _ | apply State.setFld_keeps | apply State.setValve_keeps | apply State.vClose_keeps | apply keeps_ite | apply keeps_ite_fst | apply keeps_foldl | apply keeps_foldl_fst | split | (dsimp only; split) | apply keeps_with | apply swf_sset | apply swf_ssetMany | apply swf_filter | apply swf_foldl | apply swf_nil | apply swf_ite)

theorem State.ledgerUnits_keeps (z : State) (s : State) (hz : Keeps z s) : Keeps z (State.ledgerUnits s) := by
  unfold State.ledgerUnits
  repeat' with_reducible (first | assumption | intro _ | apply State.setBit_keeps | apply keeps_ite | apply keeps_ite_fst | apply keeps_foldl | apply keeps_foldl_fst | split | (dsimp only; split) | apply keeps_with | apply swf_sset | apply swf_ssetMany | apply swf_filter | apply swf_foldl | apply swf_nil | apply swf_ite)

theorem State.mapValves_keeps (z : State) (s : State) (hz : Keeps z s) : Keeps z (State.mapValves s) := by
  unfold State.mapValves
  repeat' with_reducible (first | assumption | intro _ | apply State.mapValve_keeps | apply State.unmapValve_keeps | apply State.ledgerUnits_keeps | apply keeps_ite | apply keeps_ite_fst | apply keeps_foldl | apply keeps_foldl_fst | split | (dsimp only; split) | apply keeps_with | apply swf_sset | apply swf_ssetMany | apply swf_filter | apply swf_foldl | apply swf_nil | apply swf_ite)

theorem State.slotHeld_keeps (z : State) (s : State) (n : Nat) (hz : Keeps z s) : Keeps z (State.slotHeld s n) := by
  unfold State.slotHeld
  repeat' with_reducible (first | assumption | intro _ | apply State.slotSafe_keeps | apply keeps_ite | apply keeps_ite_fst | apply keeps_foldl | apply keeps_foldl_fst | split | (dsimp only; split) | apply keeps_with | apply swf_sset | apply swf_ssetMany | apply swf_filter | apply swf_foldl | apply swf_nil | apply swf_ite)

theorem State.activateSlot_keeps (z : State) (s : State) (n : Nat) (hz : Keeps z s) : Keeps z (State.activateSlot s n) := by
  unfold State.activateSlot
  repeat' with_reducible (first | assumption | intro _ | apply State.setSlot_keeps | apply State.setReg_keeps | apply State.loadWords_keeps | apply State.loadData_keeps | apply State.setFld_keeps | apply State.slotStop_keeps | apply State.slotSoft_keeps | apply State.slotHeld_keeps | apply State.setBit_keeps | apply keeps_ite | apply keeps_ite_fst | apply keeps_foldl | apply keeps_foldl_fst | split | (dsimp only; split) | apply keeps_with | apply swf_sset | apply swf_ssetMany | apply swf_filter | apply swf_foldl | apply swf_nil | apply swf_ite)

theorem State.activatePort_keeps (z : State) (s : State) (p : Nat) (hz : Keeps z s) : Keeps z (State.activatePort s p) := by
  unfold State.activatePort
  repeat' with_reducible (first | assumption | intro _ | apply State.portOff_keeps | apply State.loadWords_keeps | apply State.setTxObj_keeps | apply State.setFld_keeps | apply State.portJoin_keeps | apply keeps_ite | apply keeps_ite_fst | apply keeps_foldl | apply keeps_foldl_fst | split | (dsimp only; split) | apply keeps_with | apply swf_sset | apply swf_ssetMany | apply swf_filter | apply swf_foldl | apply swf_nil | apply swf_ite)

theorem State.activateContext_keeps (z : State) (s : State) (c : Nat) (hz : Keeps z s) : Keeps z (State.activateContext s c) := by
  unfold State.activateContext
  repeat' with_reducible (first | assumption | intro _ | apply State.unbind_keeps | apply State.loadWords_keeps | apply State.setBit_keeps | apply State.freeOwner_keeps | apply keeps_ite | apply keeps_ite_fst | apply keeps_foldl | apply keeps_foldl_fst | split | (dsimp only; split) | apply keeps_with | apply swf_sset | apply swf_ssetMany | apply swf_filter | apply swf_foldl | apply swf_nil | apply swf_ite)

theorem State.shadowWrites_keeps (z : State) (s : State) (hz : Keeps z s) : Keeps z (State.shadowWrites s) := by
  unfold State.shadowWrites
  repeat' with_reducible (first | assumption | intro _ | apply State.lsShadowWrite_keeps | apply State.fdShadowWrite_keeps | apply keeps_ite | apply keeps_ite_fst | apply keeps_foldl | apply keeps_foldl_fst | split | (dsimp only; split) | apply keeps_with | apply swf_sset | apply swf_ssetMany | apply swf_filter | apply swf_foldl | apply swf_nil | apply swf_ite)

theorem State.framesStart_keeps (z : State) (s : State) (hz : Keeps z s) : Keeps z (State.framesStart s) := by
  unfold State.framesStart
  repeat' with_reducible (first | assumption | intro _ | apply keeps_ite | apply keeps_ite_fst | apply keeps_foldl | apply keeps_foldl_fst | split | (dsimp only; split) | apply keeps_with | apply swf_sset | apply swf_ssetMany | apply swf_filter | apply swf_foldl | apply swf_nil | apply swf_ite)

theorem State.activate_keeps (z : State) (s : State) (m : Image) (live : Bool) (hz : Keeps z s) : Keeps z (State.activate s m live) := by
  unfold State.activate
  repeat' with_reducible (first | assumption | intro _ | apply State.keepPhases_keeps | apply State.activateContext_keeps | apply State.loadRec_keeps | apply State.activateOutlets_keeps | apply State.mapValves_keeps | apply State.activateLinks_keeps | apply State.activatePort_keeps | apply State.activateSlot_keeps | apply State.modeBoundary_keeps | apply State.shadowWrites_keeps | apply State.framesStart_keeps | apply State.setFld_keeps | apply State.setReg_keeps | apply State.poWake_keeps | apply State.raise_keeps | apply State.canvas_keeps | apply keeps_ite | apply keeps_ite_fst | apply keeps_foldl | apply keeps_foldl_fst | split | (dsimp only; split) | apply keeps_with | apply swf_sset | apply swf_ssetMany | apply swf_filter | apply swf_foldl | apply swf_nil | apply swf_ite)

end Sys2Proof.Machine
end

