-- ==== Sys2Proof/Laws/KeepsImage.lean ====
section
/-! SUPPORT. Every operation of Machine/Image.lean keeps the variant, the queue and the canonical form of the register table. -/

namespace Sys2Proof.Machine

set_option linter.all false
set_option Elab.async false

theorem State.imgErr_keeps (z : State) (s : State) (hz : Keeps z s) : Keeps z (State.imgErr s) := by
  unfold State.imgErr
  repeat' with_reducible (first | assumption | intro _ | apply State.raise_keeps | apply keeps_ite | apply keeps_ite_fst | apply keeps_foldl | apply keeps_foldl_fst | split | (dsimp only; split) | apply keeps_with | apply swf_sset | apply swf_ssetMany | apply swf_filter | apply swf_foldl | apply swf_nil | apply swf_ite)

theorem State.stagingWrite_keeps (z : State) (s : State) (offset : Nat) (bs : List Byte) (hz : Keeps z s) : Keeps z (State.stagingWrite s offset bs) := by
  unfold State.stagingWrite
  repeat' with_reducible (first | assumption | intro _ | apply State.take_keeps | apply State.imgErr_keeps | apply keeps_ite | apply keeps_ite_fst | apply keeps_foldl | apply keeps_foldl_fst | split | (dsimp only; split) | apply keeps_with | apply swf_sset | apply swf_ssetMany | apply swf_filter | apply swf_foldl | apply swf_nil | apply swf_ite)

theorem State.unstage_keeps (z : State) (s : State) (hz : Keeps z s) : Keeps z (State.unstage s) := by
  unfold State.unstage
  repeat' with_reducible (first | assumption | intro _ | apply State.setReg_keeps | apply keeps_ite | apply keeps_ite_fst | apply keeps_foldl | apply keeps_foldl_fst | split | (dsimp only; split) | apply keeps_with | apply swf_sset | apply swf_ssetMany | apply swf_filter | apply swf_foldl | apply swf_nil | apply swf_ite)

theorem State.showErr_keeps (z : State) (s : State) (code seg rule ofs : Nat) (hz : Keeps z s) : Keeps z (State.showErr s code seg rule ofs) := by
  unfold State.showErr
  repeat' with_reducible (first | assumption | intro _ | apply State.setFld_keeps | apply keeps_ite | apply keeps_ite_fst | apply keeps_foldl | apply keeps_foldl_fst | split | (dsimp only; split) | apply keeps_with | apply swf_sset | apply swf_ssetMany | apply swf_filter | apply swf_foldl | apply swf_nil | apply swf_ite)

theorem State.verify_keeps (z : State) (s : State) (hz : Keeps z s) : Keeps z (State.verify s) := by
  unfold State.verify
  repeat' with_reducible (first | assumption | intro _ | apply State.showErr_keeps | apply State.raise_keeps | apply State.imgErr_keeps | apply State.unstage_keeps | apply State.setFld_keeps | apply keeps_ite | apply keeps_ite_fst | apply keeps_foldl | apply keeps_foldl_fst | split | (dsimp only; split) | apply keeps_with | apply swf_sset | apply swf_ssetMany | apply swf_filter | apply swf_foldl | apply swf_nil | apply swf_ite)

theorem State.verifyDone_keeps (z : State) (s : State) (hz : Keeps z s) : Keeps z (State.verifyDone s) := by
  unfold State.verifyDone
  repeat' with_reducible (first | assumption | intro _ | apply State.setFld_keeps | apply State.setReg_keeps | apply State.setBit_keeps | apply State.raise_keeps | apply State.showErr_keeps | apply keeps_ite | apply keeps_ite_fst | apply keeps_foldl | apply keeps_foldl_fst | split | (dsimp only; split) | apply keeps_with | apply swf_sset | apply swf_ssetMany | apply swf_filter | apply swf_foldl | apply swf_nil | apply swf_ite)

theorem State.discard_keeps (z : State) (s : State) (hz : Keeps z s) : Keeps z (State.discard s) := by
  unfold State.discard
  repeat' with_reducible (first | assumption | intro _ | apply State.imgErr_keeps | apply State.unstage_keeps | apply State.setFld_keeps | apply keeps_ite | apply keeps_ite_fst | apply keeps_foldl | apply keeps_foldl_fst | split | (dsimp only; split) | apply keeps_with | apply swf_sset | apply swf_ssetMany | apply swf_filter | apply swf_foldl | apply swf_nil | apply swf_ite)

theorem State.setBootSlot_keeps (z : State) (s : State) (k : Nat) (x : BootSlot) (hz : Keeps z s) : Keeps z (State.setBootSlot s k x) := by
  unfold State.setBootSlot
  repeat' with_reducible (first | assumption | intro _ | apply State.setBit_keeps | apply keeps_ite | apply keeps_ite_fst | apply keeps_foldl | apply keeps_foldl_fst | split | (dsimp only; split) | apply keeps_with | apply swf_sset | apply swf_ssetMany | apply swf_filter | apply swf_foldl | apply swf_nil | apply swf_ite)

theorem State.save_keeps (z : State) (s : State) (k : Nat) (trial : Bool) (hz : Keeps z s) : Keeps z (State.save s k trial) := by
  unfold State.save
  repeat' with_reducible (first | assumption | intro _ | apply State.imgErr_keeps | apply State.setBootSlot_keeps | apply State.setFld_keeps | apply keeps_ite | apply keeps_ite_fst | apply keeps_foldl | apply keeps_foldl_fst | split | (dsimp only; split) | apply keeps_with | apply swf_sset | apply swf_ssetMany | apply swf_filter | apply swf_foldl | apply swf_nil | apply swf_ite)

theorem State.saveDone_keeps (z : State) (s : State) (ok : Bool) (hz : Keeps z s) : Keeps z (State.saveDone s ok) := by
  unfold State.saveDone
  repeat' with_reducible (first | assumption | intro _ | apply State.setFld_keeps | apply State.setBootSlot_keeps | apply State.raise_keeps | apply keeps_ite | apply keeps_ite_fst | apply keeps_foldl | apply keeps_foldl_fst | split | (dsimp only; split) | apply keeps_with | apply swf_sset | apply swf_ssetMany | apply swf_filter | apply swf_foldl | apply swf_nil | apply swf_ite)

theorem State.load_keeps (z : State) (s : State) (k : Nat) (hz : Keeps z s) : Keeps z (State.load s k) := by
  unfold State.load
  repeat' with_reducible (first | assumption | intro _ | apply State.imgErr_keeps | apply State.unstage_keeps | apply State.setFld_keeps | apply keeps_ite | apply keeps_ite_fst | apply keeps_foldl | apply keeps_foldl_fst | split | (dsimp only; split) | apply keeps_with | apply swf_sset | apply swf_ssetMany | apply swf_filter | apply swf_foldl | apply swf_nil | apply swf_ite)

theorem swf_sparseFrom (bs : List Byte) (k : Nat) : swf (fun _ => 0) (sparseFrom k bs) = true ∧ ∀ e ∈ sparseFrom k bs, k ≤ e.1 := by
  induction bs generalizing k with
  | nil => exact ⟨rfl, by simp [sparseFrom]⟩
  | cons b bs ih =>
    obtain ⟨hw, hk⟩ := ih (k + 1)
    unfold sparseFrom
    split
    · exact ⟨hw, fun e he => Nat.le_of_succ_le (hk e he)⟩
    · rename_i hb
      constructor
      · simp only [swf, Bool.and_eq_true, sabove, List.all_eq_true, decide_eq_true_eq]
        exact ⟨fun e he => hk e he, hb, hw⟩
      · intro e he
        rcases List.mem_cons.1 he with rfl | he
        · exact Nat.le_refl _
        · exact Nat.le_of_succ_le (hk e he)

theorem State.loadDone_keeps (z : State) (s : State) (ok : Bool) (hz : Keeps z s) : Keeps z (State.loadDone s ok) := by
  unfold State.loadDone
  split
  · dsimp only
    have h2 : Keeps z (({ s with im := { s.im with loading := none } } : State).setFld Reg.IMG_STATUS_BUSY 0) := by
      apply State.setFld_keeps
      apply keeps_with hz <;> intro _ <;> assumption
    split
    · apply keeps_with h2 <;> intro _
      case h7 => exact (swf_sparseFrom _ 0).1
      all_goals assumption
    · exact h2
  · exact hz

theorem State.confirm_keeps (z : State) (s : State) (hz : Keeps z s) : Keeps z (State.confirm s) := by
  unfold State.confirm
  repeat' with_reducible (first | assumption | intro _ | apply State.setBootSlot_keeps | apply keeps_ite | apply keeps_ite_fst | apply keeps_foldl | apply keeps_foldl_fst | split | (dsimp only; split) | apply keeps_with | apply swf_sset | apply swf_ssetMany | apply swf_filter | apply swf_foldl | apply swf_nil | apply swf_ite)

theorem State.keyRecord_keeps (z : State) (s : State) (cmd slot : Nat) (hz : Keeps z s) : Keeps z (State.keyRecord s cmd slot) := by
  unfold State.keyRecord
  repeat' with_reducible (first | assumption | intro _ | apply State.canvas_keeps | apply keeps_ite | apply keeps_ite_fst | apply keeps_foldl | apply keeps_foldl_fst | split | (dsimp only; split) | apply keeps_with | apply swf_sset | apply swf_ssetMany | apply swf_filter | apply swf_foldl | apply swf_nil | apply swf_ite)

theorem State.raiseFloor_keeps (z : State) (s : State) (hz : Keeps z s) : Keeps z (State.raiseFloor s) := by
  unfold State.raiseFloor
  repeat' with_reducible (first | assumption | intro _ | apply State.setFld_keeps | apply State.keyRecord_keeps | apply State.imgErr_keeps | apply keeps_ite | apply keeps_ite_fst | apply keeps_foldl | apply keeps_foldl_fst | split | (dsimp only; split) | apply keeps_with | apply swf_sset | apply swf_ssetMany | apply swf_filter | apply swf_foldl | apply swf_nil | apply swf_ite)

theorem State.keyProg_keeps (z : State) (s : State) (k : Nat) (hz : Keeps z s) : Keeps z (State.keyProg s k) := by
  unfold State.keyProg
  repeat' with_reducible (first | assumption | intro _ | apply State.imgErr_keeps | apply State.setKey_keeps | apply State.keyRecord_keeps | apply keeps_ite | apply keeps_ite_fst | apply keeps_foldl | apply keeps_foldl_fst | split | (dsimp only; split) | apply keeps_with | apply swf_sset | apply swf_ssetMany | apply swf_filter | apply swf_foldl | apply swf_nil | apply swf_ite)

theorem State.keyRevoke_keeps (z : State) (s : State) (k : Nat) (hz : Keeps z s) : Keeps z (State.keyRevoke s k) := by
  unfold State.keyRevoke
  repeat' with_reducible (first | assumption | intro _ | apply State.imgErr_keeps | apply State.setKey_keeps | apply State.keyRecord_keeps | apply keeps_ite | apply keeps_ite_fst | apply keeps_foldl | apply keeps_foldl_fst | split | (dsimp only; split) | apply keeps_with | apply swf_sset | apply swf_ssetMany | apply swf_filter | apply swf_foldl | apply swf_nil | apply swf_ite)

theorem State.showMatch_keeps (z : State) (s : State) (m : Image) (hz : Keeps z s) : Keeps z (State.showMatch s m) := by
  unfold State.showMatch
  repeat' with_reducible (first | assumption | intro _ | apply State.setFld_keeps | apply keeps_ite | apply keeps_ite_fst | apply keeps_foldl | apply keeps_foldl_fst | split | (dsimp only; split) | apply keeps_with | apply swf_sset | apply swf_ssetMany | apply swf_filter | apply swf_foldl | apply swf_nil | apply swf_ite)

theorem State.bringUp_keeps (z : State) (s : State) (m : Image) (live : Bool) (hz : Keeps z s) : Keeps z (State.bringUp s m live) := by
  unfold State.bringUp
  repeat' with_reducible (first | assumption | intro _ | apply State.showMatch_keeps | apply State.activate_keeps | apply keeps_ite | apply keeps_ite_fst | apply keeps_foldl | apply keeps_foldl_fst | split | (dsimp only; split) | apply keeps_with | apply swf_sset | apply swf_ssetMany | apply swf_filter | apply swf_foldl | apply swf_nil | apply swf_ite)

theorem State.sendModes_keeps (z : State) (s : State) (m : Image) (due : Time) (hz : Keeps z s) : Keeps z (State.sendModes s m due) := by
  unfold State.sendModes
  repeat' with_reducible (first | assumption | intro _ | apply State.sendMode_keeps | apply State.take_keeps | apply keeps_ite | apply keeps_ite_fst | apply keeps_foldl | apply keeps_foldl_fst | split | (dsimp only; split) | apply keeps_with | apply swf_sset | apply swf_ssetMany | apply swf_filter | apply swf_foldl | apply swf_nil | apply swf_ite)

theorem State.commit_keeps (z : State) (s : State) (token : Nat) (hz : Keeps z s) : Keeps z (State.commit s token) := by
  unfold State.commit
  repeat' with_reducible (first | assumption | intro _ | apply State.imgErr_keeps | apply State.setReg64_keeps | apply State.setReg_keeps | apply State.sendModes_keeps | apply State.setFld_keeps | apply State.bringUp_keeps | apply State.raise_keeps | apply State.setBit_keeps | apply keeps_ite | apply keeps_ite_fst | apply keeps_foldl | apply keeps_foldl_fst | split | (dsimp only; split) | apply keeps_with | apply swf_sset | apply swf_ssetMany | apply swf_filter | apply swf_foldl | apply swf_nil | apply swf_ite)

theorem State.copyDone_keeps (z : State) (s : State) (hz : Keeps z s) : Keeps z (State.copyDone s) := by
  unfold State.copyDone
  repeat' with_reducible (first | assumption | intro _ | apply State.loadWords_keeps | apply keeps_ite | apply keeps_ite_fst | apply keeps_foldl | apply keeps_foldl_fst | split | (dsimp only; split) | apply keeps_with | apply swf_sset | apply swf_ssetMany | apply swf_filter | apply swf_foldl | apply swf_nil | apply swf_ite)

theorem State.activation_keeps (z : State) (s : State) (hz : Keeps z s) : Keeps z (State.activation s) := by
  unfold State.activation
  repeat' with_reducible (first | assumption | intro _ | apply State.setFld_keeps | apply State.bringUp_keeps | apply keeps_ite | apply keeps_ite_fst | apply keeps_foldl | apply keeps_foldl_fst | split | (dsimp only; split) | apply keeps_with | apply swf_sset | apply swf_ssetMany | apply swf_filter | apply swf_foldl | apply swf_nil | apply swf_ite)

theorem State.tryBoot_keeps (z : State) (s : State) (k : Nat) (hz : Keeps z s) : Keeps z (State.tryBoot s k) := by
  unfold State.tryBoot
  repeat' with_reducible (first | assumption | intro _ | apply State.raise_keeps | apply State.setBootSlot_keeps | apply State.setFld_keeps | apply State.setBit_keeps | apply State.bringUp_keeps | apply State.showErr_keeps | apply keeps_ite | apply keeps_ite_fst | apply keeps_foldl | apply keeps_foldl_fst | split | (dsimp only; split) | apply keeps_with | apply swf_sset | apply swf_ssetMany | apply swf_filter | apply swf_foldl | apply swf_nil | apply swf_ite)

theorem State.boot_keeps (z : State) (s : State) (hz : Keeps z s) : Keeps z (State.boot s) := by
  unfold State.boot
  repeat' with_reducible (first | assumption | intro _ | apply State.tryBoot_keeps | apply keeps_ite | apply keeps_ite_fst | apply keeps_foldl | apply keeps_foldl_fst | split | (dsimp only; split) | apply keeps_with | apply swf_sset | apply swf_ssetMany | apply swf_filter | apply swf_foldl | apply swf_nil | apply swf_ite)

theorem State.imWrite_keeps (z : State) (s : State) (a v : Nat) (hz : Keeps z s) : Keeps z (State.imWrite s a v) := by
  unfold State.imWrite
  repeat' with_reducible (first | assumption | intro _ | apply State.writeCodes_keeps | apply keeps_ite | apply keeps_ite_fst | apply keeps_foldl | apply keeps_foldl_fst | split | (dsimp only; split) | apply keeps_with | apply swf_sset | apply swf_ssetMany | apply swf_filter | apply swf_foldl | apply swf_nil | apply swf_ite)

theorem State.imCommand_keeps (z : State) (s : State) (v : Nat) (hz : Keeps z s) : Keeps z (State.imCommand s v) := by
  unfold State.imCommand
  repeat' with_reducible (first | assumption | intro _ | apply State.verify_keeps | apply State.discard_keeps | apply State.save_keeps | apply State.load_keeps | apply State.confirm_keeps | apply State.raiseFloor_keeps | apply State.keyProg_keeps | apply State.keyRevoke_keeps | apply State.imgErr_keeps | apply keeps_ite | apply keeps_ite_fst | apply keeps_foldl | apply keeps_foldl_fst | split | (dsimp only; split) | apply keeps_with | apply swf_sset | apply swf_ssetMany | apply swf_filter | apply swf_foldl | apply swf_nil | apply swf_ite)

end Sys2Proof.Machine
end

