-- ==== Sys2Proof/Laws/KeepsPower.lean ====
section
/-! SUPPORT. Every operation of Machine/Power.lean keeps the variant, the queue and the canonical form of the register table. -/

namespace Sys2Proof.Machine

set_option linter.all false
set_option Elab.async false

theorem State.pwrErr_keeps (z : State) (s : State) (hz : Keeps z s) : Keeps z (State.pwrErr s) := by
  unfold State.pwrErr
  repeat' with_reducible (first | assumption | intro _ | apply State.raise_keeps | apply keeps_ite | apply keeps_ite_fst | apply keeps_foldl | apply keeps_foldl_fst | split | (dsimp only; split) | apply keeps_with | apply swf_sset | apply swf_ssetMany | apply swf_filter | apply swf_foldl | apply swf_nil | apply swf_ite)

theorem State.ldWrite_keeps (z : State) (s : State) (hz : Keeps z s) : Keeps z (State.ldWrite s) := by
  unfold State.ldWrite
  repeat' with_reducible (first | assumption | intro _ | apply State.setReg_keeps | apply keeps_ite | apply keeps_ite_fst | apply keeps_foldl | apply keeps_foldl_fst | split | (dsimp only; split) | apply keeps_with | apply swf_sset | apply swf_ssetMany | apply swf_filter | apply swf_foldl | apply swf_nil | apply swf_ite)

theorem State.ldRewrite_keeps (z : State) (s : State) (hz : Keeps z s) : Keeps z (State.ldRewrite s) := by
  unfold State.ldRewrite
  repeat' with_reducible (first | assumption | intro _ | apply State.ldWrite_keeps | apply keeps_ite | apply keeps_ite_fst | apply keeps_foldl | apply keeps_foldl_fst | split | (dsimp only; split) | apply keeps_with | apply swf_sset | apply swf_ssetMany | apply swf_filter | apply swf_foldl | apply swf_nil | apply swf_ite)

theorem State.ldRestore_keeps (z : State) (s : State) (hz : Keeps z s) : Keeps z (State.ldRestore s) := by
  unfold State.ldRestore
  repeat' with_reducible (first | assumption | intro _ | apply State.setFld_keeps | apply keeps_ite | apply keeps_ite_fst | apply keeps_foldl | apply keeps_foldl_fst | split | (dsimp only; split) | apply keeps_with | apply swf_sset | apply swf_ssetMany | apply swf_filter | apply swf_foldl | apply swf_nil | apply swf_ite)

theorem State.swathAdd_keeps (z : State) (s : State) (bs : List Byte) (hz : Keeps z s) : Keeps z (State.swathAdd s bs) := by
  unfold State.swathAdd
  repeat' with_reducible (first | assumption | intro _ | apply State.take_keeps | apply keeps_ite | apply keeps_ite_fst | apply keeps_foldl | apply keeps_foldl_fst | split | (dsimp only; split) | apply keeps_with | apply swf_sset | apply swf_ssetMany | apply swf_filter | apply swf_foldl | apply swf_nil | apply swf_ite)

theorem State.swathPose_keeps (z : State) (s : State) (h : PoseHist) (hz : Keeps z s) : Keeps z (State.swathPose s h) := by
  unfold State.swathPose
  repeat' with_reducible (first | assumption | intro _ | apply State.swathAdd_keeps | apply Run.comp_keeps | apply keeps_ite | apply keeps_ite_fst | apply keeps_foldl | apply keeps_foldl_fst | split | (dsimp only; split) | apply keeps_with | apply swf_sset | apply swf_ssetMany | apply swf_filter | apply swf_foldl | apply swf_nil | apply swf_ite)

theorem State.swathLanding_keeps (z : State) (s : State) (x : Time × Nat × Nat × Bool) (hz : Keeps z s) : Keeps z (State.swathLanding s x) := by
  unfold State.swathLanding
  repeat' with_reducible (first | assumption | intro _ | apply State.swathAdd_keeps | apply keeps_ite | apply keeps_ite_fst | apply keeps_foldl | apply keeps_foldl_fst | split | (dsimp only; split) | apply keeps_with | apply swf_sset | apply swf_ssetMany | apply swf_filter | apply swf_foldl | apply swf_nil | apply swf_ite)

theorem State.swathForm_keeps (z : State) (s : State) (hz : Keeps z s) : Keeps z (State.swathForm s) := by
  unfold State.swathForm
  repeat' with_reducible (first | assumption | intro _ | apply State.swathLanding_keeps | apply keeps_ite | apply keeps_ite_fst | apply keeps_foldl | apply keeps_foldl_fst | split | (dsimp only; split) | apply keeps_with | apply swf_sset | apply swf_ssetMany | apply swf_filter | apply swf_foldl | apply swf_nil | apply swf_ite)

theorem State.setBank_keeps (z : State) (s : State) (b : Nat) (ws : List (Nat × Word)) (hz : Keeps z s) : Keeps z (State.setBank s b ws) := by
  unfold State.setBank
  repeat' with_reducible (first | assumption | intro _ | apply State.setReg_keeps | apply keeps_ite | apply keeps_ite_fst | apply keeps_foldl | apply keeps_foldl_fst | split | (dsimp only; split) | apply keeps_with | apply swf_sset | apply swf_ssetMany | apply swf_filter | apply swf_foldl | apply swf_nil | apply swf_ite)

theorem State.saveBegins_keeps (z : State) (s : State) (cause : Nat) (hz : Keeps z s) : Keeps z (State.saveBegins s cause) := by
  unfold State.saveBegins
  repeat' with_reducible (first | assumption | intro _ | apply State.setReg_keeps | apply keeps_ite | apply keeps_ite_fst | apply keeps_foldl | apply keeps_foldl_fst | split | (dsimp only; split) | apply keeps_with | apply swf_sset | apply swf_ssetMany | apply swf_filter | apply swf_foldl | apply swf_nil | apply swf_ite)

theorem State.saveEnds_keeps (z : State) (s : State) (ok : Bool) (hz : Keeps z s) : Keeps z (State.saveEnds s ok) := by
  unfold State.saveEnds
  repeat' with_reducible (first | assumption | intro _ | apply State.setFld_keeps | apply State.setBank_keeps | apply keeps_ite | apply keeps_ite_fst | apply keeps_foldl | apply keeps_foldl_fst | split | (dsimp only; split) | apply keeps_with | apply swf_sset | apply swf_ssetMany | apply swf_filter | apply swf_foldl | apply swf_nil | apply swf_ite)

theorem State.coreDown_keeps (z : State) (s : State) (hz : Keeps z s) : Keeps z (State.coreDown s) := by
  unfold State.coreDown
  repeat' with_reducible (first | assumption | intro _ | apply State.saveEnds_keeps | apply State.eraseCut_keeps | apply State.driveAlone_keeps | apply State.setFld_keeps | apply keeps_ite | apply keeps_ite_fst | apply keeps_foldl | apply keeps_foldl_fst | split | (dsimp only; split) | apply keeps_with | apply swf_sset | apply swf_ssetMany | apply swf_filter | apply swf_foldl | apply swf_nil | apply swf_ite)

theorem sabove_filterMap {b : Nat} (f : Nat × Word → Option Word) (m : List (Nat × Word)) (h : sabove b m = true) :
    sabove b (m.filterMap (fun e => (f e).map (fun w => (e.1, w)))) = true := by
  simp only [sabove, List.all_eq_true, decide_eq_true_eq, List.mem_filterMap, Option.map_eq_some_iff] at *
  rintro e ⟨a, ha, w, -, rfl⟩
  exact h a ha

/-- Registers changed in place, those back at their reset words left out: the table stays canonical. -/
theorem swf_filterMap {d : Nat → Word} (f : Nat × Word → Option Word) (m : List (Nat × Word)) (h : swf d m = true) :
    swf d ((m.filterMap (fun e => (f e).map (fun w => (e.1, w)))).filter (fun e => decide (e.2 ≠ d e.1))) = true := by
  induction m with
  | nil => rfl
  | cons e m ih =>
    simp only [swf, Bool.and_eq_true] at h
    rw [List.filterMap_cons]
    cases hf : f e with
    | none => simpa [hf] using ih h.2.2
    | some w =>
      simp only [Option.map_some]
      rw [List.filter_cons]
      split
      · rename_i hw
        simp only [swf, Bool.and_eq_true]
        exact ⟨sabove_filter _ _ (sabove_filterMap f m h.1), hw, ih h.2.2⟩
      · exact ih h.2.2

theorem State.coreCleared_keeps (z s : State) (hz : Keeps z s) : Keeps z s.coreCleared :=
  hz.change rfl rfl (fun k => by
    rw [Tables.wf_iff] at k ⊢
    have hr := swf_filterMap (fun e => (survives e.1 e.2.toNat).map (BitVec.ofNat 32)) s.regs k.1
    simp only [Option.map_map, Function.comp_def] at hr
    exact ⟨hr, rfl, rfl, k.2.2.2.1, rfl, k.2.2.2.2.2.1, rfl, k.2.2.2.2.2.2.2.1, rfl, rfl, rfl, rfl⟩)

theorem State.coreReset_keeps (z : State) (s : State) (hz : Keeps z s) : Keeps z (State.coreReset s) := by
  unfold State.coreReset
  exact State.setFld_keeps _ _ _ _ (State.coreCleared_keeps _ _ hz)

theorem State.calFromRtc_keeps (z : State) (s : State) (hz : Keeps z s) : Keeps z (State.calFromRtc s) := by
  unfold State.calFromRtc
  repeat' with_reducible (first | assumption | intro _ | apply State.setFld_keeps | apply keeps_ite | apply keeps_ite_fst | apply keeps_foldl | apply keeps_foldl_fst | split | (dsimp only; split) | apply keeps_with | apply swf_sset | apply swf_ssetMany | apply swf_filter | apply swf_foldl | apply swf_nil | apply swf_ite)

theorem State.lanesStart_keeps (z : State) (s : State) (laneA laneB : Bool) (hz : Keeps z s) : Keeps z (State.lanesStart s laneA laneB) := by
  unfold State.lanesStart
  repeat' with_reducible (first | assumption | intro _ | apply State.setFbit_keeps | apply State.tick_keeps | apply State.setFld_keeps | apply State.raiseIf_keeps | apply State.raise_keeps | apply State.bump_keeps | apply State.holdSafe_keeps | apply keeps_ite | apply keeps_ite_fst | apply keeps_foldl | apply keeps_foldl_fst | split | (dsimp only; split) | apply keeps_with | apply swf_sset | apply swf_ssetMany | apply swf_filter | apply swf_foldl | apply swf_nil | apply swf_ite)

theorem State.startClosed_keeps (z : State) (s : State) (hz : Keeps z s) : Keeps z (State.startClosed s) := by
  unfold State.startClosed
  repeat' with_reducible (first | assumption | intro _ | apply State.setLsw_keeps | apply State.setFout_keeps | apply keeps_ite | apply keeps_ite_fst | apply keeps_foldl | apply keeps_foldl_fst | split | (dsimp only; split) | apply keeps_with | apply swf_sset | apply swf_ssetMany | apply swf_filter | apply swf_foldl | apply swf_nil | apply swf_ite)

theorem State.resetRelease_keeps (z : State) (s : State) (laneA laneB : Bool) (hz : Keeps z s) : Keeps z (State.resetRelease s laneA laneB) := by
  unfold State.resetRelease
  repeat' with_reducible (first | assumption | intro _ | apply State.coreReset_keeps | apply State.startClosed_keeps | apply State.fdFromShadow_keeps | apply State.tick_keeps | apply State.released_keeps | apply State.setFld_keeps | apply State.calFromRtc_keeps | apply State.loadLeap_keeps | apply State.setReg_keeps | apply State.lanesStart_keeps | apply State.boot_keeps | apply State.ldRestore_keeps | apply State.stopPin_keeps | apply State.coreCleared_keeps | apply keeps_ite | apply keeps_ite_fst | apply keeps_foldl | apply keeps_foldl_fst | split | (dsimp only; split) | apply keeps_with | apply swf_sset | apply swf_ssetMany | apply swf_filter | apply swf_foldl | apply swf_nil | apply swf_ite)

theorem State.vbatOn_keeps (z : State) (s : State) (hz : Keeps z s) : Keeps z (State.vbatOn s) := by
  unfold State.vbatOn
  repeat' with_reducible (first | assumption | intro _ | apply State.coreDown_keeps | apply State.driveUnpowered_keeps | apply State.lsPowerOn_keeps | apply State.fdPowerOn_keeps | apply State.setFld_keeps | apply keeps_ite | apply keeps_ite_fst | apply keeps_foldl | apply keeps_foldl_fst | split | (dsimp only; split) | apply keeps_with | apply swf_sset | apply swf_ssetMany | apply swf_filter | apply swf_foldl | apply swf_nil | apply swf_ite)

theorem State.endedBy_keeps (z : State) (s : State) (brown pg : Bool) (hz : Keeps z s) : Keeps z (State.endedBy s brown pg) := by
  unfold State.endedBy
  repeat' with_reducible (first | assumption | intro _ | apply State.setBit_keeps | apply keeps_ite | apply keeps_ite_fst | apply keeps_foldl | apply keeps_foldl_fst | split | (dsimp only; split) | apply keeps_with | apply swf_sset | apply swf_ssetMany | apply swf_filter | apply swf_foldl | apply swf_nil | apply swf_ite)

theorem State.brownRecord_keeps (z : State) (s : State) (save : Option Bool) (bank : Nat) (hz : Keeps z s) : Keeps z (State.brownRecord s save bank) := by
  unfold State.brownRecord
  repeat' with_reducible (first | assumption | intro _ | apply State.save_keeps | apply keeps_ite | apply keeps_ite_fst | apply keeps_foldl | apply keeps_foldl_fst | split | (dsimp only; split) | apply keeps_with | apply swf_sset | apply swf_ssetMany | apply swf_filter | apply swf_foldl | apply swf_nil | apply swf_ite)

theorem State.brownCut_keeps (z : State) (s : State) (hz : Keeps z s) : Keeps z (State.brownCut s) := by
  unfold State.brownCut
  repeat' with_reducible (first | assumption | intro _ | apply State.raiseIf_keeps | apply State.brownRecord_keeps | apply keeps_ite | apply keeps_ite_fst | apply keeps_foldl | apply keeps_foldl_fst | split | (dsimp only; split) | apply keeps_with | apply swf_sset | apply swf_ssetMany | apply swf_filter | apply swf_foldl | apply swf_nil | apply swf_ite)

theorem State.resetLow_keeps (z : State) (s : State) (hz : Keeps z s) : Keeps z (State.resetLow s) := by
  unfold State.resetLow
  repeat' with_reducible (first | assumption | intro _ | apply State.brownCut_keeps | apply State.endedBy_keeps | apply State.coreDown_keeps | apply keeps_ite | apply keeps_ite_fst | apply keeps_foldl | apply keeps_foldl_fst | split | (dsimp only; split) | apply keeps_with | apply swf_sset | apply swf_ssetMany | apply swf_filter | apply swf_foldl | apply swf_nil | apply swf_ite)

theorem State.startTimeout_keeps (z : State) (s : State) (pg : Nat) (hz : Keeps z s) : Keeps z (State.startTimeout s pg) := by
  unfold State.startTimeout
  repeat' with_reducible (first | assumption | intro _ | apply State.setFld_keeps | apply State.bump_keeps | apply keeps_ite | apply keeps_ite_fst | apply keeps_foldl | apply keeps_foldl_fst | split | (dsimp only; split) | apply keeps_with | apply swf_sset | apply swf_ssetMany | apply swf_filter | apply swf_foldl | apply swf_nil | apply swf_ite)

theorem State.pgLost_keeps (z : State) (s : State) (pg : Nat) (hz : Keeps z s) : Keeps z (State.pgLost s pg) := by
  unfold State.pgLost
  repeat' with_reducible (first | assumption | intro _ | apply State.brownCut_keeps | apply State.raise_keeps | apply State.endedBy_keeps | apply State.setFld_keeps | apply State.coreDown_keeps | apply keeps_ite | apply keeps_ite_fst | apply keeps_foldl | apply keeps_foldl_fst | split | (dsimp only; split) | apply keeps_with | apply swf_sset | apply swf_ssetMany | apply swf_filter | apply swf_foldl | apply swf_nil | apply swf_ite)

theorem State.brownOut_keeps (z : State) (s : State) (hz : Keeps z s) : Keeps z (State.brownOut s) := by
  unfold State.brownOut
  repeat' with_reducible (first | assumption | intro _ | apply State.raiseIf_keeps | apply State.stopHalt_keeps | apply State.brownDrain_keeps | apply State.slotSafe_keeps | apply State.bbStop_keeps | apply State.endedBy_keeps | apply State.setFld_keeps | apply State.saveEnds_keeps | apply State.saveBegins_keeps | apply keeps_ite | apply keeps_ite_fst | apply keeps_foldl | apply keeps_foldl_fst | split | (dsimp only; split) | apply keeps_with | apply swf_sset | apply swf_ssetMany | apply swf_filter | apply swf_foldl | apply swf_nil | apply swf_ite)

theorem State.brownSaved_keeps (z : State) (s : State) (held : Bool) (hz : Keeps z s) : Keeps z (State.brownSaved s held) := by
  unfold State.brownSaved
  repeat' with_reducible (first | assumption | intro _ | apply State.saveEnds_keeps | apply State.raise_keeps | apply State.brownRecord_keeps | apply State.coreDown_keeps | apply keeps_ite | apply keeps_ite_fst | apply keeps_foldl | apply keeps_foldl_fst | split | (dsimp only; split) | apply keeps_with | apply swf_sset | apply swf_ssetMany | apply swf_filter | apply swf_foldl | apply swf_nil | apply swf_ite)

theorem State.brownRecovered_keeps (z : State) (s : State) (hz : Keeps z s) : Keeps z (State.brownRecovered s) := by
  unfold State.brownRecovered
  repeat' with_reducible (first | assumption | intro _ | apply keeps_ite | apply keeps_ite_fst | apply keeps_foldl | apply keeps_foldl_fst | split | (dsimp only; split) | apply keeps_with | apply swf_sset | apply swf_ssetMany | apply swf_filter | apply swf_foldl | apply swf_nil | apply swf_ite)

theorem State.writeDeferred_keeps (z : State) (s : State) (hz : Keeps z s) : Keeps z (State.writeDeferred s) := by
  unfold State.writeDeferred
  repeat' with_reducible (first | assumption | intro _ | apply State.canvasWith_keeps | apply keeps_ite | apply keeps_ite_fst | apply keeps_foldl | apply keeps_foldl_fst | split | (dsimp only; split) | apply keeps_with | apply swf_sset | apply swf_ssetMany | apply swf_filter | apply swf_foldl | apply swf_nil | apply swf_ite)

theorem State.ready_keeps (z : State) (s : State) (hz : Keeps z s) : Keeps z (State.ready s) := by
  unfold State.ready
  repeat' with_reducible (first | assumption | intro _ | apply State.released_keeps | apply State.setFld_keeps | apply State.canvas_keeps | apply State.raiseIf_keeps | apply State.writeDeferred_keeps | apply keeps_ite | apply keeps_ite_fst | apply keeps_foldl | apply keeps_foldl_fst | split | (dsimp only; split) | apply keeps_with | apply swf_sset | apply swf_ssetMany | apply swf_filter | apply swf_foldl | apply swf_nil | apply swf_ite)

theorem State.sleepBegins_keeps (z : State) (s : State) (hz : Keeps z s) : Keeps z (State.sleepBegins s) := by
  unfold State.sleepBegins
  repeat' with_reducible (first | assumption | intro _ | apply State.gnssWrite_keeps | apply State.ldWrite_keeps | apply State.saveBegins_keeps | apply keeps_ite | apply keeps_ite_fst | apply keeps_foldl | apply keeps_foldl_fst | split | (dsimp only; split) | apply keeps_with | apply swf_sset | apply swf_ssetMany | apply swf_filter | apply swf_foldl | apply swf_nil | apply swf_ite)

theorem State.sleepRequest_keeps (z : State) (s : State) (c : Nat) (hz : Keeps z s) : Keeps z (State.sleepRequest s c) := by
  unfold State.sleepRequest
  repeat' with_reducible (first | assumption | intro _ | apply State.pwrErr_keeps | apply State.raise_keeps | apply State.setFld_keeps | apply State.sleepBegins_keeps | apply keeps_ite | apply keeps_ite_fst | apply keeps_foldl | apply keeps_foldl_fst | split | (dsimp only; split) | apply keeps_with | apply swf_sset | apply swf_ssetMany | apply swf_filter | apply swf_foldl | apply swf_nil | apply swf_ite)

theorem State.hostSave_keeps (z : State) (s : State) (hz : Keeps z s) : Keeps z (State.hostSave s) := by
  unfold State.hostSave
  repeat' with_reducible (first | assumption | intro _ | apply State.pwrErr_keeps | apply State.saveBegins_keeps | apply keeps_ite | apply keeps_ite_fst | apply keeps_foldl | apply keeps_foldl_fst | split | (dsimp only; split) | apply keeps_with | apply swf_sset | apply swf_ssetMany | apply swf_filter | apply swf_foldl | apply swf_nil | apply swf_ite)

theorem State.bankSaved_keeps (z : State) (s : State) (ok : Bool) (hz : Keeps z s) : Keeps z (State.bankSaved s ok) := by
  unfold State.bankSaved
  repeat' with_reducible (first | assumption | intro _ | apply State.saveEnds_keeps | apply State.raiseIf_keeps | apply State.sleepBegins_keeps | apply State.canvas_keeps | apply State.canvasDrain_keeps | apply State.canvasRewrite_keeps | apply State.setFld_keeps | apply State.endedBy_keeps | apply State.coreDown_keeps | apply State.driveUnpowered_keeps | apply State.sleepInputs_keeps | apply State.limpRefresh_keeps | apply keeps_ite | apply keeps_ite_fst | apply keeps_foldl | apply keeps_foldl_fst | split | (dsimp only; split) | apply keeps_with | apply swf_sset | apply swf_ssetMany | apply swf_filter | apply swf_foldl | apply swf_nil | apply swf_ite)

theorem State.wake_keeps (z : State) (s : State) (source port : Nat) (hz : Keeps z s) : Keeps z (State.wake s source port) := by
  unfold State.wake
  repeat' with_reducible (first | assumption | intro _ | apply State.setFld_keeps | apply State.sleepInputs_keeps | apply State.limpRefresh_keeps | apply keeps_ite | apply keeps_ite_fst | apply keeps_foldl | apply keeps_foldl_fst | split | (dsimp only; split) | apply keeps_with | apply swf_sset | apply swf_ssetMany | apply swf_filter | apply swf_foldl | apply swf_nil | apply swf_ite)

theorem State.rtcSet_keeps (z : State) (s : State) (hz : Keeps z s) : Keeps z (State.rtcSet s) := by
  unfold State.rtcSet
  repeat' with_reducible (first | assumption | intro _ | apply State.setFld_keeps | apply keeps_ite | apply keeps_ite_fst | apply keeps_foldl | apply keeps_foldl_fst | split | (dsimp only; split) | apply keeps_with | apply swf_sset | apply swf_ssetMany | apply swf_filter | apply swf_foldl | apply swf_nil | apply swf_ite)

theorem State.pwWrite_keeps (z : State) (s : State) (c a v : Nat) (hz : Keeps z s) : Keeps z (State.pwWrite s c a v) := by
  unfold State.pwWrite
  repeat' with_reducible (first | assumption | intro _ | apply State.writeCodes_keeps | apply State.pwrErr_keeps | apply State.sleepRequest_keeps | apply State.hostSave_keeps | apply keeps_ite | apply keeps_ite_fst | apply keeps_foldl | apply keeps_foldl_fst | split | (dsimp only; split) | apply keeps_with | apply swf_sset | apply swf_ssetMany | apply swf_filter | apply swf_foldl | apply swf_nil | apply swf_ite)

theorem State.bankData_keeps (z : State) (s : State) (hz : Keeps z s) : Keeps z (State.bankData s).1 := by
  unfold State.bankData
  repeat' with_reducible (first | assumption | intro _ | apply State.setFld_keeps | apply keeps_ite | apply keeps_ite_fst | apply keeps_foldl | apply keeps_foldl_fst | split | (dsimp only; split) | apply keeps_with | apply swf_sset | apply swf_ssetMany | apply swf_filter | apply swf_foldl | apply swf_nil | apply swf_ite)

theorem State.hsClear_keeps (z : State) (s : State) (c : Nat) (hz : Keeps z s) : Keeps z (State.hsClear s c) := by
  unfold State.hsClear
  repeat' with_reducible (first | assumption | intro _ | apply State.raise_keeps | apply State.setFld_keeps | apply State.heldRelease_keeps | apply keeps_ite | apply keeps_ite_fst | apply keeps_foldl | apply keeps_foldl_fst | split | (dsimp only; split) | apply keeps_with | apply swf_sset | apply swf_ssetMany | apply swf_filter | apply swf_foldl | apply swf_nil | apply swf_ite)

theorem State.reloadImage_keeps (z : State) (s : State) (hz : Keeps z s) : Keeps z (State.reloadImage s) := by
  unfold State.reloadImage
  repeat' with_reducible (first | assumption | intro _ | apply State.setFld_keeps | apply State.boot_keeps | apply State.bringUp_keeps | apply State.portOff_keeps | apply keeps_ite | apply keeps_ite_fst | apply keeps_foldl | apply keeps_foldl_fst | split | (dsimp only; split) | apply keeps_with | apply swf_sset | apply swf_ssetMany | apply swf_filter | apply swf_foldl | apply swf_nil | apply swf_ite)

theorem State.reloadDone_keeps (z : State) (s : State) (laneA laneB : Bool) (hz : Keeps z s) : Keeps z (State.reloadDone s laneA laneB) := by
  unfold State.reloadDone
  repeat' with_reducible (first | assumption | intro _ | apply State.setFld_keeps | apply State.raise_keeps | apply State.bump_keeps | apply State.poTo_keeps | apply State.reloadImage_keeps | apply State.ldRestore_keeps | apply State.heldRelease_keeps | apply State.passAll_keeps | apply keeps_ite | apply keeps_ite_fst | apply keeps_foldl | apply keeps_foldl_fst | split | (dsimp only; split) | apply keeps_with | apply swf_sset | apply swf_ssetMany | apply swf_filter | apply swf_foldl | apply swf_nil | apply swf_ite)

end Sys2Proof.Machine
end

