-- ==== Sys2Proof/Laws/KeepsFrames.lean ====
section
/-! SUPPORT. Every operation of Machine/Frames.lean keeps the variant, the queue and the canonical form of the register table. -/

namespace Sys2Proof.Machine

set_option linter.all false
set_option Elab.async false

theorem State.planOne_keeps (z : State) (s : State) (o : Nat) (hz : Keeps z s) : Keeps z (State.planOne s o) := by
  unfold State.planOne
  repeat' with_reducible (first | assumption | intro _ | apply State.setBit_keeps | apply keeps_ite | apply keeps_ite_fst | apply keeps_foldl | apply keeps_foldl_fst | split | (dsimp only; split) | apply keeps_with | apply swf_sset | apply swf_ssetMany | apply swf_filter | apply swf_foldl | apply swf_nil | apply swf_ite)

theorem State.plannables_keeps (z : State) (s : State) (hz : Keeps z s) : Keeps z (State.plannables s) := by
  unfold State.plannables
  repeat' with_reducible (first | assumption | intro _ | apply State.planOne_keeps | apply keeps_ite | apply keeps_ite_fst | apply keeps_foldl | apply keeps_foldl_fst | split | (dsimp only; split) | apply keeps_with | apply swf_sset | apply swf_ssetMany | apply swf_filter | apply swf_foldl | apply swf_nil | apply swf_ite)

theorem State.takeFrmCfg_keeps (z : State) (s : State) (tk : Time) (hz : Keeps z s) : Keeps z (State.takeFrmCfg s tk) := by
  unfold State.takeFrmCfg
  repeat' with_reducible (first | assumption | intro _ | apply Run.st_keeps | apply State.cancelEntry_keeps | apply keeps_ite | apply keeps_ite_fst | apply keeps_foldl | apply keeps_foldl_fst | split | (dsimp only; split) | apply keeps_with | apply swf_sset | apply swf_ssetMany | apply swf_filter | apply swf_foldl | apply swf_nil | apply swf_ite)

theorem State.frameNumber_keeps (z : State) (s : State) (tk : Time) (hz : Keeps z s) : Keeps z (State.frameNumber s tk) := by
  unfold State.frameNumber
  repeat' with_reducible (first | assumption | intro _ | apply State.bumpWrap_keeps | apply State.setFld_keeps | apply State.setReg64_keeps | apply keeps_ite | apply keeps_ite_fst | apply keeps_foldl | apply keeps_foldl_fst | split | (dsimp only; split) | apply keeps_with | apply swf_sset | apply swf_ssetMany | apply swf_filter | apply swf_foldl | apply swf_nil | apply swf_ite)

theorem State.planFrame_keeps (z : State) (s : State) (tk : Time) (hz : Keeps z s) : Keeps z (State.planFrame s tk) := by
  unfold State.planFrame
  repeat' with_reducible (first | assumption | intro _ | apply State.count_keeps | apply State.validFrame_keeps | apply State.invalidFrame_keeps | apply State.bump_keeps | apply keeps_ite | apply keeps_ite_fst | apply keeps_foldl | apply keeps_foldl_fst | split | (dsimp only; split) | apply keeps_with | apply swf_sset | apply swf_ssetMany | apply swf_filter | apply swf_foldl | apply swf_nil | apply swf_ite)

theorem State.frameAt_keeps (z : State) (s : State) (tk : Time) (hz : Keeps z s) : Keeps z (State.frameAt s tk) := by
  unfold State.frameAt
  repeat' with_reducible (first | assumption | intro _ | apply State.frameNumber_keeps | apply State.boundary_keeps | apply State.takeOfs_keeps | apply State.takeFrmCfg_keeps | apply State.count_keeps | apply State.tileFrame_keeps | apply State.rateFrame_keeps | apply State.pathFrame_keeps | apply State.plannables_keeps | apply State.planFrame_keeps | apply State.syncPulse_keeps | apply keeps_ite | apply keeps_ite_fst | apply keeps_foldl | apply keeps_foldl_fst | split | (dsimp only; split) | apply keeps_with | apply swf_sset | apply swf_ssetMany | apply swf_filter | apply swf_foldl | apply swf_nil | apply swf_ite)

theorem State.frameStart_keeps (z : State) (s : State) (hz : Keeps z s) : Keeps z (State.frameStart s) := by
  unfold State.frameStart
  repeat' with_reducible (first | assumption | intro _ | apply State.frameAt_keeps | apply keeps_ite | apply keeps_ite_fst | apply keeps_foldl | apply keeps_foldl_fst | split | (dsimp only; split) | apply keeps_with | apply swf_sset | apply swf_ssetMany | apply swf_filter | apply swf_foldl | apply swf_nil | apply swf_ite)

theorem State.phaseStep_keeps (z : State) (s : State) (d : Nat) (hz : Keeps z s) : Keeps z (State.phaseStep s d) := by
  unfold State.phaseStep
  repeat' with_reducible (first | assumption | intro _ | apply Run.st_keeps | apply State.cancelEntry_keeps | apply State.setChan_keeps | apply keeps_ite | apply keeps_ite_fst | apply keeps_foldl | apply keeps_foldl_fst | split | (dsimp only; split) | apply keeps_with | apply swf_sset | apply swf_ssetMany | apply swf_filter | apply swf_foldl | apply swf_nil | apply swf_ite)

theorem State.syncAlign_keeps (z : State) (s : State) (hz : Keeps z s) : Keeps z (State.syncAlign s) := by
  unfold State.syncAlign
  repeat' with_reducible (first | assumption | intro _ | apply State.setFld_keeps | apply State.missed_keeps | apply keeps_ite | apply keeps_ite_fst | apply keeps_foldl | apply keeps_foldl_fst | split | (dsimp only; split) | apply keeps_with | apply swf_sset | apply swf_ssetMany | apply swf_filter | apply swf_foldl | apply swf_nil | apply swf_ite)

theorem State.syncAccept_keeps (z : State) (s : State) (err : Int) (hz : Keeps z s) : Keeps z (State.syncAccept s err) := by
  unfold State.syncAccept
  repeat' with_reducible (first | assumption | intro _ | apply State.setSfld_keeps | apply State.missed_keeps | apply keeps_ite | apply keeps_ite_fst | apply keeps_foldl | apply keeps_foldl_fst | split | (dsimp only; split) | apply keeps_with | apply swf_sset | apply swf_ssetMany | apply swf_filter | apply swf_foldl | apply swf_nil | apply swf_ite)

theorem State.syncReject_keeps (z : State) (s : State) (hz : Keeps z s) : Keeps z (State.syncReject s) := by
  unfold State.syncReject
  repeat' with_reducible (first | assumption | intro _ | apply State.raise_keeps | apply State.missed_keeps | apply State.syncLoss_keeps | apply keeps_ite | apply keeps_ite_fst | apply keeps_foldl | apply keeps_foldl_fst | split | (dsimp only; split) | apply keeps_with | apply swf_sset | apply swf_ssetMany | apply swf_filter | apply swf_foldl | apply swf_nil | apply swf_ite)

theorem State.syncIn_keeps (z : State) (s : State) (capture : Time) (hz : Keeps z s) : Keeps z (State.syncIn s capture) := by
  unfold State.syncIn
  repeat' with_reducible (first | assumption | intro _ | apply State.capture_keeps | apply State.syncAlign_keeps | apply State.syncAccept_keeps | apply State.syncReject_keeps | apply Run.st_keeps | apply State.raise_keeps | apply State.phaseStep_keeps | apply keeps_ite | apply keeps_ite_fst | apply keeps_foldl | apply keeps_foldl_fst | split | (dsimp only; split) | apply keeps_with | apply swf_sset | apply swf_ssetMany | apply swf_filter | apply swf_foldl | apply swf_nil | apply swf_ite)

theorem State.epochRow_keeps (z : State) (s : State) (hz : Keeps z s) : Keeps z (State.epochRow s) := by
  unfold State.epochRow
  repeat' with_reducible (first | assumption | intro _ | apply State.poseEpoch_keeps | apply State.pathProgress_keeps | apply State.newSample_keeps | apply State.swathPose_keeps | apply keeps_ite | apply keeps_ite_fst | apply keeps_foldl | apply keeps_foldl_fst | split | (dsimp only; split) | apply keeps_with | apply swf_sset | apply swf_ssetMany | apply swf_filter | apply swf_foldl | apply swf_nil | apply swf_ite)

theorem State.painterRow_keeps (z : State) (s : State) (hz : Keeps z s) : Keeps z (State.painterRow s) := by
  unfold State.painterRow
  repeat' with_reducible (first | assumption | intro _ | apply State.painterRun_keeps | apply State.swathForm_keeps | apply keeps_ite | apply keeps_ite_fst | apply keeps_foldl | apply keeps_foldl_fst | split | (dsimp only; split) | apply keeps_with | apply swf_sset | apply swf_ssetMany | apply swf_filter | apply swf_foldl | apply swf_nil | apply swf_ite)

theorem State.idle_keeps (z : State) (s : State) (hz : Keeps z s) : Keeps z (State.idle s) := by
  unfold State.idle
  repeat' with_reducible (first | assumption | intro _ | apply State.ftStep_keeps | apply State.count_keeps | apply State.stopAuto_keeps | apply State.busWindows_keeps | apply State.ctxMessage_keeps | apply keeps_ite | apply keeps_ite_fst | apply keeps_foldl | apply keeps_foldl_fst | split | (dsimp only; split) | apply keeps_with | apply swf_sset | apply swf_ssetMany | apply swf_filter | apply swf_foldl | apply swf_nil | apply swf_ite)

end Sys2Proof.Machine
end

