-- ==== Sys2Proof/Laws/KeepsFlags.lean ====
section
/-! SUPPORT. Every operation of Machine/Flags.lean keeps the variant, the queue and the canonical form of the register table. -/

namespace Sys2Proof.Machine

set_option linter.all false
set_option Elab.async false

theorem State.afterRead_keeps (z : State) (s : State) (a : Nat) (hz : Keeps z s) : Keeps z (State.afterRead s a) := by
  unfold State.afterRead
  repeat' with_reducible (first | assumption | intro _ | apply State.clearRc_keeps | apply State.setFld_keeps | apply keeps_ite | apply keeps_ite_fst | apply keeps_foldl | apply keeps_foldl_fst | split | (dsimp only; split) | apply keeps_with | apply swf_sset | apply swf_ssetMany | apply swf_filter | apply swf_foldl | apply swf_nil | apply swf_ite)

end Sys2Proof.Machine
end

