-- ==== Sys2Proof/Laws/KeepsOps.lean ====
section
/-! SUPPORT. Every operation of Machine/Ops.lean keeps the variant, the queue and the canonical form of the register table. -/

namespace Sys2Proof.Machine

set_option linter.all false
set_option Elab.async false

theorem State.rsWrite_keeps (z : State) (s : State) (c a v : Nat) (hz : Keeps z s) : Keeps z (State.rsWrite s c a v) := by
  unfold State.rsWrite
  repeat' with_reducible (first | assumption | intro _ | apply State.stopReleaseCmd_keeps | apply State.hsClear_keeps | apply State.laneRetry_keeps | apply State.fireRetry_keeps | apply State.raise_keeps | apply State.writeCodes_keeps | apply keeps_ite | apply keeps_ite_fst | apply keeps_foldl | apply keeps_foldl_fst | split | (dsimp only; split) | apply keeps_with | apply swf_sset | apply swf_ssetMany | apply swf_filter | apply swf_foldl | apply swf_nil | apply swf_ite)

theorem State.imPage_keeps (z : State) (s : State) (a v : Nat) (hz : Keeps z s) : Keeps z (State.imPage s a v) := by
  unfold State.imPage
  repeat' with_reducible (first | assumption | intro _ | apply State.imCommand_keeps | apply State.commit_keeps | apply State.imWrite_keeps | apply keeps_ite | apply keeps_ite_fst | apply keeps_foldl | apply keeps_foldl_fst | split | (dsimp only; split) | apply keeps_with | apply swf_sset | apply swf_ssetMany | apply swf_filter | apply swf_foldl | apply swf_nil | apply swf_ite)

theorem State.lgWrite_keeps (z : State) (s : State) (a v : Nat) (hz : Keeps z s) : Keeps z (State.lgWrite s a v) := by
  unfold State.lgWrite
  repeat' with_reducible (first | assumption | intro _ | apply State.raise_keeps | apply State.writeCodes_keeps | apply State.pathCommit_keeps | apply keeps_ite | apply keeps_ite_fst | apply keeps_foldl | apply keeps_foldl_fst | split | (dsimp only; split) | apply keeps_with | apply swf_sset | apply swf_ssetMany | apply swf_filter | apply swf_foldl | apply swf_nil | apply swf_ite)

theorem State.boostSlots_keeps (z : State) (s : State) (a : Nat) (hz : Keeps z s) : Keeps z (State.boostSlots s a) := by
  unfold State.boostSlots
  repeat' with_reducible (first | assumption | intro _ | apply State.slotsBoost_keeps | apply keeps_ite | apply keeps_ite_fst | apply keeps_foldl | apply keeps_foldl_fst | split | (dsimp only; split) | apply keeps_with | apply swf_sset | apply swf_ssetMany | apply swf_filter | apply swf_foldl | apply swf_nil | apply swf_ite)

theorem State.blockWrite_keeps (z : State) (s : State) (c a v : Nat) (hz : Keeps z s) : Keeps z (State.blockWrite s c a v) := by
  unfold State.blockWrite
  repeat' with_reducible (first | assumption | intro _ | apply State.imPage_keeps | apply State.bbWrite_keeps | apply State.mapWrite_keeps | apply State.lgWrite_keeps | apply State.tbWrite_keeps | apply State.chanWrite_keeps | apply State.poWrite_keeps | apply State.vdWrite_keeps | apply State.boostSlots_keeps | apply State.lkWrite_keeps | apply State.lpWrite_keeps | apply State.lsWrite_keeps | apply State.fdWrite_keeps | apply State.bpWrite_keeps | apply State.hpWrite_keeps | apply State.rsWrite_keeps | apply State.pwWrite_keeps | apply State.tagData_keeps | apply State.rcWrite_keeps | apply keeps_ite | apply keeps_ite_fst | apply keeps_foldl | apply keeps_foldl_fst | split | (dsimp only; split) | apply keeps_with | apply swf_sset | apply swf_ssetMany | apply swf_filter | apply swf_foldl | apply swf_nil | apply swf_ite)

theorem State.dropLatch_keeps (z : State) (s : State) (a : Nat) (hz : Keeps z s) : Keeps z (State.dropLatch s a) := by
  unfold State.dropLatch
  repeat' with_reducible (first | assumption | intro _ | apply keeps_ite | apply keeps_ite_fst | apply keeps_foldl | apply keeps_foldl_fst | split | (dsimp only; split) | apply keeps_with | apply swf_sset | apply swf_ssetMany | apply swf_filter | apply swf_foldl | apply swf_nil | apply swf_ite)

theorem State.regWrite_keeps (z : State) (s : State) (p c a v : Nat) (hz : Keeps z s) : Keeps z (State.regWrite s p c a v).1 := by
  unfold State.regWrite
  repeat' with_reducible (first | assumption | intro _ | apply State.doorbell_keeps | apply State.cwWrite_keeps | apply State.dropLatch_keeps | apply State.apertureWrite_keeps | apply State.stagingWrite_keeps | apply State.blockWrite_keeps | apply keeps_ite | apply keeps_ite_fst | apply keeps_foldl | apply keeps_foldl_fst | split | (dsimp only; split) | apply keeps_with | apply swf_sset | apply swf_ssetMany | apply swf_filter | apply swf_foldl | apply swf_nil | apply swf_ite)

theorem State.regRead_keeps (z : State) (s : State) (c a : Nat) (hz : Keeps z s) : Keeps z (State.regRead s c a).1 := by
  unfold State.regRead
  repeat' with_reducible (first | assumption | intro _ | apply State.afterRead_keeps | apply State.codeData_keeps | apply State.aidData_keeps | apply State.bankData_keeps | apply State.cvData_keeps | apply State.muData_keeps | apply State.tagData_keeps | apply keeps_ite | apply keeps_ite_fst | apply keeps_foldl | apply keeps_foldl_fst | split | (dsimp only; split) | apply keeps_with | apply swf_sset | apply swf_ssetMany | apply swf_filter | apply swf_foldl | apply swf_nil | apply swf_ite)

theorem State.rdata_keeps (z : State) (s : State) (c : Nat) (w : Option Word) (hz : Keeps z s) : Keeps z (State.rdata s c w).1 := by
  unfold State.rdata
  repeat' with_reducible (first | assumption | intro _ | apply State.regWrite_keeps | apply State.setFld_keeps | apply State.regRead_keeps | apply keeps_ite | apply keeps_ite_fst | apply keeps_foldl | apply keeps_foldl_fst | split | (dsimp only; split) | apply keeps_with | apply swf_sset | apply swf_ssetMany | apply swf_filter | apply swf_foldl | apply swf_nil | apply swf_ite)

theorem State.portPut_keeps (z : State) (s : State) (p a v : Nat) (hz : Keeps z s) : Keeps z (State.portPut s p a v).1 := by
  unfold State.portPut
  repeat' with_reducible (first | assumption | intro _ | apply State.rdata_keeps | apply State.regWrite_keeps | apply keeps_ite | apply keeps_ite_fst | apply keeps_foldl | apply keeps_foldl_fst | split | (dsimp only; split) | apply keeps_with | apply swf_sset | apply swf_ssetMany | apply swf_filter | apply swf_foldl | apply swf_nil | apply swf_ite)

theorem State.portGet_keeps (z : State) (s : State) (p a : Nat) (hz : Keeps z s) : Keeps z (State.portGet s p a).1 := by
  unfold State.portGet
  repeat' with_reducible (first | assumption | intro _ | apply State.rdata_keeps | apply State.regRead_keeps | apply keeps_ite | apply keeps_ite_fst | apply keeps_foldl | apply keeps_foldl_fst | split | (dsimp only; split) | apply keeps_with | apply swf_sset | apply swf_ssetMany | apply swf_filter | apply swf_foldl | apply swf_nil | apply swf_ite)

theorem State.linkSeen_keeps (z : State) (s : State) (p : Nat) (hz : Keeps z s) : Keeps z (State.linkSeen s p) := by
  unfold State.linkSeen
  repeat' with_reducible (first | assumption | intro _ | apply State.setFbit_keeps | apply keeps_ite | apply keeps_ite_fst | apply keeps_foldl | apply keeps_foldl_fst | split | (dsimp only; split) | apply keeps_with | apply swf_sset | apply swf_ssetMany | apply swf_filter | apply swf_foldl | apply swf_nil | apply swf_ite)

theorem State.hostWrite_keeps (z : State) (s : State) (p a v : Nat) (hz : Keeps z s) : Keeps z (State.hostWrite s p a v) := by
  unfold State.hostWrite
  repeat' with_reducible (first | assumption | intro _ | apply State.linkSeen_keeps | apply State.portPut_keeps | apply State.answers_keeps | apply keeps_ite | apply keeps_ite_fst | apply keeps_foldl | apply keeps_foldl_fst | split | (dsimp only; split) | apply keeps_with | apply swf_sset | apply swf_ssetMany | apply swf_filter | apply swf_foldl | apply swf_nil | apply swf_ite)

theorem State.hostRead_keeps (z : State) (s : State) (p a : Nat) (hz : Keeps z s) : Keeps z (State.hostRead s p a) := by
  unfold State.hostRead
  repeat' with_reducible (first | assumption | intro _ | apply State.linkSeen_keeps | apply State.portGet_keeps | apply State.answers_keeps | apply keeps_ite | apply keeps_ite_fst | apply keeps_foldl | apply keeps_foldl_fst | split | (dsimp only; split) | apply keeps_with | apply swf_sset | apply swf_ssetMany | apply swf_filter | apply swf_foldl | apply swf_nil | apply swf_ite)

theorem State.hostField_keeps (z : State) (s : State) (p a lo n v : Nat) (hz : Keeps z s) : Keeps z (State.hostField s p a lo n v) := by
  unfold State.hostField
  repeat' with_reducible (first | assumption | intro _ | apply State.hostWrite_keeps | apply keeps_ite | apply keeps_ite_fst | apply keeps_foldl | apply keeps_foldl_fst | split | (dsimp only; split) | apply keeps_with | apply swf_sset | apply swf_ssetMany | apply swf_filter | apply swf_foldl | apply swf_nil | apply swf_ite)

theorem State.hostTile_keeps (z : State) (s : State) (p off : Nat) (bs : List Byte) (hz : Keeps z s) : Keeps z (State.hostTile s p off bs) := by
  unfold State.hostTile
  repeat' with_reducible (first | assumption | intro _ | apply State.linkSeen_keeps | apply State.answers_keeps | apply State.apertureWrite_keeps | apply keeps_ite | apply keeps_ite_fst | apply keeps_foldl | apply keeps_foldl_fst | split | (dsimp only; split) | apply keeps_with | apply swf_sset | apply swf_ssetMany | apply swf_filter | apply swf_foldl | apply swf_nil | apply swf_ite)

theorem State.hostStaging_keeps (z : State) (s : State) (p off : Nat) (bs : List Byte) (hz : Keeps z s) : Keeps z (State.hostStaging s p off bs) := by
  unfold State.hostStaging
  repeat' with_reducible (first | assumption | intro _ | apply State.linkSeen_keeps | apply State.stagingWrite_keeps | apply State.answers_keeps | apply keeps_ite | apply keeps_ite_fst | apply keeps_foldl | apply keeps_foldl_fst | split | (dsimp only; split) | apply keeps_with | apply swf_sset | apply swf_ssetMany | apply swf_filter | apply swf_foldl | apply swf_nil | apply swf_ite)

theorem State.spiResult_keeps (z : State) (s : State) (p code : Nat) (data : List Word) (hz : Keeps z s) : Keeps z (State.spiResult s p code data) := by
  unfold State.spiResult
  repeat' with_reducible (first | assumption | intro _ | apply State.answers_keeps | apply keeps_ite | apply keeps_ite_fst | apply keeps_foldl | apply keeps_foldl_fst | split | (dsimp only; split) | apply keeps_with | apply swf_sset | apply swf_ssetMany | apply swf_filter | apply swf_foldl | apply swf_nil | apply swf_ite)

theorem State.spiPut_keeps (z : State) (s : State) (p a : Nat) (x0 : List Word) (hz : Keeps z s) : Keeps z (State.spiPut s p a x0).1 := by
  induction x0 generalizing s a with
  | nil => exact hz
  | cons w ws ih => exact ih _ _ (State.portPut_keeps _ _ _ _ _ hz)

theorem State.spiGet_keeps (z : State) (s : State) (p a : Nat) (x0 : Nat) (hz : Keeps z s) : Keeps z (State.spiGet s p a x0).1 := by
  induction x0 generalizing s a with
  | zero => exact hz
  | succ n ih => exact ih _ _ (State.portGet_keeps _ _ _ _ hz)

theorem State.spiWrite_keeps (z : State) (s : State) (p addr : Nat) (cut : Bool) (ws : List Word) (hz : Keeps z s) : Keeps z (State.spiWrite s p addr cut ws) := by
  unfold State.spiWrite
  repeat' with_reducible (first | assumption | intro _ | apply State.linkSeen_keeps | apply State.spiResult_keeps | apply State.spiPut_keeps | apply State.hostWriteMem_keeps | apply keeps_ite | apply keeps_ite_fst | apply keeps_foldl | apply keeps_foldl_fst | split | (dsimp only; split) | apply keeps_with | apply swf_sset | apply swf_ssetMany | apply swf_filter | apply swf_foldl | apply swf_nil | apply swf_ite)

theorem State.spiRead_keeps (z : State) (s : State) (p addr n : Nat) (hz : Keeps z s) : Keeps z (State.spiRead s p addr n) := by
  unfold State.spiRead
  repeat' with_reducible (first | assumption | intro _ | apply State.linkSeen_keeps | apply State.spiResult_keeps | apply State.spiGet_keeps | apply State.ring_keeps | apply keeps_ite | apply keeps_ite_fst | apply keeps_foldl | apply keeps_foldl_fst | split | (dsimp only; split) | apply keeps_with | apply swf_sset | apply swf_ssetMany | apply swf_filter | apply swf_foldl | apply swf_nil | apply swf_ite)

theorem State.spiStatus_keeps (z : State) (s : State) (p : Nat) (hz : Keeps z s) : Keeps z (State.spiStatus s p) := by
  unfold State.spiStatus
  repeat' with_reducible (first | assumption | intro _ | apply State.linkSeen_keeps | apply State.answers_keeps | apply keeps_ite | apply keeps_ite_fst | apply keeps_foldl | apply keeps_foldl_fst | split | (dsimp only; split) | apply keeps_with | apply swf_sset | apply swf_ssetMany | apply swf_filter | apply swf_foldl | apply swf_nil | apply swf_ite)

theorem State.cmdRegWrite_keeps (z : State) (s : State) (c tag flags offset : Nat) (value mask : Word) (hz : Keeps z s) : Keeps z (State.cmdRegWrite s c tag flags offset value mask) := by
  unfold State.cmdRegWrite
  repeat' with_reducible (first | assumption | intro _ | apply State.command_keeps | apply State.regWrite_keeps | apply keeps_ite | apply keeps_ite_fst | apply keeps_foldl | apply keeps_foldl_fst | split | (dsimp only; split) | apply keeps_with | apply swf_sset | apply swf_ssetMany | apply swf_filter | apply swf_foldl | apply swf_nil | apply swf_ite)

theorem State.cmdRegRead_keeps (z : State) (s : State) (c tag flags offset : Nat) (hz : Keeps z s) : Keeps z (State.cmdRegRead s c tag flags offset) := by
  unfold State.cmdRegRead
  repeat' with_reducible (first | assumption | intro _ | apply State.command_keeps | apply State.regRead_keeps | apply keeps_ite | apply keeps_ite_fst | apply keeps_foldl | apply keeps_foldl_fst | split | (dsimp only; split) | apply keeps_with | apply swf_sset | apply swf_ssetMany | apply swf_filter | apply swf_foldl | apply swf_nil | apply swf_ite)

theorem State.rdataAccess_keeps (z : State) (s : State) (c : Nat) (w : Option Word) (hz : Keeps z s) : Keeps z (State.rdataAccess s c w) := by
  unfold State.rdataAccess
  repeat' with_reducible (first | assumption | intro _ | apply State.linkSeen_keeps | apply State.rdata_keeps | apply State.answers_keeps | apply keeps_ite | apply keeps_ite_fst | apply keeps_foldl | apply keeps_foldl_fst | split | (dsimp only; split) | apply keeps_with | apply swf_sset | apply swf_ssetMany | apply swf_filter | apply swf_foldl | apply swf_nil | apply swf_ite)

theorem State.whenUp_keeps (z : State) (s : State) (f : State → State) (hz : Keeps z s) (hf : ∀ t, Keeps z t → Keeps z (f t)) : Keeps z (State.whenUp s f) := by
  unfold State.whenUp
  repeat' with_reducible (first | assumption | intro _ | apply hf | apply keeps_ite | apply keeps_ite_fst | apply keeps_foldl | apply keeps_foldl_fst | split | (dsimp only; split) | apply keeps_with | apply swf_sset | apply swf_ssetMany | apply swf_filter | apply swf_foldl | apply swf_nil | apply swf_ite)

end Sys2Proof.Machine
end

