-- ==== Sys2Proof/Laws/KeepsRows.lean ====
section
/-! SUPPORT. Every operation of Machine/Rows.lean keeps the variant, the queue and the canonical form of the register table. -/

namespace Sys2Proof.Machine

set_option linter.all false
set_option Elab.async false

theorem State.inRangeOf_keeps (z : State) (s : State) (i n : Nat) (f : State → State) (hz : Keeps z s) (hf : ∀ t, Keeps z t → Keeps z (f t)) : Keeps z (State.inRangeOf s i n f) := by
  unfold State.inRangeOf
  repeat' with_reducible (first | assumption | intro _ | apply hf | apply keeps_ite | apply keeps_ite_fst | apply keeps_foldl | apply keeps_foldl_fst | split | (dsimp only; split) | apply keeps_with | apply swf_sset | apply swf_ssetMany | apply swf_filter | apply swf_foldl | apply swf_nil | apply swf_ite)

theorem State.inRangeUp_keeps (z : State) (s : State) (i n : Nat) (f : State → State) (hz : Keeps z s) (hf : ∀ t, Keeps z t → Keeps z (f t)) : Keeps z (State.inRangeUp s i n f) := by
  unfold State.inRangeUp
  repeat' with_reducible (first | assumption | intro _ | apply hf | apply State.whenUp_keeps | apply State.inRangeOf_keeps | apply keeps_ite | apply keeps_ite_fst | apply keeps_foldl | apply keeps_foldl_fst | split | (dsimp only; split) | apply keeps_with | apply swf_sset | apply swf_ssetMany | apply swf_filter | apply swf_foldl | apply swf_nil | apply swf_ite)

theorem State.atNode_keeps (z : State) (s : State) (l p : Nat) (f : State → State) (hz : Keeps z s) (hf : ∀ t, Keeps z t → Keeps z (f t)) : Keeps z (State.atNode s l p f) := by
  unfold State.atNode
  repeat' with_reducible (first | assumption | intro _ | apply hf | apply State.whenUp_keeps | apply keeps_ite | apply keeps_ite_fst | apply keeps_foldl | apply keeps_foldl_fst | split | (dsimp only; split) | apply keeps_with | apply swf_sset | apply swf_ssetMany | apply swf_filter | apply swf_foldl | apply swf_nil | apply swf_ite)

theorem State.atPosition_keeps (z : State) (s : State) (l p : Nat) (f : State → State) (hz : Keeps z s) (hf : ∀ t, Keeps z t → Keeps z (f t)) : Keeps z (State.atPosition s l p f) := by
  unfold State.atPosition
  repeat' with_reducible (first | assumption | intro _ | apply hf | apply keeps_ite | apply keeps_ite_fst | apply keeps_foldl | apply keeps_foldl_fst | split | (dsimp only; split) | apply keeps_with | apply swf_sset | apply swf_ssetMany | apply swf_filter | apply swf_foldl | apply swf_nil | apply swf_ite)

theorem State.hostAccess_keeps (z : State) (s : State) (p a : Nat) (w : Option Word) (hz : Keeps z s) : Keeps z (State.hostAccess s p a w) := by
  unfold State.hostAccess
  repeat' with_reducible (first | assumption | intro _ | apply State.hostWrite_keeps | apply State.hostRead_keeps | apply keeps_ite | apply keeps_ite_fst | apply keeps_foldl | apply keeps_foldl_fst | split | (dsimp only; split) | apply keeps_with | apply swf_sset | apply swf_ssetMany | apply swf_filter | apply swf_foldl | apply swf_nil | apply swf_ite)

theorem State.railMeasured_keeps (z : State) (s : State) (b meas : Nat) (hz : Keeps z s) : Keeps z (State.railMeasured s b meas) := by
  unfold State.railMeasured
  repeat' with_reducible (first | assumption | intro _ | apply State.setFld_keeps | apply keeps_ite | apply keeps_ite_fst | apply keeps_foldl | apply keeps_foldl_fst | split | (dsimp only; split) | apply keeps_with | apply swf_sset | apply swf_ssetMany | apply swf_filter | apply swf_foldl | apply swf_nil | apply swf_ite)

theorem State.frameIn_keeps (z : State) (s : State) (p : Nat) (f : BusFrame) (hz : Keeps z s) : Keeps z (State.frameIn s p f) := by
  unfold State.frameIn
  repeat' with_reducible (first | assumption | intro _ | apply State.busError_keeps | apply State.goodFrame_keeps | apply State.haltFrame_keeps | apply State.received_keeps | apply keeps_ite | apply keeps_ite_fst | apply keeps_foldl | apply keeps_foldl_fst | split | (dsimp only; split) | apply keeps_with | apply swf_sset | apply swf_ssetMany | apply swf_filter | apply swf_foldl | apply swf_nil | apply swf_ite)

end Sys2Proof.Machine
end

