-- ==== Sys2Proof/Laws/State.lean ====
section
/-! SUPPORT. What a register update leaves alone: one lemma a field of State for each way of writing a register, true by rfl. -/

namespace Sys2Proof.Machine

@[simp] theorem State.setReg_variant (s : State) (a : Nat) (w : Word) : (s.setReg a w).variant = s.variant := rfl
@[simp] theorem State.setReg_ft (s : State) (a : Nat) (w : Word) : (s.setReg a w).ft = s.ft := rfl
@[simp] theorem State.setReg_pending (s : State) (a : Nat) (w : Word) : (s.setReg a w).pending = s.pending := rfl
@[simp] theorem State.setReg_free (s : State) (a : Nat) (w : Word) : (s.setReg a w).free = s.free := rfl
@[simp] theorem State.setReg_answer (s : State) (a : Nat) (w : Word) : (s.setReg a w).answer = s.answer := rfl
@[simp] theorem State.setReg_latch (s : State) (a : Nat) (w : Word) : (s.setReg a w).latch = s.latch := rfl
@[simp] theorem State.setReg_tb (s : State) (a : Nat) (w : Word) : (s.setReg a w).tb = s.tb := rfl
@[simp] theorem State.setReg_gn (s : State) (a : Nat) (w : Word) : (s.setReg a w).gn = s.gn := rfl
@[simp] theorem State.setReg_po (s : State) (a : Nat) (w : Word) : (s.setReg a w).po = s.po := rfl
@[simp] theorem State.setReg_rc (s : State) (a : Nat) (w : Word) : (s.setReg a w).rc = s.rc := rfl
@[simp] theorem State.setReg_hp (s : State) (a : Nat) (w : Word) : (s.setReg a w).hp = s.hp := rfl
@[simp] theorem State.setReg_mp (s : State) (a : Nat) (w : Word) : (s.setReg a w).mp = s.mp := rfl
@[simp] theorem State.setReg_lg (s : State) (a : Nat) (w : Word) : (s.setReg a w).lg = s.lg := rfl
@[simp] theorem State.setReg_vd (s : State) (a : Nat) (w : Word) : (s.setReg a w).vd = s.vd := rfl
@[simp] theorem State.setReg_lk (s : State) (a : Nat) (w : Word) : (s.setReg a w).lk = s.lk := rfl
@[simp] theorem State.setReg_lp (s : State) (a : Nat) (w : Word) : (s.setReg a w).lp = s.lp := rfl
@[simp] theorem State.setReg_ls (s : State) (a : Nat) (w : Word) : (s.setReg a w).ls = s.ls := rfl
@[simp] theorem State.setReg_fd (s : State) (a : Nat) (w : Word) : (s.setReg a w).fd = s.fd := rfl
@[simp] theorem State.setReg_bp (s : State) (a : Nat) (w : Word) : (s.setReg a w).bp = s.bp := rfl
@[simp] theorem State.setReg_im (s : State) (a : Nat) (w : Word) : (s.setReg a w).im = s.im := rfl
@[simp] theorem State.setReg_rs (s : State) (a : Nat) (w : Word) : (s.setReg a w).rs = s.rs := rfl
@[simp] theorem State.setReg_pw (s : State) (a : Nat) (w : Word) : (s.setReg a w).pw = s.pw := rfl

@[simp] theorem State.setFld_variant (s : State) (f : Fld) (v : Nat) : (s.setFld f v).variant = s.variant := rfl
@[simp] theorem State.setFld_ft (s : State) (f : Fld) (v : Nat) : (s.setFld f v).ft = s.ft := rfl
@[simp] theorem State.setFld_pending (s : State) (f : Fld) (v : Nat) : (s.setFld f v).pending = s.pending := rfl
@[simp] theorem State.setFld_free (s : State) (f : Fld) (v : Nat) : (s.setFld f v).free = s.free := rfl
@[simp] theorem State.setFld_answer (s : State) (f : Fld) (v : Nat) : (s.setFld f v).answer = s.answer := rfl
@[simp] theorem State.setFld_latch (s : State) (f : Fld) (v : Nat) : (s.setFld f v).latch = s.latch := rfl
@[simp] theorem State.setFld_tb (s : State) (f : Fld) (v : Nat) : (s.setFld f v).tb = s.tb := rfl
@[simp] theorem State.setFld_gn (s : State) (f : Fld) (v : Nat) : (s.setFld f v).gn = s.gn := rfl
@[simp] theorem State.setFld_po (s : State) (f : Fld) (v : Nat) : (s.setFld f v).po = s.po := rfl
@[simp] theorem State.setFld_rc (s : State) (f : Fld) (v : Nat) : (s.setFld f v).rc = s.rc := rfl
@[simp] theorem State.setFld_hp (s : State) (f : Fld) (v : Nat) : (s.setFld f v).hp = s.hp := rfl
@[simp] theorem State.setFld_mp (s : State) (f : Fld) (v : Nat) : (s.setFld f v).mp = s.mp := rfl
@[simp] theorem State.setFld_lg (s : State) (f : Fld) (v : Nat) : (s.setFld f v).lg = s.lg := rfl
@[simp] theorem State.setFld_vd (s : State) (f : Fld) (v : Nat) : (s.setFld f v).vd = s.vd := rfl
@[simp] theorem State.setFld_lk (s : State) (f : Fld) (v : Nat) : (s.setFld f v).lk = s.lk := rfl
@[simp] theorem State.setFld_lp (s : State) (f : Fld) (v : Nat) : (s.setFld f v).lp = s.lp := rfl
@[simp] theorem State.setFld_ls (s : State) (f : Fld) (v : Nat) : (s.setFld f v).ls = s.ls := rfl
@[simp] theorem State.setFld_fd (s : State) (f : Fld) (v : Nat) : (s.setFld f v).fd = s.fd := rfl
@[simp] theorem State.setFld_bp (s : State) (f : Fld) (v : Nat) : (s.setFld f v).bp = s.bp := rfl
@[simp] theorem State.setFld_im (s : State) (f : Fld) (v : Nat) : (s.setFld f v).im = s.im := rfl
@[simp] theorem State.setFld_rs (s : State) (f : Fld) (v : Nat) : (s.setFld f v).rs = s.rs := rfl
@[simp] theorem State.setFld_pw (s : State) (f : Fld) (v : Nat) : (s.setFld f v).pw = s.pw := rfl

@[simp] theorem State.setSfld_variant (s : State) (f : Fld) (v : Int) : (s.setSfld f v).variant = s.variant := rfl
@[simp] theorem State.setSfld_ft (s : State) (f : Fld) (v : Int) : (s.setSfld f v).ft = s.ft := rfl
@[simp] theorem State.setSfld_pending (s : State) (f : Fld) (v : Int) : (s.setSfld f v).pending = s.pending := rfl
@[simp] theorem State.setSfld_free (s : State) (f : Fld) (v : Int) : (s.setSfld f v).free = s.free := rfl
@[simp] theorem State.setSfld_answer (s : State) (f : Fld) (v : Int) : (s.setSfld f v).answer = s.answer := rfl
@[simp] theorem State.setSfld_latch (s : State) (f : Fld) (v : Int) : (s.setSfld f v).latch = s.latch := rfl
@[simp] theorem State.setSfld_tb (s : State) (f : Fld) (v : Int) : (s.setSfld f v).tb = s.tb := rfl
@[simp] theorem State.setSfld_gn (s : State) (f : Fld) (v : Int) : (s.setSfld f v).gn = s.gn := rfl
@[simp] theorem State.setSfld_po (s : State) (f : Fld) (v : Int) : (s.setSfld f v).po = s.po := rfl
@[simp] theorem State.setSfld_rc (s : State) (f : Fld) (v : Int) : (s.setSfld f v).rc = s.rc := rfl
@[simp] theorem State.setSfld_hp (s : State) (f : Fld) (v : Int) : (s.setSfld f v).hp = s.hp := rfl
@[simp] theorem State.setSfld_mp (s : State) (f : Fld) (v : Int) : (s.setSfld f v).mp = s.mp := rfl
@[simp] theorem State.setSfld_lg (s : State) (f : Fld) (v : Int) : (s.setSfld f v).lg = s.lg := rfl
@[simp] theorem State.setSfld_vd (s : State) (f : Fld) (v : Int) : (s.setSfld f v).vd = s.vd := rfl
@[simp] theorem State.setSfld_lk (s : State) (f : Fld) (v : Int) : (s.setSfld f v).lk = s.lk := rfl
@[simp] theorem State.setSfld_lp (s : State) (f : Fld) (v : Int) : (s.setSfld f v).lp = s.lp := rfl
@[simp] theorem State.setSfld_ls (s : State) (f : Fld) (v : Int) : (s.setSfld f v).ls = s.ls := rfl
@[simp] theorem State.setSfld_fd (s : State) (f : Fld) (v : Int) : (s.setSfld f v).fd = s.fd := rfl
@[simp] theorem State.setSfld_bp (s : State) (f : Fld) (v : Int) : (s.setSfld f v).bp = s.bp := rfl
@[simp] theorem State.setSfld_im (s : State) (f : Fld) (v : Int) : (s.setSfld f v).im = s.im := rfl
@[simp] theorem State.setSfld_rs (s : State) (f : Fld) (v : Int) : (s.setSfld f v).rs = s.rs := rfl
@[simp] theorem State.setSfld_pw (s : State) (f : Fld) (v : Int) : (s.setSfld f v).pw = s.pw := rfl

@[simp] theorem State.setBit_variant (s : State) (f : Fld) (b : Bool) : (s.setBit f b).variant = s.variant := rfl
@[simp] theorem State.setBit_ft (s : State) (f : Fld) (b : Bool) : (s.setBit f b).ft = s.ft := rfl
@[simp] theorem State.setBit_pending (s : State) (f : Fld) (b : Bool) : (s.setBit f b).pending = s.pending := rfl
@[simp] theorem State.setBit_free (s : State) (f : Fld) (b : Bool) : (s.setBit f b).free = s.free := rfl
@[simp] theorem State.setBit_answer (s : State) (f : Fld) (b : Bool) : (s.setBit f b).answer = s.answer := rfl
@[simp] theorem State.setBit_latch (s : State) (f : Fld) (b : Bool) : (s.setBit f b).latch = s.latch := rfl
@[simp] theorem State.setBit_tb (s : State) (f : Fld) (b : Bool) : (s.setBit f b).tb = s.tb := rfl
@[simp] theorem State.setBit_gn (s : State) (f : Fld) (b : Bool) : (s.setBit f b).gn = s.gn := rfl
@[simp] theorem State.setBit_po (s : State) (f : Fld) (b : Bool) : (s.setBit f b).po = s.po := rfl
@[simp] theorem State.setBit_rc (s : State) (f : Fld) (b : Bool) : (s.setBit f b).rc = s.rc := rfl
@[simp] theorem State.setBit_hp (s : State) (f : Fld) (b : Bool) : (s.setBit f b).hp = s.hp := rfl
@[simp] theorem State.setBit_mp (s : State) (f : Fld) (b : Bool) : (s.setBit f b).mp = s.mp := rfl
@[simp] theorem State.setBit_lg (s : State) (f : Fld) (b : Bool) : (s.setBit f b).lg = s.lg := rfl
@[simp] theorem State.setBit_vd (s : State) (f : Fld) (b : Bool) : (s.setBit f b).vd = s.vd := rfl
@[simp] theorem State.setBit_lk (s : State) (f : Fld) (b : Bool) : (s.setBit f b).lk = s.lk := rfl
@[simp] theorem State.setBit_lp (s : State) (f : Fld) (b : Bool) : (s.setBit f b).lp = s.lp := rfl
@[simp] theorem State.setBit_ls (s : State) (f : Fld) (b : Bool) : (s.setBit f b).ls = s.ls := rfl
@[simp] theorem State.setBit_fd (s : State) (f : Fld) (b : Bool) : (s.setBit f b).fd = s.fd := rfl
@[simp] theorem State.setBit_bp (s : State) (f : Fld) (b : Bool) : (s.setBit f b).bp = s.bp := rfl
@[simp] theorem State.setBit_im (s : State) (f : Fld) (b : Bool) : (s.setBit f b).im = s.im := rfl
@[simp] theorem State.setBit_rs (s : State) (f : Fld) (b : Bool) : (s.setBit f b).rs = s.rs := rfl
@[simp] theorem State.setBit_pw (s : State) (f : Fld) (b : Bool) : (s.setBit f b).pw = s.pw := rfl

@[simp] theorem State.bump_variant (s : State) (f : Fld) (n : Nat) : (s.bump f n).variant = s.variant := rfl
@[simp] theorem State.bump_ft (s : State) (f : Fld) (n : Nat) : (s.bump f n).ft = s.ft := rfl
@[simp] theorem State.bump_pending (s : State) (f : Fld) (n : Nat) : (s.bump f n).pending = s.pending := rfl
@[simp] theorem State.bump_free (s : State) (f : Fld) (n : Nat) : (s.bump f n).free = s.free := rfl
@[simp] theorem State.bump_answer (s : State) (f : Fld) (n : Nat) : (s.bump f n).answer = s.answer := rfl
@[simp] theorem State.bump_latch (s : State) (f : Fld) (n : Nat) : (s.bump f n).latch = s.latch := rfl
@[simp] theorem State.bump_tb (s : State) (f : Fld) (n : Nat) : (s.bump f n).tb = s.tb := rfl
@[simp] theorem State.bump_gn (s : State) (f : Fld) (n : Nat) : (s.bump f n).gn = s.gn := rfl
@[simp] theorem State.bump_po (s : State) (f : Fld) (n : Nat) : (s.bump f n).po = s.po := rfl
@[simp] theorem State.bump_rc (s : State) (f : Fld) (n : Nat) : (s.bump f n).rc = s.rc := rfl
@[simp] theorem State.bump_hp (s : State) (f : Fld) (n : Nat) : (s.bump f n).hp = s.hp := rfl
@[simp] theorem State.bump_mp (s : State) (f : Fld) (n : Nat) : (s.bump f n).mp = s.mp := rfl
@[simp] theorem State.bump_lg (s : State) (f : Fld) (n : Nat) : (s.bump f n).lg = s.lg := rfl
@[simp] theorem State.bump_vd (s : State) (f : Fld) (n : Nat) : (s.bump f n).vd = s.vd := rfl
@[simp] theorem State.bump_lk (s : State) (f : Fld) (n : Nat) : (s.bump f n).lk = s.lk := rfl
@[simp] theorem State.bump_lp (s : State) (f : Fld) (n : Nat) : (s.bump f n).lp = s.lp := rfl
@[simp] theorem State.bump_ls (s : State) (f : Fld) (n : Nat) : (s.bump f n).ls = s.ls := rfl
@[simp] theorem State.bump_fd (s : State) (f : Fld) (n : Nat) : (s.bump f n).fd = s.fd := rfl
@[simp] theorem State.bump_bp (s : State) (f : Fld) (n : Nat) : (s.bump f n).bp = s.bp := rfl
@[simp] theorem State.bump_im (s : State) (f : Fld) (n : Nat) : (s.bump f n).im = s.im := rfl
@[simp] theorem State.bump_rs (s : State) (f : Fld) (n : Nat) : (s.bump f n).rs = s.rs := rfl
@[simp] theorem State.bump_pw (s : State) (f : Fld) (n : Nat) : (s.bump f n).pw = s.pw := rfl

@[simp] theorem State.bumpWrap_variant (s : State) (f : Fld) (n : Nat) : (s.bumpWrap f n).variant = s.variant := rfl
@[simp] theorem State.bumpWrap_ft (s : State) (f : Fld) (n : Nat) : (s.bumpWrap f n).ft = s.ft := rfl
@[simp] theorem State.bumpWrap_pending (s : State) (f : Fld) (n : Nat) : (s.bumpWrap f n).pending = s.pending := rfl
@[simp] theorem State.bumpWrap_free (s : State) (f : Fld) (n : Nat) : (s.bumpWrap f n).free = s.free := rfl
@[simp] theorem State.bumpWrap_answer (s : State) (f : Fld) (n : Nat) : (s.bumpWrap f n).answer = s.answer := rfl
@[simp] theorem State.bumpWrap_latch (s : State) (f : Fld) (n : Nat) : (s.bumpWrap f n).latch = s.latch := rfl
@[simp] theorem State.bumpWrap_tb (s : State) (f : Fld) (n : Nat) : (s.bumpWrap f n).tb = s.tb := rfl
@[simp] theorem State.bumpWrap_gn (s : State) (f : Fld) (n : Nat) : (s.bumpWrap f n).gn = s.gn := rfl
@[simp] theorem State.bumpWrap_po (s : State) (f : Fld) (n : Nat) : (s.bumpWrap f n).po = s.po := rfl
@[simp] theorem State.bumpWrap_rc (s : State) (f : Fld) (n : Nat) : (s.bumpWrap f n).rc = s.rc := rfl
@[simp] theorem State.bumpWrap_hp (s : State) (f : Fld) (n : Nat) : (s.bumpWrap f n).hp = s.hp := rfl
@[simp] theorem State.bumpWrap_mp (s : State) (f : Fld) (n : Nat) : (s.bumpWrap f n).mp = s.mp := rfl
@[simp] theorem State.bumpWrap_lg (s : State) (f : Fld) (n : Nat) : (s.bumpWrap f n).lg = s.lg := rfl
@[simp] theorem State.bumpWrap_vd (s : State) (f : Fld) (n : Nat) : (s.bumpWrap f n).vd = s.vd := rfl
@[simp] theorem State.bumpWrap_lk (s : State) (f : Fld) (n : Nat) : (s.bumpWrap f n).lk = s.lk := rfl
@[simp] theorem State.bumpWrap_lp (s : State) (f : Fld) (n : Nat) : (s.bumpWrap f n).lp = s.lp := rfl
@[simp] theorem State.bumpWrap_ls (s : State) (f : Fld) (n : Nat) : (s.bumpWrap f n).ls = s.ls := rfl
@[simp] theorem State.bumpWrap_fd (s : State) (f : Fld) (n : Nat) : (s.bumpWrap f n).fd = s.fd := rfl
@[simp] theorem State.bumpWrap_bp (s : State) (f : Fld) (n : Nat) : (s.bumpWrap f n).bp = s.bp := rfl
@[simp] theorem State.bumpWrap_im (s : State) (f : Fld) (n : Nat) : (s.bumpWrap f n).im = s.im := rfl
@[simp] theorem State.bumpWrap_rs (s : State) (f : Fld) (n : Nat) : (s.bumpWrap f n).rs = s.rs := rfl
@[simp] theorem State.bumpWrap_pw (s : State) (f : Fld) (n : Nat) : (s.bumpWrap f n).pw = s.pw := rfl

@[simp] theorem State.setFbit_variant (s : State) (f : Fld) (i : Nat) (b : Bool) : (s.setFbit f i b).variant = s.variant := rfl
@[simp] theorem State.setFbit_ft (s : State) (f : Fld) (i : Nat) (b : Bool) : (s.setFbit f i b).ft = s.ft := rfl
@[simp] theorem State.setFbit_pending (s : State) (f : Fld) (i : Nat) (b : Bool) : (s.setFbit f i b).pending = s.pending := rfl
@[simp] theorem State.setFbit_free (s : State) (f : Fld) (i : Nat) (b : Bool) : (s.setFbit f i b).free = s.free := rfl
@[simp] theorem State.setFbit_answer (s : State) (f : Fld) (i : Nat) (b : Bool) : (s.setFbit f i b).answer = s.answer := rfl
@[simp] theorem State.setFbit_latch (s : State) (f : Fld) (i : Nat) (b : Bool) : (s.setFbit f i b).latch = s.latch := rfl
@[simp] theorem State.setFbit_tb (s : State) (f : Fld) (i : Nat) (b : Bool) : (s.setFbit f i b).tb = s.tb := rfl
@[simp] theorem State.setFbit_gn (s : State) (f : Fld) (i : Nat) (b : Bool) : (s.setFbit f i b).gn = s.gn := rfl
@[simp] theorem State.setFbit_po (s : State) (f : Fld) (i : Nat) (b : Bool) : (s.setFbit f i b).po = s.po := rfl
@[simp] theorem State.setFbit_rc (s : State) (f : Fld) (i : Nat) (b : Bool) : (s.setFbit f i b).rc = s.rc := rfl
@[simp] theorem State.setFbit_hp (s : State) (f : Fld) (i : Nat) (b : Bool) : (s.setFbit f i b).hp = s.hp := rfl
@[simp] theorem State.setFbit_mp (s : State) (f : Fld) (i : Nat) (b : Bool) : (s.setFbit f i b).mp = s.mp := rfl
@[simp] theorem State.setFbit_lg (s : State) (f : Fld) (i : Nat) (b : Bool) : (s.setFbit f i b).lg = s.lg := rfl
@[simp] theorem State.setFbit_vd (s : State) (f : Fld) (i : Nat) (b : Bool) : (s.setFbit f i b).vd = s.vd := rfl
@[simp] theorem State.setFbit_lk (s : State) (f : Fld) (i : Nat) (b : Bool) : (s.setFbit f i b).lk = s.lk := rfl
@[simp] theorem State.setFbit_lp (s : State) (f : Fld) (i : Nat) (b : Bool) : (s.setFbit f i b).lp = s.lp := rfl
@[simp] theorem State.setFbit_ls (s : State) (f : Fld) (i : Nat) (b : Bool) : (s.setFbit f i b).ls = s.ls := rfl
@[simp] theorem State.setFbit_fd (s : State) (f : Fld) (i : Nat) (b : Bool) : (s.setFbit f i b).fd = s.fd := rfl
@[simp] theorem State.setFbit_bp (s : State) (f : Fld) (i : Nat) (b : Bool) : (s.setFbit f i b).bp = s.bp := rfl
@[simp] theorem State.setFbit_im (s : State) (f : Fld) (i : Nat) (b : Bool) : (s.setFbit f i b).im = s.im := rfl
@[simp] theorem State.setFbit_rs (s : State) (f : Fld) (i : Nat) (b : Bool) : (s.setFbit f i b).rs = s.rs := rfl
@[simp] theorem State.setFbit_pw (s : State) (f : Fld) (i : Nat) (b : Bool) : (s.setFbit f i b).pw = s.pw := rfl

@[simp] theorem State.setReg64_variant (s : State) (lo v : Nat) : (s.setReg64 lo v).variant = s.variant := rfl
@[simp] theorem State.setReg64_ft (s : State) (lo v : Nat) : (s.setReg64 lo v).ft = s.ft := rfl
@[simp] theorem State.setReg64_pending (s : State) (lo v : Nat) : (s.setReg64 lo v).pending = s.pending := rfl
@[simp] theorem State.setReg64_free (s : State) (lo v : Nat) : (s.setReg64 lo v).free = s.free := rfl
@[simp] theorem State.setReg64_answer (s : State) (lo v : Nat) : (s.setReg64 lo v).answer = s.answer := rfl
@[simp] theorem State.setReg64_latch (s : State) (lo v : Nat) : (s.setReg64 lo v).latch = s.latch := rfl
@[simp] theorem State.setReg64_tb (s : State) (lo v : Nat) : (s.setReg64 lo v).tb = s.tb := rfl
@[simp] theorem State.setReg64_gn (s : State) (lo v : Nat) : (s.setReg64 lo v).gn = s.gn := rfl
@[simp] theorem State.setReg64_po (s : State) (lo v : Nat) : (s.setReg64 lo v).po = s.po := rfl
@[simp] theorem State.setReg64_rc (s : State) (lo v : Nat) : (s.setReg64 lo v).rc = s.rc := rfl
@[simp] theorem State.setReg64_hp (s : State) (lo v : Nat) : (s.setReg64 lo v).hp = s.hp := rfl
@[simp] theorem State.setReg64_mp (s : State) (lo v : Nat) : (s.setReg64 lo v).mp = s.mp := rfl
@[simp] theorem State.setReg64_lg (s : State) (lo v : Nat) : (s.setReg64 lo v).lg = s.lg := rfl
@[simp] theorem State.setReg64_vd (s : State) (lo v : Nat) : (s.setReg64 lo v).vd = s.vd := rfl
@[simp] theorem State.setReg64_lk (s : State) (lo v : Nat) : (s.setReg64 lo v).lk = s.lk := rfl
@[simp] theorem State.setReg64_lp (s : State) (lo v : Nat) : (s.setReg64 lo v).lp = s.lp := rfl
@[simp] theorem State.setReg64_ls (s : State) (lo v : Nat) : (s.setReg64 lo v).ls = s.ls := rfl
@[simp] theorem State.setReg64_fd (s : State) (lo v : Nat) : (s.setReg64 lo v).fd = s.fd := rfl
@[simp] theorem State.setReg64_bp (s : State) (lo v : Nat) : (s.setReg64 lo v).bp = s.bp := rfl
@[simp] theorem State.setReg64_im (s : State) (lo v : Nat) : (s.setReg64 lo v).im = s.im := rfl
@[simp] theorem State.setReg64_rs (s : State) (lo v : Nat) : (s.setReg64 lo v).rs = s.rs := rfl
@[simp] theorem State.setReg64_pw (s : State) (lo v : Nat) : (s.setReg64 lo v).pw = s.pw := rfl

@[simp] theorem State.tick_variant (s : State) : s.tick.variant = s.variant := rfl
@[simp] theorem State.tick_ft (s : State) : s.tick.ft = s.ft := rfl
@[simp] theorem State.tick_pending (s : State) : s.tick.pending = s.pending := rfl
@[simp] theorem State.tick_answer (s : State) : s.tick.answer = s.answer := rfl
@[simp] theorem State.tick_regs (s : State) : s.tick.regs = s.regs := rfl
@[simp] theorem State.tick_latch (s : State) : s.tick.latch = s.latch := rfl
@[simp] theorem State.tick_tb (s : State) : s.tick.tb = s.tb := rfl
@[simp] theorem State.tick_gn (s : State) : s.tick.gn = s.gn := rfl
@[simp] theorem State.tick_po (s : State) : s.tick.po = s.po := rfl
@[simp] theorem State.tick_rc (s : State) : s.tick.rc = s.rc := rfl
@[simp] theorem State.tick_hp (s : State) : s.tick.hp = s.hp := rfl
@[simp] theorem State.tick_mp (s : State) : s.tick.mp = s.mp := rfl
@[simp] theorem State.tick_lg (s : State) : s.tick.lg = s.lg := rfl
@[simp] theorem State.tick_vd (s : State) : s.tick.vd = s.vd := rfl
@[simp] theorem State.tick_lk (s : State) : s.tick.lk = s.lk := rfl
@[simp] theorem State.tick_lp (s : State) : s.tick.lp = s.lp := rfl
@[simp] theorem State.tick_ls (s : State) : s.tick.ls = s.ls := rfl
@[simp] theorem State.tick_fd (s : State) : s.tick.fd = s.fd := rfl
@[simp] theorem State.tick_bp (s : State) : s.tick.bp = s.bp := rfl
@[simp] theorem State.tick_im (s : State) : s.tick.im = s.im := rfl
@[simp] theorem State.tick_rs (s : State) : s.tick.rs = s.rs := rfl
@[simp] theorem State.tick_pw (s : State) : s.tick.pw = s.pw := rfl

end Sys2Proof.Machine
end

