-- ==== Sys2Proof/Laws/Regs.lean ====
section
/-! SUPPORT. Laws of registers and their fields: what a write of a register or of a field reads as afterwards, in the field, in another
field of the same register and elsewhere, and that writes keep the register table canonical. -/

namespace Sys2Proof.Machine

/-! Bit fields of a word. -/

/-- A number below one power of two, then a number below another on top of it. -/
theorem low_add_high_lt {a b x y : Nat} (hx : x < 2 ^ a) (hy : y < 2 ^ b) : x + 2 ^ a * y < 2 ^ (a + b) := by
  have h : 2 ^ a * (y + 1) ≤ 2 ^ a * 2 ^ b := Nat.mul_le_mul_left _ hy
  rw [Nat.mul_add, Nat.mul_one] at h
  rw [Nat.pow_add]
  omega

theorem putBits_lt {w lo n v : Nat} (h : lo + n ≤ 32) (hw : w < 2 ^ 32) : putBits w lo n v < 2 ^ 32 := by
  have he : 32 = lo + (n + (32 - (lo + n))) := by omega
  have h3 : w / 2 ^ (lo + n) < 2 ^ (32 - (lo + n)) := by
    rw [Nat.div_lt_iff_lt_mul (Nat.two_pow_pos _), ← Nat.pow_add]
    have : 32 - (lo + n) + (lo + n) = 32 := by omega
    rw [this]; exact hw
  rw [he]
  exact low_add_high_lt (Nat.mod_lt _ (Nat.two_pow_pos lo)) (low_add_high_lt (Nat.mod_lt _ (Nat.two_pow_pos n)) h3)

theorem putBits_div_lo (w lo n v : Nat) : putBits w lo n v / 2 ^ lo = v % 2 ^ n + 2 ^ n * (w / 2 ^ (lo + n)) := by
  unfold putBits
  rw [Nat.add_mul_div_left _ _ (Nat.two_pow_pos lo), Nat.div_eq_of_lt (Nat.mod_lt _ (Nat.two_pow_pos lo)), Nat.zero_add]

/-- The bits put are the bits read back. -/
@[simp] theorem bitsOf_putBits (w lo n v : Nat) : bitsOf (putBits w lo n v) lo n = v % 2 ^ n := by
  unfold bitsOf
  rw [putBits_div_lo, Nat.add_mul_mod_self_left, Nat.mod_mod]

theorem bitsOf_putBits_above {w lo n v l m : Nat} (h : lo + n ≤ l) : bitsOf (putBits w lo n v) l m = bitsOf w l m := by
  have hp : putBits w lo n v / 2 ^ (lo + n) = w / 2 ^ (lo + n) := by
    rw [Nat.pow_add, ← Nat.div_div_eq_div_mul, putBits_div_lo, Nat.add_mul_div_left _ _ (Nat.two_pow_pos n),
      Nat.div_eq_of_lt (Nat.mod_lt _ (Nat.two_pow_pos n)), Nat.zero_add, Nat.pow_add]
  have hl : l = lo + n + (l - (lo + n)) := by omega
  unfold bitsOf
  rw [hl, Nat.pow_add, ← Nat.div_div_eq_div_mul, hp, Nat.div_div_eq_div_mul]

theorem putBits_mod_lo (w lo n v : Nat) : putBits w lo n v % 2 ^ lo = w % 2 ^ lo := by
  unfold putBits
  rw [Nat.add_mul_mod_self_left, Nat.mod_mod]

theorem bitsOf_eq_mod {w l m lo : Nat} (h : l + m ≤ lo) : bitsOf w l m = bitsOf (w % 2 ^ lo) l m := by
  have he : lo = l + (lo - l) := by omega
  have hd : w % 2 ^ lo / 2 ^ l = w / 2 ^ l % 2 ^ (lo - l) := by
    rw [he, Nat.pow_add, Nat.mod_mul_right_div_self]
    congr 2
    omega
  unfold bitsOf
  rw [hd, Nat.mod_mod_of_dvd _ (Nat.pow_dvd_pow 2 (by omega))]

theorem bitsOf_putBits_below {w lo n v l m : Nat} (h : l + m ≤ lo) : bitsOf (putBits w lo n v) l m = bitsOf w l m := by
  rw [bitsOf_eq_mod h, putBits_mod_lo, ← bitsOf_eq_mod h]

theorem bitsOf_lt (w lo n : Nat) : bitsOf w lo n < 2 ^ n := Nat.mod_lt _ (Nat.two_pow_pos n)

/-! Registers. -/

theorem State.reg_setReg (s : State) (a b : Nat) (w : Word) : (s.setReg a w).reg b = if b = a then w else s.reg b :=
  sget_sset _ _ _ _ _

@[simp] theorem State.reg_setReg_same (s : State) (a : Nat) (w : Word) : (s.setReg a w).reg a = w := by
  rw [State.reg_setReg, if_pos rfl]

theorem State.reg_setReg_other (s : State) {a b : Nat} (w : Word) (h : b ≠ a) : (s.setReg a w).reg b = s.reg b := by
  rw [State.reg_setReg, if_neg h]

theorem State.reg_setFld_other (s : State) {f : Fld} {b : Nat} (v : Nat) (h : b ≠ f.addr) : (s.setFld f v).reg b = s.reg b :=
  s.reg_setReg_other _ h

/-- A register field lies within its 32-bit word. -/
def Fld.ok (f : Fld) : Prop := f.lo + f.width ≤ 32

/-- Two fields share no bit. -/
def Fld.apart (f g : Fld) : Prop := f.addr ≠ g.addr ∨ (f.lo + f.width ≤ g.lo ∨ g.lo + g.width ≤ f.lo)

theorem State.fld_lt (s : State) (f : Fld) : s.fld f < 2 ^ f.width := bitsOf_lt _ _ _

/-- A field written holds the low bits of what was written. -/
theorem State.fld_setFld_same (s : State) {f : Fld} (v : Nat) (h : f.ok) : (s.setFld f v).fld f = v % 2 ^ f.width := by
  unfold State.fld State.setFld
  rw [State.reg_setReg_same, BitVec.toNat_ofNat, Nat.mod_eq_of_lt (putBits_lt h (s.reg f.addr).isLt), bitsOf_putBits]

/-- A field that shares no bit with the written one is unchanged. -/
theorem State.fld_setFld_apart (s : State) {f g : Fld} (v : Nat) (hf : f.ok) (h : g.apart f) : (s.setFld f v).fld g = s.fld g := by
  unfold State.fld State.setFld
  by_cases ha : g.addr = f.addr
  · rw [ha, State.reg_setReg_same, BitVec.toNat_ofNat, Nat.mod_eq_of_lt (putBits_lt hf (s.reg f.addr).isLt)]
    rcases h with h | h | h
    · exact absurd ha h
    · exact bitsOf_putBits_below h
    · exact bitsOf_putBits_above h
  · rw [State.reg_setReg_other _ _ ha]

theorem State.fld_setReg_other (s : State) {g : Fld} {a : Nat} (w : Word) (h : g.addr ≠ a) : (s.setReg a w).fld g = s.fld g := by
  unfold State.fld
  rw [State.reg_setReg_other _ _ h]

/-- The stored words decide a field. -/
theorem State.fld_congr {s t : State} {f : Fld} (h : t.reg f.addr = s.reg f.addr) : t.fld f = s.fld f := by
  unfold State.fld
  rw [h]

end Sys2Proof.Machine
end

