-- ==== Sys2Proof/Laws/Touch.lean ====
section
/-! SUPPORT. What an operation may change, as a bit mask over the rows of the register map and the parts of the state. One relation says
it, and it composes: each operation has one lemma with its own mask. -/

namespace Sys2Proof.Machine

/-- Base address, strides and counts of a row. -/
structure Dims where
  base : Nat
  s1 : Nat
  n1 : Nat
  s2 : Nat
  n2 : Nat
  deriving DecidableEq

def RegRow.dims (r : RegRow) : Dims := ⟨r.base, r.s1, r.n1, r.s2, r.n2⟩

/-- A register of these dimensions lies at `a`. -/
def Dims.holds (d : Dims) (a : Nat) : Bool := RegRow.holds ⟨d.base, d.s1, d.n1, d.s2, d.n2, []⟩ a

/-- The rows of the register map, numbered in the order of Table 18.1. -/
def rowDims (k : Nat) : Dims :=
  if k < 249 then if k < 124 then if k < 62 then if k < 31 then if k < 15 then if k < 7 then if k < 3 then if k < 1 then ⟨0x0, 0x1000, 1024, 0x4, 1⟩
  else if k < 2 then ⟨0x8, 0x1000, 1024, 0x4, 1⟩
  else ⟨0xc, 0x1000, 1024, 0x4, 1⟩
  else if k < 5 then if k < 4 then ⟨0x10, 0x1000, 1024, 0x4, 1⟩
  else ⟨0x14, 0x1000, 1024, 0x4, 1⟩
  else if k < 6 then ⟨0x18, 0x1000, 1024, 0x4, 1⟩
  else ⟨0x1c, 0x1000, 1024, 0x4, 1⟩
  else if k < 11 then if k < 9 then if k < 8 then ⟨0x20, 0x1000, 1024, 0x4, 1⟩
  else ⟨0x24, 0x1000, 1024, 0x4, 1⟩
  else if k < 10 then ⟨0x28, 0x1000, 1024, 0x4, 1⟩
  else ⟨0x2c, 0x1000, 1024, 0x4, 1⟩
  else if k < 13 then if k < 12 then ⟨0x30, 0x1000, 1024, 0x4, 1⟩
  else ⟨0x34, 0x1000, 1024, 0x4, 1⟩
  else if k < 14 then ⟨0x38, 0x1000, 1024, 0x4, 1⟩
  else ⟨0x3c, 0x1000, 1024, 0x4, 1⟩
  else if k < 23 then if k < 19 then if k < 17 then if k < 16 then ⟨0x40, 0x1000, 1024, 0x20, 4⟩
  else ⟨0x44, 0x1000, 1024, 0x20, 4⟩
  else if k < 18 then ⟨0x48, 0x1000, 1024, 0x20, 4⟩
  else ⟨0x4c, 0x1000, 1024, 0x20, 4⟩
  else if k < 21 then if k < 20 then ⟨0x50, 0x1000, 1024, 0x20, 4⟩
  else ⟨0x54, 0x1000, 1024, 0x20, 4⟩
  else if k < 22 then ⟨0xffc, 0x1000, 1024, 0x4, 1⟩
  else ⟨0x401000, 0x4, 1, 0x4, 1⟩
  else if k < 27 then if k < 25 then if k < 24 then ⟨0x401004, 0x4, 1, 0x4, 1⟩
  else ⟨0x401008, 0x4, 1, 0x4, 1⟩
  else if k < 26 then ⟨0x40100c, 0x4, 1, 0x4, 1⟩
  else ⟨0x401010, 0x4, 1, 0x4, 1⟩
  else if k < 29 then if k < 28 then ⟨0x401014, 0x4, 1, 0x4, 1⟩
  else ⟨0x401018, 0x4, 1, 0x4, 1⟩
  else if k < 30 then ⟨0x40101c, 0x4, 1, 0x4, 1⟩
  else ⟨0x401020, 0x4, 1, 0x4, 1⟩
  else if k < 46 then if k < 38 then if k < 34 then if k < 32 then ⟨0x401024, 0x4, 1, 0x4, 1⟩
  else if k < 33 then ⟨0x401028, 0x4, 1, 0x4, 1⟩
  else ⟨0x40102c, 0x4, 1, 0x4, 1⟩
  else if k < 36 then if k < 35 then ⟨0x401030, 0x4, 1, 0x4, 1⟩
  else ⟨0x401034, 0x4, 1, 0x4, 1⟩
  else if k < 37 then ⟨0x401038, 0x4, 1, 0x4, 1⟩
  else ⟨0x40103c, 0x4, 1, 0x4, 1⟩
  else if k < 42 then if k < 40 then if k < 39 then ⟨0x401040, 0x4, 1, 0x4, 1⟩
  else ⟨0x401044, 0x4, 8, 0x4, 1⟩
  else if k < 41 then ⟨0x401064, 0x4, 1, 0x4, 1⟩
  else ⟨0x400000, 0x4, 1, 0x4, 1⟩
  else if k < 44 then if k < 43 then ⟨0x400004, 0x4, 1, 0x4, 1⟩
  else ⟨0x400008, 0x4, 1, 0x4, 1⟩
  else if k < 45 then ⟨0x40000c, 0x4, 1, 0x4, 1⟩
  else ⟨0x400010, 0x4, 1, 0x4, 1⟩
  else if k < 54 then if k < 50 then if k < 48 then if k < 47 then ⟨0x400014, 0x4, 1, 0x4, 1⟩
  else ⟨0x400018, 0x4, 1, 0x4, 1⟩
  else if k < 49 then ⟨0x40001c, 0x4, 1, 0x4, 1⟩
  else ⟨0x408000, 0x4, 1, 0x4, 1⟩
  else if k < 52 then if k < 51 then ⟨0x408004, 0x4, 1, 0x4, 1⟩
  else ⟨0x408010, 0x8, 4, 0x4, 1⟩
  else if k < 53 then ⟨0x408014, 0x8, 4, 0x4, 1⟩
  else ⟨0x408040, 0x10, 4, 0x4, 4⟩
  else if k < 58 then if k < 56 then if k < 55 then ⟨0x408080, 0x10, 4, 0x4, 4⟩
  else ⟨0x4080c0, 0x10, 4, 0x4, 4⟩
  else if k < 57 then ⟨0x408100, 0x4, 1, 0x4, 1⟩
  else ⟨0x408104, 0x4, 1, 0x4, 1⟩
  else if k < 60 then if k < 59 then ⟨0x408108, 0x4, 1, 0x4, 1⟩
  else ⟨0x408110, 0x4, 4, 0x4, 1⟩
  else if k < 61 then ⟨0x408120, 0x4, 1, 0x4, 1⟩
  else ⟨0x408124, 0x4, 1, 0x4, 1⟩
  else if k < 93 then if k < 77 then if k < 69 then if k < 65 then if k < 63 then ⟨0x409000, 0x4, 1, 0x4, 1⟩
  else if k < 64 then ⟨0x409004, 0x4, 1, 0x4, 1⟩
  else ⟨0x409008, 0x4, 1, 0x4, 1⟩
  else if k < 67 then if k < 66 then ⟨0x40900c, 0x4, 1, 0x4, 1⟩
  else ⟨0x409010, 0x4, 1, 0x4, 1⟩
  else if k < 68 then ⟨0x409014, 0x4, 1, 0x4, 1⟩
  else ⟨0x409018, 0x4, 1, 0x4, 1⟩
  else if k < 73 then if k < 71 then if k < 70 then ⟨0x40901c, 0x4, 1, 0x4, 1⟩
  else ⟨0x409020, 0x4, 4, 0x4, 1⟩
  else if k < 72 then ⟨0x409030, 0x4, 1, 0x4, 1⟩
  else ⟨0x409034, 0x4, 1, 0x4, 1⟩
  else if k < 75 then if k < 74 then ⟨0x409038, 0x4, 1, 0x4, 1⟩
  else ⟨0x40903c, 0x4, 1, 0x4, 1⟩
  else if k < 76 then ⟨0x409040, 0x8, 8, 0x4, 1⟩
  else ⟨0x409044, 0x8, 8, 0x4, 1⟩
  else if k < 85 then if k < 81 then if k < 79 then if k < 78 then ⟨0x409100, 0x4, 16, 0x4, 1⟩
  else ⟨0x409180, 0x4, 8, 0x4, 1⟩
  else if k < 80 then ⟨0x409800, 0x10, 192, 0x4, 1⟩
  else ⟨0x409804, 0x10, 192, 0x4, 1⟩
  else if k < 83 then if k < 82 then ⟨0x409808, 0x10, 192, 0x4, 1⟩
  else ⟨0x40980c, 0x10, 192, 0x4, 1⟩
  else if k < 84 then ⟨0x40a400, 0x100, 4, 0x4, 64⟩
  else ⟨0x40a800, 0x100, 4, 0x4, 64⟩
  else if k < 89 then if k < 87 then if k < 86 then ⟨0x40c000, 0x4, 1, 0x4, 1⟩
  else ⟨0x40c004, 0x4, 1, 0x4, 1⟩
  else if k < 88 then ⟨0x40c008, 0x4, 1, 0x4, 1⟩
  else ⟨0x40c00c, 0x4, 1, 0x4, 1⟩
  else if k < 91 then if k < 90 then ⟨0x40c010, 0x4, 1, 0x4, 1⟩
  else ⟨0x40c014, 0x4, 1, 0x4, 1⟩
  else if k < 92 then ⟨0x40c018, 0x4, 1, 0x4, 1⟩
  else ⟨0x40c01c, 0x4, 1, 0x4, 1⟩
  else if k < 108 then if k < 100 then if k < 96 then if k < 94 then ⟨0x40c020, 0x4, 1, 0x4, 1⟩
  else if k < 95 then ⟨0x40c024, 0x4, 1, 0x4, 1⟩
  else ⟨0x40c028, 0x4, 1, 0x4, 1⟩
  else if k < 98 then if k < 97 then ⟨0x40c200, 0x10, 32, 0x4, 1⟩
  else ⟨0x40c204, 0x10, 32, 0x4, 1⟩
  else if k < 99 then ⟨0x40c208, 0x10, 32, 0x4, 1⟩
  else ⟨0x40c100, 0x20, 8, 0x4, 1⟩
  else if k < 104 then if k < 102 then if k < 101 then ⟨0x40c104, 0x20, 8, 0x4, 1⟩
  else ⟨0x40c108, 0x20, 8, 0x4, 1⟩
  else if k < 103 then ⟨0x40c10c, 0x20, 8, 0x4, 1⟩
  else ⟨0x40c110, 0x20, 8, 0x4, 1⟩
  else if k < 106 then if k < 105 then ⟨0x40c114, 0x20, 8, 0x4, 1⟩
  else ⟨0x40c118, 0x20, 8, 0x4, 1⟩
  else if k < 107 then ⟨0x40c11c, 0x20, 8, 0x4, 1⟩
  else ⟨0x40d000, 0x8, 1024, 0x4, 1⟩
  else if k < 116 then if k < 112 then if k < 110 then if k < 109 then ⟨0x40d004, 0x8, 1024, 0x4, 1⟩
  else ⟨0x410000, 0x4, 1, 0x4, 1⟩
  else if k < 111 then ⟨0x410004, 0x4, 1, 0x4, 1⟩
  else ⟨0x410008, 0x4, 1, 0x4, 1⟩
  else if k < 114 then if k < 113 then ⟨0x41000c, 0x4, 1, 0x4, 1⟩
  else ⟨0x410010, 0x4, 1, 0x4, 1⟩
  else if k < 115 then ⟨0x410014, 0x4, 1, 0x4, 1⟩
  else ⟨0x410018, 0x4, 1, 0x4, 1⟩
  else if k < 120 then if k < 118 then if k < 117 then ⟨0x41001c, 0x4, 1, 0x4, 1⟩
  else ⟨0x410020, 0x4, 1, 0x4, 1⟩
  else if k < 119 then ⟨0x410024, 0x4, 1, 0x4, 1⟩
  else ⟨0x410028, 0x4, 1, 0x4, 1⟩
  else if k < 122 then if k < 121 then ⟨0x41002c, 0x4, 1, 0x4, 1⟩
  else ⟨0x410030, 0x4, 1, 0x4, 1⟩
  else if k < 123 then ⟨0x410034, 0x4, 1, 0x4, 1⟩
  else ⟨0x410038, 0x4, 1, 0x4, 1⟩
  else if k < 186 then if k < 155 then if k < 139 then if k < 131 then if k < 127 then if k < 125 then ⟨0x41003c, 0x4, 1, 0x4, 1⟩
  else if k < 126 then ⟨0x410040, 0x4, 1, 0x4, 1⟩
  else ⟨0x410044, 0x4, 1, 0x4, 1⟩
  else if k < 129 then if k < 128 then ⟨0x410048, 0x4, 1, 0x4, 1⟩
  else ⟨0x41004c, 0x4, 1, 0x4, 1⟩
  else if k < 130 then ⟨0x410050, 0x4, 1, 0x4, 1⟩
  else ⟨0x420000, 0x100, 1024, 0x4, 1⟩
  else if k < 135 then if k < 133 then if k < 132 then ⟨0x420004, 0x100, 1024, 0x4, 1⟩
  else ⟨0x420008, 0x100, 1024, 0x4, 1⟩
  else if k < 134 then ⟨0x42000c, 0x100, 1024, 0x4, 1⟩
  else ⟨0x420010, 0x100, 1024, 0x4, 1⟩
  else if k < 137 then if k < 136 then ⟨0x420014, 0x100, 1024, 0x4, 1⟩
  else ⟨0x420018, 0x100, 1024, 0x4, 1⟩
  else if k < 138 then ⟨0x420020, 0x100, 1024, 0x4, 1⟩
  else ⟨0x420024, 0x100, 1024, 0x4, 1⟩
  else if k < 147 then if k < 143 then if k < 141 then if k < 140 then ⟨0x420028, 0x100, 1024, 0x4, 1⟩
  else ⟨0x42002c, 0x100, 1024, 0x4, 1⟩
  else if k < 142 then ⟨0x420030, 0x100, 1024, 0x8, 25⟩
  else ⟨0x420034, 0x100, 1024, 0x8, 25⟩
  else if k < 145 then if k < 144 then ⟨0x4200f8, 0x100, 1024, 0x4, 1⟩
  else ⟨0x460000, 0x4, 1, 0x4, 1⟩
  else if k < 146 then ⟨0x460004, 0x4, 1, 0x4, 1⟩
  else ⟨0x460008, 0x4, 1, 0x4, 1⟩
  else if k < 151 then if k < 149 then if k < 148 then ⟨0x460010, 0x4, 1, 0x4, 1⟩
  else ⟨0x460014, 0x4, 1, 0x4, 1⟩
  else if k < 150 then ⟨0x460018, 0x4, 1, 0x4, 1⟩
  else ⟨0x46001c, 0x4, 1, 0x4, 1⟩
  else if k < 153 then if k < 152 then ⟨0x460020, 0x4, 1, 0x4, 1⟩
  else ⟨0x460024, 0x4, 1, 0x4, 1⟩
  else if k < 154 then ⟨0x460028, 0x4, 1, 0x4, 1⟩
  else ⟨0x46002c, 0x4, 1, 0x4, 1⟩
  else if k < 170 then if k < 162 then if k < 158 then if k < 156 then ⟨0x460030, 0x4, 1, 0x4, 1⟩
  else if k < 157 then ⟨0x460034, 0x4, 1, 0x4, 1⟩
  else ⟨0x460040, 0x10, 4, 0x4, 1⟩
  else if k < 160 then if k < 159 then ⟨0x460044, 0x10, 4, 0x4, 1⟩
  else ⟨0x460048, 0x10, 4, 0x4, 1⟩
  else if k < 161 then ⟨0x46004c, 0x10, 4, 0x4, 1⟩
  else ⟨0x460080, 0x20, 2, 0x4, 1⟩
  else if k < 166 then if k < 164 then if k < 163 then ⟨0x460084, 0x20, 2, 0x4, 1⟩
  else ⟨0x460088, 0x20, 2, 0x4, 1⟩
  else if k < 165 then ⟨0x46008c, 0x20, 2, 0x4, 1⟩
  else ⟨0x460090, 0x20, 2, 0x4, 1⟩
  else if k < 168 then if k < 167 then ⟨0x460094, 0x20, 2, 0x4, 1⟩
  else ⟨0x460098, 0x20, 2, 0x4, 1⟩
  else if k < 169 then ⟨0x46009c, 0x20, 2, 0x4, 1⟩
  else ⟨0x4600c0, 0x4, 1, 0x4, 1⟩
  else if k < 178 then if k < 174 then if k < 172 then if k < 171 then ⟨0x4600c4, 0x4, 1, 0x4, 1⟩
  else ⟨0x460100, 0x20, 8, 0x4, 1⟩
  else if k < 173 then ⟨0x460104, 0x20, 8, 0x4, 1⟩
  else ⟨0x460108, 0x20, 8, 0x4, 1⟩
  else if k < 176 then if k < 175 then ⟨0x46010c, 0x20, 8, 0x4, 1⟩
  else ⟨0x460110, 0x20, 8, 0x4, 1⟩
  else if k < 177 then ⟨0x460114, 0x20, 8, 0x4, 1⟩
  else ⟨0x460118, 0x20, 8, 0x4, 1⟩
  else if k < 182 then if k < 180 then if k < 179 then ⟨0x460200, 0x4, 1, 0x4, 1⟩
  else ⟨0x460204, 0x4, 1, 0x4, 1⟩
  else if k < 181 then ⟨0x460208, 0x4, 1, 0x4, 1⟩
  else ⟨0x46020c, 0x4, 1, 0x4, 1⟩
  else if k < 184 then if k < 183 then ⟨0x460210, 0x4, 1, 0x4, 1⟩
  else ⟨0x460214, 0x4, 1, 0x4, 1⟩
  else if k < 185 then ⟨0x460218, 0x4, 1, 0x4, 1⟩
  else ⟨0x46021c, 0x4, 1, 0x4, 1⟩
  else if k < 217 then if k < 201 then if k < 193 then if k < 189 then if k < 187 then ⟨0x460220, 0x4, 1, 0x4, 1⟩
  else if k < 188 then ⟨0x460224, 0x4, 1, 0x4, 1⟩
  else ⟨0x460228, 0x4, 1, 0x4, 1⟩
  else if k < 191 then if k < 190 then ⟨0x46022c, 0x4, 1, 0x4, 1⟩
  else ⟨0x460300, 0x4, 32, 0x4, 1⟩
  else if k < 192 then ⟨0x470000, 0x40, 1024, 0x4, 1⟩
  else ⟨0x470004, 0x40, 1024, 0x4, 1⟩
  else if k < 197 then if k < 195 then if k < 194 then ⟨0x470008, 0x40, 1024, 0x4, 1⟩
  else ⟨0x47000c, 0x40, 1024, 0x4, 1⟩
  else if k < 196 then ⟨0x470010, 0x40, 1024, 0x4, 1⟩
  else ⟨0x470014, 0x40, 1024, 0x4, 1⟩
  else if k < 199 then if k < 198 then ⟨0x470018, 0x40, 1024, 0x4, 1⟩
  else ⟨0x47001c, 0x40, 1024, 0x4, 1⟩
  else if k < 200 then ⟨0x470020, 0x40, 1024, 0x4, 1⟩
  else ⟨0x470024, 0x40, 1024, 0x4, 1⟩
  else if k < 209 then if k < 205 then if k < 203 then if k < 202 then ⟨0x470028, 0x40, 1024, 0x4, 1⟩
  else ⟨0x47002c, 0x40, 1024, 0x4, 1⟩
  else if k < 204 then ⟨0x470030, 0x40, 1024, 0x4, 1⟩
  else ⟨0x470034, 0x40, 1024, 0x4, 1⟩
  else if k < 207 then if k < 206 then ⟨0x470038, 0x40, 1024, 0x4, 1⟩
  else ⟨0x47003c, 0x40, 1024, 0x4, 1⟩
  else if k < 208 then ⟨0x480000, 0x10, 40960, 0x4, 1⟩
  else ⟨0x480004, 0x10, 40960, 0x4, 1⟩
  else if k < 213 then if k < 211 then if k < 210 then ⟨0x480008, 0x10, 40960, 0x4, 1⟩
  else ⟨0x48000c, 0x10, 40960, 0x4, 1⟩
  else if k < 212 then ⟨0x520000, 0x4, 1, 0x4, 1⟩
  else ⟨0x520004, 0x4, 1, 0x4, 1⟩
  else if k < 215 then if k < 214 then ⟨0x520008, 0x4, 1, 0x4, 1⟩
  else ⟨0x52000c, 0x4, 1, 0x4, 1⟩
  else if k < 216 then ⟨0x520010, 0x4, 1, 0x4, 1⟩
  else ⟨0x520014, 0x4, 1, 0x4, 1⟩
  else if k < 233 then if k < 225 then if k < 221 then if k < 219 then if k < 218 then ⟨0x520018, 0x4, 4, 0x4, 1⟩
  else ⟨0x520028, 0x4, 1, 0x4, 1⟩
  else if k < 220 then ⟨0x520100, 0x20, 2, 0x4, 1⟩
  else ⟨0x520104, 0x20, 2, 0x4, 1⟩
  else if k < 223 then if k < 222 then ⟨0x520108, 0x20, 2, 0x4, 1⟩
  else ⟨0x52010c, 0x20, 2, 0x4, 1⟩
  else if k < 224 then ⟨0x520110, 0x20, 2, 0x4, 1⟩
  else ⟨0x520114, 0x20, 2, 0x4, 1⟩
  else if k < 229 then if k < 227 then if k < 226 then ⟨0x520200, 0x20, 8, 0x4, 1⟩
  else ⟨0x520204, 0x20, 8, 0x4, 4⟩
  else if k < 228 then ⟨0x521000, 0x100, 16, 0x4, 1⟩
  else ⟨0x521004, 0x100, 16, 0x4, 1⟩
  else if k < 231 then if k < 230 then ⟨0x521008, 0x100, 16, 0x4, 1⟩
  else ⟨0x52100c, 0x100, 16, 0x4, 1⟩
  else if k < 232 then ⟨0x521024, 0x100, 16, 0x4, 1⟩
  else ⟨0x521010, 0x100, 16, 0x4, 1⟩
  else if k < 241 then if k < 237 then if k < 235 then if k < 234 then ⟨0x521014, 0x100, 16, 0x4, 1⟩
  else ⟨0x521018, 0x100, 16, 0x4, 1⟩
  else if k < 236 then ⟨0x52101c, 0x100, 16, 0x4, 1⟩
  else ⟨0x521020, 0x100, 16, 0x4, 1⟩
  else if k < 239 then if k < 238 then ⟨0x521040, 0x100, 16, 0x10, 8⟩
  else ⟨0x521044, 0x100, 16, 0x10, 8⟩
  else if k < 240 then ⟨0x521048, 0x100, 16, 0x10, 8⟩
  else ⟨0x52104c, 0x100, 16, 0x10, 8⟩
  else if k < 245 then if k < 243 then if k < 242 then ⟨0x524000, 0x40, 128, 0x4, 1⟩
  else ⟨0x524004, 0x40, 128, 0x4, 1⟩
  else if k < 244 then ⟨0x524008, 0x40, 128, 0x4, 1⟩
  else ⟨0x52400c, 0x40, 128, 0x4, 1⟩
  else if k < 247 then if k < 246 then ⟨0x524010, 0x40, 128, 0x4, 1⟩
  else ⟨0x524014, 0x40, 128, 0x4, 1⟩
  else if k < 248 then ⟨0x524018, 0x40, 128, 0x4, 1⟩
  else ⟨0x52401c, 0x40, 128, 0x4, 1⟩
  else if k < 374 then if k < 311 then if k < 280 then if k < 264 then if k < 256 then if k < 252 then if k < 250 then ⟨0x524020, 0x40, 128, 0x4, 1⟩
  else if k < 251 then ⟨0x524024, 0x40, 128, 0x4, 1⟩
  else ⟨0x524028, 0x40, 128, 0x4, 1⟩
  else if k < 254 then if k < 253 then ⟨0x528000, 0x20, 128, 0x4, 1⟩
  else ⟨0x528004, 0x20, 128, 0x4, 1⟩
  else if k < 255 then ⟨0x528008, 0x20, 128, 0x4, 1⟩
  else ⟨0x52800c, 0x20, 128, 0x4, 1⟩
  else if k < 260 then if k < 258 then if k < 257 then ⟨0x528010, 0x20, 128, 0x4, 1⟩
  else ⟨0x528014, 0x20, 128, 0x4, 1⟩
  else if k < 259 then ⟨0x528018, 0x20, 128, 0x4, 1⟩
  else ⟨0x529000, 0x20, 16, 0x4, 1⟩
  else if k < 262 then if k < 261 then ⟨0x529004, 0x20, 16, 0x4, 1⟩
  else ⟨0x529008, 0x20, 16, 0x4, 1⟩
  else if k < 263 then ⟨0x52900c, 0x20, 16, 0x4, 1⟩
  else ⟨0x529010, 0x20, 16, 0x4, 1⟩
  else if k < 272 then if k < 268 then if k < 266 then if k < 265 then ⟨0x529014, 0x20, 16, 0x4, 1⟩
  else ⟨0x529018, 0x20, 16, 0x4, 1⟩
  else if k < 267 then ⟨0x530000, 0x800, 16, 0x4, 1⟩
  else ⟨0x530004, 0x800, 16, 0x4, 1⟩
  else if k < 270 then if k < 269 then ⟨0x530008, 0x800, 16, 0x4, 1⟩
  else ⟨0x53000c, 0x800, 16, 0x4, 1⟩
  else if k < 271 then ⟨0x530010, 0x800, 16, 0x4, 1⟩
  else ⟨0x530014, 0x800, 16, 0x4, 1⟩
  else if k < 276 then if k < 274 then if k < 273 then ⟨0x530018, 0x800, 16, 0x4, 1⟩
  else ⟨0x53001c, 0x800, 16, 0x4, 1⟩
  else if k < 275 then ⟨0x530020, 0x800, 16, 0x4, 1⟩
  else ⟨0x530024, 0x800, 16, 0x4, 1⟩
  else if k < 278 then if k < 277 then ⟨0x530100, 0x800, 16, 0x40, 16⟩
  else ⟨0x530104, 0x800, 16, 0x40, 16⟩
  else if k < 279 then ⟨0x530108, 0x800, 16, 0x40, 16⟩
  else ⟨0x53010c, 0x800, 16, 0x40, 16⟩
  else if k < 295 then if k < 287 then if k < 283 then if k < 281 then ⟨0x530110, 0x800, 16, 0x40, 16⟩
  else if k < 282 then ⟨0x530114, 0x800, 16, 0x40, 16⟩
  else ⟨0x530118, 0x800, 16, 0x40, 16⟩
  else if k < 285 then if k < 284 then ⟨0x53011c, 0x800, 16, 0x40, 16⟩
  else ⟨0x530120, 0x800, 16, 0x40, 16⟩
  else if k < 286 then ⟨0x530124, 0x800, 16, 0x40, 16⟩
  else ⟨0x530128, 0x800, 16, 0x40, 16⟩
  else if k < 291 then if k < 289 then if k < 288 then ⟨0x53012c, 0x800, 16, 0x40, 16⟩
  else ⟨0x540000, 0x4, 1, 0x4, 1⟩
  else if k < 290 then ⟨0x540004, 0x4, 1, 0x4, 1⟩
  else ⟨0x540008, 0x4, 2, 0x4, 1⟩
  else if k < 293 then if k < 292 then ⟨0x540010, 0x4, 1, 0x4, 1⟩
  else ⟨0x540014, 0x4, 1, 0x4, 1⟩
  else if k < 294 then ⟨0x540018, 0x4, 1, 0x4, 1⟩
  else ⟨0x540100, 0x40, 8, 0x4, 1⟩
  else if k < 303 then if k < 299 then if k < 297 then if k < 296 then ⟨0x540104, 0x40, 8, 0x4, 1⟩
  else ⟨0x540108, 0x40, 8, 0x4, 1⟩
  else if k < 298 then ⟨0x54010c, 0x40, 8, 0x4, 1⟩
  else ⟨0x540110, 0x40, 8, 0x4, 1⟩
  else if k < 301 then if k < 300 then ⟨0x540114, 0x40, 8, 0x4, 1⟩
  else ⟨0x540118, 0x40, 8, 0x4, 1⟩
  else if k < 302 then ⟨0x54011c, 0x40, 8, 0x4, 1⟩
  else ⟨0x540120, 0x40, 8, 0x4, 1⟩
  else if k < 307 then if k < 305 then if k < 304 then ⟨0x540300, 0x20, 8, 0x4, 1⟩
  else ⟨0x540304, 0x20, 8, 0x4, 1⟩
  else if k < 306 then ⟨0x540308, 0x20, 8, 0x4, 1⟩
  else ⟨0x54030c, 0x20, 8, 0x4, 1⟩
  else if k < 309 then if k < 308 then ⟨0x540310, 0x20, 8, 0x4, 1⟩
  else ⟨0x540314, 0x20, 8, 0x4, 1⟩
  else if k < 310 then ⟨0x540400, 0x4, 64, 0x4, 1⟩
  else ⟨0x540500, 0x4, 64, 0x4, 1⟩
  else if k < 342 then if k < 326 then if k < 318 then if k < 314 then if k < 312 then ⟨0x541000, 0x100, 64, 0x4, 1⟩
  else if k < 313 then ⟨0x541004, 0x100, 64, 0x4, 1⟩
  else ⟨0x541008, 0x100, 64, 0x4, 1⟩
  else if k < 316 then if k < 315 then ⟨0x54100c, 0x100, 64, 0x4, 1⟩
  else ⟨0x541010, 0x100, 64, 0x4, 1⟩
  else if k < 317 then ⟨0x541014, 0x100, 64, 0x4, 1⟩
  else ⟨0x541018, 0x100, 64, 0x4, 1⟩
  else if k < 322 then if k < 320 then if k < 319 then ⟨0x54101c, 0x100, 64, 0x4, 1⟩
  else ⟨0x541020, 0x100, 64, 0x4, 8⟩
  else if k < 321 then ⟨0x541040, 0x100, 64, 0x4, 1⟩
  else ⟨0x541044, 0x100, 64, 0x4, 1⟩
  else if k < 324 then if k < 323 then ⟨0x541048, 0x100, 64, 0x4, 1⟩
  else ⟨0x54104c, 0x100, 64, 0x4, 1⟩
  else if k < 325 then ⟨0x541050, 0x100, 64, 0x4, 1⟩
  else ⟨0x541060, 0x100, 64, 0x4, 16⟩
  else if k < 334 then if k < 330 then if k < 328 then if k < 327 then ⟨0x5410a0, 0x100, 64, 0x8, 8⟩
  else ⟨0x5410a4, 0x100, 64, 0x8, 8⟩
  else if k < 329 then ⟨0x548000, 0x400, 16, 0x4, 256⟩
  else ⟨0x550000, 0x4000, 8, 0x4, 4096⟩
  else if k < 332 then if k < 331 then ⟨0x570000, 0x4, 8192, 0x4, 1⟩
  else ⟨0x578000, 0x100, 64, 0x4, 64⟩
  else if k < 333 then ⟨0x57c000, 0x100, 64, 0x4, 64⟩
  else ⟨0x580000, 0x4, 1, 0x4, 1⟩
  else if k < 338 then if k < 336 then if k < 335 then ⟨0x580004, 0x4, 1, 0x4, 1⟩
  else ⟨0x580008, 0x4, 1, 0x4, 1⟩
  else if k < 337 then ⟨0x58000c, 0x4, 1, 0x4, 1⟩
  else ⟨0x580100, 0x40, 32, 0x4, 1⟩
  else if k < 340 then if k < 339 then ⟨0x580104, 0x40, 32, 0x4, 1⟩
  else ⟨0x580108, 0x40, 32, 0x4, 1⟩
  else if k < 341 then ⟨0x58010c, 0x40, 32, 0x4, 1⟩
  else ⟨0x580110, 0x40, 32, 0x4, 1⟩
  else if k < 358 then if k < 350 then if k < 346 then if k < 344 then if k < 343 then ⟨0x580114, 0x40, 32, 0x4, 1⟩
  else ⟨0x580118, 0x40, 32, 0x4, 1⟩
  else if k < 345 then ⟨0x58011c, 0x40, 32, 0x4, 1⟩
  else ⟨0x580120, 0x40, 32, 0x4, 1⟩
  else if k < 348 then if k < 347 then ⟨0x580124, 0x40, 32, 0x4, 1⟩
  else ⟨0x580128, 0x40, 32, 0x4, 1⟩
  else if k < 349 then ⟨0x58012c, 0x40, 32, 0x4, 1⟩
  else ⟨0x580130, 0x40, 32, 0x4, 1⟩
  else if k < 354 then if k < 352 then if k < 351 then ⟨0x590000, 0x4, 1, 0x4, 1⟩
  else ⟨0x590004, 0x4, 1, 0x4, 1⟩
  else if k < 353 then ⟨0x590008, 0x4, 1, 0x4, 1⟩
  else ⟨0x59000c, 0x4, 1, 0x4, 1⟩
  else if k < 356 then if k < 355 then ⟨0x590010, 0x4, 1, 0x4, 1⟩
  else ⟨0x59002c, 0x4, 1, 0x4, 1⟩
  else if k < 357 then ⟨0x590014, 0x4, 2, 0x4, 1⟩
  else ⟨0x59001c, 0x4, 2, 0x4, 1⟩
  else if k < 366 then if k < 362 then if k < 360 then if k < 359 then ⟨0x590024, 0x4, 2, 0x4, 1⟩
  else ⟨0x590100, 0x10, 64, 0x4, 1⟩
  else if k < 361 then ⟨0x590104, 0x10, 64, 0x4, 1⟩
  else ⟨0x590108, 0x10, 64, 0x4, 1⟩
  else if k < 364 then if k < 363 then ⟨0x59010c, 0x10, 64, 0x4, 1⟩
  else ⟨0x590600, 0x40, 32, 0x4, 1⟩
  else if k < 365 then ⟨0x590604, 0x40, 32, 0x4, 1⟩
  else ⟨0x590608, 0x40, 32, 0x4, 1⟩
  else if k < 370 then if k < 368 then if k < 367 then ⟨0x59060c, 0x40, 32, 0x4, 1⟩
  else ⟨0x590610, 0x40, 32, 0x4, 1⟩
  else if k < 369 then ⟨0x590614, 0x40, 32, 0x4, 1⟩
  else ⟨0x590618, 0x40, 32, 0x4, 1⟩
  else if k < 372 then if k < 371 then ⟨0x59061c, 0x40, 32, 0x4, 1⟩
  else ⟨0x590620, 0x40, 32, 0x4, 1⟩
  else if k < 373 then ⟨0x590624, 0x40, 32, 0x4, 1⟩
  else ⟨0x5a0000, 0x4, 1, 0x4, 1⟩
  else if k < 436 then if k < 405 then if k < 389 then if k < 381 then if k < 377 then if k < 375 then ⟨0x5a0004, 0x4, 1, 0x4, 1⟩
  else if k < 376 then ⟨0x5a0100, 0x100, 6, 0x4, 1⟩
  else ⟨0x5a0104, 0x100, 6, 0x4, 1⟩
  else if k < 379 then if k < 378 then ⟨0x5a0108, 0x100, 6, 0x4, 1⟩
  else ⟨0x5a010c, 0x100, 6, 0x4, 1⟩
  else if k < 380 then ⟨0x5a0110, 0x100, 6, 0x4, 1⟩
  else ⟨0x5a0114, 0x100, 6, 0x4, 1⟩
  else if k < 385 then if k < 383 then if k < 382 then ⟨0x5a0118, 0x100, 6, 0x4, 1⟩
  else ⟨0x5a011c, 0x100, 6, 0x4, 1⟩
  else if k < 384 then ⟨0x5a0120, 0x100, 6, 0x4, 1⟩
  else ⟨0x5a0124, 0x100, 6, 0x4, 1⟩
  else if k < 387 then if k < 386 then ⟨0x5a0128, 0x100, 6, 0x4, 1⟩
  else ⟨0x5a012c, 0x100, 6, 0x4, 1⟩
  else if k < 388 then ⟨0x5a0130, 0x100, 6, 0x4, 1⟩
  else ⟨0x5a0134, 0x100, 6, 0x4, 1⟩
  else if k < 397 then if k < 393 then if k < 391 then if k < 390 then ⟨0x5a0138, 0x100, 6, 0x4, 1⟩
  else ⟨0x5a013c, 0x100, 6, 0x4, 1⟩
  else if k < 392 then ⟨0x5a0140, 0x100, 6, 0x4, 1⟩
  else ⟨0x5a0144, 0x100, 6, 0x4, 1⟩
  else if k < 395 then if k < 394 then ⟨0x5a0148, 0x100, 6, 0x4, 1⟩
  else ⟨0x5a014c, 0x100, 6, 0x4, 1⟩
  else if k < 396 then ⟨0x5a0150, 0x100, 6, 0x4, 1⟩
  else ⟨0x5a0154, 0x100, 6, 0x4, 1⟩
  else if k < 401 then if k < 399 then if k < 398 then ⟨0x5a0158, 0x100, 6, 0x4, 1⟩
  else ⟨0x5a015c, 0x100, 6, 0x4, 1⟩
  else if k < 400 then ⟨0x5a0160, 0x100, 6, 0x4, 1⟩
  else ⟨0x5a0164, 0x100, 6, 0x4, 1⟩
  else if k < 403 then if k < 402 then ⟨0x5a0168, 0x100, 6, 0x4, 1⟩
  else ⟨0x5a016c, 0x100, 6, 0x4, 1⟩
  else if k < 404 then ⟨0x5a1000, 0x80, 16, 0x4, 1⟩
  else ⟨0x5a1004, 0x80, 16, 0x4, 1⟩
  else if k < 420 then if k < 412 then if k < 408 then if k < 406 then ⟨0x5a1008, 0x80, 16, 0x4, 1⟩
  else if k < 407 then ⟨0x5a100c, 0x80, 16, 0x4, 1⟩
  else ⟨0x5a1010, 0x80, 16, 0x4, 1⟩
  else if k < 410 then if k < 409 then ⟨0x5a1014, 0x80, 16, 0x4, 1⟩
  else ⟨0x5a1018, 0x80, 16, 0x4, 1⟩
  else if k < 411 then ⟨0x5a101c, 0x80, 16, 0x4, 1⟩
  else ⟨0x5a1020, 0x80, 16, 0x4, 16⟩
  else if k < 416 then if k < 414 then if k < 413 then ⟨0x5b0000, 0x4, 1, 0x4, 1⟩
  else ⟨0x5b0004, 0x4, 1, 0x4, 1⟩
  else if k < 415 then ⟨0x5b0008, 0x4, 1, 0x4, 1⟩
  else ⟨0x5b000c, 0x4, 1, 0x4, 1⟩
  else if k < 418 then if k < 417 then ⟨0x5b0010, 0x4, 1, 0x4, 1⟩
  else ⟨0x5b0020, 0x4, 4, 0x4, 1⟩
  else if k < 419 then ⟨0x5b0040, 0x4, 1, 0x4, 1⟩
  else ⟨0x5b1000, 0x20, 1024, 0x4, 1⟩
  else if k < 428 then if k < 424 then if k < 422 then if k < 421 then ⟨0x5b1004, 0x20, 1024, 0x4, 1⟩
  else ⟨0x5b1008, 0x20, 1024, 0x4, 1⟩
  else if k < 423 then ⟨0x5b100c, 0x20, 1024, 0x4, 1⟩
  else ⟨0x5b1010, 0x20, 1024, 0x4, 1⟩
  else if k < 426 then if k < 425 then ⟨0x5b1014, 0x20, 1024, 0x4, 1⟩
  else ⟨0x5b1018, 0x20, 1024, 0x4, 1⟩
  else if k < 427 then ⟨0x5be000, 0x4, 1024, 0x4, 1⟩
  else ⟨0x5ba000, 0x10, 64, 0x4, 1⟩
  else if k < 432 then if k < 430 then if k < 429 then ⟨0x5ba004, 0x10, 64, 0x4, 1⟩
  else ⟨0x5ba008, 0x10, 64, 0x4, 1⟩
  else if k < 431 then ⟨0x5ba00c, 0x10, 64, 0x4, 1⟩
  else ⟨0x5bb000, 0x4, 2, 0x4, 1⟩
  else if k < 434 then if k < 433 then ⟨0x5bc000, 0x10, 64, 0x4, 1⟩
  else ⟨0x5bc004, 0x10, 64, 0x4, 1⟩
  else if k < 435 then ⟨0x5bc008, 0x10, 64, 0x4, 1⟩
  else ⟨0x5bc00c, 0x10, 64, 0x4, 1⟩
  else if k < 467 then if k < 451 then if k < 443 then if k < 439 then if k < 437 then ⟨0x5bd000, 0x4, 2, 0x4, 1⟩
  else if k < 438 then ⟨0x5c0000, 0x4, 1, 0x4, 1⟩
  else ⟨0x5c0004, 0x4, 1, 0x4, 1⟩
  else if k < 441 then if k < 440 then ⟨0x5c0008, 0x4, 1, 0x4, 1⟩
  else ⟨0x5c000c, 0x4, 1, 0x4, 1⟩
  else if k < 442 then ⟨0x5c0010, 0x4, 1, 0x4, 1⟩
  else ⟨0x5c0014, 0x4, 1, 0x4, 1⟩
  else if k < 447 then if k < 445 then if k < 444 then ⟨0x5c0018, 0x4, 1, 0x4, 1⟩
  else ⟨0x5c001c, 0x4, 1, 0x4, 1⟩
  else if k < 446 then ⟨0x5c0020, 0x4, 1, 0x4, 1⟩
  else ⟨0x5c0024, 0x4, 1, 0x4, 1⟩
  else if k < 449 then if k < 448 then ⟨0x5c0028, 0x4, 1, 0x4, 1⟩
  else ⟨0x5c002c, 0x4, 1, 0x4, 1⟩
  else if k < 450 then ⟨0x5c0030, 0x4, 1, 0x4, 1⟩
  else ⟨0x5c0034, 0x4, 1, 0x4, 1⟩
  else if k < 459 then if k < 455 then if k < 453 then if k < 452 then ⟨0x5c0100, 0x10, 5, 0x4, 1⟩
  else ⟨0x5c0104, 0x10, 5, 0x4, 1⟩
  else if k < 454 then ⟨0x5c0108, 0x10, 5, 0x4, 1⟩
  else ⟨0x5c010c, 0x10, 5, 0x4, 1⟩
  else if k < 457 then if k < 456 then ⟨0x5d0000, 0x4, 1, 0x4, 1⟩
  else ⟨0x5d0004, 0x4, 1, 0x4, 1⟩
  else if k < 458 then ⟨0x5d0008, 0x4, 1, 0x4, 1⟩
  else ⟨0x5d000c, 0x4, 1, 0x4, 1⟩
  else if k < 463 then if k < 461 then if k < 460 then ⟨0x5d0010, 0x4, 1, 0x4, 1⟩
  else ⟨0x5d0014, 0x4, 1, 0x4, 1⟩
  else if k < 462 then ⟨0x5d0018, 0x4, 1, 0x4, 1⟩
  else ⟨0x5d001c, 0x4, 1, 0x4, 1⟩
  else if k < 465 then if k < 464 then ⟨0x5d0020, 0x4, 1, 0x4, 1⟩
  else ⟨0x5d0024, 0x4, 1, 0x4, 1⟩
  else if k < 466 then ⟨0x5d0028, 0x4, 1, 0x4, 1⟩
  else ⟨0x5d002c, 0x4, 1, 0x4, 1⟩
  else if k < 483 then if k < 475 then if k < 471 then if k < 469 then if k < 468 then ⟨0x5d0030, 0x4, 1, 0x4, 1⟩
  else ⟨0x5d0034, 0x4, 1, 0x4, 1⟩
  else if k < 470 then ⟨0x5d0038, 0x4, 1, 0x4, 1⟩
  else ⟨0x5d003c, 0x4, 1, 0x4, 1⟩
  else if k < 473 then if k < 472 then ⟨0x5d0040, 0x4, 1, 0x4, 1⟩
  else ⟨0x5d0044, 0x4, 1, 0x4, 1⟩
  else if k < 474 then ⟨0x5e0000, 0x4, 1, 0x4, 1⟩
  else ⟨0x5e0004, 0x4, 1, 0x4, 1⟩
  else if k < 479 then if k < 477 then if k < 476 then ⟨0x5e0008, 0x4, 1, 0x4, 1⟩
  else ⟨0x5e000c, 0x4, 1, 0x4, 1⟩
  else if k < 478 then ⟨0x5e0010, 0x4, 1, 0x4, 1⟩
  else ⟨0x5e0014, 0x4, 1, 0x4, 1⟩
  else if k < 481 then if k < 480 then ⟨0x5e0018, 0x4, 1, 0x4, 1⟩
  else ⟨0x5e0020, 0x4, 1, 0x4, 1⟩
  else if k < 482 then ⟨0x5e0024, 0x4, 1, 0x4, 1⟩
  else ⟨0x5e0028, 0x4, 1, 0x4, 1⟩
  else if k < 491 then if k < 487 then if k < 485 then if k < 484 then ⟨0x5e002c, 0x4, 1, 0x4, 1⟩
  else ⟨0x5e0030, 0x4, 1, 0x4, 1⟩
  else if k < 486 then ⟨0x5e0040, 0x4, 1, 0x4, 1⟩
  else ⟨0x5e0044, 0x4, 1, 0x4, 1⟩
  else if k < 489 then if k < 488 then ⟨0x5e0048, 0x4, 1, 0x4, 1⟩
  else ⟨0x5e0100, 0x4, 1, 0x4, 1⟩
  else if k < 490 then ⟨0x5e0104, 0x4, 1, 0x4, 1⟩
  else ⟨0x5e0108, 0x4, 1, 0x4, 1⟩
  else if k < 495 then if k < 493 then if k < 492 then ⟨0x5e0200, 0x10, 64, 0x4, 1⟩
  else ⟨0x5e0204, 0x10, 64, 0x4, 1⟩
  else if k < 494 then ⟨0x5e0208, 0x10, 64, 0x4, 1⟩
  else ⟨0x5e0600, 0x4, 1, 0x4, 1⟩
  else if k < 497 then if k < 496 then ⟨0x5e0604, 0x4, 1, 0x4, 1⟩
  else ⟨0x5e0608, 0x4, 1, 0x4, 1⟩
  else if k < 498 then ⟨0x5e1000, 0x10, 1024, 0x4, 4⟩
  else ⟨0, 0, 0, 0, 0⟩

/-- Row `k` holds the register at `a`. -/
def rowHolds (k a : Nat) : Bool := (rowDims k).holds a

/-- The mask admits the register at `a`. -/
def RowsHave (m a : Nat) : Prop := ∃ k, k < 512 ∧ m.testBit k = true ∧ rowHolds k a = true

/-- The bit of a part in a mask. -/
def Part.bit (p : Part) : Nat := 512 + p.ctorIdx

/-- One mask lies in another. -/
def sub (a b : Nat) : Prop := a &&& b = a

theorem sub_le {a b m : Nat} (h : a &&& b = a) (k : sub b m) : sub a m := by
  unfold sub at *
  rw [← h, Nat.and_assoc, k]

theorem sub_bit {a m k : Nat} (h : sub a m) (hk : a.testBit k = true) : m.testBit k = true := by
  unfold sub at h
  rw [← h, Nat.testBit_and, Bool.and_eq_true] at hk
  exact hk.2

/-- From `z` to `s` nothing changes but what the mask admits. -/
structure Within (m : Nat) (z s : State) : Prop where
  reg : ∀ a, (rowOf a).isSome = true → ¬ RowsHave m a → s.reg a = z.reg a
  part : ∀ p : Part, m.testBit p.bit = false → samePart z s p

theorem Within.refl (m : Nat) (z : State) : Within m z z := ⟨fun _ _ _ => rfl, fun p _ => by cases p <;> rfl⟩

/-- A part is admitted or the same. -/
def PartOk {α : Type} (m k : Nat) (x y : α) : Prop := m.testBit k = true ∨ x = y

theorem partOk_refl {α : Type} (m k : Nat) (x : α) : PartOk m k x x := .inr rfl
theorem partOk_bit {α : Type} {m k : Nat} {x y : α} (h : m.testBit k = true) : PartOk m k x y := .inl h

theorem PartOk.same {α : Type} {m k : Nat} {x y w : α} (h : PartOk m k x y) (hk : m.testBit k = false) (e : y = w) : x = w := by
  rcases h with h | h
  · rw [hk] at h; cases h
  · exact h.trans e

/-- A state written out over one that is within the mask, each part of it admitted or the same. -/
theorem within_mk {m : Nat} {z s : State} {ft f a l tb gn po rc hp mp lg vd lk lp ls fd bp im rs pw} (h : Within m z s)
    (h1 : PartOk m 513 ft s.ft) (h3 : PartOk m 515 f s.free) (h4 : PartOk m 516 a s.answer) (h5 : PartOk m 517 l s.latch)
    (h6 : PartOk m 518 tb s.tb) (h7 : PartOk m 519 gn s.gn) (h8 : PartOk m 520 po s.po) (h9 : PartOk m 521 rc s.rc)
    (h10 : PartOk m 522 hp s.hp) (h11 : PartOk m 523 mp s.mp) (h12 : PartOk m 524 lg s.lg) (h13 : PartOk m 525 vd s.vd)
    (h14 : PartOk m 526 lk s.lk) (h15 : PartOk m 527 lp s.lp) (h16 : PartOk m 528 ls s.ls) (h17 : PartOk m 529 fd s.fd)
    (h18 : PartOk m 530 bp s.bp) (h19 : PartOk m 531 im s.im) (h20 : PartOk m 532 rs s.rs) (h21 : PartOk m 533 pw s.pw) :
    Within m z (State.mk s.variant ft s.pending f a s.regs l tb gn po rc hp mp lg vd lk lp ls fd bp im rs pw) where
  reg := h.reg
  part := fun p hp' => by
    have hq := h.part p hp'
    cases p with
    | variant => exact hq
    | pending => exact hq
    | ft => exact h1.same hp' hq
    | free => exact h3.same hp' hq
    | answer => exact h4.same hp' hq
    | latch => exact h5.same hp' hq
    | tb => exact h6.same hp' hq
    | gn => exact h7.same hp' hq
    | po => exact h8.same hp' hq
    | rc => exact h9.same hp' hq
    | hp => exact h10.same hp' hq
    | mp => exact h11.same hp' hq
    | lg => exact h12.same hp' hq
    | vd => exact h13.same hp' hq
    | lk => exact h14.same hp' hq
    | lp => exact h15.same hp' hq
    | ls => exact h16.same hp' hq
    | fd => exact h17.same hp' hq
    | bp => exact h18.same hp' hq
    | im => exact h19.same hp' hq
    | rs => exact h20.same hp' hq
    | pw => exact h21.same hp' hq

theorem within_ite {m : Nat} {z a b : State} {c : Prop} [Decidable c] (ha : Within m z a) (hb : Within m z b) :
    Within m z (if c then a else b) := by split <;> assumption

theorem within_ite_fst {α : Type} {m : Nat} {z : State} {a b : State × α} {c : Prop} [Decidable c] (ha : Within m z a.1) (hb : Within m z b.1) :
    Within m z (if c then a else b).1 := by split <;> assumption

theorem rows_if {m a b : Nat} {c : Prop} [Decidable c] (ha : RowsHave m a) (hb : RowsHave m b) :
    RowsHave m (if c then a else b) := by split <;> assumption

theorem rows_ite {m : Nat} {a b : Fld} {c : Prop} [Decidable c] (ha : RowsHave m a.addr) (hb : RowsHave m b.addr) :
    RowsHave m (if c then a else b).addr := by split <;> assumption

theorem within_foldl {α : Type} {m : Nat} {z : State} (f : State → α → State) (hf : ∀ t x, Within m z t → Within m z (f t x)) (l : List α)
    (s : State) (h : Within m z s) : Within m z (l.foldl f s) := by
  induction l generalizing s with
  | nil => exact h
  | cons x l ih => exact ih _ (hf s x h)

theorem within_foldl_fst {α β : Type} {m : Nat} {z : State} (f : State × β → α → State × β)
    (hf : ∀ t x, Within m z t.1 → Within m z (f t x).1) (l : List α) (s : State × β) (h : Within m z s.1) : Within m z (l.foldl f s).1 := by
  induction l generalizing s with
  | nil => exact h
  | cons x l ih => exact ih _ (hf s x h)

/-! Registers written at admitted addresses. -/

theorem State.setReg_touch {m : Nat} {z : State} (s : State) (a : Nat) (w : Word) (ha : RowsHave m a) (hz : Within m z s) :
    Within m z (s.setReg a w) where
  reg := fun b hd hb => by
    have hne : b ≠ a := fun e => hb (e ▸ ha)
    have : (s.setReg a w).reg b = s.reg b := sget_sset_other _ _ w hne
    rw [this]
    exact hz.reg b hd hb
  part := fun p hp => by
    have hq := hz.part p hp
    cases p <;> exact hq

theorem State.setFld_touch {m : Nat} {z : State} (s : State) (f : Fld) (v : Nat) (ha : RowsHave m f.addr) (hz : Within m z s) :
    Within m z (s.setFld f v) := State.setReg_touch s _ _ ha hz

theorem State.setSfld_touch {m : Nat} {z : State} (s : State) (f : Fld) (v : Int) (ha : RowsHave m f.addr) (hz : Within m z s) :
    Within m z (s.setSfld f v) := State.setReg_touch s _ _ ha hz

theorem State.setBit_touch {m : Nat} {z : State} (s : State) (f : Fld) (b : Bool) (ha : RowsHave m f.addr) (hz : Within m z s) :
    Within m z (s.setBit f b) := State.setReg_touch s _ _ ha hz

theorem State.bump_touch {m : Nat} {z : State} (s : State) (f : Fld) (n : Nat) (ha : RowsHave m f.addr) (hz : Within m z s) :
    Within m z (s.bump f n) := State.setReg_touch s _ _ ha hz

theorem State.bumpWrap_touch {m : Nat} {z : State} (s : State) (f : Fld) (n : Nat) (ha : RowsHave m f.addr) (hz : Within m z s) :
    Within m z (s.bumpWrap f n) := State.setReg_touch s _ _ ha hz

theorem State.setFbit_touch {m : Nat} {z : State} (s : State) (f : Fld) (i : Nat) (b : Bool) (ha : RowsHave m f.addr) (hz : Within m z s) :
    Within m z (s.setFbit f i b) := State.setReg_touch s _ _ ha hz

theorem State.setReg64_touch {m : Nat} {z : State} (s : State) (lo v : Nat) (ha : RowsHave m lo) (hb : RowsHave m (lo + 4)) (hz : Within m z s) :
    Within m z (s.setReg64 lo v) := State.setReg_touch _ _ _ hb (State.setReg_touch s _ _ ha hz)

theorem State.writeCodes_touch {m : Nat} {z : State} (s : State) (a v : Nat) (ha : RowsHave m a) (hz : Within m z s) :
    Within m z (s.writeCodes a v) := by
  unfold State.writeCodes
  split
  · exact State.setReg_touch s _ _ ha hz
  · exact hz

theorem State.clearRc_touch {m : Nat} {z : State} (s : State) (a : Nat) (ha : RowsHave m a) (hz : Within m z s) :
    Within m z (s.clearRc a) := by
  unfold State.clearRc
  split
  · exact State.setReg_touch s _ _ ha hz
  · exact hz

/-! Registers forgotten. -/

theorem sget_filter {α : Type} (d : Nat → α) (p : Nat × α → Bool) (a : Nat) (l : List (Nat × α)) (hp : ∀ v, p (a, v) = true) :
    sget d (l.filter p) a = sget d l a := by
  induction l with
  | nil => rfl
  | cons e l ih =>
    obtain ⟨k, v⟩ := e
    by_cases hk : k = a
    · subst hk
      simp [hp, sget]
    · by_cases hq : p (k, v) = true
      · simp [hq, sget, hk, ih]
      · simp [hq, sget, hk, ih]

/-- A defined register whose block's rows are all in a mask is admitted by it. -/
theorem has_defined {m0 m a : Nat} (hm : sub m0 m) (h : (rowOf a).isSome = true)
    (hall : (rowsAt a).all (fun r => (List.range 512).any (fun k => m0.testBit k && decide (r.dims = rowDims k))) = true) : RowsHave m a := by
  obtain ⟨r, hr⟩ := Option.isSome_iff_exists.mp h
  have hmem := List.mem_of_find?_eq_some hr
  have hh : r.holds a = true := by simpa using List.find?_some hr
  obtain ⟨k, hk, hb⟩ := List.any_eq_true.mp (List.all_eq_true.mp hall r hmem)
  rw [Bool.and_eq_true, decide_eq_true_eq] at hb
  exact ⟨k, List.mem_range.mp hk, sub_bit hm hb.1, by unfold rowHolds; rw [← hb.2]; exact hh⟩

theorem samePart.trans {s t u : State} {p : Part} (h : samePart s t p) (k : samePart t u p) : samePart s u p := by
  cases p <;> exact Eq.trans k h

/-- Registers that the mask admits back at their reset words, and parts that it admits. -/
theorem within_drop {m : Nat} {q : Nat → Bool} {z s t : State} (hz : Within m z s)
    (hall : ∀ a, q a = true → (rowOf a).isSome = true → RowsHave m a) (hv : t.variant = s.variant)
    (hr : t.regs = s.regs.filter (fun e => !q e.1)) (hp : ∀ p : Part, m.testBit p.bit = false → samePart s t p) : Within m z t where
  reg := fun a hd hn => by
    cases hc : q a with
    | true => exact absurd (hall a hc hd) hn
    | false =>
      have : t.reg a = s.reg a := by
        unfold State.reg
        rw [hr, hv]
        exact sget_filter _ _ a s.regs (fun v => by simp [hc])
      rw [this]
      exact hz.reg a hd hn
  part := fun p h => (hz.part p h).trans (hp p h)

/-- The registers of a range back at their reset words. -/
theorem within_forget {m lo hi : Nat} {z s t : State} (hz : Within m z s)
    (hall : ∀ a, inRange lo hi a = true → (rowOf a).isSome = true → RowsHave m a) (hv : t.variant = s.variant)
    (hr : t.regs = s.regs.filter (fun e => !(inRange lo hi e.1))) (hp : ∀ p : Part, m.testBit p.bit = false → samePart s t p) :
    Within m z t := within_drop hz hall hv hr hp

/-! Which addresses a row holds. -/

theorem holds_one {b s1 n1 s2 : Nat} (hs : 0 < s1) (hn : 0 < n1) (i : Nat) :
    Dims.holds ⟨b, s1, n1, s2, 1⟩ (b + s1 * (i % n1)) = true := by
  have h2 : s1 * (i % n1) / s1 = i % n1 := Nat.mul_div_cancel_left _ hs
  have h3 := Nat.mod_lt i hn
  simp [Dims.holds, RegRow.holds, h2, h3]

theorem holds_two {b s1 n1 s2 n2 : Nat} (h1 : 0 < s2) (hn : 0 < n1) (hm : 0 < n2) (hs : s2 * n2 ≤ s1) (i j : Nat) :
    Dims.holds ⟨b, s1, n1, s2, n2⟩ (b + s1 * (i % n1) + s2 * (j % n2)) = true := by
  have hj := Nat.mod_lt j hm
  have hi := Nat.mod_lt i hn
  have hlt : s2 * (j % n2) < s1 := Nat.lt_of_lt_of_le (Nat.mul_lt_mul_of_pos_left hj h1) hs
  have hs1 : 0 < s1 := Nat.lt_of_le_of_lt (Nat.zero_le _) hlt
  have hd : (s1 * (i % n1) + s2 * (j % n2)) / s1 = i % n1 := by
    rw [Nat.mul_add_div hs1, Nat.div_eq_of_lt hlt, Nat.add_zero]
  have he : (s1 * (i % n1) + s2 * (j % n2)) % s1 = s2 * (j % n2) := by
    rw [Nat.mul_add_mod, Nat.mod_eq_of_lt hlt]
  have hq : s2 * (j % n2) / s2 = j % n2 := Nat.mul_div_cancel_left _ h1
  have hsub : b + s1 * (i % n1) + s2 * (j % n2) - b = s1 * (i % n1) + s2 * (j % n2) := by omega
  unfold Dims.holds RegRow.holds
  simp only [hsub]
  by_cases hn2 : n2 = 1
  · subst hn2
    have h0 : j % 1 = 0 := Nat.mod_one j
    have := holds_one (s2 := s2) (b := b) hs1 hn i
    simpa [Dims.holds, RegRow.holds, h0] using this
  · by_cases hn1 : n1 = 1
    · subst hn1
      have : i % 1 = 0 := Nat.mod_one i
      simp [hn2, this, hq, hj]
    · simp [hn2, hn1, hd, he, hq, hj, hi]
      omega

/-- A mask whose rows and parts an effect names bounds the effect. -/
theorem Effect.only_of_within {e : Effect} {m : Nat} {s t : State} (h : Within m s t)
    (hr : (List.range 512).all (fun k => !m.testBit k ||
      e.regs.any (fun f => match rowOf f.addr with | some r => decide (r.dims = rowDims k) | none => false)) = true)
    (hp : ∀ p : Part, m.testBit p.bit = true → p ∈ e.parts) : e.Only s t := by
  refine ⟨fun a hd ha => h.reg a hd ?_, fun p hn => h.part p ?_⟩
  · rintro ⟨k, hlt, hk, hh⟩
    have hx := List.all_eq_true.mp hr k (List.mem_range.mpr hlt)
    simp only [hk, Bool.not_true, Bool.false_or, List.any_eq_true] at hx
    obtain ⟨f, hf, hrow⟩ := hx
    have : e.covers a = true := by
      simp only [Effect.covers, List.any_eq_true]
      refine ⟨f, hf, ?_⟩
      split at hrow
      · rename_i r hr'
        have hd : r.dims = rowDims k := of_decide_eq_true hrow
        simp only [hr']
        have : r.dims.holds a = r.holds a := rfl
        rw [← this, hd]
        exact hh
      · cases hrow
    rw [this] at ha
    cases ha
  · cases hb : m.testBit p.bit with
    | false => rfl
    | true => exact absurd (hp p hb) hn

/-- Rows listed as the map numbers them, from row `k` on. -/
def rowsFrom : Nat → List RegRow → Bool
  | _, [] => true
  | k, r :: l => decide (r.dims = rowDims k) && rowsFrom (k + 1) l

theorem rowsFrom_mem {r : RegRow} : ∀ {l : List RegRow} {k : Nat}, rowsFrom k l = true → r ∈ l → ∃ j, j < k + l.length ∧ r.dims = rowDims j := by
  intro l
  induction l with
  | nil => intro k _ h; cases h
  | cons x l ih =>
    intro k h hr
    simp only [rowsFrom, Bool.and_eq_true, decide_eq_true_eq] at h
    rcases List.mem_cons.mp hr with rfl | hr
    · exact ⟨k, by simp, h.1⟩
    · obtain ⟨j, hj, e⟩ := ih h.2 hr
      exact ⟨j, by simp only [List.length_cons]; omega, e⟩

/-- Every row of a list is a row of the map. -/
def Mapped (l : List RegRow) : Prop := ∀ r ∈ l, ∃ j, j < 498 ∧ r.dims = rowDims j

theorem mapped_of {l : List RegRow} (k : Nat) (h : rowsFrom k l = true) (hk : k + l.length ≤ 498) : Mapped l :=
  fun _ hr => let ⟨j, hj, e⟩ := rowsFrom_mem h hr; ⟨j, Nat.lt_of_lt_of_le hj hk, e⟩

theorem mapped_ite {c : Prop} [Decidable c] {x y : List RegRow} (hx : Mapped x) (hy : Mapped y) : Mapped (if c then x else y) := by
  split <;> assumption

theorem rowsAt_mapped (a : Nat) : Mapped (rowsAt a) := by
  unfold rowsAt
  refine mapped_ite (mapped_of 0 (by decide +kernel) (by decide +kernel)) ?_
  refine mapped_ite (mapped_of 22 (by decide +kernel) (by decide +kernel)) ?_
  refine mapped_ite (mapped_of 49 (by decide +kernel) (by decide +kernel)) ?_
  refine mapped_ite (mapped_of 62 (by decide +kernel) (by decide +kernel)) ?_
  refine mapped_ite (mapped_of 85 (by decide +kernel) (by decide +kernel)) ?_
  refine mapped_ite (mapped_of 109 (by decide +kernel) (by decide +kernel)) ?_
  refine mapped_ite (mapped_of 130 (by decide +kernel) (by decide +kernel)) ?_
  refine mapped_ite (mapped_of 144 (by decide +kernel) (by decide +kernel)) ?_
  refine mapped_ite (mapped_of 191 (by decide +kernel) (by decide +kernel)) ?_
  refine mapped_ite (mapped_of 207 (by decide +kernel) (by decide +kernel)) ?_
  refine mapped_ite (mapped_of 211 (by decide +kernel) (by decide +kernel)) ?_
  refine mapped_ite (mapped_of 266 (by decide +kernel) (by decide +kernel)) ?_
  refine mapped_ite (mapped_of 288 (by decide +kernel) (by decide +kernel)) ?_
  refine mapped_ite (mapped_of 333 (by decide +kernel) (by decide +kernel)) ?_
  refine mapped_ite (mapped_of 350 (by decide +kernel) (by decide +kernel)) ?_
  refine mapped_ite (mapped_of 373 (by decide +kernel) (by decide +kernel)) ?_
  refine mapped_ite (mapped_of 412 (by decide +kernel) (by decide +kernel)) ?_
  refine mapped_ite (mapped_of 437 (by decide +kernel) (by decide +kernel)) ?_
  refine mapped_ite (mapped_of 455 (by decide +kernel) (by decide +kernel)) ?_
  refine mapped_ite (mapped_of 473 (by decide +kernel) (by decide +kernel)) ?_
  exact fun _ h => nomatch h

/-- The row of a defined register is a row of the map, and holds it. -/
theorem row_mapped {a : Nat} {r : RegRow} (h : rowOf a = some r) : ∃ k, k < 498 ∧ r.dims = rowDims k ∧ rowHolds k a = true := by
  obtain ⟨k, hk, e⟩ := rowsAt_mapped a r (List.mem_of_find?_eq_some h)
  exact ⟨k, hk, e, by unfold rowHolds; rw [← e]; exact (by simpa using List.find?_some h : r.holds a = true)⟩

/-- A mask of all rows admits every defined register. -/
theorem has_all {m a : Nat} (hm : sub 0x3ffffffffffffffffffffffffffffffffffffffffffffffffffffffffffffffffffffffffffffffffffffffffffffffffffffffffffffffffffffffffffff m) (h : (rowOf a).isSome = true) : RowsHave m a := by
  obtain ⟨r, hr⟩ := Option.isSome_iff_exists.mp h
  obtain ⟨k, hk, -, hh⟩ := row_mapped hr
  exact ⟨k, by omega, sub_bit hm ((show ∀ j < 498, Nat.testBit 0x3ffffffffffffffffffffffffffffffffffffffffffffffffffffffffffffffffffffffffffffffffffffffffffffffffffffffffffffffffffffffffffff j = true from by decide +kernel) k hk), hh⟩

end Sys2Proof.Machine
end

