-- ==== Sys2Proof/Laws/TouchMap.lean ====
section
/-! SUPPORT. The row of the register map that holds each register that an operation writes, as a bit of a mask. -/

namespace Sys2Proof.Machine

theorem has_CW_ID {m : Nat} (h : m.testBit 0 = true) (i : Nat) : RowsHave m (0x0 + 0x1000 * (i % 1024)) :=
  ⟨0, by decide, h, holds_one (by decide) (by decide) i⟩
theorem has_CW_SQ_BASE_LO {m : Nat} (h : m.testBit 1 = true) (i : Nat) : RowsHave m (0x8 + 0x1000 * (i % 1024)) :=
  ⟨1, by decide, h, holds_one (by decide) (by decide) i⟩
theorem has_CW_SQ_BASE_HI {m : Nat} (h : m.testBit 2 = true) (i : Nat) : RowsHave m (0xc + 0x1000 * (i % 1024)) :=
  ⟨2, by decide, h, holds_one (by decide) (by decide) i⟩
theorem has_CW_CQ_BASE_LO {m : Nat} (h : m.testBit 3 = true) (i : Nat) : RowsHave m (0x10 + 0x1000 * (i % 1024)) :=
  ⟨3, by decide, h, holds_one (by decide) (by decide) i⟩
theorem has_CW_CQ_BASE_HI {m : Nat} (h : m.testBit 4 = true) (i : Nat) : RowsHave m (0x14 + 0x1000 * (i % 1024)) :=
  ⟨4, by decide, h, holds_one (by decide) (by decide) i⟩
theorem has_CW_RING {m : Nat} (h : m.testBit 5 = true) (i : Nat) : RowsHave m (0x18 + 0x1000 * (i % 1024)) :=
  ⟨5, by decide, h, holds_one (by decide) (by decide) i⟩
theorem has_CW_SQ_TAIL {m : Nat} (h : m.testBit 6 = true) (i : Nat) : RowsHave m (0x1c + 0x1000 * (i % 1024)) :=
  ⟨6, by decide, h, holds_one (by decide) (by decide) i⟩
theorem has_CW_SQ_HEAD {m : Nat} (h : m.testBit 7 = true) (i : Nat) : RowsHave m (0x20 + 0x1000 * (i % 1024)) :=
  ⟨7, by decide, h, holds_one (by decide) (by decide) i⟩
theorem has_CW_CQ_HEAD {m : Nat} (h : m.testBit 8 = true) (i : Nat) : RowsHave m (0x24 + 0x1000 * (i % 1024)) :=
  ⟨8, by decide, h, holds_one (by decide) (by decide) i⟩
theorem has_CW_CQ_TAIL {m : Nat} (h : m.testBit 9 = true) (i : Nat) : RowsHave m (0x28 + 0x1000 * (i % 1024)) :=
  ⟨9, by decide, h, holds_one (by decide) (by decide) i⟩
theorem has_CW_IRQ {m : Nat} (h : m.testBit 10 = true) (i : Nat) : RowsHave m (0x2c + 0x1000 * (i % 1024)) :=
  ⟨10, by decide, h, holds_one (by decide) (by decide) i⟩
theorem has_CW_IRQ_EN {m : Nat} (h : m.testBit 11 = true) (i : Nat) : RowsHave m (0x30 + 0x1000 * (i % 1024)) :=
  ⟨11, by decide, h, holds_one (by decide) (by decide) i⟩
theorem has_CW_RADDR {m : Nat} (h : m.testBit 12 = true) (i : Nat) : RowsHave m (0x34 + 0x1000 * (i % 1024)) :=
  ⟨12, by decide, h, holds_one (by decide) (by decide) i⟩
theorem has_CW_RDATA {m : Nat} (h : m.testBit 13 = true) (i : Nat) : RowsHave m (0x38 + 0x1000 * (i % 1024)) :=
  ⟨13, by decide, h, holds_one (by decide) (by decide) i⟩
theorem has_CW_RSTAT {m : Nat} (h : m.testBit 14 = true) (i : Nat) : RowsHave m (0x3c + 0x1000 * (i % 1024)) :=
  ⟨14, by decide, h, holds_one (by decide) (by decide) i⟩
theorem has_CW_STR_BASE_LO {m : Nat} (h : m.testBit 15 = true) (i j : Nat) : RowsHave m (0x40 + 0x1000 * (i % 1024) + 0x20 * (j % 4)) :=
  ⟨15, by decide, h, holds_two (by decide) (by decide) (by decide) (by decide) i j⟩
theorem has_CW_STR_BASE_HI {m : Nat} (h : m.testBit 16 = true) (i j : Nat) : RowsHave m (0x44 + 0x1000 * (i % 1024) + 0x20 * (j % 4)) :=
  ⟨16, by decide, h, holds_two (by decide) (by decide) (by decide) (by decide) i j⟩
theorem has_CW_STR_CFG {m : Nat} (h : m.testBit 17 = true) (i j : Nat) : RowsHave m (0x48 + 0x1000 * (i % 1024) + 0x20 * (j % 4)) :=
  ⟨17, by decide, h, holds_two (by decide) (by decide) (by decide) (by decide) i j⟩
theorem has_CW_STR_WR {m : Nat} (h : m.testBit 18 = true) (i j : Nat) : RowsHave m (0x4c + 0x1000 * (i % 1024) + 0x20 * (j % 4)) :=
  ⟨18, by decide, h, holds_two (by decide) (by decide) (by decide) (by decide) i j⟩
theorem has_CW_STR_RD {m : Nat} (h : m.testBit 19 = true) (i j : Nat) : RowsHave m (0x50 + 0x1000 * (i % 1024) + 0x20 * (j % 4)) :=
  ⟨19, by decide, h, holds_two (by decide) (by decide) (by decide) (by decide) i j⟩
theorem has_CW_STR_DROP {m : Nat} (h : m.testBit 20 = true) (i j : Nat) : RowsHave m (0x54 + 0x1000 * (i % 1024) + 0x20 * (j % 4)) :=
  ⟨20, by decide, h, holds_two (by decide) (by decide) (by decide) (by decide) i j⟩
theorem has_CW_HALT {m : Nat} (h : m.testBit 21 = true) (i : Nat) : RowsHave m (0xffc + 0x1000 * (i % 1024)) :=
  ⟨21, by decide, h, holds_one (by decide) (by decide) i⟩
theorem has_IMG_CTRL {m : Nat} (h : m.testBit 22 = true) : RowsHave m 0x401000 := ⟨22, by decide, h, rfl⟩
theorem has_IMG_STATUS {m : Nat} (h : m.testBit 23 = true) : RowsHave m 0x401004 := ⟨23, by decide, h, rfl⟩
theorem has_IMG_ERR {m : Nat} (h : m.testBit 24 = true) : RowsHave m 0x401008 := ⟨24, by decide, h, rfl⟩
theorem has_IMG_ERROFS {m : Nat} (h : m.testBit 25 = true) : RowsHave m 0x40100c := ⟨25, by decide, h, rfl⟩
theorem has_IMG_TOKEN {m : Nat} (h : m.testBit 26 = true) : RowsHave m 0x401010 := ⟨26, by decide, h, rfl⟩
theorem has_IMG_COMMIT {m : Nat} (h : m.testBit 27 = true) : RowsHave m 0x401014 := ⟨27, by decide, h, rfl⟩
theorem has_IMG_ACT_FT_LO {m : Nat} (h : m.testBit 28 = true) : RowsHave m 0x401018 := ⟨28, by decide, h, rfl⟩
theorem has_IMG_ACT_FT_HI {m : Nat} (h : m.testBit 29 = true) : RowsHave m 0x40101c := ⟨29, by decide, h, rfl⟩
theorem has_IMG_ACT_FRAME {m : Nat} (h : m.testBit 30 = true) : RowsHave m 0x401020 := ⟨30, by decide, h, rfl⟩
theorem has_IMG_DIFF {m : Nat} (h : m.testBit 31 = true) : RowsHave m 0x401024 := ⟨31, by decide, h, rfl⟩
theorem has_IMG_ACTIVE_ID {m : Nat} (h : m.testBit 32 = true) : RowsHave m 0x401028 := ⟨32, by decide, h, rfl⟩
theorem has_IMG_STAGED_ID {m : Nat} (h : m.testBit 33 = true) : RowsHave m 0x40102c := ⟨33, by decide, h, rfl⟩
theorem has_IMG_ACTIVE_VER {m : Nat} (h : m.testBit 34 = true) : RowsHave m 0x401030 := ⟨34, by decide, h, rfl⟩
theorem has_IMG_STAGED_VER {m : Nat} (h : m.testBit 35 = true) : RowsHave m 0x401034 := ⟨35, by decide, h, rfl⟩
theorem has_IMG_BOOT {m : Nat} (h : m.testBit 36 = true) : RowsHave m 0x401038 := ⟨36, by decide, h, rfl⟩
theorem has_IMG_FLOOR {m : Nat} (h : m.testBit 37 = true) : RowsHave m 0x40103c := ⟨37, by decide, h, rfl⟩
theorem has_IMG_KEY {m : Nat} (h : m.testBit 38 = true) : RowsHave m 0x401040 := ⟨38, by decide, h, rfl⟩
theorem has_IMG_KEYDATA {m : Nat} (h : m.testBit 39 = true) (i : Nat) : RowsHave m (0x401044 + 0x4 * (i % 8)) :=
  ⟨39, by decide, h, holds_one (by decide) (by decide) i⟩
theorem has_IMG_EVENT {m : Nat} (h : m.testBit 40 = true) : RowsHave m 0x401064 := ⟨40, by decide, h, rfl⟩
theorem has_ID_UNIQUE_LO {m : Nat} (h : m.testBit 41 = true) : RowsHave m 0x400000 := ⟨41, by decide, h, rfl⟩
theorem has_ID_UNIQUE_HI {m : Nat} (h : m.testBit 42 = true) : RowsHave m 0x400004 := ⟨42, by decide, h, rfl⟩
theorem has_ID_DEVICE {m : Nat} (h : m.testBit 43 = true) : RowsHave m 0x400008 := ⟨43, by decide, h, rfl⟩
theorem has_CAP_COUNT0 {m : Nat} (h : m.testBit 44 = true) : RowsHave m 0x40000c := ⟨44, by decide, h, rfl⟩
theorem has_CAP_COUNT1 {m : Nat} (h : m.testBit 45 = true) : RowsHave m 0x400010 := ⟨45, by decide, h, rfl⟩
theorem has_CAP_COUNT2 {m : Nat} (h : m.testBit 46 = true) : RowsHave m 0x400014 := ⟨46, by decide, h, rfl⟩
theorem has_CAP_COUNT3 {m : Nat} (h : m.testBit 47 = true) : RowsHave m 0x400018 := ⟨47, by decide, h, rfl⟩
theorem has_CAP_PRESENT {m : Nat} (h : m.testBit 48 = true) : RowsHave m 0x40001c := ⟨48, by decide, h, rfl⟩
theorem has_BB_CTRL {m : Nat} (h : m.testBit 49 = true) : RowsHave m 0x408000 := ⟨49, by decide, h, rfl⟩
theorem has_BB_STATUS {m : Nat} (h : m.testBit 50 = true) : RowsHave m 0x408004 := ⟨50, by decide, h, rfl⟩
theorem has_AS_CTRL {m : Nat} (h : m.testBit 51 = true) (i : Nat) : RowsHave m (0x408010 + 0x8 * (i % 4)) :=
  ⟨51, by decide, h, holds_one (by decide) (by decide) i⟩
theorem has_AS_STAT {m : Nat} (h : m.testBit 52 = true) (i : Nat) : RowsHave m (0x408014 + 0x8 * (i % 4)) :=
  ⟨52, by decide, h, holds_one (by decide) (by decide) i⟩
theorem has_AS_CENTRE {m : Nat} (h : m.testBit 53 = true) (i j : Nat) : RowsHave m (0x408040 + 0x10 * (i % 4) + 0x4 * (j % 4)) :=
  ⟨53, by decide, h, holds_two (by decide) (by decide) (by decide) (by decide) i j⟩
theorem has_AS_SIGMASK {m : Nat} (h : m.testBit 54 = true) (i j : Nat) : RowsHave m (0x408080 + 0x10 * (i % 4) + 0x4 * (j % 4)) :=
  ⟨54, by decide, h, holds_two (by decide) (by decide) (by decide) (by decide) i j⟩
theorem has_AS_PWR {m : Nat} (h : m.testBit 55 = true) (i j : Nat) : RowsHave m (0x4080c0 + 0x10 * (i % 4) + 0x4 * (j % 4)) :=
  ⟨55, by decide, h, holds_two (by decide) (by decide) (by decide) (by decide) i j⟩
theorem has_BANK_STAT {m : Nat} (h : m.testBit 56 = true) : RowsHave m 0x408100 := ⟨56, by decide, h, rfl⟩
theorem has_CODE_ADDR {m : Nat} (h : m.testBit 57 = true) : RowsHave m 0x408104 := ⟨57, by decide, h, rfl⟩
theorem has_CODE_DATA {m : Nat} (h : m.testBit 58 = true) : RowsHave m 0x408108 := ⟨58, by decide, h, rfl⟩
theorem has_CODE_DESC {m : Nat} (h : m.testBit 59 = true) (i : Nat) : RowsHave m (0x408110 + 0x4 * (i % 4)) :=
  ⟨59, by decide, h, holds_one (by decide) (by decide) i⟩
theorem has_AID_ADDR {m : Nat} (h : m.testBit 60 = true) : RowsHave m 0x408120 := ⟨60, by decide, h, rfl⟩
theorem has_AID_DATA {m : Nat} (h : m.testBit 61 = true) : RowsHave m 0x408124 := ⟨61, by decide, h, rfl⟩
theorem has_MAP_CTRL {m : Nat} (h : m.testBit 62 = true) : RowsHave m 0x409000 := ⟨62, by decide, h, rfl⟩
theorem has_MAP_EVENT {m : Nat} (h : m.testBit 63 = true) : RowsHave m 0x409004 := ⟨63, by decide, h, rfl⟩
theorem has_MAP_STAT {m : Nat} (h : m.testBit 64 = true) : RowsHave m 0x409008 := ⟨64, by decide, h, rfl⟩
theorem has_MAP_COUNT_A {m : Nat} (h : m.testBit 65 = true) : RowsHave m 0x40900c := ⟨65, by decide, h, rfl⟩
theorem has_MAP_COUNT_B {m : Nat} (h : m.testBit 66 = true) : RowsHave m 0x409010 := ⟨66, by decide, h, rfl⟩
theorem has_MISS_TX {m : Nat} (h : m.testBit 67 = true) : RowsHave m 0x409014 := ⟨67, by decide, h, rfl⟩
theorem has_MISS_TY {m : Nat} (h : m.testBit 68 = true) : RowsHave m 0x409018 := ⟨68, by decide, h, rfl⟩
theorem has_MISS_COUNT {m : Nat} (h : m.testBit 69 = true) : RowsHave m 0x40901c := ⟨69, by decide, h, rfl⟩
theorem has_MAP_LAYER {m : Nat} (h : m.testBit 70 = true) (i : Nat) : RowsHave m (0x409020 + 0x4 * (i % 4)) :=
  ⟨70, by decide, h, holds_one (by decide) (by decide) i⟩
theorem has_RT_CTRL {m : Nat} (h : m.testBit 71 = true) : RowsHave m 0x409030 := ⟨71, by decide, h, rfl⟩
theorem has_OT_SREAD_IDX {m : Nat} (h : m.testBit 72 = true) : RowsHave m 0x409034 := ⟨72, by decide, h, rfl⟩
theorem has_OT_SREAD_DATA {m : Nat} (h : m.testBit 73 = true) : RowsHave m 0x409038 := ⟨73, by decide, h, rfl⟩
theorem has_OT_STAGE {m : Nat} (h : m.testBit 74 = true) : RowsHave m 0x40903c := ⟨74, by decide, h, rfl⟩
theorem has_NEED_TX {m : Nat} (h : m.testBit 75 = true) (i : Nat) : RowsHave m (0x409040 + 0x8 * (i % 8)) :=
  ⟨75, by decide, h, holds_one (by decide) (by decide) i⟩
theorem has_NEED_TY {m : Nat} (h : m.testBit 76 = true) (i : Nat) : RowsHave m (0x409044 + 0x8 * (i % 8)) :=
  ⟨76, by decide, h, holds_one (by decide) (by decide) i⟩
theorem has_SEC_STATE {m : Nat} (h : m.testBit 77 = true) (i : Nat) : RowsHave m (0x409100 + 0x4 * (i % 16)) :=
  ⟨77, by decide, h, holds_one (by decide) (by decide) i⟩
theorem has_SEC_GATE {m : Nat} (h : m.testBit 78 = true) (i : Nat) : RowsHave m (0x409180 + 0x4 * (i % 8)) :=
  ⟨78, by decide, h, holds_one (by decide) (by decide) i⟩
theorem has_TILE_X {m : Nat} (h : m.testBit 79 = true) (i : Nat) : RowsHave m (0x409800 + 0x10 * (i % 192)) :=
  ⟨79, by decide, h, holds_one (by decide) (by decide) i⟩
theorem has_TILE_Y {m : Nat} (h : m.testBit 80 = true) (i : Nat) : RowsHave m (0x409804 + 0x10 * (i % 192)) :=
  ⟨80, by decide, h, holds_one (by decide) (by decide) i⟩
theorem has_TILE_CTRL {m : Nat} (h : m.testBit 81 = true) (i : Nat) : RowsHave m (0x409808 + 0x10 * (i % 192)) :=
  ⟨81, by decide, h, holds_one (by decide) (by decide) i⟩
theorem has_TILE_DIRTY {m : Nat} (h : m.testBit 82 = true) (i : Nat) : RowsHave m (0x40980c + 0x10 * (i % 192)) :=
  ⟨82, by decide, h, holds_one (by decide) (by decide) i⟩
theorem has_RT_ENTRY {m : Nat} (h : m.testBit 83 = true) (i j : Nat) : RowsHave m (0x40a400 + 0x100 * (i % 4) + 0x4 * (j % 64)) :=
  ⟨83, by decide, h, holds_two (by decide) (by decide) (by decide) (by decide) i j⟩
theorem has_RT_STAGED {m : Nat} (h : m.testBit 84 = true) (i j : Nat) : RowsHave m (0x40a800 + 0x100 * (i % 4) + 0x4 * (j % 64)) :=
  ⟨84, by decide, h, holds_two (by decide) (by decide) (by decide) (by decide) i j⟩
theorem has_LG_CTRL {m : Nat} (h : m.testBit 85 = true) : RowsHave m 0x40c000 := ⟨85, by decide, h, rfl⟩
theorem has_LG_STAT {m : Nat} (h : m.testBit 86 = true) : RowsHave m 0x40c004 := ⟨86, by decide, h, rfl⟩
theorem has_LG_COUNT {m : Nat} (h : m.testBit 87 = true) : RowsHave m 0x40c008 := ⟨87, by decide, h, rfl⟩
theorem has_LG_EVENT {m : Nat} (h : m.testBit 88 = true) : RowsHave m 0x40c00c := ⟨88, by decide, h, rfl⟩
theorem has_LG_CNT_A {m : Nat} (h : m.testBit 89 = true) : RowsHave m 0x40c010 := ⟨89, by decide, h, rfl⟩
theorem has_LG_CNT_B {m : Nat} (h : m.testBit 90 = true) : RowsHave m 0x40c014 := ⟨90, by decide, h, rfl⟩
theorem has_LG_CNT_C {m : Nat} (h : m.testBit 91 = true) : RowsHave m 0x40c018 := ⟨91, by decide, h, rfl⟩
theorem has_LG_CNT_D {m : Nat} (h : m.testBit 92 = true) : RowsHave m 0x40c01c := ⟨92, by decide, h, rfl⟩
theorem has_PATH_CTRL {m : Nat} (h : m.testBit 93 = true) : RowsHave m 0x40c020 := ⟨93, by decide, h, rfl⟩
theorem has_PATH_FT_LO {m : Nat} (h : m.testBit 94 = true) : RowsHave m 0x40c024 := ⟨94, by decide, h, rfl⟩
theorem has_PATH_FT_HI {m : Nat} (h : m.testBit 95 = true) : RowsHave m 0x40c028 := ⟨95, by decide, h, rfl⟩
theorem has_PK_DIST {m : Nat} (h : m.testBit 96 = true) (i : Nat) : RowsHave m (0x40c200 + 0x10 * (i % 32)) :=
  ⟨96, by decide, h, holds_one (by decide) (by decide) i⟩
theorem has_PK_CURV {m : Nat} (h : m.testBit 97 = true) (i : Nat) : RowsHave m (0x40c204 + 0x10 * (i % 32)) :=
  ⟨97, by decide, h, holds_one (by decide) (by decide) i⟩
theorem has_PK_SPEED {m : Nat} (h : m.testBit 98 = true) (i : Nat) : RowsHave m (0x40c208 + 0x10 * (i % 32)) :=
  ⟨98, by decide, h, holds_one (by decide) (by decide) i⟩
theorem has_CL_COMMIT {m : Nat} (h : m.testBit 99 = true) (i : Nat) : RowsHave m (0x40c100 + 0x20 * (i % 8)) :=
  ⟨99, by decide, h, holds_one (by decide) (by decide) i⟩
theorem has_CL_TIMING {m : Nat} (h : m.testBit 100 = true) (i : Nat) : RowsHave m (0x40c104 + 0x20 * (i % 8)) :=
  ⟨100, by decide, h, holds_one (by decide) (by decide) i⟩
theorem has_CL_PREFLUX {m : Nat} (h : m.testBit 101 = true) (i : Nat) : RowsHave m (0x40c108 + 0x20 * (i % 8)) :=
  ⟨101, by decide, h, holds_one (by decide) (by decide) i⟩
theorem has_CL_GAPS {m : Nat} (h : m.testBit 102 = true) (i : Nat) : RowsHave m (0x40c10c + 0x20 * (i % 8)) :=
  ⟨102, by decide, h, holds_one (by decide) (by decide) i⟩
theorem has_CL_MATCH {m : Nat} (h : m.testBit 103 = true) (i : Nat) : RowsHave m (0x40c110 + 0x20 * (i % 8)) :=
  ⟨103, by decide, h, holds_one (by decide) (by decide) i⟩
theorem has_CL_RATE_LEAD {m : Nat} (h : m.testBit 104 = true) (i : Nat) : RowsHave m (0x40c114 + 0x20 * (i % 8)) :=
  ⟨104, by decide, h, holds_one (by decide) (by decide) i⟩
theorem has_CL_RATE_MIN {m : Nat} (h : m.testBit 105 = true) (i : Nat) : RowsHave m (0x40c118 + 0x20 * (i % 8)) :=
  ⟨105, by decide, h, holds_one (by decide) (by decide) i⟩
theorem has_CL_RATE_MAX {m : Nat} (h : m.testBit 106 = true) (i : Nat) : RowsHave m (0x40c11c + 0x20 * (i % 8)) :=
  ⟨106, by decide, h, holds_one (by decide) (by decide) i⟩
theorem has_LJ_OPEN {m : Nat} (h : m.testBit 107 = true) (i : Nat) : RowsHave m (0x40d000 + 0x8 * (i % 1024)) :=
  ⟨107, by decide, h, holds_one (by decide) (by decide) i⟩
theorem has_LJ_CLOSE {m : Nat} (h : m.testBit 108 = true) (i : Nat) : RowsHave m (0x40d004 + 0x8 * (i % 1024)) :=
  ⟨108, by decide, h, holds_one (by decide) (by decide) i⟩
theorem has_TB_STATUS {m : Nat} (h : m.testBit 109 = true) : RowsHave m 0x410000 := ⟨109, by decide, h, rfl⟩
theorem has_TB_CTRL {m : Nat} (h : m.testBit 110 = true) : RowsHave m 0x410004 := ⟨110, by decide, h, rfl⟩
theorem has_FT_LO {m : Nat} (h : m.testBit 111 = true) : RowsHave m 0x410008 := ⟨111, by decide, h, rfl⟩
theorem has_FT_HI {m : Nat} (h : m.testBit 112 = true) : RowsHave m 0x41000c := ⟨112, by decide, h, rfl⟩
theorem has_GNSS_OFS_LO {m : Nat} (h : m.testBit 113 = true) : RowsHave m 0x410010 := ⟨113, by decide, h, rfl⟩
theorem has_GNSS_OFS_HI {m : Nat} (h : m.testBit 114 = true) : RowsHave m 0x410014 := ⟨114, by decide, h, rfl⟩
theorem has_REF_MEAS {m : Nat} (h : m.testBit 115 = true) : RowsHave m 0x410018 := ⟨115, by decide, h, rfl⟩
theorem has_REF_DRIFT {m : Nat} (h : m.testBit 116 = true) : RowsHave m 0x41001c := ⟨116, by decide, h, rfl⟩
theorem has_DISC_TRIM {m : Nat} (h : m.testBit 117 = true) : RowsHave m 0x410020 := ⟨117, by decide, h, rfl⟩
theorem has_CAL_LO {m : Nat} (h : m.testBit 118 = true) : RowsHave m 0x410024 := ⟨118, by decide, h, rfl⟩
theorem has_CAL_HI {m : Nat} (h : m.testBit 119 = true) : RowsHave m 0x410028 := ⟨119, by decide, h, rfl⟩
theorem has_LEAP {m : Nat} (h : m.testBit 120 = true) : RowsHave m 0x41002c := ⟨120, by decide, h, rfl⟩
theorem has_FRM_CFG {m : Nat} (h : m.testBit 121 = true) : RowsHave m 0x410030 := ⟨121, by decide, h, rfl⟩
theorem has_FRM_NO {m : Nat} (h : m.testBit 122 = true) : RowsHave m 0x410034 := ⟨122, by decide, h, rfl⟩
theorem has_FRM_START_LO {m : Nat} (h : m.testBit 123 = true) : RowsHave m 0x410038 := ⟨123, by decide, h, rfl⟩
theorem has_FRM_START_HI {m : Nat} (h : m.testBit 124 = true) : RowsHave m 0x41003c := ⟨124, by decide, h, rfl⟩
theorem has_FRM_STAT {m : Nat} (h : m.testBit 125 = true) : RowsHave m 0x410040 := ⟨125, by decide, h, rfl⟩
theorem has_SYNC_CFG {m : Nat} (h : m.testBit 126 = true) : RowsHave m 0x410044 := ⟨126, by decide, h, rfl⟩
theorem has_SYNCIN_COMP {m : Nat} (h : m.testBit 127 = true) : RowsHave m 0x410048 := ⟨127, by decide, h, rfl⟩
theorem has_SYNCIN_ERR {m : Nat} (h : m.testBit 128 = true) : RowsHave m 0x41004c := ⟨128, by decide, h, rfl⟩
theorem has_TB_EVENT {m : Nat} (h : m.testBit 129 = true) : RowsHave m 0x410050 := ⟨129, by decide, h, rfl⟩
theorem has_GCH_CMD {m : Nat} (h : m.testBit 130 = true) (i : Nat) : RowsHave m (0x420000 + 0x100 * (i % 1024)) :=
  ⟨130, by decide, h, holds_one (by decide) (by decide) i⟩
theorem has_GCH_CFG {m : Nat} (h : m.testBit 131 = true) (i : Nat) : RowsHave m (0x420004 + 0x100 * (i % 1024)) :=
  ⟨131, by decide, h, holds_one (by decide) (by decide) i⟩
theorem has_GCH_TAPS {m : Nat} (h : m.testBit 132 = true) (i : Nat) : RowsHave m (0x420008 + 0x100 * (i % 1024)) :=
  ⟨132, by decide, h, holds_one (by decide) (by decide) i⟩
theorem has_GCH_LOOP {m : Nat} (h : m.testBit 133 = true) (i : Nat) : RowsHave m (0x42000c + 0x100 * (i % 1024)) :=
  ⟨133, by decide, h, holds_one (by decide) (by decide) i⟩
theorem has_GCH_ACQ {m : Nat} (h : m.testBit 134 = true) (i : Nat) : RowsHave m (0x420010 + 0x100 * (i % 1024)) :=
  ⟨134, by decide, h, holds_one (by decide) (by decide) i⟩
theorem has_GCH_AID_DOP {m : Nat} (h : m.testBit 135 = true) (i : Nat) : RowsHave m (0x420014 + 0x100 * (i % 1024)) :=
  ⟨135, by decide, h, holds_one (by decide) (by decide) i⟩
theorem has_GCH_AID_CODE {m : Nat} (h : m.testBit 136 = true) (i : Nat) : RowsHave m (0x420018 + 0x100 * (i % 1024)) :=
  ⟨136, by decide, h, holds_one (by decide) (by decide) i⟩
theorem has_GCH_STATE {m : Nat} (h : m.testBit 137 = true) (i : Nat) : RowsHave m (0x420020 + 0x100 * (i % 1024)) :=
  ⟨137, by decide, h, holds_one (by decide) (by decide) i⟩
theorem has_GCH_EVENT {m : Nat} (h : m.testBit 138 = true) (i : Nat) : RowsHave m (0x420024 + 0x100 * (i % 1024)) :=
  ⟨138, by decide, h, holds_one (by decide) (by decide) i⟩
theorem has_GCH_CARR_NCO {m : Nat} (h : m.testBit 139 = true) (i : Nat) : RowsHave m (0x420028 + 0x100 * (i % 1024)) :=
  ⟨139, by decide, h, holds_one (by decide) (by decide) i⟩
theorem has_GCH_CODE_NCO {m : Nat} (h : m.testBit 140 = true) (i : Nat) : RowsHave m (0x42002c + 0x100 * (i % 1024)) :=
  ⟨140, by decide, h, holds_one (by decide) (by decide) i⟩
theorem has_GCH_TAP_I {m : Nat} (h : m.testBit 141 = true) (i j : Nat) : RowsHave m (0x420030 + 0x100 * (i % 1024) + 0x8 * (j % 25)) :=
  ⟨141, by decide, h, holds_two (by decide) (by decide) (by decide) (by decide) i j⟩
theorem has_GCH_TAP_Q {m : Nat} (h : m.testBit 142 = true) (i j : Nat) : RowsHave m (0x420034 + 0x100 * (i % 1024) + 0x8 * (j % 25)) :=
  ⟨142, by decide, h, holds_two (by decide) (by decide) (by decide) (by decide) i j⟩
theorem has_GCH_MP {m : Nat} (h : m.testBit 143 = true) (i : Nat) : RowsHave m (0x4200f8 + 0x100 * (i % 1024)) :=
  ⟨143, by decide, h, holds_one (by decide) (by decide) i⟩
theorem has_POSE_CTRL {m : Nat} (h : m.testBit 144 = true) : RowsHave m 0x460000 := ⟨144, by decide, h, rfl⟩
theorem has_POSE_STATUS {m : Nat} (h : m.testBit 145 = true) : RowsHave m 0x460004 := ⟨145, by decide, h, rfl⟩
theorem has_POSE_EVENT {m : Nat} (h : m.testBit 146 = true) : RowsHave m 0x460008 := ⟨146, by decide, h, rfl⟩
theorem has_ORIGIN_X_LO {m : Nat} (h : m.testBit 147 = true) : RowsHave m 0x460010 := ⟨147, by decide, h, rfl⟩
theorem has_ORIGIN_X_HI {m : Nat} (h : m.testBit 148 = true) : RowsHave m 0x460014 := ⟨148, by decide, h, rfl⟩
theorem has_ORIGIN_Y_LO {m : Nat} (h : m.testBit 149 = true) : RowsHave m 0x460018 := ⟨149, by decide, h, rfl⟩
theorem has_ORIGIN_Y_HI {m : Nat} (h : m.testBit 150 = true) : RowsHave m 0x46001c := ⟨150, by decide, h, rfl⟩
theorem has_ORIGIN_Z_LO {m : Nat} (h : m.testBit 151 = true) : RowsHave m 0x460020 := ⟨151, by decide, h, rfl⟩
theorem has_ORIGIN_Z_HI {m : Nat} (h : m.testBit 152 = true) : RowsHave m 0x460024 := ⟨152, by decide, h, rfl⟩
theorem has_POSE_GROW_A {m : Nat} (h : m.testBit 153 = true) : RowsHave m 0x460028 := ⟨153, by decide, h, rfl⟩
theorem has_POSE_GROW_B {m : Nat} (h : m.testBit 154 = true) : RowsHave m 0x46002c := ⟨154, by decide, h, rfl⟩
theorem has_POSE_LIM {m : Nat} (h : m.testBit 155 = true) : RowsHave m 0x460030 := ⟨155, by decide, h, rfl⟩
theorem has_POSE_BL {m : Nat} (h : m.testBit 156 = true) : RowsHave m 0x460034 := ⟨156, by decide, h, rfl⟩
theorem has_ANT_X {m : Nat} (h : m.testBit 157 = true) (i : Nat) : RowsHave m (0x460040 + 0x10 * (i % 4)) :=
  ⟨157, by decide, h, holds_one (by decide) (by decide) i⟩
theorem has_ANT_Y {m : Nat} (h : m.testBit 158 = true) (i : Nat) : RowsHave m (0x460044 + 0x10 * (i % 4)) :=
  ⟨158, by decide, h, holds_one (by decide) (by decide) i⟩
theorem has_ANT_Z {m : Nat} (h : m.testBit 159 = true) (i : Nat) : RowsHave m (0x460048 + 0x10 * (i % 4)) :=
  ⟨159, by decide, h, holds_one (by decide) (by decide) i⟩
theorem has_ANT_ROLE {m : Nat} (h : m.testBit 160 = true) (i : Nat) : RowsHave m (0x46004c + 0x10 * (i % 4)) :=
  ⟨160, by decide, h, holds_one (by decide) (by decide) i⟩
theorem has_IMU_CFG {m : Nat} (h : m.testBit 161 = true) (i : Nat) : RowsHave m (0x460080 + 0x20 * (i % 2)) :=
  ⟨161, by decide, h, holds_one (by decide) (by decide) i⟩
theorem has_IMU_ORIENT {m : Nat} (h : m.testBit 162 = true) (i : Nat) : RowsHave m (0x460084 + 0x20 * (i % 2)) :=
  ⟨162, by decide, h, holds_one (by decide) (by decide) i⟩
theorem has_IMU_LAT {m : Nat} (h : m.testBit 163 = true) (i : Nat) : RowsHave m (0x460088 + 0x20 * (i % 2)) :=
  ⟨163, by decide, h, holds_one (by decide) (by decide) i⟩
theorem has_IMU_LEV_X {m : Nat} (h : m.testBit 164 = true) (i : Nat) : RowsHave m (0x46008c + 0x20 * (i % 2)) :=
  ⟨164, by decide, h, holds_one (by decide) (by decide) i⟩
theorem has_IMU_LEV_Y {m : Nat} (h : m.testBit 165 = true) (i : Nat) : RowsHave m (0x460090 + 0x20 * (i % 2)) :=
  ⟨165, by decide, h, holds_one (by decide) (by decide) i⟩
theorem has_IMU_LEV_Z {m : Nat} (h : m.testBit 166 = true) (i : Nat) : RowsHave m (0x460094 + 0x20 * (i % 2)) :=
  ⟨166, by decide, h, holds_one (by decide) (by decide) i⟩
theorem has_IMU_GSCALE {m : Nat} (h : m.testBit 167 = true) (i : Nat) : RowsHave m (0x460098 + 0x20 * (i % 2)) :=
  ⟨167, by decide, h, holds_one (by decide) (by decide) i⟩
theorem has_IMU_ASCALE {m : Nat} (h : m.testBit 168 = true) (i : Nat) : RowsHave m (0x46009c + 0x20 * (i % 2)) :=
  ⟨168, by decide, h, holds_one (by decide) (by decide) i⟩
theorem has_SPD_CFG {m : Nat} (h : m.testBit 169 = true) : RowsHave m 0x4600c0 := ⟨169, by decide, h, rfl⟩
theorem has_SPD_K {m : Nat} (h : m.testBit 170 = true) : RowsHave m 0x4600c4 := ⟨170, by decide, h, rfl⟩
theorem has_SEG_CFG {m : Nat} (h : m.testBit 171 = true) (i : Nat) : RowsHave m (0x460100 + 0x20 * (i % 8)) :=
  ⟨171, by decide, h, holds_one (by decide) (by decide) i⟩
theorem has_SEG_PIV_Y {m : Nat} (h : m.testBit 172 = true) (i : Nat) : RowsHave m (0x460104 + 0x20 * (i % 8)) :=
  ⟨172, by decide, h, holds_one (by decide) (by decide) i⟩
theorem has_SEG_LEN {m : Nat} (h : m.testBit 173 = true) (i : Nat) : RowsHave m (0x460108 + 0x20 * (i % 8)) :=
  ⟨173, by decide, h, holds_one (by decide) (by decide) i⟩
theorem has_SEG_DMAX {m : Nat} (h : m.testBit 174 = true) (i : Nat) : RowsHave m (0x46010c + 0x20 * (i % 8)) :=
  ⟨174, by decide, h, holds_one (by decide) (by decide) i⟩
theorem has_SEG_HOST_X {m : Nat} (h : m.testBit 175 = true) (i : Nat) : RowsHave m (0x460110 + 0x20 * (i % 8)) :=
  ⟨175, by decide, h, holds_one (by decide) (by decide) i⟩
theorem has_SEG_HOST_Z {m : Nat} (h : m.testBit 176 = true) (i : Nat) : RowsHave m (0x460114 + 0x20 * (i % 8)) :=
  ⟨176, by decide, h, holds_one (by decide) (by decide) i⟩
theorem has_SEG_HOST_UNC {m : Nat} (h : m.testBit 177 = true) (i : Nat) : RowsHave m (0x460118 + 0x20 * (i % 8)) :=
  ⟨177, by decide, h, holds_one (by decide) (by decide) i⟩
theorem has_FIX_FT_LO {m : Nat} (h : m.testBit 178 = true) : RowsHave m 0x460200 := ⟨178, by decide, h, rfl⟩
theorem has_FIX_FT_HI {m : Nat} (h : m.testBit 179 = true) : RowsHave m 0x460204 := ⟨179, by decide, h, rfl⟩
theorem has_FIX_E_LO {m : Nat} (h : m.testBit 180 = true) : RowsHave m 0x460208 := ⟨180, by decide, h, rfl⟩
theorem has_FIX_E_HI {m : Nat} (h : m.testBit 181 = true) : RowsHave m 0x46020c := ⟨181, by decide, h, rfl⟩
theorem has_FIX_N_LO {m : Nat} (h : m.testBit 182 = true) : RowsHave m 0x460210 := ⟨182, by decide, h, rfl⟩
theorem has_FIX_N_HI {m : Nat} (h : m.testBit 183 = true) : RowsHave m 0x460214 := ⟨183, by decide, h, rfl⟩
theorem has_FIX_U_LO {m : Nat} (h : m.testBit 184 = true) : RowsHave m 0x460218 := ⟨184, by decide, h, rfl⟩
theorem has_FIX_U_HI {m : Nat} (h : m.testBit 185 = true) : RowsHave m 0x46021c := ⟨185, by decide, h, rfl⟩
theorem has_FIX_RAD {m : Nat} (h : m.testBit 186 = true) : RowsHave m 0x460220 := ⟨186, by decide, h, rfl⟩
theorem has_FIX_HDG {m : Nat} (h : m.testBit 187 = true) : RowsHave m 0x460224 := ⟨187, by decide, h, rfl⟩
theorem has_FIX_HDGU {m : Nat} (h : m.testBit 188 = true) : RowsHave m 0x460228 := ⟨188, by decide, h, rfl⟩
theorem has_FIX_GO {m : Nat} (h : m.testBit 189 = true) : RowsHave m 0x46022c := ⟨189, by decide, h, rfl⟩
theorem has_POSE_REC {m : Nat} (h : m.testBit 190 = true) (i : Nat) : RowsHave m (0x460300 + 0x4 * (i % 32)) :=
  ⟨190, by decide, h, holds_one (by decide) (by decide) i⟩
theorem has_OT_CFG {m : Nat} (h : m.testBit 191 = true) (i : Nat) : RowsHave m (0x470000 + 0x40 * (i % 1024)) :=
  ⟨191, by decide, h, holds_one (by decide) (by decide) i⟩
theorem has_OT_TARGET {m : Nat} (h : m.testBit 192 = true) (i : Nat) : RowsHave m (0x470004 + 0x40 * (i % 1024)) :=
  ⟨192, by decide, h, holds_one (by decide) (by decide) i⟩
theorem has_OT_MOUNT_X {m : Nat} (h : m.testBit 193 = true) (i : Nat) : RowsHave m (0x470008 + 0x40 * (i % 1024)) :=
  ⟨193, by decide, h, holds_one (by decide) (by decide) i⟩
theorem has_OT_MOUNT_Y {m : Nat} (h : m.testBit 194 = true) (i : Nat) : RowsHave m (0x47000c + 0x40 * (i % 1024)) :=
  ⟨194, by decide, h, holds_one (by decide) (by decide) i⟩
theorem has_OT_MOUNT_Z {m : Nat} (h : m.testBit 195 = true) (i : Nat) : RowsHave m (0x470010 + 0x40 * (i % 1024)) :=
  ⟨195, by decide, h, holds_one (by decide) (by decide) i⟩
theorem has_OT_FP_W {m : Nat} (h : m.testBit 196 = true) (i : Nat) : RowsHave m (0x470014 + 0x40 * (i % 1024)) :=
  ⟨196, by decide, h, holds_one (by decide) (by decide) i⟩
theorem has_OT_FP_L {m : Nat} (h : m.testBit 197 = true) (i : Nat) : RowsHave m (0x470018 + 0x40 * (i % 1024)) :=
  ⟨197, by decide, h, holds_one (by decide) (by decide) i⟩
theorem has_OT_FP_DX {m : Nat} (h : m.testBit 198 = true) (i : Nat) : RowsHave m (0x47001c + 0x40 * (i % 1024)) :=
  ⟨198, by decide, h, holds_one (by decide) (by decide) i⟩
theorem has_OT_NOM_OPEN {m : Nat} (h : m.testBit 199 = true) (i : Nat) : RowsHave m (0x470020 + 0x40 * (i % 1024)) :=
  ⟨199, by decide, h, holds_one (by decide) (by decide) i⟩
theorem has_OT_NOM_CLOSE {m : Nat} (h : m.testBit 200 = true) (i : Nat) : RowsHave m (0x470024 + 0x40 * (i % 1024)) :=
  ⟨200, by decide, h, holds_one (by decide) (by decide) i⟩
theorem has_OT_LRN_OPEN {m : Nat} (h : m.testBit 201 = true) (i : Nat) : RowsHave m (0x470028 + 0x40 * (i % 1024)) :=
  ⟨201, by decide, h, holds_one (by decide) (by decide) i⟩
theorem has_OT_LRN_CLOSE {m : Nat} (h : m.testBit 202 = true) (i : Nat) : RowsHave m (0x47002c + 0x40 * (i % 1024)) :=
  ⟨202, by decide, h, holds_one (by decide) (by decide) i⟩
theorem has_OT_TRN_OPEN {m : Nat} (h : m.testBit 203 = true) (i : Nat) : RowsHave m (0x470030 + 0x40 * (i % 1024)) :=
  ⟨203, by decide, h, holds_one (by decide) (by decide) i⟩
theorem has_OT_TRN_CLOSE {m : Nat} (h : m.testBit 204 = true) (i : Nat) : RowsHave m (0x470034 + 0x40 * (i % 1024)) :=
  ⟨204, by decide, h, holds_one (by decide) (by decide) i⟩
theorem has_OT_RATE {m : Nat} (h : m.testBit 205 = true) (i : Nat) : RowsHave m (0x470038 + 0x40 * (i % 1024)) :=
  ⟨205, by decide, h, holds_one (by decide) (by decide) i⟩
theorem has_OT_STATE {m : Nat} (h : m.testBit 206 = true) (i : Nat) : RowsHave m (0x47003c + 0x40 * (i % 1024)) :=
  ⟨206, by decide, h, holds_one (by decide) (by decide) i⟩
theorem has_LE_HDR {m : Nat} (h : m.testBit 207 = true) (i : Nat) : RowsHave m (0x480000 + 0x10 * (i % 40960)) :=
  ⟨207, by decide, h, holds_one (by decide) (by decide) i⟩
theorem has_LE_FRAME {m : Nat} (h : m.testBit 208 = true) (i : Nat) : RowsHave m (0x480004 + 0x10 * (i % 40960)) :=
  ⟨208, by decide, h, holds_one (by decide) (by decide) i⟩
theorem has_LE_DUE {m : Nat} (h : m.testBit 209 = true) (i : Nat) : RowsHave m (0x480008 + 0x10 * (i % 40960)) :=
  ⟨209, by decide, h, holds_one (by decide) (by decide) i⟩
theorem has_LE_PARAM {m : Nat} (h : m.testBit 210 = true) (i : Nat) : RowsHave m (0x48000c + 0x10 * (i % 40960)) :=
  ⟨210, by decide, h, holds_one (by decide) (by decide) i⟩
theorem has_VD_CTRL {m : Nat} (h : m.testBit 211 = true) : RowsHave m 0x520000 := ⟨211, by decide, h, rfl⟩
theorem has_VD_STATUS {m : Nat} (h : m.testBit 212 = true) : RowsHave m 0x520004 := ⟨212, by decide, h, rfl⟩
theorem has_VD_EVENT {m : Nat} (h : m.testBit 213 = true) : RowsHave m 0x520008 := ⟨213, by decide, h, rfl⟩
theorem has_VD_GATECOMP {m : Nat} (h : m.testBit 214 = true) : RowsHave m 0x52000c := ⟨214, by decide, h, rfl⟩
theorem has_DBG_CFG {m : Nat} (h : m.testBit 215 = true) : RowsHave m 0x520010 := ⟨215, by decide, h, rfl⟩
theorem has_SP_PERIOD {m : Nat} (h : m.testBit 216 = true) : RowsHave m 0x520014 := ⟨216, by decide, h, rfl⟩
theorem has_LOADALL {m : Nat} (h : m.testBit 217 = true) (i : Nat) : RowsHave m (0x520018 + 0x4 * (i % 4)) :=
  ⟨217, by decide, h, holds_one (by decide) (by decide) i⟩
theorem has_LOADALL_AUX {m : Nat} (h : m.testBit 218 = true) : RowsHave m 0x520028 := ⟨218, by decide, h, rfl⟩
theorem has_BST_CTRL {m : Nat} (h : m.testBit 219 = true) (i : Nat) : RowsHave m (0x520100 + 0x20 * (i % 2)) :=
  ⟨219, by decide, h, holds_one (by decide) (by decide) i⟩
theorem has_BST_SET {m : Nat} (h : m.testBit 220 = true) (i : Nat) : RowsHave m (0x520104 + 0x20 * (i % 2)) :=
  ⟨220, by decide, h, holds_one (by decide) (by decide) i⟩
theorem has_BST_SLEW {m : Nat} (h : m.testBit 221 = true) (i : Nat) : RowsHave m (0x520108 + 0x20 * (i % 2)) :=
  ⟨221, by decide, h, holds_one (by decide) (by decide) i⟩
theorem has_BST_REF {m : Nat} (h : m.testBit 222 = true) (i : Nat) : RowsHave m (0x52010c + 0x20 * (i % 2)) :=
  ⟨222, by decide, h, holds_one (by decide) (by decide) i⟩
theorem has_BST_MEAS {m : Nat} (h : m.testBit 223 = true) (i : Nat) : RowsHave m (0x520110 + 0x20 * (i % 2)) :=
  ⟨223, by decide, h, holds_one (by decide) (by decide) i⟩
theorem has_BST_STAT {m : Nat} (h : m.testBit 224 = true) (i : Nat) : RowsHave m (0x520114 + 0x20 * (i % 2)) :=
  ⟨224, by decide, h, holds_one (by decide) (by decide) i⟩
theorem has_TRIP_CFG {m : Nat} (h : m.testBit 225 = true) (i : Nat) : RowsHave m (0x520200 + 0x20 * (i % 8)) :=
  ⟨225, by decide, h, holds_one (by decide) (by decide) i⟩
theorem has_TRIP_MASK {m : Nat} (h : m.testBit 226 = true) (i j : Nat) : RowsHave m (0x520204 + 0x20 * (i % 8) + 0x4 * (j % 4)) :=
  ⟨226, by decide, h, holds_two (by decide) (by decide) (by decide) (by decide) i j⟩
theorem has_PF_CFG {m : Nat} (h : m.testBit 227 = true) (i : Nat) : RowsHave m (0x521000 + 0x100 * (i % 16)) :=
  ⟨227, by decide, h, holds_one (by decide) (by decide) i⟩
theorem has_PF_PULL {m : Nat} (h : m.testBit 228 = true) (i : Nat) : RowsHave m (0x521004 + 0x100 * (i % 16)) :=
  ⟨228, by decide, h, holds_one (by decide) (by decide) i⟩
theorem has_PF_MOVE {m : Nat} (h : m.testBit 229 = true) (i : Nat) : RowsHave m (0x521008 + 0x100 * (i % 16)) :=
  ⟨229, by decide, h, holds_one (by decide) (by decide) i⟩
theorem has_PF_OC {m : Nat} (h : m.testBit 230 = true) (i : Nat) : RowsHave m (0x52100c + 0x100 * (i % 16)) :=
  ⟨230, by decide, h, holds_one (by decide) (by decide) i⟩
theorem has_PF_RISE {m : Nat} (h : m.testBit 231 = true) (i : Nat) : RowsHave m (0x521024 + 0x100 * (i % 16)) :=
  ⟨231, by decide, h, holds_one (by decide) (by decide) i⟩
theorem has_PF_WIN_O {m : Nat} (h : m.testBit 232 = true) (i : Nat) : RowsHave m (0x521010 + 0x100 * (i % 16)) :=
  ⟨232, by decide, h, holds_one (by decide) (by decide) i⟩
theorem has_PF_WIN_C {m : Nat} (h : m.testBit 233 = true) (i : Nat) : RowsHave m (0x521014 + 0x100 * (i % 16)) :=
  ⟨233, by decide, h, holds_one (by decide) (by decide) i⟩
theorem has_PF_KINK {m : Nat} (h : m.testBit 234 = true) (i : Nat) : RowsHave m (0x521018 + 0x100 * (i % 16)) :=
  ⟨234, by decide, h, holds_one (by decide) (by decide) i⟩
theorem has_PF_DIP {m : Nat} (h : m.testBit 235 = true) (i : Nat) : RowsHave m (0x52101c + 0x100 * (i % 16)) :=
  ⟨235, by decide, h, holds_one (by decide) (by decide) i⟩
theorem has_PF_DW {m : Nat} (h : m.testBit 236 = true) (i : Nat) : RowsHave m (0x521020 + 0x100 * (i % 16)) :=
  ⟨236, by decide, h, holds_one (by decide) (by decide) i⟩
theorem has_PH_CFG {m : Nat} (h : m.testBit 237 = true) (i j : Nat) : RowsHave m (0x521040 + 0x100 * (i % 16) + 0x10 * (j % 8)) :=
  ⟨237, by decide, h, holds_two (by decide) (by decide) (by decide) (by decide) i j⟩
theorem has_PH_ITGT {m : Nat} (h : m.testBit 238 = true) (i j : Nat) : RowsHave m (0x521044 + 0x100 * (i % 16) + 0x10 * (j % 8)) :=
  ⟨238, by decide, h, holds_two (by decide) (by decide) (by decide) (by decide) i j⟩
theorem has_PH_BAND {m : Nat} (h : m.testBit 239 = true) (i j : Nat) : RowsHave m (0x521048 + 0x100 * (i % 16) + 0x10 * (j % 8)) :=
  ⟨239, by decide, h, holds_two (by decide) (by decide) (by decide) (by decide) i j⟩
theorem has_PH_TMAX {m : Nat} (h : m.testBit 240 = true) (i j : Nat) : RowsHave m (0x52104c + 0x100 * (i % 16) + 0x10 * (j % 8)) :=
  ⟨240, by decide, h, holds_two (by decide) (by decide) (by decide) (by decide) i j⟩
theorem has_VCH_CFG {m : Nat} (h : m.testBit 241 = true) (i : Nat) : RowsHave m (0x524000 + 0x40 * (i % 128)) :=
  ⟨241, by decide, h, holds_one (by decide) (by decide) i⟩
theorem has_VCH_STATE {m : Nat} (h : m.testBit 242 = true) (i : Nat) : RowsHave m (0x524004 + 0x40 * (i % 128)) :=
  ⟨242, by decide, h, holds_one (by decide) (by decide) i⟩
theorem has_VCH_FAULT {m : Nat} (h : m.testBit 243 = true) (i : Nat) : RowsHave m (0x524008 + 0x40 * (i % 128)) :=
  ⟨243, by decide, h, holds_one (by decide) (by decide) i⟩
theorem has_VCH_CLEAR {m : Nat} (h : m.testBit 244 = true) (i : Nat) : RowsHave m (0x52400c + 0x40 * (i % 128)) :=
  ⟨244, by decide, h, holds_one (by decide) (by decide) i⟩
theorem has_VCH_IMEAS {m : Nat} (h : m.testBit 245 = true) (i : Nat) : RowsHave m (0x524010 + 0x40 * (i % 128)) :=
  ⟨245, by decide, h, holds_one (by decide) (by decide) i⟩
theorem has_VCH_VMEAS {m : Nat} (h : m.testBit 246 = true) (i : Nat) : RowsHave m (0x524014 + 0x40 * (i % 128)) :=
  ⟨246, by decide, h, holds_one (by decide) (by decide) i⟩
theorem has_VCH_HEAT {m : Nat} (h : m.testBit 247 = true) (i : Nat) : RowsHave m (0x524018 + 0x40 * (i % 128)) :=
  ⟨247, by decide, h, holds_one (by decide) (by decide) i⟩
theorem has_VCH_DW {m : Nat} (h : m.testBit 248 = true) (i : Nat) : RowsHave m (0x52401c + 0x40 * (i % 128)) :=
  ⟨248, by decide, h, holds_one (by decide) (by decide) i⟩
theorem has_VCH_SEAL {m : Nat} (h : m.testBit 249 = true) (i : Nat) : RowsHave m (0x524020 + 0x40 * (i % 128)) :=
  ⟨249, by decide, h, holds_one (by decide) (by decide) i⟩
theorem has_VCH_KPEAK {m : Nat} (h : m.testBit 250 = true) (i : Nat) : RowsHave m (0x524024 + 0x40 * (i % 128)) :=
  ⟨250, by decide, h, holds_one (by decide) (by decide) i⟩
theorem has_VCH_CNT {m : Nat} (h : m.testBit 251 = true) (i : Nat) : RowsHave m (0x524028 + 0x40 * (i % 128)) :=
  ⟨251, by decide, h, holds_one (by decide) (by decide) i⟩
theorem has_PWM_CTRL {m : Nat} (h : m.testBit 252 = true) (i : Nat) : RowsHave m (0x528000 + 0x20 * (i % 128)) :=
  ⟨252, by decide, h, holds_one (by decide) (by decide) i⟩
theorem has_PWM_CHOP {m : Nat} (h : m.testBit 253 = true) (i : Nat) : RowsHave m (0x528004 + 0x20 * (i % 128)) :=
  ⟨253, by decide, h, holds_one (by decide) (by decide) i⟩
theorem has_PWM_PERIOD {m : Nat} (h : m.testBit 254 = true) (i : Nat) : RowsHave m (0x528008 + 0x20 * (i % 128)) :=
  ⟨254, by decide, h, holds_one (by decide) (by decide) i⟩
theorem has_PWM_DUTY {m : Nat} (h : m.testBit 255 = true) (i : Nat) : RowsHave m (0x52800c + 0x20 * (i % 128)) :=
  ⟨255, by decide, h, holds_one (by decide) (by decide) i⟩
theorem has_PWM_PHASE {m : Nat} (h : m.testBit 256 = true) (i : Nat) : RowsHave m (0x528010 + 0x20 * (i % 128)) :=
  ⟨256, by decide, h, holds_one (by decide) (by decide) i⟩
theorem has_PWM_ACT_DUTY {m : Nat} (h : m.testBit 257 = true) (i : Nat) : RowsHave m (0x528014 + 0x20 * (i % 128)) :=
  ⟨257, by decide, h, holds_one (by decide) (by decide) i⟩
theorem has_PWM_ACT_PERIOD {m : Nat} (h : m.testBit 258 = true) (i : Nat) : RowsHave m (0x528018 + 0x20 * (i % 128)) :=
  ⟨258, by decide, h, holds_one (by decide) (by decide) i⟩
theorem has_AUXPWM_CTRL {m : Nat} (h : m.testBit 259 = true) (i : Nat) : RowsHave m (0x529000 + 0x20 * (i % 16)) :=
  ⟨259, by decide, h, holds_one (by decide) (by decide) i⟩
theorem has_AUXPWM_CHOP {m : Nat} (h : m.testBit 260 = true) (i : Nat) : RowsHave m (0x529004 + 0x20 * (i % 16)) :=
  ⟨260, by decide, h, holds_one (by decide) (by decide) i⟩
theorem has_AUXPWM_PERIOD {m : Nat} (h : m.testBit 261 = true) (i : Nat) : RowsHave m (0x529008 + 0x20 * (i % 16)) :=
  ⟨261, by decide, h, holds_one (by decide) (by decide) i⟩
theorem has_AUXPWM_DUTY {m : Nat} (h : m.testBit 262 = true) (i : Nat) : RowsHave m (0x52900c + 0x20 * (i % 16)) :=
  ⟨262, by decide, h, holds_one (by decide) (by decide) i⟩
theorem has_AUXPWM_PHASE {m : Nat} (h : m.testBit 263 = true) (i : Nat) : RowsHave m (0x529010 + 0x20 * (i % 16)) :=
  ⟨263, by decide, h, holds_one (by decide) (by decide) i⟩
theorem has_AUXPWM_ACT_DUTY {m : Nat} (h : m.testBit 264 = true) (i : Nat) : RowsHave m (0x529014 + 0x20 * (i % 16)) :=
  ⟨264, by decide, h, holds_one (by decide) (by decide) i⟩
theorem has_AUXPWM_ACT_PERIOD {m : Nat} (h : m.testBit 265 = true) (i : Nat) : RowsHave m (0x529018 + 0x20 * (i % 16)) :=
  ⟨265, by decide, h, holds_one (by decide) (by decide) i⟩
theorem has_LK_CTRL {m : Nat} (h : m.testBit 266 = true) (i : Nat) : RowsHave m (0x530000 + 0x800 * (i % 16)) :=
  ⟨266, by decide, h, holds_one (by decide) (by decide) i⟩
theorem has_LK_STATUS {m : Nat} (h : m.testBit 267 = true) (i : Nat) : RowsHave m (0x530004 + 0x800 * (i % 16)) :=
  ⟨267, by decide, h, holds_one (by decide) (by decide) i⟩
theorem has_LK_EVENT {m : Nat} (h : m.testBit 268 = true) (i : Nat) : RowsHave m (0x530008 + 0x800 * (i % 16)) :=
  ⟨268, by decide, h, holds_one (by decide) (by decide) i⟩
theorem has_LK_CNT {m : Nat} (h : m.testBit 269 = true) (i : Nat) : RowsHave m (0x53000c + 0x800 * (i % 16)) :=
  ⟨269, by decide, h, holds_one (by decide) (by decide) i⟩
theorem has_LK_CNT2 {m : Nat} (h : m.testBit 270 = true) (i : Nat) : RowsHave m (0x530010 + 0x800 * (i % 16)) :=
  ⟨270, by decide, h, holds_one (by decide) (by decide) i⟩
theorem has_LK_HOLD_LO {m : Nat} (h : m.testBit 271 = true) (i : Nat) : RowsHave m (0x530014 + 0x800 * (i % 16)) :=
  ⟨271, by decide, h, holds_one (by decide) (by decide) i⟩
theorem has_LK_HOLD_HI {m : Nat} (h : m.testBit 272 = true) (i : Nat) : RowsHave m (0x530018 + 0x800 * (i % 16)) :=
  ⟨272, by decide, h, holds_one (by decide) (by decide) i⟩
theorem has_LK_SAFE_LO {m : Nat} (h : m.testBit 273 = true) (i : Nat) : RowsHave m (0x53001c + 0x800 * (i % 16)) :=
  ⟨273, by decide, h, holds_one (by decide) (by decide) i⟩
theorem has_LK_SAFE_HI {m : Nat} (h : m.testBit 274 = true) (i : Nat) : RowsHave m (0x530020 + 0x800 * (i % 16)) :=
  ⟨274, by decide, h, holds_one (by decide) (by decide) i⟩
theorem has_LK_VALID {m : Nat} (h : m.testBit 275 = true) (i : Nat) : RowsHave m (0x530024 + 0x800 * (i % 16)) :=
  ⟨275, by decide, h, holds_one (by decide) (by decide) i⟩
theorem has_ND_STATE {m : Nat} (h : m.testBit 276 = true) (i j : Nat) : RowsHave m (0x530100 + 0x800 * (i % 16) + 0x40 * (j % 16)) :=
  ⟨276, by decide, h, holds_two (by decide) (by decide) (by decide) (by decide) i j⟩
theorem has_ND_ID {m : Nat} (h : m.testBit 277 = true) (i j : Nat) : RowsHave m (0x530104 + 0x800 * (i % 16) + 0x40 * (j % 16)) :=
  ⟨277, by decide, h, holds_two (by decide) (by decide) (by decide) (by decide) i j⟩
theorem has_ND_SERIAL {m : Nat} (h : m.testBit 278 = true) (i j : Nat) : RowsHave m (0x530108 + 0x800 * (i % 16) + 0x40 * (j % 16)) :=
  ⟨278, by decide, h, holds_two (by decide) (by decide) (by decide) (by decide) i j⟩
theorem has_ND_CAPS {m : Nat} (h : m.testBit 279 = true) (i j : Nat) : RowsHave m (0x53010c + 0x800 * (i % 16) + 0x40 * (j % 16)) :=
  ⟨279, by decide, h, holds_two (by decide) (by decide) (by decide) (by decide) i j⟩
theorem has_ND_DELAY {m : Nat} (h : m.testBit 280 = true) (i j : Nat) : RowsHave m (0x530110 + 0x800 * (i % 16) + 0x40 * (j % 16)) :=
  ⟨280, by decide, h, holds_two (by decide) (by decide) (by decide) (by decide) i j⟩
theorem has_ND_SPREAD {m : Nat} (h : m.testBit 281 = true) (i j : Nat) : RowsHave m (0x530114 + 0x800 * (i % 16) + 0x40 * (j % 16)) :=
  ⟨281, by decide, h, holds_two (by decide) (by decide) (by decide) (by decide) i j⟩
theorem has_ND_EXPECT {m : Nat} (h : m.testBit 282 = true) (i j : Nat) : RowsHave m (0x530118 + 0x800 * (i % 16) + 0x40 * (j % 16)) :=
  ⟨282, by decide, h, holds_two (by decide) (by decide) (by decide) (by decide) i j⟩
theorem has_ND_CTRL {m : Nat} (h : m.testBit 283 = true) (i j : Nat) : RowsHave m (0x53011c + 0x800 * (i % 16) + 0x40 * (j % 16)) :=
  ⟨283, by decide, h, holds_two (by decide) (by decide) (by decide) (by decide) i j⟩
theorem has_ND_DIAG {m : Nat} (h : m.testBit 284 = true) (i j : Nat) : RowsHave m (0x530120 + 0x800 * (i % 16) + 0x40 * (j % 16)) :=
  ⟨284, by decide, h, holds_two (by decide) (by decide) (by decide) (by decide) i j⟩
theorem has_ND_DIAGV {m : Nat} (h : m.testBit 285 = true) (i j : Nat) : RowsHave m (0x530124 + 0x800 * (i % 16) + 0x40 * (j % 16)) :=
  ⟨285, by decide, h, holds_two (by decide) (by decide) (by decide) (by decide) i j⟩
theorem has_ND_CNT {m : Nat} (h : m.testBit 286 = true) (i j : Nat) : RowsHave m (0x530128 + 0x800 * (i % 16) + 0x40 * (j % 16)) :=
  ⟨286, by decide, h, holds_two (by decide) (by decide) (by decide) (by decide) i j⟩
theorem has_ND_SEQ {m : Nat} (h : m.testBit 287 = true) (i j : Nat) : RowsHave m (0x53012c + 0x800 * (i % 16) + 0x40 * (j % 16)) :=
  ⟨287, by decide, h, holds_two (by decide) (by decide) (by decide) (by decide) i j⟩
theorem has_LP_STATUS {m : Nat} (h : m.testBit 288 = true) : RowsHave m 0x540000 := ⟨288, by decide, h, rfl⟩
theorem has_LP_EVENT {m : Nat} (h : m.testBit 289 = true) : RowsHave m 0x540004 := ⟨289, by decide, h, rfl⟩
theorem has_LP_FLAGSUM {m : Nat} (h : m.testBit 290 = true) (i : Nat) : RowsHave m (0x540008 + 0x4 * (i % 2)) :=
  ⟨290, by decide, h, holds_one (by decide) (by decide) i⟩
theorem has_TB_COMMIT {m : Nat} (h : m.testBit 291 = true) : RowsHave m 0x540010 := ⟨291, by decide, h, rfl⟩
theorem has_LP_CAPVIEW {m : Nat} (h : m.testBit 292 = true) : RowsHave m 0x540014 := ⟨292, by decide, h, rfl⟩
theorem has_LP_MERGE {m : Nat} (h : m.testBit 293 = true) : RowsHave m 0x540018 := ⟨293, by decide, h, rfl⟩
theorem has_TG_CTRL {m : Nat} (h : m.testBit 294 = true) (i : Nat) : RowsHave m (0x540100 + 0x40 * (i % 8)) :=
  ⟨294, by decide, h, holds_one (by decide) (by decide) i⟩
theorem has_TG_AMP {m : Nat} (h : m.testBit 295 = true) (i : Nat) : RowsHave m (0x540104 + 0x40 * (i % 8)) :=
  ⟨295, by decide, h, holds_one (by decide) (by decide) i⟩
theorem has_TG_F0 {m : Nat} (h : m.testBit 296 = true) (i : Nat) : RowsHave m (0x540108 + 0x40 * (i % 8)) :=
  ⟨296, by decide, h, holds_one (by decide) (by decide) i⟩
theorem has_TG_F1 {m : Nat} (h : m.testBit 297 = true) (i : Nat) : RowsHave m (0x54010c + 0x40 * (i % 8)) :=
  ⟨297, by decide, h, holds_one (by decide) (by decide) i⟩
theorem has_TG_DUR {m : Nat} (h : m.testBit 298 = true) (i : Nat) : RowsHave m (0x540110 + 0x40 * (i % 8)) :=
  ⟨298, by decide, h, holds_one (by decide) (by decide) i⟩
theorem has_CP_CTRL {m : Nat} (h : m.testBit 299 = true) (i : Nat) : RowsHave m (0x540114 + 0x40 * (i % 8)) :=
  ⟨299, by decide, h, holds_one (by decide) (by decide) i⟩
theorem has_CP_COUNT {m : Nat} (h : m.testBit 300 = true) (i : Nat) : RowsHave m (0x540118 + 0x40 * (i % 8)) :=
  ⟨300, by decide, h, holds_one (by decide) (by decide) i⟩
theorem has_CP_START_LO {m : Nat} (h : m.testBit 301 = true) (i : Nat) : RowsHave m (0x54011c + 0x40 * (i % 8)) :=
  ⟨301, by decide, h, holds_one (by decide) (by decide) i⟩
theorem has_CP_START_HI {m : Nat} (h : m.testBit 302 = true) (i : Nat) : RowsHave m (0x540120 + 0x40 * (i % 8)) :=
  ⟨302, by decide, h, holds_one (by decide) (by decide) i⟩
theorem has_PC_CFG {m : Nat} (h : m.testBit 303 = true) (i : Nat) : RowsHave m (0x540300 + 0x20 * (i % 8)) :=
  ⟨303, by decide, h, holds_one (by decide) (by decide) i⟩
theorem has_PC_CPR {m : Nat} (h : m.testBit 304 = true) (i : Nat) : RowsHave m (0x540304 + 0x20 * (i % 8)) :=
  ⟨304, by decide, h, holds_one (by decide) (by decide) i⟩
theorem has_PC_COUNT {m : Nat} (h : m.testBit 305 = true) (i : Nat) : RowsHave m (0x540308 + 0x20 * (i % 8)) :=
  ⟨305, by decide, h, holds_one (by decide) (by decide) i⟩
theorem has_PC_POS {m : Nat} (h : m.testBit 306 = true) (i : Nat) : RowsHave m (0x54030c + 0x20 * (i % 8)) :=
  ⟨306, by decide, h, holds_one (by decide) (by decide) i⟩
theorem has_PC_VEL {m : Nat} (h : m.testBit 307 = true) (i : Nat) : RowsHave m (0x540310 + 0x20 * (i % 8)) :=
  ⟨307, by decide, h, holds_one (by decide) (by decide) i⟩
theorem has_PC_STAT {m : Nat} (h : m.testBit 308 = true) (i : Nat) : RowsHave m (0x540314 + 0x20 * (i % 8)) :=
  ⟨308, by decide, h, holds_one (by decide) (by decide) i⟩
theorem has_HIN {m : Nat} (h : m.testBit 309 = true) (i : Nat) : RowsHave m (0x540400 + 0x4 * (i % 64)) :=
  ⟨309, by decide, h, holds_one (by decide) (by decide) i⟩
theorem has_HOUT {m : Nat} (h : m.testBit 310 = true) (i : Nat) : RowsHave m (0x540500 + 0x4 * (i % 64)) :=
  ⟨310, by decide, h, holds_one (by decide) (by decide) i⟩
theorem has_SL_CTRL {m : Nat} (h : m.testBit 311 = true) (i : Nat) : RowsHave m (0x541000 + 0x100 * (i % 64)) :=
  ⟨311, by decide, h, holds_one (by decide) (by decide) i⟩
theorem has_SL_STATE {m : Nat} (h : m.testBit 312 = true) (i : Nat) : RowsHave m (0x541004 + 0x100 * (i % 64)) :=
  ⟨312, by decide, h, holds_one (by decide) (by decide) i⟩
theorem has_SL_FLAGS {m : Nat} (h : m.testBit 313 = true) (i : Nat) : RowsHave m (0x541008 + 0x100 * (i % 64)) :=
  ⟨313, by decide, h, holds_one (by decide) (by decide) i⟩
theorem has_SL_SETP {m : Nat} (h : m.testBit 314 = true) (i : Nat) : RowsHave m (0x54100c + 0x100 * (i % 64)) :=
  ⟨314, by decide, h, holds_one (by decide) (by decide) i⟩
theorem has_SL_RAMP {m : Nat} (h : m.testBit 315 = true) (i : Nat) : RowsHave m (0x541010 + 0x100 * (i % 64)) :=
  ⟨315, by decide, h, holds_one (by decide) (by decide) i⟩
theorem has_SL_OVR {m : Nat} (h : m.testBit 316 = true) (i : Nat) : RowsHave m (0x541014 + 0x100 * (i % 64)) :=
  ⟨316, by decide, h, holds_one (by decide) (by decide) i⟩
theorem has_SL_RUNS {m : Nat} (h : m.testBit 317 = true) (i : Nat) : RowsHave m (0x541018 + 0x100 * (i % 64)) :=
  ⟨317, by decide, h, holds_one (by decide) (by decide) i⟩
theorem has_SL_LAT {m : Nat} (h : m.testBit 318 = true) (i : Nat) : RowsHave m (0x54101c + 0x100 * (i % 64)) :=
  ⟨318, by decide, h, holds_one (by decide) (by decide) i⟩
theorem has_SL_OUT {m : Nat} (h : m.testBit 319 = true) (i j : Nat) : RowsHave m (0x541020 + 0x100 * (i % 64) + 0x4 * (j % 8)) :=
  ⟨319, by decide, h, holds_two (by decide) (by decide) (by decide) (by decide) i j⟩
theorem has_SL_CFG {m : Nat} (h : m.testBit 320 = true) (i : Nat) : RowsHave m (0x541040 + 0x100 * (i % 64)) :=
  ⟨320, by decide, h, holds_one (by decide) (by decide) i⟩
theorem has_SL_TIMER {m : Nat} (h : m.testBit 321 = true) (i : Nat) : RowsHave m (0x541044 + 0x100 * (i % 64)) :=
  ⟨321, by decide, h, holds_one (by decide) (by decide) i⟩
theorem has_SL_SPCFG {m : Nat} (h : m.testBit 322 = true) (i : Nat) : RowsHave m (0x541048 + 0x100 * (i % 64)) :=
  ⟨322, by decide, h, holds_one (by decide) (by decide) i⟩
theorem has_SL_SSLEW {m : Nat} (h : m.testBit 323 = true) (i : Nat) : RowsHave m (0x54104c + 0x100 * (i % 64)) :=
  ⟨323, by decide, h, holds_one (by decide) (by decide) i⟩
theorem has_SL_SPSLEW {m : Nat} (h : m.testBit 324 = true) (i : Nat) : RowsHave m (0x541050 + 0x100 * (i % 64)) :=
  ⟨324, by decide, h, holds_one (by decide) (by decide) i⟩
theorem has_SL_IN {m : Nat} (h : m.testBit 325 = true) (i j : Nat) : RowsHave m (0x541060 + 0x100 * (i % 64) + 0x4 * (j % 16)) :=
  ⟨325, by decide, h, holds_two (by decide) (by decide) (by decide) (by decide) i j⟩
theorem has_SL_OUTCFG {m : Nat} (h : m.testBit 326 = true) (i j : Nat) : RowsHave m (0x5410a0 + 0x100 * (i % 64) + 0x8 * (j % 8)) :=
  ⟨326, by decide, h, holds_two (by decide) (by decide) (by decide) (by decide) i j⟩
theorem has_SL_OUTSAFE {m : Nat} (h : m.testBit 327 = true) (i j : Nat) : RowsHave m (0x5410a4 + 0x100 * (i % 64) + 0x8 * (j % 8)) :=
  ⟨327, by decide, h, holds_two (by decide) (by decide) (by decide) (by decide) i j⟩
theorem has_TBL {m : Nat} (h : m.testBit 328 = true) (i j : Nat) : RowsHave m (0x548000 + 0x400 * (i % 16) + 0x4 * (j % 256)) :=
  ⟨328, by decide, h, holds_two (by decide) (by decide) (by decide) (by decide) i j⟩
theorem has_PROG {m : Nat} (h : m.testBit 329 = true) (i j : Nat) : RowsHave m (0x550000 + 0x4000 * (i % 8) + 0x4 * (j % 4096)) :=
  ⟨329, by decide, h, holds_two (by decide) (by decide) (by decide) (by decide) i j⟩
theorem has_CAP {m : Nat} (h : m.testBit 330 = true) (i : Nat) : RowsHave m (0x570000 + 0x4 * (i % 8192)) :=
  ⟨330, by decide, h, holds_one (by decide) (by decide) i⟩
theorem has_DATA {m : Nat} (h : m.testBit 331 = true) (i j : Nat) : RowsHave m (0x578000 + 0x100 * (i % 64) + 0x4 * (j % 64)) :=
  ⟨331, by decide, h, holds_two (by decide) (by decide) (by decide) (by decide) i j⟩
theorem has_COEF {m : Nat} (h : m.testBit 332 = true) (i j : Nat) : RowsHave m (0x57c000 + 0x100 * (i % 64) + 0x4 * (j % 64)) :=
  ⟨332, by decide, h, holds_two (by decide) (by decide) (by decide) (by decide) i j⟩
theorem has_LS_STATUS {m : Nat} (h : m.testBit 333 = true) : RowsHave m 0x580000 := ⟨333, by decide, h, rfl⟩
theorem has_LS_EVENT {m : Nat} (h : m.testBit 334 = true) : RowsHave m 0x580004 := ⟨334, by decide, h, rfl⟩
theorem has_LS_VBAT {m : Nat} (h : m.testBit 335 = true) : RowsHave m 0x580008 := ⟨335, by decide, h, rfl⟩
theorem has_LS_WD {m : Nat} (h : m.testBit 336 = true) : RowsHave m 0x58000c := ⟨336, by decide, h, rfl⟩
theorem has_LS_CFG {m : Nat} (h : m.testBit 337 = true) (i : Nat) : RowsHave m (0x580100 + 0x40 * (i % 32)) :=
  ⟨337, by decide, h, holds_one (by decide) (by decide) i⟩
theorem has_LS_CFG2 {m : Nat} (h : m.testBit 338 = true) (i : Nat) : RowsHave m (0x580104 + 0x40 * (i % 32)) :=
  ⟨338, by decide, h, holds_one (by decide) (by decide) i⟩
theorem has_LS_SET {m : Nat} (h : m.testBit 339 = true) (i : Nat) : RowsHave m (0x580108 + 0x40 * (i % 32)) :=
  ⟨339, by decide, h, holds_one (by decide) (by decide) i⟩
theorem has_LS_PERIOD {m : Nat} (h : m.testBit 340 = true) (i : Nat) : RowsHave m (0x58010c + 0x40 * (i % 32)) :=
  ⟨340, by decide, h, holds_one (by decide) (by decide) i⟩
theorem has_LS_DUTY {m : Nat} (h : m.testBit 341 = true) (i : Nat) : RowsHave m (0x580110 + 0x40 * (i % 32)) :=
  ⟨341, by decide, h, holds_one (by decide) (by decide) i⟩
theorem has_LS_STATE {m : Nat} (h : m.testBit 342 = true) (i : Nat) : RowsHave m (0x580114 + 0x40 * (i % 32)) :=
  ⟨342, by decide, h, holds_one (by decide) (by decide) i⟩
theorem has_LS_FAULT {m : Nat} (h : m.testBit 343 = true) (i : Nat) : RowsHave m (0x580118 + 0x40 * (i % 32)) :=
  ⟨343, by decide, h, holds_one (by decide) (by decide) i⟩
theorem has_LS_CLEAR {m : Nat} (h : m.testBit 344 = true) (i : Nat) : RowsHave m (0x58011c + 0x40 * (i % 32)) :=
  ⟨344, by decide, h, holds_one (by decide) (by decide) i⟩
theorem has_LS_IMEAS {m : Nat} (h : m.testBit 345 = true) (i : Nat) : RowsHave m (0x580120 + 0x40 * (i % 32)) :=
  ⟨345, by decide, h, holds_one (by decide) (by decide) i⟩
theorem has_LS_VOUT {m : Nat} (h : m.testBit 346 = true) (i : Nat) : RowsHave m (0x580124 + 0x40 * (i % 32)) :=
  ⟨346, by decide, h, holds_one (by decide) (by decide) i⟩
theorem has_LS_TEMP {m : Nat} (h : m.testBit 347 = true) (i : Nat) : RowsHave m (0x580128 + 0x40 * (i % 32)) :=
  ⟨347, by decide, h, holds_one (by decide) (by decide) i⟩
theorem has_LS_CLAMPE {m : Nat} (h : m.testBit 348 = true) (i : Nat) : RowsHave m (0x58012c + 0x40 * (i % 32)) :=
  ⟨348, by decide, h, holds_one (by decide) (by decide) i⟩
theorem has_LS_CNT {m : Nat} (h : m.testBit 349 = true) (i : Nat) : RowsHave m (0x580130 + 0x40 * (i % 32)) :=
  ⟨349, by decide, h, holds_one (by decide) (by decide) i⟩
theorem has_FIO_STATUS {m : Nat} (h : m.testBit 350 = true) : RowsHave m 0x590000 := ⟨350, by decide, h, rfl⟩
theorem has_FIO_EVENT {m : Nat} (h : m.testBit 351 = true) : RowsHave m 0x590004 := ⟨351, by decide, h, rfl⟩
theorem has_FIO_BAR {m : Nat} (h : m.testBit 352 = true) : RowsHave m 0x590008 := ⟨352, by decide, h, rfl⟩
theorem has_FIO_BARCNT {m : Nat} (h : m.testBit 353 = true) : RowsHave m 0x59000c := ⟨353, by decide, h, rfl⟩
theorem has_FIO_VFIELD {m : Nat} (h : m.testBit 354 = true) : RowsHave m 0x590010 := ⟨354, by decide, h, rfl⟩
theorem has_FIO_GRP {m : Nat} (h : m.testBit 355 = true) : RowsHave m 0x59002c := ⟨355, by decide, h, rfl⟩
theorem has_FIO_LEVEL {m : Nat} (h : m.testBit 356 = true) (i : Nat) : RowsHave m (0x590014 + 0x4 * (i % 2)) :=
  ⟨356, by decide, h, holds_one (by decide) (by decide) i⟩
theorem has_FIO_COS {m : Nat} (h : m.testBit 357 = true) (i : Nat) : RowsHave m (0x59001c + 0x4 * (i % 2)) :=
  ⟨357, by decide, h, holds_one (by decide) (by decide) i⟩
theorem has_FIO_OWIN {m : Nat} (h : m.testBit 358 = true) (i : Nat) : RowsHave m (0x590024 + 0x4 * (i % 2)) :=
  ⟨358, by decide, h, holds_one (by decide) (by decide) i⟩
theorem has_FI_CFG {m : Nat} (h : m.testBit 359 = true) (i : Nat) : RowsHave m (0x590100 + 0x10 * (i % 64)) :=
  ⟨359, by decide, h, holds_one (by decide) (by decide) i⟩
theorem has_FI_STAT {m : Nat} (h : m.testBit 360 = true) (i : Nat) : RowsHave m (0x590104 + 0x10 * (i % 64)) :=
  ⟨360, by decide, h, holds_one (by decide) (by decide) i⟩
theorem has_FI_STAMP {m : Nat} (h : m.testBit 361 = true) (i : Nat) : RowsHave m (0x590108 + 0x10 * (i % 64)) :=
  ⟨361, by decide, h, holds_one (by decide) (by decide) i⟩
theorem has_FI_COUNT {m : Nat} (h : m.testBit 362 = true) (i : Nat) : RowsHave m (0x59010c + 0x10 * (i % 64)) :=
  ⟨362, by decide, h, holds_one (by decide) (by decide) i⟩
theorem has_FO_CFG {m : Nat} (h : m.testBit 363 = true) (i : Nat) : RowsHave m (0x590600 + 0x40 * (i % 32)) :=
  ⟨363, by decide, h, holds_one (by decide) (by decide) i⟩
theorem has_FO_SET {m : Nat} (h : m.testBit 364 = true) (i : Nat) : RowsHave m (0x590604 + 0x40 * (i % 32)) :=
  ⟨364, by decide, h, holds_one (by decide) (by decide) i⟩
theorem has_FO_PERIOD {m : Nat} (h : m.testBit 365 = true) (i : Nat) : RowsHave m (0x590608 + 0x40 * (i % 32)) :=
  ⟨365, by decide, h, holds_one (by decide) (by decide) i⟩
theorem has_FO_DUTY {m : Nat} (h : m.testBit 366 = true) (i : Nat) : RowsHave m (0x59060c + 0x40 * (i % 32)) :=
  ⟨366, by decide, h, holds_one (by decide) (by decide) i⟩
theorem has_FO_STATE {m : Nat} (h : m.testBit 367 = true) (i : Nat) : RowsHave m (0x590610 + 0x40 * (i % 32)) :=
  ⟨367, by decide, h, holds_one (by decide) (by decide) i⟩
theorem has_FO_FAULT {m : Nat} (h : m.testBit 368 = true) (i : Nat) : RowsHave m (0x590614 + 0x40 * (i % 32)) :=
  ⟨368, by decide, h, holds_one (by decide) (by decide) i⟩
theorem has_FO_CLEAR {m : Nat} (h : m.testBit 369 = true) (i : Nat) : RowsHave m (0x590618 + 0x40 * (i % 32)) :=
  ⟨369, by decide, h, holds_one (by decide) (by decide) i⟩
theorem has_FO_IMEAS {m : Nat} (h : m.testBit 370 = true) (i : Nat) : RowsHave m (0x59061c + 0x40 * (i % 32)) :=
  ⟨370, by decide, h, holds_one (by decide) (by decide) i⟩
theorem has_FO_VOUT {m : Nat} (h : m.testBit 371 = true) (i : Nat) : RowsHave m (0x590620 + 0x40 * (i % 32)) :=
  ⟨371, by decide, h, holds_one (by decide) (by decide) i⟩
theorem has_FO_CNT {m : Nat} (h : m.testBit 372 = true) (i : Nat) : RowsHave m (0x590624 + 0x40 * (i % 32)) :=
  ⟨372, by decide, h, holds_one (by decide) (by decide) i⟩
theorem has_BUS_STATUS {m : Nat} (h : m.testBit 373 = true) : RowsHave m 0x5a0000 := ⟨373, by decide, h, rfl⟩
theorem has_BUS_EVENT {m : Nat} (h : m.testBit 374 = true) : RowsHave m 0x5a0004 := ⟨374, by decide, h, rfl⟩
theorem has_BP_CTRL {m : Nat} (h : m.testBit 375 = true) (i : Nat) : RowsHave m (0x5a0100 + 0x100 * (i % 6)) :=
  ⟨375, by decide, h, holds_one (by decide) (by decide) i⟩
theorem has_BP_STATUS {m : Nat} (h : m.testBit 376 = true) (i : Nat) : RowsHave m (0x5a0104 + 0x100 * (i % 6)) :=
  ⟨376, by decide, h, holds_one (by decide) (by decide) i⟩
theorem has_BP_ERRCNT {m : Nat} (h : m.testBit 377 = true) (i : Nat) : RowsHave m (0x5a0108 + 0x100 * (i % 6)) :=
  ⟨377, by decide, h, holds_one (by decide) (by decide) i⟩
theorem has_BP_EVENT {m : Nat} (h : m.testBit 378 = true) (i : Nat) : RowsHave m (0x5a010c + 0x100 * (i % 6)) :=
  ⟨378, by decide, h, holds_one (by decide) (by decide) i⟩
theorem has_BP_ERRLOG {m : Nat} (h : m.testBit 379 = true) (i : Nat) : RowsHave m (0x5a0110 + 0x100 * (i % 6)) :=
  ⟨379, by decide, h, holds_one (by decide) (by decide) i⟩
theorem has_BP_CNT_A {m : Nat} (h : m.testBit 380 = true) (i : Nat) : RowsHave m (0x5a0114 + 0x100 * (i % 6)) :=
  ⟨380, by decide, h, holds_one (by decide) (by decide) i⟩
theorem has_BP_CNT_B {m : Nat} (h : m.testBit 381 = true) (i : Nat) : RowsHave m (0x5a0118 + 0x100 * (i % 6)) :=
  ⟨381, by decide, h, holds_one (by decide) (by decide) i⟩
theorem has_BP_CNT_C {m : Nat} (h : m.testBit 382 = true) (i : Nat) : RowsHave m (0x5a011c + 0x100 * (i % 6)) :=
  ⟨382, by decide, h, holds_one (by decide) (by decide) i⟩
theorem has_BP_CNT_D {m : Nat} (h : m.testBit 383 = true) (i : Nat) : RowsHave m (0x5a0120 + 0x100 * (i % 6)) :=
  ⟨383, by decide, h, holds_one (by decide) (by decide) i⟩
theorem has_BP_CNT_E {m : Nat} (h : m.testBit 384 = true) (i : Nat) : RowsHave m (0x5a0124 + 0x100 * (i % 6)) :=
  ⟨384, by decide, h, holds_one (by decide) (by decide) i⟩
theorem has_BP_CNT_F {m : Nat} (h : m.testBit 385 = true) (i : Nat) : RowsHave m (0x5a0128 + 0x100 * (i % 6)) :=
  ⟨385, by decide, h, holds_one (by decide) (by decide) i⟩
theorem has_BP_CNT_G {m : Nat} (h : m.testBit 386 = true) (i : Nat) : RowsHave m (0x5a012c + 0x100 * (i % 6)) :=
  ⟨386, by decide, h, holds_one (by decide) (by decide) i⟩
theorem has_BP_NBT {m : Nat} (h : m.testBit 387 = true) (i : Nat) : RowsHave m (0x5a0130 + 0x100 * (i % 6)) :=
  ⟨387, by decide, h, holds_one (by decide) (by decide) i⟩
theorem has_BP_DBT {m : Nat} (h : m.testBit 388 = true) (i : Nat) : RowsHave m (0x5a0134 + 0x100 * (i % 6)) :=
  ⟨388, by decide, h, holds_one (by decide) (by decide) i⟩
theorem has_BP_TT {m : Nat} (h : m.testBit 389 = true) (i : Nat) : RowsHave m (0x5a0138 + 0x100 * (i % 6)) :=
  ⟨389, by decide, h, holds_one (by decide) (by decide) i⟩
theorem has_BP_CYCLEN {m : Nat} (h : m.testBit 390 = true) (i : Nat) : RowsHave m (0x5a013c + 0x100 * (i % 6)) :=
  ⟨390, by decide, h, holds_one (by decide) (by decide) i⟩
theorem has_BP_REFID {m : Nat} (h : m.testBit 391 = true) (i : Nat) : RowsHave m (0x5a0140 + 0x100 * (i % 6)) :=
  ⟨391, by decide, h, holds_one (by decide) (by decide) i⟩
theorem has_BP_HALT {m : Nat} (h : m.testBit 392 = true) (i : Nat) : RowsHave m (0x5a0144 + 0x100 * (i % 6)) :=
  ⟨392, by decide, h, holds_one (by decide) (by decide) i⟩
theorem has_BP_HALTKEY {m : Nat} (h : m.testBit 393 = true) (i : Nat) : RowsHave m (0x5a0148 + 0x100 * (i % 6)) :=
  ⟨393, by decide, h, holds_one (by decide) (by decide) i⟩
theorem has_BP_WAKE {m : Nat} (h : m.testBit 394 = true) (i : Nat) : RowsHave m (0x5a014c + 0x100 * (i % 6)) :=
  ⟨394, by decide, h, holds_one (by decide) (by decide) i⟩
theorem has_BP_WAKEM {m : Nat} (h : m.testBit 395 = true) (i : Nat) : RowsHave m (0x5a0150 + 0x100 * (i % 6)) :=
  ⟨395, by decide, h, holds_one (by decide) (by decide) i⟩
theorem has_BP_WAKED {m : Nat} (h : m.testBit 396 = true) (i : Nat) : RowsHave m (0x5a0154 + 0x100 * (i % 6)) :=
  ⟨396, by decide, h, holds_one (by decide) (by decide) i⟩
theorem has_BP_CYCTIME {m : Nat} (h : m.testBit 397 = true) (i : Nat) : RowsHave m (0x5a0158 + 0x100 * (i % 6)) :=
  ⟨397, by decide, h, holds_one (by decide) (by decide) i⟩
theorem has_BP_REFFT_LO {m : Nat} (h : m.testBit 398 = true) (i : Nat) : RowsHave m (0x5a015c + 0x100 * (i % 6)) :=
  ⟨398, by decide, h, holds_one (by decide) (by decide) i⟩
theorem has_BP_REFFT_HI {m : Nat} (h : m.testBit 399 = true) (i : Nat) : RowsHave m (0x5a0160 + 0x100 * (i % 6)) :=
  ⟨399, by decide, h, holds_one (by decide) (by decide) i⟩
theorem has_SM_IDX {m : Nat} (h : m.testBit 400 = true) (i : Nat) : RowsHave m (0x5a0164 + 0x100 * (i % 6)) :=
  ⟨400, by decide, h, holds_one (by decide) (by decide) i⟩
theorem has_SM_DATA {m : Nat} (h : m.testBit 401 = true) (i : Nat) : RowsHave m (0x5a0168 + 0x100 * (i % 6)) :=
  ⟨401, by decide, h, holds_one (by decide) (by decide) i⟩
theorem has_SM_DATA2 {m : Nat} (h : m.testBit 402 = true) (i : Nat) : RowsHave m (0x5a016c + 0x100 * (i % 6)) :=
  ⟨402, by decide, h, holds_one (by decide) (by decide) i⟩
theorem has_BV_SEL {m : Nat} (h : m.testBit 403 = true) (i : Nat) : RowsHave m (0x5a1000 + 0x80 * (i % 16)) :=
  ⟨403, by decide, h, holds_one (by decide) (by decide) i⟩
theorem has_BV_STAT {m : Nat} (h : m.testBit 404 = true) (i : Nat) : RowsHave m (0x5a1004 + 0x80 * (i % 16)) :=
  ⟨404, by decide, h, holds_one (by decide) (by decide) i⟩
theorem has_BV_HDR {m : Nat} (h : m.testBit 405 = true) (i : Nat) : RowsHave m (0x5a1008 + 0x80 * (i % 16)) :=
  ⟨405, by decide, h, holds_one (by decide) (by decide) i⟩
theorem has_BV_META {m : Nat} (h : m.testBit 406 = true) (i : Nat) : RowsHave m (0x5a100c + 0x80 * (i % 16)) :=
  ⟨406, by decide, h, holds_one (by decide) (by decide) i⟩
theorem has_BV_STAMP_LO {m : Nat} (h : m.testBit 407 = true) (i : Nat) : RowsHave m (0x5a1010 + 0x80 * (i % 16)) :=
  ⟨407, by decide, h, holds_one (by decide) (by decide) i⟩
theorem has_BV_STAMP_HI {m : Nat} (h : m.testBit 408 = true) (i : Nat) : RowsHave m (0x5a1014 + 0x80 * (i % 16)) :=
  ⟨408, by decide, h, holds_one (by decide) (by decide) i⟩
theorem has_BV_CFG_ID {m : Nat} (h : m.testBit 409 = true) (i : Nat) : RowsHave m (0x5a1018 + 0x80 * (i % 16)) :=
  ⟨409, by decide, h, holds_one (by decide) (by decide) i⟩
theorem has_BV_CFG_MASK {m : Nat} (h : m.testBit 410 = true) (i : Nat) : RowsHave m (0x5a101c + 0x80 * (i % 16)) :=
  ⟨410, by decide, h, holds_one (by decide) (by decide) i⟩
theorem has_BV_DATA {m : Nat} (h : m.testBit 411 = true) (i j : Nat) : RowsHave m (0x5a1020 + 0x80 * (i % 16) + 0x4 * (j % 16)) :=
  ⟨411, by decide, h, holds_two (by decide) (by decide) (by decide) (by decide) i j⟩
theorem has_HP_STATUS {m : Nat} (h : m.testBit 412 = true) : RowsHave m 0x5b0000 := ⟨412, by decide, h, rfl⟩
theorem has_HP_EVENT {m : Nat} (h : m.testBit 413 = true) : RowsHave m 0x5b0004 := ⟨413, by decide, h, rfl⟩
theorem has_SUP_IRQ {m : Nat} (h : m.testBit 414 = true) : RowsHave m 0x5b0008 := ⟨414, by decide, h, rfl⟩
theorem has_SUP_IRQ_EN {m : Nat} (h : m.testBit 415 = true) : RowsHave m 0x5b000c := ⟨415, by decide, h, rfl⟩
theorem has_SUP_VEC {m : Nat} (h : m.testBit 416 = true) : RowsHave m 0x5b0010 := ⟨416, by decide, h, rfl⟩
theorem has_HP_DIRECT {m : Nat} (h : m.testBit 417 = true) (i : Nat) : RowsHave m (0x5b0020 + 0x4 * (i % 4)) :=
  ⟨417, by decide, h, holds_one (by decide) (by decide) i⟩
theorem has_HP_HALT {m : Nat} (h : m.testBit 418 = true) : RowsHave m 0x5b0040 := ⟨418, by decide, h, rfl⟩
theorem has_CTX_CFG {m : Nat} (h : m.testBit 419 = true) (i : Nat) : RowsHave m (0x5b1000 + 0x20 * (i % 1024)) :=
  ⟨419, by decide, h, holds_one (by decide) (by decide) i⟩
theorem has_CTX_PERM {m : Nat} (h : m.testBit 420 = true) (i : Nat) : RowsHave m (0x5b1004 + 0x20 * (i % 1024)) :=
  ⟨420, by decide, h, holds_one (by decide) (by decide) i⟩
theorem has_CTX_READ {m : Nat} (h : m.testBit 421 = true) (i : Nat) : RowsHave m (0x5b1008 + 0x20 * (i % 1024)) :=
  ⟨421, by decide, h, holds_one (by decide) (by decide) i⟩
theorem has_CTX_OWN {m : Nat} (h : m.testBit 422 = true) (i : Nat) : RowsHave m (0x5b100c + 0x20 * (i % 1024)) :=
  ⟨422, by decide, h, holds_one (by decide) (by decide) i⟩
theorem has_CTX_INH {m : Nat} (h : m.testBit 423 = true) (i : Nat) : RowsHave m (0x5b1010 + 0x20 * (i % 1024)) :=
  ⟨423, by decide, h, holds_one (by decide) (by decide) i⟩
theorem has_CTX_CNT {m : Nat} (h : m.testBit 424 = true) (i : Nat) : RowsHave m (0x5b1014 + 0x20 * (i % 1024)) :=
  ⟨424, by decide, h, holds_one (by decide) (by decide) i⟩
theorem has_CTX_SERVED {m : Nat} (h : m.testBit 425 = true) (i : Nat) : RowsHave m (0x5b1018 + 0x20 * (i % 1024)) :=
  ⟨425, by decide, h, holds_one (by decide) (by decide) i⟩
theorem has_OWN {m : Nat} (h : m.testBit 426 = true) (i : Nat) : RowsHave m (0x5be000 + 0x4 * (i % 1024)) :=
  ⟨426, by decide, h, holds_one (by decide) (by decide) i⟩
theorem has_MSIX0_ADDR_LO {m : Nat} (h : m.testBit 427 = true) (i : Nat) : RowsHave m (0x5ba000 + 0x10 * (i % 64)) :=
  ⟨427, by decide, h, holds_one (by decide) (by decide) i⟩
theorem has_MSIX0_ADDR_HI {m : Nat} (h : m.testBit 428 = true) (i : Nat) : RowsHave m (0x5ba004 + 0x10 * (i % 64)) :=
  ⟨428, by decide, h, holds_one (by decide) (by decide) i⟩
theorem has_MSIX0_DATA {m : Nat} (h : m.testBit 429 = true) (i : Nat) : RowsHave m (0x5ba008 + 0x10 * (i % 64)) :=
  ⟨429, by decide, h, holds_one (by decide) (by decide) i⟩
theorem has_MSIX0_CTRL {m : Nat} (h : m.testBit 430 = true) (i : Nat) : RowsHave m (0x5ba00c + 0x10 * (i % 64)) :=
  ⟨430, by decide, h, holds_one (by decide) (by decide) i⟩
theorem has_MSIX0_PBA {m : Nat} (h : m.testBit 431 = true) (i : Nat) : RowsHave m (0x5bb000 + 0x4 * (i % 2)) :=
  ⟨431, by decide, h, holds_one (by decide) (by decide) i⟩
theorem has_MSIX1_ADDR_LO {m : Nat} (h : m.testBit 432 = true) (i : Nat) : RowsHave m (0x5bc000 + 0x10 * (i % 64)) :=
  ⟨432, by decide, h, holds_one (by decide) (by decide) i⟩
theorem has_MSIX1_ADDR_HI {m : Nat} (h : m.testBit 433 = true) (i : Nat) : RowsHave m (0x5bc004 + 0x10 * (i % 64)) :=
  ⟨433, by decide, h, holds_one (by decide) (by decide) i⟩
theorem has_MSIX1_DATA {m : Nat} (h : m.testBit 434 = true) (i : Nat) : RowsHave m (0x5bc008 + 0x10 * (i % 64)) :=
  ⟨434, by decide, h, holds_one (by decide) (by decide) i⟩
theorem has_MSIX1_CTRL {m : Nat} (h : m.testBit 435 = true) (i : Nat) : RowsHave m (0x5bc00c + 0x10 * (i % 64)) :=
  ⟨435, by decide, h, holds_one (by decide) (by decide) i⟩
theorem has_MSIX1_PBA {m : Nat} (h : m.testBit 436 = true) (i : Nat) : RowsHave m (0x5bd000 + 0x4 * (i % 2)) :=
  ⟨436, by decide, h, holds_one (by decide) (by decide) i⟩
theorem has_RES_STATE {m : Nat} (h : m.testBit 437 = true) : RowsHave m 0x5c0000 := ⟨437, by decide, h, rfl⟩
theorem has_RES_EVENT {m : Nat} (h : m.testBit 438 = true) : RowsHave m 0x5c0004 := ⟨438, by decide, h, rfl⟩
theorem has_RES_CTRL {m : Nat} (h : m.testBit 439 = true) : RowsHave m 0x5c0008 := ⟨439, by decide, h, rfl⟩
theorem has_RES_CMD {m : Nat} (h : m.testBit 440 = true) : RowsHave m 0x5c000c := ⟨440, by decide, h, rfl⟩
theorem has_RES_CAUSE {m : Nat} (h : m.testBit 441 = true) : RowsHave m 0x5c0010 := ⟨441, by decide, h, rfl⟩
theorem has_RES_HSCAUSE {m : Nat} (h : m.testBit 442 = true) : RowsHave m 0x5c0014 := ⟨442, by decide, h, rfl⟩
theorem has_RES_HSFT_LO {m : Nat} (h : m.testBit 443 = true) : RowsHave m 0x5c0018 := ⟨443, by decide, h, rfl⟩
theorem has_RES_HSFT_HI {m : Nat} (h : m.testBit 444 = true) : RowsHave m 0x5c001c := ⟨444, by decide, h, rfl⟩
theorem has_RES_TIMES {m : Nat} (h : m.testBit 445 = true) : RowsHave m 0x5c0020 := ⟨445, by decide, h, rfl⟩
theorem has_RES_CNT_A {m : Nat} (h : m.testBit 446 = true) : RowsHave m 0x5c0024 := ⟨446, by decide, h, rfl⟩
theorem has_RES_CNT_B {m : Nat} (h : m.testBit 447 = true) : RowsHave m 0x5c0028 := ⟨447, by decide, h, rfl⟩
theorem has_RES_CNT_C {m : Nat} (h : m.testBit 448 = true) : RowsHave m 0x5c002c := ⟨448, by decide, h, rfl⟩
theorem has_RES_ECCLOG {m : Nat} (h : m.testBit 449 = true) : RowsHave m 0x5c0030 := ⟨449, by decide, h, rfl⟩
theorem has_RES_ECCADDR {m : Nat} (h : m.testBit 450 = true) : RowsHave m 0x5c0034 := ⟨450, by decide, h, rfl⟩
theorem has_REF_STAT {m : Nat} (h : m.testBit 451 = true) (i : Nat) : RowsHave m (0x5c0100 + 0x10 * (i % 5)) :=
  ⟨451, by decide, h, holds_one (by decide) (by decide) i⟩
theorem has_REF_D01 {m : Nat} (h : m.testBit 452 = true) (i : Nat) : RowsHave m (0x5c0104 + 0x10 * (i % 5)) :=
  ⟨452, by decide, h, holds_one (by decide) (by decide) i⟩
theorem has_REF_D0A {m : Nat} (h : m.testBit 453 = true) (i : Nat) : RowsHave m (0x5c0108 + 0x10 * (i % 5)) :=
  ⟨453, by decide, h, holds_one (by decide) (by decide) i⟩
theorem has_REF_D1A {m : Nat} (h : m.testBit 454 = true) (i : Nat) : RowsHave m (0x5c010c + 0x10 * (i % 5)) :=
  ⟨454, by decide, h, holds_one (by decide) (by decide) i⟩
theorem has_PWR_STATUS {m : Nat} (h : m.testBit 455 = true) : RowsHave m 0x5d0000 := ⟨455, by decide, h, rfl⟩
theorem has_PWR_EVENT {m : Nat} (h : m.testBit 456 = true) : RowsHave m 0x5d0004 := ⟨456, by decide, h, rfl⟩
theorem has_PWR_AOLOG {m : Nat} (h : m.testBit 457 = true) : RowsHave m 0x5d0008 := ⟨457, by decide, h, rfl⟩
theorem has_PWR_BO {m : Nat} (h : m.testBit 458 = true) : RowsHave m 0x5d000c := ⟨458, by decide, h, rfl⟩
theorem has_PWR_VHOLD {m : Nat} (h : m.testBit 459 = true) : RowsHave m 0x5d0010 := ⟨459, by decide, h, rfl⟩
theorem has_PWR_CMD {m : Nat} (h : m.testBit 460 = true) : RowsHave m 0x5d0014 := ⟨460, by decide, h, rfl⟩
theorem has_PWR_WAKE {m : Nat} (h : m.testBit 461 = true) : RowsHave m 0x5d0018 := ⟨461, by decide, h, rfl⟩
theorem has_LD_CTRL {m : Nat} (h : m.testBit 462 = true) : RowsHave m 0x5d001c := ⟨462, by decide, h, rfl⟩
theorem has_RTC_NOW_LO {m : Nat} (h : m.testBit 463 = true) : RowsHave m 0x5d0020 := ⟨463, by decide, h, rfl⟩
theorem has_RTC_NOW_HI {m : Nat} (h : m.testBit 464 = true) : RowsHave m 0x5d0024 := ⟨464, by decide, h, rfl⟩
theorem has_RTC_ALARM_LO {m : Nat} (h : m.testBit 465 = true) : RowsHave m 0x5d0028 := ⟨465, by decide, h, rfl⟩
theorem has_RTC_ALARM_HI {m : Nat} (h : m.testBit 466 = true) : RowsHave m 0x5d002c := ⟨466, by decide, h, rfl⟩
theorem has_SEQ_A {m : Nat} (h : m.testBit 467 = true) : RowsHave m 0x5d0030 := ⟨467, by decide, h, rfl⟩
theorem has_SEQ_B {m : Nat} (h : m.testBit 468 = true) : RowsHave m 0x5d0034 := ⟨468, by decide, h, rfl⟩
theorem has_SEQ_LD {m : Nat} (h : m.testBit 469 = true) : RowsHave m 0x5d0038 := ⟨469, by decide, h, rfl⟩
theorem has_PWR_TIMES {m : Nat} (h : m.testBit 470 = true) : RowsHave m 0x5d003c := ⟨470, by decide, h, rfl⟩
theorem has_BANK_IDX {m : Nat} (h : m.testBit 471 = true) : RowsHave m 0x5d0040 := ⟨471, by decide, h, rfl⟩
theorem has_BANK_DATA {m : Nat} (h : m.testBit 472 = true) : RowsHave m 0x5d0044 := ⟨472, by decide, h, rfl⟩
theorem has_REC_EVENT {m : Nat} (h : m.testBit 473 = true) : RowsHave m 0x5e0000 := ⟨473, by decide, h, rfl⟩
theorem has_CV_STATUS {m : Nat} (h : m.testBit 474 = true) : RowsHave m 0x5e0004 := ⟨474, by decide, h, rfl⟩
theorem has_CV_DROPPED {m : Nat} (h : m.testBit 475 = true) : RowsHave m 0x5e0008 := ⟨475, by decide, h, rfl⟩
theorem has_CV_IDX {m : Nat} (h : m.testBit 476 = true) : RowsHave m 0x5e000c := ⟨476, by decide, h, rfl⟩
theorem has_CV_DATA {m : Nat} (h : m.testBit 477 = true) : RowsHave m 0x5e0010 := ⟨477, by decide, h, rfl⟩
theorem has_CV_ERASE {m : Nat} (h : m.testBit 478 = true) : RowsHave m 0x5e0014 := ⟨478, by decide, h, rfl⟩
theorem has_CV_QLOST {m : Nat} (h : m.testBit 479 = true) : RowsHave m 0x5e0018 := ⟨479, by decide, h, rfl⟩
theorem has_MU_WRITTEN {m : Nat} (h : m.testBit 480 = true) : RowsHave m 0x5e0020 := ⟨480, by decide, h, rfl⟩
theorem has_MU_CTRL {m : Nat} (h : m.testBit 481 = true) : RowsHave m 0x5e0024 := ⟨481, by decide, h, rfl⟩
theorem has_MU_IDX {m : Nat} (h : m.testBit 482 = true) : RowsHave m 0x5e0028 := ⟨482, by decide, h, rfl⟩
theorem has_MU_DATA {m : Nat} (h : m.testBit 483 = true) : RowsHave m 0x5e002c := ⟨483, by decide, h, rfl⟩
theorem has_MU_SKIP {m : Nat} (h : m.testBit 484 = true) : RowsHave m 0x5e0030 := ⟨484, by decide, h, rfl⟩
theorem has_TAG_IDX {m : Nat} (h : m.testBit 485 = true) : RowsHave m 0x5e0040 := ⟨485, by decide, h, rfl⟩
theorem has_TAG_DATA {m : Nat} (h : m.testBit 486 = true) : RowsHave m 0x5e0044 := ⟨486, by decide, h, rfl⟩
theorem has_TAG_WCOUNT {m : Nat} (h : m.testBit 487 = true) : RowsHave m 0x5e0048 := ⟨487, by decide, h, rfl⟩
theorem has_PMC_CTRL {m : Nat} (h : m.testBit 488 = true) : RowsHave m 0x5e0100 := ⟨488, by decide, h, rfl⟩
theorem has_PMC_OVF_LO {m : Nat} (h : m.testBit 489 = true) : RowsHave m 0x5e0104 := ⟨489, by decide, h, rfl⟩
theorem has_PMC_OVF_HI {m : Nat} (h : m.testBit 490 = true) : RowsHave m 0x5e0108 := ⟨490, by decide, h, rfl⟩
theorem has_PMC_CFG {m : Nat} (h : m.testBit 491 = true) (i : Nat) : RowsHave m (0x5e0200 + 0x10 * (i % 64)) :=
  ⟨491, by decide, h, holds_one (by decide) (by decide) i⟩
theorem has_PMC_LO {m : Nat} (h : m.testBit 492 = true) (i : Nat) : RowsHave m (0x5e0204 + 0x10 * (i % 64)) :=
  ⟨492, by decide, h, holds_one (by decide) (by decide) i⟩
theorem has_PMC_HI {m : Nat} (h : m.testBit 493 = true) (i : Nat) : RowsHave m (0x5e0208 + 0x10 * (i % 64)) :=
  ⟨493, by decide, h, holds_one (by decide) (by decide) i⟩
theorem has_SMP_CTRL {m : Nat} (h : m.testBit 494 = true) : RowsHave m 0x5e0600 := ⟨494, by decide, h, rfl⟩
theorem has_SMP_PERIOD {m : Nat} (h : m.testBit 495 = true) : RowsHave m 0x5e0604 := ⟨495, by decide, h, rfl⟩
theorem has_SMP_COUNT {m : Nat} (h : m.testBit 496 = true) : RowsHave m 0x5e0608 := ⟨496, by decide, h, rfl⟩
theorem has_SMP_BUF {m : Nat} (h : m.testBit 497 = true) (i j : Nat) : RowsHave m (0x5e1000 + 0x10 * (i % 1024) + 0x4 * (j % 4)) :=
  ⟨497, by decide, h, holds_two (by decide) (by decide) (by decide) (by decide) i j⟩

theorem in_AID_ADDR_WORD {m : Nat} (h : m.testBit 60 = true) : RowsHave m Reg.AID_ADDR_WORD.addr := has_AID_ADDR h
theorem in_AS_PWR_CLIP {m : Nat} (h : m.testBit 55 = true) (i j : Nat) : RowsHave m (Reg.AS_PWR_CLIP i j).addr := has_AS_PWR h i j
theorem in_AS_PWR_RMS {m : Nat} (h : m.testBit 55 = true) (i j : Nat) : RowsHave m (Reg.AS_PWR_RMS i j).addr := has_AS_PWR h i j
theorem in_AS_STAT_ALIGNED {m : Nat} (h : m.testBit 52 = true) (i : Nat) : RowsHave m (Reg.AS_STAT_ALIGNED i).addr := has_AS_STAT h i
theorem in_AS_STAT_CLK_PRESENT {m : Nat} (h : m.testBit 52 = true) (i : Nat) : RowsHave m (Reg.AS_STAT_CLK_PRESENT i).addr := has_AS_STAT h i
theorem in_AS_STAT_PORT_LOST {m : Nat} (h : m.testBit 52 = true) (i : Nat) : RowsHave m (Reg.AS_STAT_PORT_LOST i).addr := has_AS_STAT h i
theorem in_BANK_IDX_WORD {m : Nat} (h : m.testBit 471 = true) : RowsHave m Reg.BANK_IDX_WORD.addr := has_BANK_IDX h
theorem in_BANK_STAT_BANK_EVENT {m : Nat} (h : m.testBit 56 = true) : RowsHave m Reg.BANK_STAT_BANK_EVENT.addr := has_BANK_STAT h
theorem in_BANK_STAT_FENCED {m : Nat} (h : m.testBit 56 = true) : RowsHave m Reg.BANK_STAT_FENCED.addr := has_BANK_STAT h
theorem in_BANK_STAT_SPARE_FOR {m : Nat} (h : m.testBit 56 = true) : RowsHave m Reg.BANK_STAT_SPARE_FOR.addr := has_BANK_STAT h
theorem in_BANK_STAT_SPARE_USED {m : Nat} (h : m.testBit 56 = true) : RowsHave m Reg.BANK_STAT_SPARE_USED.addr := has_BANK_STAT h
theorem in_BB_STATUS_BB_ON {m : Nat} (h : m.testBit 50 = true) : RowsHave m Reg.BB_STATUS_BB_ON.addr := has_BB_STATUS h
theorem in_BB_STATUS_HOT_VALID {m : Nat} (h : m.testBit 50 = true) : RowsHave m Reg.BB_STATUS_HOT_VALID.addr := has_BB_STATUS h
theorem in_BB_STATUS_TRACKING {m : Nat} (h : m.testBit 50 = true) : RowsHave m Reg.BB_STATUS_TRACKING.addr := has_BB_STATUS h
theorem in_BP_CNT_C_PEX_N {m : Nat} (h : m.testBit 382 = true) (i : Nat) : RowsHave m (Reg.BP_CNT_C_PEX_N i).addr := has_BP_CNT_C h i
theorem in_BP_CNT_D_MISSED_N {m : Nat} (h : m.testBit 383 = true) (i : Nat) : RowsHave m (Reg.BP_CNT_D_MISSED_N i).addr := has_BP_CNT_D h i
theorem in_BP_CNT_D_ONESHOT_N {m : Nat} (h : m.testBit 383 = true) (i : Nat) : RowsHave m (Reg.BP_CNT_D_ONESHOT_N i).addr := has_BP_CNT_D h i
theorem in_BP_CNT_E_NOMATCH_N {m : Nat} (h : m.testBit 384 = true) (i : Nat) : RowsHave m (Reg.BP_CNT_E_NOMATCH_N i).addr := has_BP_CNT_E h i
theorem in_BP_CNT_E_RTR_N {m : Nat} (h : m.testBit 384 = true) (i : Nat) : RowsHave m (Reg.BP_CNT_E_RTR_N i).addr := has_BP_CNT_E h i
theorem in_BP_CNT_F_LOST_N {m : Nat} (h : m.testBit 385 = true) (i : Nat) : RowsHave m (Reg.BP_CNT_F_LOST_N i).addr := has_BP_CNT_F h i
theorem in_BP_CNT_F_RX_OVF_N {m : Nat} (h : m.testBit 385 = true) (i : Nat) : RowsHave m (Reg.BP_CNT_F_RX_OVF_N i).addr := has_BP_CNT_F h i
theorem in_BP_CNT_G_HALT_N {m : Nat} (h : m.testBit 386 = true) (i : Nat) : RowsHave m (Reg.BP_CNT_G_HALT_N i).addr := has_BP_CNT_G h i
theorem in_BP_CNT_G_QFULL_N {m : Nat} (h : m.testBit 386 = true) (i : Nat) : RowsHave m (Reg.BP_CNT_G_QFULL_N i).addr := has_BP_CNT_G h i
theorem in_BP_CTRL_AUTO_REC {m : Nat} (h : m.testBit 375 = true) (i : Nat) : RowsHave m (Reg.BP_CTRL_AUTO_REC i).addr := has_BP_CTRL h i
theorem in_BP_CTRL_MODE {m : Nat} (h : m.testBit 375 = true) (i : Nat) : RowsHave m (Reg.BP_CTRL_MODE i).addr := has_BP_CTRL h i
theorem in_BP_ERRCNT_REC {m : Nat} (h : m.testBit 377 = true) (i : Nat) : RowsHave m (Reg.BP_ERRCNT_REC i).addr := has_BP_ERRCNT h i
theorem in_BP_ERRCNT_RP {m : Nat} (h : m.testBit 377 = true) (i : Nat) : RowsHave m (Reg.BP_ERRCNT_RP i).addr := has_BP_ERRCNT h i
theorem in_BP_ERRCNT_TEC {m : Nat} (h : m.testBit 377 = true) (i : Nat) : RowsHave m (Reg.BP_ERRCNT_TEC i).addr := has_BP_ERRCNT h i
theorem in_BP_ERRLOG_DATA_PHASE {m : Nat} (h : m.testBit 379 = true) (i : Nat) : RowsHave m (Reg.BP_ERRLOG_DATA_PHASE i).addr := has_BP_ERRLOG h i
theorem in_BP_ERRLOG_LEC {m : Nat} (h : m.testBit 379 = true) (i : Nat) : RowsHave m (Reg.BP_ERRLOG_LEC i).addr := has_BP_ERRLOG h i
theorem in_BP_ERRLOG_REF {m : Nat} (h : m.testBit 379 = true) (i : Nat) : RowsHave m (Reg.BP_ERRLOG_REF i).addr := has_BP_ERRLOG h i
theorem in_BP_EVENT_BUS_OFF {m : Nat} (h : m.testBit 378 = true) (i : Nat) : RowsHave m (Reg.BP_EVENT_BUS_OFF i).addr := has_BP_EVENT h i
theorem in_BP_EVENT_CFG_ERR {m : Nat} (h : m.testBit 378 = true) (i : Nat) : RowsHave m (Reg.BP_EVENT_CFG_ERR i).addr := has_BP_EVENT h i
theorem in_BP_EVENT_LOST {m : Nat} (h : m.testBit 378 = true) (i : Nat) : RowsHave m (Reg.BP_EVENT_LOST i).addr := has_BP_EVENT h i
theorem in_BP_EVENT_MASTER_CHG {m : Nat} (h : m.testBit 378 = true) (i : Nat) : RowsHave m (Reg.BP_EVENT_MASTER_CHG i).addr := has_BP_EVENT h i
theorem in_BP_EVENT_MISSED {m : Nat} (h : m.testBit 378 = true) (i : Nat) : RowsHave m (Reg.BP_EVENT_MISSED i).addr := has_BP_EVENT h i
theorem in_BP_EVENT_ONESHOT_FAIL {m : Nat} (h : m.testBit 378 = true) (i : Nat) : RowsHave m (Reg.BP_EVENT_ONESHOT_FAIL i).addr := has_BP_EVENT h i
theorem in_BP_EVENT_PASSIVE {m : Nat} (h : m.testBit 378 = true) (i : Nat) : RowsHave m (Reg.BP_EVENT_PASSIVE i).addr := has_BP_EVENT h i
theorem in_BP_EVENT_RECOVERED {m : Nat} (h : m.testBit 378 = true) (i : Nat) : RowsHave m (Reg.BP_EVENT_RECOVERED i).addr := has_BP_EVENT h i
theorem in_BP_EVENT_REF_DUP {m : Nat} (h : m.testBit 378 = true) (i : Nat) : RowsHave m (Reg.BP_EVENT_REF_DUP i).addr := has_BP_EVENT h i
theorem in_BP_EVENT_REF_LOST {m : Nat} (h : m.testBit 378 = true) (i : Nat) : RowsHave m (Reg.BP_EVENT_REF_LOST i).addr := has_BP_EVENT h i
theorem in_BP_EVENT_RX_OVF {m : Nat} (h : m.testBit 378 = true) (i : Nat) : RowsHave m (Reg.BP_EVENT_RX_OVF i).addr := has_BP_EVENT h i
theorem in_BP_EVENT_WARN {m : Nat} (h : m.testBit 378 = true) (i : Nat) : RowsHave m (Reg.BP_EVENT_WARN i).addr := has_BP_EVENT h i
theorem in_BP_STATUS_CYCLE {m : Nat} (h : m.testBit 376 = true) (i : Nat) : RowsHave m (Reg.BP_STATUS_CYCLE i).addr := has_BP_STATUS h i
theorem in_BP_STATUS_ERR {m : Nat} (h : m.testBit 376 = true) (i : Nat) : RowsHave m (Reg.BP_STATUS_ERR i).addr := has_BP_STATUS h i
theorem in_BP_STATUS_QUEUED {m : Nat} (h : m.testBit 376 = true) (i : Nat) : RowsHave m (Reg.BP_STATUS_QUEUED i).addr := has_BP_STATUS h i
theorem in_BP_STATUS_ROLE {m : Nat} (h : m.testBit 376 = true) (i : Nat) : RowsHave m (Reg.BP_STATUS_ROLE i).addr := has_BP_STATUS h i
theorem in_BP_STATUS_STATE {m : Nat} (h : m.testBit 376 = true) (i : Nat) : RowsHave m (Reg.BP_STATUS_STATE i).addr := has_BP_STATUS h i
theorem in_BP_STATUS_STRANDED {m : Nat} (h : m.testBit 376 = true) (i : Nat) : RowsHave m (Reg.BP_STATUS_STRANDED i).addr := has_BP_STATUS h i
theorem in_BP_STATUS_SYNCED {m : Nat} (h : m.testBit 376 = true) (i : Nat) : RowsHave m (Reg.BP_STATUS_SYNCED i).addr := has_BP_STATUS h i
theorem in_BP_STATUS_WARN {m : Nat} (h : m.testBit 376 = true) (i : Nat) : RowsHave m (Reg.BP_STATUS_WARN i).addr := has_BP_STATUS h i
theorem in_BST_CTRL_BST_EN {m : Nat} (h : m.testBit 219 = true) (i : Nat) : RowsHave m (Reg.BST_CTRL_BST_EN i).addr := has_BST_CTRL h i
theorem in_BST_MEAS_MEAS {m : Nat} (h : m.testBit 223 = true) (i : Nat) : RowsHave m (Reg.BST_MEAS_MEAS i).addr := has_BST_MEAS h i
theorem in_BST_REF_REF {m : Nat} (h : m.testBit 222 = true) (i : Nat) : RowsHave m (Reg.BST_REF_REF i).addr := has_BST_REF h i
theorem in_BST_SET_SET {m : Nat} (h : m.testBit 220 = true) (i : Nat) : RowsHave m (Reg.BST_SET_SET i).addr := has_BST_SET h i
theorem in_BST_STAT_BST_OFF {m : Nat} (h : m.testBit 224 = true) (i : Nat) : RowsHave m (Reg.BST_STAT_BST_OFF i).addr := has_BST_STAT h i
theorem in_BST_STAT_LOW {m : Nat} (h : m.testBit 224 = true) (i : Nat) : RowsHave m (Reg.BST_STAT_LOW i).addr := has_BST_STAT h i
theorem in_BST_STAT_OV {m : Nat} (h : m.testBit 224 = true) (i : Nat) : RowsHave m (Reg.BST_STAT_OV i).addr := has_BST_STAT h i
theorem in_BST_STAT_SLEWING {m : Nat} (h : m.testBit 224 = true) (i : Nat) : RowsHave m (Reg.BST_STAT_SLEWING i).addr := has_BST_STAT h i
theorem in_BUS_EVENT_HALT {m : Nat} (h : m.testBit 374 = true) : RowsHave m Reg.BUS_EVENT_HALT.addr := has_BUS_EVENT h
theorem in_BV_STAT_RESULT {m : Nat} (h : m.testBit 404 = true) (i : Nat) : RowsHave m (Reg.BV_STAT_RESULT i).addr := has_BV_STAT h i
theorem in_CAL_HI_LEAP_NOW {m : Nat} (h : m.testBit 119 = true) : RowsHave m Reg.CAL_HI_LEAP_NOW.addr := has_CAL_HI h
theorem in_CODE_ADDR_WORD {m : Nat} (h : m.testBit 57 = true) : RowsHave m Reg.CODE_ADDR_WORD.addr := has_CODE_ADDR h
theorem in_COEF_C {m : Nat} (h : m.testBit 332 = true) (i j : Nat) : RowsHave m (Reg.COEF_C i j).addr := has_COEF h i j
theorem in_CP_COUNT_WORDS {m : Nat} (h : m.testBit 300 = true) (i : Nat) : RowsHave m (Reg.CP_COUNT_WORDS i).addr := has_CP_COUNT h i
theorem in_CP_CTRL_ARM {m : Nat} (h : m.testBit 299 = true) (i : Nat) : RowsHave m (Reg.CP_CTRL_ARM i).addr := has_CP_CTRL h i
theorem in_CP_CTRL_FULL {m : Nat} (h : m.testBit 299 = true) (i : Nat) : RowsHave m (Reg.CP_CTRL_FULL i).addr := has_CP_CTRL h i
theorem in_CTX_CFG_BIND_PEND {m : Nat} (h : m.testBit 419 = true) (i : Nat) : RowsHave m (Reg.CTX_CFG_BIND_PEND i).addr := has_CTX_CFG h i
theorem in_CTX_CFG_BOUND {m : Nat} (h : m.testBit 419 = true) (i : Nat) : RowsHave m (Reg.CTX_CFG_BOUND i).addr := has_CTX_CFG h i
theorem in_CTX_CNT_REFUSED_N {m : Nat} (h : m.testBit 424 = true) (i : Nat) : RowsHave m (Reg.CTX_CNT_REFUSED_N i).addr := has_CTX_CNT h i
theorem in_CTX_CNT_UNBOUND_N {m : Nat} (h : m.testBit 424 = true) (i : Nat) : RowsHave m (Reg.CTX_CNT_UNBOUND_N i).addr := has_CTX_CNT h i
theorem in_CTX_PERM_COUNTERS_GRANT {m : Nat} (h : m.testBit 420 = true) (i : Nat) : RowsHave m (Reg.CTX_PERM_COUNTERS_GRANT i).addr := has_CTX_PERM h i
theorem in_CTX_SERVED_SERVED {m : Nat} (h : m.testBit 425 = true) (i : Nat) : RowsHave m (Reg.CTX_SERVED_SERVED i).addr := has_CTX_SERVED h i
theorem in_CV_DROPPED_DROPPED {m : Nat} (h : m.testBit 475 = true) : RowsHave m Reg.CV_DROPPED_DROPPED.addr := has_CV_DROPPED h
theorem in_CV_IDX_RECORD {m : Nat} (h : m.testBit 476 = true) : RowsHave m Reg.CV_IDX_RECORD.addr := has_CV_IDX h
theorem in_CV_IDX_WORD {m : Nat} (h : m.testBit 476 = true) : RowsHave m Reg.CV_IDX_WORD.addr := has_CV_IDX h
theorem in_CV_QLOST_QLOST_N {m : Nat} (h : m.testBit 479 = true) : RowsHave m Reg.CV_QLOST_QLOST_N.addr := has_CV_QLOST h
theorem in_CV_STATUS_CORRUPT {m : Nat} (h : m.testBit 474 = true) : RowsHave m Reg.CV_STATUS_CORRUPT.addr := has_CV_STATUS h
theorem in_CV_STATUS_COUNT {m : Nat} (h : m.testBit 474 = true) : RowsHave m Reg.CV_STATUS_COUNT.addr := has_CV_STATUS h
theorem in_CV_STATUS_ERASING {m : Nat} (h : m.testBit 474 = true) : RowsHave m Reg.CV_STATUS_ERASING.addr := has_CV_STATUS h
theorem in_CV_STATUS_FULL {m : Nat} (h : m.testBit 474 = true) : RowsHave m Reg.CV_STATUS_FULL.addr := has_CV_STATUS h
theorem in_CW_CQ_TAIL_INDEX {m : Nat} (h : m.testBit 9 = true) (i : Nat) : RowsHave m (Reg.CW_CQ_TAIL_INDEX i).addr := has_CW_CQ_TAIL h i
theorem in_CW_CQ_TAIL_PHASE {m : Nat} (h : m.testBit 9 = true) (i : Nat) : RowsHave m (Reg.CW_CQ_TAIL_PHASE i).addr := has_CW_CQ_TAIL h i
theorem in_CW_RING_EN {m : Nat} (h : m.testBit 5 = true) (i : Nat) : RowsHave m (Reg.CW_RING_EN i).addr := has_CW_RING h i
theorem in_CW_RING_RING_ERR {m : Nat} (h : m.testBit 5 = true) (i : Nat) : RowsHave m (Reg.CW_RING_RING_ERR i).addr := has_CW_RING h i
theorem in_CW_RSTAT_RESULT {m : Nat} (h : m.testBit 14 = true) (i : Nat) : RowsHave m (Reg.CW_RSTAT_RESULT i).addr := has_CW_RSTAT h i
theorem in_CW_SQ_HEAD_INDEX {m : Nat} (h : m.testBit 7 = true) (i : Nat) : RowsHave m (Reg.CW_SQ_HEAD_INDEX i).addr := has_CW_SQ_HEAD h i
theorem in_CW_SQ_TAIL_INDEX {m : Nat} (h : m.testBit 6 = true) (i : Nat) : RowsHave m (Reg.CW_SQ_TAIL_INDEX i).addr := has_CW_SQ_TAIL h i
theorem in_CW_STR_CFG_EN {m : Nat} (h : m.testBit 17 = true) (i j : Nat) : RowsHave m (Reg.CW_STR_CFG_EN i j).addr := has_CW_STR_CFG h i j
theorem in_CW_STR_DROP_DROP_N {m : Nat} (h : m.testBit 20 = true) (i j : Nat) : RowsHave m (Reg.CW_STR_DROP_DROP_N i j).addr := has_CW_STR_DROP h i j
theorem in_CW_STR_WR_INDEX {m : Nat} (h : m.testBit 18 = true) (i j : Nat) : RowsHave m (Reg.CW_STR_WR_INDEX i j).addr := has_CW_STR_WR h i j
theorem in_DATA_D {m : Nat} (h : m.testBit 331 = true) (i j : Nat) : RowsHave m (Reg.DATA_D i j).addr := has_DATA h i j
theorem in_DISC_TRIM_TRIM {m : Nat} (h : m.testBit 117 = true) : RowsHave m Reg.DISC_TRIM_TRIM.addr := has_DISC_TRIM h
theorem in_FIO_BARCNT_CRC_N {m : Nat} (h : m.testBit 353 = true) : RowsHave m Reg.FIO_BARCNT_CRC_N.addr := has_FIO_BARCNT h
theorem in_FIO_BARCNT_SKIP_N {m : Nat} (h : m.testBit 353 = true) : RowsHave m Reg.FIO_BARCNT_SKIP_N.addr := has_FIO_BARCNT h
theorem in_FIO_COS_COS {m : Nat} (h : m.testBit 357 = true) (i : Nat) : RowsHave m (Reg.FIO_COS_COS i).addr := has_FIO_COS h i
theorem in_FIO_EVENT_BAR_LOST {m : Nat} (h : m.testBit 351 = true) : RowsHave m Reg.FIO_EVENT_BAR_LOST.addr := has_FIO_EVENT h
theorem in_FIO_EVENT_CFG_ERR {m : Nat} (h : m.testBit 351 = true) : RowsHave m Reg.FIO_EVENT_CFG_ERR.addr := has_FIO_EVENT h
theorem in_FIO_EVENT_COS {m : Nat} (h : m.testBit 351 = true) : RowsHave m Reg.FIO_EVENT_COS.addr := has_FIO_EVENT h
theorem in_FIO_EVENT_OVERLOAD {m : Nat} (h : m.testBit 351 = true) : RowsHave m Reg.FIO_EVENT_OVERLOAD.addr := has_FIO_EVENT h
theorem in_FIO_EVENT_OVERTEMP {m : Nat} (h : m.testBit 351 = true) : RowsHave m Reg.FIO_EVENT_OVERTEMP.addr := has_FIO_EVENT h
theorem in_FIO_EVENT_OW_IN {m : Nat} (h : m.testBit 351 = true) : RowsHave m Reg.FIO_EVENT_OW_IN.addr := has_FIO_EVENT h
theorem in_FIO_EVENT_OW_OUT {m : Nat} (h : m.testBit 351 = true) : RowsHave m Reg.FIO_EVENT_OW_OUT.addr := has_FIO_EVENT h
theorem in_FIO_EVENT_SHADOW_ERR {m : Nat} (h : m.testBit 351 = true) : RowsHave m Reg.FIO_EVENT_SHADOW_ERR.addr := has_FIO_EVENT h
theorem in_FIO_EVENT_SWITCH_BAD {m : Nat} (h : m.testBit 351 = true) : RowsHave m Reg.FIO_EVENT_SWITCH_BAD.addr := has_FIO_EVENT h
theorem in_FIO_EVENT_VFIELD_UV {m : Nat} (h : m.testBit 351 = true) : RowsHave m Reg.FIO_EVENT_VFIELD_UV.addr := has_FIO_EVENT h
theorem in_FIO_LEVEL_LEVEL {m : Nat} (h : m.testBit 356 = true) (i : Nat) : RowsHave m (Reg.FIO_LEVEL_LEVEL i).addr := has_FIO_LEVEL h i
theorem in_FIO_OWIN_OW {m : Nat} (h : m.testBit 358 = true) (i : Nat) : RowsHave m (Reg.FIO_OWIN_OW i).addr := has_FIO_OWIN h i
theorem in_FIO_STATUS_BAR_OK {m : Nat} (h : m.testBit 350 = true) : RowsHave m Reg.FIO_STATUS_BAR_OK.addr := has_FIO_STATUS h
theorem in_FIO_STATUS_SAFE {m : Nat} (h : m.testBit 350 = true) : RowsHave m Reg.FIO_STATUS_SAFE.addr := has_FIO_STATUS h
theorem in_FIO_STATUS_SHADOW_OK {m : Nat} (h : m.testBit 350 = true) : RowsHave m Reg.FIO_STATUS_SHADOW_OK.addr := has_FIO_STATUS h
theorem in_FIO_STATUS_SILENT {m : Nat} (h : m.testBit 350 = true) : RowsHave m Reg.FIO_STATUS_SILENT.addr := has_FIO_STATUS h
theorem in_FIO_STATUS_STOP {m : Nat} (h : m.testBit 350 = true) : RowsHave m Reg.FIO_STATUS_STOP.addr := has_FIO_STATUS h
theorem in_FIO_STATUS_VFIELD_UV {m : Nat} (h : m.testBit 350 = true) : RowsHave m Reg.FIO_STATUS_VFIELD_UV.addr := has_FIO_STATUS h
theorem in_FIO_VFIELD_V {m : Nat} (h : m.testBit 354 = true) : RowsHave m Reg.FIO_VFIELD_V.addr := has_FIO_VFIELD h
theorem in_FI_COUNT_COUNT {m : Nat} (h : m.testBit 362 = true) (i : Nat) : RowsHave m (Reg.FI_COUNT_COUNT i).addr := has_FI_COUNT h i
theorem in_FI_STAMP_STAMP {m : Nat} (h : m.testBit 361 = true) (i : Nat) : RowsHave m (Reg.FI_STAMP_STAMP i).addr := has_FI_STAMP h i
theorem in_FI_STAT_LAST_DIR {m : Nat} (h : m.testBit 360 = true) (i : Nat) : RowsHave m (Reg.FI_STAT_LAST_DIR i).addr := has_FI_STAT h i
theorem in_FI_STAT_LEVEL {m : Nat} (h : m.testBit 360 = true) (i : Nat) : RowsHave m (Reg.FI_STAT_LEVEL i).addr := has_FI_STAT h i
theorem in_FI_STAT_OPEN_WIRE {m : Nat} (h : m.testBit 360 = true) (i : Nat) : RowsHave m (Reg.FI_STAT_OPEN_WIRE i).addr := has_FI_STAT h i
theorem in_FI_STAT_STALE {m : Nat} (h : m.testBit 360 = true) (i : Nat) : RowsHave m (Reg.FI_STAT_STALE i).addr := has_FI_STAT h i
theorem in_FO_CNT_OVL_N {m : Nat} (h : m.testBit 372 = true) (i : Nat) : RowsHave m (Reg.FO_CNT_OVL_N i).addr := has_FO_CNT h i
theorem in_FO_DUTY_DUTY {m : Nat} (h : m.testBit 366 = true) (i : Nat) : RowsHave m (Reg.FO_DUTY_DUTY i).addr := has_FO_DUTY h i
theorem in_FO_FAULT_SWITCH_BAD {m : Nat} (h : m.testBit 368 = true) (i : Nat) : RowsHave m (Reg.FO_FAULT_SWITCH_BAD i).addr := has_FO_FAULT h i
theorem in_FO_IMEAS_I {m : Nat} (h : m.testBit 370 = true) (i : Nat) : RowsHave m (Reg.FO_IMEAS_I i).addr := has_FO_IMEAS h i
theorem in_FO_PERIOD_PERIOD {m : Nat} (h : m.testBit 365 = true) (i : Nat) : RowsHave m (Reg.FO_PERIOD_PERIOD i).addr := has_FO_PERIOD h i
theorem in_FO_SET_ON {m : Nat} (h : m.testBit 364 = true) (i : Nat) : RowsHave m (Reg.FO_SET_ON i).addr := has_FO_SET h i
theorem in_FO_STATE_IN_LIMIT {m : Nat} (h : m.testBit 367 = true) (i : Nat) : RowsHave m (Reg.FO_STATE_IN_LIMIT i).addr := has_FO_STATE h i
theorem in_FO_VOUT_V {m : Nat} (h : m.testBit 371 = true) (i : Nat) : RowsHave m (Reg.FO_VOUT_V i).addr := has_FO_VOUT h i
theorem in_FRM_NO_NUMBER {m : Nat} (h : m.testBit 122 = true) : RowsHave m Reg.FRM_NO_NUMBER.addr := has_FRM_NO h
theorem in_FRM_STAT_HEADSKIP {m : Nat} (h : m.testBit 125 = true) : RowsHave m Reg.FRM_STAT_HEADSKIP.addr := has_FRM_STAT h
theorem in_FRM_STAT_SKIPPED {m : Nat} (h : m.testBit 125 = true) : RowsHave m Reg.FRM_STAT_SKIPPED.addr := has_FRM_STAT h
theorem in_GCH_CARR_NCO_INC {m : Nat} (h : m.testBit 139 = true) (i : Nat) : RowsHave m (Reg.GCH_CARR_NCO_INC i).addr := has_GCH_CARR_NCO h i
theorem in_GCH_CFG_PORT {m : Nat} (h : m.testBit 131 = true) (i : Nat) : RowsHave m (Reg.GCH_CFG_PORT i).addr := has_GCH_CFG h i
theorem in_GCH_CFG_SIG {m : Nat} (h : m.testBit 131 = true) (i : Nat) : RowsHave m (Reg.GCH_CFG_SIG i).addr := has_GCH_CFG h i
theorem in_GCH_CFG_STREAM {m : Nat} (h : m.testBit 131 = true) (i : Nat) : RowsHave m (Reg.GCH_CFG_STREAM i).addr := has_GCH_CFG h i
theorem in_GCH_CFG_SV {m : Nat} (h : m.testBit 131 = true) (i : Nat) : RowsHave m (Reg.GCH_CFG_SV i).addr := has_GCH_CFG h i
theorem in_GCH_CODE_NCO_INC {m : Nat} (h : m.testBit 140 = true) (i : Nat) : RowsHave m (Reg.GCH_CODE_NCO_INC i).addr := has_GCH_CODE_NCO h i
theorem in_GCH_EVENT_ACQ_FAIL {m : Nat} (h : m.testBit 138 = true) (i : Nat) : RowsHave m (Reg.GCH_EVENT_ACQ_FAIL i).addr := has_GCH_EVENT h i
theorem in_GCH_EVENT_BANK_FAULT {m : Nat} (h : m.testBit 138 = true) (i : Nat) : RowsHave m (Reg.GCH_EVENT_BANK_FAULT i).addr := has_GCH_EVENT h i
theorem in_GCH_EVENT_CFG_ERR {m : Nat} (h : m.testBit 138 = true) (i : Nat) : RowsHave m (Reg.GCH_EVENT_CFG_ERR i).addr := has_GCH_EVENT h i
theorem in_GCH_EVENT_LOST {m : Nat} (h : m.testBit 138 = true) (i : Nat) : RowsHave m (Reg.GCH_EVENT_LOST i).addr := has_GCH_EVENT h i
theorem in_GCH_EVENT_MOVED {m : Nat} (h : m.testBit 138 = true) (i : Nat) : RowsHave m (Reg.GCH_EVENT_MOVED i).addr := has_GCH_EVENT h i
theorem in_GCH_EVENT_PORT_LOST {m : Nat} (h : m.testBit 138 = true) (i : Nat) : RowsHave m (Reg.GCH_EVENT_PORT_LOST i).addr := has_GCH_EVENT h i
theorem in_GCH_EVENT_SAT {m : Nat} (h : m.testBit 138 = true) (i : Nat) : RowsHave m (Reg.GCH_EVENT_SAT i).addr := has_GCH_EVENT h i
theorem in_GCH_EVENT_SLIP {m : Nat} (h : m.testBit 138 = true) (i : Nat) : RowsHave m (Reg.GCH_EVENT_SLIP i).addr := has_GCH_EVENT h i
theorem in_GCH_MP_CONVERGED {m : Nat} (h : m.testBit 143 = true) (i : Nat) : RowsHave m (Reg.GCH_MP_CONVERGED i).addr := has_GCH_MP h i
theorem in_GCH_MP_MP_ALPHA {m : Nat} (h : m.testBit 143 = true) (i : Nat) : RowsHave m (Reg.GCH_MP_MP_ALPHA i).addr := has_GCH_MP h i
theorem in_GCH_MP_MP_CORR {m : Nat} (h : m.testBit 143 = true) (i : Nat) : RowsHave m (Reg.GCH_MP_MP_CORR i).addr := has_GCH_MP h i
theorem in_GCH_MP_MP_DELAY {m : Nat} (h : m.testBit 143 = true) (i : Nat) : RowsHave m (Reg.GCH_MP_MP_DELAY i).addr := has_GCH_MP h i
theorem in_GCH_MP_MP_FLAG {m : Nat} (h : m.testBit 143 = true) (i : Nat) : RowsHave m (Reg.GCH_MP_MP_FLAG i).addr := has_GCH_MP h i
theorem in_GCH_STATE_BIT_SYNC {m : Nat} (h : m.testBit 137 = true) (i : Nat) : RowsHave m (Reg.GCH_STATE_BIT_SYNC i).addr := has_GCH_STATE h i
theorem in_GCH_STATE_CN0 {m : Nat} (h : m.testBit 137 = true) (i : Nat) : RowsHave m (Reg.GCH_STATE_CN0 i).addr := has_GCH_STATE h i
theorem in_GCH_STATE_COAST {m : Nat} (h : m.testBit 137 = true) (i : Nat) : RowsHave m (Reg.GCH_STATE_COAST i).addr := has_GCH_STATE h i
theorem in_GCH_STATE_PLL_LOCK {m : Nat} (h : m.testBit 137 = true) (i : Nat) : RowsHave m (Reg.GCH_STATE_PLL_LOCK i).addr := has_GCH_STATE h i
theorem in_GCH_STATE_STATE {m : Nat} (h : m.testBit 137 = true) (i : Nat) : RowsHave m (Reg.GCH_STATE_STATE i).addr := has_GCH_STATE h i
theorem in_GCH_TAP_I_SUM {m : Nat} (h : m.testBit 141 = true) (i j : Nat) : RowsHave m (Reg.GCH_TAP_I_SUM i j).addr := has_GCH_TAP_I h i j
theorem in_GCH_TAP_Q_SUM {m : Nat} (h : m.testBit 142 = true) (i j : Nat) : RowsHave m (Reg.GCH_TAP_Q_SUM i j).addr := has_GCH_TAP_Q h i j
theorem in_HOUT_VALUE {m : Nat} (h : m.testBit 310 = true) (i : Nat) : RowsHave m (Reg.HOUT_VALUE i).addr := has_HOUT h i
theorem in_HP_EVENT_CFG_ERR {m : Nat} (h : m.testBit 413 = true) : RowsHave m Reg.HP_EVENT_CFG_ERR.addr := has_HP_EVENT h
theorem in_HP_EVENT_HALT {m : Nat} (h : m.testBit 413 = true) : RowsHave m Reg.HP_EVENT_HALT.addr := has_HP_EVENT h
theorem in_HP_EVENT_HALT_REJ {m : Nat} (h : m.testBit 413 = true) : RowsHave m Reg.HP_EVENT_HALT_REJ.addr := has_HP_EVENT h
theorem in_HP_EVENT_LINK_DOWN {m : Nat} (h : m.testBit 413 = true) : RowsHave m Reg.HP_EVENT_LINK_DOWN.addr := has_HP_EVENT h
theorem in_HP_STATUS_LINK_UP {m : Nat} (h : m.testBit 412 = true) : RowsHave m Reg.HP_STATUS_LINK_UP.addr := has_HP_STATUS h
theorem in_IMG_ACTIVE_VER_IMAGE_VER {m : Nat} (h : m.testBit 34 = true) : RowsHave m Reg.IMG_ACTIVE_VER_IMAGE_VER.addr := has_IMG_ACTIVE_VER h
theorem in_IMG_ACTIVE_VER_SEC_VER {m : Nat} (h : m.testBit 34 = true) : RowsHave m Reg.IMG_ACTIVE_VER_SEC_VER.addr := has_IMG_ACTIVE_VER h
theorem in_IMG_BOOT_TRIAL_A {m : Nat} (h : m.testBit 36 = true) : RowsHave m Reg.IMG_BOOT_TRIAL_A.addr := has_IMG_BOOT h
theorem in_IMG_BOOT_TRIAL_B {m : Nat} (h : m.testBit 36 = true) : RowsHave m Reg.IMG_BOOT_TRIAL_B.addr := has_IMG_BOOT h
theorem in_IMG_BOOT_VALID_A {m : Nat} (h : m.testBit 36 = true) : RowsHave m Reg.IMG_BOOT_VALID_A.addr := has_IMG_BOOT h
theorem in_IMG_BOOT_VALID_B {m : Nat} (h : m.testBit 36 = true) : RowsHave m Reg.IMG_BOOT_VALID_B.addr := has_IMG_BOOT h
theorem in_IMG_ERROFS_OFFSET {m : Nat} (h : m.testBit 25 = true) : RowsHave m Reg.IMG_ERROFS_OFFSET.addr := has_IMG_ERROFS h
theorem in_IMG_ERR_CODE {m : Nat} (h : m.testBit 24 = true) : RowsHave m Reg.IMG_ERR_CODE.addr := has_IMG_ERR h
theorem in_IMG_ERR_RULE {m : Nat} (h : m.testBit 24 = true) : RowsHave m Reg.IMG_ERR_RULE.addr := has_IMG_ERR h
theorem in_IMG_ERR_SEG {m : Nat} (h : m.testBit 24 = true) : RowsHave m Reg.IMG_ERR_SEG.addr := has_IMG_ERR h
theorem in_IMG_EVENT_ACTIVATED {m : Nat} (h : m.testBit 40 = true) : RowsHave m Reg.IMG_EVENT_ACTIVATED.addr := has_IMG_EVENT h
theorem in_IMG_EVENT_CFG_ERR {m : Nat} (h : m.testBit 40 = true) : RowsHave m Reg.IMG_EVENT_CFG_ERR.addr := has_IMG_EVENT h
theorem in_IMG_EVENT_NOT_QUIET {m : Nat} (h : m.testBit 40 = true) : RowsHave m Reg.IMG_EVENT_NOT_QUIET.addr := has_IMG_EVENT h
theorem in_IMG_EVENT_REFUSED {m : Nat} (h : m.testBit 40 = true) : RowsHave m Reg.IMG_EVENT_REFUSED.addr := has_IMG_EVENT h
theorem in_IMG_EVENT_REPLAYED {m : Nat} (h : m.testBit 40 = true) : RowsHave m Reg.IMG_EVENT_REPLAYED.addr := has_IMG_EVENT h
theorem in_IMG_EVENT_SAVE_DONE {m : Nat} (h : m.testBit 40 = true) : RowsHave m Reg.IMG_EVENT_SAVE_DONE.addr := has_IMG_EVENT h
theorem in_IMG_EVENT_SAVE_FAIL {m : Nat} (h : m.testBit 40 = true) : RowsHave m Reg.IMG_EVENT_SAVE_FAIL.addr := has_IMG_EVENT h
theorem in_IMG_EVENT_TRIAL_FAIL {m : Nat} (h : m.testBit 40 = true) : RowsHave m Reg.IMG_EVENT_TRIAL_FAIL.addr := has_IMG_EVENT h
theorem in_IMG_EVENT_VERIFY_DONE {m : Nat} (h : m.testBit 40 = true) : RowsHave m Reg.IMG_EVENT_VERIFY_DONE.addr := has_IMG_EVENT h
theorem in_IMG_FLOOR_SEC_FLOOR {m : Nat} (h : m.testBit 37 = true) : RowsHave m Reg.IMG_FLOOR_SEC_FLOOR.addr := has_IMG_FLOOR h
theorem in_IMG_KEY_MATCH {m : Nat} (h : m.testBit 38 = true) : RowsHave m Reg.IMG_KEY_MATCH.addr := has_IMG_KEY h
theorem in_IMG_KEY_PROGRAMMED {m : Nat} (h : m.testBit 38 = true) : RowsHave m Reg.IMG_KEY_PROGRAMMED.addr := has_IMG_KEY h
theorem in_IMG_KEY_REVOKED {m : Nat} (h : m.testBit 38 = true) : RowsHave m Reg.IMG_KEY_REVOKED.addr := has_IMG_KEY h
theorem in_IMG_STATUS_ACTIVE {m : Nat} (h : m.testBit 23 = true) : RowsHave m Reg.IMG_STATUS_ACTIVE.addr := has_IMG_STATUS h
theorem in_IMG_STATUS_BOOTED_FROM {m : Nat} (h : m.testBit 23 = true) : RowsHave m Reg.IMG_STATUS_BOOTED_FROM.addr := has_IMG_STATUS h
theorem in_IMG_STATUS_BUSY {m : Nat} (h : m.testBit 23 = true) : RowsHave m Reg.IMG_STATUS_BUSY.addr := has_IMG_STATUS h
theorem in_IMG_STATUS_LIVE {m : Nat} (h : m.testBit 23 = true) : RowsHave m Reg.IMG_STATUS_LIVE.addr := has_IMG_STATUS h
theorem in_IMG_STATUS_STAGE {m : Nat} (h : m.testBit 23 = true) : RowsHave m Reg.IMG_STATUS_STAGE.addr := has_IMG_STATUS h
theorem in_IMG_STATUS_UNKEYED {m : Nat} (h : m.testBit 23 = true) : RowsHave m Reg.IMG_STATUS_UNKEYED.addr := has_IMG_STATUS h
theorem in_LEAP_LEAP_NEXT {m : Nat} (h : m.testBit 120 = true) : RowsHave m Reg.LEAP_LEAP_NEXT.addr := has_LEAP h
theorem in_LEAP_LEAP_PEND {m : Nat} (h : m.testBit 120 = true) : RowsHave m Reg.LEAP_LEAP_PEND.addr := has_LEAP h
theorem in_LEAP_LEAP_S {m : Nat} (h : m.testBit 120 = true) : RowsHave m Reg.LEAP_LEAP_S.addr := has_LEAP h
theorem in_LG_CNT_A_FORCED_N {m : Nat} (h : m.testBit 89 = true) : RowsHave m Reg.LG_CNT_A_FORCED_N.addr := has_LG_CNT_A h
theorem in_LG_CNT_A_WITHHELD_N {m : Nat} (h : m.testBit 89 = true) : RowsHave m Reg.LG_CNT_A_WITHHELD_N.addr := has_LG_CNT_A h
theorem in_LG_CNT_B_FULL_N {m : Nat} (h : m.testBit 90 = true) : RowsHave m Reg.LG_CNT_B_FULL_N.addr := has_LG_CNT_B h
theorem in_LG_CNT_B_SHIFTED_N {m : Nat} (h : m.testBit 90 = true) : RowsHave m Reg.LG_CNT_B_SHIFTED_N.addr := has_LG_CNT_B h
theorem in_LG_CNT_C_LATE_N {m : Nat} (h : m.testBit 91 = true) : RowsHave m Reg.LG_CNT_C_LATE_N.addr := has_LG_CNT_C h
theorem in_LG_CNT_C_REPLACED_N {m : Nat} (h : m.testBit 91 = true) : RowsHave m Reg.LG_CNT_C_REPLACED_N.addr := has_LG_CNT_C h
theorem in_LG_CNT_D_CLAMP_N {m : Nat} (h : m.testBit 92 = true) : RowsHave m Reg.LG_CNT_D_CLAMP_N.addr := has_LG_CNT_D h
theorem in_LG_CNT_D_GAP_N {m : Nat} (h : m.testBit 92 = true) : RowsHave m Reg.LG_CNT_D_GAP_N.addr := has_LG_CNT_D h
theorem in_LG_EVENT_CFG_ERR {m : Nat} (h : m.testBit 88 = true) : RowsHave m Reg.LG_EVENT_CFG_ERR.addr := has_LG_EVENT h
theorem in_LG_EVENT_FORCED {m : Nat} (h : m.testBit 88 = true) : RowsHave m Reg.LG_EVENT_FORCED.addr := has_LG_EVENT h
theorem in_LG_EVENT_FULL {m : Nat} (h : m.testBit 88 = true) : RowsHave m Reg.LG_EVENT_FULL.addr := has_LG_EVENT h
theorem in_LG_EVENT_LATE {m : Nat} (h : m.testBit 88 = true) : RowsHave m Reg.LG_EVENT_LATE.addr := has_LG_EVENT h
theorem in_LG_EVENT_LATE_CROSS {m : Nat} (h : m.testBit 88 = true) : RowsHave m Reg.LG_EVENT_LATE_CROSS.addr := has_LG_EVENT h
theorem in_LG_EVENT_ORPHAN {m : Nat} (h : m.testBit 88 = true) : RowsHave m Reg.LG_EVENT_ORPHAN.addr := has_LG_EVENT h
theorem in_LG_EVENT_PATH_STALE {m : Nat} (h : m.testBit 88 = true) : RowsHave m Reg.LG_EVENT_PATH_STALE.addr := has_LG_EVENT h
theorem in_LG_EVENT_RATE_CLAMP {m : Nat} (h : m.testBit 88 = true) : RowsHave m Reg.LG_EVENT_RATE_CLAMP.addr := has_LG_EVENT h
theorem in_LG_EVENT_WITHDRAWN {m : Nat} (h : m.testBit 88 = true) : RowsHave m Reg.LG_EVENT_WITHDRAWN.addr := has_LG_EVENT h
theorem in_LG_EVENT_WITHHELD {m : Nat} (h : m.testBit 88 = true) : RowsHave m Reg.LG_EVENT_WITHHELD.addr := has_LG_EVENT h
theorem in_LG_STAT_PATH_ACT {m : Nat} (h : m.testBit 86 = true) : RowsHave m Reg.LG_STAT_PATH_ACT.addr := has_LG_STAT h
theorem in_LK_CNT2_REJECT_N {m : Nat} (h : m.testBit 270 = true) (i : Nat) : RowsHave m (Reg.LK_CNT2_REJECT_N i).addr := has_LK_CNT2 h i
theorem in_LK_CNT2_RETRY_N {m : Nat} (h : m.testBit 270 = true) (i : Nat) : RowsHave m (Reg.LK_CNT2_RETRY_N i).addr := has_LK_CNT2 h i
theorem in_LK_CNT_CODE_N {m : Nat} (h : m.testBit 269 = true) (i : Nat) : RowsHave m (Reg.LK_CNT_CODE_N i).addr := has_LK_CNT h i
theorem in_LK_CNT_CRC_N {m : Nat} (h : m.testBit 269 = true) (i : Nat) : RowsHave m (Reg.LK_CNT_CRC_N i).addr := has_LK_CNT h i
theorem in_LK_EVENT_CFG_ERR {m : Nat} (h : m.testBit 268 = true) (i : Nat) : RowsHave m (Reg.LK_EVENT_CFG_ERR i).addr := has_LK_EVENT h i
theorem in_LK_EVENT_DIVERGENT {m : Nat} (h : m.testBit 268 = true) (i : Nat) : RowsHave m (Reg.LK_EVENT_DIVERGENT i).addr := has_LK_EVENT h i
theorem in_LK_EVENT_ID_CHANGED {m : Nat} (h : m.testBit 268 = true) (i : Nat) : RowsHave m (Reg.LK_EVENT_ID_CHANGED i).addr := has_LK_EVENT h i
theorem in_LK_EVENT_LATE {m : Nat} (h : m.testBit 268 = true) (i : Nat) : RowsHave m (Reg.LK_EVENT_LATE i).addr := has_LK_EVENT h i
theorem in_LK_EVENT_MISMATCH {m : Nat} (h : m.testBit 268 = true) (i : Nat) : RowsHave m (Reg.LK_EVENT_MISMATCH i).addr := has_LK_EVENT h i
theorem in_LK_EVENT_NODE_ADDED {m : Nat} (h : m.testBit 268 = true) (i : Nat) : RowsHave m (Reg.LK_EVENT_NODE_ADDED i).addr := has_LK_EVENT h i
theorem in_LK_EVENT_NODE_LOST {m : Nat} (h : m.testBit 268 = true) (i : Nat) : RowsHave m (Reg.LK_EVENT_NODE_LOST i).addr := has_LK_EVENT h i
theorem in_LK_EVENT_REJECT {m : Nat} (h : m.testBit 268 = true) (i : Nat) : RowsHave m (Reg.LK_EVENT_REJECT i).addr := has_LK_EVENT h i
theorem in_LK_HOLD_HI_HOLD {m : Nat} (h : m.testBit 272 = true) (i : Nat) : RowsHave m (Reg.LK_HOLD_HI_HOLD i).addr := has_LK_HOLD_HI h i
theorem in_LK_HOLD_LO_HOLD {m : Nat} (h : m.testBit 271 = true) (i : Nat) : RowsHave m (Reg.LK_HOLD_LO_HOLD i).addr := has_LK_HOLD_LO h i
theorem in_LK_SAFE_HI_SAFE {m : Nat} (h : m.testBit 274 = true) (i : Nat) : RowsHave m (Reg.LK_SAFE_HI_SAFE i).addr := has_LK_SAFE_HI h i
theorem in_LK_SAFE_LO_SAFE {m : Nat} (h : m.testBit 273 = true) (i : Nat) : RowsHave m (Reg.LK_SAFE_LO_SAFE i).addr := has_LK_SAFE_LO h i
theorem in_LK_STATUS_NODES {m : Nat} (h : m.testBit 267 = true) (i : Nat) : RowsHave m (Reg.LK_STATUS_NODES i).addr := has_LK_STATUS h i
theorem in_LK_STATUS_OUTLETS {m : Nat} (h : m.testBit 267 = true) (i : Nat) : RowsHave m (Reg.LK_STATUS_OUTLETS i).addr := has_LK_STATUS h i
theorem in_LK_STATUS_RX_ALIGNED {m : Nat} (h : m.testBit 267 = true) (i : Nat) : RowsHave m (Reg.LK_STATUS_RX_ALIGNED i).addr := has_LK_STATUS h i
theorem in_LK_STATUS_STATE {m : Nat} (h : m.testBit 267 = true) (i : Nat) : RowsHave m (Reg.LK_STATUS_STATE i).addr := has_LK_STATUS h i
theorem in_LK_VALID_VALID {m : Nat} (h : m.testBit 275 = true) (i : Nat) : RowsHave m (Reg.LK_VALID_VALID i).addr := has_LK_VALID h i
theorem in_LP_EVENT_CAP_DONE {m : Nat} (h : m.testBit 289 = true) : RowsHave m Reg.LP_EVENT_CAP_DONE.addr := has_LP_EVENT h
theorem in_LP_EVENT_CFG_ERR {m : Nat} (h : m.testBit 289 = true) : RowsHave m Reg.LP_EVENT_CFG_ERR.addr := has_LP_EVENT h
theorem in_LP_EVENT_INFAULT {m : Nat} (h : m.testBit 289 = true) : RowsHave m Reg.LP_EVENT_INFAULT.addr := has_LP_EVENT h
theorem in_LP_EVENT_MERGE_LATE {m : Nat} (h : m.testBit 289 = true) : RowsHave m Reg.LP_EVENT_MERGE_LATE.addr := has_LP_EVENT h
theorem in_LP_EVENT_OVERRUN {m : Nat} (h : m.testBit 289 = true) : RowsHave m Reg.LP_EVENT_OVERRUN.addr := has_LP_EVENT h
theorem in_LP_EVENT_RUNAWAY {m : Nat} (h : m.testBit 289 = true) : RowsHave m Reg.LP_EVENT_RUNAWAY.addr := has_LP_EVENT h
theorem in_LP_EVENT_SLOT_FLAG {m : Nat} (h : m.testBit 289 = true) : RowsHave m Reg.LP_EVENT_SLOT_FLAG.addr := has_LP_EVENT h
theorem in_LP_EVENT_TEST_DONE {m : Nat} (h : m.testBit 289 = true) : RowsHave m Reg.LP_EVENT_TEST_DONE.addr := has_LP_EVENT h
theorem in_LP_MERGE_MERGE_N {m : Nat} (h : m.testBit 293 = true) : RowsHave m Reg.LP_MERGE_MERGE_N.addr := has_LP_MERGE h
theorem in_LP_STATUS_HALTED {m : Nat} (h : m.testBit 288 = true) : RowsHave m Reg.LP_STATUS_HALTED.addr := has_LP_STATUS h
theorem in_LS_CLAMPE_B {m : Nat} (h : m.testBit 348 = true) (i : Nat) : RowsHave m (Reg.LS_CLAMPE_B i).addr := has_LS_CLAMPE h i
theorem in_LS_CNT_CLAMP_N {m : Nat} (h : m.testBit 349 = true) (i : Nat) : RowsHave m (Reg.LS_CNT_CLAMP_N i).addr := has_LS_CNT h i
theorem in_LS_CNT_RETRY_CNT {m : Nat} (h : m.testBit 349 = true) (i : Nat) : RowsHave m (Reg.LS_CNT_RETRY_CNT i).addr := has_LS_CNT h i
theorem in_LS_CNT_TSD_N {m : Nat} (h : m.testBit 349 = true) (i : Nat) : RowsHave m (Reg.LS_CNT_TSD_N i).addr := has_LS_CNT h i
theorem in_LS_DUTY_DUTY {m : Nat} (h : m.testBit 341 = true) (i : Nat) : RowsHave m (Reg.LS_DUTY_DUTY i).addr := has_LS_DUTY h i
theorem in_LS_EVENT_CFG_ERR {m : Nat} (h : m.testBit 334 = true) : RowsHave m Reg.LS_EVENT_CFG_ERR.addr := has_LS_EVENT h
theorem in_LS_EVENT_INRUSH_FAIL {m : Nat} (h : m.testBit 334 = true) : RowsHave m Reg.LS_EVENT_INRUSH_FAIL.addr := has_LS_EVENT h
theorem in_LS_EVENT_LIMP {m : Nat} (h : m.testBit 334 = true) : RowsHave m Reg.LS_EVENT_LIMP.addr := has_LS_EVENT h
theorem in_LS_EVENT_LOCK {m : Nat} (h : m.testBit 334 = true) : RowsHave m Reg.LS_EVENT_LOCK.addr := has_LS_EVENT h
theorem in_LS_EVENT_OPEN_LOAD {m : Nat} (h : m.testBit 334 = true) : RowsHave m Reg.LS_EVENT_OPEN_LOAD.addr := has_LS_EVENT h
theorem in_LS_EVENT_OV {m : Nat} (h : m.testBit 334 = true) : RowsHave m Reg.LS_EVENT_OV.addr := has_LS_EVENT h
theorem in_LS_EVENT_SHADOW_ERR {m : Nat} (h : m.testBit 334 = true) : RowsHave m Reg.LS_EVENT_SHADOW_ERR.addr := has_LS_EVENT h
theorem in_LS_EVENT_SUPPLY_REC {m : Nat} (h : m.testBit 334 = true) : RowsHave m Reg.LS_EVENT_SUPPLY_REC.addr := has_LS_EVENT h
theorem in_LS_EVENT_TSD {m : Nat} (h : m.testBit 334 = true) : RowsHave m Reg.LS_EVENT_TSD.addr := has_LS_EVENT h
theorem in_LS_EVENT_UV {m : Nat} (h : m.testBit 334 = true) : RowsHave m Reg.LS_EVENT_UV.addr := has_LS_EVENT h
theorem in_LS_EVENT_WD_EXP {m : Nat} (h : m.testBit 334 = true) : RowsHave m Reg.LS_EVENT_WD_EXP.addr := has_LS_EVENT h
theorem in_LS_FAULT_INRUSH_FAIL {m : Nat} (h : m.testBit 343 = true) (i : Nat) : RowsHave m (Reg.LS_FAULT_INRUSH_FAIL i).addr := has_LS_FAULT h i
theorem in_LS_FAULT_LOCK {m : Nat} (h : m.testBit 343 = true) (i : Nat) : RowsHave m (Reg.LS_FAULT_LOCK i).addr := has_LS_FAULT h i
theorem in_LS_FAULT_OPEN_LOAD {m : Nat} (h : m.testBit 343 = true) (i : Nat) : RowsHave m (Reg.LS_FAULT_OPEN_LOAD i).addr := has_LS_FAULT h i
theorem in_LS_FAULT_OV_OFF {m : Nat} (h : m.testBit 343 = true) (i : Nat) : RowsHave m (Reg.LS_FAULT_OV_OFF i).addr := has_LS_FAULT h i
theorem in_LS_FAULT_SWITCH_BAD {m : Nat} (h : m.testBit 343 = true) (i : Nat) : RowsHave m (Reg.LS_FAULT_SWITCH_BAD i).addr := has_LS_FAULT h i
theorem in_LS_FAULT_TSD {m : Nat} (h : m.testBit 343 = true) (i : Nat) : RowsHave m (Reg.LS_FAULT_TSD i).addr := has_LS_FAULT h i
theorem in_LS_IMEAS_I {m : Nat} (h : m.testBit 345 = true) (i : Nat) : RowsHave m (Reg.LS_IMEAS_I i).addr := has_LS_IMEAS h i
theorem in_LS_PERIOD_PERIOD {m : Nat} (h : m.testBit 340 = true) (i : Nat) : RowsHave m (Reg.LS_PERIOD_PERIOD i).addr := has_LS_PERIOD h i
theorem in_LS_SET_ON {m : Nat} (h : m.testBit 339 = true) (i : Nat) : RowsHave m (Reg.LS_SET_ON i).addr := has_LS_SET h i
theorem in_LS_STATE_IN_LIMIT {m : Nat} (h : m.testBit 342 = true) (i : Nat) : RowsHave m (Reg.LS_STATE_IN_LIMIT i).addr := has_LS_STATE h i
theorem in_LS_STATE_LATCHED {m : Nat} (h : m.testBit 342 = true) (i : Nat) : RowsHave m (Reg.LS_STATE_LATCHED i).addr := has_LS_STATE h i
theorem in_LS_STATE_LOCKED {m : Nat} (h : m.testBit 342 = true) (i : Nat) : RowsHave m (Reg.LS_STATE_LOCKED i).addr := has_LS_STATE h i
theorem in_LS_STATE_OPEN_LOAD {m : Nat} (h : m.testBit 342 = true) (i : Nat) : RowsHave m (Reg.LS_STATE_OPEN_LOAD i).addr := has_LS_STATE h i
theorem in_LS_STATE_TSD {m : Nat} (h : m.testBit 342 = true) (i : Nat) : RowsHave m (Reg.LS_STATE_TSD i).addr := has_LS_STATE h i
theorem in_LS_STATUS_LHIN {m : Nat} (h : m.testBit 333 = true) : RowsHave m Reg.LS_STATUS_LHIN.addr := has_LS_STATUS h
theorem in_LS_STATUS_LIMP_ACT {m : Nat} (h : m.testBit 333 = true) : RowsHave m Reg.LS_STATUS_LIMP_ACT.addr := has_LS_STATUS h
theorem in_LS_STATUS_LIMP_PIN {m : Nat} (h : m.testBit 333 = true) : RowsHave m Reg.LS_STATUS_LIMP_PIN.addr := has_LS_STATUS h
theorem in_LS_STATUS_OV {m : Nat} (h : m.testBit 333 = true) : RowsHave m Reg.LS_STATUS_OV.addr := has_LS_STATUS h
theorem in_LS_STATUS_SHADOW_OK {m : Nat} (h : m.testBit 333 = true) : RowsHave m Reg.LS_STATUS_SHADOW_OK.addr := has_LS_STATUS h
theorem in_LS_STATUS_STOP {m : Nat} (h : m.testBit 333 = true) : RowsHave m Reg.LS_STATUS_STOP.addr := has_LS_STATUS h
theorem in_LS_STATUS_SW_LINK {m : Nat} (h : m.testBit 333 = true) : RowsHave m Reg.LS_STATUS_SW_LINK.addr := has_LS_STATUS h
theorem in_LS_STATUS_UV {m : Nat} (h : m.testBit 333 = true) : RowsHave m Reg.LS_STATUS_UV.addr := has_LS_STATUS h
theorem in_LS_STATUS_WD_EXPIRED {m : Nat} (h : m.testBit 333 = true) : RowsHave m Reg.LS_STATUS_WD_EXPIRED.addr := has_LS_STATUS h
theorem in_LS_TEMP_TJ {m : Nat} (h : m.testBit 347 = true) (i : Nat) : RowsHave m (Reg.LS_TEMP_TJ i).addr := has_LS_TEMP h i
theorem in_LS_VBAT_VBAT {m : Nat} (h : m.testBit 335 = true) : RowsHave m Reg.LS_VBAT_VBAT.addr := has_LS_VBAT h
theorem in_LS_VOUT_V {m : Nat} (h : m.testBit 346 = true) (i : Nat) : RowsHave m (Reg.LS_VOUT_V i).addr := has_LS_VOUT h i
theorem in_MAP_COUNT_A_EXCL_PAINT {m : Nat} (h : m.testBit 65 = true) : RowsHave m Reg.MAP_COUNT_A_EXCL_PAINT.addr := has_MAP_COUNT_A h
theorem in_MAP_COUNT_A_PAINT_LOST {m : Nat} (h : m.testBit 65 = true) : RowsHave m Reg.MAP_COUNT_A_PAINT_LOST.addr := has_MAP_COUNT_A h
theorem in_MAP_COUNT_B_CELL_ERR {m : Nat} (h : m.testBit 66 = true) : RowsHave m Reg.MAP_COUNT_B_CELL_ERR.addr := has_MAP_COUNT_B h
theorem in_MAP_COUNT_B_PAINT_UNSURE {m : Nat} (h : m.testBit 66 = true) : RowsHave m Reg.MAP_COUNT_B_PAINT_UNSURE.addr := has_MAP_COUNT_B h
theorem in_MAP_CTRL_GATE_ALL {m : Nat} (h : m.testBit 62 = true) : RowsHave m Reg.MAP_CTRL_GATE_ALL.addr := has_MAP_CTRL h
theorem in_MAP_EVENT_CFG_ERR {m : Nat} (h : m.testBit 63 = true) : RowsHave m Reg.MAP_EVENT_CFG_ERR.addr := has_MAP_EVENT h
theorem in_MAP_EVENT_CMD_ERR {m : Nat} (h : m.testBit 63 = true) : RowsHave m Reg.MAP_EVENT_CMD_ERR.addr := has_MAP_EVENT h
theorem in_MAP_EVENT_EVICT_DIRTY {m : Nat} (h : m.testBit 63 = true) : RowsHave m Reg.MAP_EVENT_EVICT_DIRTY.addr := has_MAP_EVENT h
theorem in_MAP_EVENT_PAINT_LOST {m : Nat} (h : m.testBit 63 = true) : RowsHave m Reg.MAP_EVENT_PAINT_LOST.addr := has_MAP_EVENT h
theorem in_MAP_EVENT_TAG_CONFLICT {m : Nat} (h : m.testBit 63 = true) : RowsHave m Reg.MAP_EVENT_TAG_CONFLICT.addr := has_MAP_EVENT h
theorem in_MAP_EVENT_TILE_ECC {m : Nat} (h : m.testBit 63 = true) : RowsHave m Reg.MAP_EVENT_TILE_ECC.addr := has_MAP_EVENT h
theorem in_MAP_EVENT_TILE_MISS {m : Nat} (h : m.testBit 63 = true) : RowsHave m Reg.MAP_EVENT_TILE_MISS.addr := has_MAP_EVENT h
theorem in_MISS_COUNT_COUNT {m : Nat} (h : m.testBit 69 = true) : RowsHave m Reg.MISS_COUNT_COUNT.addr := has_MISS_COUNT h
theorem in_MISS_TX_T {m : Nat} (h : m.testBit 67 = true) : RowsHave m Reg.MISS_TX_T.addr := has_MISS_TX h
theorem in_MISS_TY_T {m : Nat} (h : m.testBit 68 = true) : RowsHave m Reg.MISS_TY_T.addr := has_MISS_TY h
theorem in_MU_IDX_WORD {m : Nat} (h : m.testBit 482 = true) : RowsHave m Reg.MU_IDX_WORD.addr := has_MU_IDX h
theorem in_MU_SKIP_SKIP_N {m : Nat} (h : m.testBit 484 = true) : RowsHave m Reg.MU_SKIP_SKIP_N.addr := has_MU_SKIP h
theorem in_MU_WRITTEN_WRITTEN {m : Nat} (h : m.testBit 480 = true) : RowsHave m Reg.MU_WRITTEN_WRITTEN.addr := has_MU_WRITTEN h
theorem in_ND_CAPS_CAPS {m : Nat} (h : m.testBit 279 = true) (i j : Nat) : RowsHave m (Reg.ND_CAPS_CAPS i j).addr := has_ND_CAPS h i j
theorem in_ND_CAPS_QDEPTH {m : Nat} (h : m.testBit 279 = true) (i j : Nat) : RowsHave m (Reg.ND_CAPS_QDEPTH i j).addr := has_ND_CAPS h i j
theorem in_ND_CAPS_WIN_MAX {m : Nat} (h : m.testBit 279 = true) (i j : Nat) : RowsHave m (Reg.ND_CAPS_WIN_MAX i j).addr := has_ND_CAPS h i j
theorem in_ND_CNT_LATE_N {m : Nat} (h : m.testBit 286 = true) (i j : Nat) : RowsHave m (Reg.ND_CNT_LATE_N i j).addr := has_ND_CNT h i j
theorem in_ND_CNT_NOREP_N {m : Nat} (h : m.testBit 286 = true) (i j : Nat) : RowsHave m (Reg.ND_CNT_NOREP_N i j).addr := has_ND_CNT h i j
theorem in_ND_DELAY_D {m : Nat} (h : m.testBit 280 = true) (i j : Nat) : RowsHave m (Reg.ND_DELAY_D i j).addr := has_ND_DELAY h i j
theorem in_ND_DIAGV_VALUE {m : Nat} (h : m.testBit 285 = true) (i j : Nat) : RowsHave m (Reg.ND_DIAGV_VALUE i j).addr := has_ND_DIAGV h i j
theorem in_ND_DIAG_FAULT {m : Nat} (h : m.testBit 284 = true) (i j : Nat) : RowsHave m (Reg.ND_DIAG_FAULT i j).addr := has_ND_DIAG h i j
theorem in_ND_DIAG_OUT {m : Nat} (h : m.testBit 284 = true) (i j : Nat) : RowsHave m (Reg.ND_DIAG_OUT i j).addr := has_ND_DIAG h i j
theorem in_ND_ID_PRODUCT {m : Nat} (h : m.testBit 277 = true) (i j : Nat) : RowsHave m (Reg.ND_ID_PRODUCT i j).addr := has_ND_ID h i j
theorem in_ND_ID_VENDOR {m : Nat} (h : m.testBit 277 = true) (i j : Nat) : RowsHave m (Reg.ND_ID_VENDOR i j).addr := has_ND_ID h i j
theorem in_ND_SEQ_ACK_SEQ {m : Nat} (h : m.testBit 287 = true) (i j : Nat) : RowsHave m (Reg.ND_SEQ_ACK_SEQ i j).addr := has_ND_SEQ h i j
theorem in_ND_SEQ_PENDING {m : Nat} (h : m.testBit 287 = true) (i j : Nat) : RowsHave m (Reg.ND_SEQ_PENDING i j).addr := has_ND_SEQ h i j
theorem in_ND_SEQ_TX_SEQ {m : Nat} (h : m.testBit 287 = true) (i j : Nat) : RowsHave m (Reg.ND_SEQ_TX_SEQ i j).addr := has_ND_SEQ h i j
theorem in_ND_SERIAL_SERIAL {m : Nat} (h : m.testBit 278 = true) (i j : Nat) : RowsHave m (Reg.ND_SERIAL_SERIAL i j).addr := has_ND_SERIAL h i j
theorem in_ND_SPREAD_SPREAD {m : Nat} (h : m.testBit 281 = true) (i j : Nat) : RowsHave m (Reg.ND_SPREAD_SPREAD i j).addr := has_ND_SPREAD h i j
theorem in_ND_STATE_ID_CHANGED {m : Nat} (h : m.testBit 276 = true) (i j : Nat) : RowsHave m (Reg.ND_STATE_ID_CHANGED i j).addr := has_ND_STATE h i j
theorem in_ND_STATE_MISMATCH {m : Nat} (h : m.testBit 276 = true) (i j : Nat) : RowsHave m (Reg.ND_STATE_MISMATCH i j).addr := has_ND_STATE h i j
theorem in_ND_STATE_NODE_STATE {m : Nat} (h : m.testBit 276 = true) (i j : Nat) : RowsHave m (Reg.ND_STATE_NODE_STATE i j).addr := has_ND_STATE h i j
theorem in_ND_STATE_OUT_BASE {m : Nat} (h : m.testBit 276 = true) (i j : Nat) : RowsHave m (Reg.ND_STATE_OUT_BASE i j).addr := has_ND_STATE h i j
theorem in_ND_STATE_OUT_COUNT {m : Nat} (h : m.testBit 276 = true) (i j : Nat) : RowsHave m (Reg.ND_STATE_OUT_COUNT i j).addr := has_ND_STATE h i j
theorem in_ND_STATE_STATE {m : Nat} (h : m.testBit 276 = true) (i j : Nat) : RowsHave m (Reg.ND_STATE_STATE i j).addr := has_ND_STATE h i j
theorem in_NEED_TX_T {m : Nat} (h : m.testBit 75 = true) (i : Nat) : RowsHave m (Reg.NEED_TX_T i).addr := has_NEED_TX h i
theorem in_NEED_TX_VALID {m : Nat} (h : m.testBit 75 = true) (i : Nat) : RowsHave m (Reg.NEED_TX_VALID i).addr := has_NEED_TX h i
theorem in_NEED_TY_T {m : Nat} (h : m.testBit 76 = true) (i : Nat) : RowsHave m (Reg.NEED_TY_T i).addr := has_NEED_TY h i
theorem in_OT_CFG_SAFE_OPEN {m : Nat} (h : m.testBit 191 = true) (i : Nat) : RowsHave m (Reg.OT_CFG_SAFE_OPEN i).addr := has_OT_CFG h i
theorem in_OT_LRN_CLOSE_FROZEN {m : Nat} (h : m.testBit 202 = true) (i : Nat) : RowsHave m (Reg.OT_LRN_CLOSE_FROZEN i).addr := has_OT_LRN_CLOSE h i
theorem in_OT_LRN_CLOSE_LEARNED {m : Nat} (h : m.testBit 202 = true) (i : Nat) : RowsHave m (Reg.OT_LRN_CLOSE_LEARNED i).addr := has_OT_LRN_CLOSE h i
theorem in_OT_LRN_CLOSE_LRN {m : Nat} (h : m.testBit 202 = true) (i : Nat) : RowsHave m (Reg.OT_LRN_CLOSE_LRN i).addr := has_OT_LRN_CLOSE h i
theorem in_OT_LRN_CLOSE_SEEDED {m : Nat} (h : m.testBit 202 = true) (i : Nat) : RowsHave m (Reg.OT_LRN_CLOSE_SEEDED i).addr := has_OT_LRN_CLOSE h i
theorem in_OT_LRN_OPEN_FROZEN {m : Nat} (h : m.testBit 201 = true) (i : Nat) : RowsHave m (Reg.OT_LRN_OPEN_FROZEN i).addr := has_OT_LRN_OPEN h i
theorem in_OT_LRN_OPEN_LEARNED {m : Nat} (h : m.testBit 201 = true) (i : Nat) : RowsHave m (Reg.OT_LRN_OPEN_LEARNED i).addr := has_OT_LRN_OPEN h i
theorem in_OT_LRN_OPEN_LRN {m : Nat} (h : m.testBit 201 = true) (i : Nat) : RowsHave m (Reg.OT_LRN_OPEN_LRN i).addr := has_OT_LRN_OPEN h i
theorem in_OT_LRN_OPEN_SEEDED {m : Nat} (h : m.testBit 201 = true) (i : Nat) : RowsHave m (Reg.OT_LRN_OPEN_SEEDED i).addr := has_OT_LRN_OPEN h i
theorem in_OT_STATE_DELAY_RANGE {m : Nat} (h : m.testBit 206 = true) (i : Nat) : RowsHave m (Reg.OT_STATE_DELAY_RANGE i).addr := has_OT_STATE h i
theorem in_OT_STATE_DIVERGENT {m : Nat} (h : m.testBit 206 = true) (i : Nat) : RowsHave m (Reg.OT_STATE_DIVERGENT i).addr := has_OT_STATE h i
theorem in_OT_STATE_INHIBIT {m : Nat} (h : m.testBit 206 = true) (i : Nat) : RowsHave m (Reg.OT_STATE_INHIBIT i).addr := has_OT_STATE h i
theorem in_OT_STATE_LANDING {m : Nat} (h : m.testBit 206 = true) (i : Nat) : RowsHave m (Reg.OT_STATE_LANDING i).addr := has_OT_STATE h i
theorem in_OT_STATE_OWNED {m : Nat} (h : m.testBit 206 = true) (i : Nat) : RowsHave m (Reg.OT_STATE_OWNED i).addr := has_OT_STATE h i
theorem in_OT_STATE_OWNER {m : Nat} (h : m.testBit 206 = true) (i : Nat) : RowsHave m (Reg.OT_STATE_OWNER i).addr := has_OT_STATE h i
theorem in_OT_STATE_PLANNABLE {m : Nat} (h : m.testBit 206 = true) (i : Nat) : RowsHave m (Reg.OT_STATE_PLANNABLE i).addr := has_OT_STATE h i
theorem in_OT_STATE_SEALED_OPEN {m : Nat} (h : m.testBit 206 = true) (i : Nat) : RowsHave m (Reg.OT_STATE_SEALED_OPEN i).addr := has_OT_STATE h i
theorem in_OT_STATE_TARGET_ABSENT {m : Nat} (h : m.testBit 206 = true) (i : Nat) : RowsHave m (Reg.OT_STATE_TARGET_ABSENT i).addr := has_OT_STATE h i
theorem in_OT_STATE_UNSURE {m : Nat} (h : m.testBit 206 = true) (i : Nat) : RowsHave m (Reg.OT_STATE_UNSURE i).addr := has_OT_STATE h i
theorem in_OWN_INH_N {m : Nat} (h : m.testBit 426 = true) (i : Nat) : RowsHave m (Reg.OWN_INH_N i).addr := has_OWN h i
theorem in_OWN_MODE {m : Nat} (h : m.testBit 426 = true) (i : Nat) : RowsHave m (Reg.OWN_MODE i).addr := has_OWN h i
theorem in_OWN_OWNED {m : Nat} (h : m.testBit 426 = true) (i : Nat) : RowsHave m (Reg.OWN_OWNED i).addr := has_OWN h i
theorem in_OWN_OWNER {m : Nat} (h : m.testBit 426 = true) (i : Nat) : RowsHave m (Reg.OWN_OWNER i).addr := has_OWN h i
theorem in_PATH_CTRL_VALID {m : Nat} (h : m.testBit 93 = true) : RowsHave m Reg.PATH_CTRL_VALID.addr := has_PATH_CTRL h
theorem in_PC_COUNT_COUNT {m : Nat} (h : m.testBit 305 = true) (i : Nat) : RowsHave m (Reg.PC_COUNT_COUNT i).addr := has_PC_COUNT h i
theorem in_PC_STAT_INDEX_SEEN {m : Nat} (h : m.testBit 308 = true) (i : Nat) : RowsHave m (Reg.PC_STAT_INDEX_SEEN i).addr := has_PC_STAT h i
theorem in_PC_STAT_REVERSE {m : Nat} (h : m.testBit 308 = true) (i : Nat) : RowsHave m (Reg.PC_STAT_REVERSE i).addr := has_PC_STAT h i
theorem in_PC_STAT_SEQ_ERR {m : Nat} (h : m.testBit 308 = true) (i : Nat) : RowsHave m (Reg.PC_STAT_SEQ_ERR i).addr := has_PC_STAT h i
theorem in_PC_STAT_VALID {m : Nat} (h : m.testBit 308 = true) (i : Nat) : RowsHave m (Reg.PC_STAT_VALID i).addr := has_PC_STAT h i
theorem in_PMC_CTRL_RUN {m : Nat} (h : m.testBit 488 = true) : RowsHave m Reg.PMC_CTRL_RUN.addr := has_PMC_CTRL h
theorem in_PMC_HI_COUNT {m : Nat} (h : m.testBit 493 = true) (i : Nat) : RowsHave m (Reg.PMC_HI_COUNT i).addr := has_PMC_HI h i
theorem in_PMC_LO_COUNT {m : Nat} (h : m.testBit 492 = true) (i : Nat) : RowsHave m (Reg.PMC_LO_COUNT i).addr := has_PMC_LO h i
theorem in_POSE_BL_BL_SEARCH {m : Nat} (h : m.testBit 156 = true) : RowsHave m Reg.POSE_BL_BL_SEARCH.addr := has_POSE_BL h
theorem in_POSE_EVENT_CFG_ERR {m : Nat} (h : m.testBit 146 = true) : RowsHave m Reg.POSE_EVENT_CFG_ERR.addr := has_POSE_EVENT h
theorem in_POSE_EVENT_CPV_SWITCH {m : Nat} (h : m.testBit 146 = true) : RowsHave m Reg.POSE_EVENT_CPV_SWITCH.addr := has_POSE_EVENT h
theorem in_POSE_EVENT_FIX_FUTURE {m : Nat} (h : m.testBit 146 = true) : RowsHave m Reg.POSE_EVENT_FIX_FUTURE.addr := has_POSE_EVENT h
theorem in_POSE_EVENT_FIX_LOST {m : Nat} (h : m.testBit 146 = true) : RowsHave m Reg.POSE_EVENT_FIX_LOST.addr := has_POSE_EVENT h
theorem in_POSE_EVENT_FIX_ORDER {m : Nat} (h : m.testBit 146 = true) : RowsHave m Reg.POSE_EVENT_FIX_ORDER.addr := has_POSE_EVENT h
theorem in_POSE_EVENT_FIX_REJECT {m : Nat} (h : m.testBit 146 = true) : RowsHave m Reg.POSE_EVENT_FIX_REJECT.addr := has_POSE_EVENT h
theorem in_POSE_EVENT_FIX_STALE {m : Nat} (h : m.testBit 146 = true) : RowsHave m Reg.POSE_EVENT_FIX_STALE.addr := has_POSE_EVENT h
theorem in_POSE_EVENT_IMU_DISAGREE {m : Nat} (h : m.testBit 146 = true) : RowsHave m Reg.POSE_EVENT_IMU_DISAGREE.addr := has_POSE_EVENT h
theorem in_POSE_EVENT_IMU_SWITCH {m : Nat} (h : m.testBit 146 = true) : RowsHave m Reg.POSE_EVENT_IMU_SWITCH.addr := has_POSE_EVENT h
theorem in_POSE_EVENT_POS_JUMP {m : Nat} (h : m.testBit 146 = true) : RowsHave m Reg.POSE_EVENT_POS_JUMP.addr := has_POSE_EVENT h
theorem in_POSE_EVENT_RANGE {m : Nat} (h : m.testBit 146 = true) : RowsHave m Reg.POSE_EVENT_RANGE.addr := has_POSE_EVENT h
theorem in_POSE_EVENT_STATE_CHG {m : Nat} (h : m.testBit 146 = true) : RowsHave m Reg.POSE_EVENT_STATE_CHG.addr := has_POSE_EVENT h
theorem in_POSE_STATUS_BL_COUNT {m : Nat} (h : m.testBit 145 = true) : RowsHave m Reg.POSE_STATUS_BL_COUNT.addr := has_POSE_STATUS h
theorem in_POSE_STATUS_CPV_OK {m : Nat} (h : m.testBit 145 = true) : RowsHave m Reg.POSE_STATUS_CPV_OK.addr := has_POSE_STATUS h
theorem in_POSE_STATUS_IMU0_OK {m : Nat} (h : m.testBit 145 = true) : RowsHave m Reg.POSE_STATUS_IMU0_OK.addr := has_POSE_STATUS h
theorem in_POSE_STATUS_IMU1_OK {m : Nat} (h : m.testBit 145 = true) : RowsHave m Reg.POSE_STATUS_IMU1_OK.addr := has_POSE_STATUS h
theorem in_POSE_STATUS_SPD_OK {m : Nat} (h : m.testBit 145 = true) : RowsHave m Reg.POSE_STATUS_SPD_OK.addr := has_POSE_STATUS h
theorem in_POSE_STATUS_STATE {m : Nat} (h : m.testBit 145 = true) : RowsHave m Reg.POSE_STATUS_STATE.addr := has_POSE_STATUS h
theorem in_POSE_STATUS_VALID {m : Nat} (h : m.testBit 145 = true) : RowsHave m Reg.POSE_STATUS_VALID.addr := has_POSE_STATUS h
theorem in_PWR_AOLOG_BO_PREV {m : Nat} (h : m.testBit 457 = true) : RowsHave m Reg.PWR_AOLOG_BO_PREV.addr := has_PWR_AOLOG h
theorem in_PWR_AOLOG_FAIL_N {m : Nat} (h : m.testBit 457 = true) : RowsHave m Reg.PWR_AOLOG_FAIL_N.addr := has_PWR_AOLOG h
theorem in_PWR_AOLOG_PGLOST_PREV {m : Nat} (h : m.testBit 457 = true) : RowsHave m Reg.PWR_AOLOG_PGLOST_PREV.addr := has_PWR_AOLOG h
theorem in_PWR_AOLOG_PG_MISSING {m : Nat} (h : m.testBit 457 = true) : RowsHave m Reg.PWR_AOLOG_PG_MISSING.addr := has_PWR_AOLOG h
theorem in_PWR_EVENT_BO_SAVED {m : Nat} (h : m.testBit 456 = true) : RowsHave m Reg.PWR_EVENT_BO_SAVED.addr := has_PWR_EVENT h
theorem in_PWR_EVENT_BO_SAVE_FAIL {m : Nat} (h : m.testBit 456 = true) : RowsHave m Reg.PWR_EVENT_BO_SAVE_FAIL.addr := has_PWR_EVENT h
theorem in_PWR_EVENT_CFG_ERR {m : Nat} (h : m.testBit 456 = true) : RowsHave m Reg.PWR_EVENT_CFG_ERR.addr := has_PWR_EVENT h
theorem in_PWR_EVENT_HOLD_LOW {m : Nat} (h : m.testBit 456 = true) : RowsHave m Reg.PWR_EVENT_HOLD_LOW.addr := has_PWR_EVENT h
theorem in_PWR_EVENT_PG_LOST {m : Nat} (h : m.testBit 456 = true) : RowsHave m Reg.PWR_EVENT_PG_LOST.addr := has_PWR_EVENT h
theorem in_PWR_EVENT_SAVE_DONE {m : Nat} (h : m.testBit 456 = true) : RowsHave m Reg.PWR_EVENT_SAVE_DONE.addr := has_PWR_EVENT h
theorem in_PWR_EVENT_SLEEP_BUSY {m : Nat} (h : m.testBit 456 = true) : RowsHave m Reg.PWR_EVENT_SLEEP_BUSY.addr := has_PWR_EVENT h
theorem in_PWR_EVENT_START_FAIL {m : Nat} (h : m.testBit 456 = true) : RowsHave m Reg.PWR_EVENT_START_FAIL.addr := has_PWR_EVENT h
theorem in_PWR_STATUS_LD_SRC {m : Nat} (h : m.testBit 455 = true) : RowsHave m Reg.PWR_STATUS_LD_SRC.addr := has_PWR_STATUS h
theorem in_PWR_STATUS_PG {m : Nat} (h : m.testBit 455 = true) : RowsHave m Reg.PWR_STATUS_PG.addr := has_PWR_STATUS h
theorem in_PWR_STATUS_READY {m : Nat} (h : m.testBit 455 = true) : RowsHave m Reg.PWR_STATUS_READY.addr := has_PWR_STATUS h
theorem in_PWR_STATUS_RTC_VALID {m : Nat} (h : m.testBit 455 = true) : RowsHave m Reg.PWR_STATUS_RTC_VALID.addr := has_PWR_STATUS h
theorem in_PWR_STATUS_SLEEP_PEND {m : Nat} (h : m.testBit 455 = true) : RowsHave m Reg.PWR_STATUS_SLEEP_PEND.addr := has_PWR_STATUS h
theorem in_PWR_STATUS_START_KIND {m : Nat} (h : m.testBit 455 = true) : RowsHave m Reg.PWR_STATUS_START_KIND.addr := has_PWR_STATUS h
theorem in_PWR_TIMES_READY_T {m : Nat} (h : m.testBit 470 = true) : RowsHave m Reg.PWR_TIMES_READY_T.addr := has_PWR_TIMES h
theorem in_PWR_TIMES_SAVE_T {m : Nat} (h : m.testBit 470 = true) : RowsHave m Reg.PWR_TIMES_SAVE_T.addr := has_PWR_TIMES h
theorem in_PWR_WAKE_WAKE_PORT {m : Nat} (h : m.testBit 461 = true) : RowsHave m Reg.PWR_WAKE_WAKE_PORT.addr := has_PWR_WAKE h
theorem in_PWR_WAKE_WAKE_SRC {m : Nat} (h : m.testBit 461 = true) : RowsHave m Reg.PWR_WAKE_WAKE_SRC.addr := has_PWR_WAKE h
theorem in_REC_EVENT_CFG_ERR {m : Nat} (h : m.testBit 473 = true) : RowsHave m Reg.REC_EVENT_CFG_ERR.addr := has_REC_EVENT h
theorem in_REC_EVENT_CORRUPT {m : Nat} (h : m.testBit 473 = true) : RowsHave m Reg.REC_EVENT_CORRUPT.addr := has_REC_EVENT h
theorem in_REC_EVENT_ERASE_DONE {m : Nat} (h : m.testBit 473 = true) : RowsHave m Reg.REC_EVENT_ERASE_DONE.addr := has_REC_EVENT h
theorem in_REC_EVENT_FULL {m : Nat} (h : m.testBit 473 = true) : RowsHave m Reg.REC_EVENT_FULL.addr := has_REC_EVENT h
theorem in_REC_EVENT_PMC_OVF {m : Nat} (h : m.testBit 473 = true) : RowsHave m Reg.REC_EVENT_PMC_OVF.addr := has_REC_EVENT h
theorem in_REC_EVENT_QLOST {m : Nat} (h : m.testBit 473 = true) : RowsHave m Reg.REC_EVENT_QLOST.addr := has_REC_EVENT h
theorem in_REC_EVENT_SMP_FULL {m : Nat} (h : m.testBit 473 = true) : RowsHave m Reg.REC_EVENT_SMP_FULL.addr := has_REC_EVENT h
theorem in_REF_D01_D {m : Nat} (h : m.testBit 452 = true) (i : Nat) : RowsHave m (Reg.REF_D01_D i).addr := has_REF_D01 h i
theorem in_REF_D0A_D {m : Nat} (h : m.testBit 453 = true) (i : Nat) : RowsHave m (Reg.REF_D0A_D i).addr := has_REF_D0A h i
theorem in_REF_D1A_D {m : Nat} (h : m.testBit 454 = true) (i : Nat) : RowsHave m (Reg.REF_D1A_D i).addr := has_REF_D1A h i
theorem in_REF_DRIFT_DRIFT {m : Nat} (h : m.testBit 116 = true) : RowsHave m Reg.REF_DRIFT_DRIFT.addr := has_REF_DRIFT h
theorem in_REF_MEAS_OFFSET {m : Nat} (h : m.testBit 115 = true) : RowsHave m Reg.REF_MEAS_OFFSET.addr := has_REF_MEAS h
theorem in_REF_STAT_DERATE {m : Nat} (h : m.testBit 451 = true) (i : Nat) : RowsHave m (Reg.REF_STAT_DERATE i).addr := has_REF_STAT h i
theorem in_REF_STAT_IN_VOTE {m : Nat} (h : m.testBit 451 = true) (i : Nat) : RowsHave m (Reg.REF_STAT_IN_VOTE i).addr := has_REF_STAT h i
theorem in_REF_STAT_SUSPECT {m : Nat} (h : m.testBit 451 = true) (i : Nat) : RowsHave m (Reg.REF_STAT_SUSPECT i).addr := has_REF_STAT h i
theorem in_REF_STAT_VOTED {m : Nat} (h : m.testBit 451 = true) (i : Nat) : RowsHave m (Reg.REF_STAT_VOTED i).addr := has_REF_STAT h i
theorem in_REF_STAT_WARN {m : Nat} (h : m.testBit 451 = true) (i : Nat) : RowsHave m (Reg.REF_STAT_WARN i).addr := has_REF_STAT h i
theorem in_RES_CAUSE_CHECKER {m : Nat} (h : m.testBit 441 = true) : RowsHave m Reg.RES_CAUSE_CHECKER.addr := has_RES_CAUSE h
theorem in_RES_CAUSE_LANE {m : Nat} (h : m.testBit 441 = true) : RowsHave m Reg.RES_CAUSE_LANE.addr := has_RES_CAUSE h
theorem in_RES_CAUSE_UNIT {m : Nat} (h : m.testBit 441 = true) : RowsHave m Reg.RES_CAUSE_UNIT.addr := has_RES_CAUSE h
theorem in_RES_CNT_A_FENCE_N {m : Nat} (h : m.testBit 446 = true) : RowsHave m Reg.RES_CNT_A_FENCE_N.addr := has_RES_CNT_A h
theorem in_RES_CNT_A_TAKEOVER_N {m : Nat} (h : m.testBit 446 = true) : RowsHave m Reg.RES_CNT_A_TAKEOVER_N.addr := has_RES_CNT_A h
theorem in_RES_CNT_B_ECC_CORR_N {m : Nat} (h : m.testBit 447 = true) : RowsHave m Reg.RES_CNT_B_ECC_CORR_N.addr := has_RES_CNT_B h
theorem in_RES_CNT_B_ECC_UNCORR_N {m : Nat} (h : m.testBit 447 = true) : RowsHave m Reg.RES_CNT_B_ECC_UNCORR_N.addr := has_RES_CNT_B h
theorem in_RES_CNT_C_FIRE_COPY_N {m : Nat} (h : m.testBit 448 = true) : RowsHave m Reg.RES_CNT_C_FIRE_COPY_N.addr := has_RES_CNT_C h
theorem in_RES_CNT_C_PATH_N {m : Nat} (h : m.testBit 448 = true) : RowsHave m Reg.RES_CNT_C_PATH_N.addr := has_RES_CNT_C h
theorem in_RES_ECCADDR_ADDR {m : Nat} (h : m.testBit 450 = true) : RowsHave m Reg.RES_ECCADDR_ADDR.addr := has_RES_ECCADDR h
theorem in_RES_ECCLOG_COPY {m : Nat} (h : m.testBit 449 = true) : RowsHave m Reg.RES_ECCLOG_COPY.addr := has_RES_ECCLOG h
theorem in_RES_ECCLOG_MEMORY {m : Nat} (h : m.testBit 449 = true) : RowsHave m Reg.RES_ECCLOG_MEMORY.addr := has_RES_ECCLOG h
theorem in_RES_ECCLOG_WHERE {m : Nat} (h : m.testBit 449 = true) : RowsHave m Reg.RES_ECCLOG_WHERE.addr := has_RES_ECCLOG h
theorem in_RES_EVENT_CFG_ERR {m : Nat} (h : m.testBit 438 = true) : RowsHave m Reg.RES_EVENT_CFG_ERR.addr := has_RES_EVENT h
theorem in_RES_EVENT_DIE_LINK {m : Nat} (h : m.testBit 438 = true) : RowsHave m Reg.RES_EVENT_DIE_LINK.addr := has_RES_EVENT h
theorem in_RES_EVENT_DIE_PATH {m : Nat} (h : m.testBit 438 = true) : RowsHave m Reg.RES_EVENT_DIE_PATH.addr := has_RES_EVENT h
theorem in_RES_EVENT_ECC_UNCORR {m : Nat} (h : m.testBit 438 = true) : RowsHave m Reg.RES_EVENT_ECC_UNCORR.addr := has_RES_EVENT h
theorem in_RES_EVENT_FENCED {m : Nat} (h : m.testBit 438 = true) : RowsHave m Reg.RES_EVENT_FENCED.addr := has_RES_EVENT h
theorem in_RES_EVENT_FENCED_BEFORE {m : Nat} (h : m.testBit 438 = true) : RowsHave m Reg.RES_EVENT_FENCED_BEFORE.addr := has_RES_EVENT h
theorem in_RES_EVENT_FIRE_COPY {m : Nat} (h : m.testBit 438 = true) : RowsHave m Reg.RES_EVENT_FIRE_COPY.addr := has_RES_EVENT h
theorem in_RES_EVENT_HELD_SAFE {m : Nat} (h : m.testBit 438 = true) : RowsHave m Reg.RES_EVENT_HELD_SAFE.addr := has_RES_EVENT h
theorem in_RES_EVENT_RECOVERED {m : Nat} (h : m.testBit 438 = true) : RowsHave m Reg.RES_EVENT_RECOVERED.addr := has_RES_EVENT h
theorem in_RES_EVENT_REF_DERATE {m : Nat} (h : m.testBit 438 = true) : RowsHave m Reg.RES_EVENT_REF_DERATE.addr := has_RES_EVENT h
theorem in_RES_EVENT_REF_VOTE {m : Nat} (h : m.testBit 438 = true) : RowsHave m Reg.RES_EVENT_REF_VOTE.addr := has_RES_EVENT h
theorem in_RES_EVENT_REF_WARN {m : Nat} (h : m.testBit 438 = true) : RowsHave m Reg.RES_EVENT_REF_WARN.addr := has_RES_EVENT h
theorem in_RES_EVENT_RELEASED {m : Nat} (h : m.testBit 438 = true) : RowsHave m Reg.RES_EVENT_RELEASED.addr := has_RES_EVENT h
theorem in_RES_EVENT_TAKEOVER {m : Nat} (h : m.testBit 438 = true) : RowsHave m Reg.RES_EVENT_TAKEOVER.addr := has_RES_EVENT h
theorem in_RES_HSCAUSE_CAUSE {m : Nat} (h : m.testBit 442 = true) : RowsHave m Reg.RES_HSCAUSE_CAUSE.addr := has_RES_HSCAUSE h
theorem in_RES_STATE_DIE_PATH {m : Nat} (h : m.testBit 437 = true) : RowsHave m Reg.RES_STATE_DIE_PATH.addr := has_RES_STATE h
theorem in_RES_STATE_FIRE_FENCED {m : Nat} (h : m.testBit 437 = true) : RowsHave m Reg.RES_STATE_FIRE_FENCED.addr := has_RES_STATE h
theorem in_RES_STATE_FIRE_OK {m : Nat} (h : m.testBit 437 = true) : RowsHave m Reg.RES_STATE_FIRE_OK.addr := has_RES_STATE h
theorem in_RES_STATE_HELD_SAFE {m : Nat} (h : m.testBit 437 = true) : RowsHave m Reg.RES_STATE_HELD_SAFE.addr := has_RES_STATE h
theorem in_RES_STATE_LANE_A {m : Nat} (h : m.testBit 437 = true) : RowsHave m Reg.RES_STATE_LANE_A.addr := has_RES_STATE h
theorem in_RES_STATE_LANE_B {m : Nat} (h : m.testBit 437 = true) : RowsHave m Reg.RES_STATE_LANE_B.addr := has_RES_STATE h
theorem in_RES_STATE_STATE {m : Nat} (h : m.testBit 437 = true) : RowsHave m Reg.RES_STATE_STATE.addr := has_RES_STATE h
theorem in_RES_STATE_STOP {m : Nat} (h : m.testBit 437 = true) : RowsHave m Reg.RES_STATE_STOP.addr := has_RES_STATE h
theorem in_RES_STATE_STOP_SRC {m : Nat} (h : m.testBit 437 = true) : RowsHave m Reg.RES_STATE_STOP_SRC.addr := has_RES_STATE h
theorem in_RES_TIMES_LAST {m : Nat} (h : m.testBit 445 = true) : RowsHave m Reg.RES_TIMES_LAST.addr := has_RES_TIMES h
theorem in_RES_TIMES_MAX {m : Nat} (h : m.testBit 445 = true) : RowsHave m Reg.RES_TIMES_MAX.addr := has_RES_TIMES h
theorem in_RT_CTRL_PENDING {m : Nat} (h : m.testBit 71 = true) : RowsHave m Reg.RT_CTRL_PENDING.addr := has_RT_CTRL h
theorem in_RT_ENTRY_RATE {m : Nat} (h : m.testBit 83 = true) (i j : Nat) : RowsHave m (Reg.RT_ENTRY_RATE i j).addr := has_RT_ENTRY h i j
theorem in_SL_CTRL_EN {m : Nat} (h : m.testBit 311 = true) (i : Nat) : RowsHave m (Reg.SL_CTRL_EN i).addr := has_SL_CTRL h i
theorem in_SL_LAT_LAST_LAT {m : Nat} (h : m.testBit 318 = true) (i : Nat) : RowsHave m (Reg.SL_LAT_LAST_LAT i).addr := has_SL_LAT h i
theorem in_SL_LAT_MAX_LAT {m : Nat} (h : m.testBit 318 = true) (i : Nat) : RowsHave m (Reg.SL_LAT_MAX_LAT i).addr := has_SL_LAT h i
theorem in_SL_OUT_VALUE {m : Nat} (h : m.testBit 319 = true) (i j : Nat) : RowsHave m (Reg.SL_OUT_VALUE i j).addr := has_SL_OUT h i j
theorem in_SL_OVR_OVR_N {m : Nat} (h : m.testBit 316 = true) (i : Nat) : RowsHave m (Reg.SL_OVR_OVR_N i).addr := has_SL_OVR h i
theorem in_SL_RAMP_R {m : Nat} (h : m.testBit 315 = true) (i : Nat) : RowsHave m (Reg.SL_RAMP_R i).addr := has_SL_RAMP h i
theorem in_SL_RUNS_RUNS {m : Nat} (h : m.testBit 317 = true) (i : Nat) : RowsHave m (Reg.SL_RUNS_RUNS i).addr := has_SL_RUNS h i
theorem in_SL_SETP_S {m : Nat} (h : m.testBit 314 = true) (i : Nat) : RowsHave m (Reg.SL_SETP_S i).addr := has_SL_SETP h i
theorem in_SL_STATE_COEF_PENDING {m : Nat} (h : m.testBit 312 = true) (i : Nat) : RowsHave m (Reg.SL_STATE_COEF_PENDING i).addr := has_SL_STATE h i
theorem in_SL_STATE_SAFE_CAUSE {m : Nat} (h : m.testBit 312 = true) (i : Nat) : RowsHave m (Reg.SL_STATE_SAFE_CAUSE i).addr := has_SL_STATE h i
theorem in_SL_STATE_STATE {m : Nat} (h : m.testBit 312 = true) (i : Nat) : RowsHave m (Reg.SL_STATE_STATE i).addr := has_SL_STATE h i
theorem in_SMP_BUF_DATA {m : Nat} (h : m.testBit 497 = true) (i j : Nat) : RowsHave m (Reg.SMP_BUF_DATA i j).addr := has_SMP_BUF h i j
theorem in_SMP_COUNT_COUNT {m : Nat} (h : m.testBit 496 = true) : RowsHave m Reg.SMP_COUNT_COUNT.addr := has_SMP_COUNT h
theorem in_SMP_COUNT_FULL {m : Nat} (h : m.testBit 496 = true) : RowsHave m Reg.SMP_COUNT_FULL.addr := has_SMP_COUNT h
theorem in_SYNCIN_ERR_ERR {m : Nat} (h : m.testBit 128 = true) : RowsHave m Reg.SYNCIN_ERR_ERR.addr := has_SYNCIN_ERR h
theorem in_TAG_IDX_WORD {m : Nat} (h : m.testBit 485 = true) : RowsHave m Reg.TAG_IDX_WORD.addr := has_TAG_IDX h
theorem in_TAG_WCOUNT_COUNT {m : Nat} (h : m.testBit 487 = true) : RowsHave m Reg.TAG_WCOUNT_COUNT.addr := has_TAG_WCOUNT h
theorem in_TBL_ENTRY {m : Nat} (h : m.testBit 328 = true) (i j : Nat) : RowsHave m (Reg.TBL_ENTRY i j).addr := has_TBL h i j
theorem in_TB_COMMIT_PENDING {m : Nat} (h : m.testBit 291 = true) : RowsHave m Reg.TB_COMMIT_PENDING.addr := has_TB_COMMIT h
theorem in_TB_EVENT_CFG_ERR {m : Nat} (h : m.testBit 129 = true) : RowsHave m Reg.TB_EVENT_CFG_ERR.addr := has_TB_EVENT h
theorem in_TB_EVENT_DEGRADED {m : Nat} (h : m.testBit 129 = true) : RowsHave m Reg.TB_EVENT_DEGRADED.addr := has_TB_EVENT h
theorem in_TB_EVENT_HOLDOVER {m : Nat} (h : m.testBit 129 = true) : RowsHave m Reg.TB_EVENT_HOLDOVER.addr := has_TB_EVENT h
theorem in_TB_EVENT_OFS_WARN {m : Nat} (h : m.testBit 129 = true) : RowsHave m Reg.TB_EVENT_OFS_WARN.addr := has_TB_EVENT h
theorem in_TB_EVENT_RECOVERED {m : Nat} (h : m.testBit 129 = true) : RowsHave m Reg.TB_EVENT_RECOVERED.addr := has_TB_EVENT h
theorem in_TB_EVENT_REFIN_LOST {m : Nat} (h : m.testBit 129 = true) : RowsHave m Reg.TB_EVENT_REFIN_LOST.addr := has_TB_EVENT h
theorem in_TB_EVENT_SYNC_LOST {m : Nat} (h : m.testBit 129 = true) : RowsHave m Reg.TB_EVENT_SYNC_LOST.addr := has_TB_EVENT h
theorem in_TB_EVENT_SYNC_REJECT {m : Nat} (h : m.testBit 129 = true) : RowsHave m Reg.TB_EVENT_SYNC_REJECT.addr := has_TB_EVENT h
theorem in_TB_EVENT_SYNC_UNALIGNED {m : Nat} (h : m.testBit 129 = true) : RowsHave m Reg.TB_EVENT_SYNC_UNALIGNED.addr := has_TB_EVENT h
theorem in_TB_STATUS_CAL_VALID {m : Nat} (h : m.testBit 109 = true) : RowsHave m Reg.TB_STATUS_CAL_VALID.addr := has_TB_STATUS h
theorem in_TB_STATUS_DISC_ACT {m : Nat} (h : m.testBit 109 = true) : RowsHave m Reg.TB_STATUS_DISC_ACT.addr := has_TB_STATUS h
theorem in_TB_STATUS_MEAS_VALID {m : Nat} (h : m.testBit 109 = true) : RowsHave m Reg.TB_STATUS_MEAS_VALID.addr := has_TB_STATUS h
theorem in_TB_STATUS_PLL_LOCK {m : Nat} (h : m.testBit 109 = true) : RowsHave m Reg.TB_STATUS_PLL_LOCK.addr := has_TB_STATUS h
theorem in_TB_STATUS_REFIN_ACT {m : Nat} (h : m.testBit 109 = true) : RowsHave m Reg.TB_STATUS_REFIN_ACT.addr := has_TB_STATUS h
theorem in_TB_STATUS_REFOUT_ON {m : Nat} (h : m.testBit 109 = true) : RowsHave m Reg.TB_STATUS_REFOUT_ON.addr := has_TB_STATUS h
theorem in_TB_STATUS_STATE {m : Nat} (h : m.testBit 109 = true) : RowsHave m Reg.TB_STATUS_STATE.addr := has_TB_STATUS h
theorem in_TB_STATUS_SYNC_LOCK {m : Nat} (h : m.testBit 109 = true) : RowsHave m Reg.TB_STATUS_SYNC_LOCK.addr := has_TB_STATUS h
theorem in_TG_CTRL_DONE {m : Nat} (h : m.testBit 294 = true) (i : Nat) : RowsHave m (Reg.TG_CTRL_DONE i).addr := has_TG_CTRL h i
theorem in_TG_CTRL_RUN {m : Nat} (h : m.testBit 294 = true) (i : Nat) : RowsHave m (Reg.TG_CTRL_RUN i).addr := has_TG_CTRL h i
theorem in_TILE_CTRL_COV_WRITE {m : Nat} (h : m.testBit 81 = true) (i : Nat) : RowsHave m (Reg.TILE_CTRL_COV_WRITE i).addr := has_TILE_CTRL h i
theorem in_TILE_CTRL_PENDING {m : Nat} (h : m.testBit 81 = true) (i : Nat) : RowsHave m (Reg.TILE_CTRL_PENDING i).addr := has_TILE_CTRL h i
theorem in_TILE_CTRL_STATE {m : Nat} (h : m.testBit 81 = true) (i : Nat) : RowsHave m (Reg.TILE_CTRL_STATE i).addr := has_TILE_CTRL h i
theorem in_TILE_DIRTY_BAND {m : Nat} (h : m.testBit 82 = true) (i : Nat) : RowsHave m (Reg.TILE_DIRTY_BAND i).addr := has_TILE_DIRTY h i
theorem in_TRIP_CFG_TRIPPED {m : Nat} (h : m.testBit 225 = true) (i : Nat) : RowsHave m (Reg.TRIP_CFG_TRIPPED i).addr := has_TRIP_CFG h i
theorem in_VCH_CFG_AUX {m : Nat} (h : m.testBit 241 = true) (i : Nat) : RowsHave m (Reg.VCH_CFG_AUX i).addr := has_VCH_CFG h i
theorem in_VCH_CFG_MAPPED {m : Nat} (h : m.testBit 241 = true) (i : Nat) : RowsHave m (Reg.VCH_CFG_MAPPED i).addr := has_VCH_CFG h i
theorem in_VCH_CFG_MOD_AUX {m : Nat} (h : m.testBit 241 = true) (i : Nat) : RowsHave m (Reg.VCH_CFG_MOD_AUX i).addr := has_VCH_CFG h i
theorem in_VCH_CFG_OUTLET {m : Nat} (h : m.testBit 241 = true) (i : Nat) : RowsHave m (Reg.VCH_CFG_OUTLET i).addr := has_VCH_CFG h i
theorem in_VCH_CFG_PROFILE {m : Nat} (h : m.testBit 241 = true) (i : Nat) : RowsHave m (Reg.VCH_CFG_PROFILE i).addr := has_VCH_CFG h i
theorem in_VCH_CNT_DIP_MISS_N {m : Nat} (h : m.testBit 251 = true) (i : Nat) : RowsHave m (Reg.VCH_CNT_DIP_MISS_N i).addr := has_VCH_CNT h i
theorem in_VCH_CNT_UNSEATED_N {m : Nat} (h : m.testBit 251 = true) (i : Nat) : RowsHave m (Reg.VCH_CNT_UNSEATED_N i).addr := has_VCH_CNT h i
theorem in_VCH_FAULT_LINK {m : Nat} (h : m.testBit 243 = true) (i : Nat) : RowsHave m (Reg.VCH_FAULT_LINK i).addr := has_VCH_FAULT h i
theorem in_VCH_HEAT_RATIO {m : Nat} (h : m.testBit 247 = true) (i : Nat) : RowsHave m (Reg.VCH_HEAT_RATIO i).addr := has_VCH_HEAT h i
theorem in_VCH_IMEAS_I {m : Nat} (h : m.testBit 245 = true) (i : Nat) : RowsHave m (Reg.VCH_IMEAS_I i).addr := has_VCH_IMEAS h i
theorem in_VCH_KPEAK_PEAK {m : Nat} (h : m.testBit 250 = true) (i : Nat) : RowsHave m (Reg.VCH_KPEAK_PEAK i).addr := has_VCH_KPEAK h i
theorem in_VCH_SEAL_CODE {m : Nat} (h : m.testBit 249 = true) (i : Nat) : RowsHave m (Reg.VCH_SEAL_CODE i).addr := has_VCH_SEAL h i
theorem in_VCH_SEAL_KIND {m : Nat} (h : m.testBit 249 = true) (i : Nat) : RowsHave m (Reg.VCH_SEAL_KIND i).addr := has_VCH_SEAL h i
theorem in_VCH_SEAL_M {m : Nat} (h : m.testBit 249 = true) (i : Nat) : RowsHave m (Reg.VCH_SEAL_M i).addr := has_VCH_SEAL h i
theorem in_VCH_STATE_DERATE {m : Nat} (h : m.testBit 242 = true) (i : Nat) : RowsHave m (Reg.VCH_STATE_DERATE i).addr := has_VCH_STATE h i
theorem in_VCH_STATE_PHASE {m : Nat} (h : m.testBit 242 = true) (i : Nat) : RowsHave m (Reg.VCH_STATE_PHASE i).addr := has_VCH_STATE h i
theorem in_VCH_STATE_SENSE_OPEN {m : Nat} (h : m.testBit 242 = true) (i : Nat) : RowsHave m (Reg.VCH_STATE_SENSE_OPEN i).addr := has_VCH_STATE h i
theorem in_VCH_STATE_STATE {m : Nat} (h : m.testBit 242 = true) (i : Nat) : RowsHave m (Reg.VCH_STATE_STATE i).addr := has_VCH_STATE h i
theorem in_VCH_VMEAS_V {m : Nat} (h : m.testBit 246 = true) (i : Nat) : RowsHave m (Reg.VCH_VMEAS_V i).addr := has_VCH_VMEAS h i
theorem in_VD_EVENT_BST_LOW {m : Nat} (h : m.testBit 213 = true) : RowsHave m Reg.VD_EVENT_BST_LOW.addr := has_VD_EVENT h
theorem in_VD_EVENT_BST_OV {m : Nat} (h : m.testBit 213 = true) : RowsHave m Reg.VD_EVENT_BST_OV.addr := has_VD_EVENT h
theorem in_VD_EVENT_CFG_ERR {m : Nat} (h : m.testBit 213 = true) : RowsHave m Reg.VD_EVENT_CFG_ERR.addr := has_VD_EVENT h
theorem in_VD_EVENT_CH_FAULT {m : Nat} (h : m.testBit 213 = true) : RowsHave m Reg.VD_EVENT_CH_FAULT.addr := has_VD_EVENT h
theorem in_VD_EVENT_DUTY_HOLD {m : Nat} (h : m.testBit 213 = true) : RowsHave m Reg.VD_EVENT_DUTY_HOLD.addr := has_VD_EVENT h
theorem in_VD_EVENT_LINK_LOST {m : Nat} (h : m.testBit 213 = true) : RowsHave m Reg.VD_EVENT_LINK_LOST.addr := has_VD_EVENT h
theorem in_VD_EVENT_SENSE_OPEN {m : Nat} (h : m.testBit 213 = true) : RowsHave m Reg.VD_EVENT_SENSE_OPEN.addr := has_VD_EVENT h
theorem in_VD_EVENT_TRIP {m : Nat} (h : m.testBit 213 = true) : RowsHave m Reg.VD_EVENT_TRIP.addr := has_VD_EVENT h
theorem in_VD_GATECOMP_LAT_A {m : Nat} (h : m.testBit 214 = true) : RowsHave m Reg.VD_GATECOMP_LAT_A.addr := has_VD_GATECOMP h
theorem in_VD_GATECOMP_LAT_B {m : Nat} (h : m.testBit 214 = true) : RowsHave m Reg.VD_GATECOMP_LAT_B.addr := has_VD_GATECOMP h
theorem in_VD_STATUS_DIEA_LINK {m : Nat} (h : m.testBit 212 = true) : RowsHave m Reg.VD_STATUS_DIEA_LINK.addr := has_VD_STATUS h
theorem in_VD_STATUS_DIEB_LINK {m : Nat} (h : m.testBit 212 = true) : RowsHave m Reg.VD_STATUS_DIEB_LINK.addr := has_VD_STATUS h
theorem in_VD_STATUS_HALTED {m : Nat} (h : m.testBit 212 = true) : RowsHave m Reg.VD_STATUS_HALTED.addr := has_VD_STATUS h

/-! Registers that an operation picks by a condition. -/

theorem rows_eq {m a b : Nat} (h : RowsHave m a) (e : b = a) : RowsHave m b := e ▸ h
theorem in_msixPba {m : Nat} (h : m.testBit 431 = true) (k : m.testBit 436 = true) (p v : Nat) : RowsHave m (Fld.mk (msixPba p + 4 * (v / 32 % 2)) 0 32).addr := by
  unfold msixPba
  split
  · exact has_MSIX0_PBA h (v / 32)
  · exact has_MSIX1_PBA k (v / 32)
theorem has_PMC_OVF {m : Nat} (h : m.testBit 489 = true) (k : m.testBit 490 = true) (x : Nat) : RowsHave m (0x5E0104 + 4 * (x % 2)) := by
  rcases Nat.mod_two_eq_zero_or_one x with e | e <;> rw [e]
  · exact has_PMC_OVF_LO h
  · exact has_PMC_OVF_HI k
theorem has_LS_CFGS {m : Nat} (h : m.testBit 337 = true) (k : m.testBit 338 = true) (x : Nat) : RowsHave m (0x580100 + 0x40 * (x / 2 % 32) + 4 * (x % 2)) := by
  rcases Nat.mod_two_eq_zero_or_one x with e | e <;> rw [e]
  · exact has_LS_CFG h (x / 2)
  · exact rows_eq (has_LS_CFG2 k (x / 2)) (by omega)
theorem has_SEQ {m : Nat} (h : m.testBit 467 = true) (k : m.testBit 468 = true) (x : Nat) : RowsHave m (0x5D0030 + 4 * (x % 2)) := by
  rcases Nat.mod_two_eq_zero_or_one x with e | e <;> rw [e]
  · exact has_SEQ_A h
  · exact has_SEQ_B k
theorem in_errCounter {m p lec : Nat} {f : Fld} (h0 : m.testBit 380 = true) (h1 : m.testBit 381 = true) (h2 : m.testBit 382 = true) (e : errCounter p lec = some f) : RowsHave m f.addr := by
  unfold errCounter at e
  repeat' split at e
  all_goals cases e
  all_goals first | exact has_BP_CNT_A h0 p | exact has_BP_CNT_B h1 p | exact has_BP_CNT_C h2 p
theorem in_lrnF {m : Nat} (h : m.testBit 201 = true) (k : m.testBit 202 = true) (kind o : Nat) : RowsHave m (lrnF kind o).addr := by
  unfold lrnF
  split
  · exact has_OT_LRN_OPEN h o
  · exact has_OT_LRN_CLOSE k o
theorem in_nomF {m : Nat} (h : m.testBit 199 = true) (k : m.testBit 200 = true) (kind o : Nat) : RowsHave m (nomF kind o).addr := by
  unfold nomF
  split
  · exact has_OT_NOM_OPEN h o
  · exact has_OT_NOM_CLOSE k o
theorem in_trnF {m : Nat} (h : m.testBit 203 = true) (k : m.testBit 204 = true) (kind o : Nat) : RowsHave m (trnF kind o).addr := by
  unfold trnF
  split
  · exact has_OT_TRN_OPEN h o
  · exact has_OT_TRN_CLOSE k o
theorem in_learnedF {m : Nat} (h : m.testBit 201 = true) (k : m.testBit 202 = true) (kind o : Nat) : RowsHave m (learnedF kind o).addr := by
  unfold learnedF
  split
  · exact has_OT_LRN_OPEN h o
  · exact has_OT_LRN_CLOSE k o
theorem in_frozenF {m : Nat} (h : m.testBit 201 = true) (k : m.testBit 202 = true) (kind o : Nat) : RowsHave m (frozenF kind o).addr := by
  unfold frozenF
  split
  · exact has_OT_LRN_OPEN h o
  · exact has_OT_LRN_CLOSE k o
theorem in_jitF {m : Nat} (h : m.testBit 107 = true) (k : m.testBit 108 = true) (kind o : Nat) : RowsHave m (jitF kind o).addr := by
  unfold jitF
  split
  · exact has_LJ_OPEN h o
  · exact has_LJ_CLOSE k o
theorem in_sealsF {m : Nat} (h : m.testBit 107 = true) (k : m.testBit 108 = true) (kind o : Nat) : RowsHave m (sealsF kind o).addr := by
  unfold sealsF
  split
  · exact has_LJ_OPEN h o
  · exact has_LJ_CLOSE k o
theorem in_jitOkF {m : Nat} (h : m.testBit 107 = true) (k : m.testBit 108 = true) (kind o : Nat) : RowsHave m (jitOkF kind o).addr := by
  unfold jitOkF
  split
  · exact has_LJ_OPEN h o
  · exact has_LJ_CLOSE k o
theorem in_laneFld {m : Nat} (h : m.testBit 437 = true) (k : m.testBit 437 = true) (l : Nat) : RowsHave m (laneFld l).addr := by
  unfold laneFld
  split
  · exact in_RES_STATE_LANE_A h
  · exact in_RES_STATE_LANE_B k
theorem in_uLedger {m : Nat} (h : m.testBit 252 = true) (k : m.testBit 259 = true) (u : Nat) : RowsHave m (uLedger u).addr := by
  unfold uLedger unitBase
  split
  · exact rows_eq (has_PWM_CTRL h u) rfl
  · exact rows_eq (has_AUXPWM_CTRL k (u - 128)) rfl
theorem in_uPending {m : Nat} (h : m.testBit 252 = true) (k : m.testBit 259 = true) (u : Nat) : RowsHave m (uPending u).addr := by
  unfold uPending unitBase
  split
  · exact rows_eq (has_PWM_CTRL h u) rfl
  · exact rows_eq (has_AUXPWM_CTRL k (u - 128)) rfl
theorem in_uClamp {m : Nat} (h : m.testBit 252 = true) (k : m.testBit 259 = true) (u : Nat) : RowsHave m (uClamp u).addr := by
  unfold uClamp unitBase
  split
  · exact rows_eq (has_PWM_CTRL h u) rfl
  · exact rows_eq (has_AUXPWM_CTRL k (u - 128)) rfl
theorem in_uPeriod {m : Nat} (h : m.testBit 254 = true) (k : m.testBit 261 = true) (u : Nat) : RowsHave m (uPeriod u).addr := by
  unfold uPeriod unitBase
  split
  · exact rows_eq (has_PWM_PERIOD h u) (by dsimp only; omega)
  · exact rows_eq (has_AUXPWM_PERIOD k (u - 128)) (by dsimp only; omega)
theorem in_uDuty {m : Nat} (h : m.testBit 255 = true) (k : m.testBit 262 = true) (u : Nat) : RowsHave m (uDuty u).addr := by
  unfold uDuty unitBase
  split
  · exact rows_eq (has_PWM_DUTY h u) (by dsimp only; omega)
  · exact rows_eq (has_AUXPWM_DUTY k (u - 128)) (by dsimp only; omega)
theorem in_uPhase {m : Nat} (h : m.testBit 256 = true) (k : m.testBit 263 = true) (u : Nat) : RowsHave m (uPhase u).addr := by
  unfold uPhase unitBase
  split
  · exact rows_eq (has_PWM_PHASE h u) (by dsimp only; omega)
  · exact rows_eq (has_AUXPWM_PHASE k (u - 128)) (by dsimp only; omega)
theorem in_uActDuty {m : Nat} (h : m.testBit 257 = true) (k : m.testBit 264 = true) (u : Nat) : RowsHave m (uActDuty u).addr := by
  unfold uActDuty unitBase
  split
  · exact rows_eq (has_PWM_ACT_DUTY h u) (by dsimp only; omega)
  · exact rows_eq (has_AUXPWM_ACT_DUTY k (u - 128)) (by dsimp only; omega)
theorem in_uActPeriod {m : Nat} (h : m.testBit 258 = true) (k : m.testBit 265 = true) (u : Nat) : RowsHave m (uActPeriod u).addr := by
  unfold uActPeriod unitBase
  split
  · exact rows_eq (has_PWM_ACT_PERIOD h u) (by dsimp only; omega)
  · exact rows_eq (has_AUXPWM_ACT_PERIOD k (u - 128)) (by dsimp only; omega)
theorem in_unitBase {m : Nat} (h : m.testBit 253 = true) (k : m.testBit 260 = true) (u : Nat) : RowsHave m (Fld.mk (unitBase u + 4) 0 20).addr := by
  unfold unitBase
  split
  · exact rows_eq (has_PWM_CHOP h u) (by dsimp only; omega)
  · exact rows_eq (has_AUXPWM_CHOP k (u - 128)) (by dsimp only; omega)

end Sys2Proof.Machine
end

