-- ==== Sys2Proof/Laws/TouchRegs.lean ====
section
/-! SUPPORT. What each operation of Machine/Regs.lean may change, as a mask. -/

namespace Sys2Proof.Machine

set_option linter.all false
set_option Elab.async false

theorem State.tick_touch {msk : Nat} {org : State} (s : State) (hm : sub 0x800000000000000000000000000000000000000000000000000000000000000000000000000000000000000000000000000000000000000000000000000000000 msk) (hz : Within msk org s) : Within msk org (State.tick s) := by
  unfold State.tick
  repeat' with_reducible (first | assumption | intro _ | exact partOk_refl _ _ _ | apply within_ite | apply within_ite_fst | apply rows_ite | apply rows_if | apply within_foldl | apply within_foldl_fst | split | (dsimp only; split) | apply within_mk)
  all_goals first | exact sub_le (by decide) hm | exact partOk_bit (sub_bit hm (by decide)) | exact sub_bit hm (by decide) | exact .inr rfl

end Sys2Proof.Machine
end

