-- ==== Sys2Proof/Laws/TouchRecords.lean ====
section
/-! SUPPORT. What each operation of Machine/Records.lean may change, as a mask. -/

namespace Sys2Proof.Machine

set_option linter.all false
set_option Elab.async false

theorem State.hostWriteMem_touch {msk : Nat} {org : State} (s : State) (p addr : Nat) (bs : List Byte) (hm : sub 0x40000000000000000000000000000000000000000000000000000000000000000000000000000000000000000000000000000000000000000000000000000000000 msk) (hz : Within msk org s) : Within msk org (State.hostWriteMem s p addr bs) := by
  unfold State.hostWriteMem
  repeat' with_reducible (first | assumption | intro _ | exact partOk_refl _ _ _ | apply State.ring_touch | apply within_ite | apply within_ite_fst | apply rows_ite | apply rows_if | apply within_foldl | apply within_foldl_fst | split | (dsimp only; split) | apply within_mk)
  all_goals first | exact sub_le (by decide) hm | exact partOk_bit (sub_bit hm (by decide)) | exact sub_bit hm (by decide) | exact .inr rfl

theorem State.msix_touch {msk : Nat} {org : State} (s : State) (p v : Nat) (hm : sub 0x40000000000000000000010800000000000000000000000000000000000000000000000000000000000000000000000000000000000000000000000000000000000 msk) (hz : Within msk org s) : Within msk org (State.msix s p v) := by
  unfold State.msix
  repeat' with_reducible (first | assumption | intro _ | exact partOk_refl _ _ _ | apply State.setFbit_touch | apply State.hostWriteMem_touch | apply within_ite | apply within_ite_fst | apply rows_ite | apply rows_if | apply within_foldl | apply within_foldl_fst | split | (dsimp only; split) | apply within_mk)
  all_goals try with_reducible (first | refine in_msixPba ?_ ?_ _ _)
  all_goals first | exact sub_le (by decide) hm | exact partOk_bit (sub_bit hm (by decide)) | exact sub_bit hm (by decide) | exact in_msixPba (sub_bit hm (by decide)) (sub_bit hm (by decide)) _ _ | exact .inr rfl

theorem State.supNotify_touch {msk : Nat} {org : State} (s : State) (before : Nat) (hm : sub 0x40000000000000000000010800000000000000000000000000000000000000000000000000000000000000000000000000000000000000000000000000000000000 msk) (hz : Within msk org s) : Within msk org (State.supNotify s before) := by
  unfold State.supNotify
  repeat' with_reducible (first | assumption | intro _ | exact partOk_refl _ _ _ | apply State.msix_touch | apply within_ite | apply within_ite_fst | apply rows_ite | apply rows_if | apply within_foldl | apply within_foldl_fst | split | (dsimp only; split) | apply within_mk)
  all_goals first | exact sub_le (by decide) hm | exact partOk_bit (sub_bit hm (by decide)) | exact sub_bit hm (by decide) | exact .inr rfl

theorem State.raiseBit_touch {msk : Nat} {org : State} (s : State) (f : Fld) (i : Nat) (hm : sub 0x40000000000000000000010800000000000000000000000000000000000000000000000000000000000000000000000000000000000000000000000000000000000 msk) (ha : RowsHave msk f.addr) (hz : Within msk org s) : Within msk org (State.raiseBit s f i) := by
  unfold State.raiseBit
  repeat' with_reducible (first | assumption | intro _ | exact partOk_refl _ _ _ | apply State.setFbit_touch | apply State.supNotify_touch | apply within_ite | apply within_ite_fst | apply rows_ite | apply rows_if | apply within_foldl | apply within_foldl_fst | split | (dsimp only; split) | apply within_mk)
  all_goals first | exact sub_le (by decide) hm | exact partOk_bit (sub_bit hm (by decide)) | exact sub_bit hm (by decide) | exact .inr rfl

theorem State.raise_touch {msk : Nat} {org : State} (s : State) (f : Fld) (hm : sub 0x40000000000000000000010800000000000000000000000000000000000000000000000000000000000000000000000000000000000000000000000000000000000 msk) (ha : RowsHave msk f.addr) (hz : Within msk org s) : Within msk org (State.raise s f) := by
  unfold State.raise
  repeat' with_reducible (first | assumption | intro _ | exact partOk_refl _ _ _ | apply State.raiseBit_touch | apply within_ite | apply within_ite_fst | apply rows_ite | apply rows_if | apply within_foldl | apply within_foldl_fst | split | (dsimp only; split) | apply within_mk)
  all_goals first | exact sub_le (by decide) hm | exact partOk_bit (sub_bit hm (by decide)) | exact sub_bit hm (by decide) | exact .inr rfl

theorem State.raiseIf_touch {msk : Nat} {org : State} (s : State) (b : Bool) (f : Fld) (hm : sub 0x40000000000000000000010800000000000000000000000000000000000000000000000000000000000000000000000000000000000000000000000000000000000 msk) (ha : RowsHave msk f.addr) (hz : Within msk org s) : Within msk org (State.raiseIf s b f) := by
  unfold State.raiseIf
  repeat' with_reducible (first | assumption | intro _ | exact partOk_refl _ _ _ | apply State.raise_touch | apply within_ite | apply within_ite_fst | apply rows_ite | apply rows_if | apply within_foldl | apply within_foldl_fst | split | (dsimp only; split) | apply within_mk)
  all_goals first | exact sub_le (by decide) hm | exact partOk_bit (sub_bit hm (by decide)) | exact sub_bit hm (by decide) | exact .inr rfl

theorem pmcOne_touch {msk : Nat} {org : State} (ev n : Nat) (sc : State × Nat) (k : Nat) (hm : sub 0x40000003600020000000010800000000000000000000000000000000000000000000000000000000000000000000000000000000000000000000000000000000000 msk) (hz : Within msk org sc.1) : Within msk org (pmcOne ev n sc k).1 := by
  unfold pmcOne
  repeat' with_reducible (first | assumption | intro _ | exact partOk_refl _ _ _ | apply State.setFld_touch | apply State.setFbit_touch | apply State.raise_touch | apply within_ite | apply within_ite_fst | apply rows_ite | apply rows_if | apply within_foldl | apply within_foldl_fst | split | (dsimp only; split) | apply within_mk)
  all_goals try with_reducible (first | refine in_PMC_HI_COUNT ?_ _ | refine in_PMC_LO_COUNT ?_ _ | refine has_PMC_OVF_LO ?_ | refine in_REC_EVENT_PMC_OVF ?_ | refine has_PMC_OVF ?_ ?_ _)
  all_goals first | exact sub_le (by decide) hm | exact partOk_bit (sub_bit hm (by decide)) | exact sub_bit hm (by decide) | exact in_PMC_HI_COUNT (sub_bit hm (by decide)) _ | exact in_PMC_LO_COUNT (sub_bit hm (by decide)) _ | exact has_PMC_OVF_LO (sub_bit hm (by decide)) | exact in_REC_EVENT_PMC_OVF (sub_bit hm (by decide)) | exact has_PMC_OVF (sub_bit hm (by decide)) (sub_bit hm (by decide)) _ | exact .inr rfl

theorem State.count_touch {msk : Nat} {org : State} (s : State) (ev n : Nat) (hm : sub 0x40000003600020000000010800000000000000000000000000000000000000000000000000000000000000000000000000000000000000000000000000000000000 msk) (hz : Within msk org s) : Within msk org (State.count s ev n) := by
  unfold State.count
  repeat' with_reducible (first | assumption | intro _ | exact partOk_refl _ _ _ | apply pmcOne_touch | apply within_ite | apply within_ite_fst | apply rows_ite | apply rows_if | apply within_foldl | apply within_foldl_fst | split | (dsimp only; split) | apply within_mk)
  all_goals first | exact sub_le (by decide) hm | exact partOk_bit (sub_bit hm (by decide)) | exact sub_bit hm (by decide) | exact .inr rfl

theorem State.muslinWith_touch {msk : Nat} {org : State} (s : State) (source kind flags : Nat) (data : List Byte) (hm : sub 0x60000003611020000000010800000000000000000000000000000000000000000000000000000000000000000000000000000000000000000000000000000000000 msk) (hz : Within msk org s) : Within msk org (State.muslinWith s source kind flags data) := by
  unfold State.muslinWith
  repeat' with_reducible (first | assumption | intro _ | exact partOk_refl _ _ _ | apply State.bump_touch | apply State.muslin_touch | apply State.bumpWrap_touch | apply State.count_touch | apply within_ite | apply within_ite_fst | apply rows_ite | apply rows_if | apply within_foldl | apply within_foldl_fst | split | (dsimp only; split) | apply within_mk)
  all_goals try with_reducible (first | refine in_MU_SKIP_SKIP_N ?_ | refine in_MU_WRITTEN_WRITTEN ?_)
  all_goals first | exact sub_le (by decide) hm | exact partOk_bit (sub_bit hm (by decide)) | exact sub_bit hm (by decide) | exact in_MU_SKIP_SKIP_N (sub_bit hm (by decide)) | exact in_MU_WRITTEN_WRITTEN (sub_bit hm (by decide)) | exact .inr rfl

theorem State.muslin_touch {msk : Nat} {org : State} (s : State) (source kind : Nat) (data : List Byte) (hm : sub 0x60000003611020000000010800000000000000000000000000000000000000000000000000000000000000000000000000000000000000000000000000000000000 msk) (hz : Within msk org s) : Within msk org (State.muslin s source kind data) := by
  unfold State.muslin
  repeat' with_reducible (first | assumption | intro _ | exact partOk_refl _ _ _ | apply State.muslinWith_touch | apply within_ite | apply within_ite_fst | apply rows_ite | apply rows_if | apply within_foldl | apply within_foldl_fst | split | (dsimp only; split) | apply within_mk)
  all_goals first | exact sub_le (by decide) hm | exact partOk_bit (sub_bit hm (by decide)) | exact sub_bit hm (by decide) | exact .inr rfl

theorem State.canvasWith_touch {msk : Nat} {org : State} (s : State) (source kind : Nat) (deferred suspect : Bool) (data : List Byte) (hm : sub 0x60000003611820000000010800000000000000000000000000000000000000000000000000000000000000000000000000000000000000000000000000000000000 msk) (hz : Within msk org s) : Within msk org (State.canvasWith s source kind deferred suspect data) := by
  unfold State.canvasWith
  repeat' with_reducible (first | assumption | intro _ | exact partOk_refl _ _ _ | apply State.muslinWith_touch | apply State.bump_touch | apply State.raise_touch | apply within_ite | apply within_ite_fst | apply rows_ite | apply rows_if | apply within_foldl | apply within_foldl_fst | split | (dsimp only; split) | apply within_mk)
  all_goals try with_reducible (first | refine in_REC_EVENT_QLOST ?_ | refine in_CV_QLOST_QLOST_N ?_)
  all_goals first | exact sub_le (by decide) hm | exact partOk_bit (sub_bit hm (by decide)) | exact sub_bit hm (by decide) | exact in_REC_EVENT_QLOST (sub_bit hm (by decide)) | exact in_CV_QLOST_QLOST_N (sub_bit hm (by decide)) | exact .inr rfl

theorem State.canvas_touch {msk : Nat} {org : State} (s : State) (source kind : Nat) (data : List Byte) (hm : sub 0x60000003611820000000010800000000000000000000000000000000000000000000000000000000000000000000000000000000000000000000000000000000000 msk) (hz : Within msk org s) : Within msk org (State.canvas s source kind data) := by
  unfold State.canvas
  repeat' with_reducible (first | assumption | intro _ | exact partOk_refl _ _ _ | apply State.canvasWith_touch | apply within_ite | apply within_ite_fst | apply rows_ite | apply rows_if | apply within_foldl | apply within_foldl_fst | split | (dsimp only; split) | apply within_mk)
  all_goals first | exact sub_le (by decide) hm | exact partOk_bit (sub_bit hm (by decide)) | exact sub_bit hm (by decide) | exact .inr rfl

end Sys2Proof.Machine
end

