-- ==== Sys2Proof/Laws/TouchContexts.lean ====
section
/-! SUPPORT. What each operation of Machine/Contexts.lean may change, as a mask. -/

namespace Sys2Proof.Machine

set_option linter.all false
set_option Elab.async false

theorem State.answers_touch {msk : Nat} {org : State} (s : State) (code : Nat) (data : List Word) (hm : sub 0x1000000000000000000000000000000000000000000000000000000000000000000000000000000000000000000000000000000000000000000000000000000000 msk) (hz : Within msk org s) : Within msk org (State.answers s code data) := by
  unfold State.answers
  repeat' with_reducible (first | assumption | intro _ | exact partOk_refl _ _ _ | apply within_ite | apply within_ite_fst | apply rows_ite | apply rows_if | apply within_foldl | apply within_foldl_fst | split | (dsimp only; split) | apply within_mk)
  all_goals first | exact sub_le (by decide) hm | exact partOk_bit (sub_bit hm (by decide)) | exact sub_bit hm (by decide) | exact .inr rfl

theorem State.ctxMessage_touch {msk : Nat} {org : State} (s : State) (c : Nat) (hm : sub 0x40000000000000000000010800000000000000000000000000000000000000000000000000000000000000000000000000000000000000000000000000000000000 msk) (hz : Within msk org s) : Within msk org (State.ctxMessage s c) := by
  unfold State.ctxMessage
  repeat' with_reducible (first | assumption | intro _ | exact partOk_refl _ _ _ | apply State.msix_touch | apply within_ite | apply within_ite_fst | apply rows_ite | apply rows_if | apply within_foldl | apply within_foldl_fst | split | (dsimp only; split) | apply within_mk)
  all_goals first | exact sub_le (by decide) hm | exact partOk_bit (sub_bit hm (by decide)) | exact sub_bit hm (by decide) | exact .inr rfl

theorem State.ctxIrq_touch {msk : Nat} {org : State} (s : State) (c i : Nat) (hm : sub 0x40000000000000000000010800000000000000000000000000000000000000000000000000000000000000000000000000000000000000000000000000000000400 msk) (hz : Within msk org s) : Within msk org (State.ctxIrq s c i) := by
  unfold State.ctxIrq
  repeat' with_reducible (first | assumption | intro _ | exact partOk_refl _ _ _ | apply State.setFbit_touch | apply State.ctxMessage_touch | apply within_ite | apply within_ite_fst | apply rows_ite | apply rows_if | apply within_foldl | apply within_foldl_fst | split | (dsimp only; split) | apply within_mk)
  all_goals try with_reducible (first | refine has_CW_IRQ ?_ _)
  all_goals first | exact sub_le (by decide) hm | exact partOk_bit (sub_bit hm (by decide)) | exact sub_bit hm (by decide) | exact has_CW_IRQ (sub_bit hm (by decide)) _ | exact .inr rfl

theorem State.dmaError_touch {msk : Nat} {org : State} (s : State) (c : Nat) (hm : sub 0x40000000000000000000010800000000000000000000000000000000000000000000000000000000000000000000000000000000000000000000000000000000420 msk) (hz : Within msk org s) : Within msk org (State.dmaError s c) := by
  unfold State.dmaError
  repeat' with_reducible (first | assumption | intro _ | exact partOk_refl _ _ _ | apply State.setFld_touch | apply State.ctxIrq_touch | apply within_ite | apply within_ite_fst | apply rows_ite | apply rows_if | apply within_foldl | apply within_foldl_fst | split | (dsimp only; split) | apply within_mk)
  all_goals try with_reducible (first | refine in_CW_RING_EN ?_ _ | refine in_CW_RING_RING_ERR ?_ _)
  all_goals first | exact sub_le (by decide) hm | exact partOk_bit (sub_bit hm (by decide)) | exact sub_bit hm (by decide) | exact in_CW_RING_EN (sub_bit hm (by decide)) _ | exact in_CW_RING_RING_ERR (sub_bit hm (by decide)) _ | exact .inr rfl

theorem State.streamPut_touch {msk : Nat} {org : State} (s : State) (c k : Nat) (bs : List Byte) (hm : sub 0x40000003600020000000010800000000000000000000000000000000000000000000000000000000000000000000000000000000000000000000000000000140400 msk) (hz : Within msk org s) : Within msk org (State.streamPut s c k bs) := by
  unfold State.streamPut
  repeat' with_reducible (first | assumption | intro _ | exact partOk_refl _ _ _ | apply State.bump_touch | apply State.ctxIrq_touch | apply State.count_touch | apply State.hostWriteMem_touch | apply State.setFld_touch | apply within_ite | apply within_ite_fst | apply rows_ite | apply rows_if | apply within_foldl | apply within_foldl_fst | split | (dsimp only; split) | apply within_mk)
  all_goals try with_reducible (first | refine in_CW_STR_DROP_DROP_N ?_ _ _ | refine in_CW_STR_WR_INDEX ?_ _ _)
  all_goals first | exact sub_le (by decide) hm | exact partOk_bit (sub_bit hm (by decide)) | exact sub_bit hm (by decide) | exact in_CW_STR_DROP_DROP_N (sub_bit hm (by decide)) _ _ | exact in_CW_STR_WR_INDEX (sub_bit hm (by decide)) _ _ | exact .inr rfl

theorem State.streamCtx_touch {msk : Nat} {org : State} (s : State) (c kind : Nat) (bs : List Byte) (hm : sub 0x40000003600020000000010800000000000000000000000000000000000000000000000000000000000000000000000000000000000000000000000000000140400 msk) (hz : Within msk org s) : Within msk org (State.streamCtx s c kind bs) := by
  unfold State.streamCtx
  repeat' with_reducible (first | assumption | intro _ | exact partOk_refl _ _ _ | apply State.streamPut_touch | apply within_ite | apply within_ite_fst | apply rows_ite | apply rows_if | apply within_foldl | apply within_foldl_fst | split | (dsimp only; split) | apply within_mk)
  all_goals first | exact sub_le (by decide) hm | exact partOk_bit (sub_bit hm (by decide)) | exact sub_bit hm (by decide) | exact .inr rfl

theorem State.streamRole_touch {msk : Nat} {org : State} (s : State) (g : Nat → Fld) (kind : Nat) (bs : List Byte) (hm : sub 0x40000003600020000000010800000000000000000000000000000000000000000000000000000000000000000000000000000000000000000000000000000140400 msk) (hz : Within msk org s) : Within msk org (State.streamRole s g kind bs) := by
  unfold State.streamRole
  repeat' with_reducible (first | assumption | intro _ | exact partOk_refl _ _ _ | apply State.streamCtx_touch | apply within_ite | apply within_ite_fst | apply rows_ite | apply rows_if | apply within_foldl | apply within_foldl_fst | split | (dsimp only; split) | apply within_mk)
  all_goals first | exact sub_le (by decide) hm | exact partOk_bit (sub_bit hm (by decide)) | exact sub_bit hm (by decide) | exact .inr rfl

end Sys2Proof.Machine
end

