-- ==== Sys2Proof/Laws/TouchSignals.lean ====
section
/-! SUPPORT. What each operation of Machine/Signals.lean may change, as a mask. -/

namespace Sys2Proof.Machine

set_option linter.all false
set_option Elab.async false

theorem State.setChan_touch {msk : Nat} {org : State} (s : State) (n : Nat) (c : ChanState) (hm : sub 0x8000000000000000000000000000000000000000000000000000000000000000000000000000000000000000000000000000000000000000000000000000000000 msk) (hz : Within msk org s) : Within msk org (State.setChan s n c) := by
  unfold State.setChan
  repeat' with_reducible (first | assumption | intro _ | exact partOk_refl _ _ _ | apply within_ite | apply within_ite_fst | apply rows_ite | apply rows_if | apply within_foldl | apply within_foldl_fst | split | (dsimp only; split) | apply within_mk)
  all_goals first | exact sub_le (by decide) hm | exact partOk_bit (sub_bit hm (by decide)) | exact sub_bit hm (by decide) | exact .inr rfl

theorem State.ncoRun_touch {msk : Nat} {org : State} (s : State) (n : Nat) (hm : sub 0x8000000000000000000000000000000000000000000000000000000000000000000000000000000000000000000000000000000000000000000000000000000000 msk) (hz : Within msk org s) : Within msk org (State.ncoRun s n) := by
  unfold State.ncoRun
  repeat' with_reducible (first | assumption | intro _ | exact partOk_refl _ _ _ | apply State.setChan_touch | apply within_ite | apply within_ite_fst | apply rows_ite | apply rows_if | apply within_foldl | apply within_foldl_fst | split | (dsimp only; split) | apply within_mk)
  all_goals first | exact sub_le (by decide) hm | exact partOk_bit (sub_bit hm (by decide)) | exact sub_bit hm (by decide) | exact .inr rfl

theorem State.ncoSet_touch {msk : Nat} {org : State} (s : State) (n : Nat) (fc fk : Int) (hm : sub 0x180000000000000000000000000000000000 msk) (hz : Within msk org s) : Within msk org (State.ncoSet s n fc fk) := by
  unfold State.ncoSet
  repeat' with_reducible (first | assumption | intro _ | exact partOk_refl _ _ _ | apply State.setSfld_touch | apply within_ite | apply within_ite_fst | apply rows_ite | apply rows_if | apply within_foldl | apply within_foldl_fst | split | (dsimp only; split) | apply within_mk)
  all_goals try with_reducible (first | refine in_GCH_CODE_NCO_INC ?_ _ | refine in_GCH_CARR_NCO_INC ?_ _)
  all_goals first | exact sub_le (by decide) hm | exact partOk_bit (sub_bit hm (by decide)) | exact sub_bit hm (by decide) | exact in_GCH_CODE_NCO_INC (sub_bit hm (by decide)) _ | exact in_GCH_CARR_NCO_INC (sub_bit hm (by decide)) _ | exact .inr rfl

theorem State.ncoStart_touch {msk : Nat} {org : State} (s : State) (n : Nat) (fc : Int) (ph : Nat) (hm : sub 0x8000000000000000000000000000000000000000000000000000000000000000000000000000000000000000000000180000000000000000000000000000000000 msk) (hz : Within msk org s) : Within msk org (State.ncoStart s n fc ph) := by
  unfold State.ncoStart
  repeat' with_reducible (first | assumption | intro _ | exact partOk_refl _ _ _ | apply State.setChan_touch | apply State.ncoSet_touch | apply within_ite | apply within_ite_fst | apply rows_ite | apply rows_if | apply within_foldl | apply within_foldl_fst | split | (dsimp only; split) | apply within_mk)
  all_goals first | exact sub_le (by decide) hm | exact partOk_bit (sub_bit hm (by decide)) | exact sub_bit hm (by decide) | exact .inr rfl

theorem State.trialRates_touch {msk : Nat} {org : State} (s : State) (n : Nat) (hm : sub 0x180000000000000000000000000000000000 msk) (hz : Within msk org s) : Within msk org (State.trialRates s n) := by
  unfold State.trialRates
  repeat' with_reducible (first | assumption | intro _ | exact partOk_refl _ _ _ | apply State.ncoSet_touch | apply within_ite | apply within_ite_fst | apply rows_ite | apply rows_if | apply within_foldl | apply within_foldl_fst | split | (dsimp only; split) | apply within_mk)
  all_goals first | exact sub_le (by decide) hm | exact partOk_bit (sub_bit hm (by decide)) | exact sub_bit hm (by decide) | exact .inr rfl

theorem State.searchBegin_touch {msk : Nat} {org : State} (s : State) (n : Nat) (hm : sub 0x8000000000000000000000000000000000000000000000000000000000000000000000000000000000000000000000180000000000000000000000000000000000 msk) (hz : Within msk org s) : Within msk org (State.searchBegin s n) := by
  unfold State.searchBegin
  repeat' with_reducible (first | assumption | intro _ | exact partOk_refl _ _ _ | apply State.setChan_touch | apply State.trialRates_touch | apply within_ite | apply within_ite_fst | apply rows_ite | apply rows_if | apply within_foldl | apply within_foldl_fst | split | (dsimp only; split) | apply within_mk)
  all_goals first | exact sub_le (by decide) hm | exact partOk_bit (sub_bit hm (by decide)) | exact sub_bit hm (by decide) | exact .inr rfl

theorem State.searchTo_touch {msk : Nat} {org : State} (s : State) (n k : Nat) (hm : sub 0x8000000000000000000000000000000000000000000000000000000000000000000000000000000000000000000000180000000000000000000000000000000000 msk) (hz : Within msk org s) : Within msk org (State.searchTo s n k) := by
  unfold State.searchTo
  repeat' with_reducible (first | assumption | intro _ | exact partOk_refl _ _ _ | apply State.ncoRun_touch | apply State.setChan_touch | apply State.trialRates_touch | apply within_ite | apply within_ite_fst | apply rows_ite | apply rows_if | apply within_foldl | apply within_foldl_fst | split | (dsimp only; split) | apply within_mk)
  all_goals first | exact sub_le (by decide) hm | exact partOk_bit (sub_bit hm (by decide)) | exact sub_bit hm (by decide) | exact .inr rfl

end Sys2Proof.Machine
end

