-- ==== Sys2Proof/Laws/TouchGnss.lean ====
section
/-! SUPPORT. What each operation of Machine/Gnss.lean may change, as a mask. -/

namespace Sys2Proof.Machine

set_option linter.all false
set_option Elab.async false

theorem State.hold_touch {msk : Nat} {org : State} (s : State) (x : HeldItem) (hm : sub 0x10000000000000000000000000000000000000000000000000000000000000000000000000000000000000000000000000000000000000000000000000000000000000 msk) (hz : Within msk org s) : Within msk org (State.hold s x) := by
  unfold State.hold
  repeat' with_reducible (first | assumption | intro _ | exact partOk_refl _ _ _ | apply within_ite | apply within_ite_fst | apply rows_ite | apply rows_if | apply within_foldl | apply within_foldl_fst | split | (dsimp only; split) | apply within_mk)
  all_goals first | exact sub_le (by decide) hm | exact partOk_bit (sub_bit hm (by decide)) | exact sub_bit hm (by decide) | exact .inr rfl

theorem State.recountTracking_touch {msk : Nat} {org : State} (s : State) (hm : sub 0x4000000000000 msk) (hz : Within msk org s) : Within msk org (State.recountTracking s) := by
  unfold State.recountTracking
  repeat' with_reducible (first | assumption | intro _ | exact partOk_refl _ _ _ | apply State.setFld_touch | apply within_ite | apply within_ite_fst | apply rows_ite | apply rows_if | apply within_foldl | apply within_foldl_fst | split | (dsimp only; split) | apply within_mk)
  all_goals try with_reducible (first | refine in_BB_STATUS_TRACKING ?_)
  all_goals first | exact sub_le (by decide) hm | exact partOk_bit (sub_bit hm (by decide)) | exact sub_bit hm (by decide) | exact in_BB_STATUS_TRACKING (sub_bit hm (by decide)) | exact .inr rfl

theorem State.noteLock_touch {msk : Nat} {org : State} (s : State) (hm : sub 0x4000000000000000000000000000000000000000000000000000000000000000000000000000000000000000000000000000000000000000000000000000000000 msk) (hz : Within msk org s) : Within msk org (State.noteLock s) := by
  unfold State.noteLock
  repeat' with_reducible (first | assumption | intro _ | exact partOk_refl _ _ _ | apply within_ite | apply within_ite_fst | apply rows_ite | apply rows_if | apply within_foldl | apply within_foldl_fst | split | (dsimp only; split) | apply within_mk)
  all_goals first | exact sub_le (by decide) hm | exact partOk_bit (sub_bit hm (by decide)) | exact sub_bit hm (by decide) | exact .inr rfl

theorem State.sendSymbols_touch {msk : Nat} {org : State} (s : State) (n : Nat) (hm : sub 0x48000003600020000000010800000000000000000000000000000000000000000000000000000000000000000000000000000000000000000000000000000140400 msk) (hz : Within msk org s) : Within msk org (State.sendSymbols s n) := by
  unfold State.sendSymbols
  repeat' with_reducible (first | assumption | intro _ | exact partOk_refl _ _ _ | apply State.streamRole_touch | apply State.setChan_touch | apply within_ite | apply within_ite_fst | apply rows_ite | apply rows_if | apply within_foldl | apply within_foldl_fst | split | (dsimp only; split) | apply within_mk)
  all_goals first | exact sub_le (by decide) hm | exact partOk_bit (sub_bit hm (by decide)) | exact sub_bit hm (by decide) | exact .inr rfl

theorem State.fitEnds_touch {msk : Nat} {org : State} (s : State) (n : Nat) (hm : sub 0x8000000000000000000000000000000000000000000000000000000000000000000000000000000000000000000000800000000000000000000000000000000000 msk) (hz : Within msk org s) : Within msk org (State.fitEnds s n) := by
  unfold State.fitEnds
  repeat' with_reducible (first | assumption | intro _ | exact partOk_refl _ _ _ | apply State.setReg_touch | apply State.setChan_touch | apply within_ite | apply within_ite_fst | apply rows_ite | apply rows_if | apply within_foldl | apply within_foldl_fst | split | (dsimp only; split) | apply within_mk)
  all_goals try with_reducible (first | refine has_GCH_MP ?_ _)
  all_goals first | exact sub_le (by decide) hm | exact partOk_bit (sub_bit hm (by decide)) | exact sub_bit hm (by decide) | exact has_GCH_MP (sub_bit hm (by decide)) _ | exact .inr rfl

theorem State.chanTo_touch {msk : Nat} {org : State} (s : State) (n st : Nat) (hm : sub 0x4c0000036000200000000108000000000000000000000000000000000000000000000000000000000000000000000009a0000000000000000000004000000140400 msk) (hz : Within msk org s) : Within msk org (State.chanTo s n st) := by
  unfold State.chanTo
  repeat' with_reducible (first | assumption | intro _ | exact partOk_refl _ _ _ | apply Run.st_touch | apply State.sendSymbols_touch | apply State.fitEnds_touch | apply State.setFld_touch | apply State.setChan_touch | apply State.recountTracking_touch | apply State.noteLock_touch | apply State.searchBegin_touch | apply within_ite | apply within_ite_fst | apply rows_ite | apply rows_if | apply within_foldl | apply within_foldl_fst | split | (dsimp only; split) | apply within_mk)
  all_goals try with_reducible (first | refine in_GCH_STATE_STATE ?_ _ | refine in_GCH_STATE_BIT_SYNC ?_ _ | refine in_GCH_STATE_PLL_LOCK ?_ _)
  all_goals first | exact sub_le (by decide) hm | exact partOk_bit (sub_bit hm (by decide)) | exact sub_bit hm (by decide) | exact in_GCH_STATE_STATE (sub_bit hm (by decide)) _ | exact in_GCH_STATE_BIT_SYNC (sub_bit hm (by decide)) _ | exact in_GCH_STATE_PLL_LOCK (sub_bit hm (by decide)) _ | exact .inr rfl

theorem State.pullinAt_touch {msk : Nat} {org : State} (s : State) (n : Nat) (fc : Int) (ph : Nat) (hm : sub 0x4c0000036000200000000108000000000000000000000000000000000000000000000000000000000000000000000009a0000000000000000000004000000140400 msk) (hz : Within msk org s) : Within msk org (State.pullinAt s n fc ph) := by
  unfold State.pullinAt
  repeat' with_reducible (first | assumption | intro _ | exact partOk_refl _ _ _ | apply State.setChan_touch | apply State.ncoStart_touch | apply State.chanTo_touch | apply within_ite | apply within_ite_fst | apply rows_ite | apply rows_if | apply within_foldl | apply within_foldl_fst | split | (dsimp only; split) | apply within_mk)
  all_goals first | exact sub_le (by decide) hm | exact partOk_bit (sub_bit hm (by decide)) | exact sub_bit hm (by decide) | exact .inr rfl

theorem State.startFrom_touch {msk : Nat} {org : State} (s : State) (n m : Nat) (hm : sub 0x4c0000036000200000000108000000000000000000000000000000000000000000000000000000000000000000000009a0000000000000000000004000000140400 msk) (hz : Within msk org s) : Within msk org (State.startFrom s n m) := by
  unfold State.startFrom
  repeat' with_reducible (first | assumption | intro _ | exact partOk_refl _ _ _ | apply State.pullinAt_touch | apply within_ite | apply within_ite_fst | apply rows_ite | apply rows_if | apply within_foldl | apply within_foldl_fst | split | (dsimp only; split) | apply within_mk)
  all_goals first | exact sub_le (by decide) hm | exact partOk_bit (sub_bit hm (by decide)) | exact sub_bit hm (by decide) | exact .inr rfl

theorem State.startChan_touch {msk : Nat} {org : State} (s : State) (n : Nat) (part : Nat × Nat) (hm : sub 0x4c0000036000200000000108000000000000000000000000000000000000000000000000000000000000000000000009e0000000000000000000004000000140400 msk) (hz : Within msk org s) : Within msk org (State.startChan s n part) := by
  unfold State.startChan
  repeat' with_reducible (first | assumption | intro _ | exact partOk_refl _ _ _ | apply State.raise_touch | apply State.startFrom_touch | apply State.setChan_touch | apply State.chanTo_touch | apply within_ite | apply within_ite_fst | apply rows_ite | apply rows_if | apply within_foldl | apply within_foldl_fst | split | (dsimp only; split) | apply within_mk)
  all_goals try with_reducible (first | refine in_GCH_EVENT_CFG_ERR ?_ _)
  all_goals first | exact sub_le (by decide) hm | exact partOk_bit (sub_bit hm (by decide)) | exact sub_bit hm (by decide) | exact in_GCH_EVENT_CFG_ERR (sub_bit hm (by decide)) _ | exact .inr rfl

theorem State.giveChan_touch {msk : Nat} {org : State} (s : State) (n : Nat) (e : Nat × Nat × Nat × Nat) (hm : sub 0x4c0000036000200000000108000000000000000000000000000000000000000000000000000000000000000000000009e0800000000000000000004000000140400 msk) (hz : Within msk org s) : Within msk org (State.giveChan s n e) := by
  unfold State.giveChan
  repeat' with_reducible (first | assumption | intro _ | exact partOk_refl _ _ _ | apply State.raise_touch | apply State.setFld_touch | apply State.startChan_touch | apply within_ite | apply within_ite_fst | apply rows_ite | apply rows_if | apply within_foldl | apply within_foldl_fst | split | (dsimp only; split) | apply within_mk)
  all_goals try with_reducible (first | refine in_GCH_EVENT_CFG_ERR ?_ _ | refine in_GCH_CFG_SV ?_ _ | refine in_GCH_CFG_SIG ?_ _ | refine in_GCH_CFG_STREAM ?_ _ | refine in_GCH_CFG_PORT ?_ _)
  all_goals first | exact sub_le (by decide) hm | exact partOk_bit (sub_bit hm (by decide)) | exact sub_bit hm (by decide) | exact in_GCH_EVENT_CFG_ERR (sub_bit hm (by decide)) _ | exact in_GCH_CFG_SV (sub_bit hm (by decide)) _ | exact in_GCH_CFG_SIG (sub_bit hm (by decide)) _ | exact in_GCH_CFG_STREAM (sub_bit hm (by decide)) _ | exact in_GCH_CFG_PORT (sub_bit hm (by decide)) _ | exact .inr rfl

theorem State.allocateBlock_touch {msk : Nat} {org : State} (s : State) (b : Nat) (hm : sub 0x4c8000036000200000000108000000000000000000000000000000000000000000000000000000000000000000000009e0800000000000000000004000000140400 msk) (hz : Within msk org s) : Within msk org (State.allocateBlock s b) := by
  unfold State.allocateBlock
  repeat' with_reducible (first | assumption | intro _ | exact partOk_refl _ _ _ | apply State.tick_touch | apply State.giveChan_touch | apply within_ite | apply within_ite_fst | apply rows_ite | apply rows_if | apply within_foldl | apply within_foldl_fst | split | (dsimp only; split) | apply within_mk)
  all_goals first | exact sub_le (by decide) hm | exact partOk_bit (sub_bit hm (by decide)) | exact sub_bit hm (by decide) | exact .inr rfl

theorem State.allocate_touch {msk : Nat} {org : State} (s : State) (hm : sub 0x4c8000036000200000000108000000000000000000000000000000000000000000000000000000000000000000000009e0800000000000000000004000000140400 msk) (hz : Within msk org s) : Within msk org (State.allocate s) := by
  unfold State.allocate
  repeat' with_reducible (first | assumption | intro _ | exact partOk_refl _ _ _ | apply State.allocateBlock_touch | apply within_ite | apply within_ite_fst | apply rows_ite | apply rows_if | apply within_foldl | apply within_foldl_fst | split | (dsimp only; split) | apply within_mk)
  all_goals first | exact sub_le (by decide) hm | exact partOk_bit (sub_bit hm (by decide)) | exact sub_bit hm (by decide) | exact .inr rfl

theorem State.setBaselines_touch {msk : Nat} {org : State} (s : State) (bs : List (Nat × List Int)) (hm : sub 0x10000000000000000000000000000000000000000000000000000000000000000000000000000000000000000000002000000000000000000000000000000000000 msk) (hz : Within msk org s) : Within msk org (State.setBaselines s bs) := by
  unfold State.setBaselines
  repeat' with_reducible (first | assumption | intro _ | exact partOk_refl _ _ _ | apply State.setFld_touch | apply within_ite | apply within_ite_fst | apply rows_ite | apply rows_if | apply within_foldl | apply within_foldl_fst | split | (dsimp only; split) | apply within_mk)
  all_goals try with_reducible (first | refine in_POSE_STATUS_BL_COUNT ?_)
  all_goals first | exact sub_le (by decide) hm | exact partOk_bit (sub_bit hm (by decide)) | exact sub_bit hm (by decide) | exact in_POSE_STATUS_BL_COUNT (sub_bit hm (by decide)) | exact .inr rfl

theorem State.bbStop_touch {msk : Nat} {org : State} (s : State) (hm : sub 0x5c0000036000200000000108000000000000000000000000000000000000000000000000000000000000000000000029a0000000000000000000004000000140400 msk) (hz : Within msk org s) : Within msk org (State.bbStop s) := by
  unfold State.bbStop
  repeat' with_reducible (first | assumption | intro _ | exact partOk_refl _ _ _ | apply State.chanTo_touch | apply State.setFld_touch | apply State.setBaselines_touch | apply within_ite | apply within_ite_fst | apply rows_ite | apply rows_if | apply within_foldl | apply within_foldl_fst | split | (dsimp only; split) | apply within_mk)
  all_goals try with_reducible (first | refine in_BB_STATUS_BB_ON ?_ | refine in_POSE_STATUS_CPV_OK ?_)
  all_goals first | exact sub_le (by decide) hm | exact partOk_bit (sub_bit hm (by decide)) | exact sub_bit hm (by decide) | exact in_BB_STATUS_BB_ON (sub_bit hm (by decide)) | exact in_POSE_STATUS_CPV_OK (sub_bit hm (by decide)) | exact .inr rfl

theorem State.bbStart_touch {msk : Nat} {org : State} (s : State) (hm : sub 0x4c8000036000200000000108000000000000000000000000000000000000000000000000000000000000000000000009e0800000000000000000004000000140400 msk) (hz : Within msk org s) : Within msk org (State.bbStart s) := by
  unfold State.bbStart
  repeat' with_reducible (first | assumption | intro _ | exact partOk_refl _ _ _ | apply State.setFld_touch | apply State.tick_touch | apply State.allocate_touch | apply within_ite | apply within_ite_fst | apply rows_ite | apply rows_if | apply within_foldl | apply within_foldl_fst | split | (dsimp only; split) | apply within_mk)
  all_goals try with_reducible (first | refine in_BB_STATUS_BB_ON ?_ | refine in_BB_STATUS_HOT_VALID ?_)
  all_goals first | exact sub_le (by decide) hm | exact partOk_bit (sub_bit hm (by decide)) | exact sub_bit hm (by decide) | exact in_BB_STATUS_BB_ON (sub_bit hm (by decide)) | exact in_BB_STATUS_HOT_VALID (sub_bit hm (by decide)) | exact .inr rfl

theorem State.chanCmd_touch {msk : Nat} {org : State} (s : State) (n cmd : Nat) (hm : sub 0x4c0000036000200000000108000000000000000000000000000000000000000000000000000000000000000000000009e0000000000000000000004000000140400 msk) (hz : Within msk org s) : Within msk org (State.chanCmd s n cmd) := by
  unfold State.chanCmd
  repeat' with_reducible (first | assumption | intro _ | exact partOk_refl _ _ _ | apply State.chanTo_touch | apply State.raise_touch | apply State.startChan_touch | apply State.setChan_touch | apply State.pullinAt_touch | apply within_ite | apply within_ite_fst | apply rows_ite | apply rows_if | apply within_foldl | apply within_foldl_fst | split | (dsimp only; split) | apply within_mk)
  all_goals try with_reducible (first | refine in_GCH_EVENT_CFG_ERR ?_ _)
  all_goals first | exact sub_le (by decide) hm | exact partOk_bit (sub_bit hm (by decide)) | exact sub_bit hm (by decide) | exact in_GCH_EVENT_CFG_ERR (sub_bit hm (by decide)) _ | exact .inr rfl

theorem State.chanWrite_touch {msk : Nat} {org : State} (s : State) (a v : Nat) (hm : sub 0x4c0000036000200000000108000000000000000000000000000000000000000000000000000000000000000000000009e0000000000000000000004000000140400 msk) (ha : RowsHave msk a) (hz : Within msk org s) : Within msk org (State.chanWrite s a v) := by
  unfold State.chanWrite
  repeat' with_reducible (first | assumption | intro _ | exact partOk_refl _ _ _ | apply State.chanCmd_touch | apply State.writeCodes_touch | apply State.raise_touch | apply within_ite | apply within_ite_fst | apply rows_ite | apply rows_if | apply within_foldl | apply within_foldl_fst | split | (dsimp only; split) | apply within_mk)
  all_goals try with_reducible (first | refine in_GCH_EVENT_CFG_ERR ?_ _)
  all_goals first | exact sub_le (by decide) hm | exact partOk_bit (sub_bit hm (by decide)) | exact sub_bit hm (by decide) | exact in_GCH_EVENT_CFG_ERR (sub_bit hm (by decide)) _ | exact .inr rfl

theorem State.codeData_touch {msk : Nat} {org : State} (s : State) (w : Option Word) (hm : sub 0x8000000000000000000000000000000000000000000000000000000000000000000000000000000000000000000000000000000000000000000200000000000000 msk) (hz : Within msk org s) : Within msk org (State.codeData s w).1 := by
  unfold State.codeData
  repeat' with_reducible (first | assumption | intro _ | exact partOk_refl _ _ _ | apply State.setFld_touch | apply within_ite | apply within_ite_fst | apply rows_ite | apply rows_if | apply within_foldl | apply within_foldl_fst | split | (dsimp only; split) | apply within_mk)
  all_goals try with_reducible (first | refine in_CODE_ADDR_WORD ?_)
  all_goals first | exact sub_le (by decide) hm | exact partOk_bit (sub_bit hm (by decide)) | exact sub_bit hm (by decide) | exact in_CODE_ADDR_WORD (sub_bit hm (by decide)) | exact .inr rfl

theorem State.aidData_touch {msk : Nat} {org : State} (s : State) (w : Option Word) (hm : sub 0x8000000000000000000000000000000000000000000000000000000000000000000000000000000000000000000000000000000000000000001000000000000000 msk) (hz : Within msk org s) : Within msk org (State.aidData s w).1 := by
  unfold State.aidData
  repeat' with_reducible (first | assumption | intro _ | exact partOk_refl _ _ _ | apply State.setFld_touch | apply within_ite | apply within_ite_fst | apply rows_ite | apply rows_if | apply within_foldl | apply within_foldl_fst | split | (dsimp only; split) | apply within_mk)
  all_goals try with_reducible (first | refine in_AID_ADDR_WORD ?_)
  all_goals first | exact sub_le (by decide) hm | exact partOk_bit (sub_bit hm (by decide)) | exact sub_bit hm (by decide) | exact in_AID_ADDR_WORD (sub_bit hm (by decide)) | exact .inr rfl

theorem State.bbWrite_touch {msk : Nat} {org : State} (s : State) (a v : Nat) (hm : sub 0x8000000000000000000000000000000000000000000000000000000000000000000000000000000000000000000000000000000000000000001200000000000000 msk) (ha : RowsHave msk a) (hz : Within msk org s) : Within msk org (State.bbWrite s a v) := by
  unfold State.bbWrite
  repeat' with_reducible (first | assumption | intro _ | exact partOk_refl _ _ _ | apply State.codeData_touch | apply State.aidData_touch | apply State.writeCodes_touch | apply within_ite | apply within_ite_fst | apply rows_ite | apply rows_if | apply within_foldl | apply within_foldl_fst | split | (dsimp only; split) | apply within_mk)
  all_goals first | exact sub_le (by decide) hm | exact partOk_bit (sub_bit hm (by decide)) | exact sub_bit hm (by decide) | exact .inr rfl

theorem State.train_touch {msk : Nat} {org : State} (s : State) (n : Nat) (hm : sub 0x8000000000000000000000000000000000000000000000000000000000000000000000000000000000000000000000000000000000000000000010000000000000 msk) (hz : Within msk org s) : Within msk org (State.train s n) := by
  unfold State.train
  repeat' with_reducible (first | assumption | intro _ | exact partOk_refl _ _ _ | apply State.setFld_touch | apply within_ite | apply within_ite_fst | apply rows_ite | apply rows_if | apply within_foldl | apply within_foldl_fst | split | (dsimp only; split) | apply within_mk)
  all_goals try with_reducible (first | refine in_AS_STAT_CLK_PRESENT ?_ _ | refine in_AS_STAT_ALIGNED ?_ _)
  all_goals first | exact sub_le (by decide) hm | exact partOk_bit (sub_bit hm (by decide)) | exact sub_bit hm (by decide) | exact in_AS_STAT_CLK_PRESENT (sub_bit hm (by decide)) _ | exact in_AS_STAT_ALIGNED (sub_bit hm (by decide)) _ | exact .inr rfl

theorem State.asPortLost_touch {msk : Nat} {org : State} (s : State) (n : Nat) (hm : sub 0x5c0000036000200000000108000000000000000000000000000000000000000000000000000000000000000000000029e0000000000000000000014000000140400 msk) (hz : Within msk org s) : Within msk org (State.asPortLost s n) := by
  unfold State.asPortLost
  repeat' with_reducible (first | assumption | intro _ | exact partOk_refl _ _ _ | apply State.setFld_touch | apply State.raise_touch | apply State.chanTo_touch | apply State.setBaselines_touch | apply within_ite | apply within_ite_fst | apply rows_ite | apply rows_if | apply within_foldl | apply within_foldl_fst | split | (dsimp only; split) | apply within_mk)
  all_goals try with_reducible (first | refine in_AS_STAT_CLK_PRESENT ?_ _ | refine in_AS_STAT_ALIGNED ?_ _ | refine in_AS_STAT_PORT_LOST ?_ _ | refine in_GCH_EVENT_PORT_LOST ?_ _)
  all_goals first | exact sub_le (by decide) hm | exact partOk_bit (sub_bit hm (by decide)) | exact sub_bit hm (by decide) | exact in_AS_STAT_CLK_PRESENT (sub_bit hm (by decide)) _ | exact in_AS_STAT_ALIGNED (sub_bit hm (by decide)) _ | exact in_AS_STAT_PORT_LOST (sub_bit hm (by decide)) _ | exact in_GCH_EVENT_PORT_LOST (sub_bit hm (by decide)) _ | exact .inr rfl

theorem State.latchTaps_touch {msk : Nat} {org : State} (s : State) (n : Nat) (sums : List Tap) (neg : Bool) (hm : sub 0x40000000000000000000010800000000000000000000000000000000000000000000000000000000000000000000000640000000000000000000000000000000000 msk) (hz : Within msk org s) : Within msk org (State.latchTaps s n sums neg) := by
  unfold State.latchTaps
  repeat' with_reducible (first | assumption | intro _ | exact partOk_refl _ _ _ | apply State.setSfld_touch | apply State.raiseIf_touch | apply within_ite | apply within_ite_fst | apply rows_ite | apply rows_if | apply within_foldl | apply within_foldl_fst | split | (dsimp only; split) | apply within_mk)
  all_goals try with_reducible (first | refine in_GCH_TAP_Q_SUM ?_ _ _ | refine in_GCH_TAP_I_SUM ?_ _ _ | refine in_GCH_EVENT_SAT ?_ _)
  all_goals first | exact sub_le (by decide) hm | exact partOk_bit (sub_bit hm (by decide)) | exact sub_bit hm (by decide) | exact in_GCH_TAP_Q_SUM (sub_bit hm (by decide)) _ _ | exact in_GCH_TAP_I_SUM (sub_bit hm (by decide)) _ _ | exact in_GCH_EVENT_SAT (sub_bit hm (by decide)) _ | exact .inr rfl

theorem State.found_touch {msk : Nat} {org : State} (s : State) (n p : Nat) (hm : sub 0x4c0000036000200000000108000000000000000000000000000000000000000000000000000000000000000000000009a0000000000000000000004000000140400 msk) (hz : Within msk org s) : Within msk org (State.found s n p) := by
  unfold State.found
  repeat' with_reducible (first | assumption | intro _ | exact partOk_refl _ _ _ | apply State.ncoStart_touch | apply State.chanTo_touch | apply within_ite | apply within_ite_fst | apply rows_ite | apply rows_if | apply within_foldl | apply within_foldl_fst | split | (dsimp only; split) | apply within_mk)
  all_goals first | exact sub_le (by decide) hm | exact partOk_bit (sub_bit hm (by decide)) | exact sub_bit hm (by decide) | exact .inr rfl

theorem State.dwell_touch {msk : Nat} {org : State} (s : State) (n : Nat) (hm : sub 0x4c0000036000200000000108000000000000000000000000000000000000000000000000000000000000000000000009e0000000000000000000004000000140400 msk) (hz : Within msk org s) : Within msk org (State.dwell s n) := by
  unfold State.dwell
  repeat' with_reducible (first | assumption | intro _ | exact partOk_refl _ _ _ | apply State.setChan_touch | apply State.found_touch | apply State.searchTo_touch | apply State.chanTo_touch | apply State.raise_touch | apply within_ite | apply within_ite_fst | apply rows_ite | apply rows_if | apply within_foldl | apply within_foldl_fst | split | (dsimp only; split) | apply within_mk)
  all_goals try with_reducible (first | refine in_GCH_EVENT_ACQ_FAIL ?_ _)
  all_goals first | exact sub_le (by decide) hm | exact partOk_bit (sub_bit hm (by decide)) | exact sub_bit hm (by decide) | exact in_GCH_EVENT_ACQ_FAIL (sub_bit hm (by decide)) _ | exact .inr rfl

theorem State.estimate_touch {msk : Nat} {org : State} (s : State) (n : Nat) (hm : sub 0x8000000000000000000000000000000000000000000000000000000000000000000000000000000000000000000000800000000000000000000000000000000000 msk) (hz : Within msk org s) : Within msk org (State.estimate s n) := by
  unfold State.estimate
  repeat' with_reducible (first | assumption | intro _ | exact partOk_refl _ _ _ | apply Run.comp_touch | apply State.setSfld_touch | apply State.setFld_touch | apply State.setBit_touch | apply State.setChan_touch | apply within_ite | apply within_ite_fst | apply rows_ite | apply rows_if | apply within_foldl | apply within_foldl_fst | split | (dsimp only; split) | apply within_mk)
  all_goals try with_reducible (first | refine in_GCH_MP_MP_DELAY ?_ _ | refine in_GCH_MP_MP_ALPHA ?_ _ | refine in_GCH_MP_MP_CORR ?_ _ | refine in_GCH_MP_CONVERGED ?_ _ | refine in_GCH_MP_MP_FLAG ?_ _)
  all_goals first | exact sub_le (by decide) hm | exact partOk_bit (sub_bit hm (by decide)) | exact sub_bit hm (by decide) | exact in_GCH_MP_MP_DELAY (sub_bit hm (by decide)) _ | exact in_GCH_MP_MP_ALPHA (sub_bit hm (by decide)) _ | exact in_GCH_MP_MP_CORR (sub_bit hm (by decide)) _ | exact in_GCH_MP_CONVERGED (sub_bit hm (by decide)) _ | exact in_GCH_MP_MP_FLAG (sub_bit hm (by decide)) _ | exact .inr rfl

theorem State.crossAid_touch {msk : Nat} {org : State} (s : State) (n : Nat) (hm : sub 0x4c0000036000200000000108000000000000000000000000000000000000000000000000000000000000000000000009e0000000000000000000004000000140400 msk) (hz : Within msk org s) : Within msk org (State.crossAid s n) := by
  unfold State.crossAid
  repeat' with_reducible (first | assumption | intro _ | exact partOk_refl _ _ _ | apply State.startFrom_touch | apply State.raise_touch | apply within_ite | apply within_ite_fst | apply rows_ite | apply rows_if | apply within_foldl | apply within_foldl_fst | split | (dsimp only; split) | apply within_mk)
  all_goals try with_reducible (first | refine in_GCH_EVENT_CFG_ERR ?_ _)
  all_goals first | exact sub_le (by decide) hm | exact partOk_bit (sub_bit hm (by decide)) | exact sub_bit hm (by decide) | exact in_GCH_EVENT_CFG_ERR (sub_bit hm (by decide)) _ | exact .inr rfl

theorem State.slipBaselines_touch {msk : Nat} {org : State} (s : State) (n : Nat) (hm : sub 0x10000000000000000000000000000000000000000000000000000000000000000000000000000000000000000000002000000000000000000000000000000000000 msk) (hz : Within msk org s) : Within msk org (State.slipBaselines s n) := by
  unfold State.slipBaselines
  repeat' with_reducible (first | assumption | intro _ | exact partOk_refl _ _ _ | apply State.setBaselines_touch | apply within_ite | apply within_ite_fst | apply rows_ite | apply rows_if | apply within_foldl | apply within_foldl_fst | split | (dsimp only; split) | apply within_mk)
  all_goals first | exact sub_le (by decide) hm | exact partOk_bit (sub_bit hm (by decide)) | exact sub_bit hm (by decide) | exact .inr rfl

theorem State.slip_touch {msk : Nat} {org : State} (s : State) (n : Nat) (hm : sub 0x58000000000000000000010800000000000000000000000000000000000000000000000000000000000000000000002040000000000000000000000000000000000 msk) (hz : Within msk org s) : Within msk org (State.slip s n) := by
  unfold State.slip
  repeat' with_reducible (first | assumption | intro _ | exact partOk_refl _ _ _ | apply State.setChan_touch | apply State.raise_touch | apply State.slipBaselines_touch | apply within_ite | apply within_ite_fst | apply rows_ite | apply rows_if | apply within_foldl | apply within_foldl_fst | split | (dsimp only; split) | apply within_mk)
  all_goals try with_reducible (first | refine in_GCH_EVENT_SLIP ?_ _)
  all_goals first | exact sub_le (by decide) hm | exact partOk_bit (sub_bit hm (by decide)) | exact sub_bit hm (by decide) | exact in_GCH_EVENT_SLIP (sub_bit hm (by decide)) _ | exact .inr rfl

theorem State.loopFilter_touch {msk : Nat} {org : State} (s : State) (n : Nat) (hm : sub 0x8800000000000000000000000000000000000000000000000000000000000000000000000000000000000000000000180000000000000000000000000000000000 msk) (hz : Within msk org s) : Within msk org (State.loopFilter s n) := by
  unfold State.loopFilter
  repeat' with_reducible (first | assumption | intro _ | exact partOk_refl _ _ _ | apply State.tick_touch | apply State.ncoRun_touch | apply State.setChan_touch | apply State.ncoSet_touch | apply within_ite | apply within_ite_fst | apply rows_ite | apply rows_if | apply within_foldl | apply within_foldl_fst | split | (dsimp only; split) | apply within_mk)
  all_goals first | exact sub_le (by decide) hm | exact partOk_bit (sub_bit hm (by decide)) | exact sub_bit hm (by decide) | exact .inr rfl

theorem State.loopUpdate_touch {msk : Nat} {org : State} (s : State) (n : Nat) (sync : Bool) (hm : sub 0x5c8000036000200000000108000000000000000000000000000000000000000000000000000000000000000000000029e0000000000000000000004000000140400 msk) (hz : Within msk org s) : Within msk org (State.loopUpdate s n sync) := by
  unfold State.loopUpdate
  repeat' with_reducible (first | assumption | intro _ | exact partOk_refl _ _ _ | apply State.loopFilter_touch | apply State.take_touch | apply State.tick_touch | apply State.setChan_touch | apply State.setBit_touch | apply State.setFld_touch | apply State.noteLock_touch | apply State.slip_touch | apply State.ready_touch | apply State.chanTo_touch | apply State.crossAid_touch | apply State.estimate_touch | apply within_ite | apply within_ite_fst | apply rows_ite | apply rows_if | apply within_foldl | apply within_foldl_fst | split | (dsimp only; split) | apply within_mk)
  all_goals try with_reducible (first | refine in_GCH_STATE_CN0 ?_ _ | refine in_GCH_STATE_PLL_LOCK ?_ _ | refine in_GCH_STATE_BIT_SYNC ?_ _)
  all_goals first | exact sub_le (by decide) hm | exact partOk_bit (sub_bit hm (by decide)) | exact sub_bit hm (by decide) | exact in_GCH_STATE_CN0 (sub_bit hm (by decide)) _ | exact in_GCH_STATE_PLL_LOCK (sub_bit hm (by decide)) _ | exact in_GCH_STATE_BIT_SYNC (sub_bit hm (by decide)) _ | exact .inr rfl

theorem State.periodEnd_touch {msk : Nat} {org : State} (s : State) (n : Nat) (sums : List Tap) (sync neg : Bool) (hm : sub 0x5c800003600020000000010800000000000000000000000000000000000000000000000000000000000000000000002fe0000000000000000000004000000140400 msk) (hz : Within msk org s) : Within msk org (State.periodEnd s n sums sync neg) := by
  unfold State.periodEnd
  repeat' with_reducible (first | assumption | intro _ | exact partOk_refl _ _ _ | apply Run.st_touch | apply State.latchTaps_touch | apply State.loopUpdate_touch | apply State.dwell_touch | apply within_ite | apply within_ite_fst | apply rows_ite | apply rows_if | apply within_foldl | apply within_foldl_fst | split | (dsimp only; split) | apply within_mk)
  all_goals first | exact sub_le (by decide) hm | exact partOk_bit (sub_bit hm (by decide)) | exact sub_bit hm (by decide) | exact .inr rfl

theorem State.coastAll_touch {msk : Nat} {org : State} (s : State) (b : Bool) (hm : sub 0x20000000000000000000000000000000000 msk) (hz : Within msk org s) : Within msk org (State.coastAll s b) := by
  unfold State.coastAll
  repeat' with_reducible (first | assumption | intro _ | exact partOk_refl _ _ _ | apply State.setBit_touch | apply within_ite | apply within_ite_fst | apply rows_ite | apply rows_if | apply within_foldl | apply within_foldl_fst | split | (dsimp only; split) | apply within_mk)
  all_goals try with_reducible (first | refine in_GCH_STATE_COAST ?_ _)
  all_goals first | exact sub_le (by decide) hm | exact partOk_bit (sub_bit hm (by decide)) | exact sub_bit hm (by decide) | exact in_GCH_STATE_COAST (sub_bit hm (by decide)) _ | exact .inr rfl

theorem State.pullinTimeout_touch {msk : Nat} {org : State} (s : State) (n : Nat) (hm : sub 0x4c0000036000200000000108000000000000000000000000000000000000000000000000000000000000000000000009a0000000000000000000004000000140400 msk) (hz : Within msk org s) : Within msk org (State.pullinTimeout s n) := by
  unfold State.pullinTimeout
  repeat' with_reducible (first | assumption | intro _ | exact partOk_refl _ _ _ | apply State.chanTo_touch | apply within_ite | apply within_ite_fst | apply rows_ite | apply rows_if | apply within_foldl | apply within_foldl_fst | split | (dsimp only; split) | apply within_mk)
  all_goals first | exact sub_le (by decide) hm | exact partOk_bit (sub_bit hm (by decide)) | exact sub_bit hm (by decide) | exact .inr rfl

theorem State.cn0Timeout_touch {msk : Nat} {org : State} (s : State) (n : Nat) (hm : sub 0x4c0000036000200000000108000000000000000000000000000000000000000000000000000000000000000000000009a0000000000000000000004000000140400 msk) (hz : Within msk org s) : Within msk org (State.cn0Timeout s n) := by
  unfold State.cn0Timeout
  repeat' with_reducible (first | assumption | intro _ | exact partOk_refl _ _ _ | apply Run.st_touch | apply State.chanTo_touch | apply within_ite | apply within_ite_fst | apply rows_ite | apply rows_if | apply within_foldl | apply within_foldl_fst | split | (dsimp only; split) | apply within_mk)
  all_goals first | exact sub_le (by decide) hm | exact partOk_bit (sub_bit hm (by decide)) | exact sub_bit hm (by decide) | exact .inr rfl

theorem State.lostTimeout_touch {msk : Nat} {org : State} (s : State) (n : Nat) (hm : sub 0x4c0000036000200000000108000000000000000000000000000000000000000000000000000000000000000000000009e0000000000000000000004000000140400 msk) (hz : Within msk org s) : Within msk org (State.lostTimeout s n) := by
  unfold State.lostTimeout
  repeat' with_reducible (first | assumption | intro _ | exact partOk_refl _ _ _ | apply State.chanTo_touch | apply State.raise_touch | apply within_ite | apply within_ite_fst | apply rows_ite | apply rows_if | apply within_foldl | apply within_foldl_fst | split | (dsimp only; split) | apply within_mk)
  all_goals try with_reducible (first | refine in_GCH_EVENT_LOST ?_ _)
  all_goals first | exact sub_le (by decide) hm | exact partOk_bit (sub_bit hm (by decide)) | exact sub_bit hm (by decide) | exact in_GCH_EVENT_LOST (sub_bit hm (by decide)) _ | exact .inr rfl

theorem State.observe_touch {msk : Nat} {org : State} (s : State) (te : Time) (n : Nat) (hm : sub 0x48000003600020000000010800000000000000000000000000000000000000000000000000000000000000000000000000000000000000000000000000000140400 msk) (hz : Within msk org s) : Within msk org (State.observe s te n) := by
  unfold State.observe
  repeat' with_reducible (first | assumption | intro _ | exact partOk_refl _ _ _ | apply State.streamRole_touch | apply State.count_touch | apply State.setChan_touch | apply State.slip_touch | apply within_ite | apply within_ite_fst | apply rows_ite | apply rows_if | apply within_foldl | apply within_foldl_fst | split | (dsimp only; split) | apply within_mk)
  all_goals first | exact sub_le (by decide) hm | exact partOk_bit (sub_bit hm (by decide)) | exact sub_bit hm (by decide) | exact .inr rfl

theorem State.observeAll_touch {msk : Nat} {org : State} (s : State) (te : Time) (hm : sub 0x48000003600020000000010800000000000000000000000000000000000000000000000000000000000000000000000000000000000000000000000000000140400 msk) (hz : Within msk org s) : Within msk org (State.observeAll s te) := by
  unfold State.observeAll
  repeat' with_reducible (first | assumption | intro _ | exact partOk_refl _ _ _ | apply State.observe_touch | apply within_ite | apply within_ite_fst | apply rows_ite | apply rows_if | apply within_foldl | apply within_foldl_fst | split | (dsimp only; split) | apply within_mk)
  all_goals first | exact sub_le (by decide) hm | exact partOk_bit (sub_bit hm (by decide)) | exact sub_bit hm (by decide) | exact .inr rfl

theorem State.releaseObs_touch {msk : Nat} {org : State} (s : State) (hm : sub 0x48000003600020000000010800000000000000000000000000000000000000000000000000000000000000000000000000000000000000000000000000000140400 msk) (hz : Within msk org s) : Within msk org (State.releaseObs s) := by
  unfold State.releaseObs
  repeat' with_reducible (first | assumption | intro _ | exact partOk_refl _ _ _ | apply State.streamRole_touch | apply within_ite | apply within_ite_fst | apply rows_ite | apply rows_if | apply within_foldl | apply within_foldl_fst | split | (dsimp only; split) | apply within_mk)
  all_goals first | exact sub_le (by decide) hm | exact partOk_bit (sub_bit hm (by decide)) | exact sub_bit hm (by decide) | exact .inr rfl

theorem State.symbol_touch {msk : Nat} {org : State} (s : State) (e : SymIn) (hm : sub 0x48000003600020000000010800000000000000000000000000000000000000000000000000000000000000000000000000000000000000000000000000000140400 msk) (hz : Within msk org s) : Within msk org (State.symbol s e) := by
  unfold State.symbol
  repeat' with_reducible (first | assumption | intro _ | exact partOk_refl _ _ _ | apply State.setChan_touch | apply State.sendSymbols_touch | apply within_ite | apply within_ite_fst | apply rows_ite | apply rows_if | apply within_foldl | apply within_foldl_fst | split | (dsimp only; split) | apply within_mk)
  all_goals first | exact sub_le (by decide) hm | exact partOk_bit (sub_bit hm (by decide)) | exact sub_bit hm (by decide) | exact .inr rfl

theorem State.calFromGnss_touch {msk : Nat} {org : State} (s : State) (hm : sub 0x4000000000000000000000000000000000000000000000000000000000000000000000000000000000000000000000000000002000000000000000000000000000 msk) (hz : Within msk org s) : Within msk org (State.calFromGnss s) := by
  unfold State.calFromGnss
  repeat' with_reducible (first | assumption | intro _ | exact partOk_refl _ _ _ | apply State.setFld_touch | apply within_ite | apply within_ite_fst | apply rows_ite | apply rows_if | apply within_foldl | apply within_foldl_fst | split | (dsimp only; split) | apply within_mk)
  all_goals try with_reducible (first | refine in_TB_STATUS_CAL_VALID ?_)
  all_goals first | exact sub_le (by decide) hm | exact partOk_bit (sub_bit hm (by decide)) | exact sub_bit hm (by decide) | exact in_TB_STATUS_CAL_VALID (sub_bit hm (by decide)) | exact .inr rfl

theorem State.takeLeap_touch {msk : Nat} {org : State} (s : State) (l : LeapIn) (hm : sub 0xc000000000000000000000000000000000000000000000000000000000000000000000000000000000000000000000000001800000000000000000000000000000 msk) (hz : Within msk org s) : Within msk org (State.takeLeap s l) := by
  unfold State.takeLeap
  repeat' with_reducible (first | assumption | intro _ | exact partOk_refl _ _ _ | apply State.setFld_touch | apply State.setBit_touch | apply within_ite | apply within_ite_fst | apply rows_ite | apply rows_if | apply within_foldl | apply within_foldl_fst | split | (dsimp only; split) | apply within_mk)
  all_goals try with_reducible (first | refine in_CAL_HI_LEAP_NOW ?_ | refine in_LEAP_LEAP_PEND ?_ | refine in_LEAP_LEAP_NEXT ?_ | refine in_LEAP_LEAP_S ?_)
  all_goals first | exact sub_le (by decide) hm | exact partOk_bit (sub_bit hm (by decide)) | exact sub_bit hm (by decide) | exact in_CAL_HI_LEAP_NOW (sub_bit hm (by decide)) | exact in_LEAP_LEAP_PEND (sub_bit hm (by decide)) | exact in_LEAP_LEAP_NEXT (sub_bit hm (by decide)) | exact in_LEAP_LEAP_S (sub_bit hm (by decide)) | exact .inr rfl

theorem State.loadLeap_touch {msk : Nat} {org : State} (s : State) (hm : sub 0x1000000000000000000000000000000 msk) (hz : Within msk org s) : Within msk org (State.loadLeap s) := by
  unfold State.loadLeap
  repeat' with_reducible (first | assumption | intro _ | exact partOk_refl _ _ _ | apply State.setFld_touch | apply within_ite | apply within_ite_fst | apply rows_ite | apply rows_if | apply within_foldl | apply within_foldl_fst | split | (dsimp only; split) | apply within_mk)
  all_goals try with_reducible (first | refine in_LEAP_LEAP_S ?_)
  all_goals first | exact sub_le (by decide) hm | exact partOk_bit (sub_bit hm (by decide)) | exact sub_bit hm (by decide) | exact in_LEAP_LEAP_S (sub_bit hm (by decide)) | exact .inr rfl

theorem State.spareFault_touch {msk : Nat} {org : State} (s : State) (hm : sub 0x6c0000036118200000000108000000000000000000000000000000000000000000000000000000000000000000000009e0000000000000000000104000000140400 msk) (hz : Within msk org s) : Within msk org (State.spareFault s) := by
  unfold State.spareFault
  repeat' with_reducible (first | assumption | intro _ | exact partOk_refl _ _ _ | apply State.raise_touch | apply State.chanTo_touch | apply State.recountTracking_touch | apply State.canvas_touch | apply within_ite | apply within_ite_fst | apply rows_ite | apply rows_if | apply within_foldl | apply within_foldl_fst | split | (dsimp only; split) | apply within_mk)
  all_goals try with_reducible (first | refine in_BANK_STAT_BANK_EVENT ?_ | refine in_GCH_EVENT_BANK_FAULT ?_ _)
  all_goals first | exact sub_le (by decide) hm | exact partOk_bit (sub_bit hm (by decide)) | exact sub_bit hm (by decide) | exact in_BANK_STAT_BANK_EVENT (sub_bit hm (by decide)) | exact in_GCH_EVENT_BANK_FAULT (sub_bit hm (by decide)) _ | exact .inr rfl

theorem State.bankFault_touch {msk : Nat} {org : State} (s : State) (b : Nat) (hm : sub 0x6c0000036118200000000108000000000000000000000000000000000000000000000000000000000000000000000009e0000000000000000000104000000140400 msk) (hz : Within msk org s) : Within msk org (State.bankFault s b) := by
  unfold State.bankFault
  repeat' with_reducible (first | assumption | intro _ | exact partOk_refl _ _ _ | apply State.spareFault_touch | apply State.setFbit_touch | apply State.raise_touch | apply State.chanTo_touch | apply State.setChan_touch | apply State.setFld_touch | apply State.recountTracking_touch | apply State.canvas_touch | apply within_ite | apply within_ite_fst | apply rows_ite | apply rows_if | apply within_foldl | apply within_foldl_fst | split | (dsimp only; split) | apply within_mk)
  all_goals try with_reducible (first | refine in_BANK_STAT_BANK_EVENT ?_ | refine in_BANK_STAT_FENCED ?_ | refine in_GCH_EVENT_BANK_FAULT ?_ _ | refine in_GCH_EVENT_MOVED ?_ _ | refine in_BANK_STAT_SPARE_FOR ?_ | refine in_BANK_STAT_SPARE_USED ?_)
  all_goals first | exact sub_le (by decide) hm | exact partOk_bit (sub_bit hm (by decide)) | exact sub_bit hm (by decide) | exact in_BANK_STAT_BANK_EVENT (sub_bit hm (by decide)) | exact in_BANK_STAT_FENCED (sub_bit hm (by decide)) | exact in_GCH_EVENT_BANK_FAULT (sub_bit hm (by decide)) _ | exact in_GCH_EVENT_MOVED (sub_bit hm (by decide)) _ | exact in_BANK_STAT_SPARE_FOR (sub_bit hm (by decide)) | exact in_BANK_STAT_SPARE_USED (sub_bit hm (by decide)) | exact .inr rfl

theorem State.gnssWrite_touch {msk : Nat} {org : State} (s : State) (hm : sub 0x8000000000000000000000000000000000000000000000000000000000000000000000000000000000000000000000000000000000000000000000000000000000 msk) (hz : Within msk org s) : Within msk org (State.gnssWrite s) := by
  unfold State.gnssWrite
  repeat' with_reducible (first | assumption | intro _ | exact partOk_refl _ _ _ | apply within_ite | apply within_ite_fst | apply rows_ite | apply rows_if | apply within_foldl | apply within_foldl_fst | split | (dsimp only; split) | apply within_mk)
  all_goals first | exact sub_le (by decide) hm | exact partOk_bit (sub_bit hm (by decide)) | exact sub_bit hm (by decide) | exact .inr rfl

theorem State.gnssSave_touch {msk : Nat} {org : State} (s : State) (hm : sub 0x8000000000000000000000000000000000000000000000000000000000000000000000000000000000000000000000000000000000000000000000000000000000 msk) (hz : Within msk org s) : Within msk org (State.gnssSave s) := by
  unfold State.gnssSave
  repeat' with_reducible (first | assumption | intro _ | exact partOk_refl _ _ _ | apply State.gnssWrite_touch | apply within_ite | apply within_ite_fst | apply rows_ite | apply rows_if | apply within_foldl | apply within_foldl_fst | split | (dsimp only; split) | apply within_mk)
  all_goals first | exact sub_le (by decide) hm | exact partOk_bit (sub_bit hm (by decide)) | exact sub_bit hm (by decide) | exact .inr rfl

end Sys2Proof.Machine
end

