-- ==== Sys2Proof/Laws/TouchTimebase.lean ====
section
/-! SUPPORT. What each operation of Machine/Timebase.lean may change, as a mask. -/

namespace Sys2Proof.Machine

set_option linter.all false
set_option Elab.async false

theorem State.ftStep_touch {msk : Nat} {org : State} (s : State) (hm : sub 0x4200000000000000000000000000000000000000000000000000000000000000000000000000000000000000000000000000000000000000000000000000000000 msk) (hz : Within msk org s) : Within msk org (State.ftStep s) := by
  unfold State.ftStep
  repeat' with_reducible (first | assumption | intro _ | exact partOk_refl _ _ _ | apply within_ite | apply within_ite_fst | apply rows_ite | apply rows_if | apply within_foldl | apply within_foldl_fst | split | (dsimp only; split) | apply within_mk)
  all_goals first | exact sub_le (by decide) hm | exact partOk_bit (sub_bit hm (by decide)) | exact sub_bit hm (by decide) | exact .inr rfl

theorem State.tbTo_touch {msk : Nat} {org : State} (s : State) (st row : Nat) (relock : Bool) (hm : sub 0x7c8000036118200000000108000000000000000000000000000000000000000000000000000000000000000000000029e0a00002000000000000004000000140400 msk) (hz : Within msk org s) : Within msk org (State.tbTo s st row relock) := by
  unfold State.tbTo
  repeat' with_reducible (first | assumption | intro _ | exact partOk_refl _ _ _ | apply State.setFld_touch | apply Run.st_touch | apply State.setBit_touch | apply State.raiseIf_touch | apply State.canvas_touch | apply State.bbStop_touch | apply State.bbStart_touch | apply within_ite | apply within_ite_fst | apply rows_ite | apply rows_if | apply within_foldl | apply within_foldl_fst | split | (dsimp only; split) | apply within_mk)
  all_goals try with_reducible (first | refine in_TB_STATUS_PLL_LOCK ?_ | refine in_TB_STATUS_STATE ?_ | refine in_TB_STATUS_REFOUT_ON ?_ | refine in_TB_EVENT_DEGRADED ?_ | refine in_TB_EVENT_HOLDOVER ?_ | refine in_TB_EVENT_RECOVERED ?_ | refine in_TB_STATUS_MEAS_VALID ?_ | refine in_TB_STATUS_DISC_ACT ?_)
  all_goals first | exact sub_le (by decide) hm | exact partOk_bit (sub_bit hm (by decide)) | exact sub_bit hm (by decide) | exact in_TB_STATUS_PLL_LOCK (sub_bit hm (by decide)) | exact in_TB_STATUS_STATE (sub_bit hm (by decide)) | exact in_TB_STATUS_REFOUT_ON (sub_bit hm (by decide)) | exact in_TB_EVENT_DEGRADED (sub_bit hm (by decide)) | exact in_TB_EVENT_HOLDOVER (sub_bit hm (by decide)) | exact in_TB_EVENT_RECOVERED (sub_bit hm (by decide)) | exact in_TB_STATUS_MEAS_VALID (sub_bit hm (by decide)) | exact in_TB_STATUS_DISC_ACT (sub_bit hm (by decide)) | exact .inr rfl

theorem State.refinLost_touch {msk : Nat} {org : State} (s : State) (hm : sub 0x7c8000036118200000000108000000000000000000000000000000000000000000000000000000000000000000000029e0a00002000000000000004000000140400 msk) (hz : Within msk org s) : Within msk org (State.refinLost s) := by
  unfold State.refinLost
  repeat' with_reducible (first | assumption | intro _ | exact partOk_refl _ _ _ | apply State.setFld_touch | apply State.raiseIf_touch | apply State.tbTo_touch | apply within_ite | apply within_ite_fst | apply rows_ite | apply rows_if | apply within_foldl | apply within_foldl_fst | split | (dsimp only; split) | apply within_mk)
  all_goals try with_reducible (first | refine in_TB_EVENT_REFIN_LOST ?_ | refine in_TB_STATUS_REFIN_ACT ?_)
  all_goals first | exact sub_le (by decide) hm | exact partOk_bit (sub_bit hm (by decide)) | exact sub_bit hm (by decide) | exact in_TB_EVENT_REFIN_LOST (sub_bit hm (by decide)) | exact in_TB_STATUS_REFIN_ACT (sub_bit hm (by decide)) | exact .inr rfl

theorem State.refinSeen_touch {msk : Nat} {org : State} (s : State) (hm : sub 0x4000000000000000000000000000000000000000000000000000000000000000000000000000000000000000000000000000002000000000000000000000000000 msk) (hz : Within msk org s) : Within msk org (State.refinSeen s) := by
  unfold State.refinSeen
  repeat' with_reducible (first | assumption | intro _ | exact partOk_refl _ _ _ | apply State.setFld_touch | apply within_ite | apply within_ite_fst | apply rows_ite | apply rows_if | apply within_foldl | apply within_foldl_fst | split | (dsimp only; split) | apply within_mk)
  all_goals try with_reducible (first | refine in_TB_STATUS_REFIN_ACT ?_)
  all_goals first | exact sub_le (by decide) hm | exact partOk_bit (sub_bit hm (by decide)) | exact sub_bit hm (by decide) | exact in_TB_STATUS_REFIN_ACT (sub_bit hm (by decide)) | exact .inr rfl

theorem State.refinActive_touch {msk : Nat} {org : State} (s : State) (edges freq : Nat) (hm : sub 0x7c8000036118200000000108000000000000000000000000000000000000000000000000000000000000000000000029e0a00002000000000000004000000140400 msk) (hz : Within msk org s) : Within msk org (State.refinActive s edges freq) := by
  unfold State.refinActive
  repeat' with_reducible (first | assumption | intro _ | exact partOk_refl _ _ _ | apply State.refinSeen_touch | apply State.tbTo_touch | apply within_ite | apply within_ite_fst | apply rows_ite | apply rows_if | apply within_foldl | apply within_foldl_fst | split | (dsimp only; split) | apply within_mk)
  all_goals first | exact sub_le (by decide) hm | exact partOk_bit (sub_bit hm (by decide)) | exact sub_bit hm (by decide) | exact .inr rfl

theorem State.pllLock_touch {msk : Nat} {org : State} (s : State) (hm : sub 0x7c8000036118200000000108000000000000000000000000000000000000000000000000000000000000000000000029e0a00002000000000000004000000140400 msk) (hz : Within msk org s) : Within msk org (State.pllLock s) := by
  unfold State.pllLock
  repeat' with_reducible (first | assumption | intro _ | exact partOk_refl _ _ _ | apply State.tbTo_touch | apply within_ite | apply within_ite_fst | apply rows_ite | apply rows_if | apply within_foldl | apply within_foldl_fst | split | (dsimp only; split) | apply within_mk)
  all_goals first | exact sub_le (by decide) hm | exact partOk_bit (sub_bit hm (by decide)) | exact sub_bit hm (by decide) | exact .inr rfl

theorem State.refinStartTimeout_touch {msk : Nat} {org : State} (s : State) (hm : sub 0x7c8000036118200000000108000000000000000000000000000000000000000000000000000000000000000000000029e0a00002000000000000004000000140400 msk) (hz : Within msk org s) : Within msk org (State.refinStartTimeout s) := by
  unfold State.refinStartTimeout
  repeat' with_reducible (first | assumption | intro _ | exact partOk_refl _ _ _ | apply State.tbTo_touch | apply within_ite | apply within_ite_fst | apply rows_ite | apply rows_if | apply within_foldl | apply within_foldl_fst | split | (dsimp only; split) | apply within_mk)
  all_goals first | exact sub_le (by decide) hm | exact partOk_bit (sub_bit hm (by decide)) | exact sub_bit hm (by decide) | exact .inr rfl

theorem State.holdoverTimeout_touch {msk : Nat} {org : State} (s : State) (hm : sub 0x7c8000036118200000000108000000000000000000000000000000000000000000000000000000000000000000000029e0a00002000000000000004000000140400 msk) (hz : Within msk org s) : Within msk org (State.holdoverTimeout s) := by
  unfold State.holdoverTimeout
  repeat' with_reducible (first | assumption | intro _ | exact partOk_refl _ _ _ | apply State.tbTo_touch | apply within_ite | apply within_ite_fst | apply rows_ite | apply rows_if | apply within_foldl | apply within_foldl_fst | split | (dsimp only; split) | apply within_mk)
  all_goals first | exact sub_le (by decide) hm | exact partOk_bit (sub_bit hm (by decide)) | exact sub_bit hm (by decide) | exact .inr rfl

theorem State.driftCheck_touch {msk : Nat} {org : State} (s : State) (raw : Int) (hm : sub 0x7c8000036118200000000108000000000000000000000000000000000000000000000000000000000000000000000029e0a00182000000000000004000000140400 msk) (hz : Within msk org s) : Within msk org (State.driftCheck s raw) := by
  unfold State.driftCheck
  repeat' with_reducible (first | assumption | intro _ | exact partOk_refl _ _ _ | apply State.setSfld_touch | apply State.setFld_touch | apply State.take_touch | apply State.raiseIf_touch | apply State.tbTo_touch | apply within_ite | apply within_ite_fst | apply rows_ite | apply rows_if | apply within_foldl | apply within_foldl_fst | split | (dsimp only; split) | apply within_mk)
  all_goals try with_reducible (first | refine in_TB_STATUS_MEAS_VALID ?_ | refine in_REF_MEAS_OFFSET ?_ | refine in_REF_DRIFT_DRIFT ?_ | refine in_TB_EVENT_OFS_WARN ?_)
  all_goals first | exact sub_le (by decide) hm | exact partOk_bit (sub_bit hm (by decide)) | exact sub_bit hm (by decide) | exact in_TB_STATUS_MEAS_VALID (sub_bit hm (by decide)) | exact in_REF_MEAS_OFFSET (sub_bit hm (by decide)) | exact in_REF_DRIFT_DRIFT (sub_bit hm (by decide)) | exact in_TB_EVENT_OFS_WARN (sub_bit hm (by decide)) | exact .inr rfl

theorem State.discipline_touch {msk : Nat} {org : State} (s : State) (yGnss ySync : Int) (gnssTime : Time) (hm : sub 0x7c8000036118200000000108000000000000000000000000000000000000000000000000000000000000000000000029e0a00382000000000000004000000140400 msk) (hz : Within msk org s) : Within msk org (State.discipline s yGnss ySync gnssTime) := by
  unfold State.discipline
  repeat' with_reducible (first | assumption | intro _ | exact partOk_refl _ _ _ | apply State.driftCheck_touch | apply State.setSfld_touch | apply State.setFld_touch | apply State.noteLock_touch | apply within_ite | apply within_ite_fst | apply rows_ite | apply rows_if | apply within_foldl | apply within_foldl_fst | split | (dsimp only; split) | apply within_mk)
  all_goals try with_reducible (first | refine in_DISC_TRIM_TRIM ?_ | refine in_TB_STATUS_DISC_ACT ?_)
  all_goals first | exact sub_le (by decide) hm | exact partOk_bit (sub_bit hm (by decide)) | exact sub_bit hm (by decide) | exact in_DISC_TRIM_TRIM (sub_bit hm (by decide)) | exact in_TB_STATUS_DISC_ACT (sub_bit hm (by decide)) | exact .inr rfl

theorem State.driftCompliance_touch {msk : Nat} {org : State} (s : State) (hm : sub 0x7c8000036118200000000108000000000000000000000000000000000000000000000000000000000000000000000029e0a00002000000000000004000000140400 msk) (hz : Within msk org s) : Within msk org (State.driftCompliance s) := by
  unfold State.driftCompliance
  repeat' with_reducible (first | assumption | intro _ | exact partOk_refl _ _ _ | apply State.tbTo_touch | apply within_ite | apply within_ite_fst | apply rows_ite | apply rows_if | apply within_foldl | apply within_foldl_fst | split | (dsimp only; split) | apply within_mk)
  all_goals first | exact sub_le (by decide) hm | exact partOk_bit (sub_bit hm (by decide)) | exact sub_bit hm (by decide) | exact .inr rfl

theorem State.refoutReenable_touch {msk : Nat} {org : State} (s : State) (hm : sub 0x2000000000000000000000000000 msk) (hz : Within msk org s) : Within msk org (State.refoutReenable s) := by
  unfold State.refoutReenable
  repeat' with_reducible (first | assumption | intro _ | exact partOk_refl _ _ _ | apply State.setFld_touch | apply within_ite | apply within_ite_fst | apply rows_ite | apply rows_if | apply within_foldl | apply within_foldl_fst | split | (dsimp only; split) | apply within_mk)
  all_goals try with_reducible (first | refine in_TB_STATUS_REFOUT_ON ?_)
  all_goals first | exact sub_le (by decide) hm | exact partOk_bit (sub_bit hm (by decide)) | exact sub_bit hm (by decide) | exact in_TB_STATUS_REFOUT_ON (sub_bit hm (by decide)) | exact .inr rfl

theorem State.syncLoss_touch {msk : Nat} {org : State} (s : State) (hm : sub 0x44000000000000000000010800000000000000000000000000000000000000000000000000000000000000000000000000200002000000000000000000000000000 msk) (hz : Within msk org s) : Within msk org (State.syncLoss s) := by
  unfold State.syncLoss
  repeat' with_reducible (first | assumption | intro _ | exact partOk_refl _ _ _ | apply State.raise_touch | apply State.setFld_touch | apply State.missed_touch | apply within_ite | apply within_ite_fst | apply rows_ite | apply rows_if | apply within_foldl | apply within_foldl_fst | split | (dsimp only; split) | apply within_mk)
  all_goals try with_reducible (first | refine in_TB_STATUS_SYNC_LOCK ?_ | refine in_TB_EVENT_SYNC_LOST ?_)
  all_goals first | exact sub_le (by decide) hm | exact partOk_bit (sub_bit hm (by decide)) | exact sub_bit hm (by decide) | exact in_TB_STATUS_SYNC_LOCK (sub_bit hm (by decide)) | exact in_TB_EVENT_SYNC_LOST (sub_bit hm (by decide)) | exact .inr rfl

theorem State.tbCtrlWrite_touch {msk : Nat} {org : State} (s : State) (v : Nat) (hm : sub 0x7c8000036118200000000108000000000000000000000000000000000000000000000000000000000000000000000029e0a00006000000000000004000000140400 msk) (hz : Within msk org s) : Within msk org (State.tbCtrlWrite s v) := by
  unfold State.tbCtrlWrite
  repeat' with_reducible (first | assumption | intro _ | exact partOk_refl _ _ _ | apply State.raise_touch | apply State.writeCodes_touch | apply State.setFld_touch | apply State.missed_touch | apply State.tbTo_touch | apply within_ite | apply within_ite_fst | apply rows_ite | apply rows_if | apply within_foldl | apply within_foldl_fst | split | (dsimp only; split) | apply within_mk)
  all_goals try with_reducible (first | refine in_TB_EVENT_CFG_ERR ?_ | refine has_TB_CTRL ?_ | refine in_TB_STATUS_REFOUT_ON ?_ | refine in_TB_STATUS_SYNC_LOCK ?_)
  all_goals first | exact sub_le (by decide) hm | exact partOk_bit (sub_bit hm (by decide)) | exact sub_bit hm (by decide) | exact in_TB_EVENT_CFG_ERR (sub_bit hm (by decide)) | exact has_TB_CTRL (sub_bit hm (by decide)) | exact in_TB_STATUS_REFOUT_ON (sub_bit hm (by decide)) | exact in_TB_STATUS_SYNC_LOCK (sub_bit hm (by decide)) | exact .inr rfl

theorem State.takeOfs_touch {msk : Nat} {org : State} (s : State) (hm : sub 0x4000000000000000000000000000000000000000000000000000000000000000000000000000000000000000000000000000000000000000000000000000000000 msk) (hz : Within msk org s) : Within msk org (State.takeOfs s) := by
  unfold State.takeOfs
  repeat' with_reducible (first | assumption | intro _ | exact partOk_refl _ _ _ | apply within_ite | apply within_ite_fst | apply rows_ite | apply rows_if | apply within_foldl | apply within_foldl_fst | split | (dsimp only; split) | apply within_mk)
  all_goals first | exact sub_le (by decide) hm | exact partOk_bit (sub_bit hm (by decide)) | exact sub_bit hm (by decide) | exact .inr rfl

theorem State.ofsHiWrite_touch {msk : Nat} {org : State} (s : State) (v : Nat) (hm : sub 0x4000000000000000000000000000000000000000000000000000000000000000000000000000000000000000000000000000040000000000000000000000000000 msk) (hz : Within msk org s) : Within msk org (State.ofsHiWrite s v) := by
  unfold State.ofsHiWrite
  repeat' with_reducible (first | assumption | intro _ | exact partOk_refl _ _ _ | apply State.setReg_touch | apply State.takeOfs_touch | apply within_ite | apply within_ite_fst | apply rows_ite | apply rows_if | apply within_foldl | apply within_foldl_fst | split | (dsimp only; split) | apply within_mk)
  all_goals try with_reducible (first | refine has_GNSS_OFS_HI ?_)
  all_goals first | exact sub_le (by decide) hm | exact partOk_bit (sub_bit hm (by decide)) | exact sub_bit hm (by decide) | exact has_GNSS_OFS_HI (sub_bit hm (by decide)) | exact .inr rfl

theorem State.calSet_touch {msk : Nat} {org : State} (s : State) (v : Nat) (hm : sub 0x4000000000000000000000000000000000000000000000000000000000000000000000000000000000000000000000000000002000000000000000000000000000 msk) (hz : Within msk org s) : Within msk org (State.calSet s v) := by
  unfold State.calSet
  repeat' with_reducible (first | assumption | intro _ | exact partOk_refl _ _ _ | apply State.setFld_touch | apply within_ite | apply within_ite_fst | apply rows_ite | apply rows_if | apply within_foldl | apply within_foldl_fst | split | (dsimp only; split) | apply within_mk)
  all_goals try with_reducible (first | refine in_TB_STATUS_CAL_VALID ?_)
  all_goals first | exact sub_le (by decide) hm | exact partOk_bit (sub_bit hm (by decide)) | exact sub_bit hm (by decide) | exact in_TB_STATUS_CAL_VALID (sub_bit hm (by decide)) | exact .inr rfl

theorem State.tbWrite_touch {msk : Nat} {org : State} (s : State) (a v : Nat) (hm : sub 0x7c8000036118200000000108000000000000000000000000000000000000000000000000000000000000000000000029e0a00046000000000000004000000140400 msk) (ha : RowsHave msk a) (hz : Within msk org s) : Within msk org (State.tbWrite s a v) := by
  unfold State.tbWrite
  repeat' with_reducible (first | assumption | intro _ | exact partOk_refl _ _ _ | apply State.tbCtrlWrite_touch | apply State.ofsHiWrite_touch | apply State.calSet_touch | apply State.writeCodes_touch | apply State.raise_touch | apply within_ite | apply within_ite_fst | apply rows_ite | apply rows_if | apply within_foldl | apply within_foldl_fst | split | (dsimp only; split) | apply within_mk)
  all_goals try with_reducible (first | refine in_TB_EVENT_CFG_ERR ?_)
  all_goals first | exact sub_le (by decide) hm | exact partOk_bit (sub_bit hm (by decide)) | exact sub_bit hm (by decide) | exact in_TB_EVENT_CFG_ERR (sub_bit hm (by decide)) | exact .inr rfl

theorem State.syncPulse_touch {msk : Nat} {org : State} (s : State) (mode : Nat) (t : Time) (hm : sub 0x4000000000000000000000000000000000000000000000000000000000000000000000000000000000000000000000000000000000000000000000000000000000 msk) (hz : Within msk org s) : Within msk org (State.syncPulse s mode t) := by
  unfold State.syncPulse
  repeat' with_reducible (first | assumption | intro _ | exact partOk_refl _ _ _ | apply within_ite | apply within_ite_fst | apply rows_ite | apply rows_if | apply within_foldl | apply within_foldl_fst | split | (dsimp only; split) | apply within_mk)
  all_goals first | exact sub_le (by decide) hm | exact partOk_bit (sub_bit hm (by decide)) | exact sub_bit hm (by decide) | exact .inr rfl

end Sys2Proof.Machine
end

