-- ==== Sys2Proof/Laws/TouchPose.lean ====
section
/-! SUPPORT. What each operation of Machine/Pose.lean may change, as a mask. -/

namespace Sys2Proof.Machine

set_option linter.all false
set_option Elab.async false

theorem State.freeQuat_touch {msk : Nat} {org : State} (s : State) (old : List Int) (g : Bool) (hm : sub 0x800000000000000000000000000000000000000000000000000000000000000000000000000000000000000000000000000000000000000000000000000000000 msk) (hz : Within msk org s) : Within msk org (State.freeQuat s old g).1 := by
  unfold State.freeQuat
  repeat' with_reducible (first | assumption | intro _ | exact partOk_refl _ _ _ | apply State.tick_touch | apply within_ite | apply within_ite_fst | apply rows_ite | apply rows_if | apply within_foldl | apply within_foldl_fst | split | (dsimp only; split) | apply within_mk)
  all_goals first | exact sub_le (by decide) hm | exact partOk_bit (sub_bit hm (by decide)) | exact sub_bit hm (by decide) | exact .inr rfl

theorem State.poTo_touch {msk : Nat} {org : State} (s : State) (st : Nat) (hm : sub 0x70000003611820000000010800000000000000000000000000000000000000000000000000000000000000000000006000000000000000000000000000000000000 msk) (hz : Within msk org s) : Within msk org (State.poTo s st) := by
  unfold State.poTo
  repeat' with_reducible (first | assumption | intro _ | exact partOk_refl _ _ _ | apply Run.st_touch | apply State.setFld_touch | apply State.setBit_touch | apply State.raise_touch | apply State.canvas_touch | apply State.muslin_touch | apply within_ite | apply within_ite_fst | apply rows_ite | apply rows_if | apply within_foldl | apply within_foldl_fst | split | (dsimp only; split) | apply within_mk)
  all_goals try with_reducible (first | refine in_POSE_EVENT_STATE_CHG ?_ | refine in_POSE_STATUS_VALID ?_ | refine in_POSE_STATUS_STATE ?_)
  all_goals first | exact sub_le (by decide) hm | exact partOk_bit (sub_bit hm (by decide)) | exact sub_bit hm (by decide) | exact in_POSE_EVENT_STATE_CHG (sub_bit hm (by decide)) | exact in_POSE_STATUS_VALID (sub_bit hm (by decide)) | exact in_POSE_STATUS_STATE (sub_bit hm (by decide)) | exact .inr rfl

theorem State.poWake_touch {msk : Nat} {org : State} (s : State) (hm : sub 0x70000003611820000000010800000000000000000000000000000000000000000000000000000000000000000000006000000000000000000000000000000000000 msk) (hz : Within msk org s) : Within msk org (State.poWake s) := by
  unfold State.poWake
  repeat' with_reducible (first | assumption | intro _ | exact partOk_refl _ _ _ | apply State.poTo_touch | apply within_ite | apply within_ite_fst | apply rows_ite | apply rows_if | apply within_foldl | apply within_foldl_fst | split | (dsimp only; split) | apply within_mk)
  all_goals first | exact sub_le (by decide) hm | exact partOk_bit (sub_bit hm (by decide)) | exact sub_bit hm (by decide) | exact .inr rfl

theorem State.poCtrlWrite_touch {msk : Nat} {org : State} (s : State) (v : Nat) (hm : sub 0x70000003611820000000010800000000000000000000000000000000000000000000000000000000000000000000007000000000000000000000000000000000000 msk) (hz : Within msk org s) : Within msk org (State.poCtrlWrite s v) := by
  unfold State.poCtrlWrite
  repeat' with_reducible (first | assumption | intro _ | exact partOk_refl _ _ _ | apply State.raise_touch | apply State.writeCodes_touch | apply State.poWake_touch | apply State.poTo_touch | apply within_ite | apply within_ite_fst | apply rows_ite | apply rows_if | apply within_foldl | apply within_foldl_fst | split | (dsimp only; split) | apply within_mk)
  all_goals try with_reducible (first | refine in_POSE_EVENT_CFG_ERR ?_ | refine has_POSE_CTRL ?_)
  all_goals first | exact sub_le (by decide) hm | exact partOk_bit (sub_bit hm (by decide)) | exact sub_bit hm (by decide) | exact in_POSE_EVENT_CFG_ERR (sub_bit hm (by decide)) | exact has_POSE_CTRL (sub_bit hm (by decide)) | exact .inr rfl

theorem State.takeHeading_touch {msk : Nat} {org : State} (s : State) (h unc : Nat) (hm : sub 0x10800000000000000000000000000000000000000000000000000000000000000000000000000000000000000000000000000000000000000000000000000000000 msk) (hz : Within msk org s) : Within msk org (State.takeHeading s h unc) := by
  unfold State.takeHeading
  repeat' with_reducible (first | assumption | intro _ | exact partOk_refl _ _ _ | apply State.freeQuat_touch | apply within_ite | apply within_ite_fst | apply rows_ite | apply rows_if | apply within_foldl | apply within_foldl_fst | split | (dsimp only; split) | apply within_mk)
  all_goals first | exact sub_le (by decide) hm | exact partOk_bit (sub_bit hm (by decide)) | exact sub_bit hm (by decide) | exact .inr rfl

theorem State.applyFix_touch {msk : Nat} {org : State} (te : Time) (sf : State × FixFlags) (f : FixIn) (hm : sub 0x50800000000000000000010800000000000000000000000000000000000000000000000000000000000000000000004000000000000000000000000000000000000 msk) (hz : Within msk org sf.1) : Within msk org (State.applyFix te sf f).1 := by
  unfold State.applyFix
  repeat' with_reducible (first | assumption | intro _ | exact partOk_refl _ _ _ | apply State.raise_touch | apply State.raiseIf_touch | apply State.tick_touch | apply State.takeHeading_touch | apply within_ite | apply within_ite_fst | apply rows_ite | apply rows_if | apply within_foldl | apply within_foldl_fst | split | (dsimp only; split) | apply within_mk)
  all_goals try with_reducible (first | refine in_POSE_EVENT_FIX_FUTURE ?_ | refine in_POSE_EVENT_FIX_STALE ?_ | refine in_POSE_EVENT_FIX_ORDER ?_ | refine in_POSE_EVENT_RANGE ?_ | refine in_POSE_EVENT_FIX_REJECT ?_ | refine in_POSE_EVENT_POS_JUMP ?_)
  all_goals first | exact sub_le (by decide) hm | exact partOk_bit (sub_bit hm (by decide)) | exact sub_bit hm (by decide) | exact in_POSE_EVENT_FIX_FUTURE (sub_bit hm (by decide)) | exact in_POSE_EVENT_FIX_STALE (sub_bit hm (by decide)) | exact in_POSE_EVENT_FIX_ORDER (sub_bit hm (by decide)) | exact in_POSE_EVENT_RANGE (sub_bit hm (by decide)) | exact in_POSE_EVENT_FIX_REJECT (sub_bit hm (by decide)) | exact in_POSE_EVENT_POS_JUMP (sub_bit hm (by decide)) | exact .inr rfl

theorem State.poSelect_touch {msk : Nat} {org : State} (s : State) (te : Time) (applied : Bool) (hm : sub 0x70000003611820000000010800000000000000000000000000000000000000000000000000000000000000000000006000000000000000000000000000000000000 msk) (hz : Within msk org s) : Within msk org (State.poSelect s te applied) := by
  unfold State.poSelect
  repeat' with_reducible (first | assumption | intro _ | exact partOk_refl _ _ _ | apply Run.st_touch | apply State.raiseIf_touch | apply State.poTo_touch | apply within_ite | apply within_ite_fst | apply rows_ite | apply rows_if | apply within_foldl | apply within_foldl_fst | split | (dsimp only; split) | apply within_mk)
  all_goals try with_reducible (first | refine in_POSE_EVENT_RANGE ?_)
  all_goals first | exact sub_le (by decide) hm | exact partOk_bit (sub_bit hm (by decide)) | exact sub_bit hm (by decide) | exact in_POSE_EVENT_RANGE (sub_bit hm (by decide)) | exact .inr rfl

theorem State.growOnce_touch {msk : Nat} {org : State} (s : State) (hm : sub 0x10000000000000000000000000000000000000000000000000000000000000000000000000000000000000000000000000000000000000000000000000000000000 msk) (hz : Within msk org s) : Within msk org (State.growOnce s) := by
  unfold State.growOnce
  repeat' with_reducible (first | assumption | intro _ | exact partOk_refl _ _ _ | apply Run.st_touch | apply within_ite | apply within_ite_fst | apply rows_ite | apply rows_if | apply within_foldl | apply within_foldl_fst | split | (dsimp only; split) | apply within_mk)
  all_goals first | exact sub_le (by decide) hm | exact partOk_bit (sub_bit hm (by decide)) | exact sub_bit hm (by decide) | exact .inr rfl

theorem State.growAtt_touch {msk : Nat} {org : State} (s : State) (hm : sub 0x10000000000000000000000000000000000000000000000000000000000000000000000000000000000000000000000000000000000000000000000000000000000 msk) (hz : Within msk org s) : Within msk org (State.growAtt s) := by
  unfold State.growAtt
  repeat' with_reducible (first | assumption | intro _ | exact partOk_refl _ _ _ | apply within_ite | apply within_ite_fst | apply rows_ite | apply rows_if | apply within_foldl | apply within_foldl_fst | split | (dsimp only; split) | apply within_mk)
  all_goals first | exact sub_le (by decide) hm | exact partOk_bit (sub_bit hm (by decide)) | exact sub_bit hm (by decide) | exact .inr rfl

theorem State.setSeg_touch {msk : Nat} {org : State} (s : State) (i : Nat) (g : SegState) (hm : sub 0x10000000000000000000000000000000000000000000000000000000000000000000000000000000000000000000000000000000000000000000000000000000000 msk) (hz : Within msk org s) : Within msk org (State.setSeg s i g) := by
  unfold State.setSeg
  repeat' with_reducible (first | assumption | intro _ | exact partOk_refl _ _ _ | apply within_ite | apply within_ite_fst | apply rows_ite | apply rows_if | apply within_foldl | apply within_foldl_fst | split | (dsimp only; split) | apply within_mk)
  all_goals first | exact sub_le (by decide) hm | exact partOk_bit (sub_bit hm (by decide)) | exact sub_bit hm (by decide) | exact .inr rfl

theorem State.segUpdate_touch {msk : Nat} {org : State} (s : State) (te : Time) (i : Nat) (hm : sub 0x10000000000000000000000000000000000000000000000000000000000000000000000000000000000000000000000000000000000000000000000000000000000 msk) (hz : Within msk org s) : Within msk org (State.segUpdate s te i) := by
  unfold State.segUpdate
  repeat' with_reducible (first | assumption | intro _ | exact partOk_refl _ _ _ | apply State.setSeg_touch | apply Run.comp_touch | apply within_ite | apply within_ite_fst | apply rows_ite | apply rows_if | apply within_foldl | apply within_foldl_fst | split | (dsimp only; split) | apply within_mk)
  all_goals first | exact sub_le (by decide) hm | exact partOk_bit (sub_bit hm (by decide)) | exact sub_bit hm (by decide) | exact .inr rfl

theorem State.deflExpiry_touch {msk : Nat} {org : State} (s : State) (i : Nat) (hm : sub 0x10000000000000000000000000000000000000000000000000000000000000000000000000000000000000000000000000000000000000000000000000000000000 msk) (hz : Within msk org s) : Within msk org (State.deflExpiry s i) := by
  unfold State.deflExpiry
  repeat' with_reducible (first | assumption | intro _ | exact partOk_refl _ _ _ | apply State.setSeg_touch | apply within_ite | apply within_ite_fst | apply rows_ite | apply rows_if | apply within_foldl | apply within_foldl_fst | split | (dsimp only; split) | apply within_mk)
  all_goals first | exact sub_le (by decide) hm | exact partOk_bit (sub_bit hm (by decide)) | exact sub_bit hm (by decide) | exact .inr rfl

theorem State.publishPose_touch {msk : Nat} {org : State} (s : State) (rec : List Byte) (hm : sub 0x50000003600020000000010800000000000000000000000000000000000000000000000000000000000400000000000000000000000000000000000000000140400 msk) (hz : Within msk org s) : Within msk org (State.publishPose s rec) := by
  unfold State.publishPose
  repeat' with_reducible (first | assumption | intro _ | exact partOk_refl _ _ _ | apply State.setReg_touch | apply State.streamRole_touch | apply within_ite | apply within_ite_fst | apply rows_ite | apply rows_if | apply within_foldl | apply within_foldl_fst | split | (dsimp only; split) | apply within_mk)
  all_goals try with_reducible (first | refine has_POSE_REC ?_ _)
  all_goals first | exact sub_le (by decide) hm | exact partOk_bit (sub_bit hm (by decide)) | exact sub_bit hm (by decide) | exact has_POSE_REC (sub_bit hm (by decide)) _ | exact .inr rfl

theorem State.propagate_touch {msk : Nat} {org : State} (s : State) (te : Time) (hm : sub 0x50800000000000000000010800000000000000000000000000000000000000000000000000000000000000000000004000000000000000000000000000000000000 msk) (hz : Within msk org s) : Within msk org (State.propagate s te) := by
  unfold State.propagate
  repeat' with_reducible (first | assumption | intro _ | exact partOk_refl _ _ _ | apply State.raiseIf_touch | apply State.freeQuat_touch | apply Run.comp_touch | apply within_ite | apply within_ite_fst | apply rows_ite | apply rows_if | apply within_foldl | apply within_foldl_fst | split | (dsimp only; split) | apply within_mk)
  all_goals try with_reducible (first | refine in_POSE_EVENT_IMU_SWITCH ?_)
  all_goals first | exact sub_le (by decide) hm | exact partOk_bit (sub_bit hm (by decide)) | exact sub_bit hm (by decide) | exact in_POSE_EVENT_IMU_SWITCH (sub_bit hm (by decide)) | exact .inr rfl

theorem State.velocity_touch {msk : Nat} {org : State} (s : State) (hm : sub 0x10800000000000000000000000000000000000000000000000000000000000000000000000000000000000000000000000000000000000000000000000000000000 msk) (hz : Within msk org s) : Within msk org (State.velocity s) := by
  unfold State.velocity
  repeat' with_reducible (first | assumption | intro _ | exact partOk_refl _ _ _ | apply Run.st_touch | apply State.tick_touch | apply within_ite | apply within_ite_fst | apply rows_ite | apply rows_if | apply within_foldl | apply within_foldl_fst | split | (dsimp only; split) | apply within_mk)
  all_goals first | exact sub_le (by decide) hm | exact partOk_bit (sub_bit hm (by decide)) | exact sub_bit hm (by decide) | exact .inr rfl

theorem State.epochAt_touch {msk : Nat} {org : State} (s : State) (te : Time) (missed : Nat) (hm : sub 0x70800003611820000000010800000000000000000000000000000000000000000000000000000000000400000000006000000000000000000000000000000140400 msk) (hz : Within msk org s) : Within msk org (State.epochAt s te missed) := by
  unfold State.epochAt
  repeat' with_reducible (first | assumption | intro _ | exact partOk_refl _ _ _ | apply State.propagate_touch | apply State.applyFix_touch | apply State.poSelect_touch | apply State.velocity_touch | apply State.missed_touch | apply State.growAtt_touch | apply State.growOnce_touch | apply State.segUpdate_touch | apply State.take_touch | apply State.publishPose_touch | apply State.count_touch | apply within_ite | apply within_ite_fst | apply rows_ite | apply rows_if | apply within_foldl | apply within_foldl_fst | split | (dsimp only; split) | apply within_mk)
  all_goals first | exact sub_le (by decide) hm | exact partOk_bit (sub_bit hm (by decide)) | exact sub_bit hm (by decide) | exact .inr rfl

theorem State.poseEpoch_touch {msk : Nat} {org : State} (s : State) (hm : sub 0x70800003611820000000010800000000000000000000000000000000000000000000000000000000000400000000006000000000000000000000000000000140400 msk) (hz : Within msk org s) : Within msk org (State.poseEpoch s) := by
  unfold State.poseEpoch
  repeat' with_reducible (first | assumption | intro _ | exact partOk_refl _ _ _ | apply State.missed_touch | apply State.epochAt_touch | apply within_ite | apply within_ite_fst | apply rows_ite | apply rows_if | apply within_foldl | apply within_foldl_fst | split | (dsimp only; split) | apply within_mk)
  all_goals first | exact sub_le (by decide) hm | exact partOk_bit (sub_bit hm (by decide)) | exact sub_bit hm (by decide) | exact .inr rfl

theorem State.submitFix_touch {msk : Nat} {org : State} (s : State) (f : FixIn) (hm : sub 0x10000000000000000000000000000000000000000000000000000000000000000000000000000000000000000000000000000000000000000000000000000000000 msk) (hz : Within msk org s) : Within msk org (State.submitFix s f) := by
  unfold State.submitFix
  repeat' with_reducible (first | assumption | intro _ | exact partOk_refl _ _ _ | apply within_ite | apply within_ite_fst | apply rows_ite | apply rows_if | apply within_foldl | apply within_foldl_fst | split | (dsimp only; split) | apply within_mk)
  all_goals first | exact sub_le (by decide) hm | exact partOk_bit (sub_bit hm (by decide)) | exact sub_bit hm (by decide) | exact .inr rfl

theorem State.fixLost_touch {msk : Nat} {org : State} (s : State) (hm : sub 0x40000000000000000000010800000000000000000000000000000000000000000000000000000000000000000000004000000000000000000000000000000000000 msk) (hz : Within msk org s) : Within msk org (State.fixLost s) := by
  unfold State.fixLost
  repeat' with_reducible (first | assumption | intro _ | exact partOk_refl _ _ _ | apply State.raise_touch | apply within_ite | apply within_ite_fst | apply rows_ite | apply rows_if | apply within_foldl | apply within_foldl_fst | split | (dsimp only; split) | apply within_mk)
  all_goals try with_reducible (first | refine in_POSE_EVENT_FIX_LOST ?_)
  all_goals first | exact sub_le (by decide) hm | exact partOk_bit (sub_bit hm (by decide)) | exact sub_bit hm (by decide) | exact in_POSE_EVENT_FIX_LOST (sub_bit hm (by decide)) | exact .inr rfl

theorem State.imuMaxExpiry_touch {msk : Nat} {org : State} (s : State) (hm : sub 0x70000003611820000000010800000000000000000000000000000000000000000000000000000000000000000000006000000000000000000000000000000000000 msk) (hz : Within msk org s) : Within msk org (State.imuMaxExpiry s) := by
  unfold State.imuMaxExpiry
  repeat' with_reducible (first | assumption | intro _ | exact partOk_refl _ _ _ | apply State.poTo_touch | apply within_ite | apply within_ite_fst | apply rows_ite | apply rows_if | apply within_foldl | apply within_foldl_fst | split | (dsimp only; split) | apply within_mk)
  all_goals first | exact sub_le (by decide) hm | exact partOk_bit (sub_bit hm (by decide)) | exact sub_bit hm (by decide) | exact .inr rfl

theorem State.imuCount_touch {msk : Nat} {org : State} (s : State) (m : Nat) (g : ImuState) (good : Bool) (hm : sub 0x10000000000000000000000000000000000000000000000000000000000000000000000000000000000000000000002000000000000000000000000000000000000 msk) (hz : Within msk org s) : Within msk org (State.imuCount s m g good) := by
  unfold State.imuCount
  repeat' with_reducible (first | assumption | intro _ | exact partOk_refl _ _ _ | apply State.setFld_touch | apply within_ite | apply within_ite_fst | apply rows_ite | apply rows_if | apply within_foldl | apply within_foldl_fst | split | (dsimp only; split) | apply within_mk)
  all_goals try with_reducible (first | refine in_POSE_STATUS_IMU0_OK ?_ | refine in_POSE_STATUS_IMU1_OK ?_)
  all_goals first | exact sub_le (by decide) hm | exact partOk_bit (sub_bit hm (by decide)) | exact sub_bit hm (by decide) | exact in_POSE_STATUS_IMU0_OK (sub_bit hm (by decide)) | exact in_POSE_STATUS_IMU1_OK (sub_bit hm (by decide)) | exact .inr rfl

theorem State.imuTransfer_touch {msk : Nat} {org : State} (s : State) (m : Nat) (ready : Bool) (bytes : List Byte) (trigger : Time) (hm : sub 0x10000000000000000000000000000000000000000000000000000000000000000000000000000000000000000000002000000000000000000000000000000000000 msk) (hz : Within msk org s) : Within msk org (State.imuTransfer s m ready bytes trigger) := by
  unfold State.imuTransfer
  repeat' with_reducible (first | assumption | intro _ | exact partOk_refl _ _ _ | apply State.ready_touch | apply Run.comp_touch | apply State.take_touch | apply State.imuCount_touch | apply within_ite | apply within_ite_fst | apply rows_ite | apply rows_if | apply within_foldl | apply within_foldl_fst | split | (dsimp only; split) | apply within_mk)
  all_goals first | exact sub_le (by decide) hm | exact partOk_bit (sub_bit hm (by decide)) | exact sub_bit hm (by decide) | exact .inr rfl

theorem State.imuDisagree_touch {msk : Nat} {org : State} (s : State) (hm : sub 0x40000000000000000000010800000000000000000000000000000000000000000000000000000000000000000000004000000000000000000000000000000000000 msk) (hz : Within msk org s) : Within msk org (State.imuDisagree s) := by
  unfold State.imuDisagree
  repeat' with_reducible (first | assumption | intro _ | exact partOk_refl _ _ _ | apply State.raise_touch | apply within_ite | apply within_ite_fst | apply rows_ite | apply rows_if | apply within_foldl | apply within_foldl_fst | split | (dsimp only; split) | apply within_mk)
  all_goals try with_reducible (first | refine in_POSE_EVENT_IMU_DISAGREE ?_)
  all_goals first | exact sub_le (by decide) hm | exact partOk_bit (sub_bit hm (by decide)) | exact sub_bit hm (by decide) | exact in_POSE_EVENT_IMU_DISAGREE (sub_bit hm (by decide)) | exact .inr rfl

theorem State.speedEdge_touch {msk : Nat} {org : State} (s : State) (t : Time) (hm : sub 0x10000000000000000000000000000000000000000000000000000000000000000000000000000000000000000000002000000000000000000000000000000000000 msk) (hz : Within msk org s) : Within msk org (State.speedEdge s t) := by
  unfold State.speedEdge
  repeat' with_reducible (first | assumption | intro _ | exact partOk_refl _ _ _ | apply State.take_touch | apply State.setFld_touch | apply within_ite | apply within_ite_fst | apply rows_ite | apply rows_if | apply within_foldl | apply within_foldl_fst | split | (dsimp only; split) | apply within_mk)
  all_goals try with_reducible (first | refine in_POSE_STATUS_SPD_OK ?_)
  all_goals first | exact sub_le (by decide) hm | exact partOk_bit (sub_bit hm (by decide)) | exact sub_bit hm (by decide) | exact in_POSE_STATUS_SPD_OK (sub_bit hm (by decide)) | exact .inr rfl

theorem State.speedTimeout_touch {msk : Nat} {org : State} (s : State) (hm : sub 0x10000000000000000000000000000000000000000000000000000000000000000000000000000000000000000000002000000000000000000000000000000000000 msk) (hz : Within msk org s) : Within msk org (State.speedTimeout s) := by
  unfold State.speedTimeout
  repeat' with_reducible (first | assumption | intro _ | exact partOk_refl _ _ _ | apply State.setFld_touch | apply State.take_touch | apply within_ite | apply within_ite_fst | apply rows_ite | apply rows_if | apply within_foldl | apply within_foldl_fst | split | (dsimp only; split) | apply within_mk)
  all_goals try with_reducible (first | refine in_POSE_STATUS_SPD_OK ?_)
  all_goals first | exact sub_le (by decide) hm | exact partOk_bit (sub_bit hm (by decide)) | exact sub_bit hm (by decide) | exact in_POSE_STATUS_SPD_OK (sub_bit hm (by decide)) | exact .inr rfl

theorem State.cpvUpdate_touch {msk : Nat} {org : State} (s : State) (cs : List CpvIn) (hm : sub 0x50000000000000000000010800000000000000000000000000000000000000000000000000000000000000000000006000000000000000000000000000000000000 msk) (hz : Within msk org s) : Within msk org (State.cpvUpdate s cs) := by
  unfold State.cpvUpdate
  repeat' with_reducible (first | assumption | intro _ | exact partOk_refl _ _ _ | apply State.raiseIf_touch | apply State.setBit_touch | apply within_ite | apply within_ite_fst | apply rows_ite | apply rows_if | apply within_foldl | apply within_foldl_fst | split | (dsimp only; split) | apply within_mk)
  all_goals try with_reducible (first | refine in_POSE_EVENT_CPV_SWITCH ?_ | refine in_POSE_STATUS_CPV_OK ?_)
  all_goals first | exact sub_le (by decide) hm | exact partOk_bit (sub_bit hm (by decide)) | exact sub_bit hm (by decide) | exact in_POSE_EVENT_CPV_SWITCH (sub_bit hm (by decide)) | exact in_POSE_STATUS_CPV_OK (sub_bit hm (by decide)) | exact .inr rfl

theorem State.baselineUpdate_touch {msk : Nat} {org : State} (s : State) (bs : List BlIn) (hm : sub 0x10000000000000000000000000000000000000000000000000000000000000000000000000000000000000000000002000000000000000000000000000000000000 msk) (hz : Within msk org s) : Within msk org (State.baselineUpdate s bs) := by
  unfold State.baselineUpdate
  repeat' with_reducible (first | assumption | intro _ | exact partOk_refl _ _ _ | apply State.setBaselines_touch | apply within_ite | apply within_ite_fst | apply rows_ite | apply rows_if | apply within_foldl | apply within_foldl_fst | split | (dsimp only; split) | apply within_mk)
  all_goals first | exact sub_le (by decide) hm | exact partOk_bit (sub_bit hm (by decide)) | exact sub_bit hm (by decide) | exact .inr rfl

theorem State.measurementEpoch_touch {msk : Nat} {org : State} (s : State) (m : EpochIn) (hm : sub 0x5c8000036000200000000108000000000000000000000000000000000000000000000000000000000000000000000069e0801802000000000000084000000140400 msk) (hz : Within msk org s) : Within msk org (State.measurementEpoch s m) := by
  unfold State.measurementEpoch
  repeat' with_reducible (first | assumption | intro _ | exact partOk_refl _ _ _ | apply State.observeAll_touch | apply State.symbol_touch | apply State.setFld_touch | apply State.takeLeap_touch | apply State.calFromGnss_touch | apply State.cpvUpdate_touch | apply State.baselineUpdate_touch | apply State.allocate_touch | apply within_ite | apply within_ite_fst | apply rows_ite | apply rows_if | apply within_foldl | apply within_foldl_fst | split | (dsimp only; split) | apply within_mk)
  all_goals try with_reducible (first | refine in_AS_PWR_CLIP ?_ _ _ | refine in_AS_PWR_RMS ?_ _ _)
  all_goals first | exact sub_le (by decide) hm | exact partOk_bit (sub_bit hm (by decide)) | exact sub_bit hm (by decide) | exact in_AS_PWR_CLIP (sub_bit hm (by decide)) _ _ | exact in_AS_PWR_RMS (sub_bit hm (by decide)) _ _ | exact .inr rfl

theorem State.imuOff_touch {msk : Nat} {org : State} (s : State) (m : Nat) (hm : sub 0x10000000000000000000000000000000000000000000000000000000000000000000000000000000000000000000002000000000000000000000000000000000000 msk) (hz : Within msk org s) : Within msk org (State.imuOff s m) := by
  unfold State.imuOff
  repeat' with_reducible (first | assumption | intro _ | exact partOk_refl _ _ _ | apply State.setFld_touch | apply within_ite | apply within_ite_fst | apply rows_ite | apply rows_if | apply within_foldl | apply within_foldl_fst | split | (dsimp only; split) | apply within_mk)
  all_goals try with_reducible (first | refine in_POSE_STATUS_IMU0_OK ?_ | refine in_POSE_STATUS_IMU1_OK ?_)
  all_goals first | exact sub_le (by decide) hm | exact partOk_bit (sub_bit hm (by decide)) | exact sub_bit hm (by decide) | exact in_POSE_STATUS_IMU0_OK (sub_bit hm (by decide)) | exact in_POSE_STATUS_IMU1_OK (sub_bit hm (by decide)) | exact .inr rfl

theorem State.poWrite_touch {msk : Nat} {org : State} (s : State) (used : Nat → Bool) (a v : Nat) (hm : sub 0x70000003611820000000010800000000000000000000000000000000000000000000000000000000000000000001007000000000000000000000000000000000000 msk) (ha : RowsHave msk a) (hz : Within msk org s) : Within msk org (State.poWrite s used a v) := by
  unfold State.poWrite
  repeat' with_reducible (first | assumption | intro _ | exact partOk_refl _ _ _ | apply State.raise_touch | apply State.poCtrlWrite_touch | apply State.writeCodes_touch | apply State.setFld_touch | apply State.imuOff_touch | apply State.setSeg_touch | apply State.speedTimeout_touch | apply State.submitFix_touch | apply within_ite | apply within_ite_fst | apply rows_ite | apply rows_if | apply within_foldl | apply within_foldl_fst | split | (dsimp only; split) | apply within_mk)
  all_goals try with_reducible (first | refine in_POSE_EVENT_CFG_ERR ?_ | refine in_POSE_BL_BL_SEARCH ?_)
  all_goals first | exact sub_le (by decide) hm | exact partOk_bit (sub_bit hm (by decide)) | exact sub_bit hm (by decide) | exact in_POSE_EVENT_CFG_ERR (sub_bit hm (by decide)) | exact in_POSE_BL_BL_SEARCH (sub_bit hm (by decide)) | exact .inr rfl

end Sys2Proof.Machine
end

