-- ==== Sys2Proof/Laws/TouchMaps.lean ====
section
/-! SUPPORT. What each operation of Machine/Maps.lean may change, as a mask. -/

namespace Sys2Proof.Machine

set_option linter.all false
set_option Elab.async false

theorem State.setCellWord_touch {msk : Nat} {org : State} (s : State) (key v : Nat) (hm : sub 0x80000000000000000000000000000000000000000000000000000000000000000000000000000000000000000000000000000000000000000000000000000000000 msk) (hz : Within msk org s) : Within msk org (State.setCellWord s key v) := by
  unfold State.setCellWord
  repeat' with_reducible (first | assumption | intro _ | exact partOk_refl _ _ _ | apply within_ite | apply within_ite_fst | apply rows_ite | apply rows_if | apply within_foldl | apply within_foldl_fst | split | (dsimp only; split) | apply within_mk)
  all_goals first | exact sub_le (by decide) hm | exact partOk_bit (sub_bit hm (by decide)) | exact sub_bit hm (by decide) | exact .inr rfl

theorem State.tileLoad_touch {msk : Nat} {org : State} (s : State) (k : Nat) (hm : sub 0xc0000000000000000000010800000000000000000000000000000000000000000000000000000000000000000000000000000000000000200008000000000000000 msk) (hz : Within msk org s) : Within msk org (State.tileLoad s k) := by
  unfold State.tileLoad
  repeat' with_reducible (first | assumption | intro _ | exact partOk_refl _ _ _ | apply State.setFld_touch | apply State.raise_touch | apply within_ite | apply within_ite_fst | apply rows_ite | apply rows_if | apply within_foldl | apply within_foldl_fst | split | (dsimp only; split) | apply within_mk)
  all_goals try with_reducible (first | refine in_TILE_CTRL_PENDING ?_ _ | refine in_MAP_EVENT_CMD_ERR ?_)
  all_goals first | exact sub_le (by decide) hm | exact partOk_bit (sub_bit hm (by decide)) | exact sub_bit hm (by decide) | exact in_TILE_CTRL_PENDING (sub_bit hm (by decide)) _ | exact in_MAP_EVENT_CMD_ERR (sub_bit hm (by decide)) | exact .inr rfl

theorem State.tileCommit_touch {msk : Nat} {org : State} (s : State) (k : Nat) (hm : sub 0xc0000000000000000000010800000000000000000000000000000000000000000000000000000000000000000000000000000000000000200008000000000000000 msk) (hz : Within msk org s) : Within msk org (State.tileCommit s k) := by
  unfold State.tileCommit
  repeat' with_reducible (first | assumption | intro _ | exact partOk_refl _ _ _ | apply State.raise_touch | apply State.setFld_touch | apply within_ite | apply within_ite_fst | apply rows_ite | apply rows_if | apply within_foldl | apply within_foldl_fst | split | (dsimp only; split) | apply within_mk)
  all_goals try with_reducible (first | refine in_MAP_EVENT_TAG_CONFLICT ?_ | refine in_TILE_CTRL_PENDING ?_ _ | refine in_MAP_EVENT_CMD_ERR ?_)
  all_goals first | exact sub_le (by decide) hm | exact partOk_bit (sub_bit hm (by decide)) | exact sub_bit hm (by decide) | exact in_MAP_EVENT_TAG_CONFLICT (sub_bit hm (by decide)) | exact in_TILE_CTRL_PENDING (sub_bit hm (by decide)) _ | exact in_MAP_EVENT_CMD_ERR (sub_bit hm (by decide)) | exact .inr rfl

theorem State.tileFree_touch {msk : Nat} {org : State} (s : State) (k : Nat) (hm : sub 0x80000000000000000000000000000000000000000000000000000000000000000000000000000000000000000000000000000000000000600000000000000000000 msk) (hz : Within msk org s) : Within msk org (State.tileFree s k) := by
  unfold State.tileFree
  repeat' with_reducible (first | assumption | intro _ | exact partOk_refl _ _ _ | apply State.setFld_touch | apply within_ite | apply within_ite_fst | apply rows_ite | apply rows_if | apply within_foldl | apply within_foldl_fst | split | (dsimp only; split) | apply within_mk)
  all_goals try with_reducible (first | refine in_TILE_DIRTY_BAND ?_ _ | refine in_TILE_CTRL_PENDING ?_ _ | refine in_TILE_CTRL_STATE ?_ _)
  all_goals first | exact sub_le (by decide) hm | exact partOk_bit (sub_bit hm (by decide)) | exact sub_bit hm (by decide) | exact in_TILE_DIRTY_BAND (sub_bit hm (by decide)) _ | exact in_TILE_CTRL_PENDING (sub_bit hm (by decide)) _ | exact in_TILE_CTRL_STATE (sub_bit hm (by decide)) _ | exact .inr rfl

theorem State.tileEvict_touch {msk : Nat} {org : State} (s : State) (k : Nat) (force : Bool) (hm : sub 0xc0000000000000000000010800000000000000000000000000000000000000000000000000000000000000000000000000000000000000600008000000000000000 msk) (hz : Within msk org s) : Within msk org (State.tileEvict s k force) := by
  unfold State.tileEvict
  repeat' with_reducible (first | assumption | intro _ | exact partOk_refl _ _ _ | apply Run.st_touch | apply State.tileFree_touch | apply State.raise_touch | apply State.setFld_touch | apply within_ite | apply within_ite_fst | apply rows_ite | apply rows_if | apply within_foldl | apply within_foldl_fst | split | (dsimp only; split) | apply within_mk)
  all_goals try with_reducible (first | refine in_MAP_EVENT_EVICT_DIRTY ?_ | refine in_TILE_CTRL_PENDING ?_ _ | refine in_MAP_EVENT_CMD_ERR ?_)
  all_goals first | exact sub_le (by decide) hm | exact partOk_bit (sub_bit hm (by decide)) | exact sub_bit hm (by decide) | exact in_MAP_EVENT_EVICT_DIRTY (sub_bit hm (by decide)) | exact in_TILE_CTRL_PENDING (sub_bit hm (by decide)) _ | exact in_MAP_EVENT_CMD_ERR (sub_bit hm (by decide)) | exact .inr rfl

theorem State.apertureByte_touch {msk : Nat} {org : State} (s : State) (off : Nat) (b : Byte) (hm : sub 0x80000000000000000000000000000000000000000000000000000000000000000000000000000000000000000000000000000000000000000000000000000000000 msk) (hz : Within msk org s) : Within msk org (State.apertureByte s off b) := by
  unfold State.apertureByte
  repeat' with_reducible (first | assumption | intro _ | exact partOk_refl _ _ _ | apply State.setCellWord_touch | apply within_ite | apply within_ite_fst | apply rows_ite | apply rows_if | apply within_foldl | apply within_foldl_fst | split | (dsimp only; split) | apply within_mk)
  all_goals first | exact sub_le (by decide) hm | exact partOk_bit (sub_bit hm (by decide)) | exact sub_bit hm (by decide) | exact .inr rfl

theorem State.apertureWrite_touch {msk : Nat} {org : State} (s : State) (off : Nat) (bs : List Byte) (hm : sub 0xc0000000000000000000010800000000000000000000000000000000000000000000000000000000000000000000000000000000000000000008000000000000000 msk) (hz : Within msk org s) : Within msk org (State.apertureWrite s off bs) := by
  unfold State.apertureWrite
  repeat' with_reducible (first | assumption | intro _ | exact partOk_refl _ _ _ | apply State.raise_touch | apply State.apertureByte_touch | apply within_ite | apply within_ite_fst | apply rows_ite | apply rows_if | apply within_foldl | apply within_foldl_fst | split | (dsimp only; split) | apply within_mk)
  all_goals try with_reducible (first | refine in_MAP_EVENT_CFG_ERR ?_)
  all_goals first | exact sub_le (by decide) hm | exact partOk_bit (sub_bit hm (by decide)) | exact sub_bit hm (by decide) | exact in_MAP_EVENT_CFG_ERR (sub_bit hm (by decide)) | exact .inr rfl

theorem State.tileFillDone_touch {msk : Nat} {org : State} (s : State) (k : Nat) (hm : sub 0xc0000000000000000000010800000000000000000000000000000000000000000000000000000000000000000000000000000000000000200008000000000000000 msk) (hz : Within msk org s) : Within msk org (State.tileFillDone s k) := by
  unfold State.tileFillDone
  repeat' with_reducible (first | assumption | intro _ | exact partOk_refl _ _ _ | apply State.setFld_touch | apply State.apertureWrite_touch | apply within_ite | apply within_ite_fst | apply rows_ite | apply rows_if | apply within_foldl | apply within_foldl_fst | split | (dsimp only; split) | apply within_mk)
  all_goals try with_reducible (first | refine in_TILE_CTRL_PENDING ?_ _ | refine in_TILE_CTRL_STATE ?_ _)
  all_goals first | exact sub_le (by decide) hm | exact partOk_bit (sub_bit hm (by decide)) | exact sub_bit hm (by decide) | exact in_TILE_CTRL_PENDING (sub_bit hm (by decide)) _ | exact in_TILE_CTRL_STATE (sub_bit hm (by decide)) _ | exact .inr rfl

theorem State.tileFrame_touch {msk : Nat} {org : State} (s : State) (hm : sub 0x80000000000000000000000000000000000000000000000000000000000000000000000000000000000000000000000000000000000000600000000000000000000 msk) (hz : Within msk org s) : Within msk org (State.tileFrame s) := by
  unfold State.tileFrame
  repeat' with_reducible (first | assumption | intro _ | exact partOk_refl _ _ _ | apply State.tileFree_touch | apply State.setFld_touch | apply within_ite | apply within_ite_fst | apply rows_ite | apply rows_if | apply within_foldl | apply within_foldl_fst | split | (dsimp only; split) | apply within_mk)
  all_goals try with_reducible (first | refine in_TILE_CTRL_PENDING ?_ _ | refine in_TILE_CTRL_STATE ?_ _)
  all_goals first | exact sub_le (by decide) hm | exact partOk_bit (sub_bit hm (by decide)) | exact sub_bit hm (by decide) | exact in_TILE_CTRL_PENDING (sub_bit hm (by decide)) _ | exact in_TILE_CTRL_STATE (sub_bit hm (by decide)) _ | exact .inr rfl

theorem State.mergeCells_touch {msk : Nat} {org : State} (s : State) (k old : Nat) (hm : sub 0x80000000000000000000000000000000000000000000000000000000000000000000000000000000000000000000000000000000000000000000000000000000000 msk) (hz : Within msk org s) : Within msk org (State.mergeCells s k old) := by
  unfold State.mergeCells
  repeat' with_reducible (first | assumption | intro _ | exact partOk_refl _ _ _ | apply State.setCellWord_touch | apply within_ite | apply within_ite_fst | apply rows_ite | apply rows_if | apply within_foldl | apply within_foldl_fst | split | (dsimp only; split) | apply within_mk)
  all_goals first | exact sub_le (by decide) hm | exact partOk_bit (sub_bit hm (by decide)) | exact sub_bit hm (by decide) | exact .inr rfl

theorem State.mergeDone_touch {msk : Nat} {org : State} (s : State) (k : Nat) (hm : sub 0x80000000000000000000000000000000000000000000000000000000000000000000000000000000000000000000000000000000000000600000000000000000000 msk) (hz : Within msk org s) : Within msk org (State.mergeDone s k) := by
  unfold State.mergeDone
  repeat' with_reducible (first | assumption | intro _ | exact partOk_refl _ _ _ | apply State.mergeCells_touch | apply State.setFld_touch | apply State.tileFree_touch | apply within_ite | apply within_ite_fst | apply rows_ite | apply rows_if | apply within_foldl | apply within_foldl_fst | split | (dsimp only; split) | apply within_mk)
  all_goals try with_reducible (first | refine in_TILE_DIRTY_BAND ?_ _ | refine in_TILE_CTRL_PENDING ?_ _ | refine in_TILE_CTRL_STATE ?_ _)
  all_goals first | exact sub_le (by decide) hm | exact partOk_bit (sub_bit hm (by decide)) | exact sub_bit hm (by decide) | exact in_TILE_DIRTY_BAND (sub_bit hm (by decide)) _ | exact in_TILE_CTRL_PENDING (sub_bit hm (by decide)) _ | exact in_TILE_CTRL_STATE (sub_bit hm (by decide)) _ | exact .inr rfl

theorem State.tileBad_touch {msk : Nat} {org : State} (s : State) (k : Nat) (hm : sub 0xc0000000000000000000010800000000000000000000000000000000000000000000000000000000000000000000000000000000000000200008000000000000000 msk) (hz : Within msk org s) : Within msk org (State.tileBad s k) := by
  unfold State.tileBad
  repeat' with_reducible (first | assumption | intro _ | exact partOk_refl _ _ _ | apply State.setFld_touch | apply State.raise_touch | apply within_ite | apply within_ite_fst | apply rows_ite | apply rows_if | apply within_foldl | apply within_foldl_fst | split | (dsimp only; split) | apply within_mk)
  all_goals try with_reducible (first | refine in_MAP_EVENT_TILE_ECC ?_ | refine in_TILE_CTRL_PENDING ?_ _ | refine in_TILE_CTRL_STATE ?_ _)
  all_goals first | exact sub_le (by decide) hm | exact partOk_bit (sub_bit hm (by decide)) | exact sub_bit hm (by decide) | exact in_MAP_EVENT_TILE_ECC (sub_bit hm (by decide)) | exact in_TILE_CTRL_PENDING (sub_bit hm (by decide)) _ | exact in_TILE_CTRL_STATE (sub_bit hm (by decide)) _ | exact .inr rfl

theorem State.addTrans_touch {msk : Nat} {org : State} (s : State) (o : Nat) (opening : Bool) (t : Time) (hm : sub 0x80000000000000000000000000000000000000000000000000000000000000000000000000000000000000000000000000000000000000000000000000000000000 msk) (hz : Within msk org s) : Within msk org (State.addTrans s o opening t) := by
  unfold State.addTrans
  repeat' with_reducible (first | assumption | intro _ | exact partOk_refl _ _ _ | apply State.take_touch | apply within_ite | apply within_ite_fst | apply rows_ite | apply rows_if | apply within_foldl | apply within_foldl_fst | split | (dsimp only; split) | apply within_mk)
  all_goals first | exact sub_le (by decide) hm | exact partOk_bit (sub_bit hm (by decide)) | exact sub_bit hm (by decide) | exact .inr rfl

theorem State.paintCell_touch {msk : Nat} {org : State} (s : State) (l : Nat) (unsure : List Pt) (c : Pt) (hm : sub 0xc0000003600020000000010800000000000000000000000000000000000000000000000000000000000000000000000000000000000000400068000000000000000 msk) (hz : Within msk org s) : Within msk org (State.paintCell s l unsure c) := by
  unfold State.paintCell
  repeat' with_reducible (first | assumption | intro _ | exact partOk_refl _ _ _ | apply State.bump_touch | apply State.raise_touch | apply State.setCellWord_touch | apply State.setFbit_touch | apply State.count_touch | apply within_ite | apply within_ite_fst | apply rows_ite | apply rows_if | apply within_foldl | apply within_foldl_fst | split | (dsimp only; split) | apply within_mk)
  all_goals try with_reducible (first | refine in_MAP_EVENT_PAINT_LOST ?_ | refine in_MAP_COUNT_A_PAINT_LOST ?_ | refine in_TILE_DIRTY_BAND ?_ _ | refine in_MAP_COUNT_B_CELL_ERR ?_ | refine in_MAP_COUNT_A_EXCL_PAINT ?_ | refine in_MAP_COUNT_B_PAINT_UNSURE ?_)
  all_goals first | exact sub_le (by decide) hm | exact partOk_bit (sub_bit hm (by decide)) | exact sub_bit hm (by decide) | exact in_MAP_EVENT_PAINT_LOST (sub_bit hm (by decide)) | exact in_MAP_COUNT_A_PAINT_LOST (sub_bit hm (by decide)) | exact in_TILE_DIRTY_BAND (sub_bit hm (by decide)) _ | exact in_MAP_COUNT_B_CELL_ERR (sub_bit hm (by decide)) | exact in_MAP_COUNT_A_EXCL_PAINT (sub_bit hm (by decide)) | exact in_MAP_COUNT_B_PAINT_UNSURE (sub_bit hm (by decide)) | exact .inr rfl

theorem State.paintLost_touch {msk : Nat} {org : State} (s : State) (n : Nat) (hm : sub 0x40000000000000000000010800000000000000000000000000000000000000000000000000000000000000000000000000000000000000000028000000000000000 msk) (hz : Within msk org s) : Within msk org (State.paintLost s n) := by
  unfold State.paintLost
  repeat' with_reducible (first | assumption | intro _ | exact partOk_refl _ _ _ | apply State.bump_touch | apply State.raise_touch | apply within_ite | apply within_ite_fst | apply rows_ite | apply rows_if | apply within_foldl | apply within_foldl_fst | split | (dsimp only; split) | apply within_mk)
  all_goals try with_reducible (first | refine in_MAP_EVENT_PAINT_LOST ?_ | refine in_MAP_COUNT_A_PAINT_LOST ?_)
  all_goals first | exact sub_le (by decide) hm | exact partOk_bit (sub_bit hm (by decide)) | exact sub_bit hm (by decide) | exact in_MAP_EVENT_PAINT_LOST (sub_bit hm (by decide)) | exact in_MAP_COUNT_A_PAINT_LOST (sub_bit hm (by decide)) | exact .inr rfl

theorem State.paintRaises_touch {msk : Nat} {org : State} (s : State) (rs : List (Nat × List (List Pt × List Pt))) (hm : sub 0xc0000003600020000000010800000000000000000000000000000000000000000000000000000000000000000000000000000000000000400068000000000000000 msk) (hz : Within msk org s) : Within msk org (State.paintRaises s rs) := by
  unfold State.paintRaises
  repeat' with_reducible (first | assumption | intro _ | exact partOk_refl _ _ _ | apply State.paintCell_touch | apply within_ite | apply within_ite_fst | apply rows_ite | apply rows_if | apply within_foldl | apply within_foldl_fst | split | (dsimp only; split) | apply within_mk)
  all_goals first | exact sub_le (by decide) hm | exact partOk_bit (sub_bit hm (by decide)) | exact sub_bit hm (by decide) | exact .inr rfl

theorem State.setBrush_touch {msk : Nat} {org : State} (s : State) (b : Brush) (hm : sub 0x80000000000000000000000000000000000000000000000000000000000000000000000000000000000000000000000000000000000000000000000000000000000 msk) (hz : Within msk org s) : Within msk org (State.setBrush s b) := by
  unfold State.setBrush
  repeat' with_reducible (first | assumption | intro _ | exact partOk_refl _ _ _ | apply within_ite | apply within_ite_fst | apply rows_ite | apply rows_if | apply within_foldl | apply within_foldl_fst | split | (dsimp only; split) | apply within_mk)
  all_goals first | exact sub_le (by decide) hm | exact partOk_bit (sub_bit hm (by decide)) | exact sub_bit hm (by decide) | exact .inr rfl

theorem State.paintInstant_touch {msk : Nat} {org : State} (s : State) (tau : Time) (hm : sub 0xc0000003600020000000010800000000000000000000000000000000000000000000000000000000000000000000000000000000000000400068000000000000000 msk) (hz : Within msk org s) : Within msk org (State.paintInstant s tau) := by
  unfold State.paintInstant
  repeat' with_reducible (first | assumption | intro _ | exact partOk_refl _ _ _ | apply State.paintLost_touch | apply State.paintRaises_touch | apply State.setBrush_touch | apply within_ite | apply within_ite_fst | apply rows_ite | apply rows_if | apply within_foldl | apply within_foldl_fst | split | (dsimp only; split) | apply within_mk)
  all_goals first | exact sub_le (by decide) hm | exact partOk_bit (sub_bit hm (by decide)) | exact sub_bit hm (by decide) | exact .inr rfl

theorem State.paintBeyond_touch {msk : Nat} {org : State} (s : State) (had : List (Nat × Pt)) (rs : List (Nat × List (List Pt × List Pt))) (hm : sub 0xc0000003600020000000010800000000000000000000000000000000000000000000000000000000000000000000000000000000000000400068000000000000000 msk) (hz : Within msk org s) : Within msk org (State.paintBeyond s had rs) := by
  unfold State.paintBeyond
  repeat' with_reducible (first | assumption | intro _ | exact partOk_refl _ _ _ | apply State.erase_touch | apply State.paintCell_touch | apply within_ite | apply within_ite_fst | apply rows_ite | apply rows_if | apply within_foldl | apply within_foldl_fst | split | (dsimp only; split) | apply within_mk)
  all_goals first | exact sub_le (by decide) hm | exact partOk_bit (sub_bit hm (by decide)) | exact sub_bit hm (by decide) | exact .inr rfl

theorem State.backPaint_touch {msk : Nat} {org : State} (s : State) (old : List (Nat × List (Bool × Time))) (taus : List Time) (hm : sub 0xc0000003600020000000010800000000000000000000000000000000000000000000000000000000000000000000000000000000000000400068000000000000000 msk) (hz : Within msk org s) : Within msk org (State.backPaint s old taus) := by
  unfold State.backPaint
  repeat' with_reducible (first | assumption | intro _ | exact partOk_refl _ _ _ | apply State.paintBeyond_touch | apply State.setBrush_touch | apply within_ite | apply within_ite_fst | apply rows_ite | apply rows_if | apply within_foldl | apply within_foldl_fst | split | (dsimp only; split) | apply within_mk)
  all_goals first | exact sub_le (by decide) hm | exact partOk_bit (sub_bit hm (by decide)) | exact sub_bit hm (by decide) | exact .inr rfl

theorem State.lateSeal_touch {msk : Nat} {org : State} (s : State) (o : Nat) (opening : Bool) (t : Time) (hm : sub 0xc0000003600020000000010800000000000000000000000000000000000000000000000000000000000000000000000000000000000000400068000000000000000 msk) (hz : Within msk org s) : Within msk org (State.lateSeal s o opening t) := by
  unfold State.lateSeal
  repeat' with_reducible (first | assumption | intro _ | exact partOk_refl _ _ _ | apply State.addTrans_touch | apply State.paintLost_touch | apply State.backPaint_touch | apply within_ite | apply within_ite_fst | apply rows_ite | apply rows_if | apply within_foldl | apply within_foldl_fst | split | (dsimp only; split) | apply within_mk)
  all_goals first | exact sub_le (by decide) hm | exact partOk_bit (sub_bit hm (by decide)) | exact sub_bit hm (by decide) | exact .inr rfl

theorem State.sections_touch {msk : Nat} {org : State} (s : State) (tau : Time) (hm : sub 0x4000000000000000000000000000000020000000000000000000 msk) (hz : Within msk org s) : Within msk org (State.sections s tau) := by
  unfold State.sections
  repeat' with_reducible (first | assumption | intro _ | exact partOk_refl _ _ _ | apply State.setBit_touch | apply State.setReg_touch | apply within_ite | apply within_ite_fst | apply rows_ite | apply rows_if | apply within_foldl | apply within_foldl_fst | split | (dsimp only; split) | apply within_mk)
  all_goals try with_reducible (first | refine in_OT_STATE_LANDING ?_ _ | refine has_SEC_STATE ?_ _)
  all_goals first | exact sub_le (by decide) hm | exact partOk_bit (sub_bit hm (by decide)) | exact sub_bit hm (by decide) | exact in_OT_STATE_LANDING (sub_bit hm (by decide)) _ | exact has_SEC_STATE (sub_bit hm (by decide)) _ | exact .inr rfl

theorem State.painterRun_touch {msk : Nat} {org : State} (s : State) (hm : sub 0xc0000003600020000000010800000000000000000000000000000000000000000000000000000004000000000000000000000000000000420068000000000000000 msk) (hz : Within msk org s) : Within msk org (State.painterRun s) := by
  unfold State.painterRun
  repeat' with_reducible (first | assumption | intro _ | exact partOk_refl _ _ _ | apply Run.st_touch | apply State.missed_touch | apply State.sections_touch | apply State.paintInstant_touch | apply within_ite | apply within_ite_fst | apply rows_ite | apply rows_if | apply within_foldl | apply within_foldl_fst | split | (dsimp only; split) | apply within_mk)
  all_goals first | exact sub_le (by decide) hm | exact partOk_bit (sub_bit hm (by decide)) | exact sub_bit hm (by decide) | exact .inr rfl

theorem State.tileCtrlWrite_touch {msk : Nat} {org : State} (s : State) (sup : Bool) (k v : Nat) (hm : sub 0xc0000000000000000000010800000000000000000000000000000000000000000000000000000000000000000000000000000000000000600008000000000000000 msk) (hz : Within msk org s) : Within msk org (State.tileCtrlWrite s sup k v) := by
  unfold State.tileCtrlWrite
  repeat' with_reducible (first | assumption | intro _ | exact partOk_refl _ _ _ | apply State.setFld_touch | apply State.tileLoad_touch | apply State.tileCommit_touch | apply State.tileEvict_touch | apply within_ite | apply within_ite_fst | apply rows_ite | apply rows_if | apply within_foldl | apply within_foldl_fst | split | (dsimp only; split) | apply within_mk)
  all_goals try with_reducible (first | refine in_TILE_CTRL_COV_WRITE ?_ _)
  all_goals first | exact sub_le (by decide) hm | exact partOk_bit (sub_bit hm (by decide)) | exact sub_bit hm (by decide) | exact in_TILE_CTRL_COV_WRITE (sub_bit hm (by decide)) _ | exact .inr rfl

theorem State.rateCommit_touch {msk : Nat} {org : State} (s : State) (v : Nat) (hm : sub 0x800000000000000000 msk) (hz : Within msk org s) : Within msk org (State.rateCommit s v) := by
  unfold State.rateCommit
  repeat' with_reducible (first | assumption | intro _ | exact partOk_refl _ _ _ | apply State.setFld_touch | apply within_ite | apply within_ite_fst | apply rows_ite | apply rows_if | apply within_foldl | apply within_foldl_fst | split | (dsimp only; split) | apply within_mk)
  all_goals try with_reducible (first | refine in_RT_CTRL_PENDING ?_)
  all_goals first | exact sub_le (by decide) hm | exact partOk_bit (sub_bit hm (by decide)) | exact sub_bit hm (by decide) | exact in_RT_CTRL_PENDING (sub_bit hm (by decide)) | exact .inr rfl

theorem State.rateFrame_touch {msk : Nat} {org : State} (s : State) (hm : sub 0x100000000000000000000000000000000000000000000000000000000000000000000000000000000000000000000000000000000000000800800000000000000000 msk) (hz : Within msk org s) : Within msk org (State.rateFrame s) := by
  unfold State.rateFrame
  repeat' with_reducible (first | assumption | intro _ | exact partOk_refl _ _ _ | apply State.setFld_touch | apply State.setFbit_touch | apply within_ite | apply within_ite_fst | apply rows_ite | apply rows_if | apply within_foldl | apply within_foldl_fst | split | (dsimp only; split) | apply within_mk)
  all_goals try with_reducible (first | refine in_RT_ENTRY_RATE ?_ _ _ | refine in_RT_CTRL_PENDING ?_)
  all_goals first | exact sub_le (by decide) hm | exact partOk_bit (sub_bit hm (by decide)) | exact sub_bit hm (by decide) | exact in_RT_ENTRY_RATE (sub_bit hm (by decide)) _ _ | exact in_RT_CTRL_PENDING (sub_bit hm (by decide)) | exact .inr rfl

theorem State.mapWrite_touch {msk : Nat} {org : State} (s : State) (sup : Bool) (a v : Nat) (hm : sub 0xc000000000000000000001080000000000000000000000000000000000000000000000000000000000000000000000000000000000000160080c000000000000000 msk) (ha : RowsHave msk a) (hb : inRange 0x40A400 0x40A800 a = true → RowsHave msk (a + 0x400)) (hz : Within msk org s) : Within msk org (State.mapWrite s sup a v) := by
  unfold State.mapWrite
  repeat' with_reducible (first | assumption | intro _ | exact partOk_refl _ _ _ | apply State.raise_touch | apply State.writeCodes_touch | apply State.setFld_touch | apply State.rateCommit_touch | apply State.tileCtrlWrite_touch | apply State.setReg_touch | apply rows_ite | apply rows_if | apply within_foldl | apply within_foldl_fst | split | (dsimp only; split) | apply within_mk)
  all_goals try with_reducible (first | refine in_MAP_EVENT_CFG_ERR ?_ | refine in_MAP_CTRL_GATE_ALL ?_ | refine hb (by assumption))
  all_goals first | exact sub_le (by decide) hm | exact partOk_bit (sub_bit hm (by decide)) | exact sub_bit hm (by decide) | exact in_MAP_EVENT_CFG_ERR (sub_bit hm (by decide)) | exact in_MAP_CTRL_GATE_ALL (sub_bit hm (by decide)) | exact hb (by assumption) | exact .inr rfl

end Sys2Proof.Machine
end

