-- ==== Sys2Proof/Laws/TouchDrive.lean ====
section
/-! SUPPORT. What each operation of Machine/Drive.lean may change, as a mask. -/

namespace Sys2Proof.Machine

set_option linter.all false
set_option Elab.async false

theorem State.setValve_touch {msk : Nat} {org : State} (s : State) (n : Nat) (v : ValveState) (hm : sub 0x200000000000000000000000000000000000000000000000000000000000000000000000000000000000000000000000000000000000000000000000000000000000 msk) (hz : Within msk org s) : Within msk org (State.setValve s n v) := by
  unfold State.setValve
  repeat' with_reducible (first | assumption | intro _ | exact partOk_refl _ _ _ | apply within_ite | apply within_ite_fst | apply rows_ite | apply rows_if | apply within_foldl | apply within_foldl_fst | split | (dsimp only; split) | apply within_mk)
  all_goals first | exact sub_le (by decide) hm | exact partOk_bit (sub_bit hm (by decide)) | exact sub_bit hm (by decide) | exact .inr rfl

theorem State.vTo_touch {msk : Nat} {org : State} (s0 : State) (n st ph : Nat) (hm : sub 0x200000000000000000000000000000000000000000000000000000000000000000000004000000000000000000000000000000000000000000000000000000000000 msk) (hz : Within msk org s0) : Within msk org (State.vTo s0 n st ph) := by
  unfold State.vTo
  repeat' with_reducible (first | assumption | intro _ | exact partOk_refl _ _ _ | apply State.setValve_touch | apply Run.st_touch | apply State.setFld_touch | apply within_ite | apply within_ite_fst | apply rows_ite | apply rows_if | apply within_foldl | apply within_foldl_fst | split | (dsimp only; split) | apply within_mk)
  all_goals try with_reducible (first | refine in_VCH_STATE_PHASE ?_ _ | refine in_VCH_STATE_STATE ?_ _)
  all_goals first | exact sub_le (by decide) hm | exact partOk_bit (sub_bit hm (by decide)) | exact sub_bit hm (by decide) | exact in_VCH_STATE_PHASE (sub_bit hm (by decide)) _ | exact in_VCH_STATE_STATE (sub_bit hm (by decide)) _ | exact .inr rfl

theorem State.cutWins_touch {msk : Nat} {org : State} (s : State) (n : Nat) (t : Time) (hm : sub 0x200000000000000000000000000000000000000000000000000000000000000000000000000000000000000000000000000000000000000000000000000000000000 msk) (hz : Within msk org s) : Within msk org (State.cutWins s n t) := by
  unfold State.cutWins
  repeat' with_reducible (first | assumption | intro _ | exact partOk_refl _ _ _ | apply State.setValve_touch | apply within_ite | apply within_ite_fst | apply rows_ite | apply rows_if | apply within_foldl | apply within_foldl_fst | split | (dsimp only; split) | apply within_mk)
  all_goals first | exact sub_le (by decide) hm | exact partOk_bit (sub_bit hm (by decide)) | exact sub_bit hm (by decide) | exact .inr rfl

theorem State.spoilWins_touch {msk : Nat} {org : State} (s : State) (n : Nat) (hm : sub 0x200000000000000000000000000000000000000000000000000000000000000000000000000000000000000000000000000000000000000000000000000000000000 msk) (hz : Within msk org s) : Within msk org (State.spoilWins s n) := by
  unfold State.spoilWins
  repeat' with_reducible (first | assumption | intro _ | exact partOk_refl _ _ _ | apply State.setValve_touch | apply within_ite | apply within_ite_fst | apply rows_ite | apply rows_if | apply within_foldl | apply within_foldl_fst | split | (dsimp only; split) | apply within_mk)
  all_goals first | exact sub_le (by decide) hm | exact partOk_bit (sub_bit hm (by decide)) | exact sub_bit hm (by decide) | exact .inr rfl

theorem State.vOpen_touch {msk : Nat} {org : State} (s : State) (n : Nat) (hm : sub 0x200000000000000000000000000000000000000000000000000000000000000000000004000000000000000000000000000000000000000000000000000000000000 msk) (hz : Within msk org s) : Within msk org (State.vOpen s n) := by
  unfold State.vOpen
  repeat' with_reducible (first | assumption | intro _ | exact partOk_refl _ _ _ | apply State.vTo_touch | apply within_ite | apply within_ite_fst | apply rows_ite | apply rows_if | apply within_foldl | apply within_foldl_fst | split | (dsimp only; split) | apply within_mk)
  all_goals first | exact sub_le (by decide) hm | exact partOk_bit (sub_bit hm (by decide)) | exact sub_bit hm (by decide) | exact .inr rfl

theorem State.vClose_touch {msk : Nat} {org : State} (s : State) (n after : Nat) (hm : sub 0x200000000000000000000000000000000000000000000000000000000000000000000004000000000000000000000000000000000000000000000000000000000000 msk) (hz : Within msk org s) : Within msk org (State.vClose s n after) := by
  unfold State.vClose
  repeat' with_reducible (first | assumption | intro _ | exact partOk_refl _ _ _ | apply Run.st_touch | apply State.setValve_touch | apply State.vTo_touch | apply within_ite | apply within_ite_fst | apply rows_ite | apply rows_if | apply within_foldl | apply within_foldl_fst | split | (dsimp only; split) | apply within_mk)
  all_goals first | exact sub_le (by decide) hm | exact partOk_bit (sub_bit hm (by decide)) | exact sub_bit hm (by decide) | exact .inr rfl

theorem State.vFail_touch {msk : Nat} {org : State} (s : State) (n : Nat) (bits : Nat) (latched : Bool) (hm : sub 0x24000000000000000000001080000000000000000000000000000000000000000000000c000000200000000000000000000000000000000000000000000000000000 msk) (hz : Within msk org s) : Within msk org (State.vFail s n bits latched) := by
  unfold State.vFail
  repeat' with_reducible (first | assumption | intro _ | exact partOk_refl _ _ _ | apply State.setReg_touch | apply State.raise_touch | apply State.cutWins_touch | apply State.spoilWins_touch | apply State.setValve_touch | apply State.vClose_touch | apply within_ite | apply within_ite_fst | apply rows_ite | apply rows_if | apply within_foldl | apply within_foldl_fst | split | (dsimp only; split) | apply within_mk)
  all_goals try with_reducible (first | refine in_VD_EVENT_CH_FAULT ?_ | refine has_VCH_FAULT ?_ _)
  all_goals first | exact sub_le (by decide) hm | exact partOk_bit (sub_bit hm (by decide)) | exact sub_bit hm (by decide) | exact in_VD_EVENT_CH_FAULT (sub_bit hm (by decide)) | exact has_VCH_FAULT (sub_bit hm (by decide)) _ | exact .inr rfl

theorem State.prefluxStop_touch {msk : Nat} {org : State} (s : State) (entry : Nat) (hm : sub 0x200000000000000000000000000000000000000000000000000000000000000000000004000000000000000000000000000000000000000000000000000000000000 msk) (hz : Within msk org s) : Within msk org (State.prefluxStop s entry) := by
  unfold State.prefluxStop
  repeat' with_reducible (first | assumption | intro _ | exact partOk_refl _ _ _ | apply State.vClose_touch | apply within_ite | apply within_ite_fst | apply rows_ite | apply rows_if | apply within_foldl | apply within_foldl_fst | split | (dsimp only; split) | apply within_mk)
  all_goals first | exact sub_le (by decide) hm | exact partOk_bit (sub_bit hm (by decide)) | exact sub_bit hm (by decide) | exact .inr rfl

theorem State.decayed_touch {msk : Nat} {org : State} (s : State) (n : Nat) (hm : sub 0x200000000000000000000000000000000000000000000000000000000000000000000004000000000000000000000000000000000000000000000000000000000000 msk) (hz : Within msk org s) : Within msk org (State.decayed s n) := by
  unfold State.decayed
  repeat' with_reducible (first | assumption | intro _ | exact partOk_refl _ _ _ | apply State.vTo_touch | apply within_ite | apply within_ite_fst | apply rows_ite | apply rows_if | apply within_foldl | apply within_foldl_fst | split | (dsimp only; split) | apply within_mk)
  all_goals first | exact sub_le (by decide) hm | exact partOk_bit (sub_bit hm (by decide)) | exact sub_bit hm (by decide) | exact .inr rfl

theorem State.phaseEnd_touch {msk : Nat} {org : State} (s : State) (n : Nat) (peak now : Int) (hm : sub 0x24000000000000000000001080000000000000000000000000000000000000000000000c000000200000000000000000000000000000000000000000000000000000 msk) (hz : Within msk org s) : Within msk org (State.phaseEnd s n peak now) := by
  unfold State.phaseEnd
  repeat' with_reducible (first | assumption | intro _ | exact partOk_refl _ _ _ | apply Run.st_touch | apply State.decayed_touch | apply State.setValve_touch | apply State.vFail_touch | apply State.vTo_touch | apply within_ite | apply within_ite_fst | apply rows_ite | apply rows_if | apply within_foldl | apply within_foldl_fst | split | (dsimp only; split) | apply within_mk)
  all_goals first | exact sub_le (by decide) hm | exact partOk_bit (sub_bit hm (by decide)) | exact sub_bit hm (by decide) | exact .inr rfl

theorem State.overCurrent_touch {msk : Nat} {org : State} (s : State) (n : Nat) (hm : sub 0x24000000000000000000001080000000000000000000000000000000000000000000000c000000200000000000000000000000000000000000000000000000000000 msk) (hz : Within msk org s) : Within msk org (State.overCurrent s n) := by
  unfold State.overCurrent
  repeat' with_reducible (first | assumption | intro _ | exact partOk_refl _ _ _ | apply State.vFail_touch | apply within_ite | apply within_ite_fst | apply rows_ite | apply rows_if | apply within_foldl | apply within_foldl_fst | split | (dsimp only; split) | apply within_mk)
  all_goals first | exact sub_le (by decide) hm | exact partOk_bit (sub_bit hm (by decide)) | exact sub_bit hm (by decide) | exact .inr rfl

theorem State.setUnit_touch {msk : Nat} {org : State} (s : State) (u : Nat) (x : UnitState) (hm : sub 0x200000000000000000000000000000000000000000000000000000000000000000000000000000000000000000000000000000000000000000000000000000000000 msk) (hz : Within msk org s) : Within msk org (State.setUnit s u x) := by
  unfold State.setUnit
  repeat' with_reducible (first | assumption | intro _ | exact partOk_refl _ _ _ | apply within_ite | apply within_ite_fst | apply rows_ite | apply rows_if | apply within_foldl | apply within_foldl_fst | split | (dsimp only; split) | apply within_mk)
  all_goals first | exact sub_le (by decide) hm | exact partOk_bit (sub_bit hm (by decide)) | exact sub_bit hm (by decide) | exact .inr rfl

theorem State.beginPulse_touch {msk : Nat} {org : State} (s : State) (n : Nat) (t : Time) (hm : sub 0x200000000000000000000000000000000000000000000000000000000000000000000000000000000000000000000000000000000000000000000000000000000000 msk) (hz : Within msk org s) : Within msk org (State.beginPulse s n t) := by
  unfold State.beginPulse
  repeat' with_reducible (first | assumption | intro _ | exact partOk_refl _ _ _ | apply State.setValve_touch | apply within_ite | apply within_ite_fst | apply rows_ite | apply rows_if | apply within_foldl | apply within_foldl_fst | split | (dsimp only; split) | apply within_mk)
  all_goals first | exact sub_le (by decide) hm | exact partOk_bit (sub_bit hm (by decide)) | exact sub_bit hm (by decide) | exact .inr rfl

theorem State.loadDuty_touch {msk : Nat} {org : State} (s : State) (u d : Nat) (hm : sub 0x2000000000000000000000000000000000000000000000000000000000000000010a1000000000000000000000000000000000000000000000000000000000000000 msk) (hz : Within msk org s) : Within msk org (State.loadDuty s u d) := by
  unfold State.loadDuty
  repeat' with_reducible (first | assumption | intro _ | exact partOk_refl _ _ _ | apply State.setFld_touch | apply State.setBit_touch | apply State.setValve_touch | apply within_ite | apply within_ite_fst | apply rows_ite | apply rows_if | apply within_foldl | apply within_foldl_fst | split | (dsimp only; split) | apply within_mk)
  all_goals try with_reducible (first | refine in_uClamp ?_ ?_ _ | refine in_uActDuty ?_ ?_ _)
  all_goals first | exact sub_le (by decide) hm | exact partOk_bit (sub_bit hm (by decide)) | exact sub_bit hm (by decide) | exact in_uClamp (sub_bit hm (by decide)) (sub_bit hm (by decide)) _ | exact in_uActDuty (sub_bit hm (by decide)) (sub_bit hm (by decide)) _ | exact .inr rfl

theorem State.loadUnit_touch {msk : Nat} {org : State} (s : State) (u sp : Nat) (hm : sub 0x2000000000000000000000000000000000000000000000000000000000000000010a1000000000000000000000000000000000000000000000000000000000000000 msk) (hz : Within msk org s) : Within msk org (State.loadUnit s u sp).1 := by
  unfold State.loadUnit
  repeat' with_reducible (first | assumption | intro _ | exact partOk_refl _ _ _ | apply State.loadDuty_touch | apply State.setUnit_touch | apply State.setFld_touch | apply within_ite | apply within_ite_fst | apply rows_ite | apply rows_if | apply within_foldl | apply within_foldl_fst | split | (dsimp only; split) | apply within_mk)
  all_goals try with_reducible (first | refine in_uPending ?_ ?_ _)
  all_goals first | exact sub_le (by decide) hm | exact partOk_bit (sub_bit hm (by decide)) | exact sub_bit hm (by decide) | exact in_uPending (sub_bit hm (by decide)) (sub_bit hm (by decide)) _ | exact .inr rfl

theorem State.loadUnits_touch {msk : Nat} {org : State} (s : State) (us : List Nat) (sp : Nat) (err : Bool) (hm : sub 0x2400000000000000000000108000000000000000000000000000000000000000010a1000000000200000000000000000000000000000000000000000000000000000 msk) (hz : Within msk org s) : Within msk org (State.loadUnits s us sp err) := by
  unfold State.loadUnits
  repeat' with_reducible (first | assumption | intro _ | exact partOk_refl _ _ _ | apply State.loadUnit_touch | apply State.raiseIf_touch | apply within_ite | apply within_ite_fst | apply rows_ite | apply rows_if | apply within_foldl | apply within_foldl_fst | split | (dsimp only; split) | apply within_mk)
  all_goals try with_reducible (first | refine in_VD_EVENT_CFG_ERR ?_)
  all_goals first | exact sub_le (by decide) hm | exact partOk_bit (sub_bit hm (by decide)) | exact sub_bit hm (by decide) | exact in_VD_EVENT_CFG_ERR (sub_bit hm (by decide)) | exact .inr rfl

theorem State.loadAll_touch {msk : Nat} {org : State} (s : State) (sup : Bool) (k v : Nat) (hm : sub 0x2400000000000000000000108000000000000000000000000000000000000000010a1000000000200000000000000000000000000000000000000000000000000000 msk) (hz : Within msk org s) : Within msk org (State.loadAll s sup k v) := by
  unfold State.loadAll
  repeat' with_reducible (first | assumption | intro _ | exact partOk_refl _ _ _ | apply State.loadUnits_touch | apply within_ite | apply within_ite_fst | apply rows_ite | apply rows_if | apply within_foldl | apply within_foldl_fst | split | (dsimp only; split) | apply within_mk)
  all_goals first | exact sub_le (by decide) hm | exact partOk_bit (sub_bit hm (by decide)) | exact sub_bit hm (by decide) | exact .inr rfl

theorem State.loadAllAux_touch {msk : Nat} {org : State} (s : State) (sup : Bool) (v : Nat) (hm : sub 0x2400000000000000000000108000000000000000000000000000000000000000010a1000000000200000000000000000000000000000000000000000000000000000 msk) (hz : Within msk org s) : Within msk org (State.loadAllAux s sup v) := by
  unfold State.loadAllAux
  repeat' with_reducible (first | assumption | intro _ | exact partOk_refl _ _ _ | apply State.loadUnits_touch | apply State.raise_touch | apply within_ite | apply within_ite_fst | apply rows_ite | apply rows_if | apply within_foldl | apply within_foldl_fst | split | (dsimp only; split) | apply within_mk)
  all_goals try with_reducible (first | refine in_VD_EVENT_CFG_ERR ?_)
  all_goals first | exact sub_le (by decide) hm | exact partOk_bit (sub_bit hm (by decide)) | exact sub_bit hm (by decide) | exact in_VD_EVENT_CFG_ERR (sub_bit hm (by decide)) | exact .inr rfl

theorem State.superPeriod_touch {msk : Nat} {org : State} (s : State) (hm : sub 0x204000000000000000000000000000000000000000000000000000000000000002040000000000000000000000000000000000000000000000000000000000000000 msk) (hz : Within msk org s) : Within msk org (State.superPeriod s) := by
  unfold State.superPeriod
  repeat' with_reducible (first | assumption | intro _ | exact partOk_refl _ _ _ | apply State.setUnit_touch | apply State.setFld_touch | apply State.syncPulse_touch | apply within_ite | apply within_ite_fst | apply rows_ite | apply rows_if | apply within_foldl | apply within_foldl_fst | split | (dsimp only; split) | apply within_mk)
  all_goals try with_reducible (first | refine in_uActPeriod ?_ ?_ _)
  all_goals first | exact sub_le (by decide) hm | exact partOk_bit (sub_bit hm (by decide)) | exact sub_bit hm (by decide) | exact in_uActPeriod (sub_bit hm (by decide)) (sub_bit hm (by decide)) _ | exact .inr rfl

theorem State.senseTest_touch {msk : Nat} {org : State} (s : State) (n : Nat) (mv : Int) (hm : sub 0x240000000000000000000010800000000000000000000000000000000000000000000004000000200600000000000000000000000000000000000000000000000000 msk) (hz : Within msk org s) : Within msk org (State.senseTest s n mv) := by
  unfold State.senseTest
  repeat' with_reducible (first | assumption | intro _ | exact partOk_refl _ _ _ | apply State.setValve_touch | apply State.setBit_touch | apply State.setFld_touch | apply State.raise_touch | apply within_ite | apply within_ite_fst | apply rows_ite | apply rows_if | apply within_foldl | apply within_foldl_fst | split | (dsimp only; split) | apply within_mk)
  all_goals try with_reducible (first | refine in_OT_LRN_CLOSE_FROZEN ?_ _ | refine in_OT_LRN_OPEN_FROZEN ?_ _ | refine in_VD_EVENT_SENSE_OPEN ?_ | refine in_VCH_STATE_SENSE_OPEN ?_ _)
  all_goals first | exact sub_le (by decide) hm | exact partOk_bit (sub_bit hm (by decide)) | exact sub_bit hm (by decide) | exact in_OT_LRN_CLOSE_FROZEN (sub_bit hm (by decide)) _ | exact in_OT_LRN_OPEN_FROZEN (sub_bit hm (by decide)) _ | exact in_VD_EVENT_SENSE_OPEN (sub_bit hm (by decide)) | exact in_VCH_STATE_SENSE_OPEN (sub_bit hm (by decide)) _ | exact .inr rfl

theorem State.reachMark_touch {msk : Nat} {org : State} (s : State) (n : Nat) (samples : List Int) (hm : sub 0x200000000000000000000000000000000000000000000000000000000000000000000000000000000000000000000000000000000000000000000000000000000000 msk) (hz : Within msk org s) : Within msk org (State.reachMark s n samples) := by
  unfold State.reachMark
  repeat' with_reducible (first | assumption | intro _ | exact partOk_refl _ _ _ | apply Run.st_touch | apply State.setValve_touch | apply within_ite | apply within_ite_fst | apply rows_ite | apply rows_if | apply within_foldl | apply within_foldl_fst | split | (dsimp only; split) | apply within_mk)
  all_goals first | exact sub_le (by decide) hm | exact partOk_bit (sub_bit hm (by decide)) | exact sub_bit hm (by decide) | exact .inr rfl

theorem State.sampled_touch {msk : Nat} {org : State} (s : State) (n : Nat) (samples : List Int) (mv : Int) (hm : sub 0x60000000000000000000000000000000000000000000000000000000000000 msk) (hz : Within msk org s) : Within msk org (State.sampled s n samples mv) := by
  unfold State.sampled
  repeat' with_reducible (first | assumption | intro _ | exact partOk_refl _ _ _ | apply State.setSfld_touch | apply within_ite | apply within_ite_fst | apply rows_ite | apply rows_if | apply within_foldl | apply within_foldl_fst | split | (dsimp only; split) | apply within_mk)
  all_goals try with_reducible (first | refine in_VCH_IMEAS_I ?_ _ | refine in_VCH_VMEAS_V ?_ _)
  all_goals first | exact sub_le (by decide) hm | exact partOk_bit (sub_bit hm (by decide)) | exact sub_bit hm (by decide) | exact in_VCH_IMEAS_I (sub_bit hm (by decide)) _ | exact in_VCH_VMEAS_V (sub_bit hm (by decide)) _ | exact .inr rfl

theorem State.heated_touch {msk : Nat} {org : State} (s : State) (n : Nat) (samples : List Int) (hm : sub 0x200000000000000000000000000000000000000000000000000000000000000000000000000000000000000000000000000000000000000000000000000000000000 msk) (hz : Within msk org s) : Within msk org (State.heated s n samples).1 := by
  unfold State.heated
  repeat' with_reducible (first | assumption | intro _ | exact partOk_refl _ _ _ | apply State.setValve_touch | apply within_ite | apply within_ite_fst | apply rows_ite | apply rows_if | apply within_foldl | apply within_foldl_fst | split | (dsimp only; split) | apply within_mk)
  all_goals first | exact sub_le (by decide) hm | exact partOk_bit (sub_bit hm (by decide)) | exact sub_bit hm (by decide) | exact .inr rfl

theorem State.dutyWindow_touch {msk : Nat} {org : State} (s : State) (n : Nat) (samples : List Int) (mv : Int) (hm : sub 0x2400000000000000000000108000000000000000000000000000000000000000000000ec000000200000000000000000000000000000000000000000000000000000 msk) (hz : Within msk org s) : Within msk org (State.dutyWindow s n samples mv) := by
  unfold State.dutyWindow
  repeat' with_reducible (first | assumption | intro _ | exact partOk_refl _ _ _ | apply State.setValve_touch | apply State.reachMark_touch | apply State.sampled_touch | apply State.heated_touch | apply Run.lim_touch | apply State.setFld_touch | apply State.raiseIf_touch | apply State.vClose_touch | apply State.vFail_touch | apply State.vTo_touch | apply within_ite | apply within_ite_fst | apply rows_ite | apply rows_if | apply within_foldl | apply within_foldl_fst | split | (dsimp only; split) | apply within_mk)
  all_goals try with_reducible (first | refine in_VCH_HEAT_RATIO ?_ _ | refine in_VCH_STATE_DERATE ?_ _ | refine in_VD_EVENT_DUTY_HOLD ?_)
  all_goals first | exact sub_le (by decide) hm | exact partOk_bit (sub_bit hm (by decide)) | exact sub_bit hm (by decide) | exact in_VCH_HEAT_RATIO (sub_bit hm (by decide)) _ | exact in_VCH_STATE_DERATE (sub_bit hm (by decide)) _ | exact in_VD_EVENT_DUTY_HOLD (sub_bit hm (by decide)) | exact .inr rfl

theorem State.unlatch_touch {msk : Nat} {org : State} (s : State) (n : Nat) (hm : sub 0x200000000000000000000000000000000000000000000000000000000000000000000004000000000000000000000000000000000000000000000000000000000000 msk) (hz : Within msk org s) : Within msk org (State.unlatch s n) := by
  unfold State.unlatch
  repeat' with_reducible (first | assumption | intro _ | exact partOk_refl _ _ _ | apply State.setValve_touch | apply State.vTo_touch | apply within_ite | apply within_ite_fst | apply rows_ite | apply rows_if | apply within_foldl | apply within_foldl_fst | split | (dsimp only; split) | apply within_mk)
  all_goals first | exact sub_le (by decide) hm | exact partOk_bit (sub_bit hm (by decide)) | exact sub_bit hm (by decide) | exact .inr rfl

theorem State.tripSettle_touch {msk : Nat} {org : State} (s : State) (hm : sub 0x200000000000000000000000000000000000000000000000000000000000000000000000000000000000000000000000000000000000000000000000000000000000 msk) (hz : Within msk org s) : Within msk org (State.tripSettle s) := by
  unfold State.tripSettle
  repeat' with_reducible (first | assumption | intro _ | exact partOk_refl _ _ _ | apply State.cutWins_touch | apply State.setValve_touch | apply within_ite | apply within_ite_fst | apply rows_ite | apply rows_if | apply within_foldl | apply within_foldl_fst | split | (dsimp only; split) | apply within_mk)
  all_goals first | exact sub_le (by decide) hm | exact partOk_bit (sub_bit hm (by decide)) | exact sub_bit hm (by decide) | exact .inr rfl

theorem State.tripFail_touch {msk : Nat} {org : State} (s : State) (n : Nat) (hm : sub 0x24000000000000000000001080000000000000000000000000000000000000000000000c000000200000000000000000000000000000000000000000000000000000 msk) (hz : Within msk org s) : Within msk org (State.tripFail s n) := by
  unfold State.tripFail
  repeat' with_reducible (first | assumption | intro _ | exact partOk_refl _ _ _ | apply State.vFail_touch | apply State.setValve_touch | apply within_ite | apply within_ite_fst | apply rows_ite | apply rows_if | apply within_foldl | apply within_foldl_fst | split | (dsimp only; split) | apply within_mk)
  all_goals first | exact sub_le (by decide) hm | exact partOk_bit (sub_bit hm (by decide)) | exact sub_bit hm (by decide) | exact .inr rfl

theorem State.tripAct_touch {msk : Nat} {org : State} (s : State) (t : Nat) (cs : List Nat) (hm : sub 0x24000000000000000000001080000000000000000000000000000000000000000000000c000200200000000000000000000000000000000000000000000000000000 msk) (hz : Within msk org s) : Within msk org (State.tripAct s t cs) := by
  unfold State.tripAct
  repeat' with_reducible (first | assumption | intro _ | exact partOk_refl _ _ _ | apply State.tripFail_touch | apply State.setFld_touch | apply State.tripSettle_touch | apply within_ite | apply within_ite_fst | apply rows_ite | apply rows_if | apply within_foldl | apply within_foldl_fst | split | (dsimp only; split) | apply within_mk)
  all_goals try with_reducible (first | refine in_TRIP_CFG_TRIPPED ?_ _)
  all_goals first | exact sub_le (by decide) hm | exact partOk_bit (sub_bit hm (by decide)) | exact sub_bit hm (by decide) | exact in_TRIP_CFG_TRIPPED (sub_bit hm (by decide)) _ | exact .inr rfl

theorem State.tripOn_touch {msk : Nat} {org : State} (s : State) (t : Nat) (hm : sub 0x24000000000000000000001080000000000000000000000000000000000000000000000c000200200000000000000000000000000000000000000000000000000000 msk) (hz : Within msk org s) : Within msk org (State.tripOn s t) := by
  unfold State.tripOn
  repeat' with_reducible (first | assumption | intro _ | exact partOk_refl _ _ _ | apply State.raise_touch | apply State.tripAct_touch | apply within_ite | apply within_ite_fst | apply rows_ite | apply rows_if | apply within_foldl | apply within_foldl_fst | split | (dsimp only; split) | apply within_mk)
  all_goals try with_reducible (first | refine in_VD_EVENT_TRIP ?_)
  all_goals first | exact sub_le (by decide) hm | exact partOk_bit (sub_bit hm (by decide)) | exact sub_bit hm (by decide) | exact in_VD_EVENT_TRIP (sub_bit hm (by decide)) | exact .inr rfl

theorem State.tripAssert_touch {msk : Nat} {org : State} (s : State) (t held : Nat) (hm : sub 0x24000000000000000000001080000000000000000000000000000000000000000000000c000200200000000000000000000000000000000000000000000000000000 msk) (hz : Within msk org s) : Within msk org (State.tripAssert s t held) := by
  unfold State.tripAssert
  repeat' with_reducible (first | assumption | intro _ | exact partOk_refl _ _ _ | apply State.tripOn_touch | apply within_ite | apply within_ite_fst | apply rows_ite | apply rows_if | apply within_foldl | apply within_foldl_fst | split | (dsimp only; split) | apply within_mk)
  all_goals first | exact sub_le (by decide) hm | exact partOk_bit (sub_bit hm (by decide)) | exact sub_bit hm (by decide) | exact .inr rfl

theorem State.tripDeassert_touch {msk : Nat} {org : State} (s : State) (t : Nat) (hm : sub 0x200000000000000000000000000000000000000000000000000000000000000000000000000000000000000000000000000000000000000000000000000000000000 msk) (hz : Within msk org s) : Within msk org (State.tripDeassert s t) := by
  unfold State.tripDeassert
  repeat' with_reducible (first | assumption | intro _ | exact partOk_refl _ _ _ | apply State.tripSettle_touch | apply within_ite | apply within_ite_fst | apply rows_ite | apply rows_if | apply within_foldl | apply within_foldl_fst | split | (dsimp only; split) | apply within_mk)
  all_goals first | exact sub_le (by decide) hm | exact partOk_bit (sub_bit hm (by decide)) | exact sub_bit hm (by decide) | exact .inr rfl

theorem State.tripCfg_touch {msk : Nat} {org : State} (s : State) (t a v : Nat) (hm : sub 0x24000000000000000000001080000000000000000000000000000000000000000000000c000200200000000000000000000000000000000000000000000000000000 msk) (ha : RowsHave msk a) (hz : Within msk org s) : Within msk org (State.tripCfg s t a v) := by
  unfold State.tripCfg
  repeat' with_reducible (first | assumption | intro _ | exact partOk_refl _ _ _ | apply State.writeCodes_touch | apply State.tripOn_touch | apply State.tripSettle_touch | apply within_ite | apply within_ite_fst | apply rows_ite | apply rows_if | apply within_foldl | apply within_foldl_fst | split | (dsimp only; split) | apply within_mk)
  all_goals first | exact sub_le (by decide) hm | exact partOk_bit (sub_bit hm (by decide)) | exact sub_bit hm (by decide) | exact .inr rfl

theorem State.tripMask_touch {msk : Nat} {org : State} (s : State) (t k a v : Nat) (hm : sub 0x24000000000000000000001080000000000000000000000000000000000000000000000c000200200000000000000000000000000000000000000000000000000000 msk) (ha : RowsHave msk a) (hz : Within msk org s) : Within msk org (State.tripMask s t k a v) := by
  unfold State.tripMask
  repeat' with_reducible (first | assumption | intro _ | exact partOk_refl _ _ _ | apply State.writeCodes_touch | apply State.tripAct_touch | apply within_ite | apply within_ite_fst | apply rows_ite | apply rows_if | apply within_foldl | apply within_foldl_fst | split | (dsimp only; split) | apply within_mk)
  all_goals first | exact sub_le (by decide) hm | exact partOk_bit (sub_bit hm (by decide)) | exact sub_bit hm (by decide) | exact .inr rfl

theorem State.tripClear_touch {msk : Nat} {org : State} (s : State) (t : Nat) (hm : sub 0x200000000000000000000000000000000000000000000000000000000 msk) (hz : Within msk org s) : Within msk org (State.tripClear s t) := by
  unfold State.tripClear
  repeat' with_reducible (first | assumption | intro _ | exact partOk_refl _ _ _ | apply State.setFld_touch | apply within_ite | apply within_ite_fst | apply rows_ite | apply rows_if | apply within_foldl | apply within_foldl_fst | split | (dsimp only; split) | apply within_mk)
  all_goals try with_reducible (first | refine in_TRIP_CFG_TRIPPED ?_ _)
  all_goals first | exact sub_le (by decide) hm | exact partOk_bit (sub_bit hm (by decide)) | exact sub_bit hm (by decide) | exact in_TRIP_CFG_TRIPPED (sub_bit hm (by decide)) _ | exact .inr rfl

theorem State.gateComp_touch {msk : Nat} {org : State} (s : State) (die lambda : Nat) (hm : sub 0x400000000000000000000000000000000000000000000000000000 msk) (hz : Within msk org s) : Within msk org (State.gateComp s die lambda) := by
  unfold State.gateComp
  repeat' with_reducible (first | assumption | intro _ | exact partOk_refl _ _ _ | apply State.setFld_touch | apply within_ite | apply within_ite_fst | apply rows_ite | apply rows_if | apply within_foldl | apply within_foldl_fst | split | (dsimp only; split) | apply within_mk)
  all_goals try with_reducible (first | refine in_VD_GATECOMP_LAT_A ?_ | refine in_VD_GATECOMP_LAT_B ?_)
  all_goals first | exact sub_le (by decide) hm | exact partOk_bit (sub_bit hm (by decide)) | exact sub_bit hm (by decide) | exact in_VD_GATECOMP_LAT_A (sub_bit hm (by decide)) | exact in_VD_GATECOMP_LAT_B (sub_bit hm (by decide)) | exact .inr rfl

theorem State.rampFrom_touch {msk : Nat} {org : State} (s : State) (b meas : Nat) (hm : sub 0x1c0000000000000000000000000000000000000000000000000000000 msk) (hz : Within msk org s) : Within msk org (State.rampFrom s b meas) := by
  unfold State.rampFrom
  repeat' with_reducible (first | assumption | intro _ | exact partOk_refl _ _ _ | apply State.setFld_touch | apply State.setBit_touch | apply within_ite | apply within_ite_fst | apply rows_ite | apply rows_if | apply within_foldl | apply within_foldl_fst | split | (dsimp only; split) | apply within_mk)
  all_goals try with_reducible (first | refine in_BST_REF_REF ?_ _ | refine in_BST_MEAS_MEAS ?_ _ | refine in_BST_STAT_SLEWING ?_ _)
  all_goals first | exact sub_le (by decide) hm | exact partOk_bit (sub_bit hm (by decide)) | exact sub_bit hm (by decide) | exact in_BST_REF_REF (sub_bit hm (by decide)) _ | exact in_BST_MEAS_MEAS (sub_bit hm (by decide)) _ | exact in_BST_STAT_SLEWING (sub_bit hm (by decide)) _ | exact .inr rfl

theorem State.bstSet_touch {msk : Nat} {org : State} (s : State) (b v meas : Nat) (hm : sub 0x400000000000000000000108000000000000000000000000000000000000000000000000001d0200000000000000000000000000000000000000000000000000000 msk) (hz : Within msk org s) : Within msk org (State.bstSet s b v meas) := by
  unfold State.bstSet
  repeat' with_reducible (first | assumption | intro _ | exact partOk_refl _ _ _ | apply State.raise_touch | apply State.setFld_touch | apply State.rampFrom_touch | apply within_ite | apply within_ite_fst | apply rows_ite | apply rows_if | apply within_foldl | apply within_foldl_fst | split | (dsimp only; split) | apply within_mk)
  all_goals try with_reducible (first | refine in_VD_EVENT_CFG_ERR ?_ | refine in_BST_SET_SET ?_ _)
  all_goals first | exact sub_le (by decide) hm | exact partOk_bit (sub_bit hm (by decide)) | exact sub_bit hm (by decide) | exact in_VD_EVENT_CFG_ERR (sub_bit hm (by decide)) | exact in_BST_SET_SET (sub_bit hm (by decide)) _ | exact .inr rfl

theorem State.bstEn_touch {msk : Nat} {org : State} (s : State) (b v meas : Nat) (hm : sub 0x1c8000000000000000000000000000000000000000000000000000000 msk) (hz : Within msk org s) : Within msk org (State.bstEn s b v meas) := by
  unfold State.bstEn
  repeat' with_reducible (first | assumption | intro _ | exact partOk_refl _ _ _ | apply State.setFld_touch | apply State.setBit_touch | apply State.rampFrom_touch | apply within_ite | apply within_ite_fst | apply rows_ite | apply rows_if | apply within_foldl | apply within_foldl_fst | split | (dsimp only; split) | apply within_mk)
  all_goals try with_reducible (first | refine in_BST_STAT_BST_OFF ?_ _ | refine in_BST_CTRL_BST_EN ?_ _ | refine in_BST_STAT_LOW ?_ _ | refine in_BST_STAT_SLEWING ?_ _)
  all_goals first | exact sub_le (by decide) hm | exact partOk_bit (sub_bit hm (by decide)) | exact sub_bit hm (by decide) | exact in_BST_STAT_BST_OFF (sub_bit hm (by decide)) _ | exact in_BST_CTRL_BST_EN (sub_bit hm (by decide)) _ | exact in_BST_STAT_LOW (sub_bit hm (by decide)) _ | exact in_BST_STAT_SLEWING (sub_bit hm (by decide)) _ | exact .inr rfl

theorem State.bstStep_touch {msk : Nat} {org : State} (s : State) (b meas : Nat) (hm : sub 0x1c0000000000000000000000000000000000000000000000000000000 msk) (hz : Within msk org s) : Within msk org (State.bstStep s b meas) := by
  unfold State.bstStep
  repeat' with_reducible (first | assumption | intro _ | exact partOk_refl _ _ _ | apply State.setFld_touch | apply Run.st_touch | apply State.setBit_touch | apply within_ite | apply within_ite_fst | apply rows_ite | apply rows_if | apply within_foldl | apply within_foldl_fst | split | (dsimp only; split) | apply within_mk)
  all_goals try with_reducible (first | refine in_BST_MEAS_MEAS ?_ _ | refine in_BST_STAT_LOW ?_ _ | refine in_BST_STAT_SLEWING ?_ _ | refine in_BST_REF_REF ?_ _)
  all_goals first | exact sub_le (by decide) hm | exact partOk_bit (sub_bit hm (by decide)) | exact sub_bit hm (by decide) | exact in_BST_MEAS_MEAS (sub_bit hm (by decide)) _ | exact in_BST_STAT_LOW (sub_bit hm (by decide)) _ | exact in_BST_STAT_SLEWING (sub_bit hm (by decide)) _ | exact in_BST_REF_REF (sub_bit hm (by decide)) _ | exact .inr rfl

theorem State.bstOv_touch {msk : Nat} {org : State} (s : State) (b : Nat) (hm : sub 0x40000000000000000000010800000000000000000000000000000000000000000000000000100200000000000000000000000000000000000000000000000000000 msk) (hz : Within msk org s) : Within msk org (State.bstOv s b) := by
  unfold State.bstOv
  repeat' with_reducible (first | assumption | intro _ | exact partOk_refl _ _ _ | apply State.setFld_touch | apply State.raise_touch | apply within_ite | apply within_ite_fst | apply rows_ite | apply rows_if | apply within_foldl | apply within_foldl_fst | split | (dsimp only; split) | apply within_mk)
  all_goals try with_reducible (first | refine in_VD_EVENT_BST_OV ?_ | refine in_BST_STAT_OV ?_ _)
  all_goals first | exact sub_le (by decide) hm | exact partOk_bit (sub_bit hm (by decide)) | exact sub_bit hm (by decide) | exact in_VD_EVENT_BST_OV (sub_bit hm (by decide)) | exact in_BST_STAT_OV (sub_bit hm (by decide)) _ | exact .inr rfl

theorem State.bstOvEnd_touch {msk : Nat} {org : State} (s : State) (b : Nat) (hm : sub 0x100000000000000000000000000000000000000000000000000000000 msk) (hz : Within msk org s) : Within msk org (State.bstOvEnd s b) := by
  unfold State.bstOvEnd
  repeat' with_reducible (first | assumption | intro _ | exact partOk_refl _ _ _ | apply State.setFld_touch | apply within_ite | apply within_ite_fst | apply rows_ite | apply rows_if | apply within_foldl | apply within_foldl_fst | split | (dsimp only; split) | apply within_mk)
  all_goals try with_reducible (first | refine in_BST_STAT_OV ?_ _)
  all_goals first | exact sub_le (by decide) hm | exact partOk_bit (sub_bit hm (by decide)) | exact sub_bit hm (by decide) | exact in_BST_STAT_OV (sub_bit hm (by decide)) _ | exact .inr rfl

theorem State.bstLow_touch {msk : Nat} {org : State} (s : State) (b : Nat) (hm : sub 0x40000000000000000000010800000000000000000000000000000000000000000000000000100200000000000000000000000000000000000000000000000000000 msk) (hz : Within msk org s) : Within msk org (State.bstLow s b) := by
  unfold State.bstLow
  repeat' with_reducible (first | assumption | intro _ | exact partOk_refl _ _ _ | apply State.setFld_touch | apply State.raise_touch | apply within_ite | apply within_ite_fst | apply rows_ite | apply rows_if | apply within_foldl | apply within_foldl_fst | split | (dsimp only; split) | apply within_mk)
  all_goals try with_reducible (first | refine in_VD_EVENT_BST_LOW ?_ | refine in_BST_STAT_LOW ?_ _)
  all_goals first | exact sub_le (by decide) hm | exact partOk_bit (sub_bit hm (by decide)) | exact sub_bit hm (by decide) | exact in_VD_EVENT_BST_LOW (sub_bit hm (by decide)) | exact in_BST_STAT_LOW (sub_bit hm (by decide)) _ | exact .inr rfl

theorem State.vSafe_touch {msk : Nat} {org : State} (s : State) (n : Nat) (hm : sub 0x200000000000000000000000000000000000000000000000000000000000000000000004000000000000000000000000000000000000000000000000000000000000 msk) (hz : Within msk org s) : Within msk org (State.vSafe s n) := by
  unfold State.vSafe
  repeat' with_reducible (first | assumption | intro _ | exact partOk_refl _ _ _ | apply Run.st_touch | apply State.cutWins_touch | apply State.vOpen_touch | apply State.setValve_touch | apply State.vClose_touch | apply within_ite | apply within_ite_fst | apply rows_ite | apply rows_if | apply within_foldl | apply within_foldl_fst | split | (dsimp only; split) | apply within_mk)
  all_goals first | exact sub_le (by decide) hm | exact partOk_bit (sub_bit hm (by decide)) | exact sub_bit hm (by decide) | exact .inr rfl

theorem State.valvesSafe_touch {msk : Nat} {org : State} (s : State) (hm : sub 0x200000000000000000000000000000000000000000000000000000000000000000000004000000000000000000000000000000000000000000000000000000000000 msk) (hz : Within msk org s) : Within msk org (State.valvesSafe s) := by
  unfold State.valvesSafe
  repeat' with_reducible (first | assumption | intro _ | exact partOk_refl _ _ _ | apply State.vSafe_touch | apply within_ite | apply within_ite_fst | apply rows_ite | apply rows_if | apply within_foldl | apply within_foldl_fst | split | (dsimp only; split) | apply within_mk)
  all_goals first | exact sub_le (by decide) hm | exact partOk_bit (sub_bit hm (by decide)) | exact sub_bit hm (by decide) | exact .inr rfl

theorem State.valvesStop_touch {msk : Nat} {org : State} (s : State) (hm : sub 0x200000000000000000000000000000000000000000000000000000000000000000000004000000000000000000000000000000000000000000000000000000000000 msk) (hz : Within msk org s) : Within msk org (State.valvesStop s) := by
  unfold State.valvesStop
  repeat' with_reducible (first | assumption | intro _ | exact partOk_refl _ _ _ | apply Run.st_touch | apply State.cutWins_touch | apply State.spoilWins_touch | apply State.vClose_touch | apply State.setValve_touch | apply within_ite | apply within_ite_fst | apply rows_ite | apply rows_if | apply within_foldl | apply within_foldl_fst | split | (dsimp only; split) | apply within_mk)
  all_goals first | exact sub_le (by decide) hm | exact partOk_bit (sub_bit hm (by decide)) | exact sub_bit hm (by decide) | exact .inr rfl

theorem State.valvesRelease_touch {msk : Nat} {org : State} (s : State) (hm : sub 0x200000000000000000000000000000000000000000000000000000000000000000000004000000000000000000000000000000000000000000000000000000000000 msk) (hz : Within msk org s) : Within msk org (State.valvesRelease s) := by
  unfold State.valvesRelease
  repeat' with_reducible (first | assumption | intro _ | exact partOk_refl _ _ _ | apply State.vClose_touch | apply State.setValve_touch | apply within_ite | apply within_ite_fst | apply rows_ite | apply rows_if | apply within_foldl | apply within_foldl_fst | split | (dsimp only; split) | apply within_mk)
  all_goals first | exact sub_le (by decide) hm | exact partOk_bit (sub_bit hm (by decide)) | exact sub_bit hm (by decide) | exact .inr rfl

theorem State.driveUnpowered_touch {msk : Nat} {org : State} (s : State) (hm : sub 0x200000000000000000000000000000000000000000000000000000000000000003fffffffffffff80000000000000000000000000000000000000000000000000000 msk) (hz : Within msk org s) : Within msk org (State.driveUnpowered s) := by
  unfold State.driveUnpowered
  have h1 : Within msk org ({ s with regs := s.regs.filter (fun e => !(inRange 0x520000 0x530000 e.1)), vd := { stopLow := s.vd.stopLow } } : State) := by
    refine within_forget hz (fun a ha hd => has_defined hm hd ?_) rfl rfl (fun p hp => ?_)
    · have : rowsAt a = rowsAt 0x520000 := by
        simp only [inRange, Bool.and_eq_true, decide_eq_true_eq] at ha
        unfold rowsAt
        simp (disch := omega) only [if_neg, if_pos]
      rw [this]
      decide +kernel
    · cases p <;> first | exact rfl | exact absurd (sub_bit (k := 525) hm (by decide)) (by rw [show msk.testBit 525 = false from hp]; decide)
  exact h1

theorem State.driveAlone_touch {msk : Nat} {org : State} (s : State) (d : Nat) (hm : sub 0x200000000000000000000000000000000000000000000000000000000000000000000004000000100000000000000000000000000000000000000000000000000000 msk) (hz : Within msk org s) : Within msk org (State.driveAlone s d) := by
  unfold State.driveAlone
  repeat' with_reducible (first | assumption | intro _ | exact partOk_refl _ _ _ | apply State.setFld_touch | apply State.vSafe_touch | apply within_ite | apply within_ite_fst | apply rows_ite | apply rows_if | apply within_foldl | apply within_foldl_fst | split | (dsimp only; split) | apply within_mk)
  all_goals try with_reducible (first | refine in_VD_STATUS_DIEA_LINK ?_ | refine in_VD_STATUS_DIEB_LINK ?_)
  all_goals first | exact sub_le (by decide) hm | exact partOk_bit (sub_bit hm (by decide)) | exact sub_bit hm (by decide) | exact in_VD_STATUS_DIEA_LINK (sub_bit hm (by decide)) | exact in_VD_STATUS_DIEB_LINK (sub_bit hm (by decide)) | exact .inr rfl

theorem State.driveDieLost_touch {msk : Nat} {org : State} (s : State) (d : Nat) (hm : sub 0x24000000000000000000001080000000000000000000000000000000000000000000000c000000300000000000000000000000000000000000000000000000000000 msk) (hz : Within msk org s) : Within msk org (State.driveDieLost s d) := by
  unfold State.driveDieLost
  repeat' with_reducible (first | assumption | intro _ | exact partOk_refl _ _ _ | apply State.setFld_touch | apply State.raise_touch | apply State.vSafe_touch | apply within_ite | apply within_ite_fst | apply rows_ite | apply rows_if | apply within_foldl | apply within_foldl_fst | split | (dsimp only; split) | apply within_mk)
  all_goals try with_reducible (first | refine in_VD_EVENT_LINK_LOST ?_ | refine in_VD_STATUS_DIEA_LINK ?_ | refine in_VD_STATUS_DIEB_LINK ?_ | refine in_VCH_FAULT_LINK ?_ _)
  all_goals first | exact sub_le (by decide) hm | exact partOk_bit (sub_bit hm (by decide)) | exact sub_bit hm (by decide) | exact in_VD_EVENT_LINK_LOST (sub_bit hm (by decide)) | exact in_VD_STATUS_DIEA_LINK (sub_bit hm (by decide)) | exact in_VD_STATUS_DIEB_LINK (sub_bit hm (by decide)) | exact in_VCH_FAULT_LINK (sub_bit hm (by decide)) _ | exact .inr rfl

theorem State.driveDieUp_touch {msk : Nat} {org : State} (s : State) (d : Nat) (hm : sub 0x200000000000000000000000000000000000000000000000000000000000000000000004000000100000000000000000000000000000000000000000000000000000 msk) (hz : Within msk org s) : Within msk org (State.driveDieUp s d) := by
  unfold State.driveDieUp
  repeat' with_reducible (first | assumption | intro _ | exact partOk_refl _ _ _ | apply State.setFld_touch | apply State.vSafe_touch | apply within_ite | apply within_ite_fst | apply rows_ite | apply rows_if | apply within_foldl | apply within_foldl_fst | split | (dsimp only; split) | apply within_mk)
  all_goals try with_reducible (first | refine in_VD_STATUS_DIEA_LINK ?_ | refine in_VD_STATUS_DIEB_LINK ?_)
  all_goals first | exact sub_le (by decide) hm | exact partOk_bit (sub_bit hm (by decide)) | exact sub_bit hm (by decide) | exact in_VD_STATUS_DIEA_LINK (sub_bit hm (by decide)) | exact in_VD_STATUS_DIEB_LINK (sub_bit hm (by decide)) | exact .inr rfl

theorem State.unitWrite_touch {msk : Nat} {org : State} (s : State) (u off v : Nat) (hm : sub 0x40000000000000000000010800000000000000000000000000000000000000000f9f000000000200000000000000000000000000000000000000000000000000000 msk) (hz : Within msk org s) : Within msk org (State.unitWrite s u off v) := by
  unfold State.unitWrite
  repeat' with_reducible (first | assumption | intro _ | exact partOk_refl _ _ _ | apply State.raise_touch | apply State.setFld_touch | apply within_ite | apply within_ite_fst | apply rows_ite | apply rows_if | apply within_foldl | apply within_foldl_fst | split | (dsimp only; split) | apply within_mk)
  all_goals try with_reducible (first | refine in_VD_EVENT_CFG_ERR ?_ | refine in_uPending ?_ ?_ _ | refine in_unitBase ?_ ?_ _ | refine in_uPeriod ?_ ?_ _ | refine in_uDuty ?_ ?_ _ | refine in_uPhase ?_ ?_ _)
  all_goals first | exact sub_le (by decide) hm | exact partOk_bit (sub_bit hm (by decide)) | exact sub_bit hm (by decide) | exact in_VD_EVENT_CFG_ERR (sub_bit hm (by decide)) | exact in_uPending (sub_bit hm (by decide)) (sub_bit hm (by decide)) _ | exact in_unitBase (sub_bit hm (by decide)) (sub_bit hm (by decide)) _ | exact in_uPeriod (sub_bit hm (by decide)) (sub_bit hm (by decide)) _ | exact in_uDuty (sub_bit hm (by decide)) (sub_bit hm (by decide)) _ | exact in_uPhase (sub_bit hm (by decide)) (sub_bit hm (by decide)) _ | exact .inr rfl

theorem State.vdWrite_touch {msk : Nat} {org : State} (s : State) (sup : Bool) (a v : Nat) (hm : sub 0x240000000000000000000010800000000000000000000000000000000000000001fbf00c0003d8200000000000000000000000000000000000000000000000000000 msk) (ha : RowsHave msk a) (hz : Within msk org s) : Within msk org (State.vdWrite s sup a v) := by
  unfold State.vdWrite
  repeat' with_reducible (first | assumption | intro _ | exact partOk_refl _ _ _ | apply State.raise_touch | apply State.loadAll_touch | apply State.loadAllAux_touch | apply State.bstEn_touch | apply State.bstSet_touch | apply State.writeCodes_touch | apply State.tripCfg_touch | apply State.tripClear_touch | apply State.tripMask_touch | apply State.unlatch_touch | apply State.unitWrite_touch | apply within_ite | apply within_ite_fst | apply rows_ite | apply rows_if | apply within_foldl | apply within_foldl_fst | split | (dsimp only; split) | apply within_mk)
  all_goals try with_reducible (first | refine in_VD_EVENT_CFG_ERR ?_)
  all_goals first | exact sub_le (by decide) hm | exact partOk_bit (sub_bit hm (by decide)) | exact sub_bit hm (by decide) | exact in_VD_EVENT_CFG_ERR (sub_bit hm (by decide)) | exact .inr rfl

end Sys2Proof.Machine
end

