-- ==== Sys2Proof/Laws/TouchLedger.lean ====
section
/-! SUPPORT. What each operation of Machine/Ledger.lean may change, as a mask. -/

namespace Sys2Proof.Machine

set_option linter.all false
set_option Elab.async false

theorem State.setEntry_touch {msk : Nat} {org : State} (s : State) (i : Nat) (e : Entry) (hm : sub 0x100000000000000000000000000000000000000000000000000000000000000000000000000000000000000000000000000000000000000000000000000000000000 msk) (hz : Within msk org s) : Within msk org (State.setEntry s i e) := by
  unfold State.setEntry
  repeat' with_reducible (first | assumption | intro _ | exact partOk_refl _ _ _ | apply within_ite | apply within_ite_fst | apply rows_ite | apply rows_if | apply within_foldl | apply within_foldl_fst | split | (dsimp only; split) | apply within_mk)
  all_goals first | exact sub_le (by decide) hm | exact partOk_bit (sub_bit hm (by decide)) | exact sub_bit hm (by decide) | exact .inr rfl

theorem State.putSlot_touch {msk : Nat} {org : State} (s : State) (i : Nat) (x : Option FireSlot) (hm : sub 0x10000000000000000000000000000000000000000000000000000000000000000000000000000000000000000000000000000000000000000000000000000000000000 msk) (hz : Within msk org s) : Within msk org (State.putSlot s i x) := by
  unfold State.putSlot
  repeat' with_reducible (first | assumption | intro _ | exact partOk_refl _ _ _ | apply State.fire_touch | apply within_ite | apply within_ite_fst | apply rows_ite | apply rows_if | apply within_foldl | apply within_foldl_fst | split | (dsimp only; split) | apply within_mk)
  all_goals first | exact sub_le (by decide) hm | exact partOk_bit (sub_bit hm (by decide)) | exact sub_bit hm (by decide) | exact .inr rfl

theorem State.reloadSlots_touch {msk : Nat} {org : State} (s : State) (c : Nat) (hm : sub 0x10000000000000000000000000000000000000000000000000000000000000000000000000000000000000000000000000000000000000000000000000000000000000 msk) (hz : Within msk org s) : Within msk org (State.reloadSlots s c) := by
  unfold State.reloadSlots
  repeat' with_reducible (first | assumption | intro _ | exact partOk_refl _ _ _ | apply State.fire_touch | apply within_ite | apply within_ite_fst | apply rows_ite | apply rows_if | apply within_foldl | apply within_foldl_fst | split | (dsimp only; split) | apply within_mk)
  all_goals first | exact sub_le (by decide) hm | exact partOk_bit (sub_bit hm (by decide)) | exact sub_bit hm (by decide) | exact .inr rfl

theorem State.resweep_touch {msk : Nat} {org : State} (s : State) (o : Nat) (hm : sub 0x100000000000000000000000000000000000000000000000000000000000000000000000000000000000000000000000000000000000000000000000000000000000 msk) (hz : Within msk org s) : Within msk org (State.resweep s o) := by
  unfold State.resweep
  repeat' with_reducible (first | assumption | intro _ | exact partOk_refl _ _ _ | apply within_ite | apply within_ite_fst | apply rows_ite | apply rows_if | apply within_foldl | apply within_foldl_fst | split | (dsimp only; split) | apply within_mk)
  all_goals first | exact sub_le (by decide) hm | exact partOk_bit (sub_bit hm (by decide)) | exact sub_bit hm (by decide) | exact .inr rfl

theorem State.bookEntry_touch {msk : Nat} {org : State} (s : State) (e : Entry) (hm : sub 0x140000003600020000000010800000000000000000000000000000000000000000000000000000000000000000000000000000000000050000000000000000000000 msk) (hz : Within msk org s) : Within msk org (State.bookEntry s e).1 := by
  unfold State.bookEntry
  repeat' with_reducible (first | assumption | intro _ | exact partOk_refl _ _ _ | apply State.setEntry_touch | apply State.reserve_touch | apply State.count_touch | apply State.resweep_touch | apply State.bump_touch | apply State.raise_touch | apply within_ite | apply within_ite_fst | apply rows_ite | apply rows_if | apply within_foldl | apply within_foldl_fst | split | (dsimp only; split) | apply within_mk)
  all_goals try with_reducible (first | refine in_LG_EVENT_FULL ?_ | refine in_LG_CNT_B_FULL_N ?_)
  all_goals first | exact sub_le (by decide) hm | exact partOk_bit (sub_bit hm (by decide)) | exact sub_bit hm (by decide) | exact in_LG_EVENT_FULL (sub_bit hm (by decide)) | exact in_LG_CNT_B_FULL_N (sub_bit hm (by decide)) | exact .inr rfl

theorem State.deliver_touch {msk : Nat} {org : State} (s : State) (i : Nat) (e : Entry) (hm : sub 0x40000003600020000000010800000000000000000000000000000000000000000000000000000000000000000000000000000000000000000000000000000140400 msk) (hz : Within msk org s) : Within msk org (State.deliver s i e) := by
  unfold State.deliver
  repeat' with_reducible (first | assumption | intro _ | exact partOk_refl _ _ _ | apply State.streamCtx_touch | apply within_ite | apply within_ite_fst | apply rows_ite | apply rows_if | apply within_foldl | apply within_foldl_fst | split | (dsimp only; split) | apply within_mk)
  all_goals first | exact sub_le (by decide) hm | exact partOk_bit (sub_bit hm (by decide)) | exact sub_bit hm (by decide) | exact .inr rfl

theorem State.endEntry_touch {msk : Nat} {org : State} (s : State) (i : Nat) (e : Entry) (hm : sub 0x140000003600020000000010800000000000000000000000000000000000000000000000000000000000000000000000000000000000000000000000000000140400 msk) (hz : Within msk org s) : Within msk org (State.endEntry s i e) := by
  unfold State.endEntry
  repeat' with_reducible (first | assumption | intro _ | exact partOk_refl _ _ _ | apply State.setEntry_touch | apply State.deliver_touch | apply within_ite | apply within_ite_fst | apply rows_ite | apply rows_if | apply within_foldl | apply within_foldl_fst | split | (dsimp only; split) | apply within_mk)
  all_goals first | exact sub_le (by decide) hm | exact partOk_bit (sub_bit hm (by decide)) | exact sub_bit hm (by decide) | exact .inr rfl

theorem State.cancelEntry_touch {msk : Nat} {org : State} (s : State) (i : Nat) (cause : Nat) (hm : sub 0x340000003600020000000010800000000000000000000000000000000000000000000004000000000000000000000000000000000000000000000000000000140400 msk) (hz : Within msk org s) : Within msk org (State.cancelEntry s i cause) := by
  unfold State.cancelEntry
  repeat' with_reducible (first | assumption | intro _ | exact partOk_refl _ _ _ | apply Run.st_touch | apply State.resweep_touch | apply State.prefluxStop_touch | apply State.endEntry_touch | apply within_ite | apply within_ite_fst | apply rows_ite | apply rows_if | apply within_foldl | apply within_foldl_fst | split | (dsimp only; split) | apply within_mk)
  all_goals first | exact sub_le (by decide) hm | exact partOk_bit (sub_bit hm (by decide)) | exact sub_bit hm (by decide) | exact .inr rfl

theorem State.withdrawEntry_touch {msk : Nat} {org : State} (s : State) (i : Nat) (cause : Nat) (hm : sub 0x10340000003600020000000010800000000000000000000000000000000000000000000004000000000000000000000000000000000000000000000000000000140400 msk) (hz : Within msk org s) : Within msk org (State.withdrawEntry s i cause) := by
  unfold State.withdrawEntry
  repeat' with_reducible (first | assumption | intro _ | exact partOk_refl _ _ _ | apply Run.st_touch | apply State.resweep_touch | apply State.prefluxStop_touch | apply State.putSlot_touch | apply State.endEntry_touch | apply within_ite | apply within_ite_fst | apply rows_ite | apply rows_if | apply within_foldl | apply within_foldl_fst | split | (dsimp only; split) | apply within_mk)
  all_goals first | exact sub_le (by decide) hm | exact partOk_bit (sub_bit hm (by decide)) | exact sub_bit hm (by decide) | exact .inr rfl

theorem State.withdraw_touch {msk : Nat} {org : State} (s : State) (p : Entry → Bool) (cause path ctx first last : Nat) (hm : sub 0x10360000003611820000000010800000000000000000000000000000000000000000000004000000000000000000000000000000000000010000000000000000140400 msk) (hz : Within msk org s) : Within msk org (State.withdraw s p cause path ctx first last) := by
  unfold State.withdraw
  repeat' with_reducible (first | assumption | intro _ | exact partOk_refl _ _ _ | apply Run.st_touch | apply State.cancelEntry_touch | apply State.withdrawEntry_touch | apply State.canvas_touch | apply State.raise_touch | apply State.raiseIf_touch | apply within_ite | apply within_ite_fst | apply rows_ite | apply rows_if | apply within_foldl | apply within_foldl_fst | split | (dsimp only; split) | apply within_mk)
  all_goals try with_reducible (first | refine in_LG_EVENT_WITHDRAWN ?_ | refine in_LG_EVENT_ORPHAN ?_)
  all_goals first | exact sub_le (by decide) hm | exact partOk_bit (sub_bit hm (by decide)) | exact sub_bit hm (by decide) | exact in_LG_EVENT_WITHDRAWN (sub_bit hm (by decide)) | exact in_LG_EVENT_ORPHAN (sub_bit hm (by decide)) | exact .inr rfl

theorem State.setOpen_touch {msk : Nat} {org : State} (s : State) (o : Nat) (b : Bool) (hm : sub 0x100000000000000000000000000000000000000000000000000000000000000000000000000000000000000000000000000000000000000000000000000000000000 msk) (hz : Within msk org s) : Within msk org (State.setOpen s o b) := by
  unfold State.setOpen
  repeat' with_reducible (first | assumption | intro _ | exact partOk_refl _ _ _ | apply within_ite | apply within_ite_fst | apply rows_ite | apply rows_if | apply within_foldl | apply within_foldl_fst | split | (dsimp only; split) | apply within_mk)
  all_goals first | exact sub_le (by decide) hm | exact partOk_bit (sub_bit hm (by decide)) | exact sub_bit hm (by decide) | exact .inr rfl

theorem State.learn_touch {msk : Nat} {org : State} (s : State) (kind o : Nat) (m : Int) (hm : sub 0x600000000000000000000001800000000000000000000000000 msk) (hz : Within msk org s) : Within msk org (State.learn s kind o m) := by
  unfold State.learn
  repeat' with_reducible (first | assumption | intro _ | exact partOk_refl _ _ _ | apply Run.lim_touch | apply Run.step_touch | apply State.setFld_touch | apply State.setBit_touch | apply within_ite | apply within_ite_fst | apply rows_ite | apply rows_if | apply within_foldl | apply within_foldl_fst | split | (dsimp only; split) | apply within_mk)
  all_goals try with_reducible (first | refine in_jitF ?_ ?_ _ _ | refine in_learnedF ?_ ?_ _ _ | refine in_lrnF ?_ ?_ _ _ | refine in_jitOkF ?_ ?_ _ _ | refine in_sealsF ?_ ?_ _ _)
  all_goals first | exact sub_le (by decide) hm | exact partOk_bit (sub_bit hm (by decide)) | exact sub_bit hm (by decide) | exact in_jitF (sub_bit hm (by decide)) (sub_bit hm (by decide)) _ _ | exact in_learnedF (sub_bit hm (by decide)) (sub_bit hm (by decide)) _ _ | exact in_lrnF (sub_bit hm (by decide)) (sub_bit hm (by decide)) _ _ | exact in_jitOkF (sub_bit hm (by decide)) (sub_bit hm (by decide)) _ _ | exact in_sealsF (sub_bit hm (by decide)) (sub_bit hm (by decide)) _ _ | exact .inr rfl

theorem State.sealedEdge_touch {msk : Nat} {org : State} (s : State) (kind o code : Nat) (due seat : Time) (hm : sub 0xc0000003600020000000010800000000000000000000000000000000000000000000000000000004000000000000000000000000000000400068000000000000000 msk) (hz : Within msk org s) : Within msk org (State.sealedEdge s kind o code due seat) := by
  unfold State.sealedEdge
  repeat' with_reducible (first | assumption | intro _ | exact partOk_refl _ _ _ | apply State.setBit_touch | apply State.setFld_touch | apply State.lateSeal_touch | apply within_ite | apply within_ite_fst | apply rows_ite | apply rows_if | apply within_foldl | apply within_foldl_fst | split | (dsimp only; split) | apply within_mk)
  all_goals try with_reducible (first | refine in_OT_STATE_SEALED_OPEN ?_ _ | refine in_OT_STATE_UNSURE ?_ _)
  all_goals first | exact sub_le (by decide) hm | exact partOk_bit (sub_bit hm (by decide)) | exact sub_bit hm (by decide) | exact in_OT_STATE_SEALED_OPEN (sub_bit hm (by decide)) _ | exact in_OT_STATE_UNSURE (sub_bit hm (by decide)) _ | exact .inr rfl

theorem State.sealEntry_touch {msk : Nat} {org : State} (s : State) (i code : Nat) (seat : Option Time) (hm : sub 0x1c0000003600020000000010800000000000000000000000000000000000000000000000000000004600000000000000000000001800000400068000000000140400 msk) (hz : Within msk org s) : Within msk org (State.sealEntry s i code seat) := by
  unfold State.sealEntry
  repeat' with_reducible (first | assumption | intro _ | exact partOk_refl _ _ _ | apply Run.st_touch | apply State.sealedEdge_touch | apply State.learn_touch | apply State.count_touch | apply State.endEntry_touch | apply within_ite | apply within_ite_fst | apply rows_ite | apply rows_if | apply within_foldl | apply within_foldl_fst | split | (dsimp only; split) | apply within_mk)
  all_goals first | exact sub_le (by decide) hm | exact partOk_bit (sub_bit hm (by decide)) | exact sub_bit hm (by decide) | exact .inr rfl

theorem State.lateEntry_touch {msk : Nat} {org : State} (s : State) (i : Nat) (hm : sub 0x10340000003600020000000010800000000000000000000000000000000000000000000004000000000000000000000000000000000000090000000000000000140400 msk) (hz : Within msk org s) : Within msk org (State.lateEntry s i) := by
  unfold State.lateEntry
  repeat' with_reducible (first | assumption | intro _ | exact partOk_refl _ _ _ | apply Run.st_touch | apply State.resweep_touch | apply State.prefluxStop_touch | apply State.putSlot_touch | apply State.bump_touch | apply State.raise_touch | apply State.count_touch | apply State.endEntry_touch | apply within_ite | apply within_ite_fst | apply rows_ite | apply rows_if | apply within_foldl | apply within_foldl_fst | split | (dsimp only; split) | apply within_mk)
  all_goals try with_reducible (first | refine in_LG_EVENT_LATE ?_ | refine in_LG_CNT_C_LATE_N ?_)
  all_goals first | exact sub_le (by decide) hm | exact partOk_bit (sub_bit hm (by decide)) | exact sub_bit hm (by decide) | exact in_LG_EVENT_LATE (sub_bit hm (by decide)) | exact in_LG_CNT_C_LATE_N (sub_bit hm (by decide)) | exact .inr rfl

end Sys2Proof.Machine
end

