-- ==== Sys2Proof/Laws/TouchPlan.lean ====
section
/-! SUPPORT. What each operation of Machine/Plan.lean may change, as a mask. -/

namespace Sys2Proof.Machine

set_option linter.all false
set_option Elab.async false

theorem State.pathProgress_touch {msk : Nat} {org : State} (s : State) (hm : sub 0x100000000000000000000000000000000000000000000000000000000000000000000000000000000000000000000000000000000000000000000000000000000000 msk) (hz : Within msk org s) : Within msk org (State.pathProgress s) := by
  unfold State.pathProgress
  repeat' with_reducible (first | assumption | intro _ | exact partOk_refl _ _ _ | apply within_ite | apply within_ite_fst | apply rows_ite | apply rows_if | apply within_foldl | apply within_foldl_fst | split | (dsimp only; split) | apply within_mk)
  all_goals first | exact sub_le (by decide) hm | exact partOk_bit (sub_bit hm (by decide)) | exact sub_bit hm (by decide) | exact .inr rfl

theorem State.pathCommit_touch {msk : Nat} {org : State} (s : State) (v : Nat) (hm : sub 0x140000000000000000000010800000000000000000000000000000000000000000000000000000000000000000000000000000000000210000000000000000000000 msk) (hz : Within msk org s) : Within msk org (State.pathCommit s v) := by
  unfold State.pathCommit
  repeat' with_reducible (first | assumption | intro _ | exact partOk_refl _ _ _ | apply State.raise_touch | apply State.writeCodes_touch | apply Run.comp_touch | apply within_ite | apply within_ite_fst | apply rows_ite | apply rows_if | apply within_foldl | apply within_foldl_fst | split | (dsimp only; split) | apply within_mk)
  all_goals try with_reducible (first | refine in_LG_EVENT_CFG_ERR ?_ | refine has_PATH_CTRL ?_)
  all_goals first | exact sub_le (by decide) hm | exact partOk_bit (sub_bit hm (by decide)) | exact sub_bit hm (by decide) | exact in_LG_EVENT_CFG_ERR (sub_bit hm (by decide)) | exact has_PATH_CTRL (sub_bit hm (by decide)) | exact .inr rfl

theorem State.pathFrame_touch {msk : Nat} {org : State} (s : State) (hm : sub 0x100000000000000000000000000000000000000000000000000000000000000000000000000000000000000000000000000000000000200000000000000000000000 msk) (hz : Within msk org s) : Within msk org (State.pathFrame s) := by
  unfold State.pathFrame
  repeat' with_reducible (first | assumption | intro _ | exact partOk_refl _ _ _ | apply State.setFld_touch | apply within_ite | apply within_ite_fst | apply rows_ite | apply rows_if | apply within_foldl | apply within_foldl_fst | split | (dsimp only; split) | apply within_mk)
  all_goals try with_reducible (first | refine in_PATH_CTRL_VALID ?_)
  all_goals first | exact sub_le (by decide) hm | exact partOk_bit (sub_bit hm (by decide)) | exact sub_bit hm (by decide) | exact in_PATH_CTRL_VALID (sub_bit hm (by decide)) | exact .inr rfl

theorem State.writeBooking_touch {msk : Nat} {org : State} (tk : Time) (s : State) (b : Booking) (hm : sub 0x340000003600020000000010800000000000000000000000000000000000000000000004000000000000000000000000000020000000150000000000000000000000 msk) (hz : Within msk org s) : Within msk org (State.writeBooking tk s b) := by
  unfold State.writeBooking
  extract_lets d kind stop touch s1 s2 s3 dl shifted e clampN r
  have h_s1 : Within msk org s1 := by
    dsimp only [s1]
    ((repeat' with_reducible (first | assumption | intro _ | exact partOk_refl _ _ _ | apply Run.st_touch | apply State.bump_touch | apply State.raise_touch | apply State.preflux_touch | apply State.prefluxStop_touch | apply State.setEntry_touch | apply State.reserve_touch | apply State.bookEntry_touch | apply within_ite | apply within_ite_fst | apply rows_ite | apply rows_if | apply within_foldl | apply within_foldl_fst | split | (dsimp only; split) | apply within_mk)); (all_goals try with_reducible (first | refine in_FRM_STAT_HEADSKIP ?_ | refine in_LG_EVENT_LATE_CROSS ?_ | refine in_LG_CNT_B_SHIFTED_N ?_ | refine in_LG_CNT_D_GAP_N ?_ | refine in_LG_EVENT_RATE_CLAMP ?_ | refine in_LG_CNT_D_CLAMP_N ?_)); (all_goals first | exact sub_le (by decide) hm | exact partOk_bit (sub_bit hm (by decide)) | exact sub_bit hm (by decide) | exact in_FRM_STAT_HEADSKIP (sub_bit hm (by decide)) | exact in_LG_EVENT_LATE_CROSS (sub_bit hm (by decide)) | exact in_LG_CNT_B_SHIFTED_N (sub_bit hm (by decide)) | exact in_LG_CNT_D_GAP_N (sub_bit hm (by decide)) | exact in_LG_EVENT_RATE_CLAMP (sub_bit hm (by decide)) | exact in_LG_CNT_D_CLAMP_N (sub_bit hm (by decide)) | exact .inr rfl))
  clear_value s1
  have h_s2 : Within msk org s2 := by
    dsimp only [s2]
    ((repeat' with_reducible (first | assumption | intro _ | exact partOk_refl _ _ _ | apply Run.st_touch | apply State.bump_touch | apply State.raise_touch | apply State.preflux_touch | apply State.prefluxStop_touch | apply State.setEntry_touch | apply State.reserve_touch | apply State.bookEntry_touch | apply within_ite | apply within_ite_fst | apply rows_ite | apply rows_if | apply within_foldl | apply within_foldl_fst | split | (dsimp only; split) | apply within_mk)); (all_goals try with_reducible (first | refine in_FRM_STAT_HEADSKIP ?_ | refine in_LG_EVENT_LATE_CROSS ?_ | refine in_LG_CNT_B_SHIFTED_N ?_ | refine in_LG_CNT_D_GAP_N ?_ | refine in_LG_EVENT_RATE_CLAMP ?_ | refine in_LG_CNT_D_CLAMP_N ?_)); (all_goals first | exact sub_le (by decide) hm | exact partOk_bit (sub_bit hm (by decide)) | exact sub_bit hm (by decide) | exact in_FRM_STAT_HEADSKIP (sub_bit hm (by decide)) | exact in_LG_EVENT_LATE_CROSS (sub_bit hm (by decide)) | exact in_LG_CNT_B_SHIFTED_N (sub_bit hm (by decide)) | exact in_LG_CNT_D_GAP_N (sub_bit hm (by decide)) | exact in_LG_EVENT_RATE_CLAMP (sub_bit hm (by decide)) | exact in_LG_CNT_D_CLAMP_N (sub_bit hm (by decide)) | exact .inr rfl))
  clear_value s2
  have h_s3 : Within msk org s3 := by
    dsimp only [s3]
    ((repeat' with_reducible (first | assumption | intro _ | exact partOk_refl _ _ _ | apply Run.st_touch | apply State.bump_touch | apply State.raise_touch | apply State.preflux_touch | apply State.prefluxStop_touch | apply State.setEntry_touch | apply State.reserve_touch | apply State.bookEntry_touch | apply within_ite | apply within_ite_fst | apply rows_ite | apply rows_if | apply within_foldl | apply within_foldl_fst | split | (dsimp only; split) | apply within_mk)); (all_goals try with_reducible (first | refine in_FRM_STAT_HEADSKIP ?_ | refine in_LG_EVENT_LATE_CROSS ?_ | refine in_LG_CNT_B_SHIFTED_N ?_ | refine in_LG_CNT_D_GAP_N ?_ | refine in_LG_EVENT_RATE_CLAMP ?_ | refine in_LG_CNT_D_CLAMP_N ?_)); (all_goals first | exact sub_le (by decide) hm | exact partOk_bit (sub_bit hm (by decide)) | exact sub_bit hm (by decide) | exact in_FRM_STAT_HEADSKIP (sub_bit hm (by decide)) | exact in_LG_EVENT_LATE_CROSS (sub_bit hm (by decide)) | exact in_LG_CNT_B_SHIFTED_N (sub_bit hm (by decide)) | exact in_LG_CNT_D_GAP_N (sub_bit hm (by decide)) | exact in_LG_EVENT_RATE_CLAMP (sub_bit hm (by decide)) | exact in_LG_CNT_D_CLAMP_N (sub_bit hm (by decide)) | exact .inr rfl))
  clear_value s3
  dsimp only [clampN, r]
  ((repeat' with_reducible (first | assumption | intro _ | exact partOk_refl _ _ _ | apply Run.st_touch | apply State.bump_touch | apply State.raise_touch | apply State.preflux_touch | apply State.prefluxStop_touch | apply State.setEntry_touch | apply State.reserve_touch | apply State.bookEntry_touch | apply within_ite | apply within_ite_fst | apply rows_ite | apply rows_if | apply within_foldl | apply within_foldl_fst | split | (dsimp only; split) | apply within_mk)); (all_goals try with_reducible (first | refine in_FRM_STAT_HEADSKIP ?_ | refine in_LG_EVENT_LATE_CROSS ?_ | refine in_LG_CNT_B_SHIFTED_N ?_ | refine in_LG_CNT_D_GAP_N ?_ | refine in_LG_EVENT_RATE_CLAMP ?_ | refine in_LG_CNT_D_CLAMP_N ?_)); (all_goals first | exact sub_le (by decide) hm | exact partOk_bit (sub_bit hm (by decide)) | exact sub_bit hm (by decide) | exact in_FRM_STAT_HEADSKIP (sub_bit hm (by decide)) | exact in_LG_EVENT_LATE_CROSS (sub_bit hm (by decide)) | exact in_LG_CNT_B_SHIFTED_N (sub_bit hm (by decide)) | exact in_LG_CNT_D_GAP_N (sub_bit hm (by decide)) | exact in_LG_EVENT_RATE_CLAMP (sub_bit hm (by decide)) | exact in_LG_CNT_D_CLAMP_N (sub_bit hm (by decide)) | exact .inr rfl))

theorem State.invalidClose_touch {msk : Nat} {org : State} (tk : Time) (s : State) (o : Nat) (hm : sub 0x140000003600020000000010800000000000000000000000000000000000000000000000000000000000000000000000000000000000050000000000000000000000 msk) (hz : Within msk org s) : Within msk org (State.invalidClose tk s o) := by
  unfold State.invalidClose
  repeat' with_reducible (first | assumption | intro _ | exact partOk_refl _ _ _ | apply Run.st_touch | apply State.bump_touch | apply State.raise_touch | apply State.bookEntry_touch | apply within_ite | apply within_ite_fst | apply rows_ite | apply rows_if | apply within_foldl | apply within_foldl_fst | split | (dsimp only; split) | apply within_mk)
  all_goals try with_reducible (first | refine in_LG_EVENT_LATE_CROSS ?_ | refine in_LG_CNT_B_SHIFTED_N ?_)
  all_goals first | exact sub_le (by decide) hm | exact partOk_bit (sub_bit hm (by decide)) | exact sub_bit hm (by decide) | exact in_LG_EVENT_LATE_CROSS (sub_bit hm (by decide)) | exact in_LG_CNT_B_SHIFTED_N (sub_bit hm (by decide)) | exact .inr rfl

theorem State.invalidFrame_touch {msk : Nat} {org : State} (s : State) (tk : Time) (hm : sub 0x340000003600020000000010800000000000000000000000000000000000000000000004000000000000000000000000000000000000054000000000000000140400 msk) (hz : Within msk org s) : Within msk org (State.invalidFrame s tk) := by
  unfold State.invalidFrame
  repeat' with_reducible (first | assumption | intro _ | exact partOk_refl _ _ _ | apply Run.st_touch | apply State.cancelEntry_touch | apply State.invalidClose_touch | apply State.setFld_touch | apply within_ite | apply within_ite_fst | apply rows_ite | apply rows_if | apply within_foldl | apply within_foldl_fst | split | (dsimp only; split) | apply within_mk)
  all_goals try with_reducible (first | refine in_LG_STAT_PATH_ACT ?_)
  all_goals first | exact sub_le (by decide) hm | exact partOk_bit (sub_bit hm (by decide)) | exact sub_bit hm (by decide) | exact in_LG_STAT_PATH_ACT (sub_bit hm (by decide)) | exact .inr rfl

theorem State.noteMissing_touch {msk : Nat} {org : State} (s : State) (ts : List Pt) (hm : sub 0x40000003600020000000010800000000000000000000000000000000000000000000000000000000000000000000000000000000000000000388000000000000000 msk) (hz : Within msk org s) : Within msk org (State.noteMissing s ts) := by
  unfold State.noteMissing
  repeat' with_reducible (first | assumption | intro _ | exact partOk_refl _ _ _ | apply State.bump_touch | apply State.raise_touch | apply State.count_touch | apply State.setSfld_touch | apply within_ite | apply within_ite_fst | apply rows_ite | apply rows_if | apply within_foldl | apply within_foldl_fst | split | (dsimp only; split) | apply within_mk)
  all_goals try with_reducible (first | refine in_MAP_EVENT_TILE_MISS ?_ | refine in_MISS_COUNT_COUNT ?_ | refine in_MISS_TY_T ?_ | refine in_MISS_TX_T ?_)
  all_goals first | exact sub_le (by decide) hm | exact partOk_bit (sub_bit hm (by decide)) | exact sub_bit hm (by decide) | exact in_MAP_EVENT_TILE_MISS (sub_bit hm (by decide)) | exact in_MISS_COUNT_COUNT (sub_bit hm (by decide)) | exact in_MISS_TY_T (sub_bit hm (by decide)) | exact in_MISS_TX_T (sub_bit hm (by decide)) | exact .inr rfl

theorem State.noteNeeds_touch {msk : Nat} {org : State} (s : State) (ts : List Pt) (hm : sub 0x18000000000000000000 msk) (hz : Within msk org s) : Within msk org (State.noteNeeds s ts) := by
  unfold State.noteNeeds
  repeat' with_reducible (first | assumption | intro _ | exact partOk_refl _ _ _ | apply State.setSfld_touch | apply State.setFld_touch | apply within_ite | apply within_ite_fst | apply rows_ite | apply rows_if | apply within_foldl | apply within_foldl_fst | split | (dsimp only; split) | apply within_mk)
  all_goals try with_reducible (first | refine in_NEED_TY_T ?_ _ | refine in_NEED_TX_VALID ?_ _ | refine in_NEED_TX_T ?_ _)
  all_goals first | exact sub_le (by decide) hm | exact partOk_bit (sub_bit hm (by decide)) | exact sub_bit hm (by decide) | exact in_NEED_TY_T (sub_bit hm (by decide)) _ | exact in_NEED_TX_VALID (sub_bit hm (by decide)) _ | exact in_NEED_TX_T (sub_bit hm (by decide)) _ | exact .inr rfl

theorem State.validFrame_touch {msk : Nat} {org : State} (s : State) (tk : Time) (h : PoseHist) (hm : sub 0x3408000036000200000000108000000000000000000000000000000000000000000000040000000000000000000000000000200000001540183c8000000000140400 msk) (hz : Within msk org s) : Within msk org (State.validFrame s tk h) := by
  unfold State.validFrame
  repeat' with_reducible (first | assumption | intro _ | exact partOk_refl _ _ _ | apply State.tick_touch | apply State.raiseIf_touch | apply State.setBit_touch | apply State.count_touch | apply State.bump_touch | apply State.noteMissing_touch | apply State.cancelEntry_touch | apply State.writeBooking_touch | apply State.noteNeeds_touch | apply within_ite | apply within_ite_fst | apply rows_ite | apply rows_if | apply within_foldl | apply within_foldl_fst | split | (dsimp only; split) | apply within_mk)
  all_goals try with_reducible (first | refine in_LG_STAT_PATH_ACT ?_ | refine in_LG_EVENT_PATH_STALE ?_ | refine in_MAP_COUNT_B_CELL_ERR ?_ | refine in_LG_CNT_D_GAP_N ?_)
  all_goals first | exact sub_le (by decide) hm | exact partOk_bit (sub_bit hm (by decide)) | exact sub_bit hm (by decide) | exact in_LG_STAT_PATH_ACT (sub_bit hm (by decide)) | exact in_LG_EVENT_PATH_STALE (sub_bit hm (by decide)) | exact in_MAP_COUNT_B_CELL_ERR (sub_bit hm (by decide)) | exact in_LG_CNT_D_GAP_N (sub_bit hm (by decide)) | exact .inr rfl

theorem State.commitEntry_touch {msk : Nat} {org : State} (s : State) (i : Nat) (e : Entry) (due : Time) (forced shifted : Bool) (hm : sub 0x10140000003600020000000010800000000000000000000000000000000000000000000000000000000000000000000000000000000000030000000000000000000000 msk) (hz : Within msk org s) : Within msk org (State.commitEntry s i e due forced shifted) := by
  unfold State.commitEntry
  repeat' with_reducible (first | assumption | intro _ | exact partOk_refl _ _ _ | apply Run.st_touch | apply State.setEntry_touch | apply State.putSlot_touch | apply State.bump_touch | apply State.raise_touch | apply State.count_touch | apply within_ite | apply within_ite_fst | apply rows_ite | apply rows_if | apply within_foldl | apply within_foldl_fst | split | (dsimp only; split) | apply within_mk)
  all_goals try with_reducible (first | refine in_LG_EVENT_FORCED ?_ | refine in_LG_CNT_A_FORCED_N ?_)
  all_goals first | exact sub_le (by decide) hm | exact partOk_bit (sub_bit hm (by decide)) | exact sub_bit hm (by decide) | exact in_LG_EVENT_FORCED (sub_bit hm (by decide)) | exact in_LG_CNT_A_FORCED_N (sub_bit hm (by decide)) | exact .inr rfl

theorem State.withhold_touch {msk : Nat} {org : State} (s : State) (i : Nat) (hm : sub 0x340000003600020000000010800000000000000000000000000000000000000000000004000000000000000000000000000000000000030000000000000000140400 msk) (hz : Within msk org s) : Within msk org (State.withhold s i) := by
  unfold State.withhold
  repeat' with_reducible (first | assumption | intro _ | exact partOk_refl _ _ _ | apply State.bump_touch | apply State.raise_touch | apply State.count_touch | apply State.cancelEntry_touch | apply within_ite | apply within_ite_fst | apply rows_ite | apply rows_if | apply within_foldl | apply within_foldl_fst | split | (dsimp only; split) | apply within_mk)
  all_goals try with_reducible (first | refine in_LG_EVENT_WITHHELD ?_ | refine in_LG_CNT_A_WITHHELD_N ?_)
  all_goals first | exact sub_le (by decide) hm | exact partOk_bit (sub_bit hm (by decide)) | exact sub_bit hm (by decide) | exact in_LG_EVENT_WITHHELD (sub_bit hm (by decide)) | exact in_LG_CNT_A_WITHHELD_N (sub_bit hm (by decide)) | exact .inr rfl

theorem State.degradeFrom_touch {msk : Nat} {org : State} (s old : State) (hm : sub 0x340000003600020000000010800000000000000000000000000000000000000000000004000000000000000000000000000000000000030000000000000000140400 msk) (hz : Within msk org s) : Within msk org (State.degradeFrom s old) := by
  unfold State.degradeFrom
  repeat' with_reducible (first | assumption | intro _ | exact partOk_refl _ _ _ | apply Run.st_touch | apply State.withhold_touch | apply within_ite | apply within_ite_fst | apply rows_ite | apply rows_if | apply within_foldl | apply within_foldl_fst | split | (dsimp only; split) | apply within_mk)
  all_goals first | exact sub_le (by decide) hm | exact partOk_bit (sub_bit hm (by decide)) | exact sub_bit hm (by decide) | exact .inr rfl

theorem State.deadline_touch {msk : Nat} {org : State} (s : State) (i : Nat) (e : Entry) (due1 te : Time) (hm : sub 0x10340000003600020000000010800000000000000000000000000000000000000000000004000000000000000000000000000000000000030000000000000000140400 msk) (hz : Within msk org s) : Within msk org (State.deadline s i e due1 te) := by
  unfold State.deadline
  repeat' with_reducible (first | assumption | intro _ | exact partOk_refl _ _ _ | apply State.withhold_touch | apply State.cancelEntry_touch | apply State.commitEntry_touch | apply within_ite | apply within_ite_fst | apply rows_ite | apply rows_if | apply within_foldl | apply within_foldl_fst | split | (dsimp only; split) | apply within_mk)
  all_goals first | exact sub_le (by decide) hm | exact partOk_bit (sub_bit hm (by decide)) | exact sub_bit hm (by decide) | exact .inr rfl

theorem State.commitOne_touch {msk : Nat} {org : State} (h : PoseHist) (path : List Pred) (s : State) (i : Nat) (hm : sub 0x103400000036000200000000108000000000000000000000000000000000000000000000040000000000000000000000000000000000000b0000000000000000140400 msk) (hz : Within msk org s) : Within msk org (State.commitOne h path s i) := by
  unfold State.commitOne
  repeat' with_reducible (first | assumption | intro _ | exact partOk_refl _ _ _ | apply Run.st_touch | apply State.withhold_touch | apply State.deadline_touch | apply State.commitEntry_touch | apply State.preflux_touch | apply State.prefluxStop_touch | apply State.setEntry_touch | apply State.bump_touch | apply State.count_touch | apply within_ite | apply within_ite_fst | apply rows_ite | apply rows_if | apply within_foldl | apply within_foldl_fst | split | (dsimp only; split) | apply within_mk)
  all_goals try with_reducible (first | refine in_LG_CNT_C_REPLACED_N ?_)
  all_goals first | exact sub_le (by decide) hm | exact partOk_bit (sub_bit hm (by decide)) | exact sub_bit hm (by decide) | exact in_LG_CNT_C_REPLACED_N (sub_bit hm (by decide)) | exact .inr rfl

theorem State.commitPass_touch {msk : Nat} {org : State} (s : State) (hm : sub 0x103408000036000200000000108000000000000000000000000000000000000000000000040000000000000000000000000000000000000b0000000000000000140400 msk) (hz : Within msk org s) : Within msk org (State.commitPass s) := by
  unfold State.commitPass
  repeat' with_reducible (first | assumption | intro _ | exact partOk_refl _ _ _ | apply Run.st_touch | apply State.take_touch | apply State.commitOne_touch | apply State.tick_touch | apply within_ite | apply within_ite_fst | apply rows_ite | apply rows_if | apply within_foldl | apply within_foldl_fst | split | (dsimp only; split) | apply within_mk)
  all_goals first | exact sub_le (by decide) hm | exact partOk_bit (sub_bit hm (by decide)) | exact sub_bit hm (by decide) | exact .inr rfl

end Sys2Proof.Machine
end

