-- ==== Sys2Proof/Laws/TouchLinks.lean ====
section
/-! SUPPORT. What each operation of Machine/Links.lean may change, as a mask. -/

namespace Sys2Proof.Machine

set_option linter.all false
set_option Elab.async false

theorem State.setLink_touch {msk : Nat} {org : State} (s : State) (l : Nat) (k : LinkState) (hm : sub 0x400000000000000000000000000000000000000000000000000000000000000000000000000000000000000000000000000000000000000000000000000000000000 msk) (hz : Within msk org s) : Within msk org (State.setLink s l k) := by
  unfold State.setLink
  repeat' with_reducible (first | assumption | intro _ | exact partOk_refl _ _ _ | apply within_ite | apply within_ite_fst | apply rows_ite | apply rows_if | apply within_foldl | apply within_foldl_fst | split | (dsimp only; split) | apply within_mk)
  all_goals first | exact sub_le (by decide) hm | exact partOk_bit (sub_bit hm (by decide)) | exact sub_bit hm (by decide) | exact .inr rfl

theorem State.linkRx_touch {msk : Nat} {org : State} (s : State) (l type p : Nat) (payload : List Byte) (w : LinkRx) (f : State → State) (hm : sub 0x20000000000000000000000000000000000000000000000000000000000000000000 msk) (hz : Within msk org s) (hf : ∀ t, Within msk org t → Within msk org (f t)) : Within msk org (State.linkRx s l type p payload w f) := by
  unfold State.linkRx
  repeat' with_reducible (first | assumption | intro _ | exact partOk_refl _ _ _ | apply hf | apply State.bump_touch | apply within_ite | apply within_ite_fst | apply rows_ite | apply rows_if | apply within_foldl | apply within_foldl_fst | split | (dsimp only; split) | apply within_mk)
  all_goals try with_reducible (first | refine in_LK_CNT_CODE_N ?_ _ | refine in_LK_CNT_CRC_N ?_ _)
  all_goals first | exact sub_le (by decide) hm | exact partOk_bit (sub_bit hm (by decide)) | exact sub_bit hm (by decide) | exact in_LK_CNT_CODE_N (sub_bit hm (by decide)) _ | exact in_LK_CNT_CRC_N (sub_bit hm (by decide)) _ | exact .inr rfl

theorem State.refreshTargets_touch {msk : Nat} {org : State} (s : State) (l p : Nat) (hm : sub 0x4000000000000000000000000000000000000000000000000000 msk) (hz : Within msk org s) : Within msk org (State.refreshTargets s l p) := by
  unfold State.refreshTargets
  repeat' with_reducible (first | assumption | intro _ | exact partOk_refl _ _ _ | apply State.setBit_touch | apply within_ite | apply within_ite_fst | apply rows_ite | apply rows_if | apply within_foldl | apply within_foldl_fst | split | (dsimp only; split) | apply within_mk)
  all_goals try with_reducible (first | refine in_OT_STATE_DIVERGENT ?_ _ | refine in_OT_STATE_TARGET_ABSENT ?_ _)
  all_goals first | exact sub_le (by decide) hm | exact partOk_bit (sub_bit hm (by decide)) | exact sub_bit hm (by decide) | exact in_OT_STATE_DIVERGENT (sub_bit hm (by decide)) _ | exact in_OT_STATE_TARGET_ABSENT (sub_bit hm (by decide)) _ | exact .inr rfl

theorem State.linkCount_touch {msk : Nat} {org : State} (s : State) (l : Nat) (hm : sub 0x8000000000000000000000000000000000000000000000000000000000000000000 msk) (hz : Within msk org s) : Within msk org (State.linkCount s l) := by
  unfold State.linkCount
  repeat' with_reducible (first | assumption | intro _ | exact partOk_refl _ _ _ | apply State.setFld_touch | apply within_ite | apply within_ite_fst | apply rows_ite | apply rows_if | apply within_foldl | apply within_foldl_fst | split | (dsimp only; split) | apply within_mk)
  all_goals try with_reducible (first | refine in_LK_STATUS_OUTLETS ?_ _ | refine in_LK_STATUS_NODES ?_ _)
  all_goals first | exact sub_le (by decide) hm | exact partOk_bit (sub_bit hm (by decide)) | exact sub_bit hm (by decide) | exact in_LK_STATUS_OUTLETS (sub_bit hm (by decide)) _ | exact in_LK_STATUS_NODES (sub_bit hm (by decide)) _ | exact .inr rfl

theorem State.queueFrame_touch {msk : Nat} {org : State} (s : State) (l : Nat) (f : OutFrame) (hm : sub 0x400000000000000000000000000000000000000000000000000000000000000000000000000000000000000000000000000000000000000000000000000000000000 msk) (hz : Within msk org s) : Within msk org (State.queueFrame s l f) := by
  unfold State.queueFrame
  repeat' with_reducible (first | assumption | intro _ | exact partOk_refl _ _ _ | apply State.setLink_touch | apply within_ite | apply within_ite_fst | apply rows_ite | apply rows_if | apply within_foldl | apply within_foldl_fst | split | (dsimp only; split) | apply within_mk)
  all_goals first | exact sub_le (by decide) hm | exact partOk_bit (sub_bit hm (by decide)) | exact sub_bit hm (by decide) | exact .inr rfl

theorem State.sendSafeMap_touch {msk : Nat} {org : State} (s : State) (l : Nat) (hm : sub 0x400000000000000000000000000000000000000000000000000000000000000000000000000000000000000000000000000000000000000000000000000000000000 msk) (hz : Within msk org s) : Within msk org (State.sendSafeMap s l) := by
  unfold State.sendSafeMap
  repeat' with_reducible (first | assumption | intro _ | exact partOk_refl _ _ _ | apply State.queueFrame_touch | apply within_ite | apply within_ite_fst | apply rows_ite | apply rows_if | apply within_foldl | apply within_foldl_fst | split | (dsimp only; split) | apply within_mk)
  all_goals first | exact sub_le (by decide) hm | exact partOk_bit (sub_bit hm (by decide)) | exact sub_bit hm (by decide) | exact .inr rfl

theorem State.holdInsert_touch {msk : Nat} {org : State} (s : State) (l : Nat) (hm : sub 0x400000000000000000000000000000000000000000000000000000000000000000000000000000000000000000000000000000000000000000000000000000000000 msk) (hz : Within msk org s) : Within msk org (State.holdInsert s l) := by
  unfold State.holdInsert
  repeat' with_reducible (first | assumption | intro _ | exact partOk_refl _ _ _ | apply State.hold_touch | apply State.setLink_touch | apply within_ite | apply within_ite_fst | apply rows_ite | apply rows_if | apply within_foldl | apply within_foldl_fst | split | (dsimp only; split) | apply within_mk)
  all_goals first | exact sub_le (by decide) hm | exact partOk_bit (sub_bit hm (by decide)) | exact sub_bit hm (by decide) | exact .inr rfl

theorem State.holdRefresh_touch {msk : Nat} {org : State} (s : State) (l : Nat) (hm : sub 0x400000000000000000000000000000000000000000000000000000000000000180000000000000000000000000000000000000000000000000000000000000000000 msk) (hz : Within msk org s) : Within msk org (State.holdRefresh s l) := by
  unfold State.holdRefresh
  repeat' with_reducible (first | assumption | intro _ | exact partOk_refl _ _ _ | apply State.setFld_touch | apply State.setLink_touch | apply State.holdInsert_touch | apply within_ite | apply within_ite_fst | apply rows_ite | apply rows_if | apply within_foldl | apply within_foldl_fst | split | (dsimp only; split) | apply within_mk)
  all_goals try with_reducible (first | refine in_LK_HOLD_HI_HOLD ?_ _ | refine in_LK_HOLD_LO_HOLD ?_ _)
  all_goals first | exact sub_le (by decide) hm | exact partOk_bit (sub_bit hm (by decide)) | exact sub_bit hm (by decide) | exact in_LK_HOLD_HI_HOLD (sub_bit hm (by decide)) _ | exact in_LK_HOLD_LO_HOLD (sub_bit hm (by decide)) _ | exact .inr rfl

theorem State.linksWithdrawn_touch {msk : Nat} {org : State} (s : State) (opens : List Nat) (cancels : Bool) (hm : sub 0x400000000000000000000000000000000000000000000000000000000000000180000000000000000000000000000000000000000000000000000000000000000000 msk) (hz : Within msk org s) : Within msk org (State.linksWithdrawn s opens cancels) := by
  unfold State.linksWithdrawn
  repeat' with_reducible (first | assumption | intro _ | exact partOk_refl _ _ _ | apply Run.st_touch | apply State.bind_touch | apply State.setLink_touch | apply State.holdRefresh_touch | apply within_ite | apply within_ite_fst | apply rows_ite | apply rows_if | apply within_foldl | apply within_foldl_fst | split | (dsimp only; split) | apply within_mk)
  all_goals first | exact sub_le (by decide) hm | exact partOk_bit (sub_bit hm (by decide)) | exact sub_bit hm (by decide) | exact .inr rfl

theorem State.withdrawAll_touch {msk : Nat} {org : State} (s : State) (p : Entry → Bool) (cause path ctx first last : Nat) (cancels : Bool) (hm : sub 0x10760000003611820000000010800000000000000000000000000000000000000180000004000000000000000000000000000000000000010000000000000000140400 msk) (hz : Within msk org s) : Within msk org (State.withdrawAll s p cause path ctx first last cancels) := by
  unfold State.withdrawAll
  repeat' with_reducible (first | assumption | intro _ | exact partOk_refl _ _ _ | apply Run.st_touch | apply State.withdraw_touch | apply State.linksWithdrawn_touch | apply within_ite | apply within_ite_fst | apply rows_ite | apply rows_if | apply within_foldl | apply within_foldl_fst | split | (dsimp only; split) | apply within_mk)
  all_goals first | exact sub_le (by decide) hm | exact partOk_bit (sub_bit hm (by decide)) | exact sub_bit hm (by decide) | exact .inr rfl

theorem State.lossClose_touch {msk : Nat} {org : State} (s : State) (l p o : Nat) (hm : sub 0xc0000003600020000000010800000000000000000000000000000000000000000000000000000004000000000000000000000000000000400068000000000000000 msk) (hz : Within msk org s) : Within msk org (State.lossClose s l p o) := by
  unfold State.lossClose
  repeat' with_reducible (first | assumption | intro _ | exact partOk_refl _ _ _ | apply State.setFld_touch | apply State.lateSeal_touch | apply within_ite | apply within_ite_fst | apply rows_ite | apply rows_if | apply within_foldl | apply within_foldl_fst | split | (dsimp only; split) | apply within_mk)
  all_goals try with_reducible (first | refine in_OT_STATE_SEALED_OPEN ?_ _)
  all_goals first | exact sub_le (by decide) hm | exact partOk_bit (sub_bit hm (by decide)) | exact sub_bit hm (by decide) | exact in_OT_STATE_SEALED_OPEN (sub_bit hm (by decide)) _ | exact .inr rfl

theorem State.nodeOut_touch {msk : Nat} {org : State} (s : State) (l p st : Nat) (hm : sub 0x4c0000003600020000000010800000000000000000000000000000000000001018000000000000004000000000000000000000000000000400068000000000000000 msk) (hz : Within msk org s) : Within msk org (State.nodeOut s l p st) := by
  unfold State.nodeOut
  repeat' with_reducible (first | assumption | intro _ | exact partOk_refl _ _ _ | apply Run.st_touch | apply State.setFld_touch | apply State.setLink_touch | apply State.raise_touch | apply State.refreshTargets_touch | apply State.linkCount_touch | apply State.lossClose_touch | apply within_ite | apply within_ite_fst | apply rows_ite | apply rows_if | apply within_foldl | apply within_foldl_fst | split | (dsimp only; split) | apply within_mk)
  all_goals try with_reducible (first | refine in_ND_STATE_STATE ?_ _ _ | refine in_LK_EVENT_NODE_LOST ?_ _ | refine in_LK_EVENT_DIVERGENT ?_ _)
  all_goals first | exact sub_le (by decide) hm | exact partOk_bit (sub_bit hm (by decide)) | exact sub_bit hm (by decide) | exact in_ND_STATE_STATE (sub_bit hm (by decide)) _ _ | exact in_LK_EVENT_NODE_LOST (sub_bit hm (by decide)) _ | exact in_LK_EVENT_DIVERGENT (sub_bit hm (by decide)) _ | exact .inr rfl

theorem State.nodeIn_touch {msk : Nat} {org : State} (s : State) (l p : Nat) (hm : sub 0x500000000000000000000000000000000000000000000000000000000000801188000000000000004000000000000000000000000000000000000000000000000000 msk) (hz : Within msk org s) : Within msk org (State.nodeIn s l p) := by
  unfold State.nodeIn
  repeat' with_reducible (first | assumption | intro _ | exact partOk_refl _ _ _ | apply State.setFld_touch | apply State.setLink_touch | apply State.resync_touch | apply State.sendSafeMap_touch | apply State.refreshTargets_touch | apply State.linkCount_touch | apply State.holdRefresh_touch | apply State.setOpen_touch | apply within_ite | apply within_ite_fst | apply rows_ite | apply rows_if | apply within_foldl | apply within_foldl_fst | split | (dsimp only; split) | apply within_mk)
  all_goals try with_reducible (first | refine in_ND_STATE_STATE ?_ _ _ | refine in_ND_SEQ_PENDING ?_ _ _ | refine in_ND_SEQ_ACK_SEQ ?_ _ _ | refine in_ND_SEQ_TX_SEQ ?_ _ _)
  all_goals first | exact sub_le (by decide) hm | exact partOk_bit (sub_bit hm (by decide)) | exact sub_bit hm (by decide) | exact in_ND_STATE_STATE (sub_bit hm (by decide)) _ _ | exact in_ND_SEQ_PENDING (sub_bit hm (by decide)) _ _ | exact in_ND_SEQ_ACK_SEQ (sub_bit hm (by decide)) _ _ | exact in_ND_SEQ_TX_SEQ (sub_bit hm (by decide)) _ _ | exact .inr rfl

theorem State.confirmed_touch {msk : Nat} {org : State} (s : State) (l p : Nat) (hm : sub 0x540000000000000000000010800000000000000000000000000000000000801198000000000000004000000000000000000000000000000000000000000000000000 msk) (hz : Within msk org s) : Within msk org (State.confirmed s l p) := by
  unfold State.confirmed
  repeat' with_reducible (first | assumption | intro _ | exact partOk_refl _ _ _ | apply State.nodeIn_touch | apply State.setLink_touch | apply State.raise_touch | apply State.setFld_touch | apply within_ite | apply within_ite_fst | apply rows_ite | apply rows_if | apply within_foldl | apply within_foldl_fst | split | (dsimp only; split) | apply within_mk)
  all_goals try with_reducible (first | refine in_LK_EVENT_NODE_ADDED ?_ _ | refine in_LK_STATUS_STATE ?_ _)
  all_goals first | exact sub_le (by decide) hm | exact partOk_bit (sub_bit hm (by decide)) | exact sub_bit hm (by decide) | exact in_LK_EVENT_NODE_ADDED (sub_bit hm (by decide)) _ | exact in_LK_STATUS_STATE (sub_bit hm (by decide)) _ | exact .inr rfl

theorem State.enumStep_touch {msk : Nat} {org : State} (s : State) (l : Nat) (hm : sub 0x400000000000000000000000000000000000000000000000000000000000000000000000000000000000000000000000000000000000000000000000000000000000 msk) (hz : Within msk org s) : Within msk org (State.enumStep s l) := by
  unfold State.enumStep
  repeat' with_reducible (first | assumption | intro _ | exact partOk_refl _ _ _ | apply State.setLink_touch | apply within_ite | apply within_ite_fst | apply rows_ite | apply rows_if | apply within_foldl | apply within_foldl_fst | split | (dsimp only; split) | apply within_mk)
  all_goals first | exact sub_le (by decide) hm | exact partOk_bit (sub_bit hm (by decide)) | exact sub_bit hm (by decide) | exact .inr rfl

theorem cycleCmd_touch {msk : Nat} {org : State} (l : Nat) (c : State × Nat × List OutFrame) (x : LinkCmd) (hm : sub 0x440000003600020000000010800000000000000000000000000000000000800000000000000000000000000000000000000000000000000000000000000000000000 msk) (hz : Within msk org c.1) : Within msk org (cycleCmd l c x).1 := by
  unfold cycleCmd
  repeat' with_reducible (first | assumption | intro _ | exact partOk_refl _ _ _ | apply State.setFld_touch | apply State.setLink_touch | apply State.count_touch | apply within_ite | apply within_ite_fst | apply rows_ite | apply rows_if | apply within_foldl | apply within_foldl_fst | split | (dsimp only; split) | apply within_mk)
  all_goals try with_reducible (first | refine in_ND_SEQ_TX_SEQ ?_ _ _)
  all_goals first | exact sub_le (by decide) hm | exact partOk_bit (sub_bit hm (by decide)) | exact sub_bit hm (by decide) | exact in_ND_SEQ_TX_SEQ (sub_bit hm (by decide)) _ _ | exact .inr rfl

theorem cycleCtl_touch {msk : Nat} {org : State} (l : Nat) (start : Time) (c : State × Nat × List OutFrame) (f : OutFrame) (hm : sub 0x400000000000000000000000000000000000000000000000000000000000000000000000000000000000000000000000000000000000000000000000000000000000 msk) (hz : Within msk org c.1) : Within msk org (cycleCtl l start c f).1 := by
  unfold cycleCtl
  split
  · rename_i d hd
    split
    · exact State.setLink_touch _ _ _ (sub_le (by decide) hm) hz
    · rw [cyclePut_fst hd]
      exact hz
  · exact State.queueFrame_touch _ _ _ (sub_le (by decide) hm) hz

theorem State.cycleEnds_touch {msk : Nat} {org : State} (s : State) (l : Nat) (hm : sub 0x540000000000000000000010800000000000000000000000000000000000801798000000000000004000000000000000000000000000000000000000000000000000 msk) (hz : Within msk org s) : Within msk org (State.cycleEnds s l) := by
  unfold State.cycleEnds
  repeat' with_reducible (first | assumption | intro _ | exact partOk_refl _ _ _ | apply State.confirmed_touch | apply State.setFld_touch | apply State.setLink_touch | apply within_ite | apply within_ite_fst | apply rows_ite | apply rows_if | apply within_foldl | apply within_foldl_fst | split | (dsimp only; split) | apply within_mk)
  all_goals try with_reducible (first | refine in_LK_SAFE_HI_SAFE ?_ _ | refine in_LK_SAFE_LO_SAFE ?_ _)
  all_goals first | exact sub_le (by decide) hm | exact partOk_bit (sub_bit hm (by decide)) | exact sub_bit hm (by decide) | exact in_LK_SAFE_HI_SAFE (sub_bit hm (by decide)) _ | exact in_LK_SAFE_LO_SAFE (sub_bit hm (by decide)) _ | exact .inr rfl

theorem State.linkCycle_touch {msk : Nat} {org : State} (s : State) (l : Nat) (hm : sub 0x540000003600020000000010800000000000000000000000000000000000801f98000000000000004000000000000000000000000000000000000000000000000000 msk) (hz : Within msk org s) : Within msk org (State.linkCycle s l) := by
  unfold State.linkCycle
  repeat' with_reducible (first | assumption | intro _ | exact partOk_refl _ _ _ | apply State.setFld_touch | apply State.cycleEnds_touch | apply State.enumStep_touch | apply State.hold_touch | apply State.setLink_touch | apply cycleCmd_touch | apply cycleCtl_touch | apply State.holdRefresh_touch | apply within_ite | apply within_ite_fst | apply rows_ite | apply rows_if | apply within_foldl | apply within_foldl_fst | split | (dsimp only; split) | apply within_mk)
  all_goals try with_reducible (first | refine in_LK_STATUS_STATE ?_ _ | refine in_LK_VALID_VALID ?_ _)
  all_goals first | exact sub_le (by decide) hm | exact partOk_bit (sub_bit hm (by decide)) | exact sub_bit hm (by decide) | exact in_LK_STATUS_STATE (sub_bit hm (by decide)) _ | exact in_LK_VALID_VALID (sub_bit hm (by decide)) _ | exact .inr rfl

theorem State.chainEnd_touch {msk : Nat} {org : State} (s : State) (l : Nat) (hm : sub 0x400000000000000000000000000000000000000000000000000000000000000008000000000000000000000000000000000000000000000000000000000000000000 msk) (hz : Within msk org s) : Within msk org (State.chainEnd s l) := by
  unfold State.chainEnd
  repeat' with_reducible (first | assumption | intro _ | exact partOk_refl _ _ _ | apply State.setLink_touch | apply State.setFld_touch | apply within_ite | apply within_ite_fst | apply rows_ite | apply rows_if | apply within_foldl | apply within_foldl_fst | split | (dsimp only; split) | apply within_mk)
  all_goals try with_reducible (first | refine in_LK_STATUS_STATE ?_ _)
  all_goals first | exact sub_le (by decide) hm | exact partOk_bit (sub_bit hm (by decide)) | exact sub_bit hm (by decide) | exact in_LK_STATUS_STATE (sub_bit hm (by decide)) _ | exact .inr rfl

theorem State.ident_touch {msk : Nat} {org : State} (s : State) (l p : Nat) (f : IdentIn) (hm : sub 0x44000000000000000000001080000000000000000000000000000000000001f018000000000000000000000000000000000000000000000000000000000000000000 msk) (hz : Within msk org s) : Within msk org (State.ident s l p f) := by
  unfold State.ident
  repeat' with_reducible (first | assumption | intro _ | exact partOk_refl _ _ _ | apply State.setFld_touch | apply State.setLink_touch | apply State.raise_touch | apply State.linkCount_touch | apply within_ite | apply within_ite_fst | apply rows_ite | apply rows_if | apply within_foldl | apply within_foldl_fst | split | (dsimp only; split) | apply within_mk)
  all_goals try with_reducible (first | refine in_LK_STATUS_RX_ALIGNED ?_ _ | refine in_LK_STATUS_STATE ?_ _ | refine in_LK_EVENT_MISMATCH ?_ _ | refine in_ND_STATE_MISMATCH ?_ _ _ | refine in_ND_DELAY_D ?_ _ _ | refine in_ND_STATE_OUT_COUNT ?_ _ _ | refine in_ND_STATE_OUT_BASE ?_ _ _ | refine in_ND_STATE_STATE ?_ _ _ | refine in_ND_CAPS_CAPS ?_ _ _ | refine in_ND_CAPS_WIN_MAX ?_ _ _ | refine in_ND_CAPS_QDEPTH ?_ _ _ | refine in_ND_SERIAL_SERIAL ?_ _ _ | refine in_ND_ID_PRODUCT ?_ _ _ | refine in_ND_ID_VENDOR ?_ _ _ | refine in_LK_EVENT_ID_CHANGED ?_ _ | refine in_ND_STATE_ID_CHANGED ?_ _ _)
  all_goals first | exact sub_le (by decide) hm | exact partOk_bit (sub_bit hm (by decide)) | exact sub_bit hm (by decide) | exact in_LK_STATUS_RX_ALIGNED (sub_bit hm (by decide)) _ | exact in_LK_STATUS_STATE (sub_bit hm (by decide)) _ | exact in_LK_EVENT_MISMATCH (sub_bit hm (by decide)) _ | exact in_ND_STATE_MISMATCH (sub_bit hm (by decide)) _ _ | exact in_ND_DELAY_D (sub_bit hm (by decide)) _ _ | exact in_ND_STATE_OUT_COUNT (sub_bit hm (by decide)) _ _ | exact in_ND_STATE_OUT_BASE (sub_bit hm (by decide)) _ _ | exact in_ND_STATE_STATE (sub_bit hm (by decide)) _ _ | exact in_ND_CAPS_CAPS (sub_bit hm (by decide)) _ _ | exact in_ND_CAPS_WIN_MAX (sub_bit hm (by decide)) _ _ | exact in_ND_CAPS_QDEPTH (sub_bit hm (by decide)) _ _ | exact in_ND_SERIAL_SERIAL (sub_bit hm (by decide)) _ _ | exact in_ND_ID_PRODUCT (sub_bit hm (by decide)) _ _ | exact in_ND_ID_VENDOR (sub_bit hm (by decide)) _ _ | exact in_LK_EVENT_ID_CHANGED (sub_bit hm (by decide)) _ | exact in_ND_STATE_ID_CHANGED (sub_bit hm (by decide)) _ _ | exact .inr rfl

theorem State.pong_touch {msk : Nat} {org : State} (s : State) (l p turn : Nat) (rx : Time) (hm : sub 0x400000000000000000000000000000000000000000000000000000000000030000000000000000000000000000000000000000000000000000000000000000000000 msk) (hz : Within msk org s) : Within msk org (State.pong s l p turn rx) := by
  unfold State.pong
  repeat' with_reducible (first | assumption | intro _ | exact partOk_refl _ _ _ | apply State.take_touch | apply State.setLink_touch | apply State.setFld_touch | apply State.queueFrame_touch | apply within_ite | apply within_ite_fst | apply rows_ite | apply rows_if | apply within_foldl | apply within_foldl_fst | split | (dsimp only; split) | apply within_mk)
  all_goals try with_reducible (first | refine in_ND_SPREAD_SPREAD ?_ _ _ | refine in_ND_DELAY_D ?_ _ _)
  all_goals first | exact sub_le (by decide) hm | exact partOk_bit (sub_bit hm (by decide)) | exact sub_bit hm (by decide) | exact in_ND_SPREAD_SPREAD (sub_bit hm (by decide)) _ _ | exact in_ND_DELAY_D (sub_bit hm (by decide)) _ _ | exact .inr rfl

theorem State.resync_touch {msk : Nat} {org : State} (s : State) (l p : Nat) (hm : sub 0x400000000000000000000000000000000000000000000000000000000000000000000000000000000000000000000000000000000000000000000000000000000000 msk) (hz : Within msk org s) : Within msk org (State.resync s l p) := by
  unfold State.resync
  repeat' with_reducible (first | assumption | intro _ | exact partOk_refl _ _ _ | apply State.queueFrame_touch | apply within_ite | apply within_ite_fst | apply rows_ite | apply rows_if | apply within_foldl | apply within_foldl_fst | split | (dsimp only; split) | apply within_mk)
  all_goals first | exact sub_le (by decide) hm | exact partOk_bit (sub_bit hm (by decide)) | exact sub_bit hm (by decide) | exact .inr rfl

theorem State.nodeStatus_touch {msk : Nat} {org : State} (s : State) (l p : Nat) (f : StatusIn) (hm : sub 0x4c0000003600020000000010800000000000000000000000000000000000001018000000000000004000000000000000000000000000000400068000000000000000 msk) (hz : Within msk org s) : Within msk org (State.nodeStatus s l p f) := by
  unfold State.nodeStatus
  repeat' with_reducible (first | assumption | intro _ | exact partOk_refl _ _ _ | apply Run.st_touch | apply State.setFld_touch | apply State.nodeOut_touch | apply State.resync_touch | apply within_ite | apply within_ite_fst | apply rows_ite | apply rows_if | apply within_foldl | apply within_foldl_fst | split | (dsimp only; split) | apply within_mk)
  all_goals try with_reducible (first | refine in_ND_STATE_NODE_STATE ?_ _ _)
  all_goals first | exact sub_le (by decide) hm | exact partOk_bit (sub_bit hm (by decide)) | exact sub_bit hm (by decide) | exact in_ND_STATE_NODE_STATE (sub_bit hm (by decide)) _ _ | exact .inr rfl

theorem State.markAcked_touch {msk : Nat} {org : State} (s : State) (i : Nat) (b : Bool) (hm : sub 0x100000000000000000000000000000000000000000000000000000000000000000000000000000000000000000000000000000000000000000000000000000000000 msk) (hz : Within msk org s) : Within msk org (State.markAcked s i b) := by
  unfold State.markAcked
  repeat' with_reducible (first | assumption | intro _ | exact partOk_refl _ _ _ | apply State.setEntry_touch | apply within_ite | apply within_ite_fst | apply rows_ite | apply rows_if | apply within_foldl | apply within_foldl_fst | split | (dsimp only; split) | apply within_mk)
  all_goals first | exact sub_le (by decide) hm | exact partOk_bit (sub_bit hm (by decide)) | exact sub_bit hm (by decide) | exact .inr rfl

theorem State.dutyAcked_touch {msk : Nat} {org : State} (s : State) (c : LinkCmd) (hm : sub 0x400000000000000000000000000000000000000000000000000000000000000000000000000000000000000000000000000000000000000000000000000000000000 msk) (hz : Within msk org s) : Within msk org (State.dutyAcked s c) := by
  unfold State.dutyAcked
  repeat' with_reducible (first | assumption | intro _ | exact partOk_refl _ _ _ | apply State.bind_touch | apply within_ite | apply within_ite_fst | apply rows_ite | apply rows_if | apply within_foldl | apply within_foldl_fst | split | (dsimp only; split) | apply within_mk)
  all_goals first | exact sub_le (by decide) hm | exact partOk_bit (sub_bit hm (by decide)) | exact sub_bit hm (by decide) | exact .inr rfl

theorem State.linkAck_touch {msk : Nat} {org : State} (s : State) (l p seq pending : Nat) (hm : sub 0x500000000000000000000000000000000000000000000000000000000000800180000000000000000000000000000000000000000000000000000000000000000000 msk) (hz : Within msk org s) : Within msk org (State.linkAck s l p seq pending) := by
  unfold State.linkAck
  repeat' with_reducible (first | assumption | intro _ | exact partOk_refl _ _ _ | apply State.setLink_touch | apply State.setFld_touch | apply State.markAcked_touch | apply State.dutyAcked_touch | apply State.holdRefresh_touch | apply within_ite | apply within_ite_fst | apply rows_ite | apply rows_if | apply within_foldl | apply within_foldl_fst | split | (dsimp only; split) | apply within_mk)
  all_goals try with_reducible (first | refine in_ND_SEQ_PENDING ?_ _ _ | refine in_ND_SEQ_ACK_SEQ ?_ _ _)
  all_goals first | exact sub_le (by decide) hm | exact partOk_bit (sub_bit hm (by decide)) | exact sub_bit hm (by decide) | exact in_ND_SEQ_PENDING (sub_bit hm (by decide)) _ _ | exact in_ND_SEQ_ACK_SEQ (sub_bit hm (by decide)) _ _ | exact .inr rfl

theorem State.linkReject_touch {msk : Nat} {org : State} (s : State) (l p seq : Nat) (hm : sub 0x540000000000000000000010800000000000000000000000000000000000000050000000000000000000000000000000000000000000000000000000000000000000 msk) (hz : Within msk org s) : Within msk org (State.linkReject s l p seq) := by
  unfold State.linkReject
  repeat' with_reducible (first | assumption | intro _ | exact partOk_refl _ _ _ | apply State.setLink_touch | apply State.bump_touch | apply State.raise_touch | apply State.markAcked_touch | apply within_ite | apply within_ite_fst | apply rows_ite | apply rows_if | apply within_foldl | apply within_foldl_fst | split | (dsimp only; split) | apply within_mk)
  all_goals try with_reducible (first | refine in_LK_EVENT_REJECT ?_ _ | refine in_LK_CNT2_REJECT_N ?_ _)
  all_goals first | exact sub_le (by decide) hm | exact partOk_bit (sub_bit hm (by decide)) | exact sub_bit hm (by decide) | exact in_LK_EVENT_REJECT (sub_bit hm (by decide)) _ | exact in_LK_CNT2_REJECT_N (sub_bit hm (by decide)) _ | exact .inr rfl

theorem State.linkRetry_touch {msk : Nat} {org : State} (s : State) (l p : Nat) (hm : sub 0x440000003600020000000010800000000000000000000000000000000000000040000000000000000000000000000000000000000000000000000000000000000000 msk) (hz : Within msk org s) : Within msk org (State.linkRetry s l p) := by
  unfold State.linkRetry
  repeat' with_reducible (first | assumption | intro _ | exact partOk_refl _ _ _ | apply State.setLink_touch | apply State.bump_touch | apply State.count_touch | apply within_ite | apply within_ite_fst | apply rows_ite | apply rows_if | apply within_foldl | apply within_foldl_fst | split | (dsimp only; split) | apply within_mk)
  all_goals try with_reducible (first | refine in_LK_CNT2_RETRY_N ?_ _)
  all_goals first | exact sub_le (by decide) hm | exact partOk_bit (sub_bit hm (by decide)) | exact sub_bit hm (by decide) | exact in_LK_CNT2_RETRY_N (sub_bit hm (by decide)) _ | exact .inr rfl

theorem State.nodeSeal_touch {msk : Nat} {org : State} (s : State) (l p : Nat) (f : SealIn) (hm : sub 0x1c0000003600020000000010800000000000000000000000000000000000000000000000000000004600000000000000000000001800000400068000000000140400 msk) (hz : Within msk org s) : Within msk org (State.nodeSeal s l p f) := by
  unfold State.nodeSeal
  repeat' with_reducible (first | assumption | intro _ | exact partOk_refl _ _ _ | apply State.sealEntry_touch | apply State.lossClose_touch | apply within_ite | apply within_ite_fst | apply rows_ite | apply rows_if | apply within_foldl | apply within_foldl_fst | split | (dsimp only; split) | apply within_mk)
  all_goals first | exact sub_le (by decide) hm | exact partOk_bit (sub_bit hm (by decide)) | exact sub_bit hm (by decide) | exact .inr rfl

theorem State.nodeDiag_touch {msk : Nat} {org : State} (s : State) (l p out fault value : Nat) (hm : sub 0x60000003611020000000010800000000000000000000000000000000000300000000000000000000000000000000000000000000000000000000000000000000000 msk) (hz : Within msk org s) : Within msk org (State.nodeDiag s l p out fault value) := by
  unfold State.nodeDiag
  repeat' with_reducible (first | assumption | intro _ | exact partOk_refl _ _ _ | apply State.setFld_touch | apply State.muslin_touch | apply within_ite | apply within_ite_fst | apply rows_ite | apply rows_if | apply within_foldl | apply within_foldl_fst | split | (dsimp only; split) | apply within_mk)
  all_goals try with_reducible (first | refine in_ND_DIAGV_VALUE ?_ _ _ | refine in_ND_DIAG_FAULT ?_ _ _ | refine in_ND_DIAG_OUT ?_ _ _)
  all_goals first | exact sub_le (by decide) hm | exact partOk_bit (sub_bit hm (by decide)) | exact sub_bit hm (by decide) | exact in_ND_DIAGV_VALUE (sub_bit hm (by decide)) _ _ | exact in_ND_DIAG_FAULT (sub_bit hm (by decide)) _ _ | exact in_ND_DIAG_OUT (sub_bit hm (by decide)) _ _ | exact .inr rfl

theorem State.holdFrame_touch {msk : Nat} {org : State} (s : State) (i : Instr) (hm : sub 0x10000000000000000000000000000000000000000000000000000000000000000000000000000000000000000000000000000000000000000000000000000000000000 msk) (hz : Within msk org s) : Within msk org (State.holdFrame s i) := by
  unfold State.holdFrame
  repeat' with_reducible (first | assumption | intro _ | exact partOk_refl _ _ _ | apply State.hold_touch | apply within_ite | apply within_ite_fst | apply rows_ite | apply rows_if | apply within_foldl | apply within_foldl_fst | split | (dsimp only; split) | apply within_mk)
  all_goals first | exact sub_le (by decide) hm | exact partOk_bit (sub_bit hm (by decide)) | exact sub_bit hm (by decide) | exact .inr rfl

theorem State.passFrame_touch {msk : Nat} {org : State} (s : State) (i : Instr) (hm : sub 0x1e0000003611020000000010800000000000000000000000000000000000300000000000000000004600000000000000000000001800000400068000000000140400 msk) (hz : Within msk org s) : Within msk org (State.passFrame s i) := by
  unfold State.passFrame
  repeat' with_reducible (first | assumption | intro _ | exact partOk_refl _ _ _ | apply State.nodeSeal_touch | apply State.nodeDiag_touch | apply within_ite | apply within_ite_fst | apply rows_ite | apply rows_if | apply within_foldl | apply within_foldl_fst | split | (dsimp only; split) | apply within_mk)
  all_goals first | exact sub_le (by decide) hm | exact partOk_bit (sub_bit hm (by decide)) | exact sub_bit hm (by decide) | exact .inr rfl

theorem State.noReport_touch {msk : Nat} {org : State} (s : State) (i : Nat) (hm : sub 0x1c0000003600020000000010800000000000000000000000000000000000400000000000000000004600000000000000000000001800000400068000000000140400 msk) (hz : Within msk org s) : Within msk org (State.noReport s i) := by
  unfold State.noReport
  repeat' with_reducible (first | assumption | intro _ | exact partOk_refl _ _ _ | apply Run.st_touch | apply State.bump_touch | apply State.sealEntry_touch | apply State.lossClose_touch | apply within_ite | apply within_ite_fst | apply rows_ite | apply rows_if | apply within_foldl | apply within_foldl_fst | split | (dsimp only; split) | apply within_mk)
  all_goals try with_reducible (first | refine in_ND_CNT_NOREP_N ?_ _ _)
  all_goals first | exact sub_le (by decide) hm | exact partOk_bit (sub_bit hm (by decide)) | exact sub_bit hm (by decide) | exact in_ND_CNT_NOREP_N (sub_bit hm (by decide)) _ _ | exact .inr rfl

theorem State.nodeLost_touch {msk : Nat} {org : State} (s : State) (l p : Nat) (hm : sub 0x4c0000003600020000000010800000000000000000000000000000000000001018000000000000004000000000000000000000000000000400068000000000000000 msk) (hz : Within msk org s) : Within msk org (State.nodeLost s l p) := by
  unfold State.nodeLost
  repeat' with_reducible (first | assumption | intro _ | exact partOk_refl _ _ _ | apply State.nodeOut_touch | apply within_ite | apply within_ite_fst | apply rows_ite | apply rows_if | apply within_foldl | apply within_foldl_fst | split | (dsimp only; split) | apply within_mk)
  all_goals first | exact sub_le (by decide) hm | exact partOk_bit (sub_bit hm (by decide)) | exact sub_bit hm (by decide) | exact .inr rfl

theorem State.nodeReset_touch {msk : Nat} {org : State} (s : State) (l p : Nat) (hm : sub 0x400000000000000000000000000000000000000000000000000000000000001188000000000000004000000000000000000000000000000000000000000000000000 msk) (hz : Within msk org s) : Within msk org (State.nodeReset s l p) := by
  unfold State.nodeReset
  repeat' with_reducible (first | assumption | intro _ | exact partOk_refl _ _ _ | apply State.setLink_touch | apply State.setFld_touch | apply State.refreshTargets_touch | apply State.linkCount_touch | apply State.holdRefresh_touch | apply within_ite | apply within_ite_fst | apply rows_ite | apply rows_if | apply within_foldl | apply within_foldl_fst | split | (dsimp only; split) | apply within_mk)
  all_goals try with_reducible (first | refine in_ND_STATE_OUT_COUNT ?_ _ _ | refine in_ND_STATE_STATE ?_ _ _)
  all_goals first | exact sub_le (by decide) hm | exact partOk_bit (sub_bit hm (by decide)) | exact sub_bit hm (by decide) | exact in_ND_STATE_OUT_COUNT (sub_bit hm (by decide)) _ _ | exact in_ND_STATE_STATE (sub_bit hm (by decide)) _ _ | exact .inr rfl

theorem State.nodeRemove_touch {msk : Nat} {org : State} (s : State) (l p : Nat) (hm : sub 0x440000000000000000000010800000000000000000000000000000000000001198000000000000004000000000000000000000000000000000000000000000000000 msk) (hz : Within msk org s) : Within msk org (State.nodeRemove s l p) := by
  unfold State.nodeRemove
  repeat' with_reducible (first | assumption | intro _ | exact partOk_refl _ _ _ | apply State.nodeReset_touch | apply State.raise_touch | apply within_ite | apply within_ite_fst | apply rows_ite | apply rows_if | apply within_foldl | apply within_foldl_fst | split | (dsimp only; split) | apply within_mk)
  all_goals try with_reducible (first | refine in_LK_EVENT_CFG_ERR ?_ _)
  all_goals first | exact sub_le (by decide) hm | exact partOk_bit (sub_bit hm (by decide)) | exact sub_bit hm (by decide) | exact in_LK_EVENT_CFG_ERR (sub_bit hm (by decide)) _ | exact .inr rfl

theorem State.nodeAccept_touch {msk : Nat} {org : State} (s : State) (l p : Nat) (hm : sub 0x1000000000000000004000000000000000000000000000000000000000000000000000 msk) (hz : Within msk org s) : Within msk org (State.nodeAccept s l p) := by
  unfold State.nodeAccept
  repeat' with_reducible (first | assumption | intro _ | exact partOk_refl _ _ _ | apply State.setFld_touch | apply State.refreshTargets_touch | apply within_ite | apply within_ite_fst | apply rows_ite | apply rows_if | apply within_foldl | apply within_foldl_fst | split | (dsimp only; split) | apply within_mk)
  all_goals try with_reducible (first | refine in_ND_STATE_ID_CHANGED ?_ _ _)
  all_goals first | exact sub_le (by decide) hm | exact partOk_bit (sub_bit hm (by decide)) | exact sub_bit hm (by decide) | exact in_ND_STATE_ID_CHANGED (sub_bit hm (by decide)) _ _ | exact .inr rfl

theorem State.nodeResync_touch {msk : Nat} {org : State} (s : State) (l p : Nat) (hm : sub 0x400000000000000000000000000000000000000000000000000000000000000000000000000000000000000000000000000000000000000000000000000000000000 msk) (hz : Within msk org s) : Within msk org (State.nodeResync s l p) := by
  unfold State.nodeResync
  repeat' with_reducible (first | assumption | intro _ | exact partOk_refl _ _ _ | apply Run.st_touch | apply State.resync_touch | apply State.setLink_touch | apply within_ite | apply within_ite_fst | apply rows_ite | apply rows_if | apply within_foldl | apply within_foldl_fst | split | (dsimp only; split) | apply within_mk)
  all_goals first | exact sub_le (by decide) hm | exact partOk_bit (sub_bit hm (by decide)) | exact sub_bit hm (by decide) | exact .inr rfl

theorem State.interrupt_touch {msk : Nat} {org : State} (s : State) (l : Nat) (hm : sub 0x400000000000000000000000000000000000000000000000000000000000000000000000000000000000000000000000000000000000000000000000000000000000 msk) (hz : Within msk org s) : Within msk org (State.interrupt s l) := by
  unfold State.interrupt
  repeat' with_reducible (first | assumption | intro _ | exact partOk_refl _ _ _ | apply State.setLink_touch | apply within_ite | apply within_ite_fst | apply rows_ite | apply rows_if | apply within_foldl | apply within_foldl_fst | split | (dsimp only; split) | apply within_mk)
  all_goals first | exact sub_le (by decide) hm | exact partOk_bit (sub_bit hm (by decide)) | exact sub_bit hm (by decide) | exact .inr rfl

theorem State.linksStop_touch {msk : Nat} {org : State} (s : State) (sp : Nat) (hm : sub 0x400000000000000000000000000000000000000000000000000000000000000000000000000000000000000000000000000000000000000000000000000000000000 msk) (hz : Within msk org s) : Within msk org (State.linksStop s sp) := by
  unfold State.linksStop
  repeat' with_reducible (first | assumption | intro _ | exact partOk_refl _ _ _ | apply State.interrupt_touch | apply State.setLink_touch | apply within_ite | apply within_ite_fst | apply rows_ite | apply rows_if | apply within_foldl | apply within_foldl_fst | split | (dsimp only; split) | apply within_mk)
  all_goals first | exact sub_le (by decide) hm | exact partOk_bit (sub_bit hm (by decide)) | exact sub_bit hm (by decide) | exact .inr rfl

theorem State.linksRelease_touch {msk : Nat} {org : State} (s : State) (hm : sub 0x400000000000000000000000000000000000000000000000000000000000000000000000000000000000000000000000000000000000000000000000000000000000 msk) (hz : Within msk org s) : Within msk org (State.linksRelease s) := by
  unfold State.linksRelease
  repeat' with_reducible (first | assumption | intro _ | exact partOk_refl _ _ _ | apply State.setLink_touch | apply within_ite | apply within_ite_fst | apply rows_ite | apply rows_if | apply within_foldl | apply within_foldl_fst | split | (dsimp only; split) | apply within_mk)
  all_goals first | exact sub_le (by decide) hm | exact partOk_bit (sub_bit hm (by decide)) | exact sub_bit hm (by decide) | exact .inr rfl

theorem State.sendMode_touch {msk : Nat} {org : State} (s : State) (l p mode : Nat) (data : List Byte) (due : Time) (hm : sub 0x400000000000000000000000000000000000000000000000000000000000000000000000000000000000000000000000000000000000000000000000000000000000 msk) (hz : Within msk org s) : Within msk org (State.sendMode s l p mode data due) := by
  unfold State.sendMode
  repeat' with_reducible (first | assumption | intro _ | exact partOk_refl _ _ _ | apply State.setLink_touch | apply within_ite | apply within_ite_fst | apply rows_ite | apply rows_if | apply within_foldl | apply within_foldl_fst | split | (dsimp only; split) | apply within_mk)
  all_goals first | exact sub_le (by decide) hm | exact partOk_bit (sub_bit hm (by decide)) | exact sub_bit hm (by decide) | exact .inr rfl

theorem State.modeBoundary_touch {msk : Nat} {org : State} (s : State) (hm : sub 0x4c0000003600020000000010800000000000000000000000000000000000001018000000000000004000000000000000000000000000000400068000000000000000 msk) (hz : Within msk org s) : Within msk org (State.modeBoundary s) := by
  unfold State.modeBoundary
  repeat' with_reducible (first | assumption | intro _ | exact partOk_refl _ _ _ | apply State.nodeOut_touch | apply State.setLink_touch | apply within_ite | apply within_ite_fst | apply rows_ite | apply rows_if | apply within_foldl | apply within_foldl_fst | split | (dsimp only; split) | apply within_mk)
  all_goals first | exact sub_le (by decide) hm | exact partOk_bit (sub_bit hm (by decide)) | exact sub_bit hm (by decide) | exact .inr rfl

theorem State.lkWrite_touch {msk : Nat} {org : State} (s : State) (a v : Nat) (hm : sub 0x440000000000000000000010800000000000000000000000000000000000001198000000000000004000000000000000000000000000000000000000000000000000 msk) (ha : RowsHave msk a) (hz : Within msk org s) : Within msk org (State.lkWrite s a v) := by
  unfold State.lkWrite
  repeat' with_reducible (first | assumption | intro _ | exact partOk_refl _ _ _ | apply State.writeCodes_touch | apply State.setFld_touch | apply State.nodeAccept_touch | apply State.nodeRemove_touch | apply State.nodeReset_touch | apply State.nodeResync_touch | apply within_ite | apply within_ite_fst | apply rows_ite | apply rows_if | apply within_foldl | apply within_foldl_fst | split | (dsimp only; split) | apply within_mk)
  all_goals try with_reducible (first | refine in_LK_STATUS_STATE ?_ _)
  all_goals first | exact sub_le (by decide) hm | exact partOk_bit (sub_bit hm (by decide)) | exact sub_bit hm (by decide) | exact in_LK_STATUS_STATE (sub_bit hm (by decide)) _ | exact .inr rfl

end Sys2Proof.Machine
end

