-- ==== Sys2Proof/Laws/TouchLoopIn.lean ====
section
/-! SUPPORT. What each operation of Machine/LoopIn.lean may change, as a mask. -/

namespace Sys2Proof.Machine

set_option linter.all false
set_option Elab.async false

theorem State.setSlot_touch {msk : Nat} {org : State} (s : State) (n : Nat) (x : SlotState) (hm : sub 0x800000000000000000000000000000000000000000000000000000000000000000000000000000000000000000000000000000000000000000000000000000000000 msk) (hz : Within msk org s) : Within msk org (State.setSlot s n x) := by
  unfold State.setSlot
  repeat' with_reducible (first | assumption | intro _ | exact partOk_refl _ _ _ | apply within_ite | apply within_ite_fst | apply rows_ite | apply rows_if | apply within_foldl | apply within_foldl_fst | split | (dsimp only; split) | apply within_mk)
  all_goals first | exact sub_le (by decide) hm | exact partOk_bit (sub_bit hm (by decide)) | exact sub_bit hm (by decide) | exact .inr rfl

theorem State.setCore_touch {msk : Nat} {org : State} (s : State) (c : Nat) (x : CoreState) (hm : sub 0x800000000000000000000000000000000000000000000000000000000000000000000000000000000000000000000000000000000000000000000000000000000000 msk) (hz : Within msk org s) : Within msk org (State.setCore s c x) := by
  unfold State.setCore
  repeat' with_reducible (first | assumption | intro _ | exact partOk_refl _ _ _ | apply within_ite | apply within_ite_fst | apply rows_ite | apply rows_if | apply within_foldl | apply within_foldl_fst | split | (dsimp only; split) | apply within_mk)
  all_goals first | exact sub_le (by decide) hm | exact partOk_bit (sub_bit hm (by decide)) | exact sub_bit hm (by decide) | exact .inr rfl

theorem State.setCounter_touch {msk : Nat} {org : State} (s : State) (k : Nat) (x : CounterState) (hm : sub 0x800000000000000000000000000000000000000000000000000000000000000000000000000000000000000000000000000000000000000000000000000000000000 msk) (hz : Within msk org s) : Within msk org (State.setCounter s k x) := by
  unfold State.setCounter
  repeat' with_reducible (first | assumption | intro _ | exact partOk_refl _ _ _ | apply within_ite | apply within_ite_fst | apply rows_ite | apply rows_if | apply within_foldl | apply within_foldl_fst | split | (dsimp only; split) | apply within_mk)
  all_goals first | exact sub_le (by decide) hm | exact partOk_bit (sub_bit hm (by decide)) | exact sub_bit hm (by decide) | exact .inr rfl

theorem State.slFlag_touch {msk : Nat} {org : State} (s : State) (n f : Nat) (hm : sub 0x40000000000000000000010800000000000000000000000000002000002000000000000000000000000000000000000000000000000000000000000000000000000 msk) (hz : Within msk org s) : Within msk org (State.slFlag s n f) := by
  unfold State.slFlag
  repeat' with_reducible (first | assumption | intro _ | exact partOk_refl _ _ _ | apply State.setFbit_touch | apply State.raise_touch | apply within_ite | apply within_ite_fst | apply rows_ite | apply rows_if | apply within_foldl | apply within_foldl_fst | split | (dsimp only; split) | apply within_mk)
  all_goals try with_reducible (first | refine in_LP_EVENT_SLOT_FLAG ?_ | refine has_SL_FLAGS ?_ _)
  all_goals first | exact sub_le (by decide) hm | exact partOk_bit (sub_bit hm (by decide)) | exact sub_bit hm (by decide) | exact in_LP_EVENT_SLOT_FLAG (sub_bit hm (by decide)) | exact has_SL_FLAGS (sub_bit hm (by decide)) _ | exact .inr rfl

theorem State.countBy_touch {msk : Nat} {org : State} (s : State) (k : Nat) (d : Int) (t : Time) (hm : sub 0x800000000000000000000000000000000000000000000000000000120000000000000000000000000000000000000000000000000000000000000000000000000000 msk) (hz : Within msk org s) : Within msk org (State.countBy s k d t) := by
  unfold State.countBy
  repeat' with_reducible (first | assumption | intro _ | exact partOk_refl _ _ _ | apply State.setCounter_touch | apply State.setBit_touch | apply State.setFld_touch | apply within_ite | apply within_ite_fst | apply rows_ite | apply rows_if | apply within_foldl | apply within_foldl_fst | split | (dsimp only; split) | apply within_mk)
  all_goals try with_reducible (first | refine in_PC_STAT_REVERSE ?_ _ | refine in_PC_COUNT_COUNT ?_ _)
  all_goals first | exact sub_le (by decide) hm | exact partOk_bit (sub_bit hm (by decide)) | exact sub_bit hm (by decide) | exact in_PC_STAT_REVERSE (sub_bit hm (by decide)) _ | exact in_PC_COUNT_COUNT (sub_bit hm (by decide)) _ | exact .inr rfl

theorem State.countSet_touch {msk : Nat} {org : State} (s : State) (k : Nat) (n : Int) (hm : sub 0x800000000000000000000000000000000000000000000000000000020000000000000000000000000000000000000000000000000000000000000000000000000000 msk) (hz : Within msk org s) : Within msk org (State.countSet s k n) := by
  unfold State.countSet
  repeat' with_reducible (first | assumption | intro _ | exact partOk_refl _ _ _ | apply State.setCounter_touch | apply State.setFld_touch | apply within_ite | apply within_ite_fst | apply rows_ite | apply rows_if | apply within_foldl | apply within_foldl_fst | split | (dsimp only; split) | apply within_mk)
  all_goals try with_reducible (first | refine in_PC_COUNT_COUNT ?_ _)
  all_goals first | exact sub_le (by decide) hm | exact partOk_bit (sub_bit hm (by decide)) | exact sub_bit hm (by decide) | exact in_PC_COUNT_COUNT (sub_bit hm (by decide)) _ | exact .inr rfl

theorem State.counterEdge_touch {msk : Nat} {org : State} (s : State) (k i : Nat) (rising : Bool) (t : Time) (hm : sub 0x800000000000000000000000000000000000000000000000000000120000000000000000000000000000000000000000000000000000000000000000000000000000 msk) (hz : Within msk org s) : Within msk org (State.counterEdge s k i rising t).1 := by
  unfold State.counterEdge
  repeat' with_reducible (first | assumption | intro _ | exact partOk_refl _ _ _ | apply State.setCounter_touch | apply State.setFld_touch | apply State.countBy_touch | apply State.countSet_touch | apply within_ite | apply within_ite_fst | apply rows_ite | apply rows_if | apply within_foldl | apply within_foldl_fst | split | (dsimp only; split) | apply within_mk)
  all_goals try with_reducible (first | refine in_PC_STAT_INDEX_SEEN ?_ _ | refine in_PC_COUNT_COUNT ?_ _ | refine in_PC_STAT_VALID ?_ _ | refine in_PC_STAT_SEQ_ERR ?_ _)
  all_goals first | exact sub_le (by decide) hm | exact partOk_bit (sub_bit hm (by decide)) | exact sub_bit hm (by decide) | exact in_PC_STAT_INDEX_SEEN (sub_bit hm (by decide)) _ | exact in_PC_COUNT_COUNT (sub_bit hm (by decide)) _ | exact in_PC_STAT_VALID (sub_bit hm (by decide)) _ | exact in_PC_STAT_SEQ_ERR (sub_bit hm (by decide)) _ | exact .inr rfl

theorem State.setInput_touch {msk : Nat} {org : State} (s : State) (i : Nat) (x : InState) (hm : sub 0x2000000000000000000000000000000000000000000000000000000000000000000000000000000000000000000000000000000000000000000000000000000000000 msk) (hz : Within msk org s) : Within msk org (State.setInput s i x) := by
  unfold State.setInput
  repeat' with_reducible (first | assumption | intro _ | exact partOk_refl _ _ _ | apply within_ite | apply within_ite_fst | apply rows_ite | apply rows_if | apply within_foldl | apply within_foldl_fst | split | (dsimp only; split) | apply within_mk)
  all_goals first | exact sub_le (by decide) hm | exact partOk_bit (sub_bit hm (by decide)) | exact sub_bit hm (by decide) | exact .inr rfl

theorem State.setRxObj_touch {msk : Nat} {org : State} (s : State) (k : Nat) (x : RxObj) (hm : sub 0x4000000000000000000000000000000000000000000000000000000000000000000000000000000000000000000000000000000000000000000000000000000000000 msk) (hz : Within msk org s) : Within msk org (State.setRxObj s k x) := by
  unfold State.setRxObj
  repeat' with_reducible (first | assumption | intro _ | exact partOk_refl _ _ _ | apply within_ite | apply within_ite_fst | apply rows_ite | apply rows_if | apply within_foldl | apply within_foldl_fst | split | (dsimp only; split) | apply within_mk)
  all_goals first | exact sub_le (by decide) hm | exact partOk_bit (sub_bit hm (by decide)) | exact sub_bit hm (by decide) | exact .inr rfl

theorem State.slotOut_touch {msk : Nat} {org : State} (s : State) (n p : Nat) (v : Int) (hm : sub 0x80000000000000000000000000000000000000000000000000000000000000000000000000000000 msk) (hz : Within msk org s) : Within msk org (State.slotOut s n p v) := by
  unfold State.slotOut
  repeat' with_reducible (first | assumption | intro _ | exact partOk_refl _ _ _ | apply State.setSfld_touch | apply within_ite | apply within_ite_fst | apply rows_ite | apply rows_if | apply within_foldl | apply within_foldl_fst | split | (dsimp only; split) | apply within_mk)
  all_goals try with_reducible (first | refine in_SL_OUT_VALUE ?_ _ _)
  all_goals first | exact sub_le (by decide) hm | exact partOk_bit (sub_bit hm (by decide)) | exact sub_bit hm (by decide) | exact in_SL_OUT_VALUE (sub_bit hm (by decide)) _ _ | exact .inr rfl

theorem State.slotSoft_touch {msk : Nat} {org : State} (s : State) (n : Nat) (hm : sub 0x800000000000000000000000000000000000000000000000000009000000000000000000000000000000000000000000000000000000000000000000000000000000 msk) (hz : Within msk org s) : Within msk org (State.slotSoft s n) := by
  unfold State.slotSoft
  repeat' with_reducible (first | assumption | intro _ | exact partOk_refl _ _ _ | apply State.setFld_touch | apply State.setSlot_touch | apply State.sampled_touch | apply State.setSfld_touch | apply within_ite | apply within_ite_fst | apply rows_ite | apply rows_if | apply within_foldl | apply within_foldl_fst | split | (dsimp only; split) | apply within_mk)
  all_goals try with_reducible (first | refine in_SL_STATE_SAFE_CAUSE ?_ _ | refine in_SL_STATE_STATE ?_ _ | refine in_SL_RAMP_R ?_ _)
  all_goals first | exact sub_le (by decide) hm | exact partOk_bit (sub_bit hm (by decide)) | exact sub_bit hm (by decide) | exact in_SL_STATE_SAFE_CAUSE (sub_bit hm (by decide)) _ | exact in_SL_STATE_STATE (sub_bit hm (by decide)) _ | exact in_SL_RAMP_R (sub_bit hm (by decide)) _ | exact .inr rfl

theorem State.contribute_touch {msk : Nat} {org : State} (s : State) (o v : Nat) (hm : sub 0x800000000000000000000000000000000000000000000000000000000000000000000000000000000000000000000000000000000000000000000000000000000000 msk) (hz : Within msk org s) : Within msk org (State.contribute s o v) := by
  unfold State.contribute
  repeat' with_reducible (first | assumption | intro _ | exact partOk_refl _ _ _ | apply within_ite | apply within_ite_fst | apply rows_ite | apply rows_if | apply within_foldl | apply within_foldl_fst | split | (dsimp only; split) | apply within_mk)
  all_goals first | exact sub_le (by decide) hm | exact partOk_bit (sub_bit hm (by decide)) | exact sub_bit hm (by decide) | exact .inr rfl

theorem State.tableTake_touch {msk : Nat} {org : State} (s : State) (v : Nat) (hm : sub 0x800000000000000000000000000000000000000000000000010000000000000000000000000000000000000000000000000000000000000000000000000000000000 msk) (hz : Within msk org s) : Within msk org (State.tableTake s v) := by
  unfold State.tableTake
  repeat' with_reducible (first | assumption | intro _ | exact partOk_refl _ _ _ | apply State.setFld_touch | apply within_ite | apply within_ite_fst | apply rows_ite | apply rows_if | apply within_foldl | apply within_foldl_fst | split | (dsimp only; split) | apply within_mk)
  all_goals try with_reducible (first | refine in_TBL_ENTRY ?_ _ _)
  all_goals first | exact sub_le (by decide) hm | exact partOk_bit (sub_bit hm (by decide)) | exact sub_bit hm (by decide) | exact in_TBL_ENTRY (sub_bit hm (by decide)) _ _ | exact .inr rfl

theorem State.coefTake_touch {msk : Nat} {org : State} (s : State) (n : Nat) (hm : sub 0x800000000000000000000000000000000000000000000000100000000000000000000000000000000000000000000000000000000000000000000000000000000000 msk) (hz : Within msk org s) : Within msk org (State.coefTake s n) := by
  unfold State.coefTake
  repeat' with_reducible (first | assumption | intro _ | exact partOk_refl _ _ _ | apply State.setFld_touch | apply within_ite | apply within_ite_fst | apply rows_ite | apply rows_if | apply within_foldl | apply within_foldl_fst | split | (dsimp only; split) | apply within_mk)
  all_goals try with_reducible (first | refine in_COEF_C ?_ _ _)
  all_goals first | exact sub_le (by decide) hm | exact partOk_bit (sub_bit hm (by decide)) | exact sub_bit hm (by decide) | exact in_COEF_C (sub_bit hm (by decide)) _ _ | exact .inr rfl

theorem State.tableCommit_touch {msk : Nat} {org : State} (s : State) (v : Nat) (hm : sub 0x800000000000000000000000000000000000000000000000010000000008000000000000000000000000000000000000000000000000000000000000000000000000 msk) (hz : Within msk org s) : Within msk org (State.tableCommit s v) := by
  unfold State.tableCommit
  repeat' with_reducible (first | assumption | intro _ | exact partOk_refl _ _ _ | apply State.setFld_touch | apply State.tableTake_touch | apply within_ite | apply within_ite_fst | apply rows_ite | apply rows_if | apply within_foldl | apply within_foldl_fst | split | (dsimp only; split) | apply within_mk)
  all_goals try with_reducible (first | refine in_TB_COMMIT_PENDING ?_)
  all_goals first | exact sub_le (by decide) hm | exact partOk_bit (sub_bit hm (by decide)) | exact sub_bit hm (by decide) | exact in_TB_COMMIT_PENDING (sub_bit hm (by decide)) | exact .inr rfl

theorem State.coefCommit_touch {msk : Nat} {org : State} (s : State) (n : Nat) (hm : sub 0x800000000000000000000000000000000000000000000000100001000000000000000000000000000000000000000000000000000000000000000000000000000000 msk) (hz : Within msk org s) : Within msk org (State.coefCommit s n) := by
  unfold State.coefCommit
  repeat' with_reducible (first | assumption | intro _ | exact partOk_refl _ _ _ | apply State.setFld_touch | apply State.coefTake_touch | apply within_ite | apply within_ite_fst | apply rows_ite | apply rows_if | apply within_foldl | apply within_foldl_fst | split | (dsimp only; split) | apply within_mk)
  all_goals try with_reducible (first | refine in_SL_STATE_COEF_PENDING ?_ _)
  all_goals first | exact sub_le (by decide) hm | exact partOk_bit (sub_bit hm (by decide)) | exact sub_bit hm (by decide) | exact in_SL_STATE_COEF_PENDING (sub_bit hm (by decide)) _ | exact .inr rfl

theorem State.loopSettle_touch {msk : Nat} {org : State} (s : State) (hm : sub 0x800000000000000000000000000000000000000000000000110001000008000000000000000000000000000000000000000000000000000000000000000000000000 msk) (hz : Within msk org s) : Within msk org (State.loopSettle s) := by
  unfold State.loopSettle
  repeat' with_reducible (first | assumption | intro _ | exact partOk_refl _ _ _ | apply State.tableTake_touch | apply State.setFld_touch | apply State.coefTake_touch | apply within_ite | apply within_ite_fst | apply rows_ite | apply rows_if | apply within_foldl | apply within_foldl_fst | split | (dsimp only; split) | apply within_mk)
  all_goals try with_reducible (first | refine in_TB_COMMIT_PENDING ?_ | refine in_SL_STATE_COEF_PENDING ?_ _)
  all_goals first | exact sub_le (by decide) hm | exact partOk_bit (sub_bit hm (by decide)) | exact sub_bit hm (by decide) | exact in_TB_COMMIT_PENDING (sub_bit hm (by decide)) | exact in_SL_STATE_COEF_PENDING (sub_bit hm (by decide)) _ | exact .inr rfl

theorem State.loadData_touch {msk : Nat} {org : State} (s : State) (n : Nat) (hm : sub 0x80000000000000000000000000000000000000000000000000000000000000000000000000000000000 msk) (hz : Within msk org s) : Within msk org (State.loadData s n) := by
  unfold State.loadData
  repeat' with_reducible (first | assumption | intro _ | exact partOk_refl _ _ _ | apply State.setFld_touch | apply within_ite | apply within_ite_fst | apply rows_ite | apply rows_if | apply within_foldl | apply within_foldl_fst | split | (dsimp only; split) | apply within_mk)
  all_goals try with_reducible (first | refine in_DATA_D ?_ _ _)
  all_goals first | exact sub_le (by decide) hm | exact partOk_bit (sub_bit hm (by decide)) | exact sub_bit hm (by decide) | exact in_DATA_D (sub_bit hm (by decide)) _ _ | exact .inr rfl

theorem State.clrState_touch {msk : Nat} {org : State} (s : State) (n : Nat) (hm : sub 0x40000000000000000000010800000000000000000000000080000000002000000000000000000000000000000000000000000000000000000000000000000000000 msk) (hz : Within msk org s) : Within msk org (State.clrState s n) := by
  unfold State.clrState
  repeat' with_reducible (first | assumption | intro _ | exact partOk_refl _ _ _ | apply State.loadData_touch | apply State.raise_touch | apply within_ite | apply within_ite_fst | apply rows_ite | apply rows_if | apply within_foldl | apply within_foldl_fst | split | (dsimp only; split) | apply within_mk)
  all_goals try with_reducible (first | refine in_LP_EVENT_CFG_ERR ?_)
  all_goals first | exact sub_le (by decide) hm | exact partOk_bit (sub_bit hm (by decide)) | exact sub_bit hm (by decide) | exact in_LP_EVENT_CFG_ERR (sub_bit hm (by decide)) | exact .inr rfl

end Sys2Proof.Machine
end

