-- ==== Sys2Proof/Laws/TouchSwitches.lean ====
section
/-! SUPPORT. What each operation of Machine/Switches.lean may change, as a mask. -/

namespace Sys2Proof.Machine

set_option linter.all false
set_option Elab.async false

theorem State.setLsw_touch {msk : Nat} {org : State} (s : State) (n : Nat) (x : OutState) (hm : sub 0x1000000000000000000000000000000000000000000000000000000000000000000000000000000000000000000000000000000000000000000000000000000000000 msk) (hz : Within msk org s) : Within msk org (State.setLsw s n x) := by
  unfold State.setLsw
  repeat' with_reducible (first | assumption | intro _ | exact partOk_refl _ _ _ | apply within_ite | apply within_ite_fst | apply rows_ite | apply rows_if | apply within_foldl | apply within_foldl_fst | split | (dsimp only; split) | apply within_mk)
  all_goals first | exact sub_le (by decide) hm | exact partOk_bit (sub_bit hm (by decide)) | exact sub_bit hm (by decide) | exact .inr rfl

theorem State.lsInrush_touch {msk : Nat} {org : State} (s : State) (n : Nat) (t : Time) (hm : sub 0x1000000000000000000000000000000000000000000000000000000000000000000000000000000000000000000000000000000000000000000000000000000000000 msk) (hz : Within msk org s) : Within msk org (State.lsInrush s n t) := by
  unfold State.lsInrush
  repeat' with_reducible (first | assumption | intro _ | exact partOk_refl _ _ _ | apply State.setLsw_touch | apply within_ite | apply within_ite_fst | apply rows_ite | apply rows_if | apply within_foldl | apply within_foldl_fst | split | (dsimp only; split) | apply within_mk)
  all_goals first | exact sub_le (by decide) hm | exact partOk_bit (sub_bit hm (by decide)) | exact sub_bit hm (by decide) | exact .inr rfl

theorem State.lsTurnOn_touch {msk : Nat} {org : State} (s : State) (n : Nat) (t : Time) (hm : sub 0x1000000000000000000000000000000000000000000000000000000000000000000000000000000000000000000000000000000000000000000000000000000000000 msk) (hz : Within msk org s) : Within msk org (State.lsTurnOn s n t) := by
  unfold State.lsTurnOn
  repeat' with_reducible (first | assumption | intro _ | exact partOk_refl _ _ _ | apply State.setLsw_touch | apply State.lsInrush_touch | apply within_ite | apply within_ite_fst | apply rows_ite | apply rows_if | apply within_foldl | apply within_foldl_fst | split | (dsimp only; split) | apply within_mk)
  all_goals first | exact sub_le (by decide) hm | exact partOk_bit (sub_bit hm (by decide)) | exact sub_bit hm (by decide) | exact .inr rfl

theorem State.lsArmed_touch {msk : Nat} {org : State} (s : State) (hm : sub 0x1000000000000000000000000000000000000000000000040000000000000000000000000000000000000000000000000000000000000000000000000000000000000 msk) (hz : Within msk org s) : Within msk org (State.lsArmed s) := by
  unfold State.lsArmed
  repeat' with_reducible (first | assumption | intro _ | exact partOk_refl _ _ _ | apply State.setFld_touch | apply State.lsInrush_touch | apply State.setLsw_touch | apply within_ite | apply within_ite_fst | apply rows_ite | apply rows_if | apply within_foldl | apply within_foldl_fst | split | (dsimp only; split) | apply within_mk)
  all_goals try with_reducible (first | refine in_LS_STATE_IN_LIMIT ?_ _)
  all_goals first | exact sub_le (by decide) hm | exact partOk_bit (sub_bit hm (by decide)) | exact sub_bit hm (by decide) | exact in_LS_STATE_IN_LIMIT (sub_bit hm (by decide)) _ | exact .inr rfl

theorem State.lsRepaint_touch {msk : Nat} {org : State} (s : State) (hm : sub 0x10c0800003600020000000010800000000000000000000040000000000000000000000000000000000000000000000000000000000000000400068000000000000000 msk) (hz : Within msk org s) : Within msk org (State.lsRepaint s) := by
  unfold State.lsRepaint
  repeat' with_reducible (first | assumption | intro _ | exact partOk_refl _ _ _ | apply State.lsArmed_touch | apply State.tick_touch | apply State.setLsw_touch | apply State.lateSeal_touch | apply within_ite | apply within_ite_fst | apply rows_ite | apply rows_if | apply within_foldl | apply within_foldl_fst | split | (dsimp only; split) | apply within_mk)
  all_goals first | exact sub_le (by decide) hm | exact partOk_bit (sub_bit hm (by decide)) | exact sub_bit hm (by decide) | exact .inr rfl

theorem State.lsDuty_touch {msk : Nat} {org : State} (s : State) (n d : Nat) (hm : sub 0x1000000000000000000000000000000000000000000000020000000000000000000000000000000000000000000000000000000000000000000000000000000000000 msk) (hz : Within msk org s) : Within msk org (State.lsDuty s n d) := by
  unfold State.lsDuty
  repeat' with_reducible (first | assumption | intro _ | exact partOk_refl _ _ _ | apply State.setFld_touch | apply State.lsTurnOn_touch | apply within_ite | apply within_ite_fst | apply rows_ite | apply rows_if | apply within_foldl | apply within_foldl_fst | split | (dsimp only; split) | apply within_mk)
  all_goals try with_reducible (first | refine in_LS_DUTY_DUTY ?_ _)
  all_goals first | exact sub_le (by decide) hm | exact partOk_bit (sub_bit hm (by decide)) | exact sub_bit hm (by decide) | exact in_LS_DUTY_DUTY (sub_bit hm (by decide)) _ | exact .inr rfl

theorem State.lsEdge_touch {msk : Nat} {org : State} (s : State) (n kind : Nat) (due : Time) (entry : Nat) (hm : sub 0x10c0800003600020000000010800000000000000000000040000000000000000000000000000000000000000000000000000000000000000400068000000000000000 msk) (hz : Within msk org s) : Within msk org (State.lsEdge s n kind due entry) := by
  unfold State.lsEdge
  repeat' with_reducible (first | assumption | intro _ | exact partOk_refl _ _ _ | apply State.setLsw_touch | apply State.lsTurnOn_touch | apply State.lsRepaint_touch | apply State.lsArmed_touch | apply within_ite | apply within_ite_fst | apply rows_ite | apply rows_if | apply within_foldl | apply within_foldl_fst | split | (dsimp only; split) | apply within_mk)
  all_goals first | exact sub_le (by decide) hm | exact partOk_bit (sub_bit hm (by decide)) | exact sub_bit hm (by decide) | exact .inr rfl

theorem State.lsChanWrite_touch {msk : Nat} {org : State} (s : State) (sup own : Bool) (n off v : Nat) (hm : sub 0x1040000000000000000000010800000000000000000000072400000000000000000000000000000000000000000000000000000000000000000000000000000000000 msk) (ha : RowsHave msk (0x580100 + 0x40 * n + off)) (hz : Within msk org s) : Within msk org (State.lsChanWrite s sup own n off v) := by
  unfold State.lsChanWrite
  repeat' with_reducible (first | assumption | intro _ | exact partOk_refl _ _ _ | apply State.raise_touch | apply State.writeCodes_touch | apply State.lsTurnOn_touch | apply State.setLsw_touch | apply State.lsArmed_touch | apply State.setFld_touch | apply State.lsDuty_touch | apply within_ite | apply within_ite_fst | apply rows_ite | apply rows_if | apply within_foldl | apply within_foldl_fst | split | (dsimp only; split) | apply within_mk)
  all_goals try with_reducible (first | refine in_LS_EVENT_CFG_ERR ?_ | refine has_LS_CFG ?_ _ | refine in_LS_PERIOD_PERIOD ?_ _)
  all_goals first | exact sub_le (by decide) hm | exact partOk_bit (sub_bit hm (by decide)) | exact sub_bit hm (by decide) | exact in_LS_EVENT_CFG_ERR (sub_bit hm (by decide)) | exact has_LS_CFG (sub_bit hm (by decide)) _ | exact in_LS_PERIOD_PERIOD (sub_bit hm (by decide)) _ | exact .inr rfl

theorem State.lsUnlatch_touch {msk : Nat} {org : State} (s : State) (n : Nat) (hm : sub 0x10c0800003600020000000010800000000000000000000040400000000000000000000000000000000000000000000000000000000000000400068000000000000000 msk) (hz : Within msk org s) : Within msk org (State.lsUnlatch s n) := by
  unfold State.lsUnlatch
  repeat' with_reducible (first | assumption | intro _ | exact partOk_refl _ _ _ | apply State.setFld_touch | apply State.lsRepaint_touch | apply State.raise_touch | apply within_ite | apply within_ite_fst | apply rows_ite | apply rows_if | apply within_foldl | apply within_foldl_fst | split | (dsimp only; split) | apply within_mk)
  all_goals try with_reducible (first | refine in_LS_STATE_TSD ?_ _ | refine in_LS_STATE_LATCHED ?_ _ | refine in_LS_EVENT_CFG_ERR ?_)
  all_goals first | exact sub_le (by decide) hm | exact partOk_bit (sub_bit hm (by decide)) | exact sub_bit hm (by decide) | exact in_LS_STATE_TSD (sub_bit hm (by decide)) _ | exact in_LS_STATE_LATCHED (sub_bit hm (by decide)) _ | exact in_LS_EVENT_CFG_ERR (sub_bit hm (by decide)) | exact .inr rfl

theorem State.lsUnlock_touch {msk : Nat} {org : State} (s : State) (n : Nat) (hm : sub 0x10c0800003600020000000010800000000000000000000040400000000000000000000000000000000000000000000000000000000000000400068000000000000000 msk) (hz : Within msk org s) : Within msk org (State.lsUnlock s n) := by
  unfold State.lsUnlock
  repeat' with_reducible (first | assumption | intro _ | exact partOk_refl _ _ _ | apply State.setFld_touch | apply State.lsRepaint_touch | apply State.raise_touch | apply within_ite | apply within_ite_fst | apply rows_ite | apply rows_if | apply within_foldl | apply within_foldl_fst | split | (dsimp only; split) | apply within_mk)
  all_goals try with_reducible (first | refine in_LS_STATE_LOCKED ?_ _ | refine in_LS_EVENT_CFG_ERR ?_)
  all_goals first | exact sub_le (by decide) hm | exact partOk_bit (sub_bit hm (by decide)) | exact sub_bit hm (by decide) | exact in_LS_STATE_LOCKED (sub_bit hm (by decide)) _ | exact in_LS_EVENT_CFG_ERR (sub_bit hm (by decide)) | exact .inr rfl

theorem State.lsWrite_touch {msk : Nat} {org : State} (s : State) (sup own : Bool) (a v : Nat) (hm : sub 0x10c0800003600020000000010800000000000000000000072400000000000000000000000000000000000000000000000000000000000000400068000000000000000 msk) (ha : RowsHave msk a) (hz : Within msk org s) : Within msk org (State.lsWrite s sup own a v) := by
  unfold State.lsWrite
  repeat' with_reducible (first | assumption | intro _ | exact partOk_refl _ _ _ | apply State.lsChanWrite_touch | apply State.lsUnlatch_touch | apply State.lsUnlock_touch | apply State.writeCodes_touch | apply rows_ite | apply rows_if | apply within_foldl | apply within_foldl_fst | split | (dsimp only; split) | apply within_mk)
  all_goals try with_reducible (first | refine rows_eq ha (by simp only [inRange, Bool.and_eq_true, decide_eq_true_eq] at *; omega))
  all_goals first | exact sub_le (by decide) hm | exact partOk_bit (sub_bit hm (by decide)) | exact sub_bit hm (by decide) | exact rows_eq ha (by simp only [inRange, Bool.and_eq_true, decide_eq_true_eq] at *; omega) | exact .inr rfl

theorem State.switchRecord_touch {msk : Nat} {org : State} (s : State) (kind : Nat) (data : List Byte) (hm : sub 0x60000003611820000000010800000000000000000000000000000000000000000000000000000000000000000000000000000000000000000000000000000000000 msk) (hz : Within msk org s) : Within msk org (State.switchRecord s kind data) := by
  unfold State.switchRecord
  repeat' with_reducible (first | assumption | intro _ | exact partOk_refl _ _ _ | apply State.canvasWith_touch | apply within_ite | apply within_ite_fst | apply rows_ite | apply rows_if | apply within_foldl | apply within_foldl_fst | split | (dsimp only; split) | apply within_mk)
  all_goals first | exact sub_le (by decide) hm | exact partOk_bit (sub_bit hm (by decide)) | exact sub_bit hm (by decide) | exact .inr rfl

theorem State.lsLatched_touch {msk : Nat} {org : State} (s : State) (n cause : Nat) (hm : sub 0x60000003611820000000010800000000000000000000040000000000000000000000000000000000000000000000000000000000000000000000000000000000000 msk) (hz : Within msk org s) : Within msk org (State.lsLatched s n cause) := by
  unfold State.lsLatched
  repeat' with_reducible (first | assumption | intro _ | exact partOk_refl _ _ _ | apply State.setFld_touch | apply State.switchRecord_touch | apply within_ite | apply within_ite_fst | apply rows_ite | apply rows_if | apply within_foldl | apply within_foldl_fst | split | (dsimp only; split) | apply within_mk)
  all_goals try with_reducible (first | refine in_LS_STATE_LATCHED ?_ _)
  all_goals first | exact sub_le (by decide) hm | exact partOk_bit (sub_bit hm (by decide)) | exact sub_bit hm (by decide) | exact in_LS_STATE_LATCHED (sub_bit hm (by decide)) _ | exact .inr rfl

theorem State.lsShutdown_touch {msk : Nat} {org : State} (s : State) (n : Nat) (tj : Int) (hm : sub 0x10e08000036118200000000108000000000000000000008c0400000000000000000000000000000000000000000000000000000000000000400068000000000000000 msk) (hz : Within msk org s) : Within msk org (State.lsShutdown s n tj) := by
  unfold State.lsShutdown
  repeat' with_reducible (first | assumption | intro _ | exact partOk_refl _ _ _ | apply State.setSfld_touch | apply State.setFld_touch | apply State.setLsw_touch | apply State.raise_touch | apply State.lsLatched_touch | apply State.lsRepaint_touch | apply within_ite | apply within_ite_fst | apply rows_ite | apply rows_if | apply within_foldl | apply within_foldl_fst | split | (dsimp only; split) | apply within_mk)
  all_goals try with_reducible (first | refine in_LS_FAULT_TSD ?_ _ | refine in_LS_STATE_TSD ?_ _ | refine in_LS_TEMP_TJ ?_ _ | refine in_LS_EVENT_TSD ?_)
  all_goals first | exact sub_le (by decide) hm | exact partOk_bit (sub_bit hm (by decide)) | exact sub_bit hm (by decide) | exact in_LS_FAULT_TSD (sub_bit hm (by decide)) _ | exact in_LS_STATE_TSD (sub_bit hm (by decide)) _ | exact in_LS_TEMP_TJ (sub_bit hm (by decide)) _ | exact in_LS_EVENT_TSD (sub_bit hm (by decide)) | exact .inr rfl

theorem State.lsRestart_touch {msk : Nat} {org : State} (s : State) (n : Nat) (tj : Int) (hm : sub 0x10c0800003600020000000010800000000000000000002840000000000000000000000000000000000000000000000000000000000000000400068000000000000000 msk) (hz : Within msk org s) : Within msk org (State.lsRestart s n tj) := by
  unfold State.lsRestart
  repeat' with_reducible (first | assumption | intro _ | exact partOk_refl _ _ _ | apply State.setSfld_touch | apply State.setFld_touch | apply State.bump_touch | apply State.lsRepaint_touch | apply within_ite | apply within_ite_fst | apply rows_ite | apply rows_if | apply within_foldl | apply within_foldl_fst | split | (dsimp only; split) | apply within_mk)
  all_goals try with_reducible (first | refine in_LS_TEMP_TJ ?_ _ | refine in_LS_STATE_TSD ?_ _ | refine in_LS_CNT_TSD_N ?_ _)
  all_goals first | exact sub_le (by decide) hm | exact partOk_bit (sub_bit hm (by decide)) | exact sub_bit hm (by decide) | exact in_LS_TEMP_TJ (sub_bit hm (by decide)) _ | exact in_LS_STATE_TSD (sub_bit hm (by decide)) _ | exact in_LS_CNT_TSD_N (sub_bit hm (by decide)) _ | exact .inr rfl

theorem State.lsCurrent_touch {msk : Nat} {org : State} (s : State) (n : Nat) (ma : Int) (hm : sub 0x800000000000000000000000000000000000000000240000000000000000000000000000000000000000000000000000000000000000000000000000000000000 msk) (hz : Within msk org s) : Within msk org (State.lsCurrent s n ma) := by
  unfold State.lsCurrent
  repeat' with_reducible (first | assumption | intro _ | exact partOk_refl _ _ _ | apply Run.lim_touch | apply State.setSfld_touch | apply State.setBit_touch | apply State.tick_touch | apply within_ite | apply within_ite_fst | apply rows_ite | apply rows_if | apply within_foldl | apply within_foldl_fst | split | (dsimp only; split) | apply within_mk)
  all_goals try with_reducible (first | refine in_LS_STATE_IN_LIMIT ?_ _ | refine in_LS_IMEAS_I ?_ _)
  all_goals first | exact sub_le (by decide) hm | exact partOk_bit (sub_bit hm (by decide)) | exact sub_bit hm (by decide) | exact in_LS_STATE_IN_LIMIT (sub_bit hm (by decide)) _ | exact in_LS_IMEAS_I (sub_bit hm (by decide)) _ | exact .inr rfl

theorem State.inrushEpisode_touch {msk : Nat} {org : State} (s : State) (n : Nat) (hm : sub 0x10e08000036118200000000108000000000000000000000c0400000000000000000000000000000000000000000000000000000000000000400068000000000000000 msk) (hz : Within msk org s) : Within msk org (State.inrushEpisode s n) := by
  unfold State.inrushEpisode
  repeat' with_reducible (first | assumption | intro _ | exact partOk_refl _ _ _ | apply State.setLsw_touch | apply State.lsRepaint_touch | apply State.setFld_touch | apply State.raise_touch | apply State.lsLatched_touch | apply within_ite | apply within_ite_fst | apply rows_ite | apply rows_if | apply within_foldl | apply within_foldl_fst | split | (dsimp only; split) | apply within_mk)
  all_goals try with_reducible (first | refine in_LS_EVENT_INRUSH_FAIL ?_ | refine in_LS_FAULT_INRUSH_FAIL ?_ _)
  all_goals first | exact sub_le (by decide) hm | exact partOk_bit (sub_bit hm (by decide)) | exact sub_bit hm (by decide) | exact in_LS_EVENT_INRUSH_FAIL (sub_bit hm (by decide)) | exact in_LS_FAULT_INRUSH_FAIL (sub_bit hm (by decide)) _ | exact .inr rfl

theorem State.inrushRetry_touch {msk : Nat} {org : State} (s : State) (n : Nat) (hm : sub 0x10c0800003600020000000010800000000000000000002040000000000000000000000000000000000000000000000000000000000000000400068000000000000000 msk) (hz : Within msk org s) : Within msk org (State.inrushRetry s n) := by
  unfold State.inrushRetry
  repeat' with_reducible (first | assumption | intro _ | exact partOk_refl _ _ _ | apply State.setLsw_touch | apply State.bump_touch | apply State.lsRepaint_touch | apply within_ite | apply within_ite_fst | apply rows_ite | apply rows_if | apply within_foldl | apply within_foldl_fst | split | (dsimp only; split) | apply within_mk)
  all_goals try with_reducible (first | refine in_LS_CNT_RETRY_CNT ?_ _)
  all_goals first | exact sub_le (by decide) hm | exact partOk_bit (sub_bit hm (by decide)) | exact sub_bit hm (by decide) | exact in_LS_CNT_RETRY_CNT (sub_bit hm (by decide)) _ | exact .inr rfl

theorem State.lsOpenLoad_touch {msk : Nat} {org : State} (s : State) (n : Nat) (ma : Int) (hm : sub 0x408000000000000000000108000000000000000000002c0400000000000000000000000000000000000000000000000000000000000000000000000000000000000 msk) (hz : Within msk org s) : Within msk org (State.lsOpenLoad s n ma) := by
  unfold State.lsOpenLoad
  repeat' with_reducible (first | assumption | intro _ | exact partOk_refl _ _ _ | apply State.lsCurrent_touch | apply State.setFld_touch | apply State.raise_touch | apply within_ite | apply within_ite_fst | apply rows_ite | apply rows_if | apply within_foldl | apply within_foldl_fst | split | (dsimp only; split) | apply within_mk)
  all_goals try with_reducible (first | refine in_LS_EVENT_OPEN_LOAD ?_ | refine in_LS_FAULT_OPEN_LOAD ?_ _ | refine in_LS_STATE_OPEN_LOAD ?_ _)
  all_goals first | exact sub_le (by decide) hm | exact partOk_bit (sub_bit hm (by decide)) | exact sub_bit hm (by decide) | exact in_LS_EVENT_OPEN_LOAD (sub_bit hm (by decide)) | exact in_LS_FAULT_OPEN_LOAD (sub_bit hm (by decide)) _ | exact in_LS_STATE_OPEN_LOAD (sub_bit hm (by decide)) _ | exact .inr rfl

theorem State.setEnergy_touch {msk : Nat} {org : State} (s : State) (n b : Nat) (hm : sub 0x1000000000000000000000000000000000000000000001000000000000000000000000000000000000000000000000000000000000000000000000000000000000000 msk) (hz : Within msk org s) : Within msk org (State.setEnergy s n b) := by
  unfold State.setEnergy
  repeat' with_reducible (first | assumption | intro _ | exact partOk_refl _ _ _ | apply State.setLsw_touch | apply State.setFld_touch | apply within_ite | apply within_ite_fst | apply rows_ite | apply rows_if | apply within_foldl | apply within_foldl_fst | split | (dsimp only; split) | apply within_mk)
  all_goals try with_reducible (first | refine in_LS_CLAMPE_B ?_ _)
  all_goals first | exact sub_le (by decide) hm | exact partOk_bit (sub_bit hm (by decide)) | exact sub_bit hm (by decide) | exact in_LS_CLAMPE_B (sub_bit hm (by decide)) _ | exact .inr rfl

theorem State.clampEnd_touch {msk : Nat} {org : State} (s : State) (n : Nat) (samples : List Sample) (hm : sub 0x10e08000036118200000000108000000000000000000032c0400000000000000000000000000000000000000000000000000000000000000400068000000000000000 msk) (hz : Within msk org s) : Within msk org (State.clampEnd s n samples) := by
  unfold State.clampEnd
  repeat' with_reducible (first | assumption | intro _ | exact partOk_refl _ _ _ | apply State.setSfld_touch | apply State.setEnergy_touch | apply State.bump_touch | apply State.setFld_touch | apply State.raise_touch | apply State.switchRecord_touch | apply State.lsRepaint_touch | apply within_ite | apply within_ite_fst | apply rows_ite | apply rows_if | apply within_foldl | apply within_foldl_fst | split | (dsimp only; split) | apply within_mk)
  all_goals try with_reducible (first | refine in_LS_IMEAS_I ?_ _ | refine in_LS_CNT_CLAMP_N ?_ _ | refine in_LS_FAULT_LOCK ?_ _ | refine in_LS_STATE_LOCKED ?_ _ | refine in_LS_EVENT_LOCK ?_)
  all_goals first | exact sub_le (by decide) hm | exact partOk_bit (sub_bit hm (by decide)) | exact sub_bit hm (by decide) | exact in_LS_IMEAS_I (sub_bit hm (by decide)) _ | exact in_LS_CNT_CLAMP_N (sub_bit hm (by decide)) _ | exact in_LS_FAULT_LOCK (sub_bit hm (by decide)) _ | exact in_LS_STATE_LOCKED (sub_bit hm (by decide)) _ | exact in_LS_EVENT_LOCK (sub_bit hm (by decide)) | exact .inr rfl

theorem State.clampLeak_touch {msk : Nat} {org : State} (s : State) (hm : sub 0x1000000000000000000000000000000000000000000001000000000000000000000000000000000000000000000000000000000000000000000000000000000000000 msk) (hz : Within msk org s) : Within msk org (State.clampLeak s) := by
  unfold State.clampLeak
  repeat' with_reducible (first | assumption | intro _ | exact partOk_refl _ _ _ | apply State.setEnergy_touch | apply within_ite | apply within_ite_fst | apply rows_ite | apply rows_if | apply within_foldl | apply within_foldl_fst | split | (dsimp only; split) | apply within_mk)
  all_goals first | exact sub_le (by decide) hm | exact partOk_bit (sub_bit hm (by decide)) | exact sub_bit hm (by decide) | exact .inr rfl

theorem State.supplyLatch_touch {msk : Nat} {org : State} (s : State) (kind : Nat) (hm : sub 0x20000000000000000000000000000000000000000000000000000000000000000000000000000000000000000000000000000000000000000000000000000000000 msk) (hz : Within msk org s) : Within msk org (State.supplyLatch s kind) := by
  unfold State.supplyLatch
  repeat' with_reducible (first | assumption | intro _ | exact partOk_refl _ _ _ | apply within_ite | apply within_ite_fst | apply rows_ite | apply rows_if | apply within_foldl | apply within_foldl_fst | split | (dsimp only; split) | apply within_mk)
  all_goals first | exact sub_le (by decide) hm | exact partOk_bit (sub_bit hm (by decide)) | exact sub_bit hm (by decide) | exact .inr rfl

theorem State.underVoltage_touch {msk : Nat} {org : State} (s : State) (hm : sub 0x10c0800003600020000000010800000000000000000000040600000000000000000000000000000000000000000000000000000000000000400068000000000000000 msk) (hz : Within msk org s) : Within msk org (State.underVoltage s) := by
  unfold State.underVoltage
  repeat' with_reducible (first | assumption | intro _ | exact partOk_refl _ _ _ | apply State.setFld_touch | apply State.raise_touch | apply State.lsRepaint_touch | apply within_ite | apply within_ite_fst | apply rows_ite | apply rows_if | apply within_foldl | apply within_foldl_fst | split | (dsimp only; split) | apply within_mk)
  all_goals try with_reducible (first | refine in_LS_EVENT_UV ?_ | refine in_LS_STATUS_UV ?_)
  all_goals first | exact sub_le (by decide) hm | exact partOk_bit (sub_bit hm (by decide)) | exact sub_bit hm (by decide) | exact in_LS_EVENT_UV (sub_bit hm (by decide)) | exact in_LS_STATUS_UV (sub_bit hm (by decide)) | exact .inr rfl

theorem State.underVoltageEnd_touch {msk : Nat} {org : State} (s : State) (hm : sub 0x10c0800003600020000000010800000000000000000000040200000000000000000000000000000000000000000000000000000000000000400068000000000000000 msk) (hz : Within msk org s) : Within msk org (State.underVoltageEnd s) := by
  unfold State.underVoltageEnd
  repeat' with_reducible (first | assumption | intro _ | exact partOk_refl _ _ _ | apply State.setFld_touch | apply State.lsRepaint_touch | apply within_ite | apply within_ite_fst | apply rows_ite | apply rows_if | apply within_foldl | apply within_foldl_fst | split | (dsimp only; split) | apply within_mk)
  all_goals try with_reducible (first | refine in_LS_STATUS_UV ?_)
  all_goals first | exact sub_le (by decide) hm | exact partOk_bit (sub_bit hm (by decide)) | exact sub_bit hm (by decide) | exact in_LS_STATUS_UV (sub_bit hm (by decide)) | exact .inr rfl

theorem State.overVoltage_touch {msk : Nat} {org : State} (s : State) (hm : sub 0x10e08000036000200000000108000000000000000000000c0600000000000000000000000000000000000000000000000000000000000000400068000000000000000 msk) (hz : Within msk org s) : Within msk org (State.overVoltage s) := by
  unfold State.overVoltage
  repeat' with_reducible (first | assumption | intro _ | exact partOk_refl _ _ _ | apply State.setFld_touch | apply State.raise_touch | apply State.supplyLatch_touch | apply State.lsRepaint_touch | apply within_ite | apply within_ite_fst | apply rows_ite | apply rows_if | apply within_foldl | apply within_foldl_fst | split | (dsimp only; split) | apply within_mk)
  all_goals try with_reducible (first | refine in_LS_EVENT_OV ?_ | refine in_LS_STATUS_OV ?_ | refine in_LS_FAULT_OV_OFF ?_ _)
  all_goals first | exact sub_le (by decide) hm | exact partOk_bit (sub_bit hm (by decide)) | exact sub_bit hm (by decide) | exact in_LS_EVENT_OV (sub_bit hm (by decide)) | exact in_LS_STATUS_OV (sub_bit hm (by decide)) | exact in_LS_FAULT_OV_OFF (sub_bit hm (by decide)) _ | exact .inr rfl

theorem State.overVoltageEnd_touch {msk : Nat} {org : State} (s : State) (hm : sub 0x10c0800003600020000000010800000000000000000000040200000000000000000000000000000000000000000000000000000000000000400068000000000000000 msk) (hz : Within msk org s) : Within msk org (State.overVoltageEnd s) := by
  unfold State.overVoltageEnd
  repeat' with_reducible (first | assumption | intro _ | exact partOk_refl _ _ _ | apply State.setFld_touch | apply State.lsRepaint_touch | apply within_ite | apply within_ite_fst | apply rows_ite | apply rows_if | apply within_foldl | apply within_foldl_fst | split | (dsimp only; split) | apply within_mk)
  all_goals try with_reducible (first | refine in_LS_STATUS_OV ?_)
  all_goals first | exact sub_le (by decide) hm | exact partOk_bit (sub_bit hm (by decide)) | exact sub_bit hm (by decide) | exact in_LS_STATUS_OV (sub_bit hm (by decide)) | exact .inr rfl

theorem State.reverseBattery_touch {msk : Nat} {org : State} (s : State) (hm : sub 0x10e0800003600020000000010800000000000000000000040400000000000000000000000000000000000000000000000000000000000000400068000000000000000 msk) (hz : Within msk org s) : Within msk org (State.reverseBattery s) := by
  unfold State.reverseBattery
  repeat' with_reducible (first | assumption | intro _ | exact partOk_refl _ _ _ | apply State.raise_touch | apply State.supplyLatch_touch | apply State.lsRepaint_touch | apply within_ite | apply within_ite_fst | apply rows_ite | apply rows_if | apply within_foldl | apply within_foldl_fst | split | (dsimp only; split) | apply within_mk)
  all_goals try with_reducible (first | refine in_LS_EVENT_SUPPLY_REC ?_)
  all_goals first | exact sub_le (by decide) hm | exact partOk_bit (sub_bit hm (by decide)) | exact sub_bit hm (by decide) | exact in_LS_EVENT_SUPPLY_REC (sub_bit hm (by decide)) | exact .inr rfl

theorem State.lossOfGround_touch {msk : Nat} {org : State} (s : State) (hm : sub 0x10e0800003600020000000010800000000000000000000040400000000000000000000000000000000000000000000000000000000000000400068000000000000000 msk) (hz : Within msk org s) : Within msk org (State.lossOfGround s) := by
  unfold State.lossOfGround
  repeat' with_reducible (first | assumption | intro _ | exact partOk_refl _ _ _ | apply State.raise_touch | apply State.supplyLatch_touch | apply State.lsRepaint_touch | apply within_ite | apply within_ite_fst | apply rows_ite | apply rows_if | apply within_foldl | apply within_foldl_fst | split | (dsimp only; split) | apply within_mk)
  all_goals try with_reducible (first | refine in_LS_EVENT_SUPPLY_REC ?_)
  all_goals first | exact sub_le (by decide) hm | exact partOk_bit (sub_bit hm (by decide)) | exact sub_bit hm (by decide) | exact in_LS_EVENT_SUPPLY_REC (sub_bit hm (by decide)) | exact .inr rfl

theorem State.switchCheck_touch {msk : Nat} {org : State} (s : State) (i : Nat) (mv ma vbat : Int) (hm : sub 0x11c08000036000200000000108000000000000000000006c0800000000000000000000000000000004600000000000000000000001800000400068000000000140400 msk) (hz : Within msk org s) : Within msk org (State.switchCheck s i mv ma vbat) := by
  unfold State.switchCheck
  repeat' with_reducible (first | assumption | intro _ | exact partOk_refl _ _ _ | apply Run.st_touch | apply State.setSfld_touch | apply State.lsCurrent_touch | apply State.sealEntry_touch | apply State.setFld_touch | apply within_ite | apply within_ite_fst | apply rows_ite | apply rows_if | apply within_foldl | apply within_foldl_fst | split | (dsimp only; split) | apply within_mk)
  all_goals try with_reducible (first | refine in_LS_VOUT_V ?_ _ | refine in_LS_VBAT_VBAT ?_ | refine in_LS_FAULT_SWITCH_BAD ?_ _)
  all_goals first | exact sub_le (by decide) hm | exact partOk_bit (sub_bit hm (by decide)) | exact sub_bit hm (by decide) | exact in_LS_VOUT_V (sub_bit hm (by decide)) _ | exact in_LS_VBAT_VBAT (sub_bit hm (by decide)) | exact in_LS_FAULT_SWITCH_BAD (sub_bit hm (by decide)) _ | exact .inr rfl

theorem State.lsHoldBegins_touch {msk : Nat} {org : State} (s : State) (all : Bool) (hm : sub 0x1000000000000000000000000000000000000000000000008000000000000000000000000000000000000000000000000000000000000000000000000000000000000 msk) (hz : Within msk org s) : Within msk org (State.lsHoldBegins s all) := by
  unfold State.lsHoldBegins
  repeat' with_reducible (first | assumption | intro _ | exact partOk_refl _ _ _ | apply State.setFld_touch | apply State.setLsw_touch | apply within_ite | apply within_ite_fst | apply rows_ite | apply rows_if | apply within_foldl | apply within_foldl_fst | split | (dsimp only; split) | apply within_mk)
  all_goals try with_reducible (first | refine in_LS_SET_ON ?_ _)
  all_goals first | exact sub_le (by decide) hm | exact partOk_bit (sub_bit hm (by decide)) | exact sub_bit hm (by decide) | exact in_LS_SET_ON (sub_bit hm (by decide)) _ | exact .inr rfl

theorem State.lsStop_touch {msk : Nat} {org : State} (s : State) (hm : sub 0x10c0800003600020000000010800000000000000000000048000000000000000000000000000000000000000000000000000000000000000400068000000000000000 msk) (hz : Within msk org s) : Within msk org (State.lsStop s) := by
  unfold State.lsStop
  repeat' with_reducible (first | assumption | intro _ | exact partOk_refl _ _ _ | apply State.lsHoldBegins_touch | apply State.lsRepaint_touch | apply within_ite | apply within_ite_fst | apply rows_ite | apply rows_if | apply within_foldl | apply within_foldl_fst | split | (dsimp only; split) | apply within_mk)
  all_goals first | exact sub_le (by decide) hm | exact partOk_bit (sub_bit hm (by decide)) | exact sub_bit hm (by decide) | exact .inr rfl

theorem State.lsHalt_touch {msk : Nat} {org : State} (s : State) (hm : sub 0x10c0800003600020000000010800000000000000000000048000000000000000000000000000000000000000000000000000000000000000400068000000000000000 msk) (hz : Within msk org s) : Within msk org (State.lsHalt s) := by
  unfold State.lsHalt
  repeat' with_reducible (first | assumption | intro _ | exact partOk_refl _ _ _ | apply State.lsHoldBegins_touch | apply State.lsRepaint_touch | apply within_ite | apply within_ite_fst | apply rows_ite | apply rows_if | apply within_foldl | apply within_foldl_fst | split | (dsimp only; split) | apply within_mk)
  all_goals first | exact sub_le (by decide) hm | exact partOk_bit (sub_bit hm (by decide)) | exact sub_bit hm (by decide) | exact .inr rfl

theorem State.lsSafe_touch {msk : Nat} {org : State} (s : State) (hm : sub 0x10c0800003600020000000010800000000000000000000048000000000000000000000000000000000000000000000000000000000000000400068000000000000000 msk) (hz : Within msk org s) : Within msk org (State.lsSafe s) := by
  unfold State.lsSafe
  repeat' with_reducible (first | assumption | intro _ | exact partOk_refl _ _ _ | apply State.lsHoldBegins_touch | apply State.lsRepaint_touch | apply within_ite | apply within_ite_fst | apply rows_ite | apply rows_if | apply within_foldl | apply within_foldl_fst | split | (dsimp only; split) | apply within_mk)
  all_goals first | exact sub_le (by decide) hm | exact partOk_bit (sub_bit hm (by decide)) | exact sub_bit hm (by decide) | exact .inr rfl

theorem State.lsRelease_touch {msk : Nat} {org : State} (s : State) (held : Bool) (hm : sub 0x10c0800003600020000000010800000000000000000000040000000000000000000000000000000000000000000000000000000000000000400068000000000000000 msk) (hz : Within msk org s) : Within msk org (State.lsRelease s held) := by
  unfold State.lsRelease
  repeat' with_reducible (first | assumption | intro _ | exact partOk_refl _ _ _ | apply State.lsRepaint_touch | apply within_ite | apply within_ite_fst | apply rows_ite | apply rows_if | apply within_foldl | apply within_foldl_fst | split | (dsimp only; split) | apply within_mk)
  all_goals first | exact sub_le (by decide) hm | exact partOk_bit (sub_bit hm (by decide)) | exact sub_bit hm (by decide) | exact .inr rfl

theorem State.limpRefresh_touch {msk : Nat} {org : State} (s : State) (hm : sub 0x10e0800003611820000000010800000000000000000000040600000000000000000000000000000000000000000000000000000000000000400068000000000000000 msk) (hz : Within msk org s) : Within msk org (State.limpRefresh s) := by
  unfold State.limpRefresh
  repeat' with_reducible (first | assumption | intro _ | exact partOk_refl _ _ _ | apply State.setBit_touch | apply State.raise_touch | apply State.switchRecord_touch | apply State.lsRepaint_touch | apply within_ite | apply within_ite_fst | apply rows_ite | apply rows_if | apply within_foldl | apply within_foldl_fst | split | (dsimp only; split) | apply within_mk)
  all_goals try with_reducible (first | refine in_LS_EVENT_LIMP ?_ | refine in_LS_STATUS_LIMP_ACT ?_)
  all_goals first | exact sub_le (by decide) hm | exact partOk_bit (sub_bit hm (by decide)) | exact sub_bit hm (by decide) | exact in_LS_EVENT_LIMP (sub_bit hm (by decide)) | exact in_LS_STATUS_LIMP_ACT (sub_bit hm (by decide)) | exact .inr rfl

theorem State.lsFromShadow_touch {msk : Nat} {org : State} (s : State) (hm : sub 0x7000000000000000000000000000000000000000000000000000000000000000000000000000000000000 msk) (hz : Within msk org s) : Within msk org (State.lsFromShadow s) := by
  unfold State.lsFromShadow
  repeat' with_reducible (first | assumption | intro _ | exact partOk_refl _ _ _ | apply State.setReg_touch | apply within_ite | apply within_ite_fst | apply rows_ite | apply rows_if | apply within_foldl | apply within_foldl_fst | split | (dsimp only; split) | apply within_mk)
  all_goals try with_reducible (first | refine has_LS_WD ?_ | refine has_LS_CFG ?_ _ | refine has_LS_CFGS ?_ ?_ _)
  all_goals first | exact sub_le (by decide) hm | exact partOk_bit (sub_bit hm (by decide)) | exact sub_bit hm (by decide) | exact has_LS_WD (sub_bit hm (by decide)) | exact has_LS_CFG (sub_bit hm (by decide)) _ | exact has_LS_CFGS (sub_bit hm (by decide)) (sub_bit hm (by decide)) _ | exact .inr rfl

theorem State.lsShadowWrite_touch {msk : Nat} {org : State} (s : State) (hm : sub 0x1000000000000000000000000000000000000000000000000200000000000000000000000000000000000000000000000000000000000000000000000000000000000 msk) (hz : Within msk org s) : Within msk org (State.lsShadowWrite s) := by
  unfold State.lsShadowWrite
  repeat' with_reducible (first | assumption | intro _ | exact partOk_refl _ _ _ | apply State.setFld_touch | apply within_ite | apply within_ite_fst | apply rows_ite | apply rows_if | apply within_foldl | apply within_foldl_fst | split | (dsimp only; split) | apply within_mk)
  all_goals try with_reducible (first | refine in_LS_STATUS_SHADOW_OK ?_)
  all_goals first | exact sub_le (by decide) hm | exact partOk_bit (sub_bit hm (by decide)) | exact sub_bit hm (by decide) | exact in_LS_STATUS_SHADOW_OK (sub_bit hm (by decide)) | exact .inr rfl

theorem State.lsShadowDone_touch {msk : Nat} {org : State} (s : State) (ok : Bool) (hm : sub 0x1000000000000000000000000000000000000000000000000200000000000000000000000000000000000000000000000000000000000000000000000000000000000 msk) (hz : Within msk org s) : Within msk org (State.lsShadowDone s ok) := by
  unfold State.lsShadowDone
  repeat' with_reducible (first | assumption | intro _ | exact partOk_refl _ _ _ | apply State.setFld_touch | apply within_ite | apply within_ite_fst | apply rows_ite | apply rows_if | apply within_foldl | apply within_foldl_fst | split | (dsimp only; split) | apply within_mk)
  all_goals try with_reducible (first | refine in_LS_STATUS_SHADOW_OK ?_)
  all_goals first | exact sub_le (by decide) hm | exact partOk_bit (sub_bit hm (by decide)) | exact sub_bit hm (by decide) | exact in_LS_STATUS_SHADOW_OK (sub_bit hm (by decide)) | exact .inr rfl

theorem State.heartbeat_touch {msk : Nat} {org : State} (s : State) (hm : sub 0x10e0800003611820000000010800000000000000000000047600000000000000000000000000000000000000000000000000000000000000400068000000000000000 msk) (hz : Within msk org s) : Within msk org (State.heartbeat s) := by
  unfold State.heartbeat
  repeat' with_reducible (first | assumption | intro _ | exact partOk_refl _ _ _ | apply State.setFld_touch | apply State.lsFromShadow_touch | apply State.limpRefresh_touch | apply within_ite | apply within_ite_fst | apply rows_ite | apply rows_if | apply within_foldl | apply within_foldl_fst | split | (dsimp only; split) | apply within_mk)
  all_goals try with_reducible (first | refine in_LS_STATUS_WD_EXPIRED ?_)
  all_goals first | exact sub_le (by decide) hm | exact partOk_bit (sub_bit hm (by decide)) | exact sub_bit hm (by decide) | exact in_LS_STATUS_WD_EXPIRED (sub_bit hm (by decide)) | exact .inr rfl

theorem State.wdExpiry_touch {msk : Nat} {org : State} (s : State) (hm : sub 0x10e0800003611820000000010800000000000000000000040600000000000000000000000000000000000000000000000000000000000000400068000000000000000 msk) (hz : Within msk org s) : Within msk org (State.wdExpiry s) := by
  unfold State.wdExpiry
  repeat' with_reducible (first | assumption | intro _ | exact partOk_refl _ _ _ | apply State.setFld_touch | apply State.raise_touch | apply State.limpRefresh_touch | apply within_ite | apply within_ite_fst | apply rows_ite | apply rows_if | apply within_foldl | apply within_foldl_fst | split | (dsimp only; split) | apply within_mk)
  all_goals try with_reducible (first | refine in_LS_EVENT_WD_EXP ?_ | refine in_LS_STATUS_WD_EXPIRED ?_)
  all_goals first | exact sub_le (by decide) hm | exact partOk_bit (sub_bit hm (by decide)) | exact sub_bit hm (by decide) | exact in_LS_EVENT_WD_EXP (sub_bit hm (by decide)) | exact in_LS_STATUS_WD_EXPIRED (sub_bit hm (by decide)) | exact .inr rfl

theorem State.limpPin_touch {msk : Nat} {org : State} (s : State) (low : Bool) (hm : sub 0x10e0800003611820000000010800000000000000000000040600000000000000000000000000000000000000000000000000000000000000400068000000000000000 msk) (hz : Within msk org s) : Within msk org (State.limpPin s low) := by
  unfold State.limpPin
  repeat' with_reducible (first | assumption | intro _ | exact partOk_refl _ _ _ | apply State.setBit_touch | apply State.limpRefresh_touch | apply within_ite | apply within_ite_fst | apply rows_ite | apply rows_if | apply within_foldl | apply within_foldl_fst | split | (dsimp only; split) | apply within_mk)
  all_goals try with_reducible (first | refine in_LS_STATUS_LIMP_PIN ?_)
  all_goals first | exact sub_le (by decide) hm | exact partOk_bit (sub_bit hm (by decide)) | exact sub_bit hm (by decide) | exact in_LS_STATUS_LIMP_PIN (sub_bit hm (by decide)) | exact .inr rfl

theorem State.lhin_touch {msk : Nat} {org : State} (s : State) (i : Nat) (level : Bool) (hm : sub 0x1000000000000000000000000000000000000000000000040200000000000000000000000000000000000000000000000000000000000000000000000000000000000 msk) (hz : Within msk org s) : Within msk org (State.lhin s i level) := by
  unfold State.lhin
  repeat' with_reducible (first | assumption | intro _ | exact partOk_refl _ _ _ | apply State.setFbit_touch | apply State.lsArmed_touch | apply within_ite | apply within_ite_fst | apply rows_ite | apply rows_if | apply within_foldl | apply within_foldl_fst | split | (dsimp only; split) | apply within_mk)
  all_goals try with_reducible (first | refine in_LS_STATUS_LHIN ?_)
  all_goals first | exact sub_le (by decide) hm | exact partOk_bit (sub_bit hm (by decide)) | exact sub_bit hm (by decide) | exact in_LS_STATUS_LHIN (sub_bit hm (by decide)) | exact .inr rfl

theorem State.lsPowerOn_touch {msk : Nat} {org : State} (s : State) (hm : sub 0x10e0800003611820000000010800000000000000000003fffe00000000000000000000000000000000000000000000000000000000000000400068000000000000000 msk) (hz : Within msk org s) : Within msk org (State.lsPowerOn s) := by
  unfold State.lsPowerOn
  have h1 : Within msk org ({ s with regs := s.regs.filter (fun e => !(inRange 0x580000 0x590000 e.1)), ls := { shadow := if decide (shadowCrc s.ls.store = s.ls.storeCrc) then s.ls.store else [], shadowGood := decide (shadowCrc s.ls.store = s.ls.storeCrc), store := s.ls.store, storeCrc := s.ls.storeCrc, stop := s.rs.stopLow } } : State) := by
    refine within_forget hz (fun a ha hd => has_defined hm hd ?_) rfl rfl (fun p hp => ?_)
    · have : rowsAt a = rowsAt 0x580000 := by
        simp only [inRange, Bool.and_eq_true, decide_eq_true_eq] at ha
        unfold rowsAt
        simp (disch := omega) only [if_neg, if_pos]
      rw [this]
      decide +kernel
    · cases p <;> first | exact rfl | exact absurd (sub_bit (k := 528) hm (by decide)) (by rw [show msk.testBit 528 = false from hp]; decide)
  repeat' with_reducible (first | assumption | intro _ | exact partOk_refl _ _ _ | apply State.setBit_touch | apply State.lsFromShadow_touch | apply State.setFld_touch | apply State.raise_touch | apply State.raiseIf_touch | apply State.limpRefresh_touch | apply within_ite | apply within_ite_fst | apply rows_ite | apply rows_if | apply within_foldl | apply within_foldl_fst | split | (dsimp only; split) | apply within_mk)
  all_goals try with_reducible (first | refine in_LS_STATUS_STOP ?_ | refine in_LS_STATUS_SHADOW_OK ?_ | refine in_LS_EVENT_SHADOW_ERR ?_ | refine in_LS_EVENT_SUPPLY_REC ?_)
  all_goals first | exact sub_le (by decide) hm | exact partOk_bit (sub_bit hm (by decide)) | exact sub_bit hm (by decide) | exact in_LS_STATUS_STOP (sub_bit hm (by decide)) | exact in_LS_STATUS_SHADOW_OK (sub_bit hm (by decide)) | exact in_LS_EVENT_SHADOW_ERR (sub_bit hm (by decide)) | exact in_LS_EVENT_SUPPLY_REC (sub_bit hm (by decide)) | exact .inr rfl

end Sys2Proof.Machine
end

