-- ==== Sys2Proof/Laws/TouchField.lean ====
section
/-! SUPPORT. What each operation of Machine/Field.lean may change, as a mask. -/

namespace Sys2Proof.Machine

set_option linter.all false
set_option Elab.async false

theorem State.setFout_touch {msk : Nat} {org : State} (s : State) (m : Nat) (x : OutState) (hm : sub 0x2000000000000000000000000000000000000000000000000000000000000000000000000000000000000000000000000000000000000000000000000000000000000 msk) (hz : Within msk org s) : Within msk org (State.setFout s m x) := by
  unfold State.setFout
  repeat' with_reducible (first | assumption | intro _ | exact partOk_refl _ _ _ | apply within_ite | apply within_ite_fst | apply rows_ite | apply rows_if | apply within_foldl | apply within_foldl_fst | split | (dsimp only; split) | apply within_mk)
  all_goals first | exact sub_le (by decide) hm | exact partOk_bit (sub_bit hm (by decide)) | exact sub_bit hm (by decide) | exact .inr rfl

theorem State.sleepSample_touch {msk : Nat} {org : State} (s : State) (g : Nat) (xs : List FieldSample) (hm : sub 0x2000000000000000000000000000000000000000000000000000000000000000000000000000000000000000000000000000000000000000000000000000000000000 msk) (hz : Within msk org s) : Within msk org (State.sleepSample s g xs) := by
  unfold State.sleepSample
  repeat' with_reducible (first | assumption | intro _ | exact partOk_refl _ _ _ | apply State.setInput_touch | apply within_ite | apply within_ite_fst | apply rows_ite | apply rows_if | apply within_foldl | apply within_foldl_fst | split | (dsimp only; split) | apply within_mk)
  all_goals first | exact sub_le (by decide) hm | exact partOk_bit (sub_bit hm (by decide)) | exact sub_bit hm (by decide) | exact .inr rfl

theorem State.sleepInputs_touch {msk : Nat} {org : State} (s : State) (hm : sub 0x2000000000000000000000000000000000000000000000000000000000000000000000000000000000000000000000000000000000000000000000000000000000000 msk) (hz : Within msk org s) : Within msk org (State.sleepInputs s) := by
  unfold State.sleepInputs
  repeat' with_reducible (first | assumption | intro _ | exact partOk_refl _ _ _ | apply within_ite | apply within_ite_fst | apply rows_ite | apply rows_if | apply within_foldl | apply within_foldl_fst | split | (dsimp only; split) | apply within_mk)
  all_goals first | exact sub_le (by decide) hm | exact partOk_bit (sub_bit hm (by decide)) | exact sub_bit hm (by decide) | exact .inr rfl

theorem State.inputSample_touch {msk : Nat} {org : State} (s : State) (g : Nat) (xs : List FieldSample) (hm : sub 0x2000000000000000000000000000000000000000000000000000000000000000000000000000000000000000000000000000000000000000000000000000000000000 msk) (hz : Within msk org s) : Within msk org (State.inputSample s g xs) := by
  unfold State.inputSample
  repeat' with_reducible (first | assumption | intro _ | exact partOk_refl _ _ _ | apply State.sleepSample_touch | apply State.setInput_touch | apply within_ite | apply within_ite_fst | apply rows_ite | apply rows_if | apply within_foldl | apply within_foldl_fst | split | (dsimp only; split) | apply within_mk)
  all_goals first | exact sub_le (by decide) hm | exact partOk_bit (sub_bit hm (by decide)) | exact sub_bit hm (by decide) | exact .inr rfl

theorem State.slotRecover_touch {msk : Nat} {org : State} (s : State) (n : Nat) (hm : sub 0x800000000000000000000000000000000000000000000000000009000000000000000000000000000000000000000000000000000000000000000000000000000000 msk) (hz : Within msk org s) : Within msk org (State.slotRecover s n) := by
  unfold State.slotRecover
  repeat' with_reducible (first | assumption | intro _ | exact partOk_refl _ _ _ | apply State.setSlot_touch | apply State.slotSoft_touch | apply State.setFld_touch | apply within_ite | apply within_ite_fst | apply rows_ite | apply rows_if | apply within_foldl | apply within_foldl_fst | split | (dsimp only; split) | apply within_mk)
  all_goals try with_reducible (first | refine in_SL_STATE_SAFE_CAUSE ?_ _)
  all_goals first | exact sub_le (by decide) hm | exact partOk_bit (sub_bit hm (by decide)) | exact sub_bit hm (by decide) | exact in_SL_STATE_SAFE_CAUSE (sub_bit hm (by decide)) _ | exact .inr rfl

theorem State.newSampleAt_touch {msk : Nat} {org : State} (s : State) (kind index : Nat) (t : Time) (hm : sub 0x800000000000000000000000000000000000000000000000000009000000000000000000000000000000000000000000000000000000000000000000000000000000 msk) (hz : Within msk org s) : Within msk org (State.newSampleAt s kind index t) := by
  unfold State.newSampleAt
  repeat' with_reducible (first | assumption | intro _ | exact partOk_refl _ _ _ | apply State.setSlot_touch | apply State.slotRecover_touch | apply within_ite | apply within_ite_fst | apply rows_ite | apply rows_if | apply within_foldl | apply within_foldl_fst | split | (dsimp only; split) | apply within_mk)
  all_goals first | exact sub_le (by decide) hm | exact partOk_bit (sub_bit hm (by decide)) | exact sub_bit hm (by decide) | exact .inr rfl

theorem State.newSample_touch {msk : Nat} {org : State} (s : State) (kind index : Nat) (hm : sub 0x800000000000000000000000000000000000000000000000000009000000000000000000000000000000000000000000000000000000000000000000000000000000 msk) (hz : Within msk org s) : Within msk org (State.newSample s kind index) := by
  unfold State.newSample
  repeat' with_reducible (first | assumption | intro _ | exact partOk_refl _ _ _ | apply State.newSampleAt_touch | apply within_ite | apply within_ite_fst | apply rows_ite | apply rows_if | apply within_foldl | apply within_foldl_fst | split | (dsimp only; split) | apply within_mk)
  all_goals first | exact sub_le (by decide) hm | exact partOk_bit (sub_bit hm (by decide)) | exact sub_bit hm (by decide) | exact .inr rfl

theorem State.foHold_touch {msk : Nat} {org : State} (s : State) (hit : Nat → Bool) (keep clear : Bool) (hm : sub 0x2000000000000000000000000000000000000000010000000000000000000000000000000000000000000000000000000000000000000000000000000000000000000 msk) (hz : Within msk org s) : Within msk org (State.foHold s hit keep clear) := by
  unfold State.foHold
  repeat' with_reducible (first | assumption | intro _ | exact partOk_refl _ _ _ | apply State.setFout_touch | apply State.setFld_touch | apply within_ite | apply within_ite_fst | apply rows_ite | apply rows_if | apply within_foldl | apply within_foldl_fst | split | (dsimp only; split) | apply within_mk)
  all_goals try with_reducible (first | refine in_FO_SET_ON ?_ _)
  all_goals first | exact sub_le (by decide) hm | exact partOk_bit (sub_bit hm (by decide)) | exact sub_bit hm (by decide) | exact in_FO_SET_ON (sub_bit hm (by decide)) _ | exact .inr rfl

theorem State.foFree_touch {msk : Nat} {org : State} (s : State) (hm : sub 0x2000000000000000000000000000000000000000000000000000000000000000000000000000000000000000000000000000000000000000000000000000000000000 msk) (hz : Within msk org s) : Within msk org (State.foFree s) := by
  unfold State.foFree
  repeat' with_reducible (first | assumption | intro _ | exact partOk_refl _ _ _ | apply State.setFout_touch | apply within_ite | apply within_ite_fst | apply rows_ite | apply rows_if | apply within_foldl | apply within_foldl_fst | split | (dsimp only; split) | apply within_mk)
  all_goals first | exact sub_le (by decide) hm | exact partOk_bit (sub_bit hm (by decide)) | exact sub_bit hm (by decide) | exact .inr rfl

theorem State.foHear_touch {msk : Nat} {org : State} (s : State) (hm : sub 0x2000000000000000000000000000000000000000010000000000000000000000000000000000000000000000000000000000000000000000000000000000000000000 msk) (hz : Within msk org s) : Within msk org (State.foHear s) := by
  unfold State.foHear
  repeat' with_reducible (first | assumption | intro _ | exact partOk_refl _ _ _ | apply State.foHold_touch | apply State.foFree_touch | apply within_ite | apply within_ite_fst | apply rows_ite | apply rows_if | apply within_foldl | apply within_foldl_fst | split | (dsimp only; split) | apply within_mk)
  all_goals first | exact sub_le (by decide) hm | exact partOk_bit (sub_bit hm (by decide)) | exact sub_bit hm (by decide) | exact .inr rfl

theorem State.heardSeq_touch {msk : Nat} {org : State} (s : State) (seq : Nat) (hm : sub 0x2000000000000000000000000000000000000000000000000000000000000000000000000000000000000000000000000000000000000000000000000000000000000 msk) (hz : Within msk org s) : Within msk org (State.heardSeq s seq) := by
  unfold State.heardSeq
  repeat' with_reducible (first | assumption | intro _ | exact partOk_refl _ _ _ | apply within_ite | apply within_ite_fst | apply rows_ite | apply rows_if | apply within_foldl | apply within_foldl_fst | split | (dsimp only; split) | apply within_mk)
  all_goals first | exact sub_le (by decide) hm | exact partOk_bit (sub_bit hm (by decide)) | exact sub_bit hm (by decide) | exact .inr rfl

theorem State.foTell_touch {msk : Nat} {org : State} (s : State) (stop halt safe : Bool) (hm : sub 0x2000000000000000000000000000000000000000010004000000000000000000000000000000000000000000000000000000000000000000000000000000000000000 msk) (hz : Within msk org s) : Within msk org (State.foTell s stop halt safe) := by
  unfold State.foTell
  repeat' with_reducible (first | assumption | intro _ | exact partOk_refl _ _ _ | apply State.setBit_touch | apply State.heardSeq_touch | apply State.foHear_touch | apply within_ite | apply within_ite_fst | apply rows_ite | apply rows_if | apply within_foldl | apply within_foldl_fst | split | (dsimp only; split) | apply within_mk)
  all_goals try with_reducible (first | refine in_FIO_STATUS_SAFE ?_ | refine in_FIO_STATUS_STOP ?_)
  all_goals first | exact sub_le (by decide) hm | exact partOk_bit (sub_bit hm (by decide)) | exact sub_bit hm (by decide) | exact in_FIO_STATUS_SAFE (sub_bit hm (by decide)) | exact in_FIO_STATUS_STOP (sub_bit hm (by decide)) | exact .inr rfl

theorem State.foStop_touch {msk : Nat} {org : State} (s : State) (hm : sub 0x2000000000000000000000000000000000000000010004000000000000000000000000000000000000000000000000000000000000000000000000000000000000000 msk) (hz : Within msk org s) : Within msk org (State.foStop s) := by
  unfold State.foStop
  repeat' with_reducible (first | assumption | intro _ | exact partOk_refl _ _ _ | apply State.foTell_touch | apply within_ite | apply within_ite_fst | apply rows_ite | apply rows_if | apply within_foldl | apply within_foldl_fst | split | (dsimp only; split) | apply within_mk)
  all_goals first | exact sub_le (by decide) hm | exact partOk_bit (sub_bit hm (by decide)) | exact sub_bit hm (by decide) | exact .inr rfl

theorem State.foHalt_touch {msk : Nat} {org : State} (s : State) (hm : sub 0x2000000000000000000000000000000000000000010004000000000000000000000000000000000000000000000000000000000000000000000000000000000000000 msk) (hz : Within msk org s) : Within msk org (State.foHalt s) := by
  unfold State.foHalt
  repeat' with_reducible (first | assumption | intro _ | exact partOk_refl _ _ _ | apply State.foTell_touch | apply within_ite | apply within_ite_fst | apply rows_ite | apply rows_if | apply within_foldl | apply within_foldl_fst | split | (dsimp only; split) | apply within_mk)
  all_goals first | exact sub_le (by decide) hm | exact partOk_bit (sub_bit hm (by decide)) | exact sub_bit hm (by decide) | exact .inr rfl

theorem State.foSafe_touch {msk : Nat} {org : State} (s : State) (hm : sub 0x2000000000000000000000000000000000000000010004000000000000000000000000000000000000000000000000000000000000000000000000000000000000000 msk) (hz : Within msk org s) : Within msk org (State.foSafe s) := by
  unfold State.foSafe
  repeat' with_reducible (first | assumption | intro _ | exact partOk_refl _ _ _ | apply State.foTell_touch | apply within_ite | apply within_ite_fst | apply rows_ite | apply rows_if | apply within_foldl | apply within_foldl_fst | split | (dsimp only; split) | apply within_mk)
  all_goals first | exact sub_le (by decide) hm | exact partOk_bit (sub_bit hm (by decide)) | exact sub_bit hm (by decide) | exact .inr rfl

theorem State.foRelease_touch {msk : Nat} {org : State} (s : State) (held : Bool) (hm : sub 0x2000000000000000000000000000000000000000010004000000000000000000000000000000000000000000000000000000000000000000000000000000000000000 msk) (hz : Within msk org s) : Within msk org (State.foRelease s held) := by
  unfold State.foRelease
  repeat' with_reducible (first | assumption | intro _ | exact partOk_refl _ _ _ | apply State.foTell_touch | apply within_ite | apply within_ite_fst | apply rows_ite | apply rows_if | apply within_foldl | apply within_foldl_fst | split | (dsimp only; split) | apply within_mk)
  all_goals first | exact sub_le (by decide) hm | exact partOk_bit (sub_bit hm (by decide)) | exact sub_bit hm (by decide) | exact .inr rfl

theorem State.fieldSilence_touch {msk : Nat} {org : State} (s : State) (hm : sub 0x2000000000000000000000000000000000000000010000000000000000000000000000000000000000000000000000000000000000000000000000000000000000000 msk) (hz : Within msk org s) : Within msk org (State.fieldSilence s) := by
  unfold State.fieldSilence
  repeat' with_reducible (first | assumption | intro _ | exact partOk_refl _ _ _ | apply State.foHold_touch | apply within_ite | apply within_ite_fst | apply rows_ite | apply rows_if | apply within_foldl | apply within_foldl_fst | split | (dsimp only; split) | apply within_mk)
  all_goals first | exact sub_le (by decide) hm | exact partOk_bit (sub_bit hm (by decide)) | exact sub_bit hm (by decide) | exact .inr rfl

theorem State.foEdge_touch {msk : Nat} {org : State} (s : State) (i m kind : Nat) (due : Time) (hm : sub 0x2000000000000000000000000000000000000000000000000000000000000000000000000000000000000000000000000000000000000000000000000000000000000 msk) (hz : Within msk org s) : Within msk org (State.foEdge s i m kind due) := by
  unfold State.foEdge
  repeat' with_reducible (first | assumption | intro _ | exact partOk_refl _ _ _ | apply State.setFout_touch | apply within_ite | apply within_ite_fst | apply rows_ite | apply rows_if | apply within_foldl | apply within_foldl_fst | split | (dsimp only; split) | apply within_mk)
  all_goals first | exact sub_le (by decide) hm | exact partOk_bit (sub_bit hm (by decide)) | exact sub_bit hm (by decide) | exact .inr rfl

theorem State.foDuty_touch {msk : Nat} {org : State} (s : State) (m d : Nat) (hm : sub 0x40000000000000000000000000000000000000000000000000000000000000000000000000000000000000000000 msk) (hz : Within msk org s) : Within msk org (State.foDuty s m d) := by
  unfold State.foDuty
  repeat' with_reducible (first | assumption | intro _ | exact partOk_refl _ _ _ | apply State.setFld_touch | apply within_ite | apply within_ite_fst | apply rows_ite | apply rows_if | apply within_foldl | apply within_foldl_fst | split | (dsimp only; split) | apply within_mk)
  all_goals try with_reducible (first | refine in_FO_DUTY_DUTY ?_ _)
  all_goals first | exact sub_le (by decide) hm | exact partOk_bit (sub_bit hm (by decide)) | exact sub_bit hm (by decide) | exact in_FO_DUTY_DUTY (sub_bit hm (by decide)) _ | exact .inr rfl

theorem State.foNews_touch {msk : Nat} {org : State} (s : State) (m k : Nat) (hm : sub 0x2000000000000000000000000000000000000000000000000000000000000000000000000000000000000000000000000000000000000000000000000000000000000 msk) (hz : Within msk org s) : Within msk org (State.foNews s m k) := by
  unfold State.foNews
  repeat' with_reducible (first | assumption | intro _ | exact partOk_refl _ _ _ | apply State.setFout_touch | apply within_ite | apply within_ite_fst | apply rows_ite | apply rows_if | apply within_foldl | apply within_foldl_fst | split | (dsimp only; split) | apply within_mk)
  all_goals first | exact sub_le (by decide) hm | exact partOk_bit (sub_bit hm (by decide)) | exact sub_bit hm (by decide) | exact .inr rfl

theorem State.overload_touch {msk : Nat} {org : State} (s : State) (m : Nat) (hm : sub 0x2000000000000000000000000000000000000000000000000000000000000000000000000000000000000000000000000000000000000000000000000000000000000 msk) (hz : Within msk org s) : Within msk org (State.overload s m) := by
  unfold State.overload
  repeat' with_reducible (first | assumption | intro _ | exact partOk_refl _ _ _ | apply State.foNews_touch | apply State.setFout_touch | apply within_ite | apply within_ite_fst | apply rows_ite | apply rows_if | apply within_foldl | apply within_foldl_fst | split | (dsimp only; split) | apply within_mk)
  all_goals first | exact sub_le (by decide) hm | exact partOk_bit (sub_bit hm (by decide)) | exact sub_bit hm (by decide) | exact .inr rfl

theorem State.overloadRestart_touch {msk : Nat} {org : State} (s : State) (m : Nat) (hm : sub 0x2000000000000000000000000000000000000000000000000000000000000000000000000000000000000000000000000000000000000000000000000000000000000 msk) (hz : Within msk org s) : Within msk org (State.overloadRestart s m) := by
  unfold State.overloadRestart
  repeat' with_reducible (first | assumption | intro _ | exact partOk_refl _ _ _ | apply State.setFout_touch | apply within_ite | apply within_ite_fst | apply rows_ite | apply rows_if | apply within_foldl | apply within_foldl_fst | split | (dsimp only; split) | apply within_mk)
  all_goals first | exact sub_le (by decide) hm | exact partOk_bit (sub_bit hm (by decide)) | exact sub_bit hm (by decide) | exact .inr rfl

theorem State.overtemp_touch {msk : Nat} {org : State} (s : State) (m : Nat) (hm : sub 0x2000000000000000000000000000000000000000000000000000000000000000000000000000000000000000000000000000000000000000000000000000000000000 msk) (hz : Within msk org s) : Within msk org (State.overtemp s m) := by
  unfold State.overtemp
  repeat' with_reducible (first | assumption | intro _ | exact partOk_refl _ _ _ | apply State.foNews_touch | apply State.setFout_touch | apply within_ite | apply within_ite_fst | apply rows_ite | apply rows_if | apply within_foldl | apply within_foldl_fst | split | (dsimp only; split) | apply within_mk)
  all_goals first | exact sub_le (by decide) hm | exact partOk_bit (sub_bit hm (by decide)) | exact sub_bit hm (by decide) | exact .inr rfl

theorem State.overtempEnd_touch {msk : Nat} {org : State} (s : State) (m : Nat) (hm : sub 0x2000000000000000000000000000000000000000000000000000000000000000000000000000000000000000000000000000000000000000000000000000000000000 msk) (hz : Within msk org s) : Within msk org (State.overtempEnd s m) := by
  unfold State.overtempEnd
  repeat' with_reducible (first | assumption | intro _ | exact partOk_refl _ _ _ | apply State.setFout_touch | apply within_ite | apply within_ite_fst | apply rows_ite | apply rows_if | apply within_foldl | apply within_foldl_fst | split | (dsimp only; split) | apply within_mk)
  all_goals first | exact sub_le (by decide) hm | exact partOk_bit (sub_bit hm (by decide)) | exact sub_bit hm (by decide) | exact .inr rfl

theorem State.foWire_touch {msk : Nat} {org : State} (s : State) (m : Nat) (ua mv : Int) (hm : sub 0x2000000000000000000000000000000000000000000000000000000000000000000000000000000000000000000000000000000000000000000000000000000000000 msk) (hz : Within msk org s) : Within msk org (State.foWire s m ua mv) := by
  unfold State.foWire
  repeat' with_reducible (first | assumption | intro _ | exact partOk_refl _ _ _ | apply State.foNews_touch | apply State.setFout_touch | apply within_ite | apply within_ite_fst | apply rows_ite | apply rows_if | apply within_foldl | apply within_foldl_fst | split | (dsimp only; split) | apply within_mk)
  all_goals first | exact sub_le (by decide) hm | exact partOk_bit (sub_bit hm (by decide)) | exact sub_bit hm (by decide) | exact .inr rfl

theorem State.fieldUv_touch {msk : Nat} {org : State} (s : State) (hm : sub 0x2000000000000000000000000000000000000000000000000000000000000000000000000000000000000000000000000000000000000000000000000000000000000 msk) (hz : Within msk org s) : Within msk org (State.fieldUv s) := by
  unfold State.fieldUv
  repeat' with_reducible (first | assumption | intro _ | exact partOk_refl _ _ _ | apply State.foNews_touch | apply within_ite | apply within_ite_fst | apply rows_ite | apply rows_if | apply within_foldl | apply within_foldl_fst | split | (dsimp only; split) | apply within_mk)
  all_goals first | exact sub_le (by decide) hm | exact partOk_bit (sub_bit hm (by decide)) | exact sub_bit hm (by decide) | exact .inr rfl

theorem State.fieldUvEnd_touch {msk : Nat} {org : State} (s : State) (hm : sub 0x2000000000000000000000000000000000000000000000000000000000000000000000000000000000000000000000000000000000000000000000000000000000000 msk) (hz : Within msk org s) : Within msk org (State.fieldUvEnd s) := by
  unfold State.fieldUvEnd
  repeat' with_reducible (first | assumption | intro _ | exact partOk_refl _ _ _ | apply within_ite | apply within_ite_fst | apply rows_ite | apply rows_if | apply within_foldl | apply within_foldl_fst | split | (dsimp only; split) | apply within_mk)
  all_goals first | exact sub_le (by decide) hm | exact partOk_bit (sub_bit hm (by decide)) | exact sub_bit hm (by decide) | exact .inr rfl

theorem State.foSeal_touch {msk : Nat} {org : State} (s : State) (i m code : Nat) (hm : sub 0x1c0000003600020000000010800000000000000100008000000000000000000000000000000000004600000000000000000000001800000400068000000000140400 msk) (hz : Within msk org s) : Within msk org (State.foSeal s i m code) := by
  unfold State.foSeal
  repeat' with_reducible (first | assumption | intro _ | exact partOk_refl _ _ _ | apply State.sealEntry_touch | apply State.setFld_touch | apply State.raise_touch | apply within_ite | apply within_ite_fst | apply rows_ite | apply rows_if | apply within_foldl | apply within_foldl_fst | split | (dsimp only; split) | apply within_mk)
  all_goals try with_reducible (first | refine in_FIO_EVENT_SWITCH_BAD ?_ | refine in_FO_FAULT_SWITCH_BAD ?_ _)
  all_goals first | exact sub_le (by decide) hm | exact partOk_bit (sub_bit hm (by decide)) | exact sub_bit hm (by decide) | exact in_FIO_EVENT_SWITCH_BAD (sub_bit hm (by decide)) | exact in_FO_FAULT_SWITCH_BAD (sub_bit hm (by decide)) _ | exact .inr rfl

theorem State.foCheck_touch {msk : Nat} {org : State} (s : State) (i : Nat) (mv ma vfield : Int) (hm : sub 0x101c0000003600020000000010800000000000000d00008000000000000000000000000000000000004600000000000000000000001800000400068000000000140400 msk) (hz : Within msk org s) : Within msk org (State.foCheck s i mv ma vfield) := by
  unfold State.foCheck
  repeat' with_reducible (first | assumption | intro _ | exact partOk_refl _ _ _ | apply Run.st_touch | apply State.setSfld_touch | apply State.hold_touch | apply State.foSeal_touch | apply within_ite | apply within_ite_fst | apply rows_ite | apply rows_if | apply within_foldl | apply within_foldl_fst | split | (dsimp only; split) | apply within_mk)
  all_goals try with_reducible (first | refine in_FO_IMEAS_I ?_ _ | refine in_FO_VOUT_V ?_ _)
  all_goals first | exact sub_le (by decide) hm | exact partOk_bit (sub_bit hm (by decide)) | exact sub_bit hm (by decide) | exact in_FO_IMEAS_I (sub_bit hm (by decide)) _ | exact in_FO_VOUT_V (sub_bit hm (by decide)) _ | exact .inr rfl

theorem State.fdShadowWrite_touch {msk : Nat} {org : State} (s : State) (hm : sub 0x2000000000000000000000000000000000000000000004000000000000000000000000000000000000000000000000000000000000000000000000000000000000000 msk) (hz : Within msk org s) : Within msk org (State.fdShadowWrite s) := by
  unfold State.fdShadowWrite
  repeat' with_reducible (first | assumption | intro _ | exact partOk_refl _ _ _ | apply State.setFld_touch | apply within_ite | apply within_ite_fst | apply rows_ite | apply rows_if | apply within_foldl | apply within_foldl_fst | split | (dsimp only; split) | apply within_mk)
  all_goals try with_reducible (first | refine in_FIO_STATUS_SHADOW_OK ?_)
  all_goals first | exact sub_le (by decide) hm | exact partOk_bit (sub_bit hm (by decide)) | exact sub_bit hm (by decide) | exact in_FIO_STATUS_SHADOW_OK (sub_bit hm (by decide)) | exact .inr rfl

theorem State.fdShadowDone_touch {msk : Nat} {org : State} (s : State) (ok : Bool) (hm : sub 0x2000000000000000000000000000000000000000000004000000000000000000000000000000000000000000000000000000000000000000000000000000000000000 msk) (hz : Within msk org s) : Within msk org (State.fdShadowDone s ok) := by
  unfold State.fdShadowDone
  repeat' with_reducible (first | assumption | intro _ | exact partOk_refl _ _ _ | apply State.setFld_touch | apply within_ite | apply within_ite_fst | apply rows_ite | apply rows_if | apply within_foldl | apply within_foldl_fst | split | (dsimp only; split) | apply within_mk)
  all_goals try with_reducible (first | refine in_FIO_STATUS_SHADOW_OK ?_)
  all_goals first | exact sub_le (by decide) hm | exact partOk_bit (sub_bit hm (by decide)) | exact sub_bit hm (by decide) | exact in_FIO_STATUS_SHADOW_OK (sub_bit hm (by decide)) | exact .inr rfl

theorem has_fdShadow {m : Nat} (hm : sub 0x8890000000000000000000000000000000000000000000000000000000000000000000000000000000000000000 m) (k : Nat) : RowsHave m (fdShadowReg k) := by
  unfold fdShadowReg
  split
  · exact has_FO_CFG (sub_bit hm (by decide)) k
  · split
    · exact has_FI_CFG (sub_bit hm (by decide)) (k - 32)
    · split
      · exact has_FIO_GRP (sub_bit hm (by decide))
      · exact has_FIO_BAR (sub_bit hm (by decide))

theorem has_fieldCfg {m : Nat} (hm : sub 0x8890000000000000000000000000000000000000000000000000000000000000000000000000000000000000000 m) {a : Nat} (h : fieldCfg a = true) : RowsHave m a := by
  simp only [fieldCfg, inRange, Bool.or_eq_true, Bool.and_eq_true, decide_eq_true_eq, beq_iff_eq] at h
  rcases h with ⟨⟨h1, h2⟩, h3⟩ | ⟨⟨h1, h2⟩, h3⟩ | h | h
  · exact rows_eq (has_FO_CFG (sub_bit hm (by decide)) ((a - 0x590600) / 0x40)) (by omega)
  · exact rows_eq (has_FI_CFG (sub_bit hm (by decide)) ((a - 0x590100) / 0x10)) (by omega)
  · exact h ▸ has_FIO_GRP (sub_bit hm (by decide))
  · exact h ▸ has_FIO_BAR (sub_bit hm (by decide))

theorem State.fdFromShadow_touch {msk : Nat} {org : State} (s : State) (hm : sub 0x8890000000000000000000000000000000000000000000000000000000000000000000000000000000000000000 msk) (hz : Within msk org s) : Within msk org (State.fdFromShadow s) := by
  unfold State.fdFromShadow
  have h1 : Within msk org ({ s with regs := s.regs.filter (fun e => !fieldCfg e.1) } : State) :=
    within_drop hz (fun a ha _ => has_fieldCfg hm ha) rfl rfl (fun p _ => by cases p <;> rfl)
  repeat' with_reducible (first | assumption | intro _ | exact partOk_refl _ _ _ | apply State.setReg_touch | apply within_ite | apply within_ite_fst | apply rows_ite | apply rows_if | apply within_foldl | apply within_foldl_fst | split | (dsimp only; split) | apply within_mk)
  all_goals try with_reducible (first | refine has_fdShadow (sub_le (by decide) hm) _)
  all_goals first | exact sub_le (by decide) hm | exact partOk_bit (sub_bit hm (by decide)) | exact sub_bit hm (by decide) | exact has_fdShadow (sub_le (by decide) hm) _ | exact .inr rfl

theorem State.fdPowerOn_touch {msk : Nat} {org : State} (s : State) (hm : sub 0x2040000000000000000000010800000000000001fffffc000000000000000000000000000000000000000000000000000000000000000000000000000000000000000 msk) (hz : Within msk org s) : Within msk org (State.fdPowerOn s) := by
  unfold State.fdPowerOn
  have h1 : Within msk org ({ s with regs := s.regs.filter (fun e => !(inRange 0x590000 0x5A0000 e.1)), fd := { shadow := if decide (shadowCrc s.fd.store = s.fd.storeCrc) then s.fd.store else [], shadowGood := decide (shadowCrc s.fd.store = s.fd.storeCrc), store := s.fd.store, storeCrc := s.fd.storeCrc } } : State) := by
    refine within_forget hz (fun a ha hd => has_defined hm hd ?_) rfl rfl (fun p hp => ?_)
    · have : rowsAt a = rowsAt 0x590000 := by
        simp only [inRange, Bool.and_eq_true, decide_eq_true_eq] at ha
        unfold rowsAt
        simp (disch := omega) only [if_neg, if_pos]
      rw [this]
      decide +kernel
    · cases p <;> first | exact rfl | exact absurd (sub_bit (k := 529) hm (by decide)) (by rw [show msk.testBit 529 = false from hp]; decide)
  repeat' with_reducible (first | assumption | intro _ | exact partOk_refl _ _ _ | apply State.fdFromShadow_touch | apply State.setFld_touch | apply State.raise_touch | apply within_ite | apply within_ite_fst | apply rows_ite | apply rows_if | apply within_foldl | apply within_foldl_fst | split | (dsimp only; split) | apply within_mk)
  all_goals try with_reducible (first | refine in_FIO_STATUS_SHADOW_OK ?_ | refine in_FIO_EVENT_SHADOW_ERR ?_)
  all_goals first | exact sub_le (by decide) hm | exact partOk_bit (sub_bit hm (by decide)) | exact sub_bit hm (by decide) | exact in_FIO_STATUS_SHADOW_OK (sub_bit hm (by decide)) | exact in_FIO_EVENT_SHADOW_ERR (sub_bit hm (by decide)) | exact .inr rfl

theorem State.foTake_touch {msk : Nat} {org : State} (s : State) (hm : sub 0x2000000000000000000000000000000000000000008894000000000000000000000000000000000000000000000000000000000000000000000000000000000000000 msk) (hz : Within msk org s) : Within msk org (State.foTake s) := by
  unfold State.foTake
  repeat' with_reducible (first | assumption | intro _ | exact partOk_refl _ _ _ | apply State.unlatch_touch | apply State.setFout_touch | apply State.setReg_touch | apply State.fdShadowWrite_touch | apply within_ite | apply within_ite_fst | apply rows_ite | apply rows_if | apply within_foldl | apply within_foldl_fst | split | (dsimp only; split) | apply within_mk)
  all_goals try with_reducible (first | refine has_fdShadow (sub_le (by decide) hm) _)
  all_goals first | exact sub_le (by decide) hm | exact partOk_bit (sub_bit hm (by decide)) | exact sub_bit hm (by decide) | exact has_fdShadow (sub_le (by decide) hm) _ | exact .inr rfl

theorem State.foCommands_touch {msk : Nat} {org : State} (s : State) (hm : sub 0x2000000000000000000000000000000000000000000000000000000000000000000000000000000000000000000000000000000000000000000000000000000000000 msk) (hz : Within msk org s) : Within msk org (State.foCommands s) := by
  unfold State.foCommands
  repeat' with_reducible (first | assumption | intro _ | exact partOk_refl _ _ _ | apply State.setFout_touch | apply within_ite | apply within_ite_fst | apply rows_ite | apply rows_if | apply within_foldl | apply within_foldl_fst | split | (dsimp only; split) | apply within_mk)
  all_goals first | exact sub_le (by decide) hm | exact partOk_bit (sub_bit hm (by decide)) | exact sub_bit hm (by decide) | exact .inr rfl

theorem State.outboundFrame_touch {msk : Nat} {org : State} (s : State) (ok : Bool) (hm : sub 0x2000000000000000000000000000000000000000018894000000000000000000000000000000000000000000000000000000000000000000000000000000000000000 msk) (hz : Within msk org s) : Within msk org (State.outboundFrame s ok) := by
  unfold State.outboundFrame
  repeat' with_reducible (first | assumption | intro _ | exact partOk_refl _ _ _ | apply State.heardSeq_touch | apply State.foTake_touch | apply State.foHear_touch | apply State.foCommands_touch | apply within_ite | apply within_ite_fst | apply rows_ite | apply rows_if | apply within_foldl | apply within_foldl_fst | split | (dsimp only; split) | apply within_mk)
  all_goals first | exact sub_le (by decide) hm | exact partOk_bit (sub_bit hm (by decide)) | exact sub_bit hm (by decide) | exact .inr rfl

theorem State.cosBit_touch {msk : Nat} {org : State} (s : State) (n : Nat) (hm : sub 0x40000000000000000000010800000000000000000208000000000000000000000000000000000000000000000000000000000000000000000000000000000000400 msk) (hz : Within msk org s) : Within msk org (State.cosBit s n) := by
  unfold State.cosBit
  repeat' with_reducible (first | assumption | intro _ | exact partOk_refl _ _ _ | apply State.setFbit_touch | apply State.raise_touch | apply State.ctxIrq_touch | apply within_ite | apply within_ite_fst | apply rows_ite | apply rows_if | apply within_foldl | apply within_foldl_fst | split | (dsimp only; split) | apply within_mk)
  all_goals try with_reducible (first | refine in_FIO_EVENT_COS ?_ | refine in_FIO_COS_COS ?_ _)
  all_goals first | exact sub_le (by decide) hm | exact partOk_bit (sub_bit hm (by decide)) | exact sub_bit hm (by decide) | exact in_FIO_EVENT_COS (sub_bit hm (by decide)) | exact in_FIO_COS_COS (sub_bit hm (by decide)) _ | exact .inr rfl

theorem State.inputEdge_touch {msk : Nat} {org : State} (s : State) (n : Nat) (rising : Bool) (t : Time) (hm : sub 0x12850000000000000000000010800000000000000007308000000009120000000000000000000000000000000000000002000000000000000000000000000000000400 msk) (hz : Within msk org s) : Within msk org (State.inputEdge s n rising t) := by
  unfold State.inputEdge
  extract_lets x s1 s2 s3 cos s4 s5 s6
  have h_s1 : Within msk org s1 := by
    dsimp only [s1]
    ((repeat' with_reducible (first | assumption | intro _ | exact partOk_refl _ _ _ | apply State.setFbit_touch | apply State.setBit_touch | apply State.setFld_touch | apply State.count_touch | apply State.setInput_touch | apply State.hold_touch | apply State.cosBit_touch | apply State.counterEdge_touch | apply State.newSample_touch | apply State.speedEdge_touch | apply within_ite | apply within_ite_fst | apply rows_ite | apply rows_if | apply within_foldl | apply within_foldl_fst | split | (dsimp only; split) | apply within_mk)); (all_goals try with_reducible (first | refine in_FI_STAT_LEVEL ?_ _ | refine in_FIO_LEVEL_LEVEL ?_ _ | refine in_FI_COUNT_COUNT ?_ _ | refine in_FI_STAMP_STAMP ?_ _ | refine in_FI_STAT_LAST_DIR ?_ _)); (all_goals first | exact sub_le (by decide) hm | exact partOk_bit (sub_bit hm (by decide)) | exact sub_bit hm (by decide) | exact in_FI_STAT_LEVEL (sub_bit hm (by decide)) _ | exact in_FIO_LEVEL_LEVEL (sub_bit hm (by decide)) _ | exact in_FI_COUNT_COUNT (sub_bit hm (by decide)) _ | exact in_FI_STAMP_STAMP (sub_bit hm (by decide)) _ | exact in_FI_STAT_LAST_DIR (sub_bit hm (by decide)) _ | exact .inr rfl))
  clear_value s1
  have h_s2 : Within msk org s2 := by
    dsimp only [s2]
    ((repeat' with_reducible (first | assumption | intro _ | exact partOk_refl _ _ _ | apply State.setFbit_touch | apply State.setBit_touch | apply State.setFld_touch | apply State.count_touch | apply State.setInput_touch | apply State.hold_touch | apply State.cosBit_touch | apply State.counterEdge_touch | apply State.newSample_touch | apply State.speedEdge_touch | apply within_ite | apply within_ite_fst | apply rows_ite | apply rows_if | apply within_foldl | apply within_foldl_fst | split | (dsimp only; split) | apply within_mk)); (all_goals try with_reducible (first | refine in_FI_STAT_LEVEL ?_ _ | refine in_FIO_LEVEL_LEVEL ?_ _ | refine in_FI_COUNT_COUNT ?_ _ | refine in_FI_STAMP_STAMP ?_ _ | refine in_FI_STAT_LAST_DIR ?_ _)); (all_goals first | exact sub_le (by decide) hm | exact partOk_bit (sub_bit hm (by decide)) | exact sub_bit hm (by decide) | exact in_FI_STAT_LEVEL (sub_bit hm (by decide)) _ | exact in_FIO_LEVEL_LEVEL (sub_bit hm (by decide)) _ | exact in_FI_COUNT_COUNT (sub_bit hm (by decide)) _ | exact in_FI_STAMP_STAMP (sub_bit hm (by decide)) _ | exact in_FI_STAT_LAST_DIR (sub_bit hm (by decide)) _ | exact .inr rfl))
  clear_value s2
  have h_s3 : Within msk org s3 := by
    dsimp only [s3]
    ((repeat' with_reducible (first | assumption | intro _ | exact partOk_refl _ _ _ | apply State.setFbit_touch | apply State.setBit_touch | apply State.setFld_touch | apply State.count_touch | apply State.setInput_touch | apply State.hold_touch | apply State.cosBit_touch | apply State.counterEdge_touch | apply State.newSample_touch | apply State.speedEdge_touch | apply within_ite | apply within_ite_fst | apply rows_ite | apply rows_if | apply within_foldl | apply within_foldl_fst | split | (dsimp only; split) | apply within_mk)); (all_goals try with_reducible (first | refine in_FI_STAT_LEVEL ?_ _ | refine in_FIO_LEVEL_LEVEL ?_ _ | refine in_FI_COUNT_COUNT ?_ _ | refine in_FI_STAMP_STAMP ?_ _ | refine in_FI_STAT_LAST_DIR ?_ _)); (all_goals first | exact sub_le (by decide) hm | exact partOk_bit (sub_bit hm (by decide)) | exact sub_bit hm (by decide) | exact in_FI_STAT_LEVEL (sub_bit hm (by decide)) _ | exact in_FIO_LEVEL_LEVEL (sub_bit hm (by decide)) _ | exact in_FI_COUNT_COUNT (sub_bit hm (by decide)) _ | exact in_FI_STAMP_STAMP (sub_bit hm (by decide)) _ | exact in_FI_STAT_LAST_DIR (sub_bit hm (by decide)) _ | exact .inr rfl))
  clear_value s3
  have h_s4 : Within msk org s4 := by
    dsimp only [s4]
    ((repeat' with_reducible (first | assumption | intro _ | exact partOk_refl _ _ _ | apply State.setFbit_touch | apply State.setBit_touch | apply State.setFld_touch | apply State.count_touch | apply State.setInput_touch | apply State.hold_touch | apply State.cosBit_touch | apply State.counterEdge_touch | apply State.newSample_touch | apply State.speedEdge_touch | apply within_ite | apply within_ite_fst | apply rows_ite | apply rows_if | apply within_foldl | apply within_foldl_fst | split | (dsimp only; split) | apply within_mk)); (all_goals try with_reducible (first | refine in_FI_STAT_LEVEL ?_ _ | refine in_FIO_LEVEL_LEVEL ?_ _ | refine in_FI_COUNT_COUNT ?_ _ | refine in_FI_STAMP_STAMP ?_ _ | refine in_FI_STAT_LAST_DIR ?_ _)); (all_goals first | exact sub_le (by decide) hm | exact partOk_bit (sub_bit hm (by decide)) | exact sub_bit hm (by decide) | exact in_FI_STAT_LEVEL (sub_bit hm (by decide)) _ | exact in_FIO_LEVEL_LEVEL (sub_bit hm (by decide)) _ | exact in_FI_COUNT_COUNT (sub_bit hm (by decide)) _ | exact in_FI_STAMP_STAMP (sub_bit hm (by decide)) _ | exact in_FI_STAT_LAST_DIR (sub_bit hm (by decide)) _ | exact .inr rfl))
  clear_value s4
  have h_s5 : Within msk org s5 := by
    dsimp only [s5]
    ((repeat' with_reducible (first | assumption | intro _ | exact partOk_refl _ _ _ | apply State.setFbit_touch | apply State.setBit_touch | apply State.setFld_touch | apply State.count_touch | apply State.setInput_touch | apply State.hold_touch | apply State.cosBit_touch | apply State.counterEdge_touch | apply State.newSample_touch | apply State.speedEdge_touch | apply within_ite | apply within_ite_fst | apply rows_ite | apply rows_if | apply within_foldl | apply within_foldl_fst | split | (dsimp only; split) | apply within_mk)); (all_goals try with_reducible (first | refine in_FI_STAT_LEVEL ?_ _ | refine in_FIO_LEVEL_LEVEL ?_ _ | refine in_FI_COUNT_COUNT ?_ _ | refine in_FI_STAMP_STAMP ?_ _ | refine in_FI_STAT_LAST_DIR ?_ _)); (all_goals first | exact sub_le (by decide) hm | exact partOk_bit (sub_bit hm (by decide)) | exact sub_bit hm (by decide) | exact in_FI_STAT_LEVEL (sub_bit hm (by decide)) _ | exact in_FIO_LEVEL_LEVEL (sub_bit hm (by decide)) _ | exact in_FI_COUNT_COUNT (sub_bit hm (by decide)) _ | exact in_FI_STAMP_STAMP (sub_bit hm (by decide)) _ | exact in_FI_STAT_LAST_DIR (sub_bit hm (by decide)) _ | exact .inr rfl))
  clear_value s5
  have h_s6 : Within msk org s6 := by
    dsimp only [s6]
    ((repeat' with_reducible (first | assumption | intro _ | exact partOk_refl _ _ _ | apply State.setFbit_touch | apply State.setBit_touch | apply State.setFld_touch | apply State.count_touch | apply State.setInput_touch | apply State.hold_touch | apply State.cosBit_touch | apply State.counterEdge_touch | apply State.newSample_touch | apply State.speedEdge_touch | apply within_ite | apply within_ite_fst | apply rows_ite | apply rows_if | apply within_foldl | apply within_foldl_fst | split | (dsimp only; split) | apply within_mk)); (all_goals try with_reducible (first | refine in_FI_STAT_LEVEL ?_ _ | refine in_FIO_LEVEL_LEVEL ?_ _ | refine in_FI_COUNT_COUNT ?_ _ | refine in_FI_STAMP_STAMP ?_ _ | refine in_FI_STAT_LAST_DIR ?_ _)); (all_goals first | exact sub_le (by decide) hm | exact partOk_bit (sub_bit hm (by decide)) | exact sub_bit hm (by decide) | exact in_FI_STAT_LEVEL (sub_bit hm (by decide)) _ | exact in_FIO_LEVEL_LEVEL (sub_bit hm (by decide)) _ | exact in_FI_COUNT_COUNT (sub_bit hm (by decide)) _ | exact in_FI_STAMP_STAMP (sub_bit hm (by decide)) _ | exact in_FI_STAT_LAST_DIR (sub_bit hm (by decide)) _ | exact .inr rfl))
  clear_value s6
  ((repeat' with_reducible (first | assumption | intro _ | exact partOk_refl _ _ _ | apply State.setFbit_touch | apply State.setBit_touch | apply State.setFld_touch | apply State.count_touch | apply State.setInput_touch | apply State.hold_touch | apply State.cosBit_touch | apply State.counterEdge_touch | apply State.newSample_touch | apply State.speedEdge_touch | apply within_ite | apply within_ite_fst | apply rows_ite | apply rows_if | apply within_foldl | apply within_foldl_fst | split | (dsimp only; split) | apply within_mk)); (all_goals try with_reducible (first | refine in_FI_STAT_LEVEL ?_ _ | refine in_FIO_LEVEL_LEVEL ?_ _ | refine in_FI_COUNT_COUNT ?_ _ | refine in_FI_STAMP_STAMP ?_ _ | refine in_FI_STAT_LAST_DIR ?_ _)); (all_goals first | exact sub_le (by decide) hm | exact partOk_bit (sub_bit hm (by decide)) | exact sub_bit hm (by decide) | exact in_FI_STAT_LEVEL (sub_bit hm (by decide)) _ | exact in_FIO_LEVEL_LEVEL (sub_bit hm (by decide)) _ | exact in_FI_COUNT_COUNT (sub_bit hm (by decide)) _ | exact in_FI_STAMP_STAMP (sub_bit hm (by decide)) _ | exact in_FI_STAT_LAST_DIR (sub_bit hm (by decide)) _ | exact .inr rfl))

theorem State.inputReport_touch {msk : Nat} {org : State} (s : State) (n : Nat) (hm : sub 0x5100000000000000000000000000000000000000000000000000000000000000000000000000000000000000000 msk) (hz : Within msk org s) : Within msk org (State.inputReport s n) := by
  unfold State.inputReport
  repeat' with_reducible (first | assumption | intro _ | exact partOk_refl _ _ _ | apply State.setFld_touch | apply State.setFbit_touch | apply State.setBit_touch | apply State.count_touch | apply within_ite | apply within_ite_fst | apply rows_ite | apply rows_if | apply within_foldl | apply within_foldl_fst | split | (dsimp only; split) | apply within_mk)
  all_goals try with_reducible (first | refine in_FI_STAT_STALE ?_ _ | refine in_FI_STAT_LEVEL ?_ _ | refine in_FIO_LEVEL_LEVEL ?_ _ | refine in_FI_COUNT_COUNT ?_ _)
  all_goals first | exact sub_le (by decide) hm | exact partOk_bit (sub_bit hm (by decide)) | exact sub_bit hm (by decide) | exact in_FI_STAT_STALE (sub_bit hm (by decide)) _ | exact in_FI_STAT_LEVEL (sub_bit hm (by decide)) _ | exact in_FIO_LEVEL_LEVEL (sub_bit hm (by decide)) _ | exact in_FI_COUNT_COUNT (sub_bit hm (by decide)) _ | exact .inr rfl

theorem State.outputReport_touch {msk : Nat} {org : State} (s : State) (m : Nat) (hm : sub 0x2040000000000000000000010800000000000001180008000000000000000000000000000000000000000000000000000000000000000000000000000000000000000 msk) (hz : Within msk org s) : Within msk org (State.outputReport s m) := by
  unfold State.outputReport
  repeat' with_reducible (first | assumption | intro _ | exact partOk_refl _ _ _ | apply State.setReg_touch | apply State.setFld_touch | apply State.raiseIf_touch | apply State.bump_touch | apply State.setFout_touch | apply within_ite | apply within_ite_fst | apply rows_ite | apply rows_if | apply within_foldl | apply within_foldl_fst | split | (dsimp only; split) | apply within_mk)
  all_goals try with_reducible (first | refine has_FO_STATE ?_ _ | refine has_FO_FAULT ?_ _ | refine in_FIO_EVENT_OW_OUT ?_ | refine in_FIO_EVENT_OVERTEMP ?_ | refine in_FIO_EVENT_OVERLOAD ?_ | refine in_FO_CNT_OVL_N ?_ _)
  all_goals first | exact sub_le (by decide) hm | exact partOk_bit (sub_bit hm (by decide)) | exact sub_bit hm (by decide) | exact has_FO_STATE (sub_bit hm (by decide)) _ | exact has_FO_FAULT (sub_bit hm (by decide)) _ | exact in_FIO_EVENT_OW_OUT (sub_bit hm (by decide)) | exact in_FIO_EVENT_OVERTEMP (sub_bit hm (by decide)) | exact in_FIO_EVENT_OVERLOAD (sub_bit hm (by decide)) | exact in_FO_CNT_OVL_N (sub_bit hm (by decide)) _ | exact .inr rfl

theorem State.vfieldReport_touch {msk : Nat} {org : State} (s : State) (hm : sub 0x204000000000000000000001080000000000000000000c000000000000000000000000000000000000000000000000000000000000000000000000000000000000000 msk) (hz : Within msk org s) : Within msk org (State.vfieldReport s) := by
  unfold State.vfieldReport
  repeat' with_reducible (first | assumption | intro _ | exact partOk_refl _ _ _ | apply State.setBit_touch | apply State.raiseIf_touch | apply within_ite | apply within_ite_fst | apply rows_ite | apply rows_if | apply within_foldl | apply within_foldl_fst | split | (dsimp only; split) | apply within_mk)
  all_goals try with_reducible (first | refine in_FIO_EVENT_VFIELD_UV ?_ | refine in_FIO_STATUS_VFIELD_UV ?_)
  all_goals first | exact sub_le (by decide) hm | exact partOk_bit (sub_bit hm (by decide)) | exact sub_bit hm (by decide) | exact in_FIO_EVENT_VFIELD_UV (sub_bit hm (by decide)) | exact in_FIO_STATUS_VFIELD_UV (sub_bit hm (by decide)) | exact .inr rfl

theorem State.edgesSent_touch {msk : Nat} {org : State} (s : State) (hm : sub 0x2000000000000000000000000000000000000000000000000000000000000000000000000000000000000000000000000000000000000000000000000000000000000 msk) (hz : Within msk org s) : Within msk org (State.edgesSent s) := by
  unfold State.edgesSent
  repeat' with_reducible (first | assumption | intro _ | exact partOk_refl _ _ _ | apply State.setInput_touch | apply within_ite | apply within_ite_fst | apply rows_ite | apply rows_if | apply within_foldl | apply within_foldl_fst | split | (dsimp only; split) | apply within_mk)
  all_goals first | exact sub_le (by decide) hm | exact partOk_bit (sub_bit hm (by decide)) | exact sub_bit hm (by decide) | exact .inr rfl

theorem State.inboundFrame_touch {msk : Nat} {org : State} (s : State) (f : BarrierIn) (hm : sub 0x12850000000000000000000010800000000000001d8776c000000009120000000000000000000000000000000000000002000000000000000000000000000000000400 msk) (hz : Within msk org s) : Within msk org (State.inboundFrame s f) := by
  unfold State.inboundFrame
  repeat' with_reducible (first | assumption | intro _ | exact partOk_refl _ _ _ | apply State.edgesSent_touch | apply State.bump_touch | apply State.setFld_touch | apply State.setSfld_touch | apply State.vfieldReport_touch | apply State.inputReport_touch | apply State.inputEdge_touch | apply State.setBit_touch | apply State.setFbit_touch | apply State.raise_touch | apply State.outputReport_touch | apply within_ite | apply within_ite_fst | apply rows_ite | apply rows_if | apply within_foldl | apply within_foldl_fst | split | (dsimp only; split) | apply within_mk)
  all_goals try with_reducible (first | refine in_FIO_BARCNT_CRC_N ?_ | refine in_FIO_BARCNT_SKIP_N ?_ | refine in_FIO_STATUS_SILENT ?_ | refine in_FIO_VFIELD_V ?_ | refine in_FIO_STATUS_BAR_OK ?_ | refine in_FIO_OWIN_OW ?_ _ | refine in_FI_STAT_OPEN_WIRE ?_ _ | refine in_FIO_EVENT_OW_IN ?_ | refine in_FO_STATE_IN_LIMIT ?_ _ | refine in_FO_VOUT_V ?_ _ | refine in_FO_IMEAS_I ?_ _)
  all_goals first | exact sub_le (by decide) hm | exact partOk_bit (sub_bit hm (by decide)) | exact sub_bit hm (by decide) | exact in_FIO_BARCNT_CRC_N (sub_bit hm (by decide)) | exact in_FIO_BARCNT_SKIP_N (sub_bit hm (by decide)) | exact in_FIO_STATUS_SILENT (sub_bit hm (by decide)) | exact in_FIO_VFIELD_V (sub_bit hm (by decide)) | exact in_FIO_STATUS_BAR_OK (sub_bit hm (by decide)) | exact in_FIO_OWIN_OW (sub_bit hm (by decide)) _ | exact in_FI_STAT_OPEN_WIRE (sub_bit hm (by decide)) _ | exact in_FIO_EVENT_OW_IN (sub_bit hm (by decide)) | exact in_FO_STATE_IN_LIMIT (sub_bit hm (by decide)) _ | exact in_FO_VOUT_V (sub_bit hm (by decide)) _ | exact in_FO_IMEAS_I (sub_bit hm (by decide)) _ | exact .inr rfl

theorem State.barrierTimeout_touch {msk : Nat} {org : State} (s : State) (hm : sub 0x206000000361182000000005080000000000000000100c000000000000000000000000000000000000000000000000000000000000000000000000000000000000000 msk) (hz : Within msk org s) : Within msk org (State.barrierTimeout s) := by
  unfold State.barrierTimeout
  repeat' with_reducible (first | assumption | intro _ | exact partOk_refl _ _ _ | apply State.setFld_touch | apply State.raise_touch | apply State.canvas_touch | apply within_ite | apply within_ite_fst | apply rows_ite | apply rows_if | apply within_foldl | apply within_foldl_fst | split | (dsimp only; split) | apply within_mk)
  all_goals try with_reducible (first | refine in_FIO_EVENT_BAR_LOST ?_ | refine in_FIO_STATUS_BAR_OK ?_ | refine in_FI_STAT_STALE ?_ _ | refine in_RES_EVENT_DIE_LINK ?_)
  all_goals first | exact sub_le (by decide) hm | exact partOk_bit (sub_bit hm (by decide)) | exact sub_bit hm (by decide) | exact in_FIO_EVENT_BAR_LOST (sub_bit hm (by decide)) | exact in_FIO_STATUS_BAR_OK (sub_bit hm (by decide)) | exact in_FI_STAT_STALE (sub_bit hm (by decide)) _ | exact in_RES_EVENT_DIE_LINK (sub_bit hm (by decide)) | exact .inr rfl

theorem State.fdWrite_touch {msk : Nat} {org : State} (s : State) (sup own : Bool) (a v : Nat) (hm : sub 0x2040000000000000000000010800000000000000060008000000000000000000000000000000000000000000000000000000000000000000000000000000000000000 msk) (ha : RowsHave msk a) (hz : Within msk org s) : Within msk org (State.fdWrite s sup own a v) := by
  unfold State.fdWrite
  repeat' with_reducible (first | assumption | intro _ | exact partOk_refl _ _ _ | apply State.raise_touch | apply State.setFld_touch | apply State.writeCodes_touch | apply State.foDuty_touch | apply State.unlatch_touch | apply within_ite | apply within_ite_fst | apply rows_ite | apply rows_if | apply within_foldl | apply within_foldl_fst | split | (dsimp only; split) | apply within_mk)
  all_goals try with_reducible (first | refine in_FIO_EVENT_CFG_ERR ?_ | refine in_FO_PERIOD_PERIOD ?_ _)
  all_goals first | exact sub_le (by decide) hm | exact partOk_bit (sub_bit hm (by decide)) | exact sub_bit hm (by decide) | exact in_FIO_EVENT_CFG_ERR (sub_bit hm (by decide)) | exact in_FO_PERIOD_PERIOD (sub_bit hm (by decide)) _ | exact .inr rfl

end Sys2Proof.Machine
end

