-- ==== Sys2Proof/Laws/TouchBus.lean ====
section
/-! SUPPORT. What each operation of Machine/Bus.lean may change, as a mask. -/

namespace Sys2Proof.Machine

set_option linter.all false
set_option Elab.async false

theorem State.setPort_touch {msk : Nat} {org : State} (s : State) (p : Nat) (x : PortState) (hm : sub 0x4000000000000000000000000000000000000000000000000000000000000000000000000000000000000000000000000000000000000000000000000000000000000 msk) (hz : Within msk org s) : Within msk org (State.setPort s p x) := by
  unfold State.setPort
  repeat' with_reducible (first | assumption | intro _ | exact partOk_refl _ _ _ | apply within_ite | apply within_ite_fst | apply rows_ite | apply rows_if | apply within_foldl | apply within_foldl_fst | split | (dsimp only; split) | apply within_mk)
  all_goals first | exact sub_le (by decide) hm | exact partOk_bit (sub_bit hm (by decide)) | exact sub_bit hm (by decide) | exact .inr rfl

theorem State.setTxObj_touch {msk : Nat} {org : State} (s : State) (k : Nat) (x : TxObj) (hm : sub 0x4000000000000000000000000000000000000000000000000000000000000000000000000000000000000000000000000000000000000000000000000000000000000 msk) (hz : Within msk org s) : Within msk org (State.setTxObj s k x) := by
  unfold State.setTxObj
  repeat' with_reducible (first | assumption | intro _ | exact partOk_refl _ _ _ | apply within_ite | apply within_ite_fst | apply rows_ite | apply rows_if | apply within_foldl | apply within_foldl_fst | split | (dsimp only; split) | apply within_mk)
  all_goals first | exact sub_le (by decide) hm | exact partOk_bit (sub_bit hm (by decide)) | exact sub_bit hm (by decide) | exact .inr rfl

theorem State.busRefresh_touch {msk : Nat} {org : State} (s : State) (p : Nat) (hm : sub 0x10000000000000000000000000000000000000000000000000000000000000000000000000000000000000000000000 msk) (hz : Within msk org s) : Within msk org (State.busRefresh s p) := by
  unfold State.busRefresh
  repeat' with_reducible (first | assumption | intro _ | exact partOk_refl _ _ _ | apply State.setFld_touch | apply State.setBit_touch | apply within_ite | apply within_ite_fst | apply rows_ite | apply rows_if | apply within_foldl | apply within_foldl_fst | split | (dsimp only; split) | apply within_mk)
  all_goals try with_reducible (first | refine in_BP_STATUS_STRANDED ?_ _ | refine in_BP_STATUS_QUEUED ?_ _)
  all_goals first | exact sub_le (by decide) hm | exact partOk_bit (sub_bit hm (by decide)) | exact sub_bit hm (by decide) | exact in_BP_STATUS_STRANDED (sub_bit hm (by decide)) _ | exact in_BP_STATUS_QUEUED (sub_bit hm (by decide)) _ | exact .inr rfl

theorem State.complete_touch {msk : Nat} {org : State} (s : State) (c tag flags status r0 r1 : Nat) (hm : sub 0x40000000000000000000010810000000000000000000000000000000000000000000000000000000000000000000000000000000000000000000000000000000620 msk) (hz : Within msk org s) : Within msk org (State.complete s c tag flags status r0 r1) := by
  unfold State.complete
  repeat' with_reducible (first | assumption | intro _ | exact partOk_refl _ _ _ | apply State.hostWriteMem_touch | apply State.setFld_touch | apply State.bump_touch | apply State.ctxIrq_touch | apply State.dmaError_touch | apply within_ite | apply within_ite_fst | apply rows_ite | apply rows_if | apply within_foldl | apply within_foldl_fst | split | (dsimp only; split) | apply within_mk)
  all_goals try with_reducible (first | refine in_CW_CQ_TAIL_INDEX ?_ _ | refine in_CW_CQ_TAIL_PHASE ?_ _ | refine in_CTX_CNT_REFUSED_N ?_ _ | refine in_CTX_CNT_UNBOUND_N ?_ _)
  all_goals first | exact sub_le (by decide) hm | exact partOk_bit (sub_bit hm (by decide)) | exact sub_bit hm (by decide) | exact in_CW_CQ_TAIL_INDEX (sub_bit hm (by decide)) _ | exact in_CW_CQ_TAIL_PHASE (sub_bit hm (by decide)) _ | exact in_CTX_CNT_REFUSED_N (sub_bit hm (by decide)) _ | exact in_CTX_CNT_UNBOUND_N (sub_bit hm (by decide)) _ | exact .inr rfl

theorem State.completeLater_touch {msk : Nat} {org : State} (s : State) (c tag flags status r0 r1 : Nat) (hm : sub 0x40000000000000000000010810000000000000000000000000000000000000000000000000000000000000000000000000000000000000000000000000000000620 msk) (hz : Within msk org s) : Within msk org (State.completeLater s c tag flags status r0 r1) := by
  unfold State.completeLater
  repeat' with_reducible (first | assumption | intro _ | exact partOk_refl _ _ _ | apply State.complete_touch | apply within_ite | apply within_ite_fst | apply rows_ite | apply rows_if | apply within_foldl | apply within_foldl_fst | split | (dsimp only; split) | apply within_mk)
  all_goals first | exact sub_le (by decide) hm | exact partOk_bit (sub_bit hm (by decide)) | exact sub_bit hm (by decide) | exact .inr rfl

theorem State.finish_touch {msk : Nat} {org : State} (s : State) (c tag flags status : Nat) (hm : sub 0x40000000000000000000010810000000000000000000000000000000000000000000000000000000000000000000000000000000000000000000000000000000620 msk) (hz : Within msk org s) : Within msk org (State.finish s c tag flags status) := by
  unfold State.finish
  repeat' with_reducible (first | assumption | intro _ | exact partOk_refl _ _ _ | apply State.completeLater_touch | apply within_ite | apply within_ite_fst | apply rows_ite | apply rows_if | apply within_foldl | apply within_foldl_fst | split | (dsimp only; split) | apply within_mk)
  all_goals first | exact sub_le (by decide) hm | exact partOk_bit (sub_bit hm (by decide)) | exact sub_bit hm (by decide) | exact .inr rfl

theorem State.depart_touch {msk : Nat} {org : State} (s : State) (e : QEntry) (status : Nat) (hm : sub 0x40000000000000000000010810000000000000000000000000000000000000000000000000000000000000000000000000000000000000000000000000000000620 msk) (hz : Within msk org s) : Within msk org (State.depart s e status) := by
  unfold State.depart
  repeat' with_reducible (first | assumption | intro _ | exact partOk_refl _ _ _ | apply State.finish_touch | apply within_ite | apply within_ite_fst | apply rows_ite | apply rows_if | apply within_foldl | apply within_foldl_fst | split | (dsimp only; split) | apply within_mk)
  all_goals first | exact sub_le (by decide) hm | exact partOk_bit (sub_bit hm (by decide)) | exact sub_bit hm (by decide) | exact .inr rfl

theorem State.portOff_touch {msk : Nat} {org : State} (s : State) (p : Nat) (hm : sub 0x4040000000000000000000010810000000000030000000000000000000000000000000000000000000000000000000000000000000000000000000000000000000620 msk) (hz : Within msk org s) : Within msk org (State.portOff s p) := by
  unfold State.portOff
  repeat' with_reducible (first | assumption | intro _ | exact partOk_refl _ _ _ | apply State.depart_touch | apply State.setPort_touch | apply State.setReg_touch | apply State.busRefresh_touch | apply within_ite | apply within_ite_fst | apply rows_ite | apply rows_if | apply within_foldl | apply within_foldl_fst | split | (dsimp only; split) | apply within_mk)
  all_goals try with_reducible (first | refine has_BP_ERRCNT ?_ _ | refine has_BP_STATUS ?_ _)
  all_goals first | exact sub_le (by decide) hm | exact partOk_bit (sub_bit hm (by decide)) | exact sub_bit hm (by decide) | exact has_BP_ERRCNT (sub_bit hm (by decide)) _ | exact has_BP_STATUS (sub_bit hm (by decide)) _ | exact .inr rfl

theorem State.portJoin_touch {msk : Nat} {org : State} (s : State) (p : Nat) (hm : sub 0x4000000000000000000000000000000000000010000000000000000000000000000000000000000000000000000000000000000000000000000000000000000000000 msk) (hz : Within msk org s) : Within msk org (State.portJoin s p) := by
  unfold State.portJoin
  repeat' with_reducible (first | assumption | intro _ | exact partOk_refl _ _ _ | apply State.setPort_touch | apply State.setFld_touch | apply within_ite | apply within_ite_fst | apply rows_ite | apply rows_if | apply within_foldl | apply within_foldl_fst | split | (dsimp only; split) | apply within_mk)
  all_goals try with_reducible (first | refine in_BP_STATUS_ROLE ?_ _ | refine in_BP_STATUS_SYNCED ?_ _ | refine in_BP_STATUS_STATE ?_ _)
  all_goals first | exact sub_le (by decide) hm | exact partOk_bit (sub_bit hm (by decide)) | exact sub_bit hm (by decide) | exact in_BP_STATUS_ROLE (sub_bit hm (by decide)) _ | exact in_BP_STATUS_SYNCED (sub_bit hm (by decide)) _ | exact in_BP_STATUS_STATE (sub_bit hm (by decide)) _ | exact .inr rfl

theorem State.portActive_touch {msk : Nat} {org : State} (s : State) (p : Nat) (hm : sub 0x4000000000000000000000000000000000000010000000000000000000000000000000000000000000000000000000000000000000000000000000000000000000000 msk) (hz : Within msk org s) : Within msk org (State.portActive s p) := by
  unfold State.portActive
  repeat' with_reducible (first | assumption | intro _ | exact partOk_refl _ _ _ | apply State.setFld_touch | apply State.setPort_touch | apply within_ite | apply within_ite_fst | apply rows_ite | apply rows_if | apply within_foldl | apply within_foldl_fst | split | (dsimp only; split) | apply within_mk)
  all_goals try with_reducible (first | refine in_BP_STATUS_ROLE ?_ _ | refine in_BP_STATUS_STATE ?_ _)
  all_goals first | exact sub_le (by decide) hm | exact partOk_bit (sub_bit hm (by decide)) | exact sub_bit hm (by decide) | exact in_BP_STATUS_ROLE (sub_bit hm (by decide)) _ | exact in_BP_STATUS_STATE (sub_bit hm (by decide)) _ | exact .inr rfl

theorem State.bpMode_touch {msk : Nat} {org : State} (s : State) (p m : Nat) (hm : sub 0x4040000000000000000000010810000000000078000000000000000000000000000000000000000000000000000000000000000000000000000000000000000000620 msk) (hz : Within msk org s) : Within msk org (State.bpMode s p m) := by
  unfold State.bpMode
  repeat' with_reducible (first | assumption | intro _ | exact partOk_refl _ _ _ | apply State.raise_touch | apply State.setFld_touch | apply Run.st_touch | apply State.portOff_touch | apply State.portJoin_touch | apply State.setPort_touch | apply State.portActive_touch | apply within_ite | apply within_ite_fst | apply rows_ite | apply rows_if | apply within_foldl | apply within_foldl_fst | split | (dsimp only; split) | apply within_mk)
  all_goals try with_reducible (first | refine in_BP_EVENT_CFG_ERR ?_ _ | refine in_BP_CTRL_MODE ?_ _ | refine in_BP_STATUS_STATE ?_ _)
  all_goals first | exact sub_le (by decide) hm | exact partOk_bit (sub_bit hm (by decide)) | exact sub_bit hm (by decide) | exact in_BP_EVENT_CFG_ERR (sub_bit hm (by decide)) _ | exact in_BP_CTRL_MODE (sub_bit hm (by decide)) _ | exact in_BP_STATUS_STATE (sub_bit hm (by decide)) _ | exact .inr rfl

theorem State.bpRecover_touch {msk : Nat} {org : State} (s : State) (p : Nat) (hm : sub 0x40000000000000000000010800000000000050000000000000000000000000000000000000000000000000000000000000000000000000000000000000000000000 msk) (hz : Within msk org s) : Within msk org (State.bpRecover s p) := by
  unfold State.bpRecover
  repeat' with_reducible (first | assumption | intro _ | exact partOk_refl _ _ _ | apply State.setFld_touch | apply State.raise_touch | apply within_ite | apply within_ite_fst | apply rows_ite | apply rows_if | apply within_foldl | apply within_foldl_fst | split | (dsimp only; split) | apply within_mk)
  all_goals try with_reducible (first | refine in_BP_STATUS_STATE ?_ _ | refine in_BP_EVENT_CFG_ERR ?_ _)
  all_goals first | exact sub_le (by decide) hm | exact partOk_bit (sub_bit hm (by decide)) | exact sub_bit hm (by decide) | exact in_BP_STATUS_STATE (sub_bit hm (by decide)) _ | exact in_BP_EVENT_CFG_ERR (sub_bit hm (by decide)) _ | exact .inr rfl

theorem State.integrated_touch {msk : Nat} {org : State} (s : State) (p : Nat) (hm : sub 0x4000000000000000000000000000000000000010000000000000000000000000000000000000000000000000000000000000000000000000000000000000000000000 msk) (hz : Within msk org s) : Within msk org (State.integrated s p) := by
  unfold State.integrated
  repeat' with_reducible (first | assumption | intro _ | exact partOk_refl _ _ _ | apply State.setFld_touch | apply State.portActive_touch | apply within_ite | apply within_ite_fst | apply rows_ite | apply rows_if | apply within_foldl | apply within_foldl_fst | split | (dsimp only; split) | apply within_mk)
  all_goals try with_reducible (first | refine in_BP_STATUS_STATE ?_ _)
  all_goals first | exact sub_le (by decide) hm | exact partOk_bit (sub_bit hm (by decide)) | exact sub_bit hm (by decide) | exact in_BP_STATUS_STATE (sub_bit hm (by decide)) _ | exact .inr rfl

theorem State.busErrState_touch {msk : Nat} {org : State} (s : State) (p tec recv : Nat) (hm : sub 0x40000000000000000000010800000000000070000000000000000000000000000000000000000000000000000000000000000000000000000000000000000000000 msk) (hz : Within msk org s) : Within msk org (State.busErrState s p tec recv) := by
  unfold State.busErrState
  repeat' with_reducible (first | assumption | intro _ | exact partOk_refl _ _ _ | apply State.setFld_touch | apply State.setBit_touch | apply State.raiseIf_touch | apply within_ite | apply within_ite_fst | apply rows_ite | apply rows_if | apply within_foldl | apply within_foldl_fst | split | (dsimp only; split) | apply within_mk)
  all_goals try with_reducible (first | refine in_BP_ERRCNT_RP ?_ _ | refine in_BP_ERRCNT_REC ?_ _ | refine in_BP_ERRCNT_TEC ?_ _ | refine in_BP_STATUS_ERR ?_ _ | refine in_BP_STATUS_WARN ?_ _ | refine in_BP_EVENT_WARN ?_ _ | refine in_BP_EVENT_PASSIVE ?_ _)
  all_goals first | exact sub_le (by decide) hm | exact partOk_bit (sub_bit hm (by decide)) | exact sub_bit hm (by decide) | exact in_BP_ERRCNT_RP (sub_bit hm (by decide)) _ | exact in_BP_ERRCNT_REC (sub_bit hm (by decide)) _ | exact in_BP_ERRCNT_TEC (sub_bit hm (by decide)) _ | exact in_BP_STATUS_ERR (sub_bit hm (by decide)) _ | exact in_BP_STATUS_WARN (sub_bit hm (by decide)) _ | exact in_BP_EVENT_WARN (sub_bit hm (by decide)) _ | exact in_BP_EVENT_PASSIVE (sub_bit hm (by decide)) _ | exact .inr rfl

theorem State.recovered_touch {msk : Nat} {org : State} (s : State) (p : Nat) (hm : sub 0x4040000000000000000000010800000000000070000000000000000000000000000000000000000000000000000000000000000000000000000000000000000000000 msk) (hz : Within msk org s) : Within msk org (State.recovered s p) := by
  unfold State.recovered
  repeat' with_reducible (first | assumption | intro _ | exact partOk_refl _ _ _ | apply State.busErrState_touch | apply State.portActive_touch | apply State.raise_touch | apply within_ite | apply within_ite_fst | apply rows_ite | apply rows_if | apply within_foldl | apply within_foldl_fst | split | (dsimp only; split) | apply within_mk)
  all_goals try with_reducible (first | refine in_BP_EVENT_RECOVERED ?_ _)
  all_goals first | exact sub_le (by decide) hm | exact partOk_bit (sub_bit hm (by decide)) | exact sub_bit hm (by decide) | exact in_BP_EVENT_RECOVERED (sub_bit hm (by decide)) _ | exact .inr rfl

theorem State.rxStore_touch {msk : Nat} {org : State} (s : State) (p o : Nat) (f : BusFrame) (t : Time) (hm : sub 0x4840000003600020000000010800000000002040000000000000009000000000000000000000000000000000000000000000000000000000000000000000000140400 msk) (hz : Within msk org s) : Within msk org (State.rxStore s p o f t) := by
  unfold State.rxStore
  repeat' with_reducible (first | assumption | intro _ | exact partOk_refl _ _ _ | apply State.setRxObj_touch | apply State.take_touch | apply State.bump_touch | apply State.raise_touch | apply State.count_touch | apply State.newSampleAt_touch | apply State.streamCtx_touch | apply within_ite | apply within_ite_fst | apply rows_ite | apply rows_if | apply within_foldl | apply within_foldl_fst | split | (dsimp only; split) | apply within_mk)
  all_goals try with_reducible (first | refine in_BP_EVENT_LOST ?_ _ | refine in_BP_CNT_F_LOST_N ?_ _)
  all_goals first | exact sub_le (by decide) hm | exact partOk_bit (sub_bit hm (by decide)) | exact sub_bit hm (by decide) | exact in_BP_EVENT_LOST (sub_bit hm (by decide)) _ | exact in_BP_CNT_F_LOST_N (sub_bit hm (by decide)) _ | exact .inr rfl

theorem State.oneShotFail_touch {msk : Nat} {org : State} (s : State) (p : Nat) (hm : sub 0x40000000000000000000010800000000000840000000000000000000000000000000000000000000000000000000000000000000000000000000000000000000000 msk) (hz : Within msk org s) : Within msk org (State.oneShotFail s p) := by
  unfold State.oneShotFail
  repeat' with_reducible (first | assumption | intro _ | exact partOk_refl _ _ _ | apply State.bump_touch | apply State.raise_touch | apply within_ite | apply within_ite_fst | apply rows_ite | apply rows_if | apply within_foldl | apply within_foldl_fst | split | (dsimp only; split) | apply within_mk)
  all_goals try with_reducible (first | refine in_BP_EVENT_ONESHOT_FAIL ?_ _ | refine in_BP_CNT_D_ONESHOT_N ?_ _)
  all_goals first | exact sub_le (by decide) hm | exact partOk_bit (sub_bit hm (by decide)) | exact sub_bit hm (by decide) | exact in_BP_EVENT_ONESHOT_FAIL (sub_bit hm (by decide)) _ | exact in_BP_CNT_D_ONESHOT_N (sub_bit hm (by decide)) _ | exact .inr rfl

theorem State.missed_touch {msk : Nat} {org : State} (s : State) (p : Nat) (hm : sub 0x40000000000000000000010800000000000840000000000000000000000000000000000000000000000000000000000000000000000000000000000000000000000 msk) (hz : Within msk org s) : Within msk org (State.missed s p) := by
  unfold State.missed
  repeat' with_reducible (first | assumption | intro _ | exact partOk_refl _ _ _ | apply State.bump_touch | apply State.raise_touch | apply within_ite | apply within_ite_fst | apply rows_ite | apply rows_if | apply within_foldl | apply within_foldl_fst | split | (dsimp only; split) | apply within_mk)
  all_goals try with_reducible (first | refine in_BP_EVENT_MISSED ?_ _ | refine in_BP_CNT_D_MISSED_N ?_ _)
  all_goals first | exact sub_le (by decide) hm | exact partOk_bit (sub_bit hm (by decide)) | exact sub_bit hm (by decide) | exact in_BP_EVENT_MISSED (sub_bit hm (by decide)) _ | exact in_BP_CNT_D_MISSED_N (sub_bit hm (by decide)) _ | exact .inr rfl

theorem State.leave_touch {msk : Nat} {org : State} (s : State) (p : Nat) (e : QEntry) (status : Nat) (hm : sub 0x4040000000000000000000010810000000000010000000000000000000000000000000000000000000000000000000000000000000000000000000000000000000620 msk) (hz : Within msk org s) : Within msk org (State.leave s p e status) := by
  unfold State.leave
  repeat' with_reducible (first | assumption | intro _ | exact partOk_refl _ _ _ | apply State.setPort_touch | apply State.busRefresh_touch | apply State.depart_touch | apply within_ite | apply within_ite_fst | apply rows_ite | apply rows_if | apply within_foldl | apply within_foldl_fst | split | (dsimp only; split) | apply within_mk)
  all_goals first | exact sub_le (by decide) hm | exact partOk_bit (sub_bit hm (by decide)) | exact sub_bit hm (by decide) | exact .inr rfl

theorem State.modeIdle_touch {msk : Nat} {org : State} (s : State) (p : Nat) (hm : sub 0x4000000000000000000000000000000000000010000000000000000000000000000000000000000000000000000000000000000000000000000000000000000000000 msk) (hz : Within msk org s) : Within msk org (State.modeIdle s p) := by
  unfold State.modeIdle
  repeat' with_reducible (first | assumption | intro _ | exact partOk_refl _ _ _ | apply Run.st_touch | apply State.setPort_touch | apply State.portActive_touch | apply State.setFld_touch | apply within_ite | apply within_ite_fst | apply rows_ite | apply rows_if | apply within_foldl | apply within_foldl_fst | split | (dsimp only; split) | apply within_mk)
  all_goals try with_reducible (first | refine in_BP_STATUS_STATE ?_ _)
  all_goals first | exact sub_le (by decide) hm | exact partOk_bit (sub_bit hm (by decide)) | exact sub_bit hm (by decide) | exact in_BP_STATUS_STATE (sub_bit hm (by decide)) _ | exact .inr rfl

theorem State.unsend_touch {msk : Nat} {org : State} (s : State) (p : Nat) (hm : sub 0x4040000000000000000000010810000000000850000000000000000000000000000000000000000000000000000000000000000000000000000000000000000000620 msk) (hz : Within msk org s) : Within msk org (State.unsend s p) := by
  unfold State.unsend
  repeat' with_reducible (first | assumption | intro _ | exact partOk_refl _ _ _ | apply State.setPort_touch | apply State.oneShotFail_touch | apply State.leave_touch | apply within_ite | apply within_ite_fst | apply rows_ite | apply rows_if | apply within_foldl | apply within_foldl_fst | split | (dsimp only; split) | apply within_mk)
  all_goals first | exact sub_le (by decide) hm | exact partOk_bit (sub_bit hm (by decide)) | exact sub_bit hm (by decide) | exact .inr rfl

theorem State.refNow_touch {msk : Nat} {org : State} (s : State) (p : Nat) (hm : sub 0x4000000000000000000000000000000000000000000000000000000000000000000000000000000000000000000000000000000000000000000000000000000000000 msk) (hz : Within msk org s) : Within msk org (State.refNow s p) := by
  unfold State.refNow
  repeat' with_reducible (first | assumption | intro _ | exact partOk_refl _ _ _ | apply State.setPort_touch | apply within_ite | apply within_ite_fst | apply rows_ite | apply rows_if | apply within_foldl | apply within_foldl_fst | split | (dsimp only; split) | apply within_mk)
  all_goals first | exact sub_le (by decide) hm | exact partOk_bit (sub_bit hm (by decide)) | exact sub_bit hm (by decide) | exact .inr rfl

theorem State.windowEnds_touch {msk : Nat} {org : State} (s : State) (p : Nat) (hm : sub 0x4040000000000000000000010810000000000850000000000000000000000000000000000000000000000000000000000000000000000000000000000000000000620 msk) (hz : Within msk org s) : Within msk org (State.windowEnds s p) := by
  unfold State.windowEnds
  repeat' with_reducible (first | assumption | intro _ | exact partOk_refl _ _ _ | apply State.unsend_touch | apply State.setPort_touch | apply State.oneShotFail_touch | apply State.missed_touch | apply State.modeIdle_touch | apply State.refNow_touch | apply within_ite | apply within_ite_fst | apply rows_ite | apply rows_if | apply within_foldl | apply within_foldl_fst | split | (dsimp only; split) | apply within_mk)
  all_goals first | exact sub_le (by decide) hm | exact partOk_bit (sub_bit hm (by decide)) | exact sub_bit hm (by decide) | exact .inr rfl

theorem State.busWindows_touch {msk : Nat} {org : State} (s : State) (hm : sub 0x4040000000000000000000010810000000000850000000000000000000000000000000000000000000000000000000000000000000000000000000000000000000620 msk) (hz : Within msk org s) : Within msk org (State.busWindows s) := by
  unfold State.busWindows
  repeat' with_reducible (first | assumption | intro _ | exact partOk_refl _ _ _ | apply State.windowEnds_touch | apply within_ite | apply within_ite_fst | apply rows_ite | apply rows_if | apply within_foldl | apply within_foldl_fst | split | (dsimp only; split) | apply within_mk)
  all_goals first | exact sub_le (by decide) hm | exact partOk_bit (sub_bit hm (by decide)) | exact sub_bit hm (by decide) | exact .inr rfl

theorem State.cycleBegins_touch {msk : Nat} {org : State} (s : State) (p cycle : Nat) (sof : Time) (pri : Nat) (hm : sub 0x404000000000000000000001081000000c000850000000000000000000000000000000000000000000000000000000000000000000000000000000000000000000620 msk) (hz : Within msk org s) : Within msk org (State.cycleBegins s p cycle sof pri) := by
  unfold State.cycleBegins
  repeat' with_reducible (first | assumption | intro _ | exact partOk_refl _ _ _ | apply State.windowEnds_touch | apply State.setPort_touch | apply State.setFld_touch | apply State.setReg64_touch | apply within_ite | apply within_ite_fst | apply rows_ite | apply rows_if | apply within_foldl | apply within_foldl_fst | split | (dsimp only; split) | apply within_mk)
  all_goals try with_reducible (first | refine has_BP_REFFT_LO ?_ _ | refine in_BP_STATUS_SYNCED ?_ _ | refine in_BP_STATUS_CYCLE ?_ _ | refine rows_eq (has_BP_REFFT_HI ?_ p) (by omega))
  all_goals first | exact sub_le (by decide) hm | exact partOk_bit (sub_bit hm (by decide)) | exact sub_bit hm (by decide) | exact has_BP_REFFT_LO (sub_bit hm (by decide)) _ | exact in_BP_STATUS_SYNCED (sub_bit hm (by decide)) _ | exact in_BP_STATUS_CYCLE (sub_bit hm (by decide)) _ | exact rows_eq (has_BP_REFFT_HI (sub_bit hm (by decide)) p) (by omega) | exact .inr rfl

theorem State.refReceived_touch {msk : Nat} {org : State} (s : State) (p pri : Nat) (f : BusFrame) (hm : sub 0x404000000000000000000001081000000c000850000000000000000000000000000000000000000000000000000000000000000000000000000000000000000000620 msk) (hz : Within msk org s) : Within msk org (State.refReceived s p pri f) := by
  unfold State.refReceived
  repeat' with_reducible (first | assumption | intro _ | exact partOk_refl _ _ _ | apply State.setFld_touch | apply State.raise_touch | apply State.setPort_touch | apply State.cycleBegins_touch | apply within_ite | apply within_ite_fst | apply rows_ite | apply rows_if | apply within_foldl | apply within_foldl_fst | split | (dsimp only; split) | apply within_mk)
  all_goals try with_reducible (first | refine in_BP_EVENT_MASTER_CHG ?_ _ | refine in_BP_STATUS_ROLE ?_ _)
  all_goals first | exact sub_le (by decide) hm | exact partOk_bit (sub_bit hm (by decide)) | exact sub_bit hm (by decide) | exact in_BP_EVENT_MASTER_CHG (sub_bit hm (by decide)) _ | exact in_BP_STATUS_ROLE (sub_bit hm (by decide)) _ | exact .inr rfl

theorem State.rxFrame_touch {msk : Nat} {org : State} (s : State) (p : Nat) (f : BusFrame) (t : Time) (hm : sub 0x4840000003600020000000010800000000003040000000000000009000000000000000000000000000000000000000000000000000000000000000000000000140400 msk) (hz : Within msk org s) : Within msk org (State.rxFrame s p f t) := by
  unfold State.rxFrame
  repeat' with_reducible (first | assumption | intro _ | exact partOk_refl _ _ _ | apply State.rxStore_touch | apply State.bump_touch | apply within_ite | apply within_ite_fst | apply rows_ite | apply rows_if | apply within_foldl | apply within_foldl_fst | split | (dsimp only; split) | apply within_mk)
  all_goals try with_reducible (first | refine in_BP_CNT_E_NOMATCH_N ?_ _)
  all_goals first | exact sub_le (by decide) hm | exact partOk_bit (sub_bit hm (by decide)) | exact sub_bit hm (by decide) | exact in_BP_CNT_E_NOMATCH_N (sub_bit hm (by decide)) _ | exact .inr rfl

theorem State.goodFrame_touch {msk : Nat} {org : State} (s : State) (p : Nat) (hm : sub 0x40000000000000000000010800000000000070000000000000000000000000000000000000000000000000000000000000000000000000000000000000000000000 msk) (hz : Within msk org s) : Within msk org (State.goodFrame s p) := by
  unfold State.goodFrame
  repeat' with_reducible (first | assumption | intro _ | exact partOk_refl _ _ _ | apply State.busErrState_touch | apply within_ite | apply within_ite_fst | apply rows_ite | apply rows_if | apply within_foldl | apply within_foldl_fst | split | (dsimp only; split) | apply within_mk)
  all_goals first | exact sub_le (by decide) hm | exact partOk_bit (sub_bit hm (by decide)) | exact sub_bit hm (by decide) | exact .inr rfl

theorem State.received_touch {msk : Nat} {org : State} (s : State) (p : Nat) (f : BusFrame) (hm : sub 0x1484000000360002000000001081000000c003850000000000000009000000000000000000000000000000000000000000000000000000000000000000000000140620 msk) (hz : Within msk org s) : Within msk org (State.received s p f) := by
  unfold State.received
  repeat' with_reducible (first | assumption | intro _ | exact partOk_refl _ _ _ | apply Run.st_touch | apply State.bump_touch | apply State.refReceived_touch | apply State.hold_touch | apply State.raise_touch | apply State.rxFrame_touch | apply within_ite | apply within_ite_fst | apply rows_ite | apply rows_if | apply within_foldl | apply within_foldl_fst | split | (dsimp only; split) | apply within_mk)
  all_goals try with_reducible (first | refine in_BP_CNT_E_RTR_N ?_ _ | refine in_BP_EVENT_RX_OVF ?_ _ | refine in_BP_CNT_F_RX_OVF_N ?_ _)
  all_goals first | exact sub_le (by decide) hm | exact partOk_bit (sub_bit hm (by decide)) | exact sub_bit hm (by decide) | exact in_BP_CNT_E_RTR_N (sub_bit hm (by decide)) _ | exact in_BP_EVENT_RX_OVF (sub_bit hm (by decide)) _ | exact in_BP_CNT_F_RX_OVF_N (sub_bit hm (by decide)) _ | exact .inr rfl

theorem State.ownEnds_touch {msk : Nat} {org : State} (s : State) (p : Nat) (hm : sub 0x4000000000000000000000000000000000000000000000000000000000000000000000000000000000000000000000000000000000000000000000000000000000000 msk) (hz : Within msk org s) : Within msk org (State.ownEnds s p) := by
  unfold State.ownEnds
  repeat' with_reducible (first | assumption | intro _ | exact partOk_refl _ _ _ | apply State.setPort_touch | apply within_ite | apply within_ite_fst | apply rows_ite | apply rows_if | apply within_foldl | apply within_foldl_fst | split | (dsimp only; split) | apply within_mk)
  all_goals first | exact sub_le (by decide) hm | exact partOk_bit (sub_bit hm (by decide)) | exact sub_bit hm (by decide) | exact .inr rfl

theorem State.freeNext_touch {msk : Nat} {org : State} (s : State) (p : Nat) (x0 : Nat) (hm : sub 0x4040000000000000000000010810000000000850000000000000000000000000000000000000000000000000000000000000000000000000000000000000000000620 msk) (hz : Within msk org s) : Within msk org (State.freeNext s p x0) := by
  induction x0 generalizing s with
  | zero => exact hz
  | succ n ih =>
    unfold State.freeNext
    dsimp only
    split
    · exact hz
    · split
      · exact State.setPort_touch _ _ _ (sub_le (by decide) hm) hz
      · split
        · exact ih _ (State.leave_touch _ _ _ _ (sub_le (by decide) hm) (State.oneShotFail_touch _ _ (sub_le (by decide) hm) hz))
        · split
          · exact State.missed_touch _ _ (sub_le (by decide) hm) hz
          · exact hz

theorem State.windowStart_touch {msk : Nat} {org : State} (s : State) (p w : Nat) (hm : sub 0x4040000000000000000000010810000000000850000000000000000000000000000000000000000000000000000000000000000000000000000000000000000000620 msk) (hz : Within msk org s) : Within msk org (State.windowStart s p w) := by
  unfold State.windowStart
  repeat' with_reducible (first | assumption | intro _ | exact partOk_refl _ _ _ | apply State.windowEnds_touch | apply State.setFld_touch | apply State.setPort_touch | apply State.oneShotFail_touch | apply State.leave_touch | apply State.missed_touch | apply Run.st_touch | apply State.freeNext_touch | apply within_ite | apply within_ite_fst | apply rows_ite | apply rows_if | apply within_foldl | apply within_foldl_fst | split | (dsimp only; split) | apply within_mk)
  all_goals try with_reducible (first | refine in_BP_STATUS_CYCLE ?_ _)
  all_goals first | exact sub_le (by decide) hm | exact partOk_bit (sub_bit hm (by decide)) | exact sub_bit hm (by decide) | exact in_BP_STATUS_CYCLE (sub_bit hm (by decide)) _ | exact .inr rfl

theorem State.sentDone_touch {msk : Nat} {org : State} (s : State) (p : Nat) (y : Sending) (sof : Time) (hm : sub 0x404000000360002000000001081000000c000870000000000000000000000000000000000000000000000000000000000000000000000000000000000000000000620 msk) (hz : Within msk org s) : Within msk org (State.sentDone s p y sof) := by
  unfold State.sentDone
  repeat' with_reducible (first | assumption | intro _ | exact partOk_refl _ _ _ | apply State.busErrState_touch | apply State.count_touch | apply State.setTxObj_touch | apply State.setFld_touch | apply State.raiseIf_touch | apply State.cycleBegins_touch | apply State.setPort_touch | apply State.leave_touch | apply State.busRefresh_touch | apply within_ite | apply within_ite_fst | apply rows_ite | apply rows_if | apply within_foldl | apply within_foldl_fst | split | (dsimp only; split) | apply within_mk)
  all_goals try with_reducible (first | refine in_BP_EVENT_MASTER_CHG ?_ _ | refine in_BP_STATUS_ROLE ?_ _)
  all_goals first | exact sub_le (by decide) hm | exact partOk_bit (sub_bit hm (by decide)) | exact sub_bit hm (by decide) | exact in_BP_EVENT_MASTER_CHG (sub_bit hm (by decide)) _ | exact in_BP_STATUS_ROLE (sub_bit hm (by decide)) _ | exact .inr rfl

theorem State.sendFailed_touch {msk : Nat} {org : State} (s : State) (p : Nat) (y : Sending) (arb : Bool) (hm : sub 0x4040000000000000000000010810000000000850000000000000000000000000000000000000000000000000000000000000000000000000000000000000000000620 msk) (hz : Within msk org s) : Within msk org (State.sendFailed s p y arb) := by
  unfold State.sendFailed
  repeat' with_reducible (first | assumption | intro _ | exact partOk_refl _ _ _ | apply State.setPort_touch | apply State.oneShotFail_touch | apply State.leave_touch | apply State.freeNext_touch | apply State.missed_touch | apply State.setFld_touch | apply within_ite | apply within_ite_fst | apply rows_ite | apply rows_if | apply within_foldl | apply within_foldl_fst | split | (dsimp only; split) | apply within_mk)
  all_goals try with_reducible (first | refine in_BP_STATUS_ROLE ?_ _)
  all_goals first | exact sub_le (by decide) hm | exact partOk_bit (sub_bit hm (by decide)) | exact sub_bit hm (by decide) | exact in_BP_STATUS_ROLE (sub_bit hm (by decide)) _ | exact .inr rfl

theorem State.txDone_touch {msk : Nat} {org : State} (s : State) (p : Nat) (r : TxResult) (hm : sub 0x404000000360002000000001081000000c000870000000000000000000000000000000000000000000000000000000000000000000000000000000000000000000620 msk) (hz : Within msk org s) : Within msk org (State.txDone s p r) := by
  unfold State.txDone
  repeat' with_reducible (first | assumption | intro _ | exact partOk_refl _ _ _ | apply State.ownEnds_touch | apply State.setPort_touch | apply State.sentDone_touch | apply State.freeNext_touch | apply State.sendFailed_touch | apply State.modeIdle_touch | apply State.refNow_touch | apply State.busRefresh_touch | apply within_ite | apply within_ite_fst | apply rows_ite | apply rows_if | apply within_foldl | apply within_foldl_fst | split | (dsimp only; split) | apply within_mk)
  all_goals first | exact sub_le (by decide) hm | exact partOk_bit (sub_bit hm (by decide)) | exact sub_bit hm (by decide) | exact .inr rfl

theorem State.sendRef_touch {msk : Nat} {org : State} (s : State) (p cycle : Nat) (at' : Time) (hm : sub 0x4000000000000000000000000000000000000000000000000000000000000000000000000000000000000000000000000000000000000000000000000000000000000 msk) (hz : Within msk org s) : Within msk org (State.sendRef s p cycle at') := by
  unfold State.sendRef
  repeat' with_reducible (first | assumption | intro _ | exact partOk_refl _ _ _ | apply State.setPort_touch | apply within_ite | apply within_ite_fst | apply rows_ite | apply rows_if | apply within_foldl | apply within_foldl_fst | split | (dsimp only; split) | apply within_mk)
  all_goals first | exact sub_le (by decide) hm | exact partOk_bit (sub_bit hm (by decide)) | exact sub_bit hm (by decide) | exact .inr rfl

theorem State.refDue_touch {msk : Nat} {org : State} (s : State) (p : Nat) (hm : sub 0x4000000000000000000000000000000000000000000000000000000000000000000000000000000000000000000000000000000000000000000000000000000000000 msk) (hz : Within msk org s) : Within msk org (State.refDue s p) := by
  unfold State.refDue
  repeat' with_reducible (first | assumption | intro _ | exact partOk_refl _ _ _ | apply State.sendRef_touch | apply within_ite | apply within_ite_fst | apply rows_ite | apply rows_if | apply within_foldl | apply within_foldl_fst | split | (dsimp only; split) | apply within_mk)
  all_goals first | exact sub_le (by decide) hm | exact partOk_bit (sub_bit hm (by decide)) | exact sub_bit hm (by decide) | exact .inr rfl

theorem State.refTimeout_touch {msk : Nat} {org : State} (s : State) (p : Nat) (hm : sub 0x4040000000000000000000010800000000000050000000000000000000000000000000000000000000000000000000000000000000000000000000000000000000000 msk) (hz : Within msk org s) : Within msk org (State.refTimeout s p) := by
  unfold State.refTimeout
  repeat' with_reducible (first | assumption | intro _ | exact partOk_refl _ _ _ | apply State.setFld_touch | apply State.raise_touch | apply State.sendRef_touch | apply within_ite | apply within_ite_fst | apply rows_ite | apply rows_if | apply within_foldl | apply within_foldl_fst | split | (dsimp only; split) | apply within_mk)
  all_goals try with_reducible (first | refine in_BP_EVENT_REF_LOST ?_ _ | refine in_BP_STATUS_SYNCED ?_ _)
  all_goals first | exact sub_le (by decide) hm | exact partOk_bit (sub_bit hm (by decide)) | exact sub_bit hm (by decide) | exact in_BP_EVENT_REF_LOST (sub_bit hm (by decide)) _ | exact in_BP_STATUS_SYNCED (sub_bit hm (by decide)) _ | exact .inr rfl

theorem State.busOff_touch {msk : Nat} {org : State} (s : State) (p : Nat) (y : Option Sending) (hm : sub 0x4060000003611820000000010810000000000850000000000000000000000000000000000000000000000000000000000000000000000000000000000000000000620 msk) (hz : Within msk org s) : Within msk org (State.busOff s p y) := by
  unfold State.busOff
  repeat' with_reducible (first | assumption | intro _ | exact partOk_refl _ _ _ | apply State.unsend_touch | apply State.setPort_touch | apply State.oneShotFail_touch | apply State.leave_touch | apply State.busRefresh_touch | apply State.raise_touch | apply State.canvas_touch | apply State.setFld_touch | apply within_ite | apply within_ite_fst | apply rows_ite | apply rows_if | apply within_foldl | apply within_foldl_fst | split | (dsimp only; split) | apply within_mk)
  all_goals try with_reducible (first | refine in_BP_EVENT_BUS_OFF ?_ _ | refine in_BP_STATUS_STATE ?_ _)
  all_goals first | exact sub_le (by decide) hm | exact partOk_bit (sub_bit hm (by decide)) | exact sub_bit hm (by decide) | exact in_BP_EVENT_BUS_OFF (sub_bit hm (by decide)) _ | exact in_BP_STATUS_STATE (sub_bit hm (by decide)) _ | exact .inr rfl

theorem State.busError_touch {msk : Nat} {org : State} (s : State) (p : Nat) (e : BusErr) (hm : sub 0x4060000003611820000000010810000000000ff0000000000000000000000000000000000000000000000000000000000000000000000000000000000000000000620 msk) (hz : Within msk org s) : Within msk org (State.busError s p e) := by
  unfold State.busError
  repeat' with_reducible (first | assumption | intro _ | exact partOk_refl _ _ _ | apply Run.st_touch | apply State.unsend_touch | apply State.setPort_touch | apply State.bump_touch | apply State.setFld_touch | apply State.setBit_touch | apply State.count_touch | apply State.raiseIf_touch | apply State.busErrState_touch | apply State.busOff_touch | apply State.ownEnds_touch | apply State.sendFailed_touch | apply State.modeIdle_touch | apply State.refNow_touch | apply State.busRefresh_touch | apply rows_ite | apply rows_if | apply within_foldl | apply within_foldl_fst | split | (dsimp only; split) | apply within_mk)
  all_goals try with_reducible (first | refine in_BP_STATUS_STATE ?_ _ | refine in_BP_CNT_C_PEX_N ?_ _ | refine in_BP_ERRLOG_REF ?_ _ | refine in_BP_ERRLOG_DATA_PHASE ?_ _ | refine in_BP_ERRLOG_LEC ?_ _ | refine in_BP_EVENT_REF_DUP ?_ _ | refine in_errCounter ?_ ?_ ?_ (by assumption))
  all_goals first | exact sub_le (by decide) hm | exact partOk_bit (sub_bit hm (by decide)) | exact sub_bit hm (by decide) | exact in_BP_STATUS_STATE (sub_bit hm (by decide)) _ | exact in_BP_CNT_C_PEX_N (sub_bit hm (by decide)) _ | exact in_BP_ERRLOG_REF (sub_bit hm (by decide)) _ | exact in_BP_ERRLOG_DATA_PHASE (sub_bit hm (by decide)) _ | exact in_BP_ERRLOG_LEC (sub_bit hm (by decide)) _ | exact in_BP_EVENT_REF_DUP (sub_bit hm (by decide)) _ | exact in_errCounter (sub_bit hm (by decide)) (sub_bit hm (by decide)) (sub_bit hm (by decide)) (by assumption) | exact .inr rfl

theorem State.viewResult_touch {msk : Nat} {org : State} (s : State) (v r : Nat) (hm : sub 0x100000000000000000000000000000000000000000000000000000000000000000000000000000000000000000000000000000 msk) (hz : Within msk org s) : Within msk org (State.viewResult s v r) := by
  unfold State.viewResult
  repeat' with_reducible (first | assumption | intro _ | exact partOk_refl _ _ _ | apply State.setFld_touch | apply within_ite | apply within_ite_fst | apply rows_ite | apply rows_if | apply within_foldl | apply within_foldl_fst | split | (dsimp only; split) | apply within_mk)
  all_goals try with_reducible (first | refine in_BV_STAT_RESULT ?_ _)
  all_goals first | exact sub_le (by decide) hm | exact partOk_bit (sub_bit hm (by decide)) | exact sub_bit hm (by decide) | exact in_BV_STAT_RESULT (sub_bit hm (by decide)) _ | exact .inr rfl

theorem State.setViewData_touch {msk : Nat} {org : State} (s : State) (v : Nat) (bs : List Byte) (hm : sub 0x8000000000000000000000000000000000000000000000000000000000000000000000000000000000000000000000000000000 msk) (hz : Within msk org s) : Within msk org (State.setViewData s v bs) := by
  unfold State.setViewData
  repeat' with_reducible (first | assumption | intro _ | exact partOk_refl _ _ _ | apply State.setReg_touch | apply within_ite | apply within_ite_fst | apply rows_ite | apply rows_if | apply within_foldl | apply within_foldl_fst | split | (dsimp only; split) | apply within_mk)
  all_goals try with_reducible (first | refine has_BV_DATA ?_ _ _)
  all_goals first | exact sub_le (by decide) hm | exact partOk_bit (sub_bit hm (by decide)) | exact sub_bit hm (by decide) | exact has_BV_DATA (sub_bit hm (by decide)) _ _ | exact .inr rfl

theorem State.capture_touch {msk : Nat} {org : State} (s : State) (v c p o : Nat) (tx : Bool) (hm : sub 0x400000000000000000000000000000ff80000000000000000000000000000000000000000000000000000000000000000000000000000000000000000000000000000 msk) (hz : Within msk org s) : Within msk org (State.capture s v c p o tx) := by
  unfold State.capture
  repeat' with_reducible (first | assumption | intro _ | exact partOk_refl _ _ _ | apply State.viewResult_touch | apply State.setReg_touch | apply State.setReg64_touch | apply State.setViewData_touch | apply State.setRxObj_touch | apply within_ite | apply within_ite_fst | apply rows_ite | apply rows_if | apply within_foldl | apply within_foldl_fst | split | (dsimp only; split) | apply within_mk)
  all_goals try with_reducible (first | refine has_BV_SEL ?_ _ | refine rows_eq (has_BV_HDR ?_ v) (by omega) | refine rows_eq (has_BV_META ?_ v) (by omega) | refine rows_eq (has_BV_STAMP_LO ?_ v) (by omega) | refine rows_eq (has_BV_STAMP_HI ?_ v) (by omega) | refine rows_eq (has_BV_CFG_ID ?_ v) (by omega) | refine rows_eq (has_BV_CFG_MASK ?_ v) (by omega))
  all_goals first | exact sub_le (by decide) hm | exact partOk_bit (sub_bit hm (by decide)) | exact sub_bit hm (by decide) | exact has_BV_SEL (sub_bit hm (by decide)) _ | exact rows_eq (has_BV_HDR (sub_bit hm (by decide)) v) (by omega) | exact rows_eq (has_BV_META (sub_bit hm (by decide)) v) (by omega) | exact rows_eq (has_BV_STAMP_LO (sub_bit hm (by decide)) v) (by omega) | exact rows_eq (has_BV_STAMP_HI (sub_bit hm (by decide)) v) (by omega) | exact rows_eq (has_BV_CFG_ID (sub_bit hm (by decide)) v) (by omega) | exact rows_eq (has_BV_CFG_MASK (sub_bit hm (by decide)) v) (by omega) | exact .inr rfl

theorem State.viewCommit_touch {msk : Nat} {org : State} (s : State) (v c p o : Nat) (hm : sub 0x4000000000000000000000000000000100000000000000000000000000000000000000000000000000000000000000000000000000000000000000000000000000000 msk) (hz : Within msk org s) : Within msk org (State.viewCommit s v c p o) := by
  unfold State.viewCommit
  repeat' with_reducible (first | assumption | intro _ | exact partOk_refl _ _ _ | apply State.viewResult_touch | apply State.setTxObj_touch | apply State.take_touch | apply within_ite | apply within_ite_fst | apply rows_ite | apply rows_if | apply within_foldl | apply within_foldl_fst | split | (dsimp only; split) | apply within_mk)
  all_goals first | exact sub_le (by decide) hm | exact partOk_bit (sub_bit hm (by decide)) | exact sub_bit hm (by decide) | exact .inr rfl

theorem State.enqueue_touch {msk : Nat} {org : State} (s : State) (p : Nat) (e : QEntry) (hm : sub 0x4040000000000000000000010810000000004850000000000000000000000000000000000000000000000000000000000000000000000000000000000000000000620 msk) (hz : Within msk org s) : Within msk org (State.enqueue s p e).1 := by
  unfold State.enqueue
  repeat' with_reducible (first | assumption | intro _ | exact partOk_refl _ _ _ | apply State.bump_touch | apply State.setPort_touch | apply State.busRefresh_touch | apply State.idle_touch | apply State.freeNext_touch | apply within_ite | apply within_ite_fst | apply rows_ite | apply rows_if | apply within_foldl | apply within_foldl_fst | split | (dsimp only; split) | apply within_mk)
  all_goals try with_reducible (first | refine in_BP_CNT_G_QFULL_N ?_ _)
  all_goals first | exact sub_le (by decide) hm | exact partOk_bit (sub_bit hm (by decide)) | exact sub_bit hm (by decide) | exact in_BP_CNT_G_QFULL_N (sub_bit hm (by decide)) _ | exact .inr rfl

theorem State.viewEnqueue_touch {msk : Nat} {org : State} (s : State) (v c p : Nat) (hm : sub 0x4040000000000000000000010810000100004850000000000000000000000000000000000000000000000000000000000000000000000000000000000000000000620 msk) (hz : Within msk org s) : Within msk org (State.viewEnqueue s v c p) := by
  unfold State.viewEnqueue
  repeat' with_reducible (first | assumption | intro _ | exact partOk_refl _ _ _ | apply State.enqueue_touch | apply State.take_touch | apply State.viewResult_touch | apply within_ite | apply within_ite_fst | apply rows_ite | apply rows_if | apply within_foldl | apply within_foldl_fst | split | (dsimp only; split) | apply within_mk)
  all_goals first | exact sub_le (by decide) hm | exact partOk_bit (sub_bit hm (by decide)) | exact sub_bit hm (by decide) | exact .inr rfl

theorem State.viewSel_touch {msk : Nat} {org : State} (s : State) (v c w : Nat) (hm : sub 0x404000000000000000000001081000ff80004850000000000000000000000000000000000000000000000000000000000000000000000000000000000000000000620 msk) (hz : Within msk org s) : Within msk org (State.viewSel s v c w) := by
  unfold State.viewSel
  repeat' with_reducible (first | assumption | intro _ | exact partOk_refl _ _ _ | apply State.capture_touch | apply State.viewCommit_touch | apply State.viewResult_touch | apply State.viewEnqueue_touch | apply within_ite | apply within_ite_fst | apply rows_ite | apply rows_if | apply within_foldl | apply within_foldl_fst | split | (dsimp only; split) | apply within_mk)
  all_goals first | exact sub_le (by decide) hm | exact partOk_bit (sub_bit hm (by decide)) | exact sub_bit hm (by decide) | exact .inr rfl

theorem State.bpWrite_touch {msk : Nat} {org : State} (s : State) (c a v : Nat) (hm : sub 0x404000000000000000000001081000ff80004878000000000000000000000000000000000000000000000000000000000000000000000000000000000000000000620 msk) (ha : RowsHave msk a) (hz : Within msk org s) : Within msk org (State.bpWrite s c a v) := by
  unfold State.bpWrite
  repeat' with_reducible (first | assumption | intro _ | exact partOk_refl _ _ _ | apply State.viewSel_touch | apply State.writeCodes_touch | apply State.raise_touch | apply State.setFld_touch | apply State.bpMode_touch | apply State.bpRecover_touch | apply within_ite | apply within_ite_fst | apply rows_ite | apply rows_if | apply within_foldl | apply within_foldl_fst | split | (dsimp only; split) | apply within_mk)
  all_goals try with_reducible (first | refine in_BP_EVENT_CFG_ERR ?_ _ | refine in_BP_CTRL_AUTO_REC ?_ _ | refine in_BP_STATUS_STATE ?_ _)
  all_goals first | exact sub_le (by decide) hm | exact partOk_bit (sub_bit hm (by decide)) | exact sub_bit hm (by decide) | exact in_BP_EVENT_CFG_ERR (sub_bit hm (by decide)) _ | exact in_BP_CTRL_AUTO_REC (sub_bit hm (by decide)) _ | exact in_BP_STATUS_STATE (sub_bit hm (by decide)) _ | exact .inr rfl

theorem State.busField_touch {msk : Nat} {org : State} (s : State) (index field : Nat) (v : Int) (hm : sub 0x4000000000000000000000000000000000000000000000000000000000000000000000000000000000000000000000000000000000000000000000000000000000000 msk) (hz : Within msk org s) : Within msk org (State.busField s index field v) := by
  unfold State.busField
  repeat' with_reducible (first | assumption | intro _ | exact partOk_refl _ _ _ | apply State.setTxObj_touch | apply State.take_touch | apply within_ite | apply within_ite_fst | apply rows_ite | apply rows_if | apply within_foldl | apply within_foldl_fst | split | (dsimp only; split) | apply within_mk)
  all_goals first | exact sub_le (by decide) hm | exact partOk_bit (sub_bit hm (by decide)) | exact sub_bit hm (by decide) | exact .inr rfl

end Sys2Proof.Machine
end

