-- ==== Sys2Proof/Laws/TouchLoopRun.lean ====
section
/-! SUPPORT. What each operation of Machine/LoopRun.lean may change, as a mask. -/

namespace Sys2Proof.Machine

set_option linter.all false
set_option Elab.async false

theorem State.slotDeliver_touch {msk : Nat} {org : State} (s : State) (n p : Nat) (v : Int) (hm : sub 0x584000000000000000000001080000000000000004000002000008f400002000000000000000000000000000000000000000000000000000000000000000000000000 msk) (hz : Within msk org s) : Within msk org (State.slotDeliver s n p v) := by
  unfold State.slotDeliver
  repeat' with_reducible (first | assumption | intro _ | exact partOk_refl _ _ _ | apply State.slotOut_touch | apply State.slFlag_touch | apply State.setSfld_touch | apply State.lsDuty_touch | apply State.foDuty_touch | apply State.busField_touch | apply State.newSample_touch | apply within_ite | apply within_ite_fst | apply rows_ite | apply rows_if | apply within_foldl | apply within_foldl_fst | split | (dsimp only; split) | apply within_mk)
  all_goals try with_reducible (first | refine in_SL_SETP_S ?_ _ | refine in_HOUT_VALUE ?_ _)
  all_goals first | exact sub_le (by decide) hm | exact partOk_bit (sub_bit hm (by decide)) | exact sub_bit hm (by decide) | exact in_SL_SETP_S (sub_bit hm (by decide)) _ | exact in_HOUT_VALUE (sub_bit hm (by decide)) _ | exact .inr rfl

theorem State.writeSafe_touch {msk : Nat} {org : State} (s : State) (n : Nat) (hm : sub 0x584000000000000000000001080000000000000004000002000008f400002000000000000000000000000000000000000000000000000000000000000000000000000 msk) (hz : Within msk org s) : Within msk org (State.writeSafe s n) := by
  unfold State.writeSafe
  repeat' with_reducible (first | assumption | intro _ | exact partOk_refl _ _ _ | apply State.slotDeliver_touch | apply within_ite | apply within_ite_fst | apply rows_ite | apply rows_if | apply within_foldl | apply within_foldl_fst | split | (dsimp only; split) | apply within_mk)
  all_goals first | exact sub_le (by decide) hm | exact partOk_bit (sub_bit hm (by decide)) | exact sub_bit hm (by decide) | exact .inr rfl

theorem State.slotStop_touch {msk : Nat} {org : State} (s : State) (n : Nat) (hm : sub 0x584000000000000000000001080000000000000004000002000008f400002000000000000000000000000000000000000000000000000000000000000000000000000 msk) (hz : Within msk org s) : Within msk org (State.slotStop s n) := by
  unfold State.slotStop
  repeat' with_reducible (first | assumption | intro _ | exact partOk_refl _ _ _ | apply State.setFld_touch | apply State.setSlot_touch | apply State.writeSafe_touch | apply within_ite | apply within_ite_fst | apply rows_ite | apply rows_if | apply within_foldl | apply within_foldl_fst | split | (dsimp only; split) | apply within_mk)
  all_goals try with_reducible (first | refine in_SL_STATE_SAFE_CAUSE ?_ _ | refine in_SL_STATE_STATE ?_ _)
  all_goals first | exact sub_le (by decide) hm | exact partOk_bit (sub_bit hm (by decide)) | exact sub_bit hm (by decide) | exact in_SL_STATE_SAFE_CAUSE (sub_bit hm (by decide)) _ | exact in_SL_STATE_STATE (sub_bit hm (by decide)) _ | exact .inr rfl

theorem State.slotSafe_touch {msk : Nat} {org : State} (s : State) (n cause : Nat) (hm : sub 0x584000000000000000000001080000000000000004000002000008f400002000000000000000000000000000000000000000000000000000000000000000000000000 msk) (hz : Within msk org s) : Within msk org (State.slotSafe s n cause) := by
  unfold State.slotSafe
  repeat' with_reducible (first | assumption | intro _ | exact partOk_refl _ _ _ | apply Run.st_touch | apply State.setFld_touch | apply State.setSlot_touch | apply State.writeSafe_touch | apply within_ite | apply within_ite_fst | apply rows_ite | apply rows_if | apply within_foldl | apply within_foldl_fst | split | (dsimp only; split) | apply within_mk)
  all_goals try with_reducible (first | refine in_SL_STATE_SAFE_CAUSE ?_ _ | refine in_SL_STATE_STATE ?_ _)
  all_goals first | exact sub_le (by decide) hm | exact partOk_bit (sub_bit hm (by decide)) | exact sub_bit hm (by decide) | exact in_SL_STATE_SAFE_CAUSE (sub_bit hm (by decide)) _ | exact in_SL_STATE_STATE (sub_bit hm (by decide)) _ | exact .inr rfl

theorem State.slotClear_touch {msk : Nat} {org : State} (s : State) (n cause : Nat) (hm : sub 0x800000000000000000000000000000000000000000000000000009000000000000000000000000000000000000000000000000000000000000000000000000000000 msk) (hz : Within msk org s) : Within msk org (State.slotClear s n cause) := by
  unfold State.slotClear
  repeat' with_reducible (first | assumption | intro _ | exact partOk_refl _ _ _ | apply State.setSlot_touch | apply State.slotSoft_touch | apply State.setFld_touch | apply within_ite | apply within_ite_fst | apply rows_ite | apply rows_if | apply within_foldl | apply within_foldl_fst | split | (dsimp only; split) | apply within_mk)
  all_goals try with_reducible (first | refine in_SL_STATE_SAFE_CAUSE ?_ _)
  all_goals first | exact sub_le (by decide) hm | exact partOk_bit (sub_bit hm (by decide)) | exact sub_bit hm (by decide) | exact in_SL_STATE_SAFE_CAUSE (sub_bit hm (by decide)) _ | exact .inr rfl

theorem State.slotEn_touch {msk : Nat} {org : State} (s : State) (n : Nat) (en : Bool) (hm : sub 0x584000000000000000000001080000000000000004000002000008fc00002000000000000000000000000000000000000000000000000000000000000000000000000 msk) (hz : Within msk org s) : Within msk org (State.slotEn s n en) := by
  unfold State.slotEn
  repeat' with_reducible (first | assumption | intro _ | exact partOk_refl _ _ _ | apply State.setBit_touch | apply Run.st_touch | apply State.slotStop_touch | apply State.slotSoft_touch | apply State.slotClear_touch | apply within_ite | apply within_ite_fst | apply rows_ite | apply rows_if | apply within_foldl | apply within_foldl_fst | split | (dsimp only; split) | apply within_mk)
  all_goals try with_reducible (first | refine in_SL_CTRL_EN ?_ _)
  all_goals first | exact sub_le (by decide) hm | exact partOk_bit (sub_bit hm (by decide)) | exact sub_bit hm (by decide) | exact in_SL_CTRL_EN (sub_bit hm (by decide)) _ | exact .inr rfl

theorem State.slotsBoost_touch {msk : Nat} {org : State} (s : State) (b : Nat) (hm : sub 0x584000000000000000000001080000000000000004000002000008f400002000000000000000000000000000000000000000000000000000000000000000000000000 msk) (hz : Within msk org s) : Within msk org (State.slotsBoost s b) := by
  unfold State.slotsBoost
  repeat' with_reducible (first | assumption | intro _ | exact partOk_refl _ _ _ | apply State.slotSoft_touch | apply State.slotStop_touch | apply within_ite | apply within_ite_fst | apply rows_ite | apply rows_if | apply within_foldl | apply within_foldl_fst | split | (dsimp only; split) | apply within_mk)
  all_goals first | exact sub_le (by decide) hm | exact partOk_bit (sub_bit hm (by decide)) | exact sub_bit hm (by decide) | exact .inr rfl

theorem State.inputTimeout_touch {msk : Nat} {org : State} (s : State) (n p : Nat) (hm : sub 0x584000000000000000000001080000000000000004000002000008f400002000000000000000000000000000000000000000000000000000000000000000000000000 msk) (hz : Within msk org s) : Within msk org (State.inputTimeout s n p) := by
  unfold State.inputTimeout
  repeat' with_reducible (first | assumption | intro _ | exact partOk_refl _ _ _ | apply Run.st_touch | apply State.setSlot_touch | apply State.slFlag_touch | apply State.slotSafe_touch | apply State.raise_touch | apply within_ite | apply within_ite_fst | apply rows_ite | apply rows_if | apply within_foldl | apply within_foldl_fst | split | (dsimp only; split) | apply within_mk)
  all_goals try with_reducible (first | refine in_LP_EVENT_INFAULT ?_)
  all_goals first | exact sub_le (by decide) hm | exact partOk_bit (sub_bit hm (by decide)) | exact sub_bit hm (by decide) | exact in_LP_EVENT_INFAULT (sub_bit hm (by decide)) | exact .inr rfl

theorem State.loopsStop_touch {msk : Nat} {org : State} (s : State) (hm : sub 0x584000000000000000000001080000000000000004000002000008f400002000000000000000000000000000000000000000000000000000000000000000000000000 msk) (hz : Within msk org s) : Within msk org (State.loopsStop s) := by
  unfold State.loopsStop
  repeat' with_reducible (first | assumption | intro _ | exact partOk_refl _ _ _ | apply State.slotSafe_touch | apply within_ite | apply within_ite_fst | apply rows_ite | apply rows_if | apply within_foldl | apply within_foldl_fst | split | (dsimp only; split) | apply within_mk)
  all_goals first | exact sub_le (by decide) hm | exact partOk_bit (sub_bit hm (by decide)) | exact sub_bit hm (by decide) | exact .inr rfl

theorem State.loopsHeld_touch {msk : Nat} {org : State} (s : State) (hm : sub 0x584000000000000000000001080000000000000004000002000008f400002000000000000000000000000000000000000000000000000000000000000000000000000 msk) (hz : Within msk org s) : Within msk org (State.loopsHeld s) := by
  unfold State.loopsHeld
  repeat' with_reducible (first | assumption | intro _ | exact partOk_refl _ _ _ | apply State.slotSafe_touch | apply within_ite | apply within_ite_fst | apply rows_ite | apply rows_if | apply within_foldl | apply within_foldl_fst | split | (dsimp only; split) | apply within_mk)
  all_goals first | exact sub_le (by decide) hm | exact partOk_bit (sub_bit hm (by decide)) | exact sub_bit hm (by decide) | exact .inr rfl

theorem State.loopsRelease_touch {msk : Nat} {org : State} (s : State) (held : Bool) (hm : sub 0x800000000000000000000000000000000000000000000000000009000000000000000000000000000000000000000000000000000000000000000000000000000000 msk) (hz : Within msk org s) : Within msk org (State.loopsRelease s held) := by
  unfold State.loopsRelease
  repeat' with_reducible (first | assumption | intro _ | exact partOk_refl _ _ _ | apply State.slotClear_touch | apply within_ite | apply within_ite_fst | apply rows_ite | apply rows_if | apply within_foldl | apply within_foldl_fst | split | (dsimp only; split) | apply within_mk)
  all_goals first | exact sub_le (by decide) hm | exact partOk_bit (sub_bit hm (by decide)) | exact sub_bit hm (by decide) | exact .inr rfl

theorem State.loopsHalt_touch {msk : Nat} {org : State} (s : State) (hm : sub 0x584000000000000000000001080000000000000004000002000008f400003000000000000000000000000000000000000000000000000000000000000000000000000 msk) (hz : Within msk org s) : Within msk org (State.loopsHalt s) := by
  unfold State.loopsHalt
  repeat' with_reducible (first | assumption | intro _ | exact partOk_refl _ _ _ | apply State.setFld_touch | apply State.slotSafe_touch | apply within_ite | apply within_ite_fst | apply rows_ite | apply rows_if | apply within_foldl | apply within_foldl_fst | split | (dsimp only; split) | apply within_mk)
  all_goals try with_reducible (first | refine in_LP_STATUS_HALTED ?_)
  all_goals first | exact sub_le (by decide) hm | exact partOk_bit (sub_bit hm (by decide)) | exact sub_bit hm (by decide) | exact in_LP_STATUS_HALTED (sub_bit hm (by decide)) | exact .inr rfl

theorem State.loopsResume_touch {msk : Nat} {org : State} (s : State) (hm : sub 0x800000000000000000000000000000000000000000000000000009000001000000000000000000000000000000000000000000000000000000000000000000000000 msk) (hz : Within msk org s) : Within msk org (State.loopsResume s) := by
  unfold State.loopsResume
  repeat' with_reducible (first | assumption | intro _ | exact partOk_refl _ _ _ | apply State.setFld_touch | apply State.setSlot_touch | apply State.slotClear_touch | apply within_ite | apply within_ite_fst | apply rows_ite | apply rows_if | apply within_foldl | apply within_foldl_fst | split | (dsimp only; split) | apply within_mk)
  all_goals try with_reducible (first | refine in_LP_STATUS_HALTED ?_)
  all_goals first | exact sub_le (by decide) hm | exact partOk_bit (sub_bit hm (by decide)) | exact sub_bit hm (by decide) | exact in_LP_STATUS_HALTED (sub_bit hm (by decide)) | exact .inr rfl

theorem Run.sat40_touch {msk : Nat} {org : State} (r : Run) (n : Nat) (v : Int) (hm : sub 0x40000000000000000000010800000000000000000000000000002000002000000000000000000000000000000000000000000000000000000000000000000000000 msk) (hz : Within msk org r.s) : Within msk org (Run.sat40 r n v).1.s := by
  unfold Run.sat40
  repeat' with_reducible (first | assumption | intro _ | exact partOk_refl _ _ _ | apply State.slFlag_touch | apply within_ite | apply within_ite_fst | apply rows_ite | apply rows_if | apply within_foldl | apply within_foldl_fst | split | (dsimp only; split) | apply within_mk)
  all_goals first | exact sub_le (by decide) hm | exact partOk_bit (sub_bit hm (by decide)) | exact sub_bit hm (by decide) | exact .inr rfl

theorem Run.mul_touch {msk : Nat} {org : State} (r : Run) (n : Nat) (d : Int) (cw : Nat) (hm : sub 0x40000000000000000000010800000000000000000000000000002000002000000000000000000000000000000000000000000000000000000000000000000000000 msk) (hz : Within msk org r.s) : Within msk org (Run.mul r n d cw).1.s := by
  unfold Run.mul
  repeat' with_reducible (first | assumption | intro _ | exact partOk_refl _ _ _ | apply Run.sat40_touch | apply within_ite | apply within_ite_fst | apply rows_ite | apply rows_if | apply within_foldl | apply within_foldl_fst | split | (dsimp only; split) | apply within_mk)
  all_goals first | exact sub_le (by decide) hm | exact partOk_bit (sub_bit hm (by decide)) | exact sub_bit hm (by decide) | exact .inr rfl

theorem Run.st_touch {msk : Nat} {org : State} (r : Run) (n : Nat) (a : Int) (hm : sub 0x40000000000000000000010800000000000000000000000000002000002000000000000000000000000000000000000000000000000000000000000000000000000 msk) (hz : Within msk org r.s) : Within msk org (Run.st r n a).1.s := by
  unfold Run.st
  repeat' with_reducible (first | assumption | intro _ | exact partOk_refl _ _ _ | apply State.slFlag_touch | apply within_ite | apply within_ite_fst | apply rows_ite | apply rows_if | apply within_foldl | apply within_foldl_fst | split | (dsimp only; split) | apply within_mk)
  all_goals first | exact sub_le (by decide) hm | exact partOk_bit (sub_bit hm (by decide)) | exact sub_bit hm (by decide) | exact .inr rfl

theorem Run.setD_touch {msk : Nat} {org : State} (r : Run) (n i : Nat) (v : Int) (hm : sub 0x80000000000000000000000000000000000000000000000000000000000000000000000000000000000 msk) (hz : Within msk org r.s) : Within msk org (Run.setD r n i v).s := by
  unfold Run.setD
  repeat' with_reducible (first | assumption | intro _ | exact partOk_refl _ _ _ | apply State.setSfld_touch | apply within_ite | apply within_ite_fst | apply rows_ite | apply rows_if | apply within_foldl | apply within_foldl_fst | split | (dsimp only; split) | apply within_mk)
  all_goals try with_reducible (first | refine in_DATA_D ?_ _ _)
  all_goals first | exact sub_le (by decide) hm | exact partOk_bit (sub_bit hm (by decide)) | exact sub_bit hm (by decide) | exact in_DATA_D (sub_bit hm (by decide)) _ _ | exact .inr rfl

theorem Run.add_touch {msk : Nat} {org : State} (r : Run) (n : Nat) (v : Int) (hm : sub 0x40000000000000000000010800000000000000000000000000002000002000000000000000000000000000000000000000000000000000000000000000000000000 msk) (hz : Within msk org r.s) : Within msk org (Run.add r n v).s := by
  unfold Run.add
  repeat' with_reducible (first | assumption | intro _ | exact partOk_refl _ _ _ | apply Run.sat40_touch | apply within_ite | apply within_ite_fst | apply rows_ite | apply rows_if | apply within_foldl | apply within_foldl_fst | split | (dsimp only; split) | apply within_mk)
  all_goals first | exact sub_le (by decide) hm | exact partOk_bit (sub_bit hm (by decide)) | exact sub_bit hm (by decide) | exact .inr rfl

theorem Run.macs_touch {msk : Nat} {org : State} (r : Run) (n : Nat) (acc : Int) (x0 : List (Int × Nat)) (hm : sub 0x40000000000000000000010800000000000000000000000000002000002000000000000000000000000000000000000000000000000000000000000000000000000 msk) (hz : Within msk org r.s) : Within msk org (Run.macs r n acc x0).1.s := by
  induction x0 generalizing r acc with
  | nil => exact hz
  | cons t ts ih => exact ih _ _ (Run.sat40_touch _ _ _ (sub_le (by decide) hm) (Run.mul_touch _ _ _ _ (sub_le (by decide) hm) hz))

theorem Run.lim_touch {msk : Nat} {org : State} (r : Run) (n : Nat) (v lo hi : Int) (hm : sub 0x40000000000000000000010800000000000000000000000000002000002000000000000000000000000000000000000000000000000000000000000000000000000 msk) (hz : Within msk org r.s) : Within msk org (Run.lim r n v lo hi).1.s := by
  unfold Run.lim
  repeat' with_reducible (first | assumption | intro _ | exact partOk_refl _ _ _ | apply State.slFlag_touch | apply within_ite | apply within_ite_fst | apply rows_ite | apply rows_if | apply within_foldl | apply within_foldl_fst | split | (dsimp only; split) | apply within_mk)
  all_goals first | exact sub_le (by decide) hm | exact partOk_bit (sub_bit hm (by decide)) | exact sub_bit hm (by decide) | exact .inr rfl

theorem within_ite_run {m : Nat} {z : State} {a b : Run} {c : Prop} [Decidable c] (ha : Within m z a.s) (hb : Within m z b.s) :
    Within m z (if c then a else b).s := by split <;> assumption

theorem Run.comp_touch {msk : Nat} {org : State} (r : Run) (n k c d : Nat) (hm : sub 0x40000000000000000000010800000000000000000000000080002000002000000000000000000000000000000000000000000000000000000000000000000000000 msk) (hz : Within msk org r.s) : Within msk org (Run.comp r n k c d).s := by
  unfold Run.comp
  have hf : ∀ (l : List (Int × Nat)) (x : Run), Within msk org x.s → Within msk org (l.foldl (fun r e => r.setD n (d + e.2) e.1) x).s := by
    intro l
    induction l with
    | nil => exact fun _ hx => hx
    | cons e l ih => exact fun x hx => ih _ (Run.setD_touch _ _ _ _ (sub_le (by decide) hm) hx)
  apply hf
  refine within_ite_run ?_ ?_
  · first | exact State.slFlag_touch _ _ _ (sub_le (by decide) hm) (Run.st_touch _ _ _ (sub_le (by decide) hm) (Run.macs_touch _ _ _ _ (sub_le (by decide) hm) hz)) | exact Run.st_touch _ _ _ (sub_le (by decide) hm) (Run.macs_touch _ _ _ _ (sub_le (by decide) hm) hz)
  · first | exact State.slFlag_touch _ _ _ (sub_le (by decide) hm) (Run.st_touch _ _ _ (sub_le (by decide) hm) (Run.macs_touch _ _ _ _ (sub_le (by decide) hm) hz)) | exact Run.st_touch _ _ _ (sub_le (by decide) hm) (Run.macs_touch _ _ _ _ (sub_le (by decide) hm) hz)

theorem Run.setWide_touch {msk : Nat} {org : State} (r : Run) (n d : Nat) (v : Int) (hm : sub 0x80000000000000000000000000000000000000000000000000000000000000000000000000000000000 msk) (hz : Within msk org r.s) : Within msk org (Run.setWide r n d v).s := by
  unfold Run.setWide
  repeat' with_reducible (first | assumption | intro _ | exact partOk_refl _ _ _ | apply Run.setD_touch | apply within_ite | apply within_ite_fst | apply rows_ite | apply rows_if | apply within_foldl | apply within_foldl_fst | split | (dsimp only; split) | apply within_mk)
  all_goals first | exact sub_le (by decide) hm | exact partOk_bit (sub_bit hm (by decide)) | exact sub_bit hm (by decide) | exact .inr rfl

theorem State.capPut_touch {msk : Nat} {org : State} (s : State) (c : Nat) (x : Int) (hm : sub 0x840000000000000000000010800000000000000000000000000000001802000000000000000000000000000000000000000000000000000000000000000000000000 msk) (hz : Within msk org s) : Within msk org (State.capPut s c x) := by
  unfold State.capPut
  repeat' with_reducible (first | assumption | intro _ | exact partOk_refl _ _ _ | apply State.capture_touch | apply State.setFld_touch | apply State.raise_touch | apply within_ite | apply within_ite_fst | apply rows_ite | apply rows_if | apply within_foldl | apply within_foldl_fst | split | (dsimp only; split) | apply within_mk)
  all_goals try with_reducible (first | refine in_CP_COUNT_WORDS ?_ _ | refine in_LP_EVENT_CAP_DONE ?_ | refine in_CP_CTRL_ARM ?_ _ | refine in_CP_CTRL_FULL ?_ _)
  all_goals first | exact sub_le (by decide) hm | exact partOk_bit (sub_bit hm (by decide)) | exact sub_bit hm (by decide) | exact in_CP_COUNT_WORDS (sub_bit hm (by decide)) _ | exact in_LP_EVENT_CAP_DONE (sub_bit hm (by decide)) | exact in_CP_CTRL_ARM (sub_bit hm (by decide)) _ | exact in_CP_CTRL_FULL (sub_bit hm (by decide)) _ | exact .inr rfl

theorem Run.effect_touch {msk : Nat} {org : State} (r : Run) (e : RunEnv) (w : Nat) (hm : sub 0x584000000000000000000001080000000000000004000002008008f401802000000000000000000000000000000000000000000000000000000000000000000000000 msk) (hz : Within msk org r.s) : Within msk org (Run.effect r e w).s := by
  unfold Run.effect
  repeat' with_reducible (first | assumption | intro _ | exact partOk_refl _ _ _ | apply Run.setD_touch | apply State.setSlot_touch | apply State.slotDeliver_touch | apply Run.st_touch | apply Run.setWide_touch | apply Run.add_touch | apply Run.mul_touch | apply State.slFlag_touch | apply Run.sat40_touch | apply Run.lim_touch | apply Run.comp_touch | apply State.capPut_touch | apply within_ite | apply within_ite_fst | apply rows_ite | apply rows_if | apply within_foldl | apply within_foldl_fst | split | (dsimp only; split) | apply within_mk)
  all_goals first | exact sub_le (by decide) hm | exact partOk_bit (sub_bit hm (by decide)) | exact sub_bit hm (by decide) | exact .inr rfl

theorem State.sampleTimes_touch {msk : Nat} {org : State} (s : State) (n a op t : Nat) (trigger : Time) (total : Nat) (hm : sub 0x60800030000020000000010800000000000000000000000000000000000000000000000000000000000000000000000000000000000000000000000000000000000 msk) (hz : Within msk org s) : Within msk org (State.sampleTimes s n a op t trigger total) := by
  unfold State.sampleTimes
  repeat' with_reducible (first | assumption | intro _ | exact partOk_refl _ _ _ | apply State.setFld_touch | apply State.tick_touch | apply State.raise_touch | apply within_ite | apply within_ite_fst | apply rows_ite | apply rows_if | apply within_foldl | apply within_foldl_fst | split | (dsimp only; split) | apply within_mk)
  all_goals try with_reducible (first | refine in_SMP_BUF_DATA ?_ _ _ | refine in_SMP_COUNT_COUNT ?_ | refine in_REC_EVENT_SMP_FULL ?_ | refine in_SMP_COUNT_FULL ?_)
  all_goals first | exact sub_le (by decide) hm | exact partOk_bit (sub_bit hm (by decide)) | exact sub_bit hm (by decide) | exact in_SMP_BUF_DATA (sub_bit hm (by decide)) _ _ | exact in_SMP_COUNT_COUNT (sub_bit hm (by decide)) | exact in_REC_EVENT_SMP_FULL (sub_bit hm (by decide)) | exact in_SMP_COUNT_FULL (sub_bit hm (by decide)) | exact .inr rfl

theorem Run.step_touch {msk : Nat} {org : State} (r : Run) (e : RunEnv) (hm : sub 0x586080003000002000000001080000000000000004000002008008f401802000000000000000000000000000000000000000000000000000000000000000000000000 msk) (hz : Within msk org r.s) : Within msk org (Run.step r e).s := by
  unfold Run.step
  repeat' with_reducible (first | assumption | intro _ | exact partOk_refl _ _ _ | apply Run.effect_touch | apply State.sampleTimes_touch | apply within_ite | apply within_ite_fst | apply rows_ite | apply rows_if | apply within_foldl | apply within_foldl_fst | split | (dsimp only; split) | apply within_mk)
  all_goals first | exact sub_le (by decide) hm | exact partOk_bit (sub_bit hm (by decide)) | exact sub_bit hm (by decide) | exact .inr rfl

theorem State.testStep_touch {msk : Nat} {org : State} (s : State) (c : Nat) (hm : sub 0x840800000000000000000010800000000000000000000000000000000042000000000000000000000000000000000000000000000000000000000000000000000000 msk) (hz : Within msk org s) : Within msk org (State.testStep s c) := by
  unfold State.testStep
  repeat' with_reducible (first | assumption | intro _ | exact partOk_refl _ _ _ | apply State.setCore_touch | apply State.tick_touch | apply State.setFld_touch | apply State.raise_touch | apply within_ite | apply within_ite_fst | apply rows_ite | apply rows_if | apply within_foldl | apply within_foldl_fst | split | (dsimp only; split) | apply within_mk)
  all_goals try with_reducible (first | refine in_LP_EVENT_TEST_DONE ?_ | refine in_TG_CTRL_DONE ?_ _ | refine in_TG_CTRL_RUN ?_ _ | refine in_LP_EVENT_CAP_DONE ?_)
  all_goals first | exact sub_le (by decide) hm | exact partOk_bit (sub_bit hm (by decide)) | exact sub_bit hm (by decide) | exact in_LP_EVENT_TEST_DONE (sub_bit hm (by decide)) | exact in_TG_CTRL_DONE (sub_bit hm (by decide)) _ | exact in_TG_CTRL_RUN (sub_bit hm (by decide)) _ | exact in_LP_EVENT_CAP_DONE (sub_bit hm (by decide)) | exact .inr rfl

theorem State.testWrite_touch {msk : Nat} {org : State} (s : State) (c v : Nat) (hm : sub 0x840000000000000000000010800000000000000000000000000000000042000000000000000000000000000000000000000000000000000000000000000000000000 msk) (hz : Within msk org s) : Within msk org (State.testWrite s c v) := by
  unfold State.testWrite
  repeat' with_reducible (first | assumption | intro _ | exact partOk_refl _ _ _ | apply State.raise_touch | apply State.writeCodes_touch | apply State.setFld_touch | apply State.setCore_touch | apply within_ite | apply within_ite_fst | apply rows_ite | apply rows_if | apply within_foldl | apply within_foldl_fst | split | (dsimp only; split) | apply within_mk)
  all_goals try with_reducible (first | refine in_LP_EVENT_CFG_ERR ?_ | refine has_TG_CTRL ?_ _ | refine in_TG_CTRL_DONE ?_ _)
  all_goals first | exact sub_le (by decide) hm | exact partOk_bit (sub_bit hm (by decide)) | exact sub_bit hm (by decide) | exact in_LP_EVENT_CFG_ERR (sub_bit hm (by decide)) | exact has_TG_CTRL (sub_bit hm (by decide)) _ | exact in_TG_CTRL_DONE (sub_bit hm (by decide)) _ | exact .inr rfl

theorem State.captureWrite_touch {msk : Nat} {org : State} (s : State) (c v : Nat) (hm : sub 0x840000000000000000000010800000000000000000000000000000001802000000000000000000000000000000000000000000000000000000000000000000000000 msk) (hz : Within msk org s) : Within msk org (State.captureWrite s c v) := by
  unfold State.captureWrite
  repeat' with_reducible (first | assumption | intro _ | exact partOk_refl _ _ _ | apply State.raise_touch | apply State.writeCodes_touch | apply State.setFld_touch | apply State.setCore_touch | apply within_ite | apply within_ite_fst | apply rows_ite | apply rows_if | apply within_foldl | apply within_foldl_fst | split | (dsimp only; split) | apply within_mk)
  all_goals try with_reducible (first | refine in_LP_EVENT_CFG_ERR ?_ | refine has_CP_CTRL ?_ _ | refine in_CP_COUNT_WORDS ?_ _ | refine in_CP_CTRL_FULL ?_ _)
  all_goals first | exact sub_le (by decide) hm | exact partOk_bit (sub_bit hm (by decide)) | exact sub_bit hm (by decide) | exact in_LP_EVENT_CFG_ERR (sub_bit hm (by decide)) | exact has_CP_CTRL (sub_bit hm (by decide)) _ | exact in_CP_COUNT_WORDS (sub_bit hm (by decide)) _ | exact in_CP_CTRL_FULL (sub_bit hm (by decide)) _ | exact .inr rfl

theorem State.rampStep_touch {msk : Nat} {org : State} (s : State) (n : Nat) (now : Time) (hm : sub 0x800000000000000000000000000000000000000000000000000009000000000000000000000000000000000000000000000000000000000000000000000000000000 msk) (hz : Within msk org s) : Within msk org (State.rampStep s n now) := by
  unfold State.rampStep
  repeat' with_reducible (first | assumption | intro _ | exact partOk_refl _ _ _ | apply State.setSlot_touch | apply State.setSfld_touch | apply State.setFld_touch | apply within_ite | apply within_ite_fst | apply rows_ite | apply rows_if | apply within_foldl | apply within_foldl_fst | split | (dsimp only; split) | apply within_mk)
  all_goals try with_reducible (first | refine in_SL_RAMP_R ?_ _ | refine in_SL_STATE_STATE ?_ _)
  all_goals first | exact sub_le (by decide) hm | exact partOk_bit (sub_bit hm (by decide)) | exact sub_bit hm (by decide) | exact in_SL_RAMP_R (sub_bit hm (by decide)) _ | exact in_SL_STATE_STATE (sub_bit hm (by decide)) _ | exact .inr rfl

theorem State.parentRan_touch {msk : Nat} {org : State} (s : State) (n : Nat) (t : Time) (hm : sub 0x800000000000000000000000000000000000000000000000000000000000000000000000000000000000000000000000000000000000000000000000000000000000 msk) (hz : Within msk org s) : Within msk org (State.parentRan s n t) := by
  unfold State.parentRan
  repeat' with_reducible (first | assumption | intro _ | exact partOk_refl _ _ _ | apply State.setSlot_touch | apply within_ite | apply within_ite_fst | apply rows_ite | apply rows_if | apply within_foldl | apply within_foldl_fst | split | (dsimp only; split) | apply within_mk)
  all_goals first | exact sub_le (by decide) hm | exact partOk_bit (sub_bit hm (by decide)) | exact sub_bit hm (by decide) | exact .inr rfl

theorem State.slotOverrun_touch {msk : Nat} {org : State} (s : State) (n : Nat) (hm : sub 0x40000003600020000000010800000000000000000000000000012000002000000000000000000000000000000000000000000000000000000000000000000000000 msk) (hz : Within msk org s) : Within msk org (State.slotOverrun s n) := by
  unfold State.slotOverrun
  repeat' with_reducible (first | assumption | intro _ | exact partOk_refl _ _ _ | apply State.slFlag_touch | apply State.bump_touch | apply State.raise_touch | apply State.count_touch | apply within_ite | apply within_ite_fst | apply rows_ite | apply rows_if | apply within_foldl | apply within_foldl_fst | split | (dsimp only; split) | apply within_mk)
  all_goals try with_reducible (first | refine in_LP_EVENT_OVERRUN ?_ | refine in_SL_OVR_OVR_N ?_ _)
  all_goals first | exact sub_le (by decide) hm | exact partOk_bit (sub_bit hm (by decide)) | exact sub_bit hm (by decide) | exact in_LP_EVENT_OVERRUN (sub_bit hm (by decide)) | exact in_SL_OVR_OVR_N (sub_bit hm (by decide)) _ | exact .inr rfl

theorem Run.go_touch {msk : Nat} {org : State} (e : RunEnv) (f : Nat) (r : Run) (hm : sub 0x586080003000002000000001080000000000000004000002008008f401802000000000000000000000000000000000000000000000000000000000000000000000000 msk) (hz : Within msk org r.s) :
    Within msk org (Run.go e f r).s := by
  induction f generalizing r with
  | zero => exact hz
  | succ f ih =>
    unfold Run.go
    split
    · exact hz
    · exact ih _ (Run.step_touch _ _ hm hz)

theorem State.slotProgram_touch {msk : Nat} {org : State} (s : State) (n : Nat) (trigger : Time) (hm : sub 0x58608000336000200000000108000000000000000400000200800ef407842000000000000000000000000000000000000000000000000000000000000000000000000 msk) (hz : Within msk org s) : Within msk org (State.slotProgram s n trigger) := by
  unfold State.slotProgram
  repeat' with_reducible (first | assumption | intro _ | exact partOk_refl _ _ _ | apply State.setSlot_touch | apply State.rampStep_touch | apply State.setReg64_touch | apply State.setCore_touch | apply State.tick_touch | apply State.setFld_touch | apply State.testStep_touch | apply State.count_touch | apply State.bumpWrap_touch | apply State.parentRan_touch | apply State.slFlag_touch | apply State.slotSafe_touch | apply State.raise_touch | apply Run.go_touch | apply within_ite | apply within_ite_fst | apply rows_ite | apply rows_if | apply within_foldl | apply within_foldl_fst | split | (dsimp only; split) | apply within_mk)
  all_goals try with_reducible (first | refine has_CP_START_LO ?_ _ | refine in_SL_LAT_MAX_LAT ?_ _ | refine in_SL_LAT_LAST_LAT ?_ _ | refine in_SL_RUNS_RUNS ?_ _ | refine in_LP_EVENT_RUNAWAY ?_ | refine rows_eq (has_CP_START_HI ?_ (n / 8)) (by omega))
  all_goals first | exact sub_le (by decide) hm | exact partOk_bit (sub_bit hm (by decide)) | exact sub_bit hm (by decide) | exact has_CP_START_LO (sub_bit hm (by decide)) _ | exact in_SL_LAT_MAX_LAT (sub_bit hm (by decide)) _ | exact in_SL_LAT_LAST_LAT (sub_bit hm (by decide)) _ | exact in_SL_RUNS_RUNS (sub_bit hm (by decide)) _ | exact in_LP_EVENT_RUNAWAY (sub_bit hm (by decide)) | exact rows_eq (has_CP_START_HI (sub_bit hm (by decide)) (n / 8)) (by omega) | exact .inr rfl

theorem State.slotRun_touch {msk : Nat} {org : State} (s0 : State) (n : Nat) (t : Time) (hm : sub 0x58608000336000200000000108000000000000000400000201900ff40784a000000000000000000000000000000000000000000000000000000000000000000000000 msk) (hz : Within msk org s0) : Within msk org (State.slotRun s0 n t) := by
  unfold State.slotRun
  repeat' with_reducible (first | assumption | intro _ | exact partOk_refl _ _ _ | apply State.loopSettle_touch | apply State.setSlot_touch | apply State.slotOverrun_touch | apply State.slotProgram_touch | apply within_ite | apply within_ite_fst | apply rows_ite | apply rows_if | apply within_foldl | apply within_foldl_fst | split | (dsimp only; split) | apply within_mk)
  all_goals first | exact sub_le (by decide) hm | exact partOk_bit (sub_bit hm (by decide)) | exact sub_bit hm (by decide) | exact .inr rfl

theorem State.lpWrite_touch {msk : Nat} {org : State} (s0 : State) (a v : Nat) (hm : sub 0x584000000000000000000001080000000000000004000002019008fc0184a000000000000000000000000000000000000000000000000000000000000000000000000 msk) (ha : RowsHave msk a) (hz : Within msk org s0) : Within msk org (State.lpWrite s0 a v) := by
  unfold State.lpWrite
  repeat' with_reducible (first | assumption | intro _ | exact partOk_refl _ _ _ | apply State.loopSettle_touch | apply State.tableCommit_touch | apply State.testWrite_touch | apply State.captureWrite_touch | apply State.writeCodes_touch | apply State.setReg_touch | apply State.newSample_touch | apply State.slotEn_touch | apply State.coefCommit_touch | apply State.clrState_touch | apply State.raise_touch | apply within_ite | apply within_ite_fst | apply rows_ite | apply rows_if | apply within_foldl | apply within_foldl_fst | split | (dsimp only; split) | apply within_mk)
  all_goals try with_reducible (first | refine in_LP_EVENT_CFG_ERR ?_)
  all_goals first | exact sub_le (by decide) hm | exact partOk_bit (sub_bit hm (by decide)) | exact sub_bit hm (by decide) | exact in_LP_EVENT_CFG_ERR (sub_bit hm (by decide)) | exact .inr rfl

end Sys2Proof.Machine
end

