-- ==== Sys2Proof/Laws/TouchFire.lean ====
section
/-! SUPPORT. What each operation of Machine/Fire.lean may change, as a mask. -/

namespace Sys2Proof.Machine

set_option linter.all false
set_option Elab.async false

theorem State.chanSeal_touch {msk : Nat} {org : State} (s : State) (n kind code : Nat) (m : Nat) (hm : sub 0x200000000000000000000000000000000000000000000000000000000000000 msk) (hz : Within msk org s) : Within msk org (State.chanSeal s n kind code m) := by
  unfold State.chanSeal
  repeat' with_reducible (first | assumption | intro _ | exact partOk_refl _ _ _ | apply State.setFld_touch | apply within_ite | apply within_ite_fst | apply rows_ite | apply rows_if | apply within_foldl | apply within_foldl_fst | split | (dsimp only; split) | apply within_mk)
  all_goals try with_reducible (first | refine in_VCH_SEAL_M ?_ _ | refine in_VCH_SEAL_KIND ?_ _ | refine in_VCH_SEAL_CODE ?_ _)
  all_goals first | exact sub_le (by decide) hm | exact partOk_bit (sub_bit hm (by decide)) | exact sub_bit hm (by decide) | exact in_VCH_SEAL_M (sub_bit hm (by decide)) _ | exact in_VCH_SEAL_KIND (sub_bit hm (by decide)) _ | exact in_VCH_SEAL_CODE (sub_bit hm (by decide)) _ | exact .inr rfl

theorem State.sealValve_touch {msk : Nat} {org : State} (s : State) (n i kind code : Nat) (seat : Option Time) (hm : sub 0x1c0000003600020000000010800000000000000000000000000000000000000000000a00000000004600000000000000000000001800000400068000000000140400 msk) (hz : Within msk org s) : Within msk org (State.sealValve s n i kind code seat) := by
  unfold State.sealValve
  repeat' with_reducible (first | assumption | intro _ | exact partOk_refl _ _ _ | apply State.bump_touch | apply State.chanSeal_touch | apply State.sealEntry_touch | apply within_ite | apply within_ite_fst | apply rows_ite | apply rows_if | apply within_foldl | apply within_foldl_fst | split | (dsimp only; split) | apply within_mk)
  all_goals try with_reducible (first | refine in_VCH_CNT_UNSEATED_N ?_ _)
  all_goals first | exact sub_le (by decide) hm | exact partOk_bit (sub_bit hm (by decide)) | exact sub_bit hm (by decide) | exact in_VCH_CNT_UNSEATED_N (sub_bit hm (by decide)) _ | exact .inr rfl

theorem State.setPeak_touch {msk : Nat} {org : State} (s : State) (n : Nat) (v : Int) (hm : sub 0x800000000000000000000000000000000000000000000000000000000000000000400000000000000000000000000000000000000000000000000000000000000 msk) (hz : Within msk org s) : Within msk org (State.setPeak s n v) := by
  unfold State.setPeak
  repeat' with_reducible (first | assumption | intro _ | exact partOk_refl _ _ _ | apply State.setFld_touch | apply State.tick_touch | apply within_ite | apply within_ite_fst | apply rows_ite | apply rows_if | apply within_foldl | apply within_foldl_fst | split | (dsimp only; split) | apply within_mk)
  all_goals try with_reducible (first | refine in_VCH_KPEAK_PEAK ?_ _)
  all_goals first | exact sub_le (by decide) hm | exact partOk_bit (sub_bit hm (by decide)) | exact sub_bit hm (by decide) | exact in_VCH_KPEAK_PEAK (sub_bit hm (by decide)) _ | exact .inr rfl

theorem State.sealHalted_touch {msk : Nat} {org : State} (s : State) (n i kind : Nat) (hm : sub 0x1e0000003611020000000010800000000000000000000000000000000000000000000a00000000004600000000000000000000001800000400068000000000140400 msk) (hz : Within msk org s) : Within msk org (State.sealHalted s n i kind) := by
  unfold State.sealHalted
  repeat' with_reducible (first | assumption | intro _ | exact partOk_refl _ _ _ | apply State.muslin_touch | apply State.bump_touch | apply State.sealValve_touch | apply within_ite | apply within_ite_fst | apply rows_ite | apply rows_if | apply within_foldl | apply within_foldl_fst | split | (dsimp only; split) | apply within_mk)
  all_goals try with_reducible (first | refine in_VCH_CNT_DIP_MISS_N ?_ _)
  all_goals first | exact sub_le (by decide) hm | exact partOk_bit (sub_bit hm (by decide)) | exact sub_bit hm (by decide) | exact in_VCH_CNT_DIP_MISS_N (sub_bit hm (by decide)) _ | exact .inr rfl

theorem State.valveSeal_touch {msk : Nat} {org : State} (s : State) (n : Nat) (samples : List Sample) (hm : sub 0x3e0800003611020000000010800000000000000000000000000000000000000000000e00000000004600000000000000000000001800000400068000000000140400 msk) (hz : Within msk org s) : Within msk org (State.valveSeal s n samples) := by
  unfold State.valveSeal
  repeat' with_reducible (first | assumption | intro _ | exact partOk_refl _ _ _ | apply State.setValve_touch | apply State.sealHalted_touch | apply State.setPeak_touch | apply State.bump_touch | apply State.sealValve_touch | apply within_ite | apply within_ite_fst | apply rows_ite | apply rows_if | apply within_foldl | apply within_foldl_fst | split | (dsimp only; split) | apply within_mk)
  all_goals try with_reducible (first | refine in_VCH_CNT_DIP_MISS_N ?_ _)
  all_goals first | exact sub_le (by decide) hm | exact partOk_bit (sub_bit hm (by decide)) | exact sub_bit hm (by decide) | exact in_VCH_CNT_DIP_MISS_N (sub_bit hm (by decide)) _ | exact .inr rfl

theorem State.sealNow_touch {msk : Nat} {org : State} (s : State) (n i kind code : Nat) (hm : sub 0x1c0000003600020000000010800000000000000000000000000000000000000000000a00000000004600000000000000000000001800000400068000000000140400 msk) (hz : Within msk org s) : Within msk org (State.sealNow s n i kind code) := by
  unfold State.sealNow
  repeat' with_reducible (first | assumption | intro _ | exact partOk_refl _ _ _ | apply State.sealValve_touch | apply within_ite | apply within_ite_fst | apply rows_ite | apply rows_if | apply within_foldl | apply within_foldl_fst | split | (dsimp only; split) | apply within_mk)
  all_goals first | exact sub_le (by decide) hm | exact partOk_bit (sub_bit hm (by decide)) | exact sub_bit hm (by decide) | exact .inr rfl

theorem State.fired_touch {msk : Nat} {org : State} (s : State) (i : Nat) (e : Entry) (hm : sub 0x10140000003600020000000010800000000000000000000000000000000000000000000000000000000000000000000000000000000000000000000000000000000000 msk) (hz : Within msk org s) : Within msk org (State.fired s i e) := by
  unfold State.fired
  repeat' with_reducible (first | assumption | intro _ | exact partOk_refl _ _ _ | apply State.putSlot_touch | apply State.setEntry_touch | apply Run.st_touch | apply State.count_touch | apply within_ite | apply within_ite_fst | apply rows_ite | apply rows_if | apply within_foldl | apply within_foldl_fst | split | (dsimp only; split) | apply within_mk)
  all_goals first | exact sub_le (by decide) hm | exact partOk_bit (sub_bit hm (by decide)) | exact sub_bit hm (by decide) | exact .inr rfl

theorem State.rateTakes_touch {msk : Nat} {org : State} (s : State) (e : Entry) (hm : sub 0x1b000000000000000000000000000000000000000400000200000000000000000010a1000000000000000000000000000000000000000000000000000000000000000 msk) (hz : Within msk org s) : Within msk org (State.rateTakes s e) := by
  unfold State.rateTakes
  repeat' with_reducible (first | assumption | intro _ | exact partOk_refl _ _ _ | apply State.contribute_touch | apply State.loadDuty_touch | apply State.lsDuty_touch | apply State.foDuty_touch | apply within_ite | apply within_ite_fst | apply rows_ite | apply rows_if | apply within_foldl | apply within_foldl_fst | split | (dsimp only; split) | apply within_mk)
  all_goals first | exact sub_le (by decide) hm | exact partOk_bit (sub_bit hm (by decide)) | exact sub_bit hm (by decide) | exact .inr rfl

theorem State.rateEnds_touch {msk : Nat} {org : State} (s : State) (o : Nat) (hm : sub 0x800000000000000000000000000000000000000000000000000000000000000000000000000000000000000000000000000000000000000000000000000000000000 msk) (hz : Within msk org s) : Within msk org (State.rateEnds s o) := by
  unfold State.rateEnds
  repeat' with_reducible (first | assumption | intro _ | exact partOk_refl _ _ _ | apply State.contribute_touch | apply within_ite | apply within_ite_fst | apply rows_ite | apply rows_if | apply within_foldl | apply within_foldl_fst | split | (dsimp only; split) | apply within_mk)
  all_goals first | exact sub_le (by decide) hm | exact partOk_bit (sub_bit hm (by decide)) | exact sub_bit hm (by decide) | exact .inr rfl

theorem State.addWin_touch {msk : Nat} {org : State} (s : State) (n i : Nat) (e : Entry) (dbg : Bool) (hm : sub 0x200000000000000000000000000000000000000000000000000000000000000000000000000000000000000000000000000000000000000000000000000000000000 msk) (hz : Within msk org s) : Within msk org (State.addWin s n i e dbg) := by
  unfold State.addWin
  repeat' with_reducible (first | assumption | intro _ | exact partOk_refl _ _ _ | apply State.setValve_touch | apply within_ite | apply within_ite_fst | apply rows_ite | apply rows_if | apply within_foldl | apply within_foldl_fst | split | (dsimp only; split) | apply within_mk)
  all_goals first | exact sub_le (by decide) hm | exact partOk_bit (sub_bit hm (by decide)) | exact sub_bit hm (by decide) | exact .inr rfl

theorem State.valveOpen_touch {msk : Nat} {org : State} (s : State) (n i : Nat) (e : Entry) (hm : sub 0x1bc00000036000200000000108000000000000000400000200000000000000000010a1a04000000004600000000000000000000001800000400068000000000140400 msk) (hz : Within msk org s) : Within msk org (State.valveOpen s n i e) := by
  unfold State.valveOpen
  repeat' with_reducible (first | assumption | intro _ | exact partOk_refl _ _ _ | apply Run.st_touch | apply State.sealNow_touch | apply State.rateTakes_touch | apply State.cutWins_touch | apply State.setValve_touch | apply State.vOpen_touch | apply State.beginPulse_touch | apply State.addWin_touch | apply within_ite | apply within_ite_fst | apply rows_ite | apply rows_if | apply within_foldl | apply within_foldl_fst | split | (dsimp only; split) | apply within_mk)
  all_goals first | exact sub_le (by decide) hm | exact partOk_bit (sub_bit hm (by decide)) | exact sub_bit hm (by decide) | exact .inr rfl

theorem State.closeFromOff_touch {msk : Nat} {org : State} (s : State) (n i : Nat) (e : Entry) (hm : sub 0x3c0000003600020000000010800000000000000000000000000000000000000000000a00000000004600000000000000000000001800000400068000000000140400 msk) (hz : Within msk org s) : Within msk org (State.closeFromOff s n i e) := by
  unfold State.closeFromOff
  repeat' with_reducible (first | assumption | intro _ | exact partOk_refl _ _ _ | apply State.setValve_touch | apply State.sealValve_touch | apply State.sealNow_touch | apply within_ite | apply within_ite_fst | apply rows_ite | apply rows_if | apply within_foldl | apply within_foldl_fst | split | (dsimp only; split) | apply within_mk)
  all_goals first | exact sub_le (by decide) hm | exact partOk_bit (sub_bit hm (by decide)) | exact sub_bit hm (by decide) | exact .inr rfl

theorem State.valveClose_touch {msk : Nat} {org : State} (s0 : State) (n i : Nat) (e : Entry) (hm : sub 0xbc0000003600020000000010800000000000000000000000000000000000000000000a04000000004600000000000000000000001800000400068000000000140400 msk) (hz : Within msk org s0) : Within msk org (State.valveClose s0 n i e) := by
  unfold State.valveClose
  repeat' with_reducible (first | assumption | intro _ | exact partOk_refl _ _ _ | apply State.rateEnds_touch | apply Run.st_touch | apply State.sealNow_touch | apply State.cutWins_touch | apply State.setValve_touch | apply State.vClose_touch | apply State.addWin_touch | apply State.closeFromOff_touch | apply within_ite | apply within_ite_fst | apply rows_ite | apply rows_if | apply within_foldl | apply within_foldl_fst | split | (dsimp only; split) | apply within_mk)
  all_goals first | exact sub_le (by decide) hm | exact partOk_bit (sub_bit hm (by decide)) | exact sub_bit hm (by decide) | exact .inr rfl

theorem State.valveEdge_touch {msk : Nat} {org : State} (s : State) (n i : Nat) (e : Entry) (hm : sub 0x1bc00000036000200000000108000000000000000400000200000000000000000010a1a04000000004600000000000000000000001800000400068000000000140400 msk) (hz : Within msk org s) : Within msk org (State.valveEdge s n i e) := by
  unfold State.valveEdge
  repeat' with_reducible (first | assumption | intro _ | exact partOk_refl _ _ _ | apply State.setValve_touch | apply State.addWin_touch | apply State.valveOpen_touch | apply State.valveClose_touch | apply within_ite | apply within_ite_fst | apply rows_ite | apply rows_if | apply within_foldl | apply within_foldl_fst | split | (dsimp only; split) | apply within_mk)
  all_goals first | exact sub_le (by decide) hm | exact partOk_bit (sub_bit hm (by decide)) | exact sub_bit hm (by decide) | exact .inr rfl

theorem State.remoteLate_touch {msk : Nat} {org : State} (s : State) (i : Nat) (e : Entry) (hm : sub 0x107c0000003600020000000010800000000000000000000000000000000000401018000004000000004000000000000000000000000000090400068000000000140400 msk) (hz : Within msk org s) : Within msk org (State.remoteLate s i e) := by
  unfold State.remoteLate
  repeat' with_reducible (first | assumption | intro _ | exact partOk_refl _ _ _ | apply State.lateEntry_touch | apply State.bump_touch | apply State.raise_touch | apply State.nodeOut_touch | apply within_ite | apply within_ite_fst | apply rows_ite | apply rows_if | apply within_foldl | apply within_foldl_fst | split | (dsimp only; split) | apply within_mk)
  all_goals try with_reducible (first | refine in_LK_EVENT_LATE ?_ _ | refine in_ND_CNT_LATE_N ?_ _ _)
  all_goals first | exact sub_le (by decide) hm | exact partOk_bit (sub_bit hm (by decide)) | exact sub_bit hm (by decide) | exact in_LK_EVENT_LATE (sub_bit hm (by decide)) _ | exact in_ND_CNT_LATE_N (sub_bit hm (by decide)) _ _ | exact .inr rfl

theorem State.edgeAt_touch {msk : Nat} {org : State} (s : State) (i : Nat) (e : Entry) (hm : sub 0x3bc08000036000200000000108000000000000000400000600000000000000000010a1a04000000004600000000000000000000001800000400068000000000140400 msk) (hz : Within msk org s) : Within msk org (State.edgeAt s i e) := by
  unfold State.edgeAt
  repeat' with_reducible (first | assumption | intro _ | exact partOk_refl _ _ _ | apply State.rateTakes_touch | apply State.rateEnds_touch | apply State.sealEntry_touch | apply State.setOpen_touch | apply State.valveEdge_touch | apply State.lsEdge_touch | apply State.foEdge_touch | apply within_ite | apply within_ite_fst | apply rows_ite | apply rows_if | apply within_foldl | apply within_foldl_fst | split | (dsimp only; split) | apply within_mk)
  all_goals first | exact sub_le (by decide) hm | exact partOk_bit (sub_bit hm (by decide)) | exact sub_bit hm (by decide) | exact .inr rfl

theorem State.fireOne_touch {msk : Nat} {org : State} (s : State) (i : Nat) (hm : sub 0x13fe08000036118200000000108000000000000000400000600000000000004011990a1a04000000004600000000000000000000001800090400068000000000140400 msk) (hz : Within msk org s) : Within msk org (State.fireOne s i) := by
  unfold State.fireOne
  repeat' with_reducible (first | assumption | intro _ | exact partOk_refl _ _ _ | apply Run.st_touch | apply State.withdrawAll_touch | apply State.remoteLate_touch | apply State.lateEntry_touch | apply State.fired_touch | apply State.rateTakes_touch | apply State.sealEntry_touch | apply State.edgeAt_touch | apply within_ite | apply within_ite_fst | apply rows_ite | apply rows_if | apply within_foldl | apply within_foldl_fst | split | (dsimp only; split) | apply within_mk)
  all_goals first | exact sub_le (by decide) hm | exact partOk_bit (sub_bit hm (by decide)) | exact sub_bit hm (by decide) | exact .inr rfl

theorem State.fire_touch {msk : Nat} {org : State} (s : State) (i : Nat) (hm : sub 0x13fe08000036118200000000108000000000000000400000600000000000004011990a1a04000000004600000000000000000000001800090400068000000000140400 msk) (hz : Within msk org s) : Within msk org (State.fire s i) := by
  unfold State.fire
  repeat' with_reducible (first | assumption | intro _ | exact partOk_refl _ _ _ | apply State.fireOne_touch | apply within_ite | apply within_ite_fst | apply rows_ite | apply rows_if | apply within_foldl | apply within_foldl_fst | split | (dsimp only; split) | apply within_mk)
  all_goals first | exact sub_le (by decide) hm | exact partOk_bit (sub_bit hm (by decide)) | exact sub_bit hm (by decide) | exact .inr rfl

theorem State.modOff_touch {msk : Nat} {org : State} (s : State) (n : Nat) (hm : sub 0x200000000000000000000000000000000000000000000000000000000000000000000004000000000000000000000000000000000000000000000000000000000000 msk) (hz : Within msk org s) : Within msk org (State.modOff s n) := by
  unfold State.modOff
  repeat' with_reducible (first | assumption | intro _ | exact partOk_refl _ _ _ | apply Run.st_touch | apply State.cutWins_touch | apply State.setValve_touch | apply State.vClose_touch | apply within_ite | apply within_ite_fst | apply rows_ite | apply rows_if | apply within_foldl | apply within_foldl_fst | split | (dsimp only; split) | apply within_mk)
  all_goals first | exact sub_le (by decide) hm | exact partOk_bit (sub_bit hm (by decide)) | exact sub_bit hm (by decide) | exact .inr rfl

theorem State.modOn_touch {msk : Nat} {org : State} (s : State) (n : Nat) (hm : sub 0x200000000000000000000000000000000000000000000000000000000000000000000004000000000000000000000000000000000000000000000000000000000000 msk) (hz : Within msk org s) : Within msk org (State.modOn s n) := by
  unfold State.modOn
  repeat' with_reducible (first | assumption | intro _ | exact partOk_refl _ _ _ | apply State.cutWins_touch | apply State.vOpen_touch | apply State.beginPulse_touch | apply within_ite | apply within_ite_fst | apply rows_ite | apply rows_if | apply within_foldl | apply within_foldl_fst | split | (dsimp only; split) | apply within_mk)
  all_goals first | exact sub_le (by decide) hm | exact partOk_bit (sub_bit hm (by decide)) | exact sub_bit hm (by decide) | exact .inr rfl

theorem State.preflux_touch {msk : Nat} {org : State} (s : State) (i : Nat) (hm : sub 0x300000000000000000000000000000000000000000000000000000000000000000000004000000000000000000000000000000000000000000000000000000000000 msk) (hz : Within msk org s) : Within msk org (State.preflux s i) := by
  unfold State.preflux
  repeat' with_reducible (first | assumption | intro _ | exact partOk_refl _ _ _ | apply Run.st_touch | apply State.setEntry_touch | apply State.setValve_touch | apply State.vTo_touch | apply within_ite | apply within_ite_fst | apply rows_ite | apply rows_if | apply within_foldl | apply within_foldl_fst | split | (dsimp only; split) | apply within_mk)
  all_goals first | exact sub_le (by decide) hm | exact partOk_bit (sub_bit hm (by decide)) | exact sub_bit hm (by decide) | exact .inr rfl

theorem State.debugHalt_touch {msk : Nat} {org : State} (s : State) (hm : sub 0x5a4000000000000000000001080000000000000004000002000008f400003000000000004000000100000000000000000000000000000000000000000000000000000 msk) (hz : Within msk org s) : Within msk org (State.debugHalt s) := by
  unfold State.debugHalt
  repeat' with_reducible (first | assumption | intro _ | exact partOk_refl _ _ _ | apply State.setFld_touch | apply State.loopsHalt_touch | apply State.valvesSafe_touch | apply within_ite | apply within_ite_fst | apply rows_ite | apply rows_if | apply within_foldl | apply within_foldl_fst | split | (dsimp only; split) | apply within_mk)
  all_goals try with_reducible (first | refine in_VD_STATUS_HALTED ?_)
  all_goals first | exact sub_le (by decide) hm | exact partOk_bit (sub_bit hm (by decide)) | exact sub_bit hm (by decide) | exact in_VD_STATUS_HALTED (sub_bit hm (by decide)) | exact .inr rfl

theorem State.countersGo_touch {msk : Nat} {org : State} (s : State) (hm : sub 0x200000000000000000000000000000000000000000000000000000000000000000000000000000000000000000000000000000000000000000000000000000000000 msk) (hz : Within msk org s) : Within msk org (State.countersGo s) := by
  unfold State.countersGo
  repeat' with_reducible (first | assumption | intro _ | exact partOk_refl _ _ _ | apply State.setValve_touch | apply within_ite | apply within_ite_fst | apply rows_ite | apply rows_if | apply within_foldl | apply within_foldl_fst | split | (dsimp only; split) | apply within_mk)
  all_goals first | exact sub_le (by decide) hm | exact partOk_bit (sub_bit hm (by decide)) | exact sub_bit hm (by decide) | exact .inr rfl

theorem State.applyQueued_touch {msk : Nat} {org : State} (s : State) (n : Nat) (hm : sub 0x1b000000000000000000000000000000000000000400000200000000000000000010a1004000000000000000000000000000000000000000000000000000000000000 msk) (hz : Within msk org s) : Within msk org (State.applyQueued s n) := by
  unfold State.applyQueued
  repeat' with_reducible (first | assumption | intro _ | exact partOk_refl _ _ _ | apply State.setValve_touch | apply State.cutWins_touch | apply Run.st_touch | apply State.rateTakes_touch | apply State.vOpen_touch | apply State.beginPulse_touch | apply State.rateEnds_touch | apply State.vClose_touch | apply within_ite | apply within_ite_fst | apply rows_ite | apply rows_if | apply within_foldl | apply within_foldl_fst | split | (dsimp only; split) | apply within_mk)
  all_goals first | exact sub_le (by decide) hm | exact partOk_bit (sub_bit hm (by decide)) | exact sub_bit hm (by decide) | exact .inr rfl

theorem State.debugResume_touch {msk : Nat} {org : State} (s : State) (hm : sub 0x1b000000000000000000000000000000000000000400000200000090000010000010a1004000000100000000000000000000000000000000000000000000000000000 msk) (hz : Within msk org s) : Within msk org (State.debugResume s) := by
  unfold State.debugResume
  repeat' with_reducible (first | assumption | intro _ | exact partOk_refl _ _ _ | apply State.setFld_touch | apply State.loopsResume_touch | apply State.countersGo_touch | apply State.valvesRelease_touch | apply State.applyQueued_touch | apply within_ite | apply within_ite_fst | apply rows_ite | apply rows_if | apply within_foldl | apply within_foldl_fst | split | (dsimp only; split) | apply within_mk)
  all_goals try with_reducible (first | refine in_VD_STATUS_HALTED ?_)
  all_goals first | exact sub_le (by decide) hm | exact partOk_bit (sub_bit hm (by decide)) | exact sub_bit hm (by decide) | exact in_VD_STATUS_HALTED (sub_bit hm (by decide)) | exact .inr rfl

end Sys2Proof.Machine
end

