-- ==== Sys2Proof/Laws/TouchStops.lean ====
section
/-! SUPPORT. What each operation of Machine/Stops.lean may change, as a mask. -/

namespace Sys2Proof.Machine

set_option linter.all false
set_option Elab.async false

theorem State.commandClosed_touch {msk : Nat} {org : State} (s : State) (hit : Nat → Bool) (hm : sub 0x900000000000000000000000000000000000000000000000000000000000000000000000000000000000000000000000000000000000000000000000000000000000 msk) (hz : Within msk org s) : Within msk org (State.commandClosed s hit) := by
  unfold State.commandClosed
  repeat' with_reducible (first | assumption | intro _ | exact partOk_refl _ _ _ | apply within_ite | apply within_ite_fst | apply rows_ite | apply rows_if | apply within_foldl | apply within_foldl_fst | split | (dsimp only; split) | apply within_mk)
  all_goals first | exact sub_le (by decide) hm | exact partOk_bit (sub_bit hm (by decide)) | exact sub_bit hm (by decide) | exact .inr rfl

theorem State.stopEvents_touch {msk : Nat} {org : State} (s : State) (path ctx special : Nat) (hm : sub 0x10760000003611820000000010800000000000000000000000000000000000000180000004000000000000000000000000000000000000010000000000000000140400 msk) (hz : Within msk org s) : Within msk org (State.stopEvents s path ctx special) := by
  unfold State.stopEvents
  repeat' with_reducible (first | assumption | intro _ | exact partOk_refl _ _ _ | apply State.withdrawAll_touch | apply State.linksStop_touch | apply within_ite | apply within_ite_fst | apply rows_ite | apply rows_if | apply within_foldl | apply within_foldl_fst | split | (dsimp only; split) | apply within_mk)
  all_goals first | exact sub_le (by decide) hm | exact partOk_bit (sub_bit hm (by decide)) | exact sub_bit hm (by decide) | exact .inr rfl

theorem State.stopRecord_touch {msk : Nat} {org : State} (s : State) (src port ctx ident : Nat) (hm : sub 0x60000003611820000000010800000000000000000000000000000000000000000000000000000000000000000000000000000000000000000000000000000000000 msk) (hz : Within msk org s) : Within msk org (State.stopRecord s src port ctx ident) := by
  unfold State.stopRecord
  repeat' with_reducible (first | assumption | intro _ | exact partOk_refl _ _ _ | apply State.canvas_touch | apply State.ident_touch | apply within_ite | apply within_ite_fst | apply rows_ite | apply rows_if | apply within_foldl | apply within_foldl_fst | split | (dsimp only; split) | apply within_mk)
  all_goals first | exact sub_le (by decide) hm | exact partOk_bit (sub_bit hm (by decide)) | exact sub_bit hm (by decide) | exact .inr rfl

theorem State.stopPin_touch {msk : Nat} {org : State} (s : State) (hm : sub 0x17fe080000361182000000003080000000000000005000406820008f400002000180000004000000000000000000000000000000000000010400068000000000140400 msk) (hz : Within msk org s) : Within msk org (State.stopPin s) := by
  unfold State.stopPin
  repeat' with_reducible (first | assumption | intro _ | exact partOk_refl _ _ _ | apply State.setFld_touch | apply State.setFbit_touch | apply State.stopEvents_touch | apply State.valvesStop_touch | apply State.lsStop_touch | apply State.foStop_touch | apply State.loopsStop_touch | apply State.commandClosed_touch | apply State.stopRecord_touch | apply within_ite | apply within_ite_fst | apply rows_ite | apply rows_if | apply within_foldl | apply within_foldl_fst | split | (dsimp only; split) | apply within_mk)
  all_goals try with_reducible (first | refine in_LS_STATUS_STOP ?_ | refine in_RES_STATE_STOP_SRC ?_ | refine in_RES_STATE_STOP ?_)
  all_goals first | exact sub_le (by decide) hm | exact partOk_bit (sub_bit hm (by decide)) | exact sub_bit hm (by decide) | exact in_LS_STATUS_STOP (sub_bit hm (by decide)) | exact in_RES_STATE_STOP_SRC (sub_bit hm (by decide)) | exact in_RES_STATE_STOP (sub_bit hm (by decide)) | exact .inr rfl

theorem State.stopHalt_touch {msk : Nat} {org : State} (s : State) (src port ctx ident : Nat) (hm : sub 0x17fe080000361182000000003080000000000000005000406800008f400002000180000004000000000000000000000000000000000000010400068000000000140400 msk) (hz : Within msk org s) : Within msk org (State.stopHalt s src port ctx ident) := by
  unfold State.stopHalt
  repeat' with_reducible (first | assumption | intro _ | exact partOk_refl _ _ _ | apply State.setFld_touch | apply State.setFbit_touch | apply State.stopEvents_touch | apply State.valvesSafe_touch | apply State.lsHalt_touch | apply State.foHalt_touch | apply State.loopsStop_touch | apply State.commandClosed_touch | apply State.stopRecord_touch | apply State.ident_touch | apply within_ite | apply within_ite_fst | apply rows_ite | apply rows_if | apply within_foldl | apply within_foldl_fst | split | (dsimp only; split) | apply within_mk)
  all_goals try with_reducible (first | refine in_RES_STATE_STOP_SRC ?_ | refine in_RES_STATE_STOP ?_)
  all_goals first | exact sub_le (by decide) hm | exact partOk_bit (sub_bit hm (by decide)) | exact sub_bit hm (by decide) | exact in_RES_STATE_STOP_SRC (sub_bit hm (by decide)) | exact in_RES_STATE_STOP (sub_bit hm (by decide)) | exact .inr rfl

theorem State.releaseUnits_touch {msk : Nat} {org : State} (s : State) (hm : sub 0xf00000000000000000000000000000000000000000000000000000000000000000000004000000000000000000000000000000000000000000000000000000000000 msk) (hz : Within msk org s) : Within msk org (State.releaseUnits s) := by
  unfold State.releaseUnits
  repeat' with_reducible (first | assumption | intro _ | exact partOk_refl _ _ _ | apply State.valvesRelease_touch | apply State.linksRelease_touch | apply State.commandClosed_touch | apply within_ite | apply within_ite_fst | apply rows_ite | apply rows_if | apply within_foldl | apply within_foldl_fst | split | (dsimp only; split) | apply within_mk)
  all_goals first | exact sub_le (by decide) hm | exact partOk_bit (sub_bit hm (by decide)) | exact sub_bit hm (by decide) | exact .inr rfl

theorem State.released_touch {msk : Nat} {org : State} (s : State) (held : Bool) (ctx : Nat) (hm : sub 0x60000003611820000000050800000000000000000000000000000000000000000000000000000000000000000000000000000000000000000000000000000000000 msk) (hz : Within msk org s) : Within msk org (State.released s held ctx) := by
  unfold State.released
  repeat' with_reducible (first | assumption | intro _ | exact partOk_refl _ _ _ | apply State.raise_touch | apply State.canvas_touch | apply within_ite | apply within_ite_fst | apply rows_ite | apply rows_if | apply within_foldl | apply within_foldl_fst | split | (dsimp only; split) | apply within_mk)
  all_goals try with_reducible (first | refine in_RES_EVENT_RELEASED ?_)
  all_goals first | exact sub_le (by decide) hm | exact partOk_bit (sub_bit hm (by decide)) | exact sub_bit hm (by decide) | exact in_RES_EVENT_RELEASED (sub_bit hm (by decide)) | exact .inr rfl

theorem State.stopRelease_touch {msk : Nat} {org : State} (s : State) (ctx : Nat) (hm : sub 0x3fe0800003611820000000070800000000000000010004040000009000000000000000004000000000000000000000000000000000000000400068000000000000000 msk) (hz : Within msk org s) : Within msk org (State.stopRelease s ctx) := by
  unfold State.stopRelease
  repeat' with_reducible (first | assumption | intro _ | exact partOk_refl _ _ _ | apply State.setFld_touch | apply State.lsRelease_touch | apply State.foRelease_touch | apply State.loopsRelease_touch | apply State.releaseUnits_touch | apply State.released_touch | apply within_ite | apply within_ite_fst | apply rows_ite | apply rows_if | apply within_foldl | apply within_foldl_fst | split | (dsimp only; split) | apply within_mk)
  all_goals try with_reducible (first | refine in_RES_STATE_STOP_SRC ?_ | refine in_RES_STATE_STOP ?_)
  all_goals first | exact sub_le (by decide) hm | exact partOk_bit (sub_bit hm (by decide)) | exact sub_bit hm (by decide) | exact in_RES_STATE_STOP_SRC (sub_bit hm (by decide)) | exact in_RES_STATE_STOP (sub_bit hm (by decide)) | exact .inr rfl

theorem State.stopAuto_touch {msk : Nat} {org : State} (s : State) (hm : sub 0x13fe0800003611820000000070800000000000000010004040000009000000000000000004000000000000000000000000000000000000000400068000000000000000 msk) (hz : Within msk org s) : Within msk org (State.stopAuto s) := by
  unfold State.stopAuto
  repeat' with_reducible (first | assumption | intro _ | exact partOk_refl _ _ _ | apply State.stopRelease_touch | apply within_ite | apply within_ite_fst | apply rows_ite | apply rows_if | apply within_foldl | apply within_foldl_fst | split | (dsimp only; split) | apply within_mk)
  all_goals first | exact sub_le (by decide) hm | exact partOk_bit (sub_bit hm (by decide)) | exact sub_bit hm (by decide) | exact .inr rfl

theorem State.stopPinHigh_touch {msk : Nat} {org : State} (s : State) (hm : sub 0x13fe0800003611820000000070800000000000000010004040200009000000000000000004000000000000000000000000000000000000000400068000000000000000 msk) (hz : Within msk org s) : Within msk org (State.stopPinHigh s) := by
  unfold State.stopPinHigh
  repeat' with_reducible (first | assumption | intro _ | exact partOk_refl _ _ _ | apply State.setFld_touch | apply State.stopAuto_touch | apply within_ite | apply within_ite_fst | apply rows_ite | apply rows_if | apply within_foldl | apply within_foldl_fst | split | (dsimp only; split) | apply within_mk)
  all_goals try with_reducible (first | refine in_LS_STATUS_STOP ?_)
  all_goals first | exact sub_le (by decide) hm | exact partOk_bit (sub_bit hm (by decide)) | exact sub_bit hm (by decide) | exact in_LS_STATUS_STOP (sub_bit hm (by decide)) | exact .inr rfl

theorem State.stopReleaseCmd_touch {msk : Nat} {org : State} (s : State) (ctx : Nat) (hm : sub 0x3fe0800003611820000000070800000000000000010004040000009000000000000000004000000000000000000000000000000000000000400068000000000000000 msk) (hz : Within msk org s) : Within msk org (State.stopReleaseCmd s ctx) := by
  unfold State.stopReleaseCmd
  repeat' with_reducible (first | assumption | intro _ | exact partOk_refl _ _ _ | apply State.raise_touch | apply State.stopRelease_touch | apply within_ite | apply within_ite_fst | apply rows_ite | apply rows_if | apply within_foldl | apply within_foldl_fst | split | (dsimp only; split) | apply within_mk)
  all_goals try with_reducible (first | refine in_RES_EVENT_CFG_ERR ?_)
  all_goals first | exact sub_le (by decide) hm | exact partOk_bit (sub_bit hm (by decide)) | exact sub_bit hm (by decide) | exact in_RES_EVENT_CFG_ERR (sub_bit hm (by decide)) | exact .inr rfl

theorem State.holdSafe_touch {msk : Nat} {org : State} (s : State) (cause first second : Nat) (hm : sub 0x17fe0800003611820000001c7080000000000000005000406800008f400002000180000004000000000000000000000000000000000000010400068000000000140400 msk) (hz : Within msk org s) : Within msk org (State.holdSafe s cause first second) := by
  unfold State.holdSafe
  repeat' with_reducible (first | assumption | intro _ | exact partOk_refl _ _ _ | apply State.setFld_touch | apply State.setReg64_touch | apply State.raise_touch | apply State.stopEvents_touch | apply State.valvesSafe_touch | apply State.lsSafe_touch | apply State.foSafe_touch | apply State.loopsHeld_touch | apply State.commandClosed_touch | apply State.canvas_touch | apply within_ite | apply within_ite_fst | apply rows_ite | apply rows_if | apply within_foldl | apply within_foldl_fst | split | (dsimp only; split) | apply within_mk)
  all_goals try with_reducible (first | refine has_RES_HSFT_LO ?_ | refine has_RES_HSFT_HI ?_ | refine in_RES_HSCAUSE_CAUSE ?_ | refine in_RES_STATE_HELD_SAFE ?_ | refine in_RES_EVENT_HELD_SAFE ?_)
  all_goals first | exact sub_le (by decide) hm | exact partOk_bit (sub_bit hm (by decide)) | exact sub_bit hm (by decide) | exact has_RES_HSFT_LO (sub_bit hm (by decide)) | exact has_RES_HSFT_HI (sub_bit hm (by decide)) | exact in_RES_HSCAUSE_CAUSE (sub_bit hm (by decide)) | exact in_RES_STATE_HELD_SAFE (sub_bit hm (by decide)) | exact in_RES_EVENT_HELD_SAFE (sub_bit hm (by decide)) | exact .inr rfl

theorem State.heldRelease_touch {msk : Nat} {org : State} (s : State) (ctx : Nat) (hm : sub 0x3fe0800003611820000000070800000000000000010004040000009000000000000000004000000000000000000000000000000000000000400068000000000000000 msk) (hz : Within msk org s) : Within msk org (State.heldRelease s ctx) := by
  unfold State.heldRelease
  repeat' with_reducible (first | assumption | intro _ | exact partOk_refl _ _ _ | apply State.setFld_touch | apply State.lsRelease_touch | apply State.foRelease_touch | apply State.loopsRelease_touch | apply State.releaseUnits_touch | apply State.released_touch | apply within_ite | apply within_ite_fst | apply rows_ite | apply rows_if | apply within_foldl | apply within_foldl_fst | split | (dsimp only; split) | apply within_mk)
  all_goals try with_reducible (first | refine in_RES_STATE_HELD_SAFE ?_)
  all_goals first | exact sub_le (by decide) hm | exact partOk_bit (sub_bit hm (by decide)) | exact sub_bit hm (by decide) | exact in_RES_STATE_HELD_SAFE (sub_bit hm (by decide)) | exact .inr rfl

theorem State.doorbell_touch {msk : Nat} {org : State} (s : State) (p ctx v : Nat) (hm : sub 0x17fe080000361182000000003080002000000000005000406800008f400002000180000004000000000000000000000000000000000000010400068000000000140400 msk) (hz : Within msk org s) : Within msk org (State.doorbell s p ctx v) := by
  unfold State.doorbell
  repeat' with_reducible (first | assumption | intro _ | exact partOk_refl _ _ _ | apply State.raiseBit_touch | apply State.stopHalt_touch | apply State.raise_touch | apply within_ite | apply within_ite_fst | apply rows_ite | apply rows_if | apply within_foldl | apply within_foldl_fst | split | (dsimp only; split) | apply within_mk)
  all_goals try with_reducible (first | refine in_HP_EVENT_HALT ?_ | refine in_HP_EVENT_HALT_REJ ?_)
  all_goals first | exact sub_le (by decide) hm | exact partOk_bit (sub_bit hm (by decide)) | exact sub_bit hm (by decide) | exact in_HP_EVENT_HALT (sub_bit hm (by decide)) | exact in_HP_EVENT_HALT_REJ (sub_bit hm (by decide)) | exact .inr rfl

theorem State.haltFrame_touch {msk : Nat} {org : State} (s : State) (p : Nat) (f : BusFrame) (hm : sub 0x17fe080000361182000000003080000000000400405000406800008f400002000180000004000000000000000000000000000000000000010400068000000000140400 msk) (hz : Within msk org s) : Within msk org (State.haltFrame s p f) := by
  unfold State.haltFrame
  repeat' with_reducible (first | assumption | intro _ | exact partOk_refl _ _ _ | apply State.bump_touch | apply State.raiseBit_touch | apply State.stopHalt_touch | apply within_ite | apply within_ite_fst | apply rows_ite | apply rows_if | apply within_foldl | apply within_foldl_fst | split | (dsimp only; split) | apply within_mk)
  all_goals try with_reducible (first | refine in_BP_CNT_G_HALT_N ?_ _ | refine in_BUS_EVENT_HALT ?_)
  all_goals first | exact sub_le (by decide) hm | exact partOk_bit (sub_bit hm (by decide)) | exact sub_bit hm (by decide) | exact in_BP_CNT_G_HALT_N (sub_bit hm (by decide)) _ | exact in_BUS_EVENT_HALT (sub_bit hm (by decide)) | exact .inr rfl

theorem State.resendModes_touch {msk : Nat} {org : State} (s : State) (hm : sub 0x400000000000000000000000000000000000000000000000000000000000000000000000000000000000000000000000000000000000000000000000000000000000 msk) (hz : Within msk org s) : Within msk org (State.resendModes s) := by
  unfold State.resendModes
  repeat' with_reducible (first | assumption | intro _ | exact partOk_refl _ _ _ | apply State.setLink_touch | apply within_ite | apply within_ite_fst | apply rows_ite | apply rows_if | apply within_foldl | apply within_foldl_fst | split | (dsimp only; split) | apply within_mk)
  all_goals first | exact sub_le (by decide) hm | exact partOk_bit (sub_bit hm (by decide)) | exact sub_bit hm (by decide) | exact .inr rfl

theorem State.takeoverBegins_touch {msk : Nat} {org : State} (s : State) (lane checker unit : Nat) (retry : Bool) (hm : sub 0x18450000000000000000004070800000000000000000000000000000000000000000000000000000000000000000000000020000000000000000000000010000000000 msk) (hz : Within msk org s) : Within msk org (State.takeoverBegins s lane checker unit retry) := by
  unfold State.takeoverBegins
  repeat' with_reducible (first | assumption | intro _ | exact partOk_refl _ _ _ | apply State.setFld_touch | apply State.bump_touch | apply State.raise_touch | apply State.coastAll_touch | apply State.resendModes_touch | apply within_ite | apply within_ite_fst | apply rows_ite | apply rows_if | apply within_foldl | apply within_foldl_fst | split | (dsimp only; split) | apply within_mk)
  all_goals try with_reducible (first | refine in_RES_EVENT_TAKEOVER ?_ | refine in_RES_CNT_A_TAKEOVER_N ?_ | refine in_laneFld ?_ ?_ _ | refine in_RES_STATE_STATE ?_ | refine in_IMG_EVENT_REPLAYED ?_)
  all_goals first | exact sub_le (by decide) hm | exact partOk_bit (sub_bit hm (by decide)) | exact sub_bit hm (by decide) | exact in_RES_EVENT_TAKEOVER (sub_bit hm (by decide)) | exact in_RES_CNT_A_TAKEOVER_N (sub_bit hm (by decide)) | exact in_laneFld (sub_bit hm (by decide)) (sub_bit hm (by decide)) _ | exact in_RES_STATE_STATE (sub_bit hm (by decide)) | exact in_IMG_EVENT_REPLAYED (sub_bit hm (by decide)) | exact .inr rfl

theorem State.mergeLate_touch {msk : Nat} {org : State} (s : State) (hm : sub 0x40800000000000000000010800000000000000000000000000000000022000000000000000000000000000000000000000000000000000000000000000000000000 msk) (hz : Within msk org s) : Within msk org (State.mergeLate s) := by
  unfold State.mergeLate
  repeat' with_reducible (first | assumption | intro _ | exact partOk_refl _ _ _ | apply State.tick_touch | apply State.bump_touch | apply State.raiseIf_touch | apply within_ite | apply within_ite_fst | apply rows_ite | apply rows_if | apply within_foldl | apply within_foldl_fst | split | (dsimp only; split) | apply within_mk)
  all_goals try with_reducible (first | refine in_LP_EVENT_MERGE_LATE ?_ | refine in_LP_MERGE_MERGE_N ?_)
  all_goals first | exact sub_le (by decide) hm | exact partOk_bit (sub_bit hm (by decide)) | exact sub_bit hm (by decide) | exact in_LP_EVENT_MERGE_LATE (sub_bit hm (by decide)) | exact in_LP_MERGE_MERGE_N (sub_bit hm (by decide)) | exact .inr rfl

theorem State.nameLane_touch {msk : Nat} {org : State} (s : State) (lane checker unit : Nat) (hm : sub 0x200000000000000000000000000000000000000000000000000000000000000000000000000000000000000000000000000000000000000 msk) (hz : Within msk org s) : Within msk org (State.nameLane s lane checker unit) := by
  unfold State.nameLane
  repeat' with_reducible (first | assumption | intro _ | exact partOk_refl _ _ _ | apply State.setFld_touch | apply within_ite | apply within_ite_fst | apply rows_ite | apply rows_if | apply within_foldl | apply within_foldl_fst | split | (dsimp only; split) | apply within_mk)
  all_goals try with_reducible (first | refine in_RES_CAUSE_UNIT ?_ | refine in_RES_CAUSE_CHECKER ?_ | refine in_RES_CAUSE_LANE ?_)
  all_goals first | exact sub_le (by decide) hm | exact partOk_bit (sub_bit hm (by decide)) | exact sub_bit hm (by decide) | exact in_RES_CAUSE_UNIT (sub_bit hm (by decide)) | exact in_RES_CAUSE_CHECKER (sub_bit hm (by decide)) | exact in_RES_CAUSE_LANE (sub_bit hm (by decide)) | exact .inr rfl

theorem State.eccLog_touch {msk : Nat} {org : State} (s : State) (mem place copy addr : Nat) (hm : sub 0x60000003611820000068050800000000000000000000000000000000000000000000000000000000000000000000000000000000000000000000000000000000000 msk) (hz : Within msk org s) : Within msk org (State.eccLog s mem place copy addr) := by
  unfold State.eccLog
  repeat' with_reducible (first | assumption | intro _ | exact partOk_refl _ _ _ | apply State.setFld_touch | apply State.bump_touch | apply State.raise_touch | apply State.canvas_touch | apply within_ite | apply within_ite_fst | apply rows_ite | apply rows_if | apply within_foldl | apply within_foldl_fst | split | (dsimp only; split) | apply within_mk)
  all_goals try with_reducible (first | refine in_RES_ECCADDR_ADDR ?_ | refine in_RES_ECCLOG_COPY ?_ | refine in_RES_ECCLOG_WHERE ?_ | refine in_RES_ECCLOG_MEMORY ?_ | refine in_RES_EVENT_ECC_UNCORR ?_ | refine in_RES_CNT_B_ECC_UNCORR_N ?_)
  all_goals first | exact sub_le (by decide) hm | exact partOk_bit (sub_bit hm (by decide)) | exact sub_bit hm (by decide) | exact in_RES_ECCADDR_ADDR (sub_bit hm (by decide)) | exact in_RES_ECCLOG_COPY (sub_bit hm (by decide)) | exact in_RES_ECCLOG_WHERE (sub_bit hm (by decide)) | exact in_RES_ECCLOG_MEMORY (sub_bit hm (by decide)) | exact in_RES_EVENT_ECC_UNCORR (sub_bit hm (by decide)) | exact in_RES_CNT_B_ECC_UNCORR_N (sub_bit hm (by decide)) | exact .inr rfl

theorem State.laneFault_touch {msk : Nat} {org : State} (s : State) (lane checker unit : Nat) (hm : sub 0x1fff0800003611820000005e7080000000000000005000406800008f400022000180000004000000000000000000000000020000000000010400068000010000140400 msk) (hz : Within msk org s) : Within msk org (State.laneFault s lane checker unit) := by
  unfold State.laneFault
  repeat' with_reducible (first | assumption | intro _ | exact partOk_refl _ _ _ | apply Run.st_touch | apply State.nameLane_touch | apply State.takeoverBegins_touch | apply State.mergeLate_touch | apply State.setFld_touch | apply State.holdSafe_touch | apply within_ite | apply within_ite_fst | apply rows_ite | apply rows_if | apply within_foldl | apply within_foldl_fst | split | (dsimp only; split) | apply within_mk)
  all_goals try with_reducible (first | refine in_RES_STATE_STATE ?_)
  all_goals first | exact sub_le (by decide) hm | exact partOk_bit (sub_bit hm (by decide)) | exact sub_bit hm (by decide) | exact in_RES_STATE_STATE (sub_bit hm (by decide)) | exact .inr rfl

theorem State.laneNamed_touch {msk : Nat} {org : State} (s : State) (lane checker unit mem addr : Nat) (hm : sub 0x1fff080000361182000006de7080000000000000005000406800008f400022000180000004000000000000000000000000020000000000010400068000010000140400 msk) (hz : Within msk org s) : Within msk org (State.laneNamed s lane checker unit mem addr) := by
  unfold State.laneNamed
  repeat' with_reducible (first | assumption | intro _ | exact partOk_refl _ _ _ | apply State.eccLog_touch | apply State.laneFault_touch | apply within_ite | apply within_ite_fst | apply rows_ite | apply rows_if | apply within_foldl | apply within_foldl_fst | split | (dsimp only; split) | apply within_mk)
  all_goals first | exact sub_le (by decide) hm | exact partOk_bit (sub_bit hm (by decide)) | exact sub_bit hm (by decide) | exact .inr rfl

theorem State.laneDisagree_touch {msk : Nat} {org : State} (s : State) (hm : sub 0x17fe0800003611820000001c7080000000000000005000406800008f400002000180000004000000000000000000000000000000000000010400068000000000140400 msk) (hz : Within msk org s) : Within msk org (State.laneDisagree s) := by
  unfold State.laneDisagree
  repeat' with_reducible (first | assumption | intro _ | exact partOk_refl _ _ _ | apply State.holdSafe_touch | apply within_ite | apply within_ite_fst | apply rows_ite | apply rows_if | apply within_foldl | apply within_foldl_fst | split | (dsimp only; split) | apply within_mk)
  all_goals first | exact sub_le (by decide) hm | exact partOk_bit (sub_bit hm (by decide)) | exact sub_bit hm (by decide) | exact .inr rfl

theorem State.laneTested_touch {msk : Nat} {org : State} (s : State) (pass : Bool) (hm : sub 0x10040000000000000000004070800000000000000000000000000000000000000000000000000000000000000000000000000000000000000000000000000000000000 msk) (hz : Within msk org s) : Within msk org (State.laneTested s pass) := by
  unfold State.laneTested
  repeat' with_reducible (first | assumption | intro _ | exact partOk_refl _ _ _ | apply State.setFld_touch | apply State.raise_touch | apply State.bump_touch | apply within_ite | apply within_ite_fst | apply rows_ite | apply rows_if | apply within_foldl | apply within_foldl_fst | split | (dsimp only; split) | apply within_mk)
  all_goals try with_reducible (first | refine in_laneFld ?_ ?_ _ | refine in_RES_EVENT_FENCED ?_ | refine in_RES_CNT_A_FENCE_N ?_)
  all_goals first | exact sub_le (by decide) hm | exact partOk_bit (sub_bit hm (by decide)) | exact sub_bit hm (by decide) | exact in_laneFld (sub_bit hm (by decide)) (sub_bit hm (by decide)) _ | exact in_RES_EVENT_FENCED (sub_bit hm (by decide)) | exact in_RES_CNT_A_FENCE_N (sub_bit hm (by decide)) | exact .inr rfl

theorem State.laneCopied_touch {msk : Nat} {org : State} (s : State) (hm : sub 0x10000000000000000000000000000000000000000000000000000000000000000000000000000000000000000000000000000000000000000000000000000000000000 msk) (hz : Within msk org s) : Within msk org (State.laneCopied s) := by
  unfold State.laneCopied
  repeat' with_reducible (first | assumption | intro _ | exact partOk_refl _ _ _ | apply within_ite | apply within_ite_fst | apply rows_ite | apply rows_if | apply within_foldl | apply within_foldl_fst | split | (dsimp only; split) | apply within_mk)
  all_goals first | exact sub_le (by decide) hm | exact partOk_bit (sub_bit hm (by decide)) | exact sub_bit hm (by decide) | exact .inr rfl

theorem State.passItem_touch {msk : Nat} {org : State} (s : State) (x : HeldItem) (hm : sub 0x49e0000003611020000000010800000000003040100208000000009000000300000000000000000004600000000000000000000001800000400068000000000140400 msk) (hz : Within msk org s) : Within msk org (State.passItem s x) := by
  unfold State.passItem
  repeat' with_reducible (first | assumption | intro _ | exact partOk_refl _ _ _ | apply State.passFrame_touch | apply State.cosBit_touch | apply State.foSeal_touch | apply State.rxFrame_touch | apply within_ite | apply within_ite_fst | apply rows_ite | apply rows_if | apply within_foldl | apply within_foldl_fst | split | (dsimp only; split) | apply within_mk)
  all_goals first | exact sub_le (by decide) hm | exact partOk_bit (sub_bit hm (by decide)) | exact sub_bit hm (by decide) | exact .inr rfl

theorem State.passAll_touch {msk : Nat} {org : State} (s : State) (hm : sub 0x149e8000003611020000000010810000000003040100208000000009000000300000000000000000004600000000000000000000001800000400068000000000140620 msk) (hz : Within msk org s) : Within msk org (State.passAll s) := by
  unfold State.passAll
  repeat' with_reducible (first | assumption | intro _ | exact partOk_refl _ _ _ | apply State.passItem_touch | apply State.releaseObs_touch | apply State.completeLater_touch | apply within_ite | apply within_ite_fst | apply rows_ite | apply rows_if | apply within_foldl | apply within_foldl_fst | split | (dsimp only; split) | apply within_mk)
  all_goals first | exact sub_le (by decide) hm | exact partOk_bit (sub_bit hm (by decide)) | exact sub_bit hm (by decide) | exact .inr rfl

theorem State.takeoverEnds_touch {msk : Nat} {org : State} (s : State) (hm : sub 0x149e8000003611820000002070810000000003040100208000000009000000300000000000000000004600000000000000020000001800000400068000000000140620 msk) (hz : Within msk org s) : Within msk org (State.takeoverEnds s) := by
  unfold State.takeoverEnds
  repeat' with_reducible (first | assumption | intro _ | exact partOk_refl _ _ _ | apply State.setFld_touch | apply State.raise_touch | apply State.canvas_touch | apply State.passAll_touch | apply State.coastAll_touch | apply within_ite | apply within_ite_fst | apply rows_ite | apply rows_if | apply within_foldl | apply within_foldl_fst | split | (dsimp only; split) | apply within_mk)
  all_goals try with_reducible (first | refine in_RES_EVENT_RECOVERED ?_ | refine in_laneFld ?_ ?_ _ | refine in_RES_STATE_STATE ?_ | refine in_RES_TIMES_MAX ?_ | refine in_RES_TIMES_LAST ?_)
  all_goals first | exact sub_le (by decide) hm | exact partOk_bit (sub_bit hm (by decide)) | exact sub_bit hm (by decide) | exact in_RES_EVENT_RECOVERED (sub_bit hm (by decide)) | exact in_laneFld (sub_bit hm (by decide)) (sub_bit hm (by decide)) _ | exact in_RES_STATE_STATE (sub_bit hm (by decide)) | exact in_RES_TIMES_MAX (sub_bit hm (by decide)) | exact in_RES_TIMES_LAST (sub_bit hm (by decide)) | exact .inr rfl

theorem State.laneRetry_touch {msk : Nat} {org : State} (s : State) (hm : sub 0x18450000000000000000004070800000000000000000000000000000000000000000000000000000000000000000000000020000000000000000000000010000000000 msk) (hz : Within msk org s) : Within msk org (State.laneRetry s) := by
  unfold State.laneRetry
  repeat' with_reducible (first | assumption | intro _ | exact partOk_refl _ _ _ | apply State.takeoverBegins_touch | apply State.raise_touch | apply within_ite | apply within_ite_fst | apply rows_ite | apply rows_if | apply within_foldl | apply within_foldl_fst | split | (dsimp only; split) | apply within_mk)
  all_goals try with_reducible (first | refine in_RES_EVENT_CFG_ERR ?_)
  all_goals first | exact sub_le (by decide) hm | exact partOk_bit (sub_bit hm (by decide)) | exact sub_bit hm (by decide) | exact in_RES_EVENT_CFG_ERR (sub_bit hm (by decide)) | exact .inr rfl

theorem State.fireOut_touch {msk : Nat} {org : State} (s : State) (c : Nat) (hm : sub 0x17fe0800003611820000011c7080000000000000005000406800008f400002000180000004000000000000000000000000000000000000010400068000000000140400 msk) (hz : Within msk org s) : Within msk org (State.fireOut s c) := by
  unfold State.fireOut
  repeat' with_reducible (first | assumption | intro _ | exact partOk_refl _ _ _ | apply State.setFbit_touch | apply State.bump_touch | apply State.raise_touch | apply State.holdSafe_touch | apply within_ite | apply within_ite_fst | apply rows_ite | apply rows_if | apply within_foldl | apply within_foldl_fst | split | (dsimp only; split) | apply within_mk)
  all_goals try with_reducible (first | refine in_RES_EVENT_FIRE_COPY ?_ | refine in_RES_CNT_C_FIRE_COPY_N ?_ | refine in_RES_STATE_FIRE_OK ?_)
  all_goals first | exact sub_le (by decide) hm | exact partOk_bit (sub_bit hm (by decide)) | exact sub_bit hm (by decide) | exact in_RES_EVENT_FIRE_COPY (sub_bit hm (by decide)) | exact in_RES_CNT_C_FIRE_COPY_N (sub_bit hm (by decide)) | exact in_RES_STATE_FIRE_OK (sub_bit hm (by decide)) | exact .inr rfl

theorem State.fireCompare_touch {msk : Nat} {org : State} (s : State) (differs ecc addr : Nat) (hm : sub 0x17fe0800003611820000079c7080000000000000005000406800008f400002000180000004000000000000000000000000000000000000010400068000000000140400 msk) (hz : Within msk org s) : Within msk org (State.fireCompare s differs ecc addr) := by
  unfold State.fireCompare
  repeat' with_reducible (first | assumption | intro _ | exact partOk_refl _ _ _ | apply State.eccLog_touch | apply State.fireOut_touch | apply within_ite | apply within_ite_fst | apply rows_ite | apply rows_if | apply within_foldl | apply within_foldl_fst | split | (dsimp only; split) | apply within_mk)
  all_goals first | exact sub_le (by decide) hm | exact partOk_bit (sub_bit hm (by decide)) | exact sub_bit hm (by decide) | exact .inr rfl

theorem State.fireReloaded_touch {msk : Nat} {org : State} (s : State) (c : Nat) (ok : Bool) (hm : sub 0x10060000003611820000000030800000000000000000000000000000000000000000000000000000000000000000000000000000000000000000000000000000000000 msk) (hz : Within msk org s) : Within msk org (State.fireReloaded s c ok) := by
  unfold State.fireReloaded
  repeat' with_reducible (first | assumption | intro _ | exact partOk_refl _ _ _ | apply State.reloadSlots_touch | apply State.setFbit_touch | apply State.canvas_touch | apply within_ite | apply within_ite_fst | apply rows_ite | apply rows_if | apply within_foldl | apply within_foldl_fst | split | (dsimp only; split) | apply within_mk)
  all_goals try with_reducible (first | refine in_RES_STATE_FIRE_FENCED ?_ | refine in_RES_STATE_FIRE_OK ?_)
  all_goals first | exact sub_le (by decide) hm | exact partOk_bit (sub_bit hm (by decide)) | exact sub_bit hm (by decide) | exact in_RES_STATE_FIRE_FENCED (sub_bit hm (by decide)) | exact in_RES_STATE_FIRE_OK (sub_bit hm (by decide)) | exact .inr rfl

theorem State.fireRetry_touch {msk : Nat} {org : State} (s : State) (hm : sub 0x10000000000000000000000000000000000000000000000000000000000000000000000000000000000000000000000000000000000000000000000000000000000000 msk) (hz : Within msk org s) : Within msk org (State.fireRetry s) := by
  unfold State.fireRetry
  repeat' with_reducible (first | assumption | intro _ | exact partOk_refl _ _ _ | apply State.reloadSlots_touch | apply within_ite | apply within_ite_fst | apply rows_ite | apply rows_if | apply within_foldl | apply within_foldl_fst | split | (dsimp only; split) | apply within_mk)
  all_goals first | exact sub_le (by decide) hm | exact partOk_bit (sub_bit hm (by decide)) | exact sub_bit hm (by decide) | exact .inr rfl

theorem State.setKey_touch {msk : Nat} {org : State} (s : State) (k : Nat) (x : KeySlot) (hm : sub 0x8000000000000000000000000000000000000000000000000000000000000000000000000000000000000000000000000000000000000000000000000004000000000 msk) (hz : Within msk org s) : Within msk org (State.setKey s k x) := by
  unfold State.setKey
  repeat' with_reducible (first | assumption | intro _ | exact partOk_refl _ _ _ | apply State.setFbit_touch | apply within_ite | apply within_ite_fst | apply rows_ite | apply rows_if | apply within_foldl | apply within_foldl_fst | split | (dsimp only; split) | apply within_mk)
  all_goals try with_reducible (first | refine in_IMG_KEY_REVOKED ?_ | refine in_IMG_KEY_PROGRAMMED ?_)
  all_goals first | exact sub_le (by decide) hm | exact partOk_bit (sub_bit hm (by decide)) | exact sub_bit hm (by decide) | exact in_IMG_KEY_REVOKED (sub_bit hm (by decide)) | exact in_IMG_KEY_PROGRAMMED (sub_bit hm (by decide)) | exact .inr rfl

theorem State.retainedBad_touch {msk : Nat} {org : State} (s : State) (word unit : Nat) (hm : sub 0x28068000000000060000000010800000000000000000000000000000000000000000000000000000000000000000000000000000000000000000000000005000000000 msk) (hz : Within msk org s) : Within msk org (State.retainedBad s word unit) := by
  unfold State.retainedBad
  repeat' with_reducible (first | assumption | intro _ | exact partOk_refl _ _ _ | apply State.setFld_touch | apply State.canvas_touch | apply State.bump_touch | apply State.raise_touch | apply State.setKey_touch | apply within_ite | apply within_ite_fst | apply rows_ite | apply rows_if | apply within_foldl | apply within_foldl_fst | split | (dsimp only; split) | apply within_mk)
  all_goals try with_reducible (first | refine in_IMG_BOOT_VALID_A ?_ | refine in_IMG_BOOT_VALID_B ?_ | refine in_REC_EVENT_CORRUPT ?_ | refine in_CV_STATUS_CORRUPT ?_)
  all_goals first | exact sub_le (by decide) hm | exact partOk_bit (sub_bit hm (by decide)) | exact sub_bit hm (by decide) | exact in_IMG_BOOT_VALID_A (sub_bit hm (by decide)) | exact in_IMG_BOOT_VALID_B (sub_bit hm (by decide)) | exact in_REC_EVENT_CORRUPT (sub_bit hm (by decide)) | exact in_CV_STATUS_CORRUPT (sub_bit hm (by decide)) | exact .inr rfl

theorem State.scrubError_touch {msk : Nat} {org : State} (s : State) (mem : Nat) (e : ScrubIn) (hm : sub 0x3fffc80000361186000007de7080000000000000005000406800008f4000220001800000040000000000000000000000009e0000000000010600068104015000140400 msk) (hz : Within msk org s) : Within msk org (State.scrubError s mem e) := by
  unfold State.scrubError
  repeat' with_reducible (first | assumption | intro _ | exact partOk_refl _ _ _ | apply State.bump_touch | apply State.muslin_touch | apply State.eccLog_touch | apply State.laneFault_touch | apply State.fireOut_touch | apply State.bankFault_touch | apply State.tileBad_touch | apply State.retainedBad_touch | apply within_ite | apply within_ite_fst | apply rows_ite | apply rows_if | apply within_foldl | apply within_foldl_fst | split | (dsimp only; split) | apply within_mk)
  all_goals try with_reducible (first | refine in_RES_CNT_B_ECC_CORR_N ?_)
  all_goals first | exact sub_le (by decide) hm | exact partOk_bit (sub_bit hm (by decide)) | exact sub_bit hm (by decide) | exact in_RES_CNT_B_ECC_CORR_N (sub_bit hm (by decide)) | exact .inr rfl

theorem State.scrub_touch {msk : Nat} {org : State} (s : State) (mem : Nat) (es : List ScrubIn) (hm : sub 0x3fffc80000361186000007de7080000000000000005000406800008f4000220001800000040000000000000000000000009e0000000000010600068104015000140400 msk) (hz : Within msk org s) : Within msk org (State.scrub s mem es) := by
  unfold State.scrub
  repeat' with_reducible (first | assumption | intro _ | exact partOk_refl _ _ _ | apply State.scrubError_touch | apply within_ite | apply within_ite_fst | apply rows_ite | apply rows_if | apply within_foldl | apply within_foldl_fst | split | (dsimp only; split) | apply within_mk)
  all_goals first | exact sub_le (by decide) hm | exact partOk_bit (sub_bit hm (by decide)) | exact sub_bit hm (by decide) | exact .inr rfl

theorem State.pathLost_touch {msk : Nat} {org : State} (s : State) (d : Nat) (hm : sub 0x60000003611820000010070800000000000000000000000000000000000000000000000000000000000000000000000000000000000000000000000000000000000 msk) (hz : Within msk org s) : Within msk org (State.pathLost s d) := by
  unfold State.pathLost
  repeat' with_reducible (first | assumption | intro _ | exact partOk_refl _ _ _ | apply State.setFbit_touch | apply State.bump_touch | apply State.raise_touch | apply State.canvas_touch | apply within_ite | apply within_ite_fst | apply rows_ite | apply rows_if | apply within_foldl | apply within_foldl_fst | split | (dsimp only; split) | apply within_mk)
  all_goals try with_reducible (first | refine in_RES_EVENT_DIE_PATH ?_ | refine in_RES_CNT_C_PATH_N ?_ | refine in_RES_STATE_DIE_PATH ?_)
  all_goals first | exact sub_le (by decide) hm | exact partOk_bit (sub_bit hm (by decide)) | exact sub_bit hm (by decide) | exact in_RES_EVENT_DIE_PATH (sub_bit hm (by decide)) | exact in_RES_CNT_C_PATH_N (sub_bit hm (by decide)) | exact in_RES_STATE_DIE_PATH (sub_bit hm (by decide)) | exact .inr rfl

theorem State.dieLost_touch {msk : Nat} {org : State} (s : State) (d : Nat) (hm : sub 0x26000000361182000000005080000000000000000000000020000000000000000000000c000000300000000000000000000000000000000000000000000000000000 msk) (hz : Within msk org s) : Within msk org (State.dieLost s d) := by
  unfold State.dieLost
  repeat' with_reducible (first | assumption | intro _ | exact partOk_refl _ _ _ | apply State.setFld_touch | apply State.driveDieLost_touch | apply State.raise_touch | apply State.canvas_touch | apply within_ite | apply within_ite_fst | apply rows_ite | apply rows_if | apply within_foldl | apply within_foldl_fst | split | (dsimp only; split) | apply within_mk)
  all_goals try with_reducible (first | refine in_LS_STATUS_SW_LINK ?_ | refine in_RES_EVENT_DIE_LINK ?_)
  all_goals first | exact sub_le (by decide) hm | exact partOk_bit (sub_bit hm (by decide)) | exact sub_bit hm (by decide) | exact in_LS_STATUS_SW_LINK (sub_bit hm (by decide)) | exact in_RES_EVENT_DIE_LINK (sub_bit hm (by decide)) | exact .inr rfl

theorem State.dieHandshake_touch {msk : Nat} {org : State} (s : State) (d : Nat) (hm : sub 0x200000000000000000000020000000000000000000000000200000000000000000000004000000100000000000000000000000000000000000000000000000000000 msk) (hz : Within msk org s) : Within msk org (State.dieHandshake s d) := by
  unfold State.dieHandshake
  repeat' with_reducible (first | assumption | intro _ | exact partOk_refl _ _ _ | apply State.setFld_touch | apply State.setFbit_touch | apply State.driveDieUp_touch | apply within_ite | apply within_ite_fst | apply rows_ite | apply rows_if | apply within_foldl | apply within_foldl_fst | split | (dsimp only; split) | apply within_mk)
  all_goals try with_reducible (first | refine in_RES_STATE_DIE_PATH ?_ | refine in_LS_STATUS_SW_LINK ?_)
  all_goals first | exact sub_le (by decide) hm | exact partOk_bit (sub_bit hm (by decide)) | exact sub_bit hm (by decide) | exact in_RES_STATE_DIE_PATH (sub_bit hm (by decide)) | exact in_LS_STATUS_SW_LINK (sub_bit hm (by decide)) | exact .inr rfl

theorem State.refRecord_touch {msk : Nat} {org : State} (s : State) (g what : Nat) (hm : sub 0x60000003611820000000010800000000000000000000000000000000000000000000000000000000000000000000000000000000000000000000000000000000000 msk) (hz : Within msk org s) : Within msk org (State.refRecord s g what) := by
  unfold State.refRecord
  repeat' with_reducible (first | assumption | intro _ | exact partOk_refl _ _ _ | apply State.canvasWith_touch | apply within_ite | apply within_ite_fst | apply rows_ite | apply rows_if | apply within_foldl | apply within_foldl_fst | split | (dsimp only; split) | apply within_mk)
  all_goals first | exact sub_le (by decide) hm | exact partOk_bit (sub_bit hm (by decide)) | exact sub_bit hm (by decide) | exact .inr rfl

theorem State.refCompare_touch {msk : Nat} {org : State} (s : State) (g : Nat) (d01 d0a d1a : Int) (present : Nat) (hm : sub 0x10060000003611820000780050800000000000000000000000000000000000000000000000000000000000000000000000000000000000000000000000000000000000 msk) (hz : Within msk org s) : Within msk org (State.refCompare s g d01 d0a d1a present) := by
  unfold State.refCompare
  repeat' with_reducible (first | assumption | intro _ | exact partOk_refl _ _ _ | apply State.setFld_touch | apply State.setBit_touch | apply State.raiseIf_touch | apply State.refRecord_touch | apply State.raise_touch | apply within_ite | apply within_ite_fst | apply rows_ite | apply rows_if | apply within_foldl | apply within_foldl_fst | split | (dsimp only; split) | apply within_mk)
  all_goals try with_reducible (first | refine in_REF_D1A_D ?_ _ | refine in_REF_D0A_D ?_ _ | refine in_REF_D01_D ?_ _ | refine in_REF_STAT_WARN ?_ _ | refine in_REF_STAT_VOTED ?_ _ | refine in_REF_STAT_IN_VOTE ?_ _ | refine in_REF_STAT_SUSPECT ?_ _ | refine in_REF_STAT_DERATE ?_ _ | refine in_RES_EVENT_REF_WARN ?_ | refine in_RES_EVENT_REF_VOTE ?_ | refine in_RES_EVENT_REF_DERATE ?_)
  all_goals first | exact sub_le (by decide) hm | exact partOk_bit (sub_bit hm (by decide)) | exact sub_bit hm (by decide) | exact in_REF_D1A_D (sub_bit hm (by decide)) _ | exact in_REF_D0A_D (sub_bit hm (by decide)) _ | exact in_REF_D01_D (sub_bit hm (by decide)) _ | exact in_REF_STAT_WARN (sub_bit hm (by decide)) _ | exact in_REF_STAT_VOTED (sub_bit hm (by decide)) _ | exact in_REF_STAT_IN_VOTE (sub_bit hm (by decide)) _ | exact in_REF_STAT_SUSPECT (sub_bit hm (by decide)) _ | exact in_REF_STAT_DERATE (sub_bit hm (by decide)) _ | exact in_RES_EVENT_REF_WARN (sub_bit hm (by decide)) | exact in_RES_EVENT_REF_VOTE (sub_bit hm (by decide)) | exact in_RES_EVENT_REF_DERATE (sub_bit hm (by decide)) | exact .inr rfl

end Sys2Proof.Machine
end

