-- ==== Sys2Proof/Laws/TouchCanvas.lean ====
section
/-! SUPPORT. What each operation of Machine/Canvas.lean may change, as a mask. -/

namespace Sys2Proof.Machine

set_option linter.all false
set_option Elab.async false

theorem State.recErr_touch {msk : Nat} {org : State} (s : State) (hm : sub 0x40000000000020000000010800000000000000000000000000000000000000000000000000000000000000000000000000000000000000000000000000000000000 msk) (hz : Within msk org s) : Within msk org (State.recErr s) := by
  unfold State.recErr
  repeat' with_reducible (first | assumption | intro _ | exact partOk_refl _ _ _ | apply State.raise_touch | apply within_ite | apply within_ite_fst | apply rows_ite | apply rows_if | apply within_foldl | apply within_foldl_fst | split | (dsimp only; split) | apply within_mk)
  all_goals try with_reducible (first | refine in_REC_EVENT_CFG_ERR ?_)
  all_goals first | exact sub_le (by decide) hm | exact partOk_bit (sub_bit hm (by decide)) | exact sub_bit hm (by decide) | exact in_REC_EVENT_CFG_ERR (sub_bit hm (by decide)) | exact .inr rfl

theorem State.storeRecord_touch {msk : Nat} {org : State} (s : State) (r : CvRec) (hm : sub 0x60000003600060000000010800000000000000000000000000000000000000000000000000000000000000000000000000000000000000000000000000000000000 msk) (hz : Within msk org s) : Within msk org (State.storeRecord s r) := by
  unfold State.storeRecord
  repeat' with_reducible (first | assumption | intro _ | exact partOk_refl _ _ _ | apply State.canvas_touch | apply State.setFld_touch | apply State.count_touch | apply within_ite | apply within_ite_fst | apply rows_ite | apply rows_if | apply within_foldl | apply within_foldl_fst | split | (dsimp only; split) | apply within_mk)
  all_goals try with_reducible (first | refine in_CV_STATUS_COUNT ?_)
  all_goals first | exact sub_le (by decide) hm | exact partOk_bit (sub_bit hm (by decide)) | exact sub_bit hm (by decide) | exact in_CV_STATUS_COUNT (sub_bit hm (by decide)) | exact .inr rfl

theorem State.closeCanvas_touch {msk : Nat} {org : State} (s : State) (hm : sub 0x60000003611060000000010800000000000000000000000000000000000000000000000000000000000000000000000000000000000000000000000000000000000 msk) (hz : Within msk org s) : Within msk org (State.closeCanvas s) := by
  unfold State.closeCanvas
  repeat' with_reducible (first | assumption | intro _ | exact partOk_refl _ _ _ | apply State.canvas_touch | apply State.muslinWith_touch | apply State.storeRecord_touch | apply State.setFld_touch | apply State.raise_touch | apply within_ite | apply within_ite_fst | apply rows_ite | apply rows_if | apply within_foldl | apply within_foldl_fst | split | (dsimp only; split) | apply within_mk)
  all_goals try with_reducible (first | refine in_CV_STATUS_FULL ?_ | refine in_REC_EVENT_FULL ?_)
  all_goals first | exact sub_le (by decide) hm | exact partOk_bit (sub_bit hm (by decide)) | exact sub_bit hm (by decide) | exact in_CV_STATUS_FULL (sub_bit hm (by decide)) | exact in_REC_EVENT_FULL (sub_bit hm (by decide)) | exact .inr rfl

theorem State.writeRecord_touch {msk : Nat} {org : State} (s : State) (r : CvRec) (hm : sub 0x600000036110e0000000010800000000000000000000000000000000000000000000000000000000000000000000000000000000000000000000000000000000000 msk) (hz : Within msk org s) : Within msk org (State.writeRecord s r) := by
  unfold State.writeRecord
  repeat' with_reducible (first | assumption | intro _ | exact partOk_refl _ _ _ | apply State.closeCanvas_touch | apply State.bump_touch | apply State.storeRecord_touch | apply within_ite | apply within_ite_fst | apply rows_ite | apply rows_if | apply within_foldl | apply within_foldl_fst | split | (dsimp only; split) | apply within_mk)
  all_goals try with_reducible (first | refine in_CV_DROPPED_DROPPED ?_)
  all_goals first | exact sub_le (by decide) hm | exact partOk_bit (sub_bit hm (by decide)) | exact sub_bit hm (by decide) | exact in_CV_DROPPED_DROPPED (sub_bit hm (by decide)) | exact .inr rfl

theorem State.canvasStep_touch {msk : Nat} {org : State} (s : State) (hm : sub 0x600000036110e0000000010800000000000000000000000000000000000000000000000000000000000000000000000000000000000000000000000000000000000 msk) (hz : Within msk org s) : Within msk org (State.canvasStep s) := by
  unfold State.canvasStep
  repeat' with_reducible (first | assumption | intro _ | exact partOk_refl _ _ _ | apply State.writeRecord_touch | apply within_ite | apply within_ite_fst | apply rows_ite | apply rows_if | apply within_foldl | apply within_foldl_fst | split | (dsimp only; split) | apply within_mk)
  all_goals first | exact sub_le (by decide) hm | exact partOk_bit (sub_bit hm (by decide)) | exact sub_bit hm (by decide) | exact .inr rfl

theorem State.canvasDrain_touch {msk : Nat} {org : State} (s : State) (hm : sub 0x600000036110e0000000010800000000000000000000000000000000000000000000000000000000000000000000000000000000000000000000000000000000000 msk) (hz : Within msk org s) : Within msk org (State.canvasDrain s) := by
  unfold State.canvasDrain
  repeat' with_reducible (first | assumption | intro _ | exact partOk_refl _ _ _ | apply State.writeRecord_touch | apply within_ite | apply within_ite_fst | apply rows_ite | apply rows_if | apply within_foldl | apply within_foldl_fst | split | (dsimp only; split) | apply within_mk)
  all_goals first | exact sub_le (by decide) hm | exact partOk_bit (sub_bit hm (by decide)) | exact sub_bit hm (by decide) | exact .inr rfl

theorem State.canvasRewrite_touch {msk : Nat} {org : State} (s : State) (hm : sub 0x20000000000000000000000000000000000000000000000000000000000000000000000000000000000000000000000000000000000000000000000000000000000 msk) (hz : Within msk org s) : Within msk org (State.canvasRewrite s) := by
  unfold State.canvasRewrite
  repeat' with_reducible (first | assumption | intro _ | exact partOk_refl _ _ _ | apply State.canvas_touch | apply State.take_touch | apply within_ite | apply within_ite_fst | apply rows_ite | apply rows_if | apply within_foldl | apply within_foldl_fst | split | (dsimp only; split) | apply within_mk)
  all_goals first | exact sub_le (by decide) hm | exact partOk_bit (sub_bit hm (by decide)) | exact sub_bit hm (by decide) | exact .inr rfl

theorem State.erase_touch {msk : Nat} {org : State} (s : State) (c v : Nat) (hm : sub 0x60000000000060000000010800000000000000000000000000000000000000000000000000000000000000000000000000000000000000000000000000000000000 msk) (hz : Within msk org s) : Within msk org (State.erase s c v) := by
  unfold State.erase
  repeat' with_reducible (first | assumption | intro _ | exact partOk_refl _ _ _ | apply State.setFld_touch | apply State.recErr_touch | apply within_ite | apply within_ite_fst | apply rows_ite | apply rows_if | apply within_foldl | apply within_foldl_fst | split | (dsimp only; split) | apply within_mk)
  all_goals try with_reducible (first | refine in_CV_STATUS_ERASING ?_)
  all_goals first | exact sub_le (by decide) hm | exact partOk_bit (sub_bit hm (by decide)) | exact sub_bit hm (by decide) | exact in_CV_STATUS_ERASING (sub_bit hm (by decide)) | exact .inr rfl

theorem State.eraseDone_touch {msk : Nat} {org : State} (s : State) (hm : sub 0x600000036118e0000000010800000000000000000000000000000000000000000000000000000000000000000000000000000000000000000000000000000000000 msk) (hz : Within msk org s) : Within msk org (State.eraseDone s) := by
  unfold State.eraseDone
  repeat' with_reducible (first | assumption | intro _ | exact partOk_refl _ _ _ | apply State.canvas_touch | apply State.setFld_touch | apply State.canvasDrain_touch | apply State.raise_touch | apply within_ite | apply within_ite_fst | apply rows_ite | apply rows_if | apply within_foldl | apply within_foldl_fst | split | (dsimp only; split) | apply within_mk)
  all_goals try with_reducible (first | refine in_CV_DROPPED_DROPPED ?_ | refine in_CV_STATUS_CORRUPT ?_ | refine in_CV_STATUS_FULL ?_ | refine in_CV_STATUS_ERASING ?_ | refine in_REC_EVENT_ERASE_DONE ?_)
  all_goals first | exact sub_le (by decide) hm | exact partOk_bit (sub_bit hm (by decide)) | exact sub_bit hm (by decide) | exact in_CV_DROPPED_DROPPED (sub_bit hm (by decide)) | exact in_CV_STATUS_CORRUPT (sub_bit hm (by decide)) | exact in_CV_STATUS_FULL (sub_bit hm (by decide)) | exact in_CV_STATUS_ERASING (sub_bit hm (by decide)) | exact in_REC_EVENT_ERASE_DONE (sub_bit hm (by decide)) | exact .inr rfl

theorem State.eraseCut_touch {msk : Nat} {org : State} (s : State) (hm : sub 0x20800000000040000000000000000000000000000000000000000000000000000000000000000000000000000000000000000000000000000000000000000000000 msk) (hz : Within msk org s) : Within msk org (State.eraseCut s) := by
  unfold State.eraseCut
  repeat' with_reducible (first | assumption | intro _ | exact partOk_refl _ _ _ | apply State.canvas_touch | apply State.tick_touch | apply State.take_touch | apply State.setFld_touch | apply State.setBit_touch | apply within_ite | apply within_ite_fst | apply rows_ite | apply rows_if | apply within_foldl | apply within_foldl_fst | split | (dsimp only; split) | apply within_mk)
  all_goals try with_reducible (first | refine in_CV_STATUS_CORRUPT ?_ | refine in_CV_STATUS_COUNT ?_ | refine in_CV_STATUS_ERASING ?_ | refine in_CV_STATUS_FULL ?_)
  all_goals first | exact sub_le (by decide) hm | exact partOk_bit (sub_bit hm (by decide)) | exact sub_bit hm (by decide) | exact in_CV_STATUS_CORRUPT (sub_bit hm (by decide)) | exact in_CV_STATUS_COUNT (sub_bit hm (by decide)) | exact in_CV_STATUS_ERASING (sub_bit hm (by decide)) | exact in_CV_STATUS_FULL (sub_bit hm (by decide)) | exact .inr rfl

theorem State.brownDrain_touch {msk : Nat} {org : State} (s : State) (hm : sub 0x608000036110e0000000010800000000000000000000000000000000000000000000000000000000000000000000000000000000000000000000000000000000000 msk) (hz : Within msk org s) : Within msk org (State.brownDrain s) := by
  unfold State.brownDrain
  repeat' with_reducible (first | assumption | intro _ | exact partOk_refl _ _ _ | apply State.eraseCut_touch | apply State.muslin_touch | apply State.writeRecord_touch | apply State.canvasDrain_touch | apply within_ite | apply within_ite_fst | apply rows_ite | apply rows_if | apply within_foldl | apply within_foldl_fst | split | (dsimp only; split) | apply within_mk)
  all_goals first | exact sub_le (by decide) hm | exact partOk_bit (sub_bit hm (by decide)) | exact sub_bit hm (by decide) | exact .inr rfl

theorem State.cvData_touch {msk : Nat} {org : State} (s : State) (hm : sub 0x20000000000100000000000000000000000000000000000000000000000000000000000000000000000000000000000000000000000000000000000000000000000 msk) (hz : Within msk org s) : Within msk org (State.cvData s).1 := by
  unfold State.cvData
  repeat' with_reducible (first | assumption | intro _ | exact partOk_refl _ _ _ | apply State.setFld_touch | apply within_ite | apply within_ite_fst | apply rows_ite | apply rows_if | apply within_foldl | apply within_foldl_fst | split | (dsimp only; split) | apply within_mk)
  all_goals try with_reducible (first | refine in_CV_IDX_WORD ?_ | refine in_CV_IDX_RECORD ?_)
  all_goals first | exact sub_le (by decide) hm | exact partOk_bit (sub_bit hm (by decide)) | exact sub_bit hm (by decide) | exact in_CV_IDX_WORD (sub_bit hm (by decide)) | exact in_CV_IDX_RECORD (sub_bit hm (by decide)) | exact .inr rfl

theorem State.muData_touch {msk : Nat} {org : State} (s : State) (hm : sub 0x20000000004000000000000000000000000000000000000000000000000000000000000000000000000000000000000000000000000000000000000000000000000 msk) (hz : Within msk org s) : Within msk org (State.muData s).1 := by
  unfold State.muData
  repeat' with_reducible (first | assumption | intro _ | exact partOk_refl _ _ _ | apply State.muslin_touch | apply State.setFld_touch | apply within_ite | apply within_ite_fst | apply rows_ite | apply rows_if | apply within_foldl | apply within_foldl_fst | split | (dsimp only; split) | apply within_mk)
  all_goals try with_reducible (first | refine in_MU_IDX_WORD ?_)
  all_goals first | exact sub_le (by decide) hm | exact partOk_bit (sub_bit hm (by decide)) | exact sub_bit hm (by decide) | exact in_MU_IDX_WORD (sub_bit hm (by decide)) | exact .inr rfl

theorem State.tagData_touch {msk : Nat} {org : State} (s : State) (w : Option Word) (hm : sub 0x600000000a0020000000010800000000000000000000000000000000000000000000000000000000000000000000000000000000000000000000000000000000000 msk) (hz : Within msk org s) : Within msk org (State.tagData s w).1 := by
  unfold State.tagData
  repeat' with_reducible (first | assumption | intro _ | exact partOk_refl _ _ _ | apply State.setFld_touch | apply State.recErr_touch | apply State.bump_touch | apply within_ite | apply within_ite_fst | apply rows_ite | apply rows_if | apply within_foldl | apply within_foldl_fst | split | (dsimp only; split) | apply within_mk)
  all_goals try with_reducible (first | refine in_TAG_IDX_WORD ?_ | refine in_TAG_WCOUNT_COUNT ?_)
  all_goals first | exact sub_le (by decide) hm | exact partOk_bit (sub_bit hm (by decide)) | exact sub_bit hm (by decide) | exact in_TAG_IDX_WORD (sub_bit hm (by decide)) | exact in_TAG_WCOUNT_COUNT (sub_bit hm (by decide)) | exact .inr rfl

theorem State.pmcRun_touch {msk : Nat} {org : State} (s : State) (b : Bool) (hm : sub 0x100000000000000000000000000000000000000000000000000000000000000000000000000000000000000000000000000000000000000000000000000 msk) (hz : Within msk org s) : Within msk org (State.pmcRun s b) := by
  unfold State.pmcRun
  repeat' with_reducible (first | assumption | intro _ | exact partOk_refl _ _ _ | apply State.setBit_touch | apply within_ite | apply within_ite_fst | apply rows_ite | apply rows_if | apply within_foldl | apply within_foldl_fst | split | (dsimp only; split) | apply within_mk)
  all_goals try with_reducible (first | refine in_PMC_CTRL_RUN ?_)
  all_goals first | exact sub_le (by decide) hm | exact partOk_bit (sub_bit hm (by decide)) | exact sub_bit hm (by decide) | exact in_PMC_CTRL_RUN (sub_bit hm (by decide)) | exact .inr rfl

theorem State.pmcClear_touch {msk : Nat} {org : State} (s : State) (hm : sub 0x3600000000000000000000000000000000000000000000000000000000000000000000000000000000000000000000000000000000000000000000000000 msk) (hz : Within msk org s) : Within msk org (State.pmcClear s) := by
  unfold State.pmcClear
  repeat' with_reducible (first | assumption | intro _ | exact partOk_refl _ _ _ | apply State.setReg_touch | apply within_ite | apply within_ite_fst | apply rows_ite | apply rows_if | apply within_foldl | apply within_foldl_fst | split | (dsimp only; split) | apply within_mk)
  all_goals try with_reducible (first | refine has_PMC_HI ?_ _ | refine has_PMC_LO ?_ _ | refine has_PMC_OVF_HI ?_ | refine has_PMC_OVF_LO ?_)
  all_goals first | exact sub_le (by decide) hm | exact partOk_bit (sub_bit hm (by decide)) | exact sub_bit hm (by decide) | exact has_PMC_HI (sub_bit hm (by decide)) _ | exact has_PMC_LO (sub_bit hm (by decide)) _ | exact has_PMC_OVF_HI (sub_bit hm (by decide)) | exact has_PMC_OVF_LO (sub_bit hm (by decide)) | exact .inr rfl

theorem State.smpWrite_touch {msk : Nat} {org : State} (s : State) (v : Nat) (hm : sub 0x20000014000000000000000000000000000000000000000000000000000000000000000000000000000000000000000000000000000000000000000000000000000 msk) (hz : Within msk org s) : Within msk org (State.smpWrite s v) := by
  unfold State.smpWrite
  repeat' with_reducible (first | assumption | intro _ | exact partOk_refl _ _ _ | apply State.writeCodes_touch | apply State.setReg_touch | apply within_ite | apply within_ite_fst | apply rows_ite | apply rows_if | apply within_foldl | apply within_foldl_fst | split | (dsimp only; split) | apply within_mk)
  all_goals try with_reducible (first | refine has_SMP_CTRL ?_ | refine has_SMP_COUNT ?_)
  all_goals first | exact sub_le (by decide) hm | exact partOk_bit (sub_bit hm (by decide)) | exact sub_bit hm (by decide) | exact has_SMP_CTRL (sub_bit hm (by decide)) | exact has_SMP_COUNT (sub_bit hm (by decide)) | exact .inr rfl

theorem State.rcWrite_touch {msk : Nat} {org : State} (s : State) (c a v : Nat) (hm : sub 0x60000017700060000000010800000000000000000000000000000000000000000000000000000000000000000000000000000000000000000000000000000000000 msk) (ha : RowsHave msk a) (hz : Within msk org s) : Within msk org (State.rcWrite s c a v) := by
  unfold State.rcWrite
  repeat' with_reducible (first | assumption | intro _ | exact partOk_refl _ _ _ | apply State.erase_touch | apply State.pmcRun_touch | apply State.pmcClear_touch | apply State.writeCodes_touch | apply State.recErr_touch | apply State.smpWrite_touch | apply within_ite | apply within_ite_fst | apply rows_ite | apply rows_if | apply within_foldl | apply within_foldl_fst | split | (dsimp only; split) | apply within_mk)
  all_goals first | exact sub_le (by decide) hm | exact partOk_bit (sub_bit hm (by decide)) | exact sub_bit hm (by decide) | exact .inr rfl

end Sys2Proof.Machine
end

