-- ==== Sys2Proof/Laws/TouchHosts.lean ====
section
/-! SUPPORT. What each operation of Machine/Hosts.lean may change, as a mask. -/

namespace Sys2Proof.Machine

set_option linter.all false
set_option Elab.async false

theorem State.take_touch {msk : Nat} {org : State} (s : State) (c : Nat) (hm : sub 0x40000003600020000000010820000000000000000000000000000000000000000000000000000000000000000000000000000000000000000000000000000000080 msk) (hz : Within msk org s) : Within msk org (State.take s c) := by
  unfold State.take
  repeat' with_reducible (first | assumption | intro _ | exact partOk_refl _ _ _ | apply State.setFld_touch | apply State.bumpWrap_touch | apply State.count_touch | apply within_ite | apply within_ite_fst | apply rows_ite | apply rows_if | apply within_foldl | apply within_foldl_fst | split | (dsimp only; split) | apply within_mk)
  all_goals try with_reducible (first | refine in_CTX_SERVED_SERVED ?_ _ | refine in_CW_SQ_HEAD_INDEX ?_ _)
  all_goals first | exact sub_le (by decide) hm | exact partOk_bit (sub_bit hm (by decide)) | exact sub_bit hm (by decide) | exact in_CTX_SERVED_SERVED (sub_bit hm (by decide)) _ | exact in_CW_SQ_HEAD_INDEX (sub_bit hm (by decide)) _ | exact .inr rfl

theorem State.command_touch {msk : Nat} {org : State} (s : State) (c tag flags : Nat) (run : State → State × Nat × Nat × Nat) (hm : sub 0x400000036000200000000108300000000000000000000000000000000000000000000000000000000000000000000000000000000000000000000000000000006a0 msk) (hz : Within msk org s) (hrun : ∀ t, Within msk org t → Within msk org (run t).1) : Within msk org (State.command s c tag flags run) := by
  unfold State.command
  repeat' with_reducible (first | assumption | intro _ | exact partOk_refl _ _ _ | apply hrun | apply State.take_touch | apply State.complete_touch | apply within_ite | apply within_ite_fst | apply rows_ite | apply rows_if | apply within_foldl | apply within_foldl_fst | split | (dsimp only; split) | apply within_mk)
  all_goals first | exact sub_le (by decide) hm | exact partOk_bit (sub_bit hm (by decide)) | exact sub_bit hm (by decide) | exact .inr rfl

theorem State.reserve_touch {msk : Nat} {org : State} (s : State) (c : Nat) (hm : sub 0x40000000000000000000000000000000000000000000000000000000000000000000000000000000000000000000000000000000000000000000000000000000000 msk) (hz : Within msk org s) : Within msk org (State.reserve s c) := by
  unfold State.reserve
  repeat' with_reducible (first | assumption | intro _ | exact partOk_refl _ _ _ | apply within_ite | apply within_ite_fst | apply rows_ite | apply rows_if | apply within_foldl | apply within_foldl_fst | split | (dsimp only; split) | apply within_mk)
  all_goals first | exact sub_le (by decide) hm | exact partOk_bit (sub_bit hm (by decide)) | exact sub_bit hm (by decide) | exact .inr rfl

theorem State.commandLater_touch {msk : Nat} {org : State} (s : State) (c tag flags : Nat) (check : State → Nat) (run : State → State) (hm : sub 0x400000036000200000000108300000000000000000000000000000000000000000000000000000000000000000000000000000000000000000000000000000006a0 msk) (hz : Within msk org s) (hrun : ∀ t, Within msk org t → Within msk org (run t)) : Within msk org (State.commandLater s c tag flags check run) := by
  unfold State.commandLater
  repeat' with_reducible (first | assumption | intro _ | exact partOk_refl _ _ _ | apply hrun | apply State.take_touch | apply Run.st_touch | apply State.reserve_touch | apply State.complete_touch | apply within_ite | apply within_ite_fst | apply rows_ite | apply rows_if | apply within_foldl | apply within_foldl_fst | split | (dsimp only; split) | apply within_mk)
  all_goals first | exact sub_le (by decide) hm | exact partOk_bit (sub_bit hm (by decide)) | exact sub_bit hm (by decide) | exact .inr rfl

theorem State.setOwner_touch {msk : Nat} {org : State} (s : State) (o c mode : Nat) (hm : sub 0x100000000000000000000000040000000000000000000000000000000000000000000000000000004000000000000000000000000000000000000000000000000000 msk) (hz : Within msk org s) : Within msk org (State.setOwner s o c mode) := by
  unfold State.setOwner
  repeat' with_reducible (first | assumption | intro _ | exact partOk_refl _ _ _ | apply State.setFld_touch | apply within_ite | apply within_ite_fst | apply rows_ite | apply rows_if | apply within_foldl | apply within_foldl_fst | split | (dsimp only; split) | apply within_mk)
  all_goals try with_reducible (first | refine in_OT_STATE_OWNED ?_ _ | refine in_OT_STATE_OWNER ?_ _ | refine in_OWN_MODE ?_ _ | refine in_OWN_OWNED ?_ _ | refine in_OWN_OWNER ?_ _)
  all_goals first | exact sub_le (by decide) hm | exact partOk_bit (sub_bit hm (by decide)) | exact sub_bit hm (by decide) | exact in_OT_STATE_OWNED (sub_bit hm (by decide)) _ | exact in_OT_STATE_OWNER (sub_bit hm (by decide)) _ | exact in_OWN_MODE (sub_bit hm (by decide)) _ | exact in_OWN_OWNED (sub_bit hm (by decide)) _ | exact in_OWN_OWNER (sub_bit hm (by decide)) _ | exact .inr rfl

theorem State.freeOwner_touch {msk : Nat} {org : State} (s : State) (o : Nat) (hm : sub 0x100000000000000000000000040000000000000000000000000000000000000000000000000000004000000000000000000000000000000000000000000000000000 msk) (hz : Within msk org s) : Within msk org (State.freeOwner s o) := by
  unfold State.freeOwner
  repeat' with_reducible (first | assumption | intro _ | exact partOk_refl _ _ _ | apply State.setFld_touch | apply within_ite | apply within_ite_fst | apply rows_ite | apply rows_if | apply within_foldl | apply within_foldl_fst | split | (dsimp only; split) | apply within_mk)
  all_goals try with_reducible (first | refine in_OT_STATE_OWNED ?_ _ | refine in_OT_STATE_OWNER ?_ _ | refine in_OWN_MODE ?_ _ | refine in_OWN_OWNED ?_ _ | refine in_OWN_OWNER ?_ _)
  all_goals first | exact sub_le (by decide) hm | exact partOk_bit (sub_bit hm (by decide)) | exact sub_bit hm (by decide) | exact in_OT_STATE_OWNED (sub_bit hm (by decide)) _ | exact in_OT_STATE_OWNER (sub_bit hm (by decide)) _ | exact in_OWN_MODE (sub_bit hm (by decide)) _ | exact in_OWN_OWNED (sub_bit hm (by decide)) _ | exact in_OWN_OWNER (sub_bit hm (by decide)) _ | exact .inr rfl

theorem State.bringClosed_touch {msk : Nat} {org : State} (s : State) (o : Nat) (hm : sub 0x3b00000000000000000000000000000000000000000000000000000000000000000000004000000000000000000000000000000000000000000000000000000000000 msk) (hz : Within msk org s) : Within msk org (State.bringClosed s o) := by
  unfold State.bringClosed
  repeat' with_reducible (first | assumption | intro _ | exact partOk_refl _ _ _ | apply State.commandClosed_touch | apply State.setValve_touch | apply Run.st_touch | apply State.cutWins_touch | apply State.vClose_touch | apply State.setLsw_touch | apply State.setFout_touch | apply within_ite | apply within_ite_fst | apply rows_ite | apply rows_if | apply within_foldl | apply within_foldl_fst | split | (dsimp only; split) | apply within_mk)
  all_goals first | exact sub_le (by decide) hm | exact partOk_bit (sub_bit hm (by decide)) | exact sub_bit hm (by decide) | exact .inr rfl

theorem State.inhibitRefresh_touch {msk : Nat} {org : State} (s : State) (o : Nat) (hm : sub 0x40000000000000000000000000000000000000000000000000000004000000000000000000000000000000000000000000000000000 msk) (hz : Within msk org s) : Within msk org (State.inhibitRefresh s o) := by
  unfold State.inhibitRefresh
  repeat' with_reducible (first | assumption | intro _ | exact partOk_refl _ _ _ | apply State.setFld_touch | apply State.setBit_touch | apply within_ite | apply within_ite_fst | apply rows_ite | apply rows_if | apply within_foldl | apply within_foldl_fst | split | (dsimp only; split) | apply within_mk)
  all_goals try with_reducible (first | refine in_OT_STATE_INHIBIT ?_ _ | refine in_OWN_INH_N ?_ _)
  all_goals first | exact sub_le (by decide) hm | exact partOk_bit (sub_bit hm (by decide)) | exact sub_bit hm (by decide) | exact in_OT_STATE_INHIBIT (sub_bit hm (by decide)) _ | exact in_OWN_INH_N (sub_bit hm (by decide)) _ | exact .inr rfl

theorem State.holdsRefresh_touch {msk : Nat} {org : State} (s : State) (hm : sub 0x400000000000000000000000000000000000000000000000000000000000000180000000000000000000000000000000000000000000000000000000000000000000 msk) (hz : Within msk org s) : Within msk org (State.holdsRefresh s) := by
  unfold State.holdsRefresh
  repeat' with_reducible (first | assumption | intro _ | exact partOk_refl _ _ _ | apply State.holdRefresh_touch | apply within_ite | apply within_ite_fst | apply rows_ite | apply rows_if | apply within_foldl | apply within_foldl_fst | split | (dsimp only; split) | apply within_mk)
  all_goals first | exact sub_le (by decide) hm | exact partOk_bit (sub_bit hm (by decide)) | exact sub_bit hm (by decide) | exact .inr rfl

theorem State.inhibit_touch {msk : Nat} {org : State} (s : State) (c first count : Nat) (hm : sub 0x13f60000003611820000000010840000000000000000000000000000000000000180000004000000004000000000000000000000000000010000000000000000140400 msk) (hz : Within msk org s) : Within msk org (State.inhibit s c first count) := by
  unfold State.inhibit
  repeat' with_reducible (first | assumption | intro _ | exact partOk_refl _ _ _ | apply State.count_touch | apply State.inhibitRefresh_touch | apply State.withdrawAll_touch | apply State.bringClosed_touch | apply within_ite | apply within_ite_fst | apply rows_ite | apply rows_if | apply within_foldl | apply within_foldl_fst | split | (dsimp only; split) | apply within_mk)
  all_goals first | exact sub_le (by decide) hm | exact partOk_bit (sub_bit hm (by decide)) | exact sub_bit hm (by decide) | exact .inr rfl

theorem State.lift_touch {msk : Nat} {org : State} (s : State) (p : Nat × Nat → Bool) (first count : Nat) (hm : sub 0x440000000000000000000000040000000000000000000000000000000000000180000000000000004000000000000000000000000000000000000000000000000000 msk) (hz : Within msk org s) : Within msk org (State.lift s p first count) := by
  unfold State.lift
  repeat' with_reducible (first | assumption | intro _ | exact partOk_refl _ _ _ | apply State.count_touch | apply State.inhibitRefresh_touch | apply State.holdsRefresh_touch | apply within_ite | apply within_ite_fst | apply rows_ite | apply rows_if | apply within_foldl | apply within_foldl_fst | split | (dsimp only; split) | apply within_mk)
  all_goals first | exact sub_le (by decide) hm | exact partOk_bit (sub_bit hm (by decide)) | exact sub_bit hm (by decide) | exact .inr rfl

theorem State.await_touch {msk : Nat} {org : State} (s : State) (kind : ChangeKind) (c tag flags first count : Nat) (hm : sub 0x40000000000000000000000000000000000000000000000000000000000000000000000000000000000000000000000000000000000000000000000000000000000 msk) (hz : Within msk org s) : Within msk org (State.await s kind c tag flags first count) := by
  unfold State.await
  repeat' with_reducible (first | assumption | intro _ | exact partOk_refl _ _ _ | apply State.count_touch | apply within_ite | apply within_ite_fst | apply rows_ite | apply rows_if | apply within_foldl | apply within_foldl_fst | split | (dsimp only; split) | apply within_mk)
  all_goals first | exact sub_le (by decide) hm | exact partOk_bit (sub_bit hm (by decide)) | exact sub_bit hm (by decide) | exact .inr rfl

theorem State.flushRing_touch {msk : Nat} {org : State} (s : State) (c : Nat) (x0 : Nat) (hm : sub 0x400000000000000000000108100000000000000000000000000000000000000000000000000000000000000000000000000000000000000000000000000000006a0 msk) (hz : Within msk org s) : Within msk org (State.flushRing s c x0) := by
  induction x0 generalizing s with
  | zero => exact hz
  | succ n ih =>
    unfold State.flushRing
    dsimp only
    split
    · exact hz
    · apply ih
      split
      · exact State.complete_touch _ _ _ _ _ _ _ (sub_le (by decide) hm) (State.setFld_touch _ _ _ (in_CW_SQ_HEAD_INDEX (sub_bit hm (by decide)) _) hz)
      · exact State.setFld_touch _ _ _ (in_CW_SQ_HEAD_INDEX (sub_bit hm (by decide)) _) hz

theorem State.ringsOff_touch {msk : Nat} {org : State} (s : State) (c : Nat) (hm : sub 0x20020 msk) (hz : Within msk org s) : Within msk org (State.ringsOff s c) := by
  unfold State.ringsOff
  repeat' with_reducible (first | assumption | intro _ | exact partOk_refl _ _ _ | apply State.setFld_touch | apply within_ite | apply within_ite_fst | apply rows_ite | apply rows_if | apply within_foldl | apply within_foldl_fst | split | (dsimp only; split) | apply within_mk)
  all_goals try with_reducible (first | refine in_CW_STR_CFG_EN ?_ _ _ | refine in_CW_RING_EN ?_ _)
  all_goals first | exact sub_le (by decide) hm | exact partOk_bit (sub_bit hm (by decide)) | exact sub_bit hm (by decide) | exact in_CW_STR_CFG_EN (sub_bit hm (by decide)) _ _ | exact in_CW_RING_EN (sub_bit hm (by decide)) _ | exact .inr rfl

theorem State.bind_touch {msk : Nat} {org : State} (s : State) (c : Nat) (hm : sub 0x800000000000000000000000000000000000000000000000000000000000000000000000000000000000000000000000000000000 msk) (hz : Within msk org s) : Within msk org (State.bind s c) := by
  unfold State.bind
  repeat' with_reducible (first | assumption | intro _ | exact partOk_refl _ _ _ | apply State.setFld_touch | apply within_ite | apply within_ite_fst | apply rows_ite | apply rows_if | apply within_foldl | apply within_foldl_fst | split | (dsimp only; split) | apply within_mk)
  all_goals try with_reducible (first | refine in_CTX_CFG_BIND_PEND ?_ _ | refine in_CTX_CFG_BOUND ?_ _)
  all_goals first | exact sub_le (by decide) hm | exact partOk_bit (sub_bit hm (by decide)) | exact sub_bit hm (by decide) | exact in_CTX_CFG_BIND_PEND (sub_bit hm (by decide)) _ | exact in_CTX_CFG_BOUND (sub_bit hm (by decide)) _ | exact .inr rfl

theorem State.unbind_touch {msk : Nat} {org : State} (s : State) (c : Nat) (hm : sub 0x1408000000000000000000108508000000000000000000000000000000000000000000000000000040000000000000000000000000000000000000000000000206a0 msk) (hz : Within msk org s) : Within msk org (State.unbind s c) := by
  unfold State.unbind
  repeat' with_reducible (first | assumption | intro _ | exact partOk_refl _ _ _ | apply State.tick_touch | apply State.flushRing_touch | apply State.ctxIrq_touch | apply State.ringsOff_touch | apply State.freeOwner_touch | apply State.setFld_touch | apply within_ite | apply within_ite_fst | apply rows_ite | apply rows_if | apply within_foldl | apply within_foldl_fst | split | (dsimp only; split) | apply within_mk)
  all_goals try with_reducible (first | refine in_CTX_CFG_BIND_PEND ?_ _ | refine in_CTX_CFG_BOUND ?_ _)
  all_goals first | exact sub_le (by decide) hm | exact partOk_bit (sub_bit hm (by decide)) | exact sub_bit hm (by decide) | exact in_CTX_CFG_BIND_PEND (sub_bit hm (by decide)) _ | exact in_CTX_CFG_BOUND (sub_bit hm (by decide)) _ | exact .inr rfl

theorem State.applyChange_touch {msk : Nat} {org : State} (s : State) (x : Change) (hm : sub 0x1408000000000000000000108518000000000000000000000000000000000000000000000000000040000000000000000000000000000000000000000000000206a0 msk) (hz : Within msk org s) : Within msk org (State.applyChange s x) := by
  unfold State.applyChange
  repeat' with_reducible (first | assumption | intro _ | exact partOk_refl _ _ _ | apply State.count_touch | apply Run.st_touch | apply State.finish_touch | apply State.bind_touch | apply State.unbind_touch | apply State.setBit_touch | apply State.take_touch | apply State.setOwner_touch | apply State.freeOwner_touch | apply within_ite | apply within_ite_fst | apply rows_ite | apply rows_if | apply within_foldl | apply within_foldl_fst | split | (dsimp only; split) | apply within_mk)
  all_goals try with_reducible (first | refine in_CTX_PERM_COUNTERS_GRANT ?_ _)
  all_goals first | exact sub_le (by decide) hm | exact partOk_bit (sub_bit hm (by decide)) | exact sub_bit hm (by decide) | exact in_CTX_PERM_COUNTERS_GRANT (sub_bit hm (by decide)) _ | exact .inr rfl

theorem State.boundary_touch {msk : Nat} {org : State} (s : State) (tk : Time) (hm : sub 0x1408000000000000000000108518000000000000000000000000000000000000000000000000000040000000000000000000000000000000000000000000000206a0 msk) (hz : Within msk org s) : Within msk org (State.boundary s tk) := by
  unfold State.boundary
  repeat' with_reducible (first | assumption | intro _ | exact partOk_refl _ _ _ | apply State.ready_touch | apply State.applyChange_touch | apply within_ite | apply within_ite_fst | apply rows_ite | apply rows_if | apply within_foldl | apply within_foldl_fst | split | (dsimp only; split) | apply within_mk)
  all_goals first | exact sub_le (by decide) hm | exact partOk_bit (sub_bit hm (by decide)) | exact sub_bit hm (by decide) | exact .inr rfl

theorem State.cmdNop_touch {msk : Nat} {org : State} (s : State) (c tag flags : Nat) (hm : sub 0x400000036000200000000108300000000000000000000000000000000000000000000000000000000000000000000000000000000000000000000000000000006a0 msk) (hz : Within msk org s) : Within msk org (State.cmdNop s c tag flags) := by
  unfold State.cmdNop
  repeat' with_reducible (first | assumption | intro _ | exact partOk_refl _ _ _ | apply State.command_touch | apply within_ite | apply within_ite_fst | apply rows_ite | apply rows_if | apply within_foldl | apply within_foldl_fst | split | (dsimp only; split) | apply within_mk)
  all_goals first | exact sub_le (by decide) hm | exact partOk_bit (sub_bit hm (by decide)) | exact sub_bit hm (by decide) | exact .inr rfl

theorem State.cmdEdge_touch {msk : Nat} {org : State} (s : State) (c tag flags outlet kind : Nat) (due : Time) (rate : Nat) (hm : sub 0x1400000036000200000000108300000000000000000000000000000000000000000000000000000000000000000000000000000000000500000000000000000006a0 msk) (hz : Within msk org s) : Within msk org (State.cmdEdge s c tag flags outlet kind due rate) := by
  unfold State.cmdEdge
  repeat' with_reducible (first | assumption | intro _ | exact partOk_refl _ _ _ | apply State.command_touch | apply Run.st_touch | apply State.bookEntry_touch | apply within_ite | apply within_ite_fst | apply rows_ite | apply rows_if | apply within_foldl | apply within_foldl_fst | split | (dsimp only; split) | apply within_mk)
  all_goals first | exact sub_le (by decide) hm | exact partOk_bit (sub_bit hm (by decide)) | exact sub_bit hm (by decide) | exact .inr rfl

theorem State.cmdClaim_touch {msk : Nat} {org : State} (s : State) (c tag flags first count mode : Nat) (hm : sub 0x400000036000200000000108300000000000000000000000000000000000000000000000000000000000000000000000000000000000000000000000000000006a0 msk) (hz : Within msk org s) : Within msk org (State.cmdClaim s c tag flags first count mode) := by
  unfold State.cmdClaim
  repeat' with_reducible (first | assumption | intro _ | exact partOk_refl _ _ _ | apply State.commandLater_touch | apply State.count_touch | apply State.await_touch | apply within_ite | apply within_ite_fst | apply rows_ite | apply rows_if | apply within_foldl | apply within_foldl_fst | split | (dsimp only; split) | apply within_mk)
  all_goals first | exact sub_le (by decide) hm | exact partOk_bit (sub_bit hm (by decide)) | exact sub_bit hm (by decide) | exact .inr rfl

theorem State.cmdRelease_touch {msk : Nat} {org : State} (s : State) (c tag flags first count : Nat) (hm : sub 0x400000036000200000000108300000000000000000000000000000000000000000000000000000000000000000000000000000000000000000000000000000006a0 msk) (hz : Within msk org s) : Within msk org (State.cmdRelease s c tag flags first count) := by
  unfold State.cmdRelease
  repeat' with_reducible (first | assumption | intro _ | exact partOk_refl _ _ _ | apply State.commandLater_touch | apply State.count_touch | apply State.await_touch | apply within_ite | apply within_ite_fst | apply rows_ite | apply rows_if | apply within_foldl | apply within_foldl_fst | split | (dsimp only; split) | apply within_mk)
  all_goals first | exact sub_le (by decide) hm | exact partOk_bit (sub_bit hm (by decide)) | exact sub_bit hm (by decide) | exact .inr rfl

theorem State.cmdInhibit_touch {msk : Nat} {org : State} (s : State) (c tag flags first count : Nat) (hm : sub 0x13f600000036118200000000108700000000000000000000000000000000000001800000040000000040000000000000000000000000000100000000000000001406a0 msk) (hz : Within msk org s) : Within msk org (State.cmdInhibit s c tag flags first count) := by
  unfold State.cmdInhibit
  repeat' with_reducible (first | assumption | intro _ | exact partOk_refl _ _ _ | apply State.command_touch | apply Run.st_touch | apply State.count_touch | apply State.inhibit_touch | apply within_ite | apply within_ite_fst | apply rows_ite | apply rows_if | apply within_foldl | apply within_foldl_fst | split | (dsimp only; split) | apply within_mk)
  all_goals first | exact sub_le (by decide) hm | exact partOk_bit (sub_bit hm (by decide)) | exact sub_bit hm (by decide) | exact .inr rfl

theorem State.cmdInhibitLift_touch {msk : Nat} {org : State} (s : State) (c tag flags first count : Nat) (hm : sub 0x4400000036000200000000108700000000000000000000000000000000000001800000000000000040000000000000000000000000000000000000000000000006a0 msk) (hz : Within msk org s) : Within msk org (State.cmdInhibitLift s c tag flags first count) := by
  unfold State.cmdInhibitLift
  repeat' with_reducible (first | assumption | intro _ | exact partOk_refl _ _ _ | apply State.command_touch | apply Run.st_touch | apply State.count_touch | apply State.lift_touch | apply within_ite | apply within_ite_fst | apply rows_ite | apply rows_if | apply within_foldl | apply within_foldl_fst | split | (dsimp only; split) | apply within_mk)
  all_goals first | exact sub_le (by decide) hm | exact partOk_bit (sub_bit hm (by decide)) | exact sub_bit hm (by decide) | exact .inr rfl

theorem State.overrideRecord_touch {msk : Nat} {org : State} (s : State) (action mode c first count target : Nat) (since : Time) (hm : sub 0x60000003611820000000010800000000000000000000000000000000000000000000000000000000000000000000000000000000000000000000000000000000000 msk) (hz : Within msk org s) : Within msk org (State.overrideRecord s action mode c first count target since) := by
  unfold State.overrideRecord
  repeat' with_reducible (first | assumption | intro _ | exact partOk_refl _ _ _ | apply State.canvas_touch | apply State.count_touch | apply within_ite | apply within_ite_fst | apply rows_ite | apply rows_if | apply within_foldl | apply within_foldl_fst | split | (dsimp only; split) | apply within_mk)
  all_goals first | exact sub_le (by decide) hm | exact partOk_bit (sub_bit hm (by decide)) | exact sub_bit hm (by decide) | exact .inr rfl

theorem State.cmdOverrideWithdraw_touch {msk : Nat} {org : State} (s : State) (c tag flags first count : Nat) (since : Time) (hm : sub 0x107600000036118200000000108300000000000000000000000000000000000001800000040000000000000000000000000000000000000100000000000000001406a0 msk) (hz : Within msk org s) : Within msk org (State.cmdOverrideWithdraw s c tag flags first count since) := by
  unfold State.cmdOverrideWithdraw
  repeat' with_reducible (first | assumption | intro _ | exact partOk_refl _ _ _ | apply State.command_touch | apply Run.st_touch | apply State.count_touch | apply State.withdrawAll_touch | apply State.overrideRecord_touch | apply within_ite | apply within_ite_fst | apply rows_ite | apply rows_if | apply within_foldl | apply within_foldl_fst | split | (dsimp only; split) | apply within_mk)
  all_goals first | exact sub_le (by decide) hm | exact partOk_bit (sub_bit hm (by decide)) | exact sub_bit hm (by decide) | exact .inr rfl

theorem State.cmdOverrideLift_touch {msk : Nat} {org : State} (s : State) (c tag flags first count : Nat) (hm : sub 0x4600000036118200000000108700000000000000000000000000000000000001800000000000000040000000000000000000000000000000000000000000000006a0 msk) (hz : Within msk org s) : Within msk org (State.cmdOverrideLift s c tag flags first count) := by
  unfold State.cmdOverrideLift
  repeat' with_reducible (first | assumption | intro _ | exact partOk_refl _ _ _ | apply State.command_touch | apply Run.st_touch | apply State.count_touch | apply State.lift_touch | apply State.overrideRecord_touch | apply within_ite | apply within_ite_fst | apply rows_ite | apply rows_if | apply within_foldl | apply within_foldl_fst | split | (dsimp only; split) | apply within_mk)
  all_goals first | exact sub_le (by decide) hm | exact partOk_bit (sub_bit hm (by decide)) | exact sub_bit hm (by decide) | exact .inr rfl

theorem State.cmdOverrideTake_touch {msk : Nat} {org : State} (s : State) (c tag flags first count mode target : Nat) (hm : sub 0x600000036118200000000108300000000000000000000000000000000000000000000000000000000000000000000000000000000000000000000000000000006a0 msk) (hz : Within msk org s) : Within msk org (State.cmdOverrideTake s c tag flags first count mode target) := by
  unfold State.cmdOverrideTake
  repeat' with_reducible (first | assumption | intro _ | exact partOk_refl _ _ _ | apply State.commandLater_touch | apply State.count_touch | apply State.await_touch | apply State.take_touch | apply State.overrideRecord_touch | apply within_ite | apply within_ite_fst | apply rows_ite | apply rows_if | apply within_foldl | apply within_foldl_fst | split | (dsimp only; split) | apply within_mk)
  all_goals first | exact sub_le (by decide) hm | exact partOk_bit (sub_bit hm (by decide)) | exact sub_bit hm (by decide) | exact .inr rfl

theorem State.cmdOverrideFree_touch {msk : Nat} {org : State} (s : State) (c tag flags first count : Nat) (hm : sub 0x600000036118200000000108300000000000000000000000000000000000000000000000000000000000000000000000000000000000000000000000000000006a0 msk) (hz : Within msk org s) : Within msk org (State.cmdOverrideFree s c tag flags first count) := by
  unfold State.cmdOverrideFree
  repeat' with_reducible (first | assumption | intro _ | exact partOk_refl _ _ _ | apply State.commandLater_touch | apply State.count_touch | apply State.await_touch | apply State.overrideRecord_touch | apply within_ite | apply within_ite_fst | apply rows_ite | apply rows_if | apply within_foldl | apply within_foldl_fst | split | (dsimp only; split) | apply within_mk)
  all_goals first | exact sub_le (by decide) hm | exact partOk_bit (sub_bit hm (by decide)) | exact sub_bit hm (by decide) | exact .inr rfl

theorem State.cmdFix_touch {msk : Nat} {org : State} (s : State) (c tag flags : Nat) (f : FixIn) (hm : sub 0x500000036000200000000108300000000000000000000000000000000000000000000000000000000000000000000000000000000000000000000000000000006a0 msk) (hz : Within msk org s) : Within msk org (State.cmdFix s c tag flags f) := by
  unfold State.cmdFix
  repeat' with_reducible (first | assumption | intro _ | exact partOk_refl _ _ _ | apply State.command_touch | apply Run.st_touch | apply State.submitFix_touch | apply within_ite | apply within_ite_fst | apply rows_ite | apply rows_if | apply within_foldl | apply within_foldl_fst | split | (dsimp only; split) | apply within_mk)
  all_goals first | exact sub_le (by decide) hm | exact partOk_bit (sub_bit hm (by decide)) | exact sub_bit hm (by decide) | exact .inr rfl

theorem State.cmdBusSend_touch {msk : Nat} {org : State} (s : State) (c tag flags port dlc : Nat) (oneShot ide fdf brs : Bool) (id : Nat) (data : List Byte) (hm : sub 0x40400000036000200000000108300000000048500000000000000000000000000000000000000000000000000000000000000000000000000000000000000000006a0 msk) (hz : Within msk org s) : Within msk org (State.cmdBusSend s c tag flags port dlc oneShot ide fdf brs id data) := by
  unfold State.cmdBusSend
  repeat' with_reducible (first | assumption | intro _ | exact partOk_refl _ _ _ | apply State.take_touch | apply Run.st_touch | apply State.complete_touch | apply State.enqueue_touch | apply State.reserve_touch | apply within_ite | apply within_ite_fst | apply rows_ite | apply rows_if | apply within_foldl | apply within_foldl_fst | split | (dsimp only; split) | apply within_mk)
  all_goals first | exact sub_le (by decide) hm | exact partOk_bit (sub_bit hm (by decide)) | exact sub_bit hm (by decide) | exact .inr rfl

theorem State.cmdBind_touch {msk : Nat} {org : State} (s : State) (c tag flags target : Nat) (hm : sub 0x400000036000200000000108308000000000000000000000000000000000000000000000000000000000000000000000000000000000000000000000000000006a0 msk) (hz : Within msk org s) : Within msk org (State.cmdBind s c tag flags target) := by
  unfold State.cmdBind
  repeat' with_reducible (first | assumption | intro _ | exact partOk_refl _ _ _ | apply State.commandLater_touch | apply State.await_touch | apply State.bind_touch | apply State.setFld_touch | apply within_ite | apply within_ite_fst | apply rows_ite | apply rows_if | apply within_foldl | apply within_foldl_fst | split | (dsimp only; split) | apply within_mk)
  all_goals try with_reducible (first | refine in_CTX_CFG_BIND_PEND ?_ _)
  all_goals first | exact sub_le (by decide) hm | exact partOk_bit (sub_bit hm (by decide)) | exact sub_bit hm (by decide) | exact in_CTX_CFG_BIND_PEND (sub_bit hm (by decide)) _ | exact .inr rfl

theorem State.cmdUnbind_touch {msk : Nat} {org : State} (s : State) (c tag flags target : Nat) (hm : sub 0x400000036000200000000108308000000000000000000000000000000000000000000000000000000000000000000000000000000000000000000000000000006a0 msk) (hz : Within msk org s) : Within msk org (State.cmdUnbind s c tag flags target) := by
  unfold State.cmdUnbind
  repeat' with_reducible (first | assumption | intro _ | exact partOk_refl _ _ _ | apply State.commandLater_touch | apply State.await_touch | apply State.unbind_touch | apply State.setFld_touch | apply within_ite | apply within_ite_fst | apply rows_ite | apply rows_if | apply within_foldl | apply within_foldl_fst | split | (dsimp only; split) | apply within_mk)
  all_goals try with_reducible (first | refine in_CTX_CFG_BIND_PEND ?_ _)
  all_goals first | exact sub_le (by decide) hm | exact partOk_bit (sub_bit hm (by decide)) | exact sub_bit hm (by decide) | exact in_CTX_CFG_BIND_PEND (sub_bit hm (by decide)) _ | exact .inr rfl

theorem State.sqTail_touch {msk : Nat} {org : State} (s : State) (c v : Nat) (hm : sub 0x40 msk) (hz : Within msk org s) : Within msk org (State.sqTail s c v) := by
  unfold State.sqTail
  repeat' with_reducible (first | assumption | intro _ | exact partOk_refl _ _ _ | apply State.setFld_touch | apply within_ite | apply within_ite_fst | apply rows_ite | apply rows_if | apply within_foldl | apply within_foldl_fst | split | (dsimp only; split) | apply within_mk)
  all_goals try with_reducible (first | refine in_CW_SQ_TAIL_INDEX ?_ _)
  all_goals first | exact sub_le (by decide) hm | exact partOk_bit (sub_bit hm (by decide)) | exact sub_bit hm (by decide) | exact in_CW_SQ_TAIL_INDEX (sub_bit hm (by decide)) _ | exact .inr rfl

theorem State.irqRises_touch {msk : Nat} {org : State} (s : State) (c before : Nat) (hm : sub 0x40000000000000000000010800000000000000000000000000000000000000000000000000000000000000000000000000000000000000000000000000000000000 msk) (hz : Within msk org s) : Within msk org (State.irqRises s c before) := by
  unfold State.irqRises
  repeat' with_reducible (first | assumption | intro _ | exact partOk_refl _ _ _ | apply State.ctxMessage_touch | apply within_ite | apply within_ite_fst | apply rows_ite | apply rows_if | apply within_foldl | apply within_foldl_fst | split | (dsimp only; split) | apply within_mk)
  all_goals first | exact sub_le (by decide) hm | exact partOk_bit (sub_bit hm (by decide)) | exact sub_bit hm (by decide) | exact .inr rfl

theorem State.dmaStarts_touch {msk : Nat} {org : State} (s : State) (c : Nat) (hm : sub 0x40000000000000000000000000000000000000000000000000000000000000000000000000000000000000000000000000000000000000000000000000000000000 msk) (hz : Within msk org s) : Within msk org (State.dmaStarts s c) := by
  unfold State.dmaStarts
  repeat' with_reducible (first | assumption | intro _ | exact partOk_refl _ _ _ | apply within_ite | apply within_ite_fst | apply rows_ite | apply rows_if | apply within_foldl | apply within_foldl_fst | split | (dsimp only; split) | apply within_mk)
  all_goals first | exact sub_le (by decide) hm | exact partOk_bit (sub_bit hm (by decide)) | exact sub_bit hm (by decide) | exact .inr rfl

theorem State.cwWrite_touch {msk : Nat} {org : State} (s : State) (c off v : Nat) (hm : sub 0x40000000000000000000010800020000000000000000000000000000000000000000000000000000000000000000000000000000000000000000000000000000060 msk) (ha : RowsHave msk (0x1000 * c + off)) (hz : Within msk org s) : Within msk org (State.cwWrite s c off v) := by
  unfold State.cwWrite
  repeat' with_reducible (first | assumption | intro _ | exact partOk_refl _ _ _ | apply State.raise_touch | apply State.writeCodes_touch | apply State.dmaStarts_touch | apply State.setFld_touch | apply State.sqTail_touch | apply State.irqRises_touch | apply within_ite | apply within_ite_fst | apply rows_ite | apply rows_if | apply within_foldl | apply within_foldl_fst | split | (dsimp only; split) | apply within_mk)
  all_goals try with_reducible (first | refine in_HP_EVENT_CFG_ERR ?_ | refine in_CW_RING_RING_ERR ?_ _)
  all_goals first | exact sub_le (by decide) hm | exact partOk_bit (sub_bit hm (by decide)) | exact sub_bit hm (by decide) | exact in_HP_EVENT_CFG_ERR (sub_bit hm (by decide)) | exact in_CW_RING_RING_ERR (sub_bit hm (by decide)) _ | exact .inr rfl

theorem State.msixUnmask_touch {msk : Nat} {org : State} (s : State) (p v : Nat) (hm : sub 0x40000000000000000000010800000000000000000000000000000000000000000000000000000000000000000000000000000000000000000000000000000000000 msk) (hz : Within msk org s) : Within msk org (State.msixUnmask s p v) := by
  unfold State.msixUnmask
  repeat' with_reducible (first | assumption | intro _ | exact partOk_refl _ _ _ | apply State.setFbit_touch | apply State.msix_touch | apply within_ite | apply within_ite_fst | apply rows_ite | apply rows_if | apply within_foldl | apply within_foldl_fst | split | (dsimp only; split) | apply within_mk)
  all_goals try with_reducible (first | refine in_msixPba ?_ ?_ _ _)
  all_goals first | exact sub_le (by decide) hm | exact partOk_bit (sub_bit hm (by decide)) | exact sub_bit hm (by decide) | exact in_msixPba (sub_bit hm (by decide)) (sub_bit hm (by decide)) _ _ | exact .inr rfl

theorem State.hpWrite_touch {msk : Nat} {org : State} (s : State) (a v : Nat) (hm : sub 0x40000000000000000000010800000000000000000000000000000000000000000000000000000000000000000000000000000000000000000000000000000000000 msk) (ha : RowsHave msk a) (hz : Within msk org s) : Within msk org (State.hpWrite s a v) := by
  unfold State.hpWrite
  repeat' with_reducible (first | assumption | intro _ | exact partOk_refl _ _ _ | apply State.writeCodes_touch | apply State.supNotify_touch | apply State.await_touch | apply State.msixUnmask_touch | apply within_ite | apply within_ite_fst | apply rows_ite | apply rows_if | apply within_foldl | apply within_foldl_fst | split | (dsimp only; split) | apply within_mk)
  all_goals first | exact sub_le (by decide) hm | exact partOk_bit (sub_bit hm (by decide)) | exact sub_bit hm (by decide) | exact .inr rfl

theorem State.ring_touch {msk : Nat} {org : State} (s : State) (p : Nat) (w : Option Nat) (v : Nat) (hm : sub 0x17fe080000361182000000003080002000000000005000406800008f400002000180000004000000000000000000000000000000000000010400068000000000140400 msk) (hz : Within msk org s) : Within msk org (State.ring s p w v) := by
  unfold State.ring
  repeat' with_reducible (first | assumption | intro _ | exact partOk_refl _ _ _ | apply State.doorbell_touch | apply within_ite | apply within_ite_fst | apply rows_ite | apply rows_if | apply within_foldl | apply within_foldl_fst | split | (dsimp only; split) | apply within_mk)
  all_goals first | exact sub_le (by decide) hm | exact partOk_bit (sub_bit hm (by decide)) | exact sub_bit hm (by decide) | exact .inr rfl

theorem State.linkDown_touch {msk : Nat} {org : State} (s : State) (p : Nat) (down : Bool) (hm : sub 0x40000000000000000000010800030000000000000000000000000000000000000000000000000000000000000000000000000000000000000000000000000020020 msk) (hz : Within msk org s) : Within msk org (State.linkDown s p down) := by
  unfold State.linkDown
  repeat' with_reducible (first | assumption | intro _ | exact partOk_refl _ _ _ | apply State.ringsOff_touch | apply State.setFbit_touch | apply State.raiseBit_touch | apply within_ite | apply within_ite_fst | apply rows_ite | apply rows_if | apply within_foldl | apply within_foldl_fst | split | (dsimp only; split) | apply within_mk)
  all_goals try with_reducible (first | refine in_HP_STATUS_LINK_UP ?_ | refine in_HP_EVENT_LINK_DOWN ?_)
  all_goals first | exact sub_le (by decide) hm | exact partOk_bit (sub_bit hm (by decide)) | exact sub_bit hm (by decide) | exact in_HP_STATUS_LINK_UP (sub_bit hm (by decide)) | exact in_HP_EVENT_LINK_DOWN (sub_bit hm (by decide)) | exact .inr rfl

end Sys2Proof.Machine
end

