-- ==== Sys2Proof/Laws/TouchActivate.lean ====
section
/-! SUPPORT. What each operation of Machine/Activate.lean may change, as a mask. -/

namespace Sys2Proof.Machine

set_option linter.all false
set_option Elab.async false

theorem within_foldl_mem {α : Type} {m : Nat} {z : State} (f : State → α → State) (l : List α) (hf : ∀ t x, x ∈ l → Within m z t → Within m z (f t x)) (s : State)
    (h : Within m z s) : Within m z (l.foldl f s) := by
  induction l generalizing s with
  | nil => exact h
  | cons x l ih => exact ih (fun t y hy => hf t y (List.mem_cons_of_mem _ hy)) _ (hf s x List.mem_cons_self h)

theorem State.loadWords_touch {msk : Nat} {org : State} (s : State) (r : Option ImgRec) (base n : Nat) (hm : sub 0x0 msk) (ha : ∀ i, i < n → RowsHave msk (base + 4 * i)) (hz : Within msk org s) : Within msk org (State.loadWords s r base n) := by
  unfold State.loadWords
  exact within_foldl_mem _ _ (fun t x hx ht => State.setReg_touch _ _ _ (ha x (List.mem_range.mp hx)) ht) _ hz

theorem load_470000 {msk : Nat} (hm : sub 0x1ff800000000000000000000000000000000000000000000000 msk) (i : Nat) (j : Nat) (hj : j < 10) : RowsHave msk (0x470000 + 0x40 * (i % 1024) + 4 * j) := by
  obtain rfl | rfl | rfl | rfl | rfl | rfl | rfl | rfl | rfl | rfl : j = 0 ∨ j = 1 ∨ j = 2 ∨ j = 3 ∨ j = 4 ∨ j = 5 ∨ j = 6 ∨ j = 7 ∨ j = 8 ∨ j = 9 := by omega
  · exact rows_eq (has_OT_CFG (sub_bit hm (by decide)) i) (by omega)
  · exact rows_eq (has_OT_TARGET (sub_bit hm (by decide)) i) (by omega)
  · exact rows_eq (has_OT_MOUNT_X (sub_bit hm (by decide)) i) (by omega)
  · exact rows_eq (has_OT_MOUNT_Y (sub_bit hm (by decide)) i) (by omega)
  · exact rows_eq (has_OT_MOUNT_Z (sub_bit hm (by decide)) i) (by omega)
  · exact rows_eq (has_OT_FP_W (sub_bit hm (by decide)) i) (by omega)
  · exact rows_eq (has_OT_FP_L (sub_bit hm (by decide)) i) (by omega)
  · exact rows_eq (has_OT_FP_DX (sub_bit hm (by decide)) i) (by omega)
  · exact rows_eq (has_OT_NOM_OPEN (sub_bit hm (by decide)) i) (by omega)
  · exact rows_eq (has_OT_NOM_CLOSE (sub_bit hm (by decide)) i) (by omega)

theorem load_470030 {msk : Nat} (hm : sub 0x3800000000000000000000000000000000000000000000000000 msk) (i : Nat) (j : Nat) (hj : j < 3) : RowsHave msk (0x470000 + 0x40 * (i % 1024) + 0x30 + 4 * j) := by
  obtain rfl | rfl | rfl : j = 0 ∨ j = 1 ∨ j = 2 := by omega
  · exact rows_eq (has_OT_TRN_OPEN (sub_bit hm (by decide)) i) (by omega)
  · exact rows_eq (has_OT_TRN_CLOSE (sub_bit hm (by decide)) i) (by omega)
  · exact rows_eq (has_OT_RATE (sub_bit hm (by decide)) i) (by omega)

theorem load_580100 {msk : Nat} (hm : sub 0x6000000000000000000000000000000000000000000000000000000000000000000000000000000000000 msk) (i : Nat) (j : Nat) (hj : j < 2) : RowsHave msk (0x580100 + 0x40 * (i % 32) + 4 * j) := by
  obtain rfl | rfl : j = 0 ∨ j = 1 := by omega
  · exact rows_eq (has_LS_CFG (sub_bit hm (by decide)) i) (by omega)
  · exact rows_eq (has_LS_CFG2 (sub_bit hm (by decide)) i) (by omega)

theorem load_530118 {msk : Nat} (hm : sub 0x40000000000000000000000000000000000000000000000000000000000000000000000 msk) (i : Nat) (j : Nat) (hj : j < 1) : RowsHave msk (0x530118 + 0x800 * (i / 16 % 16) + 0x40 * (i % 16) + 4 * j) := by
  obtain rfl : j = 0 := by omega
  exact rows_eq (has_ND_EXPECT (sub_bit hm (by decide)) (i / 16) i) (by omega)

theorem load_521000 {msk : Nat} (hm : sub 0x1ff800000000000000000000000000000000000000000000000000000000 msk) (i : Nat) (j : Nat) (hj : j < 10) : RowsHave msk (0x521000 + 0x100 * (i % 16) + 4 * j) := by
  obtain rfl | rfl | rfl | rfl | rfl | rfl | rfl | rfl | rfl | rfl : j = 0 ∨ j = 1 ∨ j = 2 ∨ j = 3 ∨ j = 4 ∨ j = 5 ∨ j = 6 ∨ j = 7 ∨ j = 8 ∨ j = 9 := by omega
  · exact rows_eq (has_PF_CFG (sub_bit hm (by decide)) i) (by omega)
  · exact rows_eq (has_PF_PULL (sub_bit hm (by decide)) i) (by omega)
  · exact rows_eq (has_PF_MOVE (sub_bit hm (by decide)) i) (by omega)
  · exact rows_eq (has_PF_OC (sub_bit hm (by decide)) i) (by omega)
  · exact rows_eq (has_PF_WIN_O (sub_bit hm (by decide)) i) (by omega)
  · exact rows_eq (has_PF_WIN_C (sub_bit hm (by decide)) i) (by omega)
  · exact rows_eq (has_PF_KINK (sub_bit hm (by decide)) i) (by omega)
  · exact rows_eq (has_PF_DIP (sub_bit hm (by decide)) i) (by omega)
  · exact rows_eq (has_PF_DW (sub_bit hm (by decide)) i) (by omega)
  · exact rows_eq (has_PF_RISE (sub_bit hm (by decide)) i) (by omega)

theorem load_521040 {msk : Nat} (hm : sub 0x1e00000000000000000000000000000000000000000000000000000000000 msk) (i : Nat) (j : Nat) (hj : j < 32) : RowsHave msk (0x521040 + 0x100 * (i % 16) + 4 * j) := by
  obtain rfl | rfl | rfl | rfl | rfl | rfl | rfl | rfl | rfl | rfl | rfl | rfl | rfl | rfl | rfl | rfl | rfl | rfl | rfl | rfl | rfl | rfl | rfl | rfl | rfl | rfl | rfl | rfl | rfl | rfl | rfl | rfl : j = 0 ∨ j = 1 ∨ j = 2 ∨ j = 3 ∨ j = 4 ∨ j = 5 ∨ j = 6 ∨ j = 7 ∨ j = 8 ∨ j = 9 ∨ j = 10 ∨ j = 11 ∨ j = 12 ∨ j = 13 ∨ j = 14 ∨ j = 15 ∨ j = 16 ∨ j = 17 ∨ j = 18 ∨ j = 19 ∨ j = 20 ∨ j = 21 ∨ j = 22 ∨ j = 23 ∨ j = 24 ∨ j = 25 ∨ j = 26 ∨ j = 27 ∨ j = 28 ∨ j = 29 ∨ j = 30 ∨ j = 31 := by omega
  · exact rows_eq (has_PH_CFG (sub_bit hm (by decide)) i 0) (by omega)
  · exact rows_eq (has_PH_ITGT (sub_bit hm (by decide)) i 0) (by omega)
  · exact rows_eq (has_PH_BAND (sub_bit hm (by decide)) i 0) (by omega)
  · exact rows_eq (has_PH_TMAX (sub_bit hm (by decide)) i 0) (by omega)
  · exact rows_eq (has_PH_CFG (sub_bit hm (by decide)) i 1) (by omega)
  · exact rows_eq (has_PH_ITGT (sub_bit hm (by decide)) i 1) (by omega)
  · exact rows_eq (has_PH_BAND (sub_bit hm (by decide)) i 1) (by omega)
  · exact rows_eq (has_PH_TMAX (sub_bit hm (by decide)) i 1) (by omega)
  · exact rows_eq (has_PH_CFG (sub_bit hm (by decide)) i 2) (by omega)
  · exact rows_eq (has_PH_ITGT (sub_bit hm (by decide)) i 2) (by omega)
  · exact rows_eq (has_PH_BAND (sub_bit hm (by decide)) i 2) (by omega)
  · exact rows_eq (has_PH_TMAX (sub_bit hm (by decide)) i 2) (by omega)
  · exact rows_eq (has_PH_CFG (sub_bit hm (by decide)) i 3) (by omega)
  · exact rows_eq (has_PH_ITGT (sub_bit hm (by decide)) i 3) (by omega)
  · exact rows_eq (has_PH_BAND (sub_bit hm (by decide)) i 3) (by omega)
  · exact rows_eq (has_PH_TMAX (sub_bit hm (by decide)) i 3) (by omega)
  · exact rows_eq (has_PH_CFG (sub_bit hm (by decide)) i 4) (by omega)
  · exact rows_eq (has_PH_ITGT (sub_bit hm (by decide)) i 4) (by omega)
  · exact rows_eq (has_PH_BAND (sub_bit hm (by decide)) i 4) (by omega)
  · exact rows_eq (has_PH_TMAX (sub_bit hm (by decide)) i 4) (by omega)
  · exact rows_eq (has_PH_CFG (sub_bit hm (by decide)) i 5) (by omega)
  · exact rows_eq (has_PH_ITGT (sub_bit hm (by decide)) i 5) (by omega)
  · exact rows_eq (has_PH_BAND (sub_bit hm (by decide)) i 5) (by omega)
  · exact rows_eq (has_PH_TMAX (sub_bit hm (by decide)) i 5) (by omega)
  · exact rows_eq (has_PH_CFG (sub_bit hm (by decide)) i 6) (by omega)
  · exact rows_eq (has_PH_ITGT (sub_bit hm (by decide)) i 6) (by omega)
  · exact rows_eq (has_PH_BAND (sub_bit hm (by decide)) i 6) (by omega)
  · exact rows_eq (has_PH_TMAX (sub_bit hm (by decide)) i 6) (by omega)
  · exact rows_eq (has_PH_CFG (sub_bit hm (by decide)) i 7) (by omega)
  · exact rows_eq (has_PH_ITGT (sub_bit hm (by decide)) i 7) (by omega)
  · exact rows_eq (has_PH_BAND (sub_bit hm (by decide)) i 7) (by omega)
  · exact rows_eq (has_PH_TMAX (sub_bit hm (by decide)) i 7) (by omega)

theorem load_550000 {msk : Nat} (hm : sub 0x20000000000000000000000000000000000000000000000000000000000000000000000000000000000 msk) (i : Nat) (j : Nat) (hj : j < 4096) : RowsHave msk (0x550000 + 0x4000 * (i % 8) + 4 * j) :=
  rows_eq (has_PROG (sub_bit hm (by decide)) i j) (by rw [Nat.mod_eq_of_lt hj])

theorem load_548000 {msk : Nat} (hm : sub 0x10000000000000000000000000000000000000000000000000000000000000000000000000000000000 msk) (i : Nat) (j : Nat) (hj : j < 256) : RowsHave msk (0x548000 + 0x400 * (i % 16) + 4 * j) :=
  rows_eq (has_TBL (sub_bit hm (by decide)) i j) (by rw [Nat.mod_eq_of_lt hj])

theorem load_540300 {msk : Nat} (hm : sub 0x18000000000000000000000000000000000000000000000000000000000000000000000000000 msk) (i : Nat) (j : Nat) (hj : j < 2) : RowsHave msk (0x540300 + 0x20 * (i % 8) + 4 * j) := by
  obtain rfl | rfl : j = 0 ∨ j = 1 := by omega
  · exact rows_eq (has_PC_CFG (sub_bit hm (by decide)) i) (by omega)
  · exact rows_eq (has_PC_CPR (sub_bit hm (by decide)) i) (by omega)

theorem load_5B0020 {msk : Nat} (hm : sub 0x200000000000000000000000000000000000000000000000000000000000000000000000000000000000000000000000000000000 msk) (j : Nat) (hj : j < 4) : RowsHave msk (0x5B0020 + 4 * j) := by
  obtain rfl | rfl | rfl | rfl : j = 0 ∨ j = 1 ∨ j = 2 ∨ j = 3 := by omega
  · exact rows_eq (has_HP_DIRECT (sub_bit hm (by decide)) 0) (by omega)
  · exact rows_eq (has_HP_DIRECT (sub_bit hm (by decide)) 1) (by omega)
  · exact rows_eq (has_HP_DIRECT (sub_bit hm (by decide)) 2) (by omega)
  · exact rows_eq (has_HP_DIRECT (sub_bit hm (by decide)) 3) (by omega)

theorem load_58000C {msk : Nat} (hm : sub 0x1000000000000000000000000000000000000000000000000000000000000000000000000000000000000 msk) (j : Nat) (hj : j < 1) : RowsHave msk (0x58000C + 4 * j) := by
  obtain rfl : j = 0 := by omega
  exact rows_eq (has_LS_WD (sub_bit hm (by decide)) ) (by omega)

theorem load_40C100 {msk : Nat} (hm : sub 0x7f8000000000000000000000000 msk) (i : Nat) (j : Nat) (hj : j < 8) : RowsHave msk (0x40C100 + 0x20 * (i % 8) + 4 * j) := by
  obtain rfl | rfl | rfl | rfl | rfl | rfl | rfl | rfl : j = 0 ∨ j = 1 ∨ j = 2 ∨ j = 3 ∨ j = 4 ∨ j = 5 ∨ j = 6 ∨ j = 7 := by omega
  · exact rows_eq (has_CL_COMMIT (sub_bit hm (by decide)) i) (by omega)
  · exact rows_eq (has_CL_TIMING (sub_bit hm (by decide)) i) (by omega)
  · exact rows_eq (has_CL_PREFLUX (sub_bit hm (by decide)) i) (by omega)
  · exact rows_eq (has_CL_GAPS (sub_bit hm (by decide)) i) (by omega)
  · exact rows_eq (has_CL_MATCH (sub_bit hm (by decide)) i) (by omega)
  · exact rows_eq (has_CL_RATE_LEAD (sub_bit hm (by decide)) i) (by omega)
  · exact rows_eq (has_CL_RATE_MIN (sub_bit hm (by decide)) i) (by omega)
  · exact rows_eq (has_CL_RATE_MAX (sub_bit hm (by decide)) i) (by omega)

theorem load_409020 {msk : Nat} (hm : sub 0x400000000000000000 msk) (i : Nat) (j : Nat) (hj : j < 1) : RowsHave msk (0x409020 + 4 * (i % 4) + 4 * j) := by
  obtain rfl : j = 0 := by omega
  exact rows_eq (has_MAP_LAYER (sub_bit hm (by decide)) i) (by omega)

theorem load_40A400 {msk : Nat} (hm : sub 0x800000000000000000000 msk) (i : Nat) (j : Nat) (hj : j < 64) : RowsHave msk (0x40A400 + 0x100 * (i % 4) + 4 * j) :=
  rows_eq (has_RT_ENTRY (sub_bit hm (by decide)) i j) (by rw [Nat.mod_eq_of_lt hj])

theorem load_40A800 {msk : Nat} (hm : sub 0x1000000000000000000000 msk) (i : Nat) (j : Nat) (hj : j < 64) : RowsHave msk (0x40A800 + 0x100 * (i % 4) + 4 * j) :=
  rows_eq (has_RT_STAGED (sub_bit hm (by decide)) i j) (by rw [Nat.mod_eq_of_lt hj])

theorem load_410030 {msk : Nat} (hm : sub 0x2000000000000000000000000000000 msk) (j : Nat) (hj : j < 1) : RowsHave msk (0x410030 + 4 * j) := by
  obtain rfl : j = 0 := by omega
  exact rows_eq (has_FRM_CFG (sub_bit hm (by decide)) ) (by omega)

theorem load_409000 {msk : Nat} (hm : sub 0x4000000000000000 msk) (j : Nat) (hj : j < 1) : RowsHave msk (0x409000 + 4 * j) := by
  obtain rfl : j = 0 := by omega
  exact rows_eq (has_MAP_CTRL (sub_bit hm (by decide)) ) (by omega)

theorem load_541040 {msk : Nat} (hm : sub 0x1f00000000000000000000000000000000000000000000000000000000000000000000000000000000 msk) (i : Nat) (j : Nat) (hj : j < 5) : RowsHave msk (0x541040 + 0x100 * (i % 64) + 4 * j) := by
  obtain rfl | rfl | rfl | rfl | rfl : j = 0 ∨ j = 1 ∨ j = 2 ∨ j = 3 ∨ j = 4 := by omega
  · exact rows_eq (has_SL_CFG (sub_bit hm (by decide)) i) (by omega)
  · exact rows_eq (has_SL_TIMER (sub_bit hm (by decide)) i) (by omega)
  · exact rows_eq (has_SL_SPCFG (sub_bit hm (by decide)) i) (by omega)
  · exact rows_eq (has_SL_SSLEW (sub_bit hm (by decide)) i) (by omega)
  · exact rows_eq (has_SL_SPSLEW (sub_bit hm (by decide)) i) (by omega)

theorem load_541060 {msk : Nat} (hm : sub 0xe000000000000000000000000000000000000000000000000000000000000000000000000000000000 msk) (i : Nat) (j : Nat) (hj : j < 32) : RowsHave msk (0x541060 + 0x100 * (i % 64) + 4 * j) := by
  obtain rfl | rfl | rfl | rfl | rfl | rfl | rfl | rfl | rfl | rfl | rfl | rfl | rfl | rfl | rfl | rfl | rfl | rfl | rfl | rfl | rfl | rfl | rfl | rfl | rfl | rfl | rfl | rfl | rfl | rfl | rfl | rfl : j = 0 ∨ j = 1 ∨ j = 2 ∨ j = 3 ∨ j = 4 ∨ j = 5 ∨ j = 6 ∨ j = 7 ∨ j = 8 ∨ j = 9 ∨ j = 10 ∨ j = 11 ∨ j = 12 ∨ j = 13 ∨ j = 14 ∨ j = 15 ∨ j = 16 ∨ j = 17 ∨ j = 18 ∨ j = 19 ∨ j = 20 ∨ j = 21 ∨ j = 22 ∨ j = 23 ∨ j = 24 ∨ j = 25 ∨ j = 26 ∨ j = 27 ∨ j = 28 ∨ j = 29 ∨ j = 30 ∨ j = 31 := by omega
  · exact rows_eq (has_SL_IN (sub_bit hm (by decide)) i 0) (by omega)
  · exact rows_eq (has_SL_IN (sub_bit hm (by decide)) i 1) (by omega)
  · exact rows_eq (has_SL_IN (sub_bit hm (by decide)) i 2) (by omega)
  · exact rows_eq (has_SL_IN (sub_bit hm (by decide)) i 3) (by omega)
  · exact rows_eq (has_SL_IN (sub_bit hm (by decide)) i 4) (by omega)
  · exact rows_eq (has_SL_IN (sub_bit hm (by decide)) i 5) (by omega)
  · exact rows_eq (has_SL_IN (sub_bit hm (by decide)) i 6) (by omega)
  · exact rows_eq (has_SL_IN (sub_bit hm (by decide)) i 7) (by omega)
  · exact rows_eq (has_SL_IN (sub_bit hm (by decide)) i 8) (by omega)
  · exact rows_eq (has_SL_IN (sub_bit hm (by decide)) i 9) (by omega)
  · exact rows_eq (has_SL_IN (sub_bit hm (by decide)) i 10) (by omega)
  · exact rows_eq (has_SL_IN (sub_bit hm (by decide)) i 11) (by omega)
  · exact rows_eq (has_SL_IN (sub_bit hm (by decide)) i 12) (by omega)
  · exact rows_eq (has_SL_IN (sub_bit hm (by decide)) i 13) (by omega)
  · exact rows_eq (has_SL_IN (sub_bit hm (by decide)) i 14) (by omega)
  · exact rows_eq (has_SL_IN (sub_bit hm (by decide)) i 15) (by omega)
  · exact rows_eq (has_SL_OUTCFG (sub_bit hm (by decide)) i 0) (by omega)
  · exact rows_eq (has_SL_OUTSAFE (sub_bit hm (by decide)) i 0) (by omega)
  · exact rows_eq (has_SL_OUTCFG (sub_bit hm (by decide)) i 1) (by omega)
  · exact rows_eq (has_SL_OUTSAFE (sub_bit hm (by decide)) i 1) (by omega)
  · exact rows_eq (has_SL_OUTCFG (sub_bit hm (by decide)) i 2) (by omega)
  · exact rows_eq (has_SL_OUTSAFE (sub_bit hm (by decide)) i 2) (by omega)
  · exact rows_eq (has_SL_OUTCFG (sub_bit hm (by decide)) i 3) (by omega)
  · exact rows_eq (has_SL_OUTSAFE (sub_bit hm (by decide)) i 3) (by omega)
  · exact rows_eq (has_SL_OUTCFG (sub_bit hm (by decide)) i 4) (by omega)
  · exact rows_eq (has_SL_OUTSAFE (sub_bit hm (by decide)) i 4) (by omega)
  · exact rows_eq (has_SL_OUTCFG (sub_bit hm (by decide)) i 5) (by omega)
  · exact rows_eq (has_SL_OUTSAFE (sub_bit hm (by decide)) i 5) (by omega)
  · exact rows_eq (has_SL_OUTCFG (sub_bit hm (by decide)) i 6) (by omega)
  · exact rows_eq (has_SL_OUTSAFE (sub_bit hm (by decide)) i 6) (by omega)
  · exact rows_eq (has_SL_OUTCFG (sub_bit hm (by decide)) i 7) (by omega)
  · exact rows_eq (has_SL_OUTSAFE (sub_bit hm (by decide)) i 7) (by omega)

theorem load_57C000 {msk : Nat} (hm : sub 0x100000000000000000000000000000000000000000000000000000000000000000000000000000000000 msk) (i : Nat) (j : Nat) (hj : j < 64) : RowsHave msk (0x57C000 + 0x100 * (i % 64) + 4 * j) :=
  rows_eq (has_COEF (sub_bit hm (by decide)) i j) (by rw [Nat.mod_eq_of_lt hj])

theorem load_5A0130 {msk : Nat} (hm : sub 0x1ff8000000000000000000000000000000000000000000000000000000000000000000000000000000000000000000000000 msk) (i : Nat) (j : Nat) (hj : j < 10) : RowsHave msk (0x5A0130 + 0x100 * (i % 6) + 4 * j) := by
  obtain rfl | rfl | rfl | rfl | rfl | rfl | rfl | rfl | rfl | rfl : j = 0 ∨ j = 1 ∨ j = 2 ∨ j = 3 ∨ j = 4 ∨ j = 5 ∨ j = 6 ∨ j = 7 ∨ j = 8 ∨ j = 9 := by omega
  · exact rows_eq (has_BP_NBT (sub_bit hm (by decide)) i) (by omega)
  · exact rows_eq (has_BP_DBT (sub_bit hm (by decide)) i) (by omega)
  · exact rows_eq (has_BP_TT (sub_bit hm (by decide)) i) (by omega)
  · exact rows_eq (has_BP_CYCLEN (sub_bit hm (by decide)) i) (by omega)
  · exact rows_eq (has_BP_REFID (sub_bit hm (by decide)) i) (by omega)
  · exact rows_eq (has_BP_HALT (sub_bit hm (by decide)) i) (by omega)
  · exact rows_eq (has_BP_HALTKEY (sub_bit hm (by decide)) i) (by omega)
  · exact rows_eq (has_BP_WAKE (sub_bit hm (by decide)) i) (by omega)
  · exact rows_eq (has_BP_WAKEM (sub_bit hm (by decide)) i) (by omega)
  · exact rows_eq (has_BP_WAKED (sub_bit hm (by decide)) i) (by omega)

theorem load_5B1000 {msk : Nat} (hm : sub 0xf800000000000000000000000000000000000000000000000000000000000000000000000000000000000000000000000000000000 msk) (i : Nat) (j : Nat) (hj : j < 5) : RowsHave msk (0x5B1000 + 0x20 * (i % 1024) + 4 * j) := by
  obtain rfl | rfl | rfl | rfl | rfl : j = 0 ∨ j = 1 ∨ j = 2 ∨ j = 3 ∨ j = 4 := by omega
  · exact rows_eq (has_CTX_CFG (sub_bit hm (by decide)) i) (by omega)
  · exact rows_eq (has_CTX_PERM (sub_bit hm (by decide)) i) (by omega)
  · exact rows_eq (has_CTX_READ (sub_bit hm (by decide)) i) (by omega)
  · exact rows_eq (has_CTX_OWN (sub_bit hm (by decide)) i) (by omega)
  · exact rows_eq (has_CTX_INH (sub_bit hm (by decide)) i) (by omega)

theorem State.loadOutlet_touch {msk : Nat} {org : State} (s : State) (o : Nat) (hm : sub 0x39ff800000000000000000000000000000000000000000000000 msk) (hz : Within msk org s) : Within msk org (State.loadOutlet s o) := by
  unfold State.loadOutlet
  repeat' with_reducible (first | assumption | intro _ | exact partOk_refl _ _ _ | apply State.loadWords_touch | apply State.setBit_touch | apply within_ite | apply within_ite_fst | apply rows_ite | apply rows_if | apply within_foldl | apply within_foldl_fst | split | (dsimp only; split) | apply within_mk)
  all_goals try with_reducible (first | refine has_OT_CFG ?_ _ | refine in_OT_CFG_SAFE_OPEN ?_ _ | refine load_470000 (sub_le (by decide) hm) _ _ (by assumption) | refine load_470030 (sub_le (by decide) hm) _ _ (by assumption))
  all_goals first | exact sub_le (by decide) hm | exact partOk_bit (sub_bit hm (by decide)) | exact sub_bit hm (by decide) | exact has_OT_CFG (sub_bit hm (by decide)) _ | exact in_OT_CFG_SAFE_OPEN (sub_bit hm (by decide)) _ | exact load_470000 (sub_le (by decide) hm) _ _ (by assumption) | exact load_470030 (sub_le (by decide) hm) _ _ (by assumption) | exact .inr rfl

theorem State.loadSwitch_touch {msk : Nat} {org : State} (s : State) (n : Nat) (hm : sub 0x1000000000000000000000000000000000000000000000006000000000000000000000000000000000000000000000000000000000000000000000000000000000000 msk) (hz : Within msk org s) : Within msk org (State.loadSwitch s n) := by
  unfold State.loadSwitch
  repeat' with_reducible (first | assumption | intro _ | exact partOk_refl _ _ _ | apply State.loadWords_touch | apply State.setLsw_touch | apply State.setFld_touch | apply within_ite | apply within_ite_fst | apply rows_ite | apply rows_if | apply within_foldl | apply within_foldl_fst | split | (dsimp only; split) | apply within_mk)
  all_goals try with_reducible (first | refine has_LS_CFG ?_ _ | refine load_580100 (sub_le (by decide) hm) _ _ (by assumption) | refine rows_eq (load_580100 (sub_le (by decide) hm) _ 0 (by decide)) rfl | refine load_580100 (sub_le (by decide) hm) _ 0 (by decide))
  all_goals first | exact sub_le (by decide) hm | exact partOk_bit (sub_bit hm (by decide)) | exact sub_bit hm (by decide) | exact has_LS_CFG (sub_bit hm (by decide)) _ | exact load_580100 (sub_le (by decide) hm) _ _ (by assumption) | exact rows_eq (load_580100 (sub_le (by decide) hm) _ 0 (by decide)) rfl | exact load_580100 (sub_le (by decide) hm) _ 0 (by decide) | exact .inr rfl

theorem State.stageField_touch {msk : Nat} {org : State} (s : State) (r : Option ImgRec) (i k : Nat) (hm : sub 0x2000000000000000000000000000000000000000000000000000000000000000000000000000000000000000000000000000000000000000000000000000000000000 msk) (hz : Within msk org s) : Within msk org (State.stageField s r i k) := by
  unfold State.stageField
  repeat' with_reducible (first | assumption | intro _ | exact partOk_refl _ _ _ | apply within_ite | apply within_ite_fst | apply rows_ite | apply rows_if | apply within_foldl | apply within_foldl_fst | split | (dsimp only; split) | apply within_mk)
  all_goals first | exact sub_le (by decide) hm | exact partOk_bit (sub_bit hm (by decide)) | exact sub_bit hm (by decide) | exact .inr rfl

theorem State.loadRec_touch {msk : Nat} {org : State} (s : State) (k : Nat × Nat) (hm : sub 0x3900000000000000000000000000200000000000000000007030000118000040000000003fff8000000000000000000000000020007f8001800404000000000000000 msk) (hz : Within msk org s) : Within msk org (State.loadRec s k) := by
  unfold State.loadRec
  repeat' with_reducible (first | assumption | intro _ | exact partOk_refl _ _ _ | apply State.loadWords_touch | apply State.setFld_touch | apply State.setReg_touch | apply State.stageField_touch | apply State.loadSwitch_touch | apply within_ite | apply within_ite_fst | apply rows_ite | apply rows_if | apply within_foldl | apply within_foldl_fst | split | (dsimp only; split) | apply within_mk)
  all_goals try with_reducible (first | refine has_ND_EXPECT ?_ _ _ | refine has_PF_CFG ?_ _ | refine has_PH_CFG ?_ _ _ | refine in_VCH_CFG_AUX ?_ _ | refine in_VCH_CFG_MOD_AUX ?_ _ | refine has_PROG ?_ _ _ | refine has_TBL ?_ _ _ | refine in_PC_STAT_VALID ?_ _ | refine has_PC_CFG ?_ _ | refine has_HP_DIRECT ?_ _ | refine has_LS_WD ?_ | refine has_CL_COMMIT ?_ _ | refine has_MAP_LAYER ?_ _ | refine has_RT_STAGED ?_ _ _ | refine has_RT_ENTRY ?_ _ _ | refine has_FRM_CFG ?_ | refine has_MAP_CTRL ?_ | refine load_530118 (sub_le (by decide) hm) _ _ (by assumption) | refine load_521000 (sub_le (by decide) hm) _ _ (by assumption) | refine load_521040 (sub_le (by decide) hm) _ _ (by assumption) | refine load_550000 (sub_le (by decide) hm) _ _ (by assumption) | refine load_548000 (sub_le (by decide) hm) _ _ (by assumption) | refine load_540300 (sub_le (by decide) hm) _ _ (by assumption) | refine load_5B0020 (sub_le (by decide) hm) _ (by assumption) | refine load_58000C (sub_le (by decide) hm) _ (by assumption) | refine load_40C100 (sub_le (by decide) hm) _ _ (by assumption) | refine load_409020 (sub_le (by decide) hm) _ _ (by assumption) | refine load_40A400 (sub_le (by decide) hm) _ _ (by assumption) | refine load_40A800 (sub_le (by decide) hm) _ _ (by assumption) | refine load_410030 (sub_le (by decide) hm) _ (by assumption) | refine load_409000 (sub_le (by decide) hm) _ (by assumption) | refine load_550000 (sub_le (by decide) hm) _ _ (Nat.mod_lt _ (by decide)))
  all_goals first | exact sub_le (by decide) hm | exact partOk_bit (sub_bit hm (by decide)) | exact sub_bit hm (by decide) | exact has_ND_EXPECT (sub_bit hm (by decide)) _ _ | exact has_PF_CFG (sub_bit hm (by decide)) _ | exact has_PH_CFG (sub_bit hm (by decide)) _ _ | exact in_VCH_CFG_AUX (sub_bit hm (by decide)) _ | exact in_VCH_CFG_MOD_AUX (sub_bit hm (by decide)) _ | exact has_PROG (sub_bit hm (by decide)) _ _ | exact has_TBL (sub_bit hm (by decide)) _ _ | exact in_PC_STAT_VALID (sub_bit hm (by decide)) _ | exact has_PC_CFG (sub_bit hm (by decide)) _ | exact has_HP_DIRECT (sub_bit hm (by decide)) _ | exact has_LS_WD (sub_bit hm (by decide)) | exact has_CL_COMMIT (sub_bit hm (by decide)) _ | exact has_MAP_LAYER (sub_bit hm (by decide)) _ | exact has_RT_STAGED (sub_bit hm (by decide)) _ _ | exact has_RT_ENTRY (sub_bit hm (by decide)) _ _ | exact has_FRM_CFG (sub_bit hm (by decide)) | exact has_MAP_CTRL (sub_bit hm (by decide)) | exact load_530118 (sub_le (by decide) hm) _ _ (by assumption) | exact load_521000 (sub_le (by decide) hm) _ _ (by assumption) | exact load_521040 (sub_le (by decide) hm) _ _ (by assumption) | exact load_550000 (sub_le (by decide) hm) _ _ (by assumption) | exact load_548000 (sub_le (by decide) hm) _ _ (by assumption) | exact load_540300 (sub_le (by decide) hm) _ _ (by assumption) | exact load_5B0020 (sub_le (by decide) hm) _ (by assumption) | exact load_58000C (sub_le (by decide) hm) _ (by assumption) | exact load_40C100 (sub_le (by decide) hm) _ _ (by assumption) | exact load_409020 (sub_le (by decide) hm) _ _ (by assumption) | exact load_40A400 (sub_le (by decide) hm) _ _ (by assumption) | exact load_40A800 (sub_le (by decide) hm) _ _ (by assumption) | exact load_410030 (sub_le (by decide) hm) _ (by assumption) | exact load_409000 (sub_le (by decide) hm) _ (by assumption) | exact load_550000 (sub_le (by decide) hm) _ _ (Nat.mod_lt _ (by decide)) | exact .inr rfl

theorem State.removeOutlets_touch {msk : Nat} {org : State} (s : State) (os : List Nat) (hm : sub 0x13fe0000003611820000000010800000000000000000000000000000000000000180000004000000004000000000000000000000000000010000000000000000140400 msk) (hz : Within msk org s) : Within msk org (State.removeOutlets s os) := by
  unfold State.removeOutlets
  repeat' with_reducible (first | assumption | intro _ | exact partOk_refl _ _ _ | apply State.withdrawAll_touch | apply State.setLink_touch | apply State.holdRefresh_touch | apply State.bringClosed_touch | apply State.setFld_touch | apply within_ite | apply within_ite_fst | apply rows_ite | apply rows_if | apply within_foldl | apply within_foldl_fst | split | (dsimp only; split) | apply within_mk)
  all_goals try with_reducible (first | refine in_OT_STATE_LANDING ?_ _ | refine in_OT_STATE_UNSURE ?_ _ | refine in_OT_STATE_SEALED_OPEN ?_ _)
  all_goals first | exact sub_le (by decide) hm | exact partOk_bit (sub_bit hm (by decide)) | exact sub_bit hm (by decide) | exact in_OT_STATE_LANDING (sub_bit hm (by decide)) _ | exact in_OT_STATE_UNSURE (sub_bit hm (by decide)) _ | exact in_OT_STATE_SEALED_OPEN (sub_bit hm (by decide)) _ | exact .inr rfl

theorem State.undefine_touch {msk : Nat} {org : State} (s : State) (o : Nat) (hm : sub 0x4000000000000000000000000000000000000000000000000000 msk) (hz : Within msk org s) : Within msk org (State.undefine s o) := by
  unfold State.undefine
  repeat' with_reducible (first | assumption | intro _ | exact partOk_refl _ _ _ | apply State.setFld_touch | apply within_ite | apply within_ite_fst | apply rows_ite | apply rows_if | apply within_foldl | apply within_foldl_fst | split | (dsimp only; split) | apply within_mk)
  all_goals try with_reducible (first | refine in_OT_STATE_DELAY_RANGE ?_ _ | refine in_OT_STATE_DIVERGENT ?_ _ | refine in_OT_STATE_TARGET_ABSENT ?_ _ | refine in_OT_STATE_PLANNABLE ?_ _)
  all_goals first | exact sub_le (by decide) hm | exact partOk_bit (sub_bit hm (by decide)) | exact sub_bit hm (by decide) | exact in_OT_STATE_DELAY_RANGE (sub_bit hm (by decide)) _ | exact in_OT_STATE_DIVERGENT (sub_bit hm (by decide)) _ | exact in_OT_STATE_TARGET_ABSENT (sub_bit hm (by decide)) _ | exact in_OT_STATE_PLANNABLE (sub_bit hm (by decide)) _ | exact .inr rfl

theorem State.learnedAt_touch {msk : Nat} {org : State} (s : State) (keep quiet : Bool) (o kind : Nat) (hm : sub 0x600000000000000000000001800000000000000000000000000 msk) (hz : Within msk org s) : Within msk org (State.learnedAt s keep quiet o kind) := by
  unfold State.learnedAt
  repeat' with_reducible (first | assumption | intro _ | exact partOk_refl _ _ _ | apply State.setFld_touch | apply State.setBit_touch | apply within_ite | apply within_ite_fst | apply rows_ite | apply rows_if | apply within_foldl | apply within_foldl_fst | split | (dsimp only; split) | apply within_mk)
  all_goals try with_reducible (first | refine in_learnedF ?_ ?_ _ _ | refine in_OT_LRN_OPEN_SEEDED ?_ _ | refine in_OT_LRN_CLOSE_SEEDED ?_ _ | refine in_lrnF ?_ ?_ _ _ | refine in_jitOkF ?_ ?_ _ _ | refine in_sealsF ?_ ?_ _ _ | refine in_jitF ?_ ?_ _ _)
  all_goals first | exact sub_le (by decide) hm | exact partOk_bit (sub_bit hm (by decide)) | exact sub_bit hm (by decide) | exact in_learnedF (sub_bit hm (by decide)) (sub_bit hm (by decide)) _ _ | exact in_OT_LRN_OPEN_SEEDED (sub_bit hm (by decide)) _ | exact in_OT_LRN_CLOSE_SEEDED (sub_bit hm (by decide)) _ | exact in_lrnF (sub_bit hm (by decide)) (sub_bit hm (by decide)) _ _ | exact in_jitOkF (sub_bit hm (by decide)) (sub_bit hm (by decide)) _ _ | exact in_sealsF (sub_bit hm (by decide)) (sub_bit hm (by decide)) _ _ | exact in_jitF (sub_bit hm (by decide)) (sub_bit hm (by decide)) _ _ | exact .inr rfl

theorem State.activateOutlets_touch {msk : Nat} {org : State} (s : State) (old : List ImgRec) (ks : List (Nat × Nat)) (quiet : Bool) (hm : sub 0x13fe0000003611820000000010800000000000000000000000000000000000000180000004000000007fff800000000000000000001800010000000000000000140400 msk) (hz : Within msk org s) : Within msk org (State.activateOutlets s old ks quiet) := by
  unfold State.activateOutlets
  repeat' with_reducible (first | assumption | intro _ | exact partOk_refl _ _ _ | apply Run.st_touch | apply State.cancelEntry_touch | apply State.removeOutlets_touch | apply State.loadOutlet_touch | apply State.undefine_touch | apply State.learnedAt_touch | apply State.setFld_touch | apply within_ite | apply within_ite_fst | apply rows_ite | apply rows_if | apply within_foldl | apply within_foldl_fst | split | (dsimp only; split) | apply within_mk)
  all_goals try with_reducible (first | refine in_OT_LRN_OPEN_SEEDED ?_ _ | refine in_OT_LRN_CLOSE_SEEDED ?_ _ | refine in_learnedF ?_ ?_ _ _ | refine in_lrnF ?_ ?_ _ _ | refine in_jitOkF ?_ ?_ _ _ | refine in_sealsF ?_ ?_ _ _ | refine in_jitF ?_ ?_ _ _)
  all_goals first | exact sub_le (by decide) hm | exact partOk_bit (sub_bit hm (by decide)) | exact sub_bit hm (by decide) | exact in_OT_LRN_OPEN_SEEDED (sub_bit hm (by decide)) _ | exact in_OT_LRN_CLOSE_SEEDED (sub_bit hm (by decide)) _ | exact in_learnedF (sub_bit hm (by decide)) (sub_bit hm (by decide)) _ _ | exact in_lrnF (sub_bit hm (by decide)) (sub_bit hm (by decide)) _ _ | exact in_jitOkF (sub_bit hm (by decide)) (sub_bit hm (by decide)) _ _ | exact in_sealsF (sub_bit hm (by decide)) (sub_bit hm (by decide)) _ _ | exact in_jitF (sub_bit hm (by decide)) (sub_bit hm (by decide)) _ _ | exact .inr rfl

theorem State.activateLinks_touch {msk : Nat} {org : State} (s : State) (hm : sub 0x400000000000000000000000000000000000000000000000000000000000000180000000000000004000000000000000000000000000000000000000000000000000 msk) (hz : Within msk org s) : Within msk org (State.activateLinks s) := by
  unfold State.activateLinks
  repeat' with_reducible (first | assumption | intro _ | exact partOk_refl _ _ _ | apply State.setLink_touch | apply State.refreshTargets_touch | apply State.sendSafeMap_touch | apply State.holdRefresh_touch | apply within_ite | apply within_ite_fst | apply rows_ite | apply rows_if | apply within_foldl | apply within_foldl_fst | split | (dsimp only; split) | apply within_mk)
  all_goals first | exact sub_le (by decide) hm | exact partOk_bit (sub_bit hm (by decide)) | exact sub_bit hm (by decide) | exact .inr rfl

theorem State.keepPhases_touch {msk : Nat} {org : State} (s : State) (hm : sub 0x200000000000000000000000000000000000000000000000000000000000000000000000000000000000000000000000000000000000000000000000000000000000 msk) (hz : Within msk org s) : Within msk org (State.keepPhases s) := by
  unfold State.keepPhases
  repeat' with_reducible (first | assumption | intro _ | exact partOk_refl _ _ _ | apply Run.st_touch | apply State.setValve_touch | apply within_ite | apply within_ite_fst | apply rows_ite | apply rows_if | apply within_foldl | apply within_foldl_fst | split | (dsimp only; split) | apply within_mk)
  all_goals first | exact sub_le (by decide) hm | exact partOk_bit (sub_bit hm (by decide)) | exact sub_bit hm (by decide) | exact .inr rfl

theorem State.mapValve_touch {msk : Nat} {org : State} (s : State) (n o : Nat) (hm : sub 0x200000000000000000000000000000000000000000000000000000000000000000000006000000000000000000000000000000000000000000000000000000000000 msk) (hz : Within msk org s) : Within msk org (State.mapValve s n o) := by
  unfold State.mapValve
  repeat' with_reducible (first | assumption | intro _ | exact partOk_refl _ _ _ | apply State.setFld_touch | apply State.vTo_touch | apply State.setValve_touch | apply within_ite | apply within_ite_fst | apply rows_ite | apply rows_if | apply within_foldl | apply within_foldl_fst | split | (dsimp only; split) | apply within_mk)
  all_goals try with_reducible (first | refine in_VCH_CFG_PROFILE ?_ _ | refine in_VCH_CFG_MAPPED ?_ _ | refine in_VCH_CFG_OUTLET ?_ _)
  all_goals first | exact sub_le (by decide) hm | exact partOk_bit (sub_bit hm (by decide)) | exact sub_bit hm (by decide) | exact in_VCH_CFG_PROFILE (sub_bit hm (by decide)) _ | exact in_VCH_CFG_MAPPED (sub_bit hm (by decide)) _ | exact in_VCH_CFG_OUTLET (sub_bit hm (by decide)) _ | exact .inr rfl

theorem State.unmapValve_touch {msk : Nat} {org : State} (s : State) (n : Nat) (hm : sub 0x200000000000000000000000000000000000000000000000000000000000000000000006000000000000000000000000000000000000000000000000000000000000 msk) (hz : Within msk org s) : Within msk org (State.unmapValve s n) := by
  unfold State.unmapValve
  repeat' with_reducible (first | assumption | intro _ | exact partOk_refl _ _ _ | apply State.setFld_touch | apply State.setValve_touch | apply State.vClose_touch | apply within_ite | apply within_ite_fst | apply rows_ite | apply rows_if | apply within_foldl | apply within_foldl_fst | split | (dsimp only; split) | apply within_mk)
  all_goals try with_reducible (first | refine in_VCH_CFG_PROFILE ?_ _ | refine in_VCH_CFG_MAPPED ?_ _ | refine in_VCH_CFG_OUTLET ?_ _)
  all_goals first | exact sub_le (by decide) hm | exact partOk_bit (sub_bit hm (by decide)) | exact sub_bit hm (by decide) | exact in_VCH_CFG_PROFILE (sub_bit hm (by decide)) _ | exact in_VCH_CFG_MAPPED (sub_bit hm (by decide)) _ | exact in_VCH_CFG_OUTLET (sub_bit hm (by decide)) _ | exact .inr rfl

theorem State.ledgerUnits_touch {msk : Nat} {org : State} (s : State) (hm : sub 0x81000000000000000000000000000000000000000000000000000000000000000 msk) (hz : Within msk org s) : Within msk org (State.ledgerUnits s) := by
  unfold State.ledgerUnits
  repeat' with_reducible (first | assumption | intro _ | exact partOk_refl _ _ _ | apply State.setBit_touch | apply within_ite | apply within_ite_fst | apply rows_ite | apply rows_if | apply within_foldl | apply within_foldl_fst | split | (dsimp only; split) | apply within_mk)
  all_goals try with_reducible (first | refine in_uLedger ?_ ?_ _)
  all_goals first | exact sub_le (by decide) hm | exact partOk_bit (sub_bit hm (by decide)) | exact sub_bit hm (by decide) | exact in_uLedger (sub_bit hm (by decide)) (sub_bit hm (by decide)) _ | exact .inr rfl

theorem State.mapValves_touch {msk : Nat} {org : State} (s : State) (hm : sub 0x200000000000000000000000000000000000000000000000000000000000000000081006000000000000000000000000000000000000000000000000000000000000 msk) (hz : Within msk org s) : Within msk org (State.mapValves s) := by
  unfold State.mapValves
  repeat' with_reducible (first | assumption | intro _ | exact partOk_refl _ _ _ | apply State.mapValve_touch | apply State.unmapValve_touch | apply State.ledgerUnits_touch | apply within_ite | apply within_ite_fst | apply rows_ite | apply rows_if | apply within_foldl | apply within_foldl_fst | split | (dsimp only; split) | apply within_mk)
  all_goals first | exact sub_le (by decide) hm | exact partOk_bit (sub_bit hm (by decide)) | exact sub_bit hm (by decide) | exact .inr rfl

theorem State.slotHeld_touch {msk : Nat} {org : State} (s : State) (n : Nat) (hm : sub 0x584000000000000000000001080000000000000004000002000008f400002000000000000000000000000000000000000000000000000000000000000000000000000 msk) (hz : Within msk org s) : Within msk org (State.slotHeld s n) := by
  unfold State.slotHeld
  repeat' with_reducible (first | assumption | intro _ | exact partOk_refl _ _ _ | apply State.slotSafe_touch | apply within_ite | apply within_ite_fst | apply rows_ite | apply rows_if | apply within_foldl | apply within_foldl_fst | split | (dsimp only; split) | apply within_mk)
  all_goals first | exact sub_le (by decide) hm | exact partOk_bit (sub_bit hm (by decide)) | exact sub_bit hm (by decide) | exact .inr rfl

theorem State.activateSlot_touch {msk : Nat} {org : State} (s : State) (n : Nat) (hm : sub 0x584000000000000000000001080000000000000004000002018ff8fc00002000000000000000000000000000000000000000000000000000000000000000000000000 msk) (hz : Within msk org s) : Within msk org (State.activateSlot s n) := by
  unfold State.activateSlot
  repeat' with_reducible (first | assumption | intro _ | exact partOk_refl _ _ _ | apply State.setSlot_touch | apply State.setReg_touch | apply State.loadWords_touch | apply State.loadData_touch | apply State.setFld_touch | apply State.slotStop_touch | apply State.slotSoft_touch | apply State.slotHeld_touch | apply State.setBit_touch | apply within_ite | apply within_ite_fst | apply rows_ite | apply rows_if | apply within_foldl | apply within_foldl_fst | split | (dsimp only; split) | apply within_mk)
  all_goals try with_reducible (first | refine has_SL_STATE ?_ _ | refine has_SL_IN ?_ _ _ | refine has_SL_CFG ?_ _ | refine has_COEF ?_ _ _ | refine in_SL_CTRL_EN ?_ _ | refine load_541040 (sub_le (by decide) hm) _ _ (by assumption) | refine load_541060 (sub_le (by decide) hm) _ _ (by assumption) | refine load_57C000 (sub_le (by decide) hm) _ _ (by assumption) | refine in_SL_STATE_STATE ?_ _ | refine has_SL_STATE ?_ _)
  all_goals first | exact sub_le (by decide) hm | exact partOk_bit (sub_bit hm (by decide)) | exact sub_bit hm (by decide) | exact has_SL_STATE (sub_bit hm (by decide)) _ | exact has_SL_IN (sub_bit hm (by decide)) _ _ | exact has_SL_CFG (sub_bit hm (by decide)) _ | exact has_COEF (sub_bit hm (by decide)) _ _ | exact in_SL_CTRL_EN (sub_bit hm (by decide)) _ | exact load_541040 (sub_le (by decide) hm) _ _ (by assumption) | exact load_541060 (sub_le (by decide) hm) _ _ (by assumption) | exact load_57C000 (sub_le (by decide) hm) _ _ (by assumption) | exact in_SL_STATE_STATE (sub_bit hm (by decide)) _ | exact has_SL_STATE (sub_bit hm (by decide)) _ | exact .inr rfl

theorem State.activatePort_touch {msk : Nat} {org : State} (s : State) (p : Nat) (hm : sub 0x4040000000000000000000010810000001ff8038000000000000000000000000000000000000000000000000000000000000000000000000000000000000000000620 msk) (hz : Within msk org s) : Within msk org (State.activatePort s p) := by
  unfold State.activatePort
  repeat' with_reducible (first | assumption | intro _ | exact partOk_refl _ _ _ | apply State.portOff_touch | apply State.loadWords_touch | apply State.setTxObj_touch | apply State.setFld_touch | apply State.portJoin_touch | apply within_ite | apply within_ite_fst | apply rows_ite | apply rows_if | apply within_foldl | apply within_foldl_fst | split | (dsimp only; split) | apply within_mk)
  all_goals try with_reducible (first | refine has_BP_NBT ?_ _ | refine in_BP_CTRL_MODE ?_ _ | refine load_5A0130 (sub_le (by decide) hm) _ _ (by assumption))
  all_goals first | exact sub_le (by decide) hm | exact partOk_bit (sub_bit hm (by decide)) | exact sub_bit hm (by decide) | exact has_BP_NBT (sub_bit hm (by decide)) _ | exact in_BP_CTRL_MODE (sub_bit hm (by decide)) _ | exact load_5A0130 (sub_le (by decide) hm) _ _ (by assumption) | exact .inr rfl

theorem State.activateContext_touch {msk : Nat} {org : State} (s : State) (c : Nat) (hm : sub 0x14080000000000000000001085f8000000000000000000000000000000000000000000000000000040000000000000000000000000000000000000000000000206a0 msk) (hz : Within msk org s) : Within msk org (State.activateContext s c) := by
  unfold State.activateContext
  repeat' with_reducible (first | assumption | intro _ | exact partOk_refl _ _ _ | apply State.unbind_touch | apply State.loadWords_touch | apply State.setBit_touch | apply State.freeOwner_touch | apply within_ite | apply within_ite_fst | apply rows_ite | apply rows_if | apply within_foldl | apply within_foldl_fst | split | (dsimp only; split) | apply within_mk)
  all_goals try with_reducible (first | refine has_CTX_CFG ?_ _ | refine in_CTX_CFG_BOUND ?_ _ | refine load_5B1000 (sub_le (by decide) hm) _ _ (by assumption))
  all_goals first | exact sub_le (by decide) hm | exact partOk_bit (sub_bit hm (by decide)) | exact sub_bit hm (by decide) | exact has_CTX_CFG (sub_bit hm (by decide)) _ | exact in_CTX_CFG_BOUND (sub_bit hm (by decide)) _ | exact load_5B1000 (sub_le (by decide) hm) _ _ (by assumption) | exact .inr rfl

theorem State.shadowWrites_touch {msk : Nat} {org : State} (s : State) (hm : sub 0x3000000000000000000000000000000000000000000004000200000000000000000000000000000000000000000000000000000000000000000000000000000000000 msk) (hz : Within msk org s) : Within msk org (State.shadowWrites s) := by
  unfold State.shadowWrites
  repeat' with_reducible (first | assumption | intro _ | exact partOk_refl _ _ _ | apply State.lsShadowWrite_touch | apply State.fdShadowWrite_touch | apply within_ite | apply within_ite_fst | apply rows_ite | apply rows_if | apply within_foldl | apply within_foldl_fst | split | (dsimp only; split) | apply within_mk)
  all_goals first | exact sub_le (by decide) hm | exact partOk_bit (sub_bit hm (by decide)) | exact sub_bit hm (by decide) | exact .inr rfl

theorem State.framesStart_touch {msk : Nat} {org : State} (s : State) (hm : sub 0x4000000000000000000000000000000000000000000000000000000000000000000000000000000000000000000000000000000000000000000000000000000000 msk) (hz : Within msk org s) : Within msk org (State.framesStart s) := by
  unfold State.framesStart
  repeat' with_reducible (first | assumption | intro _ | exact partOk_refl _ _ _ | apply within_ite | apply within_ite_fst | apply rows_ite | apply rows_if | apply within_foldl | apply within_foldl_fst | split | (dsimp only; split) | apply within_mk)
  all_goals first | exact sub_le (by decide) hm | exact partOk_bit (sub_bit hm (by decide)) | exact sub_bit hm (by decide) | exact .inr rfl

theorem State.activate_touch {msk : Nat} {org : State} (s : State) (m : Image) (live : Bool) (hm : sub 0x1fff480000361182000000001085fa00001ff80380400040273bff8fd18002041198081007fff800007fff800000000006000002001ff8011c0046c000010f809606a0 msk) (hz : Within msk org s) : Within msk org (State.activate s m live) := by
  unfold State.activate
  extract_lets old first ks has q0 q1 s0 cs s1 s2 s3 s4 s5 s6 s7 s8 q2 s9 s11 s12 s13 s14
  have h_s0 : Within msk org s0 := by
    dsimp only [s0, q0, q1]
    ((repeat' with_reducible (first | assumption | intro _ | exact partOk_refl _ _ _ | apply State.keepPhases_touch | apply State.activateContext_touch | apply State.loadRec_touch | apply State.activateOutlets_touch | apply State.mapValves_touch | apply State.activateLinks_touch | apply State.activatePort_touch | apply State.activateSlot_touch | apply State.modeBoundary_touch | apply State.shadowWrites_touch | apply State.framesStart_touch | apply State.setFld_touch | apply State.setReg_touch | apply State.poWake_touch | apply State.raise_touch | apply State.canvas_touch | apply within_ite | apply within_ite_fst | apply rows_ite | apply rows_if | apply within_foldl | apply within_foldl_fst | split | (dsimp only; split) | apply within_mk)); (all_goals try with_reducible (first | refine has_IMG_ACTIVE_ID ?_ | refine in_IMG_STATUS_LIVE ?_ | refine in_IMG_STATUS_STAGE ?_ | refine in_IMG_STATUS_ACTIVE ?_ | refine in_IMG_ACTIVE_VER_SEC_VER ?_ | refine in_IMG_ACTIVE_VER_IMAGE_VER ?_ | refine has_IMG_DIFF ?_ | refine has_IMG_STAGED_VER ?_ | refine has_IMG_STAGED_ID ?_ | refine in_IMG_EVENT_ACTIVATED ?_)); (all_goals first | exact sub_le (by decide) hm | exact partOk_bit (sub_bit hm (by decide)) | exact sub_bit hm (by decide) | exact has_IMG_ACTIVE_ID (sub_bit hm (by decide)) | exact in_IMG_STATUS_LIVE (sub_bit hm (by decide)) | exact in_IMG_STATUS_STAGE (sub_bit hm (by decide)) | exact in_IMG_STATUS_ACTIVE (sub_bit hm (by decide)) | exact in_IMG_ACTIVE_VER_SEC_VER (sub_bit hm (by decide)) | exact in_IMG_ACTIVE_VER_IMAGE_VER (sub_bit hm (by decide)) | exact has_IMG_DIFF (sub_bit hm (by decide)) | exact has_IMG_STAGED_VER (sub_bit hm (by decide)) | exact has_IMG_STAGED_ID (sub_bit hm (by decide)) | exact in_IMG_EVENT_ACTIVATED (sub_bit hm (by decide)) | exact .inr rfl))
  clear_value s0
  have h_s1 : Within msk org s1 := by
    dsimp only [s1]
    ((repeat' with_reducible (first | assumption | intro _ | exact partOk_refl _ _ _ | apply State.keepPhases_touch | apply State.activateContext_touch | apply State.loadRec_touch | apply State.activateOutlets_touch | apply State.mapValves_touch | apply State.activateLinks_touch | apply State.activatePort_touch | apply State.activateSlot_touch | apply State.modeBoundary_touch | apply State.shadowWrites_touch | apply State.framesStart_touch | apply State.setFld_touch | apply State.setReg_touch | apply State.poWake_touch | apply State.raise_touch | apply State.canvas_touch | apply within_ite | apply within_ite_fst | apply rows_ite | apply rows_if | apply within_foldl | apply within_foldl_fst | split | (dsimp only; split) | apply within_mk)); (all_goals try with_reducible (first | refine has_IMG_ACTIVE_ID ?_ | refine in_IMG_STATUS_LIVE ?_ | refine in_IMG_STATUS_STAGE ?_ | refine in_IMG_STATUS_ACTIVE ?_ | refine in_IMG_ACTIVE_VER_SEC_VER ?_ | refine in_IMG_ACTIVE_VER_IMAGE_VER ?_ | refine has_IMG_DIFF ?_ | refine has_IMG_STAGED_VER ?_ | refine has_IMG_STAGED_ID ?_ | refine in_IMG_EVENT_ACTIVATED ?_)); (all_goals first | exact sub_le (by decide) hm | exact partOk_bit (sub_bit hm (by decide)) | exact sub_bit hm (by decide) | exact has_IMG_ACTIVE_ID (sub_bit hm (by decide)) | exact in_IMG_STATUS_LIVE (sub_bit hm (by decide)) | exact in_IMG_STATUS_STAGE (sub_bit hm (by decide)) | exact in_IMG_STATUS_ACTIVE (sub_bit hm (by decide)) | exact in_IMG_ACTIVE_VER_SEC_VER (sub_bit hm (by decide)) | exact in_IMG_ACTIVE_VER_IMAGE_VER (sub_bit hm (by decide)) | exact has_IMG_DIFF (sub_bit hm (by decide)) | exact has_IMG_STAGED_VER (sub_bit hm (by decide)) | exact has_IMG_STAGED_ID (sub_bit hm (by decide)) | exact in_IMG_EVENT_ACTIVATED (sub_bit hm (by decide)) | exact .inr rfl))
  clear_value s1
  have h_s2 : Within msk org s2 := by
    dsimp only [s2]
    ((repeat' with_reducible (first | assumption | intro _ | exact partOk_refl _ _ _ | apply State.keepPhases_touch | apply State.activateContext_touch | apply State.loadRec_touch | apply State.activateOutlets_touch | apply State.mapValves_touch | apply State.activateLinks_touch | apply State.activatePort_touch | apply State.activateSlot_touch | apply State.modeBoundary_touch | apply State.shadowWrites_touch | apply State.framesStart_touch | apply State.setFld_touch | apply State.setReg_touch | apply State.poWake_touch | apply State.raise_touch | apply State.canvas_touch | apply within_ite | apply within_ite_fst | apply rows_ite | apply rows_if | apply within_foldl | apply within_foldl_fst | split | (dsimp only; split) | apply within_mk)); (all_goals try with_reducible (first | refine has_IMG_ACTIVE_ID ?_ | refine in_IMG_STATUS_LIVE ?_ | refine in_IMG_STATUS_STAGE ?_ | refine in_IMG_STATUS_ACTIVE ?_ | refine in_IMG_ACTIVE_VER_SEC_VER ?_ | refine in_IMG_ACTIVE_VER_IMAGE_VER ?_ | refine has_IMG_DIFF ?_ | refine has_IMG_STAGED_VER ?_ | refine has_IMG_STAGED_ID ?_ | refine in_IMG_EVENT_ACTIVATED ?_)); (all_goals first | exact sub_le (by decide) hm | exact partOk_bit (sub_bit hm (by decide)) | exact sub_bit hm (by decide) | exact has_IMG_ACTIVE_ID (sub_bit hm (by decide)) | exact in_IMG_STATUS_LIVE (sub_bit hm (by decide)) | exact in_IMG_STATUS_STAGE (sub_bit hm (by decide)) | exact in_IMG_STATUS_ACTIVE (sub_bit hm (by decide)) | exact in_IMG_ACTIVE_VER_SEC_VER (sub_bit hm (by decide)) | exact in_IMG_ACTIVE_VER_IMAGE_VER (sub_bit hm (by decide)) | exact has_IMG_DIFF (sub_bit hm (by decide)) | exact has_IMG_STAGED_VER (sub_bit hm (by decide)) | exact has_IMG_STAGED_ID (sub_bit hm (by decide)) | exact in_IMG_EVENT_ACTIVATED (sub_bit hm (by decide)) | exact .inr rfl))
  clear_value s2
  have h_s3 : Within msk org s3 := by
    dsimp only [s3]
    ((repeat' with_reducible (first | assumption | intro _ | exact partOk_refl _ _ _ | apply State.keepPhases_touch | apply State.activateContext_touch | apply State.loadRec_touch | apply State.activateOutlets_touch | apply State.mapValves_touch | apply State.activateLinks_touch | apply State.activatePort_touch | apply State.activateSlot_touch | apply State.modeBoundary_touch | apply State.shadowWrites_touch | apply State.framesStart_touch | apply State.setFld_touch | apply State.setReg_touch | apply State.poWake_touch | apply State.raise_touch | apply State.canvas_touch | apply within_ite | apply within_ite_fst | apply rows_ite | apply rows_if | apply within_foldl | apply within_foldl_fst | split | (dsimp only; split) | apply within_mk)); (all_goals try with_reducible (first | refine has_IMG_ACTIVE_ID ?_ | refine in_IMG_STATUS_LIVE ?_ | refine in_IMG_STATUS_STAGE ?_ | refine in_IMG_STATUS_ACTIVE ?_ | refine in_IMG_ACTIVE_VER_SEC_VER ?_ | refine in_IMG_ACTIVE_VER_IMAGE_VER ?_ | refine has_IMG_DIFF ?_ | refine has_IMG_STAGED_VER ?_ | refine has_IMG_STAGED_ID ?_ | refine in_IMG_EVENT_ACTIVATED ?_)); (all_goals first | exact sub_le (by decide) hm | exact partOk_bit (sub_bit hm (by decide)) | exact sub_bit hm (by decide) | exact has_IMG_ACTIVE_ID (sub_bit hm (by decide)) | exact in_IMG_STATUS_LIVE (sub_bit hm (by decide)) | exact in_IMG_STATUS_STAGE (sub_bit hm (by decide)) | exact in_IMG_STATUS_ACTIVE (sub_bit hm (by decide)) | exact in_IMG_ACTIVE_VER_SEC_VER (sub_bit hm (by decide)) | exact in_IMG_ACTIVE_VER_IMAGE_VER (sub_bit hm (by decide)) | exact has_IMG_DIFF (sub_bit hm (by decide)) | exact has_IMG_STAGED_VER (sub_bit hm (by decide)) | exact has_IMG_STAGED_ID (sub_bit hm (by decide)) | exact in_IMG_EVENT_ACTIVATED (sub_bit hm (by decide)) | exact .inr rfl))
  clear_value s3
  have h_s4 : Within msk org s4 := by
    dsimp only [s4]
    ((repeat' with_reducible (first | assumption | intro _ | exact partOk_refl _ _ _ | apply State.keepPhases_touch | apply State.activateContext_touch | apply State.loadRec_touch | apply State.activateOutlets_touch | apply State.mapValves_touch | apply State.activateLinks_touch | apply State.activatePort_touch | apply State.activateSlot_touch | apply State.modeBoundary_touch | apply State.shadowWrites_touch | apply State.framesStart_touch | apply State.setFld_touch | apply State.setReg_touch | apply State.poWake_touch | apply State.raise_touch | apply State.canvas_touch | apply within_ite | apply within_ite_fst | apply rows_ite | apply rows_if | apply within_foldl | apply within_foldl_fst | split | (dsimp only; split) | apply within_mk)); (all_goals try with_reducible (first | refine has_IMG_ACTIVE_ID ?_ | refine in_IMG_STATUS_LIVE ?_ | refine in_IMG_STATUS_STAGE ?_ | refine in_IMG_STATUS_ACTIVE ?_ | refine in_IMG_ACTIVE_VER_SEC_VER ?_ | refine in_IMG_ACTIVE_VER_IMAGE_VER ?_ | refine has_IMG_DIFF ?_ | refine has_IMG_STAGED_VER ?_ | refine has_IMG_STAGED_ID ?_ | refine in_IMG_EVENT_ACTIVATED ?_)); (all_goals first | exact sub_le (by decide) hm | exact partOk_bit (sub_bit hm (by decide)) | exact sub_bit hm (by decide) | exact has_IMG_ACTIVE_ID (sub_bit hm (by decide)) | exact in_IMG_STATUS_LIVE (sub_bit hm (by decide)) | exact in_IMG_STATUS_STAGE (sub_bit hm (by decide)) | exact in_IMG_STATUS_ACTIVE (sub_bit hm (by decide)) | exact in_IMG_ACTIVE_VER_SEC_VER (sub_bit hm (by decide)) | exact in_IMG_ACTIVE_VER_IMAGE_VER (sub_bit hm (by decide)) | exact has_IMG_DIFF (sub_bit hm (by decide)) | exact has_IMG_STAGED_VER (sub_bit hm (by decide)) | exact has_IMG_STAGED_ID (sub_bit hm (by decide)) | exact in_IMG_EVENT_ACTIVATED (sub_bit hm (by decide)) | exact .inr rfl))
  clear_value s4
  have h_s5 : Within msk org s5 := by
    dsimp only [s5]
    ((repeat' with_reducible (first | assumption | intro _ | exact partOk_refl _ _ _ | apply State.keepPhases_touch | apply State.activateContext_touch | apply State.loadRec_touch | apply State.activateOutlets_touch | apply State.mapValves_touch | apply State.activateLinks_touch | apply State.activatePort_touch | apply State.activateSlot_touch | apply State.modeBoundary_touch | apply State.shadowWrites_touch | apply State.framesStart_touch | apply State.setFld_touch | apply State.setReg_touch | apply State.poWake_touch | apply State.raise_touch | apply State.canvas_touch | apply within_ite | apply within_ite_fst | apply rows_ite | apply rows_if | apply within_foldl | apply within_foldl_fst | split | (dsimp only; split) | apply within_mk)); (all_goals try with_reducible (first | refine has_IMG_ACTIVE_ID ?_ | refine in_IMG_STATUS_LIVE ?_ | refine in_IMG_STATUS_STAGE ?_ | refine in_IMG_STATUS_ACTIVE ?_ | refine in_IMG_ACTIVE_VER_SEC_VER ?_ | refine in_IMG_ACTIVE_VER_IMAGE_VER ?_ | refine has_IMG_DIFF ?_ | refine has_IMG_STAGED_VER ?_ | refine has_IMG_STAGED_ID ?_ | refine in_IMG_EVENT_ACTIVATED ?_)); (all_goals first | exact sub_le (by decide) hm | exact partOk_bit (sub_bit hm (by decide)) | exact sub_bit hm (by decide) | exact has_IMG_ACTIVE_ID (sub_bit hm (by decide)) | exact in_IMG_STATUS_LIVE (sub_bit hm (by decide)) | exact in_IMG_STATUS_STAGE (sub_bit hm (by decide)) | exact in_IMG_STATUS_ACTIVE (sub_bit hm (by decide)) | exact in_IMG_ACTIVE_VER_SEC_VER (sub_bit hm (by decide)) | exact in_IMG_ACTIVE_VER_IMAGE_VER (sub_bit hm (by decide)) | exact has_IMG_DIFF (sub_bit hm (by decide)) | exact has_IMG_STAGED_VER (sub_bit hm (by decide)) | exact has_IMG_STAGED_ID (sub_bit hm (by decide)) | exact in_IMG_EVENT_ACTIVATED (sub_bit hm (by decide)) | exact .inr rfl))
  clear_value s5
  have h_s6 : Within msk org s6 := by
    dsimp only [s6]
    ((repeat' with_reducible (first | assumption | intro _ | exact partOk_refl _ _ _ | apply State.keepPhases_touch | apply State.activateContext_touch | apply State.loadRec_touch | apply State.activateOutlets_touch | apply State.mapValves_touch | apply State.activateLinks_touch | apply State.activatePort_touch | apply State.activateSlot_touch | apply State.modeBoundary_touch | apply State.shadowWrites_touch | apply State.framesStart_touch | apply State.setFld_touch | apply State.setReg_touch | apply State.poWake_touch | apply State.raise_touch | apply State.canvas_touch | apply within_ite | apply within_ite_fst | apply rows_ite | apply rows_if | apply within_foldl | apply within_foldl_fst | split | (dsimp only; split) | apply within_mk)); (all_goals try with_reducible (first | refine has_IMG_ACTIVE_ID ?_ | refine in_IMG_STATUS_LIVE ?_ | refine in_IMG_STATUS_STAGE ?_ | refine in_IMG_STATUS_ACTIVE ?_ | refine in_IMG_ACTIVE_VER_SEC_VER ?_ | refine in_IMG_ACTIVE_VER_IMAGE_VER ?_ | refine has_IMG_DIFF ?_ | refine has_IMG_STAGED_VER ?_ | refine has_IMG_STAGED_ID ?_ | refine in_IMG_EVENT_ACTIVATED ?_)); (all_goals first | exact sub_le (by decide) hm | exact partOk_bit (sub_bit hm (by decide)) | exact sub_bit hm (by decide) | exact has_IMG_ACTIVE_ID (sub_bit hm (by decide)) | exact in_IMG_STATUS_LIVE (sub_bit hm (by decide)) | exact in_IMG_STATUS_STAGE (sub_bit hm (by decide)) | exact in_IMG_STATUS_ACTIVE (sub_bit hm (by decide)) | exact in_IMG_ACTIVE_VER_SEC_VER (sub_bit hm (by decide)) | exact in_IMG_ACTIVE_VER_IMAGE_VER (sub_bit hm (by decide)) | exact has_IMG_DIFF (sub_bit hm (by decide)) | exact has_IMG_STAGED_VER (sub_bit hm (by decide)) | exact has_IMG_STAGED_ID (sub_bit hm (by decide)) | exact in_IMG_EVENT_ACTIVATED (sub_bit hm (by decide)) | exact .inr rfl))
  clear_value s6
  have h_s7 : Within msk org s7 := by
    dsimp only [s7]
    ((repeat' with_reducible (first | assumption | intro _ | exact partOk_refl _ _ _ | apply State.keepPhases_touch | apply State.activateContext_touch | apply State.loadRec_touch | apply State.activateOutlets_touch | apply State.mapValves_touch | apply State.activateLinks_touch | apply State.activatePort_touch | apply State.activateSlot_touch | apply State.modeBoundary_touch | apply State.shadowWrites_touch | apply State.framesStart_touch | apply State.setFld_touch | apply State.setReg_touch | apply State.poWake_touch | apply State.raise_touch | apply State.canvas_touch | apply within_ite | apply within_ite_fst | apply rows_ite | apply rows_if | apply within_foldl | apply within_foldl_fst | split | (dsimp only; split) | apply within_mk)); (all_goals try with_reducible (first | refine has_IMG_ACTIVE_ID ?_ | refine in_IMG_STATUS_LIVE ?_ | refine in_IMG_STATUS_STAGE ?_ | refine in_IMG_STATUS_ACTIVE ?_ | refine in_IMG_ACTIVE_VER_SEC_VER ?_ | refine in_IMG_ACTIVE_VER_IMAGE_VER ?_ | refine has_IMG_DIFF ?_ | refine has_IMG_STAGED_VER ?_ | refine has_IMG_STAGED_ID ?_ | refine in_IMG_EVENT_ACTIVATED ?_)); (all_goals first | exact sub_le (by decide) hm | exact partOk_bit (sub_bit hm (by decide)) | exact sub_bit hm (by decide) | exact has_IMG_ACTIVE_ID (sub_bit hm (by decide)) | exact in_IMG_STATUS_LIVE (sub_bit hm (by decide)) | exact in_IMG_STATUS_STAGE (sub_bit hm (by decide)) | exact in_IMG_STATUS_ACTIVE (sub_bit hm (by decide)) | exact in_IMG_ACTIVE_VER_SEC_VER (sub_bit hm (by decide)) | exact in_IMG_ACTIVE_VER_IMAGE_VER (sub_bit hm (by decide)) | exact has_IMG_DIFF (sub_bit hm (by decide)) | exact has_IMG_STAGED_VER (sub_bit hm (by decide)) | exact has_IMG_STAGED_ID (sub_bit hm (by decide)) | exact in_IMG_EVENT_ACTIVATED (sub_bit hm (by decide)) | exact .inr rfl))
  clear_value s7
  have h_s8 : Within msk org s8 := by
    dsimp only [s8]
    ((repeat' with_reducible (first | assumption | intro _ | exact partOk_refl _ _ _ | apply State.keepPhases_touch | apply State.activateContext_touch | apply State.loadRec_touch | apply State.activateOutlets_touch | apply State.mapValves_touch | apply State.activateLinks_touch | apply State.activatePort_touch | apply State.activateSlot_touch | apply State.modeBoundary_touch | apply State.shadowWrites_touch | apply State.framesStart_touch | apply State.setFld_touch | apply State.setReg_touch | apply State.poWake_touch | apply State.raise_touch | apply State.canvas_touch | apply within_ite | apply within_ite_fst | apply rows_ite | apply rows_if | apply within_foldl | apply within_foldl_fst | split | (dsimp only; split) | apply within_mk)); (all_goals try with_reducible (first | refine has_IMG_ACTIVE_ID ?_ | refine in_IMG_STATUS_LIVE ?_ | refine in_IMG_STATUS_STAGE ?_ | refine in_IMG_STATUS_ACTIVE ?_ | refine in_IMG_ACTIVE_VER_SEC_VER ?_ | refine in_IMG_ACTIVE_VER_IMAGE_VER ?_ | refine has_IMG_DIFF ?_ | refine has_IMG_STAGED_VER ?_ | refine has_IMG_STAGED_ID ?_ | refine in_IMG_EVENT_ACTIVATED ?_)); (all_goals first | exact sub_le (by decide) hm | exact partOk_bit (sub_bit hm (by decide)) | exact sub_bit hm (by decide) | exact has_IMG_ACTIVE_ID (sub_bit hm (by decide)) | exact in_IMG_STATUS_LIVE (sub_bit hm (by decide)) | exact in_IMG_STATUS_STAGE (sub_bit hm (by decide)) | exact in_IMG_STATUS_ACTIVE (sub_bit hm (by decide)) | exact in_IMG_ACTIVE_VER_SEC_VER (sub_bit hm (by decide)) | exact in_IMG_ACTIVE_VER_IMAGE_VER (sub_bit hm (by decide)) | exact has_IMG_DIFF (sub_bit hm (by decide)) | exact has_IMG_STAGED_VER (sub_bit hm (by decide)) | exact has_IMG_STAGED_ID (sub_bit hm (by decide)) | exact in_IMG_EVENT_ACTIVATED (sub_bit hm (by decide)) | exact .inr rfl))
  clear_value s8
  have h_s9 : Within msk org s9 := by
    dsimp only [s9, q2]
    ((repeat' with_reducible (first | assumption | intro _ | exact partOk_refl _ _ _ | apply State.keepPhases_touch | apply State.activateContext_touch | apply State.loadRec_touch | apply State.activateOutlets_touch | apply State.mapValves_touch | apply State.activateLinks_touch | apply State.activatePort_touch | apply State.activateSlot_touch | apply State.modeBoundary_touch | apply State.shadowWrites_touch | apply State.framesStart_touch | apply State.setFld_touch | apply State.setReg_touch | apply State.poWake_touch | apply State.raise_touch | apply State.canvas_touch | apply within_ite | apply within_ite_fst | apply rows_ite | apply rows_if | apply within_foldl | apply within_foldl_fst | split | (dsimp only; split) | apply within_mk)); (all_goals try with_reducible (first | refine has_IMG_ACTIVE_ID ?_ | refine in_IMG_STATUS_LIVE ?_ | refine in_IMG_STATUS_STAGE ?_ | refine in_IMG_STATUS_ACTIVE ?_ | refine in_IMG_ACTIVE_VER_SEC_VER ?_ | refine in_IMG_ACTIVE_VER_IMAGE_VER ?_ | refine has_IMG_DIFF ?_ | refine has_IMG_STAGED_VER ?_ | refine has_IMG_STAGED_ID ?_ | refine in_IMG_EVENT_ACTIVATED ?_)); (all_goals first | exact sub_le (by decide) hm | exact partOk_bit (sub_bit hm (by decide)) | exact sub_bit hm (by decide) | exact has_IMG_ACTIVE_ID (sub_bit hm (by decide)) | exact in_IMG_STATUS_LIVE (sub_bit hm (by decide)) | exact in_IMG_STATUS_STAGE (sub_bit hm (by decide)) | exact in_IMG_STATUS_ACTIVE (sub_bit hm (by decide)) | exact in_IMG_ACTIVE_VER_SEC_VER (sub_bit hm (by decide)) | exact in_IMG_ACTIVE_VER_IMAGE_VER (sub_bit hm (by decide)) | exact has_IMG_DIFF (sub_bit hm (by decide)) | exact has_IMG_STAGED_VER (sub_bit hm (by decide)) | exact has_IMG_STAGED_ID (sub_bit hm (by decide)) | exact in_IMG_EVENT_ACTIVATED (sub_bit hm (by decide)) | exact .inr rfl))
  clear_value s9
  have h_s11 : Within msk org s11 := by
    dsimp only [s11]
    ((repeat' with_reducible (first | assumption | intro _ | exact partOk_refl _ _ _ | apply State.keepPhases_touch | apply State.activateContext_touch | apply State.loadRec_touch | apply State.activateOutlets_touch | apply State.mapValves_touch | apply State.activateLinks_touch | apply State.activatePort_touch | apply State.activateSlot_touch | apply State.modeBoundary_touch | apply State.shadowWrites_touch | apply State.framesStart_touch | apply State.setFld_touch | apply State.setReg_touch | apply State.poWake_touch | apply State.raise_touch | apply State.canvas_touch | apply within_ite | apply within_ite_fst | apply rows_ite | apply rows_if | apply within_foldl | apply within_foldl_fst | split | (dsimp only; split) | apply within_mk)); (all_goals try with_reducible (first | refine has_IMG_ACTIVE_ID ?_ | refine in_IMG_STATUS_LIVE ?_ | refine in_IMG_STATUS_STAGE ?_ | refine in_IMG_STATUS_ACTIVE ?_ | refine in_IMG_ACTIVE_VER_SEC_VER ?_ | refine in_IMG_ACTIVE_VER_IMAGE_VER ?_ | refine has_IMG_DIFF ?_ | refine has_IMG_STAGED_VER ?_ | refine has_IMG_STAGED_ID ?_ | refine in_IMG_EVENT_ACTIVATED ?_)); (all_goals first | exact sub_le (by decide) hm | exact partOk_bit (sub_bit hm (by decide)) | exact sub_bit hm (by decide) | exact has_IMG_ACTIVE_ID (sub_bit hm (by decide)) | exact in_IMG_STATUS_LIVE (sub_bit hm (by decide)) | exact in_IMG_STATUS_STAGE (sub_bit hm (by decide)) | exact in_IMG_STATUS_ACTIVE (sub_bit hm (by decide)) | exact in_IMG_ACTIVE_VER_SEC_VER (sub_bit hm (by decide)) | exact in_IMG_ACTIVE_VER_IMAGE_VER (sub_bit hm (by decide)) | exact has_IMG_DIFF (sub_bit hm (by decide)) | exact has_IMG_STAGED_VER (sub_bit hm (by decide)) | exact has_IMG_STAGED_ID (sub_bit hm (by decide)) | exact in_IMG_EVENT_ACTIVATED (sub_bit hm (by decide)) | exact .inr rfl))
  clear_value s11
  have h_s12 : Within msk org s12 := by
    dsimp only [s12]
    ((repeat' with_reducible (first | assumption | intro _ | exact partOk_refl _ _ _ | apply State.keepPhases_touch | apply State.activateContext_touch | apply State.loadRec_touch | apply State.activateOutlets_touch | apply State.mapValves_touch | apply State.activateLinks_touch | apply State.activatePort_touch | apply State.activateSlot_touch | apply State.modeBoundary_touch | apply State.shadowWrites_touch | apply State.framesStart_touch | apply State.setFld_touch | apply State.setReg_touch | apply State.poWake_touch | apply State.raise_touch | apply State.canvas_touch | apply within_ite | apply within_ite_fst | apply rows_ite | apply rows_if | apply within_foldl | apply within_foldl_fst | split | (dsimp only; split) | apply within_mk)); (all_goals try with_reducible (first | refine has_IMG_ACTIVE_ID ?_ | refine in_IMG_STATUS_LIVE ?_ | refine in_IMG_STATUS_STAGE ?_ | refine in_IMG_STATUS_ACTIVE ?_ | refine in_IMG_ACTIVE_VER_SEC_VER ?_ | refine in_IMG_ACTIVE_VER_IMAGE_VER ?_ | refine has_IMG_DIFF ?_ | refine has_IMG_STAGED_VER ?_ | refine has_IMG_STAGED_ID ?_ | refine in_IMG_EVENT_ACTIVATED ?_)); (all_goals first | exact sub_le (by decide) hm | exact partOk_bit (sub_bit hm (by decide)) | exact sub_bit hm (by decide) | exact has_IMG_ACTIVE_ID (sub_bit hm (by decide)) | exact in_IMG_STATUS_LIVE (sub_bit hm (by decide)) | exact in_IMG_STATUS_STAGE (sub_bit hm (by decide)) | exact in_IMG_STATUS_ACTIVE (sub_bit hm (by decide)) | exact in_IMG_ACTIVE_VER_SEC_VER (sub_bit hm (by decide)) | exact in_IMG_ACTIVE_VER_IMAGE_VER (sub_bit hm (by decide)) | exact has_IMG_DIFF (sub_bit hm (by decide)) | exact has_IMG_STAGED_VER (sub_bit hm (by decide)) | exact has_IMG_STAGED_ID (sub_bit hm (by decide)) | exact in_IMG_EVENT_ACTIVATED (sub_bit hm (by decide)) | exact .inr rfl))
  clear_value s12
  have h_s13 : Within msk org s13 := by
    dsimp only [s13]
    ((repeat' with_reducible (first | assumption | intro _ | exact partOk_refl _ _ _ | apply State.keepPhases_touch | apply State.activateContext_touch | apply State.loadRec_touch | apply State.activateOutlets_touch | apply State.mapValves_touch | apply State.activateLinks_touch | apply State.activatePort_touch | apply State.activateSlot_touch | apply State.modeBoundary_touch | apply State.shadowWrites_touch | apply State.framesStart_touch | apply State.setFld_touch | apply State.setReg_touch | apply State.poWake_touch | apply State.raise_touch | apply State.canvas_touch | apply within_ite | apply within_ite_fst | apply rows_ite | apply rows_if | apply within_foldl | apply within_foldl_fst | split | (dsimp only; split) | apply within_mk)); (all_goals try with_reducible (first | refine has_IMG_ACTIVE_ID ?_ | refine in_IMG_STATUS_LIVE ?_ | refine in_IMG_STATUS_STAGE ?_ | refine in_IMG_STATUS_ACTIVE ?_ | refine in_IMG_ACTIVE_VER_SEC_VER ?_ | refine in_IMG_ACTIVE_VER_IMAGE_VER ?_ | refine has_IMG_DIFF ?_ | refine has_IMG_STAGED_VER ?_ | refine has_IMG_STAGED_ID ?_ | refine in_IMG_EVENT_ACTIVATED ?_)); (all_goals first | exact sub_le (by decide) hm | exact partOk_bit (sub_bit hm (by decide)) | exact sub_bit hm (by decide) | exact has_IMG_ACTIVE_ID (sub_bit hm (by decide)) | exact in_IMG_STATUS_LIVE (sub_bit hm (by decide)) | exact in_IMG_STATUS_STAGE (sub_bit hm (by decide)) | exact in_IMG_STATUS_ACTIVE (sub_bit hm (by decide)) | exact in_IMG_ACTIVE_VER_SEC_VER (sub_bit hm (by decide)) | exact in_IMG_ACTIVE_VER_IMAGE_VER (sub_bit hm (by decide)) | exact has_IMG_DIFF (sub_bit hm (by decide)) | exact has_IMG_STAGED_VER (sub_bit hm (by decide)) | exact has_IMG_STAGED_ID (sub_bit hm (by decide)) | exact in_IMG_EVENT_ACTIVATED (sub_bit hm (by decide)) | exact .inr rfl))
  clear_value s13
  have h_s14 : Within msk org s14 := by
    dsimp only [s14]
    ((repeat' with_reducible (first | assumption | intro _ | exact partOk_refl _ _ _ | apply State.keepPhases_touch | apply State.activateContext_touch | apply State.loadRec_touch | apply State.activateOutlets_touch | apply State.mapValves_touch | apply State.activateLinks_touch | apply State.activatePort_touch | apply State.activateSlot_touch | apply State.modeBoundary_touch | apply State.shadowWrites_touch | apply State.framesStart_touch | apply State.setFld_touch | apply State.setReg_touch | apply State.poWake_touch | apply State.raise_touch | apply State.canvas_touch | apply within_ite | apply within_ite_fst | apply rows_ite | apply rows_if | apply within_foldl | apply within_foldl_fst | split | (dsimp only; split) | apply within_mk)); (all_goals try with_reducible (first | refine has_IMG_ACTIVE_ID ?_ | refine in_IMG_STATUS_LIVE ?_ | refine in_IMG_STATUS_STAGE ?_ | refine in_IMG_STATUS_ACTIVE ?_ | refine in_IMG_ACTIVE_VER_SEC_VER ?_ | refine in_IMG_ACTIVE_VER_IMAGE_VER ?_ | refine has_IMG_DIFF ?_ | refine has_IMG_STAGED_VER ?_ | refine has_IMG_STAGED_ID ?_ | refine in_IMG_EVENT_ACTIVATED ?_)); (all_goals first | exact sub_le (by decide) hm | exact partOk_bit (sub_bit hm (by decide)) | exact sub_bit hm (by decide) | exact has_IMG_ACTIVE_ID (sub_bit hm (by decide)) | exact in_IMG_STATUS_LIVE (sub_bit hm (by decide)) | exact in_IMG_STATUS_STAGE (sub_bit hm (by decide)) | exact in_IMG_STATUS_ACTIVE (sub_bit hm (by decide)) | exact in_IMG_ACTIVE_VER_SEC_VER (sub_bit hm (by decide)) | exact in_IMG_ACTIVE_VER_IMAGE_VER (sub_bit hm (by decide)) | exact has_IMG_DIFF (sub_bit hm (by decide)) | exact has_IMG_STAGED_VER (sub_bit hm (by decide)) | exact has_IMG_STAGED_ID (sub_bit hm (by decide)) | exact in_IMG_EVENT_ACTIVATED (sub_bit hm (by decide)) | exact .inr rfl))
  clear_value s14
  ((repeat' with_reducible (first | assumption | intro _ | exact partOk_refl _ _ _ | apply State.keepPhases_touch | apply State.activateContext_touch | apply State.loadRec_touch | apply State.activateOutlets_touch | apply State.mapValves_touch | apply State.activateLinks_touch | apply State.activatePort_touch | apply State.activateSlot_touch | apply State.modeBoundary_touch | apply State.shadowWrites_touch | apply State.framesStart_touch | apply State.setFld_touch | apply State.setReg_touch | apply State.poWake_touch | apply State.raise_touch | apply State.canvas_touch | apply within_ite | apply within_ite_fst | apply rows_ite | apply rows_if | apply within_foldl | apply within_foldl_fst | split | (dsimp only; split) | apply within_mk)); (all_goals try with_reducible (first | refine has_IMG_ACTIVE_ID ?_ | refine in_IMG_STATUS_LIVE ?_ | refine in_IMG_STATUS_STAGE ?_ | refine in_IMG_STATUS_ACTIVE ?_ | refine in_IMG_ACTIVE_VER_SEC_VER ?_ | refine in_IMG_ACTIVE_VER_IMAGE_VER ?_ | refine has_IMG_DIFF ?_ | refine has_IMG_STAGED_VER ?_ | refine has_IMG_STAGED_ID ?_ | refine in_IMG_EVENT_ACTIVATED ?_)); (all_goals first | exact sub_le (by decide) hm | exact partOk_bit (sub_bit hm (by decide)) | exact sub_bit hm (by decide) | exact has_IMG_ACTIVE_ID (sub_bit hm (by decide)) | exact in_IMG_STATUS_LIVE (sub_bit hm (by decide)) | exact in_IMG_STATUS_STAGE (sub_bit hm (by decide)) | exact in_IMG_STATUS_ACTIVE (sub_bit hm (by decide)) | exact in_IMG_ACTIVE_VER_SEC_VER (sub_bit hm (by decide)) | exact in_IMG_ACTIVE_VER_IMAGE_VER (sub_bit hm (by decide)) | exact has_IMG_DIFF (sub_bit hm (by decide)) | exact has_IMG_STAGED_VER (sub_bit hm (by decide)) | exact has_IMG_STAGED_ID (sub_bit hm (by decide)) | exact in_IMG_EVENT_ACTIVATED (sub_bit hm (by decide)) | exact .inr rfl))

end Sys2Proof.Machine
end

