-- ==== Sys2Proof/Laws/TouchImage.lean ====
section
/-! SUPPORT. What each operation of Machine/Image.lean may change, as a mask. -/

namespace Sys2Proof.Machine

set_option linter.all false
set_option Elab.async false

theorem State.imgErr_touch {msk : Nat} {org : State} (s : State) (hm : sub 0x40000000000000000000010800000000000000000000000000000000000000000000000000000000000000000000000000000000000000000000000010000000000 msk) (hz : Within msk org s) : Within msk org (State.imgErr s) := by
  unfold State.imgErr
  repeat' with_reducible (first | assumption | intro _ | exact partOk_refl _ _ _ | apply State.raise_touch | apply within_ite | apply within_ite_fst | apply rows_ite | apply rows_if | apply within_foldl | apply within_foldl_fst | split | (dsimp only; split) | apply within_mk)
  all_goals try with_reducible (first | refine in_IMG_EVENT_CFG_ERR ?_)
  all_goals first | exact sub_le (by decide) hm | exact partOk_bit (sub_bit hm (by decide)) | exact sub_bit hm (by decide) | exact in_IMG_EVENT_CFG_ERR (sub_bit hm (by decide)) | exact .inr rfl

theorem State.stagingWrite_touch {msk : Nat} {org : State} (s : State) (offset : Nat) (bs : List Byte) (hm : sub 0x8040000000000000000000010800000000000000000000000000000000000000000000000000000000000000000000000000000000000000000000000010000000000 msk) (hz : Within msk org s) : Within msk org (State.stagingWrite s offset bs) := by
  unfold State.stagingWrite
  repeat' with_reducible (first | assumption | intro _ | exact partOk_refl _ _ _ | apply State.take_touch | apply State.imgErr_touch | apply within_ite | apply within_ite_fst | apply rows_ite | apply rows_if | apply within_foldl | apply within_foldl_fst | split | (dsimp only; split) | apply within_mk)
  all_goals first | exact sub_le (by decide) hm | exact partOk_bit (sub_bit hm (by decide)) | exact sub_bit hm (by decide) | exact .inr rfl

theorem State.unstage_touch {msk : Nat} {org : State} (s : State) (hm : sub 0x8000000000000000000000000000000000000000000000000000000000000000000000000000000000000000000000000000000000000000000000000000a80000000 msk) (hz : Within msk org s) : Within msk org (State.unstage s) := by
  unfold State.unstage
  repeat' with_reducible (first | assumption | intro _ | exact partOk_refl _ _ _ | apply State.setReg_touch | apply within_ite | apply within_ite_fst | apply rows_ite | apply rows_if | apply within_foldl | apply within_foldl_fst | split | (dsimp only; split) | apply within_mk)
  all_goals try with_reducible (first | refine has_IMG_DIFF ?_ | refine has_IMG_STAGED_VER ?_ | refine has_IMG_STAGED_ID ?_)
  all_goals first | exact sub_le (by decide) hm | exact partOk_bit (sub_bit hm (by decide)) | exact sub_bit hm (by decide) | exact has_IMG_DIFF (sub_bit hm (by decide)) | exact has_IMG_STAGED_VER (sub_bit hm (by decide)) | exact has_IMG_STAGED_ID (sub_bit hm (by decide)) | exact .inr rfl

theorem State.showErr_touch {msk : Nat} {org : State} (s : State) (code seg rule ofs : Nat) (hm : sub 0x3000000 msk) (hz : Within msk org s) : Within msk org (State.showErr s code seg rule ofs) := by
  unfold State.showErr
  repeat' with_reducible (first | assumption | intro _ | exact partOk_refl _ _ _ | apply State.setFld_touch | apply within_ite | apply within_ite_fst | apply rows_ite | apply rows_if | apply within_foldl | apply within_foldl_fst | split | (dsimp only; split) | apply within_mk)
  all_goals try with_reducible (first | refine in_IMG_ERROFS_OFFSET ?_ | refine in_IMG_ERR_RULE ?_ | refine in_IMG_ERR_SEG ?_ | refine in_IMG_ERR_CODE ?_)
  all_goals first | exact sub_le (by decide) hm | exact partOk_bit (sub_bit hm (by decide)) | exact sub_bit hm (by decide) | exact in_IMG_ERROFS_OFFSET (sub_bit hm (by decide)) | exact in_IMG_ERR_RULE (sub_bit hm (by decide)) | exact in_IMG_ERR_SEG (sub_bit hm (by decide)) | exact in_IMG_ERR_CODE (sub_bit hm (by decide)) | exact .inr rfl

theorem State.verify_touch {msk : Nat} {org : State} (s : State) (hm : sub 0x8040000000000000000000010800000000000000000000000000000000000000000000000000000000000000000000000000000000000000000000000010a83800000 msk) (hz : Within msk org s) : Within msk org (State.verify s) := by
  unfold State.verify
  repeat' with_reducible (first | assumption | intro _ | exact partOk_refl _ _ _ | apply State.showErr_touch | apply State.raise_touch | apply State.imgErr_touch | apply State.unstage_touch | apply State.setFld_touch | apply within_ite | apply within_ite_fst | apply rows_ite | apply rows_if | apply within_foldl | apply within_foldl_fst | split | (dsimp only; split) | apply within_mk)
  all_goals try with_reducible (first | refine in_IMG_EVENT_VERIFY_DONE ?_ | refine in_IMG_STATUS_STAGE ?_)
  all_goals first | exact sub_le (by decide) hm | exact partOk_bit (sub_bit hm (by decide)) | exact sub_bit hm (by decide) | exact in_IMG_EVENT_VERIFY_DONE (sub_bit hm (by decide)) | exact in_IMG_STATUS_STAGE (sub_bit hm (by decide)) | exact .inr rfl

theorem State.verifyDone_touch {msk : Nat} {org : State} (s : State) (hm : sub 0x8040000000000000000000010800000000000000000000000000000000000000000000000000000000000000000000000000000000000000000000000010a87800000 msk) (hz : Within msk org s) : Within msk org (State.verifyDone s) := by
  unfold State.verifyDone
  repeat' with_reducible (first | assumption | intro _ | exact partOk_refl _ _ _ | apply State.setFld_touch | apply State.setReg_touch | apply State.setBit_touch | apply State.raise_touch | apply State.showErr_touch | apply within_ite | apply within_ite_fst | apply rows_ite | apply rows_if | apply within_foldl | apply within_foldl_fst | split | (dsimp only; split) | apply within_mk)
  all_goals try with_reducible (first | refine has_IMG_TOKEN ?_ | refine in_IMG_STATUS_STAGE ?_ | refine has_IMG_STAGED_VER ?_ | refine has_IMG_STAGED_ID ?_ | refine has_IMG_DIFF ?_ | refine in_IMG_EVENT_VERIFY_DONE ?_ | refine in_IMG_STATUS_UNKEYED ?_ | refine in_IMG_EVENT_REFUSED ?_)
  all_goals first | exact sub_le (by decide) hm | exact partOk_bit (sub_bit hm (by decide)) | exact sub_bit hm (by decide) | exact has_IMG_TOKEN (sub_bit hm (by decide)) | exact in_IMG_STATUS_STAGE (sub_bit hm (by decide)) | exact has_IMG_STAGED_VER (sub_bit hm (by decide)) | exact has_IMG_STAGED_ID (sub_bit hm (by decide)) | exact has_IMG_DIFF (sub_bit hm (by decide)) | exact in_IMG_EVENT_VERIFY_DONE (sub_bit hm (by decide)) | exact in_IMG_STATUS_UNKEYED (sub_bit hm (by decide)) | exact in_IMG_EVENT_REFUSED (sub_bit hm (by decide)) | exact .inr rfl

theorem State.discard_touch {msk : Nat} {org : State} (s : State) (hm : sub 0x8040000000000000000000010800000000000000000000000000000000000000000000000000000000000000000000000000000000000000000000000010a80800000 msk) (hz : Within msk org s) : Within msk org (State.discard s) := by
  unfold State.discard
  repeat' with_reducible (first | assumption | intro _ | exact partOk_refl _ _ _ | apply State.imgErr_touch | apply State.unstage_touch | apply State.setFld_touch | apply within_ite | apply within_ite_fst | apply rows_ite | apply rows_if | apply within_foldl | apply within_foldl_fst | split | (dsimp only; split) | apply within_mk)
  all_goals try with_reducible (first | refine in_IMG_STATUS_STAGE ?_)
  all_goals first | exact sub_le (by decide) hm | exact partOk_bit (sub_bit hm (by decide)) | exact sub_bit hm (by decide) | exact in_IMG_STATUS_STAGE (sub_bit hm (by decide)) | exact .inr rfl

theorem State.setBootSlot_touch {msk : Nat} {org : State} (s : State) (k : Nat) (x : BootSlot) (hm : sub 0x8000000000000000000000000000000000000000000000000000000000000000000000000000000000000000000000000000000000000000000000000001000000000 msk) (hz : Within msk org s) : Within msk org (State.setBootSlot s k x) := by
  unfold State.setBootSlot
  repeat' with_reducible (first | assumption | intro _ | exact partOk_refl _ _ _ | apply State.setBit_touch | apply within_ite | apply within_ite_fst | apply rows_ite | apply rows_if | apply within_foldl | apply within_foldl_fst | split | (dsimp only; split) | apply within_mk)
  all_goals try with_reducible (first | refine in_IMG_BOOT_TRIAL_A ?_ | refine in_IMG_BOOT_TRIAL_B ?_ | refine in_IMG_BOOT_VALID_A ?_ | refine in_IMG_BOOT_VALID_B ?_)
  all_goals first | exact sub_le (by decide) hm | exact partOk_bit (sub_bit hm (by decide)) | exact sub_bit hm (by decide) | exact in_IMG_BOOT_TRIAL_A (sub_bit hm (by decide)) | exact in_IMG_BOOT_TRIAL_B (sub_bit hm (by decide)) | exact in_IMG_BOOT_VALID_A (sub_bit hm (by decide)) | exact in_IMG_BOOT_VALID_B (sub_bit hm (by decide)) | exact .inr rfl

theorem State.save_touch {msk : Nat} {org : State} (s : State) (k : Nat) (trial : Bool) (hm : sub 0x8040000000000000000000010800000000000000000000000000000000000000000000000000000000000000000000000000000000000000000000000011000800000 msk) (hz : Within msk org s) : Within msk org (State.save s k trial) := by
  unfold State.save
  repeat' with_reducible (first | assumption | intro _ | exact partOk_refl _ _ _ | apply State.imgErr_touch | apply State.setBootSlot_touch | apply State.setFld_touch | apply within_ite | apply within_ite_fst | apply rows_ite | apply rows_if | apply within_foldl | apply within_foldl_fst | split | (dsimp only; split) | apply within_mk)
  all_goals try with_reducible (first | refine in_IMG_STATUS_BUSY ?_)
  all_goals first | exact sub_le (by decide) hm | exact partOk_bit (sub_bit hm (by decide)) | exact sub_bit hm (by decide) | exact in_IMG_STATUS_BUSY (sub_bit hm (by decide)) | exact .inr rfl

theorem State.saveDone_touch {msk : Nat} {org : State} (s : State) (ok : Bool) (hm : sub 0x8040000000000000000000010800000000000000000000000000000000000000000000000000000000000000000000000000000000000000000000000011000800000 msk) (hz : Within msk org s) : Within msk org (State.saveDone s ok) := by
  unfold State.saveDone
  repeat' with_reducible (first | assumption | intro _ | exact partOk_refl _ _ _ | apply State.setFld_touch | apply State.setBootSlot_touch | apply State.raise_touch | apply within_ite | apply within_ite_fst | apply rows_ite | apply rows_if | apply within_foldl | apply within_foldl_fst | split | (dsimp only; split) | apply within_mk)
  all_goals try with_reducible (first | refine in_IMG_STATUS_BUSY ?_ | refine in_IMG_EVENT_SAVE_DONE ?_ | refine in_IMG_EVENT_SAVE_FAIL ?_)
  all_goals first | exact sub_le (by decide) hm | exact partOk_bit (sub_bit hm (by decide)) | exact sub_bit hm (by decide) | exact in_IMG_STATUS_BUSY (sub_bit hm (by decide)) | exact in_IMG_EVENT_SAVE_DONE (sub_bit hm (by decide)) | exact in_IMG_EVENT_SAVE_FAIL (sub_bit hm (by decide)) | exact .inr rfl

theorem State.load_touch {msk : Nat} {org : State} (s : State) (k : Nat) (hm : sub 0x8040000000000000000000010800000000000000000000000000000000000000000000000000000000000000000000000000000000000000000000000010a80800000 msk) (hz : Within msk org s) : Within msk org (State.load s k) := by
  unfold State.load
  repeat' with_reducible (first | assumption | intro _ | exact partOk_refl _ _ _ | apply State.imgErr_touch | apply State.unstage_touch | apply State.setFld_touch | apply within_ite | apply within_ite_fst | apply rows_ite | apply rows_if | apply within_foldl | apply within_foldl_fst | split | (dsimp only; split) | apply within_mk)
  all_goals try with_reducible (first | refine in_IMG_STATUS_STAGE ?_ | refine in_IMG_STATUS_BUSY ?_)
  all_goals first | exact sub_le (by decide) hm | exact partOk_bit (sub_bit hm (by decide)) | exact sub_bit hm (by decide) | exact in_IMG_STATUS_STAGE (sub_bit hm (by decide)) | exact in_IMG_STATUS_BUSY (sub_bit hm (by decide)) | exact .inr rfl

theorem State.loadDone_touch {msk : Nat} {org : State} (s : State) (ok : Bool) (hm : sub 0x8000000000000000000000000000000000000000000000000000000000000000000000000000000000000000000000000000000000000000000000000000000800000 msk) (hz : Within msk org s) : Within msk org (State.loadDone s ok) := by
  unfold State.loadDone
  repeat' with_reducible (first | assumption | intro _ | exact partOk_refl _ _ _ | apply State.setFld_touch | apply within_ite | apply within_ite_fst | apply rows_ite | apply rows_if | apply within_foldl | apply within_foldl_fst | split | (dsimp only; split) | apply within_mk)
  all_goals try with_reducible (first | refine in_IMG_STATUS_BUSY ?_)
  all_goals first | exact sub_le (by decide) hm | exact partOk_bit (sub_bit hm (by decide)) | exact sub_bit hm (by decide) | exact in_IMG_STATUS_BUSY (sub_bit hm (by decide)) | exact .inr rfl

theorem State.confirm_touch {msk : Nat} {org : State} (s : State) (hm : sub 0x8000000000000000000000000000000000000000000000000000000000000000000000000000000000000000000000000000000000000000000000000001000000000 msk) (hz : Within msk org s) : Within msk org (State.confirm s) := by
  unfold State.confirm
  repeat' with_reducible (first | assumption | intro _ | exact partOk_refl _ _ _ | apply State.setBootSlot_touch | apply within_ite | apply within_ite_fst | apply rows_ite | apply rows_if | apply within_foldl | apply within_foldl_fst | split | (dsimp only; split) | apply within_mk)
  all_goals first | exact sub_le (by decide) hm | exact partOk_bit (sub_bit hm (by decide)) | exact sub_bit hm (by decide) | exact .inr rfl

theorem State.keyRecord_touch {msk : Nat} {org : State} (s : State) (cmd slot : Nat) (hm : sub 0x60000003611820000000010800000000000000000000000000000000000000000000000000000000000000000000000000000000000000000000000000000000000 msk) (hz : Within msk org s) : Within msk org (State.keyRecord s cmd slot) := by
  unfold State.keyRecord
  repeat' with_reducible (first | assumption | intro _ | exact partOk_refl _ _ _ | apply State.canvas_touch | apply within_ite | apply within_ite_fst | apply rows_ite | apply rows_if | apply within_foldl | apply within_foldl_fst | split | (dsimp only; split) | apply within_mk)
  all_goals first | exact sub_le (by decide) hm | exact partOk_bit (sub_bit hm (by decide)) | exact sub_bit hm (by decide) | exact .inr rfl

theorem State.raiseFloor_touch {msk : Nat} {org : State} (s : State) (hm : sub 0x60000003611820000000010800000000000000000000000000000000000000000000000000000000000000000000000000000000000000000000000012000000000 msk) (hz : Within msk org s) : Within msk org (State.raiseFloor s) := by
  unfold State.raiseFloor
  repeat' with_reducible (first | assumption | intro _ | exact partOk_refl _ _ _ | apply State.setFld_touch | apply State.keyRecord_touch | apply State.imgErr_touch | apply within_ite | apply within_ite_fst | apply rows_ite | apply rows_if | apply within_foldl | apply within_foldl_fst | split | (dsimp only; split) | apply within_mk)
  all_goals try with_reducible (first | refine in_IMG_FLOOR_SEC_FLOOR ?_)
  all_goals first | exact sub_le (by decide) hm | exact partOk_bit (sub_bit hm (by decide)) | exact sub_bit hm (by decide) | exact in_IMG_FLOOR_SEC_FLOOR (sub_bit hm (by decide)) | exact .inr rfl

theorem State.keyProg_touch {msk : Nat} {org : State} (s : State) (k : Nat) (hm : sub 0x8060000003611820000000010800000000000000000000000000000000000000000000000000000000000000000000000000000000000000000000000014000000000 msk) (hz : Within msk org s) : Within msk org (State.keyProg s k) := by
  unfold State.keyProg
  repeat' with_reducible (first | assumption | intro _ | exact partOk_refl _ _ _ | apply State.imgErr_touch | apply State.setKey_touch | apply State.keyRecord_touch | apply within_ite | apply within_ite_fst | apply rows_ite | apply rows_if | apply within_foldl | apply within_foldl_fst | split | (dsimp only; split) | apply within_mk)
  all_goals first | exact sub_le (by decide) hm | exact partOk_bit (sub_bit hm (by decide)) | exact sub_bit hm (by decide) | exact .inr rfl

theorem State.keyRevoke_touch {msk : Nat} {org : State} (s : State) (k : Nat) (hm : sub 0x8060000003611820000000010800000000000000000000000000000000000000000000000000000000000000000000000000000000000000000000000014000000000 msk) (hz : Within msk org s) : Within msk org (State.keyRevoke s k) := by
  unfold State.keyRevoke
  repeat' with_reducible (first | assumption | intro _ | exact partOk_refl _ _ _ | apply State.imgErr_touch | apply State.setKey_touch | apply State.keyRecord_touch | apply within_ite | apply within_ite_fst | apply rows_ite | apply rows_if | apply within_foldl | apply within_foldl_fst | split | (dsimp only; split) | apply within_mk)
  all_goals first | exact sub_le (by decide) hm | exact partOk_bit (sub_bit hm (by decide)) | exact sub_bit hm (by decide) | exact .inr rfl

theorem State.showMatch_touch {msk : Nat} {org : State} (s : State) (m : Image) (hm : sub 0x4000000000 msk) (hz : Within msk org s) : Within msk org (State.showMatch s m) := by
  unfold State.showMatch
  repeat' with_reducible (first | assumption | intro _ | exact partOk_refl _ _ _ | apply State.setFld_touch | apply within_ite | apply within_ite_fst | apply rows_ite | apply rows_if | apply within_foldl | apply within_foldl_fst | split | (dsimp only; split) | apply within_mk)
  all_goals try with_reducible (first | refine in_IMG_KEY_MATCH ?_)
  all_goals first | exact sub_le (by decide) hm | exact partOk_bit (sub_bit hm (by decide)) | exact sub_bit hm (by decide) | exact in_IMG_KEY_MATCH (sub_bit hm (by decide)) | exact .inr rfl

theorem State.bringUp_touch {msk : Nat} {org : State} (s : State) (m : Image) (live : Bool) (hm : sub 0x1fff480000361182000000001085fa00001ff80380400040273bff8fd18002041198081007fff800007fff800000000006000002001ff8011c0046c000014f809606a0 msk) (hz : Within msk org s) : Within msk org (State.bringUp s m live) := by
  unfold State.bringUp
  repeat' with_reducible (first | assumption | intro _ | exact partOk_refl _ _ _ | apply State.showMatch_touch | apply State.activate_touch | apply within_ite | apply within_ite_fst | apply rows_ite | apply rows_if | apply within_foldl | apply within_foldl_fst | split | (dsimp only; split) | apply within_mk)
  all_goals first | exact sub_le (by decide) hm | exact partOk_bit (sub_bit hm (by decide)) | exact sub_bit hm (by decide) | exact .inr rfl

theorem State.sendModes_touch {msk : Nat} {org : State} (s : State) (m : Image) (due : Time) (hm : sub 0x400000000000000000000000000000000000000000000000000000000000000000000000000000000000000000000000000000000000000000000000000000000000 msk) (hz : Within msk org s) : Within msk org (State.sendModes s m due) := by
  unfold State.sendModes
  repeat' with_reducible (first | assumption | intro _ | exact partOk_refl _ _ _ | apply State.sendMode_touch | apply State.take_touch | apply within_ite | apply within_ite_fst | apply rows_ite | apply rows_if | apply within_foldl | apply within_foldl_fst | split | (dsimp only; split) | apply within_mk)
  all_goals first | exact sub_le (by decide) hm | exact partOk_bit (sub_bit hm (by decide)) | exact sub_bit hm (by decide) | exact .inr rfl

theorem State.commit_touch {msk : Nat} {org : State} (s : State) (token : Nat) (hm : sub 0x1fff480000361182000000001085fa00001ff80380400040273bff8fd18002041198081007fff800007fff800000000006000002001ff8011c0046c000014ff09606a0 msk) (hz : Within msk org s) : Within msk org (State.commit s token) := by
  unfold State.commit
  repeat' with_reducible (first | assumption | intro _ | exact partOk_refl _ _ _ | apply State.imgErr_touch | apply State.setReg64_touch | apply State.setReg_touch | apply State.sendModes_touch | apply State.setFld_touch | apply State.bringUp_touch | apply State.raise_touch | apply State.setBit_touch | apply within_ite | apply within_ite_fst | apply rows_ite | apply rows_if | apply within_foldl | apply within_foldl_fst | split | (dsimp only; split) | apply within_mk)
  all_goals try with_reducible (first | refine has_IMG_ACT_FRAME ?_ | refine has_IMG_ACT_FT_LO ?_ | refine has_IMG_ACT_FT_HI ?_ | refine in_IMG_STATUS_BOOTED_FROM ?_ | refine in_IMG_EVENT_NOT_QUIET ?_ | refine in_IMG_STATUS_LIVE ?_ | refine in_IMG_STATUS_STAGE ?_)
  all_goals first | exact sub_le (by decide) hm | exact partOk_bit (sub_bit hm (by decide)) | exact sub_bit hm (by decide) | exact has_IMG_ACT_FRAME (sub_bit hm (by decide)) | exact has_IMG_ACT_FT_LO (sub_bit hm (by decide)) | exact has_IMG_ACT_FT_HI (sub_bit hm (by decide)) | exact in_IMG_STATUS_BOOTED_FROM (sub_bit hm (by decide)) | exact in_IMG_EVENT_NOT_QUIET (sub_bit hm (by decide)) | exact in_IMG_STATUS_LIVE (sub_bit hm (by decide)) | exact in_IMG_STATUS_STAGE (sub_bit hm (by decide)) | exact .inr rfl

theorem State.copyDone_touch {msk : Nat} {org : State} (s : State) (hm : sub 0x8000000000000000000000000000000000000000000000000000000000000000000000000000000000000000000000000000000000000001000000000000000000000 msk) (hz : Within msk org s) : Within msk org (State.copyDone s) := by
  unfold State.copyDone
  repeat' with_reducible (first | assumption | intro _ | exact partOk_refl _ _ _ | apply State.loadWords_touch | apply within_ite | apply within_ite_fst | apply rows_ite | apply rows_if | apply within_foldl | apply within_foldl_fst | split | (dsimp only; split) | apply within_mk)
  all_goals try with_reducible (first | refine has_RT_STAGED ?_ _ _ | refine load_40A800 (sub_le (by decide) hm) _ _ (by assumption))
  all_goals first | exact sub_le (by decide) hm | exact partOk_bit (sub_bit hm (by decide)) | exact sub_bit hm (by decide) | exact has_RT_STAGED (sub_bit hm (by decide)) _ _ | exact load_40A800 (sub_le (by decide) hm) _ _ (by assumption) | exact .inr rfl

theorem State.activation_touch {msk : Nat} {org : State} (s : State) (hm : sub 0x1fff480000361182000000001085fa00001ff80380400040273bff8fd18002041198081007fff800007fff800000000006000002001ff8011c0046c000014f809606a0 msk) (hz : Within msk org s) : Within msk org (State.activation s) := by
  unfold State.activation
  repeat' with_reducible (first | assumption | intro _ | exact partOk_refl _ _ _ | apply State.setFld_touch | apply State.bringUp_touch | apply within_ite | apply within_ite_fst | apply rows_ite | apply rows_if | apply within_foldl | apply within_foldl_fst | split | (dsimp only; split) | apply within_mk)
  all_goals try with_reducible (first | refine in_IMG_STATUS_BOOTED_FROM ?_)
  all_goals first | exact sub_le (by decide) hm | exact partOk_bit (sub_bit hm (by decide)) | exact sub_bit hm (by decide) | exact in_IMG_STATUS_BOOTED_FROM (sub_bit hm (by decide)) | exact .inr rfl

theorem State.tryBoot_touch {msk : Nat} {org : State} (s : State) (k : Nat) (hm : sub 0x1fff480000361182000000001085fa00001ff80380400040273bff8fd18002041198081007fff800007fff800000000006000002001ff8011c0046c000015f839606a0 msk) (hz : Within msk org s) : Within msk org (State.tryBoot s k) := by
  unfold State.tryBoot
  repeat' with_reducible (first | assumption | intro _ | exact partOk_refl _ _ _ | apply State.raise_touch | apply State.setBootSlot_touch | apply State.setFld_touch | apply State.setBit_touch | apply State.bringUp_touch | apply State.showErr_touch | apply within_ite | apply within_ite_fst | apply rows_ite | apply rows_if | apply within_foldl | apply within_foldl_fst | split | (dsimp only; split) | apply within_mk)
  all_goals try with_reducible (first | refine in_IMG_EVENT_TRIAL_FAIL ?_ | refine in_IMG_STATUS_UNKEYED ?_ | refine in_IMG_STATUS_BOOTED_FROM ?_)
  all_goals first | exact sub_le (by decide) hm | exact partOk_bit (sub_bit hm (by decide)) | exact sub_bit hm (by decide) | exact in_IMG_EVENT_TRIAL_FAIL (sub_bit hm (by decide)) | exact in_IMG_STATUS_UNKEYED (sub_bit hm (by decide)) | exact in_IMG_STATUS_BOOTED_FROM (sub_bit hm (by decide)) | exact .inr rfl

theorem State.boot_touch {msk : Nat} {org : State} (s : State) (hm : sub 0x1fff480000361182000000001085fa00001ff80380400040273bff8fd18002041198081007fff800007fff800000000006000002001ff8011c0046c000015f839606a0 msk) (hz : Within msk org s) : Within msk org (State.boot s) := by
  unfold State.boot
  repeat' with_reducible (first | assumption | intro _ | exact partOk_refl _ _ _ | apply State.tryBoot_touch | apply within_ite | apply within_ite_fst | apply rows_ite | apply rows_if | apply within_foldl | apply within_foldl_fst | split | (dsimp only; split) | apply within_mk)
  all_goals first | exact sub_le (by decide) hm | exact partOk_bit (sub_bit hm (by decide)) | exact sub_bit hm (by decide) | exact .inr rfl

theorem State.imWrite_touch {msk : Nat} {org : State} (s : State) (a v : Nat) (hm : sub 0x8000000000000000000000000000000000000000000000000000000000000000000000000000000000000000000000000000000000000000000000000000000000000 msk) (ha : RowsHave msk a) (hz : Within msk org s) : Within msk org (State.imWrite s a v) := by
  unfold State.imWrite
  repeat' with_reducible (first | assumption | intro _ | exact partOk_refl _ _ _ | apply State.writeCodes_touch | apply within_ite | apply within_ite_fst | apply rows_ite | apply rows_if | apply within_foldl | apply within_foldl_fst | split | (dsimp only; split) | apply within_mk)
  all_goals first | exact sub_le (by decide) hm | exact partOk_bit (sub_bit hm (by decide)) | exact sub_bit hm (by decide) | exact .inr rfl

theorem State.imCommand_touch {msk : Nat} {org : State} (s : State) (v : Nat) (hm : sub 0x8060000003611820000000010800000000000000000000000000000000000000000000000000000000000000000000000000000000000000000000000017a83800000 msk) (hz : Within msk org s) : Within msk org (State.imCommand s v) := by
  unfold State.imCommand
  repeat' with_reducible (first | assumption | intro _ | exact partOk_refl _ _ _ | apply State.verify_touch | apply State.discard_touch | apply State.save_touch | apply State.load_touch | apply State.confirm_touch | apply State.raiseFloor_touch | apply State.keyProg_touch | apply State.keyRevoke_touch | apply State.imgErr_touch | apply within_ite | apply within_ite_fst | apply rows_ite | apply rows_if | apply within_foldl | apply within_foldl_fst | split | (dsimp only; split) | apply within_mk)
  all_goals first | exact sub_le (by decide) hm | exact partOk_bit (sub_bit hm (by decide)) | exact sub_bit hm (by decide) | exact .inr rfl

end Sys2Proof.Machine
end

