-- ==== Sys2Proof/Laws/TouchPower.lean ====
section
/-! SUPPORT. What each operation of Machine/Power.lean may change, as a mask. -/

namespace Sys2Proof.Machine

set_option linter.all false
set_option Elab.async false

theorem State.pwrErr_touch {msk : Nat} {org : State} (s : State) (hm : sub 0x40000000000000001000010800000000000000000000000000000000000000000000000000000000000000000000000000000000000000000000000000000000000 msk) (hz : Within msk org s) : Within msk org (State.pwrErr s) := by
  unfold State.pwrErr
  repeat' with_reducible (first | assumption | intro _ | exact partOk_refl _ _ _ | apply State.raise_touch | apply within_ite | apply within_ite_fst | apply rows_ite | apply rows_if | apply within_foldl | apply within_foldl_fst | split | (dsimp only; split) | apply within_mk)
  all_goals try with_reducible (first | refine in_PWR_EVENT_CFG_ERR ?_)
  all_goals first | exact sub_le (by decide) hm | exact partOk_bit (sub_bit hm (by decide)) | exact sub_bit hm (by decide) | exact in_PWR_EVENT_CFG_ERR (sub_bit hm (by decide)) | exact .inr rfl

theorem State.ldWrite_touch {msk : Nat} {org : State} (s : State) (hm : sub 0x20000000000000002000000000000000000000000000000000000000000000000000000000000000000000000000000000000000000000000000000000000000000000 msk) (hz : Within msk org s) : Within msk org (State.ldWrite s) := by
  unfold State.ldWrite
  repeat' with_reducible (first | assumption | intro _ | exact partOk_refl _ _ _ | apply State.setReg_touch | apply within_ite | apply within_ite_fst | apply rows_ite | apply rows_if | apply within_foldl | apply within_foldl_fst | split | (dsimp only; split) | apply within_mk)
  all_goals try with_reducible (first | refine has_SEQ_LD ?_)
  all_goals first | exact sub_le (by decide) hm | exact partOk_bit (sub_bit hm (by decide)) | exact sub_bit hm (by decide) | exact has_SEQ_LD (sub_bit hm (by decide)) | exact .inr rfl

theorem State.ldRewrite_touch {msk : Nat} {org : State} (s : State) (hm : sub 0x20000000000000002000000000000000000000000000000000000000000000000000000000000000000000000000000000000000000000000000000000000000000000 msk) (hz : Within msk org s) : Within msk org (State.ldRewrite s) := by
  unfold State.ldRewrite
  repeat' with_reducible (first | assumption | intro _ | exact partOk_refl _ _ _ | apply State.ldWrite_touch | apply within_ite | apply within_ite_fst | apply rows_ite | apply rows_if | apply within_foldl | apply within_foldl_fst | split | (dsimp only; split) | apply within_mk)
  all_goals first | exact sub_le (by decide) hm | exact partOk_bit (sub_bit hm (by decide)) | exact sub_bit hm (by decide) | exact .inr rfl

theorem State.ldRestore_touch {msk : Nat} {org : State} (s : State) (hm : sub 0x800000000000000000000000000000000000000000000000000000000000000600000000000000000000000000000000000000000000000000 msk) (hz : Within msk org s) : Within msk org (State.ldRestore s) := by
  unfold State.ldRestore
  repeat' with_reducible (first | assumption | intro _ | exact partOk_refl _ _ _ | apply State.setFld_touch | apply within_ite | apply within_ite_fst | apply rows_ite | apply rows_if | apply within_foldl | apply within_foldl_fst | split | (dsimp only; split) | apply within_mk)
  all_goals try with_reducible (first | refine in_OT_LRN_OPEN_LEARNED ?_ _ | refine in_OT_LRN_CLOSE_LRN ?_ _ | refine in_OT_LRN_OPEN_LRN ?_ _ | refine in_OT_LRN_CLOSE_SEEDED ?_ _ | refine in_OT_LRN_CLOSE_LEARNED ?_ _ | refine in_OT_LRN_OPEN_SEEDED ?_ _ | refine in_PWR_STATUS_LD_SRC ?_)
  all_goals first | exact sub_le (by decide) hm | exact partOk_bit (sub_bit hm (by decide)) | exact sub_bit hm (by decide) | exact in_OT_LRN_OPEN_LEARNED (sub_bit hm (by decide)) _ | exact in_OT_LRN_CLOSE_LRN (sub_bit hm (by decide)) _ | exact in_OT_LRN_OPEN_LRN (sub_bit hm (by decide)) _ | exact in_OT_LRN_CLOSE_SEEDED (sub_bit hm (by decide)) _ | exact in_OT_LRN_CLOSE_LEARNED (sub_bit hm (by decide)) _ | exact in_OT_LRN_OPEN_SEEDED (sub_bit hm (by decide)) _ | exact in_PWR_STATUS_LD_SRC (sub_bit hm (by decide)) | exact .inr rfl

theorem State.swathAdd_touch {msk : Nat} {org : State} (s : State) (bs : List Byte) (hm : sub 0x20000000000000000000000000000000000000000000000000000000000000000000000000000000000000000000000000000000000000000000000000000000000000 msk) (hz : Within msk org s) : Within msk org (State.swathAdd s bs) := by
  unfold State.swathAdd
  repeat' with_reducible (first | assumption | intro _ | exact partOk_refl _ _ _ | apply State.take_touch | apply within_ite | apply within_ite_fst | apply rows_ite | apply rows_if | apply within_foldl | apply within_foldl_fst | split | (dsimp only; split) | apply within_mk)
  all_goals first | exact sub_le (by decide) hm | exact partOk_bit (sub_bit hm (by decide)) | exact sub_bit hm (by decide) | exact .inr rfl

theorem State.swathPose_touch {msk : Nat} {org : State} (s : State) (h : PoseHist) (hm : sub 0x20000000000000000000000000000000000000000000000000000000000000000000000000000000000000000000000000000000000000000000000000000000000000 msk) (hz : Within msk org s) : Within msk org (State.swathPose s h) := by
  unfold State.swathPose
  repeat' with_reducible (first | assumption | intro _ | exact partOk_refl _ _ _ | apply State.swathAdd_touch | apply Run.comp_touch | apply within_ite | apply within_ite_fst | apply rows_ite | apply rows_if | apply within_foldl | apply within_foldl_fst | split | (dsimp only; split) | apply within_mk)
  all_goals first | exact sub_le (by decide) hm | exact partOk_bit (sub_bit hm (by decide)) | exact sub_bit hm (by decide) | exact .inr rfl

theorem State.swathLanding_touch {msk : Nat} {org : State} (s : State) (x : Time × Nat × Nat × Bool) (hm : sub 0x20000000000000000000000000000000000000000000000000000000000000000000000000000000000000000000000000000000000000000000000000000000000000 msk) (hz : Within msk org s) : Within msk org (State.swathLanding s x) := by
  unfold State.swathLanding
  repeat' with_reducible (first | assumption | intro _ | exact partOk_refl _ _ _ | apply State.swathAdd_touch | apply within_ite | apply within_ite_fst | apply rows_ite | apply rows_if | apply within_foldl | apply within_foldl_fst | split | (dsimp only; split) | apply within_mk)
  all_goals first | exact sub_le (by decide) hm | exact partOk_bit (sub_bit hm (by decide)) | exact sub_bit hm (by decide) | exact .inr rfl

theorem State.swathForm_touch {msk : Nat} {org : State} (s : State) (hm : sub 0x20080000000000000000000000000000000000000000000000000000000000000000000000000000000000000000000000000000000000000000000000000000000000 msk) (hz : Within msk org s) : Within msk org (State.swathForm s) := by
  unfold State.swathForm
  repeat' with_reducible (first | assumption | intro _ | exact partOk_refl _ _ _ | apply State.swathLanding_touch | apply within_ite | apply within_ite_fst | apply rows_ite | apply rows_if | apply within_foldl | apply within_foldl_fst | split | (dsimp only; split) | apply within_mk)
  all_goals first | exact sub_le (by decide) hm | exact partOk_bit (sub_bit hm (by decide)) | exact sub_bit hm (by decide) | exact .inr rfl

theorem State.setBank_touch {msk : Nat} {org : State} (s : State) (b : Nat) (ws : List (Nat × Word)) (hm : sub 0x20000000000000001800000000000000000000000000000000000000000000000000000000000000000000000000000000000000000000000000000000000000000000 msk) (hz : Within msk org s) : Within msk org (State.setBank s b ws) := by
  unfold State.setBank
  repeat' with_reducible (first | assumption | intro _ | exact partOk_refl _ _ _ | apply State.setReg_touch | apply within_ite | apply within_ite_fst | apply rows_ite | apply rows_if | apply within_foldl | apply within_foldl_fst | split | (dsimp only; split) | apply within_mk)
  all_goals try with_reducible (first | refine has_SEQ_A ?_ | refine has_SEQ ?_ ?_ _)
  all_goals first | exact sub_le (by decide) hm | exact partOk_bit (sub_bit hm (by decide)) | exact sub_bit hm (by decide) | exact has_SEQ_A (sub_bit hm (by decide)) | exact has_SEQ (sub_bit hm (by decide)) (sub_bit hm (by decide)) _ | exact .inr rfl

theorem State.saveBegins_touch {msk : Nat} {org : State} (s : State) (cause : Nat) (hm : sub 0x20000000000000001800000000000000000000000000000000000000000000000000000000000000000000000000000000000000000000000000000000000000000000 msk) (hz : Within msk org s) : Within msk org (State.saveBegins s cause) := by
  unfold State.saveBegins
  repeat' with_reducible (first | assumption | intro _ | exact partOk_refl _ _ _ | apply State.setReg_touch | apply within_ite | apply within_ite_fst | apply rows_ite | apply rows_if | apply within_foldl | apply within_foldl_fst | split | (dsimp only; split) | apply within_mk)
  all_goals try with_reducible (first | refine has_SEQ_A ?_ | refine has_SEQ ?_ ?_ _)
  all_goals first | exact sub_le (by decide) hm | exact partOk_bit (sub_bit hm (by decide)) | exact sub_bit hm (by decide) | exact has_SEQ_A (sub_bit hm (by decide)) | exact has_SEQ (sub_bit hm (by decide)) (sub_bit hm (by decide)) _ | exact .inr rfl

theorem State.saveEnds_touch {msk : Nat} {org : State} (s : State) (ok : Bool) (hm : sub 0x20000000000000005800000000000000000000000000000000000000000000000000000000000000000000000000000000000000000000000000000000000000000000 msk) (hz : Within msk org s) : Within msk org (State.saveEnds s ok) := by
  unfold State.saveEnds
  repeat' with_reducible (first | assumption | intro _ | exact partOk_refl _ _ _ | apply State.setFld_touch | apply State.setBank_touch | apply within_ite | apply within_ite_fst | apply rows_ite | apply rows_if | apply within_foldl | apply within_foldl_fst | split | (dsimp only; split) | apply within_mk)
  all_goals try with_reducible (first | refine in_PWR_TIMES_SAVE_T ?_)
  all_goals first | exact sub_le (by decide) hm | exact partOk_bit (sub_bit hm (by decide)) | exact sub_bit hm (by decide) | exact in_PWR_TIMES_SAVE_T (sub_bit hm (by decide)) | exact .inr rfl

theorem State.coreDown_touch {msk : Nat} {org : State} (s : State) (hm : sub 0x28220800000000045800800000000000000000000000000000200000000000000000000004000000100000000000000000000000000000000000000000000000000000 msk) (hz : Within msk org s) : Within msk org (State.coreDown s) := by
  unfold State.coreDown
  repeat' with_reducible (first | assumption | intro _ | exact partOk_refl _ _ _ | apply State.saveEnds_touch | apply State.eraseCut_touch | apply State.driveAlone_touch | apply State.setFld_touch | apply within_ite | apply within_ite_fst | apply rows_ite | apply rows_if | apply within_foldl | apply within_foldl_fst | split | (dsimp only; split) | apply within_mk)
  all_goals try with_reducible (first | refine in_PWR_STATUS_SLEEP_PEND ?_ | refine in_PWR_STATUS_READY ?_ | refine in_LS_STATUS_SW_LINK ?_)
  all_goals first | exact sub_le (by decide) hm | exact partOk_bit (sub_bit hm (by decide)) | exact sub_bit hm (by decide) | exact in_PWR_STATUS_SLEEP_PEND (sub_bit hm (by decide)) | exact in_PWR_STATUS_READY (sub_bit hm (by decide)) | exact in_LS_STATUS_SW_LINK (sub_bit hm (by decide)) | exact .inr rfl

/-- A part that the mask does not admit is not in a smaller mask. -/
theorem part_out {m0 m k : Nat} {p : Prop} (hm : sub m0 m) (hb : m.testBit k = false) (h : m0.testBit k = true) : p :=
  absurd (sub_bit hm h) (by rw [hb]; decide)

theorem State.coreCleared_touch {msk : Nat} {org : State} (s : State) (hm : sub 0x1fffe20003ffffffffffffffffffffffffffffffffffffffffffffffffffffffffffffffffffffffffffffffffffffffffffffffffffffffffffffffffffffffffffff msk) (hz : Within msk org s) : Within msk org (State.coreCleared s) := by
  refine ⟨fun a hd hn => absurd (has_all (sub_le (by decide) hm) hd) hn, fun p hp => ?_⟩
  have hq := hz.part p hp
  cases p <;> first
    | exact hq
    | exact part_out hm hp (by decide)
  

theorem State.coreReset_touch {msk : Nat} {org : State} (s : State) (hm : sub 0x1fffe20003ffffffffffffffffffffffffffffffffffffffffffffffffffffffffffffffffffffffffffffffffffffffffffffffffffffffffffffffffffffffffffff msk) (hz : Within msk org s) : Within msk org (State.coreReset s) := by
  unfold State.coreReset
  repeat' with_reducible (first | assumption | intro _ | exact partOk_refl _ _ _ | apply State.coreCleared_touch | apply State.setFld_touch | apply within_ite | apply within_ite_fst | apply rows_ite | apply rows_if | apply within_foldl | apply within_foldl_fst | split | (dsimp only; split) | apply within_mk)
  all_goals try with_reducible (first | refine in_CV_DROPPED_DROPPED ?_)
  all_goals first | exact sub_le (by decide) hm | exact partOk_bit (sub_bit hm (by decide)) | exact sub_bit hm (by decide) | exact in_CV_DROPPED_DROPPED (sub_bit hm (by decide)) | exact .inr rfl

theorem State.calFromRtc_touch {msk : Nat} {org : State} (s : State) (hm : sub 0x4000000000000000000000000000000000000000000000000000000000000000000000000000000000000000000000000000002000000000000000000000000000 msk) (hz : Within msk org s) : Within msk org (State.calFromRtc s) := by
  unfold State.calFromRtc
  repeat' with_reducible (first | assumption | intro _ | exact partOk_refl _ _ _ | apply State.setFld_touch | apply within_ite | apply within_ite_fst | apply rows_ite | apply rows_if | apply within_foldl | apply within_foldl_fst | split | (dsimp only; split) | apply within_mk)
  all_goals try with_reducible (first | refine in_TB_STATUS_CAL_VALID ?_)
  all_goals first | exact sub_le (by decide) hm | exact partOk_bit (sub_bit hm (by decide)) | exact sub_bit hm (by decide) | exact in_TB_STATUS_CAL_VALID (sub_bit hm (by decide)) | exact .inr rfl

theorem State.lanesStart_touch {msk : Nat} {org : State} (s : State) (laneA laneB : Bool) (hm : sub 0x17fe0800003611820000005c7080000000000000005000406800008f400002000180000004000000000000000000000000000000000000010400068000000000140400 msk) (hz : Within msk org s) : Within msk org (State.lanesStart s laneA laneB) := by
  unfold State.lanesStart
  repeat' with_reducible (first | assumption | intro _ | exact partOk_refl _ _ _ | apply State.setFbit_touch | apply State.tick_touch | apply State.setFld_touch | apply State.raiseIf_touch | apply State.raise_touch | apply State.bump_touch | apply State.holdSafe_touch | apply within_ite | apply within_ite_fst | apply rows_ite | apply rows_if | apply within_foldl | apply within_foldl_fst | split | (dsimp only; split) | apply within_mk)
  all_goals try with_reducible (first | refine in_RES_STATE_FIRE_FENCED ?_ | refine in_RES_STATE_FIRE_OK ?_ | refine in_RES_STATE_LANE_B ?_ | refine in_RES_STATE_LANE_A ?_ | refine in_RES_EVENT_FENCED_BEFORE ?_ | refine in_RES_CNT_A_FENCE_N ?_ | refine in_RES_EVENT_FENCED ?_ | refine in_RES_STATE_STATE ?_)
  all_goals first | exact sub_le (by decide) hm | exact partOk_bit (sub_bit hm (by decide)) | exact sub_bit hm (by decide) | exact in_RES_STATE_FIRE_FENCED (sub_bit hm (by decide)) | exact in_RES_STATE_FIRE_OK (sub_bit hm (by decide)) | exact in_RES_STATE_LANE_B (sub_bit hm (by decide)) | exact in_RES_STATE_LANE_A (sub_bit hm (by decide)) | exact in_RES_EVENT_FENCED_BEFORE (sub_bit hm (by decide)) | exact in_RES_CNT_A_FENCE_N (sub_bit hm (by decide)) | exact in_RES_EVENT_FENCED (sub_bit hm (by decide)) | exact in_RES_STATE_STATE (sub_bit hm (by decide)) | exact .inr rfl

theorem State.startClosed_touch {msk : Nat} {org : State} (s : State) (hm : sub 0x3000000000000000000000000000000000000000000000000000000000000000000000000000000000000000000000000000000000000000000000000000000000000 msk) (hz : Within msk org s) : Within msk org (State.startClosed s) := by
  unfold State.startClosed
  repeat' with_reducible (first | assumption | intro _ | exact partOk_refl _ _ _ | apply State.setLsw_touch | apply State.setFout_touch | apply within_ite | apply within_ite_fst | apply rows_ite | apply rows_if | apply within_foldl | apply within_foldl_fst | split | (dsimp only; split) | apply within_mk)
  all_goals first | exact sub_le (by decide) hm | exact partOk_bit (sub_bit hm (by decide)) | exact sub_bit hm (by decide) | exact .inr rfl

theorem State.resetRelease_touch {msk : Nat} {org : State} (s : State) (laneA laneB : Bool) (hm : sub 0x3fffea0003ffffffffffffffffffffffffffffffffffffffffffffffffffffffffffffffffffffffffffffffffffffffffffffffffffffffffffffffffffffffffffff msk) (hz : Within msk org s) : Within msk org (State.resetRelease s laneA laneB) := by
  unfold State.resetRelease
  repeat' with_reducible (first | assumption | intro _ | exact partOk_refl _ _ _ | apply State.coreReset_touch | apply State.startClosed_touch | apply State.fdFromShadow_touch | apply State.tick_touch | apply State.released_touch | apply State.setFld_touch | apply State.calFromRtc_touch | apply State.loadLeap_touch | apply State.setReg_touch | apply State.lanesStart_touch | apply State.boot_touch | apply State.ldRestore_touch | apply State.stopPin_touch | apply within_ite | apply within_ite_fst | apply rows_ite | apply rows_if | apply within_foldl | apply within_foldl_fst | split | (dsimp only; split) | apply within_mk)
  all_goals try with_reducible (first | refine in_PWR_STATUS_PG ?_ | refine in_PWR_STATUS_START_KIND ?_ | refine in_FIO_STATUS_BAR_OK ?_ | refine in_LS_STATUS_SW_LINK ?_ | refine has_SEQ_B ?_ | refine has_SEQ_A ?_)
  all_goals first | exact sub_le (by decide) hm | exact partOk_bit (sub_bit hm (by decide)) | exact sub_bit hm (by decide) | exact in_PWR_STATUS_PG (sub_bit hm (by decide)) | exact in_PWR_STATUS_START_KIND (sub_bit hm (by decide)) | exact in_FIO_STATUS_BAR_OK (sub_bit hm (by decide)) | exact in_LS_STATUS_SW_LINK (sub_bit hm (by decide)) | exact has_SEQ_B (sub_bit hm (by decide)) | exact has_SEQ_A (sub_bit hm (by decide)) | exact .inr rfl

theorem State.vbatOn_touch {msk : Nat} {org : State} (s : State) (hm : sub 0x2b2e0800003611865820800010800000000000001fffffffffe00000000000000003fffffffffffff80000000000000000000000000000000400068000000000000000 msk) (hz : Within msk org s) : Within msk org (State.vbatOn s) := by
  unfold State.vbatOn
  repeat' with_reducible (first | assumption | intro _ | exact partOk_refl _ _ _ | apply State.coreDown_touch | apply State.driveUnpowered_touch | apply State.lsPowerOn_touch | apply State.fdPowerOn_touch | apply State.setFld_touch | apply within_ite | apply within_ite_fst | apply rows_ite | apply rows_if | apply within_foldl | apply within_foldl_fst | split | (dsimp only; split) | apply within_mk)
  all_goals try with_reducible (first | refine in_PWR_WAKE_WAKE_SRC ?_ | refine in_PWR_STATUS_RTC_VALID ?_)
  all_goals first | exact sub_le (by decide) hm | exact partOk_bit (sub_bit hm (by decide)) | exact sub_bit hm (by decide) | exact in_PWR_WAKE_WAKE_SRC (sub_bit hm (by decide)) | exact in_PWR_STATUS_RTC_VALID (sub_bit hm (by decide)) | exact .inr rfl

theorem State.endedBy_touch {msk : Nat} {org : State} (s : State) (brown pg : Bool) (hm : sub 0x2000000000000000000000000000000000000000000000000000000000000000000000000000000000000000000000000000000000000000000 msk) (hz : Within msk org s) : Within msk org (State.endedBy s brown pg) := by
  unfold State.endedBy
  repeat' with_reducible (first | assumption | intro _ | exact partOk_refl _ _ _ | apply State.setBit_touch | apply within_ite | apply within_ite_fst | apply rows_ite | apply rows_if | apply within_foldl | apply within_foldl_fst | split | (dsimp only; split) | apply within_mk)
  all_goals try with_reducible (first | refine in_PWR_AOLOG_PGLOST_PREV ?_ | refine in_PWR_AOLOG_BO_PREV ?_)
  all_goals first | exact sub_le (by decide) hm | exact partOk_bit (sub_bit hm (by decide)) | exact sub_bit hm (by decide) | exact in_PWR_AOLOG_PGLOST_PREV (sub_bit hm (by decide)) | exact in_PWR_AOLOG_BO_PREV (sub_bit hm (by decide)) | exact .inr rfl

theorem State.brownRecord_touch {msk : Nat} {org : State} (s : State) (save : Option Bool) (bank : Nat) (hm : sub 0x20000000000000000000000000000000000000000000000000000000000000000000000000000000000000000000000000000000000000000000000000000000000 msk) (hz : Within msk org s) : Within msk org (State.brownRecord s save bank) := by
  unfold State.brownRecord
  repeat' with_reducible (first | assumption | intro _ | exact partOk_refl _ _ _ | apply State.save_touch | apply within_ite | apply within_ite_fst | apply rows_ite | apply rows_if | apply within_foldl | apply within_foldl_fst | split | (dsimp only; split) | apply within_mk)
  all_goals first | exact sub_le (by decide) hm | exact partOk_bit (sub_bit hm (by decide)) | exact sub_bit hm (by decide) | exact .inr rfl

theorem State.brownCut_touch {msk : Nat} {org : State} (s : State) (hm : sub 0x60000000000000001000010800000000000000000000000000000000000000000000000000000000000000000000000000000000000000000000000000000000000 msk) (hz : Within msk org s) : Within msk org (State.brownCut s) := by
  unfold State.brownCut
  repeat' with_reducible (first | assumption | intro _ | exact partOk_refl _ _ _ | apply State.raiseIf_touch | apply State.brownRecord_touch | apply within_ite | apply within_ite_fst | apply rows_ite | apply rows_if | apply within_foldl | apply within_foldl_fst | split | (dsimp only; split) | apply within_mk)
  all_goals try with_reducible (first | refine in_PWR_EVENT_BO_SAVE_FAIL ?_)
  all_goals first | exact sub_le (by decide) hm | exact partOk_bit (sub_bit hm (by decide)) | exact sub_bit hm (by decide) | exact in_PWR_EVENT_BO_SAVE_FAIL (sub_bit hm (by decide)) | exact .inr rfl

theorem State.resetLow_touch {msk : Nat} {org : State} (s : State) (hm : sub 0x28260800000000045803800010800000000000000000000000200000000000000000000004000000100000000000000000000000000000000000000000000000000000 msk) (hz : Within msk org s) : Within msk org (State.resetLow s) := by
  unfold State.resetLow
  repeat' with_reducible (first | assumption | intro _ | exact partOk_refl _ _ _ | apply State.brownCut_touch | apply State.endedBy_touch | apply State.coreDown_touch | apply within_ite | apply within_ite_fst | apply rows_ite | apply rows_if | apply within_foldl | apply within_foldl_fst | split | (dsimp only; split) | apply within_mk)
  all_goals first | exact sub_le (by decide) hm | exact partOk_bit (sub_bit hm (by decide)) | exact sub_bit hm (by decide) | exact .inr rfl

theorem State.startTimeout_touch {msk : Nat} {org : State} (s : State) (pg : Nat) (hm : sub 0x20020000000000000002800000000000000000000000000000000000000000000000000000000000000000000000000000000000000000000000000000000000000000 msk) (hz : Within msk org s) : Within msk org (State.startTimeout s pg) := by
  unfold State.startTimeout
  repeat' with_reducible (first | assumption | intro _ | exact partOk_refl _ _ _ | apply State.setFld_touch | apply State.bump_touch | apply within_ite | apply within_ite_fst | apply rows_ite | apply rows_if | apply within_foldl | apply within_foldl_fst | split | (dsimp only; split) | apply within_mk)
  all_goals try with_reducible (first | refine in_PWR_AOLOG_FAIL_N ?_ | refine in_PWR_AOLOG_PG_MISSING ?_ | refine in_PWR_STATUS_PG ?_)
  all_goals first | exact sub_le (by decide) hm | exact partOk_bit (sub_bit hm (by decide)) | exact sub_bit hm (by decide) | exact in_PWR_AOLOG_FAIL_N (sub_bit hm (by decide)) | exact in_PWR_AOLOG_PG_MISSING (sub_bit hm (by decide)) | exact in_PWR_STATUS_PG (sub_bit hm (by decide)) | exact .inr rfl

theorem State.pgLost_touch {msk : Nat} {org : State} (s : State) (pg : Nat) (hm : sub 0x28260800000000045803800010800000000000000000000000200000000000000000000004000000100000000000000000000000000000000000000000000000000000 msk) (hz : Within msk org s) : Within msk org (State.pgLost s pg) := by
  unfold State.pgLost
  repeat' with_reducible (first | assumption | intro _ | exact partOk_refl _ _ _ | apply State.brownCut_touch | apply State.raise_touch | apply State.endedBy_touch | apply State.setFld_touch | apply State.coreDown_touch | apply within_ite | apply within_ite_fst | apply rows_ite | apply rows_if | apply within_foldl | apply within_foldl_fst | split | (dsimp only; split) | apply within_mk)
  all_goals try with_reducible (first | refine in_PWR_STATUS_PG ?_ | refine in_PWR_EVENT_PG_LOST ?_)
  all_goals first | exact sub_le (by decide) hm | exact partOk_bit (sub_bit hm (by decide)) | exact sub_bit hm (by decide) | exact in_PWR_STATUS_PG (sub_bit hm (by decide)) | exact in_PWR_EVENT_PG_LOST (sub_bit hm (by decide)) | exact .inr rfl

theorem State.brownOut_touch {msk : Nat} {org : State} (s : State) (hm : sub 0x3fffc8000036118e580380003080000000000000005000406800008f4000020001800000040000000000000000000000029a0000000000010400068004000000140400 msk) (hz : Within msk org s) : Within msk org (State.brownOut s) := by
  unfold State.brownOut
  repeat' with_reducible (first | assumption | intro _ | exact partOk_refl _ _ _ | apply State.raiseIf_touch | apply State.stopHalt_touch | apply State.brownDrain_touch | apply State.slotSafe_touch | apply State.bbStop_touch | apply State.endedBy_touch | apply State.setFld_touch | apply State.saveEnds_touch | apply State.saveBegins_touch | apply within_ite | apply within_ite_fst | apply rows_ite | apply rows_if | apply within_foldl | apply within_foldl_fst | split | (dsimp only; split) | apply within_mk)
  all_goals try with_reducible (first | refine in_PWR_EVENT_HOLD_LOW ?_ | refine in_PWR_STATUS_SLEEP_PEND ?_)
  all_goals first | exact sub_le (by decide) hm | exact partOk_bit (sub_bit hm (by decide)) | exact sub_bit hm (by decide) | exact in_PWR_EVENT_HOLD_LOW (sub_bit hm (by decide)) | exact in_PWR_STATUS_SLEEP_PEND (sub_bit hm (by decide)) | exact .inr rfl

theorem State.brownSaved_touch {msk : Nat} {org : State} (s : State) (held : Bool) (hm : sub 0x28260800000000045801800010800000000000000000000000200000000000000000000004000000100000000000000000000000000000000000000000000000000000 msk) (hz : Within msk org s) : Within msk org (State.brownSaved s held) := by
  unfold State.brownSaved
  repeat' with_reducible (first | assumption | intro _ | exact partOk_refl _ _ _ | apply State.saveEnds_touch | apply State.raise_touch | apply State.brownRecord_touch | apply State.coreDown_touch | apply within_ite | apply within_ite_fst | apply rows_ite | apply rows_if | apply within_foldl | apply within_foldl_fst | split | (dsimp only; split) | apply within_mk)
  all_goals try with_reducible (first | refine in_PWR_EVENT_BO_SAVED ?_ | refine in_PWR_EVENT_BO_SAVE_FAIL ?_)
  all_goals first | exact sub_le (by decide) hm | exact partOk_bit (sub_bit hm (by decide)) | exact sub_bit hm (by decide) | exact in_PWR_EVENT_BO_SAVED (sub_bit hm (by decide)) | exact in_PWR_EVENT_BO_SAVE_FAIL (sub_bit hm (by decide)) | exact .inr rfl

theorem State.brownRecovered_touch {msk : Nat} {org : State} (s : State) (hm : sub 0x20000000000000000000000000000000000000000000000000000000000000000000000000000000000000000000000000000000000000000000000000000000000000 msk) (hz : Within msk org s) : Within msk org (State.brownRecovered s) := by
  unfold State.brownRecovered
  repeat' with_reducible (first | assumption | intro _ | exact partOk_refl _ _ _ | apply within_ite | apply within_ite_fst | apply rows_ite | apply rows_if | apply within_foldl | apply within_foldl_fst | split | (dsimp only; split) | apply within_mk)
  all_goals first | exact sub_le (by decide) hm | exact partOk_bit (sub_bit hm (by decide)) | exact sub_bit hm (by decide) | exact .inr rfl

theorem State.writeDeferred_touch {msk : Nat} {org : State} (s : State) (hm : sub 0x60000003611820000000010800000000000000000000000000000000000000000000000000000000000000000000000000000000000000000000000000000000000 msk) (hz : Within msk org s) : Within msk org (State.writeDeferred s) := by
  unfold State.writeDeferred
  repeat' with_reducible (first | assumption | intro _ | exact partOk_refl _ _ _ | apply State.canvasWith_touch | apply within_ite | apply within_ite_fst | apply rows_ite | apply rows_if | apply within_foldl | apply within_foldl_fst | split | (dsimp only; split) | apply within_mk)
  all_goals first | exact sub_le (by decide) hm | exact partOk_bit (sub_bit hm (by decide)) | exact sub_bit hm (by decide) | exact .inr rfl

theorem State.ready_touch {msk : Nat} {org : State} (s : State) (hm : sub 0x60000003611824003800010800010000000000000000000000000000000000000000000000000000000000000000000000000000000000000000000000000000000 msk) (hz : Within msk org s) : Within msk org (State.ready s) := by
  unfold State.ready
  repeat' with_reducible (first | assumption | intro _ | exact partOk_refl _ _ _ | apply State.released_touch | apply State.setFld_touch | apply State.canvas_touch | apply State.raiseIf_touch | apply State.writeDeferred_touch | apply within_ite | apply within_ite_fst | apply rows_ite | apply rows_if | apply within_foldl | apply within_foldl_fst | split | (dsimp only; split) | apply within_mk)
  all_goals try with_reducible (first | refine in_HP_STATUS_LINK_UP ?_ | refine in_PWR_TIMES_READY_T ?_ | refine in_PWR_STATUS_READY ?_ | refine in_PWR_EVENT_START_FAIL ?_ | refine in_PWR_AOLOG_FAIL_N ?_)
  all_goals first | exact sub_le (by decide) hm | exact partOk_bit (sub_bit hm (by decide)) | exact sub_bit hm (by decide) | exact in_HP_STATUS_LINK_UP (sub_bit hm (by decide)) | exact in_PWR_TIMES_READY_T (sub_bit hm (by decide)) | exact in_PWR_STATUS_READY (sub_bit hm (by decide)) | exact in_PWR_EVENT_START_FAIL (sub_bit hm (by decide)) | exact in_PWR_AOLOG_FAIL_N (sub_bit hm (by decide)) | exact .inr rfl

theorem State.sleepBegins_touch {msk : Nat} {org : State} (s : State) (hm : sub 0x2000c000000000003800000000000000000000000000000000000000000000000000000000000000000000000000000000000000000000000000000000000000000000 msk) (hz : Within msk org s) : Within msk org (State.sleepBegins s) := by
  unfold State.sleepBegins
  repeat' with_reducible (first | assumption | intro _ | exact partOk_refl _ _ _ | apply State.gnssWrite_touch | apply State.ldWrite_touch | apply State.saveBegins_touch | apply within_ite | apply within_ite_fst | apply rows_ite | apply rows_if | apply within_foldl | apply within_foldl_fst | split | (dsimp only; split) | apply within_mk)
  all_goals first | exact sub_le (by decide) hm | exact partOk_bit (sub_bit hm (by decide)) | exact sub_bit hm (by decide) | exact .inr rfl

theorem State.sleepRequest_touch {msk : Nat} {org : State} (s : State) (c : Nat) (hm : sub 0x2004c000000000003801800010800000000000000000000000000000000000000000000000000000000000000000000000000000000000000000000000000000000000 msk) (hz : Within msk org s) : Within msk org (State.sleepRequest s c) := by
  unfold State.sleepRequest
  repeat' with_reducible (first | assumption | intro _ | exact partOk_refl _ _ _ | apply State.pwrErr_touch | apply State.raise_touch | apply State.setFld_touch | apply State.sleepBegins_touch | apply within_ite | apply within_ite_fst | apply rows_ite | apply rows_if | apply within_foldl | apply within_foldl_fst | split | (dsimp only; split) | apply within_mk)
  all_goals try with_reducible (first | refine in_PWR_EVENT_SLEEP_BUSY ?_ | refine in_PWR_STATUS_SLEEP_PEND ?_)
  all_goals first | exact sub_le (by decide) hm | exact partOk_bit (sub_bit hm (by decide)) | exact sub_bit hm (by decide) | exact in_PWR_EVENT_SLEEP_BUSY (sub_bit hm (by decide)) | exact in_PWR_STATUS_SLEEP_PEND (sub_bit hm (by decide)) | exact .inr rfl

theorem State.hostSave_touch {msk : Nat} {org : State} (s : State) (hm : sub 0x20040000000000001801000010800000000000000000000000000000000000000000000000000000000000000000000000000000000000000000000000000000000000 msk) (hz : Within msk org s) : Within msk org (State.hostSave s) := by
  unfold State.hostSave
  repeat' with_reducible (first | assumption | intro _ | exact partOk_refl _ _ _ | apply State.pwrErr_touch | apply State.saveBegins_touch | apply within_ite | apply within_ite_fst | apply rows_ite | apply rows_if | apply within_foldl | apply within_foldl_fst | split | (dsimp only; split) | apply within_mk)
  all_goals first | exact sub_le (by decide) hm | exact partOk_bit (sub_bit hm (by decide)) | exact sub_bit hm (by decide) | exact .inr rfl

theorem State.bankSaved_touch {msk : Nat} {org : State} (s : State) (ok : Bool) (hm : sub 0x2b2ec8000036118e7803800010800000000000010000000040600000000000000003fffffffffffff80000000000000000000000000000000400068000000000000000 msk) (hz : Within msk org s) : Within msk org (State.bankSaved s ok) := by
  unfold State.bankSaved
  repeat' with_reducible (first | assumption | intro _ | exact partOk_refl _ _ _ | apply State.saveEnds_touch | apply State.raiseIf_touch | apply State.sleepBegins_touch | apply State.canvas_touch | apply State.canvasDrain_touch | apply State.canvasRewrite_touch | apply State.setFld_touch | apply State.endedBy_touch | apply State.coreDown_touch | apply State.driveUnpowered_touch | apply State.sleepInputs_touch | apply State.limpRefresh_touch | apply within_ite | apply within_ite_fst | apply rows_ite | apply rows_if | apply within_foldl | apply within_foldl_fst | split | (dsimp only; split) | apply within_mk)
  all_goals try with_reducible (first | refine in_PWR_EVENT_SAVE_DONE ?_ | refine in_BP_STATUS_STATE ?_ _)
  all_goals first | exact sub_le (by decide) hm | exact partOk_bit (sub_bit hm (by decide)) | exact sub_bit hm (by decide) | exact in_PWR_EVENT_SAVE_DONE (sub_bit hm (by decide)) | exact in_BP_STATUS_STATE (sub_bit hm (by decide)) _ | exact .inr rfl

theorem State.wake_touch {msk : Nat} {org : State} (s : State) (source port : Nat) (hm : sub 0x230e0800003611820020000010800000000000000000000040600000000000000000000000000000000000000000000000000000000000000400068000000000000000 msk) (hz : Within msk org s) : Within msk org (State.wake s source port) := by
  unfold State.wake
  repeat' with_reducible (first | assumption | intro _ | exact partOk_refl _ _ _ | apply State.setFld_touch | apply State.sleepInputs_touch | apply State.limpRefresh_touch | apply within_ite | apply within_ite_fst | apply rows_ite | apply rows_if | apply within_foldl | apply within_foldl_fst | split | (dsimp only; split) | apply within_mk)
  all_goals try with_reducible (first | refine in_PWR_WAKE_WAKE_PORT ?_ | refine in_PWR_WAKE_WAKE_SRC ?_)
  all_goals first | exact sub_le (by decide) hm | exact partOk_bit (sub_bit hm (by decide)) | exact sub_bit hm (by decide) | exact in_PWR_WAKE_WAKE_PORT (sub_bit hm (by decide)) | exact in_PWR_WAKE_WAKE_SRC (sub_bit hm (by decide)) | exact .inr rfl

theorem State.rtcSet_touch {msk : Nat} {org : State} (s : State) (hm : sub 0x20000000000000000000800000000000000000000000000000000000000000000000000000000000000000000000000000000000000000000000000000000000000000 msk) (hz : Within msk org s) : Within msk org (State.rtcSet s) := by
  unfold State.rtcSet
  repeat' with_reducible (first | assumption | intro _ | exact partOk_refl _ _ _ | apply State.setFld_touch | apply within_ite | apply within_ite_fst | apply rows_ite | apply rows_if | apply within_foldl | apply within_foldl_fst | split | (dsimp only; split) | apply within_mk)
  all_goals try with_reducible (first | refine in_PWR_STATUS_RTC_VALID ?_)
  all_goals first | exact sub_le (by decide) hm | exact partOk_bit (sub_bit hm (by decide)) | exact sub_bit hm (by decide) | exact in_PWR_STATUS_RTC_VALID (sub_bit hm (by decide)) | exact .inr rfl

theorem State.pwWrite_touch {msk : Nat} {org : State} (s : State) (c a v : Nat) (hm : sub 0x2004c000000000003801800010800000000000000000000000000000000000000000000000000000000000000000000000000000000000000000000000000000000000 msk) (ha : RowsHave msk a) (hz : Within msk org s) : Within msk org (State.pwWrite s c a v) := by
  unfold State.pwWrite
  repeat' with_reducible (first | assumption | intro _ | exact partOk_refl _ _ _ | apply State.writeCodes_touch | apply State.pwrErr_touch | apply State.sleepRequest_touch | apply State.hostSave_touch | apply within_ite | apply within_ite_fst | apply rows_ite | apply rows_if | apply within_foldl | apply within_foldl_fst | split | (dsimp only; split) | apply within_mk)
  all_goals first | exact sub_le (by decide) hm | exact partOk_bit (sub_bit hm (by decide)) | exact sub_bit hm (by decide) | exact .inr rfl

theorem State.bankData_touch {msk : Nat} {org : State} (s : State) (hm : sub 0x8000000000000000000000000000000000000000000000000000000000000000000000000000000000000000000000000000000000000000000000 msk) (hz : Within msk org s) : Within msk org (State.bankData s).1 := by
  unfold State.bankData
  repeat' with_reducible (first | assumption | intro _ | exact partOk_refl _ _ _ | apply State.setFld_touch | apply within_ite | apply within_ite_fst | apply rows_ite | apply rows_if | apply within_foldl | apply within_foldl_fst | split | (dsimp only; split) | apply within_mk)
  all_goals try with_reducible (first | refine in_BANK_IDX_WORD ?_)
  all_goals first | exact sub_le (by decide) hm | exact partOk_bit (sub_bit hm (by decide)) | exact sub_bit hm (by decide) | exact in_BANK_IDX_WORD (sub_bit hm (by decide)) | exact .inr rfl

theorem State.hsClear_touch {msk : Nat} {org : State} (s : State) (c : Nat) (hm : sub 0x13fe0800003611820000000070800000000000000010004040000009000000000000000004000000000000000000000000000000000000000400068000000000000000 msk) (hz : Within msk org s) : Within msk org (State.hsClear s c) := by
  unfold State.hsClear
  repeat' with_reducible (first | assumption | intro _ | exact partOk_refl _ _ _ | apply State.raise_touch | apply State.setFld_touch | apply State.heldRelease_touch | apply within_ite | apply within_ite_fst | apply rows_ite | apply rows_if | apply within_foldl | apply within_foldl_fst | split | (dsimp only; split) | apply within_mk)
  all_goals try with_reducible (first | refine in_RES_EVENT_CFG_ERR ?_ | refine in_RES_STATE_LANE_B ?_ | refine in_RES_STATE_LANE_A ?_)
  all_goals first | exact sub_le (by decide) hm | exact partOk_bit (sub_bit hm (by decide)) | exact sub_bit hm (by decide) | exact in_RES_EVENT_CFG_ERR (sub_bit hm (by decide)) | exact in_RES_STATE_LANE_B (sub_bit hm (by decide)) | exact in_RES_STATE_LANE_A (sub_bit hm (by decide)) | exact .inr rfl

theorem State.reloadImage_touch {msk : Nat} {org : State} (s : State) (hm : sub 0x1fff480000361182000000001085fa00001ff80380400040273bff8fd18002041198081007fff800007fff800000000006000002001ff8011c0046c000015f839606a0 msk) (hz : Within msk org s) : Within msk org (State.reloadImage s) := by
  unfold State.reloadImage
  repeat' with_reducible (first | assumption | intro _ | exact partOk_refl _ _ _ | apply State.setFld_touch | apply State.boot_touch | apply State.bringUp_touch | apply State.portOff_touch | apply within_ite | apply within_ite_fst | apply rows_ite | apply rows_if | apply within_foldl | apply within_foldl_fst | split | (dsimp only; split) | apply within_mk)
  all_goals try with_reducible (first | refine in_IMG_STATUS_ACTIVE ?_)
  all_goals first | exact sub_le (by decide) hm | exact partOk_bit (sub_bit hm (by decide)) | exact sub_bit hm (by decide) | exact in_IMG_STATUS_ACTIVE (sub_bit hm (by decide)) | exact .inr rfl

theorem State.reloadDone_touch {msk : Nat} {org : State} (s : State) (laneA laneB : Bool) (hm : sub 0x1fffc80000361182000080447085fa00001ffb07815020c0673bff8fd18002341198081007fff800007fff800000000006000002001ff8011c0046c000015f839606a0 msk) (hz : Within msk org s) : Within msk org (State.reloadDone s laneA laneB) := by
  unfold State.reloadDone
  extract_lets q0 s0 s1 q2 s2 s3 s4 s5 s6 s7
  have h_s0 : Within msk org s0 := by
    dsimp only [s0, q0]
    ((repeat' with_reducible (first | assumption | intro _ | exact partOk_refl _ _ _ | apply State.setFld_touch | apply State.raise_touch | apply State.bump_touch | apply State.poTo_touch | apply State.reloadImage_touch | apply State.ldRestore_touch | apply State.heldRelease_touch | apply State.passAll_touch | apply within_ite | apply within_ite_fst | apply rows_ite | apply rows_if | apply within_foldl | apply within_foldl_fst | split | (dsimp only; split) | apply within_mk)); (all_goals try with_reducible (first | refine in_RES_STATE_LANE_B ?_ | refine in_RES_STATE_LANE_A ?_ | refine in_RES_CNT_A_FENCE_N ?_ | refine in_RES_EVENT_FENCED ?_ | refine in_RES_HSCAUSE_CAUSE ?_ | refine in_RES_STATE_STATE ?_)); (all_goals first | exact sub_le (by decide) hm | exact partOk_bit (sub_bit hm (by decide)) | exact sub_bit hm (by decide) | exact in_RES_STATE_LANE_B (sub_bit hm (by decide)) | exact in_RES_STATE_LANE_A (sub_bit hm (by decide)) | exact in_RES_CNT_A_FENCE_N (sub_bit hm (by decide)) | exact in_RES_EVENT_FENCED (sub_bit hm (by decide)) | exact in_RES_HSCAUSE_CAUSE (sub_bit hm (by decide)) | exact in_RES_STATE_STATE (sub_bit hm (by decide)) | exact .inr rfl))
  clear_value s0
  have h_s1 : Within msk org s1 := by
    dsimp only [s1]
    ((repeat' with_reducible (first | assumption | intro _ | exact partOk_refl _ _ _ | apply State.setFld_touch | apply State.raise_touch | apply State.bump_touch | apply State.poTo_touch | apply State.reloadImage_touch | apply State.ldRestore_touch | apply State.heldRelease_touch | apply State.passAll_touch | apply within_ite | apply within_ite_fst | apply rows_ite | apply rows_if | apply within_foldl | apply within_foldl_fst | split | (dsimp only; split) | apply within_mk)); (all_goals try with_reducible (first | refine in_RES_STATE_LANE_B ?_ | refine in_RES_STATE_LANE_A ?_ | refine in_RES_CNT_A_FENCE_N ?_ | refine in_RES_EVENT_FENCED ?_ | refine in_RES_HSCAUSE_CAUSE ?_ | refine in_RES_STATE_STATE ?_)); (all_goals first | exact sub_le (by decide) hm | exact partOk_bit (sub_bit hm (by decide)) | exact sub_bit hm (by decide) | exact in_RES_STATE_LANE_B (sub_bit hm (by decide)) | exact in_RES_STATE_LANE_A (sub_bit hm (by decide)) | exact in_RES_CNT_A_FENCE_N (sub_bit hm (by decide)) | exact in_RES_EVENT_FENCED (sub_bit hm (by decide)) | exact in_RES_HSCAUSE_CAUSE (sub_bit hm (by decide)) | exact in_RES_STATE_STATE (sub_bit hm (by decide)) | exact .inr rfl))
  clear_value s1
  have h_s2 : Within msk org s2 := by
    dsimp only [s2, q2]
    ((repeat' with_reducible (first | assumption | intro _ | exact partOk_refl _ _ _ | apply State.setFld_touch | apply State.raise_touch | apply State.bump_touch | apply State.poTo_touch | apply State.reloadImage_touch | apply State.ldRestore_touch | apply State.heldRelease_touch | apply State.passAll_touch | apply within_ite | apply within_ite_fst | apply rows_ite | apply rows_if | apply within_foldl | apply within_foldl_fst | split | (dsimp only; split) | apply within_mk)); (all_goals try with_reducible (first | refine in_RES_STATE_LANE_B ?_ | refine in_RES_STATE_LANE_A ?_ | refine in_RES_CNT_A_FENCE_N ?_ | refine in_RES_EVENT_FENCED ?_ | refine in_RES_HSCAUSE_CAUSE ?_ | refine in_RES_STATE_STATE ?_)); (all_goals first | exact sub_le (by decide) hm | exact partOk_bit (sub_bit hm (by decide)) | exact sub_bit hm (by decide) | exact in_RES_STATE_LANE_B (sub_bit hm (by decide)) | exact in_RES_STATE_LANE_A (sub_bit hm (by decide)) | exact in_RES_CNT_A_FENCE_N (sub_bit hm (by decide)) | exact in_RES_EVENT_FENCED (sub_bit hm (by decide)) | exact in_RES_HSCAUSE_CAUSE (sub_bit hm (by decide)) | exact in_RES_STATE_STATE (sub_bit hm (by decide)) | exact .inr rfl))
  clear_value s2
  have h_s3 : Within msk org s3 := by
    dsimp only [s3]
    ((repeat' with_reducible (first | assumption | intro _ | exact partOk_refl _ _ _ | apply State.setFld_touch | apply State.raise_touch | apply State.bump_touch | apply State.poTo_touch | apply State.reloadImage_touch | apply State.ldRestore_touch | apply State.heldRelease_touch | apply State.passAll_touch | apply within_ite | apply within_ite_fst | apply rows_ite | apply rows_if | apply within_foldl | apply within_foldl_fst | split | (dsimp only; split) | apply within_mk)); (all_goals try with_reducible (first | refine in_RES_STATE_LANE_B ?_ | refine in_RES_STATE_LANE_A ?_ | refine in_RES_CNT_A_FENCE_N ?_ | refine in_RES_EVENT_FENCED ?_ | refine in_RES_HSCAUSE_CAUSE ?_ | refine in_RES_STATE_STATE ?_)); (all_goals first | exact sub_le (by decide) hm | exact partOk_bit (sub_bit hm (by decide)) | exact sub_bit hm (by decide) | exact in_RES_STATE_LANE_B (sub_bit hm (by decide)) | exact in_RES_STATE_LANE_A (sub_bit hm (by decide)) | exact in_RES_CNT_A_FENCE_N (sub_bit hm (by decide)) | exact in_RES_EVENT_FENCED (sub_bit hm (by decide)) | exact in_RES_HSCAUSE_CAUSE (sub_bit hm (by decide)) | exact in_RES_STATE_STATE (sub_bit hm (by decide)) | exact .inr rfl))
  clear_value s3
  have h_s4 : Within msk org s4 := by
    dsimp only [s4]
    ((repeat' with_reducible (first | assumption | intro _ | exact partOk_refl _ _ _ | apply State.setFld_touch | apply State.raise_touch | apply State.bump_touch | apply State.poTo_touch | apply State.reloadImage_touch | apply State.ldRestore_touch | apply State.heldRelease_touch | apply State.passAll_touch | apply within_ite | apply within_ite_fst | apply rows_ite | apply rows_if | apply within_foldl | apply within_foldl_fst | split | (dsimp only; split) | apply within_mk)); (all_goals try with_reducible (first | refine in_RES_STATE_LANE_B ?_ | refine in_RES_STATE_LANE_A ?_ | refine in_RES_CNT_A_FENCE_N ?_ | refine in_RES_EVENT_FENCED ?_ | refine in_RES_HSCAUSE_CAUSE ?_ | refine in_RES_STATE_STATE ?_)); (all_goals first | exact sub_le (by decide) hm | exact partOk_bit (sub_bit hm (by decide)) | exact sub_bit hm (by decide) | exact in_RES_STATE_LANE_B (sub_bit hm (by decide)) | exact in_RES_STATE_LANE_A (sub_bit hm (by decide)) | exact in_RES_CNT_A_FENCE_N (sub_bit hm (by decide)) | exact in_RES_EVENT_FENCED (sub_bit hm (by decide)) | exact in_RES_HSCAUSE_CAUSE (sub_bit hm (by decide)) | exact in_RES_STATE_STATE (sub_bit hm (by decide)) | exact .inr rfl))
  clear_value s4
  have h_s5 : Within msk org s5 := by
    dsimp only [s5]
    ((repeat' with_reducible (first | assumption | intro _ | exact partOk_refl _ _ _ | apply State.setFld_touch | apply State.raise_touch | apply State.bump_touch | apply State.poTo_touch | apply State.reloadImage_touch | apply State.ldRestore_touch | apply State.heldRelease_touch | apply State.passAll_touch | apply within_ite | apply within_ite_fst | apply rows_ite | apply rows_if | apply within_foldl | apply within_foldl_fst | split | (dsimp only; split) | apply within_mk)); (all_goals try with_reducible (first | refine in_RES_STATE_LANE_B ?_ | refine in_RES_STATE_LANE_A ?_ | refine in_RES_CNT_A_FENCE_N ?_ | refine in_RES_EVENT_FENCED ?_ | refine in_RES_HSCAUSE_CAUSE ?_ | refine in_RES_STATE_STATE ?_)); (all_goals first | exact sub_le (by decide) hm | exact partOk_bit (sub_bit hm (by decide)) | exact sub_bit hm (by decide) | exact in_RES_STATE_LANE_B (sub_bit hm (by decide)) | exact in_RES_STATE_LANE_A (sub_bit hm (by decide)) | exact in_RES_CNT_A_FENCE_N (sub_bit hm (by decide)) | exact in_RES_EVENT_FENCED (sub_bit hm (by decide)) | exact in_RES_HSCAUSE_CAUSE (sub_bit hm (by decide)) | exact in_RES_STATE_STATE (sub_bit hm (by decide)) | exact .inr rfl))
  clear_value s5
  have h_s6 : Within msk org s6 := by
    dsimp only [s6]
    ((repeat' with_reducible (first | assumption | intro _ | exact partOk_refl _ _ _ | apply State.setFld_touch | apply State.raise_touch | apply State.bump_touch | apply State.poTo_touch | apply State.reloadImage_touch | apply State.ldRestore_touch | apply State.heldRelease_touch | apply State.passAll_touch | apply within_ite | apply within_ite_fst | apply rows_ite | apply rows_if | apply within_foldl | apply within_foldl_fst | split | (dsimp only; split) | apply within_mk)); (all_goals try with_reducible (first | refine in_RES_STATE_LANE_B ?_ | refine in_RES_STATE_LANE_A ?_ | refine in_RES_CNT_A_FENCE_N ?_ | refine in_RES_EVENT_FENCED ?_ | refine in_RES_HSCAUSE_CAUSE ?_ | refine in_RES_STATE_STATE ?_)); (all_goals first | exact sub_le (by decide) hm | exact partOk_bit (sub_bit hm (by decide)) | exact sub_bit hm (by decide) | exact in_RES_STATE_LANE_B (sub_bit hm (by decide)) | exact in_RES_STATE_LANE_A (sub_bit hm (by decide)) | exact in_RES_CNT_A_FENCE_N (sub_bit hm (by decide)) | exact in_RES_EVENT_FENCED (sub_bit hm (by decide)) | exact in_RES_HSCAUSE_CAUSE (sub_bit hm (by decide)) | exact in_RES_STATE_STATE (sub_bit hm (by decide)) | exact .inr rfl))
  clear_value s6
  have h_s7 : Within msk org s7 := by
    dsimp only [s7]
    ((repeat' with_reducible (first | assumption | intro _ | exact partOk_refl _ _ _ | apply State.setFld_touch | apply State.raise_touch | apply State.bump_touch | apply State.poTo_touch | apply State.reloadImage_touch | apply State.ldRestore_touch | apply State.heldRelease_touch | apply State.passAll_touch | apply within_ite | apply within_ite_fst | apply rows_ite | apply rows_if | apply within_foldl | apply within_foldl_fst | split | (dsimp only; split) | apply within_mk)); (all_goals try with_reducible (first | refine in_RES_STATE_LANE_B ?_ | refine in_RES_STATE_LANE_A ?_ | refine in_RES_CNT_A_FENCE_N ?_ | refine in_RES_EVENT_FENCED ?_ | refine in_RES_HSCAUSE_CAUSE ?_ | refine in_RES_STATE_STATE ?_)); (all_goals first | exact sub_le (by decide) hm | exact partOk_bit (sub_bit hm (by decide)) | exact sub_bit hm (by decide) | exact in_RES_STATE_LANE_B (sub_bit hm (by decide)) | exact in_RES_STATE_LANE_A (sub_bit hm (by decide)) | exact in_RES_CNT_A_FENCE_N (sub_bit hm (by decide)) | exact in_RES_EVENT_FENCED (sub_bit hm (by decide)) | exact in_RES_HSCAUSE_CAUSE (sub_bit hm (by decide)) | exact in_RES_STATE_STATE (sub_bit hm (by decide)) | exact .inr rfl))
  clear_value s7
  ((repeat' with_reducible (first | assumption | intro _ | exact partOk_refl _ _ _ | apply State.setFld_touch | apply State.raise_touch | apply State.bump_touch | apply State.poTo_touch | apply State.reloadImage_touch | apply State.ldRestore_touch | apply State.heldRelease_touch | apply State.passAll_touch | apply within_ite | apply within_ite_fst | apply rows_ite | apply rows_if | apply within_foldl | apply within_foldl_fst | split | (dsimp only; split) | apply within_mk)); (all_goals try with_reducible (first | refine in_RES_STATE_LANE_B ?_ | refine in_RES_STATE_LANE_A ?_ | refine in_RES_CNT_A_FENCE_N ?_ | refine in_RES_EVENT_FENCED ?_ | refine in_RES_HSCAUSE_CAUSE ?_ | refine in_RES_STATE_STATE ?_)); (all_goals first | exact sub_le (by decide) hm | exact partOk_bit (sub_bit hm (by decide)) | exact sub_bit hm (by decide) | exact in_RES_STATE_LANE_B (sub_bit hm (by decide)) | exact in_RES_STATE_LANE_A (sub_bit hm (by decide)) | exact in_RES_CNT_A_FENCE_N (sub_bit hm (by decide)) | exact in_RES_EVENT_FENCED (sub_bit hm (by decide)) | exact in_RES_HSCAUSE_CAUSE (sub_bit hm (by decide)) | exact in_RES_STATE_STATE (sub_bit hm (by decide)) | exact .inr rfl))

end Sys2Proof.Machine
end

