-- ==== Sys2Proof/Laws/TouchFrames.lean ====
section
/-! SUPPORT. What each operation of Machine/Frames.lean may change, as a mask. -/

namespace Sys2Proof.Machine

set_option linter.all false
set_option Elab.async false

theorem State.planOne_touch {msk : Nat} {org : State} (s : State) (o : Nat) (hm : sub 0x4000000000000000000000000000000000000000000000000000 msk) (hz : Within msk org s) : Within msk org (State.planOne s o) := by
  unfold State.planOne
  repeat' with_reducible (first | assumption | intro _ | exact partOk_refl _ _ _ | apply State.setBit_touch | apply within_ite | apply within_ite_fst | apply rows_ite | apply rows_if | apply within_foldl | apply within_foldl_fst | split | (dsimp only; split) | apply within_mk)
  all_goals try with_reducible (first | refine in_OT_STATE_PLANNABLE ?_ _ | refine in_OT_STATE_DELAY_RANGE ?_ _ | refine in_OT_STATE_TARGET_ABSENT ?_ _)
  all_goals first | exact sub_le (by decide) hm | exact partOk_bit (sub_bit hm (by decide)) | exact sub_bit hm (by decide) | exact in_OT_STATE_PLANNABLE (sub_bit hm (by decide)) _ | exact in_OT_STATE_DELAY_RANGE (sub_bit hm (by decide)) _ | exact in_OT_STATE_TARGET_ABSENT (sub_bit hm (by decide)) _ | exact .inr rfl

theorem State.plannables_touch {msk : Nat} {org : State} (s : State) (hm : sub 0x100000000000000000000000000000000000000000000000000000000000000000000000000000004000000000000000000000000000000000000000000000000000 msk) (hz : Within msk org s) : Within msk org (State.plannables s) := by
  unfold State.plannables
  repeat' with_reducible (first | assumption | intro _ | exact partOk_refl _ _ _ | apply State.planOne_touch | apply within_ite | apply within_ite_fst | apply rows_ite | apply rows_if | apply within_foldl | apply within_foldl_fst | split | (dsimp only; split) | apply within_mk)
  all_goals first | exact sub_le (by decide) hm | exact partOk_bit (sub_bit hm (by decide)) | exact sub_bit hm (by decide) | exact .inr rfl

theorem State.takeFrmCfg_touch {msk : Nat} {org : State} (s : State) (tk : Time) (hm : sub 0x344000003600020000000010800000000000000000000000000000000000000000000004000000000000000000000000000000000000000000000000000000140400 msk) (hz : Within msk org s) : Within msk org (State.takeFrmCfg s tk) := by
  unfold State.takeFrmCfg
  repeat' with_reducible (first | assumption | intro _ | exact partOk_refl _ _ _ | apply Run.st_touch | apply State.cancelEntry_touch | apply within_ite | apply within_ite_fst | apply rows_ite | apply rows_if | apply within_foldl | apply within_foldl_fst | split | (dsimp only; split) | apply within_mk)
  all_goals first | exact sub_le (by decide) hm | exact partOk_bit (sub_bit hm (by decide)) | exact sub_bit hm (by decide) | exact .inr rfl

theorem State.frameNumber_touch {msk : Nat} {org : State} (s : State) (tk : Time) (hm : sub 0x400000000000000000000000000000000000000000000000000000000000000000000000000000000000000000000000001c000000000000000000000000000000 msk) (hz : Within msk org s) : Within msk org (State.frameNumber s tk) := by
  unfold State.frameNumber
  repeat' with_reducible (first | assumption | intro _ | exact partOk_refl _ _ _ | apply State.bumpWrap_touch | apply State.setFld_touch | apply State.setReg64_touch | apply within_ite | apply within_ite_fst | apply rows_ite | apply rows_if | apply within_foldl | apply within_foldl_fst | split | (dsimp only; split) | apply within_mk)
  all_goals try with_reducible (first | refine in_FRM_NO_NUMBER ?_ | refine has_FRM_START_LO ?_ | refine has_FRM_START_HI ?_)
  all_goals first | exact sub_le (by decide) hm | exact partOk_bit (sub_bit hm (by decide)) | exact sub_bit hm (by decide) | exact in_FRM_NO_NUMBER (sub_bit hm (by decide)) | exact has_FRM_START_LO (sub_bit hm (by decide)) | exact has_FRM_START_HI (sub_bit hm (by decide)) | exact .inr rfl

theorem State.planFrame_touch {msk : Nat} {org : State} (s : State) (tk : Time) (hm : sub 0x3408000036000200000000108000000000000000000000000000000000000000000000040000000000000000000000000000200000001540183c8000000000140400 msk) (hz : Within msk org s) : Within msk org (State.planFrame s tk) := by
  unfold State.planFrame
  repeat' with_reducible (first | assumption | intro _ | exact partOk_refl _ _ _ | apply State.count_touch | apply State.validFrame_touch | apply State.invalidFrame_touch | apply State.bump_touch | apply within_ite | apply within_ite_fst | apply rows_ite | apply rows_if | apply within_foldl | apply within_foldl_fst | split | (dsimp only; split) | apply within_mk)
  all_goals try with_reducible (first | refine in_FRM_STAT_SKIPPED ?_)
  all_goals first | exact sub_le (by decide) hm | exact partOk_bit (sub_bit hm (by decide)) | exact sub_bit hm (by decide) | exact in_FRM_STAT_SKIPPED (sub_bit hm (by decide)) | exact .inr rfl

theorem State.frameAt_touch {msk : Nat} {org : State} (s : State) (tk : Time) (hm : sub 0x3c480000360002000000001085180000000000000000000000000000000000000000000400000000400000000000000000003c000000354e18bc80000000001606a0 msk) (hz : Within msk org s) : Within msk org (State.frameAt s tk) := by
  unfold State.frameAt
  repeat' with_reducible (first | assumption | intro _ | exact partOk_refl _ _ _ | apply State.frameNumber_touch | apply State.boundary_touch | apply State.takeOfs_touch | apply State.takeFrmCfg_touch | apply State.count_touch | apply State.tileFrame_touch | apply State.rateFrame_touch | apply State.pathFrame_touch | apply State.plannables_touch | apply State.planFrame_touch | apply State.syncPulse_touch | apply within_ite | apply within_ite_fst | apply rows_ite | apply rows_if | apply within_foldl | apply within_foldl_fst | split | (dsimp only; split) | apply within_mk)
  all_goals first | exact sub_le (by decide) hm | exact partOk_bit (sub_bit hm (by decide)) | exact sub_bit hm (by decide) | exact .inr rfl

theorem State.frameStart_touch {msk : Nat} {org : State} (s : State) (hm : sub 0x3c480000360002000000001085180000000000000000000000000000000000000000000400000000400000000000000000003c000000354e18bc80000000001606a0 msk) (hz : Within msk org s) : Within msk org (State.frameStart s) := by
  unfold State.frameStart
  repeat' with_reducible (first | assumption | intro _ | exact partOk_refl _ _ _ | apply State.frameAt_touch | apply within_ite | apply within_ite_fst | apply rows_ite | apply rows_if | apply within_foldl | apply within_foldl_fst | split | (dsimp only; split) | apply within_mk)
  all_goals first | exact sub_le (by decide) hm | exact partOk_bit (sub_bit hm (by decide)) | exact sub_bit hm (by decide) | exact .inr rfl

theorem State.phaseStep_touch {msk : Nat} {org : State} (s : State) (d : Nat) (hm : sub 0x2035c200003600020000000010800000000000000000000000000000000000000000000004000000000000000000000000000000000000000000000000000000140400 msk) (hz : Within msk org s) : Within msk org (State.phaseStep s d) := by
  unfold State.phaseStep
  repeat' with_reducible (first | assumption | intro _ | exact partOk_refl _ _ _ | apply Run.st_touch | apply State.cancelEntry_touch | apply State.setChan_touch | apply within_ite | apply within_ite_fst | apply rows_ite | apply rows_if | apply within_foldl | apply within_foldl_fst | split | (dsimp only; split) | apply within_mk)
  all_goals first | exact sub_le (by decide) hm | exact partOk_bit (sub_bit hm (by decide)) | exact sub_bit hm (by decide) | exact .inr rfl

theorem State.syncAlign_touch {msk : Nat} {org : State} (s : State) (hm : sub 0x4000000000000000000000000000000000000000000000000000000000000000000000000000000000000000000000000000002000000000000000000000000000 msk) (hz : Within msk org s) : Within msk org (State.syncAlign s) := by
  unfold State.syncAlign
  repeat' with_reducible (first | assumption | intro _ | exact partOk_refl _ _ _ | apply State.setFld_touch | apply State.missed_touch | apply within_ite | apply within_ite_fst | apply rows_ite | apply rows_if | apply within_foldl | apply within_foldl_fst | split | (dsimp only; split) | apply within_mk)
  all_goals try with_reducible (first | refine in_TB_STATUS_SYNC_LOCK ?_)
  all_goals first | exact sub_le (by decide) hm | exact partOk_bit (sub_bit hm (by decide)) | exact sub_bit hm (by decide) | exact in_TB_STATUS_SYNC_LOCK (sub_bit hm (by decide)) | exact .inr rfl

theorem State.syncAccept_touch {msk : Nat} {org : State} (s : State) (err : Int) (hm : sub 0x4000000000000000000000000000000000000000000000000000000000000000000000000000000000000000000000000100000000000000000000000000000000 msk) (hz : Within msk org s) : Within msk org (State.syncAccept s err) := by
  unfold State.syncAccept
  repeat' with_reducible (first | assumption | intro _ | exact partOk_refl _ _ _ | apply State.setSfld_touch | apply State.missed_touch | apply within_ite | apply within_ite_fst | apply rows_ite | apply rows_if | apply within_foldl | apply within_foldl_fst | split | (dsimp only; split) | apply within_mk)
  all_goals try with_reducible (first | refine in_SYNCIN_ERR_ERR ?_)
  all_goals first | exact sub_le (by decide) hm | exact partOk_bit (sub_bit hm (by decide)) | exact sub_bit hm (by decide) | exact in_SYNCIN_ERR_ERR (sub_bit hm (by decide)) | exact .inr rfl

theorem State.syncReject_touch {msk : Nat} {org : State} (s : State) (hm : sub 0x44000000000000000000010800000000000000000000000000000000000000000000000000000000000000000000000000200002000000000000000000000000000 msk) (hz : Within msk org s) : Within msk org (State.syncReject s) := by
  unfold State.syncReject
  repeat' with_reducible (first | assumption | intro _ | exact partOk_refl _ _ _ | apply State.raise_touch | apply State.missed_touch | apply State.syncLoss_touch | apply within_ite | apply within_ite_fst | apply rows_ite | apply rows_if | apply within_foldl | apply within_foldl_fst | split | (dsimp only; split) | apply within_mk)
  all_goals try with_reducible (first | refine in_TB_EVENT_SYNC_REJECT ?_)
  all_goals first | exact sub_le (by decide) hm | exact partOk_bit (sub_bit hm (by decide)) | exact sub_bit hm (by decide) | exact in_TB_EVENT_SYNC_REJECT (sub_bit hm (by decide)) | exact .inr rfl

theorem State.syncIn_touch {msk : Nat} {org : State} (s : State) (capture : Time) (hm : sub 0x2035c200003600020000000010800000000000000000000000000000000000000000000004000000000000000000000000000300002000000000000000000000140400 msk) (hz : Within msk org s) : Within msk org (State.syncIn s capture) := by
  unfold State.syncIn
  repeat' with_reducible (first | assumption | intro _ | exact partOk_refl _ _ _ | apply State.capture_touch | apply State.syncAlign_touch | apply State.syncAccept_touch | apply State.syncReject_touch | apply Run.st_touch | apply State.raise_touch | apply State.phaseStep_touch | apply within_ite | apply within_ite_fst | apply rows_ite | apply rows_if | apply within_foldl | apply within_foldl_fst | split | (dsimp only; split) | apply within_mk)
  all_goals try with_reducible (first | refine in_TB_EVENT_SYNC_UNALIGNED ?_)
  all_goals first | exact sub_le (by decide) hm | exact partOk_bit (sub_bit hm (by decide)) | exact sub_bit hm (by decide) | exact in_TB_EVENT_SYNC_UNALIGNED (sub_bit hm (by decide)) | exact .inr rfl

theorem State.epochRow_touch {msk : Nat} {org : State} (s : State) (hm : sub 0x209f0800003611820000000010800000000000000000000000000009000000000000000000000000000000400000000006000000000000000000000000000000140400 msk) (hz : Within msk org s) : Within msk org (State.epochRow s) := by
  unfold State.epochRow
  repeat' with_reducible (first | assumption | intro _ | exact partOk_refl _ _ _ | apply State.poseEpoch_touch | apply State.pathProgress_touch | apply State.newSample_touch | apply State.swathPose_touch | apply within_ite | apply within_ite_fst | apply rows_ite | apply rows_if | apply within_foldl | apply within_foldl_fst | split | (dsimp only; split) | apply within_mk)
  all_goals first | exact sub_le (by decide) hm | exact partOk_bit (sub_bit hm (by decide)) | exact sub_bit hm (by decide) | exact .inr rfl

theorem State.painterRow_touch {msk : Nat} {org : State} (s : State) (hm : sub 0x200c0000003600020000000010800000000000000000000000000000000000000000000000000000004000000000000000000000000000000420068000000000000000 msk) (hz : Within msk org s) : Within msk org (State.painterRow s) := by
  unfold State.painterRow
  repeat' with_reducible (first | assumption | intro _ | exact partOk_refl _ _ _ | apply State.painterRun_touch | apply State.swathForm_touch | apply within_ite | apply within_ite_fst | apply rows_ite | apply rows_if | apply within_foldl | apply within_foldl_fst | split | (dsimp only; split) | apply within_mk)
  all_goals first | exact sub_le (by decide) hm | exact partOk_bit (sub_bit hm (by decide)) | exact sub_bit hm (by decide) | exact .inr rfl

theorem State.idle_touch {msk : Nat} {org : State} (s : State) (hm : sub 0x17fe4a00003611820000000070810000000000850010004040000009000000000000000004000000000000000000000000000000000000000400068000000000000620 msk) (hz : Within msk org s) : Within msk org (State.idle s) := by
  unfold State.idle
  repeat' with_reducible (first | assumption | intro _ | exact partOk_refl _ _ _ | apply State.ftStep_touch | apply State.count_touch | apply State.stopAuto_touch | apply State.busWindows_touch | apply State.ctxMessage_touch | apply within_ite | apply within_ite_fst | apply rows_ite | apply rows_if | apply within_foldl | apply within_foldl_fst | split | (dsimp only; split) | apply within_mk)
  all_goals first | exact sub_le (by decide) hm | exact partOk_bit (sub_bit hm (by decide)) | exact sub_bit hm (by decide) | exact .inr rfl

end Sys2Proof.Machine
end

