-- ==== Sys2Proof/Laws/TouchFlags.lean ====
section
/-! SUPPORT. What each operation of Machine/Flags.lean may change, as a mask. -/

namespace Sys2Proof.Machine

set_option linter.all false
set_option Elab.async false

theorem State.afterRead_touch {msk : Nat} {org : State} (s : State) (a : Nat) (hm : sub 0x2000000000000000000000000000000000000000004000000000000000000000000000000000000000000000000000000000000000000000000000000000000000 msk) (ha : RowsHave msk a) (hz : Within msk org s) : Within msk org (State.afterRead s a) := by
  unfold State.afterRead
  repeat' with_reducible (first | assumption | intro _ | exact partOk_refl _ _ _ | apply State.clearRc_touch | apply State.setFld_touch | apply within_ite | apply within_ite_fst | apply rows_ite | apply rows_if | apply within_foldl | apply within_foldl_fst | split | (dsimp only; split) | apply within_mk)
  all_goals try with_reducible (first | refine in_FIO_STATUS_SILENT ?_)
  all_goals first | exact sub_le (by decide) hm | exact partOk_bit (sub_bit hm (by decide)) | exact sub_bit hm (by decide) | exact in_FIO_STATUS_SILENT (sub_bit hm (by decide)) | exact .inr rfl

end Sys2Proof.Machine
end

