-- ==== Sys2Proof/Laws/TouchOps.lean ====
section
/-! SUPPORT. What each operation of Machine/Ops.lean may change, as a mask. -/

namespace Sys2Proof.Machine

set_option linter.all false
set_option Elab.async false

theorem State.rsWrite_touch {msk : Nat} {org : State} (s : State) (c a v : Nat) (hm : sub 0x1bff0800003611820000004070800000000000000010004040000009000000000000000004000000000000000000000000020000000000000400068000010000000000 msk) (ha : RowsHave msk a) (hz : Within msk org s) : Within msk org (State.rsWrite s c a v) := by
  unfold State.rsWrite
  repeat' with_reducible (first | assumption | intro _ | exact partOk_refl _ _ _ | apply State.stopReleaseCmd_touch | apply State.hsClear_touch | apply State.laneRetry_touch | apply State.fireRetry_touch | apply State.raise_touch | apply State.writeCodes_touch | apply within_ite | apply within_ite_fst | apply rows_ite | apply rows_if | apply within_foldl | apply within_foldl_fst | split | (dsimp only; split) | apply within_mk)
  all_goals try with_reducible (first | refine in_RES_EVENT_CFG_ERR ?_)
  all_goals first | exact sub_le (by decide) hm | exact partOk_bit (sub_bit hm (by decide)) | exact sub_bit hm (by decide) | exact in_RES_EVENT_CFG_ERR (sub_bit hm (by decide)) | exact .inr rfl

theorem State.imPage_touch {msk : Nat} {org : State} (s : State) (a v : Nat) (hm : sub (if a = 0x401014 then 0x1fff480000361182000000001085fa00001ff80380400040273bff8fd18002041198081007fff800007fff800000000006000002001ff8011c0046c000014ff09606a0 else 0x8060000003611820000000010800000000000000000000000000000000000000000000000000000000000000000000000000000000000000000000000017a83800000) msk) (ha : RowsHave msk a) (hz : Within msk org s) : Within msk org (s.imPage a v) := by
  unfold State.imPage
  by_cases h1 : a = 0x401014
  · rw [if_pos h1] at hm
    rw [if_neg (by omega), if_pos h1]
    exact State.commit_touch _ _ hm hz
  · rw [if_neg h1] at hm
    rw [if_neg h1]
    split
    · exact State.imCommand_touch _ _ (sub_le (by decide) hm) hz
    · exact State.imWrite_touch _ _ _ (sub_le (by decide) hm) ha hz

theorem State.lgWrite_touch {msk : Nat} {org : State} (s : State) (a v : Nat) (hm : sub 0x140000000000000000000010800000000000000000000000000000000000000000000000000000000000000000000000000000000000210000000000000000000000 msk) (ha : RowsHave msk a) (hz : Within msk org s) : Within msk org (State.lgWrite s a v) := by
  unfold State.lgWrite
  repeat' with_reducible (first | assumption | intro _ | exact partOk_refl _ _ _ | apply State.raise_touch | apply State.writeCodes_touch | apply State.pathCommit_touch | apply within_ite | apply within_ite_fst | apply rows_ite | apply rows_if | apply within_foldl | apply within_foldl_fst | split | (dsimp only; split) | apply within_mk)
  all_goals try with_reducible (first | refine in_LG_EVENT_CFG_ERR ?_)
  all_goals first | exact sub_le (by decide) hm | exact partOk_bit (sub_bit hm (by decide)) | exact sub_bit hm (by decide) | exact in_LG_EVENT_CFG_ERR (sub_bit hm (by decide)) | exact .inr rfl

theorem State.boostSlots_touch {msk : Nat} {org : State} (s : State) (a : Nat) (hm : sub 0x584000000000000000000001080000000000000004000002000008f400002000000000000000000000000000000000000000000000000000000000000000000000000 msk) (hz : Within msk org s) : Within msk org (State.boostSlots s a) := by
  unfold State.boostSlots
  repeat' with_reducible (first | assumption | intro _ | exact partOk_refl _ _ _ | apply State.slotsBoost_touch | apply within_ite | apply within_ite_fst | apply rows_ite | apply rows_if | apply within_foldl | apply within_foldl_fst | split | (dsimp only; split) | apply within_mk)
  all_goals first | exact sub_le (by decide) hm | exact partOk_bit (sub_bit hm (by decide)) | exact sub_bit hm (by decide) | exact .inr rfl

/-- What a write at `a` outside the context windows may change, beside the register at `a`, by block. -/
def blockMask (a : Nat) : Nat :=
  if a < 0x401000 then 0
  else if a < 0x408000 then (if a = 0x401014 then 0x1fff480000361182000000001085fa00001ff80380400040273bff8fd18002041198081007fff800007fff800000000006000002001ff8011c0046c000014ff09606a0 else 0x8060000003611820000000010800000000000000000000000000000000000000000000000000000000000000000000000000000000000000000000000017a83800000)
  else if a < 0x409000 then 0x8000000000000000000000000000000000000000000000000000000000000000000000000000000000000000000000000000000000000000001200000000000000
  else if a < 0x40C000 then 0xc000000000000000000001080000000000000000000000000000000000000000000000000000000000000000000000000000000000000160080c000000000000000
  else if a < 0x410000 then 0x140000000000000000000010800000000000000000000000000000000000000000000000000000000000000000000000000000000000210000000000000000000000
  else if a < 0x420000 then 0x7c8000036118200000000108000000000000000000000000000000000000000000000000000000000000000000000029e0a00046000000000000004000000140400
  else if a < 0x460000 then 0x4c0000036000200000000108000000000000000000000000000000000000000000000000000000000000000000000009e0000000000000000000004000000140400
  else if a < 0x470000 then 0x70000003611820000000010800000000000000000000000000000000000000000000000000000000000000000001007000000000000000000000000000000000000
  else if a < 0x520000 then 0
  else if a < 0x530000 then (if a = 0x520100 ∨ a = 0x520120 then 0x5a4000000000000000000001080000000000000004000002000008f400002000001fbf00c0003d8200000000000000000000000000000000000000000000000000000 else 0x240000000000000000000010800000000000000000000000000000000000000001fbf00c0003d8200000000000000000000000000000000000000000000000000000)
  else if a < 0x540000 then 0x440000000000000000000010800000000000000000000000000000000000001198000000000000004000000000000000000000000000000000000000000000000000
  else if a < 0x580000 then 0x584000000000000000000001080000000000000004000002019008fc0184a000000000000000000000000000000000000000000000000000000000000000000000000
  else if a < 0x590000 then 0x10c0800003600020000000010800000000000000000000072400000000000000000000000000000000000000000000000000000000000000400068000000000000000
  else if a < 0x5A0000 then 0x2040000000000000000000010800000000000000060008000000000000000000000000000000000000000000000000000000000000000000000000000000000000000
  else if a < 0x5B0000 then 0x404000000000000000000001081000ff80004878000000000000000000000000000000000000000000000000000000000000000000000000000000000000000000620
  else if a < 0x5C0000 then 0x40000000000000000000010800000000000000000000000000000000000000000000000000000000000000000000000000000000000000000000000000000000000
  else if a < 0x5D0000 then 0x1bff0800003611820000004070800000000000000010004040000009000000000000000004000000000000000000000000020000000000000400068000010000000000
  else if a < 0x5E0000 then 0x2004c000000000003801800010800000000000000000000000000000000000000000000000000000000000000000000000000000000000000000000000000000000000
  else if a = 0x5E0044 then 0x600000000a0020000000010800000000000000000000000000000000000000000000000000000000000000000000000000000000000000000000000000000000000
  else 0x60000017700060000000010800000000000000000000000000000000000000000000000000000000000000000000000000000000000000000000000000000000000

theorem State.blockWrite_touch {msk : Nat} {org : State} (s : State) (c a v : Nat) (hm : sub (blockMask a) msk) (ha : RowsHave msk a)
    (hb : inRange 0x40A400 0x40A800 a = true → RowsHave msk (a + 0x400)) (hz : Within msk org s) : Within msk org (s.blockWrite c a v) := by
  unfold State.blockWrite
  unfold blockMask at hm
  dsimp only
  by_cases h0 : a < 0x401000
  · simp only [if_pos h0] at hm ⊢
    exact hz
  by_cases h1 : a < 0x408000
  · simp only [if_neg h0, if_pos h1] at hm ⊢
    exact State.imPage_touch _ _ _ hm ha hz
  by_cases h2 : a < 0x409000
  · simp only [if_neg h0, if_neg h1, if_pos h2] at hm ⊢
    exact State.bbWrite_touch _ _ _ hm ha hz
  by_cases h3 : a < 0x40C000
  · simp only [if_neg h0, if_neg h1, if_neg h2, if_pos h3] at hm ⊢
    exact State.mapWrite_touch _ _ _ _ hm ha hb hz
  by_cases h4 : a < 0x410000
  · simp only [if_neg h0, if_neg h1, if_neg h2, if_neg h3, if_pos h4] at hm ⊢
    exact State.lgWrite_touch _ _ _ hm ha hz
  by_cases h5 : a < 0x420000
  · simp only [if_neg h0, if_neg h1, if_neg h2, if_neg h3, if_neg h4, if_pos h5] at hm ⊢
    exact State.tbWrite_touch _ _ _ hm ha hz
  by_cases h6 : a < 0x460000
  · simp only [if_neg h0, if_neg h1, if_neg h2, if_neg h3, if_neg h4, if_neg h5, if_pos h6] at hm ⊢
    exact State.chanWrite_touch _ _ _ hm ha hz
  by_cases h7 : a < 0x470000
  · simp only [if_neg h0, if_neg h1, if_neg h2, if_neg h3, if_neg h4, if_neg h5, if_neg h6, if_pos h7] at hm ⊢
    exact State.poWrite_touch _ _ _ _ hm ha hz
  by_cases h8 : a < 0x520000
  · simp only [if_neg h0, if_neg h1, if_neg h2, if_neg h3, if_neg h4, if_neg h5, if_neg h6, if_neg h7, if_pos h8] at hm ⊢
    exact hz
  by_cases h9 : a < 0x530000
  · simp only [if_neg h0, if_neg h1, if_neg h2, if_neg h3, if_neg h4, if_neg h5, if_neg h6, if_neg h7, if_neg h8, if_pos h9] at hm ⊢
    unfold State.boostSlots
    by_cases g1 : a = 0x520100
    · simp only [if_pos g1, if_pos (show a = 0x520100 ∨ a = 0x520120 from .inl g1)] at hm ⊢
      exact State.slotsBoost_touch _ _ (sub_le (by decide) hm) (State.vdWrite_touch _ _ _ _ (sub_le (by decide) hm) ha hz)
    by_cases g2 : a = 0x520120
    · simp only [if_neg g1, if_pos g2, if_pos (show a = 0x520100 ∨ a = 0x520120 from .inr g2)] at hm ⊢
      exact State.slotsBoost_touch _ _ (sub_le (by decide) hm) (State.vdWrite_touch _ _ _ _ (sub_le (by decide) hm) ha hz)
    simp only [if_neg g1, if_neg g2, if_neg (show ¬ (a = 0x520100 ∨ a = 0x520120) from fun h => h.elim g1 g2)] at hm ⊢
    exact State.vdWrite_touch _ _ _ _ hm ha hz
  by_cases h10 : a < 0x540000
  · simp only [if_neg h0, if_neg h1, if_neg h2, if_neg h3, if_neg h4, if_neg h5, if_neg h6, if_neg h7, if_neg h8, if_neg h9, if_pos h10] at hm ⊢
    exact State.lkWrite_touch _ _ _ hm ha hz
  by_cases h11 : a < 0x580000
  · simp only [if_neg h0, if_neg h1, if_neg h2, if_neg h3, if_neg h4, if_neg h5, if_neg h6, if_neg h7, if_neg h8, if_neg h9, if_neg h10, if_pos h11] at hm ⊢
    exact State.lpWrite_touch _ _ _ hm ha hz
  by_cases h12 : a < 0x590000
  · simp only [if_neg h0, if_neg h1, if_neg h2, if_neg h3, if_neg h4, if_neg h5, if_neg h6, if_neg h7, if_neg h8, if_neg h9, if_neg h10, if_neg h11, if_pos h12] at hm ⊢
    exact State.lsWrite_touch _ _ _ _ _ hm ha hz
  by_cases h13 : a < 0x5A0000
  · simp only [if_neg h0, if_neg h1, if_neg h2, if_neg h3, if_neg h4, if_neg h5, if_neg h6, if_neg h7, if_neg h8, if_neg h9, if_neg h10, if_neg h11, if_neg h12, if_pos h13] at hm ⊢
    exact State.fdWrite_touch _ _ _ _ _ hm ha hz
  by_cases h14 : a < 0x5B0000
  · simp only [if_neg h0, if_neg h1, if_neg h2, if_neg h3, if_neg h4, if_neg h5, if_neg h6, if_neg h7, if_neg h8, if_neg h9, if_neg h10, if_neg h11, if_neg h12, if_neg h13, if_pos h14] at hm ⊢
    exact State.bpWrite_touch _ _ _ _ hm ha hz
  by_cases h15 : a < 0x5C0000
  · simp only [if_neg h0, if_neg h1, if_neg h2, if_neg h3, if_neg h4, if_neg h5, if_neg h6, if_neg h7, if_neg h8, if_neg h9, if_neg h10, if_neg h11, if_neg h12, if_neg h13, if_neg h14, if_pos h15] at hm ⊢
    exact State.hpWrite_touch _ _ _ hm ha hz
  by_cases h16 : a < 0x5D0000
  · simp only [if_neg h0, if_neg h1, if_neg h2, if_neg h3, if_neg h4, if_neg h5, if_neg h6, if_neg h7, if_neg h8, if_neg h9, if_neg h10, if_neg h11, if_neg h12, if_neg h13, if_neg h14, if_neg h15, if_pos h16] at hm ⊢
    exact State.rsWrite_touch _ _ _ _ hm ha hz
  by_cases h17 : a < 0x5E0000
  · simp only [if_neg h0, if_neg h1, if_neg h2, if_neg h3, if_neg h4, if_neg h5, if_neg h6, if_neg h7, if_neg h8, if_neg h9, if_neg h10, if_neg h11, if_neg h12, if_neg h13, if_neg h14, if_neg h15, if_neg h16, if_pos h17] at hm ⊢
    exact State.pwWrite_touch _ _ _ _ hm ha hz
  by_cases h18 : a = 0x5E0044
  · simp only [if_neg h0, if_neg h1, if_neg h2, if_neg h3, if_neg h4, if_neg h5, if_neg h6, if_neg h7, if_neg h8, if_neg h9, if_neg h10, if_neg h11, if_neg h12, if_neg h13, if_neg h14, if_neg h15, if_neg h16, if_neg h17, if_pos h18] at hm ⊢
    exact State.tagData_touch _ _ hm hz
  simp only [if_neg h0, if_neg h1, if_neg h2, if_neg h3, if_neg h4, if_neg h5, if_neg h6, if_neg h7, if_neg h8, if_neg h9, if_neg h10, if_neg h11, if_neg h12, if_neg h13, if_neg h14, if_neg h15, if_neg h16, if_neg h17, if_neg h18] at hm ⊢
  exact State.rcWrite_touch _ _ _ _ hm ha hz

theorem State.dropLatch_touch {msk : Nat} {org : State} (s : State) (a : Nat) (hm : sub 0x2000000000000000000000000000000000000000000000000000000000000000000000000000000000000000000000000000000000000000000000000000000000 msk) (hz : Within msk org s) : Within msk org (State.dropLatch s a) := by
  unfold State.dropLatch
  repeat' with_reducible (first | assumption | intro _ | exact partOk_refl _ _ _ | apply within_ite | apply within_ite_fst | apply rows_ite | apply rows_if | apply within_foldl | apply within_foldl_fst | split | (dsimp only; split) | apply within_mk)
  all_goals first | exact sub_le (by decide) hm | exact partOk_bit (sub_bit hm (by decide)) | exact sub_bit hm (by decide) | exact .inr rfl

/-- Every row and part is admitted: what is left is what every operation keeps. -/
theorem within_all {m : Nat} {z s t : State} (hm : sub 0x3ffffa0003ffffffffffffffffffffffffffffffffffffffffffffffffffffffffffffffffffffffffffffffffffffffffffffffffffffffffffffffffffffffffffff m) (hz : Within m z s) (hk : Keeps s t) : Within m z t := by
  refine ⟨fun a hd hn => absurd (has_all (sub_le (by decide) hm) hd) hn, fun p hp => ?_⟩
  have hq := hz.part p hp
  cases p <;> first
    | exact part_out hm hp (by decide)
    | exact hk.1.trans hq
    | exact hk.2.1.trans hq

theorem State.regWrite_touch {msk : Nat} {org : State} (s : State) (p c a v : Nat) (hm : sub 0x3ffffa0003ffffffffffffffffffffffffffffffffffffffffffffffffffffffffffffffffffffffffffffffffffffffffffffffffffffffffffffffffffffffffffff msk) (hz : Within msk org s) : Within msk org (State.regWrite s p c a v).1 := by
  exact within_all hm hz (State.regWrite_keeps _ _ _ _ _ _ (Keeps.refl _))

theorem State.regRead_touch {msk : Nat} {org : State} (s : State) (c a : Nat) (hm : sub 0x3ffffa0003ffffffffffffffffffffffffffffffffffffffffffffffffffffffffffffffffffffffffffffffffffffffffffffffffffffffffffffffffffffffffffff msk) (hz : Within msk org s) : Within msk org (State.regRead s c a).1 := by
  exact within_all hm hz (State.regRead_keeps _ _ _ _ (Keeps.refl _))

theorem State.rdata_touch {msk : Nat} {org : State} (s : State) (c : Nat) (w : Option Word) (hm : sub 0x3ffffa0003ffffffffffffffffffffffffffffffffffffffffffffffffffffffffffffffffffffffffffffffffffffffffffffffffffffffffffffffffffffffffffff msk) (hz : Within msk org s) : Within msk org (State.rdata s c w).1 := by
  unfold State.rdata
  repeat' with_reducible (first | assumption | intro _ | exact partOk_refl _ _ _ | apply State.regWrite_touch | apply State.setFld_touch | apply State.regRead_touch | apply within_ite | apply within_ite_fst | apply rows_ite | apply rows_if | apply within_foldl | apply within_foldl_fst | split | (dsimp only; split) | apply within_mk)
  all_goals try with_reducible (first | refine in_CW_RSTAT_RESULT ?_ _)
  all_goals first | exact sub_le (by decide) hm | exact partOk_bit (sub_bit hm (by decide)) | exact sub_bit hm (by decide) | exact in_CW_RSTAT_RESULT (sub_bit hm (by decide)) _ | exact .inr rfl

theorem State.portPut_touch {msk : Nat} {org : State} (s : State) (p a v : Nat) (hm : sub 0x3ffffa0003ffffffffffffffffffffffffffffffffffffffffffffffffffffffffffffffffffffffffffffffffffffffffffffffffffffffffffffffffffffffffffff msk) (hz : Within msk org s) : Within msk org (State.portPut s p a v).1 := by
  unfold State.portPut
  repeat' with_reducible (first | assumption | intro _ | exact partOk_refl _ _ _ | apply State.rdata_touch | apply State.regWrite_touch | apply within_ite | apply within_ite_fst | apply rows_ite | apply rows_if | apply within_foldl | apply within_foldl_fst | split | (dsimp only; split) | apply within_mk)
  all_goals first | exact sub_le (by decide) hm | exact partOk_bit (sub_bit hm (by decide)) | exact sub_bit hm (by decide) | exact .inr rfl

theorem State.portGet_touch {msk : Nat} {org : State} (s : State) (p a : Nat) (hm : sub 0x3ffffa0003ffffffffffffffffffffffffffffffffffffffffffffffffffffffffffffffffffffffffffffffffffffffffffffffffffffffffffffffffffffffffffff msk) (hz : Within msk org s) : Within msk org (State.portGet s p a).1 := by
  unfold State.portGet
  repeat' with_reducible (first | assumption | intro _ | exact partOk_refl _ _ _ | apply State.rdata_touch | apply State.regRead_touch | apply within_ite | apply within_ite_fst | apply rows_ite | apply rows_if | apply within_foldl | apply within_foldl_fst | split | (dsimp only; split) | apply within_mk)
  all_goals first | exact sub_le (by decide) hm | exact partOk_bit (sub_bit hm (by decide)) | exact sub_bit hm (by decide) | exact .inr rfl

theorem State.linkSeen_touch {msk : Nat} {org : State} (s : State) (p : Nat) (hm : sub 0x10000000000000000000000000000000000000000000000000000000000000000000000000000000000000000000000000000000 msk) (hz : Within msk org s) : Within msk org (State.linkSeen s p) := by
  unfold State.linkSeen
  repeat' with_reducible (first | assumption | intro _ | exact partOk_refl _ _ _ | apply State.setFbit_touch | apply within_ite | apply within_ite_fst | apply rows_ite | apply rows_if | apply within_foldl | apply within_foldl_fst | split | (dsimp only; split) | apply within_mk)
  all_goals try with_reducible (first | refine in_HP_STATUS_LINK_UP ?_)
  all_goals first | exact sub_le (by decide) hm | exact partOk_bit (sub_bit hm (by decide)) | exact sub_bit hm (by decide) | exact in_HP_STATUS_LINK_UP (sub_bit hm (by decide)) | exact .inr rfl

theorem State.hostWrite_touch {msk : Nat} {org : State} (s : State) (p a v : Nat) (hm : sub 0x3ffffa0003ffffffffffffffffffffffffffffffffffffffffffffffffffffffffffffffffffffffffffffffffffffffffffffffffffffffffffffffffffffffffffff msk) (hz : Within msk org s) : Within msk org (State.hostWrite s p a v) := by
  unfold State.hostWrite
  repeat' with_reducible (first | assumption | intro _ | exact partOk_refl _ _ _ | apply State.linkSeen_touch | apply State.portPut_touch | apply State.answers_touch | apply within_ite | apply within_ite_fst | apply rows_ite | apply rows_if | apply within_foldl | apply within_foldl_fst | split | (dsimp only; split) | apply within_mk)
  all_goals first | exact sub_le (by decide) hm | exact partOk_bit (sub_bit hm (by decide)) | exact sub_bit hm (by decide) | exact .inr rfl

theorem State.hostRead_touch {msk : Nat} {org : State} (s : State) (p a : Nat) (hm : sub 0x3ffffa0003ffffffffffffffffffffffffffffffffffffffffffffffffffffffffffffffffffffffffffffffffffffffffffffffffffffffffffffffffffffffffffff msk) (hz : Within msk org s) : Within msk org (State.hostRead s p a) := by
  unfold State.hostRead
  repeat' with_reducible (first | assumption | intro _ | exact partOk_refl _ _ _ | apply State.linkSeen_touch | apply State.portGet_touch | apply State.answers_touch | apply within_ite | apply within_ite_fst | apply rows_ite | apply rows_if | apply within_foldl | apply within_foldl_fst | split | (dsimp only; split) | apply within_mk)
  all_goals first | exact sub_le (by decide) hm | exact partOk_bit (sub_bit hm (by decide)) | exact sub_bit hm (by decide) | exact .inr rfl

theorem State.hostField_touch {msk : Nat} {org : State} (s : State) (p a lo n v : Nat) (hm : sub 0x3ffffa0003ffffffffffffffffffffffffffffffffffffffffffffffffffffffffffffffffffffffffffffffffffffffffffffffffffffffffffffffffffffffffffff msk) (hz : Within msk org s) : Within msk org (State.hostField s p a lo n v) := by
  unfold State.hostField
  repeat' with_reducible (first | assumption | intro _ | exact partOk_refl _ _ _ | apply State.hostWrite_touch | apply within_ite | apply within_ite_fst | apply rows_ite | apply rows_if | apply within_foldl | apply within_foldl_fst | split | (dsimp only; split) | apply within_mk)
  all_goals first | exact sub_le (by decide) hm | exact partOk_bit (sub_bit hm (by decide)) | exact sub_bit hm (by decide) | exact .inr rfl

theorem State.hostTile_touch {msk : Nat} {org : State} (s : State) (p off : Nat) (bs : List Byte) (hm : sub 0xc1000000000000000000010800010000000000000000000000000000000000000000000000000000000000000000000000000000000000000008000000000000000 msk) (hz : Within msk org s) : Within msk org (State.hostTile s p off bs) := by
  unfold State.hostTile
  repeat' with_reducible (first | assumption | intro _ | exact partOk_refl _ _ _ | apply State.linkSeen_touch | apply State.answers_touch | apply State.apertureWrite_touch | apply within_ite | apply within_ite_fst | apply rows_ite | apply rows_if | apply within_foldl | apply within_foldl_fst | split | (dsimp only; split) | apply within_mk)
  all_goals first | exact sub_le (by decide) hm | exact partOk_bit (sub_bit hm (by decide)) | exact sub_bit hm (by decide) | exact .inr rfl

theorem State.hostStaging_touch {msk : Nat} {org : State} (s : State) (p off : Nat) (bs : List Byte) (hm : sub 0x8041000000000000000000010800010000000000000000000000000000000000000000000000000000000000000000000000000000000000000000000010000000000 msk) (hz : Within msk org s) : Within msk org (State.hostStaging s p off bs) := by
  unfold State.hostStaging
  repeat' with_reducible (first | assumption | intro _ | exact partOk_refl _ _ _ | apply State.linkSeen_touch | apply State.stagingWrite_touch | apply State.answers_touch | apply within_ite | apply within_ite_fst | apply rows_ite | apply rows_if | apply within_foldl | apply within_foldl_fst | split | (dsimp only; split) | apply within_mk)
  all_goals first | exact sub_le (by decide) hm | exact partOk_bit (sub_bit hm (by decide)) | exact sub_bit hm (by decide) | exact .inr rfl

theorem State.spiResult_touch {msk : Nat} {org : State} (s : State) (p code : Nat) (data : List Word) (hm : sub 0x41000000000000000000000000000000000000000000000000000000000000000000000000000000000000000000000000000000000000000000000000000000000 msk) (hz : Within msk org s) : Within msk org (State.spiResult s p code data) := by
  unfold State.spiResult
  repeat' with_reducible (first | assumption | intro _ | exact partOk_refl _ _ _ | apply State.answers_touch | apply within_ite | apply within_ite_fst | apply rows_ite | apply rows_if | apply within_foldl | apply within_foldl_fst | split | (dsimp only; split) | apply within_mk)
  all_goals first | exact sub_le (by decide) hm | exact partOk_bit (sub_bit hm (by decide)) | exact sub_bit hm (by decide) | exact .inr rfl

theorem State.spiPut_touch {msk : Nat} {org : State} (s : State) (p a : Nat) (x0 : List Word) (hm : sub 0x3ffffa0003ffffffffffffffffffffffffffffffffffffffffffffffffffffffffffffffffffffffffffffffffffffffffffffffffffffffffffffffffffffffffffff msk) (hz : Within msk org s) : Within msk org (State.spiPut s p a x0).1 := by
  induction x0 generalizing s a with
  | nil => exact hz
  | cons w ws ih => exact ih _ _ (State.portPut_touch _ _ _ _ (sub_le (by decide) hm) hz)

theorem State.spiGet_touch {msk : Nat} {org : State} (s : State) (p a : Nat) (x0 : Nat) (hm : sub 0x3ffffa0003ffffffffffffffffffffffffffffffffffffffffffffffffffffffffffffffffffffffffffffffffffffffffffffffffffffffffffffffffffffffffffff msk) (hz : Within msk org s) : Within msk org (State.spiGet s p a x0).1 := by
  induction x0 generalizing s a with
  | zero => exact hz
  | succ n ih => exact ih _ _ (State.portGet_touch _ _ _ (sub_le (by decide) hm) hz)

theorem State.spiWrite_touch {msk : Nat} {org : State} (s : State) (p addr : Nat) (cut : Bool) (ws : List Word) (hm : sub 0x3ffffa0003ffffffffffffffffffffffffffffffffffffffffffffffffffffffffffffffffffffffffffffffffffffffffffffffffffffffffffffffffffffffffffff msk) (hz : Within msk org s) : Within msk org (State.spiWrite s p addr cut ws) := by
  unfold State.spiWrite
  repeat' with_reducible (first | assumption | intro _ | exact partOk_refl _ _ _ | apply State.linkSeen_touch | apply State.spiResult_touch | apply State.spiPut_touch | apply State.hostWriteMem_touch | apply within_ite | apply within_ite_fst | apply rows_ite | apply rows_if | apply within_foldl | apply within_foldl_fst | split | (dsimp only; split) | apply within_mk)
  all_goals first | exact sub_le (by decide) hm | exact partOk_bit (sub_bit hm (by decide)) | exact sub_bit hm (by decide) | exact .inr rfl

theorem State.spiRead_touch {msk : Nat} {org : State} (s : State) (p addr n : Nat) (hm : sub 0x3ffffa0003ffffffffffffffffffffffffffffffffffffffffffffffffffffffffffffffffffffffffffffffffffffffffffffffffffffffffffffffffffffffffffff msk) (hz : Within msk org s) : Within msk org (State.spiRead s p addr n) := by
  unfold State.spiRead
  repeat' with_reducible (first | assumption | intro _ | exact partOk_refl _ _ _ | apply State.linkSeen_touch | apply State.spiResult_touch | apply State.spiGet_touch | apply State.ring_touch | apply within_ite | apply within_ite_fst | apply rows_ite | apply rows_if | apply within_foldl | apply within_foldl_fst | split | (dsimp only; split) | apply within_mk)
  all_goals first | exact sub_le (by decide) hm | exact partOk_bit (sub_bit hm (by decide)) | exact sub_bit hm (by decide) | exact .inr rfl

theorem State.spiStatus_touch {msk : Nat} {org : State} (s : State) (p : Nat) (hm : sub 0x1000000000000000000000000010000000000000000000000000000000000000000000000000000000000000000000000000000000000000000000000000000000 msk) (hz : Within msk org s) : Within msk org (State.spiStatus s p) := by
  unfold State.spiStatus
  repeat' with_reducible (first | assumption | intro _ | exact partOk_refl _ _ _ | apply State.linkSeen_touch | apply State.answers_touch | apply within_ite | apply within_ite_fst | apply rows_ite | apply rows_if | apply within_foldl | apply within_foldl_fst | split | (dsimp only; split) | apply within_mk)
  all_goals first | exact sub_le (by decide) hm | exact partOk_bit (sub_bit hm (by decide)) | exact sub_bit hm (by decide) | exact .inr rfl

theorem State.cmdRegWrite_touch {msk : Nat} {org : State} (s : State) (c tag flags offset : Nat) (value mask : Word) (hm : sub 0x3ffffa0003ffffffffffffffffffffffffffffffffffffffffffffffffffffffffffffffffffffffffffffffffffffffffffffffffffffffffffffffffffffffffffff msk) (hz : Within msk org s) : Within msk org (State.cmdRegWrite s c tag flags offset value mask) := by
  unfold State.cmdRegWrite
  repeat' with_reducible (first | assumption | intro _ | exact partOk_refl _ _ _ | apply State.command_touch | apply State.regWrite_touch | apply within_ite | apply within_ite_fst | apply rows_ite | apply rows_if | apply within_foldl | apply within_foldl_fst | split | (dsimp only; split) | apply within_mk)
  all_goals first | exact sub_le (by decide) hm | exact partOk_bit (sub_bit hm (by decide)) | exact sub_bit hm (by decide) | exact .inr rfl

theorem State.cmdRegRead_touch {msk : Nat} {org : State} (s : State) (c tag flags offset : Nat) (hm : sub 0x3ffffa0003ffffffffffffffffffffffffffffffffffffffffffffffffffffffffffffffffffffffffffffffffffffffffffffffffffffffffffffffffffffffffffff msk) (hz : Within msk org s) : Within msk org (State.cmdRegRead s c tag flags offset) := by
  unfold State.cmdRegRead
  repeat' with_reducible (first | assumption | intro _ | exact partOk_refl _ _ _ | apply State.command_touch | apply State.regRead_touch | apply within_ite | apply within_ite_fst | apply rows_ite | apply rows_if | apply within_foldl | apply within_foldl_fst | split | (dsimp only; split) | apply within_mk)
  all_goals first | exact sub_le (by decide) hm | exact partOk_bit (sub_bit hm (by decide)) | exact sub_bit hm (by decide) | exact .inr rfl

theorem State.rdataAccess_touch {msk : Nat} {org : State} (s : State) (c : Nat) (w : Option Word) (hm : sub 0x3ffffa0003ffffffffffffffffffffffffffffffffffffffffffffffffffffffffffffffffffffffffffffffffffffffffffffffffffffffffffffffffffffffffffff msk) (hz : Within msk org s) : Within msk org (State.rdataAccess s c w) := by
  unfold State.rdataAccess
  repeat' with_reducible (first | assumption | intro _ | exact partOk_refl _ _ _ | apply State.linkSeen_touch | apply State.rdata_touch | apply State.answers_touch | apply within_ite | apply within_ite_fst | apply rows_ite | apply rows_if | apply within_foldl | apply within_foldl_fst | split | (dsimp only; split) | apply within_mk)
  all_goals first | exact sub_le (by decide) hm | exact partOk_bit (sub_bit hm (by decide)) | exact sub_bit hm (by decide) | exact .inr rfl

theorem State.whenUp_touch {msk : Nat} {org : State} (s : State) (f : State → State) (hm : sub 0x0 msk) (hz : Within msk org s) (hf : ∀ t, Within msk org t → Within msk org (f t)) : Within msk org (State.whenUp s f) := by
  unfold State.whenUp
  repeat' with_reducible (first | assumption | intro _ | exact partOk_refl _ _ _ | apply hf | apply within_ite | apply within_ite_fst | apply rows_ite | apply rows_if | apply within_foldl | apply within_foldl_fst | split | (dsimp only; split) | apply within_mk)
  all_goals first | exact sub_le (by decide) hm | exact partOk_bit (sub_bit hm (by decide)) | exact sub_bit hm (by decide) | exact .inr rfl

end Sys2Proof.Machine
end

