-- ==== Sys2Proof/Laws/TouchRows.lean ====
section
/-! SUPPORT. What each operation of Machine/Rows.lean may change, as a mask. -/

namespace Sys2Proof.Machine

set_option linter.all false
set_option Elab.async false

theorem State.inRangeOf_touch {msk : Nat} {org : State} (s : State) (i n : Nat) (f : State → State) (hm : sub 0x0 msk) (hz : Within msk org s) (hf : ∀ t, Within msk org t → Within msk org (f t)) : Within msk org (State.inRangeOf s i n f) := by
  unfold State.inRangeOf
  repeat' with_reducible (first | assumption | intro _ | exact partOk_refl _ _ _ | apply hf | apply within_ite | apply within_ite_fst | apply rows_ite | apply rows_if | apply within_foldl | apply within_foldl_fst | split | (dsimp only; split) | apply within_mk)
  all_goals first | exact sub_le (by decide) hm | exact partOk_bit (sub_bit hm (by decide)) | exact sub_bit hm (by decide) | exact .inr rfl

theorem State.inRangeUp_touch {msk : Nat} {org : State} (s : State) (i n : Nat) (f : State → State) (hm : sub 0x0 msk) (hz : Within msk org s) (hf : ∀ t, Within msk org t → Within msk org (f t)) : Within msk org (State.inRangeUp s i n f) := by
  unfold State.inRangeUp
  repeat' with_reducible (first | assumption | intro _ | exact partOk_refl _ _ _ | apply hf | apply State.whenUp_touch | apply State.inRangeOf_touch | apply within_ite | apply within_ite_fst | apply rows_ite | apply rows_if | apply within_foldl | apply within_foldl_fst | split | (dsimp only; split) | apply within_mk)
  all_goals first | exact sub_le (by decide) hm | exact partOk_bit (sub_bit hm (by decide)) | exact sub_bit hm (by decide) | exact .inr rfl

theorem State.atNode_touch {msk : Nat} {org : State} (s : State) (l p : Nat) (f : State → State) (hm : sub 0x0 msk) (hz : Within msk org s) (hf : ∀ t, Within msk org t → Within msk org (f t)) : Within msk org (State.atNode s l p f) := by
  unfold State.atNode
  repeat' with_reducible (first | assumption | intro _ | exact partOk_refl _ _ _ | apply hf | apply State.whenUp_touch | apply within_ite | apply within_ite_fst | apply rows_ite | apply rows_if | apply within_foldl | apply within_foldl_fst | split | (dsimp only; split) | apply within_mk)
  all_goals first | exact sub_le (by decide) hm | exact partOk_bit (sub_bit hm (by decide)) | exact sub_bit hm (by decide) | exact .inr rfl

theorem State.atPosition_touch {msk : Nat} {org : State} (s : State) (l p : Nat) (f : State → State) (hm : sub 0x0 msk) (hz : Within msk org s) (hf : ∀ t, Within msk org t → Within msk org (f t)) : Within msk org (State.atPosition s l p f) := by
  unfold State.atPosition
  repeat' with_reducible (first | assumption | intro _ | exact partOk_refl _ _ _ | apply hf | apply within_ite | apply within_ite_fst | apply rows_ite | apply rows_if | apply within_foldl | apply within_foldl_fst | split | (dsimp only; split) | apply within_mk)
  all_goals first | exact sub_le (by decide) hm | exact partOk_bit (sub_bit hm (by decide)) | exact sub_bit hm (by decide) | exact .inr rfl

theorem State.hostAccess_touch {msk : Nat} {org : State} (s : State) (p a : Nat) (w : Option Word) (hm : sub 0x3ffffa0003ffffffffffffffffffffffffffffffffffffffffffffffffffffffffffffffffffffffffffffffffffffffffffffffffffffffffffffffffffffffffffff msk) (hz : Within msk org s) : Within msk org (State.hostAccess s p a w) := by
  unfold State.hostAccess
  repeat' with_reducible (first | assumption | intro _ | exact partOk_refl _ _ _ | apply State.hostWrite_touch | apply State.hostRead_touch | apply within_ite | apply within_ite_fst | apply rows_ite | apply rows_if | apply within_foldl | apply within_foldl_fst | split | (dsimp only; split) | apply within_mk)
  all_goals first | exact sub_le (by decide) hm | exact partOk_bit (sub_bit hm (by decide)) | exact sub_bit hm (by decide) | exact .inr rfl

theorem State.railMeasured_touch {msk : Nat} {org : State} (s : State) (b meas : Nat) (hm : sub 0x80000000000000000000000000000000000000000000000000000000 msk) (hz : Within msk org s) : Within msk org (State.railMeasured s b meas) := by
  unfold State.railMeasured
  repeat' with_reducible (first | assumption | intro _ | exact partOk_refl _ _ _ | apply State.setFld_touch | apply within_ite | apply within_ite_fst | apply rows_ite | apply rows_if | apply within_foldl | apply within_foldl_fst | split | (dsimp only; split) | apply within_mk)
  all_goals try with_reducible (first | refine in_BST_MEAS_MEAS ?_ _)
  all_goals first | exact sub_le (by decide) hm | exact partOk_bit (sub_bit hm (by decide)) | exact sub_bit hm (by decide) | exact in_BST_MEAS_MEAS (sub_bit hm (by decide)) _ | exact .inr rfl

theorem State.frameIn_touch {msk : Nat} {org : State} (s : State) (p : Nat) (f : BusFrame) (hm : sub 0x17fe080000361182000000003081000000c007ff405000406800008f400002000180000004000000000000000000000000000000000000010400068000000000140620 msk) (hz : Within msk org s) : Within msk org (State.frameIn s p f) := by
  unfold State.frameIn
  repeat' with_reducible (first | assumption | intro _ | exact partOk_refl _ _ _ | apply State.busError_touch | apply State.goodFrame_touch | apply State.haltFrame_touch | apply State.received_touch | apply within_ite | apply within_ite_fst | apply rows_ite | apply rows_if | apply within_foldl | apply within_foldl_fst | split | (dsimp only; split) | apply within_mk)
  all_goals first | exact sub_le (by decide) hm | exact partOk_bit (sub_bit hm (by decide)) | exact sub_bit hm (by decide) | exact .inr rfl

end Sys2Proof.Machine
end

