-- ==== Sys2Proof/Laws/TouchAccess.lean ====
section
/-! SUPPORT. What host accesses may change: masks by the address, and the effects that bound them. -/

namespace Sys2Proof.Machine

set_option linter.all false
set_option Elab.async false

theorem sub_or_left (a b : Nat) : sub a (a ||| b) := by
  unfold sub
  apply Nat.eq_of_testBit_eq
  intro i
  simp only [Nat.testBit_and, Nat.testBit_or]
  cases a.testBit i <;> simp

theorem sub_or_right (a b : Nat) : sub b (a ||| b) := by
  unfold sub
  apply Nat.eq_of_testBit_eq
  intro i
  simp only [Nat.testBit_and, Nat.testBit_or]
  cases b.testBit i <;> simp

theorem sub_trans {a b c : Nat} (h : sub a b) (k : sub b c) : sub a c := sub_le h k

theorem RowsHave.mono {a m n : Nat} (h : RowsHave m a) (k : sub m n) : RowsHave n a :=
  let ⟨j, hj, hb, hh⟩ := h
  ⟨j, hj, sub_bit k hb, hh⟩

/-! Effects that bound masks. -/

/-- The effect names every row and part of the mask. -/
def Bounds (e : Effect) (m : Nat) : Prop :=
  (∀ k, k < 512 → m.testBit k = true → ∃ f ∈ e.regs, ∃ r, rowOf f.addr = some r ∧ r.dims = rowDims k) ∧
    ∀ p : Part, m.testBit p.bit = true → p ∈ e.parts

theorem Bounds.only {e : Effect} {m : Nat} {s t : State} (h : Bounds e m) (hw : Within m s t) : e.Only s t := by
  refine ⟨fun a hd ha => hw.reg a hd ?_, fun p hn => hw.part p ?_⟩
  · rintro ⟨k, hlt, hk, hh⟩
    obtain ⟨f, hf, r, hr, hrow⟩ := h.1 k hlt hk
    have : e.covers a = true := by
      refine List.any_eq_true.mpr ⟨f, hf, ?_⟩
      rw [hr]
      have e2 : r.dims.holds a = r.holds a := rfl
      show r.holds a = true
      rw [← e2, hrow]
      exact hh
    rw [this] at ha
    cases ha
  · cases hb : m.testBit p.bit with
    | false => rfl
    | true => exact absurd (h.2 p hb) hn

theorem Bounds.or {e f : Effect} {m n : Nat} (h : Bounds e m) (k : Bounds f n) : Bounds (e.and f) (m ||| n) := by
  constructor
  · intro j hj hb
    rw [Nat.testBit_or, Bool.or_eq_true] at hb
    rcases hb with hb | hb
    · obtain ⟨f', hf, r⟩ := h.1 j hj hb
      exact ⟨f', List.mem_append_left _ hf, r⟩
    · obtain ⟨f', hf, r⟩ := k.1 j hj hb
      exact ⟨f', List.mem_append_right _ hf, r⟩
  · intro p hb
    rw [Nat.testBit_or, Bool.or_eq_true] at hb
    exact hb.elim (fun hb => List.mem_append_left _ (h.2 p hb)) (fun hb => List.mem_append_right _ (k.2 p hb))

theorem bounds_ite {e f : Effect} {m n : Nat} {c : Prop} [Decidable c] (h : Bounds e m) (k : Bounds f n) :
    Bounds (if c then e else f) (if c then m else n) := by split <;> assumption

/-- The number of the first row of the block that holds `a`. -/
def blockFirst (a : Nat) : Nat :=
  if a < 0x400000 then 0
  else if a < 0x408000 then 22
  else if a < 0x409000 then 49
  else if a < 0x40c000 then 62
  else if a < 0x410000 then 85
  else if a < 0x420000 then 109
  else if a < 0x460000 then 130
  else if a < 0x470000 then 144
  else if a < 0x480000 then 191
  else if a < 0x520000 then 207
  else if a < 0x530000 then 211
  else if a < 0x540000 then 266
  else if a < 0x580000 then 288
  else if a < 0x590000 then 333
  else if a < 0x5a0000 then 350
  else if a < 0x5b0000 then 373
  else if a < 0x5c0000 then 412
  else if a < 0x5d0000 then 437
  else if a < 0x5e0000 then 455
  else if a < 0x600000 then 473
  else 498

theorem rowsFrom_find {p : RegRow → Bool} : ∀ {l : List RegRow} {k : Nat}, rowsFrom k l = true → l.findIdx p < l.length →
    ∃ r, l.find? p = some r ∧ r.dims = rowDims (k + l.findIdx p) := by
  intro l
  induction l with
  | nil => intro k _ h; simp at h
  | cons x l ih =>
    intro k h hl
    simp only [rowsFrom, Bool.and_eq_true, decide_eq_true_eq] at h
    by_cases hp : p x = true
    · exact ⟨x, by simp [hp], by simpa [List.findIdx_cons, hp] using h.1⟩
    · have hp' : p x = false := by simpa using hp
      simp only [List.findIdx_cons, hp', cond_false, List.length_cons] at hl ⊢
      obtain ⟨r, hr, he⟩ := ih h.2 (by omega)
      exact ⟨r, by simp [hp', hr], by rw [he]; congr 1; omega⟩

theorem rowsFrom_ite {c : Prop} [Decidable c] {x y : List RegRow} {j k : Nat} (hx : rowsFrom j x = true) (hy : rowsFrom k y = true) :
    rowsFrom (if c then j else k) (if c then x else y) = true := by split <;> assumption

theorem rowsFrom_at (a : Nat) : rowsFrom (blockFirst a) (rowsAt a) = true := by
  unfold blockFirst rowsAt
  iterate 20 refine rowsFrom_ite (by decide +kernel) ?_
  rfl

theorem block_end (a : Nat) : blockFirst a + (rowsAt a).length ≤ 498 := by
  have key : ∀ (c : Prop) [Decidable c] (j k : Nat) (x y : List RegRow), j + x.length ≤ 498 → k + y.length ≤ 498 →
      (if c then j else k) + (if c then x else y).length ≤ 498 := by
    intro c _ j k x y hx hy
    split <;> assumption
  unfold blockFirst rowsAt
  iterate 20 refine key _ _ _ _ _ (by decide +kernel) ?_
  exact Nat.le_refl _

/-- The bit of the row that holds the register at `a`. -/
def rowBit (a : Nat) : Nat :=
  let i := (rowsAt a).findIdx (fun r => r.holds a)
  if i < (rowsAt a).length then 2 ^ (blockFirst a + i) else 0

/-- The rows and parts that an effect names, as a mask. -/
def Effect.mask (e : Effect) : Nat := e.regs.foldr (fun f m => rowBit f.addr ||| m) (e.parts.foldr (fun (p : Part) m => 2 ^ p.bit ||| m) 0)

theorem bounds_mask (e : Effect) : Bounds e e.mask := by
  obtain ⟨regs, parts⟩ := e
  unfold Effect.mask
  dsimp only
  induction regs with
  | nil =>
    have hparts : ∀ j, (parts.foldr (fun (p : Part) m => 2 ^ p.bit ||| m) 0).testBit j = true → ∃ p ∈ parts, p.bit = j := by
      intro j
      induction parts with
      | nil => intro h; simp at h
      | cons q l ih =>
        intro h
        simp only [List.foldr_cons, Nat.testBit_or, Bool.or_eq_true, Nat.testBit_two_pow, decide_eq_true_eq] at h
        rcases h with h | h
        · exact ⟨q, List.mem_cons_self, h⟩
        · obtain ⟨p, hp, e⟩ := ih h
          exact ⟨p, List.mem_cons_of_mem _ hp, e⟩
    refine ⟨fun k hk hb => ?_, fun p hb => ?_⟩
    · obtain ⟨p, -, e⟩ := hparts k hb
      unfold Part.bit at e
      omega
    · obtain ⟨q, hq, e⟩ := hparts _ hb
      have hc : q.ctorIdx = p.ctorIdx := by unfold Part.bit at e; omega
      have : q = p := by cases p <;> cases q <;> first | rfl | (exact absurd hc (by decide))
      exact this ▸ hq
  | cons f l ih =>
    refine ⟨fun k hk hb => ?_, fun p hb => ?_⟩ <;> simp only [List.foldr_cons, Nat.testBit_or, Bool.or_eq_true] at hb
    · rcases hb with hb | hb
      · unfold rowBit at hb
        dsimp only at hb
        split at hb
        · rename_i hl
          obtain ⟨r, hr, he⟩ := rowsFrom_find (rowsFrom_at f.addr) hl
          have hk' : blockFirst f.addr + (rowsAt f.addr).findIdx (fun r => r.holds f.addr) = k := by simpa [Nat.testBit_two_pow] using hb
          exact ⟨f, List.mem_cons_self, r, hr, by rw [he, hk']⟩
        · simp at hb
      · obtain ⟨g, hg, r⟩ := ih.1 k hk hb
        exact ⟨g, List.mem_cons_of_mem _ hg, r⟩
    · rcases hb with hb | hb
      · unfold rowBit at hb
        dsimp only at hb
        split at hb
        · rename_i hl
          obtain ⟨r, hr, he⟩ := rowsFrom_find (rowsFrom_at f.addr) hl
          have hk' : blockFirst f.addr + (rowsAt f.addr).findIdx (fun r => r.holds f.addr) = p.bit := by simpa [Nat.testBit_two_pow] using hb
          have hlast : blockFirst f.addr + (rowsAt f.addr).findIdx (fun r => r.holds f.addr) < 498 := by
            have := block_end f.addr
            omega
          unfold Part.bit at hk'
          omega
        · simp at hb
      · exact ih.2 p hb

theorem Bounds.less {e : Effect} {m n : Nat} (h : Bounds e n) (k : sub m n) : Bounds e m :=
  ⟨fun j hj hb => h.1 j hj (sub_bit k hb), fun p hb => h.2 p (sub_bit k hb)⟩

/-- Whether an effect names every row and part of a mask. -/
def boundsOk (e : Effect) (m : Nat) : Bool := m &&& e.mask == m

theorem bounds_of {e : Effect} {m : Nat} (h : boundsOk e m = true) : Bounds e m :=
  (bounds_mask e).less (by unfold boundsOk at h; exact beq_iff_eq.mp h)

/-- A mask that admits the register at an address, bounded by the effect on that register. -/
theorem row_mask (a : Nat) : ∃ m, Bounds (Effect.regAt a) m ∧ ((rowOf a).isSome = true → RowsHave m a) := by
  cases hr : rowOf a with
  | none => exact ⟨0, ⟨fun k _ hk => by simp at hk, fun p hp => by simp at hp⟩, fun h => by simp at h⟩
  | some r =>
    obtain ⟨k, hk, he, hh⟩ := row_mapped hr
    refine ⟨2 ^ k, ⟨fun j _ hj => ?_, fun p hp => ?_⟩, fun _ => ⟨k, by omega, by simp, hh⟩⟩
    · rw [Nat.testBit_two_pow] at hj
      obtain rfl : k = j := by simpa using hj
      exact ⟨_, List.mem_singleton.mpr rfl, r, hr, he⟩
    · rw [Nat.testBit_two_pow] at hp
      have : k = p.bit := by simpa using hp
      unfold Part.bit at this
      omega

/-! Masks of accesses. -/

/-- What a write at `a` that is applied may change, beside the register at `a`. -/
def placeMask (a : Nat) : Nat :=
  if a < 0x400000 then (if a % 0x1000 = 0xFFC then 0x17fe080000361182000000003080002000000000005000406800008f400002000180000004000000000000000000000000000000000000010400068000000000140400 else 0x40000000000000000000010800020000000000000000000000000000000000000000000000000000000000000000000000000000000000000000000000000000060 ||| 0x2000000000000000000000000000000000000000000000000000000000000000000000000000000000000000000000000000000000000000000000000000000000)
  else if a = 0x5B0040 then 0x17fe080000361182000000003080002000000000005000406800008f400002000180000004000000000000000000000000000000000000010400068000000000140400
  else if inRange 0x1000000 0x2800000 a then 0xc0000000000000000000010800000000000000000000000000000000000000000000000000000000000000000000000000000000000000000008000000000000000
  else if inRange 0x3000000 0x3180000 a then 0x8040000000000000000000010800000000000000000000000000000000000000000000000000000000000000000000000000000000000000000000000010000000000
  else blockMask a ||| 0x2000000000000000000000000000000000000000000000000000000000000000000000000000000000000000000000000000000000000000000000000000000000

/-- What a read at `a` that is applied may change. -/
def lookMask (a : Nat) : Nat :=
  if a = 0x408108 then 0x8000000000000000000000000000000000000000000000000000000000000000000000000000000000000000000000000000000000000000000200000000000000
  else if a = 0x408124 then 0x8000000000000000000000000000000000000000000000000000000000000000000000000000000000000000000000000000000000000000001000000000000000
  else if a = 0x5D0044 then 0x8000000000000000000000000000000000000000000000000000000000000000000000000000000000000000000000000000000000000000000000
  else if a = 0x5E0010 then 0x20000000000100000000000000000000000000000000000000000000000000000000000000000000000000000000000000000000000000000000000000000000000
  else if a = 0x5E002C then 0x20000000004000000000000000000000000000000000000000000000000000000000000000000000000000000000000000000000000000000000000000000000000
  else if a = 0x5E0044 then 0x600000000a0020000000010800000000000000000000000000000000000000000000000000000000000000000000000000000000000000000000000000000000000
  else if a = 0x590004 then 0x2000000000000000000000000000000000000000004000000000000000000000000000000000000000000000000000000000000000000000000000000000000000 else 0x2000000000000000000000000000000000000000000000000000000000000000000000000000000000000000000000000000000000000000000000000000000000

theorem block_bounds (a : Nat) : Bounds (blockEffect a) (blockMask a) := by
  unfold blockEffect blockMask
  iterate 19 refine bounds_ite (by first | exact bounds_of (by decide +kernel) | exact bounds_ite (bounds_of (by decide +kernel)) (bounds_of (by decide +kernel))) ?_
  exact bounds_of (by decide +kernel)

theorem place_bounds (a : Nat) : Bounds (placeEffect a) (placeMask a) := by
  unfold placeEffect placeMask
  refine bounds_ite (bounds_ite (bounds_of (by decide +kernel)) (bounds_of (by decide +kernel))) ?_
  iterate 3 refine bounds_ite (bounds_of (by decide +kernel)) ?_
  exact (block_bounds a).or (bounds_of (by decide +kernel))

theorem State.latch_touch {m : Nat} {z s : State} (l : List (Nat × Option Word)) (hm : sub 0x2000000000000000000000000000000000000000000000000000000000000000000000000000000000000000000000000000000000000000000000000000000000 m) (hz : Within m z s) :
    Within m z { s with latch := l } :=
  within_mk hz (partOk_refl _ _ _) (partOk_refl _ _ _) (partOk_refl _ _ _) (partOk_bit (sub_bit hm (by decide))) (partOk_refl _ _ _)
    (partOk_refl _ _ _) (partOk_refl _ _ _) (partOk_refl _ _ _) (partOk_refl _ _ _) (partOk_refl _ _ _) (partOk_refl _ _ _)
    (partOk_refl _ _ _) (partOk_refl _ _ _) (partOk_refl _ _ _) (partOk_refl _ _ _) (partOk_refl _ _ _) (partOk_refl _ _ _)
    (partOk_refl _ _ _) (partOk_refl _ _ _) (partOk_refl _ _ _)

theorem within_if {m : Nat} {z : State} {α : Type} (b : Prop) [Decidable b] (x y : State × α) (hx : b → Within m z x.1) (hy : ¬ b → Within m z y.1) :
    Within m z (if b then x else y).1 := by
  by_cases h : b
  · rw [if_pos h]; exact hx h
  · rw [if_neg h]; exact hy h

theorem some_of {α : Type} {o : Option α} (h : ¬ (o.isNone = true)) : o.isSome = true := by
  cases o with
  | none => exact absurd rfl h
  | some _ => rfl

/-- A write as a context changes what the place of the address gives, and the register there. -/
theorem State.regWrite_at {m : Nat} {z : State} (s : State) (p c a v : Nat) (hm : sub (placeMask a) m)
    (ha : (rowOf a).isSome = true → RowsHave m a) (hz : Within m z s) : Within m z (s.regWrite p c a v).1 := by
  unfold State.regWrite
  unfold placeMask at hm
  refine within_if _ _ _ (fun _ => hz) (fun h4 => ?_)
  refine within_if _ _ _ (fun _ => hz) (fun _ => ?_)
  refine within_if _ _ _ (fun h => ?_) (fun h => ?_)
  · rw [if_pos h] at hm
    dsimp only
    refine within_if _ _ _ (fun _ => hz) (fun _ => ?_)
    refine within_if _ _ _ (fun _ => hz) (fun _ => ?_)
    refine within_if _ _ _ (fun h5 => ?_) (fun h5 => ?_)
    · rw [if_pos h5] at hm
      exact State.doorbell_touch _ _ _ _ hm hz
    · rw [if_neg h5] at hm
      refine within_if _ _ _ (fun _ => hz) (fun h6 => ?_)
      refine State.latch_touch _ (sub_trans (sub_or_right _ _) hm) (State.cwWrite_touch _ _ _ _ (sub_trans (sub_or_left _ _) hm) ?_ hz)
      rw [Nat.div_add_mod]
      exact ha (some_of h6)
  rw [if_neg h] at hm
  refine within_if _ _ _ (fun h5 => ?_) (fun h5 => ?_)
  · rw [if_pos h5] at hm
    exact State.doorbell_touch _ _ _ _ hm hz
  rw [if_neg h5] at hm
  refine within_if _ _ _ (fun h6 => ?_) (fun h6 => ?_)
  · rw [if_pos h6] at hm
    exact within_if _ _ _ (fun _ => State.apertureWrite_touch _ _ _ hm hz) (fun _ => hz)
  rw [if_neg h6] at hm
  refine within_if _ _ _ (fun h7 => ?_) (fun h7 => ?_)
  · rw [if_pos h7] at hm
    exact within_if _ _ _ (fun _ => State.stagingWrite_touch _ _ _ hm hz) (fun _ => hz)
  rw [if_neg h7] at hm
  refine within_if _ _ _ (fun _ => hz) (fun h8 => ?_)
  refine within_if _ _ _ (fun _ => hz) (fun _ => ?_)
  have ha' := ha (some_of h8)
  have hk : sub (blockMask a) m := sub_trans (sub_or_left _ _) hm
  have hw : Within m z (s.blockWrite c a v) := by
    refine State.blockWrite_touch s c a v hk ha' (fun hr => ?_) hz
    have hs : sub 0xc000000000000000000001080000000000000000000000000000000000000000000000000000000000000000000000000000000000000160080c000000000000000 m := by
      simp only [inRange, Bool.and_eq_true, decide_eq_true_eq] at hr
      unfold blockMask at hk
      rw [if_neg (show ¬ a < 0x401000 by omega), if_neg (show ¬ a < 0x408000 by omega), if_neg (show ¬ a < 0x409000 by omega),
        if_pos (show a < 0x40C000 by omega)] at hk
      exact hk
    simp only [inRange, Bool.and_eq_true, decide_eq_true_eq] at hr
    exact rows_eq (has_RT_STAGED (sub_bit hs (by decide)) ((a - 0x40A400) / 0x100) (a % 0x100 / 4)) (by omega)
  exact State.latch_touch _ (sub_trans (sub_or_right _ _) hm) hw

/-- The data windows: registers whose read serves another store. -/
def dataWindows : List Nat := [0x408108, 0x408124, 0x5D0044, 0x5E0010, 0x5E002C, 0x5E0044]

/-- What a read leaves: the latches and the RC fields of its register; FIO_EVENT's also clears SILENT. -/
theorem State.afterRead_at {m : Nat} {z : State} (s : State) (a : Nat) (hm : sub (if a = 0x590004 then 0x2000000000000000000000000000000000000000004000000000000000000000000000000000000000000000000000000000000000000000000000000000000000 else 0x2000000000000000000000000000000000000000000000000000000000000000000000000000000000000000000000000000000000000000000000000000000000) m) (ha : RowsHave m a)
    (hz : Within m z s) : Within m z (s.afterRead a) := by
  by_cases h : a = 0x590004
  · rw [if_pos h] at hm
    exact State.afterRead_touch _ _ hm ha hz
  · rw [if_neg h] at hm
    unfold State.afterRead
    dsimp only
    rw [if_neg (fun e => h e.1)]
    exact State.clearRc_touch _ _ ha (State.latch_touch _ hm hz)

/-- A read as a context changes what the address gives. -/
theorem State.regRead_at {m : Nat} {z : State} (s : State) (c a : Nat) (hm : sub (lookMask a) m)
    (ha : (rowOf a).isSome = true → a ∉ dataWindows → RowsHave m a) (hz : Within m z s) : Within m z (s.regRead c a).1 := by
  unfold State.regRead
  unfold lookMask at hm
  refine within_if _ _ _ (fun _ => hz) (fun _ => ?_)
  refine within_if _ _ _ (fun _ => hz) (fun _ => ?_)
  refine within_if _ _ _ (fun h => ?_) (fun h => ?_)
  · dsimp only
    refine within_if _ _ _ (fun _ => hz) (fun _ => ?_)
    refine within_if _ _ _ (fun _ => hz) (fun h6 => ?_)
    have ha' := ha (some_of (fun e => h6 (.inr e))) (fun hq => by simp only [dataWindows, List.mem_cons, List.not_mem_nil, or_false] at hq; omega)
    iterate 6 rw [if_neg (by omega)] at hm
    split
    · exact State.afterRead_at _ _ hm ha' hz
    · exact hz
  refine within_if _ _ _ (fun _ => within_if _ _ _ (fun _ => hz) (fun _ => hz)) (fun _ => ?_)
  refine within_if _ _ _ (fun _ => within_if _ _ _ (fun _ => hz) (fun _ => hz)) (fun _ => ?_)
  refine within_if _ _ _ (fun _ => hz) (fun h8 => ?_)
  refine within_if _ _ _ (fun _ => hz) (fun _ => ?_)
  dsimp only
  by_cases w0 : a = 0x408108
  · simp only [if_pos w0] at hm ⊢
    exact State.codeData_touch _ none hm hz
  by_cases w1 : a = 0x408124
  · simp only [if_neg w0, if_pos w1] at hm ⊢
    exact State.aidData_touch _ none hm hz
  by_cases w2 : a = 0x5D0044
  · simp only [if_neg w0, if_neg w1, if_pos w2] at hm ⊢
    exact State.bankData_touch _ hm hz
  by_cases w3 : a = 0x5E0010
  · simp only [if_neg w0, if_neg w1, if_neg w2, if_pos w3] at hm ⊢
    exact State.cvData_touch _ hm hz
  by_cases w4 : a = 0x5E002C
  · simp only [if_neg w0, if_neg w1, if_neg w2, if_neg w3, if_pos w4] at hm ⊢
    exact State.muData_touch _ hm hz
  by_cases w5 : a = 0x5E0044
  · simp only [if_neg w0, if_neg w1, if_neg w2, if_neg w3, if_neg w4, if_pos w5] at hm ⊢
    exact State.tagData_touch _ none hm hz
  simp only [if_neg w0, if_neg w1, if_neg w2, if_neg w3, if_neg w4, if_neg w5] at hm ⊢
  exact State.afterRead_at _ _ hm (ha (some_of h8) (fun hq => by simp only [dataWindows, List.mem_cons, List.not_mem_nil, or_false] at hq; omega)) hz

/-- What a read at `a` changes is bounded by its effect; the register itself only where no window stands. -/
theorem look_bounds (a : Nat) : ∃ m, Bounds (lookEffect a) m ∧ sub (lookMask a) m ∧
    ((rowOf a).isSome = true → a ∉ dataWindows → RowsHave m a) := by
  unfold lookEffect lookMask
  by_cases w0 : a = 0x408108
  · simp only [if_pos w0]
    exact ⟨_, bounds_of (m := 0x8000000000000000000000000000000000000000000000000000000000000000000000000000000000000000000000000000000000000000000200000000000000) (by decide +kernel), Nat.and_self _, fun _ h => absurd (w0 ▸ h) (by decide)⟩
  by_cases w1 : a = 0x408124
  · simp only [if_neg w0, if_pos w1]
    exact ⟨_, bounds_of (m := 0x8000000000000000000000000000000000000000000000000000000000000000000000000000000000000000000000000000000000000000001000000000000000) (by decide +kernel), Nat.and_self _, fun _ h => absurd (w1 ▸ h) (by decide)⟩
  by_cases w2 : a = 0x5D0044
  · simp only [if_neg w0, if_neg w1, if_pos w2]
    exact ⟨_, bounds_of (m := 0x8000000000000000000000000000000000000000000000000000000000000000000000000000000000000000000000000000000000000000000000) (by decide +kernel), Nat.and_self _, fun _ h => absurd (w2 ▸ h) (by decide)⟩
  by_cases w3 : a = 0x5E0010
  · simp only [if_neg w0, if_neg w1, if_neg w2, if_pos w3]
    exact ⟨_, bounds_of (m := 0x20000000000100000000000000000000000000000000000000000000000000000000000000000000000000000000000000000000000000000000000000000000000) (by decide +kernel), Nat.and_self _, fun _ h => absurd (w3 ▸ h) (by decide)⟩
  by_cases w4 : a = 0x5E002C
  · simp only [if_neg w0, if_neg w1, if_neg w2, if_neg w3, if_pos w4]
    exact ⟨_, bounds_of (m := 0x20000000004000000000000000000000000000000000000000000000000000000000000000000000000000000000000000000000000000000000000000000000000) (by decide +kernel), Nat.and_self _, fun _ h => absurd (w4 ▸ h) (by decide)⟩
  by_cases w5 : a = 0x5E0044
  · simp only [if_neg w0, if_neg w1, if_neg w2, if_neg w3, if_neg w4, if_pos w5]
    exact ⟨_, bounds_of (m := 0x600000000a0020000000010800000000000000000000000000000000000000000000000000000000000000000000000000000000000000000000000000000000000) (by decide +kernel), Nat.and_self _, fun _ h => absurd (w5 ▸ h) (by decide)⟩
  simp only [if_neg w0, if_neg w1, if_neg w2, if_neg w3, if_neg w4, if_neg w5]
  obtain ⟨m, hb, hr⟩ := row_mask a
  exact ⟨_, hb.or (bounds_ite (bounds_of (m := 0x2000000000000000000000000000000000000000004000000000000000000000000000000000000000000000000000000000000000000000000000000000000000) (by decide +kernel)) (bounds_of (m := 0x2000000000000000000000000000000000000000000000000000000000000000000000000000000000000000000000000000000000000000000000000000000000) (by decide +kernel))), sub_or_right _ _,
    fun h _ => (hr h).mono (sub_or_left _ _)⟩

/-- A mask for a write at `a`, bounded by the effect of the place. -/
theorem put_mask (a : Nat) : ∃ m, Bounds ((placeEffect a).and (Effect.regAt a)) m ∧ sub (placeMask a) m ∧ ((rowOf a).isSome = true → RowsHave m a) := by
  obtain ⟨m, hb, hr⟩ := row_mask a
  exact ⟨_, (place_bounds a).or hb, sub_or_left _ _, fun h => (hr h).mono (sub_or_right _ _)⟩

theorem everything_bounds : Bounds Effect.everything 0x3ffffa0003ffffffffffffffffffffffffffffffffffffffffffffffffffffffffffffffffffffffffffffffffffffffffffffffffffffffffffffffffffffffffffff := bounds_of (by decide +kernel)

theorem State.hostWrite_within (s : State) (p a v : Nat) :
    ∃ m, Bounds (writeEffect a) m ∧ ∀ (n : Nat) (z : State), sub m n → Within n z s → Within n z (s.hostWrite p a v) := by
  unfold writeEffect
  split
  · exact ⟨_, everything_bounds, fun n z hn hz => State.hostWrite_touch s p a v hn hz⟩
  · rename_i hc
    obtain ⟨m, hb, hm, hr⟩ := put_mask a
    refine ⟨_, (bounds_of (m := 0x1000000000000000000000000010000000000000000000000000000000000000000000000000000000000000000000000000000000000000000000000000000000) (by decide +kernel)).or hb, fun n z hn hz => ?_⟩
    unfold State.hostWrite
    split
    · dsimp only
      refine State.answers_touch _ _ _ (sub_le (by decide) (sub_trans (sub_or_left _ _) hn)) ?_
      unfold State.portPut
      rw [if_neg (fun h => hc ⟨h.1, h.2.1⟩)]
      exact State.regWrite_at _ _ _ _ _ (sub_trans hm (sub_trans (sub_or_right _ _) hn)) (fun h => (hr h).mono (sub_trans (sub_or_right _ _) hn))
        (State.linkSeen_touch _ _ (sub_le (by decide) (sub_trans (sub_or_left _ _) hn)) hz)
    · exact hz

theorem State.hostRead_within (s : State) (p a : Nat) :
    ∃ m, Bounds (readEffect a) m ∧ ∀ (n : Nat) (z : State), sub m n → Within n z s → Within n z (s.hostRead p a) := by
  unfold readEffect
  split
  · exact ⟨_, everything_bounds, fun n z hn hz => State.hostRead_touch s p a hn hz⟩
  · rename_i hc
    obtain ⟨m, hb, hm, hr⟩ := look_bounds a
    refine ⟨_, (bounds_of (m := 0x1000000000000000000000000010000000000000000000000000000000000000000000000000000000000000000000000000000000000000000000000000000000) (by decide +kernel)).or hb, fun n z hn hz => ?_⟩
    unfold State.hostRead
    split
    · dsimp only
      refine State.answers_touch _ _ _ (sub_le (by decide) (sub_trans (sub_or_left _ _) hn)) ?_
      unfold State.portGet
      rw [if_neg (fun h => hc ⟨h.1, h.2.1⟩)]
      exact State.regRead_at _ _ _ (sub_trans hm (sub_trans (sub_or_right _ _) hn)) (fun h hq => (hr h hq).mono (sub_trans (sub_or_right _ _) hn))
        (State.linkSeen_touch _ _ (sub_le (by decide) (sub_trans (sub_or_left _ _) hn)) hz)
    · exact hz

/-- A host write changes only what its address gives. -/
theorem State.hostWrite_only (s : State) (p a v : Nat) : (writeEffect a).Only s (s.hostWrite p a v) :=
  let ⟨_, hb, hw⟩ := s.hostWrite_within p a v
  hb.only (hw _ s (Nat.and_self _) (Within.refl _ _))

/-- A host read changes only what its address gives. -/
theorem State.hostRead_only (s : State) (p a : Nat) : (readEffect a).Only s (s.hostRead p a) :=
  let ⟨_, hb, hw⟩ := s.hostRead_within p a
  hb.only (hw _ s (Nat.and_self _) (Within.refl _ _))

/-- A host write after what `s1` changes in `s`. -/
theorem State.write_after {e : Effect} {m0 : Nat} (s s1 : State) (p a v : Nat) (hb : Bounds e m0) (h : ∀ m, sub m0 m → Within m s s1) :
    ((writeEffect a).and e).Only s (s1.hostWrite p a v) :=
  let ⟨_, hw, hs⟩ := s1.hostWrite_within p a v
  (hw.or hb).only (hs _ _ (sub_or_left _ _) (h _ (sub_or_right _ _)))

/-- A host write before what `f` changes. -/
theorem State.write_before {e : Effect} {m0 : Nat} (s : State) (p a v : Nat) (f : State → State) (hb : Bounds e m0)
    (h : ∀ m t, sub m0 m → Within m s t → Within m s (f t)) : ((writeEffect a).and e).Only s (f (s.hostWrite p a v)) :=
  let ⟨_, hw, hs⟩ := s.hostWrite_within p a v
  (hw.or hb).only (h _ _ (sub_or_right _ _) (hs _ _ (sub_or_left _ _) (Within.refl _ _)))

/-- A context's REG_WRITE. -/
theorem State.cmdRegWrite_only (s : State) (c tag flags offset : Nat) (value mask : Word) {e : Effect} (hb : Bounds e 0x400000036000200000000108300000000000000000000000000000000000000000000000000000000000000000000000000000000000000000000000000000006a0) :
    (e.and ((placeEffect offset).and (Effect.regAt offset))).Only s (s.cmdRegWrite c tag flags offset value mask) := by
  obtain ⟨m, hp, hm, hr⟩ := put_mask offset
  refine (hb.or hp).only ?_
  unfold State.cmdRegWrite
  refine State.command_touch _ _ _ _ _ (sub_or_left _ _) (Within.refl _ _) (fun t ht => ?_)
  split
  · exact ht
  · dsimp only
    split
    · exact ht
    exact State.regWrite_at _ _ _ _ _ (sub_trans hm (sub_or_right _ _)) (fun h => (hr h).mono (sub_or_right _ _)) ht

/-- A context's REG_READ. -/
theorem State.cmdRegRead_only (s : State) (c tag flags offset : Nat) {e : Effect} (hb : Bounds e 0x400000036000200000000108300000000000000000000000000000000000000000000000000000000000000000000000000000000000000000000000000000006a0) :
    (e.and (lookEffect offset)).Only s (s.cmdRegRead c tag flags offset) := by
  obtain ⟨m, hp, hm, hr⟩ := look_bounds offset
  refine (hb.or hp).only ?_
  unfold State.cmdRegRead
  refine State.command_touch _ _ _ _ _ (sub_or_left _ _) (Within.refl _ _) (fun t ht => ?_)
  split
  · exact ht
  · exact State.regRead_at _ _ _ (sub_trans hm (sub_or_right _ _)) (fun h hq => (hr h hq).mono (sub_or_right _ _)) ht

theorem State.hostField_only (s : State) (p a lo n v : Nat) : (writeEffect a).Only s (s.hostField p a lo n v) := State.hostWrite_only _ _ _ _

theorem State.hostAccess_only (s : State) (p a : Nat) (w : Option Word) : (accessEffect a w).Only s (s.hostAccess p a w) := by
  cases w with
  | none => exact State.hostRead_only s p a
  | some v => exact State.hostWrite_only s p a v.toNat

theorem Effect.Only.refl (e : Effect) (s : State) : e.Only s s := ⟨fun _ _ _ => rfl, fun p _ => by cases p <;> rfl⟩

theorem covers_and (e f : Effect) (a : Nat) : (e.and f).covers a = (e.covers a || f.covers a) := List.any_append

theorem Effect.Only.left {e : Effect} {s t : State} (h : e.Only s t) (f : Effect) : (e.and f).Only s t :=
  ⟨fun a hd hc => h.1 a hd (by rw [covers_and, Bool.or_eq_false_iff] at hc; exact hc.1), fun p hp => h.2 p (fun hq => hp (List.mem_append_left _ hq))⟩

theorem Effect.Only.right {f : Effect} {s t : State} (h : f.Only s t) (e : Effect) : (e.and f).Only s t :=
  ⟨fun a hd hc => h.1 a hd (by rw [covers_and, Bool.or_eq_false_iff] at hc; exact hc.2), fun p hp => h.2 p (fun hq => hp (List.mem_append_right _ hq))⟩

theorem Effect.Only.trans {e : Effect} {s t u : State} (h : e.Only s t) (k : e.Only t u) : e.Only s u :=
  ⟨fun a hd hc => (k.1 a hd hc).trans (h.1 a hd hc), fun p hp => (h.2 p hp).trans (k.2 p hp)⟩

/-- An effect on a unit that may not exist, or on a core die that may be down. -/
theorem State.whenUp_only {e : Effect} (s : State) (f : State → State) (h : e.Only s (f s)) : e.Only s (s.whenUp f) := by
  unfold State.whenUp; split
  · exact h
  · exact .refl _ _

theorem State.inRangeOf_only {e : Effect} (s : State) (i n : Nat) (f : State → State) (h : e.Only s (f s)) : e.Only s (s.inRangeOf i n f) := by
  unfold State.inRangeOf; split
  · exact h
  · exact .refl _ _

theorem State.inRangeUp_only {e : Effect} (s : State) (i n : Nat) (f : State → State) (h : e.Only s (f s)) : e.Only s (s.inRangeUp i n f) :=
  State.whenUp_only s _ (State.inRangeOf_only s i n f h)

theorem State.atPosition_only {e : Effect} (s : State) (l p : Nat) (f : State → State) (h : e.Only s (f s)) : e.Only s (s.atPosition l p f) := by
  unfold State.atPosition; split
  · exact h
  · exact .refl _ _

end Sys2Proof.Machine
end

