-- ==== Sys2Proof/Laws/TouchCmds.lean ====
section
/-! SUPPORT. What each command may change: its effect bounds what its meaning does. -/

namespace Sys2Proof.Machine

set_option linter.all false
set_option Elab.async false

theorem execRegisterWrite_only (port addr : Nat) (value : Word) (s : State) : ∃ u, execRegisterWrite port addr value s = .next u ∧ (effect (.registerWrite port addr value)).Only s u := ⟨_, rfl, State.hostWrite_only _ _ _ _⟩

theorem execClearingRead_only (port addr : Nat) (s : State) : ∃ u, execClearingRead port addr s = .next u ∧ (effect (.clearingRead port addr)).Only s u := ⟨_, rfl, State.hostRead_only _ _ _⟩

theorem execLatchingRead_only (port addr : Nat) (s : State) : ∃ u, execLatchingRead port addr s = .next u ∧ (effect (.latchingRead port addr)).Only s u := ⟨_, rfl, State.hostRead_only _ _ _⟩

theorem execVbatPowerOn_only (s : State) : ∃ u, execVbatPowerOn s = .next u ∧ (effect (.vbatPowerOn)).Only s u := by
  refine ⟨_, rfl, ((bounds_of (by decide +kernel) : Bounds (Effect.recorded.and ⟨[Reg.MAP_EVENT_TILE_MISS, Reg.MAP_COUNT_A_PAINT_LOST, Reg.MAP_COUNT_B_PAINT_UNSURE, Reg.TILE_DIRTY_BAND 0, Reg.VD_CTRL_GATE_COMP_EN, Reg.VD_STATUS_DIEA_LINK, Reg.VD_EVENT_CH_FAULT, Reg.VD_GATECOMP_LAT_A, Reg.DBG_CFG_HALT_OFF, Reg.SP_PERIOD_PERIOD, Reg.LOADALL_UNITS 0, Reg.LOADALL_AUX_AUX, Reg.BST_CTRL_BST_EN 0, Reg.BST_SET_SET 0, Reg.BST_SLEW_SLEW 0, Reg.BST_REF_REF 0, Reg.BST_MEAS_MEAS 0, Reg.BST_STAT_BST_OFF 0, Reg.TRIP_CFG_EN 0, Reg.TRIP_MASK_CH 0 0, Reg.PF_CFG_NPH 0, Reg.PF_PULL_I_PULL 0, Reg.PF_MOVE_I_MOVE 0, Reg.PF_OC_OC_LIM 0, Reg.PF_RISE_RISE_MIN 0, Reg.PF_WIN_O_WIN_PRE 0, Reg.PF_WIN_C_WIN_PRE 0, Reg.PF_KINK_KINK_THR 0, Reg.PF_DIP_DIP_THR 0, Reg.PF_DW_DW_LIM 0, Reg.PH_CFG_KIND 0 0, Reg.PH_ITGT_ITGT 0 0, Reg.PH_BAND_BAND 0 0, Reg.PH_TMAX_TMAX 0 0, Reg.VCH_CFG_OUTLET 0, Reg.VCH_STATE_STATE 0, Reg.VCH_FAULT_OPEN_COIL 0, Reg.VCH_CLEAR_UNLATCH 0, Reg.VCH_IMEAS_I 0, Reg.VCH_VMEAS_V 0, Reg.VCH_HEAT_RATIO 0, Reg.VCH_DW_DW_WIN 0, Reg.VCH_SEAL_CODE 0, Reg.VCH_KPEAK_PEAK 0, Reg.VCH_CNT_UNSEATED_N 0, Reg.PWM_CTRL_LEDGER 0, Reg.PWM_CHOP_CHOP_PER 0, Reg.PWM_PERIOD_PERIOD 0, Reg.PWM_DUTY_DUTY 0, Reg.PWM_PHASE_PHASE 0, Reg.PWM_ACT_DUTY_DUTY 0, Reg.PWM_ACT_PERIOD_PERIOD 0, Reg.AUXPWM_CTRL_LEDGER 0, Reg.AUXPWM_CHOP_CHOP_PER 0, Reg.AUXPWM_PERIOD_PERIOD 0, Reg.AUXPWM_DUTY_DUTY 0, Reg.AUXPWM_PHASE_PHASE 0, Reg.AUXPWM_ACT_DUTY_DUTY 0, Reg.AUXPWM_ACT_PERIOD_PERIOD 0, Reg.LS_STATUS_SW_LINK, Reg.LS_EVENT_TSD, Reg.LS_VBAT_VBAT, Reg.LS_WD_WD_TMO, Reg.LS_CFG_SOURCE 0, Reg.LS_CFG2_OL_BLANK 0, Reg.LS_SET_ON 0, Reg.LS_PERIOD_PERIOD 0, Reg.LS_DUTY_DUTY 0, Reg.LS_STATE_OUT_ON 0, Reg.LS_FAULT_TSD 0, Reg.LS_CLEAR_UNLATCH 0, Reg.LS_IMEAS_I 0, Reg.LS_VOUT_V 0, Reg.LS_TEMP_TJ 0, Reg.LS_CLAMPE_B 0, Reg.LS_CNT_RETRY_CNT 0, Reg.FIO_STATUS_BAR_OK, Reg.FIO_EVENT_BAR_LOST, Reg.FIO_BAR_BAR_TMO, Reg.FIO_BARCNT_CRC_N, Reg.FIO_VFIELD_V, Reg.FIO_GRP_INTERVALS, Reg.FIO_LEVEL_LEVEL 0, Reg.FIO_COS_COS 0, Reg.FIO_OWIN_OW 0, Reg.FI_CFG_DEB 0, Reg.FI_STAT_LEVEL 0, Reg.FI_STAMP_STAMP 0, Reg.FI_COUNT_COUNT 0, Reg.FO_CFG_SOURCE 0, Reg.FO_SET_ON 0, Reg.FO_PERIOD_PERIOD 0, Reg.FO_DUTY_DUTY 0, Reg.FO_STATE_OUT_ON 0, Reg.FO_FAULT_OVERLOAD 0, Reg.FO_CLEAR_UNLATCH 0, Reg.FO_IMEAS_I 0, Reg.FO_VOUT_V 0, Reg.FO_CNT_OVL_N 0, Reg.PWR_STATUS_READY, Reg.PWR_WAKE_BUS_EN, Reg.SEQ_A_SEQ, Reg.SEQ_B_SEQ, Reg.PWR_TIMES_READY_T, Reg.CV_STATUS_COUNT], [.free, .mp, .vd, .ls, .fd, .im, .pw]⟩) 0x2b2e0800003611865820800010800000000000001fffffffffe00000000000000003fffffffffffff80000000000000000000000000000000400068000000000000000)).only ?_⟩
  have hm : sub 0x2b2e0800003611865820800010800000000000001fffffffffe00000000000000003fffffffffffff80000000000000000000000000000000400068000000000000000 0x2b2e0800003611865820800010800000000000001fffffffffe00000000000000003fffffffffffff80000000000000000000000000000000400068000000000000000 := Nat.and_self _
  have hz := Within.refl 0x2b2e0800003611865820800010800000000000001fffffffffe00000000000000003fffffffffffff80000000000000000000000000000000400068000000000000000 s
  repeat' with_reducible (first | assumption | intro _ | exact partOk_refl _ _ _ | apply State.vbatOn_touch | apply within_ite | apply within_ite_fst | split | (dsimp only; split) | apply within_mk)
  all_goals exact sub_le (by decide) hm

theorem execResetRelease_only (laneA laneB : Bool) (s : State) : ∃ u, execResetRelease laneA laneB s = .next u ∧ (effect (.resetRelease laneA laneB)).Only s u := ⟨_, rfl, everything_bounds.only (State.resetRelease_touch _ _ _ (sub_le (by decide) (Nat.and_self _)) (Within.refl _ _))⟩

theorem execResetNLow_only (s : State) : ∃ u, execResetNLow s = .next u ∧ (effect (.resetNLow)).Only s u := by
  refine ⟨_, rfl, ((bounds_of (by decide +kernel) : Bounds (Effect.raised.and ⟨[Reg.VD_STATUS_DIEA_LINK, Reg.VCH_STATE_STATE 0, Reg.LS_STATUS_SW_LINK, Reg.PWR_STATUS_READY, Reg.PWR_EVENT_START_FAIL, Reg.PWR_AOLOG_PG_MISSING, Reg.SEQ_A_SEQ, Reg.SEQ_B_SEQ, Reg.PWR_TIMES_READY_T, Reg.CV_STATUS_COUNT], [.free, .rc, .vd, .im, .pw]⟩) 0x28260800000000045803800010800000000000000000000000200000000000000000000004000000100000000000000000000000000000000000000000000000000000)).only ?_⟩
  have hm : sub 0x28260800000000045803800010800000000000000000000000200000000000000000000004000000100000000000000000000000000000000000000000000000000000 0x28260800000000045803800010800000000000000000000000200000000000000000000004000000100000000000000000000000000000000000000000000000000000 := Nat.and_self _
  have hz := Within.refl 0x28260800000000045803800010800000000000000000000000200000000000000000000004000000100000000000000000000000000000000000000000000000000000 s
  repeat' with_reducible (first | assumption | intro _ | exact partOk_refl _ _ _ | apply State.resetLow_touch | apply within_ite | apply within_ite_fst | split | (dsimp only; split) | apply within_mk)
  all_goals exact sub_le (by decide) hm

theorem execReady_only (s : State) : ∃ u, execReady s = .next u ∧ (effect (.ready)).Only s u := by
  refine ⟨_, rfl, ((bounds_of (by decide +kernel) : Bounds (Effect.recorded.and ⟨[Reg.HP_STATUS_LINK_UP, Reg.PWR_STATUS_READY, Reg.PWR_EVENT_START_FAIL, Reg.PWR_AOLOG_PG_MISSING, Reg.PWR_TIMES_READY_T], []⟩) 0x60000003611824003800010800010000000000000000000000000000000000000000000000000000000000000000000000000000000000000000000000000000000)).only ?_⟩
  have hm : sub 0x60000003611824003800010800010000000000000000000000000000000000000000000000000000000000000000000000000000000000000000000000000000000 0x60000003611824003800010800010000000000000000000000000000000000000000000000000000000000000000000000000000000000000000000000000000000 := Nat.and_self _
  have hz := Within.refl 0x60000003611824003800010800010000000000000000000000000000000000000000000000000000000000000000000000000000000000000000000000000000000 s
  repeat' with_reducible (first | assumption | intro _ | exact partOk_refl _ _ _ | apply State.ready_touch | apply within_ite | apply within_ite_fst | split | (dsimp only; split) | apply within_mk)
  all_goals exact sub_le (by decide) hm

theorem execPgStartTimeout_only (pg : Nat) (s : State) : ∃ u, execPgStartTimeout pg s = .next u ∧ (effect (.pgStartTimeout pg)).Only s u := by
  refine ⟨_, rfl, ((bounds_of (by decide +kernel) : Bounds (⟨[Reg.PWR_STATUS_READY, Reg.PWR_AOLOG_PG_MISSING], [.rc, .pw]⟩) 0x20020000000000000002800000000000000000000000000000000000000000000000000000000000000000000000000000000000000000000000000000000000000000)).only ?_⟩
  have hm : sub 0x20020000000000000002800000000000000000000000000000000000000000000000000000000000000000000000000000000000000000000000000000000000000000 0x20020000000000000002800000000000000000000000000000000000000000000000000000000000000000000000000000000000000000000000000000000000000000 := Nat.and_self _
  have hz := Within.refl 0x20020000000000000002800000000000000000000000000000000000000000000000000000000000000000000000000000000000000000000000000000000000000000 s
  repeat' with_reducible (first | assumption | intro _ | exact partOk_refl _ _ _ | apply State.startTimeout_touch | apply within_ite | apply within_ite_fst | split | (dsimp only; split) | apply within_mk)
  all_goals exact sub_le (by decide) hm

theorem execPgLost_only (pg : Nat) (s : State) : ∃ u, execPgLost pg s = .next u ∧ (effect (.pgLost pg)).Only s u := by
  refine ⟨_, rfl, ((bounds_of (by decide +kernel) : Bounds (Effect.raised.and ⟨[Reg.VD_STATUS_DIEA_LINK, Reg.VCH_STATE_STATE 0, Reg.LS_STATUS_SW_LINK, Reg.PWR_STATUS_READY, Reg.PWR_EVENT_START_FAIL, Reg.PWR_AOLOG_PG_MISSING, Reg.SEQ_A_SEQ, Reg.SEQ_B_SEQ, Reg.PWR_TIMES_READY_T, Reg.CV_STATUS_COUNT], [.free, .rc, .vd, .im, .pw]⟩) 0x28260800000000045803800010800000000000000000000000200000000000000000000004000000100000000000000000000000000000000000000000000000000000)).only ?_⟩
  have hm : sub 0x28260800000000045803800010800000000000000000000000200000000000000000000004000000100000000000000000000000000000000000000000000000000000 0x28260800000000045803800010800000000000000000000000200000000000000000000004000000100000000000000000000000000000000000000000000000000000 := Nat.and_self _
  have hz := Within.refl 0x28260800000000045803800010800000000000000000000000200000000000000000000004000000100000000000000000000000000000000000000000000000000000 s
  repeat' with_reducible (first | assumption | intro _ | exact partOk_refl _ _ _ | apply State.pgLost_touch | apply within_ite | apply within_ite_fst | split | (dsimp only; split) | apply within_mk)
  all_goals exact sub_le (by decide) hm

theorem execBrownOut_only (s : State) : ∃ u, execBrownOut s = .next u ∧ (effect (.brownOut)).Only s u := by
  refine ⟨_, rfl, ((bounds_of (by decide +kernel) : Bounds (Effect.recorded.and ⟨[Reg.CW_IRQ_CPL 0, Reg.CW_STR_WR_INDEX 0 0, Reg.CW_STR_DROP_DROP_N 0 0, Reg.BB_STATUS_BB_PRESENT, Reg.MAP_EVENT_TILE_MISS, Reg.MAP_COUNT_A_PAINT_LOST, Reg.MAP_COUNT_B_PAINT_UNSURE, Reg.TILE_DIRTY_BAND 0, Reg.LG_EVENT_FULL, Reg.GCH_STATE_STATE 0, Reg.GCH_CARR_NCO_INC 0, Reg.GCH_CODE_NCO_INC 0, Reg.GCH_MP_MP_CORR 0, Reg.POSE_STATUS_STATE, Reg.VCH_STATE_STATE 0, Reg.LK_HOLD_LO_HOLD 0, Reg.LK_HOLD_HI_HOLD 0, Reg.LP_EVENT_SLOT_FLAG, Reg.HOUT_VALUE 0, Reg.SL_STATE_STATE 0, Reg.SL_FLAGS_SAT_ACC 0, Reg.SL_SETP_S 0, Reg.SL_RAMP_R 0, Reg.SL_OUT_VALUE 0 0, Reg.LS_SET_ON 0, Reg.LS_DUTY_DUTY 0, Reg.LS_STATE_OUT_ON 0, Reg.FIO_STATUS_BAR_OK, Reg.FO_SET_ON 0, Reg.FO_DUTY_DUTY 0, Reg.RES_STATE_STATE, Reg.PWR_STATUS_READY, Reg.PWR_EVENT_START_FAIL, Reg.PWR_AOLOG_PG_MISSING, Reg.SEQ_A_SEQ, Reg.SEQ_B_SEQ, Reg.PWR_TIMES_READY_T, Reg.CV_STATUS_COUNT, Reg.CV_DROPPED_DROPPED], [.free, .tb, .gn, .po, .mp, .lg, .vd, .lk, .lp, .ls, .fd, .bp, .im, .rs, .pw]⟩) 0x3fffc8000036118e580380003080000000000000005000406800008f4000020001800000040000000000000000000000029a0000000000010400068004000000140400)).only ?_⟩
  have hm : sub 0x3fffc8000036118e580380003080000000000000005000406800008f4000020001800000040000000000000000000000029a0000000000010400068004000000140400 0x3fffc8000036118e580380003080000000000000005000406800008f4000020001800000040000000000000000000000029a0000000000010400068004000000140400 := Nat.and_self _
  have hz := Within.refl 0x3fffc8000036118e580380003080000000000000005000406800008f4000020001800000040000000000000000000000029a0000000000010400068004000000140400 s
  repeat' with_reducible (first | assumption | intro _ | exact partOk_refl _ _ _ | apply State.brownOut_touch | apply within_ite | apply within_ite_fst | split | (dsimp only; split) | apply within_mk)
  all_goals exact sub_le (by decide) hm

theorem execBrownOutSaveDone_only (held : Bool) (s : State) : ∃ u, execBrownOutSaveDone held s = .next u ∧ (effect (.brownOutSaveDone held)).Only s u := by
  refine ⟨_, rfl, ((bounds_of (by decide +kernel) : Bounds (Effect.raised.and ⟨[Reg.VD_STATUS_DIEA_LINK, Reg.VCH_STATE_STATE 0, Reg.LS_STATUS_SW_LINK, Reg.PWR_STATUS_READY, Reg.PWR_EVENT_START_FAIL, Reg.SEQ_A_SEQ, Reg.SEQ_B_SEQ, Reg.PWR_TIMES_READY_T, Reg.CV_STATUS_COUNT], [.free, .rc, .vd, .im, .pw]⟩) 0x28260800000000045801800010800000000000000000000000200000000000000000000004000000100000000000000000000000000000000000000000000000000000)).only ?_⟩
  have hm : sub 0x28260800000000045801800010800000000000000000000000200000000000000000000004000000100000000000000000000000000000000000000000000000000000 0x28260800000000045801800010800000000000000000000000200000000000000000000004000000100000000000000000000000000000000000000000000000000000 := Nat.and_self _
  have hz := Within.refl 0x28260800000000045801800010800000000000000000000000200000000000000000000004000000100000000000000000000000000000000000000000000000000000 s
  repeat' with_reducible (first | assumption | intro _ | exact partOk_refl _ _ _ | apply State.brownSaved_touch | apply within_ite | apply within_ite_fst | split | (dsimp only; split) | apply within_mk)
  all_goals exact sub_le (by decide) hm

theorem execBrownOutRecovered_only (s : State) : ∃ u, execBrownOutRecovered s = .next u ∧ (effect (.brownOutRecovered)).Only s u := by
  refine ⟨_, rfl, ((bounds_of (by decide +kernel) : Bounds (⟨[], [.pw]⟩) 0x20000000000000000000000000000000000000000000000000000000000000000000000000000000000000000000000000000000000000000000000000000000000000)).only ?_⟩
  have hm : sub 0x20000000000000000000000000000000000000000000000000000000000000000000000000000000000000000000000000000000000000000000000000000000000000 0x20000000000000000000000000000000000000000000000000000000000000000000000000000000000000000000000000000000000000000000000000000000000000 := Nat.and_self _
  have hz := Within.refl 0x20000000000000000000000000000000000000000000000000000000000000000000000000000000000000000000000000000000000000000000000000000000000000 s
  repeat' with_reducible (first | assumption | intro _ | exact partOk_refl _ _ _ | apply State.brownRecovered_touch | apply within_ite | apply within_ite_fst | split | (dsimp only; split) | apply within_mk)
  all_goals exact sub_le (by decide) hm

theorem execSleep_only (port : Nat) (s : State) : ∃ u, execSleep port s = .next u ∧ (effect (.sleep port)).Only s u := ⟨_, rfl, State.hostWrite_only _ _ _ _⟩

theorem execStateBankSave_only (port : Nat) (s : State) : ∃ u, execStateBankSave port s = .next u ∧ (effect (.stateBankSave port)).Only s u := ⟨_, rfl, State.hostWrite_only _ _ _ _⟩

theorem execWake_only (source port : Nat) (s : State) : ∃ u, execWake source port s = .next u ∧ (effect (.wake source port)).Only s u := by
  refine ⟨_, rfl, ((bounds_of (by decide +kernel) : Bounds (Effect.recorded.and ⟨[Reg.MAP_EVENT_TILE_MISS, Reg.MAP_COUNT_A_PAINT_LOST, Reg.MAP_COUNT_B_PAINT_UNSURE, Reg.TILE_DIRTY_BAND 0, Reg.LS_STATUS_SW_LINK, Reg.LS_EVENT_TSD, Reg.LS_STATE_OUT_ON 0, Reg.PWR_WAKE_BUS_EN], [.free, .mp, .ls, .fd, .pw]⟩) 0x230e0800003611820020000010800000000000000000000040600000000000000000000000000000000000000000000000000000000000000400068000000000000000)).only ?_⟩
  have hm : sub 0x230e0800003611820020000010800000000000000000000040600000000000000000000000000000000000000000000000000000000000000400068000000000000000 0x230e0800003611820020000010800000000000000000000040600000000000000000000000000000000000000000000000000000000000000400068000000000000000 := Nat.and_self _
  have hz := Within.refl 0x230e0800003611820020000010800000000000000000000040600000000000000000000000000000000000000000000000000000000000000400068000000000000000 s
  repeat' with_reducible (first | assumption | intro _ | exact partOk_refl _ _ _ | apply State.wake_touch | apply within_ite | apply within_ite_fst | split | (dsimp only; split) | apply within_mk)
  all_goals exact sub_le (by decide) hm

theorem execLdRewrite_only (s : State) : ∃ u, execLdRewrite s = .next u ∧ (effect (.ldRewrite)).Only s u := by
  refine ⟨_, rfl, ((bounds_of (by decide +kernel) : Bounds (⟨[Reg.SEQ_LD_SEQ], [.pw]⟩) 0x20000000000000002000000000000000000000000000000000000000000000000000000000000000000000000000000000000000000000000000000000000000000000)).only ?_⟩
  have hm : sub 0x20000000000000002000000000000000000000000000000000000000000000000000000000000000000000000000000000000000000000000000000000000000000000 0x20000000000000002000000000000000000000000000000000000000000000000000000000000000000000000000000000000000000000000000000000000000000000 := Nat.and_self _
  have hz := Within.refl 0x20000000000000002000000000000000000000000000000000000000000000000000000000000000000000000000000000000000000000000000000000000000000000 s
  repeat' with_reducible (first | assumption | intro _ | exact partOk_refl _ _ _ | apply State.whenUp_touch | apply State.ldRewrite_touch | apply within_ite | apply within_ite_fst | split | (dsimp only; split) | apply within_mk)
  all_goals exact sub_le (by decide) hm

theorem execRtcSet_only (s : State) : ∃ u, execRtcSet s = .next u ∧ (effect (.rtcSet)).Only s u := by
  refine ⟨_, rfl, ((bounds_of (by decide +kernel) : Bounds (⟨[Reg.PWR_STATUS_READY], [.pw]⟩) 0x20000000000000000000800000000000000000000000000000000000000000000000000000000000000000000000000000000000000000000000000000000000000000)).only ?_⟩
  have hm : sub 0x20000000000000000000800000000000000000000000000000000000000000000000000000000000000000000000000000000000000000000000000000000000000000 0x20000000000000000000800000000000000000000000000000000000000000000000000000000000000000000000000000000000000000000000000000000000000000 := Nat.and_self _
  have hz := Within.refl 0x20000000000000000000800000000000000000000000000000000000000000000000000000000000000000000000000000000000000000000000000000000000000000 s
  repeat' with_reducible (first | assumption | intro _ | exact partOk_refl _ _ _ | apply State.whenUp_touch | apply State.rtcSet_touch | apply within_ite | apply within_ite_fst | split | (dsimp only; split) | apply within_mk)
  all_goals exact sub_le (by decide) hm

theorem execRefinLost_only (s : State) : ∃ u, execRefinLost s = .next u ∧ (effect (.refinLost)).Only s u := by
  refine ⟨_, rfl, ((bounds_of (by decide +kernel) : Bounds (Effect.recorded.and ⟨[Reg.CW_IRQ_CPL 0, Reg.CW_STR_WR_INDEX 0 0, Reg.CW_STR_DROP_DROP_N 0 0, Reg.BB_STATUS_BB_PRESENT, Reg.TB_STATUS_STATE, Reg.TB_EVENT_REFIN_LOST, Reg.GCH_CFG_PORT 0, Reg.GCH_STATE_STATE 0, Reg.GCH_EVENT_ACQ_FAIL 0, Reg.GCH_CARR_NCO_INC 0, Reg.GCH_CODE_NCO_INC 0, Reg.GCH_MP_MP_CORR 0, Reg.POSE_STATUS_STATE], [.free, .tb, .gn, .po]⟩) 0x7c8000036118200000000108000000000000000000000000000000000000000000000000000000000000000000000029e0a00002000000000000004000000140400)).only ?_⟩
  have hm : sub 0x7c8000036118200000000108000000000000000000000000000000000000000000000000000000000000000000000029e0a00002000000000000004000000140400 0x7c8000036118200000000108000000000000000000000000000000000000000000000000000000000000000000000029e0a00002000000000000004000000140400 := Nat.and_self _
  have hz := Within.refl 0x7c8000036118200000000108000000000000000000000000000000000000000000000000000000000000000000000029e0a00002000000000000004000000140400 s
  repeat' with_reducible (first | assumption | intro _ | exact partOk_refl _ _ _ | apply State.whenUp_touch | apply State.refinLost_touch | apply within_ite | apply within_ite_fst | split | (dsimp only; split) | apply within_mk)
  all_goals exact sub_le (by decide) hm

theorem execRefinActive_only (edges freq : Nat) (s : State) : ∃ u, execRefinActive edges freq s = .next u ∧ (effect (.refinActive edges freq)).Only s u := by
  refine ⟨_, rfl, ((bounds_of (by decide +kernel) : Bounds (Effect.recorded.and ⟨[Reg.CW_IRQ_CPL 0, Reg.CW_STR_WR_INDEX 0 0, Reg.CW_STR_DROP_DROP_N 0 0, Reg.BB_STATUS_BB_PRESENT, Reg.TB_STATUS_STATE, Reg.TB_EVENT_REFIN_LOST, Reg.GCH_CFG_PORT 0, Reg.GCH_STATE_STATE 0, Reg.GCH_EVENT_ACQ_FAIL 0, Reg.GCH_CARR_NCO_INC 0, Reg.GCH_CODE_NCO_INC 0, Reg.GCH_MP_MP_CORR 0, Reg.POSE_STATUS_STATE], [.free, .tb, .gn, .po]⟩) 0x7c8000036118200000000108000000000000000000000000000000000000000000000000000000000000000000000029e0a00002000000000000004000000140400)).only ?_⟩
  have hm : sub 0x7c8000036118200000000108000000000000000000000000000000000000000000000000000000000000000000000029e0a00002000000000000004000000140400 0x7c8000036118200000000108000000000000000000000000000000000000000000000000000000000000000000000029e0a00002000000000000004000000140400 := Nat.and_self _
  have hz := Within.refl 0x7c8000036118200000000108000000000000000000000000000000000000000000000000000000000000000000000029e0a00002000000000000004000000140400 s
  repeat' with_reducible (first | assumption | intro _ | exact partOk_refl _ _ _ | apply State.whenUp_touch | apply State.refinActive_touch | apply within_ite | apply within_ite_fst | split | (dsimp only; split) | apply within_mk)
  all_goals exact sub_le (by decide) hm

theorem execPllLock_only (s : State) : ∃ u, execPllLock s = .next u ∧ (effect (.pllLock)).Only s u := by
  refine ⟨_, rfl, ((bounds_of (by decide +kernel) : Bounds (Effect.recorded.and ⟨[Reg.CW_IRQ_CPL 0, Reg.CW_STR_WR_INDEX 0 0, Reg.CW_STR_DROP_DROP_N 0 0, Reg.BB_STATUS_BB_PRESENT, Reg.TB_STATUS_STATE, Reg.TB_EVENT_REFIN_LOST, Reg.GCH_CFG_PORT 0, Reg.GCH_STATE_STATE 0, Reg.GCH_EVENT_ACQ_FAIL 0, Reg.GCH_CARR_NCO_INC 0, Reg.GCH_CODE_NCO_INC 0, Reg.GCH_MP_MP_CORR 0, Reg.POSE_STATUS_STATE], [.free, .tb, .gn, .po]⟩) 0x7c8000036118200000000108000000000000000000000000000000000000000000000000000000000000000000000029e0a00002000000000000004000000140400)).only ?_⟩
  have hm : sub 0x7c8000036118200000000108000000000000000000000000000000000000000000000000000000000000000000000029e0a00002000000000000004000000140400 0x7c8000036118200000000108000000000000000000000000000000000000000000000000000000000000000000000029e0a00002000000000000004000000140400 := Nat.and_self _
  have hz := Within.refl 0x7c8000036118200000000108000000000000000000000000000000000000000000000000000000000000000000000029e0a00002000000000000004000000140400 s
  repeat' with_reducible (first | assumption | intro _ | exact partOk_refl _ _ _ | apply State.whenUp_touch | apply State.pllLock_touch | apply within_ite | apply within_ite_fst | split | (dsimp only; split) | apply within_mk)
  all_goals exact sub_le (by decide) hm

theorem execRefinStartTimeout_only (s : State) : ∃ u, execRefinStartTimeout s = .next u ∧ (effect (.refinStartTimeout)).Only s u := by
  refine ⟨_, rfl, ((bounds_of (by decide +kernel) : Bounds (Effect.recorded.and ⟨[Reg.CW_IRQ_CPL 0, Reg.CW_STR_WR_INDEX 0 0, Reg.CW_STR_DROP_DROP_N 0 0, Reg.BB_STATUS_BB_PRESENT, Reg.TB_STATUS_STATE, Reg.TB_EVENT_REFIN_LOST, Reg.GCH_CFG_PORT 0, Reg.GCH_STATE_STATE 0, Reg.GCH_EVENT_ACQ_FAIL 0, Reg.GCH_CARR_NCO_INC 0, Reg.GCH_CODE_NCO_INC 0, Reg.GCH_MP_MP_CORR 0, Reg.POSE_STATUS_STATE], [.free, .tb, .gn, .po]⟩) 0x7c8000036118200000000108000000000000000000000000000000000000000000000000000000000000000000000029e0a00002000000000000004000000140400)).only ?_⟩
  have hm : sub 0x7c8000036118200000000108000000000000000000000000000000000000000000000000000000000000000000000029e0a00002000000000000004000000140400 0x7c8000036118200000000108000000000000000000000000000000000000000000000000000000000000000000000029e0a00002000000000000004000000140400 := Nat.and_self _
  have hz := Within.refl 0x7c8000036118200000000108000000000000000000000000000000000000000000000000000000000000000000000029e0a00002000000000000004000000140400 s
  repeat' with_reducible (first | assumption | intro _ | exact partOk_refl _ _ _ | apply State.whenUp_touch | apply State.refinStartTimeout_touch | apply within_ite | apply within_ite_fst | split | (dsimp only; split) | apply within_mk)
  all_goals exact sub_le (by decide) hm

theorem execHoldoverTimeout_only (s : State) : ∃ u, execHoldoverTimeout s = .next u ∧ (effect (.holdoverTimeout)).Only s u := by
  refine ⟨_, rfl, ((bounds_of (by decide +kernel) : Bounds (Effect.recorded.and ⟨[Reg.CW_IRQ_CPL 0, Reg.CW_STR_WR_INDEX 0 0, Reg.CW_STR_DROP_DROP_N 0 0, Reg.BB_STATUS_BB_PRESENT, Reg.LG_EVENT_FULL, Reg.LG_CNT_A_FORCED_N, Reg.TB_STATUS_STATE, Reg.TB_EVENT_REFIN_LOST, Reg.GCH_CFG_PORT 0, Reg.GCH_STATE_STATE 0, Reg.GCH_EVENT_ACQ_FAIL 0, Reg.GCH_CARR_NCO_INC 0, Reg.GCH_CODE_NCO_INC 0, Reg.GCH_MP_MP_CORR 0, Reg.POSE_STATUS_STATE, Reg.VCH_STATE_STATE 0], [.free, .tb, .gn, .po, .lg, .vd]⟩) 0x37c8000036118200000000108000000000000000000000000000000000000000000000040000000000000000000000029e0a00002000030000000004000000140400)).only ?_⟩
  have hm : sub 0x37c8000036118200000000108000000000000000000000000000000000000000000000040000000000000000000000029e0a00002000030000000004000000140400 0x37c8000036118200000000108000000000000000000000000000000000000000000000040000000000000000000000029e0a00002000030000000004000000140400 := Nat.and_self _
  have hz := Within.refl 0x37c8000036118200000000108000000000000000000000000000000000000000000000040000000000000000000000029e0a00002000030000000004000000140400 s
  repeat' with_reducible (first | assumption | intro _ | exact partOk_refl _ _ _ | apply State.whenUp_touch | apply State.holdoverTimeout_touch | apply State.degradeFrom_touch | apply within_ite | apply within_ite_fst | split | (dsimp only; split) | apply within_mk)
  all_goals exact sub_le (by decide) hm

theorem execDisciplineUpdate_only (yGnss ySync : Int) (gnssTime : Time) (s : State) : ∃ u, execDisciplineUpdate yGnss ySync gnssTime s = .next u ∧ (effect (.disciplineUpdate yGnss ySync gnssTime)).Only s u := by
  refine ⟨_, rfl, ((bounds_of (by decide +kernel) : Bounds (Effect.recorded.and ⟨[Reg.CW_IRQ_CPL 0, Reg.CW_STR_WR_INDEX 0 0, Reg.CW_STR_DROP_DROP_N 0 0, Reg.BB_STATUS_BB_PRESENT, Reg.LG_EVENT_FULL, Reg.LG_CNT_A_FORCED_N, Reg.TB_STATUS_STATE, Reg.REF_MEAS_OFFSET, Reg.REF_DRIFT_DRIFT, Reg.DISC_TRIM_TRIM, Reg.TB_EVENT_REFIN_LOST, Reg.GCH_CFG_PORT 0, Reg.GCH_STATE_STATE 0, Reg.GCH_EVENT_ACQ_FAIL 0, Reg.GCH_CARR_NCO_INC 0, Reg.GCH_CODE_NCO_INC 0, Reg.GCH_MP_MP_CORR 0, Reg.POSE_STATUS_STATE, Reg.VCH_STATE_STATE 0], [.free, .tb, .gn, .po, .lg, .vd]⟩) 0x37c8000036118200000000108000000000000000000000000000000000000000000000040000000000000000000000029e0a00382000030000000004000000140400)).only ?_⟩
  have hm : sub 0x37c8000036118200000000108000000000000000000000000000000000000000000000040000000000000000000000029e0a00382000030000000004000000140400 0x37c8000036118200000000108000000000000000000000000000000000000000000000040000000000000000000000029e0a00382000030000000004000000140400 := Nat.and_self _
  have hz := Within.refl 0x37c8000036118200000000108000000000000000000000000000000000000000000000040000000000000000000000029e0a00382000030000000004000000140400 s
  repeat' with_reducible (first | assumption | intro _ | exact partOk_refl _ _ _ | apply State.whenUp_touch | apply State.discipline_touch | apply State.degradeFrom_touch | apply within_ite | apply within_ite_fst | split | (dsimp only; split) | apply within_mk)
  all_goals exact sub_le (by decide) hm

theorem execDriftCompliance_only (s : State) : ∃ u, execDriftCompliance s = .next u ∧ (effect (.driftCompliance)).Only s u := by
  refine ⟨_, rfl, ((bounds_of (by decide +kernel) : Bounds (Effect.recorded.and ⟨[Reg.CW_IRQ_CPL 0, Reg.CW_STR_WR_INDEX 0 0, Reg.CW_STR_DROP_DROP_N 0 0, Reg.BB_STATUS_BB_PRESENT, Reg.TB_STATUS_STATE, Reg.TB_EVENT_REFIN_LOST, Reg.GCH_CFG_PORT 0, Reg.GCH_STATE_STATE 0, Reg.GCH_EVENT_ACQ_FAIL 0, Reg.GCH_CARR_NCO_INC 0, Reg.GCH_CODE_NCO_INC 0, Reg.GCH_MP_MP_CORR 0, Reg.POSE_STATUS_STATE], [.free, .tb, .gn, .po]⟩) 0x7c8000036118200000000108000000000000000000000000000000000000000000000000000000000000000000000029e0a00002000000000000004000000140400)).only ?_⟩
  have hm : sub 0x7c8000036118200000000108000000000000000000000000000000000000000000000000000000000000000000000029e0a00002000000000000004000000140400 0x7c8000036118200000000108000000000000000000000000000000000000000000000000000000000000000000000029e0a00002000000000000004000000140400 := Nat.and_self _
  have hz := Within.refl 0x7c8000036118200000000108000000000000000000000000000000000000000000000000000000000000000000000029e0a00002000000000000004000000140400 s
  repeat' with_reducible (first | assumption | intro _ | exact partOk_refl _ _ _ | apply State.whenUp_touch | apply State.driftCompliance_touch | apply within_ite | apply within_ite_fst | split | (dsimp only; split) | apply within_mk)
  all_goals exact sub_le (by decide) hm

theorem execDriftAccept_only (port : Nat) (s : State) : ∃ u, execDriftAccept port s = .next u ∧ (effect (.driftAccept port)).Only s u := ⟨_, rfl, State.hostField_only _ _ _ _ _ _⟩

theorem execAutoReturnSet_only (port : Nat) (s : State) : ∃ u, execAutoReturnSet port s = .next u ∧ (effect (.autoReturnSet port)).Only s u := ⟨_, rfl, State.hostField_only _ _ _ _ _ _⟩

theorem execGnssOfsWrite_only (port : Nat) (value : Word) (s : State) : ∃ u, execGnssOfsWrite port value s = .next u ∧ (effect (.gnssOfsWrite port value)).Only s u := ⟨_, rfl, State.hostWrite_only _ _ _ _⟩

theorem execCalSet_only (port : Nat) (value : Word) (s : State) : ∃ u, execCalSet port value s = .next u ∧ (effect (.calSet port value)).Only s u := ⟨_, rfl, State.hostWrite_only _ _ _ _⟩

theorem execFrameStart_only (s : State) : ∃ u, execFrameStart s = .next u ∧ (effect (.frameStart)).Only s u := by
  refine ⟨_, rfl, ((bounds_of (by decide +kernel) : Bounds (Effect.raised.and ⟨[Reg.CW_RING_EN 0, Reg.CW_SQ_HEAD_INDEX 0, Reg.CW_CQ_TAIL_INDEX 0, Reg.CW_IRQ_CPL 0, Reg.CW_STR_CFG_KIND 0 0, Reg.CW_STR_WR_INDEX 0 0, Reg.CW_STR_DROP_DROP_N 0 0, Reg.MAP_EVENT_TILE_MISS, Reg.MAP_COUNT_B_PAINT_UNSURE, Reg.MISS_TX_T, Reg.MISS_TY_T, Reg.MISS_COUNT_COUNT, Reg.RT_CTRL_COMMIT, Reg.NEED_TX_T 0, Reg.NEED_TY_T 0, Reg.TILE_CTRL_STATE 0, Reg.TILE_DIRTY_BAND 0, Reg.RT_ENTRY_RATE 0 0, Reg.LG_STAT_IN_FLIGHT, Reg.LG_EVENT_FULL, Reg.LG_CNT_B_SHIFTED_N, Reg.LG_CNT_D_CLAMP_N, Reg.PATH_CTRL_KNOTS, Reg.FRM_NO_NUMBER, Reg.FRM_START_LO_T, Reg.FRM_START_HI_T, Reg.FRM_STAT_SKIPPED, Reg.OT_STATE_OWNER 0, Reg.VCH_STATE_STATE 0, Reg.CTX_CFG_PORT 0, Reg.CTX_PERM_MAP 0, Reg.CTX_CNT_REFUSED_N 0, Reg.OWN_OWNER 0, Reg.REC_EVENT_FULL, Reg.PMC_OVF_LO_OVF, Reg.PMC_OVF_HI_OVF, Reg.PMC_LO_COUNT 0, Reg.PMC_HI_COUNT 0], [.free, .tb, .mp, .lg, .vd]⟩) 0x3c480000360002000000001085180000000000000000000000000000000000000000000400000000400000000000000000003c000000354e18bc80000000001606a0)).only ?_⟩
  have hm : sub 0x3c480000360002000000001085180000000000000000000000000000000000000000000400000000400000000000000000003c000000354e18bc80000000001606a0 0x3c480000360002000000001085180000000000000000000000000000000000000000000400000000400000000000000000003c000000354e18bc80000000001606a0 := Nat.and_self _
  have hz := Within.refl 0x3c480000360002000000001085180000000000000000000000000000000000000000000400000000400000000000000000003c000000354e18bc80000000001606a0 s
  repeat' with_reducible (first | assumption | intro _ | exact partOk_refl _ _ _ | apply State.frameStart_touch | apply within_ite | apply within_ite_fst | split | (dsimp only; split) | apply within_mk)
  all_goals exact sub_le (by decide) hm

theorem execFrmCfgWrite_only (port : Nat) (value : Word) (s : State) : ∃ u, execFrmCfgWrite port value s = .next u ∧ (effect (.frmCfgWrite port value)).Only s u := ⟨_, rfl, State.hostWrite_only _ _ _ _⟩

theorem execSyncinPulse_only (capture : Time) (s : State) : ∃ u, execSyncinPulse capture s = .next u ∧ (effect (.syncinPulse capture)).Only s u := by
  refine ⟨_, rfl, ((bounds_of (by decide +kernel) : Bounds (Effect.raised.and ⟨[Reg.CW_IRQ_CPL 0, Reg.CW_STR_WR_INDEX 0 0, Reg.CW_STR_DROP_DROP_N 0 0, Reg.TB_STATUS_STATE, Reg.SYNCIN_ERR_ERR, Reg.TB_EVENT_REFIN_LOST, Reg.VCH_STATE_STATE 0, Reg.REC_EVENT_FULL, Reg.PMC_OVF_LO_OVF, Reg.PMC_OVF_HI_OVF, Reg.PMC_LO_COUNT 0, Reg.PMC_HI_COUNT 0], [.ft, .tb, .gn, .po, .lg, .vd, .pw]⟩) 0x2035c200003600020000000010800000000000000000000000000000000000000000000004000000000000000000000000000300002000000000000000000000140400)).only ?_⟩
  have hm : sub 0x2035c200003600020000000010800000000000000000000000000000000000000000000004000000000000000000000000000300002000000000000000000000140400 0x2035c200003600020000000010800000000000000000000000000000000000000000000004000000000000000000000000000300002000000000000000000000140400 := Nat.and_self _
  have hz := Within.refl 0x2035c200003600020000000010800000000000000000000000000000000000000000000004000000000000000000000000000300002000000000000000000000140400 s
  repeat' with_reducible (first | assumption | intro _ | exact partOk_refl _ _ _ | apply State.syncIn_touch | apply State.capture_touch | apply within_ite | apply within_ite_fst | split | (dsimp only; split) | apply within_mk)
  all_goals exact sub_le (by decide) hm

theorem execSyncLost_only (s : State) : ∃ u, execSyncLost s = .next u ∧ (effect (.syncLost)).Only s u := by
  refine ⟨_, rfl, ((bounds_of (by decide +kernel) : Bounds (Effect.raised.and ⟨[Reg.TB_STATUS_STATE, Reg.TB_EVENT_REFIN_LOST], [.tb]⟩) 0x44000000000000000000010800000000000000000000000000000000000000000000000000000000000000000000000000200002000000000000000000000000000)).only ?_⟩
  have hm : sub 0x44000000000000000000010800000000000000000000000000000000000000000000000000000000000000000000000000200002000000000000000000000000000 0x44000000000000000000010800000000000000000000000000000000000000000000000000000000000000000000000000200002000000000000000000000000000 := Nat.and_self _
  have hz := Within.refl 0x44000000000000000000010800000000000000000000000000000000000000000000000000000000000000000000000000200002000000000000000000000000000 s
  repeat' with_reducible (first | assumption | intro _ | exact partOk_refl _ _ _ | apply State.whenUp_touch | apply State.syncLoss_touch | apply within_ite | apply within_ite_fst | split | (dsimp only; split) | apply within_mk)
  all_goals exact sub_le (by decide) hm

theorem execRefoutReenable_only (s : State) : ∃ u, execRefoutReenable s = .next u ∧ (effect (.refoutReenable)).Only s u := by
  refine ⟨_, rfl, ((bounds_of (by decide +kernel) : Bounds (⟨[Reg.TB_STATUS_STATE], []⟩) 0x2000000000000000000000000000)).only ?_⟩
  have hm : sub 0x2000000000000000000000000000 0x2000000000000000000000000000 := Nat.and_self _
  have hz := Within.refl 0x2000000000000000000000000000 s
  repeat' with_reducible (first | assumption | intro _ | exact partOk_refl _ _ _ | apply State.whenUp_touch | apply State.refoutReenable_touch | apply within_ite | apply within_ite_fst | split | (dsimp only; split) | apply within_mk)
  all_goals exact sub_le (by decide) hm

theorem execAsTrain_only (port n : Nat) (value : Word) (s : State) : ∃ u, execAsTrain port n value s = .next u ∧ (effect (.asTrain port n value)).Only s u := ⟨_, rfl, State.inRangeUp_only _ _ _ _ (State.write_before s _ _ _ (fun t => t.train n) (bounds_of (m := 0x8000000000000000000000000000000000000000000000000000000000000000000000000000000000000000000000000000000000000000000010000000000000) (by decide +kernel)) (fun _ t hm hz => State.train_touch t _ hm hz))⟩

theorem execAsPortLost_only (n : Nat) (s : State) : ∃ u, execAsPortLost n s = .next u ∧ (effect (.asPortLost n)).Only s u := by
  refine ⟨_, rfl, ((bounds_of (by decide +kernel) : Bounds (Effect.raised.and ⟨[Reg.CW_IRQ_CPL 0, Reg.CW_STR_WR_INDEX 0 0, Reg.CW_STR_DROP_DROP_N 0 0, Reg.BB_STATUS_BB_PRESENT, Reg.AS_STAT_CLK_PRESENT 0, Reg.GCH_STATE_STATE 0, Reg.GCH_EVENT_ACQ_FAIL 0, Reg.GCH_CARR_NCO_INC 0, Reg.GCH_CODE_NCO_INC 0, Reg.GCH_MP_MP_CORR 0, Reg.POSE_STATUS_STATE, Reg.REC_EVENT_FULL, Reg.PMC_OVF_LO_OVF, Reg.PMC_OVF_HI_OVF, Reg.PMC_LO_COUNT 0, Reg.PMC_HI_COUNT 0], [.tb, .gn, .po]⟩) 0x5c0000036000200000000108000000000000000000000000000000000000000000000000000000000000000000000029e0000000000000000000014000000140400)).only ?_⟩
  have hm : sub 0x5c0000036000200000000108000000000000000000000000000000000000000000000000000000000000000000000029e0000000000000000000014000000140400 0x5c0000036000200000000108000000000000000000000000000000000000000000000000000000000000000000000029e0000000000000000000014000000140400 := Nat.and_self _
  have hz := Within.refl 0x5c0000036000200000000108000000000000000000000000000000000000000000000000000000000000000000000029e0000000000000000000014000000140400 s
  repeat' with_reducible (first | assumption | intro _ | exact partOk_refl _ _ _ | apply State.inRangeUp_touch | apply State.asPortLost_touch | apply within_ite | apply within_ite_fst | split | (dsimp only; split) | apply within_mk)
  all_goals exact sub_le (by decide) hm

theorem execChStartSearch_only (port n : Nat) (s : State) : ∃ u, execChStartSearch port n s = .next u ∧ (effect (.chStartSearch port n)).Only s u := ⟨_, rfl, State.inRangeUp_only _ _ _ _ (State.hostWrite_only _ _ _ _)⟩

theorem execChStartAided_only (port n : Nat) (s : State) : ∃ u, execChStartAided port n s = .next u ∧ (effect (.chStartAided port n)).Only s u := ⟨_, rfl, State.inRangeUp_only _ _ _ _ (State.hostWrite_only _ _ _ _)⟩

theorem execChStop_only (port n : Nat) (s : State) : ∃ u, execChStop port n s = .next u ∧ (effect (.chStop port n)).Only s u := ⟨_, rfl, State.inRangeUp_only _ _ _ _ (State.hostWrite_only _ _ _ _)⟩

theorem execIntegrationPeriodEnd_only (n : Nat) (sums : List Tap) (sync neg : Bool) (s : State) : ∃ u, execIntegrationPeriodEnd n sums sync neg s = .next u ∧ (effect (.integrationPeriodEnd n sums sync neg)).Only s u := by
  refine ⟨_, rfl, ((bounds_of (by decide +kernel) : Bounds (Effect.raised.and ⟨[Reg.CW_IRQ_CPL 0, Reg.CW_STR_WR_INDEX 0 0, Reg.CW_STR_DROP_DROP_N 0 0, Reg.BB_STATUS_BB_PRESENT, Reg.GCH_STATE_STATE 0, Reg.GCH_EVENT_ACQ_FAIL 0, Reg.GCH_CARR_NCO_INC 0, Reg.GCH_CODE_NCO_INC 0, Reg.GCH_TAP_I_SUM 0 0, Reg.GCH_TAP_Q_SUM 0 0, Reg.GCH_MP_MP_CORR 0, Reg.POSE_STATUS_STATE, Reg.REC_EVENT_FULL, Reg.PMC_OVF_LO_OVF, Reg.PMC_OVF_HI_OVF, Reg.PMC_LO_COUNT 0, Reg.PMC_HI_COUNT 0], [.free, .tb, .gn, .po]⟩) 0x5c800003600020000000010800000000000000000000000000000000000000000000000000000000000000000000002fe0000000000000000000004000000140400)).only ?_⟩
  have hm : sub 0x5c800003600020000000010800000000000000000000000000000000000000000000000000000000000000000000002fe0000000000000000000004000000140400 0x5c800003600020000000010800000000000000000000000000000000000000000000000000000000000000000000002fe0000000000000000000004000000140400 := Nat.and_self _
  have hz := Within.refl 0x5c800003600020000000010800000000000000000000000000000000000000000000000000000000000000000000002fe0000000000000000000004000000140400 s
  repeat' with_reducible (first | assumption | intro _ | exact partOk_refl _ _ _ | apply State.inRangeUp_touch | apply State.periodEnd_touch | apply within_ite | apply within_ite_fst | split | (dsimp only; split) | apply within_mk)
  all_goals exact sub_le (by decide) hm

theorem execPullinTimeout_only (n : Nat) (s : State) : ∃ u, execPullinTimeout n s = .next u ∧ (effect (.pullinTimeout n)).Only s u := by
  refine ⟨_, rfl, ((bounds_of (by decide +kernel) : Bounds (Effect.raised.and ⟨[Reg.CW_IRQ_CPL 0, Reg.CW_STR_WR_INDEX 0 0, Reg.CW_STR_DROP_DROP_N 0 0, Reg.BB_STATUS_BB_PRESENT, Reg.GCH_STATE_STATE 0, Reg.GCH_CARR_NCO_INC 0, Reg.GCH_CODE_NCO_INC 0, Reg.GCH_MP_MP_CORR 0, Reg.REC_EVENT_FULL, Reg.PMC_OVF_LO_OVF, Reg.PMC_OVF_HI_OVF, Reg.PMC_LO_COUNT 0, Reg.PMC_HI_COUNT 0], [.tb, .gn]⟩) 0x4c0000036000200000000108000000000000000000000000000000000000000000000000000000000000000000000009a0000000000000000000004000000140400)).only ?_⟩
  have hm : sub 0x4c0000036000200000000108000000000000000000000000000000000000000000000000000000000000000000000009a0000000000000000000004000000140400 0x4c0000036000200000000108000000000000000000000000000000000000000000000000000000000000000000000009a0000000000000000000004000000140400 := Nat.and_self _
  have hz := Within.refl 0x4c0000036000200000000108000000000000000000000000000000000000000000000000000000000000000000000009a0000000000000000000004000000140400 s
  repeat' with_reducible (first | assumption | intro _ | exact partOk_refl _ _ _ | apply State.inRangeUp_touch | apply State.pullinTimeout_touch | apply within_ite | apply within_ite_fst | split | (dsimp only; split) | apply within_mk)
  all_goals exact sub_le (by decide) hm

theorem execCn0LowTimeout_only (n : Nat) (s : State) : ∃ u, execCn0LowTimeout n s = .next u ∧ (effect (.cn0LowTimeout n)).Only s u := by
  refine ⟨_, rfl, ((bounds_of (by decide +kernel) : Bounds (Effect.raised.and ⟨[Reg.CW_IRQ_CPL 0, Reg.CW_STR_WR_INDEX 0 0, Reg.CW_STR_DROP_DROP_N 0 0, Reg.BB_STATUS_BB_PRESENT, Reg.GCH_STATE_STATE 0, Reg.GCH_CARR_NCO_INC 0, Reg.GCH_CODE_NCO_INC 0, Reg.GCH_MP_MP_CORR 0, Reg.REC_EVENT_FULL, Reg.PMC_OVF_LO_OVF, Reg.PMC_OVF_HI_OVF, Reg.PMC_LO_COUNT 0, Reg.PMC_HI_COUNT 0], [.tb, .gn]⟩) 0x4c0000036000200000000108000000000000000000000000000000000000000000000000000000000000000000000009a0000000000000000000004000000140400)).only ?_⟩
  have hm : sub 0x4c0000036000200000000108000000000000000000000000000000000000000000000000000000000000000000000009a0000000000000000000004000000140400 0x4c0000036000200000000108000000000000000000000000000000000000000000000000000000000000000000000009a0000000000000000000004000000140400 := Nat.and_self _
  have hz := Within.refl 0x4c0000036000200000000108000000000000000000000000000000000000000000000000000000000000000000000009a0000000000000000000004000000140400 s
  repeat' with_reducible (first | assumption | intro _ | exact partOk_refl _ _ _ | apply State.inRangeUp_touch | apply State.cn0Timeout_touch | apply within_ite | apply within_ite_fst | split | (dsimp only; split) | apply within_mk)
  all_goals exact sub_le (by decide) hm

theorem execLostTimeout_only (n : Nat) (s : State) : ∃ u, execLostTimeout n s = .next u ∧ (effect (.lostTimeout n)).Only s u := by
  refine ⟨_, rfl, ((bounds_of (by decide +kernel) : Bounds (Effect.raised.and ⟨[Reg.CW_IRQ_CPL 0, Reg.CW_STR_WR_INDEX 0 0, Reg.CW_STR_DROP_DROP_N 0 0, Reg.BB_STATUS_BB_PRESENT, Reg.GCH_STATE_STATE 0, Reg.GCH_EVENT_ACQ_FAIL 0, Reg.GCH_CARR_NCO_INC 0, Reg.GCH_CODE_NCO_INC 0, Reg.GCH_MP_MP_CORR 0, Reg.REC_EVENT_FULL, Reg.PMC_OVF_LO_OVF, Reg.PMC_OVF_HI_OVF, Reg.PMC_LO_COUNT 0, Reg.PMC_HI_COUNT 0], [.tb, .gn]⟩) 0x4c0000036000200000000108000000000000000000000000000000000000000000000000000000000000000000000009e0000000000000000000004000000140400)).only ?_⟩
  have hm : sub 0x4c0000036000200000000108000000000000000000000000000000000000000000000000000000000000000000000009e0000000000000000000004000000140400 0x4c0000036000200000000108000000000000000000000000000000000000000000000000000000000000000000000009e0000000000000000000004000000140400 := Nat.and_self _
  have hz := Within.refl 0x4c0000036000200000000108000000000000000000000000000000000000000000000000000000000000000000000009e0000000000000000000004000000140400 s
  repeat' with_reducible (first | assumption | intro _ | exact partOk_refl _ _ _ | apply State.inRangeUp_touch | apply State.lostTimeout_touch | apply within_ite | apply within_ite_fst | split | (dsimp only; split) | apply within_mk)
  all_goals exact sub_le (by decide) hm

theorem execMeasurementEpoch_only (m : EpochIn) (s : State) : ∃ u, execMeasurementEpoch m s = .next u ∧ (effect (.measurementEpoch m)).Only s u := by
  refine ⟨_, rfl, ((bounds_of (by decide +kernel) : Bounds (Effect.raised.and ⟨[Reg.CW_IRQ_CPL 0, Reg.CW_STR_WR_INDEX 0 0, Reg.CW_STR_DROP_DROP_N 0 0, Reg.BB_STATUS_BB_PRESENT, Reg.AS_PWR_RMS 0 0, Reg.TB_STATUS_STATE, Reg.CAL_HI_SEC, Reg.LEAP_LEAP_S, Reg.GCH_CFG_PORT 0, Reg.GCH_STATE_STATE 0, Reg.GCH_EVENT_ACQ_FAIL 0, Reg.GCH_CARR_NCO_INC 0, Reg.GCH_CODE_NCO_INC 0, Reg.GCH_MP_MP_CORR 0, Reg.POSE_STATUS_STATE, Reg.POSE_EVENT_STATE_CHG, Reg.REC_EVENT_FULL, Reg.PMC_OVF_LO_OVF, Reg.PMC_OVF_HI_OVF, Reg.PMC_LO_COUNT 0, Reg.PMC_HI_COUNT 0], [.free, .tb, .gn, .po]⟩) 0x5c8000036000200000000108000000000000000000000000000000000000000000000000000000000000000000000069e0801802000000000000084000000140400)).only ?_⟩
  have hm : sub 0x5c8000036000200000000108000000000000000000000000000000000000000000000000000000000000000000000069e0801802000000000000084000000140400 0x5c8000036000200000000108000000000000000000000000000000000000000000000000000000000000000000000069e0801802000000000000084000000140400 := Nat.and_self _
  have hz := Within.refl 0x5c8000036000200000000108000000000000000000000000000000000000000000000000000000000000000000000069e0801802000000000000084000000140400 s
  repeat' with_reducible (first | assumption | intro _ | exact partOk_refl _ _ _ | apply State.whenUp_touch | apply State.measurementEpoch_touch | apply within_ite | apply within_ite_fst | split | (dsimp only; split) | apply within_mk)
  all_goals exact sub_le (by decide) hm

theorem execBankFault_only (b : Nat) (s : State) : ∃ u, execBankFault b s = .next u ∧ (effect (.bankFault b)).Only s u := by
  refine ⟨_, rfl, ((bounds_of (by decide +kernel) : Bounds (Effect.recorded.and ⟨[Reg.CW_IRQ_CPL 0, Reg.CW_STR_WR_INDEX 0 0, Reg.CW_STR_DROP_DROP_N 0 0, Reg.BB_STATUS_BB_PRESENT, Reg.BANK_STAT_FENCED, Reg.GCH_STATE_STATE 0, Reg.GCH_EVENT_ACQ_FAIL 0, Reg.GCH_CARR_NCO_INC 0, Reg.GCH_CODE_NCO_INC 0, Reg.GCH_MP_MP_CORR 0], [.tb, .gn]⟩) 0x6c0000036118200000000108000000000000000000000000000000000000000000000000000000000000000000000009e0000000000000000000104000000140400)).only ?_⟩
  have hm : sub 0x6c0000036118200000000108000000000000000000000000000000000000000000000000000000000000000000000009e0000000000000000000104000000140400 0x6c0000036118200000000108000000000000000000000000000000000000000000000000000000000000000000000009e0000000000000000000104000000140400 := Nat.and_self _
  have hz := Within.refl 0x6c0000036118200000000108000000000000000000000000000000000000000000000000000000000000000000000009e0000000000000000000104000000140400 s
  repeat' with_reducible (first | assumption | intro _ | exact partOk_refl _ _ _ | apply State.whenUp_touch | apply State.bankFault_touch | apply within_ite | apply within_ite_fst | split | (dsimp only; split) | apply within_mk)
  all_goals exact sub_le (by decide) hm

theorem execCodeDataAccess_only (port : Nat) (write : Option Word) (s : State) : ∃ u, execCodeDataAccess port write s = .next u ∧ (effect (.codeDataAccess port write)).Only s u := ⟨_, rfl, State.hostAccess_only _ _ _ _⟩

theorem execAidDataAccess_only (port : Nat) (write : Option Word) (s : State) : ∃ u, execAidDataAccess port write s = .next u ∧ (effect (.aidDataAccess port write)).Only s u := ⟨_, rfl, State.hostAccess_only _ _ _ _⟩

theorem execGnssRetainedSave_only (s : State) : ∃ u, execGnssRetainedSave s = .next u ∧ (effect (.gnssRetainedSave)).Only s u := by
  refine ⟨_, rfl, ((bounds_of (by decide +kernel) : Bounds (⟨[], [.gn]⟩) 0x8000000000000000000000000000000000000000000000000000000000000000000000000000000000000000000000000000000000000000000000000000000000)).only ?_⟩
  have hm : sub 0x8000000000000000000000000000000000000000000000000000000000000000000000000000000000000000000000000000000000000000000000000000000000 0x8000000000000000000000000000000000000000000000000000000000000000000000000000000000000000000000000000000000000000000000000000000000 := Nat.and_self _
  have hz := Within.refl 0x8000000000000000000000000000000000000000000000000000000000000000000000000000000000000000000000000000000000000000000000000000000000 s
  repeat' with_reducible (first | assumption | intro _ | exact partOk_refl _ _ _ | apply State.whenUp_touch | apply State.gnssSave_touch | apply within_ite | apply within_ite_fst | split | (dsimp only; split) | apply within_mk)
  all_goals exact sub_le (by decide) hm

theorem execPoseEpoch_only (s : State) : ∃ u, execPoseEpoch s = .next u ∧ (effect (.poseEpoch)).Only s u := by
  refine ⟨_, rfl, ((bounds_of (by decide +kernel) : Bounds (Effect.recorded.and ⟨[Reg.CW_IRQ_CPL 0, Reg.CW_STR_WR_INDEX 0 0, Reg.CW_STR_DROP_DROP_N 0 0, Reg.POSE_STATUS_STATE, Reg.POSE_EVENT_STATE_CHG, Reg.POSE_REC_WORD 0, Reg.SL_STATE_STATE 0, Reg.SL_RAMP_R 0], [.free, .po, .mp, .lg, .lp, .pw]⟩) 0x209f0800003611820000000010800000000000000000000000000009000000000000000000000000000000400000000006000000000000000000000000000000140400)).only ?_⟩
  have hm : sub 0x209f0800003611820000000010800000000000000000000000000009000000000000000000000000000000400000000006000000000000000000000000000000140400 0x209f0800003611820000000010800000000000000000000000000009000000000000000000000000000000400000000006000000000000000000000000000000140400 := Nat.and_self _
  have hz := Within.refl 0x209f0800003611820000000010800000000000000000000000000009000000000000000000000000000000400000000006000000000000000000000000000000140400 s
  repeat' with_reducible (first | assumption | intro _ | exact partOk_refl _ _ _ | apply State.epochRow_touch | apply within_ite | apply within_ite_fst | split | (dsimp only; split) | apply within_mk)
  all_goals exact sub_le (by decide) hm

theorem execPoseEnWrite_only (port : Nat) (value : Word) (s : State) : ∃ u, execPoseEnWrite port value s = .next u ∧ (effect (.poseEnWrite port value)).Only s u := ⟨_, rfl, State.hostWrite_only _ _ _ _⟩

theorem execFixGo_only (port : Nat) (value : Word) (s : State) : ∃ u, execFixGo port value s = .next u ∧ (effect (.fixGo port value)).Only s u := ⟨_, rfl, State.hostWrite_only _ _ _ _⟩

theorem execFixLost_only (s : State) : ∃ u, execFixLost s = .next u ∧ (effect (.fixLost)).Only s u := by
  refine ⟨_, rfl, ((bounds_of (by decide +kernel) : Bounds (Effect.raised.and ⟨[Reg.POSE_EVENT_STATE_CHG], []⟩) 0x40000000000000000000010800000000000000000000000000000000000000000000000000000000000000000000004000000000000000000000000000000000000)).only ?_⟩
  have hm : sub 0x40000000000000000000010800000000000000000000000000000000000000000000000000000000000000000000004000000000000000000000000000000000000 0x40000000000000000000010800000000000000000000000000000000000000000000000000000000000000000000004000000000000000000000000000000000000 := Nat.and_self _
  have hz := Within.refl 0x40000000000000000000010800000000000000000000000000000000000000000000000000000000000000000000004000000000000000000000000000000000000 s
  repeat' with_reducible (first | assumption | intro _ | exact partOk_refl _ _ _ | apply State.whenUp_touch | apply State.fixLost_touch | apply within_ite | apply within_ite_fst | split | (dsimp only; split) | apply within_mk)
  all_goals exact sub_le (by decide) hm

theorem execImuMaxExpiry_only (s : State) : ∃ u, execImuMaxExpiry s = .next u ∧ (effect (.imuMaxExpiry)).Only s u := by
  refine ⟨_, rfl, ((bounds_of (by decide +kernel) : Bounds (Effect.recorded.and ⟨[Reg.POSE_STATUS_STATE, Reg.POSE_EVENT_STATE_CHG], [.po]⟩) 0x70000003611820000000010800000000000000000000000000000000000000000000000000000000000000000000006000000000000000000000000000000000000)).only ?_⟩
  have hm : sub 0x70000003611820000000010800000000000000000000000000000000000000000000000000000000000000000000006000000000000000000000000000000000000 0x70000003611820000000010800000000000000000000000000000000000000000000000000000000000000000000006000000000000000000000000000000000000 := Nat.and_self _
  have hz := Within.refl 0x70000003611820000000010800000000000000000000000000000000000000000000000000000000000000000000006000000000000000000000000000000000000 s
  repeat' with_reducible (first | assumption | intro _ | exact partOk_refl _ _ _ | apply State.whenUp_touch | apply State.imuMaxExpiry_touch | apply within_ite | apply within_ite_fst | split | (dsimp only; split) | apply within_mk)
  all_goals exact sub_le (by decide) hm

theorem execImuTransfer_only (m : Nat) (ready : Bool) (bytes : List Byte) (trigger : Time) (s : State) : ∃ u, execImuTransfer m ready bytes trigger s = .next u ∧ (effect (.imuTransfer m ready bytes trigger)).Only s u := by
  refine ⟨_, rfl, ((bounds_of (by decide +kernel) : Bounds (⟨[Reg.POSE_STATUS_STATE], [.po]⟩) 0x10000000000000000000000000000000000000000000000000000000000000000000000000000000000000000000002000000000000000000000000000000000000)).only ?_⟩
  have hm : sub 0x10000000000000000000000000000000000000000000000000000000000000000000000000000000000000000000002000000000000000000000000000000000000 0x10000000000000000000000000000000000000000000000000000000000000000000000000000000000000000000002000000000000000000000000000000000000 := Nat.and_self _
  have hz := Within.refl 0x10000000000000000000000000000000000000000000000000000000000000000000000000000000000000000000002000000000000000000000000000000000000 s
  repeat' with_reducible (first | assumption | intro _ | exact partOk_refl _ _ _ | apply State.inRangeUp_touch | apply State.imuTransfer_touch | apply State.ready_touch | apply within_ite | apply within_ite_fst | split | (dsimp only; split) | apply within_mk)
  all_goals exact sub_le (by decide) hm

theorem execImuDisagree_only (s : State) : ∃ u, execImuDisagree s = .next u ∧ (effect (.imuDisagree)).Only s u := by
  refine ⟨_, rfl, ((bounds_of (by decide +kernel) : Bounds (Effect.raised.and ⟨[Reg.POSE_EVENT_STATE_CHG], []⟩) 0x40000000000000000000010800000000000000000000000000000000000000000000000000000000000000000000004000000000000000000000000000000000000)).only ?_⟩
  have hm : sub 0x40000000000000000000010800000000000000000000000000000000000000000000000000000000000000000000004000000000000000000000000000000000000 0x40000000000000000000010800000000000000000000000000000000000000000000000000000000000000000000004000000000000000000000000000000000000 := Nat.and_self _
  have hz := Within.refl 0x40000000000000000000010800000000000000000000000000000000000000000000000000000000000000000000004000000000000000000000000000000000000 s
  repeat' with_reducible (first | assumption | intro _ | exact partOk_refl _ _ _ | apply State.whenUp_touch | apply State.imuDisagree_touch | apply within_ite | apply within_ite_fst | split | (dsimp only; split) | apply within_mk)
  all_goals exact sub_le (by decide) hm

theorem execSpeedTimeout_only (s : State) : ∃ u, execSpeedTimeout s = .next u ∧ (effect (.speedTimeout)).Only s u := by
  refine ⟨_, rfl, ((bounds_of (by decide +kernel) : Bounds (⟨[Reg.POSE_STATUS_STATE], [.po]⟩) 0x10000000000000000000000000000000000000000000000000000000000000000000000000000000000000000000002000000000000000000000000000000000000)).only ?_⟩
  have hm : sub 0x10000000000000000000000000000000000000000000000000000000000000000000000000000000000000000000002000000000000000000000000000000000000 0x10000000000000000000000000000000000000000000000000000000000000000000000000000000000000000000002000000000000000000000000000000000000 := Nat.and_self _
  have hz := Within.refl 0x10000000000000000000000000000000000000000000000000000000000000000000000000000000000000000000002000000000000000000000000000000000000 s
  repeat' with_reducible (first | assumption | intro _ | exact partOk_refl _ _ _ | apply State.whenUp_touch | apply State.speedTimeout_touch | apply within_ite | apply within_ite_fst | split | (dsimp only; split) | apply within_mk)
  all_goals exact sub_le (by decide) hm

theorem execSegHostUncWrite_only (port k : Nat) (value : Word) (s : State) : ∃ u, execSegHostUncWrite port k value s = .next u ∧ (effect (.segHostUncWrite port k value)).Only s u := ⟨_, rfl, State.inRangeUp_only _ _ _ _ (State.hostWrite_only _ _ _ _)⟩

theorem execDeflHoldExpiry_only (k : Nat) (s : State) : ∃ u, execDeflHoldExpiry k s = .next u ∧ (effect (.deflHoldExpiry k)).Only s u := by
  refine ⟨_, rfl, ((bounds_of (by decide +kernel) : Bounds (⟨[], [.po]⟩) 0x10000000000000000000000000000000000000000000000000000000000000000000000000000000000000000000000000000000000000000000000000000000000)).only ?_⟩
  have hm : sub 0x10000000000000000000000000000000000000000000000000000000000000000000000000000000000000000000000000000000000000000000000000000000000 0x10000000000000000000000000000000000000000000000000000000000000000000000000000000000000000000000000000000000000000000000000000000000 := Nat.and_self _
  have hz := Within.refl 0x10000000000000000000000000000000000000000000000000000000000000000000000000000000000000000000000000000000000000000000000000000000000 s
  repeat' with_reducible (first | assumption | intro _ | exact partOk_refl _ _ _ | apply State.inRangeUp_touch | apply State.deflExpiry_touch | apply within_ite | apply within_ite_fst | split | (dsimp only; split) | apply within_mk)
  all_goals exact sub_le (by decide) hm

theorem execTileLoad_only (port k : Nat) (s : State) : ∃ u, execTileLoad port k s = .next u ∧ (effect (.tileLoad port k)).Only s u := ⟨_, rfl, State.inRangeUp_only _ _ _ _ (State.hostField_only _ _ _ _ _ _)⟩

theorem execTileFillDone_only (k : Nat) (s : State) : ∃ u, execTileFillDone k s = .next u ∧ (effect (.tileFillDone k)).Only s u := by
  refine ⟨_, rfl, ((bounds_of (by decide +kernel) : Bounds (Effect.raised.and ⟨[Reg.MAP_EVENT_TILE_MISS, Reg.TILE_CTRL_STATE 0], [.mp]⟩) 0xc0000000000000000000010800000000000000000000000000000000000000000000000000000000000000000000000000000000000000200008000000000000000)).only ?_⟩
  have hm : sub 0xc0000000000000000000010800000000000000000000000000000000000000000000000000000000000000000000000000000000000000200008000000000000000 0xc0000000000000000000010800000000000000000000000000000000000000000000000000000000000000000000000000000000000000200008000000000000000 := Nat.and_self _
  have hz := Within.refl 0xc0000000000000000000010800000000000000000000000000000000000000000000000000000000000000000000000000000000000000200008000000000000000 s
  repeat' with_reducible (first | assumption | intro _ | exact partOk_refl _ _ _ | apply State.inRangeUp_touch | apply State.tileFillDone_touch | apply within_ite | apply within_ite_fst | split | (dsimp only; split) | apply within_mk)
  all_goals exact sub_le (by decide) hm

theorem execTileCommit_only (port k : Nat) (s : State) : ∃ u, execTileCommit port k s = .next u ∧ (effect (.tileCommit port k)).Only s u := ⟨_, rfl, State.inRangeUp_only _ _ _ _ (State.hostField_only _ _ _ _ _ _)⟩

theorem execTileEvict_only (port k : Nat) (force : Bool) (s : State) : ∃ u, execTileEvict port k force s = .next u ∧ (effect (.tileEvict port k force)).Only s u := ⟨_, rfl, State.inRangeUp_only _ _ _ _ (State.hostField_only _ _ _ _ _ _)⟩

theorem execTileSwapMergeDone_only (k : Nat) (s : State) : ∃ u, execTileSwapMergeDone k s = .next u ∧ (effect (.tileSwapMergeDone k)).Only s u := by
  refine ⟨_, rfl, ((bounds_of (by decide +kernel) : Bounds (⟨[Reg.TILE_CTRL_STATE 0, Reg.TILE_DIRTY_BAND 0], [.mp]⟩) 0x80000000000000000000000000000000000000000000000000000000000000000000000000000000000000000000000000000000000000600000000000000000000)).only ?_⟩
  have hm : sub 0x80000000000000000000000000000000000000000000000000000000000000000000000000000000000000000000000000000000000000600000000000000000000 0x80000000000000000000000000000000000000000000000000000000000000000000000000000000000000000000000000000000000000600000000000000000000 := Nat.and_self _
  have hz := Within.refl 0x80000000000000000000000000000000000000000000000000000000000000000000000000000000000000000000000000000000000000600000000000000000000 s
  repeat' with_reducible (first | assumption | intro _ | exact partOk_refl _ _ _ | apply State.inRangeUp_touch | apply State.mergeDone_touch | apply within_ite | apply within_ite_fst | split | (dsimp only; split) | apply within_mk)
  all_goals exact sub_le (by decide) hm

theorem execTileApertureWrite_only (port offset : Nat) (bytes : List Byte) (s : State) : ∃ u, execTileApertureWrite port offset bytes s = .next u ∧ (effect (.tileApertureWrite port offset bytes)).Only s u := by
  refine ⟨_, rfl, ((bounds_of (by decide +kernel) : Bounds (Effect.raised.and ⟨[Reg.MAP_EVENT_TILE_MISS, Reg.HP_STATUS_LINK_UP], [.answer, .mp]⟩) 0xc1000000000000000000010800010000000000000000000000000000000000000000000000000000000000000000000000000000000000000008000000000000000)).only ?_⟩
  have hm : sub 0xc1000000000000000000010800010000000000000000000000000000000000000000000000000000000000000000000000000000000000000008000000000000000 0xc1000000000000000000010800010000000000000000000000000000000000000000000000000000000000000000000000000000000000000008000000000000000 := Nat.and_self _
  have hz := Within.refl 0xc1000000000000000000010800010000000000000000000000000000000000000000000000000000000000000000000000000000000000000008000000000000000 s
  repeat' with_reducible (first | assumption | intro _ | exact partOk_refl _ _ _ | apply State.hostTile_touch | apply within_ite | apply within_ite_fst | split | (dsimp only; split) | apply within_mk)
  all_goals exact sub_le (by decide) hm

theorem execTileDirtyRead_only (port k : Nat) (s : State) : ∃ u, execTileDirtyRead port k s = .next u ∧ (effect (.tileDirtyRead port k)).Only s u := ⟨_, rfl, State.inRangeUp_only _ _ _ _ (State.hostRead_only _ _ _)⟩

theorem execRateTableCommit_only (port : Nat) (value : Word) (s : State) : ∃ u, execRateTableCommit port value s = .next u ∧ (effect (.rateTableCommit port value)).Only s u := ⟨_, rfl, State.hostWrite_only _ _ _ _⟩

theorem execPainterRun_only (s : State) : ∃ u, execPainterRun s = .next u ∧ (effect (.painterRun)).Only s u := by
  refine ⟨_, rfl, ((bounds_of (by decide +kernel) : Bounds (Effect.raised.and ⟨[Reg.MAP_EVENT_TILE_MISS, Reg.MAP_COUNT_A_PAINT_LOST, Reg.MAP_COUNT_B_PAINT_UNSURE, Reg.SEC_STATE_SECS 0, Reg.TILE_DIRTY_BAND 0, Reg.OT_STATE_OWNER 0, Reg.REC_EVENT_FULL, Reg.PMC_OVF_LO_OVF, Reg.PMC_OVF_HI_OVF, Reg.PMC_LO_COUNT 0, Reg.PMC_HI_COUNT 0], [.mp, .pw]⟩) 0x200c0000003600020000000010800000000000000000000000000000000000000000000000000000004000000000000000000000000000000420068000000000000000)).only ?_⟩
  have hm : sub 0x200c0000003600020000000010800000000000000000000000000000000000000000000000000000004000000000000000000000000000000420068000000000000000 0x200c0000003600020000000010800000000000000000000000000000000000000000000000000000004000000000000000000000000000000420068000000000000000 := Nat.and_self _
  have hz := Within.refl 0x200c0000003600020000000010800000000000000000000000000000000000000000000000000000004000000000000000000000000000000420068000000000000000 s
  repeat' with_reducible (first | assumption | intro _ | exact partOk_refl _ _ _ | apply State.painterRow_touch | apply within_ite | apply within_ite_fst | split | (dsimp only; split) | apply within_mk)
  all_goals exact sub_le (by decide) hm

theorem execPathCommit_only (port : Nat) (value : Word) (s : State) : ∃ u, execPathCommit port value s = .next u ∧ (effect (.pathCommit port value)).Only s u := ⟨_, rfl, State.hostWrite_only _ _ _ _⟩

theorem execCommitPass_only (s : State) : ∃ u, execCommitPass s = .next u ∧ (effect (.commitPass)).Only s u := by
  refine ⟨_, rfl, ((bounds_of (by decide +kernel) : Bounds (Effect.raised.and ⟨[Reg.CW_IRQ_CPL 0, Reg.CW_STR_WR_INDEX 0 0, Reg.CW_STR_DROP_DROP_N 0 0, Reg.LG_EVENT_FULL, Reg.LG_CNT_A_FORCED_N, Reg.LG_CNT_C_LATE_N, Reg.VCH_STATE_STATE 0, Reg.REC_EVENT_FULL, Reg.PMC_OVF_LO_OVF, Reg.PMC_OVF_HI_OVF, Reg.PMC_LO_COUNT 0, Reg.PMC_HI_COUNT 0], [.free, .lg, .vd, .rs]⟩) 0x103408000036000200000000108000000000000000000000000000000000000000000000040000000000000000000000000000000000000b0000000000000000140400)).only ?_⟩
  have hm : sub 0x103408000036000200000000108000000000000000000000000000000000000000000000040000000000000000000000000000000000000b0000000000000000140400 0x103408000036000200000000108000000000000000000000000000000000000000000000040000000000000000000000000000000000000b0000000000000000140400 := Nat.and_self _
  have hz := Within.refl 0x103408000036000200000000108000000000000000000000000000000000000000000000040000000000000000000000000000000000000b0000000000000000140400 s
  repeat' with_reducible (first | assumption | intro _ | exact partOk_refl _ _ _ | apply State.whenUp_touch | apply State.commitPass_touch | apply within_ite | apply within_ite_fst | split | (dsimp only; split) | apply within_mk)
  all_goals exact sub_le (by decide) hm

theorem execPrefluxStart_only (entry : Nat) (s : State) : ∃ u, execPrefluxStart entry s = .next u ∧ (effect (.prefluxStart entry)).Only s u := by
  refine ⟨_, rfl, ((bounds_of (by decide +kernel) : Bounds (⟨[Reg.VCH_STATE_STATE 0], [.lg, .vd]⟩) 0x300000000000000000000000000000000000000000000000000000000000000000000004000000000000000000000000000000000000000000000000000000000000)).only ?_⟩
  have hm : sub 0x300000000000000000000000000000000000000000000000000000000000000000000004000000000000000000000000000000000000000000000000000000000000 0x300000000000000000000000000000000000000000000000000000000000000000000004000000000000000000000000000000000000000000000000000000000000 := Nat.and_self _
  have hz := Within.refl 0x300000000000000000000000000000000000000000000000000000000000000000000004000000000000000000000000000000000000000000000000000000000000 s
  repeat' with_reducible (first | assumption | intro _ | exact partOk_refl _ _ _ | apply State.whenUp_touch | apply State.preflux_touch | apply within_ite | apply within_ite_fst | split | (dsimp only; split) | apply within_mk)
  all_goals exact sub_le (by decide) hm

theorem execEventFire_only (entry : Nat) (s : State) : ∃ u, execEventFire entry s = .next u ∧ (effect (.eventFire entry)).Only s u := by
  refine ⟨_, rfl, ((bounds_of (by decide +kernel) : Bounds (Effect.recorded.and ⟨[Reg.CW_IRQ_CPL 0, Reg.CW_STR_WR_INDEX 0 0, Reg.CW_STR_DROP_DROP_N 0 0, Reg.MAP_EVENT_TILE_MISS, Reg.MAP_COUNT_A_PAINT_LOST, Reg.MAP_COUNT_B_PAINT_UNSURE, Reg.TILE_DIRTY_BAND 0, Reg.LG_EVENT_FULL, Reg.LG_CNT_C_LATE_N, Reg.LJ_OPEN_JIT 0, Reg.LJ_CLOSE_JIT 0, Reg.OT_LRN_OPEN_LRN 0, Reg.OT_LRN_CLOSE_LRN 0, Reg.OT_STATE_OWNER 0, Reg.VCH_STATE_STATE 0, Reg.VCH_SEAL_CODE 0, Reg.VCH_CNT_UNSEATED_N 0, Reg.PWM_CTRL_LEDGER 0, Reg.PWM_ACT_DUTY_DUTY 0, Reg.AUXPWM_CTRL_LEDGER 0, Reg.AUXPWM_ACT_DUTY_DUTY 0, Reg.LK_STATUS_STATE 0, Reg.LK_EVENT_NODE_ADDED 0, Reg.LK_HOLD_LO_HOLD 0, Reg.LK_HOLD_HI_HOLD 0, Reg.ND_STATE_STATE 0 0, Reg.ND_CNT_LATE_N 0 0, Reg.LS_DUTY_DUTY 0, Reg.LS_STATE_OUT_ON 0, Reg.FO_DUTY_DUTY 0], [.free, .mp, .lg, .vd, .lk, .lp, .ls, .fd, .rs]⟩) 0x13fe08000036118200000000108000000000000000400000600000000000004011990a1a04000000004600000000000000000000001800090400068000000000140400)).only ?_⟩
  have hm : sub 0x13fe08000036118200000000108000000000000000400000600000000000004011990a1a04000000004600000000000000000000001800090400068000000000140400 0x13fe08000036118200000000108000000000000000400000600000000000004011990a1a04000000004600000000000000000000001800090400068000000000140400 := Nat.and_self _
  have hz := Within.refl 0x13fe08000036118200000000108000000000000000400000600000000000004011990a1a04000000004600000000000000000000001800090400068000000000140400 s
  repeat' with_reducible (first | assumption | intro _ | exact partOk_refl _ _ _ | apply State.whenUp_touch | apply State.fire_touch | apply within_ite | apply within_ite_fst | split | (dsimp only; split) | apply within_mk)
  all_goals exact sub_le (by decide) hm

theorem execValveSeal_only (n : Nat) (samples : List Sample) (s : State) : ∃ u, execValveSeal n samples s = .next u ∧ (effect (.valveSeal n samples)).Only s u := by
  refine ⟨_, rfl, ((bounds_of (by decide +kernel) : Bounds (Effect.raised.and ⟨[Reg.CW_IRQ_CPL 0, Reg.CW_STR_WR_INDEX 0 0, Reg.CW_STR_DROP_DROP_N 0 0, Reg.MAP_EVENT_TILE_MISS, Reg.MAP_COUNT_A_PAINT_LOST, Reg.MAP_COUNT_B_PAINT_UNSURE, Reg.TILE_DIRTY_BAND 0, Reg.LJ_OPEN_JIT 0, Reg.LJ_CLOSE_JIT 0, Reg.OT_LRN_OPEN_LRN 0, Reg.OT_LRN_CLOSE_LRN 0, Reg.OT_STATE_OWNER 0, Reg.VCH_SEAL_CODE 0, Reg.VCH_KPEAK_PEAK 0, Reg.VCH_CNT_UNSEATED_N 0, Reg.REC_EVENT_FULL, Reg.MU_WRITTEN_WRITTEN, Reg.MU_SKIP_SKIP_N, Reg.PMC_OVF_LO_OVF, Reg.PMC_OVF_HI_OVF, Reg.PMC_LO_COUNT 0, Reg.PMC_HI_COUNT 0], [.free, .rc, .mp, .lg, .vd]⟩) 0x3e0800003611020000000010800000000000000000000000000000000000000000000e00000000004600000000000000000000001800000400068000000000140400)).only ?_⟩
  have hm : sub 0x3e0800003611020000000010800000000000000000000000000000000000000000000e00000000004600000000000000000000001800000400068000000000140400 0x3e0800003611020000000010800000000000000000000000000000000000000000000e00000000004600000000000000000000001800000400068000000000140400 := Nat.and_self _
  have hz := Within.refl 0x3e0800003611020000000010800000000000000000000000000000000000000000000e00000000004600000000000000000000001800000400068000000000140400 s
  repeat' with_reducible (first | assumption | intro _ | exact partOk_refl _ _ _ | apply State.inRangeUp_touch | apply State.valveSeal_touch | apply within_ite | apply within_ite_fst | split | (dsimp only; split) | apply within_mk)
  all_goals exact sub_le (by decide) hm

theorem execPhaseEnd_only (n : Nat) (peak now : Int) (s : State) : ∃ u, execPhaseEnd n peak now s = .next u ∧ (effect (.phaseEnd n peak now)).Only s u := by
  refine ⟨_, rfl, ((bounds_of (by decide +kernel) : Bounds (Effect.raised.and ⟨[Reg.VD_EVENT_CH_FAULT, Reg.VCH_STATE_STATE 0, Reg.VCH_FAULT_OPEN_COIL 0], [.vd]⟩) 0x24000000000000000000001080000000000000000000000000000000000000000000000c000000200000000000000000000000000000000000000000000000000000)).only ?_⟩
  have hm : sub 0x24000000000000000000001080000000000000000000000000000000000000000000000c000000200000000000000000000000000000000000000000000000000000 0x24000000000000000000001080000000000000000000000000000000000000000000000c000000200000000000000000000000000000000000000000000000000000 := Nat.and_self _
  have hz := Within.refl 0x24000000000000000000001080000000000000000000000000000000000000000000000c000000200000000000000000000000000000000000000000000000000000 s
  repeat' with_reducible (first | assumption | intro _ | exact partOk_refl _ _ _ | apply State.inRangeUp_touch | apply State.phaseEnd_touch | apply within_ite | apply within_ite_fst | split | (dsimp only; split) | apply within_mk)
  all_goals exact sub_le (by decide) hm

theorem execOverCurrent_only (n : Nat) (s : State) : ∃ u, execOverCurrent n s = .next u ∧ (effect (.overCurrent n)).Only s u := by
  refine ⟨_, rfl, ((bounds_of (by decide +kernel) : Bounds (Effect.raised.and ⟨[Reg.VD_EVENT_CH_FAULT, Reg.VCH_STATE_STATE 0, Reg.VCH_FAULT_OPEN_COIL 0], [.vd]⟩) 0x24000000000000000000001080000000000000000000000000000000000000000000000c000000200000000000000000000000000000000000000000000000000000)).only ?_⟩
  have hm : sub 0x24000000000000000000001080000000000000000000000000000000000000000000000c000000200000000000000000000000000000000000000000000000000000 0x24000000000000000000001080000000000000000000000000000000000000000000000c000000200000000000000000000000000000000000000000000000000000 := Nat.and_self _
  have hz := Within.refl 0x24000000000000000000001080000000000000000000000000000000000000000000000c000000200000000000000000000000000000000000000000000000000000 s
  repeat' with_reducible (first | assumption | intro _ | exact partOk_refl _ _ _ | apply State.inRangeUp_touch | apply State.overCurrent_touch | apply within_ite | apply within_ite_fst | split | (dsimp only; split) | apply within_mk)
  all_goals exact sub_le (by decide) hm

theorem execModOffEdge_only (n : Nat) (s : State) : ∃ u, execModOffEdge n s = .next u ∧ (effect (.modOffEdge n)).Only s u := by
  refine ⟨_, rfl, ((bounds_of (by decide +kernel) : Bounds (⟨[Reg.VCH_STATE_STATE 0], [.vd]⟩) 0x200000000000000000000000000000000000000000000000000000000000000000000004000000000000000000000000000000000000000000000000000000000000)).only ?_⟩
  have hm : sub 0x200000000000000000000000000000000000000000000000000000000000000000000004000000000000000000000000000000000000000000000000000000000000 0x200000000000000000000000000000000000000000000000000000000000000000000004000000000000000000000000000000000000000000000000000000000000 := Nat.and_self _
  have hz := Within.refl 0x200000000000000000000000000000000000000000000000000000000000000000000004000000000000000000000000000000000000000000000000000000000000 s
  repeat' with_reducible (first | assumption | intro _ | exact partOk_refl _ _ _ | apply State.inRangeUp_touch | apply State.modOff_touch | apply within_ite | apply within_ite_fst | split | (dsimp only; split) | apply within_mk)
  all_goals exact sub_le (by decide) hm

theorem execModOnEdge_only (n : Nat) (s : State) : ∃ u, execModOnEdge n s = .next u ∧ (effect (.modOnEdge n)).Only s u := by
  refine ⟨_, rfl, ((bounds_of (by decide +kernel) : Bounds (⟨[Reg.VCH_STATE_STATE 0], [.vd]⟩) 0x200000000000000000000000000000000000000000000000000000000000000000000004000000000000000000000000000000000000000000000000000000000000)).only ?_⟩
  have hm : sub 0x200000000000000000000000000000000000000000000000000000000000000000000004000000000000000000000000000000000000000000000000000000000000 0x200000000000000000000000000000000000000000000000000000000000000000000004000000000000000000000000000000000000000000000000000000000000 := Nat.and_self _
  have hz := Within.refl 0x200000000000000000000000000000000000000000000000000000000000000000000004000000000000000000000000000000000000000000000000000000000000 s
  repeat' with_reducible (first | assumption | intro _ | exact partOk_refl _ _ _ | apply State.inRangeUp_touch | apply State.modOn_touch | apply within_ite | apply within_ite_fst | split | (dsimp only; split) | apply within_mk)
  all_goals exact sub_le (by decide) hm

theorem execSenseContinuityTest_only (n : Nat) (mv : Int) (s : State) : ∃ u, execSenseContinuityTest n mv s = .next u ∧ (effect (.senseContinuityTest n mv)).Only s u := by
  refine ⟨_, rfl, ((bounds_of (by decide +kernel) : Bounds (Effect.raised.and ⟨[Reg.OT_LRN_OPEN_LRN 0, Reg.OT_LRN_CLOSE_LRN 0, Reg.VD_EVENT_CH_FAULT, Reg.VCH_STATE_STATE 0], [.vd]⟩) 0x240000000000000000000010800000000000000000000000000000000000000000000004000000200600000000000000000000000000000000000000000000000000)).only ?_⟩
  have hm : sub 0x240000000000000000000010800000000000000000000000000000000000000000000004000000200600000000000000000000000000000000000000000000000000 0x240000000000000000000010800000000000000000000000000000000000000000000004000000200600000000000000000000000000000000000000000000000000 := Nat.and_self _
  have hz := Within.refl 0x240000000000000000000010800000000000000000000000000000000000000000000004000000200600000000000000000000000000000000000000000000000000 s
  repeat' with_reducible (first | assumption | intro _ | exact partOk_refl _ _ _ | apply State.inRangeUp_touch | apply State.senseTest_touch | apply within_ite | apply within_ite_fst | split | (dsimp only; split) | apply within_mk)
  all_goals exact sub_le (by decide) hm

theorem execDutyWindowUpdate_only (n : Nat) (samples : List Int) (mv : Int) (s : State) : ∃ u, execDutyWindowUpdate n samples mv s = .next u ∧ (effect (.dutyWindowUpdate n samples mv)).Only s u := by
  refine ⟨_, rfl, ((bounds_of (by decide +kernel) : Bounds (Effect.raised.and ⟨[Reg.VD_EVENT_CH_FAULT, Reg.VCH_STATE_STATE 0, Reg.VCH_FAULT_OPEN_COIL 0, Reg.VCH_IMEAS_I 0, Reg.VCH_VMEAS_V 0, Reg.VCH_HEAT_RATIO 0, Reg.SL_STATE_STATE 0, Reg.SL_RAMP_R 0], [.vd, .lp]⟩) 0xa400000000000000000000108000000000000000000000000000090000000000000000ec000000200000000000000000000000000000000000000000000000000000)).only ?_⟩
  have hm : sub 0xa400000000000000000000108000000000000000000000000000090000000000000000ec000000200000000000000000000000000000000000000000000000000000 0xa400000000000000000000108000000000000000000000000000090000000000000000ec000000200000000000000000000000000000000000000000000000000000 := Nat.and_self _
  have hz := Within.refl 0xa400000000000000000000108000000000000000000000000000090000000000000000ec000000200000000000000000000000000000000000000000000000000000 s
  repeat' with_reducible (first | assumption | intro _ | exact partOk_refl _ _ _ | apply State.inRangeUp_touch | apply State.dutyWindow_touch | apply State.newSample_touch | apply within_ite | apply within_ite_fst | split | (dsimp only; split) | apply within_mk)
  all_goals exact sub_le (by decide) hm

theorem execChUnlatch_only (port n : Nat) (s : State) : ∃ u, execChUnlatch port n s = .next u ∧ (effect (.chUnlatch port n)).Only s u := ⟨_, rfl, State.inRangeUp_only _ _ _ _ (State.hostWrite_only _ _ _ _)⟩

theorem execGateCompMeasure_only (die lambda : Nat) (s : State) : ∃ u, execGateCompMeasure die lambda s = .next u ∧ (effect (.gateCompMeasure die lambda)).Only s u := by
  refine ⟨_, rfl, ((bounds_of (by decide +kernel) : Bounds (⟨[Reg.VD_GATECOMP_LAT_A], []⟩) 0x400000000000000000000000000000000000000000000000000000)).only ?_⟩
  have hm : sub 0x400000000000000000000000000000000000000000000000000000 0x400000000000000000000000000000000000000000000000000000 := Nat.and_self _
  have hz := Within.refl 0x400000000000000000000000000000000000000000000000000000 s
  repeat' with_reducible (first | assumption | intro _ | exact partOk_refl _ _ _ | apply State.inRangeUp_touch | apply State.gateComp_touch | apply within_ite | apply within_ite_fst | split | (dsimp only; split) | apply within_mk)
  all_goals exact sub_le (by decide) hm

theorem execBstSetWrite_only (port b : Nat) (value : Word) (meas : Nat) (s : State) : ∃ u, execBstSetWrite port b value meas s = .next u ∧ (effect (.bstSetWrite port b value meas)).Only s u := ⟨_, rfl, State.inRangeUp_only _ _ _ _ (State.write_after s _ _ _ _ (bounds_of (m := 0x80000000000000000000000000000000000000000000000000000000) (by decide +kernel)) (fun m hm => State.railMeasured_touch s _ _ hm (Within.refl m s)))⟩

theorem execBstEnWrite_only (port b : Nat) (value : Word) (meas : Nat) (s : State) : ∃ u, execBstEnWrite port b value meas s = .next u ∧ (effect (.bstEnWrite port b value meas)).Only s u := ⟨_, rfl, State.inRangeUp_only _ _ _ _ (State.write_after s _ _ _ _ (bounds_of (m := 0x80000000000000000000000000000000000000000000000000000000) (by decide +kernel)) (fun m hm => State.railMeasured_touch s _ _ hm (Within.refl m s)))⟩

theorem execBoostRefStep_only (b meas : Nat) (s : State) : ∃ u, execBoostRefStep b meas s = .next u ∧ (effect (.boostRefStep b meas)).Only s u := by
  refine ⟨_, rfl, ((bounds_of (by decide +kernel) : Bounds (⟨[Reg.BST_REF_REF 0, Reg.BST_MEAS_MEAS 0, Reg.BST_STAT_BST_OFF 0, Reg.SL_STATE_STATE 0, Reg.SL_RAMP_R 0], [.lp]⟩) 0x8000000000000000000000000000000000000000000000000000090000000000000000000001c0000000000000000000000000000000000000000000000000000000)).only ?_⟩
  have hm : sub 0x8000000000000000000000000000000000000000000000000000090000000000000000000001c0000000000000000000000000000000000000000000000000000000 0x8000000000000000000000000000000000000000000000000000090000000000000000000001c0000000000000000000000000000000000000000000000000000000 := Nat.and_self _
  have hz := Within.refl 0x8000000000000000000000000000000000000000000000000000090000000000000000000001c0000000000000000000000000000000000000000000000000000000 s
  repeat' with_reducible (first | assumption | intro _ | exact partOk_refl _ _ _ | apply State.inRangeUp_touch | apply State.bstStep_touch | apply State.newSample_touch | apply within_ite | apply within_ite_fst | split | (dsimp only; split) | apply within_mk)
  all_goals exact sub_le (by decide) hm

theorem execBstOv_only (b : Nat) (s : State) : ∃ u, execBstOv b s = .next u ∧ (effect (.bstOv b)).Only s u := by
  refine ⟨_, rfl, ((bounds_of (by decide +kernel) : Bounds (Effect.raised.and ⟨[Reg.VD_EVENT_CH_FAULT, Reg.BST_STAT_BST_OFF 0], []⟩) 0x40000000000000000000010800000000000000000000000000000000000000000000000000100200000000000000000000000000000000000000000000000000000)).only ?_⟩
  have hm : sub 0x40000000000000000000010800000000000000000000000000000000000000000000000000100200000000000000000000000000000000000000000000000000000 0x40000000000000000000010800000000000000000000000000000000000000000000000000100200000000000000000000000000000000000000000000000000000 := Nat.and_self _
  have hz := Within.refl 0x40000000000000000000010800000000000000000000000000000000000000000000000000100200000000000000000000000000000000000000000000000000000 s
  repeat' with_reducible (first | assumption | intro _ | exact partOk_refl _ _ _ | apply State.inRangeUp_touch | apply State.bstOv_touch | apply within_ite | apply within_ite_fst | split | (dsimp only; split) | apply within_mk)
  all_goals exact sub_le (by decide) hm

theorem execBstLow_only (b : Nat) (s : State) : ∃ u, execBstLow b s = .next u ∧ (effect (.bstLow b)).Only s u := by
  refine ⟨_, rfl, ((bounds_of (by decide +kernel) : Bounds (Effect.raised.and ⟨[Reg.VD_EVENT_CH_FAULT, Reg.BST_STAT_BST_OFF 0], []⟩) 0x40000000000000000000010800000000000000000000000000000000000000000000000000100200000000000000000000000000000000000000000000000000000)).only ?_⟩
  have hm : sub 0x40000000000000000000010800000000000000000000000000000000000000000000000000100200000000000000000000000000000000000000000000000000000 0x40000000000000000000010800000000000000000000000000000000000000000000000000100200000000000000000000000000000000000000000000000000000 := Nat.and_self _
  have hz := Within.refl 0x40000000000000000000010800000000000000000000000000000000000000000000000000100200000000000000000000000000000000000000000000000000000 s
  repeat' with_reducible (first | assumption | intro _ | exact partOk_refl _ _ _ | apply State.inRangeUp_touch | apply State.bstLow_touch | apply within_ite | apply within_ite_fst | split | (dsimp only; split) | apply within_mk)
  all_goals exact sub_le (by decide) hm

theorem execLoadall_only (port k : Nat) (value : Word) (s : State) : ∃ u, execLoadall port k value s = .next u ∧ (effect (.loadall port k value)).Only s u := ⟨_, rfl, State.inRangeUp_only _ _ _ _ (State.hostWrite_only _ _ _ _)⟩

theorem execLoadallAux_only (port : Nat) (value : Word) (s : State) : ∃ u, execLoadallAux port value s = .next u ∧ (effect (.loadallAux port value)).Only s u := ⟨_, rfl, State.hostWrite_only _ _ _ _⟩

theorem execTripAssert_only (t held : Nat) (s : State) : ∃ u, execTripAssert t held s = .next u ∧ (effect (.tripAssert t held)).Only s u := by
  refine ⟨_, rfl, ((bounds_of (by decide +kernel) : Bounds (Effect.raised.and ⟨[Reg.VD_EVENT_CH_FAULT, Reg.TRIP_CFG_EN 0, Reg.VCH_STATE_STATE 0, Reg.VCH_FAULT_OPEN_COIL 0], [.vd]⟩) 0x24000000000000000000001080000000000000000000000000000000000000000000000c000200200000000000000000000000000000000000000000000000000000)).only ?_⟩
  have hm : sub 0x24000000000000000000001080000000000000000000000000000000000000000000000c000200200000000000000000000000000000000000000000000000000000 0x24000000000000000000001080000000000000000000000000000000000000000000000c000200200000000000000000000000000000000000000000000000000000 := Nat.and_self _
  have hz := Within.refl 0x24000000000000000000001080000000000000000000000000000000000000000000000c000200200000000000000000000000000000000000000000000000000000 s
  repeat' with_reducible (first | assumption | intro _ | exact partOk_refl _ _ _ | apply State.inRangeUp_touch | apply State.tripAssert_touch | apply within_ite | apply within_ite_fst | split | (dsimp only; split) | apply within_mk)
  all_goals exact sub_le (by decide) hm

theorem execTripDeassert_only (t : Nat) (s : State) : ∃ u, execTripDeassert t s = .next u ∧ (effect (.tripDeassert t)).Only s u := by
  refine ⟨_, rfl, ((bounds_of (by decide +kernel) : Bounds (⟨[], [.vd]⟩) 0x200000000000000000000000000000000000000000000000000000000000000000000000000000000000000000000000000000000000000000000000000000000000)).only ?_⟩
  have hm : sub 0x200000000000000000000000000000000000000000000000000000000000000000000000000000000000000000000000000000000000000000000000000000000000 0x200000000000000000000000000000000000000000000000000000000000000000000000000000000000000000000000000000000000000000000000000000000000 := Nat.and_self _
  have hz := Within.refl 0x200000000000000000000000000000000000000000000000000000000000000000000000000000000000000000000000000000000000000000000000000000000000 s
  repeat' with_reducible (first | assumption | intro _ | exact partOk_refl _ _ _ | apply State.inRangeUp_touch | apply State.tripDeassert_touch | apply within_ite | apply within_ite_fst | split | (dsimp only; split) | apply within_mk)
  all_goals exact sub_le (by decide) hm

theorem execTripClear_only (port t : Nat) (s : State) : ∃ u, execTripClear port t s = .next u ∧ (effect (.tripClear port t)).Only s u := ⟨_, rfl, State.inRangeUp_only _ _ _ _ (State.hostField_only _ _ _ _ _ _)⟩

theorem execStopNLow_only (s : State) : ∃ u, execStopNLow s = .next u ∧ (effect (.stopNLow)).Only s u := by
  refine ⟨_, rfl, ((bounds_of (by decide +kernel) : Bounds (Effect.recorded.and ⟨[Reg.CW_IRQ_CPL 0, Reg.CW_STR_WR_INDEX 0 0, Reg.CW_STR_DROP_DROP_N 0 0, Reg.MAP_EVENT_TILE_MISS, Reg.MAP_COUNT_A_PAINT_LOST, Reg.MAP_COUNT_B_PAINT_UNSURE, Reg.TILE_DIRTY_BAND 0, Reg.LG_EVENT_FULL, Reg.VCH_STATE_STATE 0, Reg.LK_HOLD_LO_HOLD 0, Reg.LK_HOLD_HI_HOLD 0, Reg.LP_EVENT_SLOT_FLAG, Reg.HOUT_VALUE 0, Reg.SL_STATE_STATE 0, Reg.SL_FLAGS_SAT_ACC 0, Reg.SL_SETP_S 0, Reg.SL_RAMP_R 0, Reg.SL_OUT_VALUE 0 0, Reg.LS_STATUS_SW_LINK, Reg.LS_SET_ON 0, Reg.LS_DUTY_DUTY 0, Reg.LS_STATE_OUT_ON 0, Reg.FIO_STATUS_BAR_OK, Reg.FO_SET_ON 0, Reg.FO_DUTY_DUTY 0, Reg.RES_STATE_STATE], [.free, .mp, .lg, .vd, .lk, .lp, .ls, .fd, .bp, .rs]⟩) 0x17fe080000361182000000003080000000000000005000406820008f400002000180000004000000000000000000000000000000000000010400068000000000140400)).only ?_⟩
  have hm : sub 0x17fe080000361182000000003080000000000000005000406820008f400002000180000004000000000000000000000000000000000000010400068000000000140400 0x17fe080000361182000000003080000000000000005000406820008f400002000180000004000000000000000000000000000000000000010400068000000000140400 := Nat.and_self _
  have hz := Within.refl 0x17fe080000361182000000003080000000000000005000406820008f400002000180000004000000000000000000000000000000000000010400068000000000140400 s
  repeat' with_reducible (first | assumption | intro _ | exact partOk_refl _ _ _ | apply State.stopPin_touch | apply within_ite | apply within_ite_fst | split | (dsimp only; split) | apply within_mk)
  all_goals exact sub_le (by decide) hm

theorem execStopNHigh_only (s : State) : ∃ u, execStopNHigh s = .next u ∧ (effect (.stopNHigh)).Only s u := by
  refine ⟨_, rfl, ((bounds_of (by decide +kernel) : Bounds (Effect.recorded.and ⟨[Reg.MAP_EVENT_TILE_MISS, Reg.MAP_COUNT_A_PAINT_LOST, Reg.MAP_COUNT_B_PAINT_UNSURE, Reg.TILE_DIRTY_BAND 0, Reg.VCH_STATE_STATE 0, Reg.SL_STATE_STATE 0, Reg.SL_RAMP_R 0, Reg.LS_STATUS_SW_LINK, Reg.LS_STATE_OUT_ON 0, Reg.FIO_STATUS_BAR_OK, Reg.FO_SET_ON 0, Reg.RES_STATE_STATE, Reg.RES_EVENT_TAKEOVER], [.free, .mp, .lg, .vd, .lk, .lp, .ls, .fd, .rs]⟩) 0x13fe0800003611820000000070800000000000000010004040200009000000000000000004000000000000000000000000000000000000000400068000000000000000)).only ?_⟩
  have hm : sub 0x13fe0800003611820000000070800000000000000010004040200009000000000000000004000000000000000000000000000000000000000400068000000000000000 0x13fe0800003611820000000070800000000000000010004040200009000000000000000004000000000000000000000000000000000000000400068000000000000000 := Nat.and_self _
  have hz := Within.refl 0x13fe0800003611820000000070800000000000000010004040200009000000000000000004000000000000000000000000000000000000000400068000000000000000 s
  repeat' with_reducible (first | assumption | intro _ | exact partOk_refl _ _ _ | apply State.stopPinHigh_touch | apply within_ite | apply within_ite_fst | split | (dsimp only; split) | apply within_mk)
  all_goals exact sub_le (by decide) hm

theorem execDebugHalt_only (s : State) : ∃ u, execDebugHalt s = .next u ∧ (effect (.debugHalt)).Only s u := by
  refine ⟨_, rfl, ((bounds_of (by decide +kernel) : Bounds (Effect.raised.and ⟨[Reg.VD_STATUS_DIEA_LINK, Reg.VCH_STATE_STATE 0, Reg.LP_STATUS_RUNNING, Reg.LP_EVENT_SLOT_FLAG, Reg.HOUT_VALUE 0, Reg.SL_STATE_STATE 0, Reg.SL_FLAGS_SAT_ACC 0, Reg.SL_SETP_S 0, Reg.SL_RAMP_R 0, Reg.SL_OUT_VALUE 0 0, Reg.LS_DUTY_DUTY 0, Reg.FO_DUTY_DUTY 0], [.vd, .lp, .ls, .bp]⟩) 0x5a4000000000000000000001080000000000000004000002000008f400003000000000004000000100000000000000000000000000000000000000000000000000000)).only ?_⟩
  have hm : sub 0x5a4000000000000000000001080000000000000004000002000008f400003000000000004000000100000000000000000000000000000000000000000000000000000 0x5a4000000000000000000001080000000000000004000002000008f400003000000000004000000100000000000000000000000000000000000000000000000000000 := Nat.and_self _
  have hz := Within.refl 0x5a4000000000000000000001080000000000000004000002000008f400003000000000004000000100000000000000000000000000000000000000000000000000000 s
  repeat' with_reducible (first | assumption | intro _ | exact partOk_refl _ _ _ | apply State.whenUp_touch | apply State.debugHalt_touch | apply within_ite | apply within_ite_fst | split | (dsimp only; split) | apply within_mk)
  all_goals exact sub_le (by decide) hm

theorem execDebugResume_only (s : State) : ∃ u, execDebugResume s = .next u ∧ (effect (.debugResume)).Only s u := by
  refine ⟨_, rfl, ((bounds_of (by decide +kernel) : Bounds (⟨[Reg.VD_STATUS_DIEA_LINK, Reg.VCH_STATE_STATE 0, Reg.PWM_CTRL_LEDGER 0, Reg.PWM_ACT_DUTY_DUTY 0, Reg.AUXPWM_CTRL_LEDGER 0, Reg.AUXPWM_ACT_DUTY_DUTY 0, Reg.LP_STATUS_RUNNING, Reg.SL_STATE_STATE 0, Reg.SL_RAMP_R 0, Reg.LS_DUTY_DUTY 0, Reg.FO_DUTY_DUTY 0], [.lg, .vd, .lp, .ls]⟩) 0x1b000000000000000000000000000000000000000400000200000090000010000010a1004000000100000000000000000000000000000000000000000000000000000)).only ?_⟩
  have hm : sub 0x1b000000000000000000000000000000000000000400000200000090000010000010a1004000000100000000000000000000000000000000000000000000000000000 0x1b000000000000000000000000000000000000000400000200000090000010000010a1004000000100000000000000000000000000000000000000000000000000000 := Nat.and_self _
  have hz := Within.refl 0x1b000000000000000000000000000000000000000400000200000090000010000010a1004000000100000000000000000000000000000000000000000000000000000 s
  repeat' with_reducible (first | assumption | intro _ | exact partOk_refl _ _ _ | apply State.whenUp_touch | apply State.debugResume_touch | apply within_ite | apply within_ite_fst | split | (dsimp only; split) | apply within_mk)
  all_goals exact sub_le (by decide) hm

theorem execExtest_only (s : State) : ∃ u, execExtest s = .next u ∧ (effect (.extest)).Only s u := by
  refine ⟨_, rfl, ((bounds_of (by decide +kernel) : Bounds (Effect.recorded.and ⟨[Reg.CW_IRQ_CPL 0, Reg.CW_STR_WR_INDEX 0 0, Reg.CW_STR_DROP_DROP_N 0 0, Reg.MAP_EVENT_TILE_MISS, Reg.MAP_COUNT_A_PAINT_LOST, Reg.MAP_COUNT_B_PAINT_UNSURE, Reg.TILE_DIRTY_BAND 0, Reg.LG_EVENT_FULL, Reg.VCH_STATE_STATE 0, Reg.LK_HOLD_LO_HOLD 0, Reg.LK_HOLD_HI_HOLD 0, Reg.LP_EVENT_SLOT_FLAG, Reg.HOUT_VALUE 0, Reg.SL_STATE_STATE 0, Reg.SL_FLAGS_SAT_ACC 0, Reg.SL_SETP_S 0, Reg.SL_RAMP_R 0, Reg.SL_OUT_VALUE 0 0, Reg.LS_SET_ON 0, Reg.LS_DUTY_DUTY 0, Reg.LS_STATE_OUT_ON 0, Reg.FIO_STATUS_BAR_OK, Reg.FO_SET_ON 0, Reg.FO_DUTY_DUTY 0, Reg.RES_STATE_STATE], [.free, .mp, .lg, .vd, .lk, .lp, .ls, .fd, .bp, .rs]⟩) 0x17fe080000361182000000003080000000000000005000406800008f400002000180000004000000000000000000000000000000000000010400068000000000140400)).only ?_⟩
  have hm : sub 0x17fe080000361182000000003080000000000000005000406800008f400002000180000004000000000000000000000000000000000000010400068000000000140400 0x17fe080000361182000000003080000000000000005000406800008f400002000180000004000000000000000000000000000000000000010400068000000000140400 := Nat.and_self _
  have hz := Within.refl 0x17fe080000361182000000003080000000000000005000406800008f400002000180000004000000000000000000000000000000000000010400068000000000140400 s
  repeat' with_reducible (first | assumption | intro _ | exact partOk_refl _ _ _ | apply State.whenUp_touch | apply State.stopHalt_touch | apply within_ite | apply within_ite_fst | split | (dsimp only; split) | apply within_mk)
  all_goals exact sub_le (by decide) hm

theorem execDiePathLost_only (d _path : Nat) (s : State) : ∃ u, execDiePathLost d _path s = .next u ∧ (effect (.diePathLost d _path)).Only s u := by
  refine ⟨_, rfl, ((bounds_of (by decide +kernel) : Bounds (Effect.recorded.and ⟨[Reg.RES_STATE_STATE, Reg.RES_EVENT_TAKEOVER, Reg.RES_CNT_C_FIRE_COPY_N], []⟩) 0x60000003611820000010070800000000000000000000000000000000000000000000000000000000000000000000000000000000000000000000000000000000000)).only ?_⟩
  have hm : sub 0x60000003611820000010070800000000000000000000000000000000000000000000000000000000000000000000000000000000000000000000000000000000000 0x60000003611820000010070800000000000000000000000000000000000000000000000000000000000000000000000000000000000000000000000000000000000 := Nat.and_self _
  have hz := Within.refl 0x60000003611820000010070800000000000000000000000000000000000000000000000000000000000000000000000000000000000000000000000000000000000 s
  repeat' with_reducible (first | assumption | intro _ | exact partOk_refl _ _ _ | apply State.whenUp_touch | apply State.pathLost_touch | apply within_ite | apply within_ite_fst | split | (dsimp only; split) | apply within_mk)
  all_goals exact sub_le (by decide) hm

theorem execDieLinkLost_only (d : Nat) (s : State) : ∃ u, execDieLinkLost d s = .next u ∧ (effect (.dieLinkLost d)).Only s u := by
  refine ⟨_, rfl, ((bounds_of (by decide +kernel) : Bounds (Effect.recorded.and ⟨[Reg.VD_STATUS_DIEA_LINK, Reg.VD_EVENT_CH_FAULT, Reg.VCH_STATE_STATE 0, Reg.VCH_FAULT_OPEN_COIL 0, Reg.LS_STATUS_SW_LINK, Reg.RES_EVENT_TAKEOVER], [.vd]⟩) 0x26000000361182000000005080000000000000000000000020000000000000000000000c000000300000000000000000000000000000000000000000000000000000)).only ?_⟩
  have hm : sub 0x26000000361182000000005080000000000000000000000020000000000000000000000c000000300000000000000000000000000000000000000000000000000000 0x26000000361182000000005080000000000000000000000020000000000000000000000c000000300000000000000000000000000000000000000000000000000000 := Nat.and_self _
  have hz := Within.refl 0x26000000361182000000005080000000000000000000000020000000000000000000000c000000300000000000000000000000000000000000000000000000000000 s
  repeat' with_reducible (first | assumption | intro _ | exact partOk_refl _ _ _ | apply State.whenUp_touch | apply State.dieLost_touch | apply within_ite | apply within_ite_fst | split | (dsimp only; split) | apply within_mk)
  all_goals exact sub_le (by decide) hm

theorem execLinkCycle_only (l : Nat) (s : State) : ∃ u, execLinkCycle l s = .next u ∧ (effect (.linkCycle l)).Only s u := by
  refine ⟨_, rfl, ((bounds_of (by decide +kernel) : Bounds (Effect.raised.and ⟨[Reg.OT_STATE_OWNER 0, Reg.LK_STATUS_STATE 0, Reg.LK_EVENT_NODE_ADDED 0, Reg.LK_HOLD_LO_HOLD 0, Reg.LK_HOLD_HI_HOLD 0, Reg.LK_SAFE_LO_SAFE 0, Reg.LK_SAFE_HI_SAFE 0, Reg.LK_VALID_VALID 0, Reg.ND_STATE_STATE 0 0, Reg.ND_SEQ_TX_SEQ 0 0, Reg.REC_EVENT_FULL, Reg.PMC_OVF_LO_OVF, Reg.PMC_OVF_HI_OVF, Reg.PMC_LO_COUNT 0, Reg.PMC_HI_COUNT 0], [.lg, .lk]⟩) 0x540000003600020000000010800000000000000000000000000000000000801f98000000000000004000000000000000000000000000000000000000000000000000)).only ?_⟩
  have hm : sub 0x540000003600020000000010800000000000000000000000000000000000801f98000000000000004000000000000000000000000000000000000000000000000000 0x540000003600020000000010800000000000000000000000000000000000801f98000000000000004000000000000000000000000000000000000000000000000000 := Nat.and_self _
  have hz := Within.refl 0x540000003600020000000010800000000000000000000000000000000000801f98000000000000004000000000000000000000000000000000000000000000000000 s
  repeat' with_reducible (first | assumption | intro _ | exact partOk_refl _ _ _ | apply State.inRangeUp_touch | apply State.linkCycle_touch | apply within_ite | apply within_ite_fst | split | (dsimp only; split) | apply within_mk)
  all_goals exact sub_le (by decide) hm

theorem execEnumChainEnd_only (l : Nat) (s : State) : ∃ u, execEnumChainEnd l s = .next u ∧ (effect (.enumChainEnd l)).Only s u := by
  refine ⟨_, rfl, ((bounds_of (by decide +kernel) : Bounds (⟨[Reg.LK_STATUS_STATE 0], [.lk]⟩) 0x400000000000000000000000000000000000000000000000000000000000000008000000000000000000000000000000000000000000000000000000000000000000)).only ?_⟩
  have hm : sub 0x400000000000000000000000000000000000000000000000000000000000000008000000000000000000000000000000000000000000000000000000000000000000 0x400000000000000000000000000000000000000000000000000000000000000008000000000000000000000000000000000000000000000000000000000000000000 := Nat.and_self _
  have hz := Within.refl 0x400000000000000000000000000000000000000000000000000000000000000008000000000000000000000000000000000000000000000000000000000000000000 s
  repeat' with_reducible (first | assumption | intro _ | exact partOk_refl _ _ _ | apply State.inRangeUp_touch | apply State.chainEnd_touch | apply within_ite | apply within_ite_fst | split | (dsimp only; split) | apply within_mk)
  all_goals exact sub_le (by decide) hm

theorem execIdent_only (l p : Nat) (f : IdentIn) (w : LinkRx) (s : State) : ∃ u, execIdent l p f w s = .next u ∧ (effect (.ident l p f w)).Only s u := by
  refine ⟨_, rfl, ((bounds_of (by decide +kernel) : Bounds (Effect.raised.and ⟨[Reg.LK_STATUS_STATE 0, Reg.LK_EVENT_NODE_ADDED 0, Reg.LK_CNT_CRC_N 0, Reg.ND_STATE_STATE 0 0, Reg.ND_ID_VENDOR 0 0, Reg.ND_SERIAL_SERIAL 0 0, Reg.ND_CAPS_QDEPTH 0 0, Reg.ND_DELAY_D 0 0], [.lk]⟩) 0x44000000000000000000001080000000000000000000000000000000000001f038000000000000000000000000000000000000000000000000000000000000000000)).only ?_⟩
  have hm : sub 0x44000000000000000000001080000000000000000000000000000000000001f038000000000000000000000000000000000000000000000000000000000000000000 0x44000000000000000000001080000000000000000000000000000000000001f038000000000000000000000000000000000000000000000000000000000000000000 := Nat.and_self _
  have hz := Within.refl 0x44000000000000000000001080000000000000000000000000000000000001f038000000000000000000000000000000000000000000000000000000000000000000 s
  repeat' with_reducible (first | assumption | intro _ | exact partOk_refl _ _ _ | apply State.atNode_touch | apply State.linkRx_touch | apply State.ident_touch | apply within_ite | apply within_ite_fst | split | (dsimp only; split) | apply within_mk)
  all_goals exact sub_le (by decide) hm

theorem execPong_only (l p turn : Nat) (rx : Time) (w : LinkRx) (s : State) : ∃ u, execPong l p turn rx w s = .next u ∧ (effect (.pong l p turn rx w)).Only s u := by
  refine ⟨_, rfl, ((bounds_of (by decide +kernel) : Bounds (⟨[Reg.LK_CNT_CRC_N 0, Reg.ND_DELAY_D 0 0, Reg.ND_SPREAD_SPREAD 0 0], [.lk]⟩) 0x400000000000000000000000000000000000000000000000000000000000030020000000000000000000000000000000000000000000000000000000000000000000)).only ?_⟩
  have hm : sub 0x400000000000000000000000000000000000000000000000000000000000030020000000000000000000000000000000000000000000000000000000000000000000 0x400000000000000000000000000000000000000000000000000000000000030020000000000000000000000000000000000000000000000000000000000000000000 := Nat.and_self _
  have hz := Within.refl 0x400000000000000000000000000000000000000000000000000000000000030020000000000000000000000000000000000000000000000000000000000000000000 s
  repeat' with_reducible (first | assumption | intro _ | exact partOk_refl _ _ _ | apply State.atNode_touch | apply State.linkRx_touch | apply State.pong_touch | apply within_ite | apply within_ite_fst | split | (dsimp only; split) | apply within_mk)
  all_goals exact sub_le (by decide) hm

theorem execStatus_only (l p : Nat) (f : StatusIn) (w : LinkRx) (s : State) : ∃ u, execStatus l p f w s = .next u ∧ (effect (.status l p f w)).Only s u := by
  refine ⟨_, rfl, ((bounds_of (by decide +kernel) : Bounds (Effect.raised.and ⟨[Reg.MAP_EVENT_TILE_MISS, Reg.MAP_COUNT_A_PAINT_LOST, Reg.MAP_COUNT_B_PAINT_UNSURE, Reg.TILE_DIRTY_BAND 0, Reg.OT_STATE_OWNER 0, Reg.LK_STATUS_STATE 0, Reg.LK_EVENT_NODE_ADDED 0, Reg.LK_CNT_CRC_N 0, Reg.ND_STATE_STATE 0 0, Reg.REC_EVENT_FULL, Reg.PMC_OVF_LO_OVF, Reg.PMC_OVF_HI_OVF, Reg.PMC_LO_COUNT 0, Reg.PMC_HI_COUNT 0], [.mp, .lk]⟩) 0x4c0000003600020000000010800000000000000000000000000000000000001038000000000000004000000000000000000000000000000400068000000000000000)).only ?_⟩
  have hm : sub 0x4c0000003600020000000010800000000000000000000000000000000000001038000000000000004000000000000000000000000000000400068000000000000000 0x4c0000003600020000000010800000000000000000000000000000000000001038000000000000004000000000000000000000000000000400068000000000000000 := Nat.and_self _
  have hz := Within.refl 0x4c0000003600020000000010800000000000000000000000000000000000001038000000000000004000000000000000000000000000000400068000000000000000 s
  repeat' with_reducible (first | assumption | intro _ | exact partOk_refl _ _ _ | apply State.atNode_touch | apply State.linkRx_touch | apply State.nodeStatus_touch | apply within_ite | apply within_ite_fst | split | (dsimp only; split) | apply within_mk)
  all_goals exact sub_le (by decide) hm

theorem execAck_only (l p seq pending : Nat) (w : LinkRx) (s : State) : ∃ u, execAck l p seq pending w s = .next u ∧ (effect (.ack l p seq pending w)).Only s u := by
  refine ⟨_, rfl, ((bounds_of (by decide +kernel) : Bounds (⟨[Reg.LK_CNT_CRC_N 0, Reg.LK_HOLD_LO_HOLD 0, Reg.LK_HOLD_HI_HOLD 0, Reg.ND_SEQ_TX_SEQ 0 0], [.lg, .lk]⟩) 0x5000000000000000000000000000000000000000000000000000000000008001a0000000000000000000000000000000000000000000000000000000000000000000)).only ?_⟩
  have hm : sub 0x5000000000000000000000000000000000000000000000000000000000008001a0000000000000000000000000000000000000000000000000000000000000000000 0x5000000000000000000000000000000000000000000000000000000000008001a0000000000000000000000000000000000000000000000000000000000000000000 := Nat.and_self _
  have hz := Within.refl 0x5000000000000000000000000000000000000000000000000000000000008001a0000000000000000000000000000000000000000000000000000000000000000000 s
  repeat' with_reducible (first | assumption | intro _ | exact partOk_refl _ _ _ | apply State.atNode_touch | apply State.linkRx_touch | apply State.linkAck_touch | apply within_ite | apply within_ite_fst | split | (dsimp only; split) | apply within_mk)
  all_goals exact sub_le (by decide) hm

theorem execReject_only (l p seq reason : Nat) (w : LinkRx) (s : State) : ∃ u, execReject l p seq reason w s = .next u ∧ (effect (.reject l p seq reason w)).Only s u := by
  refine ⟨_, rfl, ((bounds_of (by decide +kernel) : Bounds (Effect.raised.and ⟨[Reg.LK_EVENT_NODE_ADDED 0, Reg.LK_CNT_CRC_N 0, Reg.LK_CNT2_RETRY_N 0], [.lg, .lk]⟩) 0x540000000000000000000010800000000000000000000000000000000000000070000000000000000000000000000000000000000000000000000000000000000000)).only ?_⟩
  have hm : sub 0x540000000000000000000010800000000000000000000000000000000000000070000000000000000000000000000000000000000000000000000000000000000000 0x540000000000000000000010800000000000000000000000000000000000000070000000000000000000000000000000000000000000000000000000000000000000 := Nat.and_self _
  have hz := Within.refl 0x540000000000000000000010800000000000000000000000000000000000000070000000000000000000000000000000000000000000000000000000000000000000 s
  repeat' with_reducible (first | assumption | intro _ | exact partOk_refl _ _ _ | apply State.atNode_touch | apply State.linkRx_touch | apply State.linkReject_touch | apply within_ite | apply within_ite_fst | split | (dsimp only; split) | apply within_mk)
  all_goals exact sub_le (by decide) hm

theorem execSealFrame_only (l p : Nat) (f : SealIn) (w : LinkRx) (s : State) : ∃ u, execSealFrame l p f w s = .next u ∧ (effect (.sealFrame l p f w)).Only s u := by
  refine ⟨_, rfl, ((bounds_of (by decide +kernel) : Bounds (Effect.raised.and ⟨[Reg.CW_IRQ_CPL 0, Reg.CW_STR_WR_INDEX 0 0, Reg.CW_STR_DROP_DROP_N 0 0, Reg.MAP_EVENT_TILE_MISS, Reg.MAP_COUNT_A_PAINT_LOST, Reg.MAP_COUNT_B_PAINT_UNSURE, Reg.TILE_DIRTY_BAND 0, Reg.LJ_OPEN_JIT 0, Reg.LJ_CLOSE_JIT 0, Reg.OT_LRN_OPEN_LRN 0, Reg.OT_LRN_CLOSE_LRN 0, Reg.OT_STATE_OWNER 0, Reg.LK_CNT_CRC_N 0, Reg.REC_EVENT_FULL, Reg.PMC_OVF_LO_OVF, Reg.PMC_OVF_HI_OVF, Reg.PMC_LO_COUNT 0, Reg.PMC_HI_COUNT 0], [.mp, .lg, .rs]⟩) 0x101c0000003600020000000010800000000000000000000000000000000000000020000000000000004600000000000000000000001800000400068000000000140400)).only ?_⟩
  have hm : sub 0x101c0000003600020000000010800000000000000000000000000000000000000020000000000000004600000000000000000000001800000400068000000000140400 0x101c0000003600020000000010800000000000000000000000000000000000000020000000000000004600000000000000000000001800000400068000000000140400 := Nat.and_self _
  have hz := Within.refl 0x101c0000003600020000000010800000000000000000000000000000000000000020000000000000004600000000000000000000001800000400068000000000140400 s
  repeat' with_reducible (first | assumption | intro _ | exact partOk_refl _ _ _ | apply State.atNode_touch | apply State.linkRx_touch | apply State.holdFrame_touch | apply State.nodeSeal_touch | apply within_ite | apply within_ite_fst | split | (dsimp only; split) | apply within_mk)
  all_goals exact sub_le (by decide) hm

theorem execDiag_only (l p out fault value : Nat) (w : LinkRx) (s : State) : ∃ u, execDiag l p out fault value w s = .next u ∧ (effect (.diag l p out fault value w)).Only s u := by
  refine ⟨_, rfl, ((bounds_of (by decide +kernel) : Bounds (Effect.raised.and ⟨[Reg.LK_CNT_CRC_N 0, Reg.ND_DIAG_OUT 0 0, Reg.ND_DIAGV_VALUE 0 0, Reg.REC_EVENT_FULL, Reg.MU_WRITTEN_WRITTEN, Reg.MU_SKIP_SKIP_N, Reg.PMC_OVF_LO_OVF, Reg.PMC_OVF_HI_OVF, Reg.PMC_LO_COUNT 0, Reg.PMC_HI_COUNT 0], [.rc, .rs]⟩) 0x10060000003611020000000010800000000000000000000000000000000000300020000000000000000000000000000000000000000000000000000000000000000000)).only ?_⟩
  have hm : sub 0x10060000003611020000000010800000000000000000000000000000000000300020000000000000000000000000000000000000000000000000000000000000000000 0x10060000003611020000000010800000000000000000000000000000000000300020000000000000000000000000000000000000000000000000000000000000000000 := Nat.and_self _
  have hz := Within.refl 0x10060000003611020000000010800000000000000000000000000000000000300020000000000000000000000000000000000000000000000000000000000000000000 s
  repeat' with_reducible (first | assumption | intro _ | exact partOk_refl _ _ _ | apply State.atNode_touch | apply State.linkRx_touch | apply State.holdFrame_touch | apply State.nodeDiag_touch | apply within_ite | apply within_ite_fst | split | (dsimp only; split) | apply within_mk)
  all_goals exact sub_le (by decide) hm

theorem execLinkRetry_only (l p : Nat) (s : State) : ∃ u, execLinkRetry l p s = .next u ∧ (effect (.linkRetry l p)).Only s u := by
  refine ⟨_, rfl, ((bounds_of (by decide +kernel) : Bounds (Effect.raised.and ⟨[Reg.LK_CNT2_RETRY_N 0, Reg.REC_EVENT_FULL, Reg.PMC_OVF_LO_OVF, Reg.PMC_OVF_HI_OVF, Reg.PMC_LO_COUNT 0, Reg.PMC_HI_COUNT 0], [.lk]⟩) 0x440000003600020000000010800000000000000000000000000000000000000040000000000000000000000000000000000000000000000000000000000000000000)).only ?_⟩
  have hm : sub 0x440000003600020000000010800000000000000000000000000000000000000040000000000000000000000000000000000000000000000000000000000000000000 0x440000003600020000000010800000000000000000000000000000000000000040000000000000000000000000000000000000000000000000000000000000000000 := Nat.and_self _
  have hz := Within.refl 0x440000003600020000000010800000000000000000000000000000000000000040000000000000000000000000000000000000000000000000000000000000000000 s
  repeat' with_reducible (first | assumption | intro _ | exact partOk_refl _ _ _ | apply State.atNode_touch | apply State.linkRetry_touch | apply within_ite | apply within_ite_fst | split | (dsimp only; split) | apply within_mk)
  all_goals exact sub_le (by decide) hm

theorem execNoReportTimeout_only (entry : Nat) (s : State) : ∃ u, execNoReportTimeout entry s = .next u ∧ (effect (.noReportTimeout entry)).Only s u := by
  refine ⟨_, rfl, ((bounds_of (by decide +kernel) : Bounds (Effect.raised.and ⟨[Reg.CW_IRQ_CPL 0, Reg.CW_STR_WR_INDEX 0 0, Reg.CW_STR_DROP_DROP_N 0 0, Reg.MAP_EVENT_TILE_MISS, Reg.MAP_COUNT_A_PAINT_LOST, Reg.MAP_COUNT_B_PAINT_UNSURE, Reg.TILE_DIRTY_BAND 0, Reg.LJ_OPEN_JIT 0, Reg.LJ_CLOSE_JIT 0, Reg.OT_LRN_OPEN_LRN 0, Reg.OT_LRN_CLOSE_LRN 0, Reg.OT_STATE_OWNER 0, Reg.ND_CNT_LATE_N 0 0, Reg.REC_EVENT_FULL, Reg.PMC_OVF_LO_OVF, Reg.PMC_OVF_HI_OVF, Reg.PMC_LO_COUNT 0, Reg.PMC_HI_COUNT 0], [.mp, .lg]⟩) 0x1c0000003600020000000010800000000000000000000000000000000000400000000000000000004600000000000000000000001800000400068000000000140400)).only ?_⟩
  have hm : sub 0x1c0000003600020000000010800000000000000000000000000000000000400000000000000000004600000000000000000000001800000400068000000000140400 0x1c0000003600020000000010800000000000000000000000000000000000400000000000000000004600000000000000000000001800000400068000000000140400 := Nat.and_self _
  have hz := Within.refl 0x1c0000003600020000000010800000000000000000000000000000000000400000000000000000004600000000000000000000001800000400068000000000140400 s
  repeat' with_reducible (first | assumption | intro _ | exact partOk_refl _ _ _ | apply State.whenUp_touch | apply State.noReport_touch | apply within_ite | apply within_ite_fst | split | (dsimp only; split) | apply within_mk)
  all_goals exact sub_le (by decide) hm

theorem execNodeLost_only (l p : Nat) (s : State) : ∃ u, execNodeLost l p s = .next u ∧ (effect (.nodeLost l p)).Only s u := by
  refine ⟨_, rfl, ((bounds_of (by decide +kernel) : Bounds (Effect.raised.and ⟨[Reg.MAP_EVENT_TILE_MISS, Reg.MAP_COUNT_A_PAINT_LOST, Reg.MAP_COUNT_B_PAINT_UNSURE, Reg.TILE_DIRTY_BAND 0, Reg.OT_STATE_OWNER 0, Reg.LK_STATUS_STATE 0, Reg.LK_EVENT_NODE_ADDED 0, Reg.ND_STATE_STATE 0 0, Reg.REC_EVENT_FULL, Reg.PMC_OVF_LO_OVF, Reg.PMC_OVF_HI_OVF, Reg.PMC_LO_COUNT 0, Reg.PMC_HI_COUNT 0], [.mp, .lk]⟩) 0x4c0000003600020000000010800000000000000000000000000000000000001018000000000000004000000000000000000000000000000400068000000000000000)).only ?_⟩
  have hm : sub 0x4c0000003600020000000010800000000000000000000000000000000000001018000000000000004000000000000000000000000000000400068000000000000000 0x4c0000003600020000000010800000000000000000000000000000000000001018000000000000004000000000000000000000000000000400068000000000000000 := Nat.and_self _
  have hz := Within.refl 0x4c0000003600020000000010800000000000000000000000000000000000001018000000000000004000000000000000000000000000000400068000000000000000 s
  repeat' with_reducible (first | assumption | intro _ | exact partOk_refl _ _ _ | apply State.atNode_touch | apply State.nodeLost_touch | apply within_ite | apply within_ite_fst | split | (dsimp only; split) | apply within_mk)
  all_goals exact sub_le (by decide) hm

theorem execNdAccept_only (port l p : Nat) (s : State) : ∃ u, execNdAccept port l p s = .next u ∧ (effect (.ndAccept port l p)).Only s u := ⟨_, rfl, State.atPosition_only _ _ _ _ (State.hostWrite_only _ _ _ _)⟩

theorem execNdRemove_only (port l p : Nat) (s : State) : ∃ u, execNdRemove port l p s = .next u ∧ (effect (.ndRemove port l p)).Only s u := ⟨_, rfl, State.atPosition_only _ _ _ _ (State.hostWrite_only _ _ _ _)⟩

theorem execNdReset_only (port l p : Nat) (s : State) : ∃ u, execNdReset port l p s = .next u ∧ (effect (.ndReset port l p)).Only s u := ⟨_, rfl, State.atPosition_only _ _ _ _ (State.hostWrite_only _ _ _ _)⟩

theorem execNdResync_only (port l p : Nat) (s : State) : ∃ u, execNdResync port l p s = .next u ∧ (effect (.ndResync port l p)).Only s u := ⟨_, rfl, State.atPosition_only _ _ _ _ (State.hostWrite_only _ _ _ _)⟩

theorem execSlotRun_only (k : Nat) (trigger : Time) (s : State) : ∃ u, execSlotRun k trigger s = .next u ∧ (effect (.slotRun k trigger)).Only s u := by
  refine ⟨_, rfl, ((bounds_of (by decide +kernel) : Bounds (Effect.raised.and ⟨[Reg.LP_EVENT_SLOT_FLAG, Reg.TB_COMMIT_COMMIT, Reg.TG_CTRL_SLOT 0, Reg.CP_CTRL_SLOT 0, Reg.CP_COUNT_WORDS 0, Reg.CP_START_LO_T 0, Reg.CP_START_HI_T 0, Reg.HOUT_VALUE 0, Reg.SL_STATE_STATE 0, Reg.SL_FLAGS_SAT_ACC 0, Reg.SL_SETP_S 0, Reg.SL_RAMP_R 0, Reg.SL_OVR_OVR_N 0, Reg.SL_RUNS_RUNS 0, Reg.SL_LAT_LAST_LAT 0, Reg.SL_OUT_VALUE 0 0, Reg.TBL_ENTRY 0 0, Reg.DATA_D 0 0, Reg.COEF_C 0 0, Reg.LS_DUTY_DUTY 0, Reg.FO_DUTY_DUTY 0, Reg.REC_EVENT_FULL, Reg.PMC_OVF_LO_OVF, Reg.PMC_OVF_HI_OVF, Reg.PMC_LO_COUNT 0, Reg.PMC_HI_COUNT 0, Reg.SMP_COUNT_COUNT, Reg.SMP_BUF_DATA 0 0], [.free, .rc, .lp, .ls, .bp]⟩) 0x58608000336000200000000108000000000000000400000201900ff40784a000000000000000000000000000000000000000000000000000000000000000000000000)).only ?_⟩
  have hm : sub 0x58608000336000200000000108000000000000000400000201900ff40784a000000000000000000000000000000000000000000000000000000000000000000000000 0x58608000336000200000000108000000000000000400000201900ff40784a000000000000000000000000000000000000000000000000000000000000000000000000 := Nat.and_self _
  have hz := Within.refl 0x58608000336000200000000108000000000000000400000201900ff40784a000000000000000000000000000000000000000000000000000000000000000000000000 s
  repeat' with_reducible (first | assumption | intro _ | exact partOk_refl _ _ _ | apply State.inRangeUp_touch | apply State.slotRun_touch | apply within_ite | apply within_ite_fst | split | (dsimp only; split) | apply within_mk)
  all_goals exact sub_le (by decide) hm

theorem execSlEnWrite_only (port k : Nat) (value : Word) (s : State) : ∃ u, execSlEnWrite port k value s = .next u ∧ (effect (.slEnWrite port k value)).Only s u := ⟨_, rfl, State.inRangeUp_only _ _ _ _ (State.hostWrite_only _ _ _ _)⟩

theorem execCoefCommit_only (port k : Nat) (s : State) : ∃ u, execCoefCommit port k s = .next u ∧ (effect (.coefCommit port k)).Only s u := ⟨_, rfl, State.inRangeUp_only _ _ _ _ (State.hostField_only _ _ _ _ _ _)⟩

theorem execClrState_only (port k : Nat) (s : State) : ∃ u, execClrState port k s = .next u ∧ (effect (.clrState port k)).Only s u := ⟨_, rfl, State.inRangeUp_only _ _ _ _ (State.hostField_only _ _ _ _ _ _)⟩

theorem execTbCommit_only (port : Nat) (value : Word) (s : State) : ∃ u, execTbCommit port value s = .next u ∧ (effect (.tbCommit port value)).Only s u := ⟨_, rfl, State.hostWrite_only _ _ _ _⟩

theorem execInputTimeout_only (k p : Nat) (s : State) : ∃ u, execInputTimeout k p s = .next u ∧ (effect (.inputTimeout k p)).Only s u := by
  refine ⟨_, rfl, ((bounds_of (by decide +kernel) : Bounds (Effect.raised.and ⟨[Reg.LP_EVENT_SLOT_FLAG, Reg.HOUT_VALUE 0, Reg.SL_STATE_STATE 0, Reg.SL_FLAGS_SAT_ACC 0, Reg.SL_SETP_S 0, Reg.SL_RAMP_R 0, Reg.SL_OUT_VALUE 0 0, Reg.LS_DUTY_DUTY 0, Reg.FO_DUTY_DUTY 0], [.lp, .ls, .bp]⟩) 0x584000000000000000000001080000000000000004000002000008f400002000000000000000000000000000000000000000000000000000000000000000000000000)).only ?_⟩
  have hm : sub 0x584000000000000000000001080000000000000004000002000008f400002000000000000000000000000000000000000000000000000000000000000000000000000 0x584000000000000000000001080000000000000004000002000008f400002000000000000000000000000000000000000000000000000000000000000000000000000 := Nat.and_self _
  have hz := Within.refl 0x584000000000000000000001080000000000000004000002000008f400002000000000000000000000000000000000000000000000000000000000000000000000000 s
  repeat' with_reducible (first | assumption | intro _ | exact partOk_refl _ _ _ | apply State.inRangeUp_touch | apply State.inputTimeout_touch | apply within_ite | apply within_ite_fst | split | (dsimp only; split) | apply within_mk)
  all_goals exact sub_le (by decide) hm

theorem execTestGenRun_only (port c : Nat) (value : Word) (s : State) : ∃ u, execTestGenRun port c value s = .next u ∧ (effect (.testGenRun port c value)).Only s u := ⟨_, rfl, State.inRangeUp_only _ _ _ _ (State.hostWrite_only _ _ _ _)⟩

theorem execCaptureArm_only (port c : Nat) (value : Word) (s : State) : ∃ u, execCaptureArm port c value s = .next u ∧ (effect (.captureArm port c value)).Only s u := ⟨_, rfl, State.inRangeUp_only _ _ _ _ (State.hostWrite_only _ _ _ _)⟩

theorem execLsThermalShutdown_only (n : Nat) (tj : Int) (s : State) : ∃ u, execLsThermalShutdown n tj s = .next u ∧ (effect (.lsThermalShutdown n tj)).Only s u := by
  refine ⟨_, rfl, ((bounds_of (by decide +kernel) : Bounds (Effect.recorded.and ⟨[Reg.MAP_EVENT_TILE_MISS, Reg.MAP_COUNT_A_PAINT_LOST, Reg.MAP_COUNT_B_PAINT_UNSURE, Reg.TILE_DIRTY_BAND 0, Reg.LS_EVENT_TSD, Reg.LS_STATE_OUT_ON 0, Reg.LS_FAULT_TSD 0, Reg.LS_TEMP_TJ 0], [.free, .mp, .ls]⟩) 0x10e08000036118200000000108000000000000000000008c0400000000000000000000000000000000000000000000000000000000000000400068000000000000000)).only ?_⟩
  have hm : sub 0x10e08000036118200000000108000000000000000000008c0400000000000000000000000000000000000000000000000000000000000000400068000000000000000 0x10e08000036118200000000108000000000000000000008c0400000000000000000000000000000000000000000000000000000000000000400068000000000000000 := Nat.and_self _
  have hz := Within.refl 0x10e08000036118200000000108000000000000000000008c0400000000000000000000000000000000000000000000000000000000000000400068000000000000000 s
  repeat' with_reducible (first | assumption | intro _ | exact partOk_refl _ _ _ | apply State.inRangeOf_touch | apply State.lsShutdown_touch | apply within_ite | apply within_ite_fst | split | (dsimp only; split) | apply within_mk)
  all_goals exact sub_le (by decide) hm

theorem execLsUnlatch_only (port n : Nat) (tj : Int) (s : State) : ∃ u, execLsUnlatch port n tj s = .next u ∧ (effect (.lsUnlatch port n tj)).Only s u := ⟨_, rfl, State.inRangeUp_only _ _ _ _ (State.write_after s _ _ _ _ (bounds_of (m := 0x800000000000000000000000000000000000000000000000000000000000000000000000000000000000000) (by decide +kernel)) (fun m hm => State.setSfld_touch s _ _ (in_LS_TEMP_TJ (sub_bit hm (by decide)) _) (Within.refl m s)))⟩

theorem execLsUnlock_only (port n : Nat) (s : State) : ∃ u, execLsUnlock port n s = .next u ∧ (effect (.lsUnlock port n)).Only s u := ⟨_, rfl, State.inRangeUp_only _ _ _ _ (State.hostWrite_only _ _ _ _)⟩

theorem execInrushEpisode_only (n : Nat) (s : State) : ∃ u, execInrushEpisode n s = .next u ∧ (effect (.inrushEpisode n)).Only s u := by
  refine ⟨_, rfl, ((bounds_of (by decide +kernel) : Bounds (Effect.recorded.and ⟨[Reg.MAP_EVENT_TILE_MISS, Reg.MAP_COUNT_A_PAINT_LOST, Reg.MAP_COUNT_B_PAINT_UNSURE, Reg.TILE_DIRTY_BAND 0, Reg.LS_EVENT_TSD, Reg.LS_STATE_OUT_ON 0, Reg.LS_FAULT_TSD 0], [.free, .mp, .ls]⟩) 0x10e08000036118200000000108000000000000000000000c0400000000000000000000000000000000000000000000000000000000000000400068000000000000000)).only ?_⟩
  have hm : sub 0x10e08000036118200000000108000000000000000000000c0400000000000000000000000000000000000000000000000000000000000000400068000000000000000 0x10e08000036118200000000108000000000000000000000c0400000000000000000000000000000000000000000000000000000000000000400068000000000000000 := Nat.and_self _
  have hz := Within.refl 0x10e08000036118200000000108000000000000000000000c0400000000000000000000000000000000000000000000000000000000000000400068000000000000000 s
  repeat' with_reducible (first | assumption | intro _ | exact partOk_refl _ _ _ | apply State.inRangeOf_touch | apply State.inrushEpisode_touch | apply within_ite | apply within_ite_fst | split | (dsimp only; split) | apply within_mk)
  all_goals exact sub_le (by decide) hm

theorem execInrushRetry_only (n : Nat) (s : State) : ∃ u, execInrushRetry n s = .next u ∧ (effect (.inrushRetry n)).Only s u := by
  refine ⟨_, rfl, ((bounds_of (by decide +kernel) : Bounds (Effect.raised.and ⟨[Reg.MAP_EVENT_TILE_MISS, Reg.MAP_COUNT_A_PAINT_LOST, Reg.MAP_COUNT_B_PAINT_UNSURE, Reg.TILE_DIRTY_BAND 0, Reg.LS_STATE_OUT_ON 0, Reg.LS_CNT_RETRY_CNT 0, Reg.REC_EVENT_FULL, Reg.PMC_OVF_LO_OVF, Reg.PMC_OVF_HI_OVF, Reg.PMC_LO_COUNT 0, Reg.PMC_HI_COUNT 0], [.free, .mp, .ls]⟩) 0x10c0800003600020000000010800000000000000000002040000000000000000000000000000000000000000000000000000000000000000400068000000000000000)).only ?_⟩
  have hm : sub 0x10c0800003600020000000010800000000000000000002040000000000000000000000000000000000000000000000000000000000000000400068000000000000000 0x10c0800003600020000000010800000000000000000002040000000000000000000000000000000000000000000000000000000000000000400068000000000000000 := Nat.and_self _
  have hz := Within.refl 0x10c0800003600020000000010800000000000000000002040000000000000000000000000000000000000000000000000000000000000000400068000000000000000 s
  repeat' with_reducible (first | assumption | intro _ | exact partOk_refl _ _ _ | apply State.inRangeOf_touch | apply State.inrushRetry_touch | apply within_ite | apply within_ite_fst | split | (dsimp only; split) | apply within_mk)
  all_goals exact sub_le (by decide) hm

theorem execLsOpenLoad_only (n : Nat) (ma : Int) (s : State) : ∃ u, execLsOpenLoad n ma s = .next u ∧ (effect (.lsOpenLoad n ma)).Only s u := by
  refine ⟨_, rfl, ((bounds_of (by decide +kernel) : Bounds (Effect.raised.and ⟨[Reg.LS_EVENT_TSD, Reg.LS_STATE_OUT_ON 0, Reg.LS_FAULT_TSD 0, Reg.LS_IMEAS_I 0], [.free]⟩) 0x408000000000000000000108000000000000000000002c0400000000000000000000000000000000000000000000000000000000000000000000000000000000000)).only ?_⟩
  have hm : sub 0x408000000000000000000108000000000000000000002c0400000000000000000000000000000000000000000000000000000000000000000000000000000000000 0x408000000000000000000108000000000000000000002c0400000000000000000000000000000000000000000000000000000000000000000000000000000000000 := Nat.and_self _
  have hz := Within.refl 0x408000000000000000000108000000000000000000002c0400000000000000000000000000000000000000000000000000000000000000000000000000000000000 s
  repeat' with_reducible (first | assumption | intro _ | exact partOk_refl _ _ _ | apply State.inRangeOf_touch | apply State.lsOpenLoad_touch | apply within_ite | apply within_ite_fst | split | (dsimp only; split) | apply within_mk)
  all_goals exact sub_le (by decide) hm

theorem execClampEnd_only (n : Nat) (samples : List Sample) (s : State) : ∃ u, execClampEnd n samples s = .next u ∧ (effect (.clampEnd n samples)).Only s u := by
  refine ⟨_, rfl, ((bounds_of (by decide +kernel) : Bounds (Effect.recorded.and ⟨[Reg.MAP_EVENT_TILE_MISS, Reg.MAP_COUNT_A_PAINT_LOST, Reg.MAP_COUNT_B_PAINT_UNSURE, Reg.TILE_DIRTY_BAND 0, Reg.LS_EVENT_TSD, Reg.LS_STATE_OUT_ON 0, Reg.LS_FAULT_TSD 0, Reg.LS_IMEAS_I 0, Reg.LS_CLAMPE_B 0, Reg.LS_CNT_RETRY_CNT 0], [.free, .mp, .ls]⟩) 0x10e08000036118200000000108000000000000000000032c0400000000000000000000000000000000000000000000000000000000000000400068000000000000000)).only ?_⟩
  have hm : sub 0x10e08000036118200000000108000000000000000000032c0400000000000000000000000000000000000000000000000000000000000000400068000000000000000 0x10e08000036118200000000108000000000000000000032c0400000000000000000000000000000000000000000000000000000000000000400068000000000000000 := Nat.and_self _
  have hz := Within.refl 0x10e08000036118200000000108000000000000000000032c0400000000000000000000000000000000000000000000000000000000000000400068000000000000000 s
  repeat' with_reducible (first | assumption | intro _ | exact partOk_refl _ _ _ | apply State.inRangeOf_touch | apply State.clampEnd_touch | apply within_ite | apply within_ite_fst | split | (dsimp only; split) | apply within_mk)
  all_goals exact sub_le (by decide) hm

theorem execClampLeak_only (s : State) : ∃ u, execClampLeak s = .next u ∧ (effect (.clampLeak)).Only s u := by
  refine ⟨_, rfl, ((bounds_of (by decide +kernel) : Bounds (⟨[Reg.LS_CLAMPE_B 0], [.ls]⟩) 0x1000000000000000000000000000000000000000000001000000000000000000000000000000000000000000000000000000000000000000000000000000000000000)).only ?_⟩
  have hm : sub 0x1000000000000000000000000000000000000000000001000000000000000000000000000000000000000000000000000000000000000000000000000000000000000 0x1000000000000000000000000000000000000000000001000000000000000000000000000000000000000000000000000000000000000000000000000000000000000 := Nat.and_self _
  have hz := Within.refl 0x1000000000000000000000000000000000000000000001000000000000000000000000000000000000000000000000000000000000000000000000000000000000000 s
  repeat' with_reducible (first | assumption | intro _ | exact partOk_refl _ _ _ | apply State.clampLeak_touch | apply within_ite | apply within_ite_fst | split | (dsimp only; split) | apply within_mk)
  all_goals exact sub_le (by decide) hm

theorem execVbatUndervoltage_only (s : State) : ∃ u, execVbatUndervoltage s = .next u ∧ (effect (.vbatUndervoltage)).Only s u := by
  refine ⟨_, rfl, ((bounds_of (by decide +kernel) : Bounds (Effect.raised.and ⟨[Reg.MAP_EVENT_TILE_MISS, Reg.MAP_COUNT_A_PAINT_LOST, Reg.MAP_COUNT_B_PAINT_UNSURE, Reg.TILE_DIRTY_BAND 0, Reg.LS_STATUS_SW_LINK, Reg.LS_EVENT_TSD, Reg.LS_STATE_OUT_ON 0, Reg.REC_EVENT_FULL, Reg.PMC_OVF_LO_OVF, Reg.PMC_OVF_HI_OVF, Reg.PMC_LO_COUNT 0, Reg.PMC_HI_COUNT 0], [.free, .mp, .ls]⟩) 0x10c0800003600020000000010800000000000000000000040600000000000000000000000000000000000000000000000000000000000000400068000000000000000)).only ?_⟩
  have hm : sub 0x10c0800003600020000000010800000000000000000000040600000000000000000000000000000000000000000000000000000000000000400068000000000000000 0x10c0800003600020000000010800000000000000000000040600000000000000000000000000000000000000000000000000000000000000400068000000000000000 := Nat.and_self _
  have hz := Within.refl 0x10c0800003600020000000010800000000000000000000040600000000000000000000000000000000000000000000000000000000000000400068000000000000000 s
  repeat' with_reducible (first | assumption | intro _ | exact partOk_refl _ _ _ | apply State.underVoltage_touch | apply within_ite | apply within_ite_fst | split | (dsimp only; split) | apply within_mk)
  all_goals exact sub_le (by decide) hm

theorem execVbatOvervoltage_only (s : State) : ∃ u, execVbatOvervoltage s = .next u ∧ (effect (.vbatOvervoltage)).Only s u := by
  refine ⟨_, rfl, ((bounds_of (by decide +kernel) : Bounds (Effect.raised.and ⟨[Reg.MAP_EVENT_TILE_MISS, Reg.MAP_COUNT_A_PAINT_LOST, Reg.MAP_COUNT_B_PAINT_UNSURE, Reg.TILE_DIRTY_BAND 0, Reg.LS_STATUS_SW_LINK, Reg.LS_EVENT_TSD, Reg.LS_STATE_OUT_ON 0, Reg.LS_FAULT_TSD 0, Reg.REC_EVENT_FULL, Reg.PMC_OVF_LO_OVF, Reg.PMC_OVF_HI_OVF, Reg.PMC_LO_COUNT 0, Reg.PMC_HI_COUNT 0], [.free, .rc, .mp, .ls]⟩) 0x10e08000036000200000000108000000000000000000000c0600000000000000000000000000000000000000000000000000000000000000400068000000000000000)).only ?_⟩
  have hm : sub 0x10e08000036000200000000108000000000000000000000c0600000000000000000000000000000000000000000000000000000000000000400068000000000000000 0x10e08000036000200000000108000000000000000000000c0600000000000000000000000000000000000000000000000000000000000000400068000000000000000 := Nat.and_self _
  have hz := Within.refl 0x10e08000036000200000000108000000000000000000000c0600000000000000000000000000000000000000000000000000000000000000400068000000000000000 s
  repeat' with_reducible (first | assumption | intro _ | exact partOk_refl _ _ _ | apply State.overVoltage_touch | apply within_ite | apply within_ite_fst | split | (dsimp only; split) | apply within_mk)
  all_goals exact sub_le (by decide) hm

theorem execOvervoltageRecovery_only (s : State) : ∃ u, execOvervoltageRecovery s = .next u ∧ (effect (.overvoltageRecovery)).Only s u := by
  refine ⟨_, rfl, ((bounds_of (by decide +kernel) : Bounds (Effect.raised.and ⟨[Reg.MAP_EVENT_TILE_MISS, Reg.MAP_COUNT_A_PAINT_LOST, Reg.MAP_COUNT_B_PAINT_UNSURE, Reg.TILE_DIRTY_BAND 0, Reg.LS_STATUS_SW_LINK, Reg.LS_STATE_OUT_ON 0, Reg.REC_EVENT_FULL, Reg.PMC_OVF_LO_OVF, Reg.PMC_OVF_HI_OVF, Reg.PMC_LO_COUNT 0, Reg.PMC_HI_COUNT 0], [.free, .mp, .ls]⟩) 0x10c0800003600020000000010800000000000000000000040200000000000000000000000000000000000000000000000000000000000000400068000000000000000)).only ?_⟩
  have hm : sub 0x10c0800003600020000000010800000000000000000000040200000000000000000000000000000000000000000000000000000000000000400068000000000000000 0x10c0800003600020000000010800000000000000000000040200000000000000000000000000000000000000000000000000000000000000400068000000000000000 := Nat.and_self _
  have hz := Within.refl 0x10c0800003600020000000010800000000000000000000040200000000000000000000000000000000000000000000000000000000000000400068000000000000000 s
  repeat' with_reducible (first | assumption | intro _ | exact partOk_refl _ _ _ | apply State.overVoltageEnd_touch | apply within_ite | apply within_ite_fst | split | (dsimp only; split) | apply within_mk)
  all_goals exact sub_le (by decide) hm

theorem execReverseBattery_only (s : State) : ∃ u, execReverseBattery s = .next u ∧ (effect (.reverseBattery)).Only s u := by
  refine ⟨_, rfl, ((bounds_of (by decide +kernel) : Bounds (Effect.raised.and ⟨[Reg.MAP_EVENT_TILE_MISS, Reg.MAP_COUNT_A_PAINT_LOST, Reg.MAP_COUNT_B_PAINT_UNSURE, Reg.TILE_DIRTY_BAND 0, Reg.LS_EVENT_TSD, Reg.LS_STATE_OUT_ON 0, Reg.REC_EVENT_FULL, Reg.PMC_OVF_LO_OVF, Reg.PMC_OVF_HI_OVF, Reg.PMC_LO_COUNT 0, Reg.PMC_HI_COUNT 0], [.free, .rc, .mp, .ls]⟩) 0x10e0800003600020000000010800000000000000000000040400000000000000000000000000000000000000000000000000000000000000400068000000000000000)).only ?_⟩
  have hm : sub 0x10e0800003600020000000010800000000000000000000040400000000000000000000000000000000000000000000000000000000000000400068000000000000000 0x10e0800003600020000000010800000000000000000000040400000000000000000000000000000000000000000000000000000000000000400068000000000000000 := Nat.and_self _
  have hz := Within.refl 0x10e0800003600020000000010800000000000000000000040400000000000000000000000000000000000000000000000000000000000000400068000000000000000 s
  repeat' with_reducible (first | assumption | intro _ | exact partOk_refl _ _ _ | apply State.reverseBattery_touch | apply within_ite | apply within_ite_fst | split | (dsimp only; split) | apply within_mk)
  all_goals exact sub_le (by decide) hm

theorem execLossOfGround_only (s : State) : ∃ u, execLossOfGround s = .next u ∧ (effect (.lossOfGround)).Only s u := by
  refine ⟨_, rfl, ((bounds_of (by decide +kernel) : Bounds (Effect.raised.and ⟨[Reg.MAP_EVENT_TILE_MISS, Reg.MAP_COUNT_A_PAINT_LOST, Reg.MAP_COUNT_B_PAINT_UNSURE, Reg.TILE_DIRTY_BAND 0, Reg.LS_EVENT_TSD, Reg.LS_STATE_OUT_ON 0, Reg.REC_EVENT_FULL, Reg.PMC_OVF_LO_OVF, Reg.PMC_OVF_HI_OVF, Reg.PMC_LO_COUNT 0, Reg.PMC_HI_COUNT 0], [.free, .rc, .mp, .ls]⟩) 0x10e0800003600020000000010800000000000000000000040400000000000000000000000000000000000000000000000000000000000000400068000000000000000)).only ?_⟩
  have hm : sub 0x10e0800003600020000000010800000000000000000000040400000000000000000000000000000000000000000000000000000000000000400068000000000000000 0x10e0800003600020000000010800000000000000000000040400000000000000000000000000000000000000000000000000000000000000400068000000000000000 := Nat.and_self _
  have hz := Within.refl 0x10e0800003600020000000010800000000000000000000040400000000000000000000000000000000000000000000000000000000000000400068000000000000000 s
  repeat' with_reducible (first | assumption | intro _ | exact partOk_refl _ _ _ | apply State.lossOfGround_touch | apply within_ite | apply within_ite_fst | split | (dsimp only; split) | apply within_mk)
  all_goals exact sub_le (by decide) hm

theorem execSwitchCheck_only (entry : Nat) (mv ma vbat : Int) (s : State) : ∃ u, execSwitchCheck entry mv ma vbat s = .next u ∧ (effect (.switchCheck entry mv ma vbat)).Only s u := by
  refine ⟨_, rfl, ((bounds_of (by decide +kernel) : Bounds (Effect.raised.and ⟨[Reg.CW_IRQ_CPL 0, Reg.CW_STR_WR_INDEX 0 0, Reg.CW_STR_DROP_DROP_N 0 0, Reg.MAP_EVENT_TILE_MISS, Reg.MAP_COUNT_A_PAINT_LOST, Reg.MAP_COUNT_B_PAINT_UNSURE, Reg.TILE_DIRTY_BAND 0, Reg.LJ_OPEN_JIT 0, Reg.LJ_CLOSE_JIT 0, Reg.OT_LRN_OPEN_LRN 0, Reg.OT_LRN_CLOSE_LRN 0, Reg.OT_STATE_OWNER 0, Reg.LS_VBAT_VBAT, Reg.LS_STATE_OUT_ON 0, Reg.LS_FAULT_TSD 0, Reg.LS_IMEAS_I 0, Reg.LS_VOUT_V 0, Reg.REC_EVENT_FULL, Reg.PMC_OVF_LO_OVF, Reg.PMC_OVF_HI_OVF, Reg.PMC_LO_COUNT 0, Reg.PMC_HI_COUNT 0], [.free, .mp, .lg, .ls]⟩) 0x11c08000036000200000000108000000000000000000006c0800000000000000000000000000000004600000000000000000000001800000400068000000000140400)).only ?_⟩
  have hm : sub 0x11c08000036000200000000108000000000000000000006c0800000000000000000000000000000004600000000000000000000001800000400068000000000140400 0x11c08000036000200000000108000000000000000000006c0800000000000000000000000000000004600000000000000000000001800000400068000000000140400 := Nat.and_self _
  have hz := Within.refl 0x11c08000036000200000000108000000000000000000006c0800000000000000000000000000000004600000000000000000000001800000400068000000000140400 s
  repeat' with_reducible (first | assumption | intro _ | exact partOk_refl _ _ _ | apply State.whenUp_touch | apply State.switchCheck_touch | apply within_ite | apply within_ite_fst | split | (dsimp only; split) | apply within_mk)
  all_goals exact sub_le (by decide) hm

theorem execHeartbeat_only (s : State) : ∃ u, execHeartbeat s = .next u ∧ (effect (.heartbeat)).Only s u := by
  refine ⟨_, rfl, ((bounds_of (by decide +kernel) : Bounds (Effect.recorded.and ⟨[Reg.MAP_EVENT_TILE_MISS, Reg.MAP_COUNT_A_PAINT_LOST, Reg.MAP_COUNT_B_PAINT_UNSURE, Reg.TILE_DIRTY_BAND 0, Reg.LS_STATUS_SW_LINK, Reg.LS_EVENT_TSD, Reg.LS_WD_WD_TMO, Reg.LS_CFG_SOURCE 0, Reg.LS_CFG2_OL_BLANK 0, Reg.LS_STATE_OUT_ON 0], [.free, .mp, .ls]⟩) 0x10e0800003611820000000010800000000000000000000047600000000000000000000000000000000000000000000000000000000000000400068000000000000000)).only ?_⟩
  have hm : sub 0x10e0800003611820000000010800000000000000000000047600000000000000000000000000000000000000000000000000000000000000400068000000000000000 0x10e0800003611820000000010800000000000000000000047600000000000000000000000000000000000000000000000000000000000000400068000000000000000 := Nat.and_self _
  have hz := Within.refl 0x10e0800003611820000000010800000000000000000000047600000000000000000000000000000000000000000000000000000000000000400068000000000000000 s
  repeat' with_reducible (first | assumption | intro _ | exact partOk_refl _ _ _ | apply State.whenUp_touch | apply State.heartbeat_touch | apply within_ite | apply within_ite_fst | split | (dsimp only; split) | apply within_mk)
  all_goals exact sub_le (by decide) hm

theorem execWdExpiry_only (s : State) : ∃ u, execWdExpiry s = .next u ∧ (effect (.wdExpiry)).Only s u := by
  refine ⟨_, rfl, ((bounds_of (by decide +kernel) : Bounds (Effect.recorded.and ⟨[Reg.MAP_EVENT_TILE_MISS, Reg.MAP_COUNT_A_PAINT_LOST, Reg.MAP_COUNT_B_PAINT_UNSURE, Reg.TILE_DIRTY_BAND 0, Reg.LS_STATUS_SW_LINK, Reg.LS_EVENT_TSD, Reg.LS_STATE_OUT_ON 0], [.free, .mp, .ls]⟩) 0x10e0800003611820000000010800000000000000000000040600000000000000000000000000000000000000000000000000000000000000400068000000000000000)).only ?_⟩
  have hm : sub 0x10e0800003611820000000010800000000000000000000040600000000000000000000000000000000000000000000000000000000000000400068000000000000000 0x10e0800003611820000000010800000000000000000000040600000000000000000000000000000000000000000000000000000000000000400068000000000000000 := Nat.and_self _
  have hz := Within.refl 0x10e0800003611820000000010800000000000000000000040600000000000000000000000000000000000000000000000000000000000000400068000000000000000 s
  repeat' with_reducible (first | assumption | intro _ | exact partOk_refl _ _ _ | apply State.wdExpiry_touch | apply within_ite | apply within_ite_fst | split | (dsimp only; split) | apply within_mk)
  all_goals exact sub_le (by decide) hm

theorem execLimpNChange_only (low : Bool) (s : State) : ∃ u, execLimpNChange low s = .next u ∧ (effect (.limpNChange low)).Only s u := by
  refine ⟨_, rfl, ((bounds_of (by decide +kernel) : Bounds (Effect.recorded.and ⟨[Reg.MAP_EVENT_TILE_MISS, Reg.MAP_COUNT_A_PAINT_LOST, Reg.MAP_COUNT_B_PAINT_UNSURE, Reg.TILE_DIRTY_BAND 0, Reg.LS_STATUS_SW_LINK, Reg.LS_EVENT_TSD, Reg.LS_STATE_OUT_ON 0], [.free, .mp, .ls]⟩) 0x10e0800003611820000000010800000000000000000000040600000000000000000000000000000000000000000000000000000000000000400068000000000000000)).only ?_⟩
  have hm : sub 0x10e0800003611820000000010800000000000000000000040600000000000000000000000000000000000000000000000000000000000000400068000000000000000 0x10e0800003611820000000010800000000000000000000040600000000000000000000000000000000000000000000000000000000000000400068000000000000000 := Nat.and_self _
  have hz := Within.refl 0x10e0800003611820000000010800000000000000000000040600000000000000000000000000000000000000000000000000000000000000400068000000000000000 s
  repeat' with_reducible (first | assumption | intro _ | exact partOk_refl _ _ _ | apply State.limpPin_touch | apply within_ite | apply within_ite_fst | split | (dsimp only; split) | apply within_mk)
  all_goals exact sub_le (by decide) hm

theorem execLhinChange_only (pin : Nat) (level : Bool) (s : State) : ∃ u, execLhinChange pin level s = .next u ∧ (effect (.lhinChange pin level)).Only s u := by
  refine ⟨_, rfl, ((bounds_of (by decide +kernel) : Bounds (⟨[Reg.LS_STATUS_SW_LINK, Reg.LS_STATE_OUT_ON 0], [.ls]⟩) 0x1000000000000000000000000000000000000000000000040200000000000000000000000000000000000000000000000000000000000000000000000000000000000)).only ?_⟩
  have hm : sub 0x1000000000000000000000000000000000000000000000040200000000000000000000000000000000000000000000000000000000000000000000000000000000000 0x1000000000000000000000000000000000000000000000040200000000000000000000000000000000000000000000000000000000000000000000000000000000000 := Nat.and_self _
  have hz := Within.refl 0x1000000000000000000000000000000000000000000000040200000000000000000000000000000000000000000000000000000000000000000000000000000000000 s
  repeat' with_reducible (first | assumption | intro _ | exact partOk_refl _ _ _ | apply State.lhin_touch | apply within_ite | apply within_ite_fst | split | (dsimp only; split) | apply within_mk)
  all_goals exact sub_le (by decide) hm

theorem execBarrierOutboundFrame_only (ok : Bool) (s : State) : ∃ u, execBarrierOutboundFrame ok s = .next u ∧ (effect (.barrierOutboundFrame ok)).Only s u := by
  refine ⟨_, rfl, ((bounds_of (by decide +kernel) : Bounds (⟨[Reg.FIO_STATUS_BAR_OK, Reg.FIO_BAR_BAR_TMO, Reg.FIO_GRP_INTERVALS, Reg.FI_CFG_DEB 0, Reg.FO_CFG_SOURCE 0, Reg.FO_SET_ON 0], [.fd]⟩) 0x2000000000000000000000000000000000000000018894000000000000000000000000000000000000000000000000000000000000000000000000000000000000000)).only ?_⟩
  have hm : sub 0x2000000000000000000000000000000000000000018894000000000000000000000000000000000000000000000000000000000000000000000000000000000000000 0x2000000000000000000000000000000000000000018894000000000000000000000000000000000000000000000000000000000000000000000000000000000000000 := Nat.and_self _
  have hz := Within.refl 0x2000000000000000000000000000000000000000018894000000000000000000000000000000000000000000000000000000000000000000000000000000000000000 s
  repeat' with_reducible (first | assumption | intro _ | exact partOk_refl _ _ _ | apply State.outboundFrame_touch | apply within_ite | apply within_ite_fst | split | (dsimp only; split) | apply within_mk)
  all_goals exact sub_le (by decide) hm

theorem execBarrierInboundFrame_only (f : BarrierIn) (s : State) : ∃ u, execBarrierInboundFrame f s = .next u ∧ (effect (.barrierInboundFrame f)).Only s u := by
  refine ⟨_, rfl, ((bounds_of (by decide +kernel) : Bounds (Effect.raised.and ⟨[Reg.CW_IRQ_CPL 0, Reg.POSE_STATUS_STATE, Reg.PC_COUNT_COUNT 0, Reg.PC_STAT_VALID 0, Reg.SL_STATE_STATE 0, Reg.SL_RAMP_R 0, Reg.FIO_STATUS_BAR_OK, Reg.FIO_EVENT_BAR_LOST, Reg.FIO_BARCNT_CRC_N, Reg.FIO_VFIELD_V, Reg.FIO_LEVEL_LEVEL 0, Reg.FIO_COS_COS 0, Reg.FIO_OWIN_OW 0, Reg.FI_STAT_LEVEL 0, Reg.FI_STAMP_STAMP 0, Reg.FI_COUNT_COUNT 0, Reg.FO_STATE_OUT_ON 0, Reg.FO_FAULT_OVERLOAD 0, Reg.FO_IMEAS_I 0, Reg.FO_VOUT_V 0, Reg.FO_CNT_OVL_N 0], [.po, .lp, .fd, .rs]⟩) 0x12850000000000000000000010800000000000001d8776c000000009120000000000000000000000000000000000000002000000000000000000000000000000000400)).only ?_⟩
  have hm : sub 0x12850000000000000000000010800000000000001d8776c000000009120000000000000000000000000000000000000002000000000000000000000000000000000400 0x12850000000000000000000010800000000000001d8776c000000009120000000000000000000000000000000000000002000000000000000000000000000000000400 := Nat.and_self _
  have hz := Within.refl 0x12850000000000000000000010800000000000001d8776c000000009120000000000000000000000000000000000000002000000000000000000000000000000000400 s
  repeat' with_reducible (first | assumption | intro _ | exact partOk_refl _ _ _ | apply State.whenUp_touch | apply State.inboundFrame_touch | apply within_ite | apply within_ite_fst | split | (dsimp only; split) | apply within_mk)
  all_goals exact sub_le (by decide) hm

theorem execBarrierTimeout_only (s : State) : ∃ u, execBarrierTimeout s = .next u ∧ (effect (.barrierTimeout)).Only s u := by
  refine ⟨_, rfl, ((bounds_of (by decide +kernel) : Bounds (Effect.recorded.and ⟨[Reg.FIO_STATUS_BAR_OK, Reg.FIO_EVENT_BAR_LOST, Reg.FI_STAT_LEVEL 0, Reg.RES_EVENT_TAKEOVER], [.fd]⟩) 0x206000000361182000000005080000000000000000100c000000000000000000000000000000000000000000000000000000000000000000000000000000000000000)).only ?_⟩
  have hm : sub 0x206000000361182000000005080000000000000000100c000000000000000000000000000000000000000000000000000000000000000000000000000000000000000 0x206000000361182000000005080000000000000000100c000000000000000000000000000000000000000000000000000000000000000000000000000000000000000 := Nat.and_self _
  have hz := Within.refl 0x206000000361182000000005080000000000000000100c000000000000000000000000000000000000000000000000000000000000000000000000000000000000000 s
  repeat' with_reducible (first | assumption | intro _ | exact partOk_refl _ _ _ | apply State.whenUp_touch | apply State.barrierTimeout_touch | apply within_ite | apply within_ite_fst | split | (dsimp only; split) | apply within_mk)
  all_goals exact sub_le (by decide) hm

theorem execFieldSilence_only (s : State) : ∃ u, execFieldSilence s = .next u ∧ (effect (.fieldSilence)).Only s u := by
  refine ⟨_, rfl, ((bounds_of (by decide +kernel) : Bounds (⟨[Reg.FO_SET_ON 0], [.fd]⟩) 0x2000000000000000000000000000000000000000010000000000000000000000000000000000000000000000000000000000000000000000000000000000000000000)).only ?_⟩
  have hm : sub 0x2000000000000000000000000000000000000000010000000000000000000000000000000000000000000000000000000000000000000000000000000000000000000 0x2000000000000000000000000000000000000000010000000000000000000000000000000000000000000000000000000000000000000000000000000000000000000 := Nat.and_self _
  have hz := Within.refl 0x2000000000000000000000000000000000000000010000000000000000000000000000000000000000000000000000000000000000000000000000000000000000000 s
  repeat' with_reducible (first | assumption | intro _ | exact partOk_refl _ _ _ | apply State.fieldSilence_touch | apply within_ite | apply within_ite_fst | split | (dsimp only; split) | apply within_mk)
  all_goals exact sub_le (by decide) hm

theorem execInputSample_only (g : Nat) (samples : List FieldSample) (s : State) : ∃ u, execInputSample g samples s = .next u ∧ (effect (.inputSample g samples)).Only s u := by
  refine ⟨_, rfl, ((bounds_of (by decide +kernel) : Bounds (⟨[], [.fd]⟩) 0x2000000000000000000000000000000000000000000000000000000000000000000000000000000000000000000000000000000000000000000000000000000000000)).only ?_⟩
  have hm : sub 0x2000000000000000000000000000000000000000000000000000000000000000000000000000000000000000000000000000000000000000000000000000000000000 0x2000000000000000000000000000000000000000000000000000000000000000000000000000000000000000000000000000000000000000000000000000000000000 := Nat.and_self _
  have hz := Within.refl 0x2000000000000000000000000000000000000000000000000000000000000000000000000000000000000000000000000000000000000000000000000000000000000 s
  repeat' with_reducible (first | assumption | intro _ | exact partOk_refl _ _ _ | apply State.inRangeOf_touch | apply State.inputSample_touch | apply within_ite | apply within_ite_fst | split | (dsimp only; split) | apply within_mk)
  all_goals exact sub_le (by decide) hm

theorem execOutputOverload_only (m : Nat) (s : State) : ∃ u, execOutputOverload m s = .next u ∧ (effect (.outputOverload m)).Only s u := by
  refine ⟨_, rfl, ((bounds_of (by decide +kernel) : Bounds (⟨[], [.fd]⟩) 0x2000000000000000000000000000000000000000000000000000000000000000000000000000000000000000000000000000000000000000000000000000000000000)).only ?_⟩
  have hm : sub 0x2000000000000000000000000000000000000000000000000000000000000000000000000000000000000000000000000000000000000000000000000000000000000 0x2000000000000000000000000000000000000000000000000000000000000000000000000000000000000000000000000000000000000000000000000000000000000 := Nat.and_self _
  have hz := Within.refl 0x2000000000000000000000000000000000000000000000000000000000000000000000000000000000000000000000000000000000000000000000000000000000000 s
  repeat' with_reducible (first | assumption | intro _ | exact partOk_refl _ _ _ | apply State.inRangeOf_touch | apply State.overload_touch | apply within_ite | apply within_ite_fst | split | (dsimp only; split) | apply within_mk)
  all_goals exact sub_le (by decide) hm

theorem execOutputOverloadRestart_only (m : Nat) (s : State) : ∃ u, execOutputOverloadRestart m s = .next u ∧ (effect (.outputOverloadRestart m)).Only s u := by
  refine ⟨_, rfl, ((bounds_of (by decide +kernel) : Bounds (⟨[], [.fd]⟩) 0x2000000000000000000000000000000000000000000000000000000000000000000000000000000000000000000000000000000000000000000000000000000000000)).only ?_⟩
  have hm : sub 0x2000000000000000000000000000000000000000000000000000000000000000000000000000000000000000000000000000000000000000000000000000000000000 0x2000000000000000000000000000000000000000000000000000000000000000000000000000000000000000000000000000000000000000000000000000000000000 := Nat.and_self _
  have hz := Within.refl 0x2000000000000000000000000000000000000000000000000000000000000000000000000000000000000000000000000000000000000000000000000000000000000 s
  repeat' with_reducible (first | assumption | intro _ | exact partOk_refl _ _ _ | apply State.inRangeOf_touch | apply State.overloadRestart_touch | apply within_ite | apply within_ite_fst | split | (dsimp only; split) | apply within_mk)
  all_goals exact sub_le (by decide) hm

theorem execOutputOvertemp_only (m : Nat) (s : State) : ∃ u, execOutputOvertemp m s = .next u ∧ (effect (.outputOvertemp m)).Only s u := by
  refine ⟨_, rfl, ((bounds_of (by decide +kernel) : Bounds (⟨[], [.fd]⟩) 0x2000000000000000000000000000000000000000000000000000000000000000000000000000000000000000000000000000000000000000000000000000000000000)).only ?_⟩
  have hm : sub 0x2000000000000000000000000000000000000000000000000000000000000000000000000000000000000000000000000000000000000000000000000000000000000 0x2000000000000000000000000000000000000000000000000000000000000000000000000000000000000000000000000000000000000000000000000000000000000 := Nat.and_self _
  have hz := Within.refl 0x2000000000000000000000000000000000000000000000000000000000000000000000000000000000000000000000000000000000000000000000000000000000000 s
  repeat' with_reducible (first | assumption | intro _ | exact partOk_refl _ _ _ | apply State.inRangeOf_touch | apply State.overtemp_touch | apply within_ite | apply within_ite_fst | split | (dsimp only; split) | apply within_mk)
  all_goals exact sub_le (by decide) hm

theorem execOutputOpenWire_only (m : Nat) (ua mv : Int) (s : State) : ∃ u, execOutputOpenWire m ua mv s = .next u ∧ (effect (.outputOpenWire m ua mv)).Only s u := by
  refine ⟨_, rfl, ((bounds_of (by decide +kernel) : Bounds (⟨[], [.fd]⟩) 0x2000000000000000000000000000000000000000000000000000000000000000000000000000000000000000000000000000000000000000000000000000000000000)).only ?_⟩
  have hm : sub 0x2000000000000000000000000000000000000000000000000000000000000000000000000000000000000000000000000000000000000000000000000000000000000 0x2000000000000000000000000000000000000000000000000000000000000000000000000000000000000000000000000000000000000000000000000000000000000 := Nat.and_self _
  have hz := Within.refl 0x2000000000000000000000000000000000000000000000000000000000000000000000000000000000000000000000000000000000000000000000000000000000000 s
  repeat' with_reducible (first | assumption | intro _ | exact partOk_refl _ _ _ | apply State.inRangeOf_touch | apply State.foWire_touch | apply within_ite | apply within_ite_fst | split | (dsimp only; split) | apply within_mk)
  all_goals exact sub_le (by decide) hm

theorem execFoUnlatch_only (port m : Nat) (s : State) : ∃ u, execFoUnlatch port m s = .next u ∧ (effect (.foUnlatch port m)).Only s u := ⟨_, rfl, State.inRangeUp_only _ _ _ _ (State.hostWrite_only _ _ _ _)⟩

theorem execVfieldUndervoltage_only (s : State) : ∃ u, execVfieldUndervoltage s = .next u ∧ (effect (.vfieldUndervoltage)).Only s u := by
  refine ⟨_, rfl, ((bounds_of (by decide +kernel) : Bounds (⟨[], [.fd]⟩) 0x2000000000000000000000000000000000000000000000000000000000000000000000000000000000000000000000000000000000000000000000000000000000000)).only ?_⟩
  have hm : sub 0x2000000000000000000000000000000000000000000000000000000000000000000000000000000000000000000000000000000000000000000000000000000000000 0x2000000000000000000000000000000000000000000000000000000000000000000000000000000000000000000000000000000000000000000000000000000000000 := Nat.and_self _
  have hz := Within.refl 0x2000000000000000000000000000000000000000000000000000000000000000000000000000000000000000000000000000000000000000000000000000000000000 s
  repeat' with_reducible (first | assumption | intro _ | exact partOk_refl _ _ _ | apply State.fieldUv_touch | apply within_ite | apply within_ite_fst | split | (dsimp only; split) | apply within_mk)
  all_goals exact sub_le (by decide) hm

theorem execFieldOutputCheck_only (entry : Nat) (mv ma vfield : Int) (s : State) : ∃ u, execFieldOutputCheck entry mv ma vfield s = .next u ∧ (effect (.fieldOutputCheck entry mv ma vfield)).Only s u := by
  refine ⟨_, rfl, ((bounds_of (by decide +kernel) : Bounds (Effect.raised.and ⟨[Reg.CW_IRQ_CPL 0, Reg.CW_STR_WR_INDEX 0 0, Reg.CW_STR_DROP_DROP_N 0 0, Reg.MAP_EVENT_TILE_MISS, Reg.MAP_COUNT_A_PAINT_LOST, Reg.MAP_COUNT_B_PAINT_UNSURE, Reg.TILE_DIRTY_BAND 0, Reg.LJ_OPEN_JIT 0, Reg.LJ_CLOSE_JIT 0, Reg.OT_LRN_OPEN_LRN 0, Reg.OT_LRN_CLOSE_LRN 0, Reg.OT_STATE_OWNER 0, Reg.FIO_EVENT_BAR_LOST, Reg.FO_FAULT_OVERLOAD 0, Reg.FO_IMEAS_I 0, Reg.FO_VOUT_V 0, Reg.REC_EVENT_FULL, Reg.PMC_OVF_LO_OVF, Reg.PMC_OVF_HI_OVF, Reg.PMC_LO_COUNT 0, Reg.PMC_HI_COUNT 0], [.mp, .lg, .rs]⟩) 0x101c0000003600020000000010800000000000000d00008000000000000000000000000000000000004600000000000000000000001800000400068000000000140400)).only ?_⟩
  have hm : sub 0x101c0000003600020000000010800000000000000d00008000000000000000000000000000000000004600000000000000000000001800000400068000000000140400 0x101c0000003600020000000010800000000000000d00008000000000000000000000000000000000004600000000000000000000001800000400068000000000140400 := Nat.and_self _
  have hz := Within.refl 0x101c0000003600020000000010800000000000000d00008000000000000000000000000000000000004600000000000000000000001800000400068000000000140400 s
  repeat' with_reducible (first | assumption | intro _ | exact partOk_refl _ _ _ | apply State.whenUp_touch | apply State.foCheck_touch | apply within_ite | apply within_ite_fst | split | (dsimp only; split) | apply within_mk)
  all_goals exact sub_le (by decide) hm

theorem execInputWakeEdge_only (n : Nat) (s : State) : ∃ u, execInputWakeEdge n s = .next u ∧ (effect (.inputWakeEdge n)).Only s u := by
  refine ⟨_, rfl, ((bounds_of (by decide +kernel) : Bounds (Effect.recorded.and ⟨[Reg.MAP_EVENT_TILE_MISS, Reg.MAP_COUNT_A_PAINT_LOST, Reg.MAP_COUNT_B_PAINT_UNSURE, Reg.TILE_DIRTY_BAND 0, Reg.LS_STATUS_SW_LINK, Reg.LS_EVENT_TSD, Reg.LS_STATE_OUT_ON 0, Reg.PWR_WAKE_BUS_EN], [.free, .mp, .ls, .fd, .pw]⟩) 0x230e0800003611820020000010800000000000000000000040600000000000000000000000000000000000000000000000000000000000000400068000000000000000)).only ?_⟩
  have hm : sub 0x230e0800003611820020000010800000000000000000000040600000000000000000000000000000000000000000000000000000000000000400068000000000000000 0x230e0800003611820020000010800000000000000000000040600000000000000000000000000000000000000000000000000000000000000400068000000000000000 := Nat.and_self _
  have hz := Within.refl 0x230e0800003611820020000010800000000000000000000040600000000000000000000000000000000000000000000000000000000000000400068000000000000000 s
  repeat' with_reducible (first | assumption | intro _ | exact partOk_refl _ _ _ | apply State.wake_touch | apply within_ite | apply within_ite_fst | split | (dsimp only; split) | apply within_mk)
  all_goals exact sub_le (by decide) hm

theorem execBusFrameReceived_only (port : Nat) (f : BusFrame) (s : State) : ∃ u, execBusFrameReceived port f s = .next u ∧ (effect (.busFrameReceived port f)).Only s u := by
  refine ⟨_, rfl, ((bounds_of (by decide +kernel) : Bounds (Effect.recorded.and ⟨[Reg.CW_RING_EN 0, Reg.CW_CQ_TAIL_INDEX 0, Reg.CW_IRQ_CPL 0, Reg.CW_STR_WR_INDEX 0 0, Reg.CW_STR_DROP_DROP_N 0 0, Reg.MAP_EVENT_TILE_MISS, Reg.MAP_COUNT_A_PAINT_LOST, Reg.MAP_COUNT_B_PAINT_UNSURE, Reg.TILE_DIRTY_BAND 0, Reg.LG_EVENT_FULL, Reg.VCH_STATE_STATE 0, Reg.LK_HOLD_LO_HOLD 0, Reg.LK_HOLD_HI_HOLD 0, Reg.LP_EVENT_SLOT_FLAG, Reg.HOUT_VALUE 0, Reg.SL_STATE_STATE 0, Reg.SL_FLAGS_SAT_ACC 0, Reg.SL_SETP_S 0, Reg.SL_RAMP_R 0, Reg.SL_OUT_VALUE 0 0, Reg.LS_SET_ON 0, Reg.LS_DUTY_DUTY 0, Reg.LS_STATE_OUT_ON 0, Reg.FIO_STATUS_BAR_OK, Reg.FO_SET_ON 0, Reg.FO_DUTY_DUTY 0, Reg.BUS_EVENT_PORT, Reg.BP_STATUS_STATE 0, Reg.BP_ERRCNT_TEC 0, Reg.BP_EVENT_BUS_OFF 0, Reg.BP_ERRLOG_LEC 0, Reg.BP_CNT_A_BIT_N 0, Reg.BP_CNT_B_FORM_N 0, Reg.BP_CNT_C_ACK_N 0, Reg.BP_CNT_D_MISSED_N 0, Reg.BP_CNT_E_NOMATCH_N 0, Reg.BP_CNT_F_LOST_N 0, Reg.BP_CNT_G_QFULL_N 0, Reg.BP_REFFT_LO_T 0, Reg.BP_REFFT_HI_T 0, Reg.CTX_CNT_REFUSED_N 0, Reg.RES_STATE_STATE], [.free, .mp, .lg, .vd, .lk, .lp, .ls, .fd, .bp, .rs]⟩) 0x17fe080000361182000000003081000000c007ff405000406800008f400002000180000004000000000000000000000000000000000000010400068000000000140620)).only ?_⟩
  have hm : sub 0x17fe080000361182000000003081000000c007ff405000406800008f400002000180000004000000000000000000000000000000000000010400068000000000140620 0x17fe080000361182000000003081000000c007ff405000406800008f400002000180000004000000000000000000000000000000000000010400068000000000140620 := Nat.and_self _
  have hz := Within.refl 0x17fe080000361182000000003081000000c007ff405000406800008f400002000180000004000000000000000000000000000000000000010400068000000000140620 s
  repeat' with_reducible (first | assumption | intro _ | exact partOk_refl _ _ _ | apply State.inRangeUp_touch | apply State.frameIn_touch | apply within_ite | apply within_ite_fst | split | (dsimp only; split) | apply within_mk)
  all_goals exact sub_le (by decide) hm

theorem execScheduleWindow_only (port w : Nat) (s : State) : ∃ u, execScheduleWindow port w s = .next u ∧ (effect (.scheduleWindow port w)).Only s u := by
  refine ⟨_, rfl, ((bounds_of (by decide +kernel) : Bounds (Effect.raised.and ⟨[Reg.CW_RING_EN 0, Reg.CW_CQ_TAIL_INDEX 0, Reg.CW_IRQ_CPL 0, Reg.BP_STATUS_STATE 0, Reg.BP_EVENT_BUS_OFF 0, Reg.BP_CNT_D_MISSED_N 0, Reg.CTX_CNT_REFUSED_N 0], [.bp]⟩) 0x4040000000000000000000010810000000000850000000000000000000000000000000000000000000000000000000000000000000000000000000000000000000620)).only ?_⟩
  have hm : sub 0x4040000000000000000000010810000000000850000000000000000000000000000000000000000000000000000000000000000000000000000000000000000000620 0x4040000000000000000000010810000000000850000000000000000000000000000000000000000000000000000000000000000000000000000000000000000000620 := Nat.and_self _
  have hz := Within.refl 0x4040000000000000000000010810000000000850000000000000000000000000000000000000000000000000000000000000000000000000000000000000000000620 s
  repeat' with_reducible (first | assumption | intro _ | exact partOk_refl _ _ _ | apply State.inRangeUp_touch | apply State.windowStart_touch | apply within_ite | apply within_ite_fst | split | (dsimp only; split) | apply within_mk)
  all_goals exact sub_le (by decide) hm

theorem execBusTxDone_only (port : Nat) (result : TxResult) (s : State) : ∃ u, execBusTxDone port result s = .next u ∧ (effect (.busTxDone port result)).Only s u := by
  refine ⟨_, rfl, ((bounds_of (by decide +kernel) : Bounds (Effect.raised.and ⟨[Reg.CW_RING_EN 0, Reg.CW_CQ_TAIL_INDEX 0, Reg.CW_IRQ_CPL 0, Reg.BP_STATUS_STATE 0, Reg.BP_ERRCNT_TEC 0, Reg.BP_EVENT_BUS_OFF 0, Reg.BP_CNT_D_MISSED_N 0, Reg.BP_REFFT_LO_T 0, Reg.BP_REFFT_HI_T 0, Reg.CTX_CNT_REFUSED_N 0, Reg.REC_EVENT_FULL, Reg.PMC_OVF_LO_OVF, Reg.PMC_OVF_HI_OVF, Reg.PMC_LO_COUNT 0, Reg.PMC_HI_COUNT 0], [.bp]⟩) 0x404000000360002000000001081000000c000870000000000000000000000000000000000000000000000000000000000000000000000000000000000000000000620)).only ?_⟩
  have hm : sub 0x404000000360002000000001081000000c000870000000000000000000000000000000000000000000000000000000000000000000000000000000000000000000620 0x404000000360002000000001081000000c000870000000000000000000000000000000000000000000000000000000000000000000000000000000000000000000620 := Nat.and_self _
  have hz := Within.refl 0x404000000360002000000001081000000c000870000000000000000000000000000000000000000000000000000000000000000000000000000000000000000000620 s
  repeat' with_reducible (first | assumption | intro _ | exact partOk_refl _ _ _ | apply State.inRangeUp_touch | apply State.txDone_touch | apply within_ite | apply within_ite_fst | split | (dsimp only; split) | apply within_mk)
  all_goals exact sub_le (by decide) hm

theorem execBusError_only (port : Nat) (e : BusErr) (s : State) : ∃ u, execBusError port e s = .next u ∧ (effect (.busError port e)).Only s u := by
  refine ⟨_, rfl, ((bounds_of (by decide +kernel) : Bounds (Effect.recorded.and ⟨[Reg.CW_RING_EN 0, Reg.CW_CQ_TAIL_INDEX 0, Reg.CW_IRQ_CPL 0, Reg.BP_STATUS_STATE 0, Reg.BP_ERRCNT_TEC 0, Reg.BP_EVENT_BUS_OFF 0, Reg.BP_ERRLOG_LEC 0, Reg.BP_CNT_A_BIT_N 0, Reg.BP_CNT_B_FORM_N 0, Reg.BP_CNT_C_ACK_N 0, Reg.BP_CNT_D_MISSED_N 0, Reg.CTX_CNT_REFUSED_N 0], [.bp]⟩) 0x4060000003611820000000010810000000000ff0000000000000000000000000000000000000000000000000000000000000000000000000000000000000000000620)).only ?_⟩
  have hm : sub 0x4060000003611820000000010810000000000ff0000000000000000000000000000000000000000000000000000000000000000000000000000000000000000000620 0x4060000003611820000000010810000000000ff0000000000000000000000000000000000000000000000000000000000000000000000000000000000000000000620 := Nat.and_self _
  have hz := Within.refl 0x4060000003611820000000010810000000000ff0000000000000000000000000000000000000000000000000000000000000000000000000000000000000000000620 s
  repeat' with_reducible (first | assumption | intro _ | exact partOk_refl _ _ _ | apply State.inRangeUp_touch | apply State.busError_touch | apply within_ite | apply within_ite_fst | split | (dsimp only; split) | apply within_mk)
  all_goals exact sub_le (by decide) hm

theorem execBusIntegrationDone_only (port : Nat) (s : State) : ∃ u, execBusIntegrationDone port s = .next u ∧ (effect (.busIntegrationDone port)).Only s u := by
  refine ⟨_, rfl, ((bounds_of (by decide +kernel) : Bounds (⟨[Reg.BP_STATUS_STATE 0], [.bp]⟩) 0x4000000000000000000000000000000000000010000000000000000000000000000000000000000000000000000000000000000000000000000000000000000000000)).only ?_⟩
  have hm : sub 0x4000000000000000000000000000000000000010000000000000000000000000000000000000000000000000000000000000000000000000000000000000000000000 0x4000000000000000000000000000000000000010000000000000000000000000000000000000000000000000000000000000000000000000000000000000000000000 := Nat.and_self _
  have hz := Within.refl 0x4000000000000000000000000000000000000010000000000000000000000000000000000000000000000000000000000000000000000000000000000000000000000 s
  repeat' with_reducible (first | assumption | intro _ | exact partOk_refl _ _ _ | apply State.inRangeUp_touch | apply State.integrated_touch | apply within_ite | apply within_ite_fst | split | (dsimp only; split) | apply within_mk)
  all_goals exact sub_le (by decide) hm

theorem execBusRecoveryDone_only (port : Nat) (s : State) : ∃ u, execBusRecoveryDone port s = .next u ∧ (effect (.busRecoveryDone port)).Only s u := by
  refine ⟨_, rfl, ((bounds_of (by decide +kernel) : Bounds (Effect.raised.and ⟨[Reg.BP_STATUS_STATE 0, Reg.BP_ERRCNT_TEC 0, Reg.BP_EVENT_BUS_OFF 0], [.bp]⟩) 0x4040000000000000000000010800000000000070000000000000000000000000000000000000000000000000000000000000000000000000000000000000000000000)).only ?_⟩
  have hm : sub 0x4040000000000000000000010800000000000070000000000000000000000000000000000000000000000000000000000000000000000000000000000000000000000 0x4040000000000000000000010800000000000070000000000000000000000000000000000000000000000000000000000000000000000000000000000000000000000 := Nat.and_self _
  have hz := Within.refl 0x4040000000000000000000010800000000000070000000000000000000000000000000000000000000000000000000000000000000000000000000000000000000000 s
  repeat' with_reducible (first | assumption | intro _ | exact partOk_refl _ _ _ | apply State.inRangeUp_touch | apply State.recovered_touch | apply within_ite | apply within_ite_fst | split | (dsimp only; split) | apply within_mk)
  all_goals exact sub_le (by decide) hm

theorem execRefTimeout_only (port : Nat) (s : State) : ∃ u, execRefTimeout port s = .next u ∧ (effect (.refTimeout port)).Only s u := by
  refine ⟨_, rfl, ((bounds_of (by decide +kernel) : Bounds (Effect.raised.and ⟨[Reg.BP_STATUS_STATE 0, Reg.BP_EVENT_BUS_OFF 0], [.bp]⟩) 0x4040000000000000000000010800000000000050000000000000000000000000000000000000000000000000000000000000000000000000000000000000000000000)).only ?_⟩
  have hm : sub 0x4040000000000000000000010800000000000050000000000000000000000000000000000000000000000000000000000000000000000000000000000000000000000 0x4040000000000000000000010800000000000050000000000000000000000000000000000000000000000000000000000000000000000000000000000000000000000 := Nat.and_self _
  have hz := Within.refl 0x4040000000000000000000010800000000000050000000000000000000000000000000000000000000000000000000000000000000000000000000000000000000000 s
  repeat' with_reducible (first | assumption | intro _ | exact partOk_refl _ _ _ | apply State.inRangeUp_touch | apply State.refTimeout_touch | apply within_ite | apply within_ite_fst | split | (dsimp only; split) | apply within_mk)
  all_goals exact sub_le (by decide) hm

theorem execBpModeWrite_only (port n : Nat) (value : Word) (s : State) : ∃ u, execBpModeWrite port n value s = .next u ∧ (effect (.bpModeWrite port n value)).Only s u := ⟨_, rfl, State.inRangeUp_only _ _ _ _ (State.hostWrite_only _ _ _ _)⟩

theorem execBpRecover_only (port n : Nat) (s : State) : ∃ u, execBpRecover port n s = .next u ∧ (effect (.bpRecover port n)).Only s u := ⟨_, rfl, State.inRangeUp_only _ _ _ _ (State.hostField_only _ _ _ _ _ _)⟩

theorem execBvCapture_only (port v : Nat) (value : Word) (s : State) : ∃ u, execBvCapture port v value s = .next u ∧ (effect (.bvCapture port v value)).Only s u := ⟨_, rfl, State.inRangeUp_only _ _ _ _ (State.hostWrite_only _ _ _ _)⟩

theorem execBvCommit_only (port v : Nat) (value : Word) (s : State) : ∃ u, execBvCommit port v value s = .next u ∧ (effect (.bvCommit port v value)).Only s u := ⟨_, rfl, State.inRangeUp_only _ _ _ _ (State.hostWrite_only _ _ _ _)⟩

theorem execBvEnqueue_only (port v : Nat) (value : Word) (s : State) : ∃ u, execBvEnqueue port v value s = .next u ∧ (effect (.bvEnqueue port v value)).Only s u := ⟨_, rfl, State.inRangeUp_only _ _ _ _ (State.hostWrite_only _ _ _ _)⟩

theorem execBusWakeFrame_only (port : Nat) (f : BusFrame) (s : State) : ∃ u, execBusWakeFrame port f s = .next u ∧ (effect (.busWakeFrame port f)).Only s u := by
  refine ⟨_, rfl, ((bounds_of (by decide +kernel) : Bounds (Effect.recorded.and ⟨[Reg.MAP_EVENT_TILE_MISS, Reg.MAP_COUNT_A_PAINT_LOST, Reg.MAP_COUNT_B_PAINT_UNSURE, Reg.TILE_DIRTY_BAND 0, Reg.LS_STATUS_SW_LINK, Reg.LS_EVENT_TSD, Reg.LS_STATE_OUT_ON 0, Reg.PWR_WAKE_BUS_EN], [.free, .mp, .ls, .fd, .pw]⟩) 0x230e0800003611820020000010800000000000000000000040600000000000000000000000000000000000000000000000000000000000000400068000000000000000)).only ?_⟩
  have hm : sub 0x230e0800003611820020000010800000000000000000000040600000000000000000000000000000000000000000000000000000000000000400068000000000000000 0x230e0800003611820020000010800000000000000000000040600000000000000000000000000000000000000000000000000000000000000400068000000000000000 := Nat.and_self _
  have hz := Within.refl 0x230e0800003611820020000010800000000000000000000040600000000000000000000000000000000000000000000000000000000000000400068000000000000000 s
  repeat' with_reducible (first | assumption | intro _ | exact partOk_refl _ _ _ | apply State.wake_touch | apply within_ite | apply within_ite_fst | split | (dsimp only; split) | apply within_mk)
  all_goals exact sub_le (by decide) hm

theorem execSqTailWrite_only (ctx : Nat) (value : Word) (s : State) : ∃ u, execSqTailWrite ctx value s = .next u ∧ (effect (.sqTailWrite ctx value)).Only s u := by
  refine ⟨_, rfl, ((bounds_of (by decide +kernel) : Bounds (⟨[Reg.CW_SQ_TAIL_INDEX 0], []⟩) 0x40)).only ?_⟩
  have hm : sub 0x40 0x40 := Nat.and_self _
  have hz := Within.refl 0x40 s
  repeat' with_reducible (first | assumption | intro _ | exact partOk_refl _ _ _ | apply State.whenUp_touch | apply State.sqTail_touch | apply within_ite | apply within_ite_fst | split | (dsimp only; split) | apply within_mk)
  all_goals exact sub_le (by decide) hm

theorem execNop_only (ctx tag flags : Nat) (s : State) : ∃ u, execNop ctx tag flags s = .next u ∧ (effect (.nop ctx tag flags)).Only s u := by
  refine ⟨_, rfl, ((bounds_of (by decide +kernel) : Bounds (Effect.raised.and ⟨[Reg.CW_RING_EN 0, Reg.CW_SQ_HEAD_INDEX 0, Reg.CW_CQ_TAIL_INDEX 0, Reg.CW_IRQ_CPL 0, Reg.CTX_CNT_REFUSED_N 0, Reg.CTX_SERVED_SERVED 0, Reg.REC_EVENT_FULL, Reg.PMC_OVF_LO_OVF, Reg.PMC_OVF_HI_OVF, Reg.PMC_LO_COUNT 0, Reg.PMC_HI_COUNT 0], []⟩) 0x400000036000200000000108300000000000000000000000000000000000000000000000000000000000000000000000000000000000000000000000000000006a0)).only ?_⟩
  have hm : sub 0x400000036000200000000108300000000000000000000000000000000000000000000000000000000000000000000000000000000000000000000000000000006a0 0x400000036000200000000108300000000000000000000000000000000000000000000000000000000000000000000000000000000000000000000000000000006a0 := Nat.and_self _
  have hz := Within.refl 0x400000036000200000000108300000000000000000000000000000000000000000000000000000000000000000000000000000000000000000000000000000006a0 s
  repeat' with_reducible (first | assumption | intro _ | exact partOk_refl _ _ _ | apply State.whenUp_touch | apply State.cmdNop_touch | apply within_ite | apply within_ite_fst | split | (dsimp only; split) | apply within_mk)
  all_goals exact sub_le (by decide) hm

theorem execRegWrite_only (ctx tag flags offset : Nat) (value mask : Word) (s : State) : ∃ u, execRegWrite ctx tag flags offset value mask s = .next u ∧ (effect (.regWrite ctx tag flags offset value mask)).Only s u := ⟨_, rfl, State.whenUp_only _ _ (State.cmdRegWrite_only _ _ _ _ _ _ _ (bounds_of (by decide +kernel)))⟩

theorem execRegRead_only (ctx tag flags offset : Nat) (s : State) : ∃ u, execRegRead ctx tag flags offset s = .next u ∧ (effect (.regRead ctx tag flags offset)).Only s u := ⟨_, rfl, State.whenUp_only _ _ (State.cmdRegRead_only _ _ _ _ _ (bounds_of (by decide +kernel)))⟩

theorem execEdge_only (ctx tag flags outlet kind : Nat) (due : Time) (rate : Nat) (s : State) : ∃ u, execEdge ctx tag flags outlet kind due rate s = .next u ∧ (effect (.edge ctx tag flags outlet kind due rate)).Only s u := by
  refine ⟨_, rfl, ((bounds_of (by decide +kernel) : Bounds (Effect.raised.and ⟨[Reg.CW_RING_EN 0, Reg.CW_SQ_HEAD_INDEX 0, Reg.CW_CQ_TAIL_INDEX 0, Reg.CW_IRQ_CPL 0, Reg.LG_EVENT_FULL, Reg.LG_CNT_B_SHIFTED_N, Reg.CTX_CNT_REFUSED_N 0, Reg.CTX_SERVED_SERVED 0, Reg.REC_EVENT_FULL, Reg.PMC_OVF_LO_OVF, Reg.PMC_OVF_HI_OVF, Reg.PMC_LO_COUNT 0, Reg.PMC_HI_COUNT 0], [.lg]⟩) 0x1400000036000200000000108300000000000000000000000000000000000000000000000000000000000000000000000000000000000500000000000000000006a0)).only ?_⟩
  have hm : sub 0x1400000036000200000000108300000000000000000000000000000000000000000000000000000000000000000000000000000000000500000000000000000006a0 0x1400000036000200000000108300000000000000000000000000000000000000000000000000000000000000000000000000000000000500000000000000000006a0 := Nat.and_self _
  have hz := Within.refl 0x1400000036000200000000108300000000000000000000000000000000000000000000000000000000000000000000000000000000000500000000000000000006a0 s
  repeat' with_reducible (first | assumption | intro _ | exact partOk_refl _ _ _ | apply State.whenUp_touch | apply State.cmdEdge_touch | apply within_ite | apply within_ite_fst | split | (dsimp only; split) | apply within_mk)
  all_goals exact sub_le (by decide) hm

theorem execClaim_only (ctx tag flags first count mode : Nat) (s : State) : ∃ u, execClaim ctx tag flags first count mode s = .next u ∧ (effect (.claim ctx tag flags first count mode)).Only s u := by
  refine ⟨_, rfl, ((bounds_of (by decide +kernel) : Bounds (Effect.raised.and ⟨[Reg.CW_RING_EN 0, Reg.CW_SQ_HEAD_INDEX 0, Reg.CW_CQ_TAIL_INDEX 0, Reg.CW_IRQ_CPL 0, Reg.CTX_CNT_REFUSED_N 0, Reg.CTX_SERVED_SERVED 0, Reg.REC_EVENT_FULL, Reg.PMC_OVF_LO_OVF, Reg.PMC_OVF_HI_OVF, Reg.PMC_LO_COUNT 0, Reg.PMC_HI_COUNT 0], []⟩) 0x400000036000200000000108300000000000000000000000000000000000000000000000000000000000000000000000000000000000000000000000000000006a0)).only ?_⟩
  have hm : sub 0x400000036000200000000108300000000000000000000000000000000000000000000000000000000000000000000000000000000000000000000000000000006a0 0x400000036000200000000108300000000000000000000000000000000000000000000000000000000000000000000000000000000000000000000000000000006a0 := Nat.and_self _
  have hz := Within.refl 0x400000036000200000000108300000000000000000000000000000000000000000000000000000000000000000000000000000000000000000000000000000006a0 s
  repeat' with_reducible (first | assumption | intro _ | exact partOk_refl _ _ _ | apply State.whenUp_touch | apply State.cmdClaim_touch | apply State.count_touch | apply within_ite | apply within_ite_fst | split | (dsimp only; split) | apply within_mk)
  all_goals exact sub_le (by decide) hm

theorem execRelease_only (ctx tag flags first count : Nat) (s : State) : ∃ u, execRelease ctx tag flags first count s = .next u ∧ (effect (.release ctx tag flags first count)).Only s u := by
  refine ⟨_, rfl, ((bounds_of (by decide +kernel) : Bounds (Effect.raised.and ⟨[Reg.CW_RING_EN 0, Reg.CW_SQ_HEAD_INDEX 0, Reg.CW_CQ_TAIL_INDEX 0, Reg.CW_IRQ_CPL 0, Reg.CTX_CNT_REFUSED_N 0, Reg.CTX_SERVED_SERVED 0, Reg.REC_EVENT_FULL, Reg.PMC_OVF_LO_OVF, Reg.PMC_OVF_HI_OVF, Reg.PMC_LO_COUNT 0, Reg.PMC_HI_COUNT 0], []⟩) 0x400000036000200000000108300000000000000000000000000000000000000000000000000000000000000000000000000000000000000000000000000000006a0)).only ?_⟩
  have hm : sub 0x400000036000200000000108300000000000000000000000000000000000000000000000000000000000000000000000000000000000000000000000000000006a0 0x400000036000200000000108300000000000000000000000000000000000000000000000000000000000000000000000000000000000000000000000000000006a0 := Nat.and_self _
  have hz := Within.refl 0x400000036000200000000108300000000000000000000000000000000000000000000000000000000000000000000000000000000000000000000000000000006a0 s
  repeat' with_reducible (first | assumption | intro _ | exact partOk_refl _ _ _ | apply State.whenUp_touch | apply State.cmdRelease_touch | apply State.count_touch | apply within_ite | apply within_ite_fst | split | (dsimp only; split) | apply within_mk)
  all_goals exact sub_le (by decide) hm

theorem execInhibit_only (ctx tag flags first count : Nat) (s : State) : ∃ u, execInhibit ctx tag flags first count s = .next u ∧ (effect (.inhibit ctx tag flags first count)).Only s u := by
  refine ⟨_, rfl, ((bounds_of (by decide +kernel) : Bounds (Effect.recorded.and ⟨[Reg.CW_RING_EN 0, Reg.CW_SQ_HEAD_INDEX 0, Reg.CW_CQ_TAIL_INDEX 0, Reg.CW_IRQ_CPL 0, Reg.CW_STR_WR_INDEX 0 0, Reg.CW_STR_DROP_DROP_N 0 0, Reg.LG_EVENT_FULL, Reg.OT_STATE_OWNER 0, Reg.VCH_STATE_STATE 0, Reg.LK_HOLD_LO_HOLD 0, Reg.LK_HOLD_HI_HOLD 0, Reg.CTX_CNT_REFUSED_N 0, Reg.CTX_SERVED_SERVED 0, Reg.OWN_OWNER 0], [.lg, .vd, .lk, .lp, .ls, .fd, .rs]⟩) 0x13f600000036118200000000108700000000000000000000000000000000000001800000040000000040000000000000000000000000000100000000000000001406a0)).only ?_⟩
  have hm : sub 0x13f600000036118200000000108700000000000000000000000000000000000001800000040000000040000000000000000000000000000100000000000000001406a0 0x13f600000036118200000000108700000000000000000000000000000000000001800000040000000040000000000000000000000000000100000000000000001406a0 := Nat.and_self _
  have hz := Within.refl 0x13f600000036118200000000108700000000000000000000000000000000000001800000040000000040000000000000000000000000000100000000000000001406a0 s
  repeat' with_reducible (first | assumption | intro _ | exact partOk_refl _ _ _ | apply State.whenUp_touch | apply State.cmdInhibit_touch | apply State.count_touch | apply within_ite | apply within_ite_fst | split | (dsimp only; split) | apply within_mk)
  all_goals exact sub_le (by decide) hm

theorem execInhibitLift_only (ctx tag flags first count : Nat) (s : State) : ∃ u, execInhibitLift ctx tag flags first count s = .next u ∧ (effect (.inhibitLift ctx tag flags first count)).Only s u := by
  refine ⟨_, rfl, ((bounds_of (by decide +kernel) : Bounds (Effect.raised.and ⟨[Reg.CW_RING_EN 0, Reg.CW_SQ_HEAD_INDEX 0, Reg.CW_CQ_TAIL_INDEX 0, Reg.CW_IRQ_CPL 0, Reg.OT_STATE_OWNER 0, Reg.LK_HOLD_LO_HOLD 0, Reg.LK_HOLD_HI_HOLD 0, Reg.CTX_CNT_REFUSED_N 0, Reg.CTX_SERVED_SERVED 0, Reg.OWN_OWNER 0, Reg.REC_EVENT_FULL, Reg.PMC_OVF_LO_OVF, Reg.PMC_OVF_HI_OVF, Reg.PMC_LO_COUNT 0, Reg.PMC_HI_COUNT 0], [.lk]⟩) 0x4400000036000200000000108700000000000000000000000000000000000001800000000000000040000000000000000000000000000000000000000000000006a0)).only ?_⟩
  have hm : sub 0x4400000036000200000000108700000000000000000000000000000000000001800000000000000040000000000000000000000000000000000000000000000006a0 0x4400000036000200000000108700000000000000000000000000000000000001800000000000000040000000000000000000000000000000000000000000000006a0 := Nat.and_self _
  have hz := Within.refl 0x4400000036000200000000108700000000000000000000000000000000000001800000000000000040000000000000000000000000000000000000000000000006a0 s
  repeat' with_reducible (first | assumption | intro _ | exact partOk_refl _ _ _ | apply State.whenUp_touch | apply State.cmdInhibitLift_touch | apply State.count_touch | apply within_ite | apply within_ite_fst | split | (dsimp only; split) | apply within_mk)
  all_goals exact sub_le (by decide) hm

theorem execOverrideWithdraw_only (ctx tag flags first count : Nat) (since : Time) (s : State) : ∃ u, execOverrideWithdraw ctx tag flags first count since s = .next u ∧ (effect (.overrideWithdraw ctx tag flags first count since)).Only s u := by
  refine ⟨_, rfl, ((bounds_of (by decide +kernel) : Bounds (Effect.recorded.and ⟨[Reg.CW_RING_EN 0, Reg.CW_SQ_HEAD_INDEX 0, Reg.CW_CQ_TAIL_INDEX 0, Reg.CW_IRQ_CPL 0, Reg.CW_STR_WR_INDEX 0 0, Reg.CW_STR_DROP_DROP_N 0 0, Reg.LG_EVENT_FULL, Reg.VCH_STATE_STATE 0, Reg.LK_HOLD_LO_HOLD 0, Reg.LK_HOLD_HI_HOLD 0, Reg.CTX_CNT_REFUSED_N 0, Reg.CTX_SERVED_SERVED 0], [.lg, .vd, .lk, .rs]⟩) 0x107600000036118200000000108300000000000000000000000000000000000001800000040000000000000000000000000000000000000100000000000000001406a0)).only ?_⟩
  have hm : sub 0x107600000036118200000000108300000000000000000000000000000000000001800000040000000000000000000000000000000000000100000000000000001406a0 0x107600000036118200000000108300000000000000000000000000000000000001800000040000000000000000000000000000000000000100000000000000001406a0 := Nat.and_self _
  have hz := Within.refl 0x107600000036118200000000108300000000000000000000000000000000000001800000040000000000000000000000000000000000000100000000000000001406a0 s
  repeat' with_reducible (first | assumption | intro _ | exact partOk_refl _ _ _ | apply State.whenUp_touch | apply State.cmdOverrideWithdraw_touch | apply State.count_touch | apply within_ite | apply within_ite_fst | split | (dsimp only; split) | apply within_mk)
  all_goals exact sub_le (by decide) hm

theorem execOverrideTake_only (ctx tag flags first count mode target : Nat) (s : State) : ∃ u, execOverrideTake ctx tag flags first count mode target s = .next u ∧ (effect (.overrideTake ctx tag flags first count mode target)).Only s u := by
  refine ⟨_, rfl, ((bounds_of (by decide +kernel) : Bounds (Effect.recorded.and ⟨[Reg.CW_RING_EN 0, Reg.CW_SQ_HEAD_INDEX 0, Reg.CW_CQ_TAIL_INDEX 0, Reg.CW_IRQ_CPL 0, Reg.CTX_CNT_REFUSED_N 0, Reg.CTX_SERVED_SERVED 0], []⟩) 0x600000036118200000000108300000000000000000000000000000000000000000000000000000000000000000000000000000000000000000000000000000006a0)).only ?_⟩
  have hm : sub 0x600000036118200000000108300000000000000000000000000000000000000000000000000000000000000000000000000000000000000000000000000000006a0 0x600000036118200000000108300000000000000000000000000000000000000000000000000000000000000000000000000000000000000000000000000000006a0 := Nat.and_self _
  have hz := Within.refl 0x600000036118200000000108300000000000000000000000000000000000000000000000000000000000000000000000000000000000000000000000000000006a0 s
  repeat' with_reducible (first | assumption | intro _ | exact partOk_refl _ _ _ | apply State.whenUp_touch | apply State.cmdOverrideTake_touch | apply State.count_touch | apply within_ite | apply within_ite_fst | split | (dsimp only; split) | apply within_mk)
  all_goals exact sub_le (by decide) hm

theorem execOverrideLift_only (ctx tag flags first count : Nat) (s : State) : ∃ u, execOverrideLift ctx tag flags first count s = .next u ∧ (effect (.overrideLift ctx tag flags first count)).Only s u := by
  refine ⟨_, rfl, ((bounds_of (by decide +kernel) : Bounds (Effect.recorded.and ⟨[Reg.CW_RING_EN 0, Reg.CW_SQ_HEAD_INDEX 0, Reg.CW_CQ_TAIL_INDEX 0, Reg.CW_IRQ_CPL 0, Reg.OT_STATE_OWNER 0, Reg.LK_HOLD_LO_HOLD 0, Reg.LK_HOLD_HI_HOLD 0, Reg.CTX_CNT_REFUSED_N 0, Reg.CTX_SERVED_SERVED 0, Reg.OWN_OWNER 0], [.lk]⟩) 0x4600000036118200000000108700000000000000000000000000000000000001800000000000000040000000000000000000000000000000000000000000000006a0)).only ?_⟩
  have hm : sub 0x4600000036118200000000108700000000000000000000000000000000000001800000000000000040000000000000000000000000000000000000000000000006a0 0x4600000036118200000000108700000000000000000000000000000000000001800000000000000040000000000000000000000000000000000000000000000006a0 := Nat.and_self _
  have hz := Within.refl 0x4600000036118200000000108700000000000000000000000000000000000001800000000000000040000000000000000000000000000000000000000000000006a0 s
  repeat' with_reducible (first | assumption | intro _ | exact partOk_refl _ _ _ | apply State.whenUp_touch | apply State.cmdOverrideLift_touch | apply State.count_touch | apply within_ite | apply within_ite_fst | split | (dsimp only; split) | apply within_mk)
  all_goals exact sub_le (by decide) hm

theorem execOverrideFree_only (ctx tag flags first count : Nat) (s : State) : ∃ u, execOverrideFree ctx tag flags first count s = .next u ∧ (effect (.overrideFree ctx tag flags first count)).Only s u := by
  refine ⟨_, rfl, ((bounds_of (by decide +kernel) : Bounds (Effect.recorded.and ⟨[Reg.CW_RING_EN 0, Reg.CW_SQ_HEAD_INDEX 0, Reg.CW_CQ_TAIL_INDEX 0, Reg.CW_IRQ_CPL 0, Reg.CTX_CNT_REFUSED_N 0, Reg.CTX_SERVED_SERVED 0], []⟩) 0x600000036118200000000108300000000000000000000000000000000000000000000000000000000000000000000000000000000000000000000000000000006a0)).only ?_⟩
  have hm : sub 0x600000036118200000000108300000000000000000000000000000000000000000000000000000000000000000000000000000000000000000000000000000006a0 0x600000036118200000000108300000000000000000000000000000000000000000000000000000000000000000000000000000000000000000000000000000006a0 := Nat.and_self _
  have hz := Within.refl 0x600000036118200000000108300000000000000000000000000000000000000000000000000000000000000000000000000000000000000000000000000000006a0 s
  repeat' with_reducible (first | assumption | intro _ | exact partOk_refl _ _ _ | apply State.whenUp_touch | apply State.cmdOverrideFree_touch | apply State.count_touch | apply within_ite | apply within_ite_fst | split | (dsimp only; split) | apply within_mk)
  all_goals exact sub_le (by decide) hm

theorem execFix_only (ctx tag flags : Nat) (f : FixIn) (s : State) : ∃ u, execFix ctx tag flags f s = .next u ∧ (effect (.fix ctx tag flags f)).Only s u := by
  refine ⟨_, rfl, ((bounds_of (by decide +kernel) : Bounds (Effect.raised.and ⟨[Reg.CW_RING_EN 0, Reg.CW_SQ_HEAD_INDEX 0, Reg.CW_CQ_TAIL_INDEX 0, Reg.CW_IRQ_CPL 0, Reg.CTX_CNT_REFUSED_N 0, Reg.CTX_SERVED_SERVED 0, Reg.REC_EVENT_FULL, Reg.PMC_OVF_LO_OVF, Reg.PMC_OVF_HI_OVF, Reg.PMC_LO_COUNT 0, Reg.PMC_HI_COUNT 0], [.po]⟩) 0x500000036000200000000108300000000000000000000000000000000000000000000000000000000000000000000000000000000000000000000000000000006a0)).only ?_⟩
  have hm : sub 0x500000036000200000000108300000000000000000000000000000000000000000000000000000000000000000000000000000000000000000000000000000006a0 0x500000036000200000000108300000000000000000000000000000000000000000000000000000000000000000000000000000000000000000000000000000006a0 := Nat.and_self _
  have hz := Within.refl 0x500000036000200000000108300000000000000000000000000000000000000000000000000000000000000000000000000000000000000000000000000000006a0 s
  repeat' with_reducible (first | assumption | intro _ | exact partOk_refl _ _ _ | apply State.whenUp_touch | apply State.cmdFix_touch | apply within_ite | apply within_ite_fst | split | (dsimp only; split) | apply within_mk)
  all_goals exact sub_le (by decide) hm

theorem execBusSend_only (ctx tag flags port dlc : Nat) (oneShot ide fdf brs : Bool) (id : Nat) (data : List Byte) (s : State) : ∃ u, execBusSend ctx tag flags port dlc oneShot ide fdf brs id data s = .next u ∧ (effect (.busSend ctx tag flags port dlc oneShot ide fdf brs id data)).Only s u := by
  refine ⟨_, rfl, ((bounds_of (by decide +kernel) : Bounds (Effect.raised.and ⟨[Reg.CW_RING_EN 0, Reg.CW_SQ_HEAD_INDEX 0, Reg.CW_CQ_TAIL_INDEX 0, Reg.CW_IRQ_CPL 0, Reg.BP_STATUS_STATE 0, Reg.BP_EVENT_BUS_OFF 0, Reg.BP_CNT_D_MISSED_N 0, Reg.BP_CNT_G_QFULL_N 0, Reg.CTX_CNT_REFUSED_N 0, Reg.CTX_SERVED_SERVED 0, Reg.REC_EVENT_FULL, Reg.PMC_OVF_LO_OVF, Reg.PMC_OVF_HI_OVF, Reg.PMC_LO_COUNT 0, Reg.PMC_HI_COUNT 0], [.bp]⟩) 0x40400000036000200000000108300000000048500000000000000000000000000000000000000000000000000000000000000000000000000000000000000000006a0)).only ?_⟩
  have hm : sub 0x40400000036000200000000108300000000048500000000000000000000000000000000000000000000000000000000000000000000000000000000000000000006a0 0x40400000036000200000000108300000000048500000000000000000000000000000000000000000000000000000000000000000000000000000000000000000006a0 := Nat.and_self _
  have hz := Within.refl 0x40400000036000200000000108300000000048500000000000000000000000000000000000000000000000000000000000000000000000000000000000000000006a0 s
  repeat' with_reducible (first | assumption | intro _ | exact partOk_refl _ _ _ | apply State.whenUp_touch | apply State.cmdBusSend_touch | apply within_ite | apply within_ite_fst | split | (dsimp only; split) | apply within_mk)
  all_goals exact sub_le (by decide) hm

theorem execBind_only (ctx tag flags target : Nat) (s : State) : ∃ u, execBind ctx tag flags target s = .next u ∧ (effect (.bind ctx tag flags target)).Only s u := by
  refine ⟨_, rfl, ((bounds_of (by decide +kernel) : Bounds (Effect.raised.and ⟨[Reg.CW_RING_EN 0, Reg.CW_SQ_HEAD_INDEX 0, Reg.CW_CQ_TAIL_INDEX 0, Reg.CW_IRQ_CPL 0, Reg.CTX_CFG_PORT 0, Reg.CTX_CNT_REFUSED_N 0, Reg.CTX_SERVED_SERVED 0, Reg.REC_EVENT_FULL, Reg.PMC_OVF_LO_OVF, Reg.PMC_OVF_HI_OVF, Reg.PMC_LO_COUNT 0, Reg.PMC_HI_COUNT 0], []⟩) 0x400000036000200000000108308000000000000000000000000000000000000000000000000000000000000000000000000000000000000000000000000000006a0)).only ?_⟩
  have hm : sub 0x400000036000200000000108308000000000000000000000000000000000000000000000000000000000000000000000000000000000000000000000000000006a0 0x400000036000200000000108308000000000000000000000000000000000000000000000000000000000000000000000000000000000000000000000000000006a0 := Nat.and_self _
  have hz := Within.refl 0x400000036000200000000108308000000000000000000000000000000000000000000000000000000000000000000000000000000000000000000000000000006a0 s
  repeat' with_reducible (first | assumption | intro _ | exact partOk_refl _ _ _ | apply State.whenUp_touch | apply State.cmdBind_touch | apply within_ite | apply within_ite_fst | split | (dsimp only; split) | apply within_mk)
  all_goals exact sub_le (by decide) hm

theorem execUnbind_only (ctx tag flags target : Nat) (s : State) : ∃ u, execUnbind ctx tag flags target s = .next u ∧ (effect (.unbind ctx tag flags target)).Only s u := by
  refine ⟨_, rfl, ((bounds_of (by decide +kernel) : Bounds (Effect.raised.and ⟨[Reg.CW_RING_EN 0, Reg.CW_SQ_HEAD_INDEX 0, Reg.CW_CQ_TAIL_INDEX 0, Reg.CW_IRQ_CPL 0, Reg.CTX_CFG_PORT 0, Reg.CTX_CNT_REFUSED_N 0, Reg.CTX_SERVED_SERVED 0, Reg.REC_EVENT_FULL, Reg.PMC_OVF_LO_OVF, Reg.PMC_OVF_HI_OVF, Reg.PMC_LO_COUNT 0, Reg.PMC_HI_COUNT 0], []⟩) 0x400000036000200000000108308000000000000000000000000000000000000000000000000000000000000000000000000000000000000000000000000000006a0)).only ?_⟩
  have hm : sub 0x400000036000200000000108308000000000000000000000000000000000000000000000000000000000000000000000000000000000000000000000000000006a0 0x400000036000200000000108308000000000000000000000000000000000000000000000000000000000000000000000000000000000000000000000000000006a0 := Nat.and_self _
  have hz := Within.refl 0x400000036000200000000108308000000000000000000000000000000000000000000000000000000000000000000000000000000000000000000000000000006a0 s
  repeat' with_reducible (first | assumption | intro _ | exact partOk_refl _ _ _ | apply State.whenUp_touch | apply State.cmdUnbind_touch | apply within_ite | apply within_ite_fst | split | (dsimp only; split) | apply within_mk)
  all_goals exact sub_le (by decide) hm

theorem execHaltDoorbell_only (port : Nat) (window : Option Nat) (value : Word) (s : State) : ∃ u, execHaltDoorbell port window value s = .next u ∧ (effect (.haltDoorbell port window value)).Only s u := by
  refine ⟨_, rfl, ((bounds_of (by decide +kernel) : Bounds (Effect.halted) 0x17fe080000361182000000003080002000000000005000406800008f400002000180000004000000000000000000000000000000000000010400068000000000140400)).only ?_⟩
  have hm : sub 0x17fe080000361182000000003080002000000000005000406800008f400002000180000004000000000000000000000000000000000000010400068000000000140400 0x17fe080000361182000000003080002000000000005000406800008f400002000180000004000000000000000000000000000000000000010400068000000000140400 := Nat.and_self _
  have hz := Within.refl 0x17fe080000361182000000003080002000000000005000406800008f400002000180000004000000000000000000000000000000000000010400068000000000140400 s
  repeat' with_reducible (first | assumption | intro _ | exact partOk_refl _ _ _ | apply State.whenUp_touch | apply State.ring_touch | apply within_ite | apply within_ite_fst | split | (dsimp only; split) | apply within_mk)
  all_goals exact sub_le (by decide) hm

theorem execHostLinkDown_only (port : Nat) (down : Bool) (s : State) : ∃ u, execHostLinkDown port down s = .next u ∧ (effect (.hostLinkDown port down)).Only s u := by
  refine ⟨_, rfl, ((bounds_of (by decide +kernel) : Bounds (Effect.raised.and ⟨[Reg.CW_RING_EN 0, Reg.CW_STR_CFG_KIND 0 0, Reg.HP_STATUS_LINK_UP, Reg.HP_EVENT_LINK_DOWN], []⟩) 0x40000000000000000000010800030000000000000000000000000000000000000000000000000000000000000000000000000000000000000000000000000020020)).only ?_⟩
  have hm : sub 0x40000000000000000000010800030000000000000000000000000000000000000000000000000000000000000000000000000000000000000000000000000020020 0x40000000000000000000010800030000000000000000000000000000000000000000000000000000000000000000000000000000000000000000000000000020020 := Nat.and_self _
  have hz := Within.refl 0x40000000000000000000010800030000000000000000000000000000000000000000000000000000000000000000000000000000000000000000000000000020020 s
  repeat' with_reducible (first | assumption | intro _ | exact partOk_refl _ _ _ | apply State.whenUp_touch | apply State.linkDown_touch | apply within_ite | apply within_ite_fst | split | (dsimp only; split) | apply within_mk)
  all_goals exact sub_le (by decide) hm

theorem execCwRdataAccess_only (ctx : Nat) (write : Option Word) (s : State) : ∃ u, execCwRdataAccess ctx write s = .next u ∧ (effect (.cwRdataAccess ctx write)).Only s u := ⟨_, rfl, everything_bounds.only (State.rdataAccess_touch _ _ _ (Nat.and_self _) (Within.refl _ _))⟩

theorem execSpiWrite_only (port addr : Nat) (cut : Bool) (words : List Word) (s : State) : ∃ u, execSpiWrite port addr cut words s = .next u ∧ (effect (.spiWrite port addr cut words)).Only s u := ⟨_, rfl, everything_bounds.only (State.spiWrite_touch _ _ _ _ _ (Nat.and_self _) (Within.refl _ _))⟩

theorem execSpiRead_only (port addr n : Nat) (s : State) : ∃ u, execSpiRead port addr n s = .next u ∧ (effect (.spiRead port addr n)).Only s u := ⟨_, rfl, everything_bounds.only (State.spiRead_touch _ _ _ _ (Nat.and_self _) (Within.refl _ _))⟩

theorem execSpiStatusRead_only (port : Nat) (s : State) : ∃ u, execSpiStatusRead port s = .next u ∧ (effect (.spiStatusRead port)).Only s u := by
  refine ⟨_, rfl, ((bounds_of (by decide +kernel) : Bounds (⟨[Reg.HP_STATUS_LINK_UP], [.answer]⟩) 0x1000000000000000000000000010000000000000000000000000000000000000000000000000000000000000000000000000000000000000000000000000000000)).only ?_⟩
  have hm : sub 0x1000000000000000000000000010000000000000000000000000000000000000000000000000000000000000000000000000000000000000000000000000000000 0x1000000000000000000000000010000000000000000000000000000000000000000000000000000000000000000000000000000000000000000000000000000000 := Nat.and_self _
  have hz := Within.refl 0x1000000000000000000000000010000000000000000000000000000000000000000000000000000000000000000000000000000000000000000000000000000000 s
  repeat' with_reducible (first | assumption | intro _ | exact partOk_refl _ _ _ | apply State.spiStatus_touch | apply within_ite | apply within_ite_fst | split | (dsimp only; split) | apply within_mk)
  all_goals exact sub_le (by decide) hm

theorem execStagingWrite_only (port offset : Nat) (bytes : List Byte) (s : State) : ∃ u, execStagingWrite port offset bytes s = .next u ∧ (effect (.stagingWrite port offset bytes)).Only s u := by
  refine ⟨_, rfl, ((bounds_of (by decide +kernel) : Bounds (Effect.raised.and ⟨[Reg.IMG_EVENT_VERIFY_DONE, Reg.HP_STATUS_LINK_UP], [.answer, .im]⟩) 0x8041000000000000000000010800010000000000000000000000000000000000000000000000000000000000000000000000000000000000000000000010000000000)).only ?_⟩
  have hm : sub 0x8041000000000000000000010800010000000000000000000000000000000000000000000000000000000000000000000000000000000000000000000010000000000 0x8041000000000000000000010800010000000000000000000000000000000000000000000000000000000000000000000000000000000000000000000010000000000 := Nat.and_self _
  have hz := Within.refl 0x8041000000000000000000010800010000000000000000000000000000000000000000000000000000000000000000000000000000000000000000000010000000000 s
  repeat' with_reducible (first | assumption | intro _ | exact partOk_refl _ _ _ | apply State.hostStaging_touch | apply within_ite | apply within_ite_fst | split | (dsimp only; split) | apply within_mk)
  all_goals exact sub_le (by decide) hm

theorem execVerify_only (port : Nat) (s : State) : ∃ u, execVerify port s = .next u ∧ (effect (.verify port)).Only s u := ⟨_, rfl, State.hostWrite_only _ _ _ _⟩

theorem execVerifyDone_only (s : State) : ∃ u, execVerifyDone s = .next u ∧ (effect (.verifyDone)).Only s u := by
  refine ⟨_, rfl, ((bounds_of (by decide +kernel) : Bounds (Effect.raised.and ⟨[Reg.IMG_STATUS_STAGE, Reg.IMG_ERR_CODE, Reg.IMG_ERROFS_OFFSET, Reg.IMG_TOKEN_TOKEN, Reg.IMG_DIFF_SEGS, Reg.IMG_STAGED_ID_IMAGE_ID, Reg.IMG_STAGED_VER_IMAGE_VER, Reg.IMG_EVENT_VERIFY_DONE], [.im]⟩) 0x8040000000000000000000010800000000000000000000000000000000000000000000000000000000000000000000000000000000000000000000000010a87800000)).only ?_⟩
  have hm : sub 0x8040000000000000000000010800000000000000000000000000000000000000000000000000000000000000000000000000000000000000000000000010a87800000 0x8040000000000000000000010800000000000000000000000000000000000000000000000000000000000000000000000000000000000000000000000010a87800000 := Nat.and_self _
  have hz := Within.refl 0x8040000000000000000000010800000000000000000000000000000000000000000000000000000000000000000000000000000000000000000000000010a87800000 s
  repeat' with_reducible (first | assumption | intro _ | exact partOk_refl _ _ _ | apply State.whenUp_touch | apply State.verifyDone_touch | apply within_ite | apply within_ite_fst | split | (dsimp only; split) | apply within_mk)
  all_goals exact sub_le (by decide) hm

theorem execDiscard_only (port : Nat) (s : State) : ∃ u, execDiscard port s = .next u ∧ (effect (.discard port)).Only s u := ⟨_, rfl, State.hostWrite_only _ _ _ _⟩

theorem execSave_only (port slot : Nat) (trial : Bool) (s : State) : ∃ u, execSave port slot trial s = .next u ∧ (effect (.save port slot trial)).Only s u := ⟨_, rfl, State.hostWrite_only _ _ _ _⟩

theorem execSaveComplete_only (ok : Bool) (s : State) : ∃ u, execSaveComplete ok s = .next u ∧ (effect (.saveComplete ok)).Only s u := by
  refine ⟨_, rfl, ((bounds_of (by decide +kernel) : Bounds (Effect.raised.and ⟨[Reg.IMG_STATUS_STAGE, Reg.IMG_BOOT_PREF, Reg.IMG_EVENT_VERIFY_DONE], [.im]⟩) 0x8040000000000000000000010800000000000000000000000000000000000000000000000000000000000000000000000000000000000000000000000011000800000)).only ?_⟩
  have hm : sub 0x8040000000000000000000010800000000000000000000000000000000000000000000000000000000000000000000000000000000000000000000000011000800000 0x8040000000000000000000010800000000000000000000000000000000000000000000000000000000000000000000000000000000000000000000000011000800000 := Nat.and_self _
  have hz := Within.refl 0x8040000000000000000000010800000000000000000000000000000000000000000000000000000000000000000000000000000000000000000000000011000800000 s
  repeat' with_reducible (first | assumption | intro _ | exact partOk_refl _ _ _ | apply State.whenUp_touch | apply State.saveDone_touch | apply within_ite | apply within_ite_fst | split | (dsimp only; split) | apply within_mk)
  all_goals exact sub_le (by decide) hm

theorem execLoad_only (port slot : Nat) (s : State) : ∃ u, execLoad port slot s = .next u ∧ (effect (.load port slot)).Only s u := ⟨_, rfl, State.hostWrite_only _ _ _ _⟩

theorem execConfirm_only (port : Nat) (s : State) : ∃ u, execConfirm port s = .next u ∧ (effect (.confirm port)).Only s u := ⟨_, rfl, State.hostWrite_only _ _ _ _⟩

theorem execRaiseFloor_only (port : Nat) (s : State) : ∃ u, execRaiseFloor port s = .next u ∧ (effect (.raiseFloor port)).Only s u := ⟨_, rfl, State.hostWrite_only _ _ _ _⟩

theorem execKeyProg_only (port slot : Nat) (s : State) : ∃ u, execKeyProg port slot s = .next u ∧ (effect (.keyProg port slot)).Only s u := ⟨_, rfl, State.hostWrite_only _ _ _ _⟩

theorem execKeyRevoke_only (port slot : Nat) (s : State) : ∃ u, execKeyRevoke port slot s = .next u ∧ (effect (.keyRevoke port slot)).Only s u := ⟨_, rfl, State.hostWrite_only _ _ _ _⟩

theorem execImgCommit_only (port : Nat) (value : Word) (s : State) : ∃ u, execImgCommit port value s = .next u ∧ (effect (.imgCommit port value)).Only s u := ⟨_, rfl, State.hostWrite_only _ _ _ _⟩

theorem execStagedCopyDone_only (s : State) : ∃ u, execStagedCopyDone s = .next u ∧ (effect (.stagedCopyDone)).Only s u := by
  refine ⟨_, rfl, ((bounds_of (by decide +kernel) : Bounds (⟨[Reg.RT_STAGED_RATE 0 0], [.im]⟩) 0x8000000000000000000000000000000000000000000000000000000000000000000000000000000000000000000000000000000000000001000000000000000000000)).only ?_⟩
  have hm : sub 0x8000000000000000000000000000000000000000000000000000000000000000000000000000000000000000000000000000000000000001000000000000000000000 0x8000000000000000000000000000000000000000000000000000000000000000000000000000000000000000000000000000000000000001000000000000000000000 := Nat.and_self _
  have hz := Within.refl 0x8000000000000000000000000000000000000000000000000000000000000000000000000000000000000000000000000000000000000001000000000000000000000 s
  repeat' with_reducible (first | assumption | intro _ | exact partOk_refl _ _ _ | apply State.whenUp_touch | apply State.copyDone_touch | apply within_ite | apply within_ite_fst | split | (dsimp only; split) | apply within_mk)
  all_goals exact sub_le (by decide) hm

theorem execActivation_only (s : State) : ∃ u, execActivation s = .next u ∧ (effect (.activation)).Only s u := by
  refine ⟨_, rfl, ((bounds_of (by decide +kernel) : Bounds (Effect.activated.and ⟨[Reg.IMG_KEY_PROGRAMMED, Reg.SEQ_A_SEQ, Reg.SEQ_B_SEQ, Reg.SEQ_LD_SEQ], [.gn, .pw]⟩) 0x3fffc80000361182380000001085fa00001ff80380400040273bff8fd18002041198081007fff800007fff800000000006000002001ff8011c0046c000014f809606a0)).only ?_⟩
  have hm : sub 0x3fffc80000361182380000001085fa00001ff80380400040273bff8fd18002041198081007fff800007fff800000000006000002001ff8011c0046c000014f809606a0 0x3fffc80000361182380000001085fa00001ff80380400040273bff8fd18002041198081007fff800007fff800000000006000002001ff8011c0046c000014f809606a0 := Nat.and_self _
  have hz := Within.refl 0x3fffc80000361182380000001085fa00001ff80380400040273bff8fd18002041198081007fff800007fff800000000006000002001ff8011c0046c000014f809606a0 s
  repeat' with_reducible (first | assumption | intro _ | exact partOk_refl _ _ _ | apply State.whenUp_touch | apply State.activation_touch | apply State.sleepBegins_touch | apply within_ite | apply within_ite_fst | split | (dsimp only; split) | apply within_mk)
  all_goals exact sub_le (by decide) hm

theorem execLaneFault_only (lane checker unit mem addr : Nat) (s : State) : ∃ u, execLaneFault lane checker unit mem addr s = .next u ∧ (effect (.laneFault lane checker unit mem addr)).Only s u := by
  refine ⟨_, rfl, ((bounds_of (by decide +kernel) : Bounds (Effect.recorded.and ⟨[Reg.CW_IRQ_CPL 0, Reg.CW_STR_WR_INDEX 0 0, Reg.CW_STR_DROP_DROP_N 0 0, Reg.IMG_EVENT_VERIFY_DONE, Reg.MAP_EVENT_TILE_MISS, Reg.MAP_COUNT_A_PAINT_LOST, Reg.MAP_COUNT_B_PAINT_UNSURE, Reg.TILE_DIRTY_BAND 0, Reg.LG_EVENT_FULL, Reg.GCH_STATE_STATE 0, Reg.VCH_STATE_STATE 0, Reg.LK_HOLD_LO_HOLD 0, Reg.LK_HOLD_HI_HOLD 0, Reg.LP_EVENT_SLOT_FLAG, Reg.LP_MERGE_MERGE_N, Reg.HOUT_VALUE 0, Reg.SL_STATE_STATE 0, Reg.SL_FLAGS_SAT_ACC 0, Reg.SL_SETP_S 0, Reg.SL_RAMP_R 0, Reg.SL_OUT_VALUE 0 0, Reg.LS_SET_ON 0, Reg.LS_DUTY_DUTY 0, Reg.LS_STATE_OUT_ON 0, Reg.FIO_STATUS_BAR_OK, Reg.FO_SET_ON 0, Reg.FO_DUTY_DUTY 0, Reg.RES_STATE_STATE, Reg.RES_EVENT_TAKEOVER, Reg.RES_CAUSE_LANE, Reg.RES_HSCAUSE_CAUSE, Reg.RES_HSFT_LO_T, Reg.RES_HSFT_HI_T, Reg.RES_CNT_A_TAKEOVER_N, Reg.RES_CNT_B_ECC_CORR_N, Reg.RES_ECCLOG_MEMORY, Reg.RES_ECCADDR_ADDR], [.free, .po, .mp, .lg, .vd, .lk, .lp, .ls, .fd, .bp, .im, .rs]⟩) 0x1fff080000361182000006de7080000000000000005000406800008f400022000180000004000000000000000000000000020000000000010400068000010000140400)).only ?_⟩
  have hm : sub 0x1fff080000361182000006de7080000000000000005000406800008f400022000180000004000000000000000000000000020000000000010400068000010000140400 0x1fff080000361182000006de7080000000000000005000406800008f400022000180000004000000000000000000000000020000000000010400068000010000140400 := Nat.and_self _
  have hz := Within.refl 0x1fff080000361182000006de7080000000000000005000406800008f400022000180000004000000000000000000000000020000000000010400068000010000140400 s
  repeat' with_reducible (first | assumption | intro _ | exact partOk_refl _ _ _ | apply State.whenUp_touch | apply State.laneNamed_touch | apply within_ite | apply within_ite_fst | split | (dsimp only; split) | apply within_mk)
  all_goals exact sub_le (by decide) hm

theorem execLaneDisagreement_only (s : State) : ∃ u, execLaneDisagreement s = .next u ∧ (effect (.laneDisagreement)).Only s u := by
  refine ⟨_, rfl, ((bounds_of (by decide +kernel) : Bounds (Effect.recorded.and ⟨[Reg.CW_IRQ_CPL 0, Reg.CW_STR_WR_INDEX 0 0, Reg.CW_STR_DROP_DROP_N 0 0, Reg.MAP_EVENT_TILE_MISS, Reg.MAP_COUNT_A_PAINT_LOST, Reg.MAP_COUNT_B_PAINT_UNSURE, Reg.TILE_DIRTY_BAND 0, Reg.LG_EVENT_FULL, Reg.VCH_STATE_STATE 0, Reg.LK_HOLD_LO_HOLD 0, Reg.LK_HOLD_HI_HOLD 0, Reg.LP_EVENT_SLOT_FLAG, Reg.HOUT_VALUE 0, Reg.SL_STATE_STATE 0, Reg.SL_FLAGS_SAT_ACC 0, Reg.SL_SETP_S 0, Reg.SL_RAMP_R 0, Reg.SL_OUT_VALUE 0 0, Reg.LS_SET_ON 0, Reg.LS_DUTY_DUTY 0, Reg.LS_STATE_OUT_ON 0, Reg.FIO_STATUS_BAR_OK, Reg.FO_SET_ON 0, Reg.FO_DUTY_DUTY 0, Reg.RES_STATE_STATE, Reg.RES_EVENT_TAKEOVER, Reg.RES_HSCAUSE_CAUSE, Reg.RES_HSFT_LO_T, Reg.RES_HSFT_HI_T], [.free, .mp, .lg, .vd, .lk, .lp, .ls, .fd, .bp, .rs]⟩) 0x17fe0800003611820000001c7080000000000000005000406800008f400002000180000004000000000000000000000000000000000000010400068000000000140400)).only ?_⟩
  have hm : sub 0x17fe0800003611820000001c7080000000000000005000406800008f400002000180000004000000000000000000000000000000000000010400068000000000140400 0x17fe0800003611820000001c7080000000000000005000406800008f400002000180000004000000000000000000000000000000000000010400068000000000140400 := Nat.and_self _
  have hz := Within.refl 0x17fe0800003611820000001c7080000000000000005000406800008f400002000180000004000000000000000000000000000000000000010400068000000000140400 s
  repeat' with_reducible (first | assumption | intro _ | exact partOk_refl _ _ _ | apply State.whenUp_touch | apply State.laneDisagree_touch | apply within_ite | apply within_ite_fst | split | (dsimp only; split) | apply within_mk)
  all_goals exact sub_le (by decide) hm

theorem execLaneSelfTestDone_only (pass : Bool) (s : State) : ∃ u, execLaneSelfTestDone pass s = .next u ∧ (effect (.laneSelfTestDone pass)).Only s u := by
  refine ⟨_, rfl, ((bounds_of (by decide +kernel) : Bounds (Effect.raised.and ⟨[Reg.RES_STATE_STATE, Reg.RES_EVENT_TAKEOVER, Reg.RES_CNT_A_TAKEOVER_N], [.rs]⟩) 0x10040000000000000000004070800000000000000000000000000000000000000000000000000000000000000000000000000000000000000000000000000000000000)).only ?_⟩
  have hm : sub 0x10040000000000000000004070800000000000000000000000000000000000000000000000000000000000000000000000000000000000000000000000000000000000 0x10040000000000000000004070800000000000000000000000000000000000000000000000000000000000000000000000000000000000000000000000000000000000 := Nat.and_self _
  have hz := Within.refl 0x10040000000000000000004070800000000000000000000000000000000000000000000000000000000000000000000000000000000000000000000000000000000000 s
  repeat' with_reducible (first | assumption | intro _ | exact partOk_refl _ _ _ | apply State.whenUp_touch | apply State.laneTested_touch | apply within_ite | apply within_ite_fst | split | (dsimp only; split) | apply within_mk)
  all_goals exact sub_le (by decide) hm

theorem execLaneCopyDone_only (s : State) : ∃ u, execLaneCopyDone s = .next u ∧ (effect (.laneCopyDone)).Only s u := by
  refine ⟨_, rfl, ((bounds_of (by decide +kernel) : Bounds (⟨[], [.rs]⟩) 0x10000000000000000000000000000000000000000000000000000000000000000000000000000000000000000000000000000000000000000000000000000000000000)).only ?_⟩
  have hm : sub 0x10000000000000000000000000000000000000000000000000000000000000000000000000000000000000000000000000000000000000000000000000000000000000 0x10000000000000000000000000000000000000000000000000000000000000000000000000000000000000000000000000000000000000000000000000000000000000 := Nat.and_self _
  have hz := Within.refl 0x10000000000000000000000000000000000000000000000000000000000000000000000000000000000000000000000000000000000000000000000000000000000000 s
  repeat' with_reducible (first | assumption | intro _ | exact partOk_refl _ _ _ | apply State.whenUp_touch | apply State.laneCopied_touch | apply within_ite | apply within_ite_fst | split | (dsimp only; split) | apply within_mk)
  all_goals exact sub_le (by decide) hm

theorem execTakeoverEnd_only (s : State) : ∃ u, execTakeoverEnd s = .next u ∧ (effect (.takeoverEnd)).Only s u := by
  refine ⟨_, rfl, ((bounds_of (by decide +kernel) : Bounds (Effect.recorded.and ⟨[Reg.CW_RING_EN 0, Reg.CW_CQ_TAIL_INDEX 0, Reg.CW_IRQ_CPL 0, Reg.CW_STR_WR_INDEX 0 0, Reg.CW_STR_DROP_DROP_N 0 0, Reg.MAP_EVENT_TILE_MISS, Reg.MAP_COUNT_A_PAINT_LOST, Reg.MAP_COUNT_B_PAINT_UNSURE, Reg.TILE_DIRTY_BAND 0, Reg.LJ_OPEN_JIT 0, Reg.LJ_CLOSE_JIT 0, Reg.GCH_STATE_STATE 0, Reg.OT_LRN_OPEN_LRN 0, Reg.OT_LRN_CLOSE_LRN 0, Reg.OT_STATE_OWNER 0, Reg.ND_DIAG_OUT 0 0, Reg.ND_DIAGV_VALUE 0 0, Reg.SL_STATE_STATE 0, Reg.SL_RAMP_R 0, Reg.FIO_EVENT_BAR_LOST, Reg.FIO_COS_COS 0, Reg.FO_FAULT_OVERLOAD 0, Reg.BP_EVENT_BUS_OFF 0, Reg.BP_CNT_E_NOMATCH_N 0, Reg.BP_CNT_F_LOST_N 0, Reg.CTX_CNT_REFUSED_N 0, Reg.RES_STATE_STATE, Reg.RES_EVENT_TAKEOVER, Reg.RES_TIMES_LAST], [.gn, .mp, .lg, .lp, .bp, .rs]⟩) 0x149e8000003611820000002070810000000003040100208000000009000000300000000000000000004600000000000000020000001800000400068000000000140620)).only ?_⟩
  have hm : sub 0x149e8000003611820000002070810000000003040100208000000009000000300000000000000000004600000000000000020000001800000400068000000000140620 0x149e8000003611820000002070810000000003040100208000000009000000300000000000000000004600000000000000020000001800000400068000000000140620 := Nat.and_self _
  have hz := Within.refl 0x149e8000003611820000002070810000000003040100208000000009000000300000000000000000004600000000000000020000001800000400068000000000140620 s
  repeat' with_reducible (first | assumption | intro _ | exact partOk_refl _ _ _ | apply State.whenUp_touch | apply State.takeoverEnds_touch | apply within_ite | apply within_ite_fst | split | (dsimp only; split) | apply within_mk)
  all_goals exact sub_le (by decide) hm

theorem execFireCompare_only (differs ecc addr : Nat) (s : State) : ∃ u, execFireCompare differs ecc addr s = .next u ∧ (effect (.fireCompare differs ecc addr)).Only s u := by
  refine ⟨_, rfl, ((bounds_of (by decide +kernel) : Bounds (Effect.recorded.and ⟨[Reg.CW_IRQ_CPL 0, Reg.CW_STR_WR_INDEX 0 0, Reg.CW_STR_DROP_DROP_N 0 0, Reg.MAP_EVENT_TILE_MISS, Reg.MAP_COUNT_A_PAINT_LOST, Reg.MAP_COUNT_B_PAINT_UNSURE, Reg.TILE_DIRTY_BAND 0, Reg.LG_EVENT_FULL, Reg.VCH_STATE_STATE 0, Reg.LK_HOLD_LO_HOLD 0, Reg.LK_HOLD_HI_HOLD 0, Reg.LP_EVENT_SLOT_FLAG, Reg.HOUT_VALUE 0, Reg.SL_STATE_STATE 0, Reg.SL_FLAGS_SAT_ACC 0, Reg.SL_SETP_S 0, Reg.SL_RAMP_R 0, Reg.SL_OUT_VALUE 0 0, Reg.LS_SET_ON 0, Reg.LS_DUTY_DUTY 0, Reg.LS_STATE_OUT_ON 0, Reg.FIO_STATUS_BAR_OK, Reg.FO_SET_ON 0, Reg.FO_DUTY_DUTY 0, Reg.RES_STATE_STATE, Reg.RES_EVENT_TAKEOVER, Reg.RES_HSCAUSE_CAUSE, Reg.RES_HSFT_LO_T, Reg.RES_HSFT_HI_T, Reg.RES_CNT_B_ECC_CORR_N, Reg.RES_CNT_C_FIRE_COPY_N, Reg.RES_ECCLOG_MEMORY, Reg.RES_ECCADDR_ADDR], [.free, .mp, .lg, .vd, .lk, .lp, .ls, .fd, .bp, .rs]⟩) 0x17fe0800003611820000079c7080000000000000005000406800008f400002000180000004000000000000000000000000000000000000010400068000000000140400)).only ?_⟩
  have hm : sub 0x17fe0800003611820000079c7080000000000000005000406800008f400002000180000004000000000000000000000000000000000000010400068000000000140400 0x17fe0800003611820000079c7080000000000000005000406800008f400002000180000004000000000000000000000000000000000000010400068000000000140400 := Nat.and_self _
  have hz := Within.refl 0x17fe0800003611820000079c7080000000000000005000406800008f400002000180000004000000000000000000000000000000000000010400068000000000140400 s
  repeat' with_reducible (first | assumption | intro _ | exact partOk_refl _ _ _ | apply State.whenUp_touch | apply State.fireCompare_touch | apply within_ite | apply within_ite_fst | split | (dsimp only; split) | apply within_mk)
  all_goals exact sub_le (by decide) hm

theorem execFireReloadDone_only (copy : Nat) (ok : Bool) (s : State) : ∃ u, execFireReloadDone copy ok s = .next u ∧ (effect (.fireReloadDone copy ok)).Only s u := by
  refine ⟨_, rfl, ((bounds_of (by decide +kernel) : Bounds (Effect.recorded.and ⟨[Reg.RES_STATE_STATE], [.rs]⟩) 0x10060000003611820000000030800000000000000000000000000000000000000000000000000000000000000000000000000000000000000000000000000000000000)).only ?_⟩
  have hm : sub 0x10060000003611820000000030800000000000000000000000000000000000000000000000000000000000000000000000000000000000000000000000000000000000 0x10060000003611820000000030800000000000000000000000000000000000000000000000000000000000000000000000000000000000000000000000000000000000 := Nat.and_self _
  have hz := Within.refl 0x10060000003611820000000030800000000000000000000000000000000000000000000000000000000000000000000000000000000000000000000000000000000000 s
  repeat' with_reducible (first | assumption | intro _ | exact partOk_refl _ _ _ | apply State.whenUp_touch | apply State.fireReloaded_touch | apply within_ite | apply within_ite_fst | split | (dsimp only; split) | apply within_mk)
  all_goals exact sub_le (by decide) hm

theorem execStopRelease_only (port : Nat) (s : State) : ∃ u, execStopRelease port s = .next u ∧ (effect (.stopRelease port)).Only s u := ⟨_, rfl, State.hostWrite_only _ _ _ _⟩

theorem execHsClear_only (port : Nat) (s : State) : ∃ u, execHsClear port s = .next u ∧ (effect (.hsClear port)).Only s u := ⟨_, rfl, State.hostWrite_only _ _ _ _⟩

theorem execLaneRetry_only (port : Nat) (s : State) : ∃ u, execLaneRetry port s = .next u ∧ (effect (.laneRetry port)).Only s u := ⟨_, rfl, State.hostWrite_only _ _ _ _⟩

theorem execFireRetry_only (port : Nat) (s : State) : ∃ u, execFireRetry port s = .next u ∧ (effect (.fireRetry port)).Only s u := ⟨_, rfl, State.hostWrite_only _ _ _ _⟩

theorem execMemoryScrub_only (memory : Nat) (errors : List ScrubIn) (s : State) : ∃ u, execMemoryScrub memory errors s = .next u ∧ (effect (.memoryScrub memory errors)).Only s u := by
  refine ⟨_, rfl, ((bounds_of (by decide +kernel) : Bounds (Effect.recorded.and ⟨[Reg.CW_IRQ_CPL 0, Reg.CW_STR_WR_INDEX 0 0, Reg.CW_STR_DROP_DROP_N 0 0, Reg.IMG_BOOT_PREF, Reg.IMG_KEY_PROGRAMMED, Reg.IMG_EVENT_VERIFY_DONE, Reg.BB_STATUS_BB_PRESENT, Reg.BANK_STAT_FENCED, Reg.MAP_EVENT_TILE_MISS, Reg.MAP_COUNT_A_PAINT_LOST, Reg.MAP_COUNT_B_PAINT_UNSURE, Reg.TILE_CTRL_STATE 0, Reg.TILE_DIRTY_BAND 0, Reg.LG_EVENT_FULL, Reg.GCH_STATE_STATE 0, Reg.GCH_EVENT_ACQ_FAIL 0, Reg.GCH_CARR_NCO_INC 0, Reg.GCH_CODE_NCO_INC 0, Reg.GCH_MP_MP_CORR 0, Reg.VCH_STATE_STATE 0, Reg.LK_HOLD_LO_HOLD 0, Reg.LK_HOLD_HI_HOLD 0, Reg.LP_EVENT_SLOT_FLAG, Reg.LP_MERGE_MERGE_N, Reg.HOUT_VALUE 0, Reg.SL_STATE_STATE 0, Reg.SL_FLAGS_SAT_ACC 0, Reg.SL_SETP_S 0, Reg.SL_RAMP_R 0, Reg.SL_OUT_VALUE 0 0, Reg.LS_SET_ON 0, Reg.LS_DUTY_DUTY 0, Reg.LS_STATE_OUT_ON 0, Reg.FIO_STATUS_BAR_OK, Reg.FO_SET_ON 0, Reg.FO_DUTY_DUTY 0, Reg.RES_STATE_STATE, Reg.RES_EVENT_TAKEOVER, Reg.RES_CAUSE_LANE, Reg.RES_HSCAUSE_CAUSE, Reg.RES_HSFT_LO_T, Reg.RES_HSFT_HI_T, Reg.RES_CNT_A_TAKEOVER_N, Reg.RES_CNT_B_ECC_CORR_N, Reg.RES_CNT_C_FIRE_COPY_N, Reg.RES_ECCLOG_MEMORY, Reg.RES_ECCADDR_ADDR, Reg.CV_STATUS_COUNT], [.free, .tb, .gn, .po, .mp, .lg, .vd, .lk, .lp, .ls, .fd, .bp, .im, .rs, .pw]⟩) 0x3fffc80000361186000007de7080000000000000005000406800008f4000220001800000040000000000000000000000009e0000000000010600068104015000140400)).only ?_⟩
  have hm : sub 0x3fffc80000361186000007de7080000000000000005000406800008f4000220001800000040000000000000000000000009e0000000000010600068104015000140400 0x3fffc80000361186000007de7080000000000000005000406800008f4000220001800000040000000000000000000000009e0000000000010600068104015000140400 := Nat.and_self _
  have hz := Within.refl 0x3fffc80000361186000007de7080000000000000005000406800008f4000220001800000040000000000000000000000009e0000000000010600068104015000140400 s
  repeat' with_reducible (first | assumption | intro _ | exact partOk_refl _ _ _ | apply State.whenUp_touch | apply State.scrub_touch | apply within_ite | apply within_ite_fst | split | (dsimp only; split) | apply within_mk)
  all_goals exact sub_le (by decide) hm

theorem execReferenceCompare_only (g : Nat) (d01 d0a d1a : Int) (present : Nat) (s : State) : ∃ u, execReferenceCompare g d01 d0a d1a present s = .next u ∧ (effect (.referenceCompare g d01 d0a d1a present)).Only s u := by
  refine ⟨_, rfl, ((bounds_of (by decide +kernel) : Bounds (Effect.recorded.and ⟨[Reg.RES_EVENT_TAKEOVER, Reg.REF_STAT_IN_VOTE 0, Reg.REF_D01_D 0, Reg.REF_D0A_D 0, Reg.REF_D1A_D 0], [.rs]⟩) 0x10060000003611820000780050800000000000000000000000000000000000000000000000000000000000000000000000000000000000000000000000000000000000)).only ?_⟩
  have hm : sub 0x10060000003611820000780050800000000000000000000000000000000000000000000000000000000000000000000000000000000000000000000000000000000000 0x10060000003611820000780050800000000000000000000000000000000000000000000000000000000000000000000000000000000000000000000000000000000000 := Nat.and_self _
  have hz := Within.refl 0x10060000003611820000780050800000000000000000000000000000000000000000000000000000000000000000000000000000000000000000000000000000000000 s
  repeat' with_reducible (first | assumption | intro _ | exact partOk_refl _ _ _ | apply State.whenUp_touch | apply State.refCompare_touch | apply within_ite | apply within_ite_fst | split | (dsimp only; split) | apply within_mk)
  all_goals exact sub_le (by decide) hm

theorem execCanvasFullRewrite_only (s : State) : ∃ u, execCanvasFullRewrite s = .next u ∧ (effect (.canvasFullRewrite)).Only s u := by
  refine ⟨_, rfl, ((bounds_of (by decide +kernel) : Bounds (⟨[], [.rc]⟩) 0x20000000000000000000000000000000000000000000000000000000000000000000000000000000000000000000000000000000000000000000000000000000000)).only ?_⟩
  have hm : sub 0x20000000000000000000000000000000000000000000000000000000000000000000000000000000000000000000000000000000000000000000000000000000000 0x20000000000000000000000000000000000000000000000000000000000000000000000000000000000000000000000000000000000000000000000000000000000 := Nat.and_self _
  have hz := Within.refl 0x20000000000000000000000000000000000000000000000000000000000000000000000000000000000000000000000000000000000000000000000000000000000 s
  repeat' with_reducible (first | assumption | intro _ | exact partOk_refl _ _ _ | apply State.whenUp_touch | apply State.canvasRewrite_touch | apply within_ite | apply within_ite_fst | split | (dsimp only; split) | apply within_mk)
  all_goals exact sub_le (by decide) hm

theorem execCanvasWrite_only (s : State) : ∃ u, execCanvasWrite s = .next u ∧ (effect (.canvasWrite)).Only s u := by
  refine ⟨_, rfl, ((bounds_of (by decide +kernel) : Bounds (Effect.raised.and ⟨[Reg.REC_EVENT_FULL, Reg.CV_STATUS_COUNT, Reg.CV_DROPPED_DROPPED, Reg.MU_WRITTEN_WRITTEN, Reg.MU_SKIP_SKIP_N, Reg.PMC_OVF_LO_OVF, Reg.PMC_OVF_HI_OVF, Reg.PMC_LO_COUNT 0, Reg.PMC_HI_COUNT 0], [.rc]⟩) 0x600000036110e0000000010800000000000000000000000000000000000000000000000000000000000000000000000000000000000000000000000000000000000)).only ?_⟩
  have hm : sub 0x600000036110e0000000010800000000000000000000000000000000000000000000000000000000000000000000000000000000000000000000000000000000000 0x600000036110e0000000010800000000000000000000000000000000000000000000000000000000000000000000000000000000000000000000000000000000000 := Nat.and_self _
  have hz := Within.refl 0x600000036110e0000000010800000000000000000000000000000000000000000000000000000000000000000000000000000000000000000000000000000000000 s
  repeat' with_reducible (first | assumption | intro _ | exact partOk_refl _ _ _ | apply State.whenUp_touch | apply State.canvasStep_touch | apply within_ite | apply within_ite_fst | split | (dsimp only; split) | apply within_mk)
  all_goals exact sub_le (by decide) hm

theorem execCvErase_only (port : Nat) (value : Word) (s : State) : ∃ u, execCvErase port value s = .next u ∧ (effect (.cvErase port value)).Only s u := ⟨_, rfl, State.hostWrite_only _ _ _ _⟩

theorem execEraseDone_only (s : State) : ∃ u, execEraseDone s = .next u ∧ (effect (.eraseDone)).Only s u := by
  refine ⟨_, rfl, ((bounds_of (by decide +kernel) : Bounds (Effect.recorded.and ⟨[Reg.SEQ_A_SEQ, Reg.SEQ_B_SEQ, Reg.SEQ_LD_SEQ, Reg.CV_STATUS_COUNT, Reg.CV_DROPPED_DROPPED], [.tb, .gn, .pw]⟩) 0x2006c0000036118e3800000010800000000000000000000000000000000000000000000000000000000000000000000000000000000000000000000000000000000000)).only ?_⟩
  have hm : sub 0x2006c0000036118e3800000010800000000000000000000000000000000000000000000000000000000000000000000000000000000000000000000000000000000000 0x2006c0000036118e3800000010800000000000000000000000000000000000000000000000000000000000000000000000000000000000000000000000000000000000 := Nat.and_self _
  have hz := Within.refl 0x2006c0000036118e3800000010800000000000000000000000000000000000000000000000000000000000000000000000000000000000000000000000000000000000 s
  repeat' with_reducible (first | assumption | intro _ | exact partOk_refl _ _ _ | apply State.whenUp_touch | apply State.eraseDone_touch | apply State.sleepBegins_touch | apply within_ite | apply within_ite_fst | split | (dsimp only; split) | apply within_mk)
  all_goals exact sub_le (by decide) hm

theorem execTagDataAccess_only (port : Nat) (write : Option Word) (s : State) : ∃ u, execTagDataAccess port write s = .next u ∧ (effect (.tagDataAccess port write)).Only s u := ⟨_, rfl, State.hostAccess_only _ _ _ _⟩

theorem execPmcRun_only (port : Nat) (value : Word) (s : State) : ∃ u, execPmcRun port value s = .next u ∧ (effect (.pmcRun port value)).Only s u := ⟨_, rfl, State.hostWrite_only _ _ _ _⟩

theorem execPmcClear_only (port : Nat) (s : State) : ∃ u, execPmcClear port s = .next u ∧ (effect (.pmcClear port)).Only s u := ⟨_, rfl, State.hostField_only _ _ _ _ _ _⟩

theorem execSmpEnWrite_only (port : Nat) (value : Word) (s : State) : ∃ u, execSmpEnWrite port value s = .next u ∧ (effect (.smpEnWrite port value)).Only s u := ⟨_, rfl, State.hostWrite_only _ _ _ _⟩

theorem execBankDataRead_only (port : Nat) (s : State) : ∃ u, execBankDataRead port s = .next u ∧ (effect (.bankDataRead port)).Only s u := ⟨_, rfl, State.hostRead_only _ _ _⟩

theorem execSuperPeriodStart_only (s : State) : ∃ u, execSuperPeriodStart s = .next u ∧ (effect (.superPeriodStart)).Only s u := by
  refine ⟨_, rfl, ((bounds_of (by decide +kernel) : Bounds (⟨[Reg.PWM_ACT_PERIOD_PERIOD 0, Reg.AUXPWM_ACT_PERIOD_PERIOD 0], [.tb, .vd]⟩) 0x204000000000000000000000000000000000000000000000000000000000000002040000000000000000000000000000000000000000000000000000000000000000)).only ?_⟩
  have hm : sub 0x204000000000000000000000000000000000000000000000000000000000000002040000000000000000000000000000000000000000000000000000000000000000 0x204000000000000000000000000000000000000000000000000000000000000002040000000000000000000000000000000000000000000000000000000000000000 := Nat.and_self _
  have hz := Within.refl 0x204000000000000000000000000000000000000000000000000000000000000002040000000000000000000000000000000000000000000000000000000000000000 s
  repeat' with_reducible (first | assumption | intro _ | exact partOk_refl _ _ _ | apply State.whenUp_touch | apply State.superPeriod_touch | apply within_ite | apply within_ite_fst | split | (dsimp only; split) | apply within_mk)
  all_goals exact sub_le (by decide) hm

theorem execInternalLinkHandshake_only (die : Nat) (s : State) : ∃ u, execInternalLinkHandshake die s = .next u ∧ (effect (.internalLinkHandshake die)).Only s u := by
  refine ⟨_, rfl, ((bounds_of (by decide +kernel) : Bounds (⟨[Reg.VD_STATUS_DIEA_LINK, Reg.VCH_STATE_STATE 0, Reg.LS_STATUS_SW_LINK, Reg.RES_STATE_STATE], [.vd]⟩) 0x200000000000000000000020000000000000000000000000200000000000000000000004000000100000000000000000000000000000000000000000000000000000)).only ?_⟩
  have hm : sub 0x200000000000000000000020000000000000000000000000200000000000000000000004000000100000000000000000000000000000000000000000000000000000 0x200000000000000000000020000000000000000000000000200000000000000000000004000000100000000000000000000000000000000000000000000000000000 := Nat.and_self _
  have hz := Within.refl 0x200000000000000000000020000000000000000000000000200000000000000000000004000000100000000000000000000000000000000000000000000000000000 s
  repeat' with_reducible (first | assumption | intro _ | exact partOk_refl _ _ _ | apply State.whenUp_touch | apply State.dieHandshake_touch | apply within_ite | apply within_ite_fst | split | (dsimp only; split) | apply within_mk)
  all_goals exact sub_le (by decide) hm

theorem execBstOvEnd_only (b : Nat) (s : State) : ∃ u, execBstOvEnd b s = .next u ∧ (effect (.bstOvEnd b)).Only s u := by
  refine ⟨_, rfl, ((bounds_of (by decide +kernel) : Bounds (⟨[Reg.BST_STAT_BST_OFF 0], []⟩) 0x100000000000000000000000000000000000000000000000000000000)).only ?_⟩
  have hm : sub 0x100000000000000000000000000000000000000000000000000000000 0x100000000000000000000000000000000000000000000000000000000 := Nat.and_self _
  have hz := Within.refl 0x100000000000000000000000000000000000000000000000000000000 s
  repeat' with_reducible (first | assumption | intro _ | exact partOk_refl _ _ _ | apply State.inRangeUp_touch | apply State.bstOvEnd_touch | apply within_ite | apply within_ite_fst | split | (dsimp only; split) | apply within_mk)
  all_goals exact sub_le (by decide) hm

theorem execVbatUndervoltageRecovery_only (s : State) : ∃ u, execVbatUndervoltageRecovery s = .next u ∧ (effect (.vbatUndervoltageRecovery)).Only s u := by
  refine ⟨_, rfl, ((bounds_of (by decide +kernel) : Bounds (Effect.raised.and ⟨[Reg.MAP_EVENT_TILE_MISS, Reg.MAP_COUNT_A_PAINT_LOST, Reg.MAP_COUNT_B_PAINT_UNSURE, Reg.TILE_DIRTY_BAND 0, Reg.LS_STATUS_SW_LINK, Reg.LS_STATE_OUT_ON 0, Reg.REC_EVENT_FULL, Reg.PMC_OVF_LO_OVF, Reg.PMC_OVF_HI_OVF, Reg.PMC_LO_COUNT 0, Reg.PMC_HI_COUNT 0], [.free, .mp, .ls]⟩) 0x10c0800003600020000000010800000000000000000000040200000000000000000000000000000000000000000000000000000000000000400068000000000000000)).only ?_⟩
  have hm : sub 0x10c0800003600020000000010800000000000000000000040200000000000000000000000000000000000000000000000000000000000000400068000000000000000 0x10c0800003600020000000010800000000000000000000040200000000000000000000000000000000000000000000000000000000000000400068000000000000000 := Nat.and_self _
  have hz := Within.refl 0x10c0800003600020000000010800000000000000000000040200000000000000000000000000000000000000000000000000000000000000400068000000000000000 s
  repeat' with_reducible (first | assumption | intro _ | exact partOk_refl _ _ _ | apply State.underVoltageEnd_touch | apply within_ite | apply within_ite_fst | split | (dsimp only; split) | apply within_mk)
  all_goals exact sub_le (by decide) hm

theorem execLsThermalRestart_only (n : Nat) (tj : Int) (s : State) : ∃ u, execLsThermalRestart n tj s = .next u ∧ (effect (.lsThermalRestart n tj)).Only s u := by
  refine ⟨_, rfl, ((bounds_of (by decide +kernel) : Bounds (Effect.raised.and ⟨[Reg.MAP_EVENT_TILE_MISS, Reg.MAP_COUNT_A_PAINT_LOST, Reg.MAP_COUNT_B_PAINT_UNSURE, Reg.TILE_DIRTY_BAND 0, Reg.LS_STATE_OUT_ON 0, Reg.LS_TEMP_TJ 0, Reg.LS_CNT_RETRY_CNT 0, Reg.REC_EVENT_FULL, Reg.PMC_OVF_LO_OVF, Reg.PMC_OVF_HI_OVF, Reg.PMC_LO_COUNT 0, Reg.PMC_HI_COUNT 0], [.free, .mp, .ls]⟩) 0x10c0800003600020000000010800000000000000000002840000000000000000000000000000000000000000000000000000000000000000400068000000000000000)).only ?_⟩
  have hm : sub 0x10c0800003600020000000010800000000000000000002840000000000000000000000000000000000000000000000000000000000000000400068000000000000000 0x10c0800003600020000000010800000000000000000002840000000000000000000000000000000000000000000000000000000000000000400068000000000000000 := Nat.and_self _
  have hz := Within.refl 0x10c0800003600020000000010800000000000000000002840000000000000000000000000000000000000000000000000000000000000000400068000000000000000 s
  repeat' with_reducible (first | assumption | intro _ | exact partOk_refl _ _ _ | apply State.inRangeOf_touch | apply State.lsRestart_touch | apply within_ite | apply within_ite_fst | split | (dsimp only; split) | apply within_mk)
  all_goals exact sub_le (by decide) hm

theorem execOutputOvertempRestart_only (m : Nat) (s : State) : ∃ u, execOutputOvertempRestart m s = .next u ∧ (effect (.outputOvertempRestart m)).Only s u := by
  refine ⟨_, rfl, ((bounds_of (by decide +kernel) : Bounds (⟨[], [.fd]⟩) 0x2000000000000000000000000000000000000000000000000000000000000000000000000000000000000000000000000000000000000000000000000000000000000)).only ?_⟩
  have hm : sub 0x2000000000000000000000000000000000000000000000000000000000000000000000000000000000000000000000000000000000000000000000000000000000000 0x2000000000000000000000000000000000000000000000000000000000000000000000000000000000000000000000000000000000000000000000000000000000000 := Nat.and_self _
  have hz := Within.refl 0x2000000000000000000000000000000000000000000000000000000000000000000000000000000000000000000000000000000000000000000000000000000000000 s
  repeat' with_reducible (first | assumption | intro _ | exact partOk_refl _ _ _ | apply State.inRangeOf_touch | apply State.overtempEnd_touch | apply within_ite | apply within_ite_fst | split | (dsimp only; split) | apply within_mk)
  all_goals exact sub_le (by decide) hm

theorem execVfieldUvRecovery_only (s : State) : ∃ u, execVfieldUvRecovery s = .next u ∧ (effect (.vfieldUvRecovery)).Only s u := by
  refine ⟨_, rfl, ((bounds_of (by decide +kernel) : Bounds (⟨[], [.fd]⟩) 0x2000000000000000000000000000000000000000000000000000000000000000000000000000000000000000000000000000000000000000000000000000000000000)).only ?_⟩
  have hm : sub 0x2000000000000000000000000000000000000000000000000000000000000000000000000000000000000000000000000000000000000000000000000000000000000 0x2000000000000000000000000000000000000000000000000000000000000000000000000000000000000000000000000000000000000000000000000000000000000 := Nat.and_self _
  have hz := Within.refl 0x2000000000000000000000000000000000000000000000000000000000000000000000000000000000000000000000000000000000000000000000000000000000000 s
  repeat' with_reducible (first | assumption | intro _ | exact partOk_refl _ _ _ | apply State.fieldUvEnd_touch | apply within_ite | apply within_ite_fst | split | (dsimp only; split) | apply within_mk)
  all_goals exact sub_le (by decide) hm

theorem execShadowWriteDone_only (die : Nat) (ok : Bool) (s : State) : ∃ u, execShadowWriteDone die ok s = .next u ∧ (effect (.shadowWriteDone die ok)).Only s u := by
  refine ⟨_, rfl, ((bounds_of (by decide +kernel) : Bounds (⟨[Reg.LS_STATUS_SW_LINK, Reg.FIO_STATUS_BAR_OK], [.ls, .fd]⟩) 0x3000000000000000000000000000000000000000000004000200000000000000000000000000000000000000000000000000000000000000000000000000000000000)).only ?_⟩
  have hm : sub 0x3000000000000000000000000000000000000000000004000200000000000000000000000000000000000000000000000000000000000000000000000000000000000 0x3000000000000000000000000000000000000000000004000200000000000000000000000000000000000000000000000000000000000000000000000000000000000 := Nat.and_self _
  have hz := Within.refl 0x3000000000000000000000000000000000000000000004000200000000000000000000000000000000000000000000000000000000000000000000000000000000000 s
  repeat' with_reducible (first | assumption | intro _ | exact partOk_refl _ _ _ | apply State.lsShadowDone_touch | apply State.fdShadowDone_touch | apply within_ite | apply within_ite_fst | split | (dsimp only; split) | apply within_mk)
  all_goals exact sub_le (by decide) hm

theorem execMasterReferenceDue_only (port : Nat) (s : State) : ∃ u, execMasterReferenceDue port s = .next u ∧ (effect (.masterReferenceDue port)).Only s u := by
  refine ⟨_, rfl, ((bounds_of (by decide +kernel) : Bounds (⟨[], [.bp]⟩) 0x4000000000000000000000000000000000000000000000000000000000000000000000000000000000000000000000000000000000000000000000000000000000000)).only ?_⟩
  have hm : sub 0x4000000000000000000000000000000000000000000000000000000000000000000000000000000000000000000000000000000000000000000000000000000000000 0x4000000000000000000000000000000000000000000000000000000000000000000000000000000000000000000000000000000000000000000000000000000000000 := Nat.and_self _
  have hz := Within.refl 0x4000000000000000000000000000000000000000000000000000000000000000000000000000000000000000000000000000000000000000000000000000000000000 s
  repeat' with_reducible (first | assumption | intro _ | exact partOk_refl _ _ _ | apply State.inRangeUp_touch | apply State.refDue_touch | apply within_ite | apply within_ite_fst | split | (dsimp only; split) | apply within_mk)
  all_goals exact sub_le (by decide) hm

theorem execStateBankSaveDone_only (ok : Bool) (s : State) : ∃ u, execStateBankSaveDone ok s = .next u ∧ (effect (.stateBankSaveDone ok)).Only s u := by
  refine ⟨_, rfl, ((bounds_of (by decide +kernel) : Bounds (Effect.recorded.and ⟨[Reg.MAP_EVENT_TILE_MISS, Reg.MAP_COUNT_A_PAINT_LOST, Reg.MAP_COUNT_B_PAINT_UNSURE, Reg.TILE_DIRTY_BAND 0, Reg.VD_CTRL_GATE_COMP_EN, Reg.VD_STATUS_DIEA_LINK, Reg.VD_EVENT_CH_FAULT, Reg.VD_GATECOMP_LAT_A, Reg.DBG_CFG_HALT_OFF, Reg.SP_PERIOD_PERIOD, Reg.LOADALL_UNITS 0, Reg.LOADALL_AUX_AUX, Reg.BST_CTRL_BST_EN 0, Reg.BST_SET_SET 0, Reg.BST_SLEW_SLEW 0, Reg.BST_REF_REF 0, Reg.BST_MEAS_MEAS 0, Reg.BST_STAT_BST_OFF 0, Reg.TRIP_CFG_EN 0, Reg.TRIP_MASK_CH 0 0, Reg.PF_CFG_NPH 0, Reg.PF_PULL_I_PULL 0, Reg.PF_MOVE_I_MOVE 0, Reg.PF_OC_OC_LIM 0, Reg.PF_RISE_RISE_MIN 0, Reg.PF_WIN_O_WIN_PRE 0, Reg.PF_WIN_C_WIN_PRE 0, Reg.PF_KINK_KINK_THR 0, Reg.PF_DIP_DIP_THR 0, Reg.PF_DW_DW_LIM 0, Reg.PH_CFG_KIND 0 0, Reg.PH_ITGT_ITGT 0 0, Reg.PH_BAND_BAND 0 0, Reg.PH_TMAX_TMAX 0 0, Reg.VCH_CFG_OUTLET 0, Reg.VCH_STATE_STATE 0, Reg.VCH_FAULT_OPEN_COIL 0, Reg.VCH_CLEAR_UNLATCH 0, Reg.VCH_IMEAS_I 0, Reg.VCH_VMEAS_V 0, Reg.VCH_HEAT_RATIO 0, Reg.VCH_DW_DW_WIN 0, Reg.VCH_SEAL_CODE 0, Reg.VCH_KPEAK_PEAK 0, Reg.VCH_CNT_UNSEATED_N 0, Reg.PWM_CTRL_LEDGER 0, Reg.PWM_CHOP_CHOP_PER 0, Reg.PWM_PERIOD_PERIOD 0, Reg.PWM_DUTY_DUTY 0, Reg.PWM_PHASE_PHASE 0, Reg.PWM_ACT_DUTY_DUTY 0, Reg.PWM_ACT_PERIOD_PERIOD 0, Reg.AUXPWM_CTRL_LEDGER 0, Reg.AUXPWM_CHOP_CHOP_PER 0, Reg.AUXPWM_PERIOD_PERIOD 0, Reg.AUXPWM_DUTY_DUTY 0, Reg.AUXPWM_PHASE_PHASE 0, Reg.AUXPWM_ACT_DUTY_DUTY 0, Reg.AUXPWM_ACT_PERIOD_PERIOD 0, Reg.LS_STATUS_SW_LINK, Reg.LS_EVENT_TSD, Reg.LS_STATE_OUT_ON 0, Reg.BP_STATUS_STATE 0, Reg.PWR_STATUS_READY, Reg.PWR_EVENT_START_FAIL, Reg.PWR_AOLOG_PG_MISSING, Reg.SEQ_A_SEQ, Reg.SEQ_B_SEQ, Reg.SEQ_LD_SEQ, Reg.PWR_TIMES_READY_T, Reg.CV_STATUS_COUNT, Reg.CV_DROPPED_DROPPED], [.free, .tb, .gn, .mp, .vd, .ls, .fd, .im, .pw]⟩) 0x2b2ec8000036118e7803800010800000000000010000000040600000000000000003fffffffffffff80000000000000000000000000000000400068000000000000000)).only ?_⟩
  have hm : sub 0x2b2ec8000036118e7803800010800000000000010000000040600000000000000003fffffffffffff80000000000000000000000000000000400068000000000000000 0x2b2ec8000036118e7803800010800000000000010000000040600000000000000003fffffffffffff80000000000000000000000000000000400068000000000000000 := Nat.and_self _
  have hz := Within.refl 0x2b2ec8000036118e7803800010800000000000010000000040600000000000000003fffffffffffff80000000000000000000000000000000400068000000000000000 s
  repeat' with_reducible (first | assumption | intro _ | exact partOk_refl _ _ _ | apply State.whenUp_touch | apply State.bankSaved_touch | apply within_ite | apply within_ite_fst | split | (dsimp only; split) | apply within_mk)
  all_goals exact sub_le (by decide) hm

theorem execLoadComplete_only (ok : Bool) (s : State) : ∃ u, execLoadComplete ok s = .next u ∧ (effect (.loadComplete ok)).Only s u := by
  refine ⟨_, rfl, ((bounds_of (by decide +kernel) : Bounds (⟨[Reg.IMG_STATUS_STAGE], [.im]⟩) 0x8000000000000000000000000000000000000000000000000000000000000000000000000000000000000000000000000000000000000000000000000000000800000)).only ?_⟩
  have hm : sub 0x8000000000000000000000000000000000000000000000000000000000000000000000000000000000000000000000000000000000000000000000000000000800000 0x8000000000000000000000000000000000000000000000000000000000000000000000000000000000000000000000000000000000000000000000000000000800000 := Nat.and_self _
  have hz := Within.refl 0x8000000000000000000000000000000000000000000000000000000000000000000000000000000000000000000000000000000000000000000000000000000800000 s
  repeat' with_reducible (first | assumption | intro _ | exact partOk_refl _ _ _ | apply State.whenUp_touch | apply State.loadDone_touch | apply within_ite | apply within_ite_fst | split | (dsimp only; split) | apply within_mk)
  all_goals exact sub_le (by decide) hm

theorem execHeldSafeReloadDone_only (laneA laneB : Bool) (s : State) : ∃ u, execHeldSafeReloadDone laneA laneB s = .next u ∧ (effect (.heldSafeReloadDone laneA laneB)).Only s u := by
  refine ⟨_, rfl, ((bounds_of (by decide +kernel) : Bounds (Effect.activated.and ⟨[Reg.IMG_ERR_CODE, Reg.IMG_ERROFS_OFFSET, Reg.IMG_BOOT_PREF, Reg.IMG_KEY_PROGRAMMED, Reg.ND_DIAG_OUT 0 0, Reg.ND_DIAGV_VALUE 0 0, Reg.LS_STATE_OUT_ON 0, Reg.FIO_EVENT_BAR_LOST, Reg.FIO_COS_COS 0, Reg.FO_SET_ON 0, Reg.FO_FAULT_OVERLOAD 0, Reg.BP_EVENT_BUS_OFF 0, Reg.BP_CNT_E_NOMATCH_N 0, Reg.BP_CNT_F_LOST_N 0, Reg.RES_STATE_STATE, Reg.RES_EVENT_TAKEOVER, Reg.RES_HSCAUSE_CAUSE, Reg.RES_CNT_A_TAKEOVER_N, Reg.PWR_STATUS_READY], [.gn]⟩) 0x1fffc80000361182000080447085fa00001ffb07815020c0673bff8fd18002341198081007fff800007fff800000000006000002001ff8011c0046c000015f839606a0)).only ?_⟩
  have hm : sub 0x1fffc80000361182000080447085fa00001ffb07815020c0673bff8fd18002341198081007fff800007fff800000000006000002001ff8011c0046c000015f839606a0 0x1fffc80000361182000080447085fa00001ffb07815020c0673bff8fd18002341198081007fff800007fff800000000006000002001ff8011c0046c000015f839606a0 := Nat.and_self _
  have hz := Within.refl 0x1fffc80000361182000080447085fa00001ffb07815020c0673bff8fd18002341198081007fff800007fff800000000006000002001ff8011c0046c000015f839606a0 s
  repeat' with_reducible (first | assumption | intro _ | exact partOk_refl _ _ _ | apply State.whenUp_touch | apply State.reloadDone_touch | apply within_ite | apply within_ite_fst | split | (dsimp only; split) | apply within_mk)
  all_goals exact sub_le (by decide) hm

end Sys2Proof.Machine
end

