-- ==== Sys2Proof/WellFormed.lean ====
section
/-! DEFINITION. Which commands are well formed: every operand within the range its field or its unit's numbering has. `exec` is total
and needs none of this; the checks say what a command a host or the outside can form looks like. -/

namespace Sys2Proof

/-- A command whose operands fit the part's numbering (host ports 0–3, bus ports 0–5, outlets and contexts below 1,024, …). -/
def Instr.wf : Instr → Bool
  | .registerWrite port addr _ => decide (port < 4) && decide (addr < 2 ^ 26)
  | .clearingRead port addr => decide (port < 4) && decide (addr < 2 ^ 26)
  | .latchingRead port addr => decide (port < 4) && decide (addr < 2 ^ 26)
  | .vbatPowerOn => true
  | .resetRelease _ _ => true
  | .resetNLow => true
  | .ready => true
  | .pgStartTimeout pg => decide (pg < 8)
  | .pgLost pg => decide (pg < 8)
  | .brownOut => true
  | .brownOutSaveDone _ => true
  | .brownOutRecovered => true
  | .sleep port => decide (port < 4)
  | .stateBankSave port => decide (port < 4)
  | .wake source port => decide (1 ≤ source) && decide (source ≤ 3) && decide (port < 6)
  | .ldRewrite => true
  | .rtcSet => true
  | .refinLost => true
  | .refinActive _ _ => true
  | .pllLock => true
  | .refinStartTimeout => true
  | .holdoverTimeout => true
  | .disciplineUpdate _ _ _ => true
  | .driftCompliance => true
  | .driftAccept port => decide (port < 4)
  | .autoReturnSet port => decide (port < 4)
  | .gnssOfsWrite port _ => decide (port < 4)
  | .calSet port _ => decide (port < 4)
  | .frameStart => true
  | .frmCfgWrite port _ => decide (port < 4)
  | .syncinPulse _ => true
  | .syncLost => true
  | .refoutReenable => true
  | .asTrain port n _ => decide (port < 4) && decide (n < 4)
  | .asPortLost n => decide (n < 4)
  | .chStartSearch port n => decide (port < 4) && decide (n < 1024)
  | .chStartAided port n => decide (port < 4) && decide (n < 1024)
  | .chStop port n => decide (port < 4) && decide (n < 1024)
  | .integrationPeriodEnd n sums _ _ => decide (n < 1024) && decide (sums.length = 25)
  | .pullinTimeout n => decide (n < 1024)
  | .cn0LowTimeout n => decide (n < 1024)
  | .lostTimeout n => decide (n < 1024)
  | .measurementEpoch _ => true
  | .bankFault b => decide (b < 16)
  | .codeDataAccess port _ => decide (port < 4)
  | .aidDataAccess port _ => decide (port < 4)
  | .gnssRetainedSave => true
  | .poseEpoch => true
  | .poseEnWrite port _ => decide (port < 4)
  | .fixGo port _ => decide (port < 4)
  | .fixLost => true
  | .imuMaxExpiry => true
  | .imuTransfer m _ _ _ => decide (m < 2)
  | .imuDisagree => true
  | .speedTimeout => true
  | .segHostUncWrite port k _ => decide (port < 4) && decide (k < 8)
  | .deflHoldExpiry k => decide (k < 8)
  | .tileLoad port k => decide (port < 4) && decide (k < 192)
  | .tileFillDone k => decide (k < 192)
  | .tileCommit port k => decide (port < 4) && decide (k < 192)
  | .tileEvict port k _ => decide (port < 4) && decide (k < 192)
  | .tileSwapMergeDone k => decide (k < 192)
  | .tileApertureWrite port offset bytes => decide (port < 4) && decide (offset + bytes.length ≤ 0x1800000)
  | .tileDirtyRead port k => decide (port < 4) && decide (k < 192)
  | .rateTableCommit port _ => decide (port < 4)
  | .painterRun => true
  | .pathCommit port _ => decide (port < 4)
  | .commitPass => true
  | .prefluxStart entry => decide (entry < 40960)
  | .eventFire entry => decide (entry < 40960)
  | .valveSeal n _ => decide (n < 128)
  | .phaseEnd n _ _ => decide (n < 128)
  | .overCurrent n => decide (n < 128)
  | .modOffEdge n => decide (n < 128)
  | .modOnEdge n => decide (n < 128)
  | .senseContinuityTest n _ => decide (n < 128)
  | .dutyWindowUpdate n _ _ => decide (n < 128)
  | .chUnlatch port n => decide (port < 4) && decide (n < 128)
  | .gateCompMeasure die _ => decide (die < 2)
  | .bstSetWrite port b _ _ => decide (port < 4) && decide (b < 2)
  | .bstEnWrite port b _ _ => decide (port < 4) && decide (b < 2)
  | .boostRefStep b _ => decide (b < 2)
  | .bstOv b => decide (b < 2)
  | .bstLow b => decide (b < 2)
  | .loadall port k _ => decide (port < 4) && decide (k < 4)
  | .loadallAux port _ => decide (port < 4)
  | .tripAssert t _ => decide (t < 8)
  | .tripDeassert t => decide (t < 8)
  | .tripClear port t => decide (port < 4) && decide (t < 8)
  | .stopNLow => true
  | .stopNHigh => true
  | .debugHalt => true
  | .debugResume => true
  | .extest => true
  | .diePathLost d path => decide (d < 3) && decide (path < 2)
  | .dieLinkLost d => decide (d < 3)
  | .linkCycle l => decide (l < 16)
  | .enumChainEnd l => decide (l < 16)
  | .ident l p _ _ => decide (l < 16) && decide (p < 16)
  | .pong l p _ _ _ => decide (l < 16) && decide (p < 16)
  | .status l p _ _ => decide (l < 16) && decide (p < 16)
  | .ack l p seq _ _ => decide (l < 16) && decide (p < 16) && decide (seq < 4096)
  | .reject l p seq _ _ => decide (l < 16) && decide (p < 16) && decide (seq < 4096)
  | .sealFrame l p _ _ => decide (l < 16) && decide (p < 16)
  | .diag l p out _ _ _ => decide (l < 16) && decide (p < 16) && decide (out < 64 ∨ out = 255)
  | .linkRetry l p => decide (l < 16) && decide (p < 16)
  | .noReportTimeout entry => decide (entry < 40960)
  | .nodeLost l p => decide (l < 16) && decide (p < 16)
  | .ndAccept port l p => decide (port < 4) && decide (l < 16) && decide (p < 16)
  | .ndRemove port l p => decide (port < 4) && decide (l < 16) && decide (p < 16)
  | .ndReset port l p => decide (port < 4) && decide (l < 16) && decide (p < 16)
  | .ndResync port l p => decide (port < 4) && decide (l < 16) && decide (p < 16)
  | .slotRun k _ => decide (k < 64)
  | .slEnWrite port k _ => decide (port < 4) && decide (k < 64)
  | .coefCommit port k => decide (port < 4) && decide (k < 64)
  | .clrState port k => decide (port < 4) && decide (k < 64)
  | .tbCommit port _ => decide (port < 4)
  | .inputTimeout k p => decide (k < 64) && decide (p < 16)
  | .testGenRun port c _ => decide (port < 4) && decide (c < 8)
  | .captureArm port c _ => decide (port < 4) && decide (c < 8)
  | .lsThermalShutdown n _ => decide (n < 32)
  | .lsUnlatch port n _ => decide (port < 4) && decide (n < 32)
  | .lsUnlock port n => decide (port < 4) && decide (n < 32)
  | .inrushEpisode n => decide (n < 32)
  | .inrushRetry n => decide (n < 32)
  | .lsOpenLoad n _ => decide (n < 32)
  | .clampEnd n _ => decide (n < 32)
  | .clampLeak => true
  | .vbatUndervoltage => true
  | .vbatOvervoltage => true
  | .overvoltageRecovery => true
  | .reverseBattery => true
  | .lossOfGround => true
  | .switchCheck entry _ _ _ => decide (entry < 40960)
  | .heartbeat => true
  | .wdExpiry => true
  | .limpNChange _ => true
  | .lhinChange pin _ => decide (pin < 8)
  | .barrierOutboundFrame _ => true
  | .barrierInboundFrame _ => true
  | .barrierTimeout => true
  | .fieldSilence => true
  | .inputSample g _ => decide (g < 8)
  | .outputOverload m => decide (m < 32)
  | .outputOverloadRestart m => decide (m < 32)
  | .outputOvertemp m => decide (m < 32)
  | .outputOpenWire m _ _ => decide (m < 32)
  | .foUnlatch port m => decide (port < 4) && decide (m < 32)
  | .vfieldUndervoltage => true
  | .fieldOutputCheck entry _ _ _ => decide (entry < 40960)
  | .inputWakeEdge n => decide (n < 64)
  | .busFrameReceived port _ => decide (port < 6)
  | .scheduleWindow port w => decide (port < 6) && decide (w < 64)
  | .busTxDone port _ => decide (port < 6)
  | .busError port _ => decide (port < 6)
  | .busIntegrationDone port => decide (port < 6)
  | .busRecoveryDone port => decide (port < 6)
  | .refTimeout port => decide (port < 6)
  | .bpModeWrite port n _ => decide (port < 4) && decide (n < 6)
  | .bpRecover port n => decide (port < 4) && decide (n < 6)
  | .bvCapture port v _ => decide (port < 4) && decide (v < 16)
  | .bvCommit port v _ => decide (port < 4) && decide (v < 16)
  | .bvEnqueue port v _ => decide (port < 4) && decide (v < 16)
  | .busWakeFrame port _ => decide (port < 6)
  | .sqTailWrite ctx _ => decide (ctx < 1024)
  | .nop ctx tag flags => decide (ctx < 1024) && decide (tag < 2 ^ 16) && decide (flags < 2 ^ 8)
  | .regWrite ctx tag flags offset _ _ => decide (ctx < 1024) && decide (tag < 2 ^ 16) && decide (flags < 2 ^ 8) && decide (offset < 2 ^ 26)
  | .regRead ctx tag flags offset => decide (ctx < 1024) && decide (tag < 2 ^ 16) && decide (flags < 2 ^ 8) && decide (offset < 2 ^ 26)
  | .edge ctx tag flags outlet kind _ rate => decide (ctx < 1024) && decide (tag < 2 ^ 16) && decide (flags < 2 ^ 8) && decide (outlet < 1024) && decide (kind < 3) && decide (rate < 2 ^ 20)
  | .claim ctx tag flags first count mode => decide (ctx < 1024) && decide (tag < 2 ^ 16) && decide (flags < 2 ^ 8) && decide (first < 1024) && decide (1 ≤ count) && decide (count ≤ 1024) && decide (1 ≤ mode) && decide (mode ≤ 3)
  | .release ctx tag flags first count => decide (ctx < 1024) && decide (tag < 2 ^ 16) && decide (flags < 2 ^ 8) && decide (first < 1024) && decide (1 ≤ count) && decide (count ≤ 1024)
  | .inhibit ctx tag flags first count => decide (ctx < 1024) && decide (tag < 2 ^ 16) && decide (flags < 2 ^ 8) && decide (first < 1024) && decide (1 ≤ count) && decide (count ≤ 1024)
  | .inhibitLift ctx tag flags first count => decide (ctx < 1024) && decide (tag < 2 ^ 16) && decide (flags < 2 ^ 8) && decide (first < 1024) && decide (1 ≤ count) && decide (count ≤ 1024)
  | .overrideWithdraw ctx tag flags first count _ => decide (ctx < 1024) && decide (tag < 2 ^ 16) && decide (flags < 2 ^ 8) && decide (first < 1024) && decide (1 ≤ count) && decide (count ≤ 1024)
  | .overrideTake ctx tag flags first count mode target => decide (ctx < 1024) && decide (tag < 2 ^ 16) && decide (flags < 2 ^ 8) && decide (first < 1024) && decide (1 ≤ count) && decide (count ≤ 1024) && decide (1 ≤ mode) && decide (mode ≤ 3) && decide (target < 1024)
  | .overrideLift ctx tag flags first count => decide (ctx < 1024) && decide (tag < 2 ^ 16) && decide (flags < 2 ^ 8) && decide (first < 1024) && decide (1 ≤ count) && decide (count ≤ 1024)
  | .overrideFree ctx tag flags first count => decide (ctx < 1024) && decide (tag < 2 ^ 16) && decide (flags < 2 ^ 8) && decide (first < 1024) && decide (1 ≤ count) && decide (count ≤ 1024)
  | .fix ctx tag flags _ => decide (ctx < 1024) && decide (tag < 2 ^ 16) && decide (flags < 2 ^ 8)
  | .busSend ctx tag flags port dlc _ _ _ _ id _ => decide (ctx < 1024) && decide (tag < 2 ^ 16) && decide (flags < 2 ^ 8) && decide (port < 6) && decide (dlc < 16) && decide (id < 2 ^ 29)
  | .bind ctx tag flags target => decide (ctx < 1024) && decide (tag < 2 ^ 16) && decide (flags < 2 ^ 8) && decide (target < 1024)
  | .unbind ctx tag flags target => decide (ctx < 1024) && decide (tag < 2 ^ 16) && decide (flags < 2 ^ 8) && decide (target < 1024)
  | .haltDoorbell port window _ => decide (port < 4) && window.all (fun c => decide (c < 1024))
  | .hostLinkDown port _ => decide (port < 4)
  | .cwRdataAccess ctx _ => decide (ctx < 1024)
  | .spiWrite port addr _ _ => decide (2 ≤ port) && decide (port < 4) && decide (addr < 2 ^ 32)
  | .spiRead port addr n => decide (2 ≤ port) && decide (port < 4) && decide (addr < 2 ^ 32) && decide (n ≤ 2 ^ 24)
  | .spiStatusRead port => decide (2 ≤ port) && decide (port < 4)
  | .stagingWrite port offset bytes => decide (port < 4) && decide (offset + bytes.length ≤ 0x180000)
  | .verify port => decide (port < 4)
  | .verifyDone => true
  | .discard port => decide (port < 4)
  | .save port slot _ => decide (port < 4) && decide (slot < 2)
  | .saveComplete _ => true
  | .load port slot => decide (port < 4) && decide (slot < 2)
  | .confirm port => decide (port < 4)
  | .raiseFloor port => decide (port < 4)
  | .keyProg port slot => decide (port < 4) && decide (slot < 4)
  | .keyRevoke port slot => decide (port < 4) && decide (slot < 4)
  | .imgCommit port _ => decide (port < 4)
  | .stagedCopyDone => true
  | .activation => true
  | .laneFault lane checker unit mem addr => decide (lane < 2) && decide (checker < 8) && decide (unit < 256) && decide (mem < 16) && decide (addr < 2 ^ 32)
  | .laneDisagreement => true
  | .laneSelfTestDone _ => true
  | .laneCopyDone => true
  | .takeoverEnd => true
  | .fireCompare differs ecc addr => decide (differs < 8) && decide (ecc < 8) && decide (addr < 2 ^ 32)
  | .fireReloadDone copy _ => decide (copy < 3)
  | .stopRelease port => decide (port < 4)
  | .hsClear port => decide (port < 4)
  | .laneRetry port => decide (port < 4)
  | .fireRetry port => decide (port < 4)
  | .memoryScrub memory _ => decide (1 ≤ memory) && decide (memory ≤ 8)
  | .referenceCompare g _ _ _ _ => decide (g < 5)
  | .canvasFullRewrite => true
  | .canvasWrite => true
  | .cvErase port _ => decide (port < 4)
  | .eraseDone => true
  | .tagDataAccess port _ => decide (port < 4)
  | .pmcRun port _ => decide (port < 4)
  | .pmcClear port => decide (port < 4)
  | .smpEnWrite port _ => decide (port < 4)
  | .bankDataRead port => decide (port < 4)
  | .superPeriodStart => true
  | .internalLinkHandshake die => decide (die < 4)
  | .bstOvEnd b => decide (b < 2)
  | .vbatUndervoltageRecovery => true
  | .lsThermalRestart n _ => decide (n < 32)
  | .outputOvertempRestart m => decide (m < 32)
  | .vfieldUvRecovery => true
  | .shadowWriteDone die _ => decide (2 ≤ die) && decide (die < 4)
  | .masterReferenceDue port => decide (port < 6)
  | .stateBankSaveDone _ => true
  | .loadComplete _ => true
  | .heldSafeReloadDone _ _ => true

end Sys2Proof
end

