-- ==== Sys2Proof/Tests/Slice0.lean ====
section
/-! SUPPORT. Tests: a witness of the hypotheses of every statement that has some, the well-formedness checks on terms that fit and terms
that do not, and single steps with values from the spec. -/

namespace Sys2Proof.Machine

set_option linter.all false
set_option Elab.async false

open Sys2Proof

/-- A part whose core die is up and whose register fields hold these values, everything else as after reset. -/
def holding (fs : List (Fld × Nat)) : State := fs.foldl (fun s x => s.setFld x.1 x.2) {}

/-! Single steps. -/

/-- What a step answers satisfies `p`. -/
def stepGives (s : State) (p : State → Bool) : Bool :=
  match step s with
  | .next t => p t
  | _ => false

/-- `c` run on a part whose core die is up and whose registers hold `rs` gives a state that satisfies `p`. -/
def gives (rs : List (Nat × Word)) (c : Instr) (p : State → Bool) : Bool := stepGives { regs := rs, pending := [c] } p

/-- Example 18.1: the addresses of one nozzle's registers. -/
theorem test_nozzle_addresses :
    (Reg.OT_CFG_TARGET 390).addr = 0x476180 ∧ (Reg.OT_STATE_INHIBIT 390).addr = 0x4761BC ∧ (Reg.OWN_OWNED 390).addr = 0x5BE618 ∧
    (Reg.VCH_STATE_STATE 100).addr = 0x525904 ∧ (Reg.PF_CFG_KINK_SPAN 3).addr = 0x521300 := by decide

/-- R42 with a trim of zero: eight ticks a cycle. -/
theorem test_ft_eight_ticks : stepGives { regs := [(0x410000, 1)] } (fun t => decide (t.ft = 8)) = true := by decide +kernel

/-- R42: a trim of +1 ppb carries the accumulator over 10^9, and the cycle has nine ticks. -/
theorem test_ft_nine_ticks :
    stepGives { regs := [(0x410000, 1), (0x410020, 1)], tb := { acc := 999999999 } } (fun t => decide (t.ft = 9 ∧ t.tb.acc = 7)) = true := by
  decide +kernel

/-- R42: a trim of -1 ppb, and the cycle has seven ticks. -/
theorem test_ft_seven_ticks :
    stepGives { regs := [(0x410000, 1), (0x410020, 0xFFFFF)], tb := { acc := -999999999 } } (fun t => decide (t.ft = 7 ∧ t.tb.acc = -7)) = true := by
  decide +kernel

/-- R40: FT stands while the timebase is STARTING. -/
theorem test_ft_stands_at_start : stepGives {} (fun t => decide (t = {})) = true := by decide +kernel

/-- R7: a write of 1 to a W1C bit of TB_EVENT clears that bit alone. -/
theorem test_write_one_clears :
    gives [(0x410050, 3)] (.registerWrite 2 0x410050 1) (fun t => decide (t.reg 0x410050 = 2)) = true := by decide +kernel

/-- R7: a write to a read-only register is ignored. -/
theorem test_read_only_stands : gives [] (.registerWrite 2 0x410034 5) (fun t => decide (t.reg 0x410034 = 0)) = true := by decide +kernel

/-- R3: a register of an absent unit reads zero. -/
theorem test_absent_unit_reads_zero :
    stepGives { variant := .f0512, pending := [.spiRead 2 0x534000 1] } (fun t => decide (t.answer.data = [0])) = true := by decide +kernel

/-- R444 over a service port: LK_CTRL of link 8 reads 7 on the variant that has it. -/
theorem test_present_unit_reads_its_word :
    stepGives { pending := [.spiRead 2 0x534000 1] } (fun t => decide (t.answer.data = [7])) = true := by decide +kernel

/-- R27: STOP_N low stops the part. -/
theorem test_stop_n_low : gives [] .stopNLow (fun t => t.on Reg.RES_STATE_STOP) = true := by decide +kernel

/-- R51: a frame period outside 10 to 80 is not staged. -/
theorem test_frame_period_range :
    gives [] (.frmCfgWrite 2 0x0007D051) (fun t => decide (t.reg 0x410030 = 0x0007D014)) = true := by decide +kernel

/-- R197: a setpoint above 72.00 V is not applied. -/
theorem test_boost_setpoint_range : gives [] (.bstSetWrite 2 0 7201 0) (fun t => decide (t.reg 0x520104 = 0)) = true := by decide +kernel

/-- R197: a setpoint of 72.00 V is. -/
theorem test_boost_setpoint : gives [] (.bstSetWrite 2 0 7200 0) (fun t => decide (t.reg 0x520104 = 7200)) = true := by decide +kernel

/-- Table 5.2: LOAD makes a FREE slot pending, and the fill brings it to HOST. -/
theorem test_tile_fill : stepGives { mp := { filling := [5] }, pending := [.tileFillDone 5] } (fun t => decide (t.tileState 5 = 1)) = true := by
  decide +kernel

/-- R127: the eviction of a RESIDENT slot with a dirty band is refused. -/
theorem test_evict_dirty :
    gives [(0x409808, 2), (0x40980C, 1)] (.tileEvict 2 0 false) (fun t => decide (t.tileState 0 = 2) && t.on Reg.MAP_EVENT_EVICT_DIRTY) = true := by
  decide +kernel

/-- R433: any value but 0x0000_E7A5 erases nothing and sets CFG_ERR. -/
theorem test_erase_key : gives [] (.cvErase 2 0xE7A4) (fun t => t.on Reg.REC_EVENT_CFG_ERR) = true := by decide +kernel

/-! Well-formed and ill-formed commands. -/

/-- Commands whose operands all fit (part 0). -/
def wellFormed0 : List Instr :=
  [.registerWrite 0 0 0, .clearingRead 0 0, .latchingRead 0 0, .pgStartTimeout 0, .pgLost 0, .sleep 0, .stateBankSave 0, .wake 1 0,
   .driftAccept 0, .autoReturnSet 0, .gnssOfsWrite 0 0, .calSet 0 0, .frmCfgWrite 0 0, .asTrain 0 0 0, .asPortLost 0,
   .chStartSearch 0 0, .chStartAided 0 0, .chStop 0 0, .integrationPeriodEnd 0 (List.replicate 25 ⟨0, 0⟩) false false,
   .pullinTimeout 0, .cn0LowTimeout 0, .lostTimeout 0, .bankFault 0, .codeDataAccess 0 none, .aidDataAccess 0 none, .poseEnWrite 0 0,
   .fixGo 0 0, .imuTransfer 0 false [] 0, .segHostUncWrite 0 0 0, .deflHoldExpiry 0]

/-- Commands whose operands all fit (part 1). -/
def wellFormed1 : List Instr :=
  [.tileLoad 0 0, .tileFillDone 0, .tileCommit 0 0, .tileEvict 0 0 false, .tileSwapMergeDone 0, .tileApertureWrite 0 0 [],
   .tileDirtyRead 0 0, .rateTableCommit 0 0, .pathCommit 0 0, .prefluxStart 0, .eventFire 0, .valveSeal 0 [], .phaseEnd 0 0 0,
   .overCurrent 0, .modOffEdge 0, .modOnEdge 0, .senseContinuityTest 0 0, .dutyWindowUpdate 0 [] 0, .chUnlatch 0 0,
   .gateCompMeasure 0 0, .bstSetWrite 0 0 0 0, .bstEnWrite 0 0 0 0, .boostRefStep 0 0, .bstOv 0, .bstLow 0, .loadall 0 0 0,
   .loadallAux 0 0, .tripAssert 0 0, .tripDeassert 0, .tripClear 0 0]

/-- Commands whose operands all fit (part 2). -/
def wellFormed2 : List Instr :=
  [.diePathLost 0 0, .dieLinkLost 0, .linkCycle 0, .enumChainEnd 0, .ident 0 0 ⟨0, 0, 0, 0, 0, 0, 0⟩ ⟨0, 0, 0⟩,
   .pong 0 0 0 0 ⟨0, 0, 0⟩, .status 0 0 ⟨0, 0, 0, 0⟩ ⟨0, 0, 0⟩, .ack 0 0 0 0 ⟨0, 0, 0⟩, .reject 0 0 0 0 ⟨0, 0, 0⟩,
   .sealFrame 0 0 ⟨0, 0, 0, 0⟩ ⟨0, 0, 0⟩, .diag 0 0 0 0 0 ⟨0, 0, 0⟩, .linkRetry 0 0, .noReportTimeout 0, .nodeLost 0 0,
   .ndAccept 0 0 0, .ndRemove 0 0 0, .ndReset 0 0 0, .ndResync 0 0 0, .slotRun 0 0, .slEnWrite 0 0 0, .coefCommit 0 0, .clrState 0 0,
   .tbCommit 0 0, .inputTimeout 0 0, .testGenRun 0 0 0, .captureArm 0 0 0, .lsThermalShutdown 0 0, .lsUnlatch 0 0 0, .lsUnlock 0 0,
   .inrushEpisode 0]

/-- Commands whose operands all fit (part 3). -/
def wellFormed3 : List Instr :=
  [.inrushRetry 0, .lsOpenLoad 0 0, .clampEnd 0 [], .switchCheck 0 0 0 0, .lhinChange 0 false, .inputSample 0 [], .outputOverload 0,
   .outputOverloadRestart 0, .outputOvertemp 0, .outputOpenWire 0 0 0, .foUnlatch 0 0, .fieldOutputCheck 0 0 0 0, .inputWakeEdge 0,
   .busFrameReceived 0 ⟨0, false, false, false, false, false, 0, [], 0⟩, .scheduleWindow 0 0, .busTxDone 0 .lost,
   .busError 0 ⟨0, false, false, false, false, false, false, 0⟩, .busIntegrationDone 0, .busRecoveryDone 0, .refTimeout 0,
   .bpModeWrite 0 0 0, .bpRecover 0 0, .bvCapture 0 0 0, .bvCommit 0 0 0, .bvEnqueue 0 0 0,
   .busWakeFrame 0 ⟨0, false, false, false, false, false, 0, [], 0⟩, .sqTailWrite 0 0, .nop 0 0 0, .regWrite 0 0 0 0 0 0,
   .regRead 0 0 0 0]

/-- Commands whose operands all fit (part 4). -/
def wellFormed4 : List Instr :=
  [.edge 0 0 0 0 0 0 0, .claim 0 0 0 0 1 1, .release 0 0 0 0 1, .inhibit 0 0 0 0 1, .inhibitLift 0 0 0 0 1,
   .overrideWithdraw 0 0 0 0 1 0, .overrideTake 0 0 0 0 1 1 0, .overrideLift 0 0 0 0 1, .overrideFree 0 0 0 0 1,
   .fix 0 0 0 ⟨0, 0, 0, 0, 0, 0, 0, none⟩, .busSend 0 0 0 0 0 false false false false 0 [], .bind 0 0 0 0, .unbind 0 0 0 0,
   .haltDoorbell 0 none 0, .hostLinkDown 0 false, .cwRdataAccess 0 none, .spiWrite 2 0 false [], .spiRead 2 0 0, .spiStatusRead 2,
   .stagingWrite 0 0 [], .verify 0, .discard 0, .save 0 0 false, .load 0 0, .confirm 0, .raiseFloor 0, .keyProg 0 0, .keyRevoke 0 0,
   .imgCommit 0 0, .laneFault 0 0 0 0 0]

/-- Commands whose operands all fit (part 5). -/
def wellFormed5 : List Instr :=
  [.fireCompare 0 0 0, .fireReloadDone 0 false, .stopRelease 0, .hsClear 0, .laneRetry 0, .fireRetry 0, .memoryScrub 1 [],
   .referenceCompare 0 0 0 0 0, .cvErase 0 0, .tagDataAccess 0 none, .pmcRun 0 0, .pmcClear 0, .smpEnWrite 0 0, .bankDataRead 0,
   .internalLinkHandshake 0, .bstOvEnd 0, .lsThermalRestart 0 0, .outputOvertempRestart 0, .shadowWriteDone 2 false,
   .masterReferenceDue 0]

/-- Commands with one operand that does not fit, one for each check of each command (part 0). -/
def illFormed0 : List Instr :=
  [.registerWrite 4 0 0, .registerWrite 0 0x4000000 0, .clearingRead 4 0, .clearingRead 0 0x4000000, .latchingRead 4 0,
   .latchingRead 0 0x4000000, .pgStartTimeout 8, .pgLost 8, .sleep 4, .stateBankSave 4, .wake 0 0, .wake 4 0, .wake 1 6,
   .driftAccept 4, .autoReturnSet 4, .gnssOfsWrite 4 0, .calSet 4 0, .frmCfgWrite 4 0, .asTrain 4 0 0, .asTrain 0 4 0, .asPortLost 4,
   .chStartSearch 4 0, .chStartSearch 0 1024, .chStartAided 4 0, .chStartAided 0 1024, .chStop 4 0, .chStop 0 1024,
   .integrationPeriodEnd 1024 (List.replicate 25 ⟨0, 0⟩) false false, .integrationPeriodEnd 0 [] false false, .pullinTimeout 1024]

/-- Commands with one operand that does not fit, one for each check of each command (part 1). -/
def illFormed1 : List Instr :=
  [.cn0LowTimeout 1024, .lostTimeout 1024, .bankFault 16, .codeDataAccess 4 none, .aidDataAccess 4 none, .poseEnWrite 4 0, .fixGo 4 0,
   .imuTransfer 2 false [] 0, .segHostUncWrite 4 0 0, .segHostUncWrite 0 8 0, .deflHoldExpiry 8, .tileLoad 4 0, .tileLoad 0 192,
   .tileFillDone 192, .tileCommit 4 0, .tileCommit 0 192, .tileEvict 4 0 false, .tileEvict 0 192 false, .tileSwapMergeDone 192,
   .tileApertureWrite 4 0 [], .tileApertureWrite 0 0x1800001 [], .tileDirtyRead 4 0, .tileDirtyRead 0 192, .rateTableCommit 4 0,
   .pathCommit 4 0, .prefluxStart 40960, .eventFire 40960, .valveSeal 128 [], .phaseEnd 128 0 0, .overCurrent 128]

/-- Commands with one operand that does not fit, one for each check of each command (part 2). -/
def illFormed2 : List Instr :=
  [.modOffEdge 128, .modOnEdge 128, .senseContinuityTest 128 0, .dutyWindowUpdate 128 [] 0, .chUnlatch 4 0, .chUnlatch 0 128,
   .gateCompMeasure 2 0, .bstSetWrite 4 0 0 0, .bstSetWrite 0 2 0 0, .bstEnWrite 4 0 0 0, .bstEnWrite 0 2 0 0, .boostRefStep 2 0,
   .bstOv 2, .bstLow 2, .loadall 4 0 0, .loadall 0 4 0, .loadallAux 4 0, .tripAssert 8 0, .tripDeassert 8, .tripClear 4 0,
   .tripClear 0 8, .diePathLost 3 0, .diePathLost 0 2, .dieLinkLost 3, .linkCycle 16, .enumChainEnd 16,
   .ident 16 0 ⟨0, 0, 0, 0, 0, 0, 0⟩ ⟨0, 0, 0⟩, .ident 0 16 ⟨0, 0, 0, 0, 0, 0, 0⟩ ⟨0, 0, 0⟩, .pong 16 0 0 0 ⟨0, 0, 0⟩,
   .pong 0 16 0 0 ⟨0, 0, 0⟩]

/-- Commands with one operand that does not fit, one for each check of each command (part 3). -/
def illFormed3 : List Instr :=
  [.status 16 0 ⟨0, 0, 0, 0⟩ ⟨0, 0, 0⟩, .status 0 16 ⟨0, 0, 0, 0⟩ ⟨0, 0, 0⟩, .ack 16 0 0 0 ⟨0, 0, 0⟩, .ack 0 16 0 0 ⟨0, 0, 0⟩,
   .ack 0 0 4096 0 ⟨0, 0, 0⟩, .reject 16 0 0 0 ⟨0, 0, 0⟩, .reject 0 16 0 0 ⟨0, 0, 0⟩, .reject 0 0 4096 0 ⟨0, 0, 0⟩,
   .sealFrame 16 0 ⟨0, 0, 0, 0⟩ ⟨0, 0, 0⟩, .sealFrame 0 16 ⟨0, 0, 0, 0⟩ ⟨0, 0, 0⟩, .diag 16 0 0 0 0 ⟨0, 0, 0⟩,
   .diag 0 16 0 0 0 ⟨0, 0, 0⟩, .diag 0 0 64 0 0 ⟨0, 0, 0⟩, .linkRetry 16 0, .linkRetry 0 16, .noReportTimeout 40960, .nodeLost 16 0,
   .nodeLost 0 16, .ndAccept 4 0 0, .ndAccept 0 16 0, .ndAccept 0 0 16, .ndRemove 4 0 0, .ndRemove 0 16 0, .ndRemove 0 0 16,
   .ndReset 4 0 0, .ndReset 0 16 0, .ndReset 0 0 16, .ndResync 4 0 0, .ndResync 0 16 0, .ndResync 0 0 16]

/-- Commands with one operand that does not fit, one for each check of each command (part 4). -/
def illFormed4 : List Instr :=
  [.slotRun 64 0, .slEnWrite 4 0 0, .slEnWrite 0 64 0, .coefCommit 4 0, .coefCommit 0 64, .clrState 4 0, .clrState 0 64,
   .tbCommit 4 0, .inputTimeout 64 0, .inputTimeout 0 16, .testGenRun 4 0 0, .testGenRun 0 8 0, .captureArm 4 0 0, .captureArm 0 8 0,
   .lsThermalShutdown 32 0, .lsUnlatch 4 0 0, .lsUnlatch 0 32 0, .lsUnlock 4 0, .lsUnlock 0 32, .inrushEpisode 32, .inrushRetry 32,
   .lsOpenLoad 32 0, .clampEnd 32 [], .switchCheck 40960 0 0 0, .lhinChange 8 false, .inputSample 8 [], .outputOverload 32,
   .outputOverloadRestart 32, .outputOvertemp 32, .outputOpenWire 32 0 0]

/-- Commands with one operand that does not fit, one for each check of each command (part 5). -/
def illFormed5 : List Instr :=
  [.foUnlatch 4 0, .foUnlatch 0 32, .fieldOutputCheck 40960 0 0 0, .inputWakeEdge 64,
   .busFrameReceived 6 ⟨0, false, false, false, false, false, 0, [], 0⟩, .scheduleWindow 6 0, .scheduleWindow 0 64,
   .busTxDone 6 .lost, .busError 6 ⟨0, false, false, false, false, false, false, 0⟩, .busIntegrationDone 6, .busRecoveryDone 6,
   .refTimeout 6, .bpModeWrite 4 0 0, .bpModeWrite 0 6 0, .bpRecover 4 0, .bpRecover 0 6, .bvCapture 4 0 0, .bvCapture 0 16 0,
   .bvCommit 4 0 0, .bvCommit 0 16 0, .bvEnqueue 4 0 0, .bvEnqueue 0 16 0,
   .busWakeFrame 6 ⟨0, false, false, false, false, false, 0, [], 0⟩, .sqTailWrite 1024 0, .nop 1024 0 0, .nop 0 0x10000 0,
   .nop 0 0 256, .regWrite 1024 0 0 0 0 0, .regWrite 0 0x10000 0 0 0 0, .regWrite 0 0 256 0 0 0]

/-- Commands with one operand that does not fit, one for each check of each command (part 6). -/
def illFormed6 : List Instr :=
  [.regWrite 0 0 0 0x4000000 0 0, .regRead 1024 0 0 0, .regRead 0 0x10000 0 0, .regRead 0 0 256 0, .regRead 0 0 0 0x4000000,
   .edge 1024 0 0 0 0 0 0, .edge 0 0x10000 0 0 0 0 0, .edge 0 0 256 0 0 0 0, .edge 0 0 0 1024 0 0 0, .edge 0 0 0 0 3 0 0,
   .edge 0 0 0 0 0 0 0x100000, .claim 1024 0 0 0 1 1, .claim 0 0x10000 0 0 1 1, .claim 0 0 256 0 1 1, .claim 0 0 0 1024 1 1,
   .claim 0 0 0 0 0 1, .claim 0 0 0 0 1025 1, .claim 0 0 0 0 1 0, .claim 0 0 0 0 1 4, .release 1024 0 0 0 1, .release 0 0x10000 0 0 1,
   .release 0 0 256 0 1, .release 0 0 0 1024 1, .release 0 0 0 0 0, .release 0 0 0 0 1025, .inhibit 1024 0 0 0 1,
   .inhibit 0 0x10000 0 0 1, .inhibit 0 0 256 0 1, .inhibit 0 0 0 1024 1, .inhibit 0 0 0 0 0]

/-- Commands with one operand that does not fit, one for each check of each command (part 7). -/
def illFormed7 : List Instr :=
  [.inhibit 0 0 0 0 1025, .inhibitLift 1024 0 0 0 1, .inhibitLift 0 0x10000 0 0 1, .inhibitLift 0 0 256 0 1,
   .inhibitLift 0 0 0 1024 1, .inhibitLift 0 0 0 0 0, .inhibitLift 0 0 0 0 1025, .overrideWithdraw 1024 0 0 0 1 0,
   .overrideWithdraw 0 0x10000 0 0 1 0, .overrideWithdraw 0 0 256 0 1 0, .overrideWithdraw 0 0 0 1024 1 0,
   .overrideWithdraw 0 0 0 0 0 0, .overrideWithdraw 0 0 0 0 1025 0, .overrideTake 1024 0 0 0 1 1 0, .overrideTake 0 0x10000 0 0 1 1 0,
   .overrideTake 0 0 256 0 1 1 0, .overrideTake 0 0 0 1024 1 1 0, .overrideTake 0 0 0 0 0 1 0, .overrideTake 0 0 0 0 1025 1 0,
   .overrideTake 0 0 0 0 1 0 0, .overrideTake 0 0 0 0 1 4 0, .overrideTake 0 0 0 0 1 1 1024, .overrideLift 1024 0 0 0 1,
   .overrideLift 0 0x10000 0 0 1, .overrideLift 0 0 256 0 1, .overrideLift 0 0 0 1024 1, .overrideLift 0 0 0 0 0,
   .overrideLift 0 0 0 0 1025, .overrideFree 1024 0 0 0 1, .overrideFree 0 0x10000 0 0 1]

/-- Commands with one operand that does not fit, one for each check of each command (part 8). -/
def illFormed8 : List Instr :=
  [.overrideFree 0 0 256 0 1, .overrideFree 0 0 0 1024 1, .overrideFree 0 0 0 0 0, .overrideFree 0 0 0 0 1025,
   .fix 1024 0 0 ⟨0, 0, 0, 0, 0, 0, 0, none⟩, .fix 0 0x10000 0 ⟨0, 0, 0, 0, 0, 0, 0, none⟩, .fix 0 0 256 ⟨0, 0, 0, 0, 0, 0, 0, none⟩,
   .busSend 1024 0 0 0 0 false false false false 0 [], .busSend 0 0x10000 0 0 0 false false false false 0 [],
   .busSend 0 0 256 0 0 false false false false 0 [], .busSend 0 0 0 6 0 false false false false 0 [],
   .busSend 0 0 0 0 16 false false false false 0 [], .busSend 0 0 0 0 0 false false false false 0x20000000 [], .bind 1024 0 0 0,
   .bind 0 0x10000 0 0, .bind 0 0 256 0, .bind 0 0 0 1024, .unbind 1024 0 0 0, .unbind 0 0x10000 0 0, .unbind 0 0 256 0,
   .unbind 0 0 0 1024, .haltDoorbell 4 none 0, .haltDoorbell 0 (some 1024) 0, .hostLinkDown 4 false, .cwRdataAccess 1024 none,
   .spiWrite 1 0 false [], .spiWrite 4 0 false [], .spiWrite 2 0x100000000 false [], .spiRead 1 0 0, .spiRead 4 0 0]

/-- Commands with one operand that does not fit, one for each check of each command (part 9). -/
def illFormed9 : List Instr :=
  [.spiRead 2 0x100000000 0, .spiRead 2 0 0x1000001, .spiStatusRead 1, .spiStatusRead 4, .stagingWrite 4 0 [],
   .stagingWrite 0 0x180001 [], .verify 4, .discard 4, .save 4 0 false, .save 0 2 false, .load 4 0, .load 0 2, .confirm 4,
   .raiseFloor 4, .keyProg 4 0, .keyProg 0 4, .keyRevoke 4 0, .keyRevoke 0 4, .imgCommit 4 0, .laneFault 2 0 0 0 0,
   .laneFault 0 8 0 0 0, .laneFault 0 0 256 0 0, .laneFault 0 0 0 16 0, .laneFault 0 0 0 0 0x100000000, .fireCompare 8 0 0,
   .fireCompare 0 8 0, .fireCompare 0 0 0x100000000, .fireReloadDone 3 false, .stopRelease 4, .hsClear 4]

/-- Commands with one operand that does not fit, one for each check of each command (part 10). -/
def illFormed10 : List Instr :=
  [.laneRetry 4, .fireRetry 4, .memoryScrub 0 [], .memoryScrub 9 [], .referenceCompare 5 0 0 0 0, .cvErase 4 0, .tagDataAccess 4 none,
   .pmcRun 4 0, .pmcClear 4, .smpEnWrite 4 0, .bankDataRead 4, .internalLinkHandshake 4, .bstOvEnd 2, .lsThermalRestart 32 0,
   .outputOvertempRestart 32, .shadowWriteDone 1 false, .shadowWriteDone 4 false, .masterReferenceDue 6]

/-- Each check of `Instr.wf` passes an operand at the edge of its range. -/
theorem test_wf_accepts : (wellFormed0 ++ wellFormed1 ++ wellFormed2 ++ wellFormed3 ++ wellFormed4 ++ wellFormed5).all Instr.wf = true := by decide +kernel

/-- Each check of `Instr.wf` refuses a term that fails it alone. -/
theorem test_wf_refuses : (illFormed0 ++ illFormed1 ++ illFormed2 ++ illFormed3 ++ illFormed4 ++ illFormed5 ++ illFormed6 ++ illFormed7 ++ illFormed8 ++ illFormed9 ++ illFormed10).all (fun i => !i.wf) = true := by decide +kernel

/-! Witnesses. -/

/-- The hypotheses of each clause of `Obligations.TimebaseTransitions` are met together. -/
theorem witness_TimebaseTransitions :
    (∃ (s : State), s.pw.coreUp = true ∧ (s.tbState = tbLocked ∨ s.tbState = tbDrift)) ∧
    (∃ (s : State) (edges : Nat) (hz : Nat) (x : Time), s.pw.coreUp = true ∧ (s.tbState = tbHoldover ∨ s.tbState = tbIosc ∧ s.on
      Reg.TB_CTRL_AUTO_RETURN = true) ∧ 64 ≤ edges ∧ 24750000 ≤ hz ∧ hz ≤ 25250000 ∧ s.tb.refinSince = some x ∧ 8000000 ≤ tdiff s.ft x) ∧
    (∃ (s : State) (edges : Nat) (hz : Nat), s.pw.coreUp = true ∧ s.tbState = tbHoldover ∧ 64 ≤ edges ∧ 24750000 ≤ hz ∧ hz ≤ 25250000 ∧
      s.tb.refinSince = none) ∧
    (∃ (s : State) (edges : Nat) (hz : Nat), s.pw.coreUp = true ∧ (edges < 64 ∨ hz < 24750000 ∨ 25250000 < hz)) ∧
    (∃ (s : State) (edges : Nat) (hz : Nat), s.pw.coreUp = true ∧ (s.tbState = tbIosc ∧ s.on Reg.TB_CTRL_AUTO_RETURN = false) ∧ 64 ≤ edges
      ∧ 24750000 ≤ hz ∧ hz ≤ 25250000) ∧
    (∃ (s : State), s.pw.coreUp = true ∧ s.tbState = tbStarting) ∧
    (∃ (s : State), s.pw.coreUp = true ∧ s.tbState = tbStarting ∧ s.on Reg.TB_STATUS_REFIN_ACT = false) ∧
    (∃ (s : State), s.pw.coreUp = true ∧ s.tbState = tbHoldover ∧ s.on Reg.TB_STATUS_REFIN_ACT = false) ∧
    (∃ (s : State), s.pw.coreUp = true ∧ s.tbState = tbDrift ∧ 60 ≤ s.tb.comply) ∧
    (∃ (s : State) (p : Nat), s.pw.coreUp = true ∧ s.Serves p ∧ s.tbState = tbDrift ∧ s.fld Reg.TB_CTRL_DISC_SRC ≠ 3 ∧ (s.fld
      Reg.TB_CTRL_DISC_SRC = 1 → s.variant ≠ Variant.l1024)) ∧
    (∃ (s : State) (p : Nat), s.pw.coreUp = true ∧ s.Serves p ∧ s.tbState = tbIosc ∧ s.on Reg.TB_CTRL_AUTO_RETURN = false ∧ s.on
      Reg.TB_STATUS_REFIN_ACT = true ∧ s.fld Reg.TB_CTRL_DISC_SRC ≠ 3 ∧ (s.fld Reg.TB_CTRL_DISC_SRC = 1 → s.variant ≠ Variant.l1024)) :=
  ⟨⟨{ regs := [(0x410000, 1)] }, by decide +kernel⟩,
    ⟨{ holding [(Reg.TB_STATUS_STATE, tbHoldover)] with tb := { refinSince := some 0 }, ft := 8000000 }, 64, 25000000, 0, by decide +kernel⟩,
    ⟨{ regs := [(0x410000, 0x402)] }, 0x17ad6c8, 0x17d9a0c, by decide +kernel⟩,
    ⟨{  }, 28, 2, by decide +kernel⟩,
    ⟨{ regs := [(0x410000, 4), (0x410004, 40)] }, 0x17bcf76, 0x17e2469, by decide +kernel⟩,
    ⟨{  }, by decide +kernel⟩,
    ⟨{  }, by decide +kernel⟩,
    ⟨{ regs := [(0x410000, 2)] }, by decide +kernel⟩,
    ⟨{ regs := [(0x410000, 3)], tb := { comply := 60 } }, by decide +kernel⟩,
    ⟨{ regs := [(0x410000, 3)] }, 2, by simp only [State.Serves]; decide +kernel⟩,
    ⟨{ regs := [(0x410000, 12), (0x410004, 40)] }, 3, by simp only [State.Serves]; decide +kernel⟩⟩

/-- The hypotheses of each clause of `Obligations.TimebaseCommands` are met together. -/
theorem witness_TimebaseCommands :
    (∃ (s : State) (yGnss : Int) (ySync : Int) (g : Time), s.pw.coreUp = true ∧ s.tbState = tbLocked ∧ s.on Reg.TB_CTRL_FOLLOWER = false ∧
      s.fld Reg.TB_CTRL_DISC_SRC = 1 ∧ 4 ≤ s.lockedChans) ∧
    (∃ (s : State) (yGnss : Int) (ySync : Int) (g : Time), s.pw.coreUp = true ∧ s.tbState = tbLocked ∧ s.on Reg.TB_CTRL_FOLLOWER = false ∧
      s.fld Reg.TB_CTRL_DISC_SRC = 0) ∧
    (∃ (s : State) (p : Nat) (v : Word), s.pw.coreUp = true ∧ s.Serves p) ∧
    (∃ (s : State) (p : Nat) (v : Word), s.pw.coreUp = true ∧ s.Serves p ∧ s.on Reg.TB_CTRL_CAL_SRC = true) ∧
    (∃ (s : State) (p : Nat) (v : Word), s.pw.coreUp = true ∧ s.Serves p ∧ s.on Reg.TB_CTRL_CAL_SRC = false) ∧
    (∃ (s : State) (p : Nat) (v : Word), s.pw.coreUp = true ∧ s.Serves p) ∧
    (∃ (s : State) (x : Time), s.pw.coreUp = true ∧ s.on Reg.TB_CTRL_FOLLOWER = true ∧ s.tb.framesOn = true ∧ 0 < s.tb.period ∧
      s.tb.aligned = true ∧ (s.syncError (x - BitVec.ofInt 64 (s.sfld Reg.SYNCIN_COMP_COMP))).natAbs ≤ 40000) ∧
    (∃ (s : State) (x : Time), s.pw.coreUp = true ∧ s.on Reg.TB_CTRL_FOLLOWER = true ∧ s.tb.framesOn = true ∧ 0 < s.tb.period ∧
      s.tb.aligned = false ∧ s.tb.syncLost = false ∧ ∃ (e : Nat × Entry), e ∈ s.ledger ∧ (e.snd.st = eCommitted ∨ e.snd.st = eFired)) ∧
    (∃ (s : State), s.pw.coreUp = true ∧ s.on Reg.TB_CTRL_FOLLOWER = true ∧ s.tb.aligned = true) ∧
    (∃ (s : State), s.pw.coreUp = true ∧ s.on Reg.TB_CTRL_REFOUT_EN = true ∧ s.on Reg.TB_STATUS_PLL_LOCK = true ∧ (s.tbState = tbLocked ∨
      s.tbState = tbDrift)) :=
  ⟨⟨{ regs := [(0x410000, 1), (0x420220, 11), (0x420320, 11), (0x420420, 11), (0x420520, 11)] }, (-444571), (-814), 0xe61e1e3655, by decide +kernel⟩,
    ⟨{ regs := [(0x410000, 1), (0x410004, 24)] }, 0, (-1), 0xa95733f0a6, by decide +kernel⟩,
    ⟨{  }, 2, 0x9408e0d, by simp only [State.Serves]; decide +kernel⟩,
    ⟨{ variant := (Sys2Proof.Machine.Variant.l1024) }, 3, 0x817d8244, by simp only [State.Serves]; decide +kernel⟩,
    ⟨{  }, 3, 0x1e2, by simp only [State.Serves]; decide +kernel⟩,
    ⟨{  }, 2, 0x41370726, by simp only [State.Serves]; decide +kernel⟩,
    ⟨{ regs := [(0x410004, 29), (0x41003c, 0x4cccd383)], tb := { period := 1, framesOn := true, aligned := true } }, 0xbadc55e245, by decide +kernel⟩,
    ⟨{ regs := [(0x410004, 60)], tb := { framesOn := true }, lg := { entries := [(13, (some { st := 2, kind := 0, outlet := 0, frame := 0, due := 0, frameDue := 0 }))] } }, 0xc26b851232, by decide +kernel⟩,
    ⟨{ regs := [(0x410004, 60)], tb := { aligned := true } }, by decide +kernel⟩,
    ⟨{ regs := [(0x410000, 17)] }, by decide +kernel⟩⟩

/-- The hypotheses of each clause of `Obligations.ChannelTransitions` are met together. -/
theorem witness_ChannelTransitions :
    (∃ (s : State) (p : Nat) (n : Nat) (v : Word), s.pw.coreUp = true ∧ s.Serves p ∧ n < s.variant.asPorts ∧ BitVec.getLsbD v 0 = true ∧
      BitVec.getLsbD v 5 = true) ∧
    (∃ (s : State) (n : Nat), s.pw.coreUp = true ∧ n < s.variant.asPorts ∧ s.on (Reg.AS_STAT_ALIGNED n) = true) ∧
    (∃ (s : State) (p : Nat) (n : Nat), s.pw.coreUp = true ∧ s.Serves p ∧ n < s.variant.channels ∧ s.on Reg.BB_STATUS_BB_ON = true ∧ s.fld
      (Reg.GCH_STATE_STATE n) = chIdle ∧ s.bankWorks n = true ∧ s.fld (Reg.GCH_CFG_SIG n) ≠ 4 ∧ s.carrierOk (BitVec.toNat (s.reg (4325380
      + 256 * n))) = true) ∧
    (∃ (s : State) (p : Nat) (n : Nat), s.pw.coreUp = true ∧ s.Serves p ∧ n < s.variant.channels ∧ s.on Reg.BB_STATUS_BB_ON = true ∧ s.fld
      (Reg.GCH_STATE_STATE n) = chIdle ∧ s.bankWorks n = true ∧ s.carrierOk (BitVec.toNat (s.reg (4325380 + 256 * n))) = false) ∧
    (∃ (s : State) (p : Nat) (n : Nat), s.pw.coreUp = true ∧ s.Serves p ∧ n < s.variant.channels ∧ s.on Reg.BB_STATUS_BB_ON = true ∧ s.fld
      (Reg.GCH_STATE_STATE n) = chIdle ∧ s.bankWorks n = true ∧ s.fld (Reg.GCH_CFG_SIG n) ≠ 4 ∧ s.carrierOk (BitVec.toNat (s.reg (4325380
      + 256 * n))) = true) ∧
    (∃ (s : State) (p : Nat) (n : Nat), s.pw.coreUp = true ∧ s.Serves p ∧ n < s.variant.channels ∧ s.on Reg.BB_STATUS_BB_ON = true ∧ s.fld
      (Reg.GCH_STATE_STATE n) = chIdle ∧ s.bankWorks n = true ∧ s.fld (Reg.GCH_CFG_SIG n) = 4 ∧ s.carrierOk (BitVec.toNat (s.reg (4325380
      + 256 * n))) = true) ∧
    (∃ (s : State) (p : Nat) (n : Nat), s.pw.coreUp = true ∧ s.Serves p ∧ n < s.variant.channels ∧ s.bankWorks n = false ∧ s.fld
      (Reg.GCH_STATE_STATE n) = chIdle) ∧
    (∃ (s : State) (p : Nat) (n : Nat), s.pw.coreUp = true ∧ s.Serves p ∧ n < s.variant.channels) ∧
    (∃ (s : State) (n : Nat), s.pw.coreUp = true ∧ n < s.variant.channels ∧ s.fld (Reg.GCH_STATE_STATE n) = chPullin ∧ s.on
      (Reg.GCH_STATE_PLL_LOCK n) = false) ∧
    (∃ (s : State) (n : Nat), s.pw.coreUp = true ∧ n < s.variant.channels ∧ (s.fld (Reg.GCH_STATE_STATE n) = chPullin ∨ s.fld
      (Reg.GCH_STATE_STATE n) = chTrack) ∧ s.fld (Reg.GCH_STATE_CN0 n) < s.fld (Reg.GCH_ACQ_CN0_MIN n)) ∧
    (∃ (s : State) (n : Nat), s.pw.coreUp = true ∧ n < s.variant.channels ∧ s.fld (Reg.GCH_STATE_STATE n) = chLost) :=
  ⟨⟨{  }, 0, 3, 0xbd18d275, by simp only [State.Serves]; decide +kernel⟩,
    ⟨{ regs := [(0x408014, 2)] }, 0, by decide +kernel⟩,
    ⟨{ regs := [(0x408004, 3), (0x408040, 0x1809fc)] }, 1, 194, by simp only [State.Serves]; decide +kernel⟩,
    ⟨{ regs := [(0x408004, 3)] }, 3, 2, by simp only [State.Serves]; decide +kernel⟩,
    ⟨{ regs := [(0x408004, 3), (0x408050, 0x12bb50), (0x420004, 0x1c31)] }, 1, 0, by simp only [State.Serves]; decide +kernel⟩,
    ⟨{ regs := [(0x408004, 3), (0x408050, 0x12bb50), (0x420304, 0x61841)] }, 2, 3, by simp only [State.Serves]; decide +kernel⟩,
    ⟨{ regs := [(0x408100, 1)] }, 0, 33, by simp only [State.Serves]; decide +kernel⟩,
    ⟨{  }, 1, 0, by simp only [State.Serves]; decide +kernel⟩,
    ⟨{ regs := [(0x420f20, 2)] }, 15, by decide +kernel⟩,
    ⟨{ regs := [(0x420020, 3)] }, 0, by decide +kernel⟩,
    ⟨{ regs := [(0x420020, 4)] }, 0, by decide +kernel⟩⟩

/-- The hypotheses of each clause of `Obligations.CorrelatorCommands` are met together. -/
theorem witness_CorrelatorCommands :
    (∃ (s : State) (n : Nat) (sums : List Tap) (sync : Bool) (neg : Bool), s.pw.coreUp = true ∧ n < s.variant.channels ∧ s.on
      Reg.BB_STATUS_BB_ON = true ∧ s.fld (Reg.GCH_STATE_STATE n) ≠ chIdle ∧ s.on (Reg.AS_STAT_ALIGNED (s.fld (Reg.GCH_CFG_PORT n))) = true
      ∧ (neg = true → s.strips n = false)) ∧
    (∃ (s : State) (n : Nat) (sums : List Tap) (sync : Bool) (neg : Bool), s.pw.coreUp = true ∧ s.on (Reg.AS_STAT_ALIGNED (s.fld
      (Reg.GCH_CFG_PORT n))) = false) ∧
    (∃ (s : State) (b : Nat), s.pw.coreUp = true ∧ b * 64 < s.variant.channels ∧ s.fbit Reg.BANK_STAT_FENCED b = false) ∧
    (∃ (s : State), s.pw.coreUp = true ∧ s.variant ≠ Variant.l1024 ∧ s.gn.spareOut = false) ∧
    (∃ (s : State) (p : Nat) (v : Word), s.pw.coreUp = true ∧ s.Serves p ∧ s.variant ≠ Variant.l1024 ∧ s.ramCodeFree = true) ∧
    (∃ (s : State) (p : Nat), s.pw.coreUp = true ∧ s.Serves p ∧ s.variant ≠ Variant.l1024) ∧
    (∃ (s : State) (p : Nat) (v : Word), s.pw.coreUp = true ∧ s.Serves p ∧ s.variant ≠ Variant.l1024) ∧
    (∃ (s : State) (p : Nat), s.pw.coreUp = true ∧ s.Serves p ∧ s.variant ≠ Variant.l1024) ∧
    (∃ (s : State), s.pw.coreUp = true ∧ s.fld Reg.BB_STATUS_TRACKING < 4) ∧
    (∃ (s : State), s.pw.coreUp = true ∧ 4 ≤ s.fld Reg.BB_STATUS_TRACKING) :=
  ⟨⟨{ regs := [(0x408004, 3), (0x408024, 2), (0x420504, 0x20242), (0x420520, 3)] }, 5, [{ i := 1122637, q := (-1) }], false, true, by decide +kernel⟩,
    ⟨{  }, 0, [{ i := 0, q := (-1) }, { i := (-4665130186), q := 1654607 }], false, true, by decide +kernel⟩,
    ⟨{  }, 3, by decide +kernel⟩,
    ⟨{  }, by decide +kernel⟩,
    ⟨{  }, 3, 0x1e2, by simp only [State.Serves]; decide +kernel⟩,
    ⟨{  }, 2, by simp only [State.Serves]; decide +kernel⟩,
    ⟨{  }, 0, 0xd62b3d05, by simp only [State.Serves]; decide +kernel⟩,
    ⟨{  }, 1, by simp only [State.Serves]; decide +kernel⟩,
    ⟨{  }, by decide +kernel⟩,
    ⟨{ regs := [(0x408004, 35)] }, by decide +kernel⟩⟩

/-- The hypotheses of each clause of `Obligations.MeasurementEpochRecords` are met together. -/
theorem witness_MeasurementEpochRecords :
    (∃ (s : State) (n : Nat) (c : Nat) (k : Nat), s.pw.coreUp = true ∧ s.on Reg.BB_STATUS_BB_ON = true ∧ s.gn.epoch ≠ some s.measTime ∧
      s.holdsBack = false ∧ (s.chansWhere fun (w : Nat) => w % 8 == chTrack) = [n] ∧ BitVec.toNat s.measTime % (s.fld (Reg.GCH_CFG_INT_MS
      n) * 8000000) = 0 ∧ List.filter (fun (c : Nat) => s.on (Reg.CTX_PERM_GNSS_CONSUMER c)) s.boundContexts = [c] ∧ s.streamsOf c 1 = [k]
      ∧ s.fld (Reg.CTX_CFG_PORT c) < 2 ∧ s.hp.dmaOff.contains (s.fld (Reg.CTX_CFG_PORT c)) = false ∧ s.on (Reg.CW_STR_CFG_IRQ c k) = false
      ∧ (s.fld (Reg.CW_STR_WR_INDEX c k) + 2 ^ 17 - s.fld (Reg.CW_STR_RD_INDEX c k)) % 2 ^ 17 < 2 ^ s.fld (Reg.CW_STR_CFG_SIZE c k)) ∧
    (∃ (s : State), s.pw.coreUp = true ∧ s.on Reg.BB_STATUS_BB_ON = true ∧ s.gn.epoch ≠ some s.measTime ∧ s.holdsBack = true) ∧
    (∃ (s : State) (m : EpochIn), s.pw.coreUp = true ∧ (s.on Reg.BB_STATUS_BB_ON = false ∨ s.gn.epoch = some s.measTime)) ∧
    (∃ (s : State) (x : PwrIn), s.pw.coreUp = true ∧ s.on Reg.BB_STATUS_BB_ON = true ∧ s.gn.epoch ≠ some s.measTime ∧ s.on
      (Reg.AS_STAT_ALIGNED x.port) = true) :=
  ⟨⟨holding [(Reg.BB_STATUS_BB_ON, 1), (Reg.GCH_STATE_STATE 7, chTrack), (Reg.GCH_CFG_INT_MS 7, 1), (Reg.CTX_CFG_BOUND 3, 1), (Reg.CTX_PERM_GNSS_CONSUMER 3, 1), (Reg.CW_STR_CFG_EN 3 2, 1), (Reg.CW_STR_CFG_KIND 3 2, 1), (Reg.CW_STR_CFG_SIZE 3 2, 9)], 7, 3, 2, by decide +kernel⟩,
    ⟨{ regs := [(0x408004, 0x1aa6), (0x5c0000, 0x1c1)] }, by decide +kernel⟩,
    ⟨{  }, { cpv := [{ port := 0x4b3f, rms := 0x2148, vel := [(-1500429), (-1955353899), 0] }, { port := 2, rms := 2, vel := [(-949794), 746006830, (-1), (-1)] }, { port := 6, rms := 0x358, vel := [(-6055847015), 1866997, (-8), (-1), 1522] }, { port := 1, rms := 1, vel := [] }], baselines := [{ ant := 96, fixed := false, vec := [1270595, (-1186)] }], pwr := [{ port := 2, stream := 0x17e3c36, rms := 19, clip := 128 }, { port := 0x41d6, stream := 0x17d955c, rms := 2, clip := 0x2a8 }], leap := none, symbols := [{ chan := 14, one := false, start := 0x8baaa3d014 }, { chan := 0x17df03c, one := true, start := 0xfa48f32c31 }, { chan := 0x179ee1d, one := false, start := 0x5848199a69 }, { chan := 2, one := false, start := 0x71e97c64fb }, { chan := 1, one := false, start := 0xa815d4f996 }] }, by decide +kernel⟩,
    ⟨{ regs := [(0x408004, 3), (0x408014, 2)] }, { port := 0x3a0b0da8, stream := 1, rms := 1, clip := 2 }, by decide +kernel⟩⟩

/-- The hypotheses of each clause of `Obligations.PoseEpochGrowth` are met together. -/
theorem witness_PoseEpochGrowth :
    ∃ (s : State), s.pw.coreUp = true ∧ s.ftCounts = true ∧ s.poState ≠ poOff ∧ s.fld Reg.RES_STATE_STATE ≠ 1 ∧ s.fld Reg.RES_STATE_STATE
      ≠ 3 ∧ s.po.pending = [] ∧ s.po.coast = false ∧ Option.map (fun (x : PoseHist) => x.te) s.po.hist.head? ≠ some s.epochTime :=
  ⟨{ regs := [(0x410000, 1), (0x460004, 1)] }, by decide +kernel⟩

/-- The hypotheses of each clause of `Obligations.PoseCommands` are met together. -/
theorem witness_PoseCommands :
    (∃ (s : State) (p : Nat) (v : Word), s.pw.coreUp = true ∧ s.Serves p ∧ BitVec.getLsbD v 0 = true ∧ BitVec.toNat v / 2 % 2048 ≤ 2000 ∧
      s.poState = poOff ∧ s.on Reg.IMG_STATUS_ACTIVE = true) ∧
    (∃ (s : State) (p : Nat) (v : Word), s.pw.coreUp = true ∧ s.Serves p ∧ BitVec.getLsbD v 0 = false ∧ BitVec.toNat v / 2 % 2048 ≤ 2000) ∧
    (∃ (s : State) (p : Nat) (v : Word), s.pw.coreUp = true ∧ s.Serves p ∧ 2000 < BitVec.toNat v / 2 % 2048) ∧
    (∃ (s : State) (p : Nat) (v : Word), s.pw.coreUp = true ∧ s.Serves p ∧ BitVec.getLsbD v 0 = true) ∧
    (∃ (s : State), s.pw.coreUp = true ∧ s.poState ≠ poOff) ∧
    (∃ (s : State), s.pw.coreUp = true ∧ s.poState = poImu) ∧
    (∃ (s : State) (m : Nat) (ready : Bool) (x : Time), s.pw.coreUp = true ∧ m < 2 ∧ s.imuStarts m ready x = true ∧ 3 ≤ (sget (fun (x :
      Nat) => { }) s.po.imu m).bad) ∧
    (∃ (s : State) (m : Nat) (ready : Bool) (x : Time) (bs : List Byte), s.pw.coreUp = true ∧ m < 2 ∧ s.imuStarts m ready x = true ∧ s.fld
      (Reg.IMU_CFG_WIDTH m) = 0 ∧ s.fld (Reg.IMU_CFG_HDR_LEN m) = 0 ∧ bs.length = 12 ∧ (∃ (b : Byte), b ∈ bs ∧ b ≠ 0) ∧ (∃ (b : Byte), b ∈
      bs ∧ b ≠ 255) ∧ (sget (fun (x : Nat) => { }) s.po.imu m).full = [] ∧ 99 ≤ (sget (fun (x : Nat) => { }) s.po.imu m).good) ∧
    (∃ (s : State) (m : Nat) (ready : Bool) (x : Time) (bs : List Byte), s.pw.coreUp = true ∧ m < 2 ∧ s.imuStarts m ready x = false) ∧
    (∃ (s : State), s.pw.coreUp = true ∧ s.on Reg.POSE_STATUS_IMU0_OK = true ∧ s.on Reg.POSE_STATUS_IMU1_OK = true ∧ s.ratesDiffer = true) ∧
    (∃ (s : State), s.pw.coreUp = true ∧ s.ratesDiffer = false) ∧
    (∃ (s : State), s.pw.coreUp = true) ∧
    (∃ (s : State) (p : Nat) (k : Nat) (v : Word), s.pw.coreUp = true ∧ s.Serves p ∧ k < 8) ∧
    (∃ (s : State) (k : Nat), s.pw.coreUp = true ∧ k < 8 ∧ (s.segOf k).srcAct = 3) :=
  ⟨⟨{ regs := [(0x401004, 92)] }, 2, 1, by simp only [State.Serves]; decide +kernel⟩,
    ⟨{  }, 2, 0, by simp only [State.Serves]; decide +kernel⟩,
    ⟨{  }, 1, 0xd1b41fc4, by simp only [State.Serves]; decide +kernel⟩,
    ⟨{  }, 0, 0x2878a1a5, by simp only [State.Serves]; decide +kernel⟩,
    ⟨{ regs := [(0x460004, 0x6d7)] }, by decide +kernel⟩,
    ⟨{ regs := [(0x460004, 4)] }, by decide +kernel⟩,
    ⟨{ regs := [(0x460080, 0x10010413)], po := { imu := [(0, { bad := 4 })] } }, 0, true, 0xd2792aa819, by decide +kernel⟩,
    ⟨{ holding [(Reg.IMU_CFG_IMU_EN 1, 1), (Reg.IMU_CFG_WIDTH 1, 0), (Reg.IMU_CFG_HDR_LEN 1, 0)] with po := { imu := [(1, { good := 99, full := [] })] } }, 1, true, 50, [1, 2, 3, 4, 5, 6, 7, 8, 9, 10, 11, 12], by decide +kernel⟩,
    ⟨{  }, 0, false, 0x2230d906c5, [206, 67, 40, 145], by decide +kernel⟩,
    ⟨{ holding [(Reg.POSE_STATUS_IMU0_OK, 1), (Reg.POSE_STATUS_IMU1_OK, 1)] with po := { imu := [(1, { rate := [0, 21990232556, 0] })] } }, by decide +kernel⟩,
    ⟨{  }, by decide +kernel⟩,
    ⟨{  }, by decide +kernel⟩,
    ⟨{  }, 0, 1, 3, by simp only [State.Serves]; decide +kernel⟩,
    ⟨{ po := { seg := [(1, { srcAct := 3 })] } }, 1, by decide +kernel⟩⟩

/-- The hypotheses of each clause of `Obligations.TileSlotCommands` are met together. -/
theorem witness_TileSlotCommands :
    (∃ (s : State) (p : Nat) (k : Nat), s.pw.coreUp = true ∧ s.Serves p ∧ k < s.variant.slots ∧ s.tileState k = 0 ∧ ¬k ∈ s.mp.filling) ∧
    (∃ (s : State) (p : Nat) (k : Nat), s.pw.coreUp = true ∧ s.Serves p ∧ k < s.variant.slots ∧ s.tileState k = 0 ∧ k ∈ s.mp.filling) ∧
    (∃ (s : State) (p : Nat) (k : Nat), s.pw.coreUp = true ∧ s.Serves p ∧ k < s.variant.slots ∧ s.tileState k ≠ 0) ∧
    (∃ (s : State) (k : Nat), s.pw.coreUp = true ∧ k < s.variant.slots ∧ k ∈ s.mp.filling) ∧
    (∃ (s : State) (p : Nat) (k : Nat), s.pw.coreUp = true ∧ s.Serves p ∧ k < s.variant.slots ∧ s.tileState k = 1 ∧ ¬k ∈ s.committing ∧ ∀
      (j : Nat), j ∈ s.committing → s.tileAt j ≠ s.tileAt k) ∧
    (∃ (s : State) (p : Nat) (k : Nat) (j : Nat), s.pw.coreUp = true ∧ s.Serves p ∧ k < s.variant.slots ∧ s.tileState k = 1 ∧ ¬k ∈
      s.committing ∧ j ∈ s.committing ∧ s.tileAt j = s.tileAt k) ∧
    (∃ (s : State) (p : Nat) (k : Nat) (f : Bool), s.pw.coreUp = true ∧ s.Serves p ∧ k < s.variant.slots ∧ s.tileState k = 1) ∧
    (∃ (s : State) (p : Nat) (k : Nat), s.pw.coreUp = true ∧ s.Serves p ∧ k < s.variant.slots ∧ s.tileState k = 2 ∧ s.fld
      (Reg.TILE_DIRTY_BAND k) ≠ 0) ∧
    (∃ (s : State) (p : Nat) (k : Nat), s.pw.coreUp = true ∧ s.Serves p ∧ k < s.variant.slots ∧ s.tileState k = 3) ∧
    (∃ (s : State) (p : Nat) (k : Nat), s.pw.coreUp = true ∧ s.Serves p ∧ k < s.variant.slots) ∧
    (∃ (s : State) (p : Nat) (v : Word), s.pw.coreUp = true ∧ s.Serves p) :=
  ⟨⟨{  }, 2, 186, by simp only [State.Serves]; decide +kernel⟩,
    ⟨{ mp := { filling := [0] } }, 0, 0, by simp only [State.Serves]; decide +kernel⟩,
    ⟨{ regs := [(0x409aa8, 2)] }, 2, 42, by simp only [State.Serves]; decide +kernel⟩,
    ⟨{ mp := { filling := [0] } }, 0, by decide +kernel⟩,
    ⟨{ regs := [(0x4098a8, 1)] }, 0, 10, by simp only [State.Serves]; decide +kernel⟩,
    ⟨{ regs := [(0x409878, 1)], mp := { commits := [4] } }, 1, 7, 4, by simp only [State.Serves]; decide +kernel⟩,
    ⟨{ regs := [(0x409a18, 1)] }, 0, 33, true, by simp only [State.Serves]; decide +kernel⟩,
    ⟨{ regs := [(0x409808, 2), (0x40980c, 3)] }, 1, 0, by simp only [State.Serves]; decide +kernel⟩,
    ⟨{ regs := [(0x409898, 3)] }, 3, 9, by simp only [State.Serves]; decide +kernel⟩,
    ⟨{  }, 2, 2, by simp only [State.Serves]; decide +kernel⟩,
    ⟨{  }, 3, 210, by simp only [State.Serves]; decide +kernel⟩⟩

/-- The hypotheses of each clause of `Obligations.TileContentsAndSections` are met together. -/
theorem witness_TileContentsAndSections :
    (∃ (s : State) (k : Nat) (old : Nat), s.pw.coreUp = true ∧ k < s.variant.slots ∧ List.find? (fun (m : Nat × Nat) => decide (m.fst =
      k)) s.mp.merges = some (k, old) ∧ old < s.variant.slots ∧ old ≠ k ∧ s.tileState old = 2) ∧
    (∃ (s : State) (p : Nat) (off : Nat) (bs : List Byte), s.pw.coreUp = true ∧ s.Serves p ∧ off / 131072 < s.variant.slots ∧ off % 131072
      + bs.length ≤ 131072 ∧ ¬off / 131072 ∈ s.mp.filling ∧ s.tileState (off / 131072) = 1 ∧ ∀ (key : Nat), s.cellWord key < 65536) ∧
    (∃ (s : State) (p : Nat) (off : Nat) (b : Byte), s.pw.coreUp = true ∧ s.Serves p ∧ off / 131072 < s.variant.slots ∧ ¬off / 131072 ∈
      s.mp.filling ∧ s.tileState (off / 131072) = 2 ∧ s.on (Reg.TILE_CTRL_COV_WRITE (off / 131072)) = false ∧ off % 2 = 0) ∧
    (∃ (s : State) (p : Nat) (off : Nat) (bs : List Byte), s.pw.coreUp = true ∧ s.Serves p ∧ off / 131072 < s.variant.slots ∧ off +
      bs.length ≤ 25165824 ∧ ¬off / 131072 ∈ s.mp.filling ∧ (s.tileState (off / 131072) = 0 ∨ s.tileState (off / 131072) = 3)) ∧
    (∃ (s : State), s.pw.coreUp = true ∧ s.fld Reg.RES_STATE_STATE ≠ 1 ∧ s.fld Reg.RES_STATE_STATE ≠ 3) :=
  ⟨⟨{ regs := [(0x409828, 2)], mp := { merges := [(1, 2)] } }, 1, 2, by decide +kernel⟩,
    ⟨holding [(Reg.TILE_CTRL_STATE 103, 1)], 3, 0xcf27c1, [225, 0, 28, 0], by simp only [State.Serves]; exact ⟨by decide +kernel, by decide +kernel, by decide +kernel, by decide +kernel, by decide +kernel, by decide +kernel, fun _ => (by decide : fillCell < 65536)⟩⟩,
    ⟨{ regs := [(0x409808, 2)] }, 2, 0x1b96, 120, by simp only [State.Serves]; decide +kernel⟩,
    ⟨{  }, 3, 2, [20], by simp only [State.Serves]; decide +kernel⟩,
    ⟨{  }, by decide +kernel⟩⟩

/-- The hypotheses of each clause of `Obligations.PathCommitAndCommitPass` are met together. -/
theorem witness_PathCommitAndCommitPass :
    (∃ (s : State) (p : Nat) (v : Word), s.pw.coreUp = true ∧ s.Serves p ∧ BitVec.getLsbD v 6 = true ∧ BitVec.toNat v % 64 ≤ 32 ∧ (∀ (i :
      Nat), i < BitVec.toNat v % 64 → s.distAscends i (s.fld (Reg.PK_DIST_DIST i)) = true) ∧ (s.poseAt (BitVec.ofNat 64 (s.reg64
      4243492))).isSome = true ∧ 0 ≤ tdiff s.ft (BitVec.ofNat 64 (s.reg64 4243492)) ∧ tdiff s.ft (BitVec.ofNat 64 (s.reg64 4243492)) ≤
      2048000000) ∧
    (∃ (s : State) (p : Nat) (v : Word), s.pw.coreUp = true ∧ s.Serves p ∧ BitVec.getLsbD v 6 = true ∧ BitVec.toNat v % 64 ≤ 32 ∧
      (s.poseAt (BitVec.ofNat 64 (s.reg64 4243492)) = none ∨ ∃ (i : Nat), i < BitVec.toNat v % 64 ∧ s.distAscends i (s.fld
      (Reg.PK_DIST_DIST i)) = false)) ∧
    (∃ (s : State) (p : Nat) (v : Word), s.pw.coreUp = true ∧ s.Serves p ∧ BitVec.getLsbD v 6 = true ∧ 32 < BitVec.toNat v % 64) ∧
    (∃ (s : State) (h : PoseHist) (hs : List PoseHist), s.pw.coreUp = true ∧ s.fld Reg.RES_STATE_STATE ≠ 1 ∧ s.fld Reg.RES_STATE_STATE ≠ 3
      ∧ s.degraded = false ∧ s.po.hist = h :: hs ∧ s.lg.lastPass = some h.te) ∧
    (∃ (s : State) (h : PoseHist) (hs : List PoseHist) (i : Nat) (e : Entry), s.pw.coreUp = true ∧ s.fld Reg.RES_STATE_STATE ≠ 1 ∧ s.fld
      Reg.RES_STATE_STATE ≠ 3 ∧ s.degraded = false ∧ s.po.hist = h :: hs ∧ s.lg.lastPass ≠ some h.te ∧ s.ledger = [(i, e)] ∧ s.entry i =
      some e ∧ e.st = eBooked ∧ tdiff e.due h.te ≤ 8000000 * ↑(s.fld (Reg.CL_TIMING_COMMIT_WIN (s.cls e.outlet))) ∧ e.ctx.isSome = true ∧
      s.on (Reg.CL_COMMIT_CTX_CONF (s.cls e.outlet)) = false ∧ 800000 ≤ tdiff e.due h.te) ∧
    (∃ (s : State) (h : PoseHist) (hs : List PoseHist) (i : Nat) (e : Entry), s.pw.coreUp = true ∧ s.fld Reg.RES_STATE_STATE ≠ 1 ∧ s.fld
      Reg.RES_STATE_STATE ≠ 3 ∧ s.degraded = false ∧ s.po.hist = h :: hs ∧ s.lg.lastPass ≠ some h.te ∧ s.ledger = [(i, e)] ∧ s.entry i =
      some e ∧ e.st = eBooked ∧ tdiff e.due h.te ≤ 8000000 * ↑(s.fld (Reg.CL_TIMING_COMMIT_WIN (s.cls e.outlet))) ∧ e.cross = none ∧ e.ctx
      = none ∧ tdiff h.te e.due < -↑(s.commitLead e.outlet)) ∧
    (∃ (s : State) (h : PoseHist) (hs : List PoseHist) (i : Nat) (e : Entry), s.pw.coreUp = true ∧ s.fld Reg.RES_STATE_STATE ≠ 1 ∧ s.fld
      Reg.RES_STATE_STATE ≠ 3 ∧ s.degraded = false ∧ s.po.hist = h :: hs ∧ s.lg.lastPass ≠ some h.te ∧ s.ledger = [(i, e)] ∧ s.entry i =
      some e ∧ e.st = eBooked ∧ tdiff e.due h.te ≤ 8000000 * ↑(s.fld (Reg.CL_TIMING_COMMIT_WIN (s.cls e.outlet))) ∧ e.cross = none ∧ e.ctx
      = none ∧ e.kind = kOpen ∧ -↑(s.commitLead e.outlet) ≤ tdiff h.te e.due) ∧
    (∃ (s : State) (h : PoseHist) (hs : List PoseHist) (i : Nat) (e : Entry), s.pw.coreUp = true ∧ s.fld Reg.RES_STATE_STATE ≠ 1 ∧ s.fld
      Reg.RES_STATE_STATE ≠ 3 ∧ s.degraded = false ∧ s.po.hist = h :: hs ∧ s.lg.lastPass ≠ some h.te ∧ s.ledger = [(i, e)] ∧ s.entry i =
      some e ∧ e.st = eBooked ∧ tdiff e.due h.te ≤ 8000000 * ↑(s.fld (Reg.CL_TIMING_COMMIT_WIN (s.cls e.outlet))) ∧ e.cross = none ∧ e.ctx
      = none ∧ e.kind ≠ kOpen ∧ -↑(s.commitLead e.outlet) ≤ tdiff h.te e.due) :=
  ⟨⟨{ ft := 0x5c5e393601, regs := [(0x40c028, 92), (0x40c210, 17), (0x40c220, 20)], po := { hist := [{ te := 0, pos := [], quat := [], r := 0, vel := [], valid := false, defl := [] }] } }, 0, 0xfaaee5c3, by simp only [State.Serves]; decide +kernel⟩,
    ⟨{  }, 0, 0x143, by simp only [State.Serves]; decide +kernel⟩,
    ⟨{  }, 1, 0xa457ed62, by simp only [State.Serves]; decide +kernel⟩,
    ⟨{ po := { hist := [{ te := 0x1a0d1da46e, pos := [0, 5960735830, (-1)], quat := [1135553, (-145469), (-695), (-172879), (-1)], r := (-1), vel := [506300], valid := false, defl := [((-1), (-1876356438)), (795879314, 202), ((-1), (-244988)), (476383606, 1936)] }, { te := 0xa5e8dbcaf3, pos := [], quat := [(-1), 0, 1194534], r := 959554, vel := [1], valid := true, defl := [] }] }, lg := { lastPass := (some 0x1a0d1da46e) } }, { te := 0x1a0d1da46e, pos := [0, 5960735830, (-1)], quat := [1135553, (-145469), (-695), (-172879), (-1)], r := (-1), vel := [506300], valid := false, defl := [((-1), (-1876356438)), (795879314, 202), ((-1), (-244988)), (476383606, 1936)] }, [{ te := 0xa5e8dbcaf3, pos := [], quat := [(-1), 0, 1194534], r := 959554, vel := [1], valid := true, defl := [] }], by decide +kernel⟩,
    ⟨{ holding [(Reg.CL_COMMIT_CTX_CONF 0, 0)] with po := { hist := [⟨400000, [0, 0, 0], [1, 0, 0, 0], 0, [0, 0, 0], true, []⟩] }, lg := { entries := [(9, some { st := 1, kind := 0, outlet := 5, ctx := some 3, frame := 1, due := 2000000, frameDue := 0 })] } }, ⟨400000, [0, 0, 0], [1, 0, 0, 0], 0, [0, 0, 0], true, []⟩, [], 9, { st := 1, kind := 0, outlet := 5, ctx := some 3, frame := 1, due := 2000000, frameDue := 0 }, by decide +kernel⟩,
    ⟨{ holding [] with po := { hist := [⟨400000, [0, 0, 0], [1, 0, 0, 0], 0, [0, 0, 0], true, []⟩] }, lg := { entries := [(9, some { st := 1, kind := 0, outlet := 5, ctx := none, frame := 1, due := 16400001, frameDue := 0 })] } }, ⟨400000, [0, 0, 0], [1, 0, 0, 0], 0, [0, 0, 0], true, []⟩, [], 9, { st := 1, kind := 0, outlet := 5, ctx := none, frame := 1, due := 16400001, frameDue := 0 }, by decide +kernel⟩,
    ⟨{ po := { hist := [{ te := 0x29d9765f7c, pos := [1, 1], quat := [1483, (-766), 1, (-257), (-1)], r := (-861), vel := [(-154), (-1719873), (-1)], valid := true, defl := [((-193538), 956), (71178, (-1))] }, { te := 0x68e9e8a0a0, pos := [], quat := [1405, 0, 969666220, 0], r := (-1990), vel := [(-1), 1222155123, (-1697454), 496380], valid := true, defl := [((-1360), (-1)), (0, (-1277193))] }, { te := 0x1ac97a54bd, pos := [(-5363), (-1)], quat := [0, (-4263142932), (-6249067939), 0], r := (-5773239915), vel := [], valid := true, defl := [] }, { te := 0x4baccff0b8, pos := [1, (-7093917335), 0, 1], quat := [], r := 0, vel := [(-48), (-500)], valid := true, defl := [(1, 1), (0, 0), ((-1), 1728419), (0, 1)] }] }, lg := { entries := [(4, (some { st := 1, kind := 0, outlet := 2, forced := true, withheld := true, replanned := true, shifted := true, cause := 6, frame := 25, due := 0x995366bf, param := 0x4518, code := 50, delay := 7, floor := (some 0x8536bbb8dc), reserve := true, frameDue := 0x1a7173ce3, ended := 2 }))] } }, { te := 0x29d9765f7c, pos := [1, 1], quat := [1483, (-766), 1, (-257), (-1)], r := (-861), vel := [(-154), (-1719873), (-1)], valid := true, defl := [((-193538), 956), (71178, (-1))] }, [{ te := 0x68e9e8a0a0, pos := [], quat := [1405, 0, 969666220, 0], r := (-1990), vel := [(-1), 1222155123, (-1697454), 496380], valid := true, defl := [((-1360), (-1)), (0, (-1277193))] }, { te := 0x1ac97a54bd, pos := [(-5363), (-1)], quat := [0, (-4263142932), (-6249067939), 0], r := (-5773239915), vel := [], valid := true, defl := [] }, { te := 0x4baccff0b8, pos := [1, (-7093917335), 0, 1], quat := [], r := 0, vel := [(-48), (-500)], valid := true, defl := [(1, 1), (0, 0), ((-1), 1728419), (0, 1)] }], 4, { st := 1, kind := 0, outlet := 2, forced := true, withheld := true, replanned := true, shifted := true, cause := 6, frame := 25, due := 0x995366bf, param := 0x4518, code := 50, delay := 7, floor := (some 0x8536bbb8dc), reserve := true, frameDue := 0x1a7173ce3, ended := 2 }, by decide +kernel⟩,
    ⟨{ po := { hist := [{ te := 0x801783759, pos := [1225149], quat := [(-6955276556), (-763), (-1), 0], r := 1237, vel := [0, 1, 478378922, (-1)], valid := false, defl := [((-1), 1049), (760, 4730597875)] }, { te := 0xc73e2a4d29, pos := [264346, (-1), (-1)], quat := [(-2902336884), (-1759), 7493952976, (-437467)], r := (-1), vel := [(-766), (-1), 103], valid := false, defl := [(1909913565, 0), (1777099975, (-1)), (1430291, (-1)), (0, 772)] }, { te := 0xb5be4c9325, pos := [0, 1, (-1)], quat := [(-141), 0, 0, (-1)], r := (-1021), vel := [0, (-1), 1703835], valid := false, defl := [((-1), (-1)), (3408415536, (-1757762363)), (1794, (-1)), (1, (-1)), ((-1957), 5602104141)] }] }, lg := { entries := [(0, (some { st := 1, kind := 1, outlet := 13, withheld := true, replanned := true, cause := 0x223, remote := true, frame := 0x4cdaab3b, due := 0x1d9b9fac5, code := 0xc961a1b5, delayA := 64, delay := 26, floor := (some 0xc3c2b83891), clamped := true, frameDue := 0x6148012e }))] } }, { te := 0x801783759, pos := [1225149], quat := [(-6955276556), (-763), (-1), 0], r := 1237, vel := [0, 1, 478378922, (-1)], valid := false, defl := [((-1), 1049), (760, 4730597875)] }, [{ te := 0xc73e2a4d29, pos := [264346, (-1), (-1)], quat := [(-2902336884), (-1759), 7493952976, (-437467)], r := (-1), vel := [(-766), (-1), 103], valid := false, defl := [(1909913565, 0), (1777099975, (-1)), (1430291, (-1)), (0, 772)] }, { te := 0xb5be4c9325, pos := [0, 1, (-1)], quat := [(-141), 0, 0, (-1)], r := (-1021), vel := [0, (-1), 1703835], valid := false, defl := [((-1), (-1)), (3408415536, (-1757762363)), (1794, (-1)), (1, (-1)), ((-1957), 5602104141)] }], 0, { st := 1, kind := 1, outlet := 13, withheld := true, replanned := true, cause := 0x223, remote := true, frame := 0x4cdaab3b, due := 0x1d9b9fac5, code := 0xc961a1b5, delayA := 64, delay := 26, floor := (some 0xc3c2b83891), clamped := true, frameDue := 0x6148012e }, by decide +kernel⟩⟩

/-- The hypotheses of each clause of `Obligations.FrameStartAndPreflux` are met together. -/
theorem witness_FrameStartAndPreflux :
    (∃ (s : State) (tk : Time), s.pw.coreUp = true ∧ s.on Reg.IMG_STATUS_ACTIVE = true ∧ s.ftCounts = true ∧ s.tb.next = some tk ∧ tge
      s.ft tk = true) ∧
    (∃ (s : State) (tk : Time), s.pw.coreUp = true ∧ s.on Reg.IMG_STATUS_ACTIVE = true ∧ s.ftCounts = true ∧ s.tb.next = some tk ∧ tge
      s.ft tk = false) ∧
    (∃ (s : State) (i : Nat) (e : Entry), s.pw.coreUp = true ∧ s.entry i = some e ∧ e.outlet < 1024 ∧ s.fld (Reg.OT_TARGET_CHAN e.outlet)
      < 128 ∧ e.kind = kOpen ∧ (e.st = eBooked ∨ e.st = eCommitted) ∧ s.fld (Reg.OT_CFG_TARGET e.outlet) = 1 ∧ s.vState (s.fld
      (Reg.OT_TARGET_CHAN e.outlet)) = vIdle ∧ s.fld (Reg.CL_PREFLUX_PREFLUX (s.cls e.outlet)) ≠ 0 ∧ s.inCloseWin (s.fld
      (Reg.OT_TARGET_CHAN e.outlet)) = false ∧ s.fld (Reg.VCH_STATE_DERATE (s.fld (Reg.OT_TARGET_CHAN e.outlet))) = 0 ∧ (s.valve (s.fld
      (Reg.OT_TARGET_CHAN e.outlet))).safe = 0 ∧ s.vd.stopLow = false ∧ s.vd.haltFt = none ∧ tdiff e.due s.ft ≤ 400000 * ↑(s.fld
      (Reg.CL_TIMING_PRE_LEAD (s.cls e.outlet))) ∧ s.dieUp (dieOf (s.fld (Reg.OT_TARGET_CHAN e.outlet))) = true) ∧
    (∃ (s : State) (i : Nat) (e : Entry), s.pw.coreUp = true ∧ s.entry i = some e ∧ e.outlet < 1024 ∧ s.fld (Reg.OT_TARGET_CHAN e.outlet)
      < 128 ∧ (e.kind ≠ kOpen ∨ s.vState (s.fld (Reg.OT_TARGET_CHAN e.outlet)) ≠ vIdle ∨ s.fld (Reg.VCH_STATE_DERATE (s.fld
      (Reg.OT_TARGET_CHAN e.outlet))) ≠ 0 ∨ s.inCloseWin (s.fld (Reg.OT_TARGET_CHAN e.outlet)) = true)) :=
  ⟨⟨{ ft := 0x200002095, regs := [(0x401004, 8), (0x410000, 1)], tb := { next := (some 0x135dc74f0) } }, 0x135dc74f0, by decide +kernel⟩,
    ⟨{ regs := [(0x401004, 8), (0x410000, 1)], tb := { next := (some 0xdd6fa9950a) } }, 0xdd6fa9950a, by decide +kernel⟩,
    ⟨{ ft := 0x1666d2867, regs := [(0x4702c0, 2), (0x4702c4, 86), (0x520004, 7), (0x525584, 1)], lg := { entries := [(5, (some { st := 2, kind := 0, outlet := 11, withheld := true, orphaned := true, replanned := true, shifted := true, wdr := true, cause := 8, remote := true, ctx := (some 14), frame := 0, due := 0xaeea0e90, param := 2, cross := (some (0x3fd68ec278, (((-938), (-1)), (0, (-1))))), delayA := 1, delay := 0x17ee5a9, floor := (some 0x889a471748), reserve := true, clamped := true, frameDue := 0x32051709a, ended := 2 }))] } }, 5, { st := 2, kind := 0, outlet := 11, withheld := true, orphaned := true, replanned := true, shifted := true, wdr := true, cause := 8, remote := true, ctx := (some 14), frame := 0, due := 0xaeea0e90, param := 2, cross := (some (0x3fd68ec278, (((-938), (-1)), (0, (-1))))), delayA := 1, delay := 0x17ee5a9, floor := (some 0x889a471748), reserve := true, clamped := true, frameDue := 0x32051709a, ended := 2 }, by decide +kernel⟩,
    ⟨{ lg := { entries := [(0, (some { st := 6, kind := 0, outlet := 13, forced := true, replanned := true, cause := 0x17aa9ed, ctx := (some 3), frame := 7, due := 0x14c38326b, param := 0x4265, code := 1, delayA := 2, delay := 1, floor := (some 0x3177a18407), reserve := true, frameDue := 0x31a5cc710, acked := true, ended := 3 }))] } }, 0, { st := 6, kind := 0, outlet := 13, forced := true, replanned := true, cause := 0x17aa9ed, ctx := (some 3), frame := 7, due := 0x14c38326b, param := 0x4265, code := 1, delayA := 2, delay := 1, floor := (some 0x3177a18407), reserve := true, frameDue := 0x31a5cc710, acked := true, ended := 3 }, by decide +kernel⟩⟩

/-- The hypotheses of each clause of `Obligations.EventFires` are met together. -/
theorem witness_EventFires :
    (∃ (s : State) (i : Nat) (e : Entry), s.pw.coreUp = true ∧ s.entry i = some e ∧ e.st = eCommitted ∧ e.outlet < 1024 ∧ s.fireDue i =
      false) ∧
    (∃ (s : State) (i : Nat) (e : Entry), s.pw.coreUp = true ∧ s.entry i = some e ∧ e.st = eCommitted ∧ e.outlet < 1024 ∧ s.fireDue i =
      true ∧ s.fld (Reg.OT_CFG_TARGET e.outlet) = 1 ∧ s.fld (Reg.OT_TARGET_CHAN e.outlet) < 128 ∧ s.targetUp e.outlet = true ∧ s.frozen
      (s.fld (Reg.OT_TARGET_CHAN e.outlet)) = false ∧ s.on (Reg.OT_STATE_INHIBIT e.outlet) = false ∧ (s.valve (s.fld (Reg.OT_TARGET_CHAN
      e.outlet))).safe = 0 ∧ s.vd.stopLow = false ∧ e.kind = kOpen ∧ s.closeWins e = false ∧ (s.vState (s.fld (Reg.OT_TARGET_CHAN
      e.outlet)) = vIdle ∨ s.vState (s.fld (Reg.OT_TARGET_CHAN e.outlet)) = vPreflux)) ∧
    (∃ (s : State) (i : Nat) (e : Entry), s.pw.coreUp = true ∧ s.entry i = some e ∧ e.st = eCommitted ∧ e.outlet < 1024 ∧ s.fireDue i =
      true ∧ s.fld (Reg.OT_CFG_TARGET e.outlet) = 1 ∧ s.fld (Reg.OT_TARGET_CHAN e.outlet) < 128 ∧ s.targetUp e.outlet = true ∧ s.frozen
      (s.fld (Reg.OT_TARGET_CHAN e.outlet)) = false ∧ s.on (Reg.OT_STATE_INHIBIT e.outlet) = false ∧ (s.valve (s.fld (Reg.OT_TARGET_CHAN
      e.outlet))).safe = 0 ∧ s.vd.stopLow = false ∧ e.kind = kClose ∧ (s.vState (s.fld (Reg.OT_TARGET_CHAN e.outlet)) = vOpening ∨
      s.vState (s.fld (Reg.OT_TARGET_CHAN e.outlet)) = vHold)) ∧
    (∃ (s : State) (i : Nat) (e : Entry), s.pw.coreUp = true ∧ s.entry i = some e ∧ e.st = eCommitted ∧ e.outlet < 1024 ∧ s.fireDue i =
      true ∧ s.fld (Reg.OT_CFG_TARGET e.outlet) = 1 ∧ s.fld (Reg.OT_TARGET_CHAN e.outlet) < 128 ∧ s.targetUp e.outlet = true ∧ s.frozen
      (s.fld (Reg.OT_TARGET_CHAN e.outlet)) = false ∧ s.on (Reg.OT_STATE_INHIBIT e.outlet) = false ∧ (s.valve (s.fld (Reg.OT_TARGET_CHAN
      e.outlet))).safe = 0 ∧ s.vd.stopLow = false ∧ e.kind = kOpen ∧ s.closeWins e = false ∧ s.vState (s.fld (Reg.OT_TARGET_CHAN
      e.outlet)) = vHold) ∧
    (∃ (s : State) (i : Nat) (e : Entry), s.pw.coreUp = true ∧ s.entry i = some e ∧ e.st = eCommitted ∧ e.outlet < 1024 ∧ s.fireDue i =
      true ∧ s.fld (Reg.OT_CFG_TARGET e.outlet) = 1 ∧ s.fld (Reg.OT_TARGET_CHAN e.outlet) < 128 ∧ s.targetUp e.outlet = true ∧ s.frozen
      (s.fld (Reg.OT_TARGET_CHAN e.outlet)) = false ∧ s.on (Reg.OT_STATE_INHIBIT e.outlet) = false ∧ (s.valve (s.fld (Reg.OT_TARGET_CHAN
      e.outlet))).safe = 0 ∧ s.vd.stopLow = false ∧ e.kind = kOpen ∧ s.closeWins e = false ∧ s.vState (s.fld (Reg.OT_TARGET_CHAN
      e.outlet)) = vFault) ∧
    (∃ (s : State) (i : Nat) (e : Entry), s.pw.coreUp = true ∧ s.entry i = some e ∧ e.st = eCommitted ∧ e.outlet < 1024 ∧ s.fireDue i =
      true ∧ e.kind = kRate ∧ s.on (Reg.OT_RATE_DEST e.outlet) = true ∧ s.on (Reg.OT_STATE_INHIBIT e.outlet) = false) ∧
    (∃ (s : State) (i : Nat) (e : Entry), s.pw.coreUp = true ∧ s.entry i = some e ∧ e.st = eCommitted ∧ e.outlet < 1024 ∧ s.fireDue i =
      true ∧ s.fld (Reg.OT_CFG_TARGET e.outlet) ≠ 4 ∧ e.kind = kClose ∧ s.targetUp e.outlet = false) ∧
    (∃ (s : State) (i : Nat) (e : Entry), s.pw.coreUp = true ∧ s.entry i = some e ∧ e.st = eCommitted ∧ e.outlet < 1024 ∧ s.fireDue i =
      true ∧ s.fld (Reg.OT_CFG_TARGET e.outlet) = 4 ∧ e.kind = kClose ∧ e.acked = false) ∧
    (∃ (s : State) (i : Nat) (e : Entry), s.pw.coreUp = true ∧ s.entry i = some e ∧ e.st = eCommitted ∧ e.outlet < 1024 ∧ s.fireDue i =
      true ∧ e.kind = kOpen ∧ s.on (Reg.OT_STATE_INHIBIT e.outlet) = true ∧ s.ledger = [(i, e)]) :=
  ⟨⟨{ lg := { entries := [(5, (some { st := 2, kind := 1, outlet := 11, withheld := true, orphaned := true, replanned := true, shifted := true, wdr := true, cause := 8, remote := true, ctx := (some 14), frame := 0, due := 0xaeea0e90, param := 2, cross := (some (0x3fd68ec278, (((-938), (-1)), (0, (-1))))), delayA := 1, delay := 0x17ee5a9, floor := (some 0x889a471748), reserve := true, clamped := true, frameDue := 0x32051709a, ended := 2 }))] } }, 5, { st := 2, kind := 1, outlet := 11, withheld := true, orphaned := true, replanned := true, shifted := true, wdr := true, cause := 8, remote := true, ctx := (some 14), frame := 0, due := 0xaeea0e90, param := 2, cross := (some (0x3fd68ec278, (((-938), (-1)), (0, (-1))))), delayA := 1, delay := 0x17ee5a9, floor := (some 0x889a471748), reserve := true, clamped := true, frameDue := 0x32051709a, ended := 2 }, by decide +kernel⟩,
    ⟨{ holding [(Reg.OT_CFG_TARGET 5, 1), (Reg.OT_TARGET_CHAN 5, 127), (Reg.VD_STATUS_DIEB_LINK, 1), (Reg.VCH_STATE_STATE 127, vIdle)] with ft := 7, lg := { entries := [(9, some { st := 2, kind := 0, outlet := 5, frame := 1, due := 7, frameDue := 0 })] }, rs := { fire := [[(9, some ⟨5, 0, 7, 0, 0⟩)], [], [(9, some ⟨5, 0, 7, 0, 0⟩)]] } }, 9, { st := 2, kind := 0, outlet := 5, frame := 1, due := 7, frameDue := 0 }, by decide +kernel⟩,
    ⟨{ holding [(Reg.OT_CFG_TARGET 5, 1), (Reg.OT_TARGET_CHAN 5, 127), (Reg.VD_STATUS_DIEB_LINK, 1), (Reg.VCH_STATE_STATE 127, vHold)] with ft := 7, lg := { entries := [(9, some { st := 2, kind := 1, outlet := 5, frame := 1, due := 7, frameDue := 0 })] }, rs := { fire := [[(9, some ⟨5, 1, 7, 0, 0⟩)], [], [(9, some ⟨5, 1, 7, 0, 0⟩)]] } }, 9, { st := 2, kind := 1, outlet := 5, frame := 1, due := 7, frameDue := 0 }, by decide +kernel⟩,
    ⟨{ holding [(Reg.OT_CFG_TARGET 5, 1), (Reg.OT_TARGET_CHAN 5, 127), (Reg.VD_STATUS_DIEB_LINK, 1), (Reg.VCH_STATE_STATE 127, vHold)] with ft := 7, lg := { entries := [(9, some { st := 2, kind := 0, outlet := 5, frame := 1, due := 7, frameDue := 0 })] }, rs := { fire := [[(9, some ⟨5, 0, 7, 0, 0⟩)], [], [(9, some ⟨5, 0, 7, 0, 0⟩)]] } }, 9, { st := 2, kind := 0, outlet := 5, frame := 1, due := 7, frameDue := 0 }, by decide +kernel⟩,
    ⟨{ holding [(Reg.OT_CFG_TARGET 5, 1), (Reg.OT_TARGET_CHAN 5, 127), (Reg.VD_STATUS_DIEB_LINK, 1), (Reg.VCH_STATE_STATE 127, vFault)] with ft := 7, lg := { entries := [(9, some { st := 2, kind := 0, outlet := 5, frame := 1, due := 7, frameDue := 0 })] }, rs := { fire := [[(9, some ⟨5, 0, 7, 0, 0⟩)], [], [(9, some ⟨5, 0, 7, 0, 0⟩)]] } }, 9, { st := 2, kind := 0, outlet := 5, frame := 1, due := 7, frameDue := 0 }, by decide +kernel⟩,
    ⟨{ holding [(Reg.OT_RATE_DEST 5, 1)] with ft := 7, lg := { entries := [(9, some { st := 2, kind := 2, outlet := 5, frame := 1, due := 7, frameDue := 0 })] }, rs := { fire := [[(9, some ⟨5, 2, 7, 0, 0⟩)], [], [(9, some ⟨5, 2, 7, 0, 0⟩)]] } }, 9, { st := 2, kind := 2, outlet := 5, frame := 1, due := 7, frameDue := 0 }, by decide +kernel⟩,
    ⟨{ holding [(Reg.OT_CFG_TARGET 5, 1)] with ft := 7, lg := { entries := [(9, some { st := 2, kind := 1, outlet := 5, frame := 1, due := 7, frameDue := 0 })] }, rs := { fire := [[(9, some ⟨5, 1, 7, 0, 0⟩)], [], [(9, some ⟨5, 1, 7, 0, 0⟩)]] } }, 9, { st := 2, kind := 1, outlet := 5, frame := 1, due := 7, frameDue := 0 }, by decide +kernel⟩,
    ⟨{ holding [(Reg.OT_CFG_TARGET 5, 4)] with ft := 7, lg := { entries := [(9, some { st := 2, kind := 1, outlet := 5, frame := 1, due := 7, frameDue := 0 })] }, rs := { fire := [[(9, some ⟨5, 1, 7, 0, 0⟩)], [], [(9, some ⟨5, 1, 7, 0, 0⟩)]] } }, 9, { st := 2, kind := 1, outlet := 5, frame := 1, due := 7, frameDue := 0 }, by decide +kernel⟩,
    ⟨{ holding [(Reg.OT_STATE_INHIBIT 5, 1)] with ft := 7, lg := { entries := [(9, some { st := 2, kind := 0, outlet := 5, frame := 1, due := 7, frameDue := 0 })] }, rs := { fire := [[(9, some ⟨5, 0, 7, 0, 0⟩)], [], [(9, some ⟨5, 0, 7, 0, 0⟩)]] } }, 9, { st := 2, kind := 0, outlet := 5, frame := 1, due := 7, frameDue := 0 }, by decide +kernel⟩⟩

/-- The hypotheses of each clause of `Obligations.ValveChannelMoves` are met together. -/
theorem witness_ValveChannelMoves :
    (∃ (s : State) (n : Nat) (peak : Int) (now : Int), s.pw.coreUp = true ∧ n < s.variant.valves ∧ s.vState n = vOpening ∧ s.frozen n =
      false ∧ s.phaseOver n now = true ∧ (s.valve n).kept = none ∧ (s.on (Reg.PH_CFG_RISE_CHK (s.profile n) (s.fld (Reg.VCH_STATE_PHASE
      n))) = false ∨ ↑(s.fld (Reg.PF_RISE_RISE_MIN (s.profile n))) ≤ peak)) ∧
    (∃ (s : State) (n : Nat) (peak : Int) (now : Int), s.pw.coreUp = true ∧ n < s.variant.valves ∧ s.vState n = vOpening ∧ s.frozen n =
      false ∧ s.phaseOver n now = true ∧ (s.valve n).kept = none ∧ s.on (Reg.PH_CFG_RISE_CHK (s.profile n) (s.fld (Reg.VCH_STATE_PHASE
      n))) = true ∧ s.fld (Reg.PH_CFG_KIND (s.profile n) (s.fld (Reg.VCH_STATE_PHASE n))) ≤ 1 ∧ peak < ↑(s.fld (Reg.PF_RISE_RISE_MIN
      (s.profile n)) * 15 / 16)) ∧
    (∃ (s : State) (n : Nat) (peak : Int) (now : Int), s.pw.coreUp = true ∧ n < s.variant.valves ∧ s.vState n = vDecay ∧ s.frozen n =
      false ∧ now < 2000 ∧ ((s.valve n).residual = true ∨ s.phaseOver n now = true ∧ s.nph (s.profile n) ≤ s.fld (Reg.VCH_STATE_PHASE n) +
      1)) ∧
    (∃ (s : State) (n : Nat) (peak : Int) (now : Int), s.pw.coreUp = true ∧ n < s.variant.valves ∧ s.vState n = vDecay ∧ s.frozen n =
      false ∧ 2000 ≤ now ∧ s.phaseOver n now = true ∧ (s.valve n).residual = false ∧ s.nph (s.profile n) ≤ s.fld (Reg.VCH_STATE_PHASE n) +
      1) ∧
    (∃ (s : State) (n : Nat) (peak : Int) (now : Int), s.pw.coreUp = true ∧ n < s.variant.valves ∧ s.vState n = vDecay ∧ s.frozen n =
      false ∧ s.phaseOver n now = true ∧ (s.valve n).residual = false ∧ s.fld (Reg.VCH_STATE_PHASE n) + 1 < s.nph (s.profile n)) ∧
    (∃ (s : State) (n : Nat) (peak : Int) (now : Int), s.pw.coreUp = true ∧ n < s.variant.valves ∧ s.phaseOver n now = false ∧ (s.valve
      n).residual = false) ∧
    (∃ (s : State) (n : Nat), s.pw.coreUp = true ∧ n < s.variant.valves ∧ (s.vState n = vOpening ∨ s.vState n = vHold)) ∧
    (∃ (s : State) (n : Nat) (b : Time) (e : Time), s.pw.coreUp = true ∧ n < s.variant.valves ∧ (s.vState n = vOpening ∨ s.vState n =
      vHold) ∧ s.vd.haltFt = none ∧ (s.valve n).safe = 0 ∧ s.modulated n = true ∧ (s.valve n).pulse = some (b, some e) ∧ tge s.ft e = true
      ∧ s.closeDue n e = false) ∧
    (∃ (s : State) (n : Nat) (b : Time) (e : Time), s.pw.coreUp = true ∧ n < s.variant.valves ∧ s.vState n = vModOff ∧ s.vd.haltFt = none
      ∧ (s.valve n).safe = 0 ∧ (s.valve n).pulse = some (b, some e) ∧ tge s.ft (s.gridOn (s.unitOf n) (tadd e ↑(s.modGap (s.profile n))))
      = true ∧ s.closeDue n (s.gridOn (s.unitOf n) (tadd e ↑(s.modGap (s.profile n)))) = false) ∧
    (∃ (s : State) (n : Nat) (p : Nat), s.pw.coreUp = true ∧ n < s.variant.valves ∧ s.Serves p ∧ s.vState n = vFault ∧ s.fld
      (Reg.VCH_FAULT_OPEN_COIL n) = 0 ∧ s.fld (Reg.VCH_FAULT_SHORT n) = 0 ∧ s.fld (Reg.VCH_FAULT_TRIP n) = 0 ∧ s.fld (Reg.VCH_STATE_DERATE
      n) < 2 ∧ ∀ (x : Nat), x < 8 → s.on (Reg.TRIP_CFG_TRIPPED x) = false) ∧
    (∃ (s : State) (n : Nat) (p : Nat), s.pw.coreUp = true ∧ n < s.variant.valves ∧ s.Serves p ∧ s.vState n = vFault ∧ (s.fld
      (Reg.VCH_FAULT_OPEN_COIL n) = 1 ∨ s.fld (Reg.VCH_FAULT_SHORT n) = 1 ∨ s.fld (Reg.VCH_FAULT_TRIP n) = 1 ∨ 2 ≤ s.fld
      (Reg.VCH_STATE_DERATE n))) :=
  ⟨⟨{ regs := [(0x524284, 67)] }, 10, 0, 358084, by decide +kernel⟩,
    ⟨{ regs := [(0x521040, 8), (0x524004, 67)] }, 0, (-1), 0, by decide +kernel⟩,
    ⟨{ regs := [(0x521000, 0x16c1), (0x5242c4, 70)] }, 11, (-1), (-334), by decide +kernel⟩,
    ⟨{ regs := [(0x521f00, 1), (0x524004, 70)], vd := { valves := [(0, { keptProf := (some 15) })] } }, 0, (-1), 413873, by decide +kernel⟩,
    ⟨{ regs := [(0x524004, 6)] }, 0, (-6788950930), 1047, by decide +kernel⟩,
    ⟨{ vd := { valves := [(11, { since := 0x237fec2554 })] } }, 11, (-1276617), (-1940), by decide +kernel⟩,
    ⟨{ regs := [(0x524004, 132)] }, 0, by decide +kernel⟩,
    ⟨{ ft := 0x3c4713739, regs := [(0x470000, 0x400000), (0x524000, 0x400), (0x524004, 4)], vd := { valves := [(0, { pulse := (some (0xfecf17a798, (some 0x6a3e1cfa))) })] } }, 0, 0xfecf17a798, 0x6a3e1cfa, by decide +kernel⟩,
    ⟨{ ft := 0x3adbc8d91, regs := [(0x524044, 5)], vd := { valves := [(1, { pulse := (some (0x31c5a5301, (some 0x286115373))) })] } }, 1, 0x31c5a5301, 0x286115373, by decide +kernel⟩,
    ⟨{ regs := [(0x524004, 7)] }, 0, 1, by simp only [State.Serves]; decide +kernel⟩,
    ⟨{ regs := [(0x524004, 135)] }, 0, 2, by simp only [State.Serves]; decide +kernel⟩⟩

/-- The hypotheses of each clause of `Obligations.CoilMonitorsAndKinkSearch` are met together. -/
theorem witness_CoilMonitorsAndKinkSearch :
    (∃ (s : State) (n : Nat) (mv : Int), s.pw.coreUp = true ∧ n < s.variant.valves ∧ 2000 < mv ∧ s.vState n = vIdle ∧ (s.valve
      n).openReads = 1 ∧ s.fld (Reg.VCH_CFG_OUTLET n) < 1024 ∧ s.on (Reg.VCH_CFG_MAPPED n) = true) ∧
    (∃ (s : State) (n : Nat) (mv : Int), s.pw.coreUp = true ∧ n < s.variant.valves ∧ mv ≤ 2000 ∧ s.vState n = vIdle ∧ (s.valve n).okReads
      = 15 ∧ s.on (Reg.VCH_CFG_MAPPED n) = true) ∧
    (∃ (s : State) (n : Nat) (samples : List Int) (mv : Int), s.pw.coreUp = true ∧ n < s.variant.valves ∧ s.fld (Reg.VCH_STATE_DERATE n) ≤
      2) ∧
    (∃ (s : State) (n : Nat) (w : SealWin) (samples : List Sample) (b : Nat), n < 128 ∧
      (let k := s.fld (Reg.PF_CFG_KINK_SPAN (s.profile n))
       let t0 := sampleFrom (winStart w) 2000
       let v := fun i => ((inWindow t0 w.we 2000 samples).map (·.v)).getD i 0
       let vs := fun m => v (m - 2) + v (m - 1) + v m + v (m + 1)
       let dd := fun m => vs m - 2 * vs (m - k) + vs (m - 2 * k)
       let ok := fun m => 2 * k + 2 ≤ m ∧ m + 1 < (inWindow t0 w.we 2000 samples).length
       ok b ∧ (∀ m, ok m → dd m ≤ dd b) ∧ (∀ m, ok m → m < b → dd m < dd b))) :=
  ⟨⟨{ regs := [(0x524000, 0x400), (0x524004, 129)], vd := { valves := [(0, { openReads := 1 })] } }, 0, 1020969, by decide +kernel⟩,
    ⟨{ regs := [(0x524000, 0x400), (0x524004, 65)], vd := { valves := [(0, { okReads := 15 })] } }, 0, (-1), by decide +kernel⟩,
    ⟨{  }, 0, [987043, 13823311, 505058, 4971137643], 757571, by decide +kernel⟩,
    ⟨holding [(Reg.PF_CFG_KINK_SPAN 0, 1)], 0, { entry := some 9, kind := 1, f := 0, a := 0, we := 12000 }, [⟨0, 0⟩, ⟨0, 5⟩, ⟨0, 9⟩, ⟨0, 14⟩, ⟨0, 3⟩, ⟨0, 1⟩], 4, by
      have hk : (holding [(Reg.PF_CFG_KINK_SPAN 0, 1)]).fld (Reg.PF_CFG_KINK_SPAN ((holding [(Reg.PF_CFG_KINK_SPAN 0, 1)]).profile 0)) = 1 := by
        decide +kernel
      have hl : (inWindow (sampleFrom (winStart { entry := some 9, kind := 1, f := 0, a := 0, we := 12000 }) 2000) 12000 2000
          ([⟨0, 0⟩, ⟨0, 5⟩, ⟨0, 9⟩, ⟨0, 14⟩, ⟨0, 3⟩, ⟨0, 1⟩] : List Sample)).length = 6 := by decide +kernel
      refine ⟨by decide, ⟨by rw [hk] <;> decide, by rw [hl] <;> decide⟩, ?_, ?_⟩
      · rintro m ⟨h1, h2⟩
        rw [hk] at h1
        rw [hl] at h2
        obtain rfl : m = 4 := by omega
        exact Int.le_refl _
      · rintro m ⟨h1, h2⟩ h3
        rw [hk] at h1
        omega⟩⟩

/-- The hypotheses of each clause of `Obligations.ValveSeals` are met together. -/
theorem witness_ValveSeals :
    (∃ (s : State) (n : Nat) (samples : List Sample) (w : SealWin) (ws : List SealWin) (i : Nat) (e : Entry), s.pw.coreUp = true ∧ n <
      s.variant.valves ∧ (s.valve n).wins = w :: ws ∧ w.entry = some i ∧ w.dbg = false ∧ s.entry i = some e ∧ e.st = eFired ∧ e.kind ≠
      kRate ∧ e.outlet < 1024 ∧ tge s.ft w.we = false) ∧
    (∃ (s : State) (n : Nat) (samples : List Sample) (w : SealWin) (ws : List SealWin) (i : Nat) (e : Entry), s.pw.coreUp = true ∧ n <
      s.variant.valves ∧ (s.valve n).wins = w :: ws ∧ w.entry = some i ∧ w.dbg = false ∧ s.entry i = some e ∧ e.st = eFired ∧ e.kind ≠
      kRate ∧ e.outlet < 1024 ∧ tge s.ft w.we = true ∧ w.kind = 0 ∧ w.bad = true) ∧
    (∃ (s : State) (n : Nat) (samples : List Sample) (w : SealWin) (ws : List SealWin) (i : Nat) (e : Entry), s.pw.coreUp = true ∧ n <
      s.variant.valves ∧ (s.valve n).wins = w :: ws ∧ w.entry = some i ∧ w.dbg = false ∧ s.entry i = some e ∧ e.st = eFired ∧ e.kind ≠
      kRate ∧ e.outlet < 1024 ∧ tge s.ft w.we = true ∧ w.kind = 0 ∧ w.bad = false ∧ s.on (Reg.PF_CFG_DIP_EN (s.profile n)) = false) ∧
    (∃ (s : State) (n : Nat) (samples : List Sample) (w : SealWin) (ws : List SealWin) (i : Nat) (e : Entry), s.pw.coreUp = true ∧ n <
      s.variant.valves ∧ (s.valve n).wins = w :: ws ∧ w.entry = some i ∧ w.dbg = false ∧ s.entry i = some e ∧ e.st = eFired ∧ e.kind ≠
      kRate ∧ e.outlet < 1024 ∧ tge s.ft w.we = true ∧ w.kind = 1 ∧ s.on (Reg.VCH_STATE_SENSE_OPEN n) = true) ∧
    (∃ (s : State) (n : Nat) (samples : List Sample) (w : SealWin) (ws : List SealWin) (i : Nat) (e : Entry), s.pw.coreUp = true ∧ n <
      s.variant.valves ∧ (s.valve n).wins = w :: ws ∧ w.entry = some i ∧ w.dbg = false ∧ s.entry i = some e ∧ e.st = eFired ∧ e.kind ≠
      kRate ∧ e.outlet < 1024 ∧ tge s.ft w.we = true ∧ w.kind = 1 ∧ s.on (Reg.VCH_STATE_SENSE_OPEN n) = false ∧ s.on (Reg.PF_CFG_KINK_EN
      (s.profile n)) = false) ∧
    (∃ (s : State) (n : Nat) (samples : List Sample) (w : SealWin) (ws : List SealWin) (i : Nat) (e : Entry) (seat : Option Time) (peak :
      Option Int), s.pw.coreUp = true ∧ n < s.variant.valves ∧ (s.valve n).wins = w :: ws ∧ w.entry = some i ∧ w.dbg = false ∧ s.entry i =
      some e ∧ e.st = eFired ∧ e.kind ≠ kRate ∧ e.outlet < 1024 ∧ tge s.ft w.we = true ∧ w.kind = 1 ∧ s.on (Reg.VCH_STATE_SENSE_OPEN n) =
      false ∧ s.on (Reg.PF_CFG_KINK_EN (s.profile n)) = true ∧ s.kink n w samples = (seat, peak)) ∧
    (∃ (s : State) (n : Nat) (samples : List Sample) (w : SealWin) (ws : List SealWin) (i : Nat) (e : Entry) (f : Time) (peak : Option
      Int), s.pw.coreUp = true ∧ n < s.variant.valves ∧ (s.valve n).wins = w :: ws ∧ w.entry = some i ∧ w.dbg = false ∧ s.entry i = some e
      ∧ e.st = eFired ∧ e.kind ≠ kRate ∧ e.outlet < 1024 ∧ tge s.ft w.we = true ∧ w.kind = 0 ∧ w.bad = false ∧ s.on (Reg.PF_CFG_DIP_EN
      (s.profile n)) = true ∧ s.on (Reg.VCH_STATE_SENSE_OPEN n) = false ∧ s.dip n w samples = (some f, peak)) :=
  ⟨⟨{ holding [] with lg := { entries := [(9, some { st := 3, kind := 0, outlet := 5, frame := 1, due := 0, frameDue := 0 })] }, vd := { valves := [(0, { wins := [{ entry := some 9, kind := 0, f := 0, a := 0, we := 48000 }] })] } }, 0, [], { entry := some 9, kind := 0, f := 0, a := 0, we := 48000 }, [], 9, { st := 3, kind := 0, outlet := 5, frame := 1, due := 0, frameDue := 0 }, by decide +kernel⟩,
    ⟨{ ft := 0x400000000000be65, lg := { entries := [(0, (some { st := 3, kind := 1, outlet := 12, preflux := true, wdr := true, cause := 64, ctx := (some 0), frame := 0, due := 0x1986a3170, param := 101, code := 4, cross := (some (0xd2aa9cc1ef, ((1, (-1)), (1, 0)))), delayA := 0x168, reserve := true, frameDue := 0x2869bb4d7 }))] }, vd := { valves := [(0, { wins := [{ entry := (some 0), kind := 0, f := 0xab0fc3af73, a := 118, we := 0x2f643c9b17, pre := 28, bad := true }, { entry := none, kind := 1, f := 0xb4ee906a01, a := 1, we := 0x764b494cdc, pre := 64, reached := true, bad := true }, { entry := (some 0x647f), kind := 0, f := 0xc1948e3ea2, a := 0, we := 0x783b74f28b, pre := 64, reached := true, bad := true }] })] } }, 0, [{ i := 0, v := (-1) }, { i := (-4665130186), v := 1654607 }], { entry := (some 0), kind := 0, f := 0xab0fc3af73, a := 118, we := 0x2f643c9b17, pre := 28, bad := true }, [{ entry := none, kind := 1, f := 0xb4ee906a01, a := 1, we := 0x764b494cdc, pre := 64, reached := true, bad := true }, { entry := (some 0x647f), kind := 0, f := 0xc1948e3ea2, a := 0, we := 0x783b74f28b, pre := 64, reached := true, bad := true }], 0, { st := 3, kind := 1, outlet := 12, preflux := true, wdr := true, cause := 64, ctx := (some 0), frame := 0, due := 0x1986a3170, param := 101, code := 4, cross := (some (0xd2aa9cc1ef, ((1, (-1)), (1, 0)))), delayA := 0x168, reserve := true, frameDue := 0x2869bb4d7 }, by decide +kernel⟩,
    ⟨{ ft := 0x40000000000017c6, lg := { entries := [(0, (some { st := 3, kind := 0, outlet := 12, forced := true, cause := 0xf6e, remote := true, frame := 2, due := 0x3524626e7, param := 64, code := 1, cross := (some (0x9cdc825230, ((0, 314394), (1, 1)))), delayA := 1, delay := 1, floor := (some 0xbb40e656dc), reserve := true, frameDue := 0x288163064 }))] }, vd := { valves := [(0, { wins := [{ entry := (some 0), kind := 0, f := 0xd9a2c1123d, a := 0x17fa488, we := 0x8ca0bc4c39, pre := 0xf57d, reached := true }, { entry := (some 3), kind := 1, f := 0x8899c8ae43, a := 0xc4bfa018, we := 0xbfffd48b46, pre := 0x1315de17, reached := true, dbg := true }, { entry := (some 0x20b), kind := 1, f := 0x20b0eed5f4, a := 0, we := 0x25aad71062, pre := 0x17af773, reached := true, bad := true }, { entry := (some 1), kind := 1, f := 0x4092ea0e12, a := 0, we := 0x1caa421724, pre := 1, bad := true, dbg := true }] })] } }, 0, [{ i := 1, v := (-2543985644) }, { i := 0, v := 0 }, { i := (-1333752), v := 721321 }, { i := 1, v := 0 }], { entry := (some 0), kind := 0, f := 0xd9a2c1123d, a := 0x17fa488, we := 0x8ca0bc4c39, pre := 0xf57d, reached := true }, [{ entry := (some 3), kind := 1, f := 0x8899c8ae43, a := 0xc4bfa018, we := 0xbfffd48b46, pre := 0x1315de17, reached := true, dbg := true }, { entry := (some 0x20b), kind := 1, f := 0x20b0eed5f4, a := 0, we := 0x25aad71062, pre := 0x17af773, reached := true, bad := true }, { entry := (some 1), kind := 1, f := 0x4092ea0e12, a := 0, we := 0x1caa421724, pre := 1, bad := true, dbg := true }], 0, { st := 3, kind := 0, outlet := 12, forced := true, cause := 0xf6e, remote := true, frame := 2, due := 0x3524626e7, param := 64, code := 1, cross := (some (0x9cdc825230, ((0, 314394), (1, 1)))), delayA := 1, delay := 1, floor := (some 0xbb40e656dc), reserve := true, frameDue := 0x288163064 }, by decide +kernel⟩,
    ⟨{ ft := 0x4000000000005f9d, regs := [(0x524304, 0x100)], lg := { entries := [(1, (some { st := 3, kind := 0, outlet := 5, forced := true, orphaned := true, preflux := true, replanned := true, cause := 1, remote := true, ctx := (some 6), frame := 2, due := 0x354fe034e, param := 3, code := 3, delayA := 0x39e, delay := 64, frameDue := 0x35130f8d2, acked := true, ended := 86 }))] }, vd := { valves := [(12, { wins := [{ entry := (some 1), kind := 1, f := 0xaddb6d76cf, a := 123, we := 0x2d6dbed1e2, pre := 1, reached := true }, { entry := (some 0), kind := 0, f := 0x71b3e699cd, a := 2, we := 0x430e9547a8, pre := 64, dbg := true }, { entry := none, kind := 1, f := 0xe271d47edf, a := 2, we := 0x3db7d97acb, pre := 7, bad := true, dbg := true }, { entry := none, kind := 0, f := 0xe61cec62e4, a := 0xf42f6519, we := 0xc62fe50fbb, pre := 0xe0cf, reached := true, dbg := true }] })] } }, 12, [{ i := 1, v := (-5822139425) }, { i := 8275675514, v := (-3433078701) }, { i := (-1364), v := (-1) }], { entry := (some 1), kind := 1, f := 0xaddb6d76cf, a := 123, we := 0x2d6dbed1e2, pre := 1, reached := true }, [{ entry := (some 0), kind := 0, f := 0x71b3e699cd, a := 2, we := 0x430e9547a8, pre := 64, dbg := true }, { entry := none, kind := 1, f := 0xe271d47edf, a := 2, we := 0x3db7d97acb, pre := 7, bad := true, dbg := true }, { entry := none, kind := 0, f := 0xe61cec62e4, a := 0xf42f6519, we := 0xc62fe50fbb, pre := 0xe0cf, reached := true, dbg := true }], 1, { st := 3, kind := 0, outlet := 5, forced := true, orphaned := true, preflux := true, replanned := true, cause := 1, remote := true, ctx := (some 6), frame := 2, due := 0x354fe034e, param := 3, code := 3, delayA := 0x39e, delay := 64, frameDue := 0x35130f8d2, acked := true, ended := 86 }, by decide +kernel⟩,
    ⟨{ ft := 0x400000000000b718, lg := { entries := [(14, (some { st := 3, kind := 0, outlet := 9, forced := true, withheld := true, orphaned := true, preflux := true, wdr := true, cause := 0x28c, frame := 0xa582a7fc, due := 0x188f29e49, param := 0xbe76, code := 0x287, delayA := 3, delay := 0x179bb4a, floor := (some 0x6314c9114f), clamped := true, frameDue := 0x1b70f5658, acked := true }))] }, vd := { valves := [(14, { wins := [{ entry := (some 14), kind := 1, f := 0x7c163336e2, a := 27, we := 0x4e85334b9, pre := 0x17e9992, reached := true, bad := true }, { entry := (some 129), kind := 0, f := 0x4584704143, a := 0x1808123, we := 0xb728399f1f, pre := 2, bad := true, dbg := true }, { entry := (some 1), kind := 0, f := 0x753f5bf523, a := 22, we := 0xa494d3f6bb, pre := 64, reached := true, dbg := true }, { entry := (some 113), kind := 0, f := 0x7da13d335d, a := 0, we := 0xbc591c5b80, bad := true }, { entry := none, kind := 0, f := 0x9d44b352a8, a := 3, we := 0xdcaf068dab, pre := 0x383d1df1, reached := true, bad := true }, { entry := (some 0x62664724), kind := 0, f := 0xdb92caf94a, a := 0xb16743c0, we := 0x68d058410, pre := 7, bad := true }] })] } }, 14, [{ i := 0, v := 755 }, { i := 0, v := 4761893937 }, { i := (-1), v := 1 }], { entry := (some 14), kind := 1, f := 0x7c163336e2, a := 27, we := 0x4e85334b9, pre := 0x17e9992, reached := true, bad := true }, [{ entry := (some 129), kind := 0, f := 0x4584704143, a := 0x1808123, we := 0xb728399f1f, pre := 2, bad := true, dbg := true }, { entry := (some 1), kind := 0, f := 0x753f5bf523, a := 22, we := 0xa494d3f6bb, pre := 64, reached := true, dbg := true }, { entry := (some 113), kind := 0, f := 0x7da13d335d, a := 0, we := 0xbc591c5b80, bad := true }, { entry := none, kind := 0, f := 0x9d44b352a8, a := 3, we := 0xdcaf068dab, pre := 0x383d1df1, reached := true, bad := true }, { entry := (some 0x62664724), kind := 0, f := 0xdb92caf94a, a := 0xb16743c0, we := 0x68d058410, pre := 7, bad := true }], 14, { st := 3, kind := 0, outlet := 9, forced := true, withheld := true, orphaned := true, preflux := true, wdr := true, cause := 0x28c, frame := 0xa582a7fc, due := 0x188f29e49, param := 0xbe76, code := 0x287, delayA := 3, delay := 0x179bb4a, floor := (some 0x6314c9114f), clamped := true, frameDue := 0x1b70f5658, acked := true }, by decide +kernel⟩,
    ⟨{ ft := 0x4000000000006523, regs := [(0x521000, 128)], lg := { entries := [(0, (some { st := 3, kind := 1, outlet := 14, forced := true, withheld := true, orphaned := true, cause := 89, frame := 68, due := 0xbaf1089e, param := 3, cross := (some (0x4444162a7a, ((0, 79), ((-900005), 0)))), delayA := 4, delay := 0x181454c, floor := (some 0x954fd6186), clamped := true, frameDue := 0xada40668, acked := true, ended := 0xf697243f }))] }, vd := { valves := [(0, { wins := [{ entry := (some 0), kind := 1, f := 0xd2e651e233, a := 2, we := 0xb9f093437f }, { entry := (some 0), kind := 0, f := 0xb967f2f44b, a := 2, we := 0xcef2b894c9, pre := 7, reached := true, dbg := true }, { entry := (some 0), kind := 1, f := 0xe3649d42a8, a := 1, we := 0x7cbf856cb, pre := 1, reached := true, bad := true, dbg := true }] })] } }, 0, [{ i := 0, v := (-1) }, { i := 1, v := (-2850334326) }], { entry := (some 0), kind := 1, f := 0xd2e651e233, a := 2, we := 0xb9f093437f }, [{ entry := (some 0), kind := 0, f := 0xb967f2f44b, a := 2, we := 0xcef2b894c9, pre := 7, reached := true, dbg := true }, { entry := (some 0), kind := 1, f := 0xe3649d42a8, a := 1, we := 0x7cbf856cb, pre := 1, reached := true, bad := true, dbg := true }], 0, { st := 3, kind := 1, outlet := 14, forced := true, withheld := true, orphaned := true, cause := 89, frame := 68, due := 0xbaf1089e, param := 3, cross := (some (0x4444162a7a, ((0, 79), ((-900005), 0)))), delayA := 4, delay := 0x181454c, floor := (some 0x954fd6186), clamped := true, frameDue := 0xada40668, acked := true, ended := 0xf697243f }, none, none, by decide +kernel⟩,
    ⟨{ holding [(Reg.PF_CFG_DIP_EN 0, 1)] with lg := { entries := [(9, some { st := 3, kind := 0, outlet := 5, frame := 1, due := 0, frameDue := 0 })] }, vd := { valves := [(0, { wins := [{ entry := some 9, kind := 0, f := 0, a := 0, we := 48000 }] })] }, ft := 48000 }, 0, [⟨0, 0⟩, ⟨0, 0⟩, ⟨0, 0⟩, ⟨0, 0⟩, ⟨0, 0⟩, ⟨0, 0⟩], { entry := some 9, kind := 0, f := 0, a := 0, we := 48000 }, [], 9, { st := 3, kind := 0, outlet := 5, frame := 1, due := 0, frameDue := 0 }, 24000, some 0, by decide +kernel⟩⟩

/-- The hypotheses of each clause of `Obligations.TripInputsAndBoost` are met together. -/
theorem witness_TripInputsAndBoost :
    (∃ (s : State) (x : Nat) (held : Nat), s.pw.coreUp = true ∧ x < 8 ∧ (held < s.fld (Reg.TRIP_CFG_FILT x) ∨ s.blanked x = true)) ∧
    (∃ (s : State) (x : Nat) (held : Nat) (n : Nat), s.pw.coreUp = true ∧ x < 8 ∧ n < s.variant.valves ∧ s.on (Reg.TRIP_CFG_EN x) = true ∧
      s.on (Reg.TRIP_CFG_LATCH x) = true ∧ s.tripMasks x n = true ∧ s.fld (Reg.TRIP_CFG_FILT x) ≤ held ∧ s.blanked x = false ∧ s.vState n
      ≠ vOff) ∧
    (∃ (s : State) (x : Nat) (held : Nat) (n : Nat), s.pw.coreUp = true ∧ x < 8 ∧ n < s.variant.valves ∧ s.on (Reg.TRIP_CFG_EN x) = true ∧
      s.on (Reg.TRIP_CFG_LATCH x) = false ∧ s.tripMasks x n = true ∧ s.fld (Reg.TRIP_CFG_FILT x) ≤ held ∧ s.blanked x = false) ∧
    (∃ (s : State) (x : Nat) (held : Nat), s.pw.coreUp = true ∧ x < 8 ∧ s.on (Reg.TRIP_CFG_EN x) = false) ∧
    (∃ (s : State) (x : Nat) (held : Nat) (n : Nat), s.pw.coreUp = true ∧ x < 8 ∧ n < s.variant.valves ∧ (s.valve n).tripOff = true ∧
      s.vd.trips = [x]) ∧
    (∃ (s : State) (x : Nat) (held : Nat) (p : Nat), s.pw.coreUp = true ∧ x < 8 ∧ s.Serves p ∧ ¬x ∈ s.vd.trips ∧ 1 ≤ s.fld
      (Reg.TRIP_CFG_FILT x) ∧ s.fld (Reg.TRIP_CFG_BLANK x) ≤ 100) ∧
    (∃ (s : State) (x : Nat) (held : Nat) (p : Nat), s.pw.coreUp = true ∧ x < 8 ∧ s.Serves p ∧ x ∈ s.vd.trips ∧ 1 ≤ s.fld
      (Reg.TRIP_CFG_FILT x) ∧ s.fld (Reg.TRIP_CFG_BLANK x) ≤ 100) ∧
    (∃ (s : State) (lambda : Nat), s.pw.coreUp = true ∧ s.variant ≠ Variant.f0512 ∧ lambda < 256 ∧ s.on Reg.VD_CTRL_GATE_COMP_EN = true ∧
      s.on Reg.VD_STATUS_DIEA_LINK = true) ∧
    (∃ (s : State) (p : Nat) (b : Nat) (v : Word) (meas : Nat), s.pw.coreUp = true ∧ s.variant ≠ Variant.f0512 ∧ s.Serves p ∧ b < 2 ∧
      BitVec.toNat v % 2 ^ 20 ≤ 7200 ∧ meas < 10000) ∧
    (∃ (s : State) (p : Nat) (b : Nat) (v : Word) (meas : Nat), s.pw.coreUp = true ∧ s.variant ≠ Variant.f0512 ∧ s.Serves p ∧ b < 2 ∧ 7200
      < BitVec.toNat v % 2 ^ 20) ∧
    (∃ (s : State) (p : Nat) (b : Nat) (v : Word) (meas : Nat), s.pw.coreUp = true ∧ s.variant ≠ Variant.f0512 ∧ s.Serves p ∧ b < 2 ∧
      BitVec.getLsbD v 0 = true ∧ s.on (Reg.BST_CTRL_BST_EN b) = false ∧ meas < 10000) ∧
    (∃ (s : State) (p : Nat) (b : Nat) (v : Word) (meas : Nat), s.pw.coreUp = true ∧ s.variant ≠ Variant.f0512 ∧ s.Serves p ∧ b < 2 ∧
      BitVec.getLsbD v 0 = false) ∧
    (∃ (s : State) (b : Nat) (meas : Nat), s.pw.coreUp = true ∧ s.variant ≠ Variant.f0512 ∧ b < 2 ∧ s.on (Reg.BST_STAT_SLEWING b) = true ∧
      s.fld (Reg.BST_SET_SET b) ≤ 7200) ∧
    (∃ (s : State) (b : Nat), s.pw.coreUp = true ∧ s.variant ≠ Variant.f0512 ∧ b < 2) ∧
    (∃ (s : State) (b : Nat), s.pw.coreUp = true ∧ s.variant ≠ Variant.f0512 ∧ b < 2) ∧
    (∃ (s : State) (b : Nat), s.pw.coreUp = true ∧ s.variant ≠ Variant.f0512 ∧ b < 2 ∧ s.on (Reg.BST_CTRL_BST_EN b) = true) :=
  ⟨⟨{  }, 0, 0, by decide +kernel⟩,
    ⟨{ regs := [(0x520200, 0x405), (0x520204, 0x13ffd), (0x524084, 2)] }, 0, 2, 2, by decide +kernel⟩,
    ⟨{ regs := [(0x520220, 0x401), (0x520224, 0x93fc8)] }, 1, 0x17d99f9, 9, by decide +kernel⟩,
    ⟨{  }, 1, 1, by decide +kernel⟩,
    ⟨{ vd := { valves := [(79, { tripOff := true })], trips := [2] } }, 2, 3, 79, by decide +kernel⟩,
    ⟨{  }, 1, 7, 1, by simp only [State.Serves]; decide +kernel⟩,
    ⟨{ vd := { trips := [2] } }, 2, 0, 1, by simp only [State.Serves]; decide +kernel⟩,
    ⟨{ regs := [(0x520004, 5)] }, 2, by decide +kernel⟩,
    ⟨{  }, 3, 1, 2, 2, by simp only [State.Serves]; decide +kernel⟩,
    ⟨{  }, 2, 0, 0x2b4d59ad, 1, by simp only [State.Serves]; decide +kernel⟩,
    ⟨{  }, 3, 0, 0xb7c1e81f, 2, by simp only [State.Serves]; decide +kernel⟩,
    ⟨{  }, 3, 0, 0x1aa, 0, by simp only [State.Serves]; decide +kernel⟩,
    ⟨{ regs := [(0x520114, 3)] }, 0, 2, by decide +kernel⟩,
    ⟨{  }, 0, by decide +kernel⟩,
    ⟨{  }, 0, by decide +kernel⟩,
    ⟨{ regs := [(0x520100, 1)] }, 0, by decide +kernel⟩⟩

/-- The hypotheses of each clause of `Obligations.UnitLoads` are met together. -/
theorem witness_UnitLoads :
    (∃ (s : State) (p : Nat) (u : Nat), s.pw.coreUp = true ∧ s.Serves p ∧ u < 64 ∧ s.on (uLedger u) = false ∧ s.vd.spWait = none ∧ 0 <
      s.fld (uPeriod u) ∧ s.vd.spAct % s.fld (uPeriod u) = 0) ∧
    (∃ (s : State) (p : Nat) (u : Nat), s.pw.coreUp = true ∧ s.Serves p ∧ u < 64 ∧ s.on (uLedger u) = true ∧ s.vd.spWait = none ∧ 0 <
      s.fld (uPeriod u) ∧ s.vd.spAct % s.fld (uPeriod u) = 0) ∧
    (∃ (s : State) (p : Nat) (u : Nat), s.pw.coreUp = true ∧ s.Serves p ∧ u < 64 ∧ s.vd.spWait = none ∧ s.vd.spAct % s.fld (uPeriod u) ≠
      0) ∧
    (∃ (s : State) (p : Nat), s.pw.coreUp = true ∧ s.Serves p ∧ 0 < s.fld Reg.SP_PERIOD_PERIOD ∧ ∀ (u : Nat), u ∈ s.variant.units → 0 <
      s.periodAfter [] u ∧ s.fld Reg.SP_PERIOD_PERIOD % s.periodAfter [] u = 0) ∧
    (∃ (s : State) (p : Nat), s.pw.coreUp = true ∧ s.Serves p ∧ ∃ (u : Nat), u ∈ s.variant.units ∧ s.periodAfter [] u ≠ 0 ∧ s.fld
      Reg.SP_PERIOD_PERIOD % s.periodAfter [] u ≠ 0) ∧
    (∃ (s : State), s.pw.coreUp = true ∧ s.vd.haltFt = none ∧ 0 < s.vd.spAct ∧ 0 < tdiff (s.ft - BitVec.ofNat 64 (BitVec.toNat s.ft %
      s.vd.spAct)) s.vd.spStart) ∧
    (∃ (s : State), s.pw.coreUp = true ∧ 0 < s.vd.spAct ∧ (s.vd.haltFt ≠ none ∨ tdiff (s.ft - BitVec.ofNat 64 (BitVec.toNat s.ft %
      s.vd.spAct)) s.vd.spStart ≤ 0)) :=
  ⟨⟨{  }, 0, 0, by simp only [State.Serves]; decide +kernel⟩,
    ⟨{ regs := [(0x528040, 1)] }, 2, 2, by simp only [State.Serves]; decide +kernel⟩,
    ⟨{ regs := [(0x528288, 0x11e1a300)] }, 2, 20, by simp only [State.Serves]; decide +kernel⟩,
    ⟨{  }, 2, by simp only [State.Serves]; decide +kernel⟩,
    ⟨{ regs := [(0x520014, 0x1dcd6500)] }, 3, by simp only [State.Serves]; decide +kernel⟩,
    ⟨{ ft := 0x3406d3f20 }, by decide +kernel⟩,
    ⟨{  }, by decide +kernel⟩⟩

/-- The hypotheses of each clause of `Obligations.StopPaths` are met together. -/
theorem witness_StopPaths :
    (∃ (s : State), s.rs.stopLow = false) ∧
    (∃ (s : State), s.rs.stopLow = true) ∧
    (∃ (s : State) (h : Time), s.rs.stopLow = false ∧ s.rs.highAt = some h ∧ s.on Reg.RES_CTRL_STOPN_AUTO = true ∧ s.fld
      Reg.RES_STATE_STOP_SRC = 1 ∧ s.on Reg.RES_STATE_STOP = true ∧ BitVec.toNat (s.ft - h) < 80000000) ∧
    (∃ (s : State) (h : Time), s.rs.stopLow = false ∧ s.rs.highAt = some h ∧ s.on Reg.RES_CTRL_STOPN_AUTO = true ∧ s.fld
      Reg.RES_STATE_STOP_SRC = 1 ∧ s.on Reg.RES_STATE_STOP = true ∧ 80000000 ≤ BitVec.toNat (s.ft - h)) ∧
    (∃ (s : State) (p : Nat), s.Serves p ∧ s.rs.stopLow = false ∧ s.on Reg.RES_STATE_STOP = true) ∧
    (∃ (s : State) (p : Nat), s.Serves p ∧ s.rs.stopLow = true) ∧
    (∃ (s : State), s.pw.coreUp = true) ∧
    (∃ (s : State), s.pw.coreUp = true ∧ s.on Reg.VD_STATUS_HALTED = false ∧ s.on Reg.DBG_CFG_HALT_OFF = false) ∧
    (∃ (s : State), s.pw.coreUp = true ∧ s.on Reg.VD_STATUS_HALTED = false ∧ s.on Reg.DBG_CFG_HALT_OFF = true) ∧
    (∃ (s : State), s.pw.coreUp = true ∧ s.on Reg.VD_STATUS_HALTED = true) :=
  ⟨⟨{  }, by decide +kernel⟩,
    ⟨{ rs := { stopLow := true } }, by decide +kernel⟩,
    ⟨{ holding [(Reg.RES_CTRL_STOPN_AUTO, 1), (Reg.RES_STATE_STOP_SRC, 1), (Reg.RES_STATE_STOP, 1)] with ft := 79999999, rs := { highAt := some 0 } }, 0, by decide +kernel⟩,
    ⟨{ regs := [(0x5c0000, 0x6082), (0x5c0008, 1)], rs := { highAt := (some 0x3e564734ac) } }, 0x3e564734ac, by decide +kernel⟩,
    ⟨{ regs := [(0x5c0000, 0x21c0)] }, 3, by simp only [State.Serves]; decide +kernel⟩,
    ⟨{ rs := { stopLow := true } }, 2, by simp only [State.Serves]; decide +kernel⟩,
    ⟨{  }, by decide +kernel⟩,
    ⟨{  }, by decide +kernel⟩,
    ⟨{ regs := [(0x520010, 1)] }, by decide +kernel⟩,
    ⟨{ regs := [(0x520004, 12)] }, by decide +kernel⟩⟩

/-- The hypotheses of each clause of `Obligations.DieLinks` are met together. -/
theorem witness_DieLinks :
    (∃ (s : State) (d : Nat) (path : Nat), s.pw.coreUp = true ∧ s.variant ≠ Variant.f0512 ∧ d < 3 ∧ s.fbit Reg.RES_STATE_DIE_PATH d =
      false) ∧
    (∃ (s : State) (d : Nat), s.pw.coreUp = true ∧ s.variant ≠ Variant.f0512 ∧ d < 2 ∧ s.dieUp d = true) ∧
    (∃ (s : State), s.pw.coreUp = true ∧ s.variant ≠ Variant.f0512 ∧ s.on Reg.LS_STATUS_SW_LINK = true) ∧
    (∃ (s : State) (d : Nat), s.pw.coreUp = true ∧ s.variant ≠ Variant.f0512 ∧ d < 2) ∧
    (∃ (s : State), s.pw.coreUp = true ∧ s.variant ≠ Variant.f0512) :=
  ⟨⟨{  }, 2, 1, by decide +kernel⟩,
    ⟨{ regs := [(0x520004, 10)] }, 1, by decide +kernel⟩,
    ⟨{ regs := [(0x580000, 0x46f9)] }, by decide +kernel⟩,
    ⟨{  }, 1, by decide +kernel⟩,
    ⟨{  }, by decide +kernel⟩⟩

/-- The hypotheses of each clause of `Obligations.LaneTransitions` are met together. -/
theorem witness_LaneTransitions :
    (∃ (s : State) (l : Nat) (c : Nat) (u : Nat) (m : Nat) (a : Nat), s.pw.coreUp = true ∧ l < 2 ∧ s.fld Reg.RES_STATE_STATE = 0 ∧ s.fld
      Reg.IMG_STATUS_STAGE ≠ 4) ∧
    (∃ (s : State) (l : Nat) (u : Nat) (m : Nat) (a : Nat), s.pw.coreUp = true ∧ l < 2 ∧ s.fld Reg.RES_STATE_STATE = 0 ∧ s.fld
      Reg.IMG_STATUS_STAGE ≠ 4 ∧ (m = 1 ∨ m = 5) ∧ a < 2 ^ 32) ∧
    (∃ (s : State) (l : Nat) (c : Nat) (u : Nat) (m : Nat) (a : Nat), s.pw.coreUp = true ∧ l < 2 ∧ s.fld Reg.RES_STATE_STATE = 2 ∧ s.fld
      (laneFld l) ≠ 2 ∧ s.on Reg.RES_STATE_HELD_SAFE = false) ∧
    (∃ (s : State) (l : Nat) (c : Nat) (u : Nat) (m : Nat) (a : Nat), s.pw.coreUp = true ∧ l < 2 ∧ s.fld Reg.RES_STATE_STATE = 1 ∧ s.on
      Reg.RES_STATE_HELD_SAFE = false) ∧
    (∃ (s : State), s.pw.coreUp = true ∧ s.fld Reg.RES_STATE_STATE = 0 ∧ s.on Reg.RES_STATE_HELD_SAFE = false) ∧
    (∃ (s : State) (k : Takeover), s.pw.coreUp = true ∧ s.rs.takeover = some k ∧ k.lane < 2 ∧ k.passed = none) ∧
    (∃ (s : State) (k : Takeover), s.pw.coreUp = true ∧ s.rs.takeover = some k ∧ k.lane < 2 ∧ k.passed = none) ∧
    (∃ (s : State) (k : Takeover), s.pw.coreUp = true ∧ s.rs.takeover = some k ∧ k.passed = some true) ∧
    (∃ (s : State) (k : Takeover), s.pw.coreUp = true ∧ s.rs.takeover = some k ∧ k.lane < 2 ∧ BitVec.toNat s.ft % 400000 = 0 ∧ k.copied =
      true ∧ s.rs.held = [] ∧ s.hp.heldCpl = []) ∧
    (∃ (s : State) (k : Takeover), s.pw.coreUp = true ∧ s.rs.takeover = some k ∧ k.lane < 2 ∧ BitVec.toNat s.ft % 400000 = 0 ∧ k.copied =
      false ∧ k.passed = some false ∧ s.rs.held = [] ∧ s.hp.heldCpl = []) ∧
    (∃ (s : State), s.pw.coreUp = true ∧ BitVec.toNat s.ft % 400000 ≠ 0) ∧
    (∃ (s : State) (p : Nat), s.pw.coreUp = true ∧ s.Serves p ∧ s.fld Reg.RES_STATE_STATE = 2 ∧ s.fld Reg.RES_STATE_LANE_A = 2 ∧ s.fld
      Reg.IMG_STATUS_STAGE ≠ 4) ∧
    (∃ (s : State) (p : Nat), s.pw.coreUp = true ∧ s.Serves p ∧ s.fld Reg.RES_STATE_STATE ≠ 2) :=
  ⟨⟨{  }, 0, 47, 0x2ae, 0, 64, by decide +kernel⟩,
    ⟨{  }, 0, 5, 1, 2, by decide +kernel⟩,
    ⟨{ regs := [(0x5c0000, 0x1c2)] }, 0, 42, 0x17d237a, 0, 0x1800dcd, by decide +kernel⟩,
    ⟨{ regs := [(0x5c0000, 0x141)] }, 0, 2, 0x18148a8, 0, 0xae05, by decide +kernel⟩,
    ⟨{  }, by decide +kernel⟩,
    ⟨{ rs := { takeover := (some { lane := 0, checker := 2, unit := 0xa6e6a03, since := 0x19970db0d5 }) } }, { lane := 0, checker := 2, unit := 0xa6e6a03, since := 0x19970db0d5 }, by decide +kernel⟩,
    ⟨{ rs := { takeover := (some { lane := 0, checker := 2, unit := 0xa3b2, since := 0x5bf1846ea8, copied := true }) } }, { lane := 0, checker := 2, unit := 0xa3b2, since := 0x5bf1846ea8, copied := true }, by decide +kernel⟩,
    ⟨{ rs := { takeover := (some { lane := 1, checker := 0, unit := 2, since := 0xcdad2f45b0, passed := (some true), retry := true }) } }, { lane := 1, checker := 0, unit := 2, since := 0xcdad2f45b0, passed := (some true), retry := true }, by decide +kernel⟩,
    ⟨{ rs := { takeover := (some { lane := 1, checker := 0x3be9, unit := 30, since := 0x9d227c8d65, passed := (some true), copied := true, retry := true }) } }, { lane := 1, checker := 0x3be9, unit := 30, since := 0x9d227c8d65, passed := (some true), copied := true, retry := true }, by decide +kernel⟩,
    ⟨{ rs := { takeover := (some { lane := 0, checker := 0xec7f, unit := 127, since := 0x5f5076a871, passed := (some false), retry := true }) } }, { lane := 0, checker := 0xec7f, unit := 127, since := 0x5f5076a871, passed := (some false), retry := true }, by decide +kernel⟩,
    ⟨{ ft := 0x354efd679 }, by decide +kernel⟩,
    ⟨{ regs := [(0x5c0000, 138)] }, 0, by simp only [State.Serves]; decide +kernel⟩,
    ⟨{  }, 0, by simp only [State.Serves]; decide +kernel⟩⟩

/-- The hypotheses of each clause of `Obligations.ResilienceBlock` are met together. -/
theorem witness_ResilienceBlock :
    (∃ (s : State) (c : Nat) (a : Nat), s.pw.coreUp = true ∧ c < 3 ∧ s.fld Reg.RES_STATE_FIRE_OK = 7) ∧
    (∃ (s : State) (c : Nat) (a : Nat), s.pw.coreUp = true ∧ c < 3 ∧ s.fireCopies = 2 ∧ s.fbit Reg.RES_STATE_FIRE_OK c = true ∧ s.on
      Reg.RES_STATE_HELD_SAFE = false) ∧
    (∃ (s : State) (c : Nat) (a : Nat), s.pw.coreUp = true ∧ c < 3 ∧ s.fld Reg.RES_STATE_FIRE_OK = 7 ∧ a < 2 ^ 32) ∧
    (∃ (s : State) (c : Nat) (ok : Bool), s.pw.coreUp = true ∧ c < 3 ∧ c ∈ s.rs.reloading) ∧
    (∃ (s : State) (p : Nat), s.pw.coreUp = true ∧ s.Serves p) ∧
    (∃ (s : State) (mem : Nat) (x : ScrubIn), s.pw.coreUp = true ∧ 1 ≤ mem ∧ mem ≤ 8 ∧ mem ≠ 7 ∧ x.bad = false) ∧
    (∃ (s : State) (x : ScrubIn), s.pw.coreUp = true ∧ x.bad = true ∧ x.place < 4 ∧ x.copy < 4 ∧ x.addr < 2 ^ 32) ∧
    (∃ (s : State) (g : Nat) (d : Int), s.pw.coreUp = true ∧ g < 5 ∧ s.variant ≠ Variant.f0512 ∧ s.on Reg.RES_CTRL_REFA_EN = false ∧
      s.refGroup g = { } ∧ s.on (Reg.REF_STAT_WARN g) = false ∧ -1000000 ≤ d ∧ d < 48576 ∧ s.fld (Reg.REF_STAT_VOTED g) = 0) ∧
    (∃ (s : State) (p : Nat), s.pw.coreUp = true ∧ s.Serves p ∧ s.on Reg.RES_STATE_HELD_SAFE = true ∧ (s.fld Reg.RES_STATE_STATE = 0 ∨
      s.fld Reg.RES_STATE_STATE = 2) ∧ 2 ≤ s.fireCopies) ∧
    (∃ (s : State) (p : Nat), s.pw.coreUp = true ∧ s.Serves p ∧ s.on Reg.RES_STATE_HELD_SAFE = true ∧ (s.fld Reg.RES_STATE_STATE = 1 ∨
      s.fireCopies < 2) ∧ s.rs.takeover.isSome = true) ∧
    (∃ (s : State), s.pw.coreUp = true ∧ s.rs.clearing = true ∧ s.im.active = none ∧ s.on Reg.RES_STATE_HELD_SAFE = true) ∧
    (∃ (s : State) (a : Bool), s.pw.coreUp = true ∧ s.rs.clearing = true ∧ s.im.active = none) ∧
    (∃ (s : State), s.pw.coreUp = true ∧ s.rs.clearing = true ∧ s.on Reg.RES_STATE_HELD_SAFE = true) :=
  ⟨⟨{  }, 0, 1, by decide +kernel⟩,
    ⟨{ regs := [(0x5c0000, 192)] }, 0, 0xd7f7, by decide +kernel⟩,
    ⟨{  }, 0, 0x1b96, by decide +kernel⟩,
    ⟨{ rs := { reloading := [0] } }, 0, false, by decide +kernel⟩,
    ⟨{  }, 3, by simp only [State.Serves]; decide +kernel⟩,
    ⟨{  }, 1, { addr := 1, place := 0, copy := 0x17a5801, bad := false, unit := 81 }, by decide +kernel⟩,
    ⟨{  }, { addr := 51, place := 3, copy := 2, bad := true, unit := 2 }, by decide +kernel⟩,
    ⟨{  }, 1, (-1), by decide +kernel⟩,
    ⟨{ regs := [(0x5c0000, 0x1180)] }, 2, by simp only [State.Serves]; decide +kernel⟩,
    ⟨{ regs := [(0x5c0000, 0x1181)], rs := { takeover := (some { lane := 0, checker := 0, unit := 0, since := 0 }) } }, 3, by simp only [State.Serves]; decide +kernel⟩,
    ⟨{ regs := [(0x5c0000, 0x11c0)], rs := { clearing := true } }, by decide +kernel⟩,
    ⟨{ rs := { clearing := true } }, true, by decide +kernel⟩,
    ⟨{ regs := [(0x5c0000, 0x11c2)], rs := { clearing := true } }, by decide +kernel⟩⟩

/-- The hypotheses of each clause of `Obligations.LinkCyclesAndNodeControl` are met together. -/
theorem witness_LinkCyclesAndNodeControl :
    (∃ (s : State) (l : Nat), s.pw.coreUp = true ∧ l < s.variant.links ∧ s.on (Reg.LK_CTRL_EN l) = true ∧ (s.link l).holdFrames ≤ 3 ∧
      (s.link l).unsent = [] ∧ s.fld (Reg.LK_HOLD_LO_HOLD l) + 2 ^ 32 * s.fld (Reg.LK_HOLD_HI_HOLD l) = s.holdMask l ∧ (∀ (f : OutFrame),
      f ∈ (s.link l).ctl → 2 ≤ f.type ∧ f.type ≤ 8) ∧ ∀ (c : LinkCmd), c ∈ (s.link l).cmds → 16 ≤ c.type ∧ (c.type = 18 ∨ c.holds = none)) ∧
    (∃ (s : State) (q : Nat) (l : Nat) (p : Nat), s.pw.coreUp = true ∧ s.Serves q ∧ l < s.variant.links ∧ p < 16) ∧
    (∃ (s : State) (q : Nat) (l : Nat) (p : Nat), s.pw.coreUp = true ∧ s.Serves q ∧ l < s.variant.links ∧ p < 16 ∧ s.outletsAt l p = []) ∧
    (∃ (s : State) (q : Nat) (l : Nat) (p : Nat), s.pw.coreUp = true ∧ s.Serves q ∧ l < s.variant.links ∧ p < 16 ∧ s.outletsAt l p ≠ []) ∧
    (∃ (s : State) (q : Nat) (l : Nat) (p : Nat), s.pw.coreUp = true ∧ s.Serves q ∧ l < s.variant.links ∧ p < 16) ∧
    (∃ (s : State) (q : Nat) (l : Nat) (p : Nat), s.pw.coreUp = true ∧ s.Serves q ∧ l < s.variant.links ∧ p < 16 ∧ s.ndState l p = nLost ∧
      s.fld (Reg.ND_STATE_NODE_STATE l p) = 5 ∧ ∀ (x : OutFrame), x ∈ (s.link l).ctl ++ (s.link l).sent → x.type ≠ 3) ∧
    (∃ (s : State) (q : Nat) (l : Nat) (p : Nat), s.pw.coreUp = true ∧ s.Serves q ∧ l < s.variant.links ∧ p < 16 ∧ s.ndState l p = nLost ∧
      s.fld (Reg.ND_STATE_NODE_STATE l p) ≠ 5) :=
  ⟨⟨{  }, 5, by decide +kernel⟩,
    ⟨{  }, 2, 14, 2, by simp only [State.Serves]; decide +kernel⟩,
    ⟨{  }, 0, 3, 0, by simp only [State.Serves]; decide +kernel⟩,
    ⟨{ regs := [(0x4708c0, 9), (0x4708c4, 32)] }, 0, 0, 2, by simp only [State.Serves]; decide +kernel⟩,
    ⟨{  }, 3, 1, 0, by simp only [State.Serves]; decide +kernel⟩,
    ⟨{ regs := [(0x530180, 0x140004)] }, 0, 0, 2, by simp only [State.Serves]; decide +kernel⟩,
    ⟨{ regs := [(0x530180, 4)] }, 0, 0, 2, by simp only [State.Serves]; decide +kernel⟩⟩

/-- The hypotheses of each clause of `Obligations.Enumeration` are met together. -/
theorem witness_Enumeration :
    (∃ (s : State) (l : Nat) (a : Nat × Nat), s.pw.coreUp = true ∧ l < s.variant.links ∧ (s.link l).assign = some a) ∧
    (∃ (s : State) (l : Nat) (p : Nat) (n : Nat) (f : IdentIn), s.pw.coreUp = true ∧ l < s.variant.links ∧ p < 16 ∧ (s.link l).assign =
      some (p, n) ∧ s.linkOutlets l + f.outlets ≤ 64 ∧ s.fld (Reg.ND_EXPECT_PRODUCT l p) = 0 ∧ s.fld (Reg.ND_EXPECT_OUTLETS l p) = 0) ∧
    (∃ (s : State) (l : Nat) (p : Nat) (n : Nat) (f : IdentIn), s.pw.coreUp = true ∧ l < s.variant.links ∧ p < 16 ∧ (s.link l).assign =
      some (p, n) ∧ (64 < s.linkOutlets l + f.outlets ∨ s.fld (Reg.ND_EXPECT_PRODUCT l p) ≠ 0 ∧ s.fld (Reg.ND_EXPECT_PRODUCT l p) ≠
      f.product ∨ s.fld (Reg.ND_EXPECT_OUTLETS l p) ≠ 0 ∧ s.fld (Reg.ND_EXPECT_OUTLETS l p) ≠ f.outlets)) ∧
    (∃ (s : State) (l : Nat) (p : Nat) (n : Nat) (f : IdentIn) (x : Nat), s.pw.coreUp = true ∧ l < s.variant.links ∧ p < 16 ∧ (s.link
      l).assign = some (p, n) ∧ s.linkOutlets l + f.outlets ≤ 64 ∧ s.fld (Reg.ND_EXPECT_PRODUCT l p) = 0 ∧ s.fld (Reg.ND_EXPECT_OUTLETS l
      p) = 0 ∧ sget (fun (x : Nat) => none) (s.link l).serials p = some x ∧ x ≠ f.serial) :=
  ⟨⟨{ lk := { links := [(5, { assign := (some (0x17f6bac, 32)) })] } }, 5, (0x17f6bac, 32), by decide +kernel⟩,
    ⟨{ lk := { links := [(3, { assign := (some (3, 1)) })] } }, 3, 3, 1, { vendor := 1, product := 2, serial := 2, outlets := 16, qdepth := 1, winMax := 0, caps := 1 }, by decide +kernel⟩,
    ⟨{ regs := [(0x530158, 0x10002)], lk := { links := [(0, { assign := (some (1, 3)) })] } }, 0, 1, 3, { vendor := 4, product := 64, serial := 0x6a6f, outlets := 8, qdepth := 2, winMax := 0xce7b1035, caps := 0x2b97 }, by decide +kernel⟩,
    ⟨{ lk := { links := [(15, { assign := some (15, 2), serials := [(15, some 4)] })] } }, 15, 15, 2, ⟨1, 2, 3, 64, 5, 6, 7⟩, 4, by decide +kernel⟩⟩

/-- The hypotheses of each clause of `Obligations.NodeFrames` are met together. -/
theorem witness_NodeFrames :
    (∃ (s : State) (l : Nat) (p : Nat) (turn : Nat) (rx : Time) (tx : Time), s.pw.coreUp = true ∧ l < s.variant.links ∧ p < 16 ∧ (s.link
      l).pings = [(p, tx)] ∧ sget (fun (x : Nat) => []) (s.link l).rtts p = [] ∧ inNodeWindow p rx = true ∧ 0 < tdiff rx tx ∧ nextWindow p
      (BitVec.toNat tx + 2 * s.fld (Reg.ND_DELAY_D l p)) ≤ BitVec.toNat rx ∧ BitVec.toNat rx < nextWindow p (BitVec.toNat tx + 2 * s.fld
      (Reg.ND_DELAY_D l p)) + 46080 ∧ 0 ≤ tdiff rx tx - ↑turn ∧ tdiff rx tx - ↑turn < 2 ^ 20) ∧
    (∃ (s : State) (l : Nat) (p : Nat) (turn : Nat) (rx : Time) (w : LinkRx), s.pw.coreUp = true ∧ l < s.variant.links ∧ p < 16 ∧ 0 <
      w.code) ∧
    (∃ (s : State) (l : Nat) (p : Nat) (turn : Nat) (rx : Time) (w : LinkRx), s.pw.coreUp = true ∧ l < s.variant.links ∧ p < 16 ∧ w.code =
      0 ∧ w.symbols ≠ 11) ∧
    (∃ (s : State) (l : Nat) (p : Nat) (turn : Nat) (rx : Time) (w : LinkRx), s.pw.coreUp = true ∧ l < s.variant.links ∧ p < 16 ∧ w.code =
      0 ∧ w.symbols = 11 ∧ w.check ≠ crc16 (inBytes 130 p (leBytes 4 turn))) ∧
    (∃ (s : State) (l : Nat) (p : Nat) (f : StatusIn), s.pw.coreUp = true ∧ l < s.variant.links ∧ p < 16 ∧ s.ndState l p = nEnumerated ∧
      f.state = 5) ∧
    (∃ (s : State) (l : Nat) (p : Nat) (f : StatusIn), s.pw.coreUp = true ∧ l < s.variant.links ∧ p < 16 ∧ (s.ndState l p = nLost ∨
      s.ndState l p = nDivergent) ∧ f.state = 5 ∧ s.on (Reg.LK_CTRL_AUTO_RESYNC l) = true ∧ ∀ (x : OutFrame), x ∈ (s.link l).ctl ++
      (s.link l).sent → x.type ≠ 3) ∧
    (∃ (s : State) (l : Nat) (p : Nat) (c : LinkCmd) (pending : Nat) (q : Nat), s.pw.coreUp = true ∧ l < s.variant.links ∧ p < 16 ∧
      pending < 256 ∧ (s.link l).cmds = [c] ∧ c.pos = p ∧ c.acked = false ∧ c.withdrawn = false ∧ c.type ≠ 18 ∧ c.seq = some q ∧ q < 4096
      ∧ c.rejected = false) ∧
    (∃ (s : State) (l : Nat) (p : Nat) (c : LinkCmd) (q : Nat) (r : Nat), s.pw.coreUp = true ∧ l < s.variant.links ∧ p < 16 ∧ (s.link
      l).cmds = [c] ∧ c.pos = p ∧ c.seq = some q) ∧
    (∃ (s : State) (l : Nat) (p : Nat) (f : SealIn), s.pw.coreUp = true ∧ l < s.variant.links ∧ p < 16 ∧ s.holdsBack = true) ∧
    (∃ (s : State) (l : Nat) (p : Nat) (c : LinkCmd) (f : SealIn) (i : Nat) (e : Entry), s.pw.coreUp = true ∧ l < s.variant.links ∧ p < 16
      ∧ s.holdsBack = false ∧ (s.link l).cmds = [c] ∧ c.pos = p ∧ c.type = 16 ∧ c.seq = some f.seq ∧ c.out = f.out ∧ c.entry = some i ∧
      s.entry i = some e ∧ e.st = eFired ∧ e.kind ≠ kRate ∧ 1 ≤ f.code ∧ f.code ≤ 4) ∧
    (∃ (s : State) (l : Nat) (p : Nat) (o : Nat) (f : Nat) (v : Nat), s.pw.coreUp = true ∧ l < s.variant.links ∧ p < 16 ∧ s.holdsBack =
      false ∧ o < 256 ∧ f < 65536 ∧ v < 65536) ∧
    (∃ (s : State) (l : Nat) (p : Nat) (c : LinkCmd), s.pw.coreUp = true ∧ l < s.variant.links ∧ p < 16 ∧ (s.link l).cmds = [c] ∧ c.pos =
      p ∧ c.sent = true ∧ c.acked = false ∧ 0 < tdiff c.due s.ft) ∧
    (∃ (s : State) (l : Nat) (p : Nat) (i : Nat) (e : Entry), s.pw.coreUp = true ∧ l < s.variant.links ∧ p < 16 ∧ s.entry i = some e ∧
      e.st = eFired ∧ e.remote = true ∧ e.kind ≠ kRate ∧ s.sealHeld i = false) ∧
    (∃ (s : State) (l : Nat) (p : Nat), s.pw.coreUp = true ∧ l < s.variant.links ∧ p < 16 ∧ (s.ndState l p = nEnumerated ∨ s.ndState l p =
      nDivergent)) :=
  ⟨⟨{ lk := { links := [(0, { pings := [(3, 100)] })] } }, 0, 3, 50, 170240, 100, by decide +kernel⟩,
    ⟨{  }, 0, 0, 0, 0xeb3c6f2026, { code := 24, symbols := 0x17f197d, check := 21 }, by decide +kernel⟩,
    ⟨{  }, 0, 1, 0x17d237a, 0xed5aac648a, { code := 0, symbols := 1, check := 0x1046c }, by decide +kernel⟩,
    ⟨{  }, 12, 1, 0x180376c, 0x844060082f, { code := 0, symbols := 11, check := 0x17de572 }, by decide +kernel⟩,
    ⟨{ regs := [(0x537140, 2)] }, 14, 1, { state := 5, cycle := 2, rxErr := 0x9a3b, flags := 27 }, by decide +kernel⟩,
    ⟨{ regs := [(0x5301c0, 4)] }, 0, 3, { state := 5, cycle := 18, rxErr := 64, flags := 0x48fa7860 }, by decide +kernel⟩,
    ⟨{ lk := { links := [(0, { cmds := [{ pos := 2, type := 99, seq := (some 6), entry := (some 3), out := 64, kind := 0xffc7, due := 0x20dcb29e1, a := 32, rate := 0x17b31c1, holds := (some 1), mode := 0x31410884, data := [218, 2, 1] }] })] } }, 0, 2, { pos := 2, type := 99, seq := (some 6), entry := (some 3), out := 64, kind := 0xffc7, due := 0x20dcb29e1, a := 32, rate := 0x17b31c1, holds := (some 1), mode := 0x31410884, data := [218, 2, 1] }, 63, 6, by decide +kernel⟩,
    ⟨{ lk := { links := [(14, { cmds := [{ pos := 3, type := 0, seq := (some 1), entry := (some 64), out := 25, due := 0x1c647c1e1, a := 0x66295139, rate := 0x11d1, target := 81, data := [95, 100, 127, 85, 142], acked := true, withdrawn := true, rejected := true }] })] } }, 14, 3, { pos := 3, type := 0, seq := (some 1), entry := (some 64), out := 25, due := 0x1c647c1e1, a := 0x66295139, rate := 0x11d1, target := 81, data := [95, 100, 127, 85, 142], acked := true, withdrawn := true, rejected := true }, 1, 0xac71, by decide +kernel⟩,
    ⟨holding [(Reg.RES_STATE_STATE, 3)], 0, 3, ⟨0, 0, 0, 0⟩, by decide +kernel⟩,
    ⟨{ lg := { entries := [(9, (some { st := 3, kind := 0, outlet := 11, withheld := true, orphaned := true, preflux := true, replanned := true, wdr := true, cause := 0x10bae, remote := true, frame := 6, due := 0x15ffe6ee5, param := 1, code := 236, cross := (some (0x855bbd170c, ((1, 0), ((-1), (-1))))), delayA := 57, delay := 0x17dc9a7, floor := (some 0x7b2eeea5e9), reserve := true, clamped := true, frameDue := 0x2bfd13197, acked := true, ended := 0xdc6f }))] }, lk := { links := [(0, { cmds := [{ pos := 1, type := 16, seq := (some 59), entry := (some 9), kind := 64, due := 0x20b27d96a, a := 1, mode := 1, data := [67, 176], rejected := true }] })] } }, 0, 1, { pos := 1, type := 16, seq := (some 59), entry := (some 9), kind := 64, due := 0x20b27d96a, a := 1, mode := 1, data := [67, 176], rejected := true }, { seq := 59, out := 0, code := 1, seat := 0x1342 }, 9, { st := 3, kind := 0, outlet := 11, withheld := true, orphaned := true, preflux := true, replanned := true, wdr := true, cause := 0x10bae, remote := true, frame := 6, due := 0x15ffe6ee5, param := 1, code := 236, cross := (some (0x855bbd170c, ((1, 0), ((-1), (-1))))), delayA := 57, delay := 0x17dc9a7, floor := (some 0x7b2eeea5e9), reserve := true, clamped := true, frameDue := 0x2bfd13197, acked := true, ended := 0xdc6f }, by decide +kernel⟩,
    ⟨{  }, 0, 0, 58, 112, 20, by decide +kernel⟩,
    ⟨{ lk := { links := [(2, { cmds := [{ pos := 1, type := 0x1515e3a5, seq := (some 2), entry := (some 120), out := 3, due := 0x22509f6bb, a := 0xf4bd, rate := 64, target := 64, holds := (some 1), mode := 0x17e58ec, data := [102, 3, 87, 82], sent := true, withdrawn := true, rejected := true }] })] } }, 2, 1, { pos := 1, type := 0x1515e3a5, seq := (some 2), entry := (some 120), out := 3, due := 0x22509f6bb, a := 0xf4bd, rate := 64, target := 64, holds := (some 1), mode := 0x17e58ec, data := [102, 3, 87, 82], sent := true, withdrawn := true, rejected := true }, by decide +kernel⟩,
    ⟨{ lg := { entries := [(113, (some { st := 3, kind := 1, outlet := 8, forced := true, replanned := true, shifted := true, cause := 64, remote := true, ctx := (some 12), frame := 5, due := 0x36862996b, param := 0x2f1, code := 1, cross := (some (0x6e2b0f0f9d, (((-29), 7163498693), ((-8569851896), 1214783437)))), delayA := 64, delay := 1, floor := (some 0xcf0cc003fa), clamped := true, frameDue := 0x39c975b2a, ended := 2 }))] } }, 2, 0, 113, { st := 3, kind := 1, outlet := 8, forced := true, replanned := true, shifted := true, cause := 64, remote := true, ctx := (some 12), frame := 5, due := 0x36862996b, param := 0x2f1, code := 1, cross := (some (0x6e2b0f0f9d, (((-29), 7163498693), ((-8569851896), 1214783437)))), delayA := 64, delay := 1, floor := (some 0xcf0cc003fa), clamped := true, frameDue := 0x39c975b2a, ended := 2 }, by decide +kernel⟩,
    ⟨{ regs := [(0x530980, 2)] }, 1, 2, by decide +kernel⟩⟩

/-- The hypotheses of each clause of `Obligations.SlotTriggers` are met together. -/
theorem witness_SlotTriggers :
    (∃ (s : State) (k : Nat) (trig : Time), s.pw.coreUp = true ∧ k < 64) ∧
    (∃ (s : State) (k : Nat) (trig : Time), s.pw.coreUp = true ∧ k < 64 ∧ s.slotReady k = true ∧ s.fld (Reg.SL_CFG_TRIG k) = 0 ∧ tge trig
      (s.slot k).earliest = true ∧ tge s.ft trig = true ∧ BitVec.toNat trig % (8000 * s.fld (Reg.SL_TIMER_TPER k)) = 8000 * s.fld
      (Reg.SL_TIMER_TOFS k) % (8000 * s.fld (Reg.SL_TIMER_TPER k))) ∧
    (∃ (s : State) (k : Nat) (trig : Time), s.pw.coreUp = true ∧ k < 64 ∧ (s.slState k = slStopped ∨ s.slState k = slSafe ∨ s.slState k =
      slOff)) ∧
    (∃ (s : State) (k : Nat) (trig : Time), s.pw.coreUp = true ∧ k < 64 ∧ s.loopSettle = s ∧ (s.slotReady k = false ∨ s.slotTrigger k trig
      = none)) ∧
    (∃ (s : State) (k : Nat) (trig : Time), s.pw.coreUp = true ∧ k < 64 ∧ s.loopSettle = s ∧ s.slotReady k = true ∧ (s.slotTrigger k
      trig).isSome = true ∧ s.fld (Reg.SL_CFG_ENTRY k) < 4094 ∧ s.fld (Reg.PROG_INSTR (k / 8) (s.fld (Reg.SL_CFG_ENTRY k))) = 16384 ∧
      s.slState k = slRun ∧ (s.slot k).busy = none ∧ s.fld (Reg.SL_SPCFG_SP_SRC k) = 0 ∧ s.fld (Reg.SL_SPSLEW_SLEW k) = 0) ∧
    (∃ (s : State) (k : Nat) (trig : Time) (e : Time), s.pw.coreUp = true ∧ k < 64 ∧ s.loopSettle = s ∧ s.slotReady k = true ∧
      (s.slotTrigger k trig).isSome = true ∧ s.fld (Reg.SL_CFG_ENTRY k) < 4094 ∧ s.fld (Reg.PROG_INSTR (k / 8) (s.fld (Reg.SL_CFG_ENTRY
      k))) = 16384 ∧ (s.slState k = slRun ∨ s.slState k = slSoft) ∧ (s.slot k).busy = some e ∧ Option.any (fun (y : Time × SlotState) =>
      tge y.fst e) (s.slotTrigger k trig) = false) ∧
    (∃ (s : State) (k : Nat) (trig : Time), s.pw.coreUp = true ∧ k < 64 ∧ s.loopSettle = s ∧ s.slotReady k = true ∧ (s.slotTrigger k
      trig).isSome = true ∧ s.fld (Reg.SL_CFG_ENTRY k) < 4094 ∧ s.fld (Reg.PROG_INSTR (k / 8) (s.fld (Reg.SL_CFG_ENTRY k))) = 16384 ∧
      s.slState k = slSoft ∧ (s.slot k).busy = none ∧ (s.slot k).entering = true ∧ s.fld (Reg.SL_SPCFG_SP_SRC k) = 0 ∧ s.fld
      (Reg.SL_SSLEW_SLEW k) ≠ 0) ∧
    (∃ (s : State) (k : Nat) (trig : Time), s.pw.coreUp = true ∧ k < 64 ∧ s.loopSettle = s ∧ s.slotReady k = true ∧ (s.slotTrigger k
      trig).isSome = true ∧ s.fld (Reg.SL_CFG_ENTRY k) < 4094 ∧ s.fld (Reg.PROG_INSTR (k / 8) (s.fld (Reg.SL_CFG_ENTRY k))) = 16384 ∧
      s.slState k = slSoft ∧ (s.slot k).busy = none ∧ (s.slot k).entering = false ∧ (s.slot k).lastS = s.sfld (Reg.SL_SETP_S k) ∧ s.fld
      (Reg.SL_SPCFG_SP_SRC k) = 0 ∧ s.fld (Reg.SL_SSLEW_SLEW k) ≠ 0 ∧ s.sfld (Reg.SL_RAMP_R k) < s.sfld (Reg.SL_SETP_S k)) ∧
    (∃ (s : State) (k : Nat) (trig : Time), s.pw.coreUp = true ∧ k < 64 ∧ s.loopSettle = s ∧ s.slotReady k = true ∧ (s.slotTrigger k
      trig).isSome = true ∧ s.fld (Reg.SL_CFG_ENTRY k) < 4094 ∧ s.fld (Reg.PROG_INSTR (k / 8) (s.fld (Reg.SL_CFG_ENTRY k))) = 16384 ∧
      s.slState k = slSoft ∧ (s.slot k).busy = none ∧ (s.slot k).entering = false ∧ (s.slot k).lastS ≠ s.sfld (Reg.SL_SETP_S k) ∧ s.fld
      (Reg.SL_SPCFG_SP_SRC k) = 0 ∧ s.fld (Reg.SL_SSLEW_SLEW k) ≠ 0 ∧ s.fld (Reg.SL_IN_KIND k 0) = 9 ∧ s.fld (Reg.SL_IN_INDEX k 0) < 64) :=
  ⟨⟨{  }, 5, 0x5ade8ba751, by decide +kernel⟩,
    ⟨holding [(Reg.SL_STATE_STATE 63, slRun)], 63, 0, by decide +kernel⟩,
    ⟨{  }, 0, 0x4b09408e0d, by decide +kernel⟩,
    ⟨{  }, 12, 0x11817d8244, by decide +kernel⟩,
    ⟨{ regs := [(0x541704, 3), (0x541e04, 3), (0x541e40, 0x1e000), (0x554000, 0x4000)], lp := { slots := [(14, { due := [0] })] } }, 14, 0x6c1a6385e2, by decide +kernel⟩,
    ⟨{ regs := [(0x541004, 3), (0x541040, 0x40002040), (0x550100, 0x4000)], lp := { slots := [(0, { busy := (some 0x58aee76487), due := [0] })] } }, 0, 0xc441e4919d, 0x58aee76487, by decide +kernel⟩,
    ⟨{ regs := [(0x541104, 2), (0x541140, 0x4001e03a), (0x54114c, 3), (0x541704, 3), (0x5500e8, 0x4000)], lp := { slots := [(1, { entering := true, due := [0] })] } }, 1, 0x94ec0e95dd, by decide +kernel⟩,
    ⟨{ regs := [(0x541104, 2), (0x54110c, 0xe009), (0x541140, 0x4002a014), (0x54114c, 1), (0x541a04, 3), (0x550050, 0x4000)], lp := { slots := [(1, { lastS := 57353, due := [0] })] } }, 1, 0x2d8aa1868, by decide +kernel⟩,
    ⟨{ regs := [(0x541304, 2), (0x54130c, 0x14cf), (0x541340, 0x12012), (0x54134c, 1), (0x541360, 57), (0x541404, 2), (0x550048, 0x4000)], lp := { slots := [(3, { due := [0] })] } }, 3, 0x20beb2c51c, by decide +kernel⟩⟩

/-- The hypotheses of each clause of `Obligations.SlotPrograms` are met together. -/
theorem witness_SlotPrograms :
    (∃ (s : State) (k : Nat) (trig : Time) (a : Nat) (imm : Nat), s.pw.coreUp = true ∧ s.loopSettle = s ∧ k < 64 ∧ s.slotReady k = true ∧
      (s.slotTrigger k trig).isSome = true ∧ s.slState k = slRun ∧ (s.slot k).busy = none ∧ s.on Reg.SMP_CTRL_EN = false ∧ s.on
      (Reg.CP_CTRL_ARM (k / 8)) = false ∧ s.on (Reg.TG_CTRL_RUN (k / 8)) = false ∧ s.fld (Reg.SL_CFG_ENTRY k) = a ∧ a < 4093 ∧ imm < 16384
      ∧ s.fld (Reg.PROG_INSTR (k / 8) a) = 65536 + imm ∧ s.fld (Reg.PROG_INSTR (k / 8) (a + 1)) = 16384) ∧
    (∃ (s : State) (k : Nat) (trig : Time) (a : Nat) (p : Nat), s.pw.coreUp = true ∧ s.loopSettle = s ∧ k < 64 ∧ s.slotReady k = true ∧
      (s.slotTrigger k trig).isSome = true ∧ s.slState k = slRun ∧ (s.slot k).busy = none ∧ s.on Reg.SMP_CTRL_EN = false ∧ s.on
      (Reg.CP_CTRL_ARM (k / 8)) = false ∧ s.on (Reg.TG_CTRL_RUN (k / 8)) = false ∧ s.fld (Reg.SL_CFG_ENTRY k) = a ∧ a < 4093 ∧ p < 16 ∧
      s.fld (Reg.PROG_INSTR (k / 8) a) = 81920 + p ∧ s.fld (Reg.PROG_INSTR (k / 8) (a + 1)) = 16384 ∧ s.fld (Reg.SL_IN_KIND k p) = 9 ∧
      s.fld (Reg.SL_IN_INDEX k p) < 64) ∧
    (∃ (s : State) (k : Nat) (trig : Time) (a : Nat) (imm : Nat) (p : Nat), s.pw.coreUp = true ∧ s.loopSettle = s ∧ k < 64 ∧ s.slotReady k
      = true ∧ (s.slotTrigger k trig).isSome = true ∧ s.slState k = slRun ∧ (s.slot k).busy = none ∧ s.on Reg.SMP_CTRL_EN = false ∧ s.on
      (Reg.CP_CTRL_ARM (k / 8)) = false ∧ s.on (Reg.TG_CTRL_RUN (k / 8)) = false ∧ s.fld (Reg.SL_CFG_ENTRY k) = a ∧ a < 4093 ∧ imm < 8192
      ∧ p < 8 ∧ s.fld (Reg.PROG_INSTR (k / 8) a) = 65536 + imm ∧ s.fld (Reg.PROG_INSTR (k / 8) (a + 1)) = 98304 + p ∧ s.fld
      (Reg.PROG_INSTR (k / 8) (a + 2)) = 16384 ∧ s.fld (Reg.SL_OUTCFG_KIND k p) = 6 ∧ s.fld (Reg.SL_OUTCFG_INDEX k p) < 64) ∧
    (∃ (s : State) (k : Nat) (trig : Time) (a : Nat) (c : Nat) (d : Nat), s.pw.coreUp = true ∧ s.loopSettle = s ∧ k < 64 ∧ s.slotReady k =
      true ∧ (s.slotTrigger k trig).isSome = true ∧ s.slState k = slRun ∧ (s.slot k).busy = none ∧ s.on Reg.SMP_CTRL_EN = false ∧ s.on
      (Reg.CP_CTRL_ARM (k / 8)) = false ∧ s.on (Reg.TG_CTRL_RUN (k / 8)) = false ∧ s.fld (Reg.SL_CFG_ENTRY k) = a ∧ a < 4093 ∧ c < 64 ∧ d
      < 64 ∧ s.fld (Reg.PROG_INSTR (k / 8) a) = 360448 + 256 * c + d ∧ s.fld (Reg.PROG_INSTR (k / 8) (a + 1)) = 16384) ∧
    (∃ (s : State) (k : Nat) (trig : Time) (a : Nat) (d : Nat), s.pw.coreUp = true ∧ s.loopSettle = s ∧ k < 64 ∧ s.slotReady k = true ∧
      (s.slotTrigger k trig).isSome = true ∧ s.slState k = slRun ∧ (s.slot k).busy = none ∧ s.on Reg.SMP_CTRL_EN = false ∧ s.on
      (Reg.CP_CTRL_ARM (k / 8)) = false ∧ s.on (Reg.TG_CTRL_RUN (k / 8)) = false ∧ s.fld (Reg.SL_CFG_ENTRY k) = a ∧ a < 4093 ∧ d < 64 ∧
      s.fld (Reg.DATA_D k d) = 0 ∧ s.fld (Reg.PROG_INSTR (k / 8) a) = 409600 + d ∧ s.fld (Reg.PROG_INSTR (k / 8) (a + 1)) = 16384) ∧
    (∃ (s : State) (k : Nat) (trig : Time) (a : Nat) (d : Nat) (e : Nat), s.pw.coreUp = true ∧ s.loopSettle = s ∧ k < 64 ∧ s.slotReady k =
      true ∧ (s.slotTrigger k trig).isSome = true ∧ s.slState k = slRun ∧ (s.slot k).busy = none ∧ s.on Reg.SMP_CTRL_EN = false ∧ s.on
      (Reg.CP_CTRL_ARM (k / 8)) = false ∧ s.on (Reg.TG_CTRL_RUN (k / 8)) = false ∧ s.fld (Reg.SL_CFG_ENTRY k) = a ∧ a < 4093 ∧ d < 64 ∧ e
      < 64 ∧ s.fld (Reg.PROG_INSTR (k / 8) a) = 32768 + d ∧ s.fld (Reg.PROG_INSTR (k / 8) (a + 1)) = 49152 + e ∧ s.fld (Reg.PROG_INSTR (k
      / 8) (a + 2)) = 16384) ∧
    (∃ (s : State) (k : Nat) (trig : Time) (a : Nat), s.pw.coreUp = true ∧ s.loopSettle = s ∧ k < 64 ∧ s.slotReady k = true ∧
      (s.slotTrigger k trig).isSome = true ∧ s.slState k = slRun ∧ (s.slot k).busy = none ∧ s.on Reg.SMP_CTRL_EN = false ∧ s.on
      (Reg.CP_CTRL_ARM (k / 8)) = false ∧ s.on (Reg.TG_CTRL_RUN (k / 8)) = false ∧ s.fld (Reg.SL_CFG_ENTRY k) = a ∧ a < 4093 ∧ s.fld
      (Reg.PROG_INSTR (k / 8) a) = 622592 + a) :=
  ⟨⟨{ regs := [(0x541404, 3), (0x541b04, 3), (0x541b40, 0x4001273a), (0x555ce8, 0x10001), (0x555cec, 0x4000)], lp := { slots := [(11, { due := [0] })] } }, 11, 0x7af9378335, 0x73a, 1, by decide +kernel⟩,
    ⟨{ regs := [(0x541004, 3), (0x541040, 0x4001e000), (0x541060, 9), (0x541704, 3), (0x550000, 0x14000), (0x550004, 0x4000)], lp := { slots := [(0, { due := [0] })] } }, 0, 0x3bc139d95c, 0, 0, by decide +kernel⟩,
    ⟨{ regs := [(0x541004, 3), (0x541040, 0x4001a000), (0x5410a8, 6), (0x541604, 2), (0x550000, 0x105af), (0x550004, 0x18001), (0x550008, 0x4000)], lp := { slots := [(0, { due := [0] })] } }, 0, 0x5ae7639c50, 0, 0x5af, 1, by decide +kernel⟩,
    ⟨{ regs := [(0x541004, 3), (0x541040, 0x20016075), (0x541504, 3), (0x5501d4, 0x58103), (0x5501d8, 0x4000)], lp := { slots := [(0, { due := [0] })] } }, 0, 0x39c5b7ad48, 117, 1, 3, by decide +kernel⟩,
    ⟨{ regs := [(0x541004, 3), (0x541040, 0x2002e001), (0x541b04, 3), (0x550004, 0x64002), (0x550008, 0x4000)], lp := { slots := [(0, { due := [0] })] } }, 0, 0xc194d8fe5a, 1, 2, by decide +kernel⟩,
    ⟨{ regs := [(0x541004, 3), (0x541040, 0x162dc), (0x541504, 2), (0x550b70, 0x8001), (0x550b74, 0xc01c), (0x550b78, 0x4000)], lp := { slots := [(0, { due := [0] })] } }, 0, 0x721010e65, 0x2dc, 1, 28, by decide +kernel⟩,
    ⟨{ regs := [(0x541104, 3), (0x541140, 0x4001e001), (0x541704, 3), (0x550004, 0x98001)], lp := { slots := [(1, { due := [0] })] } }, 1, 0x94ec0e95dd, 1, by decide +kernel⟩⟩

/-- The hypotheses of each clause of `Obligations.LoopCommands` are met together. -/
theorem witness_LoopCommands :
    (∃ (s : State) (q : Nat) (k : Nat) (v : Word), s.pw.coreUp = true ∧ s.Serves q ∧ k < 64 ∧ BitVec.toNat v % 8 = 1 ∧ s.slState k =
      slStopped ∧ s.boostSlot k = none) ∧
    (∃ (s : State) (q : Nat) (k : Nat) (v : Word), s.pw.coreUp = true ∧ s.Serves q ∧ k < 64 ∧ BitVec.toNat v % 8 = 0 ∧ s.slState k = slRun
      ∧ s.boostSlot k = none ∧ ∀ (p : Nat), p < 8 → s.fld (Reg.SL_OUTCFG_KIND k p) = 0) ∧
    (∃ (s : State) (q : Nat) (k : Nat), s.pw.coreUp = true ∧ s.Serves q ∧ k < 64 ∧ s.slState k = slOff ∧ s.loopSettle = s ∧ s.slotBusy k =
      false ∧ swf (fun (x : Nat) => none) s.lp.coefStaged = true) ∧
    (∃ (s : State) (q : Nat) (k : Nat), s.pw.coreUp = true ∧ s.Serves q ∧ k < 64 ∧ s.slState k = slRun ∧ s.on (Reg.SL_CTRL_EN k) = true ∧
      s.slotBusy k = true) ∧
    (∃ (s : State) (q : Nat) (k : Nat) (r : ImgRec), s.pw.coreUp = true ∧ s.Serves q ∧ k < 64 ∧ s.slState k = slStopped ∧ s.on
      (Reg.SL_CTRL_EN k) = false ∧ s.record 772 k = some r) ∧
    (∃ (s : State) (q : Nat) (k : Nat), s.pw.coreUp = true ∧ s.Serves q ∧ k < 64 ∧ s.slState k = slOff) ∧
    (∃ (s : State) (q : Nat) (v : Word), s.pw.coreUp = true ∧ s.Serves q ∧ s.liveSlots.any s.slotBusy = true) ∧
    (∃ (s : State) (q : Nat) (v : Word), s.pw.coreUp = true ∧ s.Serves q ∧ s.loopSettle = s ∧ s.liveSlots.any s.slotBusy = false ∧ swf
      (fun (x : Nat) => none) s.lp.tableStaged = true) ∧
    (∃ (s : State) (k : Nat) (p : Nat), s.pw.coreUp = true ∧ k < 64 ∧ p < 16 ∧ s.slState k = slRun ∧ s.fld (Reg.SL_IN_TMO k p) ≠ 0 ∧
      s.sampleLate k p = true ∧ s.fld (Reg.SL_CFG_SAFE_ACT k) = 1) ∧
    (∃ (s : State) (k : Nat) (p : Nat), s.pw.coreUp = true ∧ k < 64 ∧ p < 16 ∧ (s.fld (Reg.SL_IN_TMO k p) = 0 ∨ s.sampleLate k p = false)) ∧
    (∃ (s : State) (q : Nat) (c : Nat) (v : Word), s.pw.coreUp = true ∧ s.Serves q ∧ c < 8 ∧ BitVec.toNat v / 128 % 8 ≤ 4 ∧ 1 ≤
      BitVec.toNat v / 1024 % 256 ∧ BitVec.getLsbD v 5 = true) ∧
    (∃ (s : State) (q : Nat) (c : Nat) (v : Word), s.pw.coreUp = true ∧ s.Serves q ∧ c < 8 ∧ 1 ≤ BitVec.toNat v / 64 % 256 ∧
      BitVec.getLsbD v 3 = true) ∧
    (∃ (s : State) (q : Nat) (c : Nat) (v : Word), s.pw.coreUp = true ∧ s.Serves q ∧ c < 8 ∧ BitVec.toNat v / 64 % 256 = 0) :=
  ⟨⟨{ regs := [(0x543f04, 1)] }, 0, 47, 0xe1954069, by simp only [State.Serves]; decide +kernel⟩,
    ⟨{ regs := [(0x541004, 3)] }, 0, 0, 0xe7973080, by simp only [State.Serves]; decide +kernel⟩,
    ⟨{  }, 0, 42, by simp only [State.Serves]; decide +kernel⟩,
    ⟨{ regs := [(0x541100, 1), (0x541104, 3)], lp := { slots := [(1, { busy := (some 0x5f4b4c764) })] } }, 3, 1, by simp only [State.Serves]; decide +kernel⟩,
    ⟨{ holding [(Reg.SL_STATE_STATE 63, slStopped)] with im := { active := some { recs := [⟨0x0304, 63, [1, 2]⟩] } } }, 2, 63, ⟨0x0304, 63, [1, 2]⟩, by simp only [State.Serves]; decide +kernel⟩,
    ⟨{  }, 0, 0, by simp only [State.Serves]; decide +kernel⟩,
    ⟨{ regs := [(0x541b04, 3)], lp := { slots := [(11, { busy := (some 0x552e57412) })] } }, 0, 0xd62b3d05, by simp only [State.Serves]; decide +kernel⟩,
    ⟨{  }, 0, 240, by simp only [State.Serves]; decide +kernel⟩,
    ⟨{ ft := 0x50e82e675, regs := [(0x541904, 3), (0x541940, 0x20046002), (0x541960, 0x100060)], lp := { slots := [(9, { sampled := [(0, 0)] })] } }, 9, 0, by decide +kernel⟩,
    ⟨{  }, 0, 1, by decide +kernel⟩,
    ⟨{  }, 2, 6, 0x8bce0c74, by simp only [State.Serves]; decide +kernel⟩,
    ⟨{  }, 3, 2, 0x13e, by simp only [State.Serves]; decide +kernel⟩,
    ⟨{  }, 2, 3, 1, by simp only [State.Serves]; decide +kernel⟩⟩

/-- The hypotheses of each clause of `Obligations.SwitchProtections` are met together. -/
theorem witness_SwitchProtections :
    (∃ (s : State) (n : Nat) (tj : Int), n < s.variant.switches ∧ -524288 ≤ tj ∧ tj < 524288) ∧
    (∃ (s : State) (n : Nat) (tj : Int), n < s.variant.switches ∧ (-524288 ≤ tj ∧ tj < 524288) ∧ s.on (Reg.LS_STATE_TSD n) = true) ∧
    (∃ (s : State) (p : Nat) (n : Nat) (tj : Int), s.Serves p ∧ n < s.variant.switches ∧ -524288 ≤ tj ∧ tj < 524288) ∧
    (∃ (s : State) (p : Nat) (n : Nat), s.Serves p ∧ n < s.variant.switches) ∧
    (∃ (s : State) (n : Nat), n < s.variant.switches ∧ 5 ≤ s.lsRank n ∧ Option.any (fun (t0 : Time) => decide (BitVec.toNat (s.ft - t0) <
      1600000000)) (s.lsw n).inrush = true) ∧
    (∃ (s : State) (n : Nat), n < s.variant.switches ∧ (s.lsw n).waiting = true ∧ s.overdue (some (s.lsw n).waitFrom) (8000000 * (s.fld
      (Reg.LS_CFG_RETRY_GAP n) + 1)) = false) ∧
    (∃ (s : State) (n : Nat), n < s.variant.switches ∧ (s.lsw n).waiting = true ∧ s.overdue (some (s.lsw n).waitFrom) (8000000 * (s.fld
      (Reg.LS_CFG_RETRY_GAP n) + 1)) = true) ∧
    (∃ (s : State) (n : Nat) (ma : Int), n < s.variant.switches ∧ s.lsOn n s.ft = true ∧ s.olNa n = false ∧ s.derated 3 = false ∧ -524288
      ≤ ma ∧ ma < 524288) ∧
    (∃ (s : State) (n : Nat) (xs : List Sample), n < s.variant.switches ∧ s.on (Reg.LS_STATE_LOCKED n) = false) ∧
    (∃ (s : State), True) :=
  ⟨⟨{  }, 5, (-814), by decide +kernel⟩,
    ⟨{ regs := [(0x580114, 12)] }, 0, (-1), by decide +kernel⟩,
    ⟨{  }, 1, 5, 1, by simp only [State.Serves]; decide +kernel⟩,
    ⟨{  }, 3, 2, by simp only [State.Serves]; decide +kernel⟩,
    ⟨{ ft := 0x12a05f200, ls := { chans := [(0, { inrush := (some 0xdbde5591) })] } }, 0, by decide +kernel⟩,
    ⟨{ ft := 0x14f46b0400, ls := { chans := [(2, { waiting := true, waitFrom := 0x14f42f2e08 })] } }, 2, by decide +kernel⟩,
    ⟨{ ls := { chans := [(0, { waiting := true, waitFrom := 0x306debd057 })] } }, 0, by decide +kernel⟩,
    ⟨{ ls := { reverse := true } }, 12, (-1), by decide +kernel⟩,
    ⟨{  }, 15, [{ i := 3058290648, v := (-1356) }, { i := (-1), v := (-7348678747) }, { i := 1164514, v := 1 }], by decide +kernel⟩,
    ⟨{  }, by decide +kernel⟩⟩

/-- The hypotheses of each clause of `Obligations.SwitchSupplyAndConfirmation` are met together. -/
theorem witness_SwitchSupplyAndConfirmation :
    (∃ (s : State), True) ∧
    (∃ (s : State), True) ∧
    (∃ (s : State), True) ∧
    (∃ (s : State), True) ∧
    (∃ (s : State), True) ∧
    (∃ (s : State), True) ∧
    (∃ (s : State) (i : Nat) (mv : Int) (ma : Int) (vbat : Int) (e : Entry), s.pw.coreUp = true ∧ s.entry i = some e ∧ e.st = eFired ∧
      (e.kind = kOpen ∨ e.kind = kClose) ∧ s.fld (Reg.OT_CFG_TARGET e.outlet) = 2 ∧ s.checkDue e = false) ∧
    (∃ (s : State) (i : Nat) (mv : Int) (ma : Int) (vbat : Int) (e : Entry), s.pw.coreUp = true ∧ s.entry i = some e ∧ e.st = eFired ∧
      (e.kind = kOpen ∨ e.kind = kClose) ∧ s.fld (Reg.OT_CFG_TARGET e.outlet) = 2 ∧ s.checkDue e = true) :=
  ⟨⟨{  }, by decide +kernel⟩,
    ⟨{  }, by decide +kernel⟩,
    ⟨{  }, by decide +kernel⟩,
    ⟨{  }, by decide +kernel⟩,
    ⟨{  }, by decide +kernel⟩,
    ⟨{  }, by decide +kernel⟩,
    ⟨{ regs := [(0x4700c0, 4)], lg := { entries := [(5, (some { st := 3, kind := 0, outlet := 3, orphaned := true, replanned := true, shifted := true, cause := 0x17e1d7f, frame := 64, due := 0x27edd4120, param := 60, code := 0x17aaa88, cross := (some (0x2d9bf17da4, (((-408674), (-1383)), (1, 1408864)))), delayA := 0x43e7, delay := 1, floor := (some 0xca9d91a1e2), frameDue := 0xf5de1778, acked := true, ended := 14 }))] } }, 5, (-814), (-1), (-410989), { st := 3, kind := 0, outlet := 3, orphaned := true, replanned := true, shifted := true, cause := 0x17e1d7f, frame := 64, due := 0x27edd4120, param := 60, code := 0x17aaa88, cross := (some (0x2d9bf17da4, (((-408674), (-1383)), (1, 1408864)))), delayA := 0x43e7, delay := 1, floor := (some 0xca9d91a1e2), frameDue := 0xf5de1778, acked := true, ended := 14 }, by decide +kernel⟩,
    ⟨{ ft := 0x12a05f200, regs := [(0x470100, 4)], lg := { entries := [(0x212, (some { st := 3, kind := 0, outlet := 4, forced := true, withheld := true, orphaned := true, preflux := true, wdr := true, cause := 0x17f2e32, remote := true, ctx := (some 0x211f), frame := 1, due := 0x840307f3, param := 5, code := 73, cross := (some (0xbbc42ed2c4, (((-4179721001), 1), (1, 763458)))), delayA := 15, delay := 15, floor := (some 0x11767a3bc9), reserve := true, frameDue := 0xa98a4224, acked := true, ended := 2 }))] } }, 0x212, (-1), 1, 6297903903, { st := 3, kind := 0, outlet := 4, forced := true, withheld := true, orphaned := true, preflux := true, wdr := true, cause := 0x17f2e32, remote := true, ctx := (some 0x211f), frame := 1, due := 0x840307f3, param := 5, code := 73, cross := (some (0xbbc42ed2c4, (((-4179721001), 1), (1, 763458)))), delayA := 15, delay := 15, floor := (some 0x11767a3bc9), reserve := true, frameDue := 0xa98a4224, acked := true, ended := 2 }, by decide +kernel⟩⟩

/-- The hypotheses of each clause of `Obligations.LimpHome` are met together. -/
theorem witness_LimpHome :
    (∃ (s : State), s.pw.coreUp = true ∧ s.ls.asleep = false) ∧
    (∃ (s : State), s.overdue s.ls.beatAt (8000000 * s.wdTmo) = false) ∧
    (∃ (s : State), s.ls.asleep = false ∧ s.on Reg.LS_STATUS_WD_EXPIRED = false ∧ s.overdue s.ls.beatAt (8000000 * s.wdTmo) = true) ∧
    (∃ (s : State), s.ls.asleep = true) ∧
    (∃ (s : State) (low : Bool), True) ∧
    (∃ (s : State) (i : Nat) (level : Bool), i < 8) ∧
    (∃ (s : State), s.ls.writing = true) ∧
    (∃ (s : State), s.ls.writing = true) :=
  ⟨⟨{  }, by decide +kernel⟩,
    ⟨{ ft := 0x12a05f200, ls := { beatAt := (some 0x125ee8f9b) } }, by decide +kernel⟩,
    ⟨{ regs := [(0x580000, 0x4699)] }, by decide +kernel⟩,
    ⟨{ ls := { asleep := true } }, by decide +kernel⟩,
    ⟨{  }, true, by decide +kernel⟩,
    ⟨{  }, 0, true, by decide +kernel⟩,
    ⟨{ ls := { writing := true } }, by decide +kernel⟩,
    ⟨{ ls := { writing := true } }, by decide +kernel⟩⟩

/-- The hypotheses of each clause of `Obligations.FieldInputsAndBarrier` are met together. -/
theorem witness_FieldInputsAndBarrier :
    (∃ (s : State) (g : Nat) (xs : List FieldSample), g < 8 ∧ s.fd.asleep = false ∧ s.windowEnd g = false) ∧
    (∃ (s : State) (g : Nat) (xs : List FieldSample), g < 8 ∧ s.fd.asleep = true) ∧
    (∃ (s : State) (g : Nat) (xs : List FieldSample), g < 8 ∧ s.fd.asleep = false ∧ s.windowEnd g = true) ∧
    (∃ (s : State) (f : BarrierIn), s.barGrid 32000 = false) ∧
    (∃ (s : State) (f : BarrierIn), s.pw.coreUp = true ∧ s.barGrid 32000 = true ∧ f.ok = true ∧ s.fd.rxSeq ≠ some (f.seq % 256)) ∧
    (∃ (s : State) (f : BarrierIn), s.pw.coreUp = true ∧ s.barGrid 32000 = true ∧ f.ok = false) ∧
    (∃ (s : State) (f : BarrierIn), s.pw.coreUp = true ∧ s.barGrid 32000 = true ∧ f.ok = true ∧ s.fd.rxSeq = some (f.seq % 256)) ∧
    (∃ (s : State) (ok : Bool), s.barGrid 0 = false) ∧
    (∃ (s : State), s.pw.coreUp = true ∧ s.barGrid 0 = true) ∧
    (∃ (s : State), s.pw.coreUp = true ∧ s.barGrid 0 = true ∧ s.fd.seqIn ≠ some ((s.fd.txSeq + 1) % 256) ∧ s.fd.staged = none ∧ s.fd.stop
      = s.fd.tellStop ∧ s.fd.halt = s.fd.tellHalt ∧ s.fd.safe = s.fd.tellSafe) ∧
    (∃ (s : State), s.pw.coreUp = true ∧ s.fd.lost = false ∧ s.overdue (some (s.fd.rxAt.getD 0)) (s.barTicks false) = true) ∧
    (∃ (s : State), s.fd.lost = true ∨ s.overdue (some (s.fd.rxAt.getD 0)) (s.barTicks false) = false) ∧
    (∃ (s : State), s.overdue s.fd.txAt (s.barTicks true * 95 / 100) = false) ∧
    (∃ (s : State), s.fd.silent = false ∧ s.overdue s.fd.txAt (s.barTicks true * 95 / 100) = true) :=
  ⟨⟨{ ft := 0x12a05f200 }, 0, [], by decide +kernel⟩,
    ⟨{ fd := { asleep := true } }, 0, [{ level := true, ua := 0x61ca }, { level := false, ua := 0x18127dd }], by decide +kernel⟩,
    ⟨{  }, 0, [], by decide +kernel⟩,
    ⟨{  }, { ok := true, seq := 1, vfield := 1, outs := [{ out := 64, ma := 1, cv := 1, limit := false }, { out := 0x2479, ma := (-1), cv := (-1), limit := false }, { out := 0x17c8d87, ma := 1320, cv := 1796591, limit := true }] }, by decide +kernel⟩,
    ⟨{ ft := 0x12bc7e4ec }, { ok := true, seq := 64, vfield := (-1), outs := [{ out := 0x17add61, ma := (-496865421), cv := (-212006), limit := true }, { out := 0x6656, ma := 759, cv := 626447, limit := false }] }, by decide +kernel⟩,
    ⟨{ ft := 0x12a387ae6 }, { ok := false, seq := 3, vfield := 0, outs := [{ out := 120, ma := 4796503094, cv := 1, limit := true }] }, by decide +kernel⟩,
    ⟨{ ft := 0x12a442bd8, fd := { rxSeq := (some 59) } }, { ok := true, seq := 0x17e633b, vfield := 1, outs := [{ out := 0x94eacf7e, ma := (-1397598126), cv := (-72615), limit := true }, { out := 99, ma := 0, cv := (-1), limit := true }, { out := 2, ma := (-6202769744), cv := 1, limit := false }, { out := 0xdc9afeb8, ma := 1908, cv := 1, limit := false }] }, by decide +kernel⟩,
    ⟨{ ft := 32000 }, true, by decide +kernel⟩,
    ⟨{  }, by decide +kernel⟩,
    ⟨{  }, by decide +kernel⟩,
    ⟨{ fd := { rxAt := (some 0x9f40bc06) } }, by decide +kernel⟩,
    ⟨{  }, by decide +kernel⟩,
    ⟨{ ft := 0x12a05f200, fd := { txAt := (some 0x12a0092fd) } }, by decide +kernel⟩,
    ⟨{  }, by decide +kernel⟩⟩

/-- The hypotheses of each clause of `Obligations.FieldOutputs` are met together. -/
theorem witness_FieldOutputs :
    (∃ (s : State) (m : Nat), m < s.variant.fouts) ∧
    (∃ (s : State) (m : Nat), m < s.variant.fouts ∧ (s.fout (s.foLead m)).ovl = true ∧ s.overdue (some (s.fout (s.foLead m)).waitFrom)
      800000000 = true) ∧
    (∃ (s : State) (m : Nat), s.overdue (some (s.fout (s.foLead m)).waitFrom) 800000000 = false) ∧
    (∃ (s : State) (m : Nat), m < s.variant.fouts) ∧
    (∃ (s : State) (m : Nat), m < s.variant.fouts) ∧
    (∃ (s : State) (m : Nat) (ua : Int) (mv : Int), m < s.variant.fouts ∧ s.derated 4 = false) ∧
    (∃ (s : State) (p : Nat) (m : Nat), s.Serves p ∧ m < s.variant.fouts) ∧
    (∃ (s : State), True) ∧
    (∃ (s : State), True) ∧
    (∃ (s : State) (i : Nat) (mv : Int) (ma : Int) (vfield : Int) (e : Entry), s.pw.coreUp = true ∧ s.entry i = some e ∧ e.st = eFired ∧
      (e.kind = kOpen ∨ e.kind = kClose) ∧ s.fld (Reg.OT_CFG_TARGET e.outlet) = 3 ∧ s.checkDue e = false) ∧
    (∃ (s : State) (i : Nat) (mv : Int) (ma : Int) (vfield : Int) (e : Entry), s.pw.coreUp = true ∧ s.entry i = some e ∧ e.st = eFired ∧
      (e.kind = kOpen ∨ e.kind = kClose) ∧ s.fld (Reg.OT_CFG_TARGET e.outlet) = 3 ∧ s.checkDue e = true ∧ s.holdsBack = true) ∧
    (∃ (s : State) (i : Nat) (mv : Int) (ma : Int) (vfield : Int) (e : Entry), s.pw.coreUp = true ∧ s.entry i = some e ∧ e.st = eFired ∧
      (e.kind = kOpen ∨ e.kind = kClose) ∧ s.fld (Reg.OT_CFG_TARGET e.outlet) = 3 ∧ s.checkDue e = true ∧ s.holdsBack = false) ∧
    (∃ (s : State) (n : Nat), n < s.variant.fins ∧ s.on (Reg.FI_CFG_WAKE_EN n) = true ∧ (s.input n).woke = some true ∧ s.fd.uv = false) ∧
    (∃ (s : State) (n : Nat), s.wakeLine n = false) :=
  ⟨⟨{  }, 5, by decide +kernel⟩,
    ⟨{ fd := { outs := [(7, { waitFrom := 0xf0f832c6, ovl := true })] } }, 7, by decide +kernel⟩,
    ⟨{ ft := 0x12a05f200, fd := { outs := [(0, { waitFrom := 0x11f47e08b })] } }, 0, by decide +kernel⟩,
    ⟨{  }, 12, by decide +kernel⟩,
    ⟨{  }, 14, by decide +kernel⟩,
    ⟨{  }, 0, (-1), (-1), by decide +kernel⟩,
    ⟨{  }, 0, 12, by simp only [State.Serves]; decide +kernel⟩,
    ⟨{  }, by decide +kernel⟩,
    ⟨{  }, by decide +kernel⟩,
    ⟨{ regs := [(0x4700c0, 6)], lg := { entries := [(5, (some { st := 3, kind := 0, outlet := 3, orphaned := true, replanned := true, shifted := true, cause := 0x17e1d7f, frame := 64, due := 0x27edd4120, param := 60, code := 0x17aaa88, cross := (some (0x2d9bf17da4, (((-408674), (-1383)), (1, 1408864)))), delayA := 0x43e7, delay := 1, floor := (some 0xca9d91a1e2), frameDue := 0xf5de1778, acked := true, ended := 14 }))] } }, 5, (-814), (-1), (-410989), { st := 3, kind := 0, outlet := 3, orphaned := true, replanned := true, shifted := true, cause := 0x17e1d7f, frame := 64, due := 0x27edd4120, param := 60, code := 0x17aaa88, cross := (some (0x2d9bf17da4, (((-408674), (-1383)), (1, 1408864)))), delayA := 0x43e7, delay := 1, floor := (some 0xca9d91a1e2), frameDue := 0xf5de1778, acked := true, ended := 14 }, by decide +kernel⟩,
    ⟨{ ft := 0x12a05f200, regs := [(0x5c0000, 1), (0x4701c0, 6)], lg := { entries := [(11, (some { st := 3, kind := 0, outlet := 7, forced := true, orphaned := true, preflux := true, replanned := true, wdr := true, cause := 0x1bc, remote := true, ctx := (some 0x17f0a38), frame := 0x586a, due := 0x13c1d82c, param := 2, code := 64, delayA := 4, delay := 0x15f, floor := (some 0xe4da5857f9), reserve := true, frameDue := 0x34b9af8db }))] } }, 11, (-1), (-334), 1, { st := 3, kind := 0, outlet := 7, forced := true, orphaned := true, preflux := true, replanned := true, wdr := true, cause := 0x1bc, remote := true, ctx := (some 0x17f0a38), frame := 0x586a, due := 0x13c1d82c, param := 2, code := 64, delayA := 4, delay := 0x15f, floor := (some 0xe4da5857f9), reserve := true, frameDue := 0x34b9af8db }, by decide +kernel⟩,
    ⟨{ ft := 0x12a05f200, regs := [(0x4701c0, 6)], lg := { entries := [(11, (some { st := 3, kind := 0, outlet := 7, forced := true, orphaned := true, preflux := true, replanned := true, wdr := true, cause := 0x1bc, remote := true, ctx := (some 0x17f0a38), frame := 0x586a, due := 0x13c1d82c, param := 2, code := 64, delayA := 4, delay := 0x15f, floor := (some 0xe4da5857f9), reserve := true, frameDue := 0x34b9af8db }))] } }, 11, (-1), (-334), 1, { st := 3, kind := 0, outlet := 7, forced := true, orphaned := true, preflux := true, replanned := true, wdr := true, cause := 0x1bc, remote := true, ctx := (some 0x17f0a38), frame := 0x586a, due := 0x13c1d82c, param := 2, code := 64, delayA := 4, delay := 0x15f, floor := (some 0xe4da5857f9), reserve := true, frameDue := 0x34b9af8db }, by decide +kernel⟩,
    ⟨{ regs := [(0x590130, 0xc1517)], fd := { inputs := [(3, { woke := (some true) })] } }, 3, by decide +kernel⟩,
    ⟨{  }, 14, by decide +kernel⟩⟩

/-- The hypotheses of each clause of `Obligations.BusReception` are met together. -/
theorem witness_BusReception :
    (∃ (s : State) (p : Nat) (f : BusFrame), s.pw.coreUp = true ∧ p < s.variant.buses ∧ (f.fdf = true → s.on (Reg.BP_DBT_FD_EN p) = true)
      ∧ s.listens p = true ∧ s.haltHit p f = true) ∧
    (∃ (s : State) (p : Nat) (f : BusFrame), s.pw.coreUp = true ∧ p < s.variant.buses ∧ (f.fdf = true → s.on (Reg.BP_DBT_FD_EN p) = true)
      ∧ (s.bpState p = bpActive ∨ s.bpState p = bpRestr) ∧ s.haltHit p f = false ∧ f.rtr = false ∧ s.holdsBack = false) ∧
    (∃ (s : State) (p : Nat) (f : BusFrame), s.pw.coreUp = true ∧ p < s.variant.buses ∧ (f.fdf = true → s.on (Reg.BP_DBT_FD_EN p) = true)
      ∧ (s.bpState p = bpActive ∨ s.bpState p = bpRestr) ∧ s.haltHit p f = false ∧ f.rtr = false ∧ s.holdsBack = false ∧ s.rxMatch p f =
      none) ∧
    (∃ (s : State) (p : Nat) (f : BusFrame), s.pw.coreUp = true ∧ p < s.variant.buses ∧ f.fdf = true ∧ s.on (Reg.BP_DBT_FD_EN p) = false ∧
      (s.bpState p = bpActive ∨ s.bpState p = bpRestr)) ∧
    (∃ (s : State) (p : Nat) (f : BusFrame), s.pw.coreUp = true ∧ p < s.variant.buses ∧ (f.fdf = true → s.on (Reg.BP_DBT_FD_EN p) = true)
      ∧ (s.bpState p = bpActive ∨ s.bpState p = bpRestr) ∧ f.rtr = true) ∧
    (∃ (s : State) (p : Nat) (f : BusFrame), s.pw.coreUp = true ∧ p < s.variant.buses ∧ (f.fdf = true → s.on (Reg.BP_DBT_FD_EN p) = true)
      ∧ (s.bpState p = bpActive ∨ s.bpState p = bpRestr) ∧ s.haltHit p f = false ∧ f.rtr = false ∧ s.holdsBack = true) ∧
    (∃ (s : State) (p : Nat) (f : BusFrame), s.pw.coreUp = true ∧ p < s.variant.buses ∧ s.listens p = false) ∧
    (∃ (s : State) (p : Nat) (f : BusFrame), p < s.variant.buses ∧ s.wakeHit p f = true) ∧
    (∃ (s : State) (p : Nat) (f : BusFrame), f.fdf = true ∨ s.on (Reg.BP_WAKE_WAKE_EN p) = false) :=
  ⟨⟨{ regs := [(0x5a0304, 130), (0x5a0344, 0x40000000)] }, 2, { id := 0, ide := false, fdf := false, brs := true, esi := false, rtr := false, dlc := 0x1d0b, data := [241, 3, 2, 45], sof := 0x2ab8103fd3 }, by decide +kernel⟩,
    ⟨{ regs := [(0x5a0304, 130)] }, 2, { id := 5, ide := true, fdf := false, brs := true, esi := false, rtr := false, dlc := 0x179f319, data := [2, 3], sof := 0x1e5b10f404 }, by decide +kernel⟩,
    ⟨{ regs := [(0x5a0304, 0x142), (0x5a0334, 0x4000000)] }, 2, { id := 1, ide := true, fdf := true, brs := true, esi := false, rtr := false, dlc := 0, data := [3, 0, 3, 45, 162], sof := 0x9d7c70cedd }, by decide +kernel⟩,
    ⟨{ regs := [(0x5a0404, 3)] }, 3, { id := 2, ide := false, fdf := true, brs := true, esi := false, rtr := true, dlc := 0x179fe98, data := [], sof := 0x880af4c285 }, by decide +kernel⟩,
    ⟨{ regs := [(0x5a0404, 0x1d40ca)] }, 3, { id := 57, ide := false, fdf := false, brs := false, esi := true, rtr := true, dlc := 5, data := [219], sof := 0xc107dd8780 }, by decide +kernel⟩,
    ⟨{ regs := [(0x5a0304, 2), (0x5c0000, 0x1c1)] }, 2, { id := 0xdab78ba8, ide := true, fdf := false, brs := false, esi := false, rtr := false, dlc := 18, data := [3, 232, 3, 0], sof := 0xae9832a824 }, by decide +kernel⟩,
    ⟨{  }, 3, { id := 0x17a6971, ide := false, fdf := false, brs := false, esi := false, rtr := true, dlc := 7, data := [3], sof := 0x87ab14b106 }, by decide +kernel⟩,
    ⟨{ regs := [(0x5a0130, 0x46df903), (0x5a014c, 0x40000000)] }, 0, { id := 26, ide := false, fdf := false, brs := false, esi := false, rtr := true, dlc := 0x17b10b1, data := [66, 198, 3, 231, 46], sof := 0xd04c9e2d6e }, by decide +kernel⟩,
    ⟨{  }, 3, { id := 0xaa56, ide := true, fdf := false, brs := false, esi := false, rtr := true, dlc := 29, data := [159], sof := 0xd61ed02aec }, by decide +kernel⟩⟩

/-- The hypotheses of each clause of `Obligations.BusPortStates` are met together. -/
theorem witness_BusPortStates :
    (∃ (s : State) (n : Nat), s.pw.coreUp = true ∧ n < s.variant.buses ∧ s.bpState n = bpInteg) ∧
    (∃ (s : State) (n : Nat), s.pw.coreUp = true ∧ n < s.variant.buses ∧ s.bpState n = bpRecov) ∧
    (∃ (s : State) (n : Nat) (p : Nat) (v : Word), s.pw.coreUp = true ∧ n < s.variant.buses ∧ s.Serves p ∧ BitVec.toNat v % 4 = 0 ∧
      BitVec.toNat v / 4 % 2 = 0 ∧ s.bpState n ≠ bpOff ∧ s.bpState n ≠ bpSleep ∧ s.fld (Reg.BP_CTRL_MODE n) ≠ 0) ∧
    (∃ (s : State) (n : Nat) (p : Nat) (v : Word), s.pw.coreUp = true ∧ n < s.variant.buses ∧ s.Serves p ∧ (BitVec.toNat v % 4 = 1 ∨
      BitVec.toNat v % 4 = 2) ∧ BitVec.toNat v / 4 % 2 = 0 ∧ s.bpState n = bpOff) ∧
    (∃ (s : State) (n : Nat) (p : Nat) (v : Word), s.pw.coreUp = true ∧ n < s.variant.buses ∧ s.Serves p ∧ BitVec.toNat v / 4 % 2 = 0 ∧
      (s.bpState n = bpActive ∧ BitVec.toNat v % 4 = 2 ∨ s.bpState n = bpRestr ∧ BitVec.toNat v % 4 = 1) ∧ (s.port n).sending = none) ∧
    (∃ (s : State) (n : Nat) (p : Nat) (v : Word), s.pw.coreUp = true ∧ n < s.variant.buses ∧ s.Serves p ∧ BitVec.toNat v % 4 = 3) ∧
    (∃ (s : State) (n : Nat) (p : Nat), s.pw.coreUp = true ∧ n < s.variant.buses ∧ s.Serves p ∧ s.bpState n = bpBusOff ∧ (s.fld
      (Reg.BP_CTRL_MODE n) = 1 ∨ s.fld (Reg.BP_CTRL_MODE n) = 2)) ∧
    (∃ (s : State) (n : Nat) (p : Nat), s.pw.coreUp = true ∧ n < s.variant.buses ∧ s.Serves p ∧ s.bpState n = bpActive ∧ s.fld
      (Reg.BP_CTRL_MODE n) = 1) ∧
    (∃ (s : State) (n : Nat) (e : BusErr), s.pw.coreUp = true ∧ n < s.variant.buses ∧ s.bpState n = bpActive ∧ e.exception = false ∧
      e.ownTx = true ∧ 255 < (s.fld (Reg.BP_ERRCNT_TEC n) + if e.spared = true then 0 else 8) + 8 * e.more) ∧
    (∃ (s : State) (n : Nat) (e : BusErr), s.pw.coreUp = true ∧ n < s.variant.buses ∧ s.bpState n = bpActive ∧ e.exception = false ∧
      e.ownTx = false ∧ s.fld (Reg.BP_ERRCNT_TEC n) ≤ 255) ∧
    (∃ (s : State) (n : Nat) (w : Nat), s.pw.coreUp = true ∧ n < s.variant.buses ∧ s.winOpens n w = true) ∧
    (∃ (s : State) (n : Nat) (o : Nat) (sof : Time), s.pw.coreUp = true ∧ n < s.variant.buses ∧ (s.port n).sending = some (Sending.object
      o false) ∧ s.couldStart n (Sending.object o false) sof = true) ∧
    (∃ (s : State) (n : Nat), s.pw.coreUp = true ∧ n < s.variant.buses ∧ s.fld (Reg.BP_TT_SYNC n) ≠ 0 ∧ s.refGone n = true) ∧
    (∃ (s : State) (n : Nat), s.pw.coreUp = true ∧ n < s.variant.buses ∧ s.fld (Reg.BP_TT_SYNC n) = 2 ∧ s.fld (Reg.BP_STATUS_ROLE n) = 2 ∧
      s.bpState n = bpActive ∧ (s.port n).sending = none ∧ Option.any (fun (x : Time) => tge s.ft x) (s.refNext n) = true) ∧
    (∃ (s : State) (n : Nat) (e : BusErr), s.pw.coreUp = true ∧ n < s.variant.buses ∧ (s.bpState n = bpActive ∨ s.bpState n = bpRestr) ∧
      e.exception = true) ∧
    (∃ (s : State) (n : Nat) (e : BusErr), s.pw.coreUp = true ∧ n < s.variant.buses ∧ s.bpState n = bpRestr ∧ e.exception = false) :=
  ⟨⟨{ regs := [(0x5a0604, 1)] }, 5, by decide +kernel⟩,
    ⟨{ regs := [(0x5a0104, 0x1c5)] }, 0, by decide +kernel⟩,
    ⟨{ regs := [(0x5a0100, 10), (0x5a0104, 193)] }, 0, 1, 0x278, by simp only [State.Serves]; decide +kernel⟩,
    ⟨{  }, 3, 3, 2, by simp only [State.Serves]; decide +kernel⟩,
    ⟨{ regs := [(0x5a0104, 195)] }, 0, 3, 1, by simp only [State.Serves]; decide +kernel⟩,
    ⟨{  }, 0, 3, 3, by simp only [State.Serves]; decide +kernel⟩,
    ⟨{ regs := [(0x5a0100, 10), (0x5a0104, 0x1c4)] }, 0, 2, by simp only [State.Serves]; decide +kernel⟩,
    ⟨{ regs := [(0x5a0100, 9), (0x5a0104, 194)] }, 0, 1, by simp only [State.Serves]; decide +kernel⟩,
    ⟨{ regs := [(0x5a0304, 0x182)] }, 2, { lec := 0x3e68497d, dataPhase := false, ownTx := true, ownRef := true, inTag := false, exception := false, spared := true, more := 64 }, by decide +kernel⟩,
    ⟨{ regs := [(0x5a0104, 66)] }, 0, { lec := 1, dataPhase := false, ownTx := false, ownRef := true, inTag := true, exception := false, spared := true, more := 0 }, by decide +kernel⟩,
    ⟨{ im := { active := (some { recs := [{ kind := 0x402, index := 1, words := [] }] }) } }, 0, 1, by decide +kernel⟩,
    ⟨{ ft := 0x4000000000000000, bp := { ports := [(0, { window := (some (0, 0x4000010000000000)), sending := (some (Sys2Proof.Machine.Sending.object 1 false)) })] } }, 0, 1, 0xc06fe2c8f4, by decide +kernel⟩,
    ⟨{ regs := [(0x5a0204, 0x141), (0x5a0238, 23)], bp := { ports := [(1, { lastRef := (some 0x126a57f71) })] } }, 1, by decide +kernel⟩,
    ⟨{ regs := [(0x5a0204, 130), (0x5a0238, 50)], bp := { ports := [(1, { refAt := (some 0) })] } }, 1, by decide +kernel⟩,
    ⟨{ regs := [(0x5a0104, 0x102)] }, 0, { lec := 173, dataPhase := false, ownTx := false, ownRef := true, inTag := false, exception := true, spared := true, more := 4 }, by decide +kernel⟩,
    ⟨{ regs := [(0x5a0204, 0x1c3)] }, 1, { lec := 0, dataPhase := true, ownTx := true, ownRef := false, inTag := false, exception := false, spared := true, more := 2 }, by decide +kernel⟩⟩

/-- The hypotheses of each clause of `Obligations.BusSchedule` are met together. -/
theorem witness_BusSchedule :
    (∃ (s : State) (n : Nat) (w : Nat), s.pw.coreUp = true ∧ n < s.variant.buses ∧ s.winOpens n w = false) ∧
    (∃ (s : State) (n : Nat) (w : Nat), s.pw.coreUp = true ∧ n < s.variant.buses ∧ s.winOpens n w = true) ∧
    (∃ (s : State) (n : Nat) (w : Nat), s.pw.coreUp = true ∧ n < s.variant.buses ∧ s.winOpens n w = true ∧ s.maySend n = true ∧ (s.port
      n).sending = none ∧ (s.port n).modeWait = none ∧ (s.port n).refWait = none ∧ (s.port n).stranded = none ∧ s.winKind n w ≠ 2) ∧
    (∃ (s : State) (n : Nat) (w : Nat), s.pw.coreUp = true ∧ n < s.variant.buses ∧ s.winOpens n w = true ∧ s.maySend n = true ∧ (s.port
      n).sending = none ∧ (s.port n).modeWait = none ∧ (s.port n).refWait = none ∧ (s.port n).stranded = none ∧ s.winKind n w = 2 ∧
      Option.any (fun (e : QEntry) => s.endsBefore n (Sending.entry e) (s.winEnd n w)) (nextEntry (s.port n).queue) = true) ∧
    (∃ (s : State) (n : Nat) (w : Nat), s.pw.coreUp = true ∧ n < s.variant.buses ∧ s.winOpens n w = true ∧ s.maySend n = true ∧ (s.port
      n).sending = none ∧ (s.port n).modeWait = none ∧ (s.port n).refWait = none ∧ Option.any (fun (y : Option Nat × Option QEntry) =>
      s.endsBefore n (Sending.stranded y.fst y.snd) (s.winEnd n w)) (s.port n).stranded = true) ∧
    (∃ (s : State) (n : Nat) (w : Nat), s.pw.coreUp = true ∧ n < s.variant.buses ∧ s.winOpens n w = true ∧ s.maySend n = false ∧ (s.port
      n).sending = none ∧ (s.port n).modeWait = none ∧ (s.port n).refWait = none ∧ (s.port n).owed = none ∧ s.winKind n w ≠ 2 ∧ s.cellDue
      n w = true ∧ s.cellOnce n w = false) ∧
    (∃ (s : State) (n : Nat) (r : TxResult), s.pw.coreUp = true ∧ n < s.variant.buses ∧ (s.port n).sending = none) ∧
    (∃ (s : State) (n : Nat) (sof : Time), s.pw.coreUp = true ∧ n < s.variant.buses ∧ Option.all (fun (y : Sending) => !s.couldStart n y
      sof) (s.port n).sending = true) ∧
    (∃ (s : State) (n : Nat) (sof : Time), s.pw.coreUp = true ∧ n < s.variant.buses ∧ Option.any (fun (y : Sending) => s.couldStart n y
      sof) (s.port n).sending = true) ∧
    (∃ (s : State) (n : Nat) (o : Nat) (one : Bool) (sof : Time), s.pw.coreUp = true ∧ n < s.variant.buses ∧ (s.port n).sending = some
      (Sending.object o one) ∧ s.couldStart n (Sending.object o one) sof = true) ∧
    (∃ (s : State) (n : Nat) (o : Nat), s.pw.coreUp = true ∧ n < s.variant.buses ∧ (s.port n).sending = some (Sending.object o true)) ∧
    (∃ (s : State) (n : Nat) (o : Nat), s.pw.coreUp = true ∧ n < s.variant.buses ∧ (s.port n).sending = some (Sending.object o false)) ∧
    (∃ (s : State) (n : Nat) (k : Nat), s.pw.coreUp = true ∧ n < s.variant.buses ∧ (s.port n).sending = some (Sending.reference k) ∧
      (s.fld (Reg.BP_STATUS_ROLE n) = 2 ∨ s.fld (Reg.BP_STATUS_ROLE n) = 3)) ∧
    (∃ (s : State) (n : Nat) (k : Nat) (sof : Time), s.pw.coreUp = true ∧ n < s.variant.buses ∧ (s.port n).sending = some
      (Sending.reference k) ∧ s.couldStart n (Sending.reference k) sof = true) ∧
    (∃ (s : State) (n : Nat), s.pw.coreUp = true ∧ n < s.variant.buses ∧ s.fld (Reg.BP_TT_SYNC n) = 0) ∧
    (∃ (s : State) (n : Nat), s.pw.coreUp = true ∧ n < s.variant.buses ∧ s.fld (Reg.BP_TT_SYNC n) ≠ 0) ∧
    (∃ (s : State) (n : Nat), s.pw.coreUp = true ∧ n < s.variant.buses ∧ s.fld (Reg.BP_TT_SYNC n) = 2 ∧ (s.fld (Reg.BP_STATUS_ROLE n) = 2
      ∨ s.fld (Reg.BP_STATUS_ROLE n) = 3 ∧ Option.any (fun (q : Nat) => decide (s.fld (Reg.BP_TT_PRI n) < q)) (s.port n).masterPri = true)
      ∧ s.bpState n = bpActive ∧ (s.port n).sending = none ∧ Option.any (tge s.ft) (s.refNext n) = true) ∧
    (∃ (s : State) (n : Nat) (o : Nat) (one : Bool), s.pw.coreUp = true ∧ n < s.variant.buses ∧ s.fld (Reg.BP_TT_SYNC n) = 2 ∧ s.fld
      (Reg.BP_STATUS_ROLE n) = 2 ∧ s.bpState n = bpActive ∧ (s.port n).sending = some (Sending.object o one) ∧ Option.any (tge s.ft)
      (s.refNext n) = true) ∧
    (∃ (s : State) (n : Nat), s.pw.coreUp = true ∧ n < s.variant.buses ∧ (s.fld (Reg.BP_TT_SYNC n) ≠ 2 ∨ Option.any (tge s.ft) (s.refNext
      n) = false)) :=
  ⟨⟨{  }, 5, 0x598a91a2, by decide +kernel⟩,
    ⟨{ im := { active := (some { recs := [{ kind := 0x402, index := 2, words := [] }] }) } }, 0, 2, by decide +kernel⟩,
    ⟨{ regs := [(0x5a0104, 0x1f0162)], im := { active := (some { recs := [{ kind := 0x402, index := 0, words := [] }] }) } }, 0, 0, by decide +kernel⟩,
    ⟨{ regs := [(0x5a0104, 0x1c2)], bp := { ports := [(0, { queue := [{ ctx := 0, hdr := 0, dlc := 0, oneShot := false, data := [] }] })] }, im := { active := (some { recs := [{ kind := 0x402, index := 0, words := [0, 0x2ea60] }] }) } }, 0, 0, by decide +kernel⟩,
    ⟨{ regs := [(0x5a0104, 0x5c2)], bp := { ports := [(0, { stranded := (some (none, none)) })] }, im := { active := (some { recs := [{ kind := 0x402, index := 64, words := [0, 93] }] }) } }, 0, 64, by decide +kernel⟩,
    ⟨{ ft := 0x12a05f200, regs := [(0x5a0104, 0x842), (0x5a0138, 66)], bp := { ports := [(0, { cycleStart := (some 0x12a05f200) })] }, im := { active := (some { recs := [{ kind := 0x402, index := 0, words := [] }, { kind := 0x403, index := 0x100, words := [129] }] }) } }, 0, 0, by decide +kernel⟩,
    ⟨{  }, 0, (Sys2Proof.TxResult.lost), by decide +kernel⟩,
    ⟨{  }, 0, 0xa8a312934, by decide +kernel⟩,
    ⟨{ ft := 0x4000000000000000, bp := { ports := [(2, { sending := (some (Sys2Proof.Machine.Sending.reference 45)) })] } }, 2, 0x556e990b83, by decide +kernel⟩,
    ⟨{ ft := 0x4000000000000000, bp := { ports := [(1, { window := (some (0, 0x4000010000000000)), sending := (some (Sys2Proof.Machine.Sending.object 0 false)) })] } }, 1, 0, false, 0x9e87d5780a, by decide +kernel⟩,
    ⟨{ bp := { ports := [(0, { sending := (some (Sys2Proof.Machine.Sending.object 0 true)) })] } }, 0, 0, by decide +kernel⟩,
    ⟨{ bp := { ports := [(1, { sending := (some (Sys2Proof.Machine.Sending.object 0 false)) })] } }, 1, 0, by decide +kernel⟩,
    ⟨{ regs := [(0x5a0104, 0x1c2)], bp := { ports := [(0, { sending := (some (Sys2Proof.Machine.Sending.reference 1)) })] } }, 0, 1, by decide +kernel⟩,
    ⟨{ ft := 0x4000000000000000, bp := { ports := [(1, { sending := (some (Sys2Proof.Machine.Sending.reference 1)) })] } }, 1, 1, 0x8b5da608e5, by decide +kernel⟩,
    ⟨{  }, 0, by decide +kernel⟩,
    ⟨{ regs := [(0x5a0238, 33)] }, 1, by decide +kernel⟩,
    ⟨{ regs := [(0x5a0204, 130), (0x5a0238, 58)], bp := { ports := [(1, { refAt := (some 0) })] } }, 1, by decide +kernel⟩,
    ⟨{ regs := [(0x5a0104, 130), (0x5a0138, 26)], bp := { ports := [(0, { sending := (some (Sys2Proof.Machine.Sending.object 1 true)), refAt := (some 0) })] } }, 0, 1, true, by decide +kernel⟩,
    ⟨{  }, 0, by decide +kernel⟩⟩

/-- The hypotheses of each clause of `Obligations.BusViews` are met together. -/
theorem witness_BusViews :
    (∃ (s : State) (p : Nat) (v : Nat) (w : Word), s.Serves p ∧ v < 16 ∧ (s.viewOwner v = some (s.directCtx p) ∨ v = 0) ∧ BitVec.toNat w %
      8 < s.variant.buses ∧ bit (BitVec.toNat w) 11 = false) ∧
    (∃ (s : State) (p : Nat) (v : Nat) (w : Word), s.Serves p ∧ v < 16 ∧ (s.viewOwner v = some (s.directCtx p) ∨ v = 0) ∧ s.variant.buses
      ≤ BitVec.toNat w % 8) ∧
    (∃ (s : State) (p : Nat) (v : Nat) (w : Word), s.Serves p ∧ v < 16 ∧ (s.viewOwner v = some (s.directCtx p) ∨ v = 0) ∧ BitVec.toNat w %
      8 < s.variant.buses ∧ bit (BitVec.toNat w) 11 = true ∧ BitVec.toNat w / 8 % 256 < 128 ∧ (s.txCfg (128 * (BitVec.toNat w % 8) +
      BitVec.toNat w / 8 % 256)).isSome = true ∧ s.loopDriven (BitVec.toNat w % 8) (BitVec.toNat w / 8 % 256) = false ∧ (bit (((s.txCfg
      (128 * (BitVec.toNat w % 8) + BitVec.toNat w / 8 % 256)).getD []).getD 0 0) 30 = true ∨ s.fld (Reg.BV_META_DLC v) ≤ 8)) ∧
    (∃ (s : State) (p : Nat) (v : Nat) (w : Word), s.Serves p ∧ v < 16 ∧ (s.viewOwner v = some (s.directCtx p) ∨ v = 0) ∧ BitVec.toNat w %
      8 < s.variant.buses ∧ bit (BitVec.toNat w) 11 = true ∧ BitVec.toNat w / 8 % 256 < 128 ∧ (s.txCfg (128 * (BitVec.toNat w % 8) +
      BitVec.toNat w / 8 % 256)).isSome = true ∧ s.loopDriven (BitVec.toNat w % 8) (BitVec.toNat w / 8 % 256) = true) ∧
    (∃ (s : State) (p : Nat) (v : Nat) (w : Word), s.Serves p ∧ v < 16 ∧ (s.viewOwner v = some (s.directCtx p) ∨ v = 0) ∧ BitVec.toNat w %
      8 < s.variant.buses ∧ bit (BitVec.toNat (s.reg (5902344 + 128 * v))) 30 = false ∧ bit (BitVec.toNat (s.reg (5902344 + 128 * v))) 31
      = false ∧ s.fld (Reg.BV_META_DLC v) ≤ 8 ∧ (s.port (BitVec.toNat w % 8)).queue.length < 16 ∧ ((s.port (BitVec.toNat w %
      8)).window.isSome = true → (s.port (BitVec.toNat w % 8)).kind = 2 → s.maySend (BitVec.toNat w % 8) = true → s.on
      (Reg.BV_META_ONE_SHOT v) = false ∧ ∀ (e : QEntry), e ∈ (s.port (BitVec.toNat w % 8)).queue → e.oneShot = false)) ∧
    (∃ (s : State) (p : Nat) (v : Nat) (w : Word), s.Serves p ∧ v < 16 ∧ (s.viewOwner v = some (s.directCtx p) ∨ v = 0) ∧ BitVec.toNat w %
      8 < s.variant.buses ∧ bit (BitVec.toNat (s.reg (5902344 + 128 * v))) 30 = false ∧ bit (BitVec.toNat (s.reg (5902344 + 128 * v))) 31
      = false ∧ s.fld (Reg.BV_META_DLC v) ≤ 8 ∧ 16 ≤ (s.port (BitVec.toNat w % 8)).queue.length) ∧
    (∃ (s : State) (p : Nat) (v : Nat) (w : Word), s.Serves p ∧ v < 16 ∧ (s.viewOwner v = some (s.directCtx p) ∨ v = 0) ∧ BitVec.toNat w %
      8 < s.variant.buses ∧ bit (BitVec.toNat (s.reg (5902344 + 128 * v))) 30 = false ∧ 8 < s.fld (Reg.BV_META_DLC v)) :=
  ⟨⟨{  }, 0, 0, 0x190, by simp only [State.Serves]; decide +kernel⟩,
    ⟨{  }, 3, 0, 0x38d43fee, by simp only [State.Serves]; decide +kernel⟩,
    ⟨{ im := { active := (some { recs := [{ kind := 0x405, index := 0x115, words := [] }] }) } }, 3, 0, 0xc2958aa, by simp only [State.Serves]; decide +kernel⟩,
    ⟨{ holding [(Reg.SL_STATE_STATE 63, slRun), (Reg.SL_OUTCFG_KIND 63 7, 5), (Reg.SL_OUTCFG_INDEX 63 7, 1407)] with im := { active := some { recs := [⟨0x0405, 767, [5]⟩] } } }, 2, 0, 0xBFD, by simp only [State.Serves]; decide +kernel⟩,
    ⟨{  }, 3, 0, 3, by simp only [State.Serves]; decide +kernel⟩,
    ⟨{ bp := { ports := [(1, { queue := [{ ctx := 0, hdr := 0, dlc := 0, oneShot := false, data := [] }, { ctx := 0, hdr := 0, dlc := 0, oneShot := false, data := [] }, { ctx := 0, hdr := 0, dlc := 0, oneShot := false, data := [] }, { ctx := 0, hdr := 0, dlc := 0, oneShot := false, data := [] }, { ctx := 0, hdr := 0, dlc := 0, oneShot := false, data := [] }, { ctx := 0, hdr := 0, dlc := 0, oneShot := false, data := [] }, { ctx := 0, hdr := 0, dlc := 0, oneShot := false, data := [] }, { ctx := 0, hdr := 0, dlc := 0, oneShot := false, data := [] }, { ctx := 0, hdr := 0, dlc := 0, oneShot := false, data := [] }, { ctx := 0, hdr := 0, dlc := 0, oneShot := false, data := [] }, { ctx := 0, hdr := 0, dlc := 0, oneShot := false, data := [] }, { ctx := 0, hdr := 0, dlc := 0, oneShot := false, data := [] }, { ctx := 0, hdr := 0, dlc := 0, oneShot := false, data := [] }, { ctx := 0, hdr := 0, dlc := 0, oneShot := false, data := [] }, { ctx := 0, hdr := 0, dlc := 0, oneShot := false, data := [] }, { ctx := 0, hdr := 0, dlc := 0, oneShot := false, data := [] }] })] } }, 1, 0, 1, by simp only [State.Serves]; decide +kernel⟩,
    ⟨{ regs := [(0x5a100c, 11)] }, 0, 0, 0x171, by simp only [State.Serves]; decide +kernel⟩⟩

/-- The hypotheses of each clause of `Obligations.RingCommands` are met together. -/
theorem witness_RingCommands :
    (∃ (s : State) (c : Nat) (v : Word), s.pw.coreUp = true ∧ c < s.variant.contexts ∧ s.on (Reg.CTX_CFG_BOUND c) = true) ∧
    (∃ (s : State) (c : Nat) (tag : Nat), s.pw.coreUp = true ∧ s.mayTake c = true ∧ s.dmaRuns c = true ∧ tag < 2 ^ 16) ∧
    (∃ (s : State) (c : Nat) (tag : Nat) (flags : Nat), s.pw.coreUp = true ∧ s.mayTake c = true ∧ s.dmaRuns c = true ∧ tag < 2 ^ 16 ∧
      flags < 2 ^ 8 ∧ flags &&& 250 ≠ 0 ∧ bit flags 0 = false) ∧
    (∃ (s : State) (c : Nat) (tag : Nat), s.pw.coreUp = true ∧ s.mayTake c = true ∧ tag < 2 ^ 16) ∧
    (∃ (s : State) (c : Nat) (tag : Nat) (a : Nat) (v : Word) (m : Word), s.pw.coreUp = true ∧ s.mayTake c = true ∧ s.dmaRuns c = true ∧
      tag < 2 ^ 16 ∧ a < 2 ^ 26 ∧ a % 4 = 0 ∧ 4194304 ≤ a ∧ absent s.variant a = true) ∧
    (∃ (s : State) (c : Nat) (tag : Nat) (a : Nat) (v : Word) (m : Word), s.pw.coreUp = true ∧ s.mayTake c = true ∧ s.dmaRuns c = true ∧
      tag < 2 ^ 16 ∧ a < 2 ^ 26 ∧ a % 4 = 0 ∧ 4194304 ≤ a ∧ a < 16777216 ∧ a ≠ 5963840 ∧ absent s.variant a = false ∧ (rowOf a).isSome =
      true ∧ s.mayWrite c a = false) ∧
    (∃ (s : State) (c : Nat) (tag : Nat) (v : Word) (m : Word), s.pw.coreUp = true ∧ s.mayTake c = true ∧ s.dmaRuns c = true ∧ tag < 2 ^
      16 ∧ s.supervisor c = true) ∧
    (∃ (s : State) (c : Nat) (tag : Nat) (a : Nat), s.pw.coreUp = true ∧ s.mayTake c = true ∧ s.dmaRuns c = true ∧ tag < 2 ^ 16 ∧ a < 2 ^
      26) ∧
    (∃ (s : State) (c : Nat) (tag : Nat) (flags : Nat) (f : FixIn), s.pw.coreUp = true ∧ s.mayTake c = true ∧ s.dmaRuns c = true ∧ tag < 2
      ^ 16 ∧ (flags = 0 ∨ flags = 4) ∧ fixFits f = true ∧ s.inhibitor c = false ∧ s.holds c Reg.CTX_PERM_FIX_SOURCE = true) ∧
    (∃ (s : State) (c : Nat) (tag : Nat) (f : FixIn), s.pw.coreUp = true ∧ s.mayTake c = true ∧ s.dmaRuns c = true ∧ tag < 2 ^ 16 ∧
      fixFits f = true ∧ s.holds c Reg.CTX_PERM_FIX_SOURCE = false) ∧
    (∃ (s : State) (c : Nat) (tag : Nat) (p : Nat) (dlc : Nat) (one : Bool) (ide : Bool) (id : Nat) (data : List Byte), s.pw.coreUp = true
      ∧ s.mayTake c = true ∧ tag < 2 ^ 16 ∧ p < s.variant.buses ∧ dlc ≤ 8 ∧ id < 2 ^ 11 ∧ s.inhibitor c = false ∧ s.mayEnqueue c p (hdrOf
      id ide false false) = true ∧ (s.port p).queue.length < 16) ∧
    (∃ (s : State) (c : Nat) (tag : Nat) (p : Nat) (dlc : Nat) (one : Bool) (ide : Bool) (brs : Bool) (id : Nat) (data : List Byte),
      s.pw.coreUp = true ∧ s.mayTake c = true ∧ s.dmaRuns c = true ∧ tag < 2 ^ 16 ∧ p < s.variant.buses ∧ (10 < dlc ∧ dlc < 16) ∧ id < 2 ^
      11 ∧ s.inhibitor c = false) ∧
    (∃ (s : State) (c : Nat) (tag : Nat) (flags : Nat), s.pw.coreUp = true ∧ s.mayTake c = true ∧ s.dmaRuns c = false) :=
  ⟨⟨{ regs := [(0x5b10a0, 0x1bb)] }, 5, 1, by decide +kernel⟩,
    ⟨{ regs := [(24, 1), (32, 27), (0x5b1000, 0x1b6)] }, 0, 2, by decide +kernel⟩,
    ⟨{ regs := [(24, 1), (32, 145), (0x5b1000, 0x1be)] }, 0, 1, 64, by decide +kernel⟩,
    ⟨{ regs := [(24, 1), (32, 43), (0x5b1000, 0x1b1)] }, 0, 2, by decide +kernel⟩,
    ⟨{ holding [(Reg.CTX_CFG_BOUND 12, 1), (Reg.CW_RING_EN 12, 1), (Reg.CW_SQ_TAIL_INDEX 12, 1)] with variant := .f0512 }, 12, 2, 0x534000, 5, 1, by decide +kernel⟩,
    ⟨holding [(Reg.CTX_CFG_BOUND 12, 1), (Reg.CW_RING_EN 12, 1), (Reg.CW_SQ_TAIL_INDEX 12, 1)], 12, 65535, 0x410004, 5, 1, by decide +kernel⟩,
    ⟨{ regs := [(24, 1), (32, 182), (0x5b1000, 0x1be)] }, 0, 0, 0x171, 3, by decide +kernel⟩,
    ⟨{ regs := [(0x1018, 1), (0x1020, 180), (0x5b1020, 0x1bc)] }, 1, 30, 0, by decide +kernel⟩,
    ⟨{ regs := [(24, 1), (32, 122), (0x5b1000, 0x1b2)] }, 0, 0, 0, { stamp := 0x6df817034c, e := 743019226, n := (-297), u := (-1), rad := 6, qual := 2, ant := 0, hdg := none }, by decide +kernel⟩,
    ⟨holding [(Reg.CTX_CFG_BOUND 12, 1), (Reg.CW_RING_EN 12, 1), (Reg.CW_SQ_TAIL_INDEX 12, 1)], 12, 65535, ⟨0, 0, 0, 0, 0, 0, 0, none⟩, by decide +kernel⟩,
    ⟨{ regs := [(24, 1), (32, 191), (0x5b1000, 0x1b2)] }, 0, 0, 3, 2, true, false, 2, [157, 54], by decide +kernel⟩,
    ⟨{ regs := [(0x2018, 1), (0x2020, 87), (0x5b1040, 0x1ba)] }, 2, 24, 0, 12, false, true, false, 1, [2], by decide +kernel⟩,
    ⟨{ regs := [(0x1018, 1), (0x1020, 61), (0x5b1020, 0x1b0)], hp := { dmaOff := [0] } }, 1, 1, 64, by decide +kernel⟩⟩

/-- The hypotheses of each clause of `Obligations.BoundaryCommands` are met together. -/
theorem witness_BoundaryCommands :
    (∃ (s : State) (c : Nat) (tag : Nat) (first : Nat) (count : Nat) (mode : Nat), s.pw.coreUp = true ∧ s.mayTake c = true ∧ tag < 2 ^ 16
      ∧ 1 ≤ count ∧ first + count ≤ s.variant.outlets ∧ (1 ≤ mode ∧ mode ≤ 3) ∧ s.inhibitor c = false ∧ s.grouped c Reg.CTX_OWN_GROUPS
      first count = true) ∧
    (∃ (s : State) (c : Nat) (tag : Nat) (first : Nat) (count : Nat) (mode : Nat), s.pw.coreUp = true ∧ s.mayTake c = true ∧ tag < 2 ^ 16
      ∧ 1 ≤ count ∧ first + count ≤ s.variant.outlets ∧ (1 ≤ mode ∧ mode ≤ 3) ∧ s.grouped c Reg.CTX_OWN_GROUPS first count = false ∧
      s.dmaRuns c = true) ∧
    (∃ (s : State) (c : Nat) (tag : Nat) (first : Nat) (count : Nat) (mode : Nat), s.pw.coreUp = true ∧ s.mayTake c = true ∧ tag < 2 ^ 16
      ∧ count = 0 ∧ s.dmaRuns c = true) ∧
    (∃ (s : State) (c : Nat) (tag : Nat) (first : Nat) (count : Nat) (mode : Nat), s.pw.coreUp = true ∧ s.mayTake c = true ∧ tag < 2 ^ 16
      ∧ first < 2 ^ 16 ∧ 1 ≤ count ∧ count ≤ 1024 ∧ s.variant.outlets < first + count ∧ (1 ≤ mode ∧ mode ≤ 3) ∧ s.dmaRuns c = true) ∧
    (∃ (s : State) (c : Nat) (tag : Nat) (first : Nat) (count : Nat), s.pw.coreUp = true ∧ s.mayTake c = true ∧ tag < 2 ^ 16 ∧ 1 ≤ count ∧
      first + count ≤ s.variant.outlets ∧ s.inhibitor c = false ∧ ∀ (o : Nat), o < count → s.owns c (first + o) = true) ∧
    (∃ (s : State) (c : Nat) (tag : Nat) (first : Nat) (count : Nat), s.pw.coreUp = true ∧ s.mayTake c = true ∧ tag < 2 ^ 16 ∧ 1 ≤ count ∧
      first + count ≤ s.variant.outlets ∧ s.inhibitor c = false ∧ s.owns c first = false ∧ s.dmaRuns c = true) ∧
    (∃ (s : State) (c : Nat) (tag : Nat) (first : Nat) (count : Nat) (mode : Nat) (target : Nat), s.pw.coreUp = true ∧ s.mayTake c = true
      ∧ tag < 2 ^ 16 ∧ 1 ≤ count ∧ first + count ≤ s.variant.outlets ∧ (1 ≤ mode ∧ mode ≤ 3) ∧ target < s.variant.contexts ∧ s.supervisor
      c = true ∧ s.inhibitor target = false) ∧
    (∃ (s : State) (c : Nat) (tag : Nat) (first : Nat) (count : Nat), s.pw.coreUp = true ∧ s.mayTake c = true ∧ tag < 2 ^ 16 ∧ 1 ≤ count ∧
      first + count ≤ s.variant.outlets ∧ s.supervisor c = true) ∧
    (∃ (s : State) (c : Nat) (tag : Nat) (first : Nat) (count : Nat), s.pw.coreUp = true ∧ s.mayTake c = true ∧ tag < 2 ^ 16 ∧ 1 ≤ count ∧
      first + count ≤ s.variant.outlets ∧ s.supervisor c = false ∧ s.dmaRuns c = true) ∧
    (∃ (s : State) (c : Nat) (tag : Nat) (first : Nat) (count : Nat) (target : Nat), s.pw.coreUp = true ∧ s.mayTake c = true ∧ tag < 2 ^
      16 ∧ target < s.variant.contexts ∧ s.supervisor c = true ∧ s.on (Reg.CTX_CFG_DEFINED target) = true) ∧
    (∃ (s : State) (c : Nat) (tag : Nat) (first : Nat) (count : Nat) (target : Nat), s.pw.coreUp = true ∧ s.mayTake c = true ∧ tag < 2 ^
      16 ∧ target < s.variant.contexts ∧ s.supervisor c = true ∧ s.on (Reg.CTX_CFG_DEFINED target) = true) :=
  ⟨⟨{ regs := [(24, 1), (32, 35), (0x5b1000, 0x1bf)] }, 0, 0x2cc, 2, 12, 1, by decide +kernel⟩,
    ⟨{ regs := [(0x1018, 1), (0x1020, 21), (0x5b1020, 0x1b1)] }, 1, 66, 64, 2, 1, by decide +kernel⟩,
    ⟨{ regs := [(24, 1), (32, 204), (0x5b1000, 0x1bd)] }, 0, 11, 4, 0, 0x17e9e48, by decide +kernel⟩,
    ⟨{ regs := [(24, 1), (32, 209), (0x5b1000, 0x1bc)] }, 0, 0x1e2, 0xa63d, 2, 2, by decide +kernel⟩,
    ⟨holding [(Reg.CTX_CFG_BOUND 12, 1), (Reg.CW_RING_EN 12, 1), (Reg.CW_SQ_TAIL_INDEX 12, 1), (Reg.OWN_OWNED 1023, 1), (Reg.OWN_OWNER 1023, 12)], 12, 2, 1023, 1, by decide +kernel⟩,
    ⟨{ regs := [(24, 1), (32, 34), (0x5b1000, 0x1bb)] }, 0, 4, 64, 13, by decide +kernel⟩,
    ⟨{ regs := [(24, 1), (32, 182), (0x5b1000, 0x1be)] }, 0, 0, 1, 63, 2, 0, by decide +kernel⟩,
    ⟨{ regs := [(24, 1), (32, 126), (0x5b1000, 0x1b9)] }, 0, 3, 6, 53, by decide +kernel⟩,
    ⟨{ regs := [(0x2018, 1), (0x2020, 217), (0x5b1040, 0x1b4)] }, 2, 51, 0, 24, by decide +kernel⟩,
    ⟨{ regs := [(24, 1), (32, 234), (36, 1), (40, 0x1ff), (0x5b1000, 0x1bb), (0x5b1180, 0x191)] }, 0, 6, 0xeff3031f, 7, 12, by decide +kernel⟩,
    ⟨{ regs := [(24, 1), (32, 240), (0x5b1000, 0x1bf), (0x5b1800, 0x190)] }, 0, 1, 0x17affe8, 0xa5ea0554, 64, by decide +kernel⟩⟩

/-- The hypotheses of each clause of `Obligations.BoundaryOrder` are met together. -/
theorem witness_BoundaryOrder :
    (∃ (s : State) (tk f g : Time) (c d o m : Nat), 160000 ≤ tdiff tk f ∧ 160000 ≤ tdiff tk g ∧ o < s.variant.outlets ∧ (c < 1024 ∧ d <
      1024) ∧ c ≠ d ∧ (1 ≤ m ∧ m ≤ 3) ∧ s.on (Reg.CTX_CFG_BOUND c) = true ∧ s.on (Reg.CTX_CFG_BOUND d) = true ∧ s.on (Reg.OWN_OWNED o) =
      false) ∧
    (∃ (s : State) (tk f g : Time) (c d o m : Nat), 160000 ≤ tdiff tk f ∧ 160000 ≤ tdiff tk g ∧ o < s.variant.outlets ∧ (c < 1024 ∧ d <
      1024) ∧ c ≠ d ∧ (1 ≤ m ∧ m ≤ 3) ∧ s.on (Reg.CTX_CFG_BOUND c) = true ∧ s.on (Reg.CTX_CFG_BOUND d) = true ∧ s.owns c o = true) ∧
    (∃ (s : State) (tk f g : Time) (c d o m : Nat), 160000 ≤ tdiff tk f ∧ 160000 ≤ tdiff tk g ∧ o < s.variant.outlets ∧ (c < 1024 ∧ d <
      1024) ∧ c ≠ d ∧ (1 ≤ m ∧ m ≤ 3) ∧ s.on (Reg.CTX_CFG_BOUND c) = true ∧ s.on (Reg.CTX_CFG_BOUND d) = true ∧ ∃ h : Time, tdiff tk h <
      160000) :=
  ⟨⟨holding [(Reg.CTX_CFG_BOUND 0, 1), (Reg.CTX_CFG_BOUND 1023, 1)], 1160000, 1000000, 1000000, 0, 1023, 1023, 3, by decide +kernel⟩,
    ⟨holding [(Reg.CTX_CFG_BOUND 0, 1), (Reg.CTX_CFG_BOUND 1023, 1), (Reg.OWN_OWNED 1023, 1)], 1160000, 1000000, 1000000, 0, 1023, 1023, 3, by decide +kernel⟩,
    ⟨holding [(Reg.CTX_CFG_BOUND 0, 1), (Reg.CTX_CFG_BOUND 1023, 1)], 1160000, 1000000, 1000000, 0, 1023, 1023, 3, by decide +kernel, by decide +kernel, by decide +kernel, by decide +kernel, by decide +kernel, by decide +kernel, by decide +kernel, by decide +kernel, 1000001, by decide +kernel⟩⟩

/-- The hypotheses of each clause of `Obligations.LedgerCommands` are met together. -/
theorem witness_LedgerCommands :
    (∃ (s : State) (c : Nat) (tag : Nat) (o : Nat) (kind : Nat) (due : Time) (rate : Nat), s.pw.coreUp = true ∧ s.mayTake c = true ∧ tag <
      2 ^ 16 ∧ s.edgeStatus c o kind due rate = 0 ∧ (s.allocClass kind o).isSome = true ∧ s.freeIndex.isSome = true ∧ s.dmaRuns c = true) ∧
    (∃ (s : State) (c : Nat) (tag : Nat) (o : Nat) (kind : Nat) (due : Time) (rate : Nat), s.pw.coreUp = true ∧ s.mayTake c = true ∧ tag <
      2 ^ 16 ∧ s.edgeStatus c o kind due rate ≠ 0 ∧ s.dmaRuns c = true) ∧
    (∃ (s : State) (c : Nat) (tag : Nat) (o : Nat) (kind : Nat) (due : Time) (rate : Nat), s.pw.coreUp = true ∧ s.mayTake c = true ∧ tag <
      2 ^ 16 ∧ o < s.variant.outlets ∧ kind ≤ 2 ∧ rate < 2 ^ 20 ∧ s.inhibitor c = false ∧ s.quietPending = false ∧ s.owns c o = false ∧
      s.dmaRuns c = true) ∧
    (∃ (s : State) (c : Nat) (tag : Nat) (first : Nat) (count : Nat), s.pw.coreUp = true ∧ s.mayTake c = true ∧ tag < 2 ^ 16 ∧ 1 ≤ count ∧
      first + count ≤ s.variant.outlets ∧ (s.supervisor c = true ∨ s.inhibitor c = true) ∧ s.grouped c Reg.CTX_INH_GROUPS first count =
      true ∧ s.dmaRuns c = true) ∧
    (∃ (s : State) (c : Nat) (tag : Nat) (first : Nat) (count : Nat), s.pw.coreUp = true ∧ s.mayTake c = true ∧ tag < 2 ^ 16 ∧ 1 ≤ count ∧
      first + count ≤ s.variant.outlets ∧ (s.supervisor c = true ∨ s.inhibitor c = true) ∧ s.grouped c Reg.CTX_INH_GROUPS first count =
      true ∧ s.dmaRuns c = true) ∧
    (∃ (s : State) (c : Nat) (tag : Nat) (first : Nat) (count : Nat), s.pw.coreUp = true ∧ s.mayTake c = true ∧ tag < 2 ^ 16 ∧ 1 ≤ count ∧
      first + count ≤ s.variant.outlets ∧ s.supervisor c = false ∧ s.inhibitor c = false ∧ s.dmaRuns c = true) ∧
    (∃ (s : State) (c : Nat) (tag : Nat) (first : Nat) (count : Nat) (since : Time), s.pw.coreUp = true ∧ s.mayTake c = true ∧ tag < 2 ^
      16 ∧ 1 ≤ count ∧ first + count ≤ s.variant.outlets ∧ s.supervisor c = true ∧ s.dmaRuns c = true) ∧
    (∃ (s : State) (c : Nat) (tag : Nat) (first : Nat) (count : Nat), s.pw.coreUp = true ∧ s.mayTake c = true ∧ tag < 2 ^ 16 ∧ 1 ≤ count ∧
      first + count ≤ s.variant.outlets ∧ s.supervisor c = true ∧ s.dmaRuns c = true) :=
  ⟨⟨{ holding [(Reg.CTX_CFG_BOUND 12, 1), (Reg.CW_RING_EN 12, 1), (Reg.CW_SQ_TAIL_INDEX 12, 1), (Reg.OWN_OWNED 1023, 1), (Reg.OWN_OWNER 1023, 12), (Reg.OWN_MODE 1023, 3), (Reg.OT_STATE_PLANNABLE 1023, 1)] with tb := { horizon := 4000 } }, 12, 2, 1023, 1, 16000000, 5, by decide +kernel⟩,
    ⟨{ regs := [(24, 1), (32, 27), (0x5b1000, 0x1b6)] }, 0, 2, 2, 2, 0x1f671d9aef, 0x17f0cca, by decide +kernel⟩,
    ⟨{ regs := [(24, 1), (32, 84), (0x5b1000, 0x1bf)] }, 0, 64, 13, 2, 0xa168f1a768, 102, by decide +kernel⟩,
    ⟨{ regs := [(24, 1), (32, 195), (0x5b1000, 0x1b3)] }, 0, 0x8639, 0x2bc, 56, by decide +kernel⟩,
    ⟨{ regs := [(24, 1), (32, 164), (0x5b1000, 0x1be)] }, 0, 1, 2, 25, by decide +kernel⟩,
    ⟨{ regs := [(0x1018, 1), (0x1020, 178), (0x5b1020, 0x1be)] }, 1, 0x26d, 0, 22, by decide +kernel⟩,
    ⟨{ regs := [(24, 1), (32, 182), (0x5b1000, 0x1be)] }, 0, 0, 1, 63, 0x7ca8180be, by decide +kernel⟩,
    ⟨{ regs := [(24, 1), (32, 126), (0x5b1000, 0x1b9)] }, 0, 3, 6, 53, by decide +kernel⟩⟩

/-- The hypotheses of each clause of `Obligations.HostPorts` are met together. -/
theorem witness_HostPorts :
    (∃ (s : State) (p : Nat), s.pw.coreUp = true ∧ p < 4 ∧ (s.supervisor (s.directCtx p) = true ∨ s.on (Reg.CTX_PERM_HALT (s.directCtx p))
      = true)) ∧
    (∃ (s : State) (p : Nat) (c : Nat), s.pw.coreUp = true ∧ p < 4 ∧ c < s.variant.contexts ∧ s.on (Reg.CTX_CFG_BOUND c) = true ∧
      (s.supervisor c = true ∨ s.on (Reg.CTX_PERM_HALT c) = true)) ∧
    (∃ (s : State) (p : Nat) (v : Word), s.pw.coreUp = true ∧ p < 4 ∧ v ≠ 20903) ∧
    (∃ (s : State) (p : Nat) (c : Nat) (v : Word), s.pw.coreUp = true ∧ s.on (Reg.CTX_CFG_BOUND c) = false) ∧
    (∃ (s : State) (p : Nat), s.pw.coreUp = true ∧ p < 2) ∧
    (∃ (s : State) (p : Nat) (d : Bool), s.pw.coreUp = true ∧ 2 ≤ p) ∧
    (∃ (s : State) (c : Nat) (w : Option Word), s.pw.coreUp = true ∧ s.fld Reg.RES_STATE_STATE ≠ 3 ∧ c < s.variant.contexts ∧ s.on
      (Reg.CTX_CFG_BOUND c) = true ∧ s.pw.brown = false ∧ 16777216 ≤ s.fld (Reg.CW_RADDR_OFFSET c) ∧ s.fld (Reg.CW_RADDR_OFFSET c) <
      16777216 + 25165824 ∧ s.fld (Reg.CW_RADDR_OFFSET c) % 4 = 0 ∧ absent s.variant (s.fld (Reg.CW_RADDR_OFFSET c)) = false) ∧
    (∃ (s : State) (c : Nat) (w : Option Word), s.pw.coreUp = true ∧ s.fld Reg.RES_STATE_STATE ≠ 3 ∧ c < s.variant.contexts ∧ s.on
      (Reg.CTX_CFG_BOUND c) = true ∧ s.pw.brown = false ∧ s.fld (Reg.CW_RADDR_OFFSET c) % 4 = 0 ∧ absent s.variant (s.fld
      (Reg.CW_RADDR_OFFSET c)) = true) ∧
    (∃ (s : State) (p : Nat) (off : Nat) (ws : List Word), s.pw.coreUp = true ∧ (2 ≤ p ∧ p < 4) ∧ off % 4 = 0 ∧ off + 4 * ws.length ≤
      524288) ∧
    (∃ (s : State) (p : Nat) (off : Nat) (n : Nat), s.pw.coreUp = true ∧ (2 ≤ p ∧ p < 4) ∧ off % 4 = 0 ∧ off + 4 * n ≤ 524288) ∧
    (∃ (s : State) (p : Nat) (a : Nat) (cut : Bool) (ws : List Word), s.pw.coreUp = true ∧ (2 ≤ p ∧ p < 4) ∧ a < 2 ^ 32 ∧ (2 ^ 31 ≤ a ∨
      cut = true ∧ 2 ^ 30 ≤ a)) ∧
    (∃ (s : State) (p : Nat), s.pw.coreUp = true ∧ 2 ≤ p ∧ p < 4) :=
  ⟨⟨{  }, 2, by decide +kernel⟩,
    ⟨{ regs := [(0x5b1060, 0x1b2), (0x5b1064, 0x120)] }, 2, 3, by decide +kernel⟩,
    ⟨{  }, 2, 0x9408e0d, by decide +kernel⟩,
    ⟨{  }, 3, 2, 0x77a231b1, by decide +kernel⟩,
    ⟨{  }, 1, by decide +kernel⟩,
    ⟨{  }, 2, true, by decide +kernel⟩,
    ⟨{ regs := [(52, 0x2253a0c), (0x5b1000, 0x1be)] }, 0, (some 0x6a887439), by decide +kernel⟩,
    ⟨{ variant := (Sys2Proof.Machine.Variant.l1024), regs := [(0xe034, 0x448b20), (0x5b11c0, 0x1bd)] }, 14, none, by decide +kernel⟩,
    ⟨{  }, 2, 0, [3, 0x9ffe86e8, 39], by decide +kernel⟩,
    ⟨{  }, 3, 4, 44, by decide +kernel⟩,
    ⟨{  }, 2, 0x9e47583b, true, [218, 0xc25a7aee, 0x483568ca], by decide +kernel⟩,
    ⟨{  }, 2, by decide +kernel⟩⟩

/-- The hypotheses of each clause of `Obligations.ImageStaging` are met together. -/
theorem witness_ImageStaging :
    (∃ (s : State) (p : Nat) (ofs : Nat) (bs : List Byte), s.pw.coreUp = true ∧ s.Serves p ∧ (s.stage = stEmpty ∨ s.stage = stRefused) ∧
      ofs + bs.length ≤ 1572864) ∧
    (∃ (s : State) (p : Nat) (ofs : Nat) (bs : List Byte), s.pw.coreUp = true ∧ s.Serves p ∧ s.stage ≠ stEmpty ∧ s.stage ≠ stRefused ∧ ofs
      + bs.length ≤ 1572864) ∧
    (∃ (s : State) (p : Nat), s.pw.coreUp = true ∧ s.Serves p ∧ s.stage ≠ stPending ∧ s.stage ≠ stVerifying ∧ s.im.loading = none) ∧
    (∃ (s : State) (p : Nat), s.pw.coreUp = true ∧ s.Serves p ∧ s.stage = stPending) ∧
    (∃ (s : State), s.pw.coreUp = true ∧ s.stage = stVerifying ∧ s.im.staged.isSome = true) ∧
    (∃ (s : State), s.pw.coreUp = true ∧ s.stage = stVerifying ∧ s.im.staged = none) ∧
    (∃ (s : State) (p : Nat), s.pw.coreUp = true ∧ s.Serves p ∧ s.stage ≠ stPending) ∧
    (∃ (s : State) (p : Nat), s.pw.coreUp = true ∧ s.Serves p ∧ s.stage = stPending) ∧
    (∃ (s : State) (p : Nat) (k : Nat) (trial : Bool), s.pw.coreUp = true ∧ s.Serves p ∧ k < 2 ∧ s.on Reg.IMG_STATUS_BUSY = false ∧
      s.im.active.isSome = true ∧ s.im.staged.isSome = true ∧ (s.bootSlot (1 - k)).valid = true) ∧
    (∃ (s : State) (p : Nat) (k : Nat) (trial : Bool), s.pw.coreUp = true ∧ s.Serves p ∧ k < 2 ∧ (s.bootSlot k).valid = true ∧ (s.bootSlot
      (1 - k)).valid = false) ∧
    (∃ (s : State), s.pw.coreUp = true ∧ s.im.saving.isSome = true ∧ (s.im.saving.getD (0, [], false)).fst < 2) ∧
    (∃ (s : State), s.pw.coreUp = true ∧ s.im.saving.isSome = true) ∧
    (∃ (s : State) (p : Nat) (k : Nat), s.pw.coreUp = true ∧ s.Serves p ∧ k < 2 ∧ s.on Reg.IMG_STATUS_BUSY = false ∧ s.stage ≠ stVerifying
      ∧ s.stage ≠ stPending ∧ (s.bootSlot k).valid = true) ∧
    (∃ (s : State), s.pw.coreUp = true ∧ s.im.loading.isSome = true) :=
  ⟨⟨{  }, 2, 64, [255, 54], by simp only [State.Serves]; decide +kernel⟩,
    ⟨{ regs := [(0x401004, 1)] }, 2, 2, [88, 62, 93], by simp only [State.Serves]; decide +kernel⟩,
    ⟨{  }, 2, by simp only [State.Serves]; decide +kernel⟩,
    ⟨{ regs := [(0x401004, 148)] }, 3, by simp only [State.Serves]; decide +kernel⟩,
    ⟨{ regs := [(0x401004, 145)], im := { staged := (some {  }) } }, by decide +kernel⟩,
    ⟨{ regs := [(0x401004, 0x111)] }, by decide +kernel⟩,
    ⟨{  }, 0, by simp only [State.Serves]; decide +kernel⟩,
    ⟨{ regs := [(0x401004, 212)] }, 1, by simp only [State.Serves]; decide +kernel⟩,
    ⟨{ im := { staged := (some {  }), active := (some {  }), slots := [(1, { valid := true })] } }, 2, 0, true, by simp only [State.Serves]; decide +kernel⟩,
    ⟨{ im := { slots := [(0, { valid := true })] } }, 3, 0, true, by simp only [State.Serves]; decide +kernel⟩,
    ⟨{ im := { saving := (some (0, ([], false))) } }, by decide +kernel⟩,
    ⟨{ im := { saving := (some (0, ([], false))) } }, by decide +kernel⟩,
    ⟨{ im := { slots := [(0, { valid := true })] } }, 1, 0, by simp only [State.Serves]; decide +kernel⟩,
    ⟨{ im := { loading := (some 0) } }, by decide +kernel⟩⟩

/-- The hypotheses of each clause of `Obligations.ImageKeys` are met together. -/
theorem witness_ImageKeys :
    (∃ (s : State) (p : Nat), s.Serves p ∧ (s.fld Reg.IMG_STATUS_BOOTED_FROM = 1 ∨ s.fld Reg.IMG_STATUS_BOOTED_FROM = 2)) ∧
    (∃ (s : State) (p : Nat), s.Serves p ∧ s.im.active.isSome = true) ∧
    (∃ (s : State) (p : Nat), s.Serves p ∧ s.im.active = none) ∧
    (∃ (s : State) (p : Nat) (k : Nat), s.Serves p ∧ k < 4 ∧ s.key k = none) ∧
    (∃ (s : State) (p : Nat) (k : Nat), s.Serves p ∧ k < 4 ∧ (s.key k).isSome = true) ∧
    (∃ (s : State) (p : Nat) (k : Nat) (j : Nat), s.Serves p ∧ k < 4 ∧ j < 4 ∧ j ≠ k ∧ (s.key k).isSome = true ∧ Option.any (fun (x :
      KeySlot) => !x.revoked && !x.bad) (s.key j) = true) ∧
    (∃ (s : State) (p : Nat) (k : Nat), s.Serves p ∧ k < 4 ∧ ∀ (j : Nat), j < 4 → j ≠ k → Option.any (fun (x : KeySlot) => !x.revoked &&
      !x.bad) (s.key j) = false) :=
  ⟨⟨{ regs := [(0x401004, 193)] }, 2, by simp only [State.Serves]; decide +kernel⟩,
    ⟨{ im := { active := (some {  }) } }, 1, by simp only [State.Serves]; decide +kernel⟩,
    ⟨{  }, 2, by simp only [State.Serves]; decide +kernel⟩,
    ⟨{  }, 3, 2, by simp only [State.Serves]; decide +kernel⟩,
    ⟨{ im := { keys := [(0, (some { digest := 0 }))] } }, 2, 0, by simp only [State.Serves]; decide +kernel⟩,
    ⟨{ im := { keys := [(1, (some { digest := 0 })), (2, (some { digest := 0 }))] } }, 1, 2, 1, by simp only [State.Serves]; decide +kernel⟩,
    ⟨{  }, 1, 0, by simp only [State.Serves]; decide +kernel⟩⟩

/-- The hypotheses of each clause of `Obligations.ImageCommits` are met together. -/
theorem witness_ImageCommits :
    (∃ (s : State) (p : Nat) (v : Word), s.Serves p ∧ (s.stage ≠ stVerified ∨ v ≠ s.reg 4198416)) ∧
    (∃ (s : State) (p : Nat), s.Serves p ∧ s.stage = stVerified ∧ s.im.staged.isSome = true ∧ s.im.active.isSome = true ∧ liveDiff
      (BitVec.toNat (s.reg 4198436)) = true) ∧
    (∃ (s : State) (p : Nat), s.Serves p ∧ s.stage = stVerified ∧ s.im.staged.isSome = true ∧ s.im.active.isSome = true ∧ liveDiff
      (BitVec.toNat (s.reg 4198436)) = false ∧ s.quiet = true) ∧
    (∃ (s : State) (p : Nat), s.Serves p ∧ s.stage = stVerified ∧ s.im.staged.isSome = true ∧ s.im.active.isSome = true ∧ liveDiff
      (BitVec.toNat (s.reg 4198436)) = false ∧ s.quiet = false) ∧
    (∃ (s : State) (p : Nat), s.Serves p ∧ s.stage = stVerified ∧ s.im.staged.isSome = true ∧ s.im.active = none) ∧
    (∃ (s : State), s.pw.coreUp = true ∧ s.stage = stPending ∧ s.inTakeover = false) ∧
    (∃ (s : State), s.pw.coreUp = true ∧ s.stage = stPending ∧ s.im.staged.isSome = true ∧ s.pw.sleepBy = none) ∧
    (∃ (s : State), s.stage ≠ stPending ∧ s.pw.sleepBy = none) :=
  ⟨⟨{  }, 2, 1, by simp only [State.Serves]; decide +kernel⟩,
    ⟨{ regs := [(0x401004, 34)], im := { staged := (some {  }), active := (some {  }) } }, 3, by simp only [State.Serves]; decide +kernel⟩,
    ⟨{ regs := [(0x401004, 2), (0x401024, 32), (0x40c000, 0)], im := { staged := (some {  }), active := (some {  }) } }, 3, by simp only [State.Serves]; decide +kernel⟩,
    ⟨{ regs := [(0x401004, 0x132), (0x401024, 0x12a)], im := { staged := (some {  }), active := (some {  }) } }, 0, by simp only [State.Serves]; decide +kernel⟩,
    ⟨{ regs := [(0x401004, 146)], im := { staged := (some {  }) } }, 2, by simp only [State.Serves]; decide +kernel⟩,
    ⟨{ regs := [(0x401004, 0x114)] }, by decide +kernel⟩,
    ⟨{ regs := [(0x401004, 132)], im := { staged := (some {  }) } }, by decide +kernel⟩,
    ⟨{  }, by decide +kernel⟩⟩

/-- The hypotheses of each clause of `Obligations.StartUp` are met together. -/
theorem witness_StartUp :
    (∃ (s : State), True) ∧
    (∃ (s : State) (a : Bool) (b : Bool), s.pw.coreUp = false ∧ s.pw.asleep = false ∧ s.pw.brown = false ∧ s.pw.stuck = false) ∧
    (∃ (s : State) (a : Bool) (b : Bool), s.pw.coreUp = false ∧ s.pw.asleep = false ∧ s.pw.brown = false ∧ s.pw.stuck = false) ∧
    (∃ (s : State) (a : Bool) (b : Bool), s.pw.coreUp = true ∨ s.pw.asleep = true ∨ s.pw.brown = true ∨ s.pw.stuck = true) ∧
    (∃ (s : State), s.pw.coreUp = true ∧ s.pw.asleep = false) ∧
    (∃ (s : State) (k : Nat), k < 65536 ∧ s.pw.coreUp = true ∧ s.pw.asleep = false) ∧
    (∃ (s : State), s.pw.asleep = true) ∧
    (∃ (s : State), s.pw.coreUp = false ∧ s.pw.asleep = false ∧ s.pw.stuck = true) ∧
    (∃ (s : State), s.pw.coreUp = true ∧ s.pw.brown = false ∧ s.on Reg.PWR_STATUS_READY = false ∧ s.rc.queue.length + s.rc.deferred.length
      < 64) ∧
    (∃ (s : State) (pg : Nat), pg < 8 ∧ s.pw.coreUp = false ∧ s.pw.asleep = false ∧ s.pw.brown = false ∧ s.pw.stuck = false) ∧
    (∃ (s : State) (pg : Nat), pg < 8 ∧ s.pw.coreUp = true) :=
  ⟨⟨{  }, by decide +kernel⟩,
    ⟨{ pw := { coreUp := false } }, true, false, by decide +kernel⟩,
    ⟨{ pw := { coreUp := false } }, true, false, by decide +kernel⟩,
    ⟨{  }, true, false, by decide +kernel⟩,
    ⟨{  }, by decide +kernel⟩,
    ⟨{  }, 0, by decide +kernel⟩,
    ⟨{ pw := { asleep := true } }, by decide +kernel⟩,
    ⟨{ pw := { coreUp := false, stuck := true } }, by decide +kernel⟩,
    ⟨{  }, by decide +kernel⟩,
    ⟨{ pw := { coreUp := false } }, 0, by decide +kernel⟩,
    ⟨{  }, 0, by decide +kernel⟩⟩

/-- The hypotheses of each clause of `Obligations.BrownOuts` are met together. -/
theorem witness_BrownOuts :
    (∃ (s : State), s.pw.coreUp = true ∧ s.pw.brown = false) ∧
    (∃ (s : State), s.pw.coreUp = true ∧ s.pw.brown = false ∧ s.pw.saving = none ∧ s.im.active.isSome = true ∧ s.fld Reg.RES_STATE_STATE ≠
      3) ∧
    (∃ (s : State), s.pw.coreUp = true ∧ s.pw.brown = false ∧ s.pw.saving = none ∧ (s.im.active = none ∨ s.fld Reg.RES_STATE_STATE = 3)) ∧
    (∃ (s : State) (held : Bool) (b : Nat), s.pw.brown = true ∧ s.pw.coreUp = true ∧ b < 2 ∧ s.pw.saving = some (b, 1)) ∧
    (∃ (s : State) (held : Bool), s.pw.brown = true ∧ s.pw.coreUp = true ∧ s.pw.saving = none) ∧
    (∃ (s : State), s.pw.brown = true ∧ s.pw.coreUp = false) ∧
    (∃ (s : State) (b : Nat) (c : Nat), s.pw.brown = true ∧ s.pw.coreUp = true ∧ s.pw.saving = some (b, c) ∧ b < 2) ∧
    (∃ (s : State), True) ∧
    (∃ (s : State) (a : Bool) (b : Bool), s.pw.coreUp = false ∧ s.pw.asleep = false ∧ s.pw.brown = false ∧ s.pw.stuck = false) ∧
    (∃ (s : State), s.pw.coreUp = true ∧ s.pw.asleep = false) ∧
    (∃ (s : State), s.pw.coreUp = true ∧ s.on Reg.PWR_STATUS_READY = false) ∧
    (∃ (s : State) (pg : Nat), s.pw.coreUp = false ∧ s.pw.asleep = false ∧ s.pw.brown = false ∧ s.pw.stuck = false) ∧
    (∃ (s : State) (pg : Nat), s.pw.coreUp = true) :=
  ⟨⟨{  }, by decide +kernel⟩,
    ⟨{ im := { active := (some {  }) } }, by decide +kernel⟩,
    ⟨{  }, by decide +kernel⟩,
    ⟨{ pw := { brown := true, saving := (some (1, 1)) } }, false, 1, by decide +kernel⟩,
    ⟨{ pw := { brown := true } }, true, by decide +kernel⟩,
    ⟨{ pw := { coreUp := false, brown := true } }, by decide +kernel⟩,
    ⟨{ pw := { brown := true, saving := (some (0, 33)) } }, 0, 33, by decide +kernel⟩,
    ⟨{  }, by decide +kernel⟩,
    ⟨{ pw := { coreUp := false } }, false, true, by decide +kernel⟩,
    ⟨{  }, by decide +kernel⟩,
    ⟨{  }, by decide +kernel⟩,
    ⟨{ pw := { coreUp := false } }, 0, by decide +kernel⟩,
    ⟨{  }, 1, by decide +kernel⟩⟩

/-- The hypotheses of each clause of `Obligations.SleepAndBanks` are met together. -/
theorem witness_SleepAndBanks :
    (∃ (s : State) (p : Nat), s.Serves p ∧ (s.inFlight ≠ 0 ∨ s.im.saving.isSome = true ∨ ((List.range s.variant.outlets).any fun (o : Nat)
      => s.on (Reg.OT_STATE_SEALED_OPEN o)) = true)) ∧
    (∃ (s : State) (p : Nat), s.Serves p ∧ s.inFlight = 0 ∧ s.im.saving = none ∧ ((List.range s.variant.outlets).any fun (o : Nat) => s.on
      (Reg.OT_STATE_SEALED_OPEN o)) = false ∧ s.pw.sleepBy = none ∧ s.pw.brown = false ∧ (s.stage = stPending ∨ s.on Reg.CV_STATUS_ERASING
      = true)) ∧
    (∃ (s : State) (p : Nat), s.Serves p ∧ s.inFlight = 0 ∧ s.im.saving = none ∧ ((List.range s.variant.outlets).any fun (o : Nat) => s.on
      (Reg.OT_STATE_SEALED_OPEN o)) = false ∧ s.pw.sleepBy = none ∧ s.pw.brown = false ∧ s.stage ≠ stPending ∧ s.on Reg.CV_STATUS_ERASING
      = false ∧ s.pw.saving = none) ∧
    (∃ (s : State) (p : Nat), s.Serves p ∧ s.pw.saving = none) ∧
    (∃ (s : State) (p : Nat), s.Serves p ∧ s.pw.saving.isSome = true) ∧
    (∃ (s : State) (b : Nat), s.pw.coreUp = true ∧ b < 2 ∧ s.pw.saving = some (b, 3) ∧ s.pw.sleepBy = none) ∧
    (∃ (s : State) (b : Nat), s.pw.coreUp = true ∧ b < 2 ∧ s.pw.saving = some (b, 2) ∧ (s.stage = stPending ∨ s.on Reg.CV_STATUS_ERASING =
      true)) ∧
    (∃ (s : State) (b : Nat), s.pw.coreUp = true ∧ b < 2 ∧ s.pw.saving = some (b, 2) ∧ s.stage ≠ stPending ∧ s.on Reg.CV_STATUS_ERASING =
      false) ∧
    (∃ (s : State) (src : Nat) (port : Nat), s.pw.asleep = true ∧ (src = 1 ∧ s.on Reg.PWR_WAKE_BUS_EN = true ∨ src = 2 ∧ s.on
      Reg.PWR_WAKE_FIN_EN = true ∨ src = 3 ∧ s.on Reg.PWR_WAKE_RTC_EN = true ∧ s.pw.alarm.isSome = true) ∧ port < 6) ∧
    (∃ (s : State) (src : Nat) (port : Nat), s.pw.asleep = false ∨ src = 0 ∨ 3 < src ∨ src = 1 ∧ s.on Reg.PWR_WAKE_BUS_EN = false ∨ src =
      2 ∧ s.on Reg.PWR_WAKE_FIN_EN = false ∨ src = 3 ∧ s.on Reg.PWR_WAKE_RTC_EN = false) ∧
    (∃ (s : State), s.pw.coreUp = true ∧ (Option.map (fun (x : LdArea) => x.recs) s.pw.ld).getD [] ≠ s.ldTable) ∧
    (∃ (s : State), s.pw.coreUp = true ∧ (Option.map (fun (x : LdArea) => x.recs) s.pw.ld).getD [] = s.ldTable) ∧
    (∃ (s : State), s.pw.coreUp = true ∧ s.on Reg.TB_STATUS_CAL_VALID = true) ∧
    (∃ (s : State), s.pw.coreUp = true ∧ s.on Reg.TB_STATUS_CAL_VALID = false) ∧
    (∃ (s : State) (p : Nat), s.Serves p) :=
  ⟨⟨{ im := { saving := (some (0, ([], false))) } }, 2, by simp only [State.Serves]; decide +kernel⟩,
    ⟨{ regs := [(0x401004, 4)] }, 2, by simp only [State.Serves]; decide +kernel⟩,
    ⟨{  }, 2, by simp only [State.Serves]; decide +kernel⟩,
    ⟨{  }, 3, by simp only [State.Serves]; decide +kernel⟩,
    ⟨{ pw := { saving := (some (0, 0)) } }, 3, by simp only [State.Serves]; decide +kernel⟩,
    ⟨{ pw := { saving := (some (0, 3)) } }, 0, by decide +kernel⟩,
    ⟨{ regs := [(0x5e0004, 0x40000)], pw := { saving := (some (0, 2)) } }, 0, by decide +kernel⟩,
    ⟨{ pw := { saving := (some (0, 2)) } }, 0, by decide +kernel⟩,
    ⟨{ pw := { asleep := true } }, 1, 2, by decide +kernel⟩,
    ⟨{  }, 64, 0x53ff7f82, by decide +kernel⟩,
    ⟨{ regs := [(0x470100, 0x2cf6d1)] }, by decide +kernel⟩,
    ⟨{  }, by decide +kernel⟩,
    ⟨{ regs := [(0x410000, 0x401)] }, by decide +kernel⟩,
    ⟨{  }, by decide +kernel⟩,
    ⟨{  }, 0, by simp only [State.Serves]; decide +kernel⟩⟩

/-- The hypotheses of each clause of `Obligations.CanvasWriter` are met together. -/
theorem witness_CanvasWriter :
    (∃ (s : State), s.pw.coreUp = true ∧ s.rc.queue ≠ [] ∧ s.on Reg.CV_STATUS_ERASING = false ∧ s.on Reg.CV_STATUS_FULL = false ∧
      s.rc.canvas.length < 65534) ∧
    (∃ (s : State), s.pw.coreUp = true ∧ s.rc.queue ≠ [] ∧ s.on Reg.CV_STATUS_ERASING = false ∧ s.on Reg.CV_STATUS_FULL = false ∧
      s.rc.canvas.length = 65534) ∧
    (∃ (s : State), s.pw.coreUp = true ∧ s.rc.queue ≠ [] ∧ s.on Reg.CV_STATUS_ERASING = false ∧ s.on Reg.CV_STATUS_FULL = true ∧
      s.rc.canvas.length = 65536) ∧
    (∃ (s : State), s.pw.coreUp = true ∧ (s.on Reg.CV_STATUS_ERASING = true ∨ s.rc.queue = [])) ∧
    (∃ (s : State), s.pw.coreUp = true ∧ s.on Reg.CV_STATUS_FULL = true ∧ s.rc.canvas.length = 65536 ∧ s.fld Reg.CV_DROPPED_DROPPED ≠
      s.rc.dropped) ∧
    (∃ (s : State), s.pw.coreUp = true ∧ (s.on Reg.CV_STATUS_FULL = false ∨ s.fld Reg.CV_DROPPED_DROPPED = s.rc.dropped)) ∧
    (∃ (s : State) (p : Nat), s.pw.coreUp = true ∧ s.Serves p ∧ s.on Reg.CV_STATUS_ERASING = false) ∧
    (∃ (s : State) (p : Nat) (v : Word), s.pw.coreUp = true ∧ s.Serves p ∧ (v ≠ 59301 ∨ s.on Reg.CV_STATUS_ERASING = true)) ∧
    (∃ (s : State), s.pw.coreUp = true ∧ s.on Reg.CV_STATUS_ERASING = true) :=
  ⟨⟨{ tb := { period := 0 }, rc := { queue := [{ kind := 5, source := 1, flags := 0, cal := 0, frac := 0, ft := 0, imageVer := 0, data := [] }] } }, by decide +kernel⟩,
    ⟨{ rc := { canvas := List.replicate 65534 ⟨0, 0, 0, 0, 0, 0, 0, []⟩, queue := [⟨0, 0, 0, 0, 0, 0, 0, []⟩] } }, ⟨by decide +kernel, by simp, by decide +kernel, by decide +kernel, List.length_replicate⟩⟩,
    ⟨{ holding [(Reg.CV_STATUS_FULL, 1)] with rc := { canvas := List.replicate 65536 ⟨0, 0, 0, 0, 0, 0, 0, []⟩, queue := [⟨0, 0, 0, 0, 0, 0, 0, []⟩] } }, ⟨by decide +kernel, by simp, by decide +kernel, by decide +kernel, List.length_replicate⟩⟩,
    ⟨{  }, by decide +kernel⟩,
    ⟨{ holding [(Reg.CV_STATUS_FULL, 1), (Reg.CV_DROPPED_DROPPED, 4)] with rc := { canvas := List.replicate 65536 ⟨0, 0, 0, 0, 0, 0, 0, []⟩, dropped := 3 } }, ⟨by decide +kernel, by decide +kernel, List.length_replicate, by decide +kernel⟩⟩,
    ⟨{ tb := { period := 0 } }, by decide +kernel⟩,
    ⟨{ tb := { period := 0 } }, 0, by simp only [State.Serves]; decide +kernel⟩,
    ⟨{ tb := { period := 0 } }, 1, 1, by simp only [State.Serves]; decide +kernel⟩,
    ⟨{ regs := [(0x5e0004, 0x60000)] }, by decide +kernel⟩⟩

/-- The hypotheses of each clause of `Obligations.TagAreaAndCounterControl` are met together. -/
theorem witness_TagAreaAndCounterControl :
    (∃ (s : State) (p : Nat), s.Serves p) ∧
    (∃ (s : State) (p : Nat) (v : Word), s.Serves p ∧ s.fld Reg.TAG_WCOUNT_COUNT < 4294967295) ∧
    (∃ (s : State) (p : Nat) (v : Word) (j : Nat), s.Serves p ∧ s.fld Reg.TAG_WCOUNT_COUNT < 4294967295 ∧ j ≠ s.fld Reg.TAG_IDX_WORD) ∧
    (∃ (s : State) (p : Nat) (v : Word), s.Serves p ∧ s.fld Reg.TAG_WCOUNT_COUNT = 4294967295) ∧
    (∃ (s : State) (p : Nat) (v : Word) (k : Nat), s.Serves p ∧ bit (BitVec.toNat v) 1 = false ∧ k < 64) ∧
    (∃ (s : State) (p : Nat) (v : Word) (k : Nat), s.Serves p ∧ bit (BitVec.toNat v) 1 = true ∧ k < 64) ∧
    (∃ (s : State) (p : Nat) (k : Nat), s.Serves p ∧ k < 64) ∧
    (∃ (s : State) (p : Nat) (v : Word), s.Serves p ∧ bit (BitVec.toNat v) 8 = true ∧ s.on Reg.SMP_CTRL_EN = false) ∧
    (∃ (s : State) (p : Nat) (v : Word), s.Serves p ∧ (bit (BitVec.toNat v) 8 = false ∨ s.on Reg.SMP_CTRL_EN = true)) :=
  ⟨⟨{  }, 2, by simp only [State.Serves]; decide +kernel⟩,
    ⟨{  }, 2, 0, by simp only [State.Serves]; decide +kernel⟩,
    ⟨{  }, 2, 0x9408e0d, 3, by simp only [State.Serves]; decide +kernel⟩,
    ⟨{ regs := [(0x5e0048, 0xffffffff)] }, 3, 0x817d8244, by simp only [State.Serves]; decide +kernel⟩,
    ⟨{  }, 2, 1, 54, by simp only [State.Serves]; decide +kernel⟩,
    ⟨{  }, 1, 0x33d7f126, 1, by simp only [State.Serves]; decide +kernel⟩,
    ⟨{  }, 2, 42, by simp only [State.Serves]; decide +kernel⟩,
    ⟨{  }, 0, 0x2878a1a5, by simp only [State.Serves]; decide +kernel⟩,
    ⟨{ regs := [(0x5e0600, 0x8f21)] }, 3, 0x1e2, by simp only [State.Serves]; decide +kernel⟩⟩

/-- The hypotheses of each clause of `Obligations.CountersCount` are met together. -/
theorem witness_CountersCount :
    (∃ (s : State) (ev : Nat) (n : Nat) (k : Nat), k < 64 ∧ s.on Reg.PMC_CTRL_RUN = true ∧ s.on (Reg.PMC_CFG_EN k) = true ∧ (k = 0 ∨ s.on
      (Reg.PMC_CFG_CHAIN k) = false) ∧ s.fld (Reg.PMC_CFG_EVENT k) = ev ∧ ev ≠ 0) ∧
    (∃ (s : State) (ev : Nat) (n : Nat) (k : Nat), k < 64 ∧ s.on Reg.PMC_CTRL_RUN = true ∧ s.on (Reg.PMC_CFG_EN k) = true ∧ (k = 0 ∨ s.on
      (Reg.PMC_CFG_CHAIN k) = false) ∧ s.fld (Reg.PMC_CFG_EVENT k) = ev ∧ ev ≠ 0 ∧ 2 ^ 40 ≤ counterValue s k + n) ∧
    (∃ (s : State) (ev : Nat) (n : Nat) (k : Nat), k < 64 ∧ (s.on Reg.PMC_CTRL_RUN = false ∨ s.on (Reg.PMC_CFG_EN k) = false)) ∧
    (∃ (s : State) (ev : Nat) (n : Nat) (k : Nat), k < 64 ∧ 0 < k ∧ s.on Reg.PMC_CTRL_RUN = true ∧ s.on (Reg.PMC_CFG_EN k) = true ∧ s.on
      (Reg.PMC_CFG_CHAIN k) = true ∧ s.on (Reg.PMC_CFG_EN (k - 1)) = true ∧ (k - 1 = 0 ∨ s.on (Reg.PMC_CFG_CHAIN (k - 1)) = false) ∧ s.fld
      (Reg.PMC_CFG_EVENT (k - 1)) = ev ∧ ev ≠ 0) :=
  ⟨⟨{ regs := [(0x5e0100, 1), (0x5e0200, 0x402)] }, 2, 47, 0, by decide +kernel⟩,
    ⟨{ regs := [(0x5e0100, 1), (0x5e0200, 0x403), (0x5e0204, 0xfffffffd), (0x5e0208, 255)] }, 3, 0x2b1, 0, by decide +kernel⟩,
    ⟨{  }, 33, 42, 3, by decide +kernel⟩,
    ⟨{ regs := [(0x5e0100, 1), (0x5e02e0, 0x41c), (0x5e02f0, 0xc02)] }, 28, 2, 15, by decide +kernel⟩⟩

/-- The hypotheses of each clause of `Obligations.RecordsOffered` are met together. -/
theorem witness_RecordsOffered :
    (∃ (s : State) (src : Nat) (kind : Nat) (data : List Byte), s.on Reg.MU_CTRL_FREEZE = false) ∧
    (∃ (s : State) (src : Nat) (kind : Nat) (data : List Byte), s.on Reg.MU_CTRL_FREEZE = false) ∧
    (∃ (s : State) (src : Nat) (kind : Nat) (data : List Byte), s.on Reg.MU_CTRL_FREEZE = true) ∧
    (∃ (s : State) (src : Nat) (kind : Nat) (data : List Byte), s.on Reg.MU_CTRL_FREEZE = true) ∧
    (∃ (s : State) (src : Nat) (kind : Nat) (data : List Byte), s.rc.queue.length < 64) ∧
    (∃ (s : State) (src : Nat) (kind : Nat) (data : List Byte), s.rc.queue.length < 64) ∧
    (∃ (s : State) (src : Nat) (kind : Nat) (data : List Byte), s.rc.queue.length < 64) ∧
    (∃ (s : State) (src : Nat) (kind : Nat) (data : List Byte), 64 ≤ s.rc.queue.length) ∧
    (∃ (s : State) (src : Nat) (kind : Nat) (data : List Byte), 64 ≤ s.rc.queue.length) ∧
    (∃ (s : State) (src : Nat) (kind : Nat) (data : List Byte), 64 ≤ s.rc.queue.length) :=
  ⟨⟨{  }, 0x17b6411, 0x598a91a2, [27, 0, 234], by decide +kernel⟩,
    ⟨{  }, 0, 2, [88, 62, 93], by decide +kernel⟩,
    ⟨{ regs := [(0x5e0024, 1)] }, 33, 0x1b96, [121, 198, 248], by decide +kernel⟩,
    ⟨{ regs := [(0x5e0024, 1)] }, 28, 2, [20], by decide +kernel⟩,
    ⟨{  }, 30, 0, [], by decide +kernel⟩,
    ⟨{  }, 0, 2, [103, 3, 11], by decide +kernel⟩,
    ⟨{  }, 2, 0, [], by decide +kernel⟩,
    ⟨{ rc := { queue := List.replicate 64 ⟨0, 0, 0, 0, 0, 0, 0, []⟩ } }, 7, 0x20, [1, 2], by decide +kernel⟩,
    ⟨{ rc := { queue := List.replicate 64 ⟨0, 0, 0, 0, 0, 0, 0, []⟩ } }, 7, 0x20, [1, 2], by decide +kernel⟩,
    ⟨{ rc := { queue := List.replicate 64 ⟨0, 0, 0, 0, 0, 0, 0, []⟩ } }, 7, 0x20, [1, 2], by decide +kernel⟩⟩

/-- The hypotheses of each clause of `Obligations.RegisterAccesses` are met together. -/
theorem witness_RegisterAccesses :
    (∃ (s : State) (p : Nat) (a : Nat) (v : Word), s.answersOn p = false ∨ s.served a = false) ∧
    (∃ (s : State) (p : Nat) (a : Nat) (v : Word), s.answersOn p = false ∨ s.served a = false) ∧
    (∃ (s : State) (p : Nat) (a : Nat) (v : Word), s.answersOn p = false ∨ s.served a = false) ∧
    (∃ (s : State) (p : Nat) (a : Nat) (v : Word), s.answersOn p = true ∧ s.served a = true ∧ a % 4 ≠ 0) ∧
    (∃ (s : State) (p : Nat) (a : Nat) (v : Word), s.answersOn p = true ∧ s.served a = true ∧ a % 4 ≠ 0) ∧
    (∃ (s : State) (p : Nat) (a : Nat) (v : Word), s.answersOn p = true ∧ s.served a = true ∧ a % 4 ≠ 0) ∧
    (∃ (s : State) (p : Nat) (a : Nat) (v : Word), s.answersOn p = true ∧ s.served (4 * a) = true ∧ absent s.variant (4 * a) = true) ∧
    (∃ (s : State) (p : Nat) (a : Nat) (v : Word), s.answersOn p = true ∧ s.served (4 * a) = true ∧ absent s.variant (4 * a) = true) ∧
    (∃ (s : State) (p : Nat) (a : Nat) (v : Word), s.answersOn p = true ∧ s.served (4 * a) = true ∧ absent s.variant (4 * a) = true) ∧
    (∃ (s : State) (p : Nat) (a : Nat) (v : Word), s.answersOn p = true ∧ s.served (4 * a) = true ∧ absent s.variant (4 * a) = false ∧
      4194304 ≤ 4 * a ∧ 4 * a < 16777216 ∧ (rowOf (4 * a)).isNone = true) ∧
    (∃ (s : State) (p : Nat) (a : Nat) (v : Word), s.answersOn p = true ∧ s.served (4 * a) = true ∧ absent s.variant (4 * a) = false ∧
      4194304 ≤ 4 * a ∧ 4 * a < 16777216 ∧ (rowOf (4 * a)).isNone = true) ∧
    (∃ (s : State) (p : Nat) (a : Nat) (v : Word), s.answersOn p = true ∧ s.served (4 * a) = true ∧ absent s.variant (4 * a) = false ∧
      4194304 ≤ 4 * a ∧ 4 * a < 16777216 ∧ (rowOf (4 * a)).isNone = true) ∧
    (∃ (s : State) (p : Nat) (a : Nat) (v : Word), s.answersOn p = true ∧ s.served (4 * a) = true ∧ absent s.variant (4 * a) = false ∧
      4194304 ≤ 4 * a ∧ 4 * a < 16777216 ∧ (rowOf (4 * a)).isSome = true ∧ 4 * a ≠ 5963840 ∧ s.mayWrite (s.directCtx p) (4 * a) = false) ∧
    (∃ (s : State) (p : Nat) (a : Nat), s.answersOn p = true ∧ s.served (4 * a) = true ∧ absent s.variant (4 * a) = false ∧ 4194304 ≤ 4 *
      a ∧ 4 * a < 16777216 ∧ (rowOf (4 * a)).isSome = true ∧ s.mayRead (s.directCtx p) (4 * a) = false) ∧
    (∃ (s : State) (p : Nat) (v : Word), s.Serves p) ∧
    (∃ (s : State) (p : Nat) (v : Word), s.Serves p) ∧
    (∃ (s : State) (p : Nat) (v : Word), s.Serves p) ∧
    (∃ (s : State) (p : Nat) (v : Word), s.Serves p ∧ BitVec.toNat v % 256 < 10) ∧
    (∃ (s : State) (p : Nat), s.Serves p) ∧
    (∃ (s : State) (p : Nat) (k : Nat), s.Serves p ∧ k < 64) ∧
    (∃ (s : State) (p : Nat) (k : Nat), s.Serves p ∧ k < 64 ∧ (sget (fun (x : Nat) => none) s.latch (6160904 + 16 * k)).isSome = true) :=
  ⟨⟨{ regs := [(0x5c0000, 0x1c3)] }, 2, 0x598a91a2, 0x255, by decide +kernel⟩,
    ⟨{ pw := { coreUp := false } }, 2, 2, 166, by decide +kernel⟩,
    ⟨{ regs := [(0x5c0000, 0x1c3)] }, 2, 0x1b96, 0x278, by decide +kernel⟩,
    ⟨{  }, 3, 2, 0x77a231b1, by decide +kernel⟩,
    ⟨{  }, 1, 3, 0xa442f960, by decide +kernel⟩,
    ⟨{  }, 0, 7, 0x1737f015, by decide +kernel⟩,
    ⟨{ variant := .f0512 }, 2, 0x14D000, 5, by decide +kernel⟩,
    ⟨{ variant := .f0512 }, 2, 0x14D000, 5, by decide +kernel⟩,
    ⟨{ variant := .f0512 }, 2, 0x14D000, 5, by decide +kernel⟩,
    ⟨{}, 2, 0x100040, 5, by decide +kernel⟩,
    ⟨{}, 2, 0x100040, 5, by decide +kernel⟩,
    ⟨{}, 2, 0x100040, 5, by decide +kernel⟩,
    ⟨holding [(Reg.HP_DIRECT_DIRECT_CTX 2, 5)], 2, 0x104001, 5, by decide +kernel⟩,
    ⟨holding [(Reg.HP_DIRECT_DIRECT_CTX 2, 5)], 2, 0x102600, by decide +kernel⟩,
    ⟨{  }, 0, 0x83eaa314, by simp only [State.Serves]; decide +kernel⟩,
    ⟨{  }, 0, 0, by simp only [State.Serves]; decide +kernel⟩,
    ⟨{  }, 2, 0x277, by simp only [State.Serves]; decide +kernel⟩,
    ⟨{  }, 1, 1, by simp only [State.Serves]; decide +kernel⟩,
    ⟨{  }, 0, by simp only [State.Serves]; decide +kernel⟩,
    ⟨{  }, 1, 3, by simp only [State.Serves]; decide +kernel⟩,
    ⟨{ latch := [(0x5e0228, (some 0))] }, 2, 2, by simp only [State.Serves]; decide +kernel⟩⟩

/-- The hypotheses of each clause of `Obligations.AccessCodes` are met together. -/
theorem witness_AccessCodes :
    (∃ (r : RegRow) (old v i : Nat), i < 32 ∧ old < 2 ^ 32 ∧ v < 2 ^ 32 ∧ r.mask (fun c => c == .rw) < 2 ^ 32 ∧ r.mask (fun c => c ==
      .w1c) < 2 ^ 32 ∧ r.mask (fun c => c == .w1s) < 2 ^ 32 ∧ r.mask (fun c => c == .rw) &&& r.mask (fun c => c == .w1c) = 0 ∧ r.mask (fun
      c => c == .rw) &&& r.mask (fun c => c == .w1s) = 0 ∧ r.mask (fun c => c == .w1c) &&& r.mask (fun c => c == .w1s) = 0) ∧
    (∃ (a : Nat) (r : RegRow), rowOf a = some r) :=
  ⟨⟨⟨0, 4, 1, 4, 1, [⟨0, 1, .rw, 0⟩, ⟨1, 1, .w1c, 0⟩, ⟨31, 1, .w1s, 0⟩]⟩, 3, 0xFFFFFFFF, 31, by decide⟩,
    ⟨0x410050, (rowOf 0x410050).getD ⟨0, 0, 0, 0, 0, []⟩, by decide +kernel⟩⟩

/-- The hypotheses of the statements about steps, reset and the timebase are met. -/
theorem witness_StepRunsFront :
    (∃ (c : Instr) (rest : List Instr) (s : State), s.pending = c :: rest) ∧ (∃ s : State, s.pending = [] ∧ s.pw.coreUp = true ∧ s.ftCounts = true) ∧
    (∃ s : State, s.pending = [] ∧ s.ftCounts = false) ∧ (∃ s : State, s.tb.acc.natAbs < 1000000000) ∧ (∃ s : State, s.memWf = true) ∧
    (∃ (a : Nat) (r : RegRow), rowOf a = some r ∧ ¬(0x400000 ≤ a ∧ a < 0x40000C) ∧ ¬(0x5BA000 ≤ a ∧ a < 0x5BE000)) :=
  ⟨⟨.stopNLow, [.ready], { pending := [.stopNLow, .ready] }, rfl⟩, ⟨{ regs := [(0x410000, 1)] }, by decide +kernel⟩, ⟨{}, by decide +kernel⟩,
    ⟨{ tb := { acc := 999999999 } }, by decide +kernel⟩, ⟨{}, by decide +kernel⟩, ⟨0x410004, (rowOf 0x410004).getD ⟨0, 0, 0, 0, 0, []⟩, by decide +kernel⟩⟩

/-- The hypotheses of `Obligations.TileEviction` are met together. -/
theorem witness_TileEviction :
    ∃ (s : State) (p k : Nat), s.pw.coreUp = true ∧ s.Serves p ∧ k < s.variant.slots ∧ s.tileState k = 2 ∧ s.fld (Reg.TILE_DIRTY_BAND k) ≠ 0 :=
  ⟨holding [(Reg.TILE_CTRL_STATE 191, 2), (Reg.TILE_DIRTY_BAND 191, 1)], 2, 191, by simp only [State.Serves]; decide +kernel⟩

end Sys2Proof.Machine
end

/-! PROOFS. What a host write leaves by access codes (R7), bit by bit, and that no row of the map gives one bit two codes. -/

namespace Sys2Proof.Machine

theorem bit_eq_testBit (w i : Nat) : bit w i = w.testBit i := by
  rw [bit, Nat.testBit_eq_decide_div_mod_eq]

/-- Two masks that share no bit do not both hold bit `i`. -/
theorem testBit_and_eq_false {m n : Nat} (h : m &&& n = 0) (i : Nat) : (m.testBit i && n.testBit i) = false := by
  rw [← Nat.testBit_and, h, Nat.zero_testBit]

/-- A written bit, with no premise on the row's codes: the RW bits are replaced, then W1C ones cleared, then W1S ones set. -/
theorem RegRow.testBit_written (r : RegRow) (old v : Nat) {i : Nat} (hi : i < 32) :
    (r.written old v).testBit i =
      ((old.testBit i && !(r.mask (fun c => c == .rw)).testBit i || v.testBit i && (r.mask (fun c => c == .rw)).testBit i) &&
        !(v.testBit i && (r.mask (fun c => c == .w1c)).testBit i) || v.testBit i && (r.mask (fun c => c == .w1s)).testBit i) := by
  have ones : Nat.testBit 0xFFFFFFFF i = true := by
    simpa [hi] using Nat.testBit_two_pow_sub_one 32 i
  simp [RegRow.written, ones]

/-- The fields of a row stay within 32 bits, and its RW, W1C and W1S bits are apart (R7). -/
def RegRow.CodesApart (r : RegRow) : Prop :=
  r.mask (fun _ => true) < 2 ^ 32 ∧ r.mask (fun c => c == .rw) &&& r.mask (fun c => c == .w1c) = 0 ∧
    r.mask (fun c => c == .rw) &&& r.mask (fun c => c == .w1s) = 0 ∧ r.mask (fun c => c == .w1c) &&& r.mask (fun c => c == .w1s) = 0

theorem forall_mem_ite {α : Type} {P : α → Prop} {c : Prop} [Decidable c] {x y : List α} (hx : ∀ e ∈ x, P e) (hy : ∀ e ∈ y, P e) :
    ∀ e ∈ if c then x else y, P e := by
  split <;> assumption

/-- Block by block of Table 18.1. -/
theorem rowsAt_codesApart (a : Nat) : ∀ r ∈ rowsAt a, r.CodesApart := by
  unfold rowsAt RegRow.CodesApart
  iterate 20 refine forall_mem_ite (by decide +kernel) ?_
  exact fun _ h => nomatch h

theorem rowOf_codesApart {a : Nat} {r : RegRow} (h : rowOf a = some r) : r.CodesApart :=
  rowsAt_codesApart a r (List.mem_of_find?_eq_some h)

/-- Settles O58: a bit that one access code covers is written by that code alone, and every row of the map keeps its codes apart. -/
theorem accessCodes : Obligations.AccessCodes := by
  unfold Obligations.AccessCodes
  refine ⟨fun r old v i hi _ _ _ _ _ hrc hrs hcs => ?_, fun a r h => rowOf_codesApart h⟩
  have hrc := testBit_and_eq_false hrc i
  have hrs := testBit_and_eq_false hrs i
  have hcs := testBit_and_eq_false hcs i
  simp only [bit_eq_testBit, r.testBit_written old v hi]
  cases hrw : (r.mask (fun c => c == .rw)).testBit i
  case true => simp_all
  case false =>
    cases hc : (r.mask (fun c => c == .w1c)).testBit i
    case true => simp_all
    case false => cases hs : (r.mask (fun c => c == .w1s)).testBit i <;> simp

end Sys2Proof.Machine

/-! PROOFS. A supervisor's read of a register (R348, R443) answers what R11 has latched there, whichever register it is. -/

namespace Sys2Proof.Machine

/-! What LINK_UP of the port leaves alone. -/

theorem State.linkSeen_reg (s : State) (p : Nat) {a : Nat} (h : a ≠ 0x5B0000) : (s.linkSeen p).reg a = s.reg a :=
  s.reg_setFld_other _ h

theorem State.linkSeen_fld (s : State) (p : Nat) {f : Fld} (h : f.addr ≠ 0x5B0000) : (s.linkSeen p).fld f = s.fld f :=
  State.fld_congr (s.linkSeen_reg p h)

@[simp] theorem State.linkSeen_variant (s : State) (p : Nat) : (s.linkSeen p).variant = s.variant := rfl
@[simp] theorem State.linkSeen_latch (s : State) (p : Nat) : (s.linkSeen p).latch = s.latch := rfl

@[simp] theorem State.linkSeen_directCtx (s : State) (p q : Nat) : (s.linkSeen p).directCtx q = s.directCtx q :=
  s.linkSeen_fld p (by simp only [Reg.HP_DIRECT_DIRECT_CTX]; omega)

@[simp] theorem State.linkSeen_supervisor (s : State) (p c : Nat) : (s.linkSeen p).supervisor c = s.supervisor c := by
  rw [State.supervisor, State.supervisor, s.linkSeen_fld p (by simp only [Reg.CTX_CFG_CLASS]; omega)]

/-! Reads by a supervisor over a port that is served. -/

theorem State.Serves.answersOn_and_served {s : State} {p : Nat} (h : s.Serves p) (a : Nat) : (s.answersOn p && s.served a) = true := by
  obtain ⟨hport, hlane, -⟩ := h
  simp [hport, State.served, hlane]

theorem State.mayRead_of_supervisor {s : State} {c : Nat} (h : s.supervisor c = true) (a : Nat) : s.mayRead c a = true := by
  rw [State.mayRead, if_pos h]

/-- The registers behind which a memory stands: a read of one moves its index on. -/
def windowRegs : List Nat := [0x408108, 0x408124, 0x5D0044, 0x5E0010, 0x5E002C, 0x5E0044]

/-- A supervisor's read of a defined register that is no data window is an ordinary one. -/
theorem State.regRead_of_supervisor {s : State} {c a : Nat} (hsup : s.supervisor c = true) (hal : a % 4 = 0)
    (hab : absent s.variant a = false) (hlo : 0x400000 ≤ a) (hhi : a < 0x1000000) (hrow : (rowOf a).isNone = false)
    (hwin : a ∉ windowRegs) : s.regRead c a = (s.afterRead a, 0, s.readWord a) := by
  have hctx : ¬ a < 0x400000 := by omega
  have htile : inRange 0x1000000 0x2800000 a = false := by simp [inRange]; omega
  have himg : inRange 0x3000000 0x4000000 a = false := by simp [inRange]; omega
  simp only [windowRegs, List.mem_cons, List.not_mem_nil, or_false, not_or] at hwin
  simp [State.regRead, hal, hab, hctx, htile, himg, hrow, State.mayRead_of_supervisor hsup, hwin]

theorem State.Serves.hostRead_eq {s : State} {p a : Nat} (h : s.Serves p) (hal : a % 4 = 0) (hab : absent s.variant a = false)
    (hlo : 0x400000 ≤ a) (hhi : a < 0x1000000) (hrow : (rowOf a).isNone = false) (hwin : a ∉ windowRegs) :
    s.hostRead p a = ((s.linkSeen p).afterRead a).answers 0 [(s.linkSeen p).readWord a] := by
  have hctx : ¬ a < 0x400000 := by omega
  have hsup : (s.linkSeen p).supervisor ((s.linkSeen p).directCtx p) = true := by
    obtain ⟨-, -, hdirect⟩ := h
    rw [State.linkSeen_directCtx, State.linkSeen_supervisor, hdirect]
  have hread := State.regRead_of_supervisor hsup hal hab hlo hhi hrow hwin
  rw [State.hostRead, if_pos (h.answersOn_and_served a)]
  simp only [State.portGet, State.speaker, hctx, false_and, if_false, hread]
  simp [portCode]

/-- R11: a read answers the latched word where one is latched. -/
theorem State.readWord_of_latched {s : State} {a : Nat} {w : Word} (h : sget (fun _ => none) s.latch a = some w) : s.readWord a = w := by
  rw [State.readWord, h, Option.getD_some]

/-! CV_QLOST, a register of one word. -/

theorem absent_CV_QLOST (v : Variant) : absent v 0x5E0018 = false := by
  cases v <;> decide

/-- A word latched at CV_QLOST is what its clearing read answers, whatever the register holds. -/
theorem clearingRead_CV_QLOST_of_latched {s : State} {p : Nat} {w : Word} (h : s.Serves p)
    (hl : sget (fun _ => none) s.latch 0x5E0018 = some w) : (s.hostRead p 0x5E0018).answer.data = [w] := by
  rw [h.hostRead_eq (by decide) (absent_CV_QLOST _) (by decide) (by decide) (by decide +kernel) (by decide),
    State.readWord_of_latched (s := s.linkSeen p) hl]
  rfl

/-- ILK1024-F right after reset, except that a 1 is latched at CV_QLOST. -/
def qlostLatched : State := { latch := [(0x5E0018, some 1)] }

theorem qlostLatched_serves : qlostLatched.Serves 0 := by
  unfold State.Serves
  decide +kernel

/-- Refutes O57: a read returns a latched word before the register's own (R11), and the clause on CLEARING_READ of CV_QLOST does not ask
that none is latched there. In `qlostLatched` the read answers 1 where the register holds 0. No read latches CV_QLOST, which is no upper
word, so the clause wants the premise that `s.latch` has no entry at 0x5E0018. The clause on LATCHING_READ of PMC_LO fails in the same
way, and where `s.regs` is not in canonical form. -/
theorem not_registerAccesses : ¬ Obligations.RegisterAccesses := by
  unfold Obligations.RegisterAccesses
  intro h
  obtain ⟨-, -, -, -, -, -, -, -, -, -, hread, -⟩ := h.1 qlostLatched 0
  obtain ⟨t, ht, hdata, -⟩ := hread qlostLatched_serves
  obtain rfl : qlostLatched.hostRead 0 0x5E0018 = t := by injection ht
  have hone : (qlostLatched.hostRead 0 0x5E0018).answer.data = [1] := clearingRead_CV_QLOST_of_latched qlostLatched_serves rfl
  have hzero : qlostLatched.reg 0x5E0018 = 0 := by decide +kernel
  rw [hone, hzero] at hdata
  exact absurd hdata (by decide)

end Sys2Proof.Machine

/-! PROOFS. A supervisor's read of TILE_DIRTY (R129) answers what R11 has latched there, whatever the slot's dirty bands are. -/

namespace Sys2Proof.Machine

theorem absent_TILE_DIRTY_zero (v : Variant) : absent v 0x40980C = false := by
  cases v <;> decide

/-- A word latched at TILE_DIRTY of slot 0 is what a dirty read of the slot answers. -/
theorem State.Serves.dirtyRead_of_latched {s : State} {p : Nat} {w : Word} (h : s.Serves p)
    (hl : sget (fun _ => none) s.latch 0x40980C = some w) : (s.hostRead p 0x40980C).answer.data = [w] := by
  rw [h.hostRead_eq (by decide) (absent_TILE_DIRTY_zero _) (by decide) (by decide) (by decide +kernel) (by decide),
    State.readWord_of_latched (s := s.linkSeen p) hl]
  rfl

/-- ILK1024-F right after reset, except that a 1 is latched at TILE_DIRTY of slot 0. -/
def dirtyLatched : State := { latch := [(0x40980C, some 1)] }

theorem dirtyLatched_serves : dirtyLatched.Serves 0 := by
  unfold State.Serves
  decide +kernel

/-- Refutes O12: a read returns a latched word before the register's own (R11), and the clause on TILE_DIRTY_READ does not ask that none
is latched at the slot's TILE_DIRTY. In `dirtyLatched` slot 0 is clean and the read answers 1. No read latches TILE_DIRTY, which is no
upper word, so the clause wants the premise that `s.latch` has no entry there. -/
theorem not_tileSlotCommands : ¬ Obligations.TileSlotCommands := by
  unfold Obligations.TileSlotCommands
  intro h
  obtain ⟨-, -, -, -, -, -, -, -, -, hread, -⟩ := h dirtyLatched rfl
  obtain ⟨t, ht, hdata, -⟩ := hread 0 0 dirtyLatched_serves (by decide)
  obtain rfl : dirtyLatched.hostRead 0 0x40980C = t := by injection ht
  have hone : (dirtyLatched.hostRead 0 0x40980C).answer.data = [1] := dirtyLatched_serves.dirtyRead_of_latched rfl
  have hclean : dirtyLatched.fld (Reg.TILE_DIRTY_BAND 0) = 0 := by decide +kernel
  rw [hone, hclean] at hdata
  exact absurd hdata (by decide)

end Sys2Proof.Machine

/-! PROOFS. The tile aperture (R125, R128), byte by byte. -/

namespace Sys2Proof.Machine

/-! What an event leaves alone (R355): its message sets at most a pending bit of an MSI-X table, or host memory. -/

theorem State.hostWriteMem_reg (s : State) (p addr : Nat) (bs : List Byte) (a : Nat) : (s.hostWriteMem p addr bs).reg a = s.reg a := by
  unfold State.hostWriteMem
  split
  · rfl
  · split <;> rfl

theorem State.hostWriteMem_mp (s : State) (p addr : Nat) (bs : List Byte) : (s.hostWriteMem p addr bs).mp = s.mp := by
  unfold State.hostWriteMem
  split
  · rfl
  · split <;> rfl

theorem State.msix_reg (s : State) (p v : Nat) {a : Nat} (h : a < 0x5BB000) : (s.msix p v).reg a = s.reg a := by
  have hpba : a ≠ msixPba p + 4 * (v / 32 % 2) := by
    unfold msixPba
    split <;> omega
  unfold State.msix
  split
  · dsimp only
    split
    · exact s.reg_setFld_other _ hpba
    · exact s.hostWriteMem_reg _ _ _ a
  · rfl

theorem State.msix_mp (s : State) (p v : Nat) : (s.msix p v).mp = s.mp := by
  unfold State.msix
  split
  · dsimp only
    split
    · rfl
    · exact s.hostWriteMem_mp _ _ _
  · rfl

theorem State.supNotify_reg (s : State) (before : Nat) {a : Nat} (h : a < 0x5BB000) : (s.supNotify before).reg a = s.reg a := by
  unfold State.supNotify
  dsimp only
  split
  · rfl
  · exact s.msix_reg _ _ h

theorem State.raise_mp (s : State) (f : Fld) : (s.raise f).mp = s.mp := by
  unfold State.raise State.raiseBit State.supNotify
  dsimp only
  split
  · rfl
  · exact State.msix_mp _ _ _

/-- An event raised shows. -/
theorem State.on_raise (s : State) {f : Fld} (hwidth : f.width = 1) (hok : f.ok) (haddr : f.addr < 0x5BB000) :
    (s.raise f).on f = true := by
  have hset : (s.setFbit f 0 true).fld f = 1 := by
    obtain ⟨a, lo, width⟩ := f
    subst hwidth
    exact s.fld_setFld_same 1 hok
  have hreg : (s.raise f).reg f.addr = (s.setFbit f 0 true).reg f.addr := State.supNotify_reg _ _ haddr
  rw [State.on, State.fld_congr hreg, hset]
  rfl

/-! A host's access to the aperture. -/

theorem Variant.slots_le (v : Variant) : v.slots ≤ 192 := by
  cases v <;> decide

theorem inRange_eq_true_iff {lo hi a : Nat} : inRange lo hi a = true ↔ lo ≤ a ∧ a < hi := by
  rw [inRange, Bool.and_eq_true, decide_eq_true_eq, decide_eq_true_eq]

theorem inRange_eq_false_iff {lo hi a : Nat} : inRange lo hi a = false ↔ a < lo ∨ hi ≤ a := by
  rw [inRange, Bool.and_eq_false_iff, decide_eq_false_iff_not, decide_eq_false_iff_not, Nat.not_le, Nat.not_lt]

/-- The aperture of the variant's slots is fitted (R446). -/
theorem absent_aperture {v : Variant} {off : Nat} (h : off / 0x20000 < v.slots) : absent v (0x1000000 + off) = false := by
  cases v with
  | f1024 => rfl
  | l1024 =>
    simp only [absent, Bool.or_eq_false_iff, inRange_eq_false_iff]
    omega
  | f0512 =>
    have hoff : off < 0xC00000 := by
      simp only [Variant.slots] at h
      omega
    simp only [absent, Bool.or_eq_false_iff, inRange_eq_false_iff]
    omega

@[simp] theorem State.linkSeen_tileState (s : State) (p k : Nat) : (s.linkSeen p).tileState k = s.tileState k :=
  s.linkSeen_fld p (by simp only [Reg.TILE_CTRL_STATE]; omega)

/-- A supervisor's write into a fitted slot's aperture is taken, whatever becomes of its bytes. -/
theorem State.Serves.hostTile_eq {s : State} {p off : Nat} {bs : List Byte} (h : s.Serves p) (hslot : off / 0x20000 < s.variant.slots)
    (hend : off + bs.length ≤ 0x1800000) : s.hostTile p off bs = ((s.linkSeen p).apertureWrite off bs).answers 0 [] := by
  obtain ⟨hport, hlane, hdirect⟩ := h
  have hserved : s.served 0x1000000 = true := by rw [State.served, decide_eq_true hlane, Bool.true_or]
  have hmap : (s.linkSeen p).mayMap (s.directCtx p) = true := by
    rw [State.mayMap, State.holds, State.linkSeen_supervisor, hdirect, Bool.true_or]
  have hfitted : ¬ absent s.variant (0x1000000 + off) = true := by
    rw [absent_aperture hslot]
    decide
  unfold State.hostTile
  rw [if_pos ⟨hport, hserved, hend⟩]
  dsimp only
  rw [State.linkSeen_directCtx, if_neg hfitted, if_pos hmap]

/-! Where a write to a slot's aperture goes (R125). -/

theorem State.apertureWrite_of_free_or_bad {s : State} {off : Nat} (bs : List Byte) (hslot : off / 0x20000 < s.variant.slots)
    (hfill : off / 0x20000 ∉ s.mp.filling) (hst : s.tileState (off / 0x20000) = 0 ∨ s.tileState (off / 0x20000) = 3) :
    s.apertureWrite off bs = s.raise Reg.MAP_EVENT_CFG_ERR := by
  unfold State.apertureWrite
  dsimp only
  rw [if_neg (Nat.not_le.2 hslot), if_neg (fun h => hfill (List.contains_iff_mem.1 h)), if_pos hst]

theorem State.apertureWrite_of_loading_or_resident {s : State} {off : Nat} (bs : List Byte) (hslot : off / 0x20000 < s.variant.slots)
    (hfill : off / 0x20000 ∉ s.mp.filling) (hst : s.tileState (off / 0x20000) = 1 ∨ s.tileState (off / 0x20000) = 2) :
    s.apertureWrite off bs = bs.zipIdx.foldl (fun s b => s.apertureByte (off + b.2) b.1) s := by
  have hneither : ¬ (s.tileState (off / 0x20000) = 0 ∨ s.tileState (off / 0x20000) = 3) := by omega
  unfold State.apertureWrite
  dsimp only
  rw [if_neg (Nat.not_le.2 hslot), if_neg (fun h => hfill (List.contains_iff_mem.1 h)), if_neg hneither]

/-! Cells and their bytes. -/

theorem State.cellWord_setCellWord (s : State) (j k v : Nat) :
    (s.setCellWord k v).cellWord j = if j = k then v else s.cellWord j :=
  sget_sset _ _ _ _ _

/-- The byte of the aperture at an offset. -/
def State.tileByte (s : State) (off : Nat) : Byte := BitVec.ofNat 8 (s.cellWord (off / 2) / 256 ^ (off % 2))

theorem State.apertureRead_one (s : State) (off : Nat) : s.apertureRead off 1 = [s.tileByte off] := rfl

theorem State.tileByte_of_even (s : State) {off : Nat} (h : off % 2 = 0) : s.tileByte off = BitVec.ofNat 8 (s.cellWord (off / 2)) := by
  rw [State.tileByte, h, Nat.pow_zero, Nat.div_one]

theorem State.tileByte_of_odd (s : State) {off : Nat} (h : off % 2 = 1) :
    s.tileByte off = BitVec.ofNat 8 (s.cellWord (off / 2) / 256) := by
  rw [State.tileByte, h, Nat.pow_one]

theorem State.tileByte_setCellWord_other (s : State) {o key : Nat} (v : Nat) (h : o / 2 ≠ key) :
    (s.setCellWord key v).tileByte o = s.tileByte o := by
  rw [State.tileByte, State.tileByte, State.cellWord_setCellWord, if_neg h]

@[simp] theorem State.tileState_apertureByte (s : State) (off : Nat) (b : Byte) (k : Nat) :
    (s.apertureByte off b).tileState k = s.tileState k := by
  unfold State.apertureByte
  dsimp only
  split
  · rfl
  · split <;> rfl

/-! A byte written (R125, R128): a cell's upper half, its lower half, and the lower half that a RESIDENT slot keeps. -/

theorem State.apertureByte_of_odd (s : State) {off : Nat} (b : Byte) (hodd : off % 2 = 1) :
    s.apertureByte off b = s.setCellWord (off / 2) (s.cellWord (off / 2) % 256 + 256 * b.toNat) := by
  unfold State.apertureByte
  dsimp only
  rw [if_pos hodd]

theorem State.apertureByte_of_even_loading {s : State} {off : Nat} (b : Byte) (heven : off % 2 = 0)
    (hst : s.tileState (off / 0x20000) = 1) :
    s.apertureByte off b = s.setCellWord (off / 2) (256 * (s.cellWord (off / 2) / 256) + b.toNat) := by
  have hlower : ¬ off % 2 = 1 := by omega
  unfold State.apertureByte
  dsimp only
  rw [if_neg hlower, if_pos (.inl (decide_eq_true hst))]

theorem State.apertureByte_of_even_resident {s : State} {off : Nat} (b : Byte) (heven : off % 2 = 0)
    (hst : s.tileState (off / 0x20000) = 2) (hcov : s.on (Reg.TILE_CTRL_COV_WRITE (off / 0x20000)) = false) :
    s.apertureByte off b = s := by
  have hlower : ¬ off % 2 = 1 := by omega
  have hkept : ¬ (decide (s.tileState (off / 0x20000) = 1) = true ∨ s.on (Reg.TILE_CTRL_COV_WRITE (off / 0x20000)) = true) := by
    rw [hst, hcov]
    decide
  unfold State.apertureByte
  dsimp only
  rw [if_neg hlower, if_neg hkept]

/-- R125: a LOADING slot takes a byte of either half of a cell, and no other byte changes. -/
theorem State.tileByte_apertureByte {s : State} {off : Nat} (b : Byte) (hst : s.tileState (off / 0x20000) = 1) (o : Nat) :
    (s.apertureByte off b).tileByte o = if o = off then b else s.tileByte o := by
  have hb := b.isLt
  by_cases hcell : o / 2 = off / 2
  case neg =>
    have hne : o ≠ off := fun e => hcell (congrArg (· / 2) e)
    rw [if_neg hne]
    rcases Nat.mod_two_eq_zero_or_one off with h | h
    · rw [State.apertureByte_of_even_loading b h hst, State.tileByte_setCellWord_other _ _ hcell]
    · rw [State.apertureByte_of_odd s b h, State.tileByte_setCellWord_other _ _ hcell]
  case pos =>
    rcases Nat.mod_two_eq_zero_or_one off with h | h <;> rcases Nat.mod_two_eq_zero_or_one o with ho | ho
    · have heq : o = off := by omega
      rw [State.apertureByte_of_even_loading b h hst, if_pos heq, State.tileByte_of_even _ ho, State.cellWord_setCellWord, if_pos hcell]
      apply BitVec.eq_of_toNat_eq
      rw [BitVec.toNat_ofNat]
      omega
    · have hne : o ≠ off := by omega
      rw [State.apertureByte_of_even_loading b h hst, if_neg hne, State.tileByte_of_odd _ ho, State.tileByte_of_odd _ ho,
        State.cellWord_setCellWord, if_pos hcell, hcell]
      congr 1
      omega
    · have hne : o ≠ off := by omega
      rw [State.apertureByte_of_odd s b h, if_neg hne, State.tileByte_of_even _ ho, State.tileByte_of_even _ ho,
        State.cellWord_setCellWord, if_pos hcell, hcell]
      apply BitVec.eq_of_toNat_eq
      rw [BitVec.toNat_ofNat, BitVec.toNat_ofNat]
      omega
    · have heq : o = off := by omega
      rw [State.apertureByte_of_odd s b h, if_pos heq, State.tileByte_of_odd _ ho, State.cellWord_setCellWord, if_pos hcell]
      apply BitVec.eq_of_toNat_eq
      rw [BitVec.toNat_ofNat]
      omega

/-- R125: bytes written one after another into LOADING slots stand there, and the bytes before them as they were. -/
theorem State.tileByte_foldl_apertureByte {off : Nat} (bs : List Byte) (s : State) (n : Nat)
    (hst : ∀ i < bs.length, s.tileState ((off + n + i) / 0x20000) = 1) (o : Nat) :
    ((bs.zipIdx n).foldl (fun s b => s.apertureByte (off + b.2) b.1) s).tileByte o =
      if off + n ≤ o then bs.getD (o - (off + n)) (s.tileByte o) else s.tileByte o := by
  induction bs generalizing s n with
  | nil => simp only [List.zipIdx_nil, List.foldl_nil, List.getD_nil, ite_self]
  | cons b bs ih =>
    have hhead : s.tileState ((off + n) / 0x20000) = 1 := hst 0 (Nat.zero_lt_succ _)
    have htail : ∀ i < bs.length, (s.apertureByte (off + n) b).tileState ((off + (n + 1) + i) / 0x20000) = 1 := by
      intro i hi
      have hplace : off + (n + 1) + i = off + n + (i + 1) := by omega
      rw [State.tileState_apertureByte, hplace]
      exact hst (i + 1) (Nat.succ_lt_succ hi)
    rw [List.zipIdx_cons, List.foldl_cons, ih _ _ htail, State.tileByte_apertureByte b hhead]
    obtain hlt | rfl | hgt := Nat.lt_trichotomy o (off + n)
    · have hbefore : ¬ off + (n + 1) ≤ o := by omega
      rw [if_neg hbefore, if_neg (Nat.ne_of_lt hlt), if_neg (Nat.not_le.2 hlt)]
    · have hbefore : ¬ off + (n + 1) ≤ off + n := by omega
      rw [if_neg hbefore, if_pos rfl, if_pos (Nat.le_refl _), Nat.sub_self, List.getD_cons_zero]
    · obtain ⟨i, rfl⟩ : ∃ i, o = off + (n + 1) + i := ⟨o - (off + (n + 1)), by omega⟩
      have hi : off + (n + 1) + i - (off + n) = i + 1 := by omega
      rw [if_pos (Nat.le_add_right _ _), if_neg (Nat.ne_of_gt hgt), if_pos (Nat.le_of_lt hgt), hi, List.getD_cons_succ,
        Nat.add_sub_cancel_left]

/-- R125: what is written within one LOADING slot is what is read there. -/
theorem State.apertureRead_apertureWrite {s : State} {off : Nat} {bs : List Byte} (hslot : off / 0x20000 < s.variant.slots)
    (hend : off % 0x20000 + bs.length ≤ 0x20000) (hfill : off / 0x20000 ∉ s.mp.filling) (hst : s.tileState (off / 0x20000) = 1)
    {i : Nat} (hi : i < bs.length) : (s.apertureWrite off bs).apertureRead (off + i) 1 = [bs.getD i 0] := by
  have hwithin : ∀ j < bs.length, s.tileState ((off + 0 + j) / 0x20000) = 1 := by
    intro j hj
    have hslot : (off + 0 + j) / 0x20000 = off / 0x20000 := by omega
    rw [hslot, hst]
  have hfrom : off + 0 ≤ off + i := Nat.le_add_right _ _
  have hplace : off + i - (off + 0) = i := by omega
  rw [State.apertureRead_one, State.apertureWrite_of_loading_or_resident bs hslot hfill (.inl hst),
    State.tileByte_foldl_apertureByte bs s 0 hwithin, if_pos hfrom, hplace, List.getD_eq_getElem?_getD,
    List.getD_eq_getElem?_getD, List.getElem?_eq_getElem hi, Option.getD_some, Option.getD_some]

/-- R128: a RESIDENT slot without COV_WRITE keeps the lower byte of every cell. -/
theorem State.apertureWrite_resident_even {s : State} {off : Nat} (b : Byte) (hslot : off / 0x20000 < s.variant.slots)
    (hfill : off / 0x20000 ∉ s.mp.filling) (hst : s.tileState (off / 0x20000) = 2)
    (hcov : s.on (Reg.TILE_CTRL_COV_WRITE (off / 0x20000)) = false) (heven : off % 2 = 0) : s.apertureWrite off [b] = s := by
  rw [State.apertureWrite_of_loading_or_resident [b] hslot hfill (.inr hst)]
  exact State.apertureByte_of_even_resident b heven hst hcov

end Sys2Proof.Machine

/-! PROOFS. The merge of a swap (R126), cell by cell. A merge folds over 65,536 cells, so what a later operation leaves of it is rewritten
by named lemmas: comparing the two states by definition would make the kernel run the fold. -/

namespace Sys2Proof.Machine

/-- Cell `i` of tile `k` merged with the same cell of tile `old`. -/
def State.mergeCellAt (k old : Nat) (s : State) (i : Nat) : State :=
  s.setCellWord (65536 * k + i) (mergeCell (s.cellWord (65536 * k + i)) (s.cellWord (65536 * old + i)))

theorem State.mergeCells_eq (s : State) (k old : Nat) : s.mergeCells k old = (List.range 65536).foldl (State.mergeCellAt k old) s := rfl

/-- The first `n` cells merged, the others and the old tile as they were. -/
theorem State.cellWord_foldl_mergeCellAt (s : State) {k old n : Nat} (hne : old ≠ k) (hn : n ≤ 65536) {i : Nat} (hi : i < 65536) :
    ((List.range n).foldl (State.mergeCellAt k old) s).cellWord (65536 * k + i) =
        (if i < n then mergeCell (s.cellWord (65536 * k + i)) (s.cellWord (65536 * old + i)) else s.cellWord (65536 * k + i)) ∧
      ((List.range n).foldl (State.mergeCellAt k old) s).cellWord (65536 * old + i) = s.cellWord (65536 * old + i) := by
  induction n generalizing i with
  | zero => exact ⟨(if_neg (Nat.not_lt_zero i)).symm, rfl⟩
  | succ n ih =>
    obtain ⟨hnew, hold⟩ := ih (by omega) hi
    obtain ⟨hnew', hold'⟩ := ih (by omega) (i := n) (by omega)
    have hapart : 65536 * old + i ≠ 65536 * k + n := by omega
    rw [List.range_succ, List.foldl_append, List.foldl_cons, List.foldl_nil, State.mergeCellAt, State.cellWord_setCellWord,
      State.cellWord_setCellWord, if_neg hapart, hnew', hold', if_neg (Nat.lt_irrefl n)]
    refine ⟨?_, hold⟩
    obtain hlt | rfl | hgt := Nat.lt_trichotomy i n
    · have hkey : 65536 * k + i ≠ 65536 * k + n := by omega
      rw [if_neg hkey, hnew, if_pos hlt, if_pos (Nat.lt_succ_of_lt hlt)]
    · rw [if_pos rfl, if_pos (Nat.lt_succ_self i)]
    · have hkey : 65536 * k + i ≠ 65536 * k + n := by omega
      have hlater : ¬ i < n + 1 := by omega
      rw [if_neg hkey, hnew, if_neg (Nat.lt_asymm hgt), if_neg hlater]

theorem State.cellWord_mergeCells (s : State) {k old i : Nat} (hne : old ≠ k) (hi : i < 65536) :
    (s.mergeCells k old).cellWord (65536 * k + i) = mergeCell (s.cellWord (65536 * k + i)) (s.cellWord (65536 * old + i)) := by
  rw [State.mergeCells_eq, (s.cellWord_foldl_mergeCellAt hne (Nat.le_refl _) hi).1, if_pos hi]

theorem State.fld_mergeCells (s : State) (k old : Nat) (f : Fld) : (s.mergeCells k old).fld f = s.fld f := by
  rw [State.mergeCells_eq]
  exact List.foldlRecOn (motive := fun (t : State) => t.fld f = s.fld f) _ _ rfl (fun _ h _ _ => h)

/-! A slot freed. -/

theorem State.fld_setFld_other (s : State) {f g : Fld} (v : Nat) (h : g.addr ≠ f.addr) : (s.setFld f v).fld g = s.fld g :=
  s.fld_setReg_other _ h

theorem tileCtrlState_ok (k : Nat) : (Reg.TILE_CTRL_STATE k).ok := show 0 + 2 ≤ 32 by decide
theorem tileCtrlPending_ok (k : Nat) : (Reg.TILE_CTRL_PENDING k).ok := show 2 + 1 ≤ 32 by decide
theorem tileDirtyBand_ok (k : Nat) : (Reg.TILE_DIRTY_BAND k).ok := show 0 + 16 ≤ 32 by decide

theorem tileState_apart_pending (k : Nat) : (Reg.TILE_CTRL_STATE k).apart (Reg.TILE_CTRL_PENDING k) :=
  .inr (.inl (show 0 + 2 ≤ 2 by decide))

theorem tileCtrl_ne_tileDirty (j k : Nat) : (Reg.TILE_CTRL_STATE j).addr ≠ (Reg.TILE_DIRTY_BAND k).addr := by
  simp only [Reg.TILE_CTRL_STATE, Reg.TILE_DIRTY_BAND]
  omega

/-- Two slots below 192 have registers of their own. -/
theorem tileRegs_apart {j k : Nat} (hj : j < 192) (hk : k < 192) (h : j ≠ k) :
    (Reg.TILE_CTRL_STATE j).addr ≠ (Reg.TILE_CTRL_STATE k).addr ∧ (Reg.TILE_DIRTY_BAND j).addr ≠ (Reg.TILE_DIRTY_BAND k).addr := by
  simp only [Reg.TILE_CTRL_STATE, Reg.TILE_DIRTY_BAND, Nat.mod_eq_of_lt hj, Nat.mod_eq_of_lt hk]
  omega

theorem State.fld_tileFree (s : State) (k : Nat) (f : Fld) : (s.tileFree k).fld f =
    (((s.setFld (Reg.TILE_CTRL_STATE k) 0).setFld (Reg.TILE_CTRL_PENDING k) 0).setFld (Reg.TILE_DIRTY_BAND k) 0).fld f := rfl

theorem State.tileState_tileFree (s : State) (k : Nat) : (s.tileFree k).tileState k = 0 := by
  rw [State.tileState, State.fld_tileFree, State.fld_setFld_other _ _ (tileCtrl_ne_tileDirty k k),
    State.fld_setFld_apart _ _ (tileCtrlPending_ok k) (tileState_apart_pending k), State.fld_setFld_same _ _ (tileCtrlState_ok k)]
  rfl

/-- Freeing a slot touches its own TILE_CTRL and TILE_DIRTY. -/
theorem State.fld_tileFree_other (s : State) {k : Nat} {f : Fld} (hctrl : f.addr ≠ (Reg.TILE_CTRL_STATE k).addr)
    (hdirty : f.addr ≠ (Reg.TILE_DIRTY_BAND k).addr) : (s.tileFree k).fld f = s.fld f := by
  have hpending : f.addr ≠ (Reg.TILE_CTRL_PENDING k).addr := hctrl
  rw [State.fld_tileFree, State.fld_setFld_other _ _ hdirty, State.fld_setFld_other _ _ hpending, State.fld_setFld_other _ _ hctrl]

theorem State.cellWord_setFld (s : State) (f : Fld) (v key : Nat) : (s.setFld f v).cellWord key = s.cellWord key := rfl
theorem State.cellWord_tileFree (s : State) (k key : Nat) : (s.tileFree k).cellWord key = s.cellWord key := rfl

/-! The end of a merge. -/

/-- The swap of a RESIDENT tile `old` for tile `k`, the merge itself still listed among those under way. -/
def State.swapped (s : State) (k old : Nat) : State :=
  ((((s.mergeCells k old).setFld (Reg.TILE_DIRTY_BAND k)
    (s.fld (Reg.TILE_DIRTY_BAND k) ||| s.fld (Reg.TILE_DIRTY_BAND old))).tileFree old).setFld (Reg.TILE_CTRL_STATE k) 2).setFld
      (Reg.TILE_CTRL_PENDING k) 0

/-- The merge of slot `k` struck from those under way. -/
def State.mergeStruck (s : State) (k : Nat) : State :=
  { s with mp := { s.mp with merges := s.mp.merges.filter (fun m => decide (m.1 ≠ k)) } }

theorem State.fld_mergeStruck (s : State) (k : Nat) (f : Fld) : (s.mergeStruck k).fld f = s.fld f := rfl
theorem State.tileState_mergeStruck (s : State) (k j : Nat) : (s.mergeStruck k).tileState j = s.tileState j := rfl
theorem State.on_mergeStruck (s : State) (k : Nat) (f : Fld) : (s.mergeStruck k).on f = s.on f := rfl
theorem State.cellWord_mergeStruck (s : State) (k key : Nat) : (s.mergeStruck k).cellWord key = s.cellWord key := rfl

theorem State.mergeDone_eq {s : State} {k old : Nat} (hmerge : s.mp.merges.find? (fun m => decide (m.1 = k)) = some (k, old))
    (hres : s.tileState old = 2) : s.mergeDone k = (s.swapped k old).mergeStruck k := by
  have hstill (v : Nat) : ((s.mergeCells k old).setFld (Reg.TILE_DIRTY_BAND k) v).tileState old = 2 := by
    rw [State.tileState, State.fld_setFld_other _ _ (tileCtrl_ne_tileDirty old k), State.fld_mergeCells]
    exact hres
  simp only [State.mergeDone, hmerge, hres, if_true, State.fld_mergeCells, hstill, State.swapped, State.mergeStruck]

section
variable (s : State) {k old : Nat} (hk : k < 192) (hold : old < 192) (hne : old ≠ k)

theorem State.swapped_tileState_new : (s.swapped k old).tileState k = 2 := by
  rw [State.swapped, State.tileState, State.fld_setFld_apart _ _ (tileCtrlPending_ok k) (tileState_apart_pending k),
    State.fld_setFld_same _ _ (tileCtrlState_ok k)]
  rfl

theorem State.swapped_pending : (s.swapped k old).on (Reg.TILE_CTRL_PENDING k) = false := by
  rw [State.on, State.swapped, State.fld_setFld_same _ _ (tileCtrlPending_ok k)]
  rfl

include hk hold hne in
theorem State.swapped_tileState_old : (s.swapped k old).tileState old = 0 := by
  obtain ⟨hctrl, -⟩ := tileRegs_apart hold hk hne
  have hpending : (Reg.TILE_CTRL_STATE old).addr ≠ (Reg.TILE_CTRL_PENDING k).addr := hctrl
  rw [State.swapped, State.tileState, State.fld_setFld_other _ _ hpending, State.fld_setFld_other _ _ hctrl]
  exact State.tileState_tileFree _ _

include hk hold hne in
theorem State.swapped_dirty : (s.swapped k old).fld (Reg.TILE_DIRTY_BAND k) =
    s.fld (Reg.TILE_DIRTY_BAND k) ||| s.fld (Reg.TILE_DIRTY_BAND old) := by
  obtain ⟨-, hdirty⟩ := tileRegs_apart hk hold hne.symm
  have hctrl := fun j => (tileCtrl_ne_tileDirty j k).symm
  have hpending : (Reg.TILE_DIRTY_BAND k).addr ≠ (Reg.TILE_CTRL_PENDING k).addr := hctrl k
  rw [State.swapped, State.fld_setFld_other _ _ hpending, State.fld_setFld_other _ _ (hctrl k),
    State.fld_tileFree_other _ (hctrl old) hdirty, State.fld_setFld_same _ _ (tileDirtyBand_ok k)]
  exact Nat.mod_eq_of_lt (Nat.or_lt_two_pow (s.fld_lt _) (s.fld_lt _))

include hne in
theorem State.swapped_cellWord {i : Nat} (hi : i < 65536) : (s.swapped k old).cellWord (65536 * k + i) =
    mergeCell (s.cellWord (65536 * k + i)) (s.cellWord (65536 * old + i)) := by
  rw [State.swapped, State.cellWord_setFld, State.cellWord_setFld, State.cellWord_tileFree, State.cellWord_setFld,
    s.cellWord_mergeCells hne hi]

end

end Sys2Proof.Machine

/-! PROOFS. What a painter run leaves in SEC_STATE (R135). -/

namespace Sys2Proof.Machine

/-! Base-4 digits of a word. -/

/-- The number of `n` base-4 digits, the lowest first. -/
def digits4 (d : Nat → Nat) (n : Nat) : Nat := (List.range n).foldl (fun w i => w + 4 ^ i * d i) 0

theorem digits4_succ (d : Nat → Nat) (n : Nat) : digits4 d (n + 1) = digits4 d n + 4 ^ n * d n := by
  rw [digits4, List.range_succ, List.foldl_append]
  rfl

theorem digits4_lt {d : Nat → Nat} (hd : ∀ i, d i < 4) (n : Nat) : digits4 d n < 4 ^ n := by
  induction n with
  | zero => exact Nat.zero_lt_one
  | succ n ih =>
    have := Nat.mul_le_mul_left (4 ^ n) (Nat.le_of_lt_succ (hd n))
    rw [digits4_succ, Nat.pow_succ]
    omega

theorem digits4_digit {d : Nat → Nat} (hd : ∀ i, d i < 4) {n i : Nat} (hi : i < n) : digits4 d n / 4 ^ i % 4 = d i := by
  induction n with
  | zero => omega
  | succ n ih =>
    rw [digits4_succ]
    obtain hlt | rfl := Nat.lt_succ_iff_lt_or_eq.1 hi
    · have hpow : 4 ^ n * d n = 4 ^ i * (4 * (4 ^ (n - i - 1) * d n)) := by
        have hexp : n = i + 1 + (n - i - 1) := by omega
        rw [← Nat.mul_assoc, ← Nat.mul_assoc, ← Nat.pow_succ, ← Nat.pow_add, ← hexp]
      rw [hpow, Nat.add_mul_div_left _ _ (Nat.pow_pos (by decide)), Nat.add_mul_mod_self_left, ih hlt]
    · rw [Nat.add_mul_div_left _ _ (Nat.pow_pos (by decide)), Nat.div_eq_of_lt (digits4_lt hd i), Nat.zero_add, Nat.mod_eq_of_lt (hd i)]

/-! Sections depend on the outlet table alone. -/

theorem filter_sdel_of_neg {α : Type} {p : Nat × α → Bool} {k : Nat} (hp : ∀ v, p (k, v) = false) (m : List (Nat × α)) :
    (sdel k m).filter p = m.filter p := by
  induction m with
  | nil => rfl
  | cons e m ih =>
    obtain ⟨j, v⟩ := e
    by_cases hj : j = k
    · subst hj
      rw [sdel, if_pos rfl, ih, List.filter_cons_of_neg (by rw [hp]; decide)]
    · rw [sdel, if_neg hj, List.filter_cons, List.filter_cons, ih]

theorem filter_sins_of_neg {α : Type} {p : Nat × α → Bool} {k : Nat} {v : α} (hp : p (k, v) = false) (m : List (Nat × α)) :
    (sins k v m).filter p = m.filter p := by
  induction m with
  | nil => rw [sins, List.filter_cons_of_neg (by rw [hp]; decide)]
  | cons e m ih =>
    obtain ⟨j, w⟩ := e
    rw [sins]
    split
    · rw [List.filter_cons_of_neg (by rw [hp]; decide)]
    · rw [List.filter_cons, List.filter_cons, ih]

/-- A filter that passes over a key does not see what is written there. -/
theorem filter_sset_of_neg {α : Type} [DecidableEq α] (d : Nat → α) {p : Nat × α → Bool} {k : Nat} (hp : ∀ v, p (k, v) = false)
    (m : List (Nat × α)) (v : α) : (sset d m k v).filter p = m.filter p := by
  unfold sset
  split
  · exact filter_sdel_of_neg hp m
  · rw [filter_sins_of_neg (hp v), filter_sdel_of_neg hp]

theorem State.outlets_setReg (s : State) {a : Nat} (w : Word) (h : inRange 0x470000 0x480000 a = false) :
    (s.setReg a w).outlets = s.outlets := by
  unfold State.outlets
  exact congrArg _ (filter_sset_of_neg _ (fun _ => by simp only [h, Bool.false_and]) _ _)

/-- Equal outlet tables give equal sections. -/
theorem State.sectionState_congr {s t : State} (houtlets : t.outlets = s.outlets)
    (hreg : ∀ a, inRange 0x470000 0x480000 a = true → t.reg a = s.reg a) (k : Nat) : t.sectionState k = s.sectionState k := by
  have hfld (f : Fld) (h : inRange 0x470000 0x480000 f.addr = true) : t.fld f = s.fld f := State.fld_congr (hreg _ h)
  have hcfg (o : Nat) : inRange 0x470000 0x480000 (0x470000 + 0x40 * (o % 1024)) = true := inRange_eq_true_iff.2 (by omega)
  have hstate (o : Nat) : inRange 0x470000 0x480000 (0x47003c + 0x40 * (o % 1024)) = true := inRange_eq_true_iff.2 (by omega)
  have hlisted : (fun o => decide (t.fld (Reg.OT_CFG_SECTION o) = k)) = fun o => decide (s.fld (Reg.OT_CFG_SECTION o) = k) :=
    funext fun o => by rw [hfld _ (hcfg o)]
  have hunknown : (fun o => t.on (Reg.OT_STATE_TARGET_ABSENT o) || (t.on (Reg.OT_STATE_DIVERGENT o) || t.on (Reg.OT_STATE_UNSURE o))) =
      fun o => s.on (Reg.OT_STATE_TARGET_ABSENT o) || (s.on (Reg.OT_STATE_DIVERGENT o) || s.on (Reg.OT_STATE_UNSURE o)) :=
    funext fun o => by simp only [State.on, hfld (Reg.OT_STATE_TARGET_ABSENT o) (hstate o), hfld (Reg.OT_STATE_DIVERGENT o) (hstate o),
      hfld (Reg.OT_STATE_UNSURE o) (hstate o)]
  have hopen : (fun o => t.on (Reg.OT_STATE_SEALED_OPEN o)) = fun o => s.on (Reg.OT_STATE_SEALED_OPEN o) :=
    funext fun o => by rw [State.on, State.on, hfld _ (hstate o)]
  rw [State.sectionState, State.sectionState, houtlets, hlisted, hunknown, hopen]

theorem State.sectionState_setReg (s : State) {a : Nat} (w : Word) (h : inRange 0x470000 0x480000 a = false) (k : Nat) :
    (s.setReg a w).sectionState k = s.sectionState k :=
  State.sectionState_congr (s.outlets_setReg w h)
    (fun b hb => s.reg_setReg_other w (fun e => by rw [e, h] at hb; cases hb)) k

theorem State.sectionState_lt (s : State) (k : Nat) : s.sectionState k < 4 := by
  unfold State.sectionState
  dsimp only
  split
  · decide
  · split
    · decide
    · split <;> decide

/-! SEC_STATE written word by word. -/

/-- SEC_STATE word `j`: the states of its sixteen sections. -/
def State.secWord (s : State) (j : Nat) : Word := BitVec.ofNat 32 (digits4 (fun i => s.sectionState (16 * j + i)) 16)

theorem State.bitsOf_secWord (s : State) (j : Nat) {i : Nat} (hi : i < 16) :
    bitsOf (s.secWord j).toNat (2 * i) 2 = s.sectionState (16 * j + i) := by
  have hd : ∀ i, s.sectionState (16 * j + i) < 4 := fun _ => s.sectionState_lt _
  have hword : (s.secWord j).toNat = digits4 (fun i => s.sectionState (16 * j + i)) 16 := by
    rw [State.secWord, BitVec.toNat_ofNat]
    exact Nat.mod_eq_of_lt (digits4_lt hd 16)
  rw [hword, bitsOf, Nat.pow_mul]
  exact digits4_digit hd hi

/-- Word `j` of SEC_STATE written. -/
def State.putSecWord (s : State) (j : Nat) : State := s.setReg (0x409100 + 4 * (j % 16)) (s.secWord j)

theorem State.sectionState_putSecWord (s : State) (j k : Nat) : (s.putSecWord j).sectionState k = s.sectionState k :=
  s.sectionState_setReg _ (inRange_eq_false_iff.2 (by omega)) k

theorem State.secWord_congr {s t : State} (h : ∀ k, t.sectionState k = s.sectionState k) (j : Nat) : t.secWord j = s.secWord j := by
  simp only [State.secWord, h]

/-- The first `n` words written show their sections, and no section's state moves meanwhile. -/
theorem State.foldl_putSecWord (s : State) {n : Nat} (hn : n ≤ 16) :
    (∀ k, ((List.range n).foldl State.putSecWord s).sectionState k = s.sectionState k) ∧
      ∀ j < n, ((List.range n).foldl State.putSecWord s).reg (0x409100 + 4 * j) = s.secWord j := by
  induction n with
  | zero => exact ⟨fun _ => rfl, fun j hj => absurd hj (Nat.not_lt_zero j)⟩
  | succ n ih =>
    obtain ⟨hsec, hreg⟩ := ih (by omega)
    rw [List.range_succ, List.foldl_append, List.foldl_cons, List.foldl_nil]
    refine ⟨fun k => by rw [State.sectionState_putSecWord, hsec], fun j hj => ?_⟩
    rw [State.putSecWord, State.reg_setReg, Nat.mod_eq_of_lt (show n < 16 by omega), State.secWord_congr hsec]
    obtain hlt | rfl := Nat.lt_succ_iff_lt_or_eq.1 hj
    · rw [if_neg (by omega), hreg j hlt]
    · rw [if_pos rfl]

/-- SEC_STATE shows the state of every section. -/
def State.ShowsSections (s : State) : Prop :=
  ∀ k, k < 256 → bitsOf (s.reg (0x409100 + 4 * (k / 16))).toNat (2 * (k % 16)) 2 = s.sectionState k

theorem State.showsSections_congr {s t : State} (hregs : t.regs = s.regs) (hvariant : t.variant = s.variant) (h : s.ShowsSections) :
    t.ShowsSections := by
  have hreg (a : Nat) : t.reg a = s.reg a := by rw [State.reg, State.reg, hregs, hvariant]
  intro k hk
  rw [hreg, h k hk, State.sectionState_congr (by rw [State.outlets, State.outlets, hregs]) (fun a _ => hreg a)]

/-- R135: the LANDING bits, then the words. -/
theorem State.sections_eq (s : State) (tau : Time) : s.sections tau = (List.range 16).foldl State.putSecWord
    (s.outlets.foldl (fun s o => s.setBit (Reg.OT_STATE_LANDING o) (s.lands o (s.transOf o) tau)) s) := by
  have hput : State.putSecWord = fun (s : State) (k : Nat) => s.setReg (0x409100 + 4 * (k % 16))
      (BitVec.ofNat 32 ((List.range 16).foldl (fun w i => w + 4 ^ i * s.sectionState (16 * k + i)) 0)) := rfl
  rw [State.sections, hput]

theorem State.sections_showsSections (s : State) (tau : Time) : (s.sections tau).ShowsSections := by
  intro k hk
  rw [State.sections_eq]
  obtain ⟨hsec, hreg⟩ := State.foldl_putSecWord
    (s.outlets.foldl (fun s o => s.setBit (Reg.OT_STATE_LANDING o) (s.lands o (s.transOf o) tau)) s) (Nat.le_refl 16)
  rw [hreg _ (by omega), hsec, State.bitsOf_secWord _ _ (by omega), Nat.div_add_mod]

/-! The painter run. -/

theorem State.regs_swathLanding (s : State) (x : Time × Nat × Nat × Bool) :
    (s.swathLanding x).regs = s.regs ∧ (s.swathLanding x).variant = s.variant := by
  unfold State.swathLanding
  split <;> exact ⟨rfl, rfl⟩

theorem State.regs_swathForm (s : State) : s.swathForm.regs = s.regs ∧ s.swathForm.variant = s.variant := by
  unfold State.swathForm
  split
  · refine List.foldlRecOn (motive := fun (t : State) => t.regs = s.regs ∧ t.variant = s.variant) _ _ ⟨rfl, rfl⟩ ?_
    intro t ht x _
    obtain ⟨hregs, hvariant⟩ := t.regs_swathLanding x
    rw [hregs, hvariant]
    exact ht
  · exact ⟨rfl, rfl⟩

theorem State.showsSections_withMp {s : State} (m : MapState) (h : s.ShowsSections) : State.ShowsSections { s with mp := m } :=
  State.showsSections_congr rfl rfl h

/-- R135, R138: unless a takeover or the loss of both lanes puts it off, a painter run shows the sections. -/
theorem State.painterRun_showsSections {s : State} (h1 : s.fld Reg.RES_STATE_STATE ≠ 1) (h3 : s.fld Reg.RES_STATE_STATE ≠ 3) :
    s.painterRun.ShowsSections := by
  unfold State.painterRun
  extract_lets t tau st
  rw [if_neg (fun h : st = 1 ∨ st = 3 => h.elim h1 h3)]
  split
  · exact State.showsSections_withMp _ (s.sections_showsSections tau)
  · exact State.sections_showsSections _ tau

end Sys2Proof.Machine

/-! PROOFS. TILE_SWAP_MERGE_DONE, TILE_APERTURE_WRITE and PAINTER_RUN. -/

namespace Sys2Proof.Machine

theorem exec_tileSwapMergeDone {s : State} {k : Nat} (hup : s.pw.coreUp = true) (hk : k < s.variant.slots) :
    exec (.tileSwapMergeDone k) s = .next (s.mergeDone k) := by
  show Host.Outcome.next (s.inRangeUp k s.variant.slots (fun s => s.mergeDone k)) = _
  simp only [State.inRangeUp, State.whenUp, State.inRangeOf, hup, hk, if_true]

theorem exec_tileApertureWrite {s : State} {p off : Nat} {bs : List Byte} (hserves : s.Serves p)
    (hslot : off / 0x20000 < s.variant.slots) (hend : off + bs.length ≤ 0x1800000) :
    exec (.tileApertureWrite p off bs) s = .next (((s.linkSeen p).apertureWrite off bs).answers 0 []) :=
  congrArg Host.Outcome.next (hserves.hostTile_eq hslot hend)

theorem exec_painterRun {s : State} (hup : s.pw.coreUp = true) : exec .painterRun s = .next s.painterRun.swathForm :=
  congrArg Host.Outcome.next (if_pos hup)

/-- Settles O14: a swap's merge cell by cell, what the aperture takes by the slot's state, and SEC_STATE after a painter run. -/
theorem tileContentsAndSections : Obligations.TileContentsAndSections := by
  unfold Obligations.TileContentsAndSections
  refine ⟨fun s hup => ⟨?merge, ?loading, ?resident, ?freeOrBad⟩, ?painter⟩
  case merge =>
    intro k old hk hmerge hold hne hres
    have hk192 := Nat.lt_of_lt_of_le hk s.variant.slots_le
    have hold192 := Nat.lt_of_lt_of_le hold s.variant.slots_le
    refine ⟨(s.swapped k old).mergeStruck k, ?_, ?_⟩
    · rw [← State.mergeDone_eq hmerge hres]
      exact exec_tileSwapMergeDone hup hk
    · exact ⟨(State.tileState_mergeStruck _ _ _).trans s.swapped_tileState_new,
        (State.tileState_mergeStruck _ _ _).trans (s.swapped_tileState_old hk192 hold192 hne),
        (State.on_mergeStruck _ _ _).trans s.swapped_pending,
        (State.fld_mergeStruck _ _ _).trans (s.swapped_dirty hk192 hold192 hne),
        fun i hi _ => (State.cellWord_mergeStruck _ _ _).trans (s.swapped_cellWord hne hi)⟩
  case loading =>
    intro p off bs hserves hslot hend hfill hst _
    have hslots := Nat.lt_of_lt_of_le hslot s.variant.slots_le
    refine ⟨_, exec_tileApertureWrite hserves hslot (by omega), fun i hi => ?_⟩
    exact State.apertureRead_apertureWrite (s := s.linkSeen p) hslot hend hfill (by rw [State.linkSeen_tileState]; exact hst) hi
  case resident =>
    intro p off b hserves hslot hfill hst hcov heven
    have hslots := Nat.lt_of_lt_of_le hslot s.variant.slots_le
    have hcov' : (s.linkSeen p).on (Reg.TILE_CTRL_COV_WRITE (off / 0x20000)) = false := by
      rw [State.on, s.linkSeen_fld p (by simp only [Reg.TILE_CTRL_COV_WRITE]; omega)]
      exact hcov
    refine ⟨_, exec_tileApertureWrite hserves hslot (by simp only [List.length_singleton]; omega), ?_⟩
    rw [State.apertureWrite_resident_even (s := s.linkSeen p) b hslot hfill (by rw [State.linkSeen_tileState]; exact hst) hcov' heven]
    rfl
  case freeOrBad =>
    intro p off bs hserves hslot hend hfill hst
    refine ⟨_, exec_tileApertureWrite hserves hslot hend, ?_⟩
    rw [State.apertureWrite_of_free_or_bad (s := s.linkSeen p) bs hslot hfill (by rw [State.linkSeen_tileState]; exact hst)]
    exact ⟨congrArg MapState.cells (State.raise_mp _ _), State.on_raise _ rfl (show 6 + 1 ≤ 32 by decide) (by decide)⟩
  case painter =>
    intro s hup h1 h3
    refine ⟨_, exec_painterRun hup, ?_⟩
    obtain ⟨hregs, hvariant⟩ := s.painterRun.regs_swathForm
    exact State.showsSections_congr hregs hvariant (State.painterRun_showsSections h1 h3)

end Sys2Proof.Machine

/-! PROOFS. What leaves the ledger alone (R152), and what becomes of one entry when it is committed, cancelled or withheld. -/

namespace Sys2Proof.Machine

theorem sub_refl (m : Nat) : sub m m := Nat.and_self m

/-! Operations that leave the ledger's part alone. -/

@[simp] theorem State.count_lg (s : State) (ev n : Nat) : (s.count ev n).lg = s.lg :=
  (State.count_touch s ev n (sub_refl _) (.refl _ _)).part .lg (by decide)

@[simp] theorem State.supNotify_lg (s : State) (before : Nat) : (s.supNotify before).lg = s.lg :=
  (State.supNotify_touch s before (sub_refl _) (.refl _ _)).part .lg (by decide)

@[simp] theorem State.raise_lg (s : State) (f : Fld) : (s.raise f).lg = s.lg := (s.setFbit f 0 true).supNotify_lg _

@[simp] theorem State.prefluxStop_lg (s : State) (i : Nat) : (s.prefluxStop i).lg = s.lg :=
  (State.prefluxStop_touch s i (sub_refl _) (.refl _ _)).part .lg (by decide)

@[simp] theorem State.deliver_lg (s : State) (i : Nat) (e : Entry) : (s.deliver i e).lg = s.lg :=
  (State.deliver_touch s i e (sub_refl _) (.refl _ _)).part .lg (by decide)

@[simp] theorem State.linkSeen_lg (s : State) (p : Nat) : (s.linkSeen p).lg = s.lg := rfl

/-! LG_EVENT, which neither counting nor a cancellation moves. -/

theorem State.count_lgEvent (s : State) (ev n : Nat) : (s.count ev n).reg 0x40C00C = s.reg 0x40C00C :=
  (State.count_touch s ev n (sub_refl _) (.refl _ _)).reg _ (by decide +kernel) (by unfold RowsHave; decide +kernel)

theorem State.cancelEntry_lgEvent (s : State) (i cause : Nat) : (s.cancelEntry i cause).reg 0x40C00C = s.reg 0x40C00C :=
  (State.cancelEntry_touch s i cause (sub_refl _) (.refl _ _)).reg _ (by decide +kernel) (by unfold RowsHave; decide +kernel)

/-! Entries. -/

theorem State.entry_congr {s t : State} (h : t.lg = s.lg) (i : Nat) : t.entry i = s.entry i := by
  rw [State.entry, h, State.entry]

@[simp] theorem State.entry_setEntry_same (s : State) (i : Nat) (e : Entry) : (s.setEntry i e).entry i = some e :=
  sget_sset_same (fun _ => none) s.lg.entries i (some e)

theorem State.entry_endEntry_same (s : State) (i : Nat) (e : Entry) :
    (s.endEntry i e).entry i = some { e with ended := s.lg.ends } :=
  (State.entry_congr (State.deliver_lg _ i _) i).trans (State.entry_setEntry_same _ i _)

/-- R155: a BOOKED entry ends CANCELLED with its cause. -/
theorem State.entry_cancelEntry_same {s : State} {i : Nat} {e : Entry} (he : s.entry i = some e) (hst : e.st = eBooked) (cause : Nat) :
    (s.cancelEntry i cause).entry i =
      some { e with st := eCancelled, cause := cause, withheld := decide (cause = 1), ended := s.lg.ends } := by
  have hends : (if cause = 0 ∨ cause = 2 ∨ cause = 7 then s else s.resweep e.outlet).lg.ends = s.lg.ends := by
    split <;> rfl
  rw [State.cancelEntry, he]
  dsimp only
  rw [if_pos hst, State.entry_endEntry_same, State.prefluxStop_lg, hends]

/-- R159: a withheld entry ends CANCELLED with cause 1. -/
theorem State.entry_withhold_same {s : State} {i : Nat} {e : Entry} (he : s.entry i = some e) (hst : e.st = eBooked) :
    ∃ n, (s.withhold i).entry i = some { e with st := eCancelled, cause := 1, withheld := true, ended := n } :=
  ⟨_, State.entry_cancelEntry_same ((State.entry_congr (by simp) i).trans he) hst 1⟩

theorem State.on_withhold (s : State) (i : Nat) : (s.withhold i).on Reg.LG_EVENT_WITHHELD = true := by
  have hreg : (s.withhold i).reg 0x40C00C = ((s.bump Reg.LG_CNT_A_WITHHELD_N 1).raise Reg.LG_EVENT_WITHHELD).reg 0x40C00C := by
    rw [State.withhold, State.cancelEntry_lgEvent, State.count_lgEvent]
  rw [State.on, State.fld_congr (f := Reg.LG_EVENT_WITHHELD) hreg]
  exact State.on_raise _ rfl (show 3 + 1 ≤ 32 by decide) (by decide)

/-- R157, R159: the entry as its commit leaves it. -/
def Entry.committed (e : Entry) (due : Time) (forced shifted : Bool) : Entry :=
  { e with st := eCommitted, due := due, forced := forced, replanned := e.replanned || decide (due ≠ e.frameDue),
           shifted := e.shifted || shifted, acked := false }

theorem State.entry_commitEntry_same (s : State) (i : Nat) (e : Entry) (due : Time) (forced shifted : Bool) :
    (s.commitEntry i e due forced shifted).entry i = some (e.committed due forced shifted) := by
  refine (State.entry_congr ?_ i).trans (s.entry_setEntry_same i _)
  unfold State.commitEntry
  dsimp only
  split
  · rw [State.count_lg, State.raise_lg]
    rfl
  · rw [State.count_lg]
    rfl

theorem State.on_commitEntry_forced (s : State) (i : Nat) (e : Entry) (due : Time) (shifted : Bool) :
    (s.commitEntry i e due true shifted).on Reg.LG_EVENT_FORCED = true := by
  rw [State.commitEntry, if_pos rfl, State.on, State.fld_congr (State.count_lgEvent _ _ _)]
  exact State.on_raise _ rfl (show 2 + 1 ≤ 32 by decide) (by decide)

end Sys2Proof.Machine

/-! PROOFS. COMMIT_PASS (R156 to R159) on a ledger of one BOOKED entry without a replan of its own. -/

namespace Sys2Proof.Machine

theorem tdiff_self (t : Time) : tdiff t t = 0 := by
  rw [tdiff, BitVec.sub_self]
  rfl

/-! The commit deadline (R159). -/

section

variable {s : State} {i : Nat} {e : Entry} {te : Time}

theorem State.deadline_of_early (due1 : Time) (h : tdiff te e.due < -(s.commitLead e.outlet : Int)) : s.deadline i e due1 te = s := by
  rw [State.deadline, if_pos h]

theorem State.deadline_of_open (due1 : Time) (h : -(s.commitLead e.outlet : Int) ≤ tdiff te e.due) (hkind : e.kind = kOpen) :
    s.deadline i e due1 te = s.withhold i := by
  rw [State.deadline, if_neg (Int.not_lt.2 h), if_pos hkind]

/-- The due time of a forced commit: not before 0.1 ms after the epoch. -/
def forcedDue (e : Entry) (te : Time) : Time := if tdiff e.due (tadd te 800000) < 0 then tadd te 800000 else e.due

theorem State.deadline_of_forced (h : -(s.commitLead e.outlet : Int) ≤ tdiff te e.due) (hkind : e.kind ≠ kOpen)
    (hmerged : ∀ due, s.merged e.outlet e.due due = false) :
    ∃ shifted, s.deadline i e e.due te = s.commitEntry i e (forcedDue e te) true shifted := by
  refine ⟨decide (tdiff e.due (tadd te 800000) < 0), ?_⟩
  rw [State.deadline, if_neg (Int.not_lt.2 h), if_neg hkind]
  dsimp only
  rw [ite_self, hmerged, if_neg (fun hc => by simp at hc)]
  rfl

/-- R165: a CLOSE merges with no OPEN where none is COMMITTED. -/
theorem State.merged_of_single (hledger : s.ledger = [(i, e)]) (hst : e.st = eBooked) (o : Nat) (unfloored due : Time) :
    s.merged o unfloored due = false := by
  have hbooked : (e.st == eCommitted) = false := by
    rw [hst]
    rfl
  have hnone : s.ledger.filter (fun p => decide (p.2.outlet = o) && (p.2.st == eCommitted && (p.2.kind == kOpen &&
      decide (0 < tdiff p.2.due unfloored)))) = [] := by
    simp only [hledger, List.filter_cons, List.filter_nil, hbooked, Bool.false_and, Bool.and_false, Bool.false_eq_true, if_false]
  rw [State.merged, hnone]
  rfl

end

/-! One event of a pass (R156). -/

section

variable {s : State} {h : PoseHist} {path : List Pred} {i : Nat} {e : Entry} (he : s.entry i = some e) (hst : e.st = eBooked)
  (hdeg : s.degraded = false)

include he hst hdeg

/-- R157: an entry that a context booked and whose class asks no confidence of it commits at its due time. -/
theorem State.commitOne_of_ctx (hctx : e.ctx.isSome = true) (hconf : s.on (Reg.CL_COMMIT_CTX_CONF (s.cls e.outlet)) = false)
    (hahead : 800000 ≤ tdiff e.due h.te) : s.commitOne h path i = s.commitEntry i e e.due false false := by
  simp [State.commitOne, he, hst, hdeg, hctx, hconf, hahead, tdiff_self]

/-- R156.1: an entry without a crossing place that no context booked has no replan, and is left to its deadline. -/
theorem State.commitOne_of_noReplan (hcross : e.cross = none) (hctx : e.ctx = none) :
    s.commitOne h path i = s.deadline i e e.due h.te := by
  simp [State.commitOne, he, hst, hdeg, hctx, State.replan, hcross]

end

/-! The pass. -/

/-- R156: the pass of an epoch has been made. -/
def State.passMade (s : State) (te : Time) : State := { s with lg := { s.lg with passMissed := false, lastPass := some te } }

section

variable {s : State} {h : PoseHist} {hs : List PoseHist} (hhist : s.po.hist = h :: hs)

include hhist

/-- R156: one pass for each epoch. -/
theorem State.commitPass_of_lastPass (hlast : s.lg.lastPass = some h.te) : s.commitPass = s := by
  simp [State.commitPass, hhist, hlast]

/-- R156: the pass over a ledger of one BOOKED entry within COMMIT_WIN. -/
theorem State.commitPass_single (h1 : s.fld Reg.RES_STATE_STATE ≠ 1) (h3 : s.fld Reg.RES_STATE_STATE ≠ 3)
    (hlast : s.lg.lastPass ≠ some h.te) {i : Nat} {e : Entry} (hledger : s.ledger = [(i, e)]) (hst : e.st = eBooked)
    (hwin : tdiff e.due h.te ≤ 8000000 * s.fld (Reg.CL_TIMING_COMMIT_WIN (s.cls e.outlet))) :
    s.commitPass = (s.tick.commitOne h (s.predict h).1 i).passMade h.te := by
  have hnow : ¬ (s.fld Reg.RES_STATE_STATE = 1 ∨ s.fld Reg.RES_STATE_STATE = 3 ∨ s.lg.lastPass = some h.te) := by
    simp [h1, h3, hlast]
  have hsel : s.ledger.filter (fun p => p.2.st == eBooked &&
      decide (tdiff p.2.due h.te ≤ 8000000 * s.fld (Reg.CL_TIMING_COMMIT_WIN (s.cls p.2.outlet)))) = [(i, e)] := by
    simp [hledger, hst, hwin]
  rw [State.commitPass, hhist]
  dsimp only
  rw [if_neg hnow, hsel, List.foldl_cons, List.foldl_nil, insDue, List.filter_cons, List.filter_cons]
  cases s.lg.passMissed && decide (-(s.commitLead e.outlet : Int) ≤ tdiff h.te e.due) <;> rfl

end

theorem exec_commitPass {s : State} (hup : s.pw.coreUp = true) : exec .commitPass s = .next s.commitPass :=
  congrArg Host.Outcome.next (if_pos hup)

end Sys2Proof.Machine

/-! PROOFS. PATH_COMMIT (R143): a write of PATH_CTRL. -/

namespace Sys2Proof.Machine

/-! A supervisor's write of a register over a port that is served. -/

theorem State.mayWrite_of_supervisor {s : State} {c a : Nat} (hsup : s.supervisor c = true) (hview : inRange 0x5A1000 0x5A1800 a = false) :
    s.mayWrite c a = true := by
  rw [State.mayWrite, if_pos hsup, hview]
  rfl

/-- A supervisor's write of a defined register goes to its block, unless the register is the halt doorbell or in a bus view. -/
theorem State.regWrite_of_supervisor {s : State} {p c a v : Nat} (hsup : s.supervisor c = true) (hal : a % 4 = 0)
    (hab : absent s.variant a = false) (hlo : 0x400000 ≤ a) (hhi : a < 0x1000000) (hrow : (rowOf a).isNone = false)
    (hbell : a ≠ 0x5B0040) (hview : inRange 0x5A1000 0x5A1800 a = false) :
    s.regWrite p c a v = ((s.blockWrite c a v).dropLatch a, 0) := by
  have hctx : ¬ a < 0x400000 := by omega
  have htile : inRange 0x1000000 0x2800000 a = false := by simp [inRange]; omega
  have himg : inRange 0x3000000 0x3180000 a = false := by simp [inRange]; omega
  simp [State.regWrite, hal, hab, hctx, htile, himg, hrow, hbell, State.mayWrite_of_supervisor hsup hview]

theorem State.Serves.hostWrite_eq {s : State} {p a v : Nat} (h : s.Serves p) (hal : a % 4 = 0) (hab : absent s.variant a = false)
    (hlo : 0x400000 ≤ a) (hhi : a < 0x1000000) (hrow : (rowOf a).isNone = false) (hbell : a ≠ 0x5B0040)
    (hview : inRange 0x5A1000 0x5A1800 a = false) :
    s.hostWrite p a v = (((s.linkSeen p).blockWrite (s.directCtx p) a v).dropLatch a).answers 0 [] := by
  have hctx : ¬ a < 0x400000 := by omega
  have hsup : (s.linkSeen p).supervisor (s.directCtx p) = true := by
    obtain ⟨-, -, hdirect⟩ := h
    rw [State.linkSeen_supervisor, hdirect]
  have hwrite := State.regWrite_of_supervisor (p := p) (v := v) hsup hal hab hlo hhi hrow hbell hview
  rw [State.hostWrite, if_pos (h.answersOn_and_served a)]
  simp only [State.portPut, State.speaker, hctx, false_and, if_false, State.linkSeen_directCtx, hwrite]
  simp [portCode]

/-! PATH_CTRL. -/

theorem absent_PATH_CTRL (v : Variant) : absent v 0x40C020 = false := by
  cases v <;> decide

theorem exec_pathCommit {s : State} {p : Nat} (v : Word) (h : s.Serves p) :
    exec (.pathCommit p v) s = .next ((((s.linkSeen p).lgWrite 0x40C020 v.toNat).dropLatch 0x40C020).answers 0 []) :=
  congrArg Host.Outcome.next (h.hostWrite_eq (by decide) (absent_PATH_CTRL _) (by decide) (by decide) (by decide +kernel) (by decide) (by decide))

section

variable {s : State} {v : Nat}

/-- A commit of more than 32 knots is refused. -/
theorem State.lgWrite_pathCtrl_of_many (h : 32 < v % 64) : s.lgWrite 0x40C020 v = s.raise Reg.LG_EVENT_CFG_ERR := by
  have hn : 32 < bitsOf v 0 6 := by simpa [bitsOf] using h
  simp [State.lgWrite, hn]

theorem State.lgWrite_pathCtrl_of_commit (h : v % 64 ≤ 32) (hcommit : bit v 6 = true) : s.lgWrite 0x40C020 v = s.pathCommit v := by
  have hn : ¬ 32 < bitsOf v 0 6 := by simpa [bitsOf] using h
  simp [State.lgWrite, hn, hcommit]

/-- PATH_FT, as its two registers hold it. -/
def State.pathFt (s : State) : Time := BitVec.ofNat 64 (s.reg64 0x40C024)

/-- R143: the distances of the first `n` knots ascend. -/
def State.knotsAscend (s : State) (n : Nat) : Prop := ∀ i, i < n → s.distAscends i (s.fld (Reg.PK_DIST_DIST i)) = true

/-- The first `n` knots: distance, curvature and speed. -/
def State.pathKnots (s : State) (n : Nat) : List (Nat × Int × Nat) :=
  (List.range n).map (fun i => (s.fld (Reg.PK_DIST_DIST i), s.sfld (Reg.PK_CURV_CURV i), s.fld (Reg.PK_SPEED_SPEED i)))

theorem State.writeCodes_lg (s : State) (a v : Nat) : (s.writeCodes a v).lg = s.lg := by
  unfold State.writeCodes
  split <;> rfl

theorem bitsOf_low_six (v : Nat) : bitsOf v 0 6 = v % 64 := by
  simp [bitsOf]

theorem State.all_distAscends_iff (s : State) {n : Nat} :
    ((List.range n).all fun i => s.distAscends i (s.fld (Reg.PK_DIST_DIST i))) = true ↔ s.knotsAscend n := by
  simp [State.knotsAscend]

/-- R143: the host path of `n` knots that starts at the pose `h`, with its progress since then. -/
def State.hostPath (s : State) (n : Nat) (h : PoseHist) : HostPath where
  ft := s.pathFt
  knots := s.pathKnots n
  start := ((comp h.pos 0, comp h.pos 1), s.headAt h)
  progress := (s.po.hist.filter (fun x => decide (0 < tdiff x.te s.pathFt))).foldl (fun a x => a + max 0 (s.speedAt x) / 20000) 0

/-- R143: a path whose PATH_FT has a pose at most 256 ms back and whose knots ascend is staged. -/
theorem State.pathCommit_lg_of_pose (hpose : (s.poseAt s.pathFt).isSome = true) (hrise : s.knotsAscend (v % 64))
    (hpast : 0 ≤ tdiff s.ft s.pathFt) (hage : tdiff s.ft s.pathFt ≤ 2048000000) :
    ∃ h, (s.pathCommit v).lg = { s.lg with hostStaged := some (s.hostPath (v % 64) h) } := by
  obtain ⟨h, hh⟩ := Option.isSome_iff_exists.1 hpose
  have hall := (State.all_distAscends_iff s).2 hrise
  unfold State.pathFt at hh hpast hage
  refine ⟨h, ?_⟩
  rw [State.pathCommit]
  dsimp only
  rw [hh]
  dsimp only
  rw [bitsOf_low_six, hall, if_neg (by simp; omega)]
  simp only [State.writeCodes_lg]
  rfl

/-- R143: a path without a pose at PATH_FT, or whose knots do not ascend, is refused. -/
theorem State.pathCommit_of_refused (h : s.poseAt s.pathFt = none ∨ ¬ s.knotsAscend (v % 64)) :
    s.pathCommit v = s.raise Reg.LG_EVENT_CFG_ERR := by
  rw [State.pathCommit]
  dsimp only
  split
  · next hp heq =>
    have hrise : ¬ s.knotsAscend (v % 64) := h.resolve_left (fun hn => by rw [State.pathFt, heq] at hn; cases hn)
    rw [if_pos]
    rw [bitsOf_low_six, State.all_distAscends_iff s]
    exact .inr (.inr hrise)
  · rfl

end

/-! LINK_UP of the port leaves alone what a commit reads. -/

theorem State.linkSeen_pathFt (s : State) (p : Nat) : (s.linkSeen p).pathFt = s.pathFt := by
  rw [State.pathFt, State.reg64, s.linkSeen_reg p (by decide), s.linkSeen_reg p (by decide)]
  rfl

theorem State.linkSeen_pathKnots (s : State) (p n : Nat) : (s.linkSeen p).pathKnots n = s.pathKnots n := by
  unfold State.pathKnots State.sfld
  refine List.map_congr_left fun i _ => ?_
  rw [s.linkSeen_fld p (by simp only [Reg.PK_DIST_DIST]; omega), s.linkSeen_fld p (by simp only [Reg.PK_CURV_CURV]; omega),
    s.linkSeen_fld p (by simp only [Reg.PK_SPEED_SPEED]; omega)]

theorem State.linkSeen_knotsAscend (s : State) (p n : Nat) : (s.linkSeen p).knotsAscend n ↔ s.knotsAscend n := by
  have hdist (i : Nat) : (s.linkSeen p).fld (Reg.PK_DIST_DIST i) = s.fld (Reg.PK_DIST_DIST i) :=
    s.linkSeen_fld p (by simp only [Reg.PK_DIST_DIST]; omega)
  simp only [State.knotsAscend, State.distAscends, hdist]

/-- A refused commit raises CFG_ERR and changes neither the ledger's part nor PATH_CTRL. -/
theorem State.raise_cfgErr_pathCtrl (s : State) (p : Nat) :
    ((s.linkSeen p).raise Reg.LG_EVENT_CFG_ERR).lg = s.lg ∧
      ((s.linkSeen p).raise Reg.LG_EVENT_CFG_ERR).reg 0x40C020 = s.reg 0x40C020 ∧
      ((s.linkSeen p).raise Reg.LG_EVENT_CFG_ERR).on Reg.LG_EVENT_CFG_ERR = true := by
  refine ⟨by simp, ?_, State.on_raise _ rfl (show 8 + 1 ≤ 32 by decide) (by decide)⟩
  exact (State.supNotify_reg _ _ (by decide)).trans (((s.linkSeen p).reg_setFld_other _ (by decide)).trans (s.linkSeen_reg p (by decide)))

/-- Settles O15: PATH_COMMIT's staging and refusals; the pass on one BOOKED entry without a replan of its own, by its deadline and kind. -/
theorem pathCommitAndCommitPass : Obligations.PathCommitAndCommitPass := by
  unfold Obligations.PathCommitAndCommitPass
  refine ⟨fun s _ p v hserves hbit => ?path, fun s hup h1 h3 hdeg h hs hhist => ?pass⟩
  case path =>
    have hcommit : bit v.toNat 6 = true := by rw [bit_eq_testBit]; exact hbit
    refine ⟨fun hn hrise hpose hpast hage => ?staged, fun hn hrefused => ?refused, fun hn => ?many⟩
    case staged =>
      obtain ⟨h, hlg⟩ := State.pathCommit_lg_of_pose (s := s.linkSeen p) (v := v.toNat)
        (by rw [s.linkSeen_pathFt]; exact hpose) ((s.linkSeen_knotsAscend p _).2 hrise)
        (by rw [s.linkSeen_pathFt]; exact hpast) (by rw [s.linkSeen_pathFt]; exact hage)
      refine ⟨_, (s.linkSeen p).hostPath (v.toNat % 64) h, exec_pathCommit v hserves, ?_⟩
      rw [State.lgWrite_pathCtrl_of_commit hn hcommit]
      exact ⟨congrArg LedgerState.hostStaged hlg, (congrArg LedgerState.host hlg :), s.linkSeen_pathFt p, s.linkSeen_pathKnots p _⟩
    case refused =>
      refine ⟨_, exec_pathCommit v hserves, ?_⟩
      rw [State.lgWrite_pathCtrl_of_commit hn hcommit, State.pathCommit_of_refused]
      · exact s.raise_cfgErr_pathCtrl p
      · rw [s.linkSeen_pathFt, s.linkSeen_knotsAscend]
        refine hrefused.imp id fun ⟨i, hi, hfalse⟩ hrise => ?_
        rw [hrise i hi] at hfalse
        cases hfalse
    case many =>
      refine ⟨_, exec_pathCommit v hserves, ?_⟩
      rw [State.lgWrite_pathCtrl_of_many hn]
      exact s.raise_cfgErr_pathCtrl p
  case pass =>
    refine ⟨fun hlast => ?again, fun i e hlast hledger he hst hwin => ?one⟩
    case again => rw [exec_commitPass hup, State.commitPass_of_lastPass hhist hlast]
    case one =>
      have hexec : exec .commitPass s = .next ((s.tick.commitOne h (s.predict h).1 i).passMade h.te) := by
        rw [exec_commitPass hup, State.commitPass_single hhist h1 h3 hlast hledger hst hwin]
      refine ⟨fun hctx hconf hahead => ?ctx, fun hcross hctx hearly => ?waits, fun hcross hctx hkind hlate => ?withheld,
        fun hcross hctx hkind hlate => ?forced⟩
      case ctx =>
        rw [State.commitOne_of_ctx (s := s.tick) he hst hdeg hctx hconf hahead] at hexec
        exact ⟨_, _, hexec, s.tick.entry_commitEntry_same i e e.due false false, rfl, rfl, rfl, rfl⟩
      case waits =>
        rw [State.commitOne_of_noReplan (s := s.tick) he hst hdeg hcross hctx, State.deadline_of_early (s := s.tick) _ hearly] at hexec
        exact ⟨_, hexec, he⟩
      case withheld =>
        rw [State.commitOne_of_noReplan (s := s.tick) he hst hdeg hcross hctx, State.deadline_of_open (s := s.tick) _ hlate hkind] at hexec
        obtain ⟨n, hentry⟩ := State.entry_withhold_same (s := s.tick) he hst
        exact ⟨_, _, hexec, hentry, rfl, rfl, rfl, s.tick.on_withhold i⟩
      case forced =>
        obtain ⟨shifted, hforced⟩ := State.deadline_of_forced (s := s.tick) (i := i) hlate hkind
          (State.merged_of_single (s := s.tick) hledger hst e.outlet e.due)
        rw [State.commitOne_of_noReplan (s := s.tick) he hst hdeg hcross hctx, hforced] at hexec
        exact ⟨_, _, hexec, s.tick.entry_commitEntry_same i e _ true shifted, rfl, rfl, rfl, s.tick.on_commitEntry_forced i e _ shifted⟩

end Sys2Proof.Machine

/-! PROOFS. OVERRIDE_WITHDRAW (R161, R352) on a ledger that lists an index twice. -/

namespace Sys2Proof.Machine

/-- A BOOKED OPEN of outlet `o`, due at 0.1 ms. -/
def bookedOpen (o : Nat) : Entry := { st := eBooked, kind := kOpen, outlet := o, frame := 1, due := 800000, frameDue := 800000 }

/-- ILK1024-F right after reset, except that context 0 is bound and has a command in its enabled ring, and that index 0 of the ledger is
listed twice: with an OPEN of outlet 0, which a lookup finds, and behind it with one of outlet 1. -/
def twiceListed : State :=
  { regs := [(0x18, 1), (0x1C, 1), (0x5B1000, 0x20)], lg := { entries := [(0, some (bookedOpen 0)), (0, some (bookedOpen 1))] } }

theorem twiceListed_mayTake : twiceListed.mayTake 0 = true := by
  decide +kernel

/-- The withdrawal of outlet 1 selects the second listing of index 0; what it ends is the entry it finds there, of outlet 0. -/
theorem overrideWithdraw_twiceListed :
    ((twiceListed.cmdOverrideWithdraw 0 0 0 1 1 0).entry 0).map (fun e => (e.outlet, e.st)) = some (0, eCancelled) := by
  decide +kernel

theorem exec_overrideWithdraw {s : State} (hup : s.pw.coreUp = true) (c tag flags first count : Nat) (since : Time) :
    exec (.overrideWithdraw c tag flags first count since) s = .next (s.cmdOverrideWithdraw c tag flags first count since) :=
  congrArg Host.Outcome.next (if_pos hup)

/-- Refutes O45: a withdrawal selects entries from the list of the ledger and ends what a lookup finds at their indices, and the clauses
on INHIBIT and OVERRIDE_WITHDRAW do not ask that the list holds an index once. In `twiceListed` the withdrawal of outlet 1 cancels the
entry of outlet 0, which the clause on OVERRIDE_WITHDRAW says stands. No run gets there, since `State.setEntry` alone writes the table
and keeps it canonical, but `memWf` does not speak of it: the two clauses want the premise `swf (fun _ => none) s.lg.entries = true`. -/
theorem not_ledgerCommands : ¬ Obligations.LedgerCommands := by
  unfold Obligations.LedgerCommands
  intro h
  obtain ⟨-, -, -, -, -, -, hwithdraw, -⟩ := h twiceListed rfl 0 0 twiceListed_mayTake (by decide)
  obtain ⟨t, ht, -, hentries⟩ := hwithdraw 1 1 0 (by decide) (by decide) rfl (by decide +kernel)
  rw [exec_overrideWithdraw (s := twiceListed) rfl, Host.Outcome.next.injEq] at ht
  subst ht
  obtain ⟨e, he, hst⟩ := hentries 0 (bookedOpen 0) rfl (.inl rfl)
  have hstands : e.st = eBooked := by
    rw [if_neg (by decide)] at hst
    exact hst
  have hcancelled := overrideWithdraw_twiceListed
  rw [he, Option.map_some, hstands, Option.some.injEq, Prod.mk.injEq] at hcancelled
  exact absurd hcancelled.2 (by decide)

end Sys2Proof.Machine

/-! PROOFS. Outlet links (chapter 8): a link's state and registers, what an intact frame does, and enumeration (R223). -/

namespace Sys2Proof.Machine

/-! A link's state beside its registers. -/

theorem State.link_congr {s t : State} (h : t.lk = s.lk) (l : Nat) : t.link l = s.link l := by
  rw [State.link, h, State.link]

@[simp] theorem State.link_setLink_same (s : State) (l : Nat) (k : LinkState) : (s.setLink l k).link l = k := by
  rw [State.link, State.setLink]
  exact sget_sset_same _ _ _ _

@[simp] theorem State.link_setFld (s : State) (f : Fld) (v l : Nat) : (s.setFld f v).link l = s.link l := rfl
@[simp] theorem State.fld_setLink (s : State) (l : Nat) (k : LinkState) (f : Fld) : (s.setLink l k).fld f = s.fld f := rfl

@[simp] theorem State.raise_lk (s : State) (f : Fld) : (s.raise f).lk = s.lk :=
  (State.supNotify_touch (s.setFbit f 0 true) s.supIrq (sub_refl _) (.refl _ _)).part .lk (by decide)

@[simp] theorem State.link_raise (s : State) (f : Fld) (l : Nat) : (s.raise f).link l = s.link l := State.link_congr (s.raise_lk f) l

/-- An event changes no field of another register below the pending bits of MSI-X. -/
theorem State.fld_raise_other (s : State) {f g : Fld} (hlow : g.addr < 0x5BB000) (h : g.addr ≠ f.addr) : (s.raise f).fld g = s.fld g :=
  State.fld_congr ((State.supNotify_reg _ _ hlow).trans (s.reg_setReg_other _ h))

/-! The registers of a position (R243), by their offset. -/

section

variable (s : State) {l p a b lo n lo' n' : Nat} (v : Nat)

theorem State.fld_setFld_nd_same (h : lo + n ≤ 32) :
    (s.setFld ⟨a + 0x800 * (l % 16) + 0x40 * (p % 16), lo, n⟩ v).fld ⟨a + 0x800 * (l % 16) + 0x40 * (p % 16), lo, n⟩ = v % 2 ^ n :=
  s.fld_setFld_same v h

theorem State.fld_setFld_nd_apart (h : lo + n ≤ 32) (hapart : b ≠ a ∨ lo' + n' ≤ lo ∨ lo + n ≤ lo') :
    (s.setFld ⟨a + 0x800 * (l % 16) + 0x40 * (p % 16), lo, n⟩ v).fld ⟨b + 0x800 * (l % 16) + 0x40 * (p % 16), lo', n'⟩ =
      s.fld ⟨b + 0x800 * (l % 16) + 0x40 * (p % 16), lo', n'⟩ := by
  refine s.fld_setFld_apart v h (hapart.imp (fun hne => ?_) id)
  dsimp only
  omega

/-- The link's own registers lie below those of its positions. -/
theorem nd_ne_lk (hb : 0x530100 ≤ b) (hb' : b < 0x530140) (ha : 0x530000 ≤ a) (ha' : a < 0x530100) :
    b + 0x800 * (l % 16) + 0x40 * (p % 16) ≠ a + 0x800 * (l % 16) := by
  omega

theorem State.fld_linkCount_other {f : Fld} (h : f.addr ≠ 0x530004 + 0x800 * (l % 16)) : (s.linkCount l).fld f = s.fld f :=
  (State.fld_setFld_other _ _ h).trans (State.fld_setFld_other _ _ h)

theorem State.fld_linkCount_nd (hb : 0x530100 ≤ b) (hb' : b < 0x530140) :
    (s.linkCount l).fld ⟨b + 0x800 * (l % 16) + 0x40 * (p % 16), lo', n'⟩ = s.fld ⟨b + 0x800 * (l % 16) + 0x40 * (p % 16), lo', n'⟩ :=
  s.fld_linkCount_other (nd_ne_lk hb hb' (by decide) (by decide))

end

@[simp] theorem State.linkCount_lk (s : State) (l : Nat) : (s.linkCount l).lk = s.lk := rfl

/-! Frames that come over a link. -/

theorem State.atNode_eq {s : State} {l p : Nat} (hup : s.pw.coreUp = true) (hl : l < s.variant.links) (hp : p < 16)
    (f : State → State) : s.atNode l p f = f s := by
  simp only [State.atNode, State.whenUp, hup, if_true, hl, hp, and_self]

/-- R214, R216, R217: an intact frame has its effect. -/
theorem State.linkRx_goodRx (s : State) (l type p : Nat) (payload : List Byte) (f : State → State) :
    s.linkRx l type p payload (goodRx type p payload) f = f s := by
  simp only [State.linkRx, goodRx, ne_eq, not_true_eq_false, if_false]

theorem exec_ident_goodRx {s : State} {l p : Nat} (hup : s.pw.coreUp = true) (hl : l < s.variant.links) (hp : p < 16) (f : IdentIn) :
    exec (.ident l p f (goodRx 0x81 p (identPayload f))) s = .next (s.ident l p f) := by
  show Host.Outcome.next (s.atNode l p fun s => s.linkRx l 0x81 p (identPayload f) (goodRx 0x81 p (identPayload f)) fun s => s.ident l p f) = _
  rw [State.atNode_eq hup hl hp, State.linkRx_goodRx]

theorem exec_enumChainEnd {s : State} {l : Nat} (hup : s.pw.coreUp = true) (hl : l < s.variant.links) :
    exec (.enumChainEnd l) s = .next (s.chainEnd l) := by
  show Host.Outcome.next (s.inRangeUp l s.variant.links fun s => s.chainEnd l) = _
  simp only [State.inRangeUp, State.whenUp, State.inRangeOf, hup, hl, if_true]

/-! ENUM_CHAIN_END (R223). -/

theorem State.chainEnd_of_assign {s : State} {l : Nat} {a : Nat × Nat} (h : (s.link l).assign = some a) :
    s.chainEnd l = (s.setLink l { s.link l with assign := none, notBefore := tadd s.ft 80000000 }).setFld (Reg.LK_STATUS_STATE l) 2 := by
  simp only [State.chainEnd, h, Option.isSome_some, if_true]

/-! IDENT (R223). -/

/-- R223: a node that the link's outlets or ND_EXPECT refuse. -/
def State.Refuses (s : State) (l p : Nat) (f : IdentIn) : Prop :=
  64 < s.linkOutlets l + f.outlets ∨
    s.fld (Reg.ND_EXPECT_PRODUCT l p) ≠ 0 ∧ s.fld (Reg.ND_EXPECT_PRODUCT l p) ≠ f.product ∨
    s.fld (Reg.ND_EXPECT_OUTLETS l p) ≠ 0 ∧ s.fld (Reg.ND_EXPECT_OUTLETS l p) ≠ f.outlets

/-- R223: OUT_BASE of position `p`, the outlets of the positions before it. -/
def State.outBase (s : State) (l p : Nat) : Nat :=
  ((List.range p).map (fun q => if s.ndState l q = nEmpty then 0 else s.fld (Reg.ND_STATE_OUT_COUNT l q))).foldl (· + ·) 0

/-- R223: another SERIAL was seen at position `p` since reset. -/
def State.serialChanged (s : State) (l p serial : Nat) : Bool :=
  (sget (fun _ => none) (s.link l).serials p).any (fun x => decide (x ≠ serial))

/-- R223: position `p` takes the node with its link outlets from `base` on. -/
def State.takeNode (s : State) (l p base : Nat) (f : IdentIn) : State :=
  ((((((((((s.setFld (Reg.ND_STATE_STATE l p) nEnumerating).setFld (Reg.ND_STATE_OUT_BASE l p) base).setFld
    (Reg.ND_STATE_OUT_COUNT l p) f.outlets).setFld (Reg.ND_STATE_MISMATCH l p) 0).setFld (Reg.ND_DELAY_D l p) 0).setFld
    (Reg.ND_ID_VENDOR l p) f.vendor).setFld (Reg.ND_ID_PRODUCT l p) f.product).setFld (Reg.ND_SERIAL_SERIAL l p) f.serial).setFld
    (Reg.ND_CAPS_QDEPTH l p) f.qdepth).setFld (Reg.ND_CAPS_WIN_MAX l p) f.winMax).setFld (Reg.ND_CAPS_CAPS l p) f.caps

/-- R223: ID_CHANGED, where the serial number did. -/
def State.markIdChanged (s : State) (l p : Nat) (changed : Bool) : State :=
  if changed then (s.setFld (Reg.ND_STATE_ID_CHANGED l p) 1).raise (Reg.LK_EVENT_ID_CHANGED l) else s

/-- R223: the node at `p` is refused, and enumeration ends at it. -/
def State.refuseNode (s : State) (l p : Nat) : State :=
  ((s.setFld (Reg.ND_STATE_MISMATCH l p) 1).raise (Reg.LK_EVENT_MISMATCH l)).setFld (Reg.LK_STATUS_STATE l) 2

/-- R223: the link once the node at `p` has identified itself and is taken. -/
def LinkState.identified (k : LinkState) (p serial : Nat) : LinkState :=
  { k with assign := none, enumerating := some (p, 0), serials := sset (fun _ => none) k.serials p (some serial),
           rtts := sset (fun _ => []) k.rtts p [] }

/-- R223: the link once the node at `p` has been refused. -/
def LinkState.refused (k : LinkState) (p : Nat) (ft : Time) : LinkState :=
  { k with assign := none, notBefore := tadd ft 80000000, ctl := k.ctl ++ [⟨0x08, some p, []⟩] }

section

variable {s : State} {l p n : Nat} {f : IdentIn}

theorem State.ident_of_refused (hassign : (s.link l).assign = some (p, n)) (hp : p < 16) (h : s.Refuses l p f) :
    s.ident l p f = ((s.setFld (Reg.LK_STATUS_RX_ALIGNED l) 1).setLink l ((s.link l).refused p s.ft)).refuseNode l p := by
  unfold State.Refuses at h
  simp only [State.ident, hassign, Option.any_some, decide_true, hp, and_self, if_true, h, LinkState.refused, State.refuseNode]

theorem State.ident_of_taken (hassign : (s.link l).assign = some (p, n)) (hp : p < 16) (h : ¬ s.Refuses l p f) :
    s.ident l p f =
      ((((s.setFld (Reg.LK_STATUS_RX_ALIGNED l) 1).setLink l ((s.link l).identified p f.serial)).takeNode l p (s.outBase l p) f).markIdChanged
        l p (s.serialChanged l p f.serial)).linkCount l := by
  unfold State.Refuses at h
  simp only [State.ident, hassign, Option.any_some, decide_true, hp, and_self, if_true, h, if_false]
  rfl

end

/-- What the position shows of the node it took. -/
theorem State.fld_takeNode (s : State) (l p base : Nat) (f : IdentIn) :
    (s.takeNode l p base f).fld (Reg.ND_STATE_STATE l p) = nEnumerating ∧
      (s.takeNode l p base f).fld (Reg.ND_STATE_OUT_COUNT l p) = f.outlets % 2 ^ 7 ∧
      (s.takeNode l p base f).fld (Reg.ND_SERIAL_SERIAL l p) = f.serial % 2 ^ 32 ∧
      (s.takeNode l p base f).fld (Reg.ND_CAPS_QDEPTH l p) = f.qdepth % 2 ^ 8 ∧
      (s.takeNode l p base f).fld (Reg.ND_ID_PRODUCT l p) = f.product % 2 ^ 16 := by
  simp (disch := decide) only [State.takeNode, Reg.ND_STATE_STATE, Reg.ND_STATE_OUT_BASE, Reg.ND_STATE_OUT_COUNT, Reg.ND_STATE_MISMATCH,
    Reg.ND_DELAY_D, Reg.ND_ID_VENDOR, Reg.ND_ID_PRODUCT, Reg.ND_SERIAL_SERIAL, Reg.ND_CAPS_QDEPTH, Reg.ND_CAPS_WIN_MAX, Reg.ND_CAPS_CAPS,
    State.fld_setFld_nd_apart, State.fld_setFld_nd_same]
  decide

section

variable (s : State) {l p b lo n : Nat} (changed : Bool)

theorem State.fld_raise_nd (i : Nat) (ev : Nat) (hb : 0x530100 ≤ b) (hb' : b < 0x530140) :
    (s.raise ⟨0x530008 + 0x800 * (l % 16), i, ev⟩).fld ⟨b + 0x800 * (l % 16) + 0x40 * (p % 16), lo, n⟩ =
      s.fld ⟨b + 0x800 * (l % 16) + 0x40 * (p % 16), lo, n⟩ :=
  s.fld_raise_other (by dsimp only; omega) (by dsimp only; omega)

theorem State.fld_markIdChanged_nd (hb : 0x530100 ≤ b) (hb' : b < 0x530140) (hapart : b ≠ 0x530100 ∨ lo + n ≤ 17 ∨ 18 ≤ lo) :
    (s.markIdChanged l p changed).fld ⟨b + 0x800 * (l % 16) + 0x40 * (p % 16), lo, n⟩ =
      s.fld ⟨b + 0x800 * (l % 16) + 0x40 * (p % 16), lo, n⟩ := by
  cases changed with
  | false => rfl
  | true => exact (State.fld_raise_nd _ _ _ hb hb').trans (s.fld_setFld_nd_apart 1 (by decide) hapart)

theorem State.link_markIdChanged (m : Nat) : (s.markIdChanged l p changed).link m = s.link m := by
  cases changed with
  | false => rfl
  | true => exact State.link_raise _ _ m

/-- A field of a position other than MISMATCH is as it was when its node is refused. -/
theorem State.fld_refuseNode_nd (hb : 0x530100 ≤ b) (hb' : b < 0x530140) (hapart : b ≠ 0x530100 ∨ lo + n ≤ 16 ∨ 17 ≤ lo) :
    (s.refuseNode l p).fld ⟨b + 0x800 * (l % 16) + 0x40 * (p % 16), lo, n⟩ = s.fld ⟨b + 0x800 * (l % 16) + 0x40 * (p % 16), lo, n⟩ :=
  calc (s.refuseNode l p).fld ⟨b + 0x800 * (l % 16) + 0x40 * (p % 16), lo, n⟩
    _ = ((s.setFld (Reg.ND_STATE_MISMATCH l p) 1).raise (Reg.LK_EVENT_MISMATCH l)).fld _ :=
        State.fld_setFld_other _ _ (nd_ne_lk hb hb' (by decide) (by decide))
    _ = (s.setFld (Reg.ND_STATE_MISMATCH l p) 1).fld _ := State.fld_raise_nd _ _ _ hb hb'
    _ = s.fld _ := s.fld_setFld_nd_apart 1 (by decide) hapart

theorem State.on_refuseNode_mismatch : (s.refuseNode l p).on (Reg.ND_STATE_MISMATCH l p) = true := by
  have hfld : (s.refuseNode l p).fld (Reg.ND_STATE_MISMATCH l p) = 1 :=
    calc (s.refuseNode l p).fld (Reg.ND_STATE_MISMATCH l p)
      _ = ((s.setFld (Reg.ND_STATE_MISMATCH l p) 1).raise (Reg.LK_EVENT_MISMATCH l)).fld (Reg.ND_STATE_MISMATCH l p) :=
          State.fld_setFld_other _ _ (nd_ne_lk (by decide) (by decide) (by decide) (by decide))
      _ = (s.setFld (Reg.ND_STATE_MISMATCH l p) 1).fld (Reg.ND_STATE_MISMATCH l p) := State.fld_raise_nd _ _ _ (by decide) (by decide)
      _ = 1 := s.fld_setFld_nd_same 1 (by decide)
  rw [State.on, hfld]
  rfl

theorem State.on_refuseNode_event : (s.refuseNode l p).on (Reg.LK_EVENT_MISMATCH l) = true := by
  have hne : (Reg.LK_EVENT_MISMATCH l).addr ≠ (Reg.LK_STATUS_STATE l).addr := by
    simp only [Reg.LK_STATUS_STATE, Reg.LK_EVENT_MISMATCH]
    omega
  rw [State.refuseNode, State.on, State.fld_setFld_other _ _ hne]
  exact State.on_raise _ rfl (show 3 + 1 ≤ 32 by decide) (by simp only [Reg.LK_EVENT_MISMATCH]; omega)

theorem State.link_refuseNode (m : Nat) : (s.refuseNode l p).link m = s.link m := State.link_raise _ _ m

/-- A field of a position other than ID_CHANGED, once its node is taken. -/
theorem State.fld_identified_nd (hb : 0x530100 ≤ b) (hb' : b < 0x530140) (hapart : b ≠ 0x530100 ∨ lo + n ≤ 17 ∨ 18 ≤ lo) :
    ((s.markIdChanged l p changed).linkCount l).fld ⟨b + 0x800 * (l % 16) + 0x40 * (p % 16), lo, n⟩ =
      s.fld ⟨b + 0x800 * (l % 16) + 0x40 * (p % 16), lo, n⟩ :=
  (State.fld_linkCount_nd _ hb hb').trans (s.fld_markIdChanged_nd changed hb hb' hapart)

theorem State.on_identified_idChanged : ((s.markIdChanged l p true).linkCount l).on (Reg.ND_STATE_ID_CHANGED l p) = true := by
  have hfld : ((s.markIdChanged l p true).linkCount l).fld (Reg.ND_STATE_ID_CHANGED l p) = 1 :=
    calc ((s.markIdChanged l p true).linkCount l).fld (Reg.ND_STATE_ID_CHANGED l p)
      _ = (s.markIdChanged l p true).fld (Reg.ND_STATE_ID_CHANGED l p) := State.fld_linkCount_nd _ (by decide) (by decide)
      _ = (s.setFld (Reg.ND_STATE_ID_CHANGED l p) 1).fld (Reg.ND_STATE_ID_CHANGED l p) := State.fld_raise_nd _ _ _ (by decide) (by decide)
      _ = 1 := s.fld_setFld_nd_same 1 (by decide)
  rw [State.on, hfld]
  rfl

theorem State.on_identified_event : ((s.markIdChanged l p true).linkCount l).on (Reg.LK_EVENT_ID_CHANGED l) = true := by
  have hne : (Reg.LK_EVENT_ID_CHANGED l).addr ≠ 0x530004 + 0x800 * (l % 16) := by
    simp only [Reg.LK_EVENT_ID_CHANGED]
    omega
  rw [State.on, State.fld_linkCount_other _ hne]
  exact State.on_raise _ rfl (show 4 + 1 ≤ 32 by decide) (by simp only [Reg.LK_EVENT_ID_CHANGED]; omega)

end

theorem State.link_takeNode (s : State) (l p base : Nat) (f : IdentIn) (m : Nat) : (s.takeNode l p base f).link m = s.link m := by
  simp only [State.takeNode, State.link_setFld]

theorem State.link_linkCount (s : State) (l m : Nat) : (s.linkCount l).link m = s.link m := State.link_congr (s.linkCount_lk l) m

/-- Settles O28: the chain's end, and IDENT taken, refused and with another serial number. -/
theorem enumeration : Obligations.Enumeration := by
  unfold Obligations.Enumeration
  refine fun s hup l hl => ⟨fun a hassign => ?chainEnd, fun p n f hp hassign hroom hproduct houtlets => ?taken,
    fun p n f hp hassign hrefuse => ?refused, fun p n f x hp hassign hroom hproduct houtlets hseen hne => ?changed⟩
  case chainEnd =>
    refine ⟨_, exec_enumChainEnd hup hl, ?_⟩
    rw [State.chainEnd_of_assign hassign, State.link_setFld, State.link_setLink_same]
    exact ⟨rfl, rfl, State.fld_setFld_same _ _ (show 0 + 2 ≤ 32 by decide)⟩
  case taken =>
    have htaken : ¬ s.Refuses l p f := by
      simp [State.Refuses, hproduct, houtlets, hroom]
    obtain ⟨hstate, hcount, hserial, hqdepth, hid⟩ := State.fld_takeNode
      ((s.setFld (Reg.LK_STATUS_RX_ALIGNED l) 1).setLink l ((s.link l).identified p f.serial)) l p (s.outBase l p) f
    have hfits : f.outlets % 2 ^ 7 = f.outlets := Nat.mod_eq_of_lt (by omega)
    refine ⟨_, exec_ident_goodRx hup hl hp f, ?_⟩
    rw [State.ident_of_taken hassign hp htaken, State.link_linkCount, State.link_markIdChanged, State.link_takeNode,
      State.link_setLink_same]
    exact ⟨(State.fld_identified_nd _ _ (by decide) (by decide) (by decide)).trans hstate, rfl, rfl,
      (State.fld_identified_nd _ _ (by decide) (by decide) (by decide)).trans (hcount.trans hfits),
      (State.fld_identified_nd _ _ (by decide) (by decide) (by decide)).trans hserial,
      (State.fld_identified_nd _ _ (by decide) (by decide) (by decide)).trans hqdepth,
      (State.fld_identified_nd _ _ (by decide) (by decide) (by decide)).trans hid⟩
  case refused =>
    refine ⟨_, exec_ident_goodRx hup hl hp f, ?_⟩
    rw [State.ident_of_refused hassign hp hrefuse, State.link_refuseNode, State.link_setLink_same]
    refine ⟨?_, State.on_refuseNode_mismatch _, State.on_refuseNode_event _, rfl, rfl⟩
    exact (State.fld_refuseNode_nd _ (by decide) (by decide) (by decide)).trans
      (s.fld_setFld_other 1 (nd_ne_lk (by decide) (by decide) (by decide) (by decide)))
  case changed =>
    have htaken : ¬ s.Refuses l p f := by
      simp [State.Refuses, hproduct, houtlets, hroom]
    have hchanged : s.serialChanged l p f.serial = true := by
      rw [State.serialChanged, hseen, Option.any_some, decide_eq_true hne]
    refine ⟨_, exec_ident_goodRx hup hl hp f, ?_⟩
    rw [State.ident_of_taken hassign hp htaken, hchanged]
    exact ⟨State.on_identified_idChanged _, State.on_identified_event _⟩

end Sys2Proof.Machine

/-! PROOFS. ND_RESET (R243) and ACK (R228) on a link whose hold registers do not show its mask (R236). -/

namespace Sys2Proof.Machine

theorem exec_ack_goodRx {s : State} {l p : Nat} (hup : s.pw.coreUp = true) (hl : l < s.variant.links) (hp : p < 16) (seq pending : Nat) :
    exec (.ack l p seq pending (goodRx 0x90 p (leBytes 2 seq ++ leBytes 1 pending))) s = .next (s.linkAck l p seq pending) := by
  show Host.Outcome.next (s.atNode l p fun s => s.linkRx l 0x90 p (leBytes 2 seq ++ leBytes 1 pending)
    (goodRx 0x90 p (leBytes 2 seq ++ leBytes 1 pending)) fun s => s.linkAck l p seq pending) = _
  rw [State.atNode_eq hup hl hp, State.linkRx_goodRx]

theorem exec_ndReset {l p : Nat} (hl : l < 16) (hp : p < 16) (q : Nat) (s : State) :
    exec (.ndReset q l p) s = .next (s.hostWrite q (0x53011C + 0x800 * l + 0x40 * p) 4) :=
  congrArg Host.Outcome.next (if_pos ⟨hl, hp⟩)

/-- An OPEN to position 0 that has not been acknowledged and is sent again. -/
def openAgain : LinkCmd := { pos := 0, type := 0x10, seq := some 0, due := 1600000, a := 1, sent := true }

/-- A PING of position 0. -/
def pingZero : OutFrame := ⟨0x04, some 0, []⟩

/-- IDENT of a node with one outlet. -/
def oneOutlet : IdentIn := ⟨1, 2, 3, 1, 16, 100, 0⟩

/-- A cycle of link 0, its symbol 1,199 under way, that still carries `openAgain` at symbol 1,210 and a PING after it. Position 0 is
ENUMERATED with one outlet, position 1 is being assigned, and the image maps outlet 0, which is inhibited, to position 1. -/
def assigning : State :=
  { ft := 767360
    regs := [(0x470000, 9), (0x470004, 0x10), (0x47003C, 0x800), (0x530100, 514)]
    lk := { links := [(0, { cmds := [openAgain], sent := [⟨0x10, some 0, openAgain.payload 0⟩, pingZero], starts := [1210, 1232],
                            valid := 1, assign := some (1, 1) })] } }

/-- The hold registers show the link's mask, no outlet being held. -/
theorem assigning_showsMask :
    assigning.fld (Reg.LK_HOLD_LO_HOLD 0) + 2 ^ 32 * assigning.fld (Reg.LK_HOLD_HI_HOLD 0) = assigning.holdMask 0 := by
  decide +kernel

/-- `assigning` once the node at position 1 has sent IDENT: outlet 0 is now a link outlet and held, and the hold registers, which IDENT
leaves alone, do not show it until something refreshes them. -/
def identifiedInhibited : State := assigning.ident 0 1 oneOutlet

theorem exec_ident_assigning :
    exec (.ident 0 1 oneOutlet (goodRx 0x81 1 (identPayload oneOutlet))) assigning = .next identifiedInhibited :=
  exec_ident_goodRx rfl (by decide) (by decide) oneOutlet

theorem identifiedInhibited_hidesMask : identifiedInhibited.holdMask 0 = 2 ∧ identifiedInhibited.fld (Reg.LK_HOLD_LO_HOLD 0) = 0 := by
  decide +kernel

theorem identifiedInhibited_serves : identifiedInhibited.Serves 0 := by
  unfold State.Serves
  decide +kernel

/-- The refresh that ND_RESET ends with sends three HOLD frames, and the PING that no longer fits waits behind the RESET. -/
theorem ndReset_identifiedInhibited :
    ((identifiedInhibited.hostWrite 0 0x53011C 4).link 0).ctl = [⟨0x08, some 0, []⟩, pingZero] := by
  decide +kernel

/-- The refresh that ACK ends with sends three HOLD frames, and the OPEN that no longer fits counts as not sent. -/
theorem linkAck_identifiedInhibited :
    ((identifiedInhibited.linkAck 0 0 0 0).link 0).cmds = [{ openAgain with acked := true, sent := false }] := by
  decide +kernel

theorem identifiedInhibited_link : (identifiedInhibited.link 0).cmds = [openAgain] ∧ (identifiedInhibited.link 0).ctl = [] := by
  decide +kernel

/-- Refutes O27: REMOVE and RESET refresh the link's hold (R236), and where the hold registers do not show its mask the HOLD frames push
out what the cycle still carried, which then waits; the clauses on what they queue do not ask for the premise that the clause on
LINK_CYCLE has, that the hold registers show the mask. In `identifiedInhibited`, which IDENT leads to from a state that has it, RESET of
position 0 queues RESET and, behind it, the PING pushed out. -/
theorem not_linkCyclesAndNodeControl : ¬ Obligations.LinkCyclesAndNodeControl := by
  unfold Obligations.LinkCyclesAndNodeControl
  intro ⟨_, hcontrol⟩
  obtain ⟨-, -, -, ⟨t, ht, -, -, hctl⟩, -⟩ := hcontrol identifiedInhibited rfl 0 0 0 identifiedInhibited_serves (by decide) (by decide)
  rw [exec_ndReset (by decide) (by decide), Host.Outcome.next.injEq] at ht
  subst ht
  rw [ndReset_identifiedInhibited, identifiedInhibited_link.2] at hctl
  exact absurd hctl (by decide)

/-- Refutes O29: an ACK refreshes the link's hold (R236), and where the hold registers do not show its mask the HOLD frames push out a
command that the cycle was to send again, which then counts as not sent; the clause on ACK does not ask that the hold registers show the
mask. In `identifiedInhibited`, which IDENT leads to from a state where they do, the ACK of the OPEN marks it acknowledged and not sent,
where the clause says that its acknowledged mark alone changes. -/
theorem not_nodeFrames : ¬ Obligations.NodeFrames := by
  unfold Obligations.NodeFrames
  intro h
  obtain ⟨-, -, -, -, hack, -⟩ := h identifiedInhibited rfl 0 0 (by decide) (by decide)
  obtain ⟨t, ht, hcmds, -⟩ := hack openAgain 0 (by decide) identifiedInhibited_link.1 rfl rfl rfl (by decide) 0 rfl (by decide) rfl
  rw [exec_ack_goodRx rfl (by decide) (by decide), Host.Outcome.next.injEq] at ht
  subst ht
  rw [linkAck_identifiedInhibited] at hcmds
  exact absurd hcmds (by decide)

end Sys2Proof.Machine
